-- ==== Sys2Proof/Word.lean ====
section
/-!
DEFINITION. Word.lean: the word types of the block and their plainest arithmetic (R5, R6, R8 of the chapter "Scope and
overview"). Whatever a test could show wrong stands in `Machine/Bytes.lean` and `Machine/Fixed.lean` instead.
-/

namespace Sys2Proof

/-- One byte of a message, a stored record or a memory (R6). -/
abbrev Byte := BitVec 8

/-- A byte string: a message, a payload, a stored image. -/
abbrev Bytes := List Byte

/-- A frame number: the count of 1 ms frames since 2020-01-01T00:00:00 GPS time (R10). The machine's counter has 64
bits; the count stays below 2^64 for half a billion years, so a natural number carries it. -/
abbrev FrameNo := Nat

end Sys2Proof
end

