-- ==== Sys2Proof/Command.lean ====
section
/-!
DEFINITION. Command.lean: the data that commands carry as operands: who sent a message (Table 1-4), the command message
itself, and the measured quantities that a physical event brings to the block. All plain data.
-/

namespace Sys2Proof

/-- The four mailbox transports of Table 1-4 (R20). -/
inductive Transport where
  | serviceEthernet
  | fabric
  | can
  | uart
  deriving DecidableEq, Repr

/-- A peer binding: the transport and the peer on it, and for a relayed peer the relaying node and the outer binding
there (R25). `peer` names the peer within its transport: address and port, node, CAN port and address. -/
structure Binding where
  transport : Transport
  peer : Nat
  relay : Nat := 0
  outer : Nat := 0
  deriving DecidableEq, Repr

/-- A command message that has passed steps 1 to 6 of Table 1-3: its binding, SESSION, SEQUENCE and plaintext payload
(R13, R16). Steps 7 to 10 are the command's own. -/
structure Req where
  binding : Binding
  session : Nat
  seq : Nat
  payload : Bytes
  deriving DecidableEq, Repr

/-- What D9 measured when a valve fault of Table 6-6 is judged (R192): the bank current above the sum of its channels'
currents (mA, for how many µs), a low-side current (mA), a bank current (mA), the bank pin while the bank is off (mV), the
switch's junction sensor tripping, or a proportional channel's current against its setpoint (mA, for how many ms). -/
inductive VdMeasure where
  | bankExcess (ma us : Nat)
  | lowSide (ma : Nat)
  | bank (ma : Nat)
  | bankPin (mv : Nat)
  | thermal
  | regulation (ma setpoint ms : Nat)
  deriving DecidableEq, Repr

/-- The pin voltages in mV that off-state diagnosis reads (R192): VLS and VBK with the bank biased, and with it neither
biased nor on. -/
structure VdDiag where
  vls : Nat
  vbk : Nat
  vlsOff : Nat
  vbkOff : Nat
  deriving DecidableEq, Repr

/-- What D9 measured over a boost (R174, R184): the coil current at its end in mA, the energy drawn from the rail in µJ, the
charge delivered less the converter's contribution in µC, and the rail's drop in mV. -/
structure VdBoost where
  ma : Nat
  energy : Nat
  charge : Nat
  drop : Nat
  deriving DecidableEq, Repr

/-- What D9 measured over a millisecond of the load switches (R213, R214): per channel the current in mA, the junction
temperature in 0.1 °C and the output voltage in mV; the dissipation of the valve stages in mW, and the aggregate VBAT
current in mA. -/
structure LsSample where
  ma : List Nat
  tj : List Int
  out : List Int
  valves : Nat
  vbatMa : Nat
  deriving DecidableEq, Repr

/-- What the navigation filter makes of an epoch's measurements (R228 to R232, R237): solution type (Table 8-3), satellites
used in all and by system, satellites tracked, position of the control point (1e-7°, mm), velocity (mm/s), roll and pitch
(0.01°), ground speed, accuracies; the baseline (whether its ambiguities are fixed, its length in mm, its azimuth in 0.01°), the
velocity heading and the inertial heading (0.01°); the Galileo and BeiDou offsets estimated in this epoch (0.1 ns); the satellites
used for time, its uncertainty (ns), the measured grid offset before cable delays (ps), the frequency uncertainty (ps/s), GPS − UTC
(s, 0 unknown); and the gyroscope and accelerometer bias estimates in the units of Table 8-4. -/
structure NavFix where
  type : Nat
  nsat : Nat
  perSys : List Nat
  tracked : Nat
  lat : Int
  lon : Int
  height : Int
  vn : Int
  ve : Int
  vd : Int
  roll : Int
  pitch : Int
  speed : Nat
  hAcc : Nat
  hdgAcc : Nat
  baseFixed : Bool
  baseLen : Nat
  baseAz : Nat
  velHdg : Nat
  insHdg : Nat
  gal : Option Int
  bds : Option Int
  timeSats : Nat
  timeUnc : Nat
  grid : Int
  freqUnc : Nat
  leap : Nat
  gyroBias : List Int
  accBias : List Int
  deriving DecidableEq, Repr

/-- A satellite the receiver could track (R224): system (0 GPS, 1 Galileo, 2 BeiDou, 3 QZSS, 4 SBAS), number, elevation in degrees,
whether the RTK solution uses it, and its receivable signals (numbers of the rows of Table 8-2; 16 and up on L5). -/
structure SatCand where
  sys : Nat
  sat : Nat
  elev : Nat
  rtk : Bool
  sigs : List Nat
  deriving DecidableEq, Repr

/-- A cell of a share summary (Table 9-1): cell, direction (1 send, 2 receive), peer, TICK, SUBSLOT, value count. -/
structure ShareCell where
  cell : Nat
  dir : Nat
  peer : Nat
  tick : Nat
  subslot : Nat
  vcount : Nat
  deriving DecidableEq, Repr

/-- A link of an LSA: port, neighbour UID, cost. -/
structure LsaLink where
  port : Nat
  uid : Nat
  cost : Nat
  deriving DecidableEq, Repr

/-- A link-state advertisement (Table 9-1); `pendingAt` is the frame of application of the pending share, 0 if none. -/
structure Lsa where
  uid : Nat
  node : Nat
  seq : Nat
  stamp : Nat
  mset : Nat
  time : Nat
  prio : Nat
  flags : Nat
  links : List LsaLink
  active : List ShareCell
  pending : List ShareCell
  pendingAt : Nat
  deriving DecidableEq, Repr

/-- A SYNC (Table 9-1): reference node, boundary frame, transmit correction and path delay in ps, renumber D and its frame. -/
structure SyncMsg where
  ref : Nat
  frame : Nat
  corr : Int
  delay : Int
  renum : Int
  renumAt : Nat
  deriving DecidableEq, Repr

/-- A cell's verdict (Table 9-5). -/
structure CellVerdict where
  src : Nat
  cell : Nat
  verdict : Nat
  reason : Nat
  deriving DecidableEq, Repr

/-- A VERDICT (Table 9-1). -/
structure VerdictMsg where
  gen : Nat
  frame : Nat
  cells : List CellVerdict
  deriving DecidableEq, Repr

/-- A Skim frame (Table 9-6). -/
structure SkimFrame where
  cls : Nat
  src : Nat
  dst : Nat
  flow : Nat
  hops : Nat
  seq : Nat
  data : Bytes
  deriving DecidableEq, Repr

/-- What a fabric port sends: the control messages of Table 9-1, Cream copies (source, destination, path, payload of Table 9-3) and
Skim frames. -/
inductive FbMsg where
  | hello (uid node port seen cost : Nat)
  | lsa (m : Lsa)
  | sync (m : SyncMsg)
  | delayReq (id : Nat)
  | delayResp (id t2 t3 : Nat)
  | verdict (m : VerdictMsg)
  | assign (uid node stamp : Nat)
  | time (msg : Bytes)
  | cream (src dst : Nat) (secondary : Bool) (p : Bytes)
  | skim (f : SkimFrame)
  deriving DecidableEq, Repr

/-- A CAN frame (R276): extended, FD, bit-rate switch, error state indicator, remote; identifier, data bytes asked for by the length
code, and data. -/
structure CanFrame where
  ext : Bool
  fd : Bool
  brs : Bool
  esi : Bool
  rtr : Bool
  id : Nat
  len : Nat
  data : Bytes
  deriving DecidableEq, Repr

/-- How a transmission failed (R282, R289, R290, R294): arbitration lost; a bit error, after won arbitration or not; no acknowledge, with
or without a dominant bit seen in the error flag; any other error. -/
inductive CanErr where
  | arbLost
  | bitError (afterArb : Bool)
  | ackError (dominant : Bool)
  | other
  deriving DecidableEq, Repr


/-- A request of one master to a Mica bank in one cycle (R297 to R303): master M0–M8, byte address, the bytes to write (none: a read of
the word), and whether a read met a single-bit error. -/
structure MicaReq where
  master : Nat
  addr : Nat
  write : Option Bytes
  single : Bool
  deriving DecidableEq, Repr

/-- The atomic operations of R302. -/
inductive MicaOp where
  | add32 | add64 | swap32 | swap64
  deriving DecidableEq, Repr

/-- The power states of a Mica bank (Table 11-3). -/
inductive BankSt where
  | on | ret | off
  deriving DecidableEq, Repr

/-- What the inputs deliver at a cut-off (R136, R141, R142, R433): the four conversions of each AIN channel in mV or µA, the DIN levels as bits,
the period in CLK_PER cycles that each FQ channel completed last since the previous cut-off (0: an edge with none before it), the last 16 samples
of each bridge converter that has completed one (else none), the newest capacitance of each moisture cell in 0.001 pF if it is new, the tap
reservoir in mV, and each Quartz channel's 250 raw samples of the window for the raw capture. -/
structure CutSample where
  ains : List (List Int)
  din : Nat
  fq : List (Option Nat)
  br : List (List Int)
  ms : List (Option Int)
  reservoir : Nat
  quartz : List (List Int)
  deriving DecidableEq, Repr

/-- What a NAND write carries (R48, R73, R311, R312). -/
inductive NandWrite where
  | profile | settings | page | other
  deriving DecidableEq, Repr

end Sys2Proof
end

