-- ==== Sys2Proof/Syntax.lean ====
section
/-!
DEFINITION. Syntax.lean: the commands of the block: one constructor for each row of the table of operations and events. A
row that is a mailbox command carries the message that reached step 7 of Table 1-3; a row that is an event of the
hardware, of time or of a peer carries the unit it concerns and what was measured or received.
-/

namespace Sys2Proof

/-- The commands the block takes, in the order of the table. -/
inductive Instr where
  /-- R16: A mailbox message arrives whole on any transport and passes the ordered checks of Table 1-3, then is
    executed, held, answered or discarded. `intact` is whether the transport's own framing is; `wire` the
    message, on the console UART the delimited frame. -/
  | messageReceive (b : Binding) (intact : Bool) (wire : Bytes)
  /-- R18: No further fragment arrives within 1000 ms, so the assembly is discarded and counted as malformed. -/
  | fragmentAssemblyTimeout
  /-- R35: A binding's 60 s lockout from SESSION_OPEN ends and the binding-locked-out condition ends. -/
  | lockoutExpiry
  /-- R51: 10 s pass without an authentication failure from a binding, ending its authentication-failure-burst
    condition. -/
  | authBurstEnd
  /-- R28: A half-open session not proved within 5000 ms is discarded. -/
  | halfOpenTimeout
  /-- R32: A held message waits MB.REORDER_HOLD, so every held message of the session is discarded. -/
  | reorderHoldExpiry
  /-- R35: No authenticated message arrives for MB.SESSION_TIMEOUT, so the session closes with SESSION_CLOSING
    reason 1. -/
  | sessionTimeout
  /-- R27: A session-0 binding silent for MB.SESSION_TIMEOUT loses its next expected sequence. -/
  | session0BindingForget
  /-- R43: A subscription's interval lets merged notifications go, and the latest state is sent. -/
  | notifyIntervalExpiry
  /-- R52: Returns the module identity, command-set version, lifecycle, node, profile, epoch and handover horizon. -/
  | ident (r : Req)
  /-- R46: Returns the 8-byte token and the frame number at acceptance. -/
  | ping (r : Req)
  /-- R239: Returns the frame and cycle at acceptance and the latest time message. -/
  | timeGet (r : Req)
  /-- R50: Returns lifecycle, mode, reset, supply and mailbox counter status. -/
  | statusGet (r : Req)
  /-- R28: Opens a half-open session with a new number and module nonce, or refuses it. -/
  | sessionOpen (r : Req)
  /-- R28: Proves a half-open session with an authenticated message at sequence 0, opening it. -/
  | sessionProve (r : Req)
  /-- R442: Answers authenticated and then closes the session, leaving its accepted commands pending. -/
  | sessionClose (r : Req)
  /-- R442: Lists every session with role, state, transport, sequence and activity. -/
  | sessionList (r : Req)
  /-- R43: Adds or replaces a subscription identified by notification code and filter. -/
  | subscribe (r : Req)
  /-- R43: Removes the named subscription or all subscriptions of a code. -/
  | unsubscribe (r : Req)
  /-- R442: Lists pending host T commands of every session and earlier epochs. -/
  | pendingList (r : Req)
  /-- R40: Withdraws a named pending T command if its frame of application is at least 2 frames ahead. -/
  | pendingCancel (r : Req)
  /-- R24: Carries an inner mailbox message to another node of the fabric. -/
  | fbRelay (r : Req)
  /-- R24: The destination's inner response arrives at the relaying module and is returned as OK with INNER. -/
  | relayInnerResponse (src : Fin 64) (flow : Nat) (inner : Bytes)
  /-- R24: No inner response arrives within 1000 ms, so the relay answers BUSY. -/
  | relayTimeout
  /-- R25: A notification for a relayed session arrives and is forwarded to the outer binding as RELAYED_NOTIFY. -/
  | relayedNotify (src : Fin 64) (flow : Nat) (inner : Bytes)
  /-- R444: Reads parameters and live-status items, each entry answered on its own. -/
  | paramGet (r : Req)
  /-- R48: Checks all entries and, if all pass, applies them together at the frame of application. -/
  | paramSet (r : Req)
  /-- R47: Returns type, unit, range, default, access and role mask of a parameter or live-status item. -/
  | paramInfo (r : Req)
  /-- R49: Lists parameter IDs of a subsystem and group in ascending order. -/
  | paramList (r : Req)
  /-- R48: The NAND write of a PARAM_SET's module settings becomes durable as one unit. -/
  | moduleSettingDurable
  /-- R67: Validates a named profile at acceptance and schedules its activation at the frame of application. -/
  | profileSelect (r : Req)
  /-- R56: Returns the active slot, activation source, modified flag, CRC and identity. -/
  | profileGetActive (r : Req)
  /-- R446: Reads bytes of a stored slot, the PS image or the working copy. -/
  | profileRead (r : Req)
  /-- R72: Writes bytes into the single profile staging buffer. -/
  | profileWrite (r : Req)
  /-- R66: Validates the staging buffer, a stored slot or the working copy and reports budget figures. -/
  | profileValidate (r : Req)
  /-- R73: Validates a source and writes it over the lower-generation copy of a slot, then verifies it. -/
  | profileSave (r : Req)
  /-- R74: Sets PF.DEFAULT to a slot or PS. -/
  | profileSetDefault (r : Req)
  /-- R62: Returns function-table or sensor-table entries from the working copy. -/
  | mdRead (r : Req)
  /-- R72: PF.STAGING_TIMEOUT passes without PROFILE_WRITE, so the staging is discarded. -/
  | profileStagingTimeout
  /-- R76: The frame part of the input record closes 20 µs before the frame and the latch copies it to each lane. -/
  | cutOff (x : CutSample)
  /-- R76: The record is released, the previous machine outputs take effect and firmware frame work runs its
    phases. The lanes that find another CRC of the record's input part. -/
  | frameStart (crc : List (Fin 3))
  /-- R98: A ramp's frame count reaches 0, so the function holds its safe state. -/
  | rampEnd (f : Fin 30)
  /-- R106: The feedback fault lasts GR.FEEDBACK_GRACE frames, so the function enters RAMP with cause feedback. -/
  | feedbackGraceExpiry (f : Fin 30)
  /-- R78: The fast samples of a tick are taken and the tick record closes. D9's coil currents, load currents, and
    rail voltage of the tick. -/
  | tickSample (coils loads : List Nat) (rail : Nat)
  /-- R76: The tick record is released and the CLE runs every fast slot. -/
  | tickStart
  /-- R83: The voter compares and commits the CLE outputs of the tick to D9. The lanes whose outputs differ from
    the majority's. -/
  | tickCommit (bad : List (Fin 3))
  /-- R97: At 975 µs firmware frame work is judged complete or overrun. The µs of frame work. -/
  | firmwareDeadline (work : Nat)
  /-- R97: The third consecutive overrun sends machine-slot functions into RAMP with cause overrun. -/
  | consecutiveOverrunLimit
  /-- R83: At frame end the voter commits machine outputs, Cream values and CAN setpoints. -/
  | frameCommit (bad : List (Fin 3))
  /-- R82: The lockstep comparator finds a lane's bus diverging and names the minority lane. -/
  | lockstepDivergence (lane : Fin 3)
  /-- R84: A lane misses its frame check-in. -/
  | laneWatchdogMiss (lane : Fin 3)
  /-- R84: An uncorrectable ECC error occurs in a lane's private memory. -/
  | laneEccError (lane : Fin 3) (double : Bool)
  /-- R86: An excluded lane's 0.5 ms L3 reset ends and its self-test starts. -/
  | laneResetDone (lane : Fin 3)
  /-- R86: A lane's 30 ms self-test ends, leading to TRANSFER, HELD_OUT or EXCLUDED_WAIT. -/
  | laneSelftestDone (lane : Fin 3) (pass : Bool)
  /-- R87: From the firmware deadline the dirty lines and CLE state are copied if they fit 256 KB. Dirty bytes, in
    bytes. -/
  | transferFinalPass (lane : Fin 3) (dirty : Nat)
  /-- R86: 16 frames pass without a fitting final pass, so the lane records a transfer failure. -/
  | transferTimeout (lane : Fin 3)
  /-- R86: 1 s in EXCLUDED_WAIT passes and the lane is reset again or held out. -/
  | excludedWaitExpiry (lane : Fin 3)
  /-- R85: Returns the Granite mode, lanes, overruns, frame work, function masks and control digest. -/
  | grStatus (r : Req)
  /-- R99: Sets function setpoints at the frame of application. -/
  | functionSet (r : Req)
  /-- R96: Enables and disables functions at the frame of application. -/
  | functionEnable (r : Req)
  /-- R86: Returns each lane's state, cause, exclusions and ECC count. -/
  | laneStatus (r : Req)
  /-- R92: Writes the inactive bank of a pair in the working copy. -/
  | coefBankWrite (r : Req)
  /-- R93: Makes the inactive banks of named pairs active at the frame of application with bumpless integrator
    setting. -/
  | coefBankSwap (r : Req)
  /-- R103: Starts capturing input records and tick digests into the capture file from a target frame. -/
  | recordCapture (r : Req)
  /-- R103: The requested number of frames has been captured and the file is complete. -/
  | recordCaptureDone
  /-- R103: Reads bytes of the capture file. -/
  | recordRead (r : Req)
  /-- R100: Returns the replay state and result. -/
  | replayStatus (r : Req)
  /-- R100: Loads capture-file bytes for replay. -/
  | replayLoad (r : Req)
  /-- R100: Restores the start image and feeds captured records, comparing tick digests. -/
  | replayRun (r : Req)
  /-- R100: Aborts a running replay. -/
  | replayAbort (r : Req)
  /-- R100: A replay run ends and Granite restarts from the working copy with every function DISABLED. Ticks that
    differed, and the first one. -/
  | replayDone (mismatches frame tick : Nat)
  /-- R113: An impact span on a listening channel ends and the impact is queued for classification. `raw` are the
    span's samples, `onset` its first sample counted since Quartz started, `closed` whether a second onset
    closed it. -/
  | impactEnd (ch : Fin 32) (onset : Nat) (raw : List Int) (closed : Bool)
  /-- R117: A queued impact's features are computed and it is classified grain, MOG or unknown. -/
  | impactClassify (ch : Fin 32)
  /-- R124: QZ.TAP_INTERVAL passes since a channel's last tap, making a tap due. -/
  | tapDue (ch : Fin 32)
  /-- R124: 60 s pass since a channel's last tap, forcing a tap without a quiet gap. -/
  | tapForced (ch : Fin 32)
  /-- R125: A qualifying tap starts its blind sequence on a channel. At `sample` of the open window, after `quiet`
    samples below the threshold. -/
  | tapStart (ch : Fin 32) (sample quiet : Nat) (spanOpen : Bool)
  /-- R125: A tap's 844 blind samples end and the channel listens again. -/
  | tapSequenceEnd (ch : Fin 32)
  /-- R126: Ring-down analysis gives the tap result and updates the calibration under R127. `y` are the 750
    capture samples. -/
  | tapAnalysisDone (ch : Fin 32) (y : List Int)
  /-- R129: A tap stays due beyond 60 s because of the rail or reservoir. -/
  | tapDeferral (ch : Fin 32)
  /-- R129: A channel has had no GOOD tap for QZ.CAL_STALE. -/
  | calibrationStale (ch : Fin 32)
  /-- R129: The 8 TEACH taps of a channel end and the references are set or reported failed. -/
  | teachDone (ch : Fin 32)
  /-- R131: QZ.DIAG_IDLE_PERIOD passes, making an idle DIAG due. -/
  | diagIdleDue (ch : Fin 32)
  /-- R131: A DIAG sequence starts on a channel when R121 permits it. -/
  | diagStart (ch : Fin 32) (sample quiet : Nat) (spanOpen : Bool)
  /-- R131: A DIAG ends with a result of Table 4-10 and the channel returns to LISTEN or FAULT. Measured voltages
    in mV. -/
  | diagSequenceEnd (ch : Fin 32) (vp vn vpn : Nat)
  /-- R132: An AS pin stays outside 0.5–4.5 V for 10 ms, putting the channel in FAULT. The pin has read `mv` for
    10 ms. -/
  | asPinRangeFault (ch : Fin 32) (mv : Int)
  /-- R137: Returns reservoir, crop and per-channel Quartz state. -/
  | qzStatus (r : Req)
  /-- R137: Returns summed counts over up to 1,000 windows for masked channels. -/
  | qzResultsRead (r : Req)
  /-- R119: Changes the active crop table at the frame of application. -/
  | qzCropSelect (r : Req)
  /-- R137: Requests a tap on masked channels, held until R124 permits it. -/
  | qzTapRequestTap (r : Req)
  /-- R129: Starts 8 reference taps per masked channel to teach the references. -/
  | qzTapRequestTeach (r : Req)
  /-- R129: Sets both references of masked channels to 0. -/
  | qzTapRequestForget (r : Req)
  /-- R131: Queues a DIAG on masked channels. -/
  | qzDiagRequest (r : Req)
  /-- R136: Returns the raw capture state. -/
  | qzRawCaptureStatus (r : Req)
  /-- R136: Arms a raw capture of up to 4 channels into the shared ring. -/
  | qzRawCaptureStart (r : Req)
  /-- R136: Stops a raw capture. -/
  | qzRawCaptureStop (r : Req)
  /-- R136: Reads bytes of the raw capture. -/
  | qzRawCaptureRead (r : Req)
  /-- R136: A raw capture's duration ends and its data is held for reading. -/
  | rawCaptureDone
  /-- R149: Every plate of a group is unable to report for 1,000 frames. -/
  | lossGroupUncovered (role : Fin 3)
  /-- R151: Gating conditions have held for CF.CAL_SETTLE and a measurement interval starts. -/
  | liveCalSettleDone
  /-- R152: An interval ends with enough tank gain and the flow gain is recomputed. -/
  | liveCalIntervalEnd
  /-- R151: 4 × CF.CAL_INTERVAL pass without the gain and the interval is rejected. -/
  | liveCalTimeout
  /-- R154: Every 10 s of cutting the transport delay is estimated by cross-correlation. -/
  | delayEstimate
  /-- R155: No estimate has been accepted for 600 s of cutting. -/
  | delayNotEstimable
  /-- R156: Once per second CF.SLOPE_LIMIT is computed and entered by internal command. -/
  | slopeLimitUpdate
  /-- R140: A moisture cell stays invalid for 60 s while cutting. -/
  | moistureCellInvalid (cell : Fin 2)
  /-- R160: After each second the yield module writes and notifies one yield record. -/
  | yieldRecordWrite
  /-- R158: A measuring window ends and the optimizer keeps or reverts its step. -/
  | optimizerWindowEnd
  /-- R158: The settle time passes while steady and the optimizer starts measuring. -/
  | optimizerSettleEnd
  /-- R158: 10 × CF.OPT_MEASURE pass in HOLD and the optimizer observes again. -/
  | optimizerHoldEnd
  /-- R159: CF.OPT_OPERATOR_HOLD after a host FUNCTION_SET ends and the function may be moved again. -/
  | optimizerOperatorHoldEnd (f : Fin 30)
  /-- R161: Returns crop-flow signals, calibration, optimizer and field state. -/
  | cfStatus (r : Req)
  /-- R160: Returns yield records of a field. -/
  | yieldRead (r : Req)
  /-- R167: Starts averaging s1 + s2 over 10 s to set CF.FLOW_ZERO. -/
  | cfCalibrateFlowZero (r : Req)
  /-- R167: Starts averaging the tank mass over 5 s to set CF.TANK_TARE. -/
  | cfCalibrateTankTare (r : Req)
  /-- R167: A FLOW_ZERO or TANK_TARE averaging period ends and the value is set by internal command. -/
  | calibrationAverageDone
  /-- R153: Starts a weighed load accumulating signal 1. -/
  | cfCalibrateLoadBegin (r : Req)
  /-- R153: Ends a weighed load and applies the weighbridge gain if within ratio. -/
  | cfCalibrateLoadEnd (r : Req)
  /-- R153: Aborts a weighed load. -/
  | cfCalibrateLoadAbort (r : Req)
  /-- R152: Resets the flow gain and clears the crop's calibrated flag. -/
  | cfCalibrateGainReset (r : Req)
  /-- R155: Sets CF.DELAY to CF.DELAY_INIT. -/
  | cfCalibrateDelayReset (r : Req)
  /-- R157: Sets the optimizer targets and weights at the frame of application. -/
  | optimizerTargets (r : Req)
  /-- R158: Turns the setting optimizer on or off for named functions. -/
  | optimizerEnable (r : Req)
  /-- R165: Opens a field and fixes its coverage grid geometry. -/
  | coveragePutFieldOpen (r : Req)
  /-- R164: Closes the open field. -/
  | coveragePutFieldClose (r : Req)
  /-- R166: Sets coverage cells of the open field from the host. -/
  | coveragePutCells (r : Req)
  /-- R166: Returns coverage bits of a row span. -/
  | coverageGetBits (r : Req)
  /-- R166: Returns the rows changed since a change stamp. -/
  | coverageGetChanges (r : Req)
  /-- R164: Returns bytes of a field's record or grid export file. -/
  | mapExport (r : Req)
  /-- R179: A pending fire reaches its boost-start instant and the channel enters BOOST, DEFER or PULL_BAT. `us`
    is the microsecond of the frame. -/
  | boostStartInstant (ch : Fin 12) (us : Fin 1000)
  /-- R180: Coil current reaches VD.I_PEAK_n and the channel enters PEAK, freeing bank boost sum. -/
  | peakReached (ch : Fin 12) (us : Fin 1000) (m : VdBoost)
  /-- R179: VD.BOOST_MAX_n or the PULL_BAT limit passes before the peak, giving PEAK or FAULT. -/
  | boostTimeout (ch : Fin 12) (us : Fin 1000) (m : VdBoost)
  /-- R186: 500 µs of DEFER pass and the channel enters PULL_BAT with a weak pull-in. -/
  | deferTimeout (ch : Fin 12) (us : Fin 1000)
  /-- R179: VD.T_PEAK_n passes and the channel enters HOLD or RELEASE. `cur` are the current samples since the
    actual start, one a microsecond, in mA. -/
  | peakEnd (ch : Fin 12) (us : Fin 1000) (cur : List Int)
  /-- R179: The release instant is reached and the channel enters RELEASE. -/
  | releaseInstant (ch : Fin 12) (us : Fin 1000)
  /-- R180: Coil current falls below 50 mA and the channel enters OBSERVE. -/
  | releaseEnd (ch : Fin 12) (us : Fin 1000) (ma : Nat)
  /-- R183: Seating is found or VD.OBSERVE_MAX_n passes; the pulse is reported and the estimates updated. `volts`
    are the coil-voltage samples of OBSERVE, one a microsecond, in mV. -/
  | observeEnd (ch : Fin 12) (us : Fin 1000) (volts : List Int)
  /-- R192: A valve wiring fault of Table 6-6 is detected and the channel or bank enters FAULT. -/
  | valveFaultDetect (ch : Fin 12) (us : Fin 1000) (m : VdMeasure)
  /-- R192: Off-state diagnosis runs on a channel whose bank has been off for 5 ms. -/
  | vdOffstateDiag (ch : Fin 12) (us : Fin 1000) (m : VdDiag)
  /-- R172: The boost rail crosses 59 V or 60 V and the converter starts or stops. -/
  | boostRailThreshold (mv : Nat)
  /-- R172: The rail exceeds 66 V for 10 µs and the converter latches off. -/
  | boostOvervoltage (mv us : Nat)
  /-- R172: The boost rail stays below 40 V for 100 ms. -/
  | boostRailLow (mv ms : Nat)
  /-- R172: The converter does not reach 55 V within 200 ms of enable. -/
  | boostConverterSlow (mv : Nat)
  /-- R193: Ends a host-driven PULSE train or CURRENT on an unowned channel. -/
  | vdCommandOff (r : Req)
  /-- R193: Fires a host pulse train on a pulse-mode channel. -/
  | vdCommandPulse (r : Req)
  /-- R193: Regulates a host current on a proportional channel. -/
  | vdCommandCurrent (r : Req)
  /-- R191: Returns rail, VBAT and per-channel valve state. -/
  | vdStatus (r : Req)
  /-- R185: Returns timing entries from a channel's pulse ring. -/
  | vdTimingRead (r : Req)
  /-- R194: Runs off-state diagnosis of an idle channel. -/
  | vdDiagChannel (r : Req)
  /-- R194: Runs off-state diagnosis of an idle bank. -/
  | vdDiagBank (r : Req)
  /-- R194: Diagnoses a faulted channel or bank and leaves FAULT if it passes. -/
  | vdDiagClear (r : Req)
  /-- R199: LS.INRUSH_n passes and the normal-service current limit applies. `us` is the microsecond of the frame. -/
  | inrushWindowEnd (ch : Fin 24) (us : Fin 1000)
  /-- R203: A load switch's current exceeds its active limit and it regulates linearly. -/
  | currentLimitEntry (ch : Fin 24) (us : Fin 1000) (ma : Nat)
  /-- R203: A load switch's current falls below its limit and it returns to ON. -/
  | currentLimitExit (ch : Fin 24) (us : Fin 1000) (ma : Nat)
  /-- R201: A start-up attempt stays in limit for LS.RETRY_ON_n, opening the switch to RETRY_WAIT or LATCHED. -/
  | startAttemptFail (ch : Fin 24) (us : Fin 1000)
  /-- R201: An attempt runs 10 ms without failing and the start-up phase ends. -/
  | startAttemptSuccess (ch : Fin 24) (us : Fin 1000)
  /-- R201: The next attempt instant is reached and a new attempt starts. `tj` is the junction temperature in 0.1
    °C. -/
  | retryWaitEnd (ch : Fin 24) (us : Fin 1000) (tj : Int)
  /-- R204: A channel's junction reaches 175 °C and it shuts down with cause thermal or coupled. -/
  | lsThermalShutdown (ch : Fin 24) (us : Fin 1000) (tj : Int)
  /-- R205: A channel in COOL reaches 155 °C and turns on afresh if its request stands. -/
  | lsJunctionCooled (ch : Fin 24) (us : Fin 1000) (tj : Int)
  /-- R207: The output rises above −1 V with current below 50 mA and any queued request executes. Output in mV,
    current in mA, clamp energy of the turn-off in mJ. -/
  | demagEnd (ch : Fin 24) (us : Fin 1000) (out : Int) (ma clamp : Nat)
  /-- R213: Every 100 ms off-state diagnosis runs on an OFF channel. Output voltages of the two steps in mV. -/
  | lsOffstateDiag (ch : Fin 24) (v1 v2 : Nat)
  /-- R213: A channel is ON for LS.OL_TIME_n below 50 mA, setting its open-load bit. Current, and for how many ms
    of counted on-time it has been so. -/
  | lsOpenLoadOnstate (ch : Fin 24) (ma ms : Nat)
  /-- R214: Every 1 ms D9 estimates output-stage dissipation and aggregate current. -/
  | dissipationEstimate (m : LsSample)
  /-- R215: While the 1 s mean exceeds 16 W, one channel is shed every 10 ms. -/
  | loadShed
  /-- R215: After 500 ms at or below 14 W, one shed channel is restored every 100 ms. -/
  | loadRestore
  /-- R215: The mean stays above 16 W for 1 s with nothing left to shed. -/
  | budgetExceeded
  /-- R217: Turns off an unowned load switch. -/
  | lsCommandOff (r : Req)
  /-- R217: Turns on an unowned switched load switch. -/
  | lsCommandOn (r : Req)
  /-- R217: Runs an unowned PWM load switch at a duty. -/
  | lsCommandPwm (r : Req)
  /-- R212: Returns aggregate and per-channel load switch state. -/
  | lsStatus (r : Req)
  /-- R218: Clears LATCHED channels whose junction is at or below 155 °C. -/
  | lsLatchClear (r : Req)
  /-- R213: Runs off-state diagnosis of a channel. -/
  | lsDiagOffState (r : Req)
  /-- R217: Turns a channel on for 20 ms in the start-up phase. -/
  | lsDiagOnTest (r : Req)
  /-- R217: The 20 ms ON_TEST ends and the channel turns off. Peak current of the test in mA. -/
  | onTestEnd (ch : Fin 24) (us : Fin 1000) (peak : Nat)
  /-- R221: Every 10 ms the antenna bias current is measured and the antenna state table applied. -/
  | antennaBiasSample (ant : Fin 2) (ma mv : Nat)
  /-- R221: 10 s in SHORT pass and a 50 ms bias trial starts. -/
  | antennaShortRetry (ant : Fin 2)
  /-- R221: The conductor is driven 1 V above the bias setting and the bias switch opens. The conductor reads `mv`
    and has been within the setting for `ms`. -/
  | antennaOvervoltage (ant : Fin 2) (mv ms : Nat)
  /-- R223: Each coherent period the code and carrier loops of a channel are updated. -/
  | trackingLoopUpdate (ch : Fin 128) (synced : Bool)
  /-- R224: Once per second tracking channels are allocated among satellites. -/
  | channelAllocation (cands : List SatCand)
  /-- R225: A search dwell completes and a detection is confirmed or the search steps on. -/
  | searchDwellDone (eng : Fin 4) (ant : Fin 2) (sys sat : Nat) (found : Bool)
  /-- R226: Every 100 ms notches are placed or released and the jamming indicator computed. Lines of the spectrum
    as offset and level in dB above the floor; AGC gain reduction in dB. -/
  | notchMonitor (path : Fin 4) (lines : List (Int × Nat)) (agc : Int)
  /-- R228: Measurements are taken at a frame multiple of 10 and the navigation filter runs. -/
  | navEpoch (fix : NavFix)
  /-- R228: The solution of epoch E is released for the record of frame E + 8 with path geometry. -/
  | navSolutionRelease
  /-- R232: The inertial sensor is sampled 30 µs before each cut-off. -/
  | imuSample (gyro acc : List Int) (yaw : Int)
  /-- R232: A failed self-test, saturated or frozen axis clears IMU_OK. -/
  | inertialFault (failed : Bool)
  /-- R232: GN.DR_MAX passes in DR and the solution becomes NONE. -/
  | deadReckoningLimit
  /-- R230: No MSM observation arrives for GN.RTK_AGE_MAX and RTK falls back. -/
  | correctionsStale
  /-- R231: A fixed baseline length differs by more than the tolerance for 10 s. -/
  | baselineMismatch
  /-- R235: The time reference's first accepted time solution starts renumbering and slewing. -/
  | timeEstablish
  /-- R235: At a boundary every frame number, pending T command and horizon shifts by D. -/
  | frameRenumber
  /-- R235: Renumbering has waited 60 s for idle functions. -/
  | renumberWaitTimeout
  /-- R236: A time pulse is placed on PPSO for second S. -/
  | ppsPulse
  /-- R237: No accepted time solution for 2 s; the correction freezes and the state becomes HOLDOVER. -/
  | timeHoldoverEntry
  /-- R239: At frame S − 600 the time message for second S is queued with holdover uncertainty. -/
  | timeMessageQueue
  /-- R240: A PPSI edge is timestamped and, in mode 2, used as a time source. -/
  | ppsiEdge (cycle : Nat)
  /-- R240: PPSI edges are absent for 3 s after being present. -/
  | ppsiMissing
  /-- R244: GN.STEER_GRACE frames pass in GRACE and steering disengages with cause fix. -/
  | steerGraceExpiry
  /-- R245: Returns GNSS, antenna, jamming, RTK and steering status. -/
  | gnStatus (r : Req)
  /-- R233: Returns the latest GNSS part and satellites per system. -/
  | gnSolutionGet (r : Req)
  /-- R230: Feeds RTCM correction bytes to the parser. -/
  | rtcmPut (r : Req)
  /-- R245: Restarts the receiver hot, warm or cold. -/
  | gnConfigRestart (r : Req)
  /-- R245: Seeds a position when the solution type is NONE. -/
  | gnConfigSeed (r : Req)
  /-- R226: Releases the notch filters. -/
  | gnConfigNotchReset (r : Req)
  /-- R221: Starts a bias trial on an antenna in SHORT. -/
  | gnConfigAntennaRetry (r : Req)
  /-- R232: Runs the inertial self-test. -/
  | gnConfigImuSelftest (r : Req)
  /-- R241: Writes the next path. -/
  | pathLoadLoadNext (r : Req)
  /-- R241: Clears the next path. -/
  | pathLoadClearNext (r : Req)
  /-- R241: Adds a lateral offset to the current path from the next solution. -/
  | pathLoadShift (r : Req)
  /-- R244: Engages or disengages steering at the frame of application. -/
  | steerEngage (r : Req)
  /-- R250: Every 10 ms each enabled port with link up sends HELLO. -/
  | helloSend (port : Fin 4)
  /-- R250: A received HELLO updates the neighbour state of the port. -/
  | hello (port : Fin 4) (sender node nport seen cost : Nat)
  /-- R250: 3 HELLO periods pass without HELLO and the neighbour is down. -/
  | neighbourTimeout (port : Fin 4)
  /-- R270: The PHY reports link down, the neighbour goes down and routes change. -/
  | linkDown (port : Fin 4)
  /-- R247: The PHY reports link up and HELLO starts on the port. -/
  | linkUp (port : Fin 4)
  /-- R270: A link's SQI stays below FB.SQI_MIN for 1 s. -/
  | linkDegraded (port : Fin 4) (sqi : Nat)
  /-- R251: The module floods its LSA on change or at least every 1,000 ms. -/
  | lsaFlood
  /-- R251: A received newer LSA is stored, forwarded, and routes, coordinator and duplicates are recomputed. -/
  | lsa (port : Fin 4) (m : Lsa)
  /-- R251: A stored LSA not refreshed for 3,000 ms is removed. -/
  | lsaExpiry
  /-- R253: A received ASSIGN stores the node number and stamp on its target. -/
  | assign (port : Fin 4) (target node stamp : Nat)
  /-- R267: A received VERDICT generation is stored for coming into force. -/
  | verdict (port : Fin 4) (m : VerdictMsg)
  /-- R267: 20 frames after computation, or at the share's frame, a verdict generation comes into force. -/
  | verdictInForce
  /-- R258: A received SYNC gives the follower its offset and drives the alignment table. `rx` is the instant of
    reception after the module's own frame boundary, in ps. -/
  | sync (port : Fin 4) (m : SyncMsg) (rx : Int)
  /-- R258: Every 10 ms SYNC is sent outward from the time reference with residence time. The boundary transmit
    correction in ps. -/
  | syncSend (port : Fin 4) (corr : Int)
  /-- R258: Every 125 ms a port sends DELAY_REQ, or answers a received one with DELAY_RESP. None to send a
    request; else the identifier received with t2 and t3. -/
  | delayReq (port : Fin 4) (reply : Option (Nat × Nat × Nat))
  /-- R258: A received DELAY_RESP completes a link delay measurement. Timestamps in ps. -/
  | delayResp (port : Fin 4) (id : Nat) (t1 t2 t3 t4 : Int)
  /-- R260: A received TIME control message carries the reference's time message to a follower. -/
  | time (port : Fin 4) (msg : Bytes)
  /-- R259: An alignment timer of Table 9-2 expires: 1 s aligned, 100 ms offset lost, 100 ms or 10 s without SYNC. -/
  | alignmentTimer
  /-- R263: At a cell's send instant both copies start on their paths. -/
  | creamSend (cell : Fin 64)
  /-- R264: A received Cream cell is forwarded or accepted into the next record. `good` is whether FCS and
    EtherType pass R248; `p` the 46 bytes of Table 9-3. -/
  | creamCellReceive (port : Fin 4) (good : Bool) (src dst : Nat) (secondary : Bool) (p : Bytes)
  /-- R269: A received Skim frame is forwarded or delivered in SEQ order with gap reporting. -/
  | skimFrameReceive (port : Fin 4) (good : Bool) (f : SkimFrame)
  /-- R259: Returns node, role, alignment, verdict and port status. -/
  | fbStatus (r : Req)
  /-- R251: Returns entries of the LSA database. -/
  | fbTopology (r : Req)
  /-- R274: Assigns or clears a node number through the coordinator. -/
  | fbNodeAssign (r : Req)
  /-- R271: Runs time-domain reflectometry on one port. -/
  | fbCableTest (r : Req)
  /-- R284: A received CAN frame is filtered to the module, the record or the host FIFO. `cycle` is the CLK_CTL
    cycle of its end; `err` the receive error count the frame adds instead of being received, 0 for a good
    frame. -/
  | canFrameReceive (port : Fin 4) (f : CanFrame) (cycle err : Nat)
  /-- R280: A transmitted frame ends and the next queued frame loads into the freed buffer. `delay` is the
    measured loop delay in ns. -/
  | canTxComplete (port : Fin 4) (buf : Fin 3) (delay : Nat)
  /-- R282: A transmission loses arbitration or ends in error and the frame stays in its buffer. -/
  | canTxError (port : Fin 4) (buf : Fin 3) (e : CanErr)
  /-- R289: 11 recessive bits end INTEGRATING, giving ERROR_ACTIVE or LISTEN_ONLY. -/
  | canIntegrationDone (port : Fin 4)
  /-- R289: 128 occurrences of 11 recessive bits return a bus-off controller to ERROR_ACTIVE. -/
  | canBusOffRecovery (port : Fin 4)
  /-- R291: 250 ms pass without a winning contender and the port is CLAIMED. -/
  | addressClaimTimeout (port : Fin 4)
  /-- R292: An ISO 11783-3 transfer times out and is aborted. -/
  | transportTimeout (port : Fin 4) (peer : Nat) (out : Bool)
  /-- R294: Transmit input or bus held dominant for more than 4 ms. `bus` tells the bus from the transmit input;
    held dominant for `us`. -/
  | canDominantTimeout (port : Fin 4) (bus : Bool) (us : Nat)
  /-- R289: Returns per-port controller, claim and counter status. -/
  | cnStatus (r : Req)
  /-- R295: Passes a controller through DISABLED keeping its queue. -/
  | cnConfigRestart (r : Req)
  /-- R291: Sends Address Claimed again from CANNOT_CLAIM. -/
  | cnConfigReclaim (r : Req)
  /-- R295: Queues a host CAN frame at the frame of application. -/
  | cnSend (r : Req)
  /-- R283: Cancels a host frame by handle, decided at the instant it reaches the controller. -/
  | cnCancel (r : Req)
  /-- R284: Sets a host acceptance filter. -/
  | cnFilterSet (r : Req)
  /-- R300: A master's access to a Mica bank is granted by priority and loss count, or refused on a powered-down
    bank. The requests to a bank in one CLK_ACQ cycle. -/
  | micaAccess (bank : Fin 64) (reqs : List MicaReq)
  /-- R302: An ADD or SWAP operation is performed indivisibly at the bank. -/
  | micaAtomic (master : Fin 9) (op : MicaOp) (addr value : Nat)
  /-- R303: A double-bit error is read and the bank owner's action of Table 11-2 is taken. `us` is the microsecond
    within the frame. -/
  | micaUncorrectable (addr : Nat) (us : Fin 1000)
  /-- R304: The scrub engine reads and corrects one 64-byte line. Words of the line with a single-bit error;
    whether a word has a double-bit error. -/
  | scrubLine (corrected : Nat) (bad : Bool) (us : Fin 1000)
  /-- R305: A bank is requested to ON, RET or OFF and changes state. -/
  | bankPowerRequest (bank : Fin 64) (next : BankSt)
  /-- R305: A bank powered up from OFF finishes zeroing and accepts access. -/
  | bankZeroDone (bank : Fin 64)
  /-- R307: 10 s FREE puts the shared ring in RET, or 600 s after capture done frees it. -/
  | sharedRingTimer
  /-- R312: A map page is appended to the open field's journal in NAND. -/
  | mapFlushPage
  /-- R314: A flushed map page is sent to, or stored by, the mirror node. None to send the next page; else a field
    ID with the page received. -/
  | mapMirrorPage (rx : Option (Nat × Bytes))
  /-- R309: One page is moved in journal compaction. `left` pages remain. -/
  | wearCompaction (left : Nat)
  /-- R135: GC and f of all channels are copied to NAND. -/
  | tapCalibrationCopy
  /-- R309: One BR, MS or AIN converter self-calibrates for 1.0 ms. Kind 0 BR, 1 MS, 2 AIN. -/
  | converterSelfCalibration (kind : Fin 3) (ch : Nat)
  /-- R309: One navigation-data page is collected. -/
  | almanacCollection (sys : Fin 5) (page : Bytes)
  /-- R326: One snapshot record is moved toward the lowest slots. -/
  | eventCompaction
  /-- R309: Every 60 s a 256-byte summary is written to the log area. -/
  | telemetry
  /-- R309: A background activity misses its guarantee. The row of Table 11-6. -/
  | churnStarvation (activity : Fin 8)
  /-- R313: Once per hour the device life estimate is read. The device's estimate in %. -/
  | nandLifeCheck (life : Nat)
  /-- R311: The device reports a write durable or failed, retried once elsewhere. -/
  | nandWriteDone (what : NandWrite) (ok : Bool)
  /-- R303: Returns ECC, scrub, promotion, Churn and bank status. -/
  | mcStatus (r : Req)
  /-- R313: Returns NAND life, ring state, partition space and record counts. -/
  | storeStatus (r : Req)
  /-- R316: Sets the power state of a permitted bank. -/
  | mcBankState (r : Req)
  /-- R312: Appends buffered map records at once and answers when durable. -/
  | mapFlush (r : Req)
  /-- R323: The supervisor writes a queued snapshot occurrence to MRAM or merges it. How many times the
    verification of the MRAM write finds a mismatch. -/
  | snapshotQueueWrite (misses : Fin 3)
  /-- R322: The D12 writer writes or merges a privileged fixed record. How many times the verification of the MRAM
    write finds a mismatch. -/
  | fixedRecordWrite (misses : Fin 3)
  /-- R333: A hold injection's duration expires and the detector evaluates real inputs again. -/
  | injectionEnd (handle : Fin 17)
  /-- R328: Reads snapshot or archived records. -/
  | evRead (r : Req)
  /-- R328: Reads privileged or archived privileged records. -/
  | evReadPriv (r : Req)
  /-- R327: Returns recorder counters. -/
  | evCount (r : Req)
  /-- R330: Archives and clears records of one area up to an RSEQ bound. -/
  | evClear (r : Req)
  /-- R332: Schedules a fault injection on a detector at the frame of application. -/
  | inject (r : Req)
  /-- R333: Ends one or all injections. -/
  | injectClear (r : Req)
  /-- R333: Lists active injections. -/
  | injectList (r : Req)
  /-- R335: Probes detectors at their injection points and reports failures. -/
  | selftest (r : Req)
  /-- R339: Every 100 ms the module sends its own motion evidence. -/
  | motionSend
  /-- R339: A received MOTION message updates the peer evidence. `data` is a delivered Skim frame's. -/
  | motion (src : Fin 64) (data : Bytes)
  /-- R340: VSUP stays below UP.VSUP_MIN, or back above it plus 200 mV, for 1 s. VSUP has read `mv` or beyond for
    `ms`. -/
  | supplyConditionChange (mv ms : Nat)
  /-- R346: Validates a manifest and claims the update regions. -/
  | updateBegin (r : Req)
  /-- R347: Delivers ciphertext bytes of a part at its next expected offset. -/
  | updateData (r : Req)
  /-- R351: Returns update state per module. -/
  | updateStatus (r : Req)
  /-- R352: Starts a Rennet vote for a commit frame. -/
  | updateActivate (r : Req)
  /-- R359: Confirms an activated update on every module. -/
  | updateConfirm (r : Req)
  /-- R346: Aborts a staging on every module and erases its slots. -/
  | updateAbortStaging (r : Req)
  /-- R357: Falls an activated update back to the old images. -/
  | updateAbortFallback (r : Req)
  /-- R356: Releases a participant stuck PREPARED when no module answers. -/
  | updateAbortResolveAbort (r : Req)
  /-- R348: A manifest fragment travels down the chain and is checked. -/
  | manifest (src : Fin 64) (data : Bytes)
  /-- R350: A received chunk is verified, stored if own, acknowledged and forwarded. -/
  | chunk (src : Fin 64) (data : Bytes)
  /-- R349: A chunk waiting in the shared ring is sent to the successor when room allows. -/
  | chunkForward
  /-- R350: A received ACK frees forwarded chunks. -/
  | ack (src : Fin 64) (data : Bytes)
  /-- R350: A received NACK resends from the first missing chunk. -/
  | nack (src : Fin 64) (data : Bytes)
  /-- R350: A module reports its parts verified to the entry module. -/
  | staged (src : Fin 64) (data : Bytes)
  /-- R352: A module receives PREPARE and votes. -/
  | prepare (src : Fin 64) (data : Bytes)
  /-- R353: The leader receives a vote and decides when all are in or one is NO. -/
  | vote (src : Fin 64) (data : Bytes)
  /-- R353: C − 200 frames arrive without all votes and the leader decides ABORT. -/
  | voteDeadline
  /-- R351: A module receives the leader's decision and acts on it. -/
  | commitAbort (src : Fin 64) (data : Bytes)
  /-- R353: The leader receives an acknowledgement of its decision. -/
  | decisionAck (src : Fin 64) (data : Bytes)
  /-- R353: Every 100 frames the leader resends its decision to unacknowledged modules. -/
  | decisionResend
  /-- R355: A RESOLVE is answered with the recorded state or decision. -/
  | resolve (src : Fin 64) (data : Bytes)
  /-- R351: A PREPARED module past its commit frame sends RESOLVE every 100 frames or 1 s. -/
  | resolveResend
  /-- R357: A received CONFIRM or FALLBACK confirms or falls back the module. -/
  | confirmFallback (src : Fin 64) (data : Bytes)
  /-- R354: At the commit frame, or once stationary again, the module writes ACTIVATED and resets at L1. -/
  | commitFrameSwap
  /-- R367: A reset source asserts and the domains in its reach are held in reset. Source by its number in the
    reset register, level 0 to 2. -/
  | resetAssert (source : Fin 9) (level : Fin 3) (us : Fin 1000)
  /-- R368: A reset source releases and the release proceeds to the next boundary. -/
  | resetRelease (source : Fin 9)
  /-- R365: The supervisor watchdog is not served within RS.WDG_PERIOD. The watchdog has not been served for `ms`. -/
  | supervisorWatchdogExpiry (ms : Nat) (us : Fin 1000)
  /-- R365: A supervisor core retires no instruction for 1 ms. -/
  | lockUp (ms : Nat) (us : Fin 1000)
  /-- R401: The clock monitor finds a clock failure and asserts CKF. -/
  | clockFailure (us : Fin 1000)
  /-- R370: The 4.0 ms fuse shadow load completes or conservative trim is taken. -/
  | optionTrimLoadDone
  /-- R401: The VCO locks and the working clocks start, or the 10 ms lock wait expires. -/
  | vcoLock (ok : Bool) (rtc : Nat)
  /-- R372: D4–D7 are released and boot continues. The eight samples of PRF2–PRF0. -/
  | d4Release (straps : List Nat)
  /-- R374: The supervisor image is loaded and checked; firmware starts and NAND mounts. Whether every chunk and
    the digest passed. -/
  | supervisorImageLoaded (ok : Bool)
  /-- R374: The lane image is loaded into all three lanes. -/
  | laneImageLoaded
  /-- R374: A pending lifecycle transition completes, the profile is selected and validated and Granite starts. -/
  | bootProfileActivation
  /-- R374: Every domain has started and a profile is active; the failed-boot count clears. Time since the
    release. -/
  | bootComplete (ms : Nat)
  /-- R374: Boot complete is not reached within 10 s and Basalt asserts L1 with source WDG. -/
  | bootTimeout (us : Fin 1000)
  /-- R375: An L2 restart completes and D5–D7 restart from the working copy. -/
  | l2RestartComplete
  /-- R376: One unit of Table 14-7 is reset and released. -/
  | l3UnitReset (unit : Fin 8) (us : Fin 1000)
  /-- R383: Requests a reset at a level or unit, taking effect 100 ms after the response. -/
  | resetRequest (r : Req)
  /-- R383: 100 ms after the response the requested reset asserts with source SWR. -/
  | resetRequestEffect (us : Fin 1000)
  /-- R377: Returns lifecycle state, lock, keys and reset map. -/
  | lifecycleGet (r : Req)
  /-- R380: Performs a lifecycle transition with its wipes and an L1 reset. -/
  | lifecycleSetTransition (r : Req)
  /-- R379: Provisions a role or manifest key. -/
  | lifecycleSetProvisionKey (r : Req)
  /-- R379: Revokes the OEM manifest key or a Folnimi key. -/
  | lifecycleSetRevokeKey (r : Req)
  /-- R382: Sets the owner lock. -/
  | ownerLockSet (r : Req)
  /-- R382: Clears the owner lock. -/
  | ownerLockClear (r : Req)
  /-- R382: Opens a 600 s window permitting service transitions. -/
  | ownerLockPermitService (r : Req)
  /-- R382: The 600 s PERMIT_SERVICE window closes. -/
  | permitServiceExpiry
  /-- R388: VSUP below 8.0 V for 1 ms defers panel and NAND work. The voltage and how long it lasted. -/
  | vsupReducedEntry (mv us : Nat)
  /-- R388: VSUP at or above 8.3 V for 10 ms resumes deferred work. -/
  | vsupNormalReturn (mv ms : Nat)
  /-- R390: VBAT below 6.0 V for 1 ms switches every power stage off. -/
  | vbatLowEntry (mv us : Nat)
  /-- R390: VBAT above 40.0 V for 50 µs shuts the power stages down. -/
  | vbatHighEntry (mv us : Nat)
  /-- R390: VBAT returns within range for 10 ms and standing load requests turn on afresh. -/
  | vbatNormalReturn (mv ms : Nat)
  /-- R390: VBAT stays below PW.VBAT_UV for 100 ms or above PW.VBAT_OV for 10 ms. -/
  | vbatUvOvDetect (mv ms : Nat)
  /-- R393: A sensor supply stays in limit for 10 ms or is shorted to VBAT and switches off. -/
  | sensorSupplyFault (sup : Fin 6) (ma mv ms : Nat)
  /-- R393: Every 1,000 ms a faulted sensor supply tries again. `limited`: the attempt again finds the supply in
    its limit. -/
  | sensorSupplyRetry (sup : Fin 6) (limited : Bool)
  /-- R402: Module temperature at PW.TEMP_WARN for 1 s, with clock gating above the higher threshold. Temperature
    in 0.1 °C, lasting `ms`. -/
  | overTemperature (t : Int) (ms : Nat)
  /-- R403: STOP_A_N or STOP_B_N asserts or deasserts and its group's gate supply follows. -/
  | stopInputChange (group : Fin 2) (asserted : Bool)
  /-- R403: The two stop inputs disagree for PW.STOP_DISCREPANCY. -/
  | stopDiscrepancy
  /-- R396: Schedules standby entry in a mode with a wake mask. -/
  | standbyEnter (r : Req)
  /-- R397: Flush work completes or 1,500 ms pass and the domains are switched off under an L1 hold. -/
  | standbyDomainsOff (us : Fin 1000)
  /-- R398: An enabled wake source releases the L1 hold and the module boots. Time in standby, and the frame that
    the RTC gives. -/
  | standbyWake (cause : Fin 9) (ms rtc : Nat)
  /-- R401: CLK_KEEP stops and Basalt counts on its internal oscillator. -/
  | clkKeepStop
  /-- R392: Returns supplies, temperature, flags, wake cause, domains and sensor supplies. -/
  | powerStatus (r : Req)
  /-- R404: Switches a serviceable domain on or to SERVICE_OFF. -/
  | domainState (r : Req)
  /-- R409: Sets segments of the panel target image. -/
  | spWrite (r : Req)
  /-- R415: Returns panel state, drive, images and ledgers. -/
  | spStatus (r : Req)
  /-- R409: A due panel update starts, after compensation when a ledger is owed. The µs within the millisecond. -/
  | panelUpdateStart (us : Fin 1000)
  /-- R411: A panel phase of length T or t ends, its volt-time is booked and the guard starts. -/
  | panelPhaseEnd (us : Fin 1000)
  /-- R407: A 1 ms guard ends and the next phase starts or the update completes. -/
  | panelGuardEnd (us : Fin 1000)
  /-- R415: A SEG or TOP pin fault of Table 16-4 is detected. -/
  | panelPinFault (pin : Fin 50) (us : Fin 1000)
  /-- R434: A current-mode overcurrent, open loop or voltage over-range persists on an AIN channel. `raw` has
    lasted `us`. -/
  | ainOutOfRange (ch : Fin 40) (raw : Int) (us : Nat)
  /-- R434: 1,000 ms after opening, the current-mode shunt is connected again. -/
  | ainShuntReclose (ch : Fin 40)
  /-- R433: 2,000 ms pass without a rising edge and the FQ raw value becomes 0 and fresh. -/
  | fqEdgeTimeout (ch : Fin 24)
  /-- R141: A bridge excitation monitor reports a fault and the bridge delivers no fresh sample. -/
  | bridgeExcitationFault (ch : Fin 6) (ma : Int) (limit : Bool) (ms : Nat)
  /-- R184: Every 100 ms the hold-duty window of each valve channel advances, activating or ending the hold-duty
    limit episode. -/
  | holdDutyWindowStep
  /-- R210: A PWM load switch begins a new period on a CLK_PER boundary with the most recently committed duty,
    opening the inrush window on the first on-edge. -/
  | lsPwmPeriodStart (ch : Fin 24) (us : Fin 1000)
  /-- R324: Basalt counts each powered second into OPSEC and copies the count to MRAM every 60 s. -/
  | opsecCount
  /-- R393: A sensor supply shorted to VBAT finds the short removed and switches its regulator on again. -/
  | sensorSupplyShortRemoved (sup : Fin 6)
  /-- R192: A valve low-side switch in thermal shutdown cools by 20 K and its thermal latch clears by hysteresis. -/
  | lowSideThermalHysteresis (ch : Fin 12) (kelvin : Nat)
  deriving DecidableEq, Repr

end Sys2Proof
end

