-- ==== Sys2Proof/Decode.lean ====
section
/-!
DEFINITION. Decode.lean: the commands that words spell. The table of operations and events gives no row any bits: a command
message is received through the mailbox, where `Machine/Serve.lean` reads it.
-/

namespace Sys2Proof

/-- The command that `nbits` bits of a word spell by the table's encodings: none, since no row of the table has one (log
entry 8). -/
def decodeTableWord (_nbits _w : Nat) : Option Instr := none

end Sys2Proof
end

