-- ==== Sys2Proof/Machine/Bytes.lean ====
section
/-!
DEFINITION. Machine/Bytes.lean: the byte order of every multi-byte field (R6), reading and writing fields of a payload,
wrapping and saturating counts, and the list helpers the rest of the block is written with.
-/

namespace Sys2Proof.Machine

/-- The low `8 w` bits of a number as `w` bytes, least significant first (R6). -/
def leN : Nat → Nat → Bytes
  | 0, _ => []
  | w + 1, n => BitVec.ofNat 8 n :: leN w (n / 256)

/-- A signed number as `w` bytes in two's complement, least significant first (R6). -/
def leI (w : Nat) (i : Int) : Bytes := leN w (i % (2 ^ (8 * w) : Nat)).toNat

/-- One byte. -/
def u8 (n : Nat) : Bytes := leN 1 n
/-- Two bytes. -/
def u16 (n : Nat) : Bytes := leN 2 n
/-- Four bytes. -/
def u32 (n : Nat) : Bytes := leN 4 n
/-- Eight bytes. -/
def u64 (n : Nat) : Bytes := leN 8 n

/-- The number that bytes spell, least significant first (R6). -/
def natOfLe : Bytes → Nat
  | [] => 0
  | b :: bs => b.toNat + 256 * natOfLe bs

/-- The signed number that `w` bytes' worth of bits spell. -/
def toSigned (w : Nat) (n : Nat) : Int :=
  if n % 2 ^ (8 * w) < 2 ^ (8 * w - 1) then (n % 2 ^ (8 * w) : Nat) else (n % 2 ^ (8 * w) : Nat) - (2 ^ (8 * w) : Nat)

/-- Bytes `off` to `off + len - 1` of a byte string. -/
def slice (b : Bytes) (off len : Nat) : Bytes := (b.drop off).take len

/-- The unsigned field of `w` bytes at `off`. -/
def rdN (b : Bytes) (off w : Nat) : Nat := natOfLe (slice b off w)

/-- The signed field of `w` bytes at `off`. -/
def rdI (b : Bytes) (off w : Nat) : Int := toSigned w (rdN b off w)

/-- `n` bytes of zero. -/
def zeros (n : Nat) : Bytes := List.replicate n 0

/-- Whether every byte of the field is 0: a reserved field as the host must send it (R7). -/
def resZero (b : Bytes) (off len : Nat) : Bool := (slice b off len).all (· == 0)

/-- Bytes padded with 0 or cut to `n` bytes. -/
def padTo (n : Nat) (b : Bytes) : Bytes := b.take n ++ zeros (n - b.length)

/-- Bytes `off …` of `b` replaced by `x`, `b` first extended with 0 where it is too short. -/
def splice (b : Bytes) (off : Nat) (x : Bytes) : Bytes :=
  padTo off b ++ x ++ b.drop (off + x.length)

/-- Bit `k` of a number. -/
def bit (n k : Nat) : Bool := n.testBit k

/-- A Boolean as the number 0 or 1. -/
def b2n (b : Bool) : Nat := if b then 1 else 0

/-- A count of `w` bits that wraps. -/
def wrapU (w n : Nat) : Nat := n % 2 ^ w

/-- A count of `w` bits that saturates at its largest value. -/
def satU (w n : Nat) : Nat := min n (2 ^ w - 1)

/-- An integer clamped to `lo … hi`. -/
def clampI (lo hi x : Int) : Int := max lo (min hi x)

/-- A signed `w`-bit saturation. -/
def satI (w : Nat) (x : Int) : Int := clampI (-(2 ^ (w - 1) : Nat)) ((2 ^ (w - 1) : Nat) - 1) x

/-- The entry `i` of a list, or the given value past its end. -/
def nth {α : Type} (l : List α) (i : Nat) (d : α) : α := l.getD i d

/-- The list with entry `i` changed; unchanged past its end. -/
def updAt {α : Type} (l : List α) (i : Nat) (f : α → α) : List α := l.modify i f

/-- The mask with bit `i` set where `p i` holds, for `i < n`. -/
def maskOf (n : Nat) (p : Nat → Bool) : Nat :=
  (List.range n).foldl (fun m i => if p i then m + 2 ^ i else m) 0

/-- The integer square root, rounded down, by binary digits from bit `k` downward. -/
def isqrtFrom : Nat → Nat → Nat → Nat
  | 0, n, r => if (r + 1) * (r + 1) ≤ n then r + 1 else r
  | k + 1, n, r =>
    if (r + 2 ^ (k + 1)) * (r + 2 ^ (k + 1)) ≤ n then isqrtFrom k n (r + 2 ^ (k + 1)) else isqrtFrom k n r

/-- The integer square root of a number below 2^128, rounded down. -/
def isqrt (n : Nat) : Nat := isqrtFrom 64 n 0

/-- Division rounded to the nearest integer, halves away from zero; 0 for a divisor of 0. -/
def divRound (a b : Int) : Int :=
  if b = 0 then 0
  else if 0 ≤ a * b then (2 * a.natAbs + b.natAbs : Nat) / (2 * b.natAbs : Nat)
  else - ((2 * a.natAbs + b.natAbs : Nat) / (2 * b.natAbs : Nat) : Int)

/-- A list cut into chunks of `n` (at least one chunk, the last possibly short), by fuel. -/
def chunksAux {α : Type} (n : Nat) : Nat → List α → List (List α)
  | 0, _ => []
  | fuel + 1, l => if l.length ≤ n then [l] else l.take n :: chunksAux n fuel (l.drop n)

/-- A list cut into chunks of `n`, the last possibly short. -/
def chunks {α : Type} (n : Nat) (l : List α) : List (List α) := chunksAux n (l.length + 1) l

/-- Insertion into a list kept in ascending order of a key; equal keys keep their order. -/
def insertBy {α : Type} (key : α → Nat) (x : α) : List α → List α
  | [] => [x]
  | y :: ys => if key x < key y then x :: y :: ys else y :: insertBy key x ys

/-- A stable sort in ascending order of a key. -/
def sortBy {α : Type} (key : α → Nat) (l : List α) : List α := l.foldl (fun acc x => insertBy key x acc) []

/-- The newest `n` entries of a list that grows at its end. -/
def lastN {α : Type} (n : Nat) (l : List α) : List α := l.drop (l.length - n)

/-- A sorted association list with the value at a key set. -/
def setKey {α : Type} (k : Nat) (v : α) : List (Nat × α) → List (Nat × α)
  | [] => [(k, v)]
  | (k', v') :: t => if k < k' then (k, v) :: (k', v') :: t else if k = k' then (k, v) :: t else (k', v') :: setKey k v t

/-- The value at a key of an association list. -/
def getKey {α : Type} (k : Nat) (l : List (Nat × α)) : Option α := (l.find? (fun p => p.1 == k)).map (·.2)

/-- A ring of at most `n` entries, the oldest dropped. -/
def pushRing {α : Type} (n : Nat) (l : List α) (x : α) : List α := lastN n (l ++ [x])

end Sys2Proof.Machine
end

