-- ==== Sys2Proof/Machine/Crypto.lean ====
section
/-!
DEFINITION. Machine/Crypto.lean: the algorithms the specification names by their standards: SHA-256 and SHA-384 (R100, R101
and the update chapter), HMAC and HKDF-SHA-256 (R29), AES-256 in GCM (R13, R29), AES key wrap and ECDSA on P-384 (the
update and lifecycle chapters). Their constants are those of the standards (DEDUCED, log entry 4).
-/

namespace Sys2Proof.Machine

/-- A word of `w` bits rotated right. -/
def rotr (w x n : Nat) : Nat := (x >>> n ||| x <<< (w - n)) % 2 ^ w

/-- The number that bytes spell, most significant first. -/
def natOfBe (b : Bytes) : Nat := b.foldl (fun a x => a * 256 + x.toNat) 0

/-- The low `8 w` bits of a number, most significant byte first. -/
def beN (w n : Nat) : Bytes := (leN w n).reverse

/-- The round constants of SHA-256. -/
def sha256K : List Nat :=
  [0x428A2F98, 0x71374491, 0xB5C0FBCF, 0xE9B5DBA5, 0x3956C25B, 0x59F111F1, 0x923F82A4, 0xAB1C5ED5,
   0xD807AA98, 0x12835B01, 0x243185BE, 0x550C7DC3, 0x72BE5D74, 0x80DEB1FE, 0x9BDC06A7, 0xC19BF174,
   0xE49B69C1, 0xEFBE4786, 0x0FC19DC6, 0x240CA1CC, 0x2DE92C6F, 0x4A7484AA, 0x5CB0A9DC, 0x76F988DA,
   0x983E5152, 0xA831C66D, 0xB00327C8, 0xBF597FC7, 0xC6E00BF3, 0xD5A79147, 0x06CA6351, 0x14292967,
   0x27B70A85, 0x2E1B2138, 0x4D2C6DFC, 0x53380D13, 0x650A7354, 0x766A0ABB, 0x81C2C92E, 0x92722C85,
   0xA2BFE8A1, 0xA81A664B, 0xC24B8B70, 0xC76C51A3, 0xD192E819, 0xD6990624, 0xF40E3585, 0x106AA070,
   0x19A4C116, 0x1E376C08, 0x2748774C, 0x34B0BCB5, 0x391C0CB3, 0x4ED8AA4A, 0x5B9CCA4F, 0x682E6FF3,
   0x748F82EE, 0x78A5636F, 0x84C87814, 0x8CC70208, 0x90BEFFFA, 0xA4506CEB, 0xBEF9A3F7, 0xC67178F2]

/-- The initial hash value of SHA-256. -/
def sha256H : List Nat :=
  [0x6A09E667, 0xBB67AE85, 0x3C6EF372, 0xA54FF53A, 0x510E527F, 0x9B05688C, 0x1F83D9AB, 0x5BE0CD19]

/-- The round constants of SHA-384, part 1. -/
def sha512KA : List Nat :=
  [0x428A2F98D728AE22, 0x7137449123EF65CD, 0xB5C0FBCFEC4D3B2F, 0xE9B5DBA58189DBBC,
   0x3956C25BF348B538, 0x59F111F1B605D019, 0x923F82A4AF194F9B, 0xAB1C5ED5DA6D8118,
   0xD807AA98A3030242, 0x12835B0145706FBE, 0x243185BE4EE4B28C, 0x550C7DC3D5FFB4E2,
   0x72BE5D74F27B896F, 0x80DEB1FE3B1696B1, 0x9BDC06A725C71235, 0xC19BF174CF692694,
   0xE49B69C19EF14AD2, 0xEFBE4786384F25E3, 0x0FC19DC68B8CD5B5, 0x240CA1CC77AC9C65,
   0x2DE92C6F592B0275, 0x4A7484AA6EA6E483, 0x5CB0A9DCBD41FBD4, 0x76F988DA831153B5,
   0x983E5152EE66DFAB, 0xA831C66D2DB43210, 0xB00327C898FB213F, 0xBF597FC7BEEF0EE4,
   0xC6E00BF33DA88FC2, 0xD5A79147930AA725, 0x06CA6351E003826F, 0x142929670A0E6E70,
   0x27B70A8546D22FFC, 0x2E1B21385C26C926, 0x4D2C6DFC5AC42AED, 0x53380D139D95B3DF,
   0x650A73548BAF63DE, 0x766A0ABB3C77B2A8, 0x81C2C92E47EDAEE6, 0x92722C851482353B]

/-- The round constants of SHA-384, part 2. -/
def sha512KB : List Nat :=
  [0xA2BFE8A14CF10364, 0xA81A664BBC423001, 0xC24B8B70D0F89791, 0xC76C51A30654BE30,
   0xD192E819D6EF5218, 0xD69906245565A910, 0xF40E35855771202A, 0x106AA07032BBD1B8,
   0x19A4C116B8D2D0C8, 0x1E376C085141AB53, 0x2748774CDF8EEB99, 0x34B0BCB5E19B48A8,
   0x391C0CB3C5C95A63, 0x4ED8AA4AE3418ACB, 0x5B9CCA4F7763E373, 0x682E6FF3D6B2B8A3,
   0x748F82EE5DEFB2FC, 0x78A5636F43172F60, 0x84C87814A1F0AB72, 0x8CC702081A6439EC,
   0x90BEFFFA23631E28, 0xA4506CEBDE82BDE9, 0xBEF9A3F7B2C67915, 0xC67178F2E372532B,
   0xCA273ECEEA26619C, 0xD186B8C721C0C207, 0xEADA7DD6CDE0EB1E, 0xF57D4F7FEE6ED178,
   0x06F067AA72176FBA, 0x0A637DC5A2C898A6, 0x113F9804BEF90DAE, 0x1B710B35131C471B,
   0x28DB77F523047D84, 0x32CAAB7B40C72493, 0x3C9EBE0A15C9BEBC, 0x431D67C49C100D4C,
   0x4CC5D4BECB3E42B6, 0x597F299CFC657E2A, 0x5FCB6FAB3AD6FAEC, 0x6C44198C4A475817]

/-- The round constants of SHA-384. -/
def sha512K : List Nat := sha512KA ++ sha512KB

/-- The initial hash value of SHA-384. -/
def sha384H : List Nat :=
  [0xCBBB9D5DC1059ED8, 0x629A292A367CD507, 0x9159015A3070DD17, 0x152FECD8F70E5939,
   0x67332667FFC00B31, 0x8EB44A8768581511, 0xDB0C2E0D64F98FA7, 0x47B5481DBEFA4FA4]

/-- The rotation amounts of one hash function: word width, the four sigma functions as triples (the third amount of the
small ones is a shift). -/
structure ShaParams where
  w : Nat
  bigA : Nat × Nat × Nat
  bigE : Nat × Nat × Nat
  small0 : Nat × Nat × Nat
  small1 : Nat × Nat × Nat

/-- SHA-256's amounts. -/
def sha256Params : ShaParams := ⟨32, (2, 13, 22), (6, 11, 25), (7, 18, 3), (17, 19, 10)⟩

/-- SHA-384's amounts. -/
def sha384Params : ShaParams := ⟨64, (28, 34, 39), (14, 18, 41), (1, 8, 7), (19, 61, 6)⟩

/-- A sigma function of three rotations. -/
def shaBig (w : Nat) (t : Nat × Nat × Nat) (x : Nat) : Nat := rotr w x t.1 ^^^ rotr w x t.2.1 ^^^ rotr w x t.2.2

/-- A sigma function of two rotations and a shift. -/
def shaSmall (w : Nat) (t : Nat × Nat × Nat) (x : Nat) : Nat := rotr w x t.1 ^^^ rotr w x t.2.1 ^^^ x >>> t.2.2

/-- One round: the working variables and the window of the next 16 schedule words. -/
def shaRound (p : ShaParams) (st : List Nat × List Nat) (k : Nat) : List Nat × List Nat :=
  let m := 2 ^ p.w
  let v := st.1
  let win := st.2
  let a := nth v 0 0
  let b := nth v 1 0
  let c := nth v 2 0
  let e := nth v 4 0
  let f := nth v 5 0
  let g := nth v 6 0
  let ch := (e &&& f) ^^^ ((m - 1 - e) &&& g)
  let maj := (a &&& b) ^^^ (a &&& c) ^^^ (b &&& c)
  let t1 := nth v 7 0 + shaBig p.w p.bigE e + ch + k + nth win 0 0
  let t2 := shaBig p.w p.bigA a + maj
  let next := (shaSmall p.w p.small1 (nth win 14 0) + nth win 9 0 + shaSmall p.w p.small0 (nth win 1 0) + nth win 0 0) % m
  ([(t1 + t2) % m, a, b, c, (nth v 3 0 + t1) % m, e, f, g], win.drop 1 ++ [next])

/-- The compression of one block. -/
def shaBlock (p : ShaParams) (ks : List Nat) (h : List Nat) (block : Bytes) : List Nat :=
  let r := (ks.foldl (shaRound p) (h, (chunks (p.w / 8) block).map natOfBe)).1
  List.zipWith (fun x y => (x + y) % 2 ^ p.w) h r

/-- A message with its padding: 0x80, zeros, the bit length, to a whole number of blocks. -/
def shaPad (p : ShaParams) (m : Bytes) : Bytes :=
  let blk := 2 * p.w
  let len := p.w / 4
  m ++ [0x80] ++ zeros ((2 * blk - 1 - len - m.length % blk) % blk) ++ beN len (8 * m.length)

/-- SHA-256 (FIPS 180-4). -/
def sha256 (m : Bytes) : Bytes :=
  ((chunks 64 (shaPad sha256Params m)).foldl (shaBlock sha256Params sha256K) sha256H).flatMap (beN 4)

/-- SHA-384 (FIPS 180-4). -/
def sha384 (m : Bytes) : Bytes :=
  (((chunks 128 (shaPad sha384Params m)).foldl (shaBlock sha384Params sha512K) sha384H).take 6).flatMap (beN 8)

/-- HMAC-SHA-256 (RFC 2104). -/
def hmac256 (key m : Bytes) : Bytes :=
  let k := padTo 64 (if key.length ≤ 64 then key else sha256 key)
  sha256 (k.map (· ^^^ 0x5C) ++ sha256 (k.map (· ^^^ 0x36) ++ m))

/-- The expansion of HKDF: `n` blocks after block `i` with value `t` (RFC 5869). -/
def hkdfExpand (prk info : Bytes) : Nat → Nat → Bytes → Bytes
  | 0, _, _ => []
  | n + 1, i, t =>
    let t' := hmac256 prk (t ++ info ++ u8 i)
    t' ++ hkdfExpand prk info n (i + 1) t'

/-- HKDF-SHA-256 with `len` output bytes (RFC 5869, R29). -/
def hkdf256 (ikm salt info : Bytes) (len : Nat) : Bytes :=
  (hkdfExpand (hmac256 salt ikm) info ((len + 31) / 32) 1 []).take len

/-- The substitution box of AES, part 1. -/
def aesSboxA : List Nat :=
  [0x63, 0x7C, 0x77, 0x7B, 0xF2, 0x6B, 0x6F, 0xC5, 0x30, 0x01, 0x67, 0x2B, 0xFE, 0xD7, 0xAB, 0x76,
   0xCA, 0x82, 0xC9, 0x7D, 0xFA, 0x59, 0x47, 0xF0, 0xAD, 0xD4, 0xA2, 0xAF, 0x9C, 0xA4, 0x72, 0xC0,
   0xB7, 0xFD, 0x93, 0x26, 0x36, 0x3F, 0xF7, 0xCC, 0x34, 0xA5, 0xE5, 0xF1, 0x71, 0xD8, 0x31, 0x15,
   0x04, 0xC7, 0x23, 0xC3, 0x18, 0x96, 0x05, 0x9A, 0x07, 0x12, 0x80, 0xE2, 0xEB, 0x27, 0xB2, 0x75]

/-- The substitution box of AES, part 2. -/
def aesSboxB : List Nat :=
  [0x09, 0x83, 0x2C, 0x1A, 0x1B, 0x6E, 0x5A, 0xA0, 0x52, 0x3B, 0xD6, 0xB3, 0x29, 0xE3, 0x2F, 0x84,
   0x53, 0xD1, 0x00, 0xED, 0x20, 0xFC, 0xB1, 0x5B, 0x6A, 0xCB, 0xBE, 0x39, 0x4A, 0x4C, 0x58, 0xCF,
   0xD0, 0xEF, 0xAA, 0xFB, 0x43, 0x4D, 0x33, 0x85, 0x45, 0xF9, 0x02, 0x7F, 0x50, 0x3C, 0x9F, 0xA8,
   0x51, 0xA3, 0x40, 0x8F, 0x92, 0x9D, 0x38, 0xF5, 0xBC, 0xB6, 0xDA, 0x21, 0x10, 0xFF, 0xF3, 0xD2]

/-- The substitution box of AES, part 3. -/
def aesSboxC : List Nat :=
  [0xCD, 0x0C, 0x13, 0xEC, 0x5F, 0x97, 0x44, 0x17, 0xC4, 0xA7, 0x7E, 0x3D, 0x64, 0x5D, 0x19, 0x73,
   0x60, 0x81, 0x4F, 0xDC, 0x22, 0x2A, 0x90, 0x88, 0x46, 0xEE, 0xB8, 0x14, 0xDE, 0x5E, 0x0B, 0xDB,
   0xE0, 0x32, 0x3A, 0x0A, 0x49, 0x06, 0x24, 0x5C, 0xC2, 0xD3, 0xAC, 0x62, 0x91, 0x95, 0xE4, 0x79,
   0xE7, 0xC8, 0x37, 0x6D, 0x8D, 0xD5, 0x4E, 0xA9, 0x6C, 0x56, 0xF4, 0xEA, 0x65, 0x7A, 0xAE, 0x08]

/-- The substitution box of AES, part 4. -/
def aesSboxD : List Nat :=
  [0xBA, 0x78, 0x25, 0x2E, 0x1C, 0xA6, 0xB4, 0xC6, 0xE8, 0xDD, 0x74, 0x1F, 0x4B, 0xBD, 0x8B, 0x8A,
   0x70, 0x3E, 0xB5, 0x66, 0x48, 0x03, 0xF6, 0x0E, 0x61, 0x35, 0x57, 0xB9, 0x86, 0xC1, 0x1D, 0x9E,
   0xE1, 0xF8, 0x98, 0x11, 0x69, 0xD9, 0x8E, 0x94, 0x9B, 0x1E, 0x87, 0xE9, 0xCE, 0x55, 0x28, 0xDF,
   0x8C, 0xA1, 0x89, 0x0D, 0xBF, 0xE6, 0x42, 0x68, 0x41, 0x99, 0x2D, 0x0F, 0xB0, 0x54, 0xBB, 0x16]

/-- The substitution box of AES. -/
def aesSbox : List Nat := aesSboxA ++ aesSboxB ++ aesSboxC ++ aesSboxD

/-- The inverse substitution box of AES, part 1. -/
def aesInvSboxA : List Nat :=
  [0x52, 0x09, 0x6A, 0xD5, 0x30, 0x36, 0xA5, 0x38, 0xBF, 0x40, 0xA3, 0x9E, 0x81, 0xF3, 0xD7, 0xFB,
   0x7C, 0xE3, 0x39, 0x82, 0x9B, 0x2F, 0xFF, 0x87, 0x34, 0x8E, 0x43, 0x44, 0xC4, 0xDE, 0xE9, 0xCB,
   0x54, 0x7B, 0x94, 0x32, 0xA6, 0xC2, 0x23, 0x3D, 0xEE, 0x4C, 0x95, 0x0B, 0x42, 0xFA, 0xC3, 0x4E,
   0x08, 0x2E, 0xA1, 0x66, 0x28, 0xD9, 0x24, 0xB2, 0x76, 0x5B, 0xA2, 0x49, 0x6D, 0x8B, 0xD1, 0x25]

/-- The inverse substitution box of AES, part 2. -/
def aesInvSboxB : List Nat :=
  [0x72, 0xF8, 0xF6, 0x64, 0x86, 0x68, 0x98, 0x16, 0xD4, 0xA4, 0x5C, 0xCC, 0x5D, 0x65, 0xB6, 0x92,
   0x6C, 0x70, 0x48, 0x50, 0xFD, 0xED, 0xB9, 0xDA, 0x5E, 0x15, 0x46, 0x57, 0xA7, 0x8D, 0x9D, 0x84,
   0x90, 0xD8, 0xAB, 0x00, 0x8C, 0xBC, 0xD3, 0x0A, 0xF7, 0xE4, 0x58, 0x05, 0xB8, 0xB3, 0x45, 0x06,
   0xD0, 0x2C, 0x1E, 0x8F, 0xCA, 0x3F, 0x0F, 0x02, 0xC1, 0xAF, 0xBD, 0x03, 0x01, 0x13, 0x8A, 0x6B]

/-- The inverse substitution box of AES, part 3. -/
def aesInvSboxC : List Nat :=
  [0x3A, 0x91, 0x11, 0x41, 0x4F, 0x67, 0xDC, 0xEA, 0x97, 0xF2, 0xCF, 0xCE, 0xF0, 0xB4, 0xE6, 0x73,
   0x96, 0xAC, 0x74, 0x22, 0xE7, 0xAD, 0x35, 0x85, 0xE2, 0xF9, 0x37, 0xE8, 0x1C, 0x75, 0xDF, 0x6E,
   0x47, 0xF1, 0x1A, 0x71, 0x1D, 0x29, 0xC5, 0x89, 0x6F, 0xB7, 0x62, 0x0E, 0xAA, 0x18, 0xBE, 0x1B,
   0xFC, 0x56, 0x3E, 0x4B, 0xC6, 0xD2, 0x79, 0x20, 0x9A, 0xDB, 0xC0, 0xFE, 0x78, 0xCD, 0x5A, 0xF4]

/-- The inverse substitution box of AES, part 4. -/
def aesInvSboxD : List Nat :=
  [0x1F, 0xDD, 0xA8, 0x33, 0x88, 0x07, 0xC7, 0x31, 0xB1, 0x12, 0x10, 0x59, 0x27, 0x80, 0xEC, 0x5F,
   0x60, 0x51, 0x7F, 0xA9, 0x19, 0xB5, 0x4A, 0x0D, 0x2D, 0xE5, 0x7A, 0x9F, 0x93, 0xC9, 0x9C, 0xEF,
   0xA0, 0xE0, 0x3B, 0x4D, 0xAE, 0x2A, 0xF5, 0xB0, 0xC8, 0xEB, 0xBB, 0x3C, 0x83, 0x53, 0x99, 0x61,
   0x17, 0x2B, 0x04, 0x7E, 0xBA, 0x77, 0xD6, 0x26, 0xE1, 0x69, 0x14, 0x63, 0x55, 0x21, 0x0C, 0x7D]

/-- The inverse substitution box of AES. -/
def aesInvSbox : List Nat := aesInvSboxA ++ aesInvSboxB ++ aesInvSboxC ++ aesInvSboxD

/-- Multiplication by x in the field of AES. -/
def xtime (a : Nat) : Nat := if a < 128 then 2 * a else (2 * a) ^^^ 0x11B

/-- Multiplication in the field of AES, by fuel over the bits of the second factor. -/
def gmul : Nat → Nat → Nat → Nat
  | 0, _, _ => 0
  | n + 1, a, b => (if b % 2 = 1 then a else 0) ^^^ gmul n (xtime a) (b / 2)

/-- The word list of the AES-256 key schedule after its first 8 words, by fuel: `ws` in reverse order. -/
def aesExpand : Nat → Nat → Nat → List (List Nat) → List (List Nat)
  | 0, _, _, ws => ws
  | n + 1, i, rcon, ws =>
    let prev := nth ws 0 []
    let sub := prev.map (fun x => nth aesSbox x 0)
    let rot := (prev.drop 1 ++ prev.take 1).map (fun x => nth aesSbox x 0)
    let t := if i % 8 = 0 then List.zipWith (· ^^^ ·) rot [rcon, 0, 0, 0] else if i % 8 = 4 then sub else prev
    aesExpand n (i + 1) (if i % 8 = 0 then xtime rcon else rcon) (List.zipWith (· ^^^ ·) (nth ws 7 []) t :: ws)

/-- The 15 round keys of AES-256, 16 bytes each. -/
def aesKeys (key : Bytes) : List (List Nat) :=
  (chunks 4 (aesExpand 52 8 1 (chunks 4 (key.map BitVec.toNat)).reverse).reverse).map List.flatten

/-- ShiftRows; its inverse for `k = 3`. -/
def aesShift (k : Nat) (s : List Nat) : List Nat := (List.range 16).map (fun i => nth s ((i + 4 * k * (i % 4)) % 16) 0)

/-- MixColumns with a circulant row of coefficients. -/
def aesMix (co : List Nat) (s : List Nat) : List Nat :=
  (chunks 4 s).flatMap (fun col => (List.range 4).map (fun r =>
    (List.range 4).foldl (fun a j => a ^^^ gmul 8 (nth col j 0) (nth co ((j + 4 - r) % 4) 0)) 0))

/-- One full round of encryption. -/
def aesRound (s key : List Nat) : List Nat :=
  List.zipWith (· ^^^ ·) (aesMix [2, 3, 1, 1] (aesShift 1 (s.map (fun x => nth aesSbox x 0)))) key

/-- AES-256 encryption of one block under expanded keys (FIPS 197). -/
def aesEncKeys (keys : List (List Nat)) (block : List Nat) : List Nat :=
  let s := (keys.drop 1 |>.take 13).foldl aesRound (List.zipWith (· ^^^ ·) block (nth keys 0 []))
  List.zipWith (· ^^^ ·) (aesShift 1 (s.map (fun x => nth aesSbox x 0))) (nth keys 14 [])

/-- AES-256 decryption of one block under expanded keys (FIPS 197). -/
def aesDecKeys (keys : List (List Nat)) (block : List Nat) : List Nat :=
  let undo := fun (s : List Nat) => (aesShift 3 s).map (fun x => nth aesInvSbox x 0)
  let s := (keys.drop 1 |>.take 13).reverse.foldl
    (fun s k => aesMix [14, 11, 13, 9] (List.zipWith (· ^^^ ·) (undo s) k)) (List.zipWith (· ^^^ ·) block (nth keys 14 []))
  List.zipWith (· ^^^ ·) (undo s) (nth keys 0 [])

/-- The byte values of a big-endian 16-byte block. -/
def block16 (n : Nat) : List Nat := (beN 16 n).map BitVec.toNat

/-- The number of a block of byte values, most significant first. -/
def ofBlock (b : List Nat) : Nat := b.foldl (fun a x => a * 256 + x) 0

/-- Multiplication in the field of GHASH, by fuel over the bits of `x` from the most significant (SP 800-38D). -/
def ghashMul : Nat → Nat → Nat → Nat → Nat
  | 0, _, _, z => z
  | n + 1, x, v, z =>
    ghashMul n x (if v % 2 = 1 then v / 2 ^^^ 0xE1000000000000000000000000000000 else v / 2)
      (if x.testBit n then z ^^^ v else z)

/-- GHASH over data and ciphertext with their lengths. -/
def ghash (h : Nat) (aad ct : Bytes) : Nat :=
  let pad := fun (b : Bytes) => b ++ zeros ((16 - b.length % 16) % 16)
  let data := pad aad ++ pad ct ++ beN 8 (8 * aad.length) ++ beN 8 (8 * ct.length)
  (chunks 16 data).foldl (fun y b => ghashMul 128 (y ^^^ natOfBe b) h 0) 0

/-- The key stream of counter mode from counter block `iv ‖ ctr`, for data of a length. -/
def gcmStream (keys : List (List Nat)) (iv : Bytes) (len : Nat) : Bytes :=
  (((List.range ((len + 15) / 16)).flatMap (fun i =>
    (aesEncKeys keys (block16 (natOfBe iv * 2 ^ 32 + (2 + i) % 2 ^ 32))).map (BitVec.ofNat 8)))).take len

/-- AES-256-GCM of a text without the tag: encryption and decryption are one function. -/
def gcmCrypt (key iv text : Bytes) : Bytes := List.zipWith (· ^^^ ·) text (gcmStream (aesKeys key) iv text.length)

/-- The 16-byte tag of AES-256-GCM over additional data and ciphertext (SP 800-38D, 12-byte IV). -/
def gcmTag (key iv aad ct : Bytes) : Bytes :=
  let keys := aesKeys key
  let h := ofBlock (aesEncKeys keys (block16 0))
  beN 16 (ghash h aad ct ^^^ ofBlock (aesEncKeys keys (block16 (natOfBe iv * 2 ^ 32 + 1))))

/-- One pass of AES key unwrap over the 64-bit registers, from index `t` down (RFC 3394). -/
def unwrapSteps (keys : List (List Nat)) (n : Nat) : Nat → Nat × List Nat → Nat × List Nat
  | 0, st => st
  | t + 1, st =>
    let i := t % n
    let b := ofBlock (aesDecKeys keys (block16 ((st.1 ^^^ (t + 1)) * 2 ^ 64 + nth st.2 i 0)))
    unwrapSteps keys n t (b / 2 ^ 64, st.2.set i (b % 2 ^ 64))

/-- AES-256 key unwrap; none when the check value does not come out (RFC 3394). -/
def keyUnwrap (kek wrapped : Bytes) : Option Bytes :=
  if wrapped.length % 8 ≠ 0 || wrapped.length < 24 then none
  else
    let ws := (chunks 8 wrapped).map natOfBe
    let r := unwrapSteps (aesKeys kek) (ws.length - 1) (6 * (ws.length - 1)) (nth ws 0 0, ws.drop 1)
    if r.1 = 0xA6A6A6A6A6A6A6A6 then some (r.2.flatMap (beN 8)) else none

/-! ### ECDSA on P-384 (FIPS 186-5) -/

/-- The prime of P-384. -/
def p384 : Nat := 2 ^ 384 - 2 ^ 128 - 2 ^ 96 + 2 ^ 32 - 1
/-- The order of P-384. -/
def n384 : Nat := 0xFFFFFFFFFFFFFFFFFFFFFFFFFFFFFFFFFFFFFFFFFFFFFFFFC7634D81F4372DDF581A0DB248B0A77AECEC196ACCC52973
/-- The coefficient b of P-384. -/
def b384 : Nat := 0xB3312FA7E23EE7E4988E056BE3F82D19181D9C6EFE8141120314088F5013875AC656398D8A2ED19D2A85C8EDD3EC2AEF
/-- The base point of P-384. -/
def g384 : Nat × Nat :=
  (0xAA87CA22BE8B05378EB1C71EF320AD746E1D3B628BA79B9859F741E082542A385502F25DBF55296C3A545E3872760AB7,
   0x3617DE4A96262C6F5D9E98BF9292DC29F8F41DBD289A147CE9DA3113B5F0B8C00A60B1CE1D7E819D7A431D7C90EA0E5F)

/-- Powers modulo `m`, by fuel over the bits of the exponent. -/
def powMod (m : Nat) : Nat → Nat → Nat → Nat
  | 0, _, _ => 1 % m
  | n + 1, a, e => (if e % 2 = 1 then a * powMod m n (a * a % m) (e / 2) else powMod m n (a * a % m) (e / 2)) % m

/-- The inverse modulo a prime of 384 bits. -/
def invMod (m a : Nat) : Nat := powMod m 384 (a % m) (m - 2)

/-- The sum of two points of P-384; none is the point at infinity. -/
def addPt (p q : Option (Nat × Nat)) : Option (Nat × Nat) :=
  match p, q with
  | none, q => q
  | p, none => p
  | some (x1, y1), some (x2, y2) =>
    if x1 = x2 && (y1 + y2) % p384 = 0 then none
    else
      let l := if x1 = x2 then (3 * x1 * x1 + (p384 - 3)) * invMod p384 (2 * y1) % p384
        else (y2 + p384 - y1) * invMod p384 (x2 + p384 - x1) % p384
      let x3 := (l * l + 2 * p384 - x1 - x2) % p384
      some (x3, (l * (x1 + p384 - x3) + p384 - y1) % p384)

/-- A multiple of a point, by fuel over the bits of the factor. -/
def mulPt : Nat → Nat → Option (Nat × Nat) → Option (Nat × Nat)
  | 0, _, _ => none
  | n + 1, k, p => let r := mulPt n (k / 2) (addPt p p); if k % 2 = 1 then addPt p r else r

/-- Whether a pair of numbers is a point of P-384. -/
def onCurve (q : Nat × Nat) : Bool :=
  decide (q.1 < p384) && decide (q.2 < p384) && q.2 * q.2 % p384 == (q.1 * q.1 * q.1 + (p384 - 3) * q.1 + b384) % p384

/-- ECDSA verification over P-384 of a hash: public key and signature as pairs of 48-byte big-endian numbers. -/
def ecdsaVerify (key hash sig : Bytes) : Bool :=
  let q := (natOfBe (slice key 0 48), natOfBe (slice key 48 48))
  let r := natOfBe (slice sig 0 48)
  let s := natOfBe (slice sig 48 48)
  if key.length ≠ 96 || sig.length ≠ 96 || !onCurve q || r = 0 || n384 ≤ r || s = 0 || n384 ≤ s then false
  else
    let w := invMod n384 s
    match addPt (mulPt 384 (natOfBe hash % n384 * w % n384) (some g384)) (mulPt 384 (r * w % n384) (some q)) with
    | none => false
    | some (x, _) => x % n384 == r

end Sys2Proof.Machine
end

