-- ==== Sys2Proof/Config.lean ====
section
/-!
DEFINITION. Config.lean: what one module fixes for itself (its unique ID, its provisioned role keys) and the FREE
VALUES, the numbers the specification leaves open. Every constant here is opaque: nothing in Lean evaluates it, so a
claim that mentions one holds for every value of it. A free value is applied to the plain counter `State.free`, which
each use advances, or to the operands it depends on.
-/

namespace Sys2Proof

/-- The free value of a use: `freeNat n` is the `n`-th unstated number (log entry 3). -/
opaque Config.freeNat : Nat → Nat

/-- The free bytes of a use: the `k`-th byte of the `n`-th unstated byte string, a module nonce among them (R28; log
entry 3). -/
opaque Config.freeByte : Nat → Nat → Byte

/-- Whether the crop library that a manifest installed holds a table for a crop ID (log entry 22). -/
opaque Config.libraryHas : Nat → Nat → Bool

/-- The bytes from 2 of the library table of a crop ID, by the manifest that installed the library (none: the delivered one; log entry 22). -/
opaque Config.libraryByte : Option Nat → Nat → Nat → Byte

/-- The choice of an unstated alternative, such as whether an interrupted module-setting write took effect (R48; log
entry 3). -/
opaque Config.freeBool : Nat → Bool

/-- The latitude in 1e-7° of the point `ahead` mm ahead and `right` mm to the right of a point with a heading in 0.01°, which the
supervisor computes in double precision by a method the specification does not state (R162; log entry 3). -/
opaque Config.pointLat (lat lon heading ahead right : Int) : Int

/-- The longitude of that point. -/
opaque Config.pointLon (lat lon heading ahead right : Int) : Int

/-- A load switch's on-resistance in µΩ at a junction temperature in 0.1 °C other than 25 °C, which D9's dissipation estimate uses
(R214; log entry 3). -/
opaque Config.lsResistance (heavy : Bool) (tj : Int) : Nat

/-- North and east in mm of a point in the local tangent plane at another (R241); the specification does not state how the plane
is computed (log entry 3). -/
opaque Config.planeNorth (lat0 lon0 lat lon : Int) : Int

/-- East of that point. -/
opaque Config.planeEast (lat0 lon0 lat lon : Int) : Int

/-- The direction in 0.01° of a vector given north and east (R241; log entry 3). -/
opaque Config.azimuth (north east : Int) : Int

/-- The signed curvature in 1e-4 per metre of the circle through three points given as north and east in mm (R241; log entry 3). -/
opaque Config.curvature (a b c : Int × Int) : Int

/-- The rotation of an inertial axis triple into the vehicle frame by a mounting other than 0 (R232; log entry 3). -/
opaque Config.imuRotate (mounting : Nat) (v : List Int) : List Int

/-- The part's unique ID, held in its fuses (R52, Table 1-10); the low 48 bits are used. -/
opaque Config.uniqueId : Nat

/-- The fused family key under which image keys are wrapped; it never leaves the key unit (R344). -/
opaque Config.familyKey : List (BitVec 8)

/-- Folnimi's manifest public keys 0–3 in mask ROM: x then y, big-endian (R342). -/
opaque Config.folnimiKey : Nat → List (BitVec 8)

/-- The per-module OEM key that Folnimi sets at manufacture (R378). -/
opaque Config.transportKey : List (BitVec 8)

/-- Folnimi's SERVICE key (R378). -/
opaque Config.factoryKey : List (BitVec 8)

end Sys2Proof
end

