-- ==== Sys2Proof/Machine/Codes.lean ====
section
/-!
DEFINITION. Machine/Codes.lean: the command codes with the roles that may use them and the T mark (Table 1-12), the status
codes (Table 1-9) and the notification codes (Table 1-8).
-/

namespace Sys2Proof.Machine

/-- IDENT (Table 1-12). -/
def cIdent : Nat := 0x0000
/-- PING (Table 1-12). -/
def cPing : Nat := 0x0001
/-- TIME_GET (Table 1-12). -/
def cTimeGet : Nat := 0x0002
/-- STATUS_GET (Table 1-12). -/
def cStatusGet : Nat := 0x0003
/-- SESSION_OPEN (Table 1-12). -/
def cSessionOpen : Nat := 0x0100
/-- SESSION_PROVE (Table 1-12). -/
def cSessionProve : Nat := 0x0101
/-- SESSION_CLOSE (Table 1-12). -/
def cSessionClose : Nat := 0x0102
/-- SESSION_LIST (Table 1-12). -/
def cSessionList : Nat := 0x0103
/-- SUBSCRIBE (Table 1-12). -/
def cSubscribe : Nat := 0x0104
/-- UNSUBSCRIBE (Table 1-12). -/
def cUnsubscribe : Nat := 0x0105
/-- PENDING_LIST (Table 1-12). -/
def cPendingList : Nat := 0x0106
/-- PENDING_CANCEL (Table 1-12). -/
def cPendingCancel : Nat := 0x0107
/-- PROFILE_SELECT (Table 1-12). -/
def cProfileSelect : Nat := 0x0200
/-- PROFILE_GET_ACTIVE (Table 1-12). -/
def cProfileGetActive : Nat := 0x0201
/-- PROFILE_READ (Table 1-12). -/
def cProfileRead : Nat := 0x0202
/-- PROFILE_WRITE (Table 1-12). -/
def cProfileWrite : Nat := 0x0203
/-- PROFILE_VALIDATE (Table 1-12). -/
def cProfileValidate : Nat := 0x0204
/-- PROFILE_SAVE (Table 1-12). -/
def cProfileSave : Nat := 0x0205
/-- PROFILE_SET_DEFAULT (Table 1-12). -/
def cProfileSetDefault : Nat := 0x0206
/-- MD_READ (Table 1-12). -/
def cMdRead : Nat := 0x0207
/-- GR_STATUS (Table 1-12). -/
def cGrStatus : Nat := 0x0300
/-- FUNCTION_SET (Table 1-12). -/
def cFunctionSet : Nat := 0x0301
/-- FUNCTION_ENABLE (Table 1-12). -/
def cFunctionEnable : Nat := 0x0302
/-- LANE_STATUS (Table 1-12). -/
def cLaneStatus : Nat := 0x0303
/-- COEF_BANK_WRITE (Table 1-12). -/
def cCoefBankWrite : Nat := 0x0304
/-- COEF_BANK_SWAP (Table 1-12). -/
def cCoefBankSwap : Nat := 0x0305
/-- RECORD_CAPTURE (Table 1-12). -/
def cRecordCapture : Nat := 0x0306
/-- RECORD_READ (Table 1-12). -/
def cRecordRead : Nat := 0x0307
/-- REPLAY (Table 1-12). -/
def cReplay : Nat := 0x0308
/-- QZ_STATUS (Table 1-12). -/
def cQzStatus : Nat := 0x0400
/-- QZ_RESULTS_READ (Table 1-12). -/
def cQzResultsRead : Nat := 0x0401
/-- QZ_CROP_SELECT (Table 1-12). -/
def cQzCropSelect : Nat := 0x0402
/-- QZ_TAP_REQUEST (Table 1-12). -/
def cQzTapRequest : Nat := 0x0403
/-- QZ_DIAG_REQUEST (Table 1-12). -/
def cQzDiagRequest : Nat := 0x0404
/-- QZ_RAW_CAPTURE (Table 1-12). -/
def cQzRawCapture : Nat := 0x0405
/-- CF_STATUS (Table 1-12). -/
def cCfStatus : Nat := 0x0500
/-- YIELD_READ (Table 1-12). -/
def cYieldRead : Nat := 0x0501
/-- CF_CALIBRATE (Table 1-12). -/
def cCfCalibrate : Nat := 0x0502
/-- OPTIMIZER_TARGETS (Table 1-12). -/
def cOptimizerTargets : Nat := 0x0503
/-- OPTIMIZER_ENABLE (Table 1-12). -/
def cOptimizerEnable : Nat := 0x0504
/-- COVERAGE_PUT (Table 1-12). -/
def cCoveragePut : Nat := 0x0505
/-- COVERAGE_GET (Table 1-12). -/
def cCoverageGet : Nat := 0x0506
/-- MAP_EXPORT (Table 1-12). -/
def cMapExport : Nat := 0x0507
/-- VD_COMMAND (Table 1-12). -/
def cVdCommand : Nat := 0x0600
/-- VD_STATUS (Table 1-12). -/
def cVdStatus : Nat := 0x0601
/-- VD_TIMING_READ (Table 1-12). -/
def cVdTimingRead : Nat := 0x0602
/-- VD_DIAG (Table 1-12). -/
def cVdDiag : Nat := 0x0603
/-- LS_COMMAND (Table 1-12). -/
def cLsCommand : Nat := 0x0700
/-- LS_STATUS (Table 1-12). -/
def cLsStatus : Nat := 0x0701
/-- LS_LATCH_CLEAR (Table 1-12). -/
def cLsLatchClear : Nat := 0x0702
/-- LS_DIAG (Table 1-12). -/
def cLsDiag : Nat := 0x0703
/-- GN_STATUS (Table 1-12). -/
def cGnStatus : Nat := 0x0800
/-- GN_SOLUTION_GET (Table 1-12). -/
def cGnSolutionGet : Nat := 0x0801
/-- RTCM_PUT (Table 1-12). -/
def cRtcmPut : Nat := 0x0802
/-- GN_CONFIG (Table 1-12). -/
def cGnConfig : Nat := 0x0803
/-- PATH_LOAD (Table 1-12). -/
def cPathLoad : Nat := 0x0804
/-- STEER_ENGAGE (Table 1-12). -/
def cSteerEngage : Nat := 0x0805
/-- FB_STATUS (Table 1-12). -/
def cFbStatus : Nat := 0x0900
/-- FB_TOPOLOGY (Table 1-12). -/
def cFbTopology : Nat := 0x0901
/-- FB_NODE_ASSIGN (Table 1-12). -/
def cFbNodeAssign : Nat := 0x0902
/-- FB_CABLE_TEST (Table 1-12). -/
def cFbCableTest : Nat := 0x0903
/-- FB_RELAY (Table 1-12). -/
def cFbRelay : Nat := 0x0904
/-- CN_STATUS (Table 1-12). -/
def cCnStatus : Nat := 0x0A00
/-- CN_CONFIG (Table 1-12). -/
def cCnConfig : Nat := 0x0A01
/-- CN_SEND (Table 1-12). -/
def cCnSend : Nat := 0x0A02
/-- CN_CANCEL (Table 1-12). -/
def cCnCancel : Nat := 0x0A03
/-- CN_FILTER_SET (Table 1-12). -/
def cCnFilterSet : Nat := 0x0A04
/-- MC_STATUS (Table 1-12). -/
def cMcStatus : Nat := 0x0B00
/-- STORE_STATUS (Table 1-12). -/
def cStoreStatus : Nat := 0x0B01
/-- MC_BANK_STATE (Table 1-12). -/
def cMcBankState : Nat := 0x0B02
/-- MAP_FLUSH (Table 1-12). -/
def cMapFlush : Nat := 0x0B03
/-- EV_READ (Table 1-12). -/
def cEvRead : Nat := 0x0C00
/-- EV_READ_PRIV (Table 1-12). -/
def cEvReadPriv : Nat := 0x0C01
/-- EV_COUNT (Table 1-12). -/
def cEvCount : Nat := 0x0C02
/-- EV_CLEAR (Table 1-12). -/
def cEvClear : Nat := 0x0C03
/-- UPDATE_BEGIN (Table 1-12). -/
def cUpdateBegin : Nat := 0x0D00
/-- UPDATE_DATA (Table 1-12). -/
def cUpdateData : Nat := 0x0D01
/-- UPDATE_STATUS (Table 1-12). -/
def cUpdateStatus : Nat := 0x0D02
/-- UPDATE_ACTIVATE (Table 1-12). -/
def cUpdateActivate : Nat := 0x0D03
/-- UPDATE_CONFIRM (Table 1-12). -/
def cUpdateConfirm : Nat := 0x0D04
/-- UPDATE_ABORT (Table 1-12). -/
def cUpdateAbort : Nat := 0x0D05
/-- RESET_REQUEST (Table 1-12). -/
def cResetRequest : Nat := 0x0E00
/-- LIFECYCLE_GET (Table 1-12). -/
def cLifecycleGet : Nat := 0x0E01
/-- LIFECYCLE_SET (Table 1-12). -/
def cLifecycleSet : Nat := 0x0E02
/-- OWNER_LOCK (Table 1-12). -/
def cOwnerLock : Nat := 0x0E03
/-- STANDBY_ENTER (Table 1-12). -/
def cStandbyEnter : Nat := 0x0E04
/-- POWER_STATUS (Table 1-12). -/
def cPowerStatus : Nat := 0x0E05
/-- DOMAIN_STATE (Table 1-12). -/
def cDomainState : Nat := 0x0E06
/-- SP_WRITE (Table 1-12). -/
def cSpWrite : Nat := 0x0F00
/-- SP_STATUS (Table 1-12). -/
def cSpStatus : Nat := 0x0F01
/-- INJECT (Table 1-12). -/
def cInject : Nat := 0x1000
/-- INJECT_CLEAR (Table 1-12). -/
def cInjectClear : Nat := 0x1001
/-- INJECT_LIST (Table 1-12). -/
def cInjectList : Nat := 0x1002
/-- SELFTEST (Table 1-12). -/
def cSelftest : Nat := 0x1003
/-- PARAM_GET (Table 1-12). -/
def cParamGet : Nat := 0x1100
/-- PARAM_SET (Table 1-12). -/
def cParamSet : Nat := 0x1101
/-- PARAM_INFO (Table 1-12). -/
def cParamInfo : Nat := 0x1102
/-- PARAM_LIST (Table 1-12). -/
def cParamList : Nat := 0x1103

/-- The first half of Table 1-12: command code, roles (bit 0 session 0, bit r the role with code r of Table 1-6), and
whether the command carries the timing prefix. -/
def codeRowsA : List (Nat × Nat × Bool) :=
  [(0x0000, 0b11111, false),
   (0x0001, 0b11111, false),
   (0x0002, 0b11111, false),
   (0x0003, 0b11110, false),
   (0x0100, 0b00001, false),
   (0x0101, 0b11110, false),
   (0x0102, 0b11110, false),
   (0x0103, 0b11100, false),
   (0x0104, 0b11110, false),
   (0x0105, 0b11110, false),
   (0x0106, 0b11110, false),
   (0x0107, 0b11110, false),
   (0x0200, 0b11110, true),
   (0x0201, 0b11110, false),
   (0x0202, 0b11110, false),
   (0x0203, 0b10100, false),
   (0x0204, 0b10100, false),
   (0x0205, 0b10100, false),
   (0x0206, 0b11100, false),
   (0x0207, 0b10100, false),
   (0x0300, 0b11110, false),
   (0x0301, 0b10110, true),
   (0x0302, 0b10110, true),
   (0x0303, 0b11100, false),
   (0x0304, 0b10100, false),
   (0x0305, 0b10100, true),
   (0x0306, 0b10100, true),
   (0x0307, 0b10100, false),
   (0x0308, 0b10000, false),
   (0x0400, 0b11110, false),
   (0x0401, 0b11110, false),
   (0x0402, 0b10110, true),
   (0x0403, 0b10100, false),
   (0x0404, 0b10100, false),
   (0x0405, 0b10100, false),
   (0x0500, 0b11110, false),
   (0x0501, 0b11110, false),
   (0x0502, 0b10110, false),
   (0x0503, 0b10110, true),
   (0x0504, 0b10110, true),
   (0x0505, 0b11110, false),
   (0x0506, 0b11110, false),
   (0x0507, 0b11110, false),
   (0x0600, 0b10100, true),
   (0x0601, 0b11110, false),
   (0x0602, 0b10100, false),
   (0x0603, 0b10100, false),
   (0x0700, 0b10100, true),
   (0x0701, 0b11110, false)]

/-- The second half of Table 1-12. -/
def codeRowsB : List (Nat × Nat × Bool) :=
  [(0x0702, 0b10110, false),
   (0x0703, 0b10100, false),
   (0x0800, 0b11110, false),
   (0x0801, 0b11110, false),
   (0x0802, 0b11110, false),
   (0x0803, 0b10100, false),
   (0x0804, 0b10110, false),
   (0x0805, 0b10110, true),
   (0x0900, 0b11110, false),
   (0x0901, 0b11100, false),
   (0x0902, 0b10100, false),
   (0x0903, 0b10100, false),
   (0x0904, 0b11111, false),
   (0x0A00, 0b11110, false),
   (0x0A01, 0b10100, false),
   (0x0A02, 0b10100, true),
   (0x0A03, 0b10100, false),
   (0x0A04, 0b10100, false),
   (0x0B00, 0b11100, false),
   (0x0B01, 0b11110, false),
   (0x0B02, 0b10000, false),
   (0x0B03, 0b11110, false),
   (0x0C00, 0b11111, false),
   (0x0C01, 0b11100, false),
   (0x0C02, 0b11110, false),
   (0x0C03, 0b10100, false),
   (0x0D00, 0b11100, false),
   (0x0D01, 0b11100, false),
   (0x0D02, 0b11100, false),
   (0x0D03, 0b11100, false),
   (0x0D04, 0b11100, false),
   (0x0D05, 0b11100, false),
   (0x0E00, 0b10100, false),
   (0x0E01, 0b11110, false),
   (0x0E02, 0b10100, false),
   (0x0E03, 0b01000, false),
   (0x0E04, 0b11110, true),
   (0x0E05, 0b11110, false),
   (0x0E06, 0b10000, false),
   (0x0F00, 0b10100, false),
   (0x0F01, 0b11110, false),
   (0x1000, 0b10100, true),
   (0x1001, 0b10100, false),
   (0x1002, 0b10100, false),
   (0x1003, 0b10000, false),
   (0x1100, 0b11110, false),
   (0x1101, 0b11110, true),
   (0x1102, 0b11110, false),
   (0x1103, 0b11110, false)]

/-- Table 1-12. -/
def codeRows : List (Nat × Nat × Bool) := codeRowsA ++ codeRowsB

/-- The row of a command code; none for a code outside command set 3.2 (R52, R53). -/
def codeRow (code : Nat) : Option (Nat × Nat × Bool) := codeRows.find? (fun r => r.1 == code)

/-- Whether a role (0 for session 0) may use a command code (step 7 of Table 1-3). A code outside Table 1-12 passes this
step and is answered UNKNOWN_CMD whatever the role (R53). -/
def roleMay (code role : Nat) : Bool :=
  match codeRow code with
  | some r => r.2.1.testBit role
  | none => true

/-- Whether a command carries the timing prefix of Table 1-7. -/
def isTimed (code : Nat) : Bool :=
  match codeRow code with
  | some r => r.2.2
  | none => false

/-- Status OK (Table 1-9). -/
def stOk : Nat := 0
/-- Status BUSY (Table 1-9). -/
def stBusy : Nat := 1
/-- Status REFUSED_STATE (Table 1-9). -/
def stRefusedState : Nat := 2
/-- Status BAD_ARG (Table 1-9). -/
def stBadArg : Nat := 3
/-- Status NOT_AUTH (Table 1-9). -/
def stNotAuth : Nat := 4
/-- Status UNKNOWN_CMD (Table 1-9). -/
def stUnknownCmd : Nat := 5
/-- Status LATE (Table 1-9). -/
def stLate : Nat := 6
/-- Status VALIDATION_FAIL (Table 1-9). -/
def stValidationFail : Nat := 7
/-- Status NO_RESOURCE (Table 1-9). -/
def stNoResource : Nat := 8
/-- Status EPOCH_MISMATCH (Table 1-9). -/
def stEpochMismatch : Nat := 9
/-- Status TOO_LATE (Table 1-9). -/
def stTooLate : Nat := 10
/-- Status STAGED_ELSEWHERE (Table 1-9). -/
def stStagedElsewhere : Nat := 11
/-- Notification SEQUENCE_GAP (Table 1-8). -/
def nSequenceGap : Nat := 0x0180
/-- Notification SESSION_CLOSING (Table 1-8). -/
def nSessionClosing : Nat := 0x0181
/-- Notification APPLIED (Table 1-8). -/
def nApplied : Nat := 0x0182
/-- Notification YIELD_RECORD (Table 1-8). -/
def nYieldRecord : Nat := 0x0580
/-- Notification TIME_MESSAGE (Table 1-8). -/
def nTimeMessage : Nat := 0x0880
/-- Notification RELAYED_NOTIFY (Table 1-8). -/
def nRelayedNotify : Nat := 0x0980
/-- Notification CAN_RX (Table 1-8). -/
def nCanRx : Nat := 0x0A80
/-- Notification EVENT (Table 1-8). -/
def nEvent : Nat := 0x0C80
/-- Notification UPDATE_PROGRESS (Table 1-8). -/
def nUpdateProgress : Nat := 0x0D80

end Sys2Proof.Machine
end

