-- ==== Sys2Proof/Machine/StateMailbox.lean ====
section
/-!
DEFINITION. Machine/StateMailbox.lean: the state of the clock and of the mailbox: sessions, sequence numbers, held
messages, subscriptions, the frame exchange area and the messages sent (chapter "Mailboxes, sessions and the command set").
-/

namespace Sys2Proof.Machine

/-- The time base. `frame` is the frame counter (R10), `cycle` the CLK_CTL cycle within the frame, 0 to 749,999 (R11),
`ms` the milliseconds that the working clocks have run, which no renumbering changes, `running` whether they run, and `established` whether the
frame counter's time is ESTABLISHED (R235). -/
structure Clock where
  frame : FrameNo
  cycle : Nat
  ms : Nat
  running : Bool
  established : Bool
  deriving DecidableEq, Repr

/-- A message the module has sent, in plaintext: binding, flags, header fields and payload (Table 1-1), with the era and
fragment index that its GCM initialisation vector holds (R29), and the session key it is encrypted with (log entry 2). Messages of a
session other than 0 are authenticated. -/
structure OutMsg where
  binding : Binding
  notify : Bool
  more : Bool
  session : Nat
  seq : Nat
  code : Nat
  epoch : Nat
  era : Nat
  frag : Nat
  payload : Bytes
  key : Bytes := []
  deriving DecidableEq, Repr

/-- A received message held for its turn (R30), with the time it was first held (R32). `spent` marks one answered BUSY, which only consumes its
sequence (R33). -/
structure HeldMsg where
  seq : Nat
  code : Nat
  more : Bool
  payload : Bytes
  since : Nat
  spent : Bool
  deriving DecidableEq, Repr

/-- An accepted command that waits until the session has finished the one before it (R33): its sequence with the era, code, payload and arrival
frame (R37). -/
structure QueuedCmd where
  seq : Nat
  era : Nat
  code : Nat
  payload : Bytes
  frame : FrameNo
  deriving DecidableEq, Repr

/-- A notification waiting for its subscription's interval (R43): the instances merged so far. -/
structure DueNote where
  key : Nat
  payload : Bytes
  deriving DecidableEq, Repr

/-- A subscription: notification code, filter, interval used, the time of the last notification, and what waits (R43). -/
structure Sub where
  code : Nat
  filter : Nat
  interval : Nat
  last : Option Nat
  due : List DueNote
  deriving DecidableEq, Repr

/-- A command assembly in progress: first fragment's CODE, bytes so far, fragments so far, time of the last (R18). -/
structure Assembly where
  code : Nat
  data : Bytes
  frags : Nat
  since : Nat
  deriving DecidableEq, Repr

/-- A session (R26, R28 to R33), or what the module keeps of a session-0 binding (R27: number 0, no cache; `lastAuth` is then when it last sent
a message that passed step 2). `exec` holds the sequence of a command accepted and not yet answered, `queue` the accepted commands behind it,
`doomed` the CODEs whose remaining fragments are answered BAD_ARG (R18), `ending` that the era is exhausted and the session closes once all is
answered (R31). -/
structure Sess where
  num : Nat
  role : Nat
  isOpen : Bool
  binding : Binding
  opened : Nat
  e : Nat
  era : Nat
  note : Nat
  noteEra : Nat
  cache : List (Nat × List OutMsg)
  held : List HeldMsg
  subs : List Sub
  asm : Option Assembly
  doomed : List Nat
  exec : Option Nat
  queue : List QueuedCmd
  ending : Bool
  lastAuth : Nat
  hostNonce : Bytes
  moduleNonce : Bytes
  keyIn : Bytes
  keyOut : Bytes
  deriving DecidableEq, Repr

/-- What the module keeps about a binding's failures: times of authentication failures in the last 10 s, of failed SESSION_PROVE attempts in the
last 60 s, the end of a lockout; and for each condition of R51 that it is in, the frame of its occurrence and whether that is injected. -/
structure PeerSec where
  binding : Binding
  fails : List Nat
  proves : List Nat
  locked : Option Nat
  lockOcc : Option (FrameNo × Bool)
  burstOcc : Option (FrameNo × Bool)
  deriving DecidableEq, Repr

/-- An accepted T command in the frame exchange area (R38, R39, R41): how it is named (epoch, session, sequence), its code
and role, its payload after the timing prefix, its frame of application, NOTIFY_APPLY, and its place in acceptance order.
`internal` marks a command of R146. -/
structure TCmd where
  epoch : Nat
  session : Nat
  seq : Nat
  code : Nat
  role : Nat
  payload : Bytes
  frame : FrameNo
  notify : Bool
  order : Nat
  internal : Bool
  deriving DecidableEq, Repr

/-- What became of one of the 256 T commands accepted most recently (R40). -/
inductive TFate where
  | pending | applied | withdrawn
  deriving DecidableEq, Repr

/-- A remembered T command: epoch, session, sequence, frame of application, fate (R40). -/
structure TPast where
  epoch : Nat
  session : Nat
  seq : Nat
  frame : FrameNo
  fate : TFate
  deriving DecidableEq, Repr

/-- What an accepted command that is not answered yet waits for. -/
inductive WaitFor where
  | profileSave (slot : Nat) | mapFlush | activate | relay (handle : Nat) | cancel (port handle : Nat)
  | diag (unit : Nat) | confirm
  deriving DecidableEq, Repr

/-- A command accepted and not yet answered (R33): whom to answer, and what it waits for since when. -/
structure Waiting where
  binding : Binding
  session : Nat
  seq : Nat
  code : Nat
  era : Nat
  what : WaitFor
  since : Nat
  deriving DecidableEq, Repr

/-- A relay in progress (R24): its handle, the destination, the flow, sequence and code of the inner message, and what of the inner response has
arrived. -/
structure Relay where
  handle : Nat
  dest : Nat
  flow : Nat
  seq : Nat
  code : Nat
  got : Bytes
  since : Nat
  deriving DecidableEq, Repr

/-- An outer binding that has relayed messages (R25): the FLOW_ID that stands for it on the fabric, and its session at the last relay. -/
structure Outer where
  flow : Nat
  binding : Binding
  session : Nat
  deriving DecidableEq, Repr

/-- The mailbox: the supervisor epoch (R34), session numbering (R26), sessions, session-0 bindings, binding security, the
four counters of R50, the exchange area and the history behind PENDING_CANCEL, the handover horizon (R41), waiting commands,
relays and the outer bindings they serve, and the transport parameters in force since the last supervisor start (R50). -/
structure Mailbox where
  epoch : Nat
  nextSession : Nat
  sessions : List Sess
  peers0 : List Sess
  secs : List PeerSec
  malformed : Nat
  authFails : Nat
  discarded : Nat
  lockouts : Nat
  exch : List TCmd
  recent : List TPast
  order : Nat
  horizon : FrameNo
  waiting : List Waiting
  relays : List Relay
  nextRelay : Nat
  relayed : List Outer
  udpPort : Nat
  ipv4 : Nat
  seEnable : Nat
  canPorts : Nat
  uartEnable : Bool
  deriving DecidableEq, Repr

end Sys2Proof.Machine
end

