-- ==== Sys2Proof/Machine/StateQuartz.lean ====
section
/-!
DEFINITION. Machine/StateQuartz.lean: the state of Quartz, the acoustic loss sensing (chapter "Quartz acoustic loss
sensing").
-/

namespace Sys2Proof.Machine

/-- The channel states of Table 4-11, with their codes in Table 4-3: 0 OFF, 1 LISTEN, 2 TAP, 3 DIAG, 4 FAULT. -/
inductive QzSt where
  | off | listen | tap | diag | fault
  deriving DecidableEq, Repr

/-- What a window has counted for one channel so far: the class counts, blind samples, pile-ups, the sum of F0 of the grain
impacts, and the CLIP and OVERFLOW flags (Table 4-3). -/
structure QzAcc where
  grain : Nat
  mog : Nat
  unknown : Nat
  blind : Nat
  pileup : Nat
  f0 : Nat
  clip : Bool
  overflow : Bool
  deriving DecidableEq, Repr

/-- An impact awaiting classification: its 16 features and its report sample (R111, R115, R116). -/
structure QzImpact where
  feats : List Int
  report : Nat
  clipped : Bool
  deriving DecidableEq, Repr

/-- The chain an impact may continue (R114): the preceding impact's onset, the sample of its peak and the calibrated value
there, its place in the chain, and whether the chain already holds its fifth onset. -/
structure QzChain where
  onset : Nat
  peak : Nat
  value : Int
  place : Nat
  full : Bool
  deriving DecidableEq, Repr

/-- A TEACH in progress on a channel: taps done, sums of a_norm and f_meas, whether a tap had another result (R129). -/
structure QzTeach where
  done : Nat
  sumA : Nat
  sumF : Nat
  bad : Bool
  deriving DecidableEq, Repr

/-- The tapping and calibration of one channel (R124 to R129): GC and f in effect and those for the next cut-off, the
generation CAL_GEN, due, forced and requested taps, the last tap, TEACH, and the figures of QZ_STATUS. -/
structure QzTap where
  gc : Nat
  f : Nat
  nextCal : Option (Nat × Nat)
  calGen : Nat
  dueAt : Option Nat
  forced : Bool
  requested : Bool
  last : Option Nat
  ended : Option Nat
  analysis : Bool
  teach : Option QzTeach
  teachFailed : Bool
  result : Nat
  noResp : Nat
  good : Nat
  other : Nat
  lastGood : Option Nat
  stale : Bool
  deferred : Bool
  deriving DecidableEq, Repr

/-- One Quartz channel. `gain` is the gain code in effect (R108), `inverted` whether raw samples are negated, `invNext`
whether they will be from the next cut-off (R132). -/
structure QzChan where
  st : QzSt
  cause : Nat
  gain : Nat
  inverted : Bool
  invNext : Bool
  tap : QzTap
  diagDue : Bool
  diagReq : Bool
  lastDiag : Option Nat
  diagResult : Nat
  diagPass : Nat
  lastOnset : Option Nat
  started : Nat
  chain : Option QzChain
  queue : List QzImpact
  cur : QzAcc
  next : QzAcc
  deriving DecidableEq, Repr

/-- One channel entry of the Quartz part (Table 4-3). -/
structure QzEntry where
  grain : Nat
  mog : Nat
  unknown : Nat
  blind : Nat
  grainC : Nat
  mogC : Nat
  unknownC : Nat
  pileup : Nat
  peakMean : Nat
  calGen : Nat
  state : Nat
  flags : Nat
  gc : Nat
  deriving DecidableEq, Repr

/-- The Quartz part of a record: the header of Table 4-2 and 32 entries. -/
structure QzPart where
  wseq : Nat
  fresh : Bool
  crop : Nat
  cropId : Nat
  rail : Nat
  ready : Bool
  entries : List QzEntry
  deriving DecidableEq, Repr

/-- The raw-capture states of Table 4-13. -/
inductive QzCapSt where
  | idle | armed | running | done | preempted
  deriving DecidableEq, Repr

/-- The service raw capture (R136): state, channels, first frame, duration in ms, milliseconds captured, the ring's data. -/
structure QzCapture where
  st : QzCapSt
  mask : Nat
  first : FrameNo
  length : Nat
  taken : Nat
  data : Bytes
  deriving DecidableEq, Repr

/-- Quartz: the channels, the first sample of the open window counted since Quartz started, WSEQ, whether the open window
has been observed from its start, the tap reservoir in mV, the crop index with a change waiting for the next cut-off, the
crop tables in force, the tap-deferral count, the
part last published, the history of 1,000 windows, the NAND copy of GC and f (R135), and the raw capture. -/
structure Quartz where
  chans : List QzChan
  base : Nat
  wseq : Nat
  whole : Bool
  up : Bool
  reservoir : Nat
  crop : Nat
  cropNext : Option Nat
  tables : List Bytes
  deferrals : Nat
  part : QzPart
  history : List QzPart
  nandCal : List (Nat × Nat)
  cap : QzCapture
  deriving DecidableEq, Repr

end Sys2Proof.Machine
end

