-- ==== Sys2Proof/Machine/StateRecord.lean ====
section
/-!
DEFINITION. Machine/StateRecord.lean: the input record that Granite reads (R78, Table 3-2), with the GNSS part of Table 8-4.
-/

namespace Sys2Proof.Machine

/-- The GNSS part of the input record (Table 8-4). -/
structure GnssPart where
  epochFrame : Nat
  solSeq : Nat
  type : Nat
  nsat : Nat
  qual : Nat
  lat : Int
  lon : Int
  height : Int
  vn : Int
  ve : Int
  vd : Int
  heading : Nat
  roll : Int
  pitch : Int
  speed : Nat
  hAcc : Nat
  hdgAcc : Nat
  xte : Int
  hdgErr : Int
  curv : Int
  pathId : Nat
  segment : Nat
  imuSeq : Nat
  gyro : List Int
  accel : List Int
  yawRate : Int
  deriving DecidableEq, Repr

/-- A sensor or CAN signal of the record: its index, value, fresh flag and age in frames (Table 3-2). -/
structure SensVal where
  index : Nat
  raw : Int
  fresh : Bool
  age : Nat
  deriving DecidableEq, Repr

/-- A Cream input of the record: the schedule cell's index, value used, arrival and substituted flags, the safe flag of the
cell, consecutive misses (Table 3-2, R79). -/
structure CreamVal where
  index : Nat
  value : Int
  arrived : Bool
  substituted : Bool
  safe : Bool
  misses : Nat
  deriving DecidableEq, Repr

/-- The frame part of the input record (R78, Table 3-2): header, sensors, Quartz, GNSS, CAN, Cream, D9 status, commands. -/
structure InRec where
  frame : FrameNo
  pcrc : Nat
  digest : Bytes
  stopA : Bool
  stopB : Bool
  sensors : List SensVal
  quartz : QzPart
  gnss : GnssPart
  can : List SensVal
  cream : List CreamVal
  d9 : List Nat
  cmds : List TCmd
  deriving DecidableEq, Repr

end Sys2Proof.Machine
end

