-- ==== Sys2Proof/Machine/StateCan.lean ====
section
/-!
DEFINITION. Machine/StateCan.lean: the state of the CAN ports (chapter "CAN ports").
-/

namespace Sys2Proof.Machine

/-- The controller states of Table 10-3. -/
inductive CtrlSt where
  | disabled | integrating | errorActive | errorPassive | busOff | listenOnly
  deriving DecidableEq, Repr

/-- The claim states of Table 10-6. -/
inductive ClaimSt where
  | inactive | claiming | claimed | cannotClaim
  deriving DecidableEq, Repr

/-- A frame to send (R280, R281, R290): class, host handle (0 none), the first entry of its message-table frame, whether it uses ISO
11783 addressing, consecutive collisions. -/
structure CanTx where
  frame : CanFrame
  cls : Nat
  handle : Nat
  entry : Option Nat
  iso : Bool
  coll : Nat
  deriving DecidableEq, Repr

/-- A loaded transmit buffer, and whether a late cancel marks it (R283). -/
structure CanBuf where
  tx : CanTx
  cancel : Bool
  deriving DecidableEq, Repr

/-- An acceptance filter (R284): identifier, mask, extended flag, action (0 disabled, 1 accept, 2 reject). -/
structure CanFilter where
  id : Nat
  mask : Nat
  ext : Bool
  action : Nat
  deriving DecidableEq, Repr

/-- A frame in the receive FIFO: when it ended, an overflow before it, the filter that accepted it (R285, Table 10-4). -/
structure CanRx where
  frame : CanFrame
  at' : FrameNo
  cycle : Nat
  overflow : Bool
  filter : Nat
  deriving DecidableEq, Repr

/-- An ISO 11783-3 connection (R292): peer address, direction, bytes in all, packets in all, the next packet expected or to send, the
last packet cleared to send, the bytes, and when it last moved (ms). -/
structure CanConn where
  peer : Nat
  out : Bool
  size : Nat
  packets : Nat
  next : Nat
  upto : Nat
  data : Bytes
  since : Nat
  deriving DecidableEq, Repr

/-- One CAN port: controller and its counters, buffers, queue, class 1 and 2 frames waiting for room, the receive FIFO and whether it has
dropped a frame since, host and module filters, claim state with address, since when (ms), and the address table (address, NAME), transport
connections and mailbox messages waiting for one, acknowledge errors in a row, the last bus-off (ms), and the counts of CN_STATUS, with FD
frames discarded while FD = 0 and frames not sent for want of an address. -/
structure CanPort where
  st : CtrlSt
  txErr : Nat
  rxErr : Nat
  bufs : List (Option CanBuf)
  queue : List CanTx
  backlog : List CanTx
  fifo : List CanRx
  dropped : Bool
  host : List CanFilter
  mods : List CanFilter
  claim : ClaimSt
  addr : Nat
  claimSince : Nat
  table : List (Nat × Nat)
  conns : List CanConn
  mail : List (Nat × Bytes)
  noAck : Nat
  lastOff : Option Nat
  busOffs : Nat
  sent : Nat
  received : Nat
  overflows : Nat
  noteDrops : Nat
  collisions : Nat
  arbLosses : Nat
  replaced : Nat
  overwritten : Nat
  aborts : Nat
  hostDrops : Nat
  loopDelay : Nat
  fdDiscards : Nat
  unclaimed : Nat
  deriving DecidableEq, Repr

/-- The CAN ports; the CAN part of the last record and the signals received for the next (R288); host-frame handles: the next, those of
accepted CN_SENDs by place in acceptance order, and those sent; the number of the next CAN_RX entry; and how many sent messages the CAN
transport has looked at. -/
structure Can where
  ports : List CanPort
  vals : List SensVal
  staged : List (Nat × Int)
  nextHandle : Nat
  handles : List (Nat × Nat)
  sentHandles : List Nat
  entries : Nat
  taken : Nat
  deriving DecidableEq, Repr

end Sys2Proof.Machine
end

