-- ==== Sys2Proof/Machine/StateCrop.lean ====
section
/-!
DEFINITION. Machine/StateCrop.lean: the state of crop flow, the setting optimizer, yield mapping and coverage (chapter "Crop
flow, machine setting and yield mapping").
-/

namespace Sys2Proof.Machine

/-- One loss group (R148, R149): the ring with its bridged marks and index, the window sum, the last window value, frames
since it was cleared, and consecutive frames with no plate able to report. -/
structure LossGroup where
  ring : List Nat
  bridged : List Bool
  idx : Nat
  sum : Nat
  lastWv : Nat
  frames : Nat
  uncovered : Nat
  deriving DecidableEq, Repr

/-- The live-calibration states of Table 5-2. -/
inductive CalSt where
  | disarmed | settle | measure | load
  deriving DecidableEq, Repr

/-- Live calibration and the weighed load (R150 to R153): state, when it was entered, the tank mean m0, the flow sum, the
crop index, intervals accepted, rejected, rejections in a row, and the load's accumulated flow. -/
structure LiveCal where
  st : CalSt
  since : Nat
  m0 : Int
  fsum : Int
  crop : Nat
  accepted : Nat
  rejected : Nat
  rejRow : Nat
  loadSum : Int
  lastUnload : Option Nat
  deriving DecidableEq, Repr

/-- An averaging period of FLOW_ZERO (1) or TANK_TARE (2): operation, sum, frames taken (R167). -/
structure Averaging where
  op : Nat
  sum : Int
  frames : Nat
  deriving DecidableEq, Repr

/-- The optimizer states of Table 5-3. -/
inductive OptSt where
  | off | observe | settle | measure | hold
  deriving DecidableEq, Repr

/-- The setting optimizer (R157 to R159): state, enabled functions, pointed function, direction, the setpoint before the step
and the one sent, cost_base, when the state or window began, whether a step has been kept in this pass, functions advanced
over in it, the sums of the measuring window, operator holds by function with their ends, and the 1 s flow means. -/
structure Optimizer where
  st : OptSt
  mask : Nat
  ptr : Nat
  up : Bool
  orig : Int
  sent : Int
  base : Int
  since : Nat
  kept : Bool
  passed : Nat
  sums : List Int
  n : Nat
  holds : List (Nat × Nat)
  secMeans : List Int
  secSum : Int
  deriving DecidableEq, Repr

/-- A navigation sample kept at 10 Hz for yield placement (R162): epoch frame, position, heading, speed, the FIX value of its
type (Table 8-3), and whether it is inertial. -/
structure NavSample where
  frame : FrameNo
  lat : Int
  lon : Int
  height : Int
  heading : Int
  speed : Int
  fix : Nat
  est : Bool
  deriving DecidableEq, Repr

/-- The sums of one second (R161): its first frame, Σ signal 1, Σ moisture and fresh frames, Σ signal 6, whether the flow was
degraded, unloading happened, the frames summed, and whether a supervisor outage covered any of it (R163). -/
structure SecondSum where
  frame : FrameNo
  flow : Int
  moist : Int
  moistN : Nat
  loss : Int
  degraded : Bool
  unloading : Bool
  frames : Nat
  outage : Bool
  deriving DecidableEq, Repr

/-- The cutter-bar line of a written record for coverage marking (R166): its second, whether it may mark, its two ends in
1e-7°. -/
structure BarLine where
  frame : FrameNo
  ok : Bool
  leftLat : Int
  leftLon : Int
  rightLat : Int
  rightLon : Int
  deriving DecidableEq, Repr

/-- A coverage grid (R165, R166): geometry, covered cells as one mask a row, the change stamp of each changed row. -/
structure Grid where
  lat0 : Int
  lon0 : Int
  nscale : Nat
  escale : Nat
  rows : Nat
  cols : Nat
  cells : List (Nat × Nat)
  stamps : List (Nat × Nat)
  outside : Bool
  deriving DecidableEq, Repr

/-- A field of the map (R164): its ID, its records of 48 bytes, its grid, its place in the order of closing, how many of its
last records are not in NAND yet (R312), and whether it mirrors another module's field (R314). -/
structure MapField where
  id : Nat
  recs : List Bytes
  grid : Option Grid
  closed : Nat
  unflushed : Nat
  mirror : Bool
  deriving DecidableEq, Repr

/-- Crop flow and yield: the nine signals of Table 5-1, whether the flow is degraded, the loss groups, live calibration, the
tank ring of 2,000 frames and the flow delay line, averaging with the last CF_CALIBRATE operation and result, the transport
delay series at 10 Hz with their 100-frame sums, the last accepted correlation, cutting frames since the last accepted
estimate and since the last estimate, the slope sum, the internal count (R146), the optimizer, the second in progress and
the closed ones, the carry of MASS, the last moisture, navigation history with the last GNSS FIX value, when cutting began and
ended, bar lines, the fields, the open field, and the change stamp. `moistBad` counts frames a moisture cell has been invalid while cutting. -/
structure CropFlow where
  sigs : List SensVal
  degraded : Bool
  groups : List LossGroup
  cal : LiveCal
  tank : List Int
  flows : List Int
  avg : Option Averaging
  lastOp : Nat
  lastResult : Nat
  rotor10 : List Int
  flow10 : List Int
  rotorSum : Int
  flowSum : Int
  tenth : Nat
  corr : Nat
  cutFrames : Nat
  estFrames : Nat
  slopeSum : Nat
  slopeN : Nat
  internal : Nat
  opt : Optimizer
  second : SecondSum
  closedSecs : List SecondSum
  carry : Int
  lastMoist : Int
  moistSeen : Bool
  moistBad : List Nat
  nav : List NavSample
  lastFix : Nat
  cuts : List (FrameNo × Bool)
  bars : List BarLine
  fields : List MapField
  openField : Nat
  closings : Nat
  stamp : Nat
  calibrated : Nat
  deriving DecidableEq, Repr

end Sys2Proof.Machine
end

