-- ==== Sys2Proof/Machine/Params.lean ====
section
/-!
DEFINITION. Machine/Params.lean: every parameter of the module: ID, type, range, default, unit code, access bits and role
mask (R47, R48, R443, PARAM_INFO of Table 1-11), row by row from the parameter tables 1-12a, 2-12, 3-13, 4-14, 5-6, 6-4,
7-5, 8-9, 9-8, 10-8, 11-10, 12-9, 13-11, 14-12, 15-11 and 16-6. Where a chapter names no roles that may write a parameter,
the mask holds all four roles (DESIGN CHOICE, log entry 6).
-/

namespace Sys2Proof.Machine

/-- One row of a parameter table: `count` parameters with consecutive IDs from `base`. `ranges` lists the admitted
intervals of the value in ascending order; `access` and `roles` are bytes 32 and 33 of PARAM_INFO (Table 1-11). -/
structure ParamRow where
  base : Nat
  count : Nat
  ty : Nat
  ranges : List (Int × Int)
  dflt : Int
  unit : Nat
  access : Nat
  roles : Nat
  deriving DecidableEq, Repr

/-- The parameters of subsystem 0x01: MB.SESSION_TIMEOUT, MB.REORDER_HOLD, MB.UDP_PORT, MB.IPV4_ADDR, MB.SE_ENABLE, MB.CAN_PORTS, MB.CAN_PRIORITY, MB.UART_ENABLE, MB.NOTIFY_MIN_INTERVAL. -/
def paramRows01 : List ParamRow :=
  [⟨0x01000000, 1, 4, [(1000, 600000)], 30000, 1, 5, 15⟩,
   ⟨0x01000001, 1, 2, [(10, 1000)], 200, 1, 5, 15⟩,
   ⟨0x01000002, 1, 2, [(1024, 65535)], 40484, 0, 5, 15⟩,
   ⟨0x01000003, 1, 4, [(0, 0), (16777216, 3758096383)], 0, 0, 5, 15⟩,
   ⟨0x01000004, 1, 0, [(0, 3)], 3, 0, 5, 15⟩,
   ⟨0x01000005, 1, 0, [(0, 15)], 1, 0, 5, 15⟩,
   ⟨0x01000006, 1, 0, [(0, 7)], 6, 0, 5, 15⟩,
   ⟨0x01000007, 1, 0, [(0, 1)], 1, 0, 5, 15⟩,
   ⟨0x01000008, 1, 2, [(0, 10000)], 0, 1, 5, 15⟩]

/-- The parameters of subsystem 0x02: PF.DEFAULT, PF.SYSTEM_VOLTAGE, PF.STAGING_TIMEOUT. -/
def paramRows02 : List ParamRow :=
  [⟨0x02000000, 1, 0, [(0, 3), (16, 16)], 16, 0, 0, 15⟩,
   ⟨0x02000001, 1, 0, [(12, 12), (24, 24)], 24, 8, 5, 15⟩,
   ⟨0x02000002, 1, 4, [(10000, 600000)], 60000, 1, 1, 15⟩]

/-- The parameters of subsystem 0x03: GR.CMD_ALLOWANCE, GR.FEEDBACK_GRACE, GR.READMIT_ENABLE, GR.READMIT_LIMIT, GR.READMIT_WINDOW. -/
def paramRows03 : List ParamRow :=
  [⟨0x03000000, 1, 0, [(4, 64)], 16, 42, 5, 15⟩,
   ⟨0x03000001, 1, 2, [(1, 1000)], 20, 5, 5, 15⟩,
   ⟨0x03000002, 1, 0, [(0, 1)], 1, 0, 5, 15⟩,
   ⟨0x03000003, 1, 0, [(1, 10)], 3, 41, 5, 15⟩,
   ⟨0x03000004, 1, 4, [(60, 86400)], 3600, 2, 5, 15⟩]

/-- The parameters of subsystem 0x04: QZ.CROP to QZ.REF_FREQ_Qn. -/
def paramRows04 : List ParamRow :=
  [⟨0x04000000, 1, 0, [(0, 7)], 0, 0, 5, 15⟩,
   ⟨0x04000001, 1, 0, [(0, 1)], 1, 0, 5, 15⟩,
   ⟨0x04000002, 1, 4, [(2000, 60000)], 10000, 1, 5, 15⟩,
   ⟨0x04000003, 1, 2, [(6000, 24000)], 24000, 7, 5, 15⟩,
   ⟨0x04000004, 1, 0, [(0, 6)], 2, 0, 5, 15⟩,
   ⟨0x04000005, 1, 4, [(60, 3600)], 300, 2, 5, 15⟩,
   ⟨0x04000006, 1, 4, [(16384, 65536)], 32768, 17, 5, 15⟩,
   ⟨0x04000007, 1, 4, [(65536, 262144)], 131072, 17, 5, 15⟩,
   ⟨0x04000008, 1, 0, [(0, 1)], 0, 0, 5, 15⟩,
   ⟨0x04000009, 1, 4, [(10, 3600)], 60, 2, 5, 15⟩,
   ⟨0x04010000, 32, 0, [(0, 4)], 0, 0, 5, 15⟩,
   ⟨0x04020000, 32, 0, [(0, 3)], 1, 43, 5, 15⟩,
   ⟨0x04030000, 32, 2, [(64, 32000)], 800, 44, 5, 15⟩,
   ⟨0x04040000, 32, 2, [(0, 32767)], 0, 45, 0, 15⟩,
   ⟨0x04050000, 32, 4, [(0, 300000)], 0, 10, 0, 15⟩]

/-- The parameters of subsystem 0x05: CF.FLOW_MIN to CF.DELAY. -/
def paramRows05 : List ParamRow :=
  [⟨0x05000000, 1, 2, [(0, 5000)], 300, 20, 5, 15⟩,
   ⟨0x05000001, 1, 0, [(0, 1)], 1, 0, 5, 15⟩,
   ⟨0x05000002, 1, 2, [(30, 600)], 90, 2, 5, 15⟩,
   ⟨0x05000003, 1, 4, [(100000, 5000000)], 500000, 19, 5, 15⟩,
   ⟨0x05000004, 1, 0, [(0, 6)], 2, 0, 5, 15⟩,
   ⟨0x05000005, 1, 2, [(5, 300)], 20, 2, 5, 15⟩,
   ⟨0x05000006, 1, 2, [(0, 20000)], 4000, 1, 5, 15⟩,
   ⟨0x05000007, 1, 2, [(5, 100)], 30, 27, 5, 15⟩,
   ⟨0x05000008, 1, 4, [(1000000, 20000000)], 10000000, 19, 5, 15⟩,
   ⟨0x05000009, 1, 0, [(0, 127), (255, 255)], 255, 0, 5, 15⟩,
   ⟨0x0500000A, 1, 0, [(0, 127), (255, 255)], 255, 0, 5, 15⟩,
   ⟨0x0500000B, 1, 2, [(0, 10000)], 2500, 1, 5, 15⟩,
   ⟨0x0500000C, 1, 2, [(1000, 30000)], 4000, 1, 5, 15⟩,
   ⟨0x0500000D, 1, 2, [(1000, 30000)], 20000, 1, 5, 15⟩,
   ⟨0x0500000E, 1, 2, [(1000, 30000)], 10000, 1, 5, 15⟩,
   ⟨0x0500000F, 1, 2, [(250, 4000)], 1000, 5, 7, 15⟩,
   ⟨0x05000010, 1, 4, [(100, 100000)], 2000, 16, 5, 15⟩,
   ⟨0x05000011, 1, 4, [(100, 100000)], 1000, 16, 5, 15⟩,
   ⟨0x05000012, 1, 2, [(0, 4000)], 1450, 15, 5, 15⟩,
   ⟨0x05000013, 1, 2, [(100, 2000)], 900, 23, 7, 15⟩,
   ⟨0x05000014, 1, 5, [(-20000, 20000)], 0, 22, 5, 15⟩,
   ⟨0x05000015, 1, 0, [(0, 127), (255, 255)], 255, 0, 5, 15⟩,
   ⟨0x05000016, 1, 5, [(-2147483648, 2147483647)], 0, 46, 5, 15⟩,
   ⟨0x05000017, 1, 4, [(0, 40000)], 10000, 20, 5, 15⟩,
   ⟨0x05000018, 1, 2, [(0, 1000)], 100, 15, 5, 15⟩,
   ⟨0x05000019, 1, 2, [(0, 1000)], 100, 15, 5, 15⟩,
   ⟨0x0500001A, 1, 2, [(0, 1000)], 50, 15, 5, 15⟩,
   ⟨0x0500001B, 1, 2, [(0, 1100)], 950, 14, 5, 15⟩,
   ⟨0x0500001C, 1, 2, [(0, 12000)], 3000, 24, 5, 15⟩,
   ⟨0x0500001D, 1, 2, [(0, 12000)], 3000, 24, 4, 15⟩,
   ⟨0x0500001E, 1, 2, [(0, 12000)], 3000, 24, 5, 15⟩,
   ⟨0x0500001F, 1, 2, [(0, 12000)], 500, 24, 5, 15⟩,
   ⟨0x05000020, 1, 2, [(0, 300)], 80, 27, 5, 15⟩,
   ⟨0x05000021, 1, 2, [(0, 1000)], 20, 25, 5, 15⟩,
   ⟨0x05000022, 1, 2, [(10, 600)], 40, 2, 5, 15⟩,
   ⟨0x05000023, 1, 2, [(10, 300)], 30, 2, 5, 15⟩,
   ⟨0x05000024, 1, 2, [(0, 3600)], 300, 2, 5, 15⟩,
   ⟨0x05000025, 1, 2, [(0, 1000)], 100, 0, 5, 15⟩,
   ⟨0x05000026, 1, 2, [(0, 1000)], 50, 0, 5, 15⟩,
   ⟨0x05000027, 1, 2, [(0, 1000)], 50, 0, 5, 15⟩,
   ⟨0x05000028, 1, 2, [(0, 1000)], 50, 0, 5, 15⟩,
   ⟨0x05000029, 1, 0, [(0, 127), (255, 255)], 255, 0, 5, 15⟩,
   ⟨0x0500002A, 1, 0, [(0, 127), (255, 255)], 255, 0, 5, 15⟩,
   ⟨0x05010000, 8, 4, [(1000, 1000000)], 40000, 21, 5, 15⟩,
   ⟨0x05020000, 30, 5, [(-2147483648, 2147483647)], 0, 47, 5, 15⟩,
   ⟨0x05030000, 8, 4, [(32768, 131072)], 65536, 17, 5, 15⟩,
   ⟨0x05030008, 8, 3, [(-2000, 2000)], 0, 15, 5, 15⟩,
   ⟨0x05040000, 8, 4, [(262144, 4194304)], 1048576, 18, 0, 15⟩,
   ⟨0x05050000, 1, 5, [(-2147483648, 2147483647)], 0, 46, 0, 15⟩,
   ⟨0x05050001, 1, 5, [(-2147483648, 2147483647)], 0, 19, 0, 15⟩,
   ⟨0x05050002, 1, 2, [(1000, 30000)], 10000, 1, 0, 15⟩]

/-- The parameters of subsystem 0x06: VD.BOOST_ICHG to VD.OBSERVE_MAX_n. -/
def paramRows06 : List ParamRow :=
  [⟨0x06000000, 1, 2, [(500, 2000)], 1500, 9, 5, 15⟩,
   ⟨0x06000001, 1, 0, [(0, 6)], 3, 0, 5, 15⟩,
   ⟨0x06000002, 1, 2, [(0, 500)], 100, 9, 5, 15⟩,
   ⟨0x06010000, 12, 0, [(0, 2)], 0, 0, 7, 15⟩,
   ⟨0x06020000, 12, 0, [(0, 12)], 0, 0, 7, 15⟩,
   ⟨0x06030000, 12, 2, [(500, 12000)], 4000, 9, 5, 15⟩,
   ⟨0x06040000, 12, 2, [(0, 5000)], 500, 3, 5, 15⟩,
   ⟨0x06050000, 12, 2, [(200, 4000)], 1200, 9, 5, 15⟩,
   ⟨0x06060000, 12, 4, [(500, 1000000)], 3000, 3, 5, 15⟩,
   ⟨0x06070000, 12, 2, [(100, 3000)], 3000, 3, 5, 15⟩,
   ⟨0x06080000, 12, 2, [(500, 5000)], 2000, 3, 5, 15⟩,
   ⟨0x06090000, 12, 2, [(10, 2000)], 400, 35, 5, 15⟩,
   ⟨0x060A0000, 12, 2, [(100, 1000)], 600, 14, 5, 15⟩,
   ⟨0x060B0000, 12, 2, [(2000, 20000)], 4000, 10, 5, 15⟩,
   ⟨0x060C0000, 12, 2, [(0, 1000)], 0, 9, 5, 15⟩,
   ⟨0x060D0000, 12, 2, [(50, 400)], 200, 6, 5, 15⟩,
   ⟨0x060E0000, 12, 2, [(5000, 40000)], 20000, 10, 5, 15⟩,
   ⟨0x060F0000, 12, 2, [(1, 2000)], 10, 11, 5, 15⟩,
   ⟨0x06100000, 12, 2, [(10, 2000)], 100, 9, 5, 15⟩,
   ⟨0x06110000, 12, 2, [(10, 5000)], 200, 7, 5, 15⟩,
   ⟨0x06120000, 12, 2, [(1000, 20000)], 8000, 3, 5, 15⟩]

/-- The parameters of subsystem 0x07: LS.LAMP_VREF, LS.MODE_n, LS.LAMP_n, LS.INRUSH_n, LS.PWM_FREQ_n, LS.OFFDIAG_n, LS.OL_TIME_n, LS.SHED_n, LS.RETRY_ON_n. -/
def paramRows07 : List ParamRow :=
  [⟨0x07000000, 1, 2, [(13500, 13500), (27000, 27000)], 27000, 7, 5, 15⟩,
   ⟨0x07010000, 24, 0, [(0, 2)], 0, 0, 7, 15⟩,
   ⟨0x07020000, 24, 0, [(0, 1)], 0, 0, 7, 15⟩,
   ⟨0x07030000, 24, 2, [(5, 200)], 20, 1, 5, 15⟩,
   ⟨0x07040000, 24, 2, [(25, 2000)], 200, 10, 5, 15⟩,
   ⟨0x07050000, 24, 0, [(0, 1)], 1, 0, 5, 15⟩,
   ⟨0x07060000, 24, 2, [(10, 5000)], 200, 1, 5, 15⟩,
   ⟨0x07070000, 24, 0, [(0, 15)], 0, 0, 5, 15⟩,
   ⟨0x07080000, 24, 2, [(200, 5000)], 1000, 3, 5, 15⟩]

/-- The parameters of subsystem 0x08: GN.SYSTEMS to GN.STEER_STALE. -/
def paramRows08 : List ParamRow :=
  [⟨0x08000000, 1, 0, [(0, 31)], 31, 0, 5, 15⟩,
   ⟨0x08000001, 1, 0, [(1, 3)], 3, 0, 5, 15⟩,
   ⟨0x08000002, 1, 0, [(0, 30)], 10, 26, 5, 15⟩,
   ⟨0x08000003, 1, 0, [(32, 128)], 64, 39, 5, 15⟩,
   ⟨0x08000004, 1, 0, [(1, 20)], 2, 34, 5, 15⟩,
   ⟨0x08000005, 1, 0, [(1, 20)], 10, 34, 5, 15⟩,
   ⟨0x08000006, 1, 2, [(10, 2000)], 100, 12, 5, 15⟩,
   ⟨0x08000007, 1, 2, [(500, 3000)], 1500, 12, 5, 15⟩,
   ⟨0x08000008, 1, 2, [(250, 250), (500, 500)], 500, 10, 5, 15⟩,
   ⟨0x08000009, 1, 0, [(1, 32)], 8, 40, 5, 15⟩,
   ⟨0x0800000A, 1, 2, [(1000, 10000)], 6000, 10, 5, 15⟩,
   ⟨0x0800000B, 1, 0, [(6, 30)], 12, 30, 5, 15⟩,
   ⟨0x0800000C, 1, 0, [(1, 255)], 96, 0, 5, 15⟩,
   ⟨0x0800000D, 1, 0, [(0, 2)], 2, 0, 5, 15⟩,
   ⟨0x0800000E, 1, 0, [(0, 2)], 2, 0, 5, 15⟩,
   ⟨0x0800000F, 1, 2, [(0, 1000)], 0, 4, 5, 15⟩,
   ⟨0x08000010, 1, 2, [(0, 1000)], 0, 4, 5, 15⟩,
   ⟨0x08000011, 1, 2, [(1000, 60000)], 10000, 1, 5, 15⟩,
   ⟨0x08000012, 1, 2, [(1000, 4000)], 2000, 22, 7, 15⟩,
   ⟨0x08000013, 1, 2, [(5, 100)], 30, 22, 5, 15⟩,
   ⟨0x08000014, 1, 3, [(-18000, 17999)], 0, 28, 5, 15⟩,
   ⟨0x08000015, 1, 0, [(0, 23)], 0, 0, 7, 15⟩,
   ⟨0x08000016, 1, 2, [(0, 120)], 30, 2, 5, 15⟩,
   ⟨0x08000017, 1, 2, [(10, 500)], 50, 4, 5, 15⟩,
   ⟨0x08000018, 1, 4, [(100, 100000)], 1000, 31, 5, 15⟩,
   ⟨0x08000019, 1, 4, [(0, 10000)], 10, 32, 5, 15⟩,
   ⟨0x0800001A, 1, 2, [(20, 500)], 100, 33, 5, 15⟩,
   ⟨0x0800001B, 1, 0, [(0, 1)], 1, 0, 5, 15⟩,
   ⟨0x0800001C, 1, 2, [(1, 500)], 100, 1, 5, 15⟩,
   ⟨0x0800001D, 1, 2, [(0, 1000)], 0, 4, 5, 15⟩,
   ⟨0x0800001E, 1, 0, [(0, 1)], 1, 0, 5, 15⟩,
   ⟨0x0800001F, 1, 0, [(0, 2)], 0, 0, 5, 15⟩,
   ⟨0x08000020, 1, 2, [(0, 1000)], 0, 4, 5, 15⟩,
   ⟨0x08010000, 3, 5, [(-20000, 20000)], 0, 22, 7, 15⟩,
   ⟨0x08010003, 3, 5, [(-20000, 20000)], 0, 22, 7, 15⟩,
   ⟨0x08010006, 3, 5, [(-20000, 20000)], 0, 22, 7, 15⟩,
   ⟨0x08020000, 1, 2, [(0, 0), (256, 511)], 0, 0, 7, 15⟩,
   ⟨0x08020001, 1, 0, [(0, 63)], 0, 0, 7, 15⟩,
   ⟨0x08020002, 1, 0, [(1, 4)], 4, 0, 5, 15⟩,
   ⟨0x08020003, 1, 2, [(0, 3000)], 300, 24, 5, 15⟩,
   ⟨0x08020004, 1, 2, [(0, 5000)], 500, 5, 5, 15⟩,
   ⟨0x08020005, 1, 2, [(100, 5000)], 1000, 22, 5, 15⟩,
   ⟨0x08020006, 1, 2, [(100, 4500)], 3000, 28, 5, 15⟩,
   ⟨0x08020007, 1, 2, [(0, 20000)], 2000, 22, 5, 15⟩,
   ⟨0x08020008, 1, 2, [(0, 5000)], 1500, 1, 5, 15⟩,
   ⟨0x08020009, 1, 0, [(0, 127), (255, 255)], 255, 0, 5, 15⟩,
   ⟨0x0802000A, 1, 5, [(0, 2147483647)], 0, 46, 5, 15⟩,
   ⟨0x0802000B, 1, 0, [(10, 50)], 20, 5, 5, 15⟩]

/-- The parameters of subsystem 0x09: FB.ETHERTYPE, FB.PORT_ENABLE, FB.REDUNDANCY, FB.TIME_PRIO, FB.SQI_MIN, FB.LINK_COST_Fp, FB.NODE, FB.AUTO_NUMBER. -/
def paramRows09 : List ParamRow :=
  [⟨0x09000000, 1, 2, [(1536, 65535)], 34997, 0, 7, 15⟩,
   ⟨0x09000001, 1, 0, [(0, 15)], 15, 0, 5, 15⟩,
   ⟨0x09000002, 1, 0, [(0, 1)], 1, 0, 5, 15⟩,
   ⟨0x09000003, 1, 0, [(0, 15)], 8, 0, 5, 15⟩,
   ⟨0x09000004, 1, 0, [(0, 7)], 4, 0, 5, 15⟩,
   ⟨0x09010000, 4, 0, [(1, 255)], 10, 0, 5, 15⟩,
   ⟨0x09020000, 1, 0, [(0, 32)], 0, 0, 0, 15⟩,
   ⟨0x09020001, 1, 0, [(0, 1)], 1, 0, 1, 10⟩]

/-- The parameters of subsystem 0x0A: CN.WAKE, CN.MODE_n, CN.TIMING_n, CN.TX_ORDER_n, CN.CLAIM_n, CN.ADDR_n, CN.NAME_n. -/
def paramRows0A : List ParamRow :=
  [⟨0x0A000000, 1, 0, [(0, 1)], 1, 0, 5, 15⟩,
   ⟨0x0A010000, 1, 0, [(0, 2)], 1, 0, 7, 15⟩,
   ⟨0x0A010001, 3, 0, [(0, 2)], 0, 0, 7, 15⟩,
   ⟨0x0A020000, 4, 6, [(0, 18446744073709551615)], 1163148094935362, 0, 7, 15⟩,
   ⟨0x0A030000, 4, 0, [(0, 1)], 0, 0, 5, 15⟩,
   ⟨0x0A040000, 1, 0, [(0, 1)], 1, 0, 5, 15⟩,
   ⟨0x0A040001, 3, 0, [(0, 1)], 0, 0, 5, 15⟩,
   ⟨0x0A050000, 4, 0, [(0, 253)], 28, 0, 5, 15⟩,
   ⟨0x0A060000, 4, 6, [(0, 18446744073709551615)], 0, 0, 7, 15⟩]

/-- The parameters of subsystem 0x0B: MC.SCRUB_PERIOD, MC.MAP_FLUSH_PERIOD, MC.LIFE_WARN, MC.MAP_MIRROR. -/
def paramRows0B : List ParamRow :=
  [⟨0x0B000000, 1, 4, [(600, 21600)], 3600, 2, 1, 15⟩,
   ⟨0x0B000001, 1, 2, [(1, 10)], 10, 2, 1, 15⟩,
   ⟨0x0B000002, 1, 0, [(50, 90)], 80, 13, 1, 15⟩,
   ⟨0x0B000003, 1, 0, [(0, 32)], 0, 0, 1, 15⟩]

/-- The parameters of subsystem 0x0C: EV.REPEAT_WINDOW, EV.SNAP_SS_k. -/
def paramRows0C : List ParamRow :=
  [⟨0x0C000000, 1, 2, [(1, 3600)], 60, 2, 5, 15⟩,
   ⟨0x0C010000, 288, 4, [(0, 4294967295)], 0, 0, 5, 15⟩]

/-- The parameters of subsystem 0x0D: UP.VSUP_MIN, UP.COMMIT_LEAD, UP.WHEEL_SENSOR_k, UP.WHEEL_MAX_k. -/
def paramRows0D : List ParamRow :=
  [⟨0x0D000000, 1, 2, [(9000, 30000)], 23600, 7, 5, 15⟩,
   ⟨0x0D000001, 1, 4, [(2000, 600000)], 5000, 5, 5, 15⟩,
   ⟨0x0D010000, 4, 0, [(0, 127), (255, 255)], 255, 0, 5, 15⟩,
   ⟨0x0D020000, 4, 5, [(-2147483648, 2147483647)], 0, 46, 5, 15⟩]

/-- The parameters of subsystem 0x0E: RS.WDG_PERIOD, RS.RSTOUT_L2, PW.VBAT_UV, PW.VBAT_OV, PW.TEMP_WARN, PW.SUP_ENABLE, PW.STOP_DISCREPANCY, PW.WAKE_CFG_k, PW.WAKE_DEBOUNCE_k. -/
def paramRows0E : List ParamRow :=
  [⟨0x0E000000, 1, 2, [(100, 2000)], 500, 1, 1, 10⟩,
   ⟨0x0E000001, 1, 0, [(0, 1)], 0, 0, 1, 10⟩,
   ⟨0x0E010000, 1, 2, [(6000, 30000)], 9000, 7, 5, 15⟩,
   ⟨0x0E010001, 1, 2, [(16000, 36000)], 34000, 7, 5, 15⟩,
   ⟨0x0E010002, 1, 3, [(700, 1000)], 900, 29, 5, 15⟩,
   ⟨0x0E010003, 1, 0, [(0, 63)], 63, 0, 5, 15⟩,
   ⟨0x0E010004, 1, 2, [(50, 5000)], 500, 1, 5, 15⟩,
   ⟨0x0E020000, 4, 0, [(0, 4)], 0, 0, 5, 15⟩,
   ⟨0x0E030000, 4, 0, [(1, 255)], 20, 1, 5, 15⟩]

/-- The parameters of subsystem 0x0F: SP.MIN_INTERVAL, SP.T_SCALE, SP.LEDGER_MIN, SP.LEDGER_LIMIT, SP.TEMP_SENSOR. -/
def paramRows0F : List ParamRow :=
  [⟨0x0F000000, 1, 2, [(1000, 60000)], 1000, 1, 5, 15⟩,
   ⟨0x0F000001, 1, 0, [(50, 200)], 100, 13, 5, 15⟩,
   ⟨0x0F000002, 1, 4, [(100, 100000)], 1000, 38, 5, 15⟩,
   ⟨0x0F000003, 1, 4, [(100000, 100000000)], 2000000, 38, 5, 15⟩,
   ⟨0x0F000004, 1, 0, [(0, 127), (255, 255)], 255, 0, 5, 15⟩]

/-- The parameters of subsystem 0x10: DG.INJECT_OEM. -/
def paramRows10 : List ParamRow :=
  [⟨0x10000000, 1, 0, [(0, 1)], 1, 0, 1, 8⟩]

/-- Every parameter row, in ascending ID. -/
def paramRows : List ParamRow :=
  paramRows01 ++ paramRows02 ++ paramRows03 ++ paramRows04 ++ paramRows05 ++ paramRows06 ++ paramRows07 ++
   paramRows08 ++ paramRows09 ++ paramRows0A ++ paramRows0B ++ paramRows0C ++ paramRows0D ++ paramRows0E ++
   paramRows0F ++ paramRows10

/-- MB.SESSION_TIMEOUT. -/
def pMbSessionTimeout : Nat := 0x01000000
/-- MB.REORDER_HOLD. -/
def pMbReorderHold : Nat := 0x01000001
/-- MB.UDP_PORT. -/
def pMbUdpPort : Nat := 0x01000002
/-- MB.IPV4_ADDR. -/
def pMbIpv4Addr : Nat := 0x01000003
/-- MB.SE_ENABLE. -/
def pMbSeEnable : Nat := 0x01000004
/-- MB.CAN_PORTS. -/
def pMbCanPorts : Nat := 0x01000005
/-- MB.CAN_PRIORITY. -/
def pMbCanPriority : Nat := 0x01000006
/-- MB.UART_ENABLE. -/
def pMbUartEnable : Nat := 0x01000007
/-- MB.NOTIFY_MIN_INTERVAL. -/
def pMbNotifyMinInterval : Nat := 0x01000008
/-- PF.DEFAULT. -/
def pPfDefault : Nat := 0x02000000
/-- PF.SYSTEM_VOLTAGE. -/
def pPfSystemVoltage : Nat := 0x02000001
/-- PF.STAGING_TIMEOUT. -/
def pPfStagingTimeout : Nat := 0x02000002
/-- GR.CMD_ALLOWANCE. -/
def pGrCmdAllowance : Nat := 0x03000000
/-- GR.FEEDBACK_GRACE. -/
def pGrFeedbackGrace : Nat := 0x03000001
/-- GR.READMIT_ENABLE. -/
def pGrReadmitEnable : Nat := 0x03000002
/-- GR.READMIT_LIMIT. -/
def pGrReadmitLimit : Nat := 0x03000003
/-- GR.READMIT_WINDOW. -/
def pGrReadmitWindow : Nat := 0x03000004
/-- QZ.CROP. -/
def pQzCrop : Nat := 0x04000000
/-- QZ.TAP_ENABLE. -/
def pQzTapEnable : Nat := 0x04000001
/-- QZ.TAP_INTERVAL. -/
def pQzTapInterval : Nat := 0x04000002
/-- QZ.TAP_LEVEL. -/
def pQzTapLevel : Nat := 0x04000003
/-- QZ.CAL_SMOOTH. -/
def pQzCalSmooth : Nat := 0x04000004
/-- QZ.CAL_STALE. -/
def pQzCalStale : Nat := 0x04000005
/-- QZ.GC_MIN. -/
def pQzGcMin : Nat := 0x04000006
/-- QZ.GC_MAX. -/
def pQzGcMax : Nat := 0x04000007
/-- QZ.SWAP_AUTO. -/
def pQzSwapAuto : Nat := 0x04000008
/-- QZ.DIAG_IDLE_PERIOD. -/
def pQzDiagIdlePeriod : Nat := 0x04000009
/-- QZ.ROLE_Qn, for the 0-based index `i`. -/
def pQzRole (i : Nat) : Nat := 0x04010000 + i
/-- QZ.GAIN_Qn, for the 0-based index `i`. -/
def pQzGain (i : Nat) : Nat := 0x04020000 + i
/-- QZ.THRESH_Qn, for the 0-based index `i`. -/
def pQzThresh (i : Nat) : Nat := 0x04030000 + i
/-- QZ.REF_AMP_Qn, for the 0-based index `i`. -/
def pQzRefAmp (i : Nat) : Nat := 0x04040000 + i
/-- QZ.REF_FREQ_Qn, for the 0-based index `i`. -/
def pQzRefFreq (i : Nat) : Nat := 0x04050000 + i
/-- CF.FLOW_MIN. -/
def pCfFlowMin : Nat := 0x05000000
/-- CF.LIVE_CAL. -/
def pCfLiveCal : Nat := 0x05000001
/-- CF.CAL_INTERVAL. -/
def pCfCalInterval : Nat := 0x05000002
/-- CF.CAL_MIN_GAIN. -/
def pCfCalMinGain : Nat := 0x05000003
/-- CF.CAL_SMOOTH. -/
def pCfCalSmooth : Nat := 0x05000004
/-- CF.CAL_SETTLE. -/
def pCfCalSettle : Nat := 0x05000005
/-- CF.TANK_LAG. -/
def pCfTankLag : Nat := 0x05000006
/-- CF.LEVEL_LIMIT. -/
def pCfLevelLimit : Nat := 0x05000007
/-- CF.TANK_MAX. -/
def pCfTankMax : Nat := 0x05000008
/-- CF.UNLOAD_SENSOR. -/
def pCfUnloadSensor : Nat := 0x05000009
/-- CF.ROTOR_LOAD_SENSOR. -/
def pCfRotorLoadSensor : Nat := 0x0500000A
/-- CF.HEADER_ROTOR_DELAY. -/
def pCfHeaderRotorDelay : Nat := 0x0500000B
/-- CF.DELAY_MIN. -/
def pCfDelayMin : Nat := 0x0500000C
/-- CF.DELAY_MAX. -/
def pCfDelayMax : Nat := 0x0500000D
/-- CF.DELAY_INIT. -/
def pCfDelayInit : Nat := 0x0500000E
/-- CF.LOSS_WINDOW. -/
def pCfLossWindow : Nat := 0x0500000F
/-- CF.LOSS_FACTOR_ROTOR. -/
def pCfLossFactorRotor : Nat := 0x05000010
/-- CF.LOSS_FACTOR_SIEVE. -/
def pCfLossFactorSieve : Nat := 0x05000011
/-- CF.STD_MOISTURE. -/
def pCfStdMoisture : Nat := 0x05000012
/-- CF.HEADER_WIDTH. -/
def pCfHeaderWidth : Nat := 0x05000013
/-- CF.HEADER_OFFSET. -/
def pCfHeaderOffset : Nat := 0x05000014
/-- CF.CUT_SENSOR. -/
def pCfCutSensor : Nat := 0x05000015
/-- CF.CUT_HEIGHT. -/
def pCfCutHeight : Nat := 0x05000016
/-- CF.TP_TARGET. -/
def pCfTpTarget : Nat := 0x05000017
/-- CF.LOSS_TARGET. -/
def pCfLossTarget : Nat := 0x05000018
/-- CF.BROKEN_TARGET. -/
def pCfBrokenTarget : Nat := 0x05000019
/-- CF.MOG_TARGET. -/
def pCfMogTarget : Nat := 0x0500001A
/-- CF.ENGINE_TARGET. -/
def pCfEngineTarget : Nat := 0x0500001B
/-- CF.OPERATOR_VMAX. -/
def pCfOperatorVmax : Nat := 0x0500001C
/-- CF.SLOPE_LIMIT. -/
def pCfSlopeLimit : Nat := 0x0500001D
/-- CF.SLOPE_VMAX. -/
def pCfSlopeVmax : Nat := 0x0500001E
/-- CF.SLOPE_VMIN. -/
def pCfSlopeVmin : Nat := 0x0500001F
/-- CF.SLOPE_START. -/
def pCfSlopeStart : Nat := 0x05000020
/-- CF.SLOPE_GAIN. -/
def pCfSlopeGain : Nat := 0x05000021
/-- CF.OPT_SETTLE. -/
def pCfOptSettle : Nat := 0x05000022
/-- CF.OPT_MEASURE. -/
def pCfOptMeasure : Nat := 0x05000023
/-- CF.OPT_OPERATOR_HOLD. -/
def pCfOptOperatorHold : Nat := 0x05000024
/-- CF.W_LOSS. -/
def pCfWLoss : Nat := 0x05000025
/-- CF.W_TP. -/
def pCfWTp : Nat := 0x05000026
/-- CF.W_BROKEN. -/
def pCfWBroken : Nat := 0x05000027
/-- CF.W_MOG. -/
def pCfWMog : Nat := 0x05000028
/-- CF.BROKEN_SENSOR. -/
def pCfBrokenSensor : Nat := 0x05000029
/-- CF.MOGQ_SENSOR. -/
def pCfMogqSensor : Nat := 0x0500002A
/-- CF.KERNEL_MASS_Cn, for the 0-based index `i`. -/
def pCfKernelMass (i : Nat) : Nat := 0x05010000 + i
/-- CF.OPT_STEP_Fn, for the 0-based index `i`. -/
def pCfOptStep (i : Nat) : Nat := 0x05020000 + i
/-- CF.MOIST_GAIN_Cn, for the 0-based index `i`. -/
def pCfMoistGain (i : Nat) : Nat := 0x05030000 + i
/-- CF.MOIST_OFFSET_Cn, for the 0-based index `i`. -/
def pCfMoistOffset (i : Nat) : Nat := 0x05030008 + i
/-- CF.FLOW_GAIN_Cn, for the 0-based index `i`. -/
def pCfFlowGain (i : Nat) : Nat := 0x05040000 + i
/-- CF.FLOW_ZERO. -/
def pCfFlowZero : Nat := 0x05050000
/-- CF.TANK_TARE. -/
def pCfTankTare : Nat := 0x05050001
/-- CF.DELAY. -/
def pCfDelay : Nat := 0x05050002
/-- VD.BOOST_ICHG. -/
def pVdBoostIchg : Nat := 0x06000000
/-- VD.TIMING_SMOOTH. -/
def pVdTimingSmooth : Nat := 0x06000001
/-- VD.CROSS_MA. -/
def pVdCrossMa : Nat := 0x06000002
/-- VD.MODE_n, for the 0-based index `i`. -/
def pVdMode (i : Nat) : Nat := 0x06010000 + i
/-- VD.PARTNER_n, for the 0-based index `i`. -/
def pVdPartner (i : Nat) : Nat := 0x06020000 + i
/-- VD.I_PEAK_n, for the 0-based index `i`. -/
def pVdIPeak (i : Nat) : Nat := 0x06030000 + i
/-- VD.T_PEAK_n, for the 0-based index `i`. -/
def pVdTPeak (i : Nat) : Nat := 0x06040000 + i
/-- VD.I_HOLD_n, for the 0-based index `i`. -/
def pVdIHold (i : Nat) : Nat := 0x06050000 + i
/-- VD.ON_TIME_n, for the 0-based index `i`. -/
def pVdOnTime (i : Nat) : Nat := 0x06060000 + i
/-- VD.BOOST_MAX_n, for the 0-based index `i`. -/
def pVdBoostMax (i : Nat) : Nat := 0x06070000 + i
/-- VD.LEAD_n, for the 0-based index `i`. -/
def pVdLead (i : Nat) : Nat := 0x06080000 + i
/-- VD.BOOST_EMAX_n, for the 0-based index `i`. -/
def pVdBoostEmax (i : Nat) : Nat := 0x06090000 + i
/-- VD.HOLD_DUTY_MAX_n, for the 0-based index `i`. -/
def pVdHoldDutyMax (i : Nat) : Nat := 0x060A0000 + i
/-- VD.PWM_FREQ_n, for the 0-based index `i`. -/
def pVdPwmFreq (i : Nat) : Nat := 0x060B0000 + i
/-- VD.DITHER_AMP_n, for the 0-based index `i`. -/
def pVdDitherAmp (i : Nat) : Nat := 0x060C0000 + i
/-- VD.DITHER_PERIOD_n, for the 0-based index `i`. -/
def pVdDitherPeriod (i : Nat) : Nat := 0x060D0000 + i
/-- VD.CHOP_FREQ_n, for the 0-based index `i`. -/
def pVdChopFreq (i : Nat) : Nat := 0x060E0000 + i
/-- VD.RATE_MIN_n, for the 0-based index `i`. -/
def pVdRateMin (i : Nat) : Nat := 0x060F0000 + i
/-- VD.DIP_THRESH_n, for the 0-based index `i`. -/
def pVdDipThresh (i : Nat) : Nat := 0x06100000 + i
/-- VD.KINK_THRESH_n, for the 0-based index `i`. -/
def pVdKinkThresh (i : Nat) : Nat := 0x06110000 + i
/-- VD.OBSERVE_MAX_n, for the 0-based index `i`. -/
def pVdObserveMax (i : Nat) : Nat := 0x06120000 + i
/-- LS.LAMP_VREF. -/
def pLsLampVref : Nat := 0x07000000
/-- LS.MODE_n, for the 0-based index `i`. -/
def pLsMode (i : Nat) : Nat := 0x07010000 + i
/-- LS.LAMP_n, for the 0-based index `i`. -/
def pLsLamp (i : Nat) : Nat := 0x07020000 + i
/-- LS.INRUSH_n, for the 0-based index `i`. -/
def pLsInrush (i : Nat) : Nat := 0x07030000 + i
/-- LS.PWM_FREQ_n, for the 0-based index `i`. -/
def pLsPwmFreq (i : Nat) : Nat := 0x07040000 + i
/-- LS.OFFDIAG_n, for the 0-based index `i`. -/
def pLsOffdiag (i : Nat) : Nat := 0x07050000 + i
/-- LS.OL_TIME_n, for the 0-based index `i`. -/
def pLsOlTime (i : Nat) : Nat := 0x07060000 + i
/-- LS.SHED_n, for the 0-based index `i`. -/
def pLsShed (i : Nat) : Nat := 0x07070000 + i
/-- LS.RETRY_ON_n, for the 0-based index `i`. -/
def pLsRetryOn (i : Nat) : Nat := 0x07080000 + i
/-- GN.SYSTEMS. -/
def pGnSystems : Nat := 0x08000000
/-- GN.BANDS. -/
def pGnBands : Nat := 0x08000001
/-- GN.ELEV_MASK. -/
def pGnElevMask : Nat := 0x08000002
/-- GN.CH_ANT_A. -/
def pGnChAntA : Nat := 0x08000003
/-- GN.SPACING_L1. -/
def pGnSpacingL1 : Nat := 0x08000004
/-- GN.SPACING_L5. -/
def pGnSpacingL5 : Nat := 0x08000005
/-- GN.DLL_BW. -/
def pGnDllBw : Nat := 0x08000006
/-- GN.PLL_BW. -/
def pGnPllBw : Nat := 0x08000007
/-- GN.SEARCH_BIN. -/
def pGnSearchBin : Nat := 0x08000008
/-- GN.SEARCH_NONCOH. -/
def pGnSearchNoncoh : Nat := 0x08000009
/-- GN.DOPPLER_WIN. -/
def pGnDopplerWin : Nat := 0x0800000A
/-- GN.NOTCH_THRESH. -/
def pGnNotchThresh : Nat := 0x0800000B
/-- GN.JAM_THRESH. -/
def pGnJamThresh : Nat := 0x0800000C
/-- GN.ANT_BIAS_A. -/
def pGnAntBiasA : Nat := 0x0800000D
/-- GN.ANT_BIAS_B. -/
def pGnAntBiasB : Nat := 0x0800000E
/-- GN.ANT_DELAY_A. -/
def pGnAntDelayA : Nat := 0x0800000F
/-- GN.ANT_DELAY_B. -/
def pGnAntDelayB : Nat := 0x08000010
/-- GN.RTK_AGE_MAX. -/
def pGnRtkAgeMax : Nat := 0x08000011
/-- GN.BASELINE. -/
def pGnBaseline : Nat := 0x08000012
/-- GN.BASELINE_TOL. -/
def pGnBaselineTol : Nat := 0x08000013
/-- GN.HDG_OFFSET. -/
def pGnHdgOffset : Nat := 0x08000014
/-- GN.IMU_ORIENT. -/
def pGnImuOrient : Nat := 0x08000015
/-- GN.DR_MAX. -/
def pGnDrMax : Nat := 0x08000016
/-- GN.TIME_ACCEPT. -/
def pGnTimeAccept : Nat := 0x08000017
/-- GN.HOLD_FREQ_MIN. -/
def pGnHoldFreqMin : Nat := 0x08000018
/-- GN.HOLD_DRIFT. -/
def pGnHoldDrift : Nat := 0x08000019
/-- GN.GRID_SLEW. -/
def pGnGridSlew : Nat := 0x0800001A
/-- GN.PPS_ENABLE. -/
def pGnPpsEnable : Nat := 0x0800001B
/-- GN.PPS_WIDTH. -/
def pGnPpsWidth : Nat := 0x0800001C
/-- GN.PPS_DELAY. -/
def pGnPpsDelay : Nat := 0x0800001D
/-- GN.PPS_DEGRADED. -/
def pGnPpsDegraded : Nat := 0x0800001E
/-- GN.PPSI_MODE. -/
def pGnPpsiMode : Nat := 0x0800001F
/-- GN.PPSI_DELAY. -/
def pGnPpsiDelay : Nat := 0x08000020
/-- GN.ANT_A_POS_k, for the 0-based index `i`. -/
def pGnAntAPos (i : Nat) : Nat := 0x08010000 + i
/-- GN.IMU_POS_k, for the 0-based index `i`. -/
def pGnImuPos (i : Nat) : Nat := 0x08010003 + i
/-- GN.CTRL_POS_k, for the 0-based index `i`. -/
def pGnCtrlPos (i : Nat) : Nat := 0x08010006 + i
/-- GN.STEER_SLOT. -/
def pGnSteerSlot : Nat := 0x08020000
/-- GN.STEER_PAIR. -/
def pGnSteerPair : Nat := 0x08020001
/-- GN.STEER_MIN_TYPE. -/
def pGnSteerMinType : Nat := 0x08020002
/-- GN.STEER_VMIN. -/
def pGnSteerVmin : Nat := 0x08020003
/-- GN.STEER_GRACE. -/
def pGnSteerGrace : Nat := 0x08020004
/-- GN.ENGAGE_XTE. -/
def pGnEngageXte : Nat := 0x08020005
/-- GN.ENGAGE_HDG. -/
def pGnEngageHdg : Nat := 0x08020006
/-- GN.LOOK_BASE. -/
def pGnLookBase : Nat := 0x08020007
/-- GN.LOOK_TIME. -/
def pGnLookTime : Nat := 0x08020008
/-- GN.OVERRIDE_SENSOR. -/
def pGnOverrideSensor : Nat := 0x08020009
/-- GN.OVERRIDE_LIMIT. -/
def pGnOverrideLimit : Nat := 0x0802000A
/-- GN.STEER_STALE. -/
def pGnSteerStale : Nat := 0x0802000B
/-- FB.ETHERTYPE. -/
def pFbEthertype : Nat := 0x09000000
/-- FB.PORT_ENABLE. -/
def pFbPortEnable : Nat := 0x09000001
/-- FB.REDUNDANCY. -/
def pFbRedundancy : Nat := 0x09000002
/-- FB.TIME_PRIO. -/
def pFbTimePrio : Nat := 0x09000003
/-- FB.SQI_MIN. -/
def pFbSqiMin : Nat := 0x09000004
/-- FB.LINK_COST_Fp, for the 0-based index `i`. -/
def pFbLinkCost (i : Nat) : Nat := 0x09010000 + i
/-- FB.NODE. -/
def pFbNode : Nat := 0x09020000
/-- FB.AUTO_NUMBER. -/
def pFbAutoNumber : Nat := 0x09020001
/-- CN.WAKE. -/
def pCnWake : Nat := 0x0A000000
/-- CN.MODE_n, for the 0-based index `i`. -/
def pCnMode (i : Nat) : Nat := 0x0A010000 + i
/-- CN.TIMING_n, for the 0-based index `i`. -/
def pCnTiming (i : Nat) : Nat := 0x0A020000 + i
/-- CN.TX_ORDER_n, for the 0-based index `i`. -/
def pCnTxOrder (i : Nat) : Nat := 0x0A030000 + i
/-- CN.CLAIM_n, for the 0-based index `i`. -/
def pCnClaim (i : Nat) : Nat := 0x0A040000 + i
/-- CN.ADDR_n, for the 0-based index `i`. -/
def pCnAddr (i : Nat) : Nat := 0x0A050000 + i
/-- CN.NAME_n, for the 0-based index `i`. -/
def pCnName (i : Nat) : Nat := 0x0A060000 + i
/-- MC.SCRUB_PERIOD. -/
def pMcScrubPeriod : Nat := 0x0B000000
/-- MC.MAP_FLUSH_PERIOD. -/
def pMcMapFlushPeriod : Nat := 0x0B000001
/-- MC.LIFE_WARN. -/
def pMcLifeWarn : Nat := 0x0B000002
/-- MC.MAP_MIRROR. -/
def pMcMapMirror : Nat := 0x0B000003
/-- EV.REPEAT_WINDOW. -/
def pEvRepeatWindow : Nat := 0x0C000000
/-- EV.SNAP_SS_k, for the 0-based index `i`. -/
def pEvSnap (i : Nat) : Nat := 0x0C010000 + i
/-- UP.VSUP_MIN. -/
def pUpVsupMin : Nat := 0x0D000000
/-- UP.COMMIT_LEAD. -/
def pUpCommitLead : Nat := 0x0D000001
/-- UP.WHEEL_SENSOR_k, for the 0-based index `i`. -/
def pUpWheelSensor (i : Nat) : Nat := 0x0D010000 + i
/-- UP.WHEEL_MAX_k, for the 0-based index `i`. -/
def pUpWheelMax (i : Nat) : Nat := 0x0D020000 + i
/-- RS.WDG_PERIOD. -/
def pRsWdgPeriod : Nat := 0x0E000000
/-- RS.RSTOUT_L2. -/
def pRsRstoutL2 : Nat := 0x0E000001
/-- PW.VBAT_UV. -/
def pPwVbatUv : Nat := 0x0E010000
/-- PW.VBAT_OV. -/
def pPwVbatOv : Nat := 0x0E010001
/-- PW.TEMP_WARN. -/
def pPwTempWarn : Nat := 0x0E010002
/-- PW.SUP_ENABLE. -/
def pPwSupEnable : Nat := 0x0E010003
/-- PW.STOP_DISCREPANCY. -/
def pPwStopDiscrepancy : Nat := 0x0E010004
/-- PW.WAKE_CFG_k, for the 0-based index `i`. -/
def pPwWakeCfg (i : Nat) : Nat := 0x0E020000 + i
/-- PW.WAKE_DEBOUNCE_k, for the 0-based index `i`. -/
def pPwWakeDebounce (i : Nat) : Nat := 0x0E030000 + i
/-- SP.MIN_INTERVAL. -/
def pSpMinInterval : Nat := 0x0F000000
/-- SP.T_SCALE. -/
def pSpTScale : Nat := 0x0F000001
/-- SP.LEDGER_MIN. -/
def pSpLedgerMin : Nat := 0x0F000002
/-- SP.LEDGER_LIMIT. -/
def pSpLedgerLimit : Nat := 0x0F000003
/-- SP.TEMP_SENSOR. -/
def pSpTempSensor : Nat := 0x0F000004
/-- DG.INJECT_OEM. -/
def pDgInjectOem : Nat := 0x10000000

/-- The row that holds a parameter ID. -/
def paramRow (id : Nat) : Option ParamRow := paramRows.find? (fun r => r.base ≤ id && id < r.base + r.count)

/-- The PARAM_INFO default of a parameter (R61); 0 for an ID that is no parameter. -/
def paramDefault (id : Nat) : Int :=
  match paramRow id with
  | some r => r.dflt
  | none => 0

/-- Bytes of a parameter's type, by its type code in the order u8, i8, u16, i16, u32, i32, u64, i64 (R47). -/
def typeBytes (ty : Nat) : Nat := 2 ^ (ty / 2)

/-- Whether a type code is a signed type (R47). -/
def typeSigned (ty : Nat) : Bool := ty % 2 == 1

/-- A value in its 8-byte slot: unsigned types zero-extended, signed types sign-extended (R47). -/
def slotOf (v : Int) : Bytes := leI 8 v

/-- The value in an 8-byte slot, read with the signedness of its type (R47). -/
def slotValue (ty : Nat) (b : Bytes) : Int := if typeSigned ty then rdI b 0 8 else (rdN b 0 8 : Nat)

/-- Whether a value lies in one of the admitted intervals. -/
def inRanges (rs : List (Int × Int)) (v : Int) : Bool := rs.any (fun r => decide (r.1 ≤ v) && decide (v ≤ r.2))

/-- Whether a value lies in the range of a parameter. -/
def inParamRange (id : Nat) (v : Int) : Bool :=
  match paramRow id with
  | some r => inRanges r.ranges v
  | none => false

/-- The lowest value of a parameter's range. -/
def rangeMin (rs : List (Int × Int)) : Int := (rs.head?.map (·.1)).getD 0

/-- The highest value of a parameter's range. -/
def rangeMax (rs : List (Int × Int)) : Int := (rs.getLast?.map (·.2)).getD 0

end Sys2Proof.Machine
end

