-- ==== Sys2Proof/Machine/Detectors.lean ====
section
/-!
DEFINITION. Machine/Detectors.lean: the authoritative lists of the event chapter: every detector (Table 12-6), every event
that no detector raises (Table 12-7) and every live-status item (Table 12-10).
-/

namespace Sys2Proof.Machine

/-- The kind of a detector's injection point (Table 12-4, R331). -/
inductive InjKind where
  | cmp | val | ecc | lane | msg | fw | record
  deriving DecidableEq, Repr

/-- One row of Table 12-6: detector ID, injection kind, severity (Table 12-5), and whether its records go to the
privileged area (R319). -/
structure DetRow where
  id : Nat
  kind : InjKind
  sev : Nat
  fixed : Bool
  deriving DecidableEq, Repr

/-- One row of Table 12-7: code, severity, privileged area or not, RETAINED or not. -/
structure EventRow where
  code : Nat
  sev : Nat
  fixed : Bool
  retained : Bool
  deriving DecidableEq, Repr

/-- What the instance of a live-status item counts (Table 12-10). -/
inductive LiveInst where
  | whole | lane | function | quartz | role | valve | load | antenna | fabricPort | canPort | supply | ain | segment
  deriving DecidableEq, Repr

/-- One row of Table 12-10: subsystem, item, instance kind and number of instances, type code (R47), unit code (R443),
role mask of its source command (R445). -/
structure LiveRow where
  ss : Nat
  item : Nat
  inst : LiveInst
  count : Nat
  ty : Nat
  unit : Nat
  roles : Nat
  deriving DecidableEq, Repr

/-- The detectors of subsystem 0x01 (Table 12-6): Authentication-failure burst to Binding locked out. -/
def detRows01 : List DetRow :=
  [⟨0x0100, .val, 2, false⟩,
   ⟨0x0101, .fw, 1, false⟩]

/-- The detectors of subsystem 0x02 (Table 12-6): Invalid profile strap to Discarded command after profile change. -/
def detRows02 : List DetRow :=
  [⟨0x0200, .cmp, 1, false⟩,
   ⟨0x0201, .fw, 2, false⟩,
   ⟨0x0202, .fw, 2, false⟩,
   ⟨0x0203, .fw, 1, false⟩,
   ⟨0x0204, .fw, 1, false⟩]

/-- The detectors of subsystem 0x03 (Table 12-6): Vote disagreement to Stale or implausible feedback. -/
def detRows03 : List DetRow :=
  [⟨0x0300, .lane, 3, true⟩,
   ⟨0x0301, .lane, 3, true⟩,
   ⟨0x0302, .lane, 3, true⟩,
   ⟨0x0303, .ecc, 3, true⟩,
   ⟨0x0304, .lane, 3, true⟩,
   ⟨0x0305, .fw, 3, true⟩,
   ⟨0x0306, .fw, 3, true⟩,
   ⟨0x0307, .fw, 3, true⟩,
   ⟨0x0308, .lane, 3, true⟩,
   ⟨0x0309, .fw, 2, false⟩,
   ⟨0x030A, .fw, 2, false⟩,
   ⟨0x030B, .val, 1, false⟩]

/-- The detectors of subsystem 0x04 (Table 12-6): AS pin out of range to Raw capture preempted. -/
def detRows04 : List DetRow :=
  [⟨0x0400, .cmp, 2, false⟩,
   ⟨0x0401, .val, 2, false⟩,
   ⟨0x0402, .val, 2, false⟩,
   ⟨0x0403, .val, 2, false⟩,
   ⟨0x0404, .val, 2, false⟩,
   ⟨0x0405, .val, 1, false⟩,
   ⟨0x0406, .val, 2, false⟩,
   ⟨0x0407, .val, 2, false⟩,
   ⟨0x0408, .val, 1, false⟩,
   ⟨0x0409, .val, 1, false⟩,
   ⟨0x040A, .fw, 1, false⟩,
   ⟨0x040B, .fw, 0, false⟩,
   ⟨0x040C, .fw, 1, false⟩,
   ⟨0x040D, .val, 0, false⟩,
   ⟨0x040E, .fw, 0, false⟩]

/-- The detectors of subsystem 0x05 (Table 12-6): Bridge excitation fault to Optimizer stopped, by cause. -/
def detRows05 : List DetRow :=
  [⟨0x0500, .cmp, 2, false⟩,
   ⟨0x0501, .val, 2, false⟩,
   ⟨0x0502, .val, 1, false⟩,
   ⟨0x0503, .fw, 1, false⟩,
   ⟨0x0504, .fw, 1, false⟩,
   ⟨0x0505, .fw, 1, false⟩,
   ⟨0x0506, .fw, 0, false⟩,
   ⟨0x0507, .fw, 0, false⟩,
   ⟨0x0508, .fw, 1, false⟩]

/-- The detectors of subsystem 0x06 (Table 12-6): Boost rail below 40 V to Current regulation error. -/
def detRows06 : List DetRow :=
  [⟨0x0600, .val, 2, false⟩,
   ⟨0x0601, .cmp, 2, false⟩,
   ⟨0x0602, .val, 2, false⟩,
   ⟨0x0603, .val, 1, false⟩,
   ⟨0x0604, .cmp, 1, false⟩,
   ⟨0x0605, .fw, 1, false⟩,
   ⟨0x0606, .val, 1, false⟩,
   ⟨0x0607, .val, 1, false⟩,
   ⟨0x0608, .val, 1, false⟩,
   ⟨0x0609, .cmp, 1, false⟩,
   ⟨0x060A, .cmp, 2, false⟩,
   ⟨0x060B, .cmp, 2, false⟩,
   ⟨0x060C, .cmp, 2, false⟩,
   ⟨0x060D, .cmp, 2, false⟩,
   ⟨0x060E, .cmp, 2, false⟩,
   ⟨0x060F, .cmp, 2, false⟩,
   ⟨0x0610, .cmp, 2, false⟩,
   ⟨0x0611, .val, 1, false⟩]

/-- The detectors of subsystem 0x07 (Table 12-6): Over-current to Output-stage budget exceeded. -/
def detRows07 : List DetRow :=
  [⟨0x0700, .cmp, 1, false⟩,
   ⟨0x0701, .cmp, 2, false⟩,
   ⟨0x0702, .cmp, 2, false⟩,
   ⟨0x0703, .fw, 2, false⟩,
   ⟨0x0704, .val, 1, false⟩,
   ⟨0x0705, .val, 2, false⟩,
   ⟨0x0706, .val, 1, false⟩,
   ⟨0x0707, .val, 1, false⟩,
   ⟨0x0708, .val, 1, false⟩,
   ⟨0x0709, .val, 1, false⟩,
   ⟨0x070A, .val, 1, false⟩,
   ⟨0x070B, .val, 2, false⟩]

/-- The detectors of subsystem 0x08 (Table 12-6): Antenna open to Steering disengaged, by cause. -/
def detRows08 : List DetRow :=
  [⟨0x0800, .val, 2, false⟩,
   ⟨0x0801, .val, 2, false⟩,
   ⟨0x0802, .cmp, 2, false⟩,
   ⟨0x0803, .val, 1, false⟩,
   ⟨0x0804, .val, 2, false⟩,
   ⟨0x0805, .val, 1, false⟩,
   ⟨0x0806, .msg, 1, false⟩,
   ⟨0x0807, .val, 1, false⟩,
   ⟨0x0808, .val, 2, false⟩,
   ⟨0x0809, .fw, 1, false⟩,
   ⟨0x080A, .msg, 1, false⟩,
   ⟨0x080B, .val, 2, false⟩,
   ⟨0x080C, .val, 1, false⟩,
   ⟨0x080D, .fw, 1, false⟩,
   ⟨0x080E, .cmp, 1, false⟩,
   ⟨0x080F, .fw, 1, false⟩,
   ⟨0x0810, .fw, 1, false⟩]

/-- The detectors of subsystem 0x09 (Table 12-6): Link down to MACHINE_SET mismatch. -/
def detRows09 : List DetRow :=
  [⟨0x0900, .cmp, 2, false⟩,
   ⟨0x0901, .val, 1, false⟩,
   ⟨0x0902, .fw, 2, false⟩,
   ⟨0x0903, .record, 2, false⟩,
   ⟨0x0904, .fw, 1, false⟩,
   ⟨0x0905, .fw, 1, false⟩,
   ⟨0x0906, .val, 2, false⟩,
   ⟨0x0907, .msg, 2, false⟩,
   ⟨0x0908, .fw, 2, false⟩,
   ⟨0x0909, .fw, 2, false⟩,
   ⟨0x090A, .fw, 2, false⟩,
   ⟨0x090B, .msg, 2, false⟩]

/-- The detectors of subsystem 0x0A (Table 12-6): Error passive to No acknowledge. -/
def detRows0A : List DetRow :=
  [⟨0x0A00, .val, 1, false⟩,
   ⟨0x0A01, .val, 2, false⟩,
   ⟨0x0A02, .fw, 1, false⟩,
   ⟨0x0A03, .cmp, 1, false⟩,
   ⟨0x0A04, .msg, 2, false⟩,
   ⟨0x0A05, .msg, 1, false⟩,
   ⟨0x0A06, .cmp, 2, false⟩,
   ⟨0x0A07, .cmp, 2, false⟩,
   ⟨0x0A08, .cmp, 1, false⟩]

/-- The detectors of subsystem 0x0B (Table 12-6): Bank access error to MRAM write failure. -/
def detRows0B : List DetRow :=
  [⟨0x0B00, .fw, 2, false⟩,
   ⟨0x0B01, .ecc, 2, false⟩,
   ⟨0x0B02, .record, 2, false⟩,
   ⟨0x0B03, .fw, 1, false⟩,
   ⟨0x0B04, .val, 1, false⟩,
   ⟨0x0B05, .record, 2, false⟩,
   ⟨0x0B06, .record, 2, false⟩]

/-- The detectors of subsystem 0x0C (Table 12-6): Recorder queue overflow to Recorder area full. -/
def detRows0C : List DetRow :=
  [⟨0x0C00, .fw, 1, false⟩,
   ⟨0x0C01, .fw, 1, false⟩]

/-- The detectors of subsystem 0x0D (Table 12-6): Manifest signature failure to Recovery-mode entry. -/
def detRows0D : List DetRow :=
  [⟨0x0D00, .msg, 2, true⟩,
   ⟨0x0D01, .msg, 2, true⟩,
   ⟨0x0D02, .fw, 1, true⟩,
   ⟨0x0D03, .fw, 2, true⟩,
   ⟨0x0D04, .record, 2, true⟩,
   ⟨0x0D05, .record, 2, true⟩]

/-- The detectors of subsystem 0x0E (Table 12-6): Brown-out on VSUP to Analog input out of range. -/
def detRows0E : List DetRow :=
  [⟨0x0E00, .record, 2, true⟩,
   ⟨0x0E01, .record, 2, true⟩,
   ⟨0x0E02, .record, 3, true⟩,
   ⟨0x0E03, .record, 2, true⟩,
   ⟨0x0E04, .record, 2, true⟩,
   ⟨0x0E05, .record, 2, true⟩,
   ⟨0x0E06, .record, 3, true⟩,
   ⟨0x0E07, .record, 2, true⟩,
   ⟨0x0E08, .val, 1, false⟩,
   ⟨0x0E09, .val, 2, false⟩,
   ⟨0x0E0A, .val, 2, false⟩,
   ⟨0x0E0B, .cmp, 3, true⟩,
   ⟨0x0E0C, .cmp, 2, false⟩,
   ⟨0x0E0D, .val, 1, false⟩]

/-- The detectors of subsystem 0x0F (Table 12-6): Panel DC ledger out of balance to Segment driver fault. -/
def detRows0F : List DetRow :=
  [⟨0x0F00, .val, 1, false⟩,
   ⟨0x0F01, .record, 1, false⟩,
   ⟨0x0F02, .cmp, 1, false⟩]

/-- The detectors of subsystem 0x10 (Table 12-6): Self-test detector failure to Self-test detector failure. -/
def detRows10 : List DetRow :=
  [⟨0x1000, .record, 2, false⟩]

/-- Table 12-6: every detector. -/
def detRows : List DetRow :=
  detRows01 ++ detRows02 ++ detRows03 ++ detRows04 ++ detRows05 ++ detRows06 ++ detRows07 ++ detRows08 ++
   detRows09 ++ detRows0A ++ detRows0B ++ detRows0C ++ detRows0D ++ detRows0E ++ detRows0F ++ detRows10

/-- Table 12-7: every event that no detector raises. -/
def eventRows : List EventRow :=
  [⟨0x0280, 0, false, false⟩,
   ⟨0x0380, 1, true, false⟩,
   ⟨0x0480, 0, false, false⟩,
   ⟨0x0680, 0, false, false⟩,
   ⟨0x0780, 0, false, false⟩,
   ⟨0x0C81, 3, true, true⟩,
   ⟨0x0D80, 1, true, false⟩,
   ⟨0x0D81, 2, true, false⟩,
   ⟨0x0D82, 2, true, false⟩,
   ⟨0x0E80, 2, true, false⟩,
   ⟨0x0E81, 3, true, true⟩,
   ⟨0x0E82, 3, true, true⟩,
   ⟨0x0E83, 0, false, false⟩,
   ⟨0x1080, 2, true, false⟩,
   ⟨0x1081, 2, true, false⟩]

/-- The live-status items of subsystem 0x01: Malformed messages, Authentication failures, Discarded sequences, Lockouts, Sessions held, open and half-open. -/
def liveRows01 : List LiveRow :=
  [⟨0x01, 1, .whole, 1, 4, 0, 15⟩,
   ⟨0x01, 2, .whole, 1, 4, 0, 15⟩,
   ⟨0x01, 3, .whole, 1, 4, 0, 15⟩,
   ⟨0x01, 4, .whole, 1, 4, 0, 15⟩,
   ⟨0x01, 5, .whole, 1, 0, 0, 14⟩]

/-- The live-status items of subsystem 0x02: Active slot, Activation source, Working copy modified, Profile CRC, Frame activated. -/
def liveRows02 : List LiveRow :=
  [⟨0x02, 1, .whole, 1, 0, 0, 15⟩,
   ⟨0x02, 2, .whole, 1, 0, 0, 15⟩,
   ⟨0x02, 3, .whole, 1, 0, 0, 15⟩,
   ⟨0x02, 4, .whole, 1, 4, 0, 15⟩,
   ⟨0x02, 5, .whole, 1, 6, 5, 15⟩]

/-- The live-status items of subsystem 0x03: Granite mode, Active lanes, Lane in readmission, Current frame, Overruns since activation, Consecutive overruns, Last frame work, CLK_CTL cycles, Peak frame work, CLK_CTL cycles, Enabled mask, RAMP mask, SAFE mask, Stale-feedback mask, Lane state, Last cause, Exclusions in window, Corrected ECC count, Function state: 1 DISABLED, 2 ENABLED, 3 RAMP, 4 SAFE, Output last committed. -/
def liveRows03 : List LiveRow :=
  [⟨0x03, 1, .whole, 1, 0, 0, 15⟩,
   ⟨0x03, 2, .whole, 1, 0, 0, 15⟩,
   ⟨0x03, 3, .whole, 1, 0, 0, 15⟩,
   ⟨0x03, 4, .whole, 1, 6, 5, 15⟩,
   ⟨0x03, 5, .whole, 1, 4, 0, 15⟩,
   ⟨0x03, 6, .whole, 1, 0, 0, 15⟩,
   ⟨0x03, 7, .whole, 1, 4, 0, 15⟩,
   ⟨0x03, 8, .whole, 1, 4, 0, 15⟩,
   ⟨0x03, 9, .whole, 1, 4, 0, 15⟩,
   ⟨0x03, 10, .whole, 1, 4, 0, 15⟩,
   ⟨0x03, 11, .whole, 1, 4, 0, 15⟩,
   ⟨0x03, 12, .whole, 1, 4, 0, 15⟩,
   ⟨0x03, 16, .lane, 3, 0, 0, 14⟩,
   ⟨0x03, 17, .lane, 3, 0, 0, 14⟩,
   ⟨0x03, 18, .lane, 3, 2, 41, 14⟩,
   ⟨0x03, 19, .lane, 3, 4, 0, 14⟩,
   ⟨0x03, 24, .function, 30, 0, 0, 15⟩,
   ⟨0x03, 25, .function, 30, 5, 47, 15⟩]

/-- The live-status items of subsystem 0x04: Tap reservoir, Reservoir ready, Tap deferrals since activation, Crop index, Channel state, Last DIAG result, Last tap result, GC, Resonance f, Fault cause, Time since last GOOD tap. -/
def liveRows04 : List LiveRow :=
  [⟨0x04, 1, .whole, 1, 2, 7, 15⟩,
   ⟨0x04, 2, .whole, 1, 0, 0, 15⟩,
   ⟨0x04, 3, .whole, 1, 4, 0, 15⟩,
   ⟨0x04, 4, .whole, 1, 0, 0, 15⟩,
   ⟨0x04, 16, .quartz, 32, 0, 0, 15⟩,
   ⟨0x04, 17, .quartz, 32, 0, 0, 15⟩,
   ⟨0x04, 18, .quartz, 32, 0, 0, 15⟩,
   ⟨0x04, 19, .quartz, 32, 4, 17, 15⟩,
   ⟨0x04, 20, .quartz, 32, 4, 10, 15⟩,
   ⟨0x04, 21, .quartz, 32, 2, 0, 15⟩,
   ⟨0x04, 22, .quartz, 32, 4, 2, 15⟩]

/-- The live-status items of subsystem 0x05: Signal 1, mass flow, Signal 2, tank mass, Signal 3, moisture, Signal 6, total loss ratio, Transport delay in use, Live-calibration state, Gain of the active crop, Optimizer state, Open field, Crop-flow flags, Plates in the group, n_all, Plates able to report, n_ok. -/
def liveRows05 : List LiveRow :=
  [⟨0x05, 1, .whole, 1, 5, 20, 15⟩,
   ⟨0x05, 2, .whole, 1, 5, 19, 15⟩,
   ⟨0x05, 3, .whole, 1, 3, 15, 15⟩,
   ⟨0x05, 4, .whole, 1, 2, 15, 15⟩,
   ⟨0x05, 5, .whole, 1, 2, 1, 15⟩,
   ⟨0x05, 6, .whole, 1, 0, 0, 15⟩,
   ⟨0x05, 7, .whole, 1, 4, 18, 15⟩,
   ⟨0x05, 8, .whole, 1, 0, 0, 15⟩,
   ⟨0x05, 9, .whole, 1, 2, 0, 15⟩,
   ⟨0x05, 10, .whole, 1, 2, 0, 15⟩,
   ⟨0x05, 16, .role, 3, 0, 39, 15⟩,
   ⟨0x05, 17, .role, 3, 0, 39, 15⟩]

/-- The live-status items of subsystem 0x06: Boost rail, VBAT, Capacitance estimate, Converter state, Channel state, Fault cause, Coil current, Current setpoint, Boost-energy window, Hold-duty window, open_est, close_est. -/
def liveRows06 : List LiveRow :=
  [⟨0x06, 1, .whole, 1, 2, 7, 15⟩,
   ⟨0x06, 2, .whole, 1, 2, 7, 15⟩,
   ⟨0x06, 3, .whole, 1, 2, 48, 15⟩,
   ⟨0x06, 4, .whole, 1, 0, 0, 15⟩,
   ⟨0x06, 16, .valve, 12, 0, 0, 15⟩,
   ⟨0x06, 17, .valve, 12, 0, 0, 15⟩,
   ⟨0x06, 18, .valve, 12, 3, 9, 15⟩,
   ⟨0x06, 19, .valve, 12, 3, 9, 15⟩,
   ⟨0x06, 20, .valve, 12, 2, 36, 15⟩,
   ⟨0x06, 21, .valve, 12, 2, 14, 15⟩,
   ⟨0x06, 22, .valve, 12, 2, 3, 15⟩,
   ⟨0x06, 23, .valve, 12, 2, 3, 15⟩]

/-- The live-status items of subsystem 0x07: VBAT, Aggregate VBAT current, 1 s mean, Output-stage dissipation, 1 s mean, Of which valve stages, Channels shed, Channel state, Cause, Current, Duty applied, Junction temperature, Retries remaining, Last clamp energy. -/
def liveRows07 : List LiveRow :=
  [⟨0x07, 1, .whole, 1, 2, 7, 15⟩,
   ⟨0x07, 2, .whole, 1, 4, 9, 15⟩,
   ⟨0x07, 3, .whole, 1, 4, 37, 15⟩,
   ⟨0x07, 4, .whole, 1, 4, 37, 15⟩,
   ⟨0x07, 5, .whole, 1, 0, 39, 15⟩,
   ⟨0x07, 16, .load, 24, 0, 0, 15⟩,
   ⟨0x07, 17, .load, 24, 0, 0, 15⟩,
   ⟨0x07, 18, .load, 24, 2, 9, 15⟩,
   ⟨0x07, 19, .load, 24, 2, 15, 15⟩,
   ⟨0x07, 20, .load, 24, 3, 29, 15⟩,
   ⟨0x07, 21, .load, 24, 0, 0, 15⟩,
   ⟨0x07, 22, .load, 24, 2, 36, 15⟩]

/-- The live-status items of subsystem 0x08: Time state, Solution type, Satellites used, Correction age, Heading source, Steering state, J of A-L1, J of A-L5, J of B-L1, J of B-L5, Antenna state, Bias current. -/
def liveRows08 : List LiveRow :=
  [⟨0x08, 1, .whole, 1, 0, 0, 15⟩,
   ⟨0x08, 2, .whole, 1, 0, 0, 15⟩,
   ⟨0x08, 3, .whole, 1, 0, 0, 15⟩,
   ⟨0x08, 4, .whole, 1, 4, 1, 15⟩,
   ⟨0x08, 5, .whole, 1, 0, 0, 15⟩,
   ⟨0x08, 6, .whole, 1, 0, 0, 15⟩,
   ⟨0x08, 7, .whole, 1, 0, 0, 15⟩,
   ⟨0x08, 8, .whole, 1, 0, 0, 15⟩,
   ⟨0x08, 9, .whole, 1, 0, 0, 15⟩,
   ⟨0x08, 10, .whole, 1, 0, 0, 15⟩,
   ⟨0x08, 16, .antenna, 2, 0, 0, 15⟩,
   ⟨0x08, 17, .antenna, 2, 2, 9, 15⟩]

/-- The live-status items of subsystem 0x09: Node, Alignment, Offset, Verdict generation in force, Cells SINGLE, Cells REJECTED, Cells missed, Port state, SQI, Link delay, FCS errors. -/
def liveRows09 : List LiveRow :=
  [⟨0x09, 1, .whole, 1, 0, 0, 15⟩,
   ⟨0x09, 2, .whole, 1, 0, 0, 15⟩,
   ⟨0x09, 3, .whole, 1, 5, 4, 15⟩,
   ⟨0x09, 4, .whole, 1, 4, 0, 15⟩,
   ⟨0x09, 5, .whole, 1, 2, 0, 15⟩,
   ⟨0x09, 6, .whole, 1, 2, 0, 15⟩,
   ⟨0x09, 7, .whole, 1, 4, 0, 15⟩,
   ⟨0x09, 16, .fabricPort, 4, 0, 0, 15⟩,
   ⟨0x09, 17, .fabricPort, 4, 0, 0, 15⟩,
   ⟨0x09, 18, .fabricPort, 4, 2, 4, 15⟩,
   ⟨0x09, 19, .fabricPort, 4, 2, 0, 15⟩]

/-- The live-status items of subsystem 0x0A: Controller state, Transmit error counter, Receive error counter, Claim state, Claimed address, Queue depth, Bus-offs. -/
def liveRows0A : List LiveRow :=
  [⟨0x0A, 16, .canPort, 4, 0, 0, 15⟩,
   ⟨0x0A, 17, .canPort, 4, 0, 0, 15⟩,
   ⟨0x0A, 18, .canPort, 4, 0, 0, 15⟩,
   ⟨0x0A, 19, .canPort, 4, 0, 0, 15⟩,
   ⟨0x0A, 20, .canPort, 4, 0, 0, 15⟩,
   ⟨0x0A, 21, .canPort, 4, 0, 0, 15⟩,
   ⟨0x0A, 22, .canPort, 4, 2, 0, 15⟩]

/-- The live-status items of subsystem 0x0B: Corrected errors since L1, Uncorrectable errors since L1, Address of the last uncorrectable error, NAND life estimate, Map bytes awaiting flush. -/
def liveRows0B : List LiveRow :=
  [⟨0x0B, 1, .whole, 1, 4, 0, 14⟩,
   ⟨0x0B, 2, .whole, 1, 4, 0, 14⟩,
   ⟨0x0B, 3, .whole, 1, 4, 0, 14⟩,
   ⟨0x0B, 4, .whole, 1, 0, 13, 15⟩,
   ⟨0x0B, 5, .whole, 1, 4, 0, 15⟩]

/-- The live-status items of subsystem 0x0C: Next RSEQ, Privileged records in use, Snapshot records in use, Queue drops, Active injections. -/
def liveRows0C : List LiveRow :=
  [⟨0x0C, 1, .whole, 1, 4, 0, 15⟩,
   ⟨0x0C, 2, .whole, 1, 4, 0, 15⟩,
   ⟨0x0C, 3, .whole, 1, 4, 0, 15⟩,
   ⟨0x0C, 4, .whole, 1, 4, 0, 15⟩,
   ⟨0x0C, 5, .whole, 1, 0, 0, 15⟩]

/-- The live-status items of subsystem 0x0D: Update state, Last result, Security-version minimum, Consecutive failed boots. -/
def liveRows0D : List LiveRow :=
  [⟨0x0D, 1, .whole, 1, 0, 0, 14⟩,
   ⟨0x0D, 2, .whole, 1, 0, 0, 14⟩,
   ⟨0x0D, 3, .whole, 1, 2, 0, 14⟩,
   ⟨0x0D, 4, .whole, 1, 0, 0, 14⟩]

/-- The live-status items of subsystem 0x0E: VSUP, VBAT, KEEP, Module temperature, Power flags, Level of the last reset episode, Trim, Interrupted-load count, Supply current, Supply state, Raw value of R433, in mV or µA by mode. -/
def liveRows0E : List LiveRow :=
  [⟨0x0E, 1, .whole, 1, 2, 7, 15⟩,
   ⟨0x0E, 2, .whole, 1, 2, 7, 15⟩,
   ⟨0x0E, 3, .whole, 1, 2, 7, 15⟩,
   ⟨0x0E, 4, .whole, 1, 3, 29, 15⟩,
   ⟨0x0E, 5, .whole, 1, 0, 0, 15⟩,
   ⟨0x0E, 6, .whole, 1, 0, 0, 15⟩,
   ⟨0x0E, 7, .whole, 1, 0, 0, 15⟩,
   ⟨0x0E, 8, .whole, 1, 0, 0, 15⟩,
   ⟨0x0E, 16, .supply, 6, 2, 9, 15⟩,
   ⟨0x0E, 17, .supply, 6, 0, 0, 15⟩,
   ⟨0x0E, 24, .ain, 40, 5, 0, 15⟩]

/-- The live-status items of subsystem 0x0F: Panel state, Phase, VP, T, Temperature used, DC ledger. -/
def liveRows0F : List LiveRow :=
  [⟨0x0F, 1, .whole, 1, 0, 0, 15⟩,
   ⟨0x0F, 2, .whole, 1, 0, 0, 15⟩,
   ⟨0x0F, 3, .whole, 1, 2, 7, 15⟩,
   ⟨0x0F, 4, .whole, 1, 2, 1, 15⟩,
   ⟨0x0F, 5, .whole, 1, 3, 29, 15⟩,
   ⟨0x0F, 16, .segment, 48, 5, 38, 15⟩]

/-- The live-status items of subsystem 0x10: Detectors probed by the last SELFTEST, Detectors failed in the last SELFTEST. -/
def liveRows10 : List LiveRow :=
  [⟨0x10, 1, .whole, 1, 2, 0, 8⟩,
   ⟨0x10, 2, .whole, 1, 2, 0, 8⟩]

/-- Table 12-10: every live-status item. -/
def liveRows : List LiveRow :=
  liveRows01 ++ liveRows02 ++ liveRows03 ++ liveRows04 ++ liveRows05 ++ liveRows06 ++ liveRows07 ++ liveRows08 ++
   liveRows09 ++ liveRows0A ++ liveRows0B ++ liveRows0C ++ liveRows0D ++ liveRows0E ++ liveRows0F ++ liveRows10

/-- Authentication-failure burst (Table 12-6). -/
def detAuthenticationFailureBurst : Nat := 0x0100
/-- Binding locked out (Table 12-6). -/
def detBindingLockedOut : Nat := 0x0101
/-- Invalid profile strap (Table 12-6). -/
def detInvalidProfileStrap : Nat := 0x0200
/-- Profile-activation failure (Table 12-6). -/
def detProfileActivationFailure : Nat := 0x0201
/-- Profile copy integrity failure (Table 12-6). -/
def detProfileCopyIntegrityFailure : Nat := 0x0202
/-- Profile transition abandoned (Table 12-6). -/
def detProfileTransitionAbandoned : Nat := 0x0203
/-- Discarded command after profile change (Table 12-6). -/
def detDiscardedCommandAfterProfileChange : Nat := 0x0204
/-- Vote disagreement (Table 12-6). -/
def detVoteDisagreement : Nat := 0x0300
/-- Lockstep divergence (Table 12-6). -/
def detLockstepDivergence : Nat := 0x0301
/-- Lane watchdog (Table 12-6). -/
def detLaneWatchdog : Nat := 0x0302
/-- Lane uncorrectable ECC (Table 12-6). -/
def detLaneUncorrectableEcc : Nat := 0x0303
/-- Record CRC mismatch (Table 12-6). -/
def detRecordCrcMismatch : Nat := 0x0304
/-- Lane self-test failure (Table 12-6). -/
def detLaneSelfTestFailure : Nat := 0x0305
/-- State-transfer failure (Table 12-6). -/
def detStateTransferFailure : Nat := 0x0306
/-- Lane held out (Table 12-6). -/
def detLaneHeldOut : Nat := 0x0307
/-- Two-lane safe state (Table 12-6). -/
def detTwoLaneSafeState : Nat := 0x0308
/-- Frame overrun (Table 12-6). -/
def detFrameOverrun : Nat := 0x0309
/-- Function fallback, by cause (Table 12-6). -/
def detFunctionFallbackByCause : Nat := 0x030A
/-- Stale or implausible feedback (Table 12-6). -/
def detStaleOrImplausibleFeedback : Nat := 0x030B
/-- AS pin out of range (Table 12-6). -/
def detAsPinOutOfRange : Nat := 0x0400
/-- Plate open (Table 12-6). -/
def detPlateOpen : Nat := 0x0401
/-- Pair short (Table 12-6). -/
def detPairShort : Nat := 0x0402
/-- Pin short to ground (Table 12-6). -/
def detPinShortToGround : Nat := 0x0403
/-- Pin short to battery (Table 12-6). -/
def detPinShortToBattery : Nat := 0x0404
/-- Degraded bleed (Table 12-6). -/
def detDegradedBleed : Nat := 0x0405
/-- Swapped pair (Table 12-6). -/
def detSwappedPair : Nat := 0x0406
/-- Tap no-response (Table 12-6). -/
def detTapNoResponse : Nat := 0x0407
/-- Plate sensitivity out of range (Table 12-6). -/
def detPlateSensitivityOutOfRange : Nat := 0x0408
/-- Plate resonance shift (Table 12-6). -/
def detPlateResonanceShift : Nat := 0x0409
/-- Calibration stale (Table 12-6). -/
def detCalibrationStale : Nat := 0x040A
/-- Tap deferral (Table 12-6). -/
def detTapDeferral : Nat := 0x040B
/-- Extractor overflow (Table 12-6). -/
def detExtractorOverflow : Nat := 0x040C
/-- Converter clip (Table 12-6). -/
def detConverterClip : Nat := 0x040D
/-- Raw capture preempted (Table 12-6). -/
def detRawCapturePreempted : Nat := 0x040E
/-- Bridge excitation fault (Table 12-6). -/
def detBridgeExcitationFault : Nat := 0x0500
/-- Bridge signal out of range (Table 12-6). -/
def detBridgeSignalOutOfRange : Nat := 0x0501
/-- Moisture cell invalid (Table 12-6). -/
def detMoistureCellInvalid : Nat := 0x0502
/-- Flow-calibration rejected (Table 12-6). -/
def detFlowCalibrationRejected : Nat := 0x0503
/-- Delay not estimable (Table 12-6). -/
def detDelayNotEstimable : Nat := 0x0504
/-- Loss group uncovered (Table 12-6). -/
def detLossGroupUncovered : Nat := 0x0505
/-- Map field erased (Table 12-6). -/
def detMapFieldErased : Nat := 0x0506
/-- Coverage outside extent (Table 12-6). -/
def detCoverageOutsideExtent : Nat := 0x0507
/-- Optimizer stopped, by cause (Table 12-6). -/
def detOptimizerStoppedByCause : Nat := 0x0508
/-- Boost rail below 40 V (Table 12-6). -/
def detBoostRailBelow40V : Nat := 0x0600
/-- Boost rail overvoltage (Table 12-6). -/
def detBoostRailOvervoltage : Nat := 0x0601
/-- Boost converter not reaching 55 V (Table 12-6). -/
def detBoostConverterNotReaching55V : Nat := 0x0602
/-- Boost capacitor degraded (Table 12-6). -/
def detBoostCapacitorDegraded : Nat := 0x0603
/-- Boost timeout (Table 12-6). -/
def detBoostTimeout : Nat := 0x0604
/-- Weak pull-in (Table 12-6). -/
def detWeakPullIn : Nat := 0x0605
/-- Boost-energy limit (Table 12-6). -/
def detBoostEnergyLimit : Nat := 0x0606
/-- Hold-duty limit (Table 12-6). -/
def detHoldDutyLimit : Nat := 0x0607
/-- Valve not seating (Table 12-6). -/
def detValveNotSeating : Nat := 0x0608
/-- Coil short suspected (Table 12-6). -/
def detCoilShortSuspected : Nat := 0x0609
/-- Valve open load (Table 12-6). -/
def detValveOpenLoad : Nat := 0x060A
/-- VLS short to ground (Table 12-6). -/
def detVlsShortToGround : Nat := 0x060B
/-- VLS short to battery (Table 12-6). -/
def detVlsShortToBattery : Nat := 0x060C
/-- Coil short (Table 12-6). -/
def detCoilShort : Nat := 0x060D
/-- Bank short to ground (Table 12-6). -/
def detBankShortToGround : Nat := 0x060E
/-- Bank short to battery (Table 12-6). -/
def detBankShortToBattery : Nat := 0x060F
/-- Low-side thermal shutdown (Table 12-6). -/
def detLowSideThermalShutdown : Nat := 0x0610
/-- Current regulation error (Table 12-6). -/
def detCurrentRegulationError : Nat := 0x0611
/-- Over-current (Table 12-6). -/
def detOverCurrent : Nat := 0x0700
/-- Thermal shutdown (Table 12-6). -/
def detThermalShutdown : Nat := 0x0701
/-- Coupled shutdown (Table 12-6). -/
def detCoupledShutdown : Nat := 0x0702
/-- Retries exhausted (Table 12-6). -/
def detRetriesExhausted : Nat := 0x0703
/-- Clamp energy (Table 12-6). -/
def detClampEnergy : Nat := 0x0704
/-- Output short to battery (Table 12-6). -/
def detOutputShortToBattery : Nat := 0x0705
/-- Open load, off-state (Table 12-6). -/
def detOpenLoadOffState : Nat := 0x0706
/-- Open load, on-state (Table 12-6). -/
def detOpenLoadOnState : Nat := 0x0707
/-- Load above rating (Table 12-6). -/
def detLoadAboveRating : Nat := 0x0708
/-- Aggregate VBAT current (Table 12-6). -/
def detAggregateVbatCurrent : Nat := 0x0709
/-- Channel shed (Table 12-6). -/
def detChannelShed : Nat := 0x070A
/-- Output-stage budget exceeded (Table 12-6). -/
def detOutputStageBudgetExceeded : Nat := 0x070B
/-- Antenna open (Table 12-6). -/
def detAntennaOpen : Nat := 0x0800
/-- Antenna short (Table 12-6). -/
def detAntennaShort : Nat := 0x0801
/-- Antenna overvoltage (Table 12-6). -/
def detAntennaOvervoltage : Nat := 0x0802
/-- Notch capacity (Table 12-6). -/
def detNotchCapacity : Nat := 0x0803
/-- Jamming (Table 12-6). -/
def detJamming : Nat := 0x0804
/-- Inter-system-offset jump (Table 12-6). -/
def detInterSystemOffsetJump : Nat := 0x0805
/-- Corrections stale (Table 12-6). -/
def detCorrectionsStale : Nat := 0x0806
/-- Baseline mismatch (Table 12-6). -/
def detBaselineMismatch : Nat := 0x0807
/-- Inertial fault (Table 12-6). -/
def detInertialFault : Nat := 0x0808
/-- Dead-reckoning limit (Table 12-6). -/
def detDeadReckoningLimit : Nat := 0x0809
/-- Holdover (Table 12-6). -/
def detHoldover : Nat := 0x080A
/-- Time degraded (Table 12-6). -/
def detTimeDegraded : Nat := 0x080B
/-- Time step (Table 12-6). -/
def detTimeStep : Nat := 0x080C
/-- Time not established (Table 12-6). -/
def detTimeNotEstablished : Nat := 0x080D
/-- PPSI missing (Table 12-6). -/
def detPpsiMissing : Nat := 0x080E
/-- Steering refused (Table 12-6). -/
def detSteeringRefused : Nat := 0x080F
/-- Steering disengaged, by cause (Table 12-6). -/
def detSteeringDisengagedByCause : Nat := 0x0810
/-- Link down (Table 12-6). -/
def detLinkDown : Nat := 0x0900
/-- Link degraded (Table 12-6). -/
def detLinkDegraded : Nat := 0x0901
/-- Database overflow (Table 12-6). -/
def detDatabaseOverflow : Nat := 0x0902
/-- Duplicate node (Table 12-6). -/
def detDuplicateNode : Nat := 0x0903
/-- No free node number (Table 12-6). -/
def detNoFreeNodeNumber : Nat := 0x0904
/-- Time-reference change (Table 12-6). -/
def detTimeReferenceChange : Nat := 0x0905
/-- Alignment lost (Table 12-6). -/
def detAlignmentLost : Nat := 0x0906
/-- Sync lost (Table 12-6). -/
def detSyncLost : Nat := 0x0907
/-- Foreign grid (Table 12-6). -/
def detForeignGrid : Nat := 0x0908
/-- Schedule rejected (Table 12-6). -/
def detScheduleRejected : Nat := 0x0909
/-- Redundancy lost (Table 12-6). -/
def detRedundancyLost : Nat := 0x090A
/-- MACHINE_SET mismatch (Table 12-6). -/
def detMachineSetMismatch : Nat := 0x090B
/-- Error passive (Table 12-6). -/
def detErrorPassive : Nat := 0x0A00
/-- Bus-off (Table 12-6). -/
def detBusOff : Nat := 0x0A01
/-- Receive FIFO overflow (Table 12-6). -/
def detReceiveFifoOverflow : Nat := 0x0A02
/-- Identifier collision (Table 12-6). -/
def detIdentifierCollision : Nat := 0x0A03
/-- Address lost (Table 12-6). -/
def detAddressLost : Nat := 0x0A04
/-- Transport aborted (Table 12-6). -/
def detTransportAborted : Nat := 0x0A05
/-- Dominant time-out (Table 12-6). -/
def detDominantTimeOut : Nat := 0x0A06
/-- Bus dominant (Table 12-6). -/
def detBusDominant : Nat := 0x0A07
/-- No acknowledge (Table 12-6). -/
def detNoAcknowledge : Nat := 0x0A08
/-- Bank access error (Table 12-6). -/
def detBankAccessError : Nat := 0x0B00
/-- Mica uncorrectable (Table 12-6). -/
def detMicaUncorrectable : Nat := 0x0B01
/-- Map records lost (Table 12-6). -/
def detMapRecordsLost : Nat := 0x0B02
/-- Churn starvation (Table 12-6). -/
def detChurnStarvation : Nat := 0x0B03
/-- NAND life (Table 12-6). -/
def detNandLife : Nat := 0x0B04
/-- NAND write failure (Table 12-6). -/
def detNandWriteFailure : Nat := 0x0B05
/-- MRAM write failure (Table 12-6). -/
def detMramWriteFailure : Nat := 0x0B06
/-- Recorder queue overflow (Table 12-6). -/
def detRecorderQueueOverflow : Nat := 0x0C00
/-- Recorder area full (Table 12-6). -/
def detRecorderAreaFull : Nat := 0x0C01
/-- Manifest signature failure (Table 12-6). -/
def detManifestSignatureFailure : Nat := 0x0D00
/-- Image authentication failure (Table 12-6). -/
def detImageAuthenticationFailure : Nat := 0x0D01
/-- Update refused (Table 12-6). -/
def detUpdateRefused : Nat := 0x0D02
/-- Rennet abort (Table 12-6). -/
def detRennetAbort : Nat := 0x0D03
/-- Activation fall-back (Table 12-6). -/
def detActivationFallBack : Nat := 0x0D04
/-- Recovery-mode entry (Table 12-6). -/
def detRecoveryModeEntry : Nat := 0x0D05
/-- Brown-out on VSUP (Table 12-6). -/
def detBrownOutOnVsup : Nat := 0x0E00
/-- Brown-out on KEEP (Table 12-6). -/
def detBrownOutOnKeep : Nat := 0x0E01
/-- Clock failure (Table 12-6). -/
def detClockFailure : Nat := 0x0E02
/-- Supervisor watchdog (Table 12-6). -/
def detSupervisorWatchdog : Nat := 0x0E03
/-- Lock-up (Table 12-6). -/
def detLockUp : Nat := 0x0E04
/-- Option and trim load interrupted (Table 12-6). -/
def detOptionAndTrimLoadInterrupted : Nat := 0x0E05
/-- Conservative trim in use (Table 12-6). -/
def detConservativeTrimInUse : Nat := 0x0E06
/-- Boot failure (Table 12-6). -/
def detBootFailure : Nat := 0x0E07
/-- VBAT undervoltage (Table 12-6). -/
def detVbatUndervoltage : Nat := 0x0E08
/-- VBAT overvoltage (Table 12-6). -/
def detVbatOvervoltage : Nat := 0x0E09
/-- Module over-temperature (Table 12-6). -/
def detModuleOverTemperature : Nat := 0x0E0A
/-- STOP_A_N and STOP_B_N disagree (Table 12-6). -/
def detStopANAndStopBNDisagree : Nat := 0x0E0B
/-- Sensor supply fault (Table 12-6). -/
def detSensorSupplyFault : Nat := 0x0E0C
/-- Analog input out of range (Table 12-6). -/
def detAnalogInputOutOfRange : Nat := 0x0E0D
/-- Panel DC ledger out of balance (Table 12-6). -/
def detPanelDcLedgerOutOfBalance : Nat := 0x0F00
/-- Panel update interrupted by power loss (Table 12-6). -/
def detPanelUpdateInterruptedByPowerLoss : Nat := 0x0F01
/-- Segment driver fault (Table 12-6). -/
def detSegmentDriverFault : Nat := 0x0F02
/-- Self-test detector failure (Table 12-6). -/
def detSelfTestDetectorFailure : Nat := 0x1000
/-- Profile activated (Table 12-7). -/
def evProfileActivated : Nat := 0x0280
/-- Lane readmitted (Table 12-7). -/
def evLaneReadmitted : Nat := 0x0380
/-- Quartz channel fault cleared (Table 12-7). -/
def evQuartzChannelFaultCleared : Nat := 0x0480
/-- Valve channel fault cleared (Table 12-7). -/
def evValveChannelFaultCleared : Nat := 0x0680
/-- Load switch latch cleared (Table 12-7). -/
def evLoadSwitchLatchCleared : Nat := 0x0780
/-- Events cleared (RETAINED) (Table 12-7). -/
def evEventsCleared : Nat := 0x0C81
/-- Update staged (Table 12-7). -/
def evUpdateStaged : Nat := 0x0D80
/-- Rennet commit (Table 12-7). -/
def evRennetCommit : Nat := 0x0D81
/-- Update confirmed (Table 12-7). -/
def evUpdateConfirmed : Nat := 0x0D82
/-- Reset (Table 12-7). -/
def evReset : Nat := 0x0E80
/-- Lifecycle change (RETAINED) (Table 12-7). -/
def evLifecycleChange : Nat := 0x0E81
/-- Owner lock set or cleared (RETAINED) (Table 12-7). -/
def evOwnerLockSetOrCleared : Nat := 0x0E82
/-- Standby entry (Table 12-7). -/
def evStandbyEntry : Nat := 0x0E83
/-- Injection start (Table 12-7). -/
def evInjectionStart : Nat := 0x1080
/-- Injection end (Table 12-7). -/
def evInjectionEnd : Nat := 0x1081

/-- The row of a detector, by ID. -/
def detRow (id : Nat) : Option DetRow := detRows.find? (fun r => r.id == id)

/-- The row of an event that no detector raises, by code. -/
def eventRow (code : Nat) : Option EventRow := eventRows.find? (fun r => r.code == code)

/-- The severity of an event code (Tables 12-6 and 12-7). -/
def severityOf (code : Nat) : Nat :=
  match detRow code with
  | some r => r.sev
  | none => match eventRow code with
    | some r => r.sev
    | none => 0

/-- Whether an event code's records go to the privileged area (R319). -/
def isFixedCode (code : Nat) : Bool :=
  match detRow code with
  | some r => r.fixed
  | none => match eventRow code with
    | some r => r.fixed
    | none => false

/-- Whether an event code's records are RETAINED (Table 12-7). -/
def isRetainedCode (code : Nat) : Bool := ((eventRow code).map (·.retained)).getD false

/-- The row of a live-status ID 0xSSFF_0000 + 256 × instance + item (R445). -/
def liveRow (id : Nat) : Option LiveRow :=
  if id / 65536 % 256 = 255 then
    liveRows.find? (fun r => r.ss == id / 16777216 && r.item == id % 256 &&
      (if r.inst = .whole then id / 256 % 256 == 0 else decide (1 ≤ id / 256 % 256) && decide (id / 256 % 256 ≤ r.count)))
  else none

end Sys2Proof.Machine
end

