-- ==== Sys2Proof/Machine/StateEvents.lean ====
section
/-!
DEFINITION. Machine/StateEvents.lean: the state of the event recorder and of fault injection (chapter "Event recorder,
detectors and fault injection").
-/

namespace Sys2Proof.Machine

/-- One recorded event: the fields of Table 12-1, with `last` the frame of the newest merged occurrence (R325; LAST_FRAME
of a snapshot record), the FLAGS bits of Table 12-2 apart, and the snapshot items (Table 12-3; none in a fixed record). -/
structure EvRec where
  rseq : Nat
  code : Nat
  inst : Nat
  lateSnap : Bool
  retained : Bool
  timeEst : Bool
  active : Bool
  injected : Bool
  frame : FrameNo
  last : FrameNo
  opsec : Nat
  pcycle : Nat
  data : Nat
  repeats : Nat
  items : List (Nat × Bytes)
  deriving DecidableEq, Repr

/-- An occurrence waiting for its writer (R323), with the stamps of its own instant. `lasting` says whether its detector
reports a lasting condition (R322), `raw` that it is an event of Table 12-7. -/
structure Occ where
  code : Nat
  inst : Nat
  data : Nat
  lasting : Bool
  injected : Bool
  frame : FrameNo
  timeEst : Bool
  opsec : Nat
  pcycle : Nat
  late : Bool
  deriving DecidableEq, Repr

/-- A fault injection (R332, R333): accepted, and once its frame has come, running. `left` is the remaining time in
milliseconds of a mode 2 hold. -/
structure Inj where
  handle : Nat
  det : Nat
  inst : Nat
  mode : Nat
  left : Nat
  value : Nat
  session : Nat
  role : Nat
  frame : FrameNo
  started : Bool
  count : Nat
  deriving DecidableEq, Repr

/-- The recorder: RSEQ of the next record, OPSEC with its MRAM copy, PCYCLE (R324), the two areas in ascending RSEQ, the
snapshot occurrence queue and the fixed writer's queue (R323), queue drops, the archive (R326), lost counts and area-full
episodes (R327), injections (R333), the lasting conditions now present (detector, instance, whether entered under an
injection; R318, R322) and the last SELFTEST's figures (R335). -/
structure Events where
  nextRseq : Nat
  opsec : Nat
  opsecCopy : Nat
  opsecFrac : Nat
  pcycle : Nat
  fixed : List EvRec
  snaps : List EvRec
  fixq : List Occ
  snapq : List Occ
  drops : Nat
  archive : List EvRec
  archivePriv : List EvRec
  lostFixed : Nat
  lostSnap : Nat
  fullFixed : Bool
  fullSnap : Bool
  injs : List Inj
  present : List (Nat × Nat × Bool)
  probed : Nat
  probeFailed : Nat
  deriving DecidableEq, Repr

end Sys2Proof.Machine
end

