-- ==== Sys2Proof/Machine/StateFabric.lean ====
section
/-!
DEFINITION. Machine/StateFabric.lean: the state of the Brixea fabric (chapter "The Brixea fabric").
-/

namespace Sys2Proof.Machine

/-- The alignment states of Table 9-2. -/
inductive AlignSt where
  | unaligned | aligning | aligned | syncHold | foreign | reference
  deriving DecidableEq, Repr

/-- One fabric port: PHY link, neighbour UID, node and port as its HELLO names them, consecutive HELLOs, the time of the last (ms),
whether the neighbour is up, SQI and since when it has been below FB.SQI_MIN, the last link delays in ps,
FCS errors and link-down count, the last request identifier. -/
structure FbPort where
  link : Bool
  uid : Nat
  node : Nat
  nport : Nat
  row : Nat
  last : Nat
  up : Bool
  sqi : Nat
  lowSince : Option Nat
  delays : List Int
  fcs : Nat
  downs : Nat
  reqId : Nat
  deriving DecidableEq, Repr

/-- A stored LSA and when it was refreshed (ms). -/
structure DbEntry where
  lsa : Lsa
  at' : Nat
  deriving DecidableEq, Repr

/-- A cell's paths in a generation: node and egress port of each hop, the secondary empty if there is none. -/
structure CellPath where
  src : Nat
  cell : Nat
  dst : Nat
  primary : List (Nat × Nat)
  secondary : List (Nat × Nat)
  deriving DecidableEq, Repr

/-- A verdict generation with the paths it implies. -/
structure Generation where
  gen : Nat
  frame : Nat
  cells : List CellVerdict
  paths : List CellPath
  deriving DecidableEq, Repr

/-- A Cream cell accepted for the next record: source, cell, SAFE bits, values (R264). -/
structure CreamRx where
  src : Nat
  cell : Nat
  safe : Nat
  values : List Int
  deriving DecidableEq, Repr

/-- A received Skim flow: source, class, FLOW_ID, expected SEQ (R269). -/
structure SkimFlow where
  src : Nat
  cls : Nat
  flow : Nat
  expect : Nat
  deriving DecidableEq, Repr

/-- A frame that a port has sent. -/
structure FbOut where
  port : Nat
  msg : FbMsg
  deriving DecidableEq, Repr

/-- The fabric: ports, the other modules' LSAs, LSA_SEQ with the last LSA flooded and when (ms), ASSIGN_STAMP, the lost-number flag,
the time reference's UID (0: none yet), alignment with its offset in ps, since when the present phase and the present offset condition
hold (ms), the last SYNC with its time and port, whether the module rejoins after a restart of its fabric state (R272), a step of the
frame number due at the next boundary, the renumber frame it has announced (0: none); the last ASSIGN_STAMP seen for each UID; the
generation in force and those waiting;
the cells accepted for the next record, the values of the module's own schedule entries as last committed with their SAFE bits; Skim
flows received and the next SEQ sent by flow (destination, class, FLOW_ID); counters of FB_STATUS; how many of the mailbox messages sent the fabric has taken; and the frames sent. -/
structure Fabric where
  ports : List FbPort
  db : List DbEntry
  seq : Nat
  flooded : Option Lsa
  floodAt : Nat
  stamp : Nat
  lost : Bool
  ref : Nat
  align : AlignSt
  offset : Int
  since : Nat
  inSince : Option Nat
  outSince : Option Nat
  sync : Option SyncMsg
  syncAt : Nat
  syncPort : Nat
  rejoin : Bool
  step : Option Int
  renumAt : Nat
  assigns : List (Nat × Nat)
  force : Generation
  waiting : List Generation
  rx : List CreamRx
  txVals : List (Int × Bool)
  flows : List SkimFlow
  txSeq : List (Nat × Nat × Nat × Nat)
  missed : Nat
  discarded : Nat
  mismatches : Nat
  gaps : Nat
  framesBad : Nat
  taken : Nat
  tx : List FbOut
  deriving DecidableEq, Repr

end Sys2Proof.Machine
end

