-- ==== Sys2Proof/Machine/StateGnss.lean ====
section
/-!
DEFINITION. Machine/StateGnss.lean: the state of the GNSS receiver, the inertial sensor, module time, paths and steering
(chapter "GNSS, time pulse, inertial aiding and steering").
-/

namespace Sys2Proof.Machine

/-- The antenna states of Table 8-1. -/
inductive AntSt where
  | off | ok | opened | short | overvolt
  deriving DecidableEq, Repr

/-- One antenna: state, measured bias in mA, 10 ms samples that have asked for the next state, when it entered SHORT (ms), samples
left of a trial. -/
structure Antenna where
  st : AntSt
  ma : Nat
  count : Nat
  since : Nat
  trial : Nat
  deriving DecidableEq, Repr

/-- A tracking channel in use (R223): antenna, system, satellite, signal, whether bit or secondary-code synchronisation has
come, and its code and carrier oscillators. -/
structure TrackChan where
  ant : Nat
  sys : Nat
  sat : Nat
  sig : Nat
  synced : Bool
  code : Nat
  carrier : Nat
  deriving DecidableEq, Repr

/-- A search engine (R225): what it searches, the cell it is at, and whether a detection there awaits its second
dwell. -/
structure SearchEng where
  target : Option (Nat × Nat × Nat)
  cell : Nat
  confirming : Bool
  deriving DecidableEq, Repr

/-- One band path of R220: its notches (line, 100 ms below the threshold), whether a line stays unfiltered, J, and 100 ms at or above,
and below, the jamming threshold (R226, R227). -/
structure BandPath where
  notches : List (Int × Nat)
  full : Bool
  j : Nat
  high : Nat
  low : Nat
  jammed : Bool
  deriving DecidableEq, Repr

/-- The RTCM parser (R230): the session whose stream it is, bytes of a message not yet whole, counts, the last accepted type, the base
station, when the last MSM observation came (ms), and whether corrections are stale. -/
structure Rtcm where
  owner : Nat
  buf : Bytes
  accepted : Nat
  dropped : Nat
  crcErrors : Nat
  lastType : Nat
  station : Option Nat
  lastMsm : Option Nat
  stale : Bool
  deriving DecidableEq, Repr

/-- A path (R241): ID, whether a polyline, CHAIN, lateral offset in mm, points in 1e-7°. -/
structure PathDef where
  id : Nat
  poly : Bool
  chain : Bool
  offset : Int
  points : List (Int × Int)
  deriving DecidableEq, Repr

/-- The steering states of Table 8-7. -/
inductive SteerSt where
  | off | engaged | creep | grace
  deriving DecidableEq, Repr

/-- Steering (R243, R244): state, the last disengage cause (GN_STATUS 61), the setpoint it holds, frames in GRACE, whether a type of
at least GN.STEER_MIN_TYPE preceded dead reckoning. -/
structure Steer where
  st : SteerSt
  cause : Nat
  sp : Int
  frames : Nat
  typeOk : Bool
  deriving DecidableEq, Repr

/-- The time states of Table 8-5. -/
inductive TimeSt where
  | noTime | locked | holdover | degraded | recovering
  deriving DecidableEq, Repr

/-- Module time (R234 to R240): state, source (Table 8-6), whether this module is the fabric's time reference, the held and the
measured grid offset in 0.01 ps, the frequency correction in 0.01 ppb as the locked value and the grid steering on top of it, when the last time solution was accepted (ms), its
uncertainty and frequency uncertainty, u0, df and the entry of HOLDOVER (ms), a step in ns and the second it is announced for (0: not yet), a
renumbering that waits with its D and since when, whether the remainder is slewing before establishment, LEAP, the source the
frame counter was loaded from, the latest time message, PPSI's last edge with its time and whether edges were present, the last
pulse emitted (second, k, q_ps, width in ms), and the reference's message as carried by the fabric. -/
structure TimeState where
  st : TimeSt
  source : Nat
  isRef : Bool
  held : Int
  meas : Int
  freq : Int
  steer : Int
  lastAccept : Option Nat
  unc : Nat
  freqUnc : Nat
  u0 : Nat
  df : Nat
  since : Nat
  step : Option Int
  stepAt : Nat
  renumber : Option Int
  renumSince : Nat
  slewing : Bool
  leap : Nat
  loaded : Nat
  msg : Bytes
  ppsiFrame : Nat
  ppsiCycle : Nat
  ppsiAt : Option Nat
  ppsiSeen : Bool
  pulse : Option (Nat × Int × Int × Nat)
  refMsg : Bytes
  deriving DecidableEq, Repr

/-- The receiver, inertial sensor, paths and steering: antennas, channels, candidates, search engines, band paths, RTCM, the
epoch being solved and its fix, the part latest released with satellites used by system, the IMU's health (OK, self-test passed,
self-test running, samples saturated and unchanged by axis, last raw sample), dead reckoning since (ms), last GNSS type, a baseline mismatch
since (ms), baseline length, heading source, inertial heading since (ms), the offsets in 0.1 ns with the times of their estimates, a seed
position, satellites tracked, the current and the next path, the current segment, whether the path has ended, and steering. -/
structure Gnss where
  ants : List Antenna
  chans : List TrackChan
  cands : List SatCand
  engines : List SearchEng
  paths : List BandPath
  rtcm : Rtcm
  epoch : Option (FrameNo × NavFix)
  part : GnssPart
  perSys : List Nat
  imuOk : Bool
  imuPassed : Bool
  imuTest : Bool
  sat : List Nat
  same : List Nat
  raw : List Int
  gyroBias : List Int
  accBias : List Int
  drSince : Option Nat
  lastType : Nat
  badBase : Option Nat
  baseLen : Nat
  hdgSrc : Nat
  insSince : Option Nat
  gal : Option (Int × Nat)
  bds : Option (Int × Nat)
  seed : Option (Int × Int × Int)
  tracked : Nat
  current : Option PathDef
  next : Option PathDef
  segment : Nat
  ended : Bool
  steer : Steer
  time : TimeState
  deriving DecidableEq, Repr

end Sys2Proof.Machine
end

