-- ==== Sys2Proof/Machine/StateGranite.lean ====
section
/-!
DEFINITION. Machine/StateGranite.lean: the state of Granite: lanes, modes, functions, loops, capture and replay (chapter
"Granite control: frames, lanes and control laws").
-/

namespace Sys2Proof.Machine

/-- The Granite modes of Table 3-3. -/
inductive GrMode where
  | start | triple | dual | safe
  deriving DecidableEq, Repr

/-- The lane states of Table 3-4, and the time before the lanes start. -/
inductive LaneSt where
  | start | active | selftest | transfer | excludedWait | heldOut
  deriving DecidableEq, Repr

/-- One lane: state, last cause (Table 3-12), the times in ms of its exclusions in the window, corrected ECC count, frames
of the last exclusion and readmission, when the present phase began, whether its L3 unit reset still runs, frames spent in
TRANSFER, whether it joins at the next frame boundary. -/
structure Lane where
  st : LaneSt
  cause : Nat
  excl : List Nat
  ecc : Nat
  lastExcl : FrameNo
  lastJoin : FrameNo
  since : Nat
  inReset : Bool
  tries : Nat
  joins : Bool
  deriving DecidableEq, Repr

/-- The function states of Table 3-9. -/
inductive FnSt where
  | disabled | enabled | ramp | safe
  deriving DecidableEq, Repr

/-- One of F01–F30: state, setpoint, the output last committed, the output computed in this frame and not yet committed, the
ramp's value and remaining frames (R98), the last fallback cause, frames of feedback fault and whether the feedback hold is
on (R106), whether it starts at the next frame (R69), and whether its last fallback was marked as injected (R334). -/
structure Fn where
  st : FnSt
  sp : Int
  out : Int
  next : Int
  rampV : Int
  rampR : Nat
  cause : Nat
  badFb : Nat
  hold : Bool
  starts : Bool
  inj : Bool
  deriving DecidableEq, Repr

/-- What sets a loop's integrator at its next sample (R93): nothing, the swap rule, or a given target. -/
inductive SwapDue where
  | none | rule | target (v : Int)
  deriving DecidableEq, Repr

/-- The state of one loop slot (R91); `fresh` marks a loop that starts and takes its first feedback as fb_prev. -/
structure Loop where
  i : Int
  d : Int
  fbPrev : Int
  vPrev : Int
  uPrev : Int
  satPrev : Int
  fresh : Bool
  swap : SwapDue
  deriving DecidableEq, Repr

/-- The capture file (R103, Table 3-11): first frame, frames wanted and held, whether the capture still runs, the bytes. -/
structure Capture where
  first : FrameNo
  want : Nat
  held : Nat
  running : Bool
  data : Bytes
  deriving DecidableEq, Repr

/-- The replay state of Table 3-12. -/
inductive ReplaySt where
  | idle | running | done
  deriving DecidableEq, Repr

/-- Replay: state, result, first record index and count of the run, frames run, mismatching ticks, the first mismatching
frame and its tick (R100). -/
structure Replay where
  st : ReplaySt
  result : Nat
  first : Nat
  count : Nat
  frames : Nat
  mismatches : Nat
  badFrame : FrameNo
  badTick : Nat
  deriving DecidableEq, Repr

/-- Granite: mode, whether the lanes run frames, lanes, SAFE_A and SAFE_B, the closed and the released record, derived
signals of KIND 9 and 10 (R143, R242), functions, loops by slot, overruns and frame work (Table 3-12),
capture and replay. `cur` is the released record, `tick` the tick in progress, `fire` the accumulators of pulse pairs (R177), `work` the firmware work
of the frame in CLK_CTL cycles once the deadline has judged it. -/
structure Granite where
  mode : GrMode
  running : Bool
  lanes : List Lane
  safeA : Bool
  safeB : Bool
  dualSince : FrameNo
  next : InRec
  cur : InRec
  derived : List SensVal
  tickNext : List Int
  tickRec : List Int
  tick : Nat
  fns : List Fn
  fire : List (Nat × Int)
  loops : List (Nat × Loop)
  overruns : Nat
  consec : Nat
  overran : Bool
  lastWork : Nat
  peakWork : Nat
  capture : Option Capture
  replay : Replay
  deriving DecidableEq, Repr

end Sys2Proof.Machine
end

