-- ==== Sys2Proof/Machine/StateIo.lean ====
section
/-!
DEFINITION. Machine/StateIo.lean: the measured quantities every chapter reads (supply voltages, temperature, the boost rail), the gate
supply of the power stages, and the analog and frequency inputs (R433, R434).
-/

namespace Sys2Proof.Machine

/-- One AIN channel: the raw value last formed (R433), frames in a row below 1,000 µA or outside the voltage range, and when its
current-mode shunt opened (ms; none: connected). -/
structure AinChan where
  raw : Int
  low : Nat
  above : Nat
  openAt : Option Nat
  deriving DecidableEq, Repr

/-- One FQ channel: the raw value in mHz, whether 2,000 ms have passed without an edge, and when the last edge came (ms; R433). -/
structure FqChan where
  raw : Nat
  still : Bool
  edge : Nat
  deriving DecidableEq, Repr

/-- The latest measured supplies in mV (VSUP, VBAT, KEEP), the module temperature in 0.1 °C, the valve boost rail in mV
(R191, R392), whether STOP_A_N and STOP_B_N are asserted at D9 (R64), whether the D9 gate supply is on (R372), whether VBAT is out of
range (VBAT_LOW or VBAT_HIGH, R390), and the AIN and FQ channels. -/
structure Analog where
  vsup : Nat
  vbat : Nat
  keep : Nat
  temp : Int
  rail : Nat
  stopA : Bool
  stopB : Bool
  gate : Bool
  vbatOut : Bool
  ains : List AinChan
  fqs : List FqChan
  deriving DecidableEq, Repr

end Sys2Proof.Machine
end

