-- ==== Sys2Proof/Machine/StateLoad.lean ====
section
/-!
DEFINITION. Machine/StateLoad.lean: the state of the protected load switches (chapter "Protected load switches").
-/

namespace Sys2Proof.Machine

/-- The load switch states of Table 7-2. -/
inductive LsSt where
  | off | start | retryWait | on | limit | cool | shed | demag | latched
  deriving DecidableEq, Repr

/-- One load switch: state, cause (LS_STATUS byte 3), whether its on-request stands, the duty commanded and applied in 0.01 %,
the end of the inrush window and whether it waits for the first on-edge (R199), whether the next turn-on is made in the
start-up phase and whether that phase runs (R200, R201), retries left, the start of the attempt or turn-on, since when it is
in limit and when it last was (R203, R204), coupled shutdowns of the last 60 s (ms), a request queued in DEMAG, whether DEMAG
leads to SHED, the thermal latch, the open-load bit, junction in 0.1 °C now and at turn-off, current in mA, the 1 s currents,
counters of LS_STATUS, the voltages of the last off-state diagnosis, a running ON_TEST and since when the current has been
below 50 mA; the duty that LS_COMMAND last set, before lamp compensation. Instants in µs unless said otherwise. -/
structure LsChan where
  st : LsSt
  cause : Nat
  req : Bool
  duty : Nat
  applied : Nat
  inrush : Option Nat
  edge : Bool
  armed : Bool
  startup : Bool
  retries : Nat
  since : Nat
  limitAt : Option Nat
  limitEnd : Option Nat
  coupled : List Nat
  queued : Bool
  toShed : Bool
  hot : Bool
  openLoad : Bool
  tj : Int
  tjOff : Int
  ma : Nat
  mas : List Nat
  turnOns : Nat
  shutdowns : Nat
  demagUs : Nat
  clampMj : Nat
  v1 : Nat
  v2 : Nat
  test : Option Nat
  host : Option Nat
  deriving DecidableEq, Repr

/-- The load switches: channels, the dissipation of the last 1,000 ms in mW and of it the valve stages, the clamp energy booked
in this millisecond (mJ), the aggregate VBAT currents of the last 1,000 ms in mA, shed channels in the order of shedding, and
since when the mean has been above 16,000 mW, at or below 14,000 mW, and when a channel was last shed or restored (ms); and
the channels that LS_LATCH_CLEAR releases at the next frame boundary (R218). -/
structure Loads where
  chans : List LsChan
  mw : List Nat
  valveMw : List Nat
  clampNow : Nat
  vbatMa : List Nat
  shed : List Nat
  above : Option Nat
  below : Option Nat
  lastStep : Nat
  clearing : List Nat
  deriving DecidableEq, Repr

end Sys2Proof.Machine
end

