-- ==== Sys2Proof/Machine/StateMica.lean ====
section
/-!
DEFINITION. Machine/StateMica.lean: the state of Mica, of the managed NAND and of the background activities (chapter "Mica scratchpad and
storage").
-/

namespace Sys2Proof.Machine

/-- The content of Mica: address and byte in rising order, no entry 0 (Mica is zeroed, R305). -/
abbrev Memory := List Host.Cell

/-- One bank: power state, whether its zeroing has ended, corrected errors, whether it is due a scrub in full, cycles for which port B is
still occupied. -/
structure Bank where
  st : BankSt
  ready : Bool
  corrected : Nat
  scrub : Bool
  busyB : Nat
  deriving DecidableEq, Repr

/-- The states of the shared ring (Table 11-5). -/
inductive RingSt where
  | free | capture | staging
  deriving DecidableEq, Repr

/-- What an access gave its master: the value read, or an access error. -/
structure MicaAnswer where
  master : Nat
  value : Bytes
  error : Bool
  deriving DecidableEq, Repr

/-- Mica and storage: banks, content, loss counts (key 16 × bank + master), promotions by master, the answers of the last cycle; errors
since L1 with the last uncorrectable address and frame, the record part that the next input latch shows as not fresh (0 sensors, 1 Quartz, 2
GNSS, 3 CAN, 4 Cream); the scrub's next line, lines in the pass, when the last pass ended (ms); the shared ring with since when (ms) and
whether a staging waits for it; by activity of Table 11-6 when it was last served (ms) and its last starvation record; converters by kind and
number with their last self-calibration (ms), and the one without samples in this frame; almanac pages by system; NAND life in %, write and
MRAM retries, writes that failed once, map pages in flight (field, records), records flushed since MAP_FLUSH was accepted, frame of the last
durable flush, telemetry bytes; mirror frames sent (field, SEQ, first record, records) and pages to send (field, first record, records). -/
structure Mica where
  banks : List Bank
  mem : Memory
  losses : List (Nat × Nat)
  promotions : List Nat
  answers : List MicaAnswer
  corrected : Nat
  uncorrectable : Nat
  badAddr : Nat
  badFrame : FrameNo
  badPart : Option Nat
  scrubAt : Nat
  lines : Nat
  passAt : Nat
  ring : RingSt
  ringSince : Nat
  stagingWaits : Bool
  served : List Nat
  starved : List (Option Nat)
  converters : List (Nat × Nat)
  calibrating : Option (Nat × Nat)
  almanac : List (Nat × Bytes)
  life : Nat
  nandRetries : Nat
  mramRetries : Nat
  failed : List NandWrite
  flight : Option (Nat × Nat)
  flushed : Nat
  flushFrame : FrameNo
  telemetry : Nat
  mirrored : List (Nat × Nat × Nat × Nat)
  mirrorq : List (Nat × Nat × Nat)
  deriving DecidableEq, Repr

end Sys2Proof.Machine
end

