-- ==== Sys2Proof/Machine/StatePanel.lean ====
section
/-!
DEFINITION. Machine/StatePanel.lean: the state of the service panel (chapter "Bistable service panel").
-/

namespace Sys2Proof.Machine

/-- The panel states of Table 16-3; `off` is the driver without power or in reset. -/
inductive PanSt where
  | off | idle | compensate | update | paused | fault
  deriving DecidableEq, Repr

/-- The MRAM copy of the images, the uncertain marks and the ledgers (R411, R412). -/
structure PanelCopy where
  displayed : Nat
  target : Nat
  uncertain : Nat
  ledgers : List Int
  deriving DecidableEq, Repr

/-- The panel: state, phase (0 none, 1–3 P1–P3, 4–5 C1–C2), whether the guard after it runs, the start of the phase or guard (µs); VP in mV,
T in ms and the temperature used in 0.1 °C; images with bit n − 1 for SEGn, uncertain marks, segments no longer driven; the ledgers in
mV·ms; the running update's segments going dark and light, the compensation times in µs of C1 and C2 (segment, time); whether REFRESH is asked for,
the last sequence number given, the pending update's and the running one's, the frame after whose boundary it may start; start (ms) and end
(ms) of the last update; whether R414 is due; updates completed and interrupted, the last completed sequence; the MRAM copy; and an
interruption to be recorded at the next boot (phase, ms). -/
structure Panel where
  st : PanSt
  phase : Nat
  guard : Bool
  since : Nat
  vp : Nat
  t : Nat
  temp : Int
  displayed : Nat
  target : Nat
  uncertain : Nat
  dead : Nat
  ledgers : List Int
  dark : Nat
  light : Nat
  c1 : List (Nat × Nat)
  c2 : List (Nat × Nat)
  refresh : Bool
  seq : Nat
  waiting : Option Nat
  running : Option Nat
  after : FrameNo
  started : Option Nat
  ended : Option Nat
  recover : Bool
  completed : Nat
  interrupted : Nat
  lastDone : Nat
  copy : PanelCopy
  broken : Option (Nat × Nat)
  deriving DecidableEq, Repr

end Sys2Proof.Machine
end

