-- ==== Sys2Proof/Machine/StatePower.lean ====
section
/-!
DEFINITION. Machine/StatePower.lean: the state of supplies, domains, standby and clocks (chapter "Power domains, standby and
clocks").
-/

namespace Sys2Proof.Machine

/-- The VBAT states of Table 15-3. -/
inductive VbatSt where
  | normal | low | high
  deriving DecidableEq, Repr

/-- The states of a sensor supply (POWER_STATUS). -/
inductive SupSt where
  | off | on | limit | fault
  deriving DecidableEq, Repr

/-- One sensor supply: state, current in mA, whether it is off for a short to VBAT, and when it was last switched off or tried (ms; R393). -/
structure SensorSupply where
  st : SupSt
  ma : Nat
  short : Bool
  since : Nat
  deriving DecidableEq, Repr

/-- The domain states of Table 15-5. -/
inductive DomSt where
  | off | reset | on | reduced | serviceOff
  deriving DecidableEq, Repr

/-- Standby: the module runs (with a STANDBY_ENTER accepted or not), enters standby, or is in it. -/
inductive StandbyPh where
  | awake | entering | asleep
  deriving DecidableEq, Repr

/-- Standby state held in Basalt (R396 to R399): phase, mode (1 deep, 2 bus-listen), wake mask, RTC alarm frame, frame of application N and
when entry began (ms); whether a STANDBY_ENTER is accepted; the wake parameters as copied; causes latched; last mode, last wake cause and
the frame of the last wake; the horizon to be reported after the wake. -/
structure Standby where
  ph : StandbyPh
  mode : Nat
  mask : Nat
  alarm : Nat
  frame : FrameNo
  since : Nat
  accepted : Bool
  cfg : List Nat
  latched : List Nat
  lastMode : Nat
  wakeCause : Nat
  wakeFrame : FrameNo
  horizon : Option FrameNo
  deriving DecidableEq, Repr

/-- Power: VSUP_REDUCED, the VBAT state, thermal gating (R402), sensor supplies, domains D0 to D12 with their power in mW, VSUP input power
in mW, since when the STOP inputs disagree (ms), VCO lock, whether CLK_KEEP runs and the RTC is valid, WK1–WK4 levels, and standby. -/
structure Power where
  vsupReduced : Bool
  vbat : VbatSt
  gated : Bool
  sups : List SensorSupply
  doms : List DomSt
  mw : List Nat
  inMw : Nat
  stopDiff : Option Nat
  vco : Bool
  clkKeep : Bool
  rtcValid : Bool
  wk : Nat
  sb : Standby
  deriving DecidableEq, Repr

end Sys2Proof.Machine
end

