-- ==== Sys2Proof/Machine/StateProfile.lean ====
section
/-!
DEFINITION. Machine/StateProfile.lean: the state of profiles, of the working copy and of parameters (chapter "Profiles and
the machine description"; R47, R48 for parameters).
-/

namespace Sys2Proof.Machine

/-- One NAND copy of a stored profile slot: generation and image bytes; `good` is the storage's integrity check (R73). -/
structure SlotCopy where
  gen : Nat
  image : Bytes
  good : Bool
  deriving DecidableEq, Repr

/-- The content of a profile image: header fields of Table 2-2 and the entries of each section (Table 2-4). The parameter
section holds the values listed, in ascending ID. -/
structure Image where
  csMinor : Nat
  pflags : Nat
  revision : Nat
  machineSet : Nat
  name : Bytes
  funcs : List Bytes
  sensors : List Bytes
  params : List (Nat × Int)
  banks : List Bytes
  groups : List Bytes
  cream : List Bytes
  canTable : List Bytes
  crops : List Bytes
  present : List Nat
  deriving DecidableEq, Repr

/-- The staging buffer of PROFILE_WRITE (R72): owner session, bytes, and the positions written so far as a list of disjoint
spans. -/
structure Staging where
  session : Nat
  data : Bytes
  written : List Bool
  last : Nat
  deriving DecidableEq, Repr

/-- A PROFILE_SELECT accepted and not yet applied: the validated copy (R67), named by its place in acceptance order. -/
structure Selected where
  order : Nat
  slot : Nat
  image : Image
  crc : Nat
  deriving DecidableEq, Repr

/-- A save in progress (R73): the slot, which of its copies is written, the new generation and image, and whether its source is the working
copy. -/
structure Saving where
  slot : Nat
  copy : Nat
  gen : Nat
  image : Bytes
  fromWork : Bool
  deriving DecidableEq, Repr

/-- A PARAM_SET's module settings on their way to NAND (R48): the values before, when the write was applied, and whether the device has failed it
twice. -/
structure SettingWrite where
  before : List (Nat × Int)
  since : Nat
  failed : Bool
  deriving DecidableEq, Repr

/-- Profiles: the stored slots (two copies each, R73), the working copy, what is active and why (Table 2-7), the strap value
(R57), staging, selections handed over, a save in progress, module settings (sorted, only values that differ from the
default) with their writes not yet durable, and the transports that stay open after PS (R55), whether Granite is to start, and the place in acceptance order of the
first command accepted after the latest activation (R70). -/
structure Profiles where
  slots : List (List SlotCopy)
  work : Image
  active : Nat
  source : Nat
  modified : Bool
  crc : Nat
  since : FrameNo
  strap : Nat
  none : Bool
  staging : Option Staging
  selected : List Selected
  saving : Option Saving
  settings : List (Nat × Int)
  writes : List SettingWrite
  psOpen : Bool
  startPending : Bool
  actOrder : Nat
  deriving DecidableEq, Repr

end Sys2Proof.Machine
end

