-- ==== Sys2Proof/Machine/StateReset.lean ====
section
/-!
DEFINITION. Machine/StateReset.lean: the state of reset, start-up and the lifecycle (chapter "Reset, start-up and
lifecycle").
-/

namespace Sys2Proof.Machine

/-- How far the release of Table 14-4 and the boot of Table 14-6 have come: Basalt held (`cold`), the L1 boundary (`system`), the option and
trim load, the VCO lock wait, the L2 boundary with D8, D1–D3 and D10–D12 released (`compute`), D4 released and the supervisor image loading
(`rom`), firmware running (`firmware`), lane image loaded (`lanes`), profile active (`active`), boot complete (`done`), and ROM recovery
mode (R360). -/
inductive Stage where
  | cold | system | loading | clocks | compute | rom | firmware | lanes | active | done | recovery
  deriving DecidableEq, Repr

/-- A RESET_REQUEST accepted: level applied, unit, and when its response was sent (ms). -/
structure ResetReq where
  level : Nat
  unit : Nat
  at' : Nat
  deriving DecidableEq, Repr

/-- A lifecycle transition written as an intent (R381): target state, reset-map word. -/
structure Intent where
  target : Nat
  map : Nat
  deriving DecidableEq, Repr

/-- Reset and lifecycle state: whether the supervisor runs, the stage, whether an L2 restart runs (R375), asserted sources with their levels
(bit numbers of Table 12-7), the open episode (level, mask) and whether its wipe is done, the episodes whose record is not yet written, the last
episode, the interrupted-load count, conservative trim, the reset-map word in Basalt's shadow and as burned; lifecycle state, owner lock,
PERMIT_SERVICE (ms), the role keys in the order of Table 1-6, whether the OEM key and the SERVICE key are provisioned ones, the OEM manifest key and
whether it is revoked, Folnimi manifest keys revoked, entries into SERVICE, a transition intent; a reset requested; consecutive failed
boots and whether the present boot has been counted, the last boot's duration in ms, when the present
boot or L2 restart began (ms), and RSTOUT_N high. -/
structure ResetLife where
  supUp : Bool
  stage : Stage
  restart : Bool
  asserted : List (Nat × Nat)
  episode : Option (Nat × Nat)
  wiped : Bool
  causes : List (Nat × Nat)
  lastLevel : Nat
  lastMask : Nat
  loadCount : Nat
  consTrim : Bool
  map : Nat
  fuses : Nat
  lifecycle : Nat
  ownerLock : Bool
  permit : Option Nat
  keys : List (Option Bytes)
  oemOwn : Bool
  manifestKey : Option Bytes
  manifestRevoked : Bool
  revoked : Nat
  entries : Nat
  intent : Option Intent
  request : Option ResetReq
  failed : Nat
  counted : Bool
  bootMs : Nat
  bootAt : Nat
  rstout : Bool
  deriving DecidableEq, Repr

end Sys2Proof.Machine
end

