-- ==== Sys2Proof/Machine/StateUpdate.lean ====
section
/-!
DEFINITION. Machine/StateUpdate.lean: the state of field update, of Rennet and of the motion and supply conditions (chapter "Field
update and recovery").
-/

namespace Sys2Proof.Machine

/-- A part entry of a manifest (Table 13-3). -/
structure UpPart where
  type : Nat
  targets : Nat
  version : Bytes
  plain : Nat
  chunks : Nat
  iv : Bytes
  wrapped : Bytes
  digest : Bytes
  deriving DecidableEq, Repr

/-- A manifest (Table 13-2): its bytes, key index, FULL, MACHINE, MANIFEST_ID, security version, MACHINE_SET, firmware release, module
entries (unique ID, expected node) and parts. -/
structure Manifest where
  raw : Bytes
  key : Nat
  full : Bool
  machine : Bool
  id : Nat
  sec : Nat
  mset : Nat
  fw : Bytes
  mods : List (Nat × Nat)
  parts : List UpPart
  deriving DecidableEq, Repr

/-- The update states of Table 13-7. -/
inductive UpSt where
  | idle | staging | staged | prepared | committing | activated
  deriving DecidableEq, Repr

/-- The states of a commit record (Table 13-8), in the order of their codes. -/
inductive CommitSt where
  | none | prepared | decided | committing | activated | aborted | fallenBack | confirmed
  deriving DecidableEq, Repr

/-- A commit record (Table 13-8); the valid copy with the higher generation. -/
structure CommitRec where
  id : Nat
  st : CommitSt
  leader : Bool
  gen : Nat
  frame : FrameNo
  leaderUid : Nat
  slotMap : Nat
  oldMap : Nat
  sec : Nat
  deriving DecidableEq, Repr

/-- One part in this module's staging: its index, ciphertext bytes taken from the host or predecessor in order, the bytes of the chunk not yet
whole, chunks accepted, failures of the present chunk and of the whole part, whether verified, whether failed. -/
structure PartProg where
  index : Nat
  next : Nat
  partial' : Bytes
  accepted : Nat
  fails : Nat
  whole : Nat
  verified : Bool
  failed : Bool
  deriving DecidableEq, Repr

/-- A chunk waiting in the shared ring for the successor: manifest, part, chunk, bytes, whether it has been sent (R349). -/
structure RelayChunk where
  man : Nat
  part : Nat
  chunk : Nat
  data : Bytes
  sent : Bool
  deriving DecidableEq, Repr

/-- What this module knows of a module of the manifest: unique ID, state code of UPDATE_STATUS, result, bytes verified and to stage, frame of
its swap, its vote (YES, reason), whether it has acknowledged the decision, whether it has confirmed. -/
structure UpMod where
  uid : Nat
  st : Nat
  result : Nat
  verified : Nat
  stage : Nat
  swap : FrameNo
  vote : Option (Bool × Nat)
  acked : Bool
  confirmed : Bool
  deriving DecidableEq, Repr

/-- An image slot: the part it holds (version, MANIFEST_ID) and its ciphertext. -/
structure ImageSlot where
  version : Bytes
  manifest : Nat
  data : Bytes
  deriving DecidableEq, Repr

/-- The old-format copies kept until confirmation (R358): profile slots and module settings, and the state of the profile staging default. -/
structure OldCopies where
  slots : List (List (Nat × Bytes × Bool))
  settings : List (Nat × Int)
  deriving DecidableEq, Repr

/-- What a module knows of one manifest (Table 13-7): the manifest, its state here, whether this is the entry module, the session that
began it, the predecessor's and the entry module's node; the parts it takes or passes on, the chunk being received (part, chunk, bytes); the
last result, the modules, the commit frame, the leader's decision and when messages of Rennet were last sent (ms). -/
structure Camp where
  man : Manifest
  st : UpSt
  entry : Bool
  session : Nat
  pred : Nat
  entryNode : Nat
  parts : List PartProg
  chunkRx : Option (Nat × Nat × Bytes)
  result : Nat
  mods : List UpMod
  frame : FrameNo
  decision : Option Bool
  sentAt : Nat
  deriving DecidableEq, Repr

/-- Update and motion: whether the module moves and when it last did (ms; none: never since start), its own evidence (1 MOVING, 2 STILL, 3
UNKNOWN), the peers' last MOTION messages (node, evidence, ms) and when MOTION was last sent (ms); whether the supply condition holds; the
manifests known, the newest last; chunks waiting for the successor and manifests being received (ID, sender, bytes); the commit record;
image slots by region (slot 0 and 1) with the active map; the security-version minimum; old-format copies; when UPDATE_CONFIRM was
accepted (ms); and the modules still to be told of a fall-back. -/
structure Update where
  moving : Bool
  movedAt : Option Nat
  evidence : Nat
  peers : List (Nat × Nat × Nat)
  motionAt : Nat
  supplyOk : Bool
  camps : List Camp
  relay : List RelayChunk
  manRx : List (Nat × Nat × Bytes)
  commit : CommitRec
  slots : List (Option ImageSlot × Option ImageSlot)
  active : Nat
  secMin : Nat
  old : Option OldCopies
  confirmAt : Option Nat
  toTell : List Nat
  deriving DecidableEq, Repr

end Sys2Proof.Machine
end

