-- ==== Sys2Proof/Machine/StateValve.lean ====
section
/-!
DEFINITION. Machine/StateValve.lean: the state of the valve drive (chapter "Valve drive and digital hydraulics").
-/

namespace Sys2Proof.Machine

/-- The valve channel states of Table 6-2. -/
inductive VdSt where
  | idle | wait | defer | boost | pullBat | peak | hold | release | observe | off | regulate | fault
  deriving DecidableEq, Repr

/-- A pending fire (R178): its frame, T_on and T_off in µs. -/
structure VdFire where
  frame : FrameNo
  tOn : Nat
  tOff : Nat
  deriving DecidableEq, Repr

/-- A running pulse: its fire, the actual start of BOOST or PULL_BAT, the boost-start instant, when its present phase began,
when PULL_BAT pulls on battery, BOOST or PULL_BAT time, deferral, the start of RELEASE, the opening delay, whether an opening
is sought, and its flags (VD_TIMING_READ byte 20). Instants in µs. -/
structure VdPulse where
  fire : VdFire
  startAt : Nat
  instant : Nat
  since : Nat
  onAt : Option Nat
  boostTime : Nat
  deferral : Nat
  relAt : Nat
  opening : Option Nat
  seek : Bool
  restarted : Bool
  deferred : Bool
  weak : Bool
  reduced : Bool
  limited : Bool
  timeout : Bool
  deriving DecidableEq, Repr

/-- A VD_COMMAND PULSE train: fires left, spacing and on-time in µs, the next fire (R177, R193). -/
structure VdTrain where
  left : Nat
  spacing : Nat
  onTime : Nat
  next : Nat
  deriving DecidableEq, Repr

/-- One valve channel: state, fault cause, pending fire, running pulse, estimates (R183), counters (VD_STATUS), consecutive
no-seat and early-peak pulses, the boost-energy window (µJ a ms) and the hold-duty window (µs a 100 ms) with their sums in
progress (R184), the hold-duty limit, an energy-limited episode, the timing ring (R185), the host's train and current (R193),
the current D9 regulates by itself in mA (R190), the duty commanded and applied in 0.01 % (R187, R188), the measured current in
mA, and the latest off-state voltages. -/
structure VdChan where
  st : VdSt
  cause : Nat
  fire : Option VdFire
  pulse : Option VdPulse
  openEst : Nat
  closeEst : Nat
  pulses : Nat
  weak : Nat
  noSeat : Nat
  suppressed : Nat
  superseded : Nat
  noSeatRow : Nat
  earlyRow : Nat
  energyNow : Nat
  energy : List Nat
  holdFrom : Option Nat
  holdNow : Nat
  holds : List Nat
  limited : Bool
  episode : Bool
  ring : List Bytes
  train : Option VdTrain
  regMa : Option Nat
  duty : Nat
  applied : Nat
  current : Nat
  diag : VdDiag
  deriving DecidableEq, Repr

/-- One bank: whether it is on, since when it is off (µs), whether a short to VBAT disables its boost (Table 6-6). -/
structure VdBank where
  on : Bool
  offSince : Nat
  noBoost : Bool
  deriving DecidableEq, Repr

/-- The boost converter (VD_STATUS byte 10). -/
inductive VdConv where
  | off | regulating | latched
  deriving DecidableEq, Repr

/-- The valve drive: channels, banks, the converter with its charging, when it was enabled (ms) and whether it has reached
55 V since, and the last 16 capacitance estimates in µF (R172, R174). -/
structure Valves where
  chans : List VdChan
  banks : List VdBank
  conv : VdConv
  charging : Bool
  convSince : Nat
  reached : Bool
  caps : List Nat
  deriving DecidableEq, Repr

end Sys2Proof.Machine
end

