-- ==== Sys2Proof/Machine/StateInit.lean ====
section
/-!
DEFINITION. Machine/StateInit.lean: every part of the state at a power-on reset: the values that the specification gives, and where it
gives none zero or the value that log entry 5 names.
-/

namespace Sys2Proof.Machine

/-- Nothing counted. -/
def qzAcc0 : QzAcc := ⟨0, 0, 0, 0, 0, 0, false, false⟩

/-- A channel's tap state with nothing done: GC 1.0, next tap due at once (R127, R135). -/
def qzTap0 : QzTap :=
  { gc := 65536, f := 0, nextCal := none, calGen := 0, dueAt := none, forced := false, requested := false, last := none,
    ended := none, analysis := false, teach := none, teachFailed := false, result := 0, noResp := 0, good := 0, other := 0,
    lastGood := none, stale := false, deferred := false }

/-- A channel in OFF. -/
def qzChan0 : QzChan :=
  { st := .off, cause := 0, gain := 1, inverted := false, invNext := false, tap := qzTap0, diagDue := false,
    diagReq := false, lastDiag := none, diagResult := 0, diagPass := 0, lastOnset := none, started := 0, chain := none,
    queue := [], cur := qzAcc0, next := qzAcc0 }

/-- A channel with nothing set. -/
def vdChan0 : VdChan :=
  { st := .off, cause := 0, fire := none, pulse := none, openEst := 1000, closeEst := 1000, pulses := 0, weak := 0, noSeat := 0,
    suppressed := 0, superseded := 0, noSeatRow := 0, earlyRow := 0, energyNow := 0, energy := List.replicate 100 0,
    holdFrom := none, holdNow := 0, holds := List.replicate 100 0, limited := false, episode := false, ring := [], train := none,
    regMa := none, duty := 0, applied := 0, current := 0, diag := ⟨5000, 5000, 0, 0⟩ }

/-- A load switch with nothing set. -/
def lsChan0 : LsChan :=
  { st := .off, cause := 0, req := false, duty := 0, applied := 0, inrush := none, edge := false, armed := true, startup := false,
    retries := 8, since := 0, limitAt := none, limitEnd := none, coupled := [], queued := false, toShed := false, hot := false,
    openLoad := false, tj := 250, tjOff := 250, ma := 0, mas := [], turnOns := 0, shutdowns := 0, demagUs := 0, clampMj := 0,
    v1 := 0, v2 := 0, test := none, host := none }

/-- A port with nothing on it. -/
def port0 : FbPort := ⟨false, 0, 0, 0, 0, 0, false, 0, none, [], 0, 0, 0⟩

/-- A lane that has not started. -/
def lane0 : Lane := ⟨.start, 0, [], 0, 0, 0, 0, false, 0, false⟩

/-- A function with nothing set. -/
def fn0 : Fn := ⟨.disabled, 0, 0, 0, 0, 0, 0, 0, false, false, false⟩

/-- A GNSS part with no solution. -/
def gnssPart0 : GnssPart :=
  ⟨0, 0, 0, 0, 0, 0, 0, 0, 0, 0, 0, 0, 0, 0, 0, 0, 0, 0, 0, 0, 0, 0, 0, [0, 0, 0], [0, 0, 0], 0⟩

/-- A second with nothing summed. -/
def second0 (frame : FrameNo) : SecondSum := ⟨frame, 0, 0, 0, 0, false, false, 0, false⟩

/-- A port in DISABLED, with nothing held and every count 0. -/
def canPort0 : CanPort :=
  ⟨.disabled, 0, 0, [none, none, none], [], [], [], false, List.replicate 16 ⟨0, 0, false, 0⟩, [], .inactive, 254, 0, [], [], [], 0, none,
   0, 0, 0, 0, 0, 0, 0, 0, 0, 0, 0, 0, 0, 0⟩

/-- A bank that is ON and zeroed. -/
def bank0 : Bank := ⟨.on, true, 0, false, 0⟩

/-- The clocks stand (Table 14-4). -/
def clock0 : Clock := ⟨0, 0, 0, false, false⟩

/-- No session, no peer, no pending command; the stored epoch starts at 1 (R34); transports at the defaults of Table 1-12a. -/
def mailbox0 : Mailbox :=
  { epoch := 1, nextSession := 1, sessions := [], peers0 := [], secs := [], malformed := 0, authFails := 0, discarded := 0, lockouts := 0,
    exch := [], recent := [], order := 0, horizon := 0, waiting := [], relays := [], nextRelay := 1, relayed := [], udpPort := 40484, ipv4 := 0,
    seEnable := 3, canPorts := 1, uartEnable := true }

/-- A profile image with nothing in it. -/
def image0 : Image :=
  { csMinor := 0, pflags := 0, revision := 0, machineSet := 0, name := [], funcs := [], sensors := [], params := [], banks := [], groups := [],
    cream := [], canTable := [], crops := [], present := [1, 3] }

/-- Every slot empty, every module setting at its default, no profile active yet. -/
def profiles0 : Profiles :=
  { slots := [[], [], [], []], work := image0, active := 16, source := 5, modified := false, crc := 0, since := 0, strap := 8, none := true,
    staging := none, selected := [], saving := none, settings := [], writes := [], psOpen := false, startPending := false, actOrder := 0 }

/-- No record; RSEQ starts at 1 (R324). -/
def events0 : Events :=
  { nextRseq := 1, opsec := 0, opsecCopy := 0, opsecFrac := 0, pcycle := 0, fixed := [], snaps := [], fixq := [], snapq := [], drops := 0,
    archive := [], archivePriv := [], lostFixed := 0, lostSnap := 0, fullFixed := false, fullSnap := false, injs := [], present := [],
    probed := 0, probeFailed := 0 }

/-- A channel entry with nothing counted. -/
def qzEntry0 : QzEntry := ⟨0, 0, 0, 0, 0, 0, 0, 0, 0, 0, 0, 0, 0⟩

/-- A Quartz part that is not fresh. -/
def qzPart0 : QzPart := ⟨0, false, 0, 0, 0, false, List.replicate 32 qzEntry0⟩

/-- An input record with nothing in it. -/
def inRec0 : InRec :=
  { frame := 0, pcrc := 0, digest := [], stopA := false, stopB := false, sensors := [], quartz := qzPart0, gnss := gnssPart0, can := [], cream := [],
    d9 := [], cmds := [] }

/-- No replay. -/
def replay0 : Replay := ⟨.idle, 0, 0, 0, 0, 0, 0, 0⟩

/-- Granite in START with SAFE_A and SAFE_B asserted (Table 3-3, Table 14-5). -/
def granite0 : Granite :=
  { mode := .start, running := false, lanes := List.replicate 3 lane0, safeA := true, safeB := true, dualSince := 0, next := inRec0, cur := inRec0,
    derived := [], tickNext := [], tickRec := [], tick := 0, fns := List.replicate 30 fn0, fire := List.replicate 30 (0, 0),
    loops := [], overruns := 0, consec := 0, overran := false, lastWork := 0, peakWork := 0, capture := none, replay := replay0 }

/-- Every Quartz channel OFF; the NAND copy holds GC 1.0 (R135). -/
def quartz0 : Quartz :=
  { chans := List.replicate 32 qzChan0, base := 0, wseq := 0, whole := false, up := false, reservoir := 0, crop := 0, cropNext := none, tables := [],
    deferrals := 0, part := qzPart0, history := [], nandCal := List.replicate 32 (65536, 0), cap := ⟨.idle, 0, 0, 0, 0, []⟩ }

/-- A loss group of a window that has just been cleared. -/
def group0 : LossGroup := ⟨List.replicate 1000 0, List.replicate 1000 false, 0, 0, 0, 0, 0⟩

/-- The optimizer OFF. -/
def optimizer0 : Optimizer :=
  { st := .off, mask := 0, ptr := 0, up := true, orig := 0, sent := 0, base := 0, since := 0, kept := false, passed := 0, sums := [0, 0, 0, 0], n := 0,
    holds := [], secMeans := [], secSum := 0 }

/-- Crop flow and yield with nothing measured and no field. -/
def crop0 : CropFlow :=
  { sigs := (List.range 9).map (fun k => ⟨k + 1, 0, false, 255⟩), degraded := false, groups := List.replicate 3 group0,
    cal := ⟨.disarmed, 0, 0, 0, 0, 0, 0, 0, 0, none⟩, tank := [], flows := [], avg := none, lastOp := 0, lastResult := 0, rotor10 := [], flow10 := [],
    rotorSum := 0, flowSum := 0, tenth := 0, corr := 0, cutFrames := 0, estFrames := 0, slopeSum := 0, slopeN := 0, internal := 0, opt := optimizer0,
    second := second0 0, closedSecs := [], carry := 0, lastMoist := 0, moistSeen := false, moistBad := [0, 0], nav := [], lastFix := 0, cuts := [],
    bars := [], fields := [], openField := 0, closings := 0, stamp := 0, calibrated := 0 }

/-- Every valve channel off, the converter off (R172). -/
def valves0 : Valves :=
  { chans := List.replicate 12 vdChan0, banks := List.replicate 4 ⟨false, 0, false⟩, conv := .off, charging := false, convSince := 0, reached := false,
    caps := [] }

/-- Every load switch off. -/
def loads0 : Loads :=
  { chans := List.replicate 24 lsChan0, mw := [], valveMw := [], clampNow := 0, vbatMa := [], shed := [], above := none, below := none, lastStep := 0,
    clearing := [] }

/-- Module time in NO_TIME (Table 8-5). -/
def time0 : TimeState :=
  { st := .noTime, source := 0, isRef := false, held := 0, meas := 0, freq := 0, steer := 0, lastAccept := none, unc := 0, freqUnc := 0, u0 := 0, df := 0,
    since := 0, step := none, stepAt := 0, renumber := none, renumSince := 0, slewing := false, leap := 0, loaded := 0, msg := [], ppsiFrame := 0,
    ppsiCycle := 0, ppsiAt := none, ppsiSeen := false, pulse := none, refMsg := [] }

/-- The receiver off, no path, steering OFF. -/
def gnss0 : Gnss :=
  { ants := List.replicate 2 ⟨.off, 0, 0, 0, 0⟩, chans := [], cands := [], engines := List.replicate 4 ⟨none, 0, false⟩,
    paths := List.replicate 4 ⟨[], false, 0, 0, 0, false⟩, rtcm := ⟨0, [], 0, 0, 0, 0, none, none, false⟩, epoch := none, part := gnssPart0,
    perSys := [0, 0, 0, 0], imuOk := false, imuPassed := false, imuTest := false, sat := List.replicate 6 0, same := List.replicate 6 0,
    raw := List.replicate 6 0, gyroBias := [0, 0, 0], accBias := [0, 0, 0], drSince := none, lastType := 0, badBase := none, baseLen := 0, hdgSrc := 0,
    insSince := none, gal := none, bds := none, seed := none, tracked := 0, current := none, next := none, segment := 0, ended := false,
    steer := ⟨.off, 0, 0, 0, false⟩, time := time0 }

/-- The fabric with every port down and an empty database (R272). -/
def fabric0 : Fabric :=
  { ports := List.replicate 4 port0, db := [], seq := 0, flooded := none, floodAt := 0, stamp := 0, lost := false, ref := 0, align := .unaligned,
    offset := 0, since := 0, inSince := none, outSince := none, sync := none, syncAt := 0, syncPort := 0, rejoin := false, step := none, renumAt := 0,
    assigns := [], force := ⟨0, 0, [], []⟩, waiting := [], rx := [], txVals := [], flows := [], txSeq := [], missed := 0, discarded := 0, mismatches := 0,
    gaps := 0, framesBad := 0, taken := 0, tx := [] }

/-- Every CAN port DISABLED; handles start at 1 (log entry 31). -/
def can0 : Can :=
  { ports := List.replicate 4 canPort0, vals := [], staged := [], nextHandle := 1, handles := [], sentHandles := [], entries := 0, taken := 0 }

/-- Mica ON and zeroed, except banks 60–63, which are OFF (Table 11-4); the NAND new. -/
def mica0 : Mica :=
  { banks := List.replicate 60 bank0 ++ List.replicate 4 { bank0 with st := .off, ready := false }, mem := [], losses := [],
    promotions := List.replicate 9 0, answers := [], corrected := 0, uncorrectable := 0, badAddr := 0, badFrame := 0, badPart := none, scrubAt := 0,
    lines := 0, passAt := 0, ring := .free, ringSince := 0, stagingWaits := false, served := List.replicate 8 0, starved := List.replicate 8 none,
    converters := [], calibrating := none, almanac := [], life := 0, nandRetries := 0, mramRetries := 0, failed := [], flight := none, flushed := 0,
    flushFrame := 0, telemetry := 0, mirrored := [], mirrorq := [] }

/-- A commit record in state NONE (Table 13-8). -/
def commit0 : CommitRec := ⟨0, .none, false, 0, 0, 0, 0, 0, 0⟩

/-- No update; own evidence UNKNOWN counts as moving (R338, R339); the supply condition holds. -/
def update0 : Update :=
  { moving := true, movedAt := some 0, evidence := 3, peers := [], motionAt := 0, supplyOk := true, camps := [], relay := [], manRx := [],
    commit := commit0, slots := List.replicate 6 (none, none), active := 0, secMin := 0, old := none, confirmAt := none, toTell := [] }

/-- Nothing measured; the stop inputs asserted, as open inputs read (R425); the gate supply off. -/
def analog0 : Analog :=
  { vsup := 0, vbat := 0, keep := 0, temp := 250, rail := 0, stopA := true, stopB := true, gate := false, vbatOut := false,
    ains := List.replicate 40 ⟨0, 0, 0, none⟩, fqs := List.replicate 24 ⟨0, false, 0⟩ }

/-- The module right after POR: L0 asserted by its power-on source, lifecycle BLANK with Folnimi's keys (Table 14-8, Table 14-9). -/
def reset0 : ResetLife :=
  { supUp := false, stage := .cold, restart := false, asserted := [(0, 0)], episode := some (0, 1), wiped := false, causes := [], lastLevel := 0,
    lastMask := 1, loadCount := 0, consTrim := false, map := 0, fuses := 0, lifecycle := 1, ownerLock := false, permit := none,
    keys := [none, some Config.transportKey, none, some Config.factoryKey], oemOwn := false, manifestKey := none, manifestRevoked := false, revoked := 0,
    entries := 0, intent := none, request := none, failed := 0, counted := false, bootMs := 0, bootAt := 0, rstout := false }

/-- Every domain held in reset, no standby. -/
def power0 : Power :=
  { vsupReduced := false, vbat := .normal, gated := false, sups := List.replicate 6 ⟨.off, 0, false, 0⟩, doms := List.replicate 13 .reset,
    mw := List.replicate 13 0, inMw := 0, stopDiff := none, vco := false, clkKeep := true, rtcValid := false, wk := 0,
    sb := ⟨.awake, 0, 0, 0, 0, 0, false, [], [], 0, 0, 0, none⟩ }

/-- The panel's driver in reset; images and ledgers 0. -/
def panel0 : Panel :=
  { st := .off, phase := 0, guard := false, since := 0, vp := 0, t := 0, temp := 250, displayed := 0, target := 0, uncertain := 0, dead := 0,
    ledgers := List.replicate 49 0, dark := 0, light := 0, c1 := [], c2 := [], refresh := false, seq := 0, waiting := none, running := none, after := 0,
    started := none, ended := none, recover := false, completed := 0, interrupted := 0, lastDone := 0, copy := ⟨0, 0, 0, List.replicate 49 0⟩,
    broken := none }

end Sys2Proof.Machine
end

