-- ==== Sys2Proof/Machine/State.lean ====
section
/-!
DEFINITION. Machine/State.lean: the whole state of the module as plain data, the reasons a step can stop, and the state
right after a power-on reset.
-/

namespace Sys2Proof.Machine

/-- Why a command stops with a fault. -/
inductive Fault where
  /-- Raised by `execMicaAccess` and `execMicaAtomic`: the address lies outside the 64 MB of Mica, where the specification
  places no memory (R297). Safe: nothing is claimed about what such an access would do. -/
  | outsideMica
  deriving DecidableEq, Repr

/-- Why a command has no meaning. -/
inductive Refusal where
  /-- Raised by an arm of `exec` whose command has not been given its meaning. Safe. -/
  | notModelled (mnemonic : String)
  deriving DecidableEq, Repr

/-- The state of the module: one part for each chapter of the specification, the messages sent, the counter of free values,
and the commands that wait, first in, first out. -/
structure State where
  clk : Clock
  mb : Mailbox
  pf : Profiles
  ev : Events
  gr : Granite
  qz : Quartz
  cf : CropFlow
  vd : Valves
  ls : Loads
  gn : Gnss
  fb : Fabric
  cn : Can
  mc : Mica
  up : Update
  an : Analog
  rs : ResetLife
  pw : Power
  sp : Panel
  out : List OutMsg
  free : Nat
  pending : List Instr
  deriving DecidableEq, Repr

/-- The module right after a power-on reset (R364, R365): L0 is asserted, nothing runs, no profile is active, and no command waits. The boot
goes on by the commands of Tables 14-4 and 14-6 (log entry 7). -/
def State.reset : State :=
  { clk := clock0, mb := mailbox0, pf := profiles0, ev := events0, gr := granite0, qz := quartz0, cf := crop0, vd := valves0, ls := loads0, gn := gnss0,
    fb := fabric0, cn := can0, mc := mica0, up := update0, an := analog0, rs := reset0, pw := power0, sp := panel0, out := [], free := 0, pending := [] }

end Sys2Proof.Machine
end

