-- ==== Sys2Proof/Machine/Ops.lean ====
section
/-!
DEFINITION. Machine/Ops.lean: the named operations over the state that every chapter uses: reading a parameter, taking a
free value, finding and changing a session, and the context a command's meaning runs in.
-/

namespace Sys2Proof.Machine

/-- Whether a parameter is a module setting: no profile holds it (access bit 2 clear; R48). -/
def isSetting (id : Nat) : Bool :=
  match paramRow id with
  | some r => !bit r.access 2
  | none => false

/-- The default a parameter takes when nothing sets it: PARAM_INFO's, but for LS.LAMP_VREF and UP.VSUP_MIN, which follow
PF.SYSTEM_VOLTAGE (R61, R219, R363). `vals` are the values listed. -/
def omittedValue (vals : List (Nat × Int)) (id : Nat) : Int :=
  if id = pLsLampVref then
    if (getKey pPfSystemVoltage vals).getD 24 = 12 then 13500 else 27000
  else if id = pUpVsupMin then
    if (getKey pPfSystemVoltage vals).getD 24 = 12 then 11800 else 23600
  else paramDefault id

/-- The value of a parameter among the values a profile lists (R61). -/
def listedValue (vals : List (Nat × Int)) (id : Nat) : Int := (getKey id vals).getD (omittedValue vals id)

/-- The present value of a parameter: the working copy's for one saved in the profile, the setting's for a module setting
(R48, R56). Under conservative trim the reset parameters take their defaults (R384). -/
def param (s : State) (id : Nat) : Int :=
  if isSetting id then
    if s.rs.consTrim && (id = pRsWdgPeriod || id = pRsRstoutL2) then paramDefault id
    else (getKey id s.pf.settings).getD (paramDefault id)
  else listedValue s.pf.work.params id

/-- The present value of an unsigned parameter. -/
def paramN (s : State) (id : Nat) : Nat := (param s id).toNat

/-- The next free number, and the state with the use counted (log entry 3). -/
def freshNat (s : State) : Nat × State := (Config.freeNat s.free, { s with free := s.free + 1 })

/-- The next free choice. -/
def freshBool (s : State) : Bool × State := (Config.freeBool s.free, { s with free := s.free + 1 })

/-- The next `n` free bytes. -/
def freshBytes (n : Nat) (s : State) : Bytes × State :=
  ((List.range n).map (Config.freeByte s.free), { s with free := s.free + 1 })

/-- The clock has reached a cycle of its frame (R11). -/
def atCycle (n : Nat) (s : State) : State := { s with clk := { s.clk with cycle := max s.clk.cycle n } }

/-- The 48-bit unique ID of the module (Table 1-10). -/
def uid : Nat := Config.uniqueId % 2 ^ 48

/-- The session with a number. -/
def findSess (s : State) (num : Nat) : Option Sess := s.mb.sessions.find? (fun x => x.num == num)

/-- The state with the session of a number changed. -/
def updSess (num : Nat) (f : Sess → Sess) (s : State) : State :=
  { s with mb := { s.mb with sessions := s.mb.sessions.map (fun x => if x.num = num then f x else x) } }

/-- The session of a number, or for number 0 what is kept of a session-0 binding (R27). -/
def findChan (s : State) (num : Nat) (b : Binding) : Option Sess :=
  if num = 0 then s.mb.peers0.find? (fun x => x.binding == b) else findSess s num

/-- The state with that session changed. -/
def updChan (num : Nat) (b : Binding) (f : Sess → Sess) (s : State) : State :=
  if num = 0 then { s with mb := { s.mb with peers0 := s.mb.peers0.map (fun x => if x.binding = b then f x else x) } }
  else updSess num f s

/-- What a command's meaning runs on: whom it answers, its sequence and era, its code, the session's role (0 in session
0), its payload and its arrival frame (R37). -/
structure Ctx where
  binding : Binding
  session : Nat
  seq : Nat
  era : Nat
  code : Nat
  role : Nat
  payload : Bytes
  arrival : FrameNo
  deriving DecidableEq, Repr

/-- How a command ends: answered at once with a status and the payload after byte 3, waiting to be answered later, or answered already by the
command itself. -/
inductive Reply where
  | done (status : Nat) (body : Bytes)
  | wait (what : WaitFor)
  | sent
  deriving DecidableEq, Repr

/-- The meaning of one command of the mailbox after the role check: what it does and how it ends. -/
abbrev Body := Ctx → State → State × Reply

/-- A state and an answer. -/
def ans (s : State) (status : Nat) (body : Bytes := []) : State × Reply := (s, .done status body)

/-- Whether the module is moving by the motion conditions of the chapter "Field update and recovery" (R338, R339). -/
def moving (s : State) : Bool := s.up.moving

/-- Whether two numbers of milliseconds lie at least `d` apart. -/
def elapsed (s : State) (since d : Nat) : Bool := decide (since + d ≤ s.clk.ms)

/-- Whether the module is stationary: it is not moving and has not been in any of the preceding 2,000 frames (R339). -/
def stationary (s : State) : Bool :=
  !s.up.moving && (match s.up.movedAt with
    | some t => elapsed s t 2001
    | none => true)

/-- Whether profile PS is active. -/
def inPs (s : State) : Bool := s.pf.active == 16

/-- Whether the module runs in ROM recovery mode (R360). -/
def inRecovery (s : State) : Bool := s.rs.stage == .recovery

/-- Whether the lifecycle state is SERVICE (Table 14-8). -/
def inService (s : State) : Bool := s.rs.lifecycle == 4

/-- Module settings written by a command or a calibration: in force at once, durable in NAND as one unit later (R48). -/
def writeSettings (vals : List (Nat × Int)) (s : State) : State :=
  { s with pf := { s.pf with
      settings := vals.foldl (fun m p => setKey p.1 p.2 m) s.pf.settings
      writes := s.pf.writes ++ [⟨s.pf.settings, s.clk.ms, false⟩] } }

/-- Parameters of the working copy take new values (R48, R56). -/
def setWork (vals : List (Nat × Int)) (s : State) : State :=
  { s with pf := { s.pf with work := { s.pf.work with params := vals.foldl (fun m p => setKey p.1 p.2 m) s.pf.work.params } } }

/-- A parameter takes a value in the place that holds it: the working copy, or the module settings (R48). -/
def setParam (p : Nat × Int) (s : State) : State := if isSetting p.1 then writeSettings [p] s else setWork [p] s

/-- Whether NAND programs and erases go ahead: not in VSUP_REDUCED (R389). -/
def nandOn (s : State) : Bool := !s.pw.vsupReduced

/-- Whether Churn works: the supervisor runs and is not clock-gated for its temperature (R402). -/
def churnOn (s : State) : Bool := s.rs.supUp && !s.pw.gated

/-- Whether Churn may write NAND: standby entry completes its work whatever the temperature (R389, R397, R402). -/
def churnNand (s : State) : Bool := s.rs.supUp && nandOn s && (!s.pw.gated || s.pw.sb.ph == .entering)

/-- Whether the mailbox transports are open: the supervisor runs and has reached the step of Table 14-6 at which they open, or a PREPARED commit
record holds the boot there (R355, R374). -/
def mailUp (s : State) : Bool :=
  s.rs.supUp && (s.rs.stage == .active || s.rs.stage == .done || s.rs.stage == .recovery ||
    (s.rs.stage == .lanes && s.up.commit.st == .prepared))

/-- Whether the module stands between its YES vote and its swap or an abort (R352). -/
def commitHeld (s : State) : Bool :=
  s.up.commit.st == .prepared || s.up.commit.st == .decided || s.up.commit.st == .committing

/-- The running injection on a detector and instance (R332: at most one). -/
def injFor (s : State) (det inst : Nat) : Option Inj :=
  s.ev.injs.find? (fun i => i.started && i.det == det && i.inst == inst)

/-- An occurrence with the stamps of this instant (R324). INJECTED is set while an injection on the detector and instance
runs (R334). -/
def occNow (s : State) (code inst data : Nat) (lasting : Bool) : Occ :=
  { code, inst, data := data % 2 ^ 32, lasting, injected := (injFor s code inst).isSome, frame := s.clk.frame,
    timeEst := s.clk.established, opsec := s.ev.opsec, pcycle := s.ev.pcycle, late := !s.rs.supUp }

/-- DATA of the records that bracket an injection: detector ID, instance, handle (Table 12-7). -/
def injData (i : Inj) : Nat := i.det + 65536 * i.inst + 16777216 * i.handle

/-- The end of an injection: record 0x1081 when it had started, and nothing when it had not (R333, R334). A condition
entered under it is judged afresh at the next evaluation. -/
def endInjection (handle : Nat) (s : State) : State :=
  match s.ev.injs.find? (fun i => i.handle == handle) with
  | none => s
  | some i =>
    let s1 := { s with ev := { s.ev with injs := s.ev.injs.filter (fun j => j.handle != handle) } }
    if i.started then { s1 with ev := { s1.ev with fixq := s1.ev.fixq ++ [occNow s1 evInjectionEnd 0 (injData i) false] } } else s1

/-- Every injection that meets a test ends, in ascending handle (R333). -/
def endInjections (p : Inj → Bool) (s : State) : State :=
  ((sortBy Inj.handle (s.ev.injs.filter p)).map Inj.handle).foldl (fun st h => endInjection h st) s

/-- The injections of OEM sessions end when what allowed them does: the module moves, DG.INJECT_OEM becomes 0, or the owner lock is set (R332,
R333). In SERVICE they need none of it. -/
def endOemInjections (s : State) : State := if inService s then s else endInjections (fun i => i.role == 2) s


end Sys2Proof.Machine
end

