-- ==== Sys2Proof/Machine/Mail.lean ====
section
/-!
DEFINITION. Machine/Mail.lean: what the mailbox sends: responses and their cache (R15, R19, R30), notifications and their
counts (R31, R42, R43), and the closing of a session (R35).
-/

namespace Sys2Proof.Machine

/-- A response as messages of at most 1024 payload bytes (R19). -/
def responseMsgs (c : Ctx) (epoch : Nat) (payload : Bytes) : List OutMsg :=
  let parts := chunks 1024 payload
  parts.zipIdx.map (fun p =>
    { binding := c.binding, notify := false, more := decide (p.2 + 1 < parts.length), session := c.session,
      seq := c.seq, code := c.code, epoch, era := c.era, frag := p.2, payload := p.1 })

/-- The payload of a response: status, three reserved bytes, and what the command's table lists from byte 4 (R15). -/
def responsePayload (status : Nat) (body : Bytes) : Bytes := u8 status ++ zeros 3 ++ body

/-- Messages handed to their transport, each with the key of its session (R29). -/
def send (ms : List OutMsg) (s : State) : State :=
  { s with out := s.out ++ ms.map (fun m => { m with key := ((findSess s m.session).map Sess.keyOut).getD [] }) }

/-- The bytes of a message on its transport (Tables 1-1 and 1-2, R29). -/
def wireOf (m : OutMsg) : Bytes :=
  let auth := m.session != 0
  let head := [0x47, 0x52, 0x03] ++ u8 (b2n (!m.notify) + 2 * b2n m.notify + 4 * b2n auth + 8 * b2n m.more) ++ u16 m.session ++
    u16 m.seq ++ u16 m.code ++ u16 m.payload.length ++ u32 m.epoch
  if auth then
    let iv := u32 m.epoch ++ u16 m.session ++ u16 m.seq ++ u16 m.era ++ u8 (if m.notify then 2 else 1) ++ u8 m.frag
    let ct := gcmCrypt m.key iv m.payload
    head ++ ct ++ gcmTag m.key iv head ct
  else head ++ m.payload

/-- A response is sent, and in a session other than 0 kept among the last 16 (R15, R30). -/
def answer (c : Ctx) (status : Nat) (body : Bytes) (s : State) : State :=
  let ms := responseMsgs c s.mb.epoch (responsePayload status body)
  let s1 := send ms s
  if c.session = 0 then s1
  else updSess c.session (fun x => { x with cache := pushRing 16 x.cache (c.seq, ms) }) s1

/-- A session leaves the module with everything that belongs to it: its subscriptions, cache and holds, the profile staging
it owns (R72) and its injections (R333). Its accepted T commands stay (R39). -/
def dropSession (num : Nat) (s : State) : State :=
  let s1 := { s with
    mb := { s.mb with
      sessions := s.mb.sessions.filter (fun x => x.num != num)
      waiting := s.mb.waiting.filter (fun w => w.session != num) }
    pf := { s.pf with staging := s.pf.staging.filter (fun g => g.session != num) } }
  endInjections (fun i => i.session == num) s1

/-- A notification message of a session with its present count (R42). -/
def noteMsg (x : Sess) (epoch code : Nat) (payload : Bytes) : OutMsg :=
  { binding := x.binding, notify := true, more := false, session := x.num, seq := x.note, code, epoch,
    era := x.noteEra, frag := 0, payload }

/-- SESSION_CLOSING with a reason, and the session is gone (R35). It is announced while the supervisor runs. -/
def closeSession (num reason : Nat) (s : State) : State :=
  match findSess s num with
  | none => s
  | some x =>
    let s1 := if s.rs.supUp then send [noteMsg x s.mb.epoch nSessionClosing (u8 reason ++ zeros 3)] s else s
    dropSession num s1

/-- A notification in a session: the count goes on modulo 65,536, and a notification era that would pass 65,535 closes the
session after the notification, with reason 3 (R31, R42). -/
def sendNote (num code : Nat) (payload : Bytes) (s : State) : State :=
  match findSess s num with
  | none => s
  | some x =>
    let s1 := send [noteMsg x s.mb.epoch code payload] s
    if x.note = 65535 then
      if x.noteEra = 65535 then closeSession num 3 (updSess num (fun y => { y with note := 0 }) s1)
      else updSess num (fun y => { y with note := 0, noteEra := y.noteEra + 1 }) s1
    else updSess num (fun y => { y with note := y.note + 1 }) s1

/-- Entries as one counted payload: the count, three reserved bytes, the entries. -/
def countedPayload (items : List Bytes) : Bytes := u8 items.length ++ zeros 3 ++ items.flatten

/-- As many leading entries as fit a number of bytes and a count. -/
def fitting : Nat → Nat → List Bytes → List Bytes
  | 0, _, _ => []
  | _, _, [] => []
  | n + 1, room, x :: xs => if x.length ≤ room then x :: fitting n (room - x.length) xs else []

/-- How the notifications of one code that fell inside an interval are merged: the payloads to send (R43 and the owning
chapters: R160 for YIELD_RECORD, R239 for TIME_MESSAGE, R285 for CAN_RX, R329 for EVENT, R362 for UPDATE_PROGRESS). -/
def mergedPayloads (code : Nat) (items : List Bytes) : List Bytes :=
  if items.isEmpty then []
  else if code = nEvent then (chunks 24 items).map countedPayload
  else if code = nYieldRecord then [countedPayload (items.take 21)]
  else if code = nCanRx then [countedPayload (fitting 48 1020 items)]
  else if code = nUpdateProgress then items
  else (items.getLast?.map (fun x => [x])).getD []

/-- A notification's entry joins what waits for a subscription: in the place of an entry with the same key, or last. -/
def joinDue (n : DueNote) (due : List DueNote) : List DueNote :=
  if due.any (fun d => d.key == n.key) then due.map (fun d => if d.key = n.key then n else d) else due ++ [n]

/-- Whether a subscription's interval lets a notification go now (R43). -/
def intervalOpen (s : State) (b : Sub) : Bool :=
  match b.last with
  | none => true
  | some t => elapsed s t b.interval

/-- The subscription of a session with a code and filter, changed. -/
def updSub (num code filter : Nat) (f : Sub → Sub) (s : State) : State :=
  updSess num (fun x => { x with subs := x.subs.map (fun b => if b.code = code && b.filter = filter then f b else b) }) s

/-- What waits for one subscription is sent, merged as its code asks, and the interval starts again. -/
def flushSub (num code filter : Nat) (s : State) : State :=
  match (findSess s num).bind (fun x => x.subs.find? (fun b => b.code == code && b.filter == filter)) with
  | none => s
  | some b =>
    (mergedPayloads code (b.due.map DueNote.payload)).foldl (fun st p => sendNote num code p st)
      (updSub num code filter (fun b => { b with last := some s.clk.ms, due := [] }) s)

/-- One subscription meets a notification: it joins what waits and goes at once if the interval allows. -/
def offerSub (num : Nat) (b : Sub) (n : DueNote) (s : State) : State :=
  let s1 := updSub num b.code b.filter (fun b => { b with due := joinDue n b.due }) s
  if intervalOpen s b then flushSub num b.code b.filter s1 else s1

/-- A notification goes to every open session's subscriptions of its code whose filter admits it (R43). `admits` sees the
filter and the session's role. -/
def notifyAll (code : Nat) (admits : Nat → Nat → Bool) (n : DueNote) (s : State) : State :=
  if s.rs.supUp then
    (s.mb.sessions.filter Sess.isOpen).foldl (fun st x =>
      (x.subs.filter (fun b => b.code == code && admits b.filter x.role)).foldl (fun st2 b => offerSub x.num b n st2) st) s
  else s

/-- FLAGS of a record (Table 12-2). -/
def recFlags (r : EvRec) : Nat :=
  severityOf r.code + 4 * b2n r.injected + 8 * b2n r.active + 16 * b2n r.timeEst + 32 * b2n r.retained + 64 * b2n r.lateSnap

/-- The first 30 bytes of a record, common to both areas (Table 12-1). -/
def recHead (r : EvRec) : Bytes :=
  u32 r.rseq ++ u16 r.code ++ u8 (recFlags r) ++ u8 r.inst ++ u64 r.frame ++ u32 r.opsec ++ u32 r.pcycle ++ u32 r.data ++
    u16 r.repeats

/-- The first 40 bytes of a snapshot record (Tables 12-1 and 12-3). -/
def snapHead (r : EvRec) : Bytes := recHead r ++ u16 (44 + 12 * r.items.length) ++ u64 r.last

/-- A fixed record, whole: byte 30 reserved, byte 31 VALID (Table 12-1). -/
def fixedBytes (r : EvRec) : Bytes := recHead r ++ u8 0 ++ u8 0xA5

/-- Whether an EVENT filter admits a record: subsystem, lowest severity, injected records; and an OPERATOR session receives
no privileged record (R329). -/
def eventAdmits (r : EvRec) (filter role : Nat) : Bool :=
  (filter % 256 == 255 || filter % 256 == r.code / 256) && decide (filter / 256 % 4 ≤ severityOf r.code) &&
    (!r.injected || bit filter 10) && !(role == 1 && isFixedCode r.code)

/-- EVENT for a record created, merged, or with ACTIVE cleared (R329): within an interval each record once, in its latest
state. -/
def notifyEvent (r : EvRec) (s : State) : State :=
  notifyAll nEvent (eventAdmits r) ⟨r.rseq, if isFixedCode r.code then fixedBytes r else snapHead r⟩ s

end Sys2Proof.Machine
end

