-- ==== Sys2Proof/Machine/Recorder.lean ====
section
/-!
DEFINITION. Machine/Recorder.lean: occurrences and detectors (R318, R322 to R325), and the effect of fault injections on a
detector (R331 to R334). The writing of records is in `Machine/Events.lean`.
-/

namespace Sys2Proof.Machine

/-- The quantity a VAL detector tests: the substituted value while an injection on it runs, else the measured one
(Table 12-4). -/
def measured (s : State) (det inst : Nat) (v : Int) : Int :=
  match injFor s det inst with
  | some i => toSigned 8 i.value
  | none => v

/-- Whether an injection forces a detector of kind CMP, FW or MSG present (Table 12-4). -/
def forced (s : State) (det inst : Nat) : Bool := (injFor s det inst).isSome

/-- Whether an injection has forced a comparator present for the detection time of its detector, `ms` milliseconds of frames (R333). -/
def forcedFor (s : State) (det inst ms : Nat) : Bool :=
  match injFor s det inst with
  | some i => decide (i.frame + ms ≤ s.clk.frame)
  | none => false

/-- Whether a record can take an occurrence by R325: same CODE, INSTANCE and INJECTED, same power cycle, within
EV.REPEAT_WINDOW, and for a fixed record equal DATA. Records of Table 12-7 never merge. -/
def mergeable (window : Nat) (o : Occ) (r : EvRec) : Bool :=
  (detRow o.code).isSome && r.pcycle == o.pcycle && decide (o.frame ≤ r.last + window * 1000) &&
    (!isFixedCode o.code || r.data == o.data)

/-- The newest record of an area with an occurrence's CODE, INSTANCE and INJECTED value (R325). -/
def candidate (area : List EvRec) (o : Occ) : Option EvRec :=
  (area.filter (fun r => r.code == o.code && r.inst == o.inst && r.injected == o.injected)).getLast?

/-- A record with an occurrence merged into it (R325). -/
def mergeInto (o : Occ) (r : EvRec) : EvRec :=
  { r with repeats := satU 16 (r.repeats + 1), active := r.active || o.lasting, last := max r.last o.frame }

/-- The record of an area that takes an occurrence, if one does (R325). -/
def mergeTarget (s : State) (area : List EvRec) (o : Occ) : Option EvRec :=
  match candidate area o with
  | some r => if mergeable (paramN s pEvRepeatWindow) o r then some r else none
  | none => none

/-- The events with the record of one RSEQ changed. -/
def updRec (rseq : Nat) (f : EvRec → EvRec) (area : List EvRec) : List EvRec :=
  area.map (fun r => if r.rseq = rseq then f r else r)

/-- A record has changed: EVENT goes to the subscribers (R329). -/
def recChanged (rseq : Nat) (s : State) : State :=
  match (s.ev.fixed ++ s.ev.snaps).find? (fun r => r.rseq == rseq) with
  | some r => notifyEvent r s
  | none => s

/-- One evaluation of a detector uses up a one-shot injection on it (R333). -/
def useOneShot (det inst : Nat) (s : State) : State :=
  match injFor s det inst with
  | some i => if i.mode = 1 then endInjection i.handle s else s
  | none => s

/-- The injection that an occurrence is under counts it (INJECT_LIST bytes 20–23). -/
def countInj (det inst : Nat) (s : State) : State :=
  { s with ev := { s.ev with injs := s.ev.injs.map (fun i =>
      if i.started && i.det = det && i.inst = inst then { i with count := i.count + 1 } else i) } }

/-- DATA of an occurrence: under an injection of kind FW or REC the injected value, else the detector's own (Table 12-4, R318). -/
def occData (s : State) (code inst data : Nat) : Nat :=
  match injFor s code inst, detRow code with
  | some i, some r => if r.kind = .fw || r.kind = .record then i.value else data
  | _, _ => data

/-- A full queue takes no occurrence: one that finds a merge target is merged at once; any other is dropped and counted,
and the queue-overflow detector reports it once while its own occurrence still waits (R323; log entry 9). -/
def queueOverflow (s : State) (o : Occ) : State :=
  match mergeTarget s s.ev.snaps o with
  | some r => recChanged r.rseq { s with ev := { s.ev with snaps := updRec r.rseq (mergeInto o) s.ev.snaps } }
  | none =>
    let s1 := { s with ev := { s.ev with drops := wrapU 32 (s.ev.drops + 1) } }
    if s.ev.snapq.any (fun q => q.code == detRecorderQueueOverflow) then s1
    else { s1 with ev := { s1.ev with snapq := s1.ev.snapq ++ [occNow s1 detRecorderQueueOverflow 0 (occData s1 detRecorderQueueOverflow 0 0) false] } }

/-- An occurrence goes to the fixed writer's queue or to the snapshot queue of 256 places by its area (R319, R323). -/
def enqueue (o : Occ) (s : State) : State :=
  if isFixedCode o.code then { s with ev := { s.ev with fixq := s.ev.fixq ++ [o] } }
  else if s.ev.snapq.length < 256 && !forced s detRecorderQueueOverflow 0 then { s with ev := { s.ev with snapq := s.ev.snapq ++ [o] } }
  else useOneShot detRecorderQueueOverflow 0 (countInj detRecorderQueueOverflow 0 (queueOverflow s o))

/-- A raw event of Table 12-7. -/
def rawEvent (code inst data : Nat) (s : State) : State := enqueue (occNow s code inst data false) s

/-- A detector reports an occurrence (R318): queued for its area, counted for its injection, a one-shot used up. -/
def raise (code inst data : Nat) (lasting : Bool) (s : State) : State :=
  useOneShot code inst (countInj code inst (enqueue (occNow s code inst (occData s code inst data) lasting) s))

/-- A consequent event of R334, marked INJECTED also when its cause arises from an injection. -/
def happenMarked (code inst data : Nat) (mark : Bool) (s : State) : State :=
  let o := occNow s code inst (occData s code inst data) false
  useOneShot code inst (countInj code inst (enqueue { o with injected := o.injected || mark } s))

/-- A single happening: its record never carries ACTIVE (R322). -/
def happen (code inst data : Nat) (s : State) : State := raise code inst data false s

/-- The records of an area that still carry a condition of a detector and instance lose ACTIVE (R322). -/
def clearActiveIn (code inst : Nat) (area : List EvRec) : List EvRec :=
  area.map (fun r => if r.code = code && r.inst = inst && r.active then { r with active := false } else r)

/-- A lasting condition has ended: ACTIVE is cleared in its records and in the occurrences still queued (R322), and
EVENT tells the subscribers (R329). -/
def clearActive (code inst : Nat) (s : State) : State :=
  (((s.ev.fixed ++ s.ev.snaps).filter (fun r => r.code == code && r.inst == inst && r.active)).map EvRec.rseq).foldl
    (fun st q => recChanged q st)
  { s with ev := { s.ev with
      fixed := clearActiveIn code inst s.ev.fixed
      snaps := clearActiveIn code inst s.ev.snaps
      fixq := s.ev.fixq.map (fun o => if o.code = code && o.inst = inst then { o with lasting := false } else o)
      snapq := s.ev.snapq.map (fun o => if o.code = code && o.inst = inst then { o with lasting := false } else o)
      present := s.ev.present.filter (fun p => !(p.1 == code && p.2.1 == inst)) } }

/-- Whether a lasting condition of a detector and instance is now present. -/
def isPresent (s : State) (code inst : Nat) : Bool := s.ev.present.any (fun p => p.1 == code && p.2.1 == inst)

/-- A lasting condition begins: an occurrence, unless it is already present. One that was entered under an injection and
outlasts it is a new, uninjected occurrence (R318, R334). -/
def beginCond (code inst data : Nat) (s : State) : State :=
  let inj := (injFor s code inst).isSome
  match s.ev.present.find? (fun p => p.1 == code && p.2.1 == inst) with
  | none =>
    raise code inst data true { s with ev := { s.ev with present := s.ev.present ++ [(code, inst, inj)] } }
  | some p =>
    if p.2.2 && !inj then
      raise code inst data true
        { s with ev := { s.ev with present := s.ev.present.map (fun q =>
            if q.1 = code && q.2.1 = inst then (code, inst, false) else q) } }
    else s

/-- One evaluation of a lasting condition (R318, R322). -/
def detect (code inst : Nat) (cond : Bool) (data : Nat) (s : State) : State :=
  if cond then beginCond code inst data s
  else if isPresent s code inst then clearActive code inst s
  else s

end Sys2Proof.Machine
end

