-- ==== Sys2Proof/Machine/HostCmd.lean ====
section
/-!
DEFINITION. Machine/HostCmd.lean: steps 7 to 10 of Table 1-3 for every mailbox command, the timing prefix and the
acceptance of T commands (R16, R36 to R38, R41), and the answers given later.
-/

namespace Sys2Proof.Machine

/-- The context of a command in a session with a given era and arrival frame. -/
def chanCtx (x : Sess) (seq era code : Nat) (payload : Bytes) (arrival : FrameNo) : Ctx :=
  { binding := x.binding, session := x.num, seq, era, code, role := x.role, payload, arrival }

/-- The context of a command message: the session's role and era, and the frame in progress (R37). None for a session the
module does not hold. -/
def ctxOf (code : Nat) (r : Req) (s : State) : Option Ctx :=
  if r.session = 0 then
    some { binding := r.binding, session := 0, seq := r.seq, era := 0, code, role := 0, payload := r.payload,
           arrival := s.clk.frame }
  else
    (findSess s r.session).map fun x => { chanCtx x r.seq x.era code r.payload s.clk.frame with binding := r.binding }

/-- A session-0 response to a message that names no session of its binding, or a stale epoch (steps 3 and 4 of Table
1-3). -/
def answer0 (b : Binding) (seq code status : Nat) (s : State) : State :=
  answer { binding := b, session := 0, seq, era := 0, code, role := 0, payload := [], arrival := s.clk.frame } status [] s

/-- Whether a session is still half-open. -/
def halfOpen (s : State) (num : Nat) : Bool :=
  match findSess s num with
  | some x => !x.isOpen
  | none => false

/-- A response that is not kept for a repeat: the answer in a half-open session, which consumes no sequence (R28). -/
def answerOnce (c : Ctx) (status : Nat) (s : State) : State := send (responseMsgs c s.mb.epoch (responsePayload status [])) s

/-- How a command's reply leaves: an answer now, or a place among the waiting commands. -/
def conclude (c : Ctx) (p : State × Reply) : State :=
  match p.2 with
  | .done st body => answer c st body p.1
  | .sent => p.1
  | .wait w =>
    updChan c.session c.binding (fun x => { x with exec := some c.seq })
      { p.1 with mb := { p.1.mb with waiting := p.1.mb.waiting ++
          [{ binding := c.binding, session := c.session, seq := c.seq, code := c.code, era := c.era, what := w,
             since := p.1.clk.ms }] } }

/-- Whether a session's role may send a command (R52). An OWNER session may also replace the owner key, as R379 says beyond Table 1-12 (log entry
39). -/
def roleOk (c : Ctx) : Bool :=
  roleMay c.code c.role || (c.code == cLifecycleSet && c.role == 3 && rdN c.payload 0 1 == 2 && rdN c.payload 4 1 == 3)

/-- Whether lifecycle RETIRED or ROM recovery mode leaves a command out (R361, R378). -/
def codeBarred (c : Ctx) (s : State) : Bool :=
  (s.rs.lifecycle == 5 && c.role == 4 &&
    !(([cIdent, cPing, cStatusGet, cEvRead, cEvReadPriv, cLifecycleGet, cSessionProve] : List Nat).contains c.code)) ||
  (inRecovery s && (c.role == 1 ||
    !(([cIdent, cPing, cSessionOpen, cSessionProve, cSessionClose, cFbRelay, cEvReadPriv, cResetRequest, cUpdateBegin, cUpdateData, cUpdateStatus,
      cUpdateActivate, cUpdateConfirm, cUpdateAbort] : List Nat).contains c.code)))

/-- Steps 7 to 10 of Table 1-3: in a half-open session only SESSION_PROVE (R28); the role; the command's own checks. A command that the state leaves
out is refused, unless its payload is found invalid first. -/
def runBody (c : Ctx) (body : Body) (s : State) : State :=
  if halfOpen s c.session && c.code != cSessionProve then answerOnce c stNotAuth s
  else if !roleOk c then answer c stNotAuth [] s
  else if codeBarred c s then
    answer c (match (body c s).2 with
      | .done st _ => if st = stBadArg then stBadArg else stRefusedState
      | _ => stRefusedState) [] s
  else conclude c (body c s)

/-- Whether a session has an accepted command that is not finished (R33). -/
def chanBusy (x : Sess) : Bool := x.exec.isSome || !x.queue.isEmpty

/-- The executed-but-unfinished and held commands of a session together, a command partly assembled being one (R18, R33). -/
def unfinished (x : Sess) : Nat :=
  b2n x.exec.isSome + x.queue.length + (x.held.filter (fun m => !m.spent)).length + b2n x.asm.isSome

/-- A command accepted in a session runs at once, or behind the one that the session has not finished; with 16 unfinished it is answered BUSY
(R33). -/
def acceptCommand (c : Ctx) (run : State → State) (s : State) : State :=
  match findChan s c.session c.binding with
  | none => run s
  | some x =>
    if !chanBusy x then run s
    else if 16 ≤ unfinished x then answer c stBusy [] s
    else updChan c.session c.binding (fun y => { y with queue := y.queue ++ [⟨c.seq, c.era, c.code, c.payload, c.arrival⟩] }) s

/-- A mailbox command that has reached step 7. While the transports are closed no command is executed. -/
def hostCommand (code : Nat) (body : Body) (r : Req) (s : State) : State :=
  if mailUp s then
    match ctxOf code r s with
    | some c => acceptCommand c (runBody c body) s
    | none => answer0 r.binding r.seq code stNotAuth s
  else s

/-- A command whose payload must carry a given operation code in byte `off`; any other is BAD_ARG (step 9). -/
def withOp (off op : Nat) (body : Body) : Body := fun c s =>
  if off < c.payload.length && rdN c.payload off 1 == op then body c s else ans s stBadArg

/-- An empty request payload, else BAD_ARG. -/
def emptyPayload (body : Body) : Body := fun c s => if c.payload.isEmpty then body c s else ans s stBadArg

/-! ### The timing prefix and T commands -/

/-- The timing prefix of Table 1-7: TARGET, EXACT, NOTIFY_APPLY; none when too short or a reserved bit is set. -/
def timingOf (p : Bytes) : Option (Nat × Bool × Bool) :=
  if p.length < 12 || !resZero p 9 3 || 4 ≤ rdN p 8 1 then none
  else some (rdN p 0 8, bit (rdN p 8 1) 0, bit (rdN p 8 1) 1)

/-- The target-frame rule of R37 for arrival frame `a`: status and frame of application. -/
def targetRule (a target : Nat) (exact : Bool) : Nat × Nat :=
  if target = 0 then (stOk, a + 2)
  else if a + 86400000 < target then (stBadArg, 0)
  else if a + 2 ≤ target then (stOk, target)
  else if exact then (stTooLate, 0)
  else (stLate, a + 2)

/-- The T command that a context and a frame of application make; its payload is what follows the prefix. -/
def tcmdOf (c : Ctx) (frame : Nat) (notify : Bool) (s : State) : TCmd :=
  { epoch := s.mb.epoch, session := c.session, seq := c.seq, code := c.code, role := c.role,
    payload := c.payload.drop 12, frame, notify, order := s.mb.order, internal := false }

/-- A command enters the frame exchange area, and the 256 remembered ones (R38, R40, R41). -/
def handOver (t : TCmd) (s : State) : State :=
  { s with mb := { s.mb with
      exch := s.mb.exch ++ [t]
      order := s.mb.order + 1
      recent := if t.internal then s.mb.recent
        else pushRing 256 s.mb.recent ⟨t.epoch, t.session, t.seq, t.frame, .pending⟩ } }

/-- The host T commands held: at most 256 (R38). -/
def heldTs (s : State) : Nat := (s.mb.exch.filter (fun t => !t.internal)).length

/-- A T command: prefix and payload (BAD_ARG), the owning chapter's conditions (`check`), the target-frame rule, room in the
exchange area, then hand-over and the answer OK or LATE. `post` is what acceptance itself changes and the response from
byte 4 (log entry 10 for the order of the refusals). -/
def timedBody (check : Ctx → State → Option (Nat × Bytes)) (post : Ctx → TCmd → State → State × Bytes) : Body := fun c s =>
  match timingOf c.payload with
  | none => ans s stBadArg
  | some (target, exact, notify) =>
    if (targetRule c.arrival target exact).1 = stBadArg then ans s stBadArg
    else match check c s with
      | some (st, body) => ans s st body
      | none =>
        if (targetRule c.arrival target exact).1 = stTooLate then ans s stTooLate
        else if 256 ≤ heldTs s then ans s stNoResource
        else
          let t := tcmdOf c (targetRule c.arrival target exact).2 notify s
          let q := post c t (handOver t s)
          ans q.1 (targetRule c.arrival target exact).1 q.2

/-- The response of most T commands: the frame of application. -/
def frameReply : Ctx → TCmd → State → State × Bytes := fun _ t s => (s, u64 t.frame)

/-- An internal command (R146) enters the exchange area with session 0 for a frame of application. -/
def handOverInternal (code : Nat) (payload : Bytes) (frame seq : Nat) (s : State) : State :=
  handOver { epoch := s.mb.epoch, session := 0, seq, code, role := 0, payload, frame, notify := false,
             order := s.mb.order, internal := true } s

/-! ### Answers given later -/

/-- The context of a waiting command. -/
def waitCtx (w : Waiting) (s : State) : Ctx :=
  { binding := w.binding, session := w.session, seq := w.seq, era := w.era, code := w.code,
    role := ((findSess s w.session).map Sess.role).getD 0, payload := [], arrival := s.clk.frame }

/-- Every command that waits for something is answered. -/
def resolve (p : WaitFor → Bool) (status : Nat) (body : Bytes) (s : State) : State :=
  let due := s.mb.waiting.filter (fun w => p w.what)
  due.foldl (fun st w =>
      updChan w.session w.binding (fun x => { x with exec := if x.exec = some w.seq then none else x.exec })
        (answer (waitCtx w st) status body st))
    { s with mb := { s.mb with waiting := s.mb.waiting.filter (fun w => !p w.what) } }

/-- Whether any command waits for something. -/
def someoneWaits (p : WaitFor → Bool) (s : State) : Bool := s.mb.waiting.any (fun w => p w.what)

end Sys2Proof.Machine
end

