-- ==== Sys2Proof/Machine/Fixed.lean ====
section
/-!
DEFINITION. Machine/Fixed.lean: the module's fixed-point arithmetic (R8, R9) and the CRCs the specification defines
(R23, R59).
-/

namespace Sys2Proof.Machine

/-- Saturation to ±(2^31 − 1) (R9, R91). -/
def sat32 (x : Int) : Int := clampI (-2147483647) 2147483647 x

/-- R8: the product of a signal and a coefficient with its right shift, rounded and saturated. -/
def fxMul (x c : Int) (s : Nat) : Int :=
  let xs := if x = -2147483648 then -2147483647 else x
  let acc := xs * c + (if 0 < s then (2 ^ (s - 1) : Nat) else 0)
  sat32 (acc / (2 ^ s : Nat))

/-- One bit of a reflected CRC-32. -/
def crc32Bit (c : Nat) : Nat := if c % 2 = 1 then c / 2 ^^^ 0xEDB88320 else c / 2

/-- One byte of CRC-32. -/
def crc32Byte (c : Nat) (b : Byte) : Nat :=
  crc32Bit (crc32Bit (crc32Bit (crc32Bit (crc32Bit (crc32Bit (crc32Bit (crc32Bit (c ^^^ b.toNat))))))))

/-- CRC-32 of IEEE 802.3 (R59). -/
def crc32 (m : Bytes) : Nat := m.foldl crc32Byte 0xFFFFFFFF ^^^ 0xFFFFFFFF

/-- One bit of the CRC-16 of R23. -/
def crc16Bit (c : Nat) : Nat := if 0x8000 ≤ c then (2 * c) % 0x10000 ^^^ 0x1021 else 2 * c

/-- One byte of the CRC-16 of R23. -/
def crc16Byte (c : Nat) (b : Byte) : Nat :=
  crc16Bit (crc16Bit (crc16Bit (crc16Bit (crc16Bit (crc16Bit (crc16Bit (crc16Bit (c ^^^ (b.toNat * 256)))))))))

/-- The CRC-16 of R23: polynomial 0x1021, initial value 0xFFFF, no reflection, no final XOR. -/
def crc16 (m : Bytes) : Nat := m.foldl crc16Byte 0xFFFF

end Sys2Proof.Machine
end

