-- ==== Sys2Proof/Machine/Record.lean ====
section
/-!
DEFINITION. Machine/Record.lean: reading the released input record: declared sensors, their scaling, staleness and
plausibility (R65, R78, R106, R143), the function table (R62), and functions of Granite that every chapter reads.
-/

namespace Sys2Proof.Machine

/-- The function-table entry of a function number (R62). -/
def fnEntry (s : State) (f : Nat) : Option Bytes := s.pf.work.funcs.find? (fun e => rdN e 0 1 == f)

/-- The sensor-table entry of an index (R65). -/
def sensEntry (s : State) (idx : Nat) : Option Bytes := s.pf.work.sensors.find? (fun e => rdN e 0 1 == idx)

/-- The scaled value of a sensor entry: fx_mul(raw, GAIN_C, GAIN_S) plus OFFSET, saturated (R65). -/
def scaledVal (e : Bytes) (raw : Int) : Int := sat32 (fxMul raw (rdI e 4 4) (rdN e 8 1) + rdI e 12 4)

/-- Whether a scaled value lies within PLAUS_MIN–PLAUS_MAX (R65). -/
def plausible (e : Bytes) (v : Int) : Bool := decide (rdI e 16 4 ≤ v) && decide (v ≤ rdI e 20 4)

/-- The value of a declared sensor in the released record: kinds 1 to 6 from the Sensors part, 7 from CAN, 8 from Cream, 9
and 10 as computed from the record. -/
def sensVal (s : State) (e : Bytes) : Option SensVal :=
  let k := rdN e 1 1
  let chan := rdN e 2 1
  if k ≤ 6 then s.gr.cur.sensors.find? (fun v => v.index == rdN e 0 1)
  else if k = 7 then s.gr.cur.can.find? (fun v => v.index == chan)
  else if k = 8 then (s.gr.cur.cream.find? (fun v => v.index == chan)).map (fun v => ⟨chan, v.value, v.arrived, v.misses⟩)
  else s.gr.derived.find? (fun v => v.index == rdN e 0 1)

/-- The scaled value of a sensor; 0 for one that is not declared or has no value yet. -/
def sensScaled (s : State) (idx : Nat) : Int :=
  match sensEntry s idx with
  | some e => scaledVal e (((sensVal s e).map SensVal.raw).getD 0)
  | none => 0

/-- Whether a sensor is valid in this frame: fresh within its STALE limit and plausible (R65, R143). -/
def sensValid (s : State) (idx : Nat) : Bool :=
  match sensEntry s idx with
  | some e => match sensVal s e with
    | some v => decide (v.age ≤ rdN e 3 1) && plausible e (scaledVal e v.raw)
    | none => false
  | none => false

/-- The index of the sensor declared for a kind and channel. -/
def sensOf (s : State) (kind chan : Nat) : Option Nat :=
  (s.pf.work.sensors.find? (fun e => rdN e 1 1 == kind && rdN e 2 1 == chan)).map (fun e => rdN e 0 1)

/-- The scaled value and validity of the input of a kind and channel; invalid when not declared. -/
def inputOf (s : State) (kind chan : Nat) : Int × Bool :=
  match sensOf s kind chan with
  | some i => (sensScaled s i, sensValid s i)
  | none => (0, false)

/-- The state of function F`f`. -/
def fnOf (s : State) (f : Nat) : Fn := nth s.gr.fns (f - 1) fn0

/-- The state with one function changed. -/
def updFn (f : Nat) (g : Fn → Fn) (s : State) : State := { s with gr := { s.gr with fns := updAt s.gr.fns (f - 1) g } }

/-- The function numbers of the active profile, ascending. -/
def fnNums (s : State) : List Nat := sortBy id (s.pf.work.funcs.map (fun e => rdN e 0 1))

/-- Whether the GNSS part of the released record is fresh enough to act on: its epoch lies at most GN.STEER_STALE frames back
(DEDUCED, log entry 23). -/
def gnssFresh (s : State) : Bool := decide (s.gr.cur.frame ≤ s.gr.cur.gnss.epochFrame + paramN s pGnSteerStale) &&
  decide (1 ≤ s.gr.cur.gnss.type)

end Sys2Proof.Machine
end

