-- ==== Sys2Proof/Machine/GnssTime.lean ====
section
/-!
DEFINITION. Machine/GnssTime.lean: module time and the time pulse (R234 to R240), with TIME_GET. Grid offsets are held in units of
0.01 ps, in which a steering of 0.01 ppb moves the offset by one unit a frame.
-/

namespace Sys2Proof.Machine

/-- The state with module time changed. -/
def updTime (f : TimeState → TimeState) (s : State) : State := { s with gn := { s.gn with time := f s.gn.time } }

/-- R236: pps_place. -/
def ppsPlace (g d : Int) : Int × Int :=
  let n := -3 * (g + d * 1000)
  let k := (n + 2000) / 4000
  (k, (n - 4000 * k + 1) / 3)

/-- R238: hold_unc. -/
def holdUnc (u0 df drift t : Nat) : Nat := min (u0 + df * t / 1000 + drift * t * t / 2000) 0xFFFFFFFF

/-- R234: a steering that moves an offset toward 0 at no more than a limit; how much is the module's choice, and free. -/
def steerToward (g : Int) (lim free : Nat) : Int := Int.sign g * (free % (lim + 1) : Nat)

/-- Whether no function is ENABLED or in RAMP (R235). -/
def fnsIdle (s : State) : Bool := s.gr.fns.all (fun f => f.st != .enabled && f.st != .ramp)

/-- The steering limit in 0.01 ppb: GN.GRID_SLEW once established, 5,000 ns/s before it (R234, R235). -/
def slewLimit (s : State) : Nat := if s.gn.time.slewing && fnsIdle s then 500000 else 100 * paramN s pGnGridSlew

/-- The holdover conditions end. -/
def holdoverOver (s : State) : State :=
  detect detTimeDegraded 0 false 0 (detect detHoldover 0 false 0 s)

/-- An accepted time solution (R237, Table 8-5): `g` the measured grid offset in ps. -/
def acceptTime (source : Nat) (g : Int) (unc freqUnc : Nat) (s : State) : State :=
  let m := g * 100
  let n := freshNat s
  let base := freshNat n.2
  let t := s.gn.time
  let o := t.held - m
  let s1 := updTime (fun t => { t with
    source, meas := m, lastAccept := some s.clk.ms, unc, freqUnc
    freq := if t.st = .locked || t.st = .noTime then ((base.1 % 1000001 : Nat) : Int) - 500000 else t.freq
    steer := if t.isRef then steerToward m (slewLimit s) n.1 else 0 }) base.2
  match t.st with
  | .noTime =>
    if s.clk.established then updTime (fun t => { t with st := .locked, held := m }) s1
    else if t.slewing && decide (m.natAbs ≤ 100000000) then
      let s2 := updTime (fun t => { t with st := .locked, held := m, slewing := false }) s1
      { s2 with clk := { s2.clk with established := true } }
    else s1
  | .locked => updTime (fun t => { t with held := m }) s1
  | .holdover | .degraded =>
    if o.natAbs < 10000000 then holdoverOver (updTime (fun t => { t with st := .recovering }) s1)
    else if t.step.isSome then s1
    else updTime (fun t => { t with step := some (Int.tdiv o 100000), stepAt := 0 }) s1
  | .recovering =>
    if o.natAbs ≤ 500000 then updTime (fun t => { t with st := .locked, held := m }) s1 else s1

/-- Module time in one frame: steering moves the estimates, and RECOVERING slews the held one at no more than 20 ns/s (R234,
R237). -/
def timeFrame (s : State) : State :=
  let t := s.gn.time
  let s1 := updTime (fun t => { t with held := t.held - t.steer, meas := t.meas - t.steer }) s
  if t.st = .recovering then
    let n := freshNat s1
    let d := t.meas - t.held
    updTime (fun t => { t with held := t.held + Int.sign d * (n.1 % (min d.natAbs 2000 + 1) : Nat) }) n.2
  else s1

/-- TIME_HOLDOVER_ENTRY (R237): no accepted time solution for 2 s. -/
def execTimeHoldoverEntry (s : State) : Host.Outcome State Fault Refusal :=
  let t := s.gn.time
  .next (if (t.st = .locked || t.st = .recovering) && (match t.lastAccept with | some a => elapsed s a 2000 | none => true) then
    beginCond detHoldover 0 0 (updTime (fun t => { t with
      st := .holdover, steer := 0, u0 := t.unc, df := max (paramN s pGnHoldFreqMin) t.freqUnc, since := s.clk.ms }) s)
    else s)

/-- What an L2 does to module time (Table 8-5). -/
def timeL2 (s : State) : State :=
  updTime (fun t => { t with st := .holdover, steer := 0, u0 := t.unc, df := max (paramN s pGnHoldFreqMin) t.freqUnc
                             since := s.clk.ms, step := none }) s

/-! ### Establishment (R235) -/

/-- TIME_ESTABLISH (R235): the time reference's first accepted time solution fixes D. -/
def execTimeEstablish (s : State) : Host.Outcome State Fault Refusal :=
  let t := s.gn.time
  .next (if t.isRef && !s.clk.established && t.lastAccept.isSome && t.renumber.isNone && !t.slewing then
    updTime (fun t => { t with renumber := some (divRound t.meas 100000000000), renumSince := s.clk.ms }) s else s)

/-- A frame number shifted by D. -/
def shiftFrame (d : Int) (n : Nat) : Nat := (n + d).toNat

/-- Every frame number shifts by D; a running RECORD_CAPTURE ends (R235). -/
def renumber (d : Int) (s : State) : State :=
  { s with
    clk := { s.clk with frame := shiftFrame d s.clk.frame }
    mb := { s.mb with
      exch := s.mb.exch.map (fun t => { t with frame := shiftFrame d t.frame })
      recent := s.mb.recent.map (fun t => { t with frame := shiftFrame d t.frame })
      horizon := shiftFrame d s.mb.horizon }
    gr := { s.gr with
      capture := s.gr.capture.map (fun c => { c with running := false }), dualSince := shiftFrame d s.gr.dualSince
      next := { s.gr.next with frame := shiftFrame d s.gr.next.frame }, cur := { s.gr.cur with frame := shiftFrame d s.gr.cur.frame } }
    ev := { s.ev with injs := s.ev.injs.map (fun i => { i with frame := shiftFrame d i.frame }) }
    cf := { s.cf with nav := s.cf.nav.map (fun n => { n with frame := shiftFrame d n.frame })
                      cuts := s.cf.cuts.map (fun c => (shiftFrame d c.1, c.2)) }
    gn := { s.gn with
      epoch := s.gn.epoch.map (fun e => (shiftFrame d e.1, e.2))
      part := { s.gn.part with epochFrame := shiftFrame d s.gn.part.epochFrame }
      time := { s.gn.time with renumber := none, slewing := true, meas := s.gn.time.meas - d * 100000000000 } } }

/-- RENUMBER_WAIT_TIMEOUT (R235): renumbering has waited 60 s. -/
def execRenumberWaitTimeout (s : State) : Host.Outcome State Fault Refusal :=
  .next (if (s.gn.time.renumber.isSome && elapsed s s.gn.time.renumSince 60000) || forced s detTimeNotEstablished 0
    then beginCond detTimeNotEstablished 0 0 s else s)

/-! ### Pulses and messages -/

/-- Whether a pulse is emitted in a time state (R236). -/
def pulseOn (s : State) (st : TimeSt) : Bool :=
  s.clk.established && paramN s pGnPpsEnable == 1 &&
    (match st with
      | .locked | .recovering | .holdover => true
      | .degraded => paramN s pGnPpsDegraded == 1
      | .noTime => false)

/-- The state and the offset in ps that the pulse of second `sec` is placed from, `ahead` frames on: the measured one from the
stepped pulse on (R237). -/
def pulseBasis (t : TimeState) (sec ahead : Nat) : TimeSt × Int :=
  let stepped := t.step.isSome && t.stepAt != 0 && decide (t.stepAt ≤ sec)
  (if stepped then .locked else t.st, Int.tdiv ((if stepped then t.meas else t.held) - t.steer * ahead) 100)

/-- The code of a time state (Table 8-6). -/
def timeCode (st : TimeSt) : Nat :=
  match st with | .noTime => 1 | .locked => 2 | .holdover => 3 | .degraded => 4 | .recovering => 5

/-- The uncertainty reported for a second `ahead` frames on (R238). -/
def timeUnc (s : State) (st : TimeSt) (ahead : Nat) : Nat :=
  let t := s.gn.time
  match st with
  | .holdover | .degraded => holdUnc t.u0 t.df (paramN s pGnHoldDrift) ((s.clk.ms + ahead - t.since) / 1000)
  | _ => t.unc

/-- The last 20 bytes of a time message: flags, LEAP, FREQ and PPSI (Table 8-6). -/
def timeTail (t : TimeState) (stepNext pulse established : Bool) : Bytes :=
  u8 (b2n stepNext + 2 * b2n pulse + 4 * b2n established + 8 * b2n t.isRef + 16 * b2n t.ppsiSeen) ++ u8 t.leap ++
    leI 4 (t.freq + t.steer) ++ u64 t.ppsiFrame ++ u32 t.ppsiCycle

/-- The time message for second `sec` (Table 8-6, R239); `step` is the step of the pulse after it. -/
def timeMessage (s : State) (sec : Nat) (step : Int) : Bytes :=
  let t := s.gn.time
  if t.st = .noTime then
    u64 sec ++ zeros 12 ++ u32 0xFFFFFFFF ++ zeros 4 ++ u8 1 ++ u8 t.loaded ++ timeTail t false false false
  else
    let b := pulseBasis t sec 600
    u64 sec ++ leI 8 (Int.tdiv b.2 1000) ++ leI 4 (ppsPlace b.2 (param s pGnPpsDelay)).2 ++ u32 (timeUnc s b.1 600) ++ leI 4 step ++
      u8 (timeCode b.1) ++ u8 t.source ++ timeTail t (decide (step ≠ 0)) (pulseOn s b.1) s.clk.established

/-- PPS_PULSE (R236, R237): the pulse of the second that begins with this frame; a stepped pulse locks. -/
def execPpsPulse (s : State) : Host.Outcome State Fault Refusal :=
  .next (if s.clk.frame % 1000 = 0 then
    let t := s.gn.time
    let b := pulseBasis t s.clk.frame 0
    let p := ppsPlace b.2 (param s pGnPpsDelay)
    let s1 := updTime (fun t => { t with
      pulse := if pulseOn s b.1 then some (s.clk.frame, p.1, p.2, paramN s pGnPpsWidth) else none }) s
    match t.step with
    | some o =>
      if t.stepAt ≠ 0 && decide (t.stepAt ≤ s.clk.frame) then
        let v := measured s detTimeStep 0 o
        happen detTimeStep 0 (v % 4294967296).toNat
          (holdoverOver (updTime (fun t => { t with st := .locked, held := t.meas, step := none, stepAt := 0 }) s1))
      else s1
    | none => s1
    else s)

/-! ### PPSI (R240) -/

/-- PPSI_EDGE (R240): an edge in this frame at a CLK_CTL cycle; in mode 2 it is the true second of the nearest grid second. -/
def execPpsiEdge (cycle : Nat) (s : State) : Host.Outcome State Fault Refusal :=
  let mode := paramN s pGnPpsiMode
  .next (if mode = 0 then s
    else
      let at' : Int := (cycle : Int) * 4 - (paramN s pGnPpsiDelay : Int) * 3
      let c := at' / 4
      let f : Int := (s.clk.frame : Int) + c / 750000
      let s1 := detect detPpsiMissing 0 false 0 (updTime (fun t => { t with
        ppsiFrame := f.toNat, ppsiCycle := (c % 750000).toNat, ppsiAt := some s.clk.ms, ppsiSeen := true }) s)
      let ofs : Int := if f % 1000 = 0 then c % 750000 else if f % 1000 = 999 then c % 750000 - 750000 else 750000
      let gnss := s.gn.time.source == 1 && (s.gn.time.st == .locked || s.gn.time.st == .recovering)
      if mode = 2 && !gnss && decide (ofs.natAbs ≤ 75000) then acceptTime 2 (-(Int.tdiv (ofs * 4000) 3)) 50 0 s1 else s1)

/-- PPSI_MISSING (R240): no edge for 3 s while they were present. -/
def execPpsiMissing (s : State) : Host.Outcome State Fault Refusal :=
  .next (if (s.gn.time.ppsiSeen && (match s.gn.time.ppsiAt with | some a => elapsed s a 3000 | none => false)) || forced s detPpsiMissing 0
    then beginCond detPpsiMissing 0 0 (updTime (fun t => { t with ppsiSeen := false }) s) else s)

/-! ### TIME_GET -/

/-- TIME_GET (Table 8-8, R46): frame and cycle at acceptance, and the latest time message. A message arrives at an instant of its frame that
nothing fixes: the cycle is free from the latest known one on (log entry 3). -/
def bodyTimeGet : Body := emptyPayload fun c s =>
  let n := freshNat s
  let now := s.clk.cycle % 750000
  let cycle := if c.arrival = s.clk.frame then now + n.1 % (750000 - now) else n.1 % 750000
  let s1 := if c.arrival = s.clk.frame then atCycle cycle n.2 else n.2
  ans s1 stOk (u64 c.arrival ++ u32 cycle ++ padTo 48 s1.gn.time.msg)

end Sys2Proof.Machine
end

