-- ==== Sys2Proof/Machine/Route.lean ====
section
/-!
DEFINITION. Machine/Route.lean: routes and cell verdicts as every module computes them from the link-state database (R255, R256, R266).
-/

namespace Sys2Proof.Machine

/-- A directed link of the database between two nodes: from, egress port, to, cost. -/
structure Edge where
  src : Nat
  port : Nat
  dst : Nat
  cost : Nat
  deriving DecidableEq, Repr

/-- The LSA of a UID. -/
def lsaOfUid (db : List Lsa) (u : Nat) : Option Lsa := db.find? (fun l => l.uid == u)

/-- The LSA of a node number. -/
def lsaOfNode (db : List Lsa) (n : Nat) : Option Lsa := db.find? (fun l => l.node == n && n != 0)

/-- The links that count: both ends list each other; the cost is the larger of the two (R255). `key` names a module by what it returns,
0 taking it out of the graph. -/
def edgesBy (key : Lsa → Nat) (db : List Lsa) : List Edge :=
  db.flatMap (fun l => l.links.filterMap (fun k =>
    match lsaOfUid db k.uid with
    | some m =>
      match m.links.find? (fun b => b.uid == l.uid) with
      | some b => if key l = 0 || key m = 0 then none else some ⟨key l, k.port, key m, max k.cost b.cost⟩
      | none => none
    | none => none))

/-- A route found so far: node reached, cost, hops, and the hops' (node, egress port) pairs. -/
structure Found where
  node : Nat
  cost : Nat
  hops : List (Nat × Nat)
  deriving DecidableEq, Repr

/-- Whether a sequence of (node, port) pairs is smaller at the first difference. -/
def seqLess : List (Nat × Nat) → List (Nat × Nat) → Bool
  | [], [] => false
  | [], _ => true
  | _, [] => false
  | a :: as, b :: bs => if a = b then seqLess as bs else decide (a.1 < b.1) || (a.1 == b.1 && decide (a.2 < b.2))

/-- Whether one route is better than another to the same node: lower cost, fewer hops, smaller sequence (R255). -/
def better (a b : Found) : Bool :=
  if a.cost = b.cost then
    (if a.hops.length = b.hops.length then seqLess a.hops b.hops else decide (a.hops.length < b.hops.length))
  else decide (a.cost < b.cost)

/-- A route joins those found, in place of a worse one to the same node. -/
def joinFound (fs : List Found) (x : Found) : List Found :=
  match fs.find? (fun f => f.node == x.node) with
  | none => fs ++ [x]
  | some f => if better x f then fs.map (fun g => if g.node = x.node then x else g) else fs

/-- One round of extending every route by every link. -/
def extend (es : List Edge) (fs : List Found) : List Found :=
  fs.foldl (fun acc f => (es.filter (fun e => e.src == f.node)).foldl
    (fun a e => joinFound a ⟨e.dst, f.cost + e.cost, f.hops ++ [(e.src, e.port)]⟩) acc) fs

/-- Routes after a number of rounds. -/
def roundsOf (es : List Edge) : Nat → List Found → List Found
  | 0, fs => fs
  | n + 1, fs => roundsOf es n (extend es fs)

/-- The best path between two nodes over a set of links; none without one, empty from a node to itself (R255). -/
def bestPath (es : List Edge) (src dst : Nat) : Option (List (Nat × Nat)) :=
  ((roundsOf es 47 [⟨src, 0, []⟩]).find? (fun f => f.node == dst)).map Found.hops

/-- Whether a link belongs to a path, in either direction. -/
def onPath (es : List Edge) (path : List (Nat × Nat)) (e : Edge) : Bool :=
  path.any (fun h => (h.1 == e.src && h.2 == e.port) ||
    es.any (fun x => x.src == h.1 && x.port == h.2 && x.dst == e.src && x.src == e.dst))

/-- The primary path between two nodes of the database. -/
def primaryPath (db : List Lsa) (src dst : Nat) : Option (List (Nat × Nat)) := bestPath (edgesBy Lsa.node db) src dst

/-- The secondary path: without the primary path's links and its nodes other than the ends (R255). -/
def secondaryPath (db : List Lsa) (src dst : Nat) (prim : List (Nat × Nat)) : Option (List (Nat × Nat)) :=
  let es := edgesBy Lsa.node db
  let mid := (prim.map (·.1)).filter (fun n => n != src)
  bestPath (es.filter (fun e => !onPath es prim e && !mid.contains e.src && !mid.contains e.dst)) src dst

/-- The modules reachable from a UID, itself included. -/
def reachable (db : List Lsa) (u : Nat) : List Nat :=
  let es := edgesBy (fun l => l.uid) db
  (roundsOf es 47 [⟨u, 0, []⟩]).map Found.node

/-- The share that a module has in a generation: its pending one where the generation is for the frame `at'` of application of that,
else its active one (`at'` is 0 for the generation of the active shares). -/
def shareIn (at' : Nat) (l : Lsa) : List ShareCell := if at' != 0 && l.pendingAt == at' then l.pending else l.active

/-- The checks of a cell before its paths (R266, steps 1 and 2, and MACHINE_SET): the reason it is rejected with, 0 none. -/
def matchReason (at' : Nat) (db : List Lsa) (a : Lsa) (c : ShareCell) : Nat :=
  match lsaOfNode db c.peer with
  | none => 3
  | some b =>
    if b.mset ≠ a.mset then 7
    else
      match (shareIn at' b).find? (fun r => r.dir == 2 && r.peer == a.node && r.cell == c.cell) with
      | some r => if r.vcount = c.vcount then 0 else 1
      | none =>
        if db.any (fun x => x.node != c.peer && (shareIn at' x).any (fun r => r.dir == 2 && r.peer == a.node && r.cell == c.cell))
        then 2 else 0

/-- Whether a path of `h` hops meets the cut-off (R266, step 5), in ns. -/
def cellInTime (c : ShareCell) (h : Nat) : Bool := decide (50000 * c.tick + 2000 + 672 * c.subslot + 26000 * h + 2000 ≤ 980000)

/-- The load booked on links: node, port, TICK, for each cell that crosses. -/
abbrev LinkLoad := List (Nat × Nat × Nat)

/-- The verdict and paths of one cell, after the cells already judged (R266). `single` says whether a missing secondary path makes it
SINGLE. -/
def judgeCell (at' : Nat) (db : List Lsa) (single : Nat → Nat → Bool) (a : Lsa) (c : ShareCell)
    (acc : List CellVerdict × List CellPath × LinkLoad) : List CellVerdict × List CellPath × LinkLoad :=
  let rej := fun (r : Nat) => (acc.1 ++ [⟨a.node, c.cell, 3, r⟩], acc.2.1, acc.2.2)
  let m := matchReason at' db a c
  if m ≠ 0 then rej m
  else match primaryPath db a.node c.peer with
    | none => rej 3
    | some p =>
      let sec := secondaryPath db a.node c.peer p
      let q := sec.getD []
      let load := (p ++ q).map (fun h => (h.1, h.2, c.tick + 32 * a.node))
      if load.any (fun x => decide (18 ≤ (acc.2.2.filter (· == x)).length)) then rej 5
      else if !cellInTime c p.length || (sec.isSome && !cellInTime c q.length) then rej 6
      else if sec.isNone && !single a.node c.cell then rej 4
      else (acc.1 ++ [⟨a.node, c.cell, if sec.isSome then 1 else 2, 0⟩], acc.2.1 ++ [⟨a.node, c.cell, c.peer, p, q⟩], acc.2.2 ++ load)

/-- Receive entries without a send entry on their source (R266, step 1). -/
def orphans (at' : Nat) (db : List Lsa) : List CellVerdict :=
  (db.flatMap (fun b => ((shareIn at' b).filter (fun r => r.dir == 2)).filterMap (fun r =>
    match lsaOfNode db r.peer with
    | some a => if (shareIn at' a).any (fun c => c.dir == 1 && c.cell == r.cell) then none else some ⟨r.peer, r.cell, 3, 1⟩
    | none => some ⟨r.peer, r.cell, 3, 1⟩))).eraseDups

/-- The verdicts of the fabric schedule, cells in ascending source and cell number (R266). -/
def judgeAll (at' : Nat) (db : List Lsa) (single : Nat → Nat → Bool) : List CellVerdict × List CellPath :=
  let mods := sortBy Lsa.node (db.filter (fun l => l.node != 0))
  let r := mods.foldl (fun acc a =>
    (sortBy ShareCell.cell ((shareIn at' a).filter (fun c => c.dir == 1))).foldl
      (fun acc c => judgeCell at' db single a c acc) acc) (([] : List CellVerdict), ([] : List CellPath), ([] : LinkLoad))
  (r.1 ++ orphans at' db, r.2.1)

end Sys2Proof.Machine
end

