-- ==== Sys2Proof/Machine/Fabric.lean ====
section
/-!
DEFINITION. Machine/Fabric.lean: discovery, node numbers, the coordinator, the time reference and frame alignment of the Brixea fabric
(R247, R250 to R260, R267, R270, R272).
-/

namespace Sys2Proof.Machine

/-- The state with the fabric changed. -/
def updFb (f : Fabric → Fabric) (s : State) : State := { s with fb := f s.fb }

/-- Port `p` of the fabric. -/
def fbPort (s : State) (p : Nat) : FbPort := nth s.fb.ports p port0

/-- The state with one fabric port changed. -/
def updPort (p : Nat) (f : FbPort → FbPort) (s : State) : State := updFb (fun b => { b with ports := updAt b.ports p f }) s

/-- The module's node number, 0 for none (R253). -/
def myNode (s : State) : Nat := paramN s pFbNode

/-- Whether a port may carry anything: it is enabled, the supervisor runs and the working clocks run (R247, R272). -/
def portOn (s : State) (p : Nat) : Bool := s.rs.supUp && s.clk.running && bit (paramN s pFbPortEnable) p

/-- A message leaves on a port whose link is up. -/
def fbSend (p : Nat) (m : FbMsg) (s : State) : State :=
  if portOn s p && (fbPort s p).link then updFb (fun b => { b with tx := b.tx ++ [⟨p, m⟩] }) s else s

/-- A message leaves on every port with a neighbour but one (R251). -/
def fbFlood (but : Option Nat) (m : FbMsg) (s : State) : State :=
  ((List.range 4).filter (fun p => (fbPort s p).up && but != some p)).foldl (fun st p => fbSend p m st) s

/-! ### The database -/

/-- The cells of a schedule share: one summary entry for each cell and direction (Tables 9-1 and 9-4). -/
def shareOf (entries : List Bytes) : List ShareCell :=
  ((entries.map (fun e => (rdN e 0 1, rdN e 2 1))).eraseDups).filterMap (fun k =>
    let es := entries.filter (fun e => rdN e 0 1 == k.1 && rdN e 2 1 == k.2)
    es.head?.map (fun e => ⟨k.1, k.2, rdN e 3 1, rdN e 4 1, rdN e 5 1, (es.map (fun x => rdN x 1 1)).foldl max 0 + 1⟩))

/-- The pending share: that of the first selection handed over, with its frame of application (R266). -/
def pendingShare (s : State) : List ShareCell × Nat :=
  match s.pf.selected.head? with
  | none => ([], 0)
  | some x =>
    match s.mb.exch.find? (fun t => t.order == x.order) with
    | some t => (shareOf x.image.cream, t.frame)
    | none => ([], 0)

/-- The module's own LSA (Table 9-1). -/
def ownLsa (s : State) : Lsa :=
  { uid, node := myNode s, seq := s.fb.seq, stamp := s.fb.stamp, mset := s.pf.work.machineSet, time := timeCode s.gn.time.st
    prio := paramN s pFbTimePrio
    flags := b2n (!fnsIdle s) + 2 * b2n s.fb.lost + 4 * b2n (paramN s pFbAutoNumber == 1)
    links := (List.range 4).filterMap (fun p => if (fbPort s p).up then some ⟨p, (fbPort s p).uid, paramN s (pFbLinkCost p)⟩ else none)
    active := shareOf s.pf.work.cream, pending := (pendingShare s).1, pendingAt := (pendingShare s).2 }

/-- The whole database, the own LSA included, in ascending unique ID. -/
def database (s : State) : List Lsa := sortBy Lsa.uid (ownLsa s :: s.fb.db.map DbEntry.lsa)

/-- The unique ID of the coordinator: the lowest of the database (R252). -/
def coordinator (s : State) : Nat := (s.fb.db.map (fun e => e.lsa.uid)).foldl min uid

/-- Whether this module is the coordinator; one in ROM recovery mode is not (R361). -/
def leads (s : State) : Bool := coordinator s == uid && !inRecovery s

/-- The newest verdict generation known. -/
def latestGen (s : State) : Generation := s.fb.waiting.getLast?.getD s.fb.force

/-- The port of the primary path to a node, none without a path (R255, R256). -/
def routePort (s : State) (dst : Nat) : Option Nat :=
  if myNode s = 0 then none else ((primaryPath (database s) (myNode s) dst).bind List.head?).map (·.2)

/-! ### Node numbers (R253, R254) -/

/-- Every session bound to this module under R25, and every one relayed through it, closes (R254, R274). -/
def closeFabricSessions (s : State) : State :=
  ((s.mb.sessions.filter (fun x => x.binding.transport == .fabric)).map Sess.num).foldl (fun st n => closeSession n 6 st)
    { s with mb := { s.mb with relayed := [] } }

/-- The fabric state restarts as at L2 (R272): ports down, database empty, the grid goes on. -/
def fabricRestart (s : State) : State :=
  updFb (fun b => { b with
    ports := b.ports.map (fun p => { port0 with sqi := p.sqi, fcs := p.fcs, downs := satU 16 (p.downs + b2n p.link) })
    db := [], flooded := none, rx := [], flows := [], sync := none, syncAt := s.clk.ms, inSince := none, outSince := none
    rejoin := b.align = .aligned || b.align = .aligning || b.align = .syncHold || b.rejoin
    align := if b.align = .aligned || b.align = .aligning then .syncHold else b.align
    since := s.clk.ms, renumAt := 0 }) s

/-- An L0 or L1, STOP and the standby modes: all ports are down, and alignment begins afresh (R272). -/
def fabricDown (s : State) : State :=
  updFb (fun b => { b with align := .unaligned, ref := 0, rejoin := false, offset := 0, step := none }) (fabricRestart s)

/-- The node number and its ASSIGN_STAMP are stored (R253). -/
def storeNode (node stamp : Nat) (s : State) : State :=
  updFb (fun b => { b with stamp }) (writeSettings [(pFbNode, (node : Int))] s)

/-- A target stores its new number: it leaves the lost state, restarts its fabric state and closes the sessions bound to it (R274). -/
def takeNumber (node stamp : Nat) (s : State) : State :=
  closeFabricSessions (fabricRestart (updFb (fun b => { b with lost := false }) (storeNode node stamp s)))

/-- An ASSIGN with a new stamp for its target: remembered, flooded on, and stored by its target. -/
def passAssign (but : Option Nat) (target node stamp : Nat) (s : State) : State :=
  if (getKey target s.fb.assigns).any (fun x => decide (stamp ≤ x)) then s
  else
    let s1 := fbFlood but (.assign target node stamp) (updFb (fun b => { b with assigns := setKey target stamp b.assigns }) s)
    if target = uid then takeNumber node stamp s1 else s1

/-- Whether another LSA of the database takes the own number (R254): the lower stamp keeps it, then the lower unique ID. -/
def numberLost (s : State) : Bool :=
  myNode s != 0 && s.fb.db.any (fun e => e.lsa.node == myNode s &&
    (decide (e.lsa.stamp < s.fb.stamp) || (e.lsa.stamp == s.fb.stamp && decide (e.lsa.uid < uid))))

/-- The other module of a duplicate number gives it up (R254). -/
def resolveDuplicate (s : State) : State :=
  if numberLost s then
    happen detDuplicateNode 0 0 (closeFabricSessions (updFb (fun b => { b with lost := true }) (storeNode 0 s.fb.stamp s)))
  else s

/-- The lowest number that no LSA of the database holds. -/
def freeNumber (db : List Lsa) : Option Nat := ((List.range 32).map (· + 1)).find? (fun n => db.all (fun l => l.node != n))

/-- The coordinator numbers the modules that ask for it (R253), each with the frame as its ASSIGN_STAMP. -/
def autoNumber (s : State) : State :=
  if leads s then
    let want := (database s).filter (fun l => l.node == 0 && bit l.flags 2 && !bit l.flags 1)
    match want.head? with
    | none => detect detNoFreeNodeNumber 0 (forced s detNoFreeNodeNumber 0) 0 s
    | some l =>
      match freeNumber (database s) with
      | some n => passAssign none l.uid n s.clk.frame (detect detNoFreeNodeNumber 0 (forced s detNoFreeNodeNumber 0) 0 s)
      | none => detect detNoFreeNodeNumber 0 true 0 s
  else s

/-! ### The time reference (R257) -/

/-- The order of R257's rules 1 to 4, the best with the lowest number. -/
def refRank (l : Lsa) : Nat :=
  (if l.time = 2 || l.time = 5 then 0 else if l.time ≠ 1 then 1 else 2) * 100000 + (15 - min 15 l.prio) * 1000 + l.node

/-- The best of some candidates. -/
def bestRef (ls : List Lsa) : Option Lsa := (sortBy refRank ls).head?

/-- The module that is the time reference by the database, given the present one (0 none). -/
def chooseRef (s : State) : Nat :=
  let db := database s
  let cands := db.filter (fun l => decide (0 < l.prio) && l.node != 0)
  let best := ((bestRef cands).map Lsa.uid).getD (coordinator s)
  match lsaOfUid db s.fb.ref with
  | none => best
  | some r =>
    if r.prio = 0 || r.node = 0 then (if cands.isEmpty then r.uid else best)
    else if r.time = 2 || r.time = 5 || r.time = 3 then r.uid
    else if cands.any (fun l => l.time == 2) then best
    else r.uid

/-- The module takes a time reference: its own part in alignment follows (Table 9-2). -/
def setRef (u : Nat) (s : State) : State :=
  if u = s.fb.ref then (if forced s detTimeReferenceChange 0 then happen detTimeReferenceChange 0 0 s else s)
  else
    let s1 := if s.fb.ref = 0 then s else happen detTimeReferenceChange 0 0 s
    let s2 := updFb (fun b => { b with ref := u, align := if u = uid then .reference else b.align, syncAt := s.clk.ms, since := s.clk.ms }) s1
    updTime (fun t => { t with isRef := u == uid }) s2

/-! ### Verdicts (R266, R267) -/

/-- The state of the rejected and the single cells that concern this module, judged for the newest generation. -/
def judgeEvents (old new : Generation) (s : State) : State :=
  let mine := fun (c : CellVerdict) => c.src == myNode s || (shareOf s.pf.work.cream).any (fun r => r.dir == 2 && r.peer == c.src && r.cell == c.cell)
  let wasOk := fun (c : CellVerdict) => old.cells.any (fun o => o.src == c.src && o.cell == c.cell && o.verdict == 1)
  let rejected := new.cells.filter (fun c => c.verdict == 3 && (mine c || leads s))
  let single := new.cells.filter (fun c => c.verdict == 2 && mine c)
  let lost := single.any wasOk || (!single.isEmpty && isPresent s detRedundancyLost 0)
  detect detRedundancyLost 0 (lost || forced s detRedundancyLost 0) 0
    (detect detScheduleRejected 0 (!rejected.isEmpty || forced s detScheduleRejected 0) ((rejected.head?.map CellVerdict.reason).getD 0) s)

/-- A generation joins those waiting for their frame. -/
def addGeneration (g : Generation) (s : State) : State :=
  judgeEvents (latestGen s) g (updFb (fun b => { b with waiting := b.waiting ++ [g] }) s)

/-- Whether a missing secondary path leaves a cell SINGLE (R266): FB.REDUNDANCY = 0, or the cell was sent before and its share stays in
force. -/
def mayBeSingle (s : State) (at' : Nat) (src cell : Nat) : Bool :=
  paramN s pFbRedundancy == 0 ||
    (!(at' != 0 && (lsaOfNode (database s) src).any (fun l => l.pendingAt == at')) &&
      (latestGen s).cells.any (fun c => c.src == src && c.cell == cell && (c.verdict == 1 || c.verdict == 2)))

/-- The coordinator judges the schedule for one frame of application and floods the verdicts. -/
def issueVerdict (at' : Nat) (s : State) : State :=
  let j := judgeAll at' (database s) (mayBeSingle s at')
  let g : Generation := ⟨(latestGen s).gen + 1, max (s.clk.frame + 20) at', j.1, j.2⟩
  addGeneration g (fbFlood none (.verdict ⟨g.gen, g.frame, g.cells⟩) s)

/-- The coordinator recomputes the verdicts: for the active shares, then for each pending frame of application in ascending order. -/
def recomputeVerdicts (s : State) : State :=
  if leads s then
    (sortBy id (((database s).map Lsa.pendingAt).filter (· != 0)).eraseDups).foldl (fun st f => issueVerdict f st) (issueVerdict 0 s)
  else s

/-- The paths of the cells that a received verdict sends, as this module computes them (R255). -/
def pathsFor (db : List Lsa) (at' : Nat) (cells : List CellVerdict) : List CellPath :=
  cells.filterMap (fun v =>
    if v.verdict = 3 then none
    else match (lsaOfNode db v.src).bind (fun a => (shareIn at' a).find? (fun c => c.dir == 1 && c.cell == v.cell)) with
      | none => none
      | some c =>
        (primaryPath db v.src c.peer).map (fun p =>
          ⟨v.src, v.cell, c.peer, p, if v.verdict = 1 then (secondaryPath db v.src c.peer p).getD [] else []⟩))

/-! ### Changes of the database -/

/-- The LSAs whose module cannot be reached leave the database (R251). -/
def pruneDb (s : State) : State :=
  let r := reachable (database s) uid
  updFb (fun b => { b with db := b.db.filter (fun e => r.contains e.lsa.uid) }) s

/-- The content of an LSA without its sequence number. -/
def lsaBody (l : Lsa) : Lsa := { l with seq := 0 }

/-- The module floods its LSA with the next LSA_SEQ (R251). -/
def floodOwn (s : State) : State :=
  let s1 := updFb (fun b => { b with seq := wrapU 32 (b.seq + 1), floodAt := s.clk.ms }) s
  fbFlood none (.lsa (ownLsa s1)) (updFb (fun b => { b with flooded := some (ownLsa s1) }) s1)

/-- What the module does on a change of its database: unreachable LSAs leave it, a duplicate number resolves, the coordinator numbers
modules, the time reference is chosen, the verdicts are computed again (R251 to R254, R257, R267). -/
def dbChanged (s : State) : State :=
  let s1 := autoNumber (resolveDuplicate (pruneDb s))
  recomputeVerdicts (setRef (chooseRef s1) s1)

/-- The own LSA has new content: it is flooded, and the database has changed. -/
def refreshOwn (s : State) : State :=
  if s.fb.flooded.map lsaBody = some (lsaBody (ownLsa s)) then s
  else
    let s1 := dbChanged s
    floodOwn s1

/-- LSA_FLOOD (R251): at a change of content, or 1,000 ms after the last. -/
def execLsaFlood (s : State) : Host.Outcome State Fault Refusal :=
  .next (if !s.rs.supUp then s
    else if s.fb.flooded.map lsaBody ≠ some (lsaBody (ownLsa s)) then refreshOwn s
    else if elapsed s s.fb.floodAt 1000 then floodOwn s else s)

/-- LSA (R251 to R257, R266, R267): a newer LSA is stored, forwarded, and everything that depends on the database follows. -/
def execLsa (port : Fin 4) (m : Lsa) (s : State) : Host.Outcome State Fault Refusal :=
  .next (if !portOn s port.val || m.uid = uid then s
    else match s.fb.db.find? (fun e => e.lsa.uid == m.uid) with
      | some e =>
        if e.lsa.seq < m.seq then
          let s1 := fbFlood (some port.val) (.lsa m) (updFb (fun b => { b with
            db := b.db.map (fun x => if x.lsa.uid = m.uid then ⟨m, s.clk.ms⟩ else x) }) s)
          if lsaBody e.lsa = lsaBody m then s1 else refreshOwn (dbChanged s1)
        else s
      | none =>
        if s.fb.db.length < 47 && !forced s detDatabaseOverflow 0 then
          refreshOwn (dbChanged (fbFlood (some port.val) (.lsa m) (updFb (fun b => { b with db := b.db ++ [⟨m, s.clk.ms⟩] }) s)))
        else happen detDatabaseOverflow 0 0 s)

/-- LSA_EXPIRY (R251): LSAs not refreshed for 3,000 ms leave the database. -/
def execLsaExpiry (s : State) : Host.Outcome State Fault Refusal :=
  .next (if s.fb.db.any (fun e => elapsed s e.at' 3000) then
    refreshOwn (dbChanged (updFb (fun b => { b with db := b.db.filter (fun e => !elapsed s e.at' 3000) }) s)) else s)

/-- ASSIGN (R253, R274): flooded on while its stamp is new, and stored by its target. -/
def execAssign (port : Fin 4) (target node stamp : Nat) (s : State) : Host.Outcome State Fault Refusal :=
  .next (if portOn s port.val && decide (node ≤ 32) then refreshOwn (passAssign (some port.val) target node stamp s) else s)

/-- VERDICT (R267): a newer generation is stored for its frame and flooded on. -/
def execVerdict (port : Fin 4) (m : VerdictMsg) (s : State) : Host.Outcome State Fault Refusal :=
  .next (if portOn s port.val && decide ((latestGen s).gen < m.gen) then
    let db := database s
    let at' := if db.any (fun l => l.pendingAt == m.frame && m.frame != 0) then m.frame else 0
    addGeneration ⟨m.gen, m.frame, m.cells, pathsFor db at' m.cells⟩ (fbFlood (some port.val) (.verdict m) s)
    else s)

/-- VERDICT_IN_FORCE (R267): at a frame boundary the newest generation whose frame has come is in force. -/
def execVerdictInForce (s : State) : Host.Outcome State Fault Refusal :=
  .next (match (s.fb.waiting.filter (fun g => decide (g.frame ≤ s.clk.frame))).getLast? with
    | some g => updFb (fun b => { b with force := g, waiting := b.waiting.filter (fun x => decide (s.clk.frame < x.frame)) }) s
    | none => s)

/-! ### Ports and neighbours -/

/-- HELLO_SEND (R250): UID, node, port, the neighbour's UID as seen, the link cost. -/
def execHelloSend (port : Fin 4) (s : State) : Host.Outcome State Fault Refusal :=
  .next (fbSend port.val (.hello uid (myNode s) port.val (fbPort s port.val).uid (paramN s (pFbLinkCost port.val))) s)

/-- HELLO (R250): the third in a row that names this module as seen brings the neighbour up. -/
def execHello (port : Fin 4) (sender node nport seen _cost : Nat) (s : State) : Host.Outcome State Fault Refusal :=
  let p := fbPort s port.val
  .next (if !portOn s port.val || !p.link then s
    else
      let row := if p.uid = sender && !elapsed s p.last 30 then min 3 (p.row + 1) else 1
      let up := (p.up && p.uid == sender) || (decide (3 ≤ row) && seen == uid)
      refreshOwn (updPort port.val (fun p => { p with uid := sender, node, nport, row, last := s.clk.ms, up }) s))

/-- A neighbour is gone: routes and everything else that depends on the database change. -/
def neighbourDown (p : Nat) (s : State) : State :=
  refreshOwn (dbChanged (updPort p (fun x => { x with up := false, row := 0, uid := 0, node := 0, delays := [] }) s))

/-- NEIGHBOUR_TIMEOUT (R250): three HELLO periods without one. -/
def execNeighbourTimeout (port : Fin 4) (s : State) : Host.Outcome State Fault Refusal :=
  let p := fbPort s port.val
  .next (if p.up && elapsed s p.last 30 then neighbourDown port.val s else s)

/-- A link goes down: the neighbour at once, and a link-down event (R250, R270). -/
def linkDown (p : Nat) (s : State) : State :=
  beginCond detLinkDown (p + 1) 0
    (neighbourDown p (updPort p (fun x => { x with link := false, downs := satU 16 (x.downs + 1), lowSince := none }) s))

/-- LINK_DOWN (R270). -/
def execLinkDown (port : Fin 4) (s : State) : Host.Outcome State Fault Refusal :=
  .next (if (fbPort s port.val).link || forced s detLinkDown (port.val + 1) then linkDown port.val s else s)

/-- LINK_UP (R247): an enabled port. -/
def execLinkUp (port : Fin 4) (s : State) : Host.Outcome State Fault Refusal :=
  .next (if portOn s port.val then
    detect detLinkDown (port.val + 1) false 0
      (updPort port.val (fun p => { p with link := true, up := false, row := 0, lowSince := none }) s) else s)

/-- LINK_DEGRADED (R270): a signal quality below FB.SQI_MIN for 1 s is an event, once per episode. -/
def execLinkDegraded (port : Fin 4) (sqi : Nat) (s : State) : Host.Outcome State Fault Refusal :=
  let q := measured s detLinkDegraded (port.val + 1) (min sqi 7)
  let low := decide (q < paramN s pFbSqiMin)
  let since := (fbPort s port.val).lowSince.getD s.clk.ms
  let s1 := updPort port.val (fun p => { p with sqi := min sqi 7, lowSince := if low then some since else none }) s
  .next (if !(fbPort s port.val).link then s
    else if low then (if elapsed s since 1000 then beginCond detLinkDegraded (port.val + 1) q.toNat s1 else s1)
    else detect detLinkDegraded (port.val + 1) false 0 s1)

/-! ### Link delay (R258) -/

/-- Insertion into a list of integers in ascending order. -/
def insertI (x : Int) : List Int → List Int
  | [] => [x]
  | y :: ys => if x < y then x :: y :: ys else y :: insertI x ys

/-- The median of a list of integers, the mean of the two middle ones for an even count; 0 of none. -/
def medianI (l : List Int) : Int :=
  let t := l.foldl (fun acc x => insertI x acc) []
  let n := t.length
  if n = 0 then 0
  else if n % 2 = 1 then nth t (n / 2) 0
  else (nth t (n / 2 - 1) 0 + nth t (n / 2) 0) / 2

/-- The link delay of a port in ps. -/
def linkDelay (s : State) (p : Nat) : Int := medianI (fbPort s p).delays

/-- DELAY_REQ (R258): a request every 125 ms, or the answer to a received one. -/
def execDelayReq (port : Fin 4) (reply : Option (Nat × Nat × Nat)) (s : State) : Host.Outcome State Fault Refusal :=
  .next (match reply with
    | some r => fbSend port.val (.delayResp r.1 r.2.1 r.2.2) s
    | none =>
      let n := wrapU 16 ((fbPort s port.val).reqId + 1)
      if portOn s port.val && (fbPort s port.val).link then
        fbSend port.val (.delayReq n) (updPort port.val (fun p => { p with reqId := n }) s) else s)

/-- DELAY_RESP (R258): a mean link delay, one of the last 8. -/
def execDelayResp (port : Fin 4) (id : Nat) (t1 t2 t3 t4 : Int) (s : State) : Host.Outcome State Fault Refusal :=
  .next (if portOn s port.val && (fbPort s port.val).link && (fbPort s port.val).reqId == id then
    updPort port.val (fun p => { p with delays := pushRing 8 p.delays (Int.tdiv ((t4 - t1) - (t3 - t2)) 2) }) s else s)

/-! ### Alignment (R258, R259) -/

/-- The state with an alignment state entered now. -/
def enterAlign (a : AlignSt) (s : State) : State :=
  updFb (fun b => { b with align := a, since := s.clk.ms, inSince := none, outSince := none, rejoin := false }) s

/-- The follower's grid will step at the next boundary, onto the frame number that SYNC carries; `d` is the difference. -/
def alignStep (d : Int) (s : State) : State := updFb (fun b => { b with step := some d }) s

/-- The follower slews (R259): the frequency correction moves the grid by at most 5,000 ns/s. -/
def alignSlew (s : State) : State :=
  let n := freshNat s
  updTime (fun t => { t with steer := steerToward s.fb.offset 500000 n.1 }) n.2

/-- Step when idle, else slew. -/
def alignMove (d : Int) (s : State) : State := if fnsIdle s then alignStep d s else alignSlew s

/-- The alignment is lost (Table 9-2): recorded with the offset in ns, then slewing, or a step when idle. -/
def alignLost (ns : Int) (d : Int) (s : State) : State :=
  alignMove d (enterAlign .aligning (happen detAlignmentLost 0 (ns % 4294967296).toNat s))

/-- What a SYNC whose offset (ps) and frame difference are given does to the alignment (Table 9-2, R272). -/
def alignOn (off d : Int) (s : State) : State :=
  let a := off.natAbs
  let ns := measured s detAlignmentLost 0 (Int.tdiv off 1000)
  let lost := decide (2000 < ns.natAbs)
  match s.fb.align with
  | .unaligned =>
    if fnsIdle s then alignStep d (enterAlign .aligning s)
    else if d = 0 && decide (a ≤ 100000000) && !forced s detForeignGrid 0 then alignSlew (enterAlign .aligning s)
    else beginCond detForeignGrid 0 0 (enterAlign .foreign s)
  | .aligning =>
    if a ≤ 1000000 && d = 0 then
      (if elapsed s (s.fb.inSince.getD s.clk.ms) 1000 then enterAlign .aligned s
       else updFb (fun b => { b with inSince := some (b.inSince.getD s.clk.ms) }) s)
    else alignMove d (updFb (fun b => { b with inSince := none }) s)
  | .aligned =>
    if lost || d ≠ 0 then
      (if elapsed s (s.fb.outSince.getD s.clk.ms) 100 then alignLost ns d s
       else updFb (fun b => { b with outSince := some (b.outSince.getD s.clk.ms) }) s)
    else updFb (fun b => { b with outSince := none }) s
  | .syncHold =>
    if s.fb.rejoin then
      (if a ≤ 1000000 && d = 0 then enterAlign .aligned s else alignMove d (enterAlign .aligning s))
    else if lost || d ≠ 0 then alignLost ns d s
    else enterAlign .aligned s
  | .foreign =>
    if fnsIdle s then alignStep d (detect detForeignGrid 0 false 0 (enterAlign .aligning s)) else s
  | .reference =>
    if s.fb.ref = uid then s
    else if a ≤ 1000000 && d = 0 then enterAlign .aligned s
    else enterAlign .aligning s

/-- Two time references after a merge: the better one by the rules of R257 stays (log entry 26). -/
def meetRef (node : Nat) (s : State) : State :=
  match lsaOfNode (database s) node, lsaOfUid (database s) s.fb.ref with
  | some x, some r => if x.uid = r.uid then s else setRef (((bestRef [x, r]).map Lsa.uid).getD r.uid) s
  | some x, none => setRef x.uid s
  | none, _ => s

/-- SYNC (R258, R259): on the port of the primary path toward the time reference; the offset is the own boundary less the reference's. -/
def execSync (port : Fin 4) (m : SyncMsg) (rx : Int) (s : State) : Host.Outcome State Fault Refusal :=
  .next (if !portOn s port.val || !(fbPort s port.val).link then s
    else
      let s0 := meetRef m.ref s
      let refNode := ((lsaOfUid (database s0) s0.fb.ref).map Lsa.node).getD 0
      if s0.fb.ref = uid || refNode ≠ m.ref || m.ref = 0 || routePort s0 m.ref ≠ some port.val then s0
      else
        let off := m.corr + m.delay + linkDelay s0 port.val - rx
        let d : Int := (m.frame : Int) - s0.clk.frame
        let s1 := updFb (fun b => { b with sync := some m, syncAt := s0.clk.ms, syncPort := port.val, offset := off }) s0
        alignOn off d (detect detSyncLost 0 false 0 s1))

/-- SYNC_SEND (R258): from the time reference outward; a follower sends on with its residence time added. -/
def execSyncSend (port : Fin 4) (corr : Int) (s : State) : Host.Outcome State Fault Refusal :=
  .next (if inRecovery s then s
    else if s.fb.ref = uid then
    fbSend port.val (.sync ⟨myNode s, s.clk.frame, corr, 0, if s.fb.renumAt = 0 then 0 else s.gn.time.renumber.getD 0, s.fb.renumAt⟩) s
    else match s.fb.sync with
      | some m =>
        if port.val = s.fb.syncPort || elapsed s s.fb.syncAt 100 then s
        else fbSend port.val (.sync { m with corr := m.corr + corr, delay := m.delay + linkDelay s s.fb.syncPort }) s
      | none => s)

/-- ALIGNMENT_TIMER (Table 9-2). -/
def execAlignmentTimer (s : State) : Host.Outcome State Fault Refusal :=
  let d : Int := match s.fb.sync with
    | some m => if s.fb.step.isSome then 0 else (m.frame : Int) + (s.clk.ms - s.fb.syncAt : Nat) - s.clk.frame
    | none => 0
  .next (if s.fb.ref = uid then s
    else if s.fb.align = .foreign then
      (if fnsIdle s then alignStep d (detect detForeignGrid 0 false 0 (enterAlign .aligning s)) else s)
    else if (s.fb.align = .aligned || s.fb.align = .aligning) && elapsed s s.fb.syncAt 100 then
      updFb (fun b => { b with align := .syncHold, since := s.clk.ms, inSince := none, outSince := none }) s
    else if s.fb.align = .syncHold && (elapsed s s.fb.syncAt 10000 || forced s detSyncLost 0) then
      enterAlign .unaligned (beginCond detSyncLost 0 0 s)
    else if s.fb.align = .aligning && s.fb.inSince.any (fun t => elapsed s t 1000) then enterAlign .aligned s
    else if s.fb.align = .aligned && s.fb.outSince.any (fun t => elapsed s t 100) then
      alignLost (measured s detAlignmentLost 0 (Int.tdiv s.fb.offset 1000)) d s
    else s)

/-- What a frame boundary does to a follower's grid (R259): a step due is made, with the shift of pending commands that R235 makes. -/
def fbBoundary (s : State) : State :=
  match s.fb.step with
  | none => s
  | some d =>
    let t := s.gn.time
    let s1 := updTime (fun u => { u with renumber := t.renumber, slewing := t.slewing, meas := t.meas }) (renumber d s)
    updFb (fun b => { b with step := none, offset := 0 }) s1

/-! ### The reference's time message and renumbering -/

/-- FRAME_RENUMBER (R235, R259): with no function enabled anywhere; over the fabric it is announced 100 frames ahead and every module
makes it at that boundary. -/
def execFrameRenumber (s : State) : Host.Outcome State Fault Refusal :=
  let idle := (database s).all (fun l => !bit l.flags 0)
  .next (if s.fb.ref = uid || s.fb.ref = 0 then
    match s.gn.time.renumber with
    | none => s
    | some d =>
      if s.fb.renumAt ≠ 0 then
        (if s.fb.renumAt ≤ s.clk.frame then
          updFb (fun b => { b with renumAt := 0 }) (detect detTimeNotEstablished 0 false 0 (renumber d s)) else s)
      else if !idle then s
      else if s.fb.ports.any FbPort.up then updFb (fun b => { b with renumAt := s.clk.frame + 100 }) s
      else detect detTimeNotEstablished 0 false 0 (renumber d s)
    else match s.fb.sync with
      | some m =>
        if m.renumAt ≠ 0 && m.renumAt == s.clk.frame then
          let t := s.gn.time
          updFb (fun b => { b with sync := some { m with renum := 0, renumAt := 0 } })
            (updTime (fun u => { u with renumber := none, slewing := t.slewing }) (renumber m.renum s))
        else s
      | none => s)

/-- TIME (R240, R260): the reference's message is kept and flooded on; a follower without its own accepted solution places its pulses by
it, 1,000 ns less certain. -/
def execTime (port : Fin 4) (msg : Bytes) (s : State) : Host.Outcome State Fault Refusal :=
  let t := s.gn.time
  .next (if !portOn s port.val || s.fb.ref = uid || msg.length ≠ 48 ||
      (!t.refMsg.isEmpty && decide (rdN msg 0 8 ≤ rdN t.refMsg 0 8)) then s
    else
      let s1 := fbFlood (some port.val) (.time msg) (updTime (fun t => { t with refMsg := msg, leap := rdN msg 31 1 }) s)
      let own := t.source != 3 && (t.st == .locked || t.st == .recovering)
      if own || rdN msg 28 1 = 1 then s1
      else
        let s2 := if bit (rdN msg 30 1) 2 then { s1 with clk := { s1.clk with established := true } } else s1
        acceptTime 3 (1000 * rdI msg 8 8) (satU 32 (rdN msg 20 4 + 1000)) 0 s2)

/-- The time reference floods each of its time messages (Table 9-1). -/
def floodTime (msg : Bytes) (s : State) : State := if s.fb.ref = uid then fbFlood none (.time msg) s else s

/-- TIME_MESSAGE_QUEUE (R237 to R239, R260): at frame S − 600 the message for second S. -/
def execTimeMessageQueue (s : State) : Host.Outcome State Fault Refusal :=
  .next (if s.clk.frame % 1000 = 400 && s.rs.supUp then
    let sec := s.clk.frame + 600
    let u := measured s detTimeDegraded 0 (timeUnc s s.gn.time.st 600)
    let s1 := if s.gn.time.st = .holdover && decide (1000 < u) then
        beginCond detTimeDegraded 0 u.toNat (updTime (fun t => { t with st := .degraded }) s) else s
    let announce := s1.gn.time.step.isSome && s1.gn.time.stepAt == 0
    let step := if announce then s1.gn.time.step.getD 0 else 0
    let m := timeMessage s1 sec step
    let s2 := updTime (fun t => { t with msg := m, stepAt := if announce then sec + 1000 else t.stepAt }) s1
    notifyAll nTimeMessage (fun f _ => f == 0) ⟨0, m⟩ (floodTime m s2)
    else s)

end Sys2Proof.Machine
end

