-- ==== Sys2Proof/Machine/Cream.lean ====
section
/-!
DEFINITION. Machine/Cream.lean: Cream cells, Skim flows, and the fabric's commands (R248, R256, R261 to R264, R268, R269, R271, R274,
Table 9-7).
-/

namespace Sys2Proof.Machine

/-- MSET (Table 9-3): the MACHINE_SET folded to 16 bits. -/
def msetFold (m : Nat) : Nat := (m ^^^ (m / 65536)) % 65536

/-- The entries of the own share for a cell and direction, in ascending slot (Table 9-4). -/
def shareEntries (s : State) (dir cell peer : Nat) : List Bytes :=
  sortBy (fun e => rdN e 1 1) (s.pf.work.cream.filter (fun e => rdN e 2 1 == dir && rdN e 0 1 == cell && (dir == 1 || rdN e 3 1 == peer)))

/-- The value and SAFE bit of the schedule entry at an index of the share, as last committed (R262). -/
def creamValue (s : State) (e : Bytes) : Int × Bool :=
  match s.pf.work.cream.findIdx? (fun x => x == e) with
  | some i => nth s.fb.txVals i (0, false)
  | none => (0, false)

/-- The payload of a cell (Table 9-3). -/
def creamPayload (s : State) (cell : Nat) (secondary : Bool) : Bytes :=
  let es := shareEntries s 1 cell 0
  let vals := es.map (creamValue s)
  u8 1 ++ u8 (cell % 64 + 64 * b2n secondary) ++ u8 0 ++ u8 es.length ++ u16 s.clk.frame ++ u16 (msetFold s.pf.work.machineSet) ++
    u16 (maskOf 9 (fun v => (nth vals v (0, false)).2)) ++ padTo 36 (vals.flatMap (fun v => leI 4 v.1))

/-- The path of a cell in the generation in force. -/
def pathOf (s : State) (src cell : Nat) : Option CellPath := s.fb.force.paths.find? (fun p => p.src == src && p.cell == cell)

/-- A copy leaves on the first port of a path; it is not sent where that link is down (R263, R267). -/
def sendCopy (secondary : Bool) (hops : List (Nat × Nat)) (src dst : Nat) (p : Bytes) (s : State) : State :=
  match hops.find? (fun h => h.1 == myNode s) with
  | some h => fbSend h.2 (.cream src dst secondary p) s
  | none => s

/-- Whether the module sends its cells (R262, R254): numbered, its ports up, neither UNALIGNED nor FOREIGN. -/
def creamOn (s : State) : Bool := !inRecovery s && myNode s != 0 && s.fb.align != .unaligned && s.fb.align != .foreign

/-- CREAM_SEND (R262, R263): at a cell's send instant both copies start, the secondary only with verdict OK. -/
def execCreamSend (cell : Fin 64) (s : State) : Host.Outcome State Fault Refusal :=
  .next (if creamOn s && !(shareEntries s 1 cell.val 0).isEmpty then
    match pathOf s (myNode s) cell.val with
    | some p =>
      sendCopy true p.secondary (myNode s) p.dst (creamPayload s cell.val true)
        (sendCopy false p.primary (myNode s) p.dst (creamPayload s cell.val false) s)
    | none => s
    else s)

/-- The frame in which a cell for the next record was sent (R264): that before the next record to close. -/
def creamFrame (s : State) : Nat := if s.gr.next.frame = s.clk.frame + 1 then s.clk.frame + 1 else s.clk.frame

/-- A copy for this module (R264): the first that meets every condition goes to the next record; any other is discarded and counted. -/
def creamAccept (src cell : Nat) (p : Bytes) (s : State) : State :=
  let drop := updFb (fun b => { b with discarded := wrapU 32 (b.discarded + 1) }) s
  let es := shareEntries s 2 cell src
  let vcount := (es.map (fun x => rdN x 1 1)).foldl max 0 + 1
  if es.isEmpty || rdN p 3 1 ≠ vcount then drop
  else if rdN p 6 2 ≠ msetFold s.pf.work.machineSet || forced s detMachineSetMismatch 0 then
    happen detMachineSetMismatch 0 0 (updFb (fun b => { b with mismatches := wrapU 32 (b.mismatches + 1) }) drop)
  else if rdN p 4 2 ≠ creamFrame s % 65536 || s.fb.rx.any (fun r => r.src == src && r.cell == cell) then drop
  else updFb (fun b => { b with rx := b.rx ++ [⟨src, cell, rdN p 8 2, (List.range vcount).map (fun v => rdI p (10 + 4 * v) 4)⟩] }) s

/-- CREAM_CELL_RECEIVE (R248, R249, R256, R264): a cell for another node goes on along its path with one hop more, at most 31. -/
def execCreamCellReceive (port : Fin 4) (good : Bool) (src dst : Nat) (secondary : Bool) (p : Bytes) (s : State) :
    Host.Outcome State Fault Refusal :=
  let cell := rdN p 1 1 % 64
  .next (if !portOn s port.val || !(fbPort s port.val).link then s
    else if !good then
      updPort port.val (fun x => { x with fcs := satU 16 (x.fcs + 1) }) (updFb (fun b => { b with framesBad := wrapU 32 (b.framesBad + 1) }) s)
    else if p.length ≠ 46 || rdN p 0 1 ≠ 1 then updFb (fun b => { b with framesBad := wrapU 32 (b.framesBad + 1) }) s
    else if dst = myNode s && dst ≠ 0 then creamAccept src cell p s
    else if 31 ≤ rdN p 2 1 % 32 then s
    else match pathOf s src cell with
      | some c => sendCopy secondary (if secondary then c.secondary else c.primary) src dst (splice p 2 (u8 (rdN p 2 1 % 32 + 1))) s
      | none => s)

/-! ### Skim (R248, R256, R268, R269) -/

/-- What becomes of a received Skim frame. -/
inductive SkimFate where
  | dropped | forwarded | delivered
  deriving DecidableEq, Repr

/-- A Skim frame for this module meets its flow (R269): the expected SEQ or a higher one is delivered, the latter with a gap; a lower
one is a duplicate. A flow begins with the first frame received. -/
def skimFlow (f : SkimFrame) (s : State) : State × SkimFate :=
  let same := fun (x : SkimFlow) => x.src == f.src && x.cls == f.cls && x.flow == f.flow
  let next := wrapU 32 (f.seq + 1)
  match s.fb.flows.find? same with
  | none => (updFb (fun b => { b with flows := b.flows ++ [⟨f.src, f.cls, f.flow, next⟩] }) s, .delivered)
  | some x =>
    let s1 := updFb (fun b => { b with flows := b.flows.map (fun y => if same y then { y with expect := next } else y) }) s
    if f.seq = x.expect then (s1, .delivered)
    else if x.expect < f.seq then (updFb (fun b => { b with gaps := wrapU 32 (b.gaps + 1) }) s1, .delivered)
    else (s, .dropped)

/-- A Skim frame is discarded and counted, forwarded along the primary path of its source and destination, or delivered. -/
def skimRoute (port : Nat) (good : Bool) (f : SkimFrame) (s : State) : State × SkimFate :=
  if !portOn s port || !(fbPort s port).link then (s, .dropped)
  else if !good then
    (updPort port (fun x => { x with fcs := satU 16 (x.fcs + 1) }) (updFb (fun b => { b with framesBad := wrapU 32 (b.framesBad + 1) }) s),
      .dropped)
  else if f.cls = 0 || 3 < f.cls || 1484 < f.data.length then (s, .dropped)
  else if f.dst = 0 || f.dst = myNode s then skimFlow f s
  else if 31 ≤ f.hops then (s, .dropped)
  else match (primaryPath (database s) f.src f.dst).bind (fun p => p.find? (fun h => h.1 == myNode s)) with
    | some h => (fbSend h.2 (.skim { f with hops := f.hops + 1 }) s, .forwarded)
    | none => (s, .dropped)

/-- A Skim frame of the module's own to a node, with the next SEQ of its flow; false where there is no path. -/
def skimSend (dst cls flow : Nat) (data : Bytes) (s : State) : State × Bool :=
  match routePort s dst with
  | none => (s, false)
  | some p =>
    let mine := fun (x : Nat × Nat × Nat × Nat) => x.1 == dst && x.2.1 == cls && x.2.2.1 == flow
    let n := ((s.fb.txSeq.find? mine).map (fun x => x.2.2.2)).getD 0
    let s1 := updFb (fun b => { b with txSeq := b.txSeq.filter (fun x => !mine x) ++ [(dst, cls, flow, wrapU 32 (n + 1))] }) s
    (fbSend p (.skim ⟨cls, myNode s, dst, flow, 0, n, data⟩) s1, true)

/-! ### Commands (Table 9-7) -/

/-- The state code of a port (Table 9-7). -/
def portCode (s : State) (p : Nat) : Nat :=
  if !bit (paramN s pFbPortEnable) p then 0 else if (fbPort s p).up then 3 else if (fbPort s p).link then 2 else 1

/-- The code of an alignment state (Table 9-7). -/
def alignCode (a : AlignSt) : Nat :=
  match a with
  | .unaligned => 1 | .aligning => 2 | .aligned => 3 | .syncHold => 4 | .foreign => 5 | .reference => 6

/-- The cost of a port's link: the larger of the two its ends advertise (R255). -/
def costUsed (s : State) (p : Nat) : Nat :=
  let mine := paramN s (pFbLinkCost p)
  match (lsaOfUid (database s) (fbPort s p).uid).bind (fun l => l.links.find? (fun k => k.uid == uid)) with
  | some k => max mine k.cost
  | none => mine

/-- A port entry of FB_STATUS. -/
def portEntry (s : State) (p : Nat) : Bytes :=
  let x := fbPort s p
  u8 (portCode s p) ++ u8 x.node ++ u8 x.sqi ++ u8 (costUsed s p) ++ leN 6 x.uid ++
    u16 (min 65535 (linkDelay s p / 1000).toNat) ++ u16 x.fcs ++ u16 x.downs

/-- The cells of the generation in force with a verdict. -/
def cellsWith (s : State) (v : Nat) : Nat := (s.fb.force.cells.filter (fun c => c.verdict == v)).length

/-- The node number of a UID in the database. -/
def nodeOfUid (s : State) (u : Nat) : Nat := ((lsaOfUid (database s) u).map Lsa.node).getD 0

/-- FB_STATUS (Table 9-7). -/
def bodyFbStatus : Body := emptyPayload fun _ s =>
  ans s stOk (u8 (myNode s) ++
    u8 (b2n (leads s) + 2 * b2n (s.fb.ref == uid) + 4 * b2n s.fb.lost + 8 * b2n (paramN s pFbAutoNumber == 1)) ++
    u8 (nodeOfUid s (coordinator s)) ++ u8 (nodeOfUid s s.fb.ref) ++ leN 6 uid ++ zeros 2 ++ u8 (alignCode s.fb.align) ++ zeros 3 ++
    leI 4 (satI 32 (Int.tdiv s.fb.offset 1000)) ++ u32 s.fb.force.gen ++ u64 s.fb.force.frame ++
    u16 (cellsWith s 1) ++ u16 (cellsWith s 2) ++ u16 (cellsWith s 3) ++
    u8 (((s.fb.force.cells.find? (fun c => c.verdict == 3)).map CellVerdict.reason).getD 0) ++ zeros 1 ++
    u32 s.fb.missed ++ u32 s.fb.discarded ++ u32 s.fb.mismatches ++ u32 s.fb.gaps ++ u32 s.fb.framesBad ++
    ((List.range 4).map (portEntry s)).flatten)

/-- An entry of FB_TOPOLOGY. -/
def topoEntry (s : State) (l : Lsa) : Bytes :=
  u8 l.node ++ u8 l.time ++ leN 6 l.uid ++ u32 l.mset ++ u8 l.flags ++ u8 l.prio ++
    ((List.range 4).map (fun p => match l.links.find? (fun k => k.port == p) with
      | some k => u8 (nodeOfUid s k.uid) ++ u8 k.cost
      | none => zeros 2)).flatten ++ zeros 2

/-- FB_TOPOLOGY (Table 9-7). -/
def bodyFbTopology : Body := fun c s =>
  let k := rdN c.payload 1 1
  if c.payload.length ≠ 4 || k = 0 || 40 < k || !resZero c.payload 2 2 then ans s stBadArg
  else
    let es := ((database s).drop (rdN c.payload 0 1)).take k
    ans s stOk (u8 es.length ++ u8 (database s).length ++ zeros 2 ++ (es.map (topoEntry s)).flatten)

/-- FB_NODE_ASSIGN (R274): ASSIGN goes out with the frame of acceptance as the stamp, and the target stores the number. -/
def bodyFbNodeAssign : Body := fun c s =>
  let u := rdN c.payload 0 6
  let n := rdN c.payload 6 1
  if c.payload.length ≠ 8 || 32 < n || !resZero c.payload 7 1 then ans s stBadArg
  else match lsaOfUid (database s) u with
    | none => ans s stNoResource
    | some l =>
      if (n ≠ 0 && (database s).any (fun x => x.uid != u && x.node == n)) || bit l.flags 0 || moving s then ans s stRefusedState
      else ans (passAssign none u n c.arrival s) stOk (u64 c.arrival)

/-- Whether a cell with verdict SINGLE uses a port, in either direction (R271). -/
def singleUses (s : State) (p : Nat) : Bool :=
  let x := fbPort s p
  s.fb.force.paths.any (fun q =>
    s.fb.force.cells.any (fun c => c.src == q.src && c.cell == q.cell && c.verdict == 2) &&
      q.primary.any (fun h => (h.1 == myNode s && h.2 == p) || (x.up && h.1 == x.node && h.2 == x.nport)))

/-- FB_CABLE_TEST (R271): result and distance are the cable's, and free; a link that is up goes down for the test. -/
def bodyFbCableTest : Body := fun c s =>
  let p := rdN c.payload 0 1
  let force := rdN c.payload 1 1 == 1
  if c.payload.length ≠ 4 || 3 < p || 1 < rdN c.payload 1 1 || !resZero c.payload 2 2 then ans s stBadArg
  else if ((fbPort s p).link && !force) || (moving s && !inService s) || singleUses s p then ans s stRefusedState
  else
    let a := freshNat s
    let b := freshNat a.2
    let r := a.1 % 4
    let body := u8 r ++ u8 (fbPort s p).sqi ++ u16 (if r = 0 then 65535 else b.1 % 65535)
    ans (if (fbPort s p).link then linkDown p b.2 else b.2) stOk body

end Sys2Proof.Machine
end

