-- ==== Sys2Proof/Machine/Gnss.lean ====
section
/-!
DEFINITION. Machine/Gnss.lean: antennas, tracking, search, interference, corrections, the navigation solution, the inertial sensor
and paths (R220 to R233, R241), with the GN commands and PATH_LOAD.
-/

namespace Sys2Proof.Machine

/-- The state with the receiver changed. -/
def updGn (f : Gnss → Gnss) (s : State) : State := { s with gn := f s.gn }

/-! ### Antennas (R221) -/

/-- The bias setting of an antenna in mV. -/
def biasMv (s : State) (ant : Nat) : Nat :=
  match paramN s (if ant = 0 then pGnAntBiasA else pGnAntBiasB) with | 1 => 3300 | 2 => 5000 | _ => 0

/-- An antenna of the state. -/
def antOf (s : State) (ant : Nat) : Antenna := nth s.gn.ants ant ⟨.off, 0, 0, 0, 0⟩

/-- The state with one antenna changed. -/
def updAnt (ant : Nat) (f : Antenna → Antenna) (s : State) : State := updGn (fun g => { g with ants := updAt g.ants ant f }) s

/-- Signals tracked on an antenna are dropped. -/
def dropTracking (ant : Nat) (s : State) : State := updGn (fun g => { g with chans := g.chans.filter (fun c => c.ant != ant) }) s

/-- An antenna's conditions have ended. -/
def antClear (ant : Nat) (s : State) : State :=
  detect detAntennaOvervoltage (ant + 1) false 0 (detect detAntennaShort (ant + 1) false 0 (detect detAntennaOpen (ant + 1) false 0 s))

/-- An antenna enters SHORT: its bias goes off (Table 8-1). -/
def antShort (ant data : Nat) (s : State) : State :=
  beginCond detAntennaShort (ant + 1) data
    (dropTracking ant (updAnt ant (fun a => { a with st := .short, since := s.clk.ms, trial := 0, count := 0 }) s))

/-- One 10 ms sample of an antenna (Table 8-1). -/
def antSample (ant ma mv : Nat) (s : State) : State :=
  let set := biasMv s ant
  let s1 := updAnt ant (fun a => { a with ma }) s
  let vs := measured s detAntennaShort (ant + 1) ma
  let vo := measured s detAntennaOpen (ant + 1) ma
  let bad := decide (120 < vs) || decide (10 * mv < 7 * set)
  let a := antOf s ant
  if set = 0 then antClear ant (updAnt ant (fun a => { a with st := .off, count := 0, trial := 0 }) s1)
  else match a.st with
    | .off => updAnt ant (fun a => { a with st := .ok, count := 0 }) s1
    | .ok =>
      if bad then antShort ant vs.toNat s1
      else if vo < 5 then
        (if 99 ≤ a.count then
          beginCond detAntennaOpen (ant + 1) vo.toNat
            (dropTracking ant (updAnt ant (fun a => { a with st := .opened, count := 0 }) s1))
        else updAnt ant (fun a => { a with count := a.count + 1 }) s1)
      else updAnt ant (fun a => { a with count := 0 }) s1
    | .opened =>
      if bad then antShort ant vs.toNat s1
      else if 5 ≤ vo then
        (if 99 ≤ a.count then antClear ant (updAnt ant (fun a => { a with st := .ok, count := 0 }) s1)
         else updAnt ant (fun a => { a with count := a.count + 1 }) s1)
      else updAnt ant (fun a => { a with count := 0 }) s1
    | .short =>
      if a.trial = 0 then s1
      else if bad then antShort ant vs.toNat s1
      else if a.trial = 1 then antClear ant (updAnt ant (fun a => { a with st := .ok, trial := 0, count := 0 }) s1)
      else updAnt ant (fun a => { a with trial := a.trial - 1 }) s1
    | .overvolt => s1

/-- ANTENNA_BIAS_SAMPLE (R221). -/
def execAntennaBiasSample (ant : Fin 2) (ma mv : Nat) (s : State) : Host.Outcome State Fault Refusal := .next (antSample ant ma mv s)

/-- A 50 ms bias trial of an antenna in SHORT starts. -/
def antTrial (ant : Nat) (s : State) : State := updAnt ant (fun a => if a.st = .short then { a with trial := 5 } else a) s

/-- ANTENNA_SHORT_RETRY (R221): 10 s in SHORT have passed. -/
def execAntennaShortRetry (ant : Fin 2) (s : State) : Host.Outcome State Fault Refusal :=
  .next (if (antOf s ant).st = .short && elapsed s (antOf s ant).since 10000 then antTrial ant s else s)

/-- ANTENNA_OVERVOLTAGE (R221): above the bias setting by 1 V the bias switch opens; back within the setting for 1 s it closes. -/
def execAntennaOvervoltage (ant : Fin 2) (mv ms : Nat) (s : State) : Host.Outcome State Fault Refusal :=
  let set := biasMv s ant
  .next (if set + 1000 ≤ mv || forced s detAntennaOvervoltage (ant + 1) then
      beginCond detAntennaOvervoltage (ant + 1) 0
        (dropTracking ant (updAnt ant (fun a => { a with st := .overvolt, count := 0, trial := 0 }) s))
    else if (antOf s ant).st = .overvolt && decide (mv ≤ set) && decide (1000 ≤ ms) then
      antClear ant (updAnt ant (fun a => { a with st := if set = 0 then .off else .ok }) s)
    else s)

/-! ### Tracking and search (R222 to R225) -/

/-- TRACKING_LOOP_UPDATE (R223): the loops of a channel steer its oscillators; what they command is free (log entry 3). -/
def execTrackingLoopUpdate (ch : Fin 128) (synced : Bool) (s : State) : Host.Outcome State Fault Refusal :=
  .next (if (ch : Nat) < s.gn.chans.length then
    let a := freshNat s
    let b := freshNat a.2
    updGn (fun g => { g with chans := updAt g.chans ch (fun c => { c with synced, code := a.1, carrier := b.1 }) }) b.2
    else s)

/-- Whether a signal number lies on the L5 band (rows of Table 8-2 as numbered in a candidate). -/
def onL5 (sig : Nat) : Bool := decide (16 ≤ sig)

/-- The signals of the candidates that GN.SYSTEMS, GN.BANDS and GN.ELEV_MASK admit, in the precedence of R224: signals of the RTK
solution, then satellites with both bands, then higher elevation. -/
def wantedSignals (s : State) (cands : List SatCand) : List (Nat × Nat × Nat) :=
  let ok := cands.filter (fun c => bit (paramN s pGnSystems) c.sys && decide (paramN s pGnElevMask ≤ c.elev))
  let rank := fun (c : SatCand) => (if c.rtk then 0 else if c.sigs.any onL5 && c.sigs.any (fun g => !onL5 g) then 100 else 200) + (90 - c.elev)
  (sortBy rank ok).flatMap (fun c =>
    (c.sigs.filter (fun g => bit (paramN s pGnBands) (if onL5 g then 1 else 0))).map (fun g => (c.sys, c.sat, g)))

/-- The channels of one antenna after an allocation: the wanted signals first, then those in use while a channel is free (R224). -/
def allocAnt (ant n : Nat) (wanted : List (Nat × Nat × Nat)) (old : List TrackChan) : List TrackChan :=
  let keep := fun (w : Nat × Nat × Nat) =>
    (old.find? (fun c => c.ant == ant && c.sys == w.1 && c.sat == w.2.1 && c.sig == w.2.2)).getD ⟨ant, w.1, w.2.1, w.2.2, false, 0, 0⟩
  let first := (wanted.map keep).take n
  first ++ (old.filter (fun c => c.ant == ant && !first.contains c)).take (n - first.length)

/-- CHANNEL_ALLOCATION (R224): GN.CH_ANT_A channels for ANT_A, the rest for ANT_B, which mirrors ANT_A's satellites. -/
def execChannelAllocation (cands : List SatCand) (s : State) : Host.Outcome State Fault Refusal :=
  let n := min 128 (paramN s pGnChAntA)
  let w := wantedSignals s cands
  let a := if (antOf s 0).st = .ok then allocAnt 0 n w s.gn.chans else []
  let has := fun (x : Nat × Nat × Nat) => a.any (fun c => c.sys == x.1 && c.sat == x.2.1)
  let wb := w.filter has ++ w.filter (fun x => !has x)
  let b := if (antOf s 1).st = .ok then allocAnt 1 (128 - n) wb s.gn.chans else []
  .next (updGn (fun g => { g with chans := a ++ b, cands := cands }) s)

/-- SEARCH_DWELL_DONE (R225): a detection is confirmed by a second dwell on its cell before a channel is assigned; otherwise the
search steps on. -/
def execSearchDwellDone (eng : Fin 4) (ant : Fin 2) (sys sat : Nat) (found : Bool) (s : State) : Host.Outcome State Fault Refusal :=
  let t := (ant.val, sys, sat)
  let e0 := nth s.gn.engines eng ⟨none, 0, false⟩
  let e := if e0.target = some t then e0 else ⟨some t, 0, false⟩
  let put := fun (e : SearchEng) (s : State) => updGn (fun g => { g with engines := updAt g.engines eng (fun _ => e) }) s
  .next (if found then
      if e.confirming then
        let room := decide ((s.gn.chans.filter (fun c => c.ant == ant.val)).length <
          (if ant.val = 0 then min 128 (paramN s pGnChAntA) else 128 - min 128 (paramN s pGnChAntA)))
        let s1 := put ⟨none, 0, false⟩ s
        if room && (antOf s ant).st == .ok then
          updGn (fun g => { g with chans := g.chans ++ [⟨ant, sys, sat, 0, false, 0, 0⟩] }) s1
        else s1
      else put { e with confirming := true } s
    else put { e with confirming := false, cell := e.cell + 1 } s)

/-! ### Interference (R226, R227) -/

/-- R227: jam_index. -/
def jamIndex (dg : Int) (notches : Nat) : Nat := (min 255 (8 * max 0 dg + 24 * notches)).toNat

/-- The notches of a path after 100 ms: lines above the threshold keep or get one while one is free; one whose line has stayed below
for 2 s is released (R226). -/
def notchStep (lines : List (Int × Nat)) (thresh : Nat) (ns : List (Int × Nat)) : List (Int × Nat) × Bool :=
  let above := (lines.filter (fun l => decide (thresh < l.2))).map (·.1)
  let kept := (ns.map (fun n => if above.contains n.1 then (n.1, 0) else (n.1, n.2 + 1))).filter (fun n => decide (n.2 < 20))
  let new := above.filter (fun l => !(kept.any (fun n => n.1 == l)))
  (kept ++ (new.take (4 - kept.length)).map (fun l => (l, 0)), decide (4 < kept.length + new.length))

/-- NOTCH_MONITOR (R226, R227): every 100 ms, on one of the four paths. Both detectors stand for all paths and report INSTANCE 0, as R318
gives a path no number. -/
def execNotchMonitor (path : Fin 4) (lines : List (Int × Nat)) (agc : Int) (s : State) : Host.Outcome State Fault Refusal :=
  let p := nth s.gn.paths path ⟨[], false, 0, 0, 0, false⟩
  let r := notchStep lines (paramN s pGnNotchThresh) p.notches
  let j := jamIndex agc r.1.length
  let v := measured s detJamming 0 j
  let high := if (paramN s pGnJamThresh : Int) ≤ v then p.high + 1 else 0
  let low := if (paramN s pGnJamThresh : Int) ≤ v then 0 else p.low + 1
  let jam := if 50 ≤ high then true else if 50 ≤ low then false else p.jammed
  let lineCount := (lines.filter (fun l => decide (paramN s pGnNotchThresh < l.2))).length
  let nv := measured s detNotchCapacity 0 lineCount
  let full := r.2 || decide (nv ≠ lineCount ∧ 4 < nv)
  let s1 := updGn (fun g => { g with paths := updAt g.paths path (fun _ => ⟨r.1, full, j, high, low, jam⟩) }) s
  .next (detect detJamming 0 (s1.gn.paths.any (·.jammed)) v.toNat
    (detect detNotchCapacity 0 (s1.gn.paths.any (·.full)) nv.toNat s1))

/-! ### Corrections (R230) -/

/-- One bit of CRC-24Q. -/
def crc24Bit (c : Nat) : Nat := if 0x800000 ≤ c then (2 * c) % 0x1000000 ^^^ 0x864CFB else 2 * c

/-- One byte of CRC-24Q. -/
def crc24Byte (c : Nat) (b : Byte) : Nat :=
  crc24Bit (crc24Bit (crc24Bit (crc24Bit (crc24Bit (crc24Bit (crc24Bit (crc24Bit (c ^^^ (b.toNat * 65536)))))))))

/-- CRC-24Q of RTCM SC-104 (DEDUCED, log entry 25). -/
def crc24 (m : Bytes) : Nat := m.foldl crc24Byte 0

/-- A big-endian number. -/
def rtcmBe (b : Bytes) : Nat := b.foldl (fun a x => 256 * a + x.toNat) 0

/-- The messages accepted (R230). -/
def rtcmAccepted (type : Nat) : Bool := [1005, 1006, 1074, 1077, 1094, 1097, 1114, 1117, 1124, 1127].contains type

/-- A whole RTCM message with a good CRC: counted, and its effect on the base and the age of corrections. -/
def rtcmMessage (now : Nat) (body : Bytes) (r : Rtcm) : Rtcm :=
  let type := rtcmBe (body.take 2) / 16
  let station := rtcmBe (slice body 1 2) % 4096
  if rtcmAccepted type then
    let r1 := { r with accepted := wrapU 32 (r.accepted + 1), lastType := type }
    if type = 1005 || type = 1006 then
      if r.station = some station then r1 else { r1 with station := some station }
    else { r1 with lastMsm := some now }
  else { r with dropped := wrapU 32 (r.dropped + 1) }

/-- The parser over a buffer, by fuel (R230): it frames on 0xD3 and the 10-bit length, and checks the CRC. -/
def rtcmParse (now : Nat) : Nat → Rtcm → Rtcm
  | 0, r => r
  | fuel + 1, r =>
    match r.buf with
    | [] => r
    | b :: rest =>
      if b ≠ 0xD3 then rtcmParse now fuel { r with buf := rest }
      else if r.buf.length < 3 then r
      else
        let len := rtcmBe (slice r.buf 1 2) % 1024
        if r.buf.length < len + 6 then r
        else if crc24 (r.buf.take (len + 3)) = rtcmBe (slice r.buf (len + 3) 3) then
          rtcmParse now fuel (rtcmMessage now (slice r.buf 3 len) { r with buf := r.buf.drop (len + 6) })
        else rtcmParse now fuel { r with buf := rest, crcErrors := wrapU 32 (r.crcErrors + 1) }

/-- RTCM_PUT (R230): bytes for the one stream; NEW_STREAM or another session starts a new one. -/
def bodyRtcmPut : Body := fun c s =>
  let p := c.payload
  if p.length < 4 || 2 ≤ rdN p 0 1 || !resZero p 1 3 then ans s stBadArg
  else
    let r0 := s.gn.rtcm
    let r1 := if bit (rdN p 0 1) 0 || r0.owner ≠ c.session then { r0 with owner := c.session, buf := [] } else r0
    let buf := r1.buf ++ p.drop 4
    let r2 := rtcmParse s.clk.ms (buf.length + 1) { r1 with buf := buf }
    let fresh := decide (r2.lastMsm ≠ r0.lastMsm) && !forced s detCorrectionsStale 0
    let s1 := updGn (fun g => { g with rtcm := { r2 with stale := r2.stale && !fresh } }) s
    ans (if fresh then detect detCorrectionsStale 0 false 0 s1 else s1) stOk
      (u32 r2.accepted ++ u32 r2.dropped ++ u32 r2.crcErrors ++ u16 r2.lastType ++ zeros 2)

/-- CORRECTIONS_STALE (R230): no MSM observation for GN.RTK_AGE_MAX. -/
def execCorrectionsStale (s : State) : Host.Outcome State Fault Refusal :=
  .next (if (match s.gn.rtcm.lastMsm with | some t => elapsed s t (paramN s pGnRtkAgeMax) | none => false) || forced s detCorrectionsStale 0
    then beginCond detCorrectionsStale 0 0 (updGn (fun g => { g with rtcm := { g.rtcm with stale := true } }) s) else s)

/-! ### Paths (R241) -/

/-- North and east of a point in the plane at a path's first point. -/
def planeOf (p : PathDef) (q : Int × Int) : Int × Int :=
  let o := nth p.points 0 (0, 0)
  (Config.planeNorth o.1 o.2 q.1 q.2, Config.planeEast o.1 o.2 q.1 q.2)

/-- Point `k` of a path in its plane. -/
def pathPoint (p : PathDef) (k : Nat) : Int × Int := planeOf p (nth p.points k (0, 0))

/-- The scalar product of two vectors. -/
def dot (a b : Int × Int) : Int := a.1 * b.1 + a.2 * b.2

/-- A vector difference. -/
def vsub (a b : Int × Int) : Int × Int := (a.1 - b.1, a.2 - b.2)

/-- Whether a point has passed the perpendicular at the end of segment `k`. -/
def passed (p : PathDef) (k : Nat) (q : Int × Int) : Bool :=
  let a := pathPoint p k
  let d := vsub (pathPoint p (k + 1)) a
  decide (dot d d ≤ dot (vsub q a) d)

/-- The current segment, at most 16 segments forward from the present one and never backward (R241). -/
def segmentFrom (p : PathDef) (q : Int × Int) : Nat → Nat → Nat
  | 0, k => k
  | n + 1, k => if k + 2 < p.points.length && passed p k q then segmentFrom p q n (k + 1) else k

/-- XTE in mm, positive right of the shifted path (R241). -/
def crossTrack (p : PathDef) (k : Nat) (q : Int × Int) : Int :=
  let a := pathPoint p k
  let d := vsub (pathPoint p (k + 1)) a
  let len := isqrt (dot d d).toNat
  let v := vsub q a
  (if len = 0 then 0 else Int.tdiv (v.2 * d.1 - v.1 * d.2) len) - p.offset

/-- An angle in 0.01° brought to −18,000–17,999. -/
def wrapAngle (x : Int) : Int := (x + 18000) % 36000 - 18000

/-- The geometry of a solution against the current path: XTE, HDG_ERR, CURV, segment, and whether the path has ended (R241). -/
def pathGeometry (p : PathDef) (seg : Nat) (lat lon heading : Int) : Int × Int × Int × Nat × Bool :=
  let q := planeOf p (lat, lon)
  let k := if p.poly then segmentFrom p q 16 seg else 0
  let d := vsub (pathPoint p (k + 1)) (pathPoint p k)
  let last := p.points.length ≤ k + 2
  let curv := if p.poly && !last then Config.curvature (pathPoint p k) (pathPoint p (k + 1)) (pathPoint p (k + 2)) else 0
  (crossTrack p k q, wrapAngle (heading - Config.azimuth d.1 d.2), curv, k, p.poly && last && passed p k q)

/-- The next path becomes the current one (R241). -/
def promotePath (s : State) : State :=
  match s.gn.next with
  | some p => updGn (fun g => { g with current := some p, next := none, segment := 0, ended := false }) s
  | none => s

/-- The next path becomes current at once while steering is not ENGAGED (R241). -/
def promoteIdle (s : State) : State := if s.gn.steer.st = .engaged then s else promotePath s

/-! ### The navigation solution (R228 to R233) -/

/-- The heading source of a fix, its heading and whether HEADING_VALID is set (R231). -/
def headingOf (s : State) (f : NavFix) : Nat × Nat × Bool :=
  let base := f.baseFixed && decide (((f.baseLen : Int) - paramN s pGnBaseline).natAbs ≤ paramN s pGnBaselineTol)
  if base then (1, (((f.baseAz : Int) + param s pGnHdgOffset) % 36000).toNat, true)
  else if 1000 ≤ f.speed then (2, f.velHdg % 36000, true)
  else
    let t0 := s.gn.insSince.getD s.clk.ms
    if elapsed s t0 (1000 * paramN s pGnDrMax) then (0, s.gn.part.heading, false)
    else (3, f.insHdg % 36000, !elapsed s t0 10000)

/-- The type of a fix as released: RTK falls back while corrections are stale (R230), dead reckoning ends after GN.DR_MAX (R232). -/
def releasedType (s : State) (f : NavFix) : Nat :=
  if f.type = 3 || f.type = 4 then
    if s.gn.rtcm.stale then (if 0 < nth f.perSys 4 0 then 2 else 1) else f.type
  else if f.type = 5 then
    (match s.gn.drSince with
      | some t => if elapsed s t (1000 * paramN s pGnDrMax) then 0 else 5
      | none => 5)
  else f.type

/-- Whether any path is jammed. -/
def jammed (s : State) : Bool := s.gn.paths.any BandPath.jammed

/-- The QUAL word (Table 8-4). -/
def qualOf (s : State) (src : Nat) (valid : Bool) : Nat :=
  b2n valid + 2 * src + 8 * b2n s.gn.imuOk + 16 * b2n s.gn.rtcm.stale + 32 * b2n (jammed s) + 64 * b2n s.gn.current.isSome +
    128 * b2n s.gn.ended + 256 * b2n s.gn.next.isSome

/-- An inter-system offset after an epoch: a new estimate with its time, and a jump of more than 50 ns recorded (R229). -/
def offsetStep (new : Option Int) (old : Option (Int × Nat)) (s : State) : Option (Int × Nat) × State :=
  match new with
  | none => (old, s)
  | some v =>
    let d : Nat := match old with | some o => (v - o.1).natAbs | none => 0
    let m := measured s detInterSystemOffsetJump 0 d
    (some (v, s.clk.ms), if 500 < m then happen detInterSystemOffsetJump 0 m.toNat s else s)

/-- The cable delay of the primary antenna in ps (R237). -/
def cableDelay (s : State) : Int :=
  1000 * (if (antOf s 0).st = .ok then param s pGnAntDelayA else param s pGnAntDelayB)

/-- The time solution of an epoch, if accepted (R237). -/
def timeSolution (f : NavFix) (s : State) : State :=
  let s1 := updTime (fun t => { t with leap := f.leap }) s
  if 4 ≤ f.timeSats ∧ f.timeUnc ≤ paramN s pGnTimeAccept then acceptTime 1 (f.grid - cableDelay s) f.timeUnc f.freqUnc s1 else s1

/-- NAV_EPOCH (R228, R229, R237): measurements at a frame that is a multiple of 10; the filter's results wait for their release. -/
def execNavEpoch (fix : NavFix) (s : State) : Host.Outcome State Fault Refusal :=
  .next (if s.clk.frame % 10 = 0 && s.rs.supUp then
    let a := offsetStep fix.gal s.gn.gal s
    let b := offsetStep fix.bds a.2.gn.bds a.2
    let bad := fix.baseFixed && decide (paramN s pGnBaselineTol < ((fix.baseLen : Int) - paramN s pGnBaseline).natAbs)
    timeSolution fix (updGn (fun g => { g with
      epoch := some (s.clk.frame, fix), gal := a.1, bds := b.1, tracked := fix.tracked, gyroBias := fix.gyroBias, accBias := fix.accBias
      baseLen := if fix.baseFixed then fix.baseLen else g.baseLen
      badBase := if bad then (if g.badBase.isSome then g.badBase else some s.clk.ms) else if fix.baseFixed then none else g.badBase }) b.2)
    else s)

/-- A fix released as the GNSS part for a record, with path geometry (R228, R233, R241). -/
def releaseFix (e : FrameNo) (f : NavFix) (s : State) : State :=
  let ty := releasedType s f
  let h := headingOf s f
  let pg := match s.gn.current with
    | some p => pathGeometry p s.gn.segment f.lat f.lon h.2.1
    | none => (0, 0, 0, 0, false)
  let s1 := updGn (fun g => { g with
    epoch := none, perSys := f.perSys, segment := pg.2.2.2.1, ended := pg.2.2.2.2, hdgSrc := h.1
    insSince := if h.1 = 1 || h.1 = 2 then none else if g.insSince.isSome then g.insSince else some s.clk.ms
    drSince := if ty = 5 then (if g.drSince.isSome then g.drSince else some s.clk.ms) else if 1 ≤ ty then none else g.drSince
    lastType := if 1 ≤ ty && ty ≤ 4 then ty else g.lastType }) s
  let s2 := if pg.2.2.2.2 && (match s1.gn.next with | some p => p.chain | none => false) then promotePath s1 else s1
  let s3 := updGn (fun g => { g with part := { g.part with
    epochFrame := e, solSeq := wrapU 32 (g.part.solSeq + 1), type := ty, nsat := f.nsat
    qual := qualOf s2 h.1 h.2.2, lat := f.lat, lon := f.lon, height := f.height, vn := f.vn, ve := f.ve, vd := f.vd, heading := h.2.1
    roll := f.roll, pitch := f.pitch, speed := f.speed, hAcc := f.hAcc, hdgAcc := f.hdgAcc, xte := pg.1, hdgErr := pg.2.1, curv := pg.2.2.1
    pathId := ((s.gn.current.map PathDef.id).getD 0), segment := pg.2.2.2.1 } }) s2
  if ty ≠ 5 && 1 ≤ ty then detect detDeadReckoningLimit 0 false 0 s3 else s3

/-- NAV_SOLUTION_RELEASE (R228): the solution of epoch E goes into the record of frame E + 8, exactly; a later one is dropped. -/
def execNavSolutionRelease (s : State) : Host.Outcome State Fault Refusal :=
  .next (match s.gn.epoch with
    | some (e, f) =>
      if s.clk.frame + 1 = e + 8 then releaseFix e f s
      else if e + 8 < s.clk.frame + 1 then updGn (fun g => { g with epoch := none }) s
      else s
    | none => s)

/-- DEAD_RECKONING_LIMIT (R232): GN.DR_MAX of dead reckoning; the solution becomes NONE. -/
def execDeadReckoningLimit (s : State) : Host.Outcome State Fault Refusal :=
  .next (if (match s.gn.drSince with
        | some t => s.gn.part.type == 5 && elapsed s t (1000 * paramN s pGnDrMax)
        | none => false) || forced s detDeadReckoningLimit 0 then
      beginCond detDeadReckoningLimit 0 0
        (updGn (fun g => { g with part := { g.part with type := 0, solSeq := wrapU 32 (g.part.solSeq + 1) } }) s)
    else s)

/-- BASELINE_MISMATCH (R231): a fixed length outside the tolerance for 10 s. -/
def execBaselineMismatch (s : State) : Host.Outcome State Fault Refusal :=
  let v := measured s detBaselineMismatch 0 s.gn.baseLen
  .next (match s.gn.badBase with
    | some t => if elapsed s t 10000 then beginCond detBaselineMismatch 0 v.toNat s else s
    | none =>
      if v ≠ s.gn.baseLen && decide (paramN s pGnBaselineTol < (v - paramN s pGnBaseline).natAbs)
      then beginCond detBaselineMismatch 0 v.toNat s else detect detBaselineMismatch 0 false 0 s)

/-! ### The inertial sensor (R232) -/

/-- An axis triple in the vehicle frame (R232): the rotation of a mounting other than 0 is free (log entry 3). -/
def rotate (mounting : Nat) (v : List Int) : List Int := if mounting = 0 then v else Config.imuRotate mounting v

/-- IMU_SAMPLE (R232): rotated, corrected by the filter's biases, numbered; saturated and unchanged axes are counted. -/
def execImuSample (gyro acc : List Int) (yaw : Int) (s : State) : Host.Outcome State Fault Refusal :=
  let m := paramN s pGnImuOrient
  let g := List.zipWith (· - ·) (rotate m gyro) (s.gn.gyroBias ++ [0, 0, 0])
  let a := List.zipWith (· - ·) (rotate m acc) (s.gn.accBias ++ [0, 0, 0])
  let raw := gyro ++ acc
  let lim := fun (k : Nat) => if k < 3 then 25000 else 8000
  .next (updGn (fun x => { x with
    raw := raw
    sat := (List.range 6).map (fun k => if lim k ≤ (nth raw k 0).natAbs then nth x.sat k 0 + 1 else 0)
    same := (List.range 6).map (fun k => if nth raw k 0 = nth x.raw k 0 then nth x.same k 0 + 1 else 0)
    imuPassed := x.imuPassed || x.imuTest, imuTest := false
    part := { x.part with imuSeq := wrapU 32 (x.part.imuSeq + 1), gyro := g, accel := a, yawRate := yaw } }) s)

/-- INERTIAL_FAULT (R232): a failed self-test, an axis saturated for 100 ms or unchanged for 1 s clears IMU_OK; an axis that moves again
sets it. -/
def execInertialFault (failed : Bool) (s : State) : Host.Outcome State Fault Refusal :=
  let inj := measured s detInertialFault 0 0
  let bad := failed || s.gn.sat.any (fun n => decide (100 ≤ n)) || s.gn.same.any (fun n => decide (1000 ≤ n)) || decide (inj ≠ 0)
  .next (detect detInertialFault 0 bad inj.toNat (updGn (fun g => { g with
    imuOk := !bad && g.imuPassed && !failed, imuPassed := g.imuPassed && !failed, imuTest := g.imuTest && !failed }) s))

/-! ### Commands (Table 8-8) -/

/-- The 96 bytes of a GNSS part (Table 8-4). -/
def gnssBytes (g : GnssPart) : Bytes :=
  u64 g.epochFrame ++ u32 g.solSeq ++ u8 g.type ++ u8 g.nsat ++ u16 g.qual ++ leI 4 g.lat ++ leI 4 g.lon ++ leI 4 g.height ++
    leI 4 g.vn ++ leI 4 g.ve ++ leI 4 g.vd ++ u16 g.heading ++ leI 2 g.roll ++ leI 2 g.pitch ++ u16 g.speed ++ u32 g.hAcc ++ u16 g.hdgAcc ++
    zeros 2 ++ leI 4 g.xte ++ leI 2 g.hdgErr ++ leI 2 g.curv ++ u32 g.pathId ++ u32 g.segment ++ u32 g.imuSeq ++
    (List.range 3).flatMap (fun k => leI 2 (nth g.gyro k 0)) ++ (List.range 3).flatMap (fun k => leI 2 (nth g.accel k 0)) ++
    leI 2 g.yawRate ++ zeros 6

/-- The code of an antenna state. -/
def antCode (st : AntSt) : Nat := match st with | .off => 1 | .ok => 2 | .opened => 3 | .short => 4 | .overvolt => 5

/-- The code of a steering state. -/
def steerCode (st : SteerSt) : Nat := match st with | .off => 1 | .engaged => 2 | .creep => 3 | .grace => 4

/-- GN_STATUS. -/
def bodyGnStatus : Body := emptyPayload fun _ s =>
  let g := s.gn
  let age := match g.rtcm.lastMsm with | some t => min 0xFFFFFFFE (s.clk.ms - t) | none => 0xFFFFFFFF
  let per := fun (f : BandPath → Nat) => (List.range 4).flatMap (fun k => u8 (f (nth g.paths k ⟨[], false, 0, 0, 0, false⟩)))
  ans s stOk (u8 (timeCode g.time.st) ++ u8 g.part.type ++ u8 g.part.nsat ++ u8 g.tracked ++
    u16 ((g.chans.filter (fun c => c.ant == 0)).length) ++ u16 ((g.chans.filter (fun c => c.ant == 1)).length) ++ u32 age ++
    u16 (g.rtcm.station.getD 0) ++ u8 (antCode (antOf s 0).st) ++ u8 (antCode (antOf s 1).st) ++ u16 (antOf s 0).ma ++ u16 (antOf s 1).ma ++
    per BandPath.j ++ per (fun p => p.notches.length) ++ leI 4 ((g.gal.map (·.1)).getD 0) ++ leI 4 ((g.bds.map (·.1)).getD 0) ++
    u32 g.rtcm.accepted ++ u32 g.rtcm.crcErrors ++ u16 g.baseLen ++ u8 g.hdgSrc ++ u8 (steerCode g.steer.st) ++
    u32 ((g.current.map PathDef.id).getD 0) ++ u32 ((g.next.map PathDef.id).getD 0) ++ u8 (b2n g.imuOk + 2 * b2n g.imuPassed) ++
    u8 g.steer.cause ++ zeros 2)

/-- GN_SOLUTION_GET. -/
def bodyGnSolutionGet : Body := emptyPayload fun _ s =>
  ans s stOk (gnssBytes s.gn.part ++ (List.range 5).flatMap (fun k => u8 (nth s.gn.perSys k 0)) ++ zeros 3)

/-- The request of GN_CONFIG with an operation: its length, and that byte 1 lies in 1 to `n` (0 where `n` is 0). -/
def gnConfig (op len n : Nat) (act : Nat → Ctx → State → State × Reply) : Body := withOp 0 op fun c s =>
  let k := rdN c.payload 1 1
  if c.payload.length ≠ len || !resZero c.payload 2 2 || n < k || (n ≠ 0 && k = 0) then ans s stBadArg else act k c s

/-- GN_CONFIG RESTART (R245): hot, warm or cold; refused while steering is not OFF. Tracking and search start again; warm and cold
forget the solution, cold also the offsets, corrections and the seed. -/
def bodyGnConfigRestart : Body := gnConfig 1 4 3 fun k _ s =>
  if s.gn.steer.st ≠ .off then ans s stRefusedState
  else
    let s1 := updGn (fun g => { g with
      chans := [], engines := List.replicate 4 ⟨none, 0, false⟩, epoch := none
      part := { g.part with type := 0, solSeq := wrapU 32 (g.part.solSeq + 1) }, drSince := none }) s
    ans (if k = 3 then updGn (fun g => { g with gal := none, bds := none, seed := none, cands := [], lastType := 0 }) s1 else s1) stOk
      (u8 1)

/-- GN_CONFIG SEED (R245): refused unless the solution type is NONE. -/
def bodyGnConfigSeed : Body := gnConfig 2 16 0 fun _ c s =>
  if s.gn.part.type ≠ 0 then ans s stRefusedState
  else ans (updGn (fun g => { g with seed := some (rdI c.payload 4 4, rdI c.payload 8 4, rdI c.payload 12 4) }) s) stOk (u8 0)

/-- GN_CONFIG NOTCH_RESET: every notch is released. -/
def bodyGnConfigNotchReset : Body := gnConfig 3 4 0 fun _ _ s =>
  ans (updGn (fun g => { g with paths := g.paths.map (fun p => { p with notches := [], full := false }) }) s) stOk (u8 0)

/-- GN_CONFIG ANTENNA_RETRY (Table 8-1). -/
def bodyGnConfigAntennaRetry : Body := gnConfig 4 4 2 fun k _ s =>
  if (antOf s (k - 1)).st = .short then ans (antTrial (k - 1) s) stOk (u8 1) else ans s stOk (u8 0)

/-- GN_CONFIG IMU_SELFTEST (R245): refused while steering is not OFF. -/
def bodyGnConfigImuSelftest : Body := gnConfig 5 4 0 fun _ _ s =>
  if s.gn.steer.st ≠ .off then ans s stRefusedState
  else ans (updGn (fun g => { g with imuTest := true, imuPassed := false }) s) stOk (u8 1)

/-- The points of a PATH_LOAD payload. -/
def pathPoints (p : Bytes) (n : Nat) : List (Int × Int) := (List.range n).map (fun k => (rdI p (16 + 8 * k) 4, rdI p (20 + 8 * k) 4))

/-- Whether consecutive points lie at least 1 m apart (R245). -/
def pointsApart : List (Int × Int) → Bool
  | [] => true
  | [_] => true
  | a :: b :: t =>
    let n := Config.planeNorth a.1 a.2 b.1 b.2
    let e := Config.planeEast a.1 a.2 b.1 b.2
    a != b && decide (1000000 ≤ n * n + e * e) && pointsApart (b :: t)

/-- The response of PATH_LOAD: current and next path ID. -/
def pathReply (s : State) : State × Reply :=
  ans s stOk (u32 ((s.gn.current.map PathDef.id).getD 0) ++ u32 ((s.gn.next.map PathDef.id).getD 0))

/-- PATH_LOAD LOAD_NEXT (R241, R245). -/
def bodyPathLoadLoadNext : Body := withOp 0 1 fun c s =>
  let p := c.payload
  let n := rdN p 8 2
  let ty := rdN p 1 1
  let pts := pathPoints p n
  if p.length ≠ 16 + 8 * n || n < 2 || 4096 < n || ty = 0 || 2 < ty || 2 ≤ rdN p 2 1 || !resZero p 3 1 || !resZero p 10 2 ||
      rdN p 12 4 = 0 || (ty = 1 && n ≠ 2) || !pointsApart pts then ans s stBadArg
  else pathReply (promoteIdle (updGn (fun g => { g with
    next := some ⟨rdN p 12 4, ty == 2, bit (rdN p 2 1) 0, rdI p 4 4, pts⟩ }) s))

/-- PATH_LOAD CLEAR_NEXT. -/
def bodyPathLoadClearNext : Body := withOp 0 2 fun c s =>
  if c.payload.length ≠ 16 || !resZero c.payload 1 15 then ans s stBadArg
  else pathReply (updGn (fun g => { g with next := none }) s)

/-- PATH_LOAD SHIFT (R241): the offset is added to the current path from the next solution. -/
def bodyPathLoadShift : Body := withOp 0 3 fun c s =>
  let p := c.payload
  if p.length ≠ 16 || !resZero p 1 3 || !resZero p 8 8 then ans s stBadArg
  else pathReply (updGn (fun g => { g with current := g.current.map (fun q => { q with offset := q.offset + rdI p 4 4 }) }) s)

/-! ### Resets -/

/-- D6 in reset: tracking, search and the inertial sensor's self-test begin anew; the part is held (R233). -/
def gnssStop (s : State) : State :=
  updGn (fun g => { g with
    chans := [], engines := List.replicate 4 ⟨none, 0, false⟩, epoch := none
    paths := List.replicate 4 ⟨[], false, 0, 0, 0, false⟩, imuOk := false, imuPassed := false, imuTest := false
    sat := List.replicate 6 0, same := List.replicate 6 0 }) s

/-- D6 starts: the inertial self-test runs (R232). -/
def gnssStart (s : State) : State := updGn (fun g => { g with imuTest := true, imuOk := true }) s

end Sys2Proof.Machine
end

