-- ==== Sys2Proof/Machine/Valve.lean ====
section
/-!
DEFINITION. Machine/Valve.lean: the valve drive and digital hydraulics (R170 to R195): fire decision, pulse phases, timing
estimates, banks, the boost converter, proportional mode, safe state, diagnosis and the VD commands. Channels and banks are
numbered from 0 inside the model; instants are microseconds of the milliseconds the working clocks have run.
-/

namespace Sys2Proof.Machine

/-! ### Channels and their owners -/

/-- Valve channel `ch`. -/
def vdChan (s : State) (ch : Nat) : VdChan := nth s.vd.chans ch vdChan0

/-- The state with one valve channel changed. -/
def updVd (ch : Nat) (f : VdChan → VdChan) (s : State) : State := { s with vd := { s.vd with chans := updAt s.vd.chans ch f } }

/-- The channel's running pulse changed. -/
def updPulse (ch : Nat) (f : VdPulse → VdPulse) (s : State) : State := updVd ch (fun c => { c with pulse := c.pulse.map f }) s

/-- The present instant in µs, `us` within the frame. -/
def usNow (s : State) (us : Nat) : Nat := s.clk.ms * 1000 + us

/-- The bank of a channel (R170). -/
def vdBankOf (ch : Nat) : Nat := ch / 3

/-- The channels of a bank. -/
def bankChans (k : Nat) : List Nat := [3 * k, 3 * k + 1, 3 * k + 2]

/-- A bank of the state. -/
def vdBank (s : State) (k : Nat) : VdBank := nth s.vd.banks k ⟨false, 0, false⟩

/-- The state with one bank changed. -/
def updBank (k : Nat) (f : VdBank → VdBank) (s : State) : State := { s with vd := { s.vd with banks := updAt s.vd.banks k f } }

/-- The other channel of a pair (R176): the partner a channel names, or the channel that names it. -/
def vdPartner (s : State) (ch : Nat) : Option Nat :=
  if paramN s (pVdPartner ch) ≠ 0 then some (paramN s (pVdPartner ch) - 1)
  else (List.range 12).find? (fun k => paramN s (pVdPartner k) == ch + 1)

/-- Whether a channel is the second of its pair. -/
def vdSecond (s : State) (ch : Nat) : Bool := paramN s (pVdPartner ch) == 0 && (vdPartner s ch).isSome

/-- The function-table entry that owns a valve channel, itself or through its partner (R175, R176). -/
def vdOwner (s : State) (ch : Nat) : Option Bytes :=
  s.pf.work.funcs.find? (fun e => (rdN e 1 1 == 1 || rdN e 1 1 == 2) &&
    (rdN e 2 1 == ch + 1 || paramN s (pVdPartner (rdN e 2 1 - 1)) == ch + 1))

/-- The mode of a channel: 0 off, 1 pulse, 2 proportional (R175). -/
def vdMode (s : State) (ch : Nat) : Nat :=
  match vdOwner s ch with
  | some e => rdN e 1 1
  | none => paramN s (pVdMode ch)

/-- Whether a channel belongs to stop group B (R175). -/
def vdGroupB (s : State) (ch : Nat) : Bool :=
  match vdOwner s ch with
  | some e => bit (rdN e 3 1) 2
  | none => false

/-- Whether the low-side gate supply of a channel is on: supplied by D9 (R372), VBAT in range (R390), not in PS (R55), its group's
STOP released (R64), no replay (R100). -/
def vdGate (s : State) (ch : Nat) : Bool :=
  s.an.gate && !s.an.vbatOut && !inPs s && !(if vdGroupB s ch then s.an.stopB else s.an.stopA) && s.gr.replay.st != .running

/-- Whether a state carries current that counts as active on the bank (R171). -/
def vdActive (st : VdSt) : Bool := st == .boost || st == .pullBat || st == .peak || st == .hold || st == .regulate

/-- Whether any channel of a bank is in BOOST. -/
def bankBoost (s : State) (k : Nat) : Bool := (bankChans k).any (fun c => (vdChan s c).st == .boost)

/-- Whether any channel of a bank is in PULL_BAT. -/
def bankPull (s : State) (k : Nat) : Bool := (bankChans k).any (fun c => (vdChan s c).st == .pullBat)

/-- The sum of VD.I_PEAK of the channels in BOOST on a bank (R186). -/
def boostSum (s : State) (k : Nat) : Nat :=
  (((bankChans k).filter (fun c => (vdChan s c).st == .boost)).map (fun c => paramN s (pVdIPeak c))).sum

/-- Whether a channel is allowed into BOOST (R186). -/
def boostAllowed (s : State) (ch : Nat) : Bool :=
  decide (boostSum s (vdBankOf ch) + paramN s (pVdIPeak ch) ≤ 24000) && !bankPull s (vdBankOf ch)

/-- R187: the duty applied on a bank at boost. -/
def scaledDuty (duty vbat rail : Nat) : Nat := if rail = 0 then 0 else duty * vbat / rail

/-! ### Duty windows (R184) -/

/-- Whether a state counts toward the hold-duty window. -/
def holdCounts (st : VdSt) : Bool := st == .peak || st == .hold || st == .pullBat

/-- Hold time brought up to an instant. -/
def accrue (t : Nat) (c : VdChan) : VdChan :=
  match c.holdFrom with
  | some x => { c with holdNow := c.holdNow + (t - x), holdFrom := some t }
  | none => c

/-- A channel enters a state at an instant. -/
def enterSt (st : VdSt) (t : Nat) (c : VdChan) : VdChan :=
  let a := accrue t c
  { a with st := st, holdFrom := if holdCounts st then some t else none
           pulse := a.pulse.map (fun p => { p with since := t }) }

/-- The hold-duty window in 0.1 %: the time of the last 10 s. -/
def holdDuty (c : VdChan) : Nat := c.holds.sum / 10000

/-- The boost-energy window in mJ. -/
def boostEnergy (c : VdChan) : Nat := (c.energy.sum + c.energyNow) / 1000

/-! ### Pulse reports (R182 to R185) -/

/-- R183: an estimate after a measured delay. -/
def timingUpdate (est meas lead k : Nat) : Nat := (clampI 0 lead (est + ((meas : Int) - est) / (2 ^ k : Nat))).toNat

/-- The slope s[n] = i[n] − i[n − 8] of R182, from n = 8 on. -/
def slopes (cur : List Int) : List Int := List.zipWith (fun a b => b - a) cur (cur.drop 8)

/-- The opening sample of R182: the deepest local minimum of the slope, at least `thresh` below the maximum before it. -/
def openingSample (cur : List Int) (thresh : Nat) : Option Nat :=
  let sl := slopes cur
  let ok := (List.range sl.length).filter (fun k =>
    let x := nth sl k 0
    0 < k && decide (k + 1 < sl.length) && decide (x ≤ nth sl (k - 1) 0) && decide (x < nth sl (k + 1) 0) &&
      decide ((thresh : Int) ≤ (sl.take k).foldl max (nth sl 0 0) - x))
  (ok.foldl (fun best k => match best with
    | some b => if nth sl k 0 < nth sl b 0 then some k else some b
    | none => some k) none).map (· + 8)

/-- The 8-sample moving mean of R182, truncated, from sample 7 on. -/
def movingMean (v : List Int) : List Int :=
  (List.range (v.length - 7)).map (fun k => Int.tdiv ((v.drop k).take 8).sum 8)

/-- The closing sample of R182: the largest |D|, if it reaches the threshold. -/
def closingSample (volts : List Int) (thresh : Nat) : Option Nat :=
  let v := movingMean volts
  let d := (List.range (v.length - 16)).map (fun k => (nth v (k + 16) 0 - 2 * nth v (k + 8) 0 + nth v k 0).natAbs)
  let m := d.foldl max 0
  if thresh ≤ m ∧ !d.isEmpty then some (d.findIdx (· == m) + 23) else none

/-- A timing error in its i16 field; one of an instant that was not detected is unstated and free (log entry 3). -/
def timingErr (at' : Option Int) (s : State) : Bytes × State :=
  match at' with
  | some e => (leI 2 (satI 16 e), s)
  | none => (leN 2 (freshNat s).1, (freshNat s).2)

/-- Flags of a timing entry (VD_TIMING_READ byte 20). -/
def pulseFlags (p : VdPulse) (closing : Option Nat) (second : Bool) : Nat :=
  b2n p.restarted + 2 * b2n p.deferred + 4 * b2n p.weak + 8 * b2n p.reduced + 16 * b2n p.limited + 32 * b2n closing.isNone +
    64 * b2n second + 128 * b2n p.timeout

/-- The pulse of a channel is reported: timing entry, counters and estimates (R182, R183, R185). -/
def reportPulse (ch : Nat) (closing : Option Nat) (s : State) : State :=
  match (vdChan s ch).pulse with
  | none => s
  | some p =>
    let eo := timingErr (p.opening.map (fun d => (p.startAt + d : Int) - p.fire.tOn)) s
    let ec := timingErr (closing.map (fun d => (p.relAt + d : Int) - p.fire.tOff)) eo.2
    let s1 := ec.2
    let k := paramN s1 pVdTimingSmooth
    let row := if closing.isNone then (vdChan s ch).noSeatRow + 1 else 0
    let entry := u64 p.fire.frame ++ u16 (p.opening.getD 65535) ++ u16 (closing.getD 65535) ++ eo.1 ++ ec.1 ++
      u16 (satU 16 p.boostTime) ++ u16 (satU 16 p.deferral) ++ u8 (pulseFlags p closing (vdSecond s1 ch)) ++ zeros 3
    let s2 := updVd ch (fun c => { c with
      pulse := none
      pulses := wrapU 32 (c.pulses + 1)
      noSeat := if closing.isNone then wrapU 16 (c.noSeat + 1) else c.noSeat
      noSeatRow := row
      ring := pushRing 256 c.ring entry
      openEst := match p.opening with
        | some d => timingUpdate c.openEst d (paramN s1 (pVdLead ch)) k
        | none => c.openEst
      closeEst := match closing with
        | some d => if p.reduced then c.closeEst else timingUpdate c.closeEst d (paramN s1 (pVdOnTime ch)) k
        | none => c.closeEst }) s1
    detect detValveNotSeating (ch + 1) (decide (8 ≤ measured s2 detValveNotSeating (ch + 1) row)) row s2

/-! ### Banks (R171, R186) -/

/-- A deferred channel enters BOOST. -/
def allow (ch t : Nat) (s : State) : State :=
  updPulse ch (fun p => { p with startAt := t, deferred := true, deferral := t - p.instant, since := t })
    (updVd ch (enterSt .boost t) s)

/-- Deferred channels of a bank enter BOOST in the order of their boost-start instants, the lower channel first, as the sum
allows (R186). -/
def admitDeferred (k t : Nat) (s : State) : State :=
  let waiting := (bankChans k).filter (fun c => (vdChan s c).st == .defer)
  (sortBy (fun c => ((vdChan s c).pulse.map VdPulse.instant).getD 0) waiting).foldl
    (fun st c => if boostAllowed st c then allow c t st else st) s

/-- A channel in PULL_BAT pulls in once the bank is not at boost (R186). -/
def startPull (k t : Nat) (s : State) : State :=
  if bankBoost s k then s
  else (bankChans k).foldl (fun st c =>
    if (vdChan st c).st = .pullBat then
      updPulse c (fun p => if p.onAt.isNone then { p with onAt := some t, startAt := t } else p) st
    else st) s

/-- The duty that the pins of a bank's proportional channels get (R187). -/
def applyDuty (k : Nat) (s : State) : State :=
  (bankChans k).foldl (fun st c => updVd c (fun x => { x with
    applied := if bankBoost s k then scaledDuty x.duty s.an.vbat s.an.rail else x.duty }) st) s

/-- What follows in a bank after any change of its channels: deferrals, PULL_BAT, whether the bank is on, duties. -/
def settleBank (k t : Nat) (s : State) : State :=
  let s1 := applyDuty k (startPull k t (admitDeferred k t s))
  let on := (bankChans k).any (fun c => vdActive (vdChan s1 c).st)
  updBank k (fun b => { b with on := on, offSince := if b.on && !on then t else b.offSince }) s1

/-! ### Faults (Table 6-6) -/

/-- The detector of a channel's fault cause. -/
def vdCauseDet (cause : Nat) : Nat :=
  match cause with
  | 1 => detValveOpenLoad
  | 2 => detVlsShortToGround
  | 3 => detVlsShortToBattery
  | 4 => detCoilShort
  | 6 => detLowSideThermalShutdown
  | _ => detBankShortToGround

/-- A channel enters FAULT: its switches go off, what it ran is dropped. -/
def vdToFault (ch cause t : Nat) (s : State) : State :=
  updVd ch (fun c => { enterSt .fault t c with
    cause, fire := none, pulse := none, train := none, regMa := none, duty := 0, applied := 0 }) s

/-- A channel fault with its event. -/
def vdFault (ch cause t : Nat) (s : State) : State :=
  settleBank (vdBankOf ch) t (beginCond (vdCauseDet cause) (ch + 1) 0 (vdToFault ch cause t s))

/-- A bank fault: the bank is off, its channels FAULT with cause bank, but the one named keeps its own cause. -/
def vdBankFault (k t : Nat) (own : Option (Nat × Nat)) (s : State) : State :=
  let s1 := (bankChans k).foldl (fun st c => match own with
    | some o => if o.1 = c then vdToFault c o.2 t st else vdToFault c 5 t st
    | none => vdToFault c 5 t st) s
  settleBank k t s1

/-- The resting state of a channel by its mode. -/
def vdRest (s : State) (ch : Nat) : VdSt := if vdMode s ch = 1 then .idle else .off

/-- A channel leaves FAULT; its fault condition ends. -/
def vdLeaveFault (ch : Nat) (s : State) : State :=
  let c := vdChan s ch
  let s1 := rawEvent evValveChannelFaultCleared (ch + 1) c.cause
    (updVd ch (fun x => { x with st := vdRest s ch, cause := 0, earlyRow := 0 }) s)
  if c.cause = 5 then s1 else clearActive (vdCauseDet c.cause) (ch + 1) s1

/-- VALVE_FAULT_DETECT (R192, Table 6-6). -/
def execValveFaultDetect (ch : Fin 12) (us : Fin 1000) (m : VdMeasure) (s : State) : Host.Outcome State Fault Refusal :=
  let t := usNow s us
  let k := vdBankOf ch
  let n : Nat := ch + 1
  .next (match m with
    | .bankExcess ma d =>
      if (1000 ≤ ma && 20 ≤ d) || forced s detVlsShortToGround n then
        beginCond detVlsShortToGround n 0 (vdBankFault k t (some (ch, 2)) s)
      else s
    | .lowSide ma =>
      if 15000 ≤ ma || forced s detCoilShort n || forced s detVlsShortToBattery n then
        vdFault ch (if (vdBank s k).on && !forced s detVlsShortToBattery n then 4 else 3) t s
      else s
    | .bank ma =>
      if 30000 ≤ ma || forced s detBankShortToGround (k + 1) then
        beginCond detBankShortToGround (k + 1) 0 (vdBankFault k t none s)
      else s
    | .bankPin mv =>
      if (vdBank s k).on then s
      else
        let bad := decide (6000 < mv) || forced s detBankShortToBattery (k + 1)
        detect detBankShortToBattery (k + 1) bad 0 (updBank k (fun b => { b with noBoost := bad }) s)
    | .thermal => vdFault ch 6 t s
    | .regulation ma sp ms =>
      let err := ((ma : Int) - sp).natAbs
      let v := measured s detCurrentRegulationError n err
      if (vdChan s ch).st = .regulate then
        detect detCurrentRegulationError n (decide (100 ≤ ms) && decide ((sp / 5 + 100 : Int) < v)) v.toNat s
      else s)

/-! ### Pulses -/

/-- The running pulse of a channel is cut at an instant and reported with flag restarted (R181). -/
def cutPulse (ch t : Nat) (s : State) : State :=
  if (vdChan s ch).pulse.isSome then
    reportPulse ch none (updPulse ch (fun p => { p with restarted := true }) (updVd ch (enterSt .idle t) s))
  else s

/-- A pulse that starts from a fire. -/
def newPulse (f : VdFire) (t : Nat) (seek : Bool) : VdPulse :=
  { fire := f, startAt := t, instant := t, since := t, onAt := none, boostTime := 0, deferral := 0, relAt := 0, opening := none,
    seek, restarted := false, deferred := false, weak := false, reduced := false, limited := false, timeout := false }

/-- A new pulse enters BOOST, DEFER or PULL_BAT by the WAIT rules (Table 6-2, R184, R186). -/
def startPulse (ch t : Nat) (f : VdFire) (seek : Bool) (s : State) : State :=
  let e := measured s detBoostEnergyLimit (ch + 1) (boostEnergy (vdChan s ch))
  let put := fun (st : VdSt) (g : VdPulse → VdPulse) (s : State) =>
    updVd ch (fun c => { enterSt st t c with pulse := some (g (newPulse f t seek)) }) s
  if (paramN s (pVdBoostEmax ch) : Int) ≤ e then
    beginCond detBoostEnergyLimit (ch + 1) e.toNat
      (updVd ch (fun c => { c with episode := true }) (put .pullBat (fun p => { p with limited := true }) s))
  else if forced s detWeakPullIn (ch + 1) then
    happen detWeakPullIn (ch + 1) 0
      (updVd ch (fun c => { c with weak := wrapU 16 (c.weak + 1) }) (put .pullBat (fun p => { p with weak := true }) s))
  else if (vdBank s (vdBankOf ch)).noBoost then
    updVd ch (fun c => { c with weak := wrapU 16 (c.weak + 1) }) (put .pullBat (fun p => { p with weak := true }) s)
  else if boostAllowed s ch then put .boost id s
  else put .defer id s

/-- BOOST_START_INSTANT (R179, R181, R186): the pending fire's boost-start instant; the pair's other channel and a running
pulse are cut first. -/
def boostStart (ch t : Nat) (s : State) : State :=
  match (vdChan s ch).fire with
  | none => s
  | some f =>
    if f.tOn ≤ t + (vdChan s ch).openEst then
      let s0 := match vdPartner s ch with
        | some m =>
          if (vdChan s m).pulse.isSome then
            updVd m (fun c => { c with st := if c.fire.isSome then .wait else .idle }) (settleBank (vdBankOf m) t (cutPulse m t s))
          else s
        | none => s
      let seek := (vdChan s0 ch).pulse.isNone
      let s1 := updVd ch (fun c => { c with fire := none }) (cutPulse ch t s0)
      settleBank (vdBankOf ch) t (startPulse ch t f seek s1)
    else s

/-- BOOST_START_INSTANT. -/
def execBoostStartInstant (ch : Fin 12) (us : Fin 1000) (s : State) : Host.Outcome State Fault Refusal :=
  .next (boostStart ch (usNow s us) s)

/-- What a boost that ends leaves: the energy drawn and a capacitance estimate in µF (R174, R184). -/
def boostDone (ch : Nat) (m : VdBoost) (s : State) : State :=
  let s1 := updVd ch (fun c => { c with energyNow := c.energyNow + m.energy }) s
  if m.drop = 0 then s1
  else
    let caps := pushRing 16 s1.vd.caps (m.charge * 1000 / m.drop)
    let mean := measured s1 detBoostCapacitorDegraded 0 (caps.sum / caps.length : Nat)
    detect detBoostCapacitorDegraded 0 (decide (caps.length = 16) && decide (mean < 100)) mean.toNat
      { s1 with vd := { s1.vd with caps := caps } }

/-- BOOST or PULL_BAT ends in PEAK at an instant. -/
def toPeak (ch t : Nat) (s : State) : State :=
  settleBank (vdBankOf ch) t
    (updPulse ch (fun p => { p with boostTime := t - p.startAt }) (updVd ch (enterSt .peak t) s))

/-- The peak of a boost reached within 50 µs: coil-short-suspected, and FAULT on the eighth in a row (Table 6-6). -/
def earlyPeak (ch t : Nat) (early : Bool) (s : State) : State :=
  let row := if early then (vdChan s ch).earlyRow + 1 else 0
  let s1 := updVd ch (fun c => { c with earlyRow := row }) s
  let s2 := if early then happen detCoilShortSuspected (ch + 1) 0 s1 else s1
  if 8 ≤ row then vdFault ch 4 t s2 else s2

/-- PEAK_REACHED (R180, R186): the coil current reaches VD.I_PEAK_n. -/
def execPeakReached (ch : Fin 12) (us : Fin 1000) (m : VdBoost) (s : State) : Host.Outcome State Fault Refusal :=
  let t := usNow s us
  .next (match (vdChan s ch).pulse with
    | none => s
    | some p =>
      if paramN s (pVdIPeak ch) ≤ m.ma then
        match (vdChan s ch).st with
        | .boost =>
          let early := decide (t - p.startAt < 50) || forced s detCoilShortSuspected (ch + 1)
          earlyPeak ch t early (boostDone ch m (toPeak ch t s))
        | .pullBat => if p.onAt.isSome then toPeak ch t s else s
        | _ => s
      else s)

/-- BOOST_TIMEOUT (Table 6-2): VD.BOOST_MAX_n of BOOST or 10 ms of PULL_BAT have passed. -/
def execBoostTimeout (ch : Fin 12) (us : Fin 1000) (m : VdBoost) (s : State) : Host.Outcome State Fault Refusal :=
  let t := usNow s us
  let n : Nat := ch + 1
  .next (match (vdChan s ch).pulse with
    | none => s
    | some p =>
      match (vdChan s ch).st with
      | .boost =>
        if p.startAt + paramN s (pVdBoostMax ch) ≤ t || forced s detBoostTimeout n || forced s detValveOpenLoad n then
          if 500 ≤ m.ma && !forced s detValveOpenLoad n then
            happen detBoostTimeout n 0
              (updPulse ch (fun p => { p with timeout := true }) (boostDone ch m (toPeak ch t s)))
          else vdFault ch 1 t (boostDone ch m s)
        else s
      | .pullBat =>
        match p.onAt with
        | some o =>
          if o + 10000 ≤ t then
            if 500 ≤ m.ma then updPulse ch (fun p => { p with timeout := true }) (toPeak ch t s) else vdFault ch 1 t s
          else s
        | none => s
      | _ => s)

/-- DEFER_TIMEOUT (R186): 500 µs of DEFER. -/
def execDeferTimeout (ch : Fin 12) (us : Fin 1000) (s : State) : Host.Outcome State Fault Refusal :=
  let t := usNow s us
  .next (match (vdChan s ch).pulse with
    | none => s
    | some p =>
      if (vdChan s ch).st = .defer && decide (p.instant + 500 ≤ t) then
        settleBank (vdBankOf ch) t (happen detWeakPullIn (ch + 1) 0
          (updPulse ch (fun p => { p with weak := true, deferral := t - p.instant, startAt := t })
            (updVd ch (fun c => { enterSt .pullBat t c with weak := wrapU 16 (c.weak + 1) }) s)))
      else s)

/-- A channel enters RELEASE (R180, R187): reduced-voltage while its bank is at boost for another. -/
def toRelease (ch t : Nat) (s : State) : State :=
  let other := (bankChans (vdBankOf ch)).any (fun c => c != ch && (vdChan s c).st == .boost)
  settleBank (vdBankOf ch) t
    (updPulse ch (fun p => { p with relAt := t, reduced := other }) (updVd ch (enterSt .release t) s))

/-- The release instant of a channel's pulse (R179). -/
def releaseInstant (c : VdChan) (p : VdPulse) : Nat := p.fire.tOff - c.closeEst

/-- PEAK_END (R179): VD.T_PEAK_n has passed; the opening is sought over the samples so far (R182). -/
def execPeakEnd (ch : Fin 12) (us : Fin 1000) (cur : List Int) (s : State) : Host.Outcome State Fault Refusal :=
  let t := usNow s us
  .next (match (vdChan s ch).pulse with
    | none => s
    | some p =>
      if (vdChan s ch).st = .peak && decide (p.since + paramN s (pVdTPeak ch) ≤ t) then
        let s1 := updPulse ch (fun p => { p with
          opening := if p.seek then openingSample cur (paramN s (pVdDipThresh ch)) else none }) s
        if releaseInstant (vdChan s ch) p ≤ t then toRelease ch t s1 else settleBank (vdBankOf ch) t (updVd ch (enterSt .hold t) s1)
      else s)

/-- RELEASE_INSTANT (R179). -/
def execReleaseInstant (ch : Fin 12) (us : Fin 1000) (s : State) : Host.Outcome State Fault Refusal :=
  let t := usNow s us
  .next (match (vdChan s ch).pulse with
    | none => s
    | some p =>
      if (vdChan s ch).st = .hold && decide (releaseInstant (vdChan s ch) p ≤ t) then toRelease ch t s else s)

/-- RELEASE_END (R180): the current has fallen below 50 mA. -/
def execReleaseEnd (ch : Fin 12) (us : Fin 1000) (ma : Nat) (s : State) : Host.Outcome State Fault Refusal :=
  .next (if (vdChan s ch).st = .release && decide (ma < 50) then updVd ch (enterSt .observe (usNow s us)) s else s)

/-- OBSERVE_END (R182, R183, R185): a seat is found, or VD.OBSERVE_MAX_n has passed. -/
def execObserveEnd (ch : Fin 12) (us : Fin 1000) (volts : List Int) (s : State) : Host.Outcome State Fault Refusal :=
  let t := usNow s us
  .next (match (vdChan s ch).pulse with
    | none => s
    | some p =>
      let seat := (closingSample volts (paramN s (pVdKinkThresh ch))).map (fun n => p.since - p.relAt + n)
      if (vdChan s ch).st = .observe && (seat.isSome || decide (p.since + paramN s (pVdObserveMax ch) ≤ t)) then
        updVd ch (fun c => { c with st := if c.fire.isSome then .wait else .idle }) (reportPulse ch seat s)
      else s)

/-! ### Fires (R177, R178) -/

/-- R177: the fire decision of one tick: accumulator, last sign, and the side that fires. -/
def fireStep (u : Int) (rmin acc : Nat) (last : Int) : Nat × Int × Int :=
  let r := clampI (-2000) 2000 u
  if r.natAbs < rmin then (0, 0, 0)
  else
    let sg := Int.sign r
    let a := (if sg ≠ last then 0 else acc) + r.natAbs
    if 200000 ≤ a then (a - 200000, sg, sg) else (a, sg, 0)

/-- A fire word committed at an instant for a channel (R178). -/
def fireWord (ch c onTime : Nat) (s : State) : State :=
  let x := vdChan s ch
  if !vdGate s ch || x.st == .fault || x.st == .off || x.st == .regulate || s.gr.safeA || s.gr.safeB then s
  else if x.limited then updVd ch (fun v => { v with suppressed := wrapU 16 (v.suppressed + 1) }) s
  else
    let tOn := c + paramN s (pVdLead ch)
    updVd ch (fun v => { v with
      fire := some ⟨s.clk.frame, tOn, tOn + onTime⟩
      superseded := if v.fire.isSome then v.superseded + 1 else v.superseded
      st := if v.st = .idle then .wait else v.st }) s

/-- One tick of a pulse-mode function: its accumulator from its committed rate, and its fire (R177). The accumulator is
cleared whenever the function is not ENABLED. -/
def fireFn (c : Nat) (e : Bytes) (u : Int) (s : State) : State :=
  let f := rdN e 0 1
  let ch := rdN e 2 1 - 1
  let set := fun (a : Nat × Int) (s : State) => { s with gr := { s.gr with fire := updAt s.gr.fire (f - 1) (fun _ => a) } }
  if (fnOf s f).st ≠ .enabled then set (0, 0) s
  else
    let a := nth s.gr.fire (f - 1) (0, 0)
    let r := fireStep u (paramN s (pVdRateMin ch)) a.1 a.2
    let s1 := set (r.1, r.2.1) s
    if r.2.2 = 1 then fireWord ch c (paramN s (pVdOnTime ch)) s1
    else if r.2.2 = -1 then
      match vdPartner s ch with
      | some m => fireWord m c (paramN s (pVdOnTime m)) s1
      | none => s1
    else s1

/-- The host trains in one tick: a fire whose time has come (R177). -/
def trainTick (c : Nat) (s : State) : State :=
  (List.range 12).foldl (fun st ch => match (vdChan st ch).train with
    | none => st
    | some t =>
      if t.next ≤ c then
        updVd ch (fun v => { v with train := if t.left ≤ 1 then none else some { t with left := t.left - 1, next := c + t.spacing } })
          (fireWord ch c t.onTime st)
      else st) s

/-! ### Proportional mode (R188, R189) -/

/-- R189: the setpoint with dither for frame `n` and tick `k`. -/
def dithered (sp : Int) (amp period n k : Nat) : Int :=
  if sp = 0 || period = 0 then sp
  else
    let q : Int := ((n * 20 + k) % period : Nat)
    let a : Int := amp
    let dt := if 2 * q < period then -a + Int.tdiv (4 * a * q) period else 3 * a - Int.tdiv (4 * a * q) period
    sat32 (sp + Int.sign sp * dt)

/-- A channel takes a duty: it starts or stays in REGULATE, and rests once the duty is 0 and the current below 50 mA. -/
def setDuty (ch duty : Nat) (s : State) : State :=
  updVd ch (fun c =>
    if c.st = .fault then c
    else { c with
      duty := duty
      st := if duty ≠ 0 then .regulate else if c.st = .regulate && decide (c.current < 50) then .off else c.st }) s

/-- R188: a committed signed duty goes to the side it names, when the old side's current is below VD.CROSS_MA. -/
def pairDuty (ch : Nat) (u : Int) (s : State) : State :=
  let u := clampI (-10000) 10000 u
  let t := usNow s 0
  let other := vdPartner s ch
  let idle := fun (o : Option Nat) => match o with
    | some m => decide ((vdChan s m).current < paramN s pVdCrossMa) || (vdChan s m).duty == 0 && (vdChan s m).current == 0
    | none => true
  let s1 :=
    if 0 < u then
      if idle other then
        setDuty ch u.toNat (match other with | some m => setDuty m 0 s | none => s)
      else setDuty ch 0 (match other with | some m => setDuty m 0 s | none => s)
    else if u < 0 then
      match other with
      | some m =>
        if idle (some ch) then setDuty m u.natAbs (setDuty ch 0 s) else setDuty m 0 (setDuty ch 0 s)
      | none => setDuty ch 0 s
    else setDuty ch 0 (match other with | some m => setDuty m 0 s | none => s)
  let s2 := settleBank (vdBankOf ch) t s1
  match other with
  | some m => settleBank (vdBankOf m) t s2
  | none => s2

/-- A proportional function's committed output; the gate supply must be on, and the function commanding. -/
def dutyFn (e : Bytes) (u : Int) (s : State) : State :=
  let ch := rdN e 2 1 - 1
  if vdGate s ch && !s.gr.safeA && !s.gr.safeB then pairDuty ch u s else pairDuty ch 0 s

/-- The coil currents measured over a tick, in mA (R188). -/
def setCoils (ma : List Nat) (s : State) : State :=
  { s with vd := { s.vd with chans := s.vd.chans.zipIdx.map (fun p => { p.1 with current := nth ma p.2 p.1.current }) } }

/-- The signed coil current of a pair: positive on the channel, negative on its partner (R188). -/
def pairCurrent (s : State) (ch : Nat) : Int :=
  (vdChan s ch).current - (match vdPartner s ch with | some m => ((vdChan s m).current : Int) | none => 0)

/-! ### Frames and windows -/

/-- The boost-energy windows move on by 1 ms, and an episode ends below the limit (R184). -/
def vdFrame (s : State) : State :=
  (List.range 12).foldl (fun st ch =>
    let s1 := updVd ch (fun c => { c with energy := (pushRing 100 c.energy c.energyNow), energyNow := 0 }) st
    if (vdChan s1 ch).episode && decide (measured s1 detBoostEnergyLimit (ch + 1) (boostEnergy (vdChan s1 ch)) <
        paramN s1 (pVdBoostEmax ch)) then
      clearActive detBoostEnergyLimit (ch + 1) (updVd ch (fun c => { c with episode := false }) s1)
    else s1) s

/-- HOLD_DUTY_WINDOW_STEP (R184): every 100 ms the hold-duty window moves on and the limit is judged. -/
def execHoldDutyWindowStep (s : State) : Host.Outcome State Fault Refusal :=
  .next (if s.clk.frame % 100 = 0 then
    (List.range 12).foldl (fun st ch =>
      let s1 := updVd ch (fun c =>
        let a := accrue (usNow s 0) c
        { a with holds := pushRing 100 a.holds a.holdNow, holdNow := 0 }) st
      let v := measured s1 detHoldDutyLimit (ch + 1) (holdDuty (vdChan s1 ch))
      let lim : Int := param s1 (pVdHoldDutyMax ch)
      if lim < v then beginCond detHoldDutyLimit (ch + 1) v.toNat (updVd ch (fun c => { c with limited := true }) s1)
      else if v ≤ lim - 50 then
        (if (vdChan s1 ch).limited then clearActive detHoldDutyLimit (ch + 1) (updVd ch (fun c => { c with limited := false }) s1)
         else s1)
      else s1) s
    else s)

/-! ### Converter (R172) -/

/-- BOOST_RAIL_THRESHOLD (R172): the converter starts below 59.0 V and stops at 60.0 V. -/
def execBoostRailThreshold (mv : Nat) (s : State) : Host.Outcome State Fault Refusal :=
  let s1 := { s with an := { s.an with rail := mv }, vd := { s.vd with reached := s.vd.reached || decide (55000 ≤ mv) } }
  .next (if s.vd.conv = .regulating then
      { s1 with vd := { s1.vd with charging := if mv < 59000 then true else if 60000 ≤ mv then false else s1.vd.charging } }
    else s1)

/-- BOOST_OVERVOLTAGE (R172): above 66.0 V for 10 µs the converter latches off. -/
def execBoostOvervoltage (mv us : Nat) (s : State) : Host.Outcome State Fault Refusal :=
  .next (if (66000 < mv && 10 ≤ us) || forced s detBoostRailOvervoltage 0 then
      beginCond detBoostRailOvervoltage 0 0
        { s with an := { s.an with rail := mv }, vd := { s.vd with conv := .latched, charging := false } }
    else s)

/-- BOOST_RAIL_LOW: the rail has been below 40 V for 100 ms; one that is not ends the condition. -/
def execBoostRailLow (mv ms : Nat) (s : State) : Host.Outcome State Fault Refusal :=
  let v := measured s detBoostRailBelow40V 0 mv
  let s1 := { s with an := { s.an with rail := mv } }
  .next (if v < 40000 then (if 100 ≤ ms then beginCond detBoostRailBelow40V 0 v.toNat s1 else s1)
    else detect detBoostRailBelow40V 0 false 0 s1)

/-- BOOST_CONVERTER_SLOW: the converter has not reached 55 V within 200 ms of enable; reaching it ends the condition. -/
def execBoostConverterSlow (mv : Nat) (s : State) : Host.Outcome State Fault Refusal :=
  let v := measured s detBoostConverterNotReaching55V 0 mv
  .next (if s.vd.conv = .regulating && elapsed s s.vd.convSince 200 then
      detect detBoostConverterNotReaching55V 0 (decide (v < 55000) && (!s.vd.reached || decide (v ≠ mv))) v.toNat s
    else s)

/-! ### Safe state, stop and reset (R190) -/

/-- A valve channel takes its two-lane safe state from D9's own registers. -/
def vdSafeChan (ch : Nat) (s : State) : State :=
  let t := usNow s 0
  let c := vdChan s ch
  if c.st = .fault then s
  else if vdMode s ch = 1 then
    let s1 := updVd ch (fun c => { c with fire := none, train := none }) s
    match c.st with
    | .boost | .pullBat | .peak | .hold => toRelease ch t s1
    | .wait => updVd ch (enterSt .idle t) s1
    | .defer => updVd ch (enterSt .idle t) (reportPulse ch none s1)
    | _ => s1
  else
    let v : Int := match vdOwner s ch with
      | some e => if rdN e 6 1 = 2 then (if rdN e 2 1 = ch + 1 then rdI e 8 4 else -(rdI e 8 4)) else 0
      | none => 0
    settleBank (vdBankOf ch) t (updVd ch (fun c => { c with
      duty := 0, regMa := if 0 < v then some v.toNat else none
      st := if 0 < v then .regulate else if c.st = .regulate && decide (c.current < 50) then .off else c.st }) s)

/-- Every valve channel takes its two-lane safe state (R190). -/
def vdSafe (s : State) : State := (List.range 12).foldl (fun st ch => vdSafeChan ch st) s

/-- The gate supply of a channel goes: its current dies in the clamp (R190). -/
def vdOff (ch : Nat) (s : State) : State :=
  let t := usNow s 0
  if (vdChan s ch).st = .fault then s
  else
    let s1 := reportPulse ch none (updVd ch (enterSt (vdRest s ch) t) s)
    settleBank (vdBankOf ch) t (updVd ch (fun c => { c with
      fire := none, train := none, regMa := none, duty := 0, applied := 0 }) s1)

/-- A STOP input removes the gate supply of its group (R64, R190). -/
def vdStop (groupB : Bool) (s : State) : State :=
  (List.range 12).foldl (fun st ch => if vdGroupB st ch == groupB then vdOff ch st else st) s

/-- The estimates start at VD.LEAD_n / 2 (R183). -/
def vdEstimates (s : State) : State :=
  (List.range 12).foldl (fun st ch => updVd ch (fun c => { c with
    openEst := paramN s (pVdLead ch) / 2, closeEst := paramN s (pVdLead ch) / 2 }) st) s

/-- A profile activation: every channel rests in its mode, estimates afresh (R175, R183). -/
def vdActivate (s : State) : State :=
  vdEstimates ((List.range 12).foldl (fun st ch =>
    updVd ch (fun c => if c.st = .fault then c else if c.st = .off || c.st = .idle then { c with st := vdRest st ch } else c) st) s)

/-- At L0 and L1 every channel is off and the rail is discharged (R172, R190). -/
def vdReset (s : State) : State :=
  { s with
    vd := { chans := List.replicate 12 vdChan0, banks := List.replicate 4 ⟨false, 0, false⟩, conv := .off, charging := false,
            convSince := 0, reached := false, caps := [] }
    an := { s.an with rail := 0 } }

/-- D9 comes up: the converter is enabled (R172). -/
def vdEnable (s : State) : State :=
  { s with vd := { s.vd with conv := .regulating, charging := decide (s.an.rail < 59000), convSince := s.clk.ms, reached := false } }

/-! ### Diagnosis (R192, R194) -/

/-- The cause that off-state diagnosis finds, 0 none (R192, Table 6-6). VBK counts as pulled down when it follows VLS. -/
def vdDiagnose (m : VdDiag) : Nat :=
  if 6000 < m.vlsOff then 3
  else if m.vls < 300 && m.vbk ≤ m.vls + 300 then 2
  else if m.vls < 1000 then 1
  else 0

/-- Off-state diagnosis with the fault it finds. -/
def vdJudge (ch t : Nat) (s : State) : State :=
  match vdDiagnose (vdChan s ch).diag with
  | 0 => s
  | 2 => beginCond detVlsShortToGround (ch + 1) 0 (vdBankFault (vdBankOf ch) t (some (ch, 2)) s)
  | c => vdFault ch c t s

/-- Whether a channel is at rest: IDLE or OFF. -/
def vdResting (s : State) (ch : Nat) : Bool := (vdChan s ch).st == .idle || (vdChan s ch).st == .off

/-- VD_OFFSTATE_DIAG (R192): the pins give these voltages to a diagnosis; a resting channel whose bank has been off for 5 ms is judged by them, and
VD_DIAG finds them. -/
def execVdOffstateDiag (ch : Fin 12) (us : Fin 1000) (m : VdDiag) (s : State) : Host.Outcome State Fault Refusal :=
  let t := usNow s us
  let k := vdBankOf ch
  let s1 := updVd ch (fun c => { c with diag := m }) s
  .next (if !(vdBank s k).on && decide ((vdBank s k).offSince + 5000 ≤ t) && vdResting s1 ch then
      let bad := decide (6000 < m.vbkOff)
      vdJudge ch t (detect detBankShortToBattery (k + 1) bad 0 (updBank k (fun b => { b with noBoost := bad }) s1))
    else s1)

/-- LOW_SIDE_THERMAL_HYSTERESIS (Table 6-6): 20 K of cooling clears a thermal FAULT. -/
def execLowSideThermalHysteresis (ch : Fin 12) (kelvin : Nat) (s : State) : Host.Outcome State Fault Refusal :=
  .next (if (vdChan s ch).st = .fault && (vdChan s ch).cause = 6 && decide (20 ≤ kelvin) &&
      !forced s detLowSideThermalShutdown (ch + 1) then vdLeaveFault ch s else s)

/-- The response of VD_DIAG: result, VLS and VBK in mV. -/
def vdDiagReply (result : Nat) (m : VdDiag) (s : State) : State × Reply :=
  ans s stOk (u8 result ++ zeros 1 ++ u16 m.vls ++ u16 m.vbk ++ zeros 2)

/-- The request of VD_DIAG with its unit in 1 to `n`. -/
def vdDiagRequest (op n : Nat) (act : Nat → State → State × Reply) : Body := withOp 0 op fun c s =>
  let k := rdN c.payload 1 1
  if c.payload.length ≠ 4 || !resZero c.payload 2 2 || k = 0 || n < k then ans s stBadArg else act (k - 1) s

/-- VD_DIAG CHANNEL (R194). -/
def bodyVdDiagChannel : Body := vdDiagRequest 1 12 fun ch s =>
  if !vdResting s ch then ans s stBusy
  else vdDiagReply (vdDiagnose (vdChan s ch).diag) (vdChan s ch).diag (vdJudge ch (usNow s 0) s)

/-- The result of a bank's diagnosis: a bank short, or its first failing channel's cause. -/
def bankResult (s : State) (k : Nat) : Nat :=
  if (bankChans k).any (fun c => decide (6000 < (vdChan s c).diag.vbkOff)) then 5
  else (((bankChans k).map (fun c => vdDiagnose (vdChan s c).diag)).find? (· != 0)).getD 0

/-- VD_DIAG BANK (R194). -/
def bodyVdDiagBank : Body := vdDiagRequest 2 4 fun k s =>
  if !(bankChans k).all (vdResting s) then ans s stBusy
  else vdDiagReply (bankResult s k) (vdChan s (3 * k)).diag
    ((bankChans k).foldl (fun st c => if vdResting st c then vdJudge c (usNow s 0) st else st) s)

/-- VD_DIAG CLEAR also releases a latched converter below 60 V (R194). -/
def releaseConverter (s : State) : State :=
  if s.vd.conv = .latched && decide (s.an.rail < 60000) then clearActive detBoostRailOvervoltage 0 (vdEnable s) else s

/-- VD_DIAG CLEAR (R194): FAULT is left only if the diagnosis of the channel, or of the bank for a bank cause, passes. -/
def bodyVdDiagClear : Body := vdDiagRequest 3 12 fun ch s =>
  let s1 := releaseConverter s
  let c := vdChan s ch
  let k := vdBankOf ch
  if c.st ≠ .fault then vdDiagReply (vdDiagnose c.diag) c.diag s1
  else if c.cause = 5 then
    if bankResult s k = 0 then
      vdDiagReply 0 c.diag (clearActive detBankShortToGround (k + 1)
        ((bankChans k).foldl (fun st x => if (vdChan st x).st = .fault && (vdChan st x).cause = 5 then vdLeaveFault x st else st) s1))
    else vdDiagReply (bankResult s k) c.diag s1
  else if vdDiagnose c.diag = 0 then vdDiagReply 0 c.diag (vdLeaveFault ch s1)
  else vdDiagReply (vdDiagnose c.diag) c.diag s1

/-! ### VD_COMMAND (R193) -/

/-- Whether VD_COMMAND may act on a channel. -/
def vdMayCommand (s : State) (ch : Nat) : Bool :=
  (match vdOwner s ch with
    | some e => (fnOf s (rdN e 0 1)).st == .disabled
    | none => true) &&
  (vdChan s ch).st != .fault && s.gr.mode != .safe && !inPs s && (!moving s || inService s)

/-- The checks of a VD_COMMAND of a length and operation; `ok` judges its arguments for its channel. -/
def vdCommand (op len : Nat) (ok : State → Nat → Bytes → Bool) : Body := withOp 13 op (timedBody (fun c s =>
    let p := c.payload.drop 12
    let ch := rdN p 0 1
    if p.length ≠ len || ch = 0 || 12 < ch || !resZero p 2 2 || !ok s (ch - 1) p then some (stBadArg, [])
    else if !vdMayCommand s (ch - 1) then some (stRefusedState, []) else none) frameReply)

/-- VD_COMMAND OFF. -/
def bodyVdCommandOff : Body := vdCommand 0 4 fun _ _ _ => true

/-- VD_COMMAND PULSE: count 1–1,000, spacing 5–10,000 ms, a pulse-mode channel. -/
def bodyVdCommandPulse : Body := vdCommand 1 12 fun s ch p =>
  decide (1 ≤ rdN p 4 2) && decide (rdN p 4 2 ≤ 1000) && decide (5 ≤ rdN p 6 2) && decide (rdN p 6 2 ≤ 10000) && vdMode s ch == 1

/-- VD_COMMAND CURRENT: 0–4,000 mA, a proportional channel. -/
def bodyVdCommandCurrent : Body := vdCommand 2 12 fun s ch p =>
  decide (0 ≤ rdI p 4 4) && decide (rdI p 4 4 ≤ 4000) && resZero p 8 4 && vdMode s ch == 2

/-- VD_COMMAND at its frame of application. -/
def applyVdCommand (t : TCmd) (s : State) : State :=
  let p := t.payload
  let ch := rdN p 0 1 - 1
  let now := usNow s 0
  match rdN p 1 1 with
  | 1 =>
    let on := rdN p 8 4
    updVd ch (fun c => { c with
      train := some ⟨rdN p 4 2, rdN p 6 2 * 1000, if on = 0 then paramN s (pVdOnTime ch) else on, now⟩ }) s
  | 2 => settleBank (vdBankOf ch) now (updVd ch (fun c =>
      if c.st = .fault || !vdGate s ch then c
      else { c with regMa := some (rdI p 4 4).toNat
                    st := if rdI p 4 4 = 0 then c.st else .regulate }) s)
  | _ => settleBank (vdBankOf ch) now (updVd ch (fun c => { c with
      train := none, regMa := none
      st := if c.st = .regulate && decide (c.current < 50) then .off else c.st }) s)

/-! ### Status -/

/-- The state code of VD_STATUS. -/
def vdStCode (st : VdSt) : Nat :=
  match st with
  | .idle => 1 | .wait => 2 | .defer => 3 | .boost => 4 | .pullBat => 5 | .peak => 6 | .hold => 7 | .release => 8
  | .observe => 9 | .off => 10 | .regulate => 11 | .fault => 12

/-- The current setpoint of a channel in mA: what its phase regulates, the host's or D9's current, or its function's. -/
def vdSetpoint (s : State) (ch : Nat) : Int :=
  let c := vdChan s ch
  match c.st with
  | .boost | .pullBat | .peak => param s (pVdIPeak ch)
  | .hold => param s (pVdIHold ch)
  | .regulate =>
    match c.regMa with
    | some m => m
    | none => match vdOwner s ch with
      | some e => let sp := if rdN e 0 1 = 23 && s.gn.steer.st != .off then s.gn.steer.sp else (fnOf s (rdN e 0 1)).sp
        max 0 (if rdN e 2 1 = ch + 1 then sp else -sp)
      | none => 0
  | _ => 0

/-- A channel's entry of VD_STATUS. -/
def vdStatusEntry (s : State) (ch : Nat) : Bytes :=
  let c := vdChan s ch
  u8 (ch + 1) ++ u8 (vdMode s ch) ++ u8 (vdStCode c.st) ++ u8 c.cause ++ leI 2 (satI 16 c.current) ++ leI 2 (satI 16 (vdSetpoint s ch)) ++
    u32 c.pulses ++ u16 c.weak ++ u16 c.noSeat ++ u16 c.suppressed ++ u16 (satU 16 (boostEnergy c)) ++ u16 (holdDuty c) ++
    u16 c.openEst ++ u16 (satU 16 c.closeEst) ++ u8 (b2n c.limited + 2 * b2n c.episode + 4 * b2n (vdOwner s ch).isSome) ++ zeros 5

/-- VD_STATUS. -/
def bodyVdStatus : Body := emptyPayload fun _ s =>
  let conv := match s.vd.conv with | .off => 0 | .regulating => 1 | .latched => 2
  let cap := if s.vd.caps.isEmpty then 0 else s.vd.caps.sum / s.vd.caps.length
  ans s stOk (u16 (satU 16 s.an.rail) ++ u16 (satU 16 s.an.vbat) ++ u16 (satU 16 cap) ++ u8 conv ++ zeros 1 ++
    (List.range 12).flatMap (vdStatusEntry s))

/-- VD_TIMING_READ: the newest entries first (R185). -/
def bodyVdTimingRead : Body := fun c s =>
  let p := c.payload
  let ch := rdN p 0 1
  let n := rdN p 2 2
  if p.length ≠ 4 || ch = 0 || 12 < ch || !resZero p 1 1 || n = 0 || 256 < n then ans s stBadArg
  else
    let es := (vdChan s (ch - 1)).ring.reverse.take n
    ans s stOk (u8 es.length ++ zeros 3 ++ es.flatten)

end Sys2Proof.Machine
end

