-- ==== Sys2Proof/Machine/Panel.lean ====
section
/-!
DEFINITION. Machine/Panel.lean: the service panel: ledgers, updates, compensation, power loss and recovery (R406 to R416), with SP_WRITE and
SP_STATUS.
-/

namespace Sys2Proof.Machine

/-- The state with the panel changed. -/
def updSp (f : Panel → Panel) (s : State) : State := { s with sp := f s.sp }

/-- The segments of a mask, as indices from 0. -/
def segsOf (mask : Nat) : List Nat := (List.range 48).filter (bit mask)

/-- The union of two segment masks. -/
def maskOr (a b : Nat) : Nat := a ||| b

/-- The part of a mask outside another. -/
def maskMinus (a b : Nat) : Nat := maskOf 48 (fun n => bit a n && !bit b n)

/-- R411: what a phase adds to a ledger: `sign` of the voltage, VP in mV, driven time in µs. -/
def ledgerAdd (l : Int) (sign : Int) (mv us : Nat) : Int := sat32 (l + sign * ((mv * us + 500) / 1000 : Nat))

/-- The ledger of a segment. -/
def ledgerOf (s : State) (n : Nat) : Int := nth s.sp.ledgers n 0

/-- Whether any segment's ledger magnitude is at least SP.LEDGER_MIN (R410). -/
def ledgerOwed (s : State) : Bool :=
  s.sp.ledgers.zipIdx.any (fun p => decide (paramN s pSpLedgerMin ≤ p.1.natAbs) && !bit s.sp.dead p.2)

/-- VP in mV and base T in ms by temperature in 0.1 °C (Table 16-2). -/
def panelBand (temp : Int) : Nat × Nat :=
  if temp < -200 then (15000, 250) else if temp < 0 then (15000, 150) else if temp < 200 then (12000, 100)
  else if temp < 500 then (10000, 60) else (8000, 40)

/-- The temperature of R408: the sensor named by SP.TEMP_SENSOR in 0.1 °C, or the module temperature. -/
def panelTemp (s : State) : Int :=
  if paramN s pSpTempSensor = 255 then s.an.temp else sensScaled s (paramN s pSpTempSensor)

/-- R413: the compensation time of a ledger in µs. -/
def compTime (l : Int) (mv : Nat) : Nat := min 1000000 ((l.natAbs * 1000 + mv / 2) / mv / 10 * 10)

/-- What the running phase drives: segment, sign of its voltage, and its own time in µs (Table 16-1, R413). -/
def phaseDrive (p : Panel) : List (Nat × Int × Nat) :=
  let whole := p.t * 1000
  match p.phase with
  | 1 => (segsOf p.light).map (fun n => (n, 1, whole))
  | 2 => (segsOf (maskOr p.dark p.light)).map (fun n => (n, -1, whole))
  | 3 => (segsOf p.dark).map (fun n => (n, 1, whole))
  | 4 => p.c1.map (fun c => (c.1, 1, c.2))
  | 5 => p.c2.map (fun c => (c.1, -1, c.2))
  | _ => []

/-- How long a phase lasts in µs: T, or the longest compensation time. -/
def phaseTime (p : Panel) : Nat := (phaseDrive p).foldl (fun m d => max m d.2.2) 0

/-- The phase's volt-time is booked for every driven segment that a test names, up to `us` of driving (R411). -/
def bookPhase (which : Nat → Bool) (us : Nat) (p : Panel) : Panel :=
  (phaseDrive p).foldl (fun q d =>
    if which d.1 then { q with ledgers := updAt q.ledgers d.1 (fun l => ledgerAdd l d.2.1 p.vp (min us d.2.2)) } else q) p

/-- The displayed image after a completed phase: each driven segment in the state its voltage drives (R406, R409). -/
def phaseShown (p : Panel) : Nat :=
  if 4 ≤ p.phase then p.displayed
  else
    let up := (phaseDrive p).filter (fun d => 0 < d.2.1) |>.map Prod.fst
    let down := (phaseDrive p).filter (fun d => d.2.1 < 0) |>.map Prod.fst
    maskOf 48 (fun n => up.contains n || (bit p.displayed n && !down.contains n))

/-- A ledger beyond SP.LEDGER_LIMIT raises the ledger-out-of-balance detector with that ledger in DATA (R411). -/
def judgeLedgers (s : State) : State :=
  s.sp.ledgers.zipIdx.foldl (fun st p =>
    let l := measured st detPanelDcLedgerOutOfBalance (p.2 + 1) p.1
    detect detPanelDcLedgerOutOfBalance (p.2 + 1) (decide (paramN st pSpLedgerLimit < l.natAbs)) (leI 4 l |> natOfLe) st) s

/-- Images, marks and ledgers are copied to the MRAM system area (R411, R412). -/
def panelCopy (p : Panel) : Panel := { p with copy := ⟨p.displayed, p.target, p.uncertain, p.ledgers⟩ }

/-- Whether the driver may start a phase: D11 on, VSUP_NORMAL, no standby entry (R410). -/
def panelMayDrive (s : State) : Bool := !s.pw.vsupReduced && s.pw.sb.ph == .awake

/-- The next phase of the running plan that drives anything, after a phase: an update's phases run 1 to 3, compensation's 4 and 5. -/
def nextPhase (p : Panel) : Option Nat :=
  let later := if 4 ≤ p.phase then [5].filter (fun n => decide (p.phase < n)) else [1, 2, 3].filter (fun n => decide (p.phase < n))
  later.find? (fun n => !(phaseDrive { p with phase := n }).isEmpty)

/-- A phase starts. -/
def startPhase (n t : Nat) (s : State) : State := updSp (fun p => { p with phase := n, guard := false, since := t }) s

/-- The target differs from the displayed image in a segment that can still be driven. -/
def panelDiffers (p : Panel) : Bool := (segsOf (p.target ^^^ p.displayed)).any (fun n => !bit p.dead n)

/-- Whether the update about to start is a REFRESH: asked for, or some segment is uncertain (R407, R414). -/
def panelRefresh (p : Panel) : Bool := p.refresh || p.uncertain != 0

/-- The update starts: VP and T are taken once, the difference stands as it is now, and the first phase that drives anything starts
(R407 to R409). -/
def startUpdate (t : Nat) (s : State) : State :=
  let temp := panelTemp s
  let band := panelBand temp
  let p := s.sp
  let full := maskMinus (2 ^ 48 - 1) p.dead
  let change := if panelRefresh p then full else maskMinus (p.target ^^^ p.displayed) p.dead
  let dark := maskOf 48 (fun n => bit change n && bit p.target n)
  let light := maskMinus change dark
  let s1 := updSp (fun p => { p with
    st := .update, phase := 0, vp := band.1, t := band.2 * paramN s pSpTScale / 100, temp, dark, light,
    running := p.waiting, waiting := none, refresh := false, started := some s.clk.ms }) s
  match nextPhase s1.sp with
  | some n => startPhase n t s1
  | none => updSp (fun p => { p with st := .idle, phase := 0, running := none, ended := some s.clk.ms }) s1

/-- Compensation starts: the phases and times of R413; every compensated segment is marked uncertain. -/
def startComp (t : Nat) (s : State) : State :=
  let temp := panelTemp s
  let band := panelBand temp
  let lim : Int := paramN s pSpLedgerMin
  let owed (sel : Int → Bool) := (segsOf (maskMinus (2 ^ 48 - 1) s.sp.dead)).filter (fun n => sel (ledgerOf s n))
  let times (l : List Nat) := l.map (fun n => (n, compTime (ledgerOf s n) band.1))
  let c1 := times (owed (fun l => decide (l ≤ -lim)))
  let c2 := times (owed (fun l => decide (lim ≤ l)))
  let marks := maskOf 48 (fun n => (c1 ++ c2).any (fun c => c.1 == n))
  startPhase (if c1.isEmpty then 5 else 4) t
    (updSp (fun p => { p with
      st := .compensate, vp := band.1, t := band.2 * paramN s pSpTScale / 100, temp, c1, c2, dark := 0, light := 0,
      uncertain := maskOr p.uncertain marks }) s)

/-- Whether an update is due by R409 and R414: something to drive, the first frame boundary after acceptance, SP.MIN_INTERVAL after the last
start (not for a recovery refresh) and 10 ms after the last end. -/
def panelDue (s : State) : Bool :=
  let p := s.sp
  let work := if p.recover then p.uncertain != 0 || ledgerOwed s || panelDiffers p || p.refresh
    else p.waiting.isSome && (panelDiffers p || p.refresh)
  work && decide (p.after < s.clk.frame || p.waiting.isNone) &&
    (p.recover || (p.started.map (fun t => elapsed s t (paramN s pSpMinInterval))).getD true) &&
    (p.ended.map (fun t => elapsed s t 10)).getD true

/-- PANEL_UPDATE_START: a due update starts, after compensation when a ledger is owed (R409, R410, R414, Table 16-3). -/
def execPanelUpdateStart (us : Fin 1000) (s : State) : Host.Outcome State Fault Refusal :=
  .next (
    if s.sp.st = .idle && panelMayDrive s && panelDue s then
      (if ledgerOwed s then startComp else startUpdate) (usNow s us.val) s
    else s)

/-- The last phase of an update has ended: the image and ledgers are copied, the sequence is complete, and a refresh clears every uncertain
mark (R411, R414, Table 16-3). -/
def updateDone (s : State) : State :=
  updSp (fun p => panelCopy { p with
    st := .idle, phase := 0, guard := false, ended := some s.clk.ms, completed := wrapU 32 (p.completed + 1),
    lastDone := p.running.getD p.lastDone, running := none,
    uncertain := 0, recover := false }) s

/-- PANEL_PHASE_END: after T, or the longest compensation time, the phase's volt-time is booked and the guard starts; after the last phase of
an update it is complete (R407, R411, R413). -/
def execPanelPhaseEnd (us : Fin 1000) (s : State) : Host.Outcome State Fault Refusal :=
  .next (
    let t := usNow s us.val
    if (s.sp.st = .compensate || s.sp.st = .update) && s.sp.phase != 0 && !s.sp.guard && decide (s.sp.since + phaseTime s.sp ≤ t) then
      let s1 := judgeLedgers (updSp (fun p =>
        { bookPhase (fun _ => true) (phaseTime p) p with displayed := phaseShown p, guard := true, since := t }) s)
      if s1.sp.st = .update && (nextPhase s1.sp).isNone then updateDone s1
      else
        let s2 := if s1.sp.st = .compensate && (nextPhase s1.sp).isNone then updSp panelCopy s1 else s1
        if panelMayDrive s2 then s2 else updSp (fun p => { p with st := .paused }) s2
    else s)

/-- PANEL_GUARD_END: 1 ms after a phase the next phase starts, or after C2 the update (R407, R413, Table 16-3). -/
def execPanelGuardEnd (us : Fin 1000) (s : State) : Host.Outcome State Fault Refusal :=
  .next (
    let t := usNow s us.val
    if (s.sp.st = .compensate || s.sp.st = .update) && s.sp.guard && decide (s.sp.since + 1000 ≤ t) && panelMayDrive s then
      match nextPhase s.sp with
      | some n => startPhase n t s
      | none => if s.sp.st = .compensate then startUpdate t s else updateDone s
    else s)

/-- VSUP_REDUCED: in a guard the panel pauses at once; a phase already running completes first (R410). -/
def panelPause (s : State) : State :=
  if (s.sp.st = .compensate || s.sp.st = .update) && s.sp.guard then updSp (fun p => { p with st := .paused }) s else s

/-- VSUP_NORMAL: the remaining phases run (R410, Table 16-3). -/
def panelResume (s : State) : State :=
  if s.sp.st = .paused then updSp (fun p => { p with st := if 4 ≤ p.phase then .compensate else .update }) s else s

/-- The running phase and update are abandoned at an instant: the partial time is booked and every segment driven in the update is marked
uncertain (R411, R412). -/
def panelAbandon (t : Nat) (p : Panel) : Panel :=
  let us := if p.guard then 0 else t - p.since
  let booked := if p.guard then p else bookPhase (fun _ => true) us p
  let driven := maskOf 48 (fun n => bit p.dark n || bit p.light n || (p.c1 ++ p.c2).any (fun c => (decide (4 ≤ p.phase) && c.1 == n)))
  panelCopy { booked with
    uncertain := maskOr p.uncertain driven, broken := some (p.phase, us / 1000), guard := false, phase := 0,
    interrupted := wrapU 32 (p.interrupted + 1), running := none }

/-- R412: power loss, D11 off, L3 of unit 7, L0 or L1: the update is abandoned and the driver is off. The target image is kept. -/
def panelLose (us : Nat) (s : State) : State :=
  let s1 := if s.sp.st = .compensate || s.sp.st = .update || s.sp.st = .paused then
      judgeLedgers (updSp (panelAbandon (usNow s us)) s)
    else s
  updSp (fun p => { p with st := if p.st = .fault then .fault else .off, phase := 0, guard := false }) s1

/-- The driver is released: at L0 and L1 it leaves FAULT too (Table 16-3). -/
def panelOn (s : State) : State := updSp (fun p => { p with st := .idle, phase := 0, guard := false, dead := 0 }) s

/-- The release of L0: Basalt restores the images, marks and ledgers from the MRAM copy (R411). -/
def panelRestore (s : State) : State :=
  updSp (fun p => { p with displayed := p.copy.displayed, target := p.copy.target, uncertain := p.copy.uncertain, ledgers := p.copy.ledgers }) s

/-- The boot records an update interrupted by power loss: DATA is the phase in byte 0 and the partial time in ms in bytes 2–3 (R412). -/
def panelRecord (s : State) : State :=
  match s.sp.broken with
  | some b => updSp (fun p => { p with broken := none }) (happen detPanelUpdateInterruptedByPowerLoss 0 (b.1 + 65536 * satU 16 b.2) s)
  | none => s

/-- R414: recovery becomes due when a profile first becomes active after L0 or L1, and after an L3 of unit 7. -/
def panelRecover (s : State) : State := updSp (fun p => { p with recover := true }) s

/-- PANEL_PIN_FAULT: a SEG pin (1–48) fault takes the segment out of the drive, its time so far booked; a TOP fault (49) puts all pins to ground,
books the partial time and enters FAULT (Table 16-4, R415). -/
def execPanelPinFault (pin : Fin 50) (us : Fin 1000) (s : State) : Host.Outcome State Fault Refusal :=
  .next (
    if pin.val = 0 then s
    else
      let s1 := happen detSegmentDriverFault pin.val 0 s
      let t := usNow s us.val
      let busy := s.sp.st = .compensate || s.sp.st = .update || s.sp.st = .paused
      if pin.val = 49 then
        updSp (fun p =>
          let q := if busy then { panelAbandon t p with broken := none, interrupted := p.interrupted } else p
          { q with st := .fault, phase := 0, guard := false }) s1
      else
        let n := pin.val - 1
        updSp (fun p =>
          let q := if busy && !p.guard then bookPhase (fun k => k == n) (t - p.since) p else p
          { q with
            dead := maskOr q.dead (2 ^ n), dark := maskMinus q.dark (2 ^ n), light := maskMinus q.light (2 ^ n),
            c1 := q.c1.filter (fun c => c.1 != n), c2 := q.c2.filter (fun c => c.1 != n) }) s1)

/-- SP_WRITE 0x0F00 (Table 16-5, R409, R416). -/
def bodySpWrite : Body := fun c s =>
  let p := c.payload
  if p.length ≠ 16 || 2 ≤ rdN p 12 1 || !resZero p 13 3 then ans s stBadArg
  else if s.sp.st = .fault then ans s stRefusedState
  else
    let mask := rdN p 6 6
    let target := maskOf 48 (fun n => if bit mask n then bit (rdN p 0 6) n else bit s.sp.target n)
    let s1 := updSp (fun q => { q with target, refresh := q.refresh || bit (rdN p 12 1) 0 }) s
    match s.sp.waiting with
    | some n => ans s1 stOk (u32 n ++ u8 1 ++ zeros 3)
    | none =>
      if s1.sp.refresh || panelDiffers s1.sp || s1.sp.running.isSome then
        let n := wrapU 32 (s.sp.seq + 1)
        ans (updSp (fun q => { q with seq := n, waiting := some n, after := c.arrival }) s1) stOk (u32 n ++ u8 0 ++ zeros 3)
      else ans s1 stOk (u32 s.sp.seq ++ u8 0 ++ zeros 3)

/-- The state code of SP_STATUS; the driver without power or in reset reports IDLE. -/
def panCode (st : PanSt) : Nat := match st with | .off => 1 | .idle => 1 | .compensate => 2 | .update => 3 | .paused => 4 | .fault => 5

/-- SP_STATUS 0x0F01 (Table 16-5). -/
def bodySpStatus : Body := emptyPayload fun _ s =>
  let p := s.sp
  ans s stOk (u8 (panCode p.st) ++ u8 p.phase ++ u16 p.vp ++ u16 p.t ++ leI 2 p.temp ++ leN 6 p.displayed ++ leN 6 p.target ++
    leN 6 p.uncertain ++ zeros 2 ++ u32 p.completed ++ u32 p.interrupted ++ u32 p.lastDone ++ zeros 4 ++
    ((List.range 48).map (fun n => leI 4 (nth p.ledgers n 0))).flatten)

end Sys2Proof.Machine
end

