-- ==== Sys2Proof/Machine/Can.lean ====
section
/-!
DEFINITION. Machine/Can.lean: the CAN controllers, their queues, filters and the message table (R276 to R290, R294).
-/

namespace Sys2Proof.Machine

/-- CAN port `p` (0 for CN1). -/
def canPort (s : State) (p : Nat) : CanPort := nth s.cn.ports p canPort0

/-- The state with one CAN port changed. -/
def updCan (p : Nat) (f : CanPort → CanPort) (s : State) : State :=
  { s with cn := { s.cn with ports := updAt s.cn.ports p f } }

/-- R277: whether a value of CN.TIMING_n is accepted. -/
def canTimingOk (v : Nat) : Bool :=
  let f := fun (lo w : Nat) => v / 2 ^ lo % 2 ^ w
  let nbrp := f 0 6; let nt1 := f 6 9; let nt2 := f 15 8; let nsjw := f 23 8
  let dbrp := f 31 6; let dt1 := f 37 6; let dt2 := f 43 5; let dsjw := f 48 5
  let inR := fun (x lo hi : Nat) => decide (lo ≤ x) && decide (x ≤ hi)
  let nden := nbrp * (1 + nt1 + nt2)
  let dden := dbrp * (1 + dt1 + dt2)
  decide (v < 2 ^ 54) && inR nbrp 1 32 && inR nt1 2 256 && inR nt2 2 128 && inR nsjw 1 128 && inR dbrp 1 32 && inR dt1 2 32 &&
    inR dt2 1 16 && inR dsjw 1 16 && decide (nsjw ≤ nt2) && decide (dsjw ≤ dt2) &&
    decide (20000 * nden ≤ 40000000) && decide (40000000 ≤ 1000000 * nden) &&
    (!bit v 53 || (decide (dden ≤ nden) && decide (40000000 ≤ 5000000 * dden)))

/-- Whether FD is on at a port (Table 10-1, bit 53). -/
def canFd (s : State) (p : Nat) : Bool := bit (paramN s (pCnTiming p)) 53

/-- Whether a port takes part in sending (Table 10-3). -/
def canSends (s : State) (p : Nat) : Bool := (canPort s p).st == .errorActive || (canPort s p).st == .errorPassive

/-! ### Queue and buffers (R280 to R282) -/

/-- A frame's place in the queue: by class, then by insertion (R280). -/
def queueIn (t : CanTx) (q : List CanTx) : List CanTx := q.filter (fun x => decide (x.cls ≤ t.cls)) ++ [t] ++ q.filter (fun x => decide (t.cls < x.cls))

/-- The first free buffer. -/
def freeBuf (p : CanPort) : Option Nat := p.bufs.findIdx? (fun b => b.isNone)

/-- The head of the queue loads into the lowest-numbered free buffer, and frames that waited take room in the queue; by fuel. -/
def loadBufs : Nat → CanPort → CanPort
  | 0, p => p
  | n + 1, p =>
    let p1 := match p.backlog with
      | t :: ts => if p.queue.length < 64 then { p with queue := queueIn t p.queue, backlog := ts } else p
      | [] => p
    match freeBuf p1, p1.queue with
    | some i, t :: ts => loadBufs n { p1 with bufs := updAt p1.bufs i (fun _ => some ⟨t, false⟩), queue := ts }
    | _, _ => p1

/-- Free buffers of a port are loaded. -/
def loadPort (p : Nat) (s : State) : State := updCan p (loadBufs 4) s

/-- The newest class 3 frame of a queue leaves it. -/
def dropNewestHost (q : List CanTx) : List CanTx :=
  match (q.filter (fun t => t.cls == 3)).getLast? with
  | some _ => q.dropLast
  | none => q

/-- A frame enters a port's queue (R280, R281): a full queue gives up its newest class 3 frame for one of a lower class, which is counted
as dropped; failing that, a class 1 or 2 frame waits in the supervisor (log entry 27 for classes 0 and 3). -/
def canQueue (p : Nat) (t : CanTx) (s : State) : State :=
  let x := canPort s p
  if x.queue.length < 64 then loadPort p (updCan p (fun x => { x with queue := queueIn t x.queue }) s)
  else if t.cls < 3 && x.queue.any (fun q => q.cls == 3) then
    updCan p (fun x => { x with queue := queueIn t (dropNewestHost x.queue), hostDrops := satU 16 (x.hostDrops + 1) }) s
  else if t.cls = 1 || t.cls = 2 then updCan p (fun x => { x with backlog := x.backlog ++ [t] }) s
  else if t.cls = 3 then updCan p (fun x => { x with hostDrops := satU 16 (x.hostDrops + 1) }) s
  else s

/-- The arbitration value of a frame: 11 bits followed by 18 recessive ones for a base identifier, then RTR (R280). -/
def arbValue (f : CanFrame) : Nat := 2 * (if f.ext then f.id else f.id * 262144 + 262143) + b2n f.rtr

/-- The buffer that arbitrates next under CN.TX_ORDER_n (R280). -/
def nextBuf (s : State) (p : Nat) : Option Nat :=
  let loaded := ((canPort s p).bufs.zipIdx).filterMap (fun b => b.1.map (fun x => (x, b.2)))
  if paramN s (pCnTxOrder p) = 1 then loaded.head?.map (·.2)
  else (sortBy (fun b => 3 * arbValue b.1.tx.frame + b.2) loaded).head?.map (·.2)

/-! ### Address claim (R291) -/

/-- The NAME of a port (R296). -/
def canName (s : State) (p : Nat) : Nat :=
  if paramN s (pCnName p) = 0 then uid % 2 ^ 21 + 2 * 2 ^ 60 + 2 ^ 63 else paramN s (pCnName p)

/-- A network-management or transport frame with PDU format, destination or group extension, and source address. -/
def isoFrame (prio pf ps sa : Nat) (data : Bytes) : CanFrame :=
  { ext := true, fd := false, brs := false, esi := false, rtr := false,
    id := prio * 67108864 + pf * 65536 + ps * 256 + sa, len := data.length, data }

/-- Address Claimed from the port's address, or Cannot Claim from 254 (ISO 11783-5, PGN 0xEE00; log entry 28). -/
def sendClaim (p : Nat) (s : State) : State :=
  let sa := if (canPort s p).claim = .cannotClaim then 254 else (canPort s p).addr
  canQueue p ⟨isoFrame 6 0xEE 255 sa (leN 8 (canName s p)), 1, 0, none, false, 0⟩ s

/-- The port claims an address afresh. -/
def claimNow (p addr : Nat) (s : State) : State :=
  detect detAddressLost (p + 1) false 0
    (sendClaim p (updCan p (fun x => { x with claim := .claiming, addr, claimSince := s.clk.ms }) s))

/-- A controller becomes ERROR_ACTIVE: with CN.CLAIM_n = 1 it claims (Table 10-6). -/
def claimStart (p : Nat) (s : State) : State :=
  if paramN s (pCnClaim p) = 1 && (canPort s p).claim == .inactive then claimNow p (paramN s (pCnAddr p)) s else s

/-- The next address of 128–247, ascending from the present one and wrapping, that no claim in the table holds (Table 10-6). -/
def nextAddr (x : CanPort) : Option Nat :=
  let start := if 128 ≤ x.addr && x.addr ≤ 246 then x.addr + 1 else 128
  ((List.range 120).map (fun k => 128 + (start - 128 + k) % 120)).find? (fun a =>
    decide (a ≠ x.addr) && x.table.all (fun t => t.1 != a))

/-- A claim by another NAME for the port's own address (Table 10-6); a lower NAME wins. -/
def contest (p name : Nat) (s : State) : State :=
  let mine := canName s p
  if mine < name then sendClaim p s
  else if mine = name then s
  else match (if bit mine 63 then nextAddr (canPort s p) else none) with
    | some a => sendClaim p (updCan p (fun x => { x with claim := .claiming, addr := a, claimSince := s.clk.ms }) s)
    | none => beginCond detAddressLost (p + 1) 0 (sendClaim p (updCan p (fun x => { x with claim := .cannotClaim }) s))

/-- A claim received from another node: the address table takes it, and a contest for the own address follows. -/
def claimHeard (p sa name : Nat) (s : State) : State :=
  let s1 := updCan p (fun x => { x with table := x.table.filter (fun t => t.2 != name && t.1 != sa) ++ (if sa < 254 then [(sa, name)] else []) }) s
  let x := canPort s p
  if (x.claim = .claiming || x.claim = .claimed) && x.addr == sa then contest p name s1 else s1

/-- ADDRESS_CLAIM_TIMEOUT (R291): 250 ms without a winning contender. -/
def execAddressClaimTimeout (port : Fin 4) (s : State) : Host.Outcome State Fault Refusal :=
  .next (if (canPort s port.val).claim = .claiming && elapsed s (canPort s port.val).claimSince 250 then
    updCan port.val (fun x => { x with claim := .claimed }) s else s)

/-! ### Error confinement (R289, R290, R294) -/

/-- What the error counters make of a controller (Table 10-3). -/
def canJudge (p : Nat) (s : State) : State :=
  let x := canPort s p
  let m := measured s detErrorPassive (p + 1) (max x.txErr x.rxErr)
  let o := measured s detBusOff (p + 1) x.txErr
  if x.st ≠ .errorActive && x.st ≠ .errorPassive then s
  else if 255 < o then
    let s1 := updCan p (fun y => { y with st := .busOff, claim := .inactive, busOffs := satU 16 (y.busOffs + 1), lastOff := some s.clk.ms }) s
    if x.lastOff.any (fun t => !elapsed s t 10000) then s1 else beginCond detBusOff (p + 1) o.toNat s1
  else if 128 ≤ m then beginCond detErrorPassive (p + 1) m.toNat (updCan p (fun y => { y with st := .errorPassive }) s)
  else detect detErrorPassive (p + 1) false 0 (updCan p (fun y => { y with st := .errorActive }) s)

/-- CAN_INTEGRATION_DONE (R289): ERROR_ACTIVE or LISTEN_ONLY as CN.MODE_n says. -/
def execCanIntegrationDone (port : Fin 4) (s : State) : Host.Outcome State Fault Refusal :=
  let p := port.val
  .next (if (canPort s p).st ≠ .integrating then s
    else
      let s1 := detect detBusDominant (p + 1) (forced s detBusDominant (p + 1)) 0 s
      if paramN s (pCnMode p) = 2 then updCan p (fun x => { x with st := .listenOnly }) s1
      else claimStart p (loadPort p (updCan p (fun x => { x with st := .errorActive }) s1)))

/-- CAN_BUS_OFF_RECOVERY (R289): counters 0, ERROR_ACTIVE, pending frames in the selected order (R282). -/
def execCanBusOffRecovery (port : Fin 4) (s : State) : Host.Outcome State Fault Refusal :=
  let p := port.val
  .next (if (canPort s p).st = .busOff then
    claimStart p (loadPort p (detect detErrorPassive (p + 1) false 0 (detect detBusOff (p + 1) false 0
      (updCan p (fun x => { x with st := .errorActive, txErr := 0, rxErr := 0, noAck := 0 }) s))))
    else s)

/-- The answer to the cancel that waits for a host frame (R283). -/
def cancelAnswer (p handle status sent : Nat) (s : State) : State :=
  resolve (fun w => w == .cancel p handle) status (u8 sent ++ zeros 3) s

/-- CAN_TX_COMPLETE (R280, R283): a frame has been sent; the transmit counter falls by 1, the buffer is free. -/
def execCanTxComplete (port : Fin 4) (buf : Fin 3) (delay : Nat) (s : State) : Host.Outcome State Fault Refusal :=
  let p := port.val
  .next (if !canSends s p then s
    else match nth (canPort s p).bufs buf.val none with
      | none => s
      | some b =>
        let h := b.tx.handle
        let s1 := updCan p (fun x => { x with
          txErr := x.txErr - 1, sent := wrapU 32 (x.sent + 1), noAck := 0, loopDelay := delay
          bufs := updAt x.bufs buf.val (fun _ => none) }) s
        let s2 := if h = 0 then s1 else { s1 with cn := { s1.cn with sentHandles := s1.cn.sentHandles ++ [h] } }
        let s3 := detect detNoAcknowledge (p + 1) (forced s detNoAcknowledge (p + 1)) 0
          (detect detDominantTimeOut (p + 1) (forced s detDominantTimeOut (p + 1)) 0 (cancelAnswer p h stTooLate 1 s2))
        loadPort p (canJudge p s3))

/-- The transmit counter after a failed attempt (ISO 11898-1, R294): 8 more, but nothing for a lost arbitration, nor for a missing
acknowledge in ERROR_PASSIVE without a dominant bit in the error flag. -/
def txErrAfter (st : CtrlSt) (e : CanErr) (t : Nat) : Nat :=
  match e with
  | .arbLost => t
  | .ackError dominant => if st = .errorPassive && !dominant then t else t + 8
  | _ => t + 8

/-- A collision of a message-table or claimed-address frame: the eighth in a row is recorded, and an own claim follows (R290). -/
def collided (p : Nat) (tx : CanTx) (s : State) : State :=
  let s1 := updCan p (fun x => { x with collisions := satU 16 (x.collisions + 1) }) s
  if tx.coll + 1 = 8 || forced s detIdentifierCollision (p + 1) then
    let s2 := happen detIdentifierCollision (p + 1) tx.frame.id s1
    if tx.iso && (canPort s p).claim == .claimed && tx.frame.id % 256 == (canPort s p).addr then sendClaim p s2 else s2
  else s1

/-- CAN_TX_ERROR (R282, R283, R289, R290, R294): the frame stays in its buffer, but a cancelled one leaves it. -/
def execCanTxError (port : Fin 4) (buf : Fin 3) (e : CanErr) (s : State) : Host.Outcome State Fault Refusal :=
  let p := port.val
  .next (if !canSends s p then s
    else match nth (canPort s p).bufs buf.val none with
      | none => s
      | some b =>
        let col := e == .bitError true
        let s1 := updCan p (fun x => { x with
          txErr := txErrAfter x.st e x.txErr
          arbLosses := if e = .arbLost then satU 16 (x.arbLosses + 1) else x.arbLosses
          noAck := (match e with | .ackError _ => x.noAck + 1 | .arbLost => x.noAck | _ => 0)
          bufs := updAt x.bufs buf.val (fun _ => some { b with tx := { b.tx with coll := if col then b.tx.coll + 1 else if e = .arbLost then b.tx.coll else 0 } }) }) s
        let s2 := if col then collided p b.tx s1 else s1
        let s3 := if 100 ≤ (canPort s2 p).noAck || forced s detNoAcknowledge (p + 1) then beginCond detNoAcknowledge (p + 1) 0 s2 else s2
        let s4 := if b.cancel then
            cancelAnswer p b.tx.handle stOk 0 (updCan p (fun x => { x with bufs := updAt x.bufs buf.val (fun _ => none) }) s3) else s3
        loadPort p (canJudge p s4))

/-- CAN_DOMINANT_TIMEOUT (R294): transmit input or bus dominant for more than 4 ms. -/
def execCanDominantTimeout (port : Fin 4) (bus : Bool) (us : Nat) (s : State) : Host.Outcome State Fault Refusal :=
  let det := if bus then detBusDominant else detDominantTimeOut
  .next (if (canPort s port.val).st ≠ .disabled && (decide (4000 < us) || forcedFor s det (port.val + 1) 4) then
    beginCond det (port.val + 1) 0 s else s)

/-! ### Restart, activation, L2 -/

/-- A port in DISABLED: pins recessive, queue, buffers and FIFO discarded (Table 10-3). -/
def canOff (x : CanPort) : CanPort :=
  { x with st := .disabled, txErr := 0, rxErr := 0, bufs := [none, none, none], queue := [], backlog := [], fifo := [], dropped := false,
           claim := .inactive, conns := [], mail := [], noAck := 0 }

/-- A port passes through DISABLED into INTEGRATING with its queue and buffers, or stays DISABLED in mode 0 (R279, R289, R295). -/
def canRestart (p : Nat) (s : State) : State :=
  let s1 := detect detErrorPassive (p + 1) false 0 (detect detBusOff (p + 1) false 0 s)
  if paramN s (pCnMode p) = 0 then updCan p canOff s1
  else updCan p (fun x => { x with st := .integrating, txErr := 0, rxErr := 0, noAck := 0, claim := .inactive, conns := [] }) s1

/-- The message-table entries of the active profile (Table 10-5). -/
def canEntries (s : State) (p dir : Nat) : List Bytes :=
  s.pf.work.canTable.filter (fun e => rdN e 1 1 == p + 1 && rdN e 2 1 == dir)

/-- The module's own filters of a port (R284). -/
def moduleFilters (s : State) (p : Nat) : List CanFilter :=
  let rx := (canEntries s p 2).map (fun e =>
    let ext := bit (rdN e 3 1) 0
    let iso := bit (rdN e 3 1) 5
    let any := rdN e 16 1 == 255
    { id := if iso then rdN e 4 4 / 256 * 256 + (if any then 0 else rdN e 16 1) else rdN e 4 4,
      mask := if iso && any then 0x1FFFFF00 else 0x1FFFFFFF, ext, action := 1 : CanFilter })
  let net := if paramN s (pCnClaim p) = 1 || bit (paramN s pMbCanPorts) p then
      [0xEA, 0xEE, 0xEC, 0xEB, 0xEF].map (fun pf => (⟨pf * 65536, 0x03FF0000, true, 1⟩ : CanFilter)) else []
  (rx ++ net).eraseDups

/-- A profile activation: host filters cleared, module filters loaded, every port brought to its mode; a port whose mode or timing stays
goes on (R279, R284, Table 10-3). `old` is the state before. -/
def canActivate (old s : State) : State :=
  (List.range 4).foldl (fun st p =>
    let st1 := updCan p (fun x => { x with host := canPort0.host, mods := moduleFilters st p }) st
    if (canPort st p).st = .disabled || paramN old (pCnMode p) ≠ paramN st (pCnMode p) || paramN old (pCnTiming p) ≠ paramN st (pCnTiming p)
    then canRestart p st1 else st1) s

/-- A parameter change: CN.MODE_n and CN.TIMING_n restart their controller (R279). -/
def canParamChanged (id : Nat) (s : State) : State :=
  (List.range 4).foldl (fun st p => if id = pCnMode p || id = pCnTiming p then canRestart p st else st) s

/-- L0, L1, L2 and standby: every port DISABLED, host filters cleared, the CAN part held (R80, R284, R289). -/
def canDown (s : State) : State :=
  { s with cn := { s.cn with
      ports := s.cn.ports.map (fun x => { canOff x with host := canPort0.host, mods := [], table := [] })
      staged := [] } }

/-! ### The message table (R286 to R288) -/

/-- The place of bit `k` of an entry's signal among the data bits: upward from START, or toward lower bytes for a big-endian signal
(Table 10-5; log entry 29). -/
def sigBit (e : Bytes) (k : Nat) : Nat :=
  let st := rdN e 10 2
  if bit (rdN e 3 1) 3 then 8 * (st / 8 - (st % 8 + k) / 8) + (st % 8 + k) % 8 else st + k

/-- A signal as an entry carries it: saturated to its width and signedness (R287), as bits. -/
def sigBits (e : Bytes) (v : Int) : Nat :=
  let w := rdN e 9 1
  let x := if bit (rdN e 3 1) 4 then clampI (-(2 ^ (w - 1) : Nat)) ((2 ^ (w - 1) : Nat) - 1) v else clampI 0 ((2 ^ w : Nat) - 1) v
  (x % (2 ^ w : Nat)).toNat

/-- A signal extracted from a frame and extended to i32 (R288). -/
def sigValue (e : Bytes) (data : Bytes) : Int :=
  let w := rdN e 9 1
  let n := maskOf w (fun k => bit ((nth data (sigBit e k / 8) 0).toNat) (sigBit e k % 8))
  if bit (rdN e 3 1) 4 && bit n (w - 1) then (n : Int) - (2 ^ w : Nat) else toSigned 4 n

/-- The output a transmit entry carries (R287). -/
def entryOutput (s : State) (e : Bytes) : Int :=
  match s.pf.work.funcs.find? (fun f => rdN f 1 1 == 5 && rdN f 2 1 == rdN e 0 1) with
  | some f =>
    let x := fnOf s (rdN f 0 1)
    if x.st = .enabled || x.st = .ramp then x.out else rdI f 8 4
  | none => 0

/-- The data of a message-table frame: its signals, every other bit 1 (R287). -/
def frameData (es : List (Bytes × Nat)) (len : Nat) : Bytes :=
  (List.range len).map (fun i => BitVec.ofNat 8 (maskOf 8 (fun b =>
    match es.findSome? (fun e => ((List.range (rdN e.1 9 1)).find? (fun k => sigBit e.1 k == 8 * i + b)).map (fun k => bit e.2 k)) with
    | some v => v
    | none => true)))

/-- The transmit frames of a port: for each, the entries that form it (R286). -/
def txGroups (s : State) (p : Nat) : List (List Bytes) :=
  let es := canEntries s p 1
  let key := fun (e : Bytes) => (rdN e 4 4, rdN e 3 1 % 8)
  ((es.map key).eraseDups).map (fun k => es.filter (fun e => key e == k))

/-- The identifier an entry is sent with: the claimed address in bits 7–0 with ISO 11783 addressing (Table 10-5). -/
def txId (s : State) (p : Nat) (e : Bytes) : Nat :=
  if bit (rdN e 3 1) 5 then rdN e 4 4 / 256 * 256 + (canPort s p).addr else rdN e 4 4

/-- A message-table frame that is due replaces its instance still in the queue, or is queued (R281, R287). -/
def queueGroup (p : Nat) (es : List Bytes) (s : State) : State :=
  match es.head? with
  | none => s
  | some e =>
    let fl := rdN e 3 1
    let x := canPort s p
    if (s.clk.frame + rdN e 12 2 - rdN e 14 2) % rdN e 12 2 ≠ 0 || x.st = .disabled || x.st = .listenOnly then s
    else if bit fl 5 && x.claim != .claimed then updCan p (fun x => { x with unclaimed := wrapU 32 (x.unclaimed + 1) }) s
    else
      let f : CanFrame := { ext := bit fl 0, fd := bit fl 1, brs := bit fl 2, esi := false, rtr := false, id := txId s p e, len := rdN e 8 1,
                            data := frameData (es.map (fun y => (y, sigBits y (entryOutput s y)))) (rdN e 8 1) }
      let t : CanTx := ⟨f, 0, 0, some (rdN e 0 1), bit fl 5, 0⟩
      if x.queue.any (fun q => q.entry == t.entry) then
        updCan p (fun x => { x with queue := x.queue.map (fun q => if q.entry = t.entry then t else q), replaced := satU 16 (x.replaced + 1) }) s
      else canQueue p t s

/-- The message-table frames due at the start of a frame (R287). -/
def canTxQueue (s : State) : State :=
  (List.range 4).foldl (fun st p => (txGroups st p).foldl (fun st es => queueGroup p es st) st) s

/-- The CAN part of the record that closes (R288): the last frame's signal and a fresh flag, or the value held and its age. -/
def canClose (s : State) : State :=
  let es := s.pf.work.canTable.filter (fun e => rdN e 2 1 == 2)
  let vals := es.map (fun e =>
    let i := rdN e 0 1
    match getKey i s.cn.staged with
    | some v => (⟨i, v, true, 0⟩ : SensVal)
    | none => match s.cn.vals.find? (fun v => v.index == i) with
      | some v => { v with fresh := false, age := v.age + 1 }
      | none => ⟨i, 0, false, 251⟩)
  { s with cn := { s.cn with vals, staged := [] } }

/-- Whether a received frame carries an entry's signal (Table 10-5). -/
def entryMatches (e : Bytes) (f : CanFrame) : Bool :=
  let fl := rdN e 3 1
  f.ext == bit fl 0 && !f.rtr && f.fd == bit fl 1 && f.len == rdN e 8 1 &&
    (if bit fl 5 then f.id / 256 == rdN e 4 4 / 256 && (rdN e 16 1 == 255 || f.id % 256 == rdN e 16 1) else f.id == rdN e 4 4)

/-- A frame's signals join the next record; earlier ones of the same record are counted as overwritten (R288). -/
def stageSignals (p : Nat) (f : CanFrame) (s : State) : State :=
  let es := (canEntries s p 2).filter (fun e => entryMatches e f)
  let again := es.any (fun e => (getKey (rdN e 0 1) s.cn.staged).isSome)
  let s1 := if again then updCan p (fun x => { x with overwritten := satU 16 (x.overwritten + 1) }) s else s
  { s1 with cn := { s1.cn with staged := es.foldl (fun m e => setKey (rdN e 0 1) (sigValue e f.data) m) s1.cn.staged } }

/-! ### The host's receive path (R284, R285) -/

/-- Whether a filter matches a frame; a mask bit of 1 means compared. -/
def filterHits (f : CanFrame) (x : CanFilter) : Bool :=
  x.action != 0 && x.ext == f.ext && (f.id &&& x.mask) == (x.id &&& x.mask)

/-- An entry of CAN_RX (Table 10-4). -/
def rxEntry (p : Nat) (r : CanRx) : Bytes :=
  let f := r.frame
  let fl := b2n f.ext + 2 * b2n f.fd + 4 * b2n f.brs + 8 * b2n f.esi + 16 * b2n f.rtr + 32 * b2n r.overflow
  let n := (20 + f.data.length + 3) / 4 * 4
  padTo n (u64 r.at' ++ u32 r.cycle ++ u8 (p + 1) ++ u8 fl ++ u8 f.data.length ++ u8 r.filter ++ u32 f.id ++ f.data)

/-- An entry meets the subscriptions of CAN_RX whose filter selects the port; one that finds no room in what waits is dropped and
counted (R285). -/
def rxNotify (p : Nat) (entry : Bytes) (s : State) : State :=
  let n : DueNote := ⟨s.cn.entries, entry⟩
  let s0 := { s with cn := { s.cn with entries := s.cn.entries + 1 } }
  (s0.mb.sessions.filter Sess.isOpen).foldl (fun st x =>
    (x.subs.filter (fun b => b.code == nCanRx && bit b.filter p)).foldl (fun st2 b =>
      if 48 ≤ b.due.length || 1020 < (b.due.map (fun d => d.payload.length)).sum + entry.length then
        updCan p (fun y => { y with noteDrops := satU 16 (y.noteDrops + 1) }) st2
      else offerSub x.num b n st2) st) s0

/-- The supervisor forwards what a receive FIFO holds. -/
def drainFifo (p : Nat) (s : State) : State :=
  if s.rs.supUp then
    ((canPort s p).fifo).foldl (fun st r => rxNotify p (rxEntry p r) st) (updCan p (fun x => { x with fifo := [] }) s)
  else s

/-- The supervisor forwards the frames of all four FIFOs, once a frame (log entry 30). -/
def canForward (s : State) : State := (List.range 4).foldl (fun st p => drainFifo p st) s

/-- The host filters decide on a frame: the first that matches (R284); the FIFO takes 64 frames (R285). -/
def hostReceive (p : Nat) (f : CanFrame) (cycle : Nat) (s : State) : State :=
  match (canPort s p).host.findIdx? (filterHits f) with
  | none => s
  | some i =>
    if (nth (canPort s p).host i ⟨0, 0, false, 0⟩).action ≠ 1 then s
    else if 64 ≤ (canPort s p).fifo.length || forced s detReceiveFifoOverflow (p + 1) then
      happen detReceiveFifoOverflow (p + 1) 0 (updCan p (fun x => { x with overflows := satU 16 (x.overflows + 1), dropped := true }) s)
    else updCan p (fun x => { x with fifo := x.fifo ++ [⟨f, s.clk.frame, cycle, x.dropped, i⟩], dropped := false }) s

end Sys2Proof.Machine
end

