-- ==== Sys2Proof/Machine/CanHost.lean ====
section
/-!
DEFINITION. Machine/CanHost.lean: the ISO 11783-3 transport of mailbox messages, what a received frame does inside the module, and the
CAN commands (R22, R283, R284, R291, R292, R295, Table 10-7).
-/

namespace Sys2Proof.Machine

/-! ### ISO 11783-3 transport (R292; log entry 28 for the message formats of that standard) -/

/-- The three bytes that name PGN 0xEF00 in a transport message. -/
def pgnMailbox : Bytes := [0x00, 0xEF, 0x00]

/-- A transport frame to a peer: connection management (PF 0xEC) or data (PF 0xEB), with priority MB.CAN_PRIORITY (R22). -/
def tpFrame (s : State) (p pf peer : Nat) (data : Bytes) : CanTx :=
  ⟨isoFrame (paramN s pMbCanPriority) pf peer (canPort s p).addr data, 2, 0, none, false, 0⟩

/-- A connection-management message is queued. -/
def sendCm (p peer : Nat) (head : Bytes) (s : State) : State :=
  canQueue p (tpFrame s p 0xEC peer (padTo 5 (head ++ List.replicate 5 0xFF) ++ pgnMailbox)) s

/-- The connection with a peer in a direction. -/
def connOf (s : State) (p peer : Nat) (out : Bool) : Option CanConn :=
  (canPort s p).conns.find? (fun c => c.peer == peer && c.out == out)

/-- A connection changed. -/
def updConn (p peer : Nat) (out : Bool) (f : CanConn → CanConn) (s : State) : State :=
  updCan p (fun x => { x with conns := x.conns.map (fun c => if c.peer = peer && c.out = out then f c else c) }) s

/-- A connection ends. -/
def dropConn (p peer : Nat) (out : Bool) (s : State) : State :=
  updCan p (fun x => { x with conns := x.conns.filter (fun c => !(c.peer == peer && c.out == out)) }) s

/-- Whether a port carries the mailbox (R22): named by MB.CAN_PORTS at the supervisor start, and CLAIMED. -/
def mailPort (s : State) (p : Nat) : Bool := bit s.mb.canPorts p && (canPort s p).claim == .claimed

/-- The next waiting messages of a port open their connections: one a peer, at most 8 in all (R22, R292). -/
def openTransfers (p : Nat) (s : State) : State :=
  (canPort s p).mail.foldl (fun st m =>
    if (connOf st p m.1 true).isSome || 8 ≤ (canPort st p).conns.length then
      updCan p (fun x => { x with mail := x.mail ++ [m] }) st
    else
      let n := m.2.length
      let k := (n + 6) / 7
      sendCm p m.1 ([16] ++ u16 n ++ u8 k ++ [0xFF])
        (updCan p (fun x => { x with conns := x.conns ++ [⟨m.1, true, n, k, 1, 0, m.2, st.clk.ms⟩] }) st))
    (updCan p (fun x => { x with mail := [] }) s)

/-- The CAN transport takes the messages the mailbox has sent to CAN peers (peer = 256 × port + address); on a port that is not CLAIMED
they are not sent and are counted (R291). -/
def canPump (s : State) : State :=
  let fresh := (s.out.drop s.cn.taken).filter (fun m => m.binding.transport == .can && m.binding.relay == 0)
  let s1 := fresh.foldl (fun st m =>
    let p := m.binding.peer / 256
    if mailPort st p then updCan p (fun x => { x with mail := x.mail ++ [(m.binding.peer % 256, wireOf m)] }) st
    else updCan p (fun x => { x with unclaimed := wrapU 32 (x.unclaimed + 1) }) st)
    { s with cn := { s.cn with taken := s.out.length } }
  (List.range 4).foldl (fun st p => openTransfers p st) s1

/-- The packets from `next` to `upto` of an outgoing transfer are queued, seven bytes each (ISO 11783-3). -/
def sendPackets (p peer next upto : Nat) (data : Bytes) (s : State) : State :=
  ((List.range (upto + 1 - next)).map (· + next)).foldl (fun st k =>
    canQueue p (tpFrame st p 0xEB peer (u8 k ++ padTo 7 (slice data (7 * (k - 1)) 7 ++ List.replicate 7 0xFF))) st) s

/-- A transfer is aborted: recorded, and for an incoming mailbox message counted as malformed (R292). -/
def abortConn (p peer : Nat) (out : Bool) (s : State) : State :=
  let s1 := updCan p (fun x => { x with aborts := satU 16 (x.aborts + 1) }) (dropConn p peer out s)
  let s2 := if out then s1 else { s1 with mb := { s1.mb with malformed := wrapU 32 (s1.mb.malformed + 1) } }
  openTransfers p (happen detTransportAborted (p + 1) 0 s2)

/-- A connection-management message from a peer. -/
def cmHeard (p peer : Nat) (d : Bytes) (s : State) : State :=
  let op := rdN d 0 1
  if slice d 5 3 ≠ pgnMailbox || !mailPort s p then s
  else if op = 16 then
    let n := rdN d 1 2
    let k := rdN d 3 1
    if (connOf s p peer false).isSome then sendCm p peer [255, 1] s
    else if 8 ≤ (canPort s p).conns.length then sendCm p peer [255, 2] s
    else if n < 9 || 1785 < n || k ≠ (n + 6) / 7 then s
    else
      let w := min k (max 1 (rdN d 4 1))
      sendCm p peer ([17] ++ u8 w ++ [1])
        (updCan p (fun x => { x with conns := x.conns ++ [⟨peer, false, n, k, 1, w, [], s.clk.ms⟩] }) s)
  else if op = 17 then
    match connOf s p peer true with
    | some c =>
      let n := rdN d 1 1
      let first := rdN d 2 1
      if n = 0 then updConn p peer true (fun c => { c with since := s.clk.ms }) s
      else
        let last := min c.packets (first + n - 1)
        sendPackets p peer first last c.data (updConn p peer true (fun c => { c with next := last + 1, upto := last, since := s.clk.ms }) s)
    | none => s
  else if op = 19 then openTransfers p (dropConn p peer true s)
  else if op = 255 then
    (if (connOf s p peer true).isSome then abortConn p peer true s
     else if (connOf s p peer false).isSome then abortConn p peer false s else s)
  else s

/-- A data packet from a peer; the last one gives the message. -/
def dtHeard (p peer : Nat) (d : Bytes) (s : State) : State × Option Bytes :=
  match connOf s p peer false with
  | none => (s, none)
  | some c =>
    if rdN d 0 1 ≠ c.next then (abortConn p peer false (sendCm p peer [255, 7] s), none)
    else
      let data := c.data ++ slice d 1 7
      if c.next = c.packets then
        (openTransfers p (sendCm p peer ([19] ++ u16 c.size ++ u8 c.packets) (dropConn p peer false s)), some (data.take c.size))
      else if c.next = c.upto then
        let w := min (c.packets - c.next) (c.upto)
        (sendCm p peer ([17] ++ u8 w ++ u8 (c.next + 1))
          (updConn p peer false (fun c => { c with next := c.next + 1, upto := c.upto + w, data, since := s.clk.ms }) s), none)
      else (updConn p peer false (fun c => { c with next := c.next + 1, data, since := s.clk.ms }) s, none)

/-- TRANSPORT_TIMEOUT (R292): ISO 11783-3 gives 1,250 ms for the answer to RTS or the next packet after CTS, 750 ms between packets; a
transfer that has not moved for 1,250 ms is aborted (log entry 28). -/
def execTransportTimeout (port : Fin 4) (peer : Nat) (out : Bool) (s : State) : Host.Outcome State Fault Refusal :=
  .next (match connOf s port.val peer out with
    | some c => if elapsed s c.since 1250 || forced s detTransportAborted (port.val + 1) then
        abortConn port.val peer out (sendCm port.val peer [255, 3] s) else s
    | none => s)

/-! ### Reception -/

/-- The receive counter after a good frame: one less, or from above 127 a value of 119 to 127 (ISO 11898-1). -/
def rxErrAfter (n free : Nat) : Nat := if 127 < n then 119 + free % 9 else n - 1

/-- What the module does with a frame one of its filters matches: message-table signals, address claims and requests, transport. -/
def moduleReceive (p : Nat) (f : CanFrame) (s : State) : State × Option (Nat × Bytes) :=
  let s1 := stageSignals p f s
  let pf := f.id / 65536 % 256
  let ps := f.id / 256 % 256
  let sa := f.id % 256
  let x := canPort s p
  if !f.ext || f.rtr || f.fd || f.id / 16777216 % 4 ≠ 0 then (s1, none)
  else if pf = 0xEE && paramN s (pCnClaim p) = 1 && f.len = 8 then (claimHeard p sa (rdN f.data 0 8) s1, none)
  else if pf = 0xEA && (ps = 255 || ps = x.addr) && x.claim != .inactive && rdN f.data 0 3 = 0xEE00 then (sendClaim p s1, none)
  else if pf = 0xEC && ps = x.addr && f.len = 8 then (cmHeard p sa f.data s1, none)
  else if pf = 0xEB && ps = x.addr && f.len = 8 then
    let r := dtHeard p sa f.data s1
    (r.1, r.2.map (fun b => (256 * p + sa, b)))
  else (s1, none)

/-- A received frame (R284, R285, R288 to R292): the state, and the mailbox message whose transfer it completes, with its peer. -/
def canReceive (p : Nat) (f : CanFrame) (cycle err : Nat) (s : State) : State × Option (Nat × Bytes) :=
  let x := canPort s p
  if x.st ≠ .errorActive && x.st ≠ .errorPassive && x.st ≠ .listenOnly then (s, none)
  else if err ≠ 0 then
    (if x.st = .listenOnly then s else canJudge p (updCan p (fun x => { x with rxErr := x.rxErr + err }) s), none)
  else if f.fd && !canFd s p then (updCan p (fun x => { x with fdDiscards := wrapU 32 (x.fdDiscards + 1) }) s, none)
  else
    let n := freshNat s
    let s1 := updCan p (fun x => { x with received := wrapU 32 (x.received + 1)
                                          rxErr := if x.st = .listenOnly then x.rxErr else rxErrAfter x.rxErr n.1 }) n.2
    let s2 := canJudge p s1
    let r := if x.mods.any (filterHits f) then moduleReceive p f s2 else (s2, none)
    (hostReceive p f cycle r.1, r.2)

/-! ### Commands (Table 10-7) -/

/-- The code of a controller state. -/
def ctrlCode (c : CtrlSt) : Nat :=
  match c with
  | .disabled => 0 | .integrating => 1 | .errorActive => 2 | .errorPassive => 3 | .busOff => 4 | .listenOnly => 5

/-- The code of a claim state. -/
def claimCode (c : ClaimSt) : Nat := match c with | .inactive => 0 | .claiming => 1 | .claimed => 2 | .cannotClaim => 3

/-- An entry of CN_STATUS. -/
def canEntry (x : CanPort) : Bytes :=
  u8 (ctrlCode x.st) ++ u8 (min 255 x.txErr) ++ u8 (min 255 x.rxErr) ++ u8 (claimCode x.claim) ++
    u8 (if x.claim = .claimed then x.addr else 254) ++ u8 x.queue.length ++ u16 x.busOffs ++ u32 x.sent ++ u32 x.received ++
    u16 x.overflows ++ u16 x.noteDrops ++ u16 x.collisions ++ u16 x.arbLosses ++ u16 x.replaced ++ u16 x.overwritten ++ u16 x.aborts ++
    u16 x.hostDrops ++ u32 x.loopDelay ++ zeros 4

/-- CN_STATUS (Table 10-7). -/
def bodyCnStatus : Body := emptyPayload fun _ s => ans s stOk ((List.range 4).map (fun p => canEntry (canPort s p))).flatten

/-- Whether a function of a port's message table is ENABLED or in RAMP (R295). -/
def portBusy (s : State) (p : Nat) : Bool :=
  (canEntries s p 1).any (fun e => s.pf.work.funcs.any (fun f =>
    rdN f 1 1 == 5 && rdN f 2 1 == rdN e 0 1 && ((fnOf s (rdN f 0 1)).st == .enabled || (fnOf s (rdN f 0 1)).st == .ramp)))

/-- The port of a CN_CONFIG request, whose payload is 4 bytes. -/
def cnConfigPort (c : Ctx) : Option Nat :=
  let p := rdN c.payload 0 1
  if c.payload.length ≠ 4 || p = 0 || 4 < p || !resZero c.payload 2 2 then none else some (p - 1)

/-- CN_CONFIG RESTART (R295). -/
def bodyCnConfigRestart : Body := withOp 1 1 fun c s =>
  match cnConfigPort c with
  | none => ans s stBadArg
  | some p =>
    if portBusy s p then ans s stRefusedState
    else
      let s1 := canRestart p s
      ans s1 stOk (u8 (ctrlCode (canPort s1 p).st))

/-- CN_CONFIG RECLAIM (Table 10-6): from CANNOT_CLAIM the port claims CN.ADDR_n again. -/
def bodyCnConfigReclaim : Body := withOp 1 2 fun c s =>
  match cnConfigPort c with
  | none => ans s stBadArg
  | some p =>
    let s1 := if (canPort s p).claim = .cannotClaim then claimNow p (paramN s (pCnAddr p)) s else s
    ans s1 stOk (u8 (ctrlCode (canPort s1 p).st))

/-- Whether a data length is valid for a frame type (R276). -/
def lengthOk (fd : Bool) (n : Nat) : Bool := decide (n ≤ 8) || (fd && [12, 16, 20, 24, 32, 48, 64].contains n)

/-- The frame that a CN_SEND payload, after the prefix, describes; bit 5 of its flags takes the claimed address (Table 10-7). -/
def sendFrame (s : State) (b : Bytes) : CanFrame :=
  let p := rdN b 0 1 - 1
  let fl := rdN b 1 1
  let id := rdN b 4 4
  { ext := bit fl 0, fd := bit fl 1, brs := bit fl 2, esi := bit fl 3, rtr := bit fl 4, len := rdN b 2 1, data := b.drop 8,
    id := if bit fl 5 then id / 256 * 256 + (canPort s p).addr else id }

/-- What makes a CN_SEND a BAD_ARG (R295 and Table 10-7). -/
def sendBad (s : State) (b : Bytes) : Bool :=
  let p := rdN b 0 1 - 1
  let fl := rdN b 1 1
  let f := sendFrame s b
  decide (b.length < 8) || rdN b 0 1 == 0 || decide (4 < rdN b 0 1) || decide (64 ≤ fl) || !resZero b 3 1 || !lengthOk f.fd f.len ||
    (if f.rtr then b.length != 8 else b.length != 8 + f.len) || (f.fd && !canFd s p) || (f.fd && f.rtr) || (!f.fd && (f.brs || f.esi)) ||
    decide ((if f.ext then 2 ^ 29 else 2 ^ 11) ≤ rdN b 4 4) || (bit fl 5 && (canPort s p).claim != .claimed) ||
    (canEntries s p 1).any (fun e => bit (rdN e 3 1) 0 == f.ext && txId s p e == f.id)

/-- CN_SEND (R281, R295): a handle at acceptance, the frame into the queue at its frame of application. -/
def bodyCnSend : Body := timedBody
  (fun c s =>
    let b := c.payload.drop 12
    let p := rdN b 0 1 - 1
    if sendBad s b then some (stBadArg, [])
    else if (canPort s p).st = .disabled || (canPort s p).st = .listenOnly || s.gr.mode = .safe || (inPs s && p != 0) then
      some (stRefusedState, [])
    else if 64 ≤ (canPort s p).queue.length then some (stNoResource, [])
    else none)
  (fun _ t s =>
    let h := s.cn.nextHandle
    ({ s with cn := { s.cn with nextHandle := wrapU 32 (h + 1), handles := s.cn.handles ++ [(t.order, h)] } }, u32 h ++ u64 t.frame))

/-- CN_SEND at its frame of application: a class 3 frame is queued, unless its port is DISABLED by then. -/
def applyCnSend (t : TCmd) (s : State) : State :=
  let p := rdN t.payload 0 1 - 1
  let s1 := { s with cn := { s.cn with handles := s.cn.handles.filter (fun h => h.1 != t.order) } }
  match getKey t.order s.cn.handles with
  | some h =>
    if (canPort s p).st = .disabled then updCan p (fun x => { x with hostDrops := satU 16 (x.hostDrops + 1) }) s1
    else canQueue p ⟨sendFrame s t.payload, 3, h, none, bit (rdN t.payload 1 1) 5, 0⟩ s1
  | none => s1

/-- Where a host frame is: in the queue of a port, or in a buffer of one. -/
def handleQueue (s : State) (h : Nat) : Option Nat := (List.range 4).find? (fun p => (canPort s p).queue.any (fun t => t.handle == h))

/-- The port and buffer that hold a host frame. -/
def handleBuf (s : State) (h : Nat) : Option (Nat × Nat) :=
  (List.range 4).findSome? (fun p =>
    ((canPort s p).bufs.findIdx? (fun b => b.any (fun x => x.tx.handle == h))).map (fun i => (p, i)))

/-- CN_CANCEL (R283). Whether the buffer next to arbitrate is already past the sample point of its last arbitration bit is the wire's
state at that instant, and free; a late cancel marks the frame and is answered when the attempt ends. -/
def bodyCnCancel : Body := fun c s =>
  let h := rdN c.payload 0 4
  if c.payload.length ≠ 4 || h = 0 then ans s stBadArg
  else if s.cn.sentHandles.contains h then ans s stTooLate (u8 1 ++ zeros 3)
  else match s.cn.handles.find? (fun x => x.2 == h) with
    | some x =>
      ans { s with
        mb := { s.mb with exch := s.mb.exch.filter (fun t => t.order != x.1) },
        cn := { s.cn with handles := s.cn.handles.filter (fun y => y.2 != h) } } stOk (zeros 4)
    | none => match handleQueue s h, handleBuf s h with
      | some p, _ => ans (updCan p (fun x => { x with queue := x.queue.filter (fun t => t.handle != h) }) s) stOk (zeros 4)
      | none, some (p, i) =>
        let past := freshBool s
        if nextBuf s p = some i && canSends s p && past.1 then
          (updCan p (fun x => { x with bufs := updAt x.bufs i (fun b => b.map (fun y => { y with cancel := true })) }) past.2,
            .wait (.cancel p h))
        else ans (loadPort p (updCan p (fun x => { x with bufs := updAt x.bufs i (fun _ => none) }) past.2)) stOk (zeros 4)
      | none, none => ans s stBadArg

/-- CN_FILTER_SET (R284, Table 10-7). -/
def bodyCnFilterSet : Body := fun c s =>
  let b := c.payload
  let p := rdN b 0 1
  if b.length ≠ 12 || p = 0 || 4 < p || 15 < rdN b 1 1 || 2 < rdN b 2 1 || 1 < rdN b 3 1 then ans s stBadArg
  else
    let f : CanFilter := ⟨rdN b 4 4, rdN b 8 4, rdN b 3 1 == 1, rdN b 2 1⟩
    ans (updCan (p - 1) (fun x => { x with host := updAt x.host (rdN b 1 1) (fun _ => f) }) s) stOk

end Sys2Proof.Machine
end

