-- ==== Sys2Proof/Machine/CropFlow.lean ====
section
/-!
DEFINITION. Machine/CropFlow.lean: crop-flow signals and loss estimation inside the lanes (R143 to R149), live flow
calibration and the weighed load (R150 to R153), the transport delay (R154, R155), the slope limit (R156), moisture
supervision, the calibration commands (R167) and CF_STATUS.
-/

namespace Sys2Proof.Machine

/-! ### Signals -/

/-- The active crop index (R147). -/
def cropIdx (s : State) : Nat := s.qz.crop

/-- The flow gain of the active crop, CF.FLOW_GAIN_Cn. -/
def flowGain (s : State) : Int := param s (pCfFlowGain (cropIdx s))

/-- R144: the mass flow from the two bridges; none when neither is valid. -/
def massFlow (s1 s2 : Int) (v1 v2 : Bool) (zero gain fmin : Int) : Option Int :=
  if !v1 && !v2 then none
  else
    let sum := if v1 && v2 then s1 + s2 else if v1 then 2 * s1 else 2 * s2
    let f := fxMul (sat32 (sum - zero)) gain 20
    some (if f < fmin then 0 else f)

/-- R145: the moisture of the active crop from the valid cells. -/
def moistureOf (m1 m2 : Int) (v1 v2 : Bool) (gain off : Int) : Option Int :=
  if !v1 && !v2 then none
  else
    let v := if v1 && v2 then Int.tdiv (m1 + m2) 2 else if v1 then m1 else m2
    some (sat32 (fxMul v gain 16 + off))

/-- The plates of a role, and those of them that can report in the window: FRESH, neither FAULT nor NO_COVERAGE (R148). -/
def groupPlates (s : State) (role : Nat) : List Nat × List Nat :=
  let all := (List.range 32).filter (fun ch => paramN s (pQzRole ch) == role)
  (all, all.filter (fun ch =>
    let e := nth s.gr.cur.quartz.entries ch ⟨0, 0, 0, 0, 0, 0, 0, 0, 0, 0, 0, 0, 0⟩
    s.gr.cur.quartz.fresh && !bit e.flags 0 && !bit e.flags 6))

/-- What a plate adds to its group's window: GRAIN_C, and for role 3 all three classes (R148). -/
def plateCount (s : State) (role ch : Nat) : Nat :=
  let e := nth s.gr.cur.quartz.entries ch ⟨0, 0, 0, 0, 0, 0, 0, 0, 0, 0, 0, 0, 0⟩
  if role = 3 then e.grainC + e.mogC + e.unknownC else e.grainC

/-- A cleared loss group with a ring of `w` entries (R149). -/
def groupCleared (w : Nat) : LossGroup := ⟨List.replicate w 0, List.replicate w false, 0, 0, 0, 0, 0⟩

/-- R148: one frame of a loss group. -/
def groupStep (s : State) (role : Nat) (g : LossGroup) : LossGroup :=
  let p := groupPlates s role
  let w := g.ring.length
  let wv := if p.2.isEmpty then g.lastWv
    else (p.2.foldl (fun a ch => a + plateCount s role ch) 0) * p.1.length / p.2.length
  { ring := g.ring.set g.idx wv, bridged := g.bridged.set g.idx p.2.isEmpty, idx := if w ≤ g.idx + 1 then 0 else g.idx + 1,
    sum := g.sum + wv - nth g.ring g.idx 0, lastWv := wv, frames := g.frames + 1,
    uncovered := if p.2.isEmpty && !p.1.isEmpty then g.uncovered + 1 else 0 }

/-- Whether a group is fresh (R149). -/
def groupFresh (g : LossGroup) : Bool :=
  decide (g.ring.length ≤ g.frames) && decide (g.bridged.count true < g.ring.length / 4)

/-- The impact rate of a group, impacts/s in Q16.16 (R148). -/
def groupRate (g : LossGroup) : Nat := if g.ring.length = 0 then 0 else g.sum * 1000 / g.ring.length

/-- The loss rate in mg/s (R148). -/
def lossRate (g : LossGroup) (kernel factor : Nat) : Int := sat32 (groupRate g * kernel * factor / 6553600000 : Nat)

/-- The loss ratio in 0.01 % of the mass flow; held while there is no flow (R148). -/
def lossRatio (rate flow held : Int) : Int := if 0 < flow then min 10000 (rate * 10 / flow) else held

/-- A signal's value in a frame: fresh with its new value, or held with its age (R143). -/
def sigStep (v : SensVal) (new : Option Int) : SensVal :=
  match new with
  | some x => { v with raw := x, fresh := true, age := 0 }
  | none => { v with fresh := false, age := min 255 (v.age + 1) }

/-- Signal `n` of Table 5-1 as last computed. -/
def sig (s : State) (n : Nat) : SensVal := nth s.cf.sigs (n - 1) ⟨n, 0, false, 255⟩

/-- CROP_FLOW_SIGNALS and LOSS_ESTIMATE within FRAME_START (R143 to R149): every lane computes the nine signals from the
released record. -/
def cropSignals (s : State) : State :=
  let b1 := inputOf s 5 1
  let b2 := inputOf s 5 2
  let flow := massFlow b1.1 b2.1 b1.2 b2.2 (param s pCfFlowZero) (flowGain s) (param s pCfFlowMin)
  let ts := [3, 4, 5, 6].map (inputOf s 5)
  let tank := if ts.all (·.2) then some (sat32 ((ts.map (·.1)).sum - param s pCfTankTare)) else none
  let m1 := inputOf s 6 1
  let m2 := inputOf s 6 2
  let n := cropIdx s
  let moist := moistureOf m1.1 m2.1 m1.2 m2.2 (param s (pCfMoistGain n)) (param s (pCfMoistOffset n))
  let gs := s.cf.groups.zipIdx.map (fun p => groupStep s (p.2 + 1) p.1)
  let g := fun k => nth gs k (groupCleared 0)
  let kernel := paramN s (pCfKernelMass n)
  let r7 := lossRate (g 0) kernel (paramN s pCfLossFactorRotor)
  let r8 := lossRate (g 1) kernel (paramN s pCfLossFactorSieve)
  let f := (sigStep (sig s 1) flow).raw
  let v4 := lossRatio r7 f (sig s 4).raw
  let v5 := lossRatio r8 f (sig s 5).raw
  let ok := fun k => groupFresh (g k)
  let when := fun (c : Bool) (v : Int) => if c then some v else none
  { s with cf := { s.cf with
      groups := gs
      degraded := b1.2 != b2.2
      sigs := [sigStep (sig s 1) flow, sigStep (sig s 2) tank, sigStep (sig s 3) moist, sigStep (sig s 4) (when (ok 0) v4),
        sigStep (sig s 5) (when (ok 1) v5), sigStep (sig s 6) (when (ok 0 && ok 1) (v4 + v5)),
        sigStep (sig s 7) (when (ok 0) r7), sigStep (sig s 8) (when (ok 1) r8),
        sigStep (sig s 9) (when (ok 2) (sat32 (groupRate (g 2) / 65536 : Nat)))] } }

/-- The loss groups are cleared: at profile activation and when CF.LOSS_WINDOW changes (R149). -/
def clearGroups (s : State) : State :=
  { s with cf := { s.cf with groups := List.replicate 3 (groupCleared (paramN s pCfLossWindow)) } }

/-- LOSS_GROUP_UNCOVERED (R149): every plate of the group has been unable to report for 1,000 frames. -/
def execLossGroupUncovered (role : Fin 3) (s : State) : Host.Outcome State Fault Refusal :=
  .next (if 1000 ≤ (nth s.cf.groups role (groupCleared 0)).uncovered || forced s detLossGroupUncovered (role + 1)
    then beginCond detLossGroupUncovered (role + 1) 0 s else s)

/-! ### Internal commands (R146) -/

/-- One PARAM_SET entry of 12 bytes. -/
def paramEntry (id : Nat) (v : Int) : Bytes := u32 id ++ slotOf v

/-- A value computed on the supervisor enters Granite by an internal command for frame A + 2 (R146). -/
def internalParams (vals : List (Nat × Int)) (s : State) : State :=
  let s1 := { s with cf := { s.cf with internal := wrapU 16 (s.cf.internal + 1) } }
  handOverInternal cParamSet (u8 vals.length ++ zeros 3 ++ vals.flatMap (fun v => paramEntry v.1 v.2)) (s.clk.frame + 2)
    s.cf.internal s1

/-- An optimizer step is a FUNCTION_SET internal command for frame A + 2 (R146, R157). -/
def internalSetpoint (f : Nat) (v : Int) (s : State) : State :=
  let s1 := { s with cf := { s.cf with internal := wrapU 16 (s.cf.internal + 1) } }
  handOverInternal cFunctionSet (u8 1 ++ zeros 3 ++ u8 f ++ zeros 3 ++ leI 4 v) (s.clk.frame + 2) s.cf.internal s1

/-- Whether the crop-flow firmware may issue internal commands: not during a replay (R146). -/
def internalAllowed (s : State) : Bool := s.rs.supUp && s.gr.replay.st != .running

/-! ### Conditions -/

/-- Whether the module is unloading (R150, condition 2). -/
def unloading (s : State) : Bool :=
  ((fnOf s 20).st == .enabled && (fnOf s 20).out != 0) ||
    (sensValid s (paramN s pCfUnloadSensor) && sensScaled s (paramN s pCfUnloadSensor) != 0)

/-- Whether the machine is level (R150, condition 3). -/
def level (s : State) : Bool :=
  gnssFresh s && decide (s.gr.cur.gnss.roll.natAbs ≤ 10 * paramN s pCfLevelLimit) &&
    decide (s.gr.cur.gnss.pitch.natAbs ≤ 10 * paramN s pCfLevelLimit)

/-- Whether the module is cutting: the sensor named by CF.CUT_SENSOR does not read above CF.CUT_HEIGHT (R162). -/
def cutting (s : State) : Bool :=
  paramN s pCfCutSensor == 255 || decide (sensScaled s (paramN s pCfCutSensor) ≤ param s pCfCutHeight)

/-- The gating conditions of R150. -/
def gating (s : State) : Bool :=
  paramN s pCfLiveCal == 1 && s.cf.cal.st != .load && !unloading s &&
    (match s.cf.cal.lastUnload with
      | some t => elapsed s t (1000 * paramN s pCfCalSettle)
      | none => true) &&
    level s && (sig s 1).fresh && (sig s 2).fresh && !s.cf.degraded && decide (200000 ≤ (sig s 2).raw) &&
    decide ((sig s 2).raw ≤ param s pCfTankMax) && (s.cf.cal.st == .disarmed || s.cf.cal.crop == cropIdx s)

/-- The tank mean: the mean of signal 2 over the last 2,000 frames, truncated (R150). -/
def tankMean (s : State) : Int := if s.cf.tank.isEmpty then 0 else Int.tdiv s.cf.tank.sum s.cf.tank.length

/-- The state with live calibration changed. -/
def updCal (f : LiveCal → LiveCal) (s : State) : State := { s with cf := { s.cf with cal := f s.cf.cal } }

/-- The flow that passed CF.TANK_LAG frames ago (R151). -/
def laggedFlow (s : State) : Int :=
  let lag := paramN s pCfTankLag
  if s.cf.flows.length ≤ lag then 0 else nth s.cf.flows (s.cf.flows.length - 1 - lag) 0

/-- Live calibration in one frame (Table 5-2): the gating conditions arm and disarm it, an interval sums the lagged flow,
and a weighed load accumulates signal 1 until the crop changes. -/
def calFrame (s : State) : State :=
  match s.cf.cal.st with
  | .disarmed => if gating s then updCal (fun c => { c with st := .settle, since := s.clk.ms, crop := cropIdx s }) s else s
  | .settle => if gating s then s else updCal (fun c => { c with st := .disarmed }) s
  | .measure =>
    if gating s then updCal (fun c => { c with fsum := c.fsum + laggedFlow s }) s
    else updCal (fun c => { c with st := .disarmed }) s
  | .load =>
    if s.cf.cal.crop = cropIdx s then updCal (fun c => { c with loadSum := c.loadSum + (sig s 1).raw }) s
    else
      let s1 := updCal (fun c => { c with st := .disarmed }) s
      { s1 with cf := { s1.cf with lastResult := 3 } }

/-! ### Live calibration events -/

/-- LIVE_CAL_SETTLE_DONE (Table 5-2): the conditions have held for CF.CAL_SETTLE; the interval starts. -/
def execLiveCalSettleDone (s : State) : Host.Outcome State Fault Refusal :=
  .next (if s.cf.cal.st = .settle && elapsed s s.cf.cal.since (1000 * paramN s pCfCalSettle)
    then updCal (fun c => { c with st := .measure, since := s.clk.ms, m0 := tankMean s, fsum := 0, crop := cropIdx s }) s
    else s)

/-- R152: the measured gain; none when it is rejected. -/
def calGain (gain dm fsum : Int) : Option Int :=
  if fsum ≤ 0 then none
  else
    let gm := Int.tdiv (gain * dm * 1000 + Int.tdiv fsum 2) fsum
    if 5 * gm < 4 * gain || 5 * gain < 4 * gm then none else some gm

/-- R152: the smoothed gain. -/
def calSmooth (gain gm : Int) (k : Nat) : Int := clampI 262144 4194304 (gain + (gm - gain) / (2 ^ k : Nat))

/-- A rejected interval is counted; the third in a row is recorded (R152). -/
def calReject (s : State) : State :=
  let s1 := updCal (fun c => { c with rejected := wrapU 16 (c.rejected + 1), rejRow := if c.rejRow + 1 = 3 then 0 else c.rejRow + 1 }) s
  if s.cf.cal.rejRow + 1 = 3 || forced s detFlowCalibrationRejected 0 then happen detFlowCalibrationRejected 0 0 s1 else s1

/-- A gain for a crop: an internal command carries it, and the crop is marked calibrated (R146, R152). -/
def setGain (crop : Nat) (gain : Int) (s : State) : State :=
  internalParams [(pCfFlowGain crop, gain)]
    { s with cf := { s.cf with calibrated := s.cf.calibrated ||| 2 ^ crop } }

/-- LIVE_CAL_INTERVAL_END (Table 5-2, R152): CF.CAL_INTERVAL has passed and the tank has gained CF.CAL_MIN_GAIN. -/
def execLiveCalIntervalEnd (s : State) : Host.Outcome State Fault Refusal :=
  let c := s.cf.cal
  let m1 := tankMean s
  .next (if c.st = .measure && elapsed s c.since (1000 * paramN s pCfCalInterval) && internalAllowed s &&
      decide (param s pCfCalMinGain ≤ m1 - c.m0)
    then
      let s1 := updCal (fun c => { c with since := s.clk.ms, m0 := m1, fsum := 0 }) s
      match (if forced s detFlowCalibrationRejected 0 then none else calGain (flowGain s) (m1 - c.m0) c.fsum) with
      | some gm => setGain c.crop (calSmooth (flowGain s) gm (paramN s pCfCalSmooth))
          (updCal (fun c => { c with accepted := wrapU 16 (c.accepted + 1), rejRow := 0 }) s1)
      | none => calReject s1
    else s)

/-- LIVE_CAL_TIMEOUT (Table 5-2): 4 × CF.CAL_INTERVAL without the gain; the interval counts as rejected. -/
def execLiveCalTimeout (s : State) : Host.Outcome State Fault Refusal :=
  .next (if s.cf.cal.st = .measure && elapsed s s.cf.cal.since (4000 * paramN s pCfCalInterval)
    then calReject (updCal (fun c => { c with st := .disarmed }) s) else s)

/-! ### Transport delay -/

/-- A series with its mean subtracted, the mean truncated. -/
def centred (l : List Int) : List Int :=
  let m := if l.isEmpty then 0 else Int.tdiv l.sum l.length
  l.map (fun x => x - m)

/-- c[k] of R154: Σ L[n − k] × Q[n] over the pairs inside both series. -/
def crossCorr (rotor flow : List Int) (k : Nat) : Int := (List.zipWith (· * ·) rotor (flow.drop k)).sum

/-- The lag with the largest c[k] among those allowed, the lowest on a tie (R154); none when no lag is allowed. -/
def bestLag (rotor flow : List Int) (ok : Nat → Bool) : Option (Nat × Int) :=
  (List.range 301).foldl (fun best k =>
    if ok k then
      let c := crossCorr rotor flow k
      match best with
      | some b => if b.2 < c then some (k, c) else some b
      | none => some (k, c)
    else best) none

/-- The sum of squares. -/
def sumSq (l : List Int) : Int := (l.map (fun x => x * x)).sum

/-- The correlation in 0.01 of a lag (CF_STATUS byte 26). -/
def corrPercent (c : Int) (rotor flow : List Int) : Nat :=
  let d := (sumSq rotor * sumSq flow).toNat
  if d = 0 then 0 else isqrt (10000 * (c * c).toNat / d)

/-- DELAY_ESTIMATE (R154, R155): every 10 s of cutting the delay is estimated; an accepted estimate moves CF.DELAY by at most
500 ms. -/
def delayEstimate (s : State) : State :=
  let l := centred s.cf.rotor10
  let q := centred s.cf.flow10
  let hd := paramN s pCfHeaderRotorDelay
  let ok := fun k => decide (paramN s pCfDelayMin ≤ hd + 100 * k) && decide (hd + 100 * k ≤ paramN s pCfDelayMax)
  let s0 := { s with cf := { s.cf with estFrames := 0 } }
  match bestLag l q ok with
  | some (k, c) =>
    if 0 < c ∧ 36 * (sumSq l * sumSq q) ≤ 100 * (c * c) then
      let d := param s pCfDelay
      let e : Int := (hd + 100 * k : Nat)
      writeSettings [(pCfDelay, d + clampI (-500) 500 (e - d))]
        (clearActive detDelayNotEstimable 0
          { s0 with cf := { s0.cf with corr := min 100 (corrPercent c l q), cutFrames := 0 } })
    else s0
  | none => s0

/-- DELAY_ESTIMATE. -/
def execDelayEstimate (s : State) : Host.Outcome State Fault Refusal :=
  .next (if s.rs.supUp && cutting s && 10000 ≤ s.cf.estFrames && s.cf.flow10 != [] &&
      decide (param s pCfFlowMin ≤ Int.tdiv s.cf.flow10.sum s.cf.flow10.length)
    then delayEstimate s else s)

/-- DELAY_NOT_ESTIMABLE (R155): 600 s of cutting without an accepted estimate. -/
def execDelayNotEstimable (s : State) : Host.Outcome State Fault Refusal :=
  .next (if 600000 ≤ s.cf.cutFrames || forced s detDelayNotEstimable 0 then beginCond detDelayNotEstimable 0 0 s else s)

/-- At a profile activation a CF.DELAY outside the new limits becomes CF.DELAY_INIT (R155). -/
def delayActivate (s : State) : State :=
  if param s pCfDelayMin ≤ param s pCfDelay ∧ param s pCfDelay ≤ param s pCfDelayMax then s
  else writeSettings [(pCfDelay, param s pCfDelayInit)] s

/-! ### Slope limit and moisture -/

/-- R156: CF.SLOPE_LIMIT from the mean slope in 0.1°. -/
def slopeLimit (vmin vmax start gain slope : Int) : Int := max vmin (vmax - max 0 (slope - start) * gain)

/-- SLOPE_LIMIT_UPDATE (R156): once per second, at frames that are multiples of 1,000. -/
def execSlopeLimitUpdate (s : State) : Host.Outcome State Fault Refusal :=
  .next (if s.clk.frame % 1000 = 0 && internalAllowed s
    then
      let slope : Int := if s.cf.slopeN = 0 then 0 else (s.cf.slopeSum / s.cf.slopeN / 10 : Nat)
      let v := if gnssFresh s
        then slopeLimit (param s pCfSlopeVmin) (param s pCfSlopeVmax) (param s pCfSlopeStart) (param s pCfSlopeGain) slope
        else param s pCfSlopeVmin
      internalParams [(pCfSlopeLimit, v)] { s with cf := { s.cf with slopeSum := 0, slopeN := 0 } }
    else s)

/-- MOISTURE_CELL_INVALID: a declared moisture cell has been invalid for 60 s while cutting. -/
def execMoistureCellInvalid (cell : Fin 2) (s : State) : Host.Outcome State Fault Refusal :=
  .next (if (sensOf s 6 (cell + 1)).isSome && 60000 ≤ nth s.cf.moistBad cell 0
    then beginCond detMoistureCellInvalid (cell + 1) ((inputOf s 6 (cell + 1)).1.toNat) s else s)

/-- The moisture cells in one frame: frames invalid while cutting, and the end of the condition. -/
def moistFrame (s : State) : State :=
  let bad := (List.range 2).map (fun c =>
    if (inputOf s 6 (c + 1)).2 then 0 else if cutting s then nth s.cf.moistBad c 0 + 1 else nth s.cf.moistBad c 0)
  let s1 := { s with cf := { s.cf with moistBad := bad } }
  (List.range 2).foldl (fun st c =>
    if isPresent st detMoistureCellInvalid (c + 1) && nth bad c 0 = 0 then clearActive detMoistureCellInvalid (c + 1) st else st) s1

/-! ### Averaging and the supervisor's view of each frame -/

/-- Whether the conditions of an averaging period still hold (R167). -/
def avgHolds (s : State) (op : Nat) : Bool := if op = 1 then !cutting s else stationary s && level s

/-- One frame of an averaging period: it adds s1 + s2 or the tank weight, or ends with result 3 (R167). -/
def avgFrame (s : State) : State :=
  match s.cf.avg with
  | none => s
  | some a =>
    if avgHolds s a.op then
      let v := if a.op = 1 then (inputOf s 5 1).1 + (inputOf s 5 2).1
        else ([3, 4, 5, 6].map (fun k => (inputOf s 5 k).1)).sum
      { s with cf := { s.cf with avg := some { a with sum := a.sum + v, frames := a.frames + 1 } } }
    else { s with cf := { s.cf with avg := none, lastOp := a.op, lastResult := 3 } }

/-- CALIBRATION_AVERAGE_DONE (R167): after 10 s (FLOW_ZERO) or 5 s (TANK_TARE) the mean is set by internal command. -/
def execCalibrationAverageDone (s : State) : Host.Outcome State Fault Refusal :=
  .next (match s.cf.avg with
    | none => s
    | some a =>
      if (if a.op = 1 then 10000 else 5000) ≤ a.frames && internalAllowed s then
        internalParams [(if a.op = 1 then pCfFlowZero else pCfTankTare, Int.tdiv a.sum a.frames)]
          { s with cf := { s.cf with avg := none, lastOp := a.op, lastResult := 0 } }
      else s)

/-- The 10 Hz series of the delay estimate: every 100 frames one mean of rotor load and one of mass flow (R154). -/
def seriesFrame (s : State) : State :=
  let r := s.cf.rotorSum + sensScaled s (paramN s pCfRotorLoadSensor)
  let f := s.cf.flowSum + (sig s 1).raw
  if 99 ≤ s.cf.tenth then
    { s with cf := { s.cf with tenth := 0, rotorSum := 0, flowSum := 0, rotor10 := pushRing 1200 s.cf.rotor10 (Int.tdiv r 100),
                               flow10 := pushRing 1200 s.cf.flow10 (Int.tdiv f 100) } }
  else { s with cf := { s.cf with tenth := s.cf.tenth + 1, rotorSum := r, flowSum := f } }

/-- What the supervisor keeps of each frame's signals: the tank ring, the flow delay line, the delay series, cutting time,
slope, unloading, moisture, averaging and live calibration. -/
def cropFrame (s : State) : State :=
  let g := s.gr.cur.gnss
  let cut := cutting s
  let s1 := { s with cf := { s.cf with
      tank := if (sig s 2).fresh then pushRing 2000 s.cf.tank (sig s 2).raw else s.cf.tank
      flows := pushRing 20001 s.cf.flows (sig s 1).raw
      cutFrames := if cut then s.cf.cutFrames + 1 else s.cf.cutFrames
      estFrames := if cut then s.cf.estFrames + 1 else s.cf.estFrames
      slopeSum := s.cf.slopeSum + max g.roll.natAbs g.pitch.natAbs
      slopeN := s.cf.slopeN + 1
      cal := if unloading s then { s.cf.cal with lastUnload := some s.clk.ms } else s.cf.cal } }
  calFrame (avgFrame (moistFrame (seriesFrame s1)))

/-! ### CF_CALIBRATE -/

/-- The request of CF_CALIBRATE with an operation: W_act must be 0 but for LOAD_END; refused in PS (R167). -/
def calRequest (op : Nat) (act : Nat → State → State × Reply) : Body := withOp 0 op fun c s =>
  let p := c.payload
  if p.length ≠ 8 || !resZero p 1 3 || (op ≠ 4 && rdN p 4 4 ≠ 0) then ans s stBadArg
  else if inPs s then ans s stRefusedState
  else act (rdN p 4 4) s

/-- The response of CF_CALIBRATE: result, value set, accumulated mass in grams. -/
def calReply (s : State) (result : Nat) (value mass : Int) : State × Reply :=
  ans s stOk (u8 result ++ zeros 3 ++ leI 4 value ++ leI 4 mass)

/-- The last CF_CALIBRATE operation and its result (CF_STATUS bytes 54–55). -/
def calDone (op result : Nat) (s : State) : State := { s with cf := { s.cf with lastOp := op, lastResult := result } }

/-- CF_CALIBRATE FLOW_ZERO (R167): refused while cutting; averages over 10 s. -/
def bodyCfCalibrateFlowZero : Body := calRequest 1 fun _ s =>
  if cutting s then ans s stRefusedState
  else
    let s1 := calDone 1 1 s
    calReply { s1 with cf := { s1.cf with avg := some ⟨1, 0, 0⟩ } } 1 0 0

/-- CF_CALIBRATE TANK_TARE (R167): stationary and level; averages over 5 s. -/
def bodyCfCalibrateTankTare : Body := calRequest 2 fun _ s =>
  if !stationary s || !level s then ans s stRefusedState
  else
    let s1 := calDone 2 1 s
    calReply { s1 with cf := { s1.cf with avg := some ⟨2, 0, 0⟩ } } 1 0 0

/-- CF_CALIBRATE LOAD_BEGIN (R153): a weighed load starts. -/
def bodyCfCalibrateLoadBegin : Body := calRequest 3 fun _ s =>
  calReply (updCal (fun c => { c with st := .load, since := s.clk.ms, loadSum := 0, crop := cropIdx s }) (calDone 3 1 s)) 1 0 0

/-- R153: the gain of a weighed load; none when it lies outside half to twice the present gain. -/
def loadGain (gain wact wacc : Int) : Option Int :=
  if wacc ≤ 0 then none
  else
    let gm := Int.tdiv (gain * wact + Int.tdiv wacc 2) wacc
    if gain ≤ 2 * gm ∧ gm ≤ 2 * gain then some gm else none

/-- CF_CALIBRATE LOAD_END (R153): the weighbridge gain is applied without smoothing, or result 2. -/
def bodyCfCalibrateLoadEnd : Body := calRequest 4 fun wact s =>
  if s.cf.cal.st ≠ .load then ans s stRefusedState
  else
    let wacc := Int.tdiv s.cf.cal.loadSum 1000
    let s1 := updCal (fun c => { c with st := .disarmed }) s
    match loadGain (flowGain s) wact wacc with
    | some gm => calReply (setGain s.cf.cal.crop (clampI 262144 4194304 gm) (calDone 4 0 s1)) 0 (clampI 262144 4194304 gm) wacc
    | none => calReply (calDone 4 2 s1) 2 (flowGain s) wacc

/-- CF_CALIBRATE LOAD_ABORT (R153). -/
def bodyCfCalibrateLoadAbort : Body := calRequest 5 fun _ s =>
  if s.cf.cal.st ≠ .load then ans s stRefusedState
  else calReply (updCal (fun c => { c with st := .disarmed }) (calDone 5 0 s)) 0 0 (Int.tdiv s.cf.cal.loadSum 1000)

/-- CF_CALIBRATE GAIN_RESET (R152): the active crop's gain returns to its default and its calibrated mark is cleared. -/
def bodyCfCalibrateGainReset : Body := calRequest 6 fun _ s =>
  let n := cropIdx s
  let g := paramDefault (pCfFlowGain n)
  let s1 := internalParams [(pCfFlowGain n, g)] (calDone 6 0 s)
  calReply { s1 with cf := { s1.cf with calibrated := s1.cf.calibrated &&& (255 - 2 ^ n) } } 0 g 0

/-- CF_CALIBRATE DELAY_RESET (R155): CF.DELAY becomes CF.DELAY_INIT. -/
def bodyCfCalibrateDelayReset : Body := calRequest 7 fun _ s =>
  calReply (writeSettings [(pCfDelay, param s pCfDelayInit)] (calDone 7 0 s)) 0 (param s pCfDelayInit) 0

end Sys2Proof.Machine
end

