-- ==== Sys2Proof/Machine/LoadSwitch.lean ====
section
/-!
DEFINITION. Machine/LoadSwitch.lean: the protected load switches (R196 to R219): turning on, protection, turning off, PWM and
lamp compensation, diagnosis, the dissipation budget, safe states and the LS commands. Channels are numbered from 0 inside the
model; instants are microseconds of the milliseconds the working clocks have run.
-/

namespace Sys2Proof.Machine

/-! ### Channels and ratings -/

/-- Load switch `ch`. -/
def lsChan (s : State) (ch : Nat) : LsChan := nth s.ls.chans ch lsChan0

/-- The state with one load switch changed. -/
def updLs (ch : Nat) (f : LsChan → LsChan) (s : State) : State := { s with ls := { s.ls with chans := updAt s.ls.chans ch f } }

/-- Whether a channel is heavy, LS1–LS8 (Table 7-1). -/
def lsHeavy (ch : Nat) : Bool := decide (ch < 8)

/-- The nominal current in mA (Table 7-1). -/
def lsNominal (ch : Nat) : Nat := if lsHeavy ch then 10000 else 5000

/-- The linear current limit in mA, in normal service or in the inrush window (Table 7-1). -/
def lsLimit (ch : Nat) (inrush : Bool) : Nat :=
  if lsHeavy ch then (if inrush then 30000 else 20000) else (if inrush then 15000 else 10000)

/-- The single-pulse clamp rating in mJ (Table 7-1). -/
def lsClampRating (ch : Nat) : Nat := if lsHeavy ch then 150 else 60

/-- The channels of a thermal group (Table 7-1). -/
def lsGroup (ch : Nat) : List Nat :=
  if lsHeavy ch then [2 * (ch / 2), 2 * (ch / 2) + 1] else (List.range 4).map (fun k => 4 * (ch / 4) + k)

/-- The on-resistance in µΩ at a junction temperature. -/
def lsOhm (ch : Nat) (tj : Int) : Nat :=
  if tj = 250 then (if lsHeavy ch then 8000 else 16000) else Config.lsResistance (lsHeavy ch) tj

/-- The function-table entry that owns a load switch (R198). -/
def lsOwner (s : State) (ch : Nat) : Option Bytes :=
  s.pf.work.funcs.find? (fun e => (rdN e 1 1 == 3 || rdN e 1 1 == 4) && rdN e 2 1 == ch + 1)

/-- Whether a channel is a lamp channel (R198). -/
def lsLamp (s : State) (ch : Nat) : Bool := paramN s (pLsLamp ch) == 1

/-- The mode of a channel: 0 off, 1 switched, 2 PWM (R198). -/
def lsMode (s : State) (ch : Nat) : Nat :=
  match lsOwner s ch with
  | some e => rdN e 1 1 - 2
  | none => paramN s (pLsMode ch)

/-- Whether D9 runs the channel by PWM: its mode, or a switched lamp channel (R211). -/
def lsPwm (s : State) (ch : Nat) : Bool := lsMode s ch == 2 || (lsMode s ch == 1 && lsLamp s ch)

/-- Whether a channel belongs to stop group B (R198). -/
def lsGroupB (s : State) (ch : Nat) : Bool :=
  match lsOwner s ch with
  | some e => bit (rdN e 3 1) 2
  | none => false

/-- Whether the gate supply of a channel is on. -/
def lsGate (s : State) (ch : Nat) : Bool :=
  s.an.gate && !s.an.vbatOut && !inPs s && !(if lsGroupB s ch then s.an.stopB else s.an.stopA) && s.gr.replay.st != .running

/-- Whether a channel is in its inrush window. -/
def inInrush (c : LsChan) (t : Nat) : Bool :=
  match c.inrush with
  | some e => decide (t < e)
  | none => false

/-! ### Turning on and off -/

/-- A turn-on (R199 to R201): in the start-up phase when it is armed, else in normal service with an inrush window, which a
PWM channel opens at its first on-edge. -/
def turnOn (ch t : Nat) (s : State) : State :=
  let pwm := lsPwm s ch
  updLs ch (fun c =>
    let b := { c with since := t, limitAt := none, limitEnd := none, queued := false, cause := 0
                      turnOns := wrapU 32 (c.turnOns + 1), applied := if pwm then 0 else 10000 }
    if c.armed then { b with st := .start, armed := false, startup := true, retries := 8, inrush := none, edge := false }
    else { b with st := .on, startup := false, inrush := if pwm then none else some (t + 1000 * paramN s (pLsInrush ch))
                  edge := pwm }) s

/-- A turn-off: the switch opens and DEMAG begins (R207). -/
def turnOff (ch t : Nat) (shed : Bool) (s : State) : State :=
  detect detOverCurrent (ch + 1) false 0 (updLs ch (fun c => { c with
    st := .demag, since := t, applied := 0, inrush := none, edge := false, startup := false, limitAt := none, queued := false
    toShed := shed, tjOff := c.tj }) s)

/-- An on-request reaches a channel (Table 7-2, R209). -/
def lsOn (ch duty t : Nat) (s : State) : State :=
  let s1 := updLs ch (fun c => { c with req := true, duty := duty }) s
  match (lsChan s ch).st with
  | .off => if lsGate s ch then turnOn ch t s1 else s1
  | .demag => updLs ch (fun c => { c with queued := true, toShed := false }) s1
  | _ => s1

/-- An off-request reaches a channel (Table 7-2, R209). -/
def lsOff (ch t : Nat) (s : State) : State :=
  let s1 := updLs ch (fun c => { c with req := false, duty := 0, host := none }) s
  match (lsChan s ch).st with
  | .on | .limit | .start | .retryWait => turnOff ch t false s1
  | .demag => updLs ch (fun c => { c with queued := false, toShed := false }) s1
  | .cool | .shed => detect detCoupledShutdown (ch + 1) false 0 (updLs ch (fun c => { c with st := .off })
      { s1 with ls := { s1.ls with shed := s1.ls.shed.filter (· != ch) } })
  | .off | .latched => s1

/-- A channel latches with a cause. -/
def lsLatch (ch cause : Nat) (s : State) : State :=
  updLs ch (fun c => { c with st := .latched, cause, applied := 0, inrush := none, edge := false, startup := false, limitAt := none
                              queued := false }) s

/-- A start-up attempt fails (R201): RETRY_WAIT while budget remains, else LATCHED with retries exhausted. -/
def attemptFails (ch : Nat) (s : State) : State :=
  if (lsChan s ch).retries = 0 || forced s detRetriesExhausted (ch + 1) then beginCond detRetriesExhausted (ch + 1) 3 (lsLatch ch 3 s)
  else updLs ch (fun c => { c with st := .retryWait, applied := 0, limitAt := none }) s

/-! ### Protection events -/

/-- INRUSH_WINDOW_END (R199): the normal-service limit applies. -/
def execInrushWindowEnd (ch : Fin 24) (us : Fin 1000) (s : State) : Host.Outcome State Fault Refusal :=
  .next (updLs ch (fun c => if inInrush c (usNow s us) then c else { c with inrush := none }) s)

/-- CURRENT_LIMIT_ENTRY (R203): over-current is recorded outside the inrush window and the start-up phase. -/
def execCurrentLimitEntry (ch : Fin 24) (us : Fin 1000) (ma : Nat) (s : State) : Host.Outcome State Fault Refusal :=
  let t := usNow s us
  let c := lsChan s ch
  .next (if lsLimit ch (inInrush c t) < ma || forced s detOverCurrent (ch + 1) then
    match c.st with
    | .on =>
      let s1 := updLs ch (fun c => { c with st := .limit, limitAt := some t, ma := ma }) s
      if inInrush c t then s1 else beginCond detOverCurrent (ch + 1) 0 s1
    | .start => updLs ch (fun c => { c with limitAt := if c.limitAt.isSome then c.limitAt else some t, ma := ma }) s
    | .limit => if isPresent s detOverCurrent (ch + 1) then beginCond detOverCurrent (ch + 1) 0 s else s
    | _ => s
    else s)

/-- CURRENT_LIMIT_EXIT (R203). -/
def execCurrentLimitExit (ch : Fin 24) (us : Fin 1000) (ma : Nat) (s : State) : Host.Outcome State Fault Refusal :=
  let t := usNow s us
  let c := lsChan s ch
  .next (if ma < lsLimit ch (inInrush c t) && !forced s detOverCurrent (ch + 1) && c.limitAt.isSome then
    match c.st with
    | .limit => detect detOverCurrent (ch + 1) false 0
        (updLs ch (fun c => { c with st := .on, limitAt := none, limitEnd := some t, ma := ma }) s)
    | .start => updLs ch (fun c => { c with limitAt := none, limitEnd := some t, ma := ma }) s
    | _ => s
    else s)

/-- START_ATTEMPT_FAIL (R201): in limit for LS.RETRY_ON_n without a break. -/
def execStartAttemptFail (ch : Fin 24) (us : Fin 1000) (s : State) : Host.Outcome State Fault Refusal :=
  .next (match (lsChan s ch).st, (lsChan s ch).limitAt with
    | .start, some l => if l + paramN s (pLsRetryOn ch) ≤ usNow s us then attemptFails ch s else s
    | _, _ => s)

/-- START_ATTEMPT_SUCCESS (R201): 10 ms without failing; normal service without an inrush window. -/
def execStartAttemptSuccess (ch : Fin 24) (us : Fin 1000) (s : State) : Host.Outcome State Fault Refusal :=
  .next (if (lsChan s ch).st = .start && decide ((lsChan s ch).since + 10000 ≤ usNow s us) then
    updLs ch (fun c => { c with st := if c.limitAt.isSome then .limit else .on, startup := false }) s else s)

/-- RETRY_WAIT_END (R201, R202): 10 ms after the start of the failed attempt, with the junction at or below 155 °C. -/
def execRetryWaitEnd (ch : Fin 24) (us : Fin 1000) (tj : Int) (s : State) : Host.Outcome State Fault Refusal :=
  let t := usNow s us
  .next (if (lsChan s ch).st = .retryWait && decide ((lsChan s ch).since + 10000 ≤ t) && decide (tj ≤ 1550) && lsGate s ch then
    updLs ch (fun c => { c with st := .start, since := t, retries := c.retries - 1, hot := false, tj, limitAt := none
                                applied := if lsPwm s ch then 0 else 10000 }) s else s)

/-- Whether a channel was in limit in the 1 ms before an instant (R204). -/
def limitedLately (c : LsChan) (t : Nat) : Bool :=
  c.limitAt.isSome || (match c.limitEnd with | some e => decide (t < e + 1000) | none => false)

/-- The other channel of the group with the highest junction temperature (R204), as its number. -/
def hottest (s : State) (ch : Nat) : Nat :=
  let others := (lsGroup ch).filter (· != ch)
  let h := others.foldl (fun b c => if (lsChan s b).tj < (lsChan s c).tj then c else b) (others.headD ch)
  h + 1

/-- The junction temperature of a thermal shutdown in 0.1 °C (Table 7-1): 175 °C, 10 K lower under conservative trim (R370). -/
def lsShutAt (s : State) : Int := if s.rs.consTrim then 1650 else 1750

/-- A thermal shutdown (R204, R205): its cause is decided and recorded, then the phase of the channel says what follows. -/
def thermalShutdown (ch t : Nat) (tj : Int) (s : State) : State :=
  let c := lsChan s ch
  let s1 := updLs ch (fun c => { c with tj, hot := true, shutdowns := wrapU 16 (c.shutdowns + 1), applied := 0, inrush := none
                                        edge := false }) s
  let recent := (c.coupled.filter (fun x => decide (s.clk.ms < x + 60000))) ++ [s.clk.ms]
  let coupled := forced s detCoupledShutdown (ch + 1) || !(limitedLately c t || forced s detThermalShutdown (ch + 1))
  match c.st with
  | .start => attemptFails ch (if coupled then happen detCoupledShutdown (ch + 1) (hottest s ch) s1 else happen detThermalShutdown (ch + 1) 1 s1)
  | .on | .limit =>
    let s2 := detect detOverCurrent (ch + 1) false 0 s1
    if coupled then
      let s3 := updLs ch (fun c => { c with coupled := recent }) s2
      beginCond detCoupledShutdown (ch + 1) (hottest s ch)
        (if 4 ≤ recent.length then lsLatch ch 2 s3 else updLs ch (fun c => { c with st := .cool, limitAt := none }) s3)
    else beginCond detThermalShutdown (ch + 1) 1 (lsLatch ch 1 s2)
  | _ => s1

/-- LS_THERMAL_SHUTDOWN (R204, R205): the junction sensor reaches the shutdown temperature. -/
def execLsThermalShutdown (ch : Fin 24) (us : Fin 1000) (tj : Int) (s : State) : Host.Outcome State Fault Refusal :=
  .next (if lsShutAt s ≤ tj || forced s detThermalShutdown (ch + 1) || forced s detCoupledShutdown (ch + 1)
    then thermalShutdown ch (usNow s us) tj s else s)

/-- LS_JUNCTION_COOLED (R205): 155 °C clears the thermal latch; a channel in COOL turns on afresh. -/
def execLsJunctionCooled (ch : Fin 24) (us : Fin 1000) (tj : Int) (s : State) : Host.Outcome State Fault Refusal :=
  .next (if tj ≤ 1550 then
    let s0 := updLs ch (fun c => { c with hot := false, tj }) s
    if (lsChan s ch).st = .cool then
      let s1 := detect detCoupledShutdown (ch + 1) false 0 s0
      (if (lsChan s ch).req && lsGate s ch then turnOn ch (usNow s us) (updLs ch (fun c => { c with armed := false }) s1)
       else updLs ch (fun c => { c with st := .off }) s1)
    else s0
    else s)

/-- DEMAG_END (R207 to R209): above −1 V and below 50 mA; the clamp energy is judged, a queued request executes. -/
def execDemagEnd (ch : Fin 24) (us : Fin 1000) (out : Int) (ma clamp : Nat) (s : State) : Host.Outcome State Fault Refusal :=
  let t := usNow s us
  let c := lsChan s ch
  .next (if c.st = .demag && decide (-1000 < out) && decide (ma < 50) then
    let v := measured s detClampEnergy (ch + 1) clamp
    let s1 := updLs ch (fun c => { c with
      st := if c.toShed then .shed else .off, demagUs := satU 16 (t - c.since), clampMj := satU 16 clamp, ma := ma, toShed := false }) s
    let s2 := { s1 with ls := { s1.ls with clampNow := s1.ls.clampNow + clamp } }
    let s3 := if (lsClampRating ch : Int) * (1750 - c.tjOff) < v * 1500 then happen detClampEnergy (ch + 1) v.toNat s2 else s2
    if c.queued && lsGate s ch then turnOn ch t s3 else updLs ch (fun c => { c with queued := false }) s3
    else s)

/-- LS_PWM_PERIOD_START (R210): a new period with the duty most recently committed; the first on-edge opens the inrush
window (R199). -/
def execLsPwmPeriodStart (ch : Fin 24) (us : Fin 1000) (s : State) : Host.Outcome State Fault Refusal :=
  .next (if lsPwm s ch then
    updLs ch (fun c =>
      if c.st = .on || c.st = .limit || c.st = .start then
        { c with applied := c.duty, edge := false
                 inrush := if c.edge then some (usNow s us + 1000 * paramN s (pLsInrush ch)) else c.inrush }
      else c) s
    else s)

/-! ### Lamp compensation -/

/-- R211: lamp_duty. -/
def lampDuty (d vbat vref : Nat) : Nat :=
  if d = 0 then 0
  else
    let v := max vbat 6000
    min ((d * vref * vref + v * v / 2) / (v * v)) 10000

/-- The duty that a function's output asks of its channel: switched 0 or 10,000, a lamp compensated (R210, R211). -/
def lsDuty (s : State) (ch : Nat) (u : Int) (vbat : Nat) : Nat :=
  let d := if lsMode s ch = 1 then (if u = 0 then 0 else 10000) else (clampI 0 10000 u).toNat
  if lsLamp s ch then lampDuty d vbat (paramN s pLsLampVref) else d

/-- A committed request reaches its channel. -/
def lsRequest (ch duty : Nat) (s : State) : State := if duty = 0 then lsOff ch (usNow s 0) s else lsOn ch duty (usNow s 0) s

/-! ### Diagnosis -/

/-- The cause that off-state diagnosis finds: 6 short to battery, 5 open load, 0 pass (Table 7-3). -/
def lsDiagnose (v1 v2 : Int) : Nat := if 1500 < v1 then 6 else if 3500 < v2 then 5 else 0

/-- Off-state diagnosis with its events and the open-load bit (R213). -/
def lsJudge (ch v1 v2 : Nat) (s : State) : State :=
  let m1 := measured s detOutputShortToBattery (ch + 1) v1
  let m2 := measured s detOpenLoadOffState (ch + 1) v2
  let r := lsDiagnose m1 m2
  let s1 := updLs ch (fun c => { c with v1, v2, openLoad := decide (r ≠ 0), cause := r }) s
  let s2 := detect detOutputShortToBattery (ch + 1) (decide (r = 6)) m1.toNat s1
  let s3 := detect detOpenLoadOffState (ch + 1) (decide (r = 5)) m2.toNat s2
  if r = 0 then detect detOpenLoadOnState (ch + 1) false 0 s3 else s3

/-- LS_OFFSTATE_DIAG (R213): the pin gives these two voltages to a diagnosis; every channel in OFF with LS.OFFDIAG_n = 1 is judged by them, and
LS_DIAG OFF_STATE finds them. -/
def execLsOffstateDiag (ch : Fin 24) (v1 v2 : Nat) (s : State) : Host.Outcome State Fault Refusal :=
  .next (if (lsChan s ch).st = .off && paramN s (pLsOffdiag ch) = 1 then lsJudge ch v1 v2 s else updLs ch (fun c => { c with v1, v2 }) s)

/-- LS_OPEN_LOAD_ONSTATE (R213): ON for LS.OL_TIME_n below 50 mA. -/
def execLsOpenLoadOnstate (ch : Fin 24) (ma ms : Nat) (s : State) : Host.Outcome State Fault Refusal :=
  let v := measured s detOpenLoadOnState (ch + 1) ma
  .next (if (lsChan s ch).st = .on then
    if v < 50 && paramN s (pLsOlTime ch) ≤ ms then
      beginCond detOpenLoadOnState (ch + 1) v.toNat (updLs ch (fun c => { c with openLoad := true, cause := 4 }) s)
    else if 50 ≤ v && (lsChan s ch).cause = 4 then
      detect detOpenLoadOnState (ch + 1) false 0 (updLs ch (fun c => { c with openLoad := false, cause := 0 }) s)
    else s
    else s)

/-! ### The dissipation budget -/

/-- The mean over the trailing second of one sample a millisecond; before the first samples nothing flowed (R197, R214). -/
def mean1s (l : List Nat) : Nat := l.sum / 1000

/-- What one load switch dissipates, in mW (R214). -/
def lsPower (s : State) (m : LsSample) (ch : Nat) : Nat :=
  let i := nth m.ma ch 0
  match (lsChan s ch).st with
  | .on | .start => i * i * lsOhm ch (nth m.tj ch 250) / 1000000000
  | .limit => (((s.an.vbat : Int) - nth m.out ch 0).toNat * i) / 1000
  | _ => 0

/-- DISSIPATION_ESTIMATE (R197, R213 to R215): currents, junctions, the 1 s means, and their detectors. -/
def execDissipationEstimate (m : LsSample) (s : State) : Host.Outcome State Fault Refusal :=
  let ls := ((List.range 24).map (lsPower s m)).sum
  let tot := ls + m.valves + 1000 * s.ls.clampNow
  let chans := s.ls.chans.zipIdx.map (fun p => { p.1 with
    ma := nth m.ma p.2 p.1.ma, tj := nth m.tj p.2 p.1.tj, mas := pushRing 1000 p.1.mas (nth m.ma p.2 p.1.ma)
    hot := p.1.hot && decide (1550 < nth m.tj p.2 p.1.tj) })
  let s1 := { s with ls := { s.ls with
    chans := chans, mw := pushRing 1000 s.ls.mw tot, valveMw := pushRing 1000 s.ls.valveMw m.valves, clampNow := 0
    vbatMa := pushRing 1000 s.ls.vbatMa m.vbatMa } }
  let mean := mean1s s1.ls.mw
  let s2 := { s1 with ls := { s1.ls with
    above := if 16000 < mean then (if s1.ls.above.isSome then s1.ls.above else some s.clk.ms) else none
    below := if mean ≤ 14000 then (if s1.ls.below.isSome then s1.ls.below else some s.clk.ms) else none } }
  let agg := measured s2 detAggregateVbatCurrent 0 (mean1s s2.ls.vbatMa)
  let s3 := detect detAggregateVbatCurrent 0 (decide (140000 < agg)) agg.toNat s2
  let s4 := (List.range 24).foldl (fun st ch =>
    let v := measured st detLoadAboveRating (ch + 1) (mean1s (lsChan st ch).mas)
    detect detLoadAboveRating (ch + 1) (decide ((lsNominal ch : Int) < v)) v.toNat st) s3
  .next (if 16000 < mean then s4 else detect detOutputStageBudgetExceeded 0 false 0 s4)

/-- The channel to shed next (R215): in ON, LS.SHED_n > 0, not driving a SAFE_KIND ON safe state, the highest LS.SHED_n, then
the highest number. -/
def shedPick (s : State) : Option Nat :=
  ((List.range 24).filter (fun ch => (lsChan s ch).st == .on && decide (0 < paramN s (pLsShed ch)) &&
    !(match lsOwner s ch with
      | some e => (fnOf s (rdN e 0 1)).st == .safe && rdN e 6 1 == 1
      | none => false))).foldl (fun best ch => match best with
    | some b => if paramN s (pLsShed b) ≤ paramN s (pLsShed ch) then some ch else some b
    | none => some ch) none

/-- LOAD_SHED (R215): every 10 ms while the mean exceeds 16,000 mW. -/
def execLoadShed (s : State) : Host.Outcome State Fault Refusal :=
  let v := measured s detChannelShed 0 (mean1s s.ls.mw)
  .next (if 16000 < v && elapsed s s.ls.lastStep 10 then
    match shedPick s with
    | none => s
    | some ch =>
      let s1 := turnOff ch (usNow s 0) true s
      happenMarked detChannelShed (ch + 1) v.toNat (forced s detOutputStageBudgetExceeded 0)
        { s1 with ls := { s1.ls with shed := s1.ls.shed ++ [ch], lastStep := s.clk.ms } }
    else s)

/-- LOAD_RESTORE (R215): after 500 ms at or below 14,000 mW one channel every 100 ms, in the reverse order of shedding. -/
def execLoadRestore (s : State) : Host.Outcome State Fault Refusal :=
  .next (match s.ls.below, s.ls.shed.getLast? with
    | some b, some ch =>
      if elapsed s b 500 && elapsed s s.ls.lastStep 100 then
        let s1 := { s with ls := { s.ls with shed := s.ls.shed.dropLast, lastStep := s.clk.ms } }
        if (lsChan s ch).st = .shed && (lsChan s ch).req && lsGate s ch
        then turnOn ch (usNow s 0) (updLs ch (fun c => { c with armed := false }) s1) else s1
      else s
    | _, _ => s)

/-- BUDGET_EXCEEDED (R215): above 16,000 mW for 1 s with nothing left to shed. -/
def execBudgetExceeded (s : State) : Host.Outcome State Fault Refusal :=
  let v := measured s detOutputStageBudgetExceeded 0 (mean1s s.ls.mw)
  .next (match s.ls.above with
    | some a => if 16000 < v && elapsed s a 1000 && (shedPick s).isNone then beginCond detOutputStageBudgetExceeded 0 v.toNat s else s
    | none => s)

/-! ### Safe state, stop and reset (R216) -/

/-- A load switch takes its two-lane safe state. -/
def lsSafeChan (ch : Nat) (s : State) : State :=
  match lsOwner s ch with
  | some e =>
    if rdN e 6 1 = 1 && lsGate s ch then
      updLs ch (fun c => { c with req := true, duty := 10000
                                  applied := if c.st = .on || c.st = .limit || c.st = .start then 10000 else c.applied })
        (lsOn ch 10000 (usNow s 0) (updLs ch (fun c => { c with armed := false }) s))
    else lsOff ch (usNow s 0) s
  | none => lsOff ch (usNow s 0) s

/-- Every load switch takes its two-lane safe state. -/
def lsSafe (s : State) : State := (List.range 24).foldl (fun st ch => lsSafeChan ch st) s

/-- A STOP input removes the gate supply of its group; the clamp acts (R64, R216). -/
def lsStop (groupB : Bool) (s : State) : State :=
  (List.range 24).foldl (fun st ch => if lsGroupB st ch == groupB then lsOff ch (usNow st 0) st else st) s

/-- VBAT_LOW and VBAT_HIGH: every channel that is on passes through DEMAG, its on-request standing (R390). -/
def lsVbatOff (s : State) : State :=
  (List.range 24).foldl (fun st ch =>
    match (lsChan st ch).st with
    | .on | .limit | .start | .retryWait => turnOff ch (usNow st 0) false st
    | _ => st) s

/-- VBAT_NORMAL: a channel whose on-request still stands turns on afresh in normal service (R390). -/
def lsVbatOn (s : State) : State :=
  (List.range 24).foldl (fun st ch =>
    if (lsChan st ch).req && lsGate st ch then
      match (lsChan st ch).st with
      | .off => turnOn ch (usNow st 0) (updLs ch (fun c => { c with armed := false }) st)
      | .demag => updLs ch (fun c => { c with queued := true, toShed := false, armed := false }) st
      | _ => st
    else st) s

/-- The gate supply goes: every channel is switched off (R216, R397). -/
def lsGateOff (s : State) : State := (List.range 24).foldl (fun st ch => lsOff ch (usNow st 0) st) s

/-- A profile activation: the next turn-on of every channel is made in the start-up phase (R200). -/
def lsActivate (s : State) : State :=
  { s with ls := { s.ls with chans := s.ls.chans.map (fun c => { c with armed := true }) } }

/-- The conditions of a load switch end. -/
def lsEndConds (ch : Nat) (s : State) : State :=
  [detOverCurrent, detThermalShutdown, detCoupledShutdown, detRetriesExhausted, detOutputShortToBattery, detOpenLoadOffState,
   detOpenLoadOnState, detLoadAboveRating].foldl (fun st d => detect d (ch + 1) false 0 st) s

/-- At L0 and L1 every channel turns off; latches, retry budgets and coupled counts restart (R201, R216). -/
def lsReset (s0 : State) : State :=
  let s := (List.range 24).foldl (fun st ch => lsEndConds ch st) s0
  { s with ls := { chans := List.replicate 24 lsChan0, mw := [], valveMw := [], clampNow := 0, vbatMa := [], shed := [], above := none,
                   below := none, lastStep := 0, clearing := [] } }

/-! ### Commands -/

/-- Whether LS_COMMAND and LS_DIAG may act on a channel (R217). -/
def lsMayCommand (s : State) (ch : Nat) : Bool :=
  (match lsOwner s ch with
    | some e => (fnOf s (rdN e 0 1)).st == .disabled
    | none => true) &&
  (lsChan s ch).st != .latched && s.gr.mode != .safe && !inPs s && (!moving s || inService s)

/-- The checks of LS_COMMAND with an operation; `ok` judges the duty for the channel. -/
def lsCommand (op : Nat) (ok : State → Nat → Nat → Bool) : Body := withOp 13 op (timedBody (fun c s =>
    let p := c.payload.drop 12
    let ch := rdN p 0 1
    if p.length ≠ 8 || ch = 0 || 24 < ch || !resZero p 2 2 || !resZero p 6 2 || !ok s (ch - 1) (rdN p 4 2) then some (stBadArg, [])
    else if !lsMayCommand s (ch - 1) then some (stRefusedState, []) else none) frameReply)

/-- LS_COMMAND OFF. -/
def bodyLsCommandOff : Body := lsCommand 0 fun _ _ d => d == 0

/-- LS_COMMAND ON: a switched channel. -/
def bodyLsCommandOn : Body := lsCommand 1 fun s ch d => d == 0 && lsMode s ch == 1

/-- LS_COMMAND PWM: a PWM channel, duty 0–10,000. -/
def bodyLsCommandPwm : Body := lsCommand 2 fun s ch d => decide (d ≤ 10000) && lsMode s ch == 2

/-- LS_COMMAND at its frame of application; `vbat` is the VBAT of the record (R211). -/
def applyLsCommand (vbat : Nat) (t : TCmd) (s : State) : State :=
  let p := t.payload
  let ch := rdN p 0 1 - 1
  let d := match rdN p 1 1 with | 1 => 1 | 2 => rdN p 4 2 | _ => 0
  updLs ch (fun c => { c with host := if d = 0 then none else some d }) (lsRequest ch (lsDuty s ch d vbat) s)

/-- The lamp channels that LS_COMMAND has set follow the VBAT of every record (R211). -/
def lsLampFrame (vbat : Nat) (s : State) : State :=
  (List.range 24).foldl (fun st ch => match (lsChan st ch).host with
    | some d => if lsLamp st ch && lsMayCommand st ch then lsRequest ch (lsDuty st ch d vbat) st else st
    | none => st) s

/-- LS_STATUS state code. -/
def lsStCode (st : LsSt) : Nat :=
  match st with
  | .off => 1 | .start => 2 | .retryWait => 3 | .on => 4 | .limit => 5 | .cool => 6 | .shed => 7 | .demag => 8 | .latched => 9

/-- A channel's entry of LS_STATUS. -/
def lsStatusEntry (s : State) (ch : Nat) : Bytes :=
  let c := lsChan s ch
  let flags := b2n c.inrush.isSome + 2 * b2n c.startup + 4 * b2n (lsLamp s ch) + 8 * b2n (lsOwner s ch).isSome + 16 * b2n c.openLoad +
    32 * b2n c.queued
  u8 (ch + 1) ++ u8 (lsMode s ch) ++ u8 (lsStCode c.st) ++ u8 (if c.st = .shed then 7 else c.cause) ++ u16 (satU 16 c.ma) ++
    u16 c.applied ++ leI 2 (satI 16 c.tj) ++ u8 c.retries ++ u8 flags ++ u32 c.turnOns ++ u16 c.shutdowns ++ u16 c.demagUs ++
    u16 c.clampMj ++ zeros 2

/-- LS_STATUS. -/
def bodyLsStatus : Body := fun c s =>
  let p := c.payload
  let first := rdN p 0 1
  let n := rdN p 1 1
  if p.length ≠ 4 || first = 0 || 24 < first || n = 0 || 24 < n || !resZero p 2 2 || 25 < first + n then ans s stBadArg
  else ans s stOk (u16 (satU 16 s.an.vbat) ++ zeros 2 ++ u32 (mean1s s.ls.vbatMa) ++ u32 (mean1s s.ls.mw) ++
    u32 (mean1s s.ls.valveMw) ++ u8 ((s.ls.chans.filter (fun c => c.st == .shed)).length) ++ zeros 3 ++
    ((List.range n).map (· + (first - 1))).flatMap (lsStatusEntry s))

/-- LS_LATCH_CLEAR (R218): refused in mode SAFE; a channel above 155 °C stays latched. -/
def bodyLsLatchClear : Body := fun c s =>
  if c.payload.length ≠ 4 || 2 ^ 24 ≤ rdN c.payload 0 4 then ans s stBadArg
  else if s.gr.mode = .safe then ans s stRefusedState
  else
    let ok := (List.range 24).filter (fun ch => bit (rdN c.payload 0 4) ch && (lsChan s ch).st == .latched && decide ((lsChan s ch).tj ≤ 1550))
    ans { s with ls := { s.ls with clearing := ok } } stOk (u32 (maskOf 24 (fun k => ok.contains k)))

/-- The cleared channels leave LATCHED at the frame boundary (R218). -/
def lsClearFrame (s : State) : State :=
  s.ls.clearing.foldl (fun st ch =>
    if (lsChan st ch).st = .latched then
      detect detRetriesExhausted (ch + 1) false 0 (detect detCoupledShutdown (ch + 1) false 0 (detect detThermalShutdown (ch + 1) false 0
        (rawEvent evLoadSwitchLatchCleared (ch + 1) (lsChan st ch).cause
          (updLs ch (fun c => { c with st := .off, cause := 0, armed := true, hot := false }) st))))
    else st) { s with ls := { s.ls with clearing := [] } }

/-- The response of LS_DIAG. -/
def lsDiagBytes (result v1 v2 peak : Nat) : Bytes := u8 result ++ zeros 1 ++ u16 (satU 16 v1) ++ u16 (satU 16 v2) ++ u16 (satU 16 peak)

/-- The request of LS_DIAG with an operation. -/
def lsDiagRequest (op : Nat) (act : Nat → State → State × Reply) : Body := withOp 0 op fun c s =>
  let ch := rdN c.payload 1 1
  if c.payload.length ≠ 4 || ch = 0 || 24 < ch || !resZero c.payload 2 2 then ans s stBadArg
  else if !lsMayCommand s (ch - 1) then ans s stRefusedState
  else if (lsChan s (ch - 1)).st ≠ .off then ans s stBusy
  else act (ch - 1) s

/-- LS_DIAG OFF_STATE (R213). -/
def bodyLsDiagOffState : Body := lsDiagRequest 1 fun ch s =>
  let c := lsChan s ch
  ans (lsJudge ch c.v1 c.v2 s) stOk (lsDiagBytes (lsDiagnose c.v1 c.v2) c.v1 c.v2 0)

/-- LS_DIAG ON_TEST (R217): 20 ms under the start-up phase; answered when it ends. -/
def bodyLsDiagOnTest : Body := lsDiagRequest 2 fun ch s =>
  (updLs ch (fun c => { c with test := some (usNow s 0), duty := 10000, req := true })
    (turnOn ch (usNow s 0) (updLs ch (fun c => { c with armed := true }) s)), .wait (.diag ch))

/-- ON_TEST_END (R217): 20 ms have passed; the channel turns off and the command is answered. -/
def execOnTestEnd (ch : Fin 24) (us : Fin 1000) (peak : Nat) (s : State) : Host.Outcome State Fault Refusal :=
  let t := usNow s us
  .next (match (lsChan s ch).test with
    | none => s
    | some b =>
      if b + 20000 ≤ t then
        let c := lsChan s ch
        let r := if c.st = .latched then c.cause else if c.st = .cool then 2 else 0
        resolve (fun w => w == .diag ch) stOk (lsDiagBytes r c.v1 c.v2 peak)
          (updLs ch (fun c => { c with test := none, armed := true }) (lsOff ch t s))
      else s)

end Sys2Proof.Machine
end

