-- ==== Sys2Proof/Machine/Quartz.lean ====
section
/-!
DEFINITION. Machine/Quartz.lean: the meanings of the Quartz commands and events: impacts and their classification (R109 to
R117), reference taps and calibration (R122 to R129), blind time (R120, R130), diagnosis and channel states (R131 to R134),
results, raw capture and the host commands (R136, R137).
-/

namespace Sys2Proof.Machine

/-! ### Samples and features -/

/-- The multiplier and shift of a gain code (Table 4-1). -/
def qzGain (code : Nat) : Nat × Nat :=
  match code with
  | 0 => (16, 16)
  | 1 => (4, 16)
  | 2 => (1, 16)
  | _ => (1, 18)

/-- R109: a raw sample into a calibrated sample. -/
def qzCalibrate (r : Int) (gc m sh : Nat) : Int := sat32 ((r * gc * m + (2 ^ (sh - 1) : Nat)) / (2 ^ sh : Nat))

/-- Whether a raw sample is clipped (R109). -/
def qzClipped (r : Int) : Bool := r == 32767 || r == -32768

/-- An integer divided with truncation toward zero; a divisor of 0 is taken as 1 (R116). -/
def tdiv (a b : Int) : Int := Int.tdiv a (if b = 0 then 1 else b)

/-- Saturation to int32 (R116). -/
def satInt32 (x : Int) : Int := clampI (-2147483648) 2147483647 x

/-- The largest magnitude of a list. -/
def maxAbs (x : List Int) : Nat := x.foldl (fun m v => max m v.natAbs) 0

/-- The index of the first largest magnitude (R116). -/
def peakIndex (x : List Int) : Nat := x.findIdx (fun v => v.natAbs == maxAbs x)

/-- The sum of magnitudes. -/
def sumAbs (x : List Int) : Int := x.foldl (fun a v => a + v.natAbs) 0

/-- Differences of consecutive samples. -/
def diffs (x : List Int) : List Int := List.zipWith (fun a b => b - a) x (x.drop 1)

/-- The number of sign changes between consecutive samples, 0 counted as not negative (log entry 20). -/
def signChanges (x : List Int) : Nat :=
  (List.zipWith (fun a b => decide (a < 0) != decide (b < 0)) x (x.drop 1)).count true

/-- The magnitudes of the local maxima that F10 counts (Table 4-4). -/
def localMaxima (x : List Int) (peak : Nat) : List Nat :=
  (List.zip x (List.zip (x.drop 1) (x.drop 2))).filterMap fun t =>
    if t.1.natAbs < t.2.1.natAbs && decide (t.2.2.natAbs ≤ t.2.1.natAbs) && decide (peak ≤ 4 * t.2.1.natAbs)
    then some t.2.1.natAbs else none

/-- The second-largest entry of a list, 0 when there is none. -/
def secondLargest (l : List Nat) : Nat :=
  let m := l.foldl max 0
  let rest := l.erase m
  rest.foldl max 0

/-- F2 of Table 4-4: samples from the peak to the first below a tenth of it. -/
def fallTime (x : List Int) (p peak : Nat) : Nat :=
  let after := x.drop (p + 1)
  let k := after.findIdx (fun v => decide (10 * v.natAbs < peak))
  if k < after.length then k + 1 else x.length - p

/-- The 16 features of an impact (R116, Table 4-4): `x` its span, `place` its position in its chain, `fres` the resonance. -/
def qzFeatures (x : List Int) (place fres : Nat) : List Int :=
  let p := peakIndex x
  let pk := maxAbs x
  let len := x.length
  let f6 : Int := signChanges ((x.take (min (p + 64) len)).drop p)
  let mx := localMaxima x pk
  let pos := x.foldl max 0
  let neg := x.foldl min 0
  ([(pk : Int), p, fallTime x p pk, (x.filter (fun v => decide (pk ≤ 2 * v.natAbs))).length, sumAbs x / 16,
    (x.foldl (fun a v => a + v * v) 0) / 65536, f6, tdiv (pk * 4096) (sumAbs x), sumAbs (diffs x) / 16,
    sumAbs (diffs (diffs x)) / 16, mx.length, len, tdiv (f6 * 3750000) fres,
    if mx.length < 2 then 0 else tdiv ((secondLargest mx : Int) * 65536) pk,
    min 65535 (tdiv (pos * 256) neg.natAbs), place] : List Int).map satInt32

/-- R117: the class of an impact under a crop-table entry (Table 4-5): 1 grain, 2 MOG, 0 unknown. -/
def qzClassify (f : List Int) (t : Bytes) : Nat :=
  let dot := fun (bias off : Nat) => (List.range 16).foldl (fun a k => a + rdI t (off + 2 * k) 2 * nth f k 0) (rdI t bias 4)
  let d := (dot 24 32 - dot 28 64) / (2 ^ rdN t 4 1 : Nat)
  if rdI t 96 4 ≤ d then 1 else if d ≤ -rdI t 100 4 then 2 else 0

/-- R114: the residual of a later impact: the previous impact's template, scaled to its peak value, subtracted. -/
def qzResidual (x : List Int) (onset : Nat) (c : QzChain) (t : Bytes) : List Int :=
  x.zipIdx.map fun p =>
    let k : Int := (onset + p.2 : Nat) - (c.peak : Int) + rdN t 5 1
    if 0 ≤ k ∧ k ≤ 127 then sat32 (p.1 - (c.value * rdI t (104 + 2 * k.toNat) 2 + 8192) / 16384) else p.1

/-- R130: the blind-time correction of a count, Q16.16. -/
def blindCorrect (c b : Nat) : Nat :=
  if 1500 < b then 0
  else min (2 ^ 32 - 1) ((c * 65536 * 1875 + (1875 - b) / 2) / (1875 - b))

/-! ### Channels -/

/-- The channel of a number. -/
def qzChan (s : State) (ch : Nat) : QzChan := nth s.qz.chans ch qzChan0

/-- The state with one channel changed. -/
def updQz (ch : Nat) (f : QzChan → QzChan) (s : State) : State :=
  { s with qz := { s.qz with chans := updAt s.qz.chans ch f } }

/-- The state with one channel's tap state changed. -/
def updTap (ch : Nat) (f : QzTap → QzTap) (s : State) : State := updQz ch (fun c => { c with tap := f c.tap }) s

/-- The code of a channel state (Table 4-3). -/
def qzStCode (st : QzSt) : Nat :=
  match st with
  | .off => 0
  | .listen => 1
  | .tap => 2
  | .diag => 3
  | .fault => 4

/-- `n` blind samples from sample `at` of the open window: those past its end belong to the next window (R111). -/
def addBlind (ch at' n : Nat) (s : State) : State :=
  updQz ch (fun c => { c with
    cur := { c.cur with blind := c.cur.blind + min n (1875 - at') }
    next := { c.next with blind := c.next.blind + (n - (1875 - at')) } }) s

/-- An impact's counts go to the window that contains its report sample (R111). -/
def addCount (ch report : Nat) (f : QzAcc → QzAcc) (s : State) : State :=
  updQz ch (fun c => if report < s.qz.base + 1875 then { c with cur := f c.cur } else { c with next := f c.next }) s

/-- The crop table in force with an index; an empty entry where there is none. -/
def cropTable (s : State) (idx : Nat) : Bytes := (s.qz.tables.find? (fun t => rdN t 2 1 == idx)).getD (zeros 384)

/-- A channel's role, QZ.ROLE_Qn. -/
def qzRole (s : State) (ch : Nat) : Nat := paramN s (pQzRole ch)

/-- The detector that reports a fault cause or DIAG result: Table 4-10 codes for DIAG. -/
def diagDetector (result : Nat) : Nat :=
  match result with
  | 2 => detPlateOpen
  | 3 => detPairShort
  | 4 => detPinShortToGround
  | 5 => detPinShortToBattery
  | _ => detDegradedBleed

/-- A channel enters FAULT with a cause code of Table 4-13, and its detector reports it (R132, R134). -/
def qzFault (ch cause det data : Nat) (s : State) : State :=
  raise det (ch + 1) data true
    (updQz ch (fun c => { c with st := .fault, cause, diagPass := 0, chain := none }) s)

/-- A channel leaves FAULT: the fault-cleared event names the former cause, and its detectors' conditions end (R134). -/
def qzClearFault (ch : Nat) (s : State) : State :=
  let cause := (qzChan s ch).cause
  let s1 := rawEvent evQuartzChannelFaultCleared (ch + 1) cause
    (updQz ch (fun c => { c with st := .listen, cause := 0, diagPass := 0 }) s)
  [detAsPinOutOfRange, detPlateOpen, detPairShort, detPinShortToGround, detPinShortToBattery, detTapNoResponse,
    detSwappedPair].foldl (fun st d => clearActive d (ch + 1) st) s1

/-! ### Impacts -/

/-- The chain place an onset takes after the preceding impact (R114): none when it starts afresh. -/
def chainPlace (c : QzChan) (onset : Nat) : Option QzChain :=
  match c.chain with
  | some k => if k.full || decide (onset ≤ k.onset + 56) then some k else none
  | none => none

/-- An impact joins the channel's queue of 96, or is counted UNKNOWN with OVERFLOW when the queue is full (R115). -/
def queueImpact (ch : Nat) (i : QzImpact) (s : State) : State :=
  if 96 ≤ (qzChan s ch).queue.length then
    addCount ch i.report (fun a => { a with unknown := a.unknown + 1, overflow := true, clip := a.clip || i.clipped }) s
  else updQz ch (fun c => { c with queue := c.queue ++ [i] }) s

/-- IMPACT_END (R113 to R116): on a listening channel a span of 3 to 128 samples whose first three meet the threshold gives
its features and waits for classification; the fifth or a later onset of a chain is counted UNKNOWN without features. -/
def impactEnd (ch : Nat) (onset : Nat) (raw : List Int) (closed : Bool) (s : State) : State :=
  let c := qzChan s ch
  let g := qzGain c.gain
  let x := raw.map (fun r => qzCalibrate (if c.inverted then -r else r) c.tap.gc g.1 g.2)
  let t := paramN s (pQzThresh ch)
  if c.st != .listen || raw.length < 3 || 128 < raw.length || (x.take 3).any (fun v => decide (v.natAbs < t)) then s
  else
    let report := onset + raw.length + 24
    let clipped := raw.any qzClipped
    let s0 := updQz ch (fun c => { c with lastOnset := some s.clk.ms }) s
    match chainPlace c onset with
    | some k =>
      if k.full || 3 ≤ k.place then
        addCount ch report (fun a => { a with unknown := a.unknown + 1, clip := a.clip || clipped })
          (updQz ch (fun c => { c with chain := if closed then some { k with onset, full := true } else none }) s0)
      else
        let r := qzResidual x onset k (cropTable s s.qz.crop)
        let p := peakIndex r
        queueImpact ch ⟨qzFeatures r (k.place + 1) c.tap.f, report, clipped⟩
          (addCount ch report (fun a => { a with pileup := a.pileup + 1 })
            (updQz ch (fun c => { c with chain := some ⟨onset, onset + p, nth x p 0, k.place + 1, false⟩ }) s0))
    | none =>
      let p := peakIndex x
      queueImpact ch ⟨qzFeatures x 0 c.tap.f, report, clipped⟩
        (updQz ch (fun c => { c with chain := some ⟨onset, onset + p, nth x p 0, 0, false⟩ }) s0)

/-- The queue's head is classified with a crop table and counted in its window (R111, R117). -/
def classifyHead (ch : Nat) (t : Bytes) (s : State) : State :=
  match (qzChan s ch).queue with
  | [] => s
  | i :: rest =>
    let k := qzClassify i.feats t
    addCount ch i.report (fun a => { a with
        grain := a.grain + (if k = 1 then 1 else 0)
        mog := a.mog + (if k = 2 then 1 else 0)
        unknown := a.unknown + (if k = 0 then 1 else 0)
        f0 := a.f0 + (if k = 1 then (nth i.feats 0 0).toNat else 0)
        clip := a.clip || i.clipped })
      (updQz ch (fun c => { c with queue := rest }) s)

/-- IMPACT_END. -/
def execImpactEnd (ch : Fin 32) (onset : Nat) (raw : List Int) (closed : Bool) (s : State) :
    Host.Outcome State Fault Refusal := .next (impactEnd ch onset raw closed s)

/-- IMPACT_CLASSIFY (R117): the oldest queued impact of the channel, with the active crop table. -/
def execImpactClassify (ch : Fin 32) (s : State) : Host.Outcome State Fault Refusal :=
  .next (classifyHead ch (cropTable s s.qz.crop) s)

/-! ### The end of a window (R110 to R112, R119, R128) -/

/-- Every queued impact of a channel whose report sample lies in the closing window is classified, by fuel. -/
def drainQueue (ch endSample : Nat) (t : Bytes) : Nat → State → State
  | 0, s => s
  | n + 1, s =>
    match (qzChan s ch).queue with
    | i :: _ => if i.report < endSample then drainQueue ch endSample t n (classifyHead ch t s) else s
    | [] => s

/-- The FLAGS byte of Table 4-3. -/
def qzFlags (s : State) (ch : Nat) (c : QzChan) : Nat :=
  b2n (c.st == .fault) + 2 * b2n c.cur.overflow + 4 * b2n c.cur.clip + 8 * b2n (paramN s (pQzRefAmp ch) == 0) +
    16 * b2n c.tap.stale + 32 * b2n c.inverted + 64 * b2n (decide (1500 < c.cur.blind))

/-- The channel entry of a closing window (Table 4-3): zero for a role of 0 (R112), counts 0 in FAULT (R133), corrected
counts by R130. -/
def qzEntry (s : State) (ch : Nat) : QzEntry :=
  let c := qzChan s ch
  if qzRole s ch = 0 then ⟨0, 0, 0, 0, 0, 0, 0, 0, 0, 0, 0, 0, 0⟩
  else
    let a := if c.st = .fault then { qzAcc0 with blind := c.cur.blind } else c.cur
    let b := min 1875 a.blind
    { grain := satU 16 a.grain, mog := satU 16 a.mog, unknown := satU 16 a.unknown, blind := b,
      grainC := blindCorrect a.grain b, mogC := blindCorrect a.mog b, unknownC := blindCorrect a.unknown b,
      pileup := satU 16 a.pileup, peakMean := if a.grain = 0 then 0 else satU 16 (a.f0 / a.grain), calGen := c.tap.calGen,
      state := qzStCode c.st, flags := qzFlags s ch c, gc := c.tap.gc }

/-- The bytes of a channel entry. -/
def qzEntryBytes (e : QzEntry) : Bytes :=
  u16 e.grain ++ u16 e.mog ++ u16 e.unknown ++ u16 e.blind ++ u32 e.grainC ++ u32 e.mogC ++ u32 e.unknownC ++
    u16 e.pileup ++ u16 e.peakMean ++ u16 e.calGen ++ u8 e.state ++ u8 e.flags ++ u32 e.gc

/-- The bytes of the Quartz part (Table 4-2 and Table 4-3). -/
def qzPartBytes (p : QzPart) : Bytes :=
  u32 p.wseq ++ u8 (b2n p.fresh) ++ u8 p.crop ++ u16 p.cropId ++ u16 p.rail ++ u8 (b2n p.ready) ++ zeros 5 ++
    p.entries.flatMap qzEntryBytes

/-- Whether the tap reservoir is ready (R122). -/
def reservoirReady (s : State) : Bool := decide (paramN s pQzTapLevel + 1000 ≤ s.qz.reservoir)

/-- A channel passes a cut-off: a new GC and resonance take effect with CAL_GEN one higher (R128), the gain code and the
sign in effect change with 32 blind samples after a gain change (R108, R132), and its next window begins. A channel whose
pins are not in LISTEN stays blind (R120; log entry 21 for FAULT and OFF). -/
def qzChanCutoff (s : State) (ch : Nat) (c : QzChan) : QzChan :=
  let g := paramN s (pQzGain ch)
  let tap := match c.tap.nextCal with
    | some (gc, f) => { c.tap with gc, f, nextCal := none, calGen := wrapU 16 (c.tap.calGen + 1) }
    | none => c.tap
  let blind := if c.st = .fault || c.st = .off then 1875 else if g = c.gain then c.next.blind else max 32 c.next.blind
  { c with tap, gain := g, inverted := c.invNext, cur := { c.next with blind }, next := qzAcc0 }

/-- The detectors that watch a window: extractor overflow and converter clip (R109, R115). -/
def qzWindowDetect (ch : Nat) (s : State) : State :=
  let c := qzChan s ch
  detect detConverterClip (ch + 1) (c.cur.clip || forced s detConverterClip (ch + 1)) 0
    (detect detExtractorOverflow (ch + 1) (c.cur.overflow || forced s detExtractorOverflow (ch + 1)) 0 s)

/-- A raw-capture block of one window and channel (R136): WSEQ, channel, gain code, blind samples, 1,875 samples. -/
def captureBlock (s : State) (ch : Nat) (raw : List Int) : Bytes :=
  u32 s.qz.wseq ++ u8 (ch + 1) ++ u8 (qzChan s ch).gain ++ u16 (min 1875 (qzChan s ch).cur.blind) ++
    (List.range 1875).flatMap (fun k => leI 2 (nth raw k 0))

/-- The channels of a mask, ascending. -/
def maskChans (n mask : Nat) : List Nat := (List.range n).filter (fun k => mask.testBit k)

/-- Raw capture at a window's end: armed becomes running at its first frame, and a running capture takes one block a
channel. `raws` are the raw samples of the captured channels in ascending order. -/
def captureWindow (raws : List (List Int)) (frame : FrameNo) (s : State) : State :=
  let k := s.qz.cap
  if k.st = .running && k.taken < k.length then
    { s with qz := { s.qz with cap := { k with
        taken := k.taken + 1
        data := k.data ++ ((maskChans 32 k.mask).zipIdx.flatMap (fun p => captureBlock s p.1 (nth raws p.2 []))) } } }
  else if k.st = .armed && k.first ≤ frame then { s with qz := { s.qz with cap := { k with st := .running } } }
  else s

/-- QUARTZ_WINDOW_CLOSE and CAL_APPLY within CUT_OFF (R110 to R112, R119, R128): the impacts reporting in the window are
classified, the part is formed and kept in the history, and the next window begins with the calibration and crop table that
take effect there. `frame` is the record's frame number. -/
def quartzCutoff (reservoir : Nat) (raws : List (List Int)) (frame : FrameNo) (s : State) : State :=
  if !s.qz.up then { s with qz := { s.qz with part := { s.qz.part with fresh := false } } }
  else
    let s0 := { s with qz := { s.qz with reservoir } }
    let s1 := (List.range 32).foldl (fun st ch =>
      qzWindowDetect ch (drainQueue ch (s.qz.base + 1875) (cropTable st st.qz.crop) 96 st)) s0
    let s2 := captureWindow raws frame s1
    let part : QzPart :=
      { wseq := s.qz.wseq, fresh := s.qz.whole, crop := s.qz.crop, cropId := rdN (cropTable s s.qz.crop) 0 2,
        rail := s.an.rail / 100, ready := reservoirReady s2, entries := (List.range 32).map (qzEntry s2) }
    { s2 with qz := { s2.qz with
        part
        history := pushRing 1000 s2.qz.history part
        wseq := wrapU 32 (s2.qz.wseq + 1)
        whole := true
        base := s2.qz.base + 1875
        crop := s2.qz.cropNext.getD s2.qz.crop
        cropNext := none
        chans := s2.qz.chans.zipIdx.map (fun p => qzChanCutoff s2 p.2 p.1) } }

/-! ### Taps -/

/-- Whether a tap is due, forced or requested on a channel, TEACH taps among them (R124, R129). -/
def tapWanted (c : QzChan) : Bool := c.tap.dueAt.isSome || c.tap.forced || c.tap.requested || c.tap.teach.isSome

/-- Whether `d` ms have passed since an instant, or it never was. -/
def sinceAtLeast (s : State) (t : Option Nat) (d : Nat) : Bool :=
  match t with
  | none => true
  | some x => elapsed s x d

/-- TAP_DUE (R124): QZ.TAP_INTERVAL has passed since the start of the channel's last tap. -/
def execTapDue (ch : Fin 32) (s : State) : Host.Outcome State Fault Refusal :=
  let c := qzChan s ch
  .next (if c.st = .listen && paramN s pQzTapEnable = 1 && c.tap.dueAt.isNone &&
      sinceAtLeast s c.tap.last (paramN s pQzTapInterval)
    then updTap ch (fun t => { t with dueAt := some (match t.last with
        | some x => x + paramN s pQzTapInterval
        | none => s.clk.ms) }) s
    else s)

/-- TAP_FORCED (R124): 60 s have passed since the start of the channel's last tap. -/
def execTapForced (ch : Fin 32) (s : State) : Host.Outcome State Fault Refusal :=
  let c := qzChan s ch
  .next (if c.st = .listen && paramN s pQzTapEnable = 1 && sinceAtLeast s c.tap.last 60000
    then updTap ch (fun t => { t with forced := true, dueAt := some (t.dueAt.getD s.clk.ms) }) s
    else s)

/-- Whether a tap may start on a channel (R121, R122, R124, R125; R134 for a requested tap of a swapped
channel in FAULT): LISTEN, no open span or chain, 2 s since the last tap, the
rail at 40 V or more, the reservoir ready, the tap stage free, and a quiet gap of 2,813 samples unless forced or requested. -/
def tapMayStart (s : State) (ch quiet : Nat) (spanOpen : Bool) : Bool :=
  let c := qzChan s ch
  (c.st == .listen || (c.st == .fault && c.cause == 4 && c.tap.requested)) && tapWanted c && !spanOpen && sinceAtLeast s c.tap.last 2000 && decide (40000 ≤ s.an.rail) &&
    reservoirReady s && !s.qz.chans.any (fun k => k.st == .tap) &&
    (c.tap.forced || c.tap.requested || c.tap.teach.isSome || (decide (2813 ≤ quiet) && paramN s pQzTapEnable == 1))

/-- A tap starts: Table 4-7 runs, 844 blind samples (R125). -/
def tapStart (ch sample : Nat) (s : State) : State :=
  addBlind ch sample 844 (updQz ch (fun c => { c with
    st := .tap, chain := none
    tap := { c.tap with last := some s.clk.ms, dueAt := none, forced := false, requested := false, deferred := false,
                        analysis := true } }) s)

/-- TAP_START. -/
def execTapStart (ch : Fin 32) (sample quiet : Nat) (spanOpen : Bool) (s : State) : Host.Outcome State Fault Refusal :=
  .next (if tapMayStart s ch quiet spanOpen && sample < 1875 then tapStart ch sample s else s)

/-- TAP_SEQUENCE_END (R125): the 844 blind samples are over and the channel listens again; analysis is still to come. -/
def execTapSequenceEnd (ch : Fin 32) (s : State) : Host.Outcome State Fault Refusal :=
  .next (if (qzChan s ch).st = .tap
    then updQz ch (fun c => { c with st := if c.cause = 0 then .listen else .fault, tap := { c.tap with ended := some s.clk.ms } }) s
    else s)

/-- The times in 1/16 sample of the sign changes of a capture, each interpolated linearly (R126). -/
def crossings (y : List Int) : List Nat :=
  (List.zip y (y.drop 1)).zipIdx.filterMap fun p =>
    if decide (p.1.1 < 0) != decide (p.1.2 < 0)
    then some (16 * p.2 + 16 * p.1.1.natAbs / max 1 (p.1.1.natAbs + p.1.2.natAbs)) else none

/-- The measured resonance of R126; none where fewer than two sign changes leave it unstated. -/
def ringFreq (y : List Int) : Option Nat :=
  let z := crossings y
  let t0 := z.headD 0
  let t1 := z.getLastD 0
  if z.length < 2 || t1 ≤ t0 then none else some ((z.length - 1) * 30000000 / (2 * (t1 - t0)))

/-- The amplitude A of R126: the largest magnitude from sample 10 on. -/
def ringAmp (y : List Int) : Nat := maxAbs (y.drop 10)

/-- Whether the polarity of R126 is negative. -/
def ringNegative (y : List Int) : Bool :=
  match (y.drop 10).find? (fun v => decide (ringAmp y ≤ 4 * v.natAbs)) with
  | some v => decide (v < 0)
  | none => false

/-- a_norm of R127: the amplitude normalised to 24,000 mV. -/
def ampNorm (a level : Nat) : Nat := (a * 24000 + level / 2) / level

/-- gc_meas of R127. -/
def gcMeas (ref a level : Nat) : Nat := (ref * 65536 + ampNorm a level / 2) / ampNorm a level

/-- The tap result of Table 4-8: the first row that applies. -/
def tapResult (y : List Int) (neg : Bool) (amp ref level gmin gmax : Nat) : Nat :=
  if y.any qzClipped then 3
  else if amp < 64 then 4
  else if (y.drop 600).any (fun v => decide (amp ≤ 2 * v.natAbs)) then 2
  else if neg then 6
  else if ref ≠ 0 && (gcMeas ref amp level < gmin || gmax < gcMeas ref amp level) then 5
  else 1

/-- R127: GC and f after an accepted tap; `f_meas` given. -/
def calUpdate (gc f ref amp fMeas level k : Nat) : Nat × Nat :=
  let sh : Int := (2 ^ k : Nat)
  ((if ref = 0 then gc else ((gc : Int) + ((gcMeas ref amp level : Int) - gc) / sh).toNat),
   ((f : Int) + ((fMeas : Int) - f) / sh).toNat)

/-- One TEACH tap enters the sums (R129); a result other than GOOD or INVERTED spoils the TEACH. -/
def teachTap (result amp fMeas level : Nat) (t : QzTeach) : QzTeach :=
  if result = 1 || result = 6 then
    { t with done := t.done + 1, sumA := t.sumA + ampNorm amp level, sumF := t.sumF + fMeas }
  else { t with done := t.done + 1, bad := true }

/-- The result of a tap on its channel (R126 to R129, R132, R134). -/
def tapAnalysis (ch : Nat) (y0 : List Int) (s : State) : State :=
  let c := qzChan s ch
  let y := if c.inverted then y0.map (fun v => -v) else y0
  let level := paramN s pQzTapLevel
  let ref := paramN s (pQzRefAmp ch)
  let amp := (measured s detTapNoResponse (ch + 1) (ringAmp y)).toNat
  let pol := measured s detSwappedPair (ch + 1) (b2n (ringNegative y))
  let neg := pol != 0
  let res := tapResult y neg amp ref level (paramN s pQzGcMin) (paramN s pQzGcMax)
  let fr := match ringFreq y with
    | some f => (f, s)
    | none => freshNat s
  let s0 := fr.2
  let swapOk := res = 6 && paramN s pQzSwapAuto = 1
  let upd := res = 1 || swapOk
  let cal := calUpdate c.tap.gc c.tap.f ref amp fr.1 level (paramN s pQzCalSmooth)
  let s1 := updQz ch (fun c => { c with
    invNext := if swapOk then !c.invNext else c.invNext
    tap := { c.tap with
      analysis := false, result := res
      nextCal := if upd then some cal else c.tap.nextCal
      noResp := if res = 4 then c.tap.noResp + 1 else 0
      good := if res = 1 then wrapU 16 (c.tap.good + 1) else c.tap.good
      other := if res = 1 then c.tap.other else wrapU 16 (c.tap.other + 1)
      lastGood := if res = 1 then some s.clk.ms else c.tap.lastGood
      stale := if res = 1 then false else c.tap.stale
      teach := c.tap.teach.map (teachTap res amp fr.1 level) } }) s0
  let s2 := if res = 1 then clearActive detCalibrationStale (ch + 1) s1 else s1
  let s3 := detect detPlateSensitivityOutOfRange (ch + 1) (res = 5)
    (if ref = 0 || amp < 64 then 0 else gcMeas ref amp level) s2
  let fref := paramN s (pQzRefFreq ch)
  let s4 := if upd && ref ≠ 0
    then detect detPlateResonanceShift (ch + 1) (decide (fref / 8 < (cal.2 - fref) + (fref - cal.2))) cal.2 s3
    else s3
  if c.st = .listen && res = 4 && 3 ≤ c.tap.noResp + 1 then qzFault ch 3 detTapNoResponse amp s4
  else if c.st = .listen && res = 6 && !swapOk then qzFault ch 4 detSwappedPair pol.toNat s4
  else if c.st = .fault && c.cause = 4 && res ≠ 3 && res ≠ 4 && res ≠ 2 && !neg then qzClearFault ch s4
  else s4

/-- TAP_ANALYSIS_DONE. -/
def execTapAnalysisDone (ch : Fin 32) (y : List Int) (s : State) : Host.Outcome State Fault Refusal :=
  .next (if (qzChan s ch).tap.analysis then tapAnalysis ch y s else s)

/-- TAP_DEFERRAL (R129): a tap stays due beyond 60 s because of the rail or the reservoir. -/
def execTapDeferral (ch : Fin 32) (s : State) : Host.Outcome State Fault Refusal :=
  let c := qzChan s ch
  .next (if c.tap.dueAt.isSome && !c.tap.deferred && (forced s detTapDeferral (ch + 1) || sinceAtLeast s c.tap.dueAt 60000 &&
      (decide (s.an.rail < 40000) || !reservoirReady s))
    then happen detTapDeferral (ch + 1) 0
      (updTap ch (fun t => { t with deferred := true }) { s with qz := { s.qz with deferrals := wrapU 32 (s.qz.deferrals + 1) } })
    else s)

/-- CALIBRATION_STALE (R129): no GOOD tap for QZ.CAL_STALE; recorded once. -/
def execCalibrationStale (ch : Fin 32) (s : State) : Host.Outcome State Fault Refusal :=
  let c := qzChan s ch
  .next (if c.st != .off && !c.tap.stale && 
      (elapsed s (c.tap.lastGood.getD c.started) (1000 * paramN s pQzCalStale) || forced s detCalibrationStale (ch + 1))
    then raise detCalibrationStale (ch + 1) 0 true (updTap ch (fun t => { t with stale := true }) s)
    else s)

/-- TEACH_DONE (R129): after 8 taps the references become the truncated means, GC 65,536 and f the reference; a channel with
a tap of another result keeps its earlier reference and is reported failed. -/
def execTeachDone (ch : Fin 32) (s : State) : Host.Outcome State Fault Refusal :=
  .next (match (qzChan s ch).tap.teach with
    | some t =>
      if t.done < 8 then s
      else if t.bad then updTap ch (fun x => { x with teach := none, teachFailed := true }) s
      else writeSettings [(pQzRefAmp ch, (t.sumA / 8 : Nat)), (pQzRefFreq ch, (t.sumF / 8 : Nat))]
        (updTap ch (fun x => { x with teach := none, teachFailed := false, nextCal := some (65536, t.sumF / 8) }) s)
    | none => s)

/-! ### Diagnosis -/

/-- Whether a channel is idle (R121): in FAULT, or no onset for 10 s. -/
def qzIdle (s : State) (c : QzChan) : Bool := c.st == .fault || sinceAtLeast s c.lastOnset 10000

/-- DIAG_IDLE_DUE (R131): QZ.DIAG_IDLE_PERIOD has passed on an idle channel. -/
def execDiagIdleDue (ch : Fin 32) (s : State) : Host.Outcome State Fault Refusal :=
  let c := qzChan s ch
  .next (if c.st != .off && qzIdle s c && sinceAtLeast s c.lastDiag (1000 * paramN s pQzDiagIdlePeriod)
    then updQz ch (fun c => { c with diagDue := true }) s else s)

/-- Whether a DIAG may start (R121, R131): wanted, no tap due and none ended within 10 ms, no open span; on a channel that is
not idle only after a gap of 5,625 quiet samples and at most once every 10 minutes. -/
def diagMayStart (s : State) (ch quiet : Nat) (spanOpen : Bool) : Bool :=
  let c := qzChan s ch
  (c.st == .listen || c.st == .fault) && !tapWanted c && sinceAtLeast s c.tap.ended 10 && !spanOpen &&
    (if qzIdle s c then c.diagDue || c.diagReq
     else decide (5625 ≤ quiet) && sinceAtLeast s c.lastDiag 600000)

/-- DIAG_START (R131): Table 4-9 runs, 1,875 blind samples. The state before is kept in `cause`: FAULT has one. -/
def execDiagStart (ch : Fin 32) (sample quiet : Nat) (spanOpen : Bool) (s : State) : Host.Outcome State Fault Refusal :=
  .next (if diagMayStart s ch quiet spanOpen && sample < 1875
    then addBlind ch sample 1875 (updQz ch (fun c => { c with
      st := .diag, diagDue := false, diagReq := false, lastDiag := some s.clk.ms, chain := none }) s)
    else s)

/-- The DIAG result of Table 4-10, in its order of evaluation (voltages in mV). -/
def diagResult (vp vn vpn : Nat) : Nat :=
  if vp < 500 || vn < 500 then 4
  else if 4500 < vp || 4500 < vn then 5
  else if vpn < 300 then 3
  else if 980 < vpn then 2
  else if 800 ≤ vpn && vpn ≤ 960 then 1
  else 6

/-- The measured values of a DIAG with any injected substitute in place (R331). -/
def diagMeasured (s : State) (ch vp vn vpn : Nat) : Nat :=
  diagResult (measured s detPinShortToGround (ch + 1) (measured s detPinShortToBattery (ch + 1) vp)).toNat vn
    (measured s detPairShort (ch + 1) (measured s detPlateOpen (ch + 1) (measured s detDegradedBleed (ch + 1) vpn))).toNat

/-- DIAG_SEQUENCE_END (R131, R134): the result decides between LISTEN and FAULT; in FAULT two consecutive PASS clear it, but
for the cause "swapped". -/
def diagSequenceEnd (ch vp vn vpn : Nat) (s : State) : State :=
  let c := qzChan s ch
  if c.st != .diag then s
  else
    let r := diagMeasured s ch vp vn vpn
    let s1 := updQz ch (fun c => { c with diagResult := r, st := if c.cause = 0 then .listen else .fault }) s
    let s2 := detect detDegradedBleed (ch + 1) (r = 6) vpn s1
    if c.cause = 0 then
      if r = 1 || r = 6 then s2 else qzFault ch 2 (diagDetector r) (if r = 4 || r = 5 then vp else vpn) s2
    else if r = 1 then
      if 1 ≤ c.diagPass && c.cause ≠ 4 then qzClearFault ch s2
      else updQz ch (fun c => { c with diagPass := c.diagPass + 1 }) s2
    else updQz ch (fun c => { c with diagPass := 0 }) s2

/-- DIAG_SEQUENCE_END. -/
def execDiagSequenceEnd (ch : Fin 32) (vp vn vpn : Nat) (s : State) : Host.Outcome State Fault Refusal :=
  .next (diagSequenceEnd ch vp vn vpn s)

/-- AS_PIN_RANGE_FAULT (R132): a pin outside 0.5–4.5 V for 10 ms in LISTEN. -/
def execAsPinRangeFault (ch : Fin 32) (mv : Int) (s : State) : Host.Outcome State Fault Refusal :=
  .next (if (qzChan s ch).st = .listen && (decide (mv < 500) || decide (4500 < mv) || forced s detAsPinOutOfRange (ch + 1))
    then qzFault ch 1 detAsPinOutOfRange 1 s else s)

/-! ### Roles, resets and the change of crop -/

/-- A channel's role may have changed (R134): OFF for role 0; from OFF to LISTEN with 32 blind samples for another. -/
def qzApplyRole (ch : Nat) (s : State) : State :=
  let c := qzChan s ch
  if qzRole s ch = 0 then
    if c.st = .off then s
    else updQz ch (fun c => { c with st := .off, cause := 0, chain := none, queue := [], tap := { c.tap with teach := none } }) s
  else if c.st = .off && s.qz.up then
    updQz ch (fun c => { c with st := .listen, started := s.clk.ms, cur := { c.cur with blind := max 32 c.cur.blind } }) s
  else s

/-- QZ.SWAP_AUTO set to 1 clears a "swapped" fault (R134). -/
def qzApplySwap (ch : Nat) (s : State) : State :=
  if (qzChan s ch).st = .fault && (qzChan s ch).cause = 4 && paramN s pQzSwapAuto = 1 then qzClearFault ch s else s

/-- The parameters or the profile have changed: roles and QZ.SWAP_AUTO take effect (R134). -/
def quartzApply (s : State) : State :=
  (List.range 32).foldl (fun st ch => qzApplySwap ch (qzApplyRole ch st)) s

/-- L2, or L3 of Quartz: drive and bias end and every channel goes to OFF; GC, f and tap history stay (Table 4-12). -/
def quartzStop (s : State) : State :=
  { s with qz := { s.qz with
      up := false, whole := false
      chans := s.qz.chans.map (fun c => { c with st := .off, cause := 0, chain := none, queue := [], cur := qzAcc0, next := qzAcc0 }) } }

/-- Quartz starts: channels re-enter LISTEN from OFF, windows are numbered from 0 (Table 4-2, Table 4-12). -/
def quartzStart (s : State) : State :=
  quartzApply { s with qz := { s.qz with up := true, whole := false, wseq := 0, base := 0 } }

/-- After L1 or L0 the Mica area is gone: GC and f come from the NAND copy and every channel's next tap is due at once
(Table 4-12). -/
def quartzRestore (s : State) : State :=
  { s with qz := { s.qz with
      chans := s.qz.chans.zipIdx.map (fun p =>
        { qzChan0 with tap := { qzTap0 with gc := (nth s.qz.nandCal p.2 (65536, 0)).1, f := (nth s.qz.nandCal p.2 (65536, 0)).2 } })
      history := [], deferrals := 0
      cap := ⟨.idle, 0, 0, 0, 0, []⟩ } }

/-- The NAND copy of GC and f is refreshed (R135). -/
def quartzCopyCal (s : State) : State :=
  { s with qz := { s.qz with nandCal := s.qz.chans.map (fun c => (c.tap.gc, c.tap.f)) } }

/-- The active image of the Quartz crop library (part type 3 of Table 13-3); none: the library delivered with the module. -/
def activeLibrary (s : State) : Option ImageSlot :=
  let p := nth s.up.slots 2 (none, none)
  if bit s.up.active 2 then p.2 else p.1

/-- The library table of a crop ID: the installed library's, or the delivered one's for IDs 1 to 7; the specification gives neither
which tables an installed library holds nor their bytes (log entry 22). -/
def libraryTable (s : State) (id : Nat) : Option Bytes :=
  match activeLibrary s with
  | some i => if Config.libraryHas i.manifest id then some (u16 id ++ (List.range 382).map (Config.libraryByte (some i.manifest) id)) else none
  | none => if 1 ≤ id && id ≤ 7 then some (u16 id ++ (List.range 382).map (Config.libraryByte none id)) else none

/-- The crop table an entry stands for: its own when inline, the library's under its INDEX otherwise (Table 4-5). -/
def resolveCrop (s : State) (e : Bytes) : Bytes :=
  if rdN e 3 1 = 1 then
    match libraryTable s (rdN e 0 2) with
    | some t => splice t 2 (slice e 2 1)
    | none => e
  else e

/-- The crop tables of a profile come into force at activation, with the crop index QZ.CROP (R118). -/
def quartzActivate (s : State) : State :=
  quartzApply { s with qz := { s.qz with
    tables := s.pf.work.crops.map (resolveCrop s), crop := paramN s pQzCrop, cropNext := none, deferrals := 0 } }

/-! ### Host commands -/

/-- The fields of one channel in QZ_STATUS (Table 4-13). -/
def qzStatusEntry (s : State) (ch : Nat) : Bytes :=
  let c := qzChan s ch
  u8 (ch + 1) ++ u8 (qzStCode c.st) ++ u8 c.diagResult ++ u8 c.tap.result ++ u32 c.tap.gc ++ u32 c.tap.f ++
    u16 (paramN s (pQzRefAmp ch)) ++ u16 c.cause ++ u16 c.tap.good ++ u16 c.tap.other ++
    u32 (match c.tap.lastGood with
      | some t => satU 32 ((s.clk.ms - t) / 1000)
      | none => 0xFFFFFFFF)

/-- QZ_STATUS (Table 4-13). -/
def bodyQzStatus : Body := fun c s =>
  let p := c.payload
  if p.length ≠ 4 || rdN p 0 1 = 0 || 32 < rdN p 0 1 || rdN p 1 1 = 0 || 32 < rdN p 1 1 || !resZero p 2 2 then ans s stBadArg
  else
    let first := rdN p 0 1 - 1
    ans s stOk (u16 s.qz.reservoir ++ u8 (b2n (reservoirReady s)) ++ zeros 1 ++ u32 s.qz.deferrals ++ u8 s.qz.crop ++
      zeros 1 ++ u16 (rdN (cropTable s s.qz.crop) 0 2) ++
      ((List.range (min (rdN p 1 1) (32 - first))).flatMap (fun k => qzStatusEntry s (first + k))))

/-- The entry of a channel in a part. -/
def partEntry (p : QzPart) (ch : Nat) : QzEntry := nth p.entries ch ⟨0, 0, 0, 0, 0, 0, 0, 0, 0, 0, 0, 0, 0⟩

/-- The sums of one channel over windows (QZ_RESULTS_READ): u32, the corrected sums saturating. -/
def resultsEntry (ws : List QzPart) (ch : Nat) : Bytes :=
  let sum := fun (f : QzEntry → Nat) => ws.foldl (fun a w => a + f (partEntry w ch)) 0
  u8 (ch + 1) ++ zeros 3 ++ u32 (sum QzEntry.grain) ++ u32 (sum QzEntry.mog) ++ u32 (sum QzEntry.unknown) ++
    u32 (sum QzEntry.blind) ++ u32 (satU 32 (sum QzEntry.grainC)) ++ u32 (satU 32 (sum QzEntry.mogC)) ++
    u32 (satU 32 (sum QzEntry.unknownC))

/-- QZ_RESULTS_READ (R137): sums over the last windows held. -/
def bodyQzResultsRead : Body := fun c s =>
  let p := c.payload
  if p.length ≠ 8 || rdN p 4 2 = 0 || 1000 < rdN p 4 2 || !resZero p 6 2 then ans s stBadArg
  else
    let ws := lastN (rdN p 4 2) s.qz.history
    ans s stOk (u32 ((ws.head?.map QzPart.wseq).getD 0) ++ u16 ws.length ++ zeros 2 ++
      ((maskChans 32 (rdN p 0 4)).flatMap (resultsEntry ws)))

/-- QZ_CROP_SELECT at acceptance: BAD_ARG for an index absent from the active profile, REFUSED_STATE in PS (R137). -/
def bodyQzCropSelect : Body :=
  timedBody (fun c s =>
    if c.payload.length ≠ 16 || 7 < rdN c.payload 12 1 || !resZero c.payload 13 3 then some (stBadArg, [])
    else if inPs s then some (stRefusedState, [])
    else if !s.qz.tables.any (fun t => rdN t 2 1 == rdN c.payload 12 1) then some (stBadArg, [])
    else none) frameReply

/-- QZ_CROP_SELECT at its frame of application (R119): the new table classifies from the next cut-off on. -/
def applyQzCropSelect (t : TCmd) (s : State) : State :=
  { s with qz := { s.qz with cropNext := some (rdN t.payload 0 1) } }

/-- The request of QZ_TAP_REQUEST: its mask, or the refusal of a malformed payload or of profile PS. -/
def tapRequest (act : Nat → State → State × Reply) : Body := fun c s =>
  let p := c.payload
  if p.length ≠ 8 || !resZero p 1 3 then ans s stBadArg
  else if inPs s then ans s stRefusedState
  else act (rdN p 4 4) s

/-- The channels of a mask that are not in OFF, as a mask (R137). -/
def acceptedMask (s : State) (mask : Nat) : Nat := maskOf 32 (fun ch => mask.testBit ch && (qzChan s ch).st != .off)

/-- QZ_TAP_REQUEST TAP (R137): held per channel until R124 permits it; a channel in OFF is left out. -/
def bodyQzTapRequestTap : Body := withOp 0 1 (tapRequest fun mask s =>
  let m := acceptedMask s mask
  ans ((maskChans 32 m).foldl (fun st ch => updTap ch (fun t => { t with requested := true }) st) s) stOk (u32 m))

/-- QZ_TAP_REQUEST TEACH (R129): 8 taps on each masked channel, while stationary. -/
def bodyQzTapRequestTeach : Body := withOp 0 2 (tapRequest fun mask s =>
  if !stationary s then ans s stRefusedState
  else
    let m := acceptedMask s mask
    ans ((maskChans 32 m).foldl (fun st ch =>
      updTap ch (fun t => { t with teach := some ⟨0, 0, 0, false⟩, teachFailed := false }) st) s) stOk (u32 m))

/-- QZ_TAP_REQUEST FORGET (R129): both references of every masked channel become 0. -/
def bodyQzTapRequestForget : Body := withOp 0 3 (tapRequest fun mask s =>
  ans (writeSettings ((maskChans 32 mask).flatMap (fun ch => [(pQzRefAmp ch, 0), (pQzRefFreq ch, 0)])) s) stOk (u32 (mask % 2 ^ 32)))

/-- QZ_DIAG_REQUEST (R131): a DIAG is queued on every masked channel that is not in OFF. -/
def bodyQzDiagRequest : Body := fun c s =>
  if c.payload.length ≠ 4 then ans s stBadArg
  else if inPs s then ans s stRefusedState
  else
    let m := acceptedMask s (rdN c.payload 0 4)
    ans ((maskChans 32 m).foldl (fun st ch => updQz ch (fun k => { k with diagReq := true }) st) s) stOk (u32 m)

/-- The code of a raw-capture state. -/
def capCode (st : QzCapSt) : Nat :=
  match st with
  | .idle => 0
  | .armed => 1
  | .running => 2
  | .done => 3
  | .preempted => 4

/-- The response of QZ_RAW_CAPTURE STATUS, START and STOP. -/
def capReply (s : State) : Bytes := u8 (capCode s.qz.cap.st) ++ zeros 3 ++ u32 s.qz.cap.data.length

/-- QZ_RAW_CAPTURE STATUS. -/
def bodyQzRawCaptureStatus : Body := withOp 0 0 fun c s =>
  if c.payload.length ≠ 4 || !resZero c.payload 1 3 then ans s stBadArg else ans s stOk (capReply s)

end Sys2Proof.Machine
end

