-- ==== Sys2Proof/Machine/Mica.lean ====
section
/-!
DEFINITION. Machine/Mica.lean: the banks of Mica, their ports, atomic operations, ECC and power states (R297 to R305).
-/

namespace Sys2Proof.Machine

/-! ### Memory -/

/-- The canonical form: addresses strictly rising, every one at least `lo`, no byte 0. -/
def memWfFrom : Nat → Memory → Bool
  | _, [] => true
  | lo, c :: m => decide (lo ≤ c.1) && c.2 != 0 && memWfFrom (c.1 + 1) m

/-- The canonical form of a memory. -/
def Memory.wf (m : Memory) : Bool := memWfFrom 0 m

/-- The byte at an address; 0 where nothing is listed. -/
def readByte : Memory → Nat → Byte
  | [], _ => 0
  | c :: m, a => if c.1 = a then c.2 else readByte m a

/-- A byte written; writing 0 removes the entry. -/
def writeByte (a : Nat) (b : Byte) : Memory → Memory
  | [] => if b = 0 then [] else [(a, b)]
  | c :: m =>
    if a < c.1 then (if b = 0 then c :: m else (a, b) :: c :: m)
    else if a = c.1 then (if b = 0 then m else (a, b) :: m)
    else c :: writeByte a b m

/-- Bytes written from an address upward. -/
def writeBytes (a : Nat) : Bytes → Memory → Memory
  | [], m => m
  | b :: bs, m => writeBytes (a + 1) bs (writeByte a b m)

/-- Bytes read from an address upward. -/
def readBytes (m : Memory) (a n : Nat) : Bytes := (List.range n).map (fun k => readByte m (a + k))

/-- A memory without the bytes of a span. -/
def clearSpan (lo hi : Nat) (m : Memory) : Memory := m.filter (fun c => decide (c.1 < lo) || decide (hi ≤ c.1))

/-! ### Banks -/

/-- The state with Mica changed. -/
def updMc (f : Mica → Mica) (s : State) : State := { s with mc := f s.mc }

/-- Bank `b`. -/
def bankOf (s : State) (b : Nat) : Bank := nth s.mc.banks b bank0

/-- The state with one bank changed. -/
def updMcBank (b : Nat) (f : Bank → Bank) (s : State) : State := updMc (fun m => { m with banks := updAt m.banks b f }) s

/-- Whether a bank serves accesses: ON and zeroed (R301, Table 11-3). -/
def bankServes (s : State) (b : Nat) : Bool := (bankOf s b).st == .on && (bankOf s b).ready

/-- The loss count of a master at a bank (R300). -/
def lossOf (s : State) (b m : Nat) : Nat := (getKey (16 * b + m) s.mc.losses).getD 0

/-- A master that is not served loses one more cycle; at 64 it is promoted, which is counted (R300). -/
def lose (b m : Nat) (s : State) : State :=
  let n := lossOf s b m + 1
  updMc (fun c => { c with
    losses := setKey (16 * b + m) n c.losses
    promotions := if n = 64 then updAt c.promotions m (fun k => wrapU 32 (k + 1)) else c.promotions }) s

/-- A master that is served starts its loss count afresh. -/
def served (b m : Nat) (s : State) : State := updMc (fun c => { c with losses := c.losses.filter (fun x => x.1 != 16 * b + m) }) s

/-- The request that a port serves: the lowest promoted master, else the lowest (R300). -/
def winner (s : State) (b : Nat) (rs : List MicaReq) : Option MicaReq :=
  match (sortBy MicaReq.master (rs.filter (fun r => decide (64 ≤ lossOf s b r.master)))).head? with
  | some r => some r
  | none => (sortBy MicaReq.master rs).head?

/-- How many further cycles an access occupies its bank: one for a write of fewer than 8 bytes (R300). -/
def extraCycles (r : MicaReq) : Nat := match r.write with | some w => if w.length < 8 then 1 else 0 | none => 0

/-- An access that is served: the word read, or the bytes written within the word; a corrected error is counted (R302, R303). -/
def access (b : Nat) (r : MicaReq) (s : State) : State :=
  let s1 := if r.single && r.write.isNone then
      updMc (fun c => { c with corrected := wrapU 32 (c.corrected + 1) }) (updMcBank b (fun k => { k with corrected := satU 16 (k.corrected + 1) }) s)
    else s
  match r.write with
  | some w => updMc (fun c => { c with
      mem := writeBytes r.addr (w.take (8 - r.addr % 8)) c.mem, answers := c.answers ++ [⟨r.master, [], false⟩] }) s1
  | none => updMc (fun c => { c with answers := c.answers ++ [⟨r.master, readBytes c.mem (r.addr / 8 * 8) 8, false⟩] }) s1

/-- An access that is not performed: a read returns 0 with an access error, a write is discarded, and the event names master and bank
(R301; log entry 32 for DATA). -/
def accessError (b : Nat) (r : MicaReq) (s : State) : State :=
  happen detBankAccessError 0 (r.master + 256 * b)
    (updMc (fun c => { c with answers := c.answers ++ [⟨r.master, zeros 8, true⟩] }) s)

/-- One cycle of port B, or of a single port: the winner is served, every other requester loses the cycle. -/
def portCycle (b : Nat) (rs : List MicaReq) (s : State) : State :=
  if 0 < (bankOf s b).busyB then
    rs.foldl (fun st r => lose b r.master st) (updMcBank b (fun k => { k with busyB := k.busyB - 1 }) s)
  else match winner s b rs with
    | none => s
    | some w =>
      let s1 := access b w (served b w.master (updMcBank b (fun k => { k with busyB := extraCycles w }) s))
      (rs.filter (fun r => r.master != w.master)).foldl (fun st r => lose b r.master st) s1

/-- Whether two requests name one word and either writes (R298). -/
def sameWord (a b : MicaReq) : Bool := a.addr / 8 == b.addr / 8 && (a.write.isSome || b.write.isSome)

/-- One cycle of a bank (R298 to R301). Port A of banks 0–3 serves M0, which never waits; on a clash of words port B waits a cycle. M0
reaches no other bank. -/
def bankCycle (b : Nat) (rs : List MicaReq) (s : State) : State :=
  let s0 := updMc (fun c => { c with answers := [] }) s
  let mine := rs.filter (fun r => r.addr / 1048576 == b && decide (r.master ≤ 8))
  let a := mine.find? (fun r => r.master == 0)
  let others := mine.filter (fun r => r.master != 0)
  if !bankServes s b || forced s detBankAccessError 0 then mine.foldl (fun st r => accessError b r st) s0
  else if b < 4 then
    let s1 := match a with | some r => access b r s0 | none => s0
    if (bankOf s1 b).busyB = 0 && (a.bind (fun r => (winner s1 b others).map (sameWord r))).getD false then others.foldl (fun st r => lose b r.master st) s1
    else portCycle b others s1
  else portCycle b others s0

/-- MICA_ACCESS (R297 to R301, R303). An address outside 0x0000_0000–0x03FF_FFFF does not exist. -/
def execMicaAccess (bank : Fin 64) (reqs : List MicaReq) (s : State) : Host.Outcome State Fault Refusal :=
  if reqs.any (fun r => decide (67108864 ≤ r.addr)) then .fault .outsideMica else .next (bankCycle bank.val reqs s)

/-- The width in bytes of an atomic operation. -/
def opWidth (op : MicaOp) : Nat := match op with | .add32 | .swap32 => 4 | .add64 | .swap64 => 8

/-- The value an atomic operation leaves (R302). -/
def opResult (op : MicaOp) (old value : Nat) : Nat :=
  match op with
  | .add32 => wrapU 32 (old + value)
  | .add64 => wrapU 64 (old + value)
  | .swap32 => wrapU 32 value
  | .swap64 => wrapU 64 value

/-- MICA_ATOMIC (R302): performed at the bank, which it occupies for 2 cycles; the old value is returned. -/
def execMicaAtomic (master : Fin 9) (op : MicaOp) (addr value : Nat) (s : State) : Host.Outcome State Fault Refusal :=
  let b := addr / 1048576
  let w := opWidth op
  let s0 := updMc (fun c => { c with answers := [] }) s
  if 67108864 ≤ addr then .fault .outsideMica
  else .next (if master.val = 0 || addr % w ≠ 0 then
      updMc (fun c => { c with answers := [⟨master.val, zeros w, true⟩] }) s0
    else if !bankServes s b then accessError b ⟨master.val, addr, none, false⟩ s0
    else
      let old := readBytes s.mc.mem addr w
      updMc (fun c => { c with
          mem := writeBytes addr (leN w (opResult op (natOfLe old) value)) c.mem, answers := [⟨master.val, old, false⟩] })
        (served b master.val (updMcBank b (fun k => { k with busyB := 1 }) s0)))

/-! ### Power states (R305) -/

/-- A bank's transition of Table 11-3; a request that the table does not list changes nothing. -/
def bankPower (b : Nat) (next : BankSt) (s : State) : State :=
  match (bankOf s b).st, next with
  | .on, .ret => updMcBank b (fun k => { k with st := .ret }) s
  | .ret, .on => updMcBank b (fun k => { k with st := .on, scrub := true }) s
  | .off, .on => updMcBank b (fun k => { k with st := .on, ready := false }) s
  | .on, .off | .ret, .off =>
    updMc (fun c => { c with mem := clearSpan (1048576 * b) (1048576 * (b + 1)) c.mem })
      (updMcBank b (fun k => { k with st := .off, ready := false, scrub := false }) s)
  | _, _ => s

/-- BANK_POWER_REQUEST (R305). -/
def execBankPowerRequest (bank : Fin 64) (next : BankSt) (s : State) : Host.Outcome State Fault Refusal := .next (bankPower bank.val next s)

/-- BANK_ZERO_DONE (R305): a bank powered up from OFF holds zeros and accepts access. -/
def execBankZeroDone (bank : Fin 64) (s : State) : Host.Outcome State Fault Refusal :=
  .next (if (bankOf s bank.val).st = .on then updMcBank bank.val (fun k => { k with ready := true }) s else s)

/-- L0 or L1: all banks go ON and are zeroed; the counts since L1 start again. -/
def micaReset (s : State) : State :=
  updMc (fun c => { c with
    banks := List.replicate 64 bank0, mem := [], losses := [], promotions := List.replicate 9 0, answers := []
    corrected := 0, uncorrectable := 0, badAddr := 0, badFrame := 0, badPart := none, scrubAt := 0, lines := 0, passAt := s.clk.ms
    ring := .free, ringSince := s.clk.ms, stagingWaits := false, served := List.replicate 8 s.clk.ms, starved := List.replicate 8 none
    calibrating := none, flight := none, flushed := 0, mirrorq := [] }) s

/-- D8 goes off, as in standby: the content is lost (Table 11-3). -/
def micaOff (s : State) : State :=
  updMc (fun c => { c with banks := List.replicate 64 { bank0 with st := .off, ready := false }, mem := [] }) s

/-! ### Scrub (R304) -/

/-- The next line of a bank in ON from a line upward, wrapping; by fuel over banks. -/
def nextLine : Nat → State → Nat → Nat
  | 0, _, l => l
  | n + 1, s, l =>
    let l1 := l % 1048576
    if (bankOf s (l1 / 16384)).st = .on then l1 else nextLine n s ((l1 / 16384 + 1) * 16384)

/-- One line scrubbed: the words corrected are counted; a pass ends after the last line of the last bank in ON. -/
def scrubLine (corrected : Nat) (s : State) : State :=
  let l := nextLine 64 s s.mc.scrubAt
  let b := l / 16384
  let n := min corrected 8
  let nx := nextLine 64 s (l + 1)
  let s1 := updMcBank b (fun k => { k with corrected := satU 16 (k.corrected + n), scrub := k.scrub && l % 16384 != 16383 }) s
  updMc (fun c => { c with
    corrected := wrapU 32 (c.corrected + n)
    scrubAt := nx
    lines := if nx ≤ l then 0 else c.lines + 1
    passAt := if nx ≤ l then s.clk.ms else c.passAt
    served := if nx ≤ l then updAt c.served 0 (fun _ => s.clk.ms) else c.served }) s1

/-- A bank that returns to ON from RET is scrubbed in full before the pass goes on elsewhere. -/
def scrubFirst (s : State) : State :=
  match s.mc.banks.findIdx? (fun b => b.scrub && b.st == .on) with
  | some b => if s.mc.scrubAt / 16384 = b then s else updMc (fun c => { c with scrubAt := 16384 * b }) s
  | none => s

end Sys2Proof.Machine
end

