-- ==== Sys2Proof/Machine/Yield.lean ====
section
/-!
DEFINITION. Machine/Yield.lean: yield records (R160 to R163), map storage by field (R164), coverage (R165, R166) and their
commands, and CF_STATUS.
-/

namespace Sys2Proof.Machine

/-! ### Collecting the second -/

/-- Whether the module is the yield module: its profile declares BR1 or BR2 (R160). -/
def yieldModule (s : State) : Bool := (sensOf s 5 1).isSome || (sensOf s 5 2).isSome

/-- One frame added to a second (R161): signals 1, 3 and 6, the flags, and whether the supervisor was out. -/
def secondAdd (s : State) (x : SecondSum) : SecondSum :=
  { x with
    flow := x.flow + (sig s 1).raw
    moist := if (sig s 3).fresh then x.moist + (sig s 3).raw else x.moist
    moistN := if (sig s 3).fresh then x.moistN + 1 else x.moistN
    loss := x.loss + (sig s 6).raw
    degraded := x.degraded || s.cf.degraded || !(sig s 1).fresh
    unloading := x.unloading || unloading s
    frames := x.frames + 1
    outage := x.outage || !s.rs.supUp }

/-- FIX of a solution type (Table 8-3); `last` for dead reckoning. -/
def fixOf (type last : Nat) : Nat :=
  if type = 0 then 0 else if type ≤ 2 then 1 else if type = 3 then 2 else if type = 4 then 3 else last

/-- The navigation history takes the solution of the record at 10 Hz, 60 s deep, while the supervisor runs (R162). -/
def navKeep (s : State) : State :=
  let g := s.gr.cur.gnss
  let f := fixOf g.type s.cf.lastFix
  let due := match s.cf.nav.getLast? with
    | some n => decide (n.frame + 100 ≤ g.epochFrame)
    | none => true
  if s.rs.supUp && decide (1 ≤ g.type) then
    { s with cf := { s.cf with
        lastFix := f
        nav := if due then
            pushRing 601 s.cf.nav ⟨g.epochFrame, g.lat, g.lon, g.height, g.heading, g.speed, f, g.type == 5⟩
          else s.cf.nav } }
  else s

/-- Changes between cutting and not cutting, with their frames. -/
def cutKeep (s : State) : State :=
  let c := cutting s
  if s.cf.cuts.getLast?.map (·.2) = some c then s
  else { s with cf := { s.cf with cuts := pushRing 601 s.cf.cuts (s.clk.frame, c) } }

/-- The second in progress in one frame: it starts at a multiple of 1,000 and closes after its last frame; the last 60 closed
seconds wait for their records (R160, R161, R163). -/
def secondFrame (s : State) : State :=
  let s1 := cutKeep (navKeep s)
  let x := secondAdd s1 (if s.clk.frame % 1000 = 0 then second0 s.clk.frame else s1.cf.second)
  if s.clk.frame % 1000 = 999 && yieldModule s then
    { s1 with cf := { s1.cf with second := second0 (s.clk.frame + 1), closedSecs := pushRing 60 s1.cf.closedSecs x } }
  else { s1 with cf := { s1.cf with second := x } }

/-! ### Placement -/

/-- Linear interpolation, truncated (DEDUCED, log entry 24). -/
def lerp (a b : Int) (num den : Nat) : Int := if den = 0 then a else a + Int.tdiv ((b - a) * num) den

/-- Heading interpolated along the shorter way, 0–35,999 (DEDUCED, log entry 24). -/
def lerpHeading (a b : Int) (num den : Nat) : Int :=
  let d := (b - a + 18000) % 36000 - 18000
  (lerp a (a + d) num den) % 36000

/-- The navigation solution at a frame: interpolated between the samples on both sides of it (R162); none without both. -/
def solutionAt (nav : List NavSample) (t : FrameNo) : Option NavSample :=
  match (nav.filter (fun n => decide (n.frame ≤ t))).getLast?, nav.find? (fun n => decide (t ≤ n.frame)) with
  | some a, some b =>
    let num := t - a.frame
    let den := b.frame - a.frame
    some ⟨t, lerp a.lat b.lat num den, lerp a.lon b.lon num den, lerp a.height b.height num den,
      lerpHeading a.heading b.heading num den, lerp a.speed b.speed num den, (lerp a.fix b.fix num den).toNat, a.est || b.est⟩
  | _, _ => none

/-- Whether the module was cutting at a frame (R162). -/
def cuttingAt (cuts : List (FrameNo × Bool)) (t : FrameNo) : Bool :=
  match (cuts.filter (fun c => decide (c.1 ≤ t))).getLast? with
  | some c => c.2
  | none => match cuts.head? with
    | some c => c.2
    | none => true

/-- The point `ahead` and `right` of a solution. -/
def pointAt (n : NavSample) (ahead right : Int) : Int × Int :=
  if ahead = 0 ∧ right = 0 then (n.lat, n.lon)
  else (Config.pointLat n.lat n.lon n.heading ahead right, Config.pointLon n.lat n.lon n.heading ahead right)

/-- The row and column of a point (R165). -/
def northEast (g : Grid) (lat lon : Int) : Int × Int :=
  (Int.tdiv ((lat - g.lat0) * g.nscale) 1000, Int.tdiv ((lon - g.lon0) * g.escale) 1000)

/-- Whether a row and column lie in the extent (R165). -/
def inExtent (g : Grid) (r c : Int) : Bool := decide (0 ≤ r) && decide (r < g.rows) && decide (0 ≤ c) && decide (c < g.cols)

/-- Whether a cell is covered. -/
def covered (g : Grid) (r c : Nat) : Bool := bit ((getKey r g.cells).getD 0) c

/-- The segments of the cutter bar, from the left end: centre in mm to the right, and width in cm (R162). -/
def segments (width : Nat) : List (Int × Nat) :=
  (List.range ((width + 49) / 50)).map (fun k =>
    let w := min 50 (width - 50 * k)
    (-(5 * width : Nat) + (500 * k + 5 * w : Nat), w))

/-- The cell that a segment's centre lies in. -/
def segCell (g : Grid) (n : NavSample) (ahead right : Int) : Int × Int :=
  let p := pointAt n ahead right
  let q := northEast g p.1 p.2
  (q.1 / 500, q.2 / 500)

/-- The effective cut width in cm, and whether a segment lay outside the extent (R162, R165). -/
def cutWidth (grid : Option Grid) (n : NavSample) (ahead : Int) (width : Nat) : Nat × Bool :=
  match grid with
  | none => (width, false)
  | some g => (segments width).foldl (fun acc sg =>
      let c := segCell g n ahead sg.1
      if inExtent g c.1 c.2 then (if covered g c.1.toNat c.2.toNat then acc else (acc.1 + sg.2, acc.2))
      else (acc.1 + sg.2, true)) (0, false)

/-! ### Fields and coverage -/

/-- A field of the map by its ID, the module's own before a mirrored one. -/
def findField (s : State) (id : Nat) : Option MapField :=
  (s.cf.fields.find? (fun f => f.id == id && !f.mirror)).orElse (fun _ => s.cf.fields.find? (fun f => f.id == id))

/-- The module's own field by its ID. -/
def ownField (s : State) (id : Nat) : Option MapField := s.cf.fields.find? (fun f => f.id == id && !f.mirror)

/-- The state with the module's own field of an ID changed. -/
def updField (id : Nat) (f : MapField → MapField) (s : State) : State :=
  { s with cf := { s.cf with fields := s.cf.fields.map (fun x => if x.id = id && !x.mirror then f x else x) } }

/-- The records held in all fields. -/
def totalRecs (s : State) : Nat := (s.cf.fields.map (fun f => f.recs.length)).sum

/-- The oldest closed field, erased whole with its grid; field 0 keeps its last hour (R164). None when nothing can be erased. -/
def eraseOldest (s : State) : Option State :=
  let can := s.cf.fields.filter (fun f => !(f.id == s.cf.openField && !f.mirror) && (f.id != 0 || decide (3600 < f.recs.length)))
  match sortBy MapField.closed can with
  | [] => none
  | f :: _ =>
    let fs := if f.id = 0 then s.cf.fields.map (fun x => if x = f then { x with recs := lastN 3600 x.recs, grid := none } else x)
      else s.cf.fields.filter (fun x => x != f)
    some (happen detMapFieldErased 0 0 { s with cf := { s.cf with fields := fs } })

/-- Fields erased until a condition holds, at most `n` times (R164). -/
def makeRoom (ok : State → Bool) : Nat → State → Option State
  | 0, s => if ok s then some s else none
  | n + 1, s => if ok s then some s else (eraseOldest s).bind (makeRoom ok n)

/-- Whether one more record fits (R164). -/
def recFits (s : State) : Bool := decide (totalRecs s < 89478485)

/-- The open field exists; field 0 is made when it first takes a record. -/
def withOpenField (s : State) : State :=
  match ownField s s.cf.openField with
  | some _ => s
  | none => { s with cf := { s.cf with fields := s.cf.fields ++ [⟨s.cf.openField, [], none, s.cf.closings, 0, false⟩] } }

/-- Coverage-outside-extent, once per field (R165). -/
def outsideOnce (id : Nat) (s : State) : State :=
  match (ownField s id).bind MapField.grid with
  | some g =>
    if g.outside then s
    else happen detCoverageOutsideExtent 0 0 (updField id (fun f => { f with grid := some { g with outside := true } }) s)
  | none => s

/-- The covered cells of a grid. -/
def coveredCells (g : Grid) : Nat := (g.cells.map (fun r => ((List.range g.cols).filter (bit r.2)).length)).sum

/-- Cells of a row set, with the change stamp when any changed (R166). -/
def setCells (row mask stamp : Nat) (g : Grid) : Grid :=
  let old := (getKey row g.cells).getD 0
  if old ||| mask = old then g
  else { g with cells := setKey row (old ||| mask) g.cells, stamps := setKey row stamp g.stamps }

/-- Whether a point lies on the left of, or on, a directed edge. -/
def edgeSide (a b p : Int × Int) : Int := (b.2 - a.2) * (p.1 - a.1) - (b.1 - a.1) * (p.2 - a.2)

/-- Whether a point lies in a quadrilateral, its edges included. -/
def inQuad (q : List (Int × Int)) (p : Int × Int) : Bool :=
  let sides := (List.range 4).map (fun k => edgeSide (nth q k p) (nth q ((k + 1) % 4) p) p)
  sides.all (fun x => decide (0 ≤ x)) || sides.all (fun x => decide (x ≤ 0))

/-- The cells of a range of rows and columns whose centres lie in a quadrilateral, a row with its mask; cells outside the
extent are ignored and reported. -/
def quadCells (g : Grid) (q : List (Int × Int)) : List (Nat × Nat) × Bool :=
  let ns := q.map (·.1)
  let es := q.map (·.2)
  let r0 := (ns.foldl min (nth ns 0 0)) / 500
  let r1 := (ns.foldl max (nth ns 0 0)) / 500
  let c0 := (es.foldl min (nth es 0 0)) / 500
  let c1 := (es.foldl max (nth es 0 0)) / 500
  let lo := fun (x : Int) => (max 0 x).toNat
  let rows := (List.range g.rows).filter (fun r => decide (lo r0 ≤ r) && decide ((r : Int) ≤ r1))
  let cols := (List.range g.cols).filter (fun c => decide (lo c0 ≤ c) && decide ((c : Int) ≤ c1))
  (rows.map (fun r => (r, cols.foldl (fun m c =>
      if inQuad q ((500 * r + 250 : Nat), (500 * c + 250 : Nat)) then m + 2 ^ c else m) 0)),
    !(inExtent g r0 c0 && inExtent g r1 c1))

/-- COVERAGE_MARK (R166): when the record of second `frame` is written, the cells between the bars of the seconds three and
four before it are marked in the open field's grid. -/
def coverageMark (frame : FrameNo) (s : State) : State :=
  match (ownField s s.cf.openField).bind MapField.grid, s.cf.bars.find? (fun b => b.frame + 4000 == frame),
      s.cf.bars.find? (fun b => b.frame + 3000 == frame) with
  | some g, some a, some b =>
    if a.ok && b.ok then
      let q := [northEast g a.leftLat a.leftLon, northEast g a.rightLat a.rightLon, northEast g b.rightLat b.rightLon,
        northEast g b.leftLat b.leftLon]
      let m := quadCells g q
      let stamp := wrapU 32 (s.cf.stamp + 1)
      let s1 := updField s.cf.openField (fun f => { f with grid := some (m.1.foldl (fun g r => setCells r.1 r.2 stamp g) g) })
        { s with cf := { s.cf with stamp := stamp } }
      if m.2 then outsideOnce s.cf.openField s1 else s1
    else s
  | _, _, _ => s

/-! ### The record -/

/-- A value in an unsigned field of `w` bits; one that the field cannot hold is unstated and free (log entry 3). -/
def fitField (w : Nat) (v : Int) (s : State) : Nat × State :=
  if 0 ≤ v ∧ v < (2 ^ w : Nat) then (v.toNat, s) else ((freshNat s).1 % 2 ^ w, (freshNat s).2)

/-- The values that the record of a second holds besides its place: MASS with its carry, MOIST with MOIST_VALID (R161). -/
def massOf (x : SecondSum) (carry : Int) : Int × Int := (Int.tdiv (x.flow + carry) 1000, Int.tmod (x.flow + carry) 1000)

/-- mass_std (R161). -/
def massStd (mass moist std : Int) (seen : Bool) : Int := if seen then Int.tdiv (mass * (10000 - moist)) (10000 - std) else mass

/-- YIELD (R161). -/
def yieldOf (std area : Int) : Int := if 100 ≤ area then Int.tdiv (std * 10000) area else 0

/-- Where a second's record is placed: the solution, none for a second that an outage covered (R163), and whether the module
was cutting. -/
def placeOf (s : State) (x : SecondSum) : Option NavSample × Bool :=
  let tp := x.frame + 500 - paramN s pCfDelay
  (if x.outage then none else solutionAt s.cf.nav tp, cuttingAt s.cf.cuts tp)

/-- The first 46 bytes of a yield record (Table 5-4), with its bar line and whether a segment lay outside the extent. -/
def yieldRecord (s : State) (x : SecondSum) : Bytes × BarLine × Bool × State :=
  let place := placeOf s x
  let n := place.1.getD ⟨0, 0, 0, 0, 0, 0, 0, false⟩
  let width := paramN s pCfHeaderWidth
  let ahead := param s pCfHeaderOffset
  let grid := (ownField s s.cf.openField).bind MapField.grid
  let wd := if place.1.isNone then (width, false) else cutWidth grid n ahead width
  let wid : Nat := if place.2 then wd.1 else 0
  let centre := if place.1.isNone then (0, 0) else pointAt n ahead 0
  let mass := (massOf x s.cf.carry).1
  let moistValid := decide (0 < x.moistN)
  let moist := if moistValid then Int.tdiv x.moist x.moistN else s.cf.lastMoist
  let seen := s.cf.moistSeen || moistValid
  let area : Int := Int.tdiv (n.speed * wid) 1000
  let fix := if place.1.isNone then 0 else n.fix
  let est := place.1.isSome && n.est
  let quality := fix % 4 + 4 * b2n moistValid + 8 * b2n (bit s.cf.calibrated (cropIdx s)) + 16 * b2n (!place.2) +
    32 * b2n x.unloading + 64 * b2n x.degraded + 128 * b2n est
  let m := fitField 16 moist s
  let a := fitField 16 area m.2
  let y := fitField 32 (if place.2 then yieldOf (massStd mass moist (param s pCfStdMoisture) seen) area else 0) a.2
  let recs := ((ownField s s.cf.openField).map (fun f => f.recs.length)).getD 0
  let left := pointAt n ahead (-(5 * width : Nat))
  let right := pointAt n ahead (5 * width : Nat)
  (u64 x.frame ++ leI 4 centre.1 ++ leI 4 centre.2 ++ leI 2 (satI 16 (Int.tdiv n.height 100)) ++ leI 2 n.heading ++ leI 4 mass ++
      u16 m.1 ++ leI 2 n.speed ++ u16 wid ++ u16 a.1 ++ u32 y.1 ++ leI 2 (if x.frames = 0 then 0 else Int.tdiv x.loss x.frames) ++
      leI 2 (param s pCfDelay) ++ u8 quality ++ u8 (cropIdx s) ++ u16 s.cf.openField ++ u16 recs,
    ⟨x.frame, place.2 && decide (1 ≤ fix) && !est, left.1, left.2, right.1, right.2⟩, wd.2, y.2)

/-- A yield record with its CRC. -/
def sealRecord (b : Bytes) : Bytes := b ++ u16 (crc16 b)

/-- A record is appended to the open field and waits for its flush (R160, R164). -/
def appendRecord (b : Bytes) (s : State) : State :=
  match makeRoom recFits 1024 (withOpenField s) with
  | some s1 => updField s1.cf.openField (fun f => { f with recs := f.recs ++ [b], unflushed := f.unflushed + 1 }) s1
  | none => s

/-- YIELD_RECORD_WRITE (R160 to R163, R166): the record of the oldest closed second. -/
def yieldWrite (x : SecondSum) (rest : List SecondSum) (s : State) : State :=
  let r := yieldRecord s x
  let rec0 := sealRecord r.1
  let s1 := r.2.2.2
  let s2 := { s1 with cf := { s1.cf with
    closedSecs := rest
    carry := (massOf x s.cf.carry).2
    lastMoist := if 0 < x.moistN then Int.tdiv x.moist x.moistN else s.cf.lastMoist
    moistSeen := s.cf.moistSeen || decide (0 < x.moistN)
    bars := pushRing 5 s.cf.bars r.2.1 } }
  let s2 := if forced s2 detMapFieldErased 0 then (eraseOldest s2).getD s2 else s2
  let s3 := appendRecord rec0 s2
  let s4 := if r.2.2.1 || forced s3 detCoverageOutsideExtent 0 then outsideOnce s.cf.openField s3 else s3
  let s5 := if x.outage then s4 else coverageMark x.frame s4
  notifyAll nYieldRecord (fun f _ => f == 65535 || f == s.cf.openField) ⟨x.frame, rec0⟩ s5

/-- YIELD_RECORD_WRITE. -/
def execYieldRecordWrite (s : State) : Host.Outcome State Fault Refusal :=
  .next (match s.cf.closedSecs with
    | x :: rest => if s.rs.supUp then yieldWrite x rest s else s
    | [] => s)

/-! ### Commands -/

/-- CF_STATUS (Table 5-5). -/
def bodyCfStatus : Body := emptyPayload fun _ s =>
  let v := fun k => (sig s k).raw
  let st := match s.cf.cal.st with | .disarmed => 1 | .settle => 2 | .measure => 3 | .load => 4
  let op := match s.cf.opt.st with | .off => 1 | .observe => 2 | .settle => 3 | .measure => 4 | .hold => 5
  let f := ownField s s.cf.openField
  let flags := b2n s.cf.degraded + 2 * b2n (!(sig s 1).fresh) + 4 * b2n (!(sig s 2).fresh) + 8 * b2n (!(sig s 3).fresh) +
    16 * b2n (!(sig s 4).fresh) + 32 * b2n (!(sig s 5).fresh) + 64 * b2n (s.gr.cur.gnss.type == 0) + 128 * b2n (cutting s) +
    256 * b2n (unloading s) + 512 * b2n (level s)
  ans s stOk (leI 4 (v 1) ++ leI 4 (v 2) ++ leI 2 (satI 16 (v 3)) ++ leI 2 (v 4) ++ leI 2 (v 5) ++ leI 2 (v 6) ++ leI 4 (v 9) ++
    leI 2 (param s pCfDelay) ++ u8 s.cf.corr ++ u8 st ++ leI 4 (flowGain s) ++ u16 s.cf.cal.accepted ++ u16 s.cf.cal.rejected ++
    u8 op ++ u8 (if s.cf.opt.st = .settle || s.cf.opt.st = .measure then s.cf.opt.ptr else 0) ++ u16 s.cf.openField ++
    u32 ((f.map (fun x => x.recs.length)).getD 0) ++ u32 (89478485 - totalRecs s) ++
    u32 (((f.bind MapField.grid).map coveredCells).getD 0) ++ u16 flags ++ u8 s.cf.lastOp ++ u8 s.cf.lastResult)

/-- YIELD_READ (Table 5-5). -/
def bodyYieldRead : Body := fun c s =>
  let p := c.payload
  let n := rdN p 8 2
  if p.length ≠ 12 || !resZero p 2 2 || !resZero p 10 2 || n = 0 || 1000 < n then ans s stBadArg
  else
    let first := rdN p 4 4
    let recs := ((((findField s (rdN p 0 2)).map MapField.recs).getD []).drop first).take n
    ans s stOk (u32 first ++ u16 recs.length ++ zeros 2 ++ recs.flatten)

/-- The reply of COVERAGE_PUT: covered cells of the field and the change stamp. -/
def coverReply (id : Nat) (s : State) : State × Reply :=
  ans s stOk (u32 ((((ownField s id).bind MapField.grid).map coveredCells).getD 0) ++ u32 s.cf.stamp)

/-- The open field closes: it becomes the newest of the closed ones. -/
def closeField (s : State) : State :=
  { updField s.cf.openField (fun f => { f with closed := s.cf.closings + 1 }) s with
    cf := { (updField s.cf.openField (fun f => { f with closed := s.cf.closings + 1 }) s).cf with
      openField := 0, closings := s.cf.closings + 1 } }

/-- The geometry that FIELD_OPEN gives (R165). -/
def gridOf (p : Bytes) : Grid :=
  { lat0 := rdI p 8 4, lon0 := rdI p 12 4, nscale := rdN p 16 4, escale := rdN p 20 4, rows := rdN p 24 2, cols := rdN p 26 2,
    cells := [], stamps := [], outside := false }

/-- Whether a field and a grid for an ID fit the store of 1,024 fields and 16 grids (R164). -/
def fieldFits (id : Nat) (s : State) : Bool :=
  decide ((s.cf.fields.filter (fun f => !(f.id == id && !f.mirror))).length < 1024) &&
    decide ((s.cf.fields.filter (fun f => !(f.id == id && !f.mirror) && f.grid.isSome)).length < 16)

/-- The grid of a field opened again: its new geometry, with its cells unless CLEAR (R165, R166). -/
def reopened (clear : Bool) (g : Grid) (old : Option Grid) : Grid :=
  match old with
  | some o => if clear then g else { g with cells := o.cells, stamps := o.stamps }
  | none => g

/-- FIELD_OPEN makes the field the open one, any other having been closed (R164, R165). -/
def openField (id : Nat) (clear : Bool) (g : Grid) (s : State) : State :=
  let s2 := { s with cf := { s.cf with openField := id, moistSeen := false } }
  updField id (fun f => { f with grid := some (reopened clear g f.grid) }) (withOpenField s2)

/-- COVERAGE_PUT FIELD_OPEN (R164, R165, R167). -/
def bodyCoveragePutFieldOpen : Body := withOp 0 1 fun c s =>
  let p := c.payload
  let id := rdN p 4 2
  let g := gridOf p
  if p.length ≠ 28 || !resZero p 1 3 || id = 0 || 2 ≤ rdN p 6 1 || !resZero p 7 1 || g.nscale < 1000 || 12000 < g.nscale ||
      12000 < g.escale || g.rows = 0 || 8192 < g.rows || g.cols = 0 || 8192 < g.cols then ans s stBadArg
  else if inPs s then ans s stRefusedState
  else match makeRoom (fieldFits id) 1040 (if s.cf.openField = id then s else closeField s) with
    | none => ans s stNoResource
    | some s1 => coverReply id (openField id (bit (rdN p 6 1) 0) g s1)

/-- COVERAGE_PUT FIELD_CLOSE. -/
def bodyCoveragePutFieldClose : Body := withOp 0 2 fun c s =>
  if c.payload.length ≠ 4 || !resZero c.payload 1 3 then ans s stBadArg
  else if inPs s then ans s stRefusedState
  else
    let id := s.cf.openField
    coverReply id (if id = 0 then s else closeField s)

/-- The mask that CELLS bits give a row from its first column on, LSB first, without the columns outside the extent; and
whether any was outside. -/
def cellsMask (g : Grid) (p : Bytes) (row first n : Nat) : Nat × Bool :=
  (List.range n).foldl (fun acc k =>
    if bit (rdN p (12 + k / 8) 1) (k % 8) then
      if row < g.rows && first + k < g.cols then (acc.1 + 2 ^ (first + k), acc.2) else (acc.1, true)
    else acc) (0, false)

/-- COVERAGE_PUT CELLS (R166, R167): cells are set, never cleared. -/
def bodyCoveragePutCells : Body := withOp 0 3 fun c s =>
  let p := c.payload
  let id := rdN p 4 2
  let n := rdN p 10 2
  if !resZero p 1 3 || n = 0 || 8192 < n || p.length ≠ 12 + (n + 7) / 8 || id = 0 || id ≠ s.cf.openField then ans s stBadArg
  else if inPs s then ans s stRefusedState
  else match (ownField s id).bind MapField.grid with
    | none => ans s stBadArg
    | some g =>
      let m := cellsMask g p (rdN p 6 2) (rdN p 8 2) n
      let stamp := wrapU 32 (s.cf.stamp + 1)
      let s1 := updField id (fun f => { f with grid := some (setCells (rdN p 6 2) m.1 stamp g) })
        { s with cf := { s.cf with stamp := stamp } }
      coverReply id (if m.2 then outsideOnce id s1 else s1)

/-- Bits packed LSB first. -/
def packBits (bs : List Bool) : Bytes :=
  if bs.isEmpty then [] else (chunks 8 bs).map (fun l => BitVec.ofNat 8 (maskOf 8 (fun k => nth l k false)))

/-- COVERAGE_GET BITS (Table 5-5, R167). -/
def bodyCoverageGetBits : Body := withOp 0 1 fun c s =>
  let p := c.payload
  let id := rdN p 4 2
  let n := rdN p 10 2
  if p.length ≠ 12 || !resZero p 1 3 || n = 0 || 8192 < n || id = 0 || id ≠ s.cf.openField then ans s stBadArg
  else match (ownField s id).bind MapField.grid with
    | none => ans s stBadArg
    | some g =>
      let row := rdN p 6 2
      let col := rdN p 8 2
      ans s stOk (u16 row ++ u16 col ++ u16 n ++ packBits ((List.range n).map (fun k =>
        row < g.rows && col + k < g.cols && covered g row (col + k))))

/-- COVERAGE_GET CHANGES (Table 5-5): the rows that changed after a stamp. -/
def bodyCoverageGetChanges : Body := withOp 0 2 fun c s =>
  let p := c.payload
  if p.length ≠ 12 || !resZero p 1 3 || !resZero p 6 2 then ans s stBadArg
  else match (findField s (rdN p 4 2)).bind MapField.grid with
    | none => ans s stBadArg
    | some g =>
      let rows := (g.stamps.filter (fun r => decide (rdN p 8 4 < r.2))).map (·.1)
      ans s stOk (u32 s.cf.stamp ++ u16 rows.length ++ zeros 2 ++ (rows.take 16000).flatMap u16)

/-- The 32-byte header of an export file. -/
def exportHeader (tag : Bytes) (f : MapField) : Bytes :=
  let g := f.grid.getD ⟨0, 0, 0, 0, 0, 0, [], [], false⟩
  tag ++ u16 f.id ++ zeros 2 ++ leI 4 g.lat0 ++ leI 4 g.lon0 ++ u32 g.nscale ++ u32 g.escale ++ u16 g.rows ++ u16 g.cols ++
    u32 f.recs.length

/-- The export file of a field: records, or the grid (Table 5-5). -/
def exportFile (fmt : Nat) (f : MapField) : Option Bytes :=
  if fmt = 1 then some (exportHeader [0x47, 0x59, 0x4C, 0x44] f ++ f.recs.flatten)
  else f.grid.map (fun g => exportHeader [0x47, 0x43, 0x4F, 0x56] f ++
    (List.range g.rows).flatMap (fun r => packBits ((List.range g.cols).map (covered g r))))

/-- MAP_EXPORT (Table 5-5). -/
def bodyMapExport : Body := fun c s =>
  let p := c.payload
  let fmt := rdN p 2 1
  let len := rdN p 8 4
  if p.length ≠ 12 || !resZero p 3 1 || fmt = 0 || 2 < fmt || len = 0 || 65520 < len then ans s stBadArg
  else match (findField s (rdN p 0 2)).bind (exportFile fmt) with
    | none => ans s stBadArg
    | some file => ans s stOk (u32 (rdN p 4 4) ++ u32 file.length ++ slice file (rdN p 4 4) len)

/-! ### Resets -/

/-- What an L2 does here (R163): the supervisor's history, live calibration and the delay series restart. -/
def cropRestart (s : State) : State :=
  { s with cf := { s.cf with
      nav := [], lastFix := 0, bars := [], rotor10 := [], flow10 := [], rotorSum := 0, flowSum := 0, tenth := 0, estFrames := 0
      avg := none, tank := []
      cal := { s.cf.cal with st := .disarmed } } }

end Sys2Proof.Machine
end

