-- ==== Sys2Proof/Machine/Storage.lean ====
section
/-!
DEFINITION. Machine/Storage.lean: the shared ring with the raw capture, the flush of map records and their mirror, the background activities
and the memory commands (R136, R307 to R314, R316, Table 11-9).
-/

namespace Sys2Proof.Machine

/-! ### The shared ring (R307) -/

/-- The banks of the shared ring. -/
def ringBanks : List Nat := (List.range 16).map (· + 32)

/-- The ring enters a state now; its banks go ON for a user. -/
def ringEnter (r : RingSt) (s : State) : State :=
  let s1 := updMc (fun c => { c with ring := r, ringSince := s.clk.ms }) s
  if r = .free then s1 else ringBanks.foldl (fun st b => bankPower b .on st) s1

/-- The ring is zeroed. -/
def ringZero (s : State) : State := updMc (fun c => { c with mem := clearSpan 33554432 50331648 c.mem }) s

/-- The capture changed. -/
def updCap (f : QzCapture → QzCapture) (s : State) : State := { s with qz := { s.qz with cap := f s.qz.cap } }

/-- The raw capture ends as PREEMPTED and its blocks are discarded (R136); the raw-capture-preempted event is recorded. -/
def capturePreempt (s : State) : State :=
  happen detRawCapturePreempted 0 0 (updCap (fun k => { k with st := .preempted, data := [] }) s)

/-- An update staging asks for the ring (Table 11-5): it has it, or it waits until the ring is FREE. -/
def ringStaging (s : State) : State :=
  match s.mc.ring with
  | .free => ringEnter .staging s
  | .staging => s
  | .capture =>
    if !stationary s then updMc (fun c => { c with stagingWaits := true }) s
    else ringEnter .staging (ringZero (capturePreempt s))

/-- The ring becomes FREE; a staging that waits for it takes it. -/
def ringFree (s : State) : State :=
  if s.mc.stagingWaits then ringEnter .staging (updMc (fun c => { c with stagingWaits := false }) s) else ringEnter .free s

/-- A staging is complete, aborted or superseded: the ring is zeroed and FREE. -/
def ringRelease (s : State) : State :=
  if s.mc.ring = .staging then ringEnter .free (ringZero s) else updMc (fun c => { c with stagingWaits := false }) s

/-- SHARED_RING_TIMER (R307): 10 s FREE puts the banks in RET; 600 s after done a capture gives the ring up. -/
def execSharedRingTimer (s : State) : Host.Outcome State Fault Refusal :=
  .next (match s.mc.ring with
    | .free => if elapsed s s.mc.ringSince 10000 then ringBanks.foldl (fun st b => bankPower b .ret st) s else s
    | .capture => if s.qz.cap.st = .done && elapsed s s.mc.ringSince 600000 then
        ringFree (updCap (fun k => { k with st := .idle, data := [] }) s) else s
    | .staging => s)

/-! ### Raw capture (R136, Table 4-13) -/

/-- QZ_RAW_CAPTURE START. -/
def bodyQzRawCaptureStart : Body := withOp 0 1 fun c s =>
  let b := c.payload
  let mask := rdN b 4 4
  let k := (maskChans 32 mask).length
  let d := rdN b 16 4
  if b.length ≠ 20 || !resZero b 1 3 || k = 0 || 4 < k || d = 0 || 16777216 < k * d * 3758 then ans s stBadArg
  else if inPs s then ans s stRefusedState
  else if s.mc.ring = .staging then ans s stNoResource
  else if s.qz.cap.st = .armed || s.qz.cap.st = .running then ans s stBusy
  else
    let first := if rdN b 8 8 = 0 then c.arrival + 1 else rdN b 8 8
    let s1 := ringEnter .capture (updCap (fun _ => ⟨.armed, mask, first, d, 0, []⟩) s)
    ans s1 stOk (capReply s1)

/-- QZ_RAW_CAPTURE STOP. -/
def bodyQzRawCaptureStop : Body := withOp 0 2 fun c s =>
  if c.payload.length ≠ 4 || !resZero c.payload 1 3 then ans s stBadArg
  else if inPs s then ans s stRefusedState
  else
    let s1 := updCap (fun k => { k with st := .idle, data := [] }) s
    let s2 := if s.mc.ring = .capture then ringFree s1 else s1
    ans s2 stOk (capReply s2)

/-- QZ_RAW_CAPTURE READ: the last byte of a capture that is done gives the ring up (R307). -/
def bodyQzRawCaptureRead : Body := withOp 0 3 fun c s =>
  let b := c.payload
  let off := rdN b 4 4
  let len := rdN b 8 4
  if b.length ≠ 12 || !resZero b 1 3 || len = 0 || 65520 < len || s.qz.cap.data.length < off then ans s stBadArg
  else
    let body := u32 off ++ slice s.qz.cap.data off len
    let whole := s.qz.cap.st == .done && decide (s.qz.cap.data.length ≤ off + len)
    ans (if whole && s.mc.ring = .capture then ringFree (updCap (fun k => { k with st := .idle, data := [] }) s) else s) stOk body

/-- RAW_CAPTURE_DONE (R136): the duration has ended; the ring holds the data. -/
def execRawCaptureDone (s : State) : Host.Outcome State Fault Refusal :=
  .next (if s.qz.cap.st = .running && s.qz.cap.length ≤ s.qz.cap.taken then
    updMc (fun c => { c with ringSince := s.clk.ms }) (updCap (fun k => { k with st := .done }) s) else s)

/-! ### Map flush (R312) and mirror (R314) -/

/-- Records that are not in NAND yet. -/
def unflushed (s : State) : Nat := (s.cf.fields.map MapField.unflushed).sum

/-- Whether a page is to be written: a page is full, the flush period has passed, or a MAP_FLUSH waits. -/
def flushDue (s : State) : Bool :=
  s.cf.fields.any (fun f => decide (85 ≤ f.unflushed)) || elapsed s (nth s.mc.served 1 0) (1000 * paramN s pMcMapFlushPeriod) ||
    someoneWaits (fun w => w == .mapFlush) s || s.pw.sb.ph == .entering

/-- MAP_FLUSH_PAGE (R312): one page of up to 85 records is handed to NAND. -/
def execMapFlushPage (s : State) : Host.Outcome State Fault Refusal :=
  .next (if churnNand s && s.mc.flight.isNone && flushDue s then
    match s.cf.fields.find? (fun f => decide (0 < f.unflushed)) with
    | some f => updMc (fun c => { c with flight := some (f.id, min 85 f.unflushed) }) s
    | none => updMc (fun c => { c with served := updAt c.served 1 (fun _ => s.clk.ms) }) s
    else s)

/-- MAP_FLUSH is answered once every record is durable: records flushed and the frame (Table 11-9). -/
def answerFlush (s : State) : State :=
  if unflushed s = 0 then
    updMc (fun c => { c with flushed := 0 }) (resolve (fun w => w == .mapFlush) stOk (u32 s.mc.flushed ++ u64 s.mc.flushFrame) s)
  else s

/-- A page is durable: its records have left the buffer, and with MC.MAP_MIRROR the mirror is due a copy. -/
def pageDurable (s : State) : State :=
  match s.mc.flight with
  | none => s
  | some (id, n) =>
    let own := (ownField s id).getD ⟨id, [], none, 0, 0, false⟩
    let first := own.recs.length - own.unflushed
    let s1 := { s with cf := { s.cf with fields := s.cf.fields.map (fun f =>
      if f.id = id && !f.mirror then { f with unflushed := f.unflushed - n } else f) } }
    answerFlush (updMc (fun c => { c with
      flight := none, flushed := c.flushed + n, flushFrame := s.clk.frame, served := updAt c.served 1 (fun _ => s.clk.ms)
      mirrorq := if paramN s pMcMapMirror = 0 then c.mirrorq else c.mirrorq ++ [(id, first, n)] }) s1)

/-- A power loss or an L1 loses the records that wait for their flush (R312). -/
def mapLose (s : State) : State :=
  { s with mc := { s.mc with flight := none, flushed := 0 }, cf := { s.cf with fields := s.cf.fields.map (fun f =>
    { f with recs := f.recs.take (f.recs.length - f.unflushed), unflushed := 0 }) } }

/-- The mirror frame of some records: the index of the first, then up to 30 records (log entry 33). -/
def mirrorData (s : State) (id first n : Nat) : Bytes :=
  u32 first ++ ((((ownField s id).map MapField.recs).getD []).drop first |>.take n).flatten

/-- The pages due to the mirror go out as Skim class 3, at most 30 records a frame, FLOW_ID the field ID (R314). -/
def mirrorSend (s : State) : State :=
  match s.mc.mirrorq with
  | [] => s
  | (id, first, n) :: rest =>
    let dst := paramN s pMcMapMirror
    let seq := ((s.fb.txSeq.find? (fun x => x.1 == dst && x.2.1 == 3 && x.2.2.1 == id)).map (fun x => x.2.2.2)).getD 0
    let k := min 30 n
    let r := skimSend dst 3 id (mirrorData s id first k) s
    if dst = 0 then updMc (fun c => { c with mirrorq := [] }) s
    else if r.2 then
      updMc (fun c => { c with mirrored := c.mirrored ++ [(id, seq, first, k)]
                               mirrorq := if n ≤ 30 then rest else (id, first + k, n - k) :: rest }) r.1
    else s

/-- A mirror frame is stored in the mirrored field of that ID (R314). -/
def mirrorStore (id : Nat) (data : Bytes) (s : State) : State :=
  let first := rdN data 0 4
  let recs := (chunks 48 (data.drop 4)).filter (fun r => r.length == 48)
  let s1 := if s.cf.fields.any (fun f => f.id == id && f.mirror) then s
    else { s with cf := { s.cf with fields := s.cf.fields ++ [⟨id, [], none, s.cf.closings, 0, true⟩] } }
  { s1 with cf := { s1.cf with fields := s1.cf.fields.map (fun f =>
    if f.id = id && f.mirror then
      { f with recs := f.recs.take first ++ List.replicate (first - f.recs.length) (zeros 48) ++ recs ++ f.recs.drop (first + recs.length) }
    else f) } }

/-- A gap on a mirror flow: the mirror asks for the missing frames on the same flow, first SEQ and count (log entry 33). -/
def mirrorAsk (src id first n : Nat) (s : State) : State := (skimSend src 3 id (u32 first ++ u32 n) s).1

/-- The mirror's request for missing frames: the records they held are due again, from NAND. -/
def mirrorAgain (id first n : Nat) (s : State) : State :=
  let lost := s.mc.mirrored.filter (fun x => x.1 == id && decide (first ≤ x.2.1) && decide (x.2.1 < first + n))
  updMc (fun c => { c with mirrorq := c.mirrorq ++ lost.map (fun x => (id, x.2.2.1, x.2.2.2)) }) s

/-- MAP_MIRROR_PAGE (R314). -/
def execMapMirrorPage (rx : Option (Nat × Bytes)) (s : State) : Host.Outcome State Fault Refusal :=
  .next (if !s.rs.supUp then s
    else match rx with
      | none => mirrorSend s
      | some p => mirrorStore p.1 p.2 s)

/-! ### Background activities (R308, R309) -/

/-- An activity of Table 11-6 has been served. -/
def serve (a : Nat) (s : State) : State := updMc (fun c => { c with served := updAt c.served a (fun _ => s.clk.ms) }) s

/-- The guarantee of an activity in ms (Table 11-6). -/
def guaranteeOf (s : State) (a : Nat) : Nat :=
  match a with
  | 0 => 21600000
  | 1 => 1000 * paramN s pMcMapFlushPeriod
  | 2 => 3600000
  | 3 => 600000
  | 4 => 600000
  | 5 => 86400000
  | 6 => 600000
  | _ => 60000

/-- When an activity was last on time: with nothing to do the flush and the compactions are on time now. -/
def lastServed (s : State) (a : Nat) : Nat :=
  if a = 0 then s.mc.passAt
  else if a = 1 && unflushed s = 0 then s.clk.ms
  else nth s.mc.served a 0

/-- The lag of an activity in s, 0 when on time (Table 11-9). -/
def lagOf (s : State) (a : Nat) : Nat := (s.clk.ms - lastServed s a - guaranteeOf s a + 999) / 1000

/-- CHURN_STARVATION (R309): recorded at most once per activity per hour, with the activity in DATA byte 0 and the lag in bytes 1–3 (log
entry 32). -/
def execChurnStarvation (activity : Fin 8) (s : State) : Host.Outcome State Fault Refusal :=
  let a := activity.val
  .next (if churnOn s && nandOn s && (decide (0 < lagOf s a) || forced s detChurnStarvation 0) &&
      (match nth s.mc.starved a none with | some t => elapsed s t 3600000 | none => true) then
    happen detChurnStarvation 0 (a + 256 * lagOf s a) (updMc (fun c => { c with starved := updAt c.starved a (fun _ => some s.clk.ms) }) s)
    else s)

/-- WEAR_COMPACTION (R309): a page is moved; the backlog is cleared when none is left. -/
def execWearCompaction (left : Nat) (s : State) : Host.Outcome State Fault Refusal :=
  .next (if churnNand s && left = 0 then serve 2 s else s)

/-- TAP_CALIBRATION_COPY (R135, R309). -/
def execTapCalibrationCopy (s : State) : Host.Outcome State Fault Refusal := .next (if churnNand s then serve 3 (quartzCopyCal s) else s)

/-- Whether two bridge channels feed one crop-flow signal: the flow signal's two, or the tank's cells. -/
def sameSignal (s : State) (a b : Nat) : Bool :=
  let src := fun (c : Nat) => (sensOf s 5 c).isSome
  a != b && src a && src b && (decide (a ≤ 2) == decide (b ≤ 2))

/-- CONVERTER_SELF_CALIBRATION (R309): one converter goes without samples for 1.0 ms; never two bridge converters of one crop-flow signal at
once. -/
def execConverterSelfCalibration (kind : Fin 3) (ch : Nat) (s : State) : Host.Outcome State Fault Refusal :=
  let k := 256 * kind.val + ch
  .next (if (match s.mc.calibrating with | some c => c.1 == 0 && kind.val == 0 && sameSignal s c.2 ch | none => false) || !churnOn s then s
    else
      let s1 := updMc (fun c => { c with calibrating := some (kind.val, ch), converters := setKey k s.clk.ms c.converters }) s
      serve 4 s1)

/-- ALMANAC_COLLECTION (R309): a page of a system's navigation data. -/
def execAlmanacCollection (sys : Fin 5) (page : Bytes) (s : State) : Host.Outcome State Fault Refusal :=
  .next (if churnOn s then serve 5 (updMc (fun c => { c with almanac := setKey sys.val page c.almanac }) s) else s)

/-- VSUP_NORMAL: the guarantees of the activities that write NAND, suspended in VSUP_REDUCED, begin again (R389). -/
def churnResume (s : State) : State := serve 1 (serve 2 (serve 3 (serve 7 s)))

/-- TELEMETRY (R309, R313): a 256-byte summary to the log area, until the NAND has reached 100 % of its life. -/
def execTelemetry (s : State) : Host.Outcome State Fault Refusal :=
  .next (if churnNand s && decide (s.mc.life < 100) && elapsed s (nth s.mc.served 7 0) 60000 then
    serve 7 (updMc (fun c => { c with telemetry := (c.telemetry + 256) % 2147483648 }) s) else s)

/-- NAND_LIFE_CHECK (R313): an estimate at MC.LIFE_WARN is an event, 100 % the event again. -/
def execNandLifeCheck (life : Nat) (s : State) : Host.Outcome State Fault Refusal :=
  let v := measured s detNandLife 0 (min 100 life)
  let s1 := updMc (fun c => { c with life := min 100 life }) s
  let s2 := detect detNandLife 0 (decide ((paramN s pMcLifeWarn : Int) ≤ v)) v.toNat s1
  .next (if s.rs.supUp then (if 100 ≤ v && isPresent s detNandLife 0 && decide (s.mc.life < 100) then raise detNandLife 0 100 true s2 else s2)
    else s)

/-! ### Commands (Table 11-9) -/

/-- The owner of a bank: the row of Table 11-4. -/
def bankOwner (b : Nat) : Nat :=
  if b < 2 then 1 else if b < 4 then 2 else if b < 8 then 3 else if b < 12 then 4 else if b < 16 then 5 else if b < 20 then 6
  else if b < 24 then 7 else if b < 32 then 8 else if b < 48 then 9 else if b < 56 then 10 else if b < 60 then 11 else 12

/-- The code of a bank's power state. -/
def bankCode (b : BankSt) : Nat := match b with | .on => 1 | .ret => 2 | .off => 3

/-- MC_STATUS (Table 11-9). -/
def bodyMcStatus : Body := emptyPayload fun _ s =>
  let m := s.mc
  ans s stOk (u32 m.corrected ++ u32 m.uncorrectable ++ u32 m.badAddr ++ u64 m.badFrame ++ u32 m.lines ++ u32 ((s.clk.ms - m.passAt) / 1000) ++
    ((List.range 9).map (fun k => u32 (nth m.promotions k 0))).flatten ++ ((List.range 8).map (fun a => u32 (lagOf s a))).flatten ++
    ((List.range 64).map (fun b => u8 (bankCode (bankOf s b).st) ++ u8 (bankOwner b) ++ u16 (bankOf s b).corrected)).flatten)

/-- MiB that bytes take, rounded up. -/
def mib (n : Nat) : Nat := (n + 1048575) / 1048576

/-- The code of a ring state. -/
def ringCode (r : RingSt) : Nat := match r with | .free => 1 | .capture => 2 | .staging => 3

/-- STORE_STATUS (Table 11-9). The space of images is their own; profiles, settings, libraries and log count what the state holds of them
(log entry 34). -/
def bodyStoreStatus : Body := emptyPayload fun _ s =>
  let m := s.mc
  let recs := (s.cf.fields.map (fun f => f.recs.length)).sum
  let profiles := ((s.pf.slots.flatten).map (fun c => c.image.length)).sum + 24 * s.pf.settings.length
  let lib := (s.mc.almanac.map (fun p => p.2.length)).sum
  let log := (s.ev.archive.map (fun r => 44 + 12 * r.items.length)).sum + 32 * s.ev.archivePriv.length + m.telemetry
  ans s stOk (u8 m.life ++ u8 (ringCode m.ring) ++ zeros 2 ++
    u32 1024 ++ u32 (64 - mib profiles) ++ u32 (64 - mib lib) ++ u32 (4096 - mib (48 * recs)) ++
    u32 (1024 - mib ((s.gr.capture.map (fun c => c.data.length)).getD 0)) ++ u32 (2048 - mib log) ++
    u32 (48 * unflushed s) ++ u64 m.flushFrame ++ u32 m.nandRetries ++ u32 m.mramRetries ++
    u32 s.ev.fixed.length ++ u32 s.ev.snaps.length)

/-- MC_BANK_STATE (R316). -/
def bodyMcBankState : Body := fun c s =>
  let b := rdN c.payload 0 1
  let k := rdN c.payload 1 1
  if c.payload.length ≠ 4 || 63 < b || k = 0 || 3 < k || !resZero c.payload 2 2 then ans s stBadArg
  else if !(decide (60 ≤ b) || (decide (32 ≤ b) && decide (b < 48) && s.mc.ring == .free)) then ans s stRefusedState
  else
    let s1 := bankPower b (if k = 1 then .on else if k = 2 then .ret else .off) s
    ans s1 stOk (u8 (bankCode (bankOf s b).st) ++ u8 (bankCode (bankOf s1 b).st) ++ zeros 2)

/-- MAP_FLUSH (R312): answered at once when nothing waits, else when the records are durable. -/
def bodyMapFlush : Body := emptyPayload fun _ s =>
  if unflushed s = 0 then ans s stOk (u32 0 ++ u64 s.mc.flushFrame)
  else if someoneWaits (fun w => w == .mapFlush) s then (s, .wait .mapFlush)
  else (updMc (fun m => { m with flushed := 0 }) s, .wait .mapFlush)

end Sys2Proof.Machine
end

