-- ==== Sys2Proof/Machine/Power.lean ====
section
/-!
DEFINITION. Machine/Power.lean: supply excursions, sensor supplies, domains, temperature and stop inputs (R388 to R393, R401 to R404), with
POWER_STATUS and DOMAIN_STATE, and the acceptance of STANDBY_ENTER (R396).
-/

namespace Sys2Proof.Machine

/-- The state with the power part changed. -/
def updPw (f : Power → Power) (s : State) : State := { s with pw := f s.pw }

/-- The state with the analog part changed. -/
def updAn (f : Analog → Analog) (s : State) : State := { s with an := f s.an }

/-- The state of a domain. -/
def domOf (s : State) (d : Nat) : DomSt := nth s.pw.doms d .off

/-- A domain takes a state. -/
def setDom (d : Nat) (st : DomSt) (s : State) : State := updPw (fun p => { p with doms := updAt p.doms d (fun _ => st) }) s

/-! ### Supply excursions (Table 15-3) -/

/-- VSUP_REDUCED_ENTRY: VSUP below 8.0 V for 1 ms (R388, R389): the panel and NAND work is deferred. -/
def execVsupReducedEntry (mv us : Nat) (s : State) : Host.Outcome State Fault Refusal :=
  .next (
    if mv < 8000 && 1000 ≤ us && !s.pw.vsupReduced then
      let red (st : DomSt) : DomSt := if st = .on then .reduced else st
      panelPause (updPw (fun p => { p with
        vsupReduced := true, doms := updAt (updAt p.doms 11 red) 12 red }) (updAn (fun a => { a with vsup := mv }) s))
    else s)

/-- VSUP_NORMAL_RETURN: VSUP at or above 8.3 V for 10 ms: deferred work resumes (R388, R389). -/
def execVsupNormalReturn (mv ms : Nat) (s : State) : Host.Outcome State Fault Refusal :=
  .next (
    if 8300 ≤ mv && 10 ≤ ms && s.pw.vsupReduced then
      let full (st : DomSt) : DomSt := if st = .reduced then .on else st
      churnResume (panelResume (updPw (fun p => { p with
        vsupReduced := false, doms := updAt (updAt p.doms 11 full) 12 full }) (updAn (fun a => { a with vsup := mv }) s)))
    else s)

/-- VBAT leaves its range: D9 switches every valve channel and load switch off; no function enters fallback (R390). -/
def vbatLeave (st : VbatSt) (mv : Nat) (s : State) : State :=
  let s1 := updPw (fun p => { p with vbat := st }) (updAn (fun a => { a with vbat := mv, vbatOut := true }) s)
  lsVbatOff ((List.range 12).foldl (fun x ch => vdOff ch x) s1)

/-- VBAT_LOW_ENTRY: VBAT below 6.0 V for 1 ms (R388, R390). -/
def execVbatLowEntry (mv us : Nat) (s : State) : Host.Outcome State Fault Refusal :=
  .next (if mv < 6000 && 1000 ≤ us && s.pw.vbat = .normal then vbatLeave .low mv s else s)

/-- VBAT_HIGH_ENTRY: VBAT above 40.0 V for 50 µs (R388, R390). -/
def execVbatHighEntry (mv us : Nat) (s : State) : Host.Outcome State Fault Refusal :=
  .next (if 40000 < mv && 50 ≤ us && s.pw.vbat = .normal then vbatLeave .high mv s else s)

/-- VBAT_NORMAL_RETURN: from VBAT_LOW at or above 6.5 V, from VBAT_HIGH at or below 38.0 V, for 10 ms: standing load requests turn on afresh
(R388, R390). -/
def execVbatNormalReturn (mv ms : Nat) (s : State) : Host.Outcome State Fault Refusal :=
  .next (
    let back := match s.pw.vbat with
      | .low => decide (6500 ≤ mv)
      | .high => decide (mv ≤ 38000)
      | .normal => false
    if back && 10 ≤ ms then
      lsVbatOn (updPw (fun p => { p with vbat := .normal }) (updAn (fun a => { a with vbat := mv, vbatOut := false }) s))
    else s)

/-- VBAT_UV_OV_DETECT: VBAT below PW.VBAT_UV for 100 ms, or above PW.VBAT_OV for 10 ms (R390). -/
def execVbatUvOvDetect (mv ms : Nat) (s : State) : Host.Outcome State Fault Refusal :=
  let uv := measured s detVbatUndervoltage 0 mv
  let ov := measured s detVbatOvervoltage 0 mv
  let s1 := updAn (fun a => { a with vbat := mv }) s
  let s2 := if uv < param s pPwVbatUv && 100 ≤ ms then beginCond detVbatUndervoltage 0 uv.toNat s1 else s1
  .next (if param s pPwVbatOv < ov && 10 ≤ ms then beginCond detVbatOvervoltage 0 ov.toNat s2 else s2)

/-- A frame's sample of VBAT ends the undervoltage or overvoltage condition when it is back in range (R322, R390). -/
def vbatSample (mv : Nat) (s : State) : State :=
  let s1 := updAn (fun a => { a with vbat := mv }) s
  let s2 := if param s pPwVbatUv ≤ measured s detVbatUndervoltage 0 mv then detect detVbatUndervoltage 0 false 0 s1 else s1
  if measured s detVbatOvervoltage 0 mv ≤ param s pPwVbatOv then detect detVbatOvervoltage 0 false 0 s2 else s2

/-! ### Sensor supplies (R393) -/

/-- The rating of a sensor supply: mA and mV. -/
def supRating (k : Nat) : Nat × Nat := if k < 4 then (60, 5000) else (40, 10000)

/-- The state with one sensor supply changed. -/
def updSup (k : Nat) (f : SensorSupply → SensorSupply) (s : State) : State := updPw (fun p => { p with sups := updAt p.sups k f }) s

/-- A sensor supply. -/
def supOf (s : State) (k : Nat) : SensorSupply := nth s.pw.sups k ⟨.off, 0, false, 0⟩

/-- The supplies follow PW.SUP_ENABLE and D10: an enabled one switches on, any other off with its fault ended. -/
def supApply (s : State) : State :=
  (List.range 6).foldl (fun st k =>
    if bit (paramN st pPwSupEnable) k && domOf st 10 == .on then
      if (supOf st k).st = .off then updSup k (fun x => { x with st := .on, short := false }) st else st
    else detect detSensorSupplyFault (k + 1) false 0 (updSup k (fun _ => ⟨.off, 0, false, 0⟩) st)) s

/-- SENSOR_SUPPLY_FAULT: after 10 ms at 125 % of its rating, or at a voltage more than 0.5 V above its setting, a supply switches off (R393). -/
def execSensorSupplyFault (sup : Fin 6) (ma mv ms : Nat) (s : State) : Host.Outcome State Fault Refusal :=
  let k := sup.val
  let r := supRating k
  let on := (supOf s k).st == .on || (supOf s k).st == .limit
  let short := decide (r.2 + 500 < mv)
  let limited := decide (r.1 * 125 ≤ ma * 100)
  .next (
    if on && (short || (limited && 10 ≤ ms) || forcedFor s detSensorSupplyFault (k + 1) 10) then
      beginCond detSensorSupplyFault (k + 1) 0 (updSup k (fun _ => ⟨.fault, 0, short, s.clk.ms⟩) s)
    else if on then updSup k (fun x => { x with ma := ma, st := if limited then .limit else .on }) s
    else s)

/-- The regulator of a faulted supply is on again and the condition ends. -/
def supBack (k : Nat) (s : State) : State :=
  detect detSensorSupplyFault (k + 1) false 0 (updSup k (fun x => { x with st := .on, short := false }) s)

/-- SENSOR_SUPPLY_RETRY: every 1,000 ms a faulted supply tries until it stays out of limit for 10 ms (R393). -/
def execSensorSupplyRetry (sup : Fin 6) (limited : Bool) (s : State) : Host.Outcome State Fault Refusal :=
  let x := supOf s sup.val
  .next (
    if x.st = .fault && !x.short && elapsed s x.since 1000 then
      if limited || forced s detSensorSupplyFault (sup.val + 1) then updSup sup.val (fun y => { y with since := s.clk.ms }) s
      else supBack sup.val s
    else s)

/-- SENSOR_SUPPLY_SHORT_REMOVED: the regulator is off only until the short to VBAT is removed (R393). -/
def execSensorSupplyShortRemoved (sup : Fin 6) (s : State) : Host.Outcome State Fault Refusal :=
  .next (if (supOf s sup.val).st = .fault && (supOf s sup.val).short then supBack sup.val s else s)

/-! ### Temperature and stop inputs (R402, R403) -/

/-- A temperature in 0.1 °C that has held for some ms: the detector at PW.TEMP_WARN for 1 s, gating 10 K above, its end 5 K below (R402). -/
def tempJudge (t : Int) (ms : Nat) (s : State) : State :=
  let warn := param s pPwTempWarn
  let v := measured s detModuleOverTemperature 0 t
  let s1 := updAn (fun a => { a with temp := t }) s
  let s2 := if warn ≤ v && 1000 ≤ ms then beginCond detModuleOverTemperature 0 v.toNat s1
    else if v < warn then detect detModuleOverTemperature 0 false 0 s1 else s1
  updPw (fun p => { p with gated := decide (warn + 100 ≤ v) || (p.gated && !decide (v < warn - 50)) }) s2

/-- OVER_TEMPERATURE (R402). -/
def execOverTemperature (t : Int) (ms : Nat) (s : State) : Host.Outcome State Fault Refusal := .next (tempJudge t ms s)

/-- STOP_INPUT_CHANGE: an asserted input removes its group's gate supply; the two inputs' disagreement is timed (R403, R425). -/
def execStopInputChange (group : Fin 2) (asserted : Bool) (s : State) : Host.Outcome State Fault Refusal :=
  let b := group.val == 1
  let s1 := updAn (fun a => if b then { a with stopB := asserted } else { a with stopA := asserted }) s
  let s2 := if asserted then lsStop b (vdStop b s1) else s1
  .next (
    if s2.an.stopA = s2.an.stopB then
      (fun x => if forced x detStopANAndStopBNDisagree 0 then x else detect detStopANAndStopBNDisagree 0 false 0 x)
        (updPw (fun p => { p with stopDiff := none }) s2)
    else updPw (fun p => { p with stopDiff := some (p.stopDiff.getD s.clk.ms) }) s2)

/-- STOP_DISCREPANCY: one input asserted and the other not for PW.STOP_DISCREPANCY (R403); with neither the disagreement nor an injection of it
the condition ends. -/
def execStopDiscrepancy (s : State) : Host.Outcome State Fault Refusal :=
  let d := paramN s pPwStopDiscrepancy
  .next (
    if (s.pw.stopDiff.map (fun t => elapsed s t d)).getD false || forcedFor s detStopANAndStopBNDisagree 0 d then
      beginCond detStopANAndStopBNDisagree 0 0 s
    else if s.pw.stopDiff.isNone && !forced s detStopANAndStopBNDisagree 0 then detect detStopANAndStopBNDisagree 0 false 0 s
    else s)

/-- CLK_KEEP_STOP: Basalt counts on its internal oscillator and the RTC is not valid until time is next established (R401). -/
def execClkKeepStop (s : State) : Host.Outcome State Fault Refusal :=
  .next (updPw (fun p => { p with clkKeep := false, rtcValid := false }) s)

/-! ### Commands (Table 15-10) -/

/-- The codes of Table 15-5. -/
def domCode (d : DomSt) : Nat := match d with | .off => 1 | .reset => 2 | .on => 3 | .reduced => 4 | .serviceOff => 5

/-- The codes of a sensor supply's state. -/
def supCode (x : SupSt) : Nat := match x with | .off => 0 | .on => 1 | .limit => 2 | .fault => 3

/-- POWER_STATUS byte 20. -/
def powerFlags (s : State) : Nat :=
  b2n s.pw.vsupReduced + 2 * b2n (s.pw.vbat == .low) + 4 * b2n (s.pw.vbat == .high) + 8 * b2n (decide ((s.an.vbat : Int) < param s pPwVbatUv)) +
    16 * b2n s.pw.gated + 32 * b2n s.an.stopA + 64 * b2n s.an.stopB

/-- POWER_STATUS 0x0E05 (R392, Table 15-10). -/
def bodyPowerStatus : Body := emptyPayload fun _ s =>
  let p := s.pw
  ans s stOk (u16 s.an.vsup ++ u16 s.an.vbat ++ u16 s.an.keep ++ leI 2 s.an.temp ++ u32 p.inMw ++ u32 (p.mw.drop 1).sum ++
    u8 (powerFlags s) ++ u8 p.sb.wakeCause ++ u8 p.sb.lastMode ++ u8 (b2n p.vco + 2 * b2n p.clkKeep + 4 * b2n p.rtcValid) ++
    u64 p.sb.wakeFrame ++ leI 4 (s.gn.time.freq + s.gn.time.steer) ++ u8 (p.wk % 16) ++ zeros 3 ++
    ((List.range 13).map (fun d => u8 d ++ u8 (domCode (domOf s d)) ++ u16 (if d = 0 then 0 else satU 16 (nth p.mw d 0)))).flatten ++
    ((List.range 6).map (fun k => u16 (satU 16 (supOf s k).ma) ++ u8 (supCode (supOf s k).st) ++ zeros 1)).flatten)

/-- A domain goes SERVICE_OFF: its unit leaves as at an L3 (R404). -/
def domainOff (d : Nat) (s : State) : State :=
  let s1 := match d with
    | 5 => quartzStop s
    | 6 => updGn (fun g => { g with ants := g.ants.map (fun a => { a with st := .off, ma := 0, count := 0, trial := 0 }) }) (gnssStop s)
    | 11 => panelLose 0 s
    | _ => s
  supApply (setDom d .serviceOff s1)

/-- A domain is switched on and restarts as at the end of an L3 (R404). -/
def domainOn (d : Nat) (s : State) : State :=
  let s1 := supApply (setDom d (if d = 11 && s.pw.vsupReduced then .reduced else .on) s)
  match d with
  | 5 => quartzStart s1
  | 6 => gnssStart s1
  | 11 => panelRecover (updSp (fun p => if p.st = .fault then p else { p with st := .idle }) s1)
  | _ => s1

/-- DOMAIN_STATE 0x0E06 (R404, Table 15-10). -/
def bodyDomainState : Body := fun c s =>
  let p := c.payload
  let d := rdN p 0 1
  let op := rdN p 1 1
  if p.length ≠ 4 || !resZero p 2 2 || !([5, 6, 10, 11].contains d) || (op ≠ 1 && op ≠ 2) then ans s stBadArg
  else if !inService s || !inPs s || !stationary s then ans s stRefusedState
  else
    let old := domOf s d
    let s1 := if op = 2 then (if old = .serviceOff then s else domainOff d s) else if old = .serviceOff then domainOn d s else s
    ans s1 stOk (u8 (domCode old) ++ u8 (domCode (domOf s1 d)) ++ zeros 2)

/-- Whether a wake mask names a source that the mode allows; CN.WAKE adds the CN1 pattern in bus-listen standby (R396, Table 15-8). -/
def wakeMaskOk (s : State) (mode mask : Nat) : Bool :=
  if mode = 1 then mask % 32 != 0 else mask % 64 != 0 || paramN s pCnWake == 1

/-- STANDBY_ENTER 0x0E04 (R396): accepted with every function idle, the module stationary and no update PREPARED or COMMITTING. Wake inputs
are armed from acceptance. -/
def bodyStandbyEnter : Body := timedBody
  (fun c s =>
    let p := c.payload
    let mode := rdN p 12 1
    let mask := rdN p 13 1
    let alarm := rdN p 16 8
    let at' := match timingOf p with
      | some t => (targetRule c.arrival t.1 t.2.1).2
      | none => 0
    if p.length ≠ 24 || (mode ≠ 1 && mode ≠ 2) || 64 ≤ mask || !resZero p 14 2 || !wakeMaskOk s mode mask ||
        (alarm ≠ 0 && alarm < at' + 10000) then some (stBadArg, [])
    else if !fnsIdle s || !stationary s || commitHeld s || s.pw.sb.ph ≠ .awake then some (stRefusedState, [])
    else none)
  (fun _ t s =>
    (updPw (fun p => { p with sb := { p.sb with
      accepted := true, latched := [], mode := rdN t.payload 0 1, mask := rdN t.payload 1 1, alarm := rdN t.payload 4 8 } }) s, u64 t.frame))

end Sys2Proof.Machine
end

