-- ==== Sys2Proof/Machine/Loops.lean ====
section
/-!
DEFINITION. Machine/Loops.lean: the control law (R91 to R95): coefficient banks, one sample of a loop, bumpless swaps, min-select
groups, and the control digest (R101).
-/

namespace Sys2Proof.Machine

/-! ### Banks (R92) -/

/-- A bank of Table 3-7: coefficients with their shifts, limits and rate. -/
structure Coef where
  kp : Int
  kpS : Nat
  ki : Int
  kiS : Nat
  kd : Int
  kdS : Nat
  kf : Int
  kfS : Nat
  df : Int
  dfS : Nat
  imin : Int
  imax : Int
  umin : Int
  umax : Int
  rate : Int
  deriving DecidableEq, Repr

/-- A bank read from its 48 bytes. -/
def coefOf (b : Bytes) : Coef :=
  { kp := rdI b 0 4, kpS := rdN b 4 1, kiS := rdN b 5 1, kdS := rdN b 6 1, kfS := rdN b 7 1, ki := rdI b 8 4, kd := rdI b 12 4,
    kf := rdI b 16 4, df := rdI b 20 4, dfS := rdN b 24 1, imin := rdI b 28 4, imax := rdI b 32 4, umin := rdI b 36 4,
    umax := rdI b 40 4, rate := rdI b 44 4 }

/-- The entry of a bank pair in a list of them (Table 3-6). -/
def pairIn (banks : List Bytes) (p : Nat) : Option Bytes := banks.find? (fun e => rdN e 0 1 == p)

/-- The active bank of a pair's entry. -/
def activeBank (e : Bytes) : Coef := coefOf (slice e (8 + 48 * (rdN e 2 1 % 2)) 48)

/-- The loop type and active bank of a pair of the working copy; the limit type with nothing set for a pair that does not exist. -/
def pairOf (s : State) (p : Nat) : Nat × Coef :=
  match pairIn s.pf.work.banks p with
  | some e => (rdN e 1 1, activeBank e)
  | none => (6, coefOf [])

/-- Whether a loop type uses the terms KP, KI, KD, KF, DF (Table 3-5). -/
def termsOf (ty : Nat) : List Bool :=
  match ty with
  | 1 => [true, true, false, true, false]
  | 2 => [true, true, true, true, true]
  | 3 => [true, true, false, true, false]
  | 4 => [true, false, false, true, false]
  | 5 => [false, false, false, false, true]
  | _ => [false, false, false, false, false]

/-- Whether every field of a bank lies in its range (Table 3-7). -/
def bankFields (b : Bytes) : Bool :=
  let c := coefOf b
  b.length == 48 && [c.kpS, c.kiS, c.kdS, c.kfS, c.dfS].all (fun s => decide (s ≤ 31)) && resZero b 25 3 && decide (c.imin ≤ c.imax) &&
    decide (c.umin < c.umax) && decide (0 ≤ c.rate)

/-- Whether every coefficient of a term that a loop type does not use is 0 (R91). -/
def bankTerms (ty : Nat) (b : Bytes) : Bool :=
  let c := coefOf b
  (List.zip (termsOf ty) [c.kp, c.ki, c.kd, c.kf, c.df]).all (fun x => x.1 || x.2 == 0)

/-! ### One sample (R91) -/

/-- A loop that starts from an output (R91; from SAFE the safe output, Table 3-9). -/
def loopStart (u : Int) : Loop := ⟨0, 0, 0, u, u, 0, true, .none⟩

/-- The target that R93 chooses, or the one given. -/
def swapTarget (b : Coef) (st : Loop) : Int :=
  match st.swap with
  | .target v => v
  | _ => if st.satPrev = 1 then b.umax else if st.satPrev = -1 then b.umin else st.vPrev

/-- A sample of a loop of types 1 to 4: p, u and the new state (R91). -/
def pidSample (sp fb : Int) (b : Coef) (st : Loop) : Int × Int × Loop :=
  let fbPrev := if st.fresh then fb else st.fbPrev
  let e := sat32 (sp - fb)
  let dr := fxMul (sat32 (fbPrev - fb)) b.kd b.kdS
  let d := sat32 (st.d + fxMul (sat32 (dr - st.d)) b.df b.dfS)
  let p := sat32 (fxMul e b.kp b.kpS + d + fxMul sp b.kf b.kfS)
  let swap := st.swap != .none
  let i := if swap then clampI b.imin b.imax (sat32 (swapTarget b st - p)) else st.i
  let v := sat32 (p + i)
  let sat : Int := if b.umax < v then 1 else if v < b.umin then -1 else 0
  let w := if b.umax < v then b.umax else if v < b.umin then b.umin else v
  let u := if 0 < b.rate then clampI (st.uPrev - b.rate) (st.uPrev + b.rate) w else w
  let di := fxMul e b.ki b.kiS
  let i' := if swap || (sat == 1 && decide (0 < di)) || (sat == -1 && decide (di < 0)) then i
    else clampI b.imin b.imax (sat32 (i + di))
  (p, u, { i := i', d := d, fbPrev := fb, vPrev := v, uPrev := u, satPrev := sat, fresh := false, swap := .none })

/-- A sample of a filter: the d line with dr := sp, from the target where one is set (R91, R93). -/
def filterSample (sp : Int) (b : Coef) (st : Loop) : Int × Int × Loop :=
  let d0 := if st.swap = .none then st.d else swapTarget b st
  let d := sat32 (d0 + fxMul (sat32 (sp - d0)) b.df b.dfS)
  (0, d, { st with i := 0, d := d, vPrev := d, uPrev := d, satPrev := 0, fresh := false, swap := .none })

/-- A sample of a limit: the setpoint clamped. -/
def limitSample (sp : Int) (b : Coef) (st : Loop) : Int × Int × Loop :=
  let u := clampI b.umin b.umax sp
  (0, u, { st with i := 0, vPrev := u, uPrev := u, satPrev := 0, fresh := false, swap := .none })

/-- One sample of a loop of a type: p, u and the new state (R91). -/
def loopSample (ty : Nat) (sp fb : Int) (b : Coef) (st : Loop) : Int × Int × Loop :=
  if ty = 5 then filterSample sp b st else if ty = 6 then limitSample sp b st else pidSample sp fb b st

/-- A losing min-select member after the winner's output is known (R91, R95). -/
def loseTo (ty : Nat) (u p : Int) (b : Coef) (st : Loop) : Loop :=
  if ty = 5 then { st with d := u, uPrev := u, vPrev := u }
  else if ty = 6 then { st with uPrev := u, vPrev := u }
  else { st with i := clampI b.imin b.imax (sat32 (u - p)), uPrev := u, vPrev := u }

/-! ### Slots -/

/-- The loop in a slot. -/
def loopOf (s : State) (slot : Nat) : Loop := (getKey slot s.gr.loops).getD (loopStart 0)

/-- The state with the loop of a slot set. -/
def setLoop (slot : Nat) (l : Loop) (s : State) : State := { s with gr := { s.gr with loops := setKey slot l s.gr.loops } }

/-- The state with the loop of a slot changed. -/
def updLoop (slot : Nat) (f : Loop → Loop) (s : State) : State := setLoop slot (f (loopOf s slot)) s

/-- The slot of a function-table entry. -/
def slotOfFn (e : Bytes) : Nat := rdN e 4 2

/-- Whether a slot is a fast slot (0–63). -/
def isFast (slot : Nat) : Bool := decide (slot < 64)

/-- A min-select member of a group entry: slot, feedback sensor, bank pair, parameter (Table 3-8). -/
def memberOf (g : Bytes) (m : Nat) : Nat × Nat × Nat × Nat :=
  (rdN g (8 + 8 * m) 2, rdN g (10 + 8 * m) 1, rdN g (11 + 8 * m) 1, rdN g (12 + 8 * m) 4)

/-- The members of a group entry. -/
def membersOf (g : Bytes) : List (Nat × Nat × Nat × Nat) := (List.range (min 8 (rdN g 2 1))).map (memberOf g)

/-- The slots of loops that use a bank pair: of functions, of min-select members, of the steering loop. -/
def slotsUsing (s : State) (p : Nat) : List Nat :=
  ((s.pf.work.funcs.filter (fun e => rdN e 27 1 == p)).map slotOfFn) ++
    (s.pf.work.groups.flatMap (fun g => ((membersOf g).filter (fun m => m.2.2.1 == p)).map (·.1))) ++
    (if paramN s pGnSteerPair = p && paramN s pGnSteerSlot != 0 then [paramN s pGnSteerSlot] else [])

/-- One sample of the loop in a slot with a pair: p, u and the state after it. -/
def runSlot (slot pair : Nat) (sp fb : Int) (s : State) : Int × Int × State :=
  let c := pairOf s pair
  let r := loopSample c.1 sp fb c.2 (loopOf s slot)
  (r.1, r.2.1, setLoop slot r.2.2 s)

/-! ### Min-select groups (R94, R95) -/

/-- The feedback a sensor index names: 0 for an open loop. -/
def feedbackOf (s : State) (idx : Nat) : Int := if idx = 255 then 0 else sensScaled s idx

/-- A group's members sampled in order: for each (slot, pair, p, u), and the state. -/
def sampleMembers (ms : List (Nat × Nat × Nat × Nat)) (s : State) : List (Nat × Nat × Int × Int) × State :=
  ms.foldl (fun acc m =>
    let r := runSlot m.1 m.2.2.1 (param acc.2 m.2.2.2) (feedbackOf acc.2 m.2.1) acc.2
    (acc.1 ++ [(m.1, m.2.2.1, r.1, r.2.1)], r.2.2)) ([], s)

/-- The lowest output of a group; its members tie toward the lowest index. -/
def winnerOf (rs : List (Nat × Nat × Int × Int)) : Option (Nat × Int) :=
  rs.zipIdx.foldl (fun best x => match best with
    | some b => if x.1.2.2.2 < b.2 then some (x.2, x.1.2.2.2) else some b
    | none => some (x.2, x.1.2.2.2)) none

/-- One min-select group in a frame: the winner's output is the target's setpoint, the losers follow (R95). -/
def runGroup (g : Bytes) (s : State) : State :=
  let r := sampleMembers (membersOf g) s
  match winnerOf r.1 with
  | none => s
  | some w =>
    let s1 := r.1.zipIdx.foldl (fun st x =>
      if x.2 = w.1 then st
      else
        let c := pairOf st x.1.2.1
        updLoop x.1.1 (loseTo c.1 w.2 x.1.2.2.1 c.2) st) r.2
    match fnEntry s1 (rdN g 1 1) with
    | some e => updFn (rdN g 1 1) (fun f => { f with sp := clampI (rdI e 12 4) (rdI e 16 4) w.2 }) s1
    | none => s1

/-! ### Control digest (R101) -/

/-- A section in its image layout: entry count and entries. -/
def sectionBytes (es : List Bytes) : Bytes := u32 es.length ++ es.flatten

/-- The parameters of a subsystem that the working copy lists: writable and saved in the profile (R56), in ascending ID. -/
def workIds : List Nat :=
  paramRows.flatMap (fun r => if bit r.access 0 && bit r.access 2 then (List.range r.count).map (r.base + ·) else [])

/-- A parameter entry of a profile: ID and value slot (R61). -/
def valueEntry (id : Nat) (v : Int) : Bytes := u32 id ++ slotOf v

/-- The control digest of the working copy. -/
def controlDigest (s : State) : Bytes :=
  let w := s.pf.work
  let ps := (workIds.filter (fun id => id / 16777216 == 3)).map (fun id => valueEntry id (param s id))
  (sha256 (sectionBytes w.funcs ++ sectionBytes w.sensors ++ sectionBytes w.banks ++ sectionBytes w.groups ++ sectionBytes ps)).take 8

end Sys2Proof.Machine
end

