-- ==== Sys2Proof/Machine/Optimizer.lean ====
section
/-!
DEFINITION. Machine/Optimizer.lean: the setting optimizer (R157 to R159) with OPTIMIZER_TARGETS and OPTIMIZER_ENABLE.
-/

namespace Sys2Proof.Machine

/-- The state with the optimizer changed. -/
def updOpt (f : Optimizer → Optimizer) (s : State) : State := { s with cf := { s.cf with opt := f s.cf.opt } }

/-- CF.OPT_STEP_Fn of a function. -/
def optStep (s : State) (f : Nat) : Int := param s (pCfOptStep (f - 1))

/-- Whether the optimizer may move a function: named by OPTIMIZER_ENABLE, in the function table, with a step (R158). -/
def optMoves (s : State) (f : Nat) : Bool := bit s.cf.opt.mask (f - 1) && (fnEntry s f).isSome && optStep s f != 0

/-- The functions that the optimizer may move, ascending. -/
def optFns (s : State) : List Nat := (fnNums s).filter (optMoves s)

/-- Whether a function is excluded by a host FUNCTION_SET (R159). -/
def optHeld (s : State) (f : Nat) : Bool := s.cf.opt.holds.any (fun h => h.1 == f && decide (s.clk.ms < h.2))

/-- The functions that a FUNCTION_SET payload after its prefix names. -/
def setTargets (p : Bytes) : List (Nat × Int) :=
  (List.range (rdN p 0 1)).map (fun k => (rdN p (4 + 8 * k) 1, rdI p (8 + 8 * k) 4))

/-- Whether a host command for a function is pending in the exchange area (R159). -/
def hostPending (s : State) (f : Nat) : Bool :=
  s.mb.exch.any (fun t => !t.internal && t.code == cFunctionSet && (setTargets t.payload).any (fun e => e.1 == f))

/-- A setpoint clamped to SP_MIN–SP_MAX of its function. -/
def clampSp (s : State) (f : Nat) (v : Int) : Int :=
  match fnEntry s f with
  | some e => clampI (rdI e 12 4) (rdI e 16 4) v
  | none => v

/-- Whether a setpoint is at SP_MIN or SP_MAX of its function. -/
def atLimit (s : State) (f : Nat) (v : Int) : Bool :=
  match fnEntry s f with
  | some e => decide (v ≤ rdI e 12 4) || decide (rdI e 16 4 ≤ v)
  | none => true

/-- The optimizer sends a setpoint, never for a function with a host command pending (R159). -/
def optSend (f : Nat) (v : Int) (s : State) : State := if hostPending s f then s else internalSetpoint f (clampSp s f v) s

/-- The pointer moves to the next function the optimizer may move, round the table, with direction +; a full pass without
a kept step holds (Table 5-3). -/
def optAdvance (s : State) : State :=
  let fs := optFns s
  let nxt := (fs.find? (fun f => decide (s.cf.opt.ptr < f))).getD (fs.headD 0)
  let pass := s.cf.opt.passed + 1
  updOpt (fun o => { o with
    ptr := nxt, up := true, sums := [0, 0, 0, 0], n := 0, since := s.clk.ms
    st := if fs.length ≤ pass && !o.kept then .hold else .observe
    passed := if fs.length ≤ pass then 0 else pass
    kept := if fs.length ≤ pass then false else o.kept }) s

/-- The optimizer observes afresh from this instant. -/
def optObserve (s : State) : State :=
  updOpt (fun o => { o with st := .observe, since := s.clk.ms, sums := [0, 0, 0, 0], n := 0 }) s

/-- R157: a window's cost from its means. -/
def optCost (s : State) (loss tp broken mog : Int) : Int :=
  let term := fun (w tgt v : Int) => w * max 0 (v - tgt)
  term (param s pCfWLoss) (param s pCfLossTarget) loss + param s pCfWTp * max 0 (param s pCfTpTarget - tp) / 100 +
    (if paramN s pCfBrokenSensor = 255 then 0 else term (param s pCfWBroken) (param s pCfBrokenTarget) broken) +
    (if paramN s pCfMogqSensor = 255 then 0 else term (param s pCfWMog) (param s pCfMogTarget) mog)

/-- The cost of the window now summed; the means truncated (R157). -/
def windowCost (s : State) : Int :=
  let m := fun k => if s.cf.opt.n = 0 then 0 else Int.tdiv (nth s.cf.opt.sums k 0) s.cf.opt.n
  optCost s (m 0) (m 1) (m 2) (m 3)

/-- Whether the 1 s means of the flow stay within ±20 % of their mean, and that mean is at least 2 × CF.FLOW_MIN (R157). -/
def flowSteady (means : List Int) (fmin : Int) : Bool :=
  let sum := means.sum
  let n : Int := means.length
  !means.isEmpty && decide (2 * fmin * n ≤ sum) && means.all (fun m => decide (5 * ((m * n - sum).natAbs : Int) ≤ sum))

/-- Whether the machine is steady (R157). -/
def steady (s : State) : Bool :=
  cutting s && (sig s 1).fresh && (sig s 6).fresh &&
    (fnNums s).all (fun f => (fnOf s f).st != .ramp && (fnOf s f).st != .safe) &&
    decide (s.cf.opt.secMeans.length = paramN s pCfOptMeasure) && flowSteady s.cf.opt.secMeans (param s pCfFlowMin)

/-- Whether a step is in progress. -/
def stepping (s : State) : Bool := s.cf.opt.st == .settle || s.cf.opt.st == .measure

/-- The optimizer stops by cause (Table 5-3); CF_STATUS names no cause code, so DATA is 0 (R318). `mark`: the cause arises from an
injection (R334). -/
def optStop (mark : Bool) (s : State) : State :=
  if s.cf.opt.st = .off then s
  else happenMarked detOptimizerStoppedByCause 0 0 mark (updOpt (fun o => { o with st := .off }) s)

/-- The 1 s means of the flow. -/
def optMeans (s : State) : State :=
  let sum := s.cf.opt.secSum + (sig s 1).raw
  if s.clk.frame % 1000 = 999 then
    updOpt (fun o => { o with secSum := 0, secMeans := pushRing (paramN s pCfOptMeasure) o.secMeans (Int.tdiv sum 1000) }) s
  else updOpt (fun o => { o with secSum := sum }) s

/-- The optimizer in one frame: means, the sums of the window, and what losing steadiness does (Table 5-3). -/
def optFrame (s : State) : State :=
  let s1 := optMeans s
  let o := s1.cf.opt
  match o.st with
  | .off | .hold => s1
  | .observe | .settle | .measure =>
    if forced s1 detOptimizerStoppedByCause 0 then optStop true s1
    else if steady s1 then
      let v := [(sig s1 6).raw, (sig s1 1).raw, sensScaled s1 (paramN s1 pCfBrokenSensor), sensScaled s1 (paramN s1 pCfMogqSensor)]
      updOpt (fun o => { o with sums := List.zipWith (· + ·) o.sums v, n := o.n + 1 }) s1
    else if o.st = .observe then optObserve s1
    else if internalAllowed s1 then optObserve (optSend o.ptr o.orig s1)
    else optObserve s1

/-- A step from a setpoint: the original, the value sent, and SETTLE. -/
def optTake (f : Nat) (orig : Int) (up : Bool) (s : State) : State :=
  let v := clampSp s f (if up then orig + optStep s f else orig - optStep s f)
  updOpt (fun o => { o with st := .settle, up, orig, sent := v, since := s.clk.ms, sums := [0, 0, 0, 0], n := 0 })
    (optSend f v s)

/-- The end of a window in OBSERVE (Table 5-3): a held function, or one at its limit both ways, is advanced over; else its
cost is the base and the step is sent. -/
def observeEnd (s : State) : State :=
  let f := s.cf.opt.ptr
  let sp := (fnOf s f).sp
  if optHeld s f || !optMoves s f || (clampSp s f (sp + optStep s f) = sp && clampSp s f (sp - optStep s f) = sp) then optAdvance s
  else if hostPending s f then s
  else optTake f sp s.cf.opt.up (updOpt (fun o => { o with base := windowCost s }) s)

/-- The end of a window in MEASURE (R157, Table 5-3). -/
def measureEnd (s : State) : State :=
  let o := s.cf.opt
  let cost := windowCost s
  if hostPending s o.ptr then s
  else if cost * 100 ≤ o.base * 97 && !atLimit s o.ptr o.sent then
    optTake o.ptr o.sent o.up (updOpt (fun o => { o with base := cost, kept := true }) s)
  else if o.up then optTake o.ptr o.orig false s
  else optAdvance (optSend o.ptr o.orig s)

/-- OPTIMIZER_WINDOW_END: steady for CF.OPT_MEASURE in OBSERVE, or the measuring window over (Table 5-3). -/
def execOptimizerWindowEnd (s : State) : Host.Outcome State Fault Refusal :=
  .next (if internalAllowed s && elapsed s s.cf.opt.since (1000 * paramN s pCfOptMeasure) && decide (0 < s.cf.opt.n) then
    match s.cf.opt.st with
    | .observe => observeEnd s
    | .measure => measureEnd s
    | .off | .settle | .hold => s
    else s)

/-- The settle time in seconds (R157). -/
def settleTime (s : State) : Nat := max (paramN s pCfOptSettle) (paramN s pCfDelay / 1000 + 10)

/-- OPTIMIZER_SETTLE_END (Table 5-3): the settle time has passed, still steady. -/
def execOptimizerSettleEnd (s : State) : Host.Outcome State Fault Refusal :=
  .next (if s.cf.opt.st = .settle && elapsed s s.cf.opt.since (1000 * settleTime s) && steady s
    then updOpt (fun o => { o with st := .measure, since := s.clk.ms, sums := [0, 0, 0, 0], n := 0 }) s else s)

/-- OPTIMIZER_HOLD_END (Table 5-3): 10 × CF.OPT_MEASURE. -/
def execOptimizerHoldEnd (s : State) : Host.Outcome State Fault Refusal :=
  .next (if s.cf.opt.st = .hold && elapsed s s.cf.opt.since (10000 * paramN s pCfOptMeasure) then optObserve s else s)

/-- OPTIMIZER_OPERATOR_HOLD_END (R159). -/
def execOptimizerOperatorHoldEnd (f : Fin 30) (s : State) : Host.Outcome State Fault Refusal :=
  .next (updOpt (fun o => { o with holds := o.holds.filter (fun h => !(h.1 == f + 1 && decide (h.2 ≤ s.clk.ms))) }) s)

/-- R159: the host has set functions; those the optimizer may move are excluded for CF.OPT_OPERATOR_HOLD, and a step of one
in progress is abandoned without revert. -/
def optHostSet (fs : List Nat) (s : State) : State :=
  let mine := fs.filter (optMoves s)
  let s1 := updOpt (fun o => { o with
    holds := o.holds.filter (fun h => !mine.contains h.1) ++
      mine.eraseDups.map (fun f => (f, s.clk.ms + 1000 * paramN s pCfOptOperatorHold)) }) s
  if stepping s && mine.contains s.cf.opt.ptr then optObserve s1 else s1

/-! ### OPTIMIZER_TARGETS and OPTIMIZER_ENABLE -/

/-- The parameters that OPTIMIZER_TARGETS carries, with their place after the timing prefix and their width. -/
def targetFields : List (Nat × Nat × Nat) :=
  [(pCfTpTarget, 0, 4), (pCfLossTarget, 4, 2), (pCfBrokenTarget, 6, 2), (pCfMogTarget, 8, 2), (pCfEngineTarget, 10, 2),
   (pCfOperatorVmax, 12, 2), (pCfWLoss, 14, 2), (pCfWTp, 16, 2), (pCfWBroken, 18, 2), (pCfWMog, 20, 2)]

/-- The values of an OPTIMIZER_TARGETS payload after its prefix. -/
def targetValues (p : Bytes) : List (Nat × Int) := targetFields.map (fun f => (f.1, (rdN p f.2.1 f.2.2 : Int)))

/-- OPTIMIZER_TARGETS (Table 5-5): each value within its parameter's range; refused in PS (R167). -/
def bodyOptimizerTargets : Body := timedBody (fun c s =>
    let p := c.payload.drop 12
    if p.length ≠ 22 || !(targetValues p).all (fun v => inParamRange v.1 v.2) then some (stBadArg, [])
    else if inPs s then some (stRefusedState, []) else none) frameReply

/-- OPTIMIZER_TARGETS at its frame of application. -/
def applyOptimizerTargets (t : TCmd) (s : State) : State := setWork (targetValues t.payload) s

/-- OPTIMIZER_ENABLE (R167): names only functions of the active profile with a step; refused in PS, and on in SAFE. -/
def bodyOptimizerEnable : Body := timedBody (fun c s =>
    let p := c.payload.drop 12
    let m := rdN p 4 4
    if p.length ≠ 8 || 2 ≤ rdN p 0 1 || !resZero p 1 3 ||
        (List.range 32).any (fun k => bit m k && !((fnEntry s (k + 1)).isSome && decide (k < 30) && optStep s (k + 1) != 0))
      then some (stBadArg, [])
    else if inPs s || (rdN p 0 1 = 1 && s.gr.mode = .safe) then some (stRefusedState, []) else none) frameReply

/-- OPTIMIZER_ENABLE at its frame of application (Table 5-3). -/
def applyOptimizerEnable (t : TCmd) (s : State) : State :=
  if rdN t.payload 0 1 = 1 then
    let s1 := updOpt (fun o => { o with mask := rdN t.payload 4 4 }) s
    if s.cf.opt.st = .off then
      optObserve (updOpt (fun o => { o with ptr := (optFns s1).headD 0, up := true, kept := false, passed := 0 }) s1)
    else s1
  else updOpt (fun o => { o with st := .off }) s

end Sys2Proof.Machine
end

