-- ==== Sys2Proof/Machine/Lanes.lean ====
section
/-!
DEFINITION. Machine/Lanes.lean: the voter, the three lanes and the Granite mode (R82 to R88, Tables 3-3 and 3-4). Lanes A, B and C are
0, 1 and 2 inside the model.
-/

namespace Sys2Proof.Machine

/-- Granite changed. -/
def updGr (f : Granite → Granite) (s : State) : State := { s with gr := f s.gr }

/-- Lane `k`. -/
def laneOf (s : State) (k : Nat) : Lane := nth s.gr.lanes k lane0

/-- The state with one lane changed. -/
def updLane (k : Nat) (f : Lane → Lane) (s : State) : State := updGr (fun g => { g with lanes := updAt g.lanes k f }) s

/-- Whether Granite computes outputs: lanes run, in TRIPLE or DUAL. -/
def grLive (s : State) : Bool := s.gr.running && (s.gr.mode == .triple || s.gr.mode == .dual)

/-- The lanes that are ACTIVE. -/
def activeLanes (s : State) : List Nat := (List.range 3).filter (fun k => (laneOf s k).st == .active)

/-- Exclusions of a lane in the last GR.READMIT_WINDOW. -/
def exclCount (s : State) (k : Nat) : Nat :=
  ((laneOf s k).excl.filter (fun t => decide (s.clk.ms ≤ t + paramN s pGrReadmitWindow * 1000))).length

/-- A lane is held out until the next release of L0 or L1 (Table 3-4). -/
def holdOut (k : Nat) (s : State) : State :=
  beginCond detLaneHeldOut (k + 1) (laneOf s k).cause (updLane k (fun l => { l with st := .heldOut, inReset := false, joins := false }) s)

/-- A lane that is not ACTIVE with more exclusions in the window than GR.READMIT_LIMIT is held out (Table 3-4). -/
def judgeExclusions (k : Nat) (s : State) : State :=
  if (laneOf s k).st != .active && (laneOf s k).st != .heldOut && (laneOf s k).st != .start &&
      (decide (paramN s pGrReadmitLimit < exclCount s k) || forced s detLaneHeldOut (k + 1)) then
    holdOut k s
  else s

/-- A lane in TRANSFER fails to join (Table 3-4). -/
def transferFails (k : Nat) (s : State) : State :=
  happen detStateTransferFailure (k + 1) 8
    (updLane k (fun l => { l with st := .excludedWait, cause := 8, since := s.clk.ms, joins := false }) s)

/-- A replay run ends with a result (R100). -/
def endReplay (result : Nat) (s : State) : State :=
  if s.gr.replay.st = .running then updGr (fun g => { g with replay := { g.replay with st := .done, result } }) s else s

/-! ### Safe state (R64, R88) -/

/-- The output of a function in its safe state, in its own unit (R64). -/
def safeOut (e : Bytes) : Int :=
  match rdN e 6 1 with
  | 1 => if rdN e 1 1 = 4 then 10000 else 1
  | 2 => rdI e 8 4
  | _ => 0

/-- A function's channel is driven to its safe state: valve channels through D9's regulator, load switches by their SAFE_KIND. -/
def driveSafe (e : Bytes) (s : State) : State :=
  let ch := rdN e 2 1 - 1
  match rdN e 1 1 with
  | 1 | 2 => match vdPartner s ch with
    | some m => vdSafeChan m (vdSafeChan ch s)
    | none => vdSafeChan ch s
  | 3 | 4 => lsSafeChan ch s
  | _ => s

/-- A function enters SAFE: it holds its safe state (Table 3-9); the optimizer stops (Table 5-3). -/
def fnToSafe (e : Bytes) (s : State) : State :=
  optStop (fnOf s (rdN e 0 1)).inj
    (driveSafe e (updFn (rdN e 0 1) (fun f => { f with st := .safe, out := safeOut e, next := safeOut e, hold := false, starts := false }) s))

/-- Steering goes OFF with F23's setpoint at 0 mA (Table 8-7). -/
def steerOff (cause : Nat) (s : State) : State :=
  updFn 23 (fun f => if s.gn.steer.st = .off then f else { f with sp := 0 })
    { s with gn := { s.gn with steer := { s.gn.steer with st := .off, cause, sp := 0, frames := 0 } } }

/-- Entry to the safe state (R88): no lane output counts, SAFE_A and SAFE_B asserted, an event, every function safe, steering OFF. A lane in
TRANSFER fails. -/
def safeEntry (s : State) : State :=
  if s.gr.mode = .safe then s
  else
    let s1 := beginCond detTwoLaneSafeState 0 0
      (updGr (fun g => { g with mode := .safe, safeA := true, safeB := true }) (endReplay 3 s))
    let s2 := s1.pf.work.funcs.foldl (fun st e =>
      updFn (rdN e 0 1) (fun f => { f with st := .safe, out := safeOut e, next := safeOut e, hold := false, starts := false }) st) s1
    let s3 := optStop false (lsSafe (vdSafe (if s2.gn.steer.st = .off then s2 else steerOff 6 s2)))
    (List.range 3).foldl (fun st k => if (laneOf st k).st = .transfer then transferFails k st else st) s3

/-! ### Exclusion (R83, R84, R86) -/

/-- A lane is excluded in TRIPLE: its L3 unit reset starts, the mode becomes DUAL (Tables 3-3 and 3-4). -/
def exclude (k cause : Nat) (s : State) : State :=
  judgeExclusions k (updGr (fun g => { g with mode := .dual, dualSince := s.clk.frame })
    (updLane k (fun l => { l with
      st := .selftest, cause, excl := l.excl ++ [s.clk.ms], lastExcl := s.clk.frame, since := s.clk.ms, inReset := true, tries := 0,
      joins := false }) s))

/-- A cause of R84 names a lane: exclusion in TRIPLE, the safe state with two lanes; a replay run ends (R100). -/
def laneFault (k cause det : Nat) (s : State) : State :=
  if grLive s && (laneOf s k).st == .active then
    let s1 := happen det (k + 1) cause (endReplay 3 s)
    if s.gr.mode = .triple then exclude k cause s1 else safeEntry s1
  else s

/-- The injections that act on the lanes at a commit (Table 12-4): lockstep bus, watchdog check-in, and a corrupted word of lane memory,
whose single-bit error is corrected and counted. -/
def laneInjections (s : State) : State :=
  (List.range 3).foldl (fun st k =>
    let s1 := if forced st detLockstepDivergence (k + 1) then laneFault k 2 detLockstepDivergence st else st
    let s2 := if forced s1 detLaneWatchdog (k + 1) then laneFault k 3 detLaneWatchdog s1 else s1
    match injFor s2 detLaneUncorrectableEcc (k + 1) with
    | some i =>
      if bit i.value 0 then laneFault k 4 detLaneUncorrectableEcc s2
      else useOneShot detLaneUncorrectableEcc (k + 1) (updLane k (fun l => { l with ecc := wrapU 32 (l.ecc + 1) }) s2)
    | none => s2) s

/-- The voter at a commit (R83): `bad` are the lanes whose output word set differs from the others'. Answers whether the commit counts. -/
def vote (bad : List (Fin 3)) (s : State) : State × Bool :=
  let s0 := laneInjections s
  let out := (activeLanes s0).filter (fun k => bad.any (fun b => b.val == k) || forced s0 detVoteDisagreement (k + 1))
  if !grLive s0 then (s0, false)
  else if (List.range 4).any (fun k => forced s0 detTwoLaneSafeState k) || decide (2 ≤ out.length) then
    (safeEntry (endReplay 3 s0), false)
  else match out with
    | [k] =>
      let s1 := laneFault k 1 detVoteDisagreement s0
      (s1, s1.gr.mode != .safe)
    | _ => (s0, true)

/-- LOCKSTEP_DIVERGENCE (R82): the comparator names the lane in the minority. -/
def execLockstepDivergence (lane : Fin 3) (s : State) : Host.Outcome State Fault Refusal :=
  .next (laneFault lane.val 2 detLockstepDivergence s)

/-- LANE_WATCHDOG_MISS (R84): an L3 of that lane (Table 14-2), recorded. -/
def execLaneWatchdogMiss (lane : Fin 3) (s : State) : Host.Outcome State Fault Refusal :=
  .next (if grLive s && (laneOf s lane.val).st == .active then
    rawEvent evReset 0 (3 + 65536 * 16) (laneFault lane.val 3 detLaneWatchdog s) else s)

/-- LANE_ECC_ERROR (R84): a single-bit error is corrected and counted, a double one excludes the lane. -/
def execLaneEccError (lane : Fin 3) (double : Bool) (s : State) : Host.Outcome State Fault Refusal :=
  .next (if double then laneFault lane.val 4 detLaneUncorrectableEcc s
    else updLane lane.val (fun l => { l with ecc := wrapU 32 (l.ecc + 1) }) s)

/-- The record CRC check of the lanes (R84): the lanes whose copy differs. -/
def crcCheck (bad : List (Fin 3)) (s : State) : State :=
  (List.range 3).foldl (fun st k =>
    if bad.any (fun b => b.val == k) || forced st detRecordCrcMismatch (k + 1) then laneFault k 5 detRecordCrcMismatch st else st) s

/-! ### Readmission (R86, R87, Table 3-4) -/

/-- LANE_RESET_DONE (R86): the unit reset has lasted 0.5 ms, self-test begins. -/
def execLaneResetDone (lane : Fin 3) (s : State) : Host.Outcome State Fault Refusal :=
  .next (if (laneOf s lane.val).inReset then updLane lane.val (fun l => { l with inReset := false, since := s.clk.ms }) s else s)

/-- The end of a self-test after 30 ms (Table 3-4). -/
def selftestDone (k : Nat) (pass : Bool) (s : State) : State :=
  if !pass || forced s detLaneSelfTestFailure (k + 1) then
    happen detLaneSelfTestFailure (k + 1) 7
      (updLane k (fun l => { l with st := .excludedWait, cause := 7, since := s.clk.ms }) s)
  else if paramN s pGrReadmitEnable = 0 then holdOut k s
  else updLane k (fun l => { l with st := .transfer, since := s.clk.ms, tries := 0, joins := false }) s

/-- LANE_SELFTEST_DONE (R86): after an exclusion as Table 3-4 says; before Granite starts the result waits for Table 3-3. -/
def execLaneSelftestDone (lane : Fin 3) (pass : Bool) (s : State) : Host.Outcome State Fault Refusal :=
  let k := lane.val
  let l := laneOf s k
  .next (if !elapsed s l.since 30 || l.inReset || !s.clk.running then s
    else match l.st with
      | .selftest => judgeExclusions k (selftestDone k pass s)
      | .start =>
        if pass && !forced s detLaneSelfTestFailure (k + 1) then updLane k (fun l => { l with joins := true }) s
        else happen detLaneSelfTestFailure (k + 1) 7 (updLane k (fun l => { l with st := .excludedWait, cause := 7 }) s)
      | _ => s)

/-- TRANSFER_FINAL_PASS (R87): from the firmware deadline the CLE state and `dirty` bytes of marked lines are copied if they fit 256 KB. -/
def execTransferFinalPass (lane : Fin 3) (dirty : Nat) (s : State) : Host.Outcome State Fault Refusal :=
  .next (if (laneOf s lane.val).st = .transfer && !(laneOf s lane.val).joins && grLive s then
    (if dirty ≤ 262144 && !forced s detStateTransferFailure (lane.val + 1) then updLane lane.val (fun l => { l with joins := true }) s
     else updLane lane.val (fun l => { l with tries := l.tries + 1 }) s)
    else s)

/-- TRANSFER_TIMEOUT (Table 3-4): 16 frames without a fitting final pass. -/
def execTransferTimeout (lane : Fin 3) (s : State) : Host.Outcome State Fault Refusal :=
  .next (if (laneOf s lane.val).st = .transfer && !(laneOf s lane.val).joins &&
      (decide (16 ≤ (laneOf s lane.val).tries) || forced s detStateTransferFailure (lane.val + 1)) then
    judgeExclusions lane.val (transferFails lane.val s) else s)

/-- EXCLUDED_WAIT_EXPIRY (Table 3-4): after 1 s the lane is reset again, or held out. -/
def execExcludedWaitExpiry (lane : Fin 3) (s : State) : Host.Outcome State Fault Refusal :=
  let k := lane.val
  .next (if (laneOf s k).st = .excludedWait && elapsed s (laneOf s k).since 1000 && s.gr.running then
    (if paramN s pGrReadmitEnable = 0 || paramN s pGrReadmitLimit < exclCount s k then holdOut k s
     else updLane k (fun l => { l with st := .selftest, since := s.clk.ms, inReset := true }) s)
    else s)

/-- LANE_READMIT_JOIN within FRAME_START (R86): a lane whose final pass fitted joins, the mode becomes TRIPLE. -/
def lanesJoin (s : State) : State :=
  (List.range 3).foldl (fun st k =>
    if (laneOf st k).st = .transfer && (laneOf st k).joins && st.gr.mode = .dual then
      rawEvent evLaneReadmitted (k + 1) (st.clk.frame - st.gr.dualSince)
        (updGr (fun g => { g with mode := .triple })
          (updLane k (fun l => { l with st := .active, joins := false, lastJoin := st.clk.frame }) st))
    else st) s

/-- Granite's start at the first frame boundary after profile activation (Table 3-3): the lanes that passed self-test run; one of two
missing is held out; with fewer than two SAFE_A and SAFE_B stay asserted and the gate supply off, else it switches on (Table 14-4). -/
def lanesStart (s : State) : State :=
  let ok := (List.range 3).filter (fun k => (laneOf s k).joins)
  if s.gr.mode != .start || (List.range 3).any (fun k => (laneOf s k).st == .start && !(laneOf s k).joins) then s
  else
    let s1 := (List.range 3).foldl (fun st k =>
      if ok.contains k then updLane k (fun l => { l with st := .active, joins := false }) st
      else if ok.length = 2 then holdOut k st else st) s
    if ok.length < 2 then
      beginCond detTwoLaneSafeState 0 0
        { (updGr (fun g => { g with mode := .safe, running := true }) s1) with an := { s1.an with gate := false } }
    else
      let s2 := updGr (fun g => { g with
        mode := if ok.length = 3 then .triple else .dual, running := true, safeA := false, safeB := false, dualSince := s.clk.frame }) s1
      vdEnable { s2 with an := { s2.an with gate := true } }

/-- D1–D3 are released: lane memory is zeroed and every lane's self-test begins (Table 14-4); the mode is START, SAFE_A and SAFE_B are asserted. -/
def lanesRelease (s : State) : State :=
  updGr (fun g => { g with mode := .start, running := false, safeA := true, safeB := true,
                           lanes := List.replicate 3 { lane0 with since := s.clk.ms } }) s

/-- A requested L3 of a lane, in TRIPLE: as an exclusion with cause requested (R86, Table 3-4). -/
def laneReset (k : Nat) (s : State) : State :=
  if s.gr.mode = .triple && (laneOf s k).st = .active then exclude k 6 s else s

/-! ### Status -/

/-- The mode code of GR_STATUS. -/
def grModeCode (m : GrMode) : Nat := match m with | .start => 1 | .triple => 2 | .dual => 3 | .safe => 4

/-- The state code of LANE_STATUS; a lane whose first self-test runs shows SELFTEST. -/
def laneCode (l : LaneSt) : Nat :=
  match l with | .active => 1 | .selftest => 2 | .start => 2 | .transfer => 3 | .excludedWait => 4 | .heldOut => 5

/-- LANE_STATUS (Table 3-12). -/
def bodyLaneStatus : Body := emptyPayload fun _ s =>
  ans s stOk ((List.range 3).flatMap (fun k =>
    let l := laneOf s k
    u8 (laneCode l.st) ++ u8 l.cause ++ u16 (satU 16 (exclCount s k)) ++ u32 l.ecc ++ u64 l.lastExcl ++ u64 l.lastJoin))

/-- The lane in readmission: 0 none, else 1–3. -/
def readmitting (s : State) : Nat :=
  match (List.range 3).find? (fun k => let x := (laneOf s k).st; x == .selftest || x == .transfer || x == .excludedWait) with
  | some k => k + 1
  | none => 0

end Sys2Proof.Machine
end

