-- ==== Sys2Proof/Machine/Steer.lean ====
section
/-!
DEFINITION. Machine/Steer.lean: navigation signals (R242), the steering loop and its state table (R243, R244), and which events an
injection marks as its consequences (R334).
-/

namespace Sys2Proof.Machine

/-! ### Consequences of injections (R334) -/

/-- Whether an injection runs on one of some detectors and one of some instances. -/
def injOn (s : State) (dets insts : List Nat) : Bool := s.ev.injs.any (fun i => i.started && dets.contains i.det && insts.contains i.inst)

/-- The detectors whose INSTANCE is a valve channel. -/
def valveDets : List Nat :=
  [detBoostTimeout, detWeakPullIn, detBoostEnergyLimit, detHoldDutyLimit, detValveNotSeating, detCoilShortSuspected, detValveOpenLoad,
   detVlsShortToGround, detVlsShortToBattery, detCoilShort, detLowSideThermalShutdown, detCurrentRegulationError]

/-- The detectors whose INSTANCE is a load switch. -/
def loadDets : List Nat :=
  [detOverCurrent, detThermalShutdown, detCoupledShutdown, detRetriesExhausted, detClampEnergy, detOutputShortToBattery,
   detOpenLoadOffState, detOpenLoadOnState, detLoadAboveRating, detChannelShed]

/-- The detectors of a receiver, an antenna or the inertial sensor. -/
def gnssDets : List Nat :=
  [detAntennaOpen, detAntennaShort, detAntennaOvervoltage, detNotchCapacity, detJamming, detInterSystemOffsetJump, detCorrectionsStale,
   detBaselineMismatch, detInertialFault, detDeadReckoningLimit]

/-- Whether an injection names an output channel of a function, or that channel's partner. -/
def outputInjected (s : State) (e : Bytes) : Bool :=
  let ch := rdN e 2 1
  match rdN e 1 1 with
  | 1 | 2 => injOn s valveDets (match vdPartner s (ch - 1) with | some m => [ch, m + 1] | none => [ch])
  | 3 | 4 => injOn s loadDets [ch]
  | _ => false

/-- Whether an injection names an input from which a sensor takes its value. -/
def sensorInjected (s : State) (idx : Nat) : Bool :=
  match sensEntry s idx with
  | none => false
  | some e =>
    let ch := rdN e 2 1
    match rdN e 1 1 with
    | 1 | 2 => injOn s [detAnalogInputOutOfRange] [ch]
    | 5 => injOn s [detBridgeExcitationFault, detBridgeSignalOutOfRange] [ch]
    | 6 => injOn s [detMoistureCellInvalid] [ch]
    | 7 => match s.pf.work.canTable.find? (fun x => rdN x 0 1 == ch) with
      | some x => injOn s [detErrorPassive, detBusOff, detReceiveFifoOverflow, detDominantTimeOut, detBusDominant] [rdN x 1 1]
      | none => false
    | 8 => injOn s [detLinkDown, detLinkDegraded, detMachineSetMismatch] (List.range 5)
    | 9 =>
      if ch ≤ 1 then injOn s [detBridgeExcitationFault, detBridgeSignalOutOfRange] [1, 2]
      else if ch = 2 then injOn s [detBridgeExcitationFault, detBridgeSignalOutOfRange] [3, 4, 5, 6]
      else if ch = 3 then injOn s [detMoistureCellInvalid] [1, 2]
      else s.ev.injs.any (fun i => i.started && i.det / 256 == 4)
    | 10 => s.ev.injs.any (fun i => i.started && gnssDets.contains i.det)
    | _ => false

/-- The feedback sensors that a function's loop reads: its own and those of its min-select members. -/
def sensorsOf (s : State) (e : Bytes) : List Nat :=
  rdN e 26 1 :: ((s.pf.work.groups.filter (fun g => rdN g 1 1 == rdN e 0 1)).flatMap (fun g => (membersOf g).map (fun m => m.2.1)))

/-- Whether a function's fallback arises from an injection: `det` is the detector whose firing it names, if any. -/
def fallbackMarked (s : State) (e : Bytes) (det inst : Nat) : Bool :=
  outputInjected s e || (sensorsOf s e).any (sensorInjected s) || injOn s [det] [inst]

/-! ### Navigation signals (R242) -/

/-- R242: the steering error in mm. -/
def steerError (xte herr : Int) (speed age base ltime : Nat) : Int :=
  let hu := Int.tdiv (herr * 17453) 100
  let look : Int := (base + speed * ltime / 1000 + speed * age / 1000 : Nat)
  sat32 (xte + Int.tdiv (hu * look) 1000000)

/-- Whether the steering error is fresh in frame N (R242). -/
def steerFresh (s : State) : Bool :=
  let g := s.gr.cur.gnss
  decide (s.gr.cur.frame ≤ g.epochFrame + paramN s pGnSteerStale) && decide (1 ≤ g.type) && bit g.qual 6

/-- The steering error of the released record. -/
def steerErr (s : State) : Int :=
  let g := s.gr.cur.gnss
  steerError g.xte g.hdgErr g.speed (s.gr.cur.frame - g.epochFrame) (paramN s pGnLookBase) (paramN s pGnLookTime)

/-- A navigation signal with its freshness, from the released record; `prev` is the GNSS part of the record before. -/
def navSignal (s : State) (prev : GnssPart) (ch : Nat) : Int × Bool :=
  let g := s.gr.cur.gnss
  let sol := g.solSeq != prev.solSeq
  match ch with
  | 1 => (g.xte, sol)
  | 2 => (g.hdgErr, sol)
  | 3 => (steerErr s, steerFresh s)
  | 4 => (g.curv, sol)
  | 5 => (g.yawRate, g.imuSeq != prev.imuSeq)
  | 6 => (g.speed, sol)
  | 7 => (g.roll, sol)
  | _ => (g.pitch, sol)

/-- A derived signal's next value: fresh with a new value, else held with its age. -/
def derivedStep (old : Option SensVal) (idx : Nat) (v : Int) (fresh : Bool) : SensVal :=
  if fresh then ⟨idx, v, true, 0⟩
  else match old with
    | some x => { x with fresh := false, age := min 255 (x.age + 1) }
    | none => ⟨idx, 0, false, 255⟩

/-- The signals of KIND 9 and 10 that the active profile declares, as every lane computes them from the record (R143, R242). -/
def deriveSignals (prev : GnssPart) (s : State) : State :=
  let vals := s.pf.work.sensors.filterMap (fun e =>
    let idx := rdN e 0 1
    let old := s.gr.derived.find? (fun v => v.index == idx)
    if rdN e 1 1 = 9 then
      let x := sig s (rdN e 2 1)
      some (derivedStep old idx x.raw x.fresh)
    else if rdN e 1 1 = 10 then
      let x := navSignal s prev (rdN e 2 1)
      some (derivedStep old idx x.1 x.2)
    else none)
  updGr (fun g => { g with derived := vals }) s

/-! ### Steering (R244) -/

/-- Steering changed. -/
def updSteer (f : Steer → Steer) (s : State) : State := updGn (fun g => { g with steer := f g.steer }) s

/-- Whether the fix holds, with the memory of a good type before dead reckoning. -/
def steerFix (s : State) : Bool :=
  let g := s.gr.cur.gnss
  steerFresh s && bit g.qual 0 && (if g.type = 5 then s.gn.steer.typeOk else decide (paramN s pGnSteerMinType ≤ g.type))

/-- Whether the machine is in the capture range. -/
def steerCapture (s : State) : Bool :=
  let g := s.gr.cur.gnss
  decide (g.xte.natAbs ≤ paramN s pGnEngageXte) && decide (g.hdgErr.natAbs ≤ paramN s pGnEngageHdg)

/-- Whether the operator overrides. -/
def steerOverride (s : State) : Bool :=
  let k := paramN s pGnOverrideSensor
  k != 255 && sensValid s k && decide (paramN s pGnOverrideLimit < (sensScaled s k).natAbs)

/-- Whether the path is active and not at its end. -/
def steerPath (s : State) : Bool := bit s.gr.cur.gnss.qual 6 && !bit s.gr.cur.gnss.qual 7

/-- Whether a disengagement arises from an injection (R334). -/
def steerMarked (s : State) : Bool :=
  s.ev.injs.any (fun i => i.started && gnssDets.contains i.det) || sensorInjected s (paramN s pGnOverrideSensor) ||
    (match fnEntry s 23 with | some e => fallbackMarked s e detFunctionFallbackByCause 23 | none => false)

/-- Steering disengages with a cause: an event, and OFF. -/
def disengage (cause : Nat) (s : State) : State :=
  if s.gn.steer.st = .off then s
  else happenMarked detSteeringDisengagedByCause 0 cause (steerMarked s) (steerOff cause s)

/-- The first item that fails for STEER_ENGAGE, in the order of Table 8-7: 1 F23 and its loop, 2 path, 3 fix, 4 capture, 5 override. -/
def engageFails (s : State) : Nat :=
  if (fnOf s 23).st != .enabled || paramN s pGnSteerSlot == 0 then 1
  else if !steerPath s then 2
  else if !steerFix s then 3
  else if !steerCapture s then 4
  else if steerOverride s then 5
  else 0

/-- STEER_ENGAGE at its frame of application (Table 8-7). -/
def applySteerEngage (t : TCmd) (s : State) : State :=
  if rdN t.payload 0 1 = 1 then
    if s.gn.steer.st != .off then s
    else if engageFails s = 0 && !forced s detSteeringRefused 0 then
      setLoop (paramN s pGnSteerSlot) (loopStart 0)
        (updFn 23 (fun f => { f with sp := 0 }) (updSteer (fun x => { x with st := .engaged, sp := 0, frames := 0 }) s))
    else happen detSteeringRefused 0 (engageFails s) s
  else disengage 1 s

/-- The state that follows within ENGAGED, CREEP and GRACE (Table 8-7). -/
def steerMove (s : State) : State :=
  let slot := paramN s pGnSteerSlot
  let fix := steerFix s
  let held := match fnEntry s 23 with
    | some e => clampI (rdI e 12 4) (rdI e 16 4) (loopOf s slot).uPrev
    | none => 0
  let slow := decide (s.gr.cur.gnss.speed < paramN s pGnSteerVmin)
  match s.gn.steer.st with
  | .off => s
  | .engaged =>
    if !fix then updSteer (fun x => { x with st := .grace, frames := 0, sp := held }) s
    else if slow then updSteer (fun x => { x with st := .creep, sp := 0 }) s
    else s
  | .creep =>
    if !fix then updSteer (fun x => { x with st := .grace, frames := 0, sp := held }) s
    else if slow then s
    else updLoop slot (fun l => { l with swap := .target 0 }) (updSteer (fun x => { x with st := .engaged }) s)
  | .grace =>
    if fix then updLoop slot (fun l => { l with swap := .target l.uPrev }) (updSteer (fun x => { x with st := .engaged }) s)
    else updSteer (fun x => { x with frames := x.frames + 1 }) s

/-- STEERING_EVALUATE within FRAME_START (R244): phase 1 of every frame, from the record. -/
def steerFrame (s : State) : State :=
  let g := s.gr.cur.gnss
  let s1 := updSteer (fun x => { x with typeOk := if g.type = 5 then x.typeOk else decide (paramN s pGnSteerMinType ≤ g.type) }) s
  if s1.gn.steer.st = .off then s1
  else if steerOverride s1 || forced s1 detSteeringDisengagedByCause 0 then disengage 2 s1
  else if bit g.qual 7 && !bit g.qual 8 then disengage 4 s1
  else if (fnOf s1 23).st != .enabled then disengage 5 s1
  else steerMove s1

/-- STEER_GRACE_EXPIRY (Table 8-7): GN.STEER_GRACE frames of GRACE. -/
def execSteerGraceExpiry (s : State) : Host.Outcome State Fault Refusal :=
  .next (if s.gn.steer.st = .grace && decide (paramN s pGnSteerGrace ≤ s.gn.steer.frames) then disengage 3 s else s)

/-- The steering loop in the machine-slot phase: while ENGAGED F23's setpoint is its output, clamped (R243). -/
def steerLoop (s : State) : State :=
  match s.gn.steer.st, fnEntry s 23 with
  | .engaged, some e =>
    let r := runSlot (paramN s pGnSteerSlot) (paramN s pGnSteerPair) 0 (steerErr s) s
    updSteer (fun x => { x with sp := clampI (rdI e 12 4) (rdI e 16 4) r.2.1 }) r.2.2
  | _, _ => s

/-- The setpoint that acts on a function: steering's on F23 while it is not OFF (R243), else the function's own. -/
def effSp (s : State) (f : Nat) : Int := if f = 23 && s.gn.steer.st != .off then s.gn.steer.sp else (fnOf s f).sp

/-- STEER_ENGAGE (Table 8-8, R245). -/
def bodySteerEngage : Body := timedBody (fun c s =>
    let p := c.payload.drop 12
    if p.length ≠ 4 || 2 ≤ rdN p 0 1 || !resZero p 1 3 then some (stBadArg, [])
    else if rdN p 0 1 = 1 && (s.gr.mode = .safe || inPs s) then some (stRefusedState, [])
    else none) frameReply

end Sys2Proof.Machine
end

