-- ==== Sys2Proof/Machine/Granite.lean ====
section
/-!
DEFINITION. Machine/Granite.lean: functions, fallback and ramps, the work of a frame and of a tick, overruns, and the Granite commands with
capture and replay (R76 to R106).
-/

namespace Sys2Proof.Machine

/-! ### Function states (Table 3-9) -/

/-- The causes a function keeps: 1 feedback, 2 overrun, 3 output fault, 4 host, 5 missed cells, 6 stop. -/
def fbDet (cause : Nat) : Nat :=
  match cause with | 1 => detStaleOrImplausibleFeedback | 2 => detFrameOverrun | _ => detFunctionFallbackByCause

/-- Whether a function passes through RAMP (R96): VALUE on its endpoint, or OFF on a proportional valve, with a ramp time. -/
def ramps (e : Bytes) : Bool :=
  decide (0 < rdN e 24 2) && (rdN e 6 1 == 2 || (rdN e 6 1 == 0 && rdN e 1 1 == 2))

/-- An ENABLED function leaves for its safe state, by its ramp or at once (R96, R98). -/
def leaveEnabled (e : Bytes) (cause : Nat) (s : State) : State :=
  let f := rdN e 0 1
  if ramps e then
    updFn f (fun x => { x with st := .ramp, rampV := x.out, rampR := max 1 (rdN e 24 2), cause, hold := false }) s
  else fnToSafe e (updFn f (fun x => { x with cause }) s)

/-- A fallback cause acts on an ENABLED function, with its event (Table 3-9); GR_STATUS names no cause code, so DATA is 0. -/
def fallback (e : Bytes) (cause : Nat) (s : State) : State :=
  let f := rdN e 0 1
  if (fnOf s f).st = .enabled then
    let mark := fallbackMarked s e (fbDet cause) (if cause = 2 then 0 else f)
    happenMarked detFunctionFallbackByCause f 0 mark (leaveEnabled e cause (updFn f (fun x => { x with inj := mark }) s))
  else s

/-- A function starts from an output: its loop starts, its sink waits for a valid cell (R63, R91, Table 3-9). -/
def startFn (e : Bytes) (u : Int) (s : State) : State :=
  let sink := rdN e 1 1 == 7
  updFn (rdN e 0 1) (fun x => { x with st := .enabled, hold := sink, next := u, starts := false, inj := false, cause := 0 })
    (if sink then s else setLoop (slotOfFn e) (loopStart u) s)

/-- FUNCTION_ENABLE on (Table 3-9). In the two-lane safe state every function stays in SAFE. -/
def enableFn (e : Bytes) (s : State) : State :=
  let f := rdN e 0 1
  if s.gr.mode = .safe then s
  else match (fnOf s f).st with
    | .disabled => startFn e 0 s
    | .safe => startFn e (safeOut e) s
    | .ramp =>
      let v := (fnOf s f).rampV
      updLoop (slotOfFn e) (fun l => { l with swap := .target v }) (updFn f (fun x => { x with st := .enabled, next := v, inj := false }) s)
    | .enabled => s

/-- FUNCTION_ENABLE off (Table 3-9). -/
def disableFn (e : Bytes) (s : State) : State :=
  let f := rdN e 0 1
  match (fnOf s f).st with
  | .enabled => leaveEnabled e 4 s
  | .safe => if s.gr.mode = .safe then s else updFn f (fun x => { x with st := .disabled }) s
  | .ramp | .disabled => s

/-- Every function of the active profile in turn. -/
def eachFn (g : Bytes → State → State) (s : State) : State :=
  (sortBy (fun e => rdN e 0 1) s.pf.work.funcs).foldl (fun st e => g e st) s

/-- Functions whose stop group is asserted in the record take their safe state (R64, Table 3-9). -/
def stopFns (s : State) : State :=
  eachFn (fun e st =>
    let stop := if bit (rdN e 3 1) 2 then st.gr.cur.stopB else st.gr.cur.stopA
    if stop && (fnOf st (rdN e 0 1)).st != .safe then
      let s1 := fnToSafe e (updFn (rdN e 0 1) (fun x => { x with cause := 6 }) st)
      if rdN e 0 1 = 23 && s1.gn.steer.st != .off then steerOff 6 s1 else s1
    else st) s

/-- The D9 status of a channel in the record: valves 1–12, then load switches 1–24 (Table 3-2). -/
def d9Of (s : State) (k : Nat) : Nat := nth s.gr.cur.d9 k 0

/-- VBAT in the D9 status of the record, in mV. -/
def vbatRec (s : State) : Nat := nth s.gr.cur.d9 37 s.an.vbat

/-- Whether a function's output channel is in FAULT or LATCHED in the record (R192, R206). -/
def outputFault (s : State) (e : Bytes) : Bool :=
  let ch := rdN e 2 1 - 1
  match rdN e 1 1 with
  | 1 | 2 => bit (d9Of s ch) 3 || (match vdPartner s ch with | some m => bit (d9Of s m) 3 | none => false)
  | 3 | 4 => bit (d9Of s (12 + ch)) 3
  | _ => false

/-- Fallback causes judged in phase 1: output faults, and a forced fallback (R192, R206, R331). -/
def faultFns (s : State) : State :=
  eachFn (fun e st => if outputFault st e || forced st detFunctionFallbackByCause (rdN e 0 1) then fallback e 3 st else st) s

/-- The functions that start in this frame (R69). -/
def startFns (s : State) : State :=
  eachFn (fun e st =>
    if (fnOf st (rdN e 0 1)).starts then
      (if (fnOf st (rdN e 0 1)).st = .disabled && st.gr.mode != .safe then startFn e 0 st
       else updFn (rdN e 0 1) (fun x => { x with starts := false }) st)
    else st) s

/-- The age of a function's feedback in frames. -/
def feedbackAge (s : State) (idx : Nat) : Nat :=
  match (sensEntry s idx).bind (sensVal s) with | some v => v.age | none => 255

/-- Whether a function's feedback is stale or implausible (R106). The injected quantity is its age. -/
def feedbackBad (s : State) (e : Bytes) : Bool :=
  let idx := rdN e 26 1
  if idx = 255 || rdN e 1 1 = 7 then false
  else
    let f := rdN e 0 1
    let age := measured s detStaleOrImplausibleFeedback f (feedbackAge s idx)
    match sensEntry s idx with
    | some x => decide ((rdN x 3 1 : Int) < age) || !plausible x (sensScaled s idx)
    | none => true

/-- FEEDBACK_HOLD within FRAME_START (R106): the hold, its count and its end with target u_prev. -/
def holdFns (s : State) : State :=
  eachFn (fun e st =>
    if rdN e 26 1 = 255 || rdN e 1 1 = 7 then st
    else
      let f := rdN e 0 1
      let bad := feedbackBad st e
      let was := (fnOf st f).hold
      let s1 := updFn f (fun x => { x with badFb := if bad then x.badFb + 1 else 0, hold := bad && x.st == .enabled }) st
      let s2 := detect detStaleOrImplausibleFeedback f bad
        (measured st detStaleOrImplausibleFeedback f (feedbackAge st (rdN e 26 1))).toNat s1
      if was && !bad && (fnOf s2 f).st == .enabled then updLoop (slotOfFn e) (fun l => { l with swap := .target l.uPrev }) s2 else s2) s

/-- FEEDBACK_GRACE_EXPIRY (R106). -/
def execFeedbackGraceExpiry (f : Fin 30) (s : State) : Host.Outcome State Fault Refusal :=
  .next (match fnEntry s (f.val + 1) with
    | some e => if paramN s pGrFeedbackGrace ≤ (fnOf s (f.val + 1)).badFb then fallback e 1 s else s
    | none => s)

/-- R98: one step of a ramp toward a target. -/
def rampStep (v : Int) (r : Nat) (target : Int) : Int × Nat := (sat32 (v + Int.tdiv (target - v) r), r - 1)

/-- RAMP_STEP within FRAME_START (R98). -/
def rampFns (s : State) : State :=
  eachFn (fun e st =>
    let x := fnOf st (rdN e 0 1)
    if x.st = .ramp && 0 < x.rampR then
      let r := rampStep x.rampV x.rampR (safeOut e)
      updFn (rdN e 0 1) (fun y => { y with rampV := r.1, rampR := r.2 }) st
    else st) s

/-- RAMP_END (R98): the ramp has reached its end value, the function holds its safe state. -/
def execRampEnd (f : Fin 30) (s : State) : Host.Outcome State Fault Refusal :=
  .next (match fnEntry s (f.val + 1) with
    | some e => if (fnOf s (f.val + 1)).st = .ramp && (fnOf s (f.val + 1)).rampR = 0 then fnToSafe e s else s
    | none => s)

/-! ### Machine slots and fast slots -/

/-- The Cream value that a sink receives: from the receive entry that names it. -/
def sinkValue (s : State) (f : Nat) : Option CreamVal :=
  match s.pf.work.cream.findIdx? (fun e => rdN e 2 1 == 2 && rdN e 6 1 == 1 && rdN e 7 1 == f) with
  | some i => s.gr.cur.cream.find? (fun v => v.index == i)
  | none => none

/-- A Cream sink in a frame (R63): its output is the value received; after MISS_LIMIT consecutive misses it takes its safe state, and once
re-enabled it leaves that at the first valid cell. -/
def sinkStep (e : Bytes) (s : State) : State :=
  let f := rdN e 0 1
  match sinkValue s f with
  | none => s
  | some v =>
    if (fnOf s f).hold && !v.arrived then updFn f (fun x => { x with next := safeOut e }) s
    else if rdN e 7 1 ≤ v.misses then fallback e 5 s
    else updFn f (fun x => { x with next := v.value, hold := false }) s

/-- A function's loop takes one sample, or holds its output (R91, R106). -/
def runFn (e : Bytes) (sp fb : Int) (s : State) : State :=
  let f := rdN e 0 1
  if (fnOf s f).hold then updFn f (fun x => { x with next := (loopOf s (slotOfFn e)).uPrev }) s
  else
    let r := runSlot (slotOfFn e) (rdN e 27 1) sp fb s
    updFn f (fun x => { x with next := r.2.1 }) r.2.2

/-- The machine-slot phase (R76, R95, R243): min-select groups, the steering loop, then every ENABLED function in a machine slot. -/
def machinePhase (s : State) : State :=
  let s1 := steerLoop (s.pf.work.groups.foldl (fun st g => runGroup g st) s)
  eachFn (fun e st =>
    let f := rdN e 0 1
    if (fnOf st f).st = .enabled then
      (if rdN e 1 1 = 7 then sinkStep e st
       else if isFast (slotOfFn e) then st
       else runFn e (effSp st f) (feedbackOf st (rdN e 26 1)) st)
    else st) s1

/-- The coil current of a valve channel's pair in the tick record. -/
def tickCurrent (s : State) (ch : Nat) : Int :=
  nth s.gr.tickRec ch 0 - (match vdPartner s ch with | some m => nth s.gr.tickRec m 0 | none => 0)

/-- A fast-slot function's sample in a tick: a current loop reads the tick record, with dither on its setpoint (R188, R189). -/
def runFast (e : Bytes) (s : State) : State :=
  let f := rdN e 0 1
  let ch := rdN e 2 1 - 1
  if (pairOf s (rdN e 27 1)).1 = 3 then
    runFn e (dithered (effSp s f) (paramN s (pVdDitherAmp ch)) (paramN s (pVdDitherPeriod ch)) s.clk.frame s.gr.tick) (tickCurrent s ch) s
  else runFn e (effSp s f) (feedbackOf s (rdN e 26 1)) s

/-- A committed output drives its endpoint; a pulse rate is turned into fires at every tick instead. -/
def driveOut (e : Bytes) (s : State) : State :=
  let u := (fnOf s (rdN e 0 1)).out
  let ch := rdN e 2 1 - 1
  match rdN e 1 1 with
  | 2 => dutyFn e u s
  | 3 | 4 => lsRequest ch (lsDuty s ch u (vbatRec s)) s
  | _ => s

/-! ### Ticks -/

/-- TICK_SAMPLE (R76, R78): coil currents and load currents in mA and the boost rail in mV, 2 µs before the tick. During a replay the latch
takes no live input (R100). -/
def execTickSample (coils loads : List Nat) (rail : Nat) (s : State) : Host.Outcome State Fault Refusal :=
  .next (if s.clk.running then
    let s1 := setCoils coils { s with
      an := { s.an with rail := rail }
      ls := { s.ls with chans := s.ls.chans.zipIdx.map (fun p => { p.1 with ma := nth loads p.2 p.1.ma }) } }
    if s.gr.replay.st = .running then s1
    else updGr (fun g => { g with tickNext := (List.range 12).map (fun k => ((nth coils k 0 : Nat) : Int)) }) s1
    else s)

/-- TICK_START (R76): the tick record is released and the CLE runs every fast slot of an ENABLED function. -/
def execTickStart (s : State) : Host.Outcome State Fault Refusal :=
  .next (if grLive s && decide (s.gr.tick < 20) then
    eachFn (fun e st => if (fnOf st (rdN e 0 1)).st = .enabled && isFast (slotOfFn e) && rdN e 1 1 != 7 then runFast e st else st)
      (atCycle (37500 * s.gr.tick) (updGr (fun g => { g with tickRec := g.tickNext }) s))
    else s)

/-- What a tick commit that counts does: fast outputs and ramp values are committed and driven, pulse rates and host trains fire (R83,
R98, R177). -/
def tickCommitted (s : State) : State :=
  let c := usNow s (50 * s.gr.tick + 40)
  let s1 := eachFn (fun e st =>
    let x := fnOf st (rdN e 0 1)
    if x.st = .enabled && isFast (slotOfFn e) && rdN e 1 1 != 7 then
      driveOut e (updFn (rdN e 0 1) (fun y => { y with out := y.next }) st)
    else if x.st = .ramp then driveOut e (updFn (rdN e 0 1) (fun y => { y with out := y.rampV }) st)
    else st) s
  trainTick c (eachFn (fun e st => if rdN e 1 1 = 1 then fireFn c e (fnOf st (rdN e 0 1)).out st else st) s1)

/-- TICK_COMMIT (R76, R83): 40 µs into the tick. `bad` are the lanes whose word set differs. During a replay the outputs go only to the
comparison (R100). -/
def execTickCommit (bad : List (Fin 3)) (s : State) : Host.Outcome State Fault Refusal :=
  .next (if s.gr.running && decide (s.gr.tick < 20) then
    let v := vote bad s
    let s1 := if v.2 && v.1.gr.replay.st != .running then tickCommitted v.1 else v.1
    atCycle (37500 * s.gr.tick + 30000) (updGr (fun g => { g with tick := g.tick + 1 }) s1)
    else s)

/-! ### The end of a frame -/

/-- FIRMWARE_DEADLINE (R97): the frame work of `work` CLK_CTL cycles is complete by 975 µs, or the frame overruns. -/
def execFirmwareDeadline (work : Nat) (s : State) : Host.Outcome State Fault Refusal :=
  .next (if grLive s then
    let late := decide (731250 < work) || forced s detFrameOverrun 0
    let s1 := atCycle 731250 <| updGr (fun g => { g with
      lastWork := work, peakWork := max g.peakWork work, overran := late,
      overruns := if late then wrapU 32 (g.overruns + 1) else g.overruns
      consec := if late then g.consec + 1 else 0 }) s
    if late then happen detFrameOverrun 0 0 s1 else s1
    else s)

/-- Whether a function's output or setpoint comes from a machine slot or a min-select group (R97). -/
def onMachineWork (s : State) (e : Bytes) : Bool :=
  (!isFast (slotOfFn e) && rdN e 1 1 != 7) || s.pf.work.groups.any (fun g => rdN g 1 1 == rdN e 0 1) ||
    (rdN e 0 1 == 23 && s.gn.steer.st == .engaged)

/-- CONSECUTIVE_OVERRUN_LIMIT (R97): the third overrun in a row. -/
def execConsecutiveOverrunLimit (s : State) : Host.Outcome State Fault Refusal :=
  .next (if 3 ≤ s.gr.consec then eachFn (fun e st => if onMachineWork st e then fallback e 2 st else st) s else s)

/-- The values of the module's own schedule entries with their SAFE bits (R262, Table 9-4): after an overrun those of machine work hold. -/
def creamCommit (s : State) : State :=
  let vals := s.pf.work.cream.zipIdx.map (fun x =>
    let e := x.1
    let old := nth s.fb.txVals x.2 (0, false)
    match rdN e 6 1 with
    | 1 => match fnEntry s (rdN e 7 1) with
      | some fe =>
        let f := fnOf s (rdN e 7 1)
        if f.st = .enabled || f.st = .ramp then (f.out, false) else (rdI fe 8 4, true)
      | none => (0, true)
    | 2 => if s.gr.overran || s.gr.mode = .safe then old else (sensScaled s (rdN e 7 1), false)
    | _ => if s.gr.overran || s.gr.mode = .safe then old else ((loopOf s (rdN e 8 2)).uPrev, false))
  { s with fb := { s.fb with txVals := vals } }

/-- The free bytes of a captured part whose layout the specification does not give: a 4-byte length and that many bytes. -/
def capturedBytes (most : Nat) (s : State) : Bytes × State :=
  let n := freshNat s
  freshBytes (n.1 % (most + 1)) n.2

/-- One frame joins the capture file: a length, the record, 160 bytes of digests (R103; the record's layout is unstated, log entry 3). -/
def captureFrame (s : State) : State :=
  match s.gr.capture with
  | none => s
  | some c =>
    if c.running && decide (c.first ≤ s.clk.frame) && decide (c.held < c.want) && grLive s then
      let r := capturedBytes 12288 s
      let d := freshBytes 160 r.2
      updGr (fun g => { g with capture := some { c with
        held := c.held + 1, data := splice c.data 16 (u32 (c.held + 1)) ++ u32 (r.1.length + 160) ++ r.1 ++ d.1 } }) d.2
    else s

/-- FRAME_COMMIT (R76, R83): at the end of the frame the voter commits the machine outputs, unless the frame overran, and the outgoing
Cream values. -/
def execFrameCommit (bad : List (Fin 3)) (s : State) : Host.Outcome State Fault Refusal :=
  .next (if s.gr.running then
    let v := vote bad s
    let s1 := if v.2 && v.1.gr.replay.st != .running && !v.1.gr.overran then
        eachFn (fun e st => if (fnOf st (rdN e 0 1)).st = .enabled && (!isFast (slotOfFn e) || rdN e 1 1 == 7) then
          updFn (rdN e 0 1) (fun y => { y with out := y.next }) st else st) v.1
      else v.1
    captureFrame (creamCommit s1)
    else s)

/-- The machine outputs voted at the end of the frame before take effect (R76). -/
def machineEffect (s : State) : State :=
  if grLive s && s.gr.replay.st != .running then
    eachFn (fun e st => if (fnOf st (rdN e 0 1)).st = .enabled && !isFast (slotOfFn e) then driveOut e st else st) s
  else s

/-! ### Activation (R69) -/

/-- Whether a function goes on from an old entry to a new one. -/
def continues (old : List Bytes) (e : Bytes) : Bool :=
  bit (rdN e 3 1) 1 && old.any (fun o => rdN o 0 1 == rdN e 0 1 && rdN o 1 1 == rdN e 1 1 && rdN o 2 1 == rdN e 2 1)

/-- The loops of the new profile: those of continuing functions move to their slot and take the new bank by the swap rule; the steering loop
goes on with its slot; every other loop starts. -/
def nextLoops (old : List Bytes) (oldSlot : Nat) (s : State) : List (Nat × Loop) :=
  let kept := s.pf.work.funcs.filterMap (fun e =>
    if continues old e then
      (old.find? (fun o => rdN o 0 1 == rdN e 0 1)).map (fun o => (slotOfFn e, { loopOf s (slotOfFn o) with swap := .rule }))
    else none)
  let steer := if paramN s pGnSteerSlot = 0 || s.gn.steer.st = .off then []
    else [(paramN s pGnSteerSlot, { loopOf s oldSlot with swap := SwapDue.rule })]
  (kept ++ steer).foldl (fun m x => setKey x.1 x.2 m) []

/-- The functions after a change from an old function table to the working copy's (R69, steps 1 and 2): a continuing function keeps its
state and its setpoint, clamped; any other starts in the next frame, if INIT_ENABLED, at SP_INIT. -/
def nextFns (old : List Bytes) (s : State) : List Fn :=
  (List.range 30).map (fun k =>
    match s.pf.work.funcs.find? (fun e => rdN e 0 1 == k + 1) with
    | none => fn0
    | some e =>
      let x := fnOf s (k + 1)
      if continues old e then { x with sp := clampI (rdI e 12 4) (rdI e 16 4) x.sp, badFb := 0 }
      else { fn0 with sp := rdI e 20 4, starts := bit (rdN e 3 1) 0, st := if s.gr.mode = .safe then .safe else .disabled,
                      out := safeOut e, next := safeOut e })

/-- Granite takes the working copy: functions, loops, counts since activation, Cream values. `old` is the function table before and
`oldSlot` the steering slot before. -/
def graniteActivate (old : List Bytes) (oldSlot : Nat) (s : State) : State :=
  let fns := nextFns old s
  let loops := nextLoops old oldSlot s
  let s1 := updGr (fun g => { g with
    fns, loops, overruns := 0, consec := 0, peakWork := 0, overran := false, derived := []
    fire := g.fire.zipIdx.map (fun x => if (nth fns x.2 fn0).st = .enabled then x.1 else (0, 0)) }) s
  let s2 := { s1 with fb := { s1.fb with txVals := s1.pf.work.cream.map (fun _ => (0, false)) } }
  if s2.gn.steer.st != .off && (fnOf s2 23).st != .enabled then disengage 5 s2 else s2

/-- The old functions that do not go on drive their old safe state (R69, step 2). `next` is the new function table. -/
def leaveProfile (next : List Bytes) (s : State) : State :=
  eachFn (fun e st =>
    if next.any (fun n => rdN n 0 1 == rdN e 0 1 && continues [e] n) then st else driveSafe e st) s

/-- After a replay run Granite restarts from the working copy as at activation, every function DISABLED (R100). -/
def replayRestart (s : State) : State :=
  let s1 := graniteActivate [] 0 s
  updGr (fun g => { g with fns := g.fns.map (fun f => { f with starts := false }) }) s1

/-- A replay run moves on by one captured frame each millisecond; after one that a lane fault ended Granite restarts (R100). -/
def replayFrame (s : State) : State :=
  if s.gr.replay.st = .running then updGr (fun g => { g with replay := { g.replay with frames := min g.replay.count (g.replay.frames + 1) } }) s
  else if s.gr.replay.st = .done && s.gr.replay.result = 3 && 0 < s.gr.replay.count then
    replayRestart (updGr (fun g => { g with replay := { g.replay with count := 0 } }) s)
  else s

/-! ### Commands (Table 3-12, R99, R103) -/

/-- Whether the state refuses the commands that change Granite's state (R103). -/
def grRefused (s : State) : Bool := s.gr.mode == .safe || s.gr.replay.st == .running

/-- The mask of functions with a property. -/
def fnMask (s : State) (p : Fn → Bool) : Nat :=
  maskOf 30 (fun k => (fnEntry s (k + 1)).isSome && p (fnOf s (k + 1)))

/-- GR_STATUS. -/
def bodyGrStatus : Body := emptyPayload fun _ s =>
  let g := s.gr
  ans s stOk (u8 (grModeCode g.mode) ++ u8 (maskOf 3 (fun k => (laneOf s k).st == .active)) ++ u8 (readmitting s) ++ zeros 1 ++
    u64 s.clk.frame ++ u32 g.overruns ++ u8 (satU 8 g.consec) ++ zeros 3 ++ u32 g.lastWork ++ u32 g.peakWork ++
    u32 (fnMask s (fun f => f.st == .enabled)) ++ u32 (fnMask s (fun f => f.st == .ramp)) ++ u32 (fnMask s (fun f => f.st == .safe)) ++
    u32 (fnMask s (fun f => f.badFb != 0)) ++ controlDigest s)

/-- The entries of a FUNCTION_SET after its prefix: function and setpoint. -/
def setEntries (p : Bytes) : List (Nat × Int) := (List.range (rdN p 0 1)).map (fun k => (rdN p (4 + 8 * k) 1, rdI p (8 + 8 * k) 4))

/-- FUNCTION_SET: 1–30 setpoints of functions of the profile, each within SP_MIN–SP_MAX (R62, R99). -/
def bodyFunctionSet : Body := timedBody (fun c s =>
    let p := c.payload.drop 12
    let k := rdN p 0 1
    if p.length ≠ 4 + 8 * k || k = 0 || 30 < k || !resZero p 1 3 ||
        (List.range k).any (fun i => !resZero p (5 + 8 * i) 3) ||
        !(setEntries p).all (fun x => match fnEntry s x.1 with
          | some e => decide (rdI e 12 4 ≤ x.2) && decide (x.2 ≤ rdI e 16 4)
          | none => false)
      then some (stBadArg, [])
    else if grRefused s then some (stRefusedState, []) else none) frameReply

/-- FUNCTION_ENABLE: no function in both masks, each of the profile; none is enabled while an update holds the module (R352). -/
def bodyFunctionEnable : Body := timedBody (fun c s =>
    let p := c.payload.drop 12
    let on := rdN p 0 4
    let off := rdN p 4 4
    if p.length ≠ 8 || (List.range 32).any (fun k => (bit on k && bit off k) ||
        ((bit on k || bit off k) && !(decide (k < 30) && (fnEntry s (k + 1)).isSome)))
      then some (stBadArg, [])
    else if grRefused s || (on ≠ 0 && commitHeld s) then some (stRefusedState, []) else none) frameReply

/-- FUNCTION_SET at its frame of application, every function it names present (R70). An internal one never overrides a host's for the same
frame (R159). -/
def applyFunctionSet (t : TCmd) (s : State) : State :=
  let es := setEntries t.payload
  let hosts := (s.gr.cur.cmds.filter (fun c => !c.internal && c.code == cFunctionSet)).flatMap (fun c => (setEntries c.payload).map (·.1))
  let s1 := es.foldl (fun st x => if t.internal && hosts.contains x.1 then st else
    match fnEntry st x.1 with
    | some e => updFn x.1 (fun f => { f with sp := clampI (rdI e 12 4) (rdI e 16 4) x.2 }) st
    | none => st) s
  if t.internal then s1 else optHostSet (es.map (·.1)) s1

/-- FUNCTION_ENABLE at its frame of application. -/
def applyFunctionEnable (t : TCmd) (s : State) : State :=
  let on := rdN t.payload 0 4
  let off := rdN t.payload 4 4
  eachFn (fun e st =>
    let k := rdN e 0 1 - 1
    if bit on k then enableFn e st else if bit off k then disableFn e st else st) s

/-- COEF_BANK_WRITE (R92, R103): the inactive bank of a pair of the working copy. -/
def bodyCoefBankWrite : Body := fun c s =>
  let p := c.payload
  let k := rdN p 0 1
  let b := rdN p 1 1
  let bank := slice p 4 48
  match pairIn s.pf.work.banks k with
  | none => ans s stBadArg
  | some e =>
    if p.length ≠ 52 || 2 ≤ b || !resZero p 2 2 || !bankFields bank || !bankTerms (rdN e 1 1) bank then ans s stBadArg
    else if grRefused s || !stationary s || rdN e 2 1 = b then ans s stRefusedState
    else
      let w := s.pf.work
      let s1 := { s with pf := { s.pf with
        modified := true
        work := { w with banks := w.banks.map (fun x => if rdN x 0 1 = k then splice x (8 + 48 * b) bank else x) } } }
      ans s1 stOk (controlDigest s1)

/-- COEF_BANK_SWAP (R93, R103). -/
def bodyCoefBankSwap : Body := timedBody (fun c s =>
    let p := c.payload.drop 12
    let m := rdN p 0 8
    if p.length ≠ 8 || (List.range 64).any (fun k => bit m k && (pairIn s.pf.work.banks k).isNone) then some (stBadArg, [])
    else if grRefused s || !stationary s then some (stRefusedState, []) else none) frameReply

/-- COEF_BANK_SWAP at its frame of application: the ACTIVE flags change and each loop that uses a pair takes the swap rule at its next
sample (R93). -/
def applyCoefBankSwap (t : TCmd) (s : State) : State :=
  let m := rdN t.payload 0 8
  let w := s.pf.work
  let s1 := { s with pf := { s.pf with
    modified := true
    work := { w with banks := w.banks.map (fun x => if bit m (rdN x 0 1) then splice x 2 (u8 (1 - rdN x 2 1)) else x) } } }
  ((List.range 64).filter (bit m)).foldl (fun st k =>
    (slotsUsing st k).foldl (fun st2 slot => updLoop slot (fun l => { l with swap := .rule }) st2) st) s1

/-- RECORD_CAPTURE (R103): the expected file length follows a layout that the specification does not give (log entry 3). -/
def bodyRecordCapture : Body := timedBody (fun c s =>
    let p := c.payload.drop 12
    let n := rdN p 0 4
    if p.length ≠ 4 || n = 0 || 60000 < n then some (stBadArg, [])
    else if grRefused s || (10000 < n && !stationary s) then some (stRefusedState, []) else none)
  fun _ t s => let f := freshNat s; (f.2, u64 t.frame ++ u32 f.1)

/-- The 128-byte header of a capture file (Table 3-11). -/
def captureHeader (s : State) (first img : Nat) : Bytes :=
  [0x47, 0x43, 0x41, 0x50] ++ [0x03, 0x02, 0x00] ++ zeros 1 ++ u64 first ++ u32 0 ++ u32 s.pf.crc ++ controlDigest s ++ u32 img ++
    u32 (128 + img) ++ zeros 88

/-- RECORD_CAPTURE at its first frame: a new file with its start image. -/
def applyRecordCapture (t : TCmd) (s : State) : State :=
  let img := capturedBytes 2097152 s
  updGr (fun g => { g with capture := some ⟨t.frame, rdN t.payload 0 4, 0, true, captureHeader s t.frame img.1.length ++ img.1⟩ }) img.2

/-- RECORD_CAPTURE_DONE (R103): the requested frames are in the file. -/
def execRecordCaptureDone (s : State) : Host.Outcome State Fault Refusal :=
  .next (match s.gr.capture with
    | some c => if c.running && c.want ≤ c.held then updGr (fun g => { g with capture := some { c with running := false } }) s else s
    | none => s)

/-- RECORD_READ. -/
def bodyRecordRead : Body := fun c s =>
  let p := c.payload
  let off := rdN p 0 4
  let n := rdN p 4 4
  let d := (s.gr.capture.map Capture.data).getD []
  if p.length ≠ 8 || n = 0 || 65520 < n || d.length ≤ off then ans s stBadArg
  else ans s stOk (u32 off ++ slice d off n)

/-- The response of REPLAY. -/
def replayReply (s : State) : State × Reply :=
  let r := s.gr.replay
  let st := match r.st with | .idle => 0 | .running => 1 | .done => 2
  ans s stOk (u8 st ++ u8 r.result ++ zeros 2 ++ u32 r.frames ++ u32 r.mismatches ++ u64 r.badFrame ++ u8 r.badTick ++ zeros 3)

/-- REPLAY STATUS. -/
def bodyReplayStatus : Body := withOp 0 0 fun c s =>
  if c.payload.length ≠ 4 || !resZero c.payload 1 3 then ans s stBadArg else replayReply s

/-- REPLAY LOAD: at offset 0 the file is replaced; later bytes join it (R103). -/
def bodyReplayLoad : Body := withOp 0 1 fun c s =>
  let p := c.payload
  let off := rdN p 4 4
  let d := (s.gr.capture.map Capture.data).getD []
  if p.length < 9 || !resZero p 1 3 || (off ≠ 0 && (d.length < off || s.gr.capture.isNone)) then ans s stBadArg
  else if grRefused s then ans s stRefusedState
  else
    let data := if off = 0 then p.drop 8 else splice d off (p.drop 8)
    replayReply (updGr (fun g => { g with capture := some ⟨rdN data 8 8, rdN data 16 4, rdN data 16 4, false, data⟩ }) s)

/-- REPLAY RUN (R100). -/
def bodyReplayRun : Body := withOp 0 2 fun c s =>
  let p := c.payload
  let first := rdN p 4 4
  let n := rdN p 8 4
  match s.gr.capture with
  | none => ans s stRefusedState
  | some f =>
    if p.length ≠ 12 || !resZero p 1 3 || n = 0 || f.held < first + n then ans s stBadArg
    else if grRefused s || !inService s || s.gr.mode != .triple || !fnsIdle s || f.running then ans s stRefusedState
    else if slice f.data 0 4 ≠ [0x47, 0x43, 0x41, 0x50] || slice f.data 4 3 ≠ [0x03, 0x02, 0x00] || slice f.data 24 8 ≠ controlDigest s then
      ans s stValidationFail
    else replayReply ((List.range 12).foldl (fun st ch => vdOff ch st)
      (lsGateOff (updGr (fun g => { g with replay := ⟨.running, 0, first, n, 0, 0, 0, 0⟩ }) s)))

/-- REPLAY ABORT (R100): a run ends with result 2. -/
def bodyReplayAbort : Body := withOp 0 3 fun c s =>
  if c.payload.length ≠ 4 || !resZero c.payload 1 3 then ans s stBadArg
  else if s.gr.replay.st = .running then replayReply (replayRestart (endReplay 2 s))
  else replayReply s

/-- REPLAY_DONE (R100): every frame asked for has run; `mismatches` ticks differed, the first in `frame` at `tick`. -/
def execReplayDone (mismatches frame tick : Nat) (s : State) : Host.Outcome State Fault Refusal :=
  .next (if s.gr.replay.st = .running && s.gr.replay.count ≤ s.gr.replay.frames then
    replayRestart (updGr (fun g => { g with replay := { g.replay with
      st := .done, result := if mismatches = 0 then 0 else 1, mismatches, badFrame := if mismatches = 0 then 0 else frame,
      badTick := if mismatches = 0 then 0 else tick } }) s)
    else s)

end Sys2Proof.Machine
end

