-- ==== Sys2Proof/Machine/Validate.lean ====
section
/-!
DEFINITION. Machine/Validate.lean: the profile image and its ten checks (R59 to R66, R94, R118, R176, R243, R265, R286, Table 2-6), the
budget (R102) and the working copy as an image (R56).
-/

namespace Sys2Proof.Machine

/-! ### The image (R59, R60) -/

/-- The entry size of a section type (Table 2-4); 0 for a type that is not listed. -/
def entrySize (ty : Nat) : Nat :=
  match ty with
  | 1 | 2 | 7 => 32 | 3 => 12 | 4 => 104 | 5 => 72 | 6 => 16 | 8 => 384 | _ => 0

/-- The directory of an image: section types with their offsets. -/
def directory (b : Bytes) : List (Nat × Nat) :=
  (List.range (min 16 (rdN b 56 2))).map (fun k => (rdN b (64 + 8 * k) 2, rdN b (68 + 8 * k) 4))

/-- The end of the extent of a section that begins at `off`: the next higher offset, or LENGTH. -/
def extentEnd (dir : List (Nat × Nat)) (len off : Nat) : Nat :=
  ((dir.map (·.2)).filter (fun o => decide (off < o))).foldl min len

/-- Whether a section lies inside LENGTH and its count and entries fit its extent. -/
def sectionFits (b : Bytes) (dir : List (Nat × Nat)) (d : Nat × Nat) : Bool :=
  let fin := extentEnd dir b.length d.2
  decide (d.2 + 4 ≤ fin) && decide (d.2 + 4 + rdN b d.2 4 * entrySize d.1 ≤ fin)

/-- The entries of a section type; none where the image does not hold it. -/
def sectionEntries (b : Bytes) (ty : Nat) : List Bytes :=
  match (directory b).find? (fun d => d.1 == ty) with
  | some d => (List.range (rdN b d.2 4)).map (fun k => slice b (d.2 + 4 + k * entrySize ty) (entrySize ty))
  | none => []

/-- A parameter-value entry's ID and value (R61). -/
def paramOfEntry (e : Bytes) : Nat × Int :=
  let id := rdN e 0 4
  (id, slotValue (((paramRow id).map ParamRow.ty).getD 0) (slice e 4 8))

/-- The content of an image. -/
def imageOf (b : Bytes) : Image :=
  { csMinor := rdN b 5 1, pflags := rdN b 6 2, revision := rdN b 12 4, machineSet := rdN b 20 4, name := slice b 24 32,
    funcs := sectionEntries b 1, sensors := sectionEntries b 2, params := (sectionEntries b 3).map paramOfEntry,
    banks := sectionEntries b 4, groups := sectionEntries b 5, cream := sectionEntries b 6, canTable := sectionEntries b 7,
    crops := sectionEntries b 8, present := (directory b).map (·.1) }

/-- An image's CRC: over the whole image with bytes 16–19 taken as 0 (R59). -/
def imageCrc (b : Bytes) : Nat := crc32 (splice b 16 (zeros 4))

/-- The entries of a section of a content. -/
def entriesOf (m : Image) (ty : Nat) : List Bytes :=
  match ty with
  | 1 => m.funcs | 2 => m.sensors | 3 => m.params.map (fun p => valueEntry p.1 p.2) | 4 => m.banks | 5 => m.groups | 6 => m.cream
  | 7 => m.canTable | 8 => m.crops | _ => []

/-- A content as an image: header, directory, sections one after another in the order of the directory (R59, R60). -/
def imageBytes (m : Image) : Bytes :=
  let n := m.present.length
  let secs := m.present.map (fun ty => sectionBytes (entriesOf m ty))
  let offs := (List.range n).map (fun k => 64 + 8 * n + ((secs.take k).map List.length).sum)
  let dir := (List.zip m.present offs).flatMap (fun d => u16 d.1 ++ zeros 2 ++ u32 d.2)
  let body := dir ++ secs.flatten
  let len := max 128 (64 + body.length)
  let img := padTo len ([0x47, 0x50, 0x52, 0x46, 0x03] ++ u8 m.csMinor ++ u16 m.pflags ++ u32 len ++ u32 m.revision ++ zeros 4 ++
    u32 m.machineSet ++ padTo 32 m.name ++ u16 n ++ zeros 6 ++ body)
  splice img 16 (u32 (imageCrc img))

/-- The PS image in mask ROM (R446). -/
def psImage : Bytes :=
  let img := padTo 128 ([0x47, 0x50, 0x52, 0x46, 0x03, 0] ++ u16 0 ++ u32 128 ++ u32 0 ++ zeros 4 ++ u32 0 ++ padTo 32 [0x50, 0x53] ++ u16 2 ++
    zeros 6 ++ u16 1 ++ zeros 2 ++ u32 80 ++ u16 3 ++ zeros 2 ++ u32 84)
  splice img 16 (u32 (imageCrc img))

/-- The working copy that an activated image forms: every parameter that is writable and saved is listed (R56). -/
def workingCopy (m : Image) : Image := { m with params := workIds.map (fun id => (id, listedValue m.params id)) }

/-! ### Checks 1 and 2 -/

/-- A failing check with the section type and the entry index (R66). -/
abbrev CheckFail := Nat × Nat × Nat

/-- Check 1: header and CRC. -/
def check1 (b : Bytes) : Option CheckFail :=
  if slice b 0 5 = [0x47, 0x50, 0x52, 0x46, 0x03] && decide (128 ≤ b.length) && decide (b.length ≤ 262144) && rdN b 8 4 == b.length &&
      rdN b 16 4 == imageCrc b && decide (rdN b 6 2 < 8) && resZero b 58 6 then none
  else some (1, 0, 0)

/-- Check 2: CS_MINOR, directory, extents. A failing directory entry is named by its type and its place in the directory, a mandatory section
that is missing by its type. -/
def check2 (b : Bytes) : Option CheckFail :=
  let n := rdN b 56 2
  let dir := directory b
  if 2 < rdN b 5 1 || n = 0 || 16 < n || b.length < 64 + 8 * n then some (2, 0, 0)
  else
    let bad := fun (x : (Nat × Nat) × Nat) =>
      !resZero b (66 + 8 * x.2) 2 || (dir.take x.2).any (fun y => y.1 == x.1.1 || y.2 == x.1.2) || entrySize x.1.1 == 0 ||
        decide (x.1.2 < 64 + 8 * n) || !sectionFits b dir x.1
    match dir.zipIdx.find? bad with
    | some x => some (2, x.1.1, x.2)
    | none => match [1, 3].find? (fun ty => !dir.any (fun d => d.1 == ty)) with
      | some ty => some (2, ty, 0)
      | none => none

/-! ### Checks 3 to 10 -/

/-- The first entry of a section that fails a test. -/
def firstFail (check ty : Nat) (es : List Bytes) (ok : Nat → Bytes → Bool) : Option CheckFail :=
  (es.zipIdx.find? (fun x => !ok x.2 x.1)).map (fun x => (check, ty, x.2))

/-- Whether no earlier entry has the same key. -/
def fresh {α : Type} [BEq α] (es : List Bytes) (i : Nat) (key : Bytes → α) (e : Bytes) : Bool := !(es.take i).any (fun x => key x == key e)

/-- The valve channels a function entry owns: its own and its partner (R176). -/
def ownedValves (vals : List (Nat × Int)) (e : Bytes) : List Nat :=
  if rdN e 1 1 = 1 || rdN e 1 1 = 2 then
    let p := (listedValue vals (pVdPartner (rdN e 2 1 - 1))).toNat
    if p = 0 then [rdN e 2 1] else [rdN e 2 1, p]
  else []

/-- Check 3 on one function entry, by itself. -/
def fnFields (node : Nat) (e : Bytes) : Bool :=
  let ep := rdN e 1 1
  let ch := rdN e 2 1
  let slot := rdN e 4 2
  let chOk := match ep with
    | 1 | 2 => decide (1 ≤ ch) && decide (ch ≤ 12)
    | 3 | 4 => decide (1 ≤ ch) && decide (ch ≤ 24)
    | 5 => decide (ch ≤ 63)
    | 6 | 7 => decide (1 ≤ ch) && decide (ch ≤ 32) && ch != node
    | _ => false
  decide (1 ≤ rdN e 0 1) && decide (rdN e 0 1 ≤ 30) && chOk && decide (rdN e 3 1 < 8) &&
    (decide (slot ≤ 63) || (decide (256 ≤ slot) && decide (slot ≤ 511))) && decide (rdN e 6 1 ≤ 2) &&
    (if ep = 7 then decide (1 ≤ rdN e 7 1) && decide (rdN e 7 1 ≤ 50) else rdN e 7 1 == 0) && decide (rdN e 24 2 ≤ 10000) &&
    (decide (rdN e 26 1 ≤ 127) || rdN e 26 1 == 255) && decide (rdN e 27 1 ≤ 63) &&
    (if ep = 6 || ep = 7 then decide (1 ≤ rdN e 28 1) && decide (rdN e 28 1 ≤ 30) else rdN e 28 1 == 0) && resZero e 29 3

/-- Whether a partner setting breaks R176: m is owned by another function, is its own partner, or is itself given a partner. -/
def partnerBad (m : Image) : Bool :=
  (List.range 12).any (fun k =>
    let p := (listedValue m.params (pVdPartner k)).toNat
    p != 0 && (p == k + 1 || listedValue m.params (pVdPartner (p - 1)) != 0 ||
      m.funcs.any (fun e => (rdN e 1 1 == 1 || rdN e 1 1 == 2) && rdN e 2 1 == p)))

/-- Check 3: the function table, with partners (R176) and the steering loop's slot (R243). -/
def check3 (node : Nat) (m : Image) : Option CheckFail :=
  let steer := (listedValue m.params pGnSteerSlot).toNat
  match firstFail 3 1 m.funcs (fun i e =>
      fnFields node e && fresh m.funcs i (fun x => rdN x 0 1) e && fresh m.funcs i slotOfFn e && (steer == 0 || slotOfFn e != steer) &&
        !(m.funcs.take i).any (fun x => (ownedValves m.params x).any ((ownedValves m.params e).contains ·)) &&
        !((rdN e 1 1 == 3 || rdN e 1 1 == 4) &&
          (m.funcs.take i).any (fun x => (rdN x 1 1 == 3 || rdN x 1 1 == 4) && rdN x 2 1 == rdN e 2 1))) with
  | some f => some f
  | none => if partnerBad m then some (3, 3, 0) else none

/-- Check 4: setpoints and safe states. -/
def check4 (m : Image) : Option CheckFail :=
  firstFail 4 1 m.funcs (fun _ e =>
    let ep := rdN e 1 1
    decide (rdI e 12 4 ≤ rdI e 20 4) && decide (rdI e 20 4 ≤ rdI e 16 4) && (rdN e 6 1 != 1 || ep == 3 || ep == 4) &&
      (rdN e 6 1 != 2 || ((ep == 2 || ep == 5 || ep == 6) && decide (rdI e 12 4 ≤ rdI e 8 4) && decide (rdI e 8 4 ≤ rdI e 16 4))))

/-- The channels of a sensor kind: the lowest and the highest (R65, Table 5-1, R242, the pin field). -/
def kindChannels (kind : Nat) : Nat × Nat :=
  match kind with
  | 1 | 2 => (1, 40) | 3 => (1, 24) | 4 => (1, 24) | 5 => (1, 6) | 6 => (1, 2) | 7 => (0, 63) | 8 => (0, 255) | 9 => (1, 9) | _ => (1, 8)

/-- The input a sensor entry takes: AIN in either mode is one input. -/
def inputKey (e : Bytes) : Nat × Nat := (if rdN e 1 1 = 2 then 1 else rdN e 1 1, rdN e 2 1)

/-- Check 5: the sensor table and the feedback of every function. -/
def check5 (m : Image) : Option CheckFail :=
  match firstFail 5 2 m.sensors (fun i e =>
      let k := rdN e 1 1
      decide (rdN e 0 1 ≤ 127) && decide (1 ≤ k) && decide (k ≤ 10) && decide ((kindChannels k).1 ≤ rdN e 2 1) &&
        decide (rdN e 2 1 ≤ (kindChannels k).2) && decide (1 ≤ rdN e 3 1) && decide (rdN e 3 1 ≤ 250) && decide (rdN e 8 1 ≤ 31) &&
        resZero e 9 3 && resZero e 24 8 && decide (rdI e 16 4 < rdI e 20 4) && fresh m.sensors i (fun x => rdN x 0 1) e &&
        (decide (9 ≤ k) || fresh m.sensors i inputKey e)) with
  | some f => some f
  | none => firstFail 5 1 m.funcs (fun _ e => rdN e 26 1 == 255 || m.sensors.any (fun x => rdN x 0 1 == rdN e 26 1))

/-- Whether a loop type is allowed in the kind of a slot (Table 3-5). -/
def typeAllowed (ty slot : Nat) : Bool := if isFast slot then decide (1 ≤ ty) && decide (ty ≤ 5) else [1, 2, 4, 5, 6].contains ty

/-- Whether a slot may use a pair: it exists, and its type is allowed. -/
def pairFits (m : Image) (pair slot : Nat) : Bool :=
  match pairIn m.banks pair with
  | some e => typeAllowed (rdN e 1 1) slot
  | none => false

/-- The ranges of a bank-pair entry (Table 3-6). -/
def pairFields (e : Bytes) : Bool :=
  decide (rdN e 0 1 ≤ 63) && decide (1 ≤ rdN e 1 1) && decide (rdN e 1 1 ≤ 6) && decide (rdN e 2 1 ≤ 1) && resZero e 3 5 &&
    bankFields (slice e 8 48) && bankFields (slice e 56 48) && bankTerms (rdN e 1 1) (slice e 8 48) && bankTerms (rdN e 1 1) (slice e 56 48)

/-- The ranges of a min-select group and of its members (R94, Table 3-8). -/
def groupFields (m : Image) (e : Bytes) : Bool :=
  let n := rdN e 2 1
  decide (rdN e 0 1 ≤ 15) && decide (1 ≤ rdN e 1 1) && decide (rdN e 1 1 ≤ 30) && decide (2 ≤ n) && decide (n ≤ 8) && resZero e 3 5 &&
    resZero e (8 + 8 * n) (64 - 8 * n) &&
    (membersOf e).all (fun x => decide (256 ≤ x.1) && decide (x.1 ≤ 511) && !m.funcs.any (fun f => slotOfFn f == x.1) &&
      (x.2.1 == 255 || m.sensors.any (fun y => rdN y 0 1 == x.2.1)) && pairFits m x.2.2.1 x.1 && (paramRow x.2.2.2).isSome)

/-- Check 6: coefficient banks, one entry a pair (R92), min-select groups, and the pairs that slots use. -/
def check6 (m : Image) : Option CheckFail :=
  match firstFail 6 4 m.banks (fun i e => pairFields e && fresh m.banks i (fun x => rdN x 0 1) e) with
  | some f => some f
  | none => match firstFail 6 1 m.funcs (fun _ e => pairFits m (rdN e 27 1) (slotOfFn e)) with
    | some f => some f
    | none => match firstFail 6 5 m.groups (fun i e => groupFields m e && fresh m.groups i (fun x => rdN x 0 1) e) with
      | some f => some f
      | none =>
        let slot := (listedValue m.params pGnSteerSlot).toNat
        let pair := (listedValue m.params pGnSteerPair).toNat
        if slot = 0 || (match pairIn m.banks pair with | some e => rdN e 1 1 == 1 || rdN e 1 1 == 2 | none => false) then none
        else some (6, 4, 0)

/-- Whether a parameter may stand in a profile: known, writable, saved. -/
def savedParam (id : Nat) : Bool :=
  match paramRow id with
  | some r => bit r.access 0 && bit r.access 2
  | none => false

/-- The value rules a parameter's own chapter states for it alone: the timing of a CAN port (R277); EV.SNAP names a parameter, a live-status
item or nothing (Table 12-9). -/
def valueRule (id : Nat) (v : Int) : Bool :=
  (!(List.range 4).any (fun p => id == pCnTiming p) || canTimingOk v.toNat) &&
    (!(decide (pEvSnap 0 ≤ id) && decide (id < pEvSnap 288)) || v == 0 || (paramRow v.toNat).isSome || (liveRow v.toNat).isSome)

/-- Check 7: parameters known, writable, saved, in ascending order and in range (R61). -/
def check7 (m : Image) : Option CheckFail :=
  (m.params.zipIdx.find? (fun x => !(savedParam x.1.1 && inParamRange x.1.1 x.1.2 && valueRule x.1.1 x.1.2 &&
    (x.2 == 0 || decide ((nth m.params (x.2 - 1) (0, 0)).1 < x.1.1))))).map (fun x => (7, 3, x.2))

/-- The cost of a machine slot by its type (Table 3-10). -/
def machineCost (ty : Nat) : Nat := match ty with | 1 => 1100 | 2 => 1600 | 4 => 800 | 5 => 600 | 6 => 300 | _ => 0

/-- The cost of a fast slot by its type. -/
def fastCost (ty : Nat) : Nat := match ty with | 1 => 300 | 2 => 440 | 3 => 520 | 4 => 260 | 5 => 160 | _ => 0

/-- The loop type of a pair; 0 where there is none. -/
def typeOf (m : Image) (pair : Nat) : Nat := ((pairIn m.banks pair).map (fun e => rdN e 1 1)).getD 0

/-- The cells of a share in a direction. -/
def cellsOf (m : Image) (dir : Nat) : List (Nat × Nat) :=
  ((m.cream.filter (fun e => rdN e 2 1 == dir)).map (fun e => (rdN e 0 1, if dir = 1 then 0 else rdN e 3 1))).eraseDups

/-- R102: the worst-case firmware frame work in CLK_CTL cycles. -/
def frameCost (m : Image) : Nat :=
  let slot := (listedValue m.params pGnSteerSlot).toNat
  let members := m.groups.flatMap membersOf
  60000 + 1500 * (listedValue m.params pGrCmdAllowance).toNat + 600 * m.funcs.length + 120 * m.sensors.length +
    ((m.funcs.filter (fun e => !isFast (slotOfFn e))).map (fun e => machineCost (typeOf m (rdN e 27 1)))).sum +
    (members.map (fun x => machineCost (typeOf m x.2.2.1))).sum + 400 * members.length +
    (if slot = 0 then 0 else machineCost (typeOf m (listedValue m.params pGnSteerPair).toNat)) +
    300 * (cellsOf m 1).length + 250 * (cellsOf m 2).length + 20000

/-- R102: the worst-case CLE work of a tick. -/
def tickCost (m : Image) : Nat :=
  2000 + ((m.funcs.filter (fun e => isFast (slotOfFn e))).map (fun e => fastCost (typeOf m (rdN e 27 1)))).sum

/-- Check 8: the budget. -/
def check8 (m : Image) : Option CheckFail := if 600000 < frameCost m || 30000 < tickCost m then some (8, 0, 0) else none

/-- The ranges of a schedule entry (Table 9-4). -/
def shareFields (e : Bytes) : Bool :=
  let send := rdN e 2 1 == 1
  let kind := rdN e 6 1
  decide (rdN e 0 1 ≤ 63) && decide (rdN e 1 1 ≤ 8) && (send || rdN e 2 1 == 2) && decide (1 ≤ rdN e 3 1) && decide (rdN e 3 1 ≤ 32) &&
    (if send then decide (rdN e 4 1 ≤ 18) && decide (rdN e 5 1 ≤ 17) && decide (1 ≤ kind) && decide (kind ≤ 3)
     else rdN e 4 1 == 0 && rdN e 5 1 == 0 && decide (1 ≤ kind) && decide (kind ≤ 2)) &&
    (if send && kind == 3 then decide (256 ≤ rdN e 8 2) && decide (rdN e 8 2 ≤ 511) && rdN e 7 1 == 0 else rdN e 8 2 == 0) && resZero e 10 6

/-- Whether a schedule entry's item is what its kind needs (R265). -/
def shareItem (m : Image) (i : Nat) (e : Bytes) : Bool :=
  let item := rdN e 7 1
  let fnWith := fun (ep : Nat) => m.funcs.any (fun f => rdN f 0 1 == item && rdN f 1 1 == ep && rdN f 2 1 == rdN e 3 1)
  if rdN e 2 1 = 1 then
    match rdN e 6 1 with
    | 1 => fnWith 6
    | 2 => m.sensors.any (fun x => rdN x 0 1 == item)
    | _ => m.funcs.any (fun f => slotOfFn f == rdN e 8 2) || m.groups.any (fun g => (membersOf g).any (fun x => x.1 == rdN e 8 2)) ||
        listedValue m.params pGnSteerSlot == rdN e 8 2
  else if rdN e 6 1 = 1 then fnWith 7
  else m.sensors.any (fun x => rdN x 1 1 == 8 && rdN x 2 1 == i && rdN x 0 1 == item)

/-- Check 9: the Cream schedule share (R265). -/
def check9 (m : Image) : Option CheckFail :=
  let es := m.cream
  let key := fun (e : Bytes) => (rdN e 0 1, rdN e 2 1, if rdN e 2 1 = 1 then 0 else rdN e 3 1)
  let sends := es.filter (fun e => rdN e 2 1 == 1)
  let place := fun (e : Bytes) => (rdN e 4 1, rdN e 5 1)
  if 256 < es.length then some (9, 6, 256)
  else match firstFail 9 6 es (fun i e =>
      let same := es.filter (fun x => key x == key e)
      let vcount := (same.map (fun x => rdN x 1 1)).foldl max 0 + 1
      shareFields e && shareItem m i e &&
        same.all (fun x => rdN x 3 1 == rdN e 3 1 && rdN x 4 1 == rdN e 4 1 && rdN x 5 1 == rdN e 5 1) &&
        fresh (es.filter (fun x => key x == key e)) (((es.take i).filter (fun x => key x == key e)).length) (fun x => rdN x 1 1) e &&
        same.length == vcount &&
        (rdN e 2 1 != 1 || sends.all (fun x => rdN x 0 1 == rdN e 0 1 || place x != place e)) &&
        (rdN e 2 1 != 1 || decide (((sends.filter (fun x => rdN x 4 1 == rdN e 4 1)).map (fun x => rdN x 0 1)).eraseDups.length ≤ 18))) with
    | some f => some f
    | none => match firstFail 9 1 m.funcs (fun _ e =>
        match rdN e 1 1 with
        | 6 => es.any (fun x => rdN x 2 1 == 1 && rdN x 6 1 == 1 && rdN x 7 1 == rdN e 0 1)
        | 7 => es.any (fun x => rdN x 2 1 == 2 && rdN x 6 1 == 1 && rdN x 7 1 == rdN e 0 1)
        | _ => true) with
      | some f => some f
      | none => firstFail 9 2 m.sensors (fun _ e => rdN e 1 1 != 8 ||
          (match es[rdN e 2 1]? with | some x => rdN x 2 1 == 2 && rdN x 6 1 == 2 | none => false))

/-- The ranges of an inline crop table (Table 4-5). -/
def cropFields (e : Bytes) : Bool :=
  decide (rdN e 4 1 ≤ 31) && decide (rdN e 5 1 ≤ 127) && resZero e 6 2 && decide (0 ≤ rdI e 96 4) && decide (0 ≤ rdI e 100 4) &&
    rdI e (104 + 2 * rdN e 5 1) 2 == 16384 && resZero e 360 24

/-- Check 10 for the Quartz section (R118). -/
def check10Crops (s : State) (m : Image) : Option CheckFail :=
  if !m.present.contains 8 then none
  else if m.crops.isEmpty || 8 < m.crops.length then some (10, 8, 0)
  else match firstFail 10 8 m.crops (fun i e =>
      decide (rdN e 2 1 ≤ 7) && fresh m.crops i (fun x => rdN x 2 1) e && fresh m.crops i (fun x => rdN x 0 2) e &&
        (if rdN e 3 1 = 0 then cropFields e
         else rdN e 3 1 == 1 && (libraryTable s (rdN e 0 2)).isSome && resZero e 4 356 && resZero e 360 24)) with
    | some f => some f
    | none => if m.crops.any (fun e => (rdN e 2 1 : Int) == listedValue m.params pQzCrop) then none else some (10, 8, 0)

/-- The valid data lengths of a frame (R276). -/
def canLengthOk (fd : Bool) (n : Nat) : Bool := decide (n ≤ 8) || (fd && [12, 16, 20, 24, 32, 48, 64].contains n)

/-- The ranges of a message-table entry (Table 10-5). -/
def canFields (m : Image) (e : Bytes) : Bool :=
  let fl := rdN e 3 1
  let tx := rdN e 2 1 == 1
  decide (rdN e 0 1 ≤ 63) && decide (1 ≤ rdN e 1 1) && decide (rdN e 1 1 ≤ 4) && (tx || rdN e 2 1 == 2) && decide (fl < 64) &&
    decide (rdN e 4 4 < if bit fl 0 then 536870912 else 2048) && (!bit fl 5 || bit fl 0) && (!bit fl 2 || bit fl 1) &&
    canLengthOk (bit fl 1) (rdN e 8 1) && decide (1 ≤ rdN e 9 1) && decide (rdN e 9 1 ≤ 32) && decide (rdN e 10 2 ≤ 511) &&
    (if tx then decide (1 ≤ rdN e 12 2) && decide (rdN e 12 2 ≤ 10000) && decide (rdN e 14 2 < rdN e 12 2)
     else rdN e 12 2 == 0 && rdN e 14 2 == 0) &&
    ((!tx && bit fl 5) || rdN e 16 1 == 255) && resZero e 17 15 &&
    (!bit fl 1 || bit (listedValue m.params (pCnTiming (rdN e 1 1 - 1))).toNat 53)

/-- The data bits that an entry's signal covers. -/
def signalBits (e : Bytes) : List Nat := (List.range (rdN e 9 1)).map (sigBit e)

/-- Whether an entry's signal lies within LENGTH. -/
def signalInside (e : Bytes) : Bool :=
  (signalBits e).all (fun b => decide (b < 8 * rdN e 8 1)) &&
    (!bit (rdN e 3 1) 3 || decide ((rdN e 10 2 % 8 + rdN e 9 1 - 1) / 8 ≤ rdN e 10 2 / 8))

/-- Check 10 for the message table (R286). -/
def check10Can (s : State) (m : Image) : Option CheckFail :=
  let es := m.canTable
  let frame := fun (e : Bytes) => (rdN e 1 1, rdN e 2 1, rdN e 4 4, rdN e 3 1 % 8)
  match firstFail 10 7 es (fun i e =>
      let mates := es.filter (fun x => frame x == frame e)
      canFields m e && fresh es i (fun x => rdN x 0 1) e && signalInside e &&
        mates.all (fun x => rdN x 8 1 == rdN e 8 1 && rdN x 12 2 == rdN e 12 2 && rdN x 14 2 == rdN e 14 2) &&
        ((es.take i).filter (fun x => frame x == frame e)).all (fun x => !(signalBits x).any ((signalBits e).contains ·)) &&
        (if rdN e 2 1 = 1 then (m.funcs.filter (fun f => rdN f 1 1 == 5 && rdN f 2 1 == rdN e 0 1)).length == 1
         else m.sensors.any (fun x => rdN x 1 1 == 7 && rdN x 2 1 == rdN e 0 1))) with
  | some f => some f
  | none =>
    let s1 := { s with pf := { s.pf with work := m } }
    if (List.range 4).any (fun p => decide (16 < (moduleFilters s1 p).length)) then some (10, 7, 0) else none

/-- Checks 3 to 10 on a content, in order. -/
def validateContent (s : State) (m : Image) : Option CheckFail :=
  let node := (getKey pFbNode s.pf.settings).getD (paramDefault pFbNode)
  [check3 node.toNat m, check4 m, check5 m, check6 m, check7 m, check8 m, check9 m, check10Crops s m, check10Can s m].findSome? id

/-- R66: the first failing check of an image, none where all pass. -/
def validate (s : State) (b : Bytes) : Option CheckFail :=
  match check1 b with
  | some f => some f
  | none => match check2 b with
    | some f => some f
    | none => validateContent s (imageOf b)

/-- The peak Cream load of the module's own sending in %: cells of one TICK at 672 ns of a 50 µs tick, rounded up (R263, DEDUCED). -/
def creamLoad (m : Image) : Nat :=
  let cells := ((m.cream.filter (fun e => rdN e 2 1 == 1)).map (fun e => (rdN e 4 1, rdN e 0 1))).eraseDups
  let most := ((List.range 19).map (fun t => (cells.filter (fun c => c.1 == t)).length)).foldl max 0
  (most * 1344 + 999) / 1000

end Sys2Proof.Machine
end

