-- ==== Sys2Proof/Machine/Profile.lean ====
section
/-!
DEFINITION. Machine/Profile.lean: stored profiles, the profile change while running, staging, saving and the profile commands (R54 to R75,
R446, Table 2-7).
-/

namespace Sys2Proof.Machine

/-- The state with the profile part changed. -/
def updPf (f : Profiles → Profiles) (s : State) : State := { s with pf := f s.pf }

/-! ### Stored slots (R54, R73) -/

/-- The copies of a stored slot. -/
def slotCopies (s : State) (k : Nat) : List SlotCopy := nth s.pf.slots k []

/-- Of two copies that pass the integrity check, the one with the higher generation. -/
def newerCopy (a : Option SlotCopy) (b : SlotCopy) : Option SlotCopy :=
  match a with
  | none => some b
  | some x => if x.gen < b.gen then some b else some x

/-- The copy in use: the highest generation that passes the integrity check (R73). -/
def bestCopy (s : State) (k : Nat) : Option SlotCopy := ((slotCopies s k).filter SlotCopy.good).foldl newerCopy none

/-- The stored image of a slot; no bytes where there is none. -/
def slotImage (s : State) (k : Nat) : Bytes := ((bestCopy s k).map SlotCopy.image).getD []

/-- A load of a slot that finds a copy failing the integrity check reports it. -/
def loadJudge (k : Nat) (s : State) : State :=
  if (slotCopies s k).any (fun c => !c.good) || forced s detProfileCopyIntegrityFailure (k + 1) then
    happen detProfileCopyIntegrityFailure (k + 1) 0 s
  else s

/-- The image that a slot code names: a stored slot, PS or the working copy (R54). -/
def namedImage (s : State) (slot : Nat) : Bytes :=
  if slot = 16 then psImage else if slot = 32 then imageBytes s.pf.work else slotImage s slot

/-- The response bytes of a failed validation (R66). -/
def failBytes (f : CheckFail) : Bytes := u8 f.1 ++ zeros 1 ++ u16 f.2.1 ++ u32 f.2.2

/-! ### Activation (R55, R56, R69) -/

/-- A Cream input before its first cell: the SAFE_VALUE of the sink function (R79). -/
def creamInit (s : State) : List CreamVal :=
  s.pf.work.cream.zipIdx.filterMap (fun x =>
    if rdN x.1 2 1 = 2 then
      some ⟨x.2, if rdN x.1 6 1 = 1 then ((fnEntry s (rdN x.1 7 1)).map (fun e => rdI e 8 4)).getD 0 else 0, false, true, false, 0⟩
    else none)

/-- The transports that PS opens (R55). -/
def psTransports (slot : Nat) (s : State) : State :=
  if slot = 16 then
    { s with pf := { s.pf with psOpen := true }, mb := { s.mb with canPorts := maskOr s.mb.canPorts 1 } }
  else s

/-- PS holds the D9 gate supply off (R55). -/
def psGate (slot : Nat) (s : State) : State := if slot = 16 then lsGateOff (vdStop true (vdStop false s)) else s

/-- Every part takes the working copy of an activated profile. `old` is the state before. -/
def partsActivate (old s : State) : State :=
  let oldFuncs := if old.pf.none then [] else old.pf.work.funcs
  let s1 := canActivate old s
  let s2 := clearGroups (delayActivate (quartzActivate s1))
  let s3 := optStop false (lsActivate (vdActivate s2))
  let s4 := supApply (graniteActivate oldFuncs (paramN old pGnSteerSlot) s3)
  { s4 with gr := { s4.gr with
      cur := { s4.gr.cur with cream := creamInit s4 }, next := { s4.gr.next with cream := creamInit s4 } } }

/-- A profile becomes active (R55, R56, R69): the old functions that do not go on drive their safe state, the working copy is replaced, and
every part takes it. -/
def activateProfile (slot source : Nat) (m : Image) (crc : Nat) (s : State) : State :=
  let s1 := if s.pf.none then s else leaveProfile m.funcs s
  let s2 := psTransports slot (updPf (fun p => { p with
    work := workingCopy m, active := slot, source, modified := false, crc, since := s.clk.frame, none := false, actOrder := s.mb.order }) s1)
  rawEvent evProfileActivated 0 slot (psGate slot (partsActivate s s2))

/-- Whether a change to a profile with these PFLAGS needs the module not to be moving (R67). -/
def changeNeedsRest (s : State) (slot pflags : Nat) : Bool := slot != 16 && (bit s.pf.work.pflags 2 || bit pflags 1)

/-! ### PROFILE_SELECT (R67 to R70) -/

/-- The command's slot and expected CRC; none for an invalid payload. -/
def selectFields (p : Bytes) : Option (Nat × Nat) :=
  let slot := rdN p 0 1
  if p.length = 8 && (slot ≤ 3 || slot = 16) && resZero p 1 3 then some (slot, rdN p 4 4) else none

/-- Whether a profile image has INIT_ENABLED functions. -/
def enablesAny (m : Image) : Bool := m.funcs.any (fun e => bit (rdN e 3 1) 0)

/-- The conditions of R67 and R352. PS may be selected in every role and at any time. -/
def selectCheck (c : Ctx) (s : State) : Option (Nat × Bytes) :=
  match selectFields (c.payload.drop 12) with
  | none => some (stBadArg, [])
  | some (slot, want) =>
    let b := namedImage s slot
    match validate s b with
    | some f => some (stValidationFail, failBytes f)
    | none =>
      if want ≠ 0 && want ≠ rdN b 16 4 then some (stRefusedState, [])
      else if slot ≠ 16 && ((c.role = 1 && !bit (rdN b 6 2) 0) || s.gr.mode = .safe || (changeNeedsRest s slot (rdN b 6 2) && moving s) ||
          (commitHeld s && enablesAny (imageOf b))) then
        some (stRefusedState, [])
      else none

/-- PROFILE_SELECT: the copy it validated is the one applied (R67). -/
def bodyProfileSelect : Body := fun c s =>
  let slot := rdN c.payload 12 1
  let s1 := if slot ≤ 3 && (selectFields (c.payload.drop 12)).isSome then loadJudge slot s else s
  timedBody selectCheck (fun _ t st =>
    let b := namedImage st slot
    (updPf (fun p => { p with selected := p.selected ++ [⟨t.order, slot, imageOf b, rdN b 16 4⟩] }) st, u64 t.frame)) c s1

/-- The selection that belongs to a command of the exchange area. -/
def selectionOf (s : State) (t : TCmd) : Option Selected :=
  if t.code = cProfileSelect then s.pf.selected.find? (fun x => x.order == t.order) else none

/-- A selection leaves the module's hands. -/
def dropSelection (order : Nat) (s : State) : State :=
  updPf (fun p => { p with selected := p.selected.filter (fun x => x.order != order) }) s

/-- R68: in the frame before, a change whose motion condition now fails is abandoned: the command is gone, and no APPLIED follows. -/
def selectRecheck (s : State) : State :=
  (s.mb.exch.filter (fun t => t.frame == s.clk.frame + 1)).foldl (fun st t =>
    match selectionOf st t with
    | some x =>
      if (changeNeedsRest st x.slot x.image.pflags && moving st) || forced st detProfileTransitionAbandoned 0 then
        let s1 := dropSelection t.order { st with mb := { st.mb with
          exch := st.mb.exch.filter (fun y => y.order != t.order)
          recent := st.mb.recent.map (fun r =>
            if r.epoch = t.epoch && r.session = t.session && r.seq = t.seq then { r with fate := .applied } else r) } }
        happen detProfileTransitionAbandoned 0 0 s1
      else st
    | none => st) s

/-- R69: the profile change of a frame, before every other command due then. Of two, the one accepted later takes effect (R70). -/
def applySelections (due : List TCmd) (s : State) : State :=
  let sels := due.filterMap (selectionOf s)
  match sels.getLast? with
  | some x => activateProfile x.slot 2 x.image x.crc (sels.foldl (fun st y => dropSelection y.order st) s)
  | none => s

/-- The functions a command names (R70). -/
def namedFns (t : TCmd) : List Nat :=
  if t.code = cFunctionSet then (setEntries t.payload).map (·.1)
  else if t.code = cFunctionEnable then segsOf (maskOr (rdN t.payload 0 4) (rdN t.payload 4 4)) |>.map (· + 1)
  else if t.code = cOptimizerEnable then segsOf (rdN t.payload 4 4) |>.map (· + 1)
  else []

/-- Whether R70 discards a command accepted before the latest profile change: it names a function that is absent, or a channel that a
function owns; or the condition is forced (R331). -/
def discards (s : State) (t : TCmd) : Bool :=
  forced s detDiscardedCommandAfterProfileChange 0 || decide (t.order < s.pf.actOrder) && ((namedFns t).any (fun f => (fnEntry s f).isNone) ||
    (t.code == cVdCommand && (vdOwner s (rdN t.payload 0 1 - 1)).isSome) ||
    (t.code == cLsCommand && (lsOwner s (rdN t.payload 0 1 - 1)).isSome))

/-- The discarded-command event names the command's session and sequence (R70). -/
def discardEvent (t : TCmd) (s : State) : State :=
  happen detDiscardedCommandAfterProfileChange 0 (t.session + 65536 * t.seq) s

/-! ### The other commands of Table 2-7 -/

/-- PROFILE_GET_ACTIVE. -/
def bodyProfileGetActive : Body := emptyPayload fun _ s =>
  let p := s.pf
  ans s stOk (u8 p.active ++ u8 p.source ++ u8 (b2n p.modified) ++ zeros 1 ++ u32 p.crc ++ u32 p.work.revision ++ u32 p.work.machineSet ++
    u64 p.since ++ padTo 32 p.work.name)

/-- PROFILE_READ. -/
def bodyProfileRead : Body := fun c s =>
  let p := c.payload
  let slot := rdN p 0 1
  let off := rdN p 4 4
  let len := rdN p 8 4
  let b := namedImage s slot
  if p.length ≠ 12 || !(slot ≤ 3 || slot = 16 || slot = 32) || !resZero p 1 3 || len = 0 || 65524 < len then ans s stBadArg
  else
    let s1 := if slot ≤ 3 then loadJudge slot s else s
    if b.length < off + len then ans s1 stBadArg else ans s1 stOk (u32 off ++ slice b off len)

/-- Whether the lifecycle state refuses PROFILE_WRITE and PROFILE_SAVE (R74). -/
def profileClosed (s : State) : Bool := s.rs.lifecycle == 1 || s.rs.lifecycle == 5

/-- The written positions after a write. -/
def markWritten (w : List Bool) (off len : Nat) : List Bool := w.take off ++ List.replicate len true ++ w.drop (off + len)

/-- The answer to a write: the distinct positions written. -/
def stagedReply (g : Staging) (s : State) : State × Reply :=
  ans (updPf (fun p => { p with staging := some g }) s) stOk (u32 ((g.written.filter id).length))

/-- PROFILE_WRITE (R72). -/
def bodyProfileWrite : Body := fun c s =>
  let p := c.payload
  let off := rdN p 0 4
  let total := rdN p 4 4
  let d := p.drop 8
  if p.length < 9 || 65528 < d.length || total < 128 || 262144 < total || total < off + d.length then ans s stBadArg
  else if profileClosed s then ans s stRefusedState
  else match s.pf.staging with
    | some g =>
      if g.session ≠ c.session then ans s stBusy
      else if off = 0 then
        stagedReply ⟨c.session, splice (zeros total) 0 d, markWritten (List.replicate total false) 0 d.length, s.clk.ms⟩ s
      else if g.data.length ≠ total then ans s stBadArg
      else stagedReply { g with data := splice g.data off d, written := markWritten g.written off d.length, last := s.clk.ms } s
    | none =>
      if off = 0 then
        stagedReply ⟨c.session, splice (zeros total) 0 d, markWritten (List.replicate total false) 0 d.length, s.clk.ms⟩ s
      else ans s stRefusedState

/-- PROFILE_STAGING_TIMEOUT: PF.STAGING_TIMEOUT without PROFILE_WRITE discards the staging (R72). -/
def execProfileStagingTimeout (s : State) : Host.Outcome State Fault Refusal :=
  .next (match s.pf.staging with
    | some g => if elapsed s g.last (paramN s pPfStagingTimeout) then updPf (fun p => { p with staging := none }) s else s
    | none => s)

/-- The bytes that a source of PROFILE_VALIDATE or PROFILE_SAVE names: 0 the staging buffer, 1 a stored slot, 0x20 the working copy. -/
def sourceBytes (s : State) (src slot : Nat) : Option Bytes :=
  if src = 0 then s.pf.staging.map Staging.data else if src = 1 then some (slotImage s slot) else some (imageBytes s.pf.work)

/-- The budget figures of PROFILE_VALIDATE bytes 12–20. An image that fails a check before the budget check has no stated figures: they are
free (log entry 3). -/
def budgetBytes (b : Bytes) (fail : Option CheckFail) (s : State) : Bytes × State :=
  let m := imageOf b
  let own := u32 (frameCost m) ++ u32 (tickCost m) ++ u8 (creamLoad m)
  match fail with
  | some f => if f.1 < 8 then freshBytes 9 s else (own, s)
  | none => (own, s)

/-- PROFILE_VALIDATE (R66). -/
def bodyProfileValidate : Body := fun c s =>
  let p := c.payload
  let src := rdN p 0 1
  let slot := rdN p 1 1
  if p.length ≠ 4 || !(src = 0 || src = 1 || src = 32) || (src = 1 && 3 < slot) || (src ≠ 1 && slot ≠ 0) || !resZero p 2 2 then ans s stBadArg
  else match sourceBytes s src slot with
    | none => ans s stRefusedState
    | some b =>
      let fail := validate s b
      let q := budgetBytes b fail (if src = 1 then loadJudge slot s else s)
      ans q.2 (if fail.isSome then stValidationFail else stOk) (failBytes (fail.getD (0, 0, 0)) ++ q.1)

/-- The copy of a slot that a save writes over: the lower generation, or a new one (R73). -/
def saveTarget (cs : List SlotCopy) : Nat :=
  if cs.length < 2 then cs.length else if (nth cs 0 ⟨0, [], false⟩).gen ≤ (nth cs 1 ⟨0, [], false⟩).gen then 0 else 1

/-- The generation of a save: the higher one plus 1, in 32 bits. -/
def saveGen (cs : List SlotCopy) : Nat := wrapU 32 ((cs.map SlotCopy.gen).foldl max 0 + 1)

/-- PROFILE_SAVE (R73, R74): it is answered once the copy is written and read back. -/
def bodyProfileSave : Body := fun c s =>
  let p := c.payload
  let src := rdN p 0 1
  let slot := rdN p 1 1
  let want := rdN p 4 4
  if p.length ≠ 8 || !(src = 0 || src = 32) || 3 < slot || !resZero p 2 2 then ans s stBadArg
  else if profileClosed s || (s.rs.ownerLock && !inService s) then ans s stRefusedState
  else match sourceBytes s src 0 with
    | none => ans s stRefusedState
    | some b =>
      if s.pf.saving.isSome then ans s stBusy
      else match validate s b with
        | some f => ans s stValidationFail (failBytes f)
        | none =>
          if want ≠ 0 && want ≠ rdN b 16 4 then ans s stRefusedState
          else
            let cs := slotCopies s slot
            (updPf (fun q => { q with saving := some ⟨slot, saveTarget cs, saveGen cs, b, src == 32⟩ }) s, .wait (.profileSave slot))

/-- The new copy is complete in its place. -/
def storeCopy (v : Saving) (good : Bool) (s : State) : State :=
  let x : SlotCopy := ⟨v.gen, if good then v.image else [], good⟩
  updPf (fun p => { p with slots := updAt p.slots v.slot (fun cs => if v.copy < cs.length then updAt cs v.copy (fun _ => x) else cs ++ [x]) }) s

/-- A save is durable and has passed its check: it is answered, and the modified flag clears for a save of the working copy into the slot it
was activated from (R56, R73). -/
def saveDone (s : State) : State :=
  match s.pf.saving with
  | none => s
  | some v =>
    let s1 := storeCopy v true (updPf (fun p => { p with saving := none }) s)
    let s2 := if v.fromWork && v.slot = s.pf.active then updPf (fun p => { p with modified := false }) s1 else s1
    resolve (fun w => match w with | .profileSave _ => true | _ => false) stOk (u32 (rdN v.image 16 4) ++ u32 v.gen) s2

/-- A save is interrupted (R73): its new copy is complete, or it fails the integrity check, or it has not been touched; which of them is
free. -/
def saveInterrupt (s : State) : State :=
  match s.pf.saving with
  | none => s
  | some v =>
    let q := freshBool (updPf (fun p => { p with saving := none }) s)
    if q.1 then storeCopy v true q.2
    else
      let r := freshBool q.2
      if r.1 then storeCopy v false r.2 else r.2

/-- PROFILE_SET_DEFAULT (R74): with the owner lock only from an OWNER session, but in SERVICE from every role. -/
def bodyProfileSetDefault : Body := fun c s =>
  let p := c.payload
  let slot := rdN p 0 1
  if p.length ≠ 4 || !(slot ≤ 3 || slot = 16) || !resZero p 1 3 then ans s stBadArg
  else if s.rs.ownerLock && c.role ≠ 3 && !inService s then ans s stRefusedState
  else ans (writeSettings [(pPfDefault, slot)] s) stOk

/-- MD_READ: declared entries of the function or the sensor table from a number on. -/
def bodyMdRead : Body := fun c s =>
  let p := c.payload
  let tab := rdN p 0 1
  let n := rdN p 1 1
  let k := rdN p 2 1
  if p.length ≠ 4 || !(tab = 1 || tab = 2) || (tab = 1 && 30 < n) || 127 < n || k = 0 || 32 < k || !resZero p 3 1 then ans s stBadArg
  else
    let es := ((sortBy (fun e => rdN e 0 1) (if tab = 1 then s.pf.work.funcs else s.pf.work.sensors)).filter
      (fun e => decide (n ≤ rdN e 0 1))).take k
    ans s stOk (u8 es.length ++ zeros 3 ++ es.flatten)

end Sys2Proof.Machine
end

