-- ==== Sys2Proof/Machine/Reset.lean ====
section
/-!
DEFINITION. Machine/Reset.lean: reset sources, levels and their reach, the release, the option and trim load, L3 units and RESET_REQUEST
(R364 to R370, R373, R376, R383, R386, R401).
-/

namespace Sys2Proof.Machine

/-- The state with the reset and lifecycle part changed. -/
def updRs (f : ResetLife → ResetLife) (s : State) : State := { s with rs := f s.rs }

/-! ### Sources and levels (R365, R366) -/

/-- The reset-map word in force: conservative trim takes the defaults (R370). -/
def mapWord (s : State) : Nat := if s.rs.consTrim then 0 else s.rs.map

/-- A two-bit field of the reset map: 01 L0, 10 L1, 11 L2, 00 the default. -/
def mapLevel (word lsb dflt : Nat) : Nat :=
  match word / 2 ^ lsb % 4 with
  | 1 => 0 | 2 => 1 | 3 => 2 | _ => dflt

/-- The level of a source, by its bit number in Table 12-7; `req` is the level an SWR asks for, made deeper by the SWR floor. -/
def sourceLevel (s : State) (src req : Nat) : Nat :=
  let w := mapWord s
  match src with
  | 1 => if w % 4 = 1 then 0 else 1
  | 3 => mapLevel w 2 1
  | 4 => mapLevel w 4 2
  | 5 => min req (mapLevel w 6 3)
  | 6 => mapLevel w 8 1
  | 7 => 1
  | 8 => mapLevel w 10 2
  | _ => 0

/-- The detector that an assertion of a source raises (R369), if Table 12-6 lists one. -/
def sourceDetector (src : Nat) : Option Nat :=
  match src with
  | 1 => some detBrownOutOnVsup
  | 2 => some detBrownOutOnKeep
  | 4 => some detSupervisorWatchdog
  | 7 => some detClockFailure
  | 8 => some detLockUp
  | _ => none

/-- Whether the debug port is enabled (Table 14-8). -/
def debugPort (s : State) : Bool := s.rs.lifecycle == 1 || s.rs.lifecycle == 2 || s.rs.lifecycle == 4

/-- Whether a source can assert now: DBG through an enabled debug port; BOR on VSUP not in standby (R394); the watchdog, lock-up and SWR need a
running supervisor. -/
def sourceActs (s : State) (src : Nat) : Bool :=
  match src with
  | 1 => s.pw.sb.ph != .asleep
  | 4 | 5 | 8 => s.rs.supUp
  | 6 => debugPort s
  | 7 => s.clk.running || s.rs.stage == .clocks
  | _ => true

/-! ### What a reset does -/

/-- Settings written but not yet durable: each write is durable, or it and those after it never took effect, which of them is free; after
500 ms it is certain (R48), unless the device has failed it twice. -/
def settleWrites : List SettingWrite → State → State
  | [], s => s
  | w :: ws, s =>
    if elapsed s w.since 500 && nandOn s && !w.failed then settleWrites ws s
    else
      let q := freshBool s
      if q.1 then settleWrites ws q.2 else updPf (fun p => { p with settings := w.before }) q.2

/-- Every session and what belongs to it is gone unannounced; no sequence, subscription or assembly survives (R34, R35). Lockouts and failures of
a binding are no part of a session and go on (log entry 41). -/
def sessionsGone (s : State) : State :=
  let s1 := endInjections (fun _ => true) s
  { s1 with
    mb := { s1.mb with sessions := [], peers0 := [], waiting := [], relays := [], relayed := [] }
    pf := { s1.pf with staging := none } }

/-- The exchange area is lost (R41, R305). -/
def exchangeGone (s : State) : State :=
  { s with mb := { s.mb with exch := [], recent := [] }, pf := { s.pf with selected := [] } }

/-- The chunks that wait in the shared ring are lost, and with them the bytes of a chunk not yet whole; the staging itself stays in NAND. A part
goes on from its first chunk that is lost (R346, R349). -/
def updateInterrupt (s : State) : State :=
  { s with up := { s.up with
      camps := s.up.camps.map (fun c => { c with
        parts := c.parts.map (fun p =>
          let lost := (s.up.relay.filter (fun r => r.man == c.man.id && r.part == p.index)).map RelayChunk.chunk
          let a := lost.foldl min p.accepted
          { p with accepted := a, partial' := [], next := a * 65552 })
        chunkRx := none
        session := 0
        mods := c.mods.map (fun m => { m with acked := m.acked && m.uid == uid }) })
      relay := [], manRx := [] } }

/-- L2, L1 and L0 alike: the supervisor stops and D5, D6 and D7 are in reset (Table 14-1). A save and the profile staging are interrupted, and
injections end (R72, R73, R333). -/
def supervisorDown (s : State) : State :=
  let s1 := saveInterrupt (updateInterrupt (sessionsGone s))
  let s2 := cropRestart (gnssStop (quartzStop (canDown (optStop false s1))))
  updRs (fun r => { r with supUp := false, request := none }) s2

/-- L2 (R375): Granite, Mica and D9 go on; time goes into HOLDOVER and the fabric state restarts. -/
def computeDown (s : State) : State :=
  let s1 := fabricRestart (timeL2 (supervisorDown s))
  let s2 := [4, 5, 6, 7].foldl (fun st d => setDom d .reset st) s1
  updRs (fun r => { r with rstout := if paramN s pRsRstoutL2 = 1 then false else r.rstout }) s2

/-- L0 and L1 (Table 14-1, R373): every domain is held; pending commands and unflushed records are lost, settings not yet durable settle, the
gate supply is removed, Granite, valves, load switches, time and the fabric start over. A running replay is idle and the capture file, in NAND,
stays. -/
def systemDown (us : Nat) (s : State) : State :=
  let s1 := settleWrites s.pf.writes (exchangeGone (supervisorDown s))
  let s2 := lsReset (vdReset (panelLose us s1))
  let s3 := mapLose (fabricDown (quartzRestore s2))
  let s4 := supApply ((List.range 12).foldl (fun st k => setDom (k + 1) .reset st) s3)
  { s4 with
    clk := { s4.clk with running := false, established := false, cycle := 0 }
    gr := { granite0 with capture := s4.gr.capture.map (fun c => { c with running := false }) }
    gn := { s4.gn with time := time0, part := gnssPart0, steer := gnss0.steer, current := none, next := none, ants := gnss0.ants, rtcm := gnss0.rtcm }
    an := { s4.an with gate := false }
    pw := { s4.pw with vco := false, gated := false }
    ev := { s4.ev with snapq := [] }
    pf := { s4.pf with writes := [], none := true, strap := 8, psOpen := false, startPending := false }
    up := { s4.up with moving := true, movedAt := some s4.clk.ms, peers := [] }
    rs := { s4.rs with rstout := false, map := 0, restart := false } }

/-- The stage that an assertion leaves: L0 stops Basalt, L1 holds at its boundary, L2 at its own where the release had passed it. -/
def stageAfter (st : Stage) (lvl : Nat) : Stage :=
  match lvl, st with
  | 0, _ => .cold
  | 1, .cold => .cold
  | 1, _ => .system
  | _, .cold => .cold
  | _, .system => .system
  | _, .loading => .loading
  | _, .clocks => .clocks
  | _, _ => .compute

/-- A source asserts at a level (R367 to R370): its detector, the episode, an interrupted load, and what the level reaches. Retries of the VCO
lock belong to the CKF they follow (R401). A watchdog or lock-up before boot complete is a failed boot (R357); leaving ROM recovery mode by SWR
ends the count (log entry 38). -/
def assertSource (src lvl us : Nat) (s : State) : State :=
  let first := !(bit ((s.rs.episode.map (·.2)).getD 0) src)
  let s1 := match sourceDetector src with
    | some d => if src = 7 && !first then s else happen d 0 0 s
    | none => s
  let loading := s.rs.stage = .loading && s.rs.loadCount < 3 && lvl ≤ 1
  let s2 := if loading then
      happen detOptionAndTrimLoadInterrupted 0 (2 ^ src) (updRs (fun r => { r with loadCount := if lvl = 0 then 0 else r.loadCount + 1 }) s1)
    else if lvl = 0 then updRs (fun r => { r with loadCount := 0 }) s1 else s1
  let ran := s.rs.stage = .active || s.rs.stage = .done || s.rs.restart
  let counts := (src = 4 || src = 8) && !s.rs.restart &&
    (s.rs.stage = .rom || s.rs.stage = .firmware || s.rs.stage = .lanes || s.rs.stage = .active)
  let s3 := if lvl ≤ 1 then systemDown us s2 else computeDown s2
  updRs (fun r => { r with
    asserted := (r.asserted.filter (fun a => a.1 != src)) ++ [(src, lvl)]
    episode := match s.rs.episode with
      | none => some (lvl, 2 ^ src)
      | some e => some (min lvl e.1, maskOr e.2 (2 ^ src))
    wiped := if s.rs.episode.isNone then false else r.wiped
    stage := stageAfter s.rs.stage lvl
    restart := decide (2 ≤ lvl) && ran
    failed := if src = 5 && s.rs.stage = .recovery then 0 else if counts && !r.counted then r.failed + 1 else r.failed
    counted := if counts then true else r.counted })
    (if counts && !s.rs.counted then happen detBootFailure 0 0 s3 else s3)

/-- RESET_ASSERT (R365, R367): a source asserts; `level` is the level an SWR asks for and `us` the instant within the frame. -/
def execResetAssert (source : Fin 9) (level : Fin 3) (us : Fin 1000) (s : State) : Host.Outcome State Fault Refusal :=
  .next (if sourceActs s source.val && source.val != 5 && !s.rs.asserted.any (fun a => a.1 == source.val) then
    let s1 := assertSource source.val (sourceLevel s source.val level.val) us.val s
    if s.pw.sb.ph = .asleep then updPw (fun p => { p with sb := { p.sb with ph := .awake, wakeCause := if source.val = 3 then 7 else 0 } }) s1
    else s1
  else s)

/-- SUPERVISOR_WATCHDOG_EXPIRY (R365): the supervisor watchdog has not been served within RS.WDG_PERIOD; `ms` is since when. -/
def execSupervisorWatchdogExpiry (ms : Nat) (us : Fin 1000) (s : State) : Host.Outcome State Fault Refusal :=
  .next (if s.rs.supUp && paramN s pRsWdgPeriod ≤ ms && !s.rs.asserted.any (fun a => a.1 == 4) then
    assertSource 4 (sourceLevel s 4 0) us.val s else s)

/-- LOCK_UP (R365): a supervisor core retires no instruction for 1 ms. -/
def execLockUp (ms : Nat) (us : Fin 1000) (s : State) : Host.Outcome State Fault Refusal :=
  .next (if s.rs.supUp && 1 ≤ ms && !s.rs.asserted.any (fun a => a.1 == 8) then assertSource 8 (sourceLevel s 8 0) us.val s else s)

/-- CLOCK_FAILURE (R401): the clock monitor asserts CKF, at L1. -/
def execClockFailure (us : Fin 1000) (s : State) : Host.Outcome State Fault Refusal :=
  .next (if s.clk.running && !s.rs.asserted.any (fun a => a.1 == 7) then assertSource 7 1 us.val s else s)

/-! ### The release (R368, R370, R372) -/

/-- The deepest level that a source still asserts; 3 where none does. -/
def deepest (s : State) : Nat := (s.rs.asserted.map (·.2)).foldl min 3

/-- Occurrences of this reset that wait for their writer belong to the power cycle that the release of L0 begins. -/
def restamp (o : Occ) (pcycle : Nat) : Occ := if 0x0E00 ≤ o.code && o.code ≤ 0x0E06 then { o with pcycle } else o

/-- Basalt starts at the release of L0: PCYCLE goes on, OPSEC resumes from its copy, the panel's images and ledgers from theirs, the RTC is not
valid and CLK_KEEP starts (Table 14-4, R324, R411). -/
def basaltStart (s : State) : State :=
  let n := s.ev.pcycle + 1
  let s1 := panelRestore { s with
    ev := { s.ev with pcycle := n, opsec := s.ev.opsecCopy, opsecFrac := 0, fixq := s.ev.fixq.map (fun o => restamp o n) } }
  updRs (fun r => { r with stage := .system }) (updPw (fun p => { p with clkKeep := true, rtcValid := false }) s1)

/-- At the release of L0 or L1 ACTIVE is cleared on every record and the mailbox counters are zeroed (R322, R50). -/
def systemRelease (s : State) : State :=
  let off := fun (area : List EvRec) => area.map (fun r => { r with active := false })
  updRs (fun r => { r with stage := .loading }) { s with
    ev := { s.ev with fixed := off s.ev.fixed, snaps := off s.ev.snaps, present := [],
                      fixq := s.ev.fixq.map (fun o => { o with lasting := false }) }
    mb := { s.mb with secs := [], malformed := 0, authFails := 0, discarded := 0, lockouts := 0 } }

/-- The release goes on from a boundary that no asserted source holds (R368). -/
def proceed (s : State) : State :=
  let s1 := if s.rs.stage = .cold && 1 ≤ deepest s then basaltStart s else s
  if s1.rs.stage = .system && 2 ≤ deepest s1 then systemRelease s1 else s1

/-- An episode ends with the final release: its level and mask are latched in Basalt until the boot records them (R369, R323). -/
def endEpisode (s : State) : State :=
  match s.rs.episode with
  | some e =>
    if s.rs.asserted.isEmpty then
      updRs (fun r => { r with episode := none, wiped := false, causes := r.causes ++ [e], lastLevel := e.1, lastMask := e.2 }) s
    else s
  | none => s

/-- RESET_RELEASE (R368): a source releases and the release proceeds to the next boundary. In standby the SWR hold is released by a wake only. -/
def execResetRelease (source : Fin 9) (s : State) : Host.Outcome State Fault Refusal :=
  .next (if s.rs.asserted.any (fun a => a.1 == source.val) && !(source.val == 5 && s.pw.sb.ph == .asleep) then
    proceed (updRs (fun r => { r with asserted := r.asserted.filter (fun a => a.1 != source.val) }) s)
  else s)

/-- OPTION_TRIM_LOAD_DONE (R370): the load completes; with three interrupted loads in a row conservative trim is taken instead. -/
def execOptionTrimLoadDone (s : State) : Host.Outcome State Fault Refusal :=
  .next (if s.rs.stage = .loading && 2 ≤ deepest s then
    if 3 ≤ s.rs.loadCount then
      happen detConservativeTrimInUse 0 3 (updRs (fun r => { r with loadCount := 0, consTrim := true, map := 0, stage := .clocks }) s)
    else updRs (fun r => { r with loadCount := 0, consTrim := false, map := r.fuses, stage := .clocks }) s
  else s)

/-- The step at 4.3 ms (Table 14-4): D8 released and zeroed once per episode, D1–D3 with their self-test, D10–D12. -/
def domainsRelease (s : State) : State :=
  let s1 := if s.rs.wiped then s else updRs (fun r => { r with wiped := true }) (micaReset s)
  let s2 := [1, 2, 3, 8, 9, 10, 12].foldl (fun st d => setDom d .on st) (lanesRelease s1)
  let s3 := setDom 12 (if s2.pw.vsupReduced then .reduced else .on) (setDom 11 (if s2.pw.vsupReduced then .reduced else .on) s2)
  panelOn s3

/-- VCO_LOCK (Table 14-4, R401): on lock the working clocks run, the frame counter is loaded from the RTC (R235) and the domains before the
L2 boundary are released; without lock within 10 ms CKF asserts again in the same episode. -/
def execVcoLock (ok : Bool) (rtc : Nat) (s : State) : Host.Outcome State Fault Refusal :=
  .next (if s.rs.stage = .clocks && 2 ≤ deepest s then
    if ok then
      let s1 := domainsRelease { s with
        clk := { s.clk with running := true, frame := rtc, cycle := 0, established := false }, pw := { s.pw with vco := true } }
      updRs (fun r => { r with stage := .compute, bootAt := s.clk.ms, counted := false }) s1
    else assertSource 7 1 0 s
  else s)

/-! ### L3 units (R376) -/

/-- An L3 of a unit of Table 14-7: a lane, Quartz, GNSS, the power stages or the panel. -/
def unitReset (unit us : Nat) (s : State) : State :=
  match unit with
  | 4 => quartzStart (quartzStop s)
  | 5 => updGn (fun g => { g with ants := gnss0.ants }) (gnssStart (gnssStop s))
  | 6 =>
    let s1 := lsReset (vdReset s)
    if s1.gr.mode = .safe || s1.gr.mode = .start then s1 else vdEnable { s1 with an := { s1.an with gate := true } }
  | 7 => panelRecover (panelOn (panelLose us s))
  | n => if n = 0 then s else laneReset (n - 1) s

/-- A reset of one unit by SWR: its record 0x0E80 has level 3 (Table 12-7). -/
def softUnit (unit us : Nat) (s : State) : State := rawEvent evReset 0 (3 + 65536 * 32) (unitReset unit us s)

/-- L3_UNIT_RESET (R376, R303): one unit is reset and released on a firmware request. -/
def execL3UnitReset (unit : Fin 8) (us : Fin 1000) (s : State) : Host.Outcome State Fault Refusal :=
  .next (if s.rs.supUp && unit.val != 0 then softUnit unit.val us.val s else s)

/-! ### RESET_REQUEST (R383) -/

/-- RESET_REQUEST: it takes effect 100 ms after its response. Levels 0 to 2 are announced with SESSION_CLOSING reason 2 when they take effect
(R35). -/
def bodyResetRequest : Body := fun c s =>
  let p := c.payload
  let lvl := rdN p 0 1
  let unit := rdN p 1 1
  let recovery := s.rs.stage == .recovery
  if p.length ≠ 4 || 3 < lvl || !resZero p 2 2 || (lvl = 3 && (unit = 0 || 7 < unit)) || (lvl ≠ 3 && unit ≠ 0) then ans s stBadArg
  else
    let applied := if lvl = 3 then 3 else sourceLevel s 5 lvl
    if (lvl = 0 && !inService s && !recovery) ||
        ((lvl ≤ 1 || (lvl = 3 && unit = 6)) && moving s && !inService s && !recovery) || (lvl = 3 && unit ≤ 3 && s.gr.mode ≠ .triple) then
      ans s stRefusedState
    else ans (updRs (fun r => { r with request := some ⟨applied, unit, s.clk.ms⟩ }) s) stOk (u8 applied ++ zeros 3)

/-- Every session is announced closed, in ascending number. -/
def closeAll (reason : Nat) (s : State) : State :=
  (sortBy id (s.mb.sessions.map Sess.num)).foldl (fun st n => closeSession n reason st) s

/-- A reset by SWR at a level: sessions are announced closed, then the source asserts. -/
def softReset (lvl us : Nat) (s : State) : State := assertSource 5 (sourceLevel s 5 lvl) us (closeAll 2 s)

/-- RESET_REQUEST_EFFECT (R383): 100 ms after the response the reset asserts. -/
def execResetRequestEffect (us : Fin 1000) (s : State) : Host.Outcome State Fault Refusal :=
  .next (match s.rs.request with
    | some q =>
      if elapsed s q.at' 100 then
        let s1 := updRs (fun r => { r with request := none }) s
        if q.level = 3 then softUnit q.unit us.val s1 else assertSource 5 q.level us.val (closeAll 2 s1)
      else s
    | none => s)

end Sys2Proof.Machine
end

