-- ==== Sys2Proof/Machine/Update.lean ====
section
/-!
DEFINITION. Machine/Update.lean: motion and supply conditions, manifests, staging along the chain, and Rennet (chapter "Field update and
recovery").
-/

namespace Sys2Proof.Machine

/-- The state with its update part changed. -/
def updUp (f : Update → Update) (s : State) : State := { s with up := f s.up }

/-! ### Motion and supply (R338 to R340) -/

/-- Whether a GNSS solution of type 1 to 5 was released within the last 1,000 frames. -/
def recentFix (s : State) : Bool :=
  decide (1 ≤ s.gn.part.type && s.gn.part.type ≤ 5 && s.clk.frame ≤ s.gn.part.epochFrame + 1000)

/-- The sensors that UP.WHEEL_SENSOR_k name, with their limits. -/
def wheels (s : State) : List (Nat × Int) :=
  ((List.range 4).filter (fun k => paramN s (pUpWheelSensor k) ≠ 255)).map (fun k => (paramN s (pUpWheelSensor k), param s (pUpWheelMax k)))

/-- The module's own evidence: 1 MOVING, 2 STILL, 3 UNKNOWN (R338). -/
def ownEvidence (s : State) : Nat :=
  let f := fnOf s 22
  let f22 := (fnEntry s 22).isSome && (((f.st == .enabled || f.st == .ramp) && f.sp != 0) || f.out != 0)
  let wheel := (wheels s).filter (fun w => sensValid s w.1)
  if (recentFix s && decide (300 < s.gn.part.speed)) || wheel.any (fun w => decide (w.2 < sensScaled s w.1)) || f22 then 1
  else if recentFix s || !wheel.isEmpty then 2 else 3

/-- Whether the module is moving: its own evidence and the MOTION messages of the last 500 ms (R339). -/
def judgeMoving (own : Nat) (s : State) : Bool :=
  let heard := (s.up.peers.filter (fun p => !elapsed s p.2.2 501)).map (fun p => p.2.1)
  own == 1 || heard.contains 1 || !(own == 2 || heard.contains 2)

/-- The motion conditions once per frame. The injections that OEM sessions placed end when motion begins (R332). -/
def motionFrame (s : State) : State :=
  let own := ownEvidence s
  let mv := judgeMoving own s
  let s1 := updUp (fun u => { u with evidence := own, moving := mv, movedAt := if mv then some s.clk.ms else u.movedAt }) s
  if mv && !s.up.moving then endOemInjections s1 else s1

/-- The modules of the database with the same MACHINE_SET, by node. -/
def motionPeers (s : State) : List Nat :=
  ((database s).filter (fun l => l.mset == s.pf.work.machineSet && l.uid != uid && l.node != 0)).map Lsa.node

/-- MOTION_SEND (R339): every 100 ms the own evidence goes to each module of the machine. -/
def execMotionSend (s : State) : Host.Outcome State Fault Refusal :=
  .next (if s.rs.supUp && !inRecovery s && elapsed s s.up.motionAt 100 then
    (motionPeers s).foldl (fun st n => (skimSend n 2 0 (u8 0x0C ++ u8 s.up.evidence ++ zeros 2) st).1)
      (updUp (fun u => { u with motionAt := s.clk.ms }) s)
  else s)

/-- A MOTION message updates the evidence held of its sender (R339). -/
def motionMsg (src : Nat) (data : Bytes) (s : State) : State :=
  let e := rdN data 1 1
  if data.length = 4 && 1 ≤ e && e ≤ 3 && resZero data 2 2 && (motionPeers s).contains src then
    updUp (fun u => { u with peers := u.peers.filter (fun p => p.1 != src) ++ [(src, e, s.clk.ms)] }) s
  else s

/-- SUPPLY_CONDITION_CHANGE (R340): VSUP has read `mv` or less, or `mv` or more, for `ms`. -/
def execSupplyConditionChange (mv ms : Nat) (s : State) : Host.Outcome State Fault Refusal :=
  .next (let lim := paramN s pUpVsupMin
    if !s.rs.supUp || ms < 1000 then s
    else if s.up.supplyOk && mv < lim then updUp (fun u => { u with supplyOk := false }) s
    else if !s.up.supplyOk && lim + 200 ≤ mv then updUp (fun u => { u with supplyOk := true }) s
    else s)

/-! ### The manifest (R342 to R345) -/

/-- Ciphertext bytes of a part (Table 13-3). -/
def cipherLen (p : UpPart) : Nat := p.plain + 16 * p.chunks

/-- Ciphertext bytes of a chunk of a part, its tag included (R344). -/
def chunkLen (p : UpPart) (c : Nat) : Nat := min 65552 (cipherLen p - 65552 * c)

/-- A part entry of a manifest; none where its fields disagree. -/
def partOf (e : Bytes) : Option UpPart :=
  let plain := rdN e 12 4
  if 1 ≤ rdN e 0 1 && rdN e 0 1 ≤ 6 && resZero e 1 3 && 1 ≤ plain && plain ≤ 536739840 && rdN e 16 4 = (plain + 65535) / 65536 &&
      resZero e 116 12 then
    some ⟨rdN e 0 1, rdN e 4 4, slice e 8 4, plain, rdN e 16 4, slice e 20 8, slice e 28 40, slice e 68 48⟩
  else none

/-- The parts of a manifest that target a module entry. -/
def partsFor (m : Manifest) (k : Nat) : List UpPart := m.parts.filter (fun p => bit p.targets k)

/-- No two values equal. -/
def distinct (l : List Nat) : Bool :=
  match l with
  | [] => true
  | x :: xs => !xs.contains x && distinct xs

/-- The rules of R343 that a manifest shows. -/
def manifestRules (m : Manifest) : Bool :=
  (List.range m.mods.length).all (fun k =>
    let ps := partsFor m k
    let fw := ps.filter (fun p => decide (p.type ≤ 2))
    distinct (ps.map UpPart.type) && fw.all (fun p => p.version.take 3 == m.fw) &&
      (!m.full || ps.isEmpty || [1, 2, 4, 5].all (fun t => (ps.map UpPart.type).contains t))) &&
    (m.key ≠ 4 || m.parts.all (fun p => p.type == 3 || p.type == 6)) &&
    (m.parts.any (fun p => p.type == 1) || m.fw == [0, 0, 0])

/-- A manifest read from its bytes: check 1 of Table 13-4. -/
def manifestOf (b : Bytes) : Option Manifest :=
  let m := rdN b 18 2
  let p := rdN b 20 2
  let len := 64 + 8 * m + 128 * p + 96
  if b.length = len && rdN b 0 4 = 0x4E414D47 && rdN b 4 1 = 3 && rdN b 6 2 < 4 && rdN b 8 8 ≠ 0 && 1 ≤ m && m ≤ 32 &&
      1 ≤ p && p ≤ 48 && resZero b 22 2 && resZero b 31 1 && rdN b 32 4 = len && resZero b 36 28 then
    let mods := chunks 8 (slice b 64 (8 * m))
    let ps := (chunks 128 (slice b (64 + 8 * m) (128 * p))).map partOf
    if mods.all (fun e => resZero e 7 1) && ps.all Option.isSome then
      let x : Manifest := ⟨b, rdN b 5 1, bit (rdN b 6 2) 0, bit (rdN b 6 2) 1, rdN b 8 8, rdN b 16 2, rdN b 24 4, slice b 28 3,
        mods.map (fun e => (rdN e 0 6, rdN e 6 1)), ps.filterMap id⟩
      if manifestRules x then some x else none
    else none
  else none

/-- The public key a manifest names; none where it is absent or revoked (check 2). -/
def manifestKeyOf (s : State) (k : Nat) : Option Bytes :=
  if k < 4 then if bit s.rs.revoked k then none else some (Config.folnimiKey k)
  else if k = 4 && !s.rs.manifestRevoked then s.rs.manifestKey else none

/-- The place of this module in a manifest's module table. -/
def ownIndex (m : Manifest) : Option Nat :=
  match m.mods.findIdx? (fun e => e.1 == uid) with
  | some k => some k
  | none => none

/-- This module's parts of a manifest. -/
def ownParts (m : Manifest) : List UpPart := ((ownIndex m).map (partsFor m)).getD []

/-- Checks 2 to 8 of Table 13-4, in order: the first that fails. -/
def manifestFail (m : Manifest) (s : State) : Option Nat :=
  match manifestKeyOf s m.key with
  | none => some 2
  | some key =>
    let n := m.raw.length - 96
    if !ecdsaVerify key (sha384 (m.raw.take n)) (m.raw.drop n) || forced s detManifestSignatureFailure 0 then some 3
    else if m.sec < s.up.secMin then some 4
    else match ownIndex m with
      | none => some 5
      | some k =>
        let node := (nth m.mods k (0, 0)).2
        if (node ≠ 0 && node ≠ myNode s) || (!m.machine && m.mods.length ≠ 1) then some 5
        else if m.mset ≠ 0 && m.mset ≠ s.pf.work.machineSet && !inRecovery s then some 6
        else if (ownParts m).any (fun p => (keyUnwrap Config.familyKey p.wrapped).isNone) ||
            536870912 < ((ownParts m).map cipherLen).foldl (· + ·) 0 then some 7
        else if inRecovery s && !m.full then some 8
        else none

/-- A manifest checked whole: the manifest, or the failing check with the state that records a failed signature (R345). -/
def checkManifest (b : Bytes) (s : State) : State × (Manifest ⊕ Nat) :=
  match manifestOf b with
  | none => (s, .inr 1)
  | some m =>
    match manifestFail m s with
    | none => (s, .inl m)
    | some 3 => (happen detManifestSignatureFailure 0 7 s, .inr 3)
    | some k => (s, .inr k)

/-! ### Manifests known, image slots and the chain -/

/-- What is known of a manifest. -/
def campOf (s : State) (id : Nat) : Option Camp := s.up.camps.find? (fun c => c.man.id == id)

/-- The manifest whose ID a message or command names changed. -/
def updCamp (id : Nat) (f : Camp → Camp) (s : State) : State :=
  updUp (fun u => { u with camps := u.camps.map (fun c => if c.man.id = id then f c else c) }) s

/-- A module of a manifest changed. -/
def updMod (id u : Nat) (f : UpMod → UpMod) (s : State) : State :=
  updCamp id (fun c => { c with mods := c.mods.map (fun m => if m.uid = u then f m else m) }) s

/-- The chain of modules in table order for an entry module: it, then the others in table order (R348). -/
def chainOf (us : List Nat) (entry : Nat) : List Nat := entry :: us.filter (fun u => u != entry)

/-- The modules of a manifest in table order. -/
def modUids (m : Manifest) : List Nat := m.mods.map Prod.fst

/-- The module before another in a chain. -/
def before (l : List Nat) (u : Nat) : Option Nat :=
  match l with
  | a :: b :: rest => if b = u then some a else before (b :: rest) u
  | _ => none

/-- The module after another in a chain. -/
def after (l : List Nat) (u : Nat) : Option Nat :=
  match l with
  | a :: rest => if a = u then rest.head? else after rest u
  | [] => none

/-- The unique ID at a node of the fabric. -/
def uidOfNode (s : State) (n : Nat) : Nat := if n = myNode s then uid else ((lsaOfNode (database s) n).map Lsa.uid).getD 0

/-- This module's successor in the chain. In ROM recovery mode it forwards nothing (R361). -/
def successor (s : State) (c : Camp) : Option Nat :=
  if inRecovery s then none else after (chainOf (modUids c.man) (if c.entry then uid else uidOfNode s c.entryNode)) uid

/-- The modules of the chain behind this one. -/
def later (s : State) (c : Camp) : List Nat :=
  if inRecovery s then []
  else ((chainOf (modUids c.man) (if c.entry then uid else uidOfNode s c.entryNode)).dropWhile (fun u => u != uid)).drop 1

/-- Whether a part targets a module by unique ID. -/
def targetsUid (m : Manifest) (p : UpPart) (u : Nat) : Bool :=
  match m.mods.findIdx? (fun e => e.1 == u) with
  | some k => bit p.targets k
  | none => false

/-- Whether this module passes a part on. -/
def forwards (s : State) (c : Camp) (p : UpPart) : Bool := (later s c).any (targetsUid c.man p)

/-- Whether a part is this module's own. -/
def isOwn (c : Camp) (p : UpPart) : Bool := targetsUid c.man p uid

/-- Bytes sent to a module of the manifest by its unique ID, with the MANIFEST_ID at their end (Table 13-5); false where no path leads there. -/
def chainSend (id u : Nat) (body : Bytes) (s : State) : State × Bool :=
  let n := nodeOfUid s u
  if n = 0 || u = uid then (s, false) else skimSend n 2 (id % 65536) (body ++ u64 id) s

/-- A message to every other module of a manifest; how many it could be sent to. -/
def chainAll (c : Camp) (body : Bytes) (s : State) : State × Nat :=
  ((c.man.mods.map Prod.fst).filter (fun u => u != uid)).foldl (fun (acc : State × Nat) u =>
    let r := chainSend c.man.id u body acc.1
    (r.1, acc.2 + b2n r.2)) (s, 0)

/-- The slot of a region that is not active: 0 or 1. -/
def inactive (s : State) (t : Nat) : Nat := if bit s.up.active (t - 1) then 0 else 1

/-- A region's slot changed. -/
def updSlot (t k : Nat) (f : Option ImageSlot → Option ImageSlot) (s : State) : State :=
  updUp (fun u => { u with slots := updAt u.slots (t - 1) (fun p => if k = 0 then (f p.1, p.2) else (p.1, f p.2)) }) s

/-- A region's slot. -/
def imageSlot (s : State) (t k : Nat) : Option ImageSlot :=
  let p := nth s.up.slots (t - 1) (none, none)
  if k = 0 then p.1 else p.2

/-- The inactive slots of a manifest's own regions are erased. -/
def eraseStaged (c : Camp) (s : State) : State :=
  (ownParts c.man).foldl (fun st p => updSlot p.type (inactive st p.type) (fun _ => none) st) s

/-! ### UPDATE_STATUS entries and progress (R362) -/

/-- The state code of UPDATE_STATUS (Table 13-10). -/
def upStCode (st : UpSt) : Nat :=
  match st with
  | .idle => 1 | .staging => 2 | .staged => 3 | .prepared => 4 | .committing => 5 | .activated => 6

/-- The entry of one module (Table 13-10). This module's own figures are its own; of another is known what its messages told. -/
def modEntry (s : State) (c : Camp) (m : UpMod) : Bytes :=
  let mine := m.uid = uid
  let node := if mine then myNode s else nodeOfUid s m.uid
  let ver := if mine then
      ((c.man.parts.zip c.parts).map (fun q => if isOwn c q.1 then min (cipherLen q.1) (65552 * q.2.accepted) else 0)).foldl (· + ·) 0
    else m.verified
  u8 node ++ u8 (if mine then upStCode c.st else m.st) ++ u8 (if mine then c.result else m.result) ++ u8 0 ++ u32 (satU 32 ver) ++
    u32 (satU 32 m.stage) ++ u64 m.swap ++ zeros 4

/-- Bytes 4–19 of UPDATE_STATUS. -/
def statusHead (s : State) (c : Option Camp) : Bytes :=
  u64 ((c.map (fun x => x.man.id)).getD 0) ++ u8 (upStCode ((c.map Camp.st).getD .idle)) ++ u8 ((c.map Camp.result).getD 0) ++
    u16 s.up.secMin ++ u8 s.rs.failed ++ u8 ((c.map (fun x => x.mods.length)).getD 0) ++ zeros 2

/-- UPDATE_PROGRESS for a module of a manifest (R362). -/
def progress (id u : Nat) (s : State) : State :=
  match campOf s id with
  | none => s
  | some c =>
    match c.mods.find? (fun m => m.uid == u) with
    | none => s
    | some m => notifyAll nUpdateProgress (fun f _ => f == 0) ⟨u, statusHead s (some c) ++ modEntry s c m⟩ s

/-- This module's state for a manifest changes: subscribers are told. -/
def enterUp (id : Nat) (st : UpSt) (s : State) : State :=
  progress id uid (updMod id uid (fun m => { m with st := upStCode st }) (updCamp id (fun c => { c with st }) s))

/-- Another module's state becomes known. -/
def modState (id u st : Nat) (f : UpMod → UpMod) (s : State) : State :=
  progress id u (updMod id u (fun m => { f m with st }) s)

/-! ### Claims, aborts and the end of staging (R346, R350) -/

/-- A part's progress at its start. -/
def partStart (k : Nat) : PartProg := ⟨k, 0, [], 0, 0, 0, false, false⟩

/-- A manifest as it is taken up: every module IDLE but this one. -/
def campStart (m : Manifest) (entry : Bool) (session pred entryNode : Nat) : Camp :=
  { man := m, st := .staging, entry, session, pred, entryNode, parts := (List.range m.parts.length).map partStart, chunkRx := none, result := 0,
    mods := m.mods.zipIdx.map (fun e => ⟨e.1.1, if e.1.1 = uid then 2 else 1, 0, 0, ((partsFor m e.2).map cipherLen).foldl (· + ·) 0, 0, none,
      false, false⟩),
    frame := 0, decision := none, sentAt := 0 }

/-- The regions of a manifest's own parts. -/
def regions (m : Manifest) : List Nat := (ownParts m).map UpPart.type

/-- The manifests that claim a region of another: in staging, staged or on their way to activation (R346). -/
def claimants (s : State) (m : Manifest) : List Camp :=
  s.up.camps.filter (fun c => c.man.id != m.id && c.st != .idle && (regions c.man).any (fun t => (regions m).contains t))

/-- No manifest stages any more: the shared ring is given back (Table 11-5). -/
def ringEnd (s : State) : State :=
  if s.up.camps.any (fun c => c.st == .staging) || !s.up.relay.isEmpty then s else ringRelease s

/-- A staging ends without activation: the claimed inactive slots are erased, nothing waits for the successor, and the module is IDLE (R346). -/
def dropStaging (id result : Nat) (s : State) : State :=
  match campOf s id with
  | none => s
  | some c =>
    if c.st = .staging || c.st = .staged then
      let s1 := updUp (fun u => { u with relay := u.relay.filter (fun r => r.man != id) }) (eraseStaged c s)
      ringEnd (enterUp id .idle (updCamp id (fun c => { c with result, chunkRx := none, parts := c.parts.map (fun p => partStart p.index) }) s1))
    else s

/-- A staging is aborted on every module it reached: an ABORT of commit frame 0 tells them (Table 13-5; log entry 35). -/
def abortStaging (id result : Nat) (s : State) : State × Nat :=
  match campOf s id with
  | none => (s, 0)
  | some c =>
    let r := chainAll c (u8 0x08 ++ u8 0 ++ zeros 2 ++ u64 0) s
    (dropStaging id result r.1, r.2 + 1)

/-- The mask of this module's parts of a manifest. -/
def ownMask (m : Manifest) : Nat :=
  maskOf m.parts.length (fun k => match m.parts[k]? with
    | some p => targetsUid m p uid
    | none => false)

/-- STAGED goes to the entry module with a result (Table 13-6); the entry module takes its own at once. -/
def reportStaged (id result : Nat) (s : State) : State :=
  match campOf s id with
  | none => s
  | some c =>
    if c.entry then s else (chainSend id (uidOfNode s c.entryNode) (u8 0x05 ++ u8 (myNode s) ++ u8 result ++ u8 0) s).1

/-- A module whose own parts are all verified is STAGED (Table 13-7). -/
def stagedCheck (id : Nat) (s : State) : State :=
  match campOf s id with
  | none => s
  | some c =>
    if c.st = .staging && (c.man.parts.zip c.parts).all (fun q => !isOwn c q.1 || q.2.verified) then
      let s1 := rawEvent evUpdateStaged 0 (ownMask c.man) s
      reportStaged id 0 (ringEnd (updMod id uid (fun m => { m with verified := m.stage }) (enterUp id .staged s1)))
    else s

/-- After three failures of one chunk, or of a whole part, the staging is aborted on every module (R350). -/
def authFailure (id : Nat) (s : State) : State :=
  match campOf s id with
  | none => s
  | some c =>
    let s1 := happen detImageAuthenticationFailure 0 8 s
    if c.entry then (abortStaging id 8 s1).1
    else dropStaging id 8 (reportStaged id 8 s1)

/-! ### Chunks (R344, R349, R350) -/

/-- Whether a chunk's tag verifies. -/
def tagOk (s : State) (p : UpPart) (c : Nat) (data : Bytes) : Bool :=
  match keyUnwrap Config.familyKey p.wrapped with
  | none => false
  | some key =>
    let n := data.length - 16
    16 < data.length && gcmTag key (p.iv ++ u32 c) (u8 p.type ++ p.version ++ u32 c) (data.take n) == data.drop n &&
      !forced s detImageAuthenticationFailure 0

/-- The plaintext of a stored image: its chunks decrypted one by one (R344). -/
def imagePlain (p : UpPart) (data : Bytes) : Bytes :=
  match keyUnwrap Config.familyKey p.wrapped with
  | none => []
  | some key => ((chunks 65552 data).zipIdx.map (fun c => gcmCrypt key (p.iv ++ u32 c.2) (c.1.take (c.1.length - 16)))).flatten

/-- A part's progress changed. -/
def updPart (id k : Nat) (f : PartProg → PartProg) (s : State) : State :=
  updCamp id (fun c => { c with parts := updAt c.parts k f }) s

/-- A part all of whose chunks are stored: its digest must match, or the whole part fails (R350). -/
def partWhole (id k : Nat) (p : UpPart) (s : State) : State :=
  match campOf s id with
  | none => s
  | some c =>
    if !isOwn c p then updPart id k (fun q => { q with verified := true }) s
    else
      let data := ((imageSlot s p.type (inactive s p.type)).map ImageSlot.data).getD []
      if sha384 data = p.digest then stagedCheck id (updPart id k (fun q => { q with verified := true, whole := 0 }) s)
      else
        let n := ((c.parts[k]?).map PartProg.whole).getD 0 + 1
        let s1 := updSlot p.type (inactive s p.type) (fun _ => none)
          (updPart id k (fun _ => { partStart k with whole := n, failed := decide (3 ≤ n) }) s)
        if 3 ≤ n then authFailure id s1 else s1

/-- A whole chunk in order: its tag verifies and it is stored, kept for the successor, and counted; else it has failed once more. True where it
was accepted. -/
def takeChunk (id k : Nat) (p : UpPart) (n : Nat) (data : Bytes) (s : State) : State × Bool :=
  match campOf s id with
  | none => (s, false)
  | some c =>
    if tagOk s p n data then
      let s1 := if isOwn c p then updSlot p.type (inactive s p.type) (fun o =>
          match o with
          | some x => some { x with data := x.data ++ data }
          | none => some ⟨p.version, id, data⟩) s else s
      let s2 := if forwards s c p then updUp (fun u => { u with relay := u.relay ++ [⟨id, k, n, data, false⟩] }) s1 else s1
      let s3 := updPart id k (fun q => { q with accepted := n + 1, fails := 0 }) s2
      (if n + 1 = p.chunks then partWhole id k p s3 else s3, true)
    else
      let f := ((c.parts[k]?).map PartProg.fails).getD 0 + 1
      let s1 := updPart id k (fun q => { q with fails := f, failed := decide (3 ≤ f) }) s
      (if 3 ≤ f then authFailure id s1 else s1, false)

/-- Room in the shared ring for one more chunk of a part that goes on: the ring is the staging's and holds fewer than 4 (R349). -/
def ringRoom (s : State) (c : Camp) (p : UpPart) : Bool :=
  !forwards s c p || (s.mc.ring == .staging && decide (s.up.relay.length < 4))

/-- A chunk as CHUNK frames of at most 1,440 data bytes (R349). -/
def chunkFrames (r : RelayChunk) : List Bytes :=
  (chunks 1440 r.data).zipIdx.map (fun f => u8 0x02 ++ u8 r.part ++ zeros 2 ++ u32 r.chunk ++ u32 (1440 * f.2) ++ f.1)

/-- A chunk is sent to the successor. -/
def sendChunk (r : RelayChunk) (s : State) : State :=
  match (campOf s r.man).bind (successor s) with
  | none => s
  | some u =>
    updUp (fun x => { x with relay := x.relay.map (fun y =>
        if y.man = r.man && y.part = r.part && y.chunk = r.chunk then { y with sent := true } else y) })
      ((chunkFrames r).foldl (fun st b => (chainSend r.man u b st).1) s)

/-- CHUNK_FORWARD (R349): a chunk that waits in the shared ring is sent. -/
def execChunkForward (s : State) : Host.Outcome State Fault Refusal :=
  .next (if s.rs.supUp then
      match s.up.relay.find? (fun r => !r.sent) with
      | some r => sendChunk r s
      | none => s
    else s)

/-- The predecessor in the chain is answered with ACK or NACK (Table 13-5). -/
def ackPred (c : Camp) (kind k n : Nat) (s : State) : State :=
  (chainSend c.man.id (uidOfNode s c.pred) (u8 kind ++ u8 k ++ zeros 2 ++ u32 n) s).1

/-- A whole chunk received from the predecessor (R350). -/
def chunkWhole (c : Camp) (k : Nat) (p : UpPart) (n : Nat) (data : Bytes) (s : State) : State :=
  let id := c.man.id
  let s1 := updCamp id (fun x => { x with chunkRx := none }) s
  if !ringRoom s c p then ackPred c 0x04 k n s1
  else
    let r := takeChunk id k p n data s1
    match (campOf r.1 id).bind (fun x => x.parts[k]?) with
    | none => r.1
    | some q => if r.2 && q.accepted = n + 1 then ackPred c 0x03 k n r.1 else ackPred c 0x04 k q.accepted r.1

/-- A CHUNK frame: in order it joins the chunk being received; a chunk accepted before is acknowledged again; a gap is answered with NACK
(R350). -/
def chunkMsg (src : Nat) (data : Bytes) (s : State) : State :=
  let id := rdN data (data.length - 8) 8
  let k := rdN data 1 1
  let n := rdN data 4 4
  let off := rdN data 8 4
  let body := slice data 12 (data.length - 20)
  match campOf s id with
  | none => s
  | some c =>
    match c.man.parts[k]?, c.parts[k]? with
    | some p, some q =>
      if c.entry || c.pred ≠ src || c.st = .idle || data.length ≤ 20 || 1440 < body.length then s
      else if n < q.accepted then
        if off + body.length = chunkLen p n then ackPred c 0x03 k (q.accepted - 1) s else s
      else
        let got := match c.chunkRx with
          | some (a, b, d) => if a = k && b = n then d else []
          | none => []
        if n = q.accepted && off = got.length && off + body.length ≤ chunkLen p n then
          if off + body.length = chunkLen p n then chunkWhole c k p n (got ++ body) s
          else updCamp id (fun x => { x with chunkRx := some (k, n, got ++ body) }) s
        else if n = q.accepted && off = 0 then updCamp id (fun x => { x with chunkRx := some (k, n, body) }) s
        else ackPred c 0x04 k q.accepted (updCamp id (fun x => { x with chunkRx := none }) s)
    | _, _ => s

/-- An ACK from the successor frees the chunks it names (R349). -/
def ackMsg (src : Nat) (data : Bytes) (s : State) : State :=
  let id := rdN data (data.length - 8) 8
  match campOf s id with
  | none => s
  | some c =>
    if data.length = 16 && successor s c = some (uidOfNode s src) then
      ringEnd (updUp (fun u => { u with relay := u.relay.filter (fun r =>
        !(r.man == id && r.part == rdN data 1 1 && decide (r.chunk ≤ rdN data 4 4))) }) s)
    else s

/-- A NACK from the successor: the chunks before the first missing one are freed, and it and those after it are sent again (R350). -/
def nackMsg (src : Nat) (data : Bytes) (s : State) : State :=
  let id := rdN data (data.length - 8) 8
  let first := rdN data 4 4
  match campOf s id with
  | none => s
  | some c =>
    if data.length = 16 && successor s c = some (uidOfNode s src) then
      let mine := fun (r : RelayChunk) => r.man == id && r.part == rdN data 1 1
      let s1 := updUp (fun u => { u with relay := u.relay.filter (fun r => !(mine r && decide (r.chunk < first))) }) s
      (s1.up.relay.filter (fun r => mine r && r.sent)).foldl (fun st r => sendChunk r st) s1
    else s

/-- STAGED at the entry module: a module is ready, or a failure aborts the staging on every module (R348, R350). -/
def stagedMsg (src : Nat) (data : Bytes) (s : State) : State :=
  let id := rdN data (data.length - 8) 8
  let res := rdN data 2 1
  match campOf s id with
  | none => s
  | some c =>
    let u := uidOfNode s src
    if data.length = 12 && c.entry && rdN data 1 1 = src && c.man.mods.any (fun e => e.1 == u) then
      if res = 0 then modState id u 3 (fun m => { m with result := 0, verified := m.stage }) s
      else (abortStaging id res (modState id u 1 (fun m => { m with result := res }) s)).1
    else s

/-! ### The manifest along the chain (R348) -/

/-- The manifest is sent to the successor in fragments. -/
def sendManifest (id : Nat) (s : State) : State :=
  match campOf s id with
  | none => s
  | some c =>
    match successor s c with
    | none => s
    | some u => (chunks 1440 c.man.raw).zipIdx.foldl (fun st f =>
        (chainSend id u (u8 0x01 ++ zeros 3 ++ u32 (1440 * f.2) ++ f.1) st).1) s

/-- Whether parts of a manifest go on from this module, so that it needs the shared ring. -/
def needsRing (s : State) (c : Camp) : Bool := c.man.parts.any (forwards s c)

/-- A manifest is taken up: its regions are claimed and erased, the ring is asked for if chunks go on, and the successor gets the manifest.
The same manifest again resumes: parts already verified are kept (R346). -/
def takeManifest (m : Manifest) (entry : Bool) (session pred entryNode : Nat) (s : State) : State :=
  let again := match campOf s m.id with
    | some c => c.st != UpSt.idle
    | none => false
  let s1 :=
    if again then updCamp m.id (fun c => { c with entry, session, pred, entryNode }) s
    else
      let c := campStart m entry session pred entryNode
      progress m.id uid (eraseStaged c (updUp (fun u => { u with camps := u.camps.filter (fun (x : Camp) => x.st != UpSt.idle) ++ [c] }) s))
  let s2 := match campOf s1 m.id with
    | some c => if c.st = .staging && needsRing s1 c then ringStaging s1 else s1
    | none => s1
  let s3 := sendManifest m.id s2
  match campOf s3 m.id with
  | some c => if c.st = .staging then stagedCheck m.id s3 else if c.st = .staged then reportStaged m.id 0 s3 else s3
  | none => s3

/-- The entry modules for which a sender is this module's predecessor in the chain of some modules. -/
def entryCandidates (us : List Nat) (sender : Nat) : List Nat :=
  us.filter (fun e => e != uid && before (chainOf us e) uid == some sender)

/-- The entry module that a manifest from a sender has: it follows from the sender's place in the chain, and is free where several would do
(log entry 36). None where the sender is no predecessor. -/
def entryOf (us : List Nat) (sender : Nat) (s : State) : State × Option Nat :=
  let cs := entryCandidates us sender
  if cs.length ≤ 1 then (s, cs.head?)
  else
    let q := freshNat s
    (q.2, cs[q.1 % cs.length]?)

/-- A MANIFEST fragment in order; the whole manifest is checked as at the entry module, and a failure is reported back (R348). Which module is
the entry module follows from the place of the sender, and is free where several would do (log entry 36). -/
def manifestMsg (src : Nat) (data : Bytes) (s : State) : State :=
  let id := rdN data (data.length - 8) 8
  let off := rdN data 4 4
  let body := slice data 8 (data.length - 16)
  let got := ((s.up.manRx.find? (fun x => x.1 == id && x.2.1 == src)).map (fun x => x.2.2)).getD []
  let rest := s.up.manRx.filter (fun x => !(x.1 == id && x.2.1 == src))
  if data.length ≤ 16 || !resZero data 1 3 || inRecovery s then s
  else
    let all := if off = got.length then got ++ body else if off = 0 then body else got
    if all.length < 36 || all.length < rdN all 32 4 && all.length < 6560 then updUp (fun u => { u with manRx := rest ++ [(id, src, all)] }) s
    else
      let us := (chunks 8 (slice all 64 (8 * rdN all 18 2))).map (fun e => rdN e 0 6)
      let r := checkManifest all (updUp (fun u => { u with manRx := rest }) s)
      let q := entryOf us (uidOfNode s src) r.1
      match q.2 with
      | none => q.1
      | some e =>
        let bad := (chainSend id e (u8 0x05 ++ u8 (myNode s) ++ u8 7 ++ u8 0) q.1).1
        match r.2 with
        | .inr _ => bad
        | .inl m =>
          if m.id ≠ id || (match campOf s m.id with
              | some c => c.entry && c.st != UpSt.idle
              | none => false) then q.1
          else if (claimants s m).isEmpty && s.up.commit.st ≠ .activated then takeManifest m false 0 src (nodeOfUid s e) q.1
          else bad

end Sys2Proof.Machine
end

