-- ==== Sys2Proof/Machine/Rennet.lean ====
section
/-!
DEFINITION. Machine/Rennet.lean: Rennet, the swap, fall-back and confirmation, the messages of Table 13-5 and the update commands (R351 to
R362).
-/

namespace Sys2Proof.Machine

/-! ### The commit record (Table 13-8) -/

/-- The code of a commit record's state. -/
def commitCode (st : CommitSt) : Nat :=
  match st with
  | .none => 0 | .prepared => 1 | .decided => 2 | .committing => 3 | .activated => 4 | .aborted => 5 | .fallenBack => 6 | .confirmed => 7

/-- The commit record is written with the next generation (R354). -/
def writeCommit (f : CommitRec → CommitRec) (s : State) : State :=
  updUp (fun u => { u with commit := f { u.commit with gen := wrapU 32 (u.commit.gen + 1) } }) s

/-- The record's state changes. -/
def commitTo (st : CommitSt) (s : State) : State := writeCommit (fun c => { c with st }) s

/-- The state of this module's record for a manifest; NONE where the record is another's. -/
def recordState (id : Nat) (s : State) : Nat := if s.up.commit.id = id then commitCode s.up.commit.st else 0

/-- The active slots after the swap: the regions of the manifest's own parts change. -/
def swapMap (s : State) (m : Manifest) : Nat := maskOf 6 (fun t => bit s.up.active t != (regions m).contains (t + 1))

/-! ### Votes (R352) -/

/-- Whether the owner lock bars a session's role (Table 13-1). -/
def ownerBars (role : Nat) (s : State) : Bool := s.rs.ownerLock && role != 3 && !inService s

/-- Whether an accepted command would enable a function later. -/
def enablePending (s : State) : Bool :=
  s.mb.exch.any (fun t => t.code == cFunctionEnable && rdN t.payload 0 4 != 0) || s.pf.selected.any (fun x => enablesAny x.image)

/-- The cause that an injection gives a refusal, if one runs on the detector. -/
def forcedRefusal (s : State) : Option Nat := (injFor s detUpdateRefused 0).map (fun i => i.value % 256)

/-- The reason of a NO to activate a manifest (Table 13-6); none for YES. -/
def voteAgainst (id role : Nat) (s : State) : Option Nat :=
  match campOf s id with
  | none => some 4
  | some c =>
    if c.st ≠ .staged || commitHeld s then some 4
    else if !stationary s && !inRecovery s then some 1
    else if !s.up.supplyOk then some 2
    else if ownerBars role s then some 3
    else if !fnsIdle s || enablePending s then some 5
    else forcedRefusal s

/-- The module votes: YES writes PREPARED; a NO of Table 13-1 is recorded (R341, R351). -/
def castVote (id role frame leaderUid : Nat) (s : State) : State × Option Nat :=
  match voteAgainst id role s with
  | some r => (if r ≤ 3 || (forcedRefusal s).isSome then happen detUpdateRefused 0 r s else s, some r)
  | none =>
    match campOf s id with
    | none => (s, some 4)
    | some c =>
      (enterUp id .prepared (updCamp id (fun x => { x with frame }) (writeCommit (fun r =>
        { r with id, st := .prepared, leader := leaderUid == uid, frame, leaderUid, slotMap := swapMap s c.man, oldMap := s.up.active,
                 sec := c.man.sec }) s)), none)

/-- A PREPARED module learns ABORT: it writes ABORTED, records 0x0D03 and is STAGED again. -/
def takeAbort (id : Nat) (s : State) : State := enterUp id .staged (happen detRennetAbort 0 0 (commitTo .aborted s))

/-! ### The swap, fall-back and confirmation (R354, R357 to R359) -/

/-- The µs within the frame. -/
def usFrame (s : State) : Nat := s.clk.cycle / 750

/-- The swap: ACTIVATED is written with the new slot map, and the module resets at L1. -/
def swapNow (s : State) : State :=
  let id := s.up.commit.id
  let s1 := updUp (fun u => { u with active := u.commit.slotMap }) (commitTo .activated s)
  softReset 1 (usFrame s) (enterUp id .activated (updMod id uid (fun m => { m with swap := s.clk.frame }) s1))

/-- COMMIT_FRAME_SWAP (R351, R354): at the commit frame while not moving, or once stationary again. -/
def execCommitFrameSwap (s : State) : Host.Outcome State Fault Refusal :=
  .next (let c := s.up.commit
    if s.rs.supUp && (c.st == .decided || c.st == .committing) &&
        (if inRecovery s then decide (c.frame ≤ s.clk.frame)
         else (c.frame == s.clk.frame && !moving s) || (decide (c.frame < s.clk.frame) && stationary s))
    then swapNow s else s)

/-- A PREPARED module learns COMMIT; one that boots with the commit frame passed swaps at once (R355). -/
def takeCommit (id : Nat) (s : State) : State :=
  let s1 := enterUp id .committing (commitTo .committing s)
  if s.rs.stage = .lanes && s.up.commit.frame ≤ s.clk.frame then swapNow s1 else s1

/-- The old-format copies come back (R358). -/
def restoreOld (s : State) : State :=
  match s.up.old with
  | none => s
  | some o =>
    updUp (fun u => { u with old := none }) (updPf (fun p => { p with
      slots := o.slots.map (fun cs => cs.map (fun c => ⟨c.1, c.2.1, c.2.2⟩)), settings := o.settings, writes := [], saving := none }) s)

/-- The regions' new images are erased. -/
def eraseNew (s : State) : State :=
  ((List.range 6).filter (fun t => bit s.up.commit.slotMap t != bit s.up.commit.oldMap t)).foldl
    (fun st t => updSlot (t + 1) (b2n (bit s.up.commit.slotMap t)) (fun _ => none) st) s

/-- FALLBACK goes to the modules of the manifest that a path leads to; the others are told once one does (R357). -/
def tellFallBack (s : State) : State :=
  s.up.toTell.foldl (fun st u =>
    let r := chainSend s.up.commit.id u (u8 0x0B ++ u8 2 ++ zeros 2) st
    if r.2 then updUp (fun x => { x with toTell := x.toTell.filter (fun v => v != u) }) r.1 else st) s

/-- The fall-back of an ACTIVATED module, up to its reset (R357). -/
def fallBackWrite (result : Nat) (s : State) : State :=
  let id := s.up.commit.id
  let s1 := commitTo .fallenBack s
  let s2 := match campOf s1 id with
    | some c => tellFallBack (updUp (fun u => { u with toTell := (modUids c.man).filter (fun u => u != uid) }) s1)
    | none => s1
  let s3 := happen detActivationFallBack 0 result (restoreOld (eraseNew s2))
  enterUp id .idle (updCamp id (fun c => { c with result }) (updUp (fun u => { u with active := u.commit.oldMap }) s3))

/-- An ACTIVATED module falls back and resets at L1 into the old slot map. -/
def fallBack (result : Nat) (s : State) : State := softReset 1 (usFrame s) (fallBackWrite result s)

/-- An ACTIVATED module confirms (R359). -/
def confirmSelf (s : State) : State :=
  let id := s.up.commit.id
  let s1 := updUp (fun u => { u with secMin := max u.secMin u.commit.sec, old := none }) s
  let s2 := rawEvent evUpdateConfirmed 0 0 (commitTo .confirmed s1)
  enterUp id .idle (updMod id uid (fun m => { m with confirmed := true }) (updCamp id (fun c => { c with result := 0 }) s2))

/-- Modules of a manifest that have confirmed, as far as is known. -/
def confirmedCount (c : Camp) : Nat := (c.mods.filter UpMod.confirmed).length

/-- UPDATE_CONFIRM is answered once every module has confirmed, or 1 s after it (R359). -/
def answerConfirm (s : State) : State :=
  match s.up.confirmAt, campOf s s.up.commit.id with
  | some t, some c =>
    if confirmedCount c = c.mods.length || elapsed s t 1000 then
      resolve (fun w => w == .confirm) stOk (u8 (confirmedCount c) ++ u8 c.mods.length ++ zeros 2)
        (updUp (fun u => { u with confirmAt := none }) s)
    else s
  | _, _ => s

/-! ### The leader (R353) -/

/-- The answer to UPDATE_ACTIVATE (Table 13-10). -/
def activateReply (frame decision node reason : Nat) : Bytes := u64 frame ++ u8 decision ++ u8 node ++ u8 reason ++ u8 0

/-- The decision is sent to the modules that have not acknowledged it. -/
def sendDecision (id : Nat) (s : State) : State :=
  match campOf s id with
  | none => s
  | some c =>
    match c.decision with
    | none => s
    | some d =>
      ((c.mods.filter (fun m => !m.acked && m.uid != uid)).map UpMod.uid).foldl
        (fun st u => (chainSend id u (u8 0x08 ++ u8 (b2n d) ++ zeros 2 ++ u64 c.frame) st).1)
        (updCamp id (fun x => { x with sentAt := s.clk.ms }) s)

/-- The leader decides COMMIT: DECIDED_COMMIT is written before anything is sent. -/
def decideCommit (id : Nat) (s : State) : State :=
  let s1 := enterUp id .committing (updCamp id (fun c => { c with decision := some true }) (commitTo .decided s))
  resolve (fun w => w == .activate) stOk (activateReply s.up.commit.frame 1 0 0) (sendDecision id s1)

/-- The leader decides ABORT: ABORTED is written first. -/
def decideAbort (id node reason : Nat) (s : State) : State :=
  let frame := ((campOf s id).map Camp.frame).getD 0
  let s1 := happen detRennetAbort 0 reason (writeCommit (fun r => { r with id, st := .aborted, leader := true, frame, leaderUid := uid }) s)
  let s2 := updCamp id (fun c => { c with decision := some false, result := reason }) s1
  let s3 := if ((campOf s2 id).map Camp.st) = some .prepared then enterUp id .staged s2 else s2
  resolve (fun w => w == .activate) stRefusedState (activateReply frame 2 node reason) (sendDecision id s3)

/-- The leader collects votes for a manifest and has not decided. -/
def collecting (c : Camp) : Bool := c.entry && c.frame != 0 && c.decision.isNone

/-- The leader has a vote more: the first NO decides ABORT, the last YES COMMIT. -/
def judgeVotes (id : Nat) (s : State) : State :=
  match campOf s id with
  | none => s
  | some c =>
    if !collecting c then s
    else match c.mods.findSome? (fun m => match m.vote with
        | some (false, r) => some (m.uid, r)
        | _ => none) with
      | some (u, r) => decideAbort id (if u = uid then myNode s else nodeOfUid s u) r s
      | none =>
        match injFor s detRennetAbort 0 with
        | some i => decideAbort id (myNode s) (i.value % 256) s
        | none => if c.mods.all (fun m => (m.vote.map Prod.fst) == some true) then decideCommit id s else s

/-! ### Messages -/

/-- PREPARE at a module: it votes and sends its vote to the leader. A module that has voted YES repeats it. -/
def prepareMsg (src : Nat) (data : Bytes) (s : State) : State :=
  let id := rdN data (data.length - 8) 8
  let frame := rdN data 1 8
  if data.length ≠ 17 then s
  else
    let u := uidOfNode s src
    let held := s.up.commit.id = id && s.up.commit.st = .prepared && s.up.commit.frame = frame
    let r := if held then (s, none) else castVote id 0 frame u (updCamp id (fun c => { c with entryNode := src }) s)
    (chainSend id u (u8 0x07 ++ u8 (b2n r.2.isNone) ++ u8 (r.2.getD 0) ++ u8 0) r.1).1

/-- VOTE at the leader. -/
def voteMsg (src : Nat) (data : Bytes) (s : State) : State :=
  let id := rdN data (data.length - 8) 8
  let yes := rdN data 1 1 == 1
  match campOf s id with
  | none => s
  | some c =>
    if data.length = 12 && rdN data 1 1 < 2 && collecting c then
      judgeVotes id (modState id (uidOfNode s src) (if yes then 4 else 3) (fun m => { m with vote := some (yes, rdN data 2 1) }) s)
    else s

/-- COMMIT or ABORT from the leader; an ABORT of commit frame 0 ends a staging (R351, R353; log entry 35). -/
def decisionMsg (src : Nat) (data : Bytes) (s : State) : State :=
  let id := rdN data (data.length - 8) 8
  let d := rdN data 1 1
  let u := uidOfNode s src
  match campOf s id with
  | none => s
  | some c =>
    if data.length ≠ 20 || 1 < d || !(modUids c.man).contains u || c.entry then s
    else if d = 0 && rdN data 4 8 = 0 then dropStaging id 9 s
    else
      let prepared := s.up.commit.id = id && s.up.commit.st = .prepared
      let s1 := if prepared then
          if d = 0 then takeAbort id s else enterUp id .committing (commitTo .committing s)
        else s
      let s2 := (chainSend id u (u8 0x09 ++ u8 (recordState id s1) ++ zeros 2) s1).1
      if prepared && d = 1 && s.rs.stage = .lanes && s.up.commit.frame ≤ s.clk.frame then swapNow s2 else s2

/-- The state of UPDATE_STATUS that a commit record's state code tells. -/
def stOfRecord (n : Nat) : Nat :=
  match n with
  | 1 => 4 | 2 => 5 | 3 => 5 | 4 => 6 | 5 => 3 | _ => 1

/-- DECISION_ACK: the state that a module has reached, of the decision, of a RESOLVE, or of a confirmation (R353, R355, R359). -/
def ackDecisionMsg (src : Nat) (data : Bytes) (s : State) : State :=
  let id := rdN data (data.length - 8) 8
  let n := rdN data 1 1
  let u := uidOfNode s src
  match campOf s id with
  | none => s
  | some c =>
    if data.length ≠ 12 || 7 < n || !(modUids c.man).contains u then s
    else if s.up.commit.id = id && s.up.commit.st = .prepared && !s.up.commit.leader then
      if n = 2 || n = 3 || n = 4 || n = 7 then takeCommit id s
      else if n = 5 || (n ≤ 1 && u = s.up.commit.leaderUid) then takeAbort id s
      else s
    else
      answerConfirm (modState id u (stOfRecord n) (fun m =>
        { m with acked := m.acked || c.decision.isSome, confirmed := m.confirmed || n == 7,
                 swap := if n = 4 && m.swap = 0 then s.clk.frame else m.swap }) s)

/-- RESOLVE is answered with the state of the record; a leader that still collects votes has no decision to answer with (R355; log entry
37). -/
def resolveMsg (src : Nat) (data : Bytes) (s : State) : State :=
  let id := rdN data (data.length - 8) 8
  if data.length ≠ 12 || (match campOf s id with
      | some c => collecting c
      | none => false) then s
  else (chainSend id (uidOfNode s src) (u8 0x09 ++ u8 (recordState id s) ++ zeros 2) s).1

/-- CONFIRM or FALLBACK from a module of the manifest; a module that has confirmed ignores FALLBACK (R357, R359). -/
def confirmMsg (src : Nat) (data : Bytes) (s : State) : State :=
  let id := rdN data (data.length - 8) 8
  let k := rdN data 1 1
  let active := s.up.commit.id = id && s.up.commit.st = .activated
  if data.length ≠ 12 || s.up.commit.id ≠ id then s
  else if k = 1 then
    let s1 := if active then confirmSelf s else s
    (chainSend id (uidOfNode s src) (u8 0x09 ++ u8 (recordState id s1) ++ zeros 2) s1).1
  else if k = 2 && active then fallBack 9 s
  else s

/-- A delivered message of Table 13-5, by its type. -/
def chainMessage (src : Nat) (data : Bytes) (s : State) : State :=
  match rdN data 0 1 with
  | 1 => manifestMsg src data s
  | 2 => chunkMsg src data s
  | 3 => ackMsg src data s
  | 4 => nackMsg src data s
  | 5 => stagedMsg src data s
  | 6 => prepareMsg src data s
  | 7 => voteMsg src data s
  | 8 => decisionMsg src data s
  | 9 => ackDecisionMsg src data s
  | 10 => resolveMsg src data s
  | 11 => confirmMsg src data s
  | 12 => motionMsg src data s
  | _ => s

/-- A delivered message acts where the supervisor runs and its type is the row's. -/
def chainRow (type src : Nat) (data : Bytes) (act : Nat → Bytes → State → State) (s : State) : State :=
  if s.rs.supUp && !data.isEmpty && rdN data 0 1 == type then act src data s else s

/-- MOTION (R339): `data` is a delivered Skim frame's. -/
def execMotion (src : Fin 64) (data : Bytes) (s : State) : Host.Outcome State Fault Refusal := .next (chainRow 12 src.val data motionMsg s)

/-- MANIFEST (R348). -/
def execManifest (src : Fin 64) (data : Bytes) (s : State) : Host.Outcome State Fault Refusal := .next (chainRow 1 src.val data manifestMsg s)

/-- CHUNK (R350). -/
def execChunk (src : Fin 64) (data : Bytes) (s : State) : Host.Outcome State Fault Refusal := .next (chainRow 2 src.val data chunkMsg s)

/-- ACK (R350). -/
def execAck (src : Fin 64) (data : Bytes) (s : State) : Host.Outcome State Fault Refusal := .next (chainRow 3 src.val data ackMsg s)

/-- NACK (R350). -/
def execNack (src : Fin 64) (data : Bytes) (s : State) : Host.Outcome State Fault Refusal := .next (chainRow 4 src.val data nackMsg s)

/-- STAGED (R350). -/
def execStaged (src : Fin 64) (data : Bytes) (s : State) : Host.Outcome State Fault Refusal := .next (chainRow 5 src.val data stagedMsg s)

/-- PREPARE (R352). -/
def execPrepare (src : Fin 64) (data : Bytes) (s : State) : Host.Outcome State Fault Refusal := .next (chainRow 6 src.val data prepareMsg s)

/-- VOTE (R353). -/
def execVote (src : Fin 64) (data : Bytes) (s : State) : Host.Outcome State Fault Refusal := .next (chainRow 7 src.val data voteMsg s)

/-- COMMIT / ABORT (R351). -/
def execCommitAbort (src : Fin 64) (data : Bytes) (s : State) : Host.Outcome State Fault Refusal :=
  .next (chainRow 8 src.val data decisionMsg s)

/-- DECISION_ACK (R353). -/
def execDecisionAck (src : Fin 64) (data : Bytes) (s : State) : Host.Outcome State Fault Refusal :=
  .next (chainRow 9 src.val data ackDecisionMsg s)

/-- RESOLVE (R355). -/
def execResolve (src : Fin 64) (data : Bytes) (s : State) : Host.Outcome State Fault Refusal := .next (chainRow 10 src.val data resolveMsg s)

/-- CONFIRM / FALLBACK (R357). -/
def execConfirmFallback (src : Fin 64) (data : Bytes) (s : State) : Host.Outcome State Fault Refusal :=
  .next (chainRow 11 src.val data confirmMsg s)

/-- The manifest for which votes are being collected here. -/
def collectingCamp (s : State) : Option Camp := s.up.camps.find? collecting

/-- VOTE_DEADLINE (R353): C − 200 frames arrive without all votes. -/
def execVoteDeadline (s : State) : Host.Outcome State Fault Refusal :=
  .next (match collectingCamp s with
    | some c => if s.rs.supUp && c.frame ≤ s.clk.frame + 200 then decideAbort c.man.id 0 6 s else s
    | none => s)

/-- DECISION_RESEND (R353): every 100 frames to the modules that have not acknowledged. -/
def execDecisionResend (s : State) : Host.Outcome State Fault Refusal :=
  .next (if s.rs.supUp then
      (s.up.camps.filter (fun c => c.decision.isSome && elapsed s c.sentAt 100)).foldl (fun st c => sendDecision c.man.id st) s
    else s)

/-- RESOLVE_RESEND (R351, R355): a PREPARED participant past its commit frame asks the leader every 100 frames; one that boots asks every
module each second. -/
def execResolveResend (s : State) : Host.Outcome State Fault Refusal :=
  .next (match campOf s s.up.commit.id with
    | none => s
    | some c =>
      let boot := s.rs.stage = .lanes
      if s.rs.supUp && s.up.commit.st = .prepared && !s.up.commit.leader && (boot || s.up.commit.frame < s.clk.frame) &&
          elapsed s c.sentAt (if boot then 1000 else 100) then
        let s1 := updCamp c.man.id (fun x => { x with sentAt := s.clk.ms }) s
        if boot then (chainAll c (u8 0x0A ++ zeros 3) s1).1
        else (chainSend c.man.id s.up.commit.leaderUid (u8 0x0A ++ zeros 3) s1).1
      else s)

/-! ### Commands (Table 13-10, R341, R346, R347, R361, R362) -/

/-- Why Table 13-1 refuses UPDATE_BEGIN: the code of Table 13-6, 0 for an update that awaits confirmation. -/
def beginBarred (role : Nat) (s : State) : Option Nat :=
  if moving s && !inRecovery s then some 1
  else if !s.up.supplyOk then some 2
  else if ownerBars role s then some 3
  else if s.up.commit.st = .activated then some 0
  else forcedRefusal s

/-- The parts that the host must send: those that name a module and are not whole yet. -/
def neededMask (c : Camp) : Nat :=
  maskOf c.man.parts.length (fun k => match c.man.parts[k]?, c.parts[k]? with
    | some p, some q => p.targets % 2 ^ c.man.mods.length != 0 && decide (q.accepted < p.chunks)
    | _, _ => false)

/-- The response of UPDATE_BEGIN from byte 4. -/
def beginReply (id mask check mods : Nat) : Bytes := u64 id ++ u64 mask ++ u8 check ++ u8 mods ++ zeros 2

/-- UPDATE_BEGIN. -/
def bodyUpdateBegin : Body := fun c s =>
  let p := c.payload
  let raw := p.drop 4
  if p.length < 5 || 1 < rdN p 0 1 || !resZero p 1 3 || 6560 < raw.length then ans s stBadArg
  else match beginBarred c.role s with
    | some r => ans (happen detUpdateRefused 0 r s) stRefusedState
    | none =>
      let q := checkManifest raw s
      match q.2 with
      | .inr k => ans q.1 stValidationFail (beginReply (rdN raw 8 8) 0 k 0)
      | .inl m =>
        let cs := claimants s m
        let bound := cs.any (fun x => x.st != .staging && x.st != .staged)
        if rdN p 0 1 = 0 && cs.any (fun x => x.st == .staging) then ans q.1 stBusy
        else if (rdN p 0 1 = 0 && !cs.isEmpty) || bound then ans q.1 stStagedElsewhere
        else
          let s1 := cs.foldl (fun st x => (abortStaging x.man.id 10 st).1) q.1
          let s2 := takeManifest m true c.session (myNode s) (myNode s) s1
          match campOf s2 m.id with
          | some x => ans s2 stOk (beginReply m.id (neededMask x) 0 m.mods.length)
          | none => ans s2 stOk (beginReply m.id 0 0 m.mods.length)

/-- Whole chunks at the front of a part's received bytes are taken, one after the other; a failing one is sent again from its start. -/
def takeWhole (id k : Nat) (p : UpPart) : Nat → State → State
  | 0, s => s
  | n + 1, s =>
    match (campOf s id).bind (fun c => c.parts[k]?) with
    | none => s
    | some q =>
      let len := chunkLen p q.accepted
      if q.failed || p.chunks ≤ q.accepted || q.partial'.length < len then s
      else
        let r := takeChunk id k p q.accepted (q.partial'.take len) s
        if r.2 then
          takeWhole id k p n (updPart id k (fun x => if x.accepted = 0 then x else { x with partial' := x.partial'.drop len }) r.1)
        else updPart id k (fun x => { x with partial' := [], next := 65552 * x.accepted }) r.1

/-- The response of UPDATE_DATA: next expected offset, part state. -/
def dataReply (id k : Nat) (s : State) : State × Reply :=
  match (campOf s id).bind (fun c => c.parts[k]?) with
  | some q => ans s stOk (u32 q.next ++ u8 (if q.failed then 3 else if q.verified then 2 else 1) ++ zeros 3)
  | none => ans s stOk (u32 0 ++ u8 3 ++ zeros 3)

/-- UPDATE_DATA. -/
def bodyUpdateData : Body := fun c s =>
  let p := c.payload
  let id := rdN p 0 8
  let k := rdN p 8 1
  let off := rdN p 12 4
  let data := p.drop 16
  match campOf s id with
  | none => ans s stBadArg
  | some x =>
    match x.man.parts[k]?, x.parts[k]? with
    | some e, some q =>
      if p.length < 17 || 65536 < p.length || !resZero p 9 3 || cipherLen e < off + data.length then ans s stBadArg
      else if !x.entry || x.session ≠ c.session then ans s stNotAuth
      else if x.st ≠ .staging || off < q.next then dataReply id k s
      else if q.next < off then ans s stBadArg
      else if !ringRoom s x e then ans s stBusy (u32 q.next ++ u8 1 ++ zeros 3)
      else
        dataReply id k (takeWhole id k e 3 (updPart id k (fun y =>
          { y with partial' := y.partial' ++ data, next := y.next + data.length }) s))
    | _, _ => ans s stBadArg

/-- UPDATE_STATUS. -/
def bodyUpdateStatus : Body := fun c s =>
  let id := rdN c.payload 0 8
  let x := if id = 0 then s.up.camps.getLast? else campOf s id
  if c.payload.length ≠ 8 || (id ≠ 0 && x.isNone) then ans s stBadArg
  else ans s stOk (statusHead s x ++ ((x.map (fun y => (y.mods.map (modEntry s y)).flatten)).getD []))

/-- UPDATE_ACTIVATE: PREPARE goes to this module and to every module of the manifest; the answer is given once the decision is made. In ROM
recovery mode the module commits alone at the next frame (R361). -/
def bodyUpdateActivate : Body := fun c s =>
  let p := c.payload
  let id := rdN p 0 8
  let want := rdN p 8 8
  let frame := if inRecovery s then c.arrival + 1 else if want = 0 then c.arrival + paramN s pUpCommitLead else want
  match campOf s id with
  | none => ans s stBadArg
  | some x =>
    if p.length ≠ 16 || (!inRecovery s && (frame < c.arrival + 2000 || c.arrival + 600000 < frame)) then ans s stBadArg
    else if !x.entry || x.session ≠ c.session then ans s stNotAuth
    else if (collectingCamp s).isSome then ans s stBusy
    else if x.st = .prepared || x.st = .committing || x.st = .activated then
      ans s stRefusedState (activateReply frame 2 (myNode s) 0)
    else
      let s1 := updCamp id (fun y => { y with frame, decision := none, mods := y.mods.map (fun m => { m with vote := none, acked := false }) }) s
      let s2 := if inRecovery s then s1 else (chainAll x (u8 0x06 ++ u64 frame) s1).1
      let v := castVote id c.role frame uid s2
      let s3 := updCamp id (fun y => { y with frame, mods := y.mods.map (fun m =>
        if m.uid = uid || inRecovery s then { m with vote := some (v.2.isNone, v.2.getD 0) } else m) }) v.1
      let s4 := judgeVotes id s3
      match (campOf s4 id).bind Camp.decision with
      | some true => ans s4 stOk (activateReply frame 1 0 0)
      | some false => ans s4 stRefusedState (activateReply frame 2 (if v.2.isSome then myNode s else 0) (v.2.getD 0))
      | none => (s4, .wait .activate)

/-- UPDATE_CONFIRM: this module confirms itself and tells the others; the answer follows within 1 s. -/
def bodyUpdateConfirm : Body := fun c s =>
  let id := rdN c.payload 0 8
  if c.payload.length ≠ 8 then ans s stBadArg
  else if ownerBars c.role s then ans (happen detUpdateRefused 0 3 s) stRefusedState
  else match campOf s id with
    | none => ans s stRefusedState
    | some x =>
      if s.up.commit.id ≠ id || (s.up.commit.st ≠ .activated && s.up.commit.st ≠ .confirmed) then ans s stRefusedState
      else
        let s1 := if s.up.commit.st = .activated then confirmSelf s else s
        let s2 := (chainAll x (u8 0x0B ++ u8 1 ++ zeros 2) s1).1
        match campOf s2 id with
        | some y =>
          if confirmedCount y = y.mods.length then ans s2 stOk (u8 y.mods.length ++ u8 y.mods.length ++ zeros 2)
          else (updUp (fun u => { u with confirmAt := some s.clk.ms }) s2, .wait .confirm)
        | none => ans s2 stRefusedState

/-- An UPDATE_ABORT operation: payload, then the owner lock (Table 13-1). -/
def abortRequest (op : Nat) (act : Nat → Ctx → State → State × Reply) : Body := withOp 8 op fun c s =>
  if c.payload.length ≠ 12 || !resZero c.payload 9 3 then ans s stBadArg
  else if ownerBars c.role s then ans (happen detUpdateRefused 0 3 s) stRefusedState
  else act (rdN c.payload 0 8) c s

/-- UPDATE_ABORT ABORT_STAGING: refused once any module is PREPARED (R362). -/
def bodyUpdateAbortStaging : Body := abortRequest 1 fun id c s =>
  match campOf s id with
  | none => ans s stBadArg
  | some x =>
    if !x.entry || x.session ≠ c.session then ans s stNotAuth
    else if x.mods.any (fun m => decide (4 ≤ m.st)) || (x.st ≠ .staging && x.st ≠ .staged) then ans s stRefusedState
    else
      let r := abortStaging id 9 s
      ans r.1 stOk (u8 r.2 ++ zeros 3)

/-- UPDATE_ABORT FALLBACK: refused unless ACTIVATED. The answer is sent before the reset closes the session. -/
def bodyUpdateAbortFallback : Body := abortRequest 2 fun id c s =>
  match campOf s id with
  | none => ans s stRefusedState
  | some x =>
    if s.up.commit.id ≠ id || s.up.commit.st ≠ .activated then ans s stRefusedState
    else
      let n := ((modUids x.man).filter (fun u => u == uid || (nodeOfUid s u != 0 && (routePort s (nodeOfUid s u)).isSome))).length
      (fallBack 9 (answer c stOk (u8 n ++ zeros 3) s), .sent)

/-- UPDATE_ABORT RESOLVE_ABORT (R356): for a SERVICE session in lifecycle state SERVICE, while no module of the manifest can be reached. -/
def bodyUpdateAbortResolveAbort : Body := abortRequest 3 fun id c s =>
  if c.role ≠ 4 then ans s stNotAuth
  else match campOf s id with
    | none => ans s stRefusedState
    | some x =>
      if !inService s || s.up.commit.id ≠ id || s.up.commit.st ≠ .prepared || s.up.commit.leader ||
          (modUids x.man).any (fun u => u != uid && nodeOfUid s u != 0 && (routePort s (nodeOfUid s u)).isSome) then ans s stRefusedState
      else ans (takeAbort id s) stOk (u8 1 ++ zeros 3)

end Sys2Proof.Machine
end

