-- ==== Sys2Proof/Machine/Boot.lean ====
section
/-!
DEFINITION. Machine/Boot.lean: the boot of Table 14-6 from the release of D4, the L2 restart and ROM recovery mode (R57, R58, R355, R357, R358,
R360, R361, R372, R374, R375), and lifecycle transitions with their wipes (R380, R381).
-/

namespace Sys2Proof.Machine

/-! ### Lifecycle transitions (R380, R381) -/

/-- The map area is wiped. -/
def wipeMap (s : State) : State := { s with cf := { s.cf with fields := [], openField := 0 } }

/-- The capture file is wiped. -/
def wipeCapture (s : State) : State := updGr (fun g => { g with capture := none }) s

/-- Both event areas and the archive are wiped. -/
def wipeEvents (s : State) : State :=
  { s with ev := { s.ev with fixed := [], snaps := [], fixq := [], snapq := [], archive := [], archivePriv := [], fullFixed := false,
                             fullSnap := false } }

/-- The inactive image slots are wiped. -/
def wipeImages (s : State) : State :=
  (List.range 6).foldl (fun st t => updSlot (t + 1) (inactive st (t + 1)) (fun _ => none) st) s

/-- The wipes of Table 14-10. -/
def wipes (old new : Nat) (s : State) : State :=
  if old = 2 && new = 3 then wipeCapture (wipeMap (wipeEvents (updMc (fun c => { c with telemetry := 0 }) s)))
  else if old = 4 && new = 3 then
    let s1 := endInjections (fun _ => true) (wipeCapture s)
    ringEnter .free (ringZero (updCap (fun k => { k with st := .idle, data := [] }) (endReplay 2 s1)))
  else if new = 5 then
    wipeImages (wipeCapture (wipeMap (updRs (fun r => { r with
        keys := [none, none, none, nth r.keys 3 none], oemOwn := false, manifestKey := none, ownerLock := false, permit := none })
      (updPf (fun p => { p with slots := p.slots.map (fun _ => []), settings := [], writes := [], saving := none })
        (updFb (fun b => { b with lost := false }) s)))))
  else s

/-- The state is committed, with the burned reset map or the count of entries into SERVICE. -/
def commitLifecycle (t : Intent) (s : State) : State :=
  updRs (fun r => { r with
    lifecycle := t.target, intent := none
    fuses := if r.lifecycle = 2 && t.target = 3 then t.map else r.fuses
    entries := if t.target = 4 then r.entries + 1 else r.entries }) s

/-- Steps 4 to 7 of R381. -/
def finishTransition (t : Intent) (s : State) : State :=
  let s1 := commitLifecycle t (wipes s.rs.lifecycle t.target s)
  assertSource 5 (sourceLevel s1 5 1) (usFrame s1) (rawEvent evLifecycleChange 0 (s.rs.lifecycle + 256 * t.target) s1)

/-! ### The release of D4 and mask ROM (Tables 14-4 and 14-6) -/

/-- The strap that eight samples give: their value where all agree, else an invalid strap. -/
def strapOf (straps : List Nat) : Nat :=
  match straps with
  | x :: xs => if xs.all (fun y => y == x) && decide (x < 8) && xs.length = 7 then x else 7
  | [] => 7

/-- The supervisor epoch increases; at its greatest value it stays (R34). -/
def nextEpoch (e : Nat) : Nat := if 0xFFFFFFFF ≤ e then 0xFFFFFFFF else e + 1

/-- The handover horizon: the highest frame of application in the exchange area (R41). -/
def horizonOf (s : State) : Nat := (s.mb.exch.map TCmd.frame).foldl max 0

/-- ROM recovery mode (R360, R361): no profile is active, the transports run on their defaults. -/
def enterRecovery (cause : Nat) (s : State) : State :=
  let s1 := happen detRecoveryModeEntry 0 cause (updRs (fun r => { r with stage := .recovery, supUp := true }) s)
  updPf (fun p => { p with active := 16, none := true, psOpen := false })
    { s1 with mb := { s1.mb with udpPort := (paramDefault pMbUdpPort).toNat, ipv4 := (paramDefault pMbIpv4Addr).toNat,
                                 seEnable := (paramDefault pMbSeEnable).toNat, canPorts := 0, uartEnable := true } }

/-- The reset records of the episodes since the last start (R323, R369). -/
def recordCauses (s : State) : State :=
  updRs (fun r => { r with causes := [] })
    (s.rs.causes.foldl (fun st e => rawEvent evReset 0 (e.1 + 65536 * e.2) st) s)

/-- What mask ROM does with an ACTIVATED record after a failed boot, with the strap and with the failed boots (R357, R360). -/
def romStart (s : State) : State :=
  if s.rs.restart then updRs (fun r => { r with stage := .rom }) s
  else if s.up.commit.st = .activated && 1 ≤ s.rs.failed then fallBack 11 s
  else if s.pf.strap = 6 then enterRecovery 1 (recordCauses s)
  else if 3 ≤ s.rs.failed then enterRecovery 2 (recordCauses s)
  else updRs (fun r => { r with stage := .rom }) s

/-- D4_RELEASE (R372, R34, R57): D4 to D7 are released once no source of L0 to L2 asserts; the straps are sampled at L0 and L1 only. -/
def execD4Release (straps : List Nat) (s : State) : Host.Outcome State Fault Refusal :=
  .next (if s.rs.stage = .compute && s.rs.asserted.isEmpty then
    let s1 := [4, 5, 6, 7].foldl (fun st d => setDom d .on st) s
    let s2 := endEpisode (if s.pf.strap = 8 then updPf (fun p => { p with strap := strapOf straps }) s1 else s1)
    romStart (updRs (fun r => { r with bootAt := if r.restart then s.clk.ms else r.bootAt })
      { s2 with mb := { s2.mb with epoch := nextEpoch s2.mb.epoch, nextSession := 1 } })
  else s)

/-- SUPERVISOR_IMAGE_LOADED (R374, R41): `ok` tells whether every chunk and the digest passed. Firmware starts: NAND is mounted, the reset records
are due, the handover horizon is taken. A failed load is a failed boot. -/
def execSupervisorImageLoaded (ok : Bool) (s : State) : Host.Outcome State Fault Refusal :=
  .next (if s.rs.stage = .rom then
    if ok then
      let h := if s.rs.restart then horizonOf s else s.pw.sb.horizon.getD (horizonOf s)
      let s1 := updRs (fun r => { r with stage := .firmware, supUp := true })
        { s with mb := { s.mb with horizon := h }
                 up := { s.up with moving := true, movedAt := some s.clk.ms, peers := [] } }
      let s2 := updPw (fun p => { p with sb := { p.sb with horizon := none } }) s1
      [60, 61, 62, 63].foldl (fun st b => bankPower b .off st) (panelRecord (recordCauses s2))
    else if s.rs.counted || s.rs.restart then s
    else happen detBootFailure 0 0 (updRs (fun r => { r with failed := r.failed + 1, counted := true }) s)
  else s)

/-- LANE_IMAGE_LOADED (R374). -/
def execLaneImageLoaded (s : State) : Host.Outcome State Fault Refusal :=
  .next (if s.rs.stage = .firmware && !s.rs.restart then transportsOn (updRs (fun r => { r with stage := .lanes }) s) else s)
where
  /-- The transport parameters in force from this start (R50); where the boot is held they are those of the profile active last. -/
  transportsOn (s : State) : State :=
    { s with mb := { s.mb with
        udpPort := paramN s pMbUdpPort, ipv4 := paramN s pMbIpv4Addr, seEnable := paramN s pMbSeEnable
        canPorts := paramN s pMbCanPorts, uartEnable := paramN s pMbUartEnable == 1 } }

/-- The transports of the profile active at a supervisor start (R50, R55). -/
def transportsInForce (s : State) : State :=
  let ps := inPs s
  updPf (fun p => { p with psOpen := ps }) { s with mb := { s.mb with
    udpPort := paramN s pMbUdpPort, ipv4 := paramN s pMbIpv4Addr, seEnable := paramN s pMbSeEnable
    canPorts := if ps then 1 else paramN s pMbCanPorts, uartEnable := paramN s pMbUartEnable == 1 } }

/-! ### The profile at start-up (R57, R58) -/

/-- The slot and source of Table 2-1; PS forced by lifecycle state or conservative trim. -/
def strapChoice (s : State) : Nat × Nat :=
  if s.rs.lifecycle = 1 || s.rs.lifecycle = 5 || s.rs.consTrim then (16, 5)
  else match s.pf.strap with
    | 0 => (paramN s pPfDefault, 0)
    | 1 => (0, 1)
    | 2 => (1, 1)
    | 3 => (2, 1)
    | 4 => (3, 1)
    | 5 => (16, 1)
    | _ => (16, 4)

/-- Why the image of a slot cannot be activated: DATA of record 0x0201 (R58). -/
def slotFail (k : Nat) (s : State) : Option Nat :=
  if (slotCopies s k).isEmpty then some 0
  else if (bestCopy s k).isNone then some 0xFE
  else match validate s (slotImage s k) with
    | some f => some (f.1 + 256 * satU 8 f.2.2 + 65536 * f.2.1)
    | none => none

/-- The profile selected at start-up becomes active, or PS with its record. -/
def startProfile (s : State) : State :=
  let (slot, src) := strapChoice s
  let ps := parsedPs
  if slot = 16 then
    let s1 := if src = 4 then happen detInvalidProfileStrap 0 0 s else s
    activateProfile 16 src ps.1 ps.2 s1
  else
    let s1 := loadJudge slot s
    match slotFail slot s1 with
    | some d => activateProfile 16 3 ps.1 ps.2 (happen detProfileActivationFailure (slot + 1) d s1)
    | none => activateProfile slot src (imageOf (slotImage s1 slot)) (rdN (slotImage s1 slot) 16 4) s1
where
  /-- The PS image and its CRC. -/
  parsedPs : Image × Nat := (imageOf psImage, rdN psImage 16 4)

/-- What the commit record asks of a boot before Granite starts (Table 13-9): true where the boot goes on. -/
def bootRecord (s : State) : State × Bool :=
  let c := s.up.commit
  match c.st with
  | .prepared =>
    if c.leader then
      (sendDecision c.id (updCamp c.id (fun x => { x with decision := some false }) (takeAbort c.id s)), true)
    else (s, false)
  | .decided | .committing => if c.frame ≤ s.clk.frame then (swapNow s, false) else (s, true)
  | _ => (s, true)

/-- BOOT_PROFILE_ACTIVATION (R374, R355, R381): an intent is completed first; a PREPARED record holds the boot; then the profile is selected and
validated, Granite starts, and Quartz, GNSS and the transports come up. -/
def execBootProfileActivation (s : State) : Host.Outcome State Fault Refusal :=
  .next (if s.rs.stage = .lanes then
    match s.rs.intent with
    | some t => finishTransition t s
    | none =>
      let r := bootRecord s
      if !r.2 then r.1
      else
        let s1 := updPf (fun p => { p with startPending := true }) (startProfile r.1)
        panelRecover (gnssStart (quartzStart (transportsInForce (updRs (fun x => { x with stage := .active }) s1))))
  else s)

/-! ### Boot complete (R357, R358, R374) -/

/-- The profile images of a type 6 part: each preceded by slot number and length (R343). By fuel. -/
def profileSet : Nat → Bytes → List (Nat × Bytes)
  | 0, _ => []
  | n + 1, b =>
    let len := rdN b 4 4
    if b.length < 8 || 3 < rdN b 0 4 || b.length < 8 + len then []
    else (rdN b 0 4, slice b 8 len) :: profileSet n (b.drop (8 + len))

/-- The profile set that the swap brought. -/
def newProfiles (s : State) : List (Nat × Bytes) :=
  match (campOf s s.up.commit.id).bind (fun c => (ownParts c.man).find? (fun p => p.type == 6)) with
  | some p => profileSet 4 (imagePlain p (((imageSlot s 6 (1 - inactive s 6)).map ImageSlot.data).getD []))
  | none => []

/-- The first boot in ACTIVATED: the old-format copies are kept, the profile set is written, and the Rennet commit is recorded (R358). -/
def firstBoot (s : State) : State :=
  if s.up.commit.st = .activated && s.up.old.isNone then
    let old : OldCopies := ⟨s.pf.slots.map (fun cs => cs.map (fun c => (c.gen, c.image, c.good))), s.pf.settings⟩
    let s1 := (newProfiles s).foldl (fun st e =>
      storeCopy ⟨e.1, saveTarget (slotCopies st e.1), saveGen (slotCopies st e.1), e.2, false⟩ true st) s
    rawEvent evRennetCommit 0 (s.up.commit.frame % 2 ^ 32) (updUp (fun u => { u with old := some old }) s1)
  else s

/-- BOOT_COMPLETE (R357, R374): a profile is active and every domain has started; `ms` is the time since the release. -/
def execBootComplete (ms : Nat) (s : State) : Host.Outcome State Fault Refusal :=
  .next (if s.rs.stage = .active && s.gr.running then
    firstBoot (updRs (fun r => { r with stage := .done, failed := 0, counted := false, bootMs := ms, rstout := true }) s)
  else s)

/-- BOOT_TIMEOUT (R374, R375): boot complete, or the end of an L2 restart, is not reached within 10 s. Recovery mode and a boot that a PREPARED record
holds have no such limit (log entry 38). -/
def execBootTimeout (us : Fin 1000) (s : State) : Host.Outcome State Fault Refusal :=
  .next (
    let booting := s.rs.stage == .rom || s.rs.stage == .firmware || s.rs.stage == .active ||
      (s.rs.stage == .lanes && s.up.commit.st != .prepared)
    if booting && elapsed s s.rs.bootAt 10000 then
      let first := !s.rs.counted && !s.rs.restart
      let s1 := if first then happen detBootFailure 0 0 (updRs (fun r => { r with failed := r.failed + 1, counted := true }) s) else s
      assertSource 4 1 us.val s1
    else s)

/-- L2_RESTART_COMPLETE (R375): D5 to D7 restart from the working copy, and the transports open. -/
def execL2RestartComplete (s : State) : Host.Outcome State Fault Refusal :=
  .next (if s.rs.restart && s.rs.stage = .firmware then
    let s1 := transportsInForce (canActivate s (gnssStart (quartzStart s)))
    updRs (fun r => { r with restart := false, stage := .done, rstout := true }) s1
  else s)

end Sys2Proof.Machine
end

