-- ==== Sys2Proof/Machine/Lifecycle.lean ====
section
/-!
DEFINITION. Machine/Lifecycle.lean: STATUS_GET, lifecycle, keys and owner lock (R377 to R382, Table 14-11), and standby (R396 to R399).
-/

namespace Sys2Proof.Machine

/-- IDENT byte 17: lifecycle state and owner lock (Table 1-10). -/
def lifecycleByte (s : State) : Nat := s.rs.lifecycle + 128 * b2n s.rs.ownerLock

/-- The profile as IDENT reports it: none active reads as PS (Table 1-10, R361). -/
def profileByte (s : State) : Nat := if inRecovery s then 16 else s.pf.active

/-- A temperature or other signed 16-bit field. -/
def i16 (x : Int) : Bytes := leI 2 (satI 16 x)

/-- STATUS_GET (Table 14-11). -/
def bodyStatusGet : Body := emptyPayload fun _ s =>
  ans s stOk (u8 (lifecycleByte s) ++ u8 (grModeCode s.gr.mode) ++ u8 (profileByte s) ++ u8 (timeCode s.gn.time.st) ++ u8 s.rs.lastLevel ++
    u8 (b2n s.rs.consTrim) ++ u16 s.rs.lastMask ++ u32 s.ev.pcycle ++ u32 s.ev.opsec ++ u32 s.rs.bootMs ++ u8 (satU 8 s.rs.failed) ++
    u8 s.rs.loadCount ++ zeros 2 ++ u16 s.an.vsup ++ u16 s.an.vbat ++ u16 s.an.keep ++ i16 s.an.temp ++ u32 s.mb.malformed ++
    u32 s.mb.authFails ++ u32 s.mb.discarded ++ u32 s.mb.lockouts ++ u32 s.mb.epoch)

/-- LIFECYCLE_GET byte 5: owner lock, service permitted. -/
def lockByte (s : State) : Nat := b2n s.rs.ownerLock + 2 * b2n s.rs.permit.isSome

/-- Whether a role (1 to 4) has a key in the present state (Table 14-9). -/
def roleKey (s : State) (role : Nat) : Option Bytes := if role = 0 then none else nth s.rs.keys (role - 1) none

/-- LIFECYCLE_GET (Table 14-11). -/
def bodyLifecycleGet : Body := emptyPayload fun _ s =>
  ans s stOk (u8 s.rs.lifecycle ++ u8 (lockByte s) ++
    u8 (maskOf 4 (fun k => (roleKey s (k + 1)).isSome) + 16 * b2n (s.rs.manifestKey.isSome && !s.rs.manifestRevoked)) ++ u8 s.rs.revoked ++
    u32 s.rs.map ++ u8 (b2n (debugPort s)) ++ zeros 3 ++ u32 s.rs.entries)

/-- Whether Table 14-10 has a transition. -/
def inTable (old new : Nat) : Bool :=
  (old == 1 && new == 2) || (old == 2 && new == 3) || (old == 3 && new == 4) || (old == 4 && new == 3) ||
    ((old == 2 || old == 3 || old == 4) && new == 5)

/-- The session and further conditions of a transition (Table 14-10, R380). -/
def transitionMay (role new : Nat) (s : State) : Bool :=
  let old := s.rs.lifecycle
  let permitted := !s.rs.ownerLock || s.rs.permit.isSome
  stationary s && !commitHeld s && s.up.commit.st != .activated &&
    (if new = 5 then (role == 2 || role == 4) && permitted
     else match old with
       | 1 => role == 2 && s.rs.oemOwn
       | 2 => role == 2 && (roleKey s 1).isSome && fnsIdle s
       | 3 => role == 4 && permitted
       | _ => role == 4 || role == 2)

/-- LIFECYCLE_SET TRANSITION: answered OK first, then the steps of R381. -/
def bodyLifecycleSetTransition : Body := withOp 0 1 fun c s =>
  let p := c.payload
  let new := rdN p 4 1
  let map := rdN p 8 4
  let u := rdN p 12 6
  if p.length ≠ 18 || !resZero p 1 3 || !resZero p 5 3 || !inTable s.rs.lifecycle new || (map ≠ 0 && !(s.rs.lifecycle == 2 && new == 3)) ||
      4096 ≤ map || (u ≠ 0 && new ≠ 5) then ans s stBadArg
  else if !transitionMay c.role new s then ans s stRefusedState
  else if new = 5 && u ≠ uid then ans s stValidationFail
  else
    let s1 := closeAll 4 (answer c stOk (u8 new ++ zeros 3) s)
    let s2 := if new = 5 then
        (s1.up.camps.filter (fun x => x.st == .staging || x.st == .staged)).foldl (fun st x => (abortStaging x.man.id 9 st).1) s1
      else s1
    let t : Intent := ⟨new, map⟩
    (finishTransition t (updRs (fun r => { r with intent := some t }) s2), .sent)

/-- Whether a session may provision a key now (R379). -/
def provisionMay (role key : Nat) (s : State) : Bool :=
  let lc := s.rs.lifecycle
  match key with
  | 1 => role == 2 && (lc == 2 || lc == 4 || (lc == 3 && !s.rs.ownerLock))
  | 2 => role == 2 && (lc == 1 || lc == 2)
  | 3 => lc == 3 && (if (roleKey s 3).isSome then role == 3 else role == 2)
  | 4 => role == 2 && lc == 2
  | _ => role == 2 && lc == 2

/-- Every open session of a role is closed, reason 5 (R35, R379). -/
def closeRole (role : Nat) (s : State) : State :=
  (sortBy id ((s.mb.sessions.filter (fun x => x.role == role && x.isOpen)).map Sess.num)).foldl (fun st n => closeSession n 5 st) s

/-- LIFECYCLE_SET PROVISION_KEY. -/
def bodyLifecycleSetProvisionKey : Body := withOp 0 2 fun c s =>
  let p := c.payload
  let key := rdN p 4 1
  if !resZero p 1 3 || !resZero p 5 3 || key = 0 || 5 < key || p.length ≠ (if key = 5 then 104 else 40) then ans s stBadArg
  else if !provisionMay c.role key s then ans s stRefusedState
  else if key = 5 then
    ans (updRs (fun r => { r with manifestKey := some (p.drop 8), manifestRevoked := false }) s) stOk (u8 s.rs.lifecycle ++ zeros 3)
  else
    let s1 := updRs (fun r => { r with keys := r.keys.set (key - 1) (some (p.drop 8)), oemOwn := r.oemOwn || key == 2 }) s
    (closeRole key (answer c stOk (u8 s.rs.lifecycle ++ zeros 3) s1), .sent)

/-- LIFECYCLE_SET REVOKE_KEY: the OEM manifest key, or a Folnimi key but never the last one. -/
def bodyLifecycleSetRevokeKey : Body := withOp 0 3 fun c s =>
  let p := c.payload
  let key := rdN p 4 1
  let bits := maskOr s.rs.revoked (2 ^ (key - 16))
  if p.length ≠ 8 || !resZero p 1 3 || !resZero p 5 3 || !(key = 5 || (16 ≤ key && key ≤ 19)) then ans s stBadArg
  else if key = 5 then
    if ((c.role = 2 && s.rs.lifecycle = 2) || (c.role = 4 && s.rs.lifecycle = 4)) && s.rs.manifestKey.isSome then
      ans (updRs (fun r => { r with manifestRevoked := true }) s) stOk (u8 s.rs.lifecycle ++ zeros 3)
    else ans s stRefusedState
  else if c.role = 4 && s.rs.lifecycle = 4 && bits ≠ 15 then
    ans (updRs (fun r => { r with revoked := bits }) s) stOk (u8 s.rs.lifecycle ++ zeros 3)
  else ans s stRefusedState

/-- An OWNER_LOCK operation: payload, condition, effect (R382). -/
def lockRequest (op : Nat) (may : State → Bool) (act : State → State) : Body := withOp 0 op fun c s =>
  if c.payload.length ≠ 4 || !resZero c.payload 1 3 then ans s stBadArg
  else if !may s then ans s stRefusedState
  else
    let s1 := act s
    ans s1 stOk (u8 (lockByte s1) ++ zeros 3)

/-- OWNER_LOCK SET. -/
def bodyOwnerLockSet : Body := lockRequest 1 (fun s => s.rs.lifecycle == 3) fun s =>
  endOemInjections (rawEvent evOwnerLockSetOrCleared 0 1 (updRs (fun r => { r with ownerLock := true }) s))

/-- OWNER_LOCK CLEAR. -/
def bodyOwnerLockClear : Body := lockRequest 2 (fun s => s.rs.lifecycle == 3 || s.rs.lifecycle == 4) fun s =>
  rawEvent evOwnerLockSetOrCleared 0 0 (updRs (fun r => { r with ownerLock := false }) s)

/-- OWNER_LOCK PERMIT_SERVICE: a window of 600 s. -/
def bodyOwnerLockPermitService : Body := lockRequest 3 (fun s => s.rs.lifecycle == 3 && s.rs.ownerLock) fun s =>
  updRs (fun r => { r with permit := some s.clk.ms }) s

/-- PERMIT_SERVICE_EXPIRY (R382). -/
def execPermitServiceExpiry (s : State) : Host.Outcome State Fault Refusal :=
  .next (if (s.rs.permit.map (fun t => elapsed s t 600000)).getD false then updRs (fun r => { r with permit := none }) s else s)

/-! ### Standby (R396 to R399) -/

/-- The wake parameters as Basalt copies them: PW.WAKE_CFG_1–4, PW.WAKE_DEBOUNCE_1–4, CN.WAKE. -/
def wakeCfg (s : State) : List Nat :=
  (List.range 4).map (fun k => paramN s (pPwWakeCfg k)) ++ (List.range 4).map (fun k => paramN s (pPwWakeDebounce k)) ++ [paramN s pCnWake]

/-- Standby entry at frame N (Table 15-7): Granite stops, the gate supply is removed, sessions are announced closed, pending commands are
discarded, and the copies are made. The rest of its work goes on in the background. -/
def applyStandbyEnter (t : TCmd) (s : State) : State :=
  let mode := rdN t.payload 0 1
  let s1 := closeAll 2 (psGate 16 (updGr (fun g => { g with running := false }) (exchangeGone s)))
  let s2 := quartzCopyCal { s1 with ev := { s1.ev with opsecCopy := s1.ev.opsec }, an := { s1.an with gate := false } }
  let s3 := updPw (fun p => { p with sb := { p.sb with
    ph := .entering, mode, mask := rdN t.payload 1 1, alarm := rdN t.payload 4 8, frame := t.frame, since := s.clk.ms, accepted := false
    cfg := wakeCfg s, lastMode := mode, horizon := some (t.frame - 1) } }) s2
  rawEvent evStandbyEntry 0 mode s3

/-- STANDBY_DOMAINS_OFF (R397): the work is done, or 1,500 ms have passed; the domains go off and Basalt holds L1 with source SWR. -/
def execStandbyDomainsOff (us : Fin 1000) (s : State) : Host.Outcome State Fault Refusal :=
  .next (if s.pw.sb.ph = .entering &&
      ((unflushed s = 0 && s.ev.snapq.isEmpty && s.ev.fixq.isEmpty) || elapsed s s.pw.sb.since 1500) then
    let s1 := micaOff (assertSource 5 1 us.val s)
    updPw (fun p => { p with
      doms := p.doms.zipIdx.map (fun d => if d.2 = 0 then d.1 else .off)
      sb := { p.sb with ph := .asleep, since := s.clk.ms } }) s1
  else s)

/-- Whether a wake source is allowed by the mode and enabled by the mask (Table 15-8). -/
def wakeMay (s : State) (cause : Nat) : Bool :=
  let b := s.pw.sb
  if 1 ≤ cause && cause ≤ 4 then bit b.mask (cause - 1)
  else if cause = 5 then bit b.mask 4 && b.alarm != 0
  else if cause = 6 then b.mode == 2 && (if b.ph = .awake then paramN s pCnWake else nth b.cfg 8 0) == 1
  else if cause = 8 then b.mode == 2 && bit b.mask 5
  else false

/-- STANDBY_WAKE (R398): a wake event after acceptance is latched; in standby for at least 10 ms, the first one latched releases the L1 hold. `ms` is
the time in standby, `rtc` the frame that the RTC gives. Cause 7 is the PIN source and comes as RESET_ASSERT. -/
def execStandbyWake (cause : Fin 9) (ms rtc : Nat) (s : State) : Host.Outcome State Fault Refusal :=
  .next (
    let on := s.pw.sb.accepted || s.pw.sb.ph ≠ .awake
    let s1 := if on && wakeMay s cause.val then updPw (fun p => { p with sb := { p.sb with latched := p.sb.latched ++ [cause.val] } }) s else s
    match s1.pw.sb.latched with
    | c :: _ =>
      if s1.pw.sb.ph = .asleep && 10 ≤ ms then
        let s2 := updPw (fun p => { p with sb := { p.sb with ph := .awake, latched := [], wakeCause := c, wakeFrame := rtc } }) s1
        proceed (updRs (fun r => { r with asserted := r.asserted.filter (fun a => a.1 != 5) }) s2)
      else s1
    | [] => s1)

end Sys2Proof.Machine
end

