-- ==== Sys2Proof/Machine/Live.lean ====
section
/-!
DEFINITION. Machine/Live.lean: the live-status items (R445, Table 12-10), each read from the status command that the table names as its
source, and the items of a snapshot record (R321).
-/

namespace Sys2Proof.Machine

/-- The bytes of a status command's response, from byte 0. -/
def statusOut (body : Body) (payload : Bytes) (s : State) : Bytes :=
  match (body { binding := ⟨.uart, 0, 0, 0⟩, session := 0, seq := 0, era := 0, code := 0, role := 0, payload, arrival := s.clk.frame } s).2 with
  | .done _ out => zeros 4 ++ out
  | .wait _ | .sent => []

/-- The value of a type code at an offset. -/
def fieldAt (b : Bytes) (ty off : Nat) : Int := if typeSigned ty then rdI b off (typeBytes ty) else (rdN b off (typeBytes ty) : Nat)

/-- The state code of a function (Table 12-10). -/
def fnCode (st : FnSt) : Nat := match st with | .disabled => 1 | .enabled => 2 | .ramp => 3 | .safe => 4

/-- The state code of UPDATE_STATUS (Table 13-9). -/
def upCode (st : UpSt) : Nat :=
  match st with | .idle => 1 | .staging => 2 | .staged => 3 | .prepared => 4 | .committing => 5 | .activated => 6

/-- Items of the mailbox and of profiles. -/
def live0102 (ss item : Nat) (s : State) : Int :=
  match ss, item with
  | 1, 1 => s.mb.malformed
  | 1, 2 => s.mb.authFails
  | 1, 3 => s.mb.discarded
  | 1, 4 => s.mb.lockouts
  | 1, _ => s.mb.sessions.length
  | _, 1 => s.pf.active
  | _, 2 => s.pf.source
  | _, 3 => b2n s.pf.modified
  | _, 4 => s.pf.crc
  | _, _ => s.pf.since

/-- Items of Granite. -/
def live03 (ty item inst : Nat) (s : State) : Int :=
  let off := nth [4, 5, 6, 8, 16, 20, 24, 28, 32, 36, 40, 44] (item - 1) 4
  if item ≤ 12 then fieldAt (statusOut bodyGrStatus [] s) ty off
  else if item ≤ 19 then fieldAt (statusOut bodyLaneStatus [] s) ty (4 + 24 * (inst - 1) + nth [0, 1, 2, 4] (item - 16) 0)
  else if item = 24 then fnCode (fnOf s inst).st
  else (fnOf s inst).out

/-- Items of Quartz and of crop flow. -/
def live0405 (ss ty item inst : Nat) (s : State) : Int :=
  if ss = 4 then
    if item ≤ 4 then fieldAt (statusOut bodyQzStatus [1, 1, 0, 0] s) ty (nth [4, 6, 8, 12] (item - 1) 4)
    else fieldAt (qzStatusEntry s (inst - 1)) ty (nth [1, 2, 3, 4, 8, 14, 20] (item - 16) 1)
  else if item ≤ 10 then fieldAt (statusOut bodyCfStatus [] s) ty (nth [4, 8, 12, 18, 24, 27, 28, 36, 38, 52] (item - 1) 4)
  else if item = 16 then (groupPlates s inst).1.length
  else (groupPlates s inst).2.length

/-- Items of the valve drive and of the load switches. -/
def live0607 (ss ty item inst : Nat) (s : State) : Int :=
  if ss = 6 then
    if item ≤ 4 then fieldAt (statusOut bodyVdStatus [] s) ty (nth [4, 6, 8, 10] (item - 1) 4)
    else fieldAt (vdStatusEntry s (inst - 1)) ty (nth [2, 3, 4, 6, 18, 20, 22, 24] (item - 16) 2)
  else if item ≤ 5 then fieldAt (statusOut bodyLsStatus [1, 1, 0, 0] s) ty (nth [4, 8, 12, 16, 20] (item - 1) 4)
  else fieldAt (lsStatusEntry s (inst - 1)) ty (nth [2, 3, 4, 6, 8, 10, 20] (item - 16) 2)

/-- Items of GNSS, of the fabric and of the CAN ports. -/
def live080A (ss ty item inst : Nat) (s : State) : Int :=
  if ss = 8 then
    let b := statusOut bodyGnStatus [] s
    if item ≤ 10 then fieldAt b ty (nth [4, 5, 6, 12, 50, 51, 24, 25, 26, 27] (item - 1) 4)
    else if item = 16 then fieldAt b ty (17 + inst)
    else fieldAt b ty (18 + 2 * inst)
  else if ss = 9 then
    if item ≤ 7 then fieldAt (statusOut bodyFbStatus [] s) ty (nth [4, 16, 20, 24, 38, 40, 44] (item - 1) 4)
    else fieldAt (portEntry s (inst - 1)) ty (nth [0, 2, 10, 12] (item - 16) 0)
  else fieldAt (canEntry (canPort s (inst - 1))) ty (item - 16)

/-- Items of Mica and storage, of the recorder and of the update. -/
def live0B0D (ss ty item : Nat) (s : State) : Int :=
  match ss, item with
  | 11, 4 => fieldAt (statusOut bodyStoreStatus [] s) ty 4
  | 11, 5 => fieldAt (statusOut bodyStoreStatus [] s) ty 32
  | 11, n => fieldAt (statusOut bodyMcStatus [] s) ty (4 * n)
  | 12, 1 => s.ev.nextRseq
  | 12, 2 => s.ev.fixed.length
  | 12, 3 => s.ev.snaps.length
  | 12, 4 => s.ev.drops
  | 12, _ => (s.ev.injs.filter Inj.started).length
  | _, 1 => upCode (((s.up.camps.getLast?).map Camp.st).getD .idle)
  | _, 2 => ((s.up.camps.getLast?).map Camp.result).getD 0
  | _, 3 => s.up.secMin
  | _, _ => s.rs.failed

/-- Items of reset and power, of the panel and of the self-test. -/
def live0E10 (ss ty item inst : Nat) (s : State) : Int :=
  if ss = 14 then
    match item with
    | 6 => s.rs.lastLevel
    | 7 => b2n s.rs.consTrim
    | 8 => s.rs.loadCount
    | 16 => fieldAt (statusOut bodyPowerStatus [] s) ty (92 + 4 * (inst - 1))
    | 17 => fieldAt (statusOut bodyPowerStatus [] s) ty (94 + 4 * (inst - 1))
    | 24 => ((s.an.ains[inst - 1]?).map AinChan.raw).getD 0
    | n => fieldAt (statusOut bodyPowerStatus [] s) ty (nth [4, 6, 8, 10, 20] (n - 1) 4)
  else if ss = 15 then
    fieldAt (statusOut bodySpStatus [] s) ty (if item = 16 then 48 + 4 * (inst - 1) else nth [4, 5, 6, 8, 10] (item - 1) 4)
  else if item = 1 then s.ev.probed
  else s.ev.probeFailed

/-- The present value of a live-status item of a row and instance (R445). -/
def liveValue (r : LiveRow) (inst : Nat) (s : State) : Int :=
  if r.ss ≤ 2 then live0102 r.ss r.item s
  else if r.ss = 3 then live03 r.ty r.item inst s
  else if r.ss ≤ 5 then live0405 r.ss r.ty r.item inst s
  else if r.ss ≤ 7 then live0607 r.ss r.ty r.item inst s
  else if r.ss ≤ 10 then live080A r.ss r.ty r.item inst s
  else if r.ss ≤ 13 then live0B0D r.ss r.ty r.item s
  else live0E10 r.ss r.ty r.item inst s

/-- The ID of a live-status item (R445). -/
def liveId (r : LiveRow) (inst : Nat) : Nat := 16777216 * r.ss + 0xFF0000 + 256 * inst + r.item

/-- The value of a live-status ID. -/
def liveOf (id : Nat) (s : State) : Option Int := (liveRow id).map (fun r => liveValue r (id / 256 % 256) s)

/-- The instance kind that a detector or an event of Table 12-7 names (R318); none where it names nothing or a bank. -/
def namedInst (code : Nat) : Option LiveInst :=
  match code / 256 with
  | 3 => if code = detFunctionFallbackByCause || code = detStaleOrImplausibleFeedback then some .function else some .lane
  | 4 => some .quartz
  | 5 => if code = detLossGroupUncovered then some .role else none
  | 6 => if code = detBankShortToGround || code = detBankShortToBattery then none else some .valve
  | 7 => some .load
  | 8 => if code ≤ detAntennaOvervoltage then some .antenna else none
  | 9 => if code ≤ detLinkDegraded then some .fabricPort else none
  | 10 => some .canPort
  | 14 => if code = detSensorSupplyFault then some .supply else if code = detAnalogInputOutOfRange then some .ain else none
  | 15 => some .segment
  | _ => none

/-- The items of a snapshot record for a code and an instance, in ascending ID, and those that EV.SNAP names while places last
(R321, R445). -/
def snapItems (code inst : Nat) (s : State) : List (Nat × Bytes) :=
  let rows := liveRows.filter (fun r => r.ss == code / 256)
  let whole := (rows.filter (fun r => r.inst == .whole)).map (fun r => (liveId r 0, slotOf (liveValue r 0 s)))
  let per := if inst = 0 then [] else
    (rows.filter (fun r => some r.inst == namedInst code && decide (inst ≤ r.count))).map (fun r => (liveId r inst, slotOf (liveValue r inst s)))
  let named := ((List.range 16).map (fun k => paramN s (pEvSnap (16 * (code / 256) + k)))).filterMap (fun id =>
    if id = 0 then none
    else if (paramRow id).isSome then some (id, slotOf (param s id))
    else (liveOf id s).map (fun v => (id, slotOf v)))
  (whole ++ per ++ named).take 36

end Sys2Proof.Machine
end

