-- ==== Sys2Proof/Machine/Events.lean ====
section
/-!
DEFINITION. Machine/Events.lean: the writing of records, their victims and archive, the stamps of Basalt, and the event and injection commands
(R320 to R337).
-/

namespace Sys2Proof.Machine

/-- The state with its recorder changed. -/
def updEv (f : Events → Events) (s : State) : State := { s with ev := f s.ev }

/-! ### Records (R320, R322, R325 to R327) -/

/-- A snapshot record, whole (Tables 12-1 and 12-3). -/
def snapBytes (r : EvRec) : Bytes :=
  let b := snapHead r ++ (r.items.map (fun i => u32 i.1 ++ i.2)).flatten
  b ++ u16 (crc16 b) ++ u8 0 ++ u8 0xA5

/-- A record, whole. -/
def recBytes (r : EvRec) : Bytes := if isFixedCode r.code then fixedBytes r else snapBytes r

/-- Whether a code's records are RETAINED (Table 12-7). -/
def isRetained (code : Nat) : Bool := code == evEventsCleared || code == evLifecycleChange || code == evOwnerLockSetOrCleared

/-- The record that an occurrence makes. -/
def recOf (rseq : Nat) (o : Occ) (items : List (Nat × Bytes)) : EvRec :=
  { rseq, code := o.code, inst := o.inst, lateSnap := o.late && !isFixedCode o.code, retained := isRetained o.code, timeEst := o.timeEst,
    active := o.lasting, injected := o.injected, frame := o.frame, last := o.frame, opsec := o.opsec, pcycle := o.pcycle, data := o.data,
    repeats := 1, items }

/-- Records that an area holds at most. -/
def areaCap (fixed : Bool) : Nat := if fixed then 32768 else 15018

/-- The oldest record of the lowest severity not above a bound, among those that meet a test. -/
def lowestOf (sev : Nat) (p : EvRec → Bool) (area : List EvRec) : Option EvRec :=
  (area.filter (fun r => p r && decide (severityOf r.code ≤ sev))).foldl (fun best r =>
    match best with
    | none => some r
    | some b => if severityOf r.code < severityOf b.code then some r else best) none

/-- The record that a new one of some severity takes the place of (R327). -/
def victim (sev : Nat) (area : List EvRec) : Option EvRec :=
  let free := area.filter (fun r => !r.retained)
  match free.find? EvRec.injected with
  | some r => some r
  | none =>
    match lowestOf sev (fun r => !r.active) free with
    | some r => some r
    | none =>
      match lowestOf sev EvRec.active free with
      | some r => some r
      | none => if free.isEmpty then area.head? else none

/-- A record goes to the archive of its area (R326). -/
def archiveRec (r : EvRec) (s : State) : State :=
  updEv (fun e => if isFixedCode r.code then { e with archivePriv := e.archivePriv ++ [r] } else { e with archive := e.archive ++ [r] }) s

/-- The area of a code. -/
def areaOf (s : State) (fixed : Bool) : List EvRec := if fixed then s.ev.fixed else s.ev.snaps

/-- The area of a code changed. -/
def updArea (fixed : Bool) (f : List EvRec → List EvRec) (s : State) : State :=
  updEv (fun e => if fixed then { e with fixed := f e.fixed } else { e with snaps := f e.snaps }) s

/-- A new record takes the next RSEQ; EVENT tells the subscribers. -/
def putRec (r : EvRec) (s : State) : State :=
  let fixed := isFixedCode r.code
  notifyEvent r (updEv (fun e =>
      if fixed then { e with nextRseq := e.nextRseq + 1, fullFixed := false } else { e with nextRseq := e.nextRseq + 1, fullSnap := false })
    (updArea fixed (fun a => a ++ [r]) s))

/-- An occurrence for which no record makes room: it is dropped and counted, and the area-full detector reports once per episode. -/
def dropOcc (fixed : Bool) (s : State) : State :=
  let full := if fixed then s.ev.fullFixed else s.ev.fullSnap
  let s1 := updEv (fun e =>
    if fixed then { e with lostFixed := wrapU 32 (e.lostFixed + 1), fullFixed := true }
    else { e with lostSnap := wrapU 32 (e.lostSnap + 1), fullSnap := true }) s
  if full then s1 else happen detRecorderAreaFull 0 (if fixed then 2 else 1) s1

/-- A new record of an occurrence: a free slot, or a victim's (R327). -/
def newRec (o : Occ) (s : State) : State :=
  let fixed := isFixedCode o.code
  let r := recOf s.ev.nextRseq o (if fixed then [] else snapItems o.code o.inst s)
  if forced s detRecorderAreaFull 0 then dropOcc fixed s
  else if (areaOf s fixed).length < areaCap fixed then putRec r s
  else match victim (severityOf o.code) (areaOf s fixed) with
    | some v => putRec r (updArea fixed (fun a => a.filter (fun x => x.rseq != v.rseq)) (archiveRec v s))
    | none => dropOcc fixed s

/-- An occurrence is merged or written (R325). -/
def writeOcc (o : Occ) (s : State) : State :=
  match mergeTarget s (areaOf s (isFixedCode o.code)) o with
  | some r => recChanged r.rseq (updArea (isFixedCode o.code) (updRec r.rseq (mergeInto o)) s)
  | none => newRec o s

/-- The next record of a queue: among the occurrences of detectors at its front with one frame the lowest detector and instance (R324); an event of
Table 12-7 keeps its place. With the queue's rest. -/
def nextOcc (q : List Occ) : Option (Occ × List Occ) :=
  match q with
  | [] => none
  | o :: rest =>
    if (detRow o.code).isNone then some (o, rest)
    else
      let same := (q.takeWhile (fun x => x.frame == o.frame && x.pcycle == o.pcycle && (detRow x.code).isSome)).zipIdx
      let best := same.foldl (fun b x => if x.1.code * 256 + x.1.inst < b.1.code * 256 + b.1.inst then x else b) (o, 0)
      some (best.1, q.eraseIdx best.2)

/-- How often the verification of an MRAM write found a mismatch (R315): the first is written once more and counted, the second is recorded. -/
def mramVerify (misses : Nat) (s : State) : State :=
  let s1 := if misses = 0 then s else { s with mc := { s.mc with mramRetries := wrapU 32 (s.mc.mramRetries + 1) } }
  if misses = 2 then happen detMramWriteFailure 0 0 s1 else s1

/-- FIXED_RECORD_WRITE (R315, R322, R323): D12's writer takes the next occurrence of its queue; `misses` counts the mismatches of the write. -/
def execFixedRecordWrite (misses : Fin 3) (s : State) : Host.Outcome State Fault Refusal :=
  .next (if domOf s 12 = .on || domOf s 12 = .reduced then
      match nextOcc s.ev.fixq with
      | some (o, rest) => mramVerify misses.val (writeOcc o (updEv (fun e => { e with fixq := rest }) s))
      | none => s
    else s)

/-- SNAPSHOT_QUEUE_WRITE (R315, R321, R323): the supervisor writes the next queued occurrence; items are taken now. -/
def execSnapshotQueueWrite (misses : Fin 3) (s : State) : Host.Outcome State Fault Refusal :=
  .next (if s.rs.supUp && !inRecovery s then
      match nextOcc s.ev.snapq with
      | some (o, rest) => mramVerify misses.val (writeOcc o (updEv (fun e => { e with snapq := rest }) s))
      | none => s
    else s)

/-- EVENT_COMPACTION (R326, Table 11-6): one record moves toward the lowest slots; no record changes, and the activity has been served. -/
def execEventCompaction (s : State) : Host.Outcome State Fault Refusal := .next (if churnOn s then serve 6 s else s)

/-- OPSEC_COUNT (R324): a second in which any of D1 to D12 is powered; the count is copied to MRAM every 60 s. -/
def execOpsecCount (s : State) : Host.Outcome State Fault Refusal :=
  .next (if s.rs.stage ≠ .cold && (s.pw.doms.drop 1).any (fun d => d == .on || d == .reduced || d == .reset) then
    let n := wrapU 32 (s.ev.opsec + 1)
    updEv (fun e => if 59 ≤ e.opsecFrac then { e with opsec := n, opsecFrac := 0, opsecCopy := n }
      else { e with opsec := n, opsecFrac := e.opsecFrac + 1 }) s
  else s)

/-! ### Reading and clearing (R328, R330, Table 12-8) -/

/-- As many leading records as fit a count and a response of 64 fragments (R19). -/
def takeRecs (n : Nat) (rs : List EvRec) : List EvRec :=
  rs.take (fitting n 65520 (rs.map recBytes)).length

/-- EV_READ and EV_READ_PRIV over an area and its archive. -/
def evRead (area archive : State → List EvRec) : Body := fun c s =>
  let p := c.payload
  let src := rdN p 0 1
  let first := rdN p 4 4
  let n := rdN p 8 2
  if p.length ≠ 12 || (src ≠ 1 && src ≠ 2) || 3 < rdN p 1 1 || 1 < rdN p 3 1 || n = 0 || 1000 < n || !resZero p 10 2 then ans s stBadArg
  else
    let all := sortBy EvRec.rseq (if src = 1 then area s else archive s)
    let hits := all.filter (fun r => decide (first ≤ r.rseq) && decide (rdN p 1 1 ≤ severityOf r.code) &&
      (rdN p 2 1 == 255 || rdN p 2 1 == r.code / 256) && (!r.injected || rdN p 3 1 == 1))
    let got := takeRecs n hits
    let next := match (hits.drop got.length).head? with
      | some r => r.rseq
      | none => s.ev.nextRseq
    ans s stOk (u16 got.length ++ zeros 2 ++ u32 next ++ (got.map recBytes).flatten)

/-- EV_READ. -/
def bodyEvRead : Body := evRead (fun s => s.ev.snaps) (fun s => s.ev.archive)

/-- EV_READ_PRIV. -/
def bodyEvReadPriv : Body := evRead (fun s => s.ev.fixed) (fun s => s.ev.archivePriv)

/-- Records of an area for each severity. -/
def sevCounts (area : List EvRec) : Bytes :=
  ((List.range 4).map (fun k => u16 (area.filter (fun r => severityOf r.code == k)).length)).flatten

/-- The oldest RSEQ of an area, 0 when it is empty. -/
def oldestRseq (area : List EvRec) : Nat := ((sortBy EvRec.rseq area).head?.map EvRec.rseq).getD 0

/-- EV_COUNT. -/
def bodyEvCount : Body := emptyPayload fun _ s =>
  let e := s.ev
  ans s stOk (u32 e.nextRseq ++ u32 (oldestRseq e.fixed) ++ u32 (oldestRseq e.snaps) ++ u32 e.fixed.length ++ u32 e.snaps.length ++
    sevCounts e.snaps ++ sevCounts e.fixed ++ u32 e.lostFixed ++ u32 e.lostSnap ++ u32 e.drops ++
    u32 (e.archive.length + e.archivePriv.length) ++ u8 (e.injs.filter Inj.started).length ++ zeros 3)

/-- EV_CLEAR: the records leave for the archive, and record 0x0C81 is written at once (R330). -/
def bodyEvClear : Body := fun c s =>
  let p := c.payload
  let area := rdN p 0 1
  let sub := rdN p 1 1
  let fixed := area == 2
  if p.length ≠ 8 || (area ≠ 1 && area ≠ 2) || !resZero p 2 2 then ans s stBadArg
  else if fixed && c.role = 2 then ans s stNotAuth
  else if (fixed && !inService s) || (!fixed && c.role = 2 && s.rs.ownerLock) then ans s stRefusedState
  else
    let goes := fun (r : EvRec) => decide (r.rseq ≤ rdN p 4 4) && (sub == 255 || sub == r.code / 256) && !r.retained
    let gone := (areaOf s fixed).filter goes
    let s1 := updArea fixed (fun a => a.filter (fun r => !goes r)) (gone.foldl (fun st r => archiveRec r st) s)
    let rseq := s1.ev.nextRseq
    ans (newRec (occNow s1 evEventsCleared 0 (c.role + 256 * area + 65536 * satU 16 gone.length) false) s1) stOk
      (u32 gone.length ++ u32 rseq)

/-! ### Injections (R331 to R336) -/

/-- The instances that a detector has (R318); 0 for one that names nothing. -/
def detInsts (id : Nat) : List Nat :=
  let upTo := fun n => (List.range n).map (· + 1)
  match id / 256 with
  | 2 => if id = detProfileActivationFailure || id = detProfileCopyIntegrityFailure then upTo 4 else [0]
  | 3 => if id = detFunctionFallbackByCause || id = detStaleOrImplausibleFeedback then upTo 30
    else if id = detFrameOverrun || id = detTwoLaneSafeState then [0] else upTo 3
  | 4 => if id = detRawCapturePreempted then [0] else upTo 32
  | 5 => if id = detBridgeExcitationFault || id = detBridgeSignalOutOfRange then upTo 6
    else if id = detMoistureCellInvalid then upTo 2 else if id = detLossGroupUncovered then upTo 3 else [0]
  | 6 => if id ≤ detBoostCapacitorDegraded then [0]
    else if id = detBankShortToGround || id = detBankShortToBattery then upTo 4 else upTo 12
  | 7 => if id = detAggregateVbatCurrent || id = detOutputStageBudgetExceeded then [0] else upTo 24
  | 8 => if id ≤ detAntennaOvervoltage then upTo 2 else [0]
  | 9 => if id ≤ detLinkDegraded then upTo 4 else [0]
  | 10 => upTo 4
  | 14 => if id = detSensorSupplyFault then upTo 6 else if id = detAnalogInputOutOfRange then upTo 40 else [0]
  | 15 => if id = detSegmentDriverFault then upTo 49 else if id = detPanelDcLedgerOutOfBalance then upTo 48 else [0]
  | _ => [0]

/-- Whether a detector acts on a lane: kind LANE, or ECC on a lane. -/
def onLane (r : DetRow) : Bool := r.kind == .lane || (r.kind == .ecc && r.id / 256 == 3)

/-- Whether a value lies in the range of its kind (Table 12-4, R336). -/
def injValueOk (r : DetRow) (v : Nat) : Bool :=
  match r.kind with
  | .cmp => v == 1
  | .val => true
  | .ecc => v / 2 % 2 ^ 31 == 0 && (r.id / 256 == 3 || decide (v / 2 ^ 32 < 67108864))
  | .lane => r.id == detLaneWatchdog || decide (v < 64)
  | .msg => decide (1 ≤ v && v ≤ 65535)
  | .fw | .record => decide (v < 2 ^ 32)

/-- The request's fields: detector, instance, mode, duration, value; none for an invalid payload (R336). -/
def injFields (p : Bytes) : Option (DetRow × Nat × Nat × Nat × Nat) :=
  let mode := rdN p 3 1
  let dur := rdN p 4 4
  match detRow (rdN p 0 2) with
  | none => none
  | some r =>
    if p.length = 16 && (detInsts r.id).contains (rdN p 2 1) && 1 ≤ mode && mode ≤ 3 &&
        (if mode = 2 then decide (1 ≤ dur && dur ≤ 600000) else dur == 0) && injValueOk r (rdN p 8 8) then
      some (r, rdN p 2 1, if onLane r || r.kind == .ecc then 1 else mode, dur, rdN p 8 8)
    else none

/-- The lowest free handle, 1 to 16. -/
def freeHandle (s : State) : Nat :=
  (((List.range 16).map (· + 1)).find? (fun h => !s.ev.injs.any (fun i => i.handle == h))).getD 0

/-- The conditions of R332. -/
def injectCheck (c : Ctx) (s : State) : Option (Nat × Bytes) :=
  match injFields (c.payload.drop 12) with
  | none => some (stBadArg, [])
  | some (r, inst, _, _, _) =>
    let oem := c.role == 2 && paramN s pDgInjectOem == 1 && !s.rs.ownerLock && stationary s
    if !(inService s || oem) || (r.id = detTwoLaneSafeState && !inService s) || (onLane r && s.gr.mode != .triple) then some (stRefusedState, [])
    else if s.ev.injs.any (fun i => i.det == r.id && i.inst == inst) then some (stBusy, [])
    else if 16 ≤ s.ev.injs.length then some (stNoResource, [])
    else none

/-- INJECT: the injection is held until its frame of application. -/
def bodyInject : Body := timedBody injectCheck fun c t s =>
  match injFields t.payload with
  | none => (s, [])
  | some (r, inst, mode, dur, v) =>
    let h := freeHandle s
    (updEv (fun e => { e with injs := e.injs ++ [⟨h, r.id, inst, mode, dur, v, c.session, c.role, t.frame, false, 0⟩] }) s,
      u8 h ++ zeros 3 ++ u64 t.frame)

/-- An injection's frame of application: it starts, with record 0x1080 (R333). Kind REC makes its record at once. -/
def applyInject (t : TCmd) (s : State) : State :=
  match s.ev.injs.find? (fun i => !i.started && i.det == rdN t.payload 0 2 && i.inst == rdN t.payload 2 1 && i.session == t.session) with
  | none => s
  | some i =>
    let s1 := updEv (fun e => { e with injs := e.injs.map (fun j => if j.handle = i.handle then { j with started := true, frame := s.clk.frame } else j)
                                       fixq := e.fixq ++ [occNow s evInjectionStart 0 (injData i) false] }) s
    if ((detRow i.det).map DetRow.kind) = some .record then happen i.det i.inst i.value s1 else s1

/-- The remaining time of the holds goes down by a frame. -/
def injectionsFrame (s : State) : State :=
  updEv (fun e => { e with injs := e.injs.map (fun i =>
    if i.started && i.mode == 2 && decide (i.frame < s.clk.frame) then { i with left := i.left - 1 } else i) }) s

/-- INJECTION_END (R333): a hold's duration has expired. -/
def execInjectionEnd (handle : Fin 17) (s : State) : Host.Outcome State Fault Refusal :=
  .next (if s.ev.injs.any (fun i => i.handle == handle.val && i.started && i.mode == 2 && i.left == 0) then endInjection handle.val s else s)

/-- INJECT_CLEAR. -/
def bodyInjectClear : Body := fun c s =>
  let h := rdN c.payload 0 1
  if c.payload.length ≠ 4 || !resZero c.payload 1 3 || !(h = 255 || (1 ≤ h && h ≤ 16)) then ans s stBadArg
  else
    let goes := fun (i : Inj) => h == 255 || i.handle == h
    ans (endInjections goes s) stOk (u8 (s.ev.injs.filter goes).length)

/-- INJECT_LIST. -/
def bodyInjectList : Body := emptyPayload fun _ s =>
  let is := sortBy Inj.handle s.ev.injs
  ans s stOk (u8 is.length ++ zeros 3 ++ (is.map (fun i =>
    u8 i.handle ++ u8 i.mode ++ u16 i.det ++ u8 i.inst ++ u8 0 ++ u16 i.session ++ u64 i.frame ++
      u32 (if i.mode = 2 then i.left else 0xFFFFFFFF) ++ u32 i.count)).flatten)

/-- The detectors that a SELFTEST of a subsystem probes (R335). -/
def probes (s : State) (sub : Nat) : List DetRow :=
  detRows.filter (fun r => (sub == 255 || r.id / 256 == sub) && r.id != detSelfTestDetectorFailure && !(onLane r && s.gr.mode != .triple))

/-- Which of the detectors probed do not respond is free (log entry 40). -/
def probeAll : List DetRow → State → List Nat × State
  | [], s => ([], s)
  | r :: rs, s =>
    let q := freshBool s
    let t := probeAll rs q.2
    (if q.1 then r.id :: t.1 else t.1, t.2)

/-- SELFTEST. -/
def bodySelftest : Body := fun c s =>
  if c.payload.length ≠ 4 || !resZero c.payload 1 3 then ans s stBadArg
  else if !inService s || !inPs s || !stationary s then ans s stRefusedState
  else
    let ps := probes s (rdN c.payload 0 1)
    let q := probeAll ps s
    let s1 := updEv (fun e => { e with probed := ps.length, probeFailed := q.1.length }) q.2
    ans (q.1.foldl (fun st id => happen detSelfTestDetectorFailure 0 id st) s1) stOk
      (u16 ps.length ++ u16 q.1.length ++ ((q.1.take 64).map u16).flatten)

end Sys2Proof.Machine
end

