-- ==== Sys2Proof/Machine/Io.lean ====
section
/-!
DEFINITION. Machine/Io.lean: the analog, digital, frequency, bridge and moisture inputs and the Sensors part of the record (R78, R141, R142,
R433, R434, Table 18-7).
-/

namespace Sys2Proof.Machine

/-- A number as a 32-bit DATA field. -/
def data32 (v : Int) : Nat := (v % (2 ^ 32 : Nat)).toNat

/-- The mode in which the active profile declares an AIN channel: 0 not at all, 1 voltage, 2 current (R433). -/
def ainMode (s : State) (ch : Nat) : Nat :=
  if (sensOf s 2 (ch + 1)).isSome then 2 else if (sensOf s 1 (ch + 1)).isSome then 1 else 0

/-- An AIN channel with nothing read. -/
def ain0 : AinChan := ⟨0, 0, 0, none⟩

/-- One AIN channel. -/
def ainOf (s : State) (ch : Nat) : AinChan := nth s.an.ains ch ain0

/-- The state with one AIN channel changed. -/
def updAin (ch : Nat) (f : AinChan → AinChan) (s : State) : State := { s with an := { s.an with ains := updAt s.an.ains ch f } }

/-- The mean of the four conversions, halves rounded up (R433); a current lies in 0–25,000 µA. -/
def ainRaw (mode : Nat) (cs : List Int) : Int :=
  let m := Int.fdiv (cs.sum + 2) 4
  if mode = 2 then clampI 0 25000 m else m

/-- The frames in a row in which a condition has held. -/
def counted (n : Nat) (cond : Bool) : Nat := if cond then satU 16 (n + 1) else 0

/-- One AIN channel at a cut-off: raw value and the counts of R434; an input back in range ends its condition. An injected value stands in the
record too (R333). -/
def ainCutoff (ch : Nat) (cs : List Int) (s : State) : State :=
  let mode := ainMode s ch
  let x := ainOf s ch
  if mode = 0 then detect detAnalogInputOutOfRange (ch + 1) false 0 (updAin ch (fun x => { x with low := 0, above := 0 }) s)
  else if domOf s 10 != .on || x.openAt.isSome then s
  else
    let v := measured s detAnalogInputOutOfRange (ch + 1) (ainRaw mode cs)
    let raw := if mode = 2 then clampI 0 25000 v else v
    let low := counted x.low (mode == 2 && decide (v < 1000))
    let above := counted x.above (mode == 1 && (decide (v < -1000) || decide (32000 < v)))
    let s1 := updAin ch (fun y => { y with raw, low, above }) s
    if low = 0 && above = 0 && decide (v ≤ 25000 ∨ mode = 1) then detect detAnalogInputOutOfRange (ch + 1) false 0 s1 else s1

/-- AIN_OUT_OF_RANGE (R434): above 25,000 µA for 1 ms the shunt opens; an open loop after 100 frames; an over-range after 10. -/
def execAinOutOfRange (ch : Fin 40) (raw : Int) (us : Nat) (s : State) : Host.Outcome State Fault Refusal :=
  let mode := ainMode s ch.val
  let x := ainOf s ch.val
  let v := measured s detAnalogInputOutOfRange (ch.val + 1) raw
  .next (if domOf s 10 != .on then s
    else if mode = 2 && x.openAt.isNone && 25000 < v && 1000 ≤ us then
      beginCond detAnalogInputOutOfRange (ch.val + 1) (data32 v) (updAin ch.val (fun y => { y with openAt := some s.clk.ms, low := 0 }) s)
    else if 100 ≤ x.low || 10 ≤ x.above then beginCond detAnalogInputOutOfRange (ch.val + 1) (data32 v) s
    else s)

/-- AIN_SHUNT_RECLOSE (R434): 1,000 ms after it opened the shunt is connected again. -/
def execAinShuntReclose (ch : Fin 40) (s : State) : Host.Outcome State Fault Refusal :=
  .next (match (ainOf s ch.val).openAt with
    | some t => if elapsed s t 1000 then updAin ch.val (fun y => { y with openAt := none }) s else s
    | none => s)

/-- The frequency in mHz of a period in CLK_PER cycles (R433). -/
def fqValue (p : Nat) : Nat := if p = 0 then 0 else (125000000 * 1000 + p / 2) / p

/-- One FQ channel. -/
def fqOf (s : State) (ch : Nat) : FqChan := nth s.an.fqs ch ⟨0, false, 0⟩

/-- The state with one FQ channel changed. -/
def updFq (ch : Nat) (f : FqChan → FqChan) (s : State) : State := { s with an := { s.an with fqs := updAt s.an.fqs ch f } }

/-- One FQ channel at a cut-off. -/
def fqCutoff (ch : Nat) (p : Option Nat) (s : State) : State :=
  match p with
  | none => s
  | some n => updFq ch (fun x => ⟨if n = 0 then x.raw else fqValue n, if n = 0 then x.still else false, s.clk.ms⟩) s

/-- FQ_EDGE_TIMEOUT (R433): 2,000 ms without an edge: the raw value is 0 and fresh. -/
def execFqEdgeTimeout (ch : Fin 24) (s : State) : Host.Outcome State Fault Refusal :=
  .next (if domOf s 10 == .on && elapsed s (fqOf s ch.val).edge 2000 then updFq ch.val (fun x => { x with raw := 0, still := true }) s else s)

/-- BRIDGE_EXCITATION_FAULT (R141, Table 18-7): the current in limit, or below 1 mA, for 10 ms, or reverse. The condition ends when none holds. -/
def execBridgeExcitationFault (ch : Fin 6) (ma : Int) (limit : Bool) (ms : Nat) (s : State) : Host.Outcome State Fault Refusal :=
  .next (if domOf s 10 != .on then s
    else detect detBridgeExcitationFault (ch.val + 1)
      (forcedFor s detBridgeExcitationFault (ch.val + 1) 10 || (limit && decide (10 ≤ ms)) || decide (ma < 0) || (decide (ma < 1) && decide (10 ≤ ms))) 0 s)

/-- The raw value of a bridge: the sum of the last 16 samples shifted right by 4 (R141). -/
def bridgeRaw (xs : List Int) : Int := Int.fdiv xs.sum 16

/-- Whether a bridge code lies at the end of its range of ±8.0 mV/V (DEDUCED from Table 18-7). -/
def bridgeOut (v : Int) : Bool := decide (v ≤ -8388608) || decide (8388607 ≤ v)

/-- The bridge-signal detector of a declared bridge with a new sample. -/
def bridgeCutoff (ch : Nat) (xs : List Int) (s : State) : State :=
  if xs.isEmpty || (sensOf s 5 (ch + 1)).isNone then s
  else
    let v := measured s detBridgeSignalOutOfRange (ch + 1) (bridgeRaw xs)
    detect detBridgeSignalOutOfRange (ch + 1) (bridgeOut v) (data32 v) s

/-- The new raw value of a declared sensor of kinds 1 to 6, an injected one in its place (R333), if there is one; none while D10 is not ON. -/
def newRaw (s : State) (x : CutSample) (e : Bytes) : Option Int :=
  let ch := rdN e 2 1 - 1
  if domOf s 10 != .on then none
  else match rdN e 1 1 with
    | 1 => some (ainOf s ch).raw
    | 2 => if (ainOf s ch).openAt.isSome then none else some (ainOf s ch).raw
    | 3 => some (b2n (bit x.din ch) : Int)
    | 4 =>
      let n := (nth x.fq ch none).getD 0
      if n ≠ 0 || (fqOf s ch).still then some ((fqOf s ch).raw : Int) else none
    | 5 => if (nth x.br ch []).isEmpty || isPresent s detBridgeExcitationFault (ch + 1) then none else some (measured s detBridgeSignalOutOfRange (ch + 1) (bridgeRaw (nth x.br ch [])))
    | _ => (nth x.ms ch none).map (measured s detMoistureCellInvalid (ch + 1))

/-- The Sensors part of the next record (R78): a new value is fresh with age 0, an old one is held and ages to 255. -/
def sensorPart (s : State) (x : CutSample) : List SensVal :=
  (s.pf.work.sensors.filter (fun e => decide (rdN e 1 1 ≤ 6))).map (fun e =>
    let i := rdN e 0 1
    match newRaw s x e with
    | some v => ⟨i, v, true, 0⟩
    | none =>
      match s.gr.next.sensors.find? (fun v => v.index == i) with
      | some v => { v with fresh := false, age := satU 8 (v.age + 1) }
      | none => ⟨i, 0, false, 255⟩)

/-- The inputs at a cut-off. -/
def ioCutoff (x : CutSample) (s : State) : State :=
  let s1 := (List.range 40).foldl (fun st ch => ainCutoff ch (nth x.ains ch []) st) s
  let s2 := (List.range 24).foldl (fun st ch => fqCutoff ch (nth x.fq ch none) st) s1
  let s3 := (List.range 6).foldl (fun st ch => bridgeCutoff ch (nth x.br ch []) st) s2
  { s3 with gr := { s3.gr with next := { s3.gr.next with sensors := sensorPart s3 x } } }

end Sys2Proof.Machine
end

