-- ==== Sys2Proof/Machine/MicaEvents.lean ====
section
/-!
DEFINITION. Machine/MicaEvents.lean: what the owner of a Mica bank does about an uncorrectable error (R303, Table 11-2), the scrub (R304), and
how NAND writes end (R311, R313).
-/

namespace Sys2Proof.Machine

/-- A list without the element at an index. -/
def dropAt {α : Type} (l : List α) (i : Nat) : List α := l.take i ++ l.drop (i + 1)

/-- The unflushed records of one 64-byte line of the storage buffers are lost (Table 11-2): one to three of 48 bytes; which fields and places
they hold is not stated (log entry 3). -/
def lineLost (s : State) : State :=
  let u := unflushed s
  let a := freshNat s
  let b := freshNat a.2
  let s1 := if u = 0 then b.2 else
    let fields := b.2.cf.fields.filter (fun f => decide (0 < f.unflushed))
    match fields[a.1 % fields.length]? with
    | none => b.2
    | some f =>
      let first := f.recs.length - f.unflushed
      let at' := first + b.1 % f.unflushed
      let k := min (1 + a.1 % 3) (f.recs.length - at')
      happen detMapRecordsLost 0 0 { b.2 with cf := { b.2.cf with fields := b.2.cf.fields.map (fun g =>
        if g.id = f.id && !g.mirror then { g with recs := g.recs.take at' ++ g.recs.drop (at' + k), unflushed := g.unflushed - k } else g) } }
  if s1.pf.staging.isSome then
    let c := freshBool s1
    if c.1 then updPf (fun p => { p with staging := none }) c.2 else c.2
  else s1

/-- An entry of the recorder's queue is dropped with a count, or an entry of the NAND cache is read again, which changes nothing: which of them the
line held is free (log entry 3). -/
def entryLost (s : State) : State :=
  let a := freshNat s
  let b := freshBool a.2
  if b.1 && !s.ev.snapq.isEmpty then
    { b.2 with ev := { b.2.ev with snapq := dropAt b.2.ev.snapq (a.1 % b.2.ev.snapq.length), drops := wrapU 32 (b.2.ev.drops + 1) } }
  else b.2

/-- The capture or the staging that uses the shared ring ends (Table 11-2). -/
def ringLost (s : State) : State :=
  match s.mc.ring with
  | .capture => if s.qz.cap.st = .running then ringFree (capturePreempt s) else s
  | .staging =>
    (s.up.camps.filter (fun c => c.st == .staging)).foldl (fun st c => (abortStaging c.man.id 8 st).1) s
  | .free => s

/-- The action of Table 11-2 for a bank. Which record part an address of banks 0 to 3 belongs to is not stated (log entry 3). -/
def bankAction (b us : Nat) (s : State) : State :=
  if b < 4 then
    let n := freshNat s
    updMc (fun c => { c with badPart := some (n.1 % 5) }) n.2
  else if b < 8 || (16 ≤ b && b < 32) then assertSource 5 (sourceLevel s 5 2) us s
  else if b < 12 then softUnit 4 us s
  else if b < 16 then softUnit 5 us s
  else if b < 48 then ringLost s
  else if b < 56 then lineLost s
  else if b < 60 then entryLost s
  else s

/-- An uncorrectable error at an address of a bank in ON: counted, acted on by the owner, recorded with the address. -/
def micaBad (addr us : Nat) (s : State) : State :=
  let s1 := updMc (fun c => { c with uncorrectable := wrapU 32 (c.uncorrectable + 1), badAddr := addr, badFrame := s.clk.frame }) s
  happen detMicaUncorrectable 0 addr (bankAction (addr / 1048576) us s1)

/-- MICA_UNCORRECTABLE (R303). -/
def execMicaUncorrectable (addr : Nat) (us : Fin 1000) (s : State) : Host.Outcome State Fault Refusal :=
  .next (if s.clk.running && decide (addr < 67108864) && (bankOf s (addr / 1048576)).st == .on then micaBad addr us.val s else s)

/-- An injection that has corrupted the check bits of a word of the 64-byte line `l`: a double error (true) or a single one (Table 12-4 kind ECC:
bits 63 to 32 the Mica address, bit 0 the error). -/
def eccInjected (s : State) (l : Nat) : Option Bool :=
  match injFor s detMicaUncorrectable 0 with
  | some i => if i.value / 4294967296 / 64 = l then some (i.value % 2 == 1) else none
  | none => none

/-- SCRUB_LINE (R304): the scrub engine reads the next line of the banks in ON; `corrected` words had single-bit errors, `bad` an uncorrectable
one. A bank that came back from RET goes first. -/
def execScrubLine (corrected : Nat) (bad : Bool) (us : Fin 1000) (s : State) : Host.Outcome State Fault Refusal :=
  .next (if s.clk.running && s.mc.banks.any (fun b => b.st == .on) then
    let s1 := scrubFirst s
    let l := nextLine 64 s1 s1.mc.scrubAt
    let e := eccInjected s1 l
    let s2 := scrubLine (if e = some false then corrected + 1 else corrected) s1
    if bad || e = some true then micaBad (64 * l) us.val s2 else s2
  else s)

/-! ### NAND writes -/

/-- A NAND write is durable. -/
def nandDurable (what : NandWrite) (s : State) : State :=
  match what with
  | .profile => saveDone s
  | .settings => updPf (fun p => { p with writes := p.writes.drop 1 }) s
  | .page => pageDurable s
  | .other => s

/-- A NAND write has failed twice: it is not in NAND. A save is answered with a status that the specification does not state, other than OK, and its
new copy may or may not be damaged (R73); a settings write stays uncertain for the next L0 or L1 (R48); the records of a page stay in their
buffer. -/
def nandLost (what : NandWrite) (s : State) : State :=
  match what with
  | .profile =>
    match s.pf.saving with
    | none => s
    | some v =>
      let a := freshNat s
      let b := freshBool (updPf (fun p => { p with saving := none }) a.2)
      resolve (fun w => match w with | .profileSave _ => true | _ => false) (1 + a.1 % 11) [] (if b.1 then storeCopy v false b.2 else b.2)
  | .settings => updPf (fun p => { p with writes := match p.writes with
      | w :: ws => { w with failed := true } :: ws
      | [] => [] }) s
  | .page => updMc (fun c => { c with flight := none }) s
  | .other => s

/-- NAND_WRITE_DONE (R311, R313): durable; or failed and tried once more elsewhere; a second failure is recorded. -/
def execNandWriteDone (what : NandWrite) (ok : Bool) (s : State) : Host.Outcome State Fault Refusal :=
  let again := s.mc.failed.contains what
  let clear := updMc (fun c => { c with failed := c.failed.filter (fun x => x != what) })
  .next (if !s.rs.supUp then s
    else if ok then nandDurable what (clear s)
    else if again then happen detNandWriteFailure 0 0 (nandLost what (clear s))
    else updMc (fun c => { c with failed := c.failed ++ [what], nandRetries := wrapU 32 (c.nandRetries + 1) }) s)

end Sys2Proof.Machine
end

