-- ==== Sys2Proof/Machine/Mailbox.lean ====
section
/-!
DEFINITION. Machine/Mailbox.lean: the mailbox's own commands (R24 to R29, R40, R43, R46, R442, Tables 1-5, 1-6, 1-10, 1-13), its timers
(R18, R27, R28, R32, R35, R43, R51) and the relay to other modules.
-/

namespace Sys2Proof.Machine

/-- The state with the mailbox changed. -/
def updMb (f : Mailbox → Mailbox) (s : State) : State := { s with mb := f s.mb }

/-! ### The form of a message (Table 1-1, steps 1 and 2 of Table 1-3) -/

/-- A message taken apart: FLAGS, SESSION, SEQUENCE, CODE, EPOCH, the 16 bytes of the header, payload as sent, tag. -/
structure WireMsg where
  flags : Nat
  session : Nat
  seq : Nat
  code : Nat
  epoch : Nat
  head : Bytes
  payload : Bytes
  tag : Bytes
  deriving DecidableEq, Repr

/-- A message whose length, MAGIC and FORMAT are right (steps 1 and 2 but for the flags). -/
def parseMsg (w : Bytes) : Option WireMsg :=
  let n := rdN w 10 2
  let auth := bit (rdN w 3 1) 2
  if w.length < 16 || 1024 < n || w.length ≠ 16 + n + 16 * b2n auth || rdN w 0 2 ≠ 0x5247 || rdN w 2 1 ≠ 3 then none
  else some ⟨rdN w 3 1, rdN w 4 2, rdN w 6 2, rdN w 8 2, rdN w 12 4, slice w 0 16, slice w 16 n, slice w (16 + n) 16⟩

/-- A message that a host may send: RESP, NOTIFY and the reserved flag bits are 0 (R14). -/
def commandMsg (w : Bytes) : Option WireMsg :=
  match parseMsg w with
  | some m => if m.flags % 4 = 0 && m.flags < 16 then some m else none
  | none => none

/-- Byte stuffing undone (R23): 0x7D stands before a byte sent XOR 0x20; a bare 0x7E or a 0x7D at the end breaks the frame. -/
def unstuff : Bytes → Option Bytes
  | [] => some []
  | b :: bs =>
    if b.toNat = 0x7E then none
    else if b.toNat = 0x7D then
      match bs with
      | [] => none
      | c :: cs => if c.toNat = 0x7E then none else (unstuff cs).map (fun r => (c ^^^ 0x20) :: r)
    else (unstuff bs).map (fun r => b :: r)

/-- The message of a console UART frame: 0x7E, the message and its CRC-16 stuffed, 0x7E (R23). -/
def uartMsg (w : Bytes) : Option Bytes :=
  if w.length < 4 || rdN w 0 1 ≠ 0x7E || rdN w (w.length - 1) 1 ≠ 0x7E then none
  else match unstuff (slice w 1 (w.length - 2)) with
    | none => none
    | some x =>
      if x.length < 2 || crc16 (slice x 0 (x.length - 2)) ≠ rdN x (x.length - 2) 2 then none else some (slice x 0 (x.length - 2))

/-- Whether a binding's transport is enabled (Table 1-4, R50, R55). -/
def transportOn (s : State) (b : Binding) : Bool :=
  mailUp s && match b.transport with
    | .serviceEthernet => s.pf.psOpen || s.mb.seEnable != 0
    | .fabric => true
    | .can => bit s.mb.canPorts (b.peer / 256) && (nth s.cn.ports (b.peer / 256) canPort0).claim == .claimed
    | .uart => s.pf.psOpen || s.mb.uartEnable

/-- A discarded message is counted as malformed (R50). -/
def countMalformed (s : State) : State := updMb (fun m => { m with malformed := wrapU 32 (m.malformed + 1) }) s

/-- A discarded message is counted as a discarded sequence (R30, R50). -/
def countDiscarded (s : State) : State := updMb (fun m => { m with discarded := wrapU 32 (m.discarded + 1) }) s

/-! ### Failures of a binding (R35, R51) -/

/-- What is kept of a binding's failures. -/
def secOf (s : State) (b : Binding) : PeerSec := (s.mb.secs.find? (fun x => x.binding == b)).getD ⟨b, [], [], none, none, none⟩

/-- The state with it changed. -/
def updSec (b : Binding) (f : PeerSec → PeerSec) (s : State) : State :=
  updMb (fun m => { m with secs := m.secs.filter (fun x => x.binding != b) ++ [f (secOf s b)] }) s

/-- Whether a binding is locked out of SESSION_OPEN. -/
def lockedOut (s : State) (b : Binding) : Bool := (secOf s b).locked.isSome

/-- A binding enters a condition of R51: an occurrence of its own, whatever other bindings are in it. -/
def secEnter (code data : Nat) (s : State) : State :=
  let inj := forced s code 0
  raise code 0 data true
    (if isPresent s code 0 then s else { s with ev := { s.ev with present := s.ev.present ++ [(code, 0, inj)] } })

/-- A binding has left a condition of R51: ACTIVE is cleared in the records that hold the occurrence of no binding still in it; `held` names
those occurrences by frame and INJECTED. -/
def secLeave (code : Nat) (held : List (FrameNo × Bool)) (s : State) : State :=
  let keeps := fun (r : EvRec) => held.any (fun h => h.2 == r.injected && decide (r.frame ≤ h.1) && decide (h.1 ≤ r.last))
  let gone := fun (r : EvRec) => r.code == code && r.inst == 0 && r.active && !keeps r
  let occ := fun (o : Occ) => if o.code = code && !held.any (fun h => h.1 == o.frame && h.2 == o.injected) then { o with lasting := false } else o
  (((s.ev.fixed ++ s.ev.snaps).filter gone).map EvRec.rseq).foldl (fun st q => recChanged q st)
    { s with ev := { s.ev with
        snaps := s.ev.snaps.map (fun r => if gone r then { r with active := false } else r)
        snapq := s.ev.snapq.map occ
        present := if held.isEmpty then s.ev.present.filter (fun p => p.1 != code) else s.ev.present } }

/-- A binding is locked out of SESSION_OPEN for 60 s (R35, R51). -/
def lockOut (b : Binding) (s : State) : State :=
  secEnter detBindingLockedOut 0
    (updMb (fun m => { m with lockouts := wrapU 32 (m.lockouts + 1) })
      (updSec b (fun x => { x with locked := some (s.clk.ms + 60000), lockOcc := some (s.clk.frame, forced s detBindingLockedOut 0) }) s))

/-- An authentication failure of a binding, `prove` when it is a failed SESSION_PROVE (R35, R51). -/
def authFail (b : Binding) (prove : Bool) (s : State) : State :=
  let young := fun (d : Nat) (l : List Nat) => l.filter (fun t => decide (s.clk.ms < t + d)) ++ [s.clk.ms]
  let s1 := updSec b (fun x => { x with fails := young 10000 x.fails, proves := if prove then young 60000 x.proves else x.proves })
    (updMb (fun m => { m with authFails := wrapU 32 (m.authFails + 1) }) s)
  let n := measured s1 detAuthenticationFailureBurst 0 (secOf s1 b).fails.length
  let s2 := if 20 ≤ n && (secOf s1 b).burstOcc.isNone then
      secEnter detAuthenticationFailureBurst n.toNat
        (updSec b (fun x => { x with burstOcc := some (s.clk.frame, forced s detAuthenticationFailureBurst 0) }) s1)
    else s1
  if prove && decide (5 ≤ (secOf s2 b).proves.length) && !lockedOut s2 b then lockOut b s2 else s2

/-- LOCKOUT_EXPIRY (R35, R51): the lockouts that have lasted 60 s end. -/
def execLockoutExpiry (s : State) : Host.Outcome State Fault Refusal :=
  let due := fun (x : PeerSec) => x.locked.any (fun t => decide (t ≤ s.clk.ms))
  .next (if s.rs.supUp && s.mb.secs.any due then
    let s1 := updMb (fun m => { m with secs := m.secs.map (fun x => if due x then { x with locked := none, lockOcc := none } else x) }) s
    secLeave detBindingLockedOut (s1.mb.secs.filterMap PeerSec.lockOcc) s1
  else s)

/-- AUTH_BURST_END (R51): 10 s without a failure from a binding end its condition. -/
def execAuthBurstEnd (s : State) : Host.Outcome State Fault Refusal :=
  let due := fun (x : PeerSec) => x.burstOcc.isSome && x.fails.all (fun t => decide (t + 10000 ≤ s.clk.ms))
  .next (if s.rs.supUp && s.mb.secs.any due then
    let s1 := updMb (fun m => { m with secs := m.secs.map (fun x => if due x then { x with burstOcc := none } else x) }) s
    secLeave detAuthenticationFailureBurst (s1.mb.secs.filterMap PeerSec.burstOcc) s1
  else s)

/-! ### Identity (R46, R52) -/

/-- What IDENT reports: firmware 3.2.0 (log entry 42), or 0.0.0 in ROM recovery
mode (Table 1-10, R361). -/
def identBytes (s : State) : Bytes :=
  leN 6 uid ++ u8 3 ++ u8 2 ++ (if inRecovery s then zeros 3 else u8 3 ++ u8 2 ++ u8 0) ++ u8 0x42 ++ u8 0x42 ++ u8 (lifecycleByte s) ++
    u8 (myNode s) ++ u8 (profileByte s) ++ u32 s.mb.epoch ++ u64 s.mb.horizon ++
    padTo 16 ([0x47, 0x48, 0x2D, 0x34, 0x38, 0x34, 0x2D, 0x41, 0x31] : Bytes)

/-- IDENT (Table 1-10). -/
def bodyIdent : Body := emptyPayload fun _ s => ans s stOk (identBytes s)

/-- PING (R46): the token and the frame at acceptance. -/
def bodyPing : Body := fun c s => if c.payload.length = 8 then ans s stOk (c.payload ++ u64 c.arrival) else ans s stBadArg

/-! ### Sessions (R26, R28, R29, R35, R442) -/

/-- The keys of a session: host-to-module, then module-to-host (R29). -/
def sessionKeys (key hostNonce moduleNonce : Bytes) (num epoch role : Nat) : Bytes :=
  hkdf256 key (hostNonce ++ moduleNonce)
    (([0x47, 0x52, 0x41, 0x45, 0x52, 0x49, 0x2D, 0x4D, 0x42, 0x58, 0x2D, 0x33] : Bytes) ++ leN 6 uid ++ u16 num ++ u32 epoch ++ u8 role) 64

/-- An epoch roll (R26): every session closes with reason 2, everything of the old epoch but the accepted T commands and the horizon is gone, and
numbers start again at 1. -/
def epochRoll (s : State) : State :=
  updMb (fun m => { m with epoch := nextEpoch m.epoch, nextSession := 1, peers0 := [] }) (closeAll 2 s)

/-- A session with nothing done in it. -/
def newSess (num role : Nat) (b : Binding) (isOpen : Bool) (e now : Nat) : Sess :=
  { num, role, isOpen, binding := b, opened := now, e, era := 0, note := 0, noteEra := 0, cache := [], held := [], subs := [], asm := none,
    doomed := [], exec := none, queue := [], ending := false, lastAuth := now, hostNonce := [], moduleNonce := [], keyIn := [], keyOut := [] }

/-- A session is opened half-way: its number, a fresh nonce (log entry 3) and its keys (R28, R29). -/
def openHalf (b : Binding) (role : Nat) (key hostNonce : Bytes) (s : State) : State × Reply :=
  let q := freshBytes 16 s
  let num := s.mb.nextSession
  let k := sessionKeys key hostNonce q.1 num s.mb.epoch role
  let x := { newSess num role b false 0 s.clk.ms with hostNonce, moduleNonce := q.1, keyIn := k.take 32, keyOut := k.drop 32 }
  ans (updMb (fun m => { m with nextSession := num + 1, sessions := m.sessions ++ [x] }) q.2) stOk
    (u16 num ++ zeros 2 ++ q.1 ++ leN 6 uid ++ zeros 2)

/-- SESSION_OPEN (R26, R28, Table 1-6). New sessions are refused during standby entry (R397), and to OPERATOR in ROM recovery mode (R361). -/
def bodySessionOpen : Body := fun c s =>
  let p := c.payload
  let role := rdN p 0 1
  if p.length ≠ 20 || role = 0 || 4 < role || !resZero p 1 3 then ans s stBadArg
  else
    let s1 := if forced s detBindingLockedOut 0 && !lockedOut s c.binding then lockOut c.binding s else s
    match roleKey s1 role with
    | none => ans s1 stRefusedState
    | some key =>
      if lockedOut s1 c.binding || s1.pw.sb.ph ≠ .awake || (inRecovery s1 && role = 1) then ans s1 stRefusedState
      else if 65535 < s1.mb.nextSession then ans (epochRoll s1) stEpochMismatch
      else if 8 ≤ s1.mb.sessions.length || 2 ≤ (s1.mb.sessions.filter (fun x => !x.isOpen)).length then ans s1 stNoResource
      else openHalf c.binding role key (slice p 4 16) s1

/-- SESSION_PROVE (R28): the message has been authenticated, so a half-open session opens and expects sequence 1. -/
def bodySessionProve : Body := emptyPayload fun c s =>
  if halfOpen s c.session then
    ans (updSess c.session (fun x => { x with isOpen := true, e := 1, lastAuth := s.clk.ms }) s) stOk
  else ans s stRefusedState

/-- SESSION_CLOSE (R442): answered in the session, which then closes; its accepted T commands stay pending. -/
def bodySessionClose : Body := emptyPayload fun c s => (dropSession c.session (answer c stOk [] s), .sent)

/-- The transport codes of SESSION_LIST (Table 1-13). -/
def transportCode (t : Transport) : Nat :=
  match t with
  | .serviceEthernet => 1 | .fabric => 2 | .can => 3 | .uart => 4

/-- An entry of SESSION_LIST; the session that asks is executing this command. -/
def sessEntry (c : Ctx) (s : State) (x : Sess) : Bytes :=
  u16 x.num ++ u8 x.role ++ u8 (if x.isOpen then 2 else 1) ++ u8 (transportCode x.binding.transport) ++ u8 x.binding.relay ++
    u16 x.e ++ u16 x.era ++ u8 x.subs.length ++ u8 (unfinished x + b2n (x.num == c.session)) ++ u32 (satU 32 (s.clk.ms - x.lastAuth))

/-- SESSION_LIST (R442). -/
def bodySessionList : Body := emptyPayload fun c s =>
  ans s stOk (u8 s.mb.sessions.length ++ zeros 3 ++ (sortBy Sess.num s.mb.sessions).flatMap (sessEntry c s))

/-- The notification codes that may be subscribed (R43, Table 1-8). -/
def subCodes : List Nat := [nYieldRecord, nTimeMessage, nCanRx, nEvent, nUpdateProgress]

/-- The subscriptions of a session. -/
def subsOf (s : State) (num : Nat) : List Sub := ((findSess s num).map Sess.subs).getD []

/-- SUBSCRIBE (R43): a new subscription, or a new interval for the one with this code and filter. -/
def bodySubscribe : Body := fun c s =>
  let p := c.payload
  let code := rdN p 0 2
  let filter := rdN p 2 2
  let iv := rdN p 4 2
  if p.length ≠ 8 || !resZero p 6 2 || 10000 < iv || !subCodes.contains code then ans s stBadArg
  else
    let used := max iv (paramN s pMbNotifyMinInterval)
    let subs := subsOf s c.session
    if subs.any (fun b => b.code == code && b.filter == filter) then
      ans (updSub c.session code filter (fun b => { b with interval := used }) s) stOk (u16 used ++ u8 subs.length ++ zeros 1)
    else if 32 ≤ subs.length then ans s stNoResource
    else ans (updSess c.session (fun x => { x with subs := x.subs ++ [⟨code, filter, used, none, []⟩] }) s) stOk
      (u16 used ++ u8 (subs.length + 1) ++ zeros 1)

/-- UNSUBSCRIBE (R43): the named subscription, or every one of the code. -/
def bodyUnsubscribe : Body := fun c s =>
  let p := c.payload
  let hit := fun (b : Sub) => b.code == rdN p 0 2 && (bit (rdN p 4 1) 0 || b.filter == rdN p 2 2)
  if p.length ≠ 8 || 1 < rdN p 4 1 || !resZero p 5 3 then ans s stBadArg
  else
    let subs := subsOf s c.session
    let left := subs.filter (fun b => !hit b)
    ans (updSess c.session (fun x => { x with subs := x.subs.filter (fun b => !hit b) }) s) stOk
      (u8 (subs.length - left.length) ++ u8 left.length ++ zeros 2)

/-! ### Pending commands (R40, R442) -/

/-- The pending host T commands, in order of frame of application and then of acceptance (R39). -/
def pendingTs (s : State) : List TCmd :=
  sortBy TCmd.frame (sortBy TCmd.order (s.mb.exch.filter (fun t => !t.internal)))

/-- An entry of PENDING_LIST. -/
def pendingEntry (t : TCmd) : Bytes :=
  u32 t.epoch ++ u16 t.session ++ u16 t.seq ++ u16 t.code ++ u8 t.role ++ zeros 1 ++ u64 t.frame ++ zeros 4

/-- PENDING_LIST (Table 1-13). -/
def bodyPendingList : Body := fun c s =>
  let p := c.payload
  let k := rdN p 2 1
  if p.length ≠ 4 || k = 0 || 40 < k || !resZero p 3 1 then ans s stBadArg
  else
    let es := ((pendingTs s).drop (rdN p 0 2)).take k
    ans s stOk (u8 es.length ++ zeros 1 ++ u16 (pendingTs s).length ++ es.flatMap pendingEntry)

/-- The fate of a remembered T command changes. -/
def setFate (t : TCmd) (f : TFate) (s : State) : State :=
  updMb (fun m => { m with recent := m.recent.map (fun r =>
    if r.epoch = t.epoch && r.session = t.session && r.seq = t.seq && r.fate = .pending then { r with fate := f } else r) }) s

/-- A T command leaves the exchange area, and with it what its acceptance had set aside. -/
def withdraw (t : TCmd) (s : State) : State :=
  let s1 := dropSelection t.order (setFate t .withdrawn (updMb (fun m => { m with exch := m.exch.filter (fun y => y.order != t.order) }) s))
  let s2 := { s1 with cn := { s1.cn with handles := s1.cn.handles.filter (fun h => h.1 != t.order) } }
  if t.code = cInject then
    { s2 with ev := { s2.ev with injs := s2.ev.injs.filter (fun i =>
        i.started || !(i.det == rdN t.payload 0 2 && i.inst == rdN t.payload 2 1 && i.session == t.session)) } }
  else if t.code = cStandbyEnter then { s2 with pw := { s2.pw with sb := { s2.pw.sb with accepted := false } } }
  else s2

/-- PENDING_CANCEL (R40): the first row of its table that applies. -/
def bodyPendingCancel : Body := fun c s =>
  let p := c.payload
  let ep := if rdN p 0 4 = 0 then s.mb.epoch else rdN p 0 4
  let num := rdN p 4 2
  let seq := rdN p 6 2
  if p.length ≠ 8 then ans s stBadArg (zeros 8)
  else if (num ≠ c.session || ep ≠ s.mb.epoch) && (c.role == 1 || c.role == 3) then ans s stNotAuth (zeros 8)
  else if num = 0 then ans s stBadArg (zeros 8)
  else match s.mb.exch.find? (fun t => t.epoch == ep && t.session == num && t.seq == seq && !t.internal) with
    | some t => if c.arrival + 2 ≤ t.frame then ans (withdraw t s) stOk (u64 t.frame) else ans s stTooLate (u64 t.frame)
    | none =>
      match (s.mb.recent.filter (fun r => r.epoch == ep && r.session == num && r.seq == seq)).getLast? with
      | some r => if r.fate = .applied then ans s stTooLate (u64 r.frame) else ans s stBadArg (zeros 8)
      | none => ans s stBadArg (zeros 8)

/-! ### The relay (R24, R25) -/

/-- The FLOW_ID that stands for an outer binding, made on its first relay. -/
def outerFlow (b : Binding) (session : Nat) (s : State) : Nat × State :=
  match s.mb.relayed.find? (fun x => x.binding == b) with
  | some x => (x.flow, updMb (fun m => { m with relayed := m.relayed.map (fun y => if y.flow = x.flow then { y with session } else y) }) s)
  | none =>
    let n := s.mb.relayed.length + 1
    (n, updMb (fun m => { m with relayed := m.relayed ++ [⟨n, b, session⟩] }) s)

/-- FB_RELAY (R24): the inner message goes to its destination as a Skim frame of class 1, and the answer waits for the inner response. -/
def bodyFbRelay : Body := fun c s =>
  let p := c.payload
  let dest := rdN p 0 1
  if p.length < 4 || !resZero p 1 3 || dest = 0 || 32 < dest || dest = myNode s then ans s stBadArg
  else match commandMsg (p.drop 4) with
    | none => ans s stBadArg
    | some m =>
      if m.code = cFbRelay then ans s stBadArg
      else
        let f := outerFlow c.binding c.session s
        let q := skimSend dest 1 f.1 (p.drop 4) f.2
        if q.2 then
          let h := s.mb.nextRelay
          (updMb (fun x => { x with nextRelay := h + 1, relays := x.relays ++ [⟨h, dest, f.1, m.seq, m.code, [], s.clk.ms⟩] }) q.1, .wait (.relay h))
        else ans s stNoResource

/-- A response message from another node arrives on a flow (R24): the oldest relay that waits for it takes it, and with its last fragment the
relay is answered OK. -/
def innerResponse (src flow : Nat) (inner : Bytes) (s : State) : State :=
  match parseMsg inner with
  | none => s
  | some m =>
    match s.mb.relays.find? (fun r => r.dest == src && r.flow == flow && r.seq == m.seq && r.code == m.code) with
    | none => s
    | some r =>
      let got := r.got ++ inner
      if bit m.flags 3 then
        updMb (fun x => { x with relays := x.relays.map (fun y => if y.handle = r.handle then { y with got } else y) }) s
      else resolve (fun w => w == .relay r.handle) stOk got
        (updMb (fun x => { x with relays := x.relays.filter (fun y => y.handle != r.handle) }) s)

/-- RELAY_INNER_RESPONSE (R24). -/
def execRelayInnerResponse (src : Fin 64) (flow : Nat) (inner : Bytes) (s : State) : Host.Outcome State Fault Refusal :=
  .next (if mailUp s then innerResponse src.val flow inner s else s)

/-- RELAY_TIMEOUT (R24): relays without an inner response for 1000 ms are answered BUSY. -/
def execRelayTimeout (s : State) : Host.Outcome State Fault Refusal :=
  .next (if mailUp s then
    (s.mb.relays.filter (fun r => elapsed s r.since 1000)).foldl (fun st r =>
      resolve (fun w => w == .relay r.handle) stBusy []
        (updMb (fun x => { x with relays := x.relays.filter (fun y => y.handle != r.handle) }) st)) s
  else s)

/-- A notification for a relayed session arrives (R25): it is forwarded to the outer binding in its session, or in session 0. -/
def relayedNote (flow : Nat) (inner : Bytes) (s : State) : State :=
  match s.mb.relayed.find? (fun x => x.flow == flow), parseMsg inner with
  | some x, some _ =>
    match findSess s x.session with
    | some y => if y.isOpen && y.binding = x.binding then sendNote y.num nRelayedNotify inner s else s
    | none =>
      if x.session = 0 then
        send [{ binding := x.binding, notify := true, more := false, session := 0, seq := ((findChan s 0 x.binding).map Sess.note).getD 0,
                code := nRelayedNotify, epoch := s.mb.epoch, era := 0, frag := 0, payload := inner }]
          (updChan 0 x.binding (fun z => { z with note := wrapU 16 (z.note + 1) }) s)
      else s
  | _, _ => s

/-- RELAYED_NOTIFY (R25). -/
def execRelayedNotify (src : Fin 64) (flow : Nat) (inner : Bytes) (s : State) : Host.Outcome State Fault Refusal :=
  .next (if mailUp s && src.val != 0 then relayedNote flow inner s else s)

/-- The messages the mailbox has sent to fabric peers leave as Skim frames of class 1, on the flow that names the outer binding at the relaying
node (R25, R268). -/
def fabricPump (s : State) : State :=
  let fresh := (s.out.drop s.fb.taken).filter (fun m => m.binding.transport == .fabric)
  fresh.foldl (fun st m => (skimSend m.binding.peer 1 m.binding.outer (wireOf m) st).1) (updFb (fun b => { b with taken := s.out.length }) s)

/-! ### Timers -/

/-- FRAGMENT_ASSEMBLY_TIMEOUT (R18): 1000 ms without a further fragment end an assembly, which is counted as malformed. -/
def execFragmentAssemblyTimeout (s : State) : Host.Outcome State Fault Refusal :=
  let due := fun (x : Sess) => x.asm.any (fun a => elapsed s a.since 1000)
  let f := fun (x : Sess) => if due x then { x with doomed := x.doomed ++ (x.asm.map Assembly.code).toList, asm := none } else x
  let n := (s.mb.sessions.filter due).length + (s.mb.peers0.filter due).length
  .next (if mailUp s then
    updMb (fun m => { m with sessions := m.sessions.map f, peers0 := m.peers0.map f, malformed := wrapU 32 (m.malformed + n) }) s
  else s)

/-- HALF_OPEN_TIMEOUT (R28): a half-open session not proved within 5000 ms is discarded, unannounced. -/
def execHalfOpenTimeout (s : State) : Host.Outcome State Fault Refusal :=
  .next (if mailUp s then
    (s.mb.sessions.filter (fun x => !x.isOpen && elapsed s x.opened 5000)).foldl (fun st x => dropSession x.num st) s
  else s)

/-- Every held message of a session is discarded, and SEQUENCE_GAP carries E (R32). -/
def dropHeld (num : Nat) (s : State) : State :=
  match findSess s num with
  | some x => sendNote num nSequenceGap (u16 x.e) (updSess num (fun y => { y with held := [] }) s)
  | none => s

/-- REORDER_HOLD_EXPIRY (R32): a held message has waited MB.REORDER_HOLD. A session-0 binding has no notification to be told by. -/
def execReorderHoldExpiry (s : State) : Host.Outcome State Fault Refusal :=
  let due := fun (x : Sess) => x.held.any (fun m => elapsed s m.since (paramN s pMbReorderHold))
  .next (if mailUp s then
    (s.mb.sessions.filter due).foldl (fun st x => dropHeld x.num st)
      (updMb (fun m => { m with peers0 := m.peers0.map (fun x => if due x then { x with held := [] } else x) }) s)
  else s)

/-- SESSION_TIMEOUT (R35): no authenticated message for MB.SESSION_TIMEOUT closes a session with reason 1. -/
def execSessionTimeout (s : State) : Host.Outcome State Fault Refusal :=
  .next (if mailUp s then
    (s.mb.sessions.filter (fun x => x.isOpen && elapsed s x.lastAuth (paramN s pMbSessionTimeout))).foldl (fun st x => closeSession x.num 1 st) s
  else s)

/-- SESSION0_BINDING_FORGET (R27): a silent session-0 binding loses its next expected sequence; one with a command not yet answered is kept until
the answer has gone. -/
def execSession0BindingForget (s : State) : Host.Outcome State Fault Refusal :=
  .next (if mailUp s then
    updMb (fun m => { m with peers0 := m.peers0.filter (fun x => chanBusy x || !elapsed s x.lastAuth (paramN s pMbSessionTimeout)) }) s
  else s)

/-- NOTIFY_INTERVAL_EXPIRY (R43): what waits for a subscription whose interval is over is sent. -/
def execNotifyIntervalExpiry (s : State) : Host.Outcome State Fault Refusal :=
  .next (if s.rs.supUp then
    (s.mb.sessions.filter Sess.isOpen).foldl (fun st x =>
      (x.subs.filter (fun b => !b.due.isEmpty && intervalOpen s b)).foldl (fun st2 b => flushSub x.num b.code b.filter st2) st) s
  else s)

/-- MODULE_SETTING_DURABLE (R48): the oldest write of module settings is durable, within 500 ms, not while NAND writes are deferred. -/
def execModuleSettingDurable (s : State) : Host.Outcome State Fault Refusal :=
  .next (if nandOn s then updPf (fun p => { p with writes := p.writes.drop 1 }) s else s)

end Sys2Proof.Machine
end

