-- ==== Sys2Proof/Machine/ParamCmd.lean ====
section
/-!
DEFINITION. Machine/ParamCmd.lean: generic parameter access (R47 to R49, R443 to R445, Table 1-11) and the relations between parameters
(R105, R139, R169, R195, R246).
-/

namespace Sys2Proof.Machine

/-- Whether a role lies in a role mask. -/
def inRoleMask (mask role : Nat) : Bool := decide (1 ≤ role) && bit mask (role - 1)

/-- One entry of PARAM_GET's answer (R444). -/
def getEntry (role : Nat) (s : State) (id : Nat) : Bytes :=
  match paramRow id with
  | some _ => u8 stOk ++ zeros 3 ++ slotOf (param s id)
  | none =>
    match liveRow id with
    | some r =>
      if inRoleMask r.roles role then u8 stOk ++ zeros 3 ++ slotOf (liveValue r (id / 256 % 256) s) else u8 stNotAuth ++ zeros 11
    | none => u8 stBadArg ++ zeros 11

/-- PARAM_GET (R444). -/
def bodyParamGet : Body := fun c s =>
  let p := c.payload
  let k := rdN p 0 1
  if k = 0 || 64 < k || p.length ≠ 4 + 4 * k || !resZero p 1 3 then ans s stBadArg
  else ans s stOk ((List.range k).flatMap (fun i => getEntry c.role s (rdN p (4 + 4 * i) 4)))

/-- The entries of a PARAM_SET after its prefix: ID and value. -/
def paramEntries (p : Bytes) : List (Nat × Int) := (List.range (rdN p 0 1)).map (fun k => paramOfEntry (slice p (4 + 12 * k) 12))

/-- The causes of R48 for one entry, in their order. -/
def entryCause (role : Nat) (s : State) (e : Nat × Int) : Option Nat :=
  match paramRow e.1 with
  | none => some (if (liveRow e.1).isSome then stRefusedState else stBadArg)
  | some r =>
    if !bit r.access 0 then some stRefusedState
    else if !inRoleMask r.roles role then some stNotAuth
    else if !(inRanges r.ranges e.2 && valueRule e.1 e.2) then some stBadArg
    else if bit r.access 1 && !stationary s then some stRefusedState
    else none

/-- The lowest entry that sets one of some parameters. -/
def lowestEntry (es : List (Nat × Int)) (p : Nat → Bool) : Option Nat := es.findIdx? (fun e => p e.1)

/-- A relation that fails: its status and the lowest entry concerned. -/
def relation (es : List (Nat × Int)) (p : Nat → Bool) (bad : Bool) (status : Nat) : Option (Nat × Nat) :=
  match lowestEntry es p with
  | some i => if bad then some (status, i) else none
  | none => none

/-- The relations of R48, judged on the values as they would stand after the whole PARAM_SET. -/
def relationsFail (s : State) (es : List (Nat × Int)) : Option (Nat × Nat) :=
  let m := { s.pf.work with params := es.foldl (fun l e => setKey e.1 e.2 l) s.pf.work.params }
  let node := paramN s pFbNode
  let v := fun id => listedValue m.params id
  [relation es (fun id => id == pGrCmdAllowance) (check8 m).isSome stValidationFail,
   relation es (fun id => id == pQzGcMin || id == pQzGcMax) (decide (v pQzGcMax < v pQzGcMin)) stBadArg,
   relation es (fun id => id == pCfDelayMin || id == pCfDelayMax) (decide (v pCfDelayMax < v pCfDelayMin)) stBadArg,
   relation es (fun id => id == pCfSlopeVmin || id == pCfSlopeVmax) (decide (v pCfSlopeVmax < v pCfSlopeVmin)) stBadArg,
   relation es (fun id => (List.range 12).any (fun k => id == pVdPartner k)) (check3 node m).isSome stValidationFail,
   relation es (fun id => id == pGnSteerSlot || id == pGnSteerPair)
     ((check3 node m).isSome || (check6 m).isSome || (check8 m).isSome) stValidationFail].findSome? id

/-- The byte of PARAM_SET's response that names an entry, 0xFF for none. -/
def setReply (i : Nat) : Bytes := u8 i ++ zeros 3

/-- What refuses a PARAM_SET (R48): status and response bytes. -/
def paramSetCheck (c : Ctx) (s : State) : Option (Nat × Bytes) :=
  let p := c.payload.drop 12
  let k := rdN p 0 1
  let es := paramEntries p
  if k = 0 || 64 < k || p.length ≠ 4 + 12 * k || !resZero p 1 3 then some (stBadArg, setReply 255)
  else match (es.zipIdx.filterMap (fun e => (entryCause c.role s e.1).map (fun st => (st, e.2)))).head? with
    | some f => some (f.1, setReply f.2)
    | none => (relationsFail s es).map (fun f => (f.1, setReply f.2))

/-- PARAM_SET (R48): all or nothing; byte 4 is 0xFF where no entry is rejected. -/
def bodyParamSet : Body := fun c s =>
  match timedBody paramSetCheck (fun _ _ s => (s, setReply 255)) c s with
  | (s1, .done st []) => (s1, .done st (setReply 255))
  | r => r

/-- A channel at rest takes the state of its new mode. -/
def vdModes (s : State) : State :=
  (List.range 12).foldl (fun st ch => updVd ch (fun c => if c.st = .off || c.st = .idle then { c with st := vdRest st ch } else c) st) s

/-- What changed parameters change elsewhere: controllers restart (R279), supplies and Quartz channels follow (R134, R393), groups with a new
window start over (R148), valve channels rest in their mode (R175). -/
def paramsChanged (ids : List Nat) (s : State) : State :=
  let s1 := ids.foldl (fun st id => canParamChanged id st) s
  let s2 := quartzApply (supApply s1)
  let s3 := if ids.contains pCfLossWindow then clearGroups s2 else s2
  if ids.any (fun id => (List.range 12).any (fun k => id == pVdMode k)) then vdModes s3 else s3

/-- PARAM_SET at its frame of application (R48, R56): saved parameters change in the working copy, module settings as one unit. A host's
change of a saved one sets the modified flag. -/
def applyParamSet (t : TCmd) (s : State) : State :=
  let es := paramEntries t.payload
  let saved := es.filter (fun e => !isSetting e.1)
  let settings := es.filter (fun e => isSetting e.1)
  let s1 := setWork saved s
  let s2 := if settings.isEmpty then s1 else writeSettings settings s1
  let s3 := if saved.isEmpty || t.internal then s2 else updPf (fun p => { p with modified := true }) s2
  let s4 := paramsChanged (es.map (·.1)) s3
  if es.any (fun e => e.1 == pDgInjectOem) && paramN s4 pDgInjectOem = 0 then endOemInjections s4 else s4

/-- The range of a type. -/
def typeRange (ty : Nat) : Int × Int :=
  let w := 8 * typeBytes ty
  if typeSigned ty then (-(2 ^ (w - 1) : Nat), (2 ^ (w - 1) : Nat) - 1) else (0, (2 ^ w : Nat) - 1)

/-- PARAM_INFO. -/
def bodyParamInfo : Body := fun c s =>
  let id := rdN c.payload 0 4
  let out := fun (ty unit : Nat) (lo hi d : Int) (access roles : Nat) =>
    ans s stOk (u16 ty ++ u16 unit ++ slotOf lo ++ slotOf hi ++ slotOf d ++ u8 access ++ u8 roles ++ zeros 2)
  if c.payload.length ≠ 4 then ans s stBadArg
  else match paramRow id with
    | some r => out r.ty r.unit (rangeMin r.ranges) (rangeMax r.ranges) r.dflt r.access r.roles
    | none => match liveRow id with
      | some r => out r.ty r.unit (typeRange r.ty).1 (typeRange r.ty).2 0 0 r.roles
      | none => ans s stBadArg

/-- The IDs of a subsystem's parameters in ascending order. -/
def paramIds (ss : Nat) : List Nat :=
  sortBy id ((paramRows.filter (fun r => r.base / 16777216 == ss)).flatMap (fun r => (List.range r.count).map (· + r.base)))

/-- The IDs of a subsystem's live-status items in ascending order. -/
def liveIds (ss : Nat) : List Nat :=
  sortBy id ((liveRows.filter (fun r => r.ss == ss)).flatMap (fun r =>
    if r.inst = .whole then [liveId r 0] else (List.range r.count).map (fun k => liveId r (k + 1))))

/-- PARAM_LIST (R49). -/
def bodyParamList : Body := fun c s =>
  let p := c.payload
  let grp := rdN p 1 1
  let sel := if grp = 255 then paramIds (rdN p 0 1) ++ liveIds (rdN p 0 1)
    else (paramIds (rdN p 0 1)).filter (fun x => x / 65536 % 256 == grp)
  let out := (sel.drop (rdN p 2 2)).take 250
  if p.length ≠ 4 then ans s stBadArg else ans s stOk (u16 out.length ++ zeros 2 ++ out.flatMap u32)

end Sys2Proof.Machine
end

