-- ==== Sys2Proof/Machine/Commands.lean ====
section
/-!
DEFINITION. Machine/Commands.lean: which meaning each command code of Table 1-12 has (R52, R53).
-/

namespace Sys2Proof.Machine

/-- A command with several operations, chosen by a byte of its payload; any other operation is BAD_ARG. -/
def opBody (off : Nat) (ops : List (Nat × Body)) : Body := fun c s =>
  match ops.find? (fun o => off < c.payload.length && rdN c.payload off 1 == o.1) with
  | some o => o.2 c s
  | none => ans s stBadArg

/-- The meanings of the identity commands, by code (Table 1-12). -/
def bodies00 (code : Nat) : Option Body :=
  if code = cIdent then some bodyIdent
  else if code = cPing then some bodyPing
  else if code = cTimeGet then some bodyTimeGet
  else if code = cStatusGet then some bodyStatusGet
  else none

/-- The meanings of the session commands, by code (Table 1-12). -/
def bodies01 (code : Nat) : Option Body :=
  if code = cSessionOpen then some bodySessionOpen
  else if code = cSessionProve then some bodySessionProve
  else if code = cSessionClose then some bodySessionClose
  else if code = cSessionList then some bodySessionList
  else if code = cSubscribe then some bodySubscribe
  else if code = cUnsubscribe then some bodyUnsubscribe
  else if code = cPendingList then some bodyPendingList
  else if code = cPendingCancel then some bodyPendingCancel
  else none

/-- The meanings of the profile commands, by code (Table 1-12). -/
def bodies02 (code : Nat) : Option Body :=
  if code = cProfileSelect then some bodyProfileSelect
  else if code = cProfileGetActive then some bodyProfileGetActive
  else if code = cProfileRead then some bodyProfileRead
  else if code = cProfileWrite then some bodyProfileWrite
  else if code = cProfileValidate then some bodyProfileValidate
  else if code = cProfileSave then some bodyProfileSave
  else if code = cProfileSetDefault then some bodyProfileSetDefault
  else if code = cMdRead then some bodyMdRead
  else none

/-- The meanings of Granite, by code (Table 1-12). -/
def bodies03 (code : Nat) : Option Body :=
  if code = cGrStatus then some bodyGrStatus
  else if code = cFunctionSet then some bodyFunctionSet
  else if code = cFunctionEnable then some bodyFunctionEnable
  else if code = cLaneStatus then some bodyLaneStatus
  else if code = cCoefBankWrite then some bodyCoefBankWrite
  else if code = cCoefBankSwap then some bodyCoefBankSwap
  else if code = cRecordCapture then some bodyRecordCapture
  else if code = cRecordRead then some bodyRecordRead
  else if code = cReplay then some (opBody 0 [(0, bodyReplayStatus), (1, bodyReplayLoad), (2, bodyReplayRun), (3, bodyReplayAbort)])
  else none

/-- The meanings of Quartz, by code (Table 1-12). -/
def bodies04 (code : Nat) : Option Body :=
  if code = cQzStatus then some bodyQzStatus
  else if code = cQzResultsRead then some bodyQzResultsRead
  else if code = cQzCropSelect then some bodyQzCropSelect
  else if code = cQzTapRequest then some (opBody 0 [(1, bodyQzTapRequestTap), (2, bodyQzTapRequestTeach),
      (3, bodyQzTapRequestForget)])
  else if code = cQzDiagRequest then some bodyQzDiagRequest
  else if code = cQzRawCapture then some (opBody 0 [(0, bodyQzRawCaptureStatus), (1, bodyQzRawCaptureStart),
      (2, bodyQzRawCaptureStop), (3, bodyQzRawCaptureRead)])
  else none

/-- The meanings of crop flow, by code (Table 1-12). -/
def bodies05 (code : Nat) : Option Body :=
  if code = cCfStatus then some bodyCfStatus
  else if code = cYieldRead then some bodyYieldRead
  else if code = cCfCalibrate then some (opBody 0 [(1, bodyCfCalibrateFlowZero), (2, bodyCfCalibrateTankTare),
      (3, bodyCfCalibrateLoadBegin), (4, bodyCfCalibrateLoadEnd), (5, bodyCfCalibrateLoadAbort), (6, bodyCfCalibrateGainReset),
      (7, bodyCfCalibrateDelayReset)])
  else if code = cOptimizerTargets then some bodyOptimizerTargets
  else if code = cOptimizerEnable then some bodyOptimizerEnable
  else if code = cCoveragePut then some (opBody 0 [(1, bodyCoveragePutFieldOpen), (2, bodyCoveragePutFieldClose),
      (3, bodyCoveragePutCells)])
  else if code = cCoverageGet then some (opBody 0 [(1, bodyCoverageGetBits), (2, bodyCoverageGetChanges)])
  else if code = cMapExport then some bodyMapExport
  else none

/-- The meanings of the valves, by code (Table 1-12). -/
def bodies06 (code : Nat) : Option Body :=
  if code = cVdCommand then some (opBody 13 [(0, bodyVdCommandOff), (1, bodyVdCommandPulse), (2, bodyVdCommandCurrent)])
  else if code = cVdStatus then some bodyVdStatus
  else if code = cVdTimingRead then some bodyVdTimingRead
  else if code = cVdDiag then some (opBody 0 [(1, bodyVdDiagChannel), (2, bodyVdDiagBank), (3, bodyVdDiagClear)])
  else none

/-- The meanings of the load switches, by code (Table 1-12). -/
def bodies07 (code : Nat) : Option Body :=
  if code = cLsCommand then some (opBody 13 [(0, bodyLsCommandOff), (1, bodyLsCommandOn), (2, bodyLsCommandPwm)])
  else if code = cLsStatus then some bodyLsStatus
  else if code = cLsLatchClear then some bodyLsLatchClear
  else if code = cLsDiag then some (opBody 0 [(1, bodyLsDiagOffState), (2, bodyLsDiagOnTest)])
  else none

/-- The meanings of GNSS and steering, by code (Table 1-12). -/
def bodies08 (code : Nat) : Option Body :=
  if code = cGnStatus then some bodyGnStatus
  else if code = cGnSolutionGet then some bodyGnSolutionGet
  else if code = cRtcmPut then some bodyRtcmPut
  else if code = cGnConfig then some (opBody 0 [(1, bodyGnConfigRestart), (2, bodyGnConfigSeed), (3, bodyGnConfigNotchReset),
      (4, bodyGnConfigAntennaRetry), (5, bodyGnConfigImuSelftest)])
  else if code = cPathLoad then some (opBody 0 [(1, bodyPathLoadLoadNext), (2, bodyPathLoadClearNext),
      (3, bodyPathLoadShift)])
  else if code = cSteerEngage then some bodySteerEngage
  else none

/-- The meanings of the fabric, by code (Table 1-12). -/
def bodies09 (code : Nat) : Option Body :=
  if code = cFbStatus then some bodyFbStatus
  else if code = cFbTopology then some bodyFbTopology
  else if code = cFbNodeAssign then some bodyFbNodeAssign
  else if code = cFbCableTest then some bodyFbCableTest
  else if code = cFbRelay then some bodyFbRelay
  else none

/-- The meanings of CAN, by code (Table 1-12). -/
def bodies0A (code : Nat) : Option Body :=
  if code = cCnStatus then some bodyCnStatus
  else if code = cCnConfig then some (opBody 1 [(1, bodyCnConfigRestart), (2, bodyCnConfigReclaim)])
  else if code = cCnSend then some bodyCnSend
  else if code = cCnCancel then some bodyCnCancel
  else if code = cCnFilterSet then some bodyCnFilterSet
  else none

/-- The meanings of storage, by code (Table 1-12). -/
def bodies0B (code : Nat) : Option Body :=
  if code = cMcStatus then some bodyMcStatus
  else if code = cStoreStatus then some bodyStoreStatus
  else if code = cMcBankState then some bodyMcBankState
  else if code = cMapFlush then some bodyMapFlush
  else none

/-- The meanings of the event recorder, by code (Table 1-12). -/
def bodies0C (code : Nat) : Option Body :=
  if code = cEvRead then some bodyEvRead
  else if code = cEvReadPriv then some bodyEvReadPriv
  else if code = cEvCount then some bodyEvCount
  else if code = cEvClear then some bodyEvClear
  else none

/-- The meanings of update, by code (Table 1-12). -/
def bodies0D (code : Nat) : Option Body :=
  if code = cUpdateBegin then some bodyUpdateBegin
  else if code = cUpdateData then some bodyUpdateData
  else if code = cUpdateStatus then some bodyUpdateStatus
  else if code = cUpdateActivate then some bodyUpdateActivate
  else if code = cUpdateConfirm then some bodyUpdateConfirm
  else if code = cUpdateAbort then some (opBody 8 [(1, bodyUpdateAbortStaging), (2, bodyUpdateAbortFallback), (3, bodyUpdateAbortResolveAbort)])
  else none

/-- The meanings of reset, lifecycle and power, by code (Table 1-12). -/
def bodies0E (code : Nat) : Option Body :=
  if code = cResetRequest then some bodyResetRequest
  else if code = cLifecycleGet then some bodyLifecycleGet
  else if code = cLifecycleSet then some (opBody 0 [(1, bodyLifecycleSetTransition), (2, bodyLifecycleSetProvisionKey),
      (3, bodyLifecycleSetRevokeKey)])
  else if code = cOwnerLock then some (opBody 0 [(1, bodyOwnerLockSet), (2, bodyOwnerLockClear), (3, bodyOwnerLockPermitService)])
  else if code = cStandbyEnter then some bodyStandbyEnter
  else if code = cPowerStatus then some bodyPowerStatus
  else if code = cDomainState then some bodyDomainState
  else none

/-- The meanings of the panel, by code (Table 1-12). -/
def bodies0F (code : Nat) : Option Body :=
  if code = cSpWrite then some bodySpWrite
  else if code = cSpStatus then some bodySpStatus
  else none

/-- The meanings of fault injection, by code (Table 1-12). -/
def bodies10 (code : Nat) : Option Body :=
  if code = cInject then some bodyInject
  else if code = cInjectClear then some bodyInjectClear
  else if code = cInjectList then some bodyInjectList
  else if code = cSelftest then some bodySelftest
  else none

/-- The meanings of parameters, by code (Table 1-12). -/
def bodies11 (code : Nat) : Option Body :=
  if code = cParamGet then some bodyParamGet
  else if code = cParamSet then some bodyParamSet
  else if code = cParamInfo then some bodyParamInfo
  else if code = cParamList then some bodyParamList
  else none

/-- The meaning of a command code; none for a code that Table 1-12 does not list. -/
def bodyOf (code : Nat) : Option Body :=
  match code / 256 with
  | 0 => bodies00 code
  | 1 => bodies01 code
  | 2 => bodies02 code
  | 3 => bodies03 code
  | 4 => bodies04 code
  | 5 => bodies05 code
  | 6 => bodies06 code
  | 7 => bodies07 code
  | 8 => bodies08 code
  | 9 => bodies09 code
  | 10 => bodies0A code
  | 11 => bodies0B code
  | 12 => bodies0C code
  | 13 => bodies0D code
  | 14 => bodies0E code
  | 15 => bodies0F code
  | 16 => bodies10 code
  | 17 => bodies11 code
  | _ => none

end Sys2Proof.Machine
end

