-- ==== Sys2Proof/Machine/Serve.lean ====
section
/-!
DEFINITION. Machine/Serve.lean: the reception of mailbox messages (R16 to R18, R27 to R33, Table 1-3), and of the Skim and CAN frames that can
bring them.
-/

namespace Sys2Proof.Machine

/-! ### Steps 7 to 10 -/

/-- A command is executed: a code that Table 1-12 does not list is UNKNOWN_CMD, whatever the role (R53). -/
def runCommand (c : Ctx) (s : State) : State :=
  match bodyOf c.code with
  | some b => runBody c b s
  | none => if halfOpen s c.session then answerOnce c stNotAuth s else answer c stUnknownCmd [] s

/-- The accepted commands of a session run in order until one is not finished (R33); by fuel. -/
def pumpChan : Nat → Nat → Binding → State → State
  | 0, _, _, s => s
  | n + 1, num, b, s =>
    match findChan s num b with
    | none => s
    | some x =>
      match x.exec, x.queue with
      | none, q :: qs =>
        pumpChan n num b (runCommand (chanCtx x q.seq q.era q.code q.payload q.frame) (updChan num b (fun y => { y with queue := qs }) s))
      | _, _ => s

/-- A session whose era is exhausted closes with reason 3 once every command is answered (R31). -/
def closeEnded (s : State) : State :=
  (s.mb.sessions.filter (fun x => x.ending && !chanBusy x)).foldl (fun st x => closeSession x.num 3 st) s

/-- Every session goes on with the commands that wait for their turn. -/
def runQueues (s : State) : State :=
  if mailUp s then
    closeEnded ((s.mb.peers0 ++ s.mb.sessions).foldl (fun st x => pumpChan 16 x.num x.binding st) s)
  else s

/-! ### Fragments (R17, R18) -/

/-- The assembly of a session ends without execution: BAD_ARG, and the rest of the command is answered BAD_ARG too. -/
def endAssembly (c : Ctx) (code : Nat) (s : State) : State :=
  updChan c.session c.binding (fun y => { y with asm := none, doomed := y.doomed ++ [code] }) (answer c stBadArg [] s)

/-- A non-final fragment joins the assembly and is answered with the bytes assembled so far. -/
def joinFragment (c : Ctx) (a : Assembly) (s : State) : State :=
  let data := a.data ++ c.payload
  updChan c.session c.binding (fun y => { y with asm := some ⟨a.code, data, a.frags + 1, s.clk.ms⟩ }) (answer c stOk (u32 data.length) s)

/-- Whether a fragment breaks R17 in an assembly of `frags` fragments and `have'` bytes. -/
def breaksR17 (frags have' : Nat) (more : Bool) (n : Nat) : Bool :=
  (more && (n != 1024 || decide (63 ≤ frags))) || decide (65536 < have' + n)

/-- A message that its session has accepted: part of an assembly, or a command (R18). The checks of steps 7 and 8 come before the fragment
rule of step 9. -/
def takeMessage (c : Ctx) (more : Bool) (x : Sess) (s : State) : State :=
  let s0 := if more then s else updChan c.session c.binding (fun y => { y with doomed := y.doomed.filter (fun k => k != c.code) }) s
  match x.asm with
    | some a =>
      if c.code ≠ a.code then endAssembly c a.code s0
      else if breaksR17 a.frags a.data.length more c.payload.length then endAssembly c a.code s
      else if more then joinFragment c a s
      else
        let c1 := { c with payload := a.data ++ c.payload }
        acceptCommand c1 (runCommand c1) (updChan c.session c.binding (fun y => { y with asm := none }) s)
    | none =>
      if x.doomed.contains c.code then answer c stBadArg [] s0
      else if !more then acceptCommand c (runCommand c) s
      else if 16 ≤ unfinished x then answer c stBusy [] s
      else if !roleOk c then answer c stNotAuth [] s
      else if (bodyOf c.code).isNone then answer c stUnknownCmd [] s
      else if breaksR17 0 0 true c.payload.length then endAssembly c c.code s
      else joinFragment c ⟨c.code, [], 0, 0⟩ s

/-! ### The sequence rule (R30, R31) -/

/-- E passes the sequence it expects; past 65,535 the era goes on, and past era 65,535 the session is to end (R31). -/
def advance (x : Sess) : Sess :=
  if x.e = 65535 then { x with e := 0, era := x.era + 1, ending := x.ending || (x.num != 0 && decide (65535 ≤ x.era)) }
  else { x with e := x.e + 1 }

/-- The message with sequence E is taken. -/
def takeNext (m : HeldMsg) (x : Sess) (s : State) : State :=
  let s1 := updChan x.num x.binding advance s
  if m.spent then s1 else takeMessage (chanCtx x m.seq x.era m.code m.payload s.clk.frame) m.more x s1

/-- Held messages whose turn has come are released; by fuel, at most 8 are held. -/
def release : Nat → Nat → Binding → State → State
  | 0, _, _, s => s
  | n + 1, num, b, s =>
    match findChan s num b with
    | none => s
    | some x =>
      match x.held.find? (fun m => m.seq == x.e) with
      | none => s
      | some m =>
        let s1 := updChan num b (fun y => { y with held := y.held.filter (fun z => z.seq != m.seq) }) s
        release n num b (takeNext m { x with held := x.held.filter (fun z => z.seq != m.seq) } s1)

/-- A message ahead of E is held (R30); beyond 16 unfinished commands it is answered BUSY and only its sequence waits (R33). -/
def holdMessage (m : HeldMsg) (x : Sess) (s : State) : State :=
  if x.held.any (fun y => y.seq == m.seq) || 8 ≤ x.held.length then countDiscarded s
  else
    let busy := decide (16 ≤ unfinished x)
    let s1 := if busy then answer (chanCtx x m.seq (if m.seq < x.e then x.era + 1 else x.era) m.code [] s.clk.frame) stBusy [] s else s
    updChan x.num x.binding (fun y => { y with held := y.held ++ [{ m with spent := busy }] }) s1

/-- A duplicate: the cached response is sent again, unchanged; session 0 keeps none, and discards and counts it (R27, R30). -/
def duplicate (seq : Nat) (x : Sess) (s : State) : State :=
  if x.num = 0 then countDiscarded s
  else match (x.cache.filter (fun y => y.1 == seq)).getLast? with
    | some y => { s with out := s.out ++ y.2.map (fun o => { o with key := x.keyOut }) }
    | none => s

/-- The sequence rule for an open session or a session-0 binding (R30). -/
def sequenceRule (m : HeldMsg) (x : Sess) (s : State) : State :=
  let d := (m.seq + 65536 - x.e) % 65536
  if d = 0 then closeEnded (release 9 x.num x.binding (takeNext m x s))
  else if d ≤ 8 then holdMessage m x s
  else if 65520 ≤ d then duplicate m.seq x s
  else countDiscarded s

/-- A half-open session (R28): E is 0, nothing is held, and only SESSION_PROVE is permitted; any other command is answered NOT_AUTH and consumes
nothing. -/
def halfOpenRule (m : HeldMsg) (x : Sess) (s : State) : State :=
  let c := chanCtx x m.seq 0 m.code m.payload s.clk.frame
  if m.seq ≠ 0 then countDiscarded s
  else if m.code ≠ cSessionProve then answerOnce c stNotAuth s
  else if m.more || !m.payload.isEmpty then answerOnce c stBadArg s
  else runCommand c s

/-! ### Steps 3 to 6 -/

/-- The era in which a received sequence lies: the one nearest to E (R29, R31; log entry 43). -/
def eraOf (x : Sess) (seq : Nat) : Nat :=
  let d := (seq + 65536 - x.e) % 65536
  if d < 32768 then (if seq < x.e then x.era + 1 else x.era) else (if x.e ≤ seq then x.era - 1 else x.era)

/-- The payload of an authenticated message, if its tag verifies (R29). -/
def openMsg (x : Sess) (m : WireMsg) : Option Bytes :=
  let iv := u32 m.epoch ++ u16 m.session ++ u16 m.seq ++ u16 (eraOf x m.seq) ++ u8 0 ++ u8 0
  if bit m.flags 2 && gcmTag x.keyIn iv m.head m.payload == m.tag then some (gcmCrypt x.keyIn iv m.payload) else none

/-- A received message as the sequence rule sees it. -/
def heldOf (m : WireMsg) (payload : Bytes) (s : State) : HeldMsg := ⟨m.seq, m.code, bit m.flags 3, payload, s.clk.ms, false⟩

/-- Steps 4 to 6 in session 0: EPOCH may be 0, AUTH must be 0, and the first message of a binding sets E (R27). -/
def receive0 (b : Binding) (m : WireMsg) (s : State) : State :=
  if m.epoch ≠ 0 && m.epoch ≠ s.mb.epoch then answer0 b m.seq m.code stEpochMismatch s
  else if bit m.flags 2 then authFail b false s
  else match findChan s 0 b with
    | some x => sequenceRule (heldOf m m.payload s) x s
    | none =>
      let x := newSess 0 0 b true m.seq s.clk.ms
      sequenceRule (heldOf m m.payload s) x (updMb (fun y => { y with peers0 := y.peers0 ++ [x] }) s)

/-- Steps 3 to 6 in another session. A message that passes step 5 keeps the session alive (R35). -/
def receiveIn (b : Binding) (m : WireMsg) (s : State) : State :=
  match findSess s m.session with
  | none => answer0 b m.seq m.code stNotAuth s
  | some x =>
    if x.binding ≠ b then answer0 b m.seq m.code stNotAuth s
    else if m.epoch ≠ s.mb.epoch then answer0 b m.seq m.code stEpochMismatch s
    else match openMsg x m with
      | none => authFail b (m.code == cSessionProve) s
      | some payload =>
        let s1 := updSess x.num (fun y => { y with lastAuth := s.clk.ms }) s
        let x1 := { x with lastAuth := s.clk.ms }
        if x.isOpen then sequenceRule (heldOf m payload s) x1 s1 else halfOpenRule (heldOf m payload s) x1 s1

/-- A whole message on a transport whose framing is intact: steps 1 and 2, then by session. A binding is heard by any message that passes step 2
(R27). -/
def receiveMessage (b : Binding) (w : Bytes) (s : State) : State :=
  match commandMsg w with
  | none => countMalformed s
  | some m =>
    let s1 := updChan 0 b (fun x => { x with lastAuth := s.clk.ms }) s
    if m.session = 0 then receive0 b m s1 else receiveIn b m s1

/-- MESSAGE_RECEIVE (R16, R20 to R23): a message arrives on a transport that is enabled. On the console UART `wire` is the delimited frame; on
any transport `intact` says whether the transport's own framing is. -/
def execMessageReceive (b : Binding) (intact : Bool) (wire : Bytes) (s : State) : Host.Outcome State Fault Refusal :=
  .next (if !transportOn s b then s
    else if !intact then countMalformed s
    else if b.transport = .uart then
      match uartMsg wire with
      | some w => receiveMessage b w s
      | none => countMalformed s
    else receiveMessage b wire s)

/-! ### Frames of the fabric and of CAN -/

/-- A mailbox message from a node: a response or notification for a relay, else a command; FLOW_ID 0 is the node's own traffic, any other one names
an outer binding there (R25; log entry 44). -/
def fabricMail (src flow : Nat) (data : Bytes) (s : State) : State :=
  if !mailUp s then s
  else if bit (rdN data 3 1) 0 then innerResponse src flow data s
  else if bit (rdN data 3 1) 1 then relayedNote flow data s
  else receiveMessage ⟨.fabric, src, if flow = 0 then 0 else src, flow⟩ data s

/-- A Skim frame for this module goes to the owner of its class (R268); `gap` is the first missing SEQ and how many. -/
def skimDeliver (f : SkimFrame) (gap : Option (Nat × Nat)) (s : State) : State :=
  if f.cls = 1 then fabricPump (fabricMail f.src f.flow f.data s)
  else if f.cls = 2 then chainMessage f.src f.data s
  else if f.data.length = 8 then mirrorAgain f.flow (rdN f.data 0 4) (rdN f.data 4 4) s
  else
    let s1 := match gap with
      | some g => mirrorAsk f.src f.flow g.1 g.2 s
      | none => s
    mirrorStore f.flow f.data s1

/-- SKIM_FRAME_RECEIVE (R248, R256, R268, R269): a frame is discarded, forwarded, or delivered to its owner. -/
def execSkimFrameReceive (port : Fin 4) (good : Bool) (f : SkimFrame) (s : State) : Host.Outcome State Fault Refusal :=
  let expect := (s.fb.flows.find? (fun x => x.src == f.src && x.cls == f.cls && x.flow == f.flow)).map SkimFlow.expect
  let gap := match expect with
    | some e => if e < f.seq then some (e, f.seq - e) else none
    | none => none
  let r := skimRoute port.val good f s
  .next (if r.2 = .delivered then skimDeliver f gap r.1 else r.1)

/-- CAN_FRAME_RECEIVE (R284, R285, R288, R291, R292): the frame goes to the module, the record and the host; the last packet of a transfer brings
a mailbox message. -/
def execCanFrameReceive (port : Fin 4) (f : CanFrame) (cycle err : Nat) (s : State) : Host.Outcome State Fault Refusal :=
  let r := canReceive port.val f cycle err s
  .next (match r.2 with
    | some m =>
      let b : Binding := ⟨.can, m.1, 0, 0⟩
      canPump (if transportOn r.1 b then receiveMessage b m.2 r.1 else r.1)
    | none => r.1)

end Sys2Proof.Machine
end

