-- ==== Sys2Proof/Machine/Frame.lean ====
section
/-!
DEFINITION. Machine/Frame.lean: the two instants that begin a frame (Table 3-1): the cut-off, at which the frame part of the input record closes
(R78 to R80), and the frame start, at which the record is released and the frame's work runs (R76).
-/

namespace Sys2Proof.Machine

/-! ### The cut-off -/

/-- A valve channel's D9 status (R191): bit 0 thermal latch, bit 1 current limit, bit 2 open load, bit 3 FAULT. -/
def vdD9 (c : VdChan) : Nat :=
  b2n (c.st == .fault && c.cause == 6) + 2 * b2n ((c.st == .fault && 2 ≤ c.cause && c.cause ≤ 5) || c.limited) +
    4 * b2n (c.st == .fault && c.cause == 1) + 8 * b2n (c.st == .fault)

/-- A load switch's D9 status: bit 0 thermal latch, bit 1 current limit, also of a SHED channel (R216), bit 2 open load, bit 3 LATCHED. -/
def lsD9 (c : LsChan) : Nat :=
  b2n c.hot + 2 * b2n (c.st == .limit || c.st == .shed) + 4 * b2n c.openLoad + 8 * b2n (c.st == .latched)

/-- The boost rail and VBAT as the record holds them, with injected values in place (R333). -/
def railRec (s : State) : Nat := (measured s detBoostConverterNotReaching55V 0 (measured s detBoostRailBelow40V 0 s.an.rail)).toNat

/-- VBAT as the record holds it. -/
def vbatIn (s : State) : Nat := (measured s detVbatOvervoltage 0 (measured s detVbatUndervoltage 0 s.an.vbat)).toNat

/-- The D9 status part (Table 3-2): valves, load switches, the boost rail and VBAT in mV. -/
def d9Part (s : State) : List Nat :=
  (List.range 12).map (fun k => vdD9 (vdChan s k)) ++ (List.range 24).map (fun k => lsD9 (lsChan s k)) ++ [railRec s, vbatIn s]

/-- The cell that carries a receive entry, if a valid copy has arrived. -/
def cellFor (s : State) (e : Bytes) : Option CreamRx := s.fb.rx.find? (fun r => r.src == rdN e 3 1 && r.cell == rdN e 0 1)

/-- A Cream input at the cut-off: the value that has arrived, or the last one substituted and a miss more (R79). -/
def creamInput (s : State) (v : CreamVal) : CreamVal :=
  let e := nth s.pf.work.cream v.index []
  match cellFor s e with
  | some r => { v with value := nth r.values (rdN e 1 1) 0, arrived := true, substituted := false, safe := bit r.safe (rdN e 1 1), misses := 0 }
  | none => { v with arrived := false, substituted := true, misses := satU 8 (v.misses + 1) }

/-- The cells the share receives, each once, as peer and cell. -/
def cellsIn (s : State) : List (Nat × Nat) :=
  ((s.pf.work.cream.filter (fun e => rdN e 2 1 == 2)).map (fun e => (rdN e 3 1, rdN e 0 1))).eraseDups

/-- The cells missed in the record that closes are counted, and those received give way to the next frame's. -/
def creamClose (s : State) : State :=
  let n := ((cellsIn s).filter (fun c => !s.fb.rx.any (fun r => r.src == c.1 && r.cell == c.2))).length
  updFb (fun b => { b with rx := [], missed := wrapU 32 (b.missed + n) }) s

/-- A signal that the record shows as not fresh, with the value held from the record before (R80, Table 11-2). -/
def holdVal (old : List SensVal) (v : SensVal) : SensVal :=
  if v.fresh then
    (match old.find? (fun o => o.index == v.index) with
      | some o => { o with fresh := false, age := satU 8 (o.age + 1) }
      | none => { v with raw := 0, fresh := false, age := 255 })
  else v

/-- Whether a converter in self-calibration gives a sensor its samples (R309). -/
def inCalibration (s : State) (e : Bytes) : Bool :=
  match s.mc.calibrating with
  | some (k, ch) => rdN e 2 1 == ch && (match k with
    | 0 => rdN e 1 1 == 5
    | 1 => rdN e 1 1 == 6
    | _ => rdN e 1 1 == 1 || rdN e 1 1 == 2)
  | none => false

/-- The parts of the record that an uncorrectable error has spoiled (0 sensors, 1 Quartz, 2 GNSS, 3 CAN, 4 Cream) and the sensor whose converter
was in self-calibration are held, not fresh (Table 11-2, R309). `old` is the record before. -/
def holdParts (old : InRec) (s : State) (n : InRec) : InRec :=
  let calib := fun (v : SensVal) => match sensEntry s v.index with
    | some e => if inCalibration s e then holdVal old.sensors v else v
    | none => v
  let n1 := { n with sensors := n.sensors.map calib }
  match s.mc.badPart with
  | some 0 => { n1 with sensors := n1.sensors.map (holdVal old.sensors) }
  | some 1 => { n1 with quartz := { old.quartz with fresh := false } }
  | some 2 => { n1 with gnss := old.gnss }
  | some 3 => { n1 with can := n1.can.map (holdVal old.can) }
  | some 4 => { n1 with cream := n1.cream.map (fun v => match old.cream.find? (fun o => o.index == v.index) with
      | some o => { o with arrived := false, substituted := true, misses := satU 8 (o.misses + 1) }
      | none => v) }
  | _ => n1

/-- The commands of the exchange area due at a frame, in acceptance order (R39). -/
def dueAt (n : FrameNo) (s : State) : List TCmd := sortBy TCmd.order (s.mb.exch.filter (fun t => t.frame == n))

/-- The record of the next frame from the state of its sources at the cut-off. `old` is the record before. While a replay runs the latch takes
no live input, and only the header and the commands change (R100). -/
def closeRecord (old : InRec) (s : State) : InRec :=
  let head := { old with frame := s.clk.frame + 1, cmds := dueAt (s.clk.frame + 1) s }
  if s.gr.replay.st = .running then head
  else holdParts old s { head with
    pcrc := s.pf.crc, digest := controlDigest s, stopA := s.an.stopA, stopB := s.an.stopB, sensors := s.gr.next.sensors, quartz := s.qz.part,
    gnss := s.gn.part, can := s.cn.vals, cream := old.cream.map (creamInput s), d9 := d9Part s }

/-- An injection forces a running raw capture to be preempted (Table 12-4 kind FW). -/
def forcedPreempt (s : State) : State :=
  if s.qz.cap.st = .running && forced s detRawCapturePreempted 0 then ringFree (capturePreempt s) else s

/-- CUT_OFF (R76, R78 to R80): 20 µs before the frame start the frame part closes. The motion condition of a profile change due in the next frame
is checked again before it (R68). `x` is what the converters and Quartz have taken in the frame. -/
def execCutOff (x : CutSample) (s : State) : Host.Outcome State Fault Refusal :=
  .next (if s.clk.running then
    let old := s.gr.next
    let s1 := selectRecheck (canClose (quartzCutoff x.reservoir x.quartz (s.clk.frame + 1) (ioCutoff x s)))
    let s2 := forcedPreempt (creamClose (updGr (fun g => { g with next := closeRecord old s1 }) s1))
    atCycle 735000 (updMc (fun m => { m with badPart := none, calibrating := none }) s2)
    else s)

/-! ### The due commands (R39, R70, R99) -/

/-- A due command takes effect. PROFILE_SELECT has done so before every other. -/
def applyCommand (t : TCmd) (s : State) : State :=
  if t.code = cFunctionSet then applyFunctionSet t s
  else if t.code = cFunctionEnable then applyFunctionEnable t s
  else if t.code = cCoefBankSwap then applyCoefBankSwap t s
  else if t.code = cRecordCapture then applyRecordCapture t s
  else if t.code = cSteerEngage then applySteerEngage t s
  else if t.code = cOptimizerTargets then applyOptimizerTargets t s
  else if t.code = cOptimizerEnable then applyOptimizerEnable t s
  else if t.code = cQzCropSelect then applyQzCropSelect t s
  else if t.code = cVdCommand then applyVdCommand t s
  else if t.code = cLsCommand then applyLsCommand (vbatRec s) t s
  else if t.code = cParamSet then applyParamSet t s
  else if t.code = cInject then applyInject t s
  else if t.code = cCnSend then applyCnSend t s
  else if t.code = cStandbyEnter then applyStandbyEnter t s
  else s

/-- APPLIED for a command with NOTIFY_APPLY that has taken effect, to its session while that is open in the epoch of acceptance (R38). -/
def tellApplied (t : TCmd) (s : State) : State :=
  if t.notify && t.epoch = s.mb.epoch && s.rs.supUp then sendNote t.session nApplied (u16 t.seq ++ zeros 2 ++ u64 s.clk.frame) s else s

/-- One command at its frame of application: it leaves the exchange area, and takes effect unless R70 discards it. -/
def applyDue (t : TCmd) (s : State) : State :=
  let s1 := setFate t .applied (updMb (fun m => { m with exch := m.exch.filter (fun y => y.order != t.order) }) s)
  if discards s1 t then discardEvent t s1 else tellApplied t (applyCommand t s1)

/-- The profile change that took effect is told first; a selection that a later one of the same frame replaced has not taken effect (R70). -/
def applySelected (due : List TCmd) (s : State) : State :=
  let sels := due.filter (fun t => (selectionOf s t).isSome)
  let s1 := applySelections due s
  let s2 := sels.foldl (fun st t =>
    setFate t .applied (updMb (fun m => { m with exch := m.exch.filter (fun y => y.order != t.order) }) st)) s1
  match sels.getLast? with
  | some t => tellApplied t s2
  | none => s2

/-- The commands of the record that are still in the exchange area: a reset of Granite's memory since the cut-off has emptied it. -/
def dueNow (s : State) : List TCmd := s.gr.cur.cmds.filter (fun t => s.mb.exch.any (fun y => y.order == t.order))

/-! ### The frame start -/

/-- The record is released: the frame counter and the millisecond count go on, a renumbering step is made, lanes join or start, and each lane
checks its copy (R76, R84, R86, R259). -/
def releaseRecord (crc : List (Fin 3)) (s : State) : State :=
  let s1 := fbBoundary { s with clk := { s.clk with frame := s.clk.frame + 1, ms := s.clk.ms + 1, cycle := 0 } }
  let s2 := updGr (fun g => { g with cur := { g.next with frame := s1.clk.frame }, tick := 0, overran := false }) s1
  let s3 := lanesJoin s2
  let s4 := if s3.pf.startPending then lanesStart s3 else s3
  let s5 := if s4.gr.mode = .start then s4 else updPf (fun p => { p with startPending := false }) s4
  if s5.gr.running then crcCheck crc s5 else s5

/-- Phase 1 of the firmware frame work (R69, R98, R99, R106): functions that start, the profile change, output faults, then every other due
command in acceptance order; a function whose stop group is asserted ends in its safe state. -/
def applyPhase (s : State) : State :=
  let due := dueNow s
  let live := s.gr.running && s.gr.replay.st != .running
  let s1 := applySelected due (if live then startFns s else s)
  let s2 := (due.filter (fun t => t.code != cProfileSelect)).foldl (fun st t => applyDue t st) (if live then faultFns s1 else s1)
  if live then stopFns s2 else s2

/-- Phases 2 and 3: signals, feedback holds, steering, ramps, and the machine slots (R76, R143, R242 to R244). `prev` is the GNSS part of the
record before. -/
def machineWork (prev : GnssPart) (s : State) : State :=
  if s.gr.running && s.gr.replay.st != .running then
    machinePhase (rampFns (steerFrame (holdFns (deriveSignals prev (cropSignals s)))))
  else s

/-- What the supervisor does once a frame with the record: crop flow, the optimizer, the CAN host and mailbox paths, update, and the commands
that wait in sessions. -/
def supervisorFrame (s : State) : State :=
  if s.rs.supUp then
    runQueues (fabricPump (answerConfirm (tellFallBack (motionFrame (canPump (canForward (optFrame (cropFrame s))))))))
  else s

/-- The machine that a frame start belongs to is ready: the clocks run and the record of this frame has closed. -/
def frameDue (s : State) : Bool := s.clk.running && s.gr.next.frame == s.clk.frame + 1

/-- FRAME_START (R76): the record of the frame is released, the machine outputs of the frame before take effect, and the firmware frame work runs
its phases. `crc` are the lanes whose copy of the record fails its check (R84). -/
def execFrameStart (crc : List (Fin 3)) (s : State) : Host.Outcome State Fault Refusal :=
  .next (if frameDue s then
    let prev := s.gr.cur.gnss
    let s1 := replayFrame (machineEffect (releaseRecord crc s))
    let s2 := machineWork prev (applyPhase s1)
    let s3 := lsLampFrame (vbatRec s2) (lsClearFrame (timeFrame (vdFrame (secondFrame s2))))
    supervisorFrame (injectionsFrame (canTxQueue s3))
    else s)

end Sys2Proof.Machine
end

