-- ==== Sys2Proof/Machine/HostRows.lean ====
section
/-!
DEFINITION. Machine/HostRows.lean: the mailbox commands as rows of the table: each carries a message that has passed steps
1 to 6 of Table 1-3, and goes through steps 7 to 10 with the command's own body (R16).
-/

namespace Sys2Proof.Machine

/-- IDENT (R52). -/
def execIdent (r : Req) (s : State) : Host.Outcome State Fault Refusal :=
  .next (hostCommand cIdent bodyIdent r s)

/-- PING (R46). -/
def execPing (r : Req) (s : State) : Host.Outcome State Fault Refusal :=
  .next (hostCommand cPing bodyPing r s)

/-- TIME_GET (R239). -/
def execTimeGet (r : Req) (s : State) : Host.Outcome State Fault Refusal :=
  .next (hostCommand cTimeGet bodyTimeGet r s)

/-- STATUS_GET (R50). -/
def execStatusGet (r : Req) (s : State) : Host.Outcome State Fault Refusal :=
  .next (hostCommand cStatusGet bodyStatusGet r s)

/-- SESSION_OPEN (R28). -/
def execSessionOpen (r : Req) (s : State) : Host.Outcome State Fault Refusal :=
  .next (hostCommand cSessionOpen bodySessionOpen r s)

/-- SESSION_PROVE (R28). -/
def execSessionProve (r : Req) (s : State) : Host.Outcome State Fault Refusal :=
  .next (hostCommand cSessionProve bodySessionProve r s)

/-- SESSION_CLOSE (R442). -/
def execSessionClose (r : Req) (s : State) : Host.Outcome State Fault Refusal :=
  .next (hostCommand cSessionClose bodySessionClose r s)

/-- SESSION_LIST (R442). -/
def execSessionList (r : Req) (s : State) : Host.Outcome State Fault Refusal :=
  .next (hostCommand cSessionList bodySessionList r s)

/-- SUBSCRIBE (R43). -/
def execSubscribe (r : Req) (s : State) : Host.Outcome State Fault Refusal :=
  .next (hostCommand cSubscribe bodySubscribe r s)

/-- UNSUBSCRIBE (R43). -/
def execUnsubscribe (r : Req) (s : State) : Host.Outcome State Fault Refusal :=
  .next (hostCommand cUnsubscribe bodyUnsubscribe r s)

/-- PENDING_LIST (R442). -/
def execPendingList (r : Req) (s : State) : Host.Outcome State Fault Refusal :=
  .next (hostCommand cPendingList bodyPendingList r s)

/-- PENDING_CANCEL (R40). -/
def execPendingCancel (r : Req) (s : State) : Host.Outcome State Fault Refusal :=
  .next (hostCommand cPendingCancel bodyPendingCancel r s)

/-- FB_RELAY (R24). -/
def execFbRelay (r : Req) (s : State) : Host.Outcome State Fault Refusal :=
  .next (hostCommand cFbRelay bodyFbRelay r s)

/-- PARAM_GET (R444). -/
def execParamGet (r : Req) (s : State) : Host.Outcome State Fault Refusal :=
  .next (hostCommand cParamGet bodyParamGet r s)

/-- PARAM_SET (R48). -/
def execParamSet (r : Req) (s : State) : Host.Outcome State Fault Refusal :=
  .next (hostCommand cParamSet bodyParamSet r s)

/-- PARAM_INFO (R47). -/
def execParamInfo (r : Req) (s : State) : Host.Outcome State Fault Refusal :=
  .next (hostCommand cParamInfo bodyParamInfo r s)

/-- PARAM_LIST (R49). -/
def execParamList (r : Req) (s : State) : Host.Outcome State Fault Refusal :=
  .next (hostCommand cParamList bodyParamList r s)

/-- PROFILE_SELECT (R67). -/
def execProfileSelect (r : Req) (s : State) : Host.Outcome State Fault Refusal :=
  .next (hostCommand cProfileSelect bodyProfileSelect r s)

/-- PROFILE_GET_ACTIVE (R56). -/
def execProfileGetActive (r : Req) (s : State) : Host.Outcome State Fault Refusal :=
  .next (hostCommand cProfileGetActive bodyProfileGetActive r s)

/-- PROFILE_READ (R446). -/
def execProfileRead (r : Req) (s : State) : Host.Outcome State Fault Refusal :=
  .next (hostCommand cProfileRead bodyProfileRead r s)

/-- PROFILE_WRITE (R72). -/
def execProfileWrite (r : Req) (s : State) : Host.Outcome State Fault Refusal :=
  .next (hostCommand cProfileWrite bodyProfileWrite r s)

/-- PROFILE_VALIDATE (R66). -/
def execProfileValidate (r : Req) (s : State) : Host.Outcome State Fault Refusal :=
  .next (hostCommand cProfileValidate bodyProfileValidate r s)

/-- PROFILE_SAVE (R73). -/
def execProfileSave (r : Req) (s : State) : Host.Outcome State Fault Refusal :=
  .next (hostCommand cProfileSave bodyProfileSave r s)

/-- PROFILE_SET_DEFAULT (R74). -/
def execProfileSetDefault (r : Req) (s : State) : Host.Outcome State Fault Refusal :=
  .next (hostCommand cProfileSetDefault bodyProfileSetDefault r s)

/-- MD_READ (R62). -/
def execMdRead (r : Req) (s : State) : Host.Outcome State Fault Refusal :=
  .next (hostCommand cMdRead bodyMdRead r s)

/-- GR_STATUS (R85). -/
def execGrStatus (r : Req) (s : State) : Host.Outcome State Fault Refusal :=
  .next (hostCommand cGrStatus bodyGrStatus r s)

/-- FUNCTION_SET (R99). -/
def execFunctionSet (r : Req) (s : State) : Host.Outcome State Fault Refusal :=
  .next (hostCommand cFunctionSet bodyFunctionSet r s)

/-- FUNCTION_ENABLE (R96). -/
def execFunctionEnable (r : Req) (s : State) : Host.Outcome State Fault Refusal :=
  .next (hostCommand cFunctionEnable bodyFunctionEnable r s)

/-- LANE_STATUS (R86). -/
def execLaneStatus (r : Req) (s : State) : Host.Outcome State Fault Refusal :=
  .next (hostCommand cLaneStatus bodyLaneStatus r s)

/-- COEF_BANK_WRITE (R92). -/
def execCoefBankWrite (r : Req) (s : State) : Host.Outcome State Fault Refusal :=
  .next (hostCommand cCoefBankWrite bodyCoefBankWrite r s)

/-- COEF_BANK_SWAP (R93). -/
def execCoefBankSwap (r : Req) (s : State) : Host.Outcome State Fault Refusal :=
  .next (hostCommand cCoefBankSwap bodyCoefBankSwap r s)

/-- RECORD_CAPTURE (R103). -/
def execRecordCapture (r : Req) (s : State) : Host.Outcome State Fault Refusal :=
  .next (hostCommand cRecordCapture bodyRecordCapture r s)

/-- RECORD_READ (R103). -/
def execRecordRead (r : Req) (s : State) : Host.Outcome State Fault Refusal :=
  .next (hostCommand cRecordRead bodyRecordRead r s)

/-- REPLAY_STATUS (R100). -/
def execReplayStatus (r : Req) (s : State) : Host.Outcome State Fault Refusal :=
  .next (hostCommand cReplay bodyReplayStatus r s)

/-- REPLAY_LOAD (R100). -/
def execReplayLoad (r : Req) (s : State) : Host.Outcome State Fault Refusal :=
  .next (hostCommand cReplay bodyReplayLoad r s)

/-- REPLAY_RUN (R100). -/
def execReplayRun (r : Req) (s : State) : Host.Outcome State Fault Refusal :=
  .next (hostCommand cReplay bodyReplayRun r s)

/-- REPLAY_ABORT (R100). -/
def execReplayAbort (r : Req) (s : State) : Host.Outcome State Fault Refusal :=
  .next (hostCommand cReplay bodyReplayAbort r s)

/-- QZ_STATUS (R137). -/
def execQzStatus (r : Req) (s : State) : Host.Outcome State Fault Refusal :=
  .next (hostCommand cQzStatus bodyQzStatus r s)

/-- QZ_RESULTS_READ (R137). -/
def execQzResultsRead (r : Req) (s : State) : Host.Outcome State Fault Refusal :=
  .next (hostCommand cQzResultsRead bodyQzResultsRead r s)

/-- QZ_CROP_SELECT (R119). -/
def execQzCropSelect (r : Req) (s : State) : Host.Outcome State Fault Refusal :=
  .next (hostCommand cQzCropSelect bodyQzCropSelect r s)

/-- QZ_TAP_REQUEST_TAP (R137). -/
def execQzTapRequestTap (r : Req) (s : State) : Host.Outcome State Fault Refusal :=
  .next (hostCommand cQzTapRequest bodyQzTapRequestTap r s)

/-- QZ_TAP_REQUEST_TEACH (R129). -/
def execQzTapRequestTeach (r : Req) (s : State) : Host.Outcome State Fault Refusal :=
  .next (hostCommand cQzTapRequest bodyQzTapRequestTeach r s)

/-- QZ_TAP_REQUEST_FORGET (R129). -/
def execQzTapRequestForget (r : Req) (s : State) : Host.Outcome State Fault Refusal :=
  .next (hostCommand cQzTapRequest bodyQzTapRequestForget r s)

/-- QZ_DIAG_REQUEST (R131). -/
def execQzDiagRequest (r : Req) (s : State) : Host.Outcome State Fault Refusal :=
  .next (hostCommand cQzDiagRequest bodyQzDiagRequest r s)

/-- QZ_RAW_CAPTURE_STATUS (R136). -/
def execQzRawCaptureStatus (r : Req) (s : State) : Host.Outcome State Fault Refusal :=
  .next (hostCommand cQzRawCapture bodyQzRawCaptureStatus r s)

/-- QZ_RAW_CAPTURE_START (R136). -/
def execQzRawCaptureStart (r : Req) (s : State) : Host.Outcome State Fault Refusal :=
  .next (hostCommand cQzRawCapture bodyQzRawCaptureStart r s)

/-- QZ_RAW_CAPTURE_STOP (R136). -/
def execQzRawCaptureStop (r : Req) (s : State) : Host.Outcome State Fault Refusal :=
  .next (hostCommand cQzRawCapture bodyQzRawCaptureStop r s)

/-- QZ_RAW_CAPTURE_READ (R136). -/
def execQzRawCaptureRead (r : Req) (s : State) : Host.Outcome State Fault Refusal :=
  .next (hostCommand cQzRawCapture bodyQzRawCaptureRead r s)

/-- CF_STATUS (R161). -/
def execCfStatus (r : Req) (s : State) : Host.Outcome State Fault Refusal :=
  .next (hostCommand cCfStatus bodyCfStatus r s)

/-- YIELD_READ (R160). -/
def execYieldRead (r : Req) (s : State) : Host.Outcome State Fault Refusal :=
  .next (hostCommand cYieldRead bodyYieldRead r s)

/-- CF_CALIBRATE_FLOW_ZERO (R167). -/
def execCfCalibrateFlowZero (r : Req) (s : State) : Host.Outcome State Fault Refusal :=
  .next (hostCommand cCfCalibrate bodyCfCalibrateFlowZero r s)

/-- CF_CALIBRATE_TANK_TARE (R167). -/
def execCfCalibrateTankTare (r : Req) (s : State) : Host.Outcome State Fault Refusal :=
  .next (hostCommand cCfCalibrate bodyCfCalibrateTankTare r s)

/-- CF_CALIBRATE_LOAD_BEGIN (R153). -/
def execCfCalibrateLoadBegin (r : Req) (s : State) : Host.Outcome State Fault Refusal :=
  .next (hostCommand cCfCalibrate bodyCfCalibrateLoadBegin r s)

/-- CF_CALIBRATE_LOAD_END (R153). -/
def execCfCalibrateLoadEnd (r : Req) (s : State) : Host.Outcome State Fault Refusal :=
  .next (hostCommand cCfCalibrate bodyCfCalibrateLoadEnd r s)

/-- CF_CALIBRATE_LOAD_ABORT (R153). -/
def execCfCalibrateLoadAbort (r : Req) (s : State) : Host.Outcome State Fault Refusal :=
  .next (hostCommand cCfCalibrate bodyCfCalibrateLoadAbort r s)

/-- CF_CALIBRATE_GAIN_RESET (R152). -/
def execCfCalibrateGainReset (r : Req) (s : State) : Host.Outcome State Fault Refusal :=
  .next (hostCommand cCfCalibrate bodyCfCalibrateGainReset r s)

/-- CF_CALIBRATE_DELAY_RESET (R155). -/
def execCfCalibrateDelayReset (r : Req) (s : State) : Host.Outcome State Fault Refusal :=
  .next (hostCommand cCfCalibrate bodyCfCalibrateDelayReset r s)

/-- OPTIMIZER_TARGETS (R157). -/
def execOptimizerTargets (r : Req) (s : State) : Host.Outcome State Fault Refusal :=
  .next (hostCommand cOptimizerTargets bodyOptimizerTargets r s)

/-- OPTIMIZER_ENABLE (R158). -/
def execOptimizerEnable (r : Req) (s : State) : Host.Outcome State Fault Refusal :=
  .next (hostCommand cOptimizerEnable bodyOptimizerEnable r s)

/-- COVERAGE_PUT_FIELD_OPEN (R165). -/
def execCoveragePutFieldOpen (r : Req) (s : State) : Host.Outcome State Fault Refusal :=
  .next (hostCommand cCoveragePut bodyCoveragePutFieldOpen r s)

/-- COVERAGE_PUT_FIELD_CLOSE (R164). -/
def execCoveragePutFieldClose (r : Req) (s : State) : Host.Outcome State Fault Refusal :=
  .next (hostCommand cCoveragePut bodyCoveragePutFieldClose r s)

/-- COVERAGE_PUT_CELLS (R166). -/
def execCoveragePutCells (r : Req) (s : State) : Host.Outcome State Fault Refusal :=
  .next (hostCommand cCoveragePut bodyCoveragePutCells r s)

/-- COVERAGE_GET_BITS (R166). -/
def execCoverageGetBits (r : Req) (s : State) : Host.Outcome State Fault Refusal :=
  .next (hostCommand cCoverageGet bodyCoverageGetBits r s)

/-- COVERAGE_GET_CHANGES (R166). -/
def execCoverageGetChanges (r : Req) (s : State) : Host.Outcome State Fault Refusal :=
  .next (hostCommand cCoverageGet bodyCoverageGetChanges r s)

/-- MAP_EXPORT (R164). -/
def execMapExport (r : Req) (s : State) : Host.Outcome State Fault Refusal :=
  .next (hostCommand cMapExport bodyMapExport r s)

/-- VD_COMMAND_OFF (R193). -/
def execVdCommandOff (r : Req) (s : State) : Host.Outcome State Fault Refusal :=
  .next (hostCommand cVdCommand bodyVdCommandOff r s)

/-- VD_COMMAND_PULSE (R193). -/
def execVdCommandPulse (r : Req) (s : State) : Host.Outcome State Fault Refusal :=
  .next (hostCommand cVdCommand bodyVdCommandPulse r s)

/-- VD_COMMAND_CURRENT (R193). -/
def execVdCommandCurrent (r : Req) (s : State) : Host.Outcome State Fault Refusal :=
  .next (hostCommand cVdCommand bodyVdCommandCurrent r s)

/-- VD_STATUS (R191). -/
def execVdStatus (r : Req) (s : State) : Host.Outcome State Fault Refusal :=
  .next (hostCommand cVdStatus bodyVdStatus r s)

/-- VD_TIMING_READ (R185). -/
def execVdTimingRead (r : Req) (s : State) : Host.Outcome State Fault Refusal :=
  .next (hostCommand cVdTimingRead bodyVdTimingRead r s)

/-- VD_DIAG_CHANNEL (R194). -/
def execVdDiagChannel (r : Req) (s : State) : Host.Outcome State Fault Refusal :=
  .next (hostCommand cVdDiag bodyVdDiagChannel r s)

/-- VD_DIAG_BANK (R194). -/
def execVdDiagBank (r : Req) (s : State) : Host.Outcome State Fault Refusal :=
  .next (hostCommand cVdDiag bodyVdDiagBank r s)

/-- VD_DIAG_CLEAR (R194). -/
def execVdDiagClear (r : Req) (s : State) : Host.Outcome State Fault Refusal :=
  .next (hostCommand cVdDiag bodyVdDiagClear r s)

/-- LS_COMMAND_OFF (R217). -/
def execLsCommandOff (r : Req) (s : State) : Host.Outcome State Fault Refusal :=
  .next (hostCommand cLsCommand bodyLsCommandOff r s)

/-- LS_COMMAND_ON (R217). -/
def execLsCommandOn (r : Req) (s : State) : Host.Outcome State Fault Refusal :=
  .next (hostCommand cLsCommand bodyLsCommandOn r s)

/-- LS_COMMAND_PWM (R217). -/
def execLsCommandPwm (r : Req) (s : State) : Host.Outcome State Fault Refusal :=
  .next (hostCommand cLsCommand bodyLsCommandPwm r s)

/-- LS_STATUS (R212). -/
def execLsStatus (r : Req) (s : State) : Host.Outcome State Fault Refusal :=
  .next (hostCommand cLsStatus bodyLsStatus r s)

/-- LS_LATCH_CLEAR (R218). -/
def execLsLatchClear (r : Req) (s : State) : Host.Outcome State Fault Refusal :=
  .next (hostCommand cLsLatchClear bodyLsLatchClear r s)

/-- LS_DIAG_OFF_STATE (R213). -/
def execLsDiagOffState (r : Req) (s : State) : Host.Outcome State Fault Refusal :=
  .next (hostCommand cLsDiag bodyLsDiagOffState r s)

/-- LS_DIAG_ON_TEST (R217). -/
def execLsDiagOnTest (r : Req) (s : State) : Host.Outcome State Fault Refusal :=
  .next (hostCommand cLsDiag bodyLsDiagOnTest r s)

/-- GN_STATUS (R245). -/
def execGnStatus (r : Req) (s : State) : Host.Outcome State Fault Refusal :=
  .next (hostCommand cGnStatus bodyGnStatus r s)

/-- GN_SOLUTION_GET (R233). -/
def execGnSolutionGet (r : Req) (s : State) : Host.Outcome State Fault Refusal :=
  .next (hostCommand cGnSolutionGet bodyGnSolutionGet r s)

/-- RTCM_PUT (R230). -/
def execRtcmPut (r : Req) (s : State) : Host.Outcome State Fault Refusal :=
  .next (hostCommand cRtcmPut bodyRtcmPut r s)

/-- GN_CONFIG_RESTART (R245). -/
def execGnConfigRestart (r : Req) (s : State) : Host.Outcome State Fault Refusal :=
  .next (hostCommand cGnConfig bodyGnConfigRestart r s)

/-- GN_CONFIG_SEED (R245). -/
def execGnConfigSeed (r : Req) (s : State) : Host.Outcome State Fault Refusal :=
  .next (hostCommand cGnConfig bodyGnConfigSeed r s)

/-- GN_CONFIG_NOTCH_RESET (R226). -/
def execGnConfigNotchReset (r : Req) (s : State) : Host.Outcome State Fault Refusal :=
  .next (hostCommand cGnConfig bodyGnConfigNotchReset r s)

/-- GN_CONFIG_ANTENNA_RETRY (R221). -/
def execGnConfigAntennaRetry (r : Req) (s : State) : Host.Outcome State Fault Refusal :=
  .next (hostCommand cGnConfig bodyGnConfigAntennaRetry r s)

/-- GN_CONFIG_IMU_SELFTEST (R232). -/
def execGnConfigImuSelftest (r : Req) (s : State) : Host.Outcome State Fault Refusal :=
  .next (hostCommand cGnConfig bodyGnConfigImuSelftest r s)

/-- PATH_LOAD_LOAD_NEXT (R241). -/
def execPathLoadLoadNext (r : Req) (s : State) : Host.Outcome State Fault Refusal :=
  .next (hostCommand cPathLoad bodyPathLoadLoadNext r s)

/-- PATH_LOAD_CLEAR_NEXT (R241). -/
def execPathLoadClearNext (r : Req) (s : State) : Host.Outcome State Fault Refusal :=
  .next (hostCommand cPathLoad bodyPathLoadClearNext r s)

/-- PATH_LOAD_SHIFT (R241). -/
def execPathLoadShift (r : Req) (s : State) : Host.Outcome State Fault Refusal :=
  .next (hostCommand cPathLoad bodyPathLoadShift r s)

/-- STEER_ENGAGE (R244). -/
def execSteerEngage (r : Req) (s : State) : Host.Outcome State Fault Refusal :=
  .next (hostCommand cSteerEngage bodySteerEngage r s)

/-- FB_STATUS (R259). -/
def execFbStatus (r : Req) (s : State) : Host.Outcome State Fault Refusal :=
  .next (hostCommand cFbStatus bodyFbStatus r s)

/-- FB_TOPOLOGY (R251). -/
def execFbTopology (r : Req) (s : State) : Host.Outcome State Fault Refusal :=
  .next (hostCommand cFbTopology bodyFbTopology r s)

/-- FB_NODE_ASSIGN (R274). -/
def execFbNodeAssign (r : Req) (s : State) : Host.Outcome State Fault Refusal :=
  .next (hostCommand cFbNodeAssign bodyFbNodeAssign r s)

/-- FB_CABLE_TEST (R271). -/
def execFbCableTest (r : Req) (s : State) : Host.Outcome State Fault Refusal :=
  .next (hostCommand cFbCableTest bodyFbCableTest r s)

/-- CN_STATUS (R289). -/
def execCnStatus (r : Req) (s : State) : Host.Outcome State Fault Refusal :=
  .next (hostCommand cCnStatus bodyCnStatus r s)

/-- CN_CONFIG_RESTART (R295). -/
def execCnConfigRestart (r : Req) (s : State) : Host.Outcome State Fault Refusal :=
  .next (hostCommand cCnConfig bodyCnConfigRestart r s)

/-- CN_CONFIG_RECLAIM (R291). -/
def execCnConfigReclaim (r : Req) (s : State) : Host.Outcome State Fault Refusal :=
  .next (hostCommand cCnConfig bodyCnConfigReclaim r s)

/-- CN_SEND (R295). -/
def execCnSend (r : Req) (s : State) : Host.Outcome State Fault Refusal :=
  .next (hostCommand cCnSend bodyCnSend r s)

/-- CN_CANCEL (R283). -/
def execCnCancel (r : Req) (s : State) : Host.Outcome State Fault Refusal :=
  .next (hostCommand cCnCancel bodyCnCancel r s)

/-- CN_FILTER_SET (R284). -/
def execCnFilterSet (r : Req) (s : State) : Host.Outcome State Fault Refusal :=
  .next (hostCommand cCnFilterSet bodyCnFilterSet r s)

/-- MC_STATUS (R303). -/
def execMcStatus (r : Req) (s : State) : Host.Outcome State Fault Refusal :=
  .next (hostCommand cMcStatus bodyMcStatus r s)

/-- STORE_STATUS (R313). -/
def execStoreStatus (r : Req) (s : State) : Host.Outcome State Fault Refusal :=
  .next (hostCommand cStoreStatus bodyStoreStatus r s)

/-- MC_BANK_STATE (R316). -/
def execMcBankState (r : Req) (s : State) : Host.Outcome State Fault Refusal :=
  .next (hostCommand cMcBankState bodyMcBankState r s)

/-- MAP_FLUSH (R312). -/
def execMapFlush (r : Req) (s : State) : Host.Outcome State Fault Refusal :=
  .next (hostCommand cMapFlush bodyMapFlush r s)

/-- EV_READ (R328). -/
def execEvRead (r : Req) (s : State) : Host.Outcome State Fault Refusal :=
  .next (hostCommand cEvRead bodyEvRead r s)

/-- EV_READ_PRIV (R328). -/
def execEvReadPriv (r : Req) (s : State) : Host.Outcome State Fault Refusal :=
  .next (hostCommand cEvReadPriv bodyEvReadPriv r s)

/-- EV_COUNT (R327). -/
def execEvCount (r : Req) (s : State) : Host.Outcome State Fault Refusal :=
  .next (hostCommand cEvCount bodyEvCount r s)

/-- EV_CLEAR (R330). -/
def execEvClear (r : Req) (s : State) : Host.Outcome State Fault Refusal :=
  .next (hostCommand cEvClear bodyEvClear r s)

/-- INJECT (R332). -/
def execInject (r : Req) (s : State) : Host.Outcome State Fault Refusal :=
  .next (hostCommand cInject bodyInject r s)

/-- INJECT_CLEAR (R333). -/
def execInjectClear (r : Req) (s : State) : Host.Outcome State Fault Refusal :=
  .next (hostCommand cInjectClear bodyInjectClear r s)

/-- INJECT_LIST (R333). -/
def execInjectList (r : Req) (s : State) : Host.Outcome State Fault Refusal :=
  .next (hostCommand cInjectList bodyInjectList r s)

/-- SELFTEST (R335). -/
def execSelftest (r : Req) (s : State) : Host.Outcome State Fault Refusal :=
  .next (hostCommand cSelftest bodySelftest r s)

/-- UPDATE_BEGIN (R346). -/
def execUpdateBegin (r : Req) (s : State) : Host.Outcome State Fault Refusal :=
  .next (hostCommand cUpdateBegin bodyUpdateBegin r s)

/-- UPDATE_DATA (R347). -/
def execUpdateData (r : Req) (s : State) : Host.Outcome State Fault Refusal :=
  .next (hostCommand cUpdateData bodyUpdateData r s)

/-- UPDATE_STATUS (R351). -/
def execUpdateStatus (r : Req) (s : State) : Host.Outcome State Fault Refusal :=
  .next (hostCommand cUpdateStatus bodyUpdateStatus r s)

/-- UPDATE_ACTIVATE (R352). -/
def execUpdateActivate (r : Req) (s : State) : Host.Outcome State Fault Refusal :=
  .next (hostCommand cUpdateActivate bodyUpdateActivate r s)

/-- UPDATE_CONFIRM (R359). -/
def execUpdateConfirm (r : Req) (s : State) : Host.Outcome State Fault Refusal :=
  .next (hostCommand cUpdateConfirm bodyUpdateConfirm r s)

/-- UPDATE_ABORT_STAGING (R346). -/
def execUpdateAbortStaging (r : Req) (s : State) : Host.Outcome State Fault Refusal :=
  .next (hostCommand cUpdateAbort bodyUpdateAbortStaging r s)

/-- UPDATE_ABORT_FALLBACK (R357). -/
def execUpdateAbortFallback (r : Req) (s : State) : Host.Outcome State Fault Refusal :=
  .next (hostCommand cUpdateAbort bodyUpdateAbortFallback r s)

/-- UPDATE_ABORT_RESOLVE_ABORT (R356). -/
def execUpdateAbortResolveAbort (r : Req) (s : State) : Host.Outcome State Fault Refusal :=
  .next (hostCommand cUpdateAbort bodyUpdateAbortResolveAbort r s)

/-- RESET_REQUEST (R383). -/
def execResetRequest (r : Req) (s : State) : Host.Outcome State Fault Refusal :=
  .next (hostCommand cResetRequest bodyResetRequest r s)

/-- LIFECYCLE_GET (R377). -/
def execLifecycleGet (r : Req) (s : State) : Host.Outcome State Fault Refusal :=
  .next (hostCommand cLifecycleGet bodyLifecycleGet r s)

/-- LIFECYCLE_SET_TRANSITION (R380). -/
def execLifecycleSetTransition (r : Req) (s : State) : Host.Outcome State Fault Refusal :=
  .next (hostCommand cLifecycleSet bodyLifecycleSetTransition r s)

/-- LIFECYCLE_SET_PROVISION_KEY (R379). -/
def execLifecycleSetProvisionKey (r : Req) (s : State) : Host.Outcome State Fault Refusal :=
  .next (hostCommand cLifecycleSet bodyLifecycleSetProvisionKey r s)

/-- LIFECYCLE_SET_REVOKE_KEY (R379). -/
def execLifecycleSetRevokeKey (r : Req) (s : State) : Host.Outcome State Fault Refusal :=
  .next (hostCommand cLifecycleSet bodyLifecycleSetRevokeKey r s)

/-- OWNER_LOCK_SET (R382). -/
def execOwnerLockSet (r : Req) (s : State) : Host.Outcome State Fault Refusal :=
  .next (hostCommand cOwnerLock bodyOwnerLockSet r s)

/-- OWNER_LOCK_CLEAR (R382). -/
def execOwnerLockClear (r : Req) (s : State) : Host.Outcome State Fault Refusal :=
  .next (hostCommand cOwnerLock bodyOwnerLockClear r s)

/-- OWNER_LOCK_PERMIT_SERVICE (R382). -/
def execOwnerLockPermitService (r : Req) (s : State) : Host.Outcome State Fault Refusal :=
  .next (hostCommand cOwnerLock bodyOwnerLockPermitService r s)

/-- STANDBY_ENTER (R396). -/
def execStandbyEnter (r : Req) (s : State) : Host.Outcome State Fault Refusal :=
  .next (hostCommand cStandbyEnter bodyStandbyEnter r s)

/-- POWER_STATUS (R392). -/
def execPowerStatus (r : Req) (s : State) : Host.Outcome State Fault Refusal :=
  .next (hostCommand cPowerStatus bodyPowerStatus r s)

/-- DOMAIN_STATE (R404). -/
def execDomainState (r : Req) (s : State) : Host.Outcome State Fault Refusal :=
  .next (hostCommand cDomainState bodyDomainState r s)

/-- SP_WRITE (R409). -/
def execSpWrite (r : Req) (s : State) : Host.Outcome State Fault Refusal :=
  .next (hostCommand cSpWrite bodySpWrite r s)

/-- SP_STATUS (R415). -/
def execSpStatus (r : Req) (s : State) : Host.Outcome State Fault Refusal :=
  .next (hostCommand cSpStatus bodySpStatus r s)

end Sys2Proof.Machine
end

