-- ==== Sys2Proof/Machine/Dispatch.lean ====
section
/-!
DEFINITION. Machine/Dispatch.lean: the meaning of every command, one arm each.
-/

namespace Sys2Proof.Machine

def exec (i : Instr) (s : State) : Host.Outcome State Fault Refusal :=
  match i with
  | .messageReceive b intact wire => Sys2Proof.Machine.execMessageReceive b intact wire s
  | .fragmentAssemblyTimeout => Sys2Proof.Machine.execFragmentAssemblyTimeout s
  | .lockoutExpiry => Sys2Proof.Machine.execLockoutExpiry s
  | .authBurstEnd => Sys2Proof.Machine.execAuthBurstEnd s
  | .halfOpenTimeout => Sys2Proof.Machine.execHalfOpenTimeout s
  | .reorderHoldExpiry => Sys2Proof.Machine.execReorderHoldExpiry s
  | .sessionTimeout => Sys2Proof.Machine.execSessionTimeout s
  | .session0BindingForget => Sys2Proof.Machine.execSession0BindingForget s
  | .notifyIntervalExpiry => Sys2Proof.Machine.execNotifyIntervalExpiry s
  | .ident r => Sys2Proof.Machine.execIdent r s
  | .ping r => Sys2Proof.Machine.execPing r s
  | .timeGet r => Sys2Proof.Machine.execTimeGet r s
  | .statusGet r => Sys2Proof.Machine.execStatusGet r s
  | .sessionOpen r => Sys2Proof.Machine.execSessionOpen r s
  | .sessionProve r => Sys2Proof.Machine.execSessionProve r s
  | .sessionClose r => Sys2Proof.Machine.execSessionClose r s
  | .sessionList r => Sys2Proof.Machine.execSessionList r s
  | .subscribe r => Sys2Proof.Machine.execSubscribe r s
  | .unsubscribe r => Sys2Proof.Machine.execUnsubscribe r s
  | .pendingList r => Sys2Proof.Machine.execPendingList r s
  | .pendingCancel r => Sys2Proof.Machine.execPendingCancel r s
  | .fbRelay r => Sys2Proof.Machine.execFbRelay r s
  | .relayInnerResponse src flow inner => Sys2Proof.Machine.execRelayInnerResponse src flow inner s
  | .relayTimeout => Sys2Proof.Machine.execRelayTimeout s
  | .relayedNotify src flow inner => Sys2Proof.Machine.execRelayedNotify src flow inner s
  | .paramGet r => Sys2Proof.Machine.execParamGet r s
  | .paramSet r => Sys2Proof.Machine.execParamSet r s
  | .paramInfo r => Sys2Proof.Machine.execParamInfo r s
  | .paramList r => Sys2Proof.Machine.execParamList r s
  | .moduleSettingDurable => Sys2Proof.Machine.execModuleSettingDurable s
  | .profileSelect r => Sys2Proof.Machine.execProfileSelect r s
  | .profileGetActive r => Sys2Proof.Machine.execProfileGetActive r s
  | .profileRead r => Sys2Proof.Machine.execProfileRead r s
  | .profileWrite r => Sys2Proof.Machine.execProfileWrite r s
  | .profileValidate r => Sys2Proof.Machine.execProfileValidate r s
  | .profileSave r => Sys2Proof.Machine.execProfileSave r s
  | .profileSetDefault r => Sys2Proof.Machine.execProfileSetDefault r s
  | .mdRead r => Sys2Proof.Machine.execMdRead r s
  | .profileStagingTimeout => Sys2Proof.Machine.execProfileStagingTimeout s
  | .cutOff x => Sys2Proof.Machine.execCutOff x s
  | .frameStart crc => Sys2Proof.Machine.execFrameStart crc s
  | .rampEnd f => Sys2Proof.Machine.execRampEnd f s
  | .feedbackGraceExpiry f => Sys2Proof.Machine.execFeedbackGraceExpiry f s
  | .tickSample coils loads rail => Sys2Proof.Machine.execTickSample coils loads rail s
  | .tickStart => Sys2Proof.Machine.execTickStart s
  | .tickCommit bad => Sys2Proof.Machine.execTickCommit bad s
  | .firmwareDeadline work => Sys2Proof.Machine.execFirmwareDeadline work s
  | .consecutiveOverrunLimit => Sys2Proof.Machine.execConsecutiveOverrunLimit s
  | .frameCommit bad => Sys2Proof.Machine.execFrameCommit bad s
  | .lockstepDivergence lane => Sys2Proof.Machine.execLockstepDivergence lane s
  | .laneWatchdogMiss lane => Sys2Proof.Machine.execLaneWatchdogMiss lane s
  | .laneEccError lane double => Sys2Proof.Machine.execLaneEccError lane double s
  | .laneResetDone lane => Sys2Proof.Machine.execLaneResetDone lane s
  | .laneSelftestDone lane pass => Sys2Proof.Machine.execLaneSelftestDone lane pass s
  | .transferFinalPass lane dirty => Sys2Proof.Machine.execTransferFinalPass lane dirty s
  | .transferTimeout lane => Sys2Proof.Machine.execTransferTimeout lane s
  | .excludedWaitExpiry lane => Sys2Proof.Machine.execExcludedWaitExpiry lane s
  | .grStatus r => Sys2Proof.Machine.execGrStatus r s
  | .functionSet r => Sys2Proof.Machine.execFunctionSet r s
  | .functionEnable r => Sys2Proof.Machine.execFunctionEnable r s
  | .laneStatus r => Sys2Proof.Machine.execLaneStatus r s
  | .coefBankWrite r => Sys2Proof.Machine.execCoefBankWrite r s
  | .coefBankSwap r => Sys2Proof.Machine.execCoefBankSwap r s
  | .recordCapture r => Sys2Proof.Machine.execRecordCapture r s
  | .recordCaptureDone => Sys2Proof.Machine.execRecordCaptureDone s
  | .recordRead r => Sys2Proof.Machine.execRecordRead r s
  | .replayStatus r => Sys2Proof.Machine.execReplayStatus r s
  | .replayLoad r => Sys2Proof.Machine.execReplayLoad r s
  | .replayRun r => Sys2Proof.Machine.execReplayRun r s
  | .replayAbort r => Sys2Proof.Machine.execReplayAbort r s
  | .replayDone mismatches frame tick => Sys2Proof.Machine.execReplayDone mismatches frame tick s
  | .impactEnd ch onset raw closed => Sys2Proof.Machine.execImpactEnd ch onset raw closed s
  | .impactClassify ch => Sys2Proof.Machine.execImpactClassify ch s
  | .tapDue ch => Sys2Proof.Machine.execTapDue ch s
  | .tapForced ch => Sys2Proof.Machine.execTapForced ch s
  | .tapStart ch sample quiet spanOpen => Sys2Proof.Machine.execTapStart ch sample quiet spanOpen s
  | .tapSequenceEnd ch => Sys2Proof.Machine.execTapSequenceEnd ch s
  | .tapAnalysisDone ch y => Sys2Proof.Machine.execTapAnalysisDone ch y s
  | .tapDeferral ch => Sys2Proof.Machine.execTapDeferral ch s
  | .calibrationStale ch => Sys2Proof.Machine.execCalibrationStale ch s
  | .teachDone ch => Sys2Proof.Machine.execTeachDone ch s
  | .diagIdleDue ch => Sys2Proof.Machine.execDiagIdleDue ch s
  | .diagStart ch sample quiet spanOpen => Sys2Proof.Machine.execDiagStart ch sample quiet spanOpen s
  | .diagSequenceEnd ch vp vn vpn => Sys2Proof.Machine.execDiagSequenceEnd ch vp vn vpn s
  | .asPinRangeFault ch mv => Sys2Proof.Machine.execAsPinRangeFault ch mv s
  | .qzStatus r => Sys2Proof.Machine.execQzStatus r s
  | .qzResultsRead r => Sys2Proof.Machine.execQzResultsRead r s
  | .qzCropSelect r => Sys2Proof.Machine.execQzCropSelect r s
  | .qzTapRequestTap r => Sys2Proof.Machine.execQzTapRequestTap r s
  | .qzTapRequestTeach r => Sys2Proof.Machine.execQzTapRequestTeach r s
  | .qzTapRequestForget r => Sys2Proof.Machine.execQzTapRequestForget r s
  | .qzDiagRequest r => Sys2Proof.Machine.execQzDiagRequest r s
  | .qzRawCaptureStatus r => Sys2Proof.Machine.execQzRawCaptureStatus r s
  | .qzRawCaptureStart r => Sys2Proof.Machine.execQzRawCaptureStart r s
  | .qzRawCaptureStop r => Sys2Proof.Machine.execQzRawCaptureStop r s
  | .qzRawCaptureRead r => Sys2Proof.Machine.execQzRawCaptureRead r s
  | .rawCaptureDone => Sys2Proof.Machine.execRawCaptureDone s
  | .lossGroupUncovered role => Sys2Proof.Machine.execLossGroupUncovered role s
  | .liveCalSettleDone => Sys2Proof.Machine.execLiveCalSettleDone s
  | .liveCalIntervalEnd => Sys2Proof.Machine.execLiveCalIntervalEnd s
  | .liveCalTimeout => Sys2Proof.Machine.execLiveCalTimeout s
  | .delayEstimate => Sys2Proof.Machine.execDelayEstimate s
  | .delayNotEstimable => Sys2Proof.Machine.execDelayNotEstimable s
  | .slopeLimitUpdate => Sys2Proof.Machine.execSlopeLimitUpdate s
  | .moistureCellInvalid cell => Sys2Proof.Machine.execMoistureCellInvalid cell s
  | .yieldRecordWrite => Sys2Proof.Machine.execYieldRecordWrite s
  | .optimizerWindowEnd => Sys2Proof.Machine.execOptimizerWindowEnd s
  | .optimizerSettleEnd => Sys2Proof.Machine.execOptimizerSettleEnd s
  | .optimizerHoldEnd => Sys2Proof.Machine.execOptimizerHoldEnd s
  | .optimizerOperatorHoldEnd f => Sys2Proof.Machine.execOptimizerOperatorHoldEnd f s
  | .cfStatus r => Sys2Proof.Machine.execCfStatus r s
  | .yieldRead r => Sys2Proof.Machine.execYieldRead r s
  | .cfCalibrateFlowZero r => Sys2Proof.Machine.execCfCalibrateFlowZero r s
  | .cfCalibrateTankTare r => Sys2Proof.Machine.execCfCalibrateTankTare r s
  | .calibrationAverageDone => Sys2Proof.Machine.execCalibrationAverageDone s
  | .cfCalibrateLoadBegin r => Sys2Proof.Machine.execCfCalibrateLoadBegin r s
  | .cfCalibrateLoadEnd r => Sys2Proof.Machine.execCfCalibrateLoadEnd r s
  | .cfCalibrateLoadAbort r => Sys2Proof.Machine.execCfCalibrateLoadAbort r s
  | .cfCalibrateGainReset r => Sys2Proof.Machine.execCfCalibrateGainReset r s
  | .cfCalibrateDelayReset r => Sys2Proof.Machine.execCfCalibrateDelayReset r s
  | .optimizerTargets r => Sys2Proof.Machine.execOptimizerTargets r s
  | .optimizerEnable r => Sys2Proof.Machine.execOptimizerEnable r s
  | .coveragePutFieldOpen r => Sys2Proof.Machine.execCoveragePutFieldOpen r s
  | .coveragePutFieldClose r => Sys2Proof.Machine.execCoveragePutFieldClose r s
  | .coveragePutCells r => Sys2Proof.Machine.execCoveragePutCells r s
  | .coverageGetBits r => Sys2Proof.Machine.execCoverageGetBits r s
  | .coverageGetChanges r => Sys2Proof.Machine.execCoverageGetChanges r s
  | .mapExport r => Sys2Proof.Machine.execMapExport r s
  | .boostStartInstant ch us => Sys2Proof.Machine.execBoostStartInstant ch us s
  | .peakReached ch us m => Sys2Proof.Machine.execPeakReached ch us m s
  | .boostTimeout ch us m => Sys2Proof.Machine.execBoostTimeout ch us m s
  | .deferTimeout ch us => Sys2Proof.Machine.execDeferTimeout ch us s
  | .peakEnd ch us cur => Sys2Proof.Machine.execPeakEnd ch us cur s
  | .releaseInstant ch us => Sys2Proof.Machine.execReleaseInstant ch us s
  | .releaseEnd ch us ma => Sys2Proof.Machine.execReleaseEnd ch us ma s
  | .observeEnd ch us volts => Sys2Proof.Machine.execObserveEnd ch us volts s
  | .valveFaultDetect ch us m => Sys2Proof.Machine.execValveFaultDetect ch us m s
  | .vdOffstateDiag ch us m => Sys2Proof.Machine.execVdOffstateDiag ch us m s
  | .boostRailThreshold mv => Sys2Proof.Machine.execBoostRailThreshold mv s
  | .boostOvervoltage mv us => Sys2Proof.Machine.execBoostOvervoltage mv us s
  | .boostRailLow mv ms => Sys2Proof.Machine.execBoostRailLow mv ms s
  | .boostConverterSlow mv => Sys2Proof.Machine.execBoostConverterSlow mv s
  | .vdCommandOff r => Sys2Proof.Machine.execVdCommandOff r s
  | .vdCommandPulse r => Sys2Proof.Machine.execVdCommandPulse r s
  | .vdCommandCurrent r => Sys2Proof.Machine.execVdCommandCurrent r s
  | .vdStatus r => Sys2Proof.Machine.execVdStatus r s
  | .vdTimingRead r => Sys2Proof.Machine.execVdTimingRead r s
  | .vdDiagChannel r => Sys2Proof.Machine.execVdDiagChannel r s
  | .vdDiagBank r => Sys2Proof.Machine.execVdDiagBank r s
  | .vdDiagClear r => Sys2Proof.Machine.execVdDiagClear r s
  | .inrushWindowEnd ch us => Sys2Proof.Machine.execInrushWindowEnd ch us s
  | .currentLimitEntry ch us ma => Sys2Proof.Machine.execCurrentLimitEntry ch us ma s
  | .currentLimitExit ch us ma => Sys2Proof.Machine.execCurrentLimitExit ch us ma s
  | .startAttemptFail ch us => Sys2Proof.Machine.execStartAttemptFail ch us s
  | .startAttemptSuccess ch us => Sys2Proof.Machine.execStartAttemptSuccess ch us s
  | .retryWaitEnd ch us tj => Sys2Proof.Machine.execRetryWaitEnd ch us tj s
  | .lsThermalShutdown ch us tj => Sys2Proof.Machine.execLsThermalShutdown ch us tj s
  | .lsJunctionCooled ch us tj => Sys2Proof.Machine.execLsJunctionCooled ch us tj s
  | .demagEnd ch us out ma clamp => Sys2Proof.Machine.execDemagEnd ch us out ma clamp s
  | .lsOffstateDiag ch v1 v2 => Sys2Proof.Machine.execLsOffstateDiag ch v1 v2 s
  | .lsOpenLoadOnstate ch ma ms => Sys2Proof.Machine.execLsOpenLoadOnstate ch ma ms s
  | .dissipationEstimate m => Sys2Proof.Machine.execDissipationEstimate m s
  | .loadShed => Sys2Proof.Machine.execLoadShed s
  | .loadRestore => Sys2Proof.Machine.execLoadRestore s
  | .budgetExceeded => Sys2Proof.Machine.execBudgetExceeded s
  | .lsCommandOff r => Sys2Proof.Machine.execLsCommandOff r s
  | .lsCommandOn r => Sys2Proof.Machine.execLsCommandOn r s
  | .lsCommandPwm r => Sys2Proof.Machine.execLsCommandPwm r s
  | .lsStatus r => Sys2Proof.Machine.execLsStatus r s
  | .lsLatchClear r => Sys2Proof.Machine.execLsLatchClear r s
  | .lsDiagOffState r => Sys2Proof.Machine.execLsDiagOffState r s
  | .lsDiagOnTest r => Sys2Proof.Machine.execLsDiagOnTest r s
  | .onTestEnd ch us peak => Sys2Proof.Machine.execOnTestEnd ch us peak s
  | .antennaBiasSample ant ma mv => Sys2Proof.Machine.execAntennaBiasSample ant ma mv s
  | .antennaShortRetry ant => Sys2Proof.Machine.execAntennaShortRetry ant s
  | .antennaOvervoltage ant mv ms => Sys2Proof.Machine.execAntennaOvervoltage ant mv ms s
  | .trackingLoopUpdate ch synced => Sys2Proof.Machine.execTrackingLoopUpdate ch synced s
  | .channelAllocation cands => Sys2Proof.Machine.execChannelAllocation cands s
  | .searchDwellDone eng ant sys sat found => Sys2Proof.Machine.execSearchDwellDone eng ant sys sat found s
  | .notchMonitor path lines agc => Sys2Proof.Machine.execNotchMonitor path lines agc s
  | .navEpoch fix => Sys2Proof.Machine.execNavEpoch fix s
  | .navSolutionRelease => Sys2Proof.Machine.execNavSolutionRelease s
  | .imuSample gyro acc yaw => Sys2Proof.Machine.execImuSample gyro acc yaw s
  | .inertialFault failed => Sys2Proof.Machine.execInertialFault failed s
  | .deadReckoningLimit => Sys2Proof.Machine.execDeadReckoningLimit s
  | .correctionsStale => Sys2Proof.Machine.execCorrectionsStale s
  | .baselineMismatch => Sys2Proof.Machine.execBaselineMismatch s
  | .timeEstablish => Sys2Proof.Machine.execTimeEstablish s
  | .frameRenumber => Sys2Proof.Machine.execFrameRenumber s
  | .renumberWaitTimeout => Sys2Proof.Machine.execRenumberWaitTimeout s
  | .ppsPulse => Sys2Proof.Machine.execPpsPulse s
  | .timeHoldoverEntry => Sys2Proof.Machine.execTimeHoldoverEntry s
  | .timeMessageQueue => Sys2Proof.Machine.execTimeMessageQueue s
  | .ppsiEdge cycle => Sys2Proof.Machine.execPpsiEdge cycle s
  | .ppsiMissing => Sys2Proof.Machine.execPpsiMissing s
  | .steerGraceExpiry => Sys2Proof.Machine.execSteerGraceExpiry s
  | .gnStatus r => Sys2Proof.Machine.execGnStatus r s
  | .gnSolutionGet r => Sys2Proof.Machine.execGnSolutionGet r s
  | .rtcmPut r => Sys2Proof.Machine.execRtcmPut r s
  | .gnConfigRestart r => Sys2Proof.Machine.execGnConfigRestart r s
  | .gnConfigSeed r => Sys2Proof.Machine.execGnConfigSeed r s
  | .gnConfigNotchReset r => Sys2Proof.Machine.execGnConfigNotchReset r s
  | .gnConfigAntennaRetry r => Sys2Proof.Machine.execGnConfigAntennaRetry r s
  | .gnConfigImuSelftest r => Sys2Proof.Machine.execGnConfigImuSelftest r s
  | .pathLoadLoadNext r => Sys2Proof.Machine.execPathLoadLoadNext r s
  | .pathLoadClearNext r => Sys2Proof.Machine.execPathLoadClearNext r s
  | .pathLoadShift r => Sys2Proof.Machine.execPathLoadShift r s
  | .steerEngage r => Sys2Proof.Machine.execSteerEngage r s
  | .helloSend port => Sys2Proof.Machine.execHelloSend port s
  | .hello port sender node nport seen cost => Sys2Proof.Machine.execHello port sender node nport seen cost s
  | .neighbourTimeout port => Sys2Proof.Machine.execNeighbourTimeout port s
  | .linkDown port => Sys2Proof.Machine.execLinkDown port s
  | .linkUp port => Sys2Proof.Machine.execLinkUp port s
  | .linkDegraded port sqi => Sys2Proof.Machine.execLinkDegraded port sqi s
  | .lsaFlood => Sys2Proof.Machine.execLsaFlood s
  | .lsa port m => Sys2Proof.Machine.execLsa port m s
  | .lsaExpiry => Sys2Proof.Machine.execLsaExpiry s
  | .assign port target node stamp => Sys2Proof.Machine.execAssign port target node stamp s
  | .verdict port m => Sys2Proof.Machine.execVerdict port m s
  | .verdictInForce => Sys2Proof.Machine.execVerdictInForce s
  | .sync port m rx => Sys2Proof.Machine.execSync port m rx s
  | .syncSend port corr => Sys2Proof.Machine.execSyncSend port corr s
  | .delayReq port reply => Sys2Proof.Machine.execDelayReq port reply s
  | .delayResp port id t1 t2 t3 t4 => Sys2Proof.Machine.execDelayResp port id t1 t2 t3 t4 s
  | .time port msg => Sys2Proof.Machine.execTime port msg s
  | .alignmentTimer => Sys2Proof.Machine.execAlignmentTimer s
  | .creamSend cell => Sys2Proof.Machine.execCreamSend cell s
  | .creamCellReceive port good src dst secondary p => Sys2Proof.Machine.execCreamCellReceive port good src dst secondary p s
  | .skimFrameReceive port good f => Sys2Proof.Machine.execSkimFrameReceive port good f s
  | .fbStatus r => Sys2Proof.Machine.execFbStatus r s
  | .fbTopology r => Sys2Proof.Machine.execFbTopology r s
  | .fbNodeAssign r => Sys2Proof.Machine.execFbNodeAssign r s
  | .fbCableTest r => Sys2Proof.Machine.execFbCableTest r s
  | .canFrameReceive port f cycle err => Sys2Proof.Machine.execCanFrameReceive port f cycle err s
  | .canTxComplete port buf delay => Sys2Proof.Machine.execCanTxComplete port buf delay s
  | .canTxError port buf e => Sys2Proof.Machine.execCanTxError port buf e s
  | .canIntegrationDone port => Sys2Proof.Machine.execCanIntegrationDone port s
  | .canBusOffRecovery port => Sys2Proof.Machine.execCanBusOffRecovery port s
  | .addressClaimTimeout port => Sys2Proof.Machine.execAddressClaimTimeout port s
  | .transportTimeout port peer out => Sys2Proof.Machine.execTransportTimeout port peer out s
  | .canDominantTimeout port bus us => Sys2Proof.Machine.execCanDominantTimeout port bus us s
  | .cnStatus r => Sys2Proof.Machine.execCnStatus r s
  | .cnConfigRestart r => Sys2Proof.Machine.execCnConfigRestart r s
  | .cnConfigReclaim r => Sys2Proof.Machine.execCnConfigReclaim r s
  | .cnSend r => Sys2Proof.Machine.execCnSend r s
  | .cnCancel r => Sys2Proof.Machine.execCnCancel r s
  | .cnFilterSet r => Sys2Proof.Machine.execCnFilterSet r s
  | .micaAccess bank reqs => Sys2Proof.Machine.execMicaAccess bank reqs s
  | .micaAtomic master op addr value => Sys2Proof.Machine.execMicaAtomic master op addr value s
  | .micaUncorrectable addr us => Sys2Proof.Machine.execMicaUncorrectable addr us s
  | .scrubLine corrected bad us => Sys2Proof.Machine.execScrubLine corrected bad us s
  | .bankPowerRequest bank next => Sys2Proof.Machine.execBankPowerRequest bank next s
  | .bankZeroDone bank => Sys2Proof.Machine.execBankZeroDone bank s
  | .sharedRingTimer => Sys2Proof.Machine.execSharedRingTimer s
  | .mapFlushPage => Sys2Proof.Machine.execMapFlushPage s
  | .mapMirrorPage rx => Sys2Proof.Machine.execMapMirrorPage rx s
  | .wearCompaction left => Sys2Proof.Machine.execWearCompaction left s
  | .tapCalibrationCopy => Sys2Proof.Machine.execTapCalibrationCopy s
  | .converterSelfCalibration kind ch => Sys2Proof.Machine.execConverterSelfCalibration kind ch s
  | .almanacCollection sys page => Sys2Proof.Machine.execAlmanacCollection sys page s
  | .eventCompaction => Sys2Proof.Machine.execEventCompaction s
  | .telemetry => Sys2Proof.Machine.execTelemetry s
  | .churnStarvation activity => Sys2Proof.Machine.execChurnStarvation activity s
  | .nandLifeCheck life => Sys2Proof.Machine.execNandLifeCheck life s
  | .nandWriteDone what ok => Sys2Proof.Machine.execNandWriteDone what ok s
  | .mcStatus r => Sys2Proof.Machine.execMcStatus r s
  | .storeStatus r => Sys2Proof.Machine.execStoreStatus r s
  | .mcBankState r => Sys2Proof.Machine.execMcBankState r s
  | .mapFlush r => Sys2Proof.Machine.execMapFlush r s
  | .snapshotQueueWrite misses => Sys2Proof.Machine.execSnapshotQueueWrite misses s
  | .fixedRecordWrite misses => Sys2Proof.Machine.execFixedRecordWrite misses s
  | .injectionEnd handle => Sys2Proof.Machine.execInjectionEnd handle s
  | .evRead r => Sys2Proof.Machine.execEvRead r s
  | .evReadPriv r => Sys2Proof.Machine.execEvReadPriv r s
  | .evCount r => Sys2Proof.Machine.execEvCount r s
  | .evClear r => Sys2Proof.Machine.execEvClear r s
  | .inject r => Sys2Proof.Machine.execInject r s
  | .injectClear r => Sys2Proof.Machine.execInjectClear r s
  | .injectList r => Sys2Proof.Machine.execInjectList r s
  | .selftest r => Sys2Proof.Machine.execSelftest r s
  | .motionSend => Sys2Proof.Machine.execMotionSend s
  | .motion src data => Sys2Proof.Machine.execMotion src data s
  | .supplyConditionChange mv ms => Sys2Proof.Machine.execSupplyConditionChange mv ms s
  | .updateBegin r => Sys2Proof.Machine.execUpdateBegin r s
  | .updateData r => Sys2Proof.Machine.execUpdateData r s
  | .updateStatus r => Sys2Proof.Machine.execUpdateStatus r s
  | .updateActivate r => Sys2Proof.Machine.execUpdateActivate r s
  | .updateConfirm r => Sys2Proof.Machine.execUpdateConfirm r s
  | .updateAbortStaging r => Sys2Proof.Machine.execUpdateAbortStaging r s
  | .updateAbortFallback r => Sys2Proof.Machine.execUpdateAbortFallback r s
  | .updateAbortResolveAbort r => Sys2Proof.Machine.execUpdateAbortResolveAbort r s
  | .manifest src data => Sys2Proof.Machine.execManifest src data s
  | .chunk src data => Sys2Proof.Machine.execChunk src data s
  | .chunkForward => Sys2Proof.Machine.execChunkForward s
  | .ack src data => Sys2Proof.Machine.execAck src data s
  | .nack src data => Sys2Proof.Machine.execNack src data s
  | .staged src data => Sys2Proof.Machine.execStaged src data s
  | .prepare src data => Sys2Proof.Machine.execPrepare src data s
  | .vote src data => Sys2Proof.Machine.execVote src data s
  | .voteDeadline => Sys2Proof.Machine.execVoteDeadline s
  | .commitAbort src data => Sys2Proof.Machine.execCommitAbort src data s
  | .decisionAck src data => Sys2Proof.Machine.execDecisionAck src data s
  | .decisionResend => Sys2Proof.Machine.execDecisionResend s
  | .resolve src data => Sys2Proof.Machine.execResolve src data s
  | .resolveResend => Sys2Proof.Machine.execResolveResend s
  | .confirmFallback src data => Sys2Proof.Machine.execConfirmFallback src data s
  | .commitFrameSwap => Sys2Proof.Machine.execCommitFrameSwap s
  | .resetAssert source level us => Sys2Proof.Machine.execResetAssert source level us s
  | .resetRelease source => Sys2Proof.Machine.execResetRelease source s
  | .supervisorWatchdogExpiry ms us => Sys2Proof.Machine.execSupervisorWatchdogExpiry ms us s
  | .lockUp ms us => Sys2Proof.Machine.execLockUp ms us s
  | .clockFailure us => Sys2Proof.Machine.execClockFailure us s
  | .optionTrimLoadDone => Sys2Proof.Machine.execOptionTrimLoadDone s
  | .vcoLock ok rtc => Sys2Proof.Machine.execVcoLock ok rtc s
  | .d4Release straps => Sys2Proof.Machine.execD4Release straps s
  | .supervisorImageLoaded ok => Sys2Proof.Machine.execSupervisorImageLoaded ok s
  | .laneImageLoaded => Sys2Proof.Machine.execLaneImageLoaded s
  | .bootProfileActivation => Sys2Proof.Machine.execBootProfileActivation s
  | .bootComplete ms => Sys2Proof.Machine.execBootComplete ms s
  | .bootTimeout us => Sys2Proof.Machine.execBootTimeout us s
  | .l2RestartComplete => Sys2Proof.Machine.execL2RestartComplete s
  | .l3UnitReset unit us => Sys2Proof.Machine.execL3UnitReset unit us s
  | .resetRequest r => Sys2Proof.Machine.execResetRequest r s
  | .resetRequestEffect us => Sys2Proof.Machine.execResetRequestEffect us s
  | .lifecycleGet r => Sys2Proof.Machine.execLifecycleGet r s
  | .lifecycleSetTransition r => Sys2Proof.Machine.execLifecycleSetTransition r s
  | .lifecycleSetProvisionKey r => Sys2Proof.Machine.execLifecycleSetProvisionKey r s
  | .lifecycleSetRevokeKey r => Sys2Proof.Machine.execLifecycleSetRevokeKey r s
  | .ownerLockSet r => Sys2Proof.Machine.execOwnerLockSet r s
  | .ownerLockClear r => Sys2Proof.Machine.execOwnerLockClear r s
  | .ownerLockPermitService r => Sys2Proof.Machine.execOwnerLockPermitService r s
  | .permitServiceExpiry => Sys2Proof.Machine.execPermitServiceExpiry s
  | .vsupReducedEntry mv us => Sys2Proof.Machine.execVsupReducedEntry mv us s
  | .vsupNormalReturn mv ms => Sys2Proof.Machine.execVsupNormalReturn mv ms s
  | .vbatLowEntry mv us => Sys2Proof.Machine.execVbatLowEntry mv us s
  | .vbatHighEntry mv us => Sys2Proof.Machine.execVbatHighEntry mv us s
  | .vbatNormalReturn mv ms => Sys2Proof.Machine.execVbatNormalReturn mv ms s
  | .vbatUvOvDetect mv ms => Sys2Proof.Machine.execVbatUvOvDetect mv ms s
  | .sensorSupplyFault sup ma mv ms => Sys2Proof.Machine.execSensorSupplyFault sup ma mv ms s
  | .sensorSupplyRetry sup limited => Sys2Proof.Machine.execSensorSupplyRetry sup limited s
  | .overTemperature t ms => Sys2Proof.Machine.execOverTemperature t ms s
  | .stopInputChange group asserted => Sys2Proof.Machine.execStopInputChange group asserted s
  | .stopDiscrepancy => Sys2Proof.Machine.execStopDiscrepancy s
  | .standbyEnter r => Sys2Proof.Machine.execStandbyEnter r s
  | .standbyDomainsOff us => Sys2Proof.Machine.execStandbyDomainsOff us s
  | .standbyWake cause ms rtc => Sys2Proof.Machine.execStandbyWake cause ms rtc s
  | .clkKeepStop => Sys2Proof.Machine.execClkKeepStop s
  | .powerStatus r => Sys2Proof.Machine.execPowerStatus r s
  | .domainState r => Sys2Proof.Machine.execDomainState r s
  | .spWrite r => Sys2Proof.Machine.execSpWrite r s
  | .spStatus r => Sys2Proof.Machine.execSpStatus r s
  | .panelUpdateStart us => Sys2Proof.Machine.execPanelUpdateStart us s
  | .panelPhaseEnd us => Sys2Proof.Machine.execPanelPhaseEnd us s
  | .panelGuardEnd us => Sys2Proof.Machine.execPanelGuardEnd us s
  | .panelPinFault pin us => Sys2Proof.Machine.execPanelPinFault pin us s
  | .ainOutOfRange ch raw us => Sys2Proof.Machine.execAinOutOfRange ch raw us s
  | .ainShuntReclose ch => Sys2Proof.Machine.execAinShuntReclose ch s
  | .fqEdgeTimeout ch => Sys2Proof.Machine.execFqEdgeTimeout ch s
  | .bridgeExcitationFault ch ma limit ms => Sys2Proof.Machine.execBridgeExcitationFault ch ma limit ms s
  | .holdDutyWindowStep => Sys2Proof.Machine.execHoldDutyWindowStep s
  | .lsPwmPeriodStart ch us => Sys2Proof.Machine.execLsPwmPeriodStart ch us s
  | .opsecCount => Sys2Proof.Machine.execOpsecCount s
  | .sensorSupplyShortRemoved sup => Sys2Proof.Machine.execSensorSupplyShortRemoved sup s
  | .lowSideThermalHysteresis ch kelvin => Sys2Proof.Machine.execLowSideThermalHysteresis ch kelvin s

end Sys2Proof.Machine
end

