-- ==== Sys2Proof/Safety.lean ====
section
/-!
DEFINITION. Safety.lean: the terms in which the claims are made: a run that goes on, what a command leaves alone, when a
mailbox command comes to its own checks, and the invariant that every step keeps.
-/

namespace Sys2Proof.Safety

open Sys2Proof.Machine

/-- A step that goes on. -/
def goesOn (s : State) : Prop := ∃ t, step s = .next t

/-- A run of `n` steps in which no step stops. -/
def runs : Nat → State → Prop
  | 0, _ => True
  | n + 1, s => ∃ t, step s = .next t ∧ runs n t

/-! ### What a command leaves alone -/

/-- The parts of the state, named as its fields. -/
inductive Part where
  | clk | mb | pf | ev | gr | qz | cf | vd | ls | gn | fb | cn | mc | up | an | rs | pw | sp | out | free | pending
  deriving DecidableEq, Repr

/-- Two states agree in a part. -/
def samePart (s t : State) : Part → Prop
  | .clk => t.clk = s.clk
  | .mb => t.mb = s.mb
  | .pf => t.pf = s.pf
  | .ev => t.ev = s.ev
  | .gr => t.gr = s.gr
  | .qz => t.qz = s.qz
  | .cf => t.cf = s.cf
  | .vd => t.vd = s.vd
  | .ls => t.ls = s.ls
  | .gn => t.gn = s.gn
  | .fb => t.fb = s.fb
  | .cn => t.cn = s.cn
  | .mc => t.mc = s.mc
  | .up => t.up = s.up
  | .an => t.an = s.an
  | .rs => t.rs = s.rs
  | .pw => t.pw = s.pw
  | .sp => t.sp = s.sp
  | .out => t.out = s.out
  | .free => t.free = s.free
  | .pending => t.pending = s.pending

/-- Every part outside a list is left as it was. -/
def onlyIn (ps : List Part) (s t : State) : Prop := ∀ p, p ∉ ps → samePart s t p

/-- The parts that recording an event and telling its subscribers may change: the recorder, the sessions with what they sent, and the staging of a
session that its last notification closes (R31, R323, R329). -/
def tells : List Part := [.ev, .mb, .out, .pf]

/-! ### Mailbox commands -/

/-- The code and message of a row that is a mailbox command. -/
def hostRow (i : Instr) : Option (Nat × Req) :=
  match i with
  | .ident r => some (cIdent, r)
  | .ping r => some (cPing, r)
  | .timeGet r => some (cTimeGet, r)
  | .statusGet r => some (cStatusGet, r)
  | .sessionOpen r => some (cSessionOpen, r)
  | .sessionProve r => some (cSessionProve, r)
  | .sessionClose r => some (cSessionClose, r)
  | .sessionList r => some (cSessionList, r)
  | .subscribe r => some (cSubscribe, r)
  | .unsubscribe r => some (cUnsubscribe, r)
  | .pendingList r => some (cPendingList, r)
  | .pendingCancel r => some (cPendingCancel, r)
  | .fbRelay r => some (cFbRelay, r)
  | .paramGet r => some (cParamGet, r)
  | .paramSet r => some (cParamSet, r)
  | .paramInfo r => some (cParamInfo, r)
  | .paramList r => some (cParamList, r)
  | .profileSelect r => some (cProfileSelect, r)
  | .profileGetActive r => some (cProfileGetActive, r)
  | .profileRead r => some (cProfileRead, r)
  | .profileWrite r => some (cProfileWrite, r)
  | .profileValidate r => some (cProfileValidate, r)
  | .profileSave r => some (cProfileSave, r)
  | .profileSetDefault r => some (cProfileSetDefault, r)
  | .mdRead r => some (cMdRead, r)
  | .grStatus r => some (cGrStatus, r)
  | .functionSet r => some (cFunctionSet, r)
  | .functionEnable r => some (cFunctionEnable, r)
  | .laneStatus r => some (cLaneStatus, r)
  | .coefBankWrite r => some (cCoefBankWrite, r)
  | .coefBankSwap r => some (cCoefBankSwap, r)
  | .recordCapture r => some (cRecordCapture, r)
  | .recordRead r => some (cRecordRead, r)
  | .replayStatus r => some (cReplay, r)
  | .replayLoad r => some (cReplay, r)
  | .replayRun r => some (cReplay, r)
  | .replayAbort r => some (cReplay, r)
  | .qzStatus r => some (cQzStatus, r)
  | .qzResultsRead r => some (cQzResultsRead, r)
  | .qzCropSelect r => some (cQzCropSelect, r)
  | .qzTapRequestTap r => some (cQzTapRequest, r)
  | .qzTapRequestTeach r => some (cQzTapRequest, r)
  | .qzTapRequestForget r => some (cQzTapRequest, r)
  | .qzDiagRequest r => some (cQzDiagRequest, r)
  | .qzRawCaptureStatus r => some (cQzRawCapture, r)
  | .qzRawCaptureStart r => some (cQzRawCapture, r)
  | .qzRawCaptureStop r => some (cQzRawCapture, r)
  | .qzRawCaptureRead r => some (cQzRawCapture, r)
  | .cfStatus r => some (cCfStatus, r)
  | .yieldRead r => some (cYieldRead, r)
  | .cfCalibrateFlowZero r => some (cCfCalibrate, r)
  | .cfCalibrateTankTare r => some (cCfCalibrate, r)
  | .cfCalibrateLoadBegin r => some (cCfCalibrate, r)
  | .cfCalibrateLoadEnd r => some (cCfCalibrate, r)
  | .cfCalibrateLoadAbort r => some (cCfCalibrate, r)
  | .cfCalibrateGainReset r => some (cCfCalibrate, r)
  | .cfCalibrateDelayReset r => some (cCfCalibrate, r)
  | .optimizerTargets r => some (cOptimizerTargets, r)
  | .optimizerEnable r => some (cOptimizerEnable, r)
  | .coveragePutFieldOpen r => some (cCoveragePut, r)
  | .coveragePutFieldClose r => some (cCoveragePut, r)
  | .coveragePutCells r => some (cCoveragePut, r)
  | .coverageGetBits r => some (cCoverageGet, r)
  | .coverageGetChanges r => some (cCoverageGet, r)
  | .mapExport r => some (cMapExport, r)
  | .vdCommandOff r => some (cVdCommand, r)
  | .vdCommandPulse r => some (cVdCommand, r)
  | .vdCommandCurrent r => some (cVdCommand, r)
  | .vdStatus r => some (cVdStatus, r)
  | .vdTimingRead r => some (cVdTimingRead, r)
  | .vdDiagChannel r => some (cVdDiag, r)
  | .vdDiagBank r => some (cVdDiag, r)
  | .vdDiagClear r => some (cVdDiag, r)
  | .lsCommandOff r => some (cLsCommand, r)
  | .lsCommandOn r => some (cLsCommand, r)
  | .lsCommandPwm r => some (cLsCommand, r)
  | .lsStatus r => some (cLsStatus, r)
  | .lsLatchClear r => some (cLsLatchClear, r)
  | .lsDiagOffState r => some (cLsDiag, r)
  | .lsDiagOnTest r => some (cLsDiag, r)
  | .gnStatus r => some (cGnStatus, r)
  | .gnSolutionGet r => some (cGnSolutionGet, r)
  | .rtcmPut r => some (cRtcmPut, r)
  | .gnConfigRestart r => some (cGnConfig, r)
  | .gnConfigSeed r => some (cGnConfig, r)
  | .gnConfigNotchReset r => some (cGnConfig, r)
  | .gnConfigAntennaRetry r => some (cGnConfig, r)
  | .gnConfigImuSelftest r => some (cGnConfig, r)
  | .pathLoadLoadNext r => some (cPathLoad, r)
  | .pathLoadClearNext r => some (cPathLoad, r)
  | .pathLoadShift r => some (cPathLoad, r)
  | .steerEngage r => some (cSteerEngage, r)
  | .fbStatus r => some (cFbStatus, r)
  | .fbTopology r => some (cFbTopology, r)
  | .fbNodeAssign r => some (cFbNodeAssign, r)
  | .fbCableTest r => some (cFbCableTest, r)
  | .cnStatus r => some (cCnStatus, r)
  | .cnConfigRestart r => some (cCnConfig, r)
  | .cnConfigReclaim r => some (cCnConfig, r)
  | .cnSend r => some (cCnSend, r)
  | .cnCancel r => some (cCnCancel, r)
  | .cnFilterSet r => some (cCnFilterSet, r)
  | .mcStatus r => some (cMcStatus, r)
  | .storeStatus r => some (cStoreStatus, r)
  | .mcBankState r => some (cMcBankState, r)
  | .mapFlush r => some (cMapFlush, r)
  | .evRead r => some (cEvRead, r)
  | .evReadPriv r => some (cEvReadPriv, r)
  | .evCount r => some (cEvCount, r)
  | .evClear r => some (cEvClear, r)
  | .inject r => some (cInject, r)
  | .injectClear r => some (cInjectClear, r)
  | .injectList r => some (cInjectList, r)
  | .selftest r => some (cSelftest, r)
  | .updateBegin r => some (cUpdateBegin, r)
  | .updateData r => some (cUpdateData, r)
  | .updateStatus r => some (cUpdateStatus, r)
  | .updateActivate r => some (cUpdateActivate, r)
  | .updateConfirm r => some (cUpdateConfirm, r)
  | .updateAbortStaging r => some (cUpdateAbort, r)
  | .updateAbortFallback r => some (cUpdateAbort, r)
  | .updateAbortResolveAbort r => some (cUpdateAbort, r)
  | .resetRequest r => some (cResetRequest, r)
  | .lifecycleGet r => some (cLifecycleGet, r)
  | .lifecycleSetTransition r => some (cLifecycleSet, r)
  | .lifecycleSetProvisionKey r => some (cLifecycleSet, r)
  | .lifecycleSetRevokeKey r => some (cLifecycleSet, r)
  | .ownerLockSet r => some (cOwnerLock, r)
  | .ownerLockClear r => some (cOwnerLock, r)
  | .ownerLockPermitService r => some (cOwnerLock, r)
  | .standbyEnter r => some (cStandbyEnter, r)
  | .powerStatus r => some (cPowerStatus, r)
  | .domainState r => some (cDomainState, r)
  | .spWrite r => some (cSpWrite, r)
  | .spStatus r => some (cSpStatus, r)
  | _ => none

/-- A message has come to step 7 of Table 1-3 with its context, in a session that is not half-open. -/
def atStep7 (code : Nat) (r : Req) (c : Ctx) (s : State) : Bool :=
  mailUp s && ctxOf code r s == some c && !halfOpen s c.session

/-- Nothing of the session stands before the command (R33). -/
def sessionFree (c : Ctx) (s : State) : Bool :=
  match findChan s c.session c.binding with
  | some x => !chanBusy x
  | none => true

/-- A command comes to its own checks, step 9 of Table 1-3: its session is open and has nothing unfinished, its role may send the code, and neither
lifecycle RETIRED nor recovery mode leaves the code out. -/
def reaches (code : Nat) (r : Req) (c : Ctx) (s : State) : Bool :=
  atStep7 code r c s && sessionFree c s && roleOk c && !codeBarred c s

/-- The timing prefix lets a T command in with a status, OK or LATE, a frame of application and NOTIFY_APPLY, and the exchange area has room for it
(R36 to R38). -/
def timed (c : Ctx) (st f : Nat) (notify : Bool) (s : State) : Bool :=
  match timingOf c.payload with
  | some (target, exact, n) =>
    n == notify && targetRule c.arrival target exact == (st, f) && (st == stOk || st == stLate) && decide (heldTs s < 256)
  | none => false

/-! ### What every step keeps -/

/-- The parts of the state that a command's rules let it change; a command changes no other (the frame of every command). -/
def reach (i : Instr) : List Part :=
  match i with
  | .messageReceive .. | .frameStart .. | .skimFrameReceive .. | .canFrameReceive .. | .micaUncorrectable .. | .scrubLine .. | .updateAbortFallback ..
    | .commitAbort .. | .decisionAck .. | .confirmFallback .. | .commitFrameSwap | .resetAssert .. | .supervisorWatchdogExpiry .. | .lockUp ..
    | .clockFailure .. | .vcoLock .. | .d4Release .. | .bootProfileActivation | .bootTimeout .. | .resetRequestEffect .. | .lifecycleSetTransition ..
    | .standbyDomainsOff .. => [.clk, .mb, .pf, .ev, .gr, .qz, .cf, .vd, .ls, .gn, .fb, .cn, .mc, .up, .an, .rs, .pw, .sp, .out, .free]
  | .fragmentAssemblyTimeout | .session0BindingForget => [.mb]
  | .lockoutExpiry | .authBurstEnd | .reorderHoldExpiry | .sessionTimeout | .notifyIntervalExpiry | .sessionClose .. | .relayedNotify ..
    | .profileSelect .. | .profileRead .. | .lossGroupUncovered .. | .delayNotEstimable | .moistureCellInvalid .. | .boostConverterSlow ..
    | .budgetExceeded | .baselineMismatch | .renumberWaitTimeout | .canDominantTimeout .. | .evClear .. | .stopDiscrepancy | .bridgeExcitationFault ..
     => [.mb, .pf, .ev, .out]
  | .halfOpenTimeout => [.mb, .pf, .ev]
  | .ident .. | .ping .. | .statusGet .. | .sessionProve .. | .sessionList .. | .subscribe .. | .unsubscribe .. | .pendingList ..
    | .relayInnerResponse .. | .relayTimeout | .paramGet .. | .paramSet .. | .paramInfo .. | .paramList .. | .profileGetActive .. | .mdRead ..
    | .grStatus .. | .functionSet .. | .functionEnable .. | .laneStatus .. | .coefBankSwap .. | .recordRead .. | .replayStatus .. | .qzStatus ..
    | .qzResultsRead .. | .qzCropSelect .. | .qzRawCaptureStatus .. | .cfStatus .. | .yieldRead .. | .optimizerTargets .. | .optimizerEnable ..
    | .coverageGetBits .. | .coverageGetChanges .. | .mapExport .. | .vdCommandOff .. | .vdCommandPulse .. | .vdCommandCurrent .. | .vdStatus ..
    | .vdTimingRead .. | .lsCommandOff .. | .lsCommandOn .. | .lsCommandPwm .. | .lsStatus .. | .gnStatus .. | .gnSolutionGet .. | .steerEngage ..
    | .fbStatus .. | .fbTopology .. | .cnStatus .. | .mcStatus .. | .storeStatus .. | .evRead .. | .evReadPriv .. | .evCount .. | .injectList ..
    | .updateStatus .. | .lifecycleGet .. | .powerStatus .. | .spStatus .. => [.mb, .out]
  | .timeGet .. => [.clk, .mb, .out, .free]
  | .sessionOpen .. | .profileValidate .. | .selftest .. => [.mb, .pf, .ev, .out, .free]
  | .pendingCancel .. => [.mb, .pf, .ev, .cn, .pw, .out]
  | .fbRelay .. => [.mb, .fb, .out]
  | .moduleSettingDurable | .profileStagingTimeout => [.pf]
  | .profileWrite .. | .profileSave .. | .profileSetDefault .. | .coefBankWrite .. | .qzTapRequestForget .. => [.mb, .pf, .out]
  | .cutOff .. => [.clk, .mb, .pf, .ev, .gr, .qz, .fb, .cn, .mc, .an, .out]
  | .rampEnd .. | .feedbackGraceExpiry .. | .consecutiveOverrunLimit => [.mb, .pf, .ev, .gr, .cf, .vd, .ls, .out, .free]
  | .tickSample .. => [.gr, .vd, .ls, .an]
  | .tickStart => [.clk, .gr]
  | .tickCommit .. => [.clk, .mb, .pf, .ev, .gr, .cf, .vd, .ls, .gn, .out, .free]
  | .firmwareDeadline .. => [.clk, .mb, .pf, .ev, .gr, .out]
  | .frameCommit .. => [.mb, .pf, .ev, .gr, .cf, .vd, .ls, .gn, .fb, .out, .free]
  | .lockstepDivergence .. | .laneWatchdogMiss .. | .laneEccError .. => [.mb, .pf, .ev, .gr, .cf, .vd, .ls, .gn, .out, .free]
  | .laneResetDone .. | .transferFinalPass .. | .recordCaptureDone => [.gr]
  | .laneSelftestDone .. | .transferTimeout .. | .excludedWaitExpiry .. => [.mb, .pf, .ev, .gr, .out]
  | .recordCapture .. => [.mb, .out, .free]
  | .replayLoad .. => [.mb, .gr, .out]
  | .replayRun .. => [.mb, .pf, .ev, .gr, .vd, .ls, .out, .free]
  | .replayAbort .. | .replayDone .. => [.mb, .pf, .ev, .gr, .gn, .fb, .out]
  | .impactEnd .. | .impactClassify .. | .tapDue .. | .tapForced .. | .tapStart .. | .tapSequenceEnd .. | .diagIdleDue .. | .diagStart .. => [.qz]
  | .tapAnalysisDone .. => [.mb, .pf, .ev, .qz, .out, .free]
  | .tapDeferral .. | .calibrationStale .. | .diagSequenceEnd .. | .asPinRangeFault .. => [.mb, .pf, .ev, .qz, .out]
  | .teachDone .. => [.pf, .qz]
  | .qzTapRequestTap .. | .qzTapRequestTeach .. | .qzDiagRequest .. => [.mb, .qz, .out]
  | .qzRawCaptureStart .. | .qzRawCaptureStop .. | .qzRawCaptureRead .. => [.mb, .qz, .mc, .out]
  | .rawCaptureDone | .sharedRingTimer | .tapCalibrationCopy => [.qz, .mc]
  | .liveCalSettleDone | .optimizerSettleEnd | .optimizerHoldEnd | .optimizerOperatorHoldEnd .. => [.cf]
  | .liveCalIntervalEnd | .liveCalTimeout | .delayEstimate | .coveragePutFieldOpen .. | .coveragePutCells .. => [.mb, .pf, .ev, .cf, .out]
  | .slopeLimitUpdate | .optimizerWindowEnd | .calibrationAverageDone => [.mb, .cf]
  | .yieldRecordWrite => [.mb, .pf, .ev, .cf, .out, .free]
  | .cfCalibrateFlowZero .. | .cfCalibrateTankTare .. | .cfCalibrateLoadBegin .. | .cfCalibrateLoadEnd .. | .cfCalibrateLoadAbort ..
    | .cfCalibrateGainReset .. | .coveragePutFieldClose .. => [.mb, .cf, .out]
  | .cfCalibrateDelayReset .. => [.mb, .pf, .cf, .out]
  | .boostStartInstant .. | .observeEnd .. => [.mb, .pf, .ev, .vd, .out, .free]
  | .peakReached .. | .boostTimeout .. | .deferTimeout .. | .valveFaultDetect .. | .vdOffstateDiag .. | .vdDiagChannel .. | .vdDiagBank ..
    | .vdDiagClear .. | .holdDutyWindowStep | .lowSideThermalHysteresis .. => [.mb, .pf, .ev, .vd, .out]
  | .peakEnd .. | .releaseInstant .. | .releaseEnd .. => [.vd]
  | .boostRailThreshold .. => [.vd, .an]
  | .boostOvervoltage .. => [.mb, .pf, .ev, .vd, .an, .out]
  | .boostRailLow .. | .vbatUvOvDetect .. | .ainOutOfRange .. => [.mb, .pf, .ev, .an, .out]
  | .inrushWindowEnd .. | .startAttemptSuccess .. | .retryWaitEnd .. | .loadRestore | .lsPwmPeriodStart .. => [.ls]
  | .currentLimitEntry .. | .currentLimitExit .. | .startAttemptFail .. | .lsThermalShutdown .. | .lsJunctionCooled .. | .demagEnd ..
    | .lsOffstateDiag .. | .lsOpenLoadOnstate .. | .dissipationEstimate .. | .loadShed | .lsDiagOffState .. | .onTestEnd ..
     => [.mb, .pf, .ev, .ls, .out]
  | .lsLatchClear .. | .lsDiagOnTest .. => [.mb, .ls, .out]
  | .antennaBiasSample .. | .antennaOvervoltage .. | .notchMonitor .. | .navSolutionRelease | .inertialFault .. | .deadReckoningLimit
    | .correctionsStale | .ppsPulse | .timeHoldoverEntry | .ppsiMissing | .rtcmPut .. => [.mb, .pf, .ev, .gn, .out]
  | .antennaShortRetry .. | .channelAllocation .. | .searchDwellDone .. | .imuSample .. | .timeEstablish => [.gn]
  | .trackingLoopUpdate .. => [.gn, .free]
  | .navEpoch .. | .ppsiEdge .. => [.clk, .mb, .pf, .ev, .gn, .out, .free]
  | .frameRenumber => [.clk, .mb, .pf, .ev, .gr, .cf, .gn, .fb, .out]
  | .timeMessageQueue | .hello .. | .neighbourTimeout .. | .linkDown .. | .lsaFlood | .lsa .. | .lsaExpiry | .assign ..
     => [.mb, .pf, .ev, .gn, .fb, .out]
  | .steerGraceExpiry => [.mb, .pf, .ev, .gr, .gn, .out]
  | .gnConfigRestart .. | .gnConfigSeed .. | .gnConfigNotchReset .. | .gnConfigAntennaRetry .. | .gnConfigImuSelftest .. | .pathLoadLoadNext ..
    | .pathLoadClearNext .. | .pathLoadShift .. => [.mb, .gn, .out]
  | .helloSend .. | .verdictInForce | .syncSend .. | .delayReq .. | .delayResp .. | .creamSend .. | .resolve .. => [.fb]
  | .linkUp .. | .linkDegraded .. | .verdict .. | .creamCellReceive .. | .fbNodeAssign .. => [.mb, .pf, .ev, .fb, .out]
  | .sync .. | .alignmentTimer | .fbCableTest .. => [.mb, .pf, .ev, .gn, .fb, .out, .free]
  | .time .. => [.clk, .mb, .pf, .ev, .gn, .fb, .out, .free]
  | .canTxComplete .. | .canTxError .. | .canIntegrationDone .. | .canBusOffRecovery .. | .transportTimeout .. | .cnConfigRestart ..
    | .cnConfigReclaim .. => [.mb, .pf, .ev, .cn, .out]
  | .addressClaimTimeout .. => [.cn]
  | .cnSend .. | .cnFilterSet .. => [.mb, .cn, .out]
  | .cnCancel .. => [.mb, .cn, .out, .free]
  | .micaAccess .. | .micaAtomic .. | .churnStarvation .. | .nandLifeCheck .. | .snapshotQueueWrite .. | .fixedRecordWrite ..
     => [.mb, .pf, .ev, .mc, .out]
  | .bankPowerRequest .. | .bankZeroDone .. | .mapFlushPage | .wearCompaction .. | .converterSelfCalibration .. | .almanacCollection ..
    | .eventCompaction | .telemetry => [.mc]
  | .mapMirrorPage .. => [.cf, .fb, .mc]
  | .nandWriteDone .. => [.mb, .pf, .ev, .cf, .mc, .out, .free]
  | .mcBankState .. | .mapFlush .. => [.mb, .mc, .out]
  | .injectionEnd .. | .opsecCount => [.ev]
  | .inject .. | .injectClear .. => [.mb, .ev, .out]
  | .motionSend | .chunkForward | .nack .. | .decisionResend | .resolveResend => [.fb, .up]
  | .motion .. | .supplyConditionChange .. => [.up]
  | .updateBegin .. => [.mb, .pf, .ev, .qz, .fb, .mc, .up, .out]
  | .updateData .. | .updateAbortStaging .. | .chunk .. | .staged .. => [.mb, .pf, .ev, .fb, .mc, .up, .out]
  | .updateActivate .. | .updateConfirm .. | .prepare .. | .vote .. | .voteDeadline => [.mb, .pf, .ev, .fb, .up, .out]
  | .updateAbortResolveAbort .. => [.mb, .pf, .ev, .up, .out]
  | .manifest .. => [.mb, .pf, .ev, .qz, .fb, .mc, .up, .out, .free]
  | .ack .. => [.mc, .up]
  | .resetRelease .. | .standbyWake .. => [.mb, .ev, .rs, .pw, .sp]
  | .optionTrimLoadDone | .lifecycleSetProvisionKey .. | .ownerLockSet .. | .ownerLockClear .. => [.mb, .pf, .ev, .rs, .out]
  | .supervisorImageLoaded .. => [.mb, .pf, .ev, .mc, .up, .rs, .pw, .sp, .out]
  | .laneImageLoaded => [.mb, .rs]
  | .bootComplete .. => [.mb, .pf, .ev, .up, .rs, .out]
  | .l2RestartComplete => [.mb, .pf, .ev, .qz, .gn, .cn, .rs, .out]
  | .l3UnitReset .. => [.mb, .pf, .ev, .gr, .qz, .vd, .ls, .gn, .an, .sp, .out]
  | .resetRequest .. | .lifecycleSetRevokeKey .. | .ownerLockPermitService .. => [.mb, .rs, .out]
  | .permitServiceExpiry => [.rs]
  | .vsupReducedEntry .. => [.an, .pw, .sp]
  | .vsupNormalReturn .. => [.mc, .an, .pw, .sp]
  | .vbatLowEntry .. | .vbatHighEntry .. | .stopInputChange .. => [.mb, .pf, .ev, .vd, .ls, .an, .pw, .out, .free]
  | .vbatNormalReturn .. => [.ls, .an, .pw]
  | .sensorSupplyFault .. | .sensorSupplyRetry .. | .sensorSupplyShortRemoved .. => [.mb, .pf, .ev, .pw, .out]
  | .overTemperature .. => [.mb, .pf, .ev, .an, .pw, .out]
  | .standbyEnter .. => [.mb, .pw, .out]
  | .clkKeepStop => [.pw]
  | .domainState .. => [.mb, .pf, .ev, .qz, .gn, .pw, .sp, .out]
  | .spWrite .. => [.mb, .sp, .out]
  | .panelUpdateStart .. | .panelGuardEnd .. => [.sp]
  | .panelPhaseEnd .. | .panelPinFault .. => [.mb, .pf, .ev, .sp, .out]
  | .ainShuntReclose .. | .fqEdgeTimeout .. => [.an]

/-- Mica's content is in canonical form and inside its 64 banks, and only a bank that is on or retained, and zeroed since it was last off, lists a
byte (R297, R301, R305). -/
def micaSound (m : Mica) : Prop :=
  m.mem.wf = true ∧ m.banks.length = 64 ∧
    ∀ c ∈ m.mem, c.1 < 67108864 ∧ (nth m.banks (c.1 / 1048576) bank0).st ≠ .off ∧ (nth m.banks (c.1 / 1048576) bank0).ready = true

/-- The invariant of the machine. -/
def Inv (s : State) : Prop := micaSound s.mc

end Sys2Proof.Safety
end

