-- ==== Sys2Proof/Certificates/Slice0/Obligations.lean ====
section
/-!
DEFINITION. Certificates/Slice0/Obligations.lean: the statements about the block, for the provers.
-/

open Sys2Proof Sys2Proof.Machine Sys2Proof.Safety

/-! ### The block and its queue -/

/-- A step is the meaning of the command at the front of the queue, on the state with the rest of the queue. With no command waiting the block idles
(the model's choice: log entry 8). -/
def Obligations.StepRunsFrontCommand : Prop :=
  (∀ (s : State) (i : Instr) (rest : List Instr), s.pending = i :: rest → step s = exec i { s with pending := rest }) ∧
  (∀ s : State, s.pending = [] → step s = .next s)

/-! ### Mailbox commands: steps 7 to 10 of Table 1-3 -/

/-- Every mailbox command checks its role first: a role that may not send the code is answered NOT_AUTH, and nothing else happens (R16, R52). The
command has nothing unfinished before it in its session. -/
def Obligations.CommandsCheckTheRole : Prop :=
  ∀ (i : Instr) (code : Nat) (r : Req) (c : Ctx) (s : State),
    hostRow i = some (code, r) → atStep7 code r c s = true → sessionFree c s = true → roleOk c = false →
      exec i s = .next (answer c stNotAuth [] s)

/-- A mailbox command behind one that its session has not finished is accepted and waits for its turn, and with 16 unfinished it is answered BUSY
without execution (R33). -/
def Obligations.CommandsWaitTheirTurn : Prop :=
  ∀ (i : Instr) (code : Nat) (r : Req) (c : Ctx) (x : Sess) (s : State),
    hostRow i = some (code, r) → atStep7 code r c s = true → findChan s c.session c.binding = some x → chanBusy x = true →
      (16 ≤ unfinished x → exec i s = .next (answer c stBusy [] s)) ∧
      (unfinished x < 16 → exec i s = .next (updChan c.session c.binding
        (fun y => { y with queue := y.queue ++ [⟨c.seq, c.era, code, r.payload, s.clk.frame⟩] }) s))

/-- In a half-open session every mailbox command but SESSION_PROVE is answered NOT_AUTH, and the answer is all it leaves (R28). A session of which
nothing is kept answers NOT_AUTH in session 0, and with the transports closed no command acts (the model's reading of Table 14-6: log entry 7). -/
def Obligations.CommandsNeedAnOpenSession : Prop :=
  ∀ (i : Instr) (code : Nat) (r : Req) (s : State), hostRow i = some (code, r) →
    (∀ c, mailUp s = true → ctxOf code r s = some c → sessionFree c s = true → halfOpen s c.session = true → code ≠ cSessionProve →
      exec i s = .next (send (responseMsgs c s.mb.epoch ([BitVec.ofNat 8 stNotAuth, 0, 0, 0])) s)) ∧
    (mailUp s = true → r.session ≠ 0 → findSess s r.session = none → exec i s = .next (answer0 r.binding r.seq code stNotAuth s)) ∧
    (mailUp s = false → exec i s = .next s)

/-- A response is status, three reserved bytes of 0 and the rest (R15), cut into messages of at most 1024 bytes with MORE set on all but the last
(R19); answering changes the messages sent and the cache of the session answered in, and no other part of the state. -/
def Obligations.ResponsesAreFormedAndCut : Prop :=
  ∀ (c : Ctx) (st : Nat) (body : Bytes) (s : State),
    ∃ ms : List OutMsg, (answer c st body s).out = s.out ++ ms ∧
      (ms.map OutMsg.payload).flatten = [BitVec.ofNat 8 st, 0, 0, 0] ++ body ∧
      (∀ m ∈ ms, m.payload.length ≤ 1024 ∧ m.session = c.session ∧ m.seq = c.seq ∧ m.code = c.code ∧ m.notify = false ∧
        m.binding = c.binding ∧ m.epoch = s.mb.epoch ∧ m.era = c.era) ∧
      ms.map OutMsg.more = List.replicate (ms.length - 1) true ++ [false] ∧
      (c.session = 0 → answer c st body s = { s with out := s.out ++ ms }) ∧
      onlyIn [.out, .mb] s (answer c st body s) ∧
      { (answer c st body s).mb with sessions := s.mb.sessions } = s.mb ∧
      (∀ n x, findSess s n = some x → ∃ y, findSess (answer c st body s) n = some y ∧ { y with cache := x.cache } = x ∧
        (n ≠ c.session → y = x))

/-- The target-frame rule for arrival frame `a` (R37). -/
def Obligations.TargetFrameRule : Prop :=
  ∀ (a target : Nat) (exact : Bool),
    (target = 0 → targetRule a target exact = (stOk, a + 2)) ∧
    (a + 2 ≤ target → target ≤ a + 86400000 → targetRule a target exact = (stOk, target)) ∧
    (a + 86400000 < target → (targetRule a target exact).1 = stBadArg) ∧
    (target ≠ 0 → target < a + 2 → exact = false → targetRule a target exact = (stLate, a + 2)) ∧
    (target ≠ 0 → target < a + 2 → exact = true → (targetRule a target exact).1 = stTooLate)

/-! ### T commands (R36 to R38, R41) -/

/-- A T command of Granite, Quartz, the optimizer or steering whose owner has no objection is handed over for its frame of application, and answered
OK or LATE with that frame; nothing else changes. VD_COMMAND and LS_COMMAND for a channel that a host may command are handed over for their frame of
application, and nothing else changes (R193, R215). -/
def Obligations.TimedCommandsAreHandedOver : Prop :=
  (∀ (r : Req) (c : Ctx) (s : State) (st f : Nat) (n : Bool), timed c st f n s = true →
    let p := c.payload.drop 12
    let done := Host.Outcome.next (answer c st (u64 f) (handOver (tcmdOf c f n s) s))
    (reaches cFunctionSet r c s = true → grRefused s = false → 1 ≤ rdN p 0 1 → rdN p 0 1 ≤ 30 → p.length = 4 + 8 * rdN p 0 1 → resZero p 1 3 = true →
      (∀ k < rdN p 0 1, resZero p (5 + 8 * k) 3 = true ∧ ∃ e, fnEntry s (rdN p (4 + 8 * k) 1) = some e ∧
        rdI e 12 4 ≤ rdI p (8 + 8 * k) 4 ∧ rdI p (8 + 8 * k) 4 ≤ rdI e 16 4) →
      exec (.functionSet r) s = done) ∧
    (reaches cFunctionEnable r c s = true → grRefused s = false → p.length = 8 → (rdN p 0 4 = 0 ∨ commitHeld s = false) →
      (∀ k < 32, ¬(bit (rdN p 0 4) k ∧ bit (rdN p 4 4) k) ∧
        (bit (rdN p 0 4) k ∨ bit (rdN p 4 4) k → k < 30 ∧ (fnEntry s (k + 1)).isSome)) →
      exec (.functionEnable r) s = done) ∧
    (reaches cCoefBankSwap r c s = true → grRefused s = false → stationary s = true → p.length = 8 →
      (∀ k < 64, bit (rdN p 0 8) k → (pairIn s.pf.work.banks k).isSome) →
      exec (.coefBankSwap r) s = done) ∧
    (reaches cQzCropSelect r c s = true → inPs s = false → p.length = 4 → rdN p 0 1 ≤ 7 → resZero p 1 3 = true →
      (∃ t ∈ s.qz.tables, rdN t 2 1 = rdN p 0 1) →
      exec (.qzCropSelect r) s = done) ∧
    (reaches cOptimizerTargets r c s = true → inPs s = false → p.length = 22 →
      (∀ v ∈ targetValues p, inParamRange v.1 v.2 = true) →
      exec (.optimizerTargets r) s = done) ∧
    (reaches cOptimizerEnable r c s = true → inPs s = false → p.length = 8 → rdN p 0 1 ≤ 1 → resZero p 1 3 = true →
      (rdN p 0 1 = 0 ∨ s.gr.mode ≠ .safe) →
      (∀ k < 32, bit (rdN p 4 4) k → (fnEntry s (k + 1)).isSome ∧ k < 30 ∧ optStep s (k + 1) ≠ 0) →
      exec (.optimizerEnable r) s = done) ∧
    (reaches cSteerEngage r c s = true → p.length = 4 → rdN p 0 1 ≤ 1 → resZero p 1 3 = true →
      (rdN p 0 1 = 0 ∨ (s.gr.mode ≠ .safe ∧ inPs s = false)) →
      exec (.steerEngage r) s = done)) ∧
  (∀ (r : Req) (c : Ctx) (s : State) (st f : Nat) (n : Bool), timed c st f n s = true →
    let p := c.payload.drop 12
    let ch := rdN p 0 1
    let done := Host.Outcome.next (answer c st (u64 f) (handOver (tcmdOf c f n s) s))
    (reaches cVdCommand r c s = true → 1 ≤ ch → ch ≤ 12 → resZero p 2 2 = true → vdMayCommand s (ch - 1) = true →
      (rdN p 1 1 = 0 → p.length = 4 → exec (.vdCommandOff r) s = done) ∧
      (rdN p 1 1 = 1 → p.length = 12 → 1 ≤ rdN p 4 2 → rdN p 4 2 ≤ 1000 → 5 ≤ rdN p 6 2 → rdN p 6 2 ≤ 10000 → vdMode s (ch - 1) = 1 →
        exec (.vdCommandPulse r) s = done) ∧
      (rdN p 1 1 = 2 → p.length = 12 → 0 ≤ rdI p 4 4 → rdI p 4 4 ≤ 4000 → resZero p 8 4 = true → vdMode s (ch - 1) = 2 →
        exec (.vdCommandCurrent r) s = done)) ∧
    (reaches cLsCommand r c s = true → p.length = 8 → 1 ≤ ch → ch ≤ 24 → resZero p 2 2 = true → resZero p 6 2 = true →
      lsMayCommand s (ch - 1) = true →
      (rdN p 1 1 = 0 → rdN p 4 2 = 0 → exec (.lsCommandOff r) s = done) ∧
      (rdN p 1 1 = 1 → rdN p 4 2 = 0 → lsMode s (ch - 1) = 1 → exec (.lsCommandOn r) s = done) ∧
      (rdN p 1 1 = 2 → rdN p 4 2 ≤ 10000 → lsMode s (ch - 1) = 2 → exec (.lsCommandPwm r) s = done)))

/-- T commands whose acceptance itself sets something aside are handed over too: PROFILE_SELECT keeps the copy it validated (R67), RECORD_CAPTURE
answers a file length (a free value: log entry 3), CN_SEND takes a handle (R281), INJECT a handle and a held injection (R332), STANDBY_ENTER arms the wake
inputs (R396), and PARAM_SET answers that no entry is rejected (R48). -/
def Obligations.ReservingCommandsAreHandedOver : Prop :=
  ∀ (r : Req) (c : Ctx) (s : State) (st f : Nat) (n : Bool), timed c st f n s = true →
    let p := c.payload.drop 12
    let h := handOver (tcmdOf c f n s) s
    (∀ slot want, let s1 := if slot ≤ 3 then loadJudge slot s else s
      reaches cProfileSelect r c s = true → selectFields p = some (slot, want) → timed c st f n s1 = true → selectCheck c s1 = none →
      let h1 := handOver (tcmdOf c f n s1) s1
      let img := namedImage s1 slot
      exec (.profileSelect r) s = .next (answer c st (u64 f)
        { h1 with pf := { s1.pf with selected := s1.pf.selected ++ [⟨s1.mb.order, slot, imageOf img, rdN img 16 4⟩] } })) ∧
    (reaches cParamSet r c s = true → paramSetCheck c s = none → exec (.paramSet r) s = .next (answer c st (u8 255 ++ zeros 3) h)) ∧
    (reaches cRecordCapture r c s = true → grRefused s = false → p.length = 4 → 1 ≤ rdN p 0 4 → rdN p 0 4 ≤ 60000 →
      (rdN p 0 4 ≤ 10000 ∨ stationary s = true) →
      exec (.recordCapture r) s = .next (answer c st (u64 f ++ u32 (Config.freeNat s.free)) { h with free := s.free + 1 })) ∧
    (reaches cCnSend r c s = true → sendBad s p = false →
      (canPort s (rdN p 0 1 - 1)).st ≠ .disabled → (canPort s (rdN p 0 1 - 1)).st ≠ .listenOnly → s.gr.mode ≠ .safe →
      (inPs s = false ∨ rdN p 0 1 = 1) → (canPort s (rdN p 0 1 - 1)).queue.length < 64 →
      exec (.cnSend r) s = .next (answer c st (u32 s.cn.nextHandle ++ u64 f)
        { h with cn := { s.cn with nextHandle := (s.cn.nextHandle + 1) % 2 ^ 32, handles := s.cn.handles ++ [(s.mb.order, s.cn.nextHandle)] } })) ∧
    (∀ (d : DetRow) (inst mode dur v : Nat), reaches cInject r c s = true → injFields p = some (d, inst, mode, dur, v) →
      (inService s = true ∨ (c.role = 2 ∧ paramN s pDgInjectOem = 1 ∧ s.rs.ownerLock = false ∧ stationary s = true)) →
      (d.id = detTwoLaneSafeState → inService s = true) → (onLane d = true → s.gr.mode = .triple) →
      (∀ i ∈ s.ev.injs, ¬(i.det = d.id ∧ i.inst = inst)) → s.ev.injs.length < 16 →
      exec (.inject r) s = .next (answer c st (u8 (freeHandle s) ++ zeros 3 ++ u64 f)
        { h with ev := { s.ev with injs := s.ev.injs ++ [⟨freeHandle s, d.id, inst, mode, dur, v, c.session, c.role, f, false, 0⟩] } })) ∧
    (reaches cStandbyEnter r c s = true → p.length = 12 → (rdN p 0 1 = 1 ∨ rdN p 0 1 = 2) → rdN p 1 1 < 64 → resZero p 2 2 = true →
      wakeMaskOk s (rdN p 0 1) (rdN p 1 1) = true → (rdN p 4 8 = 0 ∨ f + 10000 ≤ rdN p 4 8) →
      fnsIdle s = true → stationary s = true → commitHeld s = false → s.pw.sb.ph = .awake →
      exec (.standbyEnter r) s = .next (answer c st (u64 f)
        { h with pw := { s.pw with sb := { s.pw.sb with
            accepted := true, latched := [], mode := rdN p 0 1, mask := rdN p 1 1, alarm := rdN p 4 8 } } }))

/-! ### Identity, sessions and subscriptions (chapter "Mailboxes, sessions and the command set") -/

/-- IDENT, PING, TIME_GET, STATUS_GET and SESSION_LIST are answered OK with the layouts of Tables 1-10, 1-13 and 14-11 and of R46 and R239, and leave
everything else as it was but for the clock's cycle and the free value that TIME_GET reads (log entry 3). -/
def Obligations.IdentityCommandsAnswer : Prop :=
  ∀ (r : Req) (c : Ctx) (s : State),
    (reaches cIdent r c s = true → c.payload = [] →
      exec (.ident r) s = .next (answer c stOk (leN 6 uid ++ u8 3 ++ u8 2 ++ (if inRecovery s then zeros 3 else u8 3 ++ u8 2 ++ u8 0) ++
        u8 0x42 ++ u8 0x42 ++ u8 (lifecycleByte s) ++ u8 (myNode s) ++ u8 (profileByte s) ++ u32 s.mb.epoch ++ u64 s.mb.horizon ++
        [0x47, 0x48, 0x2D, 0x34, 0x38, 0x34, 0x2D, 0x41, 0x31, 0, 0, 0, 0, 0, 0, 0]) s)) ∧
    (reaches cPing r c s = true →
      exec (.ping r) s = .next (if c.payload.length = 8 then answer c stOk (c.payload ++ u64 s.clk.frame) s else answer c stBadArg [] s)) ∧
    (reaches cTimeGet r c s = true → c.payload = [] →
      ∃ cy, s.clk.cycle % 750000 ≤ cy ∧ cy < 750000 ∧
        exec (.timeGet r) s = .next (answer c stOk (u64 s.clk.frame ++ u32 cy ++ padTo 48 s.gn.time.msg)
          { s with clk := { s.clk with cycle := max s.clk.cycle cy }, free := s.free + 1 })) ∧
    (reaches cStatusGet r c s = true → c.payload = [] →
      exec (.statusGet r) s = .next (answer c stOk (u8 (lifecycleByte s) ++ u8 (grModeCode s.gr.mode) ++ u8 (profileByte s) ++
        u8 (timeCode s.gn.time.st) ++ u8 s.rs.lastLevel ++ u8 (b2n s.rs.consTrim) ++ u16 s.rs.lastMask ++ u32 s.ev.pcycle ++ u32 s.ev.opsec ++
        u32 s.rs.bootMs ++ u8 (min s.rs.failed 255) ++ u8 s.rs.loadCount ++ zeros 2 ++ u16 s.an.vsup ++ u16 s.an.vbat ++ u16 s.an.keep ++
        i16 s.an.temp ++ u32 s.mb.malformed ++ u32 s.mb.authFails ++ u32 s.mb.discarded ++ u32 s.mb.lockouts ++ u32 s.mb.epoch) s)) ∧
    (reaches cSessionList r c s = true → c.payload = [] →
      exec (.sessionList r) s = .next (answer c stOk (u8 s.mb.sessions.length ++ zeros 3 ++
        (sortBy Sess.num s.mb.sessions).flatMap (sessEntry c s)) s))

/-- Sessions open in two steps and close in one: SESSION_OPEN makes a half-open session with the next number, SESSION_PROVE opens it and expects
sequence 1, SESSION_CLOSE is answered and takes the session away (R26, R28, R442). The module's nonce is a free value (log entry 3). SUBSCRIBE adds
a subscription or replaces the interval of the one with its code and filter, UNSUBSCRIBE removes the named one or every one of the code (R43);
PENDING_LIST lists and PENDING_CANCEL withdraws or answers by the first row of R40's table that applies. -/
def Obligations.SessionCommandsAct : Prop :=
  (∀ (r : Req) (c : Ctx) (s : State),
    (∀ key, reaches cSessionOpen r c s = true → c.payload.length = 20 → 1 ≤ rdN c.payload 0 1 → rdN c.payload 0 1 ≤ 4 → resZero c.payload 1 3 = true →
      (forced s detBindingLockedOut 0 = false) → roleKey s (rdN c.payload 0 1) = some key → lockedOut s c.binding = false →
      s.pw.sb.ph = .awake → (inRecovery s = true → rdN c.payload 0 1 ≠ 1) →
      (s.mb.nextSession ≤ 65535 → s.mb.sessions.length < 8 → (s.mb.sessions.filter (fun x => !x.isOpen)).length < 2 →
        ∃ t x nonce, exec (.sessionOpen r) s = .next (answer c stOk (u16 s.mb.nextSession ++ zeros 2 ++ nonce ++ leN 6 uid ++ zeros 2) t) ∧
          t = { s with mb := { s.mb with nextSession := s.mb.nextSession + 1, sessions := s.mb.sessions ++ [x] }, free := s.free + 1 } ∧
          nonce.length = 16 ∧ x.moduleNonce = nonce ∧ x.num = s.mb.nextSession ∧ x.role = rdN c.payload 0 1 ∧ x.isOpen = false ∧
          x.binding = c.binding ∧ x.opened = s.clk.ms ∧ x.subs = [] ∧ x.held = [] ∧ x.e = 0) ∧
      (65535 < s.mb.nextSession → ∃ t, exec (.sessionOpen r) s = .next (answer c stEpochMismatch [] t) ∧ t.mb.nextSession = 1 ∧ t.mb.sessions = [])) ∧
    (reaches cSessionProve r c s = true → c.payload = [] → exec (.sessionProve r) s = .next (answer c stRefusedState [] s)) ∧
    (∀ x, mailUp s = true → ctxOf cSessionProve r s = some c →
      findChan s c.session c.binding = some x → c.session ≠ 0 → x.isOpen = false → chanBusy x = false → roleOk c = true → codeBarred c s = false →
      c.payload = [] →
      exec (.sessionProve r) s =
        .next (answer c stOk [] (updSess c.session (fun y => { y with isOpen := true, e := 1, lastAuth := s.clk.ms }) s))) ∧
    (reaches cSessionClose r c s = true → c.payload = [] →
      exec (.sessionClose r) s = .next (dropSession c.session (answer c stOk [] s)) ∧
      (c.session ≠ 0 → findSess (dropSession c.session (answer c stOk [] s)) c.session = none) ∧
      (dropSession c.session (answer c stOk [] s)).mb.exch = s.mb.exch ∧
      onlyIn [.mb, .out, .pf, .ev] s (dropSession c.session (answer c stOk [] s)))) ∧
  (∀ (r : Req) (c : Ctx) (s : State),
    let p := c.payload
    (reaches cSubscribe r c s = true → p.length = 8 → resZero p 6 2 = true → rdN p 4 2 ≤ 10000 → rdN p 0 2 ∈ subCodes →
      let used := max (rdN p 4 2) (paramN s pMbNotifyMinInterval)
      let held := subsOf s c.session
      (∀ b ∈ held, ¬(b.code = rdN p 0 2 ∧ b.filter = rdN p 2 2)) →
        (held.length < 32 → exec (.subscribe r) s = .next (answer c stOk (u16 used ++ u8 (held.length + 1) ++ zeros 1)
          (updSess c.session (fun x => { x with subs := x.subs ++ [⟨rdN p 0 2, rdN p 2 2, used, none, []⟩] }) s))) ∧
        (32 ≤ held.length → exec (.subscribe r) s = .next (answer c stNoResource [] s))) ∧
    (∀ b, reaches cSubscribe r c s = true → p.length = 8 → resZero p 6 2 = true → rdN p 4 2 ≤ 10000 → rdN p 0 2 ∈ subCodes →
      b ∈ subsOf s c.session → b.code = rdN p 0 2 → b.filter = rdN p 2 2 →
      let used := max (rdN p 4 2) (paramN s pMbNotifyMinInterval)
      exec (.subscribe r) s = .next (answer c stOk (u16 used ++ u8 (subsOf s c.session).length ++ zeros 1)
        (updSub c.session (rdN p 0 2) (rdN p 2 2) (fun b => { b with interval := used }) s))) ∧
    (reaches cUnsubscribe r c s = true → p.length = 8 → rdN p 4 1 ≤ 1 → resZero p 5 3 = true →
      let goes := fun (b : Sub) => b.code == rdN p 0 2 && (rdN p 4 1 == 1 || b.filter == rdN p 2 2)
      let held := subsOf s c.session
      let left := held.filter (fun b => !goes b)
      exec (.unsubscribe r) s = .next (answer c stOk (u8 (held.length - left.length) ++ u8 left.length ++ zeros 2)
        (updSess c.session (fun x => { x with subs := x.subs.filter (fun b => !goes b) }) s))) ∧
    (reaches cPendingList r c s = true → p.length = 4 → 1 ≤ rdN p 2 1 → rdN p 2 1 ≤ 40 → resZero p 3 1 = true →
      let es := ((pendingTs s).drop (rdN p 0 2)).take (rdN p 2 1)
      exec (.pendingList r) s = .next (answer c stOk (u8 es.length ++ zeros 1 ++ u16 (pendingTs s).length ++ es.flatMap pendingEntry) s)) ∧
    (∀ t, reaches cPendingCancel r c s = true → p.length = 8 → rdN p 4 2 ≠ 0 →
      (rdN p 4 2 = c.session ∧ (rdN p 0 4 = 0 ∨ rdN p 0 4 = s.mb.epoch) ∨ c.role = 2 ∨ c.role = 4) →
      s.mb.exch.find? (fun t => t.epoch == (if rdN p 0 4 = 0 then s.mb.epoch else rdN p 0 4) && t.session == rdN p 4 2 && t.seq == rdN p 6 2 && !t.internal)
        = some t →
      (s.clk.frame + 2 ≤ t.frame → exec (.pendingCancel r) s = .next (answer c stOk (u64 t.frame) (withdraw t s)) ∧
        t ∉ (withdraw t s).mb.exch) ∧
      (t.frame < s.clk.frame + 2 → exec (.pendingCancel r) s = .next (answer c stTooLate (u64 t.frame) s))))

/-- FB_RELAY hands a valid inner command to the fabric for its destination, and the answer waits for the inner response; with no route it is answered
NO_RESOURCE (R24, R25). -/
def Obligations.RelayCarriesInnerCommand : Prop :=
  ∀ (r : Req) (c : Ctx) (s : State) (m : WireMsg),
    reaches cFbRelay r c s = true → 4 ≤ c.payload.length → resZero c.payload 1 3 = true → 1 ≤ rdN c.payload 0 1 → rdN c.payload 0 1 ≤ 32 →
    rdN c.payload 0 1 ≠ myNode s → commandMsg (c.payload.drop 4) = some m → m.code ≠ cFbRelay →
    let dest := rdN c.payload 0 1
    let f := outerFlow c.binding c.session s
    (∀ p, routePort s dest = some p →
      ∃ t, exec (.fbRelay r) s = .next t ∧
        t.mb.waiting = s.mb.waiting ++ [⟨c.binding, c.session, c.seq, cFbRelay, c.era, .relay s.mb.nextRelay, s.clk.ms⟩] ∧
        t.mb.relays = s.mb.relays ++ [⟨s.mb.nextRelay, dest, f.1, m.seq, m.code, [], s.clk.ms⟩] ∧ t.mb.nextRelay = s.mb.nextRelay + 1 ∧
        t.out = s.out ∧ onlyIn [.mb, .fb] s t) ∧
    (routePort s dest = none → exec (.fbRelay r) s = .next (answer c stNoResource [] s))

/-! ### Parameters and profiles -/

/-- PARAM_GET and PARAM_INFO of a parameter the module lists answer its present value and its description, PARAM_LIST the IDs; nothing changes (R49,
R443, R444). -/
def Obligations.ParameterQueriesAnswer : Prop :=
  ∀ (r : Req) (c : Ctx) (s : State),
    let p := c.payload
    (reaches cParamGet r c s = true → 1 ≤ rdN p 0 1 → rdN p 0 1 ≤ 64 → p.length = 4 + 4 * rdN p 0 1 → resZero p 1 3 = true →
      ∃ es : List Bytes, exec (.paramGet r) s = .next (answer c stOk es.flatten s) ∧ es.length = rdN p 0 1 ∧
        ∀ k < rdN p 0 1, ∀ row, paramRow (rdN p (4 + 4 * k) 4) = some row →
          es[k]? = some ([BitVec.ofNat 8 stOk, 0, 0, 0] ++ slotOf (param s (rdN p (4 + 4 * k) 4)))) ∧
    (∀ row, reaches cParamInfo r c s = true → p.length = 4 → paramRow (rdN p 0 4) = some row →
      exec (.paramInfo r) s = .next (answer c stOk (u16 row.ty ++ u16 row.unit ++ slotOf (rangeMin row.ranges) ++ slotOf (rangeMax row.ranges) ++
        slotOf row.dflt ++ u8 row.access ++ u8 row.roles ++ zeros 2) s)) ∧
    (reaches cParamInfo r c s = true → p.length = 4 → paramRow (rdN p 0 4) = none → liveRow (rdN p 0 4) = none →
      exec (.paramInfo r) s = .next (answer c stBadArg [] s)) ∧
    (reaches cParamList r c s = true → p.length = 4 →
      ∃ ids : List Nat, exec (.paramList r) s = .next (answer c stOk (u16 ids.length ++ zeros 2 ++ ids.flatMap u32) s) ∧ ids.length ≤ 250 ∧
        (rdN p 1 1 = 255 → ids = ((paramIds (rdN p 0 1) ++ liveIds (rdN p 0 1)).drop (rdN p 2 2)).take 250) ∧
        ∀ id ∈ ids, id ∈ paramIds (rdN p 0 1) ++ liveIds (rdN p 0 1))

/-- PROFILE_GET_ACTIVE, PROFILE_READ of the working copy or PS, PROFILE_VALIDATE of the working copy and MD_READ are answered from the profiles (Tables 2-2
and 2-7); nothing changes but the free values that stand for budget figures the specification does not state (log entry 3). -/
def Obligations.ProfileQueriesAnswer : Prop :=
  ∀ (r : Req) (c : Ctx) (s : State),
    let p := c.payload
    (reaches cProfileGetActive r c s = true → p = [] →
      exec (.profileGetActive r) s = .next (answer c stOk (u8 s.pf.active ++ u8 s.pf.source ++ u8 (b2n s.pf.modified) ++ zeros 1 ++ u32 s.pf.crc ++
        u32 s.pf.work.revision ++ u32 s.pf.work.machineSet ++ u64 s.pf.since ++ padTo 32 s.pf.work.name) s)) ∧
    (∀ img, reaches cProfileRead r c s = true → p.length = 12 → resZero p 1 3 = true → 1 ≤ rdN p 8 4 → rdN p 8 4 ≤ 65524 →
      (rdN p 0 1 = 16 ∧ img = psImage ∨ rdN p 0 1 = 32 ∧ img = imageBytes s.pf.work) →
      exec (.profileRead r) s = .next (if rdN p 4 4 + rdN p 8 4 ≤ img.length
        then answer c stOk (u32 (rdN p 4 4) ++ (img.drop (rdN p 4 4)).take (rdN p 8 4)) s
        else answer c stBadArg [] s)) ∧
    (reaches cProfileRead r c s = true → p.length = 12 → resZero p 1 3 = true → 1 ≤ rdN p 8 4 → rdN p 8 4 ≤ 65524 → rdN p 0 1 ≤ 3 →
      ∃ t, exec (.profileRead r) s = .next t ∧ onlyIn tells s t ∧ t.pf.slots = s.pf.slots ∧
        ((∀ x ∈ slotCopies s (rdN p 0 1), x.good = true) → forced s detProfileCopyIntegrityFailure (rdN p 0 1 + 1) = false →
          rdN p 4 4 + rdN p 8 4 ≤ (slotImage s (rdN p 0 1)).length →
          t = answer c stOk (u32 (rdN p 4 4) ++ ((slotImage s (rdN p 0 1)).drop (rdN p 4 4)).take (rdN p 8 4)) s)) ∧
    (reaches cProfileValidate r c s = true → p = [32, 0, 0, 0] →
      (validate s (imageBytes s.pf.work) = none →
        exec (.profileValidate r) s = .next (answer c stOk (zeros 8 ++ u32 (frameCost (imageOf (imageBytes s.pf.work))) ++
          u32 (tickCost (imageOf (imageBytes s.pf.work))) ++ u8 (creamLoad (imageOf (imageBytes s.pf.work)))) s)) ∧
      (∀ fl, validate s (imageBytes s.pf.work) = some fl →
        ∃ t fig, exec (.profileValidate r) s = .next (answer c stValidationFail (u8 fl.1 ++ zeros 1 ++ u16 fl.2.1 ++ u32 fl.2.2 ++ fig) t) ∧
          fig.length = 9 ∧ onlyIn [.free] s t)) ∧
    (reaches cMdRead r c s = true → p.length = 4 → (rdN p 0 1 = 1 ∧ rdN p 1 1 ≤ 30 ∨ rdN p 0 1 = 2 ∧ rdN p 1 1 ≤ 127) → 1 ≤ rdN p 2 1 → rdN p 2 1 ≤ 32 →
      resZero p 3 1 = true →
      ∃ es : List Bytes, exec (.mdRead r) s = .next (answer c stOk (u8 es.length ++ zeros 3 ++ es.flatten) s) ∧ es.length ≤ rdN p 2 1 ∧
        ∀ e ∈ es, rdN p 1 1 ≤ rdN e 0 1 ∧ e ∈ (if rdN p 0 1 = 1 then s.pf.work.funcs else s.pf.work.sensors))

/-- Profiles are staged by PROFILE_WRITE from offset 0, saved by PROFILE_SAVE into the copy of lower generation and answered when durable, and the default
slot is a module setting (R72 to R74); the staging buffer goes after PF.STAGING_TIMEOUT without a write. -/
def Obligations.ProfilesAreStagedAndSaved : Prop :=
  ∀ (r : Req) (c : Ctx) (s : State),
    let p := c.payload
    (reaches cProfileWrite r c s = true → 9 ≤ p.length → p.length ≤ 65536 → 128 ≤ rdN p 4 4 → rdN p 4 4 ≤ 262144 →
      rdN p 0 4 + (p.length - 8) ≤ rdN p 4 4 → profileClosed s = false →
      (rdN p 0 4 = 0 → (∀ g, s.pf.staging = some g → g.session = c.session) →
        ∃ g, exec (.profileWrite r) s = .next (answer c stOk (u32 (p.length - 8)) { s with pf := { s.pf with staging := some g } }) ∧
          g.session = c.session ∧ g.data = p.drop 8 ++ zeros (rdN p 4 4 - (p.length - 8)) ∧ g.last = s.clk.ms) ∧
      (∀ g, s.pf.staging = some g → g.session = c.session → rdN p 0 4 ≠ 0 → g.data.length = rdN p 4 4 →
        ∃ g', exec (.profileWrite r) s = .next (answer c stOk (u32 (g'.written.filter id).length) { s with pf := { s.pf with staging := some g' } }) ∧
          g'.data = g.data.take (rdN p 0 4) ++ p.drop 8 ++ g.data.drop (rdN p 0 4 + (p.length - 8)) ∧
          g'.session = g.session ∧ g'.last = s.clk.ms) ∧
      (∀ g, s.pf.staging = some g → g.session ≠ c.session → exec (.profileWrite r) s = .next (answer c stBusy [] s)) ∧
      (s.pf.staging = none → rdN p 0 4 ≠ 0 → exec (.profileWrite r) s = .next (answer c stRefusedState [] s))) ∧
    (reaches cProfileSave r c s = true → p.length = 8 → rdN p 0 1 = 32 → rdN p 1 1 ≤ 3 → resZero p 2 2 = true → profileClosed s = false →
      (s.rs.ownerLock = false ∨ inService s = true) → s.pf.saving = none → validate s (imageBytes s.pf.work) = none →
      (rdN p 4 4 = 0 ∨ rdN p 4 4 = rdN (imageBytes s.pf.work) 16 4) →
      let cs := slotCopies s (rdN p 1 1)
      exec (.profileSave r) s = .next (updChan c.session c.binding (fun x => { x with exec := some c.seq })
        { s with
          pf := { s.pf with saving := some ⟨rdN p 1 1, saveTarget cs, saveGen cs, imageBytes s.pf.work, true⟩ }
          mb := { s.mb with waiting := s.mb.waiting ++ [⟨c.binding, c.session, c.seq, cProfileSave, c.era, .profileSave (rdN p 1 1), s.clk.ms⟩] } })) ∧
    (reaches cProfileSetDefault r c s = true → p.length = 4 → (rdN p 0 1 ≤ 3 ∨ rdN p 0 1 = 16) → resZero p 1 3 = true →
      (s.rs.ownerLock = false ∨ c.role = 3 ∨ inService s = true) →
      exec (.profileSetDefault r) s = .next (answer c stOk [] { s with pf := { s.pf with
        settings := setKey pPfDefault ↑(rdN p 0 1) s.pf.settings, writes := s.pf.writes ++ [⟨s.pf.settings, s.clk.ms, false⟩] } })) ∧
    (∀ g, s.pf.staging = some g →
      exec .profileStagingTimeout s = .next (if g.last + paramN s pPfStagingTimeout ≤ s.clk.ms then { s with pf := { s.pf with staging := none } } else s))

/-! ### Granite's mailbox commands (chapter "Granite") -/

/-- GR_STATUS, LANE_STATUS, RECORD_READ and REPLAY STATUS are answered OK with the layouts of chapter 3 (R103, Table 3-12); nothing else changes. -/
def Obligations.GraniteQueriesAnswer : Prop :=
  ∀ (r : Req) (c : Ctx) (s : State),
    let p := c.payload
    let g := s.gr
    (reaches cGrStatus r c s = true → p = [] →
      exec (.grStatus r) s = .next (answer c stOk (u8 (grModeCode g.mode) ++ u8 (maskOf 3 (fun k => (laneOf s k).st == .active)) ++
        u8 (readmitting s) ++ zeros 1 ++ u64 s.clk.frame ++ u32 g.overruns ++ u8 (satU 8 g.consec) ++ zeros 3 ++ u32 g.lastWork ++ u32 g.peakWork ++
        u32 (fnMask s (fun f => f.st == .enabled)) ++ u32 (fnMask s (fun f => f.st == .ramp)) ++ u32 (fnMask s (fun f => f.st == .safe)) ++
        u32 (fnMask s (fun f => f.badFb != 0)) ++ controlDigest s) s)) ∧
    (reaches cLaneStatus r c s = true → p = [] →
      ∃ e0 e1 e2 : Bytes, exec (.laneStatus r) s = .next (answer c stOk (e0 ++ e1 ++ e2) s) ∧
        ∀ k e, [e0, e1, e2][k]? = some e →
          e = u8 (laneCode (laneOf s k).st) ++ u8 (laneOf s k).cause ++ u16 (satU 16 (exclCount s k)) ++ u32 (laneOf s k).ecc ++
            u64 (laneOf s k).lastExcl ++ u64 (laneOf s k).lastJoin) ∧
    (∀ cap, reaches cRecordRead r c s = true → p.length = 8 → g.capture = some cap → 1 ≤ rdN p 4 4 → rdN p 4 4 ≤ 65520 →
      rdN p 0 4 < cap.data.length →
      exec (.recordRead r) s = .next (answer c stOk (u32 (rdN p 0 4) ++ (cap.data.drop (rdN p 0 4)).take (rdN p 4 4)) s)) ∧
    (reaches cReplay r c s = true → p = [0, 0, 0, 0] →
      exec (.replayStatus r) s = .next (answer c stOk (u8 (match g.replay.st with | .idle => 0 | .running => 1 | .done => 2) ++ u8 g.replay.result ++
        zeros 2 ++ u32 g.replay.frames ++ u32 g.replay.mismatches ++ u64 g.replay.badFrame ++ u8 g.replay.badTick ++ zeros 3) s))

/-- COEF_BANK_WRITE puts 48 bytes into the inactive bank of a pair of the working copy, which is then modified (R92, R103). REPLAY LOAD replaces or
extends the capture file, RUN starts a run of it with Granite idle and the output stages off, and ABORT ends a run with result 2 (R100, R103). -/
def Obligations.GraniteHostActs : Prop :=
  ∀ (r : Req) (c : Ctx) (s : State),
    let p := c.payload
    (∀ e, reaches cCoefBankWrite r c s = true → p.length = 52 → pairIn s.pf.work.banks (rdN p 0 1) = some e → rdN p 1 1 ≤ 1 → rdN p 1 1 ≠ rdN e 2 1 →
      resZero p 2 2 = true → bankFields (p.drop 4) = true → bankTerms (rdN e 1 1) (p.drop 4) = true → grRefused s = false → stationary s = true →
      ∃ banks : List Bytes, let t := { s with pf := { s.pf with modified := true, work := { s.pf.work with banks := banks } } }
        exec (.coefBankWrite r) s = .next (answer c stOk (controlDigest t) t) ∧ banks.length = s.pf.work.banks.length ∧
        ∀ (i : Nat) (x : Bytes), s.pf.work.banks[i]? = some x → x.length = 104 → banks[i]? =
          some (if rdN x 0 1 = rdN p 0 1 then x.take (8 + 48 * rdN p 1 1) ++ p.drop 4 ++ x.drop (56 + 48 * rdN p 1 1) else x)) ∧
    (∀ data, reaches cReplay r c s = true → 9 ≤ p.length → p.take 4 = [1, 0, 0, 0] → grRefused s = false →
      (rdN p 4 4 = 0 ∧ data = p.drop 8 ∨
        ∃ f, rdN p 4 4 ≠ 0 ∧ s.gr.capture = some f ∧ rdN p 4 4 ≤ f.data.length ∧
          data = f.data.take (rdN p 4 4) ++ p.drop 8 ++ f.data.drop (rdN p 4 4 + (p.length - 8))) →
      ∃ t body, exec (.replayLoad r) s = .next (answer c stOk body t) ∧
        t = { s with gr := { s.gr with capture := some ⟨rdN data 8 8, rdN data 16 4, rdN data 16 4, false, data⟩ } }) ∧
    (∀ f, reaches cReplay r c s = true → p.length = 12 → p.take 4 = [2, 0, 0, 0] → s.gr.capture = some f → 1 ≤ rdN p 8 4 →
      rdN p 4 4 + rdN p 8 4 ≤ f.held → f.running = false → grRefused s = false → inService s = true → s.gr.mode = .triple → fnsIdle s = true →
      f.data.take 4 = [0x47, 0x43, 0x41, 0x50] → (f.data.drop 4).take 3 = [3, 2, 0] → (f.data.drop 24).take 8 = controlDigest s →
      ∃ t body, exec (.replayRun r) s = .next (answer c stOk body t) ∧ t.gr.replay = ⟨.running, 0, rdN p 4 4, rdN p 8 4, 0, 0, 0, 0⟩ ∧
        t.gr.capture = s.gr.capture ∧ onlyIn [.gr, .vd, .ls, .free, .mb, .out, .ev, .pf] s t) ∧
    (reaches cReplay r c s = true → p = [3, 0, 0, 0] →
      (s.gr.replay.st ≠ .running → ∃ body, exec (.replayAbort r) s = .next (answer c stOk body s)) ∧
      (s.gr.replay.st = .running → ∃ t body, exec (.replayAbort r) s = .next (answer c stOk body t) ∧ t.gr.replay.st = .done ∧
        t.gr.replay.result = 2 ∧ onlyIn [.gr, .gn, .pf, .fb, .mb, .out, .ev] s t))

/-! ### Quartz's mailbox commands (chapter "Quartz") -/

/-- QZ_STATUS, QZ_RESULTS_READ and QZ_RAW_CAPTURE STATUS are answered OK from Quartz's state (R137, Table 4-13); nothing else changes. -/
def Obligations.QuartzQueriesAnswer : Prop :=
  ∀ (r : Req) (c : Ctx) (s : State),
    let p := c.payload
    let q := s.qz
    (reaches cQzStatus r c s = true → p.length = 4 → 1 ≤ rdN p 0 1 → rdN p 0 1 ≤ 32 → 1 ≤ rdN p 1 1 → rdN p 1 1 ≤ 32 → resZero p 2 2 = true →
      exec (.qzStatus r) s = .next (answer c stOk (u16 q.reservoir ++ u8 (b2n (reservoirReady s)) ++ zeros 1 ++ u32 q.deferrals ++ u8 q.crop ++
        zeros 1 ++ u16 (rdN (cropTable s q.crop) 0 2) ++
        ((List.range (min (rdN p 1 1) (33 - rdN p 0 1))).flatMap (fun k =>
          let ch := rdN p 0 1 - 1 + k
          let x := qzChan s ch
          u8 (ch + 1) ++ u8 (qzStCode x.st) ++ u8 x.diagResult ++ u8 x.tap.result ++ u32 x.tap.gc ++ u32 x.tap.f ++
            u16 (paramN s (pQzRefAmp ch)) ++ u16 x.cause ++ u16 x.tap.good ++ u16 x.tap.other ++
            u32 (match x.tap.lastGood with | some t => satU 32 ((s.clk.ms - t) / 1000) | none => 0xFFFFFFFF)))) s)) ∧
    (reaches cQzResultsRead r c s = true → p.length = 8 → 1 ≤ rdN p 4 2 → rdN p 4 2 ≤ 1000 → resZero p 6 2 = true →
      let ws := q.history.drop (q.history.length - rdN p 4 2)
      exec (.qzResultsRead r) s = .next (answer c stOk (u32 ((ws.head?.map QzPart.wseq).getD 0) ++ u16 ws.length ++ zeros 2 ++
        ((List.range 32).filter (fun k => (rdN p 0 4).testBit k)).flatMap (resultsEntry ws)) s)) ∧
    (reaches cQzRawCapture r c s = true → p = [0, 0, 0, 0] →
      exec (.qzRawCaptureStatus r) s = .next (answer c stOk (u8 (capCode q.cap.st) ++ zeros 3 ++ u32 q.cap.data.length) s))

/-- QZ_TAP_REQUEST marks a tap, starts teaching or forgets the references of the masked channels, QZ_DIAG_REQUEST marks a DIAG (R124, R129, R131,
R137); a channel in OFF is left out of all but FORGET. QZ_RAW_CAPTURE START arms a capture of 1 to 4 channels that fits the ring and takes the ring,
STOP discards it, and READ answers its bytes; the READ that reaches the end of a capture that is done gives the ring up (R136, R307). -/
def Obligations.QuartzCommandsAct : Prop :=
  (∀ (r : Req) (c : Ctx) (s : State),
    let p := c.payload
    let qz := fun (chans : List QzChan) => { s with qz := { s.qz with chans := chans } }
    let changed := fun (mask : Nat) (f : QzChan → QzChan) (chans : List QzChan) =>
      ∀ (ch : Nat) (x : QzChan), s.qz.chans[ch]? = some x → ch < 32 →
        chans[ch]? = some (if mask.testBit ch ∧ x.st ≠ .off then f x else x)
    (reaches cQzTapRequest r c s = true → p.length = 8 → resZero p 1 3 = true → inPs s = false →
      (rdN p 0 1 = 1 → ∃ chans : List QzChan, exec (.qzTapRequestTap r) s = .next (answer c stOk (u32 (acceptedMask s (rdN p 4 4))) (qz chans)) ∧
        changed (rdN p 4 4) (fun x => { x with tap := { x.tap with requested := true } }) chans) ∧
      (rdN p 0 1 = 2 → stationary s = true →
        ∃ chans : List QzChan, exec (.qzTapRequestTeach r) s = .next (answer c stOk (u32 (acceptedMask s (rdN p 4 4))) (qz chans)) ∧
          changed (rdN p 4 4) (fun x => { x with tap := { x.tap with teach := some ⟨0, 0, 0, false⟩, teachFailed := false } }) chans) ∧
      (rdN p 0 1 = 3 → ∃ t, exec (.qzTapRequestForget r) s = .next (answer c stOk (u32 (rdN p 4 4)) t) ∧ onlyIn [.pf] s t ∧
        { t.pf with settings := s.pf.settings, writes := s.pf.writes } = s.pf ∧ t.pf.writes = s.pf.writes ++ [⟨s.pf.settings, s.clk.ms, false⟩] ∧
        ∀ ch < 32, (rdN p 4 4).testBit ch = true →
          getKey (pQzRefAmp ch) t.pf.settings = some 0 ∧ getKey (pQzRefFreq ch) t.pf.settings = some 0)) ∧
    (reaches cQzDiagRequest r c s = true → p.length = 4 → inPs s = false →
      ∃ chans : List QzChan, exec (.qzDiagRequest r) s = .next (answer c stOk (u32 (acceptedMask s (rdN p 0 4))) (qz chans)) ∧
        changed (rdN p 0 4) (fun x => { x with diagReq := true }) chans)) ∧
  (∀ (r : Req) (c : Ctx) (s : State),
    let p := c.payload
    reaches cQzRawCapture r c s = true →
    (p.length = 20 → rdN p 0 1 = 1 → resZero p 1 3 = true →
      (∀ k, k = ((List.range 32).filter (fun ch => (rdN p 4 4).testBit ch)).length → 1 ≤ k ∧ k ≤ 4 ∧ k * rdN p 16 4 * 3758 ≤ 16777216) →
      1 ≤ rdN p 16 4 → inPs s = false → s.mc.ring ≠ .staging →
      (s.qz.cap.st = .armed ∨ s.qz.cap.st = .running → exec (.qzRawCaptureStart r) s = .next (answer c stBusy [] s)) ∧
      (s.qz.cap.st ≠ .armed → s.qz.cap.st ≠ .running →
        ∃ t, exec (.qzRawCaptureStart r) s = .next (answer c stOk (u8 1 ++ zeros 7) t) ∧ t.mc.ring = .capture ∧
          t.qz = { s.qz with cap := ⟨.armed, rdN p 4 4, (if rdN p 8 8 = 0 then s.clk.frame + 1 else rdN p 8 8), rdN p 16 4, 0, []⟩ } ∧
          onlyIn [.qz, .mc] s t)) ∧
    (p = [2, 0, 0, 0] → inPs s = false →
      ∃ t, exec (.qzRawCaptureStop r) s = .next (answer c stOk (zeros 8) t) ∧ t.qz = { s.qz with cap := { s.qz.cap with st := .idle, data := [] } } ∧
        onlyIn [.qz, .mc] s t ∧ (s.mc.ring ≠ .capture → t.mc = s.mc)) ∧
    (p.length = 12 → rdN p 0 1 = 3 → resZero p 1 3 = true → 1 ≤ rdN p 8 4 → rdN p 8 4 ≤ 65520 → rdN p 4 4 ≤ s.qz.cap.data.length →
      ∃ t, exec (.qzRawCaptureRead r) s = .next (answer c stOk (u32 (rdN p 4 4) ++ (s.qz.cap.data.drop (rdN p 4 4)).take (rdN p 8 4)) t) ∧
        onlyIn [.qz, .mc] s t ∧
        (s.qz.cap.st ≠ .done ∨ rdN p 4 4 + rdN p 8 4 < s.qz.cap.data.length → t = s) ∧
        (s.qz.cap.st = .done → s.qz.cap.data.length ≤ rdN p 4 4 + rdN p 8 4 → s.mc.ring = .capture →
          t.qz.cap.st = .idle ∧ t.qz.cap.data = [] ∧ t.mc.ring ≠ .capture)))

/-! ### Crop flow, yield and coverage: mailbox commands (chapter "Crop flow and yield") -/

/-- CF_STATUS, YIELD_READ, COVERAGE_GET and MAP_EXPORT are answered OK from the crop-flow state and the map (R167, Table 5-5); nothing else changes. -/
def Obligations.CropQueriesAnswer : Prop :=
  ∀ (r : Req) (c : Ctx) (s : State),
    let p := c.payload
    (reaches cCfStatus r c s = true → p = [] →
      let v := fun k => (sig s k).raw
      let f := ownField s s.cf.openField
      exec (.cfStatus r) s = .next (answer c stOk (leI 4 (v 1) ++ leI 4 (v 2) ++ leI 2 (satI 16 (v 3)) ++ leI 2 (v 4) ++ leI 2 (v 5) ++ leI 2 (v 6) ++
        leI 4 (v 9) ++ leI 2 (param s pCfDelay) ++ u8 s.cf.corr ++
        u8 (match s.cf.cal.st with | .disarmed => 1 | .settle => 2 | .measure => 3 | .load => 4) ++ leI 4 (flowGain s) ++
        u16 s.cf.cal.accepted ++ u16 s.cf.cal.rejected ++
        u8 (match s.cf.opt.st with | .off => 1 | .observe => 2 | .settle => 3 | .measure => 4 | .hold => 5) ++
        u8 (if s.cf.opt.st = .settle ∨ s.cf.opt.st = .measure then s.cf.opt.ptr else 0) ++ u16 s.cf.openField ++
        u32 ((f.map (fun x => x.recs.length)).getD 0) ++ u32 (89478485 - totalRecs s) ++ u32 (((f.bind MapField.grid).map coveredCells).getD 0) ++
        u16 (b2n s.cf.degraded + 2 * b2n (!(sig s 1).fresh) + 4 * b2n (!(sig s 2).fresh) + 8 * b2n (!(sig s 3).fresh) +
          16 * b2n (!(sig s 4).fresh) + 32 * b2n (!(sig s 5).fresh) + 64 * b2n (s.gr.cur.gnss.type == 0) + 128 * b2n (cutting s) +
          256 * b2n (unloading s) + 512 * b2n (level s)) ++
        u8 s.cf.lastOp ++ u8 s.cf.lastResult) s)) ∧
    (∀ f, reaches cYieldRead r c s = true → p.length = 12 → resZero p 2 2 = true → resZero p 10 2 = true → 1 ≤ rdN p 8 2 → rdN p 8 2 ≤ 1000 →
      findField s (rdN p 0 2) = some f →
      let rs := (f.recs.drop (rdN p 4 4)).take (rdN p 8 2)
      exec (.yieldRead r) s = .next (answer c stOk (u32 (rdN p 4 4) ++ u16 rs.length ++ zeros 2 ++ rs.flatten) s)) ∧
    (∀ f g, reaches cCoverageGet r c s = true → p.length = 12 → resZero p 1 3 = true → rdN p 4 2 ≠ 0 →
      (rdN p 0 1 = 1 → rdN p 4 2 = s.cf.openField → 1 ≤ rdN p 10 2 → rdN p 10 2 ≤ 8192 → ownField s (rdN p 4 2) = some f → f.grid = some g →
        exec (.coverageGetBits r) s = .next (answer c stOk (u16 (rdN p 6 2) ++ u16 (rdN p 8 2) ++ u16 (rdN p 10 2) ++
          packBits ((List.range (rdN p 10 2)).map (fun k =>
            rdN p 6 2 < g.rows && rdN p 8 2 + k < g.cols && covered g (rdN p 6 2) (rdN p 8 2 + k)))) s)) ∧
      (rdN p 0 1 = 2 → resZero p 6 2 = true → findField s (rdN p 4 2) = some f → f.grid = some g →
        ∃ rows : List Nat, exec (.coverageGetChanges r) s =
            .next (answer c stOk (u32 s.cf.stamp ++ u16 rows.length ++ zeros 2 ++ (rows.take 16000).flatMap u16) s) ∧
          ∀ n, n ∈ rows ↔ ∃ st, (n, st) ∈ g.stamps ∧ rdN p 8 4 < st)) ∧
    (∀ f file, reaches cMapExport r c s = true → p.length = 12 → resZero p 3 1 = true → 1 ≤ rdN p 2 1 → rdN p 2 1 ≤ 2 → 1 ≤ rdN p 8 4 →
      rdN p 8 4 ≤ 65520 → findField s (rdN p 0 2) = some f → exportFile (rdN p 2 1) f = some file →
      exec (.mapExport r) s =
        .next (answer c stOk (u32 (rdN p 4 4) ++ u32 file.length ++ (file.drop (rdN p 4 4)).take (rdN p 8 4)) s))

/-- CF_CALIBRATE starts an averaging or a weighed load, ends or aborts the load, or returns a gain or the delay to its initial value, and keeps the
last operation with its result (R152, R153, R155, R167); a gain enters Granite by an internal command for frame A + 2 (R146). COVERAGE_PUT opens a
field with its grid, closes the open field, or covers cells of the open field's grid, which no command uncovers, under a new change stamp (R164 to
R167). -/
def Obligations.YieldCommandsAct : Prop :=
  (∀ (r : Req) (c : Ctx) (s : State),
    let p := c.payload
    let cf := s.cf
    let reply := fun (result : Nat) (value mass : Int) => u8 result ++ zeros 3 ++ leI 4 value ++ leI 4 mass
    reaches cCfCalibrate r c s = true → p.length = 8 → resZero p 1 3 = true → inPs s = false →
    (rdN p 0 1 = 1 → rdN p 4 4 = 0 → cutting s = false →
      exec (.cfCalibrateFlowZero r) s =
        .next (answer c stOk (reply 1 0 0) { s with cf := { cf with avg := some ⟨1, 0, 0⟩, lastOp := 1, lastResult := 1 } })) ∧
    (rdN p 0 1 = 2 → rdN p 4 4 = 0 → stationary s = true → level s = true →
      exec (.cfCalibrateTankTare r) s =
        .next (answer c stOk (reply 1 0 0) { s with cf := { cf with avg := some ⟨2, 0, 0⟩, lastOp := 2, lastResult := 1 } })) ∧
    (rdN p 0 1 = 3 → rdN p 4 4 = 0 →
      exec (.cfCalibrateLoadBegin r) s = .next (answer c stOk (reply 1 0 0)
        { s with cf := { cf with lastOp := 3, lastResult := 1, cal := { cf.cal with st := .load, since := s.clk.ms, loadSum := 0, crop := cropIdx s } } })) ∧
    (rdN p 0 1 = 4 → cf.cal.st = .load → let acc := Int.tdiv cf.cal.loadSum 1000
      (∀ gm, loadGain (flowGain s) (rdN p 4 4) acc = some gm → let g := max 262144 (min 4194304 gm)
        ∃ t, exec (.cfCalibrateLoadEnd r) s = .next (answer c stOk (reply 0 g acc) t) ∧ onlyIn [.cf, .mb] s t ∧ t.cf.cal.st = .disarmed ∧
          t.cf.calibrated = cf.calibrated ||| 2 ^ cf.cal.crop ∧ t.cf.lastOp = 4 ∧ t.cf.lastResult = 0 ∧
          ∃ x ∈ t.mb.exch, x.internal = true ∧ x.code = cParamSet ∧ x.frame = s.clk.frame + 2 ∧
            x.payload = u8 1 ++ zeros 3 ++ paramEntry (pCfFlowGain cf.cal.crop) g) ∧
      (loadGain (flowGain s) (rdN p 4 4) acc = none →
        exec (.cfCalibrateLoadEnd r) s = .next (answer c stOk (reply 2 (flowGain s) acc)
          { s with cf := { cf with lastOp := 4, lastResult := 2, cal := { cf.cal with st := .disarmed } } }))) ∧
    (rdN p 0 1 = 5 → rdN p 4 4 = 0 → cf.cal.st = .load →
      exec (.cfCalibrateLoadAbort r) s = .next (answer c stOk (reply 0 0 (Int.tdiv cf.cal.loadSum 1000))
        { s with cf := { cf with lastOp := 5, lastResult := 0, cal := { cf.cal with st := .disarmed } } })) ∧
    (rdN p 0 1 = 6 → rdN p 4 4 = 0 → let g := paramDefault (pCfFlowGain (cropIdx s))
      ∃ t, exec (.cfCalibrateGainReset r) s = .next (answer c stOk (reply 0 g 0) t) ∧ onlyIn [.cf, .mb] s t ∧
        t.cf.calibrated = cf.calibrated &&& (255 - 2 ^ cropIdx s) ∧ t.cf.lastOp = 6 ∧ t.cf.lastResult = 0 ∧
        ∃ x ∈ t.mb.exch, x.internal = true ∧ x.code = cParamSet ∧ x.frame = s.clk.frame + 2 ∧
          x.payload = u8 1 ++ zeros 3 ++ paramEntry (pCfFlowGain (cropIdx s)) g) ∧
    (rdN p 0 1 = 7 → rdN p 4 4 = 0 →
      exec (.cfCalibrateDelayReset r) s = .next (answer c stOk (reply 0 (param s pCfDelayInit) 0)
        { s with
          cf := { cf with lastOp := 7, lastResult := 0 }
          pf := { s.pf with
            settings := setKey pCfDelay (param s pCfDelayInit) s.pf.settings, writes := s.pf.writes ++ [⟨s.pf.settings, s.clk.ms, false⟩] } }))) ∧
  (∀ (r : Req) (c : Ctx) (s : State),
    let p := c.payload
    let id := rdN p 4 2
    let reply := fun (t : State) (id : Nat) => u32 ((((ownField t id).bind MapField.grid).map coveredCells).getD 0) ++ u32 t.cf.stamp
    reaches cCoveragePut r c s = true → resZero p 1 3 = true → inPs s = false →
    (p.length = 28 → rdN p 0 1 = 1 → id ≠ 0 → rdN p 6 1 ≤ 1 → resZero p 7 1 = true → 1000 ≤ rdN p 16 4 → rdN p 16 4 ≤ 12000 → rdN p 20 4 ≤ 12000 →
      1 ≤ rdN p 24 2 → rdN p 24 2 ≤ 8192 → 1 ≤ rdN p 26 2 → rdN p 26 2 ≤ 8192 →
      fieldFits id (if s.cf.openField = id then s else closeField s) = true →
      ∃ t f g, exec (.coveragePutFieldOpen r) s = .next (answer c stOk (reply t id) t) ∧ t.cf.openField = id ∧ ownField t id = some f ∧
        f.grid = some g ∧ g.lat0 = rdI p 8 4 ∧ g.lon0 = rdI p 12 4 ∧ g.nscale = rdN p 16 4 ∧ g.escale = rdN p 20 4 ∧ g.rows = rdN p 24 2 ∧
        g.cols = rdN p 26 2 ∧ (rdN p 6 1 = 1 → g.cells = []) ∧ onlyIn [.cf] s t) ∧
    (p.length = 4 → rdN p 0 1 = 2 →
      ∃ t, exec (.coveragePutFieldClose r) s = .next (answer c stOk (reply t s.cf.openField) t) ∧ t.cf.openField = 0 ∧ onlyIn [.cf] s t ∧
        (s.cf.openField = 0 → t = s)) ∧
    (∀ f g, p.length = 12 + (rdN p 10 2 + 7) / 8 → rdN p 0 1 = 3 → 1 ≤ rdN p 10 2 → rdN p 10 2 ≤ 8192 → id ≠ 0 → id = s.cf.openField →
      ownField s id = some f → f.grid = some g →
      ∃ t f' g', exec (.coveragePutCells r) s = .next (answer c stOk (reply t id) t) ∧ t.cf.stamp = (s.cf.stamp + 1) % 2 ^ 32 ∧
        ownField t id = some f' ∧ f'.grid = some g' ∧ g'.rows = g.rows ∧ g'.cols = g.cols ∧
        (∀ row col, covered g row col = true → covered g' row col = true) ∧
        (∀ k < rdN p 10 2, bit (rdN p (12 + k / 8) 1) (k % 8) = true → rdN p 6 2 < g.rows → rdN p 8 2 + k < g.cols →
          covered g' (rdN p 6 2) (rdN p 8 2 + k) = true) ∧
        onlyIn [.cf, .mb, .pf, .ev, .out] s t))

/-! ### Valve drivers and load switches: mailbox commands -/

/-- VD_STATUS, VD_TIMING_READ and LS_STATUS are answered OK from the output stages (R185, R193, R217); nothing else changes. -/
def Obligations.OutputQueriesAnswer : Prop :=
  ∀ (r : Req) (c : Ctx) (s : State),
    let p := c.payload
    (reaches cVdStatus r c s = true → p = [] →
      let cap := if s.vd.caps = [] then 0 else s.vd.caps.sum / s.vd.caps.length
      exec (.vdStatus r) s = .next (answer c stOk (u16 (satU 16 s.an.rail) ++ u16 (satU 16 s.an.vbat) ++ u16 (satU 16 cap) ++
        u8 (match s.vd.conv with | .off => 0 | .regulating => 1 | .latched => 2) ++ zeros 1 ++
        (List.range 12).flatMap (fun ch =>
          let x := vdChan s ch
          u8 (ch + 1) ++ u8 (vdMode s ch) ++ u8 (vdStCode x.st) ++ u8 x.cause ++ leI 2 (satI 16 x.current) ++
            leI 2 (satI 16 (vdSetpoint s ch)) ++ u32 x.pulses ++ u16 x.weak ++ u16 x.noSeat ++ u16 x.suppressed ++ u16 (satU 16 (boostEnergy x)) ++
            u16 (holdDuty x) ++ u16 x.openEst ++ u16 (satU 16 x.closeEst) ++
            u8 (b2n x.limited + 2 * b2n x.episode + 4 * b2n (vdOwner s ch).isSome) ++ zeros 5)) s)) ∧
    (reaches cVdTimingRead r c s = true → p.length = 4 → 1 ≤ rdN p 0 1 → rdN p 0 1 ≤ 12 → resZero p 1 1 = true → 1 ≤ rdN p 2 2 → rdN p 2 2 ≤ 256 →
      let es := (vdChan s (rdN p 0 1 - 1)).ring.reverse.take (rdN p 2 2)
      exec (.vdTimingRead r) s = .next (answer c stOk (u8 es.length ++ zeros 3 ++ es.flatten) s)) ∧
    (reaches cLsStatus r c s = true → p.length = 4 → 1 ≤ rdN p 0 1 → rdN p 0 1 ≤ 24 → 1 ≤ rdN p 1 1 → rdN p 0 1 + rdN p 1 1 ≤ 25 → resZero p 2 2 = true →
      exec (.lsStatus r) s = .next (answer c stOk (u16 (satU 16 s.an.vbat) ++ zeros 2 ++ u32 (mean1s s.ls.vbatMa) ++ u32 (mean1s s.ls.mw) ++
        u32 (mean1s s.ls.valveMw) ++ u8 (s.ls.chans.filter (fun x => x.st == .shed)).length ++ zeros 3 ++
        (List.range (rdN p 1 1)).flatMap (fun k =>
          let ch := rdN p 0 1 - 1 + k
          let x := lsChan s ch
          u8 (ch + 1) ++ u8 (lsMode s ch) ++ u8 (lsStCode x.st) ++ u8 (if x.st = .shed then 7 else x.cause) ++ u16 (satU 16 x.ma) ++
            u16 x.applied ++ leI 2 (satI 16 x.tj) ++ u8 x.retries ++
            u8 (b2n x.inrush.isSome + 2 * b2n x.startup + 4 * b2n (lsLamp s ch) + 8 * b2n (lsOwner s ch).isSome + 16 * b2n x.openLoad +
              32 * b2n x.queued) ++
            u32 x.turnOns ++ u16 x.shutdowns ++ u16 x.demagUs ++ u16 x.clampMj ++ zeros 2)) s))

/-- VD_DIAG diagnoses a resting channel or bank by the comparators of R192 and answers the cause it finds, and CLEAR lets a channel leave FAULT when
its diagnosis passes, with a valve-channel-fault-cleared event (R194, Table 6-6). LS_LATCH_CLEAR releases the latched channels of its mask at or
below 155 °C at the next frame boundary (R218), LS_DIAG OFF_STATE judges the voltages of a channel that is off (R213), and ON_TEST turns it on in
the start-up phase and answers when the test ends (R217). -/
def Obligations.OutputCommandsAct : Prop :=
  (∀ (r : Req) (c : Ctx) (s : State),
    let p := c.payload
    let k := rdN p 1 1
    let reply := fun (result : Nat) (m : VdDiag) => u8 result ++ zeros 1 ++ u16 m.vls ++ u16 m.vbk ++ zeros 2
    reaches cVdDiag r c s = true → p.length = 4 → resZero p 2 2 = true → 1 ≤ k →
    (rdN p 0 1 = 1 → k ≤ 12 → vdResting s (k - 1) = true →
      let m := (vdChan s (k - 1)).diag
      ∃ t, exec (.vdDiagChannel r) s = .next (answer c stOk (reply (vdDiagnose m) m) t) ∧ (vdDiagnose m = 0 → t = s) ∧
        onlyIn [.mb, .pf, .ev, .vd, .out, .free] s t ∧
        (6000 < m.vlsOff → vdDiagnose m = 3) ∧ (m.vlsOff ≤ 6000 → m.vls < 300 → m.vbk ≤ m.vls + 300 → vdDiagnose m = 2) ∧
        (m.vlsOff ≤ 6000 → m.vls < 1000 → (300 ≤ m.vls ∨ m.vls + 300 < m.vbk) → vdDiagnose m = 1) ∧
        (m.vlsOff ≤ 6000 → 1000 ≤ m.vls → vdDiagnose m = 0)) ∧
    (rdN p 0 1 = 2 → k ≤ 4 → (∀ ch ∈ bankChans (k - 1), vdResting s ch = true) →
      ∃ t, exec (.vdDiagBank r) s = .next (answer c stOk (reply (bankResult s (k - 1)) (vdChan s (3 * (k - 1))).diag) t) ∧
        (bankResult s (k - 1) = 0 → t = s) ∧ onlyIn [.mb, .pf, .ev, .vd, .out, .free] s t) ∧
    (rdN p 0 1 = 3 → k ≤ 12 → k - 1 < s.vd.chans.length →
      let x := vdChan s (k - 1)
      (x.st ≠ .fault → s.vd.conv ≠ .latched → exec (.vdDiagClear r) s = .next (answer c stOk (reply (vdDiagnose x.diag) x.diag) s)) ∧
      (x.st = .fault → x.cause ≠ 5 → vdDiagnose x.diag = 0 →
        ∃ t, exec (.vdDiagClear r) s = .next (answer c stOk (reply 0 x.diag) t) ∧ (vdChan t (k - 1)).st ≠ .fault ∧ (vdChan t (k - 1)).cause = 0 ∧
          onlyIn [.mb, .pf, .ev, .vd, .out] s t) ∧
      (x.st = .fault → x.cause ≠ 5 → vdDiagnose x.diag ≠ 0 → s.vd.conv ≠ .latched →
        exec (.vdDiagClear r) s = .next (answer c stOk (reply (vdDiagnose x.diag) x.diag) s)))) ∧
  (∀ (r : Req) (c : Ctx) (s : State),
    let p := c.payload
    let ch := rdN p 1 1 - 1
    let x := lsChan s ch
    (reaches cLsLatchClear r c s = true → p.length = 4 → rdN p 0 4 < 2 ^ 24 → s.gr.mode ≠ .safe →
      ∃ ok : List Nat, exec (.lsLatchClear r) s = .next (answer c stOk (u32 (maskOf 24 ok.contains)) { s with ls := { s.ls with clearing := ok } }) ∧
        ∀ k, k ∈ ok ↔ k < 24 ∧ bit (rdN p 0 4) k = true ∧ (lsChan s k).st = .latched ∧ (lsChan s k).tj ≤ 1550) ∧
    (reaches cLsDiag r c s = true → p.length = 4 → 1 ≤ rdN p 1 1 → rdN p 1 1 ≤ 24 → resZero p 2 2 = true → lsMayCommand s ch = true → x.st = .off →
      ch < s.ls.chans.length →
      (rdN p 0 1 = 1 → ∃ t, exec (.lsDiagOffState r) s =
          .next (answer c stOk (u8 (if 1500 < x.v1 then 6 else if 3500 < x.v2 then 5 else 0) ++ zeros 1 ++ u16 (satU 16 x.v1) ++ u16 (satU 16 x.v2) ++
            zeros 2) t) ∧ onlyIn [.mb, .pf, .ev, .ls, .out] s t ∧ (lsChan t ch).st = .off) ∧
      (rdN p 0 1 = 2 → ∃ t, exec (.lsDiagOnTest r) s = .next t ∧ (lsChan t ch).st = .start ∧ (lsChan t ch).test = some (usNow s 0) ∧
        (lsChan t ch).duty = 10000 ∧ (lsChan t ch).req = true ∧ (lsChan t ch).startup = true ∧ (lsChan t ch).turnOns = (x.turnOns + 1) % 2 ^ 32 ∧
        t.mb.waiting = s.mb.waiting ++ [⟨c.binding, c.session, c.seq, cLsDiag, c.era, .diag ch, s.clk.ms⟩] ∧ onlyIn [.ls, .mb] s t)))

/-! ### GNSS and steering: mailbox commands (chapter "GNSS, heading and steering") -/

/-- GN_STATUS and GN_SOLUTION_GET are answered OK from the receiver's state (R245, Tables 8-3 and 8-8); nothing else changes. -/
def Obligations.GnssQueriesAnswer : Prop :=
  ∀ (r : Req) (c : Ctx) (s : State),
    let g := s.gn
    (reaches cGnStatus r c s = true → c.payload = [] →
      let age := match g.rtcm.lastMsm with | some t => min 0xFFFFFFFE (s.clk.ms - t) | none => 0xFFFFFFFF
      let path := fun k => nth g.paths k ⟨[], false, 0, 0, 0, false⟩
      exec (.gnStatus r) s = .next (answer c stOk (u8 (timeCode g.time.st) ++ u8 g.part.type ++ u8 g.part.nsat ++ u8 g.tracked ++
        u16 (g.chans.filter (fun x => x.ant == 0)).length ++ u16 (g.chans.filter (fun x => x.ant == 1)).length ++ u32 age ++
        u16 (g.rtcm.station.getD 0) ++ u8 (antCode (antOf s 0).st) ++ u8 (antCode (antOf s 1).st) ++ u16 (antOf s 0).ma ++ u16 (antOf s 1).ma ++
        (u8 (path 0).j ++ u8 (path 1).j ++ u8 (path 2).j ++ u8 (path 3).j) ++
        (u8 (path 0).notches.length ++ u8 (path 1).notches.length ++ u8 (path 2).notches.length ++ u8 (path 3).notches.length) ++
        leI 4 ((g.gal.map (·.1)).getD 0) ++ leI 4 ((g.bds.map (·.1)).getD 0) ++ u32 g.rtcm.accepted ++ u32 g.rtcm.crcErrors ++ u16 g.baseLen ++
        u8 g.hdgSrc ++ u8 (steerCode g.steer.st) ++ u32 ((g.current.map PathDef.id).getD 0) ++ u32 ((g.next.map PathDef.id).getD 0) ++
        u8 (b2n g.imuOk + 2 * b2n g.imuPassed) ++ u8 g.steer.cause ++ zeros 2) s)) ∧
    (reaches cGnSolutionGet r c s = true → c.payload = [] →
      exec (.gnSolutionGet r) s = .next (answer c stOk (gnssBytes g.part ++
        (u8 (nth g.perSys 0 0) ++ u8 (nth g.perSys 1 0) ++ u8 (nth g.perSys 2 0) ++ u8 (nth g.perSys 3 0) ++ u8 (nth g.perSys 4 0)) ++ zeros 3) s))

/-- RTCM_PUT feeds the one correction stream, a new one for NEW_STREAM or another session (R230); GN_CONFIG restarts the receiver, seeds it, releases
notches, retries an antenna or starts the IMU self-test; PATH_LOAD sets, clears or shifts paths (R241, R245). The distance of two points of a path is a
free value (log entry 3). -/
def Obligations.GnssCommandsAct : Prop :=
  ∀ (r : Req) (c : Ctx) (s : State),
    let p := c.payload
    let g := s.gn
    let paths := fun (t : State) => u32 ((t.gn.current.map PathDef.id).getD 0) ++ u32 ((t.gn.next.map PathDef.id).getD 0)
    (reaches cRtcmPut r c s = true → 4 ≤ p.length → rdN p 0 1 ≤ 1 → resZero p 1 3 = true →
      let start : Rtcm := if rdN p 0 1 = 1 ∨ g.rtcm.owner ≠ c.session then { g.rtcm with owner := c.session, buf := [] } else g.rtcm
      let new := rtcmParse s.clk.ms ((start.buf ++ p.drop 4).length + 1) { start with buf := start.buf ++ p.drop 4 }
      ∃ t, exec (.rtcmPut r) s = .next (answer c stOk (u32 new.accepted ++ u32 new.dropped ++ u32 new.crcErrors ++ u16 new.lastType ++ zeros 2) t) ∧
        { t.gn.rtcm with stale := new.stale } = new ∧ { t.gn with rtcm := g.rtcm } = g ∧ onlyIn [.mb, .pf, .ev, .gn, .out] s t ∧
        (new.lastMsm = g.rtcm.lastMsm → t = { s with gn := { g with rtcm := new } })) ∧
    (reaches cGnConfig r c s = true → resZero p 2 2 = true →
      (p.length = 4 → rdN p 0 1 = 1 → 1 ≤ rdN p 1 1 → rdN p 1 1 ≤ 3 → g.steer.st = .off →
        ∃ g', exec (.gnConfigRestart r) s = .next (answer c stOk (u8 1) { s with gn := g' }) ∧ g'.chans = [] ∧ g'.epoch = none ∧
          g'.part = { g.part with type := 0, solSeq := (g.part.solSeq + 1) % 2 ^ 32 } ∧ g'.steer = g.steer ∧ g'.rtcm = g.rtcm ∧
          g'.current = g.current ∧ g'.next = g.next ∧ g'.time = g.time ∧
          (rdN p 1 1 = 3 → g'.seed = none ∧ g'.gal = none ∧ g'.bds = none ∧ g'.cands = []) ∧
          (rdN p 1 1 ≠ 3 → g'.seed = g.seed ∧ g'.gal = g.gal ∧ g'.bds = g.bds)) ∧
      (p.length = 16 → rdN p 0 1 = 2 → rdN p 1 1 = 0 → g.part.type = 0 →
        exec (.gnConfigSeed r) s = .next (answer c stOk (u8 0) { s with gn := { g with seed := some (rdI p 4 4, rdI p 8 4, rdI p 12 4) } })) ∧
      (p.length = 4 → rdN p 0 1 = 3 → rdN p 1 1 = 0 →
        exec (.gnConfigNotchReset r) s =
          .next (answer c stOk (u8 0) { s with gn := { g with paths := g.paths.map (fun x => { x with notches := [], full := false }) } })) ∧
      (p.length = 4 → rdN p 0 1 = 4 → 1 ≤ rdN p 1 1 → rdN p 1 1 ≤ 2 →
        ((antOf s (rdN p 1 1 - 1)).st ≠ .short → exec (.gnConfigAntennaRetry r) s = .next (answer c stOk (u8 0) s)) ∧
        ((antOf s (rdN p 1 1 - 1)).st = .short → ∃ t, exec (.gnConfigAntennaRetry r) s = .next (answer c stOk (u8 1) t) ∧
          antOf t (rdN p 1 1 - 1) = { antOf s (rdN p 1 1 - 1) with trial := 5 } ∧ onlyIn [.gn] s t)) ∧
      (p.length = 4 → rdN p 0 1 = 5 → rdN p 1 1 = 0 → g.steer.st = .off →
        exec (.gnConfigImuSelftest r) s = .next (answer c stOk (u8 1) { s with gn := { g with imuTest := true, imuPassed := false } }))) ∧
    (reaches cPathLoad r c s = true →
      (∀ n ty pts, n = rdN p 8 2 → ty = rdN p 1 1 → pts = (List.range n).map (fun k => (rdI p (16 + 8 * k) 4, rdI p (20 + 8 * k) 4)) →
        p.length = 16 + 8 * n → rdN p 0 1 = 1 → 2 ≤ n → n ≤ 4096 → (ty = 1 ∧ n = 2 ∨ ty = 2) → rdN p 2 1 ≤ 1 → resZero p 3 1 = true →
        resZero p 10 2 = true → rdN p 12 4 ≠ 0 →
        let path : PathDef := ⟨rdN p 12 4, ty == 2, rdN p 2 1 == 1, rdI p 4 4, pts⟩
        exec (.pathLoadLoadNext r) s = .next (
          if pointsApart pts = true then
            if g.steer.st = .engaged then
              answer c stOk (paths { s with gn := { g with next := some path } }) { s with gn := { g with next := some path } }
            else answer c stOk (paths (promotePath { s with gn := { g with next := some path } }))
              (promotePath { s with gn := { g with next := some path } })
          else answer c stBadArg [] s)) ∧
      (p.length = 16 → rdN p 0 1 = 2 → resZero p 1 15 = true →
        exec (.pathLoadClearNext r) s =
          .next (answer c stOk (paths { s with gn := { g with next := none } }) { s with gn := { g with next := none } })) ∧
      (p.length = 16 → rdN p 0 1 = 3 → resZero p 1 3 = true → resZero p 8 8 = true →
        exec (.pathLoadShift r) s = .next (answer c stOk (paths s)
          { s with gn := { g with current := g.current.map (fun q => { q with offset := q.offset + rdI p 4 4 }) } })))

/-! ### Fabric and CAN: mailbox commands -/

/-- FB_STATUS, FB_TOPOLOGY and CN_STATUS are answered OK from the fabric database and the ports (Tables 9-7 and 10-7); nothing else changes. -/
def Obligations.NetworkQueriesAnswer : Prop :=
  ∀ (r : Req) (c : Ctx) (s : State),
    let p := c.payload
    let f := s.fb
    (reaches cFbStatus r c s = true → p = [] →
      exec (.fbStatus r) s = .next (answer c stOk (u8 (myNode s) ++
        u8 (b2n (leads s) + 2 * b2n (f.ref == uid) + 4 * b2n f.lost + 8 * b2n (paramN s pFbAutoNumber == 1)) ++
        u8 (nodeOfUid s (coordinator s)) ++ u8 (nodeOfUid s f.ref) ++ leN 6 uid ++ zeros 2 ++ u8 (alignCode f.align) ++ zeros 3 ++
        leI 4 (satI 32 (Int.tdiv f.offset 1000)) ++ u32 f.force.gen ++ u64 f.force.frame ++
        u16 (cellsWith s 1) ++ u16 (cellsWith s 2) ++ u16 (cellsWith s 3) ++
        u8 (((f.force.cells.find? (fun x => x.verdict == 3)).map CellVerdict.reason).getD 0) ++ zeros 1 ++
        u32 f.missed ++ u32 f.discarded ++ u32 f.mismatches ++ u32 f.gaps ++ u32 f.framesBad ++
        (List.range 4).flatMap (fun k =>
          let x := fbPort s k
          u8 (portCode s k) ++ u8 x.node ++ u8 x.sqi ++ u8 (costUsed s k) ++ leN 6 x.uid ++
            u16 (min 65535 (linkDelay s k / 1000).toNat) ++ u16 x.fcs ++ u16 x.downs)) s)) ∧
    (reaches cFbTopology r c s = true → p.length = 4 → 1 ≤ rdN p 1 1 → rdN p 1 1 ≤ 40 → resZero p 2 2 = true →
      let es := ((database s).drop (rdN p 0 1)).take (rdN p 1 1)
      exec (.fbTopology r) s = .next (answer c stOk (u8 es.length ++ u8 (database s).length ++ zeros 2 ++ es.flatMap (topoEntry s)) s)) ∧
    (reaches cCnStatus r c s = true → p = [] →
      exec (.cnStatus r) s = .next (answer c stOk ((List.range 4).flatMap (fun k =>
        let x := canPort s k
        u8 (ctrlCode x.st) ++ u8 (min 255 x.txErr) ++ u8 (min 255 x.rxErr) ++ u8 (claimCode x.claim) ++
          u8 (if x.claim = .claimed then x.addr else 254) ++ u8 x.queue.length ++ u16 x.busOffs ++ u32 x.sent ++ u32 x.received ++
          u16 x.overflows ++ u16 x.noteDrops ++ u16 x.collisions ++ u16 x.arbLosses ++ u16 x.replaced ++ u16 x.overwritten ++ u16 x.aborts ++
          u16 x.hostDrops ++ u32 x.loopDelay ++ zeros 4)) s))

/-- FB_NODE_ASSIGN sends ASSIGN with the frame of acceptance as its stamp (R274), and FB_CABLE_TEST answers a result and a distance that are free
values (log entry 3) and takes a link that is up down (R271). CN_CONFIG restarts a port or claims its address again, CN_CANCEL withdraws a frame
that is not yet in its last chance, and CN_FILTER_SET sets a host filter (R283, R284, R289, R295, Tables 10-6 and 10-7). -/
def Obligations.BusCommandsAct : Prop :=
  (∀ (r : Req) (c : Ctx) (s : State),
    let p := c.payload
    (∀ l, reaches cFbNodeAssign r c s = true → p.length = 8 → rdN p 6 1 ≤ 32 → resZero p 7 1 = true → lsaOfUid (database s) (rdN p 0 6) = some l →
      bit l.flags 0 = false → moving s = false →
      (rdN p 6 1 = 0 ∨ ∀ x ∈ database s, x.uid ≠ rdN p 0 6 → x.node ≠ rdN p 6 1) →
      (∀ y, getKey (rdN p 0 6) s.fb.assigns = some y → y < s.clk.frame) →
      ∃ t, exec (.fbNodeAssign r) s = .next (answer c stOk (u64 s.clk.frame) t) ∧
        (rdN p 0 6 ≠ uid → getKey (rdN p 0 6) t.fb.assigns = some s.clk.frame ∧ onlyIn [.fb] s t) ∧ onlyIn [.mb, .pf, .ev, .fb, .gn, .out] s t) ∧
    (reaches cFbCableTest r c s = true → p.length = 4 → rdN p 0 1 ≤ 3 → rdN p 1 1 ≤ 1 → resZero p 2 2 = true →
      (fbPort s (rdN p 0 1)).link = false ∨ rdN p 1 1 = 1 → (moving s = false ∨ inService s = true) → singleUses s (rdN p 0 1) = false →
      ∃ t res dist, exec (.fbCableTest r) s = .next (answer c stOk (u8 res ++ u8 (fbPort s (rdN p 0 1)).sqi ++ u16 dist) t) ∧ res ≤ 3 ∧
        (res = 0 → dist = 65535) ∧ (res ≠ 0 → dist < 65535) ∧
        ((fbPort s (rdN p 0 1)).link = false → onlyIn [.free] s t) ∧ onlyIn [.mb, .pf, .ev, .gn, .fb, .out, .free] s t)) ∧
  (∀ (r : Req) (c : Ctx) (s : State),
    let p := c.payload
    let k := rdN p 0 1 - 1
    (reaches cCnConfig r c s = true → p.length = 4 → 1 ≤ rdN p 0 1 → rdN p 0 1 ≤ 4 → resZero p 2 2 = true → k < s.cn.ports.length →
      (rdN p 1 1 = 1 → portBusy s k = false →
        ∃ t, exec (.cnConfigRestart r) s = .next (answer c stOk (u8 (if paramN s (pCnMode k) = 0 then 0 else 1)) t) ∧
          (paramN s (pCnMode k) ≠ 0 → (canPort t k).st = .integrating ∧ (canPort t k).txErr = 0 ∧ (canPort t k).rxErr = 0 ∧
            (canPort t k).queue = (canPort s k).queue ∧ (canPort t k).bufs = (canPort s k).bufs) ∧
          (paramN s (pCnMode k) = 0 → (canPort t k).st = .disabled) ∧ onlyIn [.mb, .pf, .ev, .cn, .out] s t) ∧
      (rdN p 1 1 = 2 →
        ∃ t, exec (.cnConfigReclaim r) s = .next (answer c stOk (u8 (ctrlCode (canPort t k).st)) t) ∧
          ((canPort s k).claim ≠ .cannotClaim → t = s) ∧
          ((canPort s k).claim = .cannotClaim → (canPort t k).claim = .claiming ∧ (canPort t k).addr = paramN s (pCnAddr k)) ∧
          onlyIn [.mb, .pf, .ev, .cn, .out] s t)) ∧
    (reaches cCnCancel r c s = true → p.length = 4 → rdN p 0 4 ≠ 0 →
      let h := rdN p 0 4
      (h ∈ s.cn.sentHandles → exec (.cnCancel r) s = .next (answer c stTooLate (u8 1 ++ zeros 3) s)) ∧
      (∀ o, h ∉ s.cn.sentHandles → s.cn.handles.find? (fun x => x.2 == h) = some (o, h) →
        exec (.cnCancel r) s = .next (answer c stOk (zeros 4) { s with
          mb := { s.mb with exch := s.mb.exch.filter (fun t => t.order != o) }
          cn := { s.cn with handles := s.cn.handles.filter (fun y => y.2 != h) } })) ∧
      (∀ q, h ∉ s.cn.sentHandles → s.cn.handles.find? (fun x => x.2 == h) = none → handleQueue s h = some q → q < s.cn.ports.length →
        ∃ t, exec (.cnCancel r) s = .next (answer c stOk (zeros 4) t) ∧
          canPort t q = { canPort s q with queue := (canPort s q).queue.filter (fun x => x.handle != h) } ∧ onlyIn [.cn] s t) ∧
      (∀ q i, h ∉ s.cn.sentHandles → s.cn.handles.find? (fun x => x.2 == h) = none → handleQueue s h = none → handleBuf s h = some (q, i) →
        (nextBuf s q ≠ some i ∨ canSends s q = false) →
        ∃ t, exec (.cnCancel r) s = .next (answer c stOk (zeros 4) t) ∧ onlyIn [.cn, .free] s t) ∧
      (h ∉ s.cn.sentHandles → s.cn.handles.find? (fun x => x.2 == h) = none → handleQueue s h = none → handleBuf s h = none →
        exec (.cnCancel r) s = .next (answer c stBadArg [] s))) ∧
    (reaches cCnFilterSet r c s = true → p.length = 12 → 1 ≤ rdN p 0 1 → rdN p 0 1 ≤ 4 → rdN p 1 1 ≤ 15 → rdN p 2 1 ≤ 2 → rdN p 3 1 ≤ 1 →
      k < s.cn.ports.length → rdN p 1 1 < (canPort s k).host.length →
      ∃ t, exec (.cnFilterSet r) s = .next (answer c stOk [] t) ∧ onlyIn [.cn] s t ∧
        (canPort t k).host[rdN p 1 1]? = some ⟨rdN p 4 4, rdN p 8 4, rdN p 3 1 == 1, rdN p 2 1⟩ ∧
        { canPort t k with host := (canPort s k).host } = canPort s k ∧ ∀ j ≠ k, canPort t j = canPort s j))

/-! ### Storage and events: mailbox commands -/

/-- MC_STATUS, STORE_STATUS, EV_READ, EV_READ_PRIV, EV_COUNT and INJECT_LIST are answered OK from Mica, the storage and the event memory (R328 to R334,
Tables 11-9, 12-1 and 12-8); nothing else changes. -/
def Obligations.StorageAndEventQueriesAnswer : Prop :=
  ∀ (r : Req) (c : Ctx) (s : State),
    let p := c.payload
    let m := s.mc
    let e := s.ev
    (reaches cMcStatus r c s = true → p = [] →
      exec (.mcStatus r) s = .next (answer c stOk (u32 m.corrected ++ u32 m.uncorrectable ++ u32 m.badAddr ++ u64 m.badFrame ++ u32 m.lines ++
        u32 ((s.clk.ms - m.passAt) / 1000) ++ (List.range 9).flatMap (fun k => u32 (nth m.promotions k 0)) ++
        (List.range 8).flatMap (fun a => u32 (lagOf s a)) ++
        (List.range 64).flatMap (fun b => u8 (bankCode (bankOf s b).st) ++ u8 (bankOwner b) ++ u16 (bankOf s b).corrected)) s)) ∧
    (reaches cStoreStatus r c s = true → p = [] →
      ∃ spaces : Bytes, exec (.storeStatus r) s = .next (answer c stOk (u8 m.life ++ u8 (ringCode m.ring) ++ zeros 2 ++ u32 1024 ++ spaces ++
        u32 (48 * unflushed s) ++ u64 m.flushFrame ++ u32 m.nandRetries ++ u32 m.mramRetries ++ u32 e.fixed.length ++ u32 e.snaps.length) s) ∧
        spaces.length = 20) ∧
    (reaches cEvRead r c s = true ∨ reaches cEvReadPriv r c s = true → p.length = 12 → (rdN p 0 1 = 1 ∨ rdN p 0 1 = 2) → rdN p 1 1 ≤ 3 →
      rdN p 3 1 ≤ 1 → 1 ≤ rdN p 8 2 → rdN p 8 2 ≤ 1000 → resZero p 10 2 = true →
      let wanted := fun (x : EvRec) => rdN p 4 4 ≤ x.rseq ∧ rdN p 1 1 ≤ severityOf x.code ∧ (rdN p 2 1 = 255 ∨ rdN p 2 1 = x.code / 256) ∧
        (x.injected = false ∨ rdN p 3 1 = 1)
      let read := fun (i : Instr) (area : List EvRec) => ∃ (got : List EvRec) (next : Nat),
        exec i s = .next (answer c stOk (u16 got.length ++ zeros 2 ++ u32 next ++ got.flatMap recBytes) s) ∧ got.length ≤ rdN p 8 2 ∧
          (∀ x ∈ got, x ∈ area ∧ wanted x) ∧ (got = [] → (∀ x ∈ area, ¬wanted x) → next = e.nextRseq)
      (reaches cEvRead r c s = true → read (.evRead r) (if rdN p 0 1 = 1 then e.snaps else e.archive)) ∧
      (reaches cEvReadPriv r c s = true → read (.evReadPriv r) (if rdN p 0 1 = 1 then e.fixed else e.archivePriv))) ∧
    (reaches cEvCount r c s = true → p = [] →
      exec (.evCount r) s = .next (answer c stOk (u32 e.nextRseq ++ u32 (oldestRseq e.fixed) ++ u32 (oldestRseq e.snaps) ++ u32 e.fixed.length ++
        u32 e.snaps.length ++ sevCounts e.snaps ++ sevCounts e.fixed ++ u32 e.lostFixed ++ u32 e.lostSnap ++ u32 e.drops ++
        u32 (e.archive.length + e.archivePriv.length) ++ u8 (e.injs.filter Inj.started).length ++ zeros 3) s)) ∧
    (reaches cInjectList r c s = true → p = [] →
      exec (.injectList r) s = .next (answer c stOk (u8 e.injs.length ++ zeros 3 ++ (sortBy Inj.handle e.injs).flatMap (fun i =>
        u8 i.handle ++ u8 i.mode ++ u16 i.det ++ u8 i.inst ++ u8 0 ++ u16 i.session ++ u64 i.frame ++
          u32 (if i.mode = 2 then i.left else 0xFFFFFFFF) ++ u32 i.count)) s))

/-- MC_BANK_STATE switches a bank of the shared ring while it is FREE, or one of banks 60 to 63 (R305, R316), and MAP_FLUSH is answered at once when
nothing waits and else when the records are durable (R312). EV_CLEAR moves the records that its filter meets, but retained ones, to the archive and
then writes the events-cleared record (R330); INJECT_CLEAR ends injections (R333), and SELFTEST probes detectors, whose failures are free values
(R335, log entry 40). -/
def Obligations.StorageAndEventCommandsAct : Prop :=
  (∀ (r : Req) (c : Ctx) (s : State),
    let p := c.payload
    let b := rdN p 0 1
    (reaches cMcBankState r c s = true → p.length = 4 → b ≤ 63 → 1 ≤ rdN p 1 1 → rdN p 1 1 ≤ 3 → resZero p 2 2 = true → b < s.mc.banks.length →
      ((60 ≤ b ∨ (32 ≤ b ∧ b < 48 ∧ s.mc.ring = .free)) →
        let want := if rdN p 1 1 = 1 then BankSt.on else if rdN p 1 1 = 2 then BankSt.ret else BankSt.off
        ∃ t, exec (.mcBankState r) s = .next (answer c stOk (u8 (bankCode (bankOf s b).st) ++ u8 (bankCode (bankOf t b).st) ++ zeros 2) t) ∧
          (¬((bankOf s b).st = .off ∧ want = .ret) → (bankOf t b).st = want) ∧ ((bankOf s b).st = .off → want = .ret → t = s) ∧
          (∀ k ≠ b, bankOf t k = bankOf s k) ∧ onlyIn [.mc] s t ∧
          ((bankOf s b).st ≠ .off → want = .off → ∀ a, a / 1048576 = b → readByte t.mc.mem a = 0) ∧
          (∀ a, a / 1048576 ≠ b → readByte t.mc.mem a = readByte s.mc.mem a)) ∧
      (¬(60 ≤ b ∨ (32 ≤ b ∧ b < 48 ∧ s.mc.ring = .free)) → exec (.mcBankState r) s = .next (answer c stRefusedState [] s))) ∧
    (reaches cMapFlush r c s = true → p = [] →
      (unflushed s = 0 → exec (.mapFlush r) s = .next (answer c stOk (u32 0 ++ u64 s.mc.flushFrame) s)) ∧
      (unflushed s ≠ 0 → ∃ t, exec (.mapFlush r) s = .next t ∧
        t.mb.waiting = s.mb.waiting ++ [⟨c.binding, c.session, c.seq, cMapFlush, c.era, .mapFlush, s.clk.ms⟩] ∧ onlyIn [.mb, .mc] s t ∧
        (someoneWaits (fun w => w == .mapFlush) s = false → t.mc = { s.mc with flushed := 0 })))) ∧
  (∀ (r : Req) (c : Ctx) (s : State),
    let p := c.payload
    (∀ fixed : Bool, reaches cEvClear r c s = true → p.length = 8 → rdN p 0 1 = (if fixed then 2 else 1) → resZero p 2 2 = true →
      (fixed = true → c.role ≠ 2 ∧ inService s = true) → (fixed = false → c.role = 2 → s.rs.ownerLock = false) →
      let goes := fun (x : EvRec) => decide (x.rseq ≤ rdN p 4 4) && (rdN p 1 1 == 255 || rdN p 1 1 == x.code / 256) && !x.retained
      let gone := (areaOf s fixed).filter goes
      ∃ s1, exec (.evClear r) s = .next (answer c stOk (u32 gone.length ++ u32 s.ev.nextRseq)
          (newRec (occNow s1 evEventsCleared 0 (c.role + 256 * (if fixed then 2 else 1) + 65536 * satU 16 gone.length) false) s1)) ∧
        areaOf s1 fixed = (areaOf s fixed).filter (fun x => !goes x) ∧ areaOf s1 (!fixed) = areaOf s (!fixed) ∧
        (∀ x ∈ s.ev.archive, x ∈ s1.ev.archive) ∧ (∀ x ∈ s.ev.archivePriv, x ∈ s1.ev.archivePriv) ∧
        (∀ x ∈ gone, if isFixedCode x.code then x ∈ s1.ev.archivePriv else x ∈ s1.ev.archive) ∧ onlyIn [.ev] s s1) ∧
    (reaches cInjectClear r c s = true → p.length = 4 → resZero p 1 3 = true → (rdN p 0 1 = 255 ∨ (1 ≤ rdN p 0 1 ∧ rdN p 0 1 ≤ 16)) →
      let goes := fun (i : Inj) => rdN p 0 1 == 255 || i.handle == rdN p 0 1
      ∃ t, exec (.injectClear r) s = .next (answer c stOk (u8 (s.ev.injs.filter goes).length) t) ∧ t.ev.injs = s.ev.injs.filter (fun i => !goes i) ∧
        onlyIn [.ev] s t) ∧
    (reaches cSelftest r c s = true → p.length = 4 → resZero p 1 3 = true → inService s = true → inPs s = true → stationary s = true →
      ∃ t, ∃ failed : List Nat, exec (.selftest r) s = .next (answer c stOk (u16 (probes s (rdN p 0 1)).length ++ u16 failed.length ++
          (failed.take 64).flatMap u16) t) ∧ (∀ id ∈ failed, id ∈ (probes s (rdN p 0 1)).map DetRow.id) ∧
        onlyIn [.mb, .pf, .ev, .out, .free] s t))

/-! ### Update: mailbox commands (chapter "Field update and recovery") -/

/-- UPDATE_BEGIN judges its payload, the conditions of Table 13-1, the manifest and the claims of other manifests, and a manifest without an objection is
taken up (R345, R346). -/
def Obligations.UpdateBeginTakesManifest : Prop :=
  ∀ (r : Req) (c : Ctx) (s : State),
    let p := c.payload
    let raw := p.drop 4
    let known := checkManifest raw s
    reaches cUpdateBegin r c s = true → 5 ≤ p.length → raw.length ≤ 6560 → rdN p 0 1 ≤ 1 → resZero p 1 3 = true →
    ∃ t, exec (.updateBegin r) s = .next t ∧ onlyIn [.mb, .pf, .ev, .qz, .fb, .mc, .up, .out] s t ∧
      (∀ k, beginBarred c.role s = some k → t = answer c stRefusedState [] (happen detUpdateRefused 0 k s)) ∧
      (beginBarred c.role s = none →
        (∀ k, known.2 = .inr k → t = answer c stValidationFail (u64 (rdN raw 8 8) ++ u64 0 ++ u8 k ++ u8 0 ++ zeros 2) known.1) ∧
        (∀ m, known.2 = .inl m → known.1 = s ∧
          (∀ x ∈ claimants s m, rdN p 0 1 = 0 → x.st = .staging → t = answer c stBusy [] s) ∧
          (claimants s m = [] → ∃ u mask, t = answer c stOk (u64 m.id ++ u64 mask ++ u8 0 ++ u8 m.mods.length ++ zeros 2) u ∧
            u = takeManifest m true c.session (myNode s) (myNode s) s)))

/-- UPDATE_DATA takes the bytes expected next from the entry session into the part, answers bytes it has had already, and refuses a gap or another
session; UPDATE_STATUS answers the state of a manifest and of each module (R347 to R349, Table 13-10). UPDATE_ACTIVATE asks every module of a staged
manifest to prepare and is answered once the decision is made, UPDATE_CONFIRM confirms an activated update, and UPDATE_ABORT aborts a staging, falls
back to the old images by a reset, or resolves a preparation that no module can decide (R356 to R362). -/
def Obligations.UpdateCommandsAct : Prop :=
  (∀ (r : Req) (c : Ctx) (s : State),
    let p := c.payload
    let id := rdN p 0 8
    (∀ x e q, reaches cUpdateData r c s = true → 17 ≤ p.length → p.length ≤ 65536 → resZero p 9 3 = true → campOf s id = some x →
      x.man.parts[rdN p 8 1]? = some e → x.parts[rdN p 8 1]? = some q → rdN p 12 4 + (p.length - 16) ≤ cipherLen e →
      (x.entry = false ∨ x.session ≠ c.session → exec (.updateData r) s = .next (answer c stNotAuth [] s)) ∧
      (x.entry = true → x.session = c.session → x.st = .staging →
        (q.next < rdN p 12 4 → exec (.updateData r) s = .next (answer c stBadArg [] s)) ∧
        (rdN p 12 4 < q.next → exec (.updateData r) s =
          .next (answer c stOk (u32 q.next ++ u8 (if q.failed then 3 else if q.verified then 2 else 1) ++ zeros 3) s)) ∧
        (rdN p 12 4 = q.next → ringRoom s x e = true → q.failed = false → q.accepted < e.chunks →
          (q.partial' ++ p.drop 16).length < chunkLen e q.accepted →
          ∃ t, exec (.updateData r) s =
              .next (answer c stOk (u32 (q.next + (p.length - 16)) ++ u8 (if q.verified then 2 else 1) ++ zeros 3) t) ∧
            onlyIn [.up] s t ∧ ∃ x', campOf t id = some x' ∧
              x'.parts[rdN p 8 1]? = some { q with partial' := q.partial' ++ p.drop 16, next := q.next + (p.length - 16) }))) ∧
    (∀ x, reaches cUpdateStatus r c s = true → p.length = 8 → (id = 0 ∧ x = s.up.camps.getLast? ∨ id ≠ 0 ∧ x = campOf s id ∧ x.isSome) →
      exec (.updateStatus r) s = .next (answer c stOk (u64 ((x.map (fun y => y.man.id)).getD 0) ++ u8 (upStCode ((x.map Camp.st).getD .idle)) ++
        u8 ((x.map Camp.result).getD 0) ++ u16 s.up.secMin ++ u8 s.rs.failed ++ u8 ((x.map (fun y => y.mods.length)).getD 0) ++ zeros 2 ++
        ((x.map (fun y => y.mods.flatMap (modEntry s y))).getD [])) s))) ∧
  (∀ (r : Req) (c : Ctx) (x : Camp) (s : State),
    let p := c.payload
    let id := rdN p 0 8
    campOf s id = some x →
    (reaches cUpdateActivate r c s = true → p.length = 16 → x.entry = true → x.session = c.session → collectingCamp s = none → x.st = .staged →
      inRecovery s = false → (rdN p 8 8 = 0 ∨ (s.clk.frame + 2000 ≤ rdN p 8 8 ∧ rdN p 8 8 ≤ s.clk.frame + 600000)) →
      2000 ≤ paramN s pUpCommitLead → paramN s pUpCommitLead ≤ 600000 →
      let frame := if rdN p 8 8 = 0 then s.clk.frame + paramN s pUpCommitLead else rdN p 8 8
      ∃ t u, exec (.updateActivate r) s = .next t ∧ onlyIn [.mb, .pf, .ev, .fb, .up, .out] s t ∧
        ((campOf u id).bind Camp.decision = some true ∧ t = answer c stOk (u64 frame ++ u8 1 ++ zeros 3) u ∨
          (∃ node reason, (campOf u id).bind Camp.decision = some false ∧
            t = answer c stRefusedState (u64 frame ++ u8 2 ++ u8 node ++ u8 reason ++ u8 0) u) ∨
          (campOf u id).bind Camp.decision = none ∧
            t.mb.waiting = u.mb.waiting ++ [⟨c.binding, c.session, c.seq, cUpdateActivate, c.era, .activate, u.clk.ms⟩])) ∧
    (reaches cUpdateConfirm r c s = true → p.length = 8 → ownerBars c.role s = false → s.up.commit.id = id → s.up.commit.st = .activated →
      ∃ t, exec (.updateConfirm r) s = .next t ∧ t.up.commit.st = .confirmed ∧ t.up.secMin = max s.up.secMin s.up.commit.sec ∧
        onlyIn [.mb, .pf, .ev, .fb, .up, .out] s t) ∧
    (p.length = 12 → resZero p 9 3 = true → ownerBars c.role s = false →
      (reaches cUpdateAbort r c s = true → rdN p 8 1 = 1 → x.entry = true → x.session = c.session → (x.st = .staging ∨ x.st = .staged) →
        (∀ m ∈ x.mods, m.st < 4) →
        ∃ n t, exec (.updateAbortStaging r) s = .next (answer c stOk (u8 n ++ zeros 3) t) ∧ 1 ≤ n ∧ onlyIn [.mb, .pf, .ev, .fb, .mc, .up, .out] s t) ∧
      (reaches cUpdateAbort r c s = true → rdN p 8 1 = 2 → s.up.commit.id = id → s.up.commit.st = .activated →
        ∃ n, exec (.updateAbortFallback r) s = .next (fallBack 9 (answer c stOk (u8 n ++ zeros 3) s))) ∧
      (reaches cUpdateAbort r c s = true → rdN p 8 1 = 3 → c.role = 4 → inService s = true → s.up.commit.id = id → s.up.commit.st = .prepared →
        s.up.commit.leader = false → (∀ u ∈ modUids x.man, u = uid ∨ nodeOfUid s u = 0 ∨ routePort s (nodeOfUid s u) = none) →
        ∃ t, exec (.updateAbortResolveAbort r) s = .next (answer c stOk (u8 1 ++ zeros 3) t) ∧ t.up.commit.st = .aborted ∧
          onlyIn [.mb, .pf, .ev, .up, .out] s t)))

/-! ### Reset, lifecycle, power and the segment panel: mailbox commands -/

/-- LIFECYCLE_SET makes the transitions of Table 14-10 that its session may make, provisions and revokes keys (R379 to R381), and OWNER_LOCK sets
and clears the lock and opens the service window (R382); LIFECYCLE_GET answers what they leave. RESET_REQUEST keeps the request that takes effect
100 ms after its response (R35, R369); DOMAIN_STATE switches a domain in service (R404), SP_WRITE changes the target of the masked segments and
counts an update that waits (R409, R416), and POWER_STATUS and SP_STATUS are answered from the state (R392, Tables 15-10 and 16-5). -/
def Obligations.LifecycleAndPowerCommandsAct : Prop :=
  (∀ (r : Req) (c : Ctx) (s : State),
    let p := c.payload
    let new := rdN p 4 1
    let lc := s.rs.lifecycle
    (reaches cLifecycleGet r c s = true → p = [] →
      exec (.lifecycleGet r) s = .next (answer c stOk (u8 lc ++ u8 (b2n s.rs.ownerLock + 2 * b2n s.rs.permit.isSome) ++
        u8 (maskOf 4 (fun k => (roleKey s (k + 1)).isSome) + 16 * b2n (s.rs.manifestKey.isSome && !s.rs.manifestRevoked)) ++ u8 s.rs.revoked ++
        u32 s.rs.map ++ u8 (b2n (debugPort s)) ++ zeros 3 ++ u32 s.rs.entries) s)) ∧
    (reaches cLifecycleSet r c s = true → p.length = 18 → rdN p 0 1 = 1 → resZero p 1 3 = true → resZero p 5 3 = true →
      (lc = 1 ∧ new = 2 ∨ lc = 2 ∧ new = 3 ∨ lc = 3 ∧ new = 4 ∨ lc = 4 ∧ new = 3 ∨ (lc = 2 ∨ lc = 3 ∨ lc = 4) ∧ new = 5) →
      (rdN p 8 4 = 0 ∨ (lc = 2 ∧ new = 3 ∧ rdN p 8 4 < 4096)) → (rdN p 12 6 = if new = 5 then uid else 0) →
      (transitionMay c.role new s = false → exec (.lifecycleSetTransition r) s = .next (answer c stRefusedState [] s)) ∧
      (transitionMay c.role new s = true →
        ∃ t, exec (.lifecycleSetTransition r) s = .next t ∧ t.rs.lifecycle = new ∧ t.rs.intent = none ∧ t.pending = s.pending ∧
          t.rs.entries = (if new = 4 then s.rs.entries + 1 else s.rs.entries))) ∧
    (reaches cLifecycleSet r c s = true → rdN p 0 1 = 2 → resZero p 1 3 = true → resZero p 5 3 = true → provisionMay c.role new s = true →
      (new = 5 → p.length = 104 → exec (.lifecycleSetProvisionKey r) s = .next (answer c stOk (u8 lc ++ zeros 3)
        { s with rs := { s.rs with manifestKey := some (p.drop 8), manifestRevoked := false } })) ∧
      (1 ≤ new → new ≤ 4 → p.length = 40 → new ≤ s.rs.keys.length →
        ∃ t, exec (.lifecycleSetProvisionKey r) s = .next t ∧ roleKey t new = some (p.drop 8) ∧
          t.rs = { s.rs with keys := s.rs.keys.set (new - 1) (some (p.drop 8)), oemOwn := s.rs.oemOwn || new == 2 } ∧
          onlyIn [.mb, .pf, .ev, .rs, .out] s t)) ∧
    (reaches cLifecycleSet r c s = true → p.length = 8 → rdN p 0 1 = 3 → resZero p 1 3 = true → resZero p 5 3 = true →
      (new = 5 → (c.role = 2 ∧ lc = 2 ∨ c.role = 4 ∧ lc = 4) → s.rs.manifestKey.isSome →
        exec (.lifecycleSetRevokeKey r) s = .next (answer c stOk (u8 lc ++ zeros 3) { s with rs := { s.rs with manifestRevoked := true } })) ∧
      (16 ≤ new → new ≤ 19 → c.role = 4 → lc = 4 →
        let bits := maskOr s.rs.revoked (2 ^ (new - 16))
        exec (.lifecycleSetRevokeKey r) s = .next (if bits = 15 then answer c stRefusedState [] s
          else answer c stOk (u8 lc ++ zeros 3) { s with rs := { s.rs with revoked := bits } }))) ∧
    (reaches cOwnerLock r c s = true → p.length = 4 → resZero p 1 3 = true →
      (rdN p 0 1 = 1 → lc = 3 → ∃ t, exec (.ownerLockSet r) s = .next (answer c stOk (u8 (1 + 2 * b2n s.rs.permit.isSome) ++ zeros 3) t) ∧
        t.rs = { s.rs with ownerLock := true } ∧ onlyIn [.rs, .mb, .pf, .ev, .out] s t) ∧
      (rdN p 0 1 = 2 → (lc = 3 ∨ lc = 4) → ∃ t, exec (.ownerLockClear r) s = .next (answer c stOk (u8 (2 * b2n s.rs.permit.isSome) ++ zeros 3) t) ∧
        t.rs = { s.rs with ownerLock := false } ∧ onlyIn [.rs, .mb, .pf, .ev, .out] s t) ∧
      (rdN p 0 1 = 3 → lc = 3 → s.rs.ownerLock = true →
        exec (.ownerLockPermitService r) s = .next (answer c stOk (u8 3 ++ zeros 3) { s with rs := { s.rs with permit := some s.clk.ms } })))) ∧
  (∀ (r : Req) (c : Ctx) (s : State),
    let p := c.payload
    (reaches cResetRequest r c s = true → p.length = 4 → rdN p 0 1 ≤ 3 → resZero p 2 2 = true →
      (rdN p 0 1 = 3 ∧ 1 ≤ rdN p 1 1 ∧ rdN p 1 1 ≤ 7 ∧ (rdN p 1 1 ≤ 3 → s.gr.mode = .triple) ∨ rdN p 0 1 ≠ 3 ∧ rdN p 1 1 = 0) →
      (inService s = true ∨ s.rs.stage = .recovery ∨ (rdN p 0 1 ≠ 0 ∧ moving s = false)) →
      let applied := if rdN p 0 1 = 3 then 3 else sourceLevel s 5 (rdN p 0 1)
      exec (.resetRequest r) s =
        .next (answer c stOk (u8 applied ++ zeros 3) { s with rs := { s.rs with request := some ⟨applied, rdN p 1 1, s.clk.ms⟩ } })) ∧
    (reaches cPowerStatus r c s = true → p = [] →
      exec (.powerStatus r) s = .next (answer c stOk (u16 s.an.vsup ++ u16 s.an.vbat ++ u16 s.an.keep ++ leI 2 s.an.temp ++ u32 s.pw.inMw ++
        u32 (s.pw.mw.drop 1).sum ++ u8 (powerFlags s) ++ u8 s.pw.sb.wakeCause ++ u8 s.pw.sb.lastMode ++
        u8 (b2n s.pw.vco + 2 * b2n s.pw.clkKeep + 4 * b2n s.pw.rtcValid) ++ u64 s.pw.sb.wakeFrame ++
        leI 4 (s.gn.time.freq + s.gn.time.steer) ++ u8 (s.pw.wk % 16) ++ zeros 3 ++
        (List.range 13).flatMap (fun d => u8 d ++ u8 (domCode (domOf s d)) ++ u16 (if d = 0 then 0 else satU 16 (nth s.pw.mw d 0))) ++
        (List.range 6).flatMap (fun k => u16 (satU 16 (supOf s k).ma) ++ u8 (supCode (supOf s k).st) ++ zeros 1)) s)) ∧
    (reaches cDomainState r c s = true → p.length = 4 → resZero p 2 2 = true → rdN p 0 1 ∈ [5, 6, 10, 11] → inService s = true → inPs s = true →
      stationary s = true → rdN p 0 1 < s.pw.doms.length →
      (rdN p 1 1 = 1 → domOf s (rdN p 0 1) ≠ .serviceOff →
        exec (.domainState r) s = .next (answer c stOk (u8 (domCode (domOf s (rdN p 0 1))) ++ u8 (domCode (domOf s (rdN p 0 1))) ++ zeros 2) s)) ∧
      (rdN p 1 1 = 2 → domOf s (rdN p 0 1) ≠ .serviceOff →
        ∃ t, exec (.domainState r) s = .next (answer c stOk (u8 (domCode (domOf s (rdN p 0 1))) ++ u8 (domCode .serviceOff) ++ zeros 2) t) ∧
          domOf t (rdN p 0 1) = .serviceOff ∧ onlyIn [.clk, .mb, .pf, .ev, .qz, .gn, .mc, .fb, .cf, .an, .pw, .sp, .out, .free] s t)) ∧
    (∀ target : Nat, reaches cSpWrite r c s = true → p.length = 16 → rdN p 12 1 ≤ 1 → resZero p 13 3 = true → s.sp.st ≠ .fault →
      target = maskOf 48 (fun n => if bit (rdN p 6 6) n then bit (rdN p 0 6) n else bit s.sp.target n) →
      let sp := { s.sp with target := target, refresh := s.sp.refresh || rdN p 12 1 == 1 }
      let due := sp.refresh || panelDiffers sp || sp.running.isSome
      (∀ n, s.sp.waiting = some n → exec (.spWrite r) s = .next (answer c stOk (u32 n ++ u8 1 ++ zeros 3) { s with sp := sp })) ∧
      (s.sp.waiting = none → due = false → exec (.spWrite r) s = .next (answer c stOk (u32 s.sp.seq ++ u8 0 ++ zeros 3) { s with sp := sp })) ∧
      (s.sp.waiting = none → due = true →
        let n := (s.sp.seq + 1) % 2 ^ 32
        exec (.spWrite r) s = .next (answer c stOk (u32 n ++ u8 0 ++ zeros 3)
          { s with sp := { sp with seq := n, waiting := some n, after := s.clk.frame } }))) ∧
    (reaches cSpStatus r c s = true → p = [] →
      exec (.spStatus r) s = .next (answer c stOk (u8 (panCode s.sp.st) ++ u8 s.sp.phase ++ u16 s.sp.vp ++ u16 s.sp.t ++ leI 2 s.sp.temp ++
        leN 6 s.sp.displayed ++ leN 6 s.sp.target ++ leN 6 s.sp.uncertain ++ zeros 2 ++ u32 s.sp.completed ++ u32 s.sp.interrupted ++
        u32 s.sp.lastDone ++ zeros 4 ++ (List.range 48).flatMap (fun n => leI 4 (nth s.sp.ledgers n 0))) s)))

/-! ### Reception and the mailbox's own timers -/

/-- MESSAGE_RECEIVE walks Table 1-3: a broken message is counted as malformed and answered by nothing (R16, R23); a session that is not this binding's
answers NOT_AUTH, a stale epoch EPOCH_MISMATCH, and a wrong AUTH is counted and not answered (R27 to R29, R51); the sequence rule takes E, holds up
to 8 ahead, sends a cached response again for one behind, and discards and counts the rest (R30). A Skim frame is counted when bad, forwarded in
transit, and given to the owner of its class (R248, R268, R269); a CAN frame is counted and a bad one counts errors (R284, R288). -/
def Obligations.MessagesAreReceived : Prop :=
  (∀ (b : Binding) (intact : Bool) (wire : Bytes) (s : State),
    let whole := (if b.transport = .uart then uartMsg wire else some wire).bind commandMsg
    let s1 := updChan 0 b (fun x => { x with lastAuth := s.clk.ms }) s
    (transportOn s b = false → exec (.messageReceive b intact wire) s = .next s) ∧
    (transportOn s b = true → (intact = false ∨ whole = none) →
      exec (.messageReceive b intact wire) s = .next { s with mb := { s.mb with malformed := wrapU 32 (s.mb.malformed + 1) } }) ∧
    (∀ m, transportOn s b = true → intact = true → whole = some m → m.session ≠ 0 →
      ((∀ x, findSess s m.session = some x → x.binding ≠ b) →
        exec (.messageReceive b intact wire) s = .next (answer0 b m.seq m.code stNotAuth s1)) ∧
      (∀ x, findSess s m.session = some x → x.binding = b →
        (m.epoch ≠ s.mb.epoch → exec (.messageReceive b intact wire) s = .next (answer0 b m.seq m.code stEpochMismatch s1)) ∧
        (m.epoch = s.mb.epoch → openMsg x m = none → ∃ t, exec (.messageReceive b intact wire) s = .next t ∧
          t.mb.authFails = wrapU 32 (s.mb.authFails + 1) ∧ onlyIn tells s t) ∧
        (∀ payload, m.epoch = s.mb.epoch → openMsg x m = some payload → x.isOpen = true →
          let s2 := updSess m.session (fun y => { y with lastAuth := s.clk.ms }) s1
          let x2 := { x with lastAuth := s.clk.ms }
          let h : HeldMsg := ⟨m.seq, m.code, bit m.flags 3, payload, s.clk.ms, false⟩
          let d := (m.seq + 65536 - x.e) % 65536
          (d = 0 → exec (.messageReceive b intact wire) s = .next (closeEnded (release 9 m.session b (takeNext h x2 s2)))) ∧
          (1 ≤ d → d ≤ 8 → x.held.any (fun y => y.seq == m.seq) = false → x.held.length < 8 → unfinished x < 16 →
            exec (.messageReceive b intact wire) s = .next (updSess m.session (fun y => { y with held := y.held ++ [h] }) s2)) ∧
          (∀ e, 65520 ≤ d → (x.cache.filter (fun y => y.1 == m.seq)).getLast? = some e →
            exec (.messageReceive b intact wire) s = .next { s2 with out := s2.out ++ e.2.map (fun o => { o with key := x.keyOut }) }) ∧
          (8 < d → d < 65520 →
            exec (.messageReceive b intact wire) s = .next { s2 with mb := { s2.mb with discarded := wrapU 32 (s2.mb.discarded + 1) } }))))) ∧
  (∀ (port : Fin 4) (good : Bool) (f : SkimFrame) (s : State),
    ((portOn s port.val = false ∨ (fbPort s port.val).link = false) → exec (.skimFrameReceive port good f) s = .next s) ∧
    (portOn s port.val = true → (fbPort s port.val).link = true →
      (good = false → exec (.skimFrameReceive port good f) s = .next (updPort port.val (fun x => { x with fcs := satU 16 (x.fcs + 1) })
        { s with fb := { s.fb with framesBad := wrapU 32 (s.fb.framesBad + 1) } })) ∧
      (good = true → 1 ≤ f.cls → f.cls ≤ 3 → f.data.length ≤ 1484 → f.dst ≠ 0 → f.dst ≠ myNode s →
        (f.hops < 31 → ∀ path h, primaryPath (database s) f.src f.dst = some path → path.find? (fun h => h.1 == myNode s) = some h →
          exec (.skimFrameReceive port good f) s = .next (fbSend h.2 (.skim { f with hops := f.hops + 1 }) s)) ∧
        (31 ≤ f.hops → exec (.skimFrameReceive port good f) s = .next s)) ∧
      (∀ s1, good = true → f.data.length ≤ 1484 → (f.dst = 0 ∨ f.dst = myNode s) → skimFlow f s = (s1, .delivered) →
        (f.cls = 1 → exec (.skimFrameReceive port good f) s = .next (fabricPump (fabricMail f.src f.flow f.data s1))) ∧
        (f.cls = 2 → exec (.skimFrameReceive port good f) s = .next (chainMessage f.src f.data s1))))) ∧
  (∀ (port : Fin 4) (f : CanFrame) (cycle err : Nat) (s : State),
    let x := canPort s port.val
    (x.st ≠ .errorActive → x.st ≠ .errorPassive → x.st ≠ .listenOnly → exec (.canFrameReceive port f cycle err) s = .next s) ∧
    (x.st = .listenOnly → err ≠ 0 → exec (.canFrameReceive port f cycle err) s = .next s) ∧
    ((x.st = .errorActive ∨ x.st = .errorPassive ∨ x.st = .listenOnly) → err = 0 → f.fd = true → canFd s port.val = false →
      exec (.canFrameReceive port f cycle err) s = .next (updCan port.val (fun x => { x with fdDiscards := wrapU 32 (x.fdDiscards + 1) }) s)) ∧
    (x.st = .listenOnly → err = 0 → (f.fd = false ∨ canFd s port.val = true) → x.mods.any (filterHits f) = false → port.val < s.cn.ports.length →
      ∃ t, exec (.canFrameReceive port f cycle err) s = .next t ∧ (canPort t port.val).received = wrapU 32 (x.received + 1) ∧
        (canPort t port.val).rxErr = x.rxErr ∧ onlyIn (.cn :: .free :: tells) s t))

/-- The mailbox's timers: a lockout lasts 60 s and a burst ends 10 s after its last failure (R35, R51); relays wait 1000 ms for an inner response,
and with its last fragment are answered OK (R24, R25); assemblies wait 1000 ms (R18), half-open sessions 5000 ms (R28), held messages MB.REORDER_HOLD
(R32), and sessions and session-0 bindings MB.SESSION_TIMEOUT (R27, R35); a subscription's interval ends (R43), and a settings write becomes durable
(R48). -/
def Obligations.MailboxTimersAct : Prop :=
  ∀ s : State,
    (s.rs.supUp = true →
      (∃ t, exec .lockoutExpiry s = .next t ∧ (∀ x ∈ t.mb.secs, ∀ e, x.locked = some e → s.clk.ms < e) ∧
        (∀ x ∈ s.mb.secs, (∀ e, x.locked = some e → s.clk.ms < e) → x ∈ t.mb.secs) ∧ onlyIn tells s t) ∧
      (∃ t, exec .authBurstEnd s = .next t ∧ (∀ x ∈ t.mb.secs, x.burstOcc.isSome = true → ∃ f ∈ x.fails, s.clk.ms < f + 10000) ∧
        t.mb.secs.map PeerSec.locked = s.mb.secs.map PeerSec.locked ∧ onlyIn tells s t) ∧
      ((∀ x ∈ s.mb.sessions, x.isOpen = true → ∀ b ∈ x.subs, b.due = [] ∨ intervalOpen s b = false) → exec .notifyIntervalExpiry s = .next s) ∧
      (∀ x b, s.mb.sessions = [x] → x.isOpen = true → x.subs = [b] → b.due ≠ [] → intervalOpen s b = true →
        exec .notifyIntervalExpiry s = .next (flushSub x.num b.code b.filter s))) ∧
    (mailUp s = true →
      (∃ t, exec .relayTimeout s = .next t ∧ (∀ r ∈ t.mb.relays, s.clk.ms < r.since + 1000) ∧ onlyIn [.mb, .out] s t ∧
        (∀ r ∈ s.mb.relays, (∀ y ∈ s.mb.relays, y.handle = r.handle → s.clk.ms < y.since + 1000) → r ∈ t.mb.relays)) ∧
      (∀ (src : Fin 64) (flow : Nat) (inner : Bytes) (m : WireMsg), parseMsg inner = some m →
        let match' := fun (r : Relay) => r.dest == src.val && r.flow == flow && r.seq == m.seq && r.code == m.code
        (s.mb.relays.find? match' = none → exec (.relayInnerResponse src flow inner) s = .next s) ∧
        (∀ r, s.mb.relays.find? match' = some r → bit m.flags 3 = false →
          exec (.relayInnerResponse src flow inner) s = .next (resolve (fun w => w == .relay r.handle) stOk (r.got ++ inner)
            { s with mb := { s.mb with relays := s.mb.relays.filter (fun y => y.handle != r.handle) } })) ∧
        (∀ r, s.mb.relays.find? match' = some r → bit m.flags 3 = true →
          exec (.relayInnerResponse src flow inner) s = .next { s with mb := { s.mb with
            relays := s.mb.relays.map (fun y => if y.handle = r.handle then { y with got := r.got ++ inner } else y) } }) ∧
        (∀ (x : Outer) (y : Sess), src.val ≠ 0 → s.mb.relayed.find? (fun x => x.flow == flow) = some x → findSess s x.session = some y →
          y.isOpen = true → y.binding = x.binding → exec (.relayedNotify src flow inner) s = .next (sendNote y.num nRelayedNotify inner s))) ∧
      (let due := fun (x : Sess) => x.asm.any (fun a => elapsed s a.since 1000)
        let lapse := fun (x : Sess) => if due x then { x with doomed := x.doomed ++ (x.asm.map Assembly.code).toList, asm := none } else x
        exec .fragmentAssemblyTimeout s = .next { s with mb := { s.mb with
          sessions := s.mb.sessions.map lapse
          peers0 := s.mb.peers0.map lapse
          malformed := wrapU 32 (s.mb.malformed + ((s.mb.sessions.filter due).length + (s.mb.peers0.filter due).length)) } }) ∧
      (∃ t, exec .halfOpenTimeout s = .next t ∧ (∀ x ∈ t.mb.sessions, x.isOpen = true ∨ s.clk.ms < x.opened + 5000) ∧
        (∀ x ∈ s.mb.sessions, (∀ y ∈ s.mb.sessions, y.num = x.num → y.isOpen = true ∨ s.clk.ms < y.opened + 5000) → x ∈ t.mb.sessions) ∧
        onlyIn [.mb, .pf, .ev] s t) ∧
      (∃ t, exec .reorderHoldExpiry s = .next t ∧ onlyIn tells s t ∧
        (∀ x, s.mb.sessions = [x] → x.held.any (fun m => elapsed s m.since (paramN s pMbReorderHold)) = true → x.note < 65535 →
          t.mb.sessions = [{ x with held := [], note := x.note + 1 }] ∧
          (t.out.drop s.out.length).map OutMsg.payload = [u16 x.e])) ∧
      (∃ t, exec .sessionTimeout s = .next t ∧ onlyIn tells s t ∧
        (∀ x ∈ t.mb.sessions, x.isOpen = true → s.clk.ms < x.lastAuth + paramN s pMbSessionTimeout)) ∧
      exec .session0BindingForget s = .next { s with mb := { s.mb with
        peers0 := s.mb.peers0.filter (fun x => chanBusy x || !elapsed s x.lastAuth (paramN s pMbSessionTimeout)) } }) ∧
    (mailUp s = false → exec .relayTimeout s = .next s ∧ exec .fragmentAssemblyTimeout s = .next s ∧ exec .halfOpenTimeout s = .next s ∧
      exec .reorderHoldExpiry s = .next s ∧ exec .sessionTimeout s = .next s ∧ exec .session0BindingForget s = .next s) ∧
    (s.pw.vsupReduced = false → exec .moduleSettingDurable s = .next { s with pf := { s.pf with writes := s.pf.writes.drop 1 } }) ∧
    (s.pw.vsupReduced = true → exec .moduleSettingDurable s = .next s)

/-! ### Granite: the frame, its instants and the lanes -/

/-- The instants of Table 3-1: the frame part closes for the next frame (R76, R78), the record is released with the counters (R76), a tick is sampled,
released and committed (R83), the frame work is judged at 975 us (R97), and the frame commits what it computed unless it overran. Feedback grace, the
ramp's end, the third overrun in a row, the last captured frame and the end of a replay act as R97, R98, R100, R103 and R106 say. -/
def Obligations.GraniteInstantsAct : Prop :=
  ∀ s : State,
    (∀ x : CutSample,
      (s.clk.running = false → exec (.cutOff x) s = .next s) ∧
      (s.clk.running = true → ∃ t, exec (.cutOff x) s = .next t ∧ t.gr.next.frame = s.clk.frame + 1 ∧
        (∀ c ∈ t.gr.next.cmds, c.frame = s.clk.frame + 1 ∧ c ∈ s.mb.exch) ∧ t.gr.cur = s.gr.cur ∧ t.gr.fns = s.gr.fns ∧ t.fb.rx = [] ∧
        t.mc.badPart = none ∧ t.mc.calibrating = none ∧ t.clk = { s.clk with cycle := max s.clk.cycle 735000 } ∧
        (s.gr.replay.st ≠ .running → t.gr.next.pcrc = s.pf.crc) ∧
        (s.gr.replay.st = .running → t.gr.next = { s.gr.next with frame := s.clk.frame + 1, cmds := t.gr.next.cmds }) ∧
        (s.qz.up = true → t.qz.wseq = wrapU 32 (s.qz.wseq + 1)) ∧ onlyIn [.clk, .mb, .pf, .ev, .gr, .qz, .fb, .cn, .mc, .an, .out] s t)) ∧
    (∀ crc : List (Fin 3),
      (frameDue s = false → exec (.frameStart crc) s = .next s) ∧
      (frameDue s = true → s.fb.step = none → ∃ u, exec (.frameStart crc) s = .next (supervisorFrame u) ∧
        u.clk = { s.clk with frame := s.clk.frame + 1, ms := s.clk.ms + 1, cycle := 0 } ∧ u.gr.cur.frame = s.clk.frame + 1 ∧ u.gr.tick = 0 ∧
        onlyIn [.clk, .mb, .pf, .ev, .gr, .qz, .cf, .vd, .ls, .gn, .fb, .cn, .an, .pw, .out, .free] s u)) ∧
    (∀ f : Fin 30, ∀ e, fnEntry s (f.val + 1) = some e → s.gr.fns.length = 30 →
      (paramN s pGrFeedbackGrace ≤ (fnOf s (f.val + 1)).badFb → (fnOf s (f.val + 1)).st = .enabled →
        ∃ t, exec (.feedbackGraceExpiry f) s = .next t ∧ (fnOf t (f.val + 1)).st = (if ramps e then FnSt.ramp else FnSt.safe) ∧
          (fnOf t (f.val + 1)).cause = 1 ∧ (∀ g, g ≠ f.val + 1 → 1 ≤ g → fnOf t g = fnOf s g) ∧
          onlyIn [.mb, .pf, .ev, .gr, .cf, .vd, .ls, .out, .free] s t) ∧
      ((fnOf s (f.val + 1)).badFb < paramN s pGrFeedbackGrace → exec (.feedbackGraceExpiry f) s = .next s) ∧
      ((fnOf s (f.val + 1)).st = .ramp → (fnOf s (f.val + 1)).rampR = 0 →
        ∃ t, exec (.rampEnd f) s = .next t ∧ (fnOf t (f.val + 1)).st = .safe ∧ (fnOf t (f.val + 1)).out = safeOut e ∧
          (∀ g, g ≠ f.val + 1 → 1 ≤ g → fnOf t g = fnOf s g) ∧ onlyIn [.mb, .pf, .ev, .gr, .cf, .vd, .ls, .out, .free] s t) ∧
      ((fnOf s (f.val + 1)).st ≠ .ramp → exec (.rampEnd f) s = .next s)) ∧
    (∀ (coils loads : List Nat) (rail : Nat), s.clk.running = true → coils.length = 12 → s.vd.chans.length = 12 → s.ls.chans.length = 24 →
      ∃ t, exec (.tickSample coils loads rail) s = .next t ∧ t.an = { s.an with rail := rail } ∧ t.vd.chans.map VdChan.current = coils ∧
        (loads.length = 24 → t.ls.chans.map LsChan.ma = loads) ∧ onlyIn [.gr, .vd, .ls, .an] s t ∧
        t.gr = (if s.gr.replay.st = .running then s.gr else { s.gr with tickNext := coils.map (fun (n : Nat) => (n : Int)) })) ∧
    (grLive s = true → s.gr.tick < 20 → ∃ t, exec .tickStart s = .next t ∧ t.gr.tickRec = s.gr.tickNext ∧ t.gr.tick = s.gr.tick ∧
      t.clk.cycle = max s.clk.cycle (37500 * s.gr.tick) ∧ t.gr.fns.map Fn.st = s.gr.fns.map Fn.st ∧ t.gr.fns.map Fn.out = s.gr.fns.map Fn.out ∧
      onlyIn [.clk, .gr] s t) ∧
    (∀ bad : List (Fin 3), s.gr.running = true → s.gr.tick < 20 → ∃ t, exec (.tickCommit bad) s = .next t ∧ t.gr.tick = s.gr.tick + 1 ∧
      t.clk.cycle = max s.clk.cycle (37500 * s.gr.tick + 30000) ∧ onlyIn [.clk, .mb, .pf, .ev, .gr, .cf, .vd, .ls, .gn, .out, .free] s t ∧
      (bad = [] → s.ev.injs = [] → t.gr.mode = s.gr.mode ∧ t.gr.lanes = s.gr.lanes ∧
        (∀ g, 1 ≤ g → (fnOf s g).st ≠ .enabled → (fnOf s g).st ≠ .ramp → fnOf t g = fnOf s g)) ∧
      (grLive s = true → 2 ≤ ((activeLanes s).filter (fun k => bad.any (fun b => b.val == k))).length → s.ev.injs = [] → t.gr.mode = .safe)) ∧
    ((s.gr.running = false ∨ 20 ≤ s.gr.tick) → ∀ bad, exec (.tickCommit bad) s = .next s) ∧
    (∀ work : Nat, grLive s = true → ∃ t, exec (.firmwareDeadline work) s = .next t ∧ t.gr.lastWork = work ∧
      t.gr.peakWork = max s.gr.peakWork work ∧ t.gr.fns = s.gr.fns ∧ onlyIn (.clk :: .gr :: tells) s t ∧
      (731250 < work → t.gr.overran = true ∧ t.gr.overruns = wrapU 32 (s.gr.overruns + 1) ∧ t.gr.consec = s.gr.consec + 1) ∧
      (work ≤ 731250 → forced s detFrameOverrun 0 = false → t.gr.overran = false ∧ t.gr.overruns = s.gr.overruns ∧ t.gr.consec = 0 ∧
        onlyIn [.clk, .gr] s t)) ∧
    (s.gr.consec < 3 → exec .consecutiveOverrunLimit s = .next s) ∧
    (3 ≤ s.gr.consec → s.gr.fns.length = 30 → (∀ e ∈ s.pf.work.funcs, 1 ≤ rdN e 0 1 ∧ rdN e 0 1 ≤ 30) →
      ∃ t, exec .consecutiveOverrunLimit s = .next t ∧ onlyIn [.mb, .pf, .ev, .gr, .cf, .vd, .ls, .out, .free] s t ∧
        ∀ e ∈ s.pf.work.funcs, onMachineWork s e = true → (fnOf t (rdN e 0 1)).st ≠ .enabled) ∧
    (∀ bad : List (Fin 3), (s.gr.running = false → exec (.frameCommit bad) s = .next s) ∧
      (s.gr.running = true → ∃ t, exec (.frameCommit bad) s = .next t ∧ onlyIn [.mb, .pf, .ev, .gr, .cf, .vd, .ls, .gn, .fb, .out, .free] s t ∧
        (bad = [] → s.ev.injs = [] → (s.gr.overran = true ∨ grLive s = false) → t.gr.fns = s.gr.fns) ∧
        (bad = [] → s.ev.injs = [] → s.gr.overran = false → grLive s = true → s.gr.replay.st ≠ .running → s.gr.fns.length = 30 →
          ∀ e ∈ s.pf.work.funcs, 1 ≤ rdN e 0 1 → rdN e 0 1 ≤ 30 → (fnOf s (rdN e 0 1)).st = .enabled →
            (isFast (slotOfFn e) = false ∨ rdN e 1 1 = 7) → (fnOf t (rdN e 0 1)).out = (fnOf s (rdN e 0 1)).next))) ∧
    (∀ c, s.gr.capture = some c → c.running = true →
      (c.want ≤ c.held → exec .recordCaptureDone s = .next { s with gr := { s.gr with capture := some { c with running := false } } }) ∧
      (c.held < c.want → exec .recordCaptureDone s = .next s)) ∧
    (∀ mismatches frame tick : Nat, s.gr.replay.st = .running → s.gr.replay.count ≤ s.gr.replay.frames →
      ∃ t, exec (.replayDone mismatches frame tick) s = .next t ∧ t.gr.replay.st = .done ∧ onlyIn [.mb, .pf, .ev, .gr, .gn, .fb, .out] s t ∧
        t.gr.replay.mismatches = mismatches ∧ (t.gr.replay.result = 0 ↔ mismatches = 0) ∧
        (mismatches ≠ 0 → t.gr.replay.badFrame = frame ∧ t.gr.replay.badTick = tick) ∧ (∀ f ∈ t.gr.fns, f.starts = false ∧ f.st ≠ .enabled ∧ f.st ≠ .ramp))

/-- A cause of R84 on an ACTIVE lane in TRIPLE excludes that lane and no other, and the mode is DUAL; with two lanes it is the safe state, in which every
function is SAFE and SAFE_A and SAFE_B are asserted (R84, R88). Reset, self-test, transfer and wait bring an excluded lane back at a frame
boundary, or hold it out (R86, R87, Tables 3-3 and 3-4). -/
def Obligations.LanesAreExcludedAndReadmitted : Prop :=
  ∀ (lane : Fin 3) (s : State),
    let k := lane.val
    let l := laneOf s k
    let out := fun (t : State) (cause : Nat) =>
      t.gr.mode = .dual ∧ (laneOf t k).cause = cause ∧ (laneOf t k).lastExcl = s.clk.frame ∧ (laneOf t k).joins = false ∧
        (exclCount s k + 1 ≤ paramN s pGrReadmitLimit → (laneOf t k).st = .selftest ∧ (laneOf t k).inReset = true) ∧
        (paramN s pGrReadmitLimit < exclCount s k + 1 → (laneOf t k).st = .heldOut) ∧
        (∀ j, j ≠ k → laneOf t j = laneOf s j) ∧ t.gr.fns = s.gr.fns ∧ onlyIn [.gr, .mb, .pf, .ev, .out] s t
    let causes := [(Instr.lockstepDivergence lane, 2), (Instr.laneWatchdogMiss lane, 3), (Instr.laneEccError lane true, 4)]
    (s.gr.lanes.length = 3 → grLive s = true → l.st = .active → s.gr.mode = .triple → s.ev.injs = [] →
      ∀ c ∈ causes, ∃ t, exec c.1 s = .next t ∧ out t c.2) ∧
    (grLive s = true → l.st = .active → s.gr.mode = .dual → s.gr.fns.length = 30 → ∀ c ∈ causes, ∃ t, exec c.1 s = .next t ∧
      t.gr.mode = .safe ∧ t.gr.safeA = true ∧ t.gr.safeB = true ∧ t.gn.steer.st = .off ∧
      (∀ e ∈ s.pf.work.funcs, 1 ≤ rdN e 0 1 → rdN e 0 1 ≤ 30 → (fnOf t (rdN e 0 1)).st = .safe) ∧
      onlyIn [.gr, .mb, .pf, .ev, .out, .cf, .vd, .ls, .gn, .free] s t) ∧
    ((grLive s = false ∨ l.st ≠ .active) → ∀ c ∈ causes, exec c.1 s = .next s) ∧
    (exec (.laneEccError lane false) s = .next (updLane k (fun l => { l with ecc := wrapU 32 (l.ecc + 1) }) s)) ∧
    (exec (.laneResetDone lane) s = .next (if l.inReset then updLane k (fun l => { l with inReset := false, since := s.clk.ms }) s else s)) ∧
    ((elapsed s l.since 30 = false ∨ l.inReset = true ∨ s.clk.running = false) → ∀ pass, exec (.laneSelftestDone lane pass) s = .next s) ∧
    (∀ pass : Bool, elapsed s l.since 30 = true → l.inReset = false → s.clk.running = true → s.gr.lanes.length = 3 → s.ev.injs = [] →
      (l.st = .start → pass = true → exec (.laneSelftestDone lane pass) s = .next (updLane k (fun l => { l with joins := true }) s)) ∧
      (l.st = .selftest → exclCount s k ≤ paramN s pGrReadmitLimit → ∃ t, exec (.laneSelftestDone lane pass) s = .next t ∧
        (laneOf t k).st = (if pass then (if paramN s pGrReadmitEnable = 0 then LaneSt.heldOut else LaneSt.transfer) else LaneSt.excludedWait) ∧
        (pass = false → (laneOf t k).cause = 7) ∧ (∀ j, j ≠ k → laneOf t j = laneOf s j) ∧ onlyIn (.gr :: tells) s t)) ∧
    (∀ dirty : Nat, l.st = .transfer → l.joins = false → grLive s = true → forced s detStateTransferFailure (k + 1) = false →
      exec (.transferFinalPass lane dirty) s = .next (updLane k (fun l =>
        if dirty ≤ 262144 then { l with joins := true } else { l with tries := l.tries + 1 }) s)) ∧
    (l.st = .transfer → l.joins = false → 16 ≤ l.tries → s.gr.lanes.length = 3 → s.ev.injs = [] → ∃ t, exec (.transferTimeout lane) s = .next t ∧
      (laneOf t k).cause = 8 ∧ (laneOf t k).st = (if exclCount s k ≤ paramN s pGrReadmitLimit then LaneSt.excludedWait else LaneSt.heldOut) ∧
      onlyIn (.gr :: tells) s t) ∧
    (l.st = .transfer → l.tries < 16 → forced s detStateTransferFailure (k + 1) = false → exec (.transferTimeout lane) s = .next s) ∧
    (l.st = .excludedWait → elapsed s l.since 1000 = true → s.gr.running = true → paramN s pGrReadmitEnable ≠ 0 →
      exclCount s k ≤ paramN s pGrReadmitLimit →
      exec (.excludedWaitExpiry lane) s = .next (updLane k (fun l => { l with st := .selftest, since := s.clk.ms, inReset := true }) s)) ∧
    (l.st = .excludedWait → elapsed s l.since 1000 = false → exec (.excludedWaitExpiry lane) s = .next s) ∧
    (s.gr.lanes.length = 3 → s.gr.mode = .dual → l.st = .transfer → l.joins = true → (∀ j, j ≠ k → (laneOf s j).st ≠ .transfer) →
      (lanesJoin s).gr.mode = .triple ∧ (laneOf (lanesJoin s) k).st = .active ∧ (laneOf (lanesJoin s) k).lastJoin = s.clk.frame) ∧
    (s.gr.mode = .start → (∀ j < 3, (laneOf s j).joins = true) → (lanesStart s).gr.mode = .triple ∧ (lanesStart s).gr.running = true ∧
      (lanesStart s).gr.safeA = false ∧ (lanesStart s).gr.safeB = false ∧ (lanesStart s).an.gate = true)

/-! ### Quartz: impacts, taps and diagnosis -/

/-- A span of a listening channel ends in an impact that waits for classification with its features, or is counted UNKNOWN when it is the fifth of its
chain or the queue is full (R113 to R116); classification counts it GRAIN, MOG or UNKNOWN in the window of its report sample (R111, R117). Taps fall
due and start with 844 blind samples where R121 to R125 let them, their analysis gives the result of Table 4-8 and the calibration of R127; TEACH
sets the references (R129). DIAG runs 1,875 blind samples and decides between LISTEN and FAULT (R131 to R134). -/
def Obligations.QuartzChannelsAct : Prop :=
  ∀ (ch : Fin 32) (s : State),
    let c := qzChan s ch
    let only := onlyIn [.qz] s
    let others := fun (t : State) => ∀ k : Nat, k ≠ ch.val → qzChan t k = qzChan s k
    let at' := fun (t : State) => qzChan t ch
    s.qz.chans.length = 32 →
    (∀ (onset : Nat) (raw : List Int) (closed : Bool),
      let g := qzGain c.gain
      let x := raw.map (fun r => qzCalibrate (if c.inverted then -r else r) c.tap.gc g.1 g.2)
      let report := onset + raw.length + 24
      let weak := (x.take 3).any (fun v => decide (v.natAbs < paramN s (pQzThresh ch)))
      ((c.st ≠ .listen ∨ raw.length < 3 ∨ 128 < raw.length ∨ weak = true) → exec (.impactEnd ch onset raw closed) s = .next s) ∧
      (c.st = .listen → 3 ≤ raw.length → raw.length ≤ 128 → weak = false → ∃ t, exec (.impactEnd ch onset raw closed) s = .next t ∧
        (at' t).lastOnset = some s.clk.ms ∧ only t ∧ others t ∧
        (chainPlace c onset = none → c.queue.length < 96 →
          (at' t).queue = c.queue ++ [⟨qzFeatures x 0 c.tap.f, report, raw.any qzClipped⟩] ∧ (at' t).cur = c.cur ∧ (at' t).next = c.next ∧
            (at' t).chain = some ⟨onset, onset + peakIndex x, nth x (peakIndex x) 0, 0, false⟩) ∧
        (∀ k, chainPlace c onset = some k → k.full = true ∨ 3 ≤ k.place → (at' t).queue = c.queue ∧
          (report < s.qz.base + 1875 → (at' t).cur.unknown = c.cur.unknown + 1 ∧ (at' t).next = c.next) ∧
          (s.qz.base + 1875 ≤ report → (at' t).next.unknown = c.next.unknown + 1 ∧ (at' t).cur = c.cur)))) ∧
    (c.queue = [] → exec (.impactClassify ch) s = .next s) ∧
    (∀ i rest, c.queue = i :: rest → i.report < s.qz.base + 1875 →
      let k := qzClassify i.feats (cropTable s s.qz.crop)
      ∃ t, exec (.impactClassify ch) s = .next t ∧ (at' t).queue = rest ∧ only t ∧ others t ∧ (at' t).next = c.next ∧
        (at' t).cur.grain = c.cur.grain + (if k = 1 then 1 else 0) ∧ (at' t).cur.mog = c.cur.mog + (if k = 2 then 1 else 0) ∧
        (at' t).cur.unknown = c.cur.unknown + (if k = 0 then 1 else 0) ∧ (at' t).cur.blind = c.cur.blind) ∧
    (c.st = .listen → paramN s pQzTapEnable = 1 →
      (∀ l, c.tap.last = some l → c.tap.dueAt = none → l + paramN s pQzTapInterval ≤ s.clk.ms →
        exec (.tapDue ch) s = .next (updTap ch (fun t => { t with dueAt := some (l + paramN s pQzTapInterval) }) s)) ∧
      (∀ l, c.tap.last = some l → s.clk.ms < l + paramN s pQzTapInterval → exec (.tapDue ch) s = .next s) ∧
      (∀ l, c.tap.last = some l → l + 60000 ≤ s.clk.ms →
        exec (.tapForced ch) s = .next (updTap ch (fun t => { t with forced := true, dueAt := some (t.dueAt.getD s.clk.ms) }) s)) ∧
      (∀ l, c.tap.last = some l → s.clk.ms < l + 60000 → exec (.tapForced ch) s = .next s)) ∧
    (∀ (sample quiet : Nat) (spanOpen : Bool), sample < 1875 →
      (tapMayStart s ch quiet spanOpen = false → exec (.tapStart ch sample quiet spanOpen) s = .next s) ∧
      ((c.st ≠ .listen ∧ c.st ≠ .fault ∨ spanOpen = true ∨ s.an.rail < 40000 ∨ (∃ l, c.tap.last = some l ∧ s.clk.ms < l + 2000) ∨
          (∃ k ∈ s.qz.chans, k.st = .tap)) → tapMayStart s ch quiet spanOpen = false) ∧
      (c.st = .listen → c.tap.forced = true → spanOpen = false → c.tap.last = none → 40000 ≤ s.an.rail → reservoirReady s = true →
        (∀ k ∈ s.qz.chans, k.st ≠ .tap) → ∃ t, exec (.tapStart ch sample quiet spanOpen) s = .next t ∧ (at' t).st = .tap ∧ only t ∧ others t ∧
          (at' t).tap = { c.tap with
            last := some s.clk.ms, dueAt := none, forced := false, requested := false, deferred := false, analysis := true } ∧
          (at' t).cur.blind + (at' t).next.blind = c.cur.blind + c.next.blind + 844) ∧
      (diagMayStart s ch quiet spanOpen = false → exec (.diagStart ch sample quiet spanOpen) s = .next s) ∧
      (diagMayStart s ch quiet spanOpen = true → ∃ t, exec (.diagStart ch sample quiet spanOpen) s = .next t ∧ (at' t).st = .diag ∧
        (at' t).diagDue = false ∧ (at' t).diagReq = false ∧ (at' t).lastDiag = some s.clk.ms ∧ only t ∧ others t ∧
        (at' t).cur.blind + (at' t).next.blind = c.cur.blind + c.next.blind + 1875)) ∧
    ((c.st ≠ .tap → exec (.tapSequenceEnd ch) s = .next s) ∧
      (c.st = .tap → exec (.tapSequenceEnd ch) s = .next (updQz ch (fun c =>
        { c with st := if c.cause = 0 then .listen else .fault, tap := { c.tap with ended := some s.clk.ms } }) s))) ∧
    (∀ y : List Int, (c.tap.analysis = false → exec (.tapAnalysisDone ch y) s = .next s) ∧
      (c.tap.analysis = true → s.ev.injs = [] →
        let z := if c.inverted then y.map (fun v => -v) else y
        let ref := paramN s (pQzRefAmp ch)
        let res := tapResult z (ringNegative z) (ringAmp z) ref (paramN s pQzTapLevel) (paramN s pQzGcMin) (paramN s pQzGcMax)
        ∃ t, exec (.tapAnalysisDone ch y) s = .next t ∧ (at' t).tap.result = res ∧ (at' t).tap.analysis = false ∧
          (at' t).tap.noResp = (if res = 4 then c.tap.noResp + 1 else 0) ∧
          (at' t).tap.good = (if res = 1 then wrapU 16 (c.tap.good + 1) else c.tap.good) ∧
          (res ≠ 1 → (res ≠ 6 ∨ paramN s pQzSwapAuto ≠ 1) → (at' t).tap.nextCal = c.tap.nextCal) ∧
          (∀ f, res = 1 → ringFreq z = some f → (at' t).tap.nextCal =
            some (calUpdate c.tap.gc c.tap.f ref (ringAmp z) f (paramN s pQzTapLevel) (paramN s pQzCalSmooth))) ∧
          (c.st = .listen → res = 4 → 3 ≤ c.tap.noResp + 1 → (at' t).st = .fault ∧ (at' t).cause = 3) ∧
          (c.st = .listen → res = 6 → paramN s pQzSwapAuto ≠ 1 → (at' t).st = .fault ∧ (at' t).cause = 4) ∧
          (c.st = .listen → res = 1 → (at' t).st = .listen) ∧ others t ∧ onlyIn (.qz :: .free :: tells) s t)) ∧
    (∀ d, c.tap.dueAt = some d → c.tap.deferred = false → d + 60000 ≤ s.clk.ms → s.an.rail < 40000 → ∃ t, exec (.tapDeferral ch) s = .next t ∧
      (at' t).tap = { c.tap with deferred := true } ∧ t.qz.deferrals = wrapU 32 (s.qz.deferrals + 1) ∧ others t ∧ onlyIn (.qz :: tells) s t) ∧
    (c.tap.dueAt = none → exec (.tapDeferral ch) s = .next s) ∧
    (∀ g, c.st ≠ .off → c.tap.stale = false → c.tap.lastGood = some g → g + 1000 * paramN s pQzCalStale ≤ s.clk.ms →
      ∃ t, exec (.calibrationStale ch) s = .next t ∧ (at' t).tap = { c.tap with stale := true } ∧ others t ∧ onlyIn (.qz :: tells) s t) ∧
    (c.tap.stale = true → exec (.calibrationStale ch) s = .next s) ∧
    (c.tap.teach = none → exec (.teachDone ch) s = .next s) ∧
    (∀ u, c.tap.teach = some u →
      (u.done < 8 → exec (.teachDone ch) s = .next s) ∧
      (8 ≤ u.done → u.bad = true → exec (.teachDone ch) s = .next (updTap ch (fun x => { x with teach := none, teachFailed := true }) s)) ∧
      (8 ≤ u.done → u.bad = false → ∃ t, exec (.teachDone ch) s = .next t ∧ onlyIn [.pf, .qz] s t ∧ others t ∧
        (at' t).tap = { c.tap with teach := none, teachFailed := false, nextCal := some (65536, u.sumF / 8) } ∧
        t = writeSettings [(pQzRefAmp ch, (u.sumA / 8 : Nat)), (pQzRefFreq ch, (u.sumF / 8 : Nat))] { s with qz := t.qz })) ∧
    ((c.st ≠ .off → qzIdle s c = true → (∀ l, c.lastDiag = some l → l + 1000 * paramN s pQzDiagIdlePeriod ≤ s.clk.ms) →
        exec (.diagIdleDue ch) s = .next (updQz ch (fun c => { c with diagDue := true }) s)) ∧
      ((c.st = .off ∨ qzIdle s c = false) → exec (.diagIdleDue ch) s = .next s)) ∧
    (∀ vp vn vpn : Nat, (c.st ≠ .diag → exec (.diagSequenceEnd ch vp vn vpn) s = .next s) ∧
      (c.st = .diag → s.ev.injs = [] →
        let r := diagResult vp vn vpn
        ∃ t, exec (.diagSequenceEnd ch vp vn vpn) s = .next t ∧ (at' t).diagResult = r ∧ others t ∧ onlyIn (.qz :: tells) s t ∧
          (c.cause = 0 → (r = 1 ∨ r = 6) → (at' t).st = .listen ∧ (at' t).cause = 0) ∧
          (c.cause = 0 → r ≠ 1 → r ≠ 6 → (at' t).st = .fault ∧ (at' t).cause = 2) ∧
          (c.cause ≠ 0 → r = 1 → 1 ≤ c.diagPass → c.cause ≠ 4 → (at' t).st = .listen ∧ (at' t).cause = 0) ∧
          (c.cause ≠ 0 → r = 1 → c.diagPass = 0 → (at' t).st = .fault ∧ (at' t).diagPass = 1) ∧
          (c.cause ≠ 0 → r ≠ 1 → (at' t).st = .fault ∧ (at' t).diagPass = 0))) ∧
    (∀ mv : Int, (c.st ≠ .listen → exec (.asPinRangeFault ch mv) s = .next s) ∧
      (c.st = .listen → (mv < 500 ∨ 4500 < mv) → ∃ t, exec (.asPinRangeFault ch mv) s = .next t ∧ (at' t).st = .fault ∧ (at' t).cause = 1 ∧
        others t ∧ onlyIn (.qz :: tells) s t) ∧
      (c.st = .listen → 500 ≤ mv → mv ≤ 4500 → forced s detAsPinOutOfRange (ch + 1) = false → exec (.asPinRangeFault ch mv) s = .next s))

/-! ### Crop flow, yield, the optimizer and steering: what they do of themselves -/

/-- Live calibration settles, measures and rejects as Table 5-2 and R150 to R152 say, its gain and the slope limit going out as internal commands for two
frames on (R146, R156); the delay is estimated every 10 s of cutting and moves by 500 ms at most (R154, R155); a closed second becomes a record of
48 bytes in the open field (R160 to R164); the optimizer takes the steps of Table 5-3 (R157 to R159), and steering in GRACE for GN.STEER_GRACE frames
disengages (Table 8-7). -/
def Obligations.CropAndSteeringActOfThemselves : Prop :=
  ∀ s : State,
    let sent := fun (t : State) (code : Nat) (payload : Bytes) => ∃ u, t.mb.exch = s.mb.exch ++ [u] ∧ u.internal = true ∧ u.code = code ∧
      u.frame = s.clk.frame + 2 ∧ u.payload = payload ∧ u.session = 0
    let c := s.cf.cal
    let o := s.cf.opt
    (∀ role : Fin 3, (1000 ≤ (nth s.cf.groups role.val (groupCleared 0)).uncovered →
        exec (.lossGroupUncovered role) s = .next (beginCond detLossGroupUncovered (role.val + 1) 0 s)) ∧
      ((nth s.cf.groups role.val (groupCleared 0)).uncovered < 1000 → forced s detLossGroupUncovered (role.val + 1) = false →
        exec (.lossGroupUncovered role) s = .next s)) ∧
    (exec .liveCalSettleDone s = .next (if c.st = .settle ∧ c.since + 1000 * paramN s pCfCalSettle ≤ s.clk.ms then
      { s with cf := { s.cf with cal := { c with st := .measure, since := s.clk.ms, m0 := tankMean s, fsum := 0, crop := cropIdx s } } }
      else s)) ∧
    (c.st = .measure → elapsed s c.since (1000 * paramN s pCfCalInterval) = true → internalAllowed s = true → s.ev.injs = [] →
      (tankMean s - c.m0 < param s pCfCalMinGain → exec .liveCalIntervalEnd s = .next s) ∧
      (∀ gm, param s pCfCalMinGain ≤ tankMean s - c.m0 → calGain (flowGain s) (tankMean s - c.m0) c.fsum = some gm →
        ∃ t, exec .liveCalIntervalEnd s = .next t ∧ onlyIn [.mb, .cf] s t ∧
          t.cf.cal = { c with since := s.clk.ms, m0 := tankMean s, fsum := 0, accepted := wrapU 16 (c.accepted + 1), rejRow := 0 } ∧
          sent t cParamSet (u8 1 ++ zeros 3 ++ paramEntry (pCfFlowGain c.crop) (calSmooth (flowGain s) gm (paramN s pCfCalSmooth)))) ∧
      (param s pCfCalMinGain ≤ tankMean s - c.m0 → calGain (flowGain s) (tankMean s - c.m0) c.fsum = none →
        ∃ t, exec .liveCalIntervalEnd s = .next t ∧ onlyIn (.cf :: tells) s t ∧ t.mb.exch = s.mb.exch ∧
          t.cf.cal.rejected = wrapU 16 (c.rejected + 1) ∧ t.cf.cal.rejRow = (if c.rejRow + 1 = 3 then 0 else c.rejRow + 1) ∧
          t.cf.cal.accepted = c.accepted)) ∧
    (c.st = .measure → c.since + 4000 * paramN s pCfCalInterval ≤ s.clk.ms → ∃ t, exec .liveCalTimeout s = .next t ∧ t.cf.cal.st = .disarmed ∧
      t.cf.cal.rejected = wrapU 16 (c.rejected + 1) ∧ onlyIn (.cf :: tells) s t) ∧
    (c.st ≠ .measure → exec .liveCalTimeout s = .next s ∧ exec .liveCalIntervalEnd s = .next s) ∧
    (s.rs.supUp = true → cutting s = true → 10000 ≤ s.cf.estFrames → s.cf.flow10 ≠ [] →
      param s pCfFlowMin ≤ Int.tdiv s.cf.flow10.sum s.cf.flow10.length →
      ∃ t, exec .delayEstimate s = .next t ∧ t.cf.estFrames = 0 ∧ onlyIn (.cf :: tells) s t ∧ t.pf.work = s.pf.work ∧
        (t.cf.cutFrames ≠ s.cf.cutFrames → t.cf.cutFrames = 0)) ∧
    ((s.rs.supUp = false ∨ cutting s = false ∨ s.cf.estFrames < 10000) → exec .delayEstimate s = .next s) ∧
    (600000 ≤ s.cf.cutFrames → exec .delayNotEstimable s = .next (beginCond detDelayNotEstimable 0 0 s)) ∧
    (s.clk.frame % 1000 = 0 → internalAllowed s = true → gnssFresh s = false → ∃ t, exec .slopeLimitUpdate s = .next t ∧
      sent t cParamSet (u8 1 ++ zeros 3 ++ paramEntry pCfSlopeLimit (param s pCfSlopeVmin)) ∧ t.cf.slopeSum = 0 ∧ t.cf.slopeN = 0 ∧
      onlyIn [.mb, .cf] s t) ∧
    (s.clk.frame % 1000 ≠ 0 → exec .slopeLimitUpdate s = .next s) ∧
    (∀ cell : Fin 2, (sensOf s 6 (cell.val + 1)).isSome = true → 60000 ≤ nth s.cf.moistBad cell.val 0 →
      ∃ t, exec (.moistureCellInvalid cell) s = .next t ∧ isPresent t detMoistureCellInvalid (cell.val + 1) = true ∧ onlyIn tells s t) ∧
    (∀ a, s.cf.avg = some a → internalAllowed s = true →
      (((a.op = 1 ∧ 10000 ≤ a.frames) ∨ (a.op ≠ 1 ∧ 5000 ≤ a.frames)) → ∃ t, exec .calibrationAverageDone s = .next t ∧
        sent t cParamSet (u8 1 ++ zeros 3 ++ paramEntry (if a.op = 1 then pCfFlowZero else pCfTankTare) (Int.tdiv a.sum a.frames)) ∧
        t.cf = { s.cf with avg := none, lastOp := a.op, lastResult := 0, internal := wrapU 16 (s.cf.internal + 1) } ∧ onlyIn [.mb, .cf] s t) ∧
      (a.frames < 5000 → exec .calibrationAverageDone s = .next s)) ∧
    (s.cf.closedSecs = [] → exec .yieldRecordWrite s = .next s) ∧
    (∀ x rest f, s.cf.closedSecs = x :: rest → s.rs.supUp = true → s.ev.injs = [] → ownField s s.cf.openField = some f → recFits s = true →
      ∃ t, ∃ b : Bytes, exec .yieldRecordWrite s = .next t ∧ t.cf.closedSecs = rest ∧ t.cf.carry = (massOf x s.cf.carry).2 ∧ b.length = 48 ∧
        slice b 0 8 = u64 x.frame ∧ slice b 20 4 = leI 4 (massOf x s.cf.carry).1 ∧ slice b 46 2 = u16 (crc16 (b.take 46)) ∧
        (∃ g, ownField t s.cf.openField = some g ∧ g.recs = f.recs ++ [b] ∧ g.unflushed = f.unflushed + 1) ∧ onlyIn (.cf :: .free :: tells) s t) ∧
    (internalAllowed s = true → elapsed s o.since (1000 * paramN s pCfOptMeasure) = true → 0 < o.n →
      ((o.st = .off ∨ o.st = .settle ∨ o.st = .hold) → exec .optimizerWindowEnd s = .next s) ∧
      (o.st = .observe → optHeld s o.ptr = true → ∃ t, exec .optimizerWindowEnd s = .next t ∧ t.cf.opt.up = true ∧ t.cf.opt.since = s.clk.ms ∧
        (t.cf.opt.st = .observe ∨ t.cf.opt.st = .hold) ∧ onlyIn [.cf] s t) ∧
      (∀ v, o.st = .observe → optHeld s o.ptr = false → optMoves s o.ptr = true → hostPending s o.ptr = false →
        v = clampSp s o.ptr (if o.up then (fnOf s o.ptr).sp + optStep s o.ptr else (fnOf s o.ptr).sp - optStep s o.ptr) →
        clampSp s o.ptr ((fnOf s o.ptr).sp + optStep s o.ptr) ≠ (fnOf s o.ptr).sp →
        ∃ t, exec .optimizerWindowEnd s = .next t ∧ t.cf.opt.st = .settle ∧ t.cf.opt.orig = (fnOf s o.ptr).sp ∧ t.cf.opt.sent = v ∧
          t.cf.opt.base = windowCost s ∧ sent t cFunctionSet (u8 1 ++ zeros 3 ++ u8 o.ptr ++ zeros 3 ++ leI 4 v) ∧ onlyIn [.mb, .cf] s t) ∧
      (o.st = .measure → hostPending s o.ptr = false → (o.base * 97 < windowCost s * 100 ∨ atLimit s o.ptr o.sent = true) → o.up = true →
        ∃ t, exec .optimizerWindowEnd s = .next t ∧ t.cf.opt.st = .settle ∧ t.cf.opt.up = false ∧ t.cf.opt.orig = o.orig ∧
          t.cf.opt.sent = clampSp s o.ptr (o.orig - optStep s o.ptr) ∧ onlyIn [.mb, .cf] s t) ∧
      (o.st = .measure → hostPending s o.ptr = false → (o.base * 97 < windowCost s * 100 ∨ atLimit s o.ptr o.sent = true) → o.up = false →
        ∃ t, exec .optimizerWindowEnd s = .next t ∧ (t.cf.opt.st = .observe ∨ t.cf.opt.st = .hold) ∧ onlyIn [.mb, .cf] s t ∧
          sent t cFunctionSet (u8 1 ++ zeros 3 ++ u8 o.ptr ++ zeros 3 ++ leI 4 (clampSp s o.ptr o.orig)))) ∧
    (exec .optimizerSettleEnd s = .next (if o.st = .settle ∧ elapsed s o.since (1000 * settleTime s) = true ∧ steady s = true then
      { s with cf := { s.cf with opt := { o with st := .measure, since := s.clk.ms, sums := [0, 0, 0, 0], n := 0 } } } else s)) ∧
    (exec .optimizerHoldEnd s = .next (if o.st = .hold ∧ elapsed s o.since (10000 * paramN s pCfOptMeasure) = true then
      { s with cf := { s.cf with opt := { o with st := .observe, since := s.clk.ms, sums := [0, 0, 0, 0], n := 0 } } } else s)) ∧
    (∀ f : Fin 30, exec (.optimizerOperatorHoldEnd f) s = .next { s with cf := { s.cf with opt := { o with
      holds := o.holds.filter (fun h => !(h.1 == f.val + 1 && decide (h.2 ≤ s.clk.ms))) } } }) ∧
    (s.gn.steer.st = .grace → paramN s pGnSteerGrace ≤ s.gn.steer.frames → s.gr.fns.length = 30 → ∃ t, exec .steerGraceExpiry s = .next t ∧
      t.gn.steer = { s.gn.steer with st := .off, cause := 3, sp := 0, frames := 0 } ∧ (fnOf t 23).sp = 0 ∧ onlyIn (.gn :: .gr :: tells) s t) ∧
    ((s.gn.steer.st ≠ .grace ∨ s.gn.steer.frames < paramN s pGnSteerGrace) → exec .steerGraceExpiry s = .next s)

/-! ### The valve drive of itself -/

/-- A pulse starts at its boost-start instant as R178 to R181, R184 and R186 say, runs through PEAK, HOLD, RELEASE and OBSERVE at the instants and
currents of Table 6-2, and is reported with its timing (R182, R183, R185); deferral ends after 500 us in PULL_BAT (R186). Every 100 ms the hold-duty
window moves on (R184), and the converter follows its rail (R172). -/
def Obligations.ValvePulsesRun : Prop :=
  ∀ (ch : Fin 12) (us : Fin 1000) (s : State),
    let c := vdChan s ch
    let t0 := s.clk.ms * 1000 + us.val
    let away := fun (t : State) => ∀ j : Nat, j / 3 ≠ ch.val / 3 → vdChan t j = vdChan s j
    s.vd.chans.length = 12 → s.vd.banks.length = 4 → s.ev.injs = [] →
    (c.fire = none → exec (.boostStartInstant ch us) s = .next s) ∧
    (∀ f, c.fire = some f → t0 + c.openEst < f.tOn → exec (.boostStartInstant ch us) s = .next s) ∧
    (∀ f, c.fire = some f → f.tOn ≤ t0 + c.openEst → ∃ t, exec (.boostStartInstant ch us) s = .next t ∧ (vdChan t ch).fire = none ∧
      (∃ p, (vdChan t ch).pulse = some p ∧ p.fire = f ∧ p.instant = t0) ∧ onlyIn (.vd :: .free :: tells) s t ∧
      (∀ m, vdPartner s ch = some m → m ≠ ch.val → (vdChan t m).pulse = none) ∧
      (vdPartner s ch = none → c.pulse = none →
        (paramN s (pVdBoostEmax ch) ≤ boostEnergy c → (vdChan t ch).st = .pullBat ∧ (vdChan t ch).episode = true) ∧
        (boostEnergy c < paramN s (pVdBoostEmax ch) → (vdBank s (vdBankOf ch)).noBoost = true →
          (vdChan t ch).st = .pullBat ∧ (vdChan t ch).weak = wrapU 16 (c.weak + 1)) ∧
        (boostEnergy c < paramN s (pVdBoostEmax ch) → (vdBank s (vdBankOf ch)).noBoost = false → c.st ≠ .boost → c.st ≠ .pullBat →
          (vdChan t ch).st = (if boostAllowed s ch then VdSt.boost else VdSt.defer)) ∧ away t)) ∧
    (∀ p, c.pulse = some p →
      (∀ m : VdBoost,
        (m.ma < paramN s (pVdIPeak ch) → exec (.peakReached ch us m) s = .next s) ∧
        (paramN s (pVdIPeak ch) ≤ m.ma → c.st = .boost → p.startAt + 50 ≤ t0 → ∃ t, exec (.peakReached ch us m) s = .next t ∧
          (vdChan t ch).st = .peak ∧ (vdChan t ch).earlyRow = 0 ∧ (vdChan t ch).energyNow = c.energyNow + m.energy ∧
          (∃ q, (vdChan t ch).pulse = some q ∧ q.boostTime = t0 - p.startAt ∧ q.since = t0) ∧ away t ∧ onlyIn (.vd :: tells) s t) ∧
        (paramN s (pVdIPeak ch) ≤ m.ma → c.st = .boost → t0 < p.startAt + 50 → ∃ t, exec (.peakReached ch us m) s = .next t ∧
          (vdChan t ch).earlyRow = c.earlyRow + 1 ∧ ((vdChan t ch).st = if 8 ≤ c.earlyRow + 1 then VdSt.fault else VdSt.peak) ∧
          (8 ≤ c.earlyRow + 1 → (vdChan t ch).cause = 4) ∧ away t ∧ onlyIn (.vd :: tells) s t) ∧
        (c.st = .boost → t0 < p.startAt + paramN s (pVdBoostMax ch) → exec (.boostTimeout ch us m) s = .next s) ∧
        (c.st = .boost → p.startAt + paramN s (pVdBoostMax ch) ≤ t0 → ∃ t, exec (.boostTimeout ch us m) s = .next t ∧
          (500 ≤ m.ma → (vdChan t ch).st = .peak ∧ ∃ q, (vdChan t ch).pulse = some q ∧ q.timeout = true) ∧
          (m.ma < 500 → (vdChan t ch).st = .fault ∧ (vdChan t ch).cause = 1 ∧ (vdChan t ch).pulse = none) ∧ away t ∧ onlyIn (.vd :: tells) s t) ∧
        (∀ o, c.st = .pullBat → p.onAt = some o → t0 < o + 10000 → exec (.boostTimeout ch us m) s = .next s) ∧
        (∀ o, c.st = .pullBat → p.onAt = some o → o + 10000 ≤ t0 → ∃ t, exec (.boostTimeout ch us m) s = .next t ∧
          (vdChan t ch).st = (if 500 ≤ m.ma then VdSt.peak else VdSt.fault) ∧ away t ∧ onlyIn (.vd :: tells) s t)) ∧
      ((c.st ≠ .defer ∨ t0 < p.instant + 500) → exec (.deferTimeout ch us) s = .next s) ∧
      (c.st = .defer → p.instant + 500 ≤ t0 → ∃ t, exec (.deferTimeout ch us) s = .next t ∧ (vdChan t ch).st = .pullBat ∧
        (vdChan t ch).weak = wrapU 16 (c.weak + 1) ∧ (∃ q, (vdChan t ch).pulse = some q ∧ q.weak = true ∧ q.deferral = t0 - p.instant) ∧
        away t ∧ onlyIn (.vd :: tells) s t) ∧
      (∀ cur : List Int,
        ((c.st ≠ .peak ∨ t0 < p.since + paramN s (pVdTPeak ch)) → exec (.peakEnd ch us cur) s = .next s) ∧
        (c.st = .peak → p.since + paramN s (pVdTPeak ch) ≤ t0 → ∃ t, exec (.peakEnd ch us cur) s = .next t ∧
          (vdChan t ch).st = (if p.fire.tOff - c.closeEst ≤ t0 then VdSt.release else VdSt.hold) ∧
          (∃ q, (vdChan t ch).pulse = some q ∧ q.opening = (if p.seek then openingSample cur (paramN s (pVdDipThresh ch)) else none)) ∧
          away t ∧ onlyIn [.vd] s t)) ∧
      ((c.st ≠ .hold ∨ t0 < p.fire.tOff - c.closeEst) → exec (.releaseInstant ch us) s = .next s) ∧
      (c.st = .hold → p.fire.tOff - c.closeEst ≤ t0 → ∃ t, exec (.releaseInstant ch us) s = .next t ∧ (vdChan t ch).st = .release ∧
        (∃ q, (vdChan t ch).pulse = some q ∧ q.relAt = t0) ∧ away t ∧ onlyIn [.vd] s t) ∧
      (∀ volts : List Int,
        let seat := (closingSample volts (paramN s (pVdKinkThresh ch))).map (fun n => p.since - p.relAt + n)
        ((c.st ≠ .observe ∨ seat = none ∧ t0 < p.since + paramN s (pVdObserveMax ch)) → exec (.observeEnd ch us volts) s = .next s) ∧
        (c.st = .observe → (seat.isSome = true ∨ p.since + paramN s (pVdObserveMax ch) ≤ t0) → ∃ t, exec (.observeEnd ch us volts) s = .next t ∧
          (vdChan t ch).st = (if c.fire.isSome then VdSt.wait else VdSt.idle) ∧ (vdChan t ch).pulse = none ∧
          (vdChan t ch).pulses = wrapU 32 (c.pulses + 1) ∧ (vdChan t ch).noSeatRow = (if seat = none then c.noSeatRow + 1 else 0) ∧
          (∀ d, p.opening = some d → (vdChan t ch).openEst = timingUpdate c.openEst d (paramN s (pVdLead ch)) (paramN s pVdTimingSmooth)) ∧
          (∀ d, seat = some d → p.reduced = false →
            (vdChan t ch).closeEst = timingUpdate c.closeEst d (paramN s (pVdOnTime ch)) (paramN s pVdTimingSmooth)) ∧
          away t ∧ onlyIn (.vd :: .free :: tells) s t))) ∧
    (∀ ma : Nat, (c.st = .release → ma < 50 → ∃ t, exec (.releaseEnd ch us ma) s = .next t ∧ (vdChan t ch).st = .observe ∧ away t ∧ onlyIn [.vd] s t) ∧
      ((c.st ≠ .release ∨ 50 ≤ ma) → exec (.releaseEnd ch us ma) s = .next s)) ∧
    (s.clk.frame % 100 ≠ 0 → exec .holdDutyWindowStep s = .next s) ∧
    (s.clk.frame % 100 = 0 → ∃ t, exec .holdDutyWindowStep s = .next t ∧ (vdChan t ch).holdNow = 0 ∧
      (vdChan t ch).holds = pushRing 100 c.holds (accrue (usNow s 0) c).holdNow ∧ (vdChan t ch).st = c.st ∧
      (param s (pVdHoldDutyMax ch) < holdDuty (vdChan t ch) → (vdChan t ch).limited = true) ∧
      (holdDuty (vdChan t ch) ≤ param s (pVdHoldDutyMax ch) - 50 → (vdChan t ch).limited = false) ∧ onlyIn (.vd :: tells) s t) ∧
    (∀ mv : Nat, ∃ t, exec (.boostRailThreshold mv) s = .next t ∧ t.an = { s.an with rail := mv } ∧ t.vd.chans = s.vd.chans ∧
      t.vd.conv = s.vd.conv ∧ onlyIn [.vd, .an] s t ∧ (s.vd.conv = .regulating →
        (mv < 59000 → t.vd.charging = true) ∧ (60000 ≤ mv → t.vd.charging = false) ∧ (59000 ≤ mv → mv < 60000 → t.vd.charging = s.vd.charging)))

/-- A measurement that Table 6-6 names puts the channel, or its whole bank, into FAULT with its cause, and no other (R192); a bank short to VBAT
disables boost on it. The boost rail's detectors latch the converter or record what they see (R172), off-state diagnosis judges a resting
channel by its voltages (R194), and 20 K of cooling clears a thermal FAULT. -/
def Obligations.ValveFaultsAreDetected : Prop :=
  ∀ (ch : Fin 12) (us : Fin 1000) (s : State),
    let c := vdChan s ch
    let k := ch.val / 3
    let t0 := s.clk.ms * 1000 + us.val
    let away := fun (t : State) => ∀ j : Nat, j / 3 ≠ k → vdChan t j = vdChan s j
    let faulted := fun (t : State) (cause : Nat) => (vdChan t ch).st = .fault ∧ (vdChan t ch).cause = cause ∧ (vdChan t ch).pulse = none ∧
      (vdChan t ch).fire = none ∧ away t ∧ onlyIn (.vd :: tells) s t
    let bank := fun (t : State) => ∀ j : Nat, j / 3 = k → j ≠ ch.val → (vdChan t j).st = .fault ∧ (vdChan t j).cause = 5
    s.vd.chans.length = 12 → s.vd.banks.length = 4 → s.ev.injs = [] →
    (∀ ma : Nat,
      (15000 ≤ ma → ∃ t, exec (.valveFaultDetect ch us (.lowSide ma)) s = .next t ∧ faulted t (if (vdBank s k).on then 4 else 3) ∧
        isPresent t (if (vdBank s k).on then detCoilShort else detVlsShortToBattery) (ch.val + 1) = true) ∧
      (ma < 15000 → exec (.valveFaultDetect ch us (.lowSide ma)) s = .next s) ∧
      (30000 ≤ ma → ∃ t, exec (.valveFaultDetect ch us (.bank ma)) s = .next t ∧ faulted t 5 ∧ bank t ∧
        isPresent t detBankShortToGround (k + 1) = true) ∧
      (ma < 30000 → exec (.valveFaultDetect ch us (.bank ma)) s = .next s) ∧
      (∀ d : Nat, (1000 ≤ ma → 20 ≤ d → ∃ t, exec (.valveFaultDetect ch us (.bankExcess ma d)) s = .next t ∧ faulted t 2 ∧ bank t) ∧
        ((ma < 1000 ∨ d < 20) → exec (.valveFaultDetect ch us (.bankExcess ma d)) s = .next s))) ∧
    (∃ t, exec (.valveFaultDetect ch us .thermal) s = .next t ∧ faulted t 6) ∧
    (∀ mv : Nat, ((vdBank s k).on = true → exec (.valveFaultDetect ch us (.bankPin mv)) s = .next s) ∧
      ((vdBank s k).on = false → ∃ t, exec (.valveFaultDetect ch us (.bankPin mv)) s = .next t ∧ (vdBank t k).noBoost = decide (6000 < mv) ∧
        t.vd.chans = s.vd.chans ∧ isPresent t detBankShortToBattery (k + 1) = decide (6000 < mv) ∧ onlyIn (.vd :: tells) s t)) ∧
    (∀ ma sp ms : Nat, (c.st ≠ .regulate → exec (.valveFaultDetect ch us (.regulation ma sp ms)) s = .next s) ∧
      (c.st = .regulate → ∃ t, exec (.valveFaultDetect ch us (.regulation ma sp ms)) s = .next t ∧ onlyIn tells s t ∧
        (100 ≤ ms → sp / 5 + 100 < ((ma : Int) - sp).natAbs → isPresent t detCurrentRegulationError (ch.val + 1) = true))) ∧
    (∀ mv n : Nat,
      (66000 < mv → 10 ≤ n → ∃ t, exec (.boostOvervoltage mv n) s = .next t ∧ t.vd = { s.vd with conv := .latched, charging := false } ∧
        t.an = { s.an with rail := mv } ∧ isPresent t detBoostRailOvervoltage 0 = true ∧ onlyIn (.vd :: .an :: tells) s t) ∧
      ((mv ≤ 66000 ∨ n < 10) → exec (.boostOvervoltage mv n) s = .next s) ∧
      (∃ t, exec (.boostRailLow mv n) s = .next t ∧ t.an = { s.an with rail := mv } ∧ onlyIn (.an :: tells) s t ∧
        (mv < 40000 → 100 ≤ n → isPresent t detBoostRailBelow40V 0 = true) ∧ (40000 ≤ mv → isPresent t detBoostRailBelow40V 0 = false)) ∧
      (s.vd.conv = .regulating → elapsed s s.vd.convSince 200 = true → ∃ t, exec (.boostConverterSlow mv) s = .next t ∧ onlyIn tells s t ∧
        isPresent t detBoostConverterNotReaching55V 0 = (decide (mv < 55000) && !s.vd.reached)) ∧
      ((s.vd.conv ≠ .regulating ∨ elapsed s s.vd.convSince 200 = false) → exec (.boostConverterSlow mv) s = .next s)) ∧
    (∀ m : VdDiag,
      let looks := (vdBank s k).on = false ∧ (vdBank s k).offSince + 5000 ≤ t0 ∧ (c.st = .idle ∨ c.st = .off)
      (¬looks → exec (.vdOffstateDiag ch us m) s = .next (updVd ch (fun c => { c with diag := m }) s)) ∧
      (looks → ∃ t, exec (.vdOffstateDiag ch us m) s = .next t ∧ (vdChan t ch).diag = m ∧ (vdBank t k).noBoost = decide (6000 < m.vbkOff) ∧
        away t ∧ onlyIn (.vd :: tells) s t ∧ (vdDiagnose m = 0 → (vdChan t ch).st = c.st) ∧
        (vdDiagnose m ≠ 0 → (vdChan t ch).st = .fault ∧ (vdChan t ch).cause = vdDiagnose m) ∧ (vdDiagnose m = 2 → bank t))) ∧
    (∀ kelvin : Nat,
      (c.st = .fault → c.cause = 6 → 20 ≤ kelvin → ∃ t, exec (.lowSideThermalHysteresis ch kelvin) s = .next t ∧
        (vdChan t ch).st = (if vdMode s ch = 1 then VdSt.idle else VdSt.off) ∧ (vdChan t ch).cause = 0 ∧
        (∀ j, j ≠ ch.val → vdChan t j = vdChan s j) ∧ onlyIn (.vd :: tells) s t) ∧
      ((c.st ≠ .fault ∨ c.cause ≠ 6 ∨ kelvin < 20) → exec (.lowSideThermalHysteresis ch kelvin) s = .next s))

/-! ### The load switches of themselves -/

/-- A load switch enters and leaves current limit and the inrush window (R199, R203), tries its start-up again while its budget lasts (R201, R202),
shuts down thermally with its cause and cools (R204, R205), ends DEMAG and judges the clamp energy (R207 to R209), takes its duty at a PWM period
(R210), and is diagnosed off and on (R213). The 1 s means judge the dissipation, which sheds and restores channels (R214, R215), and ON_TEST is
answered after 20 ms (R217). -/
def Obligations.LoadSwitchesActOfThemselves : Prop :=
  ∀ (ch : Fin 24) (us : Fin 1000) (s : State),
    let c := lsChan s ch
    let t0 := s.clk.ms * 1000 + us.val
    let away := fun (t : State) => ∀ j : Nat, j ≠ ch.val → lsChan t j = lsChan s j
    let sees := onlyIn (.ls :: tells) s
    let started := fun (t : State) => (lsChan t ch).turnOns = wrapU 32 (c.turnOns + 1) ∧ (lsChan t ch).since = t0 ∧ (lsChan t ch).queued = false ∧
      (c.armed = true → (lsChan t ch).st = .start ∧ (lsChan t ch).retries = 8 ∧ (lsChan t ch).startup = true) ∧
      (c.armed = false → (lsChan t ch).st = .on ∧ (lsChan t ch).startup = false)
    s.ls.chans.length = 24 → s.ev.injs = [] →
    (exec (.inrushWindowEnd ch us) s = .next (updLs ch (fun c => if inInrush c t0 then c else { c with inrush := none }) s)) ∧
    (∀ ma : Nat,
      (ma ≤ lsLimit ch (inInrush c t0) → exec (.currentLimitEntry ch us ma) s = .next s) ∧
      (lsLimit ch (inInrush c t0) < ma → c.st = .on → ∃ t, exec (.currentLimitEntry ch us ma) s = .next t ∧
        lsChan t ch = { c with st := .limit, limitAt := some t0, ma := ma } ∧ away t ∧ sees t ∧
        (inInrush c t0 = false → isPresent t detOverCurrent (ch.val + 1) = true)) ∧
      (lsLimit ch (inInrush c t0) < ma → c.st = .start → exec (.currentLimitEntry ch us ma) s =
        .next (updLs ch (fun c => { c with limitAt := if c.limitAt.isSome then c.limitAt else some t0, ma := ma }) s)) ∧
      (ma < lsLimit ch (inInrush c t0) → c.st = .limit → c.limitAt.isSome = true → ∃ t, exec (.currentLimitExit ch us ma) s = .next t ∧
        lsChan t ch = { c with st := .on, limitAt := none, limitEnd := some t0, ma := ma } ∧
        isPresent t detOverCurrent (ch.val + 1) = false ∧ away t ∧ sees t) ∧
      ((lsLimit ch (inInrush c t0) ≤ ma ∨ c.limitAt = none) → exec (.currentLimitExit ch us ma) s = .next s)) ∧
    (∀ l, c.st = .start → c.limitAt = some l →
      (t0 < l + paramN s (pLsRetryOn ch) → exec (.startAttemptFail ch us) s = .next s) ∧
      (l + paramN s (pLsRetryOn ch) ≤ t0 → 0 < c.retries → exec (.startAttemptFail ch us) s =
        .next (updLs ch (fun c => { c with st := .retryWait, applied := 0, limitAt := none }) s)) ∧
      (l + paramN s (pLsRetryOn ch) ≤ t0 → c.retries = 0 → ∃ t, exec (.startAttemptFail ch us) s = .next t ∧ (lsChan t ch).st = .latched ∧
        (lsChan t ch).cause = 3 ∧ isPresent t detRetriesExhausted (ch.val + 1) = true ∧ away t ∧ sees t)) ∧
    ((c.st ≠ .start ∨ c.limitAt = none) → exec (.startAttemptFail ch us) s = .next s) ∧
    ((c.st ≠ .start ∨ t0 < c.since + 10000) → exec (.startAttemptSuccess ch us) s = .next s) ∧
    (c.st = .start → c.since + 10000 ≤ t0 → exec (.startAttemptSuccess ch us) s =
      .next (updLs ch (fun c => { c with st := if c.limitAt.isSome then .limit else .on, startup := false }) s)) ∧
    (∀ tj : Int,
      (c.st = .retryWait → c.since + 10000 ≤ t0 → tj ≤ 1550 → lsGate s ch = true → ∃ t, exec (.retryWaitEnd ch us tj) s = .next t ∧
        (lsChan t ch).st = .start ∧ (lsChan t ch).retries = c.retries - 1 ∧ (lsChan t ch).since = t0 ∧ (lsChan t ch).hot = false ∧
        away t ∧ onlyIn [.ls] s t) ∧
      ((c.st ≠ .retryWait ∨ t0 < c.since + 10000 ∨ 1550 < tj) → exec (.retryWaitEnd ch us tj) s = .next s) ∧
      (tj < (if s.rs.consTrim then 1650 else 1750) → exec (.lsThermalShutdown ch us tj) s = .next s) ∧
      ((if s.rs.consTrim then 1650 else 1750) ≤ tj → ∃ t, exec (.lsThermalShutdown ch us tj) s = .next t ∧ away t ∧ sees t ∧
        (lsChan t ch).hot = true ∧ (lsChan t ch).shutdowns = wrapU 16 (c.shutdowns + 1) ∧ (lsChan t ch).applied = 0 ∧
        ((c.st = .on ∨ c.st = .limit) → limitedLately c t0 = true → (lsChan t ch).st = .latched ∧ (lsChan t ch).cause = 1 ∧
          isPresent t detThermalShutdown (ch.val + 1) = true) ∧
        ((c.st = .on ∨ c.st = .limit) → limitedLately c t0 = false → isPresent t detCoupledShutdown (ch.val + 1) = true ∧
          ((c.coupled.filter (fun x => decide (s.clk.ms < x + 60000))).length < 3 → (lsChan t ch).st = .cool) ∧
          (3 ≤ (c.coupled.filter (fun x => decide (s.clk.ms < x + 60000))).length → (lsChan t ch).st = .latched ∧ (lsChan t ch).cause = 2)) ∧
        (c.st = .start → (lsChan t ch).st = (if c.retries = 0 then LsSt.latched else LsSt.retryWait))) ∧
      (1550 < tj → exec (.lsJunctionCooled ch us tj) s = .next s) ∧
      (tj ≤ 1550 → c.st ≠ .cool → exec (.lsJunctionCooled ch us tj) s = .next (updLs ch (fun c => { c with hot := false, tj := tj }) s)) ∧
      (tj ≤ 1550 → c.st = .cool → ∃ t, exec (.lsJunctionCooled ch us tj) s = .next t ∧ away t ∧ sees t ∧ (lsChan t ch).hot = false ∧
        isPresent t detCoupledShutdown (ch.val + 1) = false ∧
        ((c.req = true ∧ lsGate s ch = true) → (lsChan t ch).st = .on ∧ (lsChan t ch).turnOns = wrapU 32 (c.turnOns + 1)) ∧
        ((c.req = false ∨ lsGate s ch = false) → (lsChan t ch).st = .off))) ∧
    (∀ (out : Int) (ma clamp : Nat),
      ((c.st ≠ .demag ∨ out ≤ -1000 ∨ 50 ≤ ma) → exec (.demagEnd ch us out ma clamp) s = .next s) ∧
      (c.st = .demag → -1000 < out → ma < 50 → ∃ t, exec (.demagEnd ch us out ma clamp) s = .next t ∧ away t ∧ sees t ∧
        (lsChan t ch).demagUs = satU 16 (t0 - c.since) ∧ (lsChan t ch).clampMj = satU 16 clamp ∧ t.ls.clampNow = s.ls.clampNow + clamp ∧
        (c.queued = true → lsGate s ch = true → started t) ∧
        (c.queued = false → (lsChan t ch).st = (if c.toShed then LsSt.shed else LsSt.off)) ∧
        ((lsClampRating ch : Int) * (1750 - c.tjOff) ≥ clamp * 1500 → t.ev = s.ev))) ∧
    (lsPwm s ch = true → (c.st = .on ∨ c.st = .limit ∨ c.st = .start) → ∃ t, exec (.lsPwmPeriodStart ch us) s = .next t ∧
      lsChan t ch = { c with
        applied := c.duty
        edge := false
        inrush := if c.edge then some (t0 + 1000 * paramN s (pLsInrush ch)) else c.inrush } ∧ away t ∧ onlyIn [.ls] s t) ∧
    (lsPwm s ch = false → exec (.lsPwmPeriodStart ch us) s = .next s) ∧
    (∀ v1 v2 : Nat,
      ((c.st ≠ .off ∨ paramN s (pLsOffdiag ch) ≠ 1) →
        exec (.lsOffstateDiag ch v1 v2) s = .next (updLs ch (fun c => { c with v1 := v1, v2 := v2 }) s)) ∧
      (c.st = .off → paramN s (pLsOffdiag ch) = 1 → ∃ t, exec (.lsOffstateDiag ch v1 v2) s = .next t ∧ away t ∧ sees t ∧
        lsChan t ch = { c with v1 := v1, v2 := v2, openLoad := decide (lsDiagnose v1 v2 ≠ 0), cause := lsDiagnose v1 v2 } ∧
        isPresent t detOutputShortToBattery (ch.val + 1) = decide (1500 < v1) ∧
        isPresent t detOpenLoadOffState (ch.val + 1) = (decide (v1 ≤ 1500) && decide (3500 < v2)))) ∧
    (∀ ma ms : Nat,
      (c.st ≠ .on → exec (.lsOpenLoadOnstate ch ma ms) s = .next s) ∧
      (c.st = .on → ma < 50 → paramN s (pLsOlTime ch) ≤ ms → ∃ t, exec (.lsOpenLoadOnstate ch ma ms) s = .next t ∧ away t ∧ sees t ∧
        lsChan t ch = { c with openLoad := true, cause := 4 } ∧ isPresent t detOpenLoadOnState (ch.val + 1) = true) ∧
      (c.st = .on → 50 ≤ ma → c.cause = 4 → ∃ t, exec (.lsOpenLoadOnstate ch ma ms) s = .next t ∧ away t ∧ sees t ∧
        lsChan t ch = { c with openLoad := false, cause := 0 } ∧ isPresent t detOpenLoadOnState (ch.val + 1) = false)) ∧
    (∀ m : LsSample,
      let tot := ((List.range 24).map (lsPower s m)).sum + m.valves + 1000 * s.ls.clampNow
      let mean := mean1s (pushRing 1000 s.ls.mw tot)
      ∃ t, exec (.dissipationEstimate m) s = .next t ∧ sees t ∧ t.ls.mw = pushRing 1000 s.ls.mw tot ∧ t.ls.clampNow = 0 ∧
        t.ls.vbatMa = pushRing 1000 s.ls.vbatMa m.vbatMa ∧ (lsChan t ch).st = c.st ∧ (lsChan t ch).ma = nth m.ma ch.val c.ma ∧
        (t.ls.above.isSome = decide (16000 < mean)) ∧ (t.ls.below.isSome = decide (mean ≤ 14000)) ∧
        isPresent t detAggregateVbatCurrent 0 = decide (140000 < mean1s (pushRing 1000 s.ls.vbatMa m.vbatMa)) ∧
        isPresent t detLoadAboveRating (ch.val + 1) = decide (lsNominal ch < mean1s (pushRing 1000 c.mas (nth m.ma ch.val c.ma)))) ∧
    ((mean1s s.ls.mw ≤ 16000 ∨ elapsed s s.ls.lastStep 10 = false ∨ shedPick s = none) → exec .loadShed s = .next s) ∧
    (16000 < mean1s s.ls.mw → elapsed s s.ls.lastStep 10 = true → shedPick s = some ch.val → ∃ t, exec .loadShed s = .next t ∧ away t ∧ sees t ∧
      (lsChan t ch).st = .demag ∧ (lsChan t ch).toShed = true ∧ t.ls.shed = s.ls.shed ++ [ch.val] ∧ t.ls.lastStep = s.clk.ms) ∧
    (∀ b, s.ls.below = some b → s.ls.shed.getLast? = some ch.val →
      ((elapsed s b 500 = false ∨ elapsed s s.ls.lastStep 100 = false) → exec .loadRestore s = .next s) ∧
      (elapsed s b 500 = true → elapsed s s.ls.lastStep 100 = true → ∃ t, exec .loadRestore s = .next t ∧ away t ∧ onlyIn [.ls] s t ∧
        t.ls.shed = s.ls.shed.dropLast ∧ t.ls.lastStep = s.clk.ms ∧
        (c.st = .shed → c.req = true → lsGate s ch = true → (lsChan t ch).st = .on) ∧ (c.st ≠ .shed → lsChan t ch = c))) ∧
    (∀ a, s.ls.above = some a → 16000 < mean1s s.ls.mw → elapsed s a 1000 = true → shedPick s = none →
      exec .budgetExceeded s = .next (beginCond detOutputStageBudgetExceeded 0 (mean1s s.ls.mw) s)) ∧
    ((s.ls.above = none ∨ mean1s s.ls.mw ≤ 16000) → exec .budgetExceeded s = .next s) ∧
    (∀ peak : Nat, (c.test = none → exec (.onTestEnd ch us peak) s = .next s) ∧
      (∀ b, c.test = some b → t0 < b + 20000 → exec (.onTestEnd ch us peak) s = .next s) ∧
      (∀ b, c.test = some b → b + 20000 ≤ t0 → ∃ t, exec (.onTestEnd ch us peak) s = .next t ∧ away t ∧ sees t ∧
        (lsChan t ch).test = none ∧ (lsChan t ch).req = false ∧ (lsChan t ch).duty = 0 ∧ (∀ w ∈ t.mb.waiting, w.what ≠ .diag ch) ∧
        ((c.st = .on ∨ c.st = .limit) → (lsChan t ch).st = .demag)))

/-! ### The receiver and module time of themselves -/

/-- The antenna supervision of Table 8-1 (R221), the tracking and search of R223 to R225 (what a loop commands is free: log entry 3), interference
(R226, R227), stale corrections (R230), the epoch and its release eight frames on, never later (R228), dead reckoning and the inertial sensor
(R231, R232). -/
def Obligations.NavigationRuns : Prop :=
  ∀ s : State, s.ev.injs = [] → s.gn.ants.length = 2 →
    (∀ (ant : Fin 2) (ma mv : Nat),
      let a := antOf s ant
      let set := biasMv s ant
      let others := fun (t : State) => ∀ j : Nat, j ≠ ant.val → antOf t j = antOf s j
      let sees := onlyIn (.gn :: tells) s
      (∃ t, exec (.antennaBiasSample ant ma mv) s = .next t ∧ sees t ∧ others t ∧ (antOf t ant).ma = ma ∧ t.gn.time = s.gn.time ∧
        (set = 0 → (antOf t ant).st = .off) ∧
        (set ≠ 0 → (a.st = .ok ∨ a.st = .opened) → (120 < ma ∨ 10 * mv < 7 * set) → (antOf t ant).st = .short ∧
          (antOf t ant).since = s.clk.ms ∧ (∀ c ∈ t.gn.chans, c.ant ≠ ant.val) ∧ isPresent t detAntennaShort (ant.val + 1) = true) ∧
        (set ≠ 0 → a.st = .ok → ma ≤ 120 → 7 * set ≤ 10 * mv →
          (ma < 5 → 99 ≤ a.count → (antOf t ant).st = .opened ∧ isPresent t detAntennaOpen (ant.val + 1) = true) ∧
          (ma < 5 → a.count < 99 → (antOf t ant).st = .ok ∧ (antOf t ant).count = a.count + 1) ∧
          (5 ≤ ma → (antOf t ant).st = .ok ∧ (antOf t ant).count = 0)) ∧
        (set ≠ 0 → a.st = .off → (antOf t ant).st = .ok) ∧ (set ≠ 0 → a.st = .short → a.trial = 0 → (antOf t ant).st = .short)) ∧
      (a.st = .short → a.since + 10000 ≤ s.clk.ms → ∃ t, exec (.antennaShortRetry ant) s = .next t ∧ 0 < (antOf t ant).trial ∧
        (antOf t ant).st = .short ∧ others t ∧ onlyIn [.gn] s t) ∧
      ((a.st ≠ .short ∨ s.clk.ms < a.since + 10000) → exec (.antennaShortRetry ant) s = .next s) ∧
      (∀ ms : Nat,
        (set + 1000 ≤ mv → ∃ t, exec (.antennaOvervoltage ant mv ms) s = .next t ∧ (antOf t ant).st = .overvolt ∧
          (∀ c ∈ t.gn.chans, c.ant ≠ ant.val) ∧ isPresent t detAntennaOvervoltage (ant.val + 1) = true ∧ others t ∧ sees t) ∧
        (mv ≤ set → 1000 ≤ ms → a.st = .overvolt → ∃ t, exec (.antennaOvervoltage ant mv ms) s = .next t ∧
          (antOf t ant).st = (if set = 0 then AntSt.off else AntSt.ok) ∧ isPresent t detAntennaOvervoltage (ant.val + 1) = false ∧ others t ∧ sees t) ∧
        (mv < set + 1000 → (a.st ≠ .overvolt ∨ set < mv ∨ ms < 1000) → exec (.antennaOvervoltage ant mv ms) s = .next s))) ∧
    (∀ (ch : Fin 128) (synced : Bool),
      (s.gn.chans.length ≤ ch.val → exec (.trackingLoopUpdate ch synced) s = .next s) ∧
      (∀ c, s.gn.chans[ch.val]? = some c → ∃ t, exec (.trackingLoopUpdate ch synced) s = .next t ∧ onlyIn [.gn, .free] s t ∧
        (∃ d, t.gn.chans[ch.val]? = some d ∧ d.synced = synced ∧ d.ant = c.ant ∧ d.sys = c.sys ∧ d.sat = c.sat ∧ d.sig = c.sig) ∧
        (∀ k : Nat, k ≠ ch.val → t.gn.chans[k]? = s.gn.chans[k]?))) ∧
    (∀ cands : List SatCand, ∃ t, exec (.channelAllocation cands) s = .next t ∧ onlyIn [.gn] s t ∧ t.gn.cands = cands ∧ t.gn.chans.length ≤ 128 ∧
      (t.gn.chans.filter (fun c => c.ant == 0)).length ≤ min 128 (paramN s pGnChAntA) ∧
      (∀ k : Fin 2, (antOf s k).st ≠ .ok → ∀ c ∈ t.gn.chans, c.ant ≠ k.val)) ∧
    (∀ (eng : Fin 4) (ant : Fin 2) (sys sat : Nat) (e : SearchEng), s.gn.engines[eng.val]? = some e → e.target = some (ant.val, sys, sat) →
      (exec (.searchDwellDone eng ant sys sat false) s = .next { s with gn := { s.gn with
        engines := updAt s.gn.engines eng (fun _ => { e with confirming := false, cell := e.cell + 1 }) } }) ∧
      (e.confirming = false → exec (.searchDwellDone eng ant sys sat true) s = .next { s with gn := { s.gn with
        engines := updAt s.gn.engines eng (fun _ => { e with confirming := true }) } }) ∧
      (e.confirming = true → (antOf s ant).st = .ok → (s.gn.chans.filter (fun c => c.ant == ant.val)).length <
          (if ant.val = 0 then min 128 (paramN s pGnChAntA) else 128 - min 128 (paramN s pGnChAntA)) →
        ∃ t, exec (.searchDwellDone eng ant sys sat true) s = .next t ∧ onlyIn [.gn] s t ∧
          t.gn.chans = s.gn.chans ++ [⟨ant, sys, sat, 0, false, 0, 0⟩])) ∧
    (∀ (path : Fin 4) (lines : List (Int × Nat)) (agc : Int) (p : BandPath), s.gn.paths[path.val]? = some p →
      let ns := notchStep lines (paramN s pGnNotchThresh) p.notches
      ∃ t, exec (.notchMonitor path lines agc) s = .next t ∧ onlyIn (.gn :: tells) s t ∧
        (∃ q, t.gn.paths[path.val]? = some q ∧ q.notches = ns.1 ∧ q.full = ns.2 ∧ q.j = jamIndex agc ns.1.length ∧
          (paramN s pGnJamThresh ≤ q.j → q.high = p.high + 1 ∧ q.low = 0) ∧ (q.j < paramN s pGnJamThresh → q.high = 0 ∧ q.low = p.low + 1) ∧
          (50 ≤ q.high → q.jammed = true) ∧ (50 ≤ q.low → q.jammed = false)) ∧
        isPresent t detJamming 0 = jammed t) ∧
    (∀ l, s.gn.rtcm.lastMsm = some l →
      (l + paramN s pGnRtkAgeMax ≤ s.clk.ms → ∃ t, exec .correctionsStale s = .next t ∧ t.gn.rtcm = { s.gn.rtcm with stale := true } ∧
        isPresent t detCorrectionsStale 0 = true ∧ onlyIn (.gn :: tells) s t) ∧
      (s.clk.ms < l + paramN s pGnRtkAgeMax → exec .correctionsStale s = .next s)) ∧
    (∀ fix : NavFix,
      ((s.clk.frame % 10 ≠ 0 ∨ s.rs.supUp = false) → exec (.navEpoch fix) s = .next s) ∧
      (s.clk.frame % 10 = 0 → s.rs.supUp = true → ∃ t, exec (.navEpoch fix) s = .next t ∧ t.gn.epoch = some (s.clk.frame, fix) ∧
        t.gn.part = s.gn.part ∧ t.gn.time.leap = fix.leap ∧ onlyIn (.clk :: .gn :: .free :: tells) s t ∧
        ((fix.timeSats < 4 ∨ paramN s pGnTimeAccept < fix.timeUnc) → t.gn.time = { s.gn.time with leap := fix.leap }) ∧
        (4 ≤ fix.timeSats → fix.timeUnc ≤ paramN s pGnTimeAccept → t.gn.time.lastAccept = some s.clk.ms ∧ t.gn.time.source = 1 ∧
          t.gn.time.meas = 100 * (fix.grid - cableDelay s)))) ∧
    (s.gn.epoch = none → exec .navSolutionRelease s = .next s) ∧
    (∀ e f, s.gn.epoch = some (e, f) →
      (s.clk.frame + 1 < e + 8 → exec .navSolutionRelease s = .next s) ∧
      (e + 8 < s.clk.frame + 1 → exec .navSolutionRelease s = .next { s with gn := { s.gn with epoch := none } }) ∧
      (s.clk.frame + 1 = e + 8 → ∃ t, exec .navSolutionRelease s = .next t ∧ t.gn.epoch = none ∧ t.gn.part.epochFrame = e ∧
        t.gn.part.solSeq = wrapU 32 (s.gn.part.solSeq + 1) ∧ t.gn.part.type = releasedType s f ∧ t.gn.part.lat = f.lat ∧ t.gn.part.lon = f.lon ∧
        t.gn.part.heading = (headingOf s f).2.1 ∧ t.gn.part.imuSeq = s.gn.part.imuSeq ∧ onlyIn (.gn :: tells) s t)) ∧
    (∀ d, s.gn.drSince = some d → s.gn.part.type = 5 →
      (d + 1000 * paramN s pGnDrMax ≤ s.clk.ms → ∃ t, exec .deadReckoningLimit s = .next t ∧
        t.gn.part = { s.gn.part with type := 0, solSeq := wrapU 32 (s.gn.part.solSeq + 1) } ∧ isPresent t detDeadReckoningLimit 0 = true ∧
        onlyIn (.gn :: tells) s t) ∧
      (s.clk.ms < d + 1000 * paramN s pGnDrMax → exec .deadReckoningLimit s = .next s)) ∧
    (∀ d, s.gn.badBase = some d → (d + 10000 ≤ s.clk.ms → exec .baselineMismatch s = .next (beginCond detBaselineMismatch 0 s.gn.baseLen s)) ∧
      (s.clk.ms < d + 10000 → exec .baselineMismatch s = .next s)) ∧
    (s.gn.badBase = none → ∃ t, exec .baselineMismatch s = .next t ∧ isPresent t detBaselineMismatch 0 = false ∧ onlyIn tells s t) ∧
    (∀ (gyro acc : List Int) (yaw : Int), paramN s pGnImuOrient = 0 → ∃ t, exec (.imuSample gyro acc yaw) s = .next t ∧ onlyIn [.gn] s t ∧
      t.gn.part = { s.gn.part with
        imuSeq := wrapU 32 (s.gn.part.imuSeq + 1)
        gyro := List.zipWith (· - ·) gyro (s.gn.gyroBias ++ [0, 0, 0])
        accel := List.zipWith (· - ·) acc (s.gn.accBias ++ [0, 0, 0])
        yawRate := yaw } ∧ t.gn.raw = gyro ++ acc ∧ t.gn.imuTest = false) ∧
    (∀ failed : Bool,
      let bad := failed || s.gn.sat.any (fun n => decide (100 ≤ n)) || s.gn.same.any (fun n => decide (1000 ≤ n))
      ∃ t, exec (.inertialFault failed) s = .next t ∧ t.gn.imuOk = (!bad && s.gn.imuPassed && !failed) ∧ isPresent t detInertialFault 0 = bad ∧
        onlyIn (.gn :: tells) s t)

/-- Module time: two seconds without an accepted solution enter HOLDOVER (R237, Table 8-5); the reference's first solution fixes the renumbering D, which
may wait 60 s (R235); a pulse stands in every second that begins, and a step announced for it locks (R236, R237); an edge on PPSI is measured in
CLK_CTL cycles and, in mode 2 without GNSS, disciplines time, and three seconds without one are told (R240). -/
def Obligations.TimeIsKept : Prop :=
  ∀ s : State,
    let u := s.gn.time
    let sees := onlyIn (.gn :: tells) s
    s.ev.injs = [] →
    (∀ a, u.lastAccept = some a → (u.st = .locked ∨ u.st = .recovering) →
      (a + 2000 ≤ s.clk.ms → ∃ t, exec .timeHoldoverEntry s = .next t ∧ sees t ∧ isPresent t detHoldover 0 = true ∧
        t.gn.time = { u with st := .holdover, steer := 0, u0 := u.unc, df := max (paramN s pGnHoldFreqMin) u.freqUnc, since := s.clk.ms }) ∧
      (s.clk.ms < a + 2000 → exec .timeHoldoverEntry s = .next s)) ∧
    ((u.st ≠ .locked ∧ u.st ≠ .recovering) → exec .timeHoldoverEntry s = .next s) ∧
    (u.isRef = true → s.clk.established = false → u.lastAccept.isSome = true → u.renumber = none → u.slewing = false →
      exec .timeEstablish s = .next { s with gn := { s.gn with
        time := { u with renumber := some (divRound u.meas 100000000000), renumSince := s.clk.ms } } }) ∧
    ((u.isRef = false ∨ s.clk.established = true) → exec .timeEstablish s = .next s) ∧
    ((u.renumber.isSome = true ∧ u.renumSince + 60000 ≤ s.clk.ms) → exec .renumberWaitTimeout s = .next (beginCond detTimeNotEstablished 0 0 s)) ∧
    ((u.renumber = none ∨ s.clk.ms < u.renumSince + 60000) → exec .renumberWaitTimeout s = .next s) ∧
    (s.clk.frame % 1000 ≠ 0 → exec .ppsPulse s = .next s) ∧
    (s.clk.frame % 1000 = 0 → u.step = none → ∃ t, exec .ppsPulse s = .next t ∧ onlyIn [.gn] s t ∧ t.gn.time = { u with
      pulse := if pulseOn s u.st then some (s.clk.frame, (ppsPlace (Int.tdiv (u.held) 100) (param s pGnPpsDelay)).1,
        (ppsPlace (Int.tdiv (u.held) 100) (param s pGnPpsDelay)).2, paramN s pGnPpsWidth) else none }) ∧
    (∀ o, s.clk.frame % 1000 = 0 → u.step = some o → u.stepAt ≠ 0 → u.stepAt ≤ s.clk.frame → ∃ t, exec .ppsPulse s = .next t ∧ sees t ∧
      t.gn.time.st = .locked ∧ t.gn.time.held = u.meas ∧ t.gn.time.step = none ∧ t.gn.time.stepAt = 0 ∧ isPresent t detHoldover 0 = false ∧
      isPresent t detTimeDegraded 0 = false) ∧
    (∀ cycle : Nat,
      let at' : Int := ((cycle : Int) * 4 - (paramN s pGnPpsiDelay : Int) * 3) / 4
      (paramN s pGnPpsiMode = 0 → exec (.ppsiEdge cycle) s = .next s) ∧
      (paramN s pGnPpsiMode ≠ 0 → ∃ t, exec (.ppsiEdge cycle) s = .next t ∧ onlyIn (.clk :: .gn :: .free :: tells) s t ∧
        t.gn.time.ppsiFrame = ((s.clk.frame : Int) + at' / 750000).toNat ∧ t.gn.time.ppsiCycle = (at' % 750000).toNat ∧
        t.gn.time.ppsiAt = some s.clk.ms ∧ t.gn.time.ppsiSeen = true ∧ isPresent t detPpsiMissing 0 = false ∧
        (paramN s pGnPpsiMode ≠ 2 → t.gn.time.st = u.st ∧ t.gn.time.meas = u.meas ∧ t.clk = s.clk))) ∧
    (∀ a, u.ppsiAt = some a → u.ppsiSeen = true →
      (a + 3000 ≤ s.clk.ms → ∃ t, exec .ppsiMissing s = .next t ∧ t.gn.time = { u with ppsiSeen := false } ∧
        isPresent t detPpsiMissing 0 = true ∧ sees t) ∧
      (s.clk.ms < a + 3000 → exec .ppsiMissing s = .next s)) ∧
    (u.ppsiSeen = false → exec .ppsiMissing s = .next s)

/-! ### The fabric of itself -/

/-- LSAs, assignments and verdicts flood and are stored by their sequence, stamp and generation (R251 to R253, R266, R267, R274); HELLO keeps neighbours and
their loss is told (R250, R270); link delays are measured (R258); time of the reference is carried and renumbering made (R235, R259, R260); Cream
cells are sent in both copies, forwarded with one hop more and accepted once (R262 to R264). -/
def Obligations.FabricActs : Prop :=
  ∀ s : State, s.ev.injs = [] → s.fb.ports.length = 4 →
    let steady := s.fb.flooded.map lsaBody = some (lsaBody (ownLsa s))
    let all := [Part.fb, .mb, .pf, .ev, .gn, .out]
    let sees := fun (t : State) => onlyIn (.fb :: tells) s t
    (s.rs.supUp = false → exec .lsaFlood s = .next s) ∧
    (s.rs.supUp = true → steady → elapsed s s.fb.floodAt 1000 = false → exec .lsaFlood s = .next s) ∧
    (s.rs.supUp = true → steady → elapsed s s.fb.floodAt 1000 = true → ∃ t, exec .lsaFlood s = .next t ∧ t.fb.seq = wrapU 32 (s.fb.seq + 1) ∧
      t.fb.floodAt = s.clk.ms ∧ t.fb.flooded = some (ownLsa t) ∧ onlyIn [.fb] s t) ∧
    (s.rs.supUp = true → ¬steady → ∃ t, exec .lsaFlood s = .next t ∧ t.fb.flooded = some (ownLsa t) ∧ t.fb.floodAt = s.clk.ms ∧ onlyIn all s t) ∧
    (∀ (port : Fin 4) (m : Lsa),
      ((portOn s port.val = false ∨ m.uid = uid) → exec (.lsa port m) s = .next s) ∧
      (∀ e, portOn s port.val = true → m.uid ≠ uid → s.fb.db.find? (fun e => e.lsa.uid == m.uid) = some e →
        (m.seq ≤ e.lsa.seq → exec (.lsa port m) s = .next s) ∧
        (e.lsa.seq < m.seq → lsaBody e.lsa = lsaBody m → ∃ t, exec (.lsa port m) s = .next t ∧ onlyIn [.fb] s t ∧
          t.fb.db = s.fb.db.map (fun x => if x.lsa.uid = m.uid then ⟨m, s.clk.ms⟩ else x) ∧ t.fb.ports = s.fb.ports) ∧
        (e.lsa.seq < m.seq → lsaBody e.lsa ≠ lsaBody m → ∃ t, exec (.lsa port m) s = .next t ∧ onlyIn all s t ∧
          ∀ x ∈ t.fb.db, x ∈ s.fb.db ∨ x = ⟨m, s.clk.ms⟩)) ∧
      (portOn s port.val = true → m.uid ≠ uid → s.fb.db.find? (fun e => e.lsa.uid == m.uid) = none →
        (47 ≤ s.fb.db.length → exec (.lsa port m) s = .next (happen detDatabaseOverflow 0 0 s)) ∧
        (s.fb.db.length < 47 → ∃ t, exec (.lsa port m) s = .next t ∧ onlyIn all s t ∧ ∀ x ∈ t.fb.db, x ∈ s.fb.db ∨ x = ⟨m, s.clk.ms⟩))) ∧
    ((∀ e ∈ s.fb.db, s.clk.ms < e.at' + 3000) → exec .lsaExpiry s = .next s) ∧
    ((∃ e ∈ s.fb.db, e.at' + 3000 ≤ s.clk.ms) → ∃ t, exec .lsaExpiry s = .next t ∧ onlyIn all s t ∧
      ∀ e ∈ t.fb.db, e ∈ s.fb.db ∧ s.clk.ms < e.at' + 3000) ∧
    (∀ (port : Fin 4) (target node stamp : Nat),
      ((portOn s port.val = false ∨ 32 < node) → exec (.assign port target node stamp) s = .next s) ∧
      (portOn s port.val = true → node ≤ 32 → (∃ x, getKey target s.fb.assigns = some x ∧ stamp ≤ x) → steady →
        exec (.assign port target node stamp) s = .next s) ∧
      (portOn s port.val = true → 1 ≤ node → node ≤ 32 → target = uid → (∀ x, getKey target s.fb.assigns = some x → x < stamp) →
        ∃ t, exec (.assign port target node stamp) s = .next t ∧ myNode t = node ∧ t.fb.stamp = stamp ∧ t.fb.lost = false ∧
          (∀ x ∈ t.mb.sessions, x.binding.transport ≠ .fabric) ∧ onlyIn all s t)) ∧
    (∀ (port : Fin 4) (m : VerdictMsg),
      ((portOn s port.val = false ∨ m.gen ≤ (latestGen s).gen) → exec (.verdict port m) s = .next s) ∧
      (portOn s port.val = true → (latestGen s).gen < m.gen → ∃ t, exec (.verdict port m) s = .next t ∧ sees t ∧
        ∃ g, t.fb.waiting = s.fb.waiting ++ [g] ∧ g.gen = m.gen ∧ g.frame = m.frame ∧ g.cells = m.cells)) ∧
    ((∀ g ∈ s.fb.waiting, s.clk.frame < g.frame) → exec .verdictInForce s = .next s) ∧
    (∀ g, (s.fb.waiting.filter (fun g => decide (g.frame ≤ s.clk.frame))).getLast? = some g → exec .verdictInForce s = .next { s with fb := { s.fb with
      force := g, waiting := s.fb.waiting.filter (fun x => decide (s.clk.frame < x.frame)) } }) ∧
    (∀ port : Fin 4,
      let p := fbPort s port
      let live := portOn s port.val = true ∧ p.link = true
      let leaves := fun (m : FbMsg) => { s with fb := { s.fb with tx := s.fb.tx ++ [⟨port.val, m⟩] } }
      (live → exec (.helloSend port) s = .next (leaves (.hello uid (myNode s) port.val p.uid (paramN s (pFbLinkCost port.val))))) ∧
      (¬live → exec (.helloSend port) s = .next s) ∧
      (∀ sender node nport seen cost : Nat, (¬live → exec (.hello port sender node nport seen cost) s = .next s) ∧
        (live → myNode s ≠ 0 → (∀ e ∈ s.fb.db, e.lsa.uid ≠ uid) → ∃ t, exec (.hello port sender node nport seen cost) s = .next t ∧ onlyIn all s t ∧
          (fbPort t port).uid = sender ∧ (fbPort t port).node = node ∧ (fbPort t port).nport = nport ∧ (fbPort t port).last = s.clk.ms ∧
          (p.uid = sender → elapsed s p.last 30 = false → (fbPort t port).row = min 3 (p.row + 1)) ∧ (p.uid ≠ sender → (fbPort t port).row = 1) ∧
          (p.up = true → p.uid = sender → (fbPort t port).up = true) ∧
          (p.uid = sender → elapsed s p.last 30 = false → 2 ≤ p.row → seen = uid → (fbPort t port).up = true) ∧
          (p.uid ≠ sender → (fbPort t port).up = false))) ∧
      ((p.up = false ∨ s.clk.ms < p.last + 30) → exec (.neighbourTimeout port) s = .next s) ∧
      (p.up = true → p.last + 30 ≤ s.clk.ms → ∃ t, exec (.neighbourTimeout port) s = .next t ∧ (fbPort t port).up = false ∧ onlyIn all s t) ∧
      (p.link = false → exec (.linkDown port) s = .next s) ∧
      (p.link = true → ∃ t, exec (.linkDown port) s = .next t ∧ (fbPort t port).link = false ∧ (fbPort t port).up = false ∧
        isPresent t detLinkDown (port.val + 1) = true ∧ onlyIn all s t) ∧
      (portOn s port.val = false → exec (.linkUp port) s = .next s) ∧
      (portOn s port.val = true → ∃ t, exec (.linkUp port) s = .next t ∧ fbPort t port = { p with link := true, up := false, row := 0, lowSince := none } ∧
        isPresent t detLinkDown (port.val + 1) = false ∧ sees t) ∧
      (∀ sqi : Nat, (p.link = false → exec (.linkDegraded port sqi) s = .next s) ∧
        (p.link = true → ∃ t, exec (.linkDegraded port sqi) s = .next t ∧ (fbPort t port).sqi = min sqi 7 ∧ sees t ∧
          (paramN s pFbSqiMin ≤ min sqi 7 → (fbPort t port).lowSince = none ∧ isPresent t detLinkDegraded (port.val + 1) = false) ∧
          (∀ l, min sqi 7 < paramN s pFbSqiMin → p.lowSince = some l → (fbPort t port).lowSince = some l ∧
            (l + 1000 ≤ s.clk.ms → isPresent t detLinkDegraded (port.val + 1) = true)))) ∧
      (∀ r : Nat × Nat × Nat, live → exec (.delayReq port (some r)) s = .next (leaves (.delayResp r.1 r.2.1 r.2.2))) ∧
      (¬live → ∀ r, exec (.delayReq port r) s = .next s) ∧
      (live → ∃ t, exec (.delayReq port none) s = .next t ∧ (fbPort t port).reqId = wrapU 16 (p.reqId + 1) ∧ onlyIn [.fb] s t ∧
        t.fb.tx = s.fb.tx ++ [⟨port.val, .delayReq (wrapU 16 (p.reqId + 1))⟩]) ∧
      (∀ (id : Nat) (t1 t2 t3 t4 : Int), (live → p.reqId = id → exec (.delayResp port id t1 t2 t3 t4) s =
          .next (updPort port.val (fun p => { p with delays := pushRing 8 p.delays (Int.tdiv ((t4 - t1) - (t3 - t2)) 2) }) s)) ∧
        (p.reqId ≠ id → exec (.delayResp port id t1 t2 t3 t4) s = .next s)) ∧
      (∀ msg : Bytes,
        ((portOn s port.val = false ∨ s.fb.ref = uid ∨ msg.length ≠ 48) → exec (.time port msg) s = .next s) ∧
        (portOn s port.val = true → s.fb.ref ≠ uid → msg.length = 48 → (s.gn.time.refMsg = [] ∨ rdN s.gn.time.refMsg 0 8 < rdN msg 0 8) →
          ∃ t, exec (.time port msg) s = .next t ∧ t.gn.time.refMsg = msg ∧ t.gn.time.leap = rdN msg 31 1 ∧
            onlyIn (.clk :: .gn :: .fb :: .free :: tells) s t ∧
            ((s.gn.time.source ≠ 3 ∧ s.gn.time.st = .locked ∨ rdN msg 28 1 = 1) → t.gn.time = { s.gn.time with
              refMsg := msg, leap := rdN msg 31 1 } ∧ t.clk = s.clk) ∧
            (s.gn.time.source = 3 → rdN msg 28 1 ≠ 1 → t.gn.time.source = 3 ∧ t.gn.time.meas = 100 * (1000 * rdI msg 8 8) ∧
              t.gn.time.unc = satU 32 (rdN msg 20 4 + 1000)))) ∧
      (∀ (good : Bool) (src dst : Nat) (secondary : Bool) (p : Bytes),
        let go := exec (.creamCellReceive port good src dst secondary p) s
        (¬live → go = .next s) ∧
        (live → good = false → go = .next (updPort port.val (fun x => { x with fcs := satU 16 (x.fcs + 1) })
          { s with fb := { s.fb with framesBad := wrapU 32 (s.fb.framesBad + 1) } })) ∧
        (live → good = true → p.length ≠ 46 → go = .next { s with fb := { s.fb with framesBad := wrapU 32 (s.fb.framesBad + 1) } }) ∧
        (live → good = true → p.length = 46 → rdN p 0 1 = 1 → dst ≠ myNode s →
          (31 ≤ rdN p 2 1 % 32 → go = .next s) ∧
          (rdN p 2 1 % 32 < 31 → pathOf s src (rdN p 1 1 % 64) = none → go = .next s) ∧
          (∀ c, rdN p 2 1 % 32 < 31 → pathOf s src (rdN p 1 1 % 64) = some c → go = .next
            (sendCopy secondary (if secondary then c.secondary else c.primary) src dst (splice p 2 (u8 (rdN p 2 1 % 32 + 1))) s))) ∧
        (∀ e, live → good = true → p.length = 46 → rdN p 0 1 = 1 → dst = myNode s → dst ≠ 0 → shareEntries s 2 (rdN p 1 1 % 64) src = [e] →
          rdN p 3 1 = rdN e 1 1 + 1 → rdN p 6 2 = msetFold s.pf.work.machineSet →
          ((rdN p 4 2 ≠ creamFrame s % 65536 ∨ s.fb.rx.any (fun r => r.src == src && r.cell == rdN p 1 1 % 64) = true) →
            go = .next { s with fb := { s.fb with discarded := wrapU 32 (s.fb.discarded + 1) } }) ∧
          (rdN p 4 2 = creamFrame s % 65536 → s.fb.rx.any (fun r => r.src == src && r.cell == rdN p 1 1 % 64) = false →
            go = .next { s with fb := { s.fb with rx := s.fb.rx ++ [⟨src, rdN p 1 1 % 64, rdN p 8 2,
              (List.range (rdN e 1 1 + 1)).map (fun v => rdI p (10 + 4 * v) 4)⟩] } })))) ∧
    (∀ cell : Fin 64,
      ((creamOn s = false ∨ shareEntries s 1 cell.val 0 = []) → exec (.creamSend cell) s = .next s) ∧
      (∀ c, creamOn s = true → shareEntries s 1 cell.val 0 ≠ [] → pathOf s (myNode s) cell.val = some c → exec (.creamSend cell) s =
        .next (sendCopy true c.secondary (myNode s) c.dst (creamPayload s cell.val true)
          (sendCopy false c.primary (myNode s) c.dst (creamPayload s cell.val false) s))))

/-- Alignment (Table 9-2, R258, R259, R272): SYNC toward a follower is compared with its own boundary, and its state moves by the offset, the frame
difference and how long they have held; the reference sends SYNC on every port. Renumbering is made at once alone and announced 100 frames ahead over
the fabric (R235), and at frame S - 600 the message for second S is queued with what it announces (R237 to R239). -/
def Obligations.AlignmentAndTimeMessages : Prop :=
  ∀ s : State, s.ev.injs = [] →
    let within := fun (off d : Int) => off.natAbs ≤ 1000000 ∧ d = 0
    let all := [Part.fb, .mb, .pf, .ev, .gn, .out, .free]
    (∀ off d : Int,
      (s.fb.align = .unaligned → fnsIdle s = true → (alignOn off d s).fb.align = .aligning ∧ (alignOn off d s).fb.step = some d) ∧
      (s.fb.align = .unaligned → fnsIdle s = false → d ≠ 0 → (alignOn off d s).fb.align = .foreign ∧
        isPresent (alignOn off d s) detForeignGrid 0 = true) ∧
      (∀ i, s.fb.align = .aligning → within off d → s.fb.inSince = some i →
        (alignOn off d s).fb.align = (if i + 1000 ≤ s.clk.ms then AlignSt.aligned else AlignSt.aligning)) ∧
      (s.fb.align = .aligning → d ≠ 0 → fnsIdle s = true → (alignOn off d s).fb.align = .aligning ∧ (alignOn off d s).fb.step = some d ∧
        (alignOn off d s).fb.inSince = none) ∧
      (s.fb.align = .aligned → within off d → (alignOn off d s).fb = { s.fb with outSince := none }) ∧
      (∀ o, s.fb.align = .aligned → d ≠ 0 → s.fb.outSince = some o →
        (alignOn off d s).fb.align = (if o + 100 ≤ s.clk.ms then AlignSt.aligning else AlignSt.aligned)) ∧
      (s.fb.align = .syncHold → within off d → (alignOn off d s).fb.align = .aligned) ∧
      (s.fb.align = .foreign → fnsIdle s = false → alignOn off d s = s) ∧
      (s.fb.align = .foreign → fnsIdle s = true → (alignOn off d s).fb.align = .aligning ∧ isPresent (alignOn off d s) detForeignGrid 0 = false)) ∧
    (∀ (port : Fin 4) (m : SyncMsg) (rx : Int),
      ((portOn s port.val = false ∨ (fbPort s port.val).link = false) → exec (.sync port m rx) s = .next s) ∧
      (portOn s port.val = true → (fbPort s port.val).link = true →
        let x := meetRef m.ref s
        let heard := ¬(x.fb.ref = uid ∨ ((lsaOfUid (database x) x.fb.ref).map Lsa.node).getD 0 ≠ m.ref ∨ m.ref = 0 ∨ routePort x m.ref ≠ some port.val)
        (¬heard → exec (.sync port m rx) s = .next x) ∧
        (heard → ∃ t, exec (.sync port m rx) s = .next t ∧ t.fb.sync = some m ∧ t.fb.syncAt = s.clk.ms ∧ t.fb.syncPort = port.val ∧
          t.fb.offset = m.corr + m.delay + linkDelay x port.val - rx ∧ isPresent t detSyncLost 0 = false ∧ onlyIn all s t))) ∧
    (∀ (port : Fin 4) (corr : Int),
      (inRecovery s = true → exec (.syncSend port corr) s = .next s) ∧
      (inRecovery s = false → s.fb.ref = uid → exec (.syncSend port corr) s = .next (fbSend port.val (.sync ⟨myNode s, s.clk.frame, corr, 0,
        if s.fb.renumAt = 0 then 0 else s.gn.time.renumber.getD 0, s.fb.renumAt⟩) s)) ∧
      (∀ m, inRecovery s = false → s.fb.ref ≠ uid → s.fb.sync = some m → port.val ≠ s.fb.syncPort → elapsed s s.fb.syncAt 100 = false →
        exec (.syncSend port corr) s = .next (fbSend port.val
          (.sync { m with corr := m.corr + corr, delay := m.delay + linkDelay s s.fb.syncPort }) s)) ∧
      (s.fb.ref ≠ uid → s.fb.sync = none → exec (.syncSend port corr) s = .next s)) ∧
    (s.fb.ref = uid → exec .alignmentTimer s = .next s) ∧
    (s.fb.ref ≠ uid →
      ((s.fb.align = .aligned ∨ s.fb.align = .aligning) → elapsed s s.fb.syncAt 100 = true → ∃ t, exec .alignmentTimer s = .next t ∧
        t.fb = { s.fb with align := .syncHold, since := s.clk.ms, inSince := none, outSince := none } ∧ onlyIn [.fb] s t) ∧
      (s.fb.align = .syncHold → elapsed s s.fb.syncAt 10000 = true → ∃ t, exec .alignmentTimer s = .next t ∧ t.fb.align = .unaligned ∧
        isPresent t detSyncLost 0 = true ∧ onlyIn all s t) ∧
      (s.fb.align = .syncHold → elapsed s s.fb.syncAt 10000 = false → exec .alignmentTimer s = .next s) ∧
      (∀ i, s.fb.align = .aligning → elapsed s s.fb.syncAt 100 = false → s.fb.inSince = some i →
        (i + 1000 ≤ s.clk.ms → ∃ t, exec .alignmentTimer s = .next t ∧ t.fb.align = .aligned ∧ onlyIn [.fb] s t) ∧
        (s.clk.ms < i + 1000 → exec .alignmentTimer s = .next s))) ∧
    ((s.fb.ref = uid ∨ s.fb.ref = 0) →
      (s.gn.time.renumber = none → exec .frameRenumber s = .next s) ∧
      (∀ d, s.gn.time.renumber = some d → s.fb.renumAt = 0 →
        ((∃ l ∈ database s, bit l.flags 0 = true) → exec .frameRenumber s = .next s) ∧
        ((∀ l ∈ database s, bit l.flags 0 = false) → s.fb.ports.any FbPort.up = true →
          exec .frameRenumber s = .next { s with fb := { s.fb with renumAt := s.clk.frame + 100 } }) ∧
        ((∀ l ∈ database s, bit l.flags 0 = false) → s.fb.ports.any FbPort.up = false → ∃ t, exec .frameRenumber s = .next t ∧
          t.clk = { s.clk with frame := (s.clk.frame + d).toNat } ∧ t.gn.time.renumber = none ∧ t.gn.time.slewing = true ∧
          t.gr.next.frame = (s.gr.next.frame + d).toNat ∧ (t.mb.exch.map TCmd.frame) = s.mb.exch.map (fun c => ((c.frame : Int) + d).toNat) ∧
          isPresent t detTimeNotEstablished 0 = false ∧ onlyIn [.clk, .mb, .pf, .ev, .gr, .cf, .gn, .fb, .out] s t)) ∧
      (∀ d, s.gn.time.renumber = some d → s.fb.renumAt ≠ 0 →
        (s.clk.frame < s.fb.renumAt → exec .frameRenumber s = .next s) ∧
        (s.fb.renumAt ≤ s.clk.frame → ∃ t, exec .frameRenumber s = .next t ∧ t.clk.frame = (s.clk.frame + d).toNat ∧ t.fb.renumAt = 0))) ∧
    ((s.clk.frame % 1000 ≠ 400 ∨ s.rs.supUp = false) → exec .timeMessageQueue s = .next s) ∧
    (s.clk.frame % 1000 = 400 → s.rs.supUp = true → ∃ t, exec .timeMessageQueue s = .next t ∧ onlyIn (.gn :: .fb :: tells) s t ∧
      (s.gn.time.st = .locked → s.gn.time.step = none → t.gn.time = { s.gn.time with msg := timeMessage s (s.clk.frame + 600) 0 }) ∧
      (s.gn.time.st = .holdover → 1000 < timeUnc s .holdover 600 → t.gn.time.st = .degraded ∧ isPresent t detTimeDegraded 0 = true) ∧
      (∀ o, s.gn.time.step = some o → s.gn.time.stepAt = 0 → t.gn.time.stepAt = s.clk.frame + 1600))

/-! ### CAN of itself -/

/-- A CAN port leaves integration and bus-off for ERROR_ACTIVE (R289), counts what it sends and what fails (R280, R282, R283, R289, R290, R294), claims
its address after 250 ms without a winning contender (R291), reports a dominant input or bus (R294), and aborts a transfer that has not moved (R292). -/
def Obligations.CanPortsAct : Prop :=
  ∀ (port : Fin 4) (s : State),
    let p := port.val
    let x := canPort s p
    let others := fun (t : State) => ∀ k : Nat, k ≠ p → canPort t k = canPort s k
    let sees := fun (t : State) => others t ∧ onlyIn (.cn :: tells) s t
    s.cn.ports.length = 4 → s.ev.injs = [] →
    (x.claim = .claiming → x.claimSince + 250 ≤ s.clk.ms → exec (.addressClaimTimeout port) s = .next (updCan p (fun x => { x with claim := .claimed }) s)) ∧
    ((x.claim ≠ .claiming ∨ s.clk.ms < x.claimSince + 250) → exec (.addressClaimTimeout port) s = .next s) ∧
    (x.st ≠ .integrating → exec (.canIntegrationDone port) s = .next s) ∧
    (x.st = .integrating → ∃ t, exec (.canIntegrationDone port) s = .next t ∧ sees t ∧
      (canPort t p).st = (if paramN s (pCnMode p) = 2 then CtrlSt.listenOnly else CtrlSt.errorActive) ∧ isPresent t detBusDominant (p + 1) = false ∧
      (paramN s (pCnMode p) ≠ 2 → paramN s (pCnClaim p) = 1 → x.claim = .inactive → (canPort t p).claim ≠ .inactive)) ∧
    (x.st ≠ .busOff → exec (.canBusOffRecovery port) s = .next s) ∧
    (x.st = .busOff → ∃ t, exec (.canBusOffRecovery port) s = .next t ∧ sees t ∧ (canPort t p).st = .errorActive ∧ (canPort t p).txErr = 0 ∧
      (canPort t p).rxErr = 0 ∧ isPresent t detBusOff (p + 1) = false ∧ isPresent t detErrorPassive (p + 1) = false) ∧
    (∀ (buf : Fin 3) (delay : Nat) (e : CanErr),
      ((canSends s p = false ∨ nth x.bufs buf.val none = none) →
        exec (.canTxComplete port buf delay) s = .next s ∧ exec (.canTxError port buf e) s = .next s) ∧
      (∀ b, canSends s p = true → nth x.bufs buf.val none = some b →
        (∃ t, exec (.canTxComplete port buf delay) s = .next t ∧ sees t ∧ (canPort t p).sent = wrapU 32 (x.sent + 1) ∧
          (canPort t p).txErr = x.txErr - 1 ∧ (canPort t p).noAck = 0 ∧ (canPort t p).loopDelay = delay ∧
          (b.tx.handle ≠ 0 → t.cn.sentHandles = s.cn.sentHandles ++ [b.tx.handle]) ∧
          (b.tx.handle = 0 → t.cn.sentHandles = s.cn.sentHandles) ∧
          ((max (x.txErr - 1) x.rxErr < 128) → (canPort t p).st = .errorActive) ∧ isPresent t detNoAcknowledge (p + 1) = false) ∧
        (∃ t, exec (.canTxError port buf e) s = .next t ∧ sees t ∧ (canPort t p).sent = x.sent ∧ (canPort t p).txErr = txErrAfter x.st e x.txErr ∧
          (canPort t p).arbLosses = (if e = .arbLost then satU 16 (x.arbLosses + 1) else x.arbLosses) ∧
          (canPort t p).collisions = (if e = .bitError true then satU 16 (x.collisions + 1) else x.collisions) ∧
          (∀ d, e = .ackError d → (canPort t p).noAck = x.noAck + 1 ∧ (100 ≤ x.noAck + 1 → isPresent t detNoAcknowledge (p + 1) = true)) ∧
          (255 < txErrAfter x.st e x.txErr → (canPort t p).st = .busOff ∧ (canPort t p).busOffs = satU 16 (x.busOffs + 1)) ∧
          (128 ≤ txErrAfter x.st e x.txErr → txErrAfter x.st e x.txErr ≤ 255 → (canPort t p).st = .errorPassive)))) ∧
    (∀ (bus : Bool) (us : Nat),
      (x.st ≠ .disabled → 4000 < us → exec (.canDominantTimeout port bus us) s =
        .next (beginCond (if bus then detBusDominant else detDominantTimeOut) (p + 1) 0 s)) ∧
      ((x.st = .disabled ∨ us ≤ 4000) → exec (.canDominantTimeout port bus us) s = .next s)) ∧
    (∀ (peer : Nat) (out : Bool),
      (connOf s p peer out = none → exec (.transportTimeout port peer out) s = .next s) ∧
      (∀ c, connOf s p peer out = some c →
        (s.clk.ms < c.since + 1250 → exec (.transportTimeout port peer out) s = .next s) ∧
        (c.since + 1250 ≤ s.clk.ms → ∃ t, exec (.transportTimeout port peer out) s = .next t ∧ sees t ∧
          (canPort t p).aborts = satU 16 (x.aborts + 1) ∧
          t.mb.malformed = (if out then s.mb.malformed else wrapU 32 (s.mb.malformed + 1)))))

/-! ### Mica, storage and the recorder -/

/-- A bank cycle serves by R298 to R303: no address beyond 64 MB exists; a bank in RET or OFF reads as an error and discards writes (R301); a read
answers the 8-byte word and a write stores its bytes within the word and no others; a partial write occupies one further cycle (R300); of two masters
the promoted one wins, else the lower, the loser loses the cycle and is promoted at 64 (R300); port A of banks 0–3 never waits, and a clash makes
port B wait (R298). M0 reaches no other bank (R299). -/
def Obligations.BanksServeMasters : Prop :=
  ∀ (bank : Fin 64) (s : State),
    let b := bank.val
    let mine := fun (r : MicaReq) => r.addr / 1048576 = b ∧ r.master ≤ 8
    let stored := fun (r : MicaReq) (w : Bytes) (t : State) => ∀ a,
      readByte t.mc.mem a = if r.addr ≤ a ∧ a < r.addr + (w.take (8 - r.addr % 8)).length then nth w (a - r.addr) 0 else readByte s.mc.mem a
    let quiet := fun (t : State) => onlyIn [.mc] s t ∧ ∀ k : Nat, k ≠ b → bankOf t k = bankOf s k
    (∀ reqs, (∃ r ∈ reqs, 67108864 ≤ r.addr) → exec (.micaAccess bank reqs) s = .fault .outsideMica) ∧
    (s.mc.mem.wf = true → s.mc.banks.length = 64 → s.mc.promotions.length = 9 → s.ev.injs = [] →
      (∀ r, mine r → bankServes s b = false → exec (.micaAccess bank [r]) s = .next (happen detBankAccessError 0 (r.master + 256 * b)
        { s with mc := { s.mc with answers := [⟨r.master, zeros 8, true⟩] } })) ∧
      (bankServes s b = true →
        (∀ r, mine r → r.master = 0 → 4 ≤ b → (bankOf s b).busyB = 0 → exec (.micaAccess bank [r]) s = .next { s with mc := { s.mc with answers := [] } }) ∧
        (∀ r, mine r → ((r.master ≠ 0 ∧ (bankOf s b).busyB = 0) ∨ (r.master = 0 ∧ b < 4)) →
          (r.write = none → ∃ t, exec (.micaAccess bank [r]) s = .next t ∧ quiet t ∧ t.mc.mem = s.mc.mem ∧
            t.mc.answers = [⟨r.master, readBytes s.mc.mem (r.addr / 8 * 8) 8, false⟩] ∧
            t.mc.corrected = (if r.single then wrapU 32 (s.mc.corrected + 1) else s.mc.corrected) ∧
            (bankOf t b).corrected = (if r.single then satU 16 ((bankOf s b).corrected + 1) else (bankOf s b).corrected)) ∧
          (∀ w, r.write = some w → ∃ t, exec (.micaAccess bank [r]) s = .next t ∧ quiet t ∧ stored r w t ∧
            t.mc.answers = [⟨r.master, [], false⟩] ∧ t.mc.corrected = s.mc.corrected ∧
            (r.master ≠ 0 → (bankOf t b).busyB = if w.length < 8 then 1 else 0))) ∧
        (∀ r, mine r → r.master ≠ 0 → 0 < (bankOf s b).busyB → ∃ t, exec (.micaAccess bank [r]) s = .next t ∧ quiet t ∧
          t.mc.mem = s.mc.mem ∧ t.mc.answers = [] ∧ (bankOf t b).busyB = (bankOf s b).busyB - 1 ∧ lossOf t b r.master = lossOf s b r.master + 1) ∧
        (∀ r1 r2, mine r1 → mine r2 → 0 < r1.master → r1.master < r2.master → (bankOf s b).busyB = 0 →
          let first := 64 ≤ lossOf s b r1.master ∨ lossOf s b r2.master < 64
          ∃ t, exec (.micaAccess bank [r1, r2]) s = .next t ∧ quiet t ∧
            (first → t.mc.answers.map MicaAnswer.master = [r1.master] ∧ lossOf t b r1.master = 0 ∧
              lossOf t b r2.master = lossOf s b r2.master + 1 ∧
              nth t.mc.promotions r2.master 0 =
                (if lossOf s b r2.master = 63 then wrapU 32 (nth s.mc.promotions r2.master 0 + 1) else nth s.mc.promotions r2.master 0)) ∧
            (¬first → t.mc.answers.map MicaAnswer.master = [r2.master] ∧ lossOf t b r2.master = 0 ∧
              lossOf t b r1.master = lossOf s b r1.master + 1)) ∧
        (∀ r1 r2, mine r1 → mine r2 → r1.master = 0 → r2.master ≠ 0 → b < 4 → (bankOf s b).busyB = 0 →
          ∃ t, exec (.micaAccess bank [r1, r2]) s = .next t ∧ quiet t ∧
            (sameWord r1 r2 = true → t.mc.answers.map MicaAnswer.master = [0] ∧ lossOf t b r2.master = lossOf s b r2.master + 1) ∧
            (sameWord r1 r2 = false → t.mc.answers.map MicaAnswer.master = [0, r2.master] ∧ lossOf t b r2.master = 0))))

/-- An atomic operation of a master other than M0 returns the old value and leaves the sum or the swapped value, and nothing else in memory (R302);
banks change state by Table 11-3, OFF loses the content (R305); an uncorrectable error acts by Table 11-2 and is recorded with its address (R303);
the scrub goes through the ON banks in ascending order, a bank back from RET first (R304). -/
def Obligations.BanksKeepTheirContent : Prop :=
  (∀ (m : Fin 9) (op : MicaOp) (addr value : Nat) (s : State),
    let b := addr / 1048576
    let old := readBytes s.mc.mem addr (opWidth op)
    (67108864 ≤ addr → exec (.micaAtomic m op addr value) s = .fault .outsideMica) ∧
    (addr < 67108864 → (m.val = 0 ∨ addr % opWidth op ≠ 0) →
      exec (.micaAtomic m op addr value) s = .next { s with mc := { s.mc with answers := [⟨m.val, zeros (opWidth op), true⟩] } }) ∧
    (addr < 67108864 → m.val ≠ 0 → addr % opWidth op = 0 → bankServes s b = false → exec (.micaAtomic m op addr value) s =
      .next (happen detBankAccessError 0 (m.val + 256 * b) { s with mc := { s.mc with answers := [⟨m.val, zeros 8, true⟩] } })) ∧
    (addr < 67108864 → m.val ≠ 0 → addr % opWidth op = 0 → bankServes s b = true → s.mc.mem.wf = true → s.mc.banks.length = 64 →
      ∃ t, exec (.micaAtomic m op addr value) s = .next t ∧ onlyIn [.mc] s t ∧ t.mc.answers = [⟨m.val, old, false⟩] ∧
        readBytes t.mc.mem addr (opWidth op) = leN (opWidth op) (match op with
          | .add32 => (natOfLe old + value) % 2 ^ 32
          | .add64 => (natOfLe old + value) % 2 ^ 64
          | .swap32 => value % 2 ^ 32
          | .swap64 => value % 2 ^ 64) ∧
        (∀ a, (a < addr ∨ addr + opWidth op ≤ a) → readByte t.mc.mem a = readByte s.mc.mem a) ∧
        (bankOf t b).busyB = 1 ∧ lossOf t b m.val = 0 ∧ (∀ k : Nat, k ≠ b → bankOf t k = bankOf s k))) ∧
  (∀ (bank : Fin 64) (s : State), s.mc.banks.length = 64 →
    let b := bank.val
    let k := bankOf s b
    let others := fun (t : State) => onlyIn [.mc] s t ∧ { t.mc with mem := s.mc.mem, banks := s.mc.banks } = s.mc ∧
      t.mc.banks.length = 64 ∧ ∀ j : Nat, j ≠ b → bankOf t j = bankOf s j
    (k.st = .on → ∃ t, exec (.bankPowerRequest bank .ret) s = .next t ∧ others t ∧ bankOf t b = { k with st := .ret } ∧ t.mc.mem = s.mc.mem) ∧
    (k.st = .ret → ∃ t, exec (.bankPowerRequest bank .on) s = .next t ∧ others t ∧ bankOf t b = { k with st := .on, scrub := true } ∧
      t.mc.mem = s.mc.mem) ∧
    (k.st = .off → ∃ t, exec (.bankPowerRequest bank .on) s = .next t ∧ others t ∧ bankOf t b = { k with st := .on, ready := false } ∧
      t.mc.mem = s.mc.mem) ∧
    (k.st ≠ .off → ∃ t, exec (.bankPowerRequest bank .off) s = .next t ∧ others t ∧
      (bankOf t b).st = .off ∧ bankServes t b = false ∧ (∀ a, a / 1048576 = b → readByte t.mc.mem a = 0) ∧
      (∀ a, a / 1048576 ≠ b → readByte t.mc.mem a = readByte s.mc.mem a)) ∧
    (∀ st, (st = k.st ∨ (k.st = .off ∧ st = .ret)) → exec (.bankPowerRequest bank st) s = .next s) ∧
    (k.st = .on → ∃ t, exec (.bankZeroDone bank) s = .next t ∧ others t ∧ bankOf t b = { k with ready := true } ∧ t.mc.mem = s.mc.mem) ∧
    (k.st ≠ .on → exec (.bankZeroDone bank) s = .next s)) ∧
  (∀ (addr : Nat) (us : Fin 1000) (s : State),
    let b := addr / 1048576
    let s1 := { s with mc := { s.mc with
      uncorrectable := wrapU 32 (s.mc.uncorrectable + 1)
      badAddr := addr
      badFrame := s.clk.frame } }
    let rec' := happen detMicaUncorrectable 0 addr
    ((s.clk.running = false ∨ 67108864 ≤ addr ∨ (bankOf s b).st ≠ .on) → exec (.micaUncorrectable addr us) s = .next s) ∧
    (s.clk.running = true → addr < 67108864 → (bankOf s b).st = .on →
      (b < 4 → ∃ p t, p < 5 ∧ t.mc = { s1.mc with badPart := some p } ∧ onlyIn [.mc, .free] s t ∧ exec (.micaUncorrectable addr us) s = .next (rec' t)) ∧
      ((4 ≤ b ∧ b < 8) ∨ (16 ≤ b ∧ b < 32) → exec (.micaUncorrectable addr us) s = .next (rec' (assertSource 5 (sourceLevel s 5 2) us.val s1))) ∧
      (8 ≤ b → b < 12 → exec (.micaUncorrectable addr us) s = .next (rec' (softUnit 4 us.val s1))) ∧
      (12 ≤ b → b < 16 → exec (.micaUncorrectable addr us) s = .next (rec' (softUnit 5 us.val s1))) ∧
      (32 ≤ b → b < 48 → s.mc.ring = .capture → s.qz.cap.st = .running → s.mc.stagingWaits = false →
        exec (.micaUncorrectable addr us) s = .next (rec' { capturePreempt s1 with mc := { (capturePreempt s1).mc with
          ring := .free
          ringSince := s.clk.ms } })) ∧
      (32 ≤ b → b < 48 → s.mc.ring = .free → exec (.micaUncorrectable addr us) s = .next (rec' s1)) ∧
      (48 ≤ b → b < 56 → exec (.micaUncorrectable addr us) s = .next (rec' (lineLost s1))) ∧
      (56 ≤ b → b < 60 → exec (.micaUncorrectable addr us) s = .next (rec' (entryLost s1))) ∧
      (60 ≤ b → exec (.micaUncorrectable addr us) s = .next (rec' s1)))) ∧
  (∀ (n : Nat) (us : Fin 1000) (s : State), s.ev.injs = [] → s.mc.banks.length = 64 → s.mc.scrubAt < 1048576 →
    let l := s.mc.scrubAt
    let b := l / 16384
    ((s.clk.running = false ∨ ∀ k ∈ s.mc.banks, k.st ≠ .on) → exec (.scrubLine n false us) s = .next s) ∧
    (s.clk.running = true → (bankOf s b).st = .on → (∀ k ∈ s.mc.banks, k.scrub = false ∨ k.st ≠ .on) →
      ∃ t, exec (.scrubLine n false us) s = .next t ∧ onlyIn [.mc] s t ∧ t.mc.mem = s.mc.mem ∧
        t.mc.corrected = wrapU 32 (s.mc.corrected + min n 8) ∧ (bankOf t b).corrected = satU 16 ((bankOf s b).corrected + min n 8) ∧
        (∀ k : Nat, k ≠ b → bankOf t k = bankOf s k) ∧
        (l % 16384 ≠ 16383 → t.mc.scrubAt = l + 1 ∧ t.mc.lines = s.mc.lines + 1 ∧ t.mc.passAt = s.mc.passAt) ∧
        (l % 16384 = 16383 → b < 63 → (bankOf s (b + 1)).st = .on → t.mc.scrubAt = l + 1) ∧
        (l = 1048575 → (bankOf s 0).st = .on → t.mc.scrubAt = 0 ∧ t.mc.lines = 0 ∧ t.mc.passAt = s.clk.ms)) ∧
    (∀ j : Fin 64, s.clk.running = true → (bankOf s j.val).st = .on → (bankOf s j.val).scrub = true →
      (∀ i : Nat, i < j.val → (bankOf s i).scrub = false ∨ (bankOf s i).st ≠ .on) → b ≠ j.val →
      ∃ t, exec (.scrubLine n false us) s = .next t ∧ t.mc.scrubAt = 16384 * j.val + 1 ∧ (bankOf t j.val).scrub = true ∧
        (bankOf t j.val).corrected = satU 16 ((bankOf s j.val).corrected + min n 8)))

/-- Storage of itself: NAND writes end durable or are tried once more (R311), the shared ring rests and gives a finished capture up (R307, R136), map
records are flushed page by page and mirrored (R312, R314), and the background activities run, yield and are recorded when they starve (R308, R309,
R313). What the second failure of a profile write answers is a free value (log entry 3). -/
def Obligations.StorageActsOfItself : Prop :=
  ∀ s : State,
    (∀ (w : NandWrite),
      let s1 := { s with mc := { s.mc with failed := s.mc.failed.filter (fun x => x != w) } }
      (s.rs.supUp = false → ∀ ok, exec (.nandWriteDone w ok) s = .next s) ∧
      (s.rs.supUp = true →
        (w ∉ s.mc.failed → exec (.nandWriteDone w false) s = .next { s with mc := { s.mc with
          failed := s.mc.failed ++ [w]
          nandRetries := wrapU 32 (s.mc.nandRetries + 1) } }) ∧
        (w = .other → exec (.nandWriteDone w true) s = .next s1 ∧
          (w ∈ s.mc.failed → exec (.nandWriteDone w false) s = .next (happen detNandWriteFailure 0 0 s1))) ∧
        (w = .settings → exec (.nandWriteDone w true) s = .next { s1 with pf := { s1.pf with writes := s1.pf.writes.drop 1 } }) ∧
        (w = .page → w ∈ s.mc.failed → exec (.nandWriteDone w false) s =
          .next (happen detNandWriteFailure 0 0 { s1 with mc := { s1.mc with flight := none } })) ∧
        (w = .page → ∀ id n, s.mc.flight = some (id, n) → ∃ t, exec (.nandWriteDone w true) s = .next t ∧ t.mc.flight = none ∧
          t.mc.flushFrame = s.clk.frame ∧
          t.cf.fields = s.cf.fields.map (fun f => if f.id = id && !f.mirror then { f with unflushed := f.unflushed - n } else f) ∧
          (paramN s pMcMapMirror = 0 → t.mc.mirrorq = s.mc.mirrorq) ∧
          (∀ f, paramN s pMcMapMirror ≠ 0 → ownField s id = some f →
            t.mc.mirrorq = s.mc.mirrorq ++ [(id, f.recs.length - f.unflushed, n)])))) ∧
    (s.mc.ring = .free → s.mc.banks.length = 64 →
      (s.clk.ms < s.mc.ringSince + 10000 → exec .sharedRingTimer s = .next s) ∧
      (s.mc.ringSince + 10000 ≤ s.clk.ms → ∃ t, exec .sharedRingTimer s = .next t ∧ onlyIn [.mc] s t ∧ t.mc.mem = s.mc.mem ∧
        (∀ b : Nat, bankOf t b = if 32 ≤ b ∧ b < 48 ∧ (bankOf s b).st = .on then { bankOf s b with st := .ret } else bankOf s b))) ∧
    (s.mc.ring = .staging → exec .sharedRingTimer s = .next s) ∧
    (s.mc.ring = .capture →
      ((s.qz.cap.st ≠ .done ∨ s.clk.ms < s.mc.ringSince + 600000) → exec .sharedRingTimer s = .next s) ∧
      (s.qz.cap.st = .done → s.mc.ringSince + 600000 ≤ s.clk.ms → ∃ t, exec .sharedRingTimer s = .next t ∧ onlyIn [.qz, .mc] s t ∧
        t.qz = { s.qz with cap := { s.qz.cap with st := .idle, data := [] } } ∧ t.mc.ringSince = s.clk.ms ∧
        t.mc.ring = (if s.mc.stagingWaits then .staging else .free) ∧ t.mc.stagingWaits = false)) ∧
    (((s.qz.cap.st = .running ∧ s.qz.cap.length ≤ s.qz.cap.taken) → exec .rawCaptureDone s = .next { s with
        qz := { s.qz with cap := { s.qz.cap with st := .done } }
        mc := { s.mc with ringSince := s.clk.ms } }) ∧
      (¬(s.qz.cap.st = .running ∧ s.qz.cap.length ≤ s.qz.cap.taken) → exec .rawCaptureDone s = .next s)) ∧
    ((churnNand s = false ∨ s.mc.flight.isSome = true ∨ flushDue s = false) → exec .mapFlushPage s = .next s) ∧
    (churnNand s = true → s.mc.flight = none → flushDue s = true →
      (∀ f rest, s.cf.fields.filter (fun f => decide (0 < f.unflushed)) = f :: rest →
        exec .mapFlushPage s = .next { s with mc := { s.mc with flight := some (f.id, min 85 f.unflushed) } }) ∧
      ((∀ f ∈ s.cf.fields, f.unflushed = 0) →
        exec .mapFlushPage s = .next { s with mc := { s.mc with served := updAt s.mc.served 1 (fun _ => s.clk.ms) } })) ∧
    (s.rs.supUp = false → ∀ rx, exec (.mapMirrorPage rx) s = .next s) ∧
    (s.rs.supUp = true → s.mc.mirrorq = [] → exec (.mapMirrorPage none) s = .next s) ∧
    (s.rs.supUp = true → paramN s pMcMapMirror = 0 → exec (.mapMirrorPage none) s = .next { s with mc := { s.mc with mirrorq := [] } }) ∧
    (∀ id first n rest, s.rs.supUp = true → paramN s pMcMapMirror ≠ 0 → s.mc.mirrorq = (id, first, n) :: rest →
      let r := skimSend (paramN s pMcMapMirror) 3 id (mirrorData s id first (min 30 n)) s
      (r.2 = false → exec (.mapMirrorPage none) s = .next s) ∧
      (r.2 = true → ∃ t, exec (.mapMirrorPage none) s = .next t ∧ t.fb = r.1.fb ∧
        t.mc.mirrorq = (if n ≤ 30 then rest else (id, first + 30, n - 30) :: rest) ∧ t.mc.mirrored.length = s.mc.mirrored.length + 1)) ∧
    (∀ id data, s.rs.supUp = true →
      let first := rdN data 0 4
      let recs := (chunks 48 (data.drop 4)).filter (fun r => r.length == 48)
      ∃ t, exec (.mapMirrorPage (some (id, data))) s = .next t ∧ onlyIn [.cf] s t ∧ (∀ f ∈ s.cf.fields, f.mirror = false → f ∈ t.cf.fields) ∧
        (∃ g ∈ t.cf.fields, g.id = id ∧ g.mirror = true ∧ (g.recs.drop first).take recs.length = recs)) ∧
    (∀ a : Fin 8,
      let late := 0 < lagOf s a.val ∨ forced s detChurnStarvation 0 = true
      let silent := ∃ t, nth s.mc.starved a.val none = some t ∧ s.clk.ms < t + 3600000
      ((churnOn s = false ∨ nandOn s = false ∨ ¬late ∨ silent) → exec (.churnStarvation a) s = .next s) ∧
      (churnOn s = true → nandOn s = true → late → ¬silent → exec (.churnStarvation a) s =
        .next (happen detChurnStarvation 0 (a.val + 256 * lagOf s a.val)
          { s with mc := { s.mc with starved := updAt s.mc.starved a.val (fun _ => some s.clk.ms) } }))) ∧
    (∀ left, (churnNand s = false ∨ left ≠ 0) → exec (.wearCompaction left) s = .next s) ∧
    (churnNand s = true → exec (.wearCompaction 0) s = .next { s with mc := { s.mc with served := updAt s.mc.served 2 (fun _ => s.clk.ms) } } ∧
      exec .tapCalibrationCopy s = .next { s with
        qz := { s.qz with nandCal := s.qz.chans.map (fun c => (c.tap.gc, c.tap.f)) }
        mc := { s.mc with served := updAt s.mc.served 3 (fun _ => s.clk.ms) } }) ∧
    (churnNand s = false → exec .tapCalibrationCopy s = .next s ∧ exec .telemetry s = .next s) ∧
    (∀ (kind : Fin 3) (ch : Nat),
      let clash := ∃ c, s.mc.calibrating = some (0, c) ∧ kind.val = 0 ∧ sameSignal s c ch = true
      ((churnOn s = false ∨ clash) → exec (.converterSelfCalibration kind ch) s = .next s) ∧
      (churnOn s = true → ¬clash → ∃ t, exec (.converterSelfCalibration kind ch) s = .next t ∧ onlyIn [.mc] s t ∧
        t.mc.calibrating = some (kind.val, ch) ∧ t.mc.served = updAt s.mc.served 4 (fun _ => s.clk.ms))) ∧
    (∀ (sys : Fin 5) (page : Bytes), (churnOn s = false → exec (.almanacCollection sys page) s = .next s) ∧
      (churnOn s = true → ∃ t, exec (.almanacCollection sys page) s = .next t ∧ onlyIn [.mc] s t ∧ getKey sys.val t.mc.almanac = some page ∧
        (∀ k : Nat, k ≠ sys.val → getKey k t.mc.almanac = getKey k s.mc.almanac))) ∧
    (churnNand s = true → s.mc.life < 100 → nth s.mc.served 7 0 + 60000 ≤ s.clk.ms → exec .telemetry s = .next { s with mc := { s.mc with
        served := updAt s.mc.served 7 (fun _ => s.clk.ms)
        telemetry := (s.mc.telemetry + 256) % 2147483648 } }) ∧
    ((100 ≤ s.mc.life ∨ s.clk.ms < nth s.mc.served 7 0 + 60000) → exec .telemetry s = .next s) ∧
    (∀ life : Nat, (s.rs.supUp = false → exec (.nandLifeCheck life) s = .next s) ∧
      (s.rs.supUp = true → s.ev.injs = [] → ∃ t, exec (.nandLifeCheck life) s = .next t ∧ onlyIn (.mc :: tells) s t ∧ t.mc.life = min 100 life ∧
        isPresent t detNandLife 0 = decide (paramN s pMcLifeWarn ≤ min 100 life)))

/-- The recorder writes the next waiting occurrence: merged into the newest record of its code and instance (R325), in a free slot under the next
RSEQ (R324, R327), in a victim's slot once the victim is in the archive (R326, R327), or dropped and counted (R327). The fixed writer runs with D12
alone, the snapshot writer with the supervisor (R323); OPSEC counts powered seconds and is copied every 60 (R324); a hold injection ends (R333). -/
def Obligations.RecorderWritesAndMerges : Prop :=
  ∀ s : State,
    ((domOf s 12 ≠ .on ∧ domOf s 12 ≠ .reduced) → ∀ k, exec (.fixedRecordWrite k) s = .next s) ∧
    ((s.rs.supUp = false ∨ inRecovery s = true) → ∀ k, exec (.snapshotQueueWrite k) s = .next s) ∧
    (s.ev.fixq = [] → ∀ k, exec (.fixedRecordWrite k) s = .next s) ∧
    (s.ev.snapq = [] → ∀ k, exec (.snapshotQueueWrite k) s = .next s) ∧
    (∀ (fx : Bool) (o : Occ) (k : Fin 3),
      let area := if fx then s.ev.fixed else s.ev.snaps
      let cap := if fx then 32768 else 15018
      let run := if fx then exec (.fixedRecordWrite k) s else exec (.snapshotQueueWrite k) s
      let after := fun (t : State) => if fx then t.ev.fixed else t.ev.snaps
      let same := fun (t : State) => onlyIn (.mc :: tells) s t ∧ (if fx then t.ev.snaps = s.ev.snaps else t.ev.fixed = s.ev.fixed) ∧
        t.mc.mem = s.mc.mem ∧ t.mc.mramRetries = (if k.val = 0 then s.mc.mramRetries else wrapU 32 (s.mc.mramRetries + 1)) ∧
        (k.val < 2 → if fx then t.ev.fixq = [] else t.ev.snapq = [])
      let saved := fun (t : State) => if fx then t.ev.archivePriv = s.ev.archivePriv else t.ev.archive = s.ev.archive
      let new := fun (t : State) (kept : List EvRec) => ∃ r, after t = kept ++ [r] ∧ r.rseq = s.ev.nextRseq ∧ r.code = o.code ∧ r.inst = o.inst ∧
        r.frame = o.frame ∧ r.opsec = o.opsec ∧ r.pcycle = o.pcycle ∧ r.data = o.data ∧ r.injected = o.injected ∧ r.active = o.lasting ∧
        r.timeEst = o.timeEst ∧ r.repeats = 1 ∧ r.last = o.frame ∧ (fx = true → r.items = [] ∧ r.lateSnap = false) ∧
        (fx = false → r.lateSnap = o.late) ∧ t.ev.nextRseq = s.ev.nextRseq + 1
      isFixedCode o.code = fx → s.ev.injs = [] → (domOf s 12 = .on ∨ domOf s 12 = .reduced) → s.rs.supUp = true → inRecovery s = false →
      (fx = true → s.ev.snapq.length < 256) → (if fx then s.ev.fixq = [o] else s.ev.snapq = [o]) →
        (∀ r, (∀ q ∈ area, q.rseq = r.rseq → q = r) → candidate area o = some r → mergeable (paramN s pEvRepeatWindow) o r = true →
          ∃ t, run = .next t ∧ same t ∧ saved t ∧ t.ev.nextRseq = s.ev.nextRseq ∧
            after t = area.map (fun q => if q.rseq = r.rseq then
              { r with repeats := satU 16 (r.repeats + 1), active := r.active || o.lasting, last := max r.last o.frame } else q)) ∧
        (mergeTarget s area o = none →
          (area.length < cap → ∃ t, run = .next t ∧ same t ∧ saved t ∧ new t area) ∧
          (∀ v, cap ≤ area.length → victim (severityOf o.code) area = some v → v ∈ area ∧ ∃ t, run = .next t ∧ same t ∧
            new t (area.filter (fun x => x.rseq != v.rseq)) ∧
            (isFixedCode v.code = fx → if fx then t.ev.archivePriv = s.ev.archivePriv ++ [v] else t.ev.archive = s.ev.archive ++ [v])) ∧
          (cap ≤ area.length → victim (severityOf o.code) area = none → (if fx then s.ev.fullFixed else s.ev.fullSnap) = true →
            ∃ t, run = .next t ∧ same t ∧ saved t ∧ after t = area ∧ t.ev.nextRseq = s.ev.nextRseq ∧
              (if fx then t.ev.lostFixed = wrapU 32 (s.ev.lostFixed + 1) else t.ev.lostSnap = wrapU 32 (s.ev.lostSnap + 1))))) ∧
    (∀ (sev : Nat) (area : List EvRec) (v : EvRec), victim sev area = some v → v ∈ area ∧
      (v.retained = true → ∀ r ∈ area, r.retained = true) ∧
      ((∃ r ∈ area, r.retained = false ∧ r.injected = true) → v.injected = true) ∧
      (v.retained = false → v.injected = false → severityOf v.code ≤ sev ∧
        (v.active = true → ∀ r ∈ area, r.retained = false → r.active = false → sev < severityOf r.code))) ∧
    (∀ o1 o2 : Occ, s.ev.fixq = [o1, o2] → o2.frame = o1.frame → o2.pcycle = o1.pcycle → (detRow o1.code).isSome = true →
      (detRow o2.code).isSome = true → o1.inst < 256 → o2.inst < 256 → (o2.code < o1.code ∨ (o2.code = o1.code ∧ o2.inst < o1.inst)) →
      nextOcc s.ev.fixq = some (o2, [o1])) ∧
    (churnOn s = false → exec .eventCompaction s = .next s) ∧
    (churnOn s = true → exec .eventCompaction s = .next { s with mc := { s.mc with served := updAt s.mc.served 6 (fun _ => s.clk.ms) } }) ∧
    ((s.rs.stage = .cold ∨ ∀ d ∈ s.pw.doms.drop 1, d ≠ .on ∧ d ≠ .reduced ∧ d ≠ .reset) → exec .opsecCount s = .next s) ∧
    (s.rs.stage ≠ .cold → (∃ d ∈ s.pw.doms.drop 1, d = .on ∨ d = .reduced ∨ d = .reset) →
      ∃ t, exec .opsecCount s = .next t ∧ onlyIn [.ev] s t ∧ t.ev.opsec = wrapU 32 (s.ev.opsec + 1) ∧
        (59 ≤ s.ev.opsecFrac → t.ev.opsecFrac = 0 ∧ t.ev.opsecCopy = t.ev.opsec) ∧
        (s.ev.opsecFrac < 59 → t.ev.opsecFrac = s.ev.opsecFrac + 1 ∧ t.ev.opsecCopy = s.ev.opsecCopy)) ∧
    (∀ (h : Fin 17) (i : Inj), s.ev.injs = [i] →
      (¬(i.handle = h.val ∧ i.started = true ∧ i.mode = 2 ∧ i.left = 0) → exec (.injectionEnd h) s = .next s) ∧
      (i.handle = h.val → i.started = true → i.mode = 2 → i.left = 0 → ∃ t, exec (.injectionEnd h) s = .next t ∧ onlyIn [.ev] s t ∧ t.ev.injs = [] ∧
        t.ev.fixed = s.ev.fixed ∧ t.ev.snaps = s.ev.snaps ∧ t.ev.fixq.map Occ.code = s.ev.fixq.map Occ.code ++ [evInjectionEnd]))

/-! ### The chain of an update and Rennet -/

/-- The motion conditions are exchanged every 100 ms (R339) and the supply condition changes after a second (R340). A manifest's fragments are kept
until it is whole, and its failing check is reported to the entry module (R348). A chunk in order joins the part being taken, one had before is
acknowledged again, a gap is answered with NACK, and a whole chunk counts when its tag verifies (R350); ACK frees chunks of the shared ring, NACK
has them sent again, and STAGED makes a module ready or aborts the staging (R349, R350). -/
def Obligations.StagingRunsAlongTheChain : Prop :=
  ∀ (src : Fin 64) (data : Bytes) (s : State),
    let id := rdN data (data.length - 8) 8
    let rows : List (Nat × (Fin 64 → Bytes → Instr)) := [(1, .manifest), (2, .chunk), (3, .ack), (4, .nack), (5, .staged), (6, .prepare), (7, .vote),
      (8, .commitAbort), (9, .decisionAck), (10, .resolve), (11, .confirmFallback), (12, .motion)]
    let is := fun (type : Nat) => s.rs.supUp = true ∧ data ≠ [] ∧ rdN data 0 1 = type
    (∀ row ∈ rows, ¬is row.1 → exec (row.2 src data) s = .next s) ∧
    (is 12 → 1 ≤ rdN data 1 1 → rdN data 1 1 ≤ 3 → data.length = 4 → resZero data 2 2 = true →
      (src.val ∈ motionPeers s → exec (.motion src data) s = .next { s with up := { s.up with
        peers := s.up.peers.filter (fun p => p.1 != src.val) ++ [(src.val, rdN data 1 1, s.clk.ms)] } }) ∧
      (src.val ∉ motionPeers s → exec (.motion src data) s = .next s)) ∧
    (s.rs.supUp = true → inRecovery s = false → s.up.motionAt + 100 ≤ s.clk.ms → ∃ t, exec .motionSend s = .next t ∧ onlyIn [.fb, .up] s t ∧
      t.up = { s.up with motionAt := s.clk.ms } ∧
      (∀ n, motionPeers s = [n] → t.fb = (skimSend n 2 0 [0x0C, BitVec.ofNat 8 s.up.evidence, 0, 0] s).1.fb)) ∧
    ((s.rs.supUp = false ∨ inRecovery s = true ∨ s.clk.ms < s.up.motionAt + 100) → exec .motionSend s = .next s) ∧
    (∀ mv ms : Nat,
      let lim := paramN s pUpVsupMin
      (s.rs.supUp = true → 1000 ≤ ms → s.up.supplyOk = true → mv < lim →
        exec (.supplyConditionChange mv ms) s = .next { s with up := { s.up with supplyOk := false } }) ∧
      (s.rs.supUp = true → 1000 ≤ ms → s.up.supplyOk = false → lim + 200 ≤ mv →
        exec (.supplyConditionChange mv ms) s = .next { s with up := { s.up with supplyOk := true } }) ∧
      ((s.rs.supUp = false ∨ ms < 1000 ∨ (s.up.supplyOk = true ∧ lim ≤ mv) ∨ (s.up.supplyOk = false ∧ mv < lim + 200)) →
        exec (.supplyConditionChange mv ms) s = .next s)) ∧
    (is 1 → (data.length ≤ 16 ∨ resZero data 1 3 = false ∨ inRecovery s = true) → exec (.manifest src data) s = .next s) ∧
    (is 1 → 16 < data.length → resZero data 1 3 = true → inRecovery s = false →
      (∀ x ∈ s.up.manRx, ¬(x.1 = id ∧ x.2.1 = src.val)) → rdN data 4 4 = 0 →
      let body := slice data 8 (data.length - 16)
      (body.length < 36 → exec (.manifest src data) s = .next { s with up := { s.up with manRx := s.up.manRx ++ [(id, src.val, body)] } }) ∧
      (∀ e, 36 ≤ body.length → rdN body 32 4 ≤ body.length →
        entryCandidates ((chunks 8 (slice body 64 (8 * rdN body 18 2))).map (fun e => rdN e 0 6)) (uidOfNode s src.val) = [e] →
        match checkManifest body s with
        | (s1, .inr _) => exec (.manifest src data) s = .next (chainSend id e [5, BitVec.ofNat 8 (myNode s), 7, 0] s1).1
        | (s1, .inl m) => (m.id = id → campOf s m.id = none → claimants s m = [] → s.up.commit.st ≠ .activated →
            exec (.manifest src data) s = .next (takeManifest m false 0 src.val (nodeOfUid s e) s1)))) ∧
    (∀ (c : Camp) (p : UpPart) (q : PartProg),
      let k := rdN data 1 1
      let n := rdN data 4 4
      let off := rdN data 8 4
      let body := slice data 12 (data.length - 20)
      let got := match c.chunkRx with
        | some (a, b, d) => if a = k ∧ b = n then d else []
        | none => []
      is 2 → campOf s id = some c → c.man.parts[k]? = some p → c.parts[k]? = some q → c.entry = false → c.pred = src.val → c.st ≠ .idle →
      20 < data.length → data.length ≤ 1460 →
        (n < q.accepted → off + body.length = chunkLen p n → exec (.chunk src data) s = .next (ackPred c 3 k (q.accepted - 1) s)) ∧
        (n = q.accepted → off = got.length → off + body.length < chunkLen p n → ∃ t c', exec (.chunk src data) s = .next t ∧ onlyIn [.up] s t ∧
          campOf t id = some c' ∧ c' = { c with chunkRx := some (k, n, got ++ body) }) ∧
        (q.accepted < n → ∃ t, exec (.chunk src data) s = .next (ackPred c 4 k q.accepted t) ∧ onlyIn [.up] s t ∧
          campOf t id = some { c with chunkRx := none }) ∧
        (n = q.accepted → off = got.length → off + body.length = chunkLen p n → ringRoom s c p = true → n + 1 < p.chunks → q.fails + 1 < 3 →
          ∃ t c' q', exec (.chunk src data) s = .next t ∧ onlyIn [.fb, .up] s t ∧ campOf t id = some c' ∧ c'.chunkRx = none ∧
            c'.parts[k]? = some q' ∧
            (tagOk s p n (got ++ body) = true → q'.accepted = n + 1 ∧ q'.fails = 0 ∧
              (forwards s c p = true → t.up.relay = s.up.relay ++ [⟨id, k, n, got ++ body, false⟩])) ∧
            (tagOk s p n (got ++ body) = false → q'.accepted = n ∧ q'.fails = q.fails + 1 ∧ t.up.relay = s.up.relay))) ∧
    (∀ c, is 3 → campOf s id = some c → data.length = 16 → successor s c = some (uidOfNode s src.val) → ∃ t, exec (.ack src data) s = .next t ∧
      onlyIn [.mc, .up] s t ∧ t.up = { s.up with relay := s.up.relay.filter (fun r =>
        !(r.man == id && r.part == rdN data 1 1 && decide (r.chunk ≤ rdN data 4 4))) }) ∧
    (∀ c, is 4 → campOf s id = some c → data.length = 16 → successor s c = some (uidOfNode s src.val) → ∃ t, exec (.nack src data) s = .next t ∧
      onlyIn [.fb, .up] s t ∧ t.up.relay.map (fun r => (r.man, r.part, r.chunk, r.data)) = (s.up.relay.filter (fun r =>
        !(r.man == id && r.part == rdN data 1 1 && decide (r.chunk < rdN data 4 4)))).map (fun r => (r.man, r.part, r.chunk, r.data))) ∧
    (∀ c, campOf s id = some c → successor s c ≠ some (uidOfNode s src.val) →
      (is 3 → exec (.ack src data) s = .next s) ∧ (is 4 → exec (.nack src data) s = .next s)) ∧
    (∀ c, is 5 → campOf s id = some c → data.length = 12 → c.entry = true → rdN data 1 1 = src.val →
      (c.man.mods.any (fun e => e.1 == uidOfNode s src.val)) = true →
      (rdN data 2 1 = 0 → ∃ t c', exec (.staged src data) s = .next t ∧ onlyIn (.up :: tells) s t ∧ campOf t id = some c' ∧ c'.st = c.st ∧
        c'.mods = c.mods.map (fun m => if m.uid = uidOfNode s src.val then { m with st := 3, result := 0, verified := m.stage } else m)) ∧
      (rdN data 2 1 ≠ 0 → (c.st = .staging ∨ c.st = .staged) → ∃ t c', exec (.staged src data) s = .next t ∧ onlyIn [.mb, .pf, .ev, .fb, .mc, .up, .out] s t ∧
        campOf t id = some c' ∧ c'.st = .idle ∧ c'.result = rdN data 2 1 ∧ (∀ x ∈ t.up.relay, x.man ≠ id))) ∧
    ((s.rs.supUp = false ∨ ∀ r ∈ s.up.relay, r.sent = true) → exec .chunkForward s = .next s) ∧
    (∀ r c u, s.rs.supUp = true → s.up.relay.find? (fun r => !r.sent) = some r → campOf s r.man = some c → successor s c = some u →
      ∃ t, exec .chunkForward s = .next t ∧ onlyIn [.fb, .up] s t ∧ t.up = { s.up with relay := s.up.relay.map (fun y =>
        if y.man = r.man ∧ y.part = r.part ∧ y.chunk = r.chunk then { y with sent := true } else y) })

/-- Rennet: a module asked to prepare votes YES and writes PREPARED, or NO with its reason (R341, R351, R352); the first NO, an injection or the
deadline decides ABORT and the last YES COMMIT (R353); a participant acts on the decision and acknowledges it (R351, R353), asks the leader when it
has not heard (R355), swaps its images at the commit frame by an L1 unless moving (R354), and confirms or falls back (R357, R359). -/
def Obligations.RennetDecides : Prop :=
  ∀ (src : Fin 64) (data : Bytes) (s : State),
    let id := rdN data (data.length - 8) 8
    let u := uidOfNode s src.val
    let is := fun (type len : Nat) => s.rs.supUp = true ∧ rdN data 0 1 = type ∧ data.length = len
    let mine := s.up.commit
    let chain := fun (t : State) => onlyIn (.fb :: .up :: tells) s t
    s.ev.injs = [] →
    (s.rs.supUp = true → rdN data 0 1 = 6 → data.length ≠ 17 → exec (.prepare src data) s = .next s) ∧
    (∀ c, is 6 17 → campOf s id = some c → ¬(mine.id = id ∧ mine.st = .prepared ∧ mine.frame = rdN data 1 8) →
      let why := if c.st ≠ .staged ∨ commitHeld s = true then 4 else if stationary s = false ∧ inRecovery s = false then 1
        else if s.up.supplyOk = false then 2 else if ownerBars 0 s = true then 3 else if fnsIdle s = false ∨ enablePending s = true then 5 else 0
      ∃ t, exec (.prepare src data) s = .next (chainSend id u [7, if why = 0 then 1 else 0, BitVec.ofNat 8 why, 0] t).1 ∧ chain t ∧
        (why = 0 → t.up.commit = ⟨id, .prepared, u == uid, wrapU 32 (mine.gen + 1), rdN data 1 8, u, swapMap s c.man, s.up.active, c.man.sec⟩ ∧
          ∃ c', campOf t id = some c' ∧ c'.st = .prepared ∧ c'.frame = rdN data 1 8) ∧
        (why ≠ 0 → t.up.commit = mine ∧ ∃ c', campOf t id = some c' ∧ c'.st = c.st) ∧
        (why = 0 ∨ 3 < why → t.ev.snapq = s.ev.snapq ∧ t.ev.fixq = s.ev.fixq)) ∧
    (is 6 17 → campOf s id = none → ¬(mine.id = id ∧ mine.st = .prepared ∧ mine.frame = rdN data 1 8) → exec (.prepare src data) s = .next (chainSend id u [7, 0, 4, 0] s).1) ∧
    (∀ c, is 7 12 → campOf s id = some c → collecting c = false → exec (.vote src data) s = .next s) ∧
    (∀ c, is 7 12 → campOf s id = some c → collecting c = true → rdN data 1 1 < 2 → (∃ m ∈ c.mods, m.uid = u) →
      (∀ m ∈ c.mods, m.uid ≠ u → ∀ r, m.vote ≠ some (false, r)) → ∃ t c', exec (.vote src data) s = .next t ∧ chain t ∧ campOf t id = some c' ∧
        (rdN data 1 1 = 0 → c'.decision = some false ∧ c'.result = rdN data 2 1 ∧ t.up.commit.st = .aborted ∧ t.up.commit.id = id) ∧
        (rdN data 1 1 = 1 → (∀ m ∈ c.mods, m.uid ≠ u → ∃ r, m.vote = some (true, r)) → c'.decision = some true ∧ c'.st = .committing ∧
          t.up.commit.st = .decided) ∧
        (rdN data 1 1 = 1 → (∃ m ∈ c.mods, m.uid ≠ u ∧ m.vote = none) → c'.decision = none ∧ t.up.commit = mine ∧ c'.st = c.st)) ∧
    (∀ c, is 8 20 → campOf s id = some c → c.entry = false → (modUids c.man).contains u = true →
      let prepared := mine.id = id ∧ mine.st = .prepared
      (rdN data 1 1 = 0 → rdN data 4 8 = 0 → exec (.commitAbort src data) s = .next (dropStaging id 9 s)) ∧
      (rdN data 1 1 ≤ 1 → (rdN data 1 1 = 1 ∨ rdN data 4 8 ≠ 0) → ¬prepared →
        exec (.commitAbort src data) s = .next (chainSend id u [9, BitVec.ofNat 8 (recordState id s), 0, 0] s).1) ∧
      (rdN data 1 1 = 0 → rdN data 4 8 ≠ 0 → prepared → ∃ t c', exec (.commitAbort src data) s = .next (chainSend id u [9, 5, 0, 0] t).1 ∧ chain t ∧
        t.up.commit.st = .aborted ∧ campOf t id = some c' ∧ c'.st = .staged) ∧
      (rdN data 1 1 = 1 → prepared → ∃ t c', chain t ∧ t.up.commit = { mine with st := .committing, gen := wrapU 32 (mine.gen + 1) } ∧
        campOf t id = some c' ∧ c'.st = .committing ∧
        ((s.rs.stage ≠ .lanes ∨ s.clk.frame < mine.frame) →
          exec (.commitAbort src data) s = .next (chainSend id u [9, 3, 0, 0] t).1) ∧
        (s.rs.stage = .lanes → mine.frame ≤ s.clk.frame →
          exec (.commitAbort src data) s = .next (swapNow (chainSend id u [9, 3, 0, 0] t).1)))) ∧
    (∀ c, is 9 12 → campOf s id = some c → rdN data 1 1 ≤ 7 → (modUids c.man).contains u = true →
      let n := rdN data 1 1
      let waits := mine.id = id ∧ mine.st = .prepared ∧ mine.leader = false
      (waits → n = 5 ∨ (n ≤ 1 ∧ u = mine.leaderUid) → ∃ t c', exec (.decisionAck src data) s = .next t ∧ chain t ∧ t.up.commit.st = .aborted ∧
        campOf t id = some c' ∧ c'.st = .staged) ∧
      (waits → (n = 2 ∨ n = 3 ∨ n = 4 ∨ n = 7) → (s.rs.stage ≠ .lanes ∨ s.clk.frame < mine.frame) →
        ∃ t c', exec (.decisionAck src data) s = .next t ∧ chain t ∧ t.up.commit.st = .committing ∧ campOf t id = some c' ∧ c'.st = .committing) ∧
      (waits → (n = 6 ∨ (n ≤ 1 ∧ u ≠ mine.leaderUid)) → exec (.decisionAck src data) s = .next s) ∧
      (¬waits → ∃ t c', exec (.decisionAck src data) s = .next t ∧ chain t ∧ t.up.commit = mine ∧ campOf t id = some c' ∧
        c'.mods = c.mods.map (fun m => if m.uid = u then { m with
          st := stOfRecord n
          acked := m.acked || c.decision.isSome
          confirmed := m.confirmed || n == 7
          swap := if n = 4 ∧ m.swap = 0 then s.clk.frame else m.swap } else m))) ∧
    (is 10 12 →
      ((∀ c, campOf s id = some c → collecting c = false) →
        exec (.resolve src data) s = .next (chainSend id u [9, BitVec.ofNat 8 (recordState id s), 0, 0] s).1) ∧
      ((∃ c, campOf s id = some c ∧ collecting c = true) → exec (.resolve src data) s = .next s)) ∧
    (is 11 12 →
      (mine.id ≠ id → exec (.confirmFallback src data) s = .next s) ∧
      (mine.id = id → mine.st ≠ .activated → rdN data 1 1 = 2 → exec (.confirmFallback src data) s = .next s) ∧
      (mine.id = id → mine.st ≠ .activated → rdN data 1 1 = 1 →
        exec (.confirmFallback src data) s = .next (chainSend id u [9, BitVec.ofNat 8 (commitCode mine.st), 0, 0] s).1) ∧
      (mine.id = id → mine.st = .activated → rdN data 1 1 = 1 →
        ∃ t, exec (.confirmFallback src data) s = .next (chainSend id u [9, 7, 0, 0] t).1 ∧ chain t ∧ t.up.commit.st = .confirmed ∧
          t.up.secMin = max s.up.secMin mine.sec ∧ t.up.old = none ∧ t.up.active = s.up.active) ∧
      (mine.id = id → mine.st = .activated → rdN data 1 1 = 2 → ∃ t, exec (.confirmFallback src data) s = .next (softReset 1 (s.clk.cycle / 750) t) ∧
        chain t ∧ t.up.commit.st = .fallenBack ∧ t.up.active = mine.oldMap ∧ t.up.old = none)) ∧
    (((∀ c ∈ s.up.camps, collecting c = false) ∨ (∀ c ∈ s.up.camps, s.clk.frame + 200 < c.frame)) → exec .voteDeadline s = .next s) ∧
    (∀ c, s.rs.supUp = true → s.up.camps.find? collecting = some c → c.frame ≤ s.clk.frame + 200 → (∀ x ∈ s.up.camps, x.man.id = c.man.id → x = c) →
      ∃ t c', exec .voteDeadline s = .next t ∧ chain t ∧ t.up.commit.st = .aborted ∧ campOf t c.man.id = some c' ∧ c'.decision = some false ∧
        c'.result = 6) ∧
    ((∀ c ∈ s.up.camps, c.decision = none ∨ s.clk.ms < c.sentAt + 100) → exec .decisionResend s = .next s) ∧
    (∀ c, s.rs.supUp = true → s.up.camps = [c] → c.decision.isSome = true → c.sentAt + 100 ≤ s.clk.ms → ∃ t, exec .decisionResend s = .next t ∧
      onlyIn [.fb, .up] s t ∧ t.up = { s.up with camps := [{ c with sentAt := s.clk.ms }] }) ∧
    (∀ c, campOf s mine.id = some c → s.rs.stage ≠ .lanes →
      ((mine.st ≠ .prepared ∨ mine.leader = true ∨ s.clk.frame ≤ mine.frame ∨ s.clk.ms < c.sentAt + 100) → exec .resolveResend s = .next s) ∧
      (s.rs.supUp = true → mine.st = .prepared → mine.leader = false → mine.frame < s.clk.frame → c.sentAt + 100 ≤ s.clk.ms →
        ∃ t, exec .resolveResend s = .next (chainSend mine.id mine.leaderUid [10, 0, 0, 0] t).1 ∧ onlyIn [.up] s t ∧
          campOf t mine.id = some { c with sentAt := s.clk.ms })) ∧
    (
      let due := inRecovery s = true ∧ mine.frame ≤ s.clk.frame ∨ inRecovery s = false ∧
        (mine.frame = s.clk.frame ∧ moving s = false ∨ mine.frame < s.clk.frame ∧ stationary s = true)
      ((s.rs.supUp = false ∨ (mine.st ≠ .decided ∧ mine.st ≠ .committing) ∨ ¬due) → exec .commitFrameSwap s = .next s) ∧
      (s.rs.supUp = true → (mine.st = .decided ∨ mine.st = .committing) → due →
        ∃ t, exec .commitFrameSwap s = .next (softReset 1 (s.clk.cycle / 750) t) ∧ onlyIn (.up :: tells) s t ∧ t.up.commit.st = .activated ∧
          t.up.active = mine.slotMap ∧ (∀ c, campOf s mine.id = some c → ∃ c', campOf t mine.id = some c' ∧ c'.st = .activated)))

/-! ### Reset, start-up and lifecycle -/

/-- A reset source asserts at the level of the reset map (R365, R366): the supervisor stops, sessions, injections and the profile staging are gone (R34,
R72, R333), and the episode takes level and source (R369). L0 and L1 hold every domain, stop the clocks and Granite, with SAFE_A and SAFE_B
asserted, and lose pending commands and unflushed records; L2 leaves Granite, Mica, the output parts and their commands as they are (Table 14-1,
R373, R375). A release goes on once no source holds the boundary (R368, Table 14-4). -/
def Obligations.ResetsReachTheirLevel : Prop :=
  ∀ s : State,
    let fell := fun (src L : Nat) (t : State) =>
      (src, L) ∈ t.rs.asserted ∧ (∀ a ∈ s.rs.asserted, a.1 ≠ src → a ∈ t.rs.asserted) ∧
      t.rs.episode = some (match s.rs.episode with
        | none => (L, 2 ^ src)
        | some e => (min L e.1, maskOr e.2 (2 ^ src))) ∧
      t.rs.supUp = false ∧ t.rs.request = none ∧ t.rs.lifecycle = s.rs.lifecycle ∧ t.mb.sessions = [] ∧ t.mb.waiting = [] ∧ t.ev.injs = [] ∧
      t.pf.staging = none ∧ t.pf.selected = (if L ≤ 1 then [] else s.pf.selected) ∧ t.up.active = s.up.active ∧ t.up.commit = s.up.commit ∧
      t.ev.fixed.map EvRec.rseq = s.ev.fixed.map EvRec.rseq ∧
      (L ≤ 1 → t.clk.running = false ∧ t.clk.established = false ∧ t.gr.running = false ∧ t.gr.mode = .start ∧ t.gr.safeA = true ∧
        t.gr.safeB = true ∧ t.an.gate = false ∧ t.pw.vco = false ∧ t.mb.exch = [] ∧ t.pf.none = true ∧ t.rs.rstout = false ∧
        (∀ d : Nat, 1 ≤ d → d ≤ 12 → domOf t d = .reset) ∧ (∀ f ∈ t.cf.fields, f.unflushed = 0) ∧
        t.rs.stage = (if L = 0 ∨ s.rs.stage = .cold then .cold else .system)) ∧
      (L = 2 → t.clk = s.clk ∧ t.gr = s.gr ∧ t.mc = s.mc ∧ t.vd = s.vd ∧ t.ls = s.ls ∧ t.an = s.an ∧ t.sp = s.sp ∧ t.mb.exch = s.mb.exch ∧
        t.gn.time.st = .holdover ∧
        (∀ d : Nat, domOf t d = if 4 ≤ d ∧ d ≤ 7 then .reset else domOf s d) ∧
        t.rs.stage = (match s.rs.stage with
          | .cold => .cold
          | .system => .system
          | .loading => .loading
          | .clocks => .clocks
          | _ => .compute))
    s.pw.doms.length = 13 →
    (mapWord s = 0 → ∀ L : Nat, L ≤ 3 → (List.range 9).map (fun src => sourceLevel s src L) = [0, 1, 0, 1, 2, L, 1, 1, 2]) ∧
    (∀ (src : Fin 9) (L : Fin 3) (us : Fin 1000),
      let holds := s.rs.asserted.any (fun a => a.1 == src.val)
      ((sourceActs s src.val = false ∨ src.val = 5 ∨ holds = true) → exec (.resetAssert src L us) s = .next s) ∧
      (sourceActs s src.val = true → src.val ≠ 5 → holds = false → s.pw.sb.ph ≠ .asleep →
        ∃ t, exec (.resetAssert src L us) s = .next t ∧ fell src.val (sourceLevel s src.val L.val) t)) ∧
    (∀ (ms : Nat) (us : Fin 1000),
      let held := fun (n : Nat) => s.rs.asserted.any (fun a => a.1 == n)
      ((s.rs.supUp = false ∨ ms < paramN s pRsWdgPeriod ∨ held 4 = true) → exec (.supervisorWatchdogExpiry ms us) s = .next s) ∧
      (s.rs.supUp = true → paramN s pRsWdgPeriod ≤ ms → held 4 = false →
        ∃ t, exec (.supervisorWatchdogExpiry ms us) s = .next t ∧ fell 4 (sourceLevel s 4 0) t ∧
          (s.rs.restart = false → s.rs.counted = false → (s.rs.stage = .firmware ∨ s.rs.stage = .lanes ∨ s.rs.stage = .active) →
            t.rs.failed = s.rs.failed + 1)) ∧
      ((s.rs.supUp = false ∨ ms = 0 ∨ held 8 = true) → exec (.lockUp ms us) s = .next s) ∧
      (s.rs.supUp = true → 1 ≤ ms → held 8 = false → ∃ t, exec (.lockUp ms us) s = .next t ∧ fell 8 (sourceLevel s 8 0) t) ∧
      ((s.clk.running = false ∨ held 7 = true) → exec (.clockFailure us) s = .next s) ∧
      (s.clk.running = true → held 7 = false → ∃ t, exec (.clockFailure us) s = .next t ∧ fell 7 1 t)) ∧
    (∀ src : Fin 9,
      ((∀ a ∈ s.rs.asserted, a.1 ≠ src.val) → exec (.resetRelease src) s = .next s) ∧
      (src.val = 5 → s.pw.sb.ph = .asleep → exec (.resetRelease src) s = .next s) ∧
      (∀ L : Nat, s.rs.asserted = [(src.val, L)] → (src.val ≠ 5 ∨ s.pw.sb.ph ≠ .asleep) →
        ∃ t, exec (.resetRelease src) s = .next t ∧ t.rs.asserted = [] ∧ onlyIn [.mb, .ev, .rs, .pw, .sp] s t ∧
          (s.rs.stage = .cold → t.ev.pcycle = s.ev.pcycle + 1 ∧ t.ev.opsec = s.ev.opsecCopy ∧ t.pw.clkKeep = true ∧ t.pw.rtcValid = false) ∧
          (s.rs.stage = .cold ∨ s.rs.stage = .system → t.rs.stage = .loading ∧ t.ev.present = [] ∧ (∀ r ∈ t.ev.fixed ++ t.ev.snaps, r.active = false) ∧
            t.mb.malformed = 0 ∧ t.mb.authFails = 0 ∧ t.mb.discarded = 0 ∧ t.mb.lockouts = 0) ∧
          (s.rs.stage ≠ .cold → s.rs.stage ≠ .system → t = { s with rs := { s.rs with asserted := [] } })) ∧
      (∀ L o : Nat, ∀ other, other ≠ src.val → s.rs.asserted = [(src.val, L), (other, o)] → s.rs.stage = .system → o ≤ 1 →
        (src.val ≠ 5 ∨ s.pw.sb.ph ≠ .asleep) → exec (.resetRelease src) s = .next { s with rs := { s.rs with asserted := [(other, o)] } })) ∧
    (∀ (unit : Fin 8) (us : Fin 1000),
      ((s.rs.supUp = false ∨ unit.val = 0) → exec (.l3UnitReset unit us) s = .next s) ∧
      (s.rs.supUp = true → unit.val ≠ 0 → exec (.l3UnitReset unit us) s = .next (rawEvent evReset 0 (3 + 65536 * 32) (unitReset unit.val us.val s)))) ∧
    (∀ us : Fin 1000,
      (s.rs.request = none → exec (.resetRequestEffect us) s = .next s) ∧
      (∀ q, s.rs.request = some q →
        (s.clk.ms < q.at' + 100 → exec (.resetRequestEffect us) s = .next s) ∧
        (q.at' + 100 ≤ s.clk.ms → q.level = 3 → exec (.resetRequestEffect us) s =
          .next (rawEvent evReset 0 (3 + 65536 * 32) (unitReset q.unit us.val { s with rs := { s.rs with request := none } }))) ∧
        (q.at' + 100 ≤ s.clk.ms → q.level ≤ 2 → ∃ t, exec (.resetRequestEffect us) s = .next t ∧ fell 5 q.level t ∧
          (∀ x, s.mb.sessions = [x] → s.rs.supUp = true → ∃ ms, t.out = s.out ++ noteMsg x s.mb.epoch nSessionClosing [2, 0, 0, 0] :: ms))))

/-- The boot of Tables 14-4 and 14-6: the option and trim load (R370), the VCO lock with the release of the domains (R372, R401), the release of D4
with the straps and the next epoch (R34, R57), the images (R374), the profile of the strap or PS (R57, R58), boot complete and its time limit
(R357, R374), and the end of an L2 restart (R375). ROM recovery mode is entered by strap or after three failed boots (R360). -/
def Obligations.BootProceeds : Prop :=
  ∀ s : State,
    let held := ∃ a ∈ s.rs.asserted, a.2 ≤ 1
    ((s.rs.stage ≠ .loading ∨ held) → exec .optionTrimLoadDone s = .next s) ∧
    (s.rs.stage = .loading → ¬held →
      (s.rs.loadCount < 3 → exec .optionTrimLoadDone s = .next { s with rs := { s.rs with
        loadCount := 0
        consTrim := false
        map := s.rs.fuses
        stage := .clocks } }) ∧
      (3 ≤ s.rs.loadCount → ∃ t, exec .optionTrimLoadDone s = .next t ∧ onlyIn (.rs :: tells) s t ∧ t.rs = { s.rs with
        loadCount := 0
        consTrim := true
        map := 0
        stage := .clocks })) ∧
    (∀ (ok : Bool) (rtc : Nat),
      ((s.rs.stage ≠ .clocks ∨ held) → exec (.vcoLock ok rtc) s = .next s) ∧
      (s.rs.stage = .clocks → ¬held → exec (.vcoLock false rtc) s = .next (assertSource 7 1 0 s)) ∧
      (s.rs.stage = .clocks → ¬held → s.pw.doms.length = 13 → ∃ t, exec (.vcoLock true rtc) s = .next t ∧ onlyIn [.clk, .gr, .mc, .rs, .pw, .sp] s t ∧
        t.clk.running = true ∧ t.clk.frame = rtc ∧ t.clk.cycle = 0 ∧ t.clk.established = false ∧ t.pw.vco = true ∧
        t.rs.stage = .compute ∧ t.rs.bootAt = s.clk.ms ∧ t.gr.mode = .start ∧ t.gr.running = false ∧ t.gr.safeA = true ∧ t.gr.safeB = true ∧
        (∀ d ∈ [1, 2, 3, 8, 9, 10], domOf t d = .on) ∧
        (∀ d ∈ [11, 12], domOf t d = if s.pw.vsupReduced then .reduced else .on) ∧
        (s.rs.wiped = true → t.mc = s.mc) ∧ (s.rs.wiped = false → t.mc.mem = [] ∧ ∀ b : Nat, bankServes t b = true))) ∧
    (∀ straps : List Nat,
      let strap := if s.pf.strap = 8 then strapOf straps else s.pf.strap
      ((s.rs.stage ≠ .compute ∨ s.rs.asserted ≠ []) → exec (.d4Release straps) s = .next s) ∧
      (s.rs.stage = .compute → s.rs.asserted = [] → s.pw.doms.length = 13 → (s.rs.restart = true ∨ s.up.commit.st ≠ .activated ∨ s.rs.failed = 0) →
        ∃ t, exec (.d4Release straps) s = .next t ∧ t.mb.epoch = (if 0xFFFFFFFF ≤ s.mb.epoch then 0xFFFFFFFF else s.mb.epoch + 1) ∧
          t.mb.nextSession = 1 ∧ t.pf.strap = strap ∧ (∀ d : Nat, domOf t d = if 4 ≤ d ∧ d ≤ 7 then .on else domOf s d) ∧ t.rs.episode = none ∧
          (∀ e, s.rs.episode = some e → t.rs.lastLevel = e.1 ∧ t.rs.lastMask = e.2) ∧
          (if s.rs.restart = false ∧ (strap = 6 ∨ 3 ≤ s.rs.failed) then
            t.rs.stage = .recovery ∧ t.rs.supUp = true ∧ t.pf.active = 16 ∧ t.pf.none = true ∧ t.rs.causes = [] ∧ t.mb.uartEnable = true
          else t.rs.stage = .rom ∧ t.rs.supUp = s.rs.supUp ∧ onlyIn [.mb, .pf, .rs, .pw] s t)) ∧
      (s.rs.stage = .compute → s.rs.asserted = [] → s.rs.restart = false → s.up.commit.st = .activated → 1 ≤ s.rs.failed →
        ∃ t, exec (.d4Release straps) s = .next t ∧ t.up.commit.st = .fallenBack ∧ t.up.active = s.up.commit.oldMap ∧ t.rs.supUp = false ∧
          t.rs.asserted.length = 1)) ∧
    (∀ straps : List Nat, straps.length = 8 →
      (∀ v : Nat, v < 7 → straps = List.replicate 8 v → strapOf straps = v) ∧ ((∃ x ∈ straps, ∃ y ∈ straps, x ≠ y) → strapOf straps = 7)) ∧
    (∀ ok, s.rs.stage ≠ .rom → exec (.supervisorImageLoaded ok) s = .next s) ∧
    (s.rs.stage = .rom → (s.rs.counted = true ∨ s.rs.restart = true) → exec (.supervisorImageLoaded false) s = .next s) ∧
    (s.rs.stage = .rom → s.rs.counted = false → s.rs.restart = false → exec (.supervisorImageLoaded false) s =
      .next (happen detBootFailure 0 0 { s with rs := { s.rs with failed := s.rs.failed + 1, counted := true } })) ∧
    (s.rs.stage = .rom → s.mc.banks.length = 64 → ∃ t, exec (.supervisorImageLoaded true) s = .next t ∧
      onlyIn [.mb, .pf, .ev, .mc, .up, .rs, .pw, .sp, .out] s t ∧ t.rs.stage = .firmware ∧ t.rs.supUp = true ∧ t.rs.causes = [] ∧
      t.mb.horizon = (if s.rs.restart then horizonOf s else s.pw.sb.horizon.getD (horizonOf s)) ∧ t.up.moving = true ∧
      (∀ b : Nat, (bankOf t b).st = if 60 ≤ b ∧ b < 64 then .off else (bankOf s b).st)) ∧
    (s.rs.stage = .firmware → s.rs.restart = false → ∃ t, exec .laneImageLoaded s = .next t ∧ onlyIn [.mb, .rs] s t ∧
      t.rs = { s.rs with stage := .lanes } ∧ t.mb.udpPort = paramN s pMbUdpPort ∧ t.mb.ipv4 = paramN s pMbIpv4Addr ∧ t.mb.sessions = s.mb.sessions) ∧
    ((s.rs.stage ≠ .firmware ∨ s.rs.restart = true) → exec .laneImageLoaded s = .next s) ∧
    (s.rs.stage ≠ .lanes → exec .bootProfileActivation s = .next s) ∧
    (s.rs.stage = .lanes → s.rs.intent = none → s.up.commit.st = .prepared → s.up.commit.leader = false →
      exec .bootProfileActivation s = .next s) ∧
    (∀ i, s.rs.stage = .lanes → s.rs.intent = some i → ∃ t, exec .bootProfileActivation s = .next t ∧ t.rs.lifecycle = i.target ∧ t.rs.intent = none ∧
      t.rs.supUp = false ∧ (s.rs.lifecycle = 2 → i.target = 3 → t.rs.fuses = i.map)) ∧
    (s.rs.stage = .lanes → s.rs.intent = none → s.up.commit.st = .none → ∃ t, exec .bootProfileActivation s = .next t ∧ t.rs = { s.rs with stage := .active } ∧
      t.pf.startPending = true ∧ t.pf.none = false ∧
      (∀ k src, strapChoice s = (k, src) →
        t.pf.active = (if k = 16 ∨ slotFail k (loadJudge k s) ≠ none then 16 else k) ∧
        t.pf.source = (if k ≠ 16 ∧ slotFail k (loadJudge k s) ≠ none then 3 else src))) ∧
    ((s.rs.stage ≠ .active ∨ s.gr.running = false) → ∀ ms, exec (.bootComplete ms) s = .next s) ∧
    (s.rs.stage = .active → s.gr.running = true → ∀ ms, ∃ t, exec (.bootComplete ms) s = .next t ∧ t.rs = { s.rs with
        stage := .done
        failed := 0
        counted := false
        bootMs := ms
        rstout := true } ∧
      ((s.up.commit.st ≠ .activated ∨ s.up.old.isSome = true) → onlyIn [.rs] s t) ∧
      (s.up.commit.st = .activated → s.up.old = none → onlyIn (.rs :: .up :: tells) s t ∧
        t.up.old = some ⟨s.pf.slots.map (fun cs => cs.map (fun c => (c.gen, c.image, c.good))), s.pf.settings⟩)) ∧
    (∀ us : Fin 1000,
      let booting := s.rs.stage = .rom ∨ s.rs.stage = .firmware ∨ s.rs.stage = .active ∨ (s.rs.stage = .lanes ∧ s.up.commit.st ≠ .prepared)
      ((¬booting ∨ s.clk.ms < s.rs.bootAt + 10000) → exec (.bootTimeout us) s = .next s) ∧
      (booting → s.rs.bootAt + 10000 ≤ s.clk.ms → ∃ t, exec (.bootTimeout us) s = .next t ∧ (4, 1) ∈ t.rs.asserted ∧ t.rs.supUp = false ∧
        t.rs.stage = .system ∧ (s.rs.counted = false → s.rs.restart = false → t.rs.failed = s.rs.failed + 1))) ∧
    ((s.rs.stage ≠ .firmware ∨ s.rs.restart = false) → exec .l2RestartComplete s = .next s) ∧
    (s.rs.stage = .firmware → s.rs.restart = true → ∃ t, exec .l2RestartComplete s = .next t ∧ onlyIn [.mb, .pf, .ev, .qz, .gn, .cn, .rs, .out] s t ∧
      t.rs = { s.rs with restart := false, stage := .done, rstout := true })

/-- A permission for lifecycle state SERVICE lasts 600 s (R379). Standby entry ends with the domains off, Mica empty and L1 held by SWR, once the work
is done or after 1,500 ms (R397); a wake that mode and mask admit is latched, and after 10 ms in standby the first releases the hold (R398). -/
def Obligations.StandbySleepsAndWakes : Prop :=
  ∀ s : State,
    (∀ at', s.rs.permit = some at' →
      (s.clk.ms < at' + 600000 → exec .permitServiceExpiry s = .next s) ∧
      (at' + 600000 ≤ s.clk.ms → exec .permitServiceExpiry s = .next { s with rs := { s.rs with permit := none } })) ∧
    (s.rs.permit = none → exec .permitServiceExpiry s = .next s) ∧
    (∀ us : Fin 1000,
      let done := (unflushed s = 0 ∧ s.ev.snapq = [] ∧ s.ev.fixq = []) ∨ s.pw.sb.since + 1500 ≤ s.clk.ms
      ((s.pw.sb.ph ≠ .entering ∨ ¬done) → exec (.standbyDomainsOff us) s = .next s) ∧
      (s.pw.sb.ph = .entering → done → s.pw.doms.length = 13 → ∃ t, exec (.standbyDomainsOff us) s = .next t ∧ t.pw.sb.ph = .asleep ∧
        (5, 1) ∈ t.rs.asserted ∧ t.rs.supUp = false ∧ t.clk.running = false ∧ t.mc.mem = [] ∧ (∀ b : Nat, b < 64 → (bankOf t b).st = .off) ∧
        (∀ d : Nat, 1 ≤ d → d ≤ 12 → domOf t d = .off) ∧ domOf t 0 = domOf s 0)) ∧
    (∀ (cause : Fin 9) (ms rtc : Nat), s.pw.sb.latched = [] →
      let on := s.pw.sb.accepted = true ∨ s.pw.sb.ph ≠ .awake
      ((¬on ∨ wakeMay s cause.val = false) → exec (.standbyWake cause ms rtc) s = .next s) ∧
      (on → wakeMay s cause.val = true → (s.pw.sb.ph ≠ .asleep ∨ ms < 10) →
        exec (.standbyWake cause ms rtc) s = .next { s with pw := { s.pw with sb := { s.pw.sb with latched := [cause.val] } } }) ∧
      (on → wakeMay s cause.val = true → s.pw.sb.ph = .asleep → 10 ≤ ms → ∃ t, exec (.standbyWake cause ms rtc) s = .next t ∧
        onlyIn [.mb, .ev, .rs, .pw, .sp] s t ∧ t.pw.sb = { s.pw.sb with
          ph := .awake
          latched := []
          wakeCause := cause.val
          wakeFrame := rtc } ∧ t.rs.asserted = s.rs.asserted.filter (fun a => a.1 != 5) ∧
        (s.rs.asserted = [(5, 1)] → s.rs.stage = .system → t.rs.stage = .loading)))

/-! ### Power, inputs and the panel -/

/-- The supplies and their states: VSUP_REDUCED defers the panel and D12's work, VSUP_NORMAL resumes it (R388, R389); VBAT outside its range switches
every valve and load switch off and its return lets standing requests turn on afresh (R388, R390); sensor supplies switch off in limit and try again
(R393); temperature warns and gates (R402); a STOP input removes its group's gate supply and the two inputs' disagreement is timed (R403); without
CLK_KEEP the RTC is not valid (R401). -/
def Obligations.PowerConditionsAct : Prop :=
  ∀ s : State, s.ev.injs = [] →
    let resting := fun (t : State) (ch : Nat) => (vdChan t ch).st = .fault ∨ (vdChan t ch).st = .idle ∨ (vdChan t ch).st = .off
    let driven := fun (t : State) (ch : Nat) => (lsChan t ch).st = .on ∨ (lsChan t ch).st = .limit ∨ (lsChan t ch).st = .start ∨ (lsChan t ch).st = .retryWait
    let left := fun (st : VbatSt) (mv : Nat) (t : State) => onlyIn (.vd :: .ls :: .an :: .pw :: .free :: tells) s t ∧ t.pw = { s.pw with vbat := st } ∧
      t.an = { s.an with vbat := mv, vbatOut := true } ∧ (∀ ch : Nat, ch < 12 → resting t ch) ∧
      (∀ ch : Nat, ch < 24 → ¬driven t ch ∧ (lsChan t ch).req = (lsChan s ch).req)
    (∀ mv us : Nat,
      ((8000 ≤ mv ∨ us < 1000 ∨ s.pw.vsupReduced = true) → exec (.vsupReducedEntry mv us) s = .next s) ∧
      (mv < 8000 → 1000 ≤ us → s.pw.vsupReduced = false → s.pw.doms.length = 13 → ∃ t, exec (.vsupReducedEntry mv us) s = .next t ∧
        onlyIn [.an, .pw, .sp] s t ∧ t.an = { s.an with vsup := mv } ∧ t.pw.vsupReduced = true ∧
        (∀ d : Nat, domOf t d = if (d = 11 ∨ d = 12) ∧ domOf s d = .on then .reduced else domOf s d)) ∧
      ((6000 ≤ mv ∨ us < 1000 ∨ s.pw.vbat ≠ .normal) → exec (.vbatLowEntry mv us) s = .next s) ∧
      (mv < 6000 → 1000 ≤ us → s.pw.vbat = .normal → s.vd.chans.length = 12 → ∃ t, exec (.vbatLowEntry mv us) s = .next t ∧ left .low mv t) ∧
      ((mv ≤ 40000 ∨ us < 50 ∨ s.pw.vbat ≠ .normal) → exec (.vbatHighEntry mv us) s = .next s) ∧
      (40000 < mv → 50 ≤ us → s.pw.vbat = .normal → s.vd.chans.length = 12 → ∃ t, exec (.vbatHighEntry mv us) s = .next t ∧ left .high mv t)) ∧
    (∀ mv ms : Nat,
      let back := (s.pw.vbat = .low ∧ 6500 ≤ mv) ∨ (s.pw.vbat = .high ∧ mv ≤ 38000)
      ((mv < 8300 ∨ ms < 10 ∨ s.pw.vsupReduced = false) → exec (.vsupNormalReturn mv ms) s = .next s) ∧
      (8300 ≤ mv → 10 ≤ ms → s.pw.vsupReduced = true → s.pw.doms.length = 13 → ∃ t, exec (.vsupNormalReturn mv ms) s = .next t ∧
        onlyIn [.mc, .an, .pw, .sp] s t ∧ t.an = { s.an with vsup := mv } ∧ t.pw.vsupReduced = false ∧ t.mc.mem = s.mc.mem ∧
        (s.sp.st = .paused → t.sp.st = (if 4 ≤ s.sp.phase then .compensate else .update)) ∧ (s.sp.st ≠ .paused → t.sp = s.sp) ∧
        (∀ d : Nat, domOf t d = if (d = 11 ∨ d = 12) ∧ domOf s d = .reduced then .on else domOf s d)) ∧
      ((¬back ∨ ms < 10) → exec (.vbatNormalReturn mv ms) s = .next s) ∧
      (back → 10 ≤ ms → ∃ t, exec (.vbatNormalReturn mv ms) s = .next t ∧ onlyIn [.ls, .an, .pw] s t ∧ t.pw = { s.pw with vbat := .normal } ∧
        t.an = { s.an with vbat := mv, vbatOut := false } ∧
        (∀ ch : Nat, ch < 24 → (lsChan s ch).st = .off → (lsChan s ch).req = true → lsGate t ch = true → (lsChan t ch).st = .on) ∧
        (∀ ch : Nat, ch < 24 → (lsChan s ch).req = false → lsChan t ch = lsChan s ch)) ∧
      (∃ t, exec (.vbatUvOvDetect mv ms) s = .next t ∧ onlyIn (.an :: tells) s t ∧ t.an = { s.an with vbat := mv } ∧
        isPresent t detVbatUndervoltage 0 =
          (isPresent s detVbatUndervoltage 0 || (decide ((mv : Int) < param s pPwVbatUv) && decide (100 ≤ ms))) ∧
        isPresent t detVbatOvervoltage 0 =
          (isPresent s detVbatOvervoltage 0 || (decide (param s pPwVbatOv < (mv : Int)) && decide (10 ≤ ms))))) ∧
    (∀ sup : Fin 6, s.pw.sups.length = 6 →
      let k := sup.val
      let x := supOf s k
      let rated := if k < 4 then (60, 5000) else (40, 10000)
      let others := fun (t : State) => onlyIn (.pw :: tells) s t ∧ ∀ j : Nat, j ≠ k → supOf t j = supOf s j
      (∀ ma mv ms : Nat,
        let trips := rated.2 + 500 < mv ∨ (rated.1 * 125 ≤ ma * 100 ∧ 10 ≤ ms)
        (x.st ≠ .on → x.st ≠ .limit → exec (.sensorSupplyFault sup ma mv ms) s = .next s) ∧
        ((x.st = .on ∨ x.st = .limit) → trips → ∃ t, exec (.sensorSupplyFault sup ma mv ms) s = .next t ∧ others t ∧
          supOf t k = ⟨.fault, 0, decide (rated.2 + 500 < mv), s.clk.ms⟩ ∧ isPresent t detSensorSupplyFault (k + 1) = true) ∧
        ((x.st = .on ∨ x.st = .limit) → ¬trips → ∃ t, exec (.sensorSupplyFault sup ma mv ms) s = .next t ∧ others t ∧
          supOf t k = { x with ma := ma, st := if rated.1 * 125 ≤ ma * 100 then .limit else .on })) ∧
      (∀ limited : Bool,
        ((x.st ≠ .fault ∨ x.short = true ∨ s.clk.ms < x.since + 1000) → exec (.sensorSupplyRetry sup limited) s = .next s) ∧
        (x.st = .fault → x.short = false → x.since + 1000 ≤ s.clk.ms → ∃ t, exec (.sensorSupplyRetry sup limited) s = .next t ∧ others t ∧
          (limited = true → supOf t k = { x with since := s.clk.ms }) ∧
          (limited = false → (supOf t k).st = .on ∧ isPresent t detSensorSupplyFault (k + 1) = false))) ∧
      ((x.st ≠ .fault ∨ x.short = false) → exec (.sensorSupplyShortRemoved sup) s = .next s) ∧
      (x.st = .fault → x.short = true → ∃ t, exec (.sensorSupplyShortRemoved sup) s = .next t ∧ others t ∧ (supOf t k).st = .on ∧
        isPresent t detSensorSupplyFault (k + 1) = false)) ∧
    (∀ (temp : Int) (ms : Nat), ∃ t, exec (.overTemperature temp ms) s = .next t ∧ onlyIn (.an :: .pw :: tells) s t ∧ t.an = { s.an with temp := temp } ∧
      t.pw = { s.pw with gated := decide (param s pPwTempWarn + 100 ≤ temp) || (s.pw.gated && !decide (temp < param s pPwTempWarn - 50)) } ∧
      (param s pPwTempWarn ≤ temp → 1000 ≤ ms → isPresent t detModuleOverTemperature 0 = true) ∧
      (temp < param s pPwTempWarn → isPresent t detModuleOverTemperature 0 = false) ∧
      (param s pPwTempWarn ≤ temp → ms < 1000 → isPresent t detModuleOverTemperature 0 = isPresent s detModuleOverTemperature 0)) ∧
    (∀ (g : Fin 2) (asserted : Bool),
      let b := g.val == 1
      let a := if b then { s.an with stopB := asserted } else { s.an with stopA := asserted }
      ∃ t, exec (.stopInputChange g asserted) s = .next t ∧ onlyIn (.vd :: .ls :: .an :: .pw :: .free :: tells) s t ∧ t.an = a ∧
        (a.stopA = a.stopB → t.pw.stopDiff = none ∧ isPresent t detStopANAndStopBNDisagree 0 = false) ∧
        (a.stopA ≠ a.stopB → t.pw.stopDiff = some (s.pw.stopDiff.getD s.clk.ms)) ∧
        (asserted = false → t.vd = s.vd ∧ t.ls = s.ls) ∧
        (asserted = true → s.vd.chans.length = 12 → (∀ ch : Nat, ch < 12 → vdGroupB s ch = b → resting t ch) ∧
          (∀ ch : Nat, ch < 24 → lsGroupB s ch = b → ¬driven t ch ∧ (lsChan t ch).req = false) ∧
          (∀ ch : Nat, ch < 24 → lsGroupB s ch ≠ b → lsChan t ch = lsChan s ch))) ∧
    (∀ since, s.pw.stopDiff = some since →
      (since + paramN s pPwStopDiscrepancy ≤ s.clk.ms → exec .stopDiscrepancy s = .next (beginCond detStopANAndStopBNDisagree 0 0 s)) ∧
      (s.clk.ms < since + paramN s pPwStopDiscrepancy → exec .stopDiscrepancy s = .next s)) ∧
    (s.pw.stopDiff = none → ∃ t, exec .stopDiscrepancy s = .next t ∧ onlyIn tells s t ∧ isPresent t detStopANAndStopBNDisagree 0 = false) ∧
    exec .clkKeepStop s = .next { s with pw := { s.pw with clkKeep := false, rtcValid := false } }

/-- Inputs out of range are detected where the profile declares them (R434): a current above 25,000 µA opens the shunt for 1,000 ms, an open loop is
told after 100 frames and an over-range voltage after 10; a frequency input without an edge for 2,000 ms reads 0 and fresh (R433); a bridge's
excitation fault lasts while its condition holds (R141). Nothing is judged while D10 is not ON. -/
def Obligations.InputsAreJudged : Prop :=
  ∀ s : State, s.ev.injs = [] → s.an.ains.length = 40 → s.an.fqs.length = 24 →
    (∀ (ch : Fin 40) (raw : Int) (us : Nat),
      let x := ainOf s ch.val
      let opens := ainMode s ch.val = 2 ∧ x.openAt = none ∧ 25000 < raw ∧ 1000 ≤ us
      (domOf s 10 ≠ .on → exec (.ainOutOfRange ch raw us) s = .next s) ∧
      (domOf s 10 = .on → opens → ∃ t, exec (.ainOutOfRange ch raw us) s = .next t ∧ onlyIn (.an :: tells) s t ∧
        ainOf t ch.val = { x with openAt := some s.clk.ms, low := 0 } ∧ isPresent t detAnalogInputOutOfRange (ch.val + 1) = true ∧
        (∀ k : Nat, k ≠ ch.val → ainOf t k = ainOf s k)) ∧
      (domOf s 10 = .on → ¬opens → (100 ≤ x.low ∨ 10 ≤ x.above) →
        exec (.ainOutOfRange ch raw us) s = .next (beginCond detAnalogInputOutOfRange (ch.val + 1) (data32 raw) s)) ∧
      (¬opens → x.low < 100 → x.above < 10 → exec (.ainOutOfRange ch raw us) s = .next s) ∧
      (x.openAt = none → exec (.ainShuntReclose ch) s = .next s) ∧
      (∀ since, x.openAt = some since →
        (s.clk.ms < since + 1000 → exec (.ainShuntReclose ch) s = .next s) ∧
        (since + 1000 ≤ s.clk.ms → ∃ t, exec (.ainShuntReclose ch) s = .next t ∧ onlyIn [.an] s t ∧
          ainOf t ch.val = { x with openAt := none } ∧ (∀ k : Nat, k ≠ ch.val → ainOf t k = ainOf s k)))) ∧
    (∀ ch : Fin 24,
      ((domOf s 10 ≠ .on ∨ s.clk.ms < (fqOf s ch.val).edge + 2000) → exec (.fqEdgeTimeout ch) s = .next s) ∧
      (domOf s 10 = .on → (fqOf s ch.val).edge + 2000 ≤ s.clk.ms → ∃ t, exec (.fqEdgeTimeout ch) s = .next t ∧ onlyIn [.an] s t ∧
        fqOf t ch.val = { fqOf s ch.val with raw := 0, still := true } ∧ (∀ k : Nat, k ≠ ch.val → fqOf t k = fqOf s k))) ∧
    (∀ (ch : Fin 6) (ma : Int) (limit : Bool) (ms : Nat),
      (domOf s 10 ≠ .on → exec (.bridgeExcitationFault ch ma limit ms) s = .next s) ∧
      (domOf s 10 = .on → ∃ t, exec (.bridgeExcitationFault ch ma limit ms) s = .next t ∧ onlyIn tells s t ∧
        isPresent t detBridgeExcitationFault (ch.val + 1) =
          ((limit && decide (10 ≤ ms)) || decide (ma < 0) || (decide (ma < 1) && decide (10 ≤ ms)))))

/-- The panel: a due update starts when the driver may drive, after compensation where a ledger is owed (R409, R413, R414, Table 16-3); a phase ends
after T or the longest compensation time, its volt-time is booked and a guard of 1 ms follows, or the update is complete and copied (R407, R411); a
faulty pin takes its segment, and the common pin the panel, out of service (Table 16-4). The frame's microsecond is the event's own. -/
def Obligations.PanelDrivesSegments : Prop :=
  ∀ (us : Fin 1000) (s : State),
    let now := s.clk.ms * 1000 + us.val
    let p := s.sp
    let drives := panelMayDrive s = true
    let runs := p.st = .compensate ∨ p.st = .update
    (drives ↔ (s.pw.vsupReduced = false ∧ s.pw.sb.ph = .awake)) ∧
    ((p.st ≠ .idle ∨ ¬drives ∨ panelDue s = false) → exec (.panelUpdateStart us) s = .next s) ∧
    (p.st = .idle → drives → panelDue s = true →
      let band := panelBand (panelTemp s)
      (ledgerOwed s = true → ∃ t, exec (.panelUpdateStart us) s = .next t ∧ onlyIn [.sp] s t ∧ t.sp.st = .compensate ∧ t.sp.vp = band.1 ∧
        t.sp.t = band.2 * paramN s pSpTScale / 100 ∧ t.sp.since = now ∧ (t.sp.phase = 4 ∨ t.sp.phase = 5) ∧ t.sp.guard = false ∧
        (∀ n d : Nat, (n, d) ∈ t.sp.c1 ++ t.sp.c2 → d = compTime (ledgerOf s n) band.1 ∧ bit p.dead n = false ∧ bit t.sp.uncertain n = true ∧
          paramN s pSpLedgerMin ≤ (ledgerOf s n).natAbs)) ∧
      (ledgerOwed s = false → ∃ t, exec (.panelUpdateStart us) s = .next t ∧ onlyIn [.sp] s t ∧ t.sp.vp = band.1 ∧
        t.sp.t = band.2 * paramN s pSpTScale / 100 ∧ t.sp.started = some s.clk.ms ∧ t.sp.waiting = none ∧ t.sp.refresh = false ∧
        t.sp.target = p.target ∧ t.sp.displayed = p.displayed ∧
        (∀ n : Nat, n < 48 → (bit t.sp.dark n = true ∨ bit t.sp.light n = true ↔
          bit p.dead n = false ∧ (panelRefresh p = true ∨ bit p.target n ≠ bit p.displayed n))) ∧
        (∀ n : Nat, n < 48 → (bit t.sp.dark n = true → bit p.target n = true) ∧ (bit t.sp.light n = true → bit p.target n = false)) ∧
        ((t.sp.dark ≠ 0 ∨ t.sp.light ≠ 0) → t.sp.st = .update ∧ t.sp.since = now ∧ 1 ≤ t.sp.phase ∧ t.sp.phase ≤ 2) ∧
        (t.sp.dark = 0 → t.sp.light = 0 → t.sp.st = .idle ∧ t.sp.phase = 0))) ∧
    (
      let done := runs ∧ p.phase ≠ 0 ∧ p.guard = false ∧ p.since + phaseTime p ≤ now
      (¬done → exec (.panelPhaseEnd us) s = .next s) ∧
      (done → s.ev.injs = [] → ∃ t, exec (.panelPhaseEnd us) s = .next t ∧ onlyIn (.sp :: tells) s t ∧
        t.sp.ledgers = (bookPhase (fun _ => true) (phaseTime p) p).ledgers ∧ t.sp.displayed = phaseShown p ∧ t.sp.target = p.target ∧
        t.sp.dead = p.dead ∧
        (p.st = .update → nextPhase p = none → t.sp.st = .idle ∧ t.sp.phase = 0 ∧ t.sp.completed = wrapU 32 (p.completed + 1) ∧
          t.sp.uncertain = 0 ∧ t.sp.running = none ∧ t.sp.lastDone = p.running.getD p.lastDone ∧ t.sp.ended = some s.clk.ms ∧
          t.sp.copy = ⟨t.sp.displayed, t.sp.target, 0, t.sp.ledgers⟩) ∧
        ((p.st = .compensate ∨ nextPhase p ≠ none) → t.sp.guard = true ∧ t.sp.since = now ∧ t.sp.phase = p.phase ∧
          t.sp.st = (if panelMayDrive s then p.st else .paused)))) ∧
    (
      let done := runs ∧ p.guard = true ∧ p.since + 1000 ≤ now ∧ drives
      (¬done → exec (.panelGuardEnd us) s = .next s) ∧
      (∀ n, done → nextPhase p = some n → exec (.panelGuardEnd us) s = .next { s with sp := { p with
        phase := n
        guard := false
        since := now } }) ∧
      (done → nextPhase p = none → p.st = .compensate → ∃ t, exec (.panelGuardEnd us) s = .next t ∧ onlyIn [.sp] s t ∧
        t.sp.started = some s.clk.ms ∧ t.sp.ledgers = p.ledgers)) ∧
    (∀ pin : Fin 50,
      (pin.val = 0 → exec (.panelPinFault pin us) s = .next s) ∧
      (pin.val ≠ 0 → ∃ t, exec (.panelPinFault pin us) s = .next t ∧ onlyIn (.sp :: tells) s t ∧
        (pin.val = 49 → t.sp.st = .fault ∧ t.sp.phase = 0 ∧ t.sp.guard = false) ∧
        (pin.val < 49 → t.sp.st = p.st ∧ t.sp.dead = maskOr p.dead (2 ^ (pin.val - 1)) ∧ t.sp.target = p.target ∧ t.sp.displayed = p.displayed ∧
          (∀ n d : Nat, (n, d) ∈ t.sp.c1 ++ t.sp.c2 → n ≠ pin.val - 1))))

/-! ### The whole block -/

/-- After reset (the values that the specification states): the epoch is 1 (R34) and no session or command is held; RSEQ starts at 1 (R324); Granite is in
START with SAFE_A and SAFE_B asserted and drives nothing; every Quartz channel, valve channel and load switch is OFF and every CAN port DISABLED; module
time is NO_TIME; banks 0 to 59 of Mica are ON and 60 to 63 OFF, all of them without content (Table 11-4); no update is known and the commit
record is NONE; the queue of commands is empty; and the invariant of Mica holds. -/
def Obligations.AfterReset : Prop :=
  let s := State.reset
  Inv s ∧ s.pending = [] ∧ s.out = [] ∧ s.mb.epoch = 1 ∧ s.mb.sessions = [] ∧ s.mb.exch = [] ∧ s.ev.nextRseq = 1 ∧ s.ev.fixed = [] ∧ s.ev.snaps = [] ∧
    s.gr.mode = .start ∧ s.gr.running = false ∧ s.gr.safeA = true ∧ s.gr.safeB = true ∧
    (∀ ch : Nat, ch < 32 → (nth s.qz.chans ch qzChan0).st = .off) ∧ s.qz.chans.length = 32 ∧
    (∀ ch : Nat, ch < 12 → (vdChan s ch).st = .off) ∧ s.vd.chans.length = 12 ∧ s.vd.conv = .off ∧
    (∀ ch : Nat, ch < 24 → (lsChan s ch).st = .off ∧ (lsChan s ch).req = false) ∧ s.ls.chans.length = 24 ∧
    (∀ p : Nat, p < 4 → (canPort s p).st = .disabled) ∧ s.cn.ports.length = 4 ∧ s.gn.time.st = .noTime ∧ s.gn.steer.st = .off ∧ s.fb.db = [] ∧
    (∀ b : Nat, b < 64 → (bankOf s b).st = (if b < 60 then .on else .off) ∧ bankServes s b = decide (b < 60)) ∧ (∀ a : Nat, readByte s.mc.mem a = 0) ∧
    s.mc.ring = .free ∧ s.up.camps = [] ∧ s.up.commit.st = .none ∧ s.rs.supUp = false ∧ s.clk.running = false ∧ s.an.gate = false

/-- Whatever a command does, it leaves every part of the state alone that its rules do not name: the mailbox, the working copy, the records, Granite,
the channels, the fabric, Mica, the update, the supplies, the panel and the queue of commands, each held by its own field. -/
def Obligations.ChangesStayInTheirParts : Prop :=
  ∀ (i : Instr) (s t : State), exec i s = .next t → onlyIn (reach i) s t

/-- From every state in which Mica's content is canonical, inside its 64 MB, and held only by banks that are not OFF and have been zeroed since they
last were, every step that answers a next state leaves it so (R297, R301, R305). -/
def Obligations.EveryStepKeepsMicaSound : Prop :=
  ∀ s t : State, Inv s → step s = .next t → Inv t
end

