-- ==== Sys2Proof/Laws/Frame.lean ====
section
/-!
SUPPORT. Laws/Frame.lean: the small lemmas of `onlyIn`, by which a meaning is shown to leave parts of the state alone.
-/

namespace Sys2Proof.Machine

open Sys2Proof.Safety

/-- A list of parts lies in another. -/
def subParts (a b : List Part) : Bool := a.all b.contains

theorem onlyIn_refl (T : List Part) (s : State) : onlyIn T s s := fun p _ => by cases p <;> rfl

theorem samePart_trans {x y z : State} {p : Part} (h : samePart x y p) (g : samePart y z p) : samePart x z p := by
  cases p <;> exact Eq.trans g h

/-- A further operation on a state that a meaning has reached. -/
theorem onlyIn_step {T T' : List Part} {s x y : State} (h : onlyIn T' x y) (hs : subParts T' T = true) (hx : onlyIn T s x) : onlyIn T s y := by
  intro p hp
  refine samePart_trans (hx p hp) (h p (fun hm => hp ?_))
  simp only [subParts, List.all_eq_true] at hs
  simpa using hs p hm

theorem onlyIn_mono {T T' : List Part} {s t : State} (h : onlyIn T' s t) (hs : subParts T' T = true) : onlyIn T s t :=
  onlyIn_step h hs (onlyIn_refl _ _)

theorem onlyIn_ite {T : List Part} {s a b : State} {c : Prop} [Decidable c] (ha : onlyIn T s a) (hb : onlyIn T s b) :
    onlyIn T s (if c then a else b) := by
  split <;> assumption

theorem onlyIn_ite1 {α : Type} {T : List Part} {s : State} {a b : State × α} {c : Prop} [Decidable c] (ha : onlyIn T s a.1) (hb : onlyIn T s b.1) :
    onlyIn T s (if c then a else b).1 := by
  split <;> assumption

theorem onlyIn_ite2 {α : Type} {T : List Part} {s : State} {a b : α × State} {c : Prop} [Decidable c] (ha : onlyIn T s a.2) (hb : onlyIn T s b.2) :
    onlyIn T s (if c then a else b).2 := by
  split <;> assumption

theorem onlyIn_ite22 {α β : Type} {T : List Part} {s : State} {a b : α × β × State} {c : Prop} [Decidable c] (ha : onlyIn T s a.2.2)
    (hb : onlyIn T s b.2.2) : onlyIn T s (if c then a else b).2.2 := by
  split <;> assumption

theorem onlyIn_pair1 {α : Type} {T : List Part} {s x : State} {a : α} (h : onlyIn T s x) : onlyIn T s (x, a).1 := h

theorem onlyIn_pair2 {α : Type} {T : List Part} {s x : State} {a : α} (h : onlyIn T s x) : onlyIn T s (a, x).2 := h

theorem onlyIn_pair22 {α β : Type} {T : List Part} {s : State} {a : α} {q : β × State} (h : onlyIn T s q.2) : onlyIn T s (a, q).2.2 := h

theorem onlyIn_ans {T : List Part} {s x : State} {st : Nat} {b : Bytes} (h : onlyIn T s x) : onlyIn T s (ans x st b).1 := h

theorem onlyIn_fold2 {α β : Type} {T : List Part} {s : State} {x : α × State} (f : α × State → β → α × State) (l : List β)
    (hf : ∀ q a, onlyIn T q.2 (f q a).2) (hx : onlyIn T s x.2) : onlyIn T s (l.foldl f x).2 := by
  induction l generalizing x with
  | nil => exact hx
  | cons a l ih => exact ih (onlyIn_step (hf x a) (by simp [subParts]) hx)

theorem onlyIn_fold1 {α β : Type} {T : List Part} {s : State} {x : State × α} (f : State × α → β → State × α) (l : List β)
    (hf : ∀ q a, onlyIn T q.1 (f q a).1) (hx : onlyIn T s x.1) : onlyIn T s (l.foldl f x).1 := by
  induction l generalizing x with
  | nil => exact hx
  | cons a l ih => exact ih (onlyIn_step (hf x a) (by simp [subParts]) hx)

/-- A fold whose every step stays in the parts. -/
theorem onlyIn_fold {α : Type} {T : List Part} {s x : State} (f : State → α → State) (l : List α)
    (hf : ∀ st a, onlyIn T st (f st a)) (hx : onlyIn T s x) : onlyIn T s (l.foldl f x) := by
  induction l generalizing x with
  | nil => exact hx
  | cons a l ih => exact ih (onlyIn_step (hf x a) (by simp [subParts]) hx)

theorem onlyIn_put_an (v0 : Analog) (x : State) : onlyIn [.an] x { x with an := v0 } :=
  fun p hp => by cases p <;> first | rfl | exact absurd (by decide) hp

theorem onlyIn_put_cf (v0 : CropFlow) (x : State) : onlyIn [.cf] x { x with cf := v0 } :=
  fun p hp => by cases p <;> first | rfl | exact absurd (by decide) hp

theorem onlyIn_put_cf_mc (v0 : CropFlow) (v1 : Mica) (x : State) : onlyIn [.cf, .mc] x { x with cf := v0, mc := v1 } :=
  fun p hp => by cases p <;> first | rfl | exact absurd (by decide) hp

theorem onlyIn_put_clk (v0 : Clock) (x : State) : onlyIn [.clk] x { x with clk := v0 } :=
  fun p hp => by cases p <;> first | rfl | exact absurd (by decide) hp

theorem onlyIn_put_clk_mb_ev_gr_cf_gn (v0 : Clock) (v1 : Mailbox) (v2 : Events) (v3 : Granite) (v4 : CropFlow) (v5 : Gnss) (x : State) : onlyIn [.clk, .mb, .ev, .gr, .cf, .gn] x { x with clk := v0, mb := v1, ev := v2, gr := v3, cf := v4, gn := v5 } :=
  fun p hp => by cases p <;> first | rfl | exact absurd (by decide) hp

theorem onlyIn_put_clk_pf_ev_gr_gn_up_an_rs_pw (v0 : Clock) (v1 : Profiles) (v2 : Events) (v3 : Granite) (v4 : Gnss) (v5 : Update) (v6 : Analog) (v7 : ResetLife) (v8 : Power) (x : State) : onlyIn [.clk, .pf, .ev, .gr, .gn, .up, .an, .rs, .pw] x { x with clk := v0, pf := v1, ev := v2, gr := v3, gn := v4, up := v5, an := v6, rs := v7, pw := v8 } :=
  fun p hp => by cases p <;> first | rfl | exact absurd (by decide) hp

theorem onlyIn_put_clk_pw (v0 : Clock) (v1 : Power) (x : State) : onlyIn [.clk, .pw] x { x with clk := v0, pw := v1 } :=
  fun p hp => by cases p <;> first | rfl | exact absurd (by decide) hp

theorem onlyIn_put_cn (v0 : Can) (x : State) : onlyIn [.cn] x { x with cn := v0 } :=
  fun p hp => by cases p <;> first | rfl | exact absurd (by decide) hp

theorem onlyIn_put_ev (v0 : Events) (x : State) : onlyIn [.ev] x { x with ev := v0 } :=
  fun p hp => by cases p <;> first | rfl | exact absurd (by decide) hp

theorem onlyIn_put_ev_an (v0 : Events) (v1 : Analog) (x : State) : onlyIn [.ev, .an] x { x with ev := v0, an := v1 } :=
  fun p hp => by cases p <;> first | rfl | exact absurd (by decide) hp

theorem onlyIn_put_fb (v0 : Fabric) (x : State) : onlyIn [.fb] x { x with fb := v0 } :=
  fun p hp => by cases p <;> first | rfl | exact absurd (by decide) hp

theorem onlyIn_put_free (v0 : Nat) (x : State) : onlyIn [.free] x { x with free := v0 } :=
  fun p hp => by cases p <;> first | rfl | exact absurd (by decide) hp

theorem onlyIn_put_gn (v0 : Gnss) (x : State) : onlyIn [.gn] x { x with gn := v0 } :=
  fun p hp => by cases p <;> first | rfl | exact absurd (by decide) hp

theorem onlyIn_put_gr (v0 : Granite) (x : State) : onlyIn [.gr] x { x with gr := v0 } :=
  fun p hp => by cases p <;> first | rfl | exact absurd (by decide) hp

theorem onlyIn_put_ls (v0 : Loads) (x : State) : onlyIn [.ls] x { x with ls := v0 } :=
  fun p hp => by cases p <;> first | rfl | exact absurd (by decide) hp

theorem onlyIn_put_ls_an (v0 : Loads) (v1 : Analog) (x : State) : onlyIn [.ls, .an] x { x with ls := v0, an := v1 } :=
  fun p hp => by cases p <;> first | rfl | exact absurd (by decide) hp

theorem onlyIn_put_mb (v0 : Mailbox) (x : State) : onlyIn [.mb] x { x with mb := v0 } :=
  fun p hp => by cases p <;> first | rfl | exact absurd (by decide) hp

theorem onlyIn_put_mb_cn (v0 : Mailbox) (v1 : Can) (x : State) : onlyIn [.mb, .cn] x { x with mb := v0, cn := v1 } :=
  fun p hp => by cases p <;> first | rfl | exact absurd (by decide) hp

theorem onlyIn_put_mb_ev (v0 : Mailbox) (v1 : Events) (x : State) : onlyIn [.mb, .ev] x { x with mb := v0, ev := v1 } :=
  fun p hp => by cases p <;> first | rfl | exact absurd (by decide) hp

theorem onlyIn_put_mb_pf (v0 : Mailbox) (v1 : Profiles) (x : State) : onlyIn [.mb, .pf] x { x with mb := v0, pf := v1 } :=
  fun p hp => by cases p <;> first | rfl | exact absurd (by decide) hp

theorem onlyIn_put_mb_up (v0 : Mailbox) (v1 : Update) (x : State) : onlyIn [.mb, .up] x { x with mb := v0, up := v1 } :=
  fun p hp => by cases p <;> first | rfl | exact absurd (by decide) hp

theorem onlyIn_put_mc (v0 : Mica) (x : State) : onlyIn [.mc] x { x with mc := v0 } :=
  fun p hp => by cases p <;> first | rfl | exact absurd (by decide) hp

theorem onlyIn_put_out (v0 : (List OutMsg)) (x : State) : onlyIn [.out] x { x with out := v0 } :=
  fun p hp => by cases p <;> first | rfl | exact absurd (by decide) hp

theorem onlyIn_put_pf (v0 : Profiles) (x : State) : onlyIn [.pf] x { x with pf := v0 } :=
  fun p hp => by cases p <;> first | rfl | exact absurd (by decide) hp

theorem onlyIn_put_pw (v0 : Power) (x : State) : onlyIn [.pw] x { x with pw := v0 } :=
  fun p hp => by cases p <;> first | rfl | exact absurd (by decide) hp

theorem onlyIn_put_qz (v0 : Quartz) (x : State) : onlyIn [.qz] x { x with qz := v0 } :=
  fun p hp => by cases p <;> first | rfl | exact absurd (by decide) hp

theorem onlyIn_put_rs (v0 : ResetLife) (x : State) : onlyIn [.rs] x { x with rs := v0 } :=
  fun p hp => by cases p <;> first | rfl | exact absurd (by decide) hp

theorem onlyIn_put_sp (v0 : Panel) (x : State) : onlyIn [.sp] x { x with sp := v0 } :=
  fun p hp => by cases p <;> first | rfl | exact absurd (by decide) hp

theorem onlyIn_put_up (v0 : Update) (x : State) : onlyIn [.up] x { x with up := v0 } :=
  fun p hp => by cases p <;> first | rfl | exact absurd (by decide) hp

theorem onlyIn_put_vd (v0 : Valves) (x : State) : onlyIn [.vd] x { x with vd := v0 } :=
  fun p hp => by cases p <;> first | rfl | exact absurd (by decide) hp

theorem onlyIn_put_vd_an (v0 : Valves) (v1 : Analog) (x : State) : onlyIn [.vd, .an] x { x with vd := v0, an := v1 } :=
  fun p hp => by cases p <;> first | rfl | exact absurd (by decide) hp

end Sys2Proof.Machine
end

