-- ==== Sys2Proof/Laws/FrameOps.lean ====
section
/-!
SUPPORT. Laws/FrameOps.lean: the parts of the state that the definitions of Machine/Ops.lean may change.
-/

namespace Sys2Proof.Machine

open Sys2Proof.Safety

theorem frame_endInjection : ∀ a0 s, onlyIn [.ev] s (endInjection a0 s) := by
  intro a0 s
  unfold endInjection
  split
  · exact onlyIn_refl _ _
  · extract_lets +onlyGivenNames x0
    clear_value x0
    extract_lets +onlyGivenNames x1
    have h2 : onlyIn [.ev] s x1 := by
      dsimp only [x1]
      refine onlyIn_step (onlyIn_put_ev _ _) rfl ?_
      exact onlyIn_refl _ _
    clear_value x1
    refine onlyIn_ite ?_ ?_
    · refine onlyIn_step (onlyIn_put_ev _ _) rfl ?_
      exact h2
    · exact h2

theorem frame_updSess : ∀ a0 a1 s, onlyIn [.mb] s (updSess a0 a1 s) := by
  intro a0 a1 s
  unfold updSess
  refine onlyIn_step (onlyIn_put_mb _ _) rfl ?_
  exact onlyIn_refl _ _

theorem frame_endInjections : ∀ a0 s, onlyIn [.ev] s (endInjections a0 s) := by
  intro a0 s
  unfold endInjections
  refine onlyIn_fold _ _ (fun st0 a1 => ?_) ?_
  · refine onlyIn_step (frame_endInjection _ _) rfl ?_
    exact onlyIn_refl _ _
  · exact onlyIn_refl _ _

theorem frame_ans : ∀ s a1 a2, onlyIn [] s (ans s a1 a2).1 := by
  intro s a1 a2
  unfold ans
  refine onlyIn_pair1 ?_
  exact onlyIn_refl _ _

theorem frame_updChan : ∀ a0 a1 a2 s, onlyIn [.mb] s (updChan a0 a1 a2 s) := by
  intro a0 a1 a2 s
  unfold updChan
  refine onlyIn_ite ?_ ?_
  · refine onlyIn_step (onlyIn_put_mb _ _) rfl ?_
    exact onlyIn_refl _ _
  · refine onlyIn_step (frame_updSess _ _ _) rfl ?_
    exact onlyIn_refl _ _

theorem frame_freshNat : ∀ s, onlyIn [.free] s (freshNat s).2 := by
  intro s
  unfold freshNat
  refine onlyIn_pair2 ?_
  refine onlyIn_step (onlyIn_put_free _ _) rfl ?_
  exact onlyIn_refl _ _

theorem frame_freshBool : ∀ s, onlyIn [.free] s (freshBool s).2 := by
  intro s
  unfold freshBool
  refine onlyIn_pair2 ?_
  refine onlyIn_step (onlyIn_put_free _ _) rfl ?_
  exact onlyIn_refl _ _

theorem frame_writeSettings : ∀ a0 s, onlyIn [.pf] s (writeSettings a0 s) := by
  intro a0 s
  unfold writeSettings
  refine onlyIn_step (onlyIn_put_pf _ _) rfl ?_
  exact onlyIn_refl _ _

theorem frame_freshBytes : ∀ a0 s, onlyIn [.free] s (freshBytes a0 s).2 := by
  intro a0 s
  unfold freshBytes
  refine onlyIn_pair2 ?_
  refine onlyIn_step (onlyIn_put_free _ _) rfl ?_
  exact onlyIn_refl _ _

theorem frame_setWork : ∀ a0 s, onlyIn [.pf] s (setWork a0 s) := by
  intro a0 s
  unfold setWork
  refine onlyIn_step (onlyIn_put_pf _ _) rfl ?_
  exact onlyIn_refl _ _

theorem frame_endOemInjections : ∀ s, onlyIn [.ev] s (endOemInjections s) := by
  intro s
  unfold endOemInjections
  refine onlyIn_ite ?_ ?_
  · exact onlyIn_refl _ _
  · refine onlyIn_step (frame_endInjections _ _) rfl ?_
    exact onlyIn_refl _ _

theorem frame_atCycle : ∀ a0 s, onlyIn [.clk] s (atCycle a0 s) := by
  intro a0 s
  unfold atCycle
  refine onlyIn_step (onlyIn_put_clk _ _) rfl ?_
  exact onlyIn_refl _ _

theorem frame_setParam : ∀ a0 s, onlyIn [.pf] s (setParam a0 s) := by
  intro a0 s
  unfold setParam
  refine onlyIn_ite ?_ ?_
  · refine onlyIn_step (frame_writeSettings _ _) rfl ?_
    exact onlyIn_refl _ _
  · refine onlyIn_step (frame_setWork _ _) rfl ?_
    exact onlyIn_refl _ _

end Sys2Proof.Machine
end

