-- ==== Sys2Proof/Laws/FrameMail.lean ====
section
/-!
SUPPORT. Laws/FrameMail.lean: the parts of the state that the definitions of Machine/Mail.lean may change.
-/

namespace Sys2Proof.Machine

open Sys2Proof.Safety

theorem frame_updSub : ∀ a0 a1 a2 a3 s, onlyIn [.mb] s (updSub a0 a1 a2 a3 s) := by
  intro a0 a1 a2 a3 s
  unfold updSub
  refine onlyIn_step (frame_updSess _ _ _) rfl ?_
  exact onlyIn_refl _ _

theorem frame_send : ∀ a0 s, onlyIn [.out] s (send a0 s) := by
  intro a0 s
  unfold send
  refine onlyIn_step (onlyIn_put_out _ _) rfl ?_
  exact onlyIn_refl _ _

theorem frame_dropSession : ∀ a0 s, onlyIn [.mb, .pf, .ev] s (dropSession a0 s) := by
  intro a0 s
  unfold dropSession
  extract_lets +onlyGivenNames x0
  clear_value x0
  extract_lets +onlyGivenNames x1
  clear_value x1
  extract_lets +onlyGivenNames x2
  have h3 : onlyIn [.mb, .pf, .ev] s x2 := by
    dsimp only [x2]
    refine onlyIn_step (onlyIn_put_mb_pf _ _ _) rfl ?_
    exact onlyIn_refl _ _
  clear_value x2
  refine onlyIn_step (frame_endInjections _ _) rfl ?_
  exact h3

theorem frame_closeSession : ∀ a0 a1 s, onlyIn [.mb, .pf, .ev, .out] s (closeSession a0 a1 s) := by
  intro a0 a1 s
  unfold closeSession
  split
  · exact onlyIn_refl _ _
  · extract_lets +onlyGivenNames x0
    have h1 : onlyIn [.mb, .pf, .ev, .out] s x0 := by
      dsimp only [x0]
      refine onlyIn_ite ?_ ?_
      · refine onlyIn_step (frame_send _ _) rfl ?_
        exact onlyIn_refl _ _
      · exact onlyIn_refl _ _
    clear_value x0
    refine onlyIn_step (frame_dropSession _ _) rfl ?_
    exact h1

theorem frame_sendNote : ∀ a0 a1 a2 s, onlyIn [.mb, .pf, .ev, .out] s (sendNote a0 a1 a2 s) := by
  intro a0 a1 a2 s
  unfold sendNote
  split
  · exact onlyIn_refl _ _
  · extract_lets +onlyGivenNames x0
    have h1 : onlyIn [.mb, .pf, .ev, .out] s x0 := by
      dsimp only [x0]
      refine onlyIn_step (frame_send _ _) rfl ?_
      exact onlyIn_refl _ _
    clear_value x0
    refine onlyIn_ite ?_ ?_
    · refine onlyIn_ite ?_ ?_
      · refine onlyIn_step (frame_closeSession _ _ _) rfl ?_
        refine onlyIn_step (frame_updSess _ _ _) rfl ?_
        exact h1
      · refine onlyIn_step (frame_updSess _ _ _) rfl ?_
        exact h1
    · refine onlyIn_step (frame_updSess _ _ _) rfl ?_
      exact h1

theorem frame_flushSub : ∀ a0 a1 a2 s, onlyIn [.mb, .pf, .ev, .out] s (flushSub a0 a1 a2 s) := by
  intro a0 a1 a2 s
  unfold flushSub
  split
  · exact onlyIn_refl _ _
  · refine onlyIn_fold _ _ (fun st0 a1 => ?_) ?_
    · refine onlyIn_step (frame_sendNote _ _ _ _) rfl ?_
      exact onlyIn_refl _ _
    · refine onlyIn_step (frame_updSub _ _ _ _ _) rfl ?_
      exact onlyIn_refl _ _

theorem frame_offerSub : ∀ a0 a1 a2 s, onlyIn [.mb, .pf, .ev, .out] s (offerSub a0 a1 a2 s) := by
  intro a0 a1 a2 s
  unfold offerSub
  extract_lets +onlyGivenNames x0
  have h1 : onlyIn [.mb, .pf, .ev, .out] s x0 := by
    dsimp only [x0]
    refine onlyIn_step (frame_updSub _ _ _ _ _) rfl ?_
    exact onlyIn_refl _ _
  clear_value x0
  refine onlyIn_ite ?_ ?_
  · refine onlyIn_step (frame_flushSub _ _ _ _) rfl ?_
    exact h1
  · exact h1

theorem frame_notifyAll : ∀ a0 a1 a2 s, onlyIn [.mb, .pf, .ev, .out] s (notifyAll a0 a1 a2 s) := by
  intro a0 a1 a2 s
  unfold notifyAll
  refine onlyIn_ite ?_ ?_
  · refine onlyIn_fold _ _ (fun st0 a1 => ?_) ?_
    · refine onlyIn_fold _ _ (fun st2 a3 => ?_) ?_
      · refine onlyIn_step (frame_offerSub _ _ _ _) rfl ?_
        exact onlyIn_refl _ _
      · exact onlyIn_refl _ _
    · exact onlyIn_refl _ _
  · exact onlyIn_refl _ _

theorem frame_notifyEvent : ∀ a0 s, onlyIn [.mb, .pf, .ev, .out] s (notifyEvent a0 s) := by
  intro a0 s
  unfold notifyEvent
  refine onlyIn_step (frame_notifyAll _ _ _ _) rfl ?_
  exact onlyIn_refl _ _

theorem frame_answer : ∀ a0 a1 a2 s, onlyIn [.mb, .out] s (answer a0 a1 a2 s) := by
  intro a0 a1 a2 s
  unfold answer
  extract_lets +onlyGivenNames x0
  clear_value x0
  extract_lets +onlyGivenNames x1
  have h2 : onlyIn [.mb, .out] s x1 := by
    dsimp only [x1]
    refine onlyIn_step (frame_send _ _) rfl ?_
    exact onlyIn_refl _ _
  clear_value x1
  refine onlyIn_ite ?_ ?_
  · exact h2
  · refine onlyIn_step (frame_updSess _ _ _) rfl ?_
    exact h2

end Sys2Proof.Machine
end

