-- ==== Sys2Proof/Laws/FrameHostCmd.lean ====
section
/-!
SUPPORT. Laws/FrameHostCmd.lean: the parts of the state that the definitions of Machine/HostCmd.lean may change.
-/

namespace Sys2Proof.Machine

open Sys2Proof.Safety

theorem frame_resolve : ∀ a0 a1 a2 s, onlyIn [.mb, .out] s (resolve a0 a1 a2 s) := by
  intro a0 a1 a2 s
  unfold resolve
  extract_lets +onlyGivenNames x0
  clear_value x0
  refine onlyIn_fold _ _ (fun st1 a2 => ?_) ?_
  · refine onlyIn_step (frame_updChan _ _ _ _) rfl ?_
    refine onlyIn_step (frame_answer _ _ _ _) rfl ?_
    exact onlyIn_refl _ _
  · refine onlyIn_step (onlyIn_put_mb _ _) rfl ?_
    exact onlyIn_refl _ _

theorem frame_answer0 : ∀ a0 a1 a2 a3 s, onlyIn [.mb, .out] s (answer0 a0 a1 a2 a3 s) := by
  intro a0 a1 a2 a3 s
  unfold answer0
  refine onlyIn_step (frame_answer _ _ _ _) rfl ?_
  exact onlyIn_refl _ _

theorem frame_answerOnce : ∀ a0 a1 s, onlyIn [.out] s (answerOnce a0 a1 s) := by
  intro a0 a1 s
  unfold answerOnce
  refine onlyIn_step (frame_send _ _) rfl ?_
  exact onlyIn_refl _ _

theorem frame_handOver : ∀ a0 s, onlyIn [.mb] s (handOver a0 s) := by
  intro a0 s
  unfold handOver
  refine onlyIn_step (onlyIn_put_mb _ _) rfl ?_
  exact onlyIn_refl _ _

theorem frame_handOverInternal : ∀ a0 a1 a2 a3 s, onlyIn [.mb] s (handOverInternal a0 a1 a2 a3 s) := by
  intro a0 a1 a2 a3 s
  unfold handOverInternal
  refine onlyIn_step (frame_handOver _ _) rfl ?_
  exact onlyIn_refl _ _

theorem frame_conclude {T : List Part} {c : Ctx} {s : State} {p : State × Reply} (hT : subParts [.mb, .out] T = true) (h : onlyIn T s p.1) :
    onlyIn T s (conclude c p) := by
  unfold conclude
  split
  · exact onlyIn_step (onlyIn_mono (frame_answer _ _ _ _) rfl) hT h
  · exact h
  · exact onlyIn_step (onlyIn_mono (frame_updChan _ _ _ _) rfl) hT (onlyIn_step (onlyIn_mono (onlyIn_put_mb _ _) rfl) hT h)

theorem frame_runBody {T : List Part} {c : Ctx} {body : Body} {s x : State} (hT : subParts [.mb, .out] T = true)
    (hb : ∀ c st, onlyIn T st (body c st).1) (hx : onlyIn T s x) : onlyIn T s (runBody c body x) := by
  unfold runBody
  repeat'
    first
      | assumption
      | with_reducible refine onlyIn_step (onlyIn_mono (frame_answerOnce _ _ _) rfl) hT ?_
      | with_reducible refine onlyIn_step (onlyIn_mono (frame_answer _ _ _ _) rfl) hT ?_
      | with_reducible refine frame_conclude hT ?_
      | exact onlyIn_step (hb _ _) (by simp [subParts]) hx
      | with_reducible refine onlyIn_ite ?_ ?_

theorem frame_acceptCommand {T : List Part} {c : Ctx} {run : State → State} {s x : State} (hT : subParts [.mb, .out] T = true)
    (hr : ∀ st, onlyIn T st (run st)) (hx : onlyIn T s x) : onlyIn T s (acceptCommand c run x) := by
  unfold acceptCommand
  repeat'
    first
      | assumption
      | with_reducible refine onlyIn_step (onlyIn_mono (frame_answer _ _ _ _) rfl) hT ?_
      | with_reducible refine onlyIn_step (onlyIn_mono (frame_updChan _ _ _ _) rfl) hT ?_
      | exact onlyIn_step (hr _) (by simp [subParts]) hx
      | with_reducible refine onlyIn_ite ?_ ?_
      | split

theorem onlyIn_timedBody {T : List Part} (check : Ctx → State → Option (Nat × Bytes)) (post : Ctx → TCmd → State → State × Bytes)
    (hT : subParts [.mb] T = true) (hp : ∀ c t st, onlyIn T st (post c t st).1) (c : Ctx) (s : State) :
    onlyIn T s (timedBody check post c s).1 := by
  unfold timedBody
  split
  · exact onlyIn_ans (onlyIn_refl _ _)
  · refine onlyIn_ite1 (onlyIn_ans (onlyIn_refl _ _)) ?_
    split
    · exact onlyIn_ans (onlyIn_refl _ _)
    · refine onlyIn_ite1 (onlyIn_ans (onlyIn_refl _ _)) ?_
      refine onlyIn_ite1 (onlyIn_ans (onlyIn_refl _ _)) ?_
      refine onlyIn_ans ?_
      refine onlyIn_step (hp _ _ _) (by simp [subParts]) ?_
      exact onlyIn_step (frame_handOver _ _) hT (onlyIn_refl _ _)

theorem frame_hostCommand {T : List Part} {code : Nat} {body : Body} {r : Req} {s : State} (hT : subParts [.mb, .out] T = true)
    (hb : ∀ c st, onlyIn T st (body c st).1) : onlyIn T s (hostCommand code body r s) := by
  unfold hostCommand
  repeat'
    first
      | exact onlyIn_refl _ _
      | with_reducible refine frame_acceptCommand hT (fun _ => ?_) ?_
      | with_reducible refine frame_runBody hT hb ?_
      | with_reducible refine onlyIn_step (onlyIn_mono (frame_answer0 _ _ _ _ _) rfl) hT ?_
      | with_reducible refine onlyIn_ite ?_ ?_
      | split

end Sys2Proof.Machine
end

