-- ==== Sys2Proof/Laws/FrameRecorder.lean ====
section
/-!
SUPPORT. Laws/FrameRecorder.lean: the parts of the state that the definitions of Machine/Recorder.lean may change.
-/

namespace Sys2Proof.Machine

open Sys2Proof.Safety

theorem frame_useOneShot : ∀ a0 a1 s, onlyIn [.ev] s (useOneShot a0 a1 s) := by
  intro a0 a1 s
  unfold useOneShot
  split
  · refine onlyIn_ite ?_ ?_
    · refine onlyIn_step (frame_endInjection _ _) rfl ?_
      exact onlyIn_refl _ _
    · exact onlyIn_refl _ _
  · exact onlyIn_refl _ _

theorem frame_countInj : ∀ a0 a1 s, onlyIn [.ev] s (countInj a0 a1 s) := by
  intro a0 a1 s
  unfold countInj
  refine onlyIn_step (onlyIn_put_ev _ _) rfl ?_
  exact onlyIn_refl _ _

theorem frame_recChanged : ∀ a0 s, onlyIn [.mb, .pf, .ev, .out] s (recChanged a0 s) := by
  intro a0 s
  unfold recChanged
  split
  · refine onlyIn_step (frame_notifyEvent _ _) rfl ?_
    exact onlyIn_refl _ _
  · exact onlyIn_refl _ _

theorem frame_queueOverflow : ∀ s a1, onlyIn [.mb, .pf, .ev, .out] s (queueOverflow s a1) := by
  intro s a1
  unfold queueOverflow
  split
  · refine onlyIn_step (frame_recChanged _ _) rfl ?_
    refine onlyIn_step (onlyIn_put_ev _ _) rfl ?_
    exact onlyIn_refl _ _
  · extract_lets +onlyGivenNames x0
    clear_value x0
    extract_lets +onlyGivenNames x1
    have h2 : onlyIn [.mb, .pf, .ev, .out] s x1 := by
      dsimp only [x1]
      refine onlyIn_step (onlyIn_put_ev _ _) rfl ?_
      exact onlyIn_refl _ _
    clear_value x1
    refine onlyIn_ite ?_ ?_
    · exact h2
    · refine onlyIn_step (onlyIn_put_ev _ _) rfl ?_
      exact h2

theorem frame_enqueue : ∀ a0 s, onlyIn [.mb, .pf, .ev, .out] s (enqueue a0 s) := by
  intro a0 s
  unfold enqueue
  refine onlyIn_ite ?_ ?_
  · refine onlyIn_step (onlyIn_put_ev _ _) rfl ?_
    exact onlyIn_refl _ _
  · refine onlyIn_ite ?_ ?_
    · refine onlyIn_step (onlyIn_put_ev _ _) rfl ?_
      exact onlyIn_refl _ _
    · refine onlyIn_step (frame_useOneShot _ _ _) rfl ?_
      refine onlyIn_step (frame_countInj _ _ _) rfl ?_
      refine onlyIn_step (frame_queueOverflow _ _) rfl ?_
      exact onlyIn_refl _ _

theorem frame_raise : ∀ a0 a1 a2 a3 s, onlyIn [.mb, .pf, .ev, .out] s (raise a0 a1 a2 a3 s) := by
  intro a0 a1 a2 a3 s
  unfold raise
  refine onlyIn_step (frame_useOneShot _ _ _) rfl ?_
  refine onlyIn_step (frame_countInj _ _ _) rfl ?_
  refine onlyIn_step (frame_enqueue _ _) rfl ?_
  exact onlyIn_refl _ _

theorem frame_happen : ∀ a0 a1 a2 s, onlyIn [.mb, .pf, .ev, .out] s (happen a0 a1 a2 s) := by
  intro a0 a1 a2 s
  unfold happen
  refine onlyIn_step (frame_raise _ _ _ _ _) rfl ?_
  exact onlyIn_refl _ _

theorem frame_beginCond : ∀ a0 a1 a2 s, onlyIn [.mb, .pf, .ev, .out] s (beginCond a0 a1 a2 s) := by
  intro a0 a1 a2 s
  unfold beginCond
  extract_lets +onlyGivenNames x0
  clear_value x0
  split
  · refine onlyIn_step (frame_raise _ _ _ _ _) rfl ?_
    refine onlyIn_step (onlyIn_put_ev _ _) rfl ?_
    exact onlyIn_refl _ _
  · refine onlyIn_ite ?_ ?_
    · refine onlyIn_step (frame_raise _ _ _ _ _) rfl ?_
      refine onlyIn_step (onlyIn_put_ev _ _) rfl ?_
      exact onlyIn_refl _ _
    · exact onlyIn_refl _ _

theorem frame_clearActive : ∀ a0 a1 s, onlyIn [.mb, .pf, .ev, .out] s (clearActive a0 a1 s) := by
  intro a0 a1 s
  unfold clearActive
  refine onlyIn_fold _ _ (fun st0 a1 => ?_) ?_
  · refine onlyIn_step (frame_recChanged _ _) rfl ?_
    exact onlyIn_refl _ _
  · refine onlyIn_step (onlyIn_put_ev _ _) rfl ?_
    exact onlyIn_refl _ _

theorem frame_detect : ∀ a0 a1 a2 a3 s, onlyIn [.mb, .pf, .ev, .out] s (detect a0 a1 a2 a3 s) := by
  intro a0 a1 a2 a3 s
  unfold detect
  refine onlyIn_ite ?_ ?_
  · refine onlyIn_step (frame_beginCond _ _ _ _) rfl ?_
    exact onlyIn_refl _ _
  · refine onlyIn_ite ?_ ?_
    · refine onlyIn_step (frame_clearActive _ _ _) rfl ?_
      exact onlyIn_refl _ _
    · exact onlyIn_refl _ _

theorem frame_happenMarked : ∀ a0 a1 a2 a3 s, onlyIn [.mb, .pf, .ev, .out] s (happenMarked a0 a1 a2 a3 s) := by
  intro a0 a1 a2 a3 s
  unfold happenMarked
  extract_lets +onlyGivenNames x0
  clear_value x0
  refine onlyIn_step (frame_useOneShot _ _ _) rfl ?_
  refine onlyIn_step (frame_countInj _ _ _) rfl ?_
  refine onlyIn_step (frame_enqueue _ _) rfl ?_
  exact onlyIn_refl _ _

theorem frame_rawEvent : ∀ a0 a1 a2 s, onlyIn [.mb, .pf, .ev, .out] s (rawEvent a0 a1 a2 s) := by
  intro a0 a1 a2 s
  unfold rawEvent
  refine onlyIn_step (frame_enqueue _ _) rfl ?_
  exact onlyIn_refl _ _

end Sys2Proof.Machine
end

