-- ==== Sys2Proof/Laws/FrameCan.lean ====
section
/-!
SUPPORT. Laws/FrameCan.lean: the parts of the state that the definitions of Machine/Can.lean may change.
-/

namespace Sys2Proof.Machine

open Sys2Proof.Safety

theorem frame_updCan : ∀ a0 a1 s, onlyIn [.cn] s (updCan a0 a1 s) := by
  intro a0 a1 s
  unfold updCan
  refine onlyIn_step (onlyIn_put_cn _ _) rfl ?_
  exact onlyIn_refl _ _

theorem frame_loadPort : ∀ a0 s, onlyIn [.cn] s (loadPort a0 s) := by
  intro a0 s
  unfold loadPort
  refine onlyIn_step (frame_updCan _ _ _) rfl ?_
  exact onlyIn_refl _ _

theorem frame_canQueue : ∀ a0 a1 s, onlyIn [.cn] s (canQueue a0 a1 s) := by
  intro a0 a1 s
  unfold canQueue
  extract_lets +onlyGivenNames x0
  clear_value x0
  refine onlyIn_ite ?_ ?_
  · refine onlyIn_step (frame_loadPort _ _) rfl ?_
    refine onlyIn_step (frame_updCan _ _ _) rfl ?_
    exact onlyIn_refl _ _
  · refine onlyIn_ite ?_ ?_
    · refine onlyIn_step (frame_updCan _ _ _) rfl ?_
      exact onlyIn_refl _ _
    · refine onlyIn_ite ?_ ?_
      · refine onlyIn_step (frame_updCan _ _ _) rfl ?_
        exact onlyIn_refl _ _
      · refine onlyIn_ite ?_ ?_
        · refine onlyIn_step (frame_updCan _ _ _) rfl ?_
          exact onlyIn_refl _ _
        · exact onlyIn_refl _ _

theorem frame_canDown : ∀ s, onlyIn [.cn] s (canDown s) := by
  intro s
  unfold canDown
  refine onlyIn_step (onlyIn_put_cn _ _) rfl ?_
  exact onlyIn_refl _ _

theorem frame_canRestart : ∀ a0 s, onlyIn [.mb, .pf, .ev, .cn, .out] s (canRestart a0 s) := by
  intro a0 s
  unfold canRestart
  extract_lets +onlyGivenNames x0
  have h1 : onlyIn [.mb, .pf, .ev, .cn, .out] s x0 := by
    dsimp only [x0]
    refine onlyIn_step (frame_detect _ _ _ _ _) rfl ?_
    refine onlyIn_step (frame_detect _ _ _ _ _) rfl ?_
    exact onlyIn_refl _ _
  clear_value x0
  refine onlyIn_ite ?_ ?_
  · refine onlyIn_step (frame_updCan _ _ _) rfl ?_
    exact h1
  · refine onlyIn_step (frame_updCan _ _ _) rfl ?_
    exact h1

theorem frame_canActivate : ∀ o0 s, onlyIn [.mb, .pf, .ev, .cn, .out] s (canActivate o0 s) := by
  intro o0 s
  unfold canActivate
  refine onlyIn_fold _ _ (fun st0 a1 => ?_) ?_
  · extract_lets +onlyGivenNames x2
    have h3 : onlyIn [.mb, .pf, .ev, .cn, .out] st0 x2 := by
      dsimp only [x2]
      refine onlyIn_step (frame_updCan _ _ _) rfl ?_
      exact onlyIn_refl _ _
    clear_value x2
    refine onlyIn_ite ?_ ?_
    · refine onlyIn_step (frame_canRestart _ _) rfl ?_
      exact h3
    · exact h3
  · exact onlyIn_refl _ _

theorem frame_canParamChanged : ∀ a0 s, onlyIn [.mb, .pf, .ev, .cn, .out] s (canParamChanged a0 s) := by
  intro a0 s
  unfold canParamChanged
  refine onlyIn_fold _ _ (fun st0 a1 => ?_) ?_
  · refine onlyIn_ite ?_ ?_
    · refine onlyIn_step (frame_canRestart _ _) rfl ?_
      exact onlyIn_refl _ _
    · exact onlyIn_refl _ _
  · exact onlyIn_refl _ _

theorem frame_sendClaim : ∀ a0 s, onlyIn [.cn] s (sendClaim a0 s) := by
  intro a0 s
  unfold sendClaim
  extract_lets +onlyGivenNames x0
  clear_value x0
  refine onlyIn_step (frame_canQueue _ _ _) rfl ?_
  exact onlyIn_refl _ _

theorem frame_claimNow : ∀ a0 a1 s, onlyIn [.mb, .pf, .ev, .cn, .out] s (claimNow a0 a1 s) := by
  intro a0 a1 s
  unfold claimNow
  refine onlyIn_step (frame_detect _ _ _ _ _) rfl ?_
  refine onlyIn_step (frame_sendClaim _ _) rfl ?_
  refine onlyIn_step (frame_updCan _ _ _) rfl ?_
  exact onlyIn_refl _ _

theorem frame_canClose : ∀ s, onlyIn [.cn] s (canClose s) := by
  intro s
  unfold canClose
  extract_lets +onlyGivenNames x0
  clear_value x0
  extract_lets +onlyGivenNames x1
  clear_value x1
  refine onlyIn_step (onlyIn_put_cn _ _) rfl ?_
  exact onlyIn_refl _ _

theorem frame_rxNotify : ∀ a0 a1 s, onlyIn [.mb, .pf, .ev, .cn, .out] s (rxNotify a0 a1 s) := by
  intro a0 a1 s
  unfold rxNotify
  extract_lets +onlyGivenNames x0
  clear_value x0
  extract_lets +onlyGivenNames x1
  clear_value x1
  extract_lets +onlyGivenNames x2
  have h3 : onlyIn [.mb, .pf, .ev, .cn, .out] s x2 := by
    dsimp only [x2]
    refine onlyIn_step (onlyIn_put_cn _ _) rfl ?_
    exact onlyIn_refl _ _
  clear_value x2
  refine onlyIn_fold _ _ (fun st4 a5 => ?_) ?_
  · refine onlyIn_fold _ _ (fun st6 a7 => ?_) ?_
    · refine onlyIn_ite ?_ ?_
      · refine onlyIn_step (frame_updCan _ _ _) rfl ?_
        exact onlyIn_refl _ _
      · refine onlyIn_step (frame_offerSub _ _ _ _) rfl ?_
        exact onlyIn_refl _ _
    · exact onlyIn_refl _ _
  · exact h3

theorem frame_drainFifo : ∀ a0 s, onlyIn [.mb, .pf, .ev, .cn, .out] s (drainFifo a0 s) := by
  intro a0 s
  unfold drainFifo
  refine onlyIn_ite ?_ ?_
  · refine onlyIn_fold _ _ (fun st0 a1 => ?_) ?_
    · refine onlyIn_step (frame_rxNotify _ _ _) rfl ?_
      exact onlyIn_refl _ _
    · refine onlyIn_step (frame_updCan _ _ _) rfl ?_
      exact onlyIn_refl _ _
  · exact onlyIn_refl _ _

theorem frame_canForward : ∀ s, onlyIn [.mb, .pf, .ev, .cn, .out] s (canForward s) := by
  intro s
  unfold canForward
  refine onlyIn_fold _ _ (fun st0 a1 => ?_) ?_
  · refine onlyIn_step (frame_drainFifo _ _) rfl ?_
    exact onlyIn_refl _ _
  · exact onlyIn_refl _ _

theorem frame_canJudge : ∀ a0 s, onlyIn [.mb, .pf, .ev, .cn, .out] s (canJudge a0 s) := by
  intro a0 s
  unfold canJudge
  extract_lets +onlyGivenNames x0
  clear_value x0
  extract_lets +onlyGivenNames x1
  clear_value x1
  extract_lets +onlyGivenNames x2
  clear_value x2
  refine onlyIn_ite ?_ ?_
  · exact onlyIn_refl _ _
  · refine onlyIn_ite ?_ ?_
    · extract_lets +onlyGivenNames x3
      have h4 : onlyIn [.mb, .pf, .ev, .cn, .out] s x3 := by
        dsimp only [x3]
        refine onlyIn_step (frame_updCan _ _ _) rfl ?_
        exact onlyIn_refl _ _
      clear_value x3
      refine onlyIn_ite ?_ ?_
      · exact h4
      · refine onlyIn_step (frame_beginCond _ _ _ _) rfl ?_
        exact h4
    · refine onlyIn_ite ?_ ?_
      · refine onlyIn_step (frame_beginCond _ _ _ _) rfl ?_
        refine onlyIn_step (frame_updCan _ _ _) rfl ?_
        exact onlyIn_refl _ _
      · refine onlyIn_step (frame_detect _ _ _ _ _) rfl ?_
        refine onlyIn_step (frame_updCan _ _ _) rfl ?_
        exact onlyIn_refl _ _

theorem frame_stageSignals : ∀ a0 a1 s, onlyIn [.cn] s (stageSignals a0 a1 s) := by
  intro a0 a1 s
  unfold stageSignals
  extract_lets +onlyGivenNames x0
  clear_value x0
  extract_lets +onlyGivenNames x1
  clear_value x1
  extract_lets +onlyGivenNames x2
  have h3 : onlyIn [.cn] s x2 := by
    dsimp only [x2]
    refine onlyIn_ite ?_ ?_
    · refine onlyIn_step (frame_updCan _ _ _) rfl ?_
      exact onlyIn_refl _ _
    · exact onlyIn_refl _ _
  clear_value x2
  refine onlyIn_step (onlyIn_put_cn _ _) rfl ?_
  exact h3

theorem frame_contest : ∀ a0 a1 s, onlyIn [.mb, .pf, .ev, .cn, .out] s (contest a0 a1 s) := by
  intro a0 a1 s
  unfold contest
  extract_lets +onlyGivenNames x0
  clear_value x0
  refine onlyIn_ite ?_ ?_
  · refine onlyIn_step (frame_sendClaim _ _) rfl ?_
    exact onlyIn_refl _ _
  · refine onlyIn_ite ?_ ?_
    · exact onlyIn_refl _ _
    · split
      · refine onlyIn_step (frame_sendClaim _ _) rfl ?_
        refine onlyIn_step (frame_updCan _ _ _) rfl ?_
        exact onlyIn_refl _ _
      · refine onlyIn_step (frame_beginCond _ _ _ _) rfl ?_
        refine onlyIn_step (frame_sendClaim _ _) rfl ?_
        refine onlyIn_step (frame_updCan _ _ _) rfl ?_
        exact onlyIn_refl _ _

theorem frame_claimHeard : ∀ a0 a1 a2 s, onlyIn [.mb, .pf, .ev, .cn, .out] s (claimHeard a0 a1 a2 s) := by
  intro a0 a1 a2 s
  unfold claimHeard
  extract_lets +onlyGivenNames x0
  have h1 : onlyIn [.mb, .pf, .ev, .cn, .out] s x0 := by
    dsimp only [x0]
    refine onlyIn_step (frame_updCan _ _ _) rfl ?_
    exact onlyIn_refl _ _
  clear_value x0
  extract_lets +onlyGivenNames x2
  clear_value x2
  refine onlyIn_ite ?_ ?_
  · refine onlyIn_step (frame_contest _ _ _) rfl ?_
    exact h1
  · exact h1

theorem frame_hostReceive : ∀ a0 a1 a2 s, onlyIn [.mb, .pf, .ev, .cn, .out] s (hostReceive a0 a1 a2 s) := by
  intro a0 a1 a2 s
  unfold hostReceive
  split
  · exact onlyIn_refl _ _
  · refine onlyIn_ite ?_ ?_
    · exact onlyIn_refl _ _
    · refine onlyIn_ite ?_ ?_
      · refine onlyIn_step (frame_happen _ _ _ _) rfl ?_
        refine onlyIn_step (frame_updCan _ _ _) rfl ?_
        exact onlyIn_refl _ _
      · refine onlyIn_step (frame_updCan _ _ _) rfl ?_
        exact onlyIn_refl _ _

theorem frame_queueGroup : ∀ a0 a1 s, onlyIn [.cn] s (queueGroup a0 a1 s) := by
  intro a0 a1 s
  unfold queueGroup
  split
  · exact onlyIn_refl _ _
  · extract_lets +onlyGivenNames x0
    clear_value x0
    extract_lets +onlyGivenNames x1
    clear_value x1
    refine onlyIn_ite ?_ ?_
    · exact onlyIn_refl _ _
    · refine onlyIn_ite ?_ ?_
      · refine onlyIn_step (frame_updCan _ _ _) rfl ?_
        exact onlyIn_refl _ _
      · extract_lets +onlyGivenNames x2
        clear_value x2
        extract_lets +onlyGivenNames x3
        clear_value x3
        refine onlyIn_ite ?_ ?_
        · refine onlyIn_step (frame_updCan _ _ _) rfl ?_
          exact onlyIn_refl _ _
        · refine onlyIn_step (frame_canQueue _ _ _) rfl ?_
          exact onlyIn_refl _ _

theorem frame_canTxQueue : ∀ s, onlyIn [.cn] s (canTxQueue s) := by
  intro s
  unfold canTxQueue
  refine onlyIn_fold _ _ (fun st0 a1 => ?_) ?_
  · refine onlyIn_fold _ _ (fun st2 a3 => ?_) ?_
    · refine onlyIn_step (frame_queueGroup _ _ _) rfl ?_
      exact onlyIn_refl _ _
    · exact onlyIn_refl _ _
  · exact onlyIn_refl _ _

theorem frame_cancelAnswer : ∀ a0 a1 a2 a3 s, onlyIn [.mb, .out] s (cancelAnswer a0 a1 a2 a3 s) := by
  intro a0 a1 a2 a3 s
  unfold cancelAnswer
  refine onlyIn_step (frame_resolve _ _ _ _) rfl ?_
  exact onlyIn_refl _ _

theorem frame_claimStart : ∀ a0 s, onlyIn [.mb, .pf, .ev, .cn, .out] s (claimStart a0 s) := by
  intro a0 s
  unfold claimStart
  refine onlyIn_ite ?_ ?_
  · refine onlyIn_step (frame_claimNow _ _ _) rfl ?_
    exact onlyIn_refl _ _
  · exact onlyIn_refl _ _

theorem frame_collided : ∀ a0 a1 s, onlyIn [.mb, .pf, .ev, .cn, .out] s (collided a0 a1 s) := by
  intro a0 a1 s
  unfold collided
  extract_lets +onlyGivenNames x0
  have h1 : onlyIn [.mb, .pf, .ev, .cn, .out] s x0 := by
    dsimp only [x0]
    refine onlyIn_step (frame_updCan _ _ _) rfl ?_
    exact onlyIn_refl _ _
  clear_value x0
  refine onlyIn_ite ?_ ?_
  · extract_lets +onlyGivenNames x2
    have h3 : onlyIn [.mb, .pf, .ev, .cn, .out] s x2 := by
      dsimp only [x2]
      refine onlyIn_step (frame_happen _ _ _ _) rfl ?_
      exact h1
    clear_value x2
    refine onlyIn_ite ?_ ?_
    · refine onlyIn_step (frame_sendClaim _ _) rfl ?_
      exact h3
    · exact h3
  · exact h1

theorem frame_execCanTxComplete : ∀ a0 a1 a2 s t, execCanTxComplete a0 a1 a2 s = .next t → onlyIn [.mb, .pf, .ev, .cn, .out] s t := by
  intro a0 a1 a2 s t h
  unfold execCanTxComplete at h
  extract_lets +onlyGivenNames x0 at h
  clear_value x0
  cases h
  refine onlyIn_ite ?_ ?_
  · exact onlyIn_refl _ _
  · split
    · exact onlyIn_refl _ _
    · extract_lets +onlyGivenNames x1
      clear_value x1
      extract_lets +onlyGivenNames x2
      have h3 : onlyIn [.mb, .pf, .ev, .cn, .out] s x2 := by
        dsimp only [x2]
        refine onlyIn_step (frame_updCan _ _ _) rfl ?_
        exact onlyIn_refl _ _
      clear_value x2
      extract_lets +onlyGivenNames x4
      clear_value x4
      extract_lets +onlyGivenNames x5
      have h6 : onlyIn [.mb, .pf, .ev, .cn, .out] s x5 := by
        dsimp only [x5]
        refine onlyIn_ite ?_ ?_
        · exact h3
        · refine onlyIn_step (onlyIn_put_cn _ _) rfl ?_
          exact h3
      clear_value x5
      extract_lets +onlyGivenNames x7
      have h8 : onlyIn [.mb, .pf, .ev, .cn, .out] s x7 := by
        dsimp only [x7]
        refine onlyIn_step (frame_detect _ _ _ _ _) rfl ?_
        refine onlyIn_step (frame_detect _ _ _ _ _) rfl ?_
        refine onlyIn_step (frame_cancelAnswer _ _ _ _ _) rfl ?_
        exact h6
      clear_value x7
      refine onlyIn_step (frame_loadPort _ _) rfl ?_
      refine onlyIn_step (frame_canJudge _ _) rfl ?_
      exact h8

theorem frame_execCanTxError : ∀ a0 a1 a2 s t, execCanTxError a0 a1 a2 s = .next t → onlyIn [.mb, .pf, .ev, .cn, .out] s t := by
  intro a0 a1 a2 s t h
  unfold execCanTxError at h
  dsimp only at h
  cases h
  refine onlyIn_ite ?_ ?_
  · exact onlyIn_refl _ _
  · split
    · exact onlyIn_refl _ _
    · refine onlyIn_step (frame_loadPort _ _) rfl ?_
      refine onlyIn_step (frame_canJudge _ _) rfl ?_
      refine onlyIn_ite ?_ ?_
      · refine onlyIn_step (frame_cancelAnswer _ _ _ _ _) rfl ?_
        refine onlyIn_step (frame_updCan _ _ _) rfl ?_
        refine onlyIn_ite ?_ ?_
        · refine onlyIn_step (frame_beginCond _ _ _ _) rfl ?_
          refine onlyIn_ite ?_ ?_
          · refine onlyIn_step (frame_collided _ _ _) rfl ?_
            refine onlyIn_step (frame_updCan _ _ _) rfl ?_
            exact onlyIn_refl _ _
          · refine onlyIn_step (frame_updCan _ _ _) rfl ?_
            exact onlyIn_refl _ _
        · refine onlyIn_ite ?_ ?_
          · refine onlyIn_step (frame_collided _ _ _) rfl ?_
            refine onlyIn_step (frame_updCan _ _ _) rfl ?_
            exact onlyIn_refl _ _
          · refine onlyIn_step (frame_updCan _ _ _) rfl ?_
            exact onlyIn_refl _ _
      · refine onlyIn_ite ?_ ?_
        · refine onlyIn_step (frame_beginCond _ _ _ _) rfl ?_
          refine onlyIn_ite ?_ ?_
          · refine onlyIn_step (frame_collided _ _ _) rfl ?_
            refine onlyIn_step (frame_updCan _ _ _) rfl ?_
            exact onlyIn_refl _ _
          · refine onlyIn_step (frame_updCan _ _ _) rfl ?_
            exact onlyIn_refl _ _
        · refine onlyIn_ite ?_ ?_
          · refine onlyIn_step (frame_collided _ _ _) rfl ?_
            refine onlyIn_step (frame_updCan _ _ _) rfl ?_
            exact onlyIn_refl _ _
          · refine onlyIn_step (frame_updCan _ _ _) rfl ?_
            exact onlyIn_refl _ _

theorem frame_execCanIntegrationDone : ∀ a0 s t, execCanIntegrationDone a0 s = .next t → onlyIn [.mb, .pf, .ev, .cn, .out] s t := by
  intro a0 s t h
  unfold execCanIntegrationDone at h
  extract_lets +onlyGivenNames x0 at h
  clear_value x0
  cases h
  refine onlyIn_ite ?_ ?_
  · exact onlyIn_refl _ _
  · extract_lets +onlyGivenNames x1
    have h2 : onlyIn [.mb, .pf, .ev, .cn, .out] s x1 := by
      dsimp only [x1]
      refine onlyIn_step (frame_detect _ _ _ _ _) rfl ?_
      exact onlyIn_refl _ _
    clear_value x1
    refine onlyIn_ite ?_ ?_
    · refine onlyIn_step (frame_updCan _ _ _) rfl ?_
      exact h2
    · refine onlyIn_step (frame_claimStart _ _) rfl ?_
      refine onlyIn_step (frame_loadPort _ _) rfl ?_
      refine onlyIn_step (frame_updCan _ _ _) rfl ?_
      exact h2

theorem frame_execCanBusOffRecovery : ∀ a0 s t, execCanBusOffRecovery a0 s = .next t → onlyIn [.mb, .pf, .ev, .cn, .out] s t := by
  intro a0 s t h
  unfold execCanBusOffRecovery at h
  extract_lets +onlyGivenNames x0 at h
  clear_value x0
  cases h
  refine onlyIn_ite ?_ ?_
  · refine onlyIn_step (frame_claimStart _ _) rfl ?_
    refine onlyIn_step (frame_loadPort _ _) rfl ?_
    refine onlyIn_step (frame_detect _ _ _ _ _) rfl ?_
    refine onlyIn_step (frame_detect _ _ _ _ _) rfl ?_
    refine onlyIn_step (frame_updCan _ _ _) rfl ?_
    exact onlyIn_refl _ _
  · exact onlyIn_refl _ _

theorem frame_execAddressClaimTimeout : ∀ a0 s t, execAddressClaimTimeout a0 s = .next t → onlyIn [.cn] s t := by
  intro a0 s t h
  unfold execAddressClaimTimeout at h
  cases h
  refine onlyIn_ite ?_ ?_
  · refine onlyIn_step (frame_updCan _ _ _) rfl ?_
    exact onlyIn_refl _ _
  · exact onlyIn_refl _ _

theorem frame_execCanDominantTimeout : ∀ a0 a1 a2 s t, execCanDominantTimeout a0 a1 a2 s = .next t → onlyIn [.mb, .pf, .ev, .out] s t := by
  intro a0 a1 a2 s t h
  unfold execCanDominantTimeout at h
  extract_lets +onlyGivenNames x0 at h
  clear_value x0
  cases h
  refine onlyIn_ite ?_ ?_
  · refine onlyIn_step (frame_beginCond _ _ _ _) rfl ?_
    exact onlyIn_refl _ _
  · exact onlyIn_refl _ _

end Sys2Proof.Machine
end

