-- ==== Sys2Proof/Laws/FrameGnssTime.lean ====
section
/-!
SUPPORT. Laws/FrameGnssTime.lean: the parts of the state that the definitions of Machine/GnssTime.lean may change.
-/

namespace Sys2Proof.Machine

open Sys2Proof.Safety

theorem frame_updTime : ∀ a0 s, onlyIn [.gn] s (updTime a0 s) := by
  intro a0 s
  unfold updTime
  refine onlyIn_step (onlyIn_put_gn _ _) rfl ?_
  exact onlyIn_refl _ _

theorem frame_holdoverOver : ∀ s, onlyIn [.mb, .pf, .ev, .out] s (holdoverOver s) := by
  intro s
  unfold holdoverOver
  refine onlyIn_step (frame_detect _ _ _ _ _) rfl ?_
  refine onlyIn_step (frame_detect _ _ _ _ _) rfl ?_
  exact onlyIn_refl _ _

theorem frame_acceptTime : ∀ a0 a1 a2 a3 s, onlyIn [.clk, .mb, .pf, .ev, .gn, .out, .free] s (acceptTime a0 a1 a2 a3 s) := by
  intro a0 a1 a2 a3 s
  unfold acceptTime
  extract_lets +onlyGivenNames x0
  clear_value x0
  extract_lets +onlyGivenNames x1
  have h2 : onlyIn [.clk, .mb, .pf, .ev, .gn, .out, .free] s x1.2 := by
    dsimp only [x1]
    refine onlyIn_step (frame_freshNat _) rfl ?_
    exact onlyIn_refl _ _
  clear_value x1
  extract_lets +onlyGivenNames x3
  have h4 : onlyIn [.clk, .mb, .pf, .ev, .gn, .out, .free] s x3.2 := by
    dsimp only [x3]
    refine onlyIn_step (frame_freshNat _) rfl ?_
    exact h2
  clear_value x3
  extract_lets +onlyGivenNames x5
  clear_value x5
  extract_lets +onlyGivenNames x6
  clear_value x6
  extract_lets +onlyGivenNames x7
  have h8 : onlyIn [.clk, .mb, .pf, .ev, .gn, .out, .free] s x7 := by
    dsimp only [x7]
    refine onlyIn_step (frame_updTime _ _) rfl ?_
    exact h4
  clear_value x7
  split
  · refine onlyIn_ite ?_ ?_
    · refine onlyIn_step (frame_updTime _ _) rfl ?_
      exact h8
    · refine onlyIn_ite ?_ ?_
      · extract_lets +onlyGivenNames x9
        have h10 : onlyIn [.clk, .mb, .pf, .ev, .gn, .out, .free] s x9 := by
          dsimp only [x9]
          refine onlyIn_step (frame_updTime _ _) rfl ?_
          exact h8
        clear_value x9
        refine onlyIn_step (onlyIn_put_clk _ _) rfl ?_
        exact h10
      · exact h8
  · refine onlyIn_step (frame_updTime _ _) rfl ?_
    exact h8
  · refine onlyIn_ite ?_ ?_
    · refine onlyIn_step (frame_holdoverOver _) rfl ?_
      refine onlyIn_step (frame_updTime _ _) rfl ?_
      exact h8
    · refine onlyIn_ite ?_ ?_
      · exact h8
      · refine onlyIn_step (frame_updTime _ _) rfl ?_
        exact h8
  · refine onlyIn_ite ?_ ?_
    · refine onlyIn_step (frame_holdoverOver _) rfl ?_
      refine onlyIn_step (frame_updTime _ _) rfl ?_
      exact h8
    · refine onlyIn_ite ?_ ?_
      · exact h8
      · refine onlyIn_step (frame_updTime _ _) rfl ?_
        exact h8
  · refine onlyIn_ite ?_ ?_
    · refine onlyIn_step (frame_updTime _ _) rfl ?_
      exact h8
    · exact h8

theorem frame_timeL2 : ∀ s, onlyIn [.gn] s (timeL2 s) := by
  intro s
  unfold timeL2
  refine onlyIn_step (frame_updTime _ _) rfl ?_
  exact onlyIn_refl _ _

theorem frame_bodyTimeGet : ∀ a0 s, onlyIn [.clk, .free] s (bodyTimeGet a0 s).1 := by
  intro a0 s
  unfold bodyTimeGet
  unfold emptyPayload
  try beta_reduce
  refine onlyIn_ite1 ?_ ?_
  · extract_lets +onlyGivenNames x0
    have h1 : onlyIn [.clk, .free] s x0.2 := by
      dsimp only [x0]
      refine onlyIn_step (frame_freshNat _) rfl ?_
      exact onlyIn_refl _ _
    clear_value x0
    extract_lets +onlyGivenNames x2
    clear_value x2
    extract_lets +onlyGivenNames x3
    clear_value x3
    extract_lets +onlyGivenNames x4
    have h5 : onlyIn [.clk, .free] s x4 := by
      dsimp only [x4]
      refine onlyIn_ite ?_ ?_
      · refine onlyIn_step (frame_atCycle _ _) rfl ?_
        exact h1
      · exact h1
    clear_value x4
    refine onlyIn_ans ?_
    exact h5
  · refine onlyIn_ans ?_
    exact onlyIn_refl _ _

theorem frame_renumber : ∀ a0 s, onlyIn [.clk, .mb, .ev, .gr, .cf, .gn] s (renumber a0 s) := by
  intro a0 s
  unfold renumber
  refine onlyIn_step (onlyIn_put_clk_mb_ev_gr_cf_gn _ _ _ _ _ _ _) rfl ?_
  exact onlyIn_refl _ _

theorem frame_timeFrame : ∀ s, onlyIn [.gn, .free] s (timeFrame s) := by
  intro s
  unfold timeFrame
  extract_lets +onlyGivenNames x0
  clear_value x0
  extract_lets +onlyGivenNames x1
  have h2 : onlyIn [.gn, .free] s x1 := by
    dsimp only [x1]
    refine onlyIn_step (frame_updTime _ _) rfl ?_
    exact onlyIn_refl _ _
  clear_value x1
  refine onlyIn_ite ?_ ?_
  · extract_lets +onlyGivenNames x3
    have h4 : onlyIn [.gn, .free] s x3.2 := by
      dsimp only [x3]
      refine onlyIn_step (frame_freshNat _) rfl ?_
      exact h2
    clear_value x3
    extract_lets +onlyGivenNames x5
    clear_value x5
    refine onlyIn_step (frame_updTime _ _) rfl ?_
    exact h4
  · exact h2

theorem frame_execTimeEstablish : ∀ s t, execTimeEstablish s = .next t → onlyIn [.gn] s t := by
  intro s t h
  unfold execTimeEstablish at h
  extract_lets +onlyGivenNames x0 at h
  clear_value x0
  cases h
  refine onlyIn_ite ?_ ?_
  · refine onlyIn_step (frame_updTime _ _) rfl ?_
    exact onlyIn_refl _ _
  · exact onlyIn_refl _ _

theorem frame_execRenumberWaitTimeout : ∀ s t, execRenumberWaitTimeout s = .next t → onlyIn [.mb, .pf, .ev, .out] s t := by
  intro s t h
  unfold execRenumberWaitTimeout at h
  cases h
  refine onlyIn_ite ?_ ?_
  · refine onlyIn_step (frame_beginCond _ _ _ _) rfl ?_
    exact onlyIn_refl _ _
  · exact onlyIn_refl _ _

theorem frame_execPpsPulse : ∀ s t, execPpsPulse s = .next t → onlyIn [.mb, .pf, .ev, .gn, .out] s t := by
  intro s t h
  unfold execPpsPulse at h
  cases h
  refine onlyIn_ite ?_ ?_
  · extract_lets +onlyGivenNames x0
    clear_value x0
    extract_lets +onlyGivenNames x1
    clear_value x1
    extract_lets +onlyGivenNames x2
    clear_value x2
    extract_lets +onlyGivenNames x3
    have h4 : onlyIn [.mb, .pf, .ev, .gn, .out] s x3 := by
      dsimp only [x3]
      refine onlyIn_step (frame_updTime _ _) rfl ?_
      exact onlyIn_refl _ _
    clear_value x3
    split
    · refine onlyIn_ite ?_ ?_
      · extract_lets +onlyGivenNames x5
        clear_value x5
        refine onlyIn_step (frame_happen _ _ _ _) rfl ?_
        refine onlyIn_step (frame_holdoverOver _) rfl ?_
        refine onlyIn_step (frame_updTime _ _) rfl ?_
        exact h4
      · exact h4
    · exact h4
  · exact onlyIn_refl _ _

theorem frame_execTimeHoldoverEntry : ∀ s t, execTimeHoldoverEntry s = .next t → onlyIn [.mb, .pf, .ev, .gn, .out] s t := by
  intro s t h
  unfold execTimeHoldoverEntry at h
  extract_lets +onlyGivenNames x0 at h
  clear_value x0
  cases h
  refine onlyIn_ite ?_ ?_
  · refine onlyIn_step (frame_beginCond _ _ _ _) rfl ?_
    refine onlyIn_step (frame_updTime _ _) rfl ?_
    exact onlyIn_refl _ _
  · exact onlyIn_refl _ _

theorem frame_execPpsiEdge : ∀ a0 s t, execPpsiEdge a0 s = .next t → onlyIn [.clk, .mb, .pf, .ev, .gn, .out, .free] s t := by
  intro a0 s t h
  unfold execPpsiEdge at h
  extract_lets +onlyGivenNames x0 at h
  clear_value x0
  cases h
  refine onlyIn_ite ?_ ?_
  · exact onlyIn_refl _ _
  · extract_lets +onlyGivenNames x1
    clear_value x1
    extract_lets +onlyGivenNames x2
    clear_value x2
    extract_lets +onlyGivenNames x3
    clear_value x3
    extract_lets +onlyGivenNames x4
    have h5 : onlyIn [.clk, .mb, .pf, .ev, .gn, .out, .free] s x4 := by
      dsimp only [x4]
      refine onlyIn_step (frame_detect _ _ _ _ _) rfl ?_
      refine onlyIn_step (frame_updTime _ _) rfl ?_
      exact onlyIn_refl _ _
    clear_value x4
    extract_lets +onlyGivenNames x6
    clear_value x6
    extract_lets +onlyGivenNames x7
    clear_value x7
    refine onlyIn_ite ?_ ?_
    · refine onlyIn_step (frame_acceptTime _ _ _ _ _) rfl ?_
      exact h5
    · exact h5

theorem frame_execPpsiMissing : ∀ s t, execPpsiMissing s = .next t → onlyIn [.mb, .pf, .ev, .gn, .out] s t := by
  intro s t h
  unfold execPpsiMissing at h
  cases h
  refine onlyIn_ite ?_ ?_
  · refine onlyIn_step (frame_beginCond _ _ _ _) rfl ?_
    refine onlyIn_step (frame_updTime _ _) rfl ?_
    exact onlyIn_refl _ _
  · exact onlyIn_refl _ _

end Sys2Proof.Machine
end

