-- ==== Sys2Proof/Laws/FrameFabric.lean ====
section
/-!
SUPPORT. Laws/FrameFabric.lean: the parts of the state that the definitions of Machine/Fabric.lean may change.
-/

namespace Sys2Proof.Machine

open Sys2Proof.Safety

theorem frame_updFb : ∀ a0 s, onlyIn [.fb] s (updFb a0 s) := by
  intro a0 s
  unfold updFb
  refine onlyIn_step (onlyIn_put_fb _ _) rfl ?_
  exact onlyIn_refl _ _

theorem frame_fbSend : ∀ a0 a1 s, onlyIn [.fb] s (fbSend a0 a1 s) := by
  intro a0 a1 s
  unfold fbSend
  refine onlyIn_ite ?_ ?_
  · refine onlyIn_step (frame_updFb _ _) rfl ?_
    exact onlyIn_refl _ _
  · exact onlyIn_refl _ _

theorem frame_fabricRestart : ∀ s, onlyIn [.fb] s (fabricRestart s) := by
  intro s
  unfold fabricRestart
  refine onlyIn_step (frame_updFb _ _) rfl ?_
  exact onlyIn_refl _ _

theorem frame_fabricDown : ∀ s, onlyIn [.fb] s (fabricDown s) := by
  intro s
  unfold fabricDown
  refine onlyIn_step (frame_updFb _ _) rfl ?_
  refine onlyIn_step (frame_fabricRestart _) rfl ?_
  exact onlyIn_refl _ _

theorem frame_judgeEvents : ∀ a0 a1 s, onlyIn [.mb, .pf, .ev, .out] s (judgeEvents a0 a1 s) := by
  intro a0 a1 s
  unfold judgeEvents
  dsimp only
  refine onlyIn_step (frame_detect _ _ _ _ _) rfl ?_
  refine onlyIn_step (frame_detect _ _ _ _ _) rfl ?_
  exact onlyIn_refl _ _

theorem frame_addGeneration : ∀ a0 s, onlyIn [.mb, .pf, .ev, .fb, .out] s (addGeneration a0 s) := by
  intro a0 s
  unfold addGeneration
  refine onlyIn_step (frame_judgeEvents _ _ _) rfl ?_
  refine onlyIn_step (frame_updFb _ _) rfl ?_
  exact onlyIn_refl _ _

theorem frame_alignStep : ∀ a0 s, onlyIn [.fb] s (alignStep a0 s) := by
  intro a0 s
  unfold alignStep
  refine onlyIn_step (frame_updFb _ _) rfl ?_
  exact onlyIn_refl _ _

theorem frame_alignSlew : ∀ s, onlyIn [.gn, .free] s (alignSlew s) := by
  intro s
  unfold alignSlew
  extract_lets +onlyGivenNames x0
  have h1 : onlyIn [.gn, .free] s x0.2 := by
    dsimp only [x0]
    refine onlyIn_step (frame_freshNat _) rfl ?_
    exact onlyIn_refl _ _
  clear_value x0
  refine onlyIn_step (frame_updTime _ _) rfl ?_
  exact h1

theorem frame_alignMove : ∀ a0 s, onlyIn [.gn, .fb, .free] s (alignMove a0 s) := by
  intro a0 s
  unfold alignMove
  refine onlyIn_ite ?_ ?_
  · refine onlyIn_step (frame_alignStep _ _) rfl ?_
    exact onlyIn_refl _ _
  · refine onlyIn_step (frame_alignSlew _) rfl ?_
    exact onlyIn_refl _ _

theorem frame_enterAlign : ∀ a0 s, onlyIn [.fb] s (enterAlign a0 s) := by
  intro a0 s
  unfold enterAlign
  refine onlyIn_step (frame_updFb _ _) rfl ?_
  exact onlyIn_refl _ _

theorem frame_alignLost : ∀ a0 a1 s, onlyIn [.mb, .pf, .ev, .gn, .fb, .out, .free] s (alignLost a0 a1 s) := by
  intro a0 a1 s
  unfold alignLost
  refine onlyIn_step (frame_alignMove _ _) rfl ?_
  refine onlyIn_step (frame_enterAlign _ _) rfl ?_
  refine onlyIn_step (frame_happen _ _ _ _) rfl ?_
  exact onlyIn_refl _ _

theorem frame_alignOn : ∀ a0 a1 s, onlyIn [.mb, .pf, .ev, .gn, .fb, .out, .free] s (alignOn a0 a1 s) := by
  intro a0 a1 s
  unfold alignOn
  extract_lets +onlyGivenNames x0
  clear_value x0
  extract_lets +onlyGivenNames x1
  clear_value x1
  extract_lets +onlyGivenNames x2
  clear_value x2
  split
  · refine onlyIn_ite ?_ ?_
    · refine onlyIn_step (frame_alignStep _ _) rfl ?_
      refine onlyIn_step (frame_enterAlign _ _) rfl ?_
      exact onlyIn_refl _ _
    · refine onlyIn_ite ?_ ?_
      · refine onlyIn_step (frame_alignSlew _) rfl ?_
        refine onlyIn_step (frame_enterAlign _ _) rfl ?_
        exact onlyIn_refl _ _
      · refine onlyIn_step (frame_beginCond _ _ _ _) rfl ?_
        refine onlyIn_step (frame_enterAlign _ _) rfl ?_
        exact onlyIn_refl _ _
  · refine onlyIn_ite ?_ ?_
    · refine onlyIn_ite ?_ ?_
      · refine onlyIn_step (frame_enterAlign _ _) rfl ?_
        exact onlyIn_refl _ _
      · refine onlyIn_step (frame_updFb _ _) rfl ?_
        exact onlyIn_refl _ _
    · refine onlyIn_step (frame_alignMove _ _) rfl ?_
      refine onlyIn_step (frame_updFb _ _) rfl ?_
      exact onlyIn_refl _ _
  · refine onlyIn_ite ?_ ?_
    · refine onlyIn_ite ?_ ?_
      · refine onlyIn_step (frame_alignLost _ _ _) rfl ?_
        exact onlyIn_refl _ _
      · refine onlyIn_step (frame_updFb _ _) rfl ?_
        exact onlyIn_refl _ _
    · refine onlyIn_step (frame_updFb _ _) rfl ?_
      exact onlyIn_refl _ _
  · refine onlyIn_ite ?_ ?_
    · refine onlyIn_ite ?_ ?_
      · refine onlyIn_step (frame_enterAlign _ _) rfl ?_
        exact onlyIn_refl _ _
      · refine onlyIn_step (frame_alignMove _ _) rfl ?_
        refine onlyIn_step (frame_enterAlign _ _) rfl ?_
        exact onlyIn_refl _ _
    · refine onlyIn_ite ?_ ?_
      · refine onlyIn_step (frame_alignLost _ _ _) rfl ?_
        exact onlyIn_refl _ _
      · refine onlyIn_step (frame_enterAlign _ _) rfl ?_
        exact onlyIn_refl _ _
  · refine onlyIn_ite ?_ ?_
    · refine onlyIn_step (frame_alignStep _ _) rfl ?_
      refine onlyIn_step (frame_detect _ _ _ _ _) rfl ?_
      refine onlyIn_step (frame_enterAlign _ _) rfl ?_
      exact onlyIn_refl _ _
    · exact onlyIn_refl _ _
  · refine onlyIn_ite ?_ ?_
    · exact onlyIn_refl _ _
    · refine onlyIn_ite ?_ ?_
      · refine onlyIn_step (frame_enterAlign _ _) rfl ?_
        exact onlyIn_refl _ _
      · refine onlyIn_step (frame_enterAlign _ _) rfl ?_
        exact onlyIn_refl _ _

theorem frame_fbFlood : ∀ a0 a1 s, onlyIn [.fb] s (fbFlood a0 a1 s) := by
  intro a0 a1 s
  unfold fbFlood
  refine onlyIn_fold _ _ (fun st0 a1 => ?_) ?_
  · refine onlyIn_step (frame_fbSend _ _ _) rfl ?_
    exact onlyIn_refl _ _
  · exact onlyIn_refl _ _

theorem frame_closeFabricSessions : ∀ s, onlyIn [.mb, .pf, .ev, .out] s (closeFabricSessions s) := by
  intro s
  unfold closeFabricSessions
  refine onlyIn_fold _ _ (fun st0 a1 => ?_) ?_
  · refine onlyIn_step (frame_closeSession _ _ _) rfl ?_
    exact onlyIn_refl _ _
  · refine onlyIn_step (onlyIn_put_mb _ _) rfl ?_
    exact onlyIn_refl _ _

theorem frame_storeNode : ∀ a0 a1 s, onlyIn [.pf, .fb] s (storeNode a0 a1 s) := by
  intro a0 a1 s
  unfold storeNode
  refine onlyIn_step (frame_updFb _ _) rfl ?_
  refine onlyIn_step (frame_writeSettings _ _) rfl ?_
  exact onlyIn_refl _ _

theorem frame_takeNumber : ∀ a0 a1 s, onlyIn [.mb, .pf, .ev, .fb, .out] s (takeNumber a0 a1 s) := by
  intro a0 a1 s
  unfold takeNumber
  refine onlyIn_step (frame_closeFabricSessions _) rfl ?_
  refine onlyIn_step (frame_fabricRestart _) rfl ?_
  refine onlyIn_step (frame_updFb _ _) rfl ?_
  refine onlyIn_step (frame_storeNode _ _ _) rfl ?_
  exact onlyIn_refl _ _

theorem frame_passAssign : ∀ a0 a1 a2 a3 s, onlyIn [.mb, .pf, .ev, .fb, .out] s (passAssign a0 a1 a2 a3 s) := by
  intro a0 a1 a2 a3 s
  unfold passAssign
  refine onlyIn_ite ?_ ?_
  · exact onlyIn_refl _ _
  · extract_lets +onlyGivenNames x0
    have h1 : onlyIn [.mb, .pf, .ev, .fb, .out] s x0 := by
      dsimp only [x0]
      refine onlyIn_step (frame_fbFlood _ _ _) rfl ?_
      refine onlyIn_step (frame_updFb _ _) rfl ?_
      exact onlyIn_refl _ _
    clear_value x0
    refine onlyIn_ite ?_ ?_
    · refine onlyIn_step (frame_takeNumber _ _ _) rfl ?_
      exact h1
    · exact h1

theorem frame_autoNumber : ∀ s, onlyIn [.mb, .pf, .ev, .fb, .out] s (autoNumber s) := by
  intro s
  unfold autoNumber
  refine onlyIn_ite ?_ ?_
  · extract_lets +onlyGivenNames x0
    clear_value x0
    split
    · refine onlyIn_step (frame_detect _ _ _ _ _) rfl ?_
      exact onlyIn_refl _ _
    · split
      · refine onlyIn_step (frame_passAssign _ _ _ _ _) rfl ?_
        refine onlyIn_step (frame_detect _ _ _ _ _) rfl ?_
        exact onlyIn_refl _ _
      · refine onlyIn_step (frame_detect _ _ _ _ _) rfl ?_
        exact onlyIn_refl _ _
  · exact onlyIn_refl _ _

theorem frame_resolveDuplicate : ∀ s, onlyIn [.mb, .pf, .ev, .fb, .out] s (resolveDuplicate s) := by
  intro s
  unfold resolveDuplicate
  refine onlyIn_ite ?_ ?_
  · refine onlyIn_step (frame_happen _ _ _ _) rfl ?_
    refine onlyIn_step (frame_closeFabricSessions _) rfl ?_
    refine onlyIn_step (frame_updFb _ _) rfl ?_
    refine onlyIn_step (frame_storeNode _ _ _) rfl ?_
    exact onlyIn_refl _ _
  · exact onlyIn_refl _ _

theorem frame_pruneDb : ∀ s, onlyIn [.fb] s (pruneDb s) := by
  intro s
  unfold pruneDb
  extract_lets +onlyGivenNames x0
  clear_value x0
  refine onlyIn_step (frame_updFb _ _) rfl ?_
  exact onlyIn_refl _ _

theorem frame_issueVerdict : ∀ a0 s, onlyIn [.mb, .pf, .ev, .fb, .out] s (issueVerdict a0 s) := by
  intro a0 s
  unfold issueVerdict
  extract_lets +onlyGivenNames x0
  clear_value x0
  extract_lets +onlyGivenNames x1
  clear_value x1
  refine onlyIn_step (frame_addGeneration _ _) rfl ?_
  refine onlyIn_step (frame_fbFlood _ _ _) rfl ?_
  exact onlyIn_refl _ _

theorem frame_recomputeVerdicts : ∀ s, onlyIn [.mb, .pf, .ev, .fb, .out] s (recomputeVerdicts s) := by
  intro s
  unfold recomputeVerdicts
  refine onlyIn_ite ?_ ?_
  · refine onlyIn_fold _ _ (fun st0 a1 => ?_) ?_
    · refine onlyIn_step (frame_issueVerdict _ _) rfl ?_
      exact onlyIn_refl _ _
    · refine onlyIn_step (frame_issueVerdict _ _) rfl ?_
      exact onlyIn_refl _ _
  · exact onlyIn_refl _ _

theorem frame_setRef : ∀ a0 s, onlyIn [.mb, .pf, .ev, .gn, .fb, .out] s (setRef a0 s) := by
  intro a0 s
  unfold setRef
  refine onlyIn_ite ?_ ?_
  · refine onlyIn_ite ?_ ?_
    · refine onlyIn_step (frame_happen _ _ _ _) rfl ?_
      exact onlyIn_refl _ _
    · exact onlyIn_refl _ _
  · extract_lets +onlyGivenNames x0
    have h1 : onlyIn [.mb, .pf, .ev, .gn, .fb, .out] s x0 := by
      dsimp only [x0]
      refine onlyIn_ite ?_ ?_
      · exact onlyIn_refl _ _
      · refine onlyIn_step (frame_happen _ _ _ _) rfl ?_
        exact onlyIn_refl _ _
    clear_value x0
    extract_lets +onlyGivenNames x2
    have h3 : onlyIn [.mb, .pf, .ev, .gn, .fb, .out] s x2 := by
      dsimp only [x2]
      refine onlyIn_step (frame_updFb _ _) rfl ?_
      exact h1
    clear_value x2
    refine onlyIn_step (frame_updTime _ _) rfl ?_
    exact h3

theorem frame_dbChanged : ∀ s, onlyIn [.mb, .pf, .ev, .gn, .fb, .out] s (dbChanged s) := by
  intro s
  unfold dbChanged
  extract_lets +onlyGivenNames x0
  have h1 : onlyIn [.mb, .pf, .ev, .gn, .fb, .out] s x0 := by
    dsimp only [x0]
    refine onlyIn_step (frame_autoNumber _) rfl ?_
    refine onlyIn_step (frame_resolveDuplicate _) rfl ?_
    refine onlyIn_step (frame_pruneDb _) rfl ?_
    exact onlyIn_refl _ _
  clear_value x0
  refine onlyIn_step (frame_recomputeVerdicts _) rfl ?_
  refine onlyIn_step (frame_setRef _ _) rfl ?_
  exact h1

theorem frame_floodOwn : ∀ s, onlyIn [.fb] s (floodOwn s) := by
  intro s
  unfold floodOwn
  extract_lets +onlyGivenNames x0
  have h1 : onlyIn [.fb] s x0 := by
    dsimp only [x0]
    refine onlyIn_step (frame_updFb _ _) rfl ?_
    exact onlyIn_refl _ _
  clear_value x0
  refine onlyIn_step (frame_fbFlood _ _ _) rfl ?_
  refine onlyIn_step (frame_updFb _ _) rfl ?_
  exact h1

theorem frame_refreshOwn : ∀ s, onlyIn [.mb, .pf, .ev, .gn, .fb, .out] s (refreshOwn s) := by
  intro s
  unfold refreshOwn
  refine onlyIn_ite ?_ ?_
  · exact onlyIn_refl _ _
  · extract_lets +onlyGivenNames x0
    have h1 : onlyIn [.mb, .pf, .ev, .gn, .fb, .out] s x0 := by
      dsimp only [x0]
      refine onlyIn_step (frame_dbChanged _) rfl ?_
      exact onlyIn_refl _ _
    clear_value x0
    refine onlyIn_step (frame_floodOwn _) rfl ?_
    exact h1

theorem frame_updPort : ∀ a0 a1 s, onlyIn [.fb] s (updPort a0 a1 s) := by
  intro a0 a1 s
  unfold updPort
  refine onlyIn_step (frame_updFb _ _) rfl ?_
  exact onlyIn_refl _ _

theorem frame_neighbourDown : ∀ a0 s, onlyIn [.mb, .pf, .ev, .gn, .fb, .out] s (neighbourDown a0 s) := by
  intro a0 s
  unfold neighbourDown
  refine onlyIn_step (frame_refreshOwn _) rfl ?_
  refine onlyIn_step (frame_dbChanged _) rfl ?_
  refine onlyIn_step (frame_updPort _ _ _) rfl ?_
  exact onlyIn_refl _ _

theorem frame_linkDown : ∀ a0 s, onlyIn [.mb, .pf, .ev, .gn, .fb, .out] s (linkDown a0 s) := by
  intro a0 s
  unfold linkDown
  refine onlyIn_step (frame_beginCond _ _ _ _) rfl ?_
  refine onlyIn_step (frame_neighbourDown _ _) rfl ?_
  refine onlyIn_step (frame_updPort _ _ _) rfl ?_
  exact onlyIn_refl _ _

theorem frame_fbBoundary : ∀ s, onlyIn [.clk, .mb, .ev, .gr, .cf, .gn, .fb] s (fbBoundary s) := by
  intro s
  unfold fbBoundary
  split
  · exact onlyIn_refl _ _
  · extract_lets +onlyGivenNames x0
    clear_value x0
    extract_lets +onlyGivenNames x1
    have h2 : onlyIn [.clk, .mb, .ev, .gr, .cf, .gn, .fb] s x1 := by
      dsimp only [x1]
      refine onlyIn_step (frame_updTime _ _) rfl ?_
      refine onlyIn_step (frame_renumber _ _) rfl ?_
      exact onlyIn_refl _ _
    clear_value x1
    refine onlyIn_step (frame_updFb _ _) rfl ?_
    exact h2

theorem frame_execFrameRenumber : ∀ s t, execFrameRenumber s = .next t → onlyIn [.clk, .mb, .pf, .ev, .gr, .cf, .gn, .fb, .out] s t := by
  intro s t h
  unfold execFrameRenumber at h
  extract_lets +onlyGivenNames x0 at h
  clear_value x0
  cases h
  refine onlyIn_ite ?_ ?_
  · split
    · exact onlyIn_refl _ _
    · refine onlyIn_ite ?_ ?_
      · refine onlyIn_ite ?_ ?_
        · refine onlyIn_step (frame_updFb _ _) rfl ?_
          refine onlyIn_step (frame_detect _ _ _ _ _) rfl ?_
          refine onlyIn_step (frame_renumber _ _) rfl ?_
          exact onlyIn_refl _ _
        · exact onlyIn_refl _ _
      · refine onlyIn_ite ?_ ?_
        · exact onlyIn_refl _ _
        · refine onlyIn_ite ?_ ?_
          · refine onlyIn_step (frame_updFb _ _) rfl ?_
            exact onlyIn_refl _ _
          · refine onlyIn_step (frame_detect _ _ _ _ _) rfl ?_
            refine onlyIn_step (frame_renumber _ _) rfl ?_
            exact onlyIn_refl _ _
  · split
    · refine onlyIn_ite ?_ ?_
      · extract_lets +onlyGivenNames x1
        clear_value x1
        refine onlyIn_step (frame_updFb _ _) rfl ?_
        refine onlyIn_step (frame_updTime _ _) rfl ?_
        refine onlyIn_step (frame_renumber _ _) rfl ?_
        exact onlyIn_refl _ _
      · exact onlyIn_refl _ _
    · exact onlyIn_refl _ _

theorem frame_floodTime : ∀ a0 s, onlyIn [.fb] s (floodTime a0 s) := by
  intro a0 s
  unfold floodTime
  refine onlyIn_ite ?_ ?_
  · refine onlyIn_step (frame_fbFlood _ _ _) rfl ?_
    exact onlyIn_refl _ _
  · exact onlyIn_refl _ _

theorem frame_execTimeMessageQueue : ∀ s t, execTimeMessageQueue s = .next t → onlyIn [.mb, .pf, .ev, .gn, .fb, .out] s t := by
  intro s t h
  unfold execTimeMessageQueue at h
  cases h
  refine onlyIn_ite ?_ ?_
  · extract_lets +onlyGivenNames x0
    clear_value x0
    extract_lets +onlyGivenNames x1
    clear_value x1
    extract_lets +onlyGivenNames x2
    have h3 : onlyIn [.mb, .pf, .ev, .gn, .fb, .out] s x2 := by
      dsimp only [x2]
      refine onlyIn_ite ?_ ?_
      · refine onlyIn_step (frame_beginCond _ _ _ _) rfl ?_
        refine onlyIn_step (frame_updTime _ _) rfl ?_
        exact onlyIn_refl _ _
      · exact onlyIn_refl _ _
    clear_value x2
    extract_lets +onlyGivenNames x4
    clear_value x4
    extract_lets +onlyGivenNames x5
    clear_value x5
    extract_lets +onlyGivenNames x6
    clear_value x6
    extract_lets +onlyGivenNames x7
    have h8 : onlyIn [.mb, .pf, .ev, .gn, .fb, .out] s x7 := by
      dsimp only [x7]
      refine onlyIn_step (frame_updTime _ _) rfl ?_
      exact h3
    clear_value x7
    refine onlyIn_step (frame_notifyAll _ _ _ _) rfl ?_
    refine onlyIn_step (frame_floodTime _ _) rfl ?_
    exact h8
  · exact onlyIn_refl _ _

theorem frame_execHelloSend : ∀ a0 s t, execHelloSend a0 s = .next t → onlyIn [.fb] s t := by
  intro a0 s t h
  unfold execHelloSend at h
  cases h
  refine onlyIn_step (frame_fbSend _ _ _) rfl ?_
  exact onlyIn_refl _ _

theorem frame_execHello : ∀ a0 a1 a2 a3 a4 a5 s t, execHello a0 a1 a2 a3 a4 a5 s = .next t → onlyIn [.mb, .pf, .ev, .gn, .fb, .out] s t := by
  intro a0 a1 a2 a3 a4 a5 s t h
  unfold execHello at h
  extract_lets +onlyGivenNames x0 at h
  clear_value x0
  cases h
  refine onlyIn_ite ?_ ?_
  · exact onlyIn_refl _ _
  · extract_lets +onlyGivenNames x1
    clear_value x1
    extract_lets +onlyGivenNames x2
    clear_value x2
    refine onlyIn_step (frame_refreshOwn _) rfl ?_
    refine onlyIn_step (frame_updPort _ _ _) rfl ?_
    exact onlyIn_refl _ _

theorem frame_execNeighbourTimeout : ∀ a0 s t, execNeighbourTimeout a0 s = .next t → onlyIn [.mb, .pf, .ev, .gn, .fb, .out] s t := by
  intro a0 s t h
  unfold execNeighbourTimeout at h
  extract_lets +onlyGivenNames x0 at h
  clear_value x0
  cases h
  refine onlyIn_ite ?_ ?_
  · refine onlyIn_step (frame_neighbourDown _ _) rfl ?_
    exact onlyIn_refl _ _
  · exact onlyIn_refl _ _

theorem frame_execLinkDown : ∀ a0 s t, execLinkDown a0 s = .next t → onlyIn [.mb, .pf, .ev, .gn, .fb, .out] s t := by
  intro a0 s t h
  unfold execLinkDown at h
  cases h
  refine onlyIn_ite ?_ ?_
  · refine onlyIn_step (frame_linkDown _ _) rfl ?_
    exact onlyIn_refl _ _
  · exact onlyIn_refl _ _

theorem frame_execLinkUp : ∀ a0 s t, execLinkUp a0 s = .next t → onlyIn [.mb, .pf, .ev, .fb, .out] s t := by
  intro a0 s t h
  unfold execLinkUp at h
  cases h
  refine onlyIn_ite ?_ ?_
  · refine onlyIn_step (frame_detect _ _ _ _ _) rfl ?_
    refine onlyIn_step (frame_updPort _ _ _) rfl ?_
    exact onlyIn_refl _ _
  · exact onlyIn_refl _ _

theorem frame_execLinkDegraded : ∀ a0 a1 s t, execLinkDegraded a0 a1 s = .next t → onlyIn [.mb, .pf, .ev, .fb, .out] s t := by
  intro a0 a1 s t h
  unfold execLinkDegraded at h
  extract_lets +onlyGivenNames x0 at h
  clear_value x0
  extract_lets +onlyGivenNames x1 at h
  clear_value x1
  extract_lets +onlyGivenNames x2 at h
  clear_value x2
  extract_lets +onlyGivenNames x3 at h
  have h4 : onlyIn [.mb, .pf, .ev, .fb, .out] s x3 := by
    dsimp only [x3]
    refine onlyIn_step (frame_updPort _ _ _) rfl ?_
    exact onlyIn_refl _ _
  clear_value x3
  cases h
  refine onlyIn_ite ?_ ?_
  · exact onlyIn_refl _ _
  · refine onlyIn_ite ?_ ?_
    · refine onlyIn_ite ?_ ?_
      · refine onlyIn_step (frame_beginCond _ _ _ _) rfl ?_
        exact h4
      · exact h4
    · refine onlyIn_step (frame_detect _ _ _ _ _) rfl ?_
      exact h4

theorem frame_execLsaFlood : ∀ s t, execLsaFlood s = .next t → onlyIn [.mb, .pf, .ev, .gn, .fb, .out] s t := by
  intro s t h
  unfold execLsaFlood at h
  cases h
  refine onlyIn_ite ?_ ?_
  · exact onlyIn_refl _ _
  · refine onlyIn_ite ?_ ?_
    · refine onlyIn_step (frame_refreshOwn _) rfl ?_
      exact onlyIn_refl _ _
    · refine onlyIn_ite ?_ ?_
      · refine onlyIn_step (frame_floodOwn _) rfl ?_
        exact onlyIn_refl _ _
      · exact onlyIn_refl _ _

theorem frame_execLsa : ∀ a0 a1 s t, execLsa a0 a1 s = .next t → onlyIn [.mb, .pf, .ev, .gn, .fb, .out] s t := by
  intro a0 a1 s t h
  unfold execLsa at h
  cases h
  refine onlyIn_ite ?_ ?_
  · exact onlyIn_refl _ _
  · split
    · refine onlyIn_ite ?_ ?_
      · extract_lets +onlyGivenNames x0
        have h1 : onlyIn [.mb, .pf, .ev, .gn, .fb, .out] s x0 := by
          dsimp only [x0]
          refine onlyIn_step (frame_fbFlood _ _ _) rfl ?_
          refine onlyIn_step (frame_updFb _ _) rfl ?_
          exact onlyIn_refl _ _
        clear_value x0
        refine onlyIn_ite ?_ ?_
        · exact h1
        · refine onlyIn_step (frame_refreshOwn _) rfl ?_
          refine onlyIn_step (frame_dbChanged _) rfl ?_
          exact h1
      · exact onlyIn_refl _ _
    · refine onlyIn_ite ?_ ?_
      · refine onlyIn_step (frame_refreshOwn _) rfl ?_
        refine onlyIn_step (frame_dbChanged _) rfl ?_
        refine onlyIn_step (frame_fbFlood _ _ _) rfl ?_
        refine onlyIn_step (frame_updFb _ _) rfl ?_
        exact onlyIn_refl _ _
      · refine onlyIn_step (frame_happen _ _ _ _) rfl ?_
        exact onlyIn_refl _ _

theorem frame_execLsaExpiry : ∀ s t, execLsaExpiry s = .next t → onlyIn [.mb, .pf, .ev, .gn, .fb, .out] s t := by
  intro s t h
  unfold execLsaExpiry at h
  cases h
  refine onlyIn_ite ?_ ?_
  · refine onlyIn_step (frame_refreshOwn _) rfl ?_
    refine onlyIn_step (frame_dbChanged _) rfl ?_
    refine onlyIn_step (frame_updFb _ _) rfl ?_
    exact onlyIn_refl _ _
  · exact onlyIn_refl _ _

theorem frame_execAssign : ∀ a0 a1 a2 a3 s t, execAssign a0 a1 a2 a3 s = .next t → onlyIn [.mb, .pf, .ev, .gn, .fb, .out] s t := by
  intro a0 a1 a2 a3 s t h
  unfold execAssign at h
  cases h
  refine onlyIn_ite ?_ ?_
  · refine onlyIn_step (frame_refreshOwn _) rfl ?_
    refine onlyIn_step (frame_passAssign _ _ _ _ _) rfl ?_
    exact onlyIn_refl _ _
  · exact onlyIn_refl _ _

theorem frame_execVerdict : ∀ a0 a1 s t, execVerdict a0 a1 s = .next t → onlyIn [.mb, .pf, .ev, .fb, .out] s t := by
  intro a0 a1 s t h
  unfold execVerdict at h
  cases h
  refine onlyIn_ite ?_ ?_
  · extract_lets +onlyGivenNames x0
    clear_value x0
    extract_lets +onlyGivenNames x1
    clear_value x1
    refine onlyIn_step (frame_addGeneration _ _) rfl ?_
    refine onlyIn_step (frame_fbFlood _ _ _) rfl ?_
    exact onlyIn_refl _ _
  · exact onlyIn_refl _ _

theorem frame_execVerdictInForce : ∀ s t, execVerdictInForce s = .next t → onlyIn [.fb] s t := by
  intro s t h
  unfold execVerdictInForce at h
  cases h
  split
  · refine onlyIn_step (frame_updFb _ _) rfl ?_
    exact onlyIn_refl _ _
  · exact onlyIn_refl _ _

theorem frame_meetRef : ∀ a0 s, onlyIn [.mb, .pf, .ev, .gn, .fb, .out] s (meetRef a0 s) := by
  intro a0 s
  unfold meetRef
  split
  · refine onlyIn_ite ?_ ?_
    · exact onlyIn_refl _ _
    · refine onlyIn_step (frame_setRef _ _) rfl ?_
      exact onlyIn_refl _ _
  · refine onlyIn_step (frame_setRef _ _) rfl ?_
    exact onlyIn_refl _ _
  · exact onlyIn_refl _ _

theorem frame_execSync : ∀ a0 a1 a2 s t, execSync a0 a1 a2 s = .next t → onlyIn [.mb, .pf, .ev, .gn, .fb, .out, .free] s t := by
  intro a0 a1 a2 s t h
  unfold execSync at h
  cases h
  refine onlyIn_ite ?_ ?_
  · exact onlyIn_refl _ _
  · extract_lets +onlyGivenNames x0
    have h1 : onlyIn [.mb, .pf, .ev, .gn, .fb, .out, .free] s x0 := by
      dsimp only [x0]
      refine onlyIn_step (frame_meetRef _ _) rfl ?_
      exact onlyIn_refl _ _
    clear_value x0
    extract_lets +onlyGivenNames x2
    clear_value x2
    refine onlyIn_ite ?_ ?_
    · exact h1
    · extract_lets +onlyGivenNames x3
      clear_value x3
      extract_lets +onlyGivenNames x4
      clear_value x4
      extract_lets +onlyGivenNames x5
      have h6 : onlyIn [.mb, .pf, .ev, .gn, .fb, .out, .free] s x5 := by
        dsimp only [x5]
        refine onlyIn_step (frame_updFb _ _) rfl ?_
        exact h1
      clear_value x5
      refine onlyIn_step (frame_alignOn _ _ _) rfl ?_
      refine onlyIn_step (frame_detect _ _ _ _ _) rfl ?_
      exact h6

theorem frame_execSyncSend : ∀ a0 a1 s t, execSyncSend a0 a1 s = .next t → onlyIn [.fb] s t := by
  intro a0 a1 s t h
  unfold execSyncSend at h
  cases h
  refine onlyIn_ite ?_ ?_
  · exact onlyIn_refl _ _
  · refine onlyIn_ite ?_ ?_
    · refine onlyIn_step (frame_fbSend _ _ _) rfl ?_
      exact onlyIn_refl _ _
    · split
      · refine onlyIn_ite ?_ ?_
        · exact onlyIn_refl _ _
        · refine onlyIn_step (frame_fbSend _ _ _) rfl ?_
          exact onlyIn_refl _ _
      · exact onlyIn_refl _ _

theorem frame_execDelayReq : ∀ a0 a1 s t, execDelayReq a0 a1 s = .next t → onlyIn [.fb] s t := by
  intro a0 a1 s t h
  unfold execDelayReq at h
  cases h
  split
  · refine onlyIn_step (frame_fbSend _ _ _) rfl ?_
    exact onlyIn_refl _ _
  · extract_lets +onlyGivenNames x0
    clear_value x0
    refine onlyIn_ite ?_ ?_
    · refine onlyIn_step (frame_fbSend _ _ _) rfl ?_
      refine onlyIn_step (frame_updPort _ _ _) rfl ?_
      exact onlyIn_refl _ _
    · exact onlyIn_refl _ _

theorem frame_execDelayResp : ∀ a0 a1 a2 a3 a4 a5 s t, execDelayResp a0 a1 a2 a3 a4 a5 s = .next t → onlyIn [.fb] s t := by
  intro a0 a1 a2 a3 a4 a5 s t h
  unfold execDelayResp at h
  cases h
  refine onlyIn_ite ?_ ?_
  · refine onlyIn_step (frame_updPort _ _ _) rfl ?_
    exact onlyIn_refl _ _
  · exact onlyIn_refl _ _

theorem frame_execTime : ∀ a0 a1 s t, execTime a0 a1 s = .next t → onlyIn [.clk, .mb, .pf, .ev, .gn, .fb, .out, .free] s t := by
  intro a0 a1 s t h
  unfold execTime at h
  extract_lets +onlyGivenNames x0 at h
  clear_value x0
  cases h
  refine onlyIn_ite ?_ ?_
  · exact onlyIn_refl _ _
  · extract_lets +onlyGivenNames x1
    have h2 : onlyIn [.clk, .mb, .pf, .ev, .gn, .fb, .out, .free] s x1 := by
      dsimp only [x1]
      refine onlyIn_step (frame_fbFlood _ _ _) rfl ?_
      refine onlyIn_step (frame_updTime _ _) rfl ?_
      exact onlyIn_refl _ _
    clear_value x1
    extract_lets +onlyGivenNames x3
    clear_value x3
    refine onlyIn_ite ?_ ?_
    · exact h2
    · extract_lets +onlyGivenNames x4
      clear_value x4
      extract_lets +onlyGivenNames x5
      have h6 : onlyIn [.clk, .mb, .pf, .ev, .gn, .fb, .out, .free] s x5 := by
        dsimp only [x5]
        refine onlyIn_ite ?_ ?_
        · refine onlyIn_step (onlyIn_put_clk _ _) rfl ?_
          exact h2
        · exact h2
      clear_value x5
      refine onlyIn_step (frame_acceptTime _ _ _ _ _) rfl ?_
      exact h6

theorem frame_execAlignmentTimer : ∀ s t, execAlignmentTimer s = .next t → onlyIn [.mb, .pf, .ev, .gn, .fb, .out, .free] s t := by
  intro s t h
  unfold execAlignmentTimer at h
  extract_lets +onlyGivenNames x0 at h
  clear_value x0
  cases h
  refine onlyIn_ite ?_ ?_
  · exact onlyIn_refl _ _
  · refine onlyIn_ite ?_ ?_
    · refine onlyIn_ite ?_ ?_
      · refine onlyIn_step (frame_alignStep _ _) rfl ?_
        refine onlyIn_step (frame_detect _ _ _ _ _) rfl ?_
        refine onlyIn_step (frame_enterAlign _ _) rfl ?_
        exact onlyIn_refl _ _
      · exact onlyIn_refl _ _
    · refine onlyIn_ite ?_ ?_
      · refine onlyIn_step (frame_updFb _ _) rfl ?_
        exact onlyIn_refl _ _
      · refine onlyIn_ite ?_ ?_
        · refine onlyIn_step (frame_enterAlign _ _) rfl ?_
          refine onlyIn_step (frame_beginCond _ _ _ _) rfl ?_
          exact onlyIn_refl _ _
        · refine onlyIn_ite ?_ ?_
          · refine onlyIn_step (frame_enterAlign _ _) rfl ?_
            exact onlyIn_refl _ _
          · refine onlyIn_ite ?_ ?_
            · refine onlyIn_step (frame_alignLost _ _ _) rfl ?_
              exact onlyIn_refl _ _
            · exact onlyIn_refl _ _

end Sys2Proof.Machine
end

