-- ==== Sys2Proof/Laws/FrameGnss.lean ====
section
/-!
SUPPORT. Laws/FrameGnss.lean: the parts of the state that the definitions of Machine/Gnss.lean may change.
-/

namespace Sys2Proof.Machine

open Sys2Proof.Safety

theorem frame_updGn : ∀ a0 s, onlyIn [.gn] s (updGn a0 s) := by
  intro a0 s
  unfold updGn
  refine onlyIn_step (onlyIn_put_gn _ _) rfl ?_
  exact onlyIn_refl _ _

theorem frame_gnssStop : ∀ s, onlyIn [.gn] s (gnssStop s) := by
  intro s
  unfold gnssStop
  refine onlyIn_step (frame_updGn _ _) rfl ?_
  exact onlyIn_refl _ _

theorem frame_antClear : ∀ a0 s, onlyIn [.mb, .pf, .ev, .out] s (antClear a0 s) := by
  intro a0 s
  unfold antClear
  refine onlyIn_step (frame_detect _ _ _ _ _) rfl ?_
  refine onlyIn_step (frame_detect _ _ _ _ _) rfl ?_
  refine onlyIn_step (frame_detect _ _ _ _ _) rfl ?_
  exact onlyIn_refl _ _

theorem frame_updAnt : ∀ a0 a1 s, onlyIn [.gn] s (updAnt a0 a1 s) := by
  intro a0 a1 s
  unfold updAnt
  refine onlyIn_step (frame_updGn _ _) rfl ?_
  exact onlyIn_refl _ _

theorem frame_dropTracking : ∀ a0 s, onlyIn [.gn] s (dropTracking a0 s) := by
  intro a0 s
  unfold dropTracking
  refine onlyIn_step (frame_updGn _ _) rfl ?_
  exact onlyIn_refl _ _

theorem frame_antShort : ∀ a0 a1 s, onlyIn [.mb, .pf, .ev, .gn, .out] s (antShort a0 a1 s) := by
  intro a0 a1 s
  unfold antShort
  refine onlyIn_step (frame_beginCond _ _ _ _) rfl ?_
  refine onlyIn_step (frame_dropTracking _ _) rfl ?_
  refine onlyIn_step (frame_updAnt _ _ _) rfl ?_
  exact onlyIn_refl _ _

theorem frame_antSample : ∀ a0 a1 a2 s, onlyIn [.mb, .pf, .ev, .gn, .out] s (antSample a0 a1 a2 s) := by
  intro a0 a1 a2 s
  unfold antSample
  extract_lets +onlyGivenNames x0
  clear_value x0
  extract_lets +onlyGivenNames x1
  have h2 : onlyIn [.mb, .pf, .ev, .gn, .out] s x1 := by
    dsimp only [x1]
    refine onlyIn_step (frame_updAnt _ _ _) rfl ?_
    exact onlyIn_refl _ _
  clear_value x1
  extract_lets +onlyGivenNames x3
  clear_value x3
  extract_lets +onlyGivenNames x4
  clear_value x4
  extract_lets +onlyGivenNames x5
  clear_value x5
  extract_lets +onlyGivenNames x6
  clear_value x6
  refine onlyIn_ite ?_ ?_
  · refine onlyIn_step (frame_antClear _ _) rfl ?_
    refine onlyIn_step (frame_updAnt _ _ _) rfl ?_
    exact h2
  · split
    · refine onlyIn_step (frame_updAnt _ _ _) rfl ?_
      exact h2
    · refine onlyIn_ite ?_ ?_
      · refine onlyIn_step (frame_antShort _ _ _) rfl ?_
        exact h2
      · refine onlyIn_ite ?_ ?_
        · refine onlyIn_ite ?_ ?_
          · refine onlyIn_step (frame_beginCond _ _ _ _) rfl ?_
            refine onlyIn_step (frame_dropTracking _ _) rfl ?_
            refine onlyIn_step (frame_updAnt _ _ _) rfl ?_
            exact h2
          · refine onlyIn_step (frame_updAnt _ _ _) rfl ?_
            exact h2
        · refine onlyIn_step (frame_updAnt _ _ _) rfl ?_
          exact h2
    · refine onlyIn_ite ?_ ?_
      · refine onlyIn_step (frame_antShort _ _ _) rfl ?_
        exact h2
      · refine onlyIn_ite ?_ ?_
        · refine onlyIn_ite ?_ ?_
          · refine onlyIn_step (frame_antClear _ _) rfl ?_
            refine onlyIn_step (frame_updAnt _ _ _) rfl ?_
            exact h2
          · refine onlyIn_step (frame_updAnt _ _ _) rfl ?_
            exact h2
        · refine onlyIn_step (frame_updAnt _ _ _) rfl ?_
          exact h2
    · refine onlyIn_ite ?_ ?_
      · exact h2
      · refine onlyIn_ite ?_ ?_
        · refine onlyIn_step (frame_antShort _ _ _) rfl ?_
          exact h2
        · refine onlyIn_ite ?_ ?_
          · refine onlyIn_step (frame_antClear _ _) rfl ?_
            refine onlyIn_step (frame_updAnt _ _ _) rfl ?_
            exact h2
          · refine onlyIn_step (frame_updAnt _ _ _) rfl ?_
            exact h2
    · exact h2

theorem frame_antTrial : ∀ a0 s, onlyIn [.gn] s (antTrial a0 s) := by
  intro a0 s
  unfold antTrial
  refine onlyIn_step (frame_updAnt _ _ _) rfl ?_
  exact onlyIn_refl _ _

theorem frame_gnssStart : ∀ s, onlyIn [.gn] s (gnssStart s) := by
  intro s
  unfold gnssStart
  refine onlyIn_step (frame_updGn _ _) rfl ?_
  exact onlyIn_refl _ _

theorem frame_bodyGnStatus : ∀ a0 s, onlyIn [] s (bodyGnStatus a0 s).1 := by
  intro a0 s
  unfold bodyGnStatus
  unfold emptyPayload
  try beta_reduce
  refine onlyIn_ite1 ?_ ?_
  · extract_lets +onlyGivenNames x0
    clear_value x0
    extract_lets +onlyGivenNames x1
    clear_value x1
    extract_lets +onlyGivenNames x2
    clear_value x2
    refine onlyIn_ans ?_
    exact onlyIn_refl _ _
  · refine onlyIn_ans ?_
    exact onlyIn_refl _ _

theorem frame_bodyGnConfigAntennaRetry : ∀ a0 s, onlyIn [.gn] s (bodyGnConfigAntennaRetry a0 s).1 := by
  intro a0 s
  unfold bodyGnConfigAntennaRetry
  unfold gnConfig
  try beta_reduce
  unfold withOp
  try beta_reduce
  refine onlyIn_ite1 ?_ ?_
  · extract_lets +onlyGivenNames x0
    clear_value x0
    refine onlyIn_ite1 ?_ ?_
    · refine onlyIn_ans ?_
      exact onlyIn_refl _ _
    · refine onlyIn_ite1 ?_ ?_
      · refine onlyIn_ans ?_
        refine onlyIn_step (frame_antTrial _ _) rfl ?_
        exact onlyIn_refl _ _
      · refine onlyIn_ans ?_
        exact onlyIn_refl _ _
  · refine onlyIn_ans ?_
    exact onlyIn_refl _ _

theorem frame_bodyGnConfigImuSelftest : ∀ a0 s, onlyIn [.gn] s (bodyGnConfigImuSelftest a0 s).1 := by
  intro a0 s
  unfold bodyGnConfigImuSelftest
  unfold gnConfig
  try beta_reduce
  unfold withOp
  try beta_reduce
  refine onlyIn_ite1 ?_ ?_
  · extract_lets +onlyGivenNames x0
    clear_value x0
    refine onlyIn_ite1 ?_ ?_
    · refine onlyIn_ans ?_
      exact onlyIn_refl _ _
    · refine onlyIn_ite1 ?_ ?_
      · refine onlyIn_ans ?_
        exact onlyIn_refl _ _
      · refine onlyIn_ans ?_
        refine onlyIn_step (frame_updGn _ _) rfl ?_
        exact onlyIn_refl _ _
  · refine onlyIn_ans ?_
    exact onlyIn_refl _ _

theorem frame_bodyGnConfigNotchReset : ∀ a0 s, onlyIn [.gn] s (bodyGnConfigNotchReset a0 s).1 := by
  intro a0 s
  unfold bodyGnConfigNotchReset
  unfold gnConfig
  try beta_reduce
  unfold withOp
  try beta_reduce
  refine onlyIn_ite1 ?_ ?_
  · extract_lets +onlyGivenNames x0
    clear_value x0
    refine onlyIn_ite1 ?_ ?_
    · refine onlyIn_ans ?_
      exact onlyIn_refl _ _
    · refine onlyIn_ans ?_
      refine onlyIn_step (frame_updGn _ _) rfl ?_
      exact onlyIn_refl _ _
  · refine onlyIn_ans ?_
    exact onlyIn_refl _ _

theorem frame_bodyGnConfigRestart : ∀ a0 s, onlyIn [.gn] s (bodyGnConfigRestart a0 s).1 := by
  intro a0 s
  unfold bodyGnConfigRestart
  unfold gnConfig
  try beta_reduce
  unfold withOp
  try beta_reduce
  refine onlyIn_ite1 ?_ ?_
  · extract_lets +onlyGivenNames x0
    clear_value x0
    refine onlyIn_ite1 ?_ ?_
    · refine onlyIn_ans ?_
      exact onlyIn_refl _ _
    · refine onlyIn_ite1 ?_ ?_
      · refine onlyIn_ans ?_
        exact onlyIn_refl _ _
      · extract_lets +onlyGivenNames x1
        have h2 : onlyIn [.gn] s x1 := by
          dsimp only [x1]
          refine onlyIn_step (frame_updGn _ _) rfl ?_
          exact onlyIn_refl _ _
        clear_value x1
        refine onlyIn_ans ?_
        refine onlyIn_ite ?_ ?_
        · refine onlyIn_step (frame_updGn _ _) rfl ?_
          exact h2
        · exact h2
  · refine onlyIn_ans ?_
    exact onlyIn_refl _ _

theorem frame_bodyGnConfigSeed : ∀ a0 s, onlyIn [.gn] s (bodyGnConfigSeed a0 s).1 := by
  intro a0 s
  unfold bodyGnConfigSeed
  unfold gnConfig
  try beta_reduce
  unfold withOp
  try beta_reduce
  refine onlyIn_ite1 ?_ ?_
  · extract_lets +onlyGivenNames x0
    clear_value x0
    refine onlyIn_ite1 ?_ ?_
    · refine onlyIn_ans ?_
      exact onlyIn_refl _ _
    · refine onlyIn_ite1 ?_ ?_
      · refine onlyIn_ans ?_
        exact onlyIn_refl _ _
      · refine onlyIn_ans ?_
        refine onlyIn_step (frame_updGn _ _) rfl ?_
        exact onlyIn_refl _ _
  · refine onlyIn_ans ?_
    exact onlyIn_refl _ _

theorem frame_bodyGnSolutionGet : ∀ a0 s, onlyIn [] s (bodyGnSolutionGet a0 s).1 := by
  intro a0 s
  unfold bodyGnSolutionGet
  unfold emptyPayload
  try beta_reduce
  refine onlyIn_ite1 ?_ ?_
  · refine onlyIn_ans ?_
    exact onlyIn_refl _ _
  · refine onlyIn_ans ?_
    exact onlyIn_refl _ _

theorem frame_pathReply : ∀ s, onlyIn [] s (pathReply s).1 := by
  intro s
  unfold pathReply
  refine onlyIn_ans ?_
  exact onlyIn_refl _ _

theorem frame_bodyPathLoadClearNext : ∀ a0 s, onlyIn [.gn] s (bodyPathLoadClearNext a0 s).1 := by
  intro a0 s
  unfold bodyPathLoadClearNext
  unfold withOp
  try beta_reduce
  refine onlyIn_ite1 ?_ ?_
  · refine onlyIn_ite1 ?_ ?_
    · refine onlyIn_ans ?_
      exact onlyIn_refl _ _
    · refine onlyIn_step (frame_pathReply _) rfl ?_
      refine onlyIn_step (frame_updGn _ _) rfl ?_
      exact onlyIn_refl _ _
  · refine onlyIn_ans ?_
    exact onlyIn_refl _ _

theorem frame_promotePath : ∀ s, onlyIn [.gn] s (promotePath s) := by
  intro s
  unfold promotePath
  split
  · refine onlyIn_step (frame_updGn _ _) rfl ?_
    exact onlyIn_refl _ _
  · exact onlyIn_refl _ _

theorem frame_promoteIdle : ∀ s, onlyIn [.gn] s (promoteIdle s) := by
  intro s
  unfold promoteIdle
  refine onlyIn_ite ?_ ?_
  · exact onlyIn_refl _ _
  · refine onlyIn_step (frame_promotePath _) rfl ?_
    exact onlyIn_refl _ _

theorem frame_bodyPathLoadLoadNext : ∀ a0 s, onlyIn [.gn] s (bodyPathLoadLoadNext a0 s).1 := by
  intro a0 s
  unfold bodyPathLoadLoadNext
  unfold withOp
  try beta_reduce
  refine onlyIn_ite1 ?_ ?_
  · extract_lets +onlyGivenNames x0
    clear_value x0
    extract_lets +onlyGivenNames x1
    clear_value x1
    extract_lets +onlyGivenNames x2
    clear_value x2
    extract_lets +onlyGivenNames x3
    clear_value x3
    refine onlyIn_ite1 ?_ ?_
    · refine onlyIn_ans ?_
      exact onlyIn_refl _ _
    · refine onlyIn_step (frame_pathReply _) rfl ?_
      refine onlyIn_step (frame_promoteIdle _) rfl ?_
      refine onlyIn_step (frame_updGn _ _) rfl ?_
      exact onlyIn_refl _ _
  · refine onlyIn_ans ?_
    exact onlyIn_refl _ _

theorem frame_bodyPathLoadShift : ∀ a0 s, onlyIn [.gn] s (bodyPathLoadShift a0 s).1 := by
  intro a0 s
  unfold bodyPathLoadShift
  unfold withOp
  try beta_reduce
  refine onlyIn_ite1 ?_ ?_
  · extract_lets +onlyGivenNames x0
    clear_value x0
    refine onlyIn_ite1 ?_ ?_
    · refine onlyIn_ans ?_
      exact onlyIn_refl _ _
    · refine onlyIn_step (frame_pathReply _) rfl ?_
      refine onlyIn_step (frame_updGn _ _) rfl ?_
      exact onlyIn_refl _ _
  · refine onlyIn_ans ?_
    exact onlyIn_refl _ _

theorem frame_bodyRtcmPut : ∀ a0 s, onlyIn [.mb, .pf, .ev, .gn, .out] s (bodyRtcmPut a0 s).1 := by
  intro a0 s
  unfold bodyRtcmPut
  extract_lets +onlyGivenNames x0
  clear_value x0
  refine onlyIn_ite1 ?_ ?_
  · refine onlyIn_ans ?_
    exact onlyIn_refl _ _
  · extract_lets +onlyGivenNames x1
    clear_value x1
    extract_lets +onlyGivenNames x2
    clear_value x2
    extract_lets +onlyGivenNames x3
    clear_value x3
    extract_lets +onlyGivenNames x4
    clear_value x4
    extract_lets +onlyGivenNames x5
    clear_value x5
    extract_lets +onlyGivenNames x6
    have h7 : onlyIn [.mb, .pf, .ev, .gn, .out] s x6 := by
      dsimp only [x6]
      refine onlyIn_step (frame_updGn _ _) rfl ?_
      exact onlyIn_refl _ _
    clear_value x6
    refine onlyIn_ans ?_
    refine onlyIn_ite ?_ ?_
    · refine onlyIn_step (frame_detect _ _ _ _ _) rfl ?_
      exact h7
    · exact h7

theorem frame_execAntennaBiasSample : ∀ a0 a1 a2 s t, execAntennaBiasSample a0 a1 a2 s = .next t → onlyIn [.mb, .pf, .ev, .gn, .out] s t := by
  intro a0 a1 a2 s t h
  unfold execAntennaBiasSample at h
  cases h
  refine onlyIn_step (frame_antSample _ _ _ _) rfl ?_
  exact onlyIn_refl _ _

theorem frame_execAntennaShortRetry : ∀ a0 s t, execAntennaShortRetry a0 s = .next t → onlyIn [.gn] s t := by
  intro a0 s t h
  unfold execAntennaShortRetry at h
  cases h
  refine onlyIn_ite ?_ ?_
  · refine onlyIn_step (frame_antTrial _ _) rfl ?_
    exact onlyIn_refl _ _
  · exact onlyIn_refl _ _

theorem frame_execAntennaOvervoltage : ∀ a0 a1 a2 s t, execAntennaOvervoltage a0 a1 a2 s = .next t → onlyIn [.mb, .pf, .ev, .gn, .out] s t := by
  intro a0 a1 a2 s t h
  unfold execAntennaOvervoltage at h
  extract_lets +onlyGivenNames x0 at h
  clear_value x0
  cases h
  refine onlyIn_ite ?_ ?_
  · refine onlyIn_step (frame_beginCond _ _ _ _) rfl ?_
    refine onlyIn_step (frame_dropTracking _ _) rfl ?_
    refine onlyIn_step (frame_updAnt _ _ _) rfl ?_
    exact onlyIn_refl _ _
  · refine onlyIn_ite ?_ ?_
    · refine onlyIn_step (frame_antClear _ _) rfl ?_
      refine onlyIn_step (frame_updAnt _ _ _) rfl ?_
      exact onlyIn_refl _ _
    · exact onlyIn_refl _ _

theorem frame_execTrackingLoopUpdate : ∀ a0 a1 s t, execTrackingLoopUpdate a0 a1 s = .next t → onlyIn [.gn, .free] s t := by
  intro a0 a1 s t h
  unfold execTrackingLoopUpdate at h
  cases h
  refine onlyIn_ite ?_ ?_
  · extract_lets +onlyGivenNames x0
    have h1 : onlyIn [.gn, .free] s x0.2 := by
      dsimp only [x0]
      refine onlyIn_step (frame_freshNat _) rfl ?_
      exact onlyIn_refl _ _
    clear_value x0
    extract_lets +onlyGivenNames x2
    have h3 : onlyIn [.gn, .free] s x2.2 := by
      dsimp only [x2]
      refine onlyIn_step (frame_freshNat _) rfl ?_
      exact h1
    clear_value x2
    refine onlyIn_step (frame_updGn _ _) rfl ?_
    exact h3
  · exact onlyIn_refl _ _

theorem frame_execChannelAllocation : ∀ a0 s t, execChannelAllocation a0 s = .next t → onlyIn [.gn] s t := by
  intro a0 s t h
  unfold execChannelAllocation at h
  dsimp only at h
  cases h
  refine onlyIn_step (frame_updGn _ _) rfl ?_
  exact onlyIn_refl _ _

theorem frame_execSearchDwellDone : ∀ a0 a1 a2 a3 a4 s t, execSearchDwellDone a0 a1 a2 a3 a4 s = .next t → onlyIn [.gn] s t := by
  intro a0 a1 a2 a3 a4 s t h
  unfold execSearchDwellDone at h
  dsimp only at h
  cases h
  refine onlyIn_ite ?_ ?_
  · refine onlyIn_ite ?_ ?_
    · refine onlyIn_ite ?_ ?_
      · refine onlyIn_step (frame_updGn _ _) rfl ?_
        refine onlyIn_step (frame_updGn _ _) rfl ?_
        exact onlyIn_refl _ _
      · refine onlyIn_step (frame_updGn _ _) rfl ?_
        exact onlyIn_refl _ _
    · refine onlyIn_step (frame_updGn _ _) rfl ?_
      exact onlyIn_refl _ _
  · refine onlyIn_step (frame_updGn _ _) rfl ?_
    exact onlyIn_refl _ _

theorem frame_execNotchMonitor : ∀ a0 a1 a2 s t, execNotchMonitor a0 a1 a2 s = .next t → onlyIn [.mb, .pf, .ev, .gn, .out] s t := by
  intro a0 a1 a2 s t h
  unfold execNotchMonitor at h
  extract_lets +onlyGivenNames x0 at h
  clear_value x0
  extract_lets +onlyGivenNames x1 at h
  clear_value x1
  extract_lets +onlyGivenNames x2 at h
  clear_value x2
  extract_lets +onlyGivenNames x3 at h
  clear_value x3
  extract_lets +onlyGivenNames x4 at h
  clear_value x4
  extract_lets +onlyGivenNames x5 at h
  clear_value x5
  extract_lets +onlyGivenNames x6 at h
  clear_value x6
  extract_lets +onlyGivenNames x7 at h
  clear_value x7
  extract_lets +onlyGivenNames x8 at h
  clear_value x8
  extract_lets +onlyGivenNames x9 at h
  clear_value x9
  extract_lets +onlyGivenNames x10 at h
  have h11 : onlyIn [.mb, .pf, .ev, .gn, .out] s x10 := by
    dsimp only [x10]
    refine onlyIn_step (frame_updGn _ _) rfl ?_
    exact onlyIn_refl _ _
  clear_value x10
  cases h
  refine onlyIn_step (frame_detect _ _ _ _ _) rfl ?_
  refine onlyIn_step (frame_detect _ _ _ _ _) rfl ?_
  exact h11

theorem frame_offsetStep : ∀ a0 a1 s, onlyIn [.mb, .pf, .ev, .out] s (offsetStep a0 a1 s).2 := by
  intro a0 a1 s
  unfold offsetStep
  split
  · refine onlyIn_pair2 ?_
    exact onlyIn_refl _ _
  · extract_lets +onlyGivenNames x0
    clear_value x0
    extract_lets +onlyGivenNames x1
    clear_value x1
    refine onlyIn_pair2 ?_
    refine onlyIn_ite ?_ ?_
    · refine onlyIn_step (frame_happen _ _ _ _) rfl ?_
      exact onlyIn_refl _ _
    · exact onlyIn_refl _ _

theorem frame_timeSolution : ∀ a0 s, onlyIn [.clk, .mb, .pf, .ev, .gn, .out, .free] s (timeSolution a0 s) := by
  intro a0 s
  unfold timeSolution
  extract_lets +onlyGivenNames x0
  have h1 : onlyIn [.clk, .mb, .pf, .ev, .gn, .out, .free] s x0 := by
    dsimp only [x0]
    refine onlyIn_step (frame_updTime _ _) rfl ?_
    exact onlyIn_refl _ _
  clear_value x0
  refine onlyIn_ite ?_ ?_
  · refine onlyIn_step (frame_acceptTime _ _ _ _ _) rfl ?_
    exact h1
  · exact h1

theorem frame_execNavEpoch : ∀ a0 s t, execNavEpoch a0 s = .next t → onlyIn [.clk, .mb, .pf, .ev, .gn, .out, .free] s t := by
  intro a0 s t h
  unfold execNavEpoch at h
  cases h
  refine onlyIn_ite ?_ ?_
  · extract_lets +onlyGivenNames x0
    have h1 : onlyIn [.clk, .mb, .pf, .ev, .gn, .out, .free] s x0.2 := by
      dsimp only [x0]
      refine onlyIn_step (frame_offsetStep _ _ _) rfl ?_
      exact onlyIn_refl _ _
    clear_value x0
    extract_lets +onlyGivenNames x2
    have h3 : onlyIn [.clk, .mb, .pf, .ev, .gn, .out, .free] s x2.2 := by
      dsimp only [x2]
      refine onlyIn_step (frame_offsetStep _ _ _) rfl ?_
      exact h1
    clear_value x2
    extract_lets +onlyGivenNames x4
    clear_value x4
    refine onlyIn_step (frame_timeSolution _ _) rfl ?_
    refine onlyIn_step (frame_updGn _ _) rfl ?_
    exact h3
  · exact onlyIn_refl _ _

theorem frame_releaseFix : ∀ a0 a1 s, onlyIn [.mb, .pf, .ev, .gn, .out] s (releaseFix a0 a1 s) := by
  intro a0 a1 s
  unfold releaseFix
  extract_lets +onlyGivenNames x0
  clear_value x0
  extract_lets +onlyGivenNames x1
  clear_value x1
  extract_lets +onlyGivenNames x2
  clear_value x2
  extract_lets +onlyGivenNames x3
  have h4 : onlyIn [.mb, .pf, .ev, .gn, .out] s x3 := by
    dsimp only [x3]
    refine onlyIn_step (frame_updGn _ _) rfl ?_
    exact onlyIn_refl _ _
  clear_value x3
  extract_lets +onlyGivenNames x5
  have h6 : onlyIn [.mb, .pf, .ev, .gn, .out] s x5 := by
    dsimp only [x5]
    refine onlyIn_ite ?_ ?_
    · refine onlyIn_step (frame_promotePath _) rfl ?_
      exact h4
    · exact h4
  clear_value x5
  extract_lets +onlyGivenNames x7
  have h8 : onlyIn [.mb, .pf, .ev, .gn, .out] s x7 := by
    dsimp only [x7]
    refine onlyIn_step (frame_updGn _ _) rfl ?_
    exact h6
  clear_value x7
  refine onlyIn_ite ?_ ?_
  · refine onlyIn_step (frame_detect _ _ _ _ _) rfl ?_
    exact h8
  · exact h8

theorem frame_execNavSolutionRelease : ∀ s t, execNavSolutionRelease s = .next t → onlyIn [.mb, .pf, .ev, .gn, .out] s t := by
  intro s t h
  unfold execNavSolutionRelease at h
  cases h
  split
  · refine onlyIn_ite ?_ ?_
    · refine onlyIn_step (frame_releaseFix _ _ _) rfl ?_
      exact onlyIn_refl _ _
    · refine onlyIn_ite ?_ ?_
      · refine onlyIn_step (frame_updGn _ _) rfl ?_
        exact onlyIn_refl _ _
      · exact onlyIn_refl _ _
  · exact onlyIn_refl _ _

theorem frame_execImuSample : ∀ a0 a1 a2 s t, execImuSample a0 a1 a2 s = .next t → onlyIn [.gn] s t := by
  intro a0 a1 a2 s t h
  unfold execImuSample at h
  dsimp only at h
  cases h
  refine onlyIn_step (frame_updGn _ _) rfl ?_
  exact onlyIn_refl _ _

theorem frame_execInertialFault : ∀ a0 s t, execInertialFault a0 s = .next t → onlyIn [.mb, .pf, .ev, .gn, .out] s t := by
  intro a0 s t h
  unfold execInertialFault at h
  extract_lets +onlyGivenNames x0 at h
  clear_value x0
  extract_lets +onlyGivenNames x1 at h
  clear_value x1
  cases h
  refine onlyIn_step (frame_detect _ _ _ _ _) rfl ?_
  refine onlyIn_step (frame_updGn _ _) rfl ?_
  exact onlyIn_refl _ _

theorem frame_execDeadReckoningLimit : ∀ s t, execDeadReckoningLimit s = .next t → onlyIn [.mb, .pf, .ev, .gn, .out] s t := by
  intro s t h
  unfold execDeadReckoningLimit at h
  cases h
  refine onlyIn_ite ?_ ?_
  · refine onlyIn_step (frame_beginCond _ _ _ _) rfl ?_
    refine onlyIn_step (frame_updGn _ _) rfl ?_
    exact onlyIn_refl _ _
  · exact onlyIn_refl _ _

theorem frame_execCorrectionsStale : ∀ s t, execCorrectionsStale s = .next t → onlyIn [.mb, .pf, .ev, .gn, .out] s t := by
  intro s t h
  unfold execCorrectionsStale at h
  cases h
  refine onlyIn_ite ?_ ?_
  · refine onlyIn_step (frame_beginCond _ _ _ _) rfl ?_
    refine onlyIn_step (frame_updGn _ _) rfl ?_
    exact onlyIn_refl _ _
  · exact onlyIn_refl _ _

theorem frame_execBaselineMismatch : ∀ s t, execBaselineMismatch s = .next t → onlyIn [.mb, .pf, .ev, .out] s t := by
  intro s t h
  unfold execBaselineMismatch at h
  extract_lets +onlyGivenNames x0 at h
  clear_value x0
  cases h
  split
  · refine onlyIn_ite ?_ ?_
    · refine onlyIn_step (frame_beginCond _ _ _ _) rfl ?_
      exact onlyIn_refl _ _
    · exact onlyIn_refl _ _
  · refine onlyIn_ite ?_ ?_
    · refine onlyIn_step (frame_beginCond _ _ _ _) rfl ?_
      exact onlyIn_refl _ _
    · refine onlyIn_step (frame_detect _ _ _ _ _) rfl ?_
      exact onlyIn_refl _ _

end Sys2Proof.Machine
end

