-- ==== Sys2Proof/Laws/FrameLoadSwitch.lean ====
section
/-!
SUPPORT. Laws/FrameLoadSwitch.lean: the parts of the state that the definitions of Machine/LoadSwitch.lean may change.
-/

namespace Sys2Proof.Machine

open Sys2Proof.Safety

theorem frame_lsEndConds : ∀ a0 s, onlyIn [.mb, .pf, .ev, .out] s (lsEndConds a0 s) := by
  intro a0 s
  unfold lsEndConds
  refine onlyIn_fold _ _ (fun st0 a1 => ?_) ?_
  · refine onlyIn_step (frame_detect _ _ _ _ _) rfl ?_
    exact onlyIn_refl _ _
  · exact onlyIn_refl _ _

theorem frame_lsReset : ∀ s, onlyIn [.mb, .pf, .ev, .ls, .out] s (lsReset s) := by
  intro s
  unfold lsReset
  extract_lets +onlyGivenNames x0
  have h1 : onlyIn [.mb, .pf, .ev, .ls, .out] s x0 := by
    dsimp only [x0]
    refine onlyIn_fold _ _ (fun st2 a3 => ?_) ?_
    · refine onlyIn_step (frame_lsEndConds _ _) rfl ?_
      exact onlyIn_refl _ _
    · exact onlyIn_refl _ _
  clear_value x0
  refine onlyIn_step (onlyIn_put_ls _ _) rfl ?_
  exact h1

theorem frame_updLs : ∀ a0 a1 s, onlyIn [.ls] s (updLs a0 a1 s) := by
  intro a0 a1 s
  unfold updLs
  refine onlyIn_step (onlyIn_put_ls _ _) rfl ?_
  exact onlyIn_refl _ _

theorem frame_turnOn : ∀ a0 a1 s, onlyIn [.ls] s (turnOn a0 a1 s) := by
  intro a0 a1 s
  unfold turnOn
  extract_lets +onlyGivenNames x0
  clear_value x0
  refine onlyIn_step (frame_updLs _ _ _) rfl ?_
  exact onlyIn_refl _ _

theorem frame_lsOn : ∀ a0 a1 a2 s, onlyIn [.ls] s (lsOn a0 a1 a2 s) := by
  intro a0 a1 a2 s
  unfold lsOn
  extract_lets +onlyGivenNames x0
  have h1 : onlyIn [.ls] s x0 := by
    dsimp only [x0]
    refine onlyIn_step (frame_updLs _ _ _) rfl ?_
    exact onlyIn_refl _ _
  clear_value x0
  split
  · refine onlyIn_ite ?_ ?_
    · refine onlyIn_step (frame_turnOn _ _ _) rfl ?_
      exact h1
    · exact h1
  · refine onlyIn_step (frame_updLs _ _ _) rfl ?_
    exact h1
  · exact h1

theorem frame_turnOff : ∀ a0 a1 a2 s, onlyIn [.mb, .pf, .ev, .ls, .out] s (turnOff a0 a1 a2 s) := by
  intro a0 a1 a2 s
  unfold turnOff
  refine onlyIn_step (frame_detect _ _ _ _ _) rfl ?_
  refine onlyIn_step (frame_updLs _ _ _) rfl ?_
  exact onlyIn_refl _ _

theorem frame_lsOff : ∀ a0 a1 s, onlyIn [.mb, .pf, .ev, .ls, .out] s (lsOff a0 a1 s) := by
  intro a0 a1 s
  unfold lsOff
  extract_lets +onlyGivenNames x0
  have h1 : onlyIn [.mb, .pf, .ev, .ls, .out] s x0 := by
    dsimp only [x0]
    refine onlyIn_step (frame_updLs _ _ _) rfl ?_
    exact onlyIn_refl _ _
  clear_value x0
  split
  · refine onlyIn_step (frame_turnOff _ _ _ _) rfl ?_
    exact h1
  · refine onlyIn_step (frame_turnOff _ _ _ _) rfl ?_
    exact h1
  · refine onlyIn_step (frame_turnOff _ _ _ _) rfl ?_
    exact h1
  · refine onlyIn_step (frame_turnOff _ _ _ _) rfl ?_
    exact h1
  · refine onlyIn_step (frame_updLs _ _ _) rfl ?_
    exact h1
  · refine onlyIn_step (frame_detect _ _ _ _ _) rfl ?_
    refine onlyIn_step (frame_updLs _ _ _) rfl ?_
    refine onlyIn_step (onlyIn_put_ls _ _) rfl ?_
    exact h1
  · refine onlyIn_step (frame_detect _ _ _ _ _) rfl ?_
    refine onlyIn_step (frame_updLs _ _ _) rfl ?_
    refine onlyIn_step (onlyIn_put_ls _ _) rfl ?_
    exact h1
  · exact h1
  · exact h1

theorem frame_lsSafeChan : ∀ a0 s, onlyIn [.mb, .pf, .ev, .ls, .out] s (lsSafeChan a0 s) := by
  intro a0 s
  unfold lsSafeChan
  split
  · refine onlyIn_ite ?_ ?_
    · refine onlyIn_step (frame_updLs _ _ _) rfl ?_
      refine onlyIn_step (frame_lsOn _ _ _ _) rfl ?_
      refine onlyIn_step (frame_updLs _ _ _) rfl ?_
      exact onlyIn_refl _ _
    · refine onlyIn_step (frame_lsOff _ _ _) rfl ?_
      exact onlyIn_refl _ _
  · refine onlyIn_step (frame_lsOff _ _ _) rfl ?_
    exact onlyIn_refl _ _

theorem frame_lsGateOff : ∀ s, onlyIn [.mb, .pf, .ev, .ls, .out] s (lsGateOff s) := by
  intro s
  unfold lsGateOff
  refine onlyIn_fold _ _ (fun st0 a1 => ?_) ?_
  · refine onlyIn_step (frame_lsOff _ _ _) rfl ?_
    exact onlyIn_refl _ _
  · exact onlyIn_refl _ _

theorem frame_lsActivate : ∀ s, onlyIn [.ls] s (lsActivate s) := by
  intro s
  unfold lsActivate
  refine onlyIn_step (onlyIn_put_ls _ _) rfl ?_
  exact onlyIn_refl _ _

theorem frame_lsRequest : ∀ a0 a1 s, onlyIn [.mb, .pf, .ev, .ls, .out] s (lsRequest a0 a1 s) := by
  intro a0 a1 s
  unfold lsRequest
  refine onlyIn_ite ?_ ?_
  · refine onlyIn_step (frame_lsOff _ _ _) rfl ?_
    exact onlyIn_refl _ _
  · refine onlyIn_step (frame_lsOn _ _ _ _) rfl ?_
    exact onlyIn_refl _ _

theorem frame_applyLsCommand : ∀ a0 a1 s, onlyIn [.mb, .pf, .ev, .ls, .out] s (applyLsCommand a0 a1 s) := by
  intro a0 a1 s
  unfold applyLsCommand
  extract_lets +onlyGivenNames x0
  clear_value x0
  extract_lets +onlyGivenNames x1
  clear_value x1
  extract_lets +onlyGivenNames x2
  clear_value x2
  refine onlyIn_step (frame_updLs _ _ _) rfl ?_
  refine onlyIn_step (frame_lsRequest _ _ _) rfl ?_
  exact onlyIn_refl _ _

theorem frame_lsLatch : ∀ a0 a1 s, onlyIn [.ls] s (lsLatch a0 a1 s) := by
  intro a0 a1 s
  unfold lsLatch
  refine onlyIn_step (frame_updLs _ _ _) rfl ?_
  exact onlyIn_refl _ _

theorem frame_attemptFails : ∀ a0 s, onlyIn [.mb, .pf, .ev, .ls, .out] s (attemptFails a0 s) := by
  intro a0 s
  unfold attemptFails
  refine onlyIn_ite ?_ ?_
  · refine onlyIn_step (frame_beginCond _ _ _ _) rfl ?_
    refine onlyIn_step (frame_lsLatch _ _ _) rfl ?_
    exact onlyIn_refl _ _
  · refine onlyIn_step (frame_updLs _ _ _) rfl ?_
    exact onlyIn_refl _ _

theorem frame_bodyLsStatus : ∀ a0 s, onlyIn [] s (bodyLsStatus a0 s).1 := by
  intro a0 s
  unfold bodyLsStatus
  extract_lets +onlyGivenNames x0
  clear_value x0
  extract_lets +onlyGivenNames x1
  clear_value x1
  extract_lets +onlyGivenNames x2
  clear_value x2
  refine onlyIn_ite1 ?_ ?_
  · refine onlyIn_ans ?_
    exact onlyIn_refl _ _
  · refine onlyIn_ans ?_
    exact onlyIn_refl _ _

theorem frame_bodyLsCommandOff : ∀ a0 s, onlyIn [.mb] s (bodyLsCommandOff a0 s).1 := by
  intro a0 s
  unfold bodyLsCommandOff
  unfold lsCommand
  try beta_reduce
  unfold withOp
  try beta_reduce
  refine onlyIn_ite1 ?_ ?_
  · unfold timedBody
    try beta_reduce
    split
    · refine onlyIn_ans ?_
      exact onlyIn_refl _ _
    · refine onlyIn_ite1 ?_ ?_
      · refine onlyIn_ans ?_
        exact onlyIn_refl _ _
      · split
        · refine onlyIn_ans ?_
          exact onlyIn_refl _ _
        · refine onlyIn_ite1 ?_ ?_
          · refine onlyIn_ans ?_
            exact onlyIn_refl _ _
          · refine onlyIn_ite1 ?_ ?_
            · refine onlyIn_ans ?_
              exact onlyIn_refl _ _
            · extract_lets +onlyGivenNames x0
              clear_value x0
              extract_lets +onlyGivenNames x1
              have h2 : onlyIn [.mb] s x1.1 := by
                dsimp only [x1]
                unfold frameReply
                try beta_reduce
                refine onlyIn_pair1 ?_
                refine onlyIn_step (frame_handOver _ _) rfl ?_
                exact onlyIn_refl _ _
              clear_value x1
              refine onlyIn_ans ?_
              exact h2
  · refine onlyIn_ans ?_
    exact onlyIn_refl _ _

theorem frame_bodyLsCommandOn : ∀ a0 s, onlyIn [.mb] s (bodyLsCommandOn a0 s).1 := by
  intro a0 s
  unfold bodyLsCommandOn
  unfold lsCommand
  try beta_reduce
  unfold withOp
  try beta_reduce
  refine onlyIn_ite1 ?_ ?_
  · unfold timedBody
    try beta_reduce
    split
    · refine onlyIn_ans ?_
      exact onlyIn_refl _ _
    · refine onlyIn_ite1 ?_ ?_
      · refine onlyIn_ans ?_
        exact onlyIn_refl _ _
      · split
        · refine onlyIn_ans ?_
          exact onlyIn_refl _ _
        · refine onlyIn_ite1 ?_ ?_
          · refine onlyIn_ans ?_
            exact onlyIn_refl _ _
          · refine onlyIn_ite1 ?_ ?_
            · refine onlyIn_ans ?_
              exact onlyIn_refl _ _
            · extract_lets +onlyGivenNames x0
              clear_value x0
              extract_lets +onlyGivenNames x1
              have h2 : onlyIn [.mb] s x1.1 := by
                dsimp only [x1]
                unfold frameReply
                try beta_reduce
                refine onlyIn_pair1 ?_
                refine onlyIn_step (frame_handOver _ _) rfl ?_
                exact onlyIn_refl _ _
              clear_value x1
              refine onlyIn_ans ?_
              exact h2
  · refine onlyIn_ans ?_
    exact onlyIn_refl _ _

theorem frame_bodyLsCommandPwm : ∀ a0 s, onlyIn [.mb] s (bodyLsCommandPwm a0 s).1 := by
  intro a0 s
  unfold bodyLsCommandPwm
  unfold lsCommand
  try beta_reduce
  unfold withOp
  try beta_reduce
  refine onlyIn_ite1 ?_ ?_
  · unfold timedBody
    try beta_reduce
    split
    · refine onlyIn_ans ?_
      exact onlyIn_refl _ _
    · refine onlyIn_ite1 ?_ ?_
      · refine onlyIn_ans ?_
        exact onlyIn_refl _ _
      · split
        · refine onlyIn_ans ?_
          exact onlyIn_refl _ _
        · refine onlyIn_ite1 ?_ ?_
          · refine onlyIn_ans ?_
            exact onlyIn_refl _ _
          · refine onlyIn_ite1 ?_ ?_
            · refine onlyIn_ans ?_
              exact onlyIn_refl _ _
            · extract_lets +onlyGivenNames x0
              clear_value x0
              extract_lets +onlyGivenNames x1
              have h2 : onlyIn [.mb] s x1.1 := by
                dsimp only [x1]
                unfold frameReply
                try beta_reduce
                refine onlyIn_pair1 ?_
                refine onlyIn_step (frame_handOver _ _) rfl ?_
                exact onlyIn_refl _ _
              clear_value x1
              refine onlyIn_ans ?_
              exact h2
  · refine onlyIn_ans ?_
    exact onlyIn_refl _ _

theorem frame_lsJudge : ∀ a0 a1 a2 s, onlyIn [.mb, .pf, .ev, .ls, .out] s (lsJudge a0 a1 a2 s) := by
  intro a0 a1 a2 s
  unfold lsJudge
  extract_lets +onlyGivenNames x0
  clear_value x0
  extract_lets +onlyGivenNames x1
  clear_value x1
  extract_lets +onlyGivenNames x2
  clear_value x2
  extract_lets +onlyGivenNames x3
  have h4 : onlyIn [.mb, .pf, .ev, .ls, .out] s x3 := by
    dsimp only [x3]
    refine onlyIn_step (frame_updLs _ _ _) rfl ?_
    exact onlyIn_refl _ _
  clear_value x3
  extract_lets +onlyGivenNames x5
  have h6 : onlyIn [.mb, .pf, .ev, .ls, .out] s x5 := by
    dsimp only [x5]
    refine onlyIn_step (frame_detect _ _ _ _ _) rfl ?_
    exact h4
  clear_value x5
  extract_lets +onlyGivenNames x7
  have h8 : onlyIn [.mb, .pf, .ev, .ls, .out] s x7 := by
    dsimp only [x7]
    refine onlyIn_step (frame_detect _ _ _ _ _) rfl ?_
    exact h6
  clear_value x7
  refine onlyIn_ite ?_ ?_
  · refine onlyIn_step (frame_detect _ _ _ _ _) rfl ?_
    exact h8
  · exact h8

theorem frame_bodyLsDiagOffState : ∀ a0 s, onlyIn [.mb, .pf, .ev, .ls, .out] s (bodyLsDiagOffState a0 s).1 := by
  intro a0 s
  unfold bodyLsDiagOffState
  unfold lsDiagRequest
  try beta_reduce
  unfold withOp
  try beta_reduce
  refine onlyIn_ite1 ?_ ?_
  · extract_lets +onlyGivenNames x0
    clear_value x0
    refine onlyIn_ite1 ?_ ?_
    · refine onlyIn_ans ?_
      exact onlyIn_refl _ _
    · refine onlyIn_ite1 ?_ ?_
      · refine onlyIn_ans ?_
        exact onlyIn_refl _ _
      · refine onlyIn_ite1 ?_ ?_
        · refine onlyIn_ans ?_
          exact onlyIn_refl _ _
        · extract_lets +onlyGivenNames x1
          clear_value x1
          refine onlyIn_ans ?_
          refine onlyIn_step (frame_lsJudge _ _ _ _) rfl ?_
          exact onlyIn_refl _ _
  · refine onlyIn_ans ?_
    exact onlyIn_refl _ _

theorem frame_bodyLsDiagOnTest : ∀ a0 s, onlyIn [.ls] s (bodyLsDiagOnTest a0 s).1 := by
  intro a0 s
  unfold bodyLsDiagOnTest
  unfold lsDiagRequest
  try beta_reduce
  unfold withOp
  try beta_reduce
  refine onlyIn_ite1 ?_ ?_
  · extract_lets +onlyGivenNames x0
    clear_value x0
    refine onlyIn_ite1 ?_ ?_
    · refine onlyIn_ans ?_
      exact onlyIn_refl _ _
    · refine onlyIn_ite1 ?_ ?_
      · refine onlyIn_ans ?_
        exact onlyIn_refl _ _
      · refine onlyIn_ite1 ?_ ?_
        · refine onlyIn_ans ?_
          exact onlyIn_refl _ _
        · refine onlyIn_pair1 ?_
          refine onlyIn_step (frame_updLs _ _ _) rfl ?_
          refine onlyIn_step (frame_turnOn _ _ _) rfl ?_
          refine onlyIn_step (frame_updLs _ _ _) rfl ?_
          exact onlyIn_refl _ _
  · refine onlyIn_ans ?_
    exact onlyIn_refl _ _

theorem frame_bodyLsLatchClear : ∀ a0 s, onlyIn [.ls] s (bodyLsLatchClear a0 s).1 := by
  intro a0 s
  unfold bodyLsLatchClear
  refine onlyIn_ite1 ?_ ?_
  · refine onlyIn_ans ?_
    exact onlyIn_refl _ _
  · refine onlyIn_ite1 ?_ ?_
    · refine onlyIn_ans ?_
      exact onlyIn_refl _ _
    · extract_lets +onlyGivenNames x0
      clear_value x0
      refine onlyIn_ans ?_
      refine onlyIn_step (onlyIn_put_ls _ _) rfl ?_
      exact onlyIn_refl _ _

theorem frame_lsSafe : ∀ s, onlyIn [.mb, .pf, .ev, .ls, .out] s (lsSafe s) := by
  intro s
  unfold lsSafe
  refine onlyIn_fold _ _ (fun st0 a1 => ?_) ?_
  · refine onlyIn_step (frame_lsSafeChan _ _) rfl ?_
    exact onlyIn_refl _ _
  · exact onlyIn_refl _ _

theorem frame_lsLampFrame : ∀ a0 s, onlyIn [.mb, .pf, .ev, .ls, .out] s (lsLampFrame a0 s) := by
  intro a0 s
  unfold lsLampFrame
  refine onlyIn_fold _ _ (fun st0 a1 => ?_) ?_
  · split
    · refine onlyIn_ite ?_ ?_
      · refine onlyIn_step (frame_lsRequest _ _ _) rfl ?_
        exact onlyIn_refl _ _
      · exact onlyIn_refl _ _
    · exact onlyIn_refl _ _
  · exact onlyIn_refl _ _

theorem frame_lsClearFrame : ∀ s, onlyIn [.mb, .pf, .ev, .ls, .out] s (lsClearFrame s) := by
  intro s
  unfold lsClearFrame
  refine onlyIn_fold _ _ (fun st0 a1 => ?_) ?_
  · refine onlyIn_ite ?_ ?_
    · refine onlyIn_step (frame_detect _ _ _ _ _) rfl ?_
      refine onlyIn_step (frame_detect _ _ _ _ _) rfl ?_
      refine onlyIn_step (frame_detect _ _ _ _ _) rfl ?_
      refine onlyIn_step (frame_rawEvent _ _ _ _) rfl ?_
      refine onlyIn_step (frame_updLs _ _ _) rfl ?_
      exact onlyIn_refl _ _
    · exact onlyIn_refl _ _
  · refine onlyIn_step (onlyIn_put_ls _ _) rfl ?_
    exact onlyIn_refl _ _

theorem frame_execInrushWindowEnd : ∀ a0 a1 s t, execInrushWindowEnd a0 a1 s = .next t → onlyIn [.ls] s t := by
  intro a0 a1 s t h
  unfold execInrushWindowEnd at h
  cases h
  refine onlyIn_step (frame_updLs _ _ _) rfl ?_
  exact onlyIn_refl _ _

theorem frame_execCurrentLimitEntry : ∀ a0 a1 a2 s t, execCurrentLimitEntry a0 a1 a2 s = .next t → onlyIn [.mb, .pf, .ev, .ls, .out] s t := by
  intro a0 a1 a2 s t h
  unfold execCurrentLimitEntry at h
  extract_lets +onlyGivenNames x0 at h
  clear_value x0
  extract_lets +onlyGivenNames x1 at h
  clear_value x1
  cases h
  refine onlyIn_ite ?_ ?_
  · split
    · extract_lets +onlyGivenNames x2
      have h3 : onlyIn [.mb, .pf, .ev, .ls, .out] s x2 := by
        dsimp only [x2]
        refine onlyIn_step (frame_updLs _ _ _) rfl ?_
        exact onlyIn_refl _ _
      clear_value x2
      refine onlyIn_ite ?_ ?_
      · exact h3
      · refine onlyIn_step (frame_beginCond _ _ _ _) rfl ?_
        exact h3
    · refine onlyIn_step (frame_updLs _ _ _) rfl ?_
      exact onlyIn_refl _ _
    · refine onlyIn_ite ?_ ?_
      · refine onlyIn_step (frame_beginCond _ _ _ _) rfl ?_
        exact onlyIn_refl _ _
      · exact onlyIn_refl _ _
    · exact onlyIn_refl _ _
  · exact onlyIn_refl _ _

theorem frame_execCurrentLimitExit : ∀ a0 a1 a2 s t, execCurrentLimitExit a0 a1 a2 s = .next t → onlyIn [.mb, .pf, .ev, .ls, .out] s t := by
  intro a0 a1 a2 s t h
  unfold execCurrentLimitExit at h
  extract_lets +onlyGivenNames x0 at h
  clear_value x0
  extract_lets +onlyGivenNames x1 at h
  clear_value x1
  cases h
  refine onlyIn_ite ?_ ?_
  · split
    · refine onlyIn_step (frame_detect _ _ _ _ _) rfl ?_
      refine onlyIn_step (frame_updLs _ _ _) rfl ?_
      exact onlyIn_refl _ _
    · refine onlyIn_step (frame_updLs _ _ _) rfl ?_
      exact onlyIn_refl _ _
    · exact onlyIn_refl _ _
  · exact onlyIn_refl _ _

theorem frame_execStartAttemptFail : ∀ a0 a1 s t, execStartAttemptFail a0 a1 s = .next t → onlyIn [.mb, .pf, .ev, .ls, .out] s t := by
  intro a0 a1 s t h
  unfold execStartAttemptFail at h
  cases h
  split
  · refine onlyIn_ite ?_ ?_
    · refine onlyIn_step (frame_attemptFails _ _) rfl ?_
      exact onlyIn_refl _ _
    · exact onlyIn_refl _ _
  · exact onlyIn_refl _ _

theorem frame_execStartAttemptSuccess : ∀ a0 a1 s t, execStartAttemptSuccess a0 a1 s = .next t → onlyIn [.ls] s t := by
  intro a0 a1 s t h
  unfold execStartAttemptSuccess at h
  cases h
  refine onlyIn_ite ?_ ?_
  · refine onlyIn_step (frame_updLs _ _ _) rfl ?_
    exact onlyIn_refl _ _
  · exact onlyIn_refl _ _

theorem frame_execRetryWaitEnd : ∀ a0 a1 a2 s t, execRetryWaitEnd a0 a1 a2 s = .next t → onlyIn [.ls] s t := by
  intro a0 a1 a2 s t h
  unfold execRetryWaitEnd at h
  extract_lets +onlyGivenNames x0 at h
  clear_value x0
  cases h
  refine onlyIn_ite ?_ ?_
  · refine onlyIn_step (frame_updLs _ _ _) rfl ?_
    exact onlyIn_refl _ _
  · exact onlyIn_refl _ _

theorem frame_thermalShutdown : ∀ a0 a1 a2 s, onlyIn [.mb, .pf, .ev, .ls, .out] s (thermalShutdown a0 a1 a2 s) := by
  intro a0 a1 a2 s
  unfold thermalShutdown
  extract_lets +onlyGivenNames x0
  clear_value x0
  extract_lets +onlyGivenNames x1
  have h2 : onlyIn [.mb, .pf, .ev, .ls, .out] s x1 := by
    dsimp only [x1]
    refine onlyIn_step (frame_updLs _ _ _) rfl ?_
    exact onlyIn_refl _ _
  clear_value x1
  extract_lets +onlyGivenNames x3
  clear_value x3
  extract_lets +onlyGivenNames x4
  clear_value x4
  split
  · refine onlyIn_step (frame_attemptFails _ _) rfl ?_
    refine onlyIn_ite ?_ ?_
    · refine onlyIn_step (frame_happen _ _ _ _) rfl ?_
      exact h2
    · refine onlyIn_step (frame_happen _ _ _ _) rfl ?_
      exact h2
  · extract_lets +onlyGivenNames x5
    have h6 : onlyIn [.mb, .pf, .ev, .ls, .out] s x5 := by
      dsimp only [x5]
      refine onlyIn_step (frame_detect _ _ _ _ _) rfl ?_
      exact h2
    clear_value x5
    refine onlyIn_ite ?_ ?_
    · extract_lets +onlyGivenNames x7
      have h8 : onlyIn [.mb, .pf, .ev, .ls, .out] s x7 := by
        dsimp only [x7]
        refine onlyIn_step (frame_updLs _ _ _) rfl ?_
        exact h6
      clear_value x7
      refine onlyIn_step (frame_beginCond _ _ _ _) rfl ?_
      refine onlyIn_ite ?_ ?_
      · refine onlyIn_step (frame_lsLatch _ _ _) rfl ?_
        exact h8
      · refine onlyIn_step (frame_updLs _ _ _) rfl ?_
        exact h8
    · refine onlyIn_step (frame_beginCond _ _ _ _) rfl ?_
      refine onlyIn_step (frame_lsLatch _ _ _) rfl ?_
      exact h6
  · extract_lets +onlyGivenNames x9
    have h10 : onlyIn [.mb, .pf, .ev, .ls, .out] s x9 := by
      dsimp only [x9]
      refine onlyIn_step (frame_detect _ _ _ _ _) rfl ?_
      exact h2
    clear_value x9
    refine onlyIn_ite ?_ ?_
    · extract_lets +onlyGivenNames x11
      have h12 : onlyIn [.mb, .pf, .ev, .ls, .out] s x11 := by
        dsimp only [x11]
        refine onlyIn_step (frame_updLs _ _ _) rfl ?_
        exact h10
      clear_value x11
      refine onlyIn_step (frame_beginCond _ _ _ _) rfl ?_
      refine onlyIn_ite ?_ ?_
      · refine onlyIn_step (frame_lsLatch _ _ _) rfl ?_
        exact h12
      · refine onlyIn_step (frame_updLs _ _ _) rfl ?_
        exact h12
    · refine onlyIn_step (frame_beginCond _ _ _ _) rfl ?_
      refine onlyIn_step (frame_lsLatch _ _ _) rfl ?_
      exact h10
  · exact h2

theorem frame_execLsThermalShutdown : ∀ a0 a1 a2 s t, execLsThermalShutdown a0 a1 a2 s = .next t → onlyIn [.mb, .pf, .ev, .ls, .out] s t := by
  intro a0 a1 a2 s t h
  unfold execLsThermalShutdown at h
  cases h
  refine onlyIn_ite ?_ ?_
  · refine onlyIn_step (frame_thermalShutdown _ _ _ _) rfl ?_
    exact onlyIn_refl _ _
  · exact onlyIn_refl _ _

theorem frame_execLsJunctionCooled : ∀ a0 a1 a2 s t, execLsJunctionCooled a0 a1 a2 s = .next t → onlyIn [.mb, .pf, .ev, .ls, .out] s t := by
  intro a0 a1 a2 s t h
  unfold execLsJunctionCooled at h
  cases h
  refine onlyIn_ite ?_ ?_
  · extract_lets +onlyGivenNames x0
    have h1 : onlyIn [.mb, .pf, .ev, .ls, .out] s x0 := by
      dsimp only [x0]
      refine onlyIn_step (frame_updLs _ _ _) rfl ?_
      exact onlyIn_refl _ _
    clear_value x0
    refine onlyIn_ite ?_ ?_
    · extract_lets +onlyGivenNames x2
      have h3 : onlyIn [.mb, .pf, .ev, .ls, .out] s x2 := by
        dsimp only [x2]
        refine onlyIn_step (frame_detect _ _ _ _ _) rfl ?_
        exact h1
      clear_value x2
      refine onlyIn_ite ?_ ?_
      · refine onlyIn_step (frame_turnOn _ _ _) rfl ?_
        refine onlyIn_step (frame_updLs _ _ _) rfl ?_
        exact h3
      · refine onlyIn_step (frame_updLs _ _ _) rfl ?_
        exact h3
    · exact h1
  · exact onlyIn_refl _ _

theorem frame_execDemagEnd : ∀ a0 a1 a2 a3 a4 s t, execDemagEnd a0 a1 a2 a3 a4 s = .next t → onlyIn [.mb, .pf, .ev, .ls, .out] s t := by
  intro a0 a1 a2 a3 a4 s t h
  unfold execDemagEnd at h
  extract_lets +onlyGivenNames x0 at h
  clear_value x0
  extract_lets +onlyGivenNames x1 at h
  clear_value x1
  cases h
  refine onlyIn_ite ?_ ?_
  · extract_lets +onlyGivenNames x2
    clear_value x2
    extract_lets +onlyGivenNames x3
    have h4 : onlyIn [.mb, .pf, .ev, .ls, .out] s x3 := by
      dsimp only [x3]
      refine onlyIn_step (frame_updLs _ _ _) rfl ?_
      exact onlyIn_refl _ _
    clear_value x3
    extract_lets +onlyGivenNames x5
    clear_value x5
    extract_lets +onlyGivenNames x6
    have h7 : onlyIn [.mb, .pf, .ev, .ls, .out] s x6 := by
      dsimp only [x6]
      refine onlyIn_step (onlyIn_put_ls _ _) rfl ?_
      exact h4
    clear_value x6
    extract_lets +onlyGivenNames x8
    have h9 : onlyIn [.mb, .pf, .ev, .ls, .out] s x8 := by
      dsimp only [x8]
      refine onlyIn_ite ?_ ?_
      · refine onlyIn_step (frame_happen _ _ _ _) rfl ?_
        exact h7
      · exact h7
    clear_value x8
    refine onlyIn_ite ?_ ?_
    · refine onlyIn_step (frame_turnOn _ _ _) rfl ?_
      exact h9
    · refine onlyIn_step (frame_updLs _ _ _) rfl ?_
      exact h9
  · exact onlyIn_refl _ _

theorem frame_execLsOffstateDiag : ∀ a0 a1 a2 s t, execLsOffstateDiag a0 a1 a2 s = .next t → onlyIn [.mb, .pf, .ev, .ls, .out] s t := by
  intro a0 a1 a2 s t h
  unfold execLsOffstateDiag at h
  cases h
  refine onlyIn_ite ?_ ?_
  · refine onlyIn_step (frame_lsJudge _ _ _ _) rfl ?_
    exact onlyIn_refl _ _
  · refine onlyIn_step (frame_updLs _ _ _) rfl ?_
    exact onlyIn_refl _ _

theorem frame_execLsOpenLoadOnstate : ∀ a0 a1 a2 s t, execLsOpenLoadOnstate a0 a1 a2 s = .next t → onlyIn [.mb, .pf, .ev, .ls, .out] s t := by
  intro a0 a1 a2 s t h
  unfold execLsOpenLoadOnstate at h
  extract_lets +onlyGivenNames x0 at h
  clear_value x0
  cases h
  refine onlyIn_ite ?_ ?_
  · refine onlyIn_ite ?_ ?_
    · refine onlyIn_step (frame_beginCond _ _ _ _) rfl ?_
      refine onlyIn_step (frame_updLs _ _ _) rfl ?_
      exact onlyIn_refl _ _
    · refine onlyIn_ite ?_ ?_
      · refine onlyIn_step (frame_detect _ _ _ _ _) rfl ?_
        refine onlyIn_step (frame_updLs _ _ _) rfl ?_
        exact onlyIn_refl _ _
      · exact onlyIn_refl _ _
  · exact onlyIn_refl _ _

theorem frame_execDissipationEstimate : ∀ a0 s t, execDissipationEstimate a0 s = .next t → onlyIn [.mb, .pf, .ev, .ls, .out] s t := by
  intro a0 s t h
  unfold execDissipationEstimate at h
  extract_lets +onlyGivenNames x0 x1 x2 x3 x4 x6 x7 x8 x10 x11 x13 at h
  have h4 : onlyIn [.mb, .pf, .ev, .ls, .out] s x4 := onlyIn_step (onlyIn_put_ls _ _) rfl (onlyIn_refl _ _)
  have h8 : onlyIn [.mb, .pf, .ev, .ls, .out] s x8 := onlyIn_step (onlyIn_put_ls _ _) rfl h4
  have h11 : onlyIn [.mb, .pf, .ev, .ls, .out] s x11 := onlyIn_step (frame_detect _ _ _ _ _) rfl h8
  have h13 : onlyIn [.mb, .pf, .ev, .ls, .out] s x13 :=
    onlyIn_fold _ _ (fun _ _ => onlyIn_step (frame_detect _ _ _ _ _) rfl (onlyIn_refl _ _)) h11
  cases h
  exact onlyIn_ite h13 (onlyIn_step (frame_detect _ _ _ _ _) rfl h13)

theorem frame_execLoadShed : ∀ s t, execLoadShed s = .next t → onlyIn [.mb, .pf, .ev, .ls, .out] s t := by
  intro s t h
  unfold execLoadShed at h
  extract_lets +onlyGivenNames x0 at h
  clear_value x0
  cases h
  refine onlyIn_ite ?_ ?_
  · split
    · exact onlyIn_refl _ _
    · extract_lets +onlyGivenNames x1
      have h2 : onlyIn [.mb, .pf, .ev, .ls, .out] s x1 := by
        dsimp only [x1]
        refine onlyIn_step (frame_turnOff _ _ _ _) rfl ?_
        exact onlyIn_refl _ _
      clear_value x1
      refine onlyIn_step (frame_happenMarked _ _ _ _ _) rfl ?_
      refine onlyIn_step (onlyIn_put_ls _ _) rfl ?_
      exact h2
  · exact onlyIn_refl _ _

theorem frame_execLoadRestore : ∀ s t, execLoadRestore s = .next t → onlyIn [.ls] s t := by
  intro s t h
  unfold execLoadRestore at h
  cases h
  split
  · refine onlyIn_ite ?_ ?_
    · extract_lets +onlyGivenNames x0
      clear_value x0
      extract_lets +onlyGivenNames x1
      have h2 : onlyIn [.ls] s x1 := by
        dsimp only [x1]
        refine onlyIn_step (onlyIn_put_ls _ _) rfl ?_
        exact onlyIn_refl _ _
      clear_value x1
      refine onlyIn_ite ?_ ?_
      · refine onlyIn_step (frame_turnOn _ _ _) rfl ?_
        refine onlyIn_step (frame_updLs _ _ _) rfl ?_
        exact h2
      · exact h2
    · exact onlyIn_refl _ _
  · exact onlyIn_refl _ _

theorem frame_execBudgetExceeded : ∀ s t, execBudgetExceeded s = .next t → onlyIn [.mb, .pf, .ev, .out] s t := by
  intro s t h
  unfold execBudgetExceeded at h
  extract_lets +onlyGivenNames x0 at h
  clear_value x0
  cases h
  split
  · refine onlyIn_ite ?_ ?_
    · refine onlyIn_step (frame_beginCond _ _ _ _) rfl ?_
      exact onlyIn_refl _ _
    · exact onlyIn_refl _ _
  · exact onlyIn_refl _ _

theorem frame_execOnTestEnd : ∀ a0 a1 a2 s t, execOnTestEnd a0 a1 a2 s = .next t → onlyIn [.mb, .pf, .ev, .ls, .out] s t := by
  intro a0 a1 a2 s t h
  unfold execOnTestEnd at h
  extract_lets +onlyGivenNames x0 at h
  clear_value x0
  cases h
  split
  · exact onlyIn_refl _ _
  · refine onlyIn_ite ?_ ?_
    · extract_lets +onlyGivenNames x1
      clear_value x1
      extract_lets +onlyGivenNames x2
      clear_value x2
      refine onlyIn_step (frame_resolve _ _ _ _) rfl ?_
      refine onlyIn_step (frame_updLs _ _ _) rfl ?_
      refine onlyIn_step (frame_lsOff _ _ _) rfl ?_
      exact onlyIn_refl _ _
    · exact onlyIn_refl _ _

theorem frame_lsVbatOff : ∀ s, onlyIn [.mb, .pf, .ev, .ls, .out] s (lsVbatOff s) := by
  intro s
  unfold lsVbatOff
  refine onlyIn_fold _ _ (fun st0 a1 => ?_) ?_
  · split
    · refine onlyIn_step (frame_turnOff _ _ _ _) rfl ?_
      exact onlyIn_refl _ _
    · refine onlyIn_step (frame_turnOff _ _ _ _) rfl ?_
      exact onlyIn_refl _ _
    · refine onlyIn_step (frame_turnOff _ _ _ _) rfl ?_
      exact onlyIn_refl _ _
    · refine onlyIn_step (frame_turnOff _ _ _ _) rfl ?_
      exact onlyIn_refl _ _
    · exact onlyIn_refl _ _
  · exact onlyIn_refl _ _

theorem frame_lsVbatOn : ∀ s, onlyIn [.ls] s (lsVbatOn s) := by
  intro s
  unfold lsVbatOn
  refine onlyIn_fold _ _ (fun st0 a1 => ?_) ?_
  · refine onlyIn_ite ?_ ?_
    · split
      · refine onlyIn_step (frame_turnOn _ _ _) rfl ?_
        refine onlyIn_step (frame_updLs _ _ _) rfl ?_
        exact onlyIn_refl _ _
      · refine onlyIn_step (frame_updLs _ _ _) rfl ?_
        exact onlyIn_refl _ _
      · exact onlyIn_refl _ _
    · exact onlyIn_refl _ _
  · exact onlyIn_refl _ _

theorem frame_lsStop : ∀ a0 s, onlyIn [.mb, .pf, .ev, .ls, .out] s (lsStop a0 s) := by
  intro a0 s
  unfold lsStop
  refine onlyIn_fold _ _ (fun st0 a1 => ?_) ?_
  · refine onlyIn_ite ?_ ?_
    · refine onlyIn_step (frame_lsOff _ _ _) rfl ?_
      exact onlyIn_refl _ _
    · exact onlyIn_refl _ _
  · exact onlyIn_refl _ _

theorem frame_execLsPwmPeriodStart : ∀ a0 a1 s t, execLsPwmPeriodStart a0 a1 s = .next t → onlyIn [.ls] s t := by
  intro a0 a1 s t h
  unfold execLsPwmPeriodStart at h
  cases h
  refine onlyIn_ite ?_ ?_
  · refine onlyIn_step (frame_updLs _ _ _) rfl ?_
    exact onlyIn_refl _ _
  · exact onlyIn_refl _ _

end Sys2Proof.Machine
end

