-- ==== Sys2Proof/Laws/FrameCropFlow.lean ====
section
/-!
SUPPORT. Laws/FrameCropFlow.lean: the parts of the state that the definitions of Machine/CropFlow.lean may change.
-/

namespace Sys2Proof.Machine

open Sys2Proof.Safety

theorem frame_clearGroups : ∀ s, onlyIn [.cf] s (clearGroups s) := by
  intro s
  unfold clearGroups
  refine onlyIn_step (onlyIn_put_cf _ _) rfl ?_
  exact onlyIn_refl _ _

theorem frame_delayActivate : ∀ s, onlyIn [.pf] s (delayActivate s) := by
  intro s
  unfold delayActivate
  refine onlyIn_ite ?_ ?_
  · exact onlyIn_refl _ _
  · refine onlyIn_step (frame_writeSettings _ _) rfl ?_
    exact onlyIn_refl _ _

theorem frame_avgFrame : ∀ s, onlyIn [.cf] s (avgFrame s) := by
  intro s
  unfold avgFrame
  split
  · exact onlyIn_refl _ _
  · refine onlyIn_ite ?_ ?_
    · extract_lets +onlyGivenNames x0
      clear_value x0
      refine onlyIn_step (onlyIn_put_cf _ _) rfl ?_
      exact onlyIn_refl _ _
    · refine onlyIn_step (onlyIn_put_cf _ _) rfl ?_
      exact onlyIn_refl _ _

theorem frame_calReply : ∀ s a1 a2 a3, onlyIn [] s (calReply s a1 a2 a3).1 := by
  intro s a1 a2 a3
  unfold calReply
  refine onlyIn_ans ?_
  exact onlyIn_refl _ _

theorem frame_calDone : ∀ a0 a1 s, onlyIn [.cf] s (calDone a0 a1 s) := by
  intro a0 a1 s
  unfold calDone
  refine onlyIn_step (onlyIn_put_cf _ _) rfl ?_
  exact onlyIn_refl _ _

theorem frame_bodyCfCalibrateDelayReset : ∀ a0 s, onlyIn [.pf, .cf] s (bodyCfCalibrateDelayReset a0 s).1 := by
  intro a0 s
  unfold bodyCfCalibrateDelayReset
  unfold calRequest
  try beta_reduce
  unfold withOp
  try beta_reduce
  refine onlyIn_ite1 ?_ ?_
  · extract_lets +onlyGivenNames x0
    clear_value x0
    refine onlyIn_ite1 ?_ ?_
    · refine onlyIn_ans ?_
      exact onlyIn_refl _ _
    · refine onlyIn_ite1 ?_ ?_
      · refine onlyIn_ans ?_
        exact onlyIn_refl _ _
      · refine onlyIn_step (frame_calReply _ _ _ _) rfl ?_
        refine onlyIn_step (frame_writeSettings _ _) rfl ?_
        refine onlyIn_step (frame_calDone _ _ _) rfl ?_
        exact onlyIn_refl _ _
  · refine onlyIn_ans ?_
    exact onlyIn_refl _ _

theorem frame_bodyCfCalibrateFlowZero : ∀ a0 s, onlyIn [.cf] s (bodyCfCalibrateFlowZero a0 s).1 := by
  intro a0 s
  unfold bodyCfCalibrateFlowZero
  unfold calRequest
  try beta_reduce
  unfold withOp
  try beta_reduce
  refine onlyIn_ite1 ?_ ?_
  · extract_lets +onlyGivenNames x0
    clear_value x0
    refine onlyIn_ite1 ?_ ?_
    · refine onlyIn_ans ?_
      exact onlyIn_refl _ _
    · refine onlyIn_ite1 ?_ ?_
      · refine onlyIn_ans ?_
        exact onlyIn_refl _ _
      · refine onlyIn_ite1 ?_ ?_
        · refine onlyIn_ans ?_
          exact onlyIn_refl _ _
        · extract_lets +onlyGivenNames x1
          have h2 : onlyIn [.cf] s x1 := by
            dsimp only [x1]
            refine onlyIn_step (frame_calDone _ _ _) rfl ?_
            exact onlyIn_refl _ _
          clear_value x1
          refine onlyIn_step (frame_calReply _ _ _ _) rfl ?_
          refine onlyIn_step (onlyIn_put_cf _ _) rfl ?_
          exact h2
  · refine onlyIn_ans ?_
    exact onlyIn_refl _ _

theorem frame_internalParams : ∀ a0 s, onlyIn [.mb, .cf] s (internalParams a0 s) := by
  intro a0 s
  unfold internalParams
  extract_lets +onlyGivenNames x0
  clear_value x0
  extract_lets +onlyGivenNames x1
  have h2 : onlyIn [.mb, .cf] s x1 := by
    dsimp only [x1]
    refine onlyIn_step (onlyIn_put_cf _ _) rfl ?_
    exact onlyIn_refl _ _
  clear_value x1
  refine onlyIn_step (frame_handOverInternal _ _ _ _ _) rfl ?_
  exact h2

theorem frame_bodyCfCalibrateGainReset : ∀ a0 s, onlyIn [.mb, .cf] s (bodyCfCalibrateGainReset a0 s).1 := by
  intro a0 s
  unfold bodyCfCalibrateGainReset
  unfold calRequest
  try beta_reduce
  unfold withOp
  try beta_reduce
  refine onlyIn_ite1 ?_ ?_
  · extract_lets +onlyGivenNames x0
    clear_value x0
    refine onlyIn_ite1 ?_ ?_
    · refine onlyIn_ans ?_
      exact onlyIn_refl _ _
    · refine onlyIn_ite1 ?_ ?_
      · refine onlyIn_ans ?_
        exact onlyIn_refl _ _
      · extract_lets +onlyGivenNames x1
        clear_value x1
        extract_lets +onlyGivenNames x2
        clear_value x2
        extract_lets +onlyGivenNames x3
        have h4 : onlyIn [.mb, .cf] s x3 := by
          dsimp only [x3]
          refine onlyIn_step (frame_internalParams _ _) rfl ?_
          refine onlyIn_step (frame_calDone _ _ _) rfl ?_
          exact onlyIn_refl _ _
        clear_value x3
        refine onlyIn_step (frame_calReply _ _ _ _) rfl ?_
        refine onlyIn_step (onlyIn_put_cf _ _) rfl ?_
        exact h4
  · refine onlyIn_ans ?_
    exact onlyIn_refl _ _

theorem frame_updCal : ∀ a0 s, onlyIn [.cf] s (updCal a0 s) := by
  intro a0 s
  unfold updCal
  refine onlyIn_step (onlyIn_put_cf _ _) rfl ?_
  exact onlyIn_refl _ _

theorem frame_bodyCfCalibrateLoadAbort : ∀ a0 s, onlyIn [.cf] s (bodyCfCalibrateLoadAbort a0 s).1 := by
  intro a0 s
  unfold bodyCfCalibrateLoadAbort
  unfold calRequest
  try beta_reduce
  unfold withOp
  try beta_reduce
  refine onlyIn_ite1 ?_ ?_
  · extract_lets +onlyGivenNames x0
    clear_value x0
    refine onlyIn_ite1 ?_ ?_
    · refine onlyIn_ans ?_
      exact onlyIn_refl _ _
    · refine onlyIn_ite1 ?_ ?_
      · refine onlyIn_ans ?_
        exact onlyIn_refl _ _
      · refine onlyIn_ite1 ?_ ?_
        · refine onlyIn_ans ?_
          exact onlyIn_refl _ _
        · refine onlyIn_step (frame_calReply _ _ _ _) rfl ?_
          refine onlyIn_step (frame_updCal _ _) rfl ?_
          refine onlyIn_step (frame_calDone _ _ _) rfl ?_
          exact onlyIn_refl _ _
  · refine onlyIn_ans ?_
    exact onlyIn_refl _ _

theorem frame_bodyCfCalibrateLoadBegin : ∀ a0 s, onlyIn [.cf] s (bodyCfCalibrateLoadBegin a0 s).1 := by
  intro a0 s
  unfold bodyCfCalibrateLoadBegin
  unfold calRequest
  try beta_reduce
  unfold withOp
  try beta_reduce
  refine onlyIn_ite1 ?_ ?_
  · extract_lets +onlyGivenNames x0
    clear_value x0
    refine onlyIn_ite1 ?_ ?_
    · refine onlyIn_ans ?_
      exact onlyIn_refl _ _
    · refine onlyIn_ite1 ?_ ?_
      · refine onlyIn_ans ?_
        exact onlyIn_refl _ _
      · refine onlyIn_step (frame_calReply _ _ _ _) rfl ?_
        refine onlyIn_step (frame_updCal _ _) rfl ?_
        refine onlyIn_step (frame_calDone _ _ _) rfl ?_
        exact onlyIn_refl _ _
  · refine onlyIn_ans ?_
    exact onlyIn_refl _ _

theorem frame_setGain : ∀ a0 a1 s, onlyIn [.mb, .cf] s (setGain a0 a1 s) := by
  intro a0 a1 s
  unfold setGain
  refine onlyIn_step (frame_internalParams _ _) rfl ?_
  refine onlyIn_step (onlyIn_put_cf _ _) rfl ?_
  exact onlyIn_refl _ _

theorem frame_bodyCfCalibrateLoadEnd : ∀ a0 s, onlyIn [.mb, .cf] s (bodyCfCalibrateLoadEnd a0 s).1 := by
  intro a0 s
  unfold bodyCfCalibrateLoadEnd
  unfold calRequest
  try beta_reduce
  unfold withOp
  try beta_reduce
  refine onlyIn_ite1 ?_ ?_
  · extract_lets +onlyGivenNames x0
    clear_value x0
    refine onlyIn_ite1 ?_ ?_
    · refine onlyIn_ans ?_
      exact onlyIn_refl _ _
    · refine onlyIn_ite1 ?_ ?_
      · refine onlyIn_ans ?_
        exact onlyIn_refl _ _
      · refine onlyIn_ite1 ?_ ?_
        · refine onlyIn_ans ?_
          exact onlyIn_refl _ _
        · extract_lets +onlyGivenNames x1
          clear_value x1
          extract_lets +onlyGivenNames x2
          have h3 : onlyIn [.mb, .cf] s x2 := by
            dsimp only [x2]
            refine onlyIn_step (frame_updCal _ _) rfl ?_
            exact onlyIn_refl _ _
          clear_value x2
          split
          · refine onlyIn_step (frame_calReply _ _ _ _) rfl ?_
            refine onlyIn_step (frame_setGain _ _ _) rfl ?_
            refine onlyIn_step (frame_calDone _ _ _) rfl ?_
            exact h3
          · refine onlyIn_step (frame_calReply _ _ _ _) rfl ?_
            refine onlyIn_step (frame_calDone _ _ _) rfl ?_
            exact h3
  · refine onlyIn_ans ?_
    exact onlyIn_refl _ _

theorem frame_bodyCfCalibrateTankTare : ∀ a0 s, onlyIn [.cf] s (bodyCfCalibrateTankTare a0 s).1 := by
  intro a0 s
  unfold bodyCfCalibrateTankTare
  unfold calRequest
  try beta_reduce
  unfold withOp
  try beta_reduce
  refine onlyIn_ite1 ?_ ?_
  · extract_lets +onlyGivenNames x0
    clear_value x0
    refine onlyIn_ite1 ?_ ?_
    · refine onlyIn_ans ?_
      exact onlyIn_refl _ _
    · refine onlyIn_ite1 ?_ ?_
      · refine onlyIn_ans ?_
        exact onlyIn_refl _ _
      · refine onlyIn_ite1 ?_ ?_
        · refine onlyIn_ans ?_
          exact onlyIn_refl _ _
        · extract_lets +onlyGivenNames x1
          have h2 : onlyIn [.cf] s x1 := by
            dsimp only [x1]
            refine onlyIn_step (frame_calDone _ _ _) rfl ?_
            exact onlyIn_refl _ _
          clear_value x1
          refine onlyIn_step (frame_calReply _ _ _ _) rfl ?_
          refine onlyIn_step (onlyIn_put_cf _ _) rfl ?_
          exact h2
  · refine onlyIn_ans ?_
    exact onlyIn_refl _ _

theorem frame_calFrame : ∀ s, onlyIn [.cf] s (calFrame s) := by
  intro s
  unfold calFrame
  split
  · refine onlyIn_ite ?_ ?_
    · refine onlyIn_step (frame_updCal _ _) rfl ?_
      exact onlyIn_refl _ _
    · exact onlyIn_refl _ _
  · refine onlyIn_ite ?_ ?_
    · exact onlyIn_refl _ _
    · refine onlyIn_step (frame_updCal _ _) rfl ?_
      exact onlyIn_refl _ _
  · refine onlyIn_ite ?_ ?_
    · refine onlyIn_step (frame_updCal _ _) rfl ?_
      exact onlyIn_refl _ _
    · refine onlyIn_step (frame_updCal _ _) rfl ?_
      exact onlyIn_refl _ _
  · refine onlyIn_ite ?_ ?_
    · refine onlyIn_step (frame_updCal _ _) rfl ?_
      exact onlyIn_refl _ _
    · extract_lets +onlyGivenNames x0
      have h1 : onlyIn [.cf] s x0 := by
        dsimp only [x0]
        refine onlyIn_step (frame_updCal _ _) rfl ?_
        exact onlyIn_refl _ _
      clear_value x0
      refine onlyIn_step (onlyIn_put_cf _ _) rfl ?_
      exact h1

theorem frame_calReject : ∀ s, onlyIn [.mb, .pf, .ev, .cf, .out] s (calReject s) := by
  intro s
  unfold calReject
  extract_lets +onlyGivenNames x0
  have h1 : onlyIn [.mb, .pf, .ev, .cf, .out] s x0 := by
    dsimp only [x0]
    refine onlyIn_step (frame_updCal _ _) rfl ?_
    exact onlyIn_refl _ _
  clear_value x0
  refine onlyIn_ite ?_ ?_
  · refine onlyIn_step (frame_happen _ _ _ _) rfl ?_
    exact h1
  · exact h1

theorem frame_moistFrame : ∀ s, onlyIn [.mb, .pf, .ev, .cf, .out] s (moistFrame s) := by
  intro s
  unfold moistFrame
  extract_lets +onlyGivenNames x0
  clear_value x0
  extract_lets +onlyGivenNames x1
  clear_value x1
  extract_lets +onlyGivenNames x2
  have h3 : onlyIn [.mb, .pf, .ev, .cf, .out] s x2 := by
    dsimp only [x2]
    refine onlyIn_step (onlyIn_put_cf _ _) rfl ?_
    exact onlyIn_refl _ _
  clear_value x2
  refine onlyIn_fold _ _ (fun st4 a5 => ?_) ?_
  · refine onlyIn_ite ?_ ?_
    · refine onlyIn_step (frame_clearActive _ _ _) rfl ?_
      exact onlyIn_refl _ _
    · exact onlyIn_refl _ _
  · exact h3

theorem frame_seriesFrame : ∀ s, onlyIn [.cf] s (seriesFrame s) := by
  intro s
  unfold seriesFrame
  extract_lets +onlyGivenNames x0
  clear_value x0
  extract_lets +onlyGivenNames x1
  clear_value x1
  refine onlyIn_ite ?_ ?_
  · refine onlyIn_step (onlyIn_put_cf _ _) rfl ?_
    exact onlyIn_refl _ _
  · refine onlyIn_step (onlyIn_put_cf _ _) rfl ?_
    exact onlyIn_refl _ _

theorem frame_cropFrame : ∀ s, onlyIn [.mb, .pf, .ev, .cf, .out] s (cropFrame s) := by
  intro s
  unfold cropFrame
  extract_lets +onlyGivenNames x0
  clear_value x0
  extract_lets +onlyGivenNames x1
  clear_value x1
  extract_lets +onlyGivenNames x2
  clear_value x2
  extract_lets +onlyGivenNames x3
  clear_value x3
  extract_lets +onlyGivenNames x4
  have h5 : onlyIn [.mb, .pf, .ev, .cf, .out] s x4 := by
    dsimp only [x4]
    refine onlyIn_step (onlyIn_put_cf _ _) rfl ?_
    exact onlyIn_refl _ _
  clear_value x4
  refine onlyIn_step (frame_calFrame _) rfl ?_
  refine onlyIn_step (frame_avgFrame _) rfl ?_
  refine onlyIn_step (frame_moistFrame _) rfl ?_
  refine onlyIn_step (frame_seriesFrame _) rfl ?_
  exact h5

theorem frame_cropSignals : ∀ s, onlyIn [.cf] s (cropSignals s) := by
  intro s
  unfold cropSignals
  dsimp only
  refine onlyIn_step (onlyIn_put_cf _ _) rfl ?_
  exact onlyIn_refl _ _

theorem frame_delayEstimate : ∀ s, onlyIn [.mb, .pf, .ev, .cf, .out] s (delayEstimate s) := by
  intro s
  unfold delayEstimate
  dsimp only
  split
  · refine onlyIn_ite ?_ ?_
    · refine onlyIn_step (frame_writeSettings _ _) rfl ?_
      refine onlyIn_step (frame_clearActive _ _ _) rfl ?_
      refine onlyIn_step (onlyIn_put_cf _ _) rfl ?_
      exact onlyIn_refl _ _
    · refine onlyIn_step (onlyIn_put_cf _ _) rfl ?_
      exact onlyIn_refl _ _
  · refine onlyIn_step (onlyIn_put_cf _ _) rfl ?_
    exact onlyIn_refl _ _

theorem frame_internalSetpoint : ∀ a0 a1 s, onlyIn [.mb, .cf] s (internalSetpoint a0 a1 s) := by
  intro a0 a1 s
  unfold internalSetpoint
  extract_lets +onlyGivenNames x0
  clear_value x0
  extract_lets +onlyGivenNames x1
  have h2 : onlyIn [.mb, .cf] s x1 := by
    dsimp only [x1]
    refine onlyIn_step (onlyIn_put_cf _ _) rfl ?_
    exact onlyIn_refl _ _
  clear_value x1
  refine onlyIn_step (frame_handOverInternal _ _ _ _ _) rfl ?_
  exact h2

theorem frame_execLossGroupUncovered : ∀ a0 s t, execLossGroupUncovered a0 s = .next t → onlyIn [.mb, .pf, .ev, .out] s t := by
  intro a0 s t h
  unfold execLossGroupUncovered at h
  cases h
  refine onlyIn_ite ?_ ?_
  · refine onlyIn_step (frame_beginCond _ _ _ _) rfl ?_
    exact onlyIn_refl _ _
  · exact onlyIn_refl _ _

theorem frame_execLiveCalSettleDone : ∀ s t, execLiveCalSettleDone s = .next t → onlyIn [.cf] s t := by
  intro s t h
  unfold execLiveCalSettleDone at h
  cases h
  refine onlyIn_ite ?_ ?_
  · refine onlyIn_step (frame_updCal _ _) rfl ?_
    exact onlyIn_refl _ _
  · exact onlyIn_refl _ _

theorem frame_execLiveCalIntervalEnd : ∀ s t, execLiveCalIntervalEnd s = .next t → onlyIn [.mb, .pf, .ev, .cf, .out] s t := by
  intro s t h
  unfold execLiveCalIntervalEnd at h
  extract_lets +onlyGivenNames x0 at h
  clear_value x0
  extract_lets +onlyGivenNames x1 at h
  clear_value x1
  cases h
  refine onlyIn_ite ?_ ?_
  · extract_lets +onlyGivenNames x2
    have h3 : onlyIn [.mb, .pf, .ev, .cf, .out] s x2 := by
      dsimp only [x2]
      refine onlyIn_step (frame_updCal _ _) rfl ?_
      exact onlyIn_refl _ _
    clear_value x2
    split
    · refine onlyIn_step (frame_setGain _ _ _) rfl ?_
      refine onlyIn_step (frame_updCal _ _) rfl ?_
      exact h3
    · refine onlyIn_step (frame_calReject _) rfl ?_
      exact h3
  · exact onlyIn_refl _ _

theorem frame_execLiveCalTimeout : ∀ s t, execLiveCalTimeout s = .next t → onlyIn [.mb, .pf, .ev, .cf, .out] s t := by
  intro s t h
  unfold execLiveCalTimeout at h
  cases h
  refine onlyIn_ite ?_ ?_
  · refine onlyIn_step (frame_calReject _) rfl ?_
    refine onlyIn_step (frame_updCal _ _) rfl ?_
    exact onlyIn_refl _ _
  · exact onlyIn_refl _ _

theorem frame_execDelayEstimate : ∀ s t, execDelayEstimate s = .next t → onlyIn [.mb, .pf, .ev, .cf, .out] s t := by
  intro s t h
  unfold execDelayEstimate at h
  cases h
  refine onlyIn_ite ?_ ?_
  · refine onlyIn_step (frame_delayEstimate _) rfl ?_
    exact onlyIn_refl _ _
  · exact onlyIn_refl _ _

theorem frame_execDelayNotEstimable : ∀ s t, execDelayNotEstimable s = .next t → onlyIn [.mb, .pf, .ev, .out] s t := by
  intro s t h
  unfold execDelayNotEstimable at h
  cases h
  refine onlyIn_ite ?_ ?_
  · refine onlyIn_step (frame_beginCond _ _ _ _) rfl ?_
    exact onlyIn_refl _ _
  · exact onlyIn_refl _ _

theorem frame_execSlopeLimitUpdate : ∀ s t, execSlopeLimitUpdate s = .next t → onlyIn [.mb, .cf] s t := by
  intro s t h
  unfold execSlopeLimitUpdate at h
  cases h
  refine onlyIn_ite ?_ ?_
  · extract_lets +onlyGivenNames x0
    clear_value x0
    extract_lets +onlyGivenNames x1
    clear_value x1
    refine onlyIn_step (frame_internalParams _ _) rfl ?_
    refine onlyIn_step (onlyIn_put_cf _ _) rfl ?_
    exact onlyIn_refl _ _
  · exact onlyIn_refl _ _

theorem frame_execMoistureCellInvalid : ∀ a0 s t, execMoistureCellInvalid a0 s = .next t → onlyIn [.mb, .pf, .ev, .out] s t := by
  intro a0 s t h
  unfold execMoistureCellInvalid at h
  cases h
  refine onlyIn_ite ?_ ?_
  · refine onlyIn_step (frame_beginCond _ _ _ _) rfl ?_
    exact onlyIn_refl _ _
  · exact onlyIn_refl _ _

theorem frame_execCalibrationAverageDone : ∀ s t, execCalibrationAverageDone s = .next t → onlyIn [.mb, .cf] s t := by
  intro s t h
  unfold execCalibrationAverageDone at h
  cases h
  split
  · exact onlyIn_refl _ _
  · refine onlyIn_ite ?_ ?_
    · refine onlyIn_step (frame_internalParams _ _) rfl ?_
      refine onlyIn_step (onlyIn_put_cf _ _) rfl ?_
      exact onlyIn_refl _ _
    · exact onlyIn_refl _ _

end Sys2Proof.Machine
end

