-- ==== Sys2Proof/Laws/FrameOptimizer.lean ====
section
/-!
SUPPORT. Laws/FrameOptimizer.lean: the parts of the state that the definitions of Machine/Optimizer.lean may change.
-/

namespace Sys2Proof.Machine

open Sys2Proof.Safety

theorem frame_updOpt : ∀ a0 s, onlyIn [.cf] s (updOpt a0 s) := by
  intro a0 s
  unfold updOpt
  refine onlyIn_step (onlyIn_put_cf _ _) rfl ?_
  exact onlyIn_refl _ _

theorem frame_optStop : ∀ a0 s, onlyIn [.mb, .pf, .ev, .cf, .out] s (optStop a0 s) := by
  intro a0 s
  unfold optStop
  refine onlyIn_ite ?_ ?_
  · exact onlyIn_refl _ _
  · refine onlyIn_step (frame_happenMarked _ _ _ _ _) rfl ?_
    refine onlyIn_step (frame_updOpt _ _) rfl ?_
    exact onlyIn_refl _ _

theorem frame_optObserve : ∀ s, onlyIn [.cf] s (optObserve s) := by
  intro s
  unfold optObserve
  refine onlyIn_step (frame_updOpt _ _) rfl ?_
  exact onlyIn_refl _ _

theorem frame_optHostSet : ∀ a0 s, onlyIn [.cf] s (optHostSet a0 s) := by
  intro a0 s
  unfold optHostSet
  extract_lets +onlyGivenNames x0
  clear_value x0
  extract_lets +onlyGivenNames x1
  have h2 : onlyIn [.cf] s x1 := by
    dsimp only [x1]
    refine onlyIn_step (frame_updOpt _ _) rfl ?_
    exact onlyIn_refl _ _
  clear_value x1
  refine onlyIn_ite ?_ ?_
  · refine onlyIn_step (frame_optObserve _) rfl ?_
    exact h2
  · exact h2

theorem frame_applyOptimizerTargets : ∀ a0 s, onlyIn [.pf] s (applyOptimizerTargets a0 s) := by
  intro a0 s
  unfold applyOptimizerTargets
  refine onlyIn_step (frame_setWork _ _) rfl ?_
  exact onlyIn_refl _ _

theorem frame_applyOptimizerEnable : ∀ a0 s, onlyIn [.cf] s (applyOptimizerEnable a0 s) := by
  intro a0 s
  unfold applyOptimizerEnable
  refine onlyIn_ite ?_ ?_
  · extract_lets +onlyGivenNames x0
    have h1 : onlyIn [.cf] s x0 := by
      dsimp only [x0]
      refine onlyIn_step (frame_updOpt _ _) rfl ?_
      exact onlyIn_refl _ _
    clear_value x0
    refine onlyIn_ite ?_ ?_
    · refine onlyIn_step (frame_optObserve _) rfl ?_
      refine onlyIn_step (frame_updOpt _ _) rfl ?_
      exact h1
    · exact h1
  · refine onlyIn_step (frame_updOpt _ _) rfl ?_
    exact onlyIn_refl _ _

theorem frame_bodyOptimizerEnable : ∀ a0 s, onlyIn [.mb] s (bodyOptimizerEnable a0 s).1 := by
  intro a0 s
  unfold bodyOptimizerEnable
  unfold timedBody
  try beta_reduce
  split
  · refine onlyIn_ans ?_
    exact onlyIn_refl _ _
  · refine onlyIn_ite1 ?_ ?_
    · refine onlyIn_ans ?_
      exact onlyIn_refl _ _
    · split
      · refine onlyIn_ans ?_
        exact onlyIn_refl _ _
      · refine onlyIn_ite1 ?_ ?_
        · refine onlyIn_ans ?_
          exact onlyIn_refl _ _
        · refine onlyIn_ite1 ?_ ?_
          · refine onlyIn_ans ?_
            exact onlyIn_refl _ _
          · extract_lets +onlyGivenNames x0
            clear_value x0
            extract_lets +onlyGivenNames x1
            have h2 : onlyIn [.mb] s x1.1 := by
              dsimp only [x1]
              unfold frameReply
              try beta_reduce
              refine onlyIn_pair1 ?_
              refine onlyIn_step (frame_handOver _ _) rfl ?_
              exact onlyIn_refl _ _
            clear_value x1
            refine onlyIn_ans ?_
            exact h2

theorem frame_bodyOptimizerTargets : ∀ a0 s, onlyIn [.mb] s (bodyOptimizerTargets a0 s).1 := by
  intro a0 s
  unfold bodyOptimizerTargets
  unfold timedBody
  try beta_reduce
  split
  · refine onlyIn_ans ?_
    exact onlyIn_refl _ _
  · refine onlyIn_ite1 ?_ ?_
    · refine onlyIn_ans ?_
      exact onlyIn_refl _ _
    · split
      · refine onlyIn_ans ?_
        exact onlyIn_refl _ _
      · refine onlyIn_ite1 ?_ ?_
        · refine onlyIn_ans ?_
          exact onlyIn_refl _ _
        · refine onlyIn_ite1 ?_ ?_
          · refine onlyIn_ans ?_
            exact onlyIn_refl _ _
          · extract_lets +onlyGivenNames x0
            clear_value x0
            extract_lets +onlyGivenNames x1
            have h2 : onlyIn [.mb] s x1.1 := by
              dsimp only [x1]
              unfold frameReply
              try beta_reduce
              refine onlyIn_pair1 ?_
              refine onlyIn_step (frame_handOver _ _) rfl ?_
              exact onlyIn_refl _ _
            clear_value x1
            refine onlyIn_ans ?_
            exact h2

theorem frame_optMeans : ∀ s, onlyIn [.cf] s (optMeans s) := by
  intro s
  unfold optMeans
  extract_lets +onlyGivenNames x0
  clear_value x0
  refine onlyIn_ite ?_ ?_
  · refine onlyIn_step (frame_updOpt _ _) rfl ?_
    exact onlyIn_refl _ _
  · refine onlyIn_step (frame_updOpt _ _) rfl ?_
    exact onlyIn_refl _ _

theorem frame_optSend : ∀ a0 a1 s, onlyIn [.mb, .cf] s (optSend a0 a1 s) := by
  intro a0 a1 s
  unfold optSend
  refine onlyIn_ite ?_ ?_
  · exact onlyIn_refl _ _
  · refine onlyIn_step (frame_internalSetpoint _ _ _) rfl ?_
    exact onlyIn_refl _ _

theorem frame_optFrame : ∀ s, onlyIn [.mb, .pf, .ev, .cf, .out] s (optFrame s) := by
  intro s
  unfold optFrame
  extract_lets +onlyGivenNames x0
  have h1 : onlyIn [.mb, .pf, .ev, .cf, .out] s x0 := by
    dsimp only [x0]
    refine onlyIn_step (frame_optMeans _) rfl ?_
    exact onlyIn_refl _ _
  clear_value x0
  extract_lets +onlyGivenNames x2
  clear_value x2
  split
  · exact h1
  · exact h1
  · refine onlyIn_ite ?_ ?_
    · refine onlyIn_step (frame_optStop _ _) rfl ?_
      exact h1
    · refine onlyIn_ite ?_ ?_
      · extract_lets +onlyGivenNames x3
        clear_value x3
        refine onlyIn_step (frame_updOpt _ _) rfl ?_
        exact h1
      · refine onlyIn_ite ?_ ?_
        · refine onlyIn_step (frame_optObserve _) rfl ?_
          exact h1
        · refine onlyIn_ite ?_ ?_
          · refine onlyIn_step (frame_optObserve _) rfl ?_
            refine onlyIn_step (frame_optSend _ _ _) rfl ?_
            exact h1
          · refine onlyIn_step (frame_optObserve _) rfl ?_
            exact h1
  · refine onlyIn_ite ?_ ?_
    · refine onlyIn_step (frame_optStop _ _) rfl ?_
      exact h1
    · refine onlyIn_ite ?_ ?_
      · extract_lets +onlyGivenNames x4
        clear_value x4
        refine onlyIn_step (frame_updOpt _ _) rfl ?_
        exact h1
      · refine onlyIn_ite ?_ ?_
        · refine onlyIn_step (frame_optObserve _) rfl ?_
          exact h1
        · refine onlyIn_ite ?_ ?_
          · refine onlyIn_step (frame_optObserve _) rfl ?_
            refine onlyIn_step (frame_optSend _ _ _) rfl ?_
            exact h1
          · refine onlyIn_step (frame_optObserve _) rfl ?_
            exact h1
  · refine onlyIn_ite ?_ ?_
    · refine onlyIn_step (frame_optStop _ _) rfl ?_
      exact h1
    · refine onlyIn_ite ?_ ?_
      · extract_lets +onlyGivenNames x5
        clear_value x5
        refine onlyIn_step (frame_updOpt _ _) rfl ?_
        exact h1
      · refine onlyIn_ite ?_ ?_
        · refine onlyIn_step (frame_optObserve _) rfl ?_
          exact h1
        · refine onlyIn_ite ?_ ?_
          · refine onlyIn_step (frame_optObserve _) rfl ?_
            refine onlyIn_step (frame_optSend _ _ _) rfl ?_
            exact h1
          · refine onlyIn_step (frame_optObserve _) rfl ?_
            exact h1

theorem frame_optAdvance : ∀ s, onlyIn [.cf] s (optAdvance s) := by
  intro s
  unfold optAdvance
  extract_lets +onlyGivenNames x0
  clear_value x0
  extract_lets +onlyGivenNames x1
  clear_value x1
  extract_lets +onlyGivenNames x2
  clear_value x2
  refine onlyIn_step (frame_updOpt _ _) rfl ?_
  exact onlyIn_refl _ _

theorem frame_optTake : ∀ a0 a1 a2 s, onlyIn [.mb, .cf] s (optTake a0 a1 a2 s) := by
  intro a0 a1 a2 s
  unfold optTake
  extract_lets +onlyGivenNames x0
  clear_value x0
  refine onlyIn_step (frame_updOpt _ _) rfl ?_
  refine onlyIn_step (frame_optSend _ _ _) rfl ?_
  exact onlyIn_refl _ _

theorem frame_observeEnd : ∀ s, onlyIn [.mb, .cf] s (observeEnd s) := by
  intro s
  unfold observeEnd
  extract_lets +onlyGivenNames x0
  clear_value x0
  extract_lets +onlyGivenNames x1
  clear_value x1
  refine onlyIn_ite ?_ ?_
  · refine onlyIn_step (frame_optAdvance _) rfl ?_
    exact onlyIn_refl _ _
  · refine onlyIn_ite ?_ ?_
    · exact onlyIn_refl _ _
    · refine onlyIn_step (frame_optTake _ _ _ _) rfl ?_
      refine onlyIn_step (frame_updOpt _ _) rfl ?_
      exact onlyIn_refl _ _

theorem frame_measureEnd : ∀ s, onlyIn [.mb, .cf] s (measureEnd s) := by
  intro s
  unfold measureEnd
  extract_lets +onlyGivenNames x0
  clear_value x0
  extract_lets +onlyGivenNames x1
  clear_value x1
  refine onlyIn_ite ?_ ?_
  · exact onlyIn_refl _ _
  · refine onlyIn_ite ?_ ?_
    · refine onlyIn_step (frame_optTake _ _ _ _) rfl ?_
      refine onlyIn_step (frame_updOpt _ _) rfl ?_
      exact onlyIn_refl _ _
    · refine onlyIn_ite ?_ ?_
      · refine onlyIn_step (frame_optTake _ _ _ _) rfl ?_
        exact onlyIn_refl _ _
      · refine onlyIn_step (frame_optAdvance _) rfl ?_
        refine onlyIn_step (frame_optSend _ _ _) rfl ?_
        exact onlyIn_refl _ _

theorem frame_execOptimizerWindowEnd : ∀ s t, execOptimizerWindowEnd s = .next t → onlyIn [.mb, .cf] s t := by
  intro s t h
  unfold execOptimizerWindowEnd at h
  cases h
  refine onlyIn_ite ?_ ?_
  · split
    · refine onlyIn_step (frame_observeEnd _) rfl ?_
      exact onlyIn_refl _ _
    · refine onlyIn_step (frame_measureEnd _) rfl ?_
      exact onlyIn_refl _ _
    · exact onlyIn_refl _ _
    · exact onlyIn_refl _ _
    · exact onlyIn_refl _ _
  · exact onlyIn_refl _ _

theorem frame_execOptimizerSettleEnd : ∀ s t, execOptimizerSettleEnd s = .next t → onlyIn [.cf] s t := by
  intro s t h
  unfold execOptimizerSettleEnd at h
  cases h
  refine onlyIn_ite ?_ ?_
  · refine onlyIn_step (frame_updOpt _ _) rfl ?_
    exact onlyIn_refl _ _
  · exact onlyIn_refl _ _

theorem frame_execOptimizerHoldEnd : ∀ s t, execOptimizerHoldEnd s = .next t → onlyIn [.cf] s t := by
  intro s t h
  unfold execOptimizerHoldEnd at h
  cases h
  refine onlyIn_ite ?_ ?_
  · refine onlyIn_step (frame_optObserve _) rfl ?_
    exact onlyIn_refl _ _
  · exact onlyIn_refl _ _

theorem frame_execOptimizerOperatorHoldEnd : ∀ a0 s t, execOptimizerOperatorHoldEnd a0 s = .next t → onlyIn [.cf] s t := by
  intro a0 s t h
  unfold execOptimizerOperatorHoldEnd at h
  cases h
  refine onlyIn_step (frame_updOpt _ _) rfl ?_
  exact onlyIn_refl _ _

end Sys2Proof.Machine
end

