-- ==== Sys2Proof/Laws/FrameRecord.lean ====
section
/-!
SUPPORT. Laws/FrameRecord.lean: the parts of the state that the definitions of Machine/Record.lean may change.
-/

namespace Sys2Proof.Machine

open Sys2Proof.Safety

theorem frame_updFn : ∀ a0 a1 s, onlyIn [.gr] s (updFn a0 a1 s) := by
  intro a0 a1 s
  unfold updFn
  refine onlyIn_step (onlyIn_put_gr _ _) rfl ?_
  exact onlyIn_refl _ _

end Sys2Proof.Machine
end

