-- ==== Sys2Proof/Laws/FrameValve.lean ====
section
/-!
SUPPORT. Laws/FrameValve.lean: the parts of the state that the definitions of Machine/Valve.lean may change.
-/

namespace Sys2Proof.Machine

open Sys2Proof.Safety

theorem frame_vdReset : ∀ s, onlyIn [.vd, .an] s (vdReset s) := by
  intro s
  unfold vdReset
  refine onlyIn_step (onlyIn_put_vd_an _ _ _) rfl ?_
  exact onlyIn_refl _ _

theorem frame_updVd : ∀ a0 a1 s, onlyIn [.vd] s (updVd a0 a1 s) := by
  intro a0 a1 s
  unfold updVd
  refine onlyIn_step (onlyIn_put_vd _ _) rfl ?_
  exact onlyIn_refl _ _

theorem frame_applyDuty : ∀ a0 s, onlyIn [.vd] s (applyDuty a0 s) := by
  intro a0 s
  unfold applyDuty
  refine onlyIn_fold _ _ (fun st0 a1 => ?_) ?_
  · refine onlyIn_step (frame_updVd _ _ _) rfl ?_
    exact onlyIn_refl _ _
  · exact onlyIn_refl _ _

theorem frame_updPulse : ∀ a0 a1 s, onlyIn [.vd] s (updPulse a0 a1 s) := by
  intro a0 a1 s
  unfold updPulse
  refine onlyIn_step (frame_updVd _ _ _) rfl ?_
  exact onlyIn_refl _ _

theorem frame_startPull : ∀ a0 a1 s, onlyIn [.vd] s (startPull a0 a1 s) := by
  intro a0 a1 s
  unfold startPull
  refine onlyIn_ite ?_ ?_
  · exact onlyIn_refl _ _
  · refine onlyIn_fold _ _ (fun st0 a1 => ?_) ?_
    · refine onlyIn_ite ?_ ?_
      · refine onlyIn_step (frame_updPulse _ _ _) rfl ?_
        exact onlyIn_refl _ _
      · exact onlyIn_refl _ _
    · exact onlyIn_refl _ _

theorem frame_allow : ∀ a0 a1 s, onlyIn [.vd] s (allow a0 a1 s) := by
  intro a0 a1 s
  unfold allow
  refine onlyIn_step (frame_updPulse _ _ _) rfl ?_
  refine onlyIn_step (frame_updVd _ _ _) rfl ?_
  exact onlyIn_refl _ _

theorem frame_admitDeferred : ∀ a0 a1 s, onlyIn [.vd] s (admitDeferred a0 a1 s) := by
  intro a0 a1 s
  unfold admitDeferred
  extract_lets +onlyGivenNames x0
  clear_value x0
  refine onlyIn_fold _ _ (fun st1 a2 => ?_) ?_
  · refine onlyIn_ite ?_ ?_
    · refine onlyIn_step (frame_allow _ _ _) rfl ?_
      exact onlyIn_refl _ _
    · exact onlyIn_refl _ _
  · exact onlyIn_refl _ _

theorem frame_updBank : ∀ a0 a1 s, onlyIn [.vd] s (updBank a0 a1 s) := by
  intro a0 a1 s
  unfold updBank
  refine onlyIn_step (onlyIn_put_vd _ _) rfl ?_
  exact onlyIn_refl _ _

theorem frame_settleBank : ∀ a0 a1 s, onlyIn [.vd] s (settleBank a0 a1 s) := by
  intro a0 a1 s
  unfold settleBank
  extract_lets +onlyGivenNames x0
  have h1 : onlyIn [.vd] s x0 := by
    dsimp only [x0]
    refine onlyIn_step (frame_applyDuty _ _) rfl ?_
    refine onlyIn_step (frame_startPull _ _ _) rfl ?_
    refine onlyIn_step (frame_admitDeferred _ _ _) rfl ?_
    exact onlyIn_refl _ _
  clear_value x0
  extract_lets +onlyGivenNames x2
  clear_value x2
  refine onlyIn_step (frame_updBank _ _ _) rfl ?_
  exact h1

theorem frame_toRelease : ∀ a0 a1 s, onlyIn [.vd] s (toRelease a0 a1 s) := by
  intro a0 a1 s
  unfold toRelease
  extract_lets +onlyGivenNames x0
  clear_value x0
  refine onlyIn_step (frame_settleBank _ _ _) rfl ?_
  refine onlyIn_step (frame_updPulse _ _ _) rfl ?_
  refine onlyIn_step (frame_updVd _ _ _) rfl ?_
  exact onlyIn_refl _ _

theorem frame_timingErr : ∀ a0 s, onlyIn [.free] s (timingErr a0 s).2 := by
  intro a0 s
  unfold timingErr
  split
  · refine onlyIn_pair2 ?_
    exact onlyIn_refl _ _
  · refine onlyIn_pair2 ?_
    refine onlyIn_step (frame_freshNat _) rfl ?_
    exact onlyIn_refl _ _

theorem frame_reportPulse : ∀ a0 a1 s, onlyIn [.mb, .pf, .ev, .vd, .out, .free] s (reportPulse a0 a1 s) := by
  intro a0 a1 s
  unfold reportPulse
  split
  · exact onlyIn_refl _ _
  · extract_lets +onlyGivenNames x0
    have h1 : onlyIn [.mb, .pf, .ev, .vd, .out, .free] s x0.2 := by
      dsimp only [x0]
      refine onlyIn_step (frame_timingErr _ _) rfl ?_
      exact onlyIn_refl _ _
    clear_value x0
    extract_lets +onlyGivenNames x2
    have h3 : onlyIn [.mb, .pf, .ev, .vd, .out, .free] s x2.2 := by
      dsimp only [x2]
      refine onlyIn_step (frame_timingErr _ _) rfl ?_
      exact h1
    clear_value x2
    extract_lets +onlyGivenNames x4
    have h5 : onlyIn [.mb, .pf, .ev, .vd, .out, .free] s x4 := by
      dsimp only [x4]
      exact h3
    clear_value x4
    extract_lets +onlyGivenNames x6
    clear_value x6
    extract_lets +onlyGivenNames x7
    clear_value x7
    extract_lets +onlyGivenNames x8
    clear_value x8
    extract_lets +onlyGivenNames x9
    have h10 : onlyIn [.mb, .pf, .ev, .vd, .out, .free] s x9 := by
      dsimp only [x9]
      refine onlyIn_step (frame_updVd _ _ _) rfl ?_
      exact h5
    clear_value x9
    refine onlyIn_step (frame_detect _ _ _ _ _) rfl ?_
    exact h10

theorem frame_vdSafeChan : ∀ a0 s, onlyIn [.mb, .pf, .ev, .vd, .out, .free] s (vdSafeChan a0 s) := by
  intro a0 s
  unfold vdSafeChan
  extract_lets +onlyGivenNames x0
  clear_value x0
  extract_lets +onlyGivenNames x1
  clear_value x1
  refine onlyIn_ite ?_ ?_
  · exact onlyIn_refl _ _
  · refine onlyIn_ite ?_ ?_
    · extract_lets +onlyGivenNames x2
      have h3 : onlyIn [.mb, .pf, .ev, .vd, .out, .free] s x2 := by
        dsimp only [x2]
        refine onlyIn_step (frame_updVd _ _ _) rfl ?_
        exact onlyIn_refl _ _
      clear_value x2
      split
      · refine onlyIn_step (frame_toRelease _ _ _) rfl ?_
        exact h3
      · refine onlyIn_step (frame_toRelease _ _ _) rfl ?_
        exact h3
      · refine onlyIn_step (frame_toRelease _ _ _) rfl ?_
        exact h3
      · refine onlyIn_step (frame_toRelease _ _ _) rfl ?_
        exact h3
      · refine onlyIn_step (frame_updVd _ _ _) rfl ?_
        exact h3
      · refine onlyIn_step (frame_updVd _ _ _) rfl ?_
        refine onlyIn_step (frame_reportPulse _ _ _) rfl ?_
        exact h3
      · exact h3
    · extract_lets +onlyGivenNames x4
      clear_value x4
      refine onlyIn_step (frame_settleBank _ _ _) rfl ?_
      refine onlyIn_step (frame_updVd _ _ _) rfl ?_
      exact onlyIn_refl _ _

theorem frame_vdOff : ∀ a0 s, onlyIn [.mb, .pf, .ev, .vd, .out, .free] s (vdOff a0 s) := by
  intro a0 s
  unfold vdOff
  extract_lets +onlyGivenNames x0
  clear_value x0
  refine onlyIn_ite ?_ ?_
  · exact onlyIn_refl _ _
  · extract_lets +onlyGivenNames x1
    have h2 : onlyIn [.mb, .pf, .ev, .vd, .out, .free] s x1 := by
      dsimp only [x1]
      refine onlyIn_step (frame_reportPulse _ _ _) rfl ?_
      refine onlyIn_step (frame_updVd _ _ _) rfl ?_
      exact onlyIn_refl _ _
    clear_value x1
    refine onlyIn_step (frame_settleBank _ _ _) rfl ?_
    refine onlyIn_step (frame_updVd _ _ _) rfl ?_
    exact h2

theorem frame_vdStop : ∀ a0 s, onlyIn [.mb, .pf, .ev, .vd, .out, .free] s (vdStop a0 s) := by
  intro a0 s
  unfold vdStop
  refine onlyIn_fold _ _ (fun st0 a1 => ?_) ?_
  · refine onlyIn_ite ?_ ?_
    · refine onlyIn_step (frame_vdOff _ _) rfl ?_
      exact onlyIn_refl _ _
    · exact onlyIn_refl _ _
  · exact onlyIn_refl _ _

theorem frame_vdEstimates : ∀ s, onlyIn [.vd] s (vdEstimates s) := by
  intro s
  unfold vdEstimates
  refine onlyIn_fold _ _ (fun st0 a1 => ?_) ?_
  · refine onlyIn_step (frame_updVd _ _ _) rfl ?_
    exact onlyIn_refl _ _
  · exact onlyIn_refl _ _

theorem frame_vdActivate : ∀ s, onlyIn [.vd] s (vdActivate s) := by
  intro s
  unfold vdActivate
  refine onlyIn_step (frame_vdEstimates _) rfl ?_
  refine onlyIn_fold _ _ (fun st0 a1 => ?_) ?_
  · refine onlyIn_step (frame_updVd _ _ _) rfl ?_
    exact onlyIn_refl _ _
  · exact onlyIn_refl _ _

theorem frame_applyVdCommand : ∀ a0 s, onlyIn [.vd] s (applyVdCommand a0 s) := by
  intro a0 s
  unfold applyVdCommand
  extract_lets +onlyGivenNames x0
  clear_value x0
  extract_lets +onlyGivenNames x1
  clear_value x1
  extract_lets +onlyGivenNames x2
  clear_value x2
  split
  · extract_lets +onlyGivenNames x3
    clear_value x3
    refine onlyIn_step (frame_updVd _ _ _) rfl ?_
    exact onlyIn_refl _ _
  · refine onlyIn_step (frame_settleBank _ _ _) rfl ?_
    refine onlyIn_step (frame_updVd _ _ _) rfl ?_
    exact onlyIn_refl _ _
  · refine onlyIn_step (frame_settleBank _ _ _) rfl ?_
    refine onlyIn_step (frame_updVd _ _ _) rfl ?_
    exact onlyIn_refl _ _

theorem frame_vdEnable : ∀ s, onlyIn [.vd] s (vdEnable s) := by
  intro s
  unfold vdEnable
  refine onlyIn_step (onlyIn_put_vd _ _) rfl ?_
  exact onlyIn_refl _ _

theorem frame_bodyVdStatus : ∀ a0 s, onlyIn [] s (bodyVdStatus a0 s).1 := by
  intro a0 s
  unfold bodyVdStatus
  unfold emptyPayload
  try beta_reduce
  refine onlyIn_ite1 ?_ ?_
  · extract_lets +onlyGivenNames x0
    clear_value x0
    extract_lets +onlyGivenNames x1
    clear_value x1
    refine onlyIn_ans ?_
    exact onlyIn_refl _ _
  · refine onlyIn_ans ?_
    exact onlyIn_refl _ _

theorem frame_bodyVdCommandCurrent : ∀ a0 s, onlyIn [.mb] s (bodyVdCommandCurrent a0 s).1 := by
  intro a0 s
  unfold bodyVdCommandCurrent
  unfold vdCommand
  try beta_reduce
  unfold withOp
  try beta_reduce
  refine onlyIn_ite1 ?_ ?_
  · unfold timedBody
    try beta_reduce
    split
    · refine onlyIn_ans ?_
      exact onlyIn_refl _ _
    · refine onlyIn_ite1 ?_ ?_
      · refine onlyIn_ans ?_
        exact onlyIn_refl _ _
      · split
        · refine onlyIn_ans ?_
          exact onlyIn_refl _ _
        · refine onlyIn_ite1 ?_ ?_
          · refine onlyIn_ans ?_
            exact onlyIn_refl _ _
          · refine onlyIn_ite1 ?_ ?_
            · refine onlyIn_ans ?_
              exact onlyIn_refl _ _
            · extract_lets +onlyGivenNames x0
              clear_value x0
              extract_lets +onlyGivenNames x1
              have h2 : onlyIn [.mb] s x1.1 := by
                dsimp only [x1]
                unfold frameReply
                try beta_reduce
                refine onlyIn_pair1 ?_
                refine onlyIn_step (frame_handOver _ _) rfl ?_
                exact onlyIn_refl _ _
              clear_value x1
              refine onlyIn_ans ?_
              exact h2
  · refine onlyIn_ans ?_
    exact onlyIn_refl _ _

theorem frame_bodyVdCommandOff : ∀ a0 s, onlyIn [.mb] s (bodyVdCommandOff a0 s).1 := by
  intro a0 s
  unfold bodyVdCommandOff
  unfold vdCommand
  try beta_reduce
  unfold withOp
  try beta_reduce
  refine onlyIn_ite1 ?_ ?_
  · unfold timedBody
    try beta_reduce
    split
    · refine onlyIn_ans ?_
      exact onlyIn_refl _ _
    · refine onlyIn_ite1 ?_ ?_
      · refine onlyIn_ans ?_
        exact onlyIn_refl _ _
      · split
        · refine onlyIn_ans ?_
          exact onlyIn_refl _ _
        · refine onlyIn_ite1 ?_ ?_
          · refine onlyIn_ans ?_
            exact onlyIn_refl _ _
          · refine onlyIn_ite1 ?_ ?_
            · refine onlyIn_ans ?_
              exact onlyIn_refl _ _
            · extract_lets +onlyGivenNames x0
              clear_value x0
              extract_lets +onlyGivenNames x1
              have h2 : onlyIn [.mb] s x1.1 := by
                dsimp only [x1]
                unfold frameReply
                try beta_reduce
                refine onlyIn_pair1 ?_
                refine onlyIn_step (frame_handOver _ _) rfl ?_
                exact onlyIn_refl _ _
              clear_value x1
              refine onlyIn_ans ?_
              exact h2
  · refine onlyIn_ans ?_
    exact onlyIn_refl _ _

theorem frame_bodyVdCommandPulse : ∀ a0 s, onlyIn [.mb] s (bodyVdCommandPulse a0 s).1 := by
  intro a0 s
  unfold bodyVdCommandPulse
  unfold vdCommand
  try beta_reduce
  unfold withOp
  try beta_reduce
  refine onlyIn_ite1 ?_ ?_
  · unfold timedBody
    try beta_reduce
    split
    · refine onlyIn_ans ?_
      exact onlyIn_refl _ _
    · refine onlyIn_ite1 ?_ ?_
      · refine onlyIn_ans ?_
        exact onlyIn_refl _ _
      · split
        · refine onlyIn_ans ?_
          exact onlyIn_refl _ _
        · refine onlyIn_ite1 ?_ ?_
          · refine onlyIn_ans ?_
            exact onlyIn_refl _ _
          · refine onlyIn_ite1 ?_ ?_
            · refine onlyIn_ans ?_
              exact onlyIn_refl _ _
            · extract_lets +onlyGivenNames x0
              clear_value x0
              extract_lets +onlyGivenNames x1
              have h2 : onlyIn [.mb] s x1.1 := by
                dsimp only [x1]
                unfold frameReply
                try beta_reduce
                refine onlyIn_pair1 ?_
                refine onlyIn_step (frame_handOver _ _) rfl ?_
                exact onlyIn_refl _ _
              clear_value x1
              refine onlyIn_ans ?_
              exact h2
  · refine onlyIn_ans ?_
    exact onlyIn_refl _ _

theorem frame_vdDiagReply : ∀ a0 a1 s, onlyIn [] s (vdDiagReply a0 a1 s).1 := by
  intro a0 a1 s
  unfold vdDiagReply
  refine onlyIn_ans ?_
  exact onlyIn_refl _ _

theorem frame_vdToFault : ∀ a0 a1 a2 s, onlyIn [.vd] s (vdToFault a0 a1 a2 s) := by
  intro a0 a1 a2 s
  unfold vdToFault
  refine onlyIn_step (frame_updVd _ _ _) rfl ?_
  exact onlyIn_refl _ _

theorem frame_vdBankFault : ∀ a0 a1 a2 s, onlyIn [.vd] s (vdBankFault a0 a1 a2 s) := by
  intro a0 a1 a2 s
  unfold vdBankFault
  extract_lets +onlyGivenNames x0
  have h1 : onlyIn [.vd] s x0 := by
    dsimp only [x0]
    refine onlyIn_fold _ _ (fun st2 a3 => ?_) ?_
    · split
      · refine onlyIn_ite ?_ ?_
        · refine onlyIn_step (frame_vdToFault _ _ _ _) rfl ?_
          exact onlyIn_refl _ _
        · refine onlyIn_step (frame_vdToFault _ _ _ _) rfl ?_
          exact onlyIn_refl _ _
      · refine onlyIn_step (frame_vdToFault _ _ _ _) rfl ?_
        exact onlyIn_refl _ _
    · exact onlyIn_refl _ _
  clear_value x0
  refine onlyIn_step (frame_settleBank _ _ _) rfl ?_
  exact h1

theorem frame_vdFault : ∀ a0 a1 a2 s, onlyIn [.mb, .pf, .ev, .vd, .out] s (vdFault a0 a1 a2 s) := by
  intro a0 a1 a2 s
  unfold vdFault
  refine onlyIn_step (frame_settleBank _ _ _) rfl ?_
  refine onlyIn_step (frame_beginCond _ _ _ _) rfl ?_
  refine onlyIn_step (frame_vdToFault _ _ _ _) rfl ?_
  exact onlyIn_refl _ _

theorem frame_vdJudge : ∀ a0 a1 s, onlyIn [.mb, .pf, .ev, .vd, .out] s (vdJudge a0 a1 s) := by
  intro a0 a1 s
  unfold vdJudge
  split
  · exact onlyIn_refl _ _
  · refine onlyIn_step (frame_beginCond _ _ _ _) rfl ?_
    refine onlyIn_step (frame_vdBankFault _ _ _ _) rfl ?_
    exact onlyIn_refl _ _
  · refine onlyIn_step (frame_vdFault _ _ _ _) rfl ?_
    exact onlyIn_refl _ _

theorem frame_bodyVdDiagBank : ∀ a0 s, onlyIn [.mb, .pf, .ev, .vd, .out] s (bodyVdDiagBank a0 s).1 := by
  intro a0 s
  unfold bodyVdDiagBank
  unfold vdDiagRequest
  try beta_reduce
  unfold withOp
  try beta_reduce
  refine onlyIn_ite1 ?_ ?_
  · extract_lets +onlyGivenNames x0
    clear_value x0
    refine onlyIn_ite1 ?_ ?_
    · refine onlyIn_ans ?_
      exact onlyIn_refl _ _
    · refine onlyIn_ite1 ?_ ?_
      · refine onlyIn_ans ?_
        exact onlyIn_refl _ _
      · refine onlyIn_step (frame_vdDiagReply _ _ _) rfl ?_
        refine onlyIn_fold _ _ (fun st1 a2 => ?_) ?_
        · refine onlyIn_ite ?_ ?_
          · refine onlyIn_step (frame_vdJudge _ _ _) rfl ?_
            exact onlyIn_refl _ _
          · exact onlyIn_refl _ _
        · exact onlyIn_refl _ _
  · refine onlyIn_ans ?_
    exact onlyIn_refl _ _

theorem frame_bodyVdDiagChannel : ∀ a0 s, onlyIn [.mb, .pf, .ev, .vd, .out] s (bodyVdDiagChannel a0 s).1 := by
  intro a0 s
  unfold bodyVdDiagChannel
  unfold vdDiagRequest
  try beta_reduce
  unfold withOp
  try beta_reduce
  refine onlyIn_ite1 ?_ ?_
  · extract_lets +onlyGivenNames x0
    clear_value x0
    refine onlyIn_ite1 ?_ ?_
    · refine onlyIn_ans ?_
      exact onlyIn_refl _ _
    · refine onlyIn_ite1 ?_ ?_
      · refine onlyIn_ans ?_
        exact onlyIn_refl _ _
      · refine onlyIn_step (frame_vdDiagReply _ _ _) rfl ?_
        refine onlyIn_step (frame_vdJudge _ _ _) rfl ?_
        exact onlyIn_refl _ _
  · refine onlyIn_ans ?_
    exact onlyIn_refl _ _

theorem frame_releaseConverter : ∀ s, onlyIn [.mb, .pf, .ev, .vd, .out] s (releaseConverter s) := by
  intro s
  unfold releaseConverter
  refine onlyIn_ite ?_ ?_
  · refine onlyIn_step (frame_clearActive _ _ _) rfl ?_
    refine onlyIn_step (frame_vdEnable _) rfl ?_
    exact onlyIn_refl _ _
  · exact onlyIn_refl _ _

theorem frame_vdLeaveFault : ∀ a0 s, onlyIn [.mb, .pf, .ev, .vd, .out] s (vdLeaveFault a0 s) := by
  intro a0 s
  unfold vdLeaveFault
  extract_lets +onlyGivenNames x0
  clear_value x0
  extract_lets +onlyGivenNames x1
  have h2 : onlyIn [.mb, .pf, .ev, .vd, .out] s x1 := by
    dsimp only [x1]
    refine onlyIn_step (frame_rawEvent _ _ _ _) rfl ?_
    refine onlyIn_step (frame_updVd _ _ _) rfl ?_
    exact onlyIn_refl _ _
  clear_value x1
  refine onlyIn_ite ?_ ?_
  · exact h2
  · refine onlyIn_step (frame_clearActive _ _ _) rfl ?_
    exact h2

theorem frame_bodyVdDiagClear : ∀ a0 s, onlyIn [.mb, .pf, .ev, .vd, .out] s (bodyVdDiagClear a0 s).1 := by
  intro a0 s
  unfold bodyVdDiagClear
  unfold vdDiagRequest
  try beta_reduce
  unfold withOp
  try beta_reduce
  refine onlyIn_ite1 ?_ ?_
  · extract_lets +onlyGivenNames x0
    clear_value x0
    refine onlyIn_ite1 ?_ ?_
    · refine onlyIn_ans ?_
      exact onlyIn_refl _ _
    · extract_lets +onlyGivenNames x1
      have h2 : onlyIn [.mb, .pf, .ev, .vd, .out] s x1 := by
        dsimp only [x1]
        refine onlyIn_step (frame_releaseConverter _) rfl ?_
        exact onlyIn_refl _ _
      clear_value x1
      extract_lets +onlyGivenNames x3
      clear_value x3
      extract_lets +onlyGivenNames x4
      clear_value x4
      refine onlyIn_ite1 ?_ ?_
      · refine onlyIn_step (frame_vdDiagReply _ _ _) rfl ?_
        exact h2
      · refine onlyIn_ite1 ?_ ?_
        · refine onlyIn_ite1 ?_ ?_
          · refine onlyIn_step (frame_vdDiagReply _ _ _) rfl ?_
            refine onlyIn_step (frame_clearActive _ _ _) rfl ?_
            refine onlyIn_fold _ _ (fun st5 a6 => ?_) ?_
            · refine onlyIn_ite ?_ ?_
              · refine onlyIn_step (frame_vdLeaveFault _ _) rfl ?_
                exact onlyIn_refl _ _
              · exact onlyIn_refl _ _
            · exact h2
          · refine onlyIn_step (frame_vdDiagReply _ _ _) rfl ?_
            exact h2
        · refine onlyIn_ite1 ?_ ?_
          · refine onlyIn_step (frame_vdDiagReply _ _ _) rfl ?_
            refine onlyIn_step (frame_vdLeaveFault _ _) rfl ?_
            exact h2
          · refine onlyIn_step (frame_vdDiagReply _ _ _) rfl ?_
            exact h2
  · refine onlyIn_ans ?_
    exact onlyIn_refl _ _

theorem frame_bodyVdTimingRead : ∀ a0 s, onlyIn [] s (bodyVdTimingRead a0 s).1 := by
  intro a0 s
  unfold bodyVdTimingRead
  extract_lets +onlyGivenNames x0
  clear_value x0
  extract_lets +onlyGivenNames x1
  clear_value x1
  extract_lets +onlyGivenNames x2
  clear_value x2
  refine onlyIn_ite1 ?_ ?_
  · refine onlyIn_ans ?_
    exact onlyIn_refl _ _
  · extract_lets +onlyGivenNames x3
    clear_value x3
    refine onlyIn_ans ?_
    exact onlyIn_refl _ _

theorem frame_boostDone : ∀ a0 a1 s, onlyIn [.mb, .pf, .ev, .vd, .out] s (boostDone a0 a1 s) := by
  intro a0 a1 s
  unfold boostDone
  extract_lets +onlyGivenNames x0
  have h1 : onlyIn [.mb, .pf, .ev, .vd, .out] s x0 := by
    dsimp only [x0]
    refine onlyIn_step (frame_updVd _ _ _) rfl ?_
    exact onlyIn_refl _ _
  clear_value x0
  refine onlyIn_ite ?_ ?_
  · exact h1
  · extract_lets +onlyGivenNames x2
    clear_value x2
    extract_lets +onlyGivenNames x3
    clear_value x3
    refine onlyIn_step (frame_detect _ _ _ _ _) rfl ?_
    refine onlyIn_step (onlyIn_put_vd _ _) rfl ?_
    exact h1

theorem frame_cutPulse : ∀ a0 a1 s, onlyIn [.mb, .pf, .ev, .vd, .out, .free] s (cutPulse a0 a1 s) := by
  intro a0 a1 s
  unfold cutPulse
  refine onlyIn_ite ?_ ?_
  · refine onlyIn_step (frame_reportPulse _ _ _) rfl ?_
    refine onlyIn_step (frame_updPulse _ _ _) rfl ?_
    refine onlyIn_step (frame_updVd _ _ _) rfl ?_
    exact onlyIn_refl _ _
  · exact onlyIn_refl _ _

theorem frame_startPulse : ∀ a0 a1 a2 a3 s, onlyIn [.mb, .pf, .ev, .vd, .out] s (startPulse a0 a1 a2 a3 s) := by
  intro a0 a1 a2 a3 s
  unfold startPulse
  extract_lets +onlyGivenNames x0
  clear_value x0
  extract_lets +onlyGivenNames x1
  dsimp only [x1]
  clear x1
  refine onlyIn_ite ?_ ?_
  · refine onlyIn_step (frame_beginCond _ _ _ _) rfl ?_
    refine onlyIn_step (frame_updVd _ _ _) rfl ?_
    refine onlyIn_step (frame_updVd _ _ _) rfl ?_
    exact onlyIn_refl _ _
  · refine onlyIn_ite ?_ ?_
    · refine onlyIn_step (frame_happen _ _ _ _) rfl ?_
      refine onlyIn_step (frame_updVd _ _ _) rfl ?_
      refine onlyIn_step (frame_updVd _ _ _) rfl ?_
      exact onlyIn_refl _ _
    · refine onlyIn_ite ?_ ?_
      · refine onlyIn_step (frame_updVd _ _ _) rfl ?_
        refine onlyIn_step (frame_updVd _ _ _) rfl ?_
        exact onlyIn_refl _ _
      · refine onlyIn_ite ?_ ?_
        · refine onlyIn_step (frame_updVd _ _ _) rfl ?_
          exact onlyIn_refl _ _
        · refine onlyIn_step (frame_updVd _ _ _) rfl ?_
          exact onlyIn_refl _ _

theorem frame_boostStart : ∀ a0 a1 s, onlyIn [.mb, .pf, .ev, .vd, .out, .free] s (boostStart a0 a1 s) := by
  intro a0 a1 s
  unfold boostStart
  split
  · exact onlyIn_refl _ _
  · refine onlyIn_ite ?_ ?_
    · extract_lets +onlyGivenNames x0
      have h1 : onlyIn [.mb, .pf, .ev, .vd, .out, .free] s x0 := by
        dsimp only [x0]
        split
        · refine onlyIn_ite ?_ ?_
          · refine onlyIn_step (frame_updVd _ _ _) rfl ?_
            refine onlyIn_step (frame_settleBank _ _ _) rfl ?_
            refine onlyIn_step (frame_cutPulse _ _ _) rfl ?_
            exact onlyIn_refl _ _
          · exact onlyIn_refl _ _
        · exact onlyIn_refl _ _
      clear_value x0
      extract_lets +onlyGivenNames x2
      clear_value x2
      extract_lets +onlyGivenNames x3
      have h4 : onlyIn [.mb, .pf, .ev, .vd, .out, .free] s x3 := by
        dsimp only [x3]
        refine onlyIn_step (frame_updVd _ _ _) rfl ?_
        refine onlyIn_step (frame_cutPulse _ _ _) rfl ?_
        exact h1
      clear_value x3
      refine onlyIn_step (frame_settleBank _ _ _) rfl ?_
      refine onlyIn_step (frame_startPulse _ _ _ _ _) rfl ?_
      exact h4
    · exact onlyIn_refl _ _

theorem frame_vdSafe : ∀ s, onlyIn [.mb, .pf, .ev, .vd, .out, .free] s (vdSafe s) := by
  intro s
  unfold vdSafe
  refine onlyIn_fold _ _ (fun st0 a1 => ?_) ?_
  · refine onlyIn_step (frame_vdSafeChan _ _) rfl ?_
    exact onlyIn_refl _ _
  · exact onlyIn_refl _ _

theorem frame_setDuty : ∀ a0 a1 s, onlyIn [.vd] s (setDuty a0 a1 s) := by
  intro a0 a1 s
  unfold setDuty
  refine onlyIn_step (frame_updVd _ _ _) rfl ?_
  exact onlyIn_refl _ _

theorem frame_pairDuty : ∀ a0 a1 s, onlyIn [.vd] s (pairDuty a0 a1 s) := by
  intro a0 a1 s
  unfold pairDuty
  extract_lets +onlyGivenNames x0
  clear_value x0
  extract_lets +onlyGivenNames x1
  clear_value x1
  extract_lets +onlyGivenNames x2
  clear_value x2
  extract_lets +onlyGivenNames x3
  clear_value x3
  extract_lets +onlyGivenNames x4
  have h5 : onlyIn [.vd] s x4 := by
    dsimp only [x4]
    refine onlyIn_ite ?_ ?_
    · refine onlyIn_ite ?_ ?_
      · refine onlyIn_step (frame_setDuty _ _ _) rfl ?_
        split
        · refine onlyIn_step (frame_setDuty _ _ _) rfl ?_
          exact onlyIn_refl _ _
        · exact onlyIn_refl _ _
      · refine onlyIn_step (frame_setDuty _ _ _) rfl ?_
        split
        · refine onlyIn_step (frame_setDuty _ _ _) rfl ?_
          exact onlyIn_refl _ _
        · exact onlyIn_refl _ _
    · refine onlyIn_ite ?_ ?_
      · split
        · refine onlyIn_ite ?_ ?_
          · refine onlyIn_step (frame_setDuty _ _ _) rfl ?_
            refine onlyIn_step (frame_setDuty _ _ _) rfl ?_
            exact onlyIn_refl _ _
          · refine onlyIn_step (frame_setDuty _ _ _) rfl ?_
            refine onlyIn_step (frame_setDuty _ _ _) rfl ?_
            exact onlyIn_refl _ _
        · refine onlyIn_step (frame_setDuty _ _ _) rfl ?_
          exact onlyIn_refl _ _
      · refine onlyIn_step (frame_setDuty _ _ _) rfl ?_
        split
        · refine onlyIn_step (frame_setDuty _ _ _) rfl ?_
          exact onlyIn_refl _ _
        · exact onlyIn_refl _ _
  clear_value x4
  extract_lets +onlyGivenNames x6
  have h7 : onlyIn [.vd] s x6 := by
    dsimp only [x6]
    refine onlyIn_step (frame_settleBank _ _ _) rfl ?_
    exact h5
  clear_value x6
  split
  · refine onlyIn_step (frame_settleBank _ _ _) rfl ?_
    exact h7
  · exact h7

theorem frame_dutyFn : ∀ a0 a1 s, onlyIn [.vd] s (dutyFn a0 a1 s) := by
  intro a0 a1 s
  unfold dutyFn
  extract_lets +onlyGivenNames x0
  clear_value x0
  refine onlyIn_ite ?_ ?_
  · refine onlyIn_step (frame_pairDuty _ _ _) rfl ?_
    exact onlyIn_refl _ _
  · refine onlyIn_step (frame_pairDuty _ _ _) rfl ?_
    exact onlyIn_refl _ _

theorem frame_earlyPeak : ∀ a0 a1 a2 s, onlyIn [.mb, .pf, .ev, .vd, .out] s (earlyPeak a0 a1 a2 s) := by
  intro a0 a1 a2 s
  unfold earlyPeak
  extract_lets +onlyGivenNames x0
  clear_value x0
  extract_lets +onlyGivenNames x1
  have h2 : onlyIn [.mb, .pf, .ev, .vd, .out] s x1 := by
    dsimp only [x1]
    refine onlyIn_step (frame_updVd _ _ _) rfl ?_
    exact onlyIn_refl _ _
  clear_value x1
  extract_lets +onlyGivenNames x3
  have h4 : onlyIn [.mb, .pf, .ev, .vd, .out] s x3 := by
    dsimp only [x3]
    refine onlyIn_ite ?_ ?_
    · refine onlyIn_step (frame_happen _ _ _ _) rfl ?_
      exact h2
    · exact h2
  clear_value x3
  refine onlyIn_ite ?_ ?_
  · refine onlyIn_step (frame_vdFault _ _ _ _) rfl ?_
    exact h4
  · exact h4

theorem frame_vdFrame : ∀ s, onlyIn [.mb, .pf, .ev, .vd, .out] s (vdFrame s) := by
  intro s
  unfold vdFrame
  refine onlyIn_fold _ _ (fun st0 a1 => ?_) ?_
  · extract_lets +onlyGivenNames x2
    have h3 : onlyIn [.mb, .pf, .ev, .vd, .out] st0 x2 := by
      dsimp only [x2]
      refine onlyIn_step (frame_updVd _ _ _) rfl ?_
      exact onlyIn_refl _ _
    clear_value x2
    refine onlyIn_ite ?_ ?_
    · refine onlyIn_step (frame_clearActive _ _ _) rfl ?_
      refine onlyIn_step (frame_updVd _ _ _) rfl ?_
      exact h3
    · exact h3
  · exact onlyIn_refl _ _

theorem frame_setCoils : ∀ a0 s, onlyIn [.vd] s (setCoils a0 s) := by
  intro a0 s
  unfold setCoils
  refine onlyIn_step (onlyIn_put_vd _ _) rfl ?_
  exact onlyIn_refl _ _

theorem frame_fireWord : ∀ a0 a1 a2 s, onlyIn [.vd] s (fireWord a0 a1 a2 s) := by
  intro a0 a1 a2 s
  unfold fireWord
  extract_lets +onlyGivenNames x0
  clear_value x0
  refine onlyIn_ite ?_ ?_
  · exact onlyIn_refl _ _
  · refine onlyIn_ite ?_ ?_
    · refine onlyIn_step (frame_updVd _ _ _) rfl ?_
      exact onlyIn_refl _ _
    · extract_lets +onlyGivenNames x1
      clear_value x1
      refine onlyIn_step (frame_updVd _ _ _) rfl ?_
      exact onlyIn_refl _ _

theorem frame_trainTick : ∀ a0 s, onlyIn [.vd] s (trainTick a0 s) := by
  intro a0 s
  unfold trainTick
  refine onlyIn_fold _ _ (fun st0 a1 => ?_) ?_
  · split
    · exact onlyIn_refl _ _
    · refine onlyIn_ite ?_ ?_
      · refine onlyIn_step (frame_updVd _ _ _) rfl ?_
        refine onlyIn_step (frame_fireWord _ _ _ _) rfl ?_
        exact onlyIn_refl _ _
      · exact onlyIn_refl _ _
  · exact onlyIn_refl _ _

theorem frame_fireFn : ∀ a0 a1 a2 s, onlyIn [.gr, .vd] s (fireFn a0 a1 a2 s) := by
  intro a0 a1 a2 s
  unfold fireFn
  extract_lets +onlyGivenNames f ch set
  have hs : ∀ x st, onlyIn [.gr, .vd] st (set x st) := fun x st => onlyIn_step (onlyIn_put_gr _ _) rfl (onlyIn_refl _ _)
  clear_value set
  refine onlyIn_ite (hs _ _) ?_
  refine onlyIn_ite (onlyIn_step (frame_fireWord _ _ _ _) rfl (hs _ _)) ?_
  refine onlyIn_ite ?_ (hs _ _)
  split
  · exact onlyIn_step (frame_fireWord _ _ _ _) rfl (hs _ _)
  · exact hs _ _

theorem frame_execBoostStartInstant : ∀ a0 a1 s t, execBoostStartInstant a0 a1 s = .next t → onlyIn [.mb, .pf, .ev, .vd, .out, .free] s t := by
  intro a0 a1 s t h
  unfold execBoostStartInstant at h
  cases h
  refine onlyIn_step (frame_boostStart _ _ _) rfl ?_
  exact onlyIn_refl _ _

theorem frame_toPeak : ∀ a0 a1 s, onlyIn [.vd] s (toPeak a0 a1 s) := by
  intro a0 a1 s
  unfold toPeak
  refine onlyIn_step (frame_settleBank _ _ _) rfl ?_
  refine onlyIn_step (frame_updPulse _ _ _) rfl ?_
  refine onlyIn_step (frame_updVd _ _ _) rfl ?_
  exact onlyIn_refl _ _

theorem frame_execPeakReached : ∀ a0 a1 a2 s t, execPeakReached a0 a1 a2 s = .next t → onlyIn [.mb, .pf, .ev, .vd, .out] s t := by
  intro a0 a1 a2 s t h
  unfold execPeakReached at h
  extract_lets +onlyGivenNames x0 at h
  clear_value x0
  cases h
  split
  · exact onlyIn_refl _ _
  · refine onlyIn_ite ?_ ?_
    · split
      · extract_lets +onlyGivenNames x1
        clear_value x1
        refine onlyIn_step (frame_earlyPeak _ _ _ _) rfl ?_
        refine onlyIn_step (frame_boostDone _ _ _) rfl ?_
        refine onlyIn_step (frame_toPeak _ _ _) rfl ?_
        exact onlyIn_refl _ _
      · refine onlyIn_ite ?_ ?_
        · refine onlyIn_step (frame_toPeak _ _ _) rfl ?_
          exact onlyIn_refl _ _
        · exact onlyIn_refl _ _
      · exact onlyIn_refl _ _
    · exact onlyIn_refl _ _

theorem frame_execBoostTimeout : ∀ a0 a1 a2 s t, execBoostTimeout a0 a1 a2 s = .next t → onlyIn [.mb, .pf, .ev, .vd, .out] s t := by
  intro a0 a1 a2 s t h
  unfold execBoostTimeout at h
  extract_lets +onlyGivenNames x0 at h
  clear_value x0
  extract_lets +onlyGivenNames x1 at h
  clear_value x1
  cases h
  split
  · exact onlyIn_refl _ _
  · split
    · refine onlyIn_ite ?_ ?_
      · refine onlyIn_ite ?_ ?_
        · refine onlyIn_step (frame_happen _ _ _ _) rfl ?_
          refine onlyIn_step (frame_updPulse _ _ _) rfl ?_
          refine onlyIn_step (frame_boostDone _ _ _) rfl ?_
          refine onlyIn_step (frame_toPeak _ _ _) rfl ?_
          exact onlyIn_refl _ _
        · refine onlyIn_step (frame_vdFault _ _ _ _) rfl ?_
          refine onlyIn_step (frame_boostDone _ _ _) rfl ?_
          exact onlyIn_refl _ _
      · exact onlyIn_refl _ _
    · split
      · refine onlyIn_ite ?_ ?_
        · refine onlyIn_ite ?_ ?_
          · refine onlyIn_step (frame_updPulse _ _ _) rfl ?_
            refine onlyIn_step (frame_toPeak _ _ _) rfl ?_
            exact onlyIn_refl _ _
          · refine onlyIn_step (frame_vdFault _ _ _ _) rfl ?_
            exact onlyIn_refl _ _
        · exact onlyIn_refl _ _
      · exact onlyIn_refl _ _
    · exact onlyIn_refl _ _

theorem frame_execDeferTimeout : ∀ a0 a1 s t, execDeferTimeout a0 a1 s = .next t → onlyIn [.mb, .pf, .ev, .vd, .out] s t := by
  intro a0 a1 s t h
  unfold execDeferTimeout at h
  extract_lets +onlyGivenNames x0 at h
  clear_value x0
  cases h
  split
  · exact onlyIn_refl _ _
  · refine onlyIn_ite ?_ ?_
    · refine onlyIn_step (frame_settleBank _ _ _) rfl ?_
      refine onlyIn_step (frame_happen _ _ _ _) rfl ?_
      refine onlyIn_step (frame_updPulse _ _ _) rfl ?_
      refine onlyIn_step (frame_updVd _ _ _) rfl ?_
      exact onlyIn_refl _ _
    · exact onlyIn_refl _ _

theorem frame_execPeakEnd : ∀ a0 a1 a2 s t, execPeakEnd a0 a1 a2 s = .next t → onlyIn [.vd] s t := by
  intro a0 a1 a2 s t h
  unfold execPeakEnd at h
  extract_lets +onlyGivenNames x0 at h
  clear_value x0
  cases h
  split
  · exact onlyIn_refl _ _
  · refine onlyIn_ite ?_ ?_
    · extract_lets +onlyGivenNames x1
      have h2 : onlyIn [.vd] s x1 := by
        dsimp only [x1]
        refine onlyIn_step (frame_updPulse _ _ _) rfl ?_
        exact onlyIn_refl _ _
      clear_value x1
      refine onlyIn_ite ?_ ?_
      · refine onlyIn_step (frame_toRelease _ _ _) rfl ?_
        exact h2
      · refine onlyIn_step (frame_settleBank _ _ _) rfl ?_
        refine onlyIn_step (frame_updVd _ _ _) rfl ?_
        exact h2
    · exact onlyIn_refl _ _

theorem frame_execReleaseInstant : ∀ a0 a1 s t, execReleaseInstant a0 a1 s = .next t → onlyIn [.vd] s t := by
  intro a0 a1 s t h
  unfold execReleaseInstant at h
  extract_lets +onlyGivenNames x0 at h
  clear_value x0
  cases h
  split
  · exact onlyIn_refl _ _
  · refine onlyIn_ite ?_ ?_
    · refine onlyIn_step (frame_toRelease _ _ _) rfl ?_
      exact onlyIn_refl _ _
    · exact onlyIn_refl _ _

theorem frame_execReleaseEnd : ∀ a0 a1 a2 s t, execReleaseEnd a0 a1 a2 s = .next t → onlyIn [.vd] s t := by
  intro a0 a1 a2 s t h
  unfold execReleaseEnd at h
  cases h
  refine onlyIn_ite ?_ ?_
  · refine onlyIn_step (frame_updVd _ _ _) rfl ?_
    exact onlyIn_refl _ _
  · exact onlyIn_refl _ _

theorem frame_execObserveEnd : ∀ a0 a1 a2 s t, execObserveEnd a0 a1 a2 s = .next t → onlyIn [.mb, .pf, .ev, .vd, .out, .free] s t := by
  intro a0 a1 a2 s t h
  unfold execObserveEnd at h
  extract_lets +onlyGivenNames x0 at h
  clear_value x0
  cases h
  split
  · exact onlyIn_refl _ _
  · extract_lets +onlyGivenNames x1
    clear_value x1
    refine onlyIn_ite ?_ ?_
    · refine onlyIn_step (frame_updVd _ _ _) rfl ?_
      refine onlyIn_step (frame_reportPulse _ _ _) rfl ?_
      exact onlyIn_refl _ _
    · exact onlyIn_refl _ _

theorem frame_execValveFaultDetect : ∀ a0 a1 a2 s t, execValveFaultDetect a0 a1 a2 s = .next t → onlyIn [.mb, .pf, .ev, .vd, .out] s t := by
  intro a0 a1 a2 s t h
  unfold execValveFaultDetect at h
  extract_lets +onlyGivenNames x0 at h
  clear_value x0
  extract_lets +onlyGivenNames x1 at h
  clear_value x1
  extract_lets +onlyGivenNames x2 at h
  clear_value x2
  cases h
  split
  · refine onlyIn_ite ?_ ?_
    · refine onlyIn_step (frame_beginCond _ _ _ _) rfl ?_
      refine onlyIn_step (frame_vdBankFault _ _ _ _) rfl ?_
      exact onlyIn_refl _ _
    · exact onlyIn_refl _ _
  · refine onlyIn_ite ?_ ?_
    · refine onlyIn_step (frame_vdFault _ _ _ _) rfl ?_
      exact onlyIn_refl _ _
    · exact onlyIn_refl _ _
  · refine onlyIn_ite ?_ ?_
    · refine onlyIn_step (frame_beginCond _ _ _ _) rfl ?_
      refine onlyIn_step (frame_vdBankFault _ _ _ _) rfl ?_
      exact onlyIn_refl _ _
    · exact onlyIn_refl _ _
  · refine onlyIn_ite ?_ ?_
    · exact onlyIn_refl _ _
    · extract_lets +onlyGivenNames x3
      clear_value x3
      refine onlyIn_step (frame_detect _ _ _ _ _) rfl ?_
      refine onlyIn_step (frame_updBank _ _ _) rfl ?_
      exact onlyIn_refl _ _
  · refine onlyIn_step (frame_vdFault _ _ _ _) rfl ?_
    exact onlyIn_refl _ _
  · extract_lets +onlyGivenNames x4
    clear_value x4
    extract_lets +onlyGivenNames x5
    clear_value x5
    refine onlyIn_ite ?_ ?_
    · refine onlyIn_step (frame_detect _ _ _ _ _) rfl ?_
      exact onlyIn_refl _ _
    · exact onlyIn_refl _ _

theorem frame_execVdOffstateDiag : ∀ a0 a1 a2 s t, execVdOffstateDiag a0 a1 a2 s = .next t → onlyIn [.mb, .pf, .ev, .vd, .out] s t := by
  intro a0 a1 a2 s t h
  unfold execVdOffstateDiag at h
  extract_lets +onlyGivenNames x0 at h
  clear_value x0
  extract_lets +onlyGivenNames x1 at h
  clear_value x1
  extract_lets +onlyGivenNames x2 at h
  have h3 : onlyIn [.mb, .pf, .ev, .vd, .out] s x2 := by
    dsimp only [x2]
    refine onlyIn_step (frame_updVd _ _ _) rfl ?_
    exact onlyIn_refl _ _
  clear_value x2
  cases h
  refine onlyIn_ite ?_ ?_
  · extract_lets +onlyGivenNames x4
    clear_value x4
    refine onlyIn_step (frame_vdJudge _ _ _) rfl ?_
    refine onlyIn_step (frame_detect _ _ _ _ _) rfl ?_
    refine onlyIn_step (frame_updBank _ _ _) rfl ?_
    exact h3
  · exact h3

theorem frame_execBoostRailThreshold : ∀ a0 s t, execBoostRailThreshold a0 s = .next t → onlyIn [.vd, .an] s t := by
  intro a0 s t h
  unfold execBoostRailThreshold at h
  extract_lets +onlyGivenNames x0 at h
  clear_value x0
  extract_lets +onlyGivenNames x1 at h
  clear_value x1
  extract_lets +onlyGivenNames x2 at h
  have h3 : onlyIn [.vd, .an] s x2 := by
    dsimp only [x2]
    refine onlyIn_step (onlyIn_put_vd_an _ _ _) rfl ?_
    exact onlyIn_refl _ _
  clear_value x2
  cases h
  refine onlyIn_ite ?_ ?_
  · refine onlyIn_step (onlyIn_put_vd _ _) rfl ?_
    exact h3
  · exact h3

theorem frame_execBoostOvervoltage : ∀ a0 a1 s t, execBoostOvervoltage a0 a1 s = .next t → onlyIn [.mb, .pf, .ev, .vd, .an, .out] s t := by
  intro a0 a1 s t h
  unfold execBoostOvervoltage at h
  cases h
  refine onlyIn_ite ?_ ?_
  · refine onlyIn_step (frame_beginCond _ _ _ _) rfl ?_
    refine onlyIn_step (onlyIn_put_vd_an _ _ _) rfl ?_
    exact onlyIn_refl _ _
  · exact onlyIn_refl _ _

theorem frame_execBoostRailLow : ∀ a0 a1 s t, execBoostRailLow a0 a1 s = .next t → onlyIn [.mb, .pf, .ev, .an, .out] s t := by
  intro a0 a1 s t h
  unfold execBoostRailLow at h
  extract_lets +onlyGivenNames x0 at h
  clear_value x0
  extract_lets +onlyGivenNames x1 at h
  clear_value x1
  extract_lets +onlyGivenNames x2 at h
  have h3 : onlyIn [.mb, .pf, .ev, .an, .out] s x2 := by
    dsimp only [x2]
    refine onlyIn_step (onlyIn_put_an _ _) rfl ?_
    exact onlyIn_refl _ _
  clear_value x2
  cases h
  refine onlyIn_ite ?_ ?_
  · refine onlyIn_ite ?_ ?_
    · refine onlyIn_step (frame_beginCond _ _ _ _) rfl ?_
      exact h3
    · exact h3
  · refine onlyIn_step (frame_detect _ _ _ _ _) rfl ?_
    exact h3

theorem frame_execBoostConverterSlow : ∀ a0 s t, execBoostConverterSlow a0 s = .next t → onlyIn [.mb, .pf, .ev, .out] s t := by
  intro a0 s t h
  unfold execBoostConverterSlow at h
  extract_lets +onlyGivenNames x0 at h
  clear_value x0
  cases h
  refine onlyIn_ite ?_ ?_
  · refine onlyIn_step (frame_detect _ _ _ _ _) rfl ?_
    exact onlyIn_refl _ _
  · exact onlyIn_refl _ _

theorem frame_execHoldDutyWindowStep : ∀ s t, execHoldDutyWindowStep s = .next t → onlyIn [.mb, .pf, .ev, .vd, .out] s t := by
  intro s t h
  unfold execHoldDutyWindowStep at h
  cases h
  refine onlyIn_ite ?_ ?_
  · refine onlyIn_fold _ _ (fun st0 a1 => ?_) ?_
    · extract_lets +onlyGivenNames x2
      have h3 : onlyIn [.mb, .pf, .ev, .vd, .out] st0 x2 := by
        dsimp only [x2]
        refine onlyIn_step (frame_updVd _ _ _) rfl ?_
        exact onlyIn_refl _ _
      clear_value x2
      extract_lets +onlyGivenNames x4
      clear_value x4
      extract_lets +onlyGivenNames x5
      clear_value x5
      refine onlyIn_ite ?_ ?_
      · refine onlyIn_step (frame_beginCond _ _ _ _) rfl ?_
        refine onlyIn_step (frame_updVd _ _ _) rfl ?_
        exact h3
      · refine onlyIn_ite ?_ ?_
        · refine onlyIn_ite ?_ ?_
          · refine onlyIn_step (frame_clearActive _ _ _) rfl ?_
            refine onlyIn_step (frame_updVd _ _ _) rfl ?_
            exact h3
          · exact h3
        · exact h3
    · exact onlyIn_refl _ _
  · exact onlyIn_refl _ _

theorem frame_execLowSideThermalHysteresis : ∀ a0 a1 s t, execLowSideThermalHysteresis a0 a1 s = .next t → onlyIn [.mb, .pf, .ev, .vd, .out] s t := by
  intro a0 a1 s t h
  unfold execLowSideThermalHysteresis at h
  cases h
  refine onlyIn_ite ?_ ?_
  · refine onlyIn_step (frame_vdLeaveFault _ _) rfl ?_
    exact onlyIn_refl _ _
  · exact onlyIn_refl _ _

end Sys2Proof.Machine
end

