-- ==== Sys2Proof/Laws/FrameLanes.lean ====
section
/-!
SUPPORT. Laws/FrameLanes.lean: the parts of the state that the definitions of Machine/Lanes.lean may change.
-/

namespace Sys2Proof.Machine

open Sys2Proof.Safety

theorem frame_driveSafe : ∀ a0 s, onlyIn [.mb, .pf, .ev, .vd, .ls, .out, .free] s (driveSafe a0 s) := by
  intro a0 s
  unfold driveSafe
  extract_lets +onlyGivenNames x0
  clear_value x0
  split
  · split
    · refine onlyIn_step (frame_vdSafeChan _ _) rfl ?_
      refine onlyIn_step (frame_vdSafeChan _ _) rfl ?_
      exact onlyIn_refl _ _
    · refine onlyIn_step (frame_vdSafeChan _ _) rfl ?_
      exact onlyIn_refl _ _
  · split
    · refine onlyIn_step (frame_vdSafeChan _ _) rfl ?_
      refine onlyIn_step (frame_vdSafeChan _ _) rfl ?_
      exact onlyIn_refl _ _
    · refine onlyIn_step (frame_vdSafeChan _ _) rfl ?_
      exact onlyIn_refl _ _
  · refine onlyIn_step (frame_lsSafeChan _ _) rfl ?_
    exact onlyIn_refl _ _
  · refine onlyIn_step (frame_lsSafeChan _ _) rfl ?_
    exact onlyIn_refl _ _
  · exact onlyIn_refl _ _

theorem frame_updGr : ∀ a0 s, onlyIn [.gr] s (updGr a0 s) := by
  intro a0 s
  unfold updGr
  refine onlyIn_step (onlyIn_put_gr _ _) rfl ?_
  exact onlyIn_refl _ _

theorem frame_steerOff : ∀ a0 s, onlyIn [.gr, .gn] s (steerOff a0 s) := by
  intro a0 s
  unfold steerOff
  refine onlyIn_step (frame_updFn _ _ _) rfl ?_
  refine onlyIn_step (onlyIn_put_gn _ _) rfl ?_
  exact onlyIn_refl _ _

theorem frame_fnToSafe : ∀ a0 s, onlyIn [.mb, .pf, .ev, .gr, .cf, .vd, .ls, .out, .free] s (fnToSafe a0 s) := by
  intro a0 s
  unfold fnToSafe
  refine onlyIn_step (frame_optStop _ _) rfl ?_
  refine onlyIn_step (frame_driveSafe _ _) rfl ?_
  refine onlyIn_step (frame_updFn _ _ _) rfl ?_
  exact onlyIn_refl _ _

theorem frame_updLane : ∀ a0 a1 s, onlyIn [.gr] s (updLane a0 a1 s) := by
  intro a0 a1 s
  unfold updLane
  refine onlyIn_step (frame_updGr _ _) rfl ?_
  exact onlyIn_refl _ _

theorem frame_holdOut : ∀ a0 s, onlyIn [.mb, .pf, .ev, .gr, .out] s (holdOut a0 s) := by
  intro a0 s
  unfold holdOut
  refine onlyIn_step (frame_beginCond _ _ _ _) rfl ?_
  refine onlyIn_step (frame_updLane _ _ _) rfl ?_
  exact onlyIn_refl _ _

theorem frame_judgeExclusions : ∀ a0 s, onlyIn [.mb, .pf, .ev, .gr, .out] s (judgeExclusions a0 s) := by
  intro a0 s
  unfold judgeExclusions
  refine onlyIn_ite ?_ ?_
  · refine onlyIn_step (frame_holdOut _ _) rfl ?_
    exact onlyIn_refl _ _
  · exact onlyIn_refl _ _

theorem frame_exclude : ∀ a0 a1 s, onlyIn [.mb, .pf, .ev, .gr, .out] s (exclude a0 a1 s) := by
  intro a0 a1 s
  unfold exclude
  refine onlyIn_step (frame_judgeExclusions _ _) rfl ?_
  refine onlyIn_step (frame_updGr _ _) rfl ?_
  refine onlyIn_step (frame_updLane _ _ _) rfl ?_
  exact onlyIn_refl _ _

theorem frame_laneReset : ∀ a0 s, onlyIn [.mb, .pf, .ev, .gr, .out] s (laneReset a0 s) := by
  intro a0 s
  unfold laneReset
  refine onlyIn_ite ?_ ?_
  · refine onlyIn_step (frame_exclude _ _ _) rfl ?_
    exact onlyIn_refl _ _
  · exact onlyIn_refl _ _

theorem frame_bodyLaneStatus : ∀ a0 s, onlyIn [] s (bodyLaneStatus a0 s).1 := by
  intro a0 s
  unfold bodyLaneStatus
  unfold emptyPayload
  try beta_reduce
  refine onlyIn_ite1 ?_ ?_
  · refine onlyIn_ans ?_
    exact onlyIn_refl _ _
  · refine onlyIn_ans ?_
    exact onlyIn_refl _ _

theorem frame_endReplay : ∀ a0 s, onlyIn [.gr] s (endReplay a0 s) := by
  intro a0 s
  unfold endReplay
  refine onlyIn_ite ?_ ?_
  · refine onlyIn_step (frame_updGr _ _) rfl ?_
    exact onlyIn_refl _ _
  · exact onlyIn_refl _ _

theorem frame_transferFails : ∀ a0 s, onlyIn [.mb, .pf, .ev, .gr, .out] s (transferFails a0 s) := by
  intro a0 s
  unfold transferFails
  refine onlyIn_step (frame_happen _ _ _ _) rfl ?_
  refine onlyIn_step (frame_updLane _ _ _) rfl ?_
  exact onlyIn_refl _ _

theorem frame_safeEntry : ∀ s, onlyIn [.mb, .pf, .ev, .gr, .cf, .vd, .ls, .gn, .out, .free] s (safeEntry s) := by
  intro s
  unfold safeEntry
  refine onlyIn_ite ?_ ?_
  · exact onlyIn_refl _ _
  · extract_lets +onlyGivenNames x0
    have h1 : onlyIn [.mb, .pf, .ev, .gr, .cf, .vd, .ls, .gn, .out, .free] s x0 := by
      dsimp only [x0]
      refine onlyIn_step (frame_beginCond _ _ _ _) rfl ?_
      refine onlyIn_step (frame_updGr _ _) rfl ?_
      refine onlyIn_step (frame_endReplay _ _) rfl ?_
      exact onlyIn_refl _ _
    clear_value x0
    extract_lets +onlyGivenNames x2
    have h3 : onlyIn [.mb, .pf, .ev, .gr, .cf, .vd, .ls, .gn, .out, .free] s x2 := by
      dsimp only [x2]
      refine onlyIn_fold _ _ (fun st4 a5 => ?_) ?_
      · refine onlyIn_step (frame_updFn _ _ _) rfl ?_
        exact onlyIn_refl _ _
      · exact h1
    clear_value x2
    extract_lets +onlyGivenNames x6
    have h7 : onlyIn [.mb, .pf, .ev, .gr, .cf, .vd, .ls, .gn, .out, .free] s x6 := by
      dsimp only [x6]
      refine onlyIn_step (frame_optStop _ _) rfl ?_
      refine onlyIn_step (frame_lsSafe _) rfl ?_
      refine onlyIn_step (frame_vdSafe _) rfl ?_
      refine onlyIn_ite ?_ ?_
      · exact h3
      · refine onlyIn_step (frame_steerOff _ _) rfl ?_
        exact h3
    clear_value x6
    refine onlyIn_fold _ _ (fun st8 a9 => ?_) ?_
    · refine onlyIn_ite ?_ ?_
      · refine onlyIn_step (frame_transferFails _ _) rfl ?_
        exact onlyIn_refl _ _
      · exact onlyIn_refl _ _
    · exact h7

theorem frame_laneFault : ∀ a0 a1 a2 s, onlyIn [.mb, .pf, .ev, .gr, .cf, .vd, .ls, .gn, .out, .free] s (laneFault a0 a1 a2 s) := by
  intro a0 a1 a2 s
  unfold laneFault
  refine onlyIn_ite ?_ ?_
  · extract_lets +onlyGivenNames x0
    have h1 : onlyIn [.mb, .pf, .ev, .gr, .cf, .vd, .ls, .gn, .out, .free] s x0 := by
      dsimp only [x0]
      refine onlyIn_step (frame_happen _ _ _ _) rfl ?_
      refine onlyIn_step (frame_endReplay _ _) rfl ?_
      exact onlyIn_refl _ _
    clear_value x0
    refine onlyIn_ite ?_ ?_
    · refine onlyIn_step (frame_exclude _ _ _) rfl ?_
      exact h1
    · refine onlyIn_step (frame_safeEntry _) rfl ?_
      exact h1
  · exact onlyIn_refl _ _

theorem frame_crcCheck : ∀ a0 s, onlyIn [.mb, .pf, .ev, .gr, .cf, .vd, .ls, .gn, .out, .free] s (crcCheck a0 s) := by
  intro a0 s
  unfold crcCheck
  refine onlyIn_fold _ _ (fun st0 a1 => ?_) ?_
  · refine onlyIn_ite ?_ ?_
    · refine onlyIn_step (frame_laneFault _ _ _ _) rfl ?_
      exact onlyIn_refl _ _
    · exact onlyIn_refl _ _
  · exact onlyIn_refl _ _

theorem frame_lanesRelease : ∀ s, onlyIn [.gr] s (lanesRelease s) := by
  intro s
  unfold lanesRelease
  refine onlyIn_step (frame_updGr _ _) rfl ?_
  exact onlyIn_refl _ _

theorem frame_lanesJoin : ∀ s, onlyIn [.mb, .pf, .ev, .gr, .out] s (lanesJoin s) := by
  intro s
  unfold lanesJoin
  refine onlyIn_fold _ _ (fun st0 a1 => ?_) ?_
  · refine onlyIn_ite ?_ ?_
    · refine onlyIn_step (frame_rawEvent _ _ _ _) rfl ?_
      refine onlyIn_step (frame_updGr _ _) rfl ?_
      refine onlyIn_step (frame_updLane _ _ _) rfl ?_
      exact onlyIn_refl _ _
    · exact onlyIn_refl _ _
  · exact onlyIn_refl _ _

theorem frame_lanesStart : ∀ s, onlyIn [.mb, .pf, .ev, .gr, .vd, .an, .out] s (lanesStart s) := by
  intro s
  unfold lanesStart
  extract_lets +onlyGivenNames x0
  clear_value x0
  refine onlyIn_ite ?_ ?_
  · exact onlyIn_refl _ _
  · extract_lets +onlyGivenNames x1
    have h2 : onlyIn [.mb, .pf, .ev, .gr, .vd, .an, .out] s x1 := by
      dsimp only [x1]
      refine onlyIn_fold _ _ (fun st3 a4 => ?_) ?_
      · refine onlyIn_ite ?_ ?_
        · refine onlyIn_step (frame_updLane _ _ _) rfl ?_
          exact onlyIn_refl _ _
        · refine onlyIn_ite ?_ ?_
          · refine onlyIn_step (frame_holdOut _ _) rfl ?_
            exact onlyIn_refl _ _
          · exact onlyIn_refl _ _
      · exact onlyIn_refl _ _
    clear_value x1
    refine onlyIn_ite ?_ ?_
    · refine onlyIn_step (frame_beginCond _ _ _ _) rfl ?_
      extract_lets +onlyGivenNames x5
      have h6 : onlyIn [.mb, .pf, .ev, .gr, .vd, .an, .out] s x5 := by
        dsimp only [x5]
        refine onlyIn_step (frame_updGr _ _) rfl ?_
        exact h2
      clear_value x5
      refine onlyIn_step (onlyIn_put_an _ _) rfl ?_
      exact h6
    · extract_lets +onlyGivenNames x7
      have h8 : onlyIn [.mb, .pf, .ev, .gr, .vd, .an, .out] s x7 := by
        dsimp only [x7]
        refine onlyIn_step (frame_updGr _ _) rfl ?_
        exact h2
      clear_value x7
      refine onlyIn_step (frame_vdEnable _) rfl ?_
      refine onlyIn_step (onlyIn_put_an _ _) rfl ?_
      exact h8

theorem frame_laneInjections : ∀ s, onlyIn [.mb, .pf, .ev, .gr, .cf, .vd, .ls, .gn, .out, .free] s (laneInjections s) := by
  intro s
  unfold laneInjections
  refine onlyIn_fold _ _ (fun st0 a1 => ?_) ?_
  · extract_lets +onlyGivenNames x2
    have h3 : onlyIn [.mb, .pf, .ev, .gr, .cf, .vd, .ls, .gn, .out, .free] st0 x2 := by
      dsimp only [x2]
      refine onlyIn_ite ?_ ?_
      · refine onlyIn_step (frame_laneFault _ _ _ _) rfl ?_
        exact onlyIn_refl _ _
      · exact onlyIn_refl _ _
    clear_value x2
    extract_lets +onlyGivenNames x4
    have h5 : onlyIn [.mb, .pf, .ev, .gr, .cf, .vd, .ls, .gn, .out, .free] st0 x4 := by
      dsimp only [x4]
      refine onlyIn_ite ?_ ?_
      · refine onlyIn_step (frame_laneFault _ _ _ _) rfl ?_
        exact h3
      · exact h3
    clear_value x4
    split
    · refine onlyIn_ite ?_ ?_
      · refine onlyIn_step (frame_laneFault _ _ _ _) rfl ?_
        exact h5
      · refine onlyIn_step (frame_useOneShot _ _ _) rfl ?_
        refine onlyIn_step (frame_updLane _ _ _) rfl ?_
        exact h5
    · exact h5
  · exact onlyIn_refl _ _

theorem frame_vote : ∀ a0 s, onlyIn [.mb, .pf, .ev, .gr, .cf, .vd, .ls, .gn, .out, .free] s (vote a0 s).1 := by
  intro a0 s
  unfold vote
  extract_lets +onlyGivenNames x0
  have h1 : onlyIn [.mb, .pf, .ev, .gr, .cf, .vd, .ls, .gn, .out, .free] s x0 := by
    dsimp only [x0]
    refine onlyIn_step (frame_laneInjections _) rfl ?_
    exact onlyIn_refl _ _
  clear_value x0
  extract_lets +onlyGivenNames x2
  clear_value x2
  refine onlyIn_ite1 ?_ ?_
  · refine onlyIn_pair1 ?_
    exact h1
  · refine onlyIn_ite1 ?_ ?_
    · refine onlyIn_pair1 ?_
      refine onlyIn_step (frame_safeEntry _) rfl ?_
      refine onlyIn_step (frame_endReplay _ _) rfl ?_
      exact h1
    · split
      · extract_lets +onlyGivenNames x3
        have h4 : onlyIn [.mb, .pf, .ev, .gr, .cf, .vd, .ls, .gn, .out, .free] s x3 := by
          dsimp only [x3]
          refine onlyIn_step (frame_laneFault _ _ _ _) rfl ?_
          exact h1
        clear_value x3
        refine onlyIn_pair1 ?_
        exact h4
      · refine onlyIn_pair1 ?_
        exact h1

theorem frame_execLockstepDivergence : ∀ a0 s t, execLockstepDivergence a0 s = .next t → onlyIn [.mb, .pf, .ev, .gr, .cf, .vd, .ls, .gn, .out, .free] s t := by
  intro a0 s t h
  unfold execLockstepDivergence at h
  cases h
  refine onlyIn_step (frame_laneFault _ _ _ _) rfl ?_
  exact onlyIn_refl _ _

theorem frame_execLaneWatchdogMiss : ∀ a0 s t, execLaneWatchdogMiss a0 s = .next t → onlyIn [.mb, .pf, .ev, .gr, .cf, .vd, .ls, .gn, .out, .free] s t := by
  intro a0 s t h
  unfold execLaneWatchdogMiss at h
  cases h
  refine onlyIn_ite ?_ ?_
  · refine onlyIn_step (frame_rawEvent _ _ _ _) rfl ?_
    refine onlyIn_step (frame_laneFault _ _ _ _) rfl ?_
    exact onlyIn_refl _ _
  · exact onlyIn_refl _ _

theorem frame_execLaneEccError : ∀ a0 a1 s t, execLaneEccError a0 a1 s = .next t → onlyIn [.mb, .pf, .ev, .gr, .cf, .vd, .ls, .gn, .out, .free] s t := by
  intro a0 a1 s t h
  unfold execLaneEccError at h
  cases h
  refine onlyIn_ite ?_ ?_
  · refine onlyIn_step (frame_laneFault _ _ _ _) rfl ?_
    exact onlyIn_refl _ _
  · refine onlyIn_step (frame_updLane _ _ _) rfl ?_
    exact onlyIn_refl _ _

theorem frame_execLaneResetDone : ∀ a0 s t, execLaneResetDone a0 s = .next t → onlyIn [.gr] s t := by
  intro a0 s t h
  unfold execLaneResetDone at h
  cases h
  refine onlyIn_ite ?_ ?_
  · refine onlyIn_step (frame_updLane _ _ _) rfl ?_
    exact onlyIn_refl _ _
  · exact onlyIn_refl _ _

theorem frame_selftestDone : ∀ a0 a1 s, onlyIn [.mb, .pf, .ev, .gr, .out] s (selftestDone a0 a1 s) := by
  intro a0 a1 s
  unfold selftestDone
  refine onlyIn_ite ?_ ?_
  · refine onlyIn_step (frame_happen _ _ _ _) rfl ?_
    refine onlyIn_step (frame_updLane _ _ _) rfl ?_
    exact onlyIn_refl _ _
  · refine onlyIn_ite ?_ ?_
    · refine onlyIn_step (frame_holdOut _ _) rfl ?_
      exact onlyIn_refl _ _
    · refine onlyIn_step (frame_updLane _ _ _) rfl ?_
      exact onlyIn_refl _ _

theorem frame_execLaneSelftestDone : ∀ a0 a1 s t, execLaneSelftestDone a0 a1 s = .next t → onlyIn [.mb, .pf, .ev, .gr, .out] s t := by
  intro a0 a1 s t h
  unfold execLaneSelftestDone at h
  extract_lets +onlyGivenNames x0 at h
  clear_value x0
  extract_lets +onlyGivenNames x1 at h
  clear_value x1
  cases h
  refine onlyIn_ite ?_ ?_
  · exact onlyIn_refl _ _
  · split
    · refine onlyIn_step (frame_judgeExclusions _ _) rfl ?_
      refine onlyIn_step (frame_selftestDone _ _ _) rfl ?_
      exact onlyIn_refl _ _
    · refine onlyIn_ite ?_ ?_
      · refine onlyIn_step (frame_updLane _ _ _) rfl ?_
        exact onlyIn_refl _ _
      · refine onlyIn_step (frame_happen _ _ _ _) rfl ?_
        refine onlyIn_step (frame_updLane _ _ _) rfl ?_
        exact onlyIn_refl _ _
    · exact onlyIn_refl _ _

theorem frame_execTransferFinalPass : ∀ a0 a1 s t, execTransferFinalPass a0 a1 s = .next t → onlyIn [.gr] s t := by
  intro a0 a1 s t h
  unfold execTransferFinalPass at h
  cases h
  refine onlyIn_ite ?_ ?_
  · refine onlyIn_ite ?_ ?_
    · refine onlyIn_step (frame_updLane _ _ _) rfl ?_
      exact onlyIn_refl _ _
    · refine onlyIn_step (frame_updLane _ _ _) rfl ?_
      exact onlyIn_refl _ _
  · exact onlyIn_refl _ _

theorem frame_execTransferTimeout : ∀ a0 s t, execTransferTimeout a0 s = .next t → onlyIn [.mb, .pf, .ev, .gr, .out] s t := by
  intro a0 s t h
  unfold execTransferTimeout at h
  cases h
  refine onlyIn_ite ?_ ?_
  · refine onlyIn_step (frame_judgeExclusions _ _) rfl ?_
    refine onlyIn_step (frame_transferFails _ _) rfl ?_
    exact onlyIn_refl _ _
  · exact onlyIn_refl _ _

theorem frame_execExcludedWaitExpiry : ∀ a0 s t, execExcludedWaitExpiry a0 s = .next t → onlyIn [.mb, .pf, .ev, .gr, .out] s t := by
  intro a0 s t h
  unfold execExcludedWaitExpiry at h
  extract_lets +onlyGivenNames x0 at h
  clear_value x0
  cases h
  refine onlyIn_ite ?_ ?_
  · refine onlyIn_ite ?_ ?_
    · refine onlyIn_step (frame_holdOut _ _) rfl ?_
      exact onlyIn_refl _ _
    · refine onlyIn_step (frame_updLane _ _ _) rfl ?_
      exact onlyIn_refl _ _
  · exact onlyIn_refl _ _

end Sys2Proof.Machine
end

