-- ==== Sys2Proof/Laws/FrameMica.lean ====
section
/-!
SUPPORT. Laws/FrameMica.lean: the parts of the state that the definitions of Machine/Mica.lean may change.
-/

namespace Sys2Proof.Machine

open Sys2Proof.Safety

theorem frame_updMc : ∀ a0 s, onlyIn [.mc] s (updMc a0 s) := by
  intro a0 s
  unfold updMc
  refine onlyIn_step (onlyIn_put_mc _ _) rfl ?_
  exact onlyIn_refl _ _

theorem frame_updMcBank : ∀ a0 a1 s, onlyIn [.mc] s (updMcBank a0 a1 s) := by
  intro a0 a1 s
  unfold updMcBank
  refine onlyIn_step (frame_updMc _ _) rfl ?_
  exact onlyIn_refl _ _

theorem frame_bankPower : ∀ a0 a1 s, onlyIn [.mc] s (bankPower a0 a1 s) := by
  intro a0 a1 s
  unfold bankPower
  split
  · refine onlyIn_step (frame_updMcBank _ _ _) rfl ?_
    exact onlyIn_refl _ _
  · refine onlyIn_step (frame_updMcBank _ _ _) rfl ?_
    exact onlyIn_refl _ _
  · refine onlyIn_step (frame_updMcBank _ _ _) rfl ?_
    exact onlyIn_refl _ _
  · refine onlyIn_step (frame_updMc _ _) rfl ?_
    refine onlyIn_step (frame_updMcBank _ _ _) rfl ?_
    exact onlyIn_refl _ _
  · refine onlyIn_step (frame_updMc _ _) rfl ?_
    refine onlyIn_step (frame_updMcBank _ _ _) rfl ?_
    exact onlyIn_refl _ _
  · exact onlyIn_refl _ _

theorem frame_access : ∀ a0 a1 s, onlyIn [.mc] s (access a0 a1 s) := by
  intro a0 a1 s
  unfold access
  extract_lets +onlyGivenNames x0
  have h1 : onlyIn [.mc] s x0 := by
    dsimp only [x0]
    refine onlyIn_ite ?_ ?_
    · refine onlyIn_step (frame_updMc _ _) rfl ?_
      refine onlyIn_step (frame_updMcBank _ _ _) rfl ?_
      exact onlyIn_refl _ _
    · exact onlyIn_refl _ _
  clear_value x0
  split
  · refine onlyIn_step (frame_updMc _ _) rfl ?_
    exact h1
  · refine onlyIn_step (frame_updMc _ _) rfl ?_
    exact h1

theorem frame_accessError : ∀ a0 a1 s, onlyIn [.mb, .pf, .ev, .mc, .out] s (accessError a0 a1 s) := by
  intro a0 a1 s
  unfold accessError
  refine onlyIn_step (frame_happen _ _ _ _) rfl ?_
  refine onlyIn_step (frame_updMc _ _) rfl ?_
  exact onlyIn_refl _ _

theorem frame_lose : ∀ a0 a1 s, onlyIn [.mc] s (lose a0 a1 s) := by
  intro a0 a1 s
  unfold lose
  extract_lets +onlyGivenNames x0
  clear_value x0
  refine onlyIn_step (frame_updMc _ _) rfl ?_
  exact onlyIn_refl _ _

theorem frame_served : ∀ a0 a1 s, onlyIn [.mc] s (served a0 a1 s) := by
  intro a0 a1 s
  unfold served
  refine onlyIn_step (frame_updMc _ _) rfl ?_
  exact onlyIn_refl _ _

theorem frame_portCycle : ∀ a0 a1 s, onlyIn [.mc] s (portCycle a0 a1 s) := by
  intro a0 a1 s
  unfold portCycle
  refine onlyIn_ite ?_ ?_
  · refine onlyIn_fold _ _ (fun st0 a1 => ?_) ?_
    · refine onlyIn_step (frame_lose _ _ _) rfl ?_
      exact onlyIn_refl _ _
    · refine onlyIn_step (frame_updMcBank _ _ _) rfl ?_
      exact onlyIn_refl _ _
  · split
    · exact onlyIn_refl _ _
    · extract_lets +onlyGivenNames x2
      have h3 : onlyIn [.mc] s x2 := by
        dsimp only [x2]
        refine onlyIn_step (frame_access _ _ _) rfl ?_
        refine onlyIn_step (frame_served _ _ _) rfl ?_
        refine onlyIn_step (frame_updMcBank _ _ _) rfl ?_
        exact onlyIn_refl _ _
      clear_value x2
      refine onlyIn_fold _ _ (fun st4 a5 => ?_) ?_
      · refine onlyIn_step (frame_lose _ _ _) rfl ?_
        exact onlyIn_refl _ _
      · exact h3

theorem frame_bankCycle : ∀ a0 a1 s, onlyIn [.mb, .pf, .ev, .mc, .out] s (bankCycle a0 a1 s) := by
  intro a0 a1 s
  unfold bankCycle
  extract_lets +onlyGivenNames x0
  have h1 : onlyIn [.mb, .pf, .ev, .mc, .out] s x0 := by
    dsimp only [x0]
    refine onlyIn_step (frame_updMc _ _) rfl ?_
    exact onlyIn_refl _ _
  clear_value x0
  extract_lets +onlyGivenNames x2
  clear_value x2
  extract_lets +onlyGivenNames x3
  clear_value x3
  extract_lets +onlyGivenNames x4
  clear_value x4
  refine onlyIn_ite ?_ ?_
  · refine onlyIn_fold _ _ (fun st5 a6 => ?_) ?_
    · refine onlyIn_step (frame_accessError _ _ _) rfl ?_
      exact onlyIn_refl _ _
    · exact h1
  · refine onlyIn_ite ?_ ?_
    · extract_lets +onlyGivenNames x7
      have h8 : onlyIn [.mb, .pf, .ev, .mc, .out] s x7 := by
        dsimp only [x7]
        split
        · refine onlyIn_step (frame_access _ _ _) rfl ?_
          exact h1
        · exact h1
      clear_value x7
      refine onlyIn_ite ?_ ?_
      · refine onlyIn_fold _ _ (fun st9 a10 => ?_) ?_
        · refine onlyIn_step (frame_lose _ _ _) rfl ?_
          exact onlyIn_refl _ _
        · exact h8
      · refine onlyIn_step (frame_portCycle _ _ _) rfl ?_
        exact h8
    · refine onlyIn_step (frame_portCycle _ _ _) rfl ?_
      exact h1

theorem frame_micaReset : ∀ s, onlyIn [.mc] s (micaReset s) := by
  intro s
  unfold micaReset
  refine onlyIn_step (frame_updMc _ _) rfl ?_
  exact onlyIn_refl _ _

theorem frame_execMicaAccess : ∀ a0 a1 s t, execMicaAccess a0 a1 s = .next t → onlyIn [.mb, .pf, .ev, .mc, .out] s t := by
  intro a0 a1 s t h
  unfold execMicaAccess at h
  split at h <;> cases h
  exact frame_bankCycle _ _ _

theorem frame_execMicaAtomic : ∀ a0 a1 a2 a3 s t, execMicaAtomic a0 a1 a2 a3 s = .next t → onlyIn [.mb, .pf, .ev, .mc, .out] s t := by
  intro a0 a1 a2 a3 s t h
  unfold execMicaAtomic at h
  extract_lets b w s0 at h
  have h0 : onlyIn [.mb, .pf, .ev, .mc, .out] s s0 := onlyIn_step (frame_updMc _ _) rfl (onlyIn_refl _ _)
  clear_value s0
  split at h
  · cases h
  · cases h
    refine onlyIn_ite ?_ ?_
    · exact onlyIn_step (frame_updMc _ _) rfl h0
    · refine onlyIn_ite ?_ ?_
      · exact onlyIn_step (frame_accessError _ _ _) rfl h0
      · refine onlyIn_step (frame_updMc _ _) rfl ?_
        refine onlyIn_step (frame_served _ _ _) rfl ?_
        exact onlyIn_step (frame_updMcBank _ _ _) rfl h0

theorem frame_scrubFirst : ∀ s, onlyIn [.mc] s (scrubFirst s) := by
  intro s
  unfold scrubFirst
  split
  · refine onlyIn_ite ?_ ?_
    · exact onlyIn_refl _ _
    · refine onlyIn_step (frame_updMc _ _) rfl ?_
      exact onlyIn_refl _ _
  · exact onlyIn_refl _ _

theorem frame_scrubLine : ∀ a0 s, onlyIn [.mc] s (scrubLine a0 s) := by
  intro a0 s
  unfold scrubLine
  extract_lets +onlyGivenNames x0
  clear_value x0
  extract_lets +onlyGivenNames x1
  clear_value x1
  extract_lets +onlyGivenNames x2
  clear_value x2
  extract_lets +onlyGivenNames x3
  clear_value x3
  extract_lets +onlyGivenNames x4
  have h5 : onlyIn [.mc] s x4 := by
    dsimp only [x4]
    refine onlyIn_step (frame_updMcBank _ _ _) rfl ?_
    exact onlyIn_refl _ _
  clear_value x4
  refine onlyIn_step (frame_updMc _ _) rfl ?_
  exact h5

theorem frame_execBankPowerRequest : ∀ a0 a1 s t, execBankPowerRequest a0 a1 s = .next t → onlyIn [.mc] s t := by
  intro a0 a1 s t h
  unfold execBankPowerRequest at h
  cases h
  refine onlyIn_step (frame_bankPower _ _ _) rfl ?_
  exact onlyIn_refl _ _

theorem frame_execBankZeroDone : ∀ a0 s t, execBankZeroDone a0 s = .next t → onlyIn [.mc] s t := by
  intro a0 s t h
  unfold execBankZeroDone at h
  cases h
  refine onlyIn_ite ?_ ?_
  · refine onlyIn_step (frame_updMcBank _ _ _) rfl ?_
    exact onlyIn_refl _ _
  · exact onlyIn_refl _ _

theorem frame_micaOff : ∀ s, onlyIn [.mc] s (micaOff s) := by
  intro s
  unfold micaOff
  refine onlyIn_step (frame_updMc _ _) rfl ?_
  exact onlyIn_refl _ _

end Sys2Proof.Machine
end

