-- ==== Sys2Proof/Laws/FramePanel.lean ====
section
/-!
SUPPORT. Laws/FramePanel.lean: the parts of the state that the definitions of Machine/Panel.lean may change.
-/

namespace Sys2Proof.Machine

open Sys2Proof.Safety

theorem frame_judgeLedgers : ∀ s, onlyIn [.mb, .pf, .ev, .out] s (judgeLedgers s) := by
  intro s
  unfold judgeLedgers
  refine onlyIn_fold _ _ (fun st0 a1 => ?_) ?_
  · extract_lets +onlyGivenNames x2
    clear_value x2
    refine onlyIn_step (frame_detect _ _ _ _ _) rfl ?_
    exact onlyIn_refl _ _
  · exact onlyIn_refl _ _

theorem frame_updSp : ∀ a0 s, onlyIn [.sp] s (updSp a0 s) := by
  intro a0 s
  unfold updSp
  refine onlyIn_step (onlyIn_put_sp _ _) rfl ?_
  exact onlyIn_refl _ _

theorem frame_panelLose : ∀ a0 s, onlyIn [.mb, .pf, .ev, .sp, .out] s (panelLose a0 s) := by
  intro a0 s
  unfold panelLose
  extract_lets +onlyGivenNames x0
  have h1 : onlyIn [.mb, .pf, .ev, .sp, .out] s x0 := by
    dsimp only [x0]
    refine onlyIn_ite ?_ ?_
    · refine onlyIn_step (frame_judgeLedgers _) rfl ?_
      refine onlyIn_step (frame_updSp _ _) rfl ?_
      exact onlyIn_refl _ _
    · exact onlyIn_refl _ _
  clear_value x0
  refine onlyIn_step (frame_updSp _ _) rfl ?_
  exact h1

theorem frame_panelRecover : ∀ s, onlyIn [.sp] s (panelRecover s) := by
  intro s
  unfold panelRecover
  refine onlyIn_step (frame_updSp _ _) rfl ?_
  exact onlyIn_refl _ _

theorem frame_panelOn : ∀ s, onlyIn [.sp] s (panelOn s) := by
  intro s
  unfold panelOn
  refine onlyIn_step (frame_updSp _ _) rfl ?_
  exact onlyIn_refl _ _

theorem frame_panelRestore : ∀ s, onlyIn [.sp] s (panelRestore s) := by
  intro s
  unfold panelRestore
  refine onlyIn_step (frame_updSp _ _) rfl ?_
  exact onlyIn_refl _ _

theorem frame_bodySpStatus : ∀ a0 s, onlyIn [] s (bodySpStatus a0 s).1 := by
  intro a0 s
  unfold bodySpStatus
  unfold emptyPayload
  try beta_reduce
  refine onlyIn_ite1 ?_ ?_
  · extract_lets +onlyGivenNames x0
    clear_value x0
    refine onlyIn_ans ?_
    exact onlyIn_refl _ _
  · refine onlyIn_ans ?_
    exact onlyIn_refl _ _

theorem frame_bodySpWrite : ∀ a0 s, onlyIn [.sp] s (bodySpWrite a0 s).1 := by
  intro a0 s
  unfold bodySpWrite
  extract_lets +onlyGivenNames x0
  clear_value x0
  refine onlyIn_ite1 ?_ ?_
  · refine onlyIn_ans ?_
    exact onlyIn_refl _ _
  · refine onlyIn_ite1 ?_ ?_
    · refine onlyIn_ans ?_
      exact onlyIn_refl _ _
    · extract_lets +onlyGivenNames x1
      clear_value x1
      extract_lets +onlyGivenNames x2
      clear_value x2
      extract_lets +onlyGivenNames x3
      have h4 : onlyIn [.sp] s x3 := by
        dsimp only [x3]
        refine onlyIn_step (frame_updSp _ _) rfl ?_
        exact onlyIn_refl _ _
      clear_value x3
      split
      · refine onlyIn_ans ?_
        exact h4
      · refine onlyIn_ite1 ?_ ?_
        · extract_lets +onlyGivenNames x5
          clear_value x5
          refine onlyIn_ans ?_
          refine onlyIn_step (frame_updSp _ _) rfl ?_
          exact h4
        · refine onlyIn_ans ?_
          exact h4

theorem frame_panelRecord : ∀ s, onlyIn [.mb, .pf, .ev, .sp, .out] s (panelRecord s) := by
  intro s
  unfold panelRecord
  split
  · refine onlyIn_step (frame_updSp _ _) rfl ?_
    refine onlyIn_step (frame_happen _ _ _ _) rfl ?_
    exact onlyIn_refl _ _
  · exact onlyIn_refl _ _

theorem frame_panelPause : ∀ s, onlyIn [.sp] s (panelPause s) := by
  intro s
  unfold panelPause
  refine onlyIn_ite ?_ ?_
  · refine onlyIn_step (frame_updSp _ _) rfl ?_
    exact onlyIn_refl _ _
  · exact onlyIn_refl _ _

theorem frame_panelResume : ∀ s, onlyIn [.sp] s (panelResume s) := by
  intro s
  unfold panelResume
  refine onlyIn_ite ?_ ?_
  · refine onlyIn_step (frame_updSp _ _) rfl ?_
    exact onlyIn_refl _ _
  · exact onlyIn_refl _ _

theorem frame_startPhase : ∀ a0 a1 s, onlyIn [.sp] s (startPhase a0 a1 s) := by
  intro a0 a1 s
  unfold startPhase
  refine onlyIn_step (frame_updSp _ _) rfl ?_
  exact onlyIn_refl _ _

theorem frame_startComp : ∀ a0 s, onlyIn [.sp] s (startComp a0 s) := by
  intro a0 s
  unfold startComp
  dsimp only
  refine onlyIn_step (frame_startPhase _ _ _) rfl ?_
  refine onlyIn_step (frame_updSp _ _) rfl ?_
  exact onlyIn_refl _ _

theorem frame_startUpdate : ∀ a0 s, onlyIn [.sp] s (startUpdate a0 s) := by
  intro a0 s
  unfold startUpdate
  extract_lets +onlyGivenNames x0
  clear_value x0
  extract_lets +onlyGivenNames x1
  clear_value x1
  extract_lets +onlyGivenNames x2
  clear_value x2
  extract_lets +onlyGivenNames x3
  clear_value x3
  extract_lets +onlyGivenNames x4
  clear_value x4
  extract_lets +onlyGivenNames x5
  clear_value x5
  extract_lets +onlyGivenNames x6
  clear_value x6
  extract_lets +onlyGivenNames x7
  have h8 : onlyIn [.sp] s x7 := by
    dsimp only [x7]
    refine onlyIn_step (frame_updSp _ _) rfl ?_
    exact onlyIn_refl _ _
  clear_value x7
  split
  · refine onlyIn_step (frame_startPhase _ _ _) rfl ?_
    exact h8
  · refine onlyIn_step (frame_updSp _ _) rfl ?_
    exact h8

theorem frame_execPanelUpdateStart : ∀ a0 s t, execPanelUpdateStart a0 s = .next t → onlyIn [.sp] s t := by
  intro a0 s t h
  unfold execPanelUpdateStart at h
  cases h
  refine onlyIn_ite ?_ ?_
  · split
    · exact frame_startComp _ _
    · exact frame_startUpdate _ _
  · exact onlyIn_refl _ _

theorem frame_updateDone : ∀ s, onlyIn [.sp] s (updateDone s) := by
  intro s
  unfold updateDone
  refine onlyIn_step (frame_updSp _ _) rfl ?_
  exact onlyIn_refl _ _

theorem frame_execPanelPhaseEnd : ∀ a0 s t, execPanelPhaseEnd a0 s = .next t → onlyIn [.mb, .pf, .ev, .sp, .out] s t := by
  intro a0 s t h
  unfold execPanelPhaseEnd at h
  cases h
  extract_lets +onlyGivenNames x0
  clear_value x0
  refine onlyIn_ite ?_ ?_
  · extract_lets +onlyGivenNames x1
    have h2 : onlyIn [.mb, .pf, .ev, .sp, .out] s x1 := by
      dsimp only [x1]
      refine onlyIn_step (frame_judgeLedgers _) rfl ?_
      refine onlyIn_step (frame_updSp _ _) rfl ?_
      exact onlyIn_refl _ _
    clear_value x1
    refine onlyIn_ite ?_ ?_
    · refine onlyIn_step (frame_updateDone _) rfl ?_
      exact h2
    · extract_lets +onlyGivenNames x3
      have h4 : onlyIn [.mb, .pf, .ev, .sp, .out] s x3 := by
        dsimp only [x3]
        refine onlyIn_ite ?_ ?_
        · refine onlyIn_step (frame_updSp _ _) rfl ?_
          exact h2
        · exact h2
      clear_value x3
      refine onlyIn_ite ?_ ?_
      · exact h4
      · refine onlyIn_step (frame_updSp _ _) rfl ?_
        exact h4
  · exact onlyIn_refl _ _

theorem frame_execPanelGuardEnd : ∀ a0 s t, execPanelGuardEnd a0 s = .next t → onlyIn [.sp] s t := by
  intro a0 s t h
  unfold execPanelGuardEnd at h
  cases h
  extract_lets +onlyGivenNames x0
  clear_value x0
  refine onlyIn_ite ?_ ?_
  · split
    · refine onlyIn_step (frame_startPhase _ _ _) rfl ?_
      exact onlyIn_refl _ _
    · refine onlyIn_ite ?_ ?_
      · refine onlyIn_step (frame_startUpdate _ _) rfl ?_
        exact onlyIn_refl _ _
      · refine onlyIn_step (frame_updateDone _) rfl ?_
        exact onlyIn_refl _ _
  · exact onlyIn_refl _ _

theorem frame_execPanelPinFault : ∀ a0 a1 s t, execPanelPinFault a0 a1 s = .next t → onlyIn [.mb, .pf, .ev, .sp, .out] s t := by
  intro a0 a1 s t h
  unfold execPanelPinFault at h
  cases h
  refine onlyIn_ite ?_ ?_
  · exact onlyIn_refl _ _
  · extract_lets +onlyGivenNames x0
    have h1 : onlyIn [.mb, .pf, .ev, .sp, .out] s x0 := by
      dsimp only [x0]
      refine onlyIn_step (frame_happen _ _ _ _) rfl ?_
      exact onlyIn_refl _ _
    clear_value x0
    extract_lets +onlyGivenNames x2
    clear_value x2
    extract_lets +onlyGivenNames x3
    clear_value x3
    refine onlyIn_ite ?_ ?_
    · refine onlyIn_step (frame_updSp _ _) rfl ?_
      exact h1
    · extract_lets +onlyGivenNames x4
      clear_value x4
      refine onlyIn_step (frame_updSp _ _) rfl ?_
      exact h1

end Sys2Proof.Machine
end

