-- ==== Sys2Proof/Laws/FrameQuartz.lean ====
section
/-!
SUPPORT. Laws/FrameQuartz.lean: the parts of the state that the definitions of Machine/Quartz.lean may change.
-/

namespace Sys2Proof.Machine

open Sys2Proof.Safety

theorem frame_quartzStop : ∀ s, onlyIn [.qz] s (quartzStop s) := by
  intro s
  unfold quartzStop
  refine onlyIn_step (onlyIn_put_qz _ _) rfl ?_
  exact onlyIn_refl _ _

theorem frame_quartzRestore : ∀ s, onlyIn [.qz] s (quartzRestore s) := by
  intro s
  unfold quartzRestore
  refine onlyIn_step (onlyIn_put_qz _ _) rfl ?_
  exact onlyIn_refl _ _

theorem frame_updQz : ∀ a0 a1 s, onlyIn [.qz] s (updQz a0 a1 s) := by
  intro a0 a1 s
  unfold updQz
  refine onlyIn_step (onlyIn_put_qz _ _) rfl ?_
  exact onlyIn_refl _ _

theorem frame_qzClearFault : ∀ a0 s, onlyIn [.mb, .pf, .ev, .qz, .out] s (qzClearFault a0 s) := by
  intro a0 s
  unfold qzClearFault
  extract_lets +onlyGivenNames x0
  clear_value x0
  extract_lets +onlyGivenNames x1
  have h2 : onlyIn [.mb, .pf, .ev, .qz, .out] s x1 := by
    dsimp only [x1]
    refine onlyIn_step (frame_rawEvent _ _ _ _) rfl ?_
    refine onlyIn_step (frame_updQz _ _ _) rfl ?_
    exact onlyIn_refl _ _
  clear_value x1
  refine onlyIn_fold _ _ (fun st3 a4 => ?_) ?_
  · refine onlyIn_step (frame_clearActive _ _ _) rfl ?_
    exact onlyIn_refl _ _
  · exact h2

theorem frame_qzApplySwap : ∀ a0 s, onlyIn [.mb, .pf, .ev, .qz, .out] s (qzApplySwap a0 s) := by
  intro a0 s
  unfold qzApplySwap
  refine onlyIn_ite ?_ ?_
  · refine onlyIn_step (frame_qzClearFault _ _) rfl ?_
    exact onlyIn_refl _ _
  · exact onlyIn_refl _ _

theorem frame_qzApplyRole : ∀ a0 s, onlyIn [.qz] s (qzApplyRole a0 s) := by
  intro a0 s
  unfold qzApplyRole
  extract_lets +onlyGivenNames x0
  clear_value x0
  refine onlyIn_ite ?_ ?_
  · refine onlyIn_ite ?_ ?_
    · exact onlyIn_refl _ _
    · refine onlyIn_step (frame_updQz _ _ _) rfl ?_
      exact onlyIn_refl _ _
  · refine onlyIn_ite ?_ ?_
    · refine onlyIn_step (frame_updQz _ _ _) rfl ?_
      exact onlyIn_refl _ _
    · exact onlyIn_refl _ _

theorem frame_quartzApply : ∀ s, onlyIn [.mb, .pf, .ev, .qz, .out] s (quartzApply s) := by
  intro s
  unfold quartzApply
  refine onlyIn_fold _ _ (fun st0 a1 => ?_) ?_
  · refine onlyIn_step (frame_qzApplySwap _ _) rfl ?_
    refine onlyIn_step (frame_qzApplyRole _ _) rfl ?_
    exact onlyIn_refl _ _
  · exact onlyIn_refl _ _

theorem frame_quartzActivate : ∀ s, onlyIn [.mb, .pf, .ev, .qz, .out] s (quartzActivate s) := by
  intro s
  unfold quartzActivate
  refine onlyIn_step (frame_quartzApply _) rfl ?_
  refine onlyIn_step (onlyIn_put_qz _ _) rfl ?_
  exact onlyIn_refl _ _

theorem frame_addBlind : ∀ a0 a1 a2 s, onlyIn [.qz] s (addBlind a0 a1 a2 s) := by
  intro a0 a1 a2 s
  unfold addBlind
  refine onlyIn_step (frame_updQz _ _ _) rfl ?_
  exact onlyIn_refl _ _

theorem frame_addCount : ∀ a0 a1 a2 s, onlyIn [.qz] s (addCount a0 a1 a2 s) := by
  intro a0 a1 a2 s
  unfold addCount
  refine onlyIn_step (frame_updQz _ _ _) rfl ?_
  exact onlyIn_refl _ _

theorem frame_applyQzCropSelect : ∀ a0 s, onlyIn [.qz] s (applyQzCropSelect a0 s) := by
  intro a0 s
  unfold applyQzCropSelect
  refine onlyIn_step (onlyIn_put_qz _ _) rfl ?_
  exact onlyIn_refl _ _

theorem frame_quartzCopyCal : ∀ s, onlyIn [.qz] s (quartzCopyCal s) := by
  intro s
  unfold quartzCopyCal
  refine onlyIn_step (onlyIn_put_qz _ _) rfl ?_
  exact onlyIn_refl _ _

theorem frame_quartzStart : ∀ s, onlyIn [.mb, .pf, .ev, .qz, .out] s (quartzStart s) := by
  intro s
  unfold quartzStart
  refine onlyIn_step (frame_quartzApply _) rfl ?_
  refine onlyIn_step (onlyIn_put_qz _ _) rfl ?_
  exact onlyIn_refl _ _

theorem frame_bodyQzStatus : ∀ a0 s, onlyIn [] s (bodyQzStatus a0 s).1 := by
  intro a0 s
  unfold bodyQzStatus
  extract_lets +onlyGivenNames x0
  clear_value x0
  refine onlyIn_ite1 ?_ ?_
  · refine onlyIn_ans ?_
    exact onlyIn_refl _ _
  · extract_lets +onlyGivenNames x1
    clear_value x1
    refine onlyIn_ans ?_
    exact onlyIn_refl _ _

theorem frame_bodyQzCropSelect : ∀ a0 s, onlyIn [.mb] s (bodyQzCropSelect a0 s).1 := by
  intro a0 s
  unfold bodyQzCropSelect
  unfold timedBody
  try beta_reduce
  split
  · refine onlyIn_ans ?_
    exact onlyIn_refl _ _
  · refine onlyIn_ite1 ?_ ?_
    · refine onlyIn_ans ?_
      exact onlyIn_refl _ _
    · split
      · refine onlyIn_ans ?_
        exact onlyIn_refl _ _
      · refine onlyIn_ite1 ?_ ?_
        · refine onlyIn_ans ?_
          exact onlyIn_refl _ _
        · refine onlyIn_ite1 ?_ ?_
          · refine onlyIn_ans ?_
            exact onlyIn_refl _ _
          · extract_lets +onlyGivenNames x0
            clear_value x0
            extract_lets +onlyGivenNames x1
            have h2 : onlyIn [.mb] s x1.1 := by
              dsimp only [x1]
              unfold frameReply
              try beta_reduce
              refine onlyIn_pair1 ?_
              refine onlyIn_step (frame_handOver _ _) rfl ?_
              exact onlyIn_refl _ _
            clear_value x1
            refine onlyIn_ans ?_
            exact h2

theorem frame_bodyQzDiagRequest : ∀ a0 s, onlyIn [.qz] s (bodyQzDiagRequest a0 s).1 := by
  intro a0 s
  unfold bodyQzDiagRequest
  refine onlyIn_ite1 ?_ ?_
  · refine onlyIn_ans ?_
    exact onlyIn_refl _ _
  · refine onlyIn_ite1 ?_ ?_
    · refine onlyIn_ans ?_
      exact onlyIn_refl _ _
    · extract_lets +onlyGivenNames x0
      clear_value x0
      refine onlyIn_ans ?_
      refine onlyIn_fold _ _ (fun st1 a2 => ?_) ?_
      · refine onlyIn_step (frame_updQz _ _ _) rfl ?_
        exact onlyIn_refl _ _
      · exact onlyIn_refl _ _

theorem frame_bodyQzRawCaptureStatus : ∀ a0 s, onlyIn [] s (bodyQzRawCaptureStatus a0 s).1 := by
  intro a0 s
  unfold bodyQzRawCaptureStatus
  unfold withOp
  try beta_reduce
  refine onlyIn_ite1 ?_ ?_
  · refine onlyIn_ite1 ?_ ?_
    · refine onlyIn_ans ?_
      exact onlyIn_refl _ _
    · refine onlyIn_ans ?_
      exact onlyIn_refl _ _
  · refine onlyIn_ans ?_
    exact onlyIn_refl _ _

theorem frame_bodyQzResultsRead : ∀ a0 s, onlyIn [] s (bodyQzResultsRead a0 s).1 := by
  intro a0 s
  unfold bodyQzResultsRead
  extract_lets +onlyGivenNames x0
  clear_value x0
  refine onlyIn_ite1 ?_ ?_
  · refine onlyIn_ans ?_
    exact onlyIn_refl _ _
  · extract_lets +onlyGivenNames x1
    clear_value x1
    refine onlyIn_ans ?_
    exact onlyIn_refl _ _

theorem frame_bodyQzTapRequestForget : ∀ a0 s, onlyIn [.pf] s (bodyQzTapRequestForget a0 s).1 := by
  intro a0 s
  unfold bodyQzTapRequestForget
  unfold withOp
  try beta_reduce
  refine onlyIn_ite1 ?_ ?_
  · unfold tapRequest
    try beta_reduce
    extract_lets +onlyGivenNames x0
    clear_value x0
    refine onlyIn_ite1 ?_ ?_
    · refine onlyIn_ans ?_
      exact onlyIn_refl _ _
    · refine onlyIn_ite1 ?_ ?_
      · refine onlyIn_ans ?_
        exact onlyIn_refl _ _
      · refine onlyIn_ans ?_
        refine onlyIn_step (frame_writeSettings _ _) rfl ?_
        exact onlyIn_refl _ _
  · refine onlyIn_ans ?_
    exact onlyIn_refl _ _

theorem frame_updTap : ∀ a0 a1 s, onlyIn [.qz] s (updTap a0 a1 s) := by
  intro a0 a1 s
  unfold updTap
  refine onlyIn_step (frame_updQz _ _ _) rfl ?_
  exact onlyIn_refl _ _

theorem frame_bodyQzTapRequestTap : ∀ a0 s, onlyIn [.qz] s (bodyQzTapRequestTap a0 s).1 := by
  intro a0 s
  unfold bodyQzTapRequestTap
  unfold withOp
  try beta_reduce
  refine onlyIn_ite1 ?_ ?_
  · unfold tapRequest
    try beta_reduce
    extract_lets +onlyGivenNames x0
    clear_value x0
    refine onlyIn_ite1 ?_ ?_
    · refine onlyIn_ans ?_
      exact onlyIn_refl _ _
    · refine onlyIn_ite1 ?_ ?_
      · refine onlyIn_ans ?_
        exact onlyIn_refl _ _
      · extract_lets +onlyGivenNames x1
        clear_value x1
        refine onlyIn_ans ?_
        refine onlyIn_fold _ _ (fun st2 a3 => ?_) ?_
        · refine onlyIn_step (frame_updTap _ _ _) rfl ?_
          exact onlyIn_refl _ _
        · exact onlyIn_refl _ _
  · refine onlyIn_ans ?_
    exact onlyIn_refl _ _

theorem frame_bodyQzTapRequestTeach : ∀ a0 s, onlyIn [.qz] s (bodyQzTapRequestTeach a0 s).1 := by
  intro a0 s
  unfold bodyQzTapRequestTeach
  unfold withOp
  try beta_reduce
  refine onlyIn_ite1 ?_ ?_
  · unfold tapRequest
    try beta_reduce
    extract_lets +onlyGivenNames x0
    clear_value x0
    refine onlyIn_ite1 ?_ ?_
    · refine onlyIn_ans ?_
      exact onlyIn_refl _ _
    · refine onlyIn_ite1 ?_ ?_
      · refine onlyIn_ans ?_
        exact onlyIn_refl _ _
      · refine onlyIn_ite1 ?_ ?_
        · refine onlyIn_ans ?_
          exact onlyIn_refl _ _
        · extract_lets +onlyGivenNames x1
          clear_value x1
          refine onlyIn_ans ?_
          refine onlyIn_fold _ _ (fun st2 a3 => ?_) ?_
          · refine onlyIn_step (frame_updTap _ _ _) rfl ?_
            exact onlyIn_refl _ _
          · exact onlyIn_refl _ _
  · refine onlyIn_ans ?_
    exact onlyIn_refl _ _

theorem frame_captureWindow : ∀ a0 a1 s, onlyIn [.qz] s (captureWindow a0 a1 s) := by
  intro a0 a1 s
  unfold captureWindow
  extract_lets +onlyGivenNames x0
  clear_value x0
  refine onlyIn_ite ?_ ?_
  · refine onlyIn_step (onlyIn_put_qz _ _) rfl ?_
    exact onlyIn_refl _ _
  · refine onlyIn_ite ?_ ?_
    · refine onlyIn_step (onlyIn_put_qz _ _) rfl ?_
      exact onlyIn_refl _ _
    · exact onlyIn_refl _ _

theorem frame_classifyHead : ∀ a0 a1 s, onlyIn [.qz] s (classifyHead a0 a1 s) := by
  intro a0 a1 s
  unfold classifyHead
  split
  · exact onlyIn_refl _ _
  · extract_lets +onlyGivenNames x0
    clear_value x0
    refine onlyIn_step (frame_addCount _ _ _ _) rfl ?_
    refine onlyIn_step (frame_updQz _ _ _) rfl ?_
    exact onlyIn_refl _ _

theorem frame_qzFault : ∀ a0 a1 a2 a3 s, onlyIn [.mb, .pf, .ev, .qz, .out] s (qzFault a0 a1 a2 a3 s) := by
  intro a0 a1 a2 a3 s
  unfold qzFault
  refine onlyIn_step (frame_raise _ _ _ _ _) rfl ?_
  refine onlyIn_step (frame_updQz _ _ _) rfl ?_
  exact onlyIn_refl _ _

theorem frame_diagSequenceEnd : ∀ a0 a1 a2 a3 s, onlyIn [.mb, .pf, .ev, .qz, .out] s (diagSequenceEnd a0 a1 a2 a3 s) := by
  intro a0 a1 a2 a3 s
  unfold diagSequenceEnd
  extract_lets +onlyGivenNames x0
  clear_value x0
  refine onlyIn_ite ?_ ?_
  · exact onlyIn_refl _ _
  · extract_lets +onlyGivenNames x1
    clear_value x1
    extract_lets +onlyGivenNames x2
    have h3 : onlyIn [.mb, .pf, .ev, .qz, .out] s x2 := by
      dsimp only [x2]
      refine onlyIn_step (frame_updQz _ _ _) rfl ?_
      exact onlyIn_refl _ _
    clear_value x2
    extract_lets +onlyGivenNames x4
    have h5 : onlyIn [.mb, .pf, .ev, .qz, .out] s x4 := by
      dsimp only [x4]
      refine onlyIn_step (frame_detect _ _ _ _ _) rfl ?_
      exact h3
    clear_value x4
    refine onlyIn_ite ?_ ?_
    · refine onlyIn_ite ?_ ?_
      · exact h5
      · refine onlyIn_step (frame_qzFault _ _ _ _ _) rfl ?_
        exact h5
    · refine onlyIn_ite ?_ ?_
      · refine onlyIn_ite ?_ ?_
        · refine onlyIn_step (frame_qzClearFault _ _) rfl ?_
          exact h5
        · refine onlyIn_step (frame_updQz _ _ _) rfl ?_
          exact h5
      · refine onlyIn_step (frame_updQz _ _ _) rfl ?_
        exact h5

theorem frame_drainQueue : ∀ a0 a1 a2 a3 s, onlyIn [.qz] s (drainQueue a0 a1 a2 a3 s) := by
  intro a0 a1 a2 a3
  induction a3 with
  | zero => exact fun s => onlyIn_refl _ _
  | succ n ih =>
    intro s
    unfold drainQueue
    split
    · refine onlyIn_ite ?_ ?_
      · exact onlyIn_step (ih _) rfl (frame_classifyHead _ _ _)
      · exact onlyIn_refl _ _
    · exact onlyIn_refl _ _

theorem frame_qzWindowDetect : ∀ a0 s, onlyIn [.mb, .pf, .ev, .out] s (qzWindowDetect a0 s) := by
  intro a0 s
  unfold qzWindowDetect
  extract_lets +onlyGivenNames x0
  clear_value x0
  refine onlyIn_step (frame_detect _ _ _ _ _) rfl ?_
  refine onlyIn_step (frame_detect _ _ _ _ _) rfl ?_
  exact onlyIn_refl _ _

theorem frame_quartzCutoff : ∀ a0 a1 a2 s, onlyIn [.mb, .pf, .ev, .qz, .out] s (quartzCutoff a0 a1 a2 s) := by
  intro a0 a1 a2 s
  unfold quartzCutoff
  refine onlyIn_ite ?_ ?_
  · refine onlyIn_step (onlyIn_put_qz _ _) rfl ?_
    exact onlyIn_refl _ _
  · extract_lets +onlyGivenNames x0
    clear_value x0
    extract_lets +onlyGivenNames x1
    have h2 : onlyIn [.mb, .pf, .ev, .qz, .out] s x1 := by
      dsimp only [x1]
      refine onlyIn_step (onlyIn_put_qz _ _) rfl ?_
      exact onlyIn_refl _ _
    clear_value x1
    extract_lets +onlyGivenNames x3
    have h4 : onlyIn [.mb, .pf, .ev, .qz, .out] s x3 := by
      dsimp only [x3]
      refine onlyIn_fold _ _ (fun st5 a6 => ?_) ?_
      · refine onlyIn_step (frame_qzWindowDetect _ _) rfl ?_
        refine onlyIn_step (frame_drainQueue _ _ _ _ _) rfl ?_
        exact onlyIn_refl _ _
      · exact h2
    clear_value x3
    extract_lets +onlyGivenNames x7
    have h8 : onlyIn [.mb, .pf, .ev, .qz, .out] s x7 := by
      dsimp only [x7]
      refine onlyIn_step (frame_captureWindow _ _ _) rfl ?_
      exact h4
    clear_value x7
    extract_lets +onlyGivenNames x9
    clear_value x9
    refine onlyIn_step (onlyIn_put_qz _ _) rfl ?_
    exact h8

theorem frame_queueImpact : ∀ a0 a1 s, onlyIn [.qz] s (queueImpact a0 a1 s) := by
  intro a0 a1 s
  unfold queueImpact
  refine onlyIn_ite ?_ ?_
  · refine onlyIn_step (frame_addCount _ _ _ _) rfl ?_
    exact onlyIn_refl _ _
  · refine onlyIn_step (frame_updQz _ _ _) rfl ?_
    exact onlyIn_refl _ _

theorem frame_impactEnd : ∀ a0 a1 a2 a3 s, onlyIn [.qz] s (impactEnd a0 a1 a2 a3 s) := by
  intro a0 a1 a2 a3 s
  unfold impactEnd
  extract_lets +onlyGivenNames x0
  clear_value x0
  extract_lets +onlyGivenNames x1
  clear_value x1
  extract_lets +onlyGivenNames x2
  clear_value x2
  extract_lets +onlyGivenNames x3
  clear_value x3
  refine onlyIn_ite ?_ ?_
  · exact onlyIn_refl _ _
  · extract_lets +onlyGivenNames x4
    clear_value x4
    extract_lets +onlyGivenNames x5
    clear_value x5
    extract_lets +onlyGivenNames x6
    have h7 : onlyIn [.qz] s x6 := by
      dsimp only [x6]
      refine onlyIn_step (frame_updQz _ _ _) rfl ?_
      exact onlyIn_refl _ _
    clear_value x6
    split
    · refine onlyIn_ite ?_ ?_
      · refine onlyIn_step (frame_addCount _ _ _ _) rfl ?_
        refine onlyIn_step (frame_updQz _ _ _) rfl ?_
        exact h7
      · extract_lets +onlyGivenNames x8
        clear_value x8
        extract_lets +onlyGivenNames x9
        clear_value x9
        refine onlyIn_step (frame_queueImpact _ _ _) rfl ?_
        refine onlyIn_step (frame_addCount _ _ _ _) rfl ?_
        refine onlyIn_step (frame_updQz _ _ _) rfl ?_
        exact h7
    · extract_lets +onlyGivenNames x10
      clear_value x10
      refine onlyIn_step (frame_queueImpact _ _ _) rfl ?_
      refine onlyIn_step (frame_updQz _ _ _) rfl ?_
      exact h7

theorem frame_execImpactEnd : ∀ a0 a1 a2 a3 s t, execImpactEnd a0 a1 a2 a3 s = .next t → onlyIn [.qz] s t := by
  intro a0 a1 a2 a3 s t h
  unfold execImpactEnd at h
  cases h
  refine onlyIn_step (frame_impactEnd _ _ _ _ _) rfl ?_
  exact onlyIn_refl _ _

theorem frame_execImpactClassify : ∀ a0 s t, execImpactClassify a0 s = .next t → onlyIn [.qz] s t := by
  intro a0 s t h
  unfold execImpactClassify at h
  cases h
  refine onlyIn_step (frame_classifyHead _ _ _) rfl ?_
  exact onlyIn_refl _ _

theorem frame_execTapDue : ∀ a0 s t, execTapDue a0 s = .next t → onlyIn [.qz] s t := by
  intro a0 s t h
  unfold execTapDue at h
  extract_lets +onlyGivenNames x0 at h
  clear_value x0
  cases h
  refine onlyIn_ite ?_ ?_
  · refine onlyIn_step (frame_updTap _ _ _) rfl ?_
    exact onlyIn_refl _ _
  · exact onlyIn_refl _ _

theorem frame_execTapForced : ∀ a0 s t, execTapForced a0 s = .next t → onlyIn [.qz] s t := by
  intro a0 s t h
  unfold execTapForced at h
  extract_lets +onlyGivenNames x0 at h
  clear_value x0
  cases h
  refine onlyIn_ite ?_ ?_
  · refine onlyIn_step (frame_updTap _ _ _) rfl ?_
    exact onlyIn_refl _ _
  · exact onlyIn_refl _ _

theorem frame_tapStart : ∀ a0 a1 s, onlyIn [.qz] s (tapStart a0 a1 s) := by
  intro a0 a1 s
  unfold tapStart
  refine onlyIn_step (frame_addBlind _ _ _ _) rfl ?_
  refine onlyIn_step (frame_updQz _ _ _) rfl ?_
  exact onlyIn_refl _ _

theorem frame_execTapStart : ∀ a0 a1 a2 a3 s t, execTapStart a0 a1 a2 a3 s = .next t → onlyIn [.qz] s t := by
  intro a0 a1 a2 a3 s t h
  unfold execTapStart at h
  cases h
  refine onlyIn_ite ?_ ?_
  · refine onlyIn_step (frame_tapStart _ _ _) rfl ?_
    exact onlyIn_refl _ _
  · exact onlyIn_refl _ _

theorem frame_execTapSequenceEnd : ∀ a0 s t, execTapSequenceEnd a0 s = .next t → onlyIn [.qz] s t := by
  intro a0 s t h
  unfold execTapSequenceEnd at h
  cases h
  refine onlyIn_ite ?_ ?_
  · refine onlyIn_step (frame_updQz _ _ _) rfl ?_
    exact onlyIn_refl _ _
  · exact onlyIn_refl _ _

theorem frame_tapAnalysis : ∀ a0 a1 s, onlyIn [.mb, .pf, .ev, .qz, .out, .free] s (tapAnalysis a0 a1 s) := by
  intro a0 a1 s
  unfold tapAnalysis
  extract_lets +onlyGivenNames x0
  clear_value x0
  extract_lets +onlyGivenNames x1
  clear_value x1
  extract_lets +onlyGivenNames x2
  clear_value x2
  extract_lets +onlyGivenNames x3
  clear_value x3
  extract_lets +onlyGivenNames x4
  clear_value x4
  extract_lets +onlyGivenNames x5
  clear_value x5
  extract_lets +onlyGivenNames x6
  clear_value x6
  extract_lets +onlyGivenNames x7
  clear_value x7
  extract_lets +onlyGivenNames x8
  have h9 : onlyIn [.mb, .pf, .ev, .qz, .out, .free] s x8.2 := by
    dsimp only [x8]
    split
    · refine onlyIn_pair2 ?_
      exact onlyIn_refl _ _
    · refine onlyIn_step (frame_freshNat _) rfl ?_
      exact onlyIn_refl _ _
  clear_value x8
  extract_lets +onlyGivenNames x10
  have h11 : onlyIn [.mb, .pf, .ev, .qz, .out, .free] s x10 := by
    dsimp only [x10]
    exact h9
  clear_value x10
  extract_lets +onlyGivenNames x12
  clear_value x12
  extract_lets +onlyGivenNames x13
  clear_value x13
  extract_lets +onlyGivenNames x14
  clear_value x14
  extract_lets +onlyGivenNames x15
  have h16 : onlyIn [.mb, .pf, .ev, .qz, .out, .free] s x15 := by
    dsimp only [x15]
    refine onlyIn_step (frame_updQz _ _ _) rfl ?_
    exact h11
  clear_value x15
  extract_lets +onlyGivenNames x17
  have h18 : onlyIn [.mb, .pf, .ev, .qz, .out, .free] s x17 := by
    dsimp only [x17]
    refine onlyIn_ite ?_ ?_
    · refine onlyIn_step (frame_clearActive _ _ _) rfl ?_
      exact h16
    · exact h16
  clear_value x17
  extract_lets +onlyGivenNames x19
  have h20 : onlyIn [.mb, .pf, .ev, .qz, .out, .free] s x19 := by
    dsimp only [x19]
    refine onlyIn_step (frame_detect _ _ _ _ _) rfl ?_
    exact h18
  clear_value x19
  extract_lets +onlyGivenNames x21
  clear_value x21
  extract_lets +onlyGivenNames x22
  have h23 : onlyIn [.mb, .pf, .ev, .qz, .out, .free] s x22 := by
    dsimp only [x22]
    refine onlyIn_ite ?_ ?_
    · refine onlyIn_step (frame_detect _ _ _ _ _) rfl ?_
      exact h20
    · exact h20
  clear_value x22
  refine onlyIn_ite ?_ ?_
  · refine onlyIn_step (frame_qzFault _ _ _ _ _) rfl ?_
    exact h23
  · refine onlyIn_ite ?_ ?_
    · refine onlyIn_step (frame_qzFault _ _ _ _ _) rfl ?_
      exact h23
    · refine onlyIn_ite ?_ ?_
      · refine onlyIn_step (frame_qzClearFault _ _) rfl ?_
        exact h23
      · exact h23

theorem frame_execTapAnalysisDone : ∀ a0 a1 s t, execTapAnalysisDone a0 a1 s = .next t → onlyIn [.mb, .pf, .ev, .qz, .out, .free] s t := by
  intro a0 a1 s t h
  unfold execTapAnalysisDone at h
  cases h
  refine onlyIn_ite ?_ ?_
  · refine onlyIn_step (frame_tapAnalysis _ _ _) rfl ?_
    exact onlyIn_refl _ _
  · exact onlyIn_refl _ _

theorem frame_execTapDeferral : ∀ a0 s t, execTapDeferral a0 s = .next t → onlyIn [.mb, .pf, .ev, .qz, .out] s t := by
  intro a0 s t h
  unfold execTapDeferral at h
  extract_lets +onlyGivenNames x0 at h
  clear_value x0
  cases h
  refine onlyIn_ite ?_ ?_
  · refine onlyIn_step (frame_happen _ _ _ _) rfl ?_
    refine onlyIn_step (frame_updTap _ _ _) rfl ?_
    refine onlyIn_step (onlyIn_put_qz _ _) rfl ?_
    exact onlyIn_refl _ _
  · exact onlyIn_refl _ _

theorem frame_execCalibrationStale : ∀ a0 s t, execCalibrationStale a0 s = .next t → onlyIn [.mb, .pf, .ev, .qz, .out] s t := by
  intro a0 s t h
  unfold execCalibrationStale at h
  extract_lets +onlyGivenNames x0 at h
  clear_value x0
  cases h
  refine onlyIn_ite ?_ ?_
  · refine onlyIn_step (frame_raise _ _ _ _ _) rfl ?_
    refine onlyIn_step (frame_updTap _ _ _) rfl ?_
    exact onlyIn_refl _ _
  · exact onlyIn_refl _ _

theorem frame_execTeachDone : ∀ a0 s t, execTeachDone a0 s = .next t → onlyIn [.pf, .qz] s t := by
  intro a0 s t h
  unfold execTeachDone at h
  cases h
  split
  · refine onlyIn_ite ?_ ?_
    · exact onlyIn_refl _ _
    · refine onlyIn_ite ?_ ?_
      · refine onlyIn_step (frame_updTap _ _ _) rfl ?_
        exact onlyIn_refl _ _
      · refine onlyIn_step (frame_writeSettings _ _) rfl ?_
        refine onlyIn_step (frame_updTap _ _ _) rfl ?_
        exact onlyIn_refl _ _
  · exact onlyIn_refl _ _

theorem frame_execDiagIdleDue : ∀ a0 s t, execDiagIdleDue a0 s = .next t → onlyIn [.qz] s t := by
  intro a0 s t h
  unfold execDiagIdleDue at h
  extract_lets +onlyGivenNames x0 at h
  clear_value x0
  cases h
  refine onlyIn_ite ?_ ?_
  · refine onlyIn_step (frame_updQz _ _ _) rfl ?_
    exact onlyIn_refl _ _
  · exact onlyIn_refl _ _

theorem frame_execDiagStart : ∀ a0 a1 a2 a3 s t, execDiagStart a0 a1 a2 a3 s = .next t → onlyIn [.qz] s t := by
  intro a0 a1 a2 a3 s t h
  unfold execDiagStart at h
  cases h
  refine onlyIn_ite ?_ ?_
  · refine onlyIn_step (frame_addBlind _ _ _ _) rfl ?_
    refine onlyIn_step (frame_updQz _ _ _) rfl ?_
    exact onlyIn_refl _ _
  · exact onlyIn_refl _ _

theorem frame_execDiagSequenceEnd : ∀ a0 a1 a2 a3 s t, execDiagSequenceEnd a0 a1 a2 a3 s = .next t → onlyIn [.mb, .pf, .ev, .qz, .out] s t := by
  intro a0 a1 a2 a3 s t h
  unfold execDiagSequenceEnd at h
  cases h
  refine onlyIn_step (frame_diagSequenceEnd _ _ _ _ _) rfl ?_
  exact onlyIn_refl _ _

theorem frame_execAsPinRangeFault : ∀ a0 a1 s t, execAsPinRangeFault a0 a1 s = .next t → onlyIn [.mb, .pf, .ev, .qz, .out] s t := by
  intro a0 a1 s t h
  unfold execAsPinRangeFault at h
  cases h
  refine onlyIn_ite ?_ ?_
  · refine onlyIn_step (frame_qzFault _ _ _ _ _) rfl ?_
    exact onlyIn_refl _ _
  · exact onlyIn_refl _ _

end Sys2Proof.Machine
end

