-- ==== Sys2Proof/Laws/FrameCream.lean ====
section
/-!
SUPPORT. Laws/FrameCream.lean: the parts of the state that the definitions of Machine/Cream.lean may change.
-/

namespace Sys2Proof.Machine

open Sys2Proof.Safety

theorem frame_skimSend : ∀ a0 a1 a2 a3 s, onlyIn [.fb] s (skimSend a0 a1 a2 a3 s).1 := by
  intro a0 a1 a2 a3 s
  unfold skimSend
  dsimp only
  split
  · refine onlyIn_pair1 ?_
    exact onlyIn_refl _ _
  · refine onlyIn_pair1 ?_
    refine onlyIn_step (frame_fbSend _ _ _) rfl ?_
    refine onlyIn_step (frame_updFb _ _) rfl ?_
    exact onlyIn_refl _ _

theorem frame_bodyFbStatus : ∀ a0 s, onlyIn [] s (bodyFbStatus a0 s).1 := by
  intro a0 s
  unfold bodyFbStatus
  unfold emptyPayload
  try beta_reduce
  refine onlyIn_ite1 ?_ ?_
  · refine onlyIn_ans ?_
    exact onlyIn_refl _ _
  · refine onlyIn_ans ?_
    exact onlyIn_refl _ _

theorem frame_bodyFbCableTest : ∀ a0 s, onlyIn [.mb, .pf, .ev, .gn, .fb, .out, .free] s (bodyFbCableTest a0 s).1 := by
  intro a0 s
  unfold bodyFbCableTest
  extract_lets +onlyGivenNames x0
  clear_value x0
  extract_lets +onlyGivenNames x1
  clear_value x1
  refine onlyIn_ite1 ?_ ?_
  · refine onlyIn_ans ?_
    exact onlyIn_refl _ _
  · refine onlyIn_ite1 ?_ ?_
    · refine onlyIn_ans ?_
      exact onlyIn_refl _ _
    · extract_lets +onlyGivenNames x2
      have h3 : onlyIn [.mb, .pf, .ev, .gn, .fb, .out, .free] s x2.2 := by
        dsimp only [x2]
        refine onlyIn_step (frame_freshNat _) rfl ?_
        exact onlyIn_refl _ _
      clear_value x2
      extract_lets +onlyGivenNames x4
      have h5 : onlyIn [.mb, .pf, .ev, .gn, .fb, .out, .free] s x4.2 := by
        dsimp only [x4]
        refine onlyIn_step (frame_freshNat _) rfl ?_
        exact h3
      clear_value x4
      extract_lets +onlyGivenNames x6
      clear_value x6
      extract_lets +onlyGivenNames x7
      clear_value x7
      refine onlyIn_ans ?_
      refine onlyIn_ite ?_ ?_
      · refine onlyIn_step (frame_linkDown _ _) rfl ?_
        exact h5
      · exact h5

theorem frame_bodyFbNodeAssign : ∀ a0 s, onlyIn [.mb, .pf, .ev, .fb, .out] s (bodyFbNodeAssign a0 s).1 := by
  intro a0 s
  unfold bodyFbNodeAssign
  extract_lets +onlyGivenNames x0
  clear_value x0
  extract_lets +onlyGivenNames x1
  clear_value x1
  refine onlyIn_ite1 ?_ ?_
  · refine onlyIn_ans ?_
    exact onlyIn_refl _ _
  · split
    · refine onlyIn_ans ?_
      exact onlyIn_refl _ _
    · refine onlyIn_ite1 ?_ ?_
      · refine onlyIn_ans ?_
        exact onlyIn_refl _ _
      · refine onlyIn_ans ?_
        refine onlyIn_step (frame_passAssign _ _ _ _ _) rfl ?_
        exact onlyIn_refl _ _

theorem frame_bodyFbTopology : ∀ a0 s, onlyIn [] s (bodyFbTopology a0 s).1 := by
  intro a0 s
  unfold bodyFbTopology
  extract_lets +onlyGivenNames x0
  clear_value x0
  refine onlyIn_ite1 ?_ ?_
  · refine onlyIn_ans ?_
    exact onlyIn_refl _ _
  · extract_lets +onlyGivenNames x1
    clear_value x1
    refine onlyIn_ans ?_
    exact onlyIn_refl _ _

theorem frame_creamAccept : ∀ a0 a1 a2 s, onlyIn [.mb, .pf, .ev, .fb, .out] s (creamAccept a0 a1 a2 s) := by
  intro a0 a1 a2 s
  unfold creamAccept
  extract_lets +onlyGivenNames x0
  have h1 : onlyIn [.mb, .pf, .ev, .fb, .out] s x0 := by
    dsimp only [x0]
    refine onlyIn_step (frame_updFb _ _) rfl ?_
    exact onlyIn_refl _ _
  clear_value x0
  extract_lets +onlyGivenNames x2
  clear_value x2
  extract_lets +onlyGivenNames x3
  clear_value x3
  refine onlyIn_ite ?_ ?_
  · exact h1
  · refine onlyIn_ite ?_ ?_
    · refine onlyIn_step (frame_happen _ _ _ _) rfl ?_
      refine onlyIn_step (frame_updFb _ _) rfl ?_
      exact h1
    · refine onlyIn_ite ?_ ?_
      · exact h1
      · refine onlyIn_step (frame_updFb _ _) rfl ?_
        exact onlyIn_refl _ _

theorem frame_sendCopy : ∀ a0 a1 a2 a3 a4 s, onlyIn [.fb] s (sendCopy a0 a1 a2 a3 a4 s) := by
  intro a0 a1 a2 a3 a4 s
  unfold sendCopy
  split
  · refine onlyIn_step (frame_fbSend _ _ _) rfl ?_
    exact onlyIn_refl _ _
  · exact onlyIn_refl _ _

theorem frame_execCreamSend : ∀ a0 s t, execCreamSend a0 s = .next t → onlyIn [.fb] s t := by
  intro a0 s t h
  unfold execCreamSend at h
  cases h
  refine onlyIn_ite ?_ ?_
  · split
    · refine onlyIn_step (frame_sendCopy _ _ _ _ _ _) rfl ?_
      refine onlyIn_step (frame_sendCopy _ _ _ _ _ _) rfl ?_
      exact onlyIn_refl _ _
    · exact onlyIn_refl _ _
  · exact onlyIn_refl _ _

theorem frame_execCreamCellReceive : ∀ a0 a1 a2 a3 a4 a5 s t, execCreamCellReceive a0 a1 a2 a3 a4 a5 s = .next t → onlyIn [.mb, .pf, .ev, .fb, .out] s t := by
  intro a0 a1 a2 a3 a4 a5 s t h
  unfold execCreamCellReceive at h
  extract_lets +onlyGivenNames x0 at h
  clear_value x0
  cases h
  refine onlyIn_ite ?_ ?_
  · exact onlyIn_refl _ _
  · refine onlyIn_ite ?_ ?_
    · refine onlyIn_step (frame_updPort _ _ _) rfl ?_
      refine onlyIn_step (frame_updFb _ _) rfl ?_
      exact onlyIn_refl _ _
    · refine onlyIn_ite ?_ ?_
      · refine onlyIn_step (frame_updFb _ _) rfl ?_
        exact onlyIn_refl _ _
      · refine onlyIn_ite ?_ ?_
        · refine onlyIn_step (frame_creamAccept _ _ _ _) rfl ?_
          exact onlyIn_refl _ _
        · refine onlyIn_ite ?_ ?_
          · exact onlyIn_refl _ _
          · split
            · refine onlyIn_step (frame_sendCopy _ _ _ _ _ _) rfl ?_
              exact onlyIn_refl _ _
            · exact onlyIn_refl _ _

theorem frame_skimFlow : ∀ a0 s, onlyIn [.fb] s (skimFlow a0 s).1 := by
  intro a0 s
  unfold skimFlow
  dsimp only
  split
  · refine onlyIn_pair1 ?_
    refine onlyIn_step (frame_updFb _ _) rfl ?_
    exact onlyIn_refl _ _
  · refine onlyIn_ite1 ?_ ?_
    · refine onlyIn_pair1 ?_
      refine onlyIn_step (frame_updFb _ _) rfl ?_
      exact onlyIn_refl _ _
    · refine onlyIn_ite1 ?_ ?_
      · refine onlyIn_pair1 ?_
        refine onlyIn_step (frame_updFb _ _) rfl ?_
        refine onlyIn_step (frame_updFb _ _) rfl ?_
        exact onlyIn_refl _ _
      · refine onlyIn_pair1 ?_
        exact onlyIn_refl _ _

theorem frame_skimRoute : ∀ a0 a1 a2 s, onlyIn [.fb] s (skimRoute a0 a1 a2 s).1 := by
  intro a0 a1 a2 s
  unfold skimRoute
  refine onlyIn_ite1 ?_ ?_
  · refine onlyIn_pair1 ?_
    exact onlyIn_refl _ _
  · refine onlyIn_ite1 ?_ ?_
    · refine onlyIn_pair1 ?_
      refine onlyIn_step (frame_updPort _ _ _) rfl ?_
      refine onlyIn_step (frame_updFb _ _) rfl ?_
      exact onlyIn_refl _ _
    · refine onlyIn_ite1 ?_ ?_
      · refine onlyIn_pair1 ?_
        exact onlyIn_refl _ _
      · refine onlyIn_ite1 ?_ ?_
        · refine onlyIn_step (frame_skimFlow _ _) rfl ?_
          exact onlyIn_refl _ _
        · refine onlyIn_ite1 ?_ ?_
          · refine onlyIn_pair1 ?_
            exact onlyIn_refl _ _
          · split
            · refine onlyIn_pair1 ?_
              refine onlyIn_step (frame_fbSend _ _ _) rfl ?_
              exact onlyIn_refl _ _
            · refine onlyIn_pair1 ?_
              exact onlyIn_refl _ _

end Sys2Proof.Machine
end

