-- ==== Sys2Proof/Laws/FrameStorage.lean ====
section
/-!
SUPPORT. Laws/FrameStorage.lean: the parts of the state that the definitions of Machine/Storage.lean may change.
-/

namespace Sys2Proof.Machine

open Sys2Proof.Safety

theorem frame_ringEnter : ∀ a0 s, onlyIn [.mc] s (ringEnter a0 s) := by
  intro a0 s
  unfold ringEnter
  extract_lets +onlyGivenNames x0
  have h1 : onlyIn [.mc] s x0 := by
    dsimp only [x0]
    refine onlyIn_step (frame_updMc _ _) rfl ?_
    exact onlyIn_refl _ _
  clear_value x0
  refine onlyIn_ite ?_ ?_
  · exact h1
  · refine onlyIn_fold _ _ (fun st2 a3 => ?_) ?_
    · refine onlyIn_step (frame_bankPower _ _ _) rfl ?_
      exact onlyIn_refl _ _
    · exact h1

theorem frame_ringZero : ∀ s, onlyIn [.mc] s (ringZero s) := by
  intro s
  unfold ringZero
  refine onlyIn_step (frame_updMc _ _) rfl ?_
  exact onlyIn_refl _ _

theorem frame_ringRelease : ∀ s, onlyIn [.mc] s (ringRelease s) := by
  intro s
  unfold ringRelease
  refine onlyIn_ite ?_ ?_
  · refine onlyIn_step (frame_ringEnter _ _) rfl ?_
    refine onlyIn_step (frame_ringZero _) rfl ?_
    exact onlyIn_refl _ _
  · refine onlyIn_step (frame_updMc _ _) rfl ?_
    exact onlyIn_refl _ _

theorem frame_mapLose : ∀ s, onlyIn [.cf, .mc] s (mapLose s) := by
  intro s
  unfold mapLose
  refine onlyIn_step (onlyIn_put_cf_mc _ _ _) rfl ?_
  exact onlyIn_refl _ _

theorem frame_answerFlush : ∀ s, onlyIn [.mb, .mc, .out] s (answerFlush s) := by
  intro s
  unfold answerFlush
  refine onlyIn_ite ?_ ?_
  · refine onlyIn_step (frame_updMc _ _) rfl ?_
    refine onlyIn_step (frame_resolve _ _ _ _) rfl ?_
    exact onlyIn_refl _ _
  · exact onlyIn_refl _ _

theorem frame_ringFree : ∀ s, onlyIn [.mc] s (ringFree s) := by
  intro s
  unfold ringFree
  refine onlyIn_ite ?_ ?_
  · refine onlyIn_step (frame_ringEnter _ _) rfl ?_
    refine onlyIn_step (frame_updMc _ _) rfl ?_
    exact onlyIn_refl _ _
  · refine onlyIn_step (frame_ringEnter _ _) rfl ?_
    exact onlyIn_refl _ _

theorem frame_updCap : ∀ a0 s, onlyIn [.qz] s (updCap a0 s) := by
  intro a0 s
  unfold updCap
  refine onlyIn_step (onlyIn_put_qz _ _) rfl ?_
  exact onlyIn_refl _ _

theorem frame_capturePreempt : ∀ s, onlyIn [.mb, .pf, .ev, .qz, .out] s (capturePreempt s) := by
  intro s
  unfold capturePreempt
  refine onlyIn_step (frame_happen _ _ _ _) rfl ?_
  refine onlyIn_step (frame_updCap _ _) rfl ?_
  exact onlyIn_refl _ _

theorem frame_bodyStoreStatus : ∀ a0 s, onlyIn [] s (bodyStoreStatus a0 s).1 := by
  intro a0 s
  unfold bodyStoreStatus
  unfold emptyPayload
  try beta_reduce
  refine onlyIn_ite1 ?_ ?_
  · extract_lets +onlyGivenNames x0
    clear_value x0
    extract_lets +onlyGivenNames x1
    clear_value x1
    extract_lets +onlyGivenNames x2
    clear_value x2
    extract_lets +onlyGivenNames x3
    clear_value x3
    extract_lets +onlyGivenNames x4
    clear_value x4
    refine onlyIn_ans ?_
    exact onlyIn_refl _ _
  · refine onlyIn_ans ?_
    exact onlyIn_refl _ _

theorem frame_bodyMcStatus : ∀ a0 s, onlyIn [] s (bodyMcStatus a0 s).1 := by
  intro a0 s
  unfold bodyMcStatus
  unfold emptyPayload
  try beta_reduce
  refine onlyIn_ite1 ?_ ?_
  · extract_lets +onlyGivenNames x0
    clear_value x0
    refine onlyIn_ans ?_
    exact onlyIn_refl _ _
  · refine onlyIn_ans ?_
    exact onlyIn_refl _ _

theorem frame_bodyMapFlush : ∀ a0 s, onlyIn [.mc] s (bodyMapFlush a0 s).1 := by
  intro a0 s
  unfold bodyMapFlush
  unfold emptyPayload
  try beta_reduce
  refine onlyIn_ite1 ?_ ?_
  · refine onlyIn_ite1 ?_ ?_
    · refine onlyIn_ans ?_
      exact onlyIn_refl _ _
    · refine onlyIn_ite1 ?_ ?_
      · refine onlyIn_pair1 ?_
        exact onlyIn_refl _ _
      · refine onlyIn_pair1 ?_
        refine onlyIn_step (frame_updMc _ _) rfl ?_
        exact onlyIn_refl _ _
  · refine onlyIn_ans ?_
    exact onlyIn_refl _ _

theorem frame_bodyMcBankState : ∀ a0 s, onlyIn [.mc] s (bodyMcBankState a0 s).1 := by
  intro a0 s
  unfold bodyMcBankState
  extract_lets +onlyGivenNames x0
  clear_value x0
  extract_lets +onlyGivenNames x1
  clear_value x1
  refine onlyIn_ite1 ?_ ?_
  · refine onlyIn_ans ?_
    exact onlyIn_refl _ _
  · refine onlyIn_ite1 ?_ ?_
    · refine onlyIn_ans ?_
      exact onlyIn_refl _ _
    · extract_lets +onlyGivenNames x2
      have h3 : onlyIn [.mc] s x2 := by
        dsimp only [x2]
        refine onlyIn_step (frame_bankPower _ _ _) rfl ?_
        exact onlyIn_refl _ _
      clear_value x2
      refine onlyIn_ans ?_
      exact h3

theorem frame_bodyQzRawCaptureRead : ∀ a0 s, onlyIn [.qz, .mc] s (bodyQzRawCaptureRead a0 s).1 := by
  intro a0 s
  unfold bodyQzRawCaptureRead
  unfold withOp
  try beta_reduce
  refine onlyIn_ite1 ?_ ?_
  · extract_lets +onlyGivenNames x0
    clear_value x0
    extract_lets +onlyGivenNames x1
    clear_value x1
    extract_lets +onlyGivenNames x2
    clear_value x2
    refine onlyIn_ite1 ?_ ?_
    · refine onlyIn_ans ?_
      exact onlyIn_refl _ _
    · extract_lets +onlyGivenNames x3
      clear_value x3
      extract_lets +onlyGivenNames x4
      clear_value x4
      refine onlyIn_ans ?_
      refine onlyIn_ite ?_ ?_
      · refine onlyIn_step (frame_ringFree _) rfl ?_
        refine onlyIn_step (frame_updCap _ _) rfl ?_
        exact onlyIn_refl _ _
      · exact onlyIn_refl _ _
  · refine onlyIn_ans ?_
    exact onlyIn_refl _ _

theorem frame_bodyQzRawCaptureStart : ∀ a0 s, onlyIn [.qz, .mc] s (bodyQzRawCaptureStart a0 s).1 := by
  intro a0 s
  unfold bodyQzRawCaptureStart
  unfold withOp
  try beta_reduce
  refine onlyIn_ite1 ?_ ?_
  · extract_lets +onlyGivenNames x0
    clear_value x0
    extract_lets +onlyGivenNames x1
    clear_value x1
    extract_lets +onlyGivenNames x2
    clear_value x2
    extract_lets +onlyGivenNames x3
    clear_value x3
    refine onlyIn_ite1 ?_ ?_
    · refine onlyIn_ans ?_
      exact onlyIn_refl _ _
    · refine onlyIn_ite1 ?_ ?_
      · refine onlyIn_ans ?_
        exact onlyIn_refl _ _
      · refine onlyIn_ite1 ?_ ?_
        · refine onlyIn_ans ?_
          exact onlyIn_refl _ _
        · refine onlyIn_ite1 ?_ ?_
          · refine onlyIn_ans ?_
            exact onlyIn_refl _ _
          · extract_lets +onlyGivenNames x4
            clear_value x4
            extract_lets +onlyGivenNames x5
            have h6 : onlyIn [.qz, .mc] s x5 := by
              dsimp only [x5]
              refine onlyIn_step (frame_ringEnter _ _) rfl ?_
              refine onlyIn_step (frame_updCap _ _) rfl ?_
              exact onlyIn_refl _ _
            clear_value x5
            refine onlyIn_ans ?_
            exact h6
  · refine onlyIn_ans ?_
    exact onlyIn_refl _ _

theorem frame_bodyQzRawCaptureStop : ∀ a0 s, onlyIn [.qz, .mc] s (bodyQzRawCaptureStop a0 s).1 := by
  intro a0 s
  unfold bodyQzRawCaptureStop
  unfold withOp
  try beta_reduce
  refine onlyIn_ite1 ?_ ?_
  · refine onlyIn_ite1 ?_ ?_
    · refine onlyIn_ans ?_
      exact onlyIn_refl _ _
    · refine onlyIn_ite1 ?_ ?_
      · refine onlyIn_ans ?_
        exact onlyIn_refl _ _
      · extract_lets +onlyGivenNames x0
        have h1 : onlyIn [.qz, .mc] s x0 := by
          dsimp only [x0]
          refine onlyIn_step (frame_updCap _ _) rfl ?_
          exact onlyIn_refl _ _
        clear_value x0
        extract_lets +onlyGivenNames x2
        have h3 : onlyIn [.qz, .mc] s x2 := by
          dsimp only [x2]
          refine onlyIn_ite ?_ ?_
          · refine onlyIn_step (frame_ringFree _) rfl ?_
            exact h1
          · exact h1
        clear_value x2
        refine onlyIn_ans ?_
        exact h3
  · refine onlyIn_ans ?_
    exact onlyIn_refl _ _

theorem frame_ringStaging : ∀ s, onlyIn [.mb, .pf, .ev, .qz, .mc, .out] s (ringStaging s) := by
  intro s
  unfold ringStaging
  split
  · refine onlyIn_step (frame_ringEnter _ _) rfl ?_
    exact onlyIn_refl _ _
  · exact onlyIn_refl _ _
  · refine onlyIn_ite ?_ ?_
    · refine onlyIn_step (frame_updMc _ _) rfl ?_
      exact onlyIn_refl _ _
    · refine onlyIn_step (frame_ringEnter _ _) rfl ?_
      refine onlyIn_step (frame_ringZero _) rfl ?_
      refine onlyIn_step (frame_capturePreempt _) rfl ?_
      exact onlyIn_refl _ _

theorem frame_serve : ∀ a0 s, onlyIn [.mc] s (serve a0 s) := by
  intro a0 s
  unfold serve
  refine onlyIn_step (frame_updMc _ _) rfl ?_
  exact onlyIn_refl _ _

theorem frame_churnResume : ∀ s, onlyIn [.mc] s (churnResume s) := by
  intro s
  unfold churnResume
  refine onlyIn_step (frame_serve _ _) rfl ?_
  refine onlyIn_step (frame_serve _ _) rfl ?_
  refine onlyIn_step (frame_serve _ _) rfl ?_
  refine onlyIn_step (frame_serve _ _) rfl ?_
  exact onlyIn_refl _ _

theorem frame_execRawCaptureDone : ∀ s t, execRawCaptureDone s = .next t → onlyIn [.qz, .mc] s t := by
  intro s t h
  unfold execRawCaptureDone at h
  cases h
  refine onlyIn_ite ?_ ?_
  · refine onlyIn_step (frame_updMc _ _) rfl ?_
    refine onlyIn_step (frame_updCap _ _) rfl ?_
    exact onlyIn_refl _ _
  · exact onlyIn_refl _ _

theorem frame_mirrorAgain : ∀ a0 a1 a2 s, onlyIn [.mc] s (mirrorAgain a0 a1 a2 s) := by
  intro a0 a1 a2 s
  unfold mirrorAgain
  extract_lets +onlyGivenNames x0
  clear_value x0
  refine onlyIn_step (frame_updMc _ _) rfl ?_
  exact onlyIn_refl _ _

theorem frame_mirrorAsk : ∀ a0 a1 a2 a3 s, onlyIn [.fb] s (mirrorAsk a0 a1 a2 a3 s) := by
  intro a0 a1 a2 a3 s
  unfold mirrorAsk
  refine onlyIn_step (frame_skimSend _ _ _ _ _) rfl ?_
  exact onlyIn_refl _ _

theorem frame_mirrorStore : ∀ a0 a1 s, onlyIn [.cf] s (mirrorStore a0 a1 s) := by
  intro a0 a1 s
  unfold mirrorStore
  extract_lets +onlyGivenNames x0
  clear_value x0
  extract_lets +onlyGivenNames x1
  clear_value x1
  extract_lets +onlyGivenNames x2
  clear_value x2
  extract_lets +onlyGivenNames x3
  have h4 : onlyIn [.cf] s x3 := by
    dsimp only [x3]
    refine onlyIn_ite ?_ ?_
    · exact onlyIn_refl _ _
    · refine onlyIn_step (onlyIn_put_cf _ _) rfl ?_
      exact onlyIn_refl _ _
  clear_value x3
  refine onlyIn_step (onlyIn_put_cf _ _) rfl ?_
  exact h4

theorem frame_execSharedRingTimer : ∀ s t, execSharedRingTimer s = .next t → onlyIn [.qz, .mc] s t := by
  intro s t h
  unfold execSharedRingTimer at h
  cases h
  split
  · refine onlyIn_ite ?_ ?_
    · refine onlyIn_fold _ _ (fun st0 a1 => ?_) ?_
      · refine onlyIn_step (frame_bankPower _ _ _) rfl ?_
        exact onlyIn_refl _ _
      · exact onlyIn_refl _ _
    · exact onlyIn_refl _ _
  · refine onlyIn_ite ?_ ?_
    · refine onlyIn_step (frame_ringFree _) rfl ?_
      refine onlyIn_step (frame_updCap _ _) rfl ?_
      exact onlyIn_refl _ _
    · exact onlyIn_refl _ _
  · exact onlyIn_refl _ _

theorem frame_execMapFlushPage : ∀ s t, execMapFlushPage s = .next t → onlyIn [.mc] s t := by
  intro s t h
  unfold execMapFlushPage at h
  cases h
  refine onlyIn_ite ?_ ?_
  · split
    · refine onlyIn_step (frame_updMc _ _) rfl ?_
      exact onlyIn_refl _ _
    · refine onlyIn_step (frame_updMc _ _) rfl ?_
      exact onlyIn_refl _ _
  · exact onlyIn_refl _ _

theorem frame_mirrorSend : ∀ s, onlyIn [.fb, .mc] s (mirrorSend s) := by
  intro s
  unfold mirrorSend
  split
  · exact onlyIn_refl _ _
  · extract_lets +onlyGivenNames x0
    clear_value x0
    extract_lets +onlyGivenNames x1
    clear_value x1
    extract_lets +onlyGivenNames x2
    clear_value x2
    extract_lets +onlyGivenNames x3
    have h4 : onlyIn [.fb, .mc] s x3.1 := by
      dsimp only [x3]
      refine onlyIn_step (frame_skimSend _ _ _ _ _) rfl ?_
      exact onlyIn_refl _ _
    clear_value x3
    refine onlyIn_ite ?_ ?_
    · refine onlyIn_step (frame_updMc _ _) rfl ?_
      exact onlyIn_refl _ _
    · refine onlyIn_ite ?_ ?_
      · refine onlyIn_step (frame_updMc _ _) rfl ?_
        exact h4
      · exact onlyIn_refl _ _

theorem frame_execMapMirrorPage : ∀ a0 s t, execMapMirrorPage a0 s = .next t → onlyIn [.cf, .fb, .mc] s t := by
  intro a0 s t h
  unfold execMapMirrorPage at h
  cases h
  refine onlyIn_ite ?_ ?_
  · exact onlyIn_refl _ _
  · split
    · refine onlyIn_step (frame_mirrorSend _) rfl ?_
      exact onlyIn_refl _ _
    · refine onlyIn_step (frame_mirrorStore _ _ _) rfl ?_
      exact onlyIn_refl _ _

theorem frame_execWearCompaction : ∀ a0 s t, execWearCompaction a0 s = .next t → onlyIn [.mc] s t := by
  intro a0 s t h
  unfold execWearCompaction at h
  cases h
  refine onlyIn_ite ?_ ?_
  · refine onlyIn_step (frame_serve _ _) rfl ?_
    exact onlyIn_refl _ _
  · exact onlyIn_refl _ _

theorem frame_execTapCalibrationCopy : ∀ s t, execTapCalibrationCopy s = .next t → onlyIn [.qz, .mc] s t := by
  intro s t h
  unfold execTapCalibrationCopy at h
  cases h
  refine onlyIn_ite ?_ ?_
  · refine onlyIn_step (frame_serve _ _) rfl ?_
    refine onlyIn_step (frame_quartzCopyCal _) rfl ?_
    exact onlyIn_refl _ _
  · exact onlyIn_refl _ _

theorem frame_execConverterSelfCalibration : ∀ a0 a1 s t, execConverterSelfCalibration a0 a1 s = .next t → onlyIn [.mc] s t := by
  intro a0 a1 s t h
  unfold execConverterSelfCalibration at h
  extract_lets +onlyGivenNames x0 at h
  clear_value x0
  cases h
  refine onlyIn_ite ?_ ?_
  · exact onlyIn_refl _ _
  · extract_lets +onlyGivenNames x1
    have h2 : onlyIn [.mc] s x1 := by
      dsimp only [x1]
      refine onlyIn_step (frame_updMc _ _) rfl ?_
      exact onlyIn_refl _ _
    clear_value x1
    refine onlyIn_step (frame_serve _ _) rfl ?_
    exact h2

theorem frame_execAlmanacCollection : ∀ a0 a1 s t, execAlmanacCollection a0 a1 s = .next t → onlyIn [.mc] s t := by
  intro a0 a1 s t h
  unfold execAlmanacCollection at h
  cases h
  refine onlyIn_ite ?_ ?_
  · refine onlyIn_step (frame_serve _ _) rfl ?_
    refine onlyIn_step (frame_updMc _ _) rfl ?_
    exact onlyIn_refl _ _
  · exact onlyIn_refl _ _

theorem frame_execTelemetry : ∀ s t, execTelemetry s = .next t → onlyIn [.mc] s t := by
  intro s t h
  unfold execTelemetry at h
  cases h
  refine onlyIn_ite ?_ ?_
  · refine onlyIn_step (frame_serve _ _) rfl ?_
    refine onlyIn_step (frame_updMc _ _) rfl ?_
    exact onlyIn_refl _ _
  · exact onlyIn_refl _ _

theorem frame_execChurnStarvation : ∀ a0 s t, execChurnStarvation a0 s = .next t → onlyIn [.mb, .pf, .ev, .mc, .out] s t := by
  intro a0 s t h
  unfold execChurnStarvation at h
  extract_lets +onlyGivenNames x0 at h
  clear_value x0
  cases h
  refine onlyIn_ite ?_ ?_
  · refine onlyIn_step (frame_happen _ _ _ _) rfl ?_
    refine onlyIn_step (frame_updMc _ _) rfl ?_
    exact onlyIn_refl _ _
  · exact onlyIn_refl _ _

theorem frame_execNandLifeCheck : ∀ a0 s t, execNandLifeCheck a0 s = .next t → onlyIn [.mb, .pf, .ev, .mc, .out] s t := by
  intro a0 s t h
  unfold execNandLifeCheck at h
  extract_lets +onlyGivenNames x0 at h
  clear_value x0
  extract_lets +onlyGivenNames x1 at h
  have h2 : onlyIn [.mb, .pf, .ev, .mc, .out] s x1 := by
    dsimp only [x1]
    refine onlyIn_step (frame_updMc _ _) rfl ?_
    exact onlyIn_refl _ _
  clear_value x1
  extract_lets +onlyGivenNames x3 at h
  have h4 : onlyIn [.mb, .pf, .ev, .mc, .out] s x3 := by
    dsimp only [x3]
    refine onlyIn_step (frame_detect _ _ _ _ _) rfl ?_
    exact h2
  clear_value x3
  cases h
  refine onlyIn_ite ?_ ?_
  · refine onlyIn_ite ?_ ?_
    · refine onlyIn_step (frame_raise _ _ _ _ _) rfl ?_
      exact h4
    · exact h4
  · exact onlyIn_refl _ _

theorem frame_pageDurable : ∀ s, onlyIn [.mb, .cf, .mc, .out] s (pageDurable s) := by
  intro s
  unfold pageDurable
  split
  · exact onlyIn_refl _ _
  · extract_lets +onlyGivenNames x0
    clear_value x0
    extract_lets +onlyGivenNames x1
    clear_value x1
    extract_lets +onlyGivenNames x2
    clear_value x2
    extract_lets +onlyGivenNames x3
    have h4 : onlyIn [.mb, .cf, .mc, .out] s x3 := by
      dsimp only [x3]
      refine onlyIn_step (onlyIn_put_cf _ _) rfl ?_
      exact onlyIn_refl _ _
    clear_value x3
    refine onlyIn_step (frame_answerFlush _) rfl ?_
    refine onlyIn_step (frame_updMc _ _) rfl ?_
    exact h4

end Sys2Proof.Machine
end

