-- ==== Sys2Proof/Laws/FramePower.lean ====
section
/-!
SUPPORT. Laws/FramePower.lean: the parts of the state that the definitions of Machine/Power.lean may change.
-/

namespace Sys2Proof.Machine

open Sys2Proof.Safety

theorem frame_updPw : ∀ a0 s, onlyIn [.pw] s (updPw a0 s) := by
  intro a0 s
  unfold updPw
  refine onlyIn_step (onlyIn_put_pw _ _) rfl ?_
  exact onlyIn_refl _ _

theorem frame_updSup : ∀ a0 a1 s, onlyIn [.pw] s (updSup a0 a1 s) := by
  intro a0 a1 s
  unfold updSup
  refine onlyIn_step (frame_updPw _ _) rfl ?_
  exact onlyIn_refl _ _

theorem frame_supApply : ∀ s, onlyIn [.mb, .pf, .ev, .pw, .out] s (supApply s) := by
  intro s
  unfold supApply
  refine onlyIn_fold _ _ (fun st0 a1 => ?_) ?_
  · refine onlyIn_ite ?_ ?_
    · refine onlyIn_ite ?_ ?_
      · refine onlyIn_step (frame_updSup _ _ _) rfl ?_
        exact onlyIn_refl _ _
      · exact onlyIn_refl _ _
    · refine onlyIn_step (frame_detect _ _ _ _ _) rfl ?_
      refine onlyIn_step (frame_updSup _ _ _) rfl ?_
      exact onlyIn_refl _ _
  · exact onlyIn_refl _ _

theorem frame_setDom : ∀ a0 a1 s, onlyIn [.pw] s (setDom a0 a1 s) := by
  intro a0 a1 s
  unfold setDom
  refine onlyIn_step (frame_updPw _ _) rfl ?_
  exact onlyIn_refl _ _

theorem frame_domainOff : ∀ a0 s, onlyIn [.mb, .pf, .ev, .qz, .gn, .pw, .sp, .out] s (domainOff a0 s) := by
  intro a0 s
  unfold domainOff
  extract_lets +onlyGivenNames x0
  have h1 : onlyIn [.mb, .pf, .ev, .qz, .gn, .pw, .sp, .out] s x0 := by
    dsimp only [x0]
    split
    · refine onlyIn_step (frame_quartzStop _) rfl ?_
      exact onlyIn_refl _ _
    · refine onlyIn_step (frame_updGn _ _) rfl ?_
      refine onlyIn_step (frame_gnssStop _) rfl ?_
      exact onlyIn_refl _ _
    · refine onlyIn_step (frame_panelLose _ _) rfl ?_
      exact onlyIn_refl _ _
    · exact onlyIn_refl _ _
  clear_value x0
  refine onlyIn_step (frame_supApply _) rfl ?_
  refine onlyIn_step (frame_setDom _ _ _) rfl ?_
  exact h1

theorem frame_domainOn : ∀ a0 s, onlyIn [.mb, .pf, .ev, .qz, .gn, .pw, .sp, .out] s (domainOn a0 s) := by
  intro a0 s
  unfold domainOn
  extract_lets +onlyGivenNames x0
  have h1 : onlyIn [.mb, .pf, .ev, .qz, .gn, .pw, .sp, .out] s x0 := by
    dsimp only [x0]
    refine onlyIn_step (frame_supApply _) rfl ?_
    refine onlyIn_step (frame_setDom _ _ _) rfl ?_
    exact onlyIn_refl _ _
  clear_value x0
  split
  · refine onlyIn_step (frame_quartzStart _) rfl ?_
    exact h1
  · refine onlyIn_step (frame_gnssStart _) rfl ?_
    exact h1
  · refine onlyIn_step (frame_panelRecover _) rfl ?_
    refine onlyIn_step (frame_updSp _ _) rfl ?_
    exact h1
  · exact h1

theorem frame_bodyDomainState : ∀ a0 s, onlyIn [.mb, .pf, .ev, .qz, .gn, .pw, .sp, .out] s (bodyDomainState a0 s).1 := by
  intro a0 s
  unfold bodyDomainState
  extract_lets +onlyGivenNames x0
  clear_value x0
  extract_lets +onlyGivenNames x1
  clear_value x1
  extract_lets +onlyGivenNames x2
  clear_value x2
  refine onlyIn_ite1 ?_ ?_
  · refine onlyIn_ans ?_
    exact onlyIn_refl _ _
  · refine onlyIn_ite1 ?_ ?_
    · refine onlyIn_ans ?_
      exact onlyIn_refl _ _
    · extract_lets +onlyGivenNames x3
      clear_value x3
      extract_lets +onlyGivenNames x4
      have h5 : onlyIn [.mb, .pf, .ev, .qz, .gn, .pw, .sp, .out] s x4 := by
        dsimp only [x4]
        refine onlyIn_ite ?_ ?_
        · refine onlyIn_ite ?_ ?_
          · exact onlyIn_refl _ _
          · refine onlyIn_step (frame_domainOff _ _) rfl ?_
            exact onlyIn_refl _ _
        · refine onlyIn_ite ?_ ?_
          · refine onlyIn_step (frame_domainOn _ _) rfl ?_
            exact onlyIn_refl _ _
          · exact onlyIn_refl _ _
      clear_value x4
      refine onlyIn_ans ?_
      exact h5

theorem frame_bodyPowerStatus : ∀ a0 s, onlyIn [] s (bodyPowerStatus a0 s).1 := by
  intro a0 s
  unfold bodyPowerStatus
  unfold emptyPayload
  try beta_reduce
  refine onlyIn_ite1 ?_ ?_
  · extract_lets +onlyGivenNames x0
    clear_value x0
    refine onlyIn_ans ?_
    exact onlyIn_refl _ _
  · refine onlyIn_ans ?_
    exact onlyIn_refl _ _

theorem frame_bodyStandbyEnter : ∀ a0 s, onlyIn [.mb, .pw] s (bodyStandbyEnter a0 s).1 := by
  intro a0 s
  unfold bodyStandbyEnter
  dsimp only
  unfold timedBody
  try beta_reduce
  split
  · refine onlyIn_ans ?_
    exact onlyIn_refl _ _
  · refine onlyIn_ite1 ?_ ?_
    · refine onlyIn_ans ?_
      exact onlyIn_refl _ _
    · split
      · refine onlyIn_ans ?_
        exact onlyIn_refl _ _
      · refine onlyIn_ite1 ?_ ?_
        · refine onlyIn_ans ?_
          exact onlyIn_refl _ _
        · refine onlyIn_ite1 ?_ ?_
          · refine onlyIn_ans ?_
            exact onlyIn_refl _ _
          · extract_lets +onlyGivenNames x0
            clear_value x0
            extract_lets +onlyGivenNames x1
            have h2 : onlyIn [.mb, .pw] s x1.1 := by
              dsimp only [x1]
              try refine onlyIn_pair1 ?_
              refine onlyIn_step (frame_updPw _ _) rfl ?_
              refine onlyIn_step (frame_handOver _ _) rfl ?_
              exact onlyIn_refl _ _
            clear_value x1
            refine onlyIn_ans ?_
            exact h2

theorem frame_updAn : ∀ a0 s, onlyIn [.an] s (updAn a0 s) := by
  intro a0 s
  unfold updAn
  refine onlyIn_step (onlyIn_put_an _ _) rfl ?_
  exact onlyIn_refl _ _

theorem frame_execVsupReducedEntry : ∀ a0 a1 s t, execVsupReducedEntry a0 a1 s = .next t → onlyIn [.an, .pw, .sp] s t := by
  intro a0 a1 s t h
  unfold execVsupReducedEntry at h
  cases h
  refine onlyIn_ite ?_ ?_
  · extract_lets +onlyGivenNames x0
    clear_value x0
    refine onlyIn_step (frame_panelPause _) rfl ?_
    refine onlyIn_step (frame_updPw _ _) rfl ?_
    refine onlyIn_step (frame_updAn _ _) rfl ?_
    exact onlyIn_refl _ _
  · exact onlyIn_refl _ _

theorem frame_execVsupNormalReturn : ∀ a0 a1 s t, execVsupNormalReturn a0 a1 s = .next t → onlyIn [.mc, .an, .pw, .sp] s t := by
  intro a0 a1 s t h
  unfold execVsupNormalReturn at h
  cases h
  refine onlyIn_ite ?_ ?_
  · extract_lets +onlyGivenNames x0
    clear_value x0
    refine onlyIn_step (frame_churnResume _) rfl ?_
    refine onlyIn_step (frame_panelResume _) rfl ?_
    refine onlyIn_step (frame_updPw _ _) rfl ?_
    refine onlyIn_step (frame_updAn _ _) rfl ?_
    exact onlyIn_refl _ _
  · exact onlyIn_refl _ _

theorem frame_vbatLeave : ∀ a0 a1 s, onlyIn [.mb, .pf, .ev, .vd, .ls, .an, .pw, .out, .free] s (vbatLeave a0 a1 s) := by
  intro a0 a1 s
  unfold vbatLeave
  extract_lets +onlyGivenNames x0
  have h1 : onlyIn [.mb, .pf, .ev, .vd, .ls, .an, .pw, .out, .free] s x0 := by
    dsimp only [x0]
    refine onlyIn_step (frame_updPw _ _) rfl ?_
    refine onlyIn_step (frame_updAn _ _) rfl ?_
    exact onlyIn_refl _ _
  clear_value x0
  refine onlyIn_step (frame_lsVbatOff _) rfl ?_
  refine onlyIn_fold _ _ (fun st2 a3 => ?_) ?_
  · refine onlyIn_step (frame_vdOff _ _) rfl ?_
    exact onlyIn_refl _ _
  · exact h1

theorem frame_execVbatLowEntry : ∀ a0 a1 s t, execVbatLowEntry a0 a1 s = .next t → onlyIn [.mb, .pf, .ev, .vd, .ls, .an, .pw, .out, .free] s t := by
  intro a0 a1 s t h
  unfold execVbatLowEntry at h
  cases h
  refine onlyIn_ite ?_ ?_
  · refine onlyIn_step (frame_vbatLeave _ _ _) rfl ?_
    exact onlyIn_refl _ _
  · exact onlyIn_refl _ _

theorem frame_execVbatHighEntry : ∀ a0 a1 s t, execVbatHighEntry a0 a1 s = .next t → onlyIn [.mb, .pf, .ev, .vd, .ls, .an, .pw, .out, .free] s t := by
  intro a0 a1 s t h
  unfold execVbatHighEntry at h
  cases h
  refine onlyIn_ite ?_ ?_
  · refine onlyIn_step (frame_vbatLeave _ _ _) rfl ?_
    exact onlyIn_refl _ _
  · exact onlyIn_refl _ _

theorem frame_execVbatNormalReturn : ∀ a0 a1 s t, execVbatNormalReturn a0 a1 s = .next t → onlyIn [.ls, .an, .pw] s t := by
  intro a0 a1 s t h
  unfold execVbatNormalReturn at h
  cases h
  extract_lets +onlyGivenNames x0
  clear_value x0
  refine onlyIn_ite ?_ ?_
  · refine onlyIn_step (frame_lsVbatOn _) rfl ?_
    refine onlyIn_step (frame_updPw _ _) rfl ?_
    refine onlyIn_step (frame_updAn _ _) rfl ?_
    exact onlyIn_refl _ _
  · exact onlyIn_refl _ _

theorem frame_execVbatUvOvDetect : ∀ a0 a1 s t, execVbatUvOvDetect a0 a1 s = .next t → onlyIn [.mb, .pf, .ev, .an, .out] s t := by
  intro a0 a1 s t h
  unfold execVbatUvOvDetect at h
  extract_lets +onlyGivenNames x0 at h
  clear_value x0
  extract_lets +onlyGivenNames x1 at h
  clear_value x1
  extract_lets +onlyGivenNames x2 at h
  have h3 : onlyIn [.mb, .pf, .ev, .an, .out] s x2 := by
    dsimp only [x2]
    refine onlyIn_step (frame_updAn _ _) rfl ?_
    exact onlyIn_refl _ _
  clear_value x2
  extract_lets +onlyGivenNames x4 at h
  have h5 : onlyIn [.mb, .pf, .ev, .an, .out] s x4 := by
    dsimp only [x4]
    refine onlyIn_ite ?_ ?_
    · refine onlyIn_step (frame_beginCond _ _ _ _) rfl ?_
      exact h3
    · exact h3
  clear_value x4
  cases h
  refine onlyIn_ite ?_ ?_
  · refine onlyIn_step (frame_beginCond _ _ _ _) rfl ?_
    exact h5
  · exact h5

theorem frame_execSensorSupplyFault : ∀ a0 a1 a2 a3 s t, execSensorSupplyFault a0 a1 a2 a3 s = .next t → onlyIn [.mb, .pf, .ev, .pw, .out] s t := by
  intro a0 a1 a2 a3 s t h
  unfold execSensorSupplyFault at h
  extract_lets +onlyGivenNames x0 at h
  clear_value x0
  extract_lets +onlyGivenNames x1 at h
  clear_value x1
  extract_lets +onlyGivenNames x2 at h
  clear_value x2
  extract_lets +onlyGivenNames x3 at h
  clear_value x3
  extract_lets +onlyGivenNames x4 at h
  clear_value x4
  cases h
  refine onlyIn_ite ?_ ?_
  · refine onlyIn_step (frame_beginCond _ _ _ _) rfl ?_
    refine onlyIn_step (frame_updSup _ _ _) rfl ?_
    exact onlyIn_refl _ _
  · refine onlyIn_ite ?_ ?_
    · refine onlyIn_step (frame_updSup _ _ _) rfl ?_
      exact onlyIn_refl _ _
    · exact onlyIn_refl _ _

theorem frame_supBack : ∀ a0 s, onlyIn [.mb, .pf, .ev, .pw, .out] s (supBack a0 s) := by
  intro a0 s
  unfold supBack
  refine onlyIn_step (frame_detect _ _ _ _ _) rfl ?_
  refine onlyIn_step (frame_updSup _ _ _) rfl ?_
  exact onlyIn_refl _ _

theorem frame_execSensorSupplyRetry : ∀ a0 a1 s t, execSensorSupplyRetry a0 a1 s = .next t → onlyIn [.mb, .pf, .ev, .pw, .out] s t := by
  intro a0 a1 s t h
  unfold execSensorSupplyRetry at h
  extract_lets +onlyGivenNames x0 at h
  clear_value x0
  cases h
  refine onlyIn_ite ?_ ?_
  · refine onlyIn_ite ?_ ?_
    · refine onlyIn_step (frame_updSup _ _ _) rfl ?_
      exact onlyIn_refl _ _
    · refine onlyIn_step (frame_supBack _ _) rfl ?_
      exact onlyIn_refl _ _
  · exact onlyIn_refl _ _

theorem frame_tempJudge : ∀ a0 a1 s, onlyIn [.mb, .pf, .ev, .an, .pw, .out] s (tempJudge a0 a1 s) := by
  intro a0 a1 s
  unfold tempJudge
  extract_lets +onlyGivenNames x0
  clear_value x0
  extract_lets +onlyGivenNames x1
  clear_value x1
  extract_lets +onlyGivenNames x2
  have h3 : onlyIn [.mb, .pf, .ev, .an, .pw, .out] s x2 := by
    dsimp only [x2]
    refine onlyIn_step (frame_updAn _ _) rfl ?_
    exact onlyIn_refl _ _
  clear_value x2
  extract_lets +onlyGivenNames x4
  have h5 : onlyIn [.mb, .pf, .ev, .an, .pw, .out] s x4 := by
    dsimp only [x4]
    refine onlyIn_ite ?_ ?_
    · refine onlyIn_step (frame_beginCond _ _ _ _) rfl ?_
      exact h3
    · refine onlyIn_ite ?_ ?_
      · refine onlyIn_step (frame_detect _ _ _ _ _) rfl ?_
        exact h3
      · exact h3
  clear_value x4
  refine onlyIn_step (frame_updPw _ _) rfl ?_
  exact h5

theorem frame_execOverTemperature : ∀ a0 a1 s t, execOverTemperature a0 a1 s = .next t → onlyIn [.mb, .pf, .ev, .an, .pw, .out] s t := by
  intro a0 a1 s t h
  unfold execOverTemperature at h
  cases h
  refine onlyIn_step (frame_tempJudge _ _ _) rfl ?_
  exact onlyIn_refl _ _

theorem frame_execStopInputChange : ∀ a0 a1 s t, execStopInputChange a0 a1 s = .next t → onlyIn [.mb, .pf, .ev, .vd, .ls, .an, .pw, .out, .free] s t := by
  intro a0 a1 s t h
  unfold execStopInputChange at h
  extract_lets +onlyGivenNames x0 at h
  clear_value x0
  extract_lets +onlyGivenNames x1 at h
  have h2 : onlyIn [.mb, .pf, .ev, .vd, .ls, .an, .pw, .out, .free] s x1 := by
    dsimp only [x1]
    refine onlyIn_step (frame_updAn _ _) rfl ?_
    exact onlyIn_refl _ _
  clear_value x1
  extract_lets +onlyGivenNames x3 at h
  have h4 : onlyIn [.mb, .pf, .ev, .vd, .ls, .an, .pw, .out, .free] s x3 := by
    dsimp only [x3]
    refine onlyIn_ite ?_ ?_
    · refine onlyIn_step (frame_lsStop _ _) rfl ?_
      refine onlyIn_step (frame_vdStop _ _) rfl ?_
      exact h2
    · exact h2
  clear_value x3
  cases h
  refine onlyIn_ite ?_ ?_
  · refine onlyIn_ite ?_ ?_
    · refine onlyIn_step (frame_updPw _ _) rfl ?_
      exact h4
    · refine onlyIn_step (frame_detect _ _ _ _ _) rfl ?_
      refine onlyIn_step (frame_updPw _ _) rfl ?_
      exact h4
  · refine onlyIn_step (frame_updPw _ _) rfl ?_
    exact h4

theorem frame_execStopDiscrepancy : ∀ s t, execStopDiscrepancy s = .next t → onlyIn [.mb, .pf, .ev, .out] s t := by
  intro s t h
  unfold execStopDiscrepancy at h
  extract_lets +onlyGivenNames x0 at h
  clear_value x0
  cases h
  refine onlyIn_ite ?_ ?_
  · refine onlyIn_step (frame_beginCond _ _ _ _) rfl ?_
    exact onlyIn_refl _ _
  · refine onlyIn_ite ?_ ?_
    · refine onlyIn_step (frame_detect _ _ _ _ _) rfl ?_
      exact onlyIn_refl _ _
    · exact onlyIn_refl _ _

theorem frame_execClkKeepStop : ∀ s t, execClkKeepStop s = .next t → onlyIn [.pw] s t := by
  intro s t h
  unfold execClkKeepStop at h
  cases h
  refine onlyIn_step (frame_updPw _ _) rfl ?_
  exact onlyIn_refl _ _

theorem frame_execSensorSupplyShortRemoved : ∀ a0 s t, execSensorSupplyShortRemoved a0 s = .next t → onlyIn [.mb, .pf, .ev, .pw, .out] s t := by
  intro a0 s t h
  unfold execSensorSupplyShortRemoved at h
  cases h
  refine onlyIn_ite ?_ ?_
  · refine onlyIn_step (frame_supBack _ _) rfl ?_
    exact onlyIn_refl _ _
  · exact onlyIn_refl _ _

theorem frame_vbatSample : ∀ a0 s, onlyIn [.mb, .pf, .ev, .an, .out] s (vbatSample a0 s) := by
  intro a0 s
  unfold vbatSample
  extract_lets +onlyGivenNames x0
  have h1 : onlyIn [.mb, .pf, .ev, .an, .out] s x0 := by
    dsimp only [x0]
    refine onlyIn_step (frame_updAn _ _) rfl ?_
    exact onlyIn_refl _ _
  clear_value x0
  extract_lets +onlyGivenNames x2
  have h3 : onlyIn [.mb, .pf, .ev, .an, .out] s x2 := by
    dsimp only [x2]
    refine onlyIn_ite ?_ ?_
    · refine onlyIn_step (frame_detect _ _ _ _ _) rfl ?_
      exact h1
    · exact h1
  clear_value x2
  refine onlyIn_ite ?_ ?_
  · refine onlyIn_step (frame_detect _ _ _ _ _) rfl ?_
    exact h3
  · exact h3

end Sys2Proof.Machine
end

