-- ==== Sys2Proof/Laws/FrameLoops.lean ====
section
/-!
SUPPORT. Laws/FrameLoops.lean: the parts of the state that the definitions of Machine/Loops.lean may change.
-/

namespace Sys2Proof.Machine

open Sys2Proof.Safety

theorem frame_setLoop : ∀ a0 a1 s, onlyIn [.gr] s (setLoop a0 a1 s) := by
  intro a0 a1 s
  unfold setLoop
  refine onlyIn_step (onlyIn_put_gr _ _) rfl ?_
  exact onlyIn_refl _ _

theorem frame_updLoop : ∀ a0 a1 s, onlyIn [.gr] s (updLoop a0 a1 s) := by
  intro a0 a1 s
  unfold updLoop
  refine onlyIn_step (frame_setLoop _ _ _) rfl ?_
  exact onlyIn_refl _ _

theorem frame_runSlot : ∀ a0 a1 a2 a3 s, onlyIn [.gr] s (runSlot a0 a1 a2 a3 s).2.2 := by
  intro a0 a1 a2 a3 s
  unfold runSlot
  extract_lets +onlyGivenNames x0
  clear_value x0
  extract_lets +onlyGivenNames x1
  clear_value x1
  refine onlyIn_pair22 ?_
  refine onlyIn_pair2 ?_
  refine onlyIn_step (frame_setLoop _ _ _) rfl ?_
  exact onlyIn_refl _ _

theorem frame_sampleMembers : ∀ a0 s, onlyIn [.gr] s (sampleMembers a0 s).2 := by
  intro a0 s
  unfold sampleMembers
  refine onlyIn_fold2 _ _ (fun st0 a1 => ?_) ?_
  · extract_lets +onlyGivenNames x2
    have h3 : onlyIn [.gr] st0.2 x2.2.2 := by
      dsimp only [x2]
      refine onlyIn_step (frame_runSlot _ _ _ _ _) rfl ?_
      exact onlyIn_refl _ _
    clear_value x2
    refine onlyIn_pair2 ?_
    exact h3
  · refine onlyIn_pair2 ?_
    exact onlyIn_refl _ _

theorem frame_runGroup : ∀ a0 s, onlyIn [.gr] s (runGroup a0 s) := by
  intro a0 s
  unfold runGroup
  dsimp only
  split
  · exact onlyIn_refl _ _
  · split
    · refine onlyIn_step (frame_updFn _ _ _) rfl ?_
      refine onlyIn_fold _ _ (fun st0 a1 => ?_) ?_
      · refine onlyIn_ite ?_ ?_
        · exact onlyIn_refl _ _
        · refine onlyIn_step (frame_updLoop _ _ _) rfl ?_
          exact onlyIn_refl _ _
      · refine onlyIn_step (frame_sampleMembers _ _) rfl ?_
        exact onlyIn_refl _ _
    · refine onlyIn_fold _ _ (fun st2 a3 => ?_) ?_
      · refine onlyIn_ite ?_ ?_
        · exact onlyIn_refl _ _
        · refine onlyIn_step (frame_updLoop _ _ _) rfl ?_
          exact onlyIn_refl _ _
      · refine onlyIn_step (frame_sampleMembers _ _) rfl ?_
        exact onlyIn_refl _ _

end Sys2Proof.Machine
end

