-- ==== Sys2Proof/Laws/FrameSteer.lean ====
section
/-!
SUPPORT. Laws/FrameSteer.lean: the parts of the state that the definitions of Machine/Steer.lean may change.
-/

namespace Sys2Proof.Machine

open Sys2Proof.Safety

theorem frame_disengage : ∀ a0 s, onlyIn [.mb, .pf, .ev, .gr, .gn, .out] s (disengage a0 s) := by
  intro a0 s
  unfold disengage
  refine onlyIn_ite ?_ ?_
  · exact onlyIn_refl _ _
  · refine onlyIn_step (frame_happenMarked _ _ _ _ _) rfl ?_
    refine onlyIn_step (frame_steerOff _ _) rfl ?_
    exact onlyIn_refl _ _

theorem frame_updSteer : ∀ a0 s, onlyIn [.gn] s (updSteer a0 s) := by
  intro a0 s
  unfold updSteer
  refine onlyIn_step (frame_updGn _ _) rfl ?_
  exact onlyIn_refl _ _

theorem frame_applySteerEngage : ∀ a0 s, onlyIn [.mb, .pf, .ev, .gr, .gn, .out] s (applySteerEngage a0 s) := by
  intro a0 s
  unfold applySteerEngage
  refine onlyIn_ite ?_ ?_
  · refine onlyIn_ite ?_ ?_
    · exact onlyIn_refl _ _
    · refine onlyIn_ite ?_ ?_
      · refine onlyIn_step (frame_setLoop _ _ _) rfl ?_
        refine onlyIn_step (frame_updFn _ _ _) rfl ?_
        refine onlyIn_step (frame_updSteer _ _) rfl ?_
        exact onlyIn_refl _ _
      · refine onlyIn_step (frame_happen _ _ _ _) rfl ?_
        exact onlyIn_refl _ _
  · refine onlyIn_step (frame_disengage _ _) rfl ?_
    exact onlyIn_refl _ _

theorem frame_bodySteerEngage : ∀ a0 s, onlyIn [.mb] s (bodySteerEngage a0 s).1 := by
  intro a0 s
  unfold bodySteerEngage
  unfold timedBody
  try beta_reduce
  split
  · refine onlyIn_ans ?_
    exact onlyIn_refl _ _
  · refine onlyIn_ite1 ?_ ?_
    · refine onlyIn_ans ?_
      exact onlyIn_refl _ _
    · split
      · refine onlyIn_ans ?_
        exact onlyIn_refl _ _
      · refine onlyIn_ite1 ?_ ?_
        · refine onlyIn_ans ?_
          exact onlyIn_refl _ _
        · refine onlyIn_ite1 ?_ ?_
          · refine onlyIn_ans ?_
            exact onlyIn_refl _ _
          · extract_lets +onlyGivenNames x0
            clear_value x0
            extract_lets +onlyGivenNames x1
            have h2 : onlyIn [.mb] s x1.1 := by
              dsimp only [x1]
              unfold frameReply
              try beta_reduce
              refine onlyIn_pair1 ?_
              refine onlyIn_step (frame_handOver _ _) rfl ?_
              exact onlyIn_refl _ _
            clear_value x1
            refine onlyIn_ans ?_
            exact h2

theorem frame_deriveSignals : ∀ a0 s, onlyIn [.gr] s (deriveSignals a0 s) := by
  intro a0 s
  unfold deriveSignals
  extract_lets +onlyGivenNames x0
  clear_value x0
  refine onlyIn_step (frame_updGr _ _) rfl ?_
  exact onlyIn_refl _ _

theorem frame_steerLoop : ∀ s, onlyIn [.gr, .gn] s (steerLoop s) := by
  intro s
  unfold steerLoop
  split
  · extract_lets +onlyGivenNames x0
    have h1 : onlyIn [.gr, .gn] s x0.2.2 := by
      dsimp only [x0]
      refine onlyIn_step (frame_runSlot _ _ _ _ _) rfl ?_
      exact onlyIn_refl _ _
    clear_value x0
    refine onlyIn_step (frame_updSteer _ _) rfl ?_
    exact h1
  · exact onlyIn_refl _ _

theorem frame_steerMove : ∀ s, onlyIn [.gr, .gn] s (steerMove s) := by
  intro s
  unfold steerMove
  extract_lets +onlyGivenNames x0
  clear_value x0
  extract_lets +onlyGivenNames x1
  clear_value x1
  extract_lets +onlyGivenNames x2
  clear_value x2
  extract_lets +onlyGivenNames x3
  clear_value x3
  split
  · exact onlyIn_refl _ _
  · refine onlyIn_ite ?_ ?_
    · refine onlyIn_step (frame_updSteer _ _) rfl ?_
      exact onlyIn_refl _ _
    · refine onlyIn_ite ?_ ?_
      · refine onlyIn_step (frame_updSteer _ _) rfl ?_
        exact onlyIn_refl _ _
      · exact onlyIn_refl _ _
  · refine onlyIn_ite ?_ ?_
    · refine onlyIn_step (frame_updSteer _ _) rfl ?_
      exact onlyIn_refl _ _
    · refine onlyIn_ite ?_ ?_
      · exact onlyIn_refl _ _
      · refine onlyIn_step (frame_updLoop _ _ _) rfl ?_
        refine onlyIn_step (frame_updSteer _ _) rfl ?_
        exact onlyIn_refl _ _
  · refine onlyIn_ite ?_ ?_
    · refine onlyIn_step (frame_updLoop _ _ _) rfl ?_
      refine onlyIn_step (frame_updSteer _ _) rfl ?_
      exact onlyIn_refl _ _
    · refine onlyIn_step (frame_updSteer _ _) rfl ?_
      exact onlyIn_refl _ _

theorem frame_steerFrame : ∀ s, onlyIn [.mb, .pf, .ev, .gr, .gn, .out] s (steerFrame s) := by
  intro s
  unfold steerFrame
  extract_lets +onlyGivenNames x0
  clear_value x0
  extract_lets +onlyGivenNames x1
  have h2 : onlyIn [.mb, .pf, .ev, .gr, .gn, .out] s x1 := by
    dsimp only [x1]
    refine onlyIn_step (frame_updSteer _ _) rfl ?_
    exact onlyIn_refl _ _
  clear_value x1
  refine onlyIn_ite ?_ ?_
  · exact h2
  · refine onlyIn_ite ?_ ?_
    · refine onlyIn_step (frame_disengage _ _) rfl ?_
      exact h2
    · refine onlyIn_ite ?_ ?_
      · refine onlyIn_step (frame_disengage _ _) rfl ?_
        exact h2
      · refine onlyIn_ite ?_ ?_
        · refine onlyIn_step (frame_disengage _ _) rfl ?_
          exact h2
        · refine onlyIn_step (frame_steerMove _) rfl ?_
          exact h2

theorem frame_execSteerGraceExpiry : ∀ s t, execSteerGraceExpiry s = .next t → onlyIn [.mb, .pf, .ev, .gr, .gn, .out] s t := by
  intro s t h
  unfold execSteerGraceExpiry at h
  cases h
  refine onlyIn_ite ?_ ?_
  · refine onlyIn_step (frame_disengage _ _) rfl ?_
    exact onlyIn_refl _ _
  · exact onlyIn_refl _ _

end Sys2Proof.Machine
end

