-- ==== Sys2Proof/Laws/FrameGranite.lean ====
section
/-!
SUPPORT. Laws/FrameGranite.lean: the parts of the state that the definitions of Machine/Granite.lean may change.
-/

namespace Sys2Proof.Machine

open Sys2Proof.Safety

theorem frame_eachFn {T : List Part} {g : Bytes → State → State} {s x : State} (hg : ∀ e st, onlyIn T st (g e st)) (hx : onlyIn T s x) :
    onlyIn T s (eachFn g x) :=
  onlyIn_fold _ _ (fun st e => hg e st) hx

theorem frame_leaveProfile : ∀ a0 s, onlyIn [.mb, .pf, .ev, .vd, .ls, .out, .free] s (leaveProfile a0 s) := by
  intro a0 s
  unfold leaveProfile
  refine frame_eachFn (fun e0 st1 => ?_) ?_
  · refine onlyIn_ite ?_ ?_
    · exact onlyIn_refl _ _
    · refine onlyIn_step (frame_driveSafe _ _) rfl ?_
      exact onlyIn_refl _ _
  · exact onlyIn_refl _ _

theorem frame_graniteActivate : ∀ a0 a1 s, onlyIn [.mb, .pf, .ev, .gr, .gn, .fb, .out] s (graniteActivate a0 a1 s) := by
  intro a0 a1 s
  unfold graniteActivate
  extract_lets +onlyGivenNames x0
  clear_value x0
  extract_lets +onlyGivenNames x1
  clear_value x1
  extract_lets +onlyGivenNames x2
  have h3 : onlyIn [.mb, .pf, .ev, .gr, .gn, .fb, .out] s x2 := by
    dsimp only [x2]
    refine onlyIn_step (frame_updGr _ _) rfl ?_
    exact onlyIn_refl _ _
  clear_value x2
  extract_lets +onlyGivenNames x4
  clear_value x4
  extract_lets +onlyGivenNames x5
  have h6 : onlyIn [.mb, .pf, .ev, .gr, .gn, .fb, .out] s x5 := by
    dsimp only [x5]
    refine onlyIn_step (onlyIn_put_fb _ _) rfl ?_
    exact h3
  clear_value x5
  refine onlyIn_ite ?_ ?_
  · refine onlyIn_step (frame_disengage _ _) rfl ?_
    exact h6
  · exact h6

theorem frame_applyCoefBankSwap : ∀ a0 s, onlyIn [.pf, .gr] s (applyCoefBankSwap a0 s) := by
  intro a0 s
  unfold applyCoefBankSwap
  extract_lets +onlyGivenNames x0
  clear_value x0
  extract_lets +onlyGivenNames x1
  clear_value x1
  extract_lets +onlyGivenNames x2
  clear_value x2
  extract_lets +onlyGivenNames x3
  have h4 : onlyIn [.pf, .gr] s x3 := by
    dsimp only [x3]
    refine onlyIn_step (onlyIn_put_pf _ _) rfl ?_
    exact onlyIn_refl _ _
  clear_value x3
  refine onlyIn_fold _ _ (fun st5 a6 => ?_) ?_
  · refine onlyIn_fold _ _ (fun st7 a8 => ?_) ?_
    · refine onlyIn_step (frame_updLoop _ _ _) rfl ?_
      exact onlyIn_refl _ _
    · exact onlyIn_refl _ _
  · exact h4

theorem frame_applyFunctionSet : ∀ a0 s, onlyIn [.gr, .cf] s (applyFunctionSet a0 s) := by
  intro a0 s
  unfold applyFunctionSet
  extract_lets +onlyGivenNames x0
  clear_value x0
  extract_lets +onlyGivenNames x1
  clear_value x1
  extract_lets +onlyGivenNames x2
  have h3 : onlyIn [.gr, .cf] s x2 := by
    dsimp only [x2]
    refine onlyIn_fold _ _ (fun st4 a5 => ?_) ?_
    · refine onlyIn_ite ?_ ?_
      · exact onlyIn_refl _ _
      · split
        · refine onlyIn_step (frame_updFn _ _ _) rfl ?_
          exact onlyIn_refl _ _
        · exact onlyIn_refl _ _
    · exact onlyIn_refl _ _
  clear_value x2
  refine onlyIn_ite ?_ ?_
  · exact h3
  · refine onlyIn_step (frame_optHostSet _ _) rfl ?_
    exact h3

theorem frame_startFn : ∀ a0 a1 s, onlyIn [.gr] s (startFn a0 a1 s) := by
  intro a0 a1 s
  unfold startFn
  extract_lets +onlyGivenNames x0
  clear_value x0
  refine onlyIn_step (frame_updFn _ _ _) rfl ?_
  refine onlyIn_ite ?_ ?_
  · exact onlyIn_refl _ _
  · refine onlyIn_step (frame_setLoop _ _ _) rfl ?_
    exact onlyIn_refl _ _

theorem frame_enableFn : ∀ a0 s, onlyIn [.gr] s (enableFn a0 s) := by
  intro a0 s
  unfold enableFn
  extract_lets +onlyGivenNames x0
  clear_value x0
  refine onlyIn_ite ?_ ?_
  · exact onlyIn_refl _ _
  · split
    · refine onlyIn_step (frame_startFn _ _ _) rfl ?_
      exact onlyIn_refl _ _
    · refine onlyIn_step (frame_startFn _ _ _) rfl ?_
      exact onlyIn_refl _ _
    · extract_lets +onlyGivenNames x1
      clear_value x1
      refine onlyIn_step (frame_updLoop _ _ _) rfl ?_
      refine onlyIn_step (frame_updFn _ _ _) rfl ?_
      exact onlyIn_refl _ _
    · exact onlyIn_refl _ _

theorem frame_leaveEnabled : ∀ a0 a1 s, onlyIn [.mb, .pf, .ev, .gr, .cf, .vd, .ls, .out, .free] s (leaveEnabled a0 a1 s) := by
  intro a0 a1 s
  unfold leaveEnabled
  extract_lets +onlyGivenNames x0
  clear_value x0
  refine onlyIn_ite ?_ ?_
  · refine onlyIn_step (frame_updFn _ _ _) rfl ?_
    exact onlyIn_refl _ _
  · refine onlyIn_step (frame_fnToSafe _ _) rfl ?_
    refine onlyIn_step (frame_updFn _ _ _) rfl ?_
    exact onlyIn_refl _ _

theorem frame_disableFn : ∀ a0 s, onlyIn [.mb, .pf, .ev, .gr, .cf, .vd, .ls, .out, .free] s (disableFn a0 s) := by
  intro a0 s
  unfold disableFn
  extract_lets +onlyGivenNames x0
  clear_value x0
  split
  · refine onlyIn_step (frame_leaveEnabled _ _ _) rfl ?_
    exact onlyIn_refl _ _
  · refine onlyIn_ite ?_ ?_
    · exact onlyIn_refl _ _
    · refine onlyIn_step (frame_updFn _ _ _) rfl ?_
      exact onlyIn_refl _ _
  · exact onlyIn_refl _ _
  · exact onlyIn_refl _ _

theorem frame_applyFunctionEnable : ∀ a0 s, onlyIn [.mb, .pf, .ev, .gr, .cf, .vd, .ls, .out, .free] s (applyFunctionEnable a0 s) := by
  intro a0 s
  unfold applyFunctionEnable
  extract_lets +onlyGivenNames x0
  clear_value x0
  extract_lets +onlyGivenNames x1
  clear_value x1
  refine frame_eachFn (fun e2 st3 => ?_) ?_
  · extract_lets +onlyGivenNames x4
    clear_value x4
    refine onlyIn_ite ?_ ?_
    · refine onlyIn_step (frame_enableFn _ _) rfl ?_
      exact onlyIn_refl _ _
    · refine onlyIn_ite ?_ ?_
      · refine onlyIn_step (frame_disableFn _ _) rfl ?_
        exact onlyIn_refl _ _
      · exact onlyIn_refl _ _
  · exact onlyIn_refl _ _

theorem frame_capturedBytes : ∀ a0 s, onlyIn [.free] s (capturedBytes a0 s).2 := by
  intro a0 s
  unfold capturedBytes
  extract_lets +onlyGivenNames x0
  have h1 : onlyIn [.free] s x0.2 := by
    dsimp only [x0]
    refine onlyIn_step (frame_freshNat _) rfl ?_
    exact onlyIn_refl _ _
  clear_value x0
  refine onlyIn_step (frame_freshBytes _ _) rfl ?_
  exact h1

theorem frame_applyRecordCapture : ∀ a0 s, onlyIn [.gr, .free] s (applyRecordCapture a0 s) := by
  intro a0 s
  unfold applyRecordCapture
  extract_lets +onlyGivenNames x0
  have h1 : onlyIn [.gr, .free] s x0.2 := by
    dsimp only [x0]
    refine onlyIn_step (frame_capturedBytes _ _) rfl ?_
    exact onlyIn_refl _ _
  clear_value x0
  refine onlyIn_step (frame_updGr _ _) rfl ?_
  exact h1

theorem frame_startFns : ∀ s, onlyIn [.gr] s (startFns s) := by
  intro s
  unfold startFns
  refine frame_eachFn (fun e0 st1 => ?_) ?_
  · refine onlyIn_ite ?_ ?_
    · refine onlyIn_ite ?_ ?_
      · refine onlyIn_step (frame_startFn _ _ _) rfl ?_
        exact onlyIn_refl _ _
      · refine onlyIn_step (frame_updFn _ _ _) rfl ?_
        exact onlyIn_refl _ _
    · exact onlyIn_refl _ _
  · exact onlyIn_refl _ _

theorem frame_fallback : ∀ a0 a1 s, onlyIn [.mb, .pf, .ev, .gr, .cf, .vd, .ls, .out, .free] s (fallback a0 a1 s) := by
  intro a0 a1 s
  unfold fallback
  extract_lets +onlyGivenNames x0
  clear_value x0
  refine onlyIn_ite ?_ ?_
  · extract_lets +onlyGivenNames x1
    clear_value x1
    refine onlyIn_step (frame_happenMarked _ _ _ _ _) rfl ?_
    refine onlyIn_step (frame_leaveEnabled _ _ _) rfl ?_
    refine onlyIn_step (frame_updFn _ _ _) rfl ?_
    exact onlyIn_refl _ _
  · exact onlyIn_refl _ _

theorem frame_faultFns : ∀ s, onlyIn [.mb, .pf, .ev, .gr, .cf, .vd, .ls, .out, .free] s (faultFns s) := by
  intro s
  unfold faultFns
  refine frame_eachFn (fun e0 st1 => ?_) ?_
  · refine onlyIn_ite ?_ ?_
    · refine onlyIn_step (frame_fallback _ _ _) rfl ?_
      exact onlyIn_refl _ _
    · exact onlyIn_refl _ _
  · exact onlyIn_refl _ _

theorem frame_stopFns : ∀ s, onlyIn [.mb, .pf, .ev, .gr, .cf, .vd, .ls, .gn, .out, .free] s (stopFns s) := by
  intro s
  unfold stopFns
  refine frame_eachFn (fun e0 st1 => ?_) ?_
  · extract_lets +onlyGivenNames x2
    clear_value x2
    refine onlyIn_ite ?_ ?_
    · extract_lets +onlyGivenNames x3
      have h4 : onlyIn [.mb, .pf, .ev, .gr, .cf, .vd, .ls, .gn, .out, .free] st1 x3 := by
        dsimp only [x3]
        refine onlyIn_step (frame_fnToSafe _ _) rfl ?_
        refine onlyIn_step (frame_updFn _ _ _) rfl ?_
        exact onlyIn_refl _ _
      clear_value x3
      refine onlyIn_ite ?_ ?_
      · refine onlyIn_step (frame_steerOff _ _) rfl ?_
        exact h4
      · exact h4
    · exact onlyIn_refl _ _
  · exact onlyIn_refl _ _

theorem frame_bodyCoefBankSwap : ∀ a0 s, onlyIn [.mb] s (bodyCoefBankSwap a0 s).1 := by
  intro a0 s
  unfold bodyCoefBankSwap
  unfold timedBody
  try beta_reduce
  split
  · refine onlyIn_ans ?_
    exact onlyIn_refl _ _
  · refine onlyIn_ite1 ?_ ?_
    · refine onlyIn_ans ?_
      exact onlyIn_refl _ _
    · split
      · refine onlyIn_ans ?_
        exact onlyIn_refl _ _
      · refine onlyIn_ite1 ?_ ?_
        · refine onlyIn_ans ?_
          exact onlyIn_refl _ _
        · refine onlyIn_ite1 ?_ ?_
          · refine onlyIn_ans ?_
            exact onlyIn_refl _ _
          · extract_lets +onlyGivenNames x0
            clear_value x0
            extract_lets +onlyGivenNames x1
            have h2 : onlyIn [.mb] s x1.1 := by
              dsimp only [x1]
              unfold frameReply
              try beta_reduce
              refine onlyIn_pair1 ?_
              refine onlyIn_step (frame_handOver _ _) rfl ?_
              exact onlyIn_refl _ _
            clear_value x1
            refine onlyIn_ans ?_
            exact h2

theorem frame_bodyCoefBankWrite : ∀ a0 s, onlyIn [.pf] s (bodyCoefBankWrite a0 s).1 := by
  intro a0 s
  unfold bodyCoefBankWrite
  extract_lets +onlyGivenNames x0
  clear_value x0
  extract_lets +onlyGivenNames x1
  clear_value x1
  extract_lets +onlyGivenNames x2
  clear_value x2
  extract_lets +onlyGivenNames x3
  clear_value x3
  split
  · refine onlyIn_ans ?_
    exact onlyIn_refl _ _
  · refine onlyIn_ite1 ?_ ?_
    · refine onlyIn_ans ?_
      exact onlyIn_refl _ _
    · refine onlyIn_ite1 ?_ ?_
      · refine onlyIn_ans ?_
        exact onlyIn_refl _ _
      · extract_lets +onlyGivenNames x4
        clear_value x4
        extract_lets +onlyGivenNames x5
        clear_value x5
        extract_lets +onlyGivenNames x6
        have h7 : onlyIn [.pf] s x6 := by
          dsimp only [x6]
          refine onlyIn_step (onlyIn_put_pf _ _) rfl ?_
          exact onlyIn_refl _ _
        clear_value x6
        refine onlyIn_ans ?_
        exact h7

theorem frame_bodyGrStatus : ∀ a0 s, onlyIn [] s (bodyGrStatus a0 s).1 := by
  intro a0 s
  unfold bodyGrStatus
  unfold emptyPayload
  try beta_reduce
  refine onlyIn_ite1 ?_ ?_
  · extract_lets +onlyGivenNames x0
    clear_value x0
    refine onlyIn_ans ?_
    exact onlyIn_refl _ _
  · refine onlyIn_ans ?_
    exact onlyIn_refl _ _

theorem frame_bodyFunctionEnable : ∀ a0 s, onlyIn [.mb] s (bodyFunctionEnable a0 s).1 := by
  intro a0 s
  unfold bodyFunctionEnable
  unfold timedBody
  try beta_reduce
  split
  · refine onlyIn_ans ?_
    exact onlyIn_refl _ _
  · refine onlyIn_ite1 ?_ ?_
    · refine onlyIn_ans ?_
      exact onlyIn_refl _ _
    · split
      · refine onlyIn_ans ?_
        exact onlyIn_refl _ _
      · refine onlyIn_ite1 ?_ ?_
        · refine onlyIn_ans ?_
          exact onlyIn_refl _ _
        · refine onlyIn_ite1 ?_ ?_
          · refine onlyIn_ans ?_
            exact onlyIn_refl _ _
          · extract_lets +onlyGivenNames x0
            clear_value x0
            extract_lets +onlyGivenNames x1
            have h2 : onlyIn [.mb] s x1.1 := by
              dsimp only [x1]
              unfold frameReply
              try beta_reduce
              refine onlyIn_pair1 ?_
              refine onlyIn_step (frame_handOver _ _) rfl ?_
              exact onlyIn_refl _ _
            clear_value x1
            refine onlyIn_ans ?_
            exact h2

theorem frame_bodyFunctionSet : ∀ a0 s, onlyIn [.mb] s (bodyFunctionSet a0 s).1 := by
  intro a0 s
  unfold bodyFunctionSet
  unfold timedBody
  try beta_reduce
  split
  · refine onlyIn_ans ?_
    exact onlyIn_refl _ _
  · refine onlyIn_ite1 ?_ ?_
    · refine onlyIn_ans ?_
      exact onlyIn_refl _ _
    · split
      · refine onlyIn_ans ?_
        exact onlyIn_refl _ _
      · refine onlyIn_ite1 ?_ ?_
        · refine onlyIn_ans ?_
          exact onlyIn_refl _ _
        · refine onlyIn_ite1 ?_ ?_
          · refine onlyIn_ans ?_
            exact onlyIn_refl _ _
          · extract_lets +onlyGivenNames x0
            clear_value x0
            extract_lets +onlyGivenNames x1
            have h2 : onlyIn [.mb] s x1.1 := by
              dsimp only [x1]
              unfold frameReply
              try beta_reduce
              refine onlyIn_pair1 ?_
              refine onlyIn_step (frame_handOver _ _) rfl ?_
              exact onlyIn_refl _ _
            clear_value x1
            refine onlyIn_ans ?_
            exact h2

theorem frame_bodyRecordCapture : ∀ a0 s, onlyIn [.mb, .free] s (bodyRecordCapture a0 s).1 := by
  intro a0 s
  unfold bodyRecordCapture
  dsimp only
  unfold timedBody
  try beta_reduce
  split
  · refine onlyIn_ans ?_
    exact onlyIn_refl _ _
  · refine onlyIn_ite1 ?_ ?_
    · refine onlyIn_ans ?_
      exact onlyIn_refl _ _
    · split
      · refine onlyIn_ans ?_
        exact onlyIn_refl _ _
      · refine onlyIn_ite1 ?_ ?_
        · refine onlyIn_ans ?_
          exact onlyIn_refl _ _
        · refine onlyIn_ite1 ?_ ?_
          · refine onlyIn_ans ?_
            exact onlyIn_refl _ _
          · extract_lets +onlyGivenNames x0
            clear_value x0
            extract_lets +onlyGivenNames x1
            have h2 : onlyIn [.mb, .free] s x1.1 := by
              dsimp only [x1]
              try refine onlyIn_pair1 ?_
              refine onlyIn_step (frame_freshNat _) rfl ?_
              refine onlyIn_step (frame_handOver _ _) rfl ?_
              exact onlyIn_refl _ _
            clear_value x1
            refine onlyIn_ans ?_
            exact h2

theorem frame_bodyRecordRead : ∀ a0 s, onlyIn [] s (bodyRecordRead a0 s).1 := by
  intro a0 s
  unfold bodyRecordRead
  extract_lets +onlyGivenNames x0
  clear_value x0
  extract_lets +onlyGivenNames x1
  clear_value x1
  extract_lets +onlyGivenNames x2
  clear_value x2
  extract_lets +onlyGivenNames x3
  clear_value x3
  refine onlyIn_ite1 ?_ ?_
  · refine onlyIn_ans ?_
    exact onlyIn_refl _ _
  · refine onlyIn_ans ?_
    exact onlyIn_refl _ _

theorem frame_replayReply : ∀ s, onlyIn [] s (replayReply s).1 := by
  intro s
  unfold replayReply
  extract_lets +onlyGivenNames x0
  clear_value x0
  extract_lets +onlyGivenNames x1
  clear_value x1
  refine onlyIn_ans ?_
  exact onlyIn_refl _ _

theorem frame_replayRestart : ∀ s, onlyIn [.mb, .pf, .ev, .gr, .gn, .fb, .out] s (replayRestart s) := by
  intro s
  unfold replayRestart
  extract_lets +onlyGivenNames x0
  have h1 : onlyIn [.mb, .pf, .ev, .gr, .gn, .fb, .out] s x0 := by
    dsimp only [x0]
    refine onlyIn_step (frame_graniteActivate _ _ _) rfl ?_
    exact onlyIn_refl _ _
  clear_value x0
  refine onlyIn_step (frame_updGr _ _) rfl ?_
  exact h1

theorem frame_bodyReplayAbort : ∀ a0 s, onlyIn [.mb, .pf, .ev, .gr, .gn, .fb, .out] s (bodyReplayAbort a0 s).1 := by
  intro a0 s
  unfold bodyReplayAbort
  unfold withOp
  try beta_reduce
  refine onlyIn_ite1 ?_ ?_
  · refine onlyIn_ite1 ?_ ?_
    · refine onlyIn_ans ?_
      exact onlyIn_refl _ _
    · refine onlyIn_ite1 ?_ ?_
      · refine onlyIn_step (frame_replayReply _) rfl ?_
        refine onlyIn_step (frame_replayRestart _) rfl ?_
        refine onlyIn_step (frame_endReplay _ _) rfl ?_
        exact onlyIn_refl _ _
      · refine onlyIn_step (frame_replayReply _) rfl ?_
        exact onlyIn_refl _ _
  · refine onlyIn_ans ?_
    exact onlyIn_refl _ _

theorem frame_bodyReplayLoad : ∀ a0 s, onlyIn [.gr] s (bodyReplayLoad a0 s).1 := by
  intro a0 s
  unfold bodyReplayLoad
  unfold withOp
  try beta_reduce
  refine onlyIn_ite1 ?_ ?_
  · extract_lets +onlyGivenNames x0
    clear_value x0
    extract_lets +onlyGivenNames x1
    clear_value x1
    extract_lets +onlyGivenNames x2
    clear_value x2
    refine onlyIn_ite1 ?_ ?_
    · refine onlyIn_ans ?_
      exact onlyIn_refl _ _
    · refine onlyIn_ite1 ?_ ?_
      · refine onlyIn_ans ?_
        exact onlyIn_refl _ _
      · extract_lets +onlyGivenNames x3
        clear_value x3
        refine onlyIn_step (frame_replayReply _) rfl ?_
        refine onlyIn_step (frame_updGr _ _) rfl ?_
        exact onlyIn_refl _ _
  · refine onlyIn_ans ?_
    exact onlyIn_refl _ _

theorem frame_bodyReplayRun : ∀ a0 s, onlyIn [.mb, .pf, .ev, .gr, .vd, .ls, .out, .free] s (bodyReplayRun a0 s).1 := by
  intro a0 s
  unfold bodyReplayRun
  unfold withOp
  try beta_reduce
  refine onlyIn_ite1 ?_ ?_
  · extract_lets +onlyGivenNames x0
    clear_value x0
    extract_lets +onlyGivenNames x1
    clear_value x1
    extract_lets +onlyGivenNames x2
    clear_value x2
    split
    · refine onlyIn_ans ?_
      exact onlyIn_refl _ _
    · refine onlyIn_ite1 ?_ ?_
      · refine onlyIn_ans ?_
        exact onlyIn_refl _ _
      · refine onlyIn_ite1 ?_ ?_
        · refine onlyIn_ans ?_
          exact onlyIn_refl _ _
        · refine onlyIn_ite1 ?_ ?_
          · refine onlyIn_ans ?_
            exact onlyIn_refl _ _
          · refine onlyIn_step (frame_replayReply _) rfl ?_
            refine onlyIn_fold _ _ (fun st3 a4 => ?_) ?_
            · refine onlyIn_step (frame_vdOff _ _) rfl ?_
              exact onlyIn_refl _ _
            · refine onlyIn_step (frame_lsGateOff _) rfl ?_
              refine onlyIn_step (frame_updGr _ _) rfl ?_
              exact onlyIn_refl _ _
  · refine onlyIn_ans ?_
    exact onlyIn_refl _ _

theorem frame_bodyReplayStatus : ∀ a0 s, onlyIn [] s (bodyReplayStatus a0 s).1 := by
  intro a0 s
  unfold bodyReplayStatus
  unfold withOp
  try beta_reduce
  refine onlyIn_ite1 ?_ ?_
  · refine onlyIn_ite1 ?_ ?_
    · refine onlyIn_ans ?_
      exact onlyIn_refl _ _
    · refine onlyIn_step (frame_replayReply _) rfl ?_
      exact onlyIn_refl _ _
  · refine onlyIn_ans ?_
    exact onlyIn_refl _ _

theorem frame_captureFrame : ∀ s, onlyIn [.gr, .free] s (captureFrame s) := by
  intro s
  unfold captureFrame
  split
  · exact onlyIn_refl _ _
  · refine onlyIn_ite ?_ ?_
    · extract_lets +onlyGivenNames x0
      have h1 : onlyIn [.gr, .free] s x0.2 := by
        dsimp only [x0]
        refine onlyIn_step (frame_capturedBytes _ _) rfl ?_
        exact onlyIn_refl _ _
      clear_value x0
      extract_lets +onlyGivenNames x2
      have h3 : onlyIn [.gr, .free] s x2.2 := by
        dsimp only [x2]
        refine onlyIn_step (frame_freshBytes _ _) rfl ?_
        exact h1
      clear_value x2
      refine onlyIn_step (frame_updGr _ _) rfl ?_
      exact h3
    · exact onlyIn_refl _ _

theorem frame_creamCommit : ∀ s, onlyIn [.fb] s (creamCommit s) := by
  intro s
  unfold creamCommit
  extract_lets +onlyGivenNames x0
  clear_value x0
  refine onlyIn_step (onlyIn_put_fb _ _) rfl ?_
  exact onlyIn_refl _ _

theorem frame_driveOut : ∀ a0 s, onlyIn [.mb, .pf, .ev, .vd, .ls, .out] s (driveOut a0 s) := by
  intro a0 s
  unfold driveOut
  extract_lets +onlyGivenNames x0
  clear_value x0
  extract_lets +onlyGivenNames x1
  clear_value x1
  split
  · refine onlyIn_step (frame_dutyFn _ _ _) rfl ?_
    exact onlyIn_refl _ _
  · refine onlyIn_step (frame_lsRequest _ _ _) rfl ?_
    exact onlyIn_refl _ _
  · refine onlyIn_step (frame_lsRequest _ _ _) rfl ?_
    exact onlyIn_refl _ _
  · exact onlyIn_refl _ _

theorem frame_replayFrame : ∀ s, onlyIn [.mb, .pf, .ev, .gr, .gn, .fb, .out] s (replayFrame s) := by
  intro s
  unfold replayFrame
  refine onlyIn_ite ?_ ?_
  · refine onlyIn_step (frame_updGr _ _) rfl ?_
    exact onlyIn_refl _ _
  · refine onlyIn_ite ?_ ?_
    · refine onlyIn_step (frame_replayRestart _) rfl ?_
      refine onlyIn_step (frame_updGr _ _) rfl ?_
      exact onlyIn_refl _ _
    · exact onlyIn_refl _ _

theorem frame_machineEffect : ∀ s, onlyIn [.mb, .pf, .ev, .vd, .ls, .out] s (machineEffect s) := by
  intro s
  unfold machineEffect
  refine onlyIn_ite ?_ ?_
  · refine frame_eachFn (fun e0 st1 => ?_) ?_
    · refine onlyIn_ite ?_ ?_
      · refine onlyIn_step (frame_driveOut _ _) rfl ?_
        exact onlyIn_refl _ _
      · exact onlyIn_refl _ _
    · exact onlyIn_refl _ _
  · exact onlyIn_refl _ _

theorem frame_sinkStep : ∀ a0 s, onlyIn [.mb, .pf, .ev, .gr, .cf, .vd, .ls, .out, .free] s (sinkStep a0 s) := by
  intro a0 s
  unfold sinkStep
  extract_lets +onlyGivenNames x0
  clear_value x0
  split
  · exact onlyIn_refl _ _
  · refine onlyIn_ite ?_ ?_
    · refine onlyIn_step (frame_updFn _ _ _) rfl ?_
      exact onlyIn_refl _ _
    · refine onlyIn_ite ?_ ?_
      · refine onlyIn_step (frame_fallback _ _ _) rfl ?_
        exact onlyIn_refl _ _
      · refine onlyIn_step (frame_updFn _ _ _) rfl ?_
        exact onlyIn_refl _ _

theorem frame_runFn : ∀ a0 a1 a2 s, onlyIn [.gr] s (runFn a0 a1 a2 s) := by
  intro a0 a1 a2 s
  unfold runFn
  extract_lets +onlyGivenNames x0
  clear_value x0
  refine onlyIn_ite ?_ ?_
  · refine onlyIn_step (frame_updFn _ _ _) rfl ?_
    exact onlyIn_refl _ _
  · extract_lets +onlyGivenNames x1
    have h2 : onlyIn [.gr] s x1.2.2 := by
      dsimp only [x1]
      refine onlyIn_step (frame_runSlot _ _ _ _ _) rfl ?_
      exact onlyIn_refl _ _
    clear_value x1
    refine onlyIn_step (frame_updFn _ _ _) rfl ?_
    exact h2

theorem frame_machinePhase : ∀ s, onlyIn [.mb, .pf, .ev, .gr, .cf, .vd, .ls, .gn, .out, .free] s (machinePhase s) := by
  intro s
  unfold machinePhase
  extract_lets +onlyGivenNames x0
  have h1 : onlyIn [.mb, .pf, .ev, .gr, .cf, .vd, .ls, .gn, .out, .free] s x0 := by
    dsimp only [x0]
    refine onlyIn_step (frame_steerLoop _) rfl ?_
    refine onlyIn_fold _ _ (fun st2 a3 => ?_) ?_
    · refine onlyIn_step (frame_runGroup _ _) rfl ?_
      exact onlyIn_refl _ _
    · exact onlyIn_refl _ _
  clear_value x0
  refine frame_eachFn (fun e4 st5 => ?_) ?_
  · extract_lets +onlyGivenNames x6
    clear_value x6
    refine onlyIn_ite ?_ ?_
    · refine onlyIn_ite ?_ ?_
      · refine onlyIn_step (frame_sinkStep _ _) rfl ?_
        exact onlyIn_refl _ _
      · refine onlyIn_ite ?_ ?_
        · exact onlyIn_refl _ _
        · refine onlyIn_step (frame_runFn _ _ _ _) rfl ?_
          exact onlyIn_refl _ _
    · exact onlyIn_refl _ _
  · exact h1

theorem frame_rampFns : ∀ s, onlyIn [.gr] s (rampFns s) := by
  intro s
  unfold rampFns
  refine frame_eachFn (fun e0 st1 => ?_) ?_
  · extract_lets +onlyGivenNames x2
    clear_value x2
    refine onlyIn_ite ?_ ?_
    · extract_lets +onlyGivenNames x3
      clear_value x3
      refine onlyIn_step (frame_updFn _ _ _) rfl ?_
      exact onlyIn_refl _ _
    · exact onlyIn_refl _ _
  · exact onlyIn_refl _ _

theorem frame_holdFns : ∀ s, onlyIn [.mb, .pf, .ev, .gr, .out] s (holdFns s) := by
  intro s
  unfold holdFns
  refine frame_eachFn (fun e0 st1 => ?_) ?_
  · refine onlyIn_ite ?_ ?_
    · exact onlyIn_refl _ _
    · extract_lets +onlyGivenNames x2
      clear_value x2
      extract_lets +onlyGivenNames x3
      clear_value x3
      extract_lets +onlyGivenNames x4
      clear_value x4
      extract_lets +onlyGivenNames x5
      have h6 : onlyIn [.mb, .pf, .ev, .gr, .out] st1 x5 := by
        dsimp only [x5]
        refine onlyIn_step (frame_updFn _ _ _) rfl ?_
        exact onlyIn_refl _ _
      clear_value x5
      extract_lets +onlyGivenNames x7
      have h8 : onlyIn [.mb, .pf, .ev, .gr, .out] st1 x7 := by
        dsimp only [x7]
        refine onlyIn_step (frame_detect _ _ _ _ _) rfl ?_
        exact h6
      clear_value x7
      refine onlyIn_ite ?_ ?_
      · refine onlyIn_step (frame_updLoop _ _ _) rfl ?_
        exact h8
      · exact h8
  · exact onlyIn_refl _ _

theorem frame_execRampEnd : ∀ a0 s t, execRampEnd a0 s = .next t → onlyIn [.mb, .pf, .ev, .gr, .cf, .vd, .ls, .out, .free] s t := by
  intro a0 s t h
  unfold execRampEnd at h
  cases h
  split
  · refine onlyIn_ite ?_ ?_
    · refine onlyIn_step (frame_fnToSafe _ _) rfl ?_
      exact onlyIn_refl _ _
    · exact onlyIn_refl _ _
  · exact onlyIn_refl _ _

theorem frame_execFeedbackGraceExpiry : ∀ a0 s t, execFeedbackGraceExpiry a0 s = .next t → onlyIn [.mb, .pf, .ev, .gr, .cf, .vd, .ls, .out, .free] s t := by
  intro a0 s t h
  unfold execFeedbackGraceExpiry at h
  cases h
  split
  · refine onlyIn_ite ?_ ?_
    · refine onlyIn_step (frame_fallback _ _ _) rfl ?_
      exact onlyIn_refl _ _
    · exact onlyIn_refl _ _
  · exact onlyIn_refl _ _

theorem frame_execTickSample : ∀ a0 a1 a2 s t, execTickSample a0 a1 a2 s = .next t → onlyIn [.gr, .vd, .ls, .an] s t := by
  intro a0 a1 a2 s t h
  unfold execTickSample at h
  cases h
  refine onlyIn_ite ?_ ?_
  · extract_lets +onlyGivenNames x0
    clear_value x0
    extract_lets +onlyGivenNames x1
    clear_value x1
    extract_lets +onlyGivenNames x2
    have h3 : onlyIn [.gr, .vd, .ls, .an] s x2 := by
      dsimp only [x2]
      refine onlyIn_step (frame_setCoils _ _) rfl ?_
      refine onlyIn_step (onlyIn_put_ls_an _ _ _) rfl ?_
      exact onlyIn_refl _ _
    clear_value x2
    refine onlyIn_ite ?_ ?_
    · exact h3
    · refine onlyIn_step (frame_updGr _ _) rfl ?_
      exact h3
  · exact onlyIn_refl _ _

theorem frame_runFast : ∀ a0 s, onlyIn [.gr] s (runFast a0 s) := by
  intro a0 s
  unfold runFast
  extract_lets +onlyGivenNames x0
  clear_value x0
  extract_lets +onlyGivenNames x1
  clear_value x1
  refine onlyIn_ite ?_ ?_
  · refine onlyIn_step (frame_runFn _ _ _ _) rfl ?_
    exact onlyIn_refl _ _
  · refine onlyIn_step (frame_runFn _ _ _ _) rfl ?_
    exact onlyIn_refl _ _

theorem frame_execTickStart : ∀ s t, execTickStart s = .next t → onlyIn [.clk, .gr] s t := by
  intro s t h
  unfold execTickStart at h
  cases h
  refine onlyIn_ite ?_ ?_
  · refine frame_eachFn (fun e0 st1 => ?_) ?_
    · refine onlyIn_ite ?_ ?_
      · refine onlyIn_step (frame_runFast _ _) rfl ?_
        exact onlyIn_refl _ _
      · exact onlyIn_refl _ _
    · refine onlyIn_step (frame_atCycle _ _) rfl ?_
      refine onlyIn_step (frame_updGr _ _) rfl ?_
      exact onlyIn_refl _ _
  · exact onlyIn_refl _ _

theorem frame_tickCommitted : ∀ s, onlyIn [.mb, .pf, .ev, .gr, .vd, .ls, .out] s (tickCommitted s) := by
  intro s
  unfold tickCommitted
  dsimp only
  refine onlyIn_step (frame_trainTick _ _) rfl ?_
  refine frame_eachFn (fun e0 st1 => ?_) ?_
  · refine onlyIn_ite ?_ ?_
    · refine onlyIn_step (frame_fireFn _ _ _ _) rfl ?_
      exact onlyIn_refl _ _
    · exact onlyIn_refl _ _
  · refine frame_eachFn (fun e2 st3 => ?_) ?_
    · refine onlyIn_ite ?_ ?_
      · refine onlyIn_step (frame_driveOut _ _) rfl ?_
        refine onlyIn_step (frame_updFn _ _ _) rfl ?_
        exact onlyIn_refl _ _
      · refine onlyIn_ite ?_ ?_
        · refine onlyIn_step (frame_driveOut _ _) rfl ?_
          refine onlyIn_step (frame_updFn _ _ _) rfl ?_
          exact onlyIn_refl _ _
        · exact onlyIn_refl _ _
    · exact onlyIn_refl _ _

theorem frame_execTickCommit : ∀ a0 s t, execTickCommit a0 s = .next t → onlyIn [.clk, .mb, .pf, .ev, .gr, .cf, .vd, .ls, .gn, .out, .free] s t := by
  intro a0 s t h
  unfold execTickCommit at h
  cases h
  refine onlyIn_ite ?_ ?_
  · extract_lets +onlyGivenNames x0
    have h1 : onlyIn [.clk, .mb, .pf, .ev, .gr, .cf, .vd, .ls, .gn, .out, .free] s x0.1 := by
      dsimp only [x0]
      refine onlyIn_step (frame_vote _ _) rfl ?_
      exact onlyIn_refl _ _
    clear_value x0
    extract_lets +onlyGivenNames x2
    have h3 : onlyIn [.clk, .mb, .pf, .ev, .gr, .cf, .vd, .ls, .gn, .out, .free] s x2 := by
      dsimp only [x2]
      refine onlyIn_ite ?_ ?_
      · refine onlyIn_step (frame_tickCommitted _) rfl ?_
        exact h1
      · exact h1
    clear_value x2
    refine onlyIn_step (frame_atCycle _ _) rfl ?_
    refine onlyIn_step (frame_updGr _ _) rfl ?_
    exact h3
  · exact onlyIn_refl _ _

theorem frame_execFirmwareDeadline : ∀ a0 s t, execFirmwareDeadline a0 s = .next t → onlyIn [.clk, .mb, .pf, .ev, .gr, .out] s t := by
  intro a0 s t h
  unfold execFirmwareDeadline at h
  cases h
  refine onlyIn_ite ?_ ?_
  · extract_lets +onlyGivenNames x0
    clear_value x0
    extract_lets +onlyGivenNames x1
    have h2 : onlyIn [.clk, .mb, .pf, .ev, .gr, .out] s x1 := by
      dsimp only [x1]
      refine onlyIn_step (frame_atCycle _ _) rfl ?_
      refine onlyIn_step (frame_updGr _ _) rfl ?_
      exact onlyIn_refl _ _
    clear_value x1
    refine onlyIn_ite ?_ ?_
    · refine onlyIn_step (frame_happen _ _ _ _) rfl ?_
      exact h2
    · exact h2
  · exact onlyIn_refl _ _

theorem frame_execConsecutiveOverrunLimit : ∀ s t, execConsecutiveOverrunLimit s = .next t → onlyIn [.mb, .pf, .ev, .gr, .cf, .vd, .ls, .out, .free] s t := by
  intro s t h
  unfold execConsecutiveOverrunLimit at h
  cases h
  refine onlyIn_ite ?_ ?_
  · refine frame_eachFn (fun e0 st1 => ?_) ?_
    · refine onlyIn_ite ?_ ?_
      · refine onlyIn_step (frame_fallback _ _ _) rfl ?_
        exact onlyIn_refl _ _
      · exact onlyIn_refl _ _
    · exact onlyIn_refl _ _
  · exact onlyIn_refl _ _

theorem frame_execFrameCommit : ∀ a0 s t, execFrameCommit a0 s = .next t → onlyIn [.mb, .pf, .ev, .gr, .cf, .vd, .ls, .gn, .fb, .out, .free] s t := by
  intro a0 s t h
  unfold execFrameCommit at h
  cases h
  refine onlyIn_ite ?_ ?_
  · extract_lets +onlyGivenNames x0
    have h1 : onlyIn [.mb, .pf, .ev, .gr, .cf, .vd, .ls, .gn, .fb, .out, .free] s x0.1 := by
      dsimp only [x0]
      refine onlyIn_step (frame_vote _ _) rfl ?_
      exact onlyIn_refl _ _
    clear_value x0
    extract_lets +onlyGivenNames x2
    have h3 : onlyIn [.mb, .pf, .ev, .gr, .cf, .vd, .ls, .gn, .fb, .out, .free] s x2 := by
      dsimp only [x2]
      refine onlyIn_ite ?_ ?_
      · refine frame_eachFn (fun e4 st5 => ?_) ?_
        · refine onlyIn_ite ?_ ?_
          · refine onlyIn_step (frame_updFn _ _ _) rfl ?_
            exact onlyIn_refl _ _
          · exact onlyIn_refl _ _
        · exact h1
      · exact h1
    clear_value x2
    refine onlyIn_step (frame_captureFrame _) rfl ?_
    refine onlyIn_step (frame_creamCommit _) rfl ?_
    exact h3
  · exact onlyIn_refl _ _

theorem frame_execRecordCaptureDone : ∀ s t, execRecordCaptureDone s = .next t → onlyIn [.gr] s t := by
  intro s t h
  unfold execRecordCaptureDone at h
  cases h
  split
  · refine onlyIn_ite ?_ ?_
    · refine onlyIn_step (frame_updGr _ _) rfl ?_
      exact onlyIn_refl _ _
    · exact onlyIn_refl _ _
  · exact onlyIn_refl _ _

theorem frame_execReplayDone : ∀ a0 a1 a2 s t, execReplayDone a0 a1 a2 s = .next t → onlyIn [.mb, .pf, .ev, .gr, .gn, .fb, .out] s t := by
  intro a0 a1 a2 s t h
  unfold execReplayDone at h
  cases h
  refine onlyIn_ite ?_ ?_
  · refine onlyIn_step (frame_replayRestart _) rfl ?_
    refine onlyIn_step (frame_updGr _ _) rfl ?_
    exact onlyIn_refl _ _
  · exact onlyIn_refl _ _

end Sys2Proof.Machine
end

