-- ==== Sys2Proof/Laws/FrameProfile.lean ====
section
/-!
SUPPORT. Laws/FrameProfile.lean: the parts of the state that the definitions of Machine/Profile.lean may change.
-/

namespace Sys2Proof.Machine

open Sys2Proof.Safety

theorem frame_updPf : ∀ a0 s, onlyIn [.pf] s (updPf a0 s) := by
  intro a0 s
  unfold updPf
  refine onlyIn_step (onlyIn_put_pf _ _) rfl ?_
  exact onlyIn_refl _ _

theorem frame_storeCopy : ∀ a0 a1 s, onlyIn [.pf] s (storeCopy a0 a1 s) := by
  intro a0 a1 s
  unfold storeCopy
  extract_lets +onlyGivenNames x0
  clear_value x0
  refine onlyIn_step (frame_updPf _ _) rfl ?_
  exact onlyIn_refl _ _

theorem frame_saveInterrupt : ∀ s, onlyIn [.pf, .free] s (saveInterrupt s) := by
  intro s
  unfold saveInterrupt
  split
  · exact onlyIn_refl _ _
  · extract_lets +onlyGivenNames x0
    have h1 : onlyIn [.pf, .free] s x0.2 := by
      dsimp only [x0]
      refine onlyIn_step (frame_freshBool _) rfl ?_
      refine onlyIn_step (frame_updPf _ _) rfl ?_
      exact onlyIn_refl _ _
    clear_value x0
    refine onlyIn_ite ?_ ?_
    · refine onlyIn_step (frame_storeCopy _ _ _) rfl ?_
      exact h1
    · extract_lets +onlyGivenNames x2
      have h3 : onlyIn [.pf, .free] s x2.2 := by
        dsimp only [x2]
        refine onlyIn_step (frame_freshBool _) rfl ?_
        exact h1
      clear_value x2
      refine onlyIn_ite ?_ ?_
      · refine onlyIn_step (frame_storeCopy _ _ _) rfl ?_
        exact h3
      · exact h3

theorem frame_psTransports : ∀ a0 s, onlyIn [.mb, .pf] s (psTransports a0 s) := by
  intro a0 s
  unfold psTransports
  refine onlyIn_ite ?_ ?_
  · refine onlyIn_step (onlyIn_put_mb_pf _ _ _) rfl ?_
    exact onlyIn_refl _ _
  · exact onlyIn_refl _ _

theorem frame_psGate : ∀ a0 s, onlyIn [.mb, .pf, .ev, .vd, .ls, .out, .free] s (psGate a0 s) := by
  intro a0 s
  unfold psGate
  refine onlyIn_ite ?_ ?_
  · refine onlyIn_step (frame_lsGateOff _) rfl ?_
    refine onlyIn_step (frame_vdStop _ _) rfl ?_
    refine onlyIn_step (frame_vdStop _ _) rfl ?_
    exact onlyIn_refl _ _
  · exact onlyIn_refl _ _

theorem frame_partsActivate : ∀ o0 s, onlyIn [.mb, .pf, .ev, .gr, .qz, .cf, .vd, .ls, .gn, .fb, .cn, .pw, .out] s (partsActivate o0 s) := by
  intro o0 s
  unfold partsActivate
  extract_lets +onlyGivenNames x0
  clear_value x0
  extract_lets +onlyGivenNames x1
  have h2 : onlyIn [.mb, .pf, .ev, .gr, .qz, .cf, .vd, .ls, .gn, .fb, .cn, .pw, .out] s x1 := by
    dsimp only [x1]
    refine onlyIn_step (frame_canActivate _ _) rfl ?_
    exact onlyIn_refl _ _
  clear_value x1
  extract_lets +onlyGivenNames x3
  have h4 : onlyIn [.mb, .pf, .ev, .gr, .qz, .cf, .vd, .ls, .gn, .fb, .cn, .pw, .out] s x3 := by
    dsimp only [x3]
    refine onlyIn_step (frame_clearGroups _) rfl ?_
    refine onlyIn_step (frame_delayActivate _) rfl ?_
    refine onlyIn_step (frame_quartzActivate _) rfl ?_
    exact h2
  clear_value x3
  extract_lets +onlyGivenNames x5
  have h6 : onlyIn [.mb, .pf, .ev, .gr, .qz, .cf, .vd, .ls, .gn, .fb, .cn, .pw, .out] s x5 := by
    dsimp only [x5]
    refine onlyIn_step (frame_optStop _ _) rfl ?_
    refine onlyIn_step (frame_lsActivate _) rfl ?_
    refine onlyIn_step (frame_vdActivate _) rfl ?_
    exact h4
  clear_value x5
  extract_lets +onlyGivenNames x7
  have h8 : onlyIn [.mb, .pf, .ev, .gr, .qz, .cf, .vd, .ls, .gn, .fb, .cn, .pw, .out] s x7 := by
    dsimp only [x7]
    refine onlyIn_step (frame_supApply _) rfl ?_
    refine onlyIn_step (frame_graniteActivate _ _ _) rfl ?_
    exact h6
  clear_value x7
  refine onlyIn_step (onlyIn_put_gr _ _) rfl ?_
  exact h8

theorem frame_activateProfile : ∀ a0 a1 a2 a3 s, onlyIn [.mb, .pf, .ev, .gr, .qz, .cf, .vd, .ls, .gn, .fb, .cn, .pw, .out, .free] s (activateProfile a0 a1 a2 a3 s) := by
  intro a0 a1 a2 a3 s
  unfold activateProfile
  extract_lets +onlyGivenNames x0
  have h1 : onlyIn [.mb, .pf, .ev, .gr, .qz, .cf, .vd, .ls, .gn, .fb, .cn, .pw, .out, .free] s x0 := by
    dsimp only [x0]
    refine onlyIn_ite ?_ ?_
    · exact onlyIn_refl _ _
    · refine onlyIn_step (frame_leaveProfile _ _) rfl ?_
      exact onlyIn_refl _ _
  clear_value x0
  extract_lets +onlyGivenNames x2
  have h3 : onlyIn [.mb, .pf, .ev, .gr, .qz, .cf, .vd, .ls, .gn, .fb, .cn, .pw, .out, .free] s x2 := by
    dsimp only [x2]
    refine onlyIn_step (frame_psTransports _ _) rfl ?_
    refine onlyIn_step (frame_updPf _ _) rfl ?_
    exact h1
  clear_value x2
  refine onlyIn_step (frame_rawEvent _ _ _ _) rfl ?_
  refine onlyIn_step (frame_psGate _ _) rfl ?_
  refine onlyIn_step (frame_partsActivate _ _) rfl ?_
  exact h3

theorem frame_discardEvent : ∀ a0 s, onlyIn [.mb, .pf, .ev, .out] s (discardEvent a0 s) := by
  intro a0 s
  unfold discardEvent
  refine onlyIn_step (frame_happen _ _ _ _) rfl ?_
  exact onlyIn_refl _ _

theorem frame_dropSelection : ∀ a0 s, onlyIn [.pf] s (dropSelection a0 s) := by
  intro a0 s
  unfold dropSelection
  refine onlyIn_step (frame_updPf _ _) rfl ?_
  exact onlyIn_refl _ _

theorem frame_applySelections : ∀ a0 s, onlyIn [.mb, .pf, .ev, .gr, .qz, .cf, .vd, .ls, .gn, .fb, .cn, .pw, .out, .free] s (applySelections a0 s) := by
  intro a0 s
  unfold applySelections
  extract_lets +onlyGivenNames x0
  clear_value x0
  split
  · refine onlyIn_step (frame_activateProfile _ _ _ _ _) rfl ?_
    refine onlyIn_fold _ _ (fun st1 a2 => ?_) ?_
    · refine onlyIn_step (frame_dropSelection _ _) rfl ?_
      exact onlyIn_refl _ _
    · exact onlyIn_refl _ _
  · exact onlyIn_refl _ _

theorem frame_bodyMdRead : ∀ a0 s, onlyIn [] s (bodyMdRead a0 s).1 := by
  intro a0 s
  unfold bodyMdRead
  extract_lets +onlyGivenNames x0
  clear_value x0
  extract_lets +onlyGivenNames x1
  clear_value x1
  extract_lets +onlyGivenNames x2
  clear_value x2
  extract_lets +onlyGivenNames x3
  clear_value x3
  refine onlyIn_ite1 ?_ ?_
  · refine onlyIn_ans ?_
    exact onlyIn_refl _ _
  · extract_lets +onlyGivenNames x4
    clear_value x4
    refine onlyIn_ans ?_
    exact onlyIn_refl _ _

theorem frame_bodyProfileGetActive : ∀ a0 s, onlyIn [] s (bodyProfileGetActive a0 s).1 := by
  intro a0 s
  unfold bodyProfileGetActive
  unfold emptyPayload
  try beta_reduce
  refine onlyIn_ite1 ?_ ?_
  · extract_lets +onlyGivenNames x0
    clear_value x0
    refine onlyIn_ans ?_
    exact onlyIn_refl _ _
  · refine onlyIn_ans ?_
    exact onlyIn_refl _ _

theorem frame_loadJudge : ∀ a0 s, onlyIn [.mb, .pf, .ev, .out] s (loadJudge a0 s) := by
  intro a0 s
  unfold loadJudge
  refine onlyIn_ite ?_ ?_
  · refine onlyIn_step (frame_happen _ _ _ _) rfl ?_
    exact onlyIn_refl _ _
  · exact onlyIn_refl _ _

theorem frame_bodyProfileRead : ∀ a0 s, onlyIn [.mb, .pf, .ev, .out] s (bodyProfileRead a0 s).1 := by
  intro a0 s
  unfold bodyProfileRead
  extract_lets +onlyGivenNames x0
  clear_value x0
  extract_lets +onlyGivenNames x1
  clear_value x1
  extract_lets +onlyGivenNames x2
  clear_value x2
  extract_lets +onlyGivenNames x3
  clear_value x3
  extract_lets +onlyGivenNames x4
  clear_value x4
  refine onlyIn_ite1 ?_ ?_
  · refine onlyIn_ans ?_
    exact onlyIn_refl _ _
  · extract_lets +onlyGivenNames x5
    have h6 : onlyIn [.mb, .pf, .ev, .out] s x5 := by
      dsimp only [x5]
      refine onlyIn_ite ?_ ?_
      · refine onlyIn_step (frame_loadJudge _ _) rfl ?_
        exact onlyIn_refl _ _
      · exact onlyIn_refl _ _
    clear_value x5
    refine onlyIn_ite1 ?_ ?_
    · refine onlyIn_ans ?_
      exact h6
    · refine onlyIn_ans ?_
      exact h6

theorem frame_bodyProfileSave : ∀ a0 s, onlyIn [.pf] s (bodyProfileSave a0 s).1 := by
  intro a0 s
  unfold bodyProfileSave
  extract_lets +onlyGivenNames x0
  clear_value x0
  extract_lets +onlyGivenNames x1
  clear_value x1
  extract_lets +onlyGivenNames x2
  clear_value x2
  extract_lets +onlyGivenNames x3
  clear_value x3
  refine onlyIn_ite1 ?_ ?_
  · refine onlyIn_ans ?_
    exact onlyIn_refl _ _
  · refine onlyIn_ite1 ?_ ?_
    · refine onlyIn_ans ?_
      exact onlyIn_refl _ _
    · split
      · refine onlyIn_ans ?_
        exact onlyIn_refl _ _
      · refine onlyIn_ite1 ?_ ?_
        · refine onlyIn_ans ?_
          exact onlyIn_refl _ _
        · split
          · refine onlyIn_ans ?_
            exact onlyIn_refl _ _
          · refine onlyIn_ite1 ?_ ?_
            · refine onlyIn_ans ?_
              exact onlyIn_refl _ _
            · extract_lets +onlyGivenNames x4
              clear_value x4
              refine onlyIn_pair1 ?_
              refine onlyIn_step (frame_updPf _ _) rfl ?_
              exact onlyIn_refl _ _

theorem frame_bodyProfileSelect : ∀ a0 s, onlyIn [.mb, .pf, .ev, .out] s (bodyProfileSelect a0 s).1 := by
  intro a0 s
  unfold bodyProfileSelect
  dsimp only
  unfold timedBody
  try beta_reduce
  split
  · refine onlyIn_ans ?_
    refine onlyIn_ite ?_ ?_
    · refine onlyIn_step (frame_loadJudge _ _) rfl ?_
      exact onlyIn_refl _ _
    · exact onlyIn_refl _ _
  · refine onlyIn_ite1 ?_ ?_
    · refine onlyIn_ans ?_
      refine onlyIn_ite ?_ ?_
      · refine onlyIn_step (frame_loadJudge _ _) rfl ?_
        exact onlyIn_refl _ _
      · exact onlyIn_refl _ _
    · split
      · refine onlyIn_ans ?_
        refine onlyIn_ite ?_ ?_
        · refine onlyIn_step (frame_loadJudge _ _) rfl ?_
          exact onlyIn_refl _ _
        · exact onlyIn_refl _ _
      · refine onlyIn_ite1 ?_ ?_
        · refine onlyIn_ans ?_
          refine onlyIn_ite ?_ ?_
          · refine onlyIn_step (frame_loadJudge _ _) rfl ?_
            exact onlyIn_refl _ _
          · exact onlyIn_refl _ _
        · refine onlyIn_ite1 ?_ ?_
          · refine onlyIn_ans ?_
            refine onlyIn_ite ?_ ?_
            · refine onlyIn_step (frame_loadJudge _ _) rfl ?_
              exact onlyIn_refl _ _
            · exact onlyIn_refl _ _
          · extract_lets +onlyGivenNames x0
            clear_value x0
            extract_lets +onlyGivenNames x1
            have h2 : onlyIn [.mb, .pf, .ev, .out] s x1.1 := by
              dsimp only [x1]
              try refine onlyIn_pair1 ?_
              refine onlyIn_step (frame_updPf _ _) rfl ?_
              refine onlyIn_step (frame_handOver _ _) rfl ?_
              refine onlyIn_ite ?_ ?_
              · refine onlyIn_step (frame_loadJudge _ _) rfl ?_
                exact onlyIn_refl _ _
              · exact onlyIn_refl _ _
            clear_value x1
            refine onlyIn_ans ?_
            exact h2

theorem frame_bodyProfileSetDefault : ∀ a0 s, onlyIn [.pf] s (bodyProfileSetDefault a0 s).1 := by
  intro a0 s
  unfold bodyProfileSetDefault
  extract_lets +onlyGivenNames x0
  clear_value x0
  extract_lets +onlyGivenNames x1
  clear_value x1
  refine onlyIn_ite1 ?_ ?_
  · refine onlyIn_ans ?_
    exact onlyIn_refl _ _
  · refine onlyIn_ite1 ?_ ?_
    · refine onlyIn_ans ?_
      exact onlyIn_refl _ _
    · refine onlyIn_ans ?_
      refine onlyIn_step (frame_writeSettings _ _) rfl ?_
      exact onlyIn_refl _ _

theorem frame_budgetBytes : ∀ a0 a1 s, onlyIn [.free] s (budgetBytes a0 a1 s).2 := by
  intro a0 a1 s
  unfold budgetBytes
  extract_lets +onlyGivenNames x0
  clear_value x0
  extract_lets +onlyGivenNames x1
  clear_value x1
  split
  · refine onlyIn_ite2 ?_ ?_
    · refine onlyIn_step (frame_freshBytes _ _) rfl ?_
      exact onlyIn_refl _ _
    · refine onlyIn_pair2 ?_
      exact onlyIn_refl _ _
  · refine onlyIn_pair2 ?_
    exact onlyIn_refl _ _

theorem frame_bodyProfileValidate : ∀ a0 s, onlyIn [.mb, .pf, .ev, .out, .free] s (bodyProfileValidate a0 s).1 := by
  intro a0 s
  unfold bodyProfileValidate
  extract_lets +onlyGivenNames x0
  clear_value x0
  extract_lets +onlyGivenNames x1
  clear_value x1
  extract_lets +onlyGivenNames x2
  clear_value x2
  refine onlyIn_ite1 ?_ ?_
  · refine onlyIn_ans ?_
    exact onlyIn_refl _ _
  · split
    · refine onlyIn_ans ?_
      exact onlyIn_refl _ _
    · extract_lets +onlyGivenNames x3
      clear_value x3
      extract_lets +onlyGivenNames x4
      have h5 : onlyIn [.mb, .pf, .ev, .out, .free] s x4.2 := by
        dsimp only [x4]
        refine onlyIn_step (frame_budgetBytes _ _ _) rfl ?_
        refine onlyIn_ite ?_ ?_
        · refine onlyIn_step (frame_loadJudge _ _) rfl ?_
          exact onlyIn_refl _ _
        · exact onlyIn_refl _ _
      clear_value x4
      refine onlyIn_ans ?_
      exact h5

theorem frame_stagedReply : ∀ a0 s, onlyIn [.pf] s (stagedReply a0 s).1 := by
  intro a0 s
  unfold stagedReply
  refine onlyIn_ans ?_
  refine onlyIn_step (frame_updPf _ _) rfl ?_
  exact onlyIn_refl _ _

theorem frame_bodyProfileWrite : ∀ a0 s, onlyIn [.pf] s (bodyProfileWrite a0 s).1 := by
  intro a0 s
  unfold bodyProfileWrite
  extract_lets +onlyGivenNames x0
  clear_value x0
  extract_lets +onlyGivenNames x1
  clear_value x1
  extract_lets +onlyGivenNames x2
  clear_value x2
  extract_lets +onlyGivenNames x3
  clear_value x3
  refine onlyIn_ite1 ?_ ?_
  · refine onlyIn_ans ?_
    exact onlyIn_refl _ _
  · refine onlyIn_ite1 ?_ ?_
    · refine onlyIn_ans ?_
      exact onlyIn_refl _ _
    · split
      · refine onlyIn_ite1 ?_ ?_
        · refine onlyIn_ans ?_
          exact onlyIn_refl _ _
        · refine onlyIn_ite1 ?_ ?_
          · refine onlyIn_step (frame_stagedReply _ _) rfl ?_
            exact onlyIn_refl _ _
          · refine onlyIn_ite1 ?_ ?_
            · refine onlyIn_ans ?_
              exact onlyIn_refl _ _
            · refine onlyIn_step (frame_stagedReply _ _) rfl ?_
              exact onlyIn_refl _ _
      · refine onlyIn_ite1 ?_ ?_
        · refine onlyIn_step (frame_stagedReply _ _) rfl ?_
          exact onlyIn_refl _ _
        · refine onlyIn_ans ?_
          exact onlyIn_refl _ _

theorem frame_execProfileStagingTimeout : ∀ s t, execProfileStagingTimeout s = .next t → onlyIn [.pf] s t := by
  intro s t h
  unfold execProfileStagingTimeout at h
  cases h
  split
  · refine onlyIn_ite ?_ ?_
    · refine onlyIn_step (frame_updPf _ _) rfl ?_
      exact onlyIn_refl _ _
    · exact onlyIn_refl _ _
  · exact onlyIn_refl _ _

theorem frame_selectRecheck : ∀ s, onlyIn [.mb, .pf, .ev, .out] s (selectRecheck s) := by
  intro s
  unfold selectRecheck
  refine onlyIn_fold _ _ (fun st0 a1 => ?_) ?_
  · split
    · refine onlyIn_ite ?_ ?_
      · extract_lets +onlyGivenNames x2
        clear_value x2
        extract_lets +onlyGivenNames x3
        have h4 : onlyIn [.mb, .pf, .ev, .out] st0 x3 := by
          dsimp only [x3]
          refine onlyIn_step (frame_dropSelection _ _) rfl ?_
          refine onlyIn_step (onlyIn_put_mb _ _) rfl ?_
          exact onlyIn_refl _ _
        clear_value x3
        refine onlyIn_step (frame_happen _ _ _ _) rfl ?_
        exact h4
      · exact onlyIn_refl _ _
    · exact onlyIn_refl _ _
  · exact onlyIn_refl _ _

theorem frame_saveDone : ∀ s, onlyIn [.mb, .pf, .out] s (saveDone s) := by
  intro s
  unfold saveDone
  split
  · exact onlyIn_refl _ _
  · extract_lets +onlyGivenNames x0
    have h1 : onlyIn [.mb, .pf, .out] s x0 := by
      dsimp only [x0]
      refine onlyIn_step (frame_storeCopy _ _ _) rfl ?_
      refine onlyIn_step (frame_updPf _ _) rfl ?_
      exact onlyIn_refl _ _
    clear_value x0
    extract_lets +onlyGivenNames x2
    have h3 : onlyIn [.mb, .pf, .out] s x2 := by
      dsimp only [x2]
      refine onlyIn_ite ?_ ?_
      · refine onlyIn_step (frame_updPf _ _) rfl ?_
        exact h1
      · exact h1
    clear_value x2
    refine onlyIn_step (frame_resolve _ _ _ _) rfl ?_
    exact h3

end Sys2Proof.Machine
end

