-- ==== Sys2Proof/Laws/FrameYield.lean ====
section
/-!
SUPPORT. Laws/FrameYield.lean: the parts of the state that the definitions of Machine/Yield.lean may change.
-/

namespace Sys2Proof.Machine

open Sys2Proof.Safety

theorem frame_cropRestart : ∀ s, onlyIn [.cf] s (cropRestart s) := by
  intro s
  unfold cropRestart
  refine onlyIn_step (onlyIn_put_cf _ _) rfl ?_
  exact onlyIn_refl _ _

theorem frame_eraseOldest : ∀ s, ∀ t ∈ eraseOldest s, onlyIn [.mb, .pf, .ev, .cf, .out] s t := by
  intro s t h
  unfold eraseOldest at h
  extract_lets can at h
  split at h
  · cases h
  · cases h
    refine onlyIn_step (frame_happen _ _ _ _) rfl ?_
    refine onlyIn_step (onlyIn_put_cf _ _) rfl ?_
    exact onlyIn_refl _ _

theorem frame_makeRoom (ok : State → Bool) : ∀ n s, ∀ t ∈ makeRoom ok n s, onlyIn [.mb, .pf, .ev, .cf, .out] s t := by
  intro n
  induction n with
  | zero =>
    intro s t h
    unfold makeRoom at h
    split at h <;> cases h
    exact onlyIn_refl _ _
  | succ n ih =>
    intro s t h
    unfold makeRoom at h
    split at h
    · cases h
      exact onlyIn_refl _ _
    · obtain ⟨u, hu, ht⟩ := Option.bind_eq_some_iff.mp h
      exact onlyIn_step (ih u t ht) rfl (frame_eraseOldest s u hu)

theorem frame_withOpenField : ∀ s, onlyIn [.cf] s (withOpenField s) := by
  intro s
  unfold withOpenField
  split
  · exact onlyIn_refl _ _
  · refine onlyIn_step (onlyIn_put_cf _ _) rfl ?_
    exact onlyIn_refl _ _

theorem frame_updField : ∀ a0 a1 s, onlyIn [.cf] s (updField a0 a1 s) := by
  intro a0 a1 s
  unfold updField
  refine onlyIn_step (onlyIn_put_cf _ _) rfl ?_
  exact onlyIn_refl _ _

theorem frame_appendRecord : ∀ a0 s, onlyIn [.mb, .pf, .ev, .cf, .out] s (appendRecord a0 s) := by
  intro a0 s
  unfold appendRecord
  split
  · next s1 h =>
    refine onlyIn_step (frame_updField _ _ _) rfl ?_
    refine onlyIn_step (frame_makeRoom _ _ _ _ h) rfl ?_
    refine onlyIn_step (frame_withOpenField _) rfl ?_
    exact onlyIn_refl _ _
  · exact onlyIn_refl _ _

theorem frame_bodyCfStatus : ∀ a0 s, onlyIn [] s (bodyCfStatus a0 s).1 := by
  intro a0 s
  unfold bodyCfStatus
  dsimp only
  unfold emptyPayload
  try beta_reduce
  refine onlyIn_ite1 ?_ ?_
  · refine onlyIn_ans ?_
    exact onlyIn_refl _ _
  · refine onlyIn_ans ?_
    exact onlyIn_refl _ _

theorem frame_bodyCoverageGetBits : ∀ a0 s, onlyIn [] s (bodyCoverageGetBits a0 s).1 := by
  intro a0 s
  unfold bodyCoverageGetBits
  unfold withOp
  try beta_reduce
  refine onlyIn_ite1 ?_ ?_
  · extract_lets +onlyGivenNames x0
    clear_value x0
    extract_lets +onlyGivenNames x1
    clear_value x1
    extract_lets +onlyGivenNames x2
    clear_value x2
    refine onlyIn_ite1 ?_ ?_
    · refine onlyIn_ans ?_
      exact onlyIn_refl _ _
    · split
      · refine onlyIn_ans ?_
        exact onlyIn_refl _ _
      · extract_lets +onlyGivenNames x3
        clear_value x3
        extract_lets +onlyGivenNames x4
        clear_value x4
        refine onlyIn_ans ?_
        exact onlyIn_refl _ _
  · refine onlyIn_ans ?_
    exact onlyIn_refl _ _

theorem frame_bodyCoverageGetChanges : ∀ a0 s, onlyIn [] s (bodyCoverageGetChanges a0 s).1 := by
  intro a0 s
  unfold bodyCoverageGetChanges
  unfold withOp
  try beta_reduce
  refine onlyIn_ite1 ?_ ?_
  · extract_lets +onlyGivenNames x0
    clear_value x0
    refine onlyIn_ite1 ?_ ?_
    · refine onlyIn_ans ?_
      exact onlyIn_refl _ _
    · split
      · refine onlyIn_ans ?_
        exact onlyIn_refl _ _
      · extract_lets +onlyGivenNames x1
        clear_value x1
        refine onlyIn_ans ?_
        exact onlyIn_refl _ _
  · refine onlyIn_ans ?_
    exact onlyIn_refl _ _

theorem frame_coverReply : ∀ a0 s, onlyIn [] s (coverReply a0 s).1 := by
  intro a0 s
  unfold coverReply
  refine onlyIn_ans ?_
  exact onlyIn_refl _ _

theorem frame_outsideOnce : ∀ a0 s, onlyIn [.mb, .pf, .ev, .cf, .out] s (outsideOnce a0 s) := by
  intro a0 s
  unfold outsideOnce
  split
  · refine onlyIn_ite ?_ ?_
    · exact onlyIn_refl _ _
    · refine onlyIn_step (frame_happen _ _ _ _) rfl ?_
      refine onlyIn_step (frame_updField _ _ _) rfl ?_
      exact onlyIn_refl _ _
  · exact onlyIn_refl _ _

theorem frame_bodyCoveragePutCells : ∀ a0 s, onlyIn [.mb, .pf, .ev, .cf, .out] s (bodyCoveragePutCells a0 s).1 := by
  intro a0 s
  unfold bodyCoveragePutCells
  unfold withOp
  try beta_reduce
  refine onlyIn_ite1 ?_ ?_
  · extract_lets +onlyGivenNames x0
    clear_value x0
    extract_lets +onlyGivenNames x1
    clear_value x1
    extract_lets +onlyGivenNames x2
    clear_value x2
    refine onlyIn_ite1 ?_ ?_
    · refine onlyIn_ans ?_
      exact onlyIn_refl _ _
    · refine onlyIn_ite1 ?_ ?_
      · refine onlyIn_ans ?_
        exact onlyIn_refl _ _
      · split
        · refine onlyIn_ans ?_
          exact onlyIn_refl _ _
        · extract_lets +onlyGivenNames x3
          clear_value x3
          extract_lets +onlyGivenNames x4
          clear_value x4
          extract_lets +onlyGivenNames x5
          clear_value x5
          extract_lets +onlyGivenNames x6
          have h7 : onlyIn [.mb, .pf, .ev, .cf, .out] s x6 := by
            dsimp only [x6]
            refine onlyIn_step (frame_updField _ _ _) rfl ?_
            refine onlyIn_step (onlyIn_put_cf _ _) rfl ?_
            exact onlyIn_refl _ _
          clear_value x6
          refine onlyIn_step (frame_coverReply _ _) rfl ?_
          refine onlyIn_ite ?_ ?_
          · refine onlyIn_step (frame_outsideOnce _ _) rfl ?_
            exact h7
          · exact h7
  · refine onlyIn_ans ?_
    exact onlyIn_refl _ _

theorem frame_closeField : ∀ s, onlyIn [.cf] s (closeField s) := by
  intro s
  unfold closeField
  extract_lets +onlyGivenNames x0
  have h1 : onlyIn [.cf] s x0 := by
    dsimp only [x0]
    refine onlyIn_step (frame_updField _ _ _) rfl ?_
    exact onlyIn_refl _ _
  clear_value x0
  refine onlyIn_step (onlyIn_put_cf _ _) rfl ?_
  exact h1

theorem frame_bodyCoveragePutFieldClose : ∀ a0 s, onlyIn [.cf] s (bodyCoveragePutFieldClose a0 s).1 := by
  intro a0 s
  unfold bodyCoveragePutFieldClose
  unfold withOp
  try beta_reduce
  refine onlyIn_ite1 ?_ ?_
  · refine onlyIn_ite1 ?_ ?_
    · refine onlyIn_ans ?_
      exact onlyIn_refl _ _
    · refine onlyIn_ite1 ?_ ?_
      · refine onlyIn_ans ?_
        exact onlyIn_refl _ _
      · extract_lets +onlyGivenNames x0
        clear_value x0
        refine onlyIn_step (frame_coverReply _ _) rfl ?_
        refine onlyIn_ite ?_ ?_
        · exact onlyIn_refl _ _
        · refine onlyIn_step (frame_closeField _) rfl ?_
          exact onlyIn_refl _ _
  · refine onlyIn_ans ?_
    exact onlyIn_refl _ _

theorem frame_openField : ∀ a0 a1 a2 s, onlyIn [.cf] s (openField a0 a1 a2 s) := by
  intro a0 a1 a2 s
  unfold openField
  extract_lets +onlyGivenNames x0
  clear_value x0
  extract_lets +onlyGivenNames x1
  have h2 : onlyIn [.cf] s x1 := by
    dsimp only [x1]
    refine onlyIn_step (onlyIn_put_cf _ _) rfl ?_
    exact onlyIn_refl _ _
  clear_value x1
  refine onlyIn_step (frame_updField _ _ _) rfl ?_
  refine onlyIn_step (frame_withOpenField _) rfl ?_
  exact h2

theorem frame_bodyCoveragePutFieldOpen : ∀ a0 s, onlyIn [.mb, .pf, .ev, .cf, .out] s (bodyCoveragePutFieldOpen a0 s).1 := by
  intro a0 s
  unfold bodyCoveragePutFieldOpen withOp
  beta_reduce
  extract_lets p id g
  refine onlyIn_ite1 ?_ (onlyIn_ans (onlyIn_refl _ _))
  refine onlyIn_ite1 (onlyIn_ans (onlyIn_refl _ _)) ?_
  refine onlyIn_ite1 (onlyIn_ans (onlyIn_refl _ _)) ?_
  split
  · exact onlyIn_ans (onlyIn_refl _ _)
  · next s1 h =>
    refine onlyIn_step (frame_coverReply _ _) rfl ?_
    refine onlyIn_step (frame_openField _ _ _ _) rfl ?_
    refine onlyIn_step (frame_makeRoom _ _ _ _ h) rfl ?_
    refine onlyIn_ite (onlyIn_refl _ _) ?_
    exact onlyIn_step (frame_closeField _) rfl (onlyIn_refl _ _)

theorem frame_bodyMapExport : ∀ a0 s, onlyIn [] s (bodyMapExport a0 s).1 := by
  intro a0 s
  unfold bodyMapExport
  extract_lets +onlyGivenNames x0
  clear_value x0
  extract_lets +onlyGivenNames x1
  clear_value x1
  extract_lets +onlyGivenNames x2
  clear_value x2
  refine onlyIn_ite1 ?_ ?_
  · refine onlyIn_ans ?_
    exact onlyIn_refl _ _
  · split
    · refine onlyIn_ans ?_
      exact onlyIn_refl _ _
    · refine onlyIn_ans ?_
      exact onlyIn_refl _ _

theorem frame_bodyYieldRead : ∀ a0 s, onlyIn [] s (bodyYieldRead a0 s).1 := by
  intro a0 s
  unfold bodyYieldRead
  extract_lets +onlyGivenNames x0
  clear_value x0
  extract_lets +onlyGivenNames x1
  clear_value x1
  refine onlyIn_ite1 ?_ ?_
  · refine onlyIn_ans ?_
    exact onlyIn_refl _ _
  · extract_lets +onlyGivenNames x2
    clear_value x2
    extract_lets +onlyGivenNames x3
    clear_value x3
    refine onlyIn_ans ?_
    exact onlyIn_refl _ _

theorem frame_coverageMark : ∀ a0 s, onlyIn [.mb, .pf, .ev, .cf, .out] s (coverageMark a0 s) := by
  intro a0 s
  unfold coverageMark
  split
  · refine onlyIn_ite ?_ ?_
    · extract_lets +onlyGivenNames x0
      clear_value x0
      extract_lets +onlyGivenNames x1
      clear_value x1
      extract_lets +onlyGivenNames x2
      clear_value x2
      extract_lets +onlyGivenNames x3
      clear_value x3
      extract_lets +onlyGivenNames x4
      have h5 : onlyIn [.mb, .pf, .ev, .cf, .out] s x4 := by
        dsimp only [x4]
        refine onlyIn_step (frame_updField _ _ _) rfl ?_
        refine onlyIn_step (onlyIn_put_cf _ _) rfl ?_
        exact onlyIn_refl _ _
      clear_value x4
      refine onlyIn_ite ?_ ?_
      · refine onlyIn_step (frame_outsideOnce _ _) rfl ?_
        exact h5
      · exact h5
    · exact onlyIn_refl _ _
  · exact onlyIn_refl _ _

theorem frame_cutKeep : ∀ s, onlyIn [.cf] s (cutKeep s) := by
  intro s
  unfold cutKeep
  extract_lets +onlyGivenNames x0
  clear_value x0
  refine onlyIn_ite ?_ ?_
  · exact onlyIn_refl _ _
  · refine onlyIn_step (onlyIn_put_cf _ _) rfl ?_
    exact onlyIn_refl _ _

theorem frame_navKeep : ∀ s, onlyIn [.cf] s (navKeep s) := by
  intro s
  unfold navKeep
  extract_lets +onlyGivenNames x0
  clear_value x0
  extract_lets +onlyGivenNames x1
  clear_value x1
  extract_lets +onlyGivenNames x2
  clear_value x2
  refine onlyIn_ite ?_ ?_
  · refine onlyIn_step (onlyIn_put_cf _ _) rfl ?_
    exact onlyIn_refl _ _
  · exact onlyIn_refl _ _

theorem frame_secondFrame : ∀ s, onlyIn [.cf] s (secondFrame s) := by
  intro s
  unfold secondFrame
  extract_lets +onlyGivenNames x0
  have h1 : onlyIn [.cf] s x0 := by
    dsimp only [x0]
    refine onlyIn_step (frame_cutKeep _) rfl ?_
    refine onlyIn_step (frame_navKeep _) rfl ?_
    exact onlyIn_refl _ _
  clear_value x0
  extract_lets +onlyGivenNames x2
  clear_value x2
  refine onlyIn_ite ?_ ?_
  · refine onlyIn_step (onlyIn_put_cf _ _) rfl ?_
    exact h1
  · refine onlyIn_step (onlyIn_put_cf _ _) rfl ?_
    exact h1

theorem frame_fitField : ∀ a0 a1 s, onlyIn [.free] s (fitField a0 a1 s).2 := by
  intro a0 a1 s
  unfold fitField
  refine onlyIn_ite2 ?_ ?_
  · refine onlyIn_pair2 ?_
    exact onlyIn_refl _ _
  · refine onlyIn_pair2 ?_
    refine onlyIn_step (frame_freshNat _) rfl ?_
    exact onlyIn_refl _ _

theorem frame_yieldWrite : ∀ a0 a1 s, onlyIn [.mb, .pf, .ev, .cf, .out, .free] s (yieldWrite a0 a1 s) := by
  intro a0 a1 s
  unfold yieldWrite
  extract_lets +onlyGivenNames r rec0 s1
  have h1 : onlyIn [.mb, .pf, .ev, .cf, .out, .free] s s1 := by
    dsimp only [s1, r]
    unfold yieldRecord
    exact onlyIn_step (frame_fitField _ _ _) rfl (onlyIn_step (frame_fitField _ _ _) rfl
      (onlyIn_step (frame_fitField _ _ _) rfl (onlyIn_refl _ _)))
  clear_value s1
  extract_lets +onlyGivenNames c s2
  have h2 : onlyIn [.mb, .pf, .ev, .cf, .out, .free] s s2 := onlyIn_step (onlyIn_put_cf _ _) rfl h1
  clear_value s2
  extract_lets +onlyGivenNames s3
  have h3 : onlyIn [.mb, .pf, .ev, .cf, .out, .free] s s3 := by
    refine onlyIn_ite ?_ h2
    cases h : eraseOldest s2 with
    | none => exact h2
    | some u => exact onlyIn_step (frame_eraseOldest _ _ h) rfl h2
  clear_value s3
  refine onlyIn_step (frame_notifyAll _ _ _ _) rfl ?_
  have h4 : onlyIn [.mb, .pf, .ev, .cf, .out, .free] s (appendRecord rec0 s3) := onlyIn_step (frame_appendRecord _ _) rfl h3
  refine onlyIn_ite ?_ ?_
  · exact onlyIn_ite (onlyIn_step (frame_outsideOnce _ _) rfl h4) h4
  · exact onlyIn_step (frame_coverageMark _ _) rfl (onlyIn_ite (onlyIn_step (frame_outsideOnce _ _) rfl h4) h4)

theorem frame_execYieldRecordWrite : ∀ s t, execYieldRecordWrite s = .next t → onlyIn [.mb, .pf, .ev, .cf, .out, .free] s t := by
  intro s t h
  unfold execYieldRecordWrite at h
  cases h
  split
  · refine onlyIn_ite ?_ ?_
    · refine onlyIn_step (frame_yieldWrite _ _ _) rfl ?_
      exact onlyIn_refl _ _
    · exact onlyIn_refl _ _
  · exact onlyIn_refl _ _

end Sys2Proof.Machine
end

