-- ==== Sys2Proof/Laws/FrameReset.lean ====
section
/-!
SUPPORT. Laws/FrameReset.lean: the parts of the state that the definitions of Machine/Reset.lean may change.
-/

namespace Sys2Proof.Machine

open Sys2Proof.Safety

theorem frame_updRs : ∀ a0 s, onlyIn [.rs] s (updRs a0 s) := by
  intro a0 s
  unfold updRs
  refine onlyIn_step (onlyIn_put_rs _ _) rfl ?_
  exact onlyIn_refl _ _

theorem frame_settleWrites : ∀ a0 s, onlyIn [.pf, .free] s (settleWrites a0 s) := by
  intro a0
  induction a0 with
  | nil => exact fun s => onlyIn_refl _ _
  | cons w ws ih =>
    intro s
    unfold settleWrites
    refine onlyIn_ite (ih s) ?_
    have hq : onlyIn [.pf, .free] s (freshBool s).2 := onlyIn_step (frame_freshBool _) rfl (onlyIn_refl _ _)
    exact onlyIn_ite (onlyIn_step (ih _) rfl hq) (onlyIn_step (frame_updPf _ _) rfl hq)

theorem frame_exchangeGone : ∀ s, onlyIn [.mb, .pf] s (exchangeGone s) := by
  intro s
  unfold exchangeGone
  refine onlyIn_step (onlyIn_put_mb_pf _ _ _) rfl ?_
  exact onlyIn_refl _ _

theorem frame_updateInterrupt : ∀ s, onlyIn [.up] s (updateInterrupt s) := by
  intro s
  unfold updateInterrupt
  refine onlyIn_step (onlyIn_put_up _ _) rfl ?_
  exact onlyIn_refl _ _

theorem frame_sessionsGone : ∀ s, onlyIn [.mb, .pf, .ev] s (sessionsGone s) := by
  intro s
  unfold sessionsGone
  extract_lets +onlyGivenNames x0
  have h1 : onlyIn [.mb, .pf, .ev] s x0 := by
    dsimp only [x0]
    refine onlyIn_step (frame_endInjections _ _) rfl ?_
    exact onlyIn_refl _ _
  clear_value x0
  refine onlyIn_step (onlyIn_put_mb_pf _ _ _) rfl ?_
  exact h1

theorem frame_supervisorDown : ∀ s, onlyIn [.mb, .pf, .ev, .qz, .cf, .gn, .cn, .up, .rs, .out, .free] s (supervisorDown s) := by
  intro s
  unfold supervisorDown
  extract_lets +onlyGivenNames x0
  have h1 : onlyIn [.mb, .pf, .ev, .qz, .cf, .gn, .cn, .up, .rs, .out, .free] s x0 := by
    dsimp only [x0]
    refine onlyIn_step (frame_saveInterrupt _) rfl ?_
    refine onlyIn_step (frame_updateInterrupt _) rfl ?_
    refine onlyIn_step (frame_sessionsGone _) rfl ?_
    exact onlyIn_refl _ _
  clear_value x0
  extract_lets +onlyGivenNames x2
  have h3 : onlyIn [.mb, .pf, .ev, .qz, .cf, .gn, .cn, .up, .rs, .out, .free] s x2 := by
    dsimp only [x2]
    refine onlyIn_step (frame_cropRestart _) rfl ?_
    refine onlyIn_step (frame_gnssStop _) rfl ?_
    refine onlyIn_step (frame_quartzStop _) rfl ?_
    refine onlyIn_step (frame_canDown _) rfl ?_
    refine onlyIn_step (frame_optStop _ _) rfl ?_
    exact h1
  clear_value x2
  refine onlyIn_step (frame_updRs _ _) rfl ?_
  exact h3

theorem frame_systemDown : ∀ a0 s, onlyIn [.clk, .mb, .pf, .ev, .gr, .qz, .cf, .vd, .ls, .gn, .fb, .cn, .mc, .up, .an, .rs, .pw, .sp, .out, .free] s (systemDown a0 s) := by
  intro a0 s
  unfold systemDown
  extract_lets +onlyGivenNames x0
  have h1 : onlyIn [.clk, .mb, .pf, .ev, .gr, .qz, .cf, .vd, .ls, .gn, .fb, .cn, .mc, .up, .an, .rs, .pw, .sp, .out, .free] s x0 := by
    dsimp only [x0]
    refine onlyIn_step (frame_settleWrites _ _) rfl ?_
    refine onlyIn_step (frame_exchangeGone _) rfl ?_
    refine onlyIn_step (frame_supervisorDown _) rfl ?_
    exact onlyIn_refl _ _
  clear_value x0
  extract_lets +onlyGivenNames x2
  have h3 : onlyIn [.clk, .mb, .pf, .ev, .gr, .qz, .cf, .vd, .ls, .gn, .fb, .cn, .mc, .up, .an, .rs, .pw, .sp, .out, .free] s x2 := by
    dsimp only [x2]
    refine onlyIn_step (frame_lsReset _) rfl ?_
    refine onlyIn_step (frame_vdReset _) rfl ?_
    refine onlyIn_step (frame_panelLose _ _) rfl ?_
    exact h1
  clear_value x2
  extract_lets +onlyGivenNames x4
  have h5 : onlyIn [.clk, .mb, .pf, .ev, .gr, .qz, .cf, .vd, .ls, .gn, .fb, .cn, .mc, .up, .an, .rs, .pw, .sp, .out, .free] s x4 := by
    dsimp only [x4]
    refine onlyIn_step (frame_mapLose _) rfl ?_
    refine onlyIn_step (frame_fabricDown _) rfl ?_
    refine onlyIn_step (frame_quartzRestore _) rfl ?_
    exact h3
  clear_value x4
  extract_lets +onlyGivenNames x6
  have h7 : onlyIn [.clk, .mb, .pf, .ev, .gr, .qz, .cf, .vd, .ls, .gn, .fb, .cn, .mc, .up, .an, .rs, .pw, .sp, .out, .free] s x6 := by
    dsimp only [x6]
    refine onlyIn_step (frame_supApply _) rfl ?_
    refine onlyIn_fold _ _ (fun st8 a9 => ?_) ?_
    · refine onlyIn_step (frame_setDom _ _ _) rfl ?_
      exact onlyIn_refl _ _
    · exact h5
  clear_value x6
  refine onlyIn_step (onlyIn_put_clk_pf_ev_gr_gn_up_an_rs_pw _ _ _ _ _ _ _ _ _ _) rfl ?_
  exact h7

theorem frame_computeDown : ∀ s, onlyIn [.mb, .pf, .ev, .qz, .cf, .gn, .fb, .cn, .up, .rs, .pw, .out, .free] s (computeDown s) := by
  intro s
  unfold computeDown
  extract_lets +onlyGivenNames x0
  have h1 : onlyIn [.mb, .pf, .ev, .qz, .cf, .gn, .fb, .cn, .up, .rs, .pw, .out, .free] s x0 := by
    dsimp only [x0]
    refine onlyIn_step (frame_fabricRestart _) rfl ?_
    refine onlyIn_step (frame_timeL2 _) rfl ?_
    refine onlyIn_step (frame_supervisorDown _) rfl ?_
    exact onlyIn_refl _ _
  clear_value x0
  extract_lets +onlyGivenNames x2
  have h3 : onlyIn [.mb, .pf, .ev, .qz, .cf, .gn, .fb, .cn, .up, .rs, .pw, .out, .free] s x2 := by
    dsimp only [x2]
    refine onlyIn_fold _ _ (fun st4 a5 => ?_) ?_
    · refine onlyIn_step (frame_setDom _ _ _) rfl ?_
      exact onlyIn_refl _ _
    · exact h1
  clear_value x2
  refine onlyIn_step (frame_updRs _ _) rfl ?_
  exact h3

theorem frame_assertSource : ∀ a0 a1 a2 s, onlyIn [.clk, .mb, .pf, .ev, .gr, .qz, .cf, .vd, .ls, .gn, .fb, .cn, .mc, .up, .an, .rs, .pw, .sp, .out, .free] s (assertSource a0 a1 a2 s) := by
  intro a0 a1 a2 s
  unfold assertSource
  extract_lets +onlyGivenNames x0
  clear_value x0
  extract_lets +onlyGivenNames x1
  have h2 : onlyIn [.clk, .mb, .pf, .ev, .gr, .qz, .cf, .vd, .ls, .gn, .fb, .cn, .mc, .up, .an, .rs, .pw, .sp, .out, .free] s x1 := by
    dsimp only [x1]
    split
    · refine onlyIn_ite ?_ ?_
      · exact onlyIn_refl _ _
      · refine onlyIn_step (frame_happen _ _ _ _) rfl ?_
        exact onlyIn_refl _ _
    · exact onlyIn_refl _ _
  clear_value x1
  extract_lets +onlyGivenNames x3
  clear_value x3
  extract_lets +onlyGivenNames x4
  have h5 : onlyIn [.clk, .mb, .pf, .ev, .gr, .qz, .cf, .vd, .ls, .gn, .fb, .cn, .mc, .up, .an, .rs, .pw, .sp, .out, .free] s x4 := by
    dsimp only [x4]
    refine onlyIn_ite ?_ ?_
    · refine onlyIn_step (frame_happen _ _ _ _) rfl ?_
      refine onlyIn_step (frame_updRs _ _) rfl ?_
      exact h2
    · refine onlyIn_ite ?_ ?_
      · refine onlyIn_step (frame_updRs _ _) rfl ?_
        exact h2
      · exact h2
  clear_value x4
  extract_lets +onlyGivenNames x6
  clear_value x6
  extract_lets +onlyGivenNames x7
  clear_value x7
  extract_lets +onlyGivenNames x8
  have h9 : onlyIn [.clk, .mb, .pf, .ev, .gr, .qz, .cf, .vd, .ls, .gn, .fb, .cn, .mc, .up, .an, .rs, .pw, .sp, .out, .free] s x8 := by
    dsimp only [x8]
    refine onlyIn_ite ?_ ?_
    · refine onlyIn_step (frame_systemDown _ _) rfl ?_
      exact h5
    · refine onlyIn_step (frame_computeDown _) rfl ?_
      exact h5
  clear_value x8
  refine onlyIn_step (frame_updRs _ _) rfl ?_
  refine onlyIn_ite ?_ ?_
  · refine onlyIn_step (frame_happen _ _ _ _) rfl ?_
    exact h9
  · exact h9

theorem frame_closeAll : ∀ a0 s, onlyIn [.mb, .pf, .ev, .out] s (closeAll a0 s) := by
  intro a0 s
  unfold closeAll
  refine onlyIn_fold _ _ (fun st0 a1 => ?_) ?_
  · refine onlyIn_step (frame_closeSession _ _ _) rfl ?_
    exact onlyIn_refl _ _
  · exact onlyIn_refl _ _

theorem frame_softReset : ∀ a0 a1 s, onlyIn [.clk, .mb, .pf, .ev, .gr, .qz, .cf, .vd, .ls, .gn, .fb, .cn, .mc, .up, .an, .rs, .pw, .sp, .out, .free] s (softReset a0 a1 s) := by
  intro a0 a1 s
  unfold softReset
  refine onlyIn_step (frame_assertSource _ _ _ _) rfl ?_
  refine onlyIn_step (frame_closeAll _ _) rfl ?_
  exact onlyIn_refl _ _

theorem frame_unitReset : ∀ a0 a1 s, onlyIn [.mb, .pf, .ev, .gr, .qz, .vd, .ls, .gn, .an, .sp, .out] s (unitReset a0 a1 s) := by
  intro a0 a1 s
  unfold unitReset
  split
  · refine onlyIn_step (frame_quartzStart _) rfl ?_
    refine onlyIn_step (frame_quartzStop _) rfl ?_
    exact onlyIn_refl _ _
  · refine onlyIn_step (frame_updGn _ _) rfl ?_
    refine onlyIn_step (frame_gnssStart _) rfl ?_
    refine onlyIn_step (frame_gnssStop _) rfl ?_
    exact onlyIn_refl _ _
  · extract_lets +onlyGivenNames x0
    have h1 : onlyIn [.mb, .pf, .ev, .gr, .qz, .vd, .ls, .gn, .an, .sp, .out] s x0 := by
      dsimp only [x0]
      refine onlyIn_step (frame_lsReset _) rfl ?_
      refine onlyIn_step (frame_vdReset _) rfl ?_
      exact onlyIn_refl _ _
    clear_value x0
    refine onlyIn_ite ?_ ?_
    · exact h1
    · refine onlyIn_step (frame_vdEnable _) rfl ?_
      refine onlyIn_step (onlyIn_put_an _ _) rfl ?_
      exact h1
  · refine onlyIn_step (frame_panelRecover _) rfl ?_
    refine onlyIn_step (frame_panelOn _) rfl ?_
    refine onlyIn_step (frame_panelLose _ _) rfl ?_
    exact onlyIn_refl _ _
  · refine onlyIn_ite ?_ ?_
    · exact onlyIn_refl _ _
    · refine onlyIn_step (frame_laneReset _ _) rfl ?_
      exact onlyIn_refl _ _

theorem frame_softUnit : ∀ a0 a1 s, onlyIn [.mb, .pf, .ev, .gr, .qz, .vd, .ls, .gn, .an, .sp, .out] s (softUnit a0 a1 s) := by
  intro a0 a1 s
  unfold softUnit
  refine onlyIn_step (frame_rawEvent _ _ _ _) rfl ?_
  refine onlyIn_step (frame_unitReset _ _ _) rfl ?_
  exact onlyIn_refl _ _

theorem frame_basaltStart : ∀ s, onlyIn [.ev, .rs, .pw, .sp] s (basaltStart s) := by
  intro s
  unfold basaltStart
  extract_lets +onlyGivenNames x0
  clear_value x0
  extract_lets +onlyGivenNames x1
  clear_value x1
  extract_lets +onlyGivenNames x2
  have h3 : onlyIn [.ev, .rs, .pw, .sp] s x2 := by
    dsimp only [x2]
    refine onlyIn_step (frame_panelRestore _) rfl ?_
    refine onlyIn_step (onlyIn_put_ev _ _) rfl ?_
    exact onlyIn_refl _ _
  clear_value x2
  refine onlyIn_step (frame_updRs _ _) rfl ?_
  refine onlyIn_step (frame_updPw _ _) rfl ?_
  exact h3

theorem frame_bodyResetRequest : ∀ a0 s, onlyIn [.rs] s (bodyResetRequest a0 s).1 := by
  intro a0 s
  unfold bodyResetRequest
  extract_lets +onlyGivenNames x0
  clear_value x0
  extract_lets +onlyGivenNames x1
  clear_value x1
  extract_lets +onlyGivenNames x2
  clear_value x2
  extract_lets +onlyGivenNames x3
  clear_value x3
  refine onlyIn_ite1 ?_ ?_
  · refine onlyIn_ans ?_
    exact onlyIn_refl _ _
  · extract_lets +onlyGivenNames x4
    clear_value x4
    refine onlyIn_ite1 ?_ ?_
    · refine onlyIn_ans ?_
      exact onlyIn_refl _ _
    · refine onlyIn_ans ?_
      refine onlyIn_step (frame_updRs _ _) rfl ?_
      exact onlyIn_refl _ _

theorem frame_domainsRelease : ∀ s, onlyIn [.gr, .mc, .rs, .pw, .sp] s (domainsRelease s) := by
  intro s
  unfold domainsRelease
  extract_lets +onlyGivenNames x0
  have h1 : onlyIn [.gr, .mc, .rs, .pw, .sp] s x0 := by
    dsimp only [x0]
    refine onlyIn_ite ?_ ?_
    · exact onlyIn_refl _ _
    · refine onlyIn_step (frame_updRs _ _) rfl ?_
      refine onlyIn_step (frame_micaReset _) rfl ?_
      exact onlyIn_refl _ _
  clear_value x0
  extract_lets +onlyGivenNames x2
  have h3 : onlyIn [.gr, .mc, .rs, .pw, .sp] s x2 := by
    dsimp only [x2]
    refine onlyIn_fold _ _ (fun st4 a5 => ?_) ?_
    · refine onlyIn_step (frame_setDom _ _ _) rfl ?_
      exact onlyIn_refl _ _
    · refine onlyIn_step (frame_lanesRelease _) rfl ?_
      exact h1
  clear_value x2
  extract_lets +onlyGivenNames x6
  have h7 : onlyIn [.gr, .mc, .rs, .pw, .sp] s x6 := by
    dsimp only [x6]
    refine onlyIn_step (frame_setDom _ _ _) rfl ?_
    refine onlyIn_step (frame_setDom _ _ _) rfl ?_
    exact h3
  clear_value x6
  refine onlyIn_step (frame_panelOn _) rfl ?_
  exact h7

theorem frame_endEpisode : ∀ s, onlyIn [.rs] s (endEpisode s) := by
  intro s
  unfold endEpisode
  split
  · refine onlyIn_ite ?_ ?_
    · refine onlyIn_step (frame_updRs _ _) rfl ?_
      exact onlyIn_refl _ _
    · exact onlyIn_refl _ _
  · exact onlyIn_refl _ _

theorem frame_execResetAssert : ∀ a0 a1 a2 s t, execResetAssert a0 a1 a2 s = .next t → onlyIn [.clk, .mb, .pf, .ev, .gr, .qz, .cf, .vd, .ls, .gn, .fb, .cn, .mc, .up, .an, .rs, .pw, .sp, .out, .free] s t := by
  intro a0 a1 a2 s t h
  unfold execResetAssert at h
  cases h
  refine onlyIn_ite ?_ ?_
  · extract_lets +onlyGivenNames x0
    have h1 : onlyIn [.clk, .mb, .pf, .ev, .gr, .qz, .cf, .vd, .ls, .gn, .fb, .cn, .mc, .up, .an, .rs, .pw, .sp, .out, .free] s x0 := by
      dsimp only [x0]
      refine onlyIn_step (frame_assertSource _ _ _ _) rfl ?_
      exact onlyIn_refl _ _
    clear_value x0
    refine onlyIn_ite ?_ ?_
    · refine onlyIn_step (frame_updPw _ _) rfl ?_
      exact h1
    · exact h1
  · exact onlyIn_refl _ _

theorem frame_systemRelease : ∀ s, onlyIn [.mb, .ev, .rs] s (systemRelease s) := by
  intro s
  unfold systemRelease
  extract_lets +onlyGivenNames x0
  clear_value x0
  refine onlyIn_step (frame_updRs _ _) rfl ?_
  refine onlyIn_step (onlyIn_put_mb_ev _ _ _) rfl ?_
  exact onlyIn_refl _ _

theorem frame_proceed : ∀ s, onlyIn [.mb, .ev, .rs, .pw, .sp] s (proceed s) := by
  intro s
  unfold proceed
  extract_lets +onlyGivenNames x0
  have h1 : onlyIn [.mb, .ev, .rs, .pw, .sp] s x0 := by
    dsimp only [x0]
    refine onlyIn_ite ?_ ?_
    · refine onlyIn_step (frame_basaltStart _) rfl ?_
      exact onlyIn_refl _ _
    · exact onlyIn_refl _ _
  clear_value x0
  refine onlyIn_ite ?_ ?_
  · refine onlyIn_step (frame_systemRelease _) rfl ?_
    exact h1
  · exact h1

theorem frame_execResetRelease : ∀ a0 s t, execResetRelease a0 s = .next t → onlyIn [.mb, .ev, .rs, .pw, .sp] s t := by
  intro a0 s t h
  unfold execResetRelease at h
  cases h
  refine onlyIn_ite ?_ ?_
  · refine onlyIn_step (frame_proceed _) rfl ?_
    refine onlyIn_step (frame_updRs _ _) rfl ?_
    exact onlyIn_refl _ _
  · exact onlyIn_refl _ _

theorem frame_execSupervisorWatchdogExpiry : ∀ a0 a1 s t, execSupervisorWatchdogExpiry a0 a1 s = .next t → onlyIn [.clk, .mb, .pf, .ev, .gr, .qz, .cf, .vd, .ls, .gn, .fb, .cn, .mc, .up, .an, .rs, .pw, .sp, .out, .free] s t := by
  intro a0 a1 s t h
  unfold execSupervisorWatchdogExpiry at h
  cases h
  refine onlyIn_ite ?_ ?_
  · refine onlyIn_step (frame_assertSource _ _ _ _) rfl ?_
    exact onlyIn_refl _ _
  · exact onlyIn_refl _ _

theorem frame_execLockUp : ∀ a0 a1 s t, execLockUp a0 a1 s = .next t → onlyIn [.clk, .mb, .pf, .ev, .gr, .qz, .cf, .vd, .ls, .gn, .fb, .cn, .mc, .up, .an, .rs, .pw, .sp, .out, .free] s t := by
  intro a0 a1 s t h
  unfold execLockUp at h
  cases h
  refine onlyIn_ite ?_ ?_
  · refine onlyIn_step (frame_assertSource _ _ _ _) rfl ?_
    exact onlyIn_refl _ _
  · exact onlyIn_refl _ _

theorem frame_execClockFailure : ∀ a0 s t, execClockFailure a0 s = .next t → onlyIn [.clk, .mb, .pf, .ev, .gr, .qz, .cf, .vd, .ls, .gn, .fb, .cn, .mc, .up, .an, .rs, .pw, .sp, .out, .free] s t := by
  intro a0 s t h
  unfold execClockFailure at h
  cases h
  refine onlyIn_ite ?_ ?_
  · refine onlyIn_step (frame_assertSource _ _ _ _) rfl ?_
    exact onlyIn_refl _ _
  · exact onlyIn_refl _ _

theorem frame_execOptionTrimLoadDone : ∀ s t, execOptionTrimLoadDone s = .next t → onlyIn [.mb, .pf, .ev, .rs, .out] s t := by
  intro s t h
  unfold execOptionTrimLoadDone at h
  cases h
  refine onlyIn_ite ?_ ?_
  · refine onlyIn_ite ?_ ?_
    · refine onlyIn_step (frame_happen _ _ _ _) rfl ?_
      refine onlyIn_step (frame_updRs _ _) rfl ?_
      exact onlyIn_refl _ _
    · refine onlyIn_step (frame_updRs _ _) rfl ?_
      exact onlyIn_refl _ _
  · exact onlyIn_refl _ _

theorem frame_execVcoLock : ∀ a0 a1 s t, execVcoLock a0 a1 s = .next t → onlyIn [.clk, .mb, .pf, .ev, .gr, .qz, .cf, .vd, .ls, .gn, .fb, .cn, .mc, .up, .an, .rs, .pw, .sp, .out, .free] s t := by
  intro a0 a1 s t h
  unfold execVcoLock at h
  cases h
  refine onlyIn_ite ?_ ?_
  · refine onlyIn_ite ?_ ?_
    · extract_lets +onlyGivenNames x0
      clear_value x0
      extract_lets +onlyGivenNames x1
      clear_value x1
      extract_lets +onlyGivenNames x2
      have h3 : onlyIn [.clk, .mb, .pf, .ev, .gr, .qz, .cf, .vd, .ls, .gn, .fb, .cn, .mc, .up, .an, .rs, .pw, .sp, .out, .free] s x2 := by
        dsimp only [x2]
        refine onlyIn_step (frame_domainsRelease _) rfl ?_
        refine onlyIn_step (onlyIn_put_clk_pw _ _ _) rfl ?_
        exact onlyIn_refl _ _
      clear_value x2
      refine onlyIn_step (frame_updRs _ _) rfl ?_
      exact h3
    · refine onlyIn_step (frame_assertSource _ _ _ _) rfl ?_
      exact onlyIn_refl _ _
  · exact onlyIn_refl _ _

theorem frame_execL3UnitReset : ∀ a0 a1 s t, execL3UnitReset a0 a1 s = .next t → onlyIn [.mb, .pf, .ev, .gr, .qz, .vd, .ls, .gn, .an, .sp, .out] s t := by
  intro a0 a1 s t h
  unfold execL3UnitReset at h
  cases h
  refine onlyIn_ite ?_ ?_
  · refine onlyIn_step (frame_softUnit _ _ _) rfl ?_
    exact onlyIn_refl _ _
  · exact onlyIn_refl _ _

theorem frame_execResetRequestEffect : ∀ a0 s t, execResetRequestEffect a0 s = .next t → onlyIn [.clk, .mb, .pf, .ev, .gr, .qz, .cf, .vd, .ls, .gn, .fb, .cn, .mc, .up, .an, .rs, .pw, .sp, .out, .free] s t := by
  intro a0 s t h
  unfold execResetRequestEffect at h
  cases h
  split
  · refine onlyIn_ite ?_ ?_
    · extract_lets +onlyGivenNames x0
      have h1 : onlyIn [.clk, .mb, .pf, .ev, .gr, .qz, .cf, .vd, .ls, .gn, .fb, .cn, .mc, .up, .an, .rs, .pw, .sp, .out, .free] s x0 := by
        dsimp only [x0]
        refine onlyIn_step (frame_updRs _ _) rfl ?_
        exact onlyIn_refl _ _
      clear_value x0
      refine onlyIn_ite ?_ ?_
      · refine onlyIn_step (frame_softUnit _ _ _) rfl ?_
        exact h1
      · refine onlyIn_step (frame_assertSource _ _ _ _) rfl ?_
        refine onlyIn_step (frame_closeAll _ _) rfl ?_
        exact h1
    · exact onlyIn_refl _ _
  · exact onlyIn_refl _ _

end Sys2Proof.Machine
end

