-- ==== Sys2Proof/Laws/FrameUpdate.lean ====
section
/-!
SUPPORT. Laws/FrameUpdate.lean: the parts of the state that the definitions of Machine/Update.lean may change.
-/

namespace Sys2Proof.Machine

open Sys2Proof.Safety

theorem frame_chainSend : ∀ a0 a1 a2 s, onlyIn [.fb] s (chainSend a0 a1 a2 s).1 := by
  intro a0 a1 a2 s
  unfold chainSend
  extract_lets +onlyGivenNames x0
  clear_value x0
  refine onlyIn_ite1 ?_ ?_
  · refine onlyIn_pair1 ?_
    exact onlyIn_refl _ _
  · refine onlyIn_step (frame_skimSend _ _ _ _ _) rfl ?_
    exact onlyIn_refl _ _

theorem frame_chainAll : ∀ a0 a1 s, onlyIn [.fb] s (chainAll a0 a1 s).1 := by
  intro a0 a1 s
  unfold chainAll
  refine onlyIn_fold1 _ _ (fun st0 a1 => ?_) ?_
  · extract_lets +onlyGivenNames x2
    have h3 : onlyIn [.fb] st0.1 x2.1 := by
      dsimp only [x2]
      refine onlyIn_step (frame_chainSend _ _ _ _) rfl ?_
      exact onlyIn_refl _ _
    clear_value x2
    refine onlyIn_pair1 ?_
    exact h3
  · refine onlyIn_pair1 ?_
    exact onlyIn_refl _ _

theorem frame_updUp : ∀ a0 s, onlyIn [.up] s (updUp a0 s) := by
  intro a0 s
  unfold updUp
  refine onlyIn_step (onlyIn_put_up _ _) rfl ?_
  exact onlyIn_refl _ _

theorem frame_updSlot : ∀ a0 a1 a2 s, onlyIn [.up] s (updSlot a0 a1 a2 s) := by
  intro a0 a1 a2 s
  unfold updSlot
  refine onlyIn_step (frame_updUp _ _) rfl ?_
  exact onlyIn_refl _ _

theorem frame_eraseStaged : ∀ a0 s, onlyIn [.up] s (eraseStaged a0 s) := by
  intro a0 s
  unfold eraseStaged
  refine onlyIn_fold _ _ (fun st0 a1 => ?_) ?_
  · refine onlyIn_step (frame_updSlot _ _ _ _) rfl ?_
    exact onlyIn_refl _ _
  · exact onlyIn_refl _ _

theorem frame_ringEnd : ∀ s, onlyIn [.mc] s (ringEnd s) := by
  intro s
  unfold ringEnd
  refine onlyIn_ite ?_ ?_
  · exact onlyIn_refl _ _
  · refine onlyIn_step (frame_ringRelease _) rfl ?_
    exact onlyIn_refl _ _

theorem frame_progress : ∀ a0 a1 s, onlyIn [.mb, .pf, .ev, .out] s (progress a0 a1 s) := by
  intro a0 a1 s
  unfold progress
  split
  · exact onlyIn_refl _ _
  · split
    · exact onlyIn_refl _ _
    · refine onlyIn_step (frame_notifyAll _ _ _ _) rfl ?_
      exact onlyIn_refl _ _

theorem frame_updCamp : ∀ a0 a1 s, onlyIn [.up] s (updCamp a0 a1 s) := by
  intro a0 a1 s
  unfold updCamp
  refine onlyIn_step (frame_updUp _ _) rfl ?_
  exact onlyIn_refl _ _

theorem frame_updMod : ∀ a0 a1 a2 s, onlyIn [.up] s (updMod a0 a1 a2 s) := by
  intro a0 a1 a2 s
  unfold updMod
  refine onlyIn_step (frame_updCamp _ _ _) rfl ?_
  exact onlyIn_refl _ _

theorem frame_enterUp : ∀ a0 a1 s, onlyIn [.mb, .pf, .ev, .up, .out] s (enterUp a0 a1 s) := by
  intro a0 a1 s
  unfold enterUp
  refine onlyIn_step (frame_progress _ _ _) rfl ?_
  refine onlyIn_step (frame_updMod _ _ _ _) rfl ?_
  refine onlyIn_step (frame_updCamp _ _ _) rfl ?_
  exact onlyIn_refl _ _

theorem frame_dropStaging : ∀ a0 a1 s, onlyIn [.mb, .pf, .ev, .mc, .up, .out] s (dropStaging a0 a1 s) := by
  intro a0 a1 s
  unfold dropStaging
  split
  · exact onlyIn_refl _ _
  · refine onlyIn_ite ?_ ?_
    · extract_lets +onlyGivenNames x0
      have h1 : onlyIn [.mb, .pf, .ev, .mc, .up, .out] s x0 := by
        dsimp only [x0]
        refine onlyIn_step (frame_updUp _ _) rfl ?_
        refine onlyIn_step (frame_eraseStaged _ _) rfl ?_
        exact onlyIn_refl _ _
      clear_value x0
      refine onlyIn_step (frame_ringEnd _) rfl ?_
      refine onlyIn_step (frame_enterUp _ _ _) rfl ?_
      refine onlyIn_step (frame_updCamp _ _ _) rfl ?_
      exact h1
    · exact onlyIn_refl _ _

theorem frame_abortStaging : ∀ a0 a1 s, onlyIn [.mb, .pf, .ev, .fb, .mc, .up, .out] s (abortStaging a0 a1 s).1 := by
  intro a0 a1 s
  unfold abortStaging
  split
  · refine onlyIn_pair1 ?_
    exact onlyIn_refl _ _
  · extract_lets +onlyGivenNames x0
    have h1 : onlyIn [.mb, .pf, .ev, .fb, .mc, .up, .out] s x0.1 := by
      dsimp only [x0]
      refine onlyIn_step (frame_chainAll _ _ _) rfl ?_
      exact onlyIn_refl _ _
    clear_value x0
    refine onlyIn_pair1 ?_
    refine onlyIn_step (frame_dropStaging _ _ _) rfl ?_
    exact h1

theorem frame_modState : ∀ a0 a1 a2 a3 s, onlyIn [.mb, .pf, .ev, .up, .out] s (modState a0 a1 a2 a3 s) := by
  intro a0 a1 a2 a3 s
  unfold modState
  refine onlyIn_step (frame_progress _ _ _) rfl ?_
  refine onlyIn_step (frame_updMod _ _ _ _) rfl ?_
  exact onlyIn_refl _ _

theorem frame_ackMsg : ∀ a0 a1 s, onlyIn [.mc, .up] s (ackMsg a0 a1 s) := by
  intro a0 a1 s
  unfold ackMsg
  extract_lets +onlyGivenNames x0
  clear_value x0
  split
  · exact onlyIn_refl _ _
  · refine onlyIn_ite ?_ ?_
    · refine onlyIn_step (frame_ringEnd _) rfl ?_
      refine onlyIn_step (frame_updUp _ _) rfl ?_
      exact onlyIn_refl _ _
    · exact onlyIn_refl _ _

theorem frame_ackPred : ∀ a0 a1 a2 a3 s, onlyIn [.fb] s (ackPred a0 a1 a2 a3 s) := by
  intro a0 a1 a2 a3 s
  unfold ackPred
  refine onlyIn_step (frame_chainSend _ _ _ _) rfl ?_
  exact onlyIn_refl _ _

theorem frame_reportStaged : ∀ a0 a1 s, onlyIn [.fb] s (reportStaged a0 a1 s) := by
  intro a0 a1 s
  unfold reportStaged
  split
  · exact onlyIn_refl _ _
  · refine onlyIn_ite ?_ ?_
    · exact onlyIn_refl _ _
    · refine onlyIn_step (frame_chainSend _ _ _ _) rfl ?_
      exact onlyIn_refl _ _

theorem frame_authFailure : ∀ a0 s, onlyIn [.mb, .pf, .ev, .fb, .mc, .up, .out] s (authFailure a0 s) := by
  intro a0 s
  unfold authFailure
  split
  · exact onlyIn_refl _ _
  · extract_lets +onlyGivenNames x0
    have h1 : onlyIn [.mb, .pf, .ev, .fb, .mc, .up, .out] s x0 := by
      dsimp only [x0]
      refine onlyIn_step (frame_happen _ _ _ _) rfl ?_
      exact onlyIn_refl _ _
    clear_value x0
    refine onlyIn_ite ?_ ?_
    · refine onlyIn_step (frame_abortStaging _ _ _) rfl ?_
      exact h1
    · refine onlyIn_step (frame_dropStaging _ _ _) rfl ?_
      refine onlyIn_step (frame_reportStaged _ _ _) rfl ?_
      exact h1

theorem frame_checkManifest : ∀ a0 s, onlyIn [.mb, .pf, .ev, .out] s (checkManifest a0 s).1 := by
  intro a0 s
  unfold checkManifest
  split
  · refine onlyIn_pair1 ?_
    exact onlyIn_refl _ _
  · split
    · refine onlyIn_pair1 ?_
      exact onlyIn_refl _ _
    · refine onlyIn_pair1 ?_
      refine onlyIn_step (frame_happen _ _ _ _) rfl ?_
      exact onlyIn_refl _ _
    · refine onlyIn_pair1 ?_
      exact onlyIn_refl _ _

theorem frame_sendManifest : ∀ a0 s, onlyIn [.fb] s (sendManifest a0 s) := by
  intro a0 s
  unfold sendManifest
  split
  · exact onlyIn_refl _ _
  · split
    · exact onlyIn_refl _ _
    · refine onlyIn_fold _ _ (fun st0 a1 => ?_) ?_
      · refine onlyIn_step (frame_chainSend _ _ _ _) rfl ?_
        exact onlyIn_refl _ _
      · exact onlyIn_refl _ _

theorem frame_stagedCheck : ∀ a0 s, onlyIn [.mb, .pf, .ev, .fb, .mc, .up, .out] s (stagedCheck a0 s) := by
  intro a0 s
  unfold stagedCheck
  split
  · exact onlyIn_refl _ _
  · refine onlyIn_ite ?_ ?_
    · extract_lets +onlyGivenNames x0
      have h1 : onlyIn [.mb, .pf, .ev, .fb, .mc, .up, .out] s x0 := by
        dsimp only [x0]
        refine onlyIn_step (frame_rawEvent _ _ _ _) rfl ?_
        exact onlyIn_refl _ _
      clear_value x0
      refine onlyIn_step (frame_reportStaged _ _ _) rfl ?_
      refine onlyIn_step (frame_ringEnd _) rfl ?_
      refine onlyIn_step (frame_updMod _ _ _ _) rfl ?_
      refine onlyIn_step (frame_enterUp _ _ _) rfl ?_
      exact h1
    · exact onlyIn_refl _ _

theorem frame_takeManifest : ∀ a0 a1 a2 a3 a4 s, onlyIn [.mb, .pf, .ev, .qz, .fb, .mc, .up, .out] s (takeManifest a0 a1 a2 a3 a4 s) := by
  intro a0 a1 a2 a3 a4 s
  unfold takeManifest
  extract_lets +onlyGivenNames x0
  clear_value x0
  extract_lets +onlyGivenNames x1
  clear_value x1
  extract_lets +onlyGivenNames x2
  have h3 : onlyIn [.mb, .pf, .ev, .qz, .fb, .mc, .up, .out] s x2 := by
    dsimp only [x2]
    refine onlyIn_ite ?_ ?_
    · refine onlyIn_step (frame_updCamp _ _ _) rfl ?_
      exact onlyIn_refl _ _
    · refine onlyIn_step (frame_progress _ _ _) rfl ?_
      refine onlyIn_step (frame_eraseStaged _ _) rfl ?_
      refine onlyIn_step (frame_updUp _ _) rfl ?_
      exact onlyIn_refl _ _
  clear_value x2
  extract_lets +onlyGivenNames x4
  have h5 : onlyIn [.mb, .pf, .ev, .qz, .fb, .mc, .up, .out] s x4 := by
    dsimp only [x4]
    split
    · refine onlyIn_ite ?_ ?_
      · refine onlyIn_step (frame_ringStaging _) rfl ?_
        exact h3
      · exact h3
    · exact h3
  clear_value x4
  extract_lets +onlyGivenNames x6
  have h7 : onlyIn [.mb, .pf, .ev, .qz, .fb, .mc, .up, .out] s x6 := by
    dsimp only [x6]
    refine onlyIn_step (frame_sendManifest _ _) rfl ?_
    exact h5
  clear_value x6
  split
  · refine onlyIn_ite ?_ ?_
    · refine onlyIn_step (frame_stagedCheck _ _) rfl ?_
      exact h7
    · refine onlyIn_ite ?_ ?_
      · refine onlyIn_step (frame_reportStaged _ _ _) rfl ?_
        exact h7
      · exact h7
  · exact h7

theorem frame_updPart : ∀ a0 a1 a2 s, onlyIn [.up] s (updPart a0 a1 a2 s) := by
  intro a0 a1 a2 s
  unfold updPart
  refine onlyIn_step (frame_updCamp _ _ _) rfl ?_
  exact onlyIn_refl _ _

theorem frame_partWhole : ∀ a0 a1 a2 s, onlyIn [.mb, .pf, .ev, .fb, .mc, .up, .out] s (partWhole a0 a1 a2 s) := by
  intro a0 a1 a2 s
  unfold partWhole
  dsimp only
  split
  · exact onlyIn_refl _ _
  · refine onlyIn_ite ?_ ?_
    · refine onlyIn_step (frame_updPart _ _ _ _) rfl ?_
      exact onlyIn_refl _ _
    · refine onlyIn_ite ?_ ?_
      · refine onlyIn_step (frame_stagedCheck _ _) rfl ?_
        refine onlyIn_step (frame_updPart _ _ _ _) rfl ?_
        exact onlyIn_refl _ _
      · refine onlyIn_ite ?_ ?_
        · refine onlyIn_step (frame_authFailure _ _) rfl ?_
          refine onlyIn_step (frame_updSlot _ _ _ _) rfl ?_
          refine onlyIn_step (frame_updPart _ _ _ _) rfl ?_
          exact onlyIn_refl _ _
        · refine onlyIn_step (frame_updSlot _ _ _ _) rfl ?_
          refine onlyIn_step (frame_updPart _ _ _ _) rfl ?_
          exact onlyIn_refl _ _

theorem frame_takeChunk : ∀ a0 a1 a2 a3 a4 s, onlyIn [.mb, .pf, .ev, .fb, .mc, .up, .out] s (takeChunk a0 a1 a2 a3 a4 s).1 := by
  intro a0 a1 a2 a3 a4 s
  unfold takeChunk
  split
  · refine onlyIn_pair1 ?_
    exact onlyIn_refl _ _
  · refine onlyIn_ite1 ?_ ?_
    · extract_lets +onlyGivenNames x0
      have h1 : onlyIn [.mb, .pf, .ev, .fb, .mc, .up, .out] s x0 := by
        dsimp only [x0]
        refine onlyIn_ite ?_ ?_
        · refine onlyIn_step (frame_updSlot _ _ _ _) rfl ?_
          exact onlyIn_refl _ _
        · exact onlyIn_refl _ _
      clear_value x0
      extract_lets +onlyGivenNames x2
      have h3 : onlyIn [.mb, .pf, .ev, .fb, .mc, .up, .out] s x2 := by
        dsimp only [x2]
        refine onlyIn_ite ?_ ?_
        · refine onlyIn_step (frame_updUp _ _) rfl ?_
          exact h1
        · exact h1
      clear_value x2
      extract_lets +onlyGivenNames x4
      have h5 : onlyIn [.mb, .pf, .ev, .fb, .mc, .up, .out] s x4 := by
        dsimp only [x4]
        refine onlyIn_step (frame_updPart _ _ _ _) rfl ?_
        exact h3
      clear_value x4
      refine onlyIn_pair1 ?_
      refine onlyIn_ite ?_ ?_
      · refine onlyIn_step (frame_partWhole _ _ _ _) rfl ?_
        exact h5
      · exact h5
    · extract_lets +onlyGivenNames x6
      clear_value x6
      extract_lets +onlyGivenNames x7
      have h8 : onlyIn [.mb, .pf, .ev, .fb, .mc, .up, .out] s x7 := by
        dsimp only [x7]
        refine onlyIn_step (frame_updPart _ _ _ _) rfl ?_
        exact onlyIn_refl _ _
      clear_value x7
      refine onlyIn_pair1 ?_
      refine onlyIn_ite ?_ ?_
      · refine onlyIn_step (frame_authFailure _ _) rfl ?_
        exact h8
      · exact h8

theorem frame_entryOf : ∀ a0 a1 s, onlyIn [.free] s (entryOf a0 a1 s).1 := by
  intro a0 a1 s
  unfold entryOf
  extract_lets +onlyGivenNames x0
  clear_value x0
  refine onlyIn_ite1 ?_ ?_
  · refine onlyIn_pair1 ?_
    exact onlyIn_refl _ _
  · extract_lets +onlyGivenNames x1
    have h2 : onlyIn [.free] s x1.2 := by
      dsimp only [x1]
      refine onlyIn_step (frame_freshNat _) rfl ?_
      exact onlyIn_refl _ _
    clear_value x1
    refine onlyIn_pair1 ?_
    exact h2

theorem frame_manifestMsg : ∀ a0 a1 s, onlyIn [.mb, .pf, .ev, .qz, .fb, .mc, .up, .out, .free] s (manifestMsg a0 a1 s) := by
  intro a0 a1 s
  unfold manifestMsg
  extract_lets +onlyGivenNames x0
  clear_value x0
  extract_lets +onlyGivenNames x1
  clear_value x1
  extract_lets +onlyGivenNames x2
  clear_value x2
  extract_lets +onlyGivenNames x3
  clear_value x3
  extract_lets +onlyGivenNames x4
  clear_value x4
  refine onlyIn_ite ?_ ?_
  · exact onlyIn_refl _ _
  · extract_lets +onlyGivenNames x5
    clear_value x5
    refine onlyIn_ite ?_ ?_
    · refine onlyIn_step (frame_updUp _ _) rfl ?_
      exact onlyIn_refl _ _
    · extract_lets +onlyGivenNames x6
      clear_value x6
      extract_lets +onlyGivenNames x7
      have h8 : onlyIn [.mb, .pf, .ev, .qz, .fb, .mc, .up, .out, .free] s x7.1 := by
        dsimp only [x7]
        refine onlyIn_step (frame_checkManifest _ _) rfl ?_
        refine onlyIn_step (frame_updUp _ _) rfl ?_
        exact onlyIn_refl _ _
      clear_value x7
      extract_lets +onlyGivenNames x9
      have h10 : onlyIn [.mb, .pf, .ev, .qz, .fb, .mc, .up, .out, .free] s x9.1 := by
        dsimp only [x9]
        refine onlyIn_step (frame_entryOf _ _ _) rfl ?_
        exact h8
      clear_value x9
      split
      · exact h10
      · extract_lets +onlyGivenNames x11
        have h12 : onlyIn [.mb, .pf, .ev, .qz, .fb, .mc, .up, .out, .free] s x11 := by
          dsimp only [x11]
          refine onlyIn_step (frame_chainSend _ _ _ _) rfl ?_
          exact h10
        clear_value x11
        split
        · exact h12
        · refine onlyIn_ite ?_ ?_
          · exact h10
          · refine onlyIn_ite ?_ ?_
            · refine onlyIn_step (frame_takeManifest _ _ _ _ _ _) rfl ?_
              exact h10
            · exact h12

theorem frame_chunkWhole : ∀ a0 a1 a2 a3 a4 s, onlyIn [.mb, .pf, .ev, .fb, .mc, .up, .out] s (chunkWhole a0 a1 a2 a3 a4 s) := by
  intro a0 a1 a2 a3 a4 s
  unfold chunkWhole
  extract_lets +onlyGivenNames x0
  clear_value x0
  extract_lets +onlyGivenNames x1
  have h2 : onlyIn [.mb, .pf, .ev, .fb, .mc, .up, .out] s x1 := by
    dsimp only [x1]
    refine onlyIn_step (frame_updCamp _ _ _) rfl ?_
    exact onlyIn_refl _ _
  clear_value x1
  refine onlyIn_ite ?_ ?_
  · refine onlyIn_step (frame_ackPred _ _ _ _ _) rfl ?_
    exact h2
  · extract_lets +onlyGivenNames x3
    have h4 : onlyIn [.mb, .pf, .ev, .fb, .mc, .up, .out] s x3.1 := by
      dsimp only [x3]
      refine onlyIn_step (frame_takeChunk _ _ _ _ _ _) rfl ?_
      exact h2
    clear_value x3
    split
    · exact h4
    · refine onlyIn_ite ?_ ?_
      · refine onlyIn_step (frame_ackPred _ _ _ _ _) rfl ?_
        exact h4
      · refine onlyIn_step (frame_ackPred _ _ _ _ _) rfl ?_
        exact h4

theorem frame_chunkMsg : ∀ a0 a1 s, onlyIn [.mb, .pf, .ev, .fb, .mc, .up, .out] s (chunkMsg a0 a1 s) := by
  intro a0 a1 s
  unfold chunkMsg
  extract_lets +onlyGivenNames x0
  clear_value x0
  extract_lets +onlyGivenNames x1
  clear_value x1
  extract_lets +onlyGivenNames x2
  clear_value x2
  extract_lets +onlyGivenNames x3
  clear_value x3
  extract_lets +onlyGivenNames x4
  clear_value x4
  split
  · exact onlyIn_refl _ _
  · split
    · refine onlyIn_ite ?_ ?_
      · exact onlyIn_refl _ _
      · refine onlyIn_ite ?_ ?_
        · refine onlyIn_ite ?_ ?_
          · refine onlyIn_step (frame_ackPred _ _ _ _ _) rfl ?_
            exact onlyIn_refl _ _
          · exact onlyIn_refl _ _
        · extract_lets +onlyGivenNames x5
          clear_value x5
          refine onlyIn_ite ?_ ?_
          · refine onlyIn_ite ?_ ?_
            · refine onlyIn_step (frame_chunkWhole _ _ _ _ _ _) rfl ?_
              exact onlyIn_refl _ _
            · refine onlyIn_step (frame_updCamp _ _ _) rfl ?_
              exact onlyIn_refl _ _
          · refine onlyIn_ite ?_ ?_
            · refine onlyIn_step (frame_updCamp _ _ _) rfl ?_
              exact onlyIn_refl _ _
            · refine onlyIn_step (frame_ackPred _ _ _ _ _) rfl ?_
              refine onlyIn_step (frame_updCamp _ _ _) rfl ?_
              exact onlyIn_refl _ _
    · exact onlyIn_refl _ _

theorem frame_sendChunk : ∀ a0 s, onlyIn [.fb, .up] s (sendChunk a0 s) := by
  intro a0 s
  unfold sendChunk
  split
  · exact onlyIn_refl _ _
  · refine onlyIn_step (frame_updUp _ _) rfl ?_
    refine onlyIn_fold _ _ (fun st0 a1 => ?_) ?_
    · refine onlyIn_step (frame_chainSend _ _ _ _) rfl ?_
      exact onlyIn_refl _ _
    · exact onlyIn_refl _ _

theorem frame_nackMsg : ∀ a0 a1 s, onlyIn [.fb, .up] s (nackMsg a0 a1 s) := by
  intro a0 a1 s
  unfold nackMsg
  dsimp only
  split
  · exact onlyIn_refl _ _
  · refine onlyIn_ite ?_ ?_
    · refine onlyIn_fold _ _ (fun st0 a1 => ?_) ?_
      · refine onlyIn_step (frame_sendChunk _ _) rfl ?_
        exact onlyIn_refl _ _
      · refine onlyIn_step (frame_updUp _ _) rfl ?_
        exact onlyIn_refl _ _
    · exact onlyIn_refl _ _

theorem frame_stagedMsg : ∀ a0 a1 s, onlyIn [.mb, .pf, .ev, .fb, .mc, .up, .out] s (stagedMsg a0 a1 s) := by
  intro a0 a1 s
  unfold stagedMsg
  extract_lets +onlyGivenNames x0
  clear_value x0
  extract_lets +onlyGivenNames x1
  clear_value x1
  split
  · exact onlyIn_refl _ _
  · extract_lets +onlyGivenNames x2
    clear_value x2
    refine onlyIn_ite ?_ ?_
    · refine onlyIn_ite ?_ ?_
      · refine onlyIn_step (frame_modState _ _ _ _ _) rfl ?_
        exact onlyIn_refl _ _
      · refine onlyIn_step (frame_abortStaging _ _ _) rfl ?_
        refine onlyIn_step (frame_modState _ _ _ _ _) rfl ?_
        exact onlyIn_refl _ _
    · exact onlyIn_refl _ _

theorem frame_motionMsg : ∀ a0 a1 s, onlyIn [.up] s (motionMsg a0 a1 s) := by
  intro a0 a1 s
  unfold motionMsg
  extract_lets +onlyGivenNames x0
  clear_value x0
  refine onlyIn_ite ?_ ?_
  · refine onlyIn_step (frame_updUp _ _) rfl ?_
    exact onlyIn_refl _ _
  · exact onlyIn_refl _ _

theorem frame_motionFrame : ∀ s, onlyIn [.ev, .up] s (motionFrame s) := by
  intro s
  unfold motionFrame
  extract_lets +onlyGivenNames x0
  clear_value x0
  extract_lets +onlyGivenNames x1
  clear_value x1
  extract_lets +onlyGivenNames x2
  have h3 : onlyIn [.ev, .up] s x2 := by
    dsimp only [x2]
    refine onlyIn_step (frame_updUp _ _) rfl ?_
    exact onlyIn_refl _ _
  clear_value x2
  refine onlyIn_ite ?_ ?_
  · refine onlyIn_step (frame_endOemInjections _) rfl ?_
    exact h3
  · exact h3

theorem frame_execMotionSend : ∀ s t, execMotionSend s = .next t → onlyIn [.fb, .up] s t := by
  intro s t h
  unfold execMotionSend at h
  cases h
  refine onlyIn_ite ?_ ?_
  · refine onlyIn_fold _ _ (fun st0 a1 => ?_) ?_
    · refine onlyIn_step (frame_skimSend _ _ _ _ _) rfl ?_
      exact onlyIn_refl _ _
    · refine onlyIn_step (frame_updUp _ _) rfl ?_
      exact onlyIn_refl _ _
  · exact onlyIn_refl _ _

theorem frame_execSupplyConditionChange : ∀ a0 a1 s t, execSupplyConditionChange a0 a1 s = .next t → onlyIn [.up] s t := by
  intro a0 a1 s t h
  unfold execSupplyConditionChange at h
  cases h
  extract_lets +onlyGivenNames x0
  clear_value x0
  refine onlyIn_ite ?_ ?_
  · exact onlyIn_refl _ _
  · refine onlyIn_ite ?_ ?_
    · refine onlyIn_step (frame_updUp _ _) rfl ?_
      exact onlyIn_refl _ _
    · refine onlyIn_ite ?_ ?_
      · refine onlyIn_step (frame_updUp _ _) rfl ?_
        exact onlyIn_refl _ _
      · exact onlyIn_refl _ _

theorem frame_execChunkForward : ∀ s t, execChunkForward s = .next t → onlyIn [.fb, .up] s t := by
  intro s t h
  unfold execChunkForward at h
  cases h
  refine onlyIn_ite ?_ ?_
  · split
    · refine onlyIn_step (frame_sendChunk _ _) rfl ?_
      exact onlyIn_refl _ _
    · exact onlyIn_refl _ _
  · exact onlyIn_refl _ _

end Sys2Proof.Machine
end

