-- ==== Sys2Proof/Laws/FrameRennet.lean ====
section
/-!
SUPPORT. Laws/FrameRennet.lean: the parts of the state that the definitions of Machine/Rennet.lean may change.
-/

namespace Sys2Proof.Machine

open Sys2Proof.Safety

theorem frame_writeCommit : ∀ a0 s, onlyIn [.up] s (writeCommit a0 s) := by
  intro a0 s
  unfold writeCommit
  refine onlyIn_step (frame_updUp _ _) rfl ?_
  exact onlyIn_refl _ _

theorem frame_commitTo : ∀ a0 s, onlyIn [.up] s (commitTo a0 s) := by
  intro a0 s
  unfold commitTo
  refine onlyIn_step (frame_writeCommit _ _) rfl ?_
  exact onlyIn_refl _ _

theorem frame_swapNow : ∀ s, onlyIn [.clk, .mb, .pf, .ev, .gr, .qz, .cf, .vd, .ls, .gn, .fb, .cn, .mc, .up, .an, .rs, .pw, .sp, .out, .free] s (swapNow s) := by
  intro s
  unfold swapNow
  extract_lets +onlyGivenNames x0
  clear_value x0
  extract_lets +onlyGivenNames x1
  have h2 : onlyIn [.clk, .mb, .pf, .ev, .gr, .qz, .cf, .vd, .ls, .gn, .fb, .cn, .mc, .up, .an, .rs, .pw, .sp, .out, .free] s x1 := by
    dsimp only [x1]
    refine onlyIn_step (frame_updUp _ _) rfl ?_
    refine onlyIn_step (frame_commitTo _ _) rfl ?_
    exact onlyIn_refl _ _
  clear_value x1
  refine onlyIn_step (frame_softReset _ _ _) rfl ?_
  refine onlyIn_step (frame_enterUp _ _ _) rfl ?_
  refine onlyIn_step (frame_updMod _ _ _ _) rfl ?_
  exact h2

theorem frame_takeCommit : ∀ a0 s, onlyIn [.clk, .mb, .pf, .ev, .gr, .qz, .cf, .vd, .ls, .gn, .fb, .cn, .mc, .up, .an, .rs, .pw, .sp, .out, .free] s (takeCommit a0 s) := by
  intro a0 s
  unfold takeCommit
  extract_lets +onlyGivenNames x0
  have h1 : onlyIn [.clk, .mb, .pf, .ev, .gr, .qz, .cf, .vd, .ls, .gn, .fb, .cn, .mc, .up, .an, .rs, .pw, .sp, .out, .free] s x0 := by
    dsimp only [x0]
    refine onlyIn_step (frame_enterUp _ _ _) rfl ?_
    refine onlyIn_step (frame_commitTo _ _) rfl ?_
    exact onlyIn_refl _ _
  clear_value x0
  refine onlyIn_ite ?_ ?_
  · refine onlyIn_step (frame_swapNow _) rfl ?_
    exact h1
  · exact h1

theorem frame_takeAbort : ∀ a0 s, onlyIn [.mb, .pf, .ev, .up, .out] s (takeAbort a0 s) := by
  intro a0 s
  unfold takeAbort
  refine onlyIn_step (frame_enterUp _ _ _) rfl ?_
  refine onlyIn_step (frame_happen _ _ _ _) rfl ?_
  refine onlyIn_step (frame_commitTo _ _) rfl ?_
  exact onlyIn_refl _ _

theorem frame_answerConfirm : ∀ s, onlyIn [.mb, .up, .out] s (answerConfirm s) := by
  intro s
  unfold answerConfirm
  split
  · refine onlyIn_ite ?_ ?_
    · refine onlyIn_step (frame_resolve _ _ _ _) rfl ?_
      refine onlyIn_step (frame_updUp _ _) rfl ?_
      exact onlyIn_refl _ _
    · exact onlyIn_refl _ _
  · exact onlyIn_refl _ _

theorem frame_ackDecisionMsg : ∀ a0 a1 s, onlyIn [.clk, .mb, .pf, .ev, .gr, .qz, .cf, .vd, .ls, .gn, .fb, .cn, .mc, .up, .an, .rs, .pw, .sp, .out, .free] s (ackDecisionMsg a0 a1 s) := by
  intro a0 a1 s
  unfold ackDecisionMsg
  extract_lets +onlyGivenNames x0
  clear_value x0
  extract_lets +onlyGivenNames x1
  clear_value x1
  extract_lets +onlyGivenNames x2
  clear_value x2
  split
  · exact onlyIn_refl _ _
  · refine onlyIn_ite ?_ ?_
    · exact onlyIn_refl _ _
    · refine onlyIn_ite ?_ ?_
      · refine onlyIn_ite ?_ ?_
        · refine onlyIn_step (frame_takeCommit _ _) rfl ?_
          exact onlyIn_refl _ _
        · refine onlyIn_ite ?_ ?_
          · refine onlyIn_step (frame_takeAbort _ _) rfl ?_
            exact onlyIn_refl _ _
          · exact onlyIn_refl _ _
      · refine onlyIn_step (frame_answerConfirm _) rfl ?_
        refine onlyIn_step (frame_modState _ _ _ _ _) rfl ?_
        exact onlyIn_refl _ _

theorem frame_tellFallBack : ∀ s, onlyIn [.fb, .up] s (tellFallBack s) := by
  intro s
  unfold tellFallBack
  refine onlyIn_fold _ _ (fun st0 a1 => ?_) ?_
  · extract_lets +onlyGivenNames x2
    have h3 : onlyIn [.fb, .up] st0 x2.1 := by
      dsimp only [x2]
      refine onlyIn_step (frame_chainSend _ _ _ _) rfl ?_
      exact onlyIn_refl _ _
    clear_value x2
    refine onlyIn_ite ?_ ?_
    · refine onlyIn_step (frame_updUp _ _) rfl ?_
      exact h3
    · exact onlyIn_refl _ _
  · exact onlyIn_refl _ _

theorem frame_restoreOld : ∀ s, onlyIn [.pf, .up] s (restoreOld s) := by
  intro s
  unfold restoreOld
  split
  · exact onlyIn_refl _ _
  · refine onlyIn_step (frame_updUp _ _) rfl ?_
    refine onlyIn_step (frame_updPf _ _) rfl ?_
    exact onlyIn_refl _ _

theorem frame_eraseNew : ∀ s, onlyIn [.up] s (eraseNew s) := by
  intro s
  unfold eraseNew
  refine onlyIn_fold _ _ (fun st0 a1 => ?_) ?_
  · refine onlyIn_step (frame_updSlot _ _ _ _) rfl ?_
    exact onlyIn_refl _ _
  · exact onlyIn_refl _ _

theorem frame_fallBackWrite : ∀ a0 s, onlyIn [.mb, .pf, .ev, .fb, .up, .out] s (fallBackWrite a0 s) := by
  intro a0 s
  unfold fallBackWrite
  extract_lets +onlyGivenNames x0
  clear_value x0
  extract_lets +onlyGivenNames x1
  have h2 : onlyIn [.mb, .pf, .ev, .fb, .up, .out] s x1 := by
    dsimp only [x1]
    refine onlyIn_step (frame_commitTo _ _) rfl ?_
    exact onlyIn_refl _ _
  clear_value x1
  extract_lets +onlyGivenNames x3
  have h4 : onlyIn [.mb, .pf, .ev, .fb, .up, .out] s x3 := by
    dsimp only [x3]
    split
    · refine onlyIn_step (frame_tellFallBack _) rfl ?_
      refine onlyIn_step (frame_updUp _ _) rfl ?_
      exact h2
    · exact h2
  clear_value x3
  extract_lets +onlyGivenNames x5
  have h6 : onlyIn [.mb, .pf, .ev, .fb, .up, .out] s x5 := by
    dsimp only [x5]
    refine onlyIn_step (frame_happen _ _ _ _) rfl ?_
    refine onlyIn_step (frame_restoreOld _) rfl ?_
    refine onlyIn_step (frame_eraseNew _) rfl ?_
    exact h4
  clear_value x5
  refine onlyIn_step (frame_enterUp _ _ _) rfl ?_
  refine onlyIn_step (frame_updCamp _ _ _) rfl ?_
  refine onlyIn_step (frame_updUp _ _) rfl ?_
  exact h6

theorem frame_fallBack : ∀ a0 s, onlyIn [.clk, .mb, .pf, .ev, .gr, .qz, .cf, .vd, .ls, .gn, .fb, .cn, .mc, .up, .an, .rs, .pw, .sp, .out, .free] s (fallBack a0 s) := by
  intro a0 s
  unfold fallBack
  refine onlyIn_step (frame_softReset _ _ _) rfl ?_
  refine onlyIn_step (frame_fallBackWrite _ _) rfl ?_
  exact onlyIn_refl _ _

theorem frame_bodyUpdateAbortFallback : ∀ a0 s, onlyIn [.clk, .mb, .pf, .ev, .gr, .qz, .cf, .vd, .ls, .gn, .fb, .cn, .mc, .up, .an, .rs, .pw, .sp, .out, .free] s (bodyUpdateAbortFallback a0 s).1 := by
  intro a0 s
  unfold bodyUpdateAbortFallback
  unfold abortRequest
  try beta_reduce
  unfold withOp
  try beta_reduce
  refine onlyIn_ite1 ?_ ?_
  · refine onlyIn_ite1 ?_ ?_
    · refine onlyIn_ans ?_
      exact onlyIn_refl _ _
    · refine onlyIn_ite1 ?_ ?_
      · refine onlyIn_ans ?_
        refine onlyIn_step (frame_happen _ _ _ _) rfl ?_
        exact onlyIn_refl _ _
      · split
        · refine onlyIn_ans ?_
          exact onlyIn_refl _ _
        · refine onlyIn_ite1 ?_ ?_
          · refine onlyIn_ans ?_
            exact onlyIn_refl _ _
          · extract_lets +onlyGivenNames x0
            clear_value x0
            refine onlyIn_pair1 ?_
            refine onlyIn_step (frame_fallBack _ _) rfl ?_
            refine onlyIn_step (frame_answer _ _ _ _) rfl ?_
            exact onlyIn_refl _ _
  · refine onlyIn_ans ?_
    exact onlyIn_refl _ _

theorem frame_bodyUpdateAbortResolveAbort : ∀ a0 s, onlyIn [.mb, .pf, .ev, .up, .out] s (bodyUpdateAbortResolveAbort a0 s).1 := by
  intro a0 s
  unfold bodyUpdateAbortResolveAbort
  unfold abortRequest
  try beta_reduce
  unfold withOp
  try beta_reduce
  refine onlyIn_ite1 ?_ ?_
  · refine onlyIn_ite1 ?_ ?_
    · refine onlyIn_ans ?_
      exact onlyIn_refl _ _
    · refine onlyIn_ite1 ?_ ?_
      · refine onlyIn_ans ?_
        refine onlyIn_step (frame_happen _ _ _ _) rfl ?_
        exact onlyIn_refl _ _
      · refine onlyIn_ite1 ?_ ?_
        · refine onlyIn_ans ?_
          exact onlyIn_refl _ _
        · split
          · refine onlyIn_ans ?_
            exact onlyIn_refl _ _
          · refine onlyIn_ite1 ?_ ?_
            · refine onlyIn_ans ?_
              exact onlyIn_refl _ _
            · refine onlyIn_ans ?_
              refine onlyIn_step (frame_takeAbort _ _) rfl ?_
              exact onlyIn_refl _ _
  · refine onlyIn_ans ?_
    exact onlyIn_refl _ _

theorem frame_bodyUpdateAbortStaging : ∀ a0 s, onlyIn [.mb, .pf, .ev, .fb, .mc, .up, .out] s (bodyUpdateAbortStaging a0 s).1 := by
  intro a0 s
  unfold bodyUpdateAbortStaging
  unfold abortRequest
  try beta_reduce
  unfold withOp
  try beta_reduce
  refine onlyIn_ite1 ?_ ?_
  · refine onlyIn_ite1 ?_ ?_
    · refine onlyIn_ans ?_
      exact onlyIn_refl _ _
    · refine onlyIn_ite1 ?_ ?_
      · refine onlyIn_ans ?_
        refine onlyIn_step (frame_happen _ _ _ _) rfl ?_
        exact onlyIn_refl _ _
      · split
        · refine onlyIn_ans ?_
          exact onlyIn_refl _ _
        · refine onlyIn_ite1 ?_ ?_
          · refine onlyIn_ans ?_
            exact onlyIn_refl _ _
          · refine onlyIn_ite1 ?_ ?_
            · refine onlyIn_ans ?_
              exact onlyIn_refl _ _
            · extract_lets +onlyGivenNames x0
              have h1 : onlyIn [.mb, .pf, .ev, .fb, .mc, .up, .out] s x0.1 := by
                dsimp only [x0]
                refine onlyIn_step (frame_abortStaging _ _ _) rfl ?_
                exact onlyIn_refl _ _
              clear_value x0
              refine onlyIn_ans ?_
              exact h1
  · refine onlyIn_ans ?_
    exact onlyIn_refl _ _

theorem frame_castVote : ∀ a0 a1 a2 a3 s, onlyIn [.mb, .pf, .ev, .up, .out] s (castVote a0 a1 a2 a3 s).1 := by
  intro a0 a1 a2 a3 s
  unfold castVote
  split
  · refine onlyIn_pair1 ?_
    refine onlyIn_ite ?_ ?_
    · refine onlyIn_step (frame_happen _ _ _ _) rfl ?_
      exact onlyIn_refl _ _
    · exact onlyIn_refl _ _
  · split
    · refine onlyIn_pair1 ?_
      exact onlyIn_refl _ _
    · refine onlyIn_pair1 ?_
      refine onlyIn_step (frame_enterUp _ _ _) rfl ?_
      refine onlyIn_step (frame_updCamp _ _ _) rfl ?_
      refine onlyIn_step (frame_writeCommit _ _) rfl ?_
      exact onlyIn_refl _ _

theorem frame_sendDecision : ∀ a0 s, onlyIn [.fb, .up] s (sendDecision a0 s) := by
  intro a0 s
  unfold sendDecision
  split
  · exact onlyIn_refl _ _
  · split
    · exact onlyIn_refl _ _
    · refine onlyIn_fold _ _ (fun st0 a1 => ?_) ?_
      · refine onlyIn_step (frame_chainSend _ _ _ _) rfl ?_
        exact onlyIn_refl _ _
      · refine onlyIn_step (frame_updCamp _ _ _) rfl ?_
        exact onlyIn_refl _ _

theorem frame_decideAbort : ∀ a0 a1 a2 s, onlyIn [.mb, .pf, .ev, .fb, .up, .out] s (decideAbort a0 a1 a2 s) := by
  intro a0 a1 a2 s
  unfold decideAbort
  extract_lets +onlyGivenNames x0
  clear_value x0
  extract_lets +onlyGivenNames x1
  have h2 : onlyIn [.mb, .pf, .ev, .fb, .up, .out] s x1 := by
    dsimp only [x1]
    refine onlyIn_step (frame_happen _ _ _ _) rfl ?_
    refine onlyIn_step (frame_writeCommit _ _) rfl ?_
    exact onlyIn_refl _ _
  clear_value x1
  extract_lets +onlyGivenNames x3
  have h4 : onlyIn [.mb, .pf, .ev, .fb, .up, .out] s x3 := by
    dsimp only [x3]
    refine onlyIn_step (frame_updCamp _ _ _) rfl ?_
    exact h2
  clear_value x3
  extract_lets +onlyGivenNames x5
  have h6 : onlyIn [.mb, .pf, .ev, .fb, .up, .out] s x5 := by
    dsimp only [x5]
    refine onlyIn_ite ?_ ?_
    · refine onlyIn_step (frame_enterUp _ _ _) rfl ?_
      exact h4
    · exact h4
  clear_value x5
  refine onlyIn_step (frame_resolve _ _ _ _) rfl ?_
  refine onlyIn_step (frame_sendDecision _ _) rfl ?_
  exact h6

theorem frame_decideCommit : ∀ a0 s, onlyIn [.mb, .pf, .ev, .fb, .up, .out] s (decideCommit a0 s) := by
  intro a0 s
  unfold decideCommit
  extract_lets +onlyGivenNames x0
  have h1 : onlyIn [.mb, .pf, .ev, .fb, .up, .out] s x0 := by
    dsimp only [x0]
    refine onlyIn_step (frame_enterUp _ _ _) rfl ?_
    refine onlyIn_step (frame_updCamp _ _ _) rfl ?_
    refine onlyIn_step (frame_commitTo _ _) rfl ?_
    exact onlyIn_refl _ _
  clear_value x0
  refine onlyIn_step (frame_resolve _ _ _ _) rfl ?_
  refine onlyIn_step (frame_sendDecision _ _) rfl ?_
  exact h1

theorem frame_judgeVotes : ∀ a0 s, onlyIn [.mb, .pf, .ev, .fb, .up, .out] s (judgeVotes a0 s) := by
  intro a0 s
  unfold judgeVotes
  split
  · exact onlyIn_refl _ _
  · refine onlyIn_ite ?_ ?_
    · exact onlyIn_refl _ _
    · split
      · refine onlyIn_step (frame_decideAbort _ _ _ _) rfl ?_
        exact onlyIn_refl _ _
      · split
        · refine onlyIn_step (frame_decideAbort _ _ _ _) rfl ?_
          exact onlyIn_refl _ _
        · refine onlyIn_ite ?_ ?_
          · refine onlyIn_step (frame_decideCommit _ _) rfl ?_
            exact onlyIn_refl _ _
          · exact onlyIn_refl _ _

theorem frame_bodyUpdateActivate : ∀ a0 s, onlyIn [.mb, .pf, .ev, .fb, .up, .out] s (bodyUpdateActivate a0 s).1 := by
  intro a0 s
  unfold bodyUpdateActivate
  extract_lets +onlyGivenNames x0
  clear_value x0
  extract_lets +onlyGivenNames x1
  clear_value x1
  extract_lets +onlyGivenNames x2
  clear_value x2
  extract_lets +onlyGivenNames x3
  clear_value x3
  split
  · refine onlyIn_ans ?_
    exact onlyIn_refl _ _
  · refine onlyIn_ite1 ?_ ?_
    · refine onlyIn_ans ?_
      exact onlyIn_refl _ _
    · refine onlyIn_ite1 ?_ ?_
      · refine onlyIn_ans ?_
        exact onlyIn_refl _ _
      · refine onlyIn_ite1 ?_ ?_
        · refine onlyIn_ans ?_
          exact onlyIn_refl _ _
        · refine onlyIn_ite1 ?_ ?_
          · refine onlyIn_ans ?_
            exact onlyIn_refl _ _
          · extract_lets +onlyGivenNames x4
            have h5 : onlyIn [.mb, .pf, .ev, .fb, .up, .out] s x4 := by
              dsimp only [x4]
              refine onlyIn_step (frame_updCamp _ _ _) rfl ?_
              exact onlyIn_refl _ _
            clear_value x4
            extract_lets +onlyGivenNames x6
            have h7 : onlyIn [.mb, .pf, .ev, .fb, .up, .out] s x6 := by
              dsimp only [x6]
              refine onlyIn_ite ?_ ?_
              · exact h5
              · refine onlyIn_step (frame_chainAll _ _ _) rfl ?_
                exact h5
            clear_value x6
            extract_lets +onlyGivenNames x8
            have h9 : onlyIn [.mb, .pf, .ev, .fb, .up, .out] s x8.1 := by
              dsimp only [x8]
              refine onlyIn_step (frame_castVote _ _ _ _ _) rfl ?_
              exact h7
            clear_value x8
            extract_lets +onlyGivenNames x10
            have h11 : onlyIn [.mb, .pf, .ev, .fb, .up, .out] s x10 := by
              dsimp only [x10]
              refine onlyIn_step (frame_updCamp _ _ _) rfl ?_
              exact h9
            clear_value x10
            extract_lets +onlyGivenNames x12
            have h13 : onlyIn [.mb, .pf, .ev, .fb, .up, .out] s x12 := by
              dsimp only [x12]
              refine onlyIn_step (frame_judgeVotes _ _) rfl ?_
              exact h11
            clear_value x12
            split
            · refine onlyIn_ans ?_
              exact h13
            · refine onlyIn_ans ?_
              exact h13
            · refine onlyIn_pair1 ?_
              exact h13

theorem frame_bodyUpdateBegin : ∀ a0 s, onlyIn [.mb, .pf, .ev, .qz, .fb, .mc, .up, .out] s (bodyUpdateBegin a0 s).1 := by
  intro a0 s
  unfold bodyUpdateBegin
  extract_lets +onlyGivenNames x0
  clear_value x0
  extract_lets +onlyGivenNames x1
  clear_value x1
  refine onlyIn_ite1 ?_ ?_
  · refine onlyIn_ans ?_
    exact onlyIn_refl _ _
  · split
    · refine onlyIn_ans ?_
      refine onlyIn_step (frame_happen _ _ _ _) rfl ?_
      exact onlyIn_refl _ _
    · extract_lets +onlyGivenNames x2
      have h3 : onlyIn [.mb, .pf, .ev, .qz, .fb, .mc, .up, .out] s x2.1 := by
        dsimp only [x2]
        refine onlyIn_step (frame_checkManifest _ _) rfl ?_
        exact onlyIn_refl _ _
      clear_value x2
      split
      · refine onlyIn_ans ?_
        exact h3
      · extract_lets +onlyGivenNames x4
        clear_value x4
        extract_lets +onlyGivenNames x5
        clear_value x5
        refine onlyIn_ite1 ?_ ?_
        · refine onlyIn_ans ?_
          exact h3
        · refine onlyIn_ite1 ?_ ?_
          · refine onlyIn_ans ?_
            exact h3
          · extract_lets +onlyGivenNames x6
            have h7 : onlyIn [.mb, .pf, .ev, .qz, .fb, .mc, .up, .out] s x6 := by
              dsimp only [x6]
              refine onlyIn_fold _ _ (fun st8 a9 => ?_) ?_
              · refine onlyIn_step (frame_abortStaging _ _ _) rfl ?_
                exact onlyIn_refl _ _
              · exact h3
            clear_value x6
            extract_lets +onlyGivenNames x10
            have h11 : onlyIn [.mb, .pf, .ev, .qz, .fb, .mc, .up, .out] s x10 := by
              dsimp only [x10]
              refine onlyIn_step (frame_takeManifest _ _ _ _ _ _) rfl ?_
              exact h7
            clear_value x10
            split
            · refine onlyIn_ans ?_
              exact h11
            · refine onlyIn_ans ?_
              exact h11

theorem frame_confirmSelf : ∀ s, onlyIn [.mb, .pf, .ev, .up, .out] s (confirmSelf s) := by
  intro s
  unfold confirmSelf
  extract_lets +onlyGivenNames x0
  clear_value x0
  extract_lets +onlyGivenNames x1
  have h2 : onlyIn [.mb, .pf, .ev, .up, .out] s x1 := by
    dsimp only [x1]
    refine onlyIn_step (frame_updUp _ _) rfl ?_
    exact onlyIn_refl _ _
  clear_value x1
  extract_lets +onlyGivenNames x3
  have h4 : onlyIn [.mb, .pf, .ev, .up, .out] s x3 := by
    dsimp only [x3]
    refine onlyIn_step (frame_rawEvent _ _ _ _) rfl ?_
    refine onlyIn_step (frame_commitTo _ _) rfl ?_
    exact h2
  clear_value x3
  refine onlyIn_step (frame_enterUp _ _ _) rfl ?_
  refine onlyIn_step (frame_updMod _ _ _ _) rfl ?_
  refine onlyIn_step (frame_updCamp _ _ _) rfl ?_
  exact h4

theorem frame_bodyUpdateConfirm : ∀ a0 s, onlyIn [.mb, .pf, .ev, .fb, .up, .out] s (bodyUpdateConfirm a0 s).1 := by
  intro a0 s
  unfold bodyUpdateConfirm
  extract_lets +onlyGivenNames x0
  clear_value x0
  refine onlyIn_ite1 ?_ ?_
  · refine onlyIn_ans ?_
    exact onlyIn_refl _ _
  · refine onlyIn_ite1 ?_ ?_
    · refine onlyIn_ans ?_
      refine onlyIn_step (frame_happen _ _ _ _) rfl ?_
      exact onlyIn_refl _ _
    · split
      · refine onlyIn_ans ?_
        exact onlyIn_refl _ _
      · refine onlyIn_ite1 ?_ ?_
        · refine onlyIn_ans ?_
          exact onlyIn_refl _ _
        · extract_lets +onlyGivenNames x1
          have h2 : onlyIn [.mb, .pf, .ev, .fb, .up, .out] s x1 := by
            dsimp only [x1]
            refine onlyIn_ite ?_ ?_
            · refine onlyIn_step (frame_confirmSelf _) rfl ?_
              exact onlyIn_refl _ _
            · exact onlyIn_refl _ _
          clear_value x1
          extract_lets +onlyGivenNames x3
          have h4 : onlyIn [.mb, .pf, .ev, .fb, .up, .out] s x3 := by
            dsimp only [x3]
            refine onlyIn_step (frame_chainAll _ _ _) rfl ?_
            exact h2
          clear_value x3
          split
          · refine onlyIn_ite1 ?_ ?_
            · refine onlyIn_ans ?_
              exact h4
            · refine onlyIn_pair1 ?_
              refine onlyIn_step (frame_updUp _ _) rfl ?_
              exact h4
          · refine onlyIn_ans ?_
            exact h4

theorem frame_dataReply : ∀ a0 a1 s, onlyIn [] s (dataReply a0 a1 s).1 := by
  intro a0 a1 s
  unfold dataReply
  split
  · refine onlyIn_ans ?_
    exact onlyIn_refl _ _
  · refine onlyIn_ans ?_
    exact onlyIn_refl _ _

theorem frame_takeWhole : ∀ a0 a1 a2 a3 s, onlyIn [.mb, .pf, .ev, .fb, .mc, .up, .out] s (takeWhole a0 a1 a2 a3 s) := by
  intro a0 a1 a2 a3
  induction a3 with
  | zero => exact fun s => onlyIn_refl _ _
  | succ n ih =>
    intro s
    unfold takeWhole
    split
    · exact onlyIn_refl _ _
    · refine onlyIn_ite (onlyIn_refl _ _) ?_
      extract_lets r
      have hr : onlyIn [.mb, .pf, .ev, .fb, .mc, .up, .out] s r.1 := onlyIn_step (frame_takeChunk _ _ _ _ _ _) rfl (onlyIn_refl _ _)
      clear_value r
      refine onlyIn_ite ?_ ?_
      · exact onlyIn_step (ih _) rfl (onlyIn_step (frame_updPart _ _ _ _) rfl hr)
      · exact onlyIn_step (frame_updPart _ _ _ _) rfl hr

theorem frame_bodyUpdateData : ∀ a0 s, onlyIn [.mb, .pf, .ev, .fb, .mc, .up, .out] s (bodyUpdateData a0 s).1 := by
  intro a0 s
  unfold bodyUpdateData
  extract_lets +onlyGivenNames x0
  clear_value x0
  extract_lets +onlyGivenNames x1
  clear_value x1
  extract_lets +onlyGivenNames x2
  clear_value x2
  extract_lets +onlyGivenNames x3
  clear_value x3
  extract_lets +onlyGivenNames x4
  clear_value x4
  split
  · refine onlyIn_ans ?_
    exact onlyIn_refl _ _
  · split
    · refine onlyIn_ite1 ?_ ?_
      · refine onlyIn_ans ?_
        exact onlyIn_refl _ _
      · refine onlyIn_ite1 ?_ ?_
        · refine onlyIn_ans ?_
          exact onlyIn_refl _ _
        · refine onlyIn_ite1 ?_ ?_
          · refine onlyIn_step (frame_dataReply _ _ _) rfl ?_
            exact onlyIn_refl _ _
          · refine onlyIn_ite1 ?_ ?_
            · refine onlyIn_ans ?_
              exact onlyIn_refl _ _
            · refine onlyIn_ite1 ?_ ?_
              · refine onlyIn_ans ?_
                exact onlyIn_refl _ _
              · refine onlyIn_step (frame_dataReply _ _ _) rfl ?_
                refine onlyIn_step (frame_takeWhole _ _ _ _ _) rfl ?_
                refine onlyIn_step (frame_updPart _ _ _ _) rfl ?_
                exact onlyIn_refl _ _
    · refine onlyIn_ans ?_
      exact onlyIn_refl _ _

theorem frame_bodyUpdateStatus : ∀ a0 s, onlyIn [] s (bodyUpdateStatus a0 s).1 := by
  intro a0 s
  unfold bodyUpdateStatus
  extract_lets +onlyGivenNames x0
  clear_value x0
  extract_lets +onlyGivenNames x1
  clear_value x1
  refine onlyIn_ite1 ?_ ?_
  · refine onlyIn_ans ?_
    exact onlyIn_refl _ _
  · refine onlyIn_ans ?_
    exact onlyIn_refl _ _

theorem frame_prepareMsg : ∀ a0 a1 s, onlyIn [.mb, .pf, .ev, .fb, .up, .out] s (prepareMsg a0 a1 s) := by
  intro a0 a1 s
  unfold prepareMsg
  extract_lets +onlyGivenNames x0
  clear_value x0
  extract_lets +onlyGivenNames x1
  clear_value x1
  refine onlyIn_ite ?_ ?_
  · exact onlyIn_refl _ _
  · extract_lets +onlyGivenNames x2
    clear_value x2
    extract_lets +onlyGivenNames x3
    clear_value x3
    extract_lets +onlyGivenNames x4
    have h5 : onlyIn [.mb, .pf, .ev, .fb, .up, .out] s x4.1 := by
      dsimp only [x4]
      refine onlyIn_ite1 ?_ ?_
      · refine onlyIn_pair1 ?_
        exact onlyIn_refl _ _
      · refine onlyIn_step (frame_castVote _ _ _ _ _) rfl ?_
        refine onlyIn_step (frame_updCamp _ _ _) rfl ?_
        exact onlyIn_refl _ _
    clear_value x4
    refine onlyIn_step (frame_chainSend _ _ _ _) rfl ?_
    exact h5

theorem frame_voteMsg : ∀ a0 a1 s, onlyIn [.mb, .pf, .ev, .fb, .up, .out] s (voteMsg a0 a1 s) := by
  intro a0 a1 s
  unfold voteMsg
  extract_lets +onlyGivenNames x0
  clear_value x0
  extract_lets +onlyGivenNames x1
  clear_value x1
  split
  · exact onlyIn_refl _ _
  · refine onlyIn_ite ?_ ?_
    · refine onlyIn_step (frame_judgeVotes _ _) rfl ?_
      refine onlyIn_step (frame_modState _ _ _ _ _) rfl ?_
      exact onlyIn_refl _ _
    · exact onlyIn_refl _ _

theorem frame_decisionMsg : ∀ a0 a1 s, onlyIn [.clk, .mb, .pf, .ev, .gr, .qz, .cf, .vd, .ls, .gn, .fb, .cn, .mc, .up, .an, .rs, .pw, .sp, .out, .free] s (decisionMsg a0 a1 s) := by
  intro a0 a1 s
  unfold decisionMsg
  extract_lets +onlyGivenNames x0
  clear_value x0
  extract_lets +onlyGivenNames x1
  clear_value x1
  extract_lets +onlyGivenNames x2
  clear_value x2
  split
  · exact onlyIn_refl _ _
  · refine onlyIn_ite ?_ ?_
    · exact onlyIn_refl _ _
    · refine onlyIn_ite ?_ ?_
      · refine onlyIn_step (frame_dropStaging _ _ _) rfl ?_
        exact onlyIn_refl _ _
      · extract_lets +onlyGivenNames x3
        clear_value x3
        extract_lets +onlyGivenNames x4
        have h5 : onlyIn [.clk, .mb, .pf, .ev, .gr, .qz, .cf, .vd, .ls, .gn, .fb, .cn, .mc, .up, .an, .rs, .pw, .sp, .out, .free] s x4 := by
          dsimp only [x4]
          refine onlyIn_ite ?_ ?_
          · refine onlyIn_ite ?_ ?_
            · refine onlyIn_step (frame_takeAbort _ _) rfl ?_
              exact onlyIn_refl _ _
            · refine onlyIn_step (frame_enterUp _ _ _) rfl ?_
              refine onlyIn_step (frame_commitTo _ _) rfl ?_
              exact onlyIn_refl _ _
          · exact onlyIn_refl _ _
        clear_value x4
        extract_lets +onlyGivenNames x6
        have h7 : onlyIn [.clk, .mb, .pf, .ev, .gr, .qz, .cf, .vd, .ls, .gn, .fb, .cn, .mc, .up, .an, .rs, .pw, .sp, .out, .free] s x6 := by
          dsimp only [x6]
          refine onlyIn_step (frame_chainSend _ _ _ _) rfl ?_
          exact h5
        clear_value x6
        refine onlyIn_ite ?_ ?_
        · refine onlyIn_step (frame_swapNow _) rfl ?_
          exact h7
        · exact h7

theorem frame_resolveMsg : ∀ a0 a1 s, onlyIn [.fb] s (resolveMsg a0 a1 s) := by
  intro a0 a1 s
  unfold resolveMsg
  extract_lets +onlyGivenNames x0
  clear_value x0
  refine onlyIn_ite ?_ ?_
  · exact onlyIn_refl _ _
  · refine onlyIn_step (frame_chainSend _ _ _ _) rfl ?_
    exact onlyIn_refl _ _

theorem frame_confirmMsg : ∀ a0 a1 s, onlyIn [.clk, .mb, .pf, .ev, .gr, .qz, .cf, .vd, .ls, .gn, .fb, .cn, .mc, .up, .an, .rs, .pw, .sp, .out, .free] s (confirmMsg a0 a1 s) := by
  intro a0 a1 s
  unfold confirmMsg
  extract_lets +onlyGivenNames x0
  clear_value x0
  extract_lets +onlyGivenNames x1
  clear_value x1
  extract_lets +onlyGivenNames x2
  clear_value x2
  refine onlyIn_ite ?_ ?_
  · exact onlyIn_refl _ _
  · refine onlyIn_ite ?_ ?_
    · extract_lets +onlyGivenNames x3
      have h4 : onlyIn [.clk, .mb, .pf, .ev, .gr, .qz, .cf, .vd, .ls, .gn, .fb, .cn, .mc, .up, .an, .rs, .pw, .sp, .out, .free] s x3 := by
        dsimp only [x3]
        refine onlyIn_ite ?_ ?_
        · refine onlyIn_step (frame_confirmSelf _) rfl ?_
          exact onlyIn_refl _ _
        · exact onlyIn_refl _ _
      clear_value x3
      refine onlyIn_step (frame_chainSend _ _ _ _) rfl ?_
      exact h4
    · refine onlyIn_ite ?_ ?_
      · refine onlyIn_step (frame_fallBack _ _) rfl ?_
        exact onlyIn_refl _ _
      · exact onlyIn_refl _ _

theorem frame_chainMessage : ∀ a0 a1 s, onlyIn [.clk, .mb, .pf, .ev, .gr, .qz, .cf, .vd, .ls, .gn, .fb, .cn, .mc, .up, .an, .rs, .pw, .sp, .out, .free] s (chainMessage a0 a1 s) := by
  intro a0 a1 s
  unfold chainMessage
  split
  · refine onlyIn_step (frame_manifestMsg _ _ _) rfl ?_
    exact onlyIn_refl _ _
  · refine onlyIn_step (frame_chunkMsg _ _ _) rfl ?_
    exact onlyIn_refl _ _
  · refine onlyIn_step (frame_ackMsg _ _ _) rfl ?_
    exact onlyIn_refl _ _
  · refine onlyIn_step (frame_nackMsg _ _ _) rfl ?_
    exact onlyIn_refl _ _
  · refine onlyIn_step (frame_stagedMsg _ _ _) rfl ?_
    exact onlyIn_refl _ _
  · refine onlyIn_step (frame_prepareMsg _ _ _) rfl ?_
    exact onlyIn_refl _ _
  · refine onlyIn_step (frame_voteMsg _ _ _) rfl ?_
    exact onlyIn_refl _ _
  · refine onlyIn_step (frame_decisionMsg _ _ _) rfl ?_
    exact onlyIn_refl _ _
  · refine onlyIn_step (frame_ackDecisionMsg _ _ _) rfl ?_
    exact onlyIn_refl _ _
  · refine onlyIn_step (frame_resolveMsg _ _ _) rfl ?_
    exact onlyIn_refl _ _
  · refine onlyIn_step (frame_confirmMsg _ _ _) rfl ?_
    exact onlyIn_refl _ _
  · refine onlyIn_step (frame_motionMsg _ _ _) rfl ?_
    exact onlyIn_refl _ _
  · exact onlyIn_refl _ _

theorem frame_execMotion : ∀ a0 a1 s t, execMotion a0 a1 s = .next t → onlyIn [.up] s t := by
  intro a0 a1 s t h
  unfold execMotion at h
  cases h
  unfold chainRow
  try beta_reduce
  refine onlyIn_ite ?_ ?_
  · refine onlyIn_step (frame_motionMsg _ _ _) rfl ?_
    exact onlyIn_refl _ _
  · exact onlyIn_refl _ _

theorem frame_execManifest : ∀ a0 a1 s t, execManifest a0 a1 s = .next t → onlyIn [.mb, .pf, .ev, .qz, .fb, .mc, .up, .out, .free] s t := by
  intro a0 a1 s t h
  unfold execManifest at h
  cases h
  unfold chainRow
  try beta_reduce
  refine onlyIn_ite ?_ ?_
  · refine onlyIn_step (frame_manifestMsg _ _ _) rfl ?_
    exact onlyIn_refl _ _
  · exact onlyIn_refl _ _

theorem frame_execChunk : ∀ a0 a1 s t, execChunk a0 a1 s = .next t → onlyIn [.mb, .pf, .ev, .fb, .mc, .up, .out] s t := by
  intro a0 a1 s t h
  unfold execChunk at h
  cases h
  unfold chainRow
  try beta_reduce
  refine onlyIn_ite ?_ ?_
  · refine onlyIn_step (frame_chunkMsg _ _ _) rfl ?_
    exact onlyIn_refl _ _
  · exact onlyIn_refl _ _

theorem frame_execAck : ∀ a0 a1 s t, execAck a0 a1 s = .next t → onlyIn [.mc, .up] s t := by
  intro a0 a1 s t h
  unfold execAck at h
  cases h
  unfold chainRow
  try beta_reduce
  refine onlyIn_ite ?_ ?_
  · refine onlyIn_step (frame_ackMsg _ _ _) rfl ?_
    exact onlyIn_refl _ _
  · exact onlyIn_refl _ _

theorem frame_execNack : ∀ a0 a1 s t, execNack a0 a1 s = .next t → onlyIn [.fb, .up] s t := by
  intro a0 a1 s t h
  unfold execNack at h
  cases h
  unfold chainRow
  try beta_reduce
  refine onlyIn_ite ?_ ?_
  · refine onlyIn_step (frame_nackMsg _ _ _) rfl ?_
    exact onlyIn_refl _ _
  · exact onlyIn_refl _ _

theorem frame_execStaged : ∀ a0 a1 s t, execStaged a0 a1 s = .next t → onlyIn [.mb, .pf, .ev, .fb, .mc, .up, .out] s t := by
  intro a0 a1 s t h
  unfold execStaged at h
  cases h
  unfold chainRow
  try beta_reduce
  refine onlyIn_ite ?_ ?_
  · refine onlyIn_step (frame_stagedMsg _ _ _) rfl ?_
    exact onlyIn_refl _ _
  · exact onlyIn_refl _ _

theorem frame_execPrepare : ∀ a0 a1 s t, execPrepare a0 a1 s = .next t → onlyIn [.mb, .pf, .ev, .fb, .up, .out] s t := by
  intro a0 a1 s t h
  unfold execPrepare at h
  cases h
  unfold chainRow
  try beta_reduce
  refine onlyIn_ite ?_ ?_
  · refine onlyIn_step (frame_prepareMsg _ _ _) rfl ?_
    exact onlyIn_refl _ _
  · exact onlyIn_refl _ _

theorem frame_execVote : ∀ a0 a1 s t, execVote a0 a1 s = .next t → onlyIn [.mb, .pf, .ev, .fb, .up, .out] s t := by
  intro a0 a1 s t h
  unfold execVote at h
  cases h
  unfold chainRow
  try beta_reduce
  refine onlyIn_ite ?_ ?_
  · refine onlyIn_step (frame_voteMsg _ _ _) rfl ?_
    exact onlyIn_refl _ _
  · exact onlyIn_refl _ _

theorem frame_execVoteDeadline : ∀ s t, execVoteDeadline s = .next t → onlyIn [.mb, .pf, .ev, .fb, .up, .out] s t := by
  intro s t h
  unfold execVoteDeadline at h
  cases h
  split
  · refine onlyIn_ite ?_ ?_
    · refine onlyIn_step (frame_decideAbort _ _ _ _) rfl ?_
      exact onlyIn_refl _ _
    · exact onlyIn_refl _ _
  · exact onlyIn_refl _ _

theorem frame_execCommitAbort : ∀ a0 a1 s t, execCommitAbort a0 a1 s = .next t → onlyIn [.clk, .mb, .pf, .ev, .gr, .qz, .cf, .vd, .ls, .gn, .fb, .cn, .mc, .up, .an, .rs, .pw, .sp, .out, .free] s t := by
  intro a0 a1 s t h
  unfold execCommitAbort at h
  cases h
  unfold chainRow
  try beta_reduce
  refine onlyIn_ite ?_ ?_
  · refine onlyIn_step (frame_decisionMsg _ _ _) rfl ?_
    exact onlyIn_refl _ _
  · exact onlyIn_refl _ _

theorem frame_execDecisionAck : ∀ a0 a1 s t, execDecisionAck a0 a1 s = .next t → onlyIn [.clk, .mb, .pf, .ev, .gr, .qz, .cf, .vd, .ls, .gn, .fb, .cn, .mc, .up, .an, .rs, .pw, .sp, .out, .free] s t := by
  intro a0 a1 s t h
  unfold execDecisionAck at h
  cases h
  unfold chainRow
  try beta_reduce
  refine onlyIn_ite ?_ ?_
  · refine onlyIn_step (frame_ackDecisionMsg _ _ _) rfl ?_
    exact onlyIn_refl _ _
  · exact onlyIn_refl _ _

theorem frame_execDecisionResend : ∀ s t, execDecisionResend s = .next t → onlyIn [.fb, .up] s t := by
  intro s t h
  unfold execDecisionResend at h
  cases h
  refine onlyIn_ite ?_ ?_
  · refine onlyIn_fold _ _ (fun st0 a1 => ?_) ?_
    · refine onlyIn_step (frame_sendDecision _ _) rfl ?_
      exact onlyIn_refl _ _
    · exact onlyIn_refl _ _
  · exact onlyIn_refl _ _

theorem frame_execResolve : ∀ a0 a1 s t, execResolve a0 a1 s = .next t → onlyIn [.fb] s t := by
  intro a0 a1 s t h
  unfold execResolve at h
  cases h
  unfold chainRow
  try beta_reduce
  refine onlyIn_ite ?_ ?_
  · refine onlyIn_step (frame_resolveMsg _ _ _) rfl ?_
    exact onlyIn_refl _ _
  · exact onlyIn_refl _ _

theorem frame_execResolveResend : ∀ s t, execResolveResend s = .next t → onlyIn [.fb, .up] s t := by
  intro s t h
  unfold execResolveResend at h
  cases h
  split
  · exact onlyIn_refl _ _
  · refine onlyIn_ite ?_ (onlyIn_refl _ _)
    refine onlyIn_ite ?_ ?_
    · exact onlyIn_step (frame_chainAll _ _ _) rfl (onlyIn_step (frame_updCamp _ _ _) rfl (onlyIn_refl _ _))
    · exact onlyIn_step (frame_chainSend _ _ _ _) rfl (onlyIn_step (frame_updCamp _ _ _) rfl (onlyIn_refl _ _))

theorem frame_execConfirmFallback : ∀ a0 a1 s t, execConfirmFallback a0 a1 s = .next t → onlyIn [.clk, .mb, .pf, .ev, .gr, .qz, .cf, .vd, .ls, .gn, .fb, .cn, .mc, .up, .an, .rs, .pw, .sp, .out, .free] s t := by
  intro a0 a1 s t h
  unfold execConfirmFallback at h
  cases h
  unfold chainRow
  try beta_reduce
  refine onlyIn_ite ?_ ?_
  · refine onlyIn_step (frame_confirmMsg _ _ _) rfl ?_
    exact onlyIn_refl _ _
  · exact onlyIn_refl _ _

theorem frame_execCommitFrameSwap : ∀ s t, execCommitFrameSwap s = .next t → onlyIn [.clk, .mb, .pf, .ev, .gr, .qz, .cf, .vd, .ls, .gn, .fb, .cn, .mc, .up, .an, .rs, .pw, .sp, .out, .free] s t := by
  intro s t h
  unfold execCommitFrameSwap at h
  cases h
  extract_lets +onlyGivenNames x0
  clear_value x0
  refine onlyIn_ite ?_ ?_
  · refine onlyIn_step (frame_swapNow _) rfl ?_
    exact onlyIn_refl _ _
  · exact onlyIn_refl _ _

end Sys2Proof.Machine
end

