-- ==== Sys2Proof/Laws/FrameBoot.lean ====
section
/-!
SUPPORT. Laws/FrameBoot.lean: the parts of the state that the definitions of Machine/Boot.lean may change.
-/

namespace Sys2Proof.Machine

open Sys2Proof.Safety

theorem frame_commitLifecycle : ∀ a0 s, onlyIn [.rs] s (commitLifecycle a0 s) := by
  intro a0 s
  unfold commitLifecycle
  refine onlyIn_step (frame_updRs _ _) rfl ?_
  exact onlyIn_refl _ _

theorem frame_wipeCapture : ∀ s, onlyIn [.gr] s (wipeCapture s) := by
  intro s
  unfold wipeCapture
  refine onlyIn_step (frame_updGr _ _) rfl ?_
  exact onlyIn_refl _ _

theorem frame_wipeMap : ∀ s, onlyIn [.cf] s (wipeMap s) := by
  intro s
  unfold wipeMap
  refine onlyIn_step (onlyIn_put_cf _ _) rfl ?_
  exact onlyIn_refl _ _

theorem frame_wipeEvents : ∀ s, onlyIn [.ev] s (wipeEvents s) := by
  intro s
  unfold wipeEvents
  refine onlyIn_step (onlyIn_put_ev _ _) rfl ?_
  exact onlyIn_refl _ _

theorem frame_wipeImages : ∀ s, onlyIn [.up] s (wipeImages s) := by
  intro s
  unfold wipeImages
  refine onlyIn_fold _ _ (fun st0 a1 => ?_) ?_
  · refine onlyIn_step (frame_updSlot _ _ _ _) rfl ?_
    exact onlyIn_refl _ _
  · exact onlyIn_refl _ _

theorem frame_wipes : ∀ a0 a1 s, onlyIn [.pf, .ev, .gr, .qz, .cf, .fb, .mc, .up, .rs] s (wipes a0 a1 s) := by
  intro a0 a1 s
  unfold wipes
  refine onlyIn_ite ?_ ?_
  · refine onlyIn_step (frame_wipeCapture _) rfl ?_
    refine onlyIn_step (frame_wipeMap _) rfl ?_
    refine onlyIn_step (frame_wipeEvents _) rfl ?_
    refine onlyIn_step (frame_updMc _ _) rfl ?_
    exact onlyIn_refl _ _
  · refine onlyIn_ite ?_ ?_
    · extract_lets +onlyGivenNames x0
      have h1 : onlyIn [.pf, .ev, .gr, .qz, .cf, .fb, .mc, .up, .rs] s x0 := by
        dsimp only [x0]
        refine onlyIn_step (frame_endInjections _ _) rfl ?_
        refine onlyIn_step (frame_wipeCapture _) rfl ?_
        exact onlyIn_refl _ _
      clear_value x0
      refine onlyIn_step (frame_ringEnter _ _) rfl ?_
      refine onlyIn_step (frame_ringZero _) rfl ?_
      refine onlyIn_step (frame_updCap _ _) rfl ?_
      refine onlyIn_step (frame_endReplay _ _) rfl ?_
      exact h1
    · refine onlyIn_ite ?_ ?_
      · refine onlyIn_step (frame_wipeImages _) rfl ?_
        refine onlyIn_step (frame_wipeCapture _) rfl ?_
        refine onlyIn_step (frame_wipeMap _) rfl ?_
        refine onlyIn_step (frame_updRs _ _) rfl ?_
        refine onlyIn_step (frame_updPf _ _) rfl ?_
        refine onlyIn_step (frame_updFb _ _) rfl ?_
        exact onlyIn_refl _ _
      · exact onlyIn_refl _ _

theorem frame_finishTransition : ∀ a0 s, onlyIn [.clk, .mb, .pf, .ev, .gr, .qz, .cf, .vd, .ls, .gn, .fb, .cn, .mc, .up, .an, .rs, .pw, .sp, .out, .free] s (finishTransition a0 s) := by
  intro a0 s
  unfold finishTransition
  extract_lets +onlyGivenNames x0
  have h1 : onlyIn [.clk, .mb, .pf, .ev, .gr, .qz, .cf, .vd, .ls, .gn, .fb, .cn, .mc, .up, .an, .rs, .pw, .sp, .out, .free] s x0 := by
    dsimp only [x0]
    refine onlyIn_step (frame_commitLifecycle _ _) rfl ?_
    refine onlyIn_step (frame_wipes _ _ _) rfl ?_
    exact onlyIn_refl _ _
  clear_value x0
  refine onlyIn_step (frame_assertSource _ _ _ _) rfl ?_
  refine onlyIn_step (frame_rawEvent _ _ _ _) rfl ?_
  exact h1

theorem frame_bootRecord : ∀ s, onlyIn [.clk, .mb, .pf, .ev, .gr, .qz, .cf, .vd, .ls, .gn, .fb, .cn, .mc, .up, .an, .rs, .pw, .sp, .out, .free] s (bootRecord s).1 := by
  intro s
  unfold bootRecord
  extract_lets +onlyGivenNames x0
  clear_value x0
  split
  · refine onlyIn_ite1 ?_ ?_
    · refine onlyIn_pair1 ?_
      refine onlyIn_step (frame_sendDecision _ _) rfl ?_
      refine onlyIn_step (frame_updCamp _ _ _) rfl ?_
      refine onlyIn_step (frame_takeAbort _ _) rfl ?_
      exact onlyIn_refl _ _
    · refine onlyIn_pair1 ?_
      exact onlyIn_refl _ _
  · refine onlyIn_ite1 ?_ ?_
    · refine onlyIn_pair1 ?_
      refine onlyIn_step (frame_swapNow _) rfl ?_
      exact onlyIn_refl _ _
    · refine onlyIn_pair1 ?_
      exact onlyIn_refl _ _
  · refine onlyIn_ite1 ?_ ?_
    · refine onlyIn_pair1 ?_
      refine onlyIn_step (frame_swapNow _) rfl ?_
      exact onlyIn_refl _ _
    · refine onlyIn_pair1 ?_
      exact onlyIn_refl _ _
  · refine onlyIn_pair1 ?_
    exact onlyIn_refl _ _

theorem frame_enterRecovery : ∀ a0 s, onlyIn [.mb, .pf, .ev, .rs, .out] s (enterRecovery a0 s) := by
  intro a0 s
  unfold enterRecovery
  extract_lets +onlyGivenNames x0
  have h1 : onlyIn [.mb, .pf, .ev, .rs, .out] s x0 := by
    dsimp only [x0]
    refine onlyIn_step (frame_happen _ _ _ _) rfl ?_
    refine onlyIn_step (frame_updRs _ _) rfl ?_
    exact onlyIn_refl _ _
  clear_value x0
  refine onlyIn_step (frame_updPf _ _) rfl ?_
  refine onlyIn_step (onlyIn_put_mb _ _) rfl ?_
  exact h1

theorem frame_recordCauses : ∀ s, onlyIn [.mb, .pf, .ev, .rs, .out] s (recordCauses s) := by
  intro s
  unfold recordCauses
  refine onlyIn_step (frame_updRs _ _) rfl ?_
  refine onlyIn_fold _ _ (fun st0 a1 => ?_) ?_
  · refine onlyIn_step (frame_rawEvent _ _ _ _) rfl ?_
    exact onlyIn_refl _ _
  · exact onlyIn_refl _ _

theorem frame_romStart : ∀ s, onlyIn [.clk, .mb, .pf, .ev, .gr, .qz, .cf, .vd, .ls, .gn, .fb, .cn, .mc, .up, .an, .rs, .pw, .sp, .out, .free] s (romStart s) := by
  intro s
  unfold romStart
  refine onlyIn_ite ?_ ?_
  · refine onlyIn_step (frame_updRs _ _) rfl ?_
    exact onlyIn_refl _ _
  · refine onlyIn_ite ?_ ?_
    · refine onlyIn_step (frame_fallBack _ _) rfl ?_
      exact onlyIn_refl _ _
    · refine onlyIn_ite ?_ ?_
      · refine onlyIn_step (frame_enterRecovery _ _) rfl ?_
        refine onlyIn_step (frame_recordCauses _) rfl ?_
        exact onlyIn_refl _ _
      · refine onlyIn_ite ?_ ?_
        · refine onlyIn_step (frame_enterRecovery _ _) rfl ?_
          refine onlyIn_step (frame_recordCauses _) rfl ?_
          exact onlyIn_refl _ _
        · refine onlyIn_step (frame_updRs _ _) rfl ?_
          exact onlyIn_refl _ _

theorem frame_execD4Release : ∀ a0 s t, execD4Release a0 s = .next t → onlyIn [.clk, .mb, .pf, .ev, .gr, .qz, .cf, .vd, .ls, .gn, .fb, .cn, .mc, .up, .an, .rs, .pw, .sp, .out, .free] s t := by
  intro a0 s t h
  unfold execD4Release at h
  cases h
  refine onlyIn_ite ?_ ?_
  · extract_lets +onlyGivenNames x0
    have h1 : onlyIn [.clk, .mb, .pf, .ev, .gr, .qz, .cf, .vd, .ls, .gn, .fb, .cn, .mc, .up, .an, .rs, .pw, .sp, .out, .free] s x0 := by
      dsimp only [x0]
      refine onlyIn_fold _ _ (fun st2 a3 => ?_) ?_
      · refine onlyIn_step (frame_setDom _ _ _) rfl ?_
        exact onlyIn_refl _ _
      · exact onlyIn_refl _ _
    clear_value x0
    extract_lets +onlyGivenNames x4
    have h5 : onlyIn [.clk, .mb, .pf, .ev, .gr, .qz, .cf, .vd, .ls, .gn, .fb, .cn, .mc, .up, .an, .rs, .pw, .sp, .out, .free] s x4 := by
      dsimp only [x4]
      refine onlyIn_step (frame_endEpisode _) rfl ?_
      refine onlyIn_ite ?_ ?_
      · refine onlyIn_step (frame_updPf _ _) rfl ?_
        exact h1
      · exact h1
    clear_value x4
    refine onlyIn_step (frame_romStart _) rfl ?_
    refine onlyIn_step (frame_updRs _ _) rfl ?_
    refine onlyIn_step (onlyIn_put_mb _ _) rfl ?_
    exact h5
  · exact onlyIn_refl _ _

theorem frame_execSupervisorImageLoaded : ∀ a0 s t, execSupervisorImageLoaded a0 s = .next t → onlyIn [.mb, .pf, .ev, .mc, .up, .rs, .pw, .sp, .out] s t := by
  intro a0 s t h
  unfold execSupervisorImageLoaded at h
  cases h
  refine onlyIn_ite ?_ ?_
  · refine onlyIn_ite ?_ ?_
    · extract_lets +onlyGivenNames x0
      clear_value x0
      extract_lets +onlyGivenNames x1
      clear_value x1
      extract_lets +onlyGivenNames x2
      clear_value x2
      extract_lets +onlyGivenNames x3
      have h4 : onlyIn [.mb, .pf, .ev, .mc, .up, .rs, .pw, .sp, .out] s x3 := by
        dsimp only [x3]
        refine onlyIn_step (frame_updRs _ _) rfl ?_
        refine onlyIn_step (onlyIn_put_mb_up _ _ _) rfl ?_
        exact onlyIn_refl _ _
      clear_value x3
      extract_lets +onlyGivenNames x5
      have h6 : onlyIn [.mb, .pf, .ev, .mc, .up, .rs, .pw, .sp, .out] s x5 := by
        dsimp only [x5]
        refine onlyIn_step (frame_updPw _ _) rfl ?_
        exact h4
      clear_value x5
      refine onlyIn_fold _ _ (fun st7 a8 => ?_) ?_
      · refine onlyIn_step (frame_bankPower _ _ _) rfl ?_
        exact onlyIn_refl _ _
      · refine onlyIn_step (frame_panelRecord _) rfl ?_
        refine onlyIn_step (frame_recordCauses _) rfl ?_
        exact h6
    · refine onlyIn_ite ?_ ?_
      · exact onlyIn_refl _ _
      · refine onlyIn_step (frame_happen _ _ _ _) rfl ?_
        refine onlyIn_step (frame_updRs _ _) rfl ?_
        exact onlyIn_refl _ _
  · exact onlyIn_refl _ _

theorem frame_execLaneImageLoaded_transportsOn : ∀ s, onlyIn [.mb] s (execLaneImageLoaded.transportsOn s) := by
  intro s
  unfold execLaneImageLoaded.transportsOn
  refine onlyIn_step (onlyIn_put_mb _ _) rfl ?_
  exact onlyIn_refl _ _

theorem frame_execLaneImageLoaded : ∀ s t, execLaneImageLoaded s = .next t → onlyIn [.mb, .rs] s t := by
  intro s t h
  unfold execLaneImageLoaded at h
  cases h
  refine onlyIn_ite ?_ ?_
  · refine onlyIn_step (frame_execLaneImageLoaded_transportsOn _) rfl ?_
    refine onlyIn_step (frame_updRs _ _) rfl ?_
    exact onlyIn_refl _ _
  · exact onlyIn_refl _ _

theorem frame_startProfile : ∀ s, onlyIn [.mb, .pf, .ev, .gr, .qz, .cf, .vd, .ls, .gn, .fb, .cn, .pw, .out, .free] s (startProfile s) := by
  intro s
  unfold startProfile
  split
  · extract_lets +onlyGivenNames x0
    clear_value x0
    refine onlyIn_ite ?_ ?_
    · extract_lets +onlyGivenNames x1
      have h2 : onlyIn [.mb, .pf, .ev, .gr, .qz, .cf, .vd, .ls, .gn, .fb, .cn, .pw, .out, .free] s x1 := by
        dsimp only [x1]
        refine onlyIn_ite ?_ ?_
        · refine onlyIn_step (frame_happen _ _ _ _) rfl ?_
          exact onlyIn_refl _ _
        · exact onlyIn_refl _ _
      clear_value x1
      refine onlyIn_step (frame_activateProfile _ _ _ _ _) rfl ?_
      exact h2
    · extract_lets +onlyGivenNames x3
      have h4 : onlyIn [.mb, .pf, .ev, .gr, .qz, .cf, .vd, .ls, .gn, .fb, .cn, .pw, .out, .free] s x3 := by
        dsimp only [x3]
        refine onlyIn_step (frame_loadJudge _ _) rfl ?_
        exact onlyIn_refl _ _
      clear_value x3
      split
      · refine onlyIn_step (frame_activateProfile _ _ _ _ _) rfl ?_
        refine onlyIn_step (frame_happen _ _ _ _) rfl ?_
        exact h4
      · refine onlyIn_step (frame_activateProfile _ _ _ _ _) rfl ?_
        exact h4

theorem frame_transportsInForce : ∀ s, onlyIn [.mb, .pf] s (transportsInForce s) := by
  intro s
  unfold transportsInForce
  extract_lets +onlyGivenNames x0
  clear_value x0
  refine onlyIn_step (frame_updPf _ _) rfl ?_
  refine onlyIn_step (onlyIn_put_mb _ _) rfl ?_
  exact onlyIn_refl _ _

theorem frame_execBootProfileActivation : ∀ s t, execBootProfileActivation s = .next t → onlyIn [.clk, .mb, .pf, .ev, .gr, .qz, .cf, .vd, .ls, .gn, .fb, .cn, .mc, .up, .an, .rs, .pw, .sp, .out, .free] s t := by
  intro s t h
  unfold execBootProfileActivation at h
  cases h
  refine onlyIn_ite ?_ ?_
  · split
    · refine onlyIn_step (frame_finishTransition _ _) rfl ?_
      exact onlyIn_refl _ _
    · extract_lets +onlyGivenNames x0
      have h1 : onlyIn [.clk, .mb, .pf, .ev, .gr, .qz, .cf, .vd, .ls, .gn, .fb, .cn, .mc, .up, .an, .rs, .pw, .sp, .out, .free] s x0.1 := by
        dsimp only [x0]
        refine onlyIn_step (frame_bootRecord _) rfl ?_
        exact onlyIn_refl _ _
      clear_value x0
      refine onlyIn_ite ?_ ?_
      · exact h1
      · extract_lets +onlyGivenNames x2
        have h3 : onlyIn [.clk, .mb, .pf, .ev, .gr, .qz, .cf, .vd, .ls, .gn, .fb, .cn, .mc, .up, .an, .rs, .pw, .sp, .out, .free] s x2 := by
          dsimp only [x2]
          refine onlyIn_step (frame_updPf _ _) rfl ?_
          refine onlyIn_step (frame_startProfile _) rfl ?_
          exact h1
        clear_value x2
        refine onlyIn_step (frame_panelRecover _) rfl ?_
        refine onlyIn_step (frame_gnssStart _) rfl ?_
        refine onlyIn_step (frame_quartzStart _) rfl ?_
        refine onlyIn_step (frame_transportsInForce _) rfl ?_
        refine onlyIn_step (frame_updRs _ _) rfl ?_
        exact h3
  · exact onlyIn_refl _ _

theorem frame_firstBoot : ∀ s, onlyIn [.mb, .pf, .ev, .up, .out] s (firstBoot s) := by
  intro s
  unfold firstBoot
  refine onlyIn_ite ?_ ?_
  · extract_lets +onlyGivenNames x0
    clear_value x0
    extract_lets +onlyGivenNames x1
    have h2 : onlyIn [.mb, .pf, .ev, .up, .out] s x1 := by
      dsimp only [x1]
      refine onlyIn_fold _ _ (fun st3 a4 => ?_) ?_
      · refine onlyIn_step (frame_storeCopy _ _ _) rfl ?_
        exact onlyIn_refl _ _
      · exact onlyIn_refl _ _
    clear_value x1
    refine onlyIn_step (frame_rawEvent _ _ _ _) rfl ?_
    refine onlyIn_step (frame_updUp _ _) rfl ?_
    exact h2
  · exact onlyIn_refl _ _

theorem frame_execBootComplete : ∀ a0 s t, execBootComplete a0 s = .next t → onlyIn [.mb, .pf, .ev, .up, .rs, .out] s t := by
  intro a0 s t h
  unfold execBootComplete at h
  cases h
  refine onlyIn_ite ?_ ?_
  · refine onlyIn_step (frame_firstBoot _) rfl ?_
    refine onlyIn_step (frame_updRs _ _) rfl ?_
    exact onlyIn_refl _ _
  · exact onlyIn_refl _ _

theorem frame_execBootTimeout : ∀ a0 s t, execBootTimeout a0 s = .next t → onlyIn [.clk, .mb, .pf, .ev, .gr, .qz, .cf, .vd, .ls, .gn, .fb, .cn, .mc, .up, .an, .rs, .pw, .sp, .out, .free] s t := by
  intro a0 s t h
  unfold execBootTimeout at h
  cases h
  extract_lets +onlyGivenNames x0
  clear_value x0
  refine onlyIn_ite ?_ ?_
  · extract_lets +onlyGivenNames x1
    clear_value x1
    extract_lets +onlyGivenNames x2
    have h3 : onlyIn [.clk, .mb, .pf, .ev, .gr, .qz, .cf, .vd, .ls, .gn, .fb, .cn, .mc, .up, .an, .rs, .pw, .sp, .out, .free] s x2 := by
      dsimp only [x2]
      refine onlyIn_ite ?_ ?_
      · refine onlyIn_step (frame_happen _ _ _ _) rfl ?_
        refine onlyIn_step (frame_updRs _ _) rfl ?_
        exact onlyIn_refl _ _
      · exact onlyIn_refl _ _
    clear_value x2
    refine onlyIn_step (frame_assertSource _ _ _ _) rfl ?_
    exact h3
  · exact onlyIn_refl _ _

theorem frame_execL2RestartComplete : ∀ s t, execL2RestartComplete s = .next t → onlyIn [.mb, .pf, .ev, .qz, .gn, .cn, .rs, .out] s t := by
  intro s t h
  unfold execL2RestartComplete at h
  cases h
  refine onlyIn_ite ?_ ?_
  · extract_lets +onlyGivenNames x0
    have h1 : onlyIn [.mb, .pf, .ev, .qz, .gn, .cn, .rs, .out] s x0 := by
      dsimp only [x0]
      refine onlyIn_step (frame_transportsInForce _) rfl ?_
      refine onlyIn_step (frame_canActivate _ _) rfl ?_
      refine onlyIn_step (frame_gnssStart _) rfl ?_
      refine onlyIn_step (frame_quartzStart _) rfl ?_
      exact onlyIn_refl _ _
    clear_value x0
    refine onlyIn_step (frame_updRs _ _) rfl ?_
    exact h1
  · exact onlyIn_refl _ _

end Sys2Proof.Machine
end

