-- ==== Sys2Proof/Laws/FrameCanHost.lean ====
section
/-!
SUPPORT. Laws/FrameCanHost.lean: the parts of the state that the definitions of Machine/CanHost.lean may change.
-/

namespace Sys2Proof.Machine

open Sys2Proof.Safety

theorem frame_dropConn : ∀ a0 a1 a2 s, onlyIn [.cn] s (dropConn a0 a1 a2 s) := by
  intro a0 a1 a2 s
  unfold dropConn
  refine onlyIn_step (frame_updCan _ _ _) rfl ?_
  exact onlyIn_refl _ _

theorem frame_sendCm : ∀ a0 a1 a2 s, onlyIn [.cn] s (sendCm a0 a1 a2 s) := by
  intro a0 a1 a2 s
  unfold sendCm
  refine onlyIn_step (frame_canQueue _ _ _) rfl ?_
  exact onlyIn_refl _ _

theorem frame_openTransfers : ∀ a0 s, onlyIn [.cn] s (openTransfers a0 s) := by
  intro a0 s
  unfold openTransfers
  refine onlyIn_fold _ _ (fun st0 a1 => ?_) ?_
  · refine onlyIn_ite ?_ ?_
    · refine onlyIn_step (frame_updCan _ _ _) rfl ?_
      exact onlyIn_refl _ _
    · extract_lets +onlyGivenNames x2
      clear_value x2
      extract_lets +onlyGivenNames x3
      clear_value x3
      refine onlyIn_step (frame_sendCm _ _ _ _) rfl ?_
      refine onlyIn_step (frame_updCan _ _ _) rfl ?_
      exact onlyIn_refl _ _
  · refine onlyIn_step (frame_updCan _ _ _) rfl ?_
    exact onlyIn_refl _ _

theorem frame_abortConn : ∀ a0 a1 a2 s, onlyIn [.mb, .pf, .ev, .cn, .out] s (abortConn a0 a1 a2 s) := by
  intro a0 a1 a2 s
  unfold abortConn
  extract_lets +onlyGivenNames x0
  have h1 : onlyIn [.mb, .pf, .ev, .cn, .out] s x0 := by
    dsimp only [x0]
    refine onlyIn_step (frame_updCan _ _ _) rfl ?_
    refine onlyIn_step (frame_dropConn _ _ _ _) rfl ?_
    exact onlyIn_refl _ _
  clear_value x0
  extract_lets +onlyGivenNames x2
  clear_value x2
  extract_lets +onlyGivenNames x3
  have h4 : onlyIn [.mb, .pf, .ev, .cn, .out] s x3 := by
    dsimp only [x3]
    refine onlyIn_ite ?_ ?_
    · exact h1
    · refine onlyIn_step (onlyIn_put_mb _ _) rfl ?_
      exact h1
  clear_value x3
  refine onlyIn_step (frame_openTransfers _ _) rfl ?_
  refine onlyIn_step (frame_happen _ _ _ _) rfl ?_
  exact h4

theorem frame_applyCnSend : ∀ a0 s, onlyIn [.cn] s (applyCnSend a0 s) := by
  intro a0 s
  unfold applyCnSend
  extract_lets +onlyGivenNames x0
  clear_value x0
  extract_lets +onlyGivenNames x1
  clear_value x1
  extract_lets +onlyGivenNames x2
  have h3 : onlyIn [.cn] s x2 := by
    dsimp only [x2]
    refine onlyIn_step (onlyIn_put_cn _ _) rfl ?_
    exact onlyIn_refl _ _
  clear_value x2
  split
  · refine onlyIn_ite ?_ ?_
    · refine onlyIn_step (frame_updCan _ _ _) rfl ?_
      exact h3
    · refine onlyIn_step (frame_canQueue _ _ _) rfl ?_
      exact h3
  · exact h3

theorem frame_bodyCnCancel : ∀ a0 s, onlyIn [.mb, .cn, .free] s (bodyCnCancel a0 s).1 := by
  intro a0 s
  unfold bodyCnCancel
  extract_lets +onlyGivenNames x0
  clear_value x0
  refine onlyIn_ite1 ?_ ?_
  · refine onlyIn_ans ?_
    exact onlyIn_refl _ _
  · refine onlyIn_ite1 ?_ ?_
    · refine onlyIn_ans ?_
      exact onlyIn_refl _ _
    · split
      · refine onlyIn_ans ?_
        refine onlyIn_step (onlyIn_put_mb_cn _ _ _) rfl ?_
        exact onlyIn_refl _ _
      · split
        · refine onlyIn_ans ?_
          refine onlyIn_step (frame_updCan _ _ _) rfl ?_
          exact onlyIn_refl _ _
        · extract_lets +onlyGivenNames x1
          have h2 : onlyIn [.mb, .cn, .free] s x1.2 := by
            dsimp only [x1]
            refine onlyIn_step (frame_freshBool _) rfl ?_
            exact onlyIn_refl _ _
          clear_value x1
          refine onlyIn_ite1 ?_ ?_
          · refine onlyIn_pair1 ?_
            refine onlyIn_step (frame_updCan _ _ _) rfl ?_
            exact h2
          · refine onlyIn_ans ?_
            refine onlyIn_step (frame_loadPort _ _) rfl ?_
            refine onlyIn_step (frame_updCan _ _ _) rfl ?_
            exact h2
        · refine onlyIn_ans ?_
          exact onlyIn_refl _ _

theorem frame_bodyCnConfigReclaim : ∀ a0 s, onlyIn [.mb, .pf, .ev, .cn, .out] s (bodyCnConfigReclaim a0 s).1 := by
  intro a0 s
  unfold bodyCnConfigReclaim
  unfold withOp
  try beta_reduce
  refine onlyIn_ite1 ?_ ?_
  · split
    · refine onlyIn_ans ?_
      exact onlyIn_refl _ _
    · extract_lets +onlyGivenNames x0
      have h1 : onlyIn [.mb, .pf, .ev, .cn, .out] s x0 := by
        dsimp only [x0]
        refine onlyIn_ite ?_ ?_
        · refine onlyIn_step (frame_claimNow _ _ _) rfl ?_
          exact onlyIn_refl _ _
        · exact onlyIn_refl _ _
      clear_value x0
      refine onlyIn_ans ?_
      exact h1
  · refine onlyIn_ans ?_
    exact onlyIn_refl _ _

theorem frame_bodyCnConfigRestart : ∀ a0 s, onlyIn [.mb, .pf, .ev, .cn, .out] s (bodyCnConfigRestart a0 s).1 := by
  intro a0 s
  unfold bodyCnConfigRestart
  unfold withOp
  try beta_reduce
  refine onlyIn_ite1 ?_ ?_
  · split
    · refine onlyIn_ans ?_
      exact onlyIn_refl _ _
    · refine onlyIn_ite1 ?_ ?_
      · refine onlyIn_ans ?_
        exact onlyIn_refl _ _
      · extract_lets +onlyGivenNames x0
        have h1 : onlyIn [.mb, .pf, .ev, .cn, .out] s x0 := by
          dsimp only [x0]
          refine onlyIn_step (frame_canRestart _ _) rfl ?_
          exact onlyIn_refl _ _
        clear_value x0
        refine onlyIn_ans ?_
        exact h1
  · refine onlyIn_ans ?_
    exact onlyIn_refl _ _

theorem frame_bodyCnFilterSet : ∀ a0 s, onlyIn [.cn] s (bodyCnFilterSet a0 s).1 := by
  intro a0 s
  unfold bodyCnFilterSet
  extract_lets +onlyGivenNames x0
  clear_value x0
  extract_lets +onlyGivenNames x1
  clear_value x1
  refine onlyIn_ite1 ?_ ?_
  · refine onlyIn_ans ?_
    exact onlyIn_refl _ _
  · extract_lets +onlyGivenNames x2
    clear_value x2
    refine onlyIn_ans ?_
    refine onlyIn_step (frame_updCan _ _ _) rfl ?_
    exact onlyIn_refl _ _

theorem frame_bodyCnSend : ∀ a0 s, onlyIn [.mb, .cn] s (bodyCnSend a0 s).1 := by
  intro a0 s
  unfold bodyCnSend
  dsimp only
  unfold timedBody
  try beta_reduce
  split
  · refine onlyIn_ans ?_
    exact onlyIn_refl _ _
  · refine onlyIn_ite1 ?_ ?_
    · refine onlyIn_ans ?_
      exact onlyIn_refl _ _
    · split
      · refine onlyIn_ans ?_
        exact onlyIn_refl _ _
      · refine onlyIn_ite1 ?_ ?_
        · refine onlyIn_ans ?_
          exact onlyIn_refl _ _
        · refine onlyIn_ite1 ?_ ?_
          · refine onlyIn_ans ?_
            exact onlyIn_refl _ _
          · extract_lets +onlyGivenNames x0
            clear_value x0
            extract_lets +onlyGivenNames x1
            have h2 : onlyIn [.mb, .cn] s x1.1 := by
              dsimp only [x1]
              try refine onlyIn_pair1 ?_
              refine onlyIn_step (onlyIn_put_cn _ _) rfl ?_
              refine onlyIn_step (frame_handOver _ _) rfl ?_
              exact onlyIn_refl _ _
            clear_value x1
            refine onlyIn_ans ?_
            exact h2

theorem frame_bodyCnStatus : ∀ a0 s, onlyIn [] s (bodyCnStatus a0 s).1 := by
  intro a0 s
  unfold bodyCnStatus
  unfold emptyPayload
  try beta_reduce
  refine onlyIn_ite1 ?_ ?_
  · refine onlyIn_ans ?_
    exact onlyIn_refl _ _
  · refine onlyIn_ans ?_
    exact onlyIn_refl _ _

theorem frame_canPump : ∀ s, onlyIn [.cn] s (canPump s) := by
  intro s
  unfold canPump
  dsimp only
  refine onlyIn_fold _ _ (fun st0 a1 => ?_) ?_
  · refine onlyIn_step (frame_openTransfers _ _) rfl ?_
    exact onlyIn_refl _ _
  · refine onlyIn_fold _ _ (fun st2 a3 => ?_) ?_
    · refine onlyIn_ite ?_ ?_
      · refine onlyIn_step (frame_updCan _ _ _) rfl ?_
        exact onlyIn_refl _ _
      · refine onlyIn_step (frame_updCan _ _ _) rfl ?_
        exact onlyIn_refl _ _
    · refine onlyIn_step (onlyIn_put_cn _ _) rfl ?_
      exact onlyIn_refl _ _

theorem frame_updConn : ∀ a0 a1 a2 a3 s, onlyIn [.cn] s (updConn a0 a1 a2 a3 s) := by
  intro a0 a1 a2 a3 s
  unfold updConn
  refine onlyIn_step (frame_updCan _ _ _) rfl ?_
  exact onlyIn_refl _ _

theorem frame_sendPackets : ∀ a0 a1 a2 a3 a4 s, onlyIn [.cn] s (sendPackets a0 a1 a2 a3 a4 s) := by
  intro a0 a1 a2 a3 a4 s
  unfold sendPackets
  refine onlyIn_fold _ _ (fun st0 a1 => ?_) ?_
  · refine onlyIn_step (frame_canQueue _ _ _) rfl ?_
    exact onlyIn_refl _ _
  · exact onlyIn_refl _ _

theorem frame_cmHeard : ∀ a0 a1 a2 s, onlyIn [.mb, .pf, .ev, .cn, .out] s (cmHeard a0 a1 a2 s) := by
  intro a0 a1 a2 s
  unfold cmHeard
  extract_lets +onlyGivenNames x0
  clear_value x0
  refine onlyIn_ite ?_ ?_
  · exact onlyIn_refl _ _
  · refine onlyIn_ite ?_ ?_
    · extract_lets +onlyGivenNames x1
      clear_value x1
      extract_lets +onlyGivenNames x2
      clear_value x2
      refine onlyIn_ite ?_ ?_
      · refine onlyIn_step (frame_sendCm _ _ _ _) rfl ?_
        exact onlyIn_refl _ _
      · refine onlyIn_ite ?_ ?_
        · refine onlyIn_step (frame_sendCm _ _ _ _) rfl ?_
          exact onlyIn_refl _ _
        · refine onlyIn_ite ?_ ?_
          · exact onlyIn_refl _ _
          · extract_lets +onlyGivenNames x3
            clear_value x3
            refine onlyIn_step (frame_sendCm _ _ _ _) rfl ?_
            refine onlyIn_step (frame_updCan _ _ _) rfl ?_
            exact onlyIn_refl _ _
    · refine onlyIn_ite ?_ ?_
      · split
        · extract_lets +onlyGivenNames x4
          clear_value x4
          extract_lets +onlyGivenNames x5
          clear_value x5
          refine onlyIn_ite ?_ ?_
          · refine onlyIn_step (frame_updConn _ _ _ _ _) rfl ?_
            exact onlyIn_refl _ _
          · extract_lets +onlyGivenNames x6
            clear_value x6
            refine onlyIn_step (frame_sendPackets _ _ _ _ _ _) rfl ?_
            refine onlyIn_step (frame_updConn _ _ _ _ _) rfl ?_
            exact onlyIn_refl _ _
        · exact onlyIn_refl _ _
      · refine onlyIn_ite ?_ ?_
        · refine onlyIn_step (frame_openTransfers _ _) rfl ?_
          refine onlyIn_step (frame_dropConn _ _ _ _) rfl ?_
          exact onlyIn_refl _ _
        · refine onlyIn_ite ?_ ?_
          · refine onlyIn_ite ?_ ?_
            · refine onlyIn_step (frame_abortConn _ _ _ _) rfl ?_
              exact onlyIn_refl _ _
            · refine onlyIn_ite ?_ ?_
              · refine onlyIn_step (frame_abortConn _ _ _ _) rfl ?_
                exact onlyIn_refl _ _
              · exact onlyIn_refl _ _
          · exact onlyIn_refl _ _

theorem frame_dtHeard : ∀ a0 a1 a2 s, onlyIn [.mb, .pf, .ev, .cn, .out] s (dtHeard a0 a1 a2 s).1 := by
  intro a0 a1 a2 s
  unfold dtHeard
  split
  · refine onlyIn_pair1 ?_
    exact onlyIn_refl _ _
  · refine onlyIn_ite1 ?_ ?_
    · refine onlyIn_pair1 ?_
      refine onlyIn_step (frame_abortConn _ _ _ _) rfl ?_
      refine onlyIn_step (frame_sendCm _ _ _ _) rfl ?_
      exact onlyIn_refl _ _
    · extract_lets +onlyGivenNames x0
      clear_value x0
      refine onlyIn_ite1 ?_ ?_
      · refine onlyIn_pair1 ?_
        refine onlyIn_step (frame_openTransfers _ _) rfl ?_
        refine onlyIn_step (frame_sendCm _ _ _ _) rfl ?_
        refine onlyIn_step (frame_dropConn _ _ _ _) rfl ?_
        exact onlyIn_refl _ _
      · refine onlyIn_ite1 ?_ ?_
        · extract_lets +onlyGivenNames x1
          clear_value x1
          refine onlyIn_pair1 ?_
          refine onlyIn_step (frame_sendCm _ _ _ _) rfl ?_
          refine onlyIn_step (frame_updConn _ _ _ _ _) rfl ?_
          exact onlyIn_refl _ _
        · refine onlyIn_pair1 ?_
          refine onlyIn_step (frame_updConn _ _ _ _ _) rfl ?_
          exact onlyIn_refl _ _

theorem frame_moduleReceive : ∀ a0 a1 s, onlyIn [.mb, .pf, .ev, .cn, .out] s (moduleReceive a0 a1 s).1 := by
  intro a0 a1 s
  unfold moduleReceive
  extract_lets +onlyGivenNames x0
  have h1 : onlyIn [.mb, .pf, .ev, .cn, .out] s x0 := by
    dsimp only [x0]
    refine onlyIn_step (frame_stageSignals _ _ _) rfl ?_
    exact onlyIn_refl _ _
  clear_value x0
  extract_lets +onlyGivenNames x2
  clear_value x2
  extract_lets +onlyGivenNames x3
  clear_value x3
  extract_lets +onlyGivenNames x4
  clear_value x4
  extract_lets +onlyGivenNames x5
  clear_value x5
  refine onlyIn_ite1 ?_ ?_
  · refine onlyIn_pair1 ?_
    exact h1
  · refine onlyIn_ite1 ?_ ?_
    · refine onlyIn_pair1 ?_
      refine onlyIn_step (frame_claimHeard _ _ _ _) rfl ?_
      exact h1
    · refine onlyIn_ite1 ?_ ?_
      · refine onlyIn_pair1 ?_
        refine onlyIn_step (frame_sendClaim _ _) rfl ?_
        exact h1
      · refine onlyIn_ite1 ?_ ?_
        · refine onlyIn_pair1 ?_
          refine onlyIn_step (frame_cmHeard _ _ _ _) rfl ?_
          exact h1
        · refine onlyIn_ite1 ?_ ?_
          · extract_lets +onlyGivenNames x6
            have h7 : onlyIn [.mb, .pf, .ev, .cn, .out] s x6.1 := by
              dsimp only [x6]
              refine onlyIn_step (frame_dtHeard _ _ _ _) rfl ?_
              exact h1
            clear_value x6
            refine onlyIn_pair1 ?_
            exact h7
          · refine onlyIn_pair1 ?_
            exact h1

theorem frame_canReceive : ∀ a0 a1 a2 a3 s, onlyIn [.mb, .pf, .ev, .cn, .out, .free] s (canReceive a0 a1 a2 a3 s).1 := by
  intro a0 a1 a2 a3 s
  unfold canReceive
  extract_lets +onlyGivenNames x0
  clear_value x0
  refine onlyIn_ite1 ?_ ?_
  · refine onlyIn_pair1 ?_
    exact onlyIn_refl _ _
  · refine onlyIn_ite1 ?_ ?_
    · refine onlyIn_pair1 ?_
      refine onlyIn_ite ?_ ?_
      · exact onlyIn_refl _ _
      · refine onlyIn_step (frame_canJudge _ _) rfl ?_
        refine onlyIn_step (frame_updCan _ _ _) rfl ?_
        exact onlyIn_refl _ _
    · refine onlyIn_ite1 ?_ ?_
      · refine onlyIn_pair1 ?_
        refine onlyIn_step (frame_updCan _ _ _) rfl ?_
        exact onlyIn_refl _ _
      · extract_lets +onlyGivenNames x1
        have h2 : onlyIn [.mb, .pf, .ev, .cn, .out, .free] s x1.2 := by
          dsimp only [x1]
          refine onlyIn_step (frame_freshNat _) rfl ?_
          exact onlyIn_refl _ _
        clear_value x1
        extract_lets +onlyGivenNames x3
        have h4 : onlyIn [.mb, .pf, .ev, .cn, .out, .free] s x3 := by
          dsimp only [x3]
          refine onlyIn_step (frame_updCan _ _ _) rfl ?_
          exact h2
        clear_value x3
        extract_lets +onlyGivenNames x5
        have h6 : onlyIn [.mb, .pf, .ev, .cn, .out, .free] s x5 := by
          dsimp only [x5]
          refine onlyIn_step (frame_canJudge _ _) rfl ?_
          exact h4
        clear_value x5
        extract_lets +onlyGivenNames x7
        have h8 : onlyIn [.mb, .pf, .ev, .cn, .out, .free] s x7.1 := by
          dsimp only [x7]
          refine onlyIn_ite1 ?_ ?_
          · refine onlyIn_step (frame_moduleReceive _ _ _) rfl ?_
            exact h6
          · refine onlyIn_pair1 ?_
            exact h6
        clear_value x7
        refine onlyIn_pair1 ?_
        refine onlyIn_step (frame_hostReceive _ _ _ _) rfl ?_
        exact h8

theorem frame_execTransportTimeout : ∀ a0 a1 a2 s t, execTransportTimeout a0 a1 a2 s = .next t → onlyIn [.mb, .pf, .ev, .cn, .out] s t := by
  intro a0 a1 a2 s t h
  unfold execTransportTimeout at h
  cases h
  split
  · refine onlyIn_ite ?_ ?_
    · refine onlyIn_step (frame_abortConn _ _ _ _) rfl ?_
      refine onlyIn_step (frame_sendCm _ _ _ _) rfl ?_
      exact onlyIn_refl _ _
    · exact onlyIn_refl _ _
  · exact onlyIn_refl _ _

end Sys2Proof.Machine
end

