-- ==== Sys2Proof/Laws/FrameEvents.lean ====
section
/-!
SUPPORT. Laws/FrameEvents.lean: the parts of the state that the definitions of Machine/Events.lean may change.
-/

namespace Sys2Proof.Machine

open Sys2Proof.Safety

theorem frame_updEv : ∀ a0 s, onlyIn [.ev] s (updEv a0 s) := by
  intro a0 s
  unfold updEv
  refine onlyIn_step (onlyIn_put_ev _ _) rfl ?_
  exact onlyIn_refl _ _

theorem frame_applyInject : ∀ a0 s, onlyIn [.mb, .pf, .ev, .out] s (applyInject a0 s) := by
  intro a0 s
  unfold applyInject
  split
  · exact onlyIn_refl _ _
  · extract_lets +onlyGivenNames x0
    have h1 : onlyIn [.mb, .pf, .ev, .out] s x0 := by
      dsimp only [x0]
      refine onlyIn_step (frame_updEv _ _) rfl ?_
      exact onlyIn_refl _ _
    clear_value x0
    refine onlyIn_ite ?_ ?_
    · refine onlyIn_step (frame_happen _ _ _ _) rfl ?_
      exact h1
    · exact h1

theorem frame_archiveRec : ∀ a0 s, onlyIn [.ev] s (archiveRec a0 s) := by
  intro a0 s
  unfold archiveRec
  refine onlyIn_step (frame_updEv _ _) rfl ?_
  exact onlyIn_refl _ _

theorem frame_updArea : ∀ a0 a1 s, onlyIn [.ev] s (updArea a0 a1 s) := by
  intro a0 a1 s
  unfold updArea
  refine onlyIn_step (frame_updEv _ _) rfl ?_
  exact onlyIn_refl _ _

theorem frame_dropOcc : ∀ a0 s, onlyIn [.mb, .pf, .ev, .out] s (dropOcc a0 s) := by
  intro a0 s
  unfold dropOcc
  extract_lets +onlyGivenNames x0
  clear_value x0
  extract_lets +onlyGivenNames x1
  have h2 : onlyIn [.mb, .pf, .ev, .out] s x1 := by
    dsimp only [x1]
    refine onlyIn_step (frame_updEv _ _) rfl ?_
    exact onlyIn_refl _ _
  clear_value x1
  refine onlyIn_ite ?_ ?_
  · exact h2
  · refine onlyIn_step (frame_happen _ _ _ _) rfl ?_
    exact h2

theorem frame_putRec : ∀ a0 s, onlyIn [.mb, .pf, .ev, .out] s (putRec a0 s) := by
  intro a0 s
  unfold putRec
  extract_lets +onlyGivenNames x0
  clear_value x0
  refine onlyIn_step (frame_notifyEvent _ _) rfl ?_
  refine onlyIn_step (frame_updEv _ _) rfl ?_
  refine onlyIn_step (frame_updArea _ _ _) rfl ?_
  exact onlyIn_refl _ _

theorem frame_newRec : ∀ a0 s, onlyIn [.mb, .pf, .ev, .out] s (newRec a0 s) := by
  intro a0 s
  unfold newRec
  extract_lets +onlyGivenNames x0
  clear_value x0
  extract_lets +onlyGivenNames x1
  clear_value x1
  refine onlyIn_ite ?_ ?_
  · refine onlyIn_step (frame_dropOcc _ _) rfl ?_
    exact onlyIn_refl _ _
  · refine onlyIn_ite ?_ ?_
    · refine onlyIn_step (frame_putRec _ _) rfl ?_
      exact onlyIn_refl _ _
    · split
      · refine onlyIn_step (frame_putRec _ _) rfl ?_
        refine onlyIn_step (frame_updArea _ _ _) rfl ?_
        refine onlyIn_step (frame_archiveRec _ _) rfl ?_
        exact onlyIn_refl _ _
      · refine onlyIn_step (frame_dropOcc _ _) rfl ?_
        exact onlyIn_refl _ _

theorem frame_bodyEvClear : ∀ a0 s, onlyIn [.mb, .pf, .ev, .out] s (bodyEvClear a0 s).1 := by
  intro a0 s
  unfold bodyEvClear
  dsimp only
  refine onlyIn_ite1 ?_ ?_
  · refine onlyIn_ans ?_
    exact onlyIn_refl _ _
  · refine onlyIn_ite1 ?_ ?_
    · refine onlyIn_ans ?_
      exact onlyIn_refl _ _
    · refine onlyIn_ite1 ?_ ?_
      · refine onlyIn_ans ?_
        exact onlyIn_refl _ _
      · refine onlyIn_ans ?_
        refine onlyIn_step (frame_newRec _ _) rfl ?_
        refine onlyIn_step (frame_updArea _ _ _) rfl ?_
        refine onlyIn_fold _ _ (fun st0 a1 => ?_) ?_
        · refine onlyIn_step (frame_archiveRec _ _) rfl ?_
          exact onlyIn_refl _ _
        · exact onlyIn_refl _ _

theorem frame_bodyEvCount : ∀ a0 s, onlyIn [] s (bodyEvCount a0 s).1 := by
  intro a0 s
  unfold bodyEvCount
  unfold emptyPayload
  try beta_reduce
  refine onlyIn_ite1 ?_ ?_
  · extract_lets +onlyGivenNames x0
    clear_value x0
    refine onlyIn_ans ?_
    exact onlyIn_refl _ _
  · refine onlyIn_ans ?_
    exact onlyIn_refl _ _

theorem frame_bodyEvRead : ∀ a0 s, onlyIn [] s (bodyEvRead a0 s).1 := by
  intro a0 s
  unfold bodyEvRead
  unfold evRead
  try beta_reduce
  extract_lets +onlyGivenNames x0
  clear_value x0
  extract_lets +onlyGivenNames x1
  clear_value x1
  extract_lets +onlyGivenNames x2
  clear_value x2
  extract_lets +onlyGivenNames x3
  clear_value x3
  refine onlyIn_ite1 ?_ ?_
  · refine onlyIn_ans ?_
    exact onlyIn_refl _ _
  · extract_lets +onlyGivenNames x4
    clear_value x4
    extract_lets +onlyGivenNames x5
    clear_value x5
    extract_lets +onlyGivenNames x6
    clear_value x6
    extract_lets +onlyGivenNames x7
    clear_value x7
    refine onlyIn_ans ?_
    exact onlyIn_refl _ _

theorem frame_bodyEvReadPriv : ∀ a0 s, onlyIn [] s (bodyEvReadPriv a0 s).1 := by
  intro a0 s
  unfold bodyEvReadPriv
  unfold evRead
  try beta_reduce
  extract_lets +onlyGivenNames x0
  clear_value x0
  extract_lets +onlyGivenNames x1
  clear_value x1
  extract_lets +onlyGivenNames x2
  clear_value x2
  extract_lets +onlyGivenNames x3
  clear_value x3
  refine onlyIn_ite1 ?_ ?_
  · refine onlyIn_ans ?_
    exact onlyIn_refl _ _
  · extract_lets +onlyGivenNames x4
    clear_value x4
    extract_lets +onlyGivenNames x5
    clear_value x5
    extract_lets +onlyGivenNames x6
    clear_value x6
    extract_lets +onlyGivenNames x7
    clear_value x7
    refine onlyIn_ans ?_
    exact onlyIn_refl _ _

theorem frame_bodyInject : ∀ a0 s, onlyIn [.mb, .ev] s (bodyInject a0 s).1 := by
  intro a0 s
  unfold bodyInject
  dsimp only
  unfold timedBody
  try beta_reduce
  split
  · refine onlyIn_ans ?_
    exact onlyIn_refl _ _
  · refine onlyIn_ite1 ?_ ?_
    · refine onlyIn_ans ?_
      exact onlyIn_refl _ _
    · split
      · refine onlyIn_ans ?_
        exact onlyIn_refl _ _
      · refine onlyIn_ite1 ?_ ?_
        · refine onlyIn_ans ?_
          exact onlyIn_refl _ _
        · refine onlyIn_ite1 ?_ ?_
          · refine onlyIn_ans ?_
            exact onlyIn_refl _ _
          · extract_lets +onlyGivenNames x0
            clear_value x0
            extract_lets +onlyGivenNames x1
            have h2 : onlyIn [.mb, .ev] s x1.1 := by
              dsimp only [x1]
              split
              · refine onlyIn_pair1 ?_
                refine onlyIn_step (frame_handOver _ _) rfl ?_
                exact onlyIn_refl _ _
              · refine onlyIn_pair1 ?_
                refine onlyIn_step (frame_updEv _ _) rfl ?_
                refine onlyIn_step (frame_handOver _ _) rfl ?_
                exact onlyIn_refl _ _
            clear_value x1
            refine onlyIn_ans ?_
            exact h2

theorem frame_bodyInjectClear : ∀ a0 s, onlyIn [.ev] s (bodyInjectClear a0 s).1 := by
  intro a0 s
  unfold bodyInjectClear
  extract_lets +onlyGivenNames x0
  clear_value x0
  refine onlyIn_ite1 ?_ ?_
  · refine onlyIn_ans ?_
    exact onlyIn_refl _ _
  · extract_lets +onlyGivenNames x1
    clear_value x1
    refine onlyIn_ans ?_
    refine onlyIn_step (frame_endInjections _ _) rfl ?_
    exact onlyIn_refl _ _

theorem frame_bodyInjectList : ∀ a0 s, onlyIn [] s (bodyInjectList a0 s).1 := by
  intro a0 s
  unfold bodyInjectList
  unfold emptyPayload
  try beta_reduce
  refine onlyIn_ite1 ?_ ?_
  · extract_lets +onlyGivenNames x0
    clear_value x0
    refine onlyIn_ans ?_
    exact onlyIn_refl _ _
  · refine onlyIn_ans ?_
    exact onlyIn_refl _ _

theorem frame_probeAll : ∀ a0 s, onlyIn [.free] s (probeAll a0 s).2 := by
  intro a0
  induction a0 with
  | nil => exact fun s => onlyIn_refl _ _
  | cons r rs ih => exact fun s => onlyIn_step (ih _) rfl (frame_freshBool s)

theorem frame_bodySelftest : ∀ a0 s, onlyIn [.mb, .pf, .ev, .out, .free] s (bodySelftest a0 s).1 := by
  intro a0 s
  unfold bodySelftest
  refine onlyIn_ite1 ?_ ?_
  · refine onlyIn_ans ?_
    exact onlyIn_refl _ _
  · refine onlyIn_ite1 ?_ ?_
    · refine onlyIn_ans ?_
      exact onlyIn_refl _ _
    · extract_lets +onlyGivenNames x0
      clear_value x0
      extract_lets +onlyGivenNames x1
      have h2 : onlyIn [.mb, .pf, .ev, .out, .free] s x1.2 := by
        dsimp only [x1]
        refine onlyIn_step (frame_probeAll _ _) rfl ?_
        exact onlyIn_refl _ _
      clear_value x1
      extract_lets +onlyGivenNames x3
      have h4 : onlyIn [.mb, .pf, .ev, .out, .free] s x3 := by
        dsimp only [x3]
        refine onlyIn_step (frame_updEv _ _) rfl ?_
        exact h2
      clear_value x3
      refine onlyIn_ans ?_
      refine onlyIn_fold _ _ (fun st5 a6 => ?_) ?_
      · refine onlyIn_step (frame_happen _ _ _ _) rfl ?_
        exact onlyIn_refl _ _
      · exact h4

theorem frame_injectionsFrame : ∀ s, onlyIn [.ev] s (injectionsFrame s) := by
  intro s
  unfold injectionsFrame
  refine onlyIn_step (frame_updEv _ _) rfl ?_
  exact onlyIn_refl _ _

theorem frame_execEventCompaction : ∀ s t, execEventCompaction s = .next t → onlyIn [.mc] s t := by
  intro s t h
  unfold execEventCompaction at h
  cases h
  refine onlyIn_ite ?_ ?_
  · refine onlyIn_step (frame_serve _ _) rfl ?_
    exact onlyIn_refl _ _
  · exact onlyIn_refl _ _

theorem frame_mramVerify : ∀ a0 s, onlyIn [.mb, .pf, .ev, .mc, .out] s (mramVerify a0 s) := by
  intro a0 s
  unfold mramVerify
  extract_lets +onlyGivenNames x0
  clear_value x0
  extract_lets +onlyGivenNames x1
  have h2 : onlyIn [.mb, .pf, .ev, .mc, .out] s x1 := by
    dsimp only [x1]
    refine onlyIn_ite ?_ ?_
    · exact onlyIn_refl _ _
    · refine onlyIn_step (onlyIn_put_mc _ _) rfl ?_
      exact onlyIn_refl _ _
  clear_value x1
  refine onlyIn_ite ?_ ?_
  · refine onlyIn_step (frame_happen _ _ _ _) rfl ?_
    exact h2
  · exact h2

theorem frame_writeOcc : ∀ a0 s, onlyIn [.mb, .pf, .ev, .out] s (writeOcc a0 s) := by
  intro a0 s
  unfold writeOcc
  split
  · refine onlyIn_step (frame_recChanged _ _) rfl ?_
    refine onlyIn_step (frame_updArea _ _ _) rfl ?_
    exact onlyIn_refl _ _
  · refine onlyIn_step (frame_newRec _ _) rfl ?_
    exact onlyIn_refl _ _

theorem frame_execSnapshotQueueWrite : ∀ a0 s t, execSnapshotQueueWrite a0 s = .next t → onlyIn [.mb, .pf, .ev, .mc, .out] s t := by
  intro a0 s t h
  unfold execSnapshotQueueWrite at h
  cases h
  refine onlyIn_ite ?_ ?_
  · split
    · refine onlyIn_step (frame_mramVerify _ _) rfl ?_
      refine onlyIn_step (frame_writeOcc _ _) rfl ?_
      refine onlyIn_step (frame_updEv _ _) rfl ?_
      exact onlyIn_refl _ _
    · exact onlyIn_refl _ _
  · exact onlyIn_refl _ _

theorem frame_execFixedRecordWrite : ∀ a0 s t, execFixedRecordWrite a0 s = .next t → onlyIn [.mb, .pf, .ev, .mc, .out] s t := by
  intro a0 s t h
  unfold execFixedRecordWrite at h
  cases h
  refine onlyIn_ite ?_ ?_
  · split
    · refine onlyIn_step (frame_mramVerify _ _) rfl ?_
      refine onlyIn_step (frame_writeOcc _ _) rfl ?_
      refine onlyIn_step (frame_updEv _ _) rfl ?_
      exact onlyIn_refl _ _
    · exact onlyIn_refl _ _
  · exact onlyIn_refl _ _

theorem frame_execInjectionEnd : ∀ a0 s t, execInjectionEnd a0 s = .next t → onlyIn [.ev] s t := by
  intro a0 s t h
  unfold execInjectionEnd at h
  cases h
  refine onlyIn_ite ?_ ?_
  · refine onlyIn_step (frame_endInjection _ _) rfl ?_
    exact onlyIn_refl _ _
  · exact onlyIn_refl _ _

theorem frame_execOpsecCount : ∀ s t, execOpsecCount s = .next t → onlyIn [.ev] s t := by
  intro s t h
  unfold execOpsecCount at h
  cases h
  refine onlyIn_ite ?_ ?_
  · extract_lets +onlyGivenNames x0
    clear_value x0
    refine onlyIn_step (frame_updEv _ _) rfl ?_
    exact onlyIn_refl _ _
  · exact onlyIn_refl _ _

end Sys2Proof.Machine
end

