-- ==== Sys2Proof/Laws/FrameIo.lean ====
section
/-!
SUPPORT. Laws/FrameIo.lean: the parts of the state that the definitions of Machine/Io.lean may change.
-/

namespace Sys2Proof.Machine

open Sys2Proof.Safety

theorem frame_updAin : ∀ a0 a1 s, onlyIn [.an] s (updAin a0 a1 s) := by
  intro a0 a1 s
  unfold updAin
  refine onlyIn_step (onlyIn_put_an _ _) rfl ?_
  exact onlyIn_refl _ _

theorem frame_ainCutoff : ∀ a0 a1 s, onlyIn [.mb, .pf, .ev, .an, .out] s (ainCutoff a0 a1 s) := by
  intro a0 a1 s
  unfold ainCutoff
  extract_lets +onlyGivenNames x0
  clear_value x0
  extract_lets +onlyGivenNames x1
  clear_value x1
  refine onlyIn_ite ?_ ?_
  · refine onlyIn_step (frame_detect _ _ _ _ _) rfl ?_
    refine onlyIn_step (frame_updAin _ _ _) rfl ?_
    exact onlyIn_refl _ _
  · refine onlyIn_ite ?_ ?_
    · exact onlyIn_refl _ _
    · extract_lets +onlyGivenNames x2
      clear_value x2
      extract_lets +onlyGivenNames x3
      clear_value x3
      extract_lets +onlyGivenNames x4
      clear_value x4
      extract_lets +onlyGivenNames x5
      clear_value x5
      extract_lets +onlyGivenNames x6
      have h7 : onlyIn [.mb, .pf, .ev, .an, .out] s x6 := by
        dsimp only [x6]
        refine onlyIn_step (frame_updAin _ _ _) rfl ?_
        exact onlyIn_refl _ _
      clear_value x6
      refine onlyIn_ite ?_ ?_
      · refine onlyIn_step (frame_detect _ _ _ _ _) rfl ?_
        exact h7
      · exact h7

theorem frame_bridgeCutoff : ∀ a0 a1 s, onlyIn [.mb, .pf, .ev, .out] s (bridgeCutoff a0 a1 s) := by
  intro a0 a1 s
  unfold bridgeCutoff
  refine onlyIn_ite ?_ ?_
  · exact onlyIn_refl _ _
  · extract_lets +onlyGivenNames x0
    clear_value x0
    refine onlyIn_step (frame_detect _ _ _ _ _) rfl ?_
    exact onlyIn_refl _ _

theorem frame_updFq : ∀ a0 a1 s, onlyIn [.an] s (updFq a0 a1 s) := by
  intro a0 a1 s
  unfold updFq
  refine onlyIn_step (onlyIn_put_an _ _) rfl ?_
  exact onlyIn_refl _ _

theorem frame_fqCutoff : ∀ a0 a1 s, onlyIn [.an] s (fqCutoff a0 a1 s) := by
  intro a0 a1 s
  unfold fqCutoff
  split
  · exact onlyIn_refl _ _
  · refine onlyIn_step (frame_updFq _ _ _) rfl ?_
    exact onlyIn_refl _ _

theorem frame_ioCutoff : ∀ a0 s, onlyIn [.mb, .pf, .ev, .gr, .an, .out] s (ioCutoff a0 s) := by
  intro a0 s
  unfold ioCutoff
  extract_lets +onlyGivenNames x0
  have h1 : onlyIn [.mb, .pf, .ev, .gr, .an, .out] s x0 := by
    dsimp only [x0]
    refine onlyIn_fold _ _ (fun st2 a3 => ?_) ?_
    · refine onlyIn_step (frame_ainCutoff _ _ _) rfl ?_
      exact onlyIn_refl _ _
    · exact onlyIn_refl _ _
  clear_value x0
  extract_lets +onlyGivenNames x4
  have h5 : onlyIn [.mb, .pf, .ev, .gr, .an, .out] s x4 := by
    dsimp only [x4]
    refine onlyIn_fold _ _ (fun st6 a7 => ?_) ?_
    · refine onlyIn_step (frame_fqCutoff _ _ _) rfl ?_
      exact onlyIn_refl _ _
    · exact h1
  clear_value x4
  extract_lets +onlyGivenNames x8
  have h9 : onlyIn [.mb, .pf, .ev, .gr, .an, .out] s x8 := by
    dsimp only [x8]
    refine onlyIn_fold _ _ (fun st10 a11 => ?_) ?_
    · refine onlyIn_step (frame_bridgeCutoff _ _ _) rfl ?_
      exact onlyIn_refl _ _
    · exact h5
  clear_value x8
  refine onlyIn_step (onlyIn_put_gr _ _) rfl ?_
  exact h9

theorem frame_execAinOutOfRange : ∀ a0 a1 a2 s t, execAinOutOfRange a0 a1 a2 s = .next t → onlyIn [.mb, .pf, .ev, .an, .out] s t := by
  intro a0 a1 a2 s t h
  unfold execAinOutOfRange at h
  extract_lets +onlyGivenNames x0 at h
  clear_value x0
  extract_lets +onlyGivenNames x1 at h
  clear_value x1
  extract_lets +onlyGivenNames x2 at h
  clear_value x2
  cases h
  refine onlyIn_ite ?_ ?_
  · exact onlyIn_refl _ _
  · refine onlyIn_ite ?_ ?_
    · refine onlyIn_step (frame_beginCond _ _ _ _) rfl ?_
      refine onlyIn_step (frame_updAin _ _ _) rfl ?_
      exact onlyIn_refl _ _
    · refine onlyIn_ite ?_ ?_
      · refine onlyIn_step (frame_beginCond _ _ _ _) rfl ?_
        exact onlyIn_refl _ _
      · exact onlyIn_refl _ _

theorem frame_execAinShuntReclose : ∀ a0 s t, execAinShuntReclose a0 s = .next t → onlyIn [.an] s t := by
  intro a0 s t h
  unfold execAinShuntReclose at h
  cases h
  split
  · refine onlyIn_ite ?_ ?_
    · refine onlyIn_step (frame_updAin _ _ _) rfl ?_
      exact onlyIn_refl _ _
    · exact onlyIn_refl _ _
  · exact onlyIn_refl _ _

theorem frame_execFqEdgeTimeout : ∀ a0 s t, execFqEdgeTimeout a0 s = .next t → onlyIn [.an] s t := by
  intro a0 s t h
  unfold execFqEdgeTimeout at h
  cases h
  refine onlyIn_ite ?_ ?_
  · refine onlyIn_step (frame_updFq _ _ _) rfl ?_
    exact onlyIn_refl _ _
  · exact onlyIn_refl _ _

theorem frame_execBridgeExcitationFault : ∀ a0 a1 a2 a3 s t, execBridgeExcitationFault a0 a1 a2 a3 s = .next t → onlyIn [.mb, .pf, .ev, .out] s t := by
  intro a0 a1 a2 a3 s t h
  unfold execBridgeExcitationFault at h
  cases h
  refine onlyIn_ite ?_ ?_
  · exact onlyIn_refl _ _
  · refine onlyIn_step (frame_detect _ _ _ _ _) rfl ?_
    exact onlyIn_refl _ _

end Sys2Proof.Machine
end

