-- ==== Sys2Proof/Laws/FrameLifecycle.lean ====
section
/-!
SUPPORT. Laws/FrameLifecycle.lean: the parts of the state that the definitions of Machine/Lifecycle.lean may change.
-/

namespace Sys2Proof.Machine

open Sys2Proof.Safety

theorem frame_applyStandbyEnter : ∀ a0 s, onlyIn [.mb, .pf, .ev, .gr, .qz, .vd, .ls, .an, .pw, .out, .free] s (applyStandbyEnter a0 s) := by
  intro a0 s
  unfold applyStandbyEnter
  extract_lets +onlyGivenNames x0
  clear_value x0
  extract_lets +onlyGivenNames x1
  have h2 : onlyIn [.mb, .pf, .ev, .gr, .qz, .vd, .ls, .an, .pw, .out, .free] s x1 := by
    dsimp only [x1]
    refine onlyIn_step (frame_closeAll _ _) rfl ?_
    refine onlyIn_step (frame_psGate _ _) rfl ?_
    refine onlyIn_step (frame_updGr _ _) rfl ?_
    refine onlyIn_step (frame_exchangeGone _) rfl ?_
    exact onlyIn_refl _ _
  clear_value x1
  extract_lets +onlyGivenNames x3
  clear_value x3
  extract_lets +onlyGivenNames x4
  clear_value x4
  extract_lets +onlyGivenNames x5
  have h6 : onlyIn [.mb, .pf, .ev, .gr, .qz, .vd, .ls, .an, .pw, .out, .free] s x5 := by
    dsimp only [x5]
    refine onlyIn_step (frame_quartzCopyCal _) rfl ?_
    refine onlyIn_step (onlyIn_put_ev_an _ _ _) rfl ?_
    exact h2
  clear_value x5
  extract_lets +onlyGivenNames x7
  have h8 : onlyIn [.mb, .pf, .ev, .gr, .qz, .vd, .ls, .an, .pw, .out, .free] s x7 := by
    dsimp only [x7]
    refine onlyIn_step (frame_updPw _ _) rfl ?_
    exact h6
  clear_value x7
  refine onlyIn_step (frame_rawEvent _ _ _ _) rfl ?_
  exact h8

theorem frame_bodyLifecycleGet : ∀ a0 s, onlyIn [] s (bodyLifecycleGet a0 s).1 := by
  intro a0 s
  unfold bodyLifecycleGet
  unfold emptyPayload
  try beta_reduce
  refine onlyIn_ite1 ?_ ?_
  · refine onlyIn_ans ?_
    exact onlyIn_refl _ _
  · refine onlyIn_ans ?_
    exact onlyIn_refl _ _

theorem frame_closeRole : ∀ a0 s, onlyIn [.mb, .pf, .ev, .out] s (closeRole a0 s) := by
  intro a0 s
  unfold closeRole
  refine onlyIn_fold _ _ (fun st0 a1 => ?_) ?_
  · refine onlyIn_step (frame_closeSession _ _ _) rfl ?_
    exact onlyIn_refl _ _
  · exact onlyIn_refl _ _

theorem frame_bodyLifecycleSetProvisionKey : ∀ a0 s, onlyIn [.mb, .pf, .ev, .rs, .out] s (bodyLifecycleSetProvisionKey a0 s).1 := by
  intro a0 s
  unfold bodyLifecycleSetProvisionKey
  unfold withOp
  try beta_reduce
  refine onlyIn_ite1 ?_ ?_
  · extract_lets +onlyGivenNames x0
    clear_value x0
    extract_lets +onlyGivenNames x1
    clear_value x1
    refine onlyIn_ite1 ?_ ?_
    · refine onlyIn_ans ?_
      exact onlyIn_refl _ _
    · refine onlyIn_ite1 ?_ ?_
      · refine onlyIn_ans ?_
        exact onlyIn_refl _ _
      · refine onlyIn_ite1 ?_ ?_
        · refine onlyIn_ans ?_
          refine onlyIn_step (frame_updRs _ _) rfl ?_
          exact onlyIn_refl _ _
        · extract_lets +onlyGivenNames x2
          have h3 : onlyIn [.mb, .pf, .ev, .rs, .out] s x2 := by
            dsimp only [x2]
            refine onlyIn_step (frame_updRs _ _) rfl ?_
            exact onlyIn_refl _ _
          clear_value x2
          refine onlyIn_pair1 ?_
          refine onlyIn_step (frame_closeRole _ _) rfl ?_
          refine onlyIn_step (frame_answer _ _ _ _) rfl ?_
          exact h3
  · refine onlyIn_ans ?_
    exact onlyIn_refl _ _

theorem frame_bodyLifecycleSetRevokeKey : ∀ a0 s, onlyIn [.rs] s (bodyLifecycleSetRevokeKey a0 s).1 := by
  intro a0 s
  unfold bodyLifecycleSetRevokeKey
  unfold withOp
  try beta_reduce
  refine onlyIn_ite1 ?_ ?_
  · extract_lets +onlyGivenNames x0
    clear_value x0
    extract_lets +onlyGivenNames x1
    clear_value x1
    extract_lets +onlyGivenNames x2
    clear_value x2
    refine onlyIn_ite1 ?_ ?_
    · refine onlyIn_ans ?_
      exact onlyIn_refl _ _
    · refine onlyIn_ite1 ?_ ?_
      · refine onlyIn_ite1 ?_ ?_
        · refine onlyIn_ans ?_
          refine onlyIn_step (frame_updRs _ _) rfl ?_
          exact onlyIn_refl _ _
        · refine onlyIn_ans ?_
          exact onlyIn_refl _ _
      · refine onlyIn_ite1 ?_ ?_
        · refine onlyIn_ans ?_
          refine onlyIn_step (frame_updRs _ _) rfl ?_
          exact onlyIn_refl _ _
        · refine onlyIn_ans ?_
          exact onlyIn_refl _ _
  · refine onlyIn_ans ?_
    exact onlyIn_refl _ _

theorem frame_bodyLifecycleSetTransition : ∀ a0 s, onlyIn [.clk, .mb, .pf, .ev, .gr, .qz, .cf, .vd, .ls, .gn, .fb, .cn, .mc, .up, .an, .rs, .pw, .sp, .out, .free] s (bodyLifecycleSetTransition a0 s).1 := by
  intro a0 s
  unfold bodyLifecycleSetTransition
  unfold withOp
  try beta_reduce
  refine onlyIn_ite1 ?_ ?_
  · extract_lets +onlyGivenNames x0
    clear_value x0
    extract_lets +onlyGivenNames x1
    clear_value x1
    extract_lets +onlyGivenNames x2
    clear_value x2
    extract_lets +onlyGivenNames x3
    clear_value x3
    refine onlyIn_ite1 ?_ ?_
    · refine onlyIn_ans ?_
      exact onlyIn_refl _ _
    · refine onlyIn_ite1 ?_ ?_
      · refine onlyIn_ans ?_
        exact onlyIn_refl _ _
      · refine onlyIn_ite1 ?_ ?_
        · refine onlyIn_ans ?_
          exact onlyIn_refl _ _
        · extract_lets +onlyGivenNames x4
          have h5 : onlyIn [.clk, .mb, .pf, .ev, .gr, .qz, .cf, .vd, .ls, .gn, .fb, .cn, .mc, .up, .an, .rs, .pw, .sp, .out, .free] s x4 := by
            dsimp only [x4]
            refine onlyIn_step (frame_closeAll _ _) rfl ?_
            refine onlyIn_step (frame_answer _ _ _ _) rfl ?_
            exact onlyIn_refl _ _
          clear_value x4
          extract_lets +onlyGivenNames x6
          have h7 : onlyIn [.clk, .mb, .pf, .ev, .gr, .qz, .cf, .vd, .ls, .gn, .fb, .cn, .mc, .up, .an, .rs, .pw, .sp, .out, .free] s x6 := by
            dsimp only [x6]
            refine onlyIn_ite ?_ ?_
            · refine onlyIn_fold _ _ (fun st8 a9 => ?_) ?_
              · refine onlyIn_step (frame_abortStaging _ _ _) rfl ?_
                exact onlyIn_refl _ _
              · exact h5
            · exact h5
          clear_value x6
          extract_lets +onlyGivenNames x10
          clear_value x10
          refine onlyIn_pair1 ?_
          refine onlyIn_step (frame_finishTransition _ _) rfl ?_
          refine onlyIn_step (frame_updRs _ _) rfl ?_
          exact h7
  · refine onlyIn_ans ?_
    exact onlyIn_refl _ _

theorem frame_bodyOwnerLockClear : ∀ a0 s, onlyIn [.mb, .pf, .ev, .rs, .out] s (bodyOwnerLockClear a0 s).1 := by
  intro a0 s
  unfold bodyOwnerLockClear
  unfold lockRequest
  try beta_reduce
  unfold withOp
  try beta_reduce
  refine onlyIn_ite1 ?_ ?_
  · refine onlyIn_ite1 ?_ ?_
    · refine onlyIn_ans ?_
      exact onlyIn_refl _ _
    · refine onlyIn_ite1 ?_ ?_
      · refine onlyIn_ans ?_
        exact onlyIn_refl _ _
      · extract_lets +onlyGivenNames x0
        have h1 : onlyIn [.mb, .pf, .ev, .rs, .out] s x0 := by
          dsimp only [x0]
          refine onlyIn_step (frame_rawEvent _ _ _ _) rfl ?_
          refine onlyIn_step (frame_updRs _ _) rfl ?_
          exact onlyIn_refl _ _
        clear_value x0
        refine onlyIn_ans ?_
        exact h1
  · refine onlyIn_ans ?_
    exact onlyIn_refl _ _

theorem frame_bodyOwnerLockPermitService : ∀ a0 s, onlyIn [.rs] s (bodyOwnerLockPermitService a0 s).1 := by
  intro a0 s
  unfold bodyOwnerLockPermitService
  unfold lockRequest
  try beta_reduce
  unfold withOp
  try beta_reduce
  refine onlyIn_ite1 ?_ ?_
  · refine onlyIn_ite1 ?_ ?_
    · refine onlyIn_ans ?_
      exact onlyIn_refl _ _
    · refine onlyIn_ite1 ?_ ?_
      · refine onlyIn_ans ?_
        exact onlyIn_refl _ _
      · extract_lets +onlyGivenNames x0
        have h1 : onlyIn [.rs] s x0 := by
          dsimp only [x0]
          refine onlyIn_step (frame_updRs _ _) rfl ?_
          exact onlyIn_refl _ _
        clear_value x0
        refine onlyIn_ans ?_
        exact h1
  · refine onlyIn_ans ?_
    exact onlyIn_refl _ _

theorem frame_bodyOwnerLockSet : ∀ a0 s, onlyIn [.mb, .pf, .ev, .rs, .out] s (bodyOwnerLockSet a0 s).1 := by
  intro a0 s
  unfold bodyOwnerLockSet
  unfold lockRequest
  try beta_reduce
  unfold withOp
  try beta_reduce
  refine onlyIn_ite1 ?_ ?_
  · refine onlyIn_ite1 ?_ ?_
    · refine onlyIn_ans ?_
      exact onlyIn_refl _ _
    · refine onlyIn_ite1 ?_ ?_
      · refine onlyIn_ans ?_
        exact onlyIn_refl _ _
      · extract_lets +onlyGivenNames x0
        have h1 : onlyIn [.mb, .pf, .ev, .rs, .out] s x0 := by
          dsimp only [x0]
          refine onlyIn_step (frame_endOemInjections _) rfl ?_
          refine onlyIn_step (frame_rawEvent _ _ _ _) rfl ?_
          refine onlyIn_step (frame_updRs _ _) rfl ?_
          exact onlyIn_refl _ _
        clear_value x0
        refine onlyIn_ans ?_
        exact h1
  · refine onlyIn_ans ?_
    exact onlyIn_refl _ _

theorem frame_bodyStatusGet : ∀ a0 s, onlyIn [] s (bodyStatusGet a0 s).1 := by
  intro a0 s
  unfold bodyStatusGet
  unfold emptyPayload
  try beta_reduce
  refine onlyIn_ite1 ?_ ?_
  · refine onlyIn_ans ?_
    exact onlyIn_refl _ _
  · refine onlyIn_ans ?_
    exact onlyIn_refl _ _

theorem frame_execPermitServiceExpiry : ∀ s t, execPermitServiceExpiry s = .next t → onlyIn [.rs] s t := by
  intro s t h
  unfold execPermitServiceExpiry at h
  cases h
  refine onlyIn_ite ?_ ?_
  · refine onlyIn_step (frame_updRs _ _) rfl ?_
    exact onlyIn_refl _ _
  · exact onlyIn_refl _ _

theorem frame_execStandbyDomainsOff : ∀ a0 s t, execStandbyDomainsOff a0 s = .next t → onlyIn [.clk, .mb, .pf, .ev, .gr, .qz, .cf, .vd, .ls, .gn, .fb, .cn, .mc, .up, .an, .rs, .pw, .sp, .out, .free] s t := by
  intro a0 s t h
  unfold execStandbyDomainsOff at h
  cases h
  refine onlyIn_ite ?_ ?_
  · extract_lets +onlyGivenNames x0
    have h1 : onlyIn [.clk, .mb, .pf, .ev, .gr, .qz, .cf, .vd, .ls, .gn, .fb, .cn, .mc, .up, .an, .rs, .pw, .sp, .out, .free] s x0 := by
      dsimp only [x0]
      refine onlyIn_step (frame_micaOff _) rfl ?_
      refine onlyIn_step (frame_assertSource _ _ _ _) rfl ?_
      exact onlyIn_refl _ _
    clear_value x0
    refine onlyIn_step (frame_updPw _ _) rfl ?_
    exact h1
  · exact onlyIn_refl _ _

theorem frame_execStandbyWake : ∀ a0 a1 a2 s t, execStandbyWake a0 a1 a2 s = .next t → onlyIn [.mb, .ev, .rs, .pw, .sp] s t := by
  intro a0 a1 a2 s t h
  unfold execStandbyWake at h
  cases h
  extract_lets +onlyGivenNames x0
  clear_value x0
  extract_lets +onlyGivenNames x1
  have h2 : onlyIn [.mb, .ev, .rs, .pw, .sp] s x1 := by
    dsimp only [x1]
    refine onlyIn_ite ?_ ?_
    · refine onlyIn_step (frame_updPw _ _) rfl ?_
      exact onlyIn_refl _ _
    · exact onlyIn_refl _ _
  clear_value x1
  split
  · refine onlyIn_ite ?_ ?_
    · extract_lets +onlyGivenNames x3
      have h4 : onlyIn [.mb, .ev, .rs, .pw, .sp] s x3 := by
        dsimp only [x3]
        refine onlyIn_step (frame_updPw _ _) rfl ?_
        exact h2
      clear_value x3
      refine onlyIn_step (frame_proceed _) rfl ?_
      refine onlyIn_step (frame_updRs _ _) rfl ?_
      exact h4
    · exact h2
  · exact h2

end Sys2Proof.Machine
end

