-- ==== Sys2Proof/Laws/FrameMailbox.lean ====
section
/-!
SUPPORT. Laws/FrameMailbox.lean: the parts of the state that the definitions of Machine/Mailbox.lean may change.
-/

namespace Sys2Proof.Machine

open Sys2Proof.Safety

theorem frame_updMb : ∀ a0 s, onlyIn [.mb] s (updMb a0 s) := by
  intro a0 s
  unfold updMb
  refine onlyIn_step (onlyIn_put_mb _ _) rfl ?_
  exact onlyIn_refl _ _

theorem frame_setFate : ∀ a0 a1 s, onlyIn [.mb] s (setFate a0 a1 s) := by
  intro a0 a1 s
  unfold setFate
  refine onlyIn_step (frame_updMb _ _) rfl ?_
  exact onlyIn_refl _ _

theorem frame_updSec : ∀ a0 a1 s, onlyIn [.mb] s (updSec a0 a1 s) := by
  intro a0 a1 s
  unfold updSec
  refine onlyIn_step (frame_updMb _ _) rfl ?_
  exact onlyIn_refl _ _

theorem frame_secEnter : ∀ a0 a1 s, onlyIn [.mb, .pf, .ev, .out] s (secEnter a0 a1 s) := by
  intro a0 a1 s
  unfold secEnter
  extract_lets +onlyGivenNames x0
  clear_value x0
  refine onlyIn_step (frame_raise _ _ _ _ _) rfl ?_
  refine onlyIn_ite ?_ ?_
  · exact onlyIn_refl _ _
  · refine onlyIn_step (onlyIn_put_ev _ _) rfl ?_
    exact onlyIn_refl _ _

theorem frame_lockOut : ∀ a0 s, onlyIn [.mb, .pf, .ev, .out] s (lockOut a0 s) := by
  intro a0 s
  unfold lockOut
  refine onlyIn_step (frame_secEnter _ _ _) rfl ?_
  refine onlyIn_step (frame_updMb _ _) rfl ?_
  refine onlyIn_step (frame_updSec _ _ _) rfl ?_
  exact onlyIn_refl _ _

theorem frame_authFail : ∀ a0 a1 s, onlyIn [.mb, .pf, .ev, .out] s (authFail a0 a1 s) := by
  intro a0 a1 s
  unfold authFail
  extract_lets +onlyGivenNames x0
  clear_value x0
  extract_lets +onlyGivenNames x1
  have h2 : onlyIn [.mb, .pf, .ev, .out] s x1 := by
    dsimp only [x1]
    refine onlyIn_step (frame_updSec _ _ _) rfl ?_
    refine onlyIn_step (frame_updMb _ _) rfl ?_
    exact onlyIn_refl _ _
  clear_value x1
  extract_lets +onlyGivenNames x3
  clear_value x3
  extract_lets +onlyGivenNames x4
  have h5 : onlyIn [.mb, .pf, .ev, .out] s x4 := by
    dsimp only [x4]
    refine onlyIn_ite ?_ ?_
    · refine onlyIn_step (frame_secEnter _ _ _) rfl ?_
      refine onlyIn_step (frame_updSec _ _ _) rfl ?_
      exact h2
    · exact h2
  clear_value x4
  refine onlyIn_ite ?_ ?_
  · refine onlyIn_step (frame_lockOut _ _) rfl ?_
    exact h5
  · exact h5

theorem frame_outerFlow : ∀ a0 a1 s, onlyIn [.mb] s (outerFlow a0 a1 s).2 := by
  intro a0 a1 s
  unfold outerFlow
  split
  · refine onlyIn_pair2 ?_
    refine onlyIn_step (frame_updMb _ _) rfl ?_
    exact onlyIn_refl _ _
  · extract_lets +onlyGivenNames x0
    clear_value x0
    refine onlyIn_pair2 ?_
    refine onlyIn_step (frame_updMb _ _) rfl ?_
    exact onlyIn_refl _ _

theorem frame_bodyFbRelay : ∀ a0 s, onlyIn [.mb, .fb] s (bodyFbRelay a0 s).1 := by
  intro a0 s
  unfold bodyFbRelay
  extract_lets +onlyGivenNames x0
  clear_value x0
  extract_lets +onlyGivenNames x1
  clear_value x1
  refine onlyIn_ite1 ?_ ?_
  · refine onlyIn_ans ?_
    exact onlyIn_refl _ _
  · split
    · refine onlyIn_ans ?_
      exact onlyIn_refl _ _
    · refine onlyIn_ite1 ?_ ?_
      · refine onlyIn_ans ?_
        exact onlyIn_refl _ _
      · extract_lets +onlyGivenNames x2
        have h3 : onlyIn [.mb, .fb] s x2.2 := by
          dsimp only [x2]
          refine onlyIn_step (frame_outerFlow _ _ _) rfl ?_
          exact onlyIn_refl _ _
        clear_value x2
        extract_lets +onlyGivenNames x4
        have h5 : onlyIn [.mb, .fb] s x4.1 := by
          dsimp only [x4]
          refine onlyIn_step (frame_skimSend _ _ _ _ _) rfl ?_
          exact h3
        clear_value x4
        refine onlyIn_ite1 ?_ ?_
        · extract_lets +onlyGivenNames x6
          clear_value x6
          refine onlyIn_pair1 ?_
          refine onlyIn_step (frame_updMb _ _) rfl ?_
          exact h5
        · refine onlyIn_ans ?_
          exact onlyIn_refl _ _

theorem frame_bodyIdent : ∀ a0 s, onlyIn [] s (bodyIdent a0 s).1 := by
  intro a0 s
  unfold bodyIdent
  unfold emptyPayload
  try beta_reduce
  refine onlyIn_ite1 ?_ ?_
  · refine onlyIn_ans ?_
    exact onlyIn_refl _ _
  · refine onlyIn_ans ?_
    exact onlyIn_refl _ _

theorem frame_withdraw : ∀ a0 s, onlyIn [.mb, .pf, .ev, .cn, .pw] s (withdraw a0 s) := by
  intro a0 s
  unfold withdraw
  extract_lets +onlyGivenNames x0
  have h1 : onlyIn [.mb, .pf, .ev, .cn, .pw] s x0 := by
    dsimp only [x0]
    refine onlyIn_step (frame_dropSelection _ _) rfl ?_
    refine onlyIn_step (frame_setFate _ _ _) rfl ?_
    refine onlyIn_step (frame_updMb _ _) rfl ?_
    exact onlyIn_refl _ _
  clear_value x0
  extract_lets +onlyGivenNames x2
  clear_value x2
  extract_lets +onlyGivenNames x3
  have h4 : onlyIn [.mb, .pf, .ev, .cn, .pw] s x3 := by
    dsimp only [x3]
    refine onlyIn_step (onlyIn_put_cn _ _) rfl ?_
    exact h1
  clear_value x3
  refine onlyIn_ite ?_ ?_
  · refine onlyIn_step (onlyIn_put_ev _ _) rfl ?_
    exact h4
  · refine onlyIn_ite ?_ ?_
    · refine onlyIn_step (onlyIn_put_pw _ _) rfl ?_
      exact h4
    · exact h4

theorem frame_bodyPendingCancel : ∀ a0 s, onlyIn [.mb, .pf, .ev, .cn, .pw] s (bodyPendingCancel a0 s).1 := by
  intro a0 s
  unfold bodyPendingCancel
  extract_lets +onlyGivenNames x0
  clear_value x0
  extract_lets +onlyGivenNames x1
  clear_value x1
  extract_lets +onlyGivenNames x2
  clear_value x2
  extract_lets +onlyGivenNames x3
  clear_value x3
  refine onlyIn_ite1 ?_ ?_
  · refine onlyIn_ans ?_
    exact onlyIn_refl _ _
  · refine onlyIn_ite1 ?_ ?_
    · refine onlyIn_ans ?_
      exact onlyIn_refl _ _
    · refine onlyIn_ite1 ?_ ?_
      · refine onlyIn_ans ?_
        exact onlyIn_refl _ _
      · split
        · refine onlyIn_ite1 ?_ ?_
          · refine onlyIn_ans ?_
            refine onlyIn_step (frame_withdraw _ _) rfl ?_
            exact onlyIn_refl _ _
          · refine onlyIn_ans ?_
            exact onlyIn_refl _ _
        · split
          · refine onlyIn_ite1 ?_ ?_
            · refine onlyIn_ans ?_
              exact onlyIn_refl _ _
            · refine onlyIn_ans ?_
              exact onlyIn_refl _ _
          · refine onlyIn_ans ?_
            exact onlyIn_refl _ _

theorem frame_bodyPendingList : ∀ a0 s, onlyIn [] s (bodyPendingList a0 s).1 := by
  intro a0 s
  unfold bodyPendingList
  extract_lets +onlyGivenNames x0
  clear_value x0
  extract_lets +onlyGivenNames x1
  clear_value x1
  refine onlyIn_ite1 ?_ ?_
  · refine onlyIn_ans ?_
    exact onlyIn_refl _ _
  · extract_lets +onlyGivenNames x2
    clear_value x2
    refine onlyIn_ans ?_
    exact onlyIn_refl _ _

theorem frame_bodyPing : ∀ a0 s, onlyIn [] s (bodyPing a0 s).1 := by
  intro a0 s
  unfold bodyPing
  refine onlyIn_ite1 ?_ ?_
  · refine onlyIn_ans ?_
    exact onlyIn_refl _ _
  · refine onlyIn_ans ?_
    exact onlyIn_refl _ _

theorem frame_bodySessionClose : ∀ a0 s, onlyIn [.mb, .pf, .ev, .out] s (bodySessionClose a0 s).1 := by
  intro a0 s
  unfold bodySessionClose
  unfold emptyPayload
  try beta_reduce
  refine onlyIn_ite1 ?_ ?_
  · refine onlyIn_pair1 ?_
    refine onlyIn_step (frame_dropSession _ _) rfl ?_
    refine onlyIn_step (frame_answer _ _ _ _) rfl ?_
    exact onlyIn_refl _ _
  · refine onlyIn_ans ?_
    exact onlyIn_refl _ _

theorem frame_bodySessionList : ∀ a0 s, onlyIn [] s (bodySessionList a0 s).1 := by
  intro a0 s
  unfold bodySessionList
  unfold emptyPayload
  try beta_reduce
  refine onlyIn_ite1 ?_ ?_
  · refine onlyIn_ans ?_
    exact onlyIn_refl _ _
  · refine onlyIn_ans ?_
    exact onlyIn_refl _ _

theorem frame_epochRoll : ∀ s, onlyIn [.mb, .pf, .ev, .out] s (epochRoll s) := by
  intro s
  unfold epochRoll
  refine onlyIn_step (frame_updMb _ _) rfl ?_
  refine onlyIn_step (frame_closeAll _ _) rfl ?_
  exact onlyIn_refl _ _

theorem frame_openHalf : ∀ a0 a1 a2 a3 s, onlyIn [.mb, .free] s (openHalf a0 a1 a2 a3 s).1 := by
  intro a0 a1 a2 a3 s
  unfold openHalf
  extract_lets +onlyGivenNames x0
  have h1 : onlyIn [.mb, .free] s x0.2 := by
    dsimp only [x0]
    refine onlyIn_step (frame_freshBytes _ _) rfl ?_
    exact onlyIn_refl _ _
  clear_value x0
  extract_lets +onlyGivenNames x2
  clear_value x2
  extract_lets +onlyGivenNames x3
  clear_value x3
  extract_lets +onlyGivenNames x4
  clear_value x4
  extract_lets +onlyGivenNames x5
  clear_value x5
  refine onlyIn_ans ?_
  refine onlyIn_step (frame_updMb _ _) rfl ?_
  exact h1

theorem frame_bodySessionOpen : ∀ a0 s, onlyIn [.mb, .pf, .ev, .out, .free] s (bodySessionOpen a0 s).1 := by
  intro a0 s
  unfold bodySessionOpen
  extract_lets +onlyGivenNames x0
  clear_value x0
  extract_lets +onlyGivenNames x1
  clear_value x1
  refine onlyIn_ite1 ?_ ?_
  · refine onlyIn_ans ?_
    exact onlyIn_refl _ _
  · extract_lets +onlyGivenNames x2
    have h3 : onlyIn [.mb, .pf, .ev, .out, .free] s x2 := by
      dsimp only [x2]
      refine onlyIn_ite ?_ ?_
      · refine onlyIn_step (frame_lockOut _ _) rfl ?_
        exact onlyIn_refl _ _
      · exact onlyIn_refl _ _
    clear_value x2
    split
    · refine onlyIn_ans ?_
      exact h3
    · refine onlyIn_ite1 ?_ ?_
      · refine onlyIn_ans ?_
        exact h3
      · refine onlyIn_ite1 ?_ ?_
        · refine onlyIn_ans ?_
          refine onlyIn_step (frame_epochRoll _) rfl ?_
          exact h3
        · refine onlyIn_ite1 ?_ ?_
          · refine onlyIn_ans ?_
            exact h3
          · refine onlyIn_step (frame_openHalf _ _ _ _ _) rfl ?_
            exact h3

theorem frame_bodySessionProve : ∀ a0 s, onlyIn [.mb] s (bodySessionProve a0 s).1 := by
  intro a0 s
  unfold bodySessionProve
  unfold emptyPayload
  try beta_reduce
  refine onlyIn_ite1 ?_ ?_
  · refine onlyIn_ite1 ?_ ?_
    · refine onlyIn_ans ?_
      refine onlyIn_step (frame_updSess _ _ _) rfl ?_
      exact onlyIn_refl _ _
    · refine onlyIn_ans ?_
      exact onlyIn_refl _ _
  · refine onlyIn_ans ?_
    exact onlyIn_refl _ _

theorem frame_bodySubscribe : ∀ a0 s, onlyIn [.mb] s (bodySubscribe a0 s).1 := by
  intro a0 s
  unfold bodySubscribe
  extract_lets +onlyGivenNames x0
  clear_value x0
  extract_lets +onlyGivenNames x1
  clear_value x1
  extract_lets +onlyGivenNames x2
  clear_value x2
  extract_lets +onlyGivenNames x3
  clear_value x3
  refine onlyIn_ite1 ?_ ?_
  · refine onlyIn_ans ?_
    exact onlyIn_refl _ _
  · extract_lets +onlyGivenNames x4
    clear_value x4
    extract_lets +onlyGivenNames x5
    clear_value x5
    refine onlyIn_ite1 ?_ ?_
    · refine onlyIn_ans ?_
      refine onlyIn_step (frame_updSub _ _ _ _ _) rfl ?_
      exact onlyIn_refl _ _
    · refine onlyIn_ite1 ?_ ?_
      · refine onlyIn_ans ?_
        exact onlyIn_refl _ _
      · refine onlyIn_ans ?_
        refine onlyIn_step (frame_updSess _ _ _) rfl ?_
        exact onlyIn_refl _ _

theorem frame_bodyUnsubscribe : ∀ a0 s, onlyIn [.mb] s (bodyUnsubscribe a0 s).1 := by
  intro a0 s
  unfold bodyUnsubscribe
  extract_lets +onlyGivenNames x0
  clear_value x0
  extract_lets +onlyGivenNames x1
  clear_value x1
  refine onlyIn_ite1 ?_ ?_
  · refine onlyIn_ans ?_
    exact onlyIn_refl _ _
  · extract_lets +onlyGivenNames x2
    clear_value x2
    extract_lets +onlyGivenNames x3
    clear_value x3
    refine onlyIn_ans ?_
    refine onlyIn_step (frame_updSess _ _ _) rfl ?_
    exact onlyIn_refl _ _

theorem frame_countDiscarded : ∀ s, onlyIn [.mb] s (countDiscarded s) := by
  intro s
  unfold countDiscarded
  refine onlyIn_step (frame_updMb _ _) rfl ?_
  exact onlyIn_refl _ _

theorem frame_countMalformed : ∀ s, onlyIn [.mb] s (countMalformed s) := by
  intro s
  unfold countMalformed
  refine onlyIn_step (frame_updMb _ _) rfl ?_
  exact onlyIn_refl _ _

theorem frame_dropHeld : ∀ a0 s, onlyIn [.mb, .pf, .ev, .out] s (dropHeld a0 s) := by
  intro a0 s
  unfold dropHeld
  split
  · refine onlyIn_step (frame_sendNote _ _ _ _) rfl ?_
    refine onlyIn_step (frame_updSess _ _ _) rfl ?_
    exact onlyIn_refl _ _
  · exact onlyIn_refl _ _

theorem frame_execFragmentAssemblyTimeout : ∀ s t, execFragmentAssemblyTimeout s = .next t → onlyIn [.mb] s t := by
  intro s t h
  unfold execFragmentAssemblyTimeout at h
  extract_lets +onlyGivenNames x0 at h
  clear_value x0
  extract_lets +onlyGivenNames x1 at h
  clear_value x1
  extract_lets +onlyGivenNames x2 at h
  clear_value x2
  cases h
  refine onlyIn_ite ?_ ?_
  · refine onlyIn_step (frame_updMb _ _) rfl ?_
    exact onlyIn_refl _ _
  · exact onlyIn_refl _ _

theorem frame_secLeave : ∀ a0 a1 s, onlyIn [.mb, .pf, .ev, .out] s (secLeave a0 a1 s) := by
  intro a0 a1 s
  unfold secLeave
  extract_lets +onlyGivenNames x0
  clear_value x0
  extract_lets +onlyGivenNames x1
  clear_value x1
  extract_lets +onlyGivenNames x2
  clear_value x2
  refine onlyIn_fold _ _ (fun st3 a4 => ?_) ?_
  · refine onlyIn_step (frame_recChanged _ _) rfl ?_
    exact onlyIn_refl _ _
  · refine onlyIn_step (onlyIn_put_ev _ _) rfl ?_
    exact onlyIn_refl _ _

theorem frame_execLockoutExpiry : ∀ s t, execLockoutExpiry s = .next t → onlyIn [.mb, .pf, .ev, .out] s t := by
  intro s t h
  unfold execLockoutExpiry at h
  extract_lets +onlyGivenNames x0 at h
  clear_value x0
  cases h
  refine onlyIn_ite ?_ ?_
  · extract_lets +onlyGivenNames x1
    have h2 : onlyIn [.mb, .pf, .ev, .out] s x1 := by
      dsimp only [x1]
      refine onlyIn_step (frame_updMb _ _) rfl ?_
      exact onlyIn_refl _ _
    clear_value x1
    refine onlyIn_step (frame_secLeave _ _ _) rfl ?_
    exact h2
  · exact onlyIn_refl _ _

theorem frame_execAuthBurstEnd : ∀ s t, execAuthBurstEnd s = .next t → onlyIn [.mb, .pf, .ev, .out] s t := by
  intro s t h
  unfold execAuthBurstEnd at h
  extract_lets +onlyGivenNames x0 at h
  clear_value x0
  cases h
  refine onlyIn_ite ?_ ?_
  · extract_lets +onlyGivenNames x1
    have h2 : onlyIn [.mb, .pf, .ev, .out] s x1 := by
      dsimp only [x1]
      refine onlyIn_step (frame_updMb _ _) rfl ?_
      exact onlyIn_refl _ _
    clear_value x1
    refine onlyIn_step (frame_secLeave _ _ _) rfl ?_
    exact h2
  · exact onlyIn_refl _ _

theorem frame_execHalfOpenTimeout : ∀ s t, execHalfOpenTimeout s = .next t → onlyIn [.mb, .pf, .ev] s t := by
  intro s t h
  unfold execHalfOpenTimeout at h
  cases h
  refine onlyIn_ite ?_ ?_
  · refine onlyIn_fold _ _ (fun st0 a1 => ?_) ?_
    · refine onlyIn_step (frame_dropSession _ _) rfl ?_
      exact onlyIn_refl _ _
    · exact onlyIn_refl _ _
  · exact onlyIn_refl _ _

theorem frame_execReorderHoldExpiry : ∀ s t, execReorderHoldExpiry s = .next t → onlyIn [.mb, .pf, .ev, .out] s t := by
  intro s t h
  unfold execReorderHoldExpiry at h
  extract_lets +onlyGivenNames x0 at h
  clear_value x0
  cases h
  refine onlyIn_ite ?_ ?_
  · refine onlyIn_fold _ _ (fun st1 a2 => ?_) ?_
    · refine onlyIn_step (frame_dropHeld _ _) rfl ?_
      exact onlyIn_refl _ _
    · refine onlyIn_step (frame_updMb _ _) rfl ?_
      exact onlyIn_refl _ _
  · exact onlyIn_refl _ _

theorem frame_execSessionTimeout : ∀ s t, execSessionTimeout s = .next t → onlyIn [.mb, .pf, .ev, .out] s t := by
  intro s t h
  unfold execSessionTimeout at h
  cases h
  refine onlyIn_ite ?_ ?_
  · refine onlyIn_fold _ _ (fun st0 a1 => ?_) ?_
    · refine onlyIn_step (frame_closeSession _ _ _) rfl ?_
      exact onlyIn_refl _ _
    · exact onlyIn_refl _ _
  · exact onlyIn_refl _ _

theorem frame_execSession0BindingForget : ∀ s t, execSession0BindingForget s = .next t → onlyIn [.mb] s t := by
  intro s t h
  unfold execSession0BindingForget at h
  cases h
  refine onlyIn_ite ?_ ?_
  · refine onlyIn_step (frame_updMb _ _) rfl ?_
    exact onlyIn_refl _ _
  · exact onlyIn_refl _ _

theorem frame_execNotifyIntervalExpiry : ∀ s t, execNotifyIntervalExpiry s = .next t → onlyIn [.mb, .pf, .ev, .out] s t := by
  intro s t h
  unfold execNotifyIntervalExpiry at h
  cases h
  refine onlyIn_ite ?_ ?_
  · refine onlyIn_fold _ _ (fun st0 a1 => ?_) ?_
    · refine onlyIn_fold _ _ (fun st2 a3 => ?_) ?_
      · refine onlyIn_step (frame_flushSub _ _ _ _) rfl ?_
        exact onlyIn_refl _ _
      · exact onlyIn_refl _ _
    · exact onlyIn_refl _ _
  · exact onlyIn_refl _ _

theorem frame_innerResponse : ∀ a0 a1 a2 s, onlyIn [.mb, .out] s (innerResponse a0 a1 a2 s) := by
  intro a0 a1 a2 s
  unfold innerResponse
  split
  · exact onlyIn_refl _ _
  · split
    · exact onlyIn_refl _ _
    · extract_lets +onlyGivenNames x0
      clear_value x0
      refine onlyIn_ite ?_ ?_
      · refine onlyIn_step (frame_updMb _ _) rfl ?_
        exact onlyIn_refl _ _
      · refine onlyIn_step (frame_resolve _ _ _ _) rfl ?_
        refine onlyIn_step (frame_updMb _ _) rfl ?_
        exact onlyIn_refl _ _

theorem frame_execRelayInnerResponse : ∀ a0 a1 a2 s t, execRelayInnerResponse a0 a1 a2 s = .next t → onlyIn [.mb, .out] s t := by
  intro a0 a1 a2 s t h
  unfold execRelayInnerResponse at h
  cases h
  refine onlyIn_ite ?_ ?_
  · refine onlyIn_step (frame_innerResponse _ _ _ _) rfl ?_
    exact onlyIn_refl _ _
  · exact onlyIn_refl _ _

theorem frame_execRelayTimeout : ∀ s t, execRelayTimeout s = .next t → onlyIn [.mb, .out] s t := by
  intro s t h
  unfold execRelayTimeout at h
  cases h
  refine onlyIn_ite ?_ ?_
  · refine onlyIn_fold _ _ (fun st0 a1 => ?_) ?_
    · refine onlyIn_step (frame_resolve _ _ _ _) rfl ?_
      refine onlyIn_step (frame_updMb _ _) rfl ?_
      exact onlyIn_refl _ _
    · exact onlyIn_refl _ _
  · exact onlyIn_refl _ _

theorem frame_relayedNote : ∀ a0 a1 s, onlyIn [.mb, .pf, .ev, .out] s (relayedNote a0 a1 s) := by
  intro a0 a1 s
  unfold relayedNote
  split
  · split
    · refine onlyIn_ite ?_ ?_
      · refine onlyIn_step (frame_sendNote _ _ _ _) rfl ?_
        exact onlyIn_refl _ _
      · exact onlyIn_refl _ _
    · refine onlyIn_ite ?_ ?_
      · refine onlyIn_step (frame_send _ _) rfl ?_
        refine onlyIn_step (frame_updChan _ _ _ _) rfl ?_
        exact onlyIn_refl _ _
      · exact onlyIn_refl _ _
  · exact onlyIn_refl _ _

theorem frame_execRelayedNotify : ∀ a0 a1 a2 s t, execRelayedNotify a0 a1 a2 s = .next t → onlyIn [.mb, .pf, .ev, .out] s t := by
  intro a0 a1 a2 s t h
  unfold execRelayedNotify at h
  cases h
  refine onlyIn_ite ?_ ?_
  · refine onlyIn_step (frame_relayedNote _ _ _) rfl ?_
    exact onlyIn_refl _ _
  · exact onlyIn_refl _ _

theorem frame_execModuleSettingDurable : ∀ s t, execModuleSettingDurable s = .next t → onlyIn [.pf] s t := by
  intro s t h
  unfold execModuleSettingDurable at h
  cases h
  refine onlyIn_ite ?_ ?_
  · refine onlyIn_step (frame_updPf _ _) rfl ?_
    exact onlyIn_refl _ _
  · exact onlyIn_refl _ _

theorem frame_fabricPump : ∀ s, onlyIn [.fb] s (fabricPump s) := by
  intro s
  unfold fabricPump
  extract_lets +onlyGivenNames x0
  clear_value x0
  refine onlyIn_fold _ _ (fun st1 a2 => ?_) ?_
  · refine onlyIn_step (frame_skimSend _ _ _ _ _) rfl ?_
    exact onlyIn_refl _ _
  · refine onlyIn_step (frame_updFb _ _) rfl ?_
    exact onlyIn_refl _ _

end Sys2Proof.Machine
end

