-- ==== Sys2Proof/Laws/FrameParamCmd.lean ====
section
/-!
SUPPORT. Laws/FrameParamCmd.lean: the parts of the state that the definitions of Machine/ParamCmd.lean may change.
-/

namespace Sys2Proof.Machine

open Sys2Proof.Safety

theorem frame_vdModes : ∀ s, onlyIn [.vd] s (vdModes s) := by
  intro s
  unfold vdModes
  refine onlyIn_fold _ _ (fun st0 a1 => ?_) ?_
  · refine onlyIn_step (frame_updVd _ _ _) rfl ?_
    exact onlyIn_refl _ _
  · exact onlyIn_refl _ _

theorem frame_paramsChanged : ∀ a0 s, onlyIn [.mb, .pf, .ev, .qz, .cf, .vd, .cn, .pw, .out] s (paramsChanged a0 s) := by
  intro a0 s
  unfold paramsChanged
  extract_lets +onlyGivenNames x0
  have h1 : onlyIn [.mb, .pf, .ev, .qz, .cf, .vd, .cn, .pw, .out] s x0 := by
    dsimp only [x0]
    refine onlyIn_fold _ _ (fun st2 a3 => ?_) ?_
    · refine onlyIn_step (frame_canParamChanged _ _) rfl ?_
      exact onlyIn_refl _ _
    · exact onlyIn_refl _ _
  clear_value x0
  extract_lets +onlyGivenNames x4
  have h5 : onlyIn [.mb, .pf, .ev, .qz, .cf, .vd, .cn, .pw, .out] s x4 := by
    dsimp only [x4]
    refine onlyIn_step (frame_quartzApply _) rfl ?_
    refine onlyIn_step (frame_supApply _) rfl ?_
    exact h1
  clear_value x4
  extract_lets +onlyGivenNames x6
  have h7 : onlyIn [.mb, .pf, .ev, .qz, .cf, .vd, .cn, .pw, .out] s x6 := by
    dsimp only [x6]
    refine onlyIn_ite ?_ ?_
    · refine onlyIn_step (frame_clearGroups _) rfl ?_
      exact h5
    · exact h5
  clear_value x6
  refine onlyIn_ite ?_ ?_
  · refine onlyIn_step (frame_vdModes _) rfl ?_
    exact h7
  · exact h7

theorem frame_applyParamSet : ∀ a0 s, onlyIn [.mb, .pf, .ev, .qz, .cf, .vd, .cn, .pw, .out] s (applyParamSet a0 s) := by
  intro a0 s
  unfold applyParamSet
  extract_lets +onlyGivenNames x0
  clear_value x0
  extract_lets +onlyGivenNames x1
  clear_value x1
  extract_lets +onlyGivenNames x2
  clear_value x2
  extract_lets +onlyGivenNames x3
  have h4 : onlyIn [.mb, .pf, .ev, .qz, .cf, .vd, .cn, .pw, .out] s x3 := by
    dsimp only [x3]
    refine onlyIn_step (frame_setWork _ _) rfl ?_
    exact onlyIn_refl _ _
  clear_value x3
  extract_lets +onlyGivenNames x5
  have h6 : onlyIn [.mb, .pf, .ev, .qz, .cf, .vd, .cn, .pw, .out] s x5 := by
    dsimp only [x5]
    refine onlyIn_ite ?_ ?_
    · exact h4
    · refine onlyIn_step (frame_writeSettings _ _) rfl ?_
      exact h4
  clear_value x5
  extract_lets +onlyGivenNames x7
  have h8 : onlyIn [.mb, .pf, .ev, .qz, .cf, .vd, .cn, .pw, .out] s x7 := by
    dsimp only [x7]
    refine onlyIn_ite ?_ ?_
    · exact h6
    · refine onlyIn_step (frame_updPf _ _) rfl ?_
      exact h6
  clear_value x7
  extract_lets +onlyGivenNames x9
  have h10 : onlyIn [.mb, .pf, .ev, .qz, .cf, .vd, .cn, .pw, .out] s x9 := by
    dsimp only [x9]
    refine onlyIn_step (frame_paramsChanged _ _) rfl ?_
    exact h8
  clear_value x9
  refine onlyIn_ite ?_ ?_
  · refine onlyIn_step (frame_endOemInjections _) rfl ?_
    exact h10
  · exact h10

theorem frame_bodyParamGet : ∀ a0 s, onlyIn [] s (bodyParamGet a0 s).1 := by
  intro a0 s
  unfold bodyParamGet
  extract_lets +onlyGivenNames x0
  clear_value x0
  extract_lets +onlyGivenNames x1
  clear_value x1
  refine onlyIn_ite1 ?_ ?_
  · refine onlyIn_ans ?_
    exact onlyIn_refl _ _
  · refine onlyIn_ans ?_
    exact onlyIn_refl _ _

theorem frame_bodyParamInfo : ∀ a0 s, onlyIn [] s (bodyParamInfo a0 s).1 := by
  intro a0 s
  unfold bodyParamInfo
  extract_lets +onlyGivenNames x0
  clear_value x0
  extract_lets +onlyGivenNames x1
  dsimp only [x1]
  clear x1
  refine onlyIn_ite1 ?_ ?_
  · refine onlyIn_ans ?_
    exact onlyIn_refl _ _
  · split
    · refine onlyIn_ans ?_
      exact onlyIn_refl _ _
    · split
      · refine onlyIn_ans ?_
        exact onlyIn_refl _ _
      · refine onlyIn_ans ?_
        exact onlyIn_refl _ _

theorem frame_bodyParamList : ∀ a0 s, onlyIn [] s (bodyParamList a0 s).1 := by
  intro a0 s
  unfold bodyParamList
  extract_lets +onlyGivenNames x0
  clear_value x0
  extract_lets +onlyGivenNames x1
  clear_value x1
  extract_lets +onlyGivenNames x2
  clear_value x2
  extract_lets +onlyGivenNames x3
  clear_value x3
  refine onlyIn_ite1 ?_ ?_
  · refine onlyIn_ans ?_
    exact onlyIn_refl _ _
  · refine onlyIn_ans ?_
    exact onlyIn_refl _ _

theorem frame_bodyParamSet : ∀ a0 s, onlyIn [.mb] s (bodyParamSet a0 s).1 := by
  intro a0 s
  unfold bodyParamSet
  split
  · next h =>
    rw [← show _ = _ from congrArg Prod.fst h]
    exact onlyIn_timedBody _ _ rfl (fun _ _ _ => onlyIn_refl _ _) _ _
  · exact onlyIn_timedBody _ _ rfl (fun _ _ _ => onlyIn_refl _ _) _ _

end Sys2Proof.Machine
end

