-- ==== Sys2Proof/Laws/FrameServe.lean ====
section
/-!
SUPPORT. Laws/FrameServe.lean: the parts of the state that the definitions of Machine/Serve.lean may change.
-/

namespace Sys2Proof.Machine

open Sys2Proof.Safety

theorem frame_opBody {T : List Part} (off : Nat) (ops : List (Nat × Body)) (h : ∀ o ∈ ops, ∀ c s, onlyIn T s (o.2 c s).1) (c : Ctx)
    (s : State) : onlyIn T s (opBody off ops c s).1 := by
  unfold opBody
  split
  · next o ho => exact h o (List.mem_of_find?_eq_some ho) c s
  · exact onlyIn_refl _ _

theorem frame_bodies00 {code : Nat} {b : Body} (h : bodies00 code = some b) :
    ∀ c s, onlyIn [.clk, .mb, .pf, .ev, .gr, .qz, .cf, .vd, .ls, .gn, .fb, .cn, .mc, .up, .an, .rs, .pw, .sp, .out, .free] s (b c s).1 := by
  unfold bodies00 at h
  split at h
  · cases h
    exact fun c s => onlyIn_mono (frame_bodyIdent c s) rfl
  split at h
  · cases h
    exact fun c s => onlyIn_mono (frame_bodyPing c s) rfl
  split at h
  · cases h
    exact fun c s => onlyIn_mono (frame_bodyTimeGet c s) rfl
  split at h
  · cases h
    exact fun c s => onlyIn_mono (frame_bodyStatusGet c s) rfl
  cases h

theorem frame_bodies01 {code : Nat} {b : Body} (h : bodies01 code = some b) :
    ∀ c s, onlyIn [.clk, .mb, .pf, .ev, .gr, .qz, .cf, .vd, .ls, .gn, .fb, .cn, .mc, .up, .an, .rs, .pw, .sp, .out, .free] s (b c s).1 := by
  unfold bodies01 at h
  split at h
  · cases h
    exact fun c s => onlyIn_mono (frame_bodySessionOpen c s) rfl
  split at h
  · cases h
    exact fun c s => onlyIn_mono (frame_bodySessionProve c s) rfl
  split at h
  · cases h
    exact fun c s => onlyIn_mono (frame_bodySessionClose c s) rfl
  split at h
  · cases h
    exact fun c s => onlyIn_mono (frame_bodySessionList c s) rfl
  split at h
  · cases h
    exact fun c s => onlyIn_mono (frame_bodySubscribe c s) rfl
  split at h
  · cases h
    exact fun c s => onlyIn_mono (frame_bodyUnsubscribe c s) rfl
  split at h
  · cases h
    exact fun c s => onlyIn_mono (frame_bodyPendingList c s) rfl
  split at h
  · cases h
    exact fun c s => onlyIn_mono (frame_bodyPendingCancel c s) rfl
  cases h

theorem frame_bodies02 {code : Nat} {b : Body} (h : bodies02 code = some b) :
    ∀ c s, onlyIn [.clk, .mb, .pf, .ev, .gr, .qz, .cf, .vd, .ls, .gn, .fb, .cn, .mc, .up, .an, .rs, .pw, .sp, .out, .free] s (b c s).1 := by
  unfold bodies02 at h
  split at h
  · cases h
    exact fun c s => onlyIn_mono (frame_bodyProfileSelect c s) rfl
  split at h
  · cases h
    exact fun c s => onlyIn_mono (frame_bodyProfileGetActive c s) rfl
  split at h
  · cases h
    exact fun c s => onlyIn_mono (frame_bodyProfileRead c s) rfl
  split at h
  · cases h
    exact fun c s => onlyIn_mono (frame_bodyProfileWrite c s) rfl
  split at h
  · cases h
    exact fun c s => onlyIn_mono (frame_bodyProfileValidate c s) rfl
  split at h
  · cases h
    exact fun c s => onlyIn_mono (frame_bodyProfileSave c s) rfl
  split at h
  · cases h
    exact fun c s => onlyIn_mono (frame_bodyProfileSetDefault c s) rfl
  split at h
  · cases h
    exact fun c s => onlyIn_mono (frame_bodyMdRead c s) rfl
  cases h

theorem frame_bodies03 {code : Nat} {b : Body} (h : bodies03 code = some b) :
    ∀ c s, onlyIn [.clk, .mb, .pf, .ev, .gr, .qz, .cf, .vd, .ls, .gn, .fb, .cn, .mc, .up, .an, .rs, .pw, .sp, .out, .free] s (b c s).1 := by
  unfold bodies03 at h
  split at h
  · cases h
    exact fun c s => onlyIn_mono (frame_bodyGrStatus c s) rfl
  split at h
  · cases h
    exact fun c s => onlyIn_mono (frame_bodyFunctionSet c s) rfl
  split at h
  · cases h
    exact fun c s => onlyIn_mono (frame_bodyFunctionEnable c s) rfl
  split at h
  · cases h
    exact fun c s => onlyIn_mono (frame_bodyLaneStatus c s) rfl
  split at h
  · cases h
    exact fun c s => onlyIn_mono (frame_bodyCoefBankWrite c s) rfl
  split at h
  · cases h
    exact fun c s => onlyIn_mono (frame_bodyCoefBankSwap c s) rfl
  split at h
  · cases h
    exact fun c s => onlyIn_mono (frame_bodyRecordCapture c s) rfl
  split at h
  · cases h
    exact fun c s => onlyIn_mono (frame_bodyRecordRead c s) rfl
  split at h
  · cases h
    refine fun c s => frame_opBody _ _ ?_ c s
    intro o ho c s
    simp only [List.mem_cons, List.not_mem_nil, or_false] at ho
    rcases ho with rfl | rfl | rfl | rfl
    · exact onlyIn_mono (frame_bodyReplayStatus c s) rfl
    · exact onlyIn_mono (frame_bodyReplayLoad c s) rfl
    · exact onlyIn_mono (frame_bodyReplayRun c s) rfl
    · exact onlyIn_mono (frame_bodyReplayAbort c s) rfl
  cases h

theorem frame_bodies04 {code : Nat} {b : Body} (h : bodies04 code = some b) :
    ∀ c s, onlyIn [.clk, .mb, .pf, .ev, .gr, .qz, .cf, .vd, .ls, .gn, .fb, .cn, .mc, .up, .an, .rs, .pw, .sp, .out, .free] s (b c s).1 := by
  unfold bodies04 at h
  split at h
  · cases h
    exact fun c s => onlyIn_mono (frame_bodyQzStatus c s) rfl
  split at h
  · cases h
    exact fun c s => onlyIn_mono (frame_bodyQzResultsRead c s) rfl
  split at h
  · cases h
    exact fun c s => onlyIn_mono (frame_bodyQzCropSelect c s) rfl
  split at h
  · cases h
    refine fun c s => frame_opBody _ _ ?_ c s
    intro o ho c s
    simp only [List.mem_cons, List.not_mem_nil, or_false] at ho
    rcases ho with rfl | rfl | rfl
    · exact onlyIn_mono (frame_bodyQzTapRequestTap c s) rfl
    · exact onlyIn_mono (frame_bodyQzTapRequestTeach c s) rfl
    · exact onlyIn_mono (frame_bodyQzTapRequestForget c s) rfl
  split at h
  · cases h
    exact fun c s => onlyIn_mono (frame_bodyQzDiagRequest c s) rfl
  split at h
  · cases h
    refine fun c s => frame_opBody _ _ ?_ c s
    intro o ho c s
    simp only [List.mem_cons, List.not_mem_nil, or_false] at ho
    rcases ho with rfl | rfl | rfl | rfl
    · exact onlyIn_mono (frame_bodyQzRawCaptureStatus c s) rfl
    · exact onlyIn_mono (frame_bodyQzRawCaptureStart c s) rfl
    · exact onlyIn_mono (frame_bodyQzRawCaptureStop c s) rfl
    · exact onlyIn_mono (frame_bodyQzRawCaptureRead c s) rfl
  cases h

theorem frame_bodies05 {code : Nat} {b : Body} (h : bodies05 code = some b) :
    ∀ c s, onlyIn [.clk, .mb, .pf, .ev, .gr, .qz, .cf, .vd, .ls, .gn, .fb, .cn, .mc, .up, .an, .rs, .pw, .sp, .out, .free] s (b c s).1 := by
  unfold bodies05 at h
  split at h
  · cases h
    exact fun c s => onlyIn_mono (frame_bodyCfStatus c s) rfl
  split at h
  · cases h
    exact fun c s => onlyIn_mono (frame_bodyYieldRead c s) rfl
  split at h
  · cases h
    refine fun c s => frame_opBody _ _ ?_ c s
    intro o ho c s
    simp only [List.mem_cons, List.not_mem_nil, or_false] at ho
    rcases ho with rfl | rfl | rfl | rfl | rfl | rfl | rfl
    · exact onlyIn_mono (frame_bodyCfCalibrateFlowZero c s) rfl
    · exact onlyIn_mono (frame_bodyCfCalibrateTankTare c s) rfl
    · exact onlyIn_mono (frame_bodyCfCalibrateLoadBegin c s) rfl
    · exact onlyIn_mono (frame_bodyCfCalibrateLoadEnd c s) rfl
    · exact onlyIn_mono (frame_bodyCfCalibrateLoadAbort c s) rfl
    · exact onlyIn_mono (frame_bodyCfCalibrateGainReset c s) rfl
    · exact onlyIn_mono (frame_bodyCfCalibrateDelayReset c s) rfl
  split at h
  · cases h
    exact fun c s => onlyIn_mono (frame_bodyOptimizerTargets c s) rfl
  split at h
  · cases h
    exact fun c s => onlyIn_mono (frame_bodyOptimizerEnable c s) rfl
  split at h
  · cases h
    refine fun c s => frame_opBody _ _ ?_ c s
    intro o ho c s
    simp only [List.mem_cons, List.not_mem_nil, or_false] at ho
    rcases ho with rfl | rfl | rfl
    · exact onlyIn_mono (frame_bodyCoveragePutFieldOpen c s) rfl
    · exact onlyIn_mono (frame_bodyCoveragePutFieldClose c s) rfl
    · exact onlyIn_mono (frame_bodyCoveragePutCells c s) rfl
  split at h
  · cases h
    refine fun c s => frame_opBody _ _ ?_ c s
    intro o ho c s
    simp only [List.mem_cons, List.not_mem_nil, or_false] at ho
    rcases ho with rfl | rfl
    · exact onlyIn_mono (frame_bodyCoverageGetBits c s) rfl
    · exact onlyIn_mono (frame_bodyCoverageGetChanges c s) rfl
  split at h
  · cases h
    exact fun c s => onlyIn_mono (frame_bodyMapExport c s) rfl
  cases h

theorem frame_bodies06 {code : Nat} {b : Body} (h : bodies06 code = some b) :
    ∀ c s, onlyIn [.clk, .mb, .pf, .ev, .gr, .qz, .cf, .vd, .ls, .gn, .fb, .cn, .mc, .up, .an, .rs, .pw, .sp, .out, .free] s (b c s).1 := by
  unfold bodies06 at h
  split at h
  · cases h
    refine fun c s => frame_opBody _ _ ?_ c s
    intro o ho c s
    simp only [List.mem_cons, List.not_mem_nil, or_false] at ho
    rcases ho with rfl | rfl | rfl
    · exact onlyIn_mono (frame_bodyVdCommandOff c s) rfl
    · exact onlyIn_mono (frame_bodyVdCommandPulse c s) rfl
    · exact onlyIn_mono (frame_bodyVdCommandCurrent c s) rfl
  split at h
  · cases h
    exact fun c s => onlyIn_mono (frame_bodyVdStatus c s) rfl
  split at h
  · cases h
    exact fun c s => onlyIn_mono (frame_bodyVdTimingRead c s) rfl
  split at h
  · cases h
    refine fun c s => frame_opBody _ _ ?_ c s
    intro o ho c s
    simp only [List.mem_cons, List.not_mem_nil, or_false] at ho
    rcases ho with rfl | rfl | rfl
    · exact onlyIn_mono (frame_bodyVdDiagChannel c s) rfl
    · exact onlyIn_mono (frame_bodyVdDiagBank c s) rfl
    · exact onlyIn_mono (frame_bodyVdDiagClear c s) rfl
  cases h

theorem frame_bodies07 {code : Nat} {b : Body} (h : bodies07 code = some b) :
    ∀ c s, onlyIn [.clk, .mb, .pf, .ev, .gr, .qz, .cf, .vd, .ls, .gn, .fb, .cn, .mc, .up, .an, .rs, .pw, .sp, .out, .free] s (b c s).1 := by
  unfold bodies07 at h
  split at h
  · cases h
    refine fun c s => frame_opBody _ _ ?_ c s
    intro o ho c s
    simp only [List.mem_cons, List.not_mem_nil, or_false] at ho
    rcases ho with rfl | rfl | rfl
    · exact onlyIn_mono (frame_bodyLsCommandOff c s) rfl
    · exact onlyIn_mono (frame_bodyLsCommandOn c s) rfl
    · exact onlyIn_mono (frame_bodyLsCommandPwm c s) rfl
  split at h
  · cases h
    exact fun c s => onlyIn_mono (frame_bodyLsStatus c s) rfl
  split at h
  · cases h
    exact fun c s => onlyIn_mono (frame_bodyLsLatchClear c s) rfl
  split at h
  · cases h
    refine fun c s => frame_opBody _ _ ?_ c s
    intro o ho c s
    simp only [List.mem_cons, List.not_mem_nil, or_false] at ho
    rcases ho with rfl | rfl
    · exact onlyIn_mono (frame_bodyLsDiagOffState c s) rfl
    · exact onlyIn_mono (frame_bodyLsDiagOnTest c s) rfl
  cases h

theorem frame_bodies08 {code : Nat} {b : Body} (h : bodies08 code = some b) :
    ∀ c s, onlyIn [.clk, .mb, .pf, .ev, .gr, .qz, .cf, .vd, .ls, .gn, .fb, .cn, .mc, .up, .an, .rs, .pw, .sp, .out, .free] s (b c s).1 := by
  unfold bodies08 at h
  split at h
  · cases h
    exact fun c s => onlyIn_mono (frame_bodyGnStatus c s) rfl
  split at h
  · cases h
    exact fun c s => onlyIn_mono (frame_bodyGnSolutionGet c s) rfl
  split at h
  · cases h
    exact fun c s => onlyIn_mono (frame_bodyRtcmPut c s) rfl
  split at h
  · cases h
    refine fun c s => frame_opBody _ _ ?_ c s
    intro o ho c s
    simp only [List.mem_cons, List.not_mem_nil, or_false] at ho
    rcases ho with rfl | rfl | rfl | rfl | rfl
    · exact onlyIn_mono (frame_bodyGnConfigRestart c s) rfl
    · exact onlyIn_mono (frame_bodyGnConfigSeed c s) rfl
    · exact onlyIn_mono (frame_bodyGnConfigNotchReset c s) rfl
    · exact onlyIn_mono (frame_bodyGnConfigAntennaRetry c s) rfl
    · exact onlyIn_mono (frame_bodyGnConfigImuSelftest c s) rfl
  split at h
  · cases h
    refine fun c s => frame_opBody _ _ ?_ c s
    intro o ho c s
    simp only [List.mem_cons, List.not_mem_nil, or_false] at ho
    rcases ho with rfl | rfl | rfl
    · exact onlyIn_mono (frame_bodyPathLoadLoadNext c s) rfl
    · exact onlyIn_mono (frame_bodyPathLoadClearNext c s) rfl
    · exact onlyIn_mono (frame_bodyPathLoadShift c s) rfl
  split at h
  · cases h
    exact fun c s => onlyIn_mono (frame_bodySteerEngage c s) rfl
  cases h

theorem frame_bodies09 {code : Nat} {b : Body} (h : bodies09 code = some b) :
    ∀ c s, onlyIn [.clk, .mb, .pf, .ev, .gr, .qz, .cf, .vd, .ls, .gn, .fb, .cn, .mc, .up, .an, .rs, .pw, .sp, .out, .free] s (b c s).1 := by
  unfold bodies09 at h
  split at h
  · cases h
    exact fun c s => onlyIn_mono (frame_bodyFbStatus c s) rfl
  split at h
  · cases h
    exact fun c s => onlyIn_mono (frame_bodyFbTopology c s) rfl
  split at h
  · cases h
    exact fun c s => onlyIn_mono (frame_bodyFbNodeAssign c s) rfl
  split at h
  · cases h
    exact fun c s => onlyIn_mono (frame_bodyFbCableTest c s) rfl
  split at h
  · cases h
    exact fun c s => onlyIn_mono (frame_bodyFbRelay c s) rfl
  cases h

theorem frame_bodies0A {code : Nat} {b : Body} (h : bodies0A code = some b) :
    ∀ c s, onlyIn [.clk, .mb, .pf, .ev, .gr, .qz, .cf, .vd, .ls, .gn, .fb, .cn, .mc, .up, .an, .rs, .pw, .sp, .out, .free] s (b c s).1 := by
  unfold bodies0A at h
  split at h
  · cases h
    exact fun c s => onlyIn_mono (frame_bodyCnStatus c s) rfl
  split at h
  · cases h
    refine fun c s => frame_opBody _ _ ?_ c s
    intro o ho c s
    simp only [List.mem_cons, List.not_mem_nil, or_false] at ho
    rcases ho with rfl | rfl
    · exact onlyIn_mono (frame_bodyCnConfigRestart c s) rfl
    · exact onlyIn_mono (frame_bodyCnConfigReclaim c s) rfl
  split at h
  · cases h
    exact fun c s => onlyIn_mono (frame_bodyCnSend c s) rfl
  split at h
  · cases h
    exact fun c s => onlyIn_mono (frame_bodyCnCancel c s) rfl
  split at h
  · cases h
    exact fun c s => onlyIn_mono (frame_bodyCnFilterSet c s) rfl
  cases h

theorem frame_bodies0B {code : Nat} {b : Body} (h : bodies0B code = some b) :
    ∀ c s, onlyIn [.clk, .mb, .pf, .ev, .gr, .qz, .cf, .vd, .ls, .gn, .fb, .cn, .mc, .up, .an, .rs, .pw, .sp, .out, .free] s (b c s).1 := by
  unfold bodies0B at h
  split at h
  · cases h
    exact fun c s => onlyIn_mono (frame_bodyMcStatus c s) rfl
  split at h
  · cases h
    exact fun c s => onlyIn_mono (frame_bodyStoreStatus c s) rfl
  split at h
  · cases h
    exact fun c s => onlyIn_mono (frame_bodyMcBankState c s) rfl
  split at h
  · cases h
    exact fun c s => onlyIn_mono (frame_bodyMapFlush c s) rfl
  cases h

theorem frame_bodies0C {code : Nat} {b : Body} (h : bodies0C code = some b) :
    ∀ c s, onlyIn [.clk, .mb, .pf, .ev, .gr, .qz, .cf, .vd, .ls, .gn, .fb, .cn, .mc, .up, .an, .rs, .pw, .sp, .out, .free] s (b c s).1 := by
  unfold bodies0C at h
  split at h
  · cases h
    exact fun c s => onlyIn_mono (frame_bodyEvRead c s) rfl
  split at h
  · cases h
    exact fun c s => onlyIn_mono (frame_bodyEvReadPriv c s) rfl
  split at h
  · cases h
    exact fun c s => onlyIn_mono (frame_bodyEvCount c s) rfl
  split at h
  · cases h
    exact fun c s => onlyIn_mono (frame_bodyEvClear c s) rfl
  cases h

theorem frame_bodies0D {code : Nat} {b : Body} (h : bodies0D code = some b) :
    ∀ c s, onlyIn [.clk, .mb, .pf, .ev, .gr, .qz, .cf, .vd, .ls, .gn, .fb, .cn, .mc, .up, .an, .rs, .pw, .sp, .out, .free] s (b c s).1 := by
  unfold bodies0D at h
  split at h
  · cases h
    exact fun c s => onlyIn_mono (frame_bodyUpdateBegin c s) rfl
  split at h
  · cases h
    exact fun c s => onlyIn_mono (frame_bodyUpdateData c s) rfl
  split at h
  · cases h
    exact fun c s => onlyIn_mono (frame_bodyUpdateStatus c s) rfl
  split at h
  · cases h
    exact fun c s => onlyIn_mono (frame_bodyUpdateActivate c s) rfl
  split at h
  · cases h
    exact fun c s => onlyIn_mono (frame_bodyUpdateConfirm c s) rfl
  split at h
  · cases h
    refine fun c s => frame_opBody _ _ ?_ c s
    intro o ho c s
    simp only [List.mem_cons, List.not_mem_nil, or_false] at ho
    rcases ho with rfl | rfl | rfl
    · exact onlyIn_mono (frame_bodyUpdateAbortStaging c s) rfl
    · exact onlyIn_mono (frame_bodyUpdateAbortFallback c s) rfl
    · exact onlyIn_mono (frame_bodyUpdateAbortResolveAbort c s) rfl
  cases h

theorem frame_bodies0E {code : Nat} {b : Body} (h : bodies0E code = some b) :
    ∀ c s, onlyIn [.clk, .mb, .pf, .ev, .gr, .qz, .cf, .vd, .ls, .gn, .fb, .cn, .mc, .up, .an, .rs, .pw, .sp, .out, .free] s (b c s).1 := by
  unfold bodies0E at h
  split at h
  · cases h
    exact fun c s => onlyIn_mono (frame_bodyResetRequest c s) rfl
  split at h
  · cases h
    exact fun c s => onlyIn_mono (frame_bodyLifecycleGet c s) rfl
  split at h
  · cases h
    refine fun c s => frame_opBody _ _ ?_ c s
    intro o ho c s
    simp only [List.mem_cons, List.not_mem_nil, or_false] at ho
    rcases ho with rfl | rfl | rfl
    · exact onlyIn_mono (frame_bodyLifecycleSetTransition c s) rfl
    · exact onlyIn_mono (frame_bodyLifecycleSetProvisionKey c s) rfl
    · exact onlyIn_mono (frame_bodyLifecycleSetRevokeKey c s) rfl
  split at h
  · cases h
    refine fun c s => frame_opBody _ _ ?_ c s
    intro o ho c s
    simp only [List.mem_cons, List.not_mem_nil, or_false] at ho
    rcases ho with rfl | rfl | rfl
    · exact onlyIn_mono (frame_bodyOwnerLockSet c s) rfl
    · exact onlyIn_mono (frame_bodyOwnerLockClear c s) rfl
    · exact onlyIn_mono (frame_bodyOwnerLockPermitService c s) rfl
  split at h
  · cases h
    exact fun c s => onlyIn_mono (frame_bodyStandbyEnter c s) rfl
  split at h
  · cases h
    exact fun c s => onlyIn_mono (frame_bodyPowerStatus c s) rfl
  split at h
  · cases h
    exact fun c s => onlyIn_mono (frame_bodyDomainState c s) rfl
  cases h

theorem frame_bodies0F {code : Nat} {b : Body} (h : bodies0F code = some b) :
    ∀ c s, onlyIn [.clk, .mb, .pf, .ev, .gr, .qz, .cf, .vd, .ls, .gn, .fb, .cn, .mc, .up, .an, .rs, .pw, .sp, .out, .free] s (b c s).1 := by
  unfold bodies0F at h
  split at h
  · cases h
    exact fun c s => onlyIn_mono (frame_bodySpWrite c s) rfl
  split at h
  · cases h
    exact fun c s => onlyIn_mono (frame_bodySpStatus c s) rfl
  cases h

theorem frame_bodies10 {code : Nat} {b : Body} (h : bodies10 code = some b) :
    ∀ c s, onlyIn [.clk, .mb, .pf, .ev, .gr, .qz, .cf, .vd, .ls, .gn, .fb, .cn, .mc, .up, .an, .rs, .pw, .sp, .out, .free] s (b c s).1 := by
  unfold bodies10 at h
  split at h
  · cases h
    exact fun c s => onlyIn_mono (frame_bodyInject c s) rfl
  split at h
  · cases h
    exact fun c s => onlyIn_mono (frame_bodyInjectClear c s) rfl
  split at h
  · cases h
    exact fun c s => onlyIn_mono (frame_bodyInjectList c s) rfl
  split at h
  · cases h
    exact fun c s => onlyIn_mono (frame_bodySelftest c s) rfl
  cases h

theorem frame_bodies11 {code : Nat} {b : Body} (h : bodies11 code = some b) :
    ∀ c s, onlyIn [.clk, .mb, .pf, .ev, .gr, .qz, .cf, .vd, .ls, .gn, .fb, .cn, .mc, .up, .an, .rs, .pw, .sp, .out, .free] s (b c s).1 := by
  unfold bodies11 at h
  split at h
  · cases h
    exact fun c s => onlyIn_mono (frame_bodyParamGet c s) rfl
  split at h
  · cases h
    exact fun c s => onlyIn_mono (frame_bodyParamSet c s) rfl
  split at h
  · cases h
    exact fun c s => onlyIn_mono (frame_bodyParamInfo c s) rfl
  split at h
  · cases h
    exact fun c s => onlyIn_mono (frame_bodyParamList c s) rfl
  cases h

theorem frame_bodyOf {code : Nat} {b : Body} (h : bodyOf code = some b) :
    ∀ c s, onlyIn [.clk, .mb, .pf, .ev, .gr, .qz, .cf, .vd, .ls, .gn, .fb, .cn, .mc, .up, .an, .rs, .pw, .sp, .out, .free] s (b c s).1 := by
  unfold bodyOf at h
  split at h
  · exact frame_bodies00 h
  · exact frame_bodies01 h
  · exact frame_bodies02 h
  · exact frame_bodies03 h
  · exact frame_bodies04 h
  · exact frame_bodies05 h
  · exact frame_bodies06 h
  · exact frame_bodies07 h
  · exact frame_bodies08 h
  · exact frame_bodies09 h
  · exact frame_bodies0A h
  · exact frame_bodies0B h
  · exact frame_bodies0C h
  · exact frame_bodies0D h
  · exact frame_bodies0E h
  · exact frame_bodies0F h
  · exact frame_bodies10 h
  · exact frame_bodies11 h
  · cases h

theorem frame_closeEnded : ∀ s, onlyIn [.mb, .pf, .ev, .out] s (closeEnded s) := by
  intro s
  unfold closeEnded
  refine onlyIn_fold _ _ (fun st0 a1 => ?_) ?_
  · refine onlyIn_step (frame_closeSession _ _ _) rfl ?_
    exact onlyIn_refl _ _
  · exact onlyIn_refl _ _

theorem frame_duplicate : ∀ a0 a1 s, onlyIn [.mb, .out] s (duplicate a0 a1 s) := by
  intro a0 a1 s
  unfold duplicate
  refine onlyIn_ite ?_ ?_
  · refine onlyIn_step (frame_countDiscarded _) rfl ?_
    exact onlyIn_refl _ _
  · split
    · refine onlyIn_step (onlyIn_put_out _ _) rfl ?_
      exact onlyIn_refl _ _
    · exact onlyIn_refl _ _

theorem frame_endAssembly : ∀ a0 a1 s, onlyIn [.mb, .out] s (endAssembly a0 a1 s) := by
  intro a0 a1 s
  unfold endAssembly
  refine onlyIn_step (frame_updChan _ _ _ _) rfl ?_
  refine onlyIn_step (frame_answer _ _ _ _) rfl ?_
  exact onlyIn_refl _ _

theorem frame_joinFragment : ∀ a0 a1 s, onlyIn [.mb, .out] s (joinFragment a0 a1 s) := by
  intro a0 a1 s
  unfold joinFragment
  extract_lets +onlyGivenNames x0
  clear_value x0
  refine onlyIn_step (frame_updChan _ _ _ _) rfl ?_
  refine onlyIn_step (frame_answer _ _ _ _) rfl ?_
  exact onlyIn_refl _ _

theorem frame_runCommand : ∀ a0 s, onlyIn [.clk, .mb, .pf, .ev, .gr, .qz, .cf, .vd, .ls, .gn, .fb, .cn, .mc, .up, .an, .rs, .pw, .sp, .out, .free] s (runCommand a0 s) := by
  intro a0 s
  unfold runCommand
  split
  · next h => exact frame_runBody rfl (frame_bodyOf h) (onlyIn_refl _ _)
  · refine onlyIn_ite ?_ ?_
    · exact onlyIn_step (frame_answerOnce _ _ _) rfl (onlyIn_refl _ _)
    · exact onlyIn_step (frame_answer _ _ _ _) rfl (onlyIn_refl _ _)

theorem frame_takeMessage : ∀ a0 a1 a2 s, onlyIn [.clk, .mb, .pf, .ev, .gr, .qz, .cf, .vd, .ls, .gn, .fb, .cn, .mc, .up, .an, .rs, .pw, .sp, .out, .free] s (takeMessage a0 a1 a2 s) := by
  intro a0 a1 a2 s
  unfold takeMessage
  extract_lets +onlyGivenNames x0
  have h1 : onlyIn [.clk, .mb, .pf, .ev, .gr, .qz, .cf, .vd, .ls, .gn, .fb, .cn, .mc, .up, .an, .rs, .pw, .sp, .out, .free] s x0 := by
    dsimp only [x0]
    refine onlyIn_ite ?_ ?_
    · exact onlyIn_refl _ _
    · refine onlyIn_step (frame_updChan _ _ _ _) rfl ?_
      exact onlyIn_refl _ _
  clear_value x0
  split
  · refine onlyIn_ite ?_ ?_
    · refine onlyIn_step (frame_endAssembly _ _ _) rfl ?_
      exact h1
    · refine onlyIn_ite ?_ ?_
      · refine onlyIn_step (frame_endAssembly _ _ _) rfl ?_
        exact onlyIn_refl _ _
      · refine onlyIn_ite ?_ ?_
        · refine onlyIn_step (frame_joinFragment _ _ _) rfl ?_
          exact onlyIn_refl _ _
        · extract_lets +onlyGivenNames x2
          clear_value x2
          refine frame_acceptCommand rfl (fun st3 => ?_) ?_
          · refine onlyIn_step (frame_runCommand _ _) rfl ?_
            exact onlyIn_refl _ _
          · refine onlyIn_step (frame_updChan _ _ _ _) rfl ?_
            exact onlyIn_refl _ _
  · refine onlyIn_ite ?_ ?_
    · refine onlyIn_step (frame_answer _ _ _ _) rfl ?_
      exact h1
    · refine onlyIn_ite ?_ ?_
      · refine frame_acceptCommand rfl (fun st4 => ?_) ?_
        · refine onlyIn_step (frame_runCommand _ _) rfl ?_
          exact onlyIn_refl _ _
        · exact onlyIn_refl _ _
      · refine onlyIn_ite ?_ ?_
        · refine onlyIn_step (frame_answer _ _ _ _) rfl ?_
          exact onlyIn_refl _ _
        · refine onlyIn_ite ?_ ?_
          · refine onlyIn_step (frame_answer _ _ _ _) rfl ?_
            exact onlyIn_refl _ _
          · refine onlyIn_ite ?_ ?_
            · refine onlyIn_step (frame_answer _ _ _ _) rfl ?_
              exact onlyIn_refl _ _
            · refine onlyIn_ite ?_ ?_
              · refine onlyIn_step (frame_endAssembly _ _ _) rfl ?_
                exact onlyIn_refl _ _
              · refine onlyIn_step (frame_joinFragment _ _ _) rfl ?_
                exact onlyIn_refl _ _

theorem frame_takeNext : ∀ a0 a1 s, onlyIn [.clk, .mb, .pf, .ev, .gr, .qz, .cf, .vd, .ls, .gn, .fb, .cn, .mc, .up, .an, .rs, .pw, .sp, .out, .free] s (takeNext a0 a1 s) := by
  intro a0 a1 s
  unfold takeNext
  extract_lets +onlyGivenNames x0
  have h1 : onlyIn [.clk, .mb, .pf, .ev, .gr, .qz, .cf, .vd, .ls, .gn, .fb, .cn, .mc, .up, .an, .rs, .pw, .sp, .out, .free] s x0 := by
    dsimp only [x0]
    refine onlyIn_step (frame_updChan _ _ _ _) rfl ?_
    exact onlyIn_refl _ _
  clear_value x0
  refine onlyIn_ite ?_ ?_
  · exact h1
  · refine onlyIn_step (frame_takeMessage _ _ _ _) rfl ?_
    exact h1

theorem frame_release : ∀ a0 a1 a2 s, onlyIn [.clk, .mb, .pf, .ev, .gr, .qz, .cf, .vd, .ls, .gn, .fb, .cn, .mc, .up, .an, .rs, .pw, .sp, .out, .free] s (release a0 a1 a2 s) := by
  intro a0 a1 a2
  induction a0 with
  | zero => exact fun s => onlyIn_refl _ _
  | succ n ih =>
    intro s
    unfold release
    split
    · exact onlyIn_refl _ _
    · split
      · exact onlyIn_refl _ _
      · refine onlyIn_step (ih _) rfl ?_
        refine onlyIn_step (frame_takeNext _ _ _) rfl ?_
        exact onlyIn_step (frame_updChan _ _ _ _) rfl (onlyIn_refl _ _)

theorem frame_holdMessage : ∀ a0 a1 s, onlyIn [.mb, .out] s (holdMessage a0 a1 s) := by
  intro a0 a1 s
  unfold holdMessage
  refine onlyIn_ite ?_ ?_
  · refine onlyIn_step (frame_countDiscarded _) rfl ?_
    exact onlyIn_refl _ _
  · extract_lets +onlyGivenNames x0
    clear_value x0
    extract_lets +onlyGivenNames x1
    have h2 : onlyIn [.mb, .out] s x1 := by
      dsimp only [x1]
      refine onlyIn_ite ?_ ?_
      · refine onlyIn_step (frame_answer _ _ _ _) rfl ?_
        exact onlyIn_refl _ _
      · exact onlyIn_refl _ _
    clear_value x1
    refine onlyIn_step (frame_updChan _ _ _ _) rfl ?_
    exact h2

theorem frame_sequenceRule : ∀ a0 a1 s, onlyIn [.clk, .mb, .pf, .ev, .gr, .qz, .cf, .vd, .ls, .gn, .fb, .cn, .mc, .up, .an, .rs, .pw, .sp, .out, .free] s (sequenceRule a0 a1 s) := by
  intro a0 a1 s
  unfold sequenceRule
  extract_lets +onlyGivenNames x0
  clear_value x0
  refine onlyIn_ite ?_ ?_
  · refine onlyIn_step (frame_closeEnded _) rfl ?_
    refine onlyIn_step (frame_release _ _ _ _) rfl ?_
    refine onlyIn_step (frame_takeNext _ _ _) rfl ?_
    exact onlyIn_refl _ _
  · refine onlyIn_ite ?_ ?_
    · refine onlyIn_step (frame_holdMessage _ _ _) rfl ?_
      exact onlyIn_refl _ _
    · refine onlyIn_ite ?_ ?_
      · refine onlyIn_step (frame_duplicate _ _ _) rfl ?_
        exact onlyIn_refl _ _
      · refine onlyIn_step (frame_countDiscarded _) rfl ?_
        exact onlyIn_refl _ _

theorem frame_receive0 : ∀ a0 a1 s, onlyIn [.clk, .mb, .pf, .ev, .gr, .qz, .cf, .vd, .ls, .gn, .fb, .cn, .mc, .up, .an, .rs, .pw, .sp, .out, .free] s (receive0 a0 a1 s) := by
  intro a0 a1 s
  unfold receive0
  refine onlyIn_ite ?_ ?_
  · refine onlyIn_step (frame_answer0 _ _ _ _ _) rfl ?_
    exact onlyIn_refl _ _
  · refine onlyIn_ite ?_ ?_
    · refine onlyIn_step (frame_authFail _ _ _) rfl ?_
      exact onlyIn_refl _ _
    · split
      · refine onlyIn_step (frame_sequenceRule _ _ _) rfl ?_
        exact onlyIn_refl _ _
      · extract_lets +onlyGivenNames x0
        clear_value x0
        refine onlyIn_step (frame_sequenceRule _ _ _) rfl ?_
        refine onlyIn_step (frame_updMb _ _) rfl ?_
        exact onlyIn_refl _ _

theorem frame_halfOpenRule : ∀ a0 a1 s, onlyIn [.clk, .mb, .pf, .ev, .gr, .qz, .cf, .vd, .ls, .gn, .fb, .cn, .mc, .up, .an, .rs, .pw, .sp, .out, .free] s (halfOpenRule a0 a1 s) := by
  intro a0 a1 s
  unfold halfOpenRule
  extract_lets +onlyGivenNames x0
  clear_value x0
  refine onlyIn_ite ?_ ?_
  · refine onlyIn_step (frame_countDiscarded _) rfl ?_
    exact onlyIn_refl _ _
  · refine onlyIn_ite ?_ ?_
    · refine onlyIn_step (frame_answerOnce _ _ _) rfl ?_
      exact onlyIn_refl _ _
    · refine onlyIn_ite ?_ ?_
      · refine onlyIn_step (frame_answerOnce _ _ _) rfl ?_
        exact onlyIn_refl _ _
      · refine onlyIn_step (frame_runCommand _ _) rfl ?_
        exact onlyIn_refl _ _

theorem frame_receiveIn : ∀ a0 a1 s, onlyIn [.clk, .mb, .pf, .ev, .gr, .qz, .cf, .vd, .ls, .gn, .fb, .cn, .mc, .up, .an, .rs, .pw, .sp, .out, .free] s (receiveIn a0 a1 s) := by
  intro a0 a1 s
  unfold receiveIn
  split
  · refine onlyIn_step (frame_answer0 _ _ _ _ _) rfl ?_
    exact onlyIn_refl _ _
  · refine onlyIn_ite ?_ ?_
    · refine onlyIn_step (frame_answer0 _ _ _ _ _) rfl ?_
      exact onlyIn_refl _ _
    · refine onlyIn_ite ?_ ?_
      · refine onlyIn_step (frame_answer0 _ _ _ _ _) rfl ?_
        exact onlyIn_refl _ _
      · split
        · refine onlyIn_step (frame_authFail _ _ _) rfl ?_
          exact onlyIn_refl _ _
        · extract_lets +onlyGivenNames x0
          have h1 : onlyIn [.clk, .mb, .pf, .ev, .gr, .qz, .cf, .vd, .ls, .gn, .fb, .cn, .mc, .up, .an, .rs, .pw, .sp, .out, .free] s x0 := by
            dsimp only [x0]
            refine onlyIn_step (frame_updSess _ _ _) rfl ?_
            exact onlyIn_refl _ _
          clear_value x0
          extract_lets +onlyGivenNames x2
          clear_value x2
          refine onlyIn_ite ?_ ?_
          · refine onlyIn_step (frame_sequenceRule _ _ _) rfl ?_
            exact h1
          · refine onlyIn_step (frame_halfOpenRule _ _ _) rfl ?_
            exact h1

theorem frame_receiveMessage : ∀ a0 a1 s, onlyIn [.clk, .mb, .pf, .ev, .gr, .qz, .cf, .vd, .ls, .gn, .fb, .cn, .mc, .up, .an, .rs, .pw, .sp, .out, .free] s (receiveMessage a0 a1 s) := by
  intro a0 a1 s
  unfold receiveMessage
  split
  · refine onlyIn_step (frame_countMalformed _) rfl ?_
    exact onlyIn_refl _ _
  · extract_lets +onlyGivenNames x0
    have h1 : onlyIn [.clk, .mb, .pf, .ev, .gr, .qz, .cf, .vd, .ls, .gn, .fb, .cn, .mc, .up, .an, .rs, .pw, .sp, .out, .free] s x0 := by
      dsimp only [x0]
      refine onlyIn_step (frame_updChan _ _ _ _) rfl ?_
      exact onlyIn_refl _ _
    clear_value x0
    refine onlyIn_ite ?_ ?_
    · refine onlyIn_step (frame_receive0 _ _ _) rfl ?_
      exact h1
    · refine onlyIn_step (frame_receiveIn _ _ _) rfl ?_
      exact h1

theorem frame_execMessageReceive : ∀ a0 a1 a2 s t, execMessageReceive a0 a1 a2 s = .next t → onlyIn [.clk, .mb, .pf, .ev, .gr, .qz, .cf, .vd, .ls, .gn, .fb, .cn, .mc, .up, .an, .rs, .pw, .sp, .out, .free] s t := by
  intro a0 a1 a2 s t h
  unfold execMessageReceive at h
  cases h
  refine onlyIn_ite ?_ ?_
  · exact onlyIn_refl _ _
  · refine onlyIn_ite ?_ ?_
    · refine onlyIn_step (frame_countMalformed _) rfl ?_
      exact onlyIn_refl _ _
    · refine onlyIn_ite ?_ ?_
      · split
        · refine onlyIn_step (frame_receiveMessage _ _ _) rfl ?_
          exact onlyIn_refl _ _
        · refine onlyIn_step (frame_countMalformed _) rfl ?_
          exact onlyIn_refl _ _
      · refine onlyIn_step (frame_receiveMessage _ _ _) rfl ?_
        exact onlyIn_refl _ _

theorem frame_pumpChan : ∀ a0 a1 a2 s, onlyIn [.clk, .mb, .pf, .ev, .gr, .qz, .cf, .vd, .ls, .gn, .fb, .cn, .mc, .up, .an, .rs, .pw, .sp, .out, .free] s (pumpChan a0 a1 a2 s) := by
  intro a0 a1 a2
  induction a0 with
  | zero => exact fun s => onlyIn_refl _ _
  | succ n ih =>
    intro s
    unfold pumpChan
    split
    · exact onlyIn_refl _ _
    · split
      · refine onlyIn_step (ih _) rfl ?_
        refine onlyIn_step (frame_runCommand _ _) rfl ?_
        exact onlyIn_step (frame_updChan _ _ _ _) rfl (onlyIn_refl _ _)
      · exact onlyIn_refl _ _

theorem frame_runQueues : ∀ s, onlyIn [.clk, .mb, .pf, .ev, .gr, .qz, .cf, .vd, .ls, .gn, .fb, .cn, .mc, .up, .an, .rs, .pw, .sp, .out, .free] s (runQueues s) := by
  intro s
  unfold runQueues
  refine onlyIn_ite ?_ ?_
  · refine onlyIn_step (frame_closeEnded _) rfl ?_
    refine onlyIn_fold _ _ (fun st0 a1 => ?_) ?_
    · refine onlyIn_step (frame_pumpChan _ _ _ _) rfl ?_
      exact onlyIn_refl _ _
    · exact onlyIn_refl _ _
  · exact onlyIn_refl _ _

theorem frame_fabricMail : ∀ a0 a1 a2 s, onlyIn [.clk, .mb, .pf, .ev, .gr, .qz, .cf, .vd, .ls, .gn, .fb, .cn, .mc, .up, .an, .rs, .pw, .sp, .out, .free] s (fabricMail a0 a1 a2 s) := by
  intro a0 a1 a2 s
  unfold fabricMail
  refine onlyIn_ite ?_ ?_
  · exact onlyIn_refl _ _
  · refine onlyIn_ite ?_ ?_
    · refine onlyIn_step (frame_innerResponse _ _ _ _) rfl ?_
      exact onlyIn_refl _ _
    · refine onlyIn_ite ?_ ?_
      · refine onlyIn_step (frame_relayedNote _ _ _) rfl ?_
        exact onlyIn_refl _ _
      · refine onlyIn_step (frame_receiveMessage _ _ _) rfl ?_
        exact onlyIn_refl _ _

theorem frame_skimDeliver : ∀ a0 a1 s, onlyIn [.clk, .mb, .pf, .ev, .gr, .qz, .cf, .vd, .ls, .gn, .fb, .cn, .mc, .up, .an, .rs, .pw, .sp, .out, .free] s (skimDeliver a0 a1 s) := by
  intro a0 a1 s
  unfold skimDeliver
  refine onlyIn_ite ?_ ?_
  · refine onlyIn_step (frame_fabricPump _) rfl ?_
    refine onlyIn_step (frame_fabricMail _ _ _ _) rfl ?_
    exact onlyIn_refl _ _
  · refine onlyIn_ite ?_ ?_
    · refine onlyIn_step (frame_chainMessage _ _ _) rfl ?_
      exact onlyIn_refl _ _
    · refine onlyIn_ite ?_ ?_
      · refine onlyIn_step (frame_mirrorAgain _ _ _ _) rfl ?_
        exact onlyIn_refl _ _
      · extract_lets +onlyGivenNames x0
        have h1 : onlyIn [.clk, .mb, .pf, .ev, .gr, .qz, .cf, .vd, .ls, .gn, .fb, .cn, .mc, .up, .an, .rs, .pw, .sp, .out, .free] s x0 := by
          dsimp only [x0]
          split
          · refine onlyIn_step (frame_mirrorAsk _ _ _ _ _) rfl ?_
            exact onlyIn_refl _ _
          · exact onlyIn_refl _ _
        clear_value x0
        refine onlyIn_step (frame_mirrorStore _ _ _) rfl ?_
        exact h1

theorem frame_execSkimFrameReceive : ∀ a0 a1 a2 s t, execSkimFrameReceive a0 a1 a2 s = .next t → onlyIn [.clk, .mb, .pf, .ev, .gr, .qz, .cf, .vd, .ls, .gn, .fb, .cn, .mc, .up, .an, .rs, .pw, .sp, .out, .free] s t := by
  intro a0 a1 a2 s t h
  unfold execSkimFrameReceive at h
  extract_lets +onlyGivenNames x0 at h
  clear_value x0
  extract_lets +onlyGivenNames x1 at h
  clear_value x1
  extract_lets +onlyGivenNames x2 at h
  have h3 : onlyIn [.clk, .mb, .pf, .ev, .gr, .qz, .cf, .vd, .ls, .gn, .fb, .cn, .mc, .up, .an, .rs, .pw, .sp, .out, .free] s x2.1 := by
    dsimp only [x2]
    refine onlyIn_step (frame_skimRoute _ _ _ _) rfl ?_
    exact onlyIn_refl _ _
  clear_value x2
  cases h
  refine onlyIn_ite ?_ ?_
  · refine onlyIn_step (frame_skimDeliver _ _ _) rfl ?_
    exact h3
  · exact h3

theorem frame_execCanFrameReceive : ∀ a0 a1 a2 a3 s t, execCanFrameReceive a0 a1 a2 a3 s = .next t → onlyIn [.clk, .mb, .pf, .ev, .gr, .qz, .cf, .vd, .ls, .gn, .fb, .cn, .mc, .up, .an, .rs, .pw, .sp, .out, .free] s t := by
  intro a0 a1 a2 a3 s t h
  unfold execCanFrameReceive at h
  extract_lets +onlyGivenNames x0 at h
  have h1 : onlyIn [.clk, .mb, .pf, .ev, .gr, .qz, .cf, .vd, .ls, .gn, .fb, .cn, .mc, .up, .an, .rs, .pw, .sp, .out, .free] s x0.1 := by
    dsimp only [x0]
    refine onlyIn_step (frame_canReceive _ _ _ _ _) rfl ?_
    exact onlyIn_refl _ _
  clear_value x0
  cases h
  split
  · extract_lets +onlyGivenNames x2
    clear_value x2
    refine onlyIn_step (frame_canPump _) rfl ?_
    refine onlyIn_ite ?_ ?_
    · refine onlyIn_step (frame_receiveMessage _ _ _) rfl ?_
      exact h1
    · exact h1
  · exact h1

end Sys2Proof.Machine
end

