-- ==== Sys2Proof/Laws/FrameFrame.lean ====
section
/-!
SUPPORT. Laws/FrameFrame.lean: the parts of the state that the definitions of Machine/Frame.lean may change.
-/

namespace Sys2Proof.Machine

open Sys2Proof.Safety

theorem frame_applyCommand : ∀ a0 s, onlyIn [.mb, .pf, .ev, .gr, .qz, .cf, .vd, .ls, .gn, .cn, .an, .pw, .out, .free] s (applyCommand a0 s) := by
  intro a0 s
  unfold applyCommand
  refine onlyIn_ite ?_ ?_
  · refine onlyIn_step (frame_applyFunctionSet _ _) rfl ?_
    exact onlyIn_refl _ _
  · refine onlyIn_ite ?_ ?_
    · refine onlyIn_step (frame_applyFunctionEnable _ _) rfl ?_
      exact onlyIn_refl _ _
    · refine onlyIn_ite ?_ ?_
      · refine onlyIn_step (frame_applyCoefBankSwap _ _) rfl ?_
        exact onlyIn_refl _ _
      · refine onlyIn_ite ?_ ?_
        · refine onlyIn_step (frame_applyRecordCapture _ _) rfl ?_
          exact onlyIn_refl _ _
        · refine onlyIn_ite ?_ ?_
          · refine onlyIn_step (frame_applySteerEngage _ _) rfl ?_
            exact onlyIn_refl _ _
          · refine onlyIn_ite ?_ ?_
            · refine onlyIn_step (frame_applyOptimizerTargets _ _) rfl ?_
              exact onlyIn_refl _ _
            · refine onlyIn_ite ?_ ?_
              · refine onlyIn_step (frame_applyOptimizerEnable _ _) rfl ?_
                exact onlyIn_refl _ _
              · refine onlyIn_ite ?_ ?_
                · refine onlyIn_step (frame_applyQzCropSelect _ _) rfl ?_
                  exact onlyIn_refl _ _
                · refine onlyIn_ite ?_ ?_
                  · refine onlyIn_step (frame_applyVdCommand _ _) rfl ?_
                    exact onlyIn_refl _ _
                  · refine onlyIn_ite ?_ ?_
                    · refine onlyIn_step (frame_applyLsCommand _ _ _) rfl ?_
                      exact onlyIn_refl _ _
                    · refine onlyIn_ite ?_ ?_
                      · refine onlyIn_step (frame_applyParamSet _ _) rfl ?_
                        exact onlyIn_refl _ _
                      · refine onlyIn_ite ?_ ?_
                        · refine onlyIn_step (frame_applyInject _ _) rfl ?_
                          exact onlyIn_refl _ _
                        · refine onlyIn_ite ?_ ?_
                          · refine onlyIn_step (frame_applyCnSend _ _) rfl ?_
                            exact onlyIn_refl _ _
                          · refine onlyIn_ite ?_ ?_
                            · refine onlyIn_step (frame_applyStandbyEnter _ _) rfl ?_
                              exact onlyIn_refl _ _
                            · exact onlyIn_refl _ _

theorem frame_tellApplied : ∀ a0 s, onlyIn [.mb, .pf, .ev, .out] s (tellApplied a0 s) := by
  intro a0 s
  unfold tellApplied
  refine onlyIn_ite ?_ ?_
  · refine onlyIn_step (frame_sendNote _ _ _ _) rfl ?_
    exact onlyIn_refl _ _
  · exact onlyIn_refl _ _

theorem frame_applyDue : ∀ a0 s, onlyIn [.mb, .pf, .ev, .gr, .qz, .cf, .vd, .ls, .gn, .cn, .an, .pw, .out, .free] s (applyDue a0 s) := by
  intro a0 s
  unfold applyDue
  extract_lets +onlyGivenNames x0
  have h1 : onlyIn [.mb, .pf, .ev, .gr, .qz, .cf, .vd, .ls, .gn, .cn, .an, .pw, .out, .free] s x0 := by
    dsimp only [x0]
    refine onlyIn_step (frame_setFate _ _ _) rfl ?_
    refine onlyIn_step (frame_updMb _ _) rfl ?_
    exact onlyIn_refl _ _
  clear_value x0
  refine onlyIn_ite ?_ ?_
  · refine onlyIn_step (frame_discardEvent _ _) rfl ?_
    exact h1
  · refine onlyIn_step (frame_tellApplied _ _) rfl ?_
    refine onlyIn_step (frame_applyCommand _ _) rfl ?_
    exact h1

theorem frame_applySelected : ∀ a0 s, onlyIn [.mb, .pf, .ev, .gr, .qz, .cf, .vd, .ls, .gn, .fb, .cn, .pw, .out, .free] s (applySelected a0 s) := by
  intro a0 s
  unfold applySelected
  extract_lets +onlyGivenNames x0
  clear_value x0
  extract_lets +onlyGivenNames x1
  have h2 : onlyIn [.mb, .pf, .ev, .gr, .qz, .cf, .vd, .ls, .gn, .fb, .cn, .pw, .out, .free] s x1 := by
    dsimp only [x1]
    refine onlyIn_step (frame_applySelections _ _) rfl ?_
    exact onlyIn_refl _ _
  clear_value x1
  extract_lets +onlyGivenNames x3
  have h4 : onlyIn [.mb, .pf, .ev, .gr, .qz, .cf, .vd, .ls, .gn, .fb, .cn, .pw, .out, .free] s x3 := by
    dsimp only [x3]
    refine onlyIn_fold _ _ (fun st5 a6 => ?_) ?_
    · refine onlyIn_step (frame_setFate _ _ _) rfl ?_
      refine onlyIn_step (frame_updMb _ _) rfl ?_
      exact onlyIn_refl _ _
    · exact h2
  clear_value x3
  split
  · refine onlyIn_step (frame_tellApplied _ _) rfl ?_
    exact h4
  · exact h4

theorem frame_applyPhase : ∀ s, onlyIn [.mb, .pf, .ev, .gr, .qz, .cf, .vd, .ls, .gn, .fb, .cn, .an, .pw, .out, .free] s (applyPhase s) := by
  intro s
  unfold applyPhase
  extract_lets +onlyGivenNames x0
  clear_value x0
  extract_lets +onlyGivenNames x1
  clear_value x1
  extract_lets +onlyGivenNames x2
  have h3 : onlyIn [.mb, .pf, .ev, .gr, .qz, .cf, .vd, .ls, .gn, .fb, .cn, .an, .pw, .out, .free] s x2 := by
    dsimp only [x2]
    refine onlyIn_step (frame_applySelected _ _) rfl ?_
    refine onlyIn_ite ?_ ?_
    · refine onlyIn_step (frame_startFns _) rfl ?_
      exact onlyIn_refl _ _
    · exact onlyIn_refl _ _
  clear_value x2
  extract_lets +onlyGivenNames x4
  have h5 : onlyIn [.mb, .pf, .ev, .gr, .qz, .cf, .vd, .ls, .gn, .fb, .cn, .an, .pw, .out, .free] s x4 := by
    dsimp only [x4]
    refine onlyIn_fold _ _ (fun st6 a7 => ?_) ?_
    · refine onlyIn_step (frame_applyDue _ _) rfl ?_
      exact onlyIn_refl _ _
    · refine onlyIn_ite ?_ ?_
      · refine onlyIn_step (frame_faultFns _) rfl ?_
        exact h3
      · exact h3
  clear_value x4
  refine onlyIn_ite ?_ ?_
  · refine onlyIn_step (frame_stopFns _) rfl ?_
    exact h5
  · exact h5

theorem frame_creamClose : ∀ s, onlyIn [.fb] s (creamClose s) := by
  intro s
  unfold creamClose
  extract_lets +onlyGivenNames x0
  clear_value x0
  refine onlyIn_step (frame_updFb _ _) rfl ?_
  exact onlyIn_refl _ _

theorem frame_forcedPreempt : ∀ s, onlyIn [.mb, .pf, .ev, .qz, .mc, .out] s (forcedPreempt s) := by
  intro s
  unfold forcedPreempt
  refine onlyIn_ite ?_ ?_
  · refine onlyIn_step (frame_ringFree _) rfl ?_
    refine onlyIn_step (frame_capturePreempt _) rfl ?_
    exact onlyIn_refl _ _
  · exact onlyIn_refl _ _

theorem frame_execCutOff : ∀ a0 s t, execCutOff a0 s = .next t → onlyIn [.clk, .mb, .pf, .ev, .gr, .qz, .fb, .cn, .mc, .an, .out] s t := by
  intro a0 s t h
  unfold execCutOff at h
  cases h
  refine onlyIn_ite ?_ ?_
  · extract_lets +onlyGivenNames x0
    clear_value x0
    extract_lets +onlyGivenNames x1
    have h2 : onlyIn [.clk, .mb, .pf, .ev, .gr, .qz, .fb, .cn, .mc, .an, .out] s x1 := by
      dsimp only [x1]
      refine onlyIn_step (frame_selectRecheck _) rfl ?_
      refine onlyIn_step (frame_canClose _) rfl ?_
      refine onlyIn_step (frame_quartzCutoff _ _ _ _) rfl ?_
      refine onlyIn_step (frame_ioCutoff _ _) rfl ?_
      exact onlyIn_refl _ _
    clear_value x1
    extract_lets +onlyGivenNames x3
    have h4 : onlyIn [.clk, .mb, .pf, .ev, .gr, .qz, .fb, .cn, .mc, .an, .out] s x3 := by
      dsimp only [x3]
      refine onlyIn_step (frame_forcedPreempt _) rfl ?_
      refine onlyIn_step (frame_creamClose _) rfl ?_
      refine onlyIn_step (frame_updGr _ _) rfl ?_
      exact h2
    clear_value x3
    refine onlyIn_step (frame_atCycle _ _) rfl ?_
    refine onlyIn_step (frame_updMc _ _) rfl ?_
    exact h4
  · exact onlyIn_refl _ _

theorem frame_releaseRecord : ∀ a0 s, onlyIn [.clk, .mb, .pf, .ev, .gr, .cf, .vd, .ls, .gn, .fb, .an, .out, .free] s (releaseRecord a0 s) := by
  intro a0 s
  unfold releaseRecord
  extract_lets +onlyGivenNames x0
  clear_value x0
  extract_lets +onlyGivenNames x1
  have h2 : onlyIn [.clk, .mb, .pf, .ev, .gr, .cf, .vd, .ls, .gn, .fb, .an, .out, .free] s x1 := by
    dsimp only [x1]
    refine onlyIn_step (frame_fbBoundary _) rfl ?_
    refine onlyIn_step (onlyIn_put_clk _ _) rfl ?_
    exact onlyIn_refl _ _
  clear_value x1
  extract_lets +onlyGivenNames x3
  have h4 : onlyIn [.clk, .mb, .pf, .ev, .gr, .cf, .vd, .ls, .gn, .fb, .an, .out, .free] s x3 := by
    dsimp only [x3]
    refine onlyIn_step (frame_updGr _ _) rfl ?_
    exact h2
  clear_value x3
  extract_lets +onlyGivenNames x5
  have h6 : onlyIn [.clk, .mb, .pf, .ev, .gr, .cf, .vd, .ls, .gn, .fb, .an, .out, .free] s x5 := by
    dsimp only [x5]
    refine onlyIn_step (frame_lanesJoin _) rfl ?_
    exact h4
  clear_value x5
  extract_lets +onlyGivenNames x7
  have h8 : onlyIn [.clk, .mb, .pf, .ev, .gr, .cf, .vd, .ls, .gn, .fb, .an, .out, .free] s x7 := by
    dsimp only [x7]
    refine onlyIn_ite ?_ ?_
    · refine onlyIn_step (frame_lanesStart _) rfl ?_
      exact h6
    · exact h6
  clear_value x7
  extract_lets +onlyGivenNames x9
  have h10 : onlyIn [.clk, .mb, .pf, .ev, .gr, .cf, .vd, .ls, .gn, .fb, .an, .out, .free] s x9 := by
    dsimp only [x9]
    refine onlyIn_ite ?_ ?_
    · exact h8
    · refine onlyIn_step (frame_updPf _ _) rfl ?_
      exact h8
  clear_value x9
  refine onlyIn_ite ?_ ?_
  · refine onlyIn_step (frame_crcCheck _ _) rfl ?_
    exact h10
  · exact h10

theorem frame_machineWork : ∀ a0 s, onlyIn [.mb, .pf, .ev, .gr, .cf, .vd, .ls, .gn, .out, .free] s (machineWork a0 s) := by
  intro a0 s
  unfold machineWork
  refine onlyIn_ite ?_ ?_
  · refine onlyIn_step (frame_machinePhase _) rfl ?_
    refine onlyIn_step (frame_rampFns _) rfl ?_
    refine onlyIn_step (frame_steerFrame _) rfl ?_
    refine onlyIn_step (frame_holdFns _) rfl ?_
    refine onlyIn_step (frame_deriveSignals _ _) rfl ?_
    refine onlyIn_step (frame_cropSignals _) rfl ?_
    exact onlyIn_refl _ _
  · exact onlyIn_refl _ _

theorem frame_supervisorFrame : ∀ s, onlyIn [.clk, .mb, .pf, .ev, .gr, .qz, .cf, .vd, .ls, .gn, .fb, .cn, .mc, .up, .an, .rs, .pw, .sp, .out, .free] s (supervisorFrame s) := by
  intro s
  unfold supervisorFrame
  refine onlyIn_ite ?_ ?_
  · refine onlyIn_step (frame_runQueues _) rfl ?_
    refine onlyIn_step (frame_fabricPump _) rfl ?_
    refine onlyIn_step (frame_answerConfirm _) rfl ?_
    refine onlyIn_step (frame_tellFallBack _) rfl ?_
    refine onlyIn_step (frame_motionFrame _) rfl ?_
    refine onlyIn_step (frame_canPump _) rfl ?_
    refine onlyIn_step (frame_canForward _) rfl ?_
    refine onlyIn_step (frame_optFrame _) rfl ?_
    refine onlyIn_step (frame_cropFrame _) rfl ?_
    exact onlyIn_refl _ _
  · exact onlyIn_refl _ _

theorem frame_execFrameStart : ∀ a0 s t, execFrameStart a0 s = .next t → onlyIn [.clk, .mb, .pf, .ev, .gr, .qz, .cf, .vd, .ls, .gn, .fb, .cn, .mc, .up, .an, .rs, .pw, .sp, .out, .free] s t := by
  intro a0 s t h
  unfold execFrameStart at h
  cases h
  refine onlyIn_ite ?_ ?_
  · extract_lets +onlyGivenNames x0
    clear_value x0
    extract_lets +onlyGivenNames x1
    have h2 : onlyIn [.clk, .mb, .pf, .ev, .gr, .qz, .cf, .vd, .ls, .gn, .fb, .cn, .mc, .up, .an, .rs, .pw, .sp, .out, .free] s x1 := by
      dsimp only [x1]
      refine onlyIn_step (frame_replayFrame _) rfl ?_
      refine onlyIn_step (frame_machineEffect _) rfl ?_
      refine onlyIn_step (frame_releaseRecord _ _) rfl ?_
      exact onlyIn_refl _ _
    clear_value x1
    extract_lets +onlyGivenNames x3
    have h4 : onlyIn [.clk, .mb, .pf, .ev, .gr, .qz, .cf, .vd, .ls, .gn, .fb, .cn, .mc, .up, .an, .rs, .pw, .sp, .out, .free] s x3 := by
      dsimp only [x3]
      refine onlyIn_step (frame_machineWork _ _) rfl ?_
      refine onlyIn_step (frame_applyPhase _) rfl ?_
      exact h2
    clear_value x3
    extract_lets +onlyGivenNames x5
    have h6 : onlyIn [.clk, .mb, .pf, .ev, .gr, .qz, .cf, .vd, .ls, .gn, .fb, .cn, .mc, .up, .an, .rs, .pw, .sp, .out, .free] s x5 := by
      dsimp only [x5]
      refine onlyIn_step (frame_lsLampFrame _ _) rfl ?_
      refine onlyIn_step (frame_lsClearFrame _) rfl ?_
      refine onlyIn_step (frame_timeFrame _) rfl ?_
      refine onlyIn_step (frame_vdFrame _) rfl ?_
      refine onlyIn_step (frame_secondFrame _) rfl ?_
      exact h4
    clear_value x5
    refine onlyIn_step (frame_supervisorFrame _) rfl ?_
    refine onlyIn_step (frame_injectionsFrame _) rfl ?_
    refine onlyIn_step (frame_canTxQueue _) rfl ?_
    exact h6
  · exact onlyIn_refl _ _

end Sys2Proof.Machine
end

