-- ==== Sys2Proof/Laws/FrameHostRows.lean ====
section
/-!
SUPPORT. Laws/FrameHostRows.lean: the parts of the state that the definitions of Machine/HostRows.lean may change.
-/

namespace Sys2Proof.Machine

open Sys2Proof.Safety

theorem frame_execIdent : ∀ a0 s t, execIdent a0 s = .next t → onlyIn [.mb, .out] s t := by
  intro a0 s t h
  unfold execIdent at h
  cases h
  exact frame_hostCommand rfl (fun c st => onlyIn_mono (frame_bodyIdent c st) rfl)

theorem frame_execPing : ∀ a0 s t, execPing a0 s = .next t → onlyIn [.mb, .out] s t := by
  intro a0 s t h
  unfold execPing at h
  cases h
  exact frame_hostCommand rfl (fun c st => onlyIn_mono (frame_bodyPing c st) rfl)

theorem frame_execTimeGet : ∀ a0 s t, execTimeGet a0 s = .next t → onlyIn [.clk, .mb, .out, .free] s t := by
  intro a0 s t h
  unfold execTimeGet at h
  cases h
  exact frame_hostCommand rfl (fun c st => onlyIn_mono (frame_bodyTimeGet c st) rfl)

theorem frame_execStatusGet : ∀ a0 s t, execStatusGet a0 s = .next t → onlyIn [.mb, .out] s t := by
  intro a0 s t h
  unfold execStatusGet at h
  cases h
  exact frame_hostCommand rfl (fun c st => onlyIn_mono (frame_bodyStatusGet c st) rfl)

theorem frame_execSessionOpen : ∀ a0 s t, execSessionOpen a0 s = .next t → onlyIn [.mb, .pf, .ev, .out, .free] s t := by
  intro a0 s t h
  unfold execSessionOpen at h
  cases h
  exact frame_hostCommand rfl (fun c st => onlyIn_mono (frame_bodySessionOpen c st) rfl)

theorem frame_execSessionProve : ∀ a0 s t, execSessionProve a0 s = .next t → onlyIn [.mb, .out] s t := by
  intro a0 s t h
  unfold execSessionProve at h
  cases h
  exact frame_hostCommand rfl (fun c st => onlyIn_mono (frame_bodySessionProve c st) rfl)

theorem frame_execSessionClose : ∀ a0 s t, execSessionClose a0 s = .next t → onlyIn [.mb, .pf, .ev, .out] s t := by
  intro a0 s t h
  unfold execSessionClose at h
  cases h
  exact frame_hostCommand rfl (fun c st => onlyIn_mono (frame_bodySessionClose c st) rfl)

theorem frame_execSessionList : ∀ a0 s t, execSessionList a0 s = .next t → onlyIn [.mb, .out] s t := by
  intro a0 s t h
  unfold execSessionList at h
  cases h
  exact frame_hostCommand rfl (fun c st => onlyIn_mono (frame_bodySessionList c st) rfl)

theorem frame_execSubscribe : ∀ a0 s t, execSubscribe a0 s = .next t → onlyIn [.mb, .out] s t := by
  intro a0 s t h
  unfold execSubscribe at h
  cases h
  exact frame_hostCommand rfl (fun c st => onlyIn_mono (frame_bodySubscribe c st) rfl)

theorem frame_execUnsubscribe : ∀ a0 s t, execUnsubscribe a0 s = .next t → onlyIn [.mb, .out] s t := by
  intro a0 s t h
  unfold execUnsubscribe at h
  cases h
  exact frame_hostCommand rfl (fun c st => onlyIn_mono (frame_bodyUnsubscribe c st) rfl)

theorem frame_execPendingList : ∀ a0 s t, execPendingList a0 s = .next t → onlyIn [.mb, .out] s t := by
  intro a0 s t h
  unfold execPendingList at h
  cases h
  exact frame_hostCommand rfl (fun c st => onlyIn_mono (frame_bodyPendingList c st) rfl)

theorem frame_execPendingCancel : ∀ a0 s t, execPendingCancel a0 s = .next t → onlyIn [.mb, .pf, .ev, .cn, .pw, .out] s t := by
  intro a0 s t h
  unfold execPendingCancel at h
  cases h
  exact frame_hostCommand rfl (fun c st => onlyIn_mono (frame_bodyPendingCancel c st) rfl)

theorem frame_execFbRelay : ∀ a0 s t, execFbRelay a0 s = .next t → onlyIn [.mb, .fb, .out] s t := by
  intro a0 s t h
  unfold execFbRelay at h
  cases h
  exact frame_hostCommand rfl (fun c st => onlyIn_mono (frame_bodyFbRelay c st) rfl)

theorem frame_execParamGet : ∀ a0 s t, execParamGet a0 s = .next t → onlyIn [.mb, .out] s t := by
  intro a0 s t h
  unfold execParamGet at h
  cases h
  exact frame_hostCommand rfl (fun c st => onlyIn_mono (frame_bodyParamGet c st) rfl)

theorem frame_execParamSet : ∀ a0 s t, execParamSet a0 s = .next t → onlyIn [.mb, .out] s t := by
  intro a0 s t h
  unfold execParamSet at h
  cases h
  exact frame_hostCommand rfl (fun c st => onlyIn_mono (frame_bodyParamSet c st) rfl)

theorem frame_execParamInfo : ∀ a0 s t, execParamInfo a0 s = .next t → onlyIn [.mb, .out] s t := by
  intro a0 s t h
  unfold execParamInfo at h
  cases h
  exact frame_hostCommand rfl (fun c st => onlyIn_mono (frame_bodyParamInfo c st) rfl)

theorem frame_execParamList : ∀ a0 s t, execParamList a0 s = .next t → onlyIn [.mb, .out] s t := by
  intro a0 s t h
  unfold execParamList at h
  cases h
  exact frame_hostCommand rfl (fun c st => onlyIn_mono (frame_bodyParamList c st) rfl)

theorem frame_execProfileSelect : ∀ a0 s t, execProfileSelect a0 s = .next t → onlyIn [.mb, .pf, .ev, .out] s t := by
  intro a0 s t h
  unfold execProfileSelect at h
  cases h
  exact frame_hostCommand rfl (fun c st => onlyIn_mono (frame_bodyProfileSelect c st) rfl)

theorem frame_execProfileGetActive : ∀ a0 s t, execProfileGetActive a0 s = .next t → onlyIn [.mb, .out] s t := by
  intro a0 s t h
  unfold execProfileGetActive at h
  cases h
  exact frame_hostCommand rfl (fun c st => onlyIn_mono (frame_bodyProfileGetActive c st) rfl)

theorem frame_execProfileRead : ∀ a0 s t, execProfileRead a0 s = .next t → onlyIn [.mb, .pf, .ev, .out] s t := by
  intro a0 s t h
  unfold execProfileRead at h
  cases h
  exact frame_hostCommand rfl (fun c st => onlyIn_mono (frame_bodyProfileRead c st) rfl)

theorem frame_execProfileWrite : ∀ a0 s t, execProfileWrite a0 s = .next t → onlyIn [.mb, .pf, .out] s t := by
  intro a0 s t h
  unfold execProfileWrite at h
  cases h
  exact frame_hostCommand rfl (fun c st => onlyIn_mono (frame_bodyProfileWrite c st) rfl)

theorem frame_execProfileValidate : ∀ a0 s t, execProfileValidate a0 s = .next t → onlyIn [.mb, .pf, .ev, .out, .free] s t := by
  intro a0 s t h
  unfold execProfileValidate at h
  cases h
  exact frame_hostCommand rfl (fun c st => onlyIn_mono (frame_bodyProfileValidate c st) rfl)

theorem frame_execProfileSave : ∀ a0 s t, execProfileSave a0 s = .next t → onlyIn [.mb, .pf, .out] s t := by
  intro a0 s t h
  unfold execProfileSave at h
  cases h
  exact frame_hostCommand rfl (fun c st => onlyIn_mono (frame_bodyProfileSave c st) rfl)

theorem frame_execProfileSetDefault : ∀ a0 s t, execProfileSetDefault a0 s = .next t → onlyIn [.mb, .pf, .out] s t := by
  intro a0 s t h
  unfold execProfileSetDefault at h
  cases h
  exact frame_hostCommand rfl (fun c st => onlyIn_mono (frame_bodyProfileSetDefault c st) rfl)

theorem frame_execMdRead : ∀ a0 s t, execMdRead a0 s = .next t → onlyIn [.mb, .out] s t := by
  intro a0 s t h
  unfold execMdRead at h
  cases h
  exact frame_hostCommand rfl (fun c st => onlyIn_mono (frame_bodyMdRead c st) rfl)

theorem frame_execGrStatus : ∀ a0 s t, execGrStatus a0 s = .next t → onlyIn [.mb, .out] s t := by
  intro a0 s t h
  unfold execGrStatus at h
  cases h
  exact frame_hostCommand rfl (fun c st => onlyIn_mono (frame_bodyGrStatus c st) rfl)

theorem frame_execFunctionSet : ∀ a0 s t, execFunctionSet a0 s = .next t → onlyIn [.mb, .out] s t := by
  intro a0 s t h
  unfold execFunctionSet at h
  cases h
  exact frame_hostCommand rfl (fun c st => onlyIn_mono (frame_bodyFunctionSet c st) rfl)

theorem frame_execFunctionEnable : ∀ a0 s t, execFunctionEnable a0 s = .next t → onlyIn [.mb, .out] s t := by
  intro a0 s t h
  unfold execFunctionEnable at h
  cases h
  exact frame_hostCommand rfl (fun c st => onlyIn_mono (frame_bodyFunctionEnable c st) rfl)

theorem frame_execLaneStatus : ∀ a0 s t, execLaneStatus a0 s = .next t → onlyIn [.mb, .out] s t := by
  intro a0 s t h
  unfold execLaneStatus at h
  cases h
  exact frame_hostCommand rfl (fun c st => onlyIn_mono (frame_bodyLaneStatus c st) rfl)

theorem frame_execCoefBankWrite : ∀ a0 s t, execCoefBankWrite a0 s = .next t → onlyIn [.mb, .pf, .out] s t := by
  intro a0 s t h
  unfold execCoefBankWrite at h
  cases h
  exact frame_hostCommand rfl (fun c st => onlyIn_mono (frame_bodyCoefBankWrite c st) rfl)

theorem frame_execCoefBankSwap : ∀ a0 s t, execCoefBankSwap a0 s = .next t → onlyIn [.mb, .out] s t := by
  intro a0 s t h
  unfold execCoefBankSwap at h
  cases h
  exact frame_hostCommand rfl (fun c st => onlyIn_mono (frame_bodyCoefBankSwap c st) rfl)

theorem frame_execRecordCapture : ∀ a0 s t, execRecordCapture a0 s = .next t → onlyIn [.mb, .out, .free] s t := by
  intro a0 s t h
  unfold execRecordCapture at h
  cases h
  exact frame_hostCommand rfl (fun c st => onlyIn_mono (frame_bodyRecordCapture c st) rfl)

theorem frame_execRecordRead : ∀ a0 s t, execRecordRead a0 s = .next t → onlyIn [.mb, .out] s t := by
  intro a0 s t h
  unfold execRecordRead at h
  cases h
  exact frame_hostCommand rfl (fun c st => onlyIn_mono (frame_bodyRecordRead c st) rfl)

theorem frame_execReplayStatus : ∀ a0 s t, execReplayStatus a0 s = .next t → onlyIn [.mb, .out] s t := by
  intro a0 s t h
  unfold execReplayStatus at h
  cases h
  exact frame_hostCommand rfl (fun c st => onlyIn_mono (frame_bodyReplayStatus c st) rfl)

theorem frame_execReplayLoad : ∀ a0 s t, execReplayLoad a0 s = .next t → onlyIn [.mb, .gr, .out] s t := by
  intro a0 s t h
  unfold execReplayLoad at h
  cases h
  exact frame_hostCommand rfl (fun c st => onlyIn_mono (frame_bodyReplayLoad c st) rfl)

theorem frame_execReplayRun : ∀ a0 s t, execReplayRun a0 s = .next t → onlyIn [.mb, .pf, .ev, .gr, .vd, .ls, .out, .free] s t := by
  intro a0 s t h
  unfold execReplayRun at h
  cases h
  exact frame_hostCommand rfl (fun c st => onlyIn_mono (frame_bodyReplayRun c st) rfl)

theorem frame_execReplayAbort : ∀ a0 s t, execReplayAbort a0 s = .next t → onlyIn [.mb, .pf, .ev, .gr, .gn, .fb, .out] s t := by
  intro a0 s t h
  unfold execReplayAbort at h
  cases h
  exact frame_hostCommand rfl (fun c st => onlyIn_mono (frame_bodyReplayAbort c st) rfl)

theorem frame_execQzStatus : ∀ a0 s t, execQzStatus a0 s = .next t → onlyIn [.mb, .out] s t := by
  intro a0 s t h
  unfold execQzStatus at h
  cases h
  exact frame_hostCommand rfl (fun c st => onlyIn_mono (frame_bodyQzStatus c st) rfl)

theorem frame_execQzResultsRead : ∀ a0 s t, execQzResultsRead a0 s = .next t → onlyIn [.mb, .out] s t := by
  intro a0 s t h
  unfold execQzResultsRead at h
  cases h
  exact frame_hostCommand rfl (fun c st => onlyIn_mono (frame_bodyQzResultsRead c st) rfl)

theorem frame_execQzCropSelect : ∀ a0 s t, execQzCropSelect a0 s = .next t → onlyIn [.mb, .out] s t := by
  intro a0 s t h
  unfold execQzCropSelect at h
  cases h
  exact frame_hostCommand rfl (fun c st => onlyIn_mono (frame_bodyQzCropSelect c st) rfl)

theorem frame_execQzTapRequestTap : ∀ a0 s t, execQzTapRequestTap a0 s = .next t → onlyIn [.mb, .qz, .out] s t := by
  intro a0 s t h
  unfold execQzTapRequestTap at h
  cases h
  exact frame_hostCommand rfl (fun c st => onlyIn_mono (frame_bodyQzTapRequestTap c st) rfl)

theorem frame_execQzTapRequestTeach : ∀ a0 s t, execQzTapRequestTeach a0 s = .next t → onlyIn [.mb, .qz, .out] s t := by
  intro a0 s t h
  unfold execQzTapRequestTeach at h
  cases h
  exact frame_hostCommand rfl (fun c st => onlyIn_mono (frame_bodyQzTapRequestTeach c st) rfl)

theorem frame_execQzTapRequestForget : ∀ a0 s t, execQzTapRequestForget a0 s = .next t → onlyIn [.mb, .pf, .out] s t := by
  intro a0 s t h
  unfold execQzTapRequestForget at h
  cases h
  exact frame_hostCommand rfl (fun c st => onlyIn_mono (frame_bodyQzTapRequestForget c st) rfl)

theorem frame_execQzDiagRequest : ∀ a0 s t, execQzDiagRequest a0 s = .next t → onlyIn [.mb, .qz, .out] s t := by
  intro a0 s t h
  unfold execQzDiagRequest at h
  cases h
  exact frame_hostCommand rfl (fun c st => onlyIn_mono (frame_bodyQzDiagRequest c st) rfl)

theorem frame_execQzRawCaptureStatus : ∀ a0 s t, execQzRawCaptureStatus a0 s = .next t → onlyIn [.mb, .out] s t := by
  intro a0 s t h
  unfold execQzRawCaptureStatus at h
  cases h
  exact frame_hostCommand rfl (fun c st => onlyIn_mono (frame_bodyQzRawCaptureStatus c st) rfl)

theorem frame_execQzRawCaptureStart : ∀ a0 s t, execQzRawCaptureStart a0 s = .next t → onlyIn [.mb, .qz, .mc, .out] s t := by
  intro a0 s t h
  unfold execQzRawCaptureStart at h
  cases h
  exact frame_hostCommand rfl (fun c st => onlyIn_mono (frame_bodyQzRawCaptureStart c st) rfl)

theorem frame_execQzRawCaptureStop : ∀ a0 s t, execQzRawCaptureStop a0 s = .next t → onlyIn [.mb, .qz, .mc, .out] s t := by
  intro a0 s t h
  unfold execQzRawCaptureStop at h
  cases h
  exact frame_hostCommand rfl (fun c st => onlyIn_mono (frame_bodyQzRawCaptureStop c st) rfl)

theorem frame_execQzRawCaptureRead : ∀ a0 s t, execQzRawCaptureRead a0 s = .next t → onlyIn [.mb, .qz, .mc, .out] s t := by
  intro a0 s t h
  unfold execQzRawCaptureRead at h
  cases h
  exact frame_hostCommand rfl (fun c st => onlyIn_mono (frame_bodyQzRawCaptureRead c st) rfl)

theorem frame_execCfStatus : ∀ a0 s t, execCfStatus a0 s = .next t → onlyIn [.mb, .out] s t := by
  intro a0 s t h
  unfold execCfStatus at h
  cases h
  exact frame_hostCommand rfl (fun c st => onlyIn_mono (frame_bodyCfStatus c st) rfl)

theorem frame_execYieldRead : ∀ a0 s t, execYieldRead a0 s = .next t → onlyIn [.mb, .out] s t := by
  intro a0 s t h
  unfold execYieldRead at h
  cases h
  exact frame_hostCommand rfl (fun c st => onlyIn_mono (frame_bodyYieldRead c st) rfl)

theorem frame_execCfCalibrateFlowZero : ∀ a0 s t, execCfCalibrateFlowZero a0 s = .next t → onlyIn [.mb, .cf, .out] s t := by
  intro a0 s t h
  unfold execCfCalibrateFlowZero at h
  cases h
  exact frame_hostCommand rfl (fun c st => onlyIn_mono (frame_bodyCfCalibrateFlowZero c st) rfl)

theorem frame_execCfCalibrateTankTare : ∀ a0 s t, execCfCalibrateTankTare a0 s = .next t → onlyIn [.mb, .cf, .out] s t := by
  intro a0 s t h
  unfold execCfCalibrateTankTare at h
  cases h
  exact frame_hostCommand rfl (fun c st => onlyIn_mono (frame_bodyCfCalibrateTankTare c st) rfl)

theorem frame_execCfCalibrateLoadBegin : ∀ a0 s t, execCfCalibrateLoadBegin a0 s = .next t → onlyIn [.mb, .cf, .out] s t := by
  intro a0 s t h
  unfold execCfCalibrateLoadBegin at h
  cases h
  exact frame_hostCommand rfl (fun c st => onlyIn_mono (frame_bodyCfCalibrateLoadBegin c st) rfl)

theorem frame_execCfCalibrateLoadEnd : ∀ a0 s t, execCfCalibrateLoadEnd a0 s = .next t → onlyIn [.mb, .cf, .out] s t := by
  intro a0 s t h
  unfold execCfCalibrateLoadEnd at h
  cases h
  exact frame_hostCommand rfl (fun c st => onlyIn_mono (frame_bodyCfCalibrateLoadEnd c st) rfl)

theorem frame_execCfCalibrateLoadAbort : ∀ a0 s t, execCfCalibrateLoadAbort a0 s = .next t → onlyIn [.mb, .cf, .out] s t := by
  intro a0 s t h
  unfold execCfCalibrateLoadAbort at h
  cases h
  exact frame_hostCommand rfl (fun c st => onlyIn_mono (frame_bodyCfCalibrateLoadAbort c st) rfl)

theorem frame_execCfCalibrateGainReset : ∀ a0 s t, execCfCalibrateGainReset a0 s = .next t → onlyIn [.mb, .cf, .out] s t := by
  intro a0 s t h
  unfold execCfCalibrateGainReset at h
  cases h
  exact frame_hostCommand rfl (fun c st => onlyIn_mono (frame_bodyCfCalibrateGainReset c st) rfl)

theorem frame_execCfCalibrateDelayReset : ∀ a0 s t, execCfCalibrateDelayReset a0 s = .next t → onlyIn [.mb, .pf, .cf, .out] s t := by
  intro a0 s t h
  unfold execCfCalibrateDelayReset at h
  cases h
  exact frame_hostCommand rfl (fun c st => onlyIn_mono (frame_bodyCfCalibrateDelayReset c st) rfl)

theorem frame_execOptimizerTargets : ∀ a0 s t, execOptimizerTargets a0 s = .next t → onlyIn [.mb, .out] s t := by
  intro a0 s t h
  unfold execOptimizerTargets at h
  cases h
  exact frame_hostCommand rfl (fun c st => onlyIn_mono (frame_bodyOptimizerTargets c st) rfl)

theorem frame_execOptimizerEnable : ∀ a0 s t, execOptimizerEnable a0 s = .next t → onlyIn [.mb, .out] s t := by
  intro a0 s t h
  unfold execOptimizerEnable at h
  cases h
  exact frame_hostCommand rfl (fun c st => onlyIn_mono (frame_bodyOptimizerEnable c st) rfl)

theorem frame_execCoveragePutFieldOpen : ∀ a0 s t, execCoveragePutFieldOpen a0 s = .next t → onlyIn [.mb, .pf, .ev, .cf, .out] s t := by
  intro a0 s t h
  unfold execCoveragePutFieldOpen at h
  cases h
  exact frame_hostCommand rfl (fun c st => onlyIn_mono (frame_bodyCoveragePutFieldOpen c st) rfl)

theorem frame_execCoveragePutFieldClose : ∀ a0 s t, execCoveragePutFieldClose a0 s = .next t → onlyIn [.mb, .cf, .out] s t := by
  intro a0 s t h
  unfold execCoveragePutFieldClose at h
  cases h
  exact frame_hostCommand rfl (fun c st => onlyIn_mono (frame_bodyCoveragePutFieldClose c st) rfl)

theorem frame_execCoveragePutCells : ∀ a0 s t, execCoveragePutCells a0 s = .next t → onlyIn [.mb, .pf, .ev, .cf, .out] s t := by
  intro a0 s t h
  unfold execCoveragePutCells at h
  cases h
  exact frame_hostCommand rfl (fun c st => onlyIn_mono (frame_bodyCoveragePutCells c st) rfl)

theorem frame_execCoverageGetBits : ∀ a0 s t, execCoverageGetBits a0 s = .next t → onlyIn [.mb, .out] s t := by
  intro a0 s t h
  unfold execCoverageGetBits at h
  cases h
  exact frame_hostCommand rfl (fun c st => onlyIn_mono (frame_bodyCoverageGetBits c st) rfl)

theorem frame_execCoverageGetChanges : ∀ a0 s t, execCoverageGetChanges a0 s = .next t → onlyIn [.mb, .out] s t := by
  intro a0 s t h
  unfold execCoverageGetChanges at h
  cases h
  exact frame_hostCommand rfl (fun c st => onlyIn_mono (frame_bodyCoverageGetChanges c st) rfl)

theorem frame_execMapExport : ∀ a0 s t, execMapExport a0 s = .next t → onlyIn [.mb, .out] s t := by
  intro a0 s t h
  unfold execMapExport at h
  cases h
  exact frame_hostCommand rfl (fun c st => onlyIn_mono (frame_bodyMapExport c st) rfl)

theorem frame_execVdCommandOff : ∀ a0 s t, execVdCommandOff a0 s = .next t → onlyIn [.mb, .out] s t := by
  intro a0 s t h
  unfold execVdCommandOff at h
  cases h
  exact frame_hostCommand rfl (fun c st => onlyIn_mono (frame_bodyVdCommandOff c st) rfl)

theorem frame_execVdCommandPulse : ∀ a0 s t, execVdCommandPulse a0 s = .next t → onlyIn [.mb, .out] s t := by
  intro a0 s t h
  unfold execVdCommandPulse at h
  cases h
  exact frame_hostCommand rfl (fun c st => onlyIn_mono (frame_bodyVdCommandPulse c st) rfl)

theorem frame_execVdCommandCurrent : ∀ a0 s t, execVdCommandCurrent a0 s = .next t → onlyIn [.mb, .out] s t := by
  intro a0 s t h
  unfold execVdCommandCurrent at h
  cases h
  exact frame_hostCommand rfl (fun c st => onlyIn_mono (frame_bodyVdCommandCurrent c st) rfl)

theorem frame_execVdStatus : ∀ a0 s t, execVdStatus a0 s = .next t → onlyIn [.mb, .out] s t := by
  intro a0 s t h
  unfold execVdStatus at h
  cases h
  exact frame_hostCommand rfl (fun c st => onlyIn_mono (frame_bodyVdStatus c st) rfl)

theorem frame_execVdTimingRead : ∀ a0 s t, execVdTimingRead a0 s = .next t → onlyIn [.mb, .out] s t := by
  intro a0 s t h
  unfold execVdTimingRead at h
  cases h
  exact frame_hostCommand rfl (fun c st => onlyIn_mono (frame_bodyVdTimingRead c st) rfl)

theorem frame_execVdDiagChannel : ∀ a0 s t, execVdDiagChannel a0 s = .next t → onlyIn [.mb, .pf, .ev, .vd, .out] s t := by
  intro a0 s t h
  unfold execVdDiagChannel at h
  cases h
  exact frame_hostCommand rfl (fun c st => onlyIn_mono (frame_bodyVdDiagChannel c st) rfl)

theorem frame_execVdDiagBank : ∀ a0 s t, execVdDiagBank a0 s = .next t → onlyIn [.mb, .pf, .ev, .vd, .out] s t := by
  intro a0 s t h
  unfold execVdDiagBank at h
  cases h
  exact frame_hostCommand rfl (fun c st => onlyIn_mono (frame_bodyVdDiagBank c st) rfl)

theorem frame_execVdDiagClear : ∀ a0 s t, execVdDiagClear a0 s = .next t → onlyIn [.mb, .pf, .ev, .vd, .out] s t := by
  intro a0 s t h
  unfold execVdDiagClear at h
  cases h
  exact frame_hostCommand rfl (fun c st => onlyIn_mono (frame_bodyVdDiagClear c st) rfl)

theorem frame_execLsCommandOff : ∀ a0 s t, execLsCommandOff a0 s = .next t → onlyIn [.mb, .out] s t := by
  intro a0 s t h
  unfold execLsCommandOff at h
  cases h
  exact frame_hostCommand rfl (fun c st => onlyIn_mono (frame_bodyLsCommandOff c st) rfl)

theorem frame_execLsCommandOn : ∀ a0 s t, execLsCommandOn a0 s = .next t → onlyIn [.mb, .out] s t := by
  intro a0 s t h
  unfold execLsCommandOn at h
  cases h
  exact frame_hostCommand rfl (fun c st => onlyIn_mono (frame_bodyLsCommandOn c st) rfl)

theorem frame_execLsCommandPwm : ∀ a0 s t, execLsCommandPwm a0 s = .next t → onlyIn [.mb, .out] s t := by
  intro a0 s t h
  unfold execLsCommandPwm at h
  cases h
  exact frame_hostCommand rfl (fun c st => onlyIn_mono (frame_bodyLsCommandPwm c st) rfl)

theorem frame_execLsStatus : ∀ a0 s t, execLsStatus a0 s = .next t → onlyIn [.mb, .out] s t := by
  intro a0 s t h
  unfold execLsStatus at h
  cases h
  exact frame_hostCommand rfl (fun c st => onlyIn_mono (frame_bodyLsStatus c st) rfl)

theorem frame_execLsLatchClear : ∀ a0 s t, execLsLatchClear a0 s = .next t → onlyIn [.mb, .ls, .out] s t := by
  intro a0 s t h
  unfold execLsLatchClear at h
  cases h
  exact frame_hostCommand rfl (fun c st => onlyIn_mono (frame_bodyLsLatchClear c st) rfl)

theorem frame_execLsDiagOffState : ∀ a0 s t, execLsDiagOffState a0 s = .next t → onlyIn [.mb, .pf, .ev, .ls, .out] s t := by
  intro a0 s t h
  unfold execLsDiagOffState at h
  cases h
  exact frame_hostCommand rfl (fun c st => onlyIn_mono (frame_bodyLsDiagOffState c st) rfl)

theorem frame_execLsDiagOnTest : ∀ a0 s t, execLsDiagOnTest a0 s = .next t → onlyIn [.mb, .ls, .out] s t := by
  intro a0 s t h
  unfold execLsDiagOnTest at h
  cases h
  exact frame_hostCommand rfl (fun c st => onlyIn_mono (frame_bodyLsDiagOnTest c st) rfl)

theorem frame_execGnStatus : ∀ a0 s t, execGnStatus a0 s = .next t → onlyIn [.mb, .out] s t := by
  intro a0 s t h
  unfold execGnStatus at h
  cases h
  exact frame_hostCommand rfl (fun c st => onlyIn_mono (frame_bodyGnStatus c st) rfl)

theorem frame_execGnSolutionGet : ∀ a0 s t, execGnSolutionGet a0 s = .next t → onlyIn [.mb, .out] s t := by
  intro a0 s t h
  unfold execGnSolutionGet at h
  cases h
  exact frame_hostCommand rfl (fun c st => onlyIn_mono (frame_bodyGnSolutionGet c st) rfl)

theorem frame_execRtcmPut : ∀ a0 s t, execRtcmPut a0 s = .next t → onlyIn [.mb, .pf, .ev, .gn, .out] s t := by
  intro a0 s t h
  unfold execRtcmPut at h
  cases h
  exact frame_hostCommand rfl (fun c st => onlyIn_mono (frame_bodyRtcmPut c st) rfl)

theorem frame_execGnConfigRestart : ∀ a0 s t, execGnConfigRestart a0 s = .next t → onlyIn [.mb, .gn, .out] s t := by
  intro a0 s t h
  unfold execGnConfigRestart at h
  cases h
  exact frame_hostCommand rfl (fun c st => onlyIn_mono (frame_bodyGnConfigRestart c st) rfl)

theorem frame_execGnConfigSeed : ∀ a0 s t, execGnConfigSeed a0 s = .next t → onlyIn [.mb, .gn, .out] s t := by
  intro a0 s t h
  unfold execGnConfigSeed at h
  cases h
  exact frame_hostCommand rfl (fun c st => onlyIn_mono (frame_bodyGnConfigSeed c st) rfl)

theorem frame_execGnConfigNotchReset : ∀ a0 s t, execGnConfigNotchReset a0 s = .next t → onlyIn [.mb, .gn, .out] s t := by
  intro a0 s t h
  unfold execGnConfigNotchReset at h
  cases h
  exact frame_hostCommand rfl (fun c st => onlyIn_mono (frame_bodyGnConfigNotchReset c st) rfl)

theorem frame_execGnConfigAntennaRetry : ∀ a0 s t, execGnConfigAntennaRetry a0 s = .next t → onlyIn [.mb, .gn, .out] s t := by
  intro a0 s t h
  unfold execGnConfigAntennaRetry at h
  cases h
  exact frame_hostCommand rfl (fun c st => onlyIn_mono (frame_bodyGnConfigAntennaRetry c st) rfl)

theorem frame_execGnConfigImuSelftest : ∀ a0 s t, execGnConfigImuSelftest a0 s = .next t → onlyIn [.mb, .gn, .out] s t := by
  intro a0 s t h
  unfold execGnConfigImuSelftest at h
  cases h
  exact frame_hostCommand rfl (fun c st => onlyIn_mono (frame_bodyGnConfigImuSelftest c st) rfl)

theorem frame_execPathLoadLoadNext : ∀ a0 s t, execPathLoadLoadNext a0 s = .next t → onlyIn [.mb, .gn, .out] s t := by
  intro a0 s t h
  unfold execPathLoadLoadNext at h
  cases h
  exact frame_hostCommand rfl (fun c st => onlyIn_mono (frame_bodyPathLoadLoadNext c st) rfl)

theorem frame_execPathLoadClearNext : ∀ a0 s t, execPathLoadClearNext a0 s = .next t → onlyIn [.mb, .gn, .out] s t := by
  intro a0 s t h
  unfold execPathLoadClearNext at h
  cases h
  exact frame_hostCommand rfl (fun c st => onlyIn_mono (frame_bodyPathLoadClearNext c st) rfl)

theorem frame_execPathLoadShift : ∀ a0 s t, execPathLoadShift a0 s = .next t → onlyIn [.mb, .gn, .out] s t := by
  intro a0 s t h
  unfold execPathLoadShift at h
  cases h
  exact frame_hostCommand rfl (fun c st => onlyIn_mono (frame_bodyPathLoadShift c st) rfl)

theorem frame_execSteerEngage : ∀ a0 s t, execSteerEngage a0 s = .next t → onlyIn [.mb, .out] s t := by
  intro a0 s t h
  unfold execSteerEngage at h
  cases h
  exact frame_hostCommand rfl (fun c st => onlyIn_mono (frame_bodySteerEngage c st) rfl)

theorem frame_execFbStatus : ∀ a0 s t, execFbStatus a0 s = .next t → onlyIn [.mb, .out] s t := by
  intro a0 s t h
  unfold execFbStatus at h
  cases h
  exact frame_hostCommand rfl (fun c st => onlyIn_mono (frame_bodyFbStatus c st) rfl)

theorem frame_execFbTopology : ∀ a0 s t, execFbTopology a0 s = .next t → onlyIn [.mb, .out] s t := by
  intro a0 s t h
  unfold execFbTopology at h
  cases h
  exact frame_hostCommand rfl (fun c st => onlyIn_mono (frame_bodyFbTopology c st) rfl)

theorem frame_execFbNodeAssign : ∀ a0 s t, execFbNodeAssign a0 s = .next t → onlyIn [.mb, .pf, .ev, .fb, .out] s t := by
  intro a0 s t h
  unfold execFbNodeAssign at h
  cases h
  exact frame_hostCommand rfl (fun c st => onlyIn_mono (frame_bodyFbNodeAssign c st) rfl)

theorem frame_execFbCableTest : ∀ a0 s t, execFbCableTest a0 s = .next t → onlyIn [.mb, .pf, .ev, .gn, .fb, .out, .free] s t := by
  intro a0 s t h
  unfold execFbCableTest at h
  cases h
  exact frame_hostCommand rfl (fun c st => onlyIn_mono (frame_bodyFbCableTest c st) rfl)

theorem frame_execCnStatus : ∀ a0 s t, execCnStatus a0 s = .next t → onlyIn [.mb, .out] s t := by
  intro a0 s t h
  unfold execCnStatus at h
  cases h
  exact frame_hostCommand rfl (fun c st => onlyIn_mono (frame_bodyCnStatus c st) rfl)

theorem frame_execCnConfigRestart : ∀ a0 s t, execCnConfigRestart a0 s = .next t → onlyIn [.mb, .pf, .ev, .cn, .out] s t := by
  intro a0 s t h
  unfold execCnConfigRestart at h
  cases h
  exact frame_hostCommand rfl (fun c st => onlyIn_mono (frame_bodyCnConfigRestart c st) rfl)

theorem frame_execCnConfigReclaim : ∀ a0 s t, execCnConfigReclaim a0 s = .next t → onlyIn [.mb, .pf, .ev, .cn, .out] s t := by
  intro a0 s t h
  unfold execCnConfigReclaim at h
  cases h
  exact frame_hostCommand rfl (fun c st => onlyIn_mono (frame_bodyCnConfigReclaim c st) rfl)

theorem frame_execCnSend : ∀ a0 s t, execCnSend a0 s = .next t → onlyIn [.mb, .cn, .out] s t := by
  intro a0 s t h
  unfold execCnSend at h
  cases h
  exact frame_hostCommand rfl (fun c st => onlyIn_mono (frame_bodyCnSend c st) rfl)

theorem frame_execCnCancel : ∀ a0 s t, execCnCancel a0 s = .next t → onlyIn [.mb, .cn, .out, .free] s t := by
  intro a0 s t h
  unfold execCnCancel at h
  cases h
  exact frame_hostCommand rfl (fun c st => onlyIn_mono (frame_bodyCnCancel c st) rfl)

theorem frame_execCnFilterSet : ∀ a0 s t, execCnFilterSet a0 s = .next t → onlyIn [.mb, .cn, .out] s t := by
  intro a0 s t h
  unfold execCnFilterSet at h
  cases h
  exact frame_hostCommand rfl (fun c st => onlyIn_mono (frame_bodyCnFilterSet c st) rfl)

theorem frame_execMcStatus : ∀ a0 s t, execMcStatus a0 s = .next t → onlyIn [.mb, .out] s t := by
  intro a0 s t h
  unfold execMcStatus at h
  cases h
  exact frame_hostCommand rfl (fun c st => onlyIn_mono (frame_bodyMcStatus c st) rfl)

theorem frame_execStoreStatus : ∀ a0 s t, execStoreStatus a0 s = .next t → onlyIn [.mb, .out] s t := by
  intro a0 s t h
  unfold execStoreStatus at h
  cases h
  exact frame_hostCommand rfl (fun c st => onlyIn_mono (frame_bodyStoreStatus c st) rfl)

theorem frame_execMcBankState : ∀ a0 s t, execMcBankState a0 s = .next t → onlyIn [.mb, .mc, .out] s t := by
  intro a0 s t h
  unfold execMcBankState at h
  cases h
  exact frame_hostCommand rfl (fun c st => onlyIn_mono (frame_bodyMcBankState c st) rfl)

theorem frame_execMapFlush : ∀ a0 s t, execMapFlush a0 s = .next t → onlyIn [.mb, .mc, .out] s t := by
  intro a0 s t h
  unfold execMapFlush at h
  cases h
  exact frame_hostCommand rfl (fun c st => onlyIn_mono (frame_bodyMapFlush c st) rfl)

theorem frame_execEvRead : ∀ a0 s t, execEvRead a0 s = .next t → onlyIn [.mb, .out] s t := by
  intro a0 s t h
  unfold execEvRead at h
  cases h
  exact frame_hostCommand rfl (fun c st => onlyIn_mono (frame_bodyEvRead c st) rfl)

theorem frame_execEvReadPriv : ∀ a0 s t, execEvReadPriv a0 s = .next t → onlyIn [.mb, .out] s t := by
  intro a0 s t h
  unfold execEvReadPriv at h
  cases h
  exact frame_hostCommand rfl (fun c st => onlyIn_mono (frame_bodyEvReadPriv c st) rfl)

theorem frame_execEvCount : ∀ a0 s t, execEvCount a0 s = .next t → onlyIn [.mb, .out] s t := by
  intro a0 s t h
  unfold execEvCount at h
  cases h
  exact frame_hostCommand rfl (fun c st => onlyIn_mono (frame_bodyEvCount c st) rfl)

theorem frame_execEvClear : ∀ a0 s t, execEvClear a0 s = .next t → onlyIn [.mb, .pf, .ev, .out] s t := by
  intro a0 s t h
  unfold execEvClear at h
  cases h
  exact frame_hostCommand rfl (fun c st => onlyIn_mono (frame_bodyEvClear c st) rfl)

theorem frame_execInject : ∀ a0 s t, execInject a0 s = .next t → onlyIn [.mb, .ev, .out] s t := by
  intro a0 s t h
  unfold execInject at h
  cases h
  exact frame_hostCommand rfl (fun c st => onlyIn_mono (frame_bodyInject c st) rfl)

theorem frame_execInjectClear : ∀ a0 s t, execInjectClear a0 s = .next t → onlyIn [.mb, .ev, .out] s t := by
  intro a0 s t h
  unfold execInjectClear at h
  cases h
  exact frame_hostCommand rfl (fun c st => onlyIn_mono (frame_bodyInjectClear c st) rfl)

theorem frame_execInjectList : ∀ a0 s t, execInjectList a0 s = .next t → onlyIn [.mb, .out] s t := by
  intro a0 s t h
  unfold execInjectList at h
  cases h
  exact frame_hostCommand rfl (fun c st => onlyIn_mono (frame_bodyInjectList c st) rfl)

theorem frame_execSelftest : ∀ a0 s t, execSelftest a0 s = .next t → onlyIn [.mb, .pf, .ev, .out, .free] s t := by
  intro a0 s t h
  unfold execSelftest at h
  cases h
  exact frame_hostCommand rfl (fun c st => onlyIn_mono (frame_bodySelftest c st) rfl)

theorem frame_execUpdateBegin : ∀ a0 s t, execUpdateBegin a0 s = .next t → onlyIn [.mb, .pf, .ev, .qz, .fb, .mc, .up, .out] s t := by
  intro a0 s t h
  unfold execUpdateBegin at h
  cases h
  exact frame_hostCommand rfl (fun c st => onlyIn_mono (frame_bodyUpdateBegin c st) rfl)

theorem frame_execUpdateData : ∀ a0 s t, execUpdateData a0 s = .next t → onlyIn [.mb, .pf, .ev, .fb, .mc, .up, .out] s t := by
  intro a0 s t h
  unfold execUpdateData at h
  cases h
  exact frame_hostCommand rfl (fun c st => onlyIn_mono (frame_bodyUpdateData c st) rfl)

theorem frame_execUpdateStatus : ∀ a0 s t, execUpdateStatus a0 s = .next t → onlyIn [.mb, .out] s t := by
  intro a0 s t h
  unfold execUpdateStatus at h
  cases h
  exact frame_hostCommand rfl (fun c st => onlyIn_mono (frame_bodyUpdateStatus c st) rfl)

theorem frame_execUpdateActivate : ∀ a0 s t, execUpdateActivate a0 s = .next t → onlyIn [.mb, .pf, .ev, .fb, .up, .out] s t := by
  intro a0 s t h
  unfold execUpdateActivate at h
  cases h
  exact frame_hostCommand rfl (fun c st => onlyIn_mono (frame_bodyUpdateActivate c st) rfl)

theorem frame_execUpdateConfirm : ∀ a0 s t, execUpdateConfirm a0 s = .next t → onlyIn [.mb, .pf, .ev, .fb, .up, .out] s t := by
  intro a0 s t h
  unfold execUpdateConfirm at h
  cases h
  exact frame_hostCommand rfl (fun c st => onlyIn_mono (frame_bodyUpdateConfirm c st) rfl)

theorem frame_execUpdateAbortStaging : ∀ a0 s t, execUpdateAbortStaging a0 s = .next t → onlyIn [.mb, .pf, .ev, .fb, .mc, .up, .out] s t := by
  intro a0 s t h
  unfold execUpdateAbortStaging at h
  cases h
  exact frame_hostCommand rfl (fun c st => onlyIn_mono (frame_bodyUpdateAbortStaging c st) rfl)

theorem frame_execUpdateAbortFallback : ∀ a0 s t, execUpdateAbortFallback a0 s = .next t → onlyIn [.clk, .mb, .pf, .ev, .gr, .qz, .cf, .vd, .ls, .gn, .fb, .cn, .mc, .up, .an, .rs, .pw, .sp, .out, .free] s t := by
  intro a0 s t h
  unfold execUpdateAbortFallback at h
  cases h
  exact frame_hostCommand rfl (fun c st => onlyIn_mono (frame_bodyUpdateAbortFallback c st) rfl)

theorem frame_execUpdateAbortResolveAbort : ∀ a0 s t, execUpdateAbortResolveAbort a0 s = .next t → onlyIn [.mb, .pf, .ev, .up, .out] s t := by
  intro a0 s t h
  unfold execUpdateAbortResolveAbort at h
  cases h
  exact frame_hostCommand rfl (fun c st => onlyIn_mono (frame_bodyUpdateAbortResolveAbort c st) rfl)

theorem frame_execResetRequest : ∀ a0 s t, execResetRequest a0 s = .next t → onlyIn [.mb, .rs, .out] s t := by
  intro a0 s t h
  unfold execResetRequest at h
  cases h
  exact frame_hostCommand rfl (fun c st => onlyIn_mono (frame_bodyResetRequest c st) rfl)

theorem frame_execLifecycleGet : ∀ a0 s t, execLifecycleGet a0 s = .next t → onlyIn [.mb, .out] s t := by
  intro a0 s t h
  unfold execLifecycleGet at h
  cases h
  exact frame_hostCommand rfl (fun c st => onlyIn_mono (frame_bodyLifecycleGet c st) rfl)

theorem frame_execLifecycleSetTransition : ∀ a0 s t, execLifecycleSetTransition a0 s = .next t → onlyIn [.clk, .mb, .pf, .ev, .gr, .qz, .cf, .vd, .ls, .gn, .fb, .cn, .mc, .up, .an, .rs, .pw, .sp, .out, .free] s t := by
  intro a0 s t h
  unfold execLifecycleSetTransition at h
  cases h
  exact frame_hostCommand rfl (fun c st => onlyIn_mono (frame_bodyLifecycleSetTransition c st) rfl)

theorem frame_execLifecycleSetProvisionKey : ∀ a0 s t, execLifecycleSetProvisionKey a0 s = .next t → onlyIn [.mb, .pf, .ev, .rs, .out] s t := by
  intro a0 s t h
  unfold execLifecycleSetProvisionKey at h
  cases h
  exact frame_hostCommand rfl (fun c st => onlyIn_mono (frame_bodyLifecycleSetProvisionKey c st) rfl)

theorem frame_execLifecycleSetRevokeKey : ∀ a0 s t, execLifecycleSetRevokeKey a0 s = .next t → onlyIn [.mb, .rs, .out] s t := by
  intro a0 s t h
  unfold execLifecycleSetRevokeKey at h
  cases h
  exact frame_hostCommand rfl (fun c st => onlyIn_mono (frame_bodyLifecycleSetRevokeKey c st) rfl)

theorem frame_execOwnerLockSet : ∀ a0 s t, execOwnerLockSet a0 s = .next t → onlyIn [.mb, .pf, .ev, .rs, .out] s t := by
  intro a0 s t h
  unfold execOwnerLockSet at h
  cases h
  exact frame_hostCommand rfl (fun c st => onlyIn_mono (frame_bodyOwnerLockSet c st) rfl)

theorem frame_execOwnerLockClear : ∀ a0 s t, execOwnerLockClear a0 s = .next t → onlyIn [.mb, .pf, .ev, .rs, .out] s t := by
  intro a0 s t h
  unfold execOwnerLockClear at h
  cases h
  exact frame_hostCommand rfl (fun c st => onlyIn_mono (frame_bodyOwnerLockClear c st) rfl)

theorem frame_execOwnerLockPermitService : ∀ a0 s t, execOwnerLockPermitService a0 s = .next t → onlyIn [.mb, .rs, .out] s t := by
  intro a0 s t h
  unfold execOwnerLockPermitService at h
  cases h
  exact frame_hostCommand rfl (fun c st => onlyIn_mono (frame_bodyOwnerLockPermitService c st) rfl)

theorem frame_execStandbyEnter : ∀ a0 s t, execStandbyEnter a0 s = .next t → onlyIn [.mb, .pw, .out] s t := by
  intro a0 s t h
  unfold execStandbyEnter at h
  cases h
  exact frame_hostCommand rfl (fun c st => onlyIn_mono (frame_bodyStandbyEnter c st) rfl)

theorem frame_execPowerStatus : ∀ a0 s t, execPowerStatus a0 s = .next t → onlyIn [.mb, .out] s t := by
  intro a0 s t h
  unfold execPowerStatus at h
  cases h
  exact frame_hostCommand rfl (fun c st => onlyIn_mono (frame_bodyPowerStatus c st) rfl)

theorem frame_execDomainState : ∀ a0 s t, execDomainState a0 s = .next t → onlyIn [.mb, .pf, .ev, .qz, .gn, .pw, .sp, .out] s t := by
  intro a0 s t h
  unfold execDomainState at h
  cases h
  exact frame_hostCommand rfl (fun c st => onlyIn_mono (frame_bodyDomainState c st) rfl)

theorem frame_execSpWrite : ∀ a0 s t, execSpWrite a0 s = .next t → onlyIn [.mb, .sp, .out] s t := by
  intro a0 s t h
  unfold execSpWrite at h
  cases h
  exact frame_hostCommand rfl (fun c st => onlyIn_mono (frame_bodySpWrite c st) rfl)

theorem frame_execSpStatus : ∀ a0 s t, execSpStatus a0 s = .next t → onlyIn [.mb, .out] s t := by
  intro a0 s t h
  unfold execSpStatus at h
  cases h
  exact frame_hostCommand rfl (fun c st => onlyIn_mono (frame_bodySpStatus c st) rfl)

end Sys2Proof.Machine
end

