-- ==== Sys2Proof/Laws/FrameMicaEvents.lean ====
section
/-!
SUPPORT. Laws/FrameMicaEvents.lean: the parts of the state that the definitions of Machine/MicaEvents.lean may change.
-/

namespace Sys2Proof.Machine

open Sys2Proof.Safety

theorem frame_ringLost : ∀ s, onlyIn [.mb, .pf, .ev, .qz, .fb, .mc, .up, .out] s (ringLost s) := by
  intro s
  unfold ringLost
  split
  · refine onlyIn_ite ?_ ?_
    · refine onlyIn_step (frame_ringFree _) rfl ?_
      refine onlyIn_step (frame_capturePreempt _) rfl ?_
      exact onlyIn_refl _ _
    · exact onlyIn_refl _ _
  · refine onlyIn_fold _ _ (fun st0 a1 => ?_) ?_
    · refine onlyIn_step (frame_abortStaging _ _ _) rfl ?_
      exact onlyIn_refl _ _
    · exact onlyIn_refl _ _
  · exact onlyIn_refl _ _

theorem frame_lineLost : ∀ s, onlyIn [.mb, .pf, .ev, .cf, .out, .free] s (lineLost s) := by
  intro s
  unfold lineLost
  extract_lets +onlyGivenNames u a b fields src src2 s1
  have hb : onlyIn [.mb, .pf, .ev, .cf, .out, .free] s b.2 :=
    onlyIn_step (frame_freshNat _) rfl (onlyIn_step (frame_freshNat _) rfl (onlyIn_refl _ _))
  have h1 : onlyIn [.mb, .pf, .ev, .cf, .out, .free] s s1 := by
    dsimp only [s1]
    refine onlyIn_ite hb ?_
    split
    · exact hb
    · exact onlyIn_step (frame_happen _ _ _ _) rfl (onlyIn_step (onlyIn_put_cf _ _) rfl hb)
  clear_value s1
  have hc : onlyIn [.mb, .pf, .ev, .cf, .out, .free] s (freshBool s1).2 := onlyIn_step (frame_freshBool _) rfl h1
  refine onlyIn_ite ?_ h1
  exact onlyIn_ite (onlyIn_step (frame_updPf _ _) rfl hc) hc

theorem frame_entryLost : ∀ s, onlyIn [.ev, .free] s (entryLost s) := by
  intro s
  unfold entryLost
  extract_lets +onlyGivenNames x0
  have h1 : onlyIn [.ev, .free] s x0.2 := by
    dsimp only [x0]
    refine onlyIn_step (frame_freshNat _) rfl ?_
    exact onlyIn_refl _ _
  clear_value x0
  extract_lets +onlyGivenNames x2
  have h3 : onlyIn [.ev, .free] s x2.2 := by
    dsimp only [x2]
    refine onlyIn_step (frame_freshBool _) rfl ?_
    exact h1
  clear_value x2
  refine onlyIn_ite ?_ ?_
  · extract_lets +onlyGivenNames x4
    have h5 : onlyIn [.ev, .free] s x4 := by
      dsimp only [x4]
      exact h3
    clear_value x4
    refine onlyIn_step (onlyIn_put_ev _ _) rfl ?_
    exact h5
  · exact h3

theorem frame_bankAction : ∀ a0 a1 s, onlyIn [.clk, .mb, .pf, .ev, .gr, .qz, .cf, .vd, .ls, .gn, .fb, .cn, .mc, .up, .an, .rs, .pw, .sp, .out, .free] s (bankAction a0 a1 s) := by
  intro a0 a1 s
  unfold bankAction
  refine onlyIn_ite ?_ ?_
  · extract_lets +onlyGivenNames x0
    have h1 : onlyIn [.clk, .mb, .pf, .ev, .gr, .qz, .cf, .vd, .ls, .gn, .fb, .cn, .mc, .up, .an, .rs, .pw, .sp, .out, .free] s x0.2 := by
      dsimp only [x0]
      refine onlyIn_step (frame_freshNat _) rfl ?_
      exact onlyIn_refl _ _
    clear_value x0
    refine onlyIn_step (frame_updMc _ _) rfl ?_
    exact h1
  · refine onlyIn_ite ?_ ?_
    · refine onlyIn_step (frame_assertSource _ _ _ _) rfl ?_
      exact onlyIn_refl _ _
    · refine onlyIn_ite ?_ ?_
      · refine onlyIn_step (frame_softUnit _ _ _) rfl ?_
        exact onlyIn_refl _ _
      · refine onlyIn_ite ?_ ?_
        · refine onlyIn_step (frame_softUnit _ _ _) rfl ?_
          exact onlyIn_refl _ _
        · refine onlyIn_ite ?_ ?_
          · refine onlyIn_step (frame_ringLost _) rfl ?_
            exact onlyIn_refl _ _
          · refine onlyIn_ite ?_ ?_
            · refine onlyIn_step (frame_lineLost _) rfl ?_
              exact onlyIn_refl _ _
            · refine onlyIn_ite ?_ ?_
              · refine onlyIn_step (frame_entryLost _) rfl ?_
                exact onlyIn_refl _ _
              · exact onlyIn_refl _ _

theorem frame_micaBad : ∀ a0 a1 s, onlyIn [.clk, .mb, .pf, .ev, .gr, .qz, .cf, .vd, .ls, .gn, .fb, .cn, .mc, .up, .an, .rs, .pw, .sp, .out, .free] s (micaBad a0 a1 s) := by
  intro a0 a1 s
  unfold micaBad
  extract_lets +onlyGivenNames x0
  have h1 : onlyIn [.clk, .mb, .pf, .ev, .gr, .qz, .cf, .vd, .ls, .gn, .fb, .cn, .mc, .up, .an, .rs, .pw, .sp, .out, .free] s x0 := by
    dsimp only [x0]
    refine onlyIn_step (frame_updMc _ _) rfl ?_
    exact onlyIn_refl _ _
  clear_value x0
  refine onlyIn_step (frame_happen _ _ _ _) rfl ?_
  refine onlyIn_step (frame_bankAction _ _ _) rfl ?_
  exact h1

theorem frame_execMicaUncorrectable : ∀ a0 a1 s t, execMicaUncorrectable a0 a1 s = .next t → onlyIn [.clk, .mb, .pf, .ev, .gr, .qz, .cf, .vd, .ls, .gn, .fb, .cn, .mc, .up, .an, .rs, .pw, .sp, .out, .free] s t := by
  intro a0 a1 s t h
  unfold execMicaUncorrectable at h
  cases h
  refine onlyIn_ite ?_ ?_
  · refine onlyIn_step (frame_micaBad _ _ _) rfl ?_
    exact onlyIn_refl _ _
  · exact onlyIn_refl _ _

theorem frame_execScrubLine : ∀ a0 a1 a2 s t, execScrubLine a0 a1 a2 s = .next t → onlyIn [.clk, .mb, .pf, .ev, .gr, .qz, .cf, .vd, .ls, .gn, .fb, .cn, .mc, .up, .an, .rs, .pw, .sp, .out, .free] s t := by
  intro a0 a1 a2 s t h
  unfold execScrubLine at h
  cases h
  refine onlyIn_ite ?_ ?_
  · extract_lets +onlyGivenNames x0
    have h1 : onlyIn [.clk, .mb, .pf, .ev, .gr, .qz, .cf, .vd, .ls, .gn, .fb, .cn, .mc, .up, .an, .rs, .pw, .sp, .out, .free] s x0 := by
      dsimp only [x0]
      refine onlyIn_step (frame_scrubFirst _) rfl ?_
      exact onlyIn_refl _ _
    clear_value x0
    extract_lets +onlyGivenNames x2
    clear_value x2
    extract_lets +onlyGivenNames x3
    clear_value x3
    extract_lets +onlyGivenNames x4
    have h5 : onlyIn [.clk, .mb, .pf, .ev, .gr, .qz, .cf, .vd, .ls, .gn, .fb, .cn, .mc, .up, .an, .rs, .pw, .sp, .out, .free] s x4 := by
      dsimp only [x4]
      refine onlyIn_step (frame_scrubLine _ _) rfl ?_
      exact h1
    clear_value x4
    refine onlyIn_ite ?_ ?_
    · refine onlyIn_step (frame_micaBad _ _ _) rfl ?_
      exact h5
    · exact h5
  · exact onlyIn_refl _ _

theorem frame_nandDurable : ∀ a0 s, onlyIn [.mb, .pf, .cf, .mc, .out] s (nandDurable a0 s) := by
  intro a0 s
  unfold nandDurable
  split
  · refine onlyIn_step (frame_saveDone _) rfl ?_
    exact onlyIn_refl _ _
  · refine onlyIn_step (frame_updPf _ _) rfl ?_
    exact onlyIn_refl _ _
  · refine onlyIn_step (frame_pageDurable _) rfl ?_
    exact onlyIn_refl _ _
  · exact onlyIn_refl _ _

theorem frame_nandLost : ∀ a0 s, onlyIn [.mb, .pf, .mc, .out, .free] s (nandLost a0 s) := by
  intro a0 s
  unfold nandLost
  split
  · split
    · exact onlyIn_refl _ _
    · extract_lets +onlyGivenNames x0
      have h1 : onlyIn [.mb, .pf, .mc, .out, .free] s x0.2 := by
        dsimp only [x0]
        refine onlyIn_step (frame_freshNat _) rfl ?_
        exact onlyIn_refl _ _
      clear_value x0
      extract_lets +onlyGivenNames x2
      have h3 : onlyIn [.mb, .pf, .mc, .out, .free] s x2.2 := by
        dsimp only [x2]
        refine onlyIn_step (frame_freshBool _) rfl ?_
        refine onlyIn_step (frame_updPf _ _) rfl ?_
        exact h1
      clear_value x2
      refine onlyIn_step (frame_resolve _ _ _ _) rfl ?_
      refine onlyIn_ite ?_ ?_
      · refine onlyIn_step (frame_storeCopy _ _ _) rfl ?_
        exact h3
      · exact h3
  · refine onlyIn_step (frame_updPf _ _) rfl ?_
    exact onlyIn_refl _ _
  · refine onlyIn_step (frame_updMc _ _) rfl ?_
    exact onlyIn_refl _ _
  · exact onlyIn_refl _ _

theorem frame_execNandWriteDone : ∀ a0 a1 s t, execNandWriteDone a0 a1 s = .next t → onlyIn [.mb, .pf, .ev, .cf, .mc, .out, .free] s t := by
  intro a0 a1 s t h
  unfold execNandWriteDone at h
  extract_lets +onlyGivenNames x0 at h
  clear_value x0
  extract_lets +onlyGivenNames x1 at h
  dsimp only [x1] at h
  clear x1
  cases h
  refine onlyIn_ite ?_ ?_
  · exact onlyIn_refl _ _
  · refine onlyIn_ite ?_ ?_
    · refine onlyIn_step (frame_nandDurable _ _) rfl ?_
      refine onlyIn_step (frame_updMc _ _) rfl ?_
      exact onlyIn_refl _ _
    · refine onlyIn_ite ?_ ?_
      · refine onlyIn_step (frame_happen _ _ _ _) rfl ?_
        refine onlyIn_step (frame_nandLost _ _) rfl ?_
        refine onlyIn_step (frame_updMc _ _) rfl ?_
        exact onlyIn_refl _ _
      · refine onlyIn_step (frame_updMc _ _) rfl ?_
        exact onlyIn_refl _ _

end Sys2Proof.Machine
end

