-- ==== Sys2Proof/Laws/HostCmd.lean ====
section
/-!
SUPPORT. Laws/HostCmd.lean: what a mailbox command does once it comes to its own checks, and before.
-/

namespace Sys2Proof.Machine

open Sys2Proof.Safety

/-- A command that comes to its own checks runs its body and concludes. -/
theorem hostCommand_reaches {code : Nat} {r : Req} {c : Ctx} {s : State} (body : Body) (h : reaches code r c s = true) :
    hostCommand code body r s = conclude c (body c s) := by
  simp only [reaches, atStep7, sessionFree, Bool.and_eq_true, beq_iff_eq, Bool.not_eq_true'] at h
  obtain ⟨⟨⟨⟨⟨hu, hc⟩, ho⟩, hf⟩, hr⟩, hb⟩ := h
  have hrun : runBody c body s = conclude c (body c s) := by simp [runBody, ho, hr, hb]
  simp only [hostCommand, hu, if_true, hc]
  unfold acceptCommand
  split
  · exact hrun
  · rename_i x hx
    simp only [hx] at hf
    simp only [Bool.not_eq_true'] at hf
    simp only [hf]
    exact hrun

/-- The context of a command that comes to its own checks. -/
theorem reaches_ctx {code : Nat} {r : Req} {c : Ctx} {s : State} (h : reaches code r c s = true) :
    c.payload = r.payload ∧ c.arrival = s.clk.frame ∧ c.seq = r.seq ∧ c.code = code ∧ c.session = r.session ∧ c.binding = r.binding := by
  simp only [reaches, atStep7, Bool.and_eq_true, beq_iff_eq] at h
  have h2 := h.1.1.1.1.2
  unfold ctxOf at h2
  split at h2
  · rename_i h0
    cases h2
    exact ⟨rfl, rfl, rfl, rfl, h0.symm, rfl⟩
  · cases hh : findSess s r.session <;> simp [hh] at h2
    subst h2
    rename_i x
    have : x.num = r.session := by simpa using List.find?_some hh
    exact ⟨rfl, rfl, rfl, rfl, this, rfl⟩

/-- A command with several operations: the operation chosen. -/
theorem withOp_eq {off op : Nat} (body : Body) {c : Ctx} {s : State} (h : off < c.payload.length) (ho : rdN c.payload off 1 = op) :
    withOp off op body c s = body c s := by simp [withOp, h, ho]

/-- A body that ends at once is answered. -/
@[simp] theorem conclude_ans (c : Ctx) (s : State) (st : Nat) (b : Bytes) : conclude c (ans s st b) = answer c st b s := rfl

@[simp] theorem conclude_done (c : Ctx) (s : State) (st : Nat) (b : Bytes) : conclude c (s, .done st b) = answer c st b s := rfl

@[simp] theorem conclude_sent (c : Ctx) (s : State) : conclude c (s, .sent) = s := rfl

/-- A command that carries no payload. -/
theorem emptyPayload_eq (body : Body) (c : Ctx) (s : State) :
    emptyPayload body c s = if c.payload = [] then body c s else ans s stBadArg := by
  cases h : c.payload <;> simp [emptyPayload, h]

/-- A T command whose prefix lets it in and whose owner has no objection is handed over and answered. -/
theorem timedBody_in {c : Ctx} {s : State} {st f : Nat} {n : Bool} (check : Ctx → State → Option (Nat × Bytes))
    (post : Ctx → TCmd → State → State × Bytes) (h : timed c st f n s = true) (hc : check c s = none) :
    timedBody check post c s =
      ans (post c (tcmdOf c f n s) (handOver (tcmdOf c f n s) s)).1 st (post c (tcmdOf c f n s) (handOver (tcmdOf c f n s) s)).2 := by
  unfold timed at h
  split at h
  · rename_i target exact m ht
    simp only [Bool.and_eq_true, Bool.or_eq_true, beq_iff_eq, decide_eq_true_eq] at h
    obtain ⟨⟨⟨rfl, hr⟩, hs⟩, hl⟩ := h
    have h3 : st ≠ stBadArg := by rcases hs with rfl | rfl <;> decide
    have h10 : st ≠ stTooLate := by rcases hs with rfl | rfl <;> decide
    simp [timedBody, ht, hr, hc, h3, h10, Nat.not_le.mpr hl]
  · cases h

end Sys2Proof.Machine
end

