-- ==== Sys2Proof/Laws/HostRows.lean ====
section
/-!
SUPPORT. Laws/HostRows.lean: every row of the table that is a mailbox command goes through steps 7 to 10 with its own code and body.
-/

namespace Sys2Proof.Machine

open Sys2Proof.Safety

/-- What `hostRow` says of a command: as a mailbox row it runs `hostCommand`. -/
def RowRuns (i : Instr) : Option (Nat × Req) → Prop
  | none => True
  | some (code, r) => ∃ body : Body, ∀ s, exec i s = .next (hostCommand code body r s)

theorem hostRow_runs (i : Instr) : RowRuns i (hostRow i) := by
  cases i <;> first | exact True.intro | exact ⟨_, fun _ => rfl⟩

/-- A mailbox row is its code's host command with some body. -/
theorem hostRow_exec {i : Instr} {code : Nat} {r : Req} (h : hostRow i = some (code, r)) :
    ∃ body : Body, ∀ s, exec i s = .next (hostCommand code body r s) := by
  have := hostRow_runs i
  rwa [h] at this

end Sys2Proof.Machine
end

