-- ==== Sys2Proof/Laws/Mica.lean ====
section
/-!
SUPPORT. Laws/Mica.lean: the memory operations of Mica keep the canonical form; a read after a write.
-/

namespace Sys2Proof.Machine

open Sys2Proof.Safety

theorem memWfFrom_mono {lo lo' : Nat} {m : Memory} (h : memWfFrom lo m = true) (hl : lo' ≤ lo) : memWfFrom lo' m = true := by
  cases m with
  | nil => rfl
  | cons c m =>
    simp only [memWfFrom, Bool.and_eq_true, decide_eq_true_eq] at h ⊢
    exact ⟨⟨by omega, h.1.2⟩, h.2⟩

theorem memWfFrom_writeByte {a lo : Nat} {b : Byte} {m : Memory} (h : memWfFrom lo m = true) (hl : lo ≤ a) :
    memWfFrom lo (writeByte a b m) = true := by
  induction m generalizing lo with
  | nil =>
    unfold writeByte
    split
    · rfl
    · simp_all [memWfFrom]
  | cons c m ih =>
    simp only [memWfFrom, Bool.and_eq_true, decide_eq_true_eq, bne_iff_ne] at h
    obtain ⟨⟨h1, h2⟩, h3⟩ := h
    unfold writeByte
    split
    · split
      · simp_all [memWfFrom]
      · simp_all [memWfFrom]
    · split
      · split
        · exact memWfFrom_mono h3 (by omega)
        · simp_all [memWfFrom]
      · simp only [memWfFrom, Bool.and_eq_true, decide_eq_true_eq, bne_iff_ne]
        exact ⟨⟨h1, h2⟩, ih h3 (by omega)⟩

theorem wf_writeByte {a : Nat} {b : Byte} {m : Memory} (h : m.wf = true) : (writeByte a b m).wf = true :=
  memWfFrom_writeByte h (Nat.zero_le _)

theorem wf_writeBytes {a : Nat} {bs : Bytes} {m : Memory} (h : m.wf = true) : (writeBytes a bs m).wf = true := by
  induction bs generalizing a m with
  | nil => exact h
  | cons b bs ih => exact ih (wf_writeByte h)

theorem memWfFrom_filter {lo : Nat} {p : Host.Cell → Bool} {m : Memory} (h : memWfFrom lo m = true) : memWfFrom lo (m.filter p) = true := by
  induction m generalizing lo with
  | nil => rfl
  | cons c m ih =>
    simp only [memWfFrom, Bool.and_eq_true, decide_eq_true_eq] at h
    have hm := ih h.2
    rw [List.filter_cons]
    split
    · simp only [memWfFrom, Bool.and_eq_true, decide_eq_true_eq]
      exact ⟨h.1, hm⟩
    · exact memWfFrom_mono hm (by omega)

theorem wf_clearSpan {lo hi : Nat} {m : Memory} (h : m.wf = true) : (clearSpan lo hi m).wf = true := memWfFrom_filter h

theorem mem_writeByte {a : Nat} {b : Byte} {m : Memory} {c : Host.Cell} (h : c ∈ writeByte a b m) : c.1 = a ∨ c ∈ m := by
  induction m with
  | nil =>
    unfold writeByte at h
    split at h <;> simp_all
  | cons d m ih =>
    unfold writeByte at h
    split at h
    · split at h <;> simp_all
      rcases h with rfl | h
      · exact .inl rfl
      · exact .inr h
    · split at h
      · split at h <;> simp_all
        rcases h with rfl | h
        · exact .inl rfl
        · exact .inr (.inr h)
      · rcases List.mem_cons.mp h with rfl | h
        · exact .inr (List.mem_cons_self)
        · rcases ih h with h | h
          · exact .inl h
          · exact .inr (List.mem_cons_of_mem _ h)

theorem mem_writeBytes {a : Nat} {bs : Bytes} {m : Memory} {c : Host.Cell} (h : c ∈ writeBytes a bs m) :
    (a ≤ c.1 ∧ c.1 < a + bs.length) ∨ c ∈ m := by
  induction bs generalizing a m with
  | nil => exact .inr h
  | cons b bs ih =>
    rcases ih h with h | h
    · exact .inl ⟨by omega, by simp only [List.length_cons]; omega⟩
    · rcases mem_writeByte h with h | h
      · exact .inl ⟨by omega, by simp only [List.length_cons]; omega⟩
      · exact .inr h

theorem readByte_below {lo a : Nat} {m : Memory} (h : memWfFrom lo m = true) (ha : a < lo) : readByte m a = 0 := by
  induction m generalizing lo with
  | nil => rfl
  | cons c m ih =>
    simp only [memWfFrom, Bool.and_eq_true, decide_eq_true_eq] at h
    unfold readByte
    rw [if_neg (by omega)]
    exact ih h.2 (by omega)

theorem readByte_writeByte_from {lo a : Nat} {b : Byte} {m : Memory} (h : memWfFrom lo m = true) (x : Nat) :
    readByte (writeByte a b m) x = if x = a then b else readByte m x := by
  induction m generalizing lo with
  | nil =>
    unfold writeByte
    split
    · next hb => by_cases hx : x = a <;> simp [hx, readByte, hb]
    · by_cases hx : x = a
      · simp [hx, readByte]
      · simp [hx, readByte, Ne.symm hx]
  | cons c m ih =>
    simp only [memWfFrom, Bool.and_eq_true, decide_eq_true_eq, bne_iff_ne] at h
    obtain ⟨⟨h1, h2⟩, h3⟩ := h
    have hr : ∀ y, y ≤ c.1 → readByte m y = 0 := fun y hy => readByte_below h3 (by omega)
    unfold writeByte
    split
    · next ha =>
      split
      · next hb =>
        by_cases hx : x = a
        · rw [if_pos hx, hx, readByte, if_neg (by omega), hr a (by omega), hb]
        · rw [if_neg hx]
      · by_cases hx : x = a
        · rw [if_pos hx, hx, readByte, if_pos rfl]
        · rw [if_neg hx, readByte, if_neg (fun e => hx e.symm)]
    · split
      · next ha =>
        split
        · next hb =>
          by_cases hx : x = a
          · rw [if_pos hx, hx, hr a (by omega), hb]
          · rw [if_neg hx, readByte, if_neg (by omega)]
        · by_cases hx : x = a
          · rw [if_pos hx, hx, readByte, if_pos rfl]
          · rw [if_neg hx, readByte, readByte, if_neg (fun e => hx e.symm), if_neg (by omega)]
      · rw [readByte, ih h3]
        by_cases hx : x = a
        · rw [if_pos hx, if_neg (by omega), if_pos hx]
        · rw [if_neg hx, if_neg hx, readByte]

theorem readByte_writeByte {a : Nat} {b : Byte} {m : Memory} (h : m.wf = true) (x : Nat) :
    readByte (writeByte a b m) x = if x = a then b else readByte m x := readByte_writeByte_from h x

theorem readByte_writeBytes_outside {a x : Nat} {bs : Bytes} {m : Memory} (h : m.wf = true) (hx : x < a ∨ a + bs.length ≤ x) :
    readByte (writeBytes a bs m) x = readByte m x := by
  induction bs generalizing a m with
  | nil => rfl
  | cons b bs ih =>
    simp only [List.length_cons] at hx
    show readByte (writeBytes (a + 1) bs (writeByte a b m)) x = _
    rw [ih (wf_writeByte h) (by omega), readByte_writeByte h, if_neg (by omega)]

/-! ### What keeps Mica sound -/

/-- From a sound Mica to a sound Mica. -/
def Keep (s t : State) : Prop := micaSound s.mc → micaSound t.mc

theorem keep_refl (s : State) : Keep s s := id

theorem keep_step {s x y : State} (h : Keep x y) (hx : Keep s x) : Keep s y := fun k => h (hx k)

theorem keep_out {T : List Part} {s x y : State} (h : onlyIn T x y) (hT : T.contains .mc = false) (hx : Keep s x) : Keep s y := by
  intro k
  have e : y.mc = x.mc := h .mc (by intro hm; simp [hm] at hT)
  rw [e]
  exact hx k

theorem keep_ite {s a b : State} {c : Prop} [Decidable c] (ha : Keep s a) (hb : Keep s b) : Keep s (if c then a else b) := by
  split
  · exact ha
  · exact hb

theorem keep_ite1 {α : Type} {s : State} {a b : State × α} {c : Prop} [Decidable c] (ha : Keep s a.1) (hb : Keep s b.1) :
    Keep s (if c then a else b).1 := by
  split
  · exact ha
  · exact hb

theorem keep_pair1 {α : Type} {s x : State} {a : α} (h : Keep s x) : Keep s (x, a).1 := h

theorem keep_ans {s x : State} {st : Nat} {body : Bytes} (h : Keep s x) : Keep s (ans x st body).1 := h

theorem keep_fold {α : Type} {s x : State} (f : State → α → State) (l : List α) (hf : ∀ st a, Keep st (f st a)) (hx : Keep s x) :
    Keep s (l.foldl f x) := by
  induction l generalizing x with
  | nil => exact hx
  | cons a l ih => exact ih (keep_step (hf x a) hx)

theorem keep_updMc {f : Mica → Mica} {s : State} (hf : ∀ m, micaSound m → micaSound (f m)) : Keep s (updMc f s) := fun k => hf _ k

theorem nth_updAt {α : Type} (l : List α) (i j : Nat) (f : α → α) (d : α) (hj : j < l.length) :
    nth (updAt l i f) j d = if i = j then f (nth l j d) else nth l j d := by
  unfold nth updAt
  simp only [List.getD_eq_getElem?_getD, List.getElem?_modify]
  rw [List.getElem?_eq_getElem hj]
  split <;> simp

theorem length_updAt {α : Type} (l : List α) (i : Nat) (f : α → α) : (updAt l i f).length = l.length := by simp [updAt]

theorem sound_bank {m : Mica} {b : Nat} {f : Bank → Bank} (h : micaSound m)
    (hf : ∀ k, k.st ≠ .off → k.ready = true → (f k).st ≠ .off ∧ (f k).ready = true) : micaSound { m with banks := updAt m.banks b f } := by
  obtain ⟨h1, h2, h3⟩ := h
  refine ⟨h1, by simp only [length_updAt, h2], fun c hc => ?_⟩
  obtain ⟨ha, hs, hr⟩ := h3 c hc
  refine ⟨ha, ?_⟩
  show (nth (updAt m.banks b f) _ _).st ≠ _ ∧ (nth (updAt m.banks b f) _ _).ready = _
  rw [nth_updAt _ _ _ _ _ (by omega)]
  split
  · exact hf _ hs hr
  · exact ⟨hs, hr⟩

theorem keep_updMcBank {b : Nat} {f : Bank → Bank} {s : State}
    (hf : ∀ k, k.st ≠ .off → k.ready = true → (f k).st ≠ .off ∧ (f k).ready = true) : Keep s (updMcBank b f s) :=
  fun k => sound_bank k hf

theorem sound_write {m : Mica} {a : Nat} {bs : Bytes} (h : micaSound m) (ha : a < 67108864) (hb : bs.length ≤ 8 - a % 8)
    (hs : (nth m.banks (a / 1048576) bank0).st ≠ .off) (hr : (nth m.banks (a / 1048576) bank0).ready = true) :
    micaSound { m with mem := writeBytes a bs m.mem } := by
  obtain ⟨h1, h2, h3⟩ := h
  refine ⟨wf_writeBytes h1, h2, fun c hc => ?_⟩
  rcases mem_writeBytes hc with hc | hc
  · have e : c.1 / 1048576 = a / 1048576 := by omega
    exact ⟨by omega, by rw [e]; exact hs, by rw [e]; exact hr⟩
  · exact h3 c hc

theorem sound_clear {m : Mica} {lo hi : Nat} (h : micaSound m) : micaSound { m with mem := clearSpan lo hi m.mem } :=
  ⟨wf_clearSpan h.1, h.2.1, fun c hc => h.2.2 c (List.mem_of_mem_filter hc)⟩

theorem sound_empty {m : Mica} (hm : m.mem = []) (hb : m.banks.length = 64) : micaSound m :=
  ⟨by rw [hm]; rfl, hb, by rw [hm]; intro c hc; cases hc⟩

end Sys2Proof.Machine
end

