-- ==== Sys2Proof/Laws/Keep.lean ====
section
/-!
SUPPORT. Laws/Keep.lean: every definition that may change Mica keeps it sound.
-/

namespace Sys2Proof.Machine

open Sys2Proof.Safety

theorem keep_conclude {c : Ctx} {s : State} {p : State × Reply} (h : Keep s p.1) : Keep s (conclude c p) := by
  unfold conclude
  split
  · exact keep_out (frame_answer _ _ _ _) rfl h
  · exact h
  · exact keep_out (frame_updChan _ _ _ _) rfl (keep_out (onlyIn_put_mb _ _) rfl h)

theorem keep_runBody {c : Ctx} {body : Body} {s x : State} (hb : ∀ c st, Keep st (body c st).1) (hx : Keep s x) :
    Keep s (runBody c body x) := by
  unfold runBody
  repeat'
    first
      | assumption
      | with_reducible refine keep_out (frame_answerOnce _ _ _) rfl ?_
      | with_reducible refine keep_out (frame_answer _ _ _ _) rfl ?_
      | with_reducible refine keep_conclude ?_
      | exact keep_step (hb _ _) hx
      | with_reducible refine keep_ite ?_ ?_

theorem keep_acceptCommand {c : Ctx} {run : State → State} {s x : State} (hr : ∀ st, Keep st (run st)) (hx : Keep s x) :
    Keep s (acceptCommand c run x) := by
  unfold acceptCommand
  repeat'
    first
      | assumption
      | with_reducible refine keep_out (frame_answer _ _ _ _) rfl ?_
      | with_reducible refine keep_out (frame_updChan _ _ _ _) rfl ?_
      | exact keep_step (hr _) hx
      | with_reducible refine keep_ite ?_ ?_
      | split

theorem keep_hostCommand {code : Nat} {body : Body} {r : Req} {s : State} (hb : ∀ c st, Keep st (body c st).1) :
    Keep s (hostCommand code body r s) := by
  unfold hostCommand
  repeat'
    first
      | exact keep_refl _
      | with_reducible refine keep_acceptCommand (fun _ => ?_) ?_
      | with_reducible refine keep_runBody hb ?_
      | with_reducible refine keep_out (frame_answer0 _ _ _ _ _) rfl ?_
      | with_reducible refine keep_ite ?_ ?_
      | split

theorem sound_off {m : Mica} {b : Nat} (k : micaSound m) :
    micaSound { m with
      mem := clearSpan (1048576 * b) (1048576 * (b + 1)) m.mem
      banks := updAt m.banks b (fun k => { k with st := .off, ready := false, scrub := false }) } := by
  refine ⟨wf_clearSpan k.1, by simp only [length_updAt, k.2.1], fun c hc => ?_⟩
  have hm := List.mem_filter.mp hc
  have ho : c.1 < 1048576 * b ∨ 1048576 * (b + 1) ≤ c.1 := by simpa using hm.2
  obtain ⟨ha, hs⟩ := k.2.2 c hm.1
  refine ⟨ha, ?_⟩
  show (nth (updAt m.banks b _) _ _).st ≠ _ ∧ (nth (updAt m.banks b _) _ _).ready = _
  rw [nth_updAt _ _ _ _ _ (by rw [k.2.1]; omega)]
  split
  · next e => omega
  · exact hs

theorem keep_bankPower (b : Nat) (n : BankSt) (s : State) : Keep s (bankPower b n s) := by
  unfold bankPower
  split
  · exact keep_updMcBank (fun _ _ h2 => ⟨fun e => BankSt.noConfusion e, h2⟩)
  · exact keep_updMcBank (fun _ _ h2 => ⟨fun e => BankSt.noConfusion e, h2⟩)
  · next h =>
    intro k
    refine ⟨k.1, by simp only [updMcBank, updMc, length_updAt, k.2.1], fun c hc => ?_⟩
    obtain ⟨ha, hs, hr⟩ := k.2.2 c hc
    refine ⟨ha, ?_⟩
    show (nth (updAt s.mc.banks b _) _ _).st ≠ _ ∧ (nth (updAt s.mc.banks b _) _ _).ready = _
    rw [nth_updAt _ _ _ _ _ (by rw [k.2.1]; omega)]
    split
    · next e => exact absurd (by rw [← e]; exact h) hs
    · exact ⟨hs, hr⟩
  all_goals first
    | exact keep_refl _
    | exact fun k => sound_off k


theorem keep_ringEnter : ∀ a0 s, Keep s (ringEnter a0 s) := by
  intro a0 s
  unfold ringEnter
  extract_lets +onlyGivenNames x0
  have h1 : Keep s x0 := by
    dsimp only [x0]
    refine keep_step (keep_updMc (fun _ h => h)) ?_
    exact keep_refl _
  clear_value x0
  refine keep_ite ?_ ?_
  · exact h1
  · refine keep_fold _ _ (fun st2 a3 => ?_) ?_
    · refine keep_step (keep_bankPower _ _ _) ?_
      exact keep_refl _
    · exact h1

theorem keep_ringZero (s : State) : Keep s (ringZero s) := fun k => sound_clear k

theorem keep_ringRelease : ∀ s, Keep s (ringRelease s) := by
  intro s
  unfold ringRelease
  refine keep_ite ?_ ?_
  · refine keep_step (keep_ringEnter _ _) ?_
    refine keep_step (keep_ringZero _) ?_
    exact keep_refl _
  · refine keep_step (keep_updMc (fun _ h => h)) ?_
    exact keep_refl _

theorem keep_ringEnd : ∀ s, Keep s (ringEnd s) := by
  intro s
  unfold ringEnd
  refine keep_ite ?_ ?_
  · exact keep_refl _
  · refine keep_step (keep_ringRelease _) ?_
    exact keep_refl _

theorem keep_dropStaging : ∀ a0 a1 s, Keep s (dropStaging a0 a1 s) := by
  intro a0 a1 s
  unfold dropStaging
  split
  · exact keep_refl _
  · refine keep_ite ?_ ?_
    · extract_lets +onlyGivenNames x0
      have h1 : Keep s x0 := by
        dsimp only [x0]
        refine keep_out (frame_updUp _ _) rfl ?_
        refine keep_out (frame_eraseStaged _ _) rfl ?_
        exact keep_refl _
      clear_value x0
      refine keep_step (keep_ringEnd _) ?_
      refine keep_out (frame_enterUp _ _ _) rfl ?_
      refine keep_out (frame_updCamp _ _ _) rfl ?_
      exact h1
    · exact keep_refl _

theorem keep_abortStaging : ∀ a0 a1 s, Keep s (abortStaging a0 a1 s).1 := by
  intro a0 a1 s
  unfold abortStaging
  split
  · refine keep_pair1 ?_
    exact keep_refl _
  · extract_lets +onlyGivenNames x0
    have h1 : Keep s x0.1 := by
      dsimp only [x0]
      refine keep_out (frame_chainAll _ _ _) rfl ?_
      exact keep_refl _
    clear_value x0
    refine keep_pair1 ?_
    refine keep_step (keep_dropStaging _ _ _) ?_
    exact h1

theorem bankServes_updMc {f : Mica → Mica} {s : State} {b : Nat} (hf : (f s.mc).banks = s.mc.banks) :
    bankServes (updMc f s) b = bankServes s b := by
  unfold bankServes bankOf
  rw [show (updMc f s).mc = f s.mc from rfl, hf]

theorem bankServes_updMcBank {f : Bank → Bank} {s : State} {a b : Nat} (hf : ∀ k, (f k).st = k.st ∧ (f k).ready = k.ready)
    (hb : b < s.mc.banks.length) : bankServes (updMcBank a f s) b = bankServes s b := by
  unfold bankServes bankOf
  show ((nth (updAt s.mc.banks a f) b bank0).st == _ && (nth (updAt s.mc.banks a f) b bank0).ready) = _
  rw [nth_updAt _ _ _ _ _ hb]
  split
  · rw [(hf _).1, (hf _).2]
  · rfl

theorem sound_banks {s : State} {b : Nat} (h : micaSound s.mc) (hb : b < 64) : b < s.mc.banks.length := by rw [h.2.1]; exact hb

theorem serves_on {s : State} {b : Nat} (h : bankServes s b = true) :
    (nth s.mc.banks b bank0).st ≠ .off ∧ (nth s.mc.banks b bank0).ready = true := by
  unfold bankServes bankOf at h
  simp only [Bool.and_eq_true, beq_iff_eq] at h
  exact ⟨by rw [h.1]; decide, h.2⟩

theorem access_sound {s : State} {b : Nat} {r : MicaReq} (h : micaSound s.mc) (hb : b < 64) (hr : r.addr / 1048576 = b)
    (hs : bankServes s b = true) : micaSound (access b r s).mc ∧ ∀ d < 64, bankServes (access b r s) d = bankServes s d := by
  have ha : r.addr < 67108864 := by omega
  unfold access
  extract_lets +onlyGivenNames s1
  have h1 : micaSound s1.mc ∧ ∀ d < 64, bankServes s1 d = bankServes s d := by
    dsimp only [s1]
    split
    · refine ⟨keep_step (keep_updMc (fun _ h => h)) (keep_updMcBank (fun _ h1 h2 => ⟨h1, h2⟩)) h, fun d hd => ?_⟩
      rw [bankServes_updMc rfl, bankServes_updMcBank ?_ (sound_banks h hd)]
      exact fun _ => ⟨rfl, rfl⟩
    · exact ⟨h, fun _ _ => rfl⟩
  clear_value s1
  have hs1 := serves_on ((h1.2 b hb).trans hs)
  split
  · refine ⟨?_, fun d hd => (bankServes_updMc rfl).trans (h1.2 d hd)⟩
    exact sound_write h1.1 ha (by simp) (by rw [hr]; exact hs1.1) (by rw [hr]; exact hs1.2)
  · exact ⟨h1.1, fun d hd => (bankServes_updMc rfl).trans (h1.2 d hd)⟩

theorem keep_accessError : ∀ a0 a1 s, Keep s (accessError a0 a1 s) := by
  intro a0 a1 s
  unfold accessError
  refine keep_out (frame_happen _ _ _ _) rfl ?_
  refine keep_step (keep_updMc (fun _ h => h)) ?_
  exact keep_refl _

theorem keep_mapLose : ∀ s, Keep s (mapLose s) := by
  intro s
  unfold mapLose
  refine keep_step (show Keep _ _ from fun h => h) ?_
  exact keep_refl _

theorem keep_systemDown : ∀ a0 s, Keep s (systemDown a0 s) := by
  intro a0 s
  unfold systemDown
  extract_lets +onlyGivenNames x0
  have h1 : Keep s x0 := by
    dsimp only [x0]
    refine keep_out (frame_settleWrites _ _) rfl ?_
    refine keep_out (frame_exchangeGone _) rfl ?_
    refine keep_out (frame_supervisorDown _) rfl ?_
    exact keep_refl _
  clear_value x0
  extract_lets +onlyGivenNames x2
  have h3 : Keep s x2 := by
    dsimp only [x2]
    refine keep_out (frame_lsReset _) rfl ?_
    refine keep_out (frame_vdReset _) rfl ?_
    refine keep_out (frame_panelLose _ _) rfl ?_
    exact h1
  clear_value x2
  extract_lets +onlyGivenNames x4
  have h5 : Keep s x4 := by
    dsimp only [x4]
    refine keep_step (keep_mapLose _) ?_
    refine keep_out (frame_fabricDown _) rfl ?_
    refine keep_out (frame_quartzRestore _) rfl ?_
    exact h3
  clear_value x4
  extract_lets +onlyGivenNames x6
  have h7 : Keep s x6 := by
    dsimp only [x6]
    refine keep_out (frame_supApply _) rfl ?_
    refine keep_fold _ _ (fun st8 a9 => ?_) ?_
    · refine keep_out (frame_setDom _ _ _) rfl ?_
      exact keep_refl _
    · exact h5
  clear_value x6
  refine keep_out (onlyIn_put_clk_pf_ev_gr_gn_up_an_rs_pw _ _ _ _ _ _ _ _ _ _) rfl ?_
  exact h7

theorem keep_assertSource : ∀ a0 a1 a2 s, Keep s (assertSource a0 a1 a2 s) := by
  intro a0 a1 a2 s
  unfold assertSource
  extract_lets +onlyGivenNames x0
  clear_value x0
  extract_lets +onlyGivenNames x1
  have h2 : Keep s x1 := by
    dsimp only [x1]
    split
    · refine keep_ite ?_ ?_
      · exact keep_refl _
      · refine keep_out (frame_happen _ _ _ _) rfl ?_
        exact keep_refl _
    · exact keep_refl _
  clear_value x1
  extract_lets +onlyGivenNames x3
  clear_value x3
  extract_lets +onlyGivenNames x4
  have h5 : Keep s x4 := by
    dsimp only [x4]
    refine keep_ite ?_ ?_
    · refine keep_out (frame_happen _ _ _ _) rfl ?_
      refine keep_out (frame_updRs _ _) rfl ?_
      exact h2
    · refine keep_ite ?_ ?_
      · refine keep_out (frame_updRs _ _) rfl ?_
        exact h2
      · exact h2
  clear_value x4
  extract_lets +onlyGivenNames x6
  clear_value x6
  extract_lets +onlyGivenNames x7
  clear_value x7
  extract_lets +onlyGivenNames x8
  have h9 : Keep s x8 := by
    dsimp only [x8]
    refine keep_ite ?_ ?_
    · refine keep_step (keep_systemDown _ _) ?_
      exact h5
    · refine keep_out (frame_computeDown _) rfl ?_
      exact h5
  clear_value x8
  refine keep_out (frame_updRs _ _) rfl ?_
  refine keep_ite ?_ ?_
  · refine keep_out (frame_happen _ _ _ _) rfl ?_
    exact h9
  · exact h9

theorem keep_softReset : ∀ a0 a1 s, Keep s (softReset a0 a1 s) := by
  intro a0 a1 s
  unfold softReset
  refine keep_step (keep_assertSource _ _ _ _) ?_
  refine keep_out (frame_closeAll _ _) rfl ?_
  exact keep_refl _

theorem keep_swapNow : ∀ s, Keep s (swapNow s) := by
  intro s
  unfold swapNow
  extract_lets +onlyGivenNames x0
  clear_value x0
  extract_lets +onlyGivenNames x1
  have h2 : Keep s x1 := by
    dsimp only [x1]
    refine keep_out (frame_updUp _ _) rfl ?_
    refine keep_out (frame_commitTo _ _) rfl ?_
    exact keep_refl _
  clear_value x1
  refine keep_step (keep_softReset _ _ _) ?_
  refine keep_out (frame_enterUp _ _ _) rfl ?_
  refine keep_out (frame_updMod _ _ _ _) rfl ?_
  exact h2

theorem keep_takeCommit : ∀ a0 s, Keep s (takeCommit a0 s) := by
  intro a0 s
  unfold takeCommit
  extract_lets +onlyGivenNames x0
  have h1 : Keep s x0 := by
    dsimp only [x0]
    refine keep_out (frame_enterUp _ _ _) rfl ?_
    refine keep_out (frame_commitTo _ _) rfl ?_
    exact keep_refl _
  clear_value x0
  refine keep_ite ?_ ?_
  · refine keep_step (keep_swapNow _) ?_
    exact h1
  · exact h1

theorem keep_ackDecisionMsg : ∀ a0 a1 s, Keep s (ackDecisionMsg a0 a1 s) := by
  intro a0 a1 s
  unfold ackDecisionMsg
  extract_lets +onlyGivenNames x0
  clear_value x0
  extract_lets +onlyGivenNames x1
  clear_value x1
  extract_lets +onlyGivenNames x2
  clear_value x2
  split
  · exact keep_refl _
  · refine keep_ite ?_ ?_
    · exact keep_refl _
    · refine keep_ite ?_ ?_
      · refine keep_ite ?_ ?_
        · refine keep_step (keep_takeCommit _ _) ?_
          exact keep_refl _
        · refine keep_ite ?_ ?_
          · refine keep_out (frame_takeAbort _ _) rfl ?_
            exact keep_refl _
          · exact keep_refl _
      · refine keep_out (frame_answerConfirm _) rfl ?_
        refine keep_out (frame_modState _ _ _ _ _) rfl ?_
        exact keep_refl _

theorem keep_ackMsg : ∀ a0 a1 s, Keep s (ackMsg a0 a1 s) := by
  intro a0 a1 s
  unfold ackMsg
  extract_lets +onlyGivenNames x0
  clear_value x0
  split
  · exact keep_refl _
  · refine keep_ite ?_ ?_
    · refine keep_step (keep_ringEnd _) ?_
      refine keep_out (frame_updUp _ _) rfl ?_
      exact keep_refl _
    · exact keep_refl _

theorem keep_answerFlush : ∀ s, Keep s (answerFlush s) := by
  intro s
  unfold answerFlush
  refine keep_ite ?_ ?_
  · refine keep_step (keep_updMc (fun _ h => h)) ?_
    refine keep_out (frame_resolve _ _ _ _) rfl ?_
    exact keep_refl _
  · exact keep_refl _

theorem keep_authFailure : ∀ a0 s, Keep s (authFailure a0 s) := by
  intro a0 s
  unfold authFailure
  split
  · exact keep_refl _
  · extract_lets +onlyGivenNames x0
    have h1 : Keep s x0 := by
      dsimp only [x0]
      refine keep_out (frame_happen _ _ _ _) rfl ?_
      exact keep_refl _
    clear_value x0
    refine keep_ite ?_ ?_
    · refine keep_step (keep_abortStaging _ _ _) ?_
      exact h1
    · refine keep_step (keep_dropStaging _ _ _) ?_
      refine keep_out (frame_reportStaged _ _ _) rfl ?_
      exact h1

theorem keep_ringFree : ∀ s, Keep s (ringFree s) := by
  intro s
  unfold ringFree
  refine keep_ite ?_ ?_
  · refine keep_step (keep_ringEnter _ _) ?_
    refine keep_step (keep_updMc (fun _ h => h)) ?_
    exact keep_refl _
  · refine keep_step (keep_ringEnter _ _) ?_
    exact keep_refl _

theorem keep_ringLost : ∀ s, Keep s (ringLost s) := by
  intro s
  unfold ringLost
  split
  · refine keep_ite ?_ ?_
    · refine keep_step (keep_ringFree _) ?_
      refine keep_out (frame_capturePreempt _) rfl ?_
      exact keep_refl _
    · exact keep_refl _
  · refine keep_fold _ _ (fun st0 a1 => ?_) ?_
    · refine keep_step (keep_abortStaging _ _ _) ?_
      exact keep_refl _
    · exact keep_refl _
  · exact keep_refl _

theorem keep_bankAction : ∀ a0 a1 s, Keep s (bankAction a0 a1 s) := by
  intro a0 a1 s
  unfold bankAction
  refine keep_ite ?_ ?_
  · extract_lets +onlyGivenNames x0
    have h1 : Keep s x0.2 := by
      dsimp only [x0]
      refine keep_out (frame_freshNat _) rfl ?_
      exact keep_refl _
    clear_value x0
    refine keep_step (keep_updMc (fun _ h => h)) ?_
    exact h1
  · refine keep_ite ?_ ?_
    · refine keep_step (keep_assertSource _ _ _ _) ?_
      exact keep_refl _
    · refine keep_ite ?_ ?_
      · refine keep_out (frame_softUnit _ _ _) rfl ?_
        exact keep_refl _
      · refine keep_ite ?_ ?_
        · refine keep_out (frame_softUnit _ _ _) rfl ?_
          exact keep_refl _
        · refine keep_ite ?_ ?_
          · refine keep_step (keep_ringLost _) ?_
            exact keep_refl _
          · refine keep_ite ?_ ?_
            · refine keep_out (frame_lineLost _) rfl ?_
              exact keep_refl _
            · refine keep_ite ?_ ?_
              · refine keep_out (frame_entryLost _) rfl ?_
                exact keep_refl _
              · exact keep_refl _

theorem keep_lose : ∀ a0 a1 s, Keep s (lose a0 a1 s) := by
  intro a0 a1 s
  unfold lose
  extract_lets +onlyGivenNames x0
  clear_value x0
  refine keep_step (keep_updMc (fun _ h => h)) ?_
  exact keep_refl _

theorem keep_served : ∀ a0 a1 s, Keep s (served a0 a1 s) := by
  intro a0 a1 s
  unfold served
  refine keep_step (keep_updMc (fun _ h => h)) ?_
  exact keep_refl _

theorem mem_insertBy {α : Type} {key : α → Nat} {x y : α} {l : List α} (h : y ∈ insertBy key x l) : y = x ∨ y ∈ l := by
  induction l with
  | nil => exact .inl (by simpa [insertBy] using h)
  | cons a l ih =>
    unfold insertBy at h
    split at h
    · exact List.mem_cons.mp h
    · rcases List.mem_cons.mp h with rfl | h
      · exact .inr List.mem_cons_self
      · exact (ih h).imp_right (List.mem_cons_of_mem _)

theorem mem_sortBy {α : Type} {key : α → Nat} {y : α} {l : List α} (h : y ∈ sortBy key l) : y ∈ l := by
  have g : ∀ (l acc : List α), y ∈ l.foldl (fun acc x => insertBy key x acc) acc → y ∈ acc ∨ y ∈ l := by
    intro l
    induction l with
    | nil => exact fun _ h => .inl h
    | cons a l ih =>
      intro acc h
      rcases ih _ h with h | h
      · rcases mem_insertBy h with rfl | h
        · exact .inr List.mem_cons_self
        · exact .inl h
      · exact .inr (List.mem_cons_of_mem _ h)
  exact (g l [] h).resolve_left (by simp)

theorem portCycle_sound {s : State} {b : Nat} {rs : List MicaReq} (h : micaSound s.mc) (hb : b < 64)
    (hr : ∀ r ∈ rs, r.addr / 1048576 = b) (hs : bankServes s b = true) : micaSound (portCycle b rs s).mc := by
  unfold portCycle
  split
  · exact keep_fold _ _ (fun _ _ => keep_lose _ _ _) (keep_updMcBank (fun _ h1 h2 => ⟨h1, h2⟩)) h
  · split
    · exact h
    · next w hw =>
      have hm : w ∈ rs := by
        unfold winner at hw
        split at hw
        · next r hr' =>
          cases hw
          exact List.mem_of_mem_filter (mem_sortBy (List.mem_of_mem_head? hr'))
        · exact mem_sortBy (List.mem_of_mem_head? hw)
      have e : bankServes (served b w.master (updMcBank b (fun k => { k with busyB := extraCycles w }) s)) b = true := by
        unfold served
        rw [bankServes_updMc rfl, bankServes_updMcBank ?_ (sound_banks h hb), hs]
        exact fun _ => ⟨rfl, rfl⟩
      have k := keep_step (keep_served b w.master _) (keep_updMcBank (b := b) (f := fun k => { k with busyB := extraCycles w }) (s := s)
        (fun _ h1 h2 => ⟨h1, h2⟩)) h
      exact keep_fold _ _ (fun _ _ => keep_lose _ _ _) (fun _ => (access_sound k hb (hr w hm) e).1) h

theorem keep_bankCycle (b : Nat) (hb : b < 64) (rs : List MicaReq) (s : State) : Keep s (bankCycle b rs s) := by
  intro h
  unfold bankCycle
  extract_lets +onlyGivenNames s0 mine a others
  have h0 : micaSound s0.mc := keep_updMc (f := fun c => { c with answers := [] }) (fun _ h => h) h
  have e0 : ∀ d, bankServes s0 d = bankServes s d := fun d => bankServes_updMc rfl
  clear_value s0
  have hm : ∀ r ∈ mine, r.addr / 1048576 = b := by
    intro r hr
    simp only [mine, List.mem_filter, Bool.and_eq_true, beq_iff_eq] at hr
    exact hr.2.1
  have ho : ∀ r ∈ others, r.addr / 1048576 = b := fun r hr => hm r (List.mem_of_mem_filter hr)
  split
  · exact keep_fold _ _ (fun _ _ => keep_accessError _ _ _) (keep_refl _) h0
  · next hs =>
    have hs : bankServes s b = true := by
      simp only [Bool.or_eq_true, Bool.not_eq_true', not_or, Bool.not_eq_false] at hs
      exact hs.1
    split
    · have h1 : ∀ x : Option MicaReq, x = a → micaSound (match x with | some r => access b r s0 | none => s0).mc ∧
          bankServes (match x with | some r => access b r s0 | none => s0) b = true := by
        intro x hx
        cases x with
        | some r =>
          have ht := access_sound h0 hb (hm r (List.mem_of_find?_eq_some hx.symm)) ((e0 b).trans hs)
          exact ⟨ht.1, (ht.2 b hb).trans ((e0 b).trans hs)⟩
        | none => exact ⟨h0, (e0 b).trans hs⟩
      have h1 := h1 a rfl
      extract_lets s1
      refine keep_ite (s := s1) ?_ ?_ h1.1
      · exact keep_fold _ _ (fun _ _ => keep_lose _ _ _) (keep_refl _)
      · exact fun _ => portCycle_sound h1.1 hb ho h1.2
    · exact portCycle_sound h0 hb ho ((e0 b).trans hs)

theorem keep_wipes : ∀ a0 a1 s, Keep s (wipes a0 a1 s) := by
  intro a0 a1 s
  unfold wipes
  refine keep_ite ?_ ?_
  · refine keep_out (frame_wipeCapture _) rfl ?_
    refine keep_out (frame_wipeMap _) rfl ?_
    refine keep_out (frame_wipeEvents _) rfl ?_
    refine keep_step (keep_updMc (fun _ h => h)) ?_
    exact keep_refl _
  · refine keep_ite ?_ ?_
    · extract_lets +onlyGivenNames x0
      have h1 : Keep s x0 := by
        dsimp only [x0]
        refine keep_out (frame_endInjections _ _) rfl ?_
        refine keep_out (frame_wipeCapture _) rfl ?_
        exact keep_refl _
      clear_value x0
      refine keep_step (keep_ringEnter _ _) ?_
      refine keep_step (keep_ringZero _) ?_
      refine keep_out (frame_updCap _ _) rfl ?_
      refine keep_out (frame_endReplay _ _) rfl ?_
      exact h1
    · refine keep_ite ?_ ?_
      · refine keep_out (frame_wipeImages _) rfl ?_
        refine keep_out (frame_wipeCapture _) rfl ?_
        refine keep_out (frame_wipeMap _) rfl ?_
        refine keep_out (frame_updRs _ _) rfl ?_
        refine keep_out (frame_updPf _ _) rfl ?_
        refine keep_out (frame_updFb _ _) rfl ?_
        exact keep_refl _
      · exact keep_refl _

theorem keep_finishTransition : ∀ a0 s, Keep s (finishTransition a0 s) := by
  intro a0 s
  unfold finishTransition
  extract_lets +onlyGivenNames x0
  have h1 : Keep s x0 := by
    dsimp only [x0]
    refine keep_out (frame_commitLifecycle _ _) rfl ?_
    refine keep_step (keep_wipes _ _ _) ?_
    exact keep_refl _
  clear_value x0
  refine keep_step (keep_assertSource _ _ _ _) ?_
  refine keep_out (frame_rawEvent _ _ _ _) rfl ?_
  exact h1

theorem keep_bodyLifecycleSetTransition : ∀ a0 s, Keep s (bodyLifecycleSetTransition a0 s).1 := by
  intro a0 s
  unfold bodyLifecycleSetTransition
  unfold withOp
  try beta_reduce
  refine keep_ite1 ?_ ?_
  · extract_lets +onlyGivenNames x0
    clear_value x0
    extract_lets +onlyGivenNames x1
    clear_value x1
    extract_lets +onlyGivenNames x2
    clear_value x2
    extract_lets +onlyGivenNames x3
    clear_value x3
    refine keep_ite1 ?_ ?_
    · refine keep_ans ?_
      exact keep_refl _
    · refine keep_ite1 ?_ ?_
      · refine keep_ans ?_
        exact keep_refl _
      · refine keep_ite1 ?_ ?_
        · refine keep_ans ?_
          exact keep_refl _
        · extract_lets +onlyGivenNames x4
          have h5 : Keep s x4 := by
            dsimp only [x4]
            refine keep_out (frame_closeAll _ _) rfl ?_
            refine keep_out (frame_answer _ _ _ _) rfl ?_
            exact keep_refl _
          clear_value x4
          extract_lets +onlyGivenNames x6
          have h7 : Keep s x6 := by
            dsimp only [x6]
            refine keep_ite ?_ ?_
            · refine keep_fold _ _ (fun st8 a9 => ?_) ?_
              · refine keep_step (keep_abortStaging _ _ _) ?_
                exact keep_refl _
              · exact h5
            · exact h5
          clear_value x6
          extract_lets +onlyGivenNames x10
          clear_value x10
          refine keep_pair1 ?_
          refine keep_step (keep_finishTransition _ _) ?_
          refine keep_out (frame_updRs _ _) rfl ?_
          exact h7
  · refine keep_ans ?_
    exact keep_refl _

theorem keep_bodyMapFlush : ∀ a0 s, Keep s (bodyMapFlush a0 s).1 := by
  intro a0 s
  unfold bodyMapFlush
  unfold emptyPayload
  try beta_reduce
  refine keep_ite1 ?_ ?_
  · refine keep_ite1 ?_ ?_
    · refine keep_ans ?_
      exact keep_refl _
    · refine keep_ite1 ?_ ?_
      · refine keep_pair1 ?_
        exact keep_refl _
      · refine keep_pair1 ?_
        refine keep_step (keep_updMc (fun _ h => h)) ?_
        exact keep_refl _
  · refine keep_ans ?_
    exact keep_refl _

theorem keep_bodyMcBankState : ∀ a0 s, Keep s (bodyMcBankState a0 s).1 := by
  intro a0 s
  unfold bodyMcBankState
  extract_lets +onlyGivenNames x0
  clear_value x0
  extract_lets +onlyGivenNames x1
  clear_value x1
  refine keep_ite1 ?_ ?_
  · refine keep_ans ?_
    exact keep_refl _
  · refine keep_ite1 ?_ ?_
    · refine keep_ans ?_
      exact keep_refl _
    · extract_lets +onlyGivenNames x2
      have h3 : Keep s x2 := by
        dsimp only [x2]
        refine keep_step (keep_bankPower _ _ _) ?_
        exact keep_refl _
      clear_value x2
      refine keep_ans ?_
      exact h3

theorem keep_bodyQzRawCaptureRead : ∀ a0 s, Keep s (bodyQzRawCaptureRead a0 s).1 := by
  intro a0 s
  unfold bodyQzRawCaptureRead
  unfold withOp
  try beta_reduce
  refine keep_ite1 ?_ ?_
  · extract_lets +onlyGivenNames x0
    clear_value x0
    extract_lets +onlyGivenNames x1
    clear_value x1
    extract_lets +onlyGivenNames x2
    clear_value x2
    refine keep_ite1 ?_ ?_
    · refine keep_ans ?_
      exact keep_refl _
    · extract_lets +onlyGivenNames x3
      clear_value x3
      extract_lets +onlyGivenNames x4
      clear_value x4
      refine keep_ans ?_
      refine keep_ite ?_ ?_
      · refine keep_step (keep_ringFree _) ?_
        refine keep_out (frame_updCap _ _) rfl ?_
        exact keep_refl _
      · exact keep_refl _
  · refine keep_ans ?_
    exact keep_refl _

theorem keep_bodyQzRawCaptureStart : ∀ a0 s, Keep s (bodyQzRawCaptureStart a0 s).1 := by
  intro a0 s
  unfold bodyQzRawCaptureStart
  unfold withOp
  try beta_reduce
  refine keep_ite1 ?_ ?_
  · extract_lets +onlyGivenNames x0
    clear_value x0
    extract_lets +onlyGivenNames x1
    clear_value x1
    extract_lets +onlyGivenNames x2
    clear_value x2
    extract_lets +onlyGivenNames x3
    clear_value x3
    refine keep_ite1 ?_ ?_
    · refine keep_ans ?_
      exact keep_refl _
    · refine keep_ite1 ?_ ?_
      · refine keep_ans ?_
        exact keep_refl _
      · refine keep_ite1 ?_ ?_
        · refine keep_ans ?_
          exact keep_refl _
        · refine keep_ite1 ?_ ?_
          · refine keep_ans ?_
            exact keep_refl _
          · extract_lets +onlyGivenNames x4
            clear_value x4
            extract_lets +onlyGivenNames x5
            have h6 : Keep s x5 := by
              dsimp only [x5]
              refine keep_step (keep_ringEnter _ _) ?_
              refine keep_out (frame_updCap _ _) rfl ?_
              exact keep_refl _
            clear_value x5
            refine keep_ans ?_
            exact h6
  · refine keep_ans ?_
    exact keep_refl _

theorem keep_bodyQzRawCaptureStop : ∀ a0 s, Keep s (bodyQzRawCaptureStop a0 s).1 := by
  intro a0 s
  unfold bodyQzRawCaptureStop
  unfold withOp
  try beta_reduce
  refine keep_ite1 ?_ ?_
  · refine keep_ite1 ?_ ?_
    · refine keep_ans ?_
      exact keep_refl _
    · refine keep_ite1 ?_ ?_
      · refine keep_ans ?_
        exact keep_refl _
      · extract_lets +onlyGivenNames x0
        have h1 : Keep s x0 := by
          dsimp only [x0]
          refine keep_out (frame_updCap _ _) rfl ?_
          exact keep_refl _
        clear_value x0
        extract_lets +onlyGivenNames x2
        have h3 : Keep s x2 := by
          dsimp only [x2]
          refine keep_ite ?_ ?_
          · refine keep_step (keep_ringFree _) ?_
            exact h1
          · exact h1
        clear_value x2
        refine keep_ans ?_
        exact h3
  · refine keep_ans ?_
    exact keep_refl _

theorem keep_fallBack : ∀ a0 s, Keep s (fallBack a0 s) := by
  intro a0 s
  unfold fallBack
  refine keep_step (keep_softReset _ _ _) ?_
  refine keep_out (frame_fallBackWrite _ _) rfl ?_
  exact keep_refl _

theorem keep_bodyUpdateAbortFallback : ∀ a0 s, Keep s (bodyUpdateAbortFallback a0 s).1 := by
  intro a0 s
  unfold bodyUpdateAbortFallback
  unfold abortRequest
  try beta_reduce
  unfold withOp
  try beta_reduce
  refine keep_ite1 ?_ ?_
  · refine keep_ite1 ?_ ?_
    · refine keep_ans ?_
      exact keep_refl _
    · refine keep_ite1 ?_ ?_
      · refine keep_ans ?_
        refine keep_out (frame_happen _ _ _ _) rfl ?_
        exact keep_refl _
      · split
        · refine keep_ans ?_
          exact keep_refl _
        · refine keep_ite1 ?_ ?_
          · refine keep_ans ?_
            exact keep_refl _
          · extract_lets +onlyGivenNames x0
            clear_value x0
            refine keep_pair1 ?_
            refine keep_step (keep_fallBack _ _) ?_
            refine keep_out (frame_answer _ _ _ _) rfl ?_
            exact keep_refl _
  · refine keep_ans ?_
    exact keep_refl _

theorem keep_bodyUpdateAbortStaging : ∀ a0 s, Keep s (bodyUpdateAbortStaging a0 s).1 := by
  intro a0 s
  unfold bodyUpdateAbortStaging
  unfold abortRequest
  try beta_reduce
  unfold withOp
  try beta_reduce
  refine keep_ite1 ?_ ?_
  · refine keep_ite1 ?_ ?_
    · refine keep_ans ?_
      exact keep_refl _
    · refine keep_ite1 ?_ ?_
      · refine keep_ans ?_
        refine keep_out (frame_happen _ _ _ _) rfl ?_
        exact keep_refl _
      · split
        · refine keep_ans ?_
          exact keep_refl _
        · refine keep_ite1 ?_ ?_
          · refine keep_ans ?_
            exact keep_refl _
          · refine keep_ite1 ?_ ?_
            · refine keep_ans ?_
              exact keep_refl _
            · extract_lets +onlyGivenNames x0
              have h1 : Keep s x0.1 := by
                dsimp only [x0]
                refine keep_step (keep_abortStaging _ _ _) ?_
                exact keep_refl _
              clear_value x0
              refine keep_ans ?_
              exact h1
  · refine keep_ans ?_
    exact keep_refl _

theorem keep_ringStaging : ∀ s, Keep s (ringStaging s) := by
  intro s
  unfold ringStaging
  split
  · refine keep_step (keep_ringEnter _ _) ?_
    exact keep_refl _
  · exact keep_refl _
  · refine keep_ite ?_ ?_
    · refine keep_step (keep_updMc (fun _ h => h)) ?_
      exact keep_refl _
    · refine keep_step (keep_ringEnter _ _) ?_
      refine keep_step (keep_ringZero _) ?_
      refine keep_out (frame_capturePreempt _) rfl ?_
      exact keep_refl _

theorem keep_stagedCheck : ∀ a0 s, Keep s (stagedCheck a0 s) := by
  intro a0 s
  unfold stagedCheck
  split
  · exact keep_refl _
  · refine keep_ite ?_ ?_
    · extract_lets +onlyGivenNames x0
      have h1 : Keep s x0 := by
        dsimp only [x0]
        refine keep_out (frame_rawEvent _ _ _ _) rfl ?_
        exact keep_refl _
      clear_value x0
      refine keep_out (frame_reportStaged _ _ _) rfl ?_
      refine keep_step (keep_ringEnd _) ?_
      refine keep_out (frame_updMod _ _ _ _) rfl ?_
      refine keep_out (frame_enterUp _ _ _) rfl ?_
      exact h1
    · exact keep_refl _

theorem keep_takeManifest : ∀ a0 a1 a2 a3 a4 s, Keep s (takeManifest a0 a1 a2 a3 a4 s) := by
  intro a0 a1 a2 a3 a4 s
  unfold takeManifest
  extract_lets +onlyGivenNames x0
  clear_value x0
  extract_lets +onlyGivenNames x1
  clear_value x1
  extract_lets +onlyGivenNames x2
  have h3 : Keep s x2 := by
    dsimp only [x2]
    refine keep_ite ?_ ?_
    · refine keep_out (frame_updCamp _ _ _) rfl ?_
      exact keep_refl _
    · refine keep_out (frame_progress _ _ _) rfl ?_
      refine keep_out (frame_eraseStaged _ _) rfl ?_
      refine keep_out (frame_updUp _ _) rfl ?_
      exact keep_refl _
  clear_value x2
  extract_lets +onlyGivenNames x4
  have h5 : Keep s x4 := by
    dsimp only [x4]
    split
    · refine keep_ite ?_ ?_
      · refine keep_step (keep_ringStaging _) ?_
        exact h3
      · exact h3
    · exact h3
  clear_value x4
  extract_lets +onlyGivenNames x6
  have h7 : Keep s x6 := by
    dsimp only [x6]
    refine keep_out (frame_sendManifest _ _) rfl ?_
    exact h5
  clear_value x6
  split
  · refine keep_ite ?_ ?_
    · refine keep_step (keep_stagedCheck _ _) ?_
      exact h7
    · refine keep_ite ?_ ?_
      · refine keep_out (frame_reportStaged _ _ _) rfl ?_
        exact h7
      · exact h7
  · exact h7

theorem keep_bodyUpdateBegin : ∀ a0 s, Keep s (bodyUpdateBegin a0 s).1 := by
  intro a0 s
  unfold bodyUpdateBegin
  extract_lets +onlyGivenNames x0
  clear_value x0
  extract_lets +onlyGivenNames x1
  clear_value x1
  refine keep_ite1 ?_ ?_
  · refine keep_ans ?_
    exact keep_refl _
  · split
    · refine keep_ans ?_
      refine keep_out (frame_happen _ _ _ _) rfl ?_
      exact keep_refl _
    · extract_lets +onlyGivenNames x2
      have h3 : Keep s x2.1 := by
        dsimp only [x2]
        refine keep_out (frame_checkManifest _ _) rfl ?_
        exact keep_refl _
      clear_value x2
      split
      · refine keep_ans ?_
        exact h3
      · extract_lets +onlyGivenNames x4
        clear_value x4
        extract_lets +onlyGivenNames x5
        clear_value x5
        refine keep_ite1 ?_ ?_
        · refine keep_ans ?_
          exact h3
        · refine keep_ite1 ?_ ?_
          · refine keep_ans ?_
            exact h3
          · extract_lets +onlyGivenNames x6
            have h7 : Keep s x6 := by
              dsimp only [x6]
              refine keep_fold _ _ (fun st8 a9 => ?_) ?_
              · refine keep_step (keep_abortStaging _ _ _) ?_
                exact keep_refl _
              · exact h3
            clear_value x6
            extract_lets +onlyGivenNames x10
            have h11 : Keep s x10 := by
              dsimp only [x10]
              refine keep_step (keep_takeManifest _ _ _ _ _ _) ?_
              exact h7
            clear_value x10
            split
            · refine keep_ans ?_
              exact h11
            · refine keep_ans ?_
              exact h11

theorem keep_partWhole : ∀ a0 a1 a2 s, Keep s (partWhole a0 a1 a2 s) := by
  intro a0 a1 a2 s
  unfold partWhole
  dsimp only
  split
  · exact keep_refl _
  · refine keep_ite ?_ ?_
    · refine keep_out (frame_updPart _ _ _ _) rfl ?_
      exact keep_refl _
    · refine keep_ite ?_ ?_
      · refine keep_step (keep_stagedCheck _ _) ?_
        refine keep_out (frame_updPart _ _ _ _) rfl ?_
        exact keep_refl _
      · refine keep_ite ?_ ?_
        · refine keep_step (keep_authFailure _ _) ?_
          refine keep_out (frame_updSlot _ _ _ _) rfl ?_
          refine keep_out (frame_updPart _ _ _ _) rfl ?_
          exact keep_refl _
        · refine keep_out (frame_updSlot _ _ _ _) rfl ?_
          refine keep_out (frame_updPart _ _ _ _) rfl ?_
          exact keep_refl _

theorem keep_takeChunk : ∀ a0 a1 a2 a3 a4 s, Keep s (takeChunk a0 a1 a2 a3 a4 s).1 := by
  intro a0 a1 a2 a3 a4 s
  unfold takeChunk
  split
  · refine keep_pair1 ?_
    exact keep_refl _
  · refine keep_ite1 ?_ ?_
    · extract_lets +onlyGivenNames x0
      have h1 : Keep s x0 := by
        dsimp only [x0]
        refine keep_ite ?_ ?_
        · refine keep_out (frame_updSlot _ _ _ _) rfl ?_
          exact keep_refl _
        · exact keep_refl _
      clear_value x0
      extract_lets +onlyGivenNames x2
      have h3 : Keep s x2 := by
        dsimp only [x2]
        refine keep_ite ?_ ?_
        · refine keep_out (frame_updUp _ _) rfl ?_
          exact h1
        · exact h1
      clear_value x2
      extract_lets +onlyGivenNames x4
      have h5 : Keep s x4 := by
        dsimp only [x4]
        refine keep_out (frame_updPart _ _ _ _) rfl ?_
        exact h3
      clear_value x4
      refine keep_pair1 ?_
      refine keep_ite ?_ ?_
      · refine keep_step (keep_partWhole _ _ _ _) ?_
        exact h5
      · exact h5
    · extract_lets +onlyGivenNames x6
      clear_value x6
      extract_lets +onlyGivenNames x7
      have h8 : Keep s x7 := by
        dsimp only [x7]
        refine keep_out (frame_updPart _ _ _ _) rfl ?_
        exact keep_refl _
      clear_value x7
      refine keep_pair1 ?_
      refine keep_ite ?_ ?_
      · refine keep_step (keep_authFailure _ _) ?_
        exact h8
      · exact h8

theorem keep_takeWhole : ∀ a0 a1 a2 a3 s, Keep s (takeWhole a0 a1 a2 a3 s) := by
  intro a0 a1 a2 a3
  induction a3 with
  | zero => exact fun s => keep_refl _
  | succ n ih =>
    intro s
    unfold takeWhole
    split
    · exact keep_refl _
    · refine keep_ite (keep_refl _) ?_
      extract_lets r
      have hr : Keep s r.1 := keep_step (keep_takeChunk _ _ _ _ _ _) (keep_refl _)
      clear_value r
      refine keep_ite ?_ ?_
      · exact keep_step (ih _) (keep_out (frame_updPart _ _ _ _) rfl hr)
      · exact keep_out (frame_updPart _ _ _ _) rfl hr

theorem keep_bodyUpdateData : ∀ a0 s, Keep s (bodyUpdateData a0 s).1 := by
  intro a0 s
  unfold bodyUpdateData
  extract_lets +onlyGivenNames x0
  clear_value x0
  extract_lets +onlyGivenNames x1
  clear_value x1
  extract_lets +onlyGivenNames x2
  clear_value x2
  extract_lets +onlyGivenNames x3
  clear_value x3
  extract_lets +onlyGivenNames x4
  clear_value x4
  split
  · refine keep_ans ?_
    exact keep_refl _
  · split
    · refine keep_ite1 ?_ ?_
      · refine keep_ans ?_
        exact keep_refl _
      · refine keep_ite1 ?_ ?_
        · refine keep_ans ?_
          exact keep_refl _
        · refine keep_ite1 ?_ ?_
          · refine keep_out (frame_dataReply _ _ _) rfl ?_
            exact keep_refl _
          · refine keep_ite1 ?_ ?_
            · refine keep_ans ?_
              exact keep_refl _
            · refine keep_ite1 ?_ ?_
              · refine keep_ans ?_
                exact keep_refl _
              · refine keep_out (frame_dataReply _ _ _) rfl ?_
                refine keep_step (keep_takeWhole _ _ _ _ _) ?_
                refine keep_out (frame_updPart _ _ _ _) rfl ?_
                exact keep_refl _
    · refine keep_ans ?_
      exact keep_refl _

theorem keep_bootRecord : ∀ s, Keep s (bootRecord s).1 := by
  intro s
  unfold bootRecord
  extract_lets +onlyGivenNames x0
  clear_value x0
  split
  · refine keep_ite1 ?_ ?_
    · refine keep_pair1 ?_
      refine keep_out (frame_sendDecision _ _) rfl ?_
      refine keep_out (frame_updCamp _ _ _) rfl ?_
      refine keep_out (frame_takeAbort _ _) rfl ?_
      exact keep_refl _
    · refine keep_pair1 ?_
      exact keep_refl _
  · refine keep_ite1 ?_ ?_
    · refine keep_pair1 ?_
      refine keep_step (keep_swapNow _) ?_
      exact keep_refl _
    · refine keep_pair1 ?_
      exact keep_refl _
  · refine keep_ite1 ?_ ?_
    · refine keep_pair1 ?_
      refine keep_step (keep_swapNow _) ?_
      exact keep_refl _
    · refine keep_pair1 ?_
      exact keep_refl _
  · refine keep_pair1 ?_
    exact keep_refl _

theorem keep_manifestMsg : ∀ a0 a1 s, Keep s (manifestMsg a0 a1 s) := by
  intro a0 a1 s
  unfold manifestMsg
  extract_lets +onlyGivenNames x0
  clear_value x0
  extract_lets +onlyGivenNames x1
  clear_value x1
  extract_lets +onlyGivenNames x2
  clear_value x2
  extract_lets +onlyGivenNames x3
  clear_value x3
  extract_lets +onlyGivenNames x4
  clear_value x4
  refine keep_ite ?_ ?_
  · exact keep_refl _
  · extract_lets +onlyGivenNames x5
    clear_value x5
    refine keep_ite ?_ ?_
    · refine keep_out (frame_updUp _ _) rfl ?_
      exact keep_refl _
    · extract_lets +onlyGivenNames x6
      clear_value x6
      extract_lets +onlyGivenNames x7
      have h8 : Keep s x7.1 := by
        dsimp only [x7]
        refine keep_out (frame_checkManifest _ _) rfl ?_
        refine keep_out (frame_updUp _ _) rfl ?_
        exact keep_refl _
      clear_value x7
      extract_lets +onlyGivenNames x9
      have h10 : Keep s x9.1 := by
        dsimp only [x9]
        refine keep_out (frame_entryOf _ _ _) rfl ?_
        exact h8
      clear_value x9
      split
      · exact h10
      · extract_lets +onlyGivenNames x11
        have h12 : Keep s x11 := by
          dsimp only [x11]
          refine keep_out (frame_chainSend _ _ _ _) rfl ?_
          exact h10
        clear_value x11
        split
        · exact h12
        · refine keep_ite ?_ ?_
          · exact h10
          · refine keep_ite ?_ ?_
            · refine keep_step (keep_takeManifest _ _ _ _ _ _) ?_
              exact h10
            · exact h12

theorem keep_chunkWhole : ∀ a0 a1 a2 a3 a4 s, Keep s (chunkWhole a0 a1 a2 a3 a4 s) := by
  intro a0 a1 a2 a3 a4 s
  unfold chunkWhole
  extract_lets +onlyGivenNames x0
  clear_value x0
  extract_lets +onlyGivenNames x1
  have h2 : Keep s x1 := by
    dsimp only [x1]
    refine keep_out (frame_updCamp _ _ _) rfl ?_
    exact keep_refl _
  clear_value x1
  refine keep_ite ?_ ?_
  · refine keep_out (frame_ackPred _ _ _ _ _) rfl ?_
    exact h2
  · extract_lets +onlyGivenNames x3
    have h4 : Keep s x3.1 := by
      dsimp only [x3]
      refine keep_step (keep_takeChunk _ _ _ _ _ _) ?_
      exact h2
    clear_value x3
    split
    · exact h4
    · refine keep_ite ?_ ?_
      · refine keep_out (frame_ackPred _ _ _ _ _) rfl ?_
        exact h4
      · refine keep_out (frame_ackPred _ _ _ _ _) rfl ?_
        exact h4

theorem keep_chunkMsg : ∀ a0 a1 s, Keep s (chunkMsg a0 a1 s) := by
  intro a0 a1 s
  unfold chunkMsg
  extract_lets +onlyGivenNames x0
  clear_value x0
  extract_lets +onlyGivenNames x1
  clear_value x1
  extract_lets +onlyGivenNames x2
  clear_value x2
  extract_lets +onlyGivenNames x3
  clear_value x3
  extract_lets +onlyGivenNames x4
  clear_value x4
  split
  · exact keep_refl _
  · split
    · refine keep_ite ?_ ?_
      · exact keep_refl _
      · refine keep_ite ?_ ?_
        · refine keep_ite ?_ ?_
          · refine keep_out (frame_ackPred _ _ _ _ _) rfl ?_
            exact keep_refl _
          · exact keep_refl _
        · extract_lets +onlyGivenNames x5
          clear_value x5
          refine keep_ite ?_ ?_
          · refine keep_ite ?_ ?_
            · refine keep_step (keep_chunkWhole _ _ _ _ _ _) ?_
              exact keep_refl _
            · refine keep_out (frame_updCamp _ _ _) rfl ?_
              exact keep_refl _
          · refine keep_ite ?_ ?_
            · refine keep_out (frame_updCamp _ _ _) rfl ?_
              exact keep_refl _
            · refine keep_out (frame_ackPred _ _ _ _ _) rfl ?_
              refine keep_out (frame_updCamp _ _ _) rfl ?_
              exact keep_refl _
    · exact keep_refl _

theorem keep_stagedMsg : ∀ a0 a1 s, Keep s (stagedMsg a0 a1 s) := by
  intro a0 a1 s
  unfold stagedMsg
  extract_lets +onlyGivenNames x0
  clear_value x0
  extract_lets +onlyGivenNames x1
  clear_value x1
  split
  · exact keep_refl _
  · extract_lets +onlyGivenNames x2
    clear_value x2
    refine keep_ite ?_ ?_
    · refine keep_ite ?_ ?_
      · refine keep_out (frame_modState _ _ _ _ _) rfl ?_
        exact keep_refl _
      · refine keep_step (keep_abortStaging _ _ _) ?_
        refine keep_out (frame_modState _ _ _ _ _) rfl ?_
        exact keep_refl _
    · exact keep_refl _

theorem keep_decisionMsg : ∀ a0 a1 s, Keep s (decisionMsg a0 a1 s) := by
  intro a0 a1 s
  unfold decisionMsg
  extract_lets +onlyGivenNames x0
  clear_value x0
  extract_lets +onlyGivenNames x1
  clear_value x1
  extract_lets +onlyGivenNames x2
  clear_value x2
  split
  · exact keep_refl _
  · refine keep_ite ?_ ?_
    · exact keep_refl _
    · refine keep_ite ?_ ?_
      · refine keep_step (keep_dropStaging _ _ _) ?_
        exact keep_refl _
      · extract_lets +onlyGivenNames x3
        clear_value x3
        extract_lets +onlyGivenNames x4
        have h5 : Keep s x4 := by
          dsimp only [x4]
          refine keep_ite ?_ ?_
          · refine keep_ite ?_ ?_
            · refine keep_out (frame_takeAbort _ _) rfl ?_
              exact keep_refl _
            · refine keep_out (frame_enterUp _ _ _) rfl ?_
              refine keep_out (frame_commitTo _ _) rfl ?_
              exact keep_refl _
          · exact keep_refl _
        clear_value x4
        extract_lets +onlyGivenNames x6
        have h7 : Keep s x6 := by
          dsimp only [x6]
          refine keep_out (frame_chainSend _ _ _ _) rfl ?_
          exact h5
        clear_value x6
        refine keep_ite ?_ ?_
        · refine keep_step (keep_swapNow _) ?_
          exact h7
        · exact h7

theorem keep_confirmMsg : ∀ a0 a1 s, Keep s (confirmMsg a0 a1 s) := by
  intro a0 a1 s
  unfold confirmMsg
  extract_lets +onlyGivenNames x0
  clear_value x0
  extract_lets +onlyGivenNames x1
  clear_value x1
  extract_lets +onlyGivenNames x2
  clear_value x2
  refine keep_ite ?_ ?_
  · exact keep_refl _
  · refine keep_ite ?_ ?_
    · extract_lets +onlyGivenNames x3
      have h4 : Keep s x3 := by
        dsimp only [x3]
        refine keep_ite ?_ ?_
        · refine keep_out (frame_confirmSelf _) rfl ?_
          exact keep_refl _
        · exact keep_refl _
      clear_value x3
      refine keep_out (frame_chainSend _ _ _ _) rfl ?_
      exact h4
    · refine keep_ite ?_ ?_
      · refine keep_step (keep_fallBack _ _) ?_
        exact keep_refl _
      · exact keep_refl _

theorem keep_chainMessage : ∀ a0 a1 s, Keep s (chainMessage a0 a1 s) := by
  intro a0 a1 s
  unfold chainMessage
  split
  · refine keep_step (keep_manifestMsg _ _ _) ?_
    exact keep_refl _
  · refine keep_step (keep_chunkMsg _ _ _) ?_
    exact keep_refl _
  · refine keep_step (keep_ackMsg _ _ _) ?_
    exact keep_refl _
  · refine keep_out (frame_nackMsg _ _ _) rfl ?_
    exact keep_refl _
  · refine keep_step (keep_stagedMsg _ _ _) ?_
    exact keep_refl _
  · refine keep_out (frame_prepareMsg _ _ _) rfl ?_
    exact keep_refl _
  · refine keep_out (frame_voteMsg _ _ _) rfl ?_
    exact keep_refl _
  · refine keep_step (keep_decisionMsg _ _ _) ?_
    exact keep_refl _
  · refine keep_step (keep_ackDecisionMsg _ _ _) ?_
    exact keep_refl _
  · refine keep_out (frame_resolveMsg _ _ _) rfl ?_
    exact keep_refl _
  · refine keep_step (keep_confirmMsg _ _ _) ?_
    exact keep_refl _
  · refine keep_out (frame_motionMsg _ _ _) rfl ?_
    exact keep_refl _
  · exact keep_refl _

theorem keep_serve : ∀ a0 s, Keep s (serve a0 s) := by
  intro a0 s
  unfold serve
  refine keep_step (keep_updMc (fun _ h => h)) ?_
  exact keep_refl _

theorem keep_churnResume : ∀ s, Keep s (churnResume s) := by
  intro s
  unfold churnResume
  refine keep_step (keep_serve _ _) ?_
  refine keep_step (keep_serve _ _) ?_
  refine keep_step (keep_serve _ _) ?_
  refine keep_step (keep_serve _ _) ?_
  exact keep_refl _

theorem keep_micaReset (s : State) : Keep s (micaReset s) := fun _ => sound_empty rfl rfl

theorem keep_domainsRelease : ∀ s, Keep s (domainsRelease s) := by
  intro s
  unfold domainsRelease
  extract_lets +onlyGivenNames x0
  have h1 : Keep s x0 := by
    dsimp only [x0]
    refine keep_ite ?_ ?_
    · exact keep_refl _
    · refine keep_out (frame_updRs _ _) rfl ?_
      refine keep_step (keep_micaReset _) ?_
      exact keep_refl _
  clear_value x0
  extract_lets +onlyGivenNames x2
  have h3 : Keep s x2 := by
    dsimp only [x2]
    refine keep_fold _ _ (fun st4 a5 => ?_) ?_
    · refine keep_out (frame_setDom _ _ _) rfl ?_
      exact keep_refl _
    · refine keep_out (frame_lanesRelease _) rfl ?_
      exact h1
  clear_value x2
  extract_lets +onlyGivenNames x6
  have h7 : Keep s x6 := by
    dsimp only [x6]
    refine keep_out (frame_setDom _ _ _) rfl ?_
    refine keep_out (frame_setDom _ _ _) rfl ?_
    exact h3
  clear_value x6
  refine keep_out (frame_panelOn _) rfl ?_
  exact h7

theorem keep_opBody (off : Nat) (ops : List (Nat × Body)) (h : ∀ o ∈ ops, ∀ c s, Keep s (o.2 c s).1) (c : Ctx)
    (s : State) : Keep s (opBody off ops c s).1 := by
  unfold opBody
  split
  · next o ho => exact h o (List.mem_of_find?_eq_some ho) c s
  · exact keep_refl _

theorem keep_bodies00 {code : Nat} {b : Body} (h : bodies00 code = some b) :
    ∀ c s, Keep s (b c s).1 := by
  unfold bodies00 at h
  split at h
  · cases h
    exact fun c s => keep_out (frame_bodyIdent c s) rfl (keep_refl _)
  split at h
  · cases h
    exact fun c s => keep_out (frame_bodyPing c s) rfl (keep_refl _)
  split at h
  · cases h
    exact fun c s => keep_out (frame_bodyTimeGet c s) rfl (keep_refl _)
  split at h
  · cases h
    exact fun c s => keep_out (frame_bodyStatusGet c s) rfl (keep_refl _)
  cases h

theorem keep_bodies01 {code : Nat} {b : Body} (h : bodies01 code = some b) :
    ∀ c s, Keep s (b c s).1 := by
  unfold bodies01 at h
  split at h
  · cases h
    exact fun c s => keep_out (frame_bodySessionOpen c s) rfl (keep_refl _)
  split at h
  · cases h
    exact fun c s => keep_out (frame_bodySessionProve c s) rfl (keep_refl _)
  split at h
  · cases h
    exact fun c s => keep_out (frame_bodySessionClose c s) rfl (keep_refl _)
  split at h
  · cases h
    exact fun c s => keep_out (frame_bodySessionList c s) rfl (keep_refl _)
  split at h
  · cases h
    exact fun c s => keep_out (frame_bodySubscribe c s) rfl (keep_refl _)
  split at h
  · cases h
    exact fun c s => keep_out (frame_bodyUnsubscribe c s) rfl (keep_refl _)
  split at h
  · cases h
    exact fun c s => keep_out (frame_bodyPendingList c s) rfl (keep_refl _)
  split at h
  · cases h
    exact fun c s => keep_out (frame_bodyPendingCancel c s) rfl (keep_refl _)
  cases h

theorem keep_bodies02 {code : Nat} {b : Body} (h : bodies02 code = some b) :
    ∀ c s, Keep s (b c s).1 := by
  unfold bodies02 at h
  split at h
  · cases h
    exact fun c s => keep_out (frame_bodyProfileSelect c s) rfl (keep_refl _)
  split at h
  · cases h
    exact fun c s => keep_out (frame_bodyProfileGetActive c s) rfl (keep_refl _)
  split at h
  · cases h
    exact fun c s => keep_out (frame_bodyProfileRead c s) rfl (keep_refl _)
  split at h
  · cases h
    exact fun c s => keep_out (frame_bodyProfileWrite c s) rfl (keep_refl _)
  split at h
  · cases h
    exact fun c s => keep_out (frame_bodyProfileValidate c s) rfl (keep_refl _)
  split at h
  · cases h
    exact fun c s => keep_out (frame_bodyProfileSave c s) rfl (keep_refl _)
  split at h
  · cases h
    exact fun c s => keep_out (frame_bodyProfileSetDefault c s) rfl (keep_refl _)
  split at h
  · cases h
    exact fun c s => keep_out (frame_bodyMdRead c s) rfl (keep_refl _)
  cases h

theorem keep_bodies03 {code : Nat} {b : Body} (h : bodies03 code = some b) :
    ∀ c s, Keep s (b c s).1 := by
  unfold bodies03 at h
  split at h
  · cases h
    exact fun c s => keep_out (frame_bodyGrStatus c s) rfl (keep_refl _)
  split at h
  · cases h
    exact fun c s => keep_out (frame_bodyFunctionSet c s) rfl (keep_refl _)
  split at h
  · cases h
    exact fun c s => keep_out (frame_bodyFunctionEnable c s) rfl (keep_refl _)
  split at h
  · cases h
    exact fun c s => keep_out (frame_bodyLaneStatus c s) rfl (keep_refl _)
  split at h
  · cases h
    exact fun c s => keep_out (frame_bodyCoefBankWrite c s) rfl (keep_refl _)
  split at h
  · cases h
    exact fun c s => keep_out (frame_bodyCoefBankSwap c s) rfl (keep_refl _)
  split at h
  · cases h
    exact fun c s => keep_out (frame_bodyRecordCapture c s) rfl (keep_refl _)
  split at h
  · cases h
    exact fun c s => keep_out (frame_bodyRecordRead c s) rfl (keep_refl _)
  split at h
  · cases h
    refine fun c s => keep_opBody _ _ ?_ c s
    intro o ho c s
    simp only [List.mem_cons, List.not_mem_nil, or_false] at ho
    rcases ho with rfl | rfl | rfl | rfl
    · exact keep_out (frame_bodyReplayStatus c s) rfl (keep_refl _)
    · exact keep_out (frame_bodyReplayLoad c s) rfl (keep_refl _)
    · exact keep_out (frame_bodyReplayRun c s) rfl (keep_refl _)
    · exact keep_out (frame_bodyReplayAbort c s) rfl (keep_refl _)
  cases h

theorem keep_bodies04 {code : Nat} {b : Body} (h : bodies04 code = some b) :
    ∀ c s, Keep s (b c s).1 := by
  unfold bodies04 at h
  split at h
  · cases h
    exact fun c s => keep_out (frame_bodyQzStatus c s) rfl (keep_refl _)
  split at h
  · cases h
    exact fun c s => keep_out (frame_bodyQzResultsRead c s) rfl (keep_refl _)
  split at h
  · cases h
    exact fun c s => keep_out (frame_bodyQzCropSelect c s) rfl (keep_refl _)
  split at h
  · cases h
    refine fun c s => keep_opBody _ _ ?_ c s
    intro o ho c s
    simp only [List.mem_cons, List.not_mem_nil, or_false] at ho
    rcases ho with rfl | rfl | rfl
    · exact keep_out (frame_bodyQzTapRequestTap c s) rfl (keep_refl _)
    · exact keep_out (frame_bodyQzTapRequestTeach c s) rfl (keep_refl _)
    · exact keep_out (frame_bodyQzTapRequestForget c s) rfl (keep_refl _)
  split at h
  · cases h
    exact fun c s => keep_out (frame_bodyQzDiagRequest c s) rfl (keep_refl _)
  split at h
  · cases h
    refine fun c s => keep_opBody _ _ ?_ c s
    intro o ho c s
    simp only [List.mem_cons, List.not_mem_nil, or_false] at ho
    rcases ho with rfl | rfl | rfl | rfl
    · exact keep_out (frame_bodyQzRawCaptureStatus c s) rfl (keep_refl _)
    · exact keep_bodyQzRawCaptureStart c s
    · exact keep_bodyQzRawCaptureStop c s
    · exact keep_bodyQzRawCaptureRead c s
  cases h

theorem keep_bodies05 {code : Nat} {b : Body} (h : bodies05 code = some b) :
    ∀ c s, Keep s (b c s).1 := by
  unfold bodies05 at h
  split at h
  · cases h
    exact fun c s => keep_out (frame_bodyCfStatus c s) rfl (keep_refl _)
  split at h
  · cases h
    exact fun c s => keep_out (frame_bodyYieldRead c s) rfl (keep_refl _)
  split at h
  · cases h
    refine fun c s => keep_opBody _ _ ?_ c s
    intro o ho c s
    simp only [List.mem_cons, List.not_mem_nil, or_false] at ho
    rcases ho with rfl | rfl | rfl | rfl | rfl | rfl | rfl
    · exact keep_out (frame_bodyCfCalibrateFlowZero c s) rfl (keep_refl _)
    · exact keep_out (frame_bodyCfCalibrateTankTare c s) rfl (keep_refl _)
    · exact keep_out (frame_bodyCfCalibrateLoadBegin c s) rfl (keep_refl _)
    · exact keep_out (frame_bodyCfCalibrateLoadEnd c s) rfl (keep_refl _)
    · exact keep_out (frame_bodyCfCalibrateLoadAbort c s) rfl (keep_refl _)
    · exact keep_out (frame_bodyCfCalibrateGainReset c s) rfl (keep_refl _)
    · exact keep_out (frame_bodyCfCalibrateDelayReset c s) rfl (keep_refl _)
  split at h
  · cases h
    exact fun c s => keep_out (frame_bodyOptimizerTargets c s) rfl (keep_refl _)
  split at h
  · cases h
    exact fun c s => keep_out (frame_bodyOptimizerEnable c s) rfl (keep_refl _)
  split at h
  · cases h
    refine fun c s => keep_opBody _ _ ?_ c s
    intro o ho c s
    simp only [List.mem_cons, List.not_mem_nil, or_false] at ho
    rcases ho with rfl | rfl | rfl
    · exact keep_out (frame_bodyCoveragePutFieldOpen c s) rfl (keep_refl _)
    · exact keep_out (frame_bodyCoveragePutFieldClose c s) rfl (keep_refl _)
    · exact keep_out (frame_bodyCoveragePutCells c s) rfl (keep_refl _)
  split at h
  · cases h
    refine fun c s => keep_opBody _ _ ?_ c s
    intro o ho c s
    simp only [List.mem_cons, List.not_mem_nil, or_false] at ho
    rcases ho with rfl | rfl
    · exact keep_out (frame_bodyCoverageGetBits c s) rfl (keep_refl _)
    · exact keep_out (frame_bodyCoverageGetChanges c s) rfl (keep_refl _)
  split at h
  · cases h
    exact fun c s => keep_out (frame_bodyMapExport c s) rfl (keep_refl _)
  cases h

theorem keep_bodies06 {code : Nat} {b : Body} (h : bodies06 code = some b) :
    ∀ c s, Keep s (b c s).1 := by
  unfold bodies06 at h
  split at h
  · cases h
    refine fun c s => keep_opBody _ _ ?_ c s
    intro o ho c s
    simp only [List.mem_cons, List.not_mem_nil, or_false] at ho
    rcases ho with rfl | rfl | rfl
    · exact keep_out (frame_bodyVdCommandOff c s) rfl (keep_refl _)
    · exact keep_out (frame_bodyVdCommandPulse c s) rfl (keep_refl _)
    · exact keep_out (frame_bodyVdCommandCurrent c s) rfl (keep_refl _)
  split at h
  · cases h
    exact fun c s => keep_out (frame_bodyVdStatus c s) rfl (keep_refl _)
  split at h
  · cases h
    exact fun c s => keep_out (frame_bodyVdTimingRead c s) rfl (keep_refl _)
  split at h
  · cases h
    refine fun c s => keep_opBody _ _ ?_ c s
    intro o ho c s
    simp only [List.mem_cons, List.not_mem_nil, or_false] at ho
    rcases ho with rfl | rfl | rfl
    · exact keep_out (frame_bodyVdDiagChannel c s) rfl (keep_refl _)
    · exact keep_out (frame_bodyVdDiagBank c s) rfl (keep_refl _)
    · exact keep_out (frame_bodyVdDiagClear c s) rfl (keep_refl _)
  cases h

theorem keep_bodies07 {code : Nat} {b : Body} (h : bodies07 code = some b) :
    ∀ c s, Keep s (b c s).1 := by
  unfold bodies07 at h
  split at h
  · cases h
    refine fun c s => keep_opBody _ _ ?_ c s
    intro o ho c s
    simp only [List.mem_cons, List.not_mem_nil, or_false] at ho
    rcases ho with rfl | rfl | rfl
    · exact keep_out (frame_bodyLsCommandOff c s) rfl (keep_refl _)
    · exact keep_out (frame_bodyLsCommandOn c s) rfl (keep_refl _)
    · exact keep_out (frame_bodyLsCommandPwm c s) rfl (keep_refl _)
  split at h
  · cases h
    exact fun c s => keep_out (frame_bodyLsStatus c s) rfl (keep_refl _)
  split at h
  · cases h
    exact fun c s => keep_out (frame_bodyLsLatchClear c s) rfl (keep_refl _)
  split at h
  · cases h
    refine fun c s => keep_opBody _ _ ?_ c s
    intro o ho c s
    simp only [List.mem_cons, List.not_mem_nil, or_false] at ho
    rcases ho with rfl | rfl
    · exact keep_out (frame_bodyLsDiagOffState c s) rfl (keep_refl _)
    · exact keep_out (frame_bodyLsDiagOnTest c s) rfl (keep_refl _)
  cases h

theorem keep_bodies08 {code : Nat} {b : Body} (h : bodies08 code = some b) :
    ∀ c s, Keep s (b c s).1 := by
  unfold bodies08 at h
  split at h
  · cases h
    exact fun c s => keep_out (frame_bodyGnStatus c s) rfl (keep_refl _)
  split at h
  · cases h
    exact fun c s => keep_out (frame_bodyGnSolutionGet c s) rfl (keep_refl _)
  split at h
  · cases h
    exact fun c s => keep_out (frame_bodyRtcmPut c s) rfl (keep_refl _)
  split at h
  · cases h
    refine fun c s => keep_opBody _ _ ?_ c s
    intro o ho c s
    simp only [List.mem_cons, List.not_mem_nil, or_false] at ho
    rcases ho with rfl | rfl | rfl | rfl | rfl
    · exact keep_out (frame_bodyGnConfigRestart c s) rfl (keep_refl _)
    · exact keep_out (frame_bodyGnConfigSeed c s) rfl (keep_refl _)
    · exact keep_out (frame_bodyGnConfigNotchReset c s) rfl (keep_refl _)
    · exact keep_out (frame_bodyGnConfigAntennaRetry c s) rfl (keep_refl _)
    · exact keep_out (frame_bodyGnConfigImuSelftest c s) rfl (keep_refl _)
  split at h
  · cases h
    refine fun c s => keep_opBody _ _ ?_ c s
    intro o ho c s
    simp only [List.mem_cons, List.not_mem_nil, or_false] at ho
    rcases ho with rfl | rfl | rfl
    · exact keep_out (frame_bodyPathLoadLoadNext c s) rfl (keep_refl _)
    · exact keep_out (frame_bodyPathLoadClearNext c s) rfl (keep_refl _)
    · exact keep_out (frame_bodyPathLoadShift c s) rfl (keep_refl _)
  split at h
  · cases h
    exact fun c s => keep_out (frame_bodySteerEngage c s) rfl (keep_refl _)
  cases h

theorem keep_bodies09 {code : Nat} {b : Body} (h : bodies09 code = some b) :
    ∀ c s, Keep s (b c s).1 := by
  unfold bodies09 at h
  split at h
  · cases h
    exact fun c s => keep_out (frame_bodyFbStatus c s) rfl (keep_refl _)
  split at h
  · cases h
    exact fun c s => keep_out (frame_bodyFbTopology c s) rfl (keep_refl _)
  split at h
  · cases h
    exact fun c s => keep_out (frame_bodyFbNodeAssign c s) rfl (keep_refl _)
  split at h
  · cases h
    exact fun c s => keep_out (frame_bodyFbCableTest c s) rfl (keep_refl _)
  split at h
  · cases h
    exact fun c s => keep_out (frame_bodyFbRelay c s) rfl (keep_refl _)
  cases h

theorem keep_bodies0A {code : Nat} {b : Body} (h : bodies0A code = some b) :
    ∀ c s, Keep s (b c s).1 := by
  unfold bodies0A at h
  split at h
  · cases h
    exact fun c s => keep_out (frame_bodyCnStatus c s) rfl (keep_refl _)
  split at h
  · cases h
    refine fun c s => keep_opBody _ _ ?_ c s
    intro o ho c s
    simp only [List.mem_cons, List.not_mem_nil, or_false] at ho
    rcases ho with rfl | rfl
    · exact keep_out (frame_bodyCnConfigRestart c s) rfl (keep_refl _)
    · exact keep_out (frame_bodyCnConfigReclaim c s) rfl (keep_refl _)
  split at h
  · cases h
    exact fun c s => keep_out (frame_bodyCnSend c s) rfl (keep_refl _)
  split at h
  · cases h
    exact fun c s => keep_out (frame_bodyCnCancel c s) rfl (keep_refl _)
  split at h
  · cases h
    exact fun c s => keep_out (frame_bodyCnFilterSet c s) rfl (keep_refl _)
  cases h

theorem keep_bodies0B {code : Nat} {b : Body} (h : bodies0B code = some b) :
    ∀ c s, Keep s (b c s).1 := by
  unfold bodies0B at h
  split at h
  · cases h
    exact fun c s => keep_out (frame_bodyMcStatus c s) rfl (keep_refl _)
  split at h
  · cases h
    exact fun c s => keep_out (frame_bodyStoreStatus c s) rfl (keep_refl _)
  split at h
  · cases h
    exact fun c s => keep_bodyMcBankState c s
  split at h
  · cases h
    exact fun c s => keep_bodyMapFlush c s
  cases h

theorem keep_bodies0C {code : Nat} {b : Body} (h : bodies0C code = some b) :
    ∀ c s, Keep s (b c s).1 := by
  unfold bodies0C at h
  split at h
  · cases h
    exact fun c s => keep_out (frame_bodyEvRead c s) rfl (keep_refl _)
  split at h
  · cases h
    exact fun c s => keep_out (frame_bodyEvReadPriv c s) rfl (keep_refl _)
  split at h
  · cases h
    exact fun c s => keep_out (frame_bodyEvCount c s) rfl (keep_refl _)
  split at h
  · cases h
    exact fun c s => keep_out (frame_bodyEvClear c s) rfl (keep_refl _)
  cases h

theorem keep_bodies0D {code : Nat} {b : Body} (h : bodies0D code = some b) :
    ∀ c s, Keep s (b c s).1 := by
  unfold bodies0D at h
  split at h
  · cases h
    exact fun c s => keep_bodyUpdateBegin c s
  split at h
  · cases h
    exact fun c s => keep_bodyUpdateData c s
  split at h
  · cases h
    exact fun c s => keep_out (frame_bodyUpdateStatus c s) rfl (keep_refl _)
  split at h
  · cases h
    exact fun c s => keep_out (frame_bodyUpdateActivate c s) rfl (keep_refl _)
  split at h
  · cases h
    exact fun c s => keep_out (frame_bodyUpdateConfirm c s) rfl (keep_refl _)
  split at h
  · cases h
    refine fun c s => keep_opBody _ _ ?_ c s
    intro o ho c s
    simp only [List.mem_cons, List.not_mem_nil, or_false] at ho
    rcases ho with rfl | rfl | rfl
    · exact keep_bodyUpdateAbortStaging c s
    · exact keep_bodyUpdateAbortFallback c s
    · exact keep_out (frame_bodyUpdateAbortResolveAbort c s) rfl (keep_refl _)
  cases h

theorem keep_bodies0E {code : Nat} {b : Body} (h : bodies0E code = some b) :
    ∀ c s, Keep s (b c s).1 := by
  unfold bodies0E at h
  split at h
  · cases h
    exact fun c s => keep_out (frame_bodyResetRequest c s) rfl (keep_refl _)
  split at h
  · cases h
    exact fun c s => keep_out (frame_bodyLifecycleGet c s) rfl (keep_refl _)
  split at h
  · cases h
    refine fun c s => keep_opBody _ _ ?_ c s
    intro o ho c s
    simp only [List.mem_cons, List.not_mem_nil, or_false] at ho
    rcases ho with rfl | rfl | rfl
    · exact keep_bodyLifecycleSetTransition c s
    · exact keep_out (frame_bodyLifecycleSetProvisionKey c s) rfl (keep_refl _)
    · exact keep_out (frame_bodyLifecycleSetRevokeKey c s) rfl (keep_refl _)
  split at h
  · cases h
    refine fun c s => keep_opBody _ _ ?_ c s
    intro o ho c s
    simp only [List.mem_cons, List.not_mem_nil, or_false] at ho
    rcases ho with rfl | rfl | rfl
    · exact keep_out (frame_bodyOwnerLockSet c s) rfl (keep_refl _)
    · exact keep_out (frame_bodyOwnerLockClear c s) rfl (keep_refl _)
    · exact keep_out (frame_bodyOwnerLockPermitService c s) rfl (keep_refl _)
  split at h
  · cases h
    exact fun c s => keep_out (frame_bodyStandbyEnter c s) rfl (keep_refl _)
  split at h
  · cases h
    exact fun c s => keep_out (frame_bodyPowerStatus c s) rfl (keep_refl _)
  split at h
  · cases h
    exact fun c s => keep_out (frame_bodyDomainState c s) rfl (keep_refl _)
  cases h

theorem keep_bodies0F {code : Nat} {b : Body} (h : bodies0F code = some b) :
    ∀ c s, Keep s (b c s).1 := by
  unfold bodies0F at h
  split at h
  · cases h
    exact fun c s => keep_out (frame_bodySpWrite c s) rfl (keep_refl _)
  split at h
  · cases h
    exact fun c s => keep_out (frame_bodySpStatus c s) rfl (keep_refl _)
  cases h

theorem keep_bodies10 {code : Nat} {b : Body} (h : bodies10 code = some b) :
    ∀ c s, Keep s (b c s).1 := by
  unfold bodies10 at h
  split at h
  · cases h
    exact fun c s => keep_out (frame_bodyInject c s) rfl (keep_refl _)
  split at h
  · cases h
    exact fun c s => keep_out (frame_bodyInjectClear c s) rfl (keep_refl _)
  split at h
  · cases h
    exact fun c s => keep_out (frame_bodyInjectList c s) rfl (keep_refl _)
  split at h
  · cases h
    exact fun c s => keep_out (frame_bodySelftest c s) rfl (keep_refl _)
  cases h

theorem keep_bodies11 {code : Nat} {b : Body} (h : bodies11 code = some b) :
    ∀ c s, Keep s (b c s).1 := by
  unfold bodies11 at h
  split at h
  · cases h
    exact fun c s => keep_out (frame_bodyParamGet c s) rfl (keep_refl _)
  split at h
  · cases h
    exact fun c s => keep_out (frame_bodyParamSet c s) rfl (keep_refl _)
  split at h
  · cases h
    exact fun c s => keep_out (frame_bodyParamInfo c s) rfl (keep_refl _)
  split at h
  · cases h
    exact fun c s => keep_out (frame_bodyParamList c s) rfl (keep_refl _)
  cases h

theorem keep_bodyOf {code : Nat} {b : Body} (h : bodyOf code = some b) :
    ∀ c s, Keep s (b c s).1 := by
  unfold bodyOf at h
  split at h
  · exact keep_bodies00 h
  · exact keep_bodies01 h
  · exact keep_bodies02 h
  · exact keep_bodies03 h
  · exact keep_bodies04 h
  · exact keep_bodies05 h
  · exact keep_bodies06 h
  · exact keep_bodies07 h
  · exact keep_bodies08 h
  · exact keep_bodies09 h
  · exact keep_bodies0A h
  · exact keep_bodies0B h
  · exact keep_bodies0C h
  · exact keep_bodies0D h
  · exact keep_bodies0E h
  · exact keep_bodies0F h
  · exact keep_bodies10 h
  · exact keep_bodies11 h
  · cases h

theorem keep_runCommand (c : Ctx) (s : State) : Keep s (runCommand c s) := by
  unfold runCommand
  split
  · next h => exact keep_runBody (keep_bodyOf h) (keep_refl _)
  · refine keep_ite ?_ ?_
    · exact keep_out (frame_answerOnce _ _ _) rfl (keep_refl _)
    · exact keep_out (frame_answer _ _ _ _) rfl (keep_refl _)

theorem keep_takeMessage : ∀ a0 a1 a2 s, Keep s (takeMessage a0 a1 a2 s) := by
  intro a0 a1 a2 s
  unfold takeMessage
  extract_lets +onlyGivenNames x0
  have h1 : Keep s x0 := by
    dsimp only [x0]
    refine keep_ite ?_ ?_
    · exact keep_refl _
    · refine keep_out (frame_updChan _ _ _ _) rfl ?_
      exact keep_refl _
  clear_value x0
  split
  · refine keep_ite ?_ ?_
    · refine keep_out (frame_endAssembly _ _ _) rfl ?_
      exact h1
    · refine keep_ite ?_ ?_
      · refine keep_out (frame_endAssembly _ _ _) rfl ?_
        exact keep_refl _
      · refine keep_ite ?_ ?_
        · refine keep_out (frame_joinFragment _ _ _) rfl ?_
          exact keep_refl _
        · extract_lets +onlyGivenNames x2
          clear_value x2
          refine keep_acceptCommand (fun st3 => ?_) ?_
          · refine keep_step (keep_runCommand _ _) ?_
            exact keep_refl _
          · refine keep_out (frame_updChan _ _ _ _) rfl ?_
            exact keep_refl _
  · refine keep_ite ?_ ?_
    · refine keep_out (frame_answer _ _ _ _) rfl ?_
      exact h1
    · refine keep_ite ?_ ?_
      · refine keep_acceptCommand (fun st4 => ?_) ?_
        · refine keep_step (keep_runCommand _ _) ?_
          exact keep_refl _
        · exact keep_refl _
      · refine keep_ite ?_ ?_
        · refine keep_out (frame_answer _ _ _ _) rfl ?_
          exact keep_refl _
        · refine keep_ite ?_ ?_
          · refine keep_out (frame_answer _ _ _ _) rfl ?_
            exact keep_refl _
          · refine keep_ite ?_ ?_
            · refine keep_out (frame_answer _ _ _ _) rfl ?_
              exact keep_refl _
            · refine keep_ite ?_ ?_
              · refine keep_out (frame_endAssembly _ _ _) rfl ?_
                exact keep_refl _
              · refine keep_out (frame_joinFragment _ _ _) rfl ?_
                exact keep_refl _

theorem keep_takeNext : ∀ a0 a1 s, Keep s (takeNext a0 a1 s) := by
  intro a0 a1 s
  unfold takeNext
  extract_lets +onlyGivenNames x0
  have h1 : Keep s x0 := by
    dsimp only [x0]
    refine keep_out (frame_updChan _ _ _ _) rfl ?_
    exact keep_refl _
  clear_value x0
  refine keep_ite ?_ ?_
  · exact h1
  · refine keep_step (keep_takeMessage _ _ _ _) ?_
    exact h1

theorem keep_release : ∀ a0 a1 a2 s, Keep s (release a0 a1 a2 s) := by
  intro a0 a1 a2
  induction a0 with
  | zero => exact fun s => keep_refl _
  | succ n ih =>
    intro s
    unfold release
    split
    · exact keep_refl _
    · split
      · exact keep_refl _
      · refine keep_step (ih _) ?_
        refine keep_step (keep_takeNext _ _ _) ?_
        exact keep_out (frame_updChan _ _ _ _) rfl (keep_refl _)

theorem keep_sequenceRule : ∀ a0 a1 s, Keep s (sequenceRule a0 a1 s) := by
  intro a0 a1 s
  unfold sequenceRule
  extract_lets +onlyGivenNames x0
  clear_value x0
  refine keep_ite ?_ ?_
  · refine keep_out (frame_closeEnded _) rfl ?_
    refine keep_step (keep_release _ _ _ _) ?_
    refine keep_step (keep_takeNext _ _ _) ?_
    exact keep_refl _
  · refine keep_ite ?_ ?_
    · refine keep_out (frame_holdMessage _ _ _) rfl ?_
      exact keep_refl _
    · refine keep_ite ?_ ?_
      · refine keep_out (frame_duplicate _ _ _) rfl ?_
        exact keep_refl _
      · refine keep_out (frame_countDiscarded _) rfl ?_
        exact keep_refl _

theorem keep_receive0 : ∀ a0 a1 s, Keep s (receive0 a0 a1 s) := by
  intro a0 a1 s
  unfold receive0
  refine keep_ite ?_ ?_
  · refine keep_out (frame_answer0 _ _ _ _ _) rfl ?_
    exact keep_refl _
  · refine keep_ite ?_ ?_
    · refine keep_out (frame_authFail _ _ _) rfl ?_
      exact keep_refl _
    · split
      · refine keep_step (keep_sequenceRule _ _ _) ?_
        exact keep_refl _
      · extract_lets +onlyGivenNames x0
        clear_value x0
        refine keep_step (keep_sequenceRule _ _ _) ?_
        refine keep_out (frame_updMb _ _) rfl ?_
        exact keep_refl _

theorem keep_halfOpenRule : ∀ a0 a1 s, Keep s (halfOpenRule a0 a1 s) := by
  intro a0 a1 s
  unfold halfOpenRule
  extract_lets +onlyGivenNames x0
  clear_value x0
  refine keep_ite ?_ ?_
  · refine keep_out (frame_countDiscarded _) rfl ?_
    exact keep_refl _
  · refine keep_ite ?_ ?_
    · refine keep_out (frame_answerOnce _ _ _) rfl ?_
      exact keep_refl _
    · refine keep_ite ?_ ?_
      · refine keep_out (frame_answerOnce _ _ _) rfl ?_
        exact keep_refl _
      · refine keep_step (keep_runCommand _ _) ?_
        exact keep_refl _

theorem keep_receiveIn : ∀ a0 a1 s, Keep s (receiveIn a0 a1 s) := by
  intro a0 a1 s
  unfold receiveIn
  split
  · refine keep_out (frame_answer0 _ _ _ _ _) rfl ?_
    exact keep_refl _
  · refine keep_ite ?_ ?_
    · refine keep_out (frame_answer0 _ _ _ _ _) rfl ?_
      exact keep_refl _
    · refine keep_ite ?_ ?_
      · refine keep_out (frame_answer0 _ _ _ _ _) rfl ?_
        exact keep_refl _
      · split
        · refine keep_out (frame_authFail _ _ _) rfl ?_
          exact keep_refl _
        · extract_lets +onlyGivenNames x0
          have h1 : Keep s x0 := by
            dsimp only [x0]
            refine keep_out (frame_updSess _ _ _) rfl ?_
            exact keep_refl _
          clear_value x0
          extract_lets +onlyGivenNames x2
          clear_value x2
          refine keep_ite ?_ ?_
          · refine keep_step (keep_sequenceRule _ _ _) ?_
            exact h1
          · refine keep_step (keep_halfOpenRule _ _ _) ?_
            exact h1

theorem keep_receiveMessage : ∀ a0 a1 s, Keep s (receiveMessage a0 a1 s) := by
  intro a0 a1 s
  unfold receiveMessage
  split
  · refine keep_out (frame_countMalformed _) rfl ?_
    exact keep_refl _
  · extract_lets +onlyGivenNames x0
    have h1 : Keep s x0 := by
      dsimp only [x0]
      refine keep_out (frame_updChan _ _ _ _) rfl ?_
      exact keep_refl _
    clear_value x0
    refine keep_ite ?_ ?_
    · refine keep_step (keep_receive0 _ _ _) ?_
      exact h1
    · refine keep_step (keep_receiveIn _ _ _) ?_
      exact h1

theorem keep_execMessageReceive : ∀ a0 a1 a2 s t, execMessageReceive a0 a1 a2 s = .next t → Keep s t := by
  intro a0 a1 a2 s t h
  unfold execMessageReceive at h
  cases h
  refine keep_ite ?_ ?_
  · exact keep_refl _
  · refine keep_ite ?_ ?_
    · refine keep_out (frame_countMalformed _) rfl ?_
      exact keep_refl _
    · refine keep_ite ?_ ?_
      · split
        · refine keep_step (keep_receiveMessage _ _ _) ?_
          exact keep_refl _
        · refine keep_out (frame_countMalformed _) rfl ?_
          exact keep_refl _
      · refine keep_step (keep_receiveMessage _ _ _) ?_
        exact keep_refl _

theorem keep_forcedPreempt : ∀ s, Keep s (forcedPreempt s) := by
  intro s
  unfold forcedPreempt
  refine keep_ite ?_ ?_
  · refine keep_step (keep_ringFree _) ?_
    refine keep_out (frame_capturePreempt _) rfl ?_
    exact keep_refl _
  · exact keep_refl _

theorem keep_execCutOff : ∀ a0 s t, execCutOff a0 s = .next t → Keep s t := by
  intro a0 s t h
  unfold execCutOff at h
  cases h
  refine keep_ite ?_ ?_
  · extract_lets +onlyGivenNames x0
    clear_value x0
    extract_lets +onlyGivenNames x1
    have h2 : Keep s x1 := by
      dsimp only [x1]
      refine keep_out (frame_selectRecheck _) rfl ?_
      refine keep_out (frame_canClose _) rfl ?_
      refine keep_out (frame_quartzCutoff _ _ _ _) rfl ?_
      refine keep_out (frame_ioCutoff _ _) rfl ?_
      exact keep_refl _
    clear_value x1
    extract_lets +onlyGivenNames x3
    have h4 : Keep s x3 := by
      dsimp only [x3]
      refine keep_step (keep_forcedPreempt _) ?_
      refine keep_out (frame_creamClose _) rfl ?_
      refine keep_out (frame_updGr _ _) rfl ?_
      exact h2
    clear_value x3
    refine keep_out (frame_atCycle _ _) rfl ?_
    refine keep_step (keep_updMc (fun _ h => h)) ?_
    exact h4
  · exact keep_refl _

theorem keep_pumpChan : ∀ a0 a1 a2 s, Keep s (pumpChan a0 a1 a2 s) := by
  intro a0 a1 a2
  induction a0 with
  | zero => exact fun s => keep_refl _
  | succ n ih =>
    intro s
    unfold pumpChan
    split
    · exact keep_refl _
    · split
      · refine keep_step (ih _) ?_
        refine keep_step (keep_runCommand _ _) ?_
        exact keep_out (frame_updChan _ _ _ _) rfl (keep_refl _)
      · exact keep_refl _

theorem keep_runQueues : ∀ s, Keep s (runQueues s) := by
  intro s
  unfold runQueues
  refine keep_ite ?_ ?_
  · refine keep_out (frame_closeEnded _) rfl ?_
    refine keep_fold _ _ (fun st0 a1 => ?_) ?_
    · refine keep_step (keep_pumpChan _ _ _ _) ?_
      exact keep_refl _
    · exact keep_refl _
  · exact keep_refl _

theorem keep_supervisorFrame : ∀ s, Keep s (supervisorFrame s) := by
  intro s
  unfold supervisorFrame
  refine keep_ite ?_ ?_
  · refine keep_step (keep_runQueues _) ?_
    refine keep_out (frame_fabricPump _) rfl ?_
    refine keep_out (frame_answerConfirm _) rfl ?_
    refine keep_out (frame_tellFallBack _) rfl ?_
    refine keep_out (frame_motionFrame _) rfl ?_
    refine keep_out (frame_canPump _) rfl ?_
    refine keep_out (frame_canForward _) rfl ?_
    refine keep_out (frame_optFrame _) rfl ?_
    refine keep_out (frame_cropFrame _) rfl ?_
    exact keep_refl _
  · exact keep_refl _

theorem keep_execFrameStart : ∀ a0 s t, execFrameStart a0 s = .next t → Keep s t := by
  intro a0 s t h
  unfold execFrameStart at h
  cases h
  refine keep_ite ?_ ?_
  · extract_lets +onlyGivenNames x0
    clear_value x0
    extract_lets +onlyGivenNames x1
    have h2 : Keep s x1 := by
      dsimp only [x1]
      refine keep_out (frame_replayFrame _) rfl ?_
      refine keep_out (frame_machineEffect _) rfl ?_
      refine keep_out (frame_releaseRecord _ _) rfl ?_
      exact keep_refl _
    clear_value x1
    extract_lets +onlyGivenNames x3
    have h4 : Keep s x3 := by
      dsimp only [x3]
      refine keep_out (frame_machineWork _ _) rfl ?_
      refine keep_out (frame_applyPhase _) rfl ?_
      exact h2
    clear_value x3
    extract_lets +onlyGivenNames x5
    have h6 : Keep s x5 := by
      dsimp only [x5]
      refine keep_out (frame_lsLampFrame _ _) rfl ?_
      refine keep_out (frame_lsClearFrame _) rfl ?_
      refine keep_out (frame_timeFrame _) rfl ?_
      refine keep_out (frame_vdFrame _) rfl ?_
      refine keep_out (frame_secondFrame _) rfl ?_
      exact h4
    clear_value x5
    refine keep_step (keep_supervisorFrame _) ?_
    refine keep_out (frame_injectionsFrame _) rfl ?_
    refine keep_out (frame_canTxQueue _) rfl ?_
    exact h6
  · exact keep_refl _

theorem keep_execQzRawCaptureStart : ∀ a0 s t, execQzRawCaptureStart a0 s = .next t → Keep s t := by
  intro a0 s t h
  unfold execQzRawCaptureStart at h
  cases h
  exact keep_hostCommand keep_bodyQzRawCaptureStart

theorem keep_execQzRawCaptureStop : ∀ a0 s t, execQzRawCaptureStop a0 s = .next t → Keep s t := by
  intro a0 s t h
  unfold execQzRawCaptureStop at h
  cases h
  exact keep_hostCommand keep_bodyQzRawCaptureStop

theorem keep_execQzRawCaptureRead : ∀ a0 s t, execQzRawCaptureRead a0 s = .next t → Keep s t := by
  intro a0 s t h
  unfold execQzRawCaptureRead at h
  cases h
  exact keep_hostCommand keep_bodyQzRawCaptureRead

theorem keep_execRawCaptureDone : ∀ s t, execRawCaptureDone s = .next t → Keep s t := by
  intro s t h
  unfold execRawCaptureDone at h
  cases h
  refine keep_ite ?_ ?_
  · refine keep_step (keep_updMc (fun _ h => h)) ?_
    refine keep_out (frame_updCap _ _) rfl ?_
    exact keep_refl _
  · exact keep_refl _

theorem keep_fabricMail : ∀ a0 a1 a2 s, Keep s (fabricMail a0 a1 a2 s) := by
  intro a0 a1 a2 s
  unfold fabricMail
  refine keep_ite ?_ ?_
  · exact keep_refl _
  · refine keep_ite ?_ ?_
    · refine keep_out (frame_innerResponse _ _ _ _) rfl ?_
      exact keep_refl _
    · refine keep_ite ?_ ?_
      · refine keep_out (frame_relayedNote _ _ _) rfl ?_
        exact keep_refl _
      · refine keep_step (keep_receiveMessage _ _ _) ?_
        exact keep_refl _

theorem keep_mirrorAgain : ∀ a0 a1 a2 s, Keep s (mirrorAgain a0 a1 a2 s) := by
  intro a0 a1 a2 s
  unfold mirrorAgain
  extract_lets +onlyGivenNames x0
  clear_value x0
  refine keep_step (keep_updMc (fun _ h => h)) ?_
  exact keep_refl _

theorem keep_skimDeliver : ∀ a0 a1 s, Keep s (skimDeliver a0 a1 s) := by
  intro a0 a1 s
  unfold skimDeliver
  refine keep_ite ?_ ?_
  · refine keep_out (frame_fabricPump _) rfl ?_
    refine keep_step (keep_fabricMail _ _ _ _) ?_
    exact keep_refl _
  · refine keep_ite ?_ ?_
    · refine keep_step (keep_chainMessage _ _ _) ?_
      exact keep_refl _
    · refine keep_ite ?_ ?_
      · refine keep_step (keep_mirrorAgain _ _ _ _) ?_
        exact keep_refl _
      · extract_lets +onlyGivenNames x0
        have h1 : Keep s x0 := by
          dsimp only [x0]
          split
          · refine keep_out (frame_mirrorAsk _ _ _ _ _) rfl ?_
            exact keep_refl _
          · exact keep_refl _
        clear_value x0
        refine keep_out (frame_mirrorStore _ _ _) rfl ?_
        exact h1

theorem keep_execSkimFrameReceive : ∀ a0 a1 a2 s t, execSkimFrameReceive a0 a1 a2 s = .next t → Keep s t := by
  intro a0 a1 a2 s t h
  unfold execSkimFrameReceive at h
  extract_lets +onlyGivenNames x0 at h
  clear_value x0
  extract_lets +onlyGivenNames x1 at h
  clear_value x1
  extract_lets +onlyGivenNames x2 at h
  have h3 : Keep s x2.1 := by
    dsimp only [x2]
    refine keep_out (frame_skimRoute _ _ _ _) rfl ?_
    exact keep_refl _
  clear_value x2
  cases h
  refine keep_ite ?_ ?_
  · refine keep_step (keep_skimDeliver _ _ _) ?_
    exact h3
  · exact h3

theorem keep_execCanFrameReceive : ∀ a0 a1 a2 a3 s t, execCanFrameReceive a0 a1 a2 a3 s = .next t → Keep s t := by
  intro a0 a1 a2 a3 s t h
  unfold execCanFrameReceive at h
  extract_lets +onlyGivenNames x0 at h
  have h1 : Keep s x0.1 := by
    dsimp only [x0]
    refine keep_out (frame_canReceive _ _ _ _ _) rfl ?_
    exact keep_refl _
  clear_value x0
  cases h
  split
  · extract_lets +onlyGivenNames x2
    clear_value x2
    refine keep_out (frame_canPump _) rfl ?_
    refine keep_ite ?_ ?_
    · refine keep_step (keep_receiveMessage _ _ _) ?_
      exact h1
    · exact h1
  · exact h1

theorem keep_execMicaAccess : ∀ a0 a1 s t, execMicaAccess a0 a1 s = .next t → Keep s t := by
  intro a0 a1 s t h
  unfold execMicaAccess at h
  split at h <;> cases h
  exact keep_bankCycle _ a0.isLt _ _

theorem length_leN (n v : Nat) : (leN n v).length = n := by
  induction n generalizing v with
  | zero => rfl
  | succ n ih => simp [leN, ih]

theorem keep_execMicaAtomic : ∀ a0 a1 a2 a3 s t, execMicaAtomic a0 a1 a2 a3 s = .next t → Keep s t := by
  intro a0 a1 a2 a3 s t h k
  unfold execMicaAtomic at h
  extract_lets b w s0 at h
  have h0 : micaSound s0.mc := keep_updMc (f := fun c => { c with answers := [] }) (fun _ h => h) k
  have e0 : ∀ d, bankServes s0 d = bankServes s d := fun d => bankServes_updMc rfl
  clear_value s0
  split at h
  · cases h
  · next ha =>
    have hb : b < 64 := by dsimp only [b]; omega
    cases h
    split
    · exact h0
    · next hw =>
      split
      · exact keep_accessError _ _ _ h0
      · next hs =>
        have hs : bankServes s b = true := by simpa using hs
        have k1 := keep_step (keep_served b a0.val _) (keep_updMcBank (b := b) (f := fun k => { k with busyB := 1 }) (s := s0)
          (fun _ h1 h2 => ⟨h1, h2⟩)) h0
        have e1 : bankServes (served b a0.val (updMcBank b (fun k => { k with busyB := 1 }) s0)) b = true := by
          unfold served
          rw [bankServes_updMc rfl, bankServes_updMcBank ?_ (sound_banks h0 hb), e0, hs]
          exact fun _ => ⟨rfl, rfl⟩
        have hv := serves_on e1
        refine sound_write k1 (by omega) ?_ hv.1 hv.2
        have hw : a2 % w = 0 := by
          by_contra e
          simp [e] at hw
        rw [length_leN]
        have hw4 : w = 4 ∨ w = 8 := by
          dsimp only [w, opWidth]
          split <;> simp
        rcases hw4 with e | e <;> rw [e] at hw ⊢ <;> omega

theorem keep_micaBad : ∀ a0 a1 s, Keep s (micaBad a0 a1 s) := by
  intro a0 a1 s
  unfold micaBad
  extract_lets +onlyGivenNames x0
  have h1 : Keep s x0 := by
    dsimp only [x0]
    refine keep_step (keep_updMc (fun _ h => h)) ?_
    exact keep_refl _
  clear_value x0
  refine keep_out (frame_happen _ _ _ _) rfl ?_
  refine keep_step (keep_bankAction _ _ _) ?_
  exact h1

theorem keep_execMicaUncorrectable : ∀ a0 a1 s t, execMicaUncorrectable a0 a1 s = .next t → Keep s t := by
  intro a0 a1 s t h
  unfold execMicaUncorrectable at h
  cases h
  refine keep_ite ?_ ?_
  · refine keep_step (keep_micaBad _ _ _) ?_
    exact keep_refl _
  · exact keep_refl _

theorem keep_scrubFirst : ∀ s, Keep s (scrubFirst s) := by
  intro s
  unfold scrubFirst
  split
  · refine keep_ite ?_ ?_
    · exact keep_refl _
    · refine keep_step (keep_updMc (fun _ h => h)) ?_
      exact keep_refl _
  · exact keep_refl _

theorem keep_scrubLine : ∀ a0 s, Keep s (scrubLine a0 s) := by
  intro a0 s
  unfold scrubLine
  extract_lets +onlyGivenNames x0
  clear_value x0
  extract_lets +onlyGivenNames x1
  clear_value x1
  extract_lets +onlyGivenNames x2
  clear_value x2
  extract_lets +onlyGivenNames x3
  clear_value x3
  extract_lets +onlyGivenNames x4
  have h5 : Keep s x4 := by
    dsimp only [x4]
    refine keep_step (keep_updMcBank (fun _ h1 h2 => ⟨h1, h2⟩)) ?_
    exact keep_refl _
  clear_value x4
  refine keep_step (keep_updMc (fun _ h => h)) ?_
  exact h5

theorem keep_execScrubLine : ∀ a0 a1 a2 s t, execScrubLine a0 a1 a2 s = .next t → Keep s t := by
  intro a0 a1 a2 s t h
  unfold execScrubLine at h
  cases h
  refine keep_ite ?_ ?_
  · extract_lets +onlyGivenNames x0
    have h1 : Keep s x0 := by
      dsimp only [x0]
      refine keep_step (keep_scrubFirst _) ?_
      exact keep_refl _
    clear_value x0
    extract_lets +onlyGivenNames x2
    clear_value x2
    extract_lets +onlyGivenNames x3
    clear_value x3
    extract_lets +onlyGivenNames x4
    have h5 : Keep s x4 := by
      dsimp only [x4]
      refine keep_step (keep_scrubLine _ _) ?_
      exact h1
    clear_value x4
    refine keep_ite ?_ ?_
    · refine keep_step (keep_micaBad _ _ _) ?_
      exact h5
    · exact h5
  · exact keep_refl _

theorem keep_execBankPowerRequest : ∀ a0 a1 s t, execBankPowerRequest a0 a1 s = .next t → Keep s t := by
  intro a0 a1 s t h
  unfold execBankPowerRequest at h
  cases h
  refine keep_step (keep_bankPower _ _ _) ?_
  exact keep_refl _

theorem keep_execBankZeroDone : ∀ a0 s t, execBankZeroDone a0 s = .next t → Keep s t := by
  intro a0 s t h
  unfold execBankZeroDone at h
  cases h
  exact keep_ite (keep_updMcBank (fun _ h1 _ => ⟨h1, rfl⟩)) (keep_refl _)

theorem keep_execSharedRingTimer : ∀ s t, execSharedRingTimer s = .next t → Keep s t := by
  intro s t h
  unfold execSharedRingTimer at h
  cases h
  split
  · refine keep_ite ?_ ?_
    · refine keep_fold _ _ (fun st0 a1 => ?_) ?_
      · refine keep_step (keep_bankPower _ _ _) ?_
        exact keep_refl _
      · exact keep_refl _
    · exact keep_refl _
  · refine keep_ite ?_ ?_
    · refine keep_step (keep_ringFree _) ?_
      refine keep_out (frame_updCap _ _) rfl ?_
      exact keep_refl _
    · exact keep_refl _
  · exact keep_refl _

theorem keep_execMapFlushPage : ∀ s t, execMapFlushPage s = .next t → Keep s t := by
  intro s t h
  unfold execMapFlushPage at h
  cases h
  refine keep_ite ?_ ?_
  · split
    · refine keep_step (keep_updMc (fun _ h => h)) ?_
      exact keep_refl _
    · refine keep_step (keep_updMc (fun _ h => h)) ?_
      exact keep_refl _
  · exact keep_refl _

theorem keep_mirrorSend : ∀ s, Keep s (mirrorSend s) := by
  intro s
  unfold mirrorSend
  split
  · exact keep_refl _
  · extract_lets +onlyGivenNames x0
    clear_value x0
    extract_lets +onlyGivenNames x1
    clear_value x1
    extract_lets +onlyGivenNames x2
    clear_value x2
    extract_lets +onlyGivenNames x3
    have h4 : Keep s x3.1 := by
      dsimp only [x3]
      refine keep_out (frame_skimSend _ _ _ _ _) rfl ?_
      exact keep_refl _
    clear_value x3
    refine keep_ite ?_ ?_
    · refine keep_step (keep_updMc (fun _ h => h)) ?_
      exact keep_refl _
    · refine keep_ite ?_ ?_
      · refine keep_step (keep_updMc (fun _ h => h)) ?_
        exact h4
      · exact keep_refl _

theorem keep_execMapMirrorPage : ∀ a0 s t, execMapMirrorPage a0 s = .next t → Keep s t := by
  intro a0 s t h
  unfold execMapMirrorPage at h
  cases h
  refine keep_ite ?_ ?_
  · exact keep_refl _
  · split
    · refine keep_step (keep_mirrorSend _) ?_
      exact keep_refl _
    · refine keep_out (frame_mirrorStore _ _ _) rfl ?_
      exact keep_refl _

theorem keep_execWearCompaction : ∀ a0 s t, execWearCompaction a0 s = .next t → Keep s t := by
  intro a0 s t h
  unfold execWearCompaction at h
  cases h
  refine keep_ite ?_ ?_
  · refine keep_step (keep_serve _ _) ?_
    exact keep_refl _
  · exact keep_refl _

theorem keep_execTapCalibrationCopy : ∀ s t, execTapCalibrationCopy s = .next t → Keep s t := by
  intro s t h
  unfold execTapCalibrationCopy at h
  cases h
  refine keep_ite ?_ ?_
  · refine keep_step (keep_serve _ _) ?_
    refine keep_out (frame_quartzCopyCal _) rfl ?_
    exact keep_refl _
  · exact keep_refl _

theorem keep_execConverterSelfCalibration : ∀ a0 a1 s t, execConverterSelfCalibration a0 a1 s = .next t → Keep s t := by
  intro a0 a1 s t h
  unfold execConverterSelfCalibration at h
  extract_lets +onlyGivenNames x0 at h
  clear_value x0
  cases h
  refine keep_ite ?_ ?_
  · exact keep_refl _
  · extract_lets +onlyGivenNames x1
    have h2 : Keep s x1 := by
      dsimp only [x1]
      refine keep_step (keep_updMc (fun _ h => h)) ?_
      exact keep_refl _
    clear_value x1
    refine keep_step (keep_serve _ _) ?_
    exact h2

theorem keep_execAlmanacCollection : ∀ a0 a1 s t, execAlmanacCollection a0 a1 s = .next t → Keep s t := by
  intro a0 a1 s t h
  unfold execAlmanacCollection at h
  cases h
  refine keep_ite ?_ ?_
  · refine keep_step (keep_serve _ _) ?_
    refine keep_step (keep_updMc (fun _ h => h)) ?_
    exact keep_refl _
  · exact keep_refl _

theorem keep_execEventCompaction : ∀ s t, execEventCompaction s = .next t → Keep s t := by
  intro s t h
  unfold execEventCompaction at h
  cases h
  refine keep_ite ?_ ?_
  · refine keep_step (keep_serve _ _) ?_
    exact keep_refl _
  · exact keep_refl _

theorem keep_execTelemetry : ∀ s t, execTelemetry s = .next t → Keep s t := by
  intro s t h
  unfold execTelemetry at h
  cases h
  refine keep_ite ?_ ?_
  · refine keep_step (keep_serve _ _) ?_
    refine keep_step (keep_updMc (fun _ h => h)) ?_
    exact keep_refl _
  · exact keep_refl _

theorem keep_execChurnStarvation : ∀ a0 s t, execChurnStarvation a0 s = .next t → Keep s t := by
  intro a0 s t h
  unfold execChurnStarvation at h
  extract_lets +onlyGivenNames x0 at h
  clear_value x0
  cases h
  refine keep_ite ?_ ?_
  · refine keep_out (frame_happen _ _ _ _) rfl ?_
    refine keep_step (keep_updMc (fun _ h => h)) ?_
    exact keep_refl _
  · exact keep_refl _

theorem keep_execNandLifeCheck : ∀ a0 s t, execNandLifeCheck a0 s = .next t → Keep s t := by
  intro a0 s t h
  unfold execNandLifeCheck at h
  extract_lets +onlyGivenNames x0 at h
  clear_value x0
  extract_lets +onlyGivenNames x1 at h
  have h2 : Keep s x1 := by
    dsimp only [x1]
    refine keep_step (keep_updMc (fun _ h => h)) ?_
    exact keep_refl _
  clear_value x1
  extract_lets +onlyGivenNames x3 at h
  have h4 : Keep s x3 := by
    dsimp only [x3]
    refine keep_out (frame_detect _ _ _ _ _) rfl ?_
    exact h2
  clear_value x3
  cases h
  refine keep_ite ?_ ?_
  · refine keep_ite ?_ ?_
    · refine keep_out (frame_raise _ _ _ _ _) rfl ?_
      exact h4
    · exact h4
  · exact keep_refl _

theorem keep_pageDurable : ∀ s, Keep s (pageDurable s) := by
  intro s
  unfold pageDurable
  split
  · exact keep_refl _
  · extract_lets +onlyGivenNames x0
    clear_value x0
    extract_lets +onlyGivenNames x1
    clear_value x1
    extract_lets +onlyGivenNames x2
    clear_value x2
    extract_lets +onlyGivenNames x3
    have h4 : Keep s x3 := by
      dsimp only [x3]
      refine keep_out (onlyIn_put_cf _ _) rfl ?_
      exact keep_refl _
    clear_value x3
    refine keep_step (keep_answerFlush _) ?_
    refine keep_step (keep_updMc (fun _ h => h)) ?_
    exact h4

theorem keep_nandDurable : ∀ a0 s, Keep s (nandDurable a0 s) := by
  intro a0 s
  unfold nandDurable
  split
  · refine keep_out (frame_saveDone _) rfl ?_
    exact keep_refl _
  · refine keep_out (frame_updPf _ _) rfl ?_
    exact keep_refl _
  · refine keep_step (keep_pageDurable _) ?_
    exact keep_refl _
  · exact keep_refl _

theorem keep_nandLost : ∀ a0 s, Keep s (nandLost a0 s) := by
  intro a0 s
  unfold nandLost
  split
  · split
    · exact keep_refl _
    · extract_lets +onlyGivenNames x0
      have h1 : Keep s x0.2 := by
        dsimp only [x0]
        refine keep_out (frame_freshNat _) rfl ?_
        exact keep_refl _
      clear_value x0
      extract_lets +onlyGivenNames x2
      have h3 : Keep s x2.2 := by
        dsimp only [x2]
        refine keep_out (frame_freshBool _) rfl ?_
        refine keep_out (frame_updPf _ _) rfl ?_
        exact h1
      clear_value x2
      refine keep_out (frame_resolve _ _ _ _) rfl ?_
      refine keep_ite ?_ ?_
      · refine keep_out (frame_storeCopy _ _ _) rfl ?_
        exact h3
      · exact h3
  · refine keep_out (frame_updPf _ _) rfl ?_
    exact keep_refl _
  · refine keep_step (keep_updMc (fun _ h => h)) ?_
    exact keep_refl _
  · exact keep_refl _

theorem keep_execNandWriteDone : ∀ a0 a1 s t, execNandWriteDone a0 a1 s = .next t → Keep s t := by
  intro a0 a1 s t h
  unfold execNandWriteDone at h
  extract_lets +onlyGivenNames x0 at h
  clear_value x0
  extract_lets +onlyGivenNames x1 at h
  dsimp only [x1] at h
  clear x1
  cases h
  refine keep_ite ?_ ?_
  · exact keep_refl _
  · refine keep_ite ?_ ?_
    · refine keep_step (keep_nandDurable _ _) ?_
      refine keep_step (keep_updMc (fun _ h => h)) ?_
      exact keep_refl _
    · refine keep_ite ?_ ?_
      · refine keep_out (frame_happen _ _ _ _) rfl ?_
        refine keep_step (keep_nandLost _ _) ?_
        refine keep_step (keep_updMc (fun _ h => h)) ?_
        exact keep_refl _
      · refine keep_step (keep_updMc (fun _ h => h)) ?_
        exact keep_refl _

theorem keep_execMcBankState : ∀ a0 s t, execMcBankState a0 s = .next t → Keep s t := by
  intro a0 s t h
  unfold execMcBankState at h
  cases h
  exact keep_hostCommand keep_bodyMcBankState

theorem keep_execMapFlush : ∀ a0 s t, execMapFlush a0 s = .next t → Keep s t := by
  intro a0 s t h
  unfold execMapFlush at h
  cases h
  exact keep_hostCommand keep_bodyMapFlush

theorem keep_mramVerify : ∀ a0 s, Keep s (mramVerify a0 s) := by
  intro a0 s
  unfold mramVerify
  extract_lets +onlyGivenNames x0
  extract_lets +onlyGivenNames x1
  have h2 : Keep s x1 := by
    dsimp only [x1]
    refine keep_ite ?_ ?_
    · exact keep_refl _
    · exact fun h => h
  clear_value x1
  refine keep_ite ?_ ?_
  · refine keep_out (frame_happen _ _ _ _) rfl ?_
    exact h2
  · exact h2

theorem keep_execSnapshotQueueWrite : ∀ a0 s t, execSnapshotQueueWrite a0 s = .next t → Keep s t := by
  intro a0 s t h
  unfold execSnapshotQueueWrite at h
  cases h
  refine keep_ite ?_ ?_
  · split
    · refine keep_step (keep_mramVerify _ _) ?_
      refine keep_out (frame_writeOcc _ _) rfl ?_
      refine keep_out (frame_updEv _ _) rfl ?_
      exact keep_refl _
    · exact keep_refl _
  · exact keep_refl _

theorem keep_execFixedRecordWrite : ∀ a0 s t, execFixedRecordWrite a0 s = .next t → Keep s t := by
  intro a0 s t h
  unfold execFixedRecordWrite at h
  cases h
  refine keep_ite ?_ ?_
  · split
    · refine keep_step (keep_mramVerify _ _) ?_
      refine keep_out (frame_writeOcc _ _) rfl ?_
      refine keep_out (frame_updEv _ _) rfl ?_
      exact keep_refl _
    · exact keep_refl _
  · exact keep_refl _

theorem keep_execUpdateBegin : ∀ a0 s t, execUpdateBegin a0 s = .next t → Keep s t := by
  intro a0 s t h
  unfold execUpdateBegin at h
  cases h
  exact keep_hostCommand keep_bodyUpdateBegin

theorem keep_execUpdateData : ∀ a0 s t, execUpdateData a0 s = .next t → Keep s t := by
  intro a0 s t h
  unfold execUpdateData at h
  cases h
  exact keep_hostCommand keep_bodyUpdateData

theorem keep_execUpdateAbortStaging : ∀ a0 s t, execUpdateAbortStaging a0 s = .next t → Keep s t := by
  intro a0 s t h
  unfold execUpdateAbortStaging at h
  cases h
  exact keep_hostCommand keep_bodyUpdateAbortStaging

theorem keep_execUpdateAbortFallback : ∀ a0 s t, execUpdateAbortFallback a0 s = .next t → Keep s t := by
  intro a0 s t h
  unfold execUpdateAbortFallback at h
  cases h
  exact keep_hostCommand keep_bodyUpdateAbortFallback

theorem keep_execManifest : ∀ a0 a1 s t, execManifest a0 a1 s = .next t → Keep s t := by
  intro a0 a1 s t h
  unfold execManifest at h
  cases h
  unfold chainRow
  try beta_reduce
  refine keep_ite ?_ ?_
  · refine keep_step (keep_manifestMsg _ _ _) ?_
    exact keep_refl _
  · exact keep_refl _

theorem keep_execChunk : ∀ a0 a1 s t, execChunk a0 a1 s = .next t → Keep s t := by
  intro a0 a1 s t h
  unfold execChunk at h
  cases h
  unfold chainRow
  try beta_reduce
  refine keep_ite ?_ ?_
  · refine keep_step (keep_chunkMsg _ _ _) ?_
    exact keep_refl _
  · exact keep_refl _

theorem keep_execAck : ∀ a0 a1 s t, execAck a0 a1 s = .next t → Keep s t := by
  intro a0 a1 s t h
  unfold execAck at h
  cases h
  unfold chainRow
  try beta_reduce
  refine keep_ite ?_ ?_
  · refine keep_step (keep_ackMsg _ _ _) ?_
    exact keep_refl _
  · exact keep_refl _

theorem keep_execStaged : ∀ a0 a1 s t, execStaged a0 a1 s = .next t → Keep s t := by
  intro a0 a1 s t h
  unfold execStaged at h
  cases h
  unfold chainRow
  try beta_reduce
  refine keep_ite ?_ ?_
  · refine keep_step (keep_stagedMsg _ _ _) ?_
    exact keep_refl _
  · exact keep_refl _

theorem keep_execCommitAbort : ∀ a0 a1 s t, execCommitAbort a0 a1 s = .next t → Keep s t := by
  intro a0 a1 s t h
  unfold execCommitAbort at h
  cases h
  unfold chainRow
  try beta_reduce
  refine keep_ite ?_ ?_
  · refine keep_step (keep_decisionMsg _ _ _) ?_
    exact keep_refl _
  · exact keep_refl _

theorem keep_execDecisionAck : ∀ a0 a1 s t, execDecisionAck a0 a1 s = .next t → Keep s t := by
  intro a0 a1 s t h
  unfold execDecisionAck at h
  cases h
  unfold chainRow
  try beta_reduce
  refine keep_ite ?_ ?_
  · refine keep_step (keep_ackDecisionMsg _ _ _) ?_
    exact keep_refl _
  · exact keep_refl _

theorem keep_execConfirmFallback : ∀ a0 a1 s t, execConfirmFallback a0 a1 s = .next t → Keep s t := by
  intro a0 a1 s t h
  unfold execConfirmFallback at h
  cases h
  unfold chainRow
  try beta_reduce
  refine keep_ite ?_ ?_
  · refine keep_step (keep_confirmMsg _ _ _) ?_
    exact keep_refl _
  · exact keep_refl _

theorem keep_execCommitFrameSwap : ∀ s t, execCommitFrameSwap s = .next t → Keep s t := by
  intro s t h
  unfold execCommitFrameSwap at h
  cases h
  extract_lets +onlyGivenNames x0
  clear_value x0
  refine keep_ite ?_ ?_
  · refine keep_step (keep_swapNow _) ?_
    exact keep_refl _
  · exact keep_refl _

theorem keep_execResetAssert : ∀ a0 a1 a2 s t, execResetAssert a0 a1 a2 s = .next t → Keep s t := by
  intro a0 a1 a2 s t h
  unfold execResetAssert at h
  cases h
  refine keep_ite ?_ ?_
  · extract_lets +onlyGivenNames x0
    have h1 : Keep s x0 := by
      dsimp only [x0]
      refine keep_step (keep_assertSource _ _ _ _) ?_
      exact keep_refl _
    clear_value x0
    refine keep_ite ?_ ?_
    · refine keep_out (frame_updPw _ _) rfl ?_
      exact h1
    · exact h1
  · exact keep_refl _

theorem keep_execSupervisorWatchdogExpiry : ∀ a0 a1 s t, execSupervisorWatchdogExpiry a0 a1 s = .next t → Keep s t := by
  intro a0 a1 s t h
  unfold execSupervisorWatchdogExpiry at h
  cases h
  refine keep_ite ?_ ?_
  · refine keep_step (keep_assertSource _ _ _ _) ?_
    exact keep_refl _
  · exact keep_refl _

theorem keep_execLockUp : ∀ a0 a1 s t, execLockUp a0 a1 s = .next t → Keep s t := by
  intro a0 a1 s t h
  unfold execLockUp at h
  cases h
  refine keep_ite ?_ ?_
  · refine keep_step (keep_assertSource _ _ _ _) ?_
    exact keep_refl _
  · exact keep_refl _

theorem keep_execClockFailure : ∀ a0 s t, execClockFailure a0 s = .next t → Keep s t := by
  intro a0 s t h
  unfold execClockFailure at h
  cases h
  refine keep_ite ?_ ?_
  · refine keep_step (keep_assertSource _ _ _ _) ?_
    exact keep_refl _
  · exact keep_refl _

theorem keep_execVcoLock : ∀ a0 a1 s t, execVcoLock a0 a1 s = .next t → Keep s t := by
  intro a0 a1 s t h
  unfold execVcoLock at h
  cases h
  refine keep_ite ?_ ?_
  · refine keep_ite ?_ ?_
    · extract_lets +onlyGivenNames x0
      clear_value x0
      extract_lets +onlyGivenNames x1
      clear_value x1
      extract_lets +onlyGivenNames x2
      have h3 : Keep s x2 := by
        dsimp only [x2]
        refine keep_step (keep_domainsRelease _) ?_
        refine keep_out (onlyIn_put_clk_pw _ _ _) rfl ?_
        exact keep_refl _
      clear_value x2
      refine keep_out (frame_updRs _ _) rfl ?_
      exact h3
    · refine keep_step (keep_assertSource _ _ _ _) ?_
      exact keep_refl _
  · exact keep_refl _

theorem keep_romStart : ∀ s, Keep s (romStart s) := by
  intro s
  unfold romStart
  refine keep_ite ?_ ?_
  · refine keep_out (frame_updRs _ _) rfl ?_
    exact keep_refl _
  · refine keep_ite ?_ ?_
    · refine keep_step (keep_fallBack _ _) ?_
      exact keep_refl _
    · refine keep_ite ?_ ?_
      · refine keep_out (frame_enterRecovery _ _) rfl ?_
        refine keep_out (frame_recordCauses _) rfl ?_
        exact keep_refl _
      · refine keep_ite ?_ ?_
        · refine keep_out (frame_enterRecovery _ _) rfl ?_
          refine keep_out (frame_recordCauses _) rfl ?_
          exact keep_refl _
        · refine keep_out (frame_updRs _ _) rfl ?_
          exact keep_refl _

theorem keep_execD4Release : ∀ a0 s t, execD4Release a0 s = .next t → Keep s t := by
  intro a0 s t h
  unfold execD4Release at h
  cases h
  refine keep_ite ?_ ?_
  · extract_lets +onlyGivenNames x0
    have h1 : Keep s x0 := by
      dsimp only [x0]
      refine keep_fold _ _ (fun st2 a3 => ?_) ?_
      · refine keep_out (frame_setDom _ _ _) rfl ?_
        exact keep_refl _
      · exact keep_refl _
    clear_value x0
    extract_lets +onlyGivenNames x4
    have h5 : Keep s x4 := by
      dsimp only [x4]
      refine keep_out (frame_endEpisode _) rfl ?_
      refine keep_ite ?_ ?_
      · refine keep_out (frame_updPf _ _) rfl ?_
        exact h1
      · exact h1
    clear_value x4
    refine keep_step (keep_romStart _) ?_
    refine keep_out (frame_updRs _ _) rfl ?_
    refine keep_out (onlyIn_put_mb _ _) rfl ?_
    exact h5
  · exact keep_refl _

theorem keep_execSupervisorImageLoaded : ∀ a0 s t, execSupervisorImageLoaded a0 s = .next t → Keep s t := by
  intro a0 s t h
  unfold execSupervisorImageLoaded at h
  cases h
  refine keep_ite ?_ ?_
  · refine keep_ite ?_ ?_
    · extract_lets +onlyGivenNames x0
      clear_value x0
      extract_lets +onlyGivenNames x1
      clear_value x1
      extract_lets +onlyGivenNames x2
      clear_value x2
      extract_lets +onlyGivenNames x3
      have h4 : Keep s x3 := by
        dsimp only [x3]
        refine keep_out (frame_updRs _ _) rfl ?_
        refine keep_out (onlyIn_put_mb_up _ _ _) rfl ?_
        exact keep_refl _
      clear_value x3
      extract_lets +onlyGivenNames x5
      have h6 : Keep s x5 := by
        dsimp only [x5]
        refine keep_out (frame_updPw _ _) rfl ?_
        exact h4
      clear_value x5
      refine keep_fold _ _ (fun st7 a8 => ?_) ?_
      · refine keep_step (keep_bankPower _ _ _) ?_
        exact keep_refl _
      · refine keep_out (frame_panelRecord _) rfl ?_
        refine keep_out (frame_recordCauses _) rfl ?_
        exact h6
    · refine keep_ite ?_ ?_
      · exact keep_refl _
      · refine keep_out (frame_happen _ _ _ _) rfl ?_
        refine keep_out (frame_updRs _ _) rfl ?_
        exact keep_refl _
  · exact keep_refl _

theorem keep_execBootProfileActivation : ∀ s t, execBootProfileActivation s = .next t → Keep s t := by
  intro s t h
  unfold execBootProfileActivation at h
  cases h
  refine keep_ite ?_ ?_
  · split
    · refine keep_step (keep_finishTransition _ _) ?_
      exact keep_refl _
    · extract_lets +onlyGivenNames x0
      have h1 : Keep s x0.1 := by
        dsimp only [x0]
        refine keep_step (keep_bootRecord _) ?_
        exact keep_refl _
      clear_value x0
      refine keep_ite ?_ ?_
      · exact h1
      · extract_lets +onlyGivenNames x2
        have h3 : Keep s x2 := by
          dsimp only [x2]
          refine keep_out (frame_updPf _ _) rfl ?_
          refine keep_out (frame_startProfile _) rfl ?_
          exact h1
        clear_value x2
        refine keep_out (frame_panelRecover _) rfl ?_
        refine keep_out (frame_gnssStart _) rfl ?_
        refine keep_out (frame_quartzStart _) rfl ?_
        refine keep_out (frame_transportsInForce _) rfl ?_
        refine keep_out (frame_updRs _ _) rfl ?_
        exact h3
  · exact keep_refl _

theorem keep_execBootTimeout : ∀ a0 s t, execBootTimeout a0 s = .next t → Keep s t := by
  intro a0 s t h
  unfold execBootTimeout at h
  cases h
  extract_lets +onlyGivenNames x0
  clear_value x0
  refine keep_ite ?_ ?_
  · extract_lets +onlyGivenNames x1
    clear_value x1
    extract_lets +onlyGivenNames x2
    have h3 : Keep s x2 := by
      dsimp only [x2]
      refine keep_ite ?_ ?_
      · refine keep_out (frame_happen _ _ _ _) rfl ?_
        refine keep_out (frame_updRs _ _) rfl ?_
        exact keep_refl _
      · exact keep_refl _
    clear_value x2
    refine keep_step (keep_assertSource _ _ _ _) ?_
    exact h3
  · exact keep_refl _

theorem keep_execResetRequestEffect : ∀ a0 s t, execResetRequestEffect a0 s = .next t → Keep s t := by
  intro a0 s t h
  unfold execResetRequestEffect at h
  cases h
  split
  · refine keep_ite ?_ ?_
    · extract_lets +onlyGivenNames x0
      have h1 : Keep s x0 := by
        dsimp only [x0]
        refine keep_out (frame_updRs _ _) rfl ?_
        exact keep_refl _
      clear_value x0
      refine keep_ite ?_ ?_
      · refine keep_out (frame_softUnit _ _ _) rfl ?_
        exact h1
      · refine keep_step (keep_assertSource _ _ _ _) ?_
        refine keep_out (frame_closeAll _ _) rfl ?_
        exact h1
    · exact keep_refl _
  · exact keep_refl _

theorem keep_execLifecycleSetTransition : ∀ a0 s t, execLifecycleSetTransition a0 s = .next t → Keep s t := by
  intro a0 s t h
  unfold execLifecycleSetTransition at h
  cases h
  exact keep_hostCommand keep_bodyLifecycleSetTransition

theorem keep_execVsupNormalReturn : ∀ a0 a1 s t, execVsupNormalReturn a0 a1 s = .next t → Keep s t := by
  intro a0 a1 s t h
  unfold execVsupNormalReturn at h
  cases h
  refine keep_ite ?_ ?_
  · extract_lets +onlyGivenNames x0
    clear_value x0
    refine keep_step (keep_churnResume _) ?_
    refine keep_out (frame_panelResume _) rfl ?_
    refine keep_out (frame_updPw _ _) rfl ?_
    refine keep_out (frame_updAn _ _) rfl ?_
    exact keep_refl _
  · exact keep_refl _

theorem keep_micaOff (s : State) : Keep s (micaOff s) := fun _ => sound_empty rfl rfl

theorem keep_execStandbyDomainsOff : ∀ a0 s t, execStandbyDomainsOff a0 s = .next t → Keep s t := by
  intro a0 s t h
  unfold execStandbyDomainsOff at h
  cases h
  refine keep_ite ?_ ?_
  · extract_lets +onlyGivenNames x0
    have h1 : Keep s x0 := by
      dsimp only [x0]
      refine keep_step (keep_micaOff _) ?_
      refine keep_step (keep_assertSource _ _ _ _) ?_
      exact keep_refl _
    clear_value x0
    refine keep_out (frame_updPw _ _) rfl ?_
    exact h1
  · exact keep_refl _

end Sys2Proof.Machine
end

