-- ==== Sys2Proof/Laws/Lists.lean ====
section
/-!
SUPPORT. Laws/Lists.lean: lists changed at the places of a mask, and association lists.
-/

namespace Sys2Proof.Machine

theorem getElem?_updAt {α : Type} (l : List α) (i k : Nat) (f : α → α) : (updAt l i f)[k]? = l[k]?.map (fun x => if i = k then f x else x) := by
  simp only [updAt, List.getElem?_modify]
  split <;> cases l[k]? <;> simp

/-- Every place of a list without repeats is changed once. -/
theorem getElem?_fold_updAt {α : Type} (is : List Nat) (hn : is.Nodup) (l : List α) (k : Nat) (f : α → α) :
    (is.foldl (fun l i => updAt l i f) l)[k]? = l[k]?.map (fun x => if k ∈ is then f x else x) := by
  induction is generalizing l with
  | nil => simp
  | cons i is ih =>
    rw [List.nodup_cons] at hn
    rw [List.foldl_cons, ih hn.2, getElem?_updAt]
    cases l[k]? with
    | none => rfl
    | some x =>
      simp only [Option.map_some, List.mem_cons]
      by_cases hik : i = k
      · subst hik
        simp [hn.1]
      · simp [hik, Ne.symm hik]

theorem nodup_maskChans (n mask : Nat) : (maskChans n mask).Nodup := List.nodup_range.filter _

theorem mem_maskChans {n mask k : Nat} : k ∈ maskChans n mask ↔ k < n ∧ mask.testBit k = true := by simp [maskChans]

/-- Changing Quartz channels one after the other changes the list of channels and nothing else. -/
theorem fold_updQz (is : List Nat) (f : QzChan → QzChan) (s : State) :
    is.foldl (fun st ch => updQz ch f st) s = { s with qz := { s.qz with chans := is.foldl (fun l i => updAt l i f) s.qz.chans } } := by
  induction is generalizing s with
  | nil => rfl
  | cons i is ih => rw [List.foldl_cons, ih]; rfl

theorem getKey_cons {α : Type} (j : Nat) (p : Nat × α) (m : List (Nat × α)) :
    getKey j (p :: m) = if p.1 = j then some p.2 else getKey j m := by
  by_cases h : p.1 = j <;> simp [getKey, h]

theorem getKey_setKey {α : Type} (k j : Nat) (v : α) (m : List (Nat × α)) : getKey j (setKey k v m) = if j = k then some v else getKey j m := by
  induction m with
  | nil =>
    by_cases h : j = k
    · simp [setKey, getKey, h]
    · simp [setKey, getKey, h, Ne.symm h]
  | cons p m ih =>
    unfold setKey
    split
    · rw [getKey_cons]
      by_cases h : j = k
      · simp [h]
      · simp [h, Ne.symm h]
    · split
      · next h =>
        rw [getKey_cons, getKey_cons]
        by_cases hj : j = k
        · simp [hj]
        · rw [if_neg (Ne.symm hj), if_neg hj, if_neg (by omega)]
      · next h =>
        rw [getKey_cons, ih, getKey_cons]
        by_cases hj : j = k
        · simp [hj, Ne.symm h]
        · simp [hj]

theorem fold_maskOf_lt (p : Nat → Bool) (n : Nat) :
    (List.range n).foldl (fun m i => if p i then m + 2 ^ i else m) 0 < 2 ^ n ∧
      ∀ k, ((List.range n).foldl (fun m i => if p i then m + 2 ^ i else m) 0).testBit k = (decide (k < n) && p k) := by
  induction n with
  | zero => simp
  | succ n ih =>
    rw [List.range_succ, List.foldl_append]
    obtain ⟨h1, h2⟩ := ih
    generalize (List.range n).foldl (fun m i => if p i then m + 2 ^ i else m) 0 = m at h1 h2
    simp only [List.foldl_cons, List.foldl_nil]
    by_cases hp : p n = true
    · rw [if_pos hp]
      refine ⟨by rw [Nat.pow_succ]; omega, fun k => ?_⟩
      rw [Nat.add_comm]
      rcases Nat.lt_trichotomy k n with h | rfl | h
      · rw [Nat.testBit_two_pow_add_gt h, h2]
        simp [h, Nat.lt_succ_of_lt h]
      · rw [Nat.testBit_two_pow_add_eq, h2]
        simp [hp]
      · rw [Nat.testBit_lt_two_pow]
        · simp only [Bool.false_eq, Bool.and_eq_false_iff, decide_eq_false_iff_not]
          exact .inl (by omega)
        · calc 2 ^ n + m < 2 ^ n + 2 ^ n := by omega
            _ = 2 ^ (n + 1) := by rw [Nat.pow_succ]; omega
            _ ≤ 2 ^ k := Nat.pow_le_pow_right (by omega) h
    · rw [if_neg hp]
      refine ⟨by rw [Nat.pow_succ]; omega, fun k => ?_⟩
      rw [h2]
      rcases Nat.lt_trichotomy k n with h | rfl | h
      · simp [h, Nat.lt_succ_of_lt h]
      · simp [hp]
      · simp [show ¬k < n by omega, show ¬k < n + 1 by omega]

theorem testBit_maskOf (n : Nat) (p : Nat → Bool) (k : Nat) : (maskOf n p).testBit k = (decide (k < n) && p k) := (fold_maskOf_lt p n).2 k

end Sys2Proof.Machine
end

