-- ==== Sys2Proof/Laws/State.lean ====
section
/-!
SUPPORT. Laws/State.lean: what each update of one part of the state leaves in every part.
-/

namespace Sys2Proof.Machine

@[simp] theorem updCal_clk (f : LiveCal → LiveCal) (s : State) : (updCal f s).clk = s.clk := rfl
@[simp] theorem updCal_mb (f : LiveCal → LiveCal) (s : State) : (updCal f s).mb = s.mb := rfl
@[simp] theorem updCal_pf (f : LiveCal → LiveCal) (s : State) : (updCal f s).pf = s.pf := rfl
@[simp] theorem updCal_ev (f : LiveCal → LiveCal) (s : State) : (updCal f s).ev = s.ev := rfl
@[simp] theorem updCal_gr (f : LiveCal → LiveCal) (s : State) : (updCal f s).gr = s.gr := rfl
@[simp] theorem updCal_qz (f : LiveCal → LiveCal) (s : State) : (updCal f s).qz = s.qz := rfl
@[simp] theorem updCal_cf (f : LiveCal → LiveCal) (s : State) : (updCal f s).cf = { s.cf with cal := f s.cf.cal } := rfl
@[simp] theorem updCal_vd (f : LiveCal → LiveCal) (s : State) : (updCal f s).vd = s.vd := rfl
@[simp] theorem updCal_ls (f : LiveCal → LiveCal) (s : State) : (updCal f s).ls = s.ls := rfl
@[simp] theorem updCal_gn (f : LiveCal → LiveCal) (s : State) : (updCal f s).gn = s.gn := rfl
@[simp] theorem updCal_fb (f : LiveCal → LiveCal) (s : State) : (updCal f s).fb = s.fb := rfl
@[simp] theorem updCal_cn (f : LiveCal → LiveCal) (s : State) : (updCal f s).cn = s.cn := rfl
@[simp] theorem updCal_mc (f : LiveCal → LiveCal) (s : State) : (updCal f s).mc = s.mc := rfl
@[simp] theorem updCal_up (f : LiveCal → LiveCal) (s : State) : (updCal f s).up = s.up := rfl
@[simp] theorem updCal_an (f : LiveCal → LiveCal) (s : State) : (updCal f s).an = s.an := rfl
@[simp] theorem updCal_rs (f : LiveCal → LiveCal) (s : State) : (updCal f s).rs = s.rs := rfl
@[simp] theorem updCal_pw (f : LiveCal → LiveCal) (s : State) : (updCal f s).pw = s.pw := rfl
@[simp] theorem updCal_sp (f : LiveCal → LiveCal) (s : State) : (updCal f s).sp = s.sp := rfl
@[simp] theorem updCal_out (f : LiveCal → LiveCal) (s : State) : (updCal f s).out = s.out := rfl
@[simp] theorem updCal_free (f : LiveCal → LiveCal) (s : State) : (updCal f s).free = s.free := rfl
@[simp] theorem updCal_pending (f : LiveCal → LiveCal) (s : State) : (updCal f s).pending = s.pending := rfl

@[simp] theorem updEv_clk (f : Events → Events) (s : State) : (updEv f s).clk = s.clk := rfl
@[simp] theorem updEv_mb (f : Events → Events) (s : State) : (updEv f s).mb = s.mb := rfl
@[simp] theorem updEv_pf (f : Events → Events) (s : State) : (updEv f s).pf = s.pf := rfl
@[simp] theorem updEv_ev (f : Events → Events) (s : State) : (updEv f s).ev = f s.ev := rfl
@[simp] theorem updEv_gr (f : Events → Events) (s : State) : (updEv f s).gr = s.gr := rfl
@[simp] theorem updEv_qz (f : Events → Events) (s : State) : (updEv f s).qz = s.qz := rfl
@[simp] theorem updEv_cf (f : Events → Events) (s : State) : (updEv f s).cf = s.cf := rfl
@[simp] theorem updEv_vd (f : Events → Events) (s : State) : (updEv f s).vd = s.vd := rfl
@[simp] theorem updEv_ls (f : Events → Events) (s : State) : (updEv f s).ls = s.ls := rfl
@[simp] theorem updEv_gn (f : Events → Events) (s : State) : (updEv f s).gn = s.gn := rfl
@[simp] theorem updEv_fb (f : Events → Events) (s : State) : (updEv f s).fb = s.fb := rfl
@[simp] theorem updEv_cn (f : Events → Events) (s : State) : (updEv f s).cn = s.cn := rfl
@[simp] theorem updEv_mc (f : Events → Events) (s : State) : (updEv f s).mc = s.mc := rfl
@[simp] theorem updEv_up (f : Events → Events) (s : State) : (updEv f s).up = s.up := rfl
@[simp] theorem updEv_an (f : Events → Events) (s : State) : (updEv f s).an = s.an := rfl
@[simp] theorem updEv_rs (f : Events → Events) (s : State) : (updEv f s).rs = s.rs := rfl
@[simp] theorem updEv_pw (f : Events → Events) (s : State) : (updEv f s).pw = s.pw := rfl
@[simp] theorem updEv_sp (f : Events → Events) (s : State) : (updEv f s).sp = s.sp := rfl
@[simp] theorem updEv_out (f : Events → Events) (s : State) : (updEv f s).out = s.out := rfl
@[simp] theorem updEv_free (f : Events → Events) (s : State) : (updEv f s).free = s.free := rfl
@[simp] theorem updEv_pending (f : Events → Events) (s : State) : (updEv f s).pending = s.pending := rfl

@[simp] theorem updFb_clk (f : Fabric → Fabric) (s : State) : (updFb f s).clk = s.clk := rfl
@[simp] theorem updFb_mb (f : Fabric → Fabric) (s : State) : (updFb f s).mb = s.mb := rfl
@[simp] theorem updFb_pf (f : Fabric → Fabric) (s : State) : (updFb f s).pf = s.pf := rfl
@[simp] theorem updFb_ev (f : Fabric → Fabric) (s : State) : (updFb f s).ev = s.ev := rfl
@[simp] theorem updFb_gr (f : Fabric → Fabric) (s : State) : (updFb f s).gr = s.gr := rfl
@[simp] theorem updFb_qz (f : Fabric → Fabric) (s : State) : (updFb f s).qz = s.qz := rfl
@[simp] theorem updFb_cf (f : Fabric → Fabric) (s : State) : (updFb f s).cf = s.cf := rfl
@[simp] theorem updFb_vd (f : Fabric → Fabric) (s : State) : (updFb f s).vd = s.vd := rfl
@[simp] theorem updFb_ls (f : Fabric → Fabric) (s : State) : (updFb f s).ls = s.ls := rfl
@[simp] theorem updFb_gn (f : Fabric → Fabric) (s : State) : (updFb f s).gn = s.gn := rfl
@[simp] theorem updFb_fb (f : Fabric → Fabric) (s : State) : (updFb f s).fb = f s.fb := rfl
@[simp] theorem updFb_cn (f : Fabric → Fabric) (s : State) : (updFb f s).cn = s.cn := rfl
@[simp] theorem updFb_mc (f : Fabric → Fabric) (s : State) : (updFb f s).mc = s.mc := rfl
@[simp] theorem updFb_up (f : Fabric → Fabric) (s : State) : (updFb f s).up = s.up := rfl
@[simp] theorem updFb_an (f : Fabric → Fabric) (s : State) : (updFb f s).an = s.an := rfl
@[simp] theorem updFb_rs (f : Fabric → Fabric) (s : State) : (updFb f s).rs = s.rs := rfl
@[simp] theorem updFb_pw (f : Fabric → Fabric) (s : State) : (updFb f s).pw = s.pw := rfl
@[simp] theorem updFb_sp (f : Fabric → Fabric) (s : State) : (updFb f s).sp = s.sp := rfl
@[simp] theorem updFb_out (f : Fabric → Fabric) (s : State) : (updFb f s).out = s.out := rfl
@[simp] theorem updFb_free (f : Fabric → Fabric) (s : State) : (updFb f s).free = s.free := rfl
@[simp] theorem updFb_pending (f : Fabric → Fabric) (s : State) : (updFb f s).pending = s.pending := rfl

@[simp] theorem updGn_clk (f : Gnss → Gnss) (s : State) : (updGn f s).clk = s.clk := rfl
@[simp] theorem updGn_mb (f : Gnss → Gnss) (s : State) : (updGn f s).mb = s.mb := rfl
@[simp] theorem updGn_pf (f : Gnss → Gnss) (s : State) : (updGn f s).pf = s.pf := rfl
@[simp] theorem updGn_ev (f : Gnss → Gnss) (s : State) : (updGn f s).ev = s.ev := rfl
@[simp] theorem updGn_gr (f : Gnss → Gnss) (s : State) : (updGn f s).gr = s.gr := rfl
@[simp] theorem updGn_qz (f : Gnss → Gnss) (s : State) : (updGn f s).qz = s.qz := rfl
@[simp] theorem updGn_cf (f : Gnss → Gnss) (s : State) : (updGn f s).cf = s.cf := rfl
@[simp] theorem updGn_vd (f : Gnss → Gnss) (s : State) : (updGn f s).vd = s.vd := rfl
@[simp] theorem updGn_ls (f : Gnss → Gnss) (s : State) : (updGn f s).ls = s.ls := rfl
@[simp] theorem updGn_gn (f : Gnss → Gnss) (s : State) : (updGn f s).gn = f s.gn := rfl
@[simp] theorem updGn_fb (f : Gnss → Gnss) (s : State) : (updGn f s).fb = s.fb := rfl
@[simp] theorem updGn_cn (f : Gnss → Gnss) (s : State) : (updGn f s).cn = s.cn := rfl
@[simp] theorem updGn_mc (f : Gnss → Gnss) (s : State) : (updGn f s).mc = s.mc := rfl
@[simp] theorem updGn_up (f : Gnss → Gnss) (s : State) : (updGn f s).up = s.up := rfl
@[simp] theorem updGn_an (f : Gnss → Gnss) (s : State) : (updGn f s).an = s.an := rfl
@[simp] theorem updGn_rs (f : Gnss → Gnss) (s : State) : (updGn f s).rs = s.rs := rfl
@[simp] theorem updGn_pw (f : Gnss → Gnss) (s : State) : (updGn f s).pw = s.pw := rfl
@[simp] theorem updGn_sp (f : Gnss → Gnss) (s : State) : (updGn f s).sp = s.sp := rfl
@[simp] theorem updGn_out (f : Gnss → Gnss) (s : State) : (updGn f s).out = s.out := rfl
@[simp] theorem updGn_free (f : Gnss → Gnss) (s : State) : (updGn f s).free = s.free := rfl
@[simp] theorem updGn_pending (f : Gnss → Gnss) (s : State) : (updGn f s).pending = s.pending := rfl

@[simp] theorem updTime_clk (f : TimeState → TimeState) (s : State) : (updTime f s).clk = s.clk := rfl
@[simp] theorem updTime_mb (f : TimeState → TimeState) (s : State) : (updTime f s).mb = s.mb := rfl
@[simp] theorem updTime_pf (f : TimeState → TimeState) (s : State) : (updTime f s).pf = s.pf := rfl
@[simp] theorem updTime_ev (f : TimeState → TimeState) (s : State) : (updTime f s).ev = s.ev := rfl
@[simp] theorem updTime_gr (f : TimeState → TimeState) (s : State) : (updTime f s).gr = s.gr := rfl
@[simp] theorem updTime_qz (f : TimeState → TimeState) (s : State) : (updTime f s).qz = s.qz := rfl
@[simp] theorem updTime_cf (f : TimeState → TimeState) (s : State) : (updTime f s).cf = s.cf := rfl
@[simp] theorem updTime_vd (f : TimeState → TimeState) (s : State) : (updTime f s).vd = s.vd := rfl
@[simp] theorem updTime_ls (f : TimeState → TimeState) (s : State) : (updTime f s).ls = s.ls := rfl
@[simp] theorem updTime_gn (f : TimeState → TimeState) (s : State) : (updTime f s).gn = { s.gn with time := f s.gn.time } := rfl
@[simp] theorem updTime_fb (f : TimeState → TimeState) (s : State) : (updTime f s).fb = s.fb := rfl
@[simp] theorem updTime_cn (f : TimeState → TimeState) (s : State) : (updTime f s).cn = s.cn := rfl
@[simp] theorem updTime_mc (f : TimeState → TimeState) (s : State) : (updTime f s).mc = s.mc := rfl
@[simp] theorem updTime_up (f : TimeState → TimeState) (s : State) : (updTime f s).up = s.up := rfl
@[simp] theorem updTime_an (f : TimeState → TimeState) (s : State) : (updTime f s).an = s.an := rfl
@[simp] theorem updTime_rs (f : TimeState → TimeState) (s : State) : (updTime f s).rs = s.rs := rfl
@[simp] theorem updTime_pw (f : TimeState → TimeState) (s : State) : (updTime f s).pw = s.pw := rfl
@[simp] theorem updTime_sp (f : TimeState → TimeState) (s : State) : (updTime f s).sp = s.sp := rfl
@[simp] theorem updTime_out (f : TimeState → TimeState) (s : State) : (updTime f s).out = s.out := rfl
@[simp] theorem updTime_free (f : TimeState → TimeState) (s : State) : (updTime f s).free = s.free := rfl
@[simp] theorem updTime_pending (f : TimeState → TimeState) (s : State) : (updTime f s).pending = s.pending := rfl

@[simp] theorem updAin_clk (ch : Nat) (f : AinChan → AinChan) (s : State) : (updAin ch f s).clk = s.clk := rfl
@[simp] theorem updAin_mb (ch : Nat) (f : AinChan → AinChan) (s : State) : (updAin ch f s).mb = s.mb := rfl
@[simp] theorem updAin_pf (ch : Nat) (f : AinChan → AinChan) (s : State) : (updAin ch f s).pf = s.pf := rfl
@[simp] theorem updAin_ev (ch : Nat) (f : AinChan → AinChan) (s : State) : (updAin ch f s).ev = s.ev := rfl
@[simp] theorem updAin_gr (ch : Nat) (f : AinChan → AinChan) (s : State) : (updAin ch f s).gr = s.gr := rfl
@[simp] theorem updAin_qz (ch : Nat) (f : AinChan → AinChan) (s : State) : (updAin ch f s).qz = s.qz := rfl
@[simp] theorem updAin_cf (ch : Nat) (f : AinChan → AinChan) (s : State) : (updAin ch f s).cf = s.cf := rfl
@[simp] theorem updAin_vd (ch : Nat) (f : AinChan → AinChan) (s : State) : (updAin ch f s).vd = s.vd := rfl
@[simp] theorem updAin_ls (ch : Nat) (f : AinChan → AinChan) (s : State) : (updAin ch f s).ls = s.ls := rfl
@[simp] theorem updAin_gn (ch : Nat) (f : AinChan → AinChan) (s : State) : (updAin ch f s).gn = s.gn := rfl
@[simp] theorem updAin_fb (ch : Nat) (f : AinChan → AinChan) (s : State) : (updAin ch f s).fb = s.fb := rfl
@[simp] theorem updAin_cn (ch : Nat) (f : AinChan → AinChan) (s : State) : (updAin ch f s).cn = s.cn := rfl
@[simp] theorem updAin_mc (ch : Nat) (f : AinChan → AinChan) (s : State) : (updAin ch f s).mc = s.mc := rfl
@[simp] theorem updAin_up (ch : Nat) (f : AinChan → AinChan) (s : State) : (updAin ch f s).up = s.up := rfl
@[simp] theorem updAin_an (ch : Nat) (f : AinChan → AinChan) (s : State) : (updAin ch f s).an = { s.an with ains := updAt s.an.ains ch f } := rfl
@[simp] theorem updAin_rs (ch : Nat) (f : AinChan → AinChan) (s : State) : (updAin ch f s).rs = s.rs := rfl
@[simp] theorem updAin_pw (ch : Nat) (f : AinChan → AinChan) (s : State) : (updAin ch f s).pw = s.pw := rfl
@[simp] theorem updAin_sp (ch : Nat) (f : AinChan → AinChan) (s : State) : (updAin ch f s).sp = s.sp := rfl
@[simp] theorem updAin_out (ch : Nat) (f : AinChan → AinChan) (s : State) : (updAin ch f s).out = s.out := rfl
@[simp] theorem updAin_free (ch : Nat) (f : AinChan → AinChan) (s : State) : (updAin ch f s).free = s.free := rfl
@[simp] theorem updAin_pending (ch : Nat) (f : AinChan → AinChan) (s : State) : (updAin ch f s).pending = s.pending := rfl

@[simp] theorem updFq_clk (ch : Nat) (f : FqChan → FqChan) (s : State) : (updFq ch f s).clk = s.clk := rfl
@[simp] theorem updFq_mb (ch : Nat) (f : FqChan → FqChan) (s : State) : (updFq ch f s).mb = s.mb := rfl
@[simp] theorem updFq_pf (ch : Nat) (f : FqChan → FqChan) (s : State) : (updFq ch f s).pf = s.pf := rfl
@[simp] theorem updFq_ev (ch : Nat) (f : FqChan → FqChan) (s : State) : (updFq ch f s).ev = s.ev := rfl
@[simp] theorem updFq_gr (ch : Nat) (f : FqChan → FqChan) (s : State) : (updFq ch f s).gr = s.gr := rfl
@[simp] theorem updFq_qz (ch : Nat) (f : FqChan → FqChan) (s : State) : (updFq ch f s).qz = s.qz := rfl
@[simp] theorem updFq_cf (ch : Nat) (f : FqChan → FqChan) (s : State) : (updFq ch f s).cf = s.cf := rfl
@[simp] theorem updFq_vd (ch : Nat) (f : FqChan → FqChan) (s : State) : (updFq ch f s).vd = s.vd := rfl
@[simp] theorem updFq_ls (ch : Nat) (f : FqChan → FqChan) (s : State) : (updFq ch f s).ls = s.ls := rfl
@[simp] theorem updFq_gn (ch : Nat) (f : FqChan → FqChan) (s : State) : (updFq ch f s).gn = s.gn := rfl
@[simp] theorem updFq_fb (ch : Nat) (f : FqChan → FqChan) (s : State) : (updFq ch f s).fb = s.fb := rfl
@[simp] theorem updFq_cn (ch : Nat) (f : FqChan → FqChan) (s : State) : (updFq ch f s).cn = s.cn := rfl
@[simp] theorem updFq_mc (ch : Nat) (f : FqChan → FqChan) (s : State) : (updFq ch f s).mc = s.mc := rfl
@[simp] theorem updFq_up (ch : Nat) (f : FqChan → FqChan) (s : State) : (updFq ch f s).up = s.up := rfl
@[simp] theorem updFq_an (ch : Nat) (f : FqChan → FqChan) (s : State) : (updFq ch f s).an = { s.an with fqs := updAt s.an.fqs ch f } := rfl
@[simp] theorem updFq_rs (ch : Nat) (f : FqChan → FqChan) (s : State) : (updFq ch f s).rs = s.rs := rfl
@[simp] theorem updFq_pw (ch : Nat) (f : FqChan → FqChan) (s : State) : (updFq ch f s).pw = s.pw := rfl
@[simp] theorem updFq_sp (ch : Nat) (f : FqChan → FqChan) (s : State) : (updFq ch f s).sp = s.sp := rfl
@[simp] theorem updFq_out (ch : Nat) (f : FqChan → FqChan) (s : State) : (updFq ch f s).out = s.out := rfl
@[simp] theorem updFq_free (ch : Nat) (f : FqChan → FqChan) (s : State) : (updFq ch f s).free = s.free := rfl
@[simp] theorem updFq_pending (ch : Nat) (f : FqChan → FqChan) (s : State) : (updFq ch f s).pending = s.pending := rfl

@[simp] theorem updGr_clk (f : Granite → Granite) (s : State) : (updGr f s).clk = s.clk := rfl
@[simp] theorem updGr_mb (f : Granite → Granite) (s : State) : (updGr f s).mb = s.mb := rfl
@[simp] theorem updGr_pf (f : Granite → Granite) (s : State) : (updGr f s).pf = s.pf := rfl
@[simp] theorem updGr_ev (f : Granite → Granite) (s : State) : (updGr f s).ev = s.ev := rfl
@[simp] theorem updGr_gr (f : Granite → Granite) (s : State) : (updGr f s).gr = f s.gr := rfl
@[simp] theorem updGr_qz (f : Granite → Granite) (s : State) : (updGr f s).qz = s.qz := rfl
@[simp] theorem updGr_cf (f : Granite → Granite) (s : State) : (updGr f s).cf = s.cf := rfl
@[simp] theorem updGr_vd (f : Granite → Granite) (s : State) : (updGr f s).vd = s.vd := rfl
@[simp] theorem updGr_ls (f : Granite → Granite) (s : State) : (updGr f s).ls = s.ls := rfl
@[simp] theorem updGr_gn (f : Granite → Granite) (s : State) : (updGr f s).gn = s.gn := rfl
@[simp] theorem updGr_fb (f : Granite → Granite) (s : State) : (updGr f s).fb = s.fb := rfl
@[simp] theorem updGr_cn (f : Granite → Granite) (s : State) : (updGr f s).cn = s.cn := rfl
@[simp] theorem updGr_mc (f : Granite → Granite) (s : State) : (updGr f s).mc = s.mc := rfl
@[simp] theorem updGr_up (f : Granite → Granite) (s : State) : (updGr f s).up = s.up := rfl
@[simp] theorem updGr_an (f : Granite → Granite) (s : State) : (updGr f s).an = s.an := rfl
@[simp] theorem updGr_rs (f : Granite → Granite) (s : State) : (updGr f s).rs = s.rs := rfl
@[simp] theorem updGr_pw (f : Granite → Granite) (s : State) : (updGr f s).pw = s.pw := rfl
@[simp] theorem updGr_sp (f : Granite → Granite) (s : State) : (updGr f s).sp = s.sp := rfl
@[simp] theorem updGr_out (f : Granite → Granite) (s : State) : (updGr f s).out = s.out := rfl
@[simp] theorem updGr_free (f : Granite → Granite) (s : State) : (updGr f s).free = s.free := rfl
@[simp] theorem updGr_pending (f : Granite → Granite) (s : State) : (updGr f s).pending = s.pending := rfl

@[simp] theorem updLs_clk (ch : Nat) (f : LsChan → LsChan) (s : State) : (updLs ch f s).clk = s.clk := rfl
@[simp] theorem updLs_mb (ch : Nat) (f : LsChan → LsChan) (s : State) : (updLs ch f s).mb = s.mb := rfl
@[simp] theorem updLs_pf (ch : Nat) (f : LsChan → LsChan) (s : State) : (updLs ch f s).pf = s.pf := rfl
@[simp] theorem updLs_ev (ch : Nat) (f : LsChan → LsChan) (s : State) : (updLs ch f s).ev = s.ev := rfl
@[simp] theorem updLs_gr (ch : Nat) (f : LsChan → LsChan) (s : State) : (updLs ch f s).gr = s.gr := rfl
@[simp] theorem updLs_qz (ch : Nat) (f : LsChan → LsChan) (s : State) : (updLs ch f s).qz = s.qz := rfl
@[simp] theorem updLs_cf (ch : Nat) (f : LsChan → LsChan) (s : State) : (updLs ch f s).cf = s.cf := rfl
@[simp] theorem updLs_vd (ch : Nat) (f : LsChan → LsChan) (s : State) : (updLs ch f s).vd = s.vd := rfl
@[simp] theorem updLs_ls (ch : Nat) (f : LsChan → LsChan) (s : State) : (updLs ch f s).ls = { s.ls with chans := updAt s.ls.chans ch f } := rfl
@[simp] theorem updLs_gn (ch : Nat) (f : LsChan → LsChan) (s : State) : (updLs ch f s).gn = s.gn := rfl
@[simp] theorem updLs_fb (ch : Nat) (f : LsChan → LsChan) (s : State) : (updLs ch f s).fb = s.fb := rfl
@[simp] theorem updLs_cn (ch : Nat) (f : LsChan → LsChan) (s : State) : (updLs ch f s).cn = s.cn := rfl
@[simp] theorem updLs_mc (ch : Nat) (f : LsChan → LsChan) (s : State) : (updLs ch f s).mc = s.mc := rfl
@[simp] theorem updLs_up (ch : Nat) (f : LsChan → LsChan) (s : State) : (updLs ch f s).up = s.up := rfl
@[simp] theorem updLs_an (ch : Nat) (f : LsChan → LsChan) (s : State) : (updLs ch f s).an = s.an := rfl
@[simp] theorem updLs_rs (ch : Nat) (f : LsChan → LsChan) (s : State) : (updLs ch f s).rs = s.rs := rfl
@[simp] theorem updLs_pw (ch : Nat) (f : LsChan → LsChan) (s : State) : (updLs ch f s).pw = s.pw := rfl
@[simp] theorem updLs_sp (ch : Nat) (f : LsChan → LsChan) (s : State) : (updLs ch f s).sp = s.sp := rfl
@[simp] theorem updLs_out (ch : Nat) (f : LsChan → LsChan) (s : State) : (updLs ch f s).out = s.out := rfl
@[simp] theorem updLs_free (ch : Nat) (f : LsChan → LsChan) (s : State) : (updLs ch f s).free = s.free := rfl
@[simp] theorem updLs_pending (ch : Nat) (f : LsChan → LsChan) (s : State) : (updLs ch f s).pending = s.pending := rfl

@[simp] theorem updMb_clk (f : Mailbox → Mailbox) (s : State) : (updMb f s).clk = s.clk := rfl
@[simp] theorem updMb_mb (f : Mailbox → Mailbox) (s : State) : (updMb f s).mb = f s.mb := rfl
@[simp] theorem updMb_pf (f : Mailbox → Mailbox) (s : State) : (updMb f s).pf = s.pf := rfl
@[simp] theorem updMb_ev (f : Mailbox → Mailbox) (s : State) : (updMb f s).ev = s.ev := rfl
@[simp] theorem updMb_gr (f : Mailbox → Mailbox) (s : State) : (updMb f s).gr = s.gr := rfl
@[simp] theorem updMb_qz (f : Mailbox → Mailbox) (s : State) : (updMb f s).qz = s.qz := rfl
@[simp] theorem updMb_cf (f : Mailbox → Mailbox) (s : State) : (updMb f s).cf = s.cf := rfl
@[simp] theorem updMb_vd (f : Mailbox → Mailbox) (s : State) : (updMb f s).vd = s.vd := rfl
@[simp] theorem updMb_ls (f : Mailbox → Mailbox) (s : State) : (updMb f s).ls = s.ls := rfl
@[simp] theorem updMb_gn (f : Mailbox → Mailbox) (s : State) : (updMb f s).gn = s.gn := rfl
@[simp] theorem updMb_fb (f : Mailbox → Mailbox) (s : State) : (updMb f s).fb = s.fb := rfl
@[simp] theorem updMb_cn (f : Mailbox → Mailbox) (s : State) : (updMb f s).cn = s.cn := rfl
@[simp] theorem updMb_mc (f : Mailbox → Mailbox) (s : State) : (updMb f s).mc = s.mc := rfl
@[simp] theorem updMb_up (f : Mailbox → Mailbox) (s : State) : (updMb f s).up = s.up := rfl
@[simp] theorem updMb_an (f : Mailbox → Mailbox) (s : State) : (updMb f s).an = s.an := rfl
@[simp] theorem updMb_rs (f : Mailbox → Mailbox) (s : State) : (updMb f s).rs = s.rs := rfl
@[simp] theorem updMb_pw (f : Mailbox → Mailbox) (s : State) : (updMb f s).pw = s.pw := rfl
@[simp] theorem updMb_sp (f : Mailbox → Mailbox) (s : State) : (updMb f s).sp = s.sp := rfl
@[simp] theorem updMb_out (f : Mailbox → Mailbox) (s : State) : (updMb f s).out = s.out := rfl
@[simp] theorem updMb_free (f : Mailbox → Mailbox) (s : State) : (updMb f s).free = s.free := rfl
@[simp] theorem updMb_pending (f : Mailbox → Mailbox) (s : State) : (updMb f s).pending = s.pending := rfl

@[simp] theorem updMc_clk (f : Mica → Mica) (s : State) : (updMc f s).clk = s.clk := rfl
@[simp] theorem updMc_mb (f : Mica → Mica) (s : State) : (updMc f s).mb = s.mb := rfl
@[simp] theorem updMc_pf (f : Mica → Mica) (s : State) : (updMc f s).pf = s.pf := rfl
@[simp] theorem updMc_ev (f : Mica → Mica) (s : State) : (updMc f s).ev = s.ev := rfl
@[simp] theorem updMc_gr (f : Mica → Mica) (s : State) : (updMc f s).gr = s.gr := rfl
@[simp] theorem updMc_qz (f : Mica → Mica) (s : State) : (updMc f s).qz = s.qz := rfl
@[simp] theorem updMc_cf (f : Mica → Mica) (s : State) : (updMc f s).cf = s.cf := rfl
@[simp] theorem updMc_vd (f : Mica → Mica) (s : State) : (updMc f s).vd = s.vd := rfl
@[simp] theorem updMc_ls (f : Mica → Mica) (s : State) : (updMc f s).ls = s.ls := rfl
@[simp] theorem updMc_gn (f : Mica → Mica) (s : State) : (updMc f s).gn = s.gn := rfl
@[simp] theorem updMc_fb (f : Mica → Mica) (s : State) : (updMc f s).fb = s.fb := rfl
@[simp] theorem updMc_cn (f : Mica → Mica) (s : State) : (updMc f s).cn = s.cn := rfl
@[simp] theorem updMc_mc (f : Mica → Mica) (s : State) : (updMc f s).mc = f s.mc := rfl
@[simp] theorem updMc_up (f : Mica → Mica) (s : State) : (updMc f s).up = s.up := rfl
@[simp] theorem updMc_an (f : Mica → Mica) (s : State) : (updMc f s).an = s.an := rfl
@[simp] theorem updMc_rs (f : Mica → Mica) (s : State) : (updMc f s).rs = s.rs := rfl
@[simp] theorem updMc_pw (f : Mica → Mica) (s : State) : (updMc f s).pw = s.pw := rfl
@[simp] theorem updMc_sp (f : Mica → Mica) (s : State) : (updMc f s).sp = s.sp := rfl
@[simp] theorem updMc_out (f : Mica → Mica) (s : State) : (updMc f s).out = s.out := rfl
@[simp] theorem updMc_free (f : Mica → Mica) (s : State) : (updMc f s).free = s.free := rfl
@[simp] theorem updMc_pending (f : Mica → Mica) (s : State) : (updMc f s).pending = s.pending := rfl

@[simp] theorem updOpt_clk (f : Optimizer → Optimizer) (s : State) : (updOpt f s).clk = s.clk := rfl
@[simp] theorem updOpt_mb (f : Optimizer → Optimizer) (s : State) : (updOpt f s).mb = s.mb := rfl
@[simp] theorem updOpt_pf (f : Optimizer → Optimizer) (s : State) : (updOpt f s).pf = s.pf := rfl
@[simp] theorem updOpt_ev (f : Optimizer → Optimizer) (s : State) : (updOpt f s).ev = s.ev := rfl
@[simp] theorem updOpt_gr (f : Optimizer → Optimizer) (s : State) : (updOpt f s).gr = s.gr := rfl
@[simp] theorem updOpt_qz (f : Optimizer → Optimizer) (s : State) : (updOpt f s).qz = s.qz := rfl
@[simp] theorem updOpt_cf (f : Optimizer → Optimizer) (s : State) : (updOpt f s).cf = { s.cf with opt := f s.cf.opt } := rfl
@[simp] theorem updOpt_vd (f : Optimizer → Optimizer) (s : State) : (updOpt f s).vd = s.vd := rfl
@[simp] theorem updOpt_ls (f : Optimizer → Optimizer) (s : State) : (updOpt f s).ls = s.ls := rfl
@[simp] theorem updOpt_gn (f : Optimizer → Optimizer) (s : State) : (updOpt f s).gn = s.gn := rfl
@[simp] theorem updOpt_fb (f : Optimizer → Optimizer) (s : State) : (updOpt f s).fb = s.fb := rfl
@[simp] theorem updOpt_cn (f : Optimizer → Optimizer) (s : State) : (updOpt f s).cn = s.cn := rfl
@[simp] theorem updOpt_mc (f : Optimizer → Optimizer) (s : State) : (updOpt f s).mc = s.mc := rfl
@[simp] theorem updOpt_up (f : Optimizer → Optimizer) (s : State) : (updOpt f s).up = s.up := rfl
@[simp] theorem updOpt_an (f : Optimizer → Optimizer) (s : State) : (updOpt f s).an = s.an := rfl
@[simp] theorem updOpt_rs (f : Optimizer → Optimizer) (s : State) : (updOpt f s).rs = s.rs := rfl
@[simp] theorem updOpt_pw (f : Optimizer → Optimizer) (s : State) : (updOpt f s).pw = s.pw := rfl
@[simp] theorem updOpt_sp (f : Optimizer → Optimizer) (s : State) : (updOpt f s).sp = s.sp := rfl
@[simp] theorem updOpt_out (f : Optimizer → Optimizer) (s : State) : (updOpt f s).out = s.out := rfl
@[simp] theorem updOpt_free (f : Optimizer → Optimizer) (s : State) : (updOpt f s).free = s.free := rfl
@[simp] theorem updOpt_pending (f : Optimizer → Optimizer) (s : State) : (updOpt f s).pending = s.pending := rfl

@[simp] theorem updSp_clk (f : Panel → Panel) (s : State) : (updSp f s).clk = s.clk := rfl
@[simp] theorem updSp_mb (f : Panel → Panel) (s : State) : (updSp f s).mb = s.mb := rfl
@[simp] theorem updSp_pf (f : Panel → Panel) (s : State) : (updSp f s).pf = s.pf := rfl
@[simp] theorem updSp_ev (f : Panel → Panel) (s : State) : (updSp f s).ev = s.ev := rfl
@[simp] theorem updSp_gr (f : Panel → Panel) (s : State) : (updSp f s).gr = s.gr := rfl
@[simp] theorem updSp_qz (f : Panel → Panel) (s : State) : (updSp f s).qz = s.qz := rfl
@[simp] theorem updSp_cf (f : Panel → Panel) (s : State) : (updSp f s).cf = s.cf := rfl
@[simp] theorem updSp_vd (f : Panel → Panel) (s : State) : (updSp f s).vd = s.vd := rfl
@[simp] theorem updSp_ls (f : Panel → Panel) (s : State) : (updSp f s).ls = s.ls := rfl
@[simp] theorem updSp_gn (f : Panel → Panel) (s : State) : (updSp f s).gn = s.gn := rfl
@[simp] theorem updSp_fb (f : Panel → Panel) (s : State) : (updSp f s).fb = s.fb := rfl
@[simp] theorem updSp_cn (f : Panel → Panel) (s : State) : (updSp f s).cn = s.cn := rfl
@[simp] theorem updSp_mc (f : Panel → Panel) (s : State) : (updSp f s).mc = s.mc := rfl
@[simp] theorem updSp_up (f : Panel → Panel) (s : State) : (updSp f s).up = s.up := rfl
@[simp] theorem updSp_an (f : Panel → Panel) (s : State) : (updSp f s).an = s.an := rfl
@[simp] theorem updSp_rs (f : Panel → Panel) (s : State) : (updSp f s).rs = s.rs := rfl
@[simp] theorem updSp_pw (f : Panel → Panel) (s : State) : (updSp f s).pw = s.pw := rfl
@[simp] theorem updSp_sp (f : Panel → Panel) (s : State) : (updSp f s).sp = f s.sp := rfl
@[simp] theorem updSp_out (f : Panel → Panel) (s : State) : (updSp f s).out = s.out := rfl
@[simp] theorem updSp_free (f : Panel → Panel) (s : State) : (updSp f s).free = s.free := rfl
@[simp] theorem updSp_pending (f : Panel → Panel) (s : State) : (updSp f s).pending = s.pending := rfl

@[simp] theorem updPw_clk (f : Power → Power) (s : State) : (updPw f s).clk = s.clk := rfl
@[simp] theorem updPw_mb (f : Power → Power) (s : State) : (updPw f s).mb = s.mb := rfl
@[simp] theorem updPw_pf (f : Power → Power) (s : State) : (updPw f s).pf = s.pf := rfl
@[simp] theorem updPw_ev (f : Power → Power) (s : State) : (updPw f s).ev = s.ev := rfl
@[simp] theorem updPw_gr (f : Power → Power) (s : State) : (updPw f s).gr = s.gr := rfl
@[simp] theorem updPw_qz (f : Power → Power) (s : State) : (updPw f s).qz = s.qz := rfl
@[simp] theorem updPw_cf (f : Power → Power) (s : State) : (updPw f s).cf = s.cf := rfl
@[simp] theorem updPw_vd (f : Power → Power) (s : State) : (updPw f s).vd = s.vd := rfl
@[simp] theorem updPw_ls (f : Power → Power) (s : State) : (updPw f s).ls = s.ls := rfl
@[simp] theorem updPw_gn (f : Power → Power) (s : State) : (updPw f s).gn = s.gn := rfl
@[simp] theorem updPw_fb (f : Power → Power) (s : State) : (updPw f s).fb = s.fb := rfl
@[simp] theorem updPw_cn (f : Power → Power) (s : State) : (updPw f s).cn = s.cn := rfl
@[simp] theorem updPw_mc (f : Power → Power) (s : State) : (updPw f s).mc = s.mc := rfl
@[simp] theorem updPw_up (f : Power → Power) (s : State) : (updPw f s).up = s.up := rfl
@[simp] theorem updPw_an (f : Power → Power) (s : State) : (updPw f s).an = s.an := rfl
@[simp] theorem updPw_rs (f : Power → Power) (s : State) : (updPw f s).rs = s.rs := rfl
@[simp] theorem updPw_pw (f : Power → Power) (s : State) : (updPw f s).pw = f s.pw := rfl
@[simp] theorem updPw_sp (f : Power → Power) (s : State) : (updPw f s).sp = s.sp := rfl
@[simp] theorem updPw_out (f : Power → Power) (s : State) : (updPw f s).out = s.out := rfl
@[simp] theorem updPw_free (f : Power → Power) (s : State) : (updPw f s).free = s.free := rfl
@[simp] theorem updPw_pending (f : Power → Power) (s : State) : (updPw f s).pending = s.pending := rfl

@[simp] theorem updAn_clk (f : Analog → Analog) (s : State) : (updAn f s).clk = s.clk := rfl
@[simp] theorem updAn_mb (f : Analog → Analog) (s : State) : (updAn f s).mb = s.mb := rfl
@[simp] theorem updAn_pf (f : Analog → Analog) (s : State) : (updAn f s).pf = s.pf := rfl
@[simp] theorem updAn_ev (f : Analog → Analog) (s : State) : (updAn f s).ev = s.ev := rfl
@[simp] theorem updAn_gr (f : Analog → Analog) (s : State) : (updAn f s).gr = s.gr := rfl
@[simp] theorem updAn_qz (f : Analog → Analog) (s : State) : (updAn f s).qz = s.qz := rfl
@[simp] theorem updAn_cf (f : Analog → Analog) (s : State) : (updAn f s).cf = s.cf := rfl
@[simp] theorem updAn_vd (f : Analog → Analog) (s : State) : (updAn f s).vd = s.vd := rfl
@[simp] theorem updAn_ls (f : Analog → Analog) (s : State) : (updAn f s).ls = s.ls := rfl
@[simp] theorem updAn_gn (f : Analog → Analog) (s : State) : (updAn f s).gn = s.gn := rfl
@[simp] theorem updAn_fb (f : Analog → Analog) (s : State) : (updAn f s).fb = s.fb := rfl
@[simp] theorem updAn_cn (f : Analog → Analog) (s : State) : (updAn f s).cn = s.cn := rfl
@[simp] theorem updAn_mc (f : Analog → Analog) (s : State) : (updAn f s).mc = s.mc := rfl
@[simp] theorem updAn_up (f : Analog → Analog) (s : State) : (updAn f s).up = s.up := rfl
@[simp] theorem updAn_an (f : Analog → Analog) (s : State) : (updAn f s).an = f s.an := rfl
@[simp] theorem updAn_rs (f : Analog → Analog) (s : State) : (updAn f s).rs = s.rs := rfl
@[simp] theorem updAn_pw (f : Analog → Analog) (s : State) : (updAn f s).pw = s.pw := rfl
@[simp] theorem updAn_sp (f : Analog → Analog) (s : State) : (updAn f s).sp = s.sp := rfl
@[simp] theorem updAn_out (f : Analog → Analog) (s : State) : (updAn f s).out = s.out := rfl
@[simp] theorem updAn_free (f : Analog → Analog) (s : State) : (updAn f s).free = s.free := rfl
@[simp] theorem updAn_pending (f : Analog → Analog) (s : State) : (updAn f s).pending = s.pending := rfl

@[simp] theorem updPf_clk (f : Profiles → Profiles) (s : State) : (updPf f s).clk = s.clk := rfl
@[simp] theorem updPf_mb (f : Profiles → Profiles) (s : State) : (updPf f s).mb = s.mb := rfl
@[simp] theorem updPf_pf (f : Profiles → Profiles) (s : State) : (updPf f s).pf = f s.pf := rfl
@[simp] theorem updPf_ev (f : Profiles → Profiles) (s : State) : (updPf f s).ev = s.ev := rfl
@[simp] theorem updPf_gr (f : Profiles → Profiles) (s : State) : (updPf f s).gr = s.gr := rfl
@[simp] theorem updPf_qz (f : Profiles → Profiles) (s : State) : (updPf f s).qz = s.qz := rfl
@[simp] theorem updPf_cf (f : Profiles → Profiles) (s : State) : (updPf f s).cf = s.cf := rfl
@[simp] theorem updPf_vd (f : Profiles → Profiles) (s : State) : (updPf f s).vd = s.vd := rfl
@[simp] theorem updPf_ls (f : Profiles → Profiles) (s : State) : (updPf f s).ls = s.ls := rfl
@[simp] theorem updPf_gn (f : Profiles → Profiles) (s : State) : (updPf f s).gn = s.gn := rfl
@[simp] theorem updPf_fb (f : Profiles → Profiles) (s : State) : (updPf f s).fb = s.fb := rfl
@[simp] theorem updPf_cn (f : Profiles → Profiles) (s : State) : (updPf f s).cn = s.cn := rfl
@[simp] theorem updPf_mc (f : Profiles → Profiles) (s : State) : (updPf f s).mc = s.mc := rfl
@[simp] theorem updPf_up (f : Profiles → Profiles) (s : State) : (updPf f s).up = s.up := rfl
@[simp] theorem updPf_an (f : Profiles → Profiles) (s : State) : (updPf f s).an = s.an := rfl
@[simp] theorem updPf_rs (f : Profiles → Profiles) (s : State) : (updPf f s).rs = s.rs := rfl
@[simp] theorem updPf_pw (f : Profiles → Profiles) (s : State) : (updPf f s).pw = s.pw := rfl
@[simp] theorem updPf_sp (f : Profiles → Profiles) (s : State) : (updPf f s).sp = s.sp := rfl
@[simp] theorem updPf_out (f : Profiles → Profiles) (s : State) : (updPf f s).out = s.out := rfl
@[simp] theorem updPf_free (f : Profiles → Profiles) (s : State) : (updPf f s).free = s.free := rfl
@[simp] theorem updPf_pending (f : Profiles → Profiles) (s : State) : (updPf f s).pending = s.pending := rfl

@[simp] theorem updFn_clk (f : Nat) (g : Fn → Fn) (s : State) : (updFn f g s).clk = s.clk := rfl
@[simp] theorem updFn_mb (f : Nat) (g : Fn → Fn) (s : State) : (updFn f g s).mb = s.mb := rfl
@[simp] theorem updFn_pf (f : Nat) (g : Fn → Fn) (s : State) : (updFn f g s).pf = s.pf := rfl
@[simp] theorem updFn_ev (f : Nat) (g : Fn → Fn) (s : State) : (updFn f g s).ev = s.ev := rfl
@[simp] theorem updFn_gr (f : Nat) (g : Fn → Fn) (s : State) : (updFn f g s).gr = { s.gr with fns := updAt s.gr.fns (f - 1) g } := rfl
@[simp] theorem updFn_qz (f : Nat) (g : Fn → Fn) (s : State) : (updFn f g s).qz = s.qz := rfl
@[simp] theorem updFn_cf (f : Nat) (g : Fn → Fn) (s : State) : (updFn f g s).cf = s.cf := rfl
@[simp] theorem updFn_vd (f : Nat) (g : Fn → Fn) (s : State) : (updFn f g s).vd = s.vd := rfl
@[simp] theorem updFn_ls (f : Nat) (g : Fn → Fn) (s : State) : (updFn f g s).ls = s.ls := rfl
@[simp] theorem updFn_gn (f : Nat) (g : Fn → Fn) (s : State) : (updFn f g s).gn = s.gn := rfl
@[simp] theorem updFn_fb (f : Nat) (g : Fn → Fn) (s : State) : (updFn f g s).fb = s.fb := rfl
@[simp] theorem updFn_cn (f : Nat) (g : Fn → Fn) (s : State) : (updFn f g s).cn = s.cn := rfl
@[simp] theorem updFn_mc (f : Nat) (g : Fn → Fn) (s : State) : (updFn f g s).mc = s.mc := rfl
@[simp] theorem updFn_up (f : Nat) (g : Fn → Fn) (s : State) : (updFn f g s).up = s.up := rfl
@[simp] theorem updFn_an (f : Nat) (g : Fn → Fn) (s : State) : (updFn f g s).an = s.an := rfl
@[simp] theorem updFn_rs (f : Nat) (g : Fn → Fn) (s : State) : (updFn f g s).rs = s.rs := rfl
@[simp] theorem updFn_pw (f : Nat) (g : Fn → Fn) (s : State) : (updFn f g s).pw = s.pw := rfl
@[simp] theorem updFn_sp (f : Nat) (g : Fn → Fn) (s : State) : (updFn f g s).sp = s.sp := rfl
@[simp] theorem updFn_out (f : Nat) (g : Fn → Fn) (s : State) : (updFn f g s).out = s.out := rfl
@[simp] theorem updFn_free (f : Nat) (g : Fn → Fn) (s : State) : (updFn f g s).free = s.free := rfl
@[simp] theorem updFn_pending (f : Nat) (g : Fn → Fn) (s : State) : (updFn f g s).pending = s.pending := rfl

@[simp] theorem updRs_clk (f : ResetLife → ResetLife) (s : State) : (updRs f s).clk = s.clk := rfl
@[simp] theorem updRs_mb (f : ResetLife → ResetLife) (s : State) : (updRs f s).mb = s.mb := rfl
@[simp] theorem updRs_pf (f : ResetLife → ResetLife) (s : State) : (updRs f s).pf = s.pf := rfl
@[simp] theorem updRs_ev (f : ResetLife → ResetLife) (s : State) : (updRs f s).ev = s.ev := rfl
@[simp] theorem updRs_gr (f : ResetLife → ResetLife) (s : State) : (updRs f s).gr = s.gr := rfl
@[simp] theorem updRs_qz (f : ResetLife → ResetLife) (s : State) : (updRs f s).qz = s.qz := rfl
@[simp] theorem updRs_cf (f : ResetLife → ResetLife) (s : State) : (updRs f s).cf = s.cf := rfl
@[simp] theorem updRs_vd (f : ResetLife → ResetLife) (s : State) : (updRs f s).vd = s.vd := rfl
@[simp] theorem updRs_ls (f : ResetLife → ResetLife) (s : State) : (updRs f s).ls = s.ls := rfl
@[simp] theorem updRs_gn (f : ResetLife → ResetLife) (s : State) : (updRs f s).gn = s.gn := rfl
@[simp] theorem updRs_fb (f : ResetLife → ResetLife) (s : State) : (updRs f s).fb = s.fb := rfl
@[simp] theorem updRs_cn (f : ResetLife → ResetLife) (s : State) : (updRs f s).cn = s.cn := rfl
@[simp] theorem updRs_mc (f : ResetLife → ResetLife) (s : State) : (updRs f s).mc = s.mc := rfl
@[simp] theorem updRs_up (f : ResetLife → ResetLife) (s : State) : (updRs f s).up = s.up := rfl
@[simp] theorem updRs_an (f : ResetLife → ResetLife) (s : State) : (updRs f s).an = s.an := rfl
@[simp] theorem updRs_rs (f : ResetLife → ResetLife) (s : State) : (updRs f s).rs = f s.rs := rfl
@[simp] theorem updRs_pw (f : ResetLife → ResetLife) (s : State) : (updRs f s).pw = s.pw := rfl
@[simp] theorem updRs_sp (f : ResetLife → ResetLife) (s : State) : (updRs f s).sp = s.sp := rfl
@[simp] theorem updRs_out (f : ResetLife → ResetLife) (s : State) : (updRs f s).out = s.out := rfl
@[simp] theorem updRs_free (f : ResetLife → ResetLife) (s : State) : (updRs f s).free = s.free := rfl
@[simp] theorem updRs_pending (f : ResetLife → ResetLife) (s : State) : (updRs f s).pending = s.pending := rfl

@[simp] theorem updCap_clk (f : QzCapture → QzCapture) (s : State) : (updCap f s).clk = s.clk := rfl
@[simp] theorem updCap_mb (f : QzCapture → QzCapture) (s : State) : (updCap f s).mb = s.mb := rfl
@[simp] theorem updCap_pf (f : QzCapture → QzCapture) (s : State) : (updCap f s).pf = s.pf := rfl
@[simp] theorem updCap_ev (f : QzCapture → QzCapture) (s : State) : (updCap f s).ev = s.ev := rfl
@[simp] theorem updCap_gr (f : QzCapture → QzCapture) (s : State) : (updCap f s).gr = s.gr := rfl
@[simp] theorem updCap_qz (f : QzCapture → QzCapture) (s : State) : (updCap f s).qz = { s.qz with cap := f s.qz.cap } := rfl
@[simp] theorem updCap_cf (f : QzCapture → QzCapture) (s : State) : (updCap f s).cf = s.cf := rfl
@[simp] theorem updCap_vd (f : QzCapture → QzCapture) (s : State) : (updCap f s).vd = s.vd := rfl
@[simp] theorem updCap_ls (f : QzCapture → QzCapture) (s : State) : (updCap f s).ls = s.ls := rfl
@[simp] theorem updCap_gn (f : QzCapture → QzCapture) (s : State) : (updCap f s).gn = s.gn := rfl
@[simp] theorem updCap_fb (f : QzCapture → QzCapture) (s : State) : (updCap f s).fb = s.fb := rfl
@[simp] theorem updCap_cn (f : QzCapture → QzCapture) (s : State) : (updCap f s).cn = s.cn := rfl
@[simp] theorem updCap_mc (f : QzCapture → QzCapture) (s : State) : (updCap f s).mc = s.mc := rfl
@[simp] theorem updCap_up (f : QzCapture → QzCapture) (s : State) : (updCap f s).up = s.up := rfl
@[simp] theorem updCap_an (f : QzCapture → QzCapture) (s : State) : (updCap f s).an = s.an := rfl
@[simp] theorem updCap_rs (f : QzCapture → QzCapture) (s : State) : (updCap f s).rs = s.rs := rfl
@[simp] theorem updCap_pw (f : QzCapture → QzCapture) (s : State) : (updCap f s).pw = s.pw := rfl
@[simp] theorem updCap_sp (f : QzCapture → QzCapture) (s : State) : (updCap f s).sp = s.sp := rfl
@[simp] theorem updCap_out (f : QzCapture → QzCapture) (s : State) : (updCap f s).out = s.out := rfl
@[simp] theorem updCap_free (f : QzCapture → QzCapture) (s : State) : (updCap f s).free = s.free := rfl
@[simp] theorem updCap_pending (f : QzCapture → QzCapture) (s : State) : (updCap f s).pending = s.pending := rfl

@[simp] theorem updUp_clk (f : Update → Update) (s : State) : (updUp f s).clk = s.clk := rfl
@[simp] theorem updUp_mb (f : Update → Update) (s : State) : (updUp f s).mb = s.mb := rfl
@[simp] theorem updUp_pf (f : Update → Update) (s : State) : (updUp f s).pf = s.pf := rfl
@[simp] theorem updUp_ev (f : Update → Update) (s : State) : (updUp f s).ev = s.ev := rfl
@[simp] theorem updUp_gr (f : Update → Update) (s : State) : (updUp f s).gr = s.gr := rfl
@[simp] theorem updUp_qz (f : Update → Update) (s : State) : (updUp f s).qz = s.qz := rfl
@[simp] theorem updUp_cf (f : Update → Update) (s : State) : (updUp f s).cf = s.cf := rfl
@[simp] theorem updUp_vd (f : Update → Update) (s : State) : (updUp f s).vd = s.vd := rfl
@[simp] theorem updUp_ls (f : Update → Update) (s : State) : (updUp f s).ls = s.ls := rfl
@[simp] theorem updUp_gn (f : Update → Update) (s : State) : (updUp f s).gn = s.gn := rfl
@[simp] theorem updUp_fb (f : Update → Update) (s : State) : (updUp f s).fb = s.fb := rfl
@[simp] theorem updUp_cn (f : Update → Update) (s : State) : (updUp f s).cn = s.cn := rfl
@[simp] theorem updUp_mc (f : Update → Update) (s : State) : (updUp f s).mc = s.mc := rfl
@[simp] theorem updUp_up (f : Update → Update) (s : State) : (updUp f s).up = f s.up := rfl
@[simp] theorem updUp_an (f : Update → Update) (s : State) : (updUp f s).an = s.an := rfl
@[simp] theorem updUp_rs (f : Update → Update) (s : State) : (updUp f s).rs = s.rs := rfl
@[simp] theorem updUp_pw (f : Update → Update) (s : State) : (updUp f s).pw = s.pw := rfl
@[simp] theorem updUp_sp (f : Update → Update) (s : State) : (updUp f s).sp = s.sp := rfl
@[simp] theorem updUp_out (f : Update → Update) (s : State) : (updUp f s).out = s.out := rfl
@[simp] theorem updUp_free (f : Update → Update) (s : State) : (updUp f s).free = s.free := rfl
@[simp] theorem updUp_pending (f : Update → Update) (s : State) : (updUp f s).pending = s.pending := rfl

@[simp] theorem updVd_clk (ch : Nat) (f : VdChan → VdChan) (s : State) : (updVd ch f s).clk = s.clk := rfl
@[simp] theorem updVd_mb (ch : Nat) (f : VdChan → VdChan) (s : State) : (updVd ch f s).mb = s.mb := rfl
@[simp] theorem updVd_pf (ch : Nat) (f : VdChan → VdChan) (s : State) : (updVd ch f s).pf = s.pf := rfl
@[simp] theorem updVd_ev (ch : Nat) (f : VdChan → VdChan) (s : State) : (updVd ch f s).ev = s.ev := rfl
@[simp] theorem updVd_gr (ch : Nat) (f : VdChan → VdChan) (s : State) : (updVd ch f s).gr = s.gr := rfl
@[simp] theorem updVd_qz (ch : Nat) (f : VdChan → VdChan) (s : State) : (updVd ch f s).qz = s.qz := rfl
@[simp] theorem updVd_cf (ch : Nat) (f : VdChan → VdChan) (s : State) : (updVd ch f s).cf = s.cf := rfl
@[simp] theorem updVd_vd (ch : Nat) (f : VdChan → VdChan) (s : State) : (updVd ch f s).vd = { s.vd with chans := updAt s.vd.chans ch f } := rfl
@[simp] theorem updVd_ls (ch : Nat) (f : VdChan → VdChan) (s : State) : (updVd ch f s).ls = s.ls := rfl
@[simp] theorem updVd_gn (ch : Nat) (f : VdChan → VdChan) (s : State) : (updVd ch f s).gn = s.gn := rfl
@[simp] theorem updVd_fb (ch : Nat) (f : VdChan → VdChan) (s : State) : (updVd ch f s).fb = s.fb := rfl
@[simp] theorem updVd_cn (ch : Nat) (f : VdChan → VdChan) (s : State) : (updVd ch f s).cn = s.cn := rfl
@[simp] theorem updVd_mc (ch : Nat) (f : VdChan → VdChan) (s : State) : (updVd ch f s).mc = s.mc := rfl
@[simp] theorem updVd_up (ch : Nat) (f : VdChan → VdChan) (s : State) : (updVd ch f s).up = s.up := rfl
@[simp] theorem updVd_an (ch : Nat) (f : VdChan → VdChan) (s : State) : (updVd ch f s).an = s.an := rfl
@[simp] theorem updVd_rs (ch : Nat) (f : VdChan → VdChan) (s : State) : (updVd ch f s).rs = s.rs := rfl
@[simp] theorem updVd_pw (ch : Nat) (f : VdChan → VdChan) (s : State) : (updVd ch f s).pw = s.pw := rfl
@[simp] theorem updVd_sp (ch : Nat) (f : VdChan → VdChan) (s : State) : (updVd ch f s).sp = s.sp := rfl
@[simp] theorem updVd_out (ch : Nat) (f : VdChan → VdChan) (s : State) : (updVd ch f s).out = s.out := rfl
@[simp] theorem updVd_free (ch : Nat) (f : VdChan → VdChan) (s : State) : (updVd ch f s).free = s.free := rfl
@[simp] theorem updVd_pending (ch : Nat) (f : VdChan → VdChan) (s : State) : (updVd ch f s).pending = s.pending := rfl

@[simp] theorem updBank_clk (k : Nat) (f : VdBank → VdBank) (s : State) : (updBank k f s).clk = s.clk := rfl
@[simp] theorem updBank_mb (k : Nat) (f : VdBank → VdBank) (s : State) : (updBank k f s).mb = s.mb := rfl
@[simp] theorem updBank_pf (k : Nat) (f : VdBank → VdBank) (s : State) : (updBank k f s).pf = s.pf := rfl
@[simp] theorem updBank_ev (k : Nat) (f : VdBank → VdBank) (s : State) : (updBank k f s).ev = s.ev := rfl
@[simp] theorem updBank_gr (k : Nat) (f : VdBank → VdBank) (s : State) : (updBank k f s).gr = s.gr := rfl
@[simp] theorem updBank_qz (k : Nat) (f : VdBank → VdBank) (s : State) : (updBank k f s).qz = s.qz := rfl
@[simp] theorem updBank_cf (k : Nat) (f : VdBank → VdBank) (s : State) : (updBank k f s).cf = s.cf := rfl
@[simp] theorem updBank_vd (k : Nat) (f : VdBank → VdBank) (s : State) : (updBank k f s).vd = { s.vd with banks := updAt s.vd.banks k f } := rfl
@[simp] theorem updBank_ls (k : Nat) (f : VdBank → VdBank) (s : State) : (updBank k f s).ls = s.ls := rfl
@[simp] theorem updBank_gn (k : Nat) (f : VdBank → VdBank) (s : State) : (updBank k f s).gn = s.gn := rfl
@[simp] theorem updBank_fb (k : Nat) (f : VdBank → VdBank) (s : State) : (updBank k f s).fb = s.fb := rfl
@[simp] theorem updBank_cn (k : Nat) (f : VdBank → VdBank) (s : State) : (updBank k f s).cn = s.cn := rfl
@[simp] theorem updBank_mc (k : Nat) (f : VdBank → VdBank) (s : State) : (updBank k f s).mc = s.mc := rfl
@[simp] theorem updBank_up (k : Nat) (f : VdBank → VdBank) (s : State) : (updBank k f s).up = s.up := rfl
@[simp] theorem updBank_an (k : Nat) (f : VdBank → VdBank) (s : State) : (updBank k f s).an = s.an := rfl
@[simp] theorem updBank_rs (k : Nat) (f : VdBank → VdBank) (s : State) : (updBank k f s).rs = s.rs := rfl
@[simp] theorem updBank_pw (k : Nat) (f : VdBank → VdBank) (s : State) : (updBank k f s).pw = s.pw := rfl
@[simp] theorem updBank_sp (k : Nat) (f : VdBank → VdBank) (s : State) : (updBank k f s).sp = s.sp := rfl
@[simp] theorem updBank_out (k : Nat) (f : VdBank → VdBank) (s : State) : (updBank k f s).out = s.out := rfl
@[simp] theorem updBank_free (k : Nat) (f : VdBank → VdBank) (s : State) : (updBank k f s).free = s.free := rfl
@[simp] theorem updBank_pending (k : Nat) (f : VdBank → VdBank) (s : State) : (updBank k f s).pending = s.pending := rfl

end Sys2Proof.Machine
end

