-- ==== Sys2Proof/WellFormed.lean ====
section
/-!
DEFINITION. WellFormed.lean: the ranges of operands that their types do not already bound, each check under its own name.
-/

namespace Sys2Proof

/-- A binding that Table 1-4 can name: a service Ethernet peer is an IPv4 address with a UDP port, a fabric peer a node 1 to 63, a CAN peer a
port 0 to 3 with a source address, the UART one peer. -/
def Binding.wf (b : Binding) : Bool :=
  decide (b.relay < 64) &&
    match b.transport with
    | .serviceEthernet => decide (b.peer < 2 ^ 48)
    | .fabric => decide (1 ≤ b.peer && b.peer < 64)
    | .can => decide (b.peer < 4 * 256)
    | .uart => b.peer == 0

/-- A message whose header fields fit their bytes and whose payload fits an assembly (Table 1-1, R18). -/
def Req.wf (r : Req) : Bool :=
  r.binding.wf && decide (r.session < 2 ^ 16) && decide (r.seq < 2 ^ 16) && decide (r.payload.length ≤ 65536)

/-- A Skim frame whose fields fit Table 9-6. -/
def SkimFrame.wf (f : SkimFrame) : Bool :=
  decide (f.cls < 4) && decide (f.src < 64) && decide (f.dst < 64) && decide (f.flow < 2 ^ 16) && decide (f.seq < 2 ^ 32) &&
    decide (f.data.length ≤ 1484)

/-- A CAN frame with an identifier of its format and at most the data its format carries (R276). -/
def CanFrame.wf (f : CanFrame) : Bool :=
  decide (f.id < (if f.ext then 2 ^ 29 else 2 ^ 11)) && decide (f.data.length ≤ (if f.fd then 64 else 8)) &&
    !(f.fd && f.rtr) && !(f.rtr && !f.data.isEmpty)

/-- An address of the 64 MB of Mica (R297). -/
def micaAddrOk (a : Nat) : Bool := decide (a < 2 ^ 26)

/-- A node number, 0 for none. -/
def nodeOk (n : Nat) : Bool := decide (n < 64)

/-- What a cut-off brings: at most the inputs the module has (Table 2-3). -/
def CutSample.wf (x : CutSample) : Bool :=
  decide (x.ains.length ≤ 40) && decide (x.din < 2 ^ 24) && decide (x.fq.length ≤ 24) && decide (x.br.length ≤ 6) &&
    decide (x.ms.length ≤ 2) && decide (x.quartz.length ≤ 32)

/-- An instant given as a cycle of CLK_CTL within the frame (R11). -/
def cycleOk (c : Nat) : Bool := decide (c < 750000)

/-- Whether the operands of a command lie in their ranges. A command outside it has a meaning all the same: the mailbox refuses
what its own checks find, and an event that cannot be leaves the state as it is. -/
def Instr.wf (c : Instr) : Bool :=
  match c with
  | .messageReceive b _ _ => b.wf
  | .fragmentAssemblyTimeout => true
  | .lockoutExpiry => true
  | .authBurstEnd => true
  | .halfOpenTimeout => true
  | .reorderHoldExpiry => true
  | .sessionTimeout => true
  | .session0BindingForget => true
  | .notifyIntervalExpiry => true
  | .ident r => r.wf
  | .ping r => r.wf
  | .timeGet r => r.wf
  | .statusGet r => r.wf
  | .sessionOpen r => r.wf
  | .sessionProve r => r.wf
  | .sessionClose r => r.wf
  | .sessionList r => r.wf
  | .subscribe r => r.wf
  | .unsubscribe r => r.wf
  | .pendingList r => r.wf
  | .pendingCancel r => r.wf
  | .fbRelay r => r.wf
  | .relayInnerResponse _ _ _ => true
  | .relayTimeout => true
  | .relayedNotify _ _ _ => true
  | .paramGet r => r.wf
  | .paramSet r => r.wf
  | .paramInfo r => r.wf
  | .paramList r => r.wf
  | .moduleSettingDurable => true
  | .profileSelect r => r.wf
  | .profileGetActive r => r.wf
  | .profileRead r => r.wf
  | .profileWrite r => r.wf
  | .profileValidate r => r.wf
  | .profileSave r => r.wf
  | .profileSetDefault r => r.wf
  | .mdRead r => r.wf
  | .profileStagingTimeout => true
  | .cutOff x => x.wf
  | .frameStart _ => true
  | .rampEnd _ => true
  | .feedbackGraceExpiry _ => true
  | .tickSample coils loads _ => decide (coils.length ≤ 12) && decide (loads.length ≤ 24)
  | .tickStart => true
  | .tickCommit _ => true
  | .firmwareDeadline _ => true
  | .consecutiveOverrunLimit => true
  | .frameCommit _ => true
  | .lockstepDivergence _ => true
  | .laneWatchdogMiss _ => true
  | .laneEccError _ _ => true
  | .laneResetDone _ => true
  | .laneSelftestDone _ _ => true
  | .transferFinalPass _ _ => true
  | .transferTimeout _ => true
  | .excludedWaitExpiry _ => true
  | .grStatus r => r.wf
  | .functionSet r => r.wf
  | .functionEnable r => r.wf
  | .laneStatus r => r.wf
  | .coefBankWrite r => r.wf
  | .coefBankSwap r => r.wf
  | .recordCapture r => r.wf
  | .recordCaptureDone => true
  | .recordRead r => r.wf
  | .replayStatus r => r.wf
  | .replayLoad r => r.wf
  | .replayRun r => r.wf
  | .replayAbort r => r.wf
  | .replayDone _ _ _ => true
  | .impactEnd _ _ _ _ => true
  | .impactClassify _ => true
  | .tapDue _ => true
  | .tapForced _ => true
  | .tapStart _ _ _ _ => true
  | .tapSequenceEnd _ => true
  | .tapAnalysisDone _ _ => true
  | .tapDeferral _ => true
  | .calibrationStale _ => true
  | .teachDone _ => true
  | .diagIdleDue _ => true
  | .diagStart _ _ _ _ => true
  | .diagSequenceEnd _ _ _ _ => true
  | .asPinRangeFault _ _ => true
  | .qzStatus r => r.wf
  | .qzResultsRead r => r.wf
  | .qzCropSelect r => r.wf
  | .qzTapRequestTap r => r.wf
  | .qzTapRequestTeach r => r.wf
  | .qzTapRequestForget r => r.wf
  | .qzDiagRequest r => r.wf
  | .qzRawCaptureStatus r => r.wf
  | .qzRawCaptureStart r => r.wf
  | .qzRawCaptureStop r => r.wf
  | .qzRawCaptureRead r => r.wf
  | .rawCaptureDone => true
  | .lossGroupUncovered _ => true
  | .liveCalSettleDone => true
  | .liveCalIntervalEnd => true
  | .liveCalTimeout => true
  | .delayEstimate => true
  | .delayNotEstimable => true
  | .slopeLimitUpdate => true
  | .moistureCellInvalid _ => true
  | .yieldRecordWrite => true
  | .optimizerWindowEnd => true
  | .optimizerSettleEnd => true
  | .optimizerHoldEnd => true
  | .optimizerOperatorHoldEnd _ => true
  | .cfStatus r => r.wf
  | .yieldRead r => r.wf
  | .cfCalibrateFlowZero r => r.wf
  | .cfCalibrateTankTare r => r.wf
  | .calibrationAverageDone => true
  | .cfCalibrateLoadBegin r => r.wf
  | .cfCalibrateLoadEnd r => r.wf
  | .cfCalibrateLoadAbort r => r.wf
  | .cfCalibrateGainReset r => r.wf
  | .cfCalibrateDelayReset r => r.wf
  | .optimizerTargets r => r.wf
  | .optimizerEnable r => r.wf
  | .coveragePutFieldOpen r => r.wf
  | .coveragePutFieldClose r => r.wf
  | .coveragePutCells r => r.wf
  | .coverageGetBits r => r.wf
  | .coverageGetChanges r => r.wf
  | .mapExport r => r.wf
  | .boostStartInstant _ _ => true
  | .peakReached _ _ _ => true
  | .boostTimeout _ _ _ => true
  | .deferTimeout _ _ => true
  | .peakEnd _ _ _ => true
  | .releaseInstant _ _ => true
  | .releaseEnd _ _ _ => true
  | .observeEnd _ _ _ => true
  | .valveFaultDetect _ _ _ => true
  | .vdOffstateDiag _ _ _ => true
  | .boostRailThreshold _ => true
  | .boostOvervoltage _ _ => true
  | .boostRailLow _ _ => true
  | .boostConverterSlow _ => true
  | .vdCommandOff r => r.wf
  | .vdCommandPulse r => r.wf
  | .vdCommandCurrent r => r.wf
  | .vdStatus r => r.wf
  | .vdTimingRead r => r.wf
  | .vdDiagChannel r => r.wf
  | .vdDiagBank r => r.wf
  | .vdDiagClear r => r.wf
  | .inrushWindowEnd _ _ => true
  | .currentLimitEntry _ _ _ => true
  | .currentLimitExit _ _ _ => true
  | .startAttemptFail _ _ => true
  | .startAttemptSuccess _ _ => true
  | .retryWaitEnd _ _ _ => true
  | .lsThermalShutdown _ _ _ => true
  | .lsJunctionCooled _ _ _ => true
  | .demagEnd _ _ _ _ _ => true
  | .lsOffstateDiag _ _ _ => true
  | .lsOpenLoadOnstate _ _ _ => true
  | .dissipationEstimate _ => true
  | .loadShed => true
  | .loadRestore => true
  | .budgetExceeded => true
  | .lsCommandOff r => r.wf
  | .lsCommandOn r => r.wf
  | .lsCommandPwm r => r.wf
  | .lsStatus r => r.wf
  | .lsLatchClear r => r.wf
  | .lsDiagOffState r => r.wf
  | .lsDiagOnTest r => r.wf
  | .onTestEnd _ _ _ => true
  | .antennaBiasSample _ _ _ => true
  | .antennaShortRetry _ => true
  | .antennaOvervoltage _ _ _ => true
  | .trackingLoopUpdate _ _ => true
  | .channelAllocation _ => true
  | .searchDwellDone _ _ _ _ _ => true
  | .notchMonitor _ _ _ => true
  | .navEpoch _ => true
  | .navSolutionRelease => true
  | .imuSample _ _ _ => true
  | .inertialFault _ => true
  | .deadReckoningLimit => true
  | .correctionsStale => true
  | .baselineMismatch => true
  | .timeEstablish => true
  | .frameRenumber => true
  | .renumberWaitTimeout => true
  | .ppsPulse => true
  | .timeHoldoverEntry => true
  | .timeMessageQueue => true
  | .ppsiEdge c => cycleOk c
  | .ppsiMissing => true
  | .steerGraceExpiry => true
  | .gnStatus r => r.wf
  | .gnSolutionGet r => r.wf
  | .rtcmPut r => r.wf
  | .gnConfigRestart r => r.wf
  | .gnConfigSeed r => r.wf
  | .gnConfigNotchReset r => r.wf
  | .gnConfigAntennaRetry r => r.wf
  | .gnConfigImuSelftest r => r.wf
  | .pathLoadLoadNext r => r.wf
  | .pathLoadClearNext r => r.wf
  | .pathLoadShift r => r.wf
  | .steerEngage r => r.wf
  | .helloSend _ => true
  | .hello _ _ node _ _ _ => nodeOk node
  | .neighbourTimeout _ => true
  | .linkDown _ => true
  | .linkUp _ => true
  | .linkDegraded _ _ => true
  | .lsaFlood => true
  | .lsa _ _ => true
  | .lsaExpiry => true
  | .assign _ _ node _ => nodeOk node
  | .verdict _ _ => true
  | .verdictInForce => true
  | .sync _ _ _ => true
  | .syncSend _ _ => true
  | .delayReq _ _ => true
  | .delayResp _ _ _ _ _ _ => true
  | .time _ _ => true
  | .alignmentTimer => true
  | .creamSend _ => true
  | .creamCellReceive _ _ src dst _ p => nodeOk src && nodeOk dst && decide (p.length ≤ 46)
  | .skimFrameReceive _ _ f => f.wf
  | .fbStatus r => r.wf
  | .fbTopology r => r.wf
  | .fbNodeAssign r => r.wf
  | .fbCableTest r => r.wf
  | .canFrameReceive _ f c _ => f.wf && cycleOk c
  | .canTxComplete _ _ _ => true
  | .canTxError _ _ _ => true
  | .canIntegrationDone _ => true
  | .canBusOffRecovery _ => true
  | .addressClaimTimeout _ => true
  | .transportTimeout _ peer _ => decide (peer < 256)
  | .canDominantTimeout _ _ _ => true
  | .cnStatus r => r.wf
  | .cnConfigRestart r => r.wf
  | .cnConfigReclaim r => r.wf
  | .cnSend r => r.wf
  | .cnCancel r => r.wf
  | .cnFilterSet r => r.wf
  | .micaAccess _ rs => rs.all (fun r => micaAddrOk r.addr && decide (r.master < 9))
  | .micaAtomic _ _ a _ => micaAddrOk a
  | .micaUncorrectable a _ => micaAddrOk a
  | .scrubLine _ _ _ => true
  | .bankPowerRequest _ _ => true
  | .bankZeroDone _ => true
  | .sharedRingTimer => true
  | .mapFlushPage => true
  | .mapMirrorPage _ => true
  | .wearCompaction _ => true
  | .tapCalibrationCopy => true
  | .converterSelfCalibration _ ch => decide (1 ≤ ch && ch ≤ 40)
  | .almanacCollection _ _ => true
  | .eventCompaction => true
  | .telemetry => true
  | .churnStarvation _ => true
  | .nandLifeCheck _ => true
  | .nandWriteDone _ _ => true
  | .mcStatus r => r.wf
  | .storeStatus r => r.wf
  | .mcBankState r => r.wf
  | .mapFlush r => r.wf
  | .snapshotQueueWrite _ => true
  | .fixedRecordWrite _ => true
  | .injectionEnd _ => true
  | .evRead r => r.wf
  | .evReadPriv r => r.wf
  | .evCount r => r.wf
  | .evClear r => r.wf
  | .inject r => r.wf
  | .injectClear r => r.wf
  | .injectList r => r.wf
  | .selftest r => r.wf
  | .motionSend => true
  | .motion _ _ => true
  | .supplyConditionChange _ _ => true
  | .updateBegin r => r.wf
  | .updateData r => r.wf
  | .updateStatus r => r.wf
  | .updateActivate r => r.wf
  | .updateConfirm r => r.wf
  | .updateAbortStaging r => r.wf
  | .updateAbortFallback r => r.wf
  | .updateAbortResolveAbort r => r.wf
  | .manifest _ _ => true
  | .chunk _ _ => true
  | .chunkForward => true
  | .ack _ _ => true
  | .nack _ _ => true
  | .staged _ _ => true
  | .prepare _ _ => true
  | .vote _ _ => true
  | .voteDeadline => true
  | .commitAbort _ _ => true
  | .decisionAck _ _ => true
  | .decisionResend => true
  | .resolve _ _ => true
  | .resolveResend => true
  | .confirmFallback _ _ => true
  | .commitFrameSwap => true
  | .resetAssert _ _ _ => true
  | .resetRelease _ => true
  | .supervisorWatchdogExpiry _ _ => true
  | .lockUp _ _ => true
  | .clockFailure _ => true
  | .optionTrimLoadDone => true
  | .vcoLock _ _ => true
  | .d4Release _ => true
  | .supervisorImageLoaded _ => true
  | .laneImageLoaded => true
  | .bootProfileActivation => true
  | .bootComplete _ => true
  | .bootTimeout _ => true
  | .l2RestartComplete => true
  | .l3UnitReset _ _ => true
  | .resetRequest r => r.wf
  | .resetRequestEffect _ => true
  | .lifecycleGet r => r.wf
  | .lifecycleSetTransition r => r.wf
  | .lifecycleSetProvisionKey r => r.wf
  | .lifecycleSetRevokeKey r => r.wf
  | .ownerLockSet r => r.wf
  | .ownerLockClear r => r.wf
  | .ownerLockPermitService r => r.wf
  | .permitServiceExpiry => true
  | .vsupReducedEntry _ _ => true
  | .vsupNormalReturn _ _ => true
  | .vbatLowEntry _ _ => true
  | .vbatHighEntry _ _ => true
  | .vbatNormalReturn _ _ => true
  | .vbatUvOvDetect _ _ => true
  | .sensorSupplyFault _ _ _ _ => true
  | .sensorSupplyRetry _ _ => true
  | .overTemperature _ _ => true
  | .stopInputChange _ _ => true
  | .stopDiscrepancy => true
  | .standbyEnter r => r.wf
  | .standbyDomainsOff _ => true
  | .standbyWake _ _ _ => true
  | .clkKeepStop => true
  | .powerStatus r => r.wf
  | .domainState r => r.wf
  | .spWrite r => r.wf
  | .spStatus r => r.wf
  | .panelUpdateStart _ => true
  | .panelPhaseEnd _ => true
  | .panelGuardEnd _ => true
  | .panelPinFault _ _ => true
  | .ainOutOfRange _ _ _ => true
  | .ainShuntReclose _ => true
  | .fqEdgeTimeout _ => true
  | .bridgeExcitationFault _ _ _ _ => true
  | .holdDutyWindowStep => true
  | .lsPwmPeriodStart _ _ => true
  | .opsecCount => true
  | .sensorSupplyShortRemoved _ => true
  | .lowSideThermalHysteresis _ _ => true

end Sys2Proof
end

