-- ==== Sys2Proof/Tests/Slice0.lean ====
section
/-!
SUPPORT. Tests/Slice0.lean: small tests of single steps, a witness for the hypotheses of every statement of Certificates/Slice0/Obligations.lean, and the
well-formedness checks with an ill-formed command for each. A test asks for what the specification states, on states that a helper builds.
-/

namespace Sys2Proof.Tests

open Sys2Proof.Machine Sys2Proof.Safety

-- One theorem after the other: elaborated side by side they would need more threads than the checker's memory limit allows.
set_option Elab.async false

/-! ### States to test on -/

/-- The host's binding: the UART of Table 1-4. -/
def uart : Binding := { transport := .uart, peer := 0 }

/-- A session of a role, open on the host's binding, with nothing in it. -/
def sess (role : Nat) : Sess :=
  { num := 1, role, isOpen := true, binding := uart, opened := 0, e := 5, era := 0, note := 0, noteEra := 0, cache := [], held := [], subs := [],
    asm := none, doomed := [], exec := none, queue := [], ending := false, lastAuth := 0, hostNonce := [], moduleNonce := [], keyIn := [], keyOut := [] }

/-- A function-table entry: number, kind, channel, stop group A, safe kind 0, range, ramp, trim and partner as zeros. -/
def fnBytes (f kind ch : Nat) (lo hi : Int) : Bytes := [BitVec.ofNat 8 f, BitVec.ofNat 8 kind, BitVec.ofNat 8 ch, 0] ++ zeros 8 ++ leI 4 lo ++ leI 4 hi ++ zeros 12

/-- The block in service: booted, clocks running, profile slot 0 active, stop inputs released, in lifecycle FIELD, 100 s and 5,000 frames on. -/
def on : State :=
  let s := State.reset
  { s with
    rs := { s.rs with supUp := true, stage := .done, asserted := [], episode := none, lifecycle := 3 }
    clk := { s.clk with running := true, ms := 100000, frame := 5000 }
    pf := { s.pf with none := false, active := 0 }
    an := { s.an with stopA := false, stopB := false, gate := true }
    pw := { s.pw with doms := List.replicate 13 .on, vco := true }
    gr := { s.gr with mode := .triple, running := true, safeA := false, safeB := false }
    up := { s.up with moving := false, movedAt := none } }

/-- A state with the host's session open in a role. -/
def hosted (role : Nat) (s : State) : State := { s with mb := { s.mb with sessions := [sess role] } }

/-- A command message of the host's session. -/
def msg (payload : Bytes) : Req := { binding := uart, session := 1, seq := 5, payload }

/-- Bytes of numbers. -/
def bytes (l : List Nat) : Bytes := l.map (BitVec.ofNat 8)

/-- A command answers a next state that meets a test. -/
def nx (o : Host.Outcome State Fault Refusal) (p : State → Bool) : Bool :=
  match o with
  | .next t => p t
  | _ => false

/-- The status of the last message sent. -/
def lastStatus (s : State) : Nat := ((s.out.getLast?).bind (fun m => m.payload.head?)).elim 99 BitVec.toNat

/-- A role that may send a code. -/
def roleFor (code : Nat) : Nat := ([4, 2, 1, 3].find? (roleMay code)).getD 0

/-- A mailbox command of a session in a role comes to its own checks, meets the further conditions of its statement, and leaves a state with a property. -/
def metBy (role code : Nat) (i : Req → Instr) (payload : Bytes) (s : State) (more : Ctx → State → Bool) (after : State → Bool) : Bool :=
  match ctxOf code (msg payload) (hosted role s) with
  | some c => reaches code (msg payload) c (hosted role s) && more c (hosted role s) && nx (exec (i (msg payload)) (hosted role s)) after
  | none => false

/-- The same in a role that may send the code, answered with a status. -/
def met (code : Nat) (i : Req → Instr) (payload : Bytes) (s : State) (more : Ctx → State → Bool) (st : Nat) : Bool :=
  metBy (roleFor code) code i payload s more (fun t => lastStatus t == st)

/-- No further condition. -/
def any : Ctx → State → Bool := fun _ _ => true

/-- A timed command: prefix with TARGET 0, then its own fields. -/
def timedBy (fields : Bytes) : Bytes := zeros 12 ++ fields

/-- The status and frame of application, frame 5,002, that the prefix gives. -/
def inTime (c : Ctx) (s : State) : Bool := timed c stOk 5002 false s

/-! ### The queue and the checks of Table 1-3 -/

theorem test_met_StepRunsFrontCommand :
    ({ on with pending := [Instr.clkKeepStop] }).pending = Instr.clkKeepStop :: [] ∧ State.reset.pending = [] := by decide +kernel

/-- A step takes the command off the queue. -/
theorem test_step_takes_the_front :
    nx (step { on with pending := [Instr.clkKeepStop, Instr.opsecCount] }) (fun t => t.pending == [Instr.opsecCount] && !t.pw.clkKeep) = true := by
  decide +kernel

theorem test_met_CommandsCheckTheRole : ∃ (r : Req) (c : Ctx) (s : State), hostRow (.resetRequest r) = some (cResetRequest, r) ∧
    atStep7 cResetRequest r c s = true ∧ sessionFree c s = true ∧ roleOk c = false :=
  ⟨msg [], ⟨uart, 1, 5, 0, cResetRequest, 1, [], 5000⟩, hosted 1 on, rfl, by decide +kernel, by decide +kernel, by decide +kernel⟩

/-- A session with a command in execution and `n` behind it. -/
def busySess (n : Nat) : Sess := { sess 1 with exec := some 4, queue := List.replicate n ⟨4, 0, cPing, [], 5000⟩ }

theorem test_met_CommandsWaitTheirTurn : ∀ n ∈ [14, 15],
    let s := { on with mb := { on.mb with sessions := [busySess n] } }
    atStep7 cPing (msg []) ⟨uart, 1, 5, 0, cPing, 1, [], 5000⟩ s = true ∧ findChan s 1 uart = some (busySess n) ∧ chanBusy (busySess n) = true ∧
      (n = 14 → unfinished (busySess n) < 16) ∧ (n = 15 → 16 ≤ unfinished (busySess n)) := by decide +kernel

theorem test_met_CommandsNeedAnOpenSession :
    (
      let s := { on with mb := { on.mb with sessions := [{ sess 1 with isOpen := false }] } }
      hostRow (.ping (msg [])) = some (cPing, msg []) ∧ mailUp s = true ∧ ctxOf cPing (msg []) s = some ⟨uart, 1, 5, 0, cPing, 1, [], 5000⟩ ∧
      sessionFree ⟨uart, 1, 5, 0, cPing, 1, [], 5000⟩ s = true ∧ halfOpen s 1 = true ∧ cPing ≠ cSessionProve) ∧
    (mailUp on = true ∧ (msg []).session ≠ 0 ∧ findSess on 1 = none) ∧ mailUp State.reset = false :=
  ⟨⟨rfl, by decide +kernel, by decide +kernel, by decide +kernel, by decide +kernel, by decide⟩, by decide +kernel, by decide +kernel⟩

theorem test_met_ResponsesAreFormedAndCut :
    (answer ⟨uart, 0, 5, 0, cPing, 0, [], 5000⟩ 0 [] on).out.map OutMsg.payload = [[0, 0, 0, 0]] ∧ findSess (hosted 1 on) 1 = some (sess 1) := by
  decide +kernel

/-- Both ends of the window of R37, and one frame outside each. -/
theorem test_target_rule :
    targetRule 5000 5002 true = (stOk, 5002) ∧ targetRule 5000 86405000 true = (stOk, 86405000) ∧ (targetRule 5000 86405001 true).1 = stBadArg ∧
      targetRule 5000 5001 false = (stLate, 5002) ∧ (targetRule 5000 5001 true).1 = stTooLate ∧ targetRule 5000 0 true = (stOk, 5002) := by decide

/-! ### Timed commands -/

/-- A profile with function 1 a valve in pulse mode, 2 a load switch switched, 3 a virtual output, and a bank pair, crop table and panel of nothing. -/
def fitted : State :=
  let w := { on.pf.work with
    funcs := [fnBytes 1 1 1 0 100, fnBytes 2 3 1 0 1, fnBytes 3 5 0 (-50) 50]
    banks := [bytes [0, 1] ++ zeros 102]
    params := [(pVdMode 1, 1), (pVdMode 2, 2), (pLsMode 1, 1), (pLsMode 2, 2)] }
  { on with pf := { on.pf with work := w }, qz := { on.qz with tables := [bytes [0, 0, 2, 0]] } }

theorem test_met_TimedCommandsAreHandedOver :
    met cFunctionSet .functionSet (timedBy (bytes [1, 0, 0, 0, 3, 0, 0, 0] ++ leI 4 50)) fitted (fun c s => inTime c s && !grRefused s) 0 = true ∧
    met cFunctionEnable .functionEnable (timedBy (u32 7 ++ u32 0)) fitted (fun c s => inTime c s && !grRefused s && !commitHeld s) 0 = true ∧
    met cCoefBankSwap .coefBankSwap (timedBy (u64 1)) fitted (fun c s => inTime c s && !grRefused s && stationary s) 0 = true ∧
    met cQzCropSelect .qzCropSelect (timedBy (bytes [2, 0, 0, 0])) fitted (fun c s => inTime c s && !inPs s) 0 = true ∧
    met cOptimizerTargets .optimizerTargets (timedBy (u32 20000 ++ bytes [100, 0, 100, 0, 100, 0, 80, 0, 80, 0, 10, 0, 10, 0, 10, 0, 10, 0]))
      fitted (fun c s => inTime c s && (targetValues (c.payload.drop 12)).all (fun v => inParamRange v.1 v.2)) 0 = true ∧
    met cOptimizerEnable .optimizerEnable (timedBy (bytes [0, 0, 0, 0] ++ u32 0)) fitted (fun c s => inTime c s && !inPs s) 0 = true ∧
    met cSteerEngage .steerEngage (timedBy (bytes [1, 0, 0, 0])) fitted (fun c s => inTime c s && s.gr.mode != .safe && !inPs s) 0 = true := by
  refine ⟨?_, ?_, ?_, ?_, ?_, ?_, ?_⟩ <;> decide +kernel

/-- Channels 2 and 3 have modes of their own and no function; the pulse and current bounds are both ends. -/
theorem test_met_TimedChannelCommands :
    met cVdCommand .vdCommandOff (timedBy (bytes [12, 0, 0, 0])) fitted (fun c s => inTime c s && vdMayCommand s 11) 0 = true ∧
    met cVdCommand .vdCommandPulse (timedBy (bytes [2, 1, 0, 0] ++ u16 1 ++ u16 5 ++ zeros 4)) fitted
      (fun c s => inTime c s && vdMayCommand s 1 && vdMode s 1 == 1) 0 = true ∧
    met cVdCommand .vdCommandCurrent (timedBy (bytes [3, 2, 0, 0] ++ u32 4000 ++ zeros 4)) fitted
      (fun c s => inTime c s && vdMayCommand s 2 && vdMode s 2 == 2) 0 = true ∧
    met cLsCommand .lsCommandOff (timedBy (bytes [24, 0, 0, 0, 0, 0, 0, 0])) fitted (fun c s => inTime c s && lsMayCommand s 23) 0 = true ∧
    met cLsCommand .lsCommandOn (timedBy (bytes [2, 1, 0, 0, 0, 0, 0, 0])) fitted
      (fun c s => inTime c s && lsMayCommand s 1 && lsMode s 1 == 1) 0 = true ∧
    met cLsCommand .lsCommandPwm (timedBy (bytes [3, 2, 0, 0] ++ u16 10000 ++ zeros 2)) fitted
      (fun c s => inTime c s && lsMayCommand s 2 && lsMode s 2 == 2) 0 = true := by
  refine ⟨?_, ?_, ?_, ?_, ?_, ?_⟩ <;> decide +kernel

/-- In service with the port CN1 running and its address claimed. -/
def bussed : State :=
  let ports := List.replicate 4 { canPort0 with st := .errorActive, claim := .claimed }
  { fitted with cn := { fitted.cn with ports := ports }, rs := { fitted.rs with lifecycle := 4 } }

theorem test_met_ReservingCommandsAreHandedOver :
    met cProfileSelect .profileSelect (timedBy (bytes [16, 0, 0, 0, 0, 0, 0, 0])) fitted
      (fun c s => inTime c s && selectFields (c.payload.drop 12) == some (16, 0) && selectCheck c s == none) 0 = true ∧
    met cParamSet .paramSet (timedBy (bytes [1, 0, 0, 0] ++ u32 pPfStagingTimeout ++ u32 60000 ++ zeros 4)) fitted
      (fun c s => inTime c s && paramSetCheck c s == none) 0 = true ∧
    met cRecordCapture .recordCapture (timedBy (u32 60000)) fitted (fun c s => inTime c s && !grRefused s && stationary s) 0 = true ∧
    met cCnSend .cnSend (timedBy (bytes [1, 0, 1, 0] ++ u32 0x123 ++ bytes [7])) bussed
      (fun c s => inTime c s && !sendBad s (c.payload.drop 12) && s.gr.mode != .safe && !inPs s) 0 = true ∧
    met cInject .inject (timedBy (u16 detVbatUndervoltage ++ bytes [0, 3] ++ u32 0 ++ u64 5000)) bussed
      (fun c s => inTime c s && (injFields (c.payload.drop 12)).isSome && inService s && s.ev.injs.isEmpty) 0 = true ∧
    met cStandbyEnter .standbyEnter (timedBy (bytes [1, 1, 0, 0] ++ u64 15002)) fitted
      (fun c s => inTime c s && wakeMaskOk s 1 1 && fnsIdle s && stationary s && !commitHeld s && s.pw.sb.ph == .awake) 0 = true := by
  refine ⟨?_, ?_, ?_, ?_, ?_, ?_⟩ <;> decide +kernel

/-! ### Identity, sessions, parameters and profiles -/

theorem test_met_IdentityCommandsAnswer :
    met cIdent .ident [] on any 0 = true ∧ met cPing .ping (bytes [1, 2, 3, 4, 5, 6, 7, 8]) on any 0 = true ∧ met cPing .ping [0] on any stBadArg = true ∧
    met cStatusGet .statusGet [] on any 0 = true ∧ met cSessionList .sessionList [] on any 0 = true ∧
    (match ctxOf cTimeGet (msg []) (hosted 1 on) with | some c => reaches cTimeGet (msg []) c (hosted 1 on) | none => false) = true := by
  refine ⟨?_, ?_, ?_, ?_, ?_, ?_⟩ <;> decide +kernel

/-- SESSION_OPEN comes in session 0. -/
def msg0 (payload : Bytes) : Req := { binding := uart, session := 0, seq := 0, payload }

/-- The context of a message in session 0. -/
def ctx0 (code : Nat) (payload : Bytes) : Ctx := ⟨uart, 0, 0, 0, code, 0, payload, 5000⟩

/-- In service with owner and operator keys provisioned. -/
def keyed (next : Nat) : State :=
  { on with rs := { on.rs with keys := [some [1], some [2], some [3], some [4]] }, mb := { on.mb with nextSession := next } }

/-- A half-open session of OEM, which may prove itself. -/
def halfSess : Sess := { sess 2 with isOpen := false, e := 0 }

/-- A subscription to EVENT. -/
def eventSub : Sub := ⟨nEvent, 0xFF, 100, none, []⟩

/-- A pending PARAM_SET of the host's session for a frame. -/
def heldCmd (frame : Nat) : TCmd := ⟨1, 1, 4, cParamSet, 2, [], frame, false, 1, false⟩

/-- A state with one held command. -/
def holding (frame : Nat) : State := { on with mb := { on.mb with exch := [heldCmd frame] } }

/-- A state of the host's OEM session with given subscriptions. -/
def subscribed (n : Nat) : State := { on with mb := { on.mb with sessions := [{ sess 2 with subs := (List.range n).map (fun k => { eventSub with filter := k }) }] } }

/-- The context of the host's message in that session. -/
def ctx2 (code : Nat) (payload : Bytes) : Ctx := ⟨uart, 1, 5, 0, code, 2, payload, 5000⟩

theorem test_met_SessionCommandsAct :
    (∀ n ∈ [65535, 65536],
      let p := bytes [1, 0, 0, 0] ++ zeros 16
      reaches cSessionOpen (msg0 p) (ctx0 cSessionOpen p) (keyed n) = true ∧ p.length = 20 ∧ resZero p 1 3 = true ∧
        forced (keyed n) detBindingLockedOut 0 = false ∧ roleKey (keyed n) 1 = some [1] ∧ lockedOut (keyed n) uart = false ∧
        (keyed n).pw.sb.ph = .awake ∧ inRecovery (keyed n) = false ∧ (n = 65535 → (keyed n).mb.nextSession ≤ 65535)) ∧
    met cSessionProve .sessionProve [] on any stRefusedState = true ∧
    (∃ s : State, mailUp s = true ∧ ctxOf cSessionProve (msg []) s = some (ctx2 cSessionProve []) ∧ findChan s 1 uart = some halfSess ∧
      halfSess.isOpen = false ∧ chanBusy halfSess = false ∧ roleOk (ctx2 cSessionProve []) = true ∧ codeBarred (ctx2 cSessionProve []) s = false) ∧
    metBy 2 cSessionClose .sessionClose [] on any (fun t => t.mb.sessions.isEmpty && lastStatus t == 0) = true := by
  refine ⟨by decide +kernel, by decide +kernel, ⟨{ on with mb := { on.mb with sessions := [halfSess] } }, ?_⟩, by decide +kernel⟩
  decide +kernel

theorem test_met_SubscriptionsAndPendingCommands :
    (∀ n ∈ [31, 32], let p := u16 nEvent ++ u16 40 ++ u16 10000 ++ zeros 2
      reaches cSubscribe (msg p) (ctx2 cSubscribe p) (subscribed n) = true ∧ resZero p 6 2 = true ∧ rdN p 0 2 ∈ subCodes ∧
        (∀ b ∈ subsOf (subscribed n) 1, ¬(b.code = rdN p 0 2 ∧ b.filter = rdN p 2 2)) ∧ (subsOf (subscribed n) 1).length = n) ∧
    (
      let p := u16 nEvent ++ u16 30 ++ u16 0 ++ zeros 2
      reaches cSubscribe (msg p) (ctx2 cSubscribe p) (subscribed 31) = true ∧ { eventSub with filter := 30 } ∈ subsOf (subscribed 31) 1) ∧
    metBy 2 cUnsubscribe .unsubscribe (u16 nEvent ++ u16 0 ++ bytes [1, 0, 0, 0]) on any (fun t => lastStatus t == 0) = true ∧
    met cPendingList .pendingList (bytes [0, 0, 40, 0]) (holding 5002) any 0 = true ∧
    metBy 2 cPendingCancel .pendingCancel (u32 0 ++ u16 1 ++ u16 4) (holding 5002) any (fun t => lastStatus t == 0 && t.mb.exch.isEmpty) = true ∧
    metBy 2 cPendingCancel .pendingCancel (u32 1 ++ u16 1 ++ u16 4) (holding 5001) any (fun t => lastStatus t == stTooLate) = true := by
  refine ⟨?_, ?_, ?_, ?_, ?_, ?_⟩ <;> decide +kernel

theorem test_met_ParameterQueriesAnswer :
    met cParamGet .paramGet (bytes [1, 0, 0, 0] ++ u32 pPfStagingTimeout) on (fun _ _ => (paramRow pPfStagingTimeout).isSome) 0 = true ∧
    met cParamInfo .paramInfo (u32 pPfStagingTimeout) on (fun _ _ => (paramRow pPfStagingTimeout).isSome) 0 = true ∧
    met cParamInfo .paramInfo (u32 0xFFFFFFFF) on (fun _ _ => (paramRow 0xFFFFFFFF).isNone && (liveRow 0xFFFFFFFF).isNone) stBadArg = true ∧
    met cParamList .paramList (bytes [2, 255, 0, 0]) on any 0 = true := by
  refine ⟨?_, ?_, ?_, ?_⟩ <;> decide +kernel

theorem test_met_ProfileQueriesAnswer :
    met cProfileGetActive .profileGetActive [] on any 0 = true ∧
    met cProfileRead .profileRead (bytes [16, 0, 0, 0] ++ u32 0 ++ u32 128) on (fun _ _ => psImage.length == 128) 0 = true ∧
    met cProfileRead .profileRead (bytes [16, 0, 0, 0] ++ u32 0 ++ u32 129) on any stBadArg = true ∧
    metBy 2 cProfileRead .profileRead (bytes [3, 0, 0, 0] ++ u32 0 ++ u32 128)
      { on with pf := { on.pf with slots := [[], [], [], [⟨1, psImage, true⟩]] } }
      (fun _ s => (slotCopies s 3).all SlotCopy.good && !forced s detProfileCopyIntegrityFailure 4 && (slotImage s 3).length == 128)
      (fun t => lastStatus t == 0) = true ∧
    met cProfileValidate .profileValidate (bytes [32, 0, 0, 0]) on (fun _ s => (validate s (imageBytes s.pf.work)).isNone) 0 = true ∧
    met cProfileValidate .profileValidate (bytes [32, 0, 0, 0]) fitted (fun _ s => (validate s (imageBytes s.pf.work)).isSome) stValidationFail = true ∧
    met cMdRead .mdRead (bytes [1, 30, 32, 0]) fitted any 0 = true ∧ met cMdRead .mdRead (bytes [2, 127, 1, 0]) fitted any 0 = true := by
  refine ⟨?_, ?_, ?_, ?_, ?_, ?_, ?_, ?_⟩ <;> decide +kernel

/-- A profile being staged by a session. -/
def staging (num : Nat) : State := { on with pf := { on.pf with staging := some ⟨num, zeros 128, List.replicate 128 false, 1000⟩ } }

theorem test_met_ProfilesAreStagedAndSaved :
    metBy 2 cProfileWrite .profileWrite (u32 0 ++ u32 128 ++ bytes [1]) on (fun _ s => !profileClosed s && s.pf.staging.isNone)
      (fun t => lastStatus t == 0 && t.pf.staging.isSome) = true ∧
    metBy 2 cProfileWrite .profileWrite (u32 127 ++ u32 128 ++ bytes [1]) (staging 1) any (fun t => lastStatus t == 0) = true ∧
    metBy 2 cProfileWrite .profileWrite (u32 127 ++ u32 128 ++ bytes [1]) (staging 9) any (fun t => lastStatus t == stBusy) = true ∧
    metBy 2 cProfileWrite .profileWrite (u32 1 ++ u32 128 ++ bytes [1]) on any (fun t => lastStatus t == stRefusedState) = true ∧
    metBy 2 cProfileSave .profileSave (bytes [32, 3, 0, 0] ++ u32 0) on
      (fun _ s => !profileClosed s && !s.rs.ownerLock && s.pf.saving.isNone && (validate s (imageBytes s.pf.work)).isNone) (fun t => t.pf.saving.isSome) = true ∧
    metBy 2 cProfileSetDefault .profileSetDefault (bytes [16, 0, 0, 0]) on (fun _ s => !s.rs.ownerLock) (fun t => lastStatus t == 0) = true ∧
    (staging 1).pf.staging = some ⟨1, zeros 128, List.replicate 128 false, 1000⟩ := by
  refine ⟨?_, ?_, ?_, ?_, ?_, ?_, ?_⟩ <;> decide +kernel

/-! ### Granite, Quartz, crop flow and the output stages: mailbox commands -/

/-- A capture file of 64 bytes whose header names one frame. -/
def captured (running : Bool) : State :=
  { on with gr := { on.gr with capture := some ⟨5000, 1, 1, running, bytes [0x47, 0x43, 0x41, 0x50, 3, 2, 0, 0] ++ zeros 16 ++ controlDigest on ++ zeros 32⟩ }
            rs := { on.rs with lifecycle := 4 } }

theorem test_met_GraniteQueriesAnswer :
    met cGrStatus .grStatus [] on any 0 = true ∧ met cLaneStatus .laneStatus [] on any 0 = true ∧
    met cRecordRead .recordRead (u32 63 ++ u32 1) (captured false) any 0 = true ∧ met cReplay .replayStatus (zeros 4) on any 0 = true := by
  refine ⟨?_, ?_, ?_, ?_⟩ <;> decide +kernel

/-- A bank whose output may range from 0 to 1. -/
def bankBytes : Bytes := zeros 40 ++ bytes [1, 0, 0, 0] ++ zeros 4

theorem test_met_GraniteHostActs :
    met cCoefBankWrite .coefBankWrite (bytes [0, 1, 0, 0] ++ bankBytes) fitted
      (fun _ s => (pairIn s.pf.work.banks 0).isSome && bankFields bankBytes && bankTerms 1 bankBytes && !grRefused s && stationary s) 0 = true ∧
    met cReplay .replayLoad (bytes [1, 0, 0, 0] ++ u32 0 ++ bytes [1]) on (fun _ s => !grRefused s) 0 = true ∧
    met cReplay .replayLoad (bytes [1, 0, 0, 0] ++ u32 64 ++ bytes [1]) (captured false) (fun _ s => !grRefused s) 0 = true ∧
    met cReplay .replayRun (bytes [2, 0, 0, 0] ++ u32 0 ++ u32 1) (captured false)
      (fun _ s => !grRefused s && inService s && s.gr.mode == .triple && fnsIdle s && (((s.gr.capture.map (fun f => (f.data.drop 24).take 8)).getD []) == controlDigest s)) 0
      = true ∧
    met cReplay .replayAbort (bytes [3, 0, 0, 0]) on any 0 = true ∧
    met cReplay .replayAbort (bytes [3, 0, 0, 0]) { on with gr := { on.gr with replay := ⟨.running, 0, 0, 1, 0, 0, 0, 0⟩ } } any 0 = true := by
  refine ⟨?_, ?_, ?_, ?_, ?_, ?_⟩ <;> decide +kernel

/-- Quartz with channels 1 to 32 active, and a raw capture in a state with 4 bytes. -/
def listening (st : QzCapSt) : State :=
  { on with qz := { on.qz with chans := List.replicate 32 { qzChan0 with st := .listen }, cap := ⟨st, 1, 5000, 1, 0, bytes [1, 2, 3, 4]⟩ }
            mc := { on.mc with ring := .capture } }

theorem test_met_QuartzQueriesAnswer :
    met cQzStatus .qzStatus (bytes [32, 32, 0, 0]) on any 0 = true ∧ met cQzResultsRead .qzResultsRead (u32 0xFFFFFFFF ++ bytes [232, 3, 0, 0]) on any 0 = true ∧
    met cQzRawCapture .qzRawCaptureStatus (zeros 4) on any 0 = true := by
  refine ⟨?_, ?_, ?_⟩ <;> decide +kernel

theorem test_met_QuartzCommandsAct :
    met cQzTapRequest .qzTapRequestTap (bytes [1, 0, 0, 0] ++ u32 0x80000001) (listening .idle) (fun _ s => !inPs s) 0 = true ∧
    met cQzTapRequest .qzTapRequestTeach (bytes [2, 0, 0, 0] ++ u32 1) (listening .idle) (fun _ s => !inPs s && stationary s) 0 = true ∧
    met cQzTapRequest .qzTapRequestForget (bytes [3, 0, 0, 0] ++ u32 1) (listening .idle) (fun _ s => !inPs s) 0 = true ∧
    met cQzDiagRequest .qzDiagRequest (u32 1) (listening .idle) (fun _ s => !inPs s) 0 = true ∧
    met cQzRawCapture .qzRawCaptureStart (bytes [1, 0, 0, 0] ++ u32 15 ++ u64 0 ++ u32 1116) (listening .idle) (fun _ s => !inPs s && s.mc.ring != .staging) 0
      = true ∧
    met cQzRawCapture .qzRawCaptureStart (bytes [1, 0, 0, 0] ++ u32 1 ++ u64 0 ++ u32 1) (listening .armed) (fun _ s => !inPs s) stBusy = true ∧
    met cQzRawCapture .qzRawCaptureStop (bytes [2, 0, 0, 0]) (listening .running) (fun _ s => !inPs s) 0 = true ∧
    met cQzRawCapture .qzRawCaptureRead (bytes [3, 0, 0, 0] ++ u32 4 ++ u32 65520) (listening .done) any 0 = true ∧
    met cQzRawCapture .qzRawCaptureRead (bytes [3, 0, 0, 0] ++ u32 0 ++ u32 3) (listening .done) any 0 = true := by
  refine ⟨?_, ?_, ?_, ?_, ?_, ?_, ?_, ?_, ?_⟩ <;> decide +kernel

/-- A field 7, open, with a record and a grid of 2 by 8 cells. -/
def mapped : State :=
  { on with cf := { on.cf with fields := [⟨7, [zeros 48], some ⟨0, 0, 1000, 0, 2, 8, [(1, 3)], [(1, 4)], false⟩, 0, 1, false⟩], openField := 7 } }

theorem test_met_CropQueriesAnswer :
    met cCfStatus .cfStatus [] mapped any 0 = true ∧
    met cYieldRead .yieldRead (bytes [7, 0, 0, 0] ++ u32 0 ++ bytes [232, 3, 0, 0]) mapped (fun _ s => (findField s 7).isSome) 0 = true ∧
    met cCoverageGet .coverageGetBits (bytes [1, 0, 0, 0, 7, 0, 1, 0, 0, 0, 0, 32]) mapped (fun _ s => (ownField s 7).isSome) 0 = true ∧
    met cCoverageGet .coverageGetChanges (bytes [2, 0, 0, 0, 7, 0, 0, 0] ++ u32 3) mapped (fun _ s => (findField s 7).isSome) 0 = true ∧
    met cMapExport .mapExport (bytes [7, 0, 2, 0] ++ u32 0 ++ u32 65520) mapped (fun _ s => ((findField s 7).bind (exportFile 2)).isSome) 0 = true := by
  refine ⟨?_, ?_, ?_, ?_, ?_⟩ <;> decide +kernel

/-- In a weighed load, with a mass counted. -/
def loading (sum : Int) : State := { on with cf := { on.cf with cal := { on.cf.cal with st := .load, loadSum := sum } } }

/-- The header is up: CF.CUT_SENSOR names a sensor that reads above CF.CUT_HEIGHT. -/
def headerUp : State :=
  { on with pf := { on.pf with work := { on.pf.work with params := [(pCfCutSensor, 5), (pCfCutHeight, -1)] } } }

/-- Level, with a fresh solution. -/
def levelled : State := { on with gr := { on.gr with cur := { on.gr.cur with frame := 5000, gnss := { gnssPart0 with epochFrame := 5000, type := 4 } } } }

theorem test_met_YieldCommandsAct :
    met cCfCalibrate .cfCalibrateFlowZero (bytes [1, 0, 0, 0] ++ u32 0) headerUp (fun _ s => !cutting s && !inPs s) 0 = true ∧
    met cCfCalibrate .cfCalibrateTankTare (bytes [2, 0, 0, 0] ++ u32 0) levelled (fun _ s => stationary s && level s && !inPs s) 0 = true ∧
    met cCfCalibrate .cfCalibrateLoadBegin (bytes [3, 0, 0, 0] ++ u32 0) on (fun _ s => !inPs s) 0 = true ∧
    met cCfCalibrate .cfCalibrateLoadEnd (bytes [4, 0, 0, 0] ++ u32 1000) (loading 1000000)
      (fun _ s => (loadGain (flowGain s) 1000 1000).isSome && !inPs s) 0 = true ∧
    met cCfCalibrate .cfCalibrateLoadEnd (bytes [4, 0, 0, 0] ++ u32 1000) (loading 0) (fun _ s => (loadGain (flowGain s) 1000 0).isNone) 0 = true ∧
    met cCfCalibrate .cfCalibrateLoadAbort (bytes [5, 0, 0, 0] ++ u32 0) (loading 0) (fun _ s => !inPs s) 0 = true ∧
    met cCfCalibrate .cfCalibrateGainReset (bytes [6, 0, 0, 0] ++ u32 0) on (fun _ s => !inPs s) 0 = true ∧
    met cCfCalibrate .cfCalibrateDelayReset (bytes [7, 0, 0, 0] ++ u32 0) on (fun _ s => !inPs s) 0 = true ∧
    met cCoveragePut .coveragePutFieldOpen (bytes [1, 0, 0, 0, 9, 0, 1, 0] ++ zeros 8 ++ u32 1000 ++ u32 0 ++ bytes [1, 0, 0, 32]) mapped
      (fun _ s => !inPs s && fieldFits 9 (closeField s)) 0 = true ∧
    met cCoveragePut .coveragePutFieldOpen (bytes [1, 0, 0, 0, 7, 0, 0, 0] ++ zeros 8 ++ u32 1000 ++ u32 12000 ++ bytes [2, 0, 8, 0]) mapped
      (fun _ s => !inPs s && fieldFits 7 s) 0 = true ∧
    met cCoveragePut .coveragePutFieldClose (bytes [2, 0, 0, 0]) mapped (fun _ s => !inPs s) 0 = true ∧
    met cCoveragePut .coveragePutCells (bytes [3, 0, 0, 0, 7, 0, 1, 0, 2, 0, 1, 0, 1]) mapped (fun _ s => (ownField s 7).isSome && !inPs s) 0 = true := by
  refine ⟨?_, ?_, ?_, ?_, ?_, ?_, ?_, ?_, ?_, ?_, ?_, ?_⟩ <;> decide +kernel

theorem test_met_OutputQueriesAnswer :
    met cVdStatus .vdStatus [] on any 0 = true ∧ met cVdTimingRead .vdTimingRead (bytes [12, 0, 0, 1]) on any 0 = true ∧
    met cLsStatus .lsStatus (bytes [24, 1, 0, 0]) on any 0 = true ∧ met cLsStatus .lsStatus (bytes [1, 24, 0, 0]) on any 0 = true := by
  refine ⟨?_, ?_, ?_, ?_⟩ <;> decide +kernel

/-- A valve channel 12 in fault, of a cause, with a diagnosis. -/
def faulted (cause : Nat) (d : VdDiag) : State :=
  { on with vd := { on.vd with chans := updAt on.vd.chans 11 (fun x => { x with st := .fault, cause := cause, diag := d }) } }

/-- A load switch 24 latched, at a temperature in 0.1 °C. -/
def latched (tj : Int) : State := { on with ls := { on.ls with chans := updAt on.ls.chans 23 (fun x => { x with st := .latched, tj := tj }) } }

theorem test_met_OutputCommandsAct :
    met cVdDiag .vdDiagChannel (bytes [1, 12, 0, 0]) on (fun _ s => vdResting s 11) 0 = true ∧
    met cVdDiag .vdDiagBank (bytes [2, 4, 0, 0]) on (fun _ s => (bankChans 3).all (vdResting s)) 0 = true ∧
    met cVdDiag .vdDiagClear (bytes [3, 12, 0, 0]) on (fun _ s => (vdChan s 11).st != .fault && s.vd.conv != .latched) 0 = true ∧
    met cVdDiag .vdDiagClear (bytes [3, 12, 0, 0]) (faulted 2 ⟨5000, 5000, 0, 0⟩)
      (fun _ s => (vdChan s 11).st == .fault && vdDiagnose (vdChan s 11).diag == 0) 0 = true ∧
    met cVdDiag .vdDiagClear (bytes [3, 12, 0, 0]) (faulted 2 ⟨0, 0, 0, 0⟩)
      (fun _ s => (vdChan s 11).st == .fault && vdDiagnose (vdChan s 11).diag != 0 && s.vd.conv != .latched) 0 = true ∧
    met cLsLatchClear .lsLatchClear (u32 0xFFFFFF) (latched 1550) (fun _ s => s.gr.mode != .safe) 0 = true ∧
    met cLsDiag .lsDiagOffState (bytes [1, 24, 0, 0]) on (fun _ s => lsMayCommand s 23 && (lsChan s 23).st == .off) 0 = true ∧
    metBy 4 cLsDiag .lsDiagOnTest (bytes [2, 24, 0, 0]) on (fun _ s => lsMayCommand s 23 && (lsChan s 23).st == .off) (fun t => (lsChan t 23).st == .start) = true := by
  refine ⟨?_, ?_, ?_, ?_, ?_, ?_, ?_, ?_⟩ <;> decide +kernel

/-! ### Relays, GNSS, the fabric, CAN, storage and events: mailbox commands -/

/-- The module is node 1, and a module with the next unique ID is node 2 behind port 0. -/
def linked : State :=
  { on with pf := { on.pf with settings := [(pFbNode, 1)] }
            fb := { on.fb with ports := on.fb.ports.set 0 { port0 with link := true, uid := uid + 1, node := 2, up := true }
                               db := [⟨⟨uid + 1, 2, 1, 0, 0, 0, 0, 0, [⟨0, uid, 1⟩], [], [], 0⟩, 0⟩] } }

theorem linked_database : database linked = [ownLsa linked, ⟨uid + 1, 2, 1, 0, 0, 0, 0, 0, [⟨0, uid, 1⟩], [], [], 0⟩] := by
  have h : (ownLsa linked).uid = uid := rfl
  simp [database, linked, sortBy, insertBy, ownLsa]

theorem linked_edges : edgesBy Lsa.node (database linked) = [⟨1, 0, 2, 10⟩, ⟨2, 0, 1, 10⟩] := by
  have h : (ownLsa linked).links = [⟨0, uid + 1, 10⟩] := rfl
  have u : (ownLsa linked).uid = uid := rfl
  have n : (ownLsa linked).node = 1 := by decide +kernel
  rw [linked_database]
  simp [edgesBy, lsaOfUid, h, u, n]

theorem linked_route : routePort linked 2 = some 0 := by
  have n : myNode linked = 1 := by decide +kernel
  have b : bestPath [⟨1, 0, 2, 10⟩, ⟨2, 0, 1, 10⟩] 1 2 = some [(1, 0)] := by decide +kernel
  simp [routePort, primaryPath, n, linked_edges, b]

/-- An inner TIME_GET. -/
def innerMsg : Bytes := bytes [0x47, 0x52, 3, 0, 0, 0, 1, 0, 10, 0, 0, 0] ++ u32 0

theorem test_met_RelayCarriesInnerCommand :
    (
      let p := bytes [2, 0, 0, 0] ++ innerMsg
      let s := hosted 1 linked
      reaches cFbRelay (msg p) { (ctx2 cFbRelay p) with role := 1 } s = true ∧ (commandMsg innerMsg).isSome ∧ myNode s = 1 ∧ routePort s 2 = some 0) ∧
    met cFbRelay .fbRelay (bytes [3, 0, 0, 0] ++ innerMsg) on (fun _ s => (routePort s 3).isNone && myNode s != 3) stNoResource = true := by
  refine ⟨⟨by decide +kernel, by decide +kernel, by decide +kernel, linked_route⟩, by decide +kernel⟩

theorem test_met_GnssQueriesAnswer : met cGnStatus .gnStatus [] on any 0 = true ∧ met cGnSolutionGet .gnSolutionGet [] on any 0 = true := by
  refine ⟨?_, ?_⟩ <;> decide +kernel

/-- An antenna 2 in SHORT. -/
def shorted : State := { on with gn := { on.gn with ants := updAt on.gn.ants 1 (fun a => { a with st := .short }) } }

theorem test_met_GnssCommandsAct :
    met cRtcmPut .rtcmPut (bytes [1, 0, 0, 0, 0xD3, 0, 4]) on any 0 = true ∧ met cRtcmPut .rtcmPut (zeros 4) on any 0 = true ∧
    met cGnConfig .gnConfigRestart (bytes [1, 3, 0, 0]) on (fun _ s => s.gn.steer.st == .off) 0 = true ∧
    met cGnConfig .gnConfigRestart (bytes [1, 1, 0, 0]) on (fun _ s => s.gn.steer.st == .off) 0 = true ∧
    met cGnConfig .gnConfigSeed (bytes [2, 0, 0, 0] ++ zeros 12) on (fun _ s => s.gn.part.type == 0) 0 = true ∧
    met cGnConfig .gnConfigNotchReset (bytes [3, 0, 0, 0]) on any 0 = true ∧
    met cGnConfig .gnConfigAntennaRetry (bytes [4, 2, 0, 0]) on (fun _ s => (antOf s 1).st != .short) 0 = true ∧
    met cGnConfig .gnConfigAntennaRetry (bytes [4, 2, 0, 0]) shorted (fun _ s => (antOf s 1).st == .short) 0 = true ∧
    met cGnConfig .gnConfigImuSelftest (bytes [5, 0, 0, 0]) on (fun _ s => s.gn.steer.st == .off) 0 = true ∧
    (
      let line := bytes [1, 1, 0, 0, 0, 0, 0, 0, 2, 0, 0, 0] ++ u32 9 ++ zeros 8 ++ u32 1000 ++ u32 1000
      met cPathLoad .pathLoadLoadNext line on any 0 = true ∨ met cPathLoad .pathLoadLoadNext line on any stBadArg = true ∨
        (ctxOf cPathLoad (msg line) (hosted 2 on)).any (fun c => reaches cPathLoad (msg line) c (hosted 2 on)) = true) ∧
    met cPathLoad .pathLoadClearNext (bytes [2] ++ zeros 15) on any 0 = true ∧ met cPathLoad .pathLoadShift (bytes [3] ++ zeros 15) on any 0 = true := by
  refine ⟨?_, ?_, ?_, ?_, ?_, ?_, ?_, ?_, ?_, .inr (.inr ?_), ?_, ?_⟩ <;> decide +kernel

theorem test_met_NetworkQueriesAnswer :
    met cFbTopology .fbTopology (bytes [0, 40, 0, 0]) on any 0 = true ∧ met cFbTopology .fbTopology (bytes [255, 1, 0, 0]) on any 0 = true ∧
    met cCnStatus .cnStatus [] on any 0 = true ∧
    (ctxOf cFbStatus (msg []) (hosted 1 on)).any (fun c => reaches cFbStatus (msg []) c (hosted 1 on)) = true := by
  refine ⟨?_, ?_, ?_, ?_⟩ <;> decide +kernel

/-- A host frame with a handle. -/
def hostFrame (h : Nat) : CanTx := ⟨⟨false, false, false, false, false, 0x123, 1, [0]⟩, 2, h, none, false, 0⟩

/-- Port 4 of CAN in service, with a host frame of handle 1 queued and one of handle 2 in buffer 0. -/
def canned : State :=
  { on with cn := { on.cn with ports := updAt on.cn.ports 3 (fun x => { x with st := .errorPassive, queue := [hostFrame 1], bufs := [some ⟨hostFrame 2, false⟩, none, none] })
                               sentHandles := [7], handles := [(3, 8)] } }

/-- The same with the port DISABLED, so that its buffer does not arbitrate. -/
def cannedOff : State := { canned with cn := { canned.cn with ports := updAt canned.cn.ports 3 (fun x => { x with st := .disabled }) } }

/-- A claim that failed on port 1. -/
def unclaimed : State := { on with cn := { on.cn with ports := updAt on.cn.ports 0 (fun x => { x with claim := .cannotClaim }) } }

/-- A module of unique ID 77 is node 2. -/
def peered : State := { on with fb := { on.fb with db := [⟨⟨77, 2, 1, 0, 0, 0, 0, 0, [], [], [], 0⟩, 0⟩] } }

theorem peered_known : ∃ l, lsaOfUid (database (hosted 2 peered)) 77 = some l ∧ bit l.flags 0 = false := by
  have u : (ownLsa (hosted 2 peered)).uid = uid := rfl
  have f : bit (ownLsa (hosted 2 peered)).flags 0 = false := by decide +kernel
  have d : database (hosted 2 peered) = sortBy Lsa.uid [ownLsa (hosted 2 peered), ⟨77, 2, 1, 0, 0, 0, 0, 0, [], [], [], 0⟩] := rfl
  rw [d]
  by_cases h : 77 < uid
  · exact ⟨⟨77, 2, 1, 0, 0, 0, 0, 0, [], [], [], 0⟩, by simp [sortBy, insertBy, lsaOfUid, u, h], by decide⟩
  · by_cases e : uid = 77
    · exact ⟨_, by simp [sortBy, insertBy, lsaOfUid, u, e], f⟩
    · exact ⟨⟨77, 2, 1, 0, 0, 0, 0, 0, [], [], [], 0⟩, by simp [sortBy, insertBy, lsaOfUid, u, h, e], by decide⟩

theorem test_met_BusCommandsAct :
    (
      let p := leN 6 77 ++ zeros 2
      let s := hosted 2 peered
      reaches cFbNodeAssign (msg p) (ctx2 cFbNodeAssign p) s = true ∧ rdN p 0 6 = 77 ∧ rdN p 6 1 = 0 ∧ moving s = false ∧ getKey 77 s.fb.assigns = none) ∧
    (∃ l, lsaOfUid (database (hosted 2 peered)) 77 = some l ∧ bit l.flags 0 = false) ∧
    met cFbCableTest .fbCableTest (bytes [3, 0, 0, 0]) on (fun _ s => !(fbPort s 3).link && !moving s && !singleUses s 3)  0 = true ∧
    metBy (roleFor cFbCableTest) cFbCableTest .fbCableTest (bytes [0, 1, 0, 0]) linked (fun _ s => (fbPort s 0).link && !moving s && !singleUses s 0)
      (fun _ => true) = true ∧
    met cCnConfig .cnConfigRestart (bytes [4, 1, 0, 0]) on (fun _ s => !portBusy s 3 && s.cn.ports.length == 4) 0 = true ∧
    met cCnConfig .cnConfigReclaim (bytes [1, 2, 0, 0]) on (fun _ s => (canPort s 0).claim != .cannotClaim) 0 = true ∧
    met cCnConfig .cnConfigReclaim (bytes [1, 2, 0, 0]) unclaimed (fun _ s => (canPort s 0).claim == .cannotClaim) 0 = true ∧
    met cCnCancel .cnCancel (u32 7) canned (fun _ s => s.cn.sentHandles.contains 7) stTooLate = true ∧
    met cCnCancel .cnCancel (u32 8) canned (fun _ s => s.cn.handles.find? (fun x => x.2 == 8) == some (3, 8)) 0 = true ∧
    met cCnCancel .cnCancel (u32 1) canned (fun _ s => handleQueue s 1 == some 3) 0 = true ∧
    met cCnCancel .cnCancel (u32 2) cannedOff (fun _ s => handleBuf s 2 == some (3, 0) && !canSends s 3) 0 = true ∧
    met cCnCancel .cnCancel (u32 99) canned (fun _ s => (handleQueue s 99).isNone && (handleBuf s 99).isNone) stBadArg = true ∧
    met cCnFilterSet .cnFilterSet (bytes [4, 15, 2, 1] ++ u32 0x1FFFFFFF ++ u32 0) on (fun _ s => (canPort s 3).host.length == 16) 0 = true := by
  refine ⟨?_, peered_known, ?_, ?_, ?_, ?_, ?_, ?_, ?_, ?_, ?_, ?_, ?_⟩ <;> decide +kernel

/-- A record: RSEQ, event code, whether retained. -/
def rec1 (n code : Nat) (kept : Bool) : EvRec := ⟨n, code, 0, false, kept, false, false, false, 5000, 5000, 100, 1, 0, 0, []⟩

/-- Two records in each area, one of them retained; one injection. -/
def recorded : State :=
  { on with ev := { on.ev with nextRseq := 9, snaps := [rec1 3 0x0301 false, rec1 4 0x0301 true], fixed := [rec1 5 0x0701 false]
                               injs := [⟨16, 0x0602, 1, 2, 3, 0, 1, 2, 5000, false, 0⟩] } }

theorem test_met_StorageAndEventQueriesAnswer :
    met cMcStatus .mcStatus [] on any 0 = true ∧ met cStoreStatus .storeStatus [] on any 0 = true ∧
    met cEvRead .evRead (bytes [1, 3, 255, 1] ++ u32 0 ++ bytes [232, 3, 0, 0]) recorded any 0 = true ∧
    met cEvRead .evRead (bytes [2, 0, 3, 0] ++ u32 0xFFFFFFFF ++ bytes [1, 0, 0, 0]) recorded any 0 = true ∧
    met cEvReadPriv .evReadPriv (bytes [1, 3, 255, 1] ++ u32 0 ++ bytes [1, 0, 0, 0]) recorded any 0 = true ∧
    met cEvCount .evCount [] recorded any 0 = true ∧ met cInjectList .injectList [] recorded any 0 = true := by
  refine ⟨?_, ?_, ?_, ?_, ?_, ?_, ?_⟩ <;> decide +kernel

/-- A field with one record that waits for the NAND. -/
def dirty : State :=
  { on with cf := { on.cf with fields := [⟨7, [zeros 48], some ⟨0, 0, 1000, 0, 2, 8, [], [], false⟩, 1, 1, false⟩] } }

theorem test_met_StorageAndEventCommandsAct :
    met cMcBankState .mcBankState (bytes [63, 1, 0, 0]) on (fun _ s => (bankOf s 63).st == .off) 0 = true ∧
    met cMcBankState .mcBankState (bytes [63, 2, 0, 0]) on (fun _ s => (bankOf s 63).st == .off) 0 = true ∧
    met cMcBankState .mcBankState (bytes [47, 3, 0, 0]) on (fun _ s => s.mc.ring == .free && (bankOf s 47).st == .on) 0 = true ∧
    met cMcBankState .mcBankState (bytes [48, 3, 0, 0]) on any stRefusedState = true ∧
    met cMcBankState .mcBankState (bytes [31, 1, 0, 0]) on any stRefusedState = true ∧
    met cMapFlush .mapFlush [] on (fun _ s => unflushed s == 0) 0 = true ∧
    metBy 1 cMapFlush .mapFlush [] dirty (fun _ s => unflushed s == 1 && !someoneWaits (fun w => w == .mapFlush) s) (fun t => t.mb.waiting.length == 1) = true ∧
    met cEvClear .evClear (bytes [1, 255, 0, 0] ++ u32 0xFFFFFFFF) recorded (fun c s => c.role != 2 || !s.rs.ownerLock) 0 = true ∧
    met cEvClear .evClear (bytes [2, 7, 0, 0] ++ u32 5) { recorded with rs := { recorded.rs with lifecycle := 4 } } (fun c s => c.role != 2 && inService s) 0 = true ∧
    met cInjectClear .injectClear (bytes [255, 0, 0, 0]) recorded any 0 = true ∧ met cInjectClear .injectClear (bytes [16, 0, 0, 0]) recorded any 0 = true ∧
    metBy 4 cSelftest .selftest (bytes [2, 0, 0, 0]) { on with pf := { on.pf with active := 16 }, rs := { on.rs with lifecycle := 4 } }
      (fun _ s => inService s && inPs s && stationary s) (fun _ => true) = true := by
  refine ⟨?_, ?_, ?_, ?_, ?_, ?_, ?_, ?_, ?_, ?_, ?_, ?_⟩ <;> decide +kernel

/-! ### Update, reset, lifecycle, power and the segment panel: mailbox commands -/

/-- A manifest 5 for a module of unique ID 77, with one part of 100 bytes. -/
def man5 : Manifest := ⟨zeros 300, 1, false, false, 5, 1, 0, zeros 16, [(77, 2)], [⟨1, 1, zeros 16, 100, 1, zeros 12, zeros 40, zeros 32⟩]⟩

/-- Its part. -/
def part5 : UpPart := ⟨1, 1, zeros 16, 100, 1, zeros 12, zeros 40, zeros 32⟩

/-- The manifest known in a state, begun by the host's session, with 10 bytes of its part taken. -/
def camp5 (st : UpSt) : Camp :=
  ⟨man5, st, true, 1, 1, 1, [⟨0, 10, zeros 10, 0, 0, 0, false, false⟩], none, 0, [⟨77, 2, 0, 10, 116, 0, none, false, false⟩], 0, none, 0⟩

/-- Such an update in service, with a commit record of manifest 5 in a state. -/
def updating (st : UpSt) (commit : CommitSt) : State :=
  { on with up := { on.up with camps := [camp5 st], commit := { commit0 with id := 5, st := commit } }, rs := { on.rs with lifecycle := 4 } }

/-- The same with the shared ring the staging's and empty. -/
def ringing : State := { updating .staging .none with mc := { on.mc with ring := .staging } }

theorem ringing_room : ringRoom (hosted (roleFor cUpdateData) ringing) (camp5 .staging) part5 = true := by
  have r : (hosted (roleFor cUpdateData) ringing).mc.ring = .staging := rfl
  have n : (hosted (roleFor cUpdateData) ringing).up.relay = [] := rfl
  simp [ringRoom, r, n]

theorem test_met_UpdateBeginTakesManifest :
    met cUpdateBegin .updateBegin (bytes [0, 0, 0, 0, 1]) on (fun c s => (beginBarred c.role s).isNone) stValidationFail = true ∧
    met cUpdateBegin .updateBegin (bytes [1, 0, 0, 0, 1]) { on with up := { on.up with moving := true } } (fun c s => (beginBarred c.role s) == some 1)
      stRefusedState = true ∧
    met cUpdateBegin .updateBegin (bytes [1, 0, 0, 0, 1]) { on with up := { on.up with supplyOk := false } } (fun c s => (beginBarred c.role s) == some 2)
      stRefusedState = true := by
  refine ⟨?_, ?_, ?_⟩ <;> decide +kernel

theorem test_met_UpdateCommandsAct :
    metBy (roleFor cUpdateData) cUpdateData .updateData (u64 5 ++ zeros 4 ++ u32 10 ++ zeros 9) ringing any (fun _ => true) = true ∧
    ringRoom (hosted (roleFor cUpdateData) ringing) (camp5 .staging) part5 = true ∧
    met cUpdateData .updateData (u64 5 ++ zeros 4 ++ u32 9 ++ zeros 1) (updating .staging .none) any 0 = true ∧
    met cUpdateData .updateData (u64 5 ++ zeros 4 ++ u32 11 ++ zeros 105) (updating .staging .none) any stBadArg = true ∧
    met cUpdateData .updateData (u64 5 ++ zeros 4 ++ u32 10 ++ zeros 1)
      { on with up := { on.up with camps := [{ camp5 .staging with session := 2 }] } } any stNotAuth = true ∧
    met cUpdateStatus .updateStatus (u64 5) (updating .staged .none) any 0 = true ∧ met cUpdateStatus .updateStatus (u64 0) on any 0 = true ∧
    (∀ f ∈ [0, 7000, 605000],
      metBy (roleFor cUpdateActivate) cUpdateActivate .updateActivate (u64 5 ++ u64 f) (updating .staged .none)
        (fun _ s => (collectingCamp s).isNone && !inRecovery s && decide (2000 ≤ paramN s pUpCommitLead ∧ paramN s pUpCommitLead ≤ 600000)) (fun _ => true)
        = true) ∧
    metBy (roleFor cUpdateConfirm) cUpdateConfirm .updateConfirm (u64 5) (updating .staged .activated) (fun c s => !ownerBars c.role s) (fun _ => true) = true ∧
    metBy (roleFor cUpdateAbort) cUpdateAbort .updateAbortStaging (u64 5 ++ bytes [1, 0, 0, 0]) (updating .staged .none)
      (fun c s => !ownerBars c.role s) (fun _ => true) = true ∧
    metBy (roleFor cUpdateAbort) cUpdateAbort .updateAbortFallback (u64 5 ++ bytes [2, 0, 0, 0]) (updating .staged .activated) any (fun _ => true) = true ∧
    (
      let p := u64 5 ++ bytes [3, 0, 0, 0]
      let s := updating .staged .prepared
      reaches cUpdateAbort (msg p) { ctx2 cUpdateAbort p with role := 4 } (hosted 4 s) = true ∧ inService s = true ∧ s.up.commit.leader = false ∧
        modUids man5 = [77] ∧ routePort s (nodeOfUid s 77) = none) := by
  refine ⟨?_, ringing_room, ?_, ?_, ?_, ?_, ?_, ?_, ?_, ?_, ?_, ?_⟩ <;> decide +kernel

/-- A lifecycle state, with an OPERATOR key and the OEM's own keys provisioned. -/
def lived (lc : Nat) (locked : Bool) : State :=
  { on with rs := { on.rs with lifecycle := lc, keys := [some (zeros 32), some (zeros 32), none, some (zeros 32)], oemOwn := true, ownerLock := locked
                               manifestKey := some (zeros 96) } }

/-- A LIFECYCLE_SET payload of a transition to another state than RETIRED. -/
def toState (new : Nat) : Bytes := bytes [1, 0, 0, 0, new] ++ zeros 13

theorem test_met_LifecycleAndPowerCommandsAct_1 :
    met cLifecycleGet .lifecycleGet [] on any 0 = true ∧
    metBy 2 cLifecycleSet .lifecycleSetTransition (toState 2) (lived 1 false) (fun c s => transitionMay c.role 2 s) (fun t => t.rs.lifecycle == 2) = true ∧
    metBy 2 cLifecycleSet .lifecycleSetTransition (toState 3) (lived 2 false) (fun c s => transitionMay c.role 3 s) (fun t => t.rs.lifecycle == 3) = true ∧
    metBy 4 cLifecycleSet .lifecycleSetTransition (toState 4) (lived 3 false) (fun c s => transitionMay c.role 4 s) (fun t => t.rs.lifecycle == 4) = true ∧
    metBy 4 cLifecycleSet .lifecycleSetTransition (toState 4) (lived 3 true) (fun c s => !transitionMay c.role 4 s) (fun t => lastStatus t == stRefusedState)
      = true ∧
    metBy 2 cLifecycleSet .lifecycleSetProvisionKey (bytes [2, 0, 0, 0, 5, 0, 0, 0] ++ zeros 96) (lived 2 false) (fun c s => provisionMay c.role 5 s)
      (fun t => lastStatus t == 0) = true ∧
    metBy 2 cLifecycleSet .lifecycleSetProvisionKey (bytes [2, 0, 0, 0, 4, 0, 0, 0] ++ zeros 32) (lived 2 false) (fun c s => provisionMay c.role 4 s)
      (fun t => lastStatus t == 0) = true ∧
    metBy 2 cLifecycleSet .lifecycleSetProvisionKey (bytes [2, 0, 0, 0, 1, 0, 0, 0] ++ zeros 32) (lived 3 false) (fun c s => provisionMay c.role 1 s)
      (fun t => roleKey t 1 == some (zeros 32)) = true ∧
    metBy 4 cLifecycleSet .lifecycleSetRevokeKey (bytes [3, 0, 0, 0, 5, 0, 0, 0]) (lived 4 false) any (fun t => t.rs.manifestRevoked) = true ∧
    metBy 4 cLifecycleSet .lifecycleSetRevokeKey (bytes [3, 0, 0, 0, 19, 0, 0, 0]) (lived 4 false) any (fun t => t.rs.revoked == 8) = true ∧
    metBy 3 cOwnerLock .ownerLockSet (bytes [1, 0, 0, 0]) (lived 3 false) any (fun t => t.rs.ownerLock) = true ∧
    metBy 3 cOwnerLock .ownerLockClear (bytes [2, 0, 0, 0]) (lived 4 true) any (fun t => !t.rs.ownerLock) = true ∧
    metBy 3 cOwnerLock .ownerLockPermitService (bytes [3, 0, 0, 0]) (lived 3 true) any (fun t => t.rs.permit == some 100000) = true := by
  refine ⟨?_, ?_, ?_, ?_, ?_, ?_, ?_, ?_, ?_, ?_, ?_, ?_, ?_⟩ <;> decide +kernel

/-- In SERVICE with profile PS active. -/
def serviced : State := { on with pf := { on.pf with active := 16 }, rs := { on.rs with lifecycle := 4 } }

/-- The panel IDLE with segments, and an update waiting or not. -/
def panelled (waiting : Option Nat) : State := { on with sp := { on.sp with st := .idle, waiting := waiting, seq := 0xFFFFFFFF, target := 0, displayed := 0 } }

theorem test_met_LifecycleAndPowerCommandsAct_2 :
    metBy 4 cResetRequest .resetRequest (bytes [3, 3, 0, 0]) serviced (fun _ s => s.gr.mode == .triple && inService s) (fun t => t.rs.request.isSome) = true ∧
    metBy 4 cResetRequest .resetRequest (bytes [0, 0, 0, 0]) serviced (fun _ s => inService s) (fun t => t.rs.request.isSome) = true ∧
    metBy 4 cResetRequest .resetRequest (bytes [2, 0, 0, 0]) on (fun _ s => !moving s) (fun t => t.rs.request.isSome) = true ∧
    met cPowerStatus .powerStatus [] on any 0 = true ∧
    (∀ d ∈ [5, 6, 10, 11], metBy 4 cDomainState .domainState (bytes [d, 1, 0, 0]) serviced
      (fun _ s => inService s && inPs s && stationary s && domOf s d != .serviceOff) (fun t => lastStatus t == 0) = true) ∧
    metBy 4 cDomainState .domainState (bytes [6, 2, 0, 0]) serviced (fun _ s => inService s && inPs s && stationary s) (fun t => domOf t 6 == .serviceOff) = true ∧
    met cSpWrite .spWrite (bytes [1, 0, 0, 0, 0, 0, 1, 0, 0, 0, 0, 0, 0, 0, 0, 0]) (panelled (some 7)) (fun _ s => s.sp.st != .fault) 0 = true ∧
    met cSpWrite .spWrite (zeros 16) (panelled none) (fun _ s => !panelDiffers s.sp && s.sp.running.isNone) 0 = true ∧
    met cSpWrite .spWrite (bytes [1, 0, 0, 0, 0, 0, 1, 0, 0, 0, 0, 0, 1, 0, 0, 0]) (panelled none) (fun _ s => s.sp.st != .fault) 0 = true ∧
    met cSpStatus .spStatus [] on any 0 = true := by
  refine ⟨?_, ?_, ?_, ?_, ?_, ?_, ?_, ?_, ?_, ?_⟩ <;> decide +kernel

/-! ### Reception, the mailbox's timers, Granite's instants and its lanes -/

/-- A command leads from a state to a next state with a property. -/
def runs (i : Instr) (s : State) (p : State → Bool) : Bool := nx (exec i s) p

/-- The binding of the host of fabric node 5. -/
def far : Binding := { transport := .fabric, peer := 5 }

/-- A session of that host with a key of zeros and its next expected sequence 5. -/
def farSess : Sess := { sess 2 with binding := far, keyIn := zeros 32 }

/-- A state with that session. -/
def farOn (x : Sess) : State := { on with mb := { on.mb with sessions := [x] } }

/-- A message of session 1 with a sequence number, TIME_GET, of an epoch, tagged under a key of zeros. -/
def sealMsg (seq epoch : Nat) : Bytes :=
  let head := bytes [0x47, 0x52, 3, 4, 1, 0] ++ u16 seq ++ u16 cTimeGet ++ u16 0 ++ u32 epoch
  head ++ gcmTag (zeros 32) (u32 epoch ++ u16 1 ++ u16 seq ++ u16 0 ++ u8 0 ++ u8 0) head []

/-- A well-formed message on the console UART: one bare message in its frame. -/
def broken : Bytes := bytes [0x7E, 1, 2, 0x7E]

theorem test_met_MessagesAreReceived_1 :
    let e := on.mb.epoch
    transportOn (hosted 2 { on with rs := { on.rs with supUp := false } }) far = false ∧
    runs (.messageReceive far true broken) (farOn farSess) (fun t => t.mb.malformed == 1) = true ∧
    runs (.messageReceive far false (sealMsg 5 e)) (farOn farSess) (fun t => t.mb.malformed == 1 && t.out.isEmpty) = true ∧
    runs (.messageReceive far true (sealMsg 5 e)) on (fun t => lastStatus t == stNotAuth) = true ∧
    runs (.messageReceive far true (sealMsg 5 e)) (farOn { farSess with binding := uart }) (fun t => lastStatus t == stNotAuth) = true ∧
    runs (.messageReceive far true (sealMsg 5 (e + 1))) (farOn farSess) (fun t => lastStatus t == stEpochMismatch) = true ∧
    runs (.messageReceive far true (sealMsg 5 e)) (farOn { farSess with keyIn := zeros 16 ++ bytes [1] ++ zeros 15 }) (fun t => t.mb.authFails == 1 && t.out.isEmpty) = true ∧
    runs (.messageReceive far true (sealMsg 5 e)) (farOn farSess) (fun t => t.mb.sessions.map Sess.e == [6]) = true ∧
    runs (.messageReceive far true (sealMsg 6 e)) (farOn farSess) (fun t => t.mb.sessions.map (fun x => x.held.map HeldMsg.seq) == [[6]]) = true ∧
    runs (.messageReceive far true (sealMsg 13 e)) (farOn farSess) (fun t => t.mb.sessions.map (fun x => x.held.map HeldMsg.seq) == [[13]]) = true ∧
    runs (.messageReceive far true (sealMsg 14 e)) (farOn farSess) (fun t => t.mb.discarded == 1 && t.mb.sessions.map Sess.e == [5]) = true := by
  refine ⟨?_, ?_, ?_, ?_, ?_, ?_, ?_, ?_, ?_, ?_, ?_⟩ <;> decide +kernel

/-- Port 1 of the fabric with a link, as node 4. -/
def carrying : State :=
  { on with pf := { on.pf with settings := [(pFbNode, 4)] }, fb := { on.fb with ports := on.fb.ports.set 1 { port0 with link := true } } }

/-- A Skim frame to node 4. -/
def skim (cls dst : Nat) : SkimFrame := ⟨cls, 3, dst, 1, 0, 7, zeros 4⟩

/-- Port 2 of CAN in a state. -/
def canIn (st : CtrlSt) : State := { on with cn := { on.cn with ports := updAt on.cn.ports 1 (fun x => { x with st := st }) } }

/-- A CAN frame, of CAN FD or not. -/
def frameOf (fd : Bool) : CanFrame := ⟨false, fd, false, false, false, 0x123, 1, [0]⟩

theorem test_met_MessagesAreReceived_2 :
    portOn carrying 1 = true ∧ (fbPort carrying 1).link = true ∧
    runs (.skimFrameReceive 1 false (skim 1 4)) carrying (fun t => t.fb.framesBad == 1 && (fbPort t 1).fcs == 1) = true ∧
    runs (.skimFrameReceive 1 true { skim 1 9 with hops := 31 }) carrying (fun t => t.fb.tx.isEmpty) = true ∧
    runs (.skimFrameReceive 1 true (skim 1 4)) carrying (fun t => t.fb.flows == [⟨3, 1, 1, 8⟩]) = true ∧
    runs (.skimFrameReceive 1 true (skim 2 4)) carrying (fun t => t.fb.flows == [⟨3, 2, 1, 8⟩]) = true ∧
    runs (.skimFrameReceive 0 true (skim 1 4)) carrying (fun t => t.fb.flows.isEmpty) = true ∧
    runs (.canFrameReceive 1 (frameOf false) 0 0) (canIn .disabled) (fun t => (canPort t 1).received == 0) = true ∧
    runs (.canFrameReceive 1 (frameOf false) 0 2) (canIn .listenOnly) (fun t => (canPort t 1).rxErr == 0) = true ∧
    runs (.canFrameReceive 1 (frameOf true) 0 0) (canIn .errorActive) (fun t => (canPort t 1).fdDiscards == 1) = true ∧
    runs (.canFrameReceive 1 (frameOf false) 0 0) (canIn .listenOnly) (fun t => (canPort t 1).received == 1) = true := by
  refine ⟨?_, ?_, ?_, ?_, ?_, ?_, ?_, ?_, ?_, ?_, ?_⟩ <;> decide +kernel

/-- A relay to node 5 with nothing received, of an outer session of node 5, begun at a time. -/
def relaying (since : Nat) : State :=
  { farOn farSess with mb := { (farOn farSess).mb with relays := [⟨3, 5, 1, 1, cTimeGet, [], since⟩], relayed := [⟨1, far, 1⟩], waiting := [⟨far, 1, 4, cFbRelay, 0, .relay 3, since⟩] } }

/-- An inner response. -/
def innerAnswer (flags : Nat) : Bytes := bytes [0x47, 0x52, 3, flags, 0, 0, 1, 0] ++ u16 cTimeGet ++ u16 1 ++ u32 0 ++ zeros 1

theorem test_met_MailboxTimersAct :
    runs .lockoutExpiry { on with mb := { on.mb with secs := [⟨far, [], [], some 100000, some (4000, false), none⟩, ⟨uart, [], [], some 100001, none, none⟩] } }
      (fun t => t.mb.secs.map PeerSec.locked == [none, some 100001] || t.mb.secs.map PeerSec.locked == [some 100001]) = true ∧
    runs .authBurstEnd { on with mb := { on.mb with secs := [⟨far, [90000], [], none, none, some (4000, false)⟩] } } (fun t => t.mb.secs.all (fun x => x.burstOcc.isNone)) = true ∧
    runs .authBurstEnd { on with mb := { on.mb with secs := [⟨far, [90001], [], none, none, some (4000, false)⟩] } } (fun t => t.mb.secs.all (fun x => x.burstOcc.isSome)) = true ∧
    runs .notifyIntervalExpiry (farOn { farSess with subs := [⟨nEvent, 0, 500, some 99500, [⟨1, zeros 4⟩]⟩] }) (fun t => t.out.length == 1) = true ∧
    runs .notifyIntervalExpiry (farOn { farSess with subs := [⟨nEvent, 0, 500, some 99501, [⟨1, zeros 4⟩]⟩] }) (fun t => t.out.isEmpty) = true ∧
    runs .relayTimeout (relaying 99000) (fun t => t.mb.relays.isEmpty) = true ∧ runs .relayTimeout (relaying 99001) (fun t => t.mb.relays.length == 1) = true ∧
    runs (.relayInnerResponse 5 1 (innerAnswer 1)) (relaying 99900) (fun t => t.mb.relays.isEmpty && lastStatus t == 0) = true ∧
    runs (.relayInnerResponse 5 1 (innerAnswer 9)) (relaying 99900) (fun t => t.mb.relays.length == 1 && t.out.isEmpty) = true ∧
    runs (.relayInnerResponse 6 1 (innerAnswer 1)) (relaying 99900) (fun t => t.mb.relays.length == 1) = true ∧
    runs (.relayedNotify 5 1 (innerAnswer 2)) (relaying 99900) (fun t => t.out.length == 1) = true ∧
    runs .fragmentAssemblyTimeout (farOn { farSess with asm := some ⟨cTimeGet, [], 1, 99000⟩ }) (fun t => t.mb.malformed == 1) = true ∧
    runs .halfOpenTimeout (farOn { farSess with isOpen := false, opened := 95000 }) (fun t => t.mb.sessions.isEmpty) = true ∧
    runs .halfOpenTimeout (farOn { farSess with isOpen := false, opened := 95001 }) (fun t => t.mb.sessions.length == 1) = true ∧
    runs .reorderHoldExpiry (farOn { farSess with held := [⟨7, cTimeGet, false, [], 90000, false⟩] })
      (fun t => t.mb.sessions.map (fun x => x.held.length + x.note) == [1] && t.out.map OutMsg.payload == [u16 5]) = true ∧
    runs .sessionTimeout (farOn { farSess with lastAuth := 0 }) (fun t => t.mb.sessions.isEmpty) = true ∧
    runs .session0BindingForget on (fun t => t.mb.peers0.isEmpty) = true ∧
    mailUp on = true ∧ mailUp State.reset = false ∧
    runs .moduleSettingDurable { on with pf := { on.pf with writes := [⟨[], 90000, false⟩] } } (fun t => t.pf.writes.isEmpty) = true := by
  refine ⟨?_, ?_, ?_, ?_, ?_, ?_, ?_, ?_, ?_, ?_, ?_, ?_, ?_, ?_, ?_, ?_, ?_, ?_, ?_, ?_⟩ <;> decide +kernel

/-! ### Granite's instants and its lanes -/

/-- Function 1 on load-switch channel 3 in machine slot 64, in a state, with its feedback bad for a number of frames. -/
def acting (st : FnSt) (bad : Nat) : State :=
  let e := bytes [1, 3, 3, 0, 64, 0] ++ zeros 6 ++ leI 4 0 ++ leI 4 1 ++ zeros 12
  { on with pf := { on.pf with work := { on.pf.work with funcs := [e] } }
            gr := { on.gr with fns := on.gr.fns.set 0 { fn0 with st := st, badFb := bad }, lanes := List.replicate 3 { lane0 with st := .active } } }

/-- A sampling instant's inputs. -/
def sampled : CutSample := ⟨[], 0, [], [], [], 0, []⟩

/-- The record of the next frame has closed. -/
def closed : State := { on with gr := { on.gr with next := { on.gr.next with frame := 5001 } } }

/-- A tick in progress, in a mode, after a number of consecutive overruns. -/
def ticking (tick : Nat) (mode : GrMode) (consec : Nat) : State :=
  { acting .enabled 0 with gr := { (acting .enabled 0).gr with tick := tick, mode := mode, consec := consec } }

/-- A capture running. -/
def capturing (held : Nat) : State := { on with gr := { on.gr with capture := some ⟨5000, 2, held, true, []⟩ } }

/-- A replay of one frame that has run. -/
def replaying : State := { on with gr := { on.gr with replay := ⟨.running, 0, 0, 1, 1, 0, 0, 0⟩ } }

theorem test_met_GraniteInstantsAct :
    runs (.cutOff sampled) { on with clk := { on.clk with running := false } } (fun t => t.gr.next.frame == 0) = true ∧
    runs (.cutOff sampled) on (fun t => t.gr.next.frame == 5001 && t.clk.cycle == 735000) = true ∧
    runs (.frameStart []) on (fun t => t.clk.frame == 5000) = true ∧
    runs (.frameStart []) closed (fun t => t.clk.frame == 5001 && t.clk.ms == 100001 && t.gr.cur.frame == 5001) = true ∧
    runs (.feedbackGraceExpiry 0) (acting .enabled 20) (fun t => (fnOf t 1).st == .safe && (fnOf t 1).cause == 1) = true ∧
    paramN on pGrFeedbackGrace = 20 ∧ runs (.feedbackGraceExpiry 0) (acting .enabled 19) (fun t => (fnOf t 1).st == .enabled) = true ∧
    runs (.rampEnd 0) (acting .ramp 0) (fun t => (fnOf t 1).st == .safe) = true ∧
    runs (.tickSample (List.replicate 12 7) (List.replicate 24 9) 65000) on (fun t => (vdChan t 11).current == 7 && (lsChan t 23).ma == 9) = true ∧
    runs .tickStart (ticking 19 .dual 0) (fun t => t.clk.cycle == 712500) = true ∧
    runs (.tickCommit []) (ticking 19 .triple 0) (fun t => t.gr.tick == 20 && t.gr.mode == .triple) = true ∧
    runs (.tickCommit []) (ticking 20 .triple 0) (fun t => t.gr.tick == 20) = true ∧
    runs (.tickCommit [0, 2]) (ticking 5 .triple 0) (fun t => t.gr.mode == .safe) = true ∧
    runs (.firmwareDeadline 731251) (ticking 5 .triple 2) (fun t => t.gr.overran && t.gr.consec == 3) = true ∧
    runs (.firmwareDeadline 731250) (ticking 5 .triple 2) (fun t => !t.gr.overran && t.gr.consec == 0) = true ∧
    runs .consecutiveOverrunLimit (ticking 5 .triple 3) (fun t => (fnOf t 1).st == .safe) = true ∧
    runs .consecutiveOverrunLimit (ticking 5 .triple 2) (fun t => (fnOf t 1).st == .enabled) = true ∧
    runs (.frameCommit []) (ticking 20 .triple 0) (fun t => (fnOf t 1).st == .enabled && (fnOf t 1).out == (fnOf (ticking 20 .triple 0) 1).next) = true ∧
    runs .recordCaptureDone (capturing 2) (fun t => t.gr.capture.any (fun c => !c.running)) = true ∧
    runs .recordCaptureDone (capturing 1) (fun t => t.gr.capture.any Capture.running) = true ∧
    runs (.replayDone 3 1 19) replaying (fun t => t.gr.replay.st == .done && t.gr.replay.badTick == 19) = true ∧
    runs (.replayDone 0 0 0) replaying (fun t => t.gr.replay.st == .done && t.gr.replay.result == 0) = true := by
  refine ⟨?_, ?_, ?_, ?_, ?_, ?_, ?_, ?_, ?_, ?_, ?_, ?_, ?_, ?_, ?_, ?_, ?_, ?_, ?_, ?_, ?_, ?_⟩ <;> decide +kernel

/-- Lane 2 in a state, the others ACTIVE, in a mode; lane 2 excluded `n` times, its phase begun at a time, with tries and a join. -/
def laned (st : LaneSt) (mode : GrMode) (n since tries : Nat) (joins : Bool) : State :=
  { acting .enabled 0 with gr := { (acting .enabled 0).gr with
      mode := mode
      lanes := [{ lane0 with st := .active }, { lane0 with st := st, excl := List.replicate n 99000, since := since, tries := tries, joins := joins },
        { lane0 with st := .active }] } }

theorem test_met_LanesAreExcludedAndReadmitted :
    paramN on pGrReadmitLimit = 3 ∧ paramN on pGrReadmitEnable = 1 ∧
    runs (.lockstepDivergence 1) (laned .active .triple 2 0 0 false) (fun t => t.gr.mode == .dual && (laneOf t 1).st == .selftest && (laneOf t 1).cause == 2) = true ∧
    runs (.laneWatchdogMiss 1) (laned .active .triple 3 0 0 false) (fun t => (laneOf t 1).st == .heldOut && (laneOf t 1).cause == 3) = true ∧
    runs (.laneEccError 1 true) (laned .active .dual 0 0 0 false) (fun t => t.gr.mode == .safe && t.gr.safeA && t.gr.safeB && (fnOf t 1).st == .safe) = true ∧
    runs (.laneEccError 1 false) (laned .active .triple 0 0 0 false) (fun t => (laneOf t 1).ecc == 1 && t.gr.mode == .triple) = true ∧
    runs (.laneWatchdogMiss 1) (laned .transfer .triple 0 0 0 false) (fun t => (laneOf t 1).st == .transfer) = true ∧
    runs (.laneResetDone 1) (laned .selftest .dual 1 0 0 false) (fun t => (laneOf t 1).st == .selftest) = true ∧
    runs (.laneSelftestDone 1 true) (laned .start .start 0 99970 0 false) (fun t => (laneOf t 1).joins) = true ∧
    runs (.laneSelftestDone 1 true) (laned .selftest .dual 3 99970 0 false) (fun t => (laneOf t 1).st == .transfer) = true ∧
    runs (.laneSelftestDone 1 false) (laned .selftest .dual 1 99970 0 false) (fun t => (laneOf t 1).st == .excludedWait && (laneOf t 1).cause == 7) = true ∧
    runs (.laneSelftestDone 1 true) (laned .selftest .dual 1 99971 0 false) (fun t => (laneOf t 1).st == .selftest) = true ∧
    runs (.transferFinalPass 1 262144) (laned .transfer .dual 1 0 15 false) (fun t => (laneOf t 1).joins) = true ∧
    runs (.transferFinalPass 1 262145) (laned .transfer .dual 1 0 15 false) (fun t => (laneOf t 1).tries == 16) = true ∧
    runs (.transferTimeout 1) (laned .transfer .dual 1 0 16 false) (fun t => (laneOf t 1).st == .excludedWait && (laneOf t 1).cause == 8) = true ∧
    runs (.transferTimeout 1) (laned .transfer .dual 1 0 15 false) (fun t => (laneOf t 1).st == .transfer) = true ∧
    runs (.excludedWaitExpiry 1) (laned .excludedWait .dual 3 99000 0 false) (fun t => (laneOf t 1).st == .selftest && (laneOf t 1).inReset) = true ∧
    runs (.excludedWaitExpiry 1) (laned .excludedWait .dual 3 99001 0 false) (fun t => (laneOf t 1).st == .excludedWait) = true ∧
    ((lanesJoin (laned .transfer .dual 1 0 3 true)).gr.mode == .triple && (laneOf (lanesJoin (laned .transfer .dual 1 0 3 true)) 1).st == .active) = true ∧
    (∀ j < 3, (laneOf { on with gr := { on.gr with mode := .start, lanes := List.replicate 3 { lane0 with joins := true } } } j).joins = true) := by
  refine ⟨?_, ?_, ?_, ?_, ?_, ?_, ?_, ?_, ?_, ?_, ?_, ?_, ?_, ?_, ?_, ?_, ?_, ?_, ?_, ?_⟩ <;> decide +kernel

/-! ### Quartz -/

/-- Quartz on every channel in LISTEN with the rail and the reservoir up, but for channel 32, which is as given. -/
def hearing (c : QzChan) : State :=
  { on with qz := { on.qz with up := true, reservoir := 60000, chans := List.replicate 31 { qzChan0 with st := .listen } ++ [c] }
            an := { on.an with rail := 65000 } }

/-- A channel in LISTEN with a tap record. -/
def ear (tap : QzTap) : QzChan := { qzChan0 with st := .listen, tap := tap }

/-- A span of three samples of 100. -/
def span3 (v : Int) : List Int := [v, v, v]

/-- 800 samples of a ring at 60 samples a period, decaying at sample 600. -/
def ring : List Int := (List.range 600).map (fun k => if k % 60 < 30 then 1000 else -1000) ++ List.replicate 200 10

/-- What an impact leaves when it is the next of a full chain. -/
def chained (full : Bool) : State := hearing { ear qzTap0 with chain := some ⟨100, 101, 900, 3, full⟩ }

/-- A pending impact. -/
def waitingImpact (report : Nat) : State := hearing { ear qzTap0 with queue := [⟨List.replicate 16 0, report, false⟩] }

theorem test_met_QuartzChannelsAct_1 :
    runs (.impactEnd 31 100 (span3 8000) false) (hearing (ear qzTap0)) (fun t => (qzChan t 31).queue.map QzImpact.report == [127]) = true ∧
    runs (.impactEnd 31 100 (span3 8000) false) (chained true) (fun t => (qzChan t 31).cur.unknown == 1 && (qzChan t 31).queue.isEmpty) = true ∧
    runs (.impactEnd 31 154 (List.replicate 128 8000) false) (chained false) (fun t => (qzChan t 31).cur.unknown == 1) = true ∧
    runs (.impactEnd 31 1849 (span3 8000) false) (hearing { ear qzTap0 with chain := some ⟨1800, 1801, 900, 3, true⟩ })
      (fun t => (qzChan t 31).next.unknown == 1 && (qzChan t 31).cur.unknown == 0) = true ∧
    runs (.impactEnd 31 100 [0, 0, 0] false) (hearing (ear qzTap0)) (fun t => (qzChan t 31).queue.isEmpty) = true ∧
    runs (.impactEnd 31 100 [8000, 8000] false) (hearing (ear qzTap0)) (fun t => (qzChan t 31).queue.isEmpty) = true ∧
    runs (.impactEnd 31 100 (span3 8000) false) (hearing qzChan0) (fun t => (qzChan t 31).queue.isEmpty) = true ∧
    runs (.impactClassify 31) (waitingImpact 1874) (fun t => (qzChan t 31).queue.isEmpty && (qzChan t 31).cur.grain == 1) = true ∧
    runs (.impactClassify 31) (hearing (ear qzTap0)) (fun t => (qzChan t 31).cur.grain == 0) = true ∧
    (hearing qzChan0).qz.chans.length = 32 := by
  refine ⟨?_, ?_, ?_, ?_, ?_, ?_, ?_, ?_, ?_, ?_⟩ <;> decide +kernel

theorem test_met_QuartzChannelsAct_2 :
    let iv := paramN on pQzTapInterval
    paramN on pQzTapEnable = 1 ∧
    runs (.tapDue 31) (hearing (ear { qzTap0 with last := some (100000 - iv) })) (fun t => (qzChan t 31).tap.dueAt == some 100000) = true ∧
    runs (.tapDue 31) (hearing (ear { qzTap0 with last := some (100001 - iv) })) (fun t => (qzChan t 31).tap.dueAt == none) = true ∧
    runs (.tapForced 31) (hearing (ear { qzTap0 with last := some 40000 })) (fun t => (qzChan t 31).tap.forced) = true ∧
    runs (.tapForced 31) (hearing (ear { qzTap0 with last := some 40001 })) (fun t => !(qzChan t 31).tap.forced) = true ∧
    runs (.tapStart 31 1874 0 false) (hearing (ear { qzTap0 with forced := true }))
      (fun t => (qzChan t 31).st == .tap && (qzChan t 31).cur.blind + (qzChan t 31).next.blind == 844) = true ∧
    runs (.tapStart 31 1874 0 true) (hearing (ear { qzTap0 with forced := true })) (fun t => (qzChan t 31).st == .listen) = true ∧
    runs (.diagStart 31 0 5625 false) (hearing (ear qzTap0)) (fun t => (qzChan t 31).st == .listen) = true ∧
    runs (.diagStart 31 1 0 false) (hearing { ear qzTap0 with diagReq := true })
      (fun t => (qzChan t 31).st == .diag && (qzChan t 31).cur.blind + (qzChan t 31).next.blind == 1875) = true ∧
    runs (.tapSequenceEnd 31) (hearing { ear qzTap0 with st := .tap }) (fun t => (qzChan t 31).st == .listen) = true ∧
    runs (.tapSequenceEnd 31) (hearing { ear qzTap0 with st := .tap, cause := 4 }) (fun t => (qzChan t 31).st == .fault) = true ∧
    runs (.tapAnalysisDone 31 ring) (hearing (ear { qzTap0 with analysis := true, f := 60000 }))
      (fun t => (qzChan t 31).tap.result == 1 && (qzChan t 31).tap.nextCal.isSome && (qzChan t 31).st == .listen) = true ∧
    runs (.tapAnalysisDone 31 (List.replicate 800 0)) (hearing (ear { qzTap0 with analysis := true, noResp := 2 }))
      (fun t => (qzChan t 31).tap.result == 4 && (qzChan t 31).st == .fault && (qzChan t 31).cause == 3) = true ∧
    runs (.tapDeferral 31) { hearing (ear { qzTap0 with dueAt := some 40000 }) with an := { on.an with rail := 39999 } }
      (fun t => (qzChan t 31).tap.deferred && t.qz.deferrals == 1) = true := by
  refine ⟨?_, ?_, ?_, ?_, ?_, ?_, ?_, ?_, ?_, ?_, ?_, ?_, ?_, ?_⟩ <;> decide +kernel

theorem test_met_QuartzChannelsAct_3 :
    runs (.calibrationStale 31) { hearing (ear { qzTap0 with lastGood := some 0 }) with clk := { on.clk with ms := 1000 * paramN on pQzCalStale } }
      (fun t => (qzChan t 31).tap.stale) = true ∧
    runs (.calibrationStale 31) { hearing (ear { qzTap0 with lastGood := some 1 }) with clk := { on.clk with ms := 1000 * paramN on pQzCalStale } }
      (fun t => !(qzChan t 31).tap.stale) = true ∧
    runs (.teachDone 31) (hearing (ear { qzTap0 with teach := some ⟨7, 0, 0, false⟩ })) (fun t => (qzChan t 31).tap.teach.isSome) = true ∧
    runs (.teachDone 31) (hearing (ear { qzTap0 with teach := some ⟨8, 8000, 80000, false⟩ }))
      (fun t => (qzChan t 31).tap.teach.isNone && paramN t (pQzRefAmp 31) == 1000) = true ∧
    runs (.teachDone 31) (hearing (ear { qzTap0 with teach := some ⟨8, 8000, 80000, true⟩ })) (fun t => (qzChan t 31).tap.teachFailed) = true ∧
    runs (.diagIdleDue 31) (hearing (ear qzTap0)) (fun t => (qzChan t 31).diagDue) = true ∧
    runs (.diagIdleDue 31) (hearing { ear qzTap0 with lastOnset := some 90001 }) (fun t => !(qzChan t 31).diagDue) = true ∧
    runs (.diagSequenceEnd 31 2500 2500 800) (hearing { ear qzTap0 with st := .diag, cause := 3, diagPass := 1 }) (fun t => (qzChan t 31).st == .listen) = true ∧
    runs (.diagSequenceEnd 31 2500 2500 960) (hearing { ear qzTap0 with st := .diag, cause := 3, diagPass := 0 })
      (fun t => (qzChan t 31).st == .fault && (qzChan t 31).diagPass == 1) = true ∧
    runs (.diagSequenceEnd 31 2500 2500 970) (hearing { ear qzTap0 with st := .diag }) (fun t => (qzChan t 31).st == .listen && (qzChan t 31).diagResult == 6) = true ∧
    runs (.diagSequenceEnd 31 0 0 0) (hearing { ear qzTap0 with st := .diag }) (fun t => (qzChan t 31).st == .fault && (qzChan t 31).cause == 2) = true ∧
    runs (.asPinRangeFault 31 499) (hearing (ear qzTap0)) (fun t => (qzChan t 31).st == .fault && (qzChan t 31).cause == 1) = true ∧
    runs (.asPinRangeFault 31 4501) (hearing (ear qzTap0)) (fun t => (qzChan t 31).st == .fault) = true ∧
    runs (.asPinRangeFault 31 500) (hearing (ear qzTap0)) (fun t => (qzChan t 31).st == .listen) = true ∧
    runs (.asPinRangeFault 31 4500) (hearing (ear qzTap0)) (fun t => (qzChan t 31).st == .listen) = true := by
  refine ⟨?_, ?_, ?_, ?_, ?_, ?_, ?_, ?_, ?_, ?_, ?_, ?_, ?_, ?_, ?_⟩ <;> decide +kernel

/-! ### Crop flow, yield, the optimizer and steering; the valve drive -/

/-- Live calibration in a state since a time, with a tank gain of 1,000 kg and a flow sum. -/
def calibrating (st : CalSt) (since : Nat) (m0 fsum : Int) : State :=
  { on with cf := { on.cf with cal := ⟨st, since, m0, fsum, 0, 0, 0, 2, 0, none⟩, tank := [1000000] } }

/-- A second closed, in an open field. -/
def harvested : State := { mapped with cf := { mapped.cf with closedSecs := [⟨4000, 2500, 0, 0, 0, false, false, 1000, false⟩], carry := 700 } }

/-- The optimizer in a state with function 1 to move, whose setpoint is `sp` in 0 to 1,000. -/
def optimizing (st : OptSt) (up : Bool) (sp sent base : Int) : State :=
  let e := bytes [1, 3, 3, 0, 64, 0] ++ zeros 6 ++ leI 4 0 ++ leI 4 1000 ++ zeros 12
  { on with pf := { on.pf with work := { on.pf.work with funcs := [e], params := [(pCfOptStep 0, 10)] } }
            gr := { on.gr with fns := on.gr.fns.set 0 { fn0 with sp := sp, st := .enabled } }
            cf := { on.cf with opt := { on.cf.opt with st := st, mask := 1, ptr := 1, up := up, orig := 100, sent := sent, base := base, n := 1 } } }

/-- Steering in GRACE for a number of frames. -/
def gracing (n : Nat) : State := { on with gn := { on.gn with steer := ⟨.grace, 5, 1, n, false⟩ } }

theorem test_met_CropAndSteeringActOfThemselves_1 :
    let iv := 1000 * paramN on pCfCalInterval
    runs (.lossGroupUncovered 2) { on with cf := { on.cf with groups := updAt on.cf.groups 2 (fun g => { g with uncovered := 1000 }) } }
      (fun t => isPresent t detLossGroupUncovered 3) = true ∧
    runs (.lossGroupUncovered 2) { on with cf := { on.cf with groups := updAt on.cf.groups 2 (fun g => { g with uncovered := 999 }) } }
      (fun t => !isPresent t detLossGroupUncovered 3) = true ∧
    runs .liveCalSettleDone (calibrating .settle (100000 - 1000 * paramN on pCfCalSettle) 0 0) (fun t => t.cf.cal.st == .measure && t.cf.cal.m0 == 1000000) = true ∧
    runs .liveCalIntervalEnd (calibrating .measure (100000 - iv) 0 1000000000) (fun t => t.cf.cal.accepted + t.cf.cal.rejected == 1) = true ∧
    runs .liveCalIntervalEnd (calibrating .measure (100000 - iv) 0 0) (fun t => t.cf.cal.rejected == 1 && t.cf.cal.rejRow == 0 && t.mb.exch.isEmpty) = true ∧
    runs .liveCalIntervalEnd (calibrating .measure (100000 - iv) 1000000 0) (fun t => t.cf.cal.rejected == 0) = true ∧
    (calGain (flowGain on) 1000000 (1000000 * 1000) = some (Int.tdiv (flowGain on * 1000000 * 1000 + 500000000) 1000000000)) ∧
    runs .liveCalTimeout { calibrating .measure 0 0 0 with clk := { on.clk with ms := 4 * iv } } (fun t => t.cf.cal.st == .disarmed && t.cf.cal.rejected == 1) = true ∧
    runs .liveCalTimeout (calibrating .load 0 0 0) (fun t => t.cf.cal.st == .load) = true ∧
    runs .delayEstimate { on with cf := { on.cf with estFrames := 10000, flow10 := List.replicate 600 1000000, rotor10 := List.replicate 600 0 } }
      (fun t => t.cf.estFrames == 0) = true ∧
    runs .delayEstimate { on with cf := { on.cf with estFrames := 9999 } } (fun t => t.cf.estFrames == 9999) = true ∧
    runs .delayNotEstimable { on with cf := { on.cf with cutFrames := 600000 } } (fun t => isPresent t detDelayNotEstimable 0) = true ∧
    runs .slopeLimitUpdate on (fun t => t.mb.exch.any (fun u => u.internal && u.frame == 5002) && t.cf.slopeN == 0) = true ∧
    runs .slopeLimitUpdate { on with clk := { on.clk with frame := 5001 } } (fun t => t.mb.exch.isEmpty) = true ∧ gnssFresh on = false := by
  refine ⟨?_, ?_, ?_, ?_, ?_, ?_, ?_, ?_, ?_, ?_, ?_, ?_, ?_, ?_, ?_⟩ <;> decide +kernel

theorem test_met_CropAndSteeringActOfThemselves_2 :
    let m := { on with pf := { on.pf with work := { on.pf.work with sensors := [bytes [3, 6, 2, 0] ++ zeros 20] } }, cf := { on.cf with moistBad := [0, 60000] } }
    let away := 100000 - 1000 * paramN on pCfOptMeasure
    runs (.moistureCellInvalid 1) m (fun t => isPresent t detMoistureCellInvalid 2) = true ∧
    runs .calibrationAverageDone { on with cf := { on.cf with avg := some ⟨1, 5000, 10000⟩ } } (fun t => t.cf.avg.isNone && t.mb.exch.length == 1) = true ∧
    runs .calibrationAverageDone { on with cf := { on.cf with avg := some ⟨2, 5000, 5000⟩ } } (fun t => t.cf.avg.isNone && t.cf.lastOp == 2) = true ∧
    runs .calibrationAverageDone { on with cf := { on.cf with avg := some ⟨1, 5000, 4999⟩ } } (fun t => t.cf.avg.isSome) = true ∧
    runs .yieldRecordWrite harvested (fun t => t.cf.closedSecs.isEmpty && t.cf.carry == 200 && (findField t 7).any (fun f => f.recs.length == 2 && f.unflushed == 2)) = true ∧
    runs .yieldRecordWrite mapped (fun t => (findField t 7).any (fun f => f.recs.length == 1)) = true ∧
    runs .optimizerWindowEnd (optimizing .settle true 500 0 0) (fun t => t.cf.opt.st == .settle) = true ∧
    runs .optimizerWindowEnd (optimizing .observe true 500 0 0) (fun t => t.cf.opt.st == .settle && t.cf.opt.sent == 510 && t.cf.opt.orig == 500) = true ∧
    runs .optimizerWindowEnd { optimizing .observe true 500 0 0 with cf := { (optimizing .observe true 500 0 0).cf with
      opt := { (optimizing .observe true 500 0 0).cf.opt with holds := [(1, 100001)] } } } (fun t => t.cf.opt.st != .settle && t.cf.opt.up) = true ∧
    runs .optimizerWindowEnd (optimizing .measure true 1000 1000 0) (fun t => t.cf.opt.st == .settle && !t.cf.opt.up && t.cf.opt.sent == 90) = true ∧
    runs .optimizerWindowEnd (optimizing .measure false 0 0 0) (fun t => t.cf.opt.st != .settle && t.mb.exch.length == 1) = true ∧
    decide (away ≤ 100000) = true ∧ elapsed on 0 (1000 * paramN on pCfOptMeasure) = true ∧
    runs .optimizerSettleEnd (optimizing .settle true 500 0 0) (fun t => t.cf.opt.st == .settle) = true ∧
    runs .optimizerHoldEnd { on with clk := { on.clk with ms := 10000 * paramN on pCfOptMeasure }, cf := { on.cf with opt := { on.cf.opt with st := .hold } } }
      (fun t => t.cf.opt.st == .observe) = true ∧
    runs (.optimizerOperatorHoldEnd 0) { on with cf := { on.cf with opt := { on.cf.opt with holds := [(1, 100000), (2, 100000), (1, 100001)] } } }
      (fun t => t.cf.opt.holds == [(2, 100000), (1, 100001)]) = true ∧
    runs .steerGraceExpiry (gracing (paramN on pGnSteerGrace)) (fun t => t.gn.steer == ⟨.off, 3, 0, 0, false⟩) = true ∧
    runs .steerGraceExpiry (gracing (paramN on pGnSteerGrace - 1)) (fun t => t.gn.steer.st == .grace) = true := by
  refine ⟨?_, ?_, ?_, ?_, ?_, ?_, ?_, ?_, ?_, ?_, ?_, ?_, ?_, ?_, ?_, ?_, ?_, ?_⟩ <;> decide +kernel

/-- Valve channel 12 in a state, in pulse mode. -/
def valved (f : VdChan → VdChan) : State :=
  { on with vd := { on.vd with chans := updAt on.vd.chans 11 f, conv := .regulating, charging := true }, an := { on.an with rail := 65000 } }

/-- A pulse due at instant 100,000,000 us. -/
def firing : VdFire := ⟨5000, 100000000, 100020000⟩

/-- A pulse that began at an instant, and reached its present phase at another. -/
def pulsing (startAt since : Nat) : VdPulse := ⟨firing, startAt, startAt, since, some startAt, 0, 0, since, none, false, false, false, false, false, false, false⟩

/-- A state of channel 12 with a pulse. -/
def pulsed (st : VdSt) (startAt since : Nat) : State := valved (fun c => { c with st := st, pulse := some (pulsing startAt since) })

/-- A measurement of the boost phase. -/
def boostOf (ma : Nat) : VdBoost := ⟨ma, 7, 0, 0⟩

theorem test_met_ValvePulsesRun :
    let peak := paramN on (pVdIPeak 11)
    let now := 100000000
    let max := paramN on (pVdBoostMax 11)
    let hold := paramN on (pVdTPeak 11)
    let obs := paramN on (pVdObserveMax 11)
    runs (.boostStartInstant 11 0) (valved (fun c => { c with st := .wait, fire := some { firing with tOn := 100001000 } }))
      (fun t => (vdChan t 11).fire == none && (vdChan t 11).st == .boost) = true ∧
    runs (.boostStartInstant 11 0) (valved (fun c => { c with st := .wait, fire := some { firing with tOn := 100001001 } })) (fun t => (vdChan t 11).st == .wait) = true ∧
    runs (.boostStartInstant 11 0) { (valved (fun c => { c with st := .wait, fire := some { firing with tOn := 100001000 } })) with
      vd := { (valved (fun c => { c with st := .wait, fire := some { firing with tOn := 100001000 } })).vd with banks := List.replicate 4 ⟨false, 0, true⟩ } }
      (fun t => (vdChan t 11).st == .pullBat && (vdChan t 11).weak == 1) = true ∧
    runs (.peakReached 11 0 (boostOf peak)) (pulsed .boost (now - 50) 0) (fun t => (vdChan t 11).st == .peak && (vdChan t 11).energyNow == 7) = true ∧
    runs (.peakReached 11 0 (boostOf (peak - 1))) (pulsed .boost (now - 50) 0) (fun t => (vdChan t 11).st == .boost) = true ∧
    runs (.peakReached 11 0 (boostOf peak)) (pulsed .boost (now - 49) 0) (fun t => (vdChan t 11).st == .peak && (vdChan t 11).earlyRow == 1) = true ∧
    runs (.boostTimeout 11 0 (boostOf 500)) (pulsed .boost (now - max) 0) (fun t => (vdChan t 11).st == .peak) = true ∧
    runs (.boostTimeout 11 0 (boostOf 499)) (pulsed .boost (now - max) 0) (fun t => (vdChan t 11).st == .fault && (vdChan t 11).cause == 1) = true ∧
    runs (.boostTimeout 11 0 (boostOf 499)) (pulsed .boost (now - max + 1) 0) (fun t => (vdChan t 11).st == .boost) = true ∧
    runs (.boostTimeout 11 0 (boostOf 500)) (pulsed .pullBat (now - 10000) 0) (fun t => (vdChan t 11).st == .peak) = true ∧
    runs (.deferTimeout 11 0) (pulsed .defer (now - 500) 0) (fun t => (vdChan t 11).st == .pullBat && (vdChan t 11).weak == 1) = true ∧
    runs (.deferTimeout 11 0) (pulsed .defer (now - 499) 0) (fun t => (vdChan t 11).st == .defer) = true ∧
    runs (.peakEnd 11 0 []) (pulsed .peak 0 (now - hold)) (fun t => (vdChan t 11).st == .hold) = true ∧
    runs (.peakEnd 11 0 []) (pulsed .peak 0 (now - hold + 1)) (fun t => (vdChan t 11).st == .peak) = true ∧
    runs (.releaseInstant 11 0) { pulsed .hold 0 0 with clk := { on.clk with ms := 100019 } } (fun t => (vdChan t 11).st == .release) = true ∧
    runs (.releaseInstant 11 0) (pulsed .hold 0 0) (fun t => (vdChan t 11).st == .hold) = true ∧
    runs (.observeEnd 11 0 []) (pulsed .observe 0 (now - obs)) (fun t => (vdChan t 11).st == .idle && (vdChan t 11).pulses == 1 && (vdChan t 11).noSeatRow == 1) = true ∧
    runs (.observeEnd 11 0 []) (pulsed .observe 0 (now - obs + 1)) (fun t => (vdChan t 11).st == .observe) = true ∧
    runs (.releaseEnd 11 0 49) (pulsed .release 0 0) (fun t => (vdChan t 11).st == .observe) = true ∧
    runs (.releaseEnd 11 0 50) (pulsed .release 0 0) (fun t => (vdChan t 11).st == .release) = true ∧
    runs .holdDutyWindowStep (valved (fun c => { c with holdNow := 9 })) (fun t => (vdChan t 11).holdNow == 0 && (vdChan t 11).holds.getLast? == some 9) = true ∧
    (∀ p ∈ [(58999, true), (60000, false)], runs (.boostRailThreshold p.1) (valved id) (fun t => t.vd.charging == p.2 && t.an.rail == p.1) = true) ∧
    runs (.boostRailThreshold 59999) (valved id) (fun t => t.vd.charging) = true := by
  refine ⟨?_, ?_, ?_, ?_, ?_, ?_, ?_, ?_, ?_, ?_, ?_, ?_, ?_, ?_, ?_, ?_, ?_, ?_, ?_, ?_, ?_, ?_, ?_⟩ <;> decide +kernel

/-- Bank 4 driven. -/
def driven (s : State) : State := { s with vd := { s.vd with banks := updAt s.vd.banks 3 (fun b => { b with on := true }) } }

theorem test_met_ValveFaultsAreDetected :
    runs (.valveFaultDetect 11 0 (.lowSide 15000)) (valved id) (fun t => (vdChan t 11).st == .fault && (vdChan t 11).cause == 3) = true ∧
    runs (.valveFaultDetect 11 0 (.lowSide 15000)) (driven (valved id)) (fun t => (vdChan t 11).cause == 4 && isPresent t detCoilShort 12) = true ∧
    runs (.valveFaultDetect 11 0 (.lowSide 14999)) (valved id) (fun t => (vdChan t 11).st == .off) = true ∧
    runs (.valveFaultDetect 11 0 (.bank 30000)) (valved id) (fun t => (List.range 3).all (fun j => (vdChan t (9 + j)).st == .fault && (vdChan t (9 + j)).cause == 5)) = true ∧
    runs (.valveFaultDetect 11 0 (.bank 29999)) (valved id) (fun t => (vdChan t 11).st == .off) = true ∧
    runs (.valveFaultDetect 11 0 (.bankExcess 1000 20)) (valved id) (fun t => (vdChan t 11).cause == 2 && (vdChan t 10).cause == 5) = true ∧
    runs (.valveFaultDetect 11 0 (.bankExcess 1000 19)) (valved id) (fun t => (vdChan t 11).st == .off) = true ∧
    runs (.valveFaultDetect 11 0 .thermal) (valved id) (fun t => (vdChan t 11).st == .fault && (vdChan t 11).cause == 6) = true ∧
    runs (.valveFaultDetect 11 0 (.bankPin 6001)) (valved id) (fun t => (vdBank t 3).noBoost && isPresent t detBankShortToBattery 4) = true ∧
    runs (.valveFaultDetect 11 0 (.bankPin 6000)) (valved id) (fun t => !(vdBank t 3).noBoost) = true ∧
    runs (.valveFaultDetect 11 0 (.bankPin 6001)) (driven (valved id)) (fun t => !(vdBank t 3).noBoost) = true ∧
    runs (.valveFaultDetect 11 0 (.regulation 301 1000 100)) (valved (fun c => { c with st := .regulate })) (fun t => isPresent t detCurrentRegulationError 12) = true ∧
    runs (.boostOvervoltage 66001 10) (valved id) (fun t => t.vd.conv == .latched && !t.vd.charging) = true ∧
    runs (.boostOvervoltage 66001 9) (valved id) (fun t => t.vd.conv == .regulating) = true ∧
    runs (.boostRailLow 39999 100) (valved id) (fun t => isPresent t detBoostRailBelow40V 0) = true ∧
    runs (.boostRailLow 40000 100) (valved id) (fun t => !isPresent t detBoostRailBelow40V 0) = true ∧
    runs (.boostConverterSlow 54999) (valved id) (fun t => isPresent t detBoostConverterNotReaching55V 0) = true ∧
    runs (.vdOffstateDiag 11 0 ⟨0, 5000, 5000, 7000⟩) (valved id) (fun t => (vdChan t 11).st == .fault || (vdChan t 11).st == .off) = true ∧
    vdDiagnose ⟨5000, 5000, 0, 0⟩ = 0 ∧
    runs (.lowSideThermalHysteresis 11 20) (valved (fun c => { c with st := .fault, cause := 6 })) (fun t => (vdChan t 11).st == .off && (vdChan t 11).cause == 0) = true ∧
    runs (.lowSideThermalHysteresis 11 19) (valved (fun c => { c with st := .fault, cause := 6 })) (fun t => (vdChan t 11).st == .fault) = true := by
  refine ⟨?_, ?_, ?_, ?_, ?_, ?_, ?_, ?_, ?_, ?_, ?_, ?_, ?_, ?_, ?_, ?_, ?_, ?_, ?_, ?_, ?_⟩ <;> decide +kernel

/-! ### The load switches, the receiver and module time -/

/-- Load switch 24 as given; t0 of microsecond 0 is 100,000,000. -/
def switched (f : LsChan → LsChan) : State := { on with ls := { on.ls with chans := updAt on.ls.chans 23 f } }

/-- A sample of a millisecond in which load switch 24 carries a current. -/
def msOf (ma valves : Nat) : LsSample := ⟨List.replicate 23 0 ++ [ma], List.replicate 24 250, List.replicate 24 0, valves, 0⟩

/-- Load switch 24 ON and to be shed first, with a mean dissipation. -/
def hotStages (mean last : Nat) (pri : Int) : State :=
  let s := switched (fun c => { c with st := .on, req := true })
  { s with pf := { s.pf with work := { s.pf.work with params := [(pLsShed 23, pri)] } }
           ls := { s.ls with mw := List.replicate 1000 mean, lastStep := last, above := some 99000 } }

theorem test_met_LoadSwitchesActOfThemselves_1 :
    let lim := lsLimit 23 false
    let rt := paramN on (pLsRetryOn 23)
    let is := fun (t : State) (st : LsSt) => (lsChan t 23).st == st
    runs (.inrushWindowEnd 23 0) (switched (fun c => { c with inrush := some 100000000 })) (fun t => (lsChan t 23).inrush == none) = true ∧
    runs (.currentLimitEntry 23 0 (lim + 1)) (switched (fun c => { c with st := .on })) (fun t => is t .limit && isPresent t detOverCurrent 24) = true ∧
    runs (.currentLimitEntry 23 0 lim) (switched (fun c => { c with st := .on })) (fun t => is t .on) = true ∧
    runs (.currentLimitEntry 23 0 (lim + 1)) (switched (fun c => { c with st := .start })) (fun t => is t .start && (lsChan t 23).limitAt.isSome) = true ∧
    runs (.currentLimitExit 23 0 (lim - 1)) (switched (fun c => { c with st := .limit, limitAt := some 5 })) (fun t => is t .on) = true ∧
    runs (.startAttemptFail 23 0) (switched (fun c => { c with st := .start, limitAt := some (100000000 - rt) })) (fun t => is t .retryWait) = true ∧
    runs (.startAttemptFail 23 0) (switched (fun c => { c with st := .start, limitAt := some (100000001 - rt) })) (fun t => is t .start) = true ∧
    runs (.startAttemptFail 23 0) (switched (fun c => { c with st := .start, retries := 0, limitAt := some 0 }))
      (fun t => is t .latched && (lsChan t 23).cause == 3) = true ∧
    runs (.startAttemptSuccess 23 0) (switched (fun c => { c with st := .start, since := 99990000 })) (fun t => is t .on) = true ∧
    runs (.startAttemptSuccess 23 0) (switched (fun c => { c with st := .start, since := 99990001 })) (fun t => is t .start) = true ∧
    lsGate on 23 = true ∧
    runs (.retryWaitEnd 23 0 1550) (switched (fun c => { c with st := .retryWait, since := 99990000 })) (fun t => is t .start && (lsChan t 23).retries == 7) = true ∧
    runs (.retryWaitEnd 23 0 1551) (switched (fun c => { c with st := .retryWait, since := 99990000 })) (fun t => is t .retryWait) = true ∧
    runs (.lsThermalShutdown 23 0 1750) (switched (fun c => { c with st := .on, limitEnd := some 99999001 })) (fun t => is t .latched && (lsChan t 23).cause == 1) = true ∧
    runs (.lsThermalShutdown 23 0 1750) (switched (fun c => { c with st := .on, coupled := [40001, 40001] })) (fun t => is t .cool) = true ∧
    runs (.lsThermalShutdown 23 0 1750) (switched (fun c => { c with st := .on, coupled := [40001, 40001, 40001] })) (fun t => is t .latched && (lsChan t 23).cause == 2) = true ∧
    runs (.lsThermalShutdown 23 0 1749) (switched (fun c => { c with st := .on })) (fun t => is t .on) = true ∧
    runs (.lsJunctionCooled 23 0 1550) (switched (fun c => { c with st := .cool, req := true })) (fun t => is t .on && (lsChan t 23).turnOns == 1) = true ∧
    runs (.lsJunctionCooled 23 0 1551) (switched (fun c => { c with st := .cool, req := true })) (fun t => is t .cool) = true := by
  refine ⟨?_, ?_, ?_, ?_, ?_, ?_, ?_, ?_, ?_, ?_, ?_, ?_, ?_, ?_, ?_, ?_, ?_, ?_, ?_⟩ <;> decide +kernel

theorem test_met_LoadSwitchesActOfThemselves_2 :
    let is := fun (t : State) (st : LsSt) => (lsChan t 23).st == st
    let olt := paramN on (pLsOlTime 23)
    runs (.demagEnd 23 0 (-999) 49 60) (switched (fun c => { c with st := .demag, since := 99990000 })) (fun t => is t .off && (lsChan t 23).demagUs == 10000) = true ∧
    runs (.demagEnd 23 0 (-1000) 49 60) (switched (fun c => { c with st := .demag })) (fun t => is t .demag) = true ∧
    runs (.demagEnd 23 0 (-999) 50 60) (switched (fun c => { c with st := .demag })) (fun t => is t .demag) = true ∧
    runs (.demagEnd 23 0 0 0 0) (switched (fun c => { c with st := .demag, queued := true, armed := true })) (fun t => is t .start) = true ∧
    runs (.lsOffstateDiag 23 1501 0) (switched id) (fun t => (lsChan t 23).v1 == 1501) = true ∧
    runs (.lsOpenLoadOnstate 23 49 olt) (switched (fun c => { c with st := .on })) (fun t => (lsChan t 23).openLoad && (lsChan t 23).cause == 4) = true ∧
    runs (.lsOpenLoadOnstate 23 50 0) (switched (fun c => { c with st := .on, openLoad := true, cause := 4 })) (fun t => !(lsChan t 23).openLoad) = true ∧
    runs (.dissipationEstimate (msOf 1000 16001)) { (switched id) with ls := { (switched id).ls with mw := List.replicate 999 16001 } }
      (fun t => t.ls.above.isSome && t.ls.below.isNone) = true ∧
    runs .loadShed (hotStages 16001 99990 5) (fun t => is t .demag && t.ls.shed == [23] && t.ls.lastStep == 100000) = true ∧
    runs .loadShed (hotStages 16001 99991 5) (fun t => is t .on) = true ∧ runs .loadShed (hotStages 16000 99990 5) (fun t => is t .on) = true ∧
    shedPick (hotStages 16001 99990 0) = none ∧
    runs .loadRestore { switched (fun c => { c with st := .shed, req := true }) with ls := { (switched (fun c => { c with st := .shed, req := true })).ls with
      shed := [23], below := some 99500, lastStep := 99900 } } (fun t => is t .on && t.ls.shed.isEmpty) = true ∧
    runs .loadRestore { switched (fun c => { c with st := .shed, req := true }) with ls := { (switched (fun c => { c with st := .shed, req := true })).ls with
      shed := [23], below := some 99501, lastStep := 99900 } } (fun t => is t .shed) = true ∧
    runs .budgetExceeded (hotStages 16001 99990 0) (fun t => isPresent t detOutputStageBudgetExceeded 0) = true ∧
    runs (.onTestEnd 23 0 500) (switched (fun c => { c with st := .on, req := true, test := some 99980000 })) (fun t => is t .demag && (lsChan t 23).test == none) = true ∧
    runs (.onTestEnd 23 0 500) (switched (fun c => { c with st := .on, test := some 99980001 })) (fun t => is t .on) = true := by
  refine ⟨?_, ?_, ?_, ?_, ?_, ?_, ?_, ?_, ?_, ?_, ?_, ?_, ?_, ?_, ?_, ?_, ?_⟩ <;> decide +kernel

/-- Antenna 2 as given, with a bias voltage set. -/
def aerial (f : Antenna → Antenna) : State := { on with gn := { on.gn with ants := updAt on.gn.ants 1 f } }

/-- An epoch's measurements with enough satellites for time. -/
def fixOf (sats : Nat) : NavFix :=
  { type := 4, nsat := 8, perSys := [8, 0, 0, 0, 0], tracked := 8, lat := 1, lon := 2, height := 3, vn := 0, ve := 0, vd := 0, roll := 0, pitch := 0, speed := 0,
    hAcc := 20, hdgAcc := 50, baseFixed := false, baseLen := 0, baseAz := 0, velHdg := 0, insHdg := 0, gal := none, bds := none, timeSats := sats, timeUnc := 10,
    grid := 7, freqUnc := 5, leap := 18, gyroBias := [0, 0, 0], accBias := [0, 0, 0] }

theorem test_met_NavigationRuns_1 :
    let set := biasMv on 1
    0 < set ∧
    runs (.antennaBiasSample 1 121 set) (aerial (fun a => { a with st := .ok })) (fun t => (antOf t 1).st == .short && isPresent t detAntennaShort 2) = true ∧
    runs (.antennaBiasSample 1 4 set) (aerial (fun a => { a with st := .ok, count := 99 })) (fun t => (antOf t 1).st == .opened) = true ∧
    runs (.antennaBiasSample 1 5 set) (aerial (fun a => { a with st := .ok, count := 99 })) (fun t => (antOf t 1).st == .ok && (antOf t 1).count == 0) = true ∧
    runs (.antennaBiasSample 1 50 set) (aerial id) (fun t => (antOf t 1).st == .ok) = true ∧
    runs (.antennaShortRetry 1) (aerial (fun a => { a with st := .short, since := 90000 })) (fun t => 0 < (antOf t 1).trial) = true ∧
    runs (.antennaShortRetry 1) (aerial (fun a => { a with st := .short, since := 90001 })) (fun t => (antOf t 1).trial == 0) = true ∧
    runs (.antennaOvervoltage 1 (set + 1000) 0) (aerial (fun a => { a with st := .ok })) (fun t => (antOf t 1).st == .overvolt) = true ∧
    runs (.antennaOvervoltage 1 (set + 999) 0) (aerial (fun a => { a with st := .ok })) (fun t => (antOf t 1).st == .ok) = true ∧
    runs (.antennaOvervoltage 1 set 1000) (aerial (fun a => { a with st := .overvolt })) (fun t => (antOf t 1).st == .ok) = true ∧
    runs (.trackingLoopUpdate 127 true) on (fun t => t.gn.chans.isEmpty) = true ∧
    runs (.trackingLoopUpdate 0 true) { on with gn := { on.gn with chans := [⟨0, 1, 5, 0, false, 0, 0⟩] } } (fun t => t.gn.chans.length == 1) = true ∧
    runs (.channelAllocation []) on (fun t => t.gn.cands.isEmpty) = true ∧
    runs (.searchDwellDone 3 0 1 5 false) { on with gn := { on.gn with engines := List.replicate 4 ⟨some (0, 1, 5), 3, true⟩ } }
      (fun t => (t.gn.engines.drop 3).all (fun e => e.cell == 4 && !e.confirming)) = true ∧
    runs (.searchDwellDone 3 0 1 5 true) { on with gn := { on.gn with engines := List.replicate 4 ⟨some (0, 1, 5), 3, false⟩ } }
      (fun t => (t.gn.engines.drop 3).all SearchEng.confirming) = true ∧
    runs (.searchDwellDone 3 1 1 5 true) { aerial (fun a => { a with st := .ok }) with gn := { (aerial (fun a => { a with st := .ok })).gn with engines := List.replicate 4 ⟨some (1, 1, 5), 3, true⟩ } }
      (fun t => t.gn.chans.map TrackChan.sat == [5]) = true ∧
    runs (.notchMonitor 3 [] 0) on (fun t => t.gn.paths.length == 4) = true := by
  refine ⟨?_, ?_, ?_, ?_, ?_, ?_, ?_, ?_, ?_, ?_, ?_, ?_, ?_, ?_, ?_, ?_, ?_⟩ <;> decide +kernel

/-- An epoch of frame 4,993, to be released before frame 5,001. -/
def epoched (e : Nat) : State := { on with gn := { on.gn with epoch := some (e, fixOf 4) } }

theorem test_met_NavigationRuns_2 :
    let age := paramN on pGnRtkAgeMax
    let dr := 1000 * paramN on pGnDrMax
    runs .correctionsStale { on with gn := { on.gn with rtcm := { on.gn.rtcm with lastMsm := some (100000 - age) } } } (fun t => t.gn.rtcm.stale) = true ∧
    runs .correctionsStale { on with gn := { on.gn with rtcm := { on.gn.rtcm with lastMsm := some (100001 - age) } } } (fun t => !t.gn.rtcm.stale) = true ∧
    runs (.navEpoch (fixOf 4)) on (fun t => t.gn.epoch.isSome && t.gn.time.lastAccept == some 100000 && t.gn.time.leap == 18) = true ∧
    runs (.navEpoch (fixOf 3)) on (fun t => t.gn.epoch.isSome && t.gn.time.lastAccept == none) = true ∧
    runs (.navEpoch (fixOf 4)) { on with clk := { on.clk with frame := 5001 } } (fun t => t.gn.epoch.isNone) = true ∧
    runs .navSolutionRelease (epoched 4993) (fun t => t.gn.epoch.isNone && t.gn.part.epochFrame == 4993 && t.gn.part.lat == 1) = true ∧
    runs .navSolutionRelease (epoched 4994) (fun t => t.gn.epoch.isSome) = true ∧
    runs .navSolutionRelease (epoched 4992) (fun t => t.gn.epoch.isNone && t.gn.part.epochFrame == 0) = true ∧
    runs .deadReckoningLimit { on with gn := { on.gn with drSince := some 0, part := { gnssPart0 with type := 5 } }, clk := { on.clk with ms := dr } }
      (fun t => t.gn.part.type == 0) = true ∧
    runs .deadReckoningLimit { on with gn := { on.gn with drSince := some 1, part := { gnssPart0 with type := 5 } }, clk := { on.clk with ms := dr } }
      (fun t => t.gn.part.type == 5) = true ∧
    runs .baselineMismatch { on with gn := { on.gn with badBase := some 90000 } } (fun t => isPresent t detBaselineMismatch 0) = true ∧
    runs .baselineMismatch { on with gn := { on.gn with badBase := some 90001 } } (fun t => !isPresent t detBaselineMismatch 0) = true ∧
    paramN on pGnImuOrient = 0 ∧
    runs (.imuSample [1, 2, 3] [4, 5, 6] 7) on (fun t => t.gn.part.gyro == [1, 2, 3] && t.gn.part.accel == [4, 5, 6] && t.gn.part.yawRate == 7) = true ∧
    runs (.inertialFault true) on (fun t => isPresent t detInertialFault 0) = true ∧
    runs (.inertialFault false) { on with gn := { on.gn with sat := [0, 0, 0, 0, 0, 100] } } (fun t => isPresent t detInertialFault 0) = true ∧
    runs (.inertialFault false) { on with gn := { on.gn with sat := [0, 0, 0, 0, 0, 99], imuPassed := true } } (fun t => t.gn.imuOk) = true := by
  refine ⟨?_, ?_, ?_, ?_, ?_, ?_, ?_, ?_, ?_, ?_, ?_, ?_, ?_, ?_, ?_, ?_, ?_⟩ <;> decide +kernel

/-- Module time as given. -/
def timed1 (f : TimeState → TimeState) : State := { on with gn := { on.gn with time := f on.gn.time } }

/-- PPSI in a mode. -/
def ppsiIn (m : Int) (f : TimeState → TimeState) : State :=
  { timed1 f with pf := { on.pf with settings := [(pGnPpsiMode, m)], work := { on.pf.work with params := [(pGnPpsiMode, m)] } } }

theorem test_met_TimeIsKept :
    runs .timeHoldoverEntry (timed1 (fun u => { u with st := .locked, lastAccept := some 98000, unc := 9 })) (fun t => t.gn.time.st == .holdover && t.gn.time.u0 == 9) = true ∧
    runs .timeHoldoverEntry (timed1 (fun u => { u with st := .locked, lastAccept := some 98001 })) (fun t => t.gn.time.st == .locked) = true ∧
    runs .timeEstablish (timed1 (fun u => { u with isRef := true, lastAccept := some 99000, slewing := false, meas := 300000000000 }))
      (fun t => t.gn.time.renumber == some 3 && t.gn.time.renumSince == 100000) = true ∧
    runs .timeEstablish (timed1 (fun u => { u with isRef := false })) (fun t => t.gn.time.renumber == none) = true ∧
    runs .renumberWaitTimeout (timed1 (fun u => { u with renumber := some 3, renumSince := 40000 })) (fun t => isPresent t detTimeNotEstablished 0) = true ∧
    runs .renumberWaitTimeout (timed1 (fun u => { u with renumber := some 3, renumSince := 40001 })) (fun t => !isPresent t detTimeNotEstablished 0) = true ∧
    runs .ppsPulse { on with clk := { on.clk with frame := 5001 } } (fun t => t.gn.time.pulse == none) = true ∧
    runs .ppsPulse (timed1 (fun u => { u with st := .locked })) (fun t => t.gn.time.step == none) = true ∧
    runs .ppsPulse (timed1 (fun u => { u with st := .holdover, step := some 9, stepAt := 5000, meas := 77 })) (fun t => t.gn.time.st == .locked && t.gn.time.held == 77) = true ∧
    runs (.ppsiEdge 100) (ppsiIn 0 id) (fun t => t.gn.time.ppsiAt == none) = true ∧
    runs (.ppsiEdge 100) (ppsiIn 1 id) (fun t => t.gn.time.ppsiAt == some 100000 && t.gn.time.ppsiSeen) = true ∧
    runs (.ppsiEdge 100) (ppsiIn 2 id) (fun t => t.gn.time.ppsiSeen) = true ∧
    runs .ppsiMissing (timed1 (fun u => { u with ppsiAt := some 97000, ppsiSeen := true })) (fun t => !t.gn.time.ppsiSeen && isPresent t detPpsiMissing 0) = true ∧
    runs .ppsiMissing (timed1 (fun u => { u with ppsiAt := some 97001, ppsiSeen := true })) (fun t => t.gn.time.ppsiSeen) = true := by
  refine ⟨?_, ?_, ?_, ?_, ?_, ?_, ?_, ?_, ?_, ?_, ?_, ?_, ?_, ?_⟩ <;> decide +kernel

/-! ### The fabric, alignment, CAN and Mica -/

/-- Node 4 with link state flooded as it stands, at a time, and what the database holds of the module with the next unique ID. -/
def flooding (at' : Nat) : State :=
  { on with pf := { on.pf with settings := [(pFbNode, 4)] }
            fb := { on.fb with flooded := some (ownLsa { on with pf := { on.pf with settings := [(pFbNode, 4)] } }), floodAt := at', seq := 9, ref := uid + 1
                               ports := on.fb.ports.set 1 { port0 with link := true } } }

/-- The module with the next unique ID, as node 5. -/
def nextLsa (seq : Nat) : Lsa := ⟨uid + 1, 5, seq, 0, 0, 0, 0, 0, [], [], [], 0⟩

/-- With that module in the database since a time. -/
def knowing (at' : Nat) : State := { flooding 99000 with fb := { (flooding 99000).fb with db := [⟨nextLsa 7, at'⟩] } }

theorem test_met_FabricActs_lsa :
    ((flooding 99000).fb.flooded.map lsaBody = some (lsaBody (ownLsa (flooding 99000))) ∧ elapsed (flooding 99000) (flooding 99000).fb.floodAt 1000 = true ∧
      elapsed (flooding 99001) (flooding 99001).fb.floodAt 1000 = false ∧ (flooding 99000).rs.supUp = true) ∧
    (portOn (knowing 99000) 1 = true ∧ (nextLsa 8).uid ≠ uid ∧ (knowing 99000).fb.db.find? (fun e => e.lsa.uid == (nextLsa 8).uid) = some ⟨nextLsa 7, 99000⟩ ∧
      lsaBody (nextLsa 7) = lsaBody (nextLsa 8) ∧ lsaBody (nextLsa 7) ≠ lsaBody { nextLsa 8 with node := 6 }) ∧
    ((flooding 0).fb.db.find? (fun e => e.lsa.uid == (nextLsa 8).uid) = none) ∧
    (∀ e ∈ (knowing 97001).fb.db, (knowing 97001).clk.ms < e.at' + 3000) ∧ (∃ e ∈ (knowing 97000).fb.db, e.at' + 3000 ≤ (knowing 97000).clk.ms) := by
  refine ⟨⟨rfl, by decide +kernel, by decide +kernel, by decide +kernel⟩, ⟨by decide +kernel, ?_, ?_, rfl, ?_⟩, rfl, ?_, ?_⟩
  · simp [nextLsa]
  · simp [knowing, nextLsa]
  · simp [nextLsa, lsaBody]
  · simp [knowing, flooding, on]
  · simp [knowing, flooding, on]

/-- A cell received: version 1, cell 2, no hops, one value, FRAME 0, MACHINE_SET folded. -/
def cellOf (hops : Nat) (frame : Nat) : Bytes := bytes [1, 2, hops, 1] ++ u16 frame ++ u16 (msetFold on.pf.work.machineSet) ++ u16 0 ++ leI 4 77 ++ zeros 32

/-- A generation in force with a path for cell 2 of node 3, and a share of one value received from it. -/
def sharing : State :=
  let s := flooding 99000
  { s with pf := { s.pf with work := { s.pf.work with cream := [bytes [2, 0, 2, 3] ++ zeros 12] } }
           fb := { s.fb with force := ⟨1, 0, [], [⟨3, 2, 9, [(3, 0), (4, 1)], [(3, 1)]⟩]⟩ } }

theorem test_met_FabricActs_ports :
    runs (.verdict 1 ⟨0, 6000, []⟩) (flooding 0) (fun t => t.fb.waiting.isEmpty) = true ∧
    runs (.verdict 1 ⟨1, 6000, []⟩) (flooding 0) (fun t => t.fb.waiting.map Generation.gen == [1]) = true ∧
    runs .verdictInForce { on with fb := { on.fb with waiting := [⟨1, 5000, [], []⟩, ⟨2, 5001, [], []⟩] } }
      (fun t => t.fb.force.gen == 1 && t.fb.waiting.map Generation.gen == [2]) = true ∧
    runs (.helloSend 1) (flooding 0) (fun t => t.fb.tx.length == 1) = true ∧ runs (.helloSend 0) (flooding 0) (fun t => t.fb.tx.isEmpty) = true ∧
    runs (.neighbourTimeout 1) (flooding 0) (fun t => !(fbPort t 1).up) = true ∧
    (fbPort { on with fb := { on.fb with ports := on.fb.ports.set 1 { port0 with link := true, up := true, last := 99970 } } } 1).last + 30 ≤ on.clk.ms ∧
    runs (.linkDown 0) (flooding 0) (fun t => !(fbPort t 0).link) = true ∧
    runs (.linkUp 0) (flooding 0) (fun t => (fbPort t 0).link && !(fbPort t 0).up) = true ∧
    runs (.linkDegraded 1 7) (flooding 0) (fun t => (fbPort t 1).sqi == 7 && (fbPort t 1).lowSince == none) = true ∧
    runs (.linkDegraded 1 0) { on with fb := { on.fb with ports := on.fb.ports.set 1 { port0 with link := true, lowSince := some 99000 } } }
      (fun t => isPresent t detLinkDegraded 2) = true ∧
    runs (.delayReq 1 (some (1, 2, 3))) (flooding 0) (fun t => t.fb.tx == [⟨1, .delayResp 1 2 3⟩]) = true ∧
    runs (.delayReq 1 none) (flooding 0) (fun t => (fbPort t 1).reqId == 1) = true ∧
    runs (.delayResp 1 0 10 20 30 60) (flooding 0) (fun t => (fbPort t 1).delays == [20]) = true ∧
    runs (.delayResp 1 1 10 20 30 60) (flooding 0) (fun t => (fbPort t 1).delays == []) = true ∧
    runs (.creamCellReceive 1 false 3 4 false (cellOf 0 0)) sharing (fun t => t.fb.framesBad == 1) = true ∧
    runs (.creamCellReceive 1 true 3 4 false (zeros 45)) sharing (fun t => t.fb.framesBad == 1) = true ∧
    runs (.creamCellReceive 1 true 3 9 false (cellOf 31 0)) sharing (fun t => t.fb.tx.isEmpty) = true ∧
    runs (.creamCellReceive 1 true 3 9 false (cellOf 30 0)) sharing (fun t => t.fb.tx.length == 1) = true ∧
    runs (.creamCellReceive 1 true 3 4 false (cellOf 0 (creamFrame sharing % 65536))) sharing (fun t => t.fb.rx.map CreamRx.values == [[77]]) = true ∧
    runs (.creamCellReceive 1 true 3 4 false (cellOf 0 ((creamFrame sharing + 1) % 65536))) sharing (fun t => t.fb.discarded == 1 && t.fb.rx.isEmpty) = true ∧
    runs (.creamSend 2) (flooding 0) (fun t => t.fb.tx.isEmpty) = true := by
  refine ⟨?_, ?_, ?_, ?_, ?_, ?_, ?_, ?_, ?_, ?_, ?_, ?_, ?_, ?_, ?_, ?_, ?_, ?_, ?_, ?_, ?_, ?_⟩ <;> decide +kernel

theorem test_met_FabricActs_others :
    (portOn (flooding 0) 1 = true ∧ (∃ x, getKey 77 [(77, 5)] = some x ∧ 5 ≤ x) ∧ (∀ x, getKey uid (flooding 0).fb.assigns = some x → x < 6)) ∧
    ((∀ e ∈ (flooding 0).fb.db, e.lsa.uid ≠ uid) ∧ myNode (flooding 0) ≠ 0 ∧ (fbPort (flooding 0) 1).link = true) ∧
    ((flooding 0).fb.ref ≠ uid ∧ (flooding 0).gn.time.refMsg = [] ∧ (zeros 48).length = 48) ∧
    (creamOn { flooding 0 with fb := { (flooding 0).fb with align := .aligned } } = true ∧ (pathOf sharing 3 2).isSome = true) := by
  refine ⟨⟨by decide +kernel, ⟨5, by decide, by decide⟩, ?_⟩, ⟨by simp [flooding, on, State.reset, fabric0], by decide +kernel, by decide +kernel⟩,
    ⟨by simp [flooding], by decide +kernel, by decide +kernel⟩, by decide +kernel, by decide +kernel⟩
  intro x h
  exact absurd h (by simp [flooding, on, getKey, State.reset, fabric0])

/-- In a state of alignment, in range since a time and out of range since another. -/
def aligned (st : AlignSt) (inS outS : Option Nat) : State := { on with fb := { on.fb with align := st, inSince := inS, outSince := outS } }

theorem test_met_AlignmentAndTimeMessages :
    (fnsIdle on = true ∧ (alignOn 0 3 (aligned .unaligned none none)).fb.step = some 3) ∧ (alignOn 0 3 (acting .enabled 0)).fb.align = .foreign ∧
    (alignOn 1000000 0 (aligned .aligning (some 99000) none)).fb.align = .aligned ∧ (alignOn 1000000 0 (aligned .aligning (some 99001) none)).fb.align = .aligning ∧
    (alignOn 0 1 (aligned .aligning (some 99001) none)).fb.inSince = none ∧ (alignOn 0 0 (aligned .aligned none (some 5))).fb.outSince = none ∧
    (alignOn 0 1 (aligned .aligned none (some 99900))).fb.align = .aligning ∧ (alignOn 0 1 (aligned .aligned none (some 99901))).fb.align = .aligned ∧
    (alignOn 0 0 (aligned .syncHold none none)).fb.align = .aligned ∧ (alignOn 0 1 (aligned .foreign none none)).fb.align = .aligning ∧
    runs (.sync 0 ⟨1, 5000, 0, 0, 0, 0⟩ 0) on (fun t => t.fb.sync == none) = true ∧
    (portOn (flooding 0) 1 = true ∧ (fbPort (flooding 0) 1).link = true) ∧ inRecovery on = false ∧ (flooding 0).fb.sync = none ∧
    elapsed on 99900 100 = true ∧ elapsed on 90000 10000 = true ∧
    (on.fb.ref = 0 ∧ on.gn.time.renumber = none) ∧
    (∀ l ∈ database on, bit l.flags 0 = false) ∧
    (5400 % 1000 = 400 ∧ on.rs.supUp = true) ∧
    runs .timeMessageQueue on (fun t => t.gn.time.msg.isEmpty) = true ∧
    runs .timeMessageQueue { on with clk := { on.clk with frame := 5400 } } (fun _ => true) = true := by
  refine ⟨?_, ?_, ?_, ?_, ?_, ?_, ?_, ?_, ?_, ?_, ?_, ?_, ?_, ?_, ?_, ?_, ?_, ?_, ?_, ?_, ?_⟩ <;> decide +kernel

/-- Port 4 of CAN as given. -/
def canAs (f : CanPort → CanPort) : State := { on with cn := { on.cn with ports := updAt on.cn.ports 3 f } }

/-- Sending, with host frame 9 in buffer 2. -/
def sending (st : CtrlSt) (tec noAck : Nat) : State := canAs (fun x => { x with st := st, txErr := tec, noAck := noAck, bufs := [none, none, some ⟨hostFrame 9, false⟩] })

/-- A connection of port 4 with peer 17, moved last at a time. -/
def connected (out : Bool) (since : Nat) : State := canAs (fun x => { x with conns := [⟨17, out, 20, 3, 1, 1, [], since⟩] })

theorem test_met_CanPortsAct :
    let p := fun (t : State) => canPort t 3
    runs (.addressClaimTimeout 3) (canAs (fun x => { x with claim := .claiming, claimSince := 99750 })) (fun t => (p t).claim == .claimed) = true ∧
    runs (.addressClaimTimeout 3) (canAs (fun x => { x with claim := .claiming, claimSince := 99751 })) (fun t => (p t).claim == .claiming) = true ∧
    runs (.canIntegrationDone 3) (canAs (fun x => { x with st := .integrating })) (fun t => (p t).st == .errorActive || (p t).st == .listenOnly) = true ∧
    runs (.canIntegrationDone 3) on (fun t => (p t).st == .disabled) = true ∧
    runs (.canBusOffRecovery 3) (canAs (fun x => { x with st := .busOff, txErr := 256, rxErr := 5 })) (fun t => (p t).st == .errorActive && (p t).txErr == 0 && (p t).rxErr == 0) = true ∧
    runs (.canTxComplete 3 2 150) (sending .errorPassive 128 5) (fun t => (p t).sent == 1 && (p t).txErr == 127 && (p t).st == .errorActive && t.cn.sentHandles == [9]) = true ∧
    runs (.canTxComplete 3 1 150) (sending .errorPassive 128 5) (fun t => (p t).sent == 0) = true ∧
    runs (.canTxError 3 2 .arbLost) (sending .errorActive 5 0) (fun t => (p t).arbLosses == 1 && (p t).txErr == 5) = true ∧
    runs (.canTxError 3 2 (.bitError true)) (sending .errorActive 120 0) (fun t => (p t).collisions == 1 && (p t).txErr == 128 && (p t).st == .errorPassive) = true ∧
    runs (.canTxError 3 2 (.bitError false)) (sending .errorPassive 247 0) (fun t => (p t).st == .errorPassive) = true ∧
    runs (.canTxError 3 2 (.bitError false)) (sending .errorPassive 248 0) (fun t => (p t).st == .busOff && (p t).busOffs == 1) = true ∧
    runs (.canTxError 3 2 (.ackError false)) (sending .errorPassive 128 99) (fun t => (p t).txErr == 128 && (p t).noAck == 100 && isPresent t detNoAcknowledge 4) = true ∧
    runs (.canTxError 3 2 (.ackError true)) (sending .errorPassive 128 98) (fun t => (p t).txErr == 136 && !isPresent t detNoAcknowledge 4) = true ∧
    runs (.canDominantTimeout 3 true 4001) (sending .errorActive 0 0) (fun t => isPresent t detBusDominant 4) = true ∧
    runs (.canDominantTimeout 3 false 4000) (sending .errorActive 0 0) (fun t => !isPresent t detDominantTimeOut 4) = true ∧
    runs (.transportTimeout 3 17 false) (connected false 98750) (fun t => (p t).aborts == 1 && t.mb.malformed == 1) = true ∧
    runs (.transportTimeout 3 17 true) (connected true 98750) (fun t => (p t).aborts == 1 && t.mb.malformed == 0) = true ∧
    runs (.transportTimeout 3 17 true) (connected true 98751) (fun t => (p t).aborts == 0) = true ∧
    runs (.transportTimeout 3 18 true) (connected true 98750) (fun t => (p t).aborts == 0) = true := by
  refine ⟨?_, ?_, ?_, ?_, ?_, ?_, ?_, ?_, ?_, ?_, ?_, ?_, ?_, ?_, ?_, ?_, ?_, ?_, ?_⟩ <;> decide +kernel

/-- Mica with two bytes at the end of bank 1, and bank 1's port B busy for some cycles. -/
def filled (busy : Nat) : State :=
  { on with mc := { on.mc with mem := [⟨2097150, 0xAB⟩, ⟨2097151, 0xCD⟩], banks := updAt on.mc.banks 1 (fun b => { b with busyB := busy }) } }

/-- A read and a write of a master at an address. -/
def reading (m a : Nat) : MicaReq := ⟨m, a, none, false⟩
def writing (m a : Nat) (w : Bytes) : MicaReq := ⟨m, a, some w, false⟩

/-- With losses of master 3 at bank 1. -/
def losing (n : Nat) : State := { filled 0 with mc := { (filled 0).mc with losses := if n = 0 then [] else [(19, n)] } }

theorem test_met_BanksServeMasters :
    let rd := fun (t : State) (a : Nat) => readByte t.mc.mem a
    exec (.micaAccess 0 [reading 1 67108864]) on = .fault .outsideMica ∧
    (filled 0).mc.mem.wf = true ∧ (filled 0).mc.banks.length = 64 ∧ (filled 0).mc.promotions.length = 9 ∧
    runs (.micaAccess 63 [reading 8 67108863]) on (fun t => t.mc.answers == [⟨8, zeros 8, true⟩]) = true ∧
    runs (.micaAccess 63 [reading 0 67108863]) { on with mc := { on.mc with banks := List.replicate 64 bank0 } } (fun t => t.mc.answers.isEmpty) = true ∧
    runs (.micaAccess 1 [reading 8 2097151]) (filled 0) (fun t => t.mc.answers == [⟨8, zeros 6 ++ bytes [0xAB, 0xCD], false⟩]) = true ∧
    runs (.micaAccess 1 [reading 0 2097144]) (filled 1) (fun t => t.mc.answers == [⟨0, zeros 6 ++ bytes [0xAB, 0xCD], false⟩]) = true ∧
    runs (.micaAccess 1 [writing 8 2097151 (bytes [1, 2])]) (filled 0)
      (fun t => rd t 2097151 == 1 && rd t 2097150 == 0xAB && rd t 2097152 == 0 && (bankOf t 1).busyB == 1) = true ∧
    runs (.micaAccess 1 [writing 8 2097144 (bytes [1, 2, 3, 4, 5, 6, 7, 8])]) (filled 0) (fun t => rd t 2097151 == 8 && (bankOf t 1).busyB == 0) = true ∧
    runs (.micaAccess 1 [reading 8 2097151]) (filled 1) (fun t => t.mc.answers.isEmpty && (bankOf t 1).busyB == 0 && lossOf t 1 8 == 1) = true ∧
    runs (.micaAccess 1 [reading 2 1048576, reading 3 1048576]) (losing 63)
      (fun t => t.mc.answers.map MicaAnswer.master == [2] && lossOf t 1 3 == 64 && nth t.mc.promotions 3 0 == 1) = true ∧
    runs (.micaAccess 1 [reading 2 1048576, reading 3 1048576]) (losing 64) (fun t => t.mc.answers.map MicaAnswer.master == [3] && lossOf t 1 3 == 0) = true ∧
    runs (.micaAccess 1 [reading 0 1048576, writing 3 1048580 (zeros 4)]) (filled 0) (fun t => t.mc.answers.map MicaAnswer.master == [0] && lossOf t 1 3 == 1) = true ∧
    runs (.micaAccess 1 [reading 0 1048576, writing 3 1048584 (zeros 4)]) (filled 0) (fun t => t.mc.answers.map MicaAnswer.master == [0, 3]) = true := by
  refine ⟨rfl, ?_, ?_, ?_, ?_, ?_, ?_, ?_, ?_, ?_, ?_, ?_, ?_, ?_, ?_⟩ <;> decide +kernel

/-- Bank 1 in a state. -/
def banked (st : BankSt) : State := { filled 0 with mc := { (filled 0).mc with banks := updAt (filled 0).mc.banks 1 (fun b => { b with st := st }) } }

/-- The scrub at a line, with bank 9 waiting for one or not. -/
def scrubbing (line : Nat) (nine : Bool) : State :=
  { on with mc := { on.mc with banks := (List.replicate 64 bank0).set 9 { bank0 with scrub := nine }, scrubAt := line, lines := 1048575 } }

theorem test_met_BanksKeepTheirContent :
    let rd := fun (t : State) (a : Nat) => readByte t.mc.mem a
    exec (.micaAtomic 1 .add32 67108864 0) on = .fault .outsideMica ∧
    runs (.micaAtomic 0 .add32 1048576 1) (filled 0) (fun t => t.mc.answers == [⟨0, zeros 4, true⟩]) = true ∧
    runs (.micaAtomic 8 .add32 1048577 1) (filled 0) (fun t => t.mc.answers == [⟨8, zeros 4, true⟩]) = true ∧
    runs (.micaAtomic 8 .add32 2097148 0x00010000) (filled 0) (fun t => t.mc.answers == [⟨8, bytes [0, 0, 0xAB, 0xCD], false⟩] && rd t 2097150 == 0xAC && rd t 2097151 == 0xCD) = true ∧
    runs (.micaAtomic 8 .add64 2097144 0xFFFFFFFFFFFFFFFF) (filled 0) (fun t => rd t 2097144 == 0xFF && rd t 2097150 == 0xAA) = true ∧
    runs (.micaAtomic 8 .swap64 2097144 7) (filled 0) (fun t => rd t 2097144 == 7 && rd t 2097151 == 0) = true ∧
    runs (.micaAtomic 8 .swap32 2097148 7) (filled 0) (fun t => rd t 2097148 == 7 && (bankOf t 1).busyB == 1) = true ∧
    runs (.micaAtomic 8 .swap32 67108860 7) on (fun t => t.mc.answers == [⟨8, zeros 8, true⟩]) = true ∧
    runs (.bankPowerRequest 1 .ret) (banked .on) (fun t => (bankOf t 1).st == .ret && rd t 2097151 == 0xCD) = true ∧
    runs (.bankPowerRequest 1 .on) (banked .ret) (fun t => (bankOf t 1).st == .on && (bankOf t 1).scrub && rd t 2097151 == 0xCD) = true ∧
    runs (.bankPowerRequest 1 .off) (banked .ret) (fun t => (bankOf t 1).st == .off && rd t 2097151 == 0) = true ∧
    runs (.bankPowerRequest 1 .ret) (banked .off) (fun t => (bankOf t 1).st == .off) = true ∧
    runs (.bankPowerRequest 1 .on) (banked .off) (fun t => (bankOf t 1).st == .on && !(bankOf t 1).ready) = true ∧
    runs (.bankZeroDone 63) { on with mc := { on.mc with banks := List.replicate 64 { bank0 with ready := false } } } (fun t => (bankOf t 63).ready) = true ∧
    runs (.micaUncorrectable 67108864 0) on (fun t => t.mc.uncorrectable == 0) = true ∧
    (∀ b ∈ [0, 3, 4, 8, 12, 16, 32, 48], runs (.micaUncorrectable (1048576 * b) 0) on (fun t => t.mc.uncorrectable == 1 && t.mc.badAddr == 1048576 * b) = true) ∧
    runs (.scrubLine 9 false 0) (scrubbing 1048575 false) (fun t => t.mc.scrubAt == 0 && t.mc.lines == 0 && t.mc.corrected == 8 && t.mc.passAt == 100000) = true ∧
    runs (.scrubLine 0 false 0) (scrubbing 16383 false) (fun t => t.mc.scrubAt == 16384) = true ∧
    runs (.scrubLine 0 false 0) (scrubbing 0 true) (fun t => t.mc.scrubAt == 16384 * 9 + 1) = true := by
  refine ⟨rfl, ?_, ?_, ?_, ?_, ?_, ?_, ?_, ?_, ?_, ?_, ?_, ?_, ?_, ?_, ?_, ?_, ?_, ?_⟩ <;> decide +kernel

/-! ### Storage, the recorder, the chain of an update and Rennet -/

/-- Field 7 with records that wait for the NAND. -/
def owing (n : Nat) : State :=
  { on with cf := { on.cf with fields := [⟨7, List.replicate n (zeros 48), none, 0, n, false⟩] } }

/-- The shared ring in a state since a time, a raw capture done. -/
def ringed (r : RingSt) (since : Nat) (st : QzCapSt) : State :=
  { on with mc := { on.mc with ring := r, ringSince := since }, qz := { on.qz with cap := ⟨st, 1, 5000, 5, 5, bytes [1]⟩ } }

theorem test_met_StorageActsOfItself :
    let due := 1000 * paramN on pMcMapFlushPeriod
    runs (.nandWriteDone .other false) on (fun t => t.mc.failed == [.other] && t.mc.nandRetries == 1) = true ∧
    runs (.nandWriteDone .other false) { on with mc := { on.mc with failed := [.other] } } (fun t => t.mc.failed.isEmpty) = true ∧
    runs (.nandWriteDone .settings true) { on with pf := { on.pf with writes := [⟨[], 90000, false⟩] } } (fun t => t.pf.writes.isEmpty) = true ∧
    runs (.nandWriteDone .page true) { owing 3 with mc := { on.mc with flight := some (7, 2) } }
      (fun t => t.mc.flight == none && t.mc.flushFrame == 5000 && t.cf.fields.map MapField.unflushed == [1]) = true ∧
    runs .sharedRingTimer (ringed .free 90000 .idle) (fun t => (bankOf t 32).st == .ret && (bankOf t 47).st == .ret && (bankOf t 48).st == .on) = true ∧
    runs .sharedRingTimer (ringed .free 90001 .idle) (fun t => (bankOf t 32).st == .on) = true ∧
    runs .sharedRingTimer { ringed .capture 0 .done with clk := { on.clk with ms := 600000 } } (fun t => t.mc.ring == .free && t.qz.cap.data.isEmpty) = true ∧
    runs .sharedRingTimer { ringed .capture 1 .done with clk := { on.clk with ms := 600000 } } (fun t => t.mc.ring == .capture) = true ∧
    runs .rawCaptureDone (ringed .capture 0 .running) (fun t => t.qz.cap.st == .done && t.mc.ringSince == 100000) = true ∧
    flushDue (owing 85) = true ∧ runs .mapFlushPage (owing 86) (fun t => t.mc.flight == some (7, 85)) = true ∧
    runs .mapFlushPage { on with clk := { on.clk with ms := due } } (fun t => nth t.mc.served 1 0 == due) = true ∧
    runs (.mapMirrorPage (some (9, u32 1 ++ zeros 48))) on (fun t => t.cf.fields.any (fun f => f.mirror && f.id == 9 && (f.recs.drop 1).length == 1)) = true ∧
    runs (.churnStarvation 7) on (fun t => nth t.mc.starved 7 none == some 100000) = true ∧
    runs (.churnStarvation 7) { on with mc := { on.mc with starved := List.replicate 8 (some 0) } } (fun t => nth t.mc.starved 7 none == some 0) = true ∧
    runs (.wearCompaction 0) on (fun t => nth t.mc.served 2 0 == 100000) = true ∧
    runs .tapCalibrationCopy on (fun t => nth t.mc.served 3 0 == 100000) = true ∧
    runs (.converterSelfCalibration 2 9) on (fun t => t.mc.calibrating == some (2, 9)) = true ∧
    runs (.almanacCollection 4 (bytes [7])) on (fun t => getKey 4 t.mc.almanac == some (bytes [7])) = true ∧
    runs .telemetry on (fun t => t.mc.telemetry == 256) = true ∧
    runs .telemetry { on with mc := { on.mc with life := 100 } } (fun t => t.mc.telemetry == 0) = true ∧
    runs (.nandLifeCheck 250) on (fun t => t.mc.life == 100 && isPresent t detNandLife 0) = true ∧
    runs (.nandLifeCheck 3) on (fun t => t.mc.life == 3 && !isPresent t detNandLife 0) = true := by
  refine ⟨?_, ?_, ?_, ?_, ?_, ?_, ?_, ?_, ?_, ?_, ?_, ?_, ?_, ?_, ?_, ?_, ?_, ?_, ?_, ?_, ?_, ?_, ?_⟩ <;> decide +kernel

/-- An occurrence of a detector, at frame 5,000 of power cycle 1. -/
def occ (code inst : Nat) (lasting injected : Bool) : Occ := ⟨code, inst, 6, lasting, injected, 5000, false, 100, 1, false⟩

/-- A record of a detector, with its RSEQ. -/
def recOf (n code inst : Nat) (active kept injected : Bool) : EvRec := ⟨n, code, inst, false, kept, false, active, injected, 4990, 4990, 99, 1, 6, 1, []⟩

/-- A snapshot occurrence waiting, with records in the area. -/
def snapping (o : Occ) (area : List EvRec) : State := { on with ev := { on.ev with snapq := [o], snaps := area, nextRseq := 9 } }

theorem test_met_RecorderWritesAndMerges :
    (isFixedCode detVbatUndervoltage = false ∧ (detRow detVbatUndervoltage).isSome = true ∧ domOf on 12 = .on) ∧
    runs (.snapshotQueueWrite 0) (snapping (occ detVbatUndervoltage 0 true false) [])
      (fun t => t.ev.snaps.map EvRec.rseq == [9] && t.ev.nextRseq == 10 && t.ev.snaps.all EvRec.active && t.ev.snapq.isEmpty) = true ∧
    runs (.snapshotQueueWrite 1) (snapping (occ detVbatUndervoltage 0 true false) [recOf 3 detVbatUndervoltage 0 false false false])
      (fun t => t.ev.snaps.map (fun r => (r.rseq, r.repeats, r.last, r.active)) == [(3, 2, 5000, true)] && t.ev.nextRseq == 9 && t.mc.mramRetries == 1) = true ∧
    runs (.snapshotQueueWrite 0) (snapping (occ detVbatUndervoltage 0 true true) [recOf 3 detVbatUndervoltage 0 false false false])
      (fun t => t.ev.snaps.map EvRec.rseq == [3, 9]) = true ∧
    runs (.fixedRecordWrite 0) { on with ev := { on.ev with fixq := [occ evReset 0 false false], nextRseq := 5 } }
      (fun t => (t.ev.fixed ++ t.ev.snaps).map EvRec.rseq == [5] || (t.ev.fixed ++ t.ev.snaps).isEmpty) = true ∧
    victim 3 [recOf 1 detVbatUndervoltage 0 false true false, recOf 2 detVbatUndervoltage 0 true false true, recOf 3 detVbatUndervoltage 0 false false false]
      = some (recOf 2 detVbatUndervoltage 0 true false true) ∧
    victim 0 [recOf 1 detVbatUndervoltage 0 false true false] = some (recOf 1 detVbatUndervoltage 0 false true false) ∧
    nextOcc [occ detVbatOvervoltage 0 false false, occ detVbatUndervoltage 0 false false]
      = some (if detVbatUndervoltage < detVbatOvervoltage then (occ detVbatUndervoltage 0 false false, [occ detVbatOvervoltage 0 false false])
          else (occ detVbatOvervoltage 0 false false, [occ detVbatUndervoltage 0 false false])) ∧
    runs .eventCompaction on (fun t => nth t.mc.served 6 0 == 100000) = true ∧
    runs .opsecCount { on with ev := { on.ev with opsecFrac := 59 } } (fun t => t.ev.opsec == 1 && t.ev.opsecCopy == 1 && t.ev.opsecFrac == 0) = true ∧
    runs .opsecCount { on with ev := { on.ev with opsecFrac := 58 } } (fun t => t.ev.opsec == 1 && t.ev.opsecCopy == 0) = true ∧
    runs .opsecCount State.reset (fun t => t.ev.opsec == 0) = true ∧
    runs (.injectionEnd 16) { on with ev := { on.ev with injs := [⟨16, detVbatUndervoltage, 0, 2, 0, 0, 1, 2, 4000, true, 1⟩] } } (fun t => t.ev.injs.isEmpty) = true ∧
    runs (.injectionEnd 15) { on with ev := { on.ev with injs := [⟨16, detVbatUndervoltage, 0, 2, 0, 0, 1, 2, 4000, true, 1⟩] } } (fun t => t.ev.injs.length == 1) = true := by
  refine ⟨?_, ?_, ?_, ?_, ?_, ?_, ?_, ?_, ?_, ?_, ?_, ?_, ?_, ?_⟩ <;> decide +kernel

/-- The manifest 5 of modules `uid` at node 1 and the next unique ID at node 2, known in a state, as entry module or not, at a commit frame with a decision
of the leader and a vote of the other module. -/
def camp2 (st : UpSt) (entry : Bool) (frame : FrameNo) (decision : Option Bool) (sentAt : Nat) : Camp :=
  ⟨{ man5 with mods := [(uid, 1), (uid + 1, 2)] }, st, entry, 1, 2, if entry then 1 else 2, [⟨0, 10, zeros 10, 0, 0, 0, false, false⟩], none, 0,
    [⟨uid, 2, 0, 0, 116, 0, some (true, 0), false, false⟩, ⟨uid + 1, 2, 0, 0, 116, 0, none, false, false⟩], frame, decision, sentAt⟩

/-- Two modules with that manifest and a commit record of it. -/
def renneting (c : Camp) (commit : CommitRec) : State := { linked with up := { linked.up with camps := [c], commit := commit } }

/-- A commit record of manifest 5 of commit frame 4,900, whose leader is the next module or this one. -/
def record5 (st : CommitSt) (leader : Bool) (frame : FrameNo) : CommitRec := ⟨5, st, leader, 1, frame, uid + 1, 1, 0, 1⟩

theorem renneting_uid (c : Camp) (k : CommitRec) : uidOfNode (renneting c k) 2 = uid + 1 := by
  have n : myNode (renneting c k) = 1 := by
    have h : myNode (renneting c k) = myNode linked := rfl
    rw [h]; decide +kernel
  have d : database (renneting c k) = [ownLsa linked, ⟨uid + 1, 2, 1, 0, 0, 0, 0, 0, [⟨0, uid, 1⟩], [], [], 0⟩] := linked_database
  have o : (ownLsa linked).node = 1 := by decide +kernel
  simp [uidOfNode, n, d, lsaOfNode, o]

theorem test_met_StagingRunsAlongTheChain :
    (∀ x ∈ [(1, 500), (2, 21), (3, 16), (4, 16), (5, 12), (6, 17), (7, 12), (8, 20), (9, 12), (10, 12), (11, 12), (12, 4)],
      on.rs.supUp = true ∧ (bytes [x.1] ++ zeros (x.2 - 1)).length = x.2 ∧ rdN (bytes [x.1] ++ zeros (x.2 - 1)) 0 1 = x.1) ∧
    runs (.motion 9 (bytes [11, 1, 0, 0])) on (fun t => t.up.peers.isEmpty) = true ∧
    (
      let d := bytes [12, 1, 0, 0]
      1 ≤ rdN d 1 1 ∧ rdN d 1 1 ≤ 3 ∧ d.length = 4 ∧ resZero d 2 2 = true) ∧
    runs .motionSend { on with rs := { on.rs with supUp := false } } (fun t => t.up.motionAt == 0) = true ∧ on.up.motionAt + 100 ≤ on.clk.ms ∧
    runs (.supplyConditionChange 0 1000) on (fun t => !t.up.supplyOk) = true ∧ runs (.supplyConditionChange 0 999) on (fun t => t.up.supplyOk) = true ∧
    runs (.supplyConditionChange (paramN on pUpVsupMin + 200) 1000) { on with up := { on.up with supplyOk := false } } (fun t => t.up.supplyOk) = true ∧
    runs (.manifest 9 (bytes [1, 0, 0, 0, 0, 0, 0, 0, 7] ++ zeros 8)) on (fun t => t.up.manRx == [(0, 9, bytes [7])]) = true ∧
    (campOf (renneting (camp2 .staging false 0 none 0) commit0) 5 = some (camp2 .staging false 0 none 0) ∧ chunkLen part5 0 = 116 ∧ part5.chunks = 1) ∧
    ((camp2 .staging true 0 none 0).man.mods.any (fun e => e.1 == uidOfNode (renneting (camp2 .staging true 0 none 0) commit0) 2)) = true ∧
    successor { on with rs := { on.rs with stage := .recovery } } (camp2 .staging false 0 none 0) = none ∧
    runs .chunkForward on (fun t => t.up.relay.isEmpty) = true ∧
    ({ on with up := { on.up with relay := [⟨5, 0, 0, [], false⟩] } }.up.relay.find? (fun r : RelayChunk => !r.sent)) = some ⟨5, 0, 0, [], false⟩ := by
  refine ⟨by decide +kernel, by decide +kernel, by decide +kernel, by decide +kernel, by decide +kernel, by decide +kernel, by decide +kernel, by decide +kernel,
    by decide +kernel, ⟨rfl, by decide +kernel, by decide +kernel⟩, ?_, ?_, by decide +kernel, rfl⟩
  · rw [renneting_uid]; simp [camp2, man5]
  · rfl

theorem test_met_RennetDecides :
    let said := fun (l : Bytes) => l ++ u64 5
    (rdN (said (bytes [6, 0, 0, 0, 0, 0, 0, 0, 0])) 0 1 = 6 ∧ (said (bytes [6, 0, 0, 0, 0, 0, 0, 0, 0])).length = 17 ∧ rdN (said (bytes [6, 0, 0, 0, 0, 0, 0, 0, 0])) 9 8 = 5) ∧
    (campOf (renneting (camp2 .staged false 0 none 0) commit0) 5 = some (camp2 .staged false 0 none 0) ∧ commitHeld (renneting (camp2 .staged false 0 none 0) commit0) = false) ∧
    (collecting (camp2 .staged true 6000 none 0) = true ∧ collecting (camp2 .staged true 6000 (some true) 0) = false ∧ collecting (camp2 .staged false 6000 none 0) = false) ∧
    ((∃ m ∈ (camp2 .staged true 6000 none 0).mods, m.uid = uidOfNode (renneting (camp2 .staged true 6000 none 0) commit0) 2) ∧
      (∀ m ∈ (camp2 .staged true 6000 none 0).mods, m.uid ≠ uid + 1 → ∃ r, m.vote = some (true, r))) ∧
    ((modUids (camp2 .prepared false 4900 none 0).man).contains (uidOfNode (renneting (camp2 .prepared false 4900 none 0) (record5 .prepared false 4900)) 2) = true) ∧
    (recordState 5 (renneting (camp2 .prepared false 4900 none 0) (record5 .prepared false 4900)) = commitCode .prepared) ∧
    (∀ st ∈ [CommitSt.activated, .prepared], (renneting (camp2 .activated false 4900 none 0) (record5 st false 4900)).up.commit.id = 5) ∧
    ((renneting (camp2 .staged true 5200 none 0) commit0).up.camps.find? collecting = some (camp2 .staged true 5200 none 0) ∧ 5200 ≤ on.clk.frame + 200) ∧
    ((camp2 .committing true 6000 (some true) 99900).decision.isSome = true ∧ (camp2 .committing true 6000 (some true) 99900).sentAt + 100 ≤ on.clk.ms) ∧
    (campOf (renneting (camp2 .prepared false 4900 none 99900) (record5 .prepared false 4900)) 5 = some (camp2 .prepared false 4900 none 99900) ∧ linked.rs.stage = .done ∧
      4900 < on.clk.frame) ∧
    (inRecovery linked = false ∧ moving linked = false ∧ stationary linked = true) ∧
    runs .commitFrameSwap (renneting (camp2 .prepared false 4900 none 0) (record5 .prepared false 4900)) (fun t => t.up.commit.st == .prepared) = true := by
  refine ⟨by decide +kernel, ⟨rfl, by decide +kernel⟩, by decide +kernel, ⟨?_, ?_⟩, ?_, by decide +kernel, by decide +kernel, ⟨rfl, by decide +kernel⟩,
    by decide +kernel, ⟨rfl, by decide +kernel, by decide +kernel⟩, by decide +kernel, by decide +kernel⟩
  · exact ⟨⟨uid + 1, 2, 0, 0, 116, 0, none, false, false⟩, by simp [camp2], by rw [renneting_uid]⟩
  · intro m h n
    simp [camp2] at h
    obtain rfl | rfl := h
    · exact ⟨0, rfl⟩
    · exact absurd rfl n
  · rw [renneting_uid]; simp [camp2, modUids]

/-! ### Reset, start-up, standby, power, inputs and the panel -/

/-- In a stage of the boot, with sources asserted. -/
def booting (stage : Stage) (asserted : List (Nat × Nat)) : State := { on with rs := { on.rs with stage := stage, asserted := asserted } }

/-- The level and the sources of the open episode. -/
def episodeOf (t : State) : Option (Nat × Nat) := t.rs.episode

theorem test_met_ResetsReachTheirLevel :
    on.pw.doms.length = 13 ∧ mapWord on = 0 ∧
    runs (.resetAssert 2 0 0) on (fun t => episodeOf t == some (0, 4) && !t.rs.supUp && !t.clk.running && t.gr.safeA && t.mb.exch.isEmpty) = true ∧
    runs (.resetAssert 8 2 999) on (fun t => episodeOf t == some (2, 256) && t.clk.running && !t.gr.safeA && domOf t 4 == .reset && domOf t 8 == .on) = true ∧
    runs (.resetAssert 5 0 0) on (fun t => t.rs.asserted.isEmpty) = true ∧
    runs (.supervisorWatchdogExpiry (paramN on pRsWdgPeriod) 0) on (fun t => t.rs.asserted == [(4, sourceLevel on 4 0)]) = true ∧
    runs (.supervisorWatchdogExpiry (paramN on pRsWdgPeriod - 1) 0) on (fun t => t.rs.asserted.isEmpty) = true ∧
    runs (.lockUp 1 0) on (fun t => t.rs.asserted == [(8, 2)]) = true ∧ runs (.lockUp 0 0) on (fun t => t.rs.asserted.isEmpty) = true ∧
    runs (.clockFailure 0) on (fun t => t.rs.asserted == [(7, 1)] && t.rs.stage == .system) = true ∧
    runs (.resetRelease 0) State.reset (fun t => t.rs.asserted.isEmpty && t.rs.stage == .loading && t.ev.pcycle == 1) = true ∧
    runs (.resetRelease 3) (booting .system [(3, 1)]) (fun t => t.rs.stage == .loading) = true ∧
    runs (.resetRelease 3) (booting .system [(3, 1), (7, 1)]) (fun t => t.rs.asserted == [(7, 1)] && t.rs.stage == .system) = true ∧
    runs (.l3UnitReset 1 0) on (fun t => (t.ev.fixq ++ t.ev.snapq).any (fun o => o.code == evReset && o.data == 3 + 65536 * 32)) = true ∧
    runs (.resetRequestEffect 0) { on with rs := { on.rs with request := some ⟨2, 0, 99900⟩ } } (fun t => episodeOf t == some (2, 32)) = true ∧
    runs (.resetRequestEffect 0) { on with rs := { on.rs with request := some ⟨2, 0, 99901⟩ } } (fun t => t.rs.request.isSome && t.rs.supUp) = true ∧
    runs (.resetRequestEffect 0) { on with rs := { on.rs with request := some ⟨3, 7, 99900⟩ } } (fun t => t.rs.request == none && t.rs.supUp) = true := by
  refine ⟨?_, ?_, ?_, ?_, ?_, ?_, ?_, ?_, ?_, ?_, ?_, ?_, ?_, ?_, ?_, ?_, ?_⟩ <;> decide +kernel

theorem test_met_BootProceeds :
    let b := fun (st : Stage) => booting st []
    runs .optionTrimLoadDone (b .loading) (fun t => t.rs.stage == .clocks && !t.rs.consTrim) = true ∧
    runs .optionTrimLoadDone { b .loading with rs := { (b .loading).rs with loadCount := 3 } } (fun t => t.rs.stage == .clocks && t.rs.consTrim) = true ∧
    runs (.vcoLock true 77) (b .clocks) (fun t => t.clk.frame == 77 && t.clk.running && t.rs.stage == .compute && domOf t 12 == .on) = true ∧
    runs (.vcoLock false 77) (b .clocks) (fun t => t.rs.asserted == [(7, 1)]) = true ∧
    runs (.d4Release (List.replicate 8 2)) (b .compute) (fun t => t.rs.stage == .rom && t.mb.epoch == 2 && t.pf.strap == 2) = true ∧
    runs (.d4Release (List.replicate 8 6)) (b .compute) (fun t => t.rs.stage == .recovery && t.rs.supUp && t.pf.active == 16) = true ∧
    runs (.d4Release (List.replicate 8 2)) { b .compute with rs := { (b .compute).rs with failed := 3 } } (fun t => t.rs.stage == .recovery) = true ∧
    runs (.d4Release (List.replicate 8 2)) { b .compute with up := { on.up with commit := { commit0 with st := .activated, oldMap := 5 } }, rs := { (b .compute).rs with failed := 1 } }
      (fun t => t.up.commit.st == .fallenBack && t.up.active == 5) = true ∧
    (∀ v < 7, strapOf (List.replicate 8 v) = v) ∧ strapOf [1, 1, 1, 1, 1, 1, 1, 2] = 7 ∧
    runs (.supervisorImageLoaded false) (b .rom) (fun t => t.rs.failed == 1 && t.rs.counted) = true ∧
    runs (.supervisorImageLoaded true) (b .rom) (fun t => t.rs.stage == .firmware && t.rs.supUp) = true ∧
    runs .laneImageLoaded (b .firmware) (fun t => t.rs.stage == .lanes) = true ∧
    runs .bootProfileActivation (b .lanes) (fun t => t.rs.stage == .active && t.pf.active == 16) = true ∧
    runs .bootProfileActivation { b .lanes with rs := { (b .lanes).rs with intent := some ⟨3, 9⟩, lifecycle := 2 } } (fun t => t.rs.lifecycle == 3 && t.rs.fuses == 9) = true ∧
    runs .bootProfileActivation { b .lanes with up := { on.up with commit := { commit0 with st := .prepared } } } (fun t => t.rs.stage == .lanes) = true ∧
    runs (.bootComplete 4000) (b .active) (fun t => t.rs.stage == .done && t.rs.bootMs == 4000 && t.rs.rstout) = true ∧
    runs (.bootTimeout 0) { b .active with rs := { (b .active).rs with bootAt := 90000 } } (fun t => t.rs.asserted == [(4, 1)] && t.rs.failed == 1) = true ∧
    runs (.bootTimeout 0) { b .active with rs := { (b .active).rs with bootAt := 90001 } } (fun t => t.rs.stage == .active) = true ∧
    runs .l2RestartComplete { b .firmware with rs := { (b .firmware).rs with restart := true } } (fun t => t.rs.stage == .done && !t.rs.restart) = true := by
  refine ⟨?_, ?_, ?_, ?_, ?_, ?_, ?_, ?_, ?_, ?_, ?_, ?_, ?_, ?_, ?_, ?_, ?_, ?_, ?_, ?_⟩ <;> decide +kernel

/-- Standby in a phase since a time, accepted, with every wake admitted. -/
def resting (ph : StandbyPh) (since mode : Nat) : State :=
  { on with pw := { on.pw with sb := { on.pw.sb with ph := ph, since := since, accepted := true, mask := 0xFFFF, mode := mode } } }

theorem test_met_StandbySleepsAndWakes :
    runs .permitServiceExpiry { on with rs := { on.rs with permit := some 0 }, clk := { on.clk with ms := 600000 } } (fun t => t.rs.permit == none) = true ∧
    runs .permitServiceExpiry { on with rs := { on.rs with permit := some 1 }, clk := { on.clk with ms := 600000 } } (fun t => t.rs.permit == some 1) = true ∧
    runs (.standbyDomainsOff 0) (resting .entering 100000 1)
      (fun t => t.pw.sb.ph == .asleep && t.rs.asserted == [(5, 1)] && domOf t 12 == .off && t.mc.mem.isEmpty && (bankOf t 0).st == .off) = true ∧
    runs (.standbyDomainsOff 0) { owing 3 with pw := (resting .entering 98501 1).pw } (fun t => t.pw.sb.ph == .entering) = true ∧
    runs (.standbyDomainsOff 0) { owing 3 with pw := (resting .entering 98500 1).pw } (fun t => t.pw.sb.ph == .asleep) = true ∧
    wakeMay (resting .asleep 0 1) 1 = true ∧
    runs (.standbyWake 1 9 80) (resting .asleep 0 1) (fun t => t.pw.sb.ph == .asleep && t.pw.sb.latched == [1]) = true ∧
    runs (.standbyWake 1 10 80) { resting .asleep 0 1 with rs := { on.rs with asserted := [(5, 1)], stage := .system } }
      (fun t => t.pw.sb.ph == .awake && t.pw.sb.wakeFrame == 80 && t.rs.stage == .loading) = true := by
  refine ⟨?_, ?_, ?_, ?_, ?_, ?_, ?_, ?_⟩ <;> decide +kernel

/-- A sensor supply in a state since a time. -/
def supplied (k : Nat) (st : SupSt) (short : Bool) (since : Nat) : State := { on with pw := { on.pw with sups := on.pw.sups.set k ⟨st, 0, short, since⟩ } }

/-- VSUP reduced; VBAT out of range. -/
def reduced : State := { on with pw := { on.pw with vsupReduced := true, doms := List.replicate 11 .on ++ [.reduced, .reduced] } }
def vbatIn (v : VbatSt) : State := { switched (fun c => { c with req := true }) with pw := { on.pw with vbat := v }, an := { on.an with vbatOut := true } }

theorem test_met_PowerConditionsAct :
    runs (.vsupReducedEntry 7999 1000) on (fun t => t.pw.vsupReduced && domOf t 11 == .reduced && domOf t 12 == .reduced && domOf t 10 == .on) = true ∧
    runs (.vsupReducedEntry 7999 999) on (fun t => !t.pw.vsupReduced) = true ∧ runs (.vsupReducedEntry 8000 1000) on (fun t => !t.pw.vsupReduced) = true ∧
    runs (.vbatLowEntry 5999 1000) (switched (fun c => { c with st := .on })) (fun t => t.pw.vbat == .low && (lsChan t 23).st != .on && t.an.vbatOut) = true ∧
    runs (.vbatLowEntry 6000 1000) on (fun t => t.pw.vbat == .normal) = true ∧
    runs (.vbatHighEntry 40001 50) on (fun t => t.pw.vbat == .high) = true ∧ runs (.vbatHighEntry 40001 49) on (fun t => t.pw.vbat == .normal) = true ∧
    runs (.vsupNormalReturn 8300 10) reduced (fun t => !t.pw.vsupReduced && domOf t 12 == .on) = true ∧
    runs (.vsupNormalReturn 8299 10) reduced (fun t => t.pw.vsupReduced) = true ∧
    runs (.vbatNormalReturn 6500 10) (vbatIn .low) (fun t => t.pw.vbat == .normal && (lsChan t 23).st == .start || (lsChan t 23).st == .on) = true ∧
    runs (.vbatNormalReturn 38001 10) (vbatIn .high) (fun t => t.pw.vbat == .high) = true ∧ runs (.vbatNormalReturn 38000 10) (vbatIn .high) (fun t => t.pw.vbat == .normal) = true ∧
    runs (.vbatUvOvDetect 0 100) on (fun t => isPresent t detVbatUndervoltage 0) = true ∧ runs (.vbatUvOvDetect 0 99) on (fun t => !isPresent t detVbatUndervoltage 0) = true ∧
    runs (.sensorSupplyFault 3 75 5000 10) (supplied 3 .on false 0) (fun t => (supOf t 3).st == .fault && isPresent t detSensorSupplyFault 4) = true ∧
    runs (.sensorSupplyFault 3 75 5000 9) (supplied 3 .on false 0) (fun t => (supOf t 3).st == .limit) = true ∧
    runs (.sensorSupplyFault 3 74 5500 10) (supplied 3 .on false 0) (fun t => (supOf t 3).st == .on) = true ∧
    runs (.sensorSupplyFault 5 50 10501 0) (supplied 5 .limit false 0) (fun t => (supOf t 5).short) = true := by
  refine ⟨?_, ?_, ?_, ?_, ?_, ?_, ?_, ?_, ?_, ?_, ?_, ?_, ?_, ?_, ?_, ?_, ?_, ?_⟩ <;> decide +kernel

theorem test_met_PowerConditionsAct_2 :
    runs (.sensorSupplyRetry 5 false) (supplied 5 .fault false 99000) (fun t => (supOf t 5).st == .on) = true ∧
    runs (.sensorSupplyRetry 5 true) (supplied 5 .fault false 99000) (fun t => (supOf t 5).st == .fault && (supOf t 5).since == 100000) = true ∧
    runs (.sensorSupplyRetry 5 false) (supplied 5 .fault false 99001) (fun t => (supOf t 5).st == .fault) = true ∧
    runs (.sensorSupplyShortRemoved 5) (supplied 5 .fault true 0) (fun t => (supOf t 5).st == .on) = true ∧
    runs (.sensorSupplyShortRemoved 5) (supplied 5 .fault false 0) (fun t => (supOf t 5).st == .fault) = true ∧
    runs (.overTemperature (param on pPwTempWarn + 100) 1000) on (fun t => t.pw.gated && isPresent t detModuleOverTemperature 0) = true ∧
    runs (.overTemperature (param on pPwTempWarn + 99) 999) on (fun t => !t.pw.gated && !isPresent t detModuleOverTemperature 0) = true ∧
    runs (.overTemperature (param on pPwTempWarn - 50) 0) { on with pw := { on.pw with gated := true } } (fun t => t.pw.gated) = true ∧
    runs (.overTemperature (param on pPwTempWarn - 51) 0) { on with pw := { on.pw with gated := true } } (fun t => !t.pw.gated) = true ∧
    runs (.stopInputChange 0 true) (switched (fun c => { c with st := .on, req := true })) (fun t => (lsChan t 23).st != .on && !(lsChan t 23).req && t.pw.stopDiff == some 100000) = true ∧
    runs (.stopInputChange 1 true) (switched (fun c => { c with st := .on, req := true })) (fun t => (lsChan t 23).st == .on) = true ∧
    runs (.stopInputChange 1 false) on (fun t => t.pw.stopDiff == none) = true ∧
    runs .stopDiscrepancy { on with pw := { on.pw with stopDiff := some (100000 - paramN on pPwStopDiscrepancy) } } (fun t => isPresent t detStopANAndStopBNDisagree 0) = true ∧
    runs .stopDiscrepancy { on with pw := { on.pw with stopDiff := some (100001 - paramN on pPwStopDiscrepancy) } } (fun t => !isPresent t detStopANAndStopBNDisagree 0) = true ∧
    runs .clkKeepStop on (fun t => !t.pw.clkKeep && !t.pw.rtcValid) = true := by
  refine ⟨?_, ?_, ?_, ?_, ?_, ?_, ?_, ?_, ?_, ?_, ?_, ?_, ?_, ?_, ?_⟩ <;> decide +kernel

/-- AIN 40 declared as a current input, in a state. -/
def metered (low above : Nat) (openAt : Option Nat) : State :=
  { on with an := { on.an with ains := on.an.ains.set 39 { ainOf on 39 with low := low, above := above, openAt := openAt } }
            pf := { on.pf with work := { on.pf.work with sensors := [bytes [3, 2, 40, 0] ++ zeros 20] } } }

theorem test_met_InputsAreJudged :
    on.an.ains.length = 40 ∧ on.an.fqs.length = 24 ∧ domOf on 10 = .on ∧
    runs (.ainOutOfRange 39 25001 1000) (metered 99 9 none) (fun t => isPresent t detAnalogInputOutOfRange 40 && (ainOf t 39).openAt == some 100000) = true ∧
    runs (.ainOutOfRange 39 25000 1000) (metered 99 9 none) (fun t => !isPresent t detAnalogInputOutOfRange 40) = true ∧
    runs (.ainOutOfRange 39 0 0) (metered 100 0 none) (fun t => isPresent t detAnalogInputOutOfRange 40) = true ∧
    runs (.ainOutOfRange 39 0 0) (metered 0 10 none) (fun t => isPresent t detAnalogInputOutOfRange 40) = true ∧
    runs (.ainShuntReclose 39) (metered 0 0 (some 99000)) (fun t => (ainOf t 39).openAt == none) = true ∧
    runs (.ainShuntReclose 39) (metered 0 0 (some 99001)) (fun t => (ainOf t 39).openAt == some 99001) = true ∧
    runs (.fqEdgeTimeout 23) { on with an := { on.an with fqs := on.an.fqs.set 23 { fqOf on 23 with raw := 5, edge := 98000 } } } (fun t => (fqOf t 23).raw == 0 && (fqOf t 23).still) = true ∧
    runs (.fqEdgeTimeout 23) { on with an := { on.an with fqs := on.an.fqs.set 23 { fqOf on 23 with raw := 5, edge := 98001 } } } (fun t => (fqOf t 23).raw == 5) = true ∧
    runs (.bridgeExcitationFault 5 (-1) false 0) on (fun t => isPresent t detBridgeExcitationFault 6) = true ∧
    runs (.bridgeExcitationFault 5 0 false 10) on (fun t => isPresent t detBridgeExcitationFault 6) = true ∧
    runs (.bridgeExcitationFault 5 1 true 9) on (fun t => !isPresent t detBridgeExcitationFault 6) = true := by
  refine ⟨?_, ?_, ?_, ?_, ?_, ?_, ?_, ?_, ?_, ?_, ?_, ?_, ?_, ?_⟩ <;> decide +kernel

/-- The panel IDLE with segment 1 to go dark, waiting for update 7. -/
def showing (ledger : Int) : State :=
  { on with sp := { on.sp with st := .idle, target := 1, waiting := some 7, after := 4999, ledgers := [ledger] ++ List.replicate 48 0 } }

/-- An update in a phase that began at an instant, with or without its guard. -/
def driving (st : PanSt) (phase : Nat) (guard : Bool) (since : Nat) : State :=
  { on with sp := { on.sp with st := st, phase := phase, guard := guard, since := since, vp := 15000, t := 300, dark := 1, target := 1, running := some 7 } }

theorem test_met_PanelDrivesSegments :
    panelMayDrive on = true ∧ panelMayDrive reduced = false ∧
    runs (.panelUpdateStart 0) (showing 0) (fun t => t.sp.st == .update && bit t.sp.dark 0 && t.sp.waiting == none && t.sp.started == some 100000) = true ∧
    runs (.panelUpdateStart 0) (showing (paramN on pSpLedgerMin)) (fun t => t.sp.st == .compensate && 4 ≤ t.sp.phase) = true ∧
    runs (.panelUpdateStart 0) { showing 0 with sp := { (showing 0).sp with after := 5000 } } (fun t => t.sp.st == .idle) = true ∧
    runs (.panelPhaseEnd 0) (driving .update 2 false (100000000 - phaseTime (driving .update 2 false 0).sp)) (fun t => t.sp.ledgers.any (fun l => l != 0)) = true ∧
    runs (.panelPhaseEnd 0) (driving .update 2 false (100000001 - phaseTime (driving .update 2 false 0).sp)) (fun t => t.sp.ledgers.all (fun l => l == 0)) = true ∧
    runs (.panelGuardEnd 0) (driving .update 2 true 99999000) (fun t => !t.sp.guard && t.sp.phase == 3) = true ∧
    runs (.panelGuardEnd 0) (driving .update 2 true 99999001) (fun t => t.sp.guard) = true ∧
    runs (.panelPinFault 49 0) (driving .update 2 false 0) (fun t => t.sp.st == .fault && t.sp.phase == 0) = true ∧
    runs (.panelPinFault 48 0) (driving .update 2 false 0) (fun t => t.sp.st == .update && t.sp.dead == 2 ^ 47) = true ∧
    runs (.panelPinFault 0 0) (driving .update 2 false 0) (fun t => t.sp.dead == 0) = true := by
  refine ⟨?_, ?_, ?_, ?_, ?_, ?_, ?_, ?_, ?_, ?_, ?_, ?_⟩ <;> decide +kernel

/-! ### The whole block -/

theorem test_met_EveryStepKeepsMicaSound : nx (step { State.reset with pending := [Instr.clkKeepStop] }) (fun t => t.pending.isEmpty) = true := by decide +kernel

theorem test_met_ChangesStayInTheirParts : nx (exec Instr.clkKeepStop State.reset) (fun t => !t.pw.clkKeep) = true := by decide +kernel

/-- With no command waiting the block idles. -/
theorem test_step_idles : step State.reset = .next State.reset := rfl

/-! ### Well-formedness: an ill-formed command for each check, and its neighbour that passes -/

/-- A Skim frame and a CAN frame in range. -/
def okSkim : SkimFrame := ⟨3, 63, 63, 65535, 0, 0xFFFFFFFF, zeros 1484⟩
def okCan : CanFrame := ⟨true, true, false, false, false, 0x1FFFFFFF, 15, zeros 64⟩

theorem test_wf_bindings :
    (Instr.messageReceive { uart with peer := 1 } true []).wf = false ∧ (Instr.messageReceive uart true []).wf = true ∧
    (Instr.messageReceive { uart with relay := 64 } true []).wf = false ∧
    (Instr.messageReceive { transport := .fabric, peer := 0 } true []).wf = false ∧ (Instr.messageReceive { transport := .fabric, peer := 64 } true []).wf = false ∧
    (Instr.messageReceive { transport := .fabric, peer := 63 } true []).wf = true ∧
    (Instr.messageReceive { transport := .can, peer := 1024 } true []).wf = false ∧ (Instr.messageReceive { transport := .can, peer := 1023 } true []).wf = true ∧
    (Instr.messageReceive { transport := .serviceEthernet, peer := 2 ^ 48 } true []).wf = false := by decide +kernel

theorem test_wf_requests :
    (Instr.ping { msg [] with session := 65536 }).wf = false ∧ (Instr.ping { msg [] with seq := 65536 }).wf = false ∧
    (Instr.ping { msg [] with session := 65535, seq := 65535 }).wf = true ∧ (Instr.spWrite (msg (zeros 65537))).wf = false ∧
    (Instr.ident { msg [] with binding := { uart with peer := 1 } }).wf = false := by decide +kernel

theorem test_wf_frames :
    (Instr.skimFrameReceive 0 true okSkim).wf = true ∧ (Instr.skimFrameReceive 0 true { okSkim with cls := 4 }).wf = false ∧
    (Instr.skimFrameReceive 0 true { okSkim with src := 64 }).wf = false ∧ (Instr.skimFrameReceive 0 true { okSkim with dst := 64 }).wf = false ∧
    (Instr.skimFrameReceive 0 true { okSkim with flow := 65536 }).wf = false ∧ (Instr.skimFrameReceive 0 true { okSkim with seq := 2 ^ 32 }).wf = false ∧
    (Instr.skimFrameReceive 0 true { okSkim with data := zeros 1485 }).wf = false ∧
    (Instr.canFrameReceive 0 okCan 749999 0).wf = true ∧ (Instr.canFrameReceive 0 okCan 750000 0).wf = false ∧
    (Instr.canFrameReceive 0 { okCan with id := 2 ^ 29 } 0 0).wf = false ∧ (Instr.canFrameReceive 0 { okCan with ext := false } 0 0).wf = false ∧
    (Instr.canFrameReceive 0 { okCan with fd := false } 0 0).wf = false ∧ (Instr.canFrameReceive 0 { okCan with data := zeros 65 } 0 0).wf = false ∧
    (Instr.canFrameReceive 0 { okCan with rtr := true } 0 0).wf = false ∧
    (Instr.canFrameReceive 0 { okCan with fd := false, rtr := true, data := zeros 1 } 0 0).wf = false := by decide +kernel

theorem test_wf_operands :
    (Instr.cutOff sampled).wf = true ∧ (Instr.cutOff { sampled with ains := List.replicate 41 [] }).wf = false ∧ (Instr.cutOff { sampled with din := 2 ^ 24 }).wf = false ∧
    (Instr.cutOff { sampled with fq := List.replicate 25 none }).wf = false ∧ (Instr.cutOff { sampled with br := List.replicate 7 [] }).wf = false ∧
    (Instr.cutOff { sampled with ms := List.replicate 3 none }).wf = false ∧ (Instr.cutOff { sampled with quartz := List.replicate 33 [] }).wf = false ∧
    (Instr.tickSample (List.replicate 13 0) [] 0).wf = false ∧ (Instr.tickSample [] (List.replicate 25 0) 0).wf = false ∧
    (Instr.ppsiEdge 750000).wf = false ∧ (Instr.hello 0 1 64 0 0 0).wf = false ∧ (Instr.assign 0 1 64 0).wf = false ∧
    (Instr.creamCellReceive 0 true 64 0 false []).wf = false ∧ (Instr.creamCellReceive 0 true 0 64 false []).wf = false ∧
    (Instr.creamCellReceive 0 true 0 0 false (zeros 47)).wf = false ∧ (Instr.transportTimeout 0 256 true).wf = false ∧
    (Instr.micaAccess 0 [reading 9 0]).wf = false ∧ (Instr.micaAccess 0 [reading 0 (2 ^ 26)]).wf = false ∧ (Instr.micaAtomic 1 .add32 (2 ^ 26) 0).wf = false ∧
    (Instr.micaUncorrectable (2 ^ 26) 0).wf = false ∧ (Instr.converterSelfCalibration 0 0).wf = false ∧ (Instr.converterSelfCalibration 0 41).wf = false := by
  decide +kernel

/-! ### The standards that the specification names, by their published examples (FIPS 180-4, RFC 4231 case 2, RFC 5869 case 1, SP 800-38D cases 13 and 14,
RFC 3394 section 4.6) -/

/-- Bytes counting up from a number. -/
def upFrom (first n : Nat) : Bytes := (List.range n).map (fun k => BitVec.ofNat 8 (first + k))

theorem test_sha256_abc : natOfBe (sha256 (bytes [0x61, 0x62, 0x63])) = 0xba7816bf8f01cfea414140de5dae2223b00361a396177a9cb410ff61f20015ad := by decide +kernel

theorem test_sha384_abc : natOfBe (sha384 (bytes [0x61, 0x62, 0x63])) =
    0xcb00753f45a35e8bb5a03d699ac65007272c32ab0eded1631a8b605a43ff5bed8086072ba1e7cc2358baeca134c825a7 := by decide +kernel

theorem test_hmac_rfc4231 : natOfBe (hmac256 (bytes [0x4a, 0x65, 0x66, 0x65]) (bytes [0x77, 0x68, 0x61, 0x74, 0x20, 0x64, 0x6f, 0x20, 0x79, 0x61, 0x20, 0x77, 0x61, 0x6e,
    0x74, 0x20, 0x66, 0x6f, 0x72, 0x20, 0x6e, 0x6f, 0x74, 0x68, 0x69, 0x6e, 0x67, 0x3f])) =
    0x5bdcc146bf60754e6a042426089575c75a003f089d2739839dec58b964ec3843 := by decide +kernel

theorem test_hkdf_rfc5869 : natOfBe (hkdf256 (List.replicate 22 0x0b) (upFrom 0 13) (upFrom 0xf0 10) 42) =
    0x3cb25f25faacd57a90434f64d0362f2a2d2d0a90cf1a5a4c5db02d56ecc4c5bf34007208d5b887185865 := by decide +kernel

theorem test_gcm_cases_13_14 : natOfBe (gcmTag (zeros 32) (zeros 12) [] []) = 0x530f8afbc74536b9a963b4f1c4cb738b ∧
    natOfBe (gcmCrypt (zeros 32) (zeros 12) (zeros 16)) = 0xcea7403d4d606b6e074ec5d3baf39d18 ∧
    natOfBe (gcmTag (zeros 32) (zeros 12) [] (gcmCrypt (zeros 32) (zeros 12) (zeros 16))) = 0xd0d1c8a799996bf0265b98b5d48ab919 := by decide +kernel

theorem test_unwrap_rfc3394 : keyUnwrap (upFrom 0 32)
    ([0x28, 0xC9, 0xF4, 0x04, 0xC4, 0xB8, 0x10, 0xF4, 0xCB, 0xCC, 0xB3, 0x5C, 0xFB, 0x87, 0xF8, 0x26, 0x3F, 0x57, 0x86, 0xE2, 0xD8, 0x0E, 0xD3, 0x26,
      0xCB, 0xC7, 0xF0, 0xE7, 0x1A, 0x99, 0xF4, 0x3B, 0xFB, 0x98, 0x8B, 0x9B, 0x7A, 0x02, 0xDD, 0x21].map (BitVec.ofNat 8)) =
    some ((List.range 16).map (fun k => BitVec.ofNat 8 (0x11 * k)) ++ upFrom 0 16) := by decide +kernel

/-- The check values of the two CRCs over the nine digits 1 to 9. -/
theorem test_crc_check_values : crc16 (upFrom 0x31 9) = 0x29B1 ∧ crc32 (upFrom 0x31 9) = 0xCBF43926 := by decide +kernel

end Sys2Proof.Tests
end

section
/-!
PROOFS. Chapter 1, the mailboxes: how a response is formed, cut and kept (R15, R19, R30), and the target-frame rule (R37).
-/

namespace Sys2Proof.Proofs

open Sys2Proof.Machine Sys2Proof.Safety

/-! ### Cutting a list into chunks -/

theorem chunksAux_succ_ne_nil {α : Type} (n fuel : Nat) (l : List α) : chunksAux n (fuel + 1) l ≠ [] := by
  unfold chunksAux
  split <;> exact List.cons_ne_nil _ _

theorem flatten_chunksAux {α : Type} {n : Nat} (hn : 0 < n) (fuel : Nat) (l : List α) (hl : l.length < fuel) :
    (chunksAux n fuel l).flatten = l := by
  induction fuel generalizing l with
  | zero => exact absurd hl (Nat.not_lt_zero _)
  | succ fuel ih =>
    unfold chunksAux
    split
    · exact List.flatten_singleton
    · have hd : (l.drop n).length < fuel := by rw [List.length_drop]; omega
      rw [List.flatten_cons, ih _ hd, List.take_append_drop]

theorem length_le_of_mem_chunksAux {α : Type} {n fuel : Nat} {l c : List α} (hc : c ∈ chunksAux n fuel l) : c.length ≤ n := by
  induction fuel generalizing l with
  | zero => exact absurd hc List.not_mem_nil
  | succ fuel ih =>
    unfold chunksAux at hc
    split at hc
    next h => rwa [List.mem_singleton.mp hc]
    next h =>
      rcases List.mem_cons.mp hc with rfl | hc
      · exact List.length_take_le n l
      · exact ih hc

theorem chunks_ne_nil {α : Type} (n : Nat) (l : List α) : chunks n l ≠ [] := chunksAux_succ_ne_nil n _ l

theorem flatten_chunks {α : Type} {n : Nat} (hn : 0 < n) (l : List α) : (chunks n l).flatten = l :=
  flatten_chunksAux hn _ l (Nat.lt_succ_self _)

theorem length_le_of_mem_chunks {α : Type} {n : Nat} {l c : List α} (hc : c ∈ chunks n l) : c.length ≤ n :=
  length_le_of_mem_chunksAux hc

/-- The places of a list that have another after them are all but the last. -/
theorem zipIdx_map_hasNext {α : Type} {l : List α} (hl : l ≠ []) :
    l.zipIdx.map (fun p => decide (p.2 + 1 < l.length)) = List.replicate (l.length - 1) true ++ [false] := by
  have hpos : 0 < l.length := List.length_pos_iff.mpr hl
  refine List.ext_getElem (by simp [Nat.sub_add_cancel hpos]) fun i hzip _ => ?_
  have hi : i < l.length := by simpa using hzip
  by_cases h : i < l.length - 1
  · rw [List.getElem_append_left (by simpa using h)]
    simpa using (by omega : i + 1 < l.length)
  · rw [List.getElem_append_right (by simpa using h)]
    simpa using (by omega : l.length ≤ i + 1)

/-! ### The messages of a response -/

theorem responsePayload_eq (st : Nat) (body : Bytes) : responsePayload st body = [BitVec.ofNat 8 st, 0, 0, 0] ++ body := rfl

theorem responseMsgs_payload (c : Ctx) (epoch : Nat) (payload : Bytes) :
    (responseMsgs c epoch payload).map OutMsg.payload = chunks 1024 payload := by
  simp only [responseMsgs, List.map_map]
  exact List.zipIdx_map_fst 0 _

theorem responseMsgs_length (c : Ctx) (epoch : Nat) (payload : Bytes) :
    (responseMsgs c epoch payload).length = (chunks 1024 payload).length := by simp [responseMsgs]

theorem responseMsgs_more (c : Ctx) (epoch : Nat) (payload : Bytes) :
    (responseMsgs c epoch payload).map OutMsg.more =
      List.replicate ((responseMsgs c epoch payload).length - 1) true ++ [false] := by
  rw [responseMsgs_length, ← zipIdx_map_hasNext (chunks_ne_nil 1024 payload)]
  simp only [responseMsgs, List.map_map]
  rfl

/-- A message bears the header that R15 gives a response to `c`: it names the request and carries the module's epoch. -/
def RespondsTo (c : Ctx) (epoch : Nat) (m : OutMsg) : Prop :=
  m.session = c.session ∧ m.seq = c.seq ∧ m.code = c.code ∧ m.notify = false ∧ m.binding = c.binding ∧ m.epoch = epoch ∧ m.era = c.era

theorem respondsTo_of_mem_responseMsgs {c : Ctx} {epoch : Nat} {payload : Bytes} {m : OutMsg} (hm : m ∈ responseMsgs c epoch payload) :
    RespondsTo c epoch m := by
  obtain ⟨p, -, rfl⟩ := List.mem_map.mp hm
  exact ⟨rfl, rfl, rfl, rfl, rfl, rfl, rfl⟩

/-! ### The same messages as they are sent, with the key of their session -/

/-- A message with the key of its session, as `send` hands it to the transport. -/
def withKey (s : State) (m : OutMsg) : OutMsg := { m with key := ((findSess s m.session).map Sess.keyOut).getD [] }

theorem send_eq (ms : List OutMsg) (s : State) : send ms s = { s with out := s.out ++ ms.map (withKey s) } := rfl

theorem map_withKey_payload (s : State) (ms : List OutMsg) : (ms.map (withKey s)).map OutMsg.payload = ms.map OutMsg.payload := by
  rw [List.map_map]
  rfl

theorem map_withKey_more (s : State) (ms : List OutMsg) : (ms.map (withKey s)).map OutMsg.more = ms.map OutMsg.more := by
  rw [List.map_map]
  rfl

theorem respondsTo_withKey {c : Ctx} {epoch : Nat} {m : OutMsg} (s : State) (h : RespondsTo c epoch m) : RespondsTo c epoch (withKey s m) := h

/-- What answering a command sends. -/
def answerMsgs (c : Ctx) (st : Nat) (body : Bytes) (s : State) : List OutMsg :=
  (responseMsgs c s.mb.epoch (responsePayload st body)).map (withKey s)

theorem answerMsgs_payload (c : Ctx) (st : Nat) (body : Bytes) (s : State) :
    (answerMsgs c st body s).map OutMsg.payload = chunks 1024 (responsePayload st body) :=
  (map_withKey_payload s _).trans (responseMsgs_payload c _ _)

theorem answerMsgs_more (c : Ctx) (st : Nat) (body : Bytes) (s : State) :
    (answerMsgs c st body s).map OutMsg.more = List.replicate ((answerMsgs c st body s).length - 1) true ++ [false] := by
  simp only [answerMsgs, map_withKey_more, List.length_map]
  exact responseMsgs_more c _ _

theorem flatten_answerMsgs_payload (c : Ctx) (st : Nat) (body : Bytes) (s : State) :
    ((answerMsgs c st body s).map OutMsg.payload).flatten = [BitVec.ofNat 8 st, 0, 0, 0] ++ body := by
  rw [answerMsgs_payload, flatten_chunks (by decide), responsePayload_eq]

theorem payload_length_le_of_mem_answerMsgs {c : Ctx} {st : Nat} {body : Bytes} {s : State} {m : OutMsg}
    (hm : m ∈ answerMsgs c st body s) : m.payload.length ≤ 1024 := by
  have hp : m.payload ∈ (answerMsgs c st body s).map OutMsg.payload := List.mem_map_of_mem hm
  rw [answerMsgs_payload] at hp
  exact length_le_of_mem_chunks hp

theorem respondsTo_of_mem_answerMsgs {c : Ctx} {st : Nat} {body : Bytes} {s : State} {m : OutMsg}
    (hm : m ∈ answerMsgs c st body s) : RespondsTo c s.mb.epoch m := by
  obtain ⟨m', hm', rfl⟩ := List.mem_map.mp hm
  exact respondsTo_withKey s (respondsTo_of_mem_responseMsgs hm')

/-! ### The state after an answer -/

/-- What a changed session list finds under a number, when the change keeps every session's number. -/
theorem findSess_updSess {f : Sess → Sess} (hf : ∀ x, (f x).num = x.num) (num n : Nat) (s : State) :
    findSess (updSess num f s) n = (findSess s n).map (fun x => if x.num = num then f x else x) := by
  have hnum : ((fun x : Sess => x.num == n) ∘ fun x => if x.num = num then f x else x) = fun x => x.num == n := by
    funext x
    simp only [Function.comp_apply, apply_ite Sess.num, hf, ite_self]
  simp only [findSess, updSess, List.find?_map, hnum]

theorem num_of_findSess {s : State} {n : Nat} {x : Sess} (h : findSess s n = some x) : x.num = n := by
  simpa using List.find?_some h

/-- A session with a response remembered among its last 16 (R30). -/
def cacheResponse (seq : Nat) (ms : List OutMsg) (x : Sess) : Sess := { x with cache := pushRing 16 x.cache (seq, ms) }

theorem cacheResponse_num (seq : Nat) (ms : List OutMsg) (x : Sess) : (cacheResponse seq ms x).num = x.num := by simp only [cacheResponse]

theorem cacheResponse_but_cache (seq : Nat) (ms : List OutMsg) (x : Sess) : { cacheResponse seq ms x with cache := x.cache } = x := by
  simp only [cacheResponse]

theorem answer_session0 {c : Ctx} (h : c.session = 0) (st : Nat) (body : Bytes) (s : State) :
    answer c st body s = { s with out := s.out ++ answerMsgs c st body s } := by
  simp only [answer, h, if_true]
  rfl

theorem answer_session {c : Ctx} (h : c.session ≠ 0) (st : Nat) (body : Bytes) (s : State) :
    answer c st body s =
      updSess c.session (cacheResponse c.seq (responseMsgs c s.mb.epoch (responsePayload st body)))
        { s with out := s.out ++ answerMsgs c st body s } := by
  simp only [answer, h, if_false]
  rfl

theorem answer_out (c : Ctx) (st : Nat) (body : Bytes) (s : State) : (answer c st body s).out = s.out ++ answerMsgs c st body s := by
  by_cases h : c.session = 0
  · rw [answer_session0 h]
  · rw [answer_session h]
    rfl

theorem answer_mb_but_sessions (c : Ctx) (st : Nat) (body : Bytes) (s : State) :
    { (answer c st body s).mb with sessions := s.mb.sessions } = s.mb := by
  by_cases h : c.session = 0
  · rw [answer_session0 h]
  · rw [answer_session h]
    rfl

theorem answer_findSess (c : Ctx) (st : Nat) (body : Bytes) {s : State} {n : Nat} {x : Sess} (hx : findSess s n = some x) :
    ∃ y, findSess (answer c st body s) n = some y ∧ { y with cache := x.cache } = x ∧ (n ≠ c.session → y = x) := by
  by_cases h : c.session = 0
  · rw [answer_session0 h]
    exact ⟨x, hx, rfl, fun _ => rfl⟩
  · have hx' : findSess { s with out := s.out ++ answerMsgs c st body s } n = some x := hx
    rw [answer_session h, findSess_updSess (cacheResponse_num _ _), hx', Option.map_some, num_of_findSess hx]
    by_cases hn : n = c.session
    · rw [if_pos hn]
      exact ⟨_, rfl, cacheResponse_but_cache _ _ x, fun hne => absurd hn hne⟩
    · rw [if_neg hn]
      exact ⟨x, rfl, rfl, fun _ => rfl⟩

/-- Settles O5: the payload is cut into chunks that join to it again, and only the cache of the session answered in is written beside them. -/
theorem responsesAreFormedAndCut : Obligations.ResponsesAreFormedAndCut := by
  intro c st body s
  refine ⟨answerMsgs c st body s, answer_out c st body s, flatten_answerMsgs_payload c st body s, fun m hm => ?_,
    answerMsgs_more c st body s, fun h => answer_session0 h st body s, ?_, answer_mb_but_sessions c st body s,
    fun n x hx => answer_findSess c st body hx⟩
  · exact ⟨payload_length_le_of_mem_answerMsgs hm, respondsTo_of_mem_answerMsgs hm⟩
  · exact onlyIn_mono (frame_answer c st body s) rfl

/-! ### The target-frame rule (R37) -/

theorem targetRule_zero (a : Nat) (exactly : Bool) : targetRule a 0 exactly = (stOk, a + 2) := if_pos rfl

theorem targetRule_in_window {a target : Nat} (exactly : Bool) (hlo : a + 2 ≤ target) (hhi : target ≤ a + 86400000) :
    targetRule a target exactly = (stOk, target) := by
  have h0 : target ≠ 0 := by omega
  simp only [targetRule, if_neg h0, if_neg (Nat.not_lt.mpr hhi), if_pos hlo]

theorem targetRule_too_far {a target : Nat} (exactly : Bool) (h : a + 86400000 < target) : targetRule a target exactly = (stBadArg, 0) := by
  have h0 : target ≠ 0 := by omega
  simp only [targetRule, if_neg h0, if_pos h]

/-- A target that has passed, or comes before the second frame after arrival: only EXACT decides. -/
theorem targetRule_past {a target : Nat} (exactly : Bool) (h0 : target ≠ 0) (h : target < a + 2) :
    targetRule a target exactly = if exactly then (stTooLate, 0) else (stLate, a + 2) := by
  have hfar : ¬ a + 86400000 < target := by omega
  simp only [targetRule, if_neg h0, if_neg hfar, if_neg (Nat.not_le.mpr h)]

/-- Settles O6, by the four places that the target can have against the window of R37. -/
theorem targetFrameRule : Obligations.TargetFrameRule := by
  intro a target exactly
  refine ⟨?_, targetRule_in_window exactly, fun h => ?_, fun h0 h he => ?_, fun h0 h he => ?_⟩
  · rintro rfl
    exact targetRule_zero a exactly
  · rw [targetRule_too_far exactly h]
  · subst he
    exact targetRule_past false h0 h
  · subst he
    rw [targetRule_past true h0 h]
    rfl

end Sys2Proof.Proofs
end

section
/-!
PROOFS. The whole block: the frame of every command (spec/95), and the soundness of Mica along every step (R297, R301, R305).
-/

namespace Sys2Proof.Proofs

open Sys2Proof.Machine Sys2Proof.Safety

/-- Settles O59: each command has its own frame lemma, with the parts that `reach` gives it. -/
theorem changesStayInTheirParts : Obligations.ChangesStayInTheirParts := by
  intro i pre post h
  cases i with
  | messageReceive b intact wire => exact frame_execMessageReceive b intact wire pre post h
  | fragmentAssemblyTimeout => exact frame_execFragmentAssemblyTimeout pre post h
  | lockoutExpiry => exact frame_execLockoutExpiry pre post h
  | authBurstEnd => exact frame_execAuthBurstEnd pre post h
  | halfOpenTimeout => exact frame_execHalfOpenTimeout pre post h
  | reorderHoldExpiry => exact frame_execReorderHoldExpiry pre post h
  | sessionTimeout => exact frame_execSessionTimeout pre post h
  | session0BindingForget => exact frame_execSession0BindingForget pre post h
  | notifyIntervalExpiry => exact frame_execNotifyIntervalExpiry pre post h
  | ident r => exact frame_execIdent r pre post h
  | ping r => exact frame_execPing r pre post h
  | timeGet r => exact frame_execTimeGet r pre post h
  | statusGet r => exact frame_execStatusGet r pre post h
  | sessionOpen r => exact frame_execSessionOpen r pre post h
  | sessionProve r => exact frame_execSessionProve r pre post h
  | sessionClose r => exact frame_execSessionClose r pre post h
  | sessionList r => exact frame_execSessionList r pre post h
  | subscribe r => exact frame_execSubscribe r pre post h
  | unsubscribe r => exact frame_execUnsubscribe r pre post h
  | pendingList r => exact frame_execPendingList r pre post h
  | pendingCancel r => exact frame_execPendingCancel r pre post h
  | fbRelay r => exact frame_execFbRelay r pre post h
  | relayInnerResponse src flow inner => exact frame_execRelayInnerResponse src flow inner pre post h
  | relayTimeout => exact frame_execRelayTimeout pre post h
  | relayedNotify src flow inner => exact frame_execRelayedNotify src flow inner pre post h
  | paramGet r => exact frame_execParamGet r pre post h
  | paramSet r => exact frame_execParamSet r pre post h
  | paramInfo r => exact frame_execParamInfo r pre post h
  | paramList r => exact frame_execParamList r pre post h
  | moduleSettingDurable => exact frame_execModuleSettingDurable pre post h
  | profileSelect r => exact frame_execProfileSelect r pre post h
  | profileGetActive r => exact frame_execProfileGetActive r pre post h
  | profileRead r => exact frame_execProfileRead r pre post h
  | profileWrite r => exact frame_execProfileWrite r pre post h
  | profileValidate r => exact frame_execProfileValidate r pre post h
  | profileSave r => exact frame_execProfileSave r pre post h
  | profileSetDefault r => exact frame_execProfileSetDefault r pre post h
  | mdRead r => exact frame_execMdRead r pre post h
  | profileStagingTimeout => exact frame_execProfileStagingTimeout pre post h
  | cutOff x => exact frame_execCutOff x pre post h
  | frameStart crc => exact frame_execFrameStart crc pre post h
  | rampEnd f => exact frame_execRampEnd f pre post h
  | feedbackGraceExpiry f => exact frame_execFeedbackGraceExpiry f pre post h
  | tickSample coils loads rail => exact frame_execTickSample coils loads rail pre post h
  | tickStart => exact frame_execTickStart pre post h
  | tickCommit bad => exact frame_execTickCommit bad pre post h
  | firmwareDeadline work => exact frame_execFirmwareDeadline work pre post h
  | consecutiveOverrunLimit => exact frame_execConsecutiveOverrunLimit pre post h
  | frameCommit bad => exact frame_execFrameCommit bad pre post h
  | lockstepDivergence lane => exact frame_execLockstepDivergence lane pre post h
  | laneWatchdogMiss lane => exact frame_execLaneWatchdogMiss lane pre post h
  | laneEccError lane double => exact frame_execLaneEccError lane double pre post h
  | laneResetDone lane => exact frame_execLaneResetDone lane pre post h
  | laneSelftestDone lane pass => exact frame_execLaneSelftestDone lane pass pre post h
  | transferFinalPass lane dirty => exact frame_execTransferFinalPass lane dirty pre post h
  | transferTimeout lane => exact frame_execTransferTimeout lane pre post h
  | excludedWaitExpiry lane => exact frame_execExcludedWaitExpiry lane pre post h
  | grStatus r => exact frame_execGrStatus r pre post h
  | functionSet r => exact frame_execFunctionSet r pre post h
  | functionEnable r => exact frame_execFunctionEnable r pre post h
  | laneStatus r => exact frame_execLaneStatus r pre post h
  | coefBankWrite r => exact frame_execCoefBankWrite r pre post h
  | coefBankSwap r => exact frame_execCoefBankSwap r pre post h
  | recordCapture r => exact frame_execRecordCapture r pre post h
  | recordCaptureDone => exact frame_execRecordCaptureDone pre post h
  | recordRead r => exact frame_execRecordRead r pre post h
  | replayStatus r => exact frame_execReplayStatus r pre post h
  | replayLoad r => exact frame_execReplayLoad r pre post h
  | replayRun r => exact frame_execReplayRun r pre post h
  | replayAbort r => exact frame_execReplayAbort r pre post h
  | replayDone mismatches frame tick => exact frame_execReplayDone mismatches frame tick pre post h
  | impactEnd ch onset raw closed => exact frame_execImpactEnd ch onset raw closed pre post h
  | impactClassify ch => exact frame_execImpactClassify ch pre post h
  | tapDue ch => exact frame_execTapDue ch pre post h
  | tapForced ch => exact frame_execTapForced ch pre post h
  | tapStart ch sample quiet spanOpen => exact frame_execTapStart ch sample quiet spanOpen pre post h
  | tapSequenceEnd ch => exact frame_execTapSequenceEnd ch pre post h
  | tapAnalysisDone ch y => exact frame_execTapAnalysisDone ch y pre post h
  | tapDeferral ch => exact frame_execTapDeferral ch pre post h
  | calibrationStale ch => exact frame_execCalibrationStale ch pre post h
  | teachDone ch => exact frame_execTeachDone ch pre post h
  | diagIdleDue ch => exact frame_execDiagIdleDue ch pre post h
  | diagStart ch sample quiet spanOpen => exact frame_execDiagStart ch sample quiet spanOpen pre post h
  | diagSequenceEnd ch vp vn vpn => exact frame_execDiagSequenceEnd ch vp vn vpn pre post h
  | asPinRangeFault ch mv => exact frame_execAsPinRangeFault ch mv pre post h
  | qzStatus r => exact frame_execQzStatus r pre post h
  | qzResultsRead r => exact frame_execQzResultsRead r pre post h
  | qzCropSelect r => exact frame_execQzCropSelect r pre post h
  | qzTapRequestTap r => exact frame_execQzTapRequestTap r pre post h
  | qzTapRequestTeach r => exact frame_execQzTapRequestTeach r pre post h
  | qzTapRequestForget r => exact frame_execQzTapRequestForget r pre post h
  | qzDiagRequest r => exact frame_execQzDiagRequest r pre post h
  | qzRawCaptureStatus r => exact frame_execQzRawCaptureStatus r pre post h
  | qzRawCaptureStart r => exact frame_execQzRawCaptureStart r pre post h
  | qzRawCaptureStop r => exact frame_execQzRawCaptureStop r pre post h
  | qzRawCaptureRead r => exact frame_execQzRawCaptureRead r pre post h
  | rawCaptureDone => exact frame_execRawCaptureDone pre post h
  | lossGroupUncovered role => exact frame_execLossGroupUncovered role pre post h
  | liveCalSettleDone => exact frame_execLiveCalSettleDone pre post h
  | liveCalIntervalEnd => exact frame_execLiveCalIntervalEnd pre post h
  | liveCalTimeout => exact frame_execLiveCalTimeout pre post h
  | delayEstimate => exact frame_execDelayEstimate pre post h
  | delayNotEstimable => exact frame_execDelayNotEstimable pre post h
  | slopeLimitUpdate => exact frame_execSlopeLimitUpdate pre post h
  | moistureCellInvalid cell => exact frame_execMoistureCellInvalid cell pre post h
  | yieldRecordWrite => exact frame_execYieldRecordWrite pre post h
  | optimizerWindowEnd => exact frame_execOptimizerWindowEnd pre post h
  | optimizerSettleEnd => exact frame_execOptimizerSettleEnd pre post h
  | optimizerHoldEnd => exact frame_execOptimizerHoldEnd pre post h
  | optimizerOperatorHoldEnd f => exact frame_execOptimizerOperatorHoldEnd f pre post h
  | cfStatus r => exact frame_execCfStatus r pre post h
  | yieldRead r => exact frame_execYieldRead r pre post h
  | cfCalibrateFlowZero r => exact frame_execCfCalibrateFlowZero r pre post h
  | cfCalibrateTankTare r => exact frame_execCfCalibrateTankTare r pre post h
  | calibrationAverageDone => exact frame_execCalibrationAverageDone pre post h
  | cfCalibrateLoadBegin r => exact frame_execCfCalibrateLoadBegin r pre post h
  | cfCalibrateLoadEnd r => exact frame_execCfCalibrateLoadEnd r pre post h
  | cfCalibrateLoadAbort r => exact frame_execCfCalibrateLoadAbort r pre post h
  | cfCalibrateGainReset r => exact frame_execCfCalibrateGainReset r pre post h
  | cfCalibrateDelayReset r => exact frame_execCfCalibrateDelayReset r pre post h
  | optimizerTargets r => exact frame_execOptimizerTargets r pre post h
  | optimizerEnable r => exact frame_execOptimizerEnable r pre post h
  | coveragePutFieldOpen r => exact frame_execCoveragePutFieldOpen r pre post h
  | coveragePutFieldClose r => exact frame_execCoveragePutFieldClose r pre post h
  | coveragePutCells r => exact frame_execCoveragePutCells r pre post h
  | coverageGetBits r => exact frame_execCoverageGetBits r pre post h
  | coverageGetChanges r => exact frame_execCoverageGetChanges r pre post h
  | mapExport r => exact frame_execMapExport r pre post h
  | boostStartInstant ch us => exact frame_execBoostStartInstant ch us pre post h
  | peakReached ch us m => exact frame_execPeakReached ch us m pre post h
  | boostTimeout ch us m => exact frame_execBoostTimeout ch us m pre post h
  | deferTimeout ch us => exact frame_execDeferTimeout ch us pre post h
  | peakEnd ch us cur => exact frame_execPeakEnd ch us cur pre post h
  | releaseInstant ch us => exact frame_execReleaseInstant ch us pre post h
  | releaseEnd ch us ma => exact frame_execReleaseEnd ch us ma pre post h
  | observeEnd ch us volts => exact frame_execObserveEnd ch us volts pre post h
  | valveFaultDetect ch us m => exact frame_execValveFaultDetect ch us m pre post h
  | vdOffstateDiag ch us m => exact frame_execVdOffstateDiag ch us m pre post h
  | boostRailThreshold mv => exact frame_execBoostRailThreshold mv pre post h
  | boostOvervoltage mv us => exact frame_execBoostOvervoltage mv us pre post h
  | boostRailLow mv ms => exact frame_execBoostRailLow mv ms pre post h
  | boostConverterSlow mv => exact frame_execBoostConverterSlow mv pre post h
  | vdCommandOff r => exact frame_execVdCommandOff r pre post h
  | vdCommandPulse r => exact frame_execVdCommandPulse r pre post h
  | vdCommandCurrent r => exact frame_execVdCommandCurrent r pre post h
  | vdStatus r => exact frame_execVdStatus r pre post h
  | vdTimingRead r => exact frame_execVdTimingRead r pre post h
  | vdDiagChannel r => exact frame_execVdDiagChannel r pre post h
  | vdDiagBank r => exact frame_execVdDiagBank r pre post h
  | vdDiagClear r => exact frame_execVdDiagClear r pre post h
  | inrushWindowEnd ch us => exact frame_execInrushWindowEnd ch us pre post h
  | currentLimitEntry ch us ma => exact frame_execCurrentLimitEntry ch us ma pre post h
  | currentLimitExit ch us ma => exact frame_execCurrentLimitExit ch us ma pre post h
  | startAttemptFail ch us => exact frame_execStartAttemptFail ch us pre post h
  | startAttemptSuccess ch us => exact frame_execStartAttemptSuccess ch us pre post h
  | retryWaitEnd ch us tj => exact frame_execRetryWaitEnd ch us tj pre post h
  | lsThermalShutdown ch us tj => exact frame_execLsThermalShutdown ch us tj pre post h
  | lsJunctionCooled ch us tj => exact frame_execLsJunctionCooled ch us tj pre post h
  | demagEnd ch us out ma clamp => exact frame_execDemagEnd ch us out ma clamp pre post h
  | lsOffstateDiag ch v1 v2 => exact frame_execLsOffstateDiag ch v1 v2 pre post h
  | lsOpenLoadOnstate ch ma ms => exact frame_execLsOpenLoadOnstate ch ma ms pre post h
  | dissipationEstimate m => exact frame_execDissipationEstimate m pre post h
  | loadShed => exact frame_execLoadShed pre post h
  | loadRestore => exact frame_execLoadRestore pre post h
  | budgetExceeded => exact frame_execBudgetExceeded pre post h
  | lsCommandOff r => exact frame_execLsCommandOff r pre post h
  | lsCommandOn r => exact frame_execLsCommandOn r pre post h
  | lsCommandPwm r => exact frame_execLsCommandPwm r pre post h
  | lsStatus r => exact frame_execLsStatus r pre post h
  | lsLatchClear r => exact frame_execLsLatchClear r pre post h
  | lsDiagOffState r => exact frame_execLsDiagOffState r pre post h
  | lsDiagOnTest r => exact frame_execLsDiagOnTest r pre post h
  | onTestEnd ch us peak => exact frame_execOnTestEnd ch us peak pre post h
  | antennaBiasSample ant ma mv => exact frame_execAntennaBiasSample ant ma mv pre post h
  | antennaShortRetry ant => exact frame_execAntennaShortRetry ant pre post h
  | antennaOvervoltage ant mv ms => exact frame_execAntennaOvervoltage ant mv ms pre post h
  | trackingLoopUpdate ch synced => exact frame_execTrackingLoopUpdate ch synced pre post h
  | channelAllocation cands => exact frame_execChannelAllocation cands pre post h
  | searchDwellDone eng ant sys sat found => exact frame_execSearchDwellDone eng ant sys sat found pre post h
  | notchMonitor path lines agc => exact frame_execNotchMonitor path lines agc pre post h
  | navEpoch fix => exact frame_execNavEpoch fix pre post h
  | navSolutionRelease => exact frame_execNavSolutionRelease pre post h
  | imuSample gyro acc yaw => exact frame_execImuSample gyro acc yaw pre post h
  | inertialFault failed => exact frame_execInertialFault failed pre post h
  | deadReckoningLimit => exact frame_execDeadReckoningLimit pre post h
  | correctionsStale => exact frame_execCorrectionsStale pre post h
  | baselineMismatch => exact frame_execBaselineMismatch pre post h
  | timeEstablish => exact frame_execTimeEstablish pre post h
  | frameRenumber => exact frame_execFrameRenumber pre post h
  | renumberWaitTimeout => exact frame_execRenumberWaitTimeout pre post h
  | ppsPulse => exact frame_execPpsPulse pre post h
  | timeHoldoverEntry => exact frame_execTimeHoldoverEntry pre post h
  | timeMessageQueue => exact frame_execTimeMessageQueue pre post h
  | ppsiEdge cycle => exact frame_execPpsiEdge cycle pre post h
  | ppsiMissing => exact frame_execPpsiMissing pre post h
  | steerGraceExpiry => exact frame_execSteerGraceExpiry pre post h
  | gnStatus r => exact frame_execGnStatus r pre post h
  | gnSolutionGet r => exact frame_execGnSolutionGet r pre post h
  | rtcmPut r => exact frame_execRtcmPut r pre post h
  | gnConfigRestart r => exact frame_execGnConfigRestart r pre post h
  | gnConfigSeed r => exact frame_execGnConfigSeed r pre post h
  | gnConfigNotchReset r => exact frame_execGnConfigNotchReset r pre post h
  | gnConfigAntennaRetry r => exact frame_execGnConfigAntennaRetry r pre post h
  | gnConfigImuSelftest r => exact frame_execGnConfigImuSelftest r pre post h
  | pathLoadLoadNext r => exact frame_execPathLoadLoadNext r pre post h
  | pathLoadClearNext r => exact frame_execPathLoadClearNext r pre post h
  | pathLoadShift r => exact frame_execPathLoadShift r pre post h
  | steerEngage r => exact frame_execSteerEngage r pre post h
  | helloSend port => exact frame_execHelloSend port pre post h
  | hello port sender node nport seen cost => exact frame_execHello port sender node nport seen cost pre post h
  | neighbourTimeout port => exact frame_execNeighbourTimeout port pre post h
  | linkDown port => exact frame_execLinkDown port pre post h
  | linkUp port => exact frame_execLinkUp port pre post h
  | linkDegraded port sqi => exact frame_execLinkDegraded port sqi pre post h
  | lsaFlood => exact frame_execLsaFlood pre post h
  | lsa port m => exact frame_execLsa port m pre post h
  | lsaExpiry => exact frame_execLsaExpiry pre post h
  | assign port target node stamp => exact frame_execAssign port target node stamp pre post h
  | verdict port m => exact frame_execVerdict port m pre post h
  | verdictInForce => exact frame_execVerdictInForce pre post h
  | sync port m rx => exact frame_execSync port m rx pre post h
  | syncSend port corr => exact frame_execSyncSend port corr pre post h
  | delayReq port reply => exact frame_execDelayReq port reply pre post h
  | delayResp port id t1 t2 t3 t4 => exact frame_execDelayResp port id t1 t2 t3 t4 pre post h
  | time port msg => exact frame_execTime port msg pre post h
  | alignmentTimer => exact frame_execAlignmentTimer pre post h
  | creamSend cell => exact frame_execCreamSend cell pre post h
  | creamCellReceive port good src dst secondary p => exact frame_execCreamCellReceive port good src dst secondary p pre post h
  | skimFrameReceive port good f => exact frame_execSkimFrameReceive port good f pre post h
  | fbStatus r => exact frame_execFbStatus r pre post h
  | fbTopology r => exact frame_execFbTopology r pre post h
  | fbNodeAssign r => exact frame_execFbNodeAssign r pre post h
  | fbCableTest r => exact frame_execFbCableTest r pre post h
  | canFrameReceive port f cycle err => exact frame_execCanFrameReceive port f cycle err pre post h
  | canTxComplete port buf delay => exact frame_execCanTxComplete port buf delay pre post h
  | canTxError port buf e => exact frame_execCanTxError port buf e pre post h
  | canIntegrationDone port => exact frame_execCanIntegrationDone port pre post h
  | canBusOffRecovery port => exact frame_execCanBusOffRecovery port pre post h
  | addressClaimTimeout port => exact frame_execAddressClaimTimeout port pre post h
  | transportTimeout port peer out => exact frame_execTransportTimeout port peer out pre post h
  | canDominantTimeout port bus us => exact frame_execCanDominantTimeout port bus us pre post h
  | cnStatus r => exact frame_execCnStatus r pre post h
  | cnConfigRestart r => exact frame_execCnConfigRestart r pre post h
  | cnConfigReclaim r => exact frame_execCnConfigReclaim r pre post h
  | cnSend r => exact frame_execCnSend r pre post h
  | cnCancel r => exact frame_execCnCancel r pre post h
  | cnFilterSet r => exact frame_execCnFilterSet r pre post h
  | micaAccess bank reqs => exact frame_execMicaAccess bank reqs pre post h
  | micaAtomic master op addr value => exact frame_execMicaAtomic master op addr value pre post h
  | micaUncorrectable addr us => exact frame_execMicaUncorrectable addr us pre post h
  | scrubLine corrected bad us => exact frame_execScrubLine corrected bad us pre post h
  | bankPowerRequest bank next => exact frame_execBankPowerRequest bank next pre post h
  | bankZeroDone bank => exact frame_execBankZeroDone bank pre post h
  | sharedRingTimer => exact frame_execSharedRingTimer pre post h
  | mapFlushPage => exact frame_execMapFlushPage pre post h
  | mapMirrorPage rx => exact frame_execMapMirrorPage rx pre post h
  | wearCompaction left => exact frame_execWearCompaction left pre post h
  | tapCalibrationCopy => exact frame_execTapCalibrationCopy pre post h
  | converterSelfCalibration kind ch => exact frame_execConverterSelfCalibration kind ch pre post h
  | almanacCollection sys page => exact frame_execAlmanacCollection sys page pre post h
  | eventCompaction => exact frame_execEventCompaction pre post h
  | telemetry => exact frame_execTelemetry pre post h
  | churnStarvation activity => exact frame_execChurnStarvation activity pre post h
  | nandLifeCheck life => exact frame_execNandLifeCheck life pre post h
  | nandWriteDone what ok => exact frame_execNandWriteDone what ok pre post h
  | mcStatus r => exact frame_execMcStatus r pre post h
  | storeStatus r => exact frame_execStoreStatus r pre post h
  | mcBankState r => exact frame_execMcBankState r pre post h
  | mapFlush r => exact frame_execMapFlush r pre post h
  | snapshotQueueWrite misses => exact frame_execSnapshotQueueWrite misses pre post h
  | fixedRecordWrite misses => exact frame_execFixedRecordWrite misses pre post h
  | injectionEnd handle => exact frame_execInjectionEnd handle pre post h
  | evRead r => exact frame_execEvRead r pre post h
  | evReadPriv r => exact frame_execEvReadPriv r pre post h
  | evCount r => exact frame_execEvCount r pre post h
  | evClear r => exact frame_execEvClear r pre post h
  | inject r => exact frame_execInject r pre post h
  | injectClear r => exact frame_execInjectClear r pre post h
  | injectList r => exact frame_execInjectList r pre post h
  | selftest r => exact frame_execSelftest r pre post h
  | motionSend => exact frame_execMotionSend pre post h
  | motion src data => exact frame_execMotion src data pre post h
  | supplyConditionChange mv ms => exact frame_execSupplyConditionChange mv ms pre post h
  | updateBegin r => exact frame_execUpdateBegin r pre post h
  | updateData r => exact frame_execUpdateData r pre post h
  | updateStatus r => exact frame_execUpdateStatus r pre post h
  | updateActivate r => exact frame_execUpdateActivate r pre post h
  | updateConfirm r => exact frame_execUpdateConfirm r pre post h
  | updateAbortStaging r => exact frame_execUpdateAbortStaging r pre post h
  | updateAbortFallback r => exact frame_execUpdateAbortFallback r pre post h
  | updateAbortResolveAbort r => exact frame_execUpdateAbortResolveAbort r pre post h
  | manifest src data => exact frame_execManifest src data pre post h
  | chunk src data => exact frame_execChunk src data pre post h
  | chunkForward => exact frame_execChunkForward pre post h
  | ack src data => exact frame_execAck src data pre post h
  | nack src data => exact frame_execNack src data pre post h
  | staged src data => exact frame_execStaged src data pre post h
  | prepare src data => exact frame_execPrepare src data pre post h
  | vote src data => exact frame_execVote src data pre post h
  | voteDeadline => exact frame_execVoteDeadline pre post h
  | commitAbort src data => exact frame_execCommitAbort src data pre post h
  | decisionAck src data => exact frame_execDecisionAck src data pre post h
  | decisionResend => exact frame_execDecisionResend pre post h
  | resolve src data => exact frame_execResolve src data pre post h
  | resolveResend => exact frame_execResolveResend pre post h
  | confirmFallback src data => exact frame_execConfirmFallback src data pre post h
  | commitFrameSwap => exact frame_execCommitFrameSwap pre post h
  | resetAssert source level us => exact frame_execResetAssert source level us pre post h
  | resetRelease source => exact frame_execResetRelease source pre post h
  | supervisorWatchdogExpiry ms us => exact frame_execSupervisorWatchdogExpiry ms us pre post h
  | lockUp ms us => exact frame_execLockUp ms us pre post h
  | clockFailure us => exact frame_execClockFailure us pre post h
  | optionTrimLoadDone => exact frame_execOptionTrimLoadDone pre post h
  | vcoLock ok rtc => exact frame_execVcoLock ok rtc pre post h
  | d4Release straps => exact frame_execD4Release straps pre post h
  | supervisorImageLoaded ok => exact frame_execSupervisorImageLoaded ok pre post h
  | laneImageLoaded => exact frame_execLaneImageLoaded pre post h
  | bootProfileActivation => exact frame_execBootProfileActivation pre post h
  | bootComplete ms => exact frame_execBootComplete ms pre post h
  | bootTimeout us => exact frame_execBootTimeout us pre post h
  | l2RestartComplete => exact frame_execL2RestartComplete pre post h
  | l3UnitReset unit us => exact frame_execL3UnitReset unit us pre post h
  | resetRequest r => exact frame_execResetRequest r pre post h
  | resetRequestEffect us => exact frame_execResetRequestEffect us pre post h
  | lifecycleGet r => exact frame_execLifecycleGet r pre post h
  | lifecycleSetTransition r => exact frame_execLifecycleSetTransition r pre post h
  | lifecycleSetProvisionKey r => exact frame_execLifecycleSetProvisionKey r pre post h
  | lifecycleSetRevokeKey r => exact frame_execLifecycleSetRevokeKey r pre post h
  | ownerLockSet r => exact frame_execOwnerLockSet r pre post h
  | ownerLockClear r => exact frame_execOwnerLockClear r pre post h
  | ownerLockPermitService r => exact frame_execOwnerLockPermitService r pre post h
  | permitServiceExpiry => exact frame_execPermitServiceExpiry pre post h
  | vsupReducedEntry mv us => exact frame_execVsupReducedEntry mv us pre post h
  | vsupNormalReturn mv ms => exact frame_execVsupNormalReturn mv ms pre post h
  | vbatLowEntry mv us => exact frame_execVbatLowEntry mv us pre post h
  | vbatHighEntry mv us => exact frame_execVbatHighEntry mv us pre post h
  | vbatNormalReturn mv ms => exact frame_execVbatNormalReturn mv ms pre post h
  | vbatUvOvDetect mv ms => exact frame_execVbatUvOvDetect mv ms pre post h
  | sensorSupplyFault sup ma mv ms => exact frame_execSensorSupplyFault sup ma mv ms pre post h
  | sensorSupplyRetry sup limited => exact frame_execSensorSupplyRetry sup limited pre post h
  | overTemperature t ms => exact frame_execOverTemperature t ms pre post h
  | stopInputChange group asserted => exact frame_execStopInputChange group asserted pre post h
  | stopDiscrepancy => exact frame_execStopDiscrepancy pre post h
  | standbyEnter r => exact frame_execStandbyEnter r pre post h
  | standbyDomainsOff us => exact frame_execStandbyDomainsOff us pre post h
  | standbyWake cause ms rtc => exact frame_execStandbyWake cause ms rtc pre post h
  | clkKeepStop => exact frame_execClkKeepStop pre post h
  | powerStatus r => exact frame_execPowerStatus r pre post h
  | domainState r => exact frame_execDomainState r pre post h
  | spWrite r => exact frame_execSpWrite r pre post h
  | spStatus r => exact frame_execSpStatus r pre post h
  | panelUpdateStart us => exact frame_execPanelUpdateStart us pre post h
  | panelPhaseEnd us => exact frame_execPanelPhaseEnd us pre post h
  | panelGuardEnd us => exact frame_execPanelGuardEnd us pre post h
  | panelPinFault pin us => exact frame_execPanelPinFault pin us pre post h
  | ainOutOfRange ch raw us => exact frame_execAinOutOfRange ch raw us pre post h
  | ainShuntReclose ch => exact frame_execAinShuntReclose ch pre post h
  | fqEdgeTimeout ch => exact frame_execFqEdgeTimeout ch pre post h
  | bridgeExcitationFault ch ma limit ms => exact frame_execBridgeExcitationFault ch ma limit ms pre post h
  | holdDutyWindowStep => exact frame_execHoldDutyWindowStep pre post h
  | lsPwmPeriodStart ch us => exact frame_execLsPwmPeriodStart ch us pre post h
  | opsecCount => exact frame_execOpsecCount pre post h
  | sensorSupplyShortRemoved sup => exact frame_execSensorSupplyShortRemoved sup pre post h
  | lowSideThermalHysteresis ch kelvin => exact frame_execLowSideThermalHysteresis ch kelvin pre post h

/-- A command that may not reach Mica keeps it sound by its frame. -/
theorem keep_of_not_reach {i : Instr} {pre post : State} (hi : (reach i).contains .mc = false) (h : exec i pre = .next post) :
    Keep pre post :=
  keep_out (changesStayInTheirParts i pre post h) hi (keep_refl pre)

/-- Every command keeps Mica sound: those that reach it by their own lemma, the others by their frame. -/
theorem keep_exec (i : Instr) {pre post : State} (h : exec i pre = .next post) : Keep pre post := by
  cases i with
  | messageReceive b intact wire => exact keep_execMessageReceive b intact wire pre post h
  | cutOff x => exact keep_execCutOff x pre post h
  | frameStart crc => exact keep_execFrameStart crc pre post h
  | qzRawCaptureStart r => exact keep_execQzRawCaptureStart r pre post h
  | qzRawCaptureStop r => exact keep_execQzRawCaptureStop r pre post h
  | qzRawCaptureRead r => exact keep_execQzRawCaptureRead r pre post h
  | rawCaptureDone => exact keep_execRawCaptureDone pre post h
  | skimFrameReceive port good f => exact keep_execSkimFrameReceive port good f pre post h
  | canFrameReceive port f cycle err => exact keep_execCanFrameReceive port f cycle err pre post h
  | micaAccess bank reqs => exact keep_execMicaAccess bank reqs pre post h
  | micaAtomic master op addr value => exact keep_execMicaAtomic master op addr value pre post h
  | micaUncorrectable addr us => exact keep_execMicaUncorrectable addr us pre post h
  | scrubLine corrected bad us => exact keep_execScrubLine corrected bad us pre post h
  | bankPowerRequest bank next => exact keep_execBankPowerRequest bank next pre post h
  | bankZeroDone bank => exact keep_execBankZeroDone bank pre post h
  | sharedRingTimer => exact keep_execSharedRingTimer pre post h
  | mapFlushPage => exact keep_execMapFlushPage pre post h
  | mapMirrorPage rx => exact keep_execMapMirrorPage rx pre post h
  | wearCompaction left => exact keep_execWearCompaction left pre post h
  | tapCalibrationCopy => exact keep_execTapCalibrationCopy pre post h
  | converterSelfCalibration kind ch => exact keep_execConverterSelfCalibration kind ch pre post h
  | almanacCollection sys page => exact keep_execAlmanacCollection sys page pre post h
  | eventCompaction => exact keep_execEventCompaction pre post h
  | telemetry => exact keep_execTelemetry pre post h
  | churnStarvation activity => exact keep_execChurnStarvation activity pre post h
  | nandLifeCheck life => exact keep_execNandLifeCheck life pre post h
  | nandWriteDone what ok => exact keep_execNandWriteDone what ok pre post h
  | mcBankState r => exact keep_execMcBankState r pre post h
  | mapFlush r => exact keep_execMapFlush r pre post h
  | snapshotQueueWrite misses => exact keep_execSnapshotQueueWrite misses pre post h
  | fixedRecordWrite misses => exact keep_execFixedRecordWrite misses pre post h
  | updateBegin r => exact keep_execUpdateBegin r pre post h
  | updateData r => exact keep_execUpdateData r pre post h
  | updateAbortStaging r => exact keep_execUpdateAbortStaging r pre post h
  | updateAbortFallback r => exact keep_execUpdateAbortFallback r pre post h
  | manifest src data => exact keep_execManifest src data pre post h
  | chunk src data => exact keep_execChunk src data pre post h
  | ack src data => exact keep_execAck src data pre post h
  | staged src data => exact keep_execStaged src data pre post h
  | commitAbort src data => exact keep_execCommitAbort src data pre post h
  | decisionAck src data => exact keep_execDecisionAck src data pre post h
  | confirmFallback src data => exact keep_execConfirmFallback src data pre post h
  | commitFrameSwap => exact keep_execCommitFrameSwap pre post h
  | resetAssert source level us => exact keep_execResetAssert source level us pre post h
  | supervisorWatchdogExpiry ms us => exact keep_execSupervisorWatchdogExpiry ms us pre post h
  | lockUp ms us => exact keep_execLockUp ms us pre post h
  | clockFailure us => exact keep_execClockFailure us pre post h
  | vcoLock ok rtc => exact keep_execVcoLock ok rtc pre post h
  | d4Release straps => exact keep_execD4Release straps pre post h
  | supervisorImageLoaded ok => exact keep_execSupervisorImageLoaded ok pre post h
  | bootProfileActivation => exact keep_execBootProfileActivation pre post h
  | bootTimeout us => exact keep_execBootTimeout us pre post h
  | resetRequestEffect us => exact keep_execResetRequestEffect us pre post h
  | lifecycleSetTransition r => exact keep_execLifecycleSetTransition r pre post h
  | vsupNormalReturn mv ms => exact keep_execVsupNormalReturn mv ms pre post h
  | standbyDomainsOff us => exact keep_execStandbyDomainsOff us pre post h
  | _ => exact keep_of_not_reach rfl h

/-- Settles O60: a step is a command on the same Mica, or idles. -/
theorem everyStepKeepsMicaSound : Obligations.EveryStepKeepsMicaSound := by
  intro s t hs h
  unfold step at h
  split at h
  · cases h
    exact hs
  next i rest _ => exact keep_exec i (pre := { s with pending := rest }) h hs

end Sys2Proof.Proofs
end

section
/-!
PROOFS. The queue and the reset state, and steps 7 to 10 of Table 1-3 for every mailbox command (R16, R27, R28, R33).
-/

namespace Sys2Proof.Proofs

open Sys2Proof.Machine Sys2Proof.Safety

/-- Settles O1: both sides are the two branches of `step`. -/
theorem stepRunsFrontCommand : Obligations.StepRunsFrontCommand :=
  ⟨fun s i rest h => by simp only [step, h], fun s h => by simp only [step, h]⟩

theorem inv_reset : Inv State.reset := sound_empty rfl (by decide)

/-- Settles O58, by the values of the reset state; Mica is sound there because it is without content. -/
theorem afterReset : Obligations.AfterReset := by
  refine ⟨inv_reset, rfl, rfl, rfl, rfl, rfl, rfl, rfl, rfl, rfl, rfl, rfl, rfl, ?_, rfl, ?_, rfl, rfl, ?_, rfl, ?_, rfl, rfl, rfl, rfl, ?_,
    fun _ => rfl, rfl, rfl, rfl, rfl, rfl, rfl⟩
  all_goals decide +kernel

/-! ### A mailbox command that has reached step 7 -/

/-- At step 7 a command is accepted in its session. -/
theorem hostCommand_atStep7 {code : Nat} {r : Req} {c : Ctx} {s : State} (body : Body) (h : atStep7 code r c s = true) :
    hostCommand code body r s = acceptCommand c (runBody c body) s := by
  simp only [atStep7, Bool.and_eq_true, beq_iff_eq] at h
  obtain ⟨⟨hup, hctx⟩, -⟩ := h
  simp only [hostCommand, hup, hctx, if_true]

/-- With nothing unfinished before it an accepted command runs at once. -/
theorem acceptCommand_free {c : Ctx} {s : State} (run : State → State) (h : sessionFree c s = true) : acceptCommand c run s = run s := by
  unfold acceptCommand sessionFree at *
  split
  · rfl
  next x hx =>
    rw [hx] at h
    exact if_pos h

/-- A role that may not send the code is answered NOT_AUTH (R16, R52). -/
theorem runBody_role {c : Ctx} {s : State} (body : Body) (hopen : halfOpen s c.session = false) (hr : roleOk c = false) :
    runBody c body s = answer c stNotAuth [] s := by
  simp only [runBody, hopen, hr, Bool.false_and, Bool.not_false, Bool.false_eq_true, if_false, if_true]

/-- In a half-open session only SESSION_PROVE runs (R28). -/
theorem runBody_halfOpen {c : Ctx} {s : State} (body : Body) (hhalf : halfOpen s c.session = true) (hc : c.code ≠ cSessionProve) :
    runBody c body s = answerOnce c stNotAuth s := by
  have hne : (c.code != cSessionProve) = true := bne_iff_ne.mpr hc
  simp only [runBody, hhalf, hne, Bool.and_self, if_true]

/-- What the context of a command takes from its code and message. -/
theorem ctxOf_fields {code : Nat} {r : Req} {c : Ctx} {s : State} (h : ctxOf code r s = some c) :
    c.code = code ∧ c.payload = r.payload ∧ c.arrival = s.clk.frame := by
  unfold ctxOf at h
  split at h
  · cases h
    exact ⟨rfl, rfl, rfl⟩
  · obtain ⟨x, -, rfl⟩ := Option.map_eq_some_iff.mp h
    exact ⟨rfl, rfl, rfl⟩

theorem ctxOf_eq_none {code : Nat} {r : Req} {s : State} (h0 : r.session ≠ 0) (h : findSess s r.session = none) : ctxOf code r s = none := by
  simp only [ctxOf, if_neg h0, h, Option.map_none]

theorem atStep7_ctx {code : Nat} {r : Req} {c : Ctx} {s : State} (h : atStep7 code r c s = true) :
    ctxOf code r s = some c ∧ halfOpen s c.session = false := by
  simp only [atStep7, Bool.and_eq_true, beq_iff_eq, Bool.not_eq_true'] at h
  obtain ⟨⟨-, hctx⟩, hopen⟩ := h
  exact ⟨hctx, hopen⟩

/-- Settles O2: with its session free the command runs at once, and `runBody` looks at the role first. -/
theorem commandsCheckTheRole : Obligations.CommandsCheckTheRole := by
  intro i code r c s hi h7 hfree hrole
  obtain ⟨body, hexec⟩ := hostRow_exec hi
  rw [hexec, hostCommand_atStep7 body h7, acceptCommand_free _ hfree, runBody_role body (atStep7_ctx h7).2 hrole]

/-- Settles O3, by the two branches of `acceptCommand` in a busy session. -/
theorem commandsWaitTheirTurn : Obligations.CommandsWaitTheirTurn := by
  intro i code r c x s hi h7 hx hbusy
  obtain ⟨body, hexec⟩ := hostRow_exec hi
  obtain ⟨hcode, hpay, harr⟩ := ctxOf_fields (atStep7_ctx h7).1
  have hacc : exec i s = .next (acceptCommand c (runBody c body) s) := by rw [hexec, hostCommand_atStep7 body h7]
  rw [hacc, acceptCommand, hx, ← hcode, ← hpay, ← harr]
  refine ⟨fun h => ?_, fun h => ?_⟩
  · simp only [hbusy, h, Bool.not_true, Bool.false_eq_true, if_false, if_true]
  · simp only [hbusy, Nat.not_le.mpr h, Bool.not_true, Bool.false_eq_true, if_false]

/-- Settles O4, by the branches that come before `runBody` lets a command in. -/
theorem commandsNeedAnOpenSession : Obligations.CommandsNeedAnOpenSession := by
  intro i code r s hi
  obtain ⟨body, hexec⟩ := hostRow_exec hi
  rw [hexec]
  refine ⟨fun c hup hctx hfree hhalf hne => ?_, fun hup h0 hnone => ?_, fun hup => ?_⟩
  · have hc : c.code ≠ cSessionProve := (ctxOf_fields hctx).1 ▸ hne
    simp only [hostCommand, hup, hctx, if_true]
    rw [acceptCommand_free _ hfree, runBody_halfOpen body hhalf hc]
    rfl
  · simp only [hostCommand, hup, ctxOf_eq_none h0 hnone, if_true]
  · simp only [hostCommand, hup, Bool.false_eq_true, if_false]

end Sys2Proof.Proofs
end

section
/-!
PROOFS. T commands: the checks that their chapters make before the hand-over (R36 to R38, R41).
-/

namespace Sys2Proof.Proofs

open Sys2Proof.Machine Sys2Proof.Safety

/-! ### Bodies that answer at once -/

/-- A command that comes to its own checks, and whose body answers at once, is answered so. -/
theorem hostCommand_answers {code st : Nat} {body : Body} {r : Req} {c : Ctx} {s t : State} {b : Bytes} (h : reaches code r c s = true)
    (hb : body c s = ans t st b) : hostCommand code body r s = answer c st b t := by
  rw [hostCommand_reaches body h, hb, conclude_ans]

/-- A T command that its owner has no objection to is handed over and answered with its frame. -/
theorem hostCommand_timed {code st f : Nat} {n : Bool} {check : Ctx → State → Option (Nat × Bytes)} {r : Req} {c : Ctx} {s : State}
    (ht : timed c st f n s = true) (h : reaches code r c s = true) (hc : check c s = none) :
    hostCommand code (timedBody check frameReply) r s = answer c st (u64 f) (handOver (tcmdOf c f n s) s) :=
  hostCommand_answers h (timedBody_in check frameReply ht hc)

/-- The same for one operation of a command that has several, told apart by byte 1 of what follows the timing bytes. -/
theorem hostCommand_timedOp {code op st f : Nat} {n : Bool} {check : Ctx → State → Option (Nat × Bytes)} {r : Req} {c : Ctx} {s : State}
    (ht : timed c st f n s = true) (h : reaches code r c s = true) (hop : 13 < c.payload.length ∧ rdN c.payload 13 1 = op)
    (hc : check c s = none) :
    hostCommand code (withOp 13 op (timedBody check frameReply)) r s = answer c st (u64 f) (handOver (tcmdOf c f n s) s) :=
  hostCommand_answers h ((withOp_eq _ hop.1 hop.2).trans (timedBody_in check frameReply ht hc))

/-- Reading in what follows leading bytes is reading further on. -/
theorem rdN_drop (b : Bytes) (d off w : Nat) : rdN (b.drop d) off w = rdN b (d + off) w := by
  simp only [rdN, slice, List.drop_drop]

theorem resZero_drop (b : Bytes) (d off w : Nat) : resZero (b.drop d) off w = resZero b (d + off) w := by
  simp only [resZero, slice, List.drop_drop]

/-- The operation byte of a T command that is long enough to have one. -/
theorem op_of_drop {b : Bytes} {op : Nat} (hl : 1 < (b.drop 12).length) (h : rdN (b.drop 12) 1 1 = op) : 13 < b.length ∧ rdN b 13 1 = op := by
  rw [rdN_drop] at h
  rw [List.length_drop] at hl
  exact ⟨by omega, h⟩

/-! ### The checks of valve and load-switch commands -/

theorem vdCommand_handedOver {op len st f : Nat} {n : Bool} {ok : State → Nat → Bytes → Bool} {r : Req} {c : Ctx} {s : State}
    (ht : timed c st f n s = true) (h : reaches cVdCommand r c s = true) (hlen : (c.payload.drop 12).length = len) (h1 : 1 < len)
    (hop : rdN (c.payload.drop 12) 1 1 = op) (hlo : 1 ≤ rdN (c.payload.drop 12) 0 1) (hhi : rdN (c.payload.drop 12) 0 1 ≤ 12)
    (hres : resZero (c.payload.drop 12) 2 2 = true) (hmay : vdMayCommand s (rdN (c.payload.drop 12) 0 1 - 1) = true)
    (hok : ok s (rdN (c.payload.drop 12) 0 1 - 1) (c.payload.drop 12) = true) :
    hostCommand cVdCommand (vdCommand op len ok) r s = answer c st (u64 f) (handOver (tcmdOf c f n s) s) := by
  have hne : rdN (c.payload.drop 12) 0 1 ≠ 0 := by omega
  refine hostCommand_timedOp ht h (op_of_drop (by omega) hop) ?_
  simp [hlen, hne, Nat.not_lt.mpr hhi, hres, hok, hmay]

theorem lsCommand_handedOver {op st f : Nat} {n : Bool} {ok : State → Nat → Nat → Bool} {r : Req} {c : Ctx} {s : State}
    (ht : timed c st f n s = true) (h : reaches cLsCommand r c s = true) (hlen : (c.payload.drop 12).length = 8)
    (hop : rdN (c.payload.drop 12) 1 1 = op) (hlo : 1 ≤ rdN (c.payload.drop 12) 0 1) (hhi : rdN (c.payload.drop 12) 0 1 ≤ 24)
    (hres : resZero (c.payload.drop 12) 2 2 = true) (hres' : resZero (c.payload.drop 12) 6 2 = true)
    (hmay : lsMayCommand s (rdN (c.payload.drop 12) 0 1 - 1) = true)
    (hok : ok s (rdN (c.payload.drop 12) 0 1 - 1) (rdN (c.payload.drop 12) 4 2) = true) :
    hostCommand cLsCommand (lsCommand op ok) r s = answer c st (u64 f) (handOver (tcmdOf c f n s) s) := by
  have hne : rdN (c.payload.drop 12) 0 1 ≠ 0 := by omega
  refine hostCommand_timedOp ht h (op_of_drop (by omega) hop) ?_
  simp [hlen, hne, Nat.not_lt.mpr hhi, hres, hres', hok, hmay]

/-! ### The checks of function commands -/

/-- The entries of a FUNCTION_SET, each of a function of the profile and in its range. -/
def setEntriesOk (p : Bytes) (s : State) : Prop :=
  ∀ k < rdN p 0 1, resZero p (5 + 8 * k) 3 = true ∧ ∃ e, fnEntry s (rdN p (4 + 8 * k) 1) = some e ∧
    rdI e 12 4 ≤ rdI p (8 + 8 * k) 4 ∧ rdI p (8 + 8 * k) 4 ≤ rdI e 16 4

theorem setEntries_padding {p : Bytes} {s : State} (h : setEntriesOk p s) :
    (List.range (rdN p 0 1)).any (fun i => !resZero p (5 + 8 * i) 3) = false := by
  simp only [List.any_eq_false, List.mem_range, Bool.not_eq_true', Bool.not_eq_false]
  exact fun k hk => (h k hk).1

theorem setEntries_all {p : Bytes} {s : State} {q : Nat × Int → Bool} (h : setEntriesOk p s)
    (hq : ∀ x e, fnEntry s x.1 = some e → rdI e 12 4 ≤ x.2 → x.2 ≤ rdI e 16 4 → q x = true) : (setEntries p).all q = true := by
  simp only [setEntries, List.all_map, List.all_eq_true, List.mem_range, Function.comp_apply]
  intro k hk
  obtain ⟨-, e, he, hlo, hhi⟩ := h k hk
  exact hq _ e he hlo hhi

/-- The masks of a FUNCTION_ENABLE name functions of the profile, and none of them on both sides. -/
theorem enableMasks_ok {on off : Nat} {s : State}
    (h : ∀ k < 32, ¬(bit on k ∧ bit off k) ∧ (bit on k ∨ bit off k → k < 30 ∧ (fnEntry s (k + 1)).isSome)) :
    (List.range 32).any (fun k => (bit on k && bit off k) ||
      ((bit on k || bit off k) && !(decide (k < 30) && (fnEntry s (k + 1)).isSome))) = false := by
  simp only [List.any_eq_false, List.mem_range]
  intro k hk
  obtain ⟨hboth, hnamed⟩ := h k hk
  cases hon : bit on k <;> cases hoff : bit off k <;> simp_all

theorem commitFree_of {on : Nat} {s : State} (h : on = 0 ∨ commitHeld s = false) : (decide (¬on = 0) && commitHeld s) = false := by
  rcases h with h | h <;> simp [h]

theorem swapMask_ok {m : Nat} {s : State} (h : ∀ k < 64, bit m k → (pairIn s.pf.work.banks k).isSome) :
    (List.range 64).any (fun k => bit m k && (pairIn s.pf.work.banks k).isNone) = false := by
  simp only [List.any_eq_false, List.mem_range]
  intro k hk hb
  have hsome := h k hk (by simp_all)
  simp_all

theorem optimizerMask_ok {m : Nat} {s : State} (h : ∀ k < 32, bit m k → (fnEntry s (k + 1)).isSome ∧ k < 30 ∧ optStep s (k + 1) ≠ 0) :
    (List.range 32).any (fun k => bit m k && !((fnEntry s (k + 1)).isSome && decide (k < 30) && optStep s (k + 1) != 0)) = false := by
  simp only [List.any_eq_false, List.mem_range]
  intro k hk hb
  have hok := h k hk (by simp_all)
  simp_all

/-- Settles O7: each command's own check finds nothing, so that the hand-over of T commands applies. -/
theorem timedCommandsAreHandedOver : Obligations.TimedCommandsAreHandedOver := by
  refine ⟨fun r c s st f n ht => ⟨?_, ?_, ?_, ?_, ?_, ?_, ?_⟩, fun r c s st f n ht => ⟨?_, ?_⟩⟩
  case refine_1 =>
    intro h hgr hlo hhi hlen hres hent
    refine congrArg Host.Outcome.next (hostCommand_timed ht h ?_)
    have hk : rdN (c.payload.drop 12) 0 1 ≠ 0 := by omega
    simp only [hlen, hk, Nat.not_lt.mpr hhi, hres, setEntries_padding hent, hgr, ne_eq, not_true, decide_false, Bool.not_true, Bool.or_self,
      Bool.false_eq_true, if_false]
    rw [setEntries_all hent]
    · rfl
    · intro x e he hlo hhi
      simp only [he, hlo, hhi, decide_true, Bool.and_self]
  case refine_2 =>
    intro h hgr hlen hheld hmask
    refine congrArg Host.Outcome.next (hostCommand_timed ht h ?_)
    simp only [hlen, enableMasks_ok hmask, hgr, commitFree_of hheld, ne_eq, not_true, decide_false, Bool.or_self, Bool.false_eq_true, if_false]
  case refine_3 =>
    intro h hgr hrest hlen hmask
    refine congrArg Host.Outcome.next (hostCommand_timed ht h ?_)
    simp only [hlen, swapMask_ok hmask, hgr, hrest, ne_eq, not_true, decide_false, Bool.not_true, Bool.or_self, Bool.false_eq_true, if_false]
  case refine_4 =>
    intro h hps hlen hhi hres ⟨t, htab, hcrop⟩
    rw [List.length_drop] at hlen
    rw [rdN_drop] at hhi hcrop
    rw [resZero_drop] at hres
    have hany : s.qz.tables.any (fun t => rdN t 2 1 == rdN c.payload 12 1) = true := List.any_eq_true.mpr ⟨t, htab, beq_iff_eq.mpr hcrop⟩
    refine congrArg Host.Outcome.next (hostCommand_timed ht h ?_)
    simp [(by omega : c.payload.length = 16), Nat.not_lt.mpr hhi, hres, hps, hany]
  case refine_5 =>
    intro h hps hlen hrange
    refine congrArg Host.Outcome.next (hostCommand_timed ht h ?_)
    simp [hlen, List.all_eq_true.mpr hrange, hps]
  case refine_6 =>
    intro h hps hlen hon hres hsafe hmask
    refine congrArg Host.Outcome.next (hostCommand_timed ht h ?_)
    have hsafe' : ¬(rdN (c.payload.drop 12) 0 1 = 1 ∧ s.gr.mode = .safe) := fun ⟨h1, hs⟩ => hsafe.elim (by omega) (fun hn => hn hs)
    simp only [hlen, Nat.not_le.mpr (Nat.lt_succ_of_le hon), hres, optimizerMask_ok hmask, hps, ← Bool.decide_and, hsafe', ne_eq, not_true,
      decide_false, Bool.not_true, Bool.or_self, Bool.false_eq_true, if_false]
  case refine_7 =>
    intro h hlen hon hres hsafe
    refine congrArg Host.Outcome.next (hostCommand_timed ht h ?_)
    have hsafe' : rdN (c.payload.drop 12) 0 1 = 1 → s.gr.mode ≠ .safe ∧ inPs s = false := fun h1 => hsafe.resolve_left (by omega)
    simpa [hlen, Nat.not_le.mpr (Nat.lt_succ_of_le hon), hres] using hsafe'
  case refine_8 =>
    intro h hlo hhi hres hmay
    refine ⟨fun hop hlen => ?_, fun hop hlen h1 h2 h3 h4 hmode => ?_, fun hop hlen h1 h2 hpad hmode => ?_⟩
    · exact congrArg Host.Outcome.next (vdCommand_handedOver ht h hlen (by omega) hop hlo hhi hres hmay rfl)
    · exact congrArg Host.Outcome.next (vdCommand_handedOver ht h hlen (by omega) hop hlo hhi hres hmay (by simp [*]))
    · exact congrArg Host.Outcome.next (vdCommand_handedOver ht h hlen (by omega) hop hlo hhi hres hmay (by simp [*]))
  case refine_9 =>
    intro h hlen hlo hhi hres hpad hmay
    refine ⟨fun hop hd => ?_, fun hop hd hmode => ?_, fun hop hd hmode => ?_⟩
    · exact congrArg Host.Outcome.next (lsCommand_handedOver ht h hlen hop hlo hhi hres hpad hmay (by simp [hd]))
    · exact congrArg Host.Outcome.next (lsCommand_handedOver ht h hlen hop hlo hhi hres hpad hmay (by simp [hd, hmode]))
    · exact congrArg Host.Outcome.next (lsCommand_handedOver ht h hlen hop hlo hhi hres hpad hmay (by simp [hd, hmode]))

end Sys2Proof.Proofs
end

section
/-!
PROOFS. T commands whose acceptance itself sets something aside (R48, R67, R281, R332, R396).
-/

namespace Sys2Proof.Proofs

open Sys2Proof.Machine Sys2Proof.Safety

/-- What acceptance makes of a T command: `post` on the state that has taken it over. -/
theorem hostCommand_timedPost {code st f : Nat} {n : Bool} {check : Ctx → State → Option (Nat × Bytes)}
    {post : Ctx → TCmd → State → State × Bytes} {r : Req} {c : Ctx} {s t : State} {b : Bytes} (ht : timed c st f n s = true)
    (h : reaches code r c s = true) (hc : check c s = none) (hp : post c (tcmdOf c f n s) (handOver (tcmdOf c f n s) s) = (t, b)) :
    hostCommand code (timedBody check post) r s = answer c st b t := by
  rw [hostCommand_answers h (timedBody_in check post ht hc), hp]

/-- The frame of application is that of the target-frame rule. -/
theorem timed_frame {c : Ctx} {st f : Nat} {n : Bool} {s : State} (h : timed c st f n s = true) :
    ∃ target exact, timingOf c.payload = some (target, exact, n) ∧ targetRule c.arrival target exact = (st, f) := by
  unfold timed at h
  split at h
  · next target exact m ht =>
    simp only [Bool.and_eq_true, beq_iff_eq] at h
    obtain ⟨⟨⟨rfl, hr⟩, -⟩, -⟩ := h
    exact ⟨target, exact, ht, hr⟩
  · cases h

/-- What `selectFields` reads is the slot of the payload. -/
theorem slot_of_selectFields {p : Bytes} {slot want : Nat} (h : selectFields p = some (slot, want)) : rdN p 0 1 = slot := by
  simp only [selectFields] at h
  split at h <;> cases h
  rfl

/-- PROFILE_SELECT judges a slot when it is loaded, and then takes the copy it names (R67). -/
theorem bodyProfileSelect_eq {c : Ctx} {s : State} {slot want : Nat} (h : selectFields (c.payload.drop 12) = some (slot, want)) :
    bodyProfileSelect c s = timedBody selectCheck (fun _ t st =>
      (updPf (fun p => { p with selected := p.selected ++ [⟨t.order, slot, imageOf (namedImage st slot), rdN (namedImage st slot) 16 4⟩] }) st,
        u64 t.frame)) c (if slot ≤ 3 then loadJudge slot s else s) := by
  have hslot : rdN c.payload 12 1 = slot := by
    rw [← slot_of_selectFields h, rdN_drop]
  simp only [bodyProfileSelect, hslot, h, Option.isSome_some, Bool.and_true, decide_eq_true_eq]

/-- What INJECT may be refused for, and is not (R332). -/
theorem injectCheck_none {c : Ctx} {s : State} {d : DetRow} {inst mode dur v : Nat} (hf : injFields (c.payload.drop 12) = some (d, inst, mode, dur, v))
    (hwho : inService s = true ∨ (c.role = 2 ∧ paramN s pDgInjectOem = 1 ∧ s.rs.ownerLock = false ∧ stationary s = true))
    (hsafe : d.id = detTwoLaneSafeState → inService s = true) (hlane : onLane d = true → s.gr.mode = .triple)
    (hfree : ∀ i ∈ s.ev.injs, ¬(i.det = d.id ∧ i.inst = inst)) (hroom : s.ev.injs.length < 16) : injectCheck c s = none := by
  have hwho' : (inService s || (c.role == 2 && paramN s pDgInjectOem == 1 && !s.rs.ownerLock && stationary s)) = true := by
    rcases hwho with h | ⟨h1, h2, h3, h4⟩ <;> simp [*]
  have hsafe' : (decide (d.id = detTwoLaneSafeState) && !inService s) = false := by
    by_cases h : d.id = detTwoLaneSafeState <;> simp [h, hsafe]
  have hlane' : (onLane d && s.gr.mode != .triple) = false := by
    cases h : onLane d <;> simp [h, hlane]
  have hfree' : s.ev.injs.any (fun i => i.det == d.id && i.inst == inst) = false := by simpa [List.any_eq_false] using hfree
  simp only [injectCheck, hf, hwho', hsafe', hlane', hfree', Nat.not_le.mpr hroom, Bool.not_true, Bool.or_self, Bool.false_eq_true, if_false]

/-- Settles O8: each command's check finds nothing, and what its acceptance sets aside is what `post` writes. -/
theorem reservingCommandsAreHandedOver : Obligations.ReservingCommandsAreHandedOver := by
  intro r c s st f n ht
  refine ⟨?_, ?_, ?_, ?_, ?_, ?_⟩
  case refine_1 =>
    intro slot want s1 h hf ht1 hc
    have hin := timedBody_in selectCheck (fun _ t st =>
      (updPf (fun p => { p with selected := p.selected ++ [⟨t.order, slot, imageOf (namedImage st slot), rdN (namedImage st slot) 16 4⟩] }) st,
        u64 t.frame)) ht1 hc
    exact congrArg Host.Outcome.next (hostCommand_answers h ((bodyProfileSelect_eq hf).trans hin))
  case refine_2 =>
    intro h hc
    refine congrArg Host.Outcome.next (hostCommand_answers h ?_)
    simp only [bodyParamSet, timedBody_in paramSetCheck _ ht hc]
    rfl
  case refine_3 =>
    intro h hgr hlen hlo hhi hrest
    refine congrArg Host.Outcome.next (hostCommand_timedPost ht h ?_ rfl)
    have hrest' : ¬(10000 < rdN (c.payload.drop 12) 0 4 ∧ stationary s = false) := by
      rintro ⟨h1, h2⟩
      rcases hrest with h3 | h3
      · omega
      · simp [h2] at h3
    have hne : rdN (c.payload.drop 12) 0 4 ≠ 0 := by omega
    simpa [hlen, Nat.not_lt.mpr hhi, hgr, hrest'] using hne
  case refine_4 =>
    intro h hbad hdis hlist hsafe hps hroom
    refine congrArg Host.Outcome.next (hostCommand_timedPost ht h ?_ rfl)
    have hps' : ¬(inPs s = true ∧ rdN (c.payload.drop 12) 0 1 - 1 ≠ 0) := by
      rintro ⟨h1, h2⟩
      rcases hps with h3 | h3
      · simp [h1] at h3
      · omega
    simp [hbad, hdis, hlist, hsafe, hps', hroom]
  case refine_5 =>
    intro d inst mode dur v h hf hwho hsafe hlane hfree hroom
    refine congrArg Host.Outcome.next (hostCommand_timedPost ht h (injectCheck_none hf hwho hsafe hlane hfree hroom) ?_)
    simp only [tcmdOf, hf]
    rfl
  case refine_6 =>
    intro h hlen hmode hmask hres hwake halarm hidle hrest hheld hsb
    refine congrArg Host.Outcome.next (hostCommand_timedPost ht h ?_ rfl)
    obtain ⟨target, exact, htime, hrule⟩ := timed_frame ht
    rw [List.length_drop] at hlen
    rw [resZero_drop] at hres
    simp only [rdN_drop, Nat.reduceAdd] at hmode hmask hwake halarm
    simp only [htime, hrule]
    have hlen' : c.payload.length = 24 := by omega
    simpa [hlen', hres, hwake, hidle, hrest, hheld, hsb] using ⟨⟨hmode.resolve_left, hmask⟩, halarm.resolve_left⟩

end Sys2Proof.Proofs
end

section
/-!
PROOFS. Chapter 1, the commands that identify the module and its sessions (R46, R239, Tables 1-10, 1-13 and 14-11).
-/

namespace Sys2Proof.Proofs

open Sys2Proof.Machine Sys2Proof.Safety

/-- A command without payload is answered as its meaning says. -/
theorem hostCommand_empty {code st : Nat} {body : Body} {r : Req} {c : Ctx} {s t : State} {b : Bytes} (h : reaches code r c s = true)
    (hp : c.payload = []) (hb : body c s = ans t st b) : hostCommand code (emptyPayload body) r s = answer c st b t :=
  hostCommand_answers h (((emptyPayload_eq body c s).trans (if_pos hp)).trans hb)

theorem reaches_arrival {code : Nat} {r : Req} {c : Ctx} {s : State} (h : reaches code r c s = true) : c.arrival = s.clk.frame := by
  obtain ⟨-, harr, -⟩ := reaches_ctx h
  exact harr

/-- A status byte that saturates at 255. -/
theorem satU_byte (n : Nat) : satU 8 n = min n 255 := by
  simp only [satU]
  omega

/-- The cycle that TIME_GET reports lies in the rest of the frame (log entry 56). -/
theorem cycle_in_frame (now n : Nat) : now % 750000 ≤ now % 750000 + n % (750000 - now % 750000) ∧
    now % 750000 + n % (750000 - now % 750000) < 750000 := by
  have hnow : now % 750000 < 750000 := Nat.mod_lt _ (by decide)
  have hrest := Nat.mod_lt n (Nat.sub_pos_of_lt hnow)
  omega

/-- Settles O9, by the bodies of the five commands. -/
theorem identityCommandsAnswer : Obligations.IdentityCommandsAnswer := by
  intro r c s
  refine ⟨fun h hp => ?_, fun h => ?_, fun h hp => ?_, fun h hp => ?_, fun h hp => ?_⟩
  · exact congrArg Host.Outcome.next (hostCommand_empty h hp rfl)
  · refine congrArg Host.Outcome.next ?_
    rw [hostCommand_reaches bodyPing h, bodyPing, reaches_arrival h]
    split <;> rfl
  · obtain ⟨hlo, hhi⟩ := cycle_in_frame s.clk.cycle (Config.freeNat s.free)
    refine ⟨_, hlo, hhi, congrArg Host.Outcome.next (hostCommand_empty h hp ?_)⟩
    simp only [reaches_arrival h, if_true]
    rfl
  · refine congrArg Host.Outcome.next (hostCommand_empty h hp ?_)
    rw [satU_byte]
  · exact congrArg Host.Outcome.next (hostCommand_empty h hp rfl)

end Sys2Proof.Proofs
end

section
/-!
PROOFS. Chapter 2, the profiles: staging, saving and the default slot (R72 to R74).
-/

namespace Sys2Proof.Proofs

open Sys2Proof.Machine Sys2Proof.Safety

/-! ### Staging (R72) -/

theorem splice_inside {b x : Bytes} {off : Nat} (h : off ≤ b.length) : splice b off x = b.take off ++ x ++ b.drop (off + x.length) := by
  simp only [splice, padTo, Nat.sub_eq_zero_of_le h, zeros, List.replicate_zero, List.append_nil]

/-- The first write of a staging: the data, and zeros up to its length. -/
theorem splice_zeros (total : Nat) (x : Bytes) : splice (zeros total) 0 x = x ++ zeros (total - x.length) := by
  rw [splice_inside (Nat.zero_le _)]
  simp [zeros]

theorem written_first (total n : Nat) : ((markWritten (List.replicate total false) 0 n).filter id).length = n := by
  simp [markWritten]

/-- A first write stages the data and zeros up to the length. -/
def firstStaging (c : Ctx) (s : State) : Staging :=
  ⟨c.session, splice (zeros (rdN c.payload 4 4)) 0 (c.payload.drop 8),
    markWritten (List.replicate (rdN c.payload 4 4) false) 0 (c.payload.drop 8).length, s.clk.ms⟩

/-- A later write goes into the staging that stands. -/
def laterStaging (c : Ctx) (g : Staging) (s : State) : Staging :=
  { g with
    data := splice g.data (rdN c.payload 0 4) (c.payload.drop 8)
    written := markWritten g.written (rdN c.payload 0 4) (c.payload.drop 8).length
    last := s.clk.ms }

/-- A PROFILE_WRITE whose payload is in range and whose lifecycle state lets it in. -/
def writeOk (c : Ctx) (s : State) : Prop :=
  9 ≤ c.payload.length ∧ c.payload.length ≤ 65536 ∧ 128 ≤ rdN c.payload 4 4 ∧ rdN c.payload 4 4 ≤ 262144 ∧
    rdN c.payload 0 4 + (c.payload.length - 8) ≤ rdN c.payload 4 4 ∧ profileClosed s = false

/-- What PROFILE_WRITE does by the staging that stands. -/
theorem bodyProfileWrite_eq {c : Ctx} {s : State} (h : writeOk c s) :
    bodyProfileWrite c s = match s.pf.staging with
      | some g =>
        if g.session ≠ c.session then ans s stBusy
        else if rdN c.payload 0 4 = 0 then stagedReply (firstStaging c s) s
        else if g.data.length ≠ rdN c.payload 4 4 then ans s stBadArg
        else stagedReply (laterStaging c g s) s
      | none => if rdN c.payload 0 4 = 0 then stagedReply (firstStaging c s) s else ans s stRefusedState := by
  obtain ⟨h1, h2, h3, h4, h5, hclosed⟩ := h
  have hd : (c.payload.drop 8).length = c.payload.length - 8 := List.length_drop
  have hb : (decide (c.payload.length < 9) || decide (65528 < (c.payload.drop 8).length) || decide (rdN c.payload 4 4 < 128) ||
      decide (262144 < rdN c.payload 4 4) || decide (rdN c.payload 4 4 < rdN c.payload 0 4 + (c.payload.drop 8).length)) = false := by
    simp only [Bool.or_eq_false_iff, decide_eq_false_iff_not, hd]
    omega
  simp only [bodyProfileWrite, hb, hclosed, Bool.false_eq_true, if_false]
  rfl

/-! ### Saving (R73, R74) -/

/-- A command whose body waits holds its session, and is answered later. -/
theorem hostCommand_waits {code : Nat} {body : Body} {r : Req} {c : Ctx} {s t : State} {w : WaitFor} (h : reaches code r c s = true)
    (hb : body c s = (t, .wait w)) :
    hostCommand code body r s = updChan c.session c.binding (fun x => { x with exec := some c.seq })
      { t with mb := { t.mb with waiting := t.mb.waiting ++ [⟨c.binding, c.session, c.seq, code, c.era, w, t.clk.ms⟩] } } := by
  obtain ⟨-, -, -, hcode, -⟩ := reaches_ctx h
  rw [hostCommand_reaches body h, hb, ← hcode]
  rfl

theorem ownerFree_of {a b : Bool} (h : a = false ∨ b = true) : (a && !b) = false := by
  rcases h with h | h <;> simp [h]

/-- A PROFILE_SAVE of the working copy that nothing stands against is written, and waits for its copy to be durable. -/
theorem bodyProfileSave_waits {c : Ctx} {s : State} (hlen : c.payload.length = 8) (hsrc : rdN c.payload 0 1 = 32) (hslot : rdN c.payload 1 1 ≤ 3)
    (hres : resZero c.payload 2 2 = true) (hclosed : profileClosed s = false) (howner : s.rs.ownerLock = false ∨ inService s = true)
    (hfree : s.pf.saving = none) (hval : validate s (imageBytes s.pf.work) = none)
    (hwant : rdN c.payload 4 4 = 0 ∨ rdN c.payload 4 4 = rdN (imageBytes s.pf.work) 16 4) :
    bodyProfileSave c s =
      (updPf (fun q => { q with saving := some ⟨rdN c.payload 1 1, saveTarget (slotCopies s (rdN c.payload 1 1)),
        saveGen (slotCopies s (rdN c.payload 1 1)), imageBytes s.pf.work, true⟩ }) s, .wait (.profileSave (rdN c.payload 1 1))) := by
  have hwant' : (decide (rdN c.payload 4 4 ≠ 0) && decide (rdN c.payload 4 4 ≠ rdN (imageBytes s.pf.work) 16 4)) = false := by
    rcases hwant with h | h <;> simp [h]
  have hbytes : sourceBytes s 32 0 = some (imageBytes s.pf.work) := rfl
  have hbad : (decide (c.payload.length ≠ 8) || !(decide (rdN c.payload 0 1 = 0) || decide (rdN c.payload 0 1 = 32)) ||
      decide (3 < rdN c.payload 1 1) || !resZero c.payload 2 2) = false := by simp [hlen, hsrc, hslot, hres]
  simp only [bodyProfileSave, hbad, hclosed, ownerFree_of howner, Bool.or_self, Bool.false_eq_true, if_false]
  simp only [hsrc, hbytes, hfree, hval, hwant', Option.isSome_none, Bool.false_eq_true, if_false]
  rfl

/-- Settles O14, by the branches of the staging and by the checks of the save and of the default slot. -/
theorem profilesAreStagedAndSaved : Obligations.ProfilesAreStagedAndSaved := by
  intro r c s
  refine ⟨fun h h1 h2 h3 h4 h5 hclosed => ?_, fun h hlen hsrc hslot hres hclosed howner hfree hval hwant => ?_,
    fun h hlen hslot hres howner => ?_, fun g hg => ?_⟩
  · have hbody := bodyProfileWrite_eq (c := c) (s := s) ⟨h1, h2, h3, h4, h5, hclosed⟩
    have hd : (c.payload.drop 8).length = c.payload.length - 8 := List.length_drop
    refine ⟨fun h0 hown => ?_, fun g hg hs hoff hdata => ?_, fun g hg hs => ?_, fun hg hoff => ?_⟩
    · refine ⟨firstStaging c s, congrArg Host.Outcome.next (hostCommand_answers h ?_), rfl, ?_, rfl⟩
      · rw [hbody, ← hd, ← written_first (rdN c.payload 4 4) (c.payload.drop 8).length]
        split
        next g hg => rw [if_neg (not_not.mpr (hown g hg)), if_pos h0]; rfl
        next hg => rw [if_pos h0]; rfl
      · simp only [firstStaging, splice_zeros, hd]
    · refine ⟨laterStaging c g s, congrArg Host.Outcome.next (hostCommand_answers h ?_), ?_, rfl, rfl⟩
      · rw [hbody, hg]
        simp only [hs, hoff, hdata, ne_eq, not_true, if_false]
        rfl
      · simp only [laterStaging, hd, splice_inside (b := g.data) (off := rdN c.payload 0 4) (by omega)]
    · refine congrArg Host.Outcome.next (hostCommand_answers h ?_)
      rw [hbody, hg]
      exact if_pos hs
    · refine congrArg Host.Outcome.next (hostCommand_answers h ?_)
      rw [hbody, hg]
      exact if_neg hoff
  · refine congrArg Host.Outcome.next ?_
    rw [hostCommand_waits h (bodyProfileSave_waits hlen hsrc hslot hres hclosed howner hfree hval hwant)]
    rfl
  · refine congrArg Host.Outcome.next (hostCommand_answers h ?_)
    have hbad : (decide (c.payload.length ≠ 4) || !(decide (rdN c.payload 0 1 ≤ 3) || decide (rdN c.payload 0 1 = 16)) ||
        !resZero c.payload 1 3) = false := by
      rcases hslot with h | h <;> simp [hlen, hres, h]
    have howner' : (s.rs.ownerLock && decide (c.role ≠ 3) && !inService s) = false := by
      rcases howner with h | h | h <;> simp [h]
    simp only [bodyProfileSetDefault, hbad, howner', Bool.false_eq_true, if_false]
    rfl
  · refine congrArg Host.Outcome.next ?_
    simp only [hg, elapsed, decide_eq_true_eq]
    rfl

end Sys2Proof.Proofs
end

section
/-!
PROOFS. The commands that only report: Granite, Quartz, crop flow, the output stages, the receiver, the fabric and CAN.
-/

namespace Sys2Proof.Proofs

open Sys2Proof.Machine Sys2Proof.Safety

/-! ### Queries whose payload is judged -/

/-- A command whose body refuses a bad payload and otherwise answers at once. -/
theorem hostCommand_guarded {code st : Nat} {body : Body} {r : Req} {c : Ctx} {s t : State} {b : Bytes} {bad : Prop} [Decidable bad]
    {good : State × Reply} (h : reaches code r c s = true) (hbody : body c s = if bad then ans s stBadArg else good) (hok : ¬bad)
    (hgood : good = ans t st b) : hostCommand code body r s = answer c st b t :=
  hostCommand_answers h (hbody.trans ((if_neg hok).trans hgood))

/-- The same for a command with several operations, told apart by the first byte. -/
theorem hostCommand_guardedOp {code op st : Nat} {body : Body} {r : Req} {c : Ctx} {s t : State} {b : Bytes} {bad : Prop} [Decidable bad]
    {good : State × Reply} (h : reaches code r c s = true) (hlen : 0 < c.payload.length) (hop : rdN c.payload 0 1 = op)
    (hbody : body c s = if bad then ans s stBadArg else good) (hok : ¬bad) (hgood : good = ans t st b) :
    hostCommand code (withOp 0 op body) r s = answer c st b t :=
  hostCommand_guarded h ((withOp_eq body hlen hop).trans hbody) hok hgood

/-! ### Granite and Quartz -/

/-- The entry of a lane in LANE_STATUS (Table 3-12). -/
def laneEntry (s : State) (k : Nat) : Bytes :=
  u8 (laneCode (laneOf s k).st) ++ u8 (laneOf s k).cause ++ u16 (satU 16 (exclCount s k)) ++ u32 (laneOf s k).ecc ++
    u64 (laneOf s k).lastExcl ++ u64 (laneOf s k).lastJoin

/-- The answer of LANE_STATUS is the entries of its three lanes. -/
theorem laneEntries_eq (s : State) : (List.range 3).flatMap (laneEntry s) = laneEntry s 0 ++ laneEntry s 1 ++ laneEntry s 2 := by
  simp [List.range_succ]

/-- Settles O15, by the bodies of the four queries. -/
theorem graniteQueriesAnswer : Obligations.GraniteQueriesAnswer := by
  intro r c s
  refine ⟨fun h hp => ?_, fun h hp => ?_, fun cap h hlen hcap hlo hhi hoff => ?_, fun h hp => ?_⟩
  · exact congrArg Host.Outcome.next (hostCommand_empty h hp rfl)
  · refine ⟨laneEntry s 0, laneEntry s 1, laneEntry s 2, congrArg Host.Outcome.next (hostCommand_empty h hp ?_), fun k e he => ?_⟩
    · exact congrArg (fun b => ans s stOk b) (laneEntries_eq s)
    · match k with
      | 0 | 1 | 2 => exact (Option.some.inj he).symm
      | k + 3 => cases he
  · refine congrArg Host.Outcome.next (hostCommand_guarded h rfl ?_ ?_)
    · simp [hlen, hcap]
      omega
    · simp only [hcap]
      rfl
  · have hlen : c.payload.length = 4 := by rw [hp]; rfl
    refine congrArg Host.Outcome.next (hostCommand_guardedOp h (by omega) (by rw [hp]; rfl) rfl ?_ rfl)
    rw [hp]
    decide

/-- Settles O17, by the bodies of the three queries. -/
theorem quartzQueriesAnswer : Obligations.QuartzQueriesAnswer := by
  intro r c s
  refine ⟨fun h hlen hlo hhi hlo' hhi' hres => ?_, fun h hlen hlo hhi hres => ?_, fun h hp => ?_⟩
  · refine congrArg Host.Outcome.next (hostCommand_guarded h rfl ?_ ?_)
    · simp [hlen, hres]
      omega
    · rw [show 32 - (rdN c.payload 0 1 - 1) = 33 - rdN c.payload 0 1 by omega]
      rfl
  · refine congrArg Host.Outcome.next (hostCommand_guarded h rfl ?_ rfl)
    simp [hlen, hres]
    omega
  · have hlen : c.payload.length = 4 := by rw [hp]; rfl
    refine congrArg Host.Outcome.next (hostCommand_guardedOp h (by omega) (by rw [hp]; rfl) rfl ?_ rfl)
    rw [hp]
    decide

/-! ### Crop flow, yield and coverage -/

/-- Settles O19, by the bodies of the queries; the rows of GET_CHANGES are those stamped later than asked. -/
theorem cropQueriesAnswer : Obligations.CropQueriesAnswer := by
  intro r c s
  refine ⟨fun h hp => ?_, fun f h hlen hres hres' hlo hhi hf => ?_, fun f g h hlen hres hid => ⟨?_, ?_⟩,
    fun f file h hlen hres hlo hhi hlo' hhi' hf hfile => ?_⟩
  · refine congrArg Host.Outcome.next (hostCommand_empty h hp ?_)
    simp only [Bool.or_eq_true, decide_eq_true_eq] <;> rfl
  · refine congrArg Host.Outcome.next (hostCommand_guarded h rfl ?_ ?_)
    · simp [hlen, hres, hres']
      omega
    · simp only [hf]
      rfl
  · intro hop hopen hlo hhi hf hg
    refine congrArg Host.Outcome.next (hostCommand_guardedOp h (by omega) hop rfl ?_ ?_)
    · simp [hlen, hres, hid, ← hopen]
      omega
    · simp only [hf, Option.bind_some, hg]
  · intro hop hres' hf hg
    refine ⟨(g.stamps.filter (fun r => decide (rdN c.payload 8 4 < r.2))).map (·.1),
      congrArg Host.Outcome.next (hostCommand_guardedOp h (by omega) hop rfl ?_ ?_), fun n => ?_⟩
    · simp [hlen, hres, hres']
    · simp only [hf, Option.bind_some, hg]
    · simp
  · refine congrArg Host.Outcome.next (hostCommand_guarded h rfl ?_ ?_)
    · simp [hlen, hres]
      omega
    · simp only [hf, Option.bind_some, hfile]
      rfl

/-! ### The output stages -/

/-- Settles O21, by the bodies of the three queries. -/
theorem outputQueriesAnswer : Obligations.OutputQueriesAnswer := by
  intro r c s
  refine ⟨fun h hp => ?_, fun h hlen hlo hhi hres hlo' hhi' => ?_, fun h hlen hlo hhi hlo' hhi' hres => ?_⟩
  · refine congrArg Host.Outcome.next (hostCommand_empty h hp ?_)
    simp only [List.isEmpty_iff]
    rfl
  · refine congrArg Host.Outcome.next (hostCommand_guarded h rfl ?_ rfl)
    simp [hlen, hres]
    omega
  · refine congrArg Host.Outcome.next (hostCommand_guarded h rfl ?_ ?_)
    · simp [hlen, hres]
      omega
    · simp only [List.flatMap_map, Nat.add_comm _ (rdN c.payload 0 1 - 1)]
      rfl

/-! ### The receiver, the fabric and CAN -/

/-- Settles O23, by the bodies of the two queries. -/
theorem gnssQueriesAnswer : Obligations.GnssQueriesAnswer := by
  intro r c s
  refine ⟨fun h hp => ?_, fun h hp => ?_⟩
  · refine congrArg Host.Outcome.next (hostCommand_empty h hp ?_)
    simp [List.range_succ] <;> rfl
  · refine congrArg Host.Outcome.next (hostCommand_empty h hp ?_)
    simp [List.range_succ]

/-- Settles O25, by the bodies of the three queries. -/
theorem networkQueriesAnswer : Obligations.NetworkQueriesAnswer := by
  intro r c s
  refine ⟨fun h hp => ?_, fun h hlen hlo hhi hres => ?_, fun h hp => ?_⟩
  · exact congrArg Host.Outcome.next (hostCommand_empty h hp rfl)
  · refine congrArg Host.Outcome.next (hostCommand_guarded h rfl ?_ rfl)
    simp [hlen, hres]
    omega
  · exact congrArg Host.Outcome.next (hostCommand_empty h hp rfl)

end Sys2Proof.Proofs
end

section
/-!
PROOFS. Chapter 4, Quartz: the requests that mark channels, and raw capture (R124, R129, R131, R136, R137, R307).
-/

namespace Sys2Proof.Proofs

open Sys2Proof.Machine Sys2Proof.Safety

/-! ### Masked channels -/

/-- The channels that a request accepts: those of its mask that are not OFF. -/
theorem mem_accepted {s : State} {mask ch : Nat} {x : QzChan} (hx : s.qz.chans[ch]? = some x) (hch : ch < 32) :
    ch ∈ maskChans 32 (acceptedMask s mask) ↔ mask.testBit ch = true ∧ x.st ≠ .off := by
  have hq : qzChan s ch = x := by simp [qzChan, nth, List.getD_eq_getElem?_getD, hx]
  rw [mem_maskChans, acceptedMask, testBit_maskOf, hq]
  simp [hch]

/-- The channels after a request has changed those it accepts. -/
def changedChans (s : State) (mask : Nat) (f : QzChan → QzChan) : List QzChan :=
  (maskChans 32 (acceptedMask s mask)).foldl (fun l i => updAt l i f) s.qz.chans

theorem getElem?_changedChans {s : State} {mask ch : Nat} {x : QzChan} (f : QzChan → QzChan) (hx : s.qz.chans[ch]? = some x) (hch : ch < 32) :
    (changedChans s mask f)[ch]? = some (if mask.testBit ch = true ∧ x.st ≠ .off then f x else x) := by
  simp only [changedChans, getElem?_fold_updAt _ (nodup_maskChans 32 _), hx, Option.map_some, mem_accepted hx hch]

/-- A request with a valid payload acts, outside PS. -/
theorem tapRequest_acts {c : Ctx} {s : State} (act : Nat → State → State × Reply) (hlen : c.payload.length = 8)
    (hres : resZero c.payload 1 3 = true) (hps : inPs s = false) : tapRequest act c s = act (rdN c.payload 4 4) s := by
  simp [tapRequest, hlen, hres, hps]

/-- An operation of QZ_TAP_REQUEST is answered as it acts. -/
theorem hostCommand_tapRequest {op st : Nat} {act : Nat → State → State × Reply} {r : Req} {c : Ctx} {s t : State} {b : Bytes}
    (h : reaches cQzTapRequest r c s = true) (hlen : c.payload.length = 8) (hres : resZero c.payload 1 3 = true) (hps : inPs s = false)
    (hop : rdN c.payload 0 1 = op) (hact : act (rdN c.payload 4 4) s = ans t st b) :
    hostCommand cQzTapRequest (withOp 0 op (tapRequest act)) r s = answer c st b t :=
  hostCommand_answers h ((withOp_eq _ (by omega) hop).trans ((tapRequest_acts act hlen hres hps).trans hact))

/-! ### FORGET -/

theorem natOfLe_lt (b : Bytes) : natOfLe b < 256 ^ b.length := by
  induction b with
  | nil => exact Nat.one_pos
  | cons x b ih =>
    have hx := x.isLt
    simp only [natOfLe, List.length_cons, Nat.pow_succ]
    omega

theorem rdN_lt (b : Bytes) (off w : Nat) : rdN b off w < 256 ^ w :=
  (natOfLe_lt _).trans_le (Nat.pow_le_pow_right (by decide) (List.length_take_le _ _))

/-- Settings written one after the other, all with one value. -/
theorem getKey_fold_setKey {vals : List (Nat × Int)} {v : Int} {k : Nat} (hv : ∀ p ∈ vals, p.2 = v) (m : List (Nat × Int))
    (hk : (∃ p ∈ vals, p.1 = k) ∨ getKey k m = some v) : getKey k (vals.foldl (fun m p => setKey p.1 p.2 m) m) = some v := by
  induction vals generalizing m with
  | nil => simpa using hk
  | cons p vals ih =>
    refine ih (fun q hq => hv q (List.mem_cons_of_mem _ hq)) _ ?_
    rw [getKey_setKey, hv p List.mem_cons_self]
    by_cases hp : k = p.1
    · exact .inr (if_pos hp)
    · rw [if_neg hp]
      rcases hk with ⟨q, hq, rfl⟩ | hk
      · rcases List.mem_cons.mp hq with rfl | hq
        · exact absurd rfl hp
        · exact .inl ⟨q, hq, rfl⟩
      · exact .inr hk

/-- The settings that FORGET writes: both references of each masked channel. -/
def forgotten (mask : Nat) : List (Nat × Int) := (maskChans 32 mask).flatMap (fun ch => [(pQzRefAmp ch, 0), (pQzRefFreq ch, 0)])

theorem forgotten_zero {mask : Nat} {p : Nat × Int} (hp : p ∈ forgotten mask) : p.2 = 0 := by
  simp only [forgotten, List.mem_flatMap, List.mem_cons, List.not_mem_nil, or_false] at hp
  obtain ⟨ch, -, rfl | rfl⟩ := hp <;> rfl

theorem mem_forgotten {mask ch : Nat} (hch : ch < 32) (hm : mask.testBit ch = true) :
    (pQzRefAmp ch, 0) ∈ forgotten mask ∧ (pQzRefFreq ch, 0) ∈ forgotten mask := by
  have hc := mem_maskChans.mpr ⟨hch, hm⟩
  simp only [forgotten, List.mem_flatMap]
  exact ⟨⟨ch, hc, List.mem_cons_self⟩, ⟨ch, hc, List.mem_cons_of_mem _ List.mem_cons_self⟩⟩

theorem writeSettings_forgotten (mask : Nat) (s : State) {ch : Nat} (hch : ch < 32) (hm : mask.testBit ch = true) :
    getKey (pQzRefAmp ch) (writeSettings (forgotten mask) s).pf.settings = some 0 ∧
      getKey (pQzRefFreq ch) (writeSettings (forgotten mask) s).pf.settings = some 0 := by
  obtain ⟨hamp, hfreq⟩ := mem_forgotten hch hm
  exact ⟨getKey_fold_setKey (fun _ => forgotten_zero) _ (.inl ⟨_, hamp, rfl⟩), getKey_fold_setKey (fun _ => forgotten_zero) _ (.inl ⟨_, hfreq, rfl⟩)⟩

/-! ### Raw capture and the shared ring (R136, R307) -/

theorem bankPower_ring (b : Nat) (n : BankSt) (s : State) : (bankPower b n s).mc.ring = s.mc.ring := by
  unfold bankPower
  split <;> rfl

theorem fold_bankPower_ring (bs : List Nat) (n : BankSt) (s : State) : (bs.foldl (fun st b => bankPower b n st) s).mc.ring = s.mc.ring := by
  induction bs generalizing s with
  | nil => rfl
  | cons b bs ih => rw [List.foldl_cons, ih, bankPower_ring]

theorem ringEnter_ring (x : RingSt) (s : State) : (ringEnter x s).mc.ring = x := by
  unfold ringEnter
  split
  · rfl
  · rw [fold_bankPower_ring]
    rfl

theorem ringFree_ring (s : State) : (ringFree s).mc.ring ≠ .capture := by
  unfold ringFree
  split <;> simp [ringEnter_ring]

theorem ringEnter_qz (x : RingSt) (s : State) : (ringEnter x s).qz = s.qz := frame_ringEnter x s .qz (by decide)

theorem ringFree_qz (s : State) : (ringFree s).qz = s.qz := frame_ringFree s .qz (by decide)

theorem capReply_eq {s : State} {k : QzCapture} (h : s.qz.cap = k) (hd : k.data = []) : capReply s = u8 (capCode k.st) ++ zeros 7 := by
  rw [capReply, h, hd]
  rfl

/-- The capture that START arms. -/
def armedCapture (c : Ctx) (s : State) : QzCapture :=
  ⟨.armed, rdN c.payload 4 4, (if rdN c.payload 8 8 = 0 then s.clk.frame + 1 else rdN c.payload 8 8), rdN c.payload 16 4, 0, []⟩

/-- What START does with a valid payload, outside PS, while no staging holds the ring. -/
theorem bodyQzRawCaptureStart_eq {c : Ctx} {s : State} (harr : c.arrival = s.clk.frame) (hlen : c.payload.length = 20)
    (hop : rdN c.payload 0 1 = 1) (hres : resZero c.payload 1 3 = true) (h1 : 1 ≤ (maskChans 32 (rdN c.payload 4 4)).length)
    (h4 : (maskChans 32 (rdN c.payload 4 4)).length ≤ 4) (hfit : (maskChans 32 (rdN c.payload 4 4)).length * rdN c.payload 16 4 * 3758 ≤ 16777216)
    (hd : 1 ≤ rdN c.payload 16 4) (hps : inPs s = false) (hring : s.mc.ring ≠ .staging) :
    bodyQzRawCaptureStart c s = if s.qz.cap.st = .armed ∨ s.qz.cap.st = .running then ans s stBusy
      else ans (ringEnter .capture (updCap (fun _ => armedCapture c s) s)) stOk (capReply (ringEnter .capture (updCap (fun _ => armedCapture c s) s))) := by
  have hbad : (decide (c.payload.length ≠ 20) || !resZero c.payload 1 3 || decide ((maskChans 32 (rdN c.payload 4 4)).length = 0) ||
      decide (4 < (maskChans 32 (rdN c.payload 4 4)).length) || decide (rdN c.payload 16 4 = 0) ||
      decide (16777216 < (maskChans 32 (rdN c.payload 4 4)).length * rdN c.payload 16 4 * 3758)) = false := by
    simp only [Bool.or_eq_false_iff, decide_eq_false_iff_not, Bool.not_eq_false', hres, and_true]
    omega
  rw [bodyQzRawCaptureStart, withOp_eq _ (by omega) hop]
  simp only [hbad, hps, hring, harr, Bool.false_eq_true, if_false, Bool.or_eq_true, decide_eq_true_eq]
  rfl

/-- Settles O18: requests change the channels they accept, one after the other; capture goes through the shared ring. -/
theorem quartzCommandsAct : Obligations.QuartzCommandsAct := by
  refine ⟨fun r c s => ⟨fun h hlen hres hps => ⟨fun hop => ?_, fun hop hrest => ?_, fun hop => ?_⟩, fun h hlen hps => ?_⟩,
    fun r c s h => ⟨fun hlen hop hres hk hd hps hring => ⟨fun hbusy => ?_, fun ha hr => ?_⟩, fun hp hps => ?_,
      fun hlen hop hres hlo hhi hoff => ?_⟩⟩
  · refine ⟨changedChans s _ (fun x => { x with tap := { x.tap with requested := true } }),
      congrArg Host.Outcome.next (hostCommand_tapRequest h hlen hres hps hop ?_), fun ch x hx hch => getElem?_changedChans _ hx hch⟩
    exact congrArg (fun t => ans t stOk _) (fold_updQz _ _ s)
  · refine ⟨changedChans s _ (fun x => { x with tap := { x.tap with teach := some ⟨0, 0, 0, false⟩, teachFailed := false } }),
      congrArg Host.Outcome.next (hostCommand_tapRequest h hlen hres hps hop ?_), fun ch x hx hch => getElem?_changedChans _ hx hch⟩
    simp only [hrest, Bool.not_true, Bool.false_eq_true, if_false]
    exact congrArg (fun t => ans t stOk _) (fold_updQz _ _ s)
  · refine ⟨writeSettings (forgotten (rdN c.payload 4 4)) s, congrArg Host.Outcome.next (hostCommand_tapRequest h hlen hres hps hop ?_),
      onlyIn_put_pf _ _, rfl, rfl, fun ch hch hm => writeSettings_forgotten _ s hch hm⟩
    have hmod : rdN c.payload 4 4 % 2 ^ 32 = rdN c.payload 4 4 := Nat.mod_eq_of_lt (rdN_lt _ 4 4)
    rw [hmod]
    rfl
  · refine ⟨changedChans s _ (fun x => { x with diagReq := true }), congrArg Host.Outcome.next (hostCommand_guarded h rfl ?_ ?_),
      fun ch x hx hch => getElem?_changedChans _ hx hch⟩
    · exact not_not.mpr hlen
    · rw [if_neg (by simp [hps])]
      exact congrArg (fun t => ans t stOk _) (fold_updQz _ _ s)
  · obtain ⟨h1, h4, hfit⟩ := hk _ rfl
    refine congrArg Host.Outcome.next (hostCommand_answers h ?_)
    rw [bodyQzRawCaptureStart_eq (reaches_arrival h) hlen hop hres h1 h4 hfit hd hps hring, if_pos hbusy]
  · obtain ⟨h1, h4, hfit⟩ := hk _ rfl
    refine ⟨ringEnter .capture (updCap (fun _ => armedCapture c s) s), congrArg Host.Outcome.next (hostCommand_answers h ?_), ringEnter_ring _ _,
      ringEnter_qz _ _, onlyIn_step (frame_ringEnter _ _) rfl (onlyIn_mono (frame_updCap _ s) rfl)⟩
    rw [bodyQzRawCaptureStart_eq (reaches_arrival h) hlen hop hres h1 h4 hfit hd hps hring, if_neg (by simp [ha, hr]),
      capReply_eq (k := armedCapture c s) (by rw [ringEnter_qz]; rfl) rfl]
    rfl
  · have hlen : c.payload.length = 4 := by rw [hp]; rfl
    have hpad : resZero c.payload 1 3 = true := by rw [hp]; decide
    have hcap : ∀ t, t.qz = (updCap (fun k => { k with st := .idle, data := [] }) s).qz → capReply t = zeros 8 :=
      fun t ht => capReply_eq (k := { s.qz.cap with st := .idle, data := [] }) (by rw [ht]; rfl) rfl
    refine ⟨if s.mc.ring = .capture then ringFree (updCap (fun k => { k with st := .idle, data := [] }) s)
      else updCap (fun k => { k with st := .idle, data := [] }) s,
      congrArg Host.Outcome.next (hostCommand_guardedOp h (by omega) (by rw [hp]; rfl) rfl ?_ ?_), ?_, ?_, fun hn => ?_⟩
    · simp [hlen, hpad]
    · simp only [hps, Bool.false_eq_true, if_false]
      rw [hcap]
      split
      · exact ringFree_qz _
      · rfl
    · split
      · exact ringFree_qz _
      · rfl
    · exact onlyIn_ite (onlyIn_step (frame_ringFree _) rfl (onlyIn_mono (frame_updCap _ s) rfl)) (onlyIn_mono (frame_updCap _ s) rfl)
    · rw [if_neg hn]
      rfl
  · let whole := s.qz.cap.st == .done && decide (s.qz.cap.data.length ≤ rdN c.payload 4 4 + rdN c.payload 8 4)
    refine ⟨if whole && s.mc.ring = .capture then ringFree (updCap (fun k => { k with st := .idle, data := [] }) s) else s,
      congrArg Host.Outcome.next (hostCommand_guardedOp h (by omega) hop rfl ?_ rfl), ?_, fun hn => ?_, fun hdone hend hring => ?_⟩
    · simp [hlen, hres]
      omega
    · exact onlyIn_ite (onlyIn_step (frame_ringFree _) rfl (onlyIn_mono (frame_updCap _ s) rfl)) (onlyIn_refl _ s)
    · rw [if_neg]
      simp only [whole, Bool.and_eq_true, beq_iff_eq, decide_eq_true_eq]
      rintro ⟨⟨h1, h2⟩, -⟩
      rcases hn with hn | hn
      · exact hn h1
      · omega
    · rw [if_pos (by simp [whole, hdone, hend, hring])]
      rw [ringFree_qz]
      exact ⟨rfl, rfl, ringFree_ring _⟩

end Sys2Proof.Proofs
end

section
/-!
PROOFS. Chapter 5, live flow calibration and coverage (R146, R152, R153, R155, R164 to R167).
-/

namespace Sys2Proof.Proofs

open Sys2Proof.Machine Sys2Proof.Safety

/-! ### CF_CALIBRATE -/

/-- A CF_CALIBRATE with a valid payload is answered as its operation acts, outside PS. -/
theorem hostCommand_calRequest {op st : Nat} {act : Nat → State → State × Reply} {r : Req} {c : Ctx} {s t : State} {b : Bytes}
    (h : reaches cCfCalibrate r c s = true) (hlen : c.payload.length = 8) (hres : resZero c.payload 1 3 = true) (hps : inPs s = false)
    (hop : rdN c.payload 0 1 = op) (hval : op = 4 ∨ rdN c.payload 4 4 = 0) (hact : act (rdN c.payload 4 4) s = ans t st b) :
    hostCommand cCfCalibrate (calRequest op act) r s = answer c st b t := by
  refine hostCommand_guardedOp h (by omega) hop rfl ?_ ?_
  · rcases hval with hval | hval <;> simp [hlen, hres, hval]
  · rw [if_neg (by simp [hps])]
    exact hact

/-- The command of Granite that sets a flow gain (R146). -/
def SetsGain (crop : Nat) (gain : Int) (s : State) (x : TCmd) : Prop :=
  x.internal = true ∧ x.code = cParamSet ∧ x.frame = s.clk.frame + 2 ∧ x.payload = u8 1 ++ zeros 3 ++ paramEntry (pCfFlowGain crop) gain

/-- An internal PARAM_SET is handed over for frame A + 2. -/
theorem internalParams_gain (crop : Nat) (gain : Int) (s : State) :
    ∃ x ∈ (internalParams [(pCfFlowGain crop, gain)] s).mb.exch, SetsGain crop gain s x :=
  ⟨_, List.mem_append_right _ List.mem_cons_self, rfl, rfl, rfl, by simp⟩


/-- The state after LOAD_END has set the weighbridge gain (R153). -/
def gainLoaded (gain : Int) (s : State) : State :=
  setGain s.cf.cal.crop gain (calDone 4 0 (updCal (fun c => { c with st := .disarmed }) s))

/-- The state after GAIN_RESET has returned the active crop's gain to its default (R152). -/
def gainReset (s : State) : State :=
  let s1 := internalParams [(pCfFlowGain (cropIdx s), paramDefault (pCfFlowGain (cropIdx s)))] (calDone 6 0 s)
  { s1 with cf := { s1.cf with calibrated := s1.cf.calibrated &&& (255 - 2 ^ cropIdx s) } }

theorem frame_gainLoaded (gain : Int) (s : State) : onlyIn [.cf, .mb] s (gainLoaded gain s) :=
  onlyIn_step (frame_setGain _ _ _) rfl (onlyIn_step (frame_calDone _ _ _) rfl (onlyIn_mono (frame_updCal _ s) rfl))

theorem frame_gainReset (s : State) : onlyIn [.cf, .mb] s (gainReset s) :=
  onlyIn_step (onlyIn_put_cf _ _) rfl (onlyIn_step (frame_internalParams _ _) rfl (onlyIn_mono (frame_calDone _ _ s) rfl))

/-! ### The open field (R164, R165) -/

theorem find?_map_same {α : Type} {p : α → Bool} {f : α → α} (hp : ∀ x, p (f x) = p x) (l : List α) :
    (l.map f).find? p = (l.find? p).map f := by
  rw [List.find?_map]
  congr 1
  exact congrArg (List.find? · l) (funext hp)

/-- What changing a field of the module leaves under its ID. -/
theorem ownField_updField {f : MapField → MapField} (hid : ∀ x, (f x).id = x.id) (hmir : ∀ x, (f x).mirror = x.mirror) (id : Nat) (s : State) :
    ownField (updField id f s) id = (ownField s id).map f := by
  let own := fun x : MapField => x.id == id && !x.mirror
  let upd := fun x : MapField => if (x.id = id && !x.mirror) = true then f x else x
  have hkeep : ∀ x, own (upd x) = own x := by
    intro x
    simp only [own, upd]
    split <;> simp only [hid, hmir]
  refine (find?_map_same (p := own) (f := upd) hkeep _).trans ?_
  simp only [ownField, own, upd]
  cases h : s.cf.fields.find? (fun x => x.id == id && !x.mirror) with
  | none => rfl
  | some x =>
    have hx : (x.id = id && !x.mirror) = true := by simpa using List.find?_some h
    simp only [Option.map_some, if_pos hx]

theorem ownField_withOpenField (s : State) : ∃ f, ownField (withOpenField s) s.cf.openField = some f := by
  unfold withOpenField
  split
  · next f hf => exact ⟨f, hf⟩
  · next hn =>
    refine ⟨⟨s.cf.openField, [], none, s.cf.closings, 0, false⟩, ?_⟩
    have hn' : s.cf.fields.find? (fun f => f.id == s.cf.openField && !f.mirror) = none := hn
    simp only [ownField, List.find?_append, hn', Option.none_or, List.find?_singleton, beq_self_eq_true, Bool.not_false, Bool.and_self, if_true]

theorem withOpenField_openField (s : State) : (withOpenField s).cf.openField = s.cf.openField := by
  unfold withOpenField
  split <;> rfl

/-- A field opened is the open one and has the grid of its request, with its cells unless CLEAR. -/
theorem openField_opens (id : Nat) (clear : Bool) (g : Grid) (s : State) :
    (openField id clear g s).cf.openField = id ∧
      ∃ f old, ownField (openField id clear g s) id = some f ∧ f.grid = some (reopened clear g old) := by
  have hopen := withOpenField_openField { s with cf := { s.cf with openField := id, moistSeen := false } }
  obtain ⟨f, hf⟩ := ownField_withOpenField { s with cf := { s.cf with openField := id, moistSeen := false } }
  refine ⟨hopen, { f with grid := some (reopened clear g f.grid) }, f.grid, ?_, rfl⟩
  have hown := ownField_updField (f := fun f => { f with grid := some (reopened clear g f.grid) }) (fun _ => rfl) (fun _ => rfl) id
    (withOpenField { s with cf := { s.cf with openField := id, moistSeen := false } })
  exact hown.trans (congrArg _ hf)

/-- A field opened again keeps the geometry of the request; CLEAR keeps no cell. -/
theorem reopened_eq (clear : Bool) (g : Grid) (old : Option Grid) :
    ∃ cells stamps, reopened clear g old = { g with cells := cells, stamps := stamps } ∧ (clear = true → cells = g.cells) := by
  unfold reopened
  split
  · next o =>
    split
    · exact ⟨_, _, rfl, fun _ => rfl⟩
    · next hc => exact ⟨_, _, rfl, fun h => absurd h hc⟩
  · exact ⟨_, _, rfl, fun _ => rfl⟩

theorem makeRoom_fits {ok : State → Bool} {s : State} (n : Nat) (h : ok s = true) : makeRoom ok n s = some s := by
  cases n <;> simp only [makeRoom, h, if_true]

/-! ### Cells (R166, R167) -/

/-- Cells of a row are set and none is cleared. -/
theorem covered_setCells (row mask stamp : Nat) (g : Grid) (r c : Nat) :
    covered (setCells row mask stamp g) r c = (covered g r c || (decide (r = row) && mask.testBit c)) := by
  simp only [setCells]
  split
  · next h =>
    by_cases hr : r = row
    · subst hr
      have hb := congrArg (fun m => m.testBit c) h
      simp only [Nat.testBit_or] at hb
      simp only [covered, bit, decide_true, Bool.true_and, hb]
    · simp [hr]
  · simp only [covered, bit, getKey_setKey]
    by_cases hr : r = row
    · subst hr
      simp only [if_true, Option.getD_some, Nat.testBit_or, decide_true, Bool.true_and]
    · simp only [hr, if_false, decide_false, Bool.false_and, Bool.or_false]

theorem setCells_extent (row mask stamp : Nat) (g : Grid) :
    (setCells row mask stamp g).rows = g.rows ∧ (setCells row mask stamp g).cols = g.cols := by
  simp only [setCells]
  split <;> exact ⟨rfl, rfl⟩

/-- The bits of CELLS become the mask of their row, as far as they lie in the extent. -/
theorem cellsMask_bits (g : Grid) (p : Bytes) (row first n : Nat) :
    (cellsMask g p row first n).1 < 2 ^ (first + n) ∧
      ∀ k < n, bit (rdN p (12 + k / 8) 1) (k % 8) = true → row < g.rows → first + k < g.cols →
        (cellsMask g p row first n).1.testBit (first + k) = true := by
  induction n with
  | zero => exact ⟨Nat.two_pow_pos first, fun k hk => absurd hk (Nat.not_lt_zero k)⟩
  | succ n ih =>
    obtain ⟨hlt, hbits⟩ := ih
    unfold cellsMask at hlt hbits ⊢
    rw [List.range_succ, List.foldl_append]
    generalize (List.range n).foldl _ _ = acc at hlt hbits ⊢
    obtain ⟨m, out⟩ := acc
    simp only [List.foldl_cons, List.foldl_nil] at hlt hbits ⊢
    have hdouble : 2 ^ (first + (n + 1)) = 2 ^ (first + n) + 2 ^ (first + n) := by rw [← Nat.add_assoc, Nat.pow_succ]; omega
    have hold : ∀ k < n, ∀ m', m' = m ∨ m' = m + 2 ^ (first + n) → m.testBit (first + k) = true → m'.testBit (first + k) = true := by
      rintro k hk m' (rfl | rfl) hb
      · exact hb
      · rw [Nat.add_comm m, Nat.testBit_two_pow_add_gt (by omega), hb]
    by_cases hn : bit (rdN p (12 + n / 8) 1) (n % 8) = true
    · rw [if_pos hn]
      by_cases hin : (decide (row < g.rows) && decide (first + n < g.cols)) = true
      · rw [if_pos hin]
        refine ⟨by simp only; omega, fun k hk hb hr hc => ?_⟩
        rcases Nat.lt_succ_iff_lt_or_eq.mp hk with hk | rfl
        · exact hold k hk _ (.inr rfl) (hbits k hk hb hr hc)
        · simp only [Nat.add_comm m, Nat.testBit_two_pow_add_eq, Nat.testBit_lt_two_pow hlt, Bool.not_false]
      · rw [if_neg hin]
        refine ⟨by simp only; omega, fun k hk hb hr hc => ?_⟩
        rcases Nat.lt_succ_iff_lt_or_eq.mp hk with hk | rfl
        · exact hbits k hk hb hr hc
        · exact absurd (by simp [hr, hc]) hin
    · rw [if_neg hn]
      refine ⟨by simp only; omega, fun k hk hb hr hc => ?_⟩
      rcases Nat.lt_succ_iff_lt_or_eq.mp hk with hk | rfl
      · exact hbits k hk hb hr hc
      · exact absurd hb hn

/-- Coverage-outside-extent marks the grid and changes nothing else of it; the stamp stays. -/
theorem outsideOnce_field {id : Nat} {s : State} {f : MapField} {g : Grid} (hf : ownField s id = some f) (hg : f.grid = some g) :
    (outsideOnce id s).cf.stamp = s.cf.stamp ∧ ∃ f' out, ownField (outsideOnce id s) id = some f' ∧ f'.grid = some { g with outside := out } := by
  have hb : (ownField s id).bind MapField.grid = some g := by rw [hf, Option.bind_some, hg]
  unfold outsideOnce
  rw [hb]
  dsimp only
  split
  · exact ⟨rfl, f, g.outside, hf, hg⟩
  · have hcf : (happen detCoverageOutsideExtent 0 0 (updField id (fun f => { f with grid := some { g with outside := true } }) s)).cf =
        (updField id (fun f => { f with grid := some { g with outside := true } }) s).cf := frame_happen _ _ _ _ .cf (by decide)
    have hstamp := congrArg CropFlow.stamp hcf
    refine ⟨hstamp, { f with grid := some { g with outside := true } }, true, ?_, rfl⟩
    have hown := ownField_updField (f := fun f => { f with grid := some { g with outside := true } }) (fun _ => rfl) (fun _ => rfl) id s
    rw [hf, Option.map_some] at hown
    rw [← hown]
    exact congrArg (fun cf : CropFlow => cf.fields.find? (fun f => f.id == id && !f.mirror)) hcf

/-! ### COVERAGE_PUT -/

/-- The reply of COVERAGE_PUT (Table 5-5). -/
def coverBytes (id : Nat) (s : State) : Bytes := u32 ((((ownField s id).bind MapField.grid).map coveredCells).getD 0) ++ u32 s.cf.stamp

theorem coverReply_eq (id : Nat) (s : State) : coverReply id s = ans s stOk (coverBytes id s) := rfl

/-- The state after CELLS: the row's cells are set under the next stamp, and coverage outside the extent is told once. -/
def cellsPut (c : Ctx) (g : Grid) (s : State) : State :=
  let m := cellsMask g c.payload (rdN c.payload 6 2) (rdN c.payload 8 2) (rdN c.payload 10 2)
  let s1 := updField (rdN c.payload 4 2) (fun f => { f with grid := some (setCells (rdN c.payload 6 2) m.1 (wrapU 32 (s.cf.stamp + 1)) g) })
    { s with cf := { s.cf with stamp := wrapU 32 (s.cf.stamp + 1) } }
  if m.2 then outsideOnce (rdN c.payload 4 2) s1 else s1

/-- What CELLS leaves of the open field: its grid with the cells of the request set. -/
theorem cellsPut_field {c : Ctx} {g : Grid} {s : State} {f : MapField} (hf : ownField s (rdN c.payload 4 2) = some f) :
    (cellsPut c g s).cf.stamp = wrapU 32 (s.cf.stamp + 1) ∧ ∃ f' out, ownField (cellsPut c g s) (rdN c.payload 4 2) = some f' ∧
      f'.grid = some { setCells (rdN c.payload 6 2) (cellsMask g c.payload (rdN c.payload 6 2) (rdN c.payload 8 2) (rdN c.payload 10 2)).1
        (wrapU 32 (s.cf.stamp + 1)) g with outside := out } := by
  let g' := setCells (rdN c.payload 6 2) (cellsMask g c.payload (rdN c.payload 6 2) (rdN c.payload 8 2) (rdN c.payload 10 2)).1
    (wrapU 32 (s.cf.stamp + 1)) g
  have hown := ownField_updField (f := fun f => { f with grid := some g' }) (fun _ => rfl) (fun _ => rfl) (rdN c.payload 4 2)
    { s with cf := { s.cf with stamp := wrapU 32 (s.cf.stamp + 1) } }
  have hown' := hown.trans (congrArg _ hf)
  simp only [cellsPut]
  split
  · exact outsideOnce_field hown' rfl
  · exact ⟨rfl, { f with grid := some g' }, g'.outside, hown', rfl⟩

theorem frame_cellsPut (c : Ctx) (g : Grid) (s : State) : onlyIn [.cf, .mb, .pf, .ev, .out] s (cellsPut c g s) := by
  have h : ∀ F, onlyIn [.cf, .mb, .pf, .ev, .out] s (updField (rdN c.payload 4 2) F { s with cf := { s.cf with stamp := wrapU 32 (s.cf.stamp + 1) } }) :=
    fun F => onlyIn_step (frame_updField _ _ _) rfl (onlyIn_mono (onlyIn_put_cf _ s) rfl)
  exact onlyIn_ite (onlyIn_step (frame_outsideOnce _ _) rfl (h _)) (h _)

/-- Settles O20: CF_CALIBRATE by its operations, COVERAGE_PUT by what it leaves of the open field. -/
theorem yieldCommandsAct : Obligations.YieldCommandsAct := by
  refine ⟨fun r c s h hlen hres hps => ⟨fun hop h0 hcut => ?_, fun hop h0 hrest hlev => ?_, fun hop h0 => ?_,
    fun hop hload => ⟨fun gm hg => ?_, fun hg => ?_⟩, fun hop h0 hload => ?_, fun hop h0 => ?_, fun hop h0 => ?_⟩,
    fun r c s h hres hps => ⟨fun hlen hop hid hclr hpad hn1 hn2 he hr1 hr2 hc1 hc2 hfit => ?_, fun hlen hop => ?_,
      fun f g hlen hop hn1 hn2 hid hopen hf hg => ?_⟩⟩
  · refine congrArg Host.Outcome.next (hostCommand_calRequest h hlen hres hps hop (.inr h0) ?_)
    rw [if_neg (by simp [hcut])]
    rfl
  · refine congrArg Host.Outcome.next (hostCommand_calRequest h hlen hres hps hop (.inr h0) ?_)
    rw [if_neg (by simp [hrest, hlev])]
    rfl
  · exact congrArg Host.Outcome.next (hostCommand_calRequest h hlen hres hps hop (.inr h0) rfl)
  · refine ⟨gainLoaded (clampI 262144 4194304 gm) s, congrArg Host.Outcome.next (hostCommand_calRequest h hlen hres hps hop (.inl rfl) ?_),
      frame_gainLoaded _ s, rfl, rfl, rfl, rfl, internalParams_gain _ _ _⟩
    rw [if_neg (not_not.mpr hload)]
    simp only [hg]
    rfl
  · refine congrArg Host.Outcome.next (hostCommand_calRequest h hlen hres hps hop (.inl rfl) ?_)
    rw [if_neg (not_not.mpr hload)]
    simp only [hg]
    rfl
  · refine congrArg Host.Outcome.next (hostCommand_calRequest h hlen hres hps hop (.inr h0) ?_)
    rw [if_neg (not_not.mpr hload)]
    rfl
  · exact ⟨gainReset s, congrArg Host.Outcome.next (hostCommand_calRequest h hlen hres hps hop (.inr h0) rfl), frame_gainReset s, rfl, rfl, rfl,
      internalParams_gain _ _ _⟩
  · exact congrArg Host.Outcome.next (hostCommand_calRequest h hlen hres hps hop (.inr h0) rfl)
  · let s1 := if s.cf.openField = rdN c.payload 4 2 then s else closeField s
    obtain ⟨hopened, f, old, hf, hgrid⟩ := openField_opens (rdN c.payload 4 2) (bit (rdN c.payload 6 1) 0) (gridOf c.payload) s1
    obtain ⟨cells, stamps, hre, hclear⟩ := reopened_eq (bit (rdN c.payload 6 1) 0) (gridOf c.payload) old
    have hframe : onlyIn [.cf] s s1 := onlyIn_ite (onlyIn_refl _ s) (frame_closeField s)
    refine ⟨openField (rdN c.payload 4 2) (bit (rdN c.payload 6 1) 0) (gridOf c.payload) s1, f, _,
      congrArg Host.Outcome.next (hostCommand_guardedOp h (by omega) hop rfl ?_ ?_), hopened, hf, hgrid.trans (congrArg _ hre), rfl, rfl, rfl, rfl,
      rfl, rfl, fun h1 => hclear (by rw [h1]; decide), onlyIn_step (frame_openField _ _ _ _) rfl hframe⟩
    · simp [hlen, hres, hid, hpad]
      simp only [gridOf]
      omega
    · rw [if_neg (by simp [hps]), makeRoom_fits 1040 hfit]
      exact coverReply_eq _ _
  · refine ⟨if s.cf.openField = 0 then s else closeField s, congrArg Host.Outcome.next (hostCommand_guardedOp h (by omega) hop rfl ?_ ?_), ?_,
      onlyIn_ite (onlyIn_refl _ s) (frame_closeField s), fun h0 => if_pos h0⟩
    · simp [hlen, hres]
    · rw [if_neg (by simp [hps])]
      exact coverReply_eq _ _
    · split
      · next h0 => exact h0
      · rfl
  · obtain ⟨hstamp, f', out, hf', hg'⟩ := cellsPut_field (g := g) hf
    obtain ⟨hrows, hcols⟩ := setCells_extent (rdN c.payload 6 2)
      (cellsMask g c.payload (rdN c.payload 6 2) (rdN c.payload 8 2) (rdN c.payload 10 2)).1 (wrapU 32 (s.cf.stamp + 1)) g
    have hcov := covered_setCells (rdN c.payload 6 2)
      (cellsMask g c.payload (rdN c.payload 6 2) (rdN c.payload 8 2) (rdN c.payload 10 2)).1 (wrapU 32 (s.cf.stamp + 1)) g
    obtain ⟨-, hbits⟩ := cellsMask_bits g c.payload (rdN c.payload 6 2) (rdN c.payload 8 2) (rdN c.payload 10 2)
    refine ⟨cellsPut c g s, f', _, congrArg Host.Outcome.next (hostCommand_guardedOp h (by omega) hop rfl ?_ ?_), hstamp, hf', hg', hrows, hcols,
      fun row col hc => ?_, fun k hk hb hr hcol => ?_, frame_cellsPut c g s⟩
    · simp [hlen, hres, hid, ← hopen]
      omega
    · rw [if_neg (by simp [hps])]
      simp only [hf, Option.bind_some, hg]
      exact coverReply_eq _ _
    · exact (hcov row col).trans (by rw [hc, Bool.true_or])
    · exact (hcov _ _).trans (by rw [hbits k hk hb hr hcol]; simp)

end Sys2Proof.Proofs
end

section
/-!
PROOFS. Chapters 6 and 7, the mailbox commands that diagnose and clear channels (R192, R194, R213, R217, R218).
-/

namespace Sys2Proof.Proofs

open Sys2Proof.Machine Sys2Proof.Safety

/-! ### One channel of a list -/

theorem vdChan_updVd {s : State} {ch : Nat} (f : VdChan → VdChan) (h : ch < s.vd.chans.length) : vdChan (updVd ch f s) ch = f (vdChan s ch) := by
  simp only [vdChan, updVd, nth_updAt _ _ _ _ _ h, if_true]

theorem lsChan_updLs {s : State} {ch : Nat} (f : LsChan → LsChan) (h : ch < s.ls.chans.length) : lsChan (updLs ch f s) ch = f (lsChan s ch) := by
  simp only [lsChan, updLs, nth_updAt _ _ _ _ _ h, if_true]

theorem vdChan_congr {s t : State} (h : t.vd = s.vd) (ch : Nat) : vdChan t ch = vdChan s ch := by rw [vdChan, h, vdChan]

theorem lsChan_congr {s t : State} (h : t.ls = s.ls) (ch : Nat) : lsChan t ch = lsChan s ch := by rw [lsChan, h, lsChan]

/-! ### VD_DIAG (R192, R194) -/

/-- A VD_DIAG with a valid payload is answered as its operation acts. -/
theorem hostCommand_vdDiag {op n st : Nat} {act : Nat → State → State × Reply} {r : Req} {c : Ctx} {s t : State} {b : Bytes}
    (h : reaches cVdDiag r c s = true) (hlen : c.payload.length = 4) (hres : resZero c.payload 2 2 = true) (hlo : 1 ≤ rdN c.payload 1 1)
    (hhi : rdN c.payload 1 1 ≤ n) (hop : rdN c.payload 0 1 = op) (hact : act (rdN c.payload 1 1 - 1) s = ans t st b) :
    hostCommand cVdDiag (vdDiagRequest op n act) r s = answer c st b t := by
  refine hostCommand_guardedOp h (by omega) hop rfl ?_ hact
  simp [hlen, hres, hhi]
  omega

theorem vdJudge_pass {s : State} {ch t : Nat} (h : vdDiagnose (vdChan s ch).diag = 0) : vdJudge ch t s = s := by
  simp only [vdJudge, h]

/-- A bank passes when no pin of it is short to battery and each of its channels passes. -/
theorem bankResult_pass {s : State} {k : Nat} (h : bankResult s k = 0) {ch : Nat} (hch : ch ∈ bankChans k) : vdDiagnose (vdChan s ch).diag = 0 := by
  unfold bankResult at h
  split at h
  · cases h
  · by_contra hne
    have hmem : vdDiagnose (vdChan s ch).diag ∈ (bankChans k).map (fun c => vdDiagnose (vdChan s c).diag) := List.mem_map_of_mem hch
    cases hf : ((bankChans k).map (fun c => vdDiagnose (vdChan s c).diag)).find? (· != 0) with
    | none => exact absurd (List.find?_eq_none.mp hf _ hmem) (by simpa using hne)
    | some r =>
      rw [hf] at h
      have hr : r ≠ 0 := by simpa using List.find?_some hf
      exact hr h

/-- The bank of a VD_DIAG BANK, judged channel by channel. -/
def bankJudged (k : Nat) (s : State) : State :=
  (bankChans k).foldl (fun st c => if vdResting st c then vdJudge c (usNow s 0) st else st) s

theorem bankJudged_pass {k : Nat} {s : State} (h : bankResult s k = 0) : bankJudged k s = s := by
  have hfold : ∀ l : List Nat, (∀ ch ∈ l, vdDiagnose (vdChan s ch).diag = 0) →
      l.foldl (fun st c => if vdResting st c then vdJudge c (usNow s 0) st else st) s = s := by
    intro l hl
    induction l with
    | nil => rfl
    | cons ch l ih =>
      rw [List.foldl_cons, vdJudge_pass (hl ch List.mem_cons_self), ite_self]
      exact ih (fun x hx => hl x (List.mem_cons_of_mem _ hx))
  exact hfold _ (fun ch hch => bankResult_pass h hch)

theorem frame_bankJudged (k : Nat) (s : State) : onlyIn [.mb, .pf, .ev, .vd, .out, .free] s (bankJudged k s) :=
  onlyIn_fold _ _ (fun st c => onlyIn_ite (onlyIn_mono (frame_vdJudge c _ st) rfl) (onlyIn_refl _ st)) (onlyIn_refl _ s)

/-- Releasing the converter leaves the channels as they are. -/
theorem releaseConverter_chans (s : State) : (releaseConverter s).vd.chans = s.vd.chans := by
  unfold releaseConverter
  split
  · have hvd : (clearActive detBoostRailOvervoltage 0 (vdEnable s)).vd = (vdEnable s).vd := frame_clearActive _ _ _ .vd (by decide)
    rw [hvd]
    rfl
  · rfl

theorem releaseConverter_unlatched {s : State} (h : s.vd.conv ≠ .latched) : releaseConverter s = s := by
  simp [releaseConverter, h]

/-- Leaving FAULT changes the channel, and is told. -/
theorem vdLeaveFault_vd (ch : Nat) (s : State) :
    (vdLeaveFault ch s).vd = (updVd ch (fun x => { x with st := vdRest s ch, cause := 0, earlyRow := 0 }) s).vd := by
  simp only [vdLeaveFault]
  split
  · exact frame_rawEvent _ _ _ _ .vd (by decide)
  · exact (frame_clearActive _ _ _ .vd (by decide)).trans (frame_rawEvent _ _ _ _ .vd (by decide))

/-- A channel that leaves FAULT rests, without a cause. -/
theorem vdLeaveFault_rests {s : State} {ch : Nat} (h : ch < s.vd.chans.length) :
    (vdChan (vdLeaveFault ch s) ch).st ≠ .fault ∧ (vdChan (vdLeaveFault ch s) ch).cause = 0 := by
  rw [vdChan_congr (vdLeaveFault_vd ch s), vdChan_updVd _ h]
  refine ⟨?_, rfl⟩
  simp only [vdRest]
  split <;> simp

/-! ### LS_DIAG (R213, R217) -/

/-- A LS_DIAG of a channel at rest runs its operation. -/
theorem lsDiagRequest_acts {op : Nat} (act : Nat → State → State × Reply) {c : Ctx} {s : State} (hlen : c.payload.length = 4)
    (hlo : 1 ≤ rdN c.payload 1 1) (hhi : rdN c.payload 1 1 ≤ 24) (hres : resZero c.payload 2 2 = true)
    (hmay : lsMayCommand s (rdN c.payload 1 1 - 1) = true) (hoff : (lsChan s (rdN c.payload 1 1 - 1)).st = .off) (hop : rdN c.payload 0 1 = op) :
    lsDiagRequest op act c s = act (rdN c.payload 1 1 - 1) s := by
  have hne : rdN c.payload 1 1 ≠ 0 := by omega
  rw [lsDiagRequest, withOp_eq _ (by omega) hop]
  simp [hlen, hne, Nat.not_lt.mpr hhi, hres, hmay, hoff]

/-- What off-state diagnosis writes into its channel. -/
def diagnosed (s : State) (ch v1 v2 : Nat) (c : LsChan) : LsChan :=
  let r := lsDiagnose (measured s detOutputShortToBattery (ch + 1) v1) (measured s detOpenLoadOffState (ch + 1) v2)
  { c with v1, v2, openLoad := decide (r ≠ 0), cause := r }

/-- Of the load switches off-state diagnosis changes its channel only; the rest are events. -/
theorem lsJudge_ls (ch v1 v2 : Nat) (s : State) : (lsJudge ch v1 v2 s).ls = (updLs ch (diagnosed s ch v1 v2) s).ls := by
  have hdetect : ∀ code inst c data st, (detect code inst c data st).ls = st.ls := fun _ _ _ _ _ => frame_detect _ _ _ _ _ .ls (by decide)
  simp only [lsJudge]
  split
  · rw [hdetect, hdetect, hdetect]
    rfl
  · rw [hdetect, hdetect]
    rfl

theorem lsJudge_st {s : State} {ch v1 v2 : Nat} (h : ch < s.ls.chans.length) : (lsChan (lsJudge ch v1 v2 s) ch).st = (lsChan s ch).st := by
  rw [lsChan_congr (lsJudge_ls ch v1 v2 s), lsChan_updLs _ h]
  rfl

/-- The state after ON_TEST has turned its channel on (R217). -/
def onTest (ch : Nat) (s : State) : State :=
  updLs ch (fun c => { c with test := some (usNow s 0), duty := 10000, req := true })
    (turnOn ch (usNow s 0) (updLs ch (fun c => { c with armed := true }) s))

theorem turnOn_eq (ch t : Nat) (s : State) : ∃ f, turnOn ch t s = updLs ch f s ∧
    ∀ x : LsChan, x.armed = true → (f x).st = .start ∧ (f x).startup = true ∧ (f x).turnOns = wrapU 32 (x.turnOns + 1) :=
  ⟨_, rfl, fun x hx => by simp only [hx, if_true, and_self]⟩

theorem onTest_chan {s : State} {ch : Nat} (h : ch < s.ls.chans.length) :
    (lsChan (onTest ch s) ch).st = .start ∧ (lsChan (onTest ch s) ch).test = some (usNow s 0) ∧ (lsChan (onTest ch s) ch).duty = 10000 ∧
      (lsChan (onTest ch s) ch).req = true ∧ (lsChan (onTest ch s) ch).startup = true ∧
      (lsChan (onTest ch s) ch).turnOns = wrapU 32 ((lsChan s ch).turnOns + 1) := by
  obtain ⟨f, hf, hstart⟩ := turnOn_eq ch (usNow s 0) (updLs ch (fun c => { c with armed := true }) s)
  have hlen : ∀ (g : LsChan → LsChan) (st : State), (updLs ch g st).ls.chans.length = st.ls.chans.length := fun g st => length_updAt _ _ _
  obtain ⟨hst, hsu, hon⟩ := hstart { lsChan s ch with armed := true } rfl
  rw [onTest, hf, lsChan_updLs _ (by rw [hlen, hlen]; exact h), lsChan_updLs _ (by rw [hlen]; exact h), lsChan_updLs _ h]
  exact ⟨hst, rfl, rfl, rfl, hsu, hon⟩

theorem frame_onTest (ch : Nat) (s : State) : onlyIn [.ls] s (onTest ch s) :=
  onlyIn_step (frame_updLs _ _ _) rfl (onlyIn_step (frame_turnOn _ _ _) rfl (frame_updLs _ _ s))

/-- A command whose body waits changes the mailbox only, after its body, and stands last among the waiting ones. -/
theorem hostCommand_waits_kept {code : Nat} {body : Body} {r : Req} {c : Ctx} {s t : State} {w : WaitFor} (h : reaches code r c s = true)
    (hb : body c s = (t, .wait w)) :
    ∃ t', hostCommand code body r s = t' ∧ onlyIn [.mb] t t' ∧
      t'.mb.waiting = t.mb.waiting ++ [⟨c.binding, c.session, c.seq, code, c.era, w, t.clk.ms⟩] := by
  refine ⟨_, hostCommand_waits h hb, onlyIn_step (frame_updChan _ _ _ _) rfl (onlyIn_put_mb _ t), ?_⟩
  unfold updChan
  split <;> rfl

/-- A count on 16 bits of nothing. -/
theorem lsDiagBytes_eq (result v1 v2 : Nat) : lsDiagBytes result v1 v2 0 = u8 result ++ zeros 1 ++ u16 (satU 16 v1) ++ u16 (satU 16 v2) ++ zeros 2 :=
  rfl

theorem lsDiagnose_nat (v1 v2 : Nat) : lsDiagnose v1 v2 = if 1500 < v1 then 6 else if 3500 < v2 then 5 else 0 := by
  have h1 : ((1500 : Int) < v1) = (1500 < v1) := by simp only [eq_iff_iff]; omega
  have h2 : ((3500 : Int) < v2) = (3500 < v2) := by simp only [eq_iff_iff]; omega
  simp only [lsDiagnose, h1, h2]

/-- Settles O22: VD_DIAG by what its operation judges, LS_LATCH_CLEAR by its mask, LS_DIAG by the channel it finds. -/
theorem outputCommandsAct : Obligations.OutputCommandsAct := by
  refine ⟨fun r c s h hlen hres hlo => ⟨fun hop hhi hrest => ?_, fun hop hhi hrest => ?_, fun hop hhi hch => ⟨fun hst hconv => ?_,
    fun hst hcause hd => ?_, fun hst hcause hd hconv => ?_⟩⟩,
    fun r c s => ⟨fun h hlen hmask hsafe => ?_, fun h hlen hlo hhi hres hmay hoff hch => ⟨fun hop => ?_, fun hop => ?_⟩⟩⟩
  · refine ⟨vdJudge (rdN c.payload 1 1 - 1) (usNow s 0) s, congrArg Host.Outcome.next (hostCommand_vdDiag h hlen hres hlo hhi hop ?_), vdJudge_pass,
      onlyIn_mono (frame_vdJudge _ _ s) rfl, fun h1 => ?_, fun h1 h2 h3 => ?_, fun h1 h2 h3 => ?_, fun h1 h2 => ?_⟩
    · rw [if_neg (by simp [hrest])]
      rfl
    · simp only [vdDiagnose, h1, if_true]
    · simp [vdDiagnose, Nat.not_lt.mpr h1, h2, h3]
    · have h4 : ¬((vdChan s (rdN c.payload 1 1 - 1)).diag.vls < 300 ∧
          (vdChan s (rdN c.payload 1 1 - 1)).diag.vbk ≤ (vdChan s (rdN c.payload 1 1 - 1)).diag.vls + 300) := by omega
      simp [vdDiagnose, Nat.not_lt.mpr h1, h2, h4]
    · have h3 : ¬(vdChan s (rdN c.payload 1 1 - 1)).diag.vls < 300 := by omega
      simp [vdDiagnose, Nat.not_lt.mpr h1, Nat.not_lt.mpr h2, h3]
  · refine ⟨bankJudged (rdN c.payload 1 1 - 1) s, congrArg Host.Outcome.next (hostCommand_vdDiag h hlen hres hlo hhi hop ?_), bankJudged_pass,
      frame_bankJudged _ s⟩
    rw [if_neg (by simpa [List.all_eq_true] using hrest)]
    rfl
  · refine congrArg Host.Outcome.next (hostCommand_vdDiag h hlen hres hlo hhi hop ?_)
    simp only [hst, ne_eq, not_false_eq_true, if_true, releaseConverter_unlatched hconv]
    rfl
  · have hch' : rdN c.payload 1 1 - 1 < (releaseConverter s).vd.chans.length := by rw [releaseConverter_chans]; exact hch
    obtain ⟨hleft, hnone⟩ := vdLeaveFault_rests hch'
    refine ⟨vdLeaveFault (rdN c.payload 1 1 - 1) (releaseConverter s),
      congrArg Host.Outcome.next (hostCommand_vdDiag h hlen hres hlo hhi hop ?_), hleft, hnone,
      onlyIn_step (frame_vdLeaveFault _ _) rfl (onlyIn_mono (frame_releaseConverter s) rfl)⟩
    simp only [hst, ne_eq, not_true, if_false, hcause, hd, if_true]
    rfl
  · refine congrArg Host.Outcome.next (hostCommand_vdDiag h hlen hres hlo hhi hop ?_)
    simp only [hst, ne_eq, not_true, if_false, hcause, hd, releaseConverter_unlatched hconv]
    rfl
  · refine ⟨(List.range 24).filter (fun ch => bit (rdN c.payload 0 4) ch && (lsChan s ch).st == .latched && decide ((lsChan s ch).tj ≤ 1550)),
      congrArg Host.Outcome.next (hostCommand_guarded h rfl ?_ ?_), fun k => ?_⟩
    · simp [hlen]
      omega
    · rw [if_neg hsafe]
    · simp [and_assoc]
  · let x := lsChan s (rdN c.payload 1 1 - 1)
    refine ⟨lsJudge (rdN c.payload 1 1 - 1) x.v1 x.v2 s, congrArg Host.Outcome.next (hostCommand_answers h
      ((lsDiagRequest_acts _ hlen hlo hhi hres hmay hoff hop).trans ?_)), onlyIn_mono (frame_lsJudge _ _ _ s) rfl, (lsJudge_st hch).trans hoff⟩
    simp only [lsDiagBytes_eq, lsDiagnose_nat]
    rfl
  · obtain ⟨t, hexec, hframe, hwait⟩ := hostCommand_waits_kept (body := bodyLsDiagOnTest) h
      (lsDiagRequest_acts _ hlen hlo hhi hres hmay hoff hop)
    have hls : t.ls = (onTest (rdN c.payload 1 1 - 1) s).ls := hframe .ls (by decide)
    obtain ⟨h1, h2, h3, h4, h5, h6⟩ := onTest_chan hch
    rw [← lsChan_congr hls] at h1 h2 h3 h4 h5 h6
    exact ⟨t, congrArg Host.Outcome.next hexec, h1, h2, h3, h4, h5, h6, hwait, onlyIn_step hframe rfl (onlyIn_mono (frame_onTest _ s) rfl)⟩

end Sys2Proof.Proofs
end

section
/-!
PROOFS. Chapter 8, the mailbox commands of the receiver and of path following (R230, R241, R245).
-/

namespace Sys2Proof.Proofs

open Sys2Proof.Machine Sys2Proof.Safety

/-! ### RTCM_PUT (R230) -/

/-- The correction stream that a RTCM_PUT continues: a new one for NEW_STREAM or another session. -/
def rtcmStart (c : Ctx) (s : State) : Rtcm :=
  if rdN c.payload 0 1 = 1 ∨ s.gn.rtcm.owner ≠ c.session then { s.gn.rtcm with owner := c.session, buf := [] } else s.gn.rtcm

/-- The correction stream after a RTCM_PUT, but for whether it is stale. -/
def rtcmFed (c : Ctx) (s : State) : Rtcm :=
  rtcmParse s.clk.ms (((rtcmStart c s).buf ++ c.payload.drop 4).length + 1) { rtcmStart c s with buf := (rtcmStart c s).buf ++ c.payload.drop 4 }

/-- Whether a RTCM_PUT brought a correction, so that the stream is not stale. -/
def rtcmFresh (c : Ctx) (s : State) : Bool := decide ((rtcmFed c s).lastMsm ≠ s.gn.rtcm.lastMsm) && !forced s detCorrectionsStale 0

/-- The state after a RTCM_PUT. -/
def rtcmPutState (c : Ctx) (s : State) : State :=
  let s1 := updGn (fun g => { g with rtcm := { rtcmFed c s with stale := (rtcmFed c s).stale && !rtcmFresh c s } }) s
  if rtcmFresh c s then detect detCorrectionsStale 0 false 0 s1 else s1

theorem rtcmPutState_gn (c : Ctx) (s : State) :
    (rtcmPutState c s).gn = { s.gn with rtcm := { rtcmFed c s with stale := (rtcmFed c s).stale && !rtcmFresh c s } } := by
  simp only [rtcmPutState]
  split
  · exact frame_detect _ _ _ _ _ .gn (by decide)
  · rfl

theorem frame_rtcmPutState (c : Ctx) (s : State) : onlyIn [.mb, .pf, .ev, .gn, .out] s (rtcmPutState c s) :=
  onlyIn_ite (onlyIn_step (frame_detect _ _ _ _ _) rfl (onlyIn_mono (frame_updGn _ s) rfl)) (onlyIn_mono (frame_updGn _ s) rfl)

theorem bit0_of_le_one {n : Nat} (h : n ≤ 1) : bit n 0 = decide (n = 1) := by
  match n, h with
  | 0, _ => rfl
  | 1, _ => rfl

/-! ### GN_CONFIG (R245) -/

/-- A GN_CONFIG with a valid payload is answered as its operation acts. -/
theorem hostCommand_gnConfig {op len n st : Nat} {act : Nat → Ctx → State → State × Reply} {r : Req} {c : Ctx} {s t : State} {b : Bytes}
    (h : reaches cGnConfig r c s = true) (hres : resZero c.payload 2 2 = true) (hlen : c.payload.length = len) (h0 : 0 < len)
    (hop : rdN c.payload 0 1 = op) (hhi : rdN c.payload 1 1 ≤ n) (hlo : n ≠ 0 → 1 ≤ rdN c.payload 1 1)
    (hact : act (rdN c.payload 1 1) c s = ans t st b) : hostCommand cGnConfig (gnConfig op len n act) r s = answer c st b t := by
  refine hostCommand_guardedOp h (by omega) hop rfl ?_ hact
  have hlo' : ¬(n ≠ 0 ∧ rdN c.payload 1 1 = 0) := fun ⟨hn, hk⟩ => absurd (hlo hn) (by omega)
  simpa [hlen, hres, hhi] using hlo'

/-- The receiver after a restart; from a cold start its seed and its clocks are gone too. -/
def restarted (k : Nat) (g : Gnss) : Gnss :=
  let g1 := { g with
    chans := [], engines := List.replicate 4 ⟨none, 0, false⟩, epoch := none
    part := { g.part with type := 0, solSeq := wrapU 32 (g.part.solSeq + 1) }, drSince := none }
  if k = 3 then { g1 with gal := none, bds := none, seed := none, cands := [], lastType := 0 } else g1

/-- What a restart takes away and what it leaves. -/
theorem restarted_kept (k : Nat) (g : Gnss) :
    (restarted k g).chans = [] ∧ (restarted k g).epoch = none ∧
      (restarted k g).part = { g.part with type := 0, solSeq := (g.part.solSeq + 1) % 2 ^ 32 } ∧ (restarted k g).steer = g.steer ∧
      (restarted k g).rtcm = g.rtcm ∧ (restarted k g).current = g.current ∧ (restarted k g).next = g.next ∧ (restarted k g).time = g.time ∧
      (k = 3 → (restarted k g).seed = none ∧ (restarted k g).gal = none ∧ (restarted k g).bds = none ∧ (restarted k g).cands = []) ∧
      (k ≠ 3 → (restarted k g).seed = g.seed ∧ (restarted k g).gal = g.gal ∧ (restarted k g).bds = g.bds) := by
  by_cases hk : k = 3
  · subst hk
    exact ⟨rfl, rfl, rfl, rfl, rfl, rfl, rfl, rfl, fun _ => ⟨rfl, rfl, rfl, rfl⟩, fun hn => absurd rfl hn⟩
  · rw [restarted, if_neg hk]
    exact ⟨rfl, rfl, rfl, rfl, rfl, rfl, rfl, rfl, fun h => absurd h hk, fun _ => ⟨rfl, rfl, rfl⟩⟩

theorem ants_of_short {s : State} {k : Nat} (h : (antOf s k).st = .short) : k < s.gn.ants.length := by
  by_contra hn
  have hnone : s.gn.ants[k]? = none := List.getElem?_eq_none (by omega)
  rw [antOf, nth, List.getD_eq_getElem?_getD, hnone] at h
  cases h

theorem antTrial_short {s : State} {k : Nat} (h : (antOf s k).st = .short) : antOf (antTrial k s) k = { antOf s k with trial := 5 } := by
  have hnth := nth_updAt s.gn.ants k k (fun a => if a.st = .short then { a with trial := 5 } else a) ⟨.off, 0, 0, 0, 0⟩ (ants_of_short h)
  rw [if_pos rfl] at hnth
  exact hnth.trans (if_pos h)

/-! ### PATH_LOAD (R241) -/

/-- The path that LOAD_NEXT names. -/
def loadedPath (p : Bytes) : PathDef := ⟨rdN p 12 4, rdN p 1 1 == 2, rdN p 2 1 == 1, rdI p 4 4, pathPoints p (rdN p 8 2)⟩

/-- What LOAD_NEXT does with a payload in range: it loads a path whose points lie apart. -/
theorem bodyPathLoadLoadNext_eq {c : Ctx} {s : State} (hlen : c.payload.length = 16 + 8 * rdN c.payload 8 2) (hop : rdN c.payload 0 1 = 1)
    (hn2 : 2 ≤ rdN c.payload 8 2) (hn : rdN c.payload 8 2 ≤ 4096) (hty : rdN c.payload 1 1 = 1 ∧ rdN c.payload 8 2 = 2 ∨ rdN c.payload 1 1 = 2)
    (hext : rdN c.payload 2 1 ≤ 1) (hres : resZero c.payload 3 1 = true) (hres' : resZero c.payload 10 2 = true) (hid : rdN c.payload 12 4 ≠ 0) :
    bodyPathLoadLoadNext c s = if pointsApart (pathPoints c.payload (rdN c.payload 8 2)) = true then
      pathReply (promoteIdle (updGn (fun g => { g with next := some (loadedPath c.payload) }) s)) else ans s stBadArg := by
  rw [bodyPathLoadLoadNext, withOp_eq _ (by omega) hop]
  have hext' : bit (rdN c.payload 2 1) 0 = (rdN c.payload 2 1 == 1) := (bit0_of_le_one hext).trans (beq_eq_decide _ _).symm
  have hbad : (decide (c.payload.length ≠ 16 + 8 * rdN c.payload 8 2) || decide (rdN c.payload 8 2 < 2) || decide (4096 < rdN c.payload 8 2) ||
      decide (rdN c.payload 1 1 = 0) || decide (2 < rdN c.payload 1 1) || decide (2 ≤ rdN c.payload 2 1) || !resZero c.payload 3 1 ||
      !resZero c.payload 10 2 || decide (rdN c.payload 12 4 = 0) || (decide (rdN c.payload 1 1 = 1) && decide (rdN c.payload 8 2 ≠ 2))) = false := by
    simp only [Bool.or_eq_false_iff, Bool.and_eq_false_iff, decide_eq_false_iff_not, Bool.not_eq_false', hres, hres', and_true, hid,
      not_false_eq_true]
    omega
  simp only [hbad, hext', Bool.false_or, Bool.not_eq_true']
  cases pointsApart (pathPoints c.payload (rdN c.payload 8 2)) <;> rfl

/-- The IDs that PATH_LOAD answers do not depend on a path's offset. -/
theorem pathId_shift (q : Option PathDef) (d : Int) :
    (q.map (fun x => { x with offset := x.offset + d })).map PathDef.id = q.map PathDef.id := by
  cases q <;> rfl

/-- Settles O24, by the bodies of the commands. -/
theorem gnssCommandsAct : Obligations.GnssCommandsAct := by
  intro r c s
  refine ⟨fun h hlen hnew hres => ?_, fun h hres => ⟨fun hlen hop hlo hhi hst => ?_, fun hlen hop h0 hty => ?_, fun hlen hop h0 => ?_,
    fun hlen hop hlo hhi => ⟨fun hst => ?_, fun hst => ?_⟩, fun hlen hop h0 hst => ?_⟩,
    fun h => ⟨?_, fun hlen hop hres => ?_, fun hlen hop hres hres' => ?_⟩⟩
  · refine ⟨rtcmPutState c s, congrArg Host.Outcome.next (hostCommand_guarded h rfl ?_ ?_), ?_, ?_, frame_rtcmPutState c s, fun hmsm => ?_⟩
    · simp [hres]
      omega
    · simp only [bit0_of_le_one hnew, Bool.or_eq_true, decide_eq_true_eq]
      rfl
    · rw [rtcmPutState_gn]
      rfl
    · rw [rtcmPutState_gn]
    · have hfresh : rtcmFresh c s = false := by
        have hmsm' : (rtcmFed c s).lastMsm = s.gn.rtcm.lastMsm := hmsm
        simp [rtcmFresh, hmsm']
      simp only [rtcmPutState, hfresh, Bool.not_false, Bool.and_true, Bool.false_eq_true, if_false]
      rfl
  · refine ⟨restarted (rdN c.payload 1 1) s.gn,
      congrArg Host.Outcome.next (hostCommand_gnConfig h hres hlen (by omega) hop hhi (fun _ => hlo) ?_), restarted_kept _ _⟩
    rw [if_neg (not_not.mpr hst)]
    simp only [restarted]
    split <;> rfl
  · refine congrArg Host.Outcome.next (hostCommand_gnConfig h hres hlen (by omega) hop (by omega) (fun hn => absurd rfl hn) ?_)
    rw [if_neg (by simp [hty])]
    rfl
  · exact congrArg Host.Outcome.next (hostCommand_gnConfig h hres hlen (by omega) hop (by omega) (fun hn => absurd rfl hn) rfl)
  · refine congrArg Host.Outcome.next (hostCommand_gnConfig h hres hlen (by omega) hop hhi (fun _ => hlo) ?_)
    rw [if_neg hst]
  · refine ⟨antTrial (rdN c.payload 1 1 - 1) s, congrArg Host.Outcome.next (hostCommand_gnConfig h hres hlen (by omega) hop hhi (fun _ => hlo) ?_),
      antTrial_short hst, frame_antTrial _ s⟩
    rw [if_pos hst]
  · refine congrArg Host.Outcome.next (hostCommand_gnConfig h hres hlen (by omega) hop (by omega) (fun hn => absurd rfl hn) ?_)
    rw [if_neg (not_not.mpr hst)]
    rfl
  · rintro n ty pts rfl rfl rfl hlen hop hn2 hn hty hext hres hres' hid
    refine congrArg Host.Outcome.next ?_
    rw [hostCommand_reaches bodyPathLoadLoadNext h, bodyPathLoadLoadNext_eq hlen hop hn2 hn hty hext hres hres' hid]
    by_cases hfar : pointsApart (pathPoints c.payload (rdN c.payload 8 2)) = true
    · rw [if_pos hfar, promoteIdle]
      refine Eq.trans ?_ (if_pos hfar).symm
      by_cases hst : s.gn.steer.st = .engaged
      · exact (congrArg _ (congrArg _ (if_pos hst))).trans (if_pos hst).symm
      · exact (congrArg _ (congrArg _ (if_neg hst))).trans (if_neg hst).symm
    · exact (congrArg _ (if_neg hfar)).trans (if_neg hfar).symm
  · refine congrArg Host.Outcome.next (hostCommand_guardedOp h (by omega) hop rfl ?_ rfl)
    simp [hlen, hres]
  · refine congrArg Host.Outcome.next (hostCommand_guardedOp h (by omega) hop rfl ?_ ?_)
    · simp [hlen, hres, hres']
    · simp only [pathReply, updGn_gn, pathId_shift]
      rfl

end Sys2Proof.Proofs
end

section
/-!
PROOFS. Chapters 11 and 12, the mailbox commands of storage, events and injections (R305, R312, R316, R330, R333, R335).
-/

namespace Sys2Proof.Proofs

open Sys2Proof.Machine Sys2Proof.Safety

/-! ### The power state of a bank (R305, R316) -/

theorem bankOf_updMcBank {s : State} {b : Nat} (f : Bank → Bank) (hb : b < s.mc.banks.length) : bankOf (updMcBank b f s) b = f (bankOf s b) := by
  simp only [bankOf, updMcBank, updMc, nth_updAt _ _ _ _ _ hb, if_true]

theorem bankOf_updMcBank_other {s : State} {b k : Nat} (f : Bank → Bank) (hk : k ≠ b) : bankOf (updMcBank b f s) k = bankOf s k := by
  simp only [bankOf, updMcBank, updMc, nth, List.getD_eq_getElem?_getD, getElem?_updAt]
  cases s.mc.banks[k]? <;> simp [Ne.symm hk]

theorem readByte_filter (p : Nat → Bool) (m : Memory) (a : Nat) : readByte (m.filter (fun c => p c.1)) a = if p a = true then readByte m a else 0 := by
  induction m with
  | nil => simp [readByte]
  | cons c m ih =>
    rw [List.filter_cons]
    by_cases hc : c.1 = a
    · subst hc
      by_cases hp : p c.1 = true <;> simp [hp, readByte, ih]
    · by_cases hp : p c.1 = true <;> simp [hp, readByte, hc, ih]

theorem readByte_clearSpan (lo hi a : Nat) (m : Memory) : readByte (clearSpan lo hi m) a = if a < lo ∨ hi ≤ a then readByte m a else 0 := by
  have h := readByte_filter (fun x => decide (x < lo) || decide (hi ≤ x)) m a
  simpa only [clearSpan, Bool.or_eq_true, decide_eq_true_eq] using h

/-- A bank and its content after a power request. -/
structure PowerResult (b : Nat) (want : BankSt) (s t : State) : Prop where
  reached : ¬((bankOf s b).st = .off ∧ want = .ret) → (bankOf t b).st = want
  refused : (bankOf s b).st = .off → want = .ret → t = s
  others : ∀ k ≠ b, bankOf t k = bankOf s k
  lost : (bankOf s b).st ≠ .off → want = .off → ∀ a, a / 1048576 = b → readByte t.mc.mem a = 0
  kept : ∀ a, a / 1048576 ≠ b → readByte t.mc.mem a = readByte s.mc.mem a

/-- A request that changes the bank's own entry, and no content, to a state other than OFF. -/
theorem powerResult_entry {b : Nat} {want : BankSt} {s : State} {f : Bank → Bank} (hb : b < s.mc.banks.length) (hf : ∀ x, (f x).st = want)
    (hw : want ≠ .off) (hr : (bankOf s b).st = .off → want ≠ .ret) : PowerResult b want s (updMcBank b f s) where
  reached _ := by rw [bankOf_updMcBank f hb, hf]
  refused h1 h2 := absurd h2 (hr h1)
  others _ hk := bankOf_updMcBank_other f hk
  lost _ h := absurd h hw
  kept _ _ := rfl

/-- A bank that goes OFF loses its content and no other. -/
theorem powerResult_off {b : Nat} {s : State} (hb : b < s.mc.banks.length) (f : Bank → Bank) (hf : ∀ x, (f x).st = .off) :
    PowerResult b .off s (updMc (fun c => { c with mem := clearSpan (1048576 * b) (1048576 * (b + 1)) c.mem }) (updMcBank b f s)) where
  reached _ := by
    have h := bankOf_updMcBank f hb
    exact (congrArg Bank.st h).trans (hf _)
  refused _ h := nomatch h
  others _ hk := bankOf_updMcBank_other f hk
  lost _ _ a ha := by
    refine (readByte_clearSpan _ _ a s.mc.mem).trans (if_neg ?_)
    omega
  kept a ha := by
    refine (readByte_clearSpan _ _ a s.mc.mem).trans (if_pos ?_)
    omega

/-- A request for the state the bank is in, or for RET in OFF, changes nothing. -/
theorem powerResult_same {b : Nat} {want : BankSt} {s : State} (h : (bankOf s b).st = want ∨ (bankOf s b).st = .off ∧ want = .ret) :
    PowerResult b want s s where
  reached hn := h.resolve_right hn
  refused _ _ := rfl
  others _ _ := rfl
  lost h1 h2 := by
    rcases h with h | ⟨h, -⟩
    · exact absurd (h.trans h2) h1
    · exact absurd h h1
  kept _ _ := rfl

theorem bankPower_result {b : Nat} (want : BankSt) {s : State} (hb : b < s.mc.banks.length) : PowerResult b want s (bankPower b want s) := by
  unfold bankPower
  split
  case h_1 h => exact powerResult_entry hb (fun _ => rfl) BankSt.noConfusion (fun h' => by rw [h] at h'; cases h')
  case h_2 h => exact powerResult_entry hb (fun _ => rfl) BankSt.noConfusion (fun h' => by rw [h] at h'; cases h')
  case h_3 h => exact powerResult_entry hb (fun _ => rfl) BankSt.noConfusion (fun _ => BankSt.noConfusion)
  case h_4 h => exact powerResult_off hb _ (fun _ => rfl)
  case h_5 h => exact powerResult_off hb _ (fun _ => rfl)
  case h_6 w _ _ h1 h2 h3 h4 h5 =>
    refine powerResult_same ?_
    cases hst : (bankOf s b).st <;> cases w <;> simp_all

/-- The banks that MC_BANK_STATE may switch. -/
theorem bankSwitchable_iff (b : Nat) (s : State) :
    (decide (60 ≤ b) || (decide (32 ≤ b) && decide (b < 48) && s.mc.ring == .free)) = true ↔ 60 ≤ b ∨ (32 ≤ b ∧ b < 48 ∧ s.mc.ring = .free) := by
  simp [and_assoc]

/-! ### EV_CLEAR (R330) -/

/-- Records moved to the archive leave the areas and the next RSEQ as they are. -/
theorem archived_kept (gone : List EvRec) (s : State) :
    (gone.foldl (fun st r => archiveRec r st) s).ev =
      { s.ev with
        archive := s.ev.archive ++ gone.filter (fun r => !isFixedCode r.code)
        archivePriv := s.ev.archivePriv ++ gone.filter (fun r => isFixedCode r.code) } := by
  induction gone generalizing s with
  | nil => simp
  | cons r gone ih =>
    rw [List.foldl_cons, ih]
    cases h : isFixedCode r.code <;> simp [archiveRec, h]

/-- The state after EV_CLEAR has moved the records that its filter meets, before it writes its own record. -/
def evCleared (fixed : Bool) (goes : EvRec → Bool) (s : State) : State :=
  updArea fixed (fun a => a.filter (fun r => !goes r)) (((areaOf s fixed).filter goes).foldl (fun st r => archiveRec r st) s)

theorem evCleared_ev (fixed : Bool) (goes : EvRec → Bool) (s : State) :
    (evCleared fixed goes s).ev.nextRseq = s.ev.nextRseq ∧ areaOf (evCleared fixed goes s) fixed = (areaOf s fixed).filter (fun x => !goes x) ∧
      areaOf (evCleared fixed goes s) (!fixed) = areaOf s (!fixed) ∧
      (evCleared fixed goes s).ev.archive = s.ev.archive ++ ((areaOf s fixed).filter goes).filter (fun r => !isFixedCode r.code) ∧
      (evCleared fixed goes s).ev.archivePriv = s.ev.archivePriv ++ ((areaOf s fixed).filter goes).filter (fun r => isFixedCode r.code) := by
  cases fixed <;> simp [evCleared, updArea, archived_kept, areaOf]

theorem frame_evCleared (fixed : Bool) (goes : EvRec → Bool) (s : State) : onlyIn [.ev] s (evCleared fixed goes s) :=
  onlyIn_step (frame_updArea _ _ _) rfl (onlyIn_fold _ _ (fun st r => frame_archiveRec r st) (onlyIn_refl _ s))

/-- What EV_CLEAR does in an area that the session may clear. -/
theorem bodyEvClear_eq {c : Ctx} {s : State} (fixed : Bool) (hlen : c.payload.length = 8) (harea : rdN c.payload 0 1 = if fixed then 2 else 1)
    (hres : resZero c.payload 2 2 = true) (hfix : fixed = true → c.role ≠ 2 ∧ inService s = true)
    (hsnap : fixed = false → c.role = 2 → s.rs.ownerLock = false) (goes : EvRec → Bool)
    (hgoes : goes = fun r => decide (r.rseq ≤ rdN c.payload 4 4) && (rdN c.payload 1 1 == 255 || rdN c.payload 1 1 == r.code / 256) && !r.retained) :
    bodyEvClear c s = ans (newRec (occNow (evCleared fixed goes s) evEventsCleared 0
      (c.role + 256 * (if fixed then 2 else 1) + 65536 * satU 16 ((areaOf s fixed).filter goes).length) false) (evCleared fixed goes s)) stOk
      (u32 ((areaOf s fixed).filter goes).length ++ u32 s.ev.nextRseq) := by
  obtain ⟨hseq, -⟩ := evCleared_ev fixed goes s
  have hfixed : (rdN c.payload 0 1 == 2) = fixed := by rw [harea]; cases fixed <;> rfl
  have hbad : (decide (c.payload.length ≠ 8) || (decide (rdN c.payload 0 1 ≠ 1) && decide (rdN c.payload 0 1 ≠ 2)) ||
      !resZero c.payload 2 2) = false := by
    cases fixed <;> simp [hlen, harea, hres]
  have hauth : (fixed && decide (c.role = 2)) = false := by
    cases fixed with
    | false => rfl
    | true => simp [hfix]
  have hrefused : (fixed && !inService s || !fixed && decide (c.role = 2) && s.rs.ownerLock) = false := by
    cases fixed with
    | false => by_cases hr : c.role = 2 <;> simp [hr, hsnap]
    | true => simp [hfix]
  simp only [bodyEvClear, hbad, hfixed, hauth, hrefused, Bool.false_eq_true, if_false, ← hseq, ← harea, hgoes]
  rfl

/-! ### INJECT_CLEAR and SELFTEST (R333, R335) -/

theorem mem_insertBy {α : Type} (key : α → Nat) (x y : α) (l : List α) : y ∈ insertBy key x l ↔ y = x ∨ y ∈ l := by
  induction l with
  | nil => simp [insertBy]
  | cons z l ih =>
    unfold insertBy
    split
    · simp
    · simp only [List.mem_cons, ih]
      tauto

theorem mem_sortBy_iff {α : Type} (key : α → Nat) (y : α) (l : List α) : y ∈ sortBy key l ↔ y ∈ l := by
  have h : ∀ (l acc : List α), y ∈ l.foldl (fun acc x => insertBy key x acc) acc ↔ y ∈ acc ∨ y ∈ l := by
    intro l
    induction l with
    | nil => simp
    | cons x l ih =>
      intro acc
      rw [List.foldl_cons, ih, mem_insertBy, List.mem_cons]
      tauto
  exact (h l []).trans (by simp)

/-- An injection ended is out of the list. -/
theorem endInjection_injs (h : Nat) (s : State) : (endInjection h s).ev.injs = s.ev.injs.filter (fun i => i.handle != h) := by
  unfold endInjection
  split
  · next hn =>
    refine (List.filter_eq_self.mpr fun i hi => ?_).symm
    simpa using List.find?_eq_none.mp hn i hi
  · dsimp only
    split <;> rfl

theorem fold_endInjection_injs (hs : List Nat) (s : State) :
    (hs.foldl (fun st h => endInjection h st) s).ev.injs = s.ev.injs.filter (fun i => !hs.contains i.handle) := by
  induction hs generalizing s with
  | nil => simp
  | cons h hs ih =>
    rw [List.foldl_cons, ih, endInjection_injs, List.filter_filter]
    refine List.filter_congr fun i _ => ?_
    cases hh : i.handle == h <;> simp_all

/-- Ending the injections that a test on the handle meets leaves the others. -/
theorem endInjections_injs {p : Inj → Bool} (hp : ∀ i j : Inj, i.handle = j.handle → p i = p j) (s : State) :
    (endInjections p s).ev.injs = s.ev.injs.filter (fun i => !p i) := by
  rw [endInjections, fold_endInjection_injs]
  refine List.filter_congr fun i hi => ?_
  have hmem : i.handle ∈ (sortBy Inj.handle (s.ev.injs.filter p)).map Inj.handle ↔ p i = true := by
    simp only [List.mem_map, mem_sortBy_iff, List.mem_filter]
    constructor
    · rintro ⟨j, ⟨-, hj⟩, hji⟩
      rw [← hp j i hji, hj]
    · exact fun hpi => ⟨i, ⟨hi, hpi⟩, rfl⟩
  cases h : p i <;> simp_all

theorem probeAll_sub (rs : List DetRow) (s : State) : ∀ id ∈ (probeAll rs s).1, id ∈ rs.map DetRow.id := by
  induction rs generalizing s with
  | nil => exact fun _ h => h
  | cons r rs ih =>
    intro id hid
    simp only [probeAll] at hid
    split at hid
    · rcases List.mem_cons.mp hid with rfl | hid
      · exact List.mem_cons_self
      · exact List.mem_cons_of_mem _ (ih _ id hid)
    · exact List.mem_cons_of_mem _ (ih _ id hid)

/-- Settles O28: a bank by its power request, MAP_FLUSH by what waits, EV_CLEAR by what it moves, injections and probes by their lists. -/
theorem storageAndEventCommandsAct : Obligations.StorageAndEventCommandsAct := by
  refine ⟨fun r c s => ⟨fun h hlen hb hlo hhi hres hlt => ⟨fun hmay => ?_, fun hmay => ?_⟩, fun h hp => ⟨fun h0 => ?_, fun h0 => ?_⟩⟩,
    fun r c s => ⟨fun fixed h hlen harea hres hfix hsnap => ?_, fun h hlen hres hwhich => ?_, fun h hlen hres hserv hps hrest => ?_⟩⟩
  · have hres' := bankPower_result (if rdN c.payload 1 1 = 1 then BankSt.on else if rdN c.payload 1 1 = 2 then BankSt.ret else BankSt.off) hlt
    refine ⟨_, congrArg Host.Outcome.next (hostCommand_guarded h rfl ?_ ?_), hres'.reached, hres'.refused, hres'.others, frame_bankPower _ _ s,
      hres'.lost, hres'.kept⟩
    · simp [hlen, hres]
      omega
    · rw [if_neg (by rw [Bool.not_eq_true', ← Bool.not_eq_true, bankSwitchable_iff]; exact not_not.mpr hmay)]
  · refine congrArg Host.Outcome.next (hostCommand_guarded h rfl ?_ ?_)
    · simp [hlen, hres]
      omega
    · rw [if_pos (by rw [Bool.not_eq_true', ← Bool.not_eq_true, bankSwitchable_iff]; exact hmay)]
  · refine congrArg Host.Outcome.next (hostCommand_empty h hp ?_)
    rw [if_pos h0]
  · have hbody : bodyMapFlush c s = (if someoneWaits (fun w => w == .mapFlush) s then s else updMc (fun m => { m with flushed := 0 }) s, .wait .mapFlush) := by
      rw [bodyMapFlush, emptyPayload_eq, if_pos hp, if_neg h0]
      split <;> rfl
    obtain ⟨t, hexec, hframe, hwait⟩ := hostCommand_waits_kept h hbody
    have hmc : t.mc = (if someoneWaits (fun w => w == .mapFlush) s then s else updMc (fun m => { m with flushed := 0 }) s).mc :=
      hframe .mc (by decide)
    refine ⟨t, congrArg Host.Outcome.next hexec, hwait.trans ?_, onlyIn_step hframe rfl (onlyIn_ite (onlyIn_refl _ s) (onlyIn_mono (frame_updMc _ s) rfl)),
      fun hn => ?_⟩
    · split <;> rfl
    · rw [hmc, if_neg (by simp [hn])]
      rfl
  · obtain ⟨-, hleft, hother, harch, hpriv⟩ := evCleared_ev fixed
      (fun r => decide (r.rseq ≤ rdN c.payload 4 4) && (rdN c.payload 1 1 == 255 || rdN c.payload 1 1 == r.code / 256) && !r.retained) s
    refine ⟨evCleared fixed _ s, congrArg Host.Outcome.next (hostCommand_answers h (bodyEvClear_eq fixed hlen harea hres hfix hsnap _ rfl)), hleft,
      hother, fun x hx => ?_, fun x hx => ?_, fun x hx => ?_, frame_evCleared _ _ s⟩
    · rw [harch]
      exact List.mem_append_left _ hx
    · rw [hpriv]
      exact List.mem_append_left _ hx
    · rw [harch, hpriv]
      split
      · next hf => exact List.mem_append_right _ (List.mem_filter.mpr ⟨hx, hf⟩)
      · next hf => exact List.mem_append_right _ (List.mem_filter.mpr ⟨hx, by simpa using hf⟩)
  · refine ⟨endInjections (fun i => rdN c.payload 0 1 == 255 || i.handle == rdN c.payload 0 1) s,
      congrArg Host.Outcome.next (hostCommand_guarded h rfl ?_ rfl), endInjections_injs (fun i j hij => by rw [hij]) s, frame_endInjections _ s⟩
    simp [hlen, hres]
    omega
  · refine ⟨_, (probeAll (probes s (rdN c.payload 0 1)) s).1, congrArg Host.Outcome.next (hostCommand_guarded h rfl ?_ ?_), probeAll_sub _ s,
      onlyIn_fold (x := updEv (fun e => { e with
          probed := (probes s (rdN c.payload 0 1)).length, probeFailed := (probeAll (probes s (rdN c.payload 0 1)) s).1.length })
          (probeAll (probes s (rdN c.payload 0 1)) s).2) (fun st id => happen detSelfTestDetectorFailure 0 id st)
        (probeAll (probes s (rdN c.payload 0 1)) s).1 (fun st id => onlyIn_mono (frame_happen _ _ _ st) rfl)
        (onlyIn_step (frame_updEv _ _) rfl (onlyIn_mono (frame_probeAll _ s) rfl))⟩
    · simp [hlen, hres]
    · rw [if_neg (by simp [hserv, hps, hrest])]
      rfl

end Sys2Proof.Proofs
end

section
/-!
PROOFS. UPDATE_BEGIN: the table of refusals, the judgement of the manifest, and what takes it up (R345, R346).
-/

namespace Sys2Proof.Proofs

open Sys2Proof.Machine Sys2Proof.Safety

/-- A judgement without an objection changes nothing. -/
theorem checkManifest_accepts {b : Bytes} {s : State} {m : Manifest} (h : (checkManifest b s).2 = .inl m) : checkManifest b s = (s, .inl m) := by
  unfold checkManifest at *
  split at h
  · cases h
  · split at h <;> cases h
    rfl

section

variable {c : Ctx} {s : State} (hlen : 5 ≤ c.payload.length) (hraw : (c.payload.drop 4).length ≤ 6560) (hsup : rdN c.payload 0 1 ≤ 1)
  (hres : resZero c.payload 1 3 = true)

include hlen hraw hsup hres

/-- The payload of UPDATE_BEGIN is in order. -/
theorem updateBegin_payload :
    (decide (c.payload.length < 5) || decide (1 < rdN c.payload 0 1) || !resZero c.payload 1 3 || decide (6560 < (c.payload.drop 4).length)) =
      false := by
  simp only [hres, Bool.or_eq_false_iff, decide_eq_false_iff_not, not_lt, Bool.not_true]
  exact ⟨⟨⟨hlen, hsup⟩, trivial⟩, hraw⟩

theorem bodyUpdateBegin_barred {k : Nat} (hb : beginBarred c.role s = some k) :
    bodyUpdateBegin c s = ans (happen detUpdateRefused 0 k s) stRefusedState := by
  simp only [bodyUpdateBegin, updateBegin_payload hlen hraw hsup hres, hb, Bool.false_eq_true, if_false]

theorem bodyUpdateBegin_fails {k : Nat} (hb : beginBarred c.role s = none) (hk : (checkManifest (c.payload.drop 4) s).2 = .inr k) :
    bodyUpdateBegin c s =
      ans (checkManifest (c.payload.drop 4) s).1 stValidationFail (beginReply (rdN (c.payload.drop 4) 8 8) 0 k 0) := by
  simp only [bodyUpdateBegin, updateBegin_payload hlen hraw hsup hres, hb, hk, Bool.false_eq_true, if_false]

theorem bodyUpdateBegin_busy {m : Manifest} {x : Camp} (hb : beginBarred c.role s = none)
    (hm : (checkManifest (c.payload.drop 4) s).2 = .inl m) (hx : x ∈ claimants s m) (hd : rdN c.payload 0 1 = 0) (hst : x.st = .staging) :
    bodyUpdateBegin c s = ans s stBusy := by
  have hany : (claimants s m).any (fun y => y.st == .staging) = true := List.any_eq_true.mpr ⟨x, hx, by simp [hst]⟩
  simp only [bodyUpdateBegin, updateBegin_payload hlen hraw hsup hres, hb, checkManifest_accepts hm, Bool.false_eq_true, if_false]
  simp only [hany, hd, decide_true, Bool.and_self, if_true]

theorem bodyUpdateBegin_takes {m : Manifest} (hb : beginBarred c.role s = none) (hm : (checkManifest (c.payload.drop 4) s).2 = .inl m)
    (hfree : claimants s m = []) :
    ∃ mask, bodyUpdateBegin c s =
      ans (takeManifest m true c.session (myNode s) (myNode s) s) stOk (beginReply m.id mask 0 m.mods.length) := by
  simp only [bodyUpdateBegin, updateBegin_payload hlen hraw hsup hres, hb, checkManifest_accepts hm, hfree, List.any_nil, List.isEmpty_nil,
    List.foldl_nil, Bool.false_eq_true, if_false, Bool.and_false, Bool.not_true, Bool.or_self]
  split
  · exact ⟨_, rfl⟩
  · exact ⟨_, rfl⟩

end

/-- Settles O29: the four outcomes of UPDATE_BEGIN, with the parts that it may change. -/
theorem updateBeginTakesManifest : Obligations.UpdateBeginTakesManifest := by
  intro r c s p raw known h hlen hraw hsup hres
  refine ⟨_, rfl, frame_execUpdateBegin r s _ rfl, fun k hb => ?_, fun hb => ⟨fun k hk => ?_, fun m hm => ?_⟩⟩
  · exact hostCommand_answers h (bodyUpdateBegin_barred hlen hraw hsup hres hb)
  · exact hostCommand_answers h (bodyUpdateBegin_fails hlen hraw hsup hres hb hk)
  · refine ⟨congrArg Prod.fst (checkManifest_accepts hm), fun x hx hd hst => ?_, fun hfree => ?_⟩
    · exact hostCommand_answers h (bodyUpdateBegin_busy hlen hraw hsup hres hb hm hx hd hst)
    · obtain ⟨mask, hbody⟩ := bodyUpdateBegin_takes hlen hraw hsup hres hb hm hfree
      exact ⟨_, mask, hostCommand_answers h hbody, rfl⟩

end Sys2Proof.Proofs
end

section
/-!
PROOFS. What the assertion of a reset source leaves of the reset and lifecycle part (R365, R366, R369).
-/

namespace Sys2Proof.Proofs

open Sys2Proof.Machine Sys2Proof.Safety

theorem supervisorDown_rs (s : State) : (supervisorDown s).rs = { s.rs with supUp := false, request := none } := by
  have hkept : onlyIn [.mb, .pf, .ev, .qz, .cf, .gn, .cn, .up, .out, .free] s
      (cropRestart (gnssStop (quartzStop (canDown (optStop false (saveInterrupt (updateInterrupt (sessionsGone s)))))))) :=
    onlyIn_step (frame_cropRestart _) rfl (onlyIn_step (frame_gnssStop _) rfl (onlyIn_step (frame_quartzStop _) rfl
      (onlyIn_step (frame_canDown _) rfl (onlyIn_step (frame_optStop _ _) rfl (onlyIn_step (frame_saveInterrupt _) rfl
        (onlyIn_step (frame_updateInterrupt _) rfl (onlyIn_mono (frame_sessionsGone s) rfl)))))))
  have hrs : _ = s.rs := hkept .rs (by decide)
  simp only [supervisorDown, updRs_rs, hrs]

/-- Putting domains into a state leaves every part but the supplies. -/
theorem setDoms_kept (f : Nat → Nat) (st : DomSt) (ds : List Nat) (s : State) :
    onlyIn [.pw] s (ds.foldl (fun x d => setDom (f d) st x) s) :=
  onlyIn_fold _ _ (fun x d => frame_setDom (f d) st x) (onlyIn_refl _ _)

theorem systemDown_rs (us : Nat) (s : State) :
    (systemDown us s).rs = { s.rs with supUp := false, request := none, rstout := false, map := 0, restart := false } := by
  unfold systemDown
  extract_lets s1 s2 s3 s4
  have h1 : s1.rs = (supervisorDown s).rs :=
    (frame_settleWrites _ _ .rs (by decide)).trans (frame_exchangeGone _ .rs (by decide))
  have h2 : s2.rs = s1.rs :=
    (frame_lsReset _ .rs (by decide)).trans ((frame_vdReset _ .rs (by decide)).trans (frame_panelLose _ _ .rs (by decide)))
  have h3 : s3.rs = s2.rs :=
    (frame_mapLose _ .rs (by decide)).trans ((frame_fabricDown _ .rs (by decide)).trans (frame_quartzRestore _ .rs (by decide)))
  have h4 : s4.rs = s3.rs := (frame_supApply _ .rs (by decide)).trans (setDoms_kept _ _ _ _ .rs (by decide))
  show { s4.rs with rstout := false, map := 0, restart := false } = _
  rw [h4, h3, h2, h1, supervisorDown_rs]

theorem computeDown_rs (s : State) :
    (computeDown s).rs = { s.rs with
      supUp := false, request := none
      rstout := if paramN s pRsRstoutL2 = 1 then false else s.rs.rstout } := by
  have hkept : ([4, 5, 6, 7].foldl (fun st d => setDom d .reset st) (fabricRestart (timeL2 (supervisorDown s)))).rs = (supervisorDown s).rs :=
    (setDoms_kept id .reset _ _ .rs (by decide))
  simp only [computeDown, updRs_rs, hkept, supervisorDown_rs]

/-- What source `src` at level `lvl` makes of the part `r`, but for the option load's counter and map, the pin RSTOUT and the boot's own counts. -/
def assertedRs (src lvl load map failed : Nat) (out wiped restart counted : Bool) (r : ResetLife) : ResetLife :=
  { r with
    supUp := false, request := none, loadCount := load, map, failed, rstout := out, wiped, restart, counted
    asserted := (r.asserted.filter (fun a => a.1 != src)) ++ [(src, lvl)]
    episode := match r.episode with
      | none => some (lvl, 2 ^ src)
      | some e => some (min lvl e.1, maskOr e.2 (2 ^ src))
    stage := stageAfter r.stage lvl }

theorem assertSource_rs (src lvl us : Nat) (s : State) :
    ∃ load map failed out wiped restart counted,
      (assertSource src lvl us s).rs = assertedRs src lvl load map failed out wiped restart counted s.rs := by
  unfold assertSource
  extract_lets first s1 loading s2 ran counts s3
  have h1 : s1.rs = s.rs := by
    dsimp only [s1]
    split
    · split
      · rfl
      · exact frame_happen _ _ _ _ .rs (by decide)
    · rfl
  have h2 : ∃ load, s2.rs = { s.rs with loadCount := load } := by
    dsimp only [s2]
    split
    · exact ⟨_, (frame_happen _ _ _ _ .rs (by decide)).trans (by rw [updRs_rs, h1])⟩
    · split
      · exact ⟨_, by rw [updRs_rs, h1]⟩
      · exact ⟨_, h1⟩
  obtain ⟨load, h2⟩ := h2
  have h3 : ∃ map out restart, s3.rs = { s.rs with loadCount := load, supUp := false, request := none, map := map, rstout := out, restart := restart } := by
    dsimp only [s3]
    split
    · exact ⟨_, _, _, by rw [systemDown_rs, h2]⟩
    · exact ⟨_, _, _, by rw [computeDown_rs, h2]⟩
  obtain ⟨map, out, restart, h3⟩ := h3
  have h4 : (if (counts && !s.rs.counted) = true then happen detBootFailure 0 0 s3 else s3).rs = s3.rs := by
    split
    · exact frame_happen _ _ _ _ .rs (by decide)
    · rfl
  rw [updRs_rs, h4, h3]
  exact ⟨load, map, _, out, _, _, _, rfl⟩

end Sys2Proof.Proofs
end

section
/-!
PROOFS. Chapters 14 to 16, the mailbox commands of lifecycle, keys, owner lock, resets, power and the panel.
-/

namespace Sys2Proof.Proofs

open Sys2Proof.Machine Sys2Proof.Safety

/-- A command that has sent its answer itself leaves the state of its body. -/
theorem hostCommand_sent {code : Nat} {body : Body} {r : Req} {c : Ctx} {s t : State} (h : reaches code r c s = true)
    (hb : body c s = (t, .sent)) : hostCommand code body r s = t := by
  rw [hostCommand_reaches body h, hb]
  rfl

/-! ### LIFECYCLE_SET TRANSITION (R380, R381) -/

theorem inTable_iff {old new : Nat} : inTable old new = true ↔
    old = 1 ∧ new = 2 ∨ old = 2 ∧ new = 3 ∨ old = 3 ∧ new = 4 ∨ old = 4 ∧ new = 3 ∨ (old = 2 ∨ old = 3 ∨ old = 4) ∧ new = 5 := by
  simp only [inTable, Bool.or_eq_true, Bool.and_eq_true, beq_iff_eq, or_assoc]

theorem wipes_entries (old new : Nat) (s : State) : (wipes old new s).rs.entries = s.rs.entries := by
  unfold wipes
  split
  · have h : onlyIn [.gr, .cf, .ev, .mc] s (wipeCapture (wipeMap (wipeEvents (updMc (fun c => { c with telemetry := 0 }) s)))) :=
      onlyIn_step (frame_wipeCapture _) rfl (onlyIn_step (frame_wipeMap _) rfl (onlyIn_step (frame_wipeEvents _) rfl
        (onlyIn_mono (frame_updMc _ s) rfl)))
    exact congrArg ResetLife.entries (h .rs (by decide))
  · split
    · have h : onlyIn [.gr, .qz, .ev, .mc] s (ringEnter .free (ringZero (updCap (fun k => { k with st := .idle, data := [] })
          (endReplay 2 (endInjections (fun _ => true) (wipeCapture s)))))) :=
        onlyIn_step (frame_ringEnter _ _) rfl (onlyIn_step (frame_ringZero _) rfl (onlyIn_step (frame_updCap _ _) rfl
          (onlyIn_step (frame_endReplay _ _) rfl (onlyIn_step (frame_endInjections _ _) rfl (onlyIn_mono (frame_wipeCapture s) rfl)))))
      exact congrArg ResetLife.entries (h .rs (by decide))
    · split
      · have h (x : State) : onlyIn [.gr, .cf, .up] x (wipeImages (wipeCapture (wipeMap x))) :=
          onlyIn_step (frame_wipeImages _) rfl (onlyIn_step (frame_wipeCapture _) rfl (onlyIn_mono (frame_wipeMap x) rfl))
        exact (congrArg ResetLife.entries (h _ .rs (by decide))).trans rfl
      · rfl

/-- A transition that is carried out has its target as the state, no intent left, and an entry into SERVICE counted. -/
theorem finishTransition_rs (t : Intent) (s : State) :
    (finishTransition t s).rs.lifecycle = t.target ∧ (finishTransition t s).rs.intent = none ∧
      (finishTransition t s).rs.entries = (if t.target = 4 then s.rs.entries + 1 else s.rs.entries) := by
  unfold finishTransition
  extract_lets s1
  have hev (d : Nat) : (rawEvent evLifecycleChange 0 d s1).rs = s1.rs := frame_rawEvent _ _ _ _ .rs (by decide)
  obtain ⟨_, _, _, _, _, _, _, hrs⟩ := assertSource_rs 5 (sourceLevel s1 5 1) (usFrame s1)
    (rawEvent evLifecycleChange 0 (s.rs.lifecycle + 256 * t.target) s1)
  rw [hrs, hev]
  refine ⟨rfl, rfl, ?_⟩
  simp only [assertedRs, s1, commitLifecycle, updRs_rs, wipes_entries]

/-- The entry module's stagings are aborted, one after another. -/
theorem abortStagings_kept (l : List Camp) (s : State) :
    onlyIn [.mb, .pf, .ev, .fb, .mc, .up, .out] s (l.foldl (fun st x => (abortStaging x.man.id 9 st).1) s) :=
  onlyIn_fold _ _ (fun x c => frame_abortStaging c.man.id 9 x) (onlyIn_refl _ _)

/-- The state from which the steps of R381 go on: answered, every session closed, for RETIRED every staging aborted, and the intent written. -/
def transitionStart (c : Ctx) (s : State) : State :=
  let new := rdN c.payload 4 1
  let s1 := closeAll 4 (answer c stOk (u8 new ++ zeros 3) s)
  updRs (fun r => { r with intent := some ⟨new, rdN c.payload 8 4⟩ })
    (if new = 5 then
      (s1.up.camps.filter (fun x => x.st == .staging || x.st == .staged)).foldl (fun st x => (abortStaging x.man.id 9 st).1) s1
    else s1)

theorem transitionStart_kept (c : Ctx) (s : State) :
    (transitionStart c s).pending = s.pending ∧ (transitionStart c s).rs.entries = s.rs.entries := by
  unfold transitionStart
  extract_lets new s1
  have h1 : onlyIn [.mb, .pf, .ev, .out] s s1 := onlyIn_step (frame_closeAll _ _) rfl (onlyIn_mono (frame_answer _ _ _ s) rfl)
  have h2 : onlyIn [.mb, .pf, .ev, .fb, .mc, .up, .out] s (if new = 5 then
      (s1.up.camps.filter (fun x => x.st == .staging || x.st == .staged)).foldl (fun st x => (abortStaging x.man.id 9 st).1) s1
    else s1) :=
    onlyIn_ite (onlyIn_step (abortStagings_kept _ _) rfl (onlyIn_mono h1 rfl)) (onlyIn_mono h1 rfl)
  have hentries := congrArg ResetLife.entries (h2 .rs (by decide))
  exact ⟨h2 .pending (by decide), hentries⟩

section

variable {c : Ctx} {s : State} (hlen : c.payload.length = 18) (hop : rdN c.payload 0 1 = 1) (hres : resZero c.payload 1 3 = true)
  (hres' : resZero c.payload 5 3 = true) (htable : inTable s.rs.lifecycle (rdN c.payload 4 1) = true)
  (hmap : rdN c.payload 8 4 = 0 ∨ (s.rs.lifecycle = 2 ∧ rdN c.payload 4 1 = 3 ∧ rdN c.payload 8 4 < 4096))
  (huid : rdN c.payload 12 6 = if rdN c.payload 4 1 = 5 then uid else 0)

include hlen hop hres hres' htable hmap huid

/-- LIFECYCLE_SET TRANSITION with a payload in order: refused, or answered and then made. -/
theorem bodyLifecycleSetTransition_cases :
    (transitionMay c.role (rdN c.payload 4 1) s = false → bodyLifecycleSetTransition c s = ans s stRefusedState) ∧
    (transitionMay c.role (rdN c.payload 4 1) s = true →
      bodyLifecycleSetTransition c s = (finishTransition ⟨rdN c.payload 4 1, rdN c.payload 8 4⟩ (transitionStart c s), .sent)) := by
  have hbad : (decide (c.payload.length ≠ 18) || !resZero c.payload 1 3 || !resZero c.payload 5 3 || !inTable s.rs.lifecycle (rdN c.payload 4 1) ||
      (decide (rdN c.payload 8 4 ≠ 0) && !(s.rs.lifecycle == 2 && rdN c.payload 4 1 == 3)) || decide (4096 ≤ rdN c.payload 8 4) ||
      (decide (rdN c.payload 12 6 ≠ 0) && decide (rdN c.payload 4 1 ≠ 5))) = false := by
    have hmap' : ¬4096 ≤ rdN c.payload 8 4 := by omega
    have huid' : rdN c.payload 12 6 = 0 ∨ rdN c.payload 4 1 = 5 := by
      by_cases h5 : rdN c.payload 4 1 = 5
      · exact .inr h5
      · exact .inl (huid.trans (if_neg h5))
    simp only [hlen, hres, hres', htable, hmap', decide_false, ne_eq, not_true_eq_false, Bool.not_true, Bool.or_false, Bool.false_or,
      Bool.or_eq_false_iff, Bool.and_eq_false_iff, decide_eq_false_iff_not, not_not, Bool.not_eq_false', Bool.and_eq_true, beq_iff_eq]
    exact ⟨hmap.imp_right fun ⟨h2, h3, _⟩ => ⟨h2, h3⟩, huid'⟩
  have hu : ¬(rdN c.payload 4 1 = 5 ∧ rdN c.payload 12 6 ≠ uid) := fun ⟨h5, hne⟩ => hne (huid.trans (if_pos h5))
  rw [bodyLifecycleSetTransition, withOp_eq _ (by omega) hop]
  constructor
  · intro hmay
    simp only [hbad, hmay, Bool.false_eq_true, if_false, Bool.not_false, if_true]
  · intro hmay
    simp only [hbad, hmay, Bool.false_eq_true, if_false, Bool.not_true, Bool.and_eq_true, decide_eq_true_eq, hu]
    rfl

end

/-! ### Keys and owner lock (R379, R382) -/

/-- The state with the key of the payload provisioned for its role. -/
def roleKeyed (c : Ctx) (s : State) : State :=
  updRs (fun r => { r with
    keys := r.keys.set (rdN c.payload 4 1 - 1) (some (c.payload.drop 8)), oemOwn := r.oemOwn || rdN c.payload 4 1 == 2 }) s

theorem roleKey_eq {s : State} {role : Nat} (h : role ≠ 0) : roleKey s role = nth s.rs.keys (role - 1) none := if_neg h

theorem nth_set {α : Type} {l : List α} {i : Nat} {x : α} (d : α) (h : i < l.length) : nth (l.set i x) i d = x := by
  simp [nth, List.getD_eq_getElem?_getD, h]

section

variable {c : Ctx} {s : State} (hop : rdN c.payload 0 1 = 2) (hres : resZero c.payload 1 3 = true) (hres' : resZero c.payload 5 3 = true)
  (hmay : provisionMay c.role (rdN c.payload 4 1) s = true)

include hop hres hres' hmay

theorem bodyLifecycleSetProvisionKey_manifest (hkey : rdN c.payload 4 1 = 5) (hlen : c.payload.length = 104) :
    bodyLifecycleSetProvisionKey c s =
      ans { s with rs := { s.rs with manifestKey := some (c.payload.drop 8), manifestRevoked := false } } stOk (u8 s.rs.lifecycle ++ zeros 3) := by
  rw [hkey] at hmay
  rw [bodyLifecycleSetProvisionKey, withOp_eq _ (by omega) hop]
  simp [hlen, hres, hres', hkey, hmay, updRs]

/-- A role's new key; the sessions of the role are closed after the answer. -/
theorem bodyLifecycleSetProvisionKey_role (hlo : 1 ≤ rdN c.payload 4 1) (hhi : rdN c.payload 4 1 ≤ 4) (hlen : c.payload.length = 40) :
    bodyLifecycleSetProvisionKey c s =
      (closeRole (rdN c.payload 4 1) (answer c stOk (u8 s.rs.lifecycle ++ zeros 3) (roleKeyed c s)), .sent) := by
  have h0 : rdN c.payload 4 1 ≠ 0 := by omega
  have h5 : rdN c.payload 4 1 ≠ 5 := by omega
  have hlt : ¬5 < rdN c.payload 4 1 := by omega
  rw [bodyLifecycleSetProvisionKey, withOp_eq _ (by omega) hop]
  simp [hlen, hres, hres', hmay, h0, h5, hlt, roleKeyed]

end

/-- A command of OWNER_LOCK whose condition holds. -/
theorem hostCommand_lock {op : Nat} {may : State → Bool} {act : State → State} {r : Req} {c : Ctx} {s : State}
    (h : reaches cOwnerLock r c s = true) (hlen : c.payload.length = 4) (hres : resZero c.payload 1 3 = true) (hop : rdN c.payload 0 1 = op)
    (hmay : may s = true) :
    hostCommand cOwnerLock (lockRequest op may act) r s = answer c stOk (u8 (lockByte (act s)) ++ zeros 3) (act s) := by
  refine hostCommand_guardedOp h (by omega) hop rfl ?_ ?_
  · simp [hlen, hres]
  · rw [if_neg (by simp [hmay])]

section

variable {c : Ctx} {s : State} (hlen : c.payload.length = 8) (hop : rdN c.payload 0 1 = 3) (hres : resZero c.payload 1 3 = true)
  (hres' : resZero c.payload 5 3 = true)

include hlen hop hres hres'

theorem bodyLifecycleSetRevokeKey_manifest (hkey : rdN c.payload 4 1 = 5)
    (hmay : c.role = 2 ∧ s.rs.lifecycle = 2 ∨ c.role = 4 ∧ s.rs.lifecycle = 4) (hsome : s.rs.manifestKey.isSome = true) :
    bodyLifecycleSetRevokeKey c s =
      ans { s with rs := { s.rs with manifestRevoked := true } } stOk (u8 s.rs.lifecycle ++ zeros 3) := by
  rw [bodyLifecycleSetRevokeKey, withOp_eq _ (by omega) hop]
  simp [hlen, hres, hres', hkey, hmay, hsome, updRs]

theorem bodyLifecycleSetRevokeKey_folnimi (hlo : 16 ≤ rdN c.payload 4 1) (hhi : rdN c.payload 4 1 ≤ 19) (hrole : c.role = 4)
    (hlc : s.rs.lifecycle = 4) :
    bodyLifecycleSetRevokeKey c s =
      if maskOr s.rs.revoked (2 ^ (rdN c.payload 4 1 - 16)) = 15 then ans s stRefusedState
      else ans { s with rs := { s.rs with revoked := maskOr s.rs.revoked (2 ^ (rdN c.payload 4 1 - 16)) } } stOk (u8 s.rs.lifecycle ++ zeros 3) := by
  have h5 : rdN c.payload 4 1 ≠ 5 := by omega
  rw [bodyLifecycleSetRevokeKey, withOp_eq _ (by omega) hop]
  by_cases hall : maskOr s.rs.revoked (2 ^ (rdN c.payload 4 1 - 16)) = 15
  · simp [hlen, hres, hres', h5, hlo, hhi, hall]
  · simp [hlen, hres, hres', h5, hlo, hhi, hrole, hlc, hall, updRs]

end

/-! ### DOMAIN_STATE (R404) -/

theorem supApply_doms (s : State) : (supApply s).pw.doms = s.pw.doms := by
  unfold supApply
  generalize List.range 6 = l
  induction l generalizing s with
  | nil => rfl
  | cons k l ih =>
    rw [List.foldl_cons, ih]
    split
    · split <;> rfl
    · exact (congrArg Power.doms (frame_detect _ _ _ _ _ .pw (by decide))).trans rfl

/-- A domain that goes SERVICE_OFF is in that state. -/
theorem domOf_domainOff {d : Nat} {s : State} (hd : d < s.pw.doms.length) : domOf (domainOff d s) d = .serviceOff := by
  unfold domainOff
  extract_lets s1
  have h1 : s1.pw = s.pw := by
    dsimp only [s1]
    split
    · exact frame_quartzStop _ .pw (by decide)
    · exact (frame_updGn _ _ .pw (by decide)).trans (frame_gnssStop _ .pw (by decide))
    · exact frame_panelLose _ _ .pw (by decide)
    · rfl
  rw [domOf, supApply_doms]
  simp only [setDom, updPw_pw, h1]
  rw [nth_updAt _ _ _ _ _ hd, if_pos rfl]

/-! ### SP_WRITE (R409, R416) -/

/-- The panel with the target that SP_WRITE gives, by the mask at byte 6, and with the refresh that it may ask for. -/
def panelTold (p : Bytes) (q : Panel) : Panel :=
  { q with
    target := maskOf 48 (fun n => if bit (rdN p 6 6) n then bit (rdN p 0 6) n else bit q.target n)
    refresh := q.refresh || rdN p 12 1 == 1 }

/-- Whether the panel has an update to make. -/
def panelDue (q : Panel) : Bool := q.refresh || panelDiffers q || q.running.isSome

theorem hostCommand_spWrite {r : Req} {c : Ctx} {s : State} {t : State} {out : Bytes} (h : reaches cSpWrite r c s = true)
    (hlen : c.payload.length = 16) (href : rdN c.payload 12 1 ≤ 1) (hres : resZero c.payload 13 3 = true) (hst : s.sp.st ≠ .fault)
    (hact : (match s.sp.waiting with
      | some n => ans { s with sp := panelTold c.payload s.sp } stOk (u32 n ++ u8 1 ++ zeros 3)
      | none =>
        if panelDue (panelTold c.payload s.sp) then
          ans { s with sp := { panelTold c.payload s.sp with
              seq := (s.sp.seq + 1) % 2 ^ 32, waiting := some ((s.sp.seq + 1) % 2 ^ 32), after := s.clk.frame } } stOk
            (u32 ((s.sp.seq + 1) % 2 ^ 32) ++ u8 0 ++ zeros 3)
        else ans { s with sp := panelTold c.payload s.sp } stOk (u32 s.sp.seq ++ u8 0 ++ zeros 3)) = ans t stOk out) :
    hostCommand cSpWrite bodySpWrite r s = answer c stOk out t := by
  have hbit : bit (rdN c.payload 12 1) 0 = (rdN c.payload 12 1 == 1) := (bit0_of_le_one href).trans (beq_eq_decide _ _).symm
  refine hostCommand_guarded h rfl ?_ (((if_neg hst).trans ?_).trans hact)
  · simp [hlen, hres]
    omega
  · rw [hbit, reaches_arrival h]
    rfl

/-- Settles O31, command by command. -/
theorem lifecycleAndPowerCommandsAct : Obligations.LifecycleAndPowerCommandsAct := by
  refine ⟨fun r c s => ⟨fun h hp => ?_, fun h hlen hop hres hres' htable hmap huid => ?_, fun h hop hres hres' hmay => ⟨?_, ?_⟩,
      fun h hlen hop hres hres' => ⟨?_, ?_⟩, fun h hlen hres => ⟨?_, ?_, ?_⟩⟩,
    fun r c s => ⟨fun h hlen hlvl hres hunit hstate => ?_, fun h hp => ?_, fun h hlen hres hd hserv hps hstat hlt => ⟨?_, ?_⟩,
      fun target h hlen href hres hst htarget => ⟨?_, ?_, ?_⟩, fun h hp => ?_⟩⟩
  case refine_1 => exact congrArg Host.Outcome.next (hostCommand_empty h hp rfl)
  case refine_2 =>
    obtain ⟨hno, hyes⟩ := bodyLifecycleSetTransition_cases hlen hop hres hres' (inTable_iff.mpr htable) hmap huid
    refine ⟨fun hmay => congrArg Host.Outcome.next (hostCommand_answers h (hno hmay)), fun hmay => ⟨_, rfl, ?_⟩⟩
    rw [hostCommand_sent h (hyes hmay)]
    obtain ⟨hpend, hent⟩ := transitionStart_kept c s
    obtain ⟨hlc, hint, hentries⟩ := finishTransition_rs ⟨rdN c.payload 4 1, rdN c.payload 8 4⟩ (transitionStart c s)
    exact ⟨hlc, hint, (frame_finishTransition _ _ .pending (by decide)).trans hpend, hentries.trans (by rw [hent])⟩
  case refine_3 =>
    exact fun hkey hlen => congrArg Host.Outcome.next
      (hostCommand_answers h (bodyLifecycleSetProvisionKey_manifest hop hres hres' hmay hkey hlen))
  case refine_4 =>
    intro hlo hhi hlen hkeys
    refine ⟨_, rfl, ?_⟩
    rw [hostCommand_sent h (bodyLifecycleSetProvisionKey_role hop hres hres' hmay hlo hhi hlen)]
    have hclosed : onlyIn [.mb, .pf, .ev, .out] (roleKeyed c s)
        (closeRole (rdN c.payload 4 1) (answer c stOk (u8 s.rs.lifecycle ++ zeros 3) (roleKeyed c s))) :=
      onlyIn_step (frame_closeRole _ _) rfl (onlyIn_mono (frame_answer _ _ _ _) rfl)
    have hrs := hclosed .rs (by decide)
    refine ⟨?_, hrs, onlyIn_step hclosed rfl (onlyIn_mono (frame_updRs _ s) rfl)⟩
    rw [roleKey_eq (by omega), hrs]
    exact nth_set _ (by omega)
  case refine_5 =>
    exact fun hkey hmay hsome => congrArg Host.Outcome.next
      (hostCommand_answers h (bodyLifecycleSetRevokeKey_manifest hlen hop hres hres' hkey hmay hsome))
  case refine_6 =>
    intro hlo hhi hrole hlc bits
    refine congrArg Host.Outcome.next ?_
    have hbody := bodyLifecycleSetRevokeKey_folnimi hlen hop hres hres' hlo hhi hrole hlc
    split
    · next hall => exact hostCommand_answers h (hbody.trans (if_pos hall))
    · next hall => exact hostCommand_answers h (hbody.trans (if_neg hall))
  case refine_7 =>
    intro hop hlc
    have hend : onlyIn [.mb, .pf, .ev, .out] _ (endOemInjections (rawEvent evOwnerLockSetOrCleared 0 1 (updRs (fun r => { r with ownerLock := true }) s))) :=
      onlyIn_step (frame_endOemInjections _) rfl (frame_rawEvent _ _ _ _)
    have hrs : _ = { s.rs with ownerLock := true } := hend .rs (by decide)
    refine ⟨_, ?_, hrs, onlyIn_step hend rfl (onlyIn_mono (frame_updRs _ s) rfl)⟩
    refine congrArg Host.Outcome.next ((hostCommand_lock h hlen hres hop (by simp [hlc])).trans ?_)
    rw [lockByte, hrs]
    rfl
  case refine_8 =>
    intro hop hlc
    have hend := frame_rawEvent evOwnerLockSetOrCleared 0 0 (updRs (fun r => { r with ownerLock := false }) s)
    have hrs : _ = { s.rs with ownerLock := false } := hend .rs (by decide)
    refine ⟨_, ?_, hrs, onlyIn_step hend rfl (onlyIn_mono (frame_updRs _ s) rfl)⟩
    refine congrArg Host.Outcome.next ((hostCommand_lock h hlen hres hop (by simpa using hlc)).trans ?_)
    rw [lockByte, hrs]
    congr 3
    exact Nat.zero_add _
  case refine_9 =>
    intro hop hlc hlock
    refine congrArg Host.Outcome.next ((hostCommand_lock h hlen hres hop (by simp [hlc, hlock])).trans ?_)
    have hbyte : lockByte (updRs (fun r => { r with permit := some s.clk.ms }) s) = 3 := by simp [lockByte, hlock, b2n]
    rw [hbyte]
    rfl
  case refine_10 =>
    intro applied
    refine congrArg Host.Outcome.next (hostCommand_guarded h rfl ?_ ?_)
    · simp [hlen, hres]
      omega
    · refine (if_neg ?_).trans rfl
      have hlane : ¬(rdN c.payload 0 1 = 3 ∧ rdN c.payload 1 1 ≤ 3 ∧ s.gr.mode ≠ .triple) := by
        rintro ⟨h3, hu, hmode⟩
        rcases hunit with ⟨-, -, -, htriple⟩ | ⟨hne, -⟩
        · exact hmode (htriple hu)
        · exact hne h3
      rcases hstate with hserv | hrec | ⟨h0, hmov⟩
      · simpa [hserv] using hlane
      · simpa [hrec] using hlane
      · simpa [h0, hmov] using hlane
  case refine_11 => exact congrArg Host.Outcome.next (hostCommand_empty h hp rfl)
  case refine_12 =>
    intro hop hon
    refine congrArg Host.Outcome.next (hostCommand_guarded h rfl ?_ ?_)
    · simp only [List.mem_cons, List.not_mem_nil, or_false] at hd
      simp [hlen, hres, hop]
      omega
    · simp [hserv, hps, hstat, hop, hon]
  case refine_13 =>
    intro hop hon
    refine ⟨domainOff (rdN c.payload 0 1) s, congrArg Host.Outcome.next (hostCommand_guarded h rfl ?_ ?_), domOf_domainOff hlt,
      onlyIn_mono (frame_domainOff _ s) rfl⟩
    · simp only [List.mem_cons, List.not_mem_nil, or_false] at hd
      simp [hlen, hres, hop]
      omega
    · simp [hserv, hps, hstat, hop, hon, domOf_domainOff hlt]
  case refine_14 =>
    intro n hwait
    subst htarget
    exact congrArg Host.Outcome.next (hostCommand_spWrite h hlen href hres hst (by rw [hwait]; rfl))
  case refine_15 =>
    intro hwait hdue
    subst htarget
    exact congrArg Host.Outcome.next (hostCommand_spWrite h hlen href hres hst (by rw [hwait]; exact (if_neg (ne_true_of_eq_false hdue)).trans rfl))
  case refine_16 =>
    intro hwait hdue
    subst htarget
    exact congrArg Host.Outcome.next (hostCommand_spWrite h hlen href hres hst (by rw [hwait]; exact (if_pos hdue).trans rfl))
  case refine_17 => exact congrArg Host.Outcome.next (hostCommand_empty h hp rfl)

end Sys2Proof.Proofs
end

section
/-!
PROOFS. What telling leaves alone: the recorder's queues, notifications and the closing of a session change only sessions, waiting commands,
the staging of a session, and the recorder's queues, records and injections.
-/

namespace Sys2Proof.Proofs

open Sys2Proof.Machine Sys2Proof.Safety

/-- What names a session and its peer. -/
def sessKey (x : Sess) : Nat × Binding := (x.num, x.binding)

/-- `t` is `s` after telling: an occurrence queued, a notification sent, a session closed. -/
structure Told (s t : State) : Prop where
  frame : onlyIn tells s t
  mail : t.mb = { s.mb with sessions := t.mb.sessions, waiting := t.mb.waiting }
  profile : t.pf = { s.pf with staging := t.pf.staging }
  events : t.ev = { s.ev with
    fixed := t.ev.fixed, snaps := t.ev.snaps, fixq := t.ev.fixq, snapq := t.ev.snapq
    drops := t.ev.drops, present := t.ev.present, injs := t.ev.injs }
  sessions : (t.mb.sessions.map sessKey).Sublist (s.mb.sessions.map sessKey)
  waiting : t.mb.waiting.Sublist s.mb.waiting
  noStaging : s.pf.staging = none → t.pf.staging = none
  injs : (t.ev.injs.map Inj.handle).Sublist (s.ev.injs.map Inj.handle)
  fixed : t.ev.fixed.map EvRec.rseq = s.ev.fixed.map EvRec.rseq
  snaps : t.ev.snaps.map EvRec.rseq = s.ev.snaps.map EvRec.rseq
  out : s.out <+: t.out

theorem Told.refl (s : State) : Told s s :=
  ⟨onlyIn_refl _ _, rfl, rfl, rfl, .refl _, .refl _, id, .refl _, rfl, rfl, List.prefix_refl _⟩

theorem Told.trans {s t u : State} (h : Told s t) (h' : Told t u) : Told s u where
  frame := onlyIn_step h'.frame rfl h.frame
  mail := by rw [h'.mail, h.mail]
  profile := by rw [h'.profile, h.profile]
  events := by rw [h'.events, h.events]
  sessions := h'.sessions.trans h.sessions
  waiting := h'.waiting.trans h.waiting
  noStaging := h'.noStaging ∘ h.noStaging
  injs := h'.injs.trans h.injs
  fixed := h'.fixed.trans h.fixed
  snaps := h'.snaps.trans h.snaps
  out := h.out.trans h'.out

/-- The same, from the last change backwards, as a state is written. -/
theorem told_step {s t u : State} (h' : Told t u) (h : Told s t) : Told s u := h.trans h'

theorem told_foldl {α : Type} {f : State → α → State} (hf : ∀ x a, Told x (f x a)) (l : List α) (s : State) : Told s (l.foldl f s) := by
  induction l generalizing s with
  | nil => exact .refl s
  | cons a l ih => exact (hf s a).trans (ih _)

theorem told_ite {c : Prop} [Decidable c] {s a b : State} (ha : Told s a) (hb : Told s b) : Told s (if c then a else b) := by
  split
  · exact ha
  · exact hb

/-- `t` is `s` after telling, and no lasting condition has begun or ended. -/
structure Said (s t : State) : Prop extends Told s t where
  present : t.ev.present = s.ev.present

theorem Said.refl (s : State) : Said s s := ⟨.refl s, rfl⟩

theorem Said.trans {s t u : State} (h : Said s t) (h' : Said t u) : Said s u := ⟨h.toTold.trans h'.toTold, h'.present.trans h.present⟩

theorem said_foldl {α : Type} {f : State → α → State} (hf : ∀ x a, Said x (f x a)) (l : List α) (s : State) : Said s (l.foldl f s) := by
  induction l generalizing s with
  | nil => exact .refl s
  | cons a l ih => exact (hf s a).trans (ih _)

theorem said_ite {c : Prop} [Decidable c] {s a b : State} (ha : Said s a) (hb : Said s b) : Said s (if c then a else b) := by
  split
  · exact ha
  · exact hb

/-- A change of the recorder that keeps the records' numbers and adds no injection. -/
theorem told_put_ev {s : State} {e : Events}
    (h : e = { s.ev with fixed := e.fixed, snaps := e.snaps, fixq := e.fixq, snapq := e.snapq, drops := e.drops, present := e.present, injs := e.injs })
    (hi : (e.injs.map Inj.handle).Sublist (s.ev.injs.map Inj.handle)) (hf : e.fixed.map EvRec.rseq = s.ev.fixed.map EvRec.rseq)
    (hs : e.snaps.map EvRec.rseq = s.ev.snaps.map EvRec.rseq) : Told s { s with ev := e } :=
  ⟨onlyIn_mono (onlyIn_put_ev e s) rfl, rfl, rfl, h, .refl _, .refl _, id, hi, hf, hs, List.prefix_refl _⟩

/-- The same, with the conditions as they were. -/
theorem said_put_ev {s : State} {e : Events}
    (h : e = { s.ev with fixed := e.fixed, snaps := e.snaps, fixq := e.fixq, snapq := e.snapq, drops := e.drops, present := e.present, injs := e.injs })
    (hi : (e.injs.map Inj.handle).Sublist (s.ev.injs.map Inj.handle)) (hf : e.fixed.map EvRec.rseq = s.ev.fixed.map EvRec.rseq)
    (hs : e.snaps.map EvRec.rseq = s.ev.snaps.map EvRec.rseq) (hp : e.present = s.ev.present) : Said s { s with ev := e } :=
  ⟨told_put_ev h hi hf hs, hp⟩

theorem said_step {s t u : State} (h' : Said t u) (h : Said s t) : Said s u := h.trans h'

theorem said_updSess {num : Nat} {f : Sess → Sess} (hf : ∀ x, sessKey (f x) = sessKey x) (s : State) : Said s (updSess num f s) where
  frame := onlyIn_mono (frame_updSess num f s) rfl
  mail := rfl
  profile := rfl
  events := rfl
  sessions := by
    have hkey : (fun x => sessKey (if x.num = num then f x else x)) = sessKey := by
      funext x
      split
      · exact hf x
      · rfl
    simp only [updSess, List.map_map, Function.comp_def, hkey]
    exact .refl _
  waiting := .refl _
  noStaging := id
  injs := .refl _
  fixed := rfl
  snaps := rfl
  out := List.prefix_refl _
  present := rfl

theorem said_send (ms : List OutMsg) (s : State) : Said s (send ms s) :=
  ⟨⟨onlyIn_mono (frame_send ms s) rfl, rfl, rfl, rfl, .refl _, .refl _, id, .refl _, rfl, rfl, List.prefix_append _ _⟩, rfl⟩

theorem said_endInjection (h : Nat) (s : State) : Said s (endInjection h s) := by
  unfold endInjection
  split
  · exact .refl s
  · have hsub : ((s.ev.injs.filter (fun j => j.handle != h)).map Inj.handle).Sublist (s.ev.injs.map Inj.handle) := List.filter_sublist.map _
    exact said_ite (said_put_ev rfl hsub rfl rfl rfl) (said_put_ev rfl hsub rfl rfl rfl)

theorem said_endInjections (p : Inj → Bool) (s : State) : Said s (endInjections p s) := said_foldl (fun x h => said_endInjection h x) _ _

theorem said_dropSession (num : Nat) (s : State) : Said s (dropSession num s) := by
  refine .trans ?_ (said_endInjections _ _)
  exact ⟨⟨onlyIn_mono (onlyIn_put_mb_pf _ _ s) rfl, rfl, rfl, rfl, List.filter_sublist.map _, List.filter_sublist,
    fun h => by rw [h]; rfl, .refl _, rfl, rfl, List.prefix_refl _⟩, rfl⟩

theorem said_closeSession (num reason : Nat) (s : State) : Said s (closeSession num reason s) := by
  unfold closeSession
  split
  · exact .refl s
  · exact (said_ite (said_send _ _) (.refl s)).trans (said_dropSession _ _)

theorem said_sendNote (num code : Nat) (payload : Bytes) (s : State) : Said s (sendNote num code payload s) := by
  unfold sendNote
  split
  · exact .refl s
  · refine said_ite (said_ite ?_ ?_) ?_
    · exact (said_send _ _).trans ((said_updSess (fun _ => by rfl) _).trans (said_closeSession _ _ _))
    · exact (said_send _ _).trans (said_updSess (fun _ => by rfl) _)
    · exact (said_send _ _).trans (said_updSess (fun _ => by rfl) _)

theorem said_updSub (num code filter : Nat) (f : Sub → Sub) (s : State) : Said s (updSub num code filter f s) :=
  said_updSess (fun _ => by rfl) s

theorem said_flushSub (num code filter : Nat) (s : State) : Said s (flushSub num code filter s) := by
  unfold flushSub
  split
  · exact .refl s
  · exact (said_updSub _ _ _ _ _).trans (said_foldl (fun x p => said_sendNote _ _ _ x) _ _)

theorem said_offerSub (num : Nat) (b : Sub) (n : DueNote) (s : State) : Said s (offerSub num b n s) :=
  said_ite ((said_updSub _ _ _ _ _).trans (said_flushSub _ _ _ _)) (said_updSub _ _ _ _ _)

theorem said_notifyAll (code : Nat) (admits : Nat → Nat → Bool) (n : DueNote) (s : State) : Said s (notifyAll code admits n s) :=
  said_ite (said_foldl (fun x _ => said_foldl (fun y b => said_offerSub _ b n y) _ x) _ s) (.refl s)

theorem said_recChanged (rseq : Nat) (s : State) : Said s (recChanged rseq s) := by
  unfold recChanged
  split
  · exact said_notifyAll _ _ _ _
  · exact .refl s

theorem said_countInj (det inst : Nat) (s : State) : Said s (countInj det inst s) := by
  refine said_put_ev rfl ?_ rfl rfl rfl
  have hh : (fun i : Inj => (if (i.started && decide (i.det = det) && decide (i.inst = inst)) = true then { i with count := i.count + 1 } else i).handle) =
      Inj.handle := by
    funext i
    split <;> rfl
  simp only [List.map_map, Function.comp_def, hh]
  exact .refl _

theorem said_useOneShot (det inst : Nat) (s : State) : Said s (useOneShot det inst s) := by
  unfold useOneShot
  split
  · exact said_ite (said_endInjection _ _) (.refl s)
  · exact .refl s

theorem map_rseq_updRec {f : EvRec → EvRec} (hf : ∀ r, (f r).rseq = r.rseq) (q : Nat) (area : List EvRec) :
    (updRec q f area).map EvRec.rseq = area.map EvRec.rseq := by
  have hr : (fun r : EvRec => (if r.rseq = q then f r else r).rseq) = EvRec.rseq := by
    funext r
    split
    · exact hf r
    · rfl
  simp only [updRec, List.map_map, Function.comp_def, hr]

theorem said_queueOverflow (s : State) (o : Occ) : Said s (queueOverflow s o) := by
  unfold queueOverflow
  split
  · exact said_step (said_recChanged _ _) (said_put_ev rfl (.refl _) rfl (map_rseq_updRec (fun _ => by rfl) _ _) rfl)
  · exact said_ite (said_put_ev rfl (.refl _) rfl rfl rfl) (said_put_ev rfl (.refl _) rfl rfl rfl)

theorem said_enqueue (o : Occ) (s : State) : Said s (enqueue o s) :=
  said_ite (said_put_ev rfl (.refl _) rfl rfl rfl) (said_ite (said_put_ev rfl (.refl _) rfl rfl rfl)
    ((said_queueOverflow s o).trans ((said_countInj _ _ _).trans (said_useOneShot _ _ _))))

theorem said_rawEvent (code inst data : Nat) (s : State) : Said s (rawEvent code inst data s) := said_enqueue _ _

theorem said_raise (code inst data : Nat) (lasting : Bool) (s : State) : Said s (raise code inst data lasting s) :=
  (said_enqueue _ _).trans ((said_countInj _ _ _).trans (said_useOneShot _ _ _))

theorem said_happen (code inst data : Nat) (s : State) : Said s (happen code inst data s) := said_raise _ _ _ _ _

theorem said_happenMarked (code inst data : Nat) (mark : Bool) (s : State) : Said s (happenMarked code inst data mark s) :=
  (said_enqueue _ _).trans ((said_countInj _ _ _).trans (said_useOneShot _ _ _))

theorem told_recChanged (rseq : Nat) (s : State) : Told s (recChanged rseq s) := (said_recChanged rseq s).toTold

theorem told_rawEvent (code inst data : Nat) (s : State) : Told s (rawEvent code inst data s) := (said_rawEvent code inst data s).toTold

theorem told_raise (code inst data : Nat) (lasting : Bool) (s : State) : Told s (raise code inst data lasting s) :=
  (said_raise code inst data lasting s).toTold

theorem told_happen (code inst data : Nat) (s : State) : Told s (happen code inst data s) := (said_happen code inst data s).toTold

/-! ### Lasting conditions -/

theorem map_rseq_clearActiveIn (code inst : Nat) (area : List EvRec) : (clearActiveIn code inst area).map EvRec.rseq = area.map EvRec.rseq := by
  have hr : (fun r : EvRec => (if (decide (r.code = code) && decide (r.inst = inst) && r.active) = true then { r with active := false } else r).rseq) =
      EvRec.rseq := by
    funext r
    split <;> rfl
  simp only [clearActiveIn, List.map_map, Function.comp_def, hr]

theorem told_clearActive (code inst : Nat) (s : State) : Told s (clearActive code inst s) :=
  told_step (told_foldl (fun x q => told_recChanged q x) _ _)
    (told_put_ev rfl (.refl _) (map_rseq_clearActiveIn code inst _) (map_rseq_clearActiveIn code inst _))

theorem told_beginCond (code inst data : Nat) (s : State) : Told s (beginCond code inst data s) := by
  unfold beginCond
  extract_lets inj
  split
  · exact told_step (told_raise _ _ _ _ _) (told_put_ev rfl (.refl _) rfl rfl)
  · exact told_ite (told_step (told_raise _ _ _ _ _) (told_put_ev rfl (.refl _) rfl rfl)) (.refl s)

theorem told_detect (code inst : Nat) (cond : Bool) (data : Nat) (s : State) : Told s (detect code inst cond data s) :=
  told_ite (told_beginCond _ _ _ _) (told_ite (told_clearActive _ _ _) (.refl s))

/-! ### Which conditions last -/

theorem Said.isPresent {s t : State} (h : Said s t) (code inst : Nat) : isPresent t code inst = isPresent s code inst := by
  simp only [Machine.isPresent, h.present]

/-- The conditions of a state, as a change of their list leaves them. -/
theorem isPresent_append (ps : List (Nat × Nat × Bool)) (code inst code' inst' : Nat) (b : Bool) :
    (ps ++ [(code', inst', b)]).any (fun p => p.1 == code && p.2.1 == inst) =
      (ps.any (fun p => p.1 == code && p.2.1 == inst) || (code' == code && inst' == inst)) := by
  simp [List.any_append]

theorem isPresent_beginCond (code inst data : Nat) (s : State) (code' inst' : Nat) :
    isPresent (beginCond code inst data s) code' inst' = (isPresent s code' inst' || (code == code' && inst == inst')) := by
  unfold beginCond
  extract_lets inj
  split
  · rw [(said_raise _ _ _ _ _).isPresent]
    exact isPresent_append _ _ _ _ _ _
  · next p hp =>
    have hmem : (code == code' && inst == inst') = true → isPresent s code' inst' = true := by
      intro h
      simp only [Bool.and_eq_true, beq_iff_eq] at h
      obtain ⟨rfl, rfl⟩ := h
      exact List.any_eq_true.mpr ⟨p, List.mem_of_find?_eq_some hp, by simpa using List.find?_some hp⟩
    have hor : (isPresent s code' inst' || (code == code' && inst == inst')) = isPresent s code' inst' := by
      cases h : (code == code' && inst == inst') with
      | false => exact Bool.or_false _
      | true => rw [hmem h, Bool.or_true]
    rw [hor]
    split
    · rw [(said_raise _ _ _ _ _).isPresent]
      simp only [isPresent, List.any_map]
      refine congrArg₂ List.any rfl (funext fun q => ?_)
      simp only [Function.comp_apply]
      split
      · next hq =>
        simp only [Bool.and_eq_true, decide_eq_true_eq] at hq
        rw [hq.1, hq.2]
      · rfl
    · rfl

theorem isPresent_clearActive (code inst : Nat) (s : State) (code' inst' : Nat) :
    isPresent (clearActive code inst s) code' inst' = (isPresent s code' inst' && !(code == code' && inst == inst')) := by
  unfold clearActive
  rw [(said_foldl (fun x q => said_recChanged q x) _ _).isPresent]
  simp only [isPresent, List.any_filter]
  rw [Bool.eq_iff_iff]
  simp only [List.any_eq_true, Bool.and_eq_true, beq_iff_eq, Bool.not_eq_true', Bool.and_eq_false_iff, beq_eq_false_iff_ne]
  constructor
  · rintro ⟨p, hp, hne, h1, h2⟩
    exact ⟨⟨p, hp, h1, h2⟩, by rw [← h1, ← h2]; exact hne.imp Ne.symm Ne.symm⟩
  · rintro ⟨⟨p, hp, h1, h2⟩, hne⟩
    exact ⟨p, hp, by rw [h1, h2]; exact hne.imp Ne.symm Ne.symm, h1, h2⟩

/-- An evaluated condition is present just when it holds. -/
theorem isPresent_detect (code inst : Nat) (cond : Bool) (data : Nat) (s : State) : isPresent (detect code inst cond data s) code inst = cond := by
  unfold detect
  cases cond with
  | true => rw [if_pos rfl, isPresent_beginCond]; simp
  | false =>
    rw [if_neg Bool.false_ne_true]
    split
    · rw [isPresent_clearActive]; simp
    · next h => exact Bool.eq_false_of_not_eq_true h

end Sys2Proof.Proofs
end

section
/-!
PROOFS. The mailbox's own timers (R18, R24 to R28, R32, R35, R43, R48, R51).
-/

namespace Sys2Proof.Proofs

open Sys2Proof.Machine Sys2Proof.Safety

/-- A fold whose every step leaves the start as it is. -/
theorem foldl_same {α β : Type} {f : α → β → α} {a : α} {l : List β} (h : ∀ b ∈ l, f a b = a) : l.foldl f a = a := by
  induction l with
  | nil => rfl
  | cons b l ih => rw [List.foldl_cons, h b List.mem_cons_self, ih fun x hx => h x (List.mem_cons_of_mem _ hx)]

/-- A fold whose every step filters a list of the state filters it by all of them. -/
theorem foldl_filter {α β : Type} {proj : State → List α} {f : State → β → State} {keep : β → α → Bool}
    (hf : ∀ st x, proj (f st x) = (proj st).filter (keep x)) (l : List β) (s : State) :
    proj (l.foldl f s) = (proj s).filter (fun y => l.all (fun x => keep x y)) := by
  induction l generalizing s with
  | nil => simp
  | cons x l ih => rw [List.foldl_cons, ih, hf, List.filter_filter]; exact List.filter_congr fun y _ => by rw [List.all_cons, Bool.and_comm]

/-! ### Lockouts and bursts (R35, R51) -/

theorem told_secLeave (code : Nat) (held : List (FrameNo × Bool)) (s : State) : Told s (secLeave code held s) := by
  refine told_step (told_foldl (fun x q => told_recChanged q x) _ _) (told_put_ev rfl (.refl _) rfl ?_)
  have hr (gone : EvRec → Bool) : (fun r : EvRec => (if gone r = true then { r with active := false } else r).rseq) = EvRec.rseq := by
    funext r
    split <;> rfl
  simp only [List.map_map, Function.comp_def, hr]

theorem told_secs {s t : State} (h : Told s t) : t.mb.secs = s.mb.secs :=
  (congrArg Mailbox.secs h.mail).trans rfl

/-- The lockouts that end are those whose time has come, and no other binding's entry changes. -/
theorem lockoutExpiry_ends {s : State} (hsup : s.rs.supUp = true) :
    ∃ t, execLockoutExpiry s = .next t ∧ (∀ x ∈ t.mb.secs, ∀ e, x.locked = some e → s.clk.ms < e) ∧
      (∀ x ∈ s.mb.secs, (∀ e, x.locked = some e → s.clk.ms < e) → x ∈ t.mb.secs) ∧ onlyIn tells s t := by
  have hdue (x : PeerSec) : x.locked.any (fun t => decide (t ≤ s.clk.ms)) = false ↔ ∀ e, x.locked = some e → s.clk.ms < e := by
    cases hl : x.locked <;> simp
  refine ⟨_, rfl, ?_⟩
  by_cases hany : s.mb.secs.any (fun x => x.locked.any (fun t => decide (t ≤ s.clk.ms))) = true
  · rw [if_pos (by rw [hsup, hany]; rfl)]
    refine ⟨?_, ?_, onlyIn_step (told_secLeave _ _ _).frame rfl (onlyIn_mono (onlyIn_put_mb _ s) rfl)⟩
    · intro x hx
      rw [told_secs (told_secLeave _ _ _)] at hx
      obtain ⟨y, -, rfl⟩ := List.mem_map.mp hx
      split
      · intro e he
        cases he
      · next hy => exact (hdue y).mp (Bool.eq_false_of_not_eq_true hy)
    · intro x hx hlater
      rw [told_secs (told_secLeave _ _ _)]
      exact List.mem_map.mpr ⟨x, hx, if_neg (ne_true_of_eq_false ((hdue x).mpr hlater))⟩
  · rw [if_neg (by rw [hsup, Bool.true_and]; exact hany)]
    refine ⟨fun x hx => (hdue x).mp ?_, fun x hx _ => hx, onlyIn_refl _ _⟩
    exact Bool.eq_false_of_not_eq_true fun h => hany (List.any_eq_true.mpr ⟨x, hx, h⟩)

/-- A burst ends once its last failure lies 10 s back; the lockouts stay. -/
theorem authBurstEnd_ends {s : State} (hsup : s.rs.supUp = true) :
    ∃ t, execAuthBurstEnd s = .next t ∧ (∀ x ∈ t.mb.secs, x.burstOcc.isSome = true → ∃ f ∈ x.fails, s.clk.ms < f + 10000) ∧
      t.mb.secs.map PeerSec.locked = s.mb.secs.map PeerSec.locked ∧ onlyIn tells s t := by
  have hlast {x : PeerSec} (h : ¬(x.burstOcc.isSome && x.fails.all (fun t => decide (t + 10000 ≤ s.clk.ms))) = true) (hb : x.burstOcc.isSome = true) :
      ∃ f ∈ x.fails, s.clk.ms < f + 10000 := by
    simpa [hb] using h
  refine ⟨_, rfl, ?_⟩
  split
  · next hany =>
    refine ⟨?_, ?_, onlyIn_step (told_secLeave _ _ _).frame rfl (onlyIn_mono (onlyIn_put_mb _ s) rfl)⟩
    · intro x hx
      rw [told_secs (told_secLeave _ _ _)] at hx
      obtain ⟨y, -, rfl⟩ := List.mem_map.mp hx
      split
      · intro hb
        cases hb
      · next hy => exact hlast hy
    · rw [told_secs (told_secLeave _ _ _)]
      simp only [updMb, List.map_map]
      refine List.map_congr_left fun x _ => ?_
      simp only [Function.comp_apply]
      split <;> rfl
  · next hany =>
    refine ⟨fun x hx => hlast fun h => hany ?_, rfl, onlyIn_refl _ _⟩
    rw [hsup, Bool.true_and]
    exact List.any_eq_true.mpr ⟨x, hx, h⟩

/-! ### Relays (R24, R25) -/

/-- The relays and the waiting commands, which answers leave alone. -/
def heldWork (s : State) : List Relay × List Waiting := (s.mb.relays, s.mb.waiting)

theorem answer_heldWork (c : Ctx) (st : Nat) (b : Bytes) (s : State) : heldWork (answer c st b s) = heldWork s := by
  unfold answer
  split <;> rfl

theorem updChan_heldWork (num : Nat) (b : Binding) (f : Sess → Sess) (s : State) : heldWork (updChan num b f s) = heldWork s := by
  unfold updChan
  split <;> rfl

/-- Answering the commands that wait for something takes these, and no other, from the waiting ones. -/
theorem resolve_heldWork (p : WaitFor → Bool) (st : Nat) (b : Bytes) (s : State) :
    heldWork (resolve p st b s) = (s.mb.relays, s.mb.waiting.filter (fun w => !p w.what)) := by
  unfold resolve
  extract_lets due
  suffices h : ∀ (l : List Waiting) (x : State), heldWork (l.foldl (fun st' w => updChan w.session w.binding
      (fun x => { x with exec := if x.exec = some w.seq then none else x.exec }) (answer (waitCtx w st') st b st')) x) = heldWork x from
    h due _
  intro l
  induction l with
  | nil => exact fun _ => rfl
  | cons w l ih =>
    intro x
    rw [List.foldl_cons, ih, updChan_heldWork, answer_heldWork]

theorem resolve_relays (p : WaitFor → Bool) (st : Nat) (b : Bytes) (s : State) : (resolve p st b s).mb.relays = s.mb.relays :=
  congrArg Prod.fst (resolve_heldWork p st b s)

theorem resolve_waiting (p : WaitFor → Bool) (st : Nat) (b : Bytes) (s : State) :
    (resolve p st b s).mb.waiting = s.mb.waiting.filter (fun w => !p w.what) :=
  congrArg Prod.snd (resolve_heldWork p st b s)

/-- The relays left are those of which no relay with the same handle has waited 1000 ms. -/
theorem relayTimeout_ends {s : State} (hup : mailUp s = true) :
    ∃ t, execRelayTimeout s = .next t ∧ (∀ r ∈ t.mb.relays, s.clk.ms < r.since + 1000) ∧ onlyIn [.mb, .out] s t ∧
      (∀ r ∈ s.mb.relays, (∀ y ∈ s.mb.relays, y.handle = r.handle → s.clk.ms < y.since + 1000) → r ∈ t.mb.relays) := by
  obtain ⟨t, ht, hrel⟩ : ∃ t, execRelayTimeout s = .next t ∧ t.mb.relays =
      s.mb.relays.filter (fun y => (s.mb.relays.filter (fun r => elapsed s r.since 1000)).all (fun r => y.handle != r.handle)) := by
    refine ⟨_, rfl, ?_⟩
    rw [if_pos hup]
    exact foldl_filter (proj := fun x => x.mb.relays) (fun st r => resolve_relays _ _ _ _) _ s
  refine ⟨t, ht, fun r hr => ?_, frame_execRelayTimeout s t ht, fun r hr hlater => ?_⟩
  · rw [hrel, List.mem_filter, List.all_eq_true] at hr
    obtain ⟨hmem, hall⟩ := hr
    by_contra hlt
    have hself := hall r (List.mem_filter.mpr ⟨hmem, decide_eq_true (Nat.le_of_not_lt hlt)⟩)
    simp at hself
  · rw [hrel, List.mem_filter, List.all_eq_true]
    refine ⟨hr, fun y hy => ?_⟩
    obtain ⟨hmem, hold⟩ := List.mem_filter.mp hy
    have hold : y.since + 1000 ≤ s.clk.ms := of_decide_eq_true hold
    refine bne_iff_ne.mpr fun heq => ?_
    have := hlater y hmem heq.symm
    omega

/-! ### Sessions (R27, R28, R32, R35) -/

theorem endInjections_mb (p : Inj → Bool) (s : State) : (endInjections p s).mb = s.mb := frame_endInjections p s .mb (by decide)

theorem dropSession_sessions (num : Nat) (s : State) : (dropSession num s).mb.sessions = s.mb.sessions.filter (fun x => x.num != num) := by
  simp only [dropSession, endInjections_mb]

theorem closeSession_sessions (num reason : Nat) (s : State) :
    (closeSession num reason s).mb.sessions = s.mb.sessions.filter (fun x => x.num != num) := by
  unfold closeSession
  split
  · next hnone =>
    symm
    exact List.filter_eq_self.mpr fun x hx => by simpa using List.find?_eq_none.mp hnone x hx
  · rw [dropSession_sessions]
    split <;> rfl

/-- The sessions left are open, or have been half-open for less than 5000 ms. -/
theorem halfOpenTimeout_ends {s : State} (hup : mailUp s = true) :
    ∃ t, execHalfOpenTimeout s = .next t ∧ (∀ x ∈ t.mb.sessions, x.isOpen = true ∨ s.clk.ms < x.opened + 5000) ∧
      (∀ x ∈ s.mb.sessions, (∀ y ∈ s.mb.sessions, y.num = x.num → y.isOpen = true ∨ s.clk.ms < y.opened + 5000) → x ∈ t.mb.sessions) ∧
      onlyIn [.mb, .pf, .ev] s t := by
  obtain ⟨t, ht, hsess⟩ : ∃ t, execHalfOpenTimeout s = .next t ∧ t.mb.sessions = s.mb.sessions.filter
      (fun y => (s.mb.sessions.filter (fun x => !x.isOpen && elapsed s x.opened 5000)).all (fun x => y.num != x.num)) := by
    refine ⟨_, rfl, ?_⟩
    rw [if_pos hup]
    exact foldl_filter (proj := fun x => x.mb.sessions) (fun st (x : Sess) => dropSession_sessions x.num st) _ s
  have hlapsed (x : Sess) : (!x.isOpen && elapsed s x.opened 5000) = true ↔ ¬(x.isOpen = true ∨ s.clk.ms < x.opened + 5000) := by
    simp [elapsed]
  refine ⟨t, ht, fun x hx => ?_, fun x hx hlater => ?_, frame_execHalfOpenTimeout s t ht⟩
  · rw [hsess, List.mem_filter, List.all_eq_true] at hx
    obtain ⟨hmem, hall⟩ := hx
    by_contra hlate
    have hself := hall x (List.mem_filter.mpr ⟨hmem, (hlapsed x).mpr hlate⟩)
    simp at hself
  · rw [hsess, List.mem_filter, List.all_eq_true]
    refine ⟨hx, fun y hy => ?_⟩
    obtain ⟨hmem, hold⟩ := List.mem_filter.mp hy
    exact bne_iff_ne.mpr fun heq => (hlapsed y).mp hold (hlater y hmem heq.symm)

/-- No open session is left that has been silent for MB.SESSION_TIMEOUT. -/
theorem sessionTimeout_ends {s : State} (hup : mailUp s = true) :
    ∃ t, execSessionTimeout s = .next t ∧ onlyIn tells s t ∧
      (∀ x ∈ t.mb.sessions, x.isOpen = true → s.clk.ms < x.lastAuth + paramN s pMbSessionTimeout) := by
  obtain ⟨t, ht, hsess⟩ : ∃ t, execSessionTimeout s = .next t ∧ t.mb.sessions = s.mb.sessions.filter (fun y =>
      (s.mb.sessions.filter (fun x => x.isOpen && elapsed s x.lastAuth (paramN s pMbSessionTimeout))).all (fun x => y.num != x.num)) := by
    refine ⟨_, rfl, ?_⟩
    rw [if_pos hup]
    exact foldl_filter (proj := fun x => x.mb.sessions) (fun st (x : Sess) => closeSession_sessions x.num 1 st) _ s
  refine ⟨t, ht, onlyIn_mono (frame_execSessionTimeout s t ht) rfl, fun x hx hopen => ?_⟩
  rw [hsess, List.mem_filter, List.all_eq_true] at hx
  obtain ⟨hmem, hall⟩ := hx
  by_contra hlt
  have hself := hall x (List.mem_filter.mpr ⟨hmem, by simpa [hopen, elapsed] using hlt⟩)
  simp at hself

/-- SEQUENCE_GAP names the sequence number expected, and the session holds nothing any more. -/
theorem dropHeld_only {s : State} {x : Sess} (hx : s.mb.sessions = [x]) (hnote : x.note < 65535) :
    (dropHeld x.num s).mb.sessions = [{ x with held := [], note := x.note + 1 }] ∧
      ((dropHeld x.num s).out.drop s.out.length).map OutMsg.payload = [u16 x.e] := by
  have hne : x.note ≠ 65535 := by omega
  simp [dropHeld, findSess, sendNote, send, updSess, hx, hne, noteMsg]

theorem reorderHoldExpiry_ends {s : State} (hup : mailUp s = true) :
    ∃ t, execReorderHoldExpiry s = .next t ∧ onlyIn tells s t ∧
      (∀ x, s.mb.sessions = [x] → x.held.any (fun m => elapsed s m.since (paramN s pMbReorderHold)) = true → x.note < 65535 →
        t.mb.sessions = [{ x with held := [], note := x.note + 1 }] ∧ (t.out.drop s.out.length).map OutMsg.payload = [u16 x.e]) := by
  refine ⟨_, rfl, onlyIn_mono (frame_execReorderHoldExpiry s _ rfl) rfl, fun x hx hheld hnote => ?_⟩
  simp only [hup, if_true, hx, List.filter_cons, hheld, List.filter_nil, List.foldl_cons, List.foldl_nil]
  exact dropHeld_only hx hnote

/-- A notification waits in no subscription whose interval has ended. -/
theorem notifyIntervalExpiry_idle {s : State} (hsup : s.rs.supUp = true)
    (h : ∀ x ∈ s.mb.sessions, x.isOpen = true → ∀ b ∈ x.subs, b.due = [] ∨ intervalOpen s b = false) : execNotifyIntervalExpiry s = .next s := by
  refine congrArg Host.Outcome.next ((if_pos hsup).trans (foldl_same fun x hx => ?_))
  obtain ⟨hmem, hopen⟩ := List.mem_filter.mp hx
  have hnone : x.subs.filter (fun b => !b.due.isEmpty && intervalOpen s b) = [] := by
    refine List.filter_eq_nil_iff.mpr fun b hb => ?_
    rcases h x hmem hopen b hb with hdue | hshut
    · simp [hdue]
    · simp [hshut]
  rw [hnone]
  rfl

/-- An inner response for a relay that waits for it: with a fragment to come it is kept, with the last the relay ends. -/
theorem relayInnerResponse_found {src : Fin 64} {flow : Nat} {inner : Bytes} {m : WireMsg} {r : Relay} {s : State} (hup : mailUp s = true)
    (hm : parseMsg inner = some m)
    (hr : s.mb.relays.find? (fun r => r.dest == src.val && r.flow == flow && r.seq == m.seq && r.code == m.code) = some r) :
    execRelayInnerResponse src flow inner s = .next (if bit m.flags 3 then
        updMb (fun x => { x with relays := x.relays.map (fun y => if y.handle = r.handle then { y with got := r.got ++ inner } else y) }) s
      else resolve (fun w => w == .relay r.handle) stOk (r.got ++ inner)
        (updMb (fun x => { x with relays := x.relays.filter (fun y => y.handle != r.handle) }) s)) := by
  simp only [execRelayInnerResponse, hup, if_true, innerResponse, hm, hr]

/-- Settles O33, timer by timer. -/
theorem mailboxTimersAct : Obligations.MailboxTimersAct := by
  intro s
  refine ⟨fun hsup => ⟨lockoutExpiry_ends hsup, authBurstEnd_ends hsup, notifyIntervalExpiry_idle hsup, ?_⟩,
    fun hup => ⟨relayTimeout_ends hup, ?_, ?_, halfOpenTimeout_ends hup, reorderHoldExpiry_ends hup, sessionTimeout_ends hup, ?_⟩, ?_, ?_, ?_⟩
  case refine_1 =>
    intro x b hx hopen hsubs hdue hint
    have hb : (!b.due.isEmpty && intervalOpen s b) = true := by simp [hdue, hint]
    refine congrArg Host.Outcome.next ((if_pos hsup).trans ?_)
    simp only [hx, List.filter_cons, hopen, if_true, List.filter_nil, List.foldl_cons, List.foldl_nil, hsubs, hb]
  case refine_2 =>
    intro src flow inner m hm match'
    refine ⟨fun hnone => ?_, fun r hr hlast => ?_, fun r hr hmore => ?_, fun x y hsrc hx hy hopen hbind => ?_⟩
    · refine congrArg Host.Outcome.next ((if_pos hup).trans ?_)
      simp only [innerResponse, hm, match'] at hnone ⊢
      rw [hnone]
    · exact (relayInnerResponse_found hup hm hr).trans (congrArg Host.Outcome.next (if_neg (by rw [hlast]; exact Bool.false_ne_true)))
    · exact (relayInnerResponse_found hup hm hr).trans (congrArg Host.Outcome.next (if_pos hmore))
    · refine congrArg Host.Outcome.next ((if_pos (by simpa [hup] using hsrc)).trans ?_)
      simp [relayedNote, hx, hm, hy, hopen, hbind]
  case refine_3 => exact congrArg Host.Outcome.next (if_pos hup)
  case refine_4 => exact congrArg Host.Outcome.next (if_pos hup)
  case refine_5 =>
    intro hdown
    have hno {α : Type} {a b : α} : (if mailUp s = true then a else b) = b := if_neg (ne_true_of_eq_false hdown)
    exact ⟨congrArg Host.Outcome.next hno, congrArg Host.Outcome.next hno, congrArg Host.Outcome.next hno, congrArg Host.Outcome.next hno,
      congrArg Host.Outcome.next hno, congrArg Host.Outcome.next hno⟩
  case refine_6 => exact fun h => congrArg Host.Outcome.next (if_pos (by rw [nandOn, h]; rfl))
  case refine_7 => exact fun h => congrArg Host.Outcome.next (if_neg (by rw [nandOn, h]; exact Bool.false_ne_true))

end Sys2Proof.Proofs
end

section
/-!
PROOFS. The voter and the three lanes: exclusion, the safe state, readmission (R83 to R88, Tables 3-3 and 3-4).
-/

namespace Sys2Proof.Proofs

open Sys2Proof.Machine Sys2Proof.Safety

/-! ### What telling leaves, part by part -/

theorem Told.gr {s t : State} (h : Told s t) : t.gr = s.gr := h.frame .gr (by decide)

theorem Told.clk {s t : State} (h : Told s t) : t.clk = s.clk := h.frame .clk (by decide)

theorem Told.work {s t : State} (h : Told s t) : t.pf.work = s.pf.work := (congrArg Profiles.work h.profile).trans rfl

theorem Told.noInjs {s t : State} (h : Told s t) (hn : s.ev.injs = []) : t.ev.injs = [] := by
  simpa [hn] using h.injs

/-- A parameter rests on the settings, the working copy and the trim. -/
theorem paramN_congr {s t : State} (hset : t.pf.settings = s.pf.settings) (hwork : t.pf.work = s.pf.work) (hrs : t.rs = s.rs) (id : Nat) :
    paramN t id = paramN s id := by
  simp only [paramN, param, hset, hwork, hrs]

theorem Told.paramN {s t : State} (h : Told s t) (id : Nat) : paramN t id = paramN s id :=
  paramN_congr ((congrArg Profiles.settings h.profile).trans rfl) h.work (h.frame .rs (by decide)) id

theorem forced_of_noInjs {s : State} (h : s.ev.injs = []) (det inst : Nat) : forced s det inst = false := by simp [forced, injFor, h]

/-! ### One lane changed -/

theorem nth_updAt_ne {α : Type} (l : List α) {i j : Nat} (f : α → α) (d : α) (h : i ≠ j) : nth (updAt l i f) j d = nth l j d := by
  simp only [nth, updAt, List.getD_eq_getElem?_getD, List.getElem?_modify_ne _ _ h]

theorem laneOf_updLane {k : Nat} {s : State} (f : Lane → Lane) (h : k < s.gr.lanes.length) : laneOf (updLane k f s) k = f (laneOf s k) := by
  simp only [laneOf, updLane, updGr, nth_updAt _ _ _ _ _ h, if_true]

theorem laneOf_updLane_ne {k j : Nat} (f : Lane → Lane) (s : State) (h : j ≠ k) : laneOf (updLane k f s) j = laneOf s j :=
  nth_updAt_ne _ _ _ h.symm

theorem laneOf_congr {s t : State} (h : t.gr.lanes = s.gr.lanes) (j : Nat) : laneOf t j = laneOf s j := by simp only [laneOf, h]

/-! ### Holding out (Table 3-4) -/

/-- Lane `k` held out. -/
def heldOutLane (k : Nat) (s : State) : State := updLane k (fun l => { l with st := .heldOut, inReset := false, joins := false }) s

theorem told_holdOut (k : Nat) (s : State) : Told (heldOutLane k s) (holdOut k s) := told_beginCond _ _ _ _

/-- Without an injection a lane on its way back is held out when its exclusions are too many, and left alone otherwise. -/
theorem told_judgeExclusions {k : Nat} {s : State} (hinj : s.ev.injs = [])
    (hst : (laneOf s k).st = .selftest ∨ (laneOf s k).st = .transfer ∨ (laneOf s k).st = .excludedWait) :
    Told (if paramN s pGrReadmitLimit < exclCount s k then heldOutLane k s else s) (judgeExclusions k s) := by
  have hcond : ((laneOf s k).st != .active && (laneOf s k).st != .heldOut && (laneOf s k).st != .start &&
      (decide (paramN s pGrReadmitLimit < exclCount s k) || forced s detLaneHeldOut (k + 1))) = decide (paramN s pGrReadmitLimit < exclCount s k) := by
    rw [forced_of_noInjs hinj]
    rcases hst with h | h | h <;> simp [h]
  rw [judgeExclusions, hcond]
  by_cases h : paramN s pGrReadmitLimit < exclCount s k
  · rw [if_pos h, if_pos (decide_eq_true h)]
    exact told_holdOut k s
  · rw [if_neg h, if_neg (fun h' => h (of_decide_eq_true h'))]
    exact .refl s

/-! ### Exclusion in TRIPLE (R84) -/

/-- Lane `k` excluded for `cause`, before its exclusions are counted. -/
def excludedLane (k cause : Nat) (s : State) : State :=
  updGr (fun g => { g with mode := .dual, dualSince := s.clk.frame })
    (updLane k (fun l => { l with
      st := .selftest, cause, excl := l.excl ++ [s.clk.ms], lastExcl := s.clk.frame, since := s.clk.ms, inReset := true, tries := 0
      joins := false }) s)

theorem laneOf_excludedLane {k : Nat} {s : State} (cause : Nat) (hlen : k < s.gr.lanes.length) :
    laneOf (excludedLane k cause s) k = { laneOf s k with
      st := .selftest, cause, excl := (laneOf s k).excl ++ [s.clk.ms], lastExcl := s.clk.frame, since := s.clk.ms, inReset := true, tries := 0
      joins := false } := laneOf_updLane _ hlen

/-- The exclusion just made counts in the window. -/
theorem exclCount_excludedLane {k : Nat} {s : State} (cause : Nat) (hlen : k < s.gr.lanes.length) :
    exclCount (excludedLane k cause s) k = exclCount s k + 1 := by
  rw [exclCount, laneOf_excludedLane cause hlen]
  simp only [List.filter_append, List.length_append]
  congr 1
  have hnow : decide ((excludedLane k cause s).clk.ms ≤ s.clk.ms + paramN (excludedLane k cause s) pGrReadmitWindow * 1000) = true :=
    decide_eq_true (Nat.le_add_right _ _)
  simp [hnow]

/-- What the exclusion of lane `k` in TRIPLE makes of `s`. -/
structure Excluded (k cause : Nat) (s t : State) : Prop where
  mode : t.gr.mode = .dual
  cause : (laneOf t k).cause = cause
  lastExcl : (laneOf t k).lastExcl = s.clk.frame
  joins : (laneOf t k).joins = false
  back : exclCount s k + 1 ≤ paramN s pGrReadmitLimit → (laneOf t k).st = .selftest ∧ (laneOf t k).inReset = true
  out : paramN s pGrReadmitLimit < exclCount s k + 1 → (laneOf t k).st = .heldOut
  others : ∀ j, j ≠ k → laneOf t j = laneOf s j
  fns : t.gr.fns = s.gr.fns

theorem Excluded.of_gr {k cause : Nat} {s t u : State} (h : Excluded k cause s t) (hgr : u.gr = t.gr) : Excluded k cause s u := by
  have hl (j : Nat) : laneOf u j = laneOf t j := laneOf_congr (congrArg Granite.lanes hgr) j
  constructor
  case mode => rw [hgr, h.mode]
  case fns => rw [hgr, h.fns]
  all_goals simp only [hl]
  · exact h.cause
  · exact h.lastExcl
  · exact h.joins
  · exact h.back
  · exact h.out
  · exact h.others

theorem exclude_excludes {k : Nat} {s : State} (cause : Nat) (hlen : k < s.gr.lanes.length) (hinj : s.ev.injs = []) :
    Excluded k cause s (exclude k cause s) := by
  have hl := laneOf_excludedLane cause hlen
  have hcount := exclCount_excludedLane cause hlen
  have hlen' : k < (excludedLane k cause s).gr.lanes.length := (length_updAt _ _ _).symm ▸ hlen
  refine Excluded.of_gr ?_ (told_judgeExclusions (k := k) (s := excludedLane k cause s) hinj (.inl (by rw [hl]))).gr
  have hpar : paramN (excludedLane k cause s) pGrReadmitLimit = paramN s pGrReadmitLimit := rfl
  rw [hcount, hpar]
  split
  · next h =>
    have hk : laneOf (heldOutLane k (excludedLane k cause s)) k = _ := laneOf_updLane _ hlen'
    rw [hl] at hk
    exact ⟨rfl, by rw [hk], by rw [hk], by rw [hk], fun hle => absurd hle (by omega), fun _ => by rw [hk],
      fun j hj => (laneOf_updLane_ne _ _ hj).trans (laneOf_updLane_ne _ s hj), rfl⟩
  · next h =>
    exact ⟨rfl, by rw [hl], by rw [hl], by rw [hl], fun _ => by rw [hl]; exact ⟨rfl, rfl⟩, fun hlt => absurd hlt h,
      fun j hj => laneOf_updLane_ne _ s hj, rfl⟩

theorem endReplay_kept (result : Nat) (s : State) :
    (endReplay result s).gr.lanes = s.gr.lanes ∧ (endReplay result s).gr.fns = s.gr.fns ∧ (endReplay result s).gr.mode = s.gr.mode := by
  unfold endReplay
  split <;> exact ⟨rfl, rfl, rfl⟩

/-- The state in which a lane fault is acted on: the replay run ended, and the detector's record queued. -/
def faultTold (k cause det : Nat) (s : State) : State := happen det (k + 1) cause (endReplay 3 s)

theorem faultTold_gr (k cause det : Nat) (s : State) : (faultTold k cause det s).gr = (endReplay 3 s).gr := (told_happen _ _ _ _).gr

theorem laneFault_triple {k cause det : Nat} {s : State} (hlen : k < s.gr.lanes.length) (hlive : grLive s = true)
    (hst : (laneOf s k).st = .active) (hmode : s.gr.mode = .triple) (hinj : s.ev.injs = []) :
    Excluded k cause s (laneFault k cause det s) ∧ onlyIn [.gr, .mb, .pf, .ev, .out] s (laneFault k cause det s) := by
  have hfault : laneFault k cause det s = exclude k cause (faultTold k cause det s) := by
    rw [laneFault, if_pos (by simp [hlive, hst])]
    exact if_pos hmode
  obtain ⟨hlanes, hfns, -⟩ := endReplay_kept 3 s
  have hframe : onlyIn [.gr, .mb, .pf, .ev, .out] s (faultTold k cause det s) :=
    onlyIn_step (told_happen _ _ _ _).frame rfl (onlyIn_mono (frame_endReplay 3 s) rfl)
  have hev : (endReplay 3 s).ev = s.ev := frame_endReplay 3 s .ev (by decide)
  have hpf : (endReplay 3 s).pf = s.pf := frame_endReplay 3 s .pf (by decide)
  have hpar (id : Nat) : paramN (faultTold k cause det s) id = paramN s id :=
    ((told_happen _ _ _ _).paramN id).trans (paramN_congr (by rw [hpf]) (by rw [hpf]) (frame_endReplay 3 s .rs (by decide)) id)
  have hl (j : Nat) : laneOf (faultTold k cause det s) j = laneOf s j := laneOf_congr (by rw [faultTold_gr, hlanes]) j
  have hclk : (faultTold k cause det s).clk = s.clk := hframe .clk (by decide)
  have hcount : exclCount (faultTold k cause det s) k = exclCount s k := by simp only [exclCount, hl, hpar, hclk]
  have h := exclude_excludes (k := k) (s := faultTold k cause det s) cause (by rw [faultTold_gr, hlanes]; exact hlen)
    ((told_happen _ _ _ _).noInjs (by rw [hev, hinj]))
  rw [hfault]
  refine ⟨⟨h.mode, h.cause, ?_, h.joins, ?_, ?_, ?_, ?_⟩, onlyIn_step (frame_exclude _ _ _) rfl hframe⟩
  · rw [h.lastExcl, hclk]
  · rw [← hcount, ← hpar]
    exact h.back
  · rw [← hcount, ← hpar]
    exact h.out
  · exact fun j hj => (h.others j hj).trans (hl j)
  · rw [h.fns, faultTold_gr, hfns]

/-! ### The safe state (R88) -/

/-- What holds of the safe state in `s` holds in `t`. -/
structure StaysSafe (s t : State) : Prop where
  mode : t.gr.mode = s.gr.mode
  safeA : t.gr.safeA = s.gr.safeA
  safeB : t.gr.safeB = s.gr.safeB
  steer : s.gn.steer.st = .off → t.gn.steer.st = .off
  fns : ∀ n, (fnOf s n).st = .safe → (fnOf t n).st = .safe

theorem StaysSafe.refl (s : State) : StaysSafe s s := ⟨rfl, rfl, rfl, id, fun _ => id⟩

theorem StaysSafe.trans {s t u : State} (h : StaysSafe s t) (h' : StaysSafe t u) : StaysSafe s u :=
  ⟨h'.mode.trans h.mode, h'.safeA.trans h.safeA, h'.safeB.trans h.safeB, h'.steer ∘ h.steer, fun n => h'.fns n ∘ h.fns n⟩

theorem StaysSafe.of_frame {ps : List Part} {s t : State} (h : onlyIn ps s t) (hgr : .gr ∉ ps) (hgn : .gn ∉ ps) : StaysSafe s t := by
  have hgr : t.gr = s.gr := h .gr hgr
  have hgn : t.gn = s.gn := h .gn hgn
  exact ⟨by rw [hgr], by rw [hgr], by rw [hgr], by rw [hgn]; exact id, fun n => by simp only [fnOf, hgr]; exact id⟩

theorem staysSafe_updFn {f : Nat} {g : Fn → Fn} (hg : ∀ x, x.st = .safe → (g x).st = .safe) (s : State) : StaysSafe s (updFn f g s) := by
  refine ⟨rfl, rfl, rfl, id, fun n hn => ?_⟩
  by_cases hlt : n - 1 < s.gr.fns.length
  · simp only [fnOf, updFn, nth_updAt _ _ _ _ _ hlt]
    split
    · exact hg _ hn
    · exact hn
  · have hout : nth s.gr.fns (n - 1) fn0 = fn0 := by simp [nth, List.getD_eq_getElem?_getD, List.getElem?_eq_none (Nat.le_of_not_lt hlt)]
    rw [fnOf, hout] at hn
    cases hn

/-- A function put into its safe state, on its own (R64). -/
def fnSafed (e : Bytes) (s : State) : State :=
  updFn (rdN e 0 1) (fun f => { f with st := .safe, out := safeOut e, next := safeOut e, hold := false, starts := false }) s

theorem fnsSafed (l : List Bytes) (s : State) (hlen : s.gr.fns.length = 30) :
    StaysSafe s (l.foldl (fun st e => fnSafed e st) s) ∧
      ∀ e ∈ l, 1 ≤ rdN e 0 1 → rdN e 0 1 ≤ 30 → (fnOf (l.foldl (fun st e => fnSafed e st) s) (rdN e 0 1)).st = .safe := by
  induction l generalizing s with
  | nil => exact ⟨.refl s, fun e he => absurd he List.not_mem_nil⟩
  | cons x l ih =>
    obtain ⟨hstay, hall⟩ := ih (fnSafed x s) ((length_updAt _ _ _).trans hlen)
    refine ⟨(staysSafe_updFn (fun _ _ => rfl) s).trans hstay, fun e he hlo hhi => ?_⟩
    rcases List.mem_cons.mp he with rfl | he
    · refine hstay.fns _ ?_
      simp only [fnOf, fnSafed, updFn, nth_updAt _ _ _ _ _ (show rdN e 0 1 - 1 < s.gr.fns.length by omega), if_true]
    · exact hall e he hlo hhi

theorem Told.staysSafe {s t : State} (h : Told s t) : StaysSafe s t := .of_frame h.frame (by decide) (by decide)

theorem staysSafe_updLane (k : Nat) (f : Lane → Lane) (s : State) : StaysSafe s (updLane k f s) := ⟨rfl, rfl, rfl, id, fun _ => id⟩

theorem staysSafe_transferFails (k : Nat) (s : State) : StaysSafe s (transferFails k s) :=
  (staysSafe_updLane k _ s).trans (told_happen _ _ _ _).staysSafe

theorem staysSafe_foldl {α : Type} {f : State → α → State} (hf : ∀ x a, StaysSafe x (f x a)) (l : List α) (s : State) : StaysSafe s (l.foldl f s) := by
  induction l generalizing s with
  | nil => exact .refl s
  | cons a l ih => exact (hf s a).trans (ih _)

theorem steerOff_off (cause : Nat) (s : State) : StaysSafe s (steerOff cause s) ∧ (steerOff cause s).gn.steer.st = .off := by
  refine ⟨StaysSafe.trans (t := { s with gn := { s.gn with steer := { s.gn.steer with st := .off, cause, sp := 0, frames := 0 } } })
    ⟨rfl, rfl, rfl, fun _ => rfl, fun _ => id⟩ (staysSafe_updFn (fun x hx => ?_) _), rfl⟩
  split
  · exact hx
  · exact hx

/-- Steering switched off if it is on. -/
theorem steerStopped (s : State) : StaysSafe s (if s.gn.steer.st = .off then s else steerOff 6 s) ∧
    (if s.gn.steer.st = .off then s else steerOff 6 s).gn.steer.st = .off := by
  split
  · next h => exact ⟨.refl s, h⟩
  · exact steerOff_off 6 s

theorem safeEntry_safe {s : State} (hmode : s.gr.mode ≠ .safe) (hlen : s.gr.fns.length = 30) :
    (safeEntry s).gr.mode = .safe ∧ (safeEntry s).gr.safeA = true ∧ (safeEntry s).gr.safeB = true ∧ (safeEntry s).gn.steer.st = .off ∧
      ∀ e ∈ s.pf.work.funcs, 1 ≤ rdN e 0 1 → rdN e 0 1 ≤ 30 → (fnOf (safeEntry s) (rdN e 0 1)).st = .safe := by
  rw [safeEntry, if_neg hmode]
  extract_lets s1 s2 s3
  obtain ⟨-, hfns, -⟩ := endReplay_kept 3 s
  have htold : Told _ s1 := told_beginCond detTwoLaneSafeState 0 0 _
  have hwork : s1.pf.work = s.pf.work := htold.work.trans (congrArg Profiles.work (frame_endReplay 3 s .pf (by decide)))
  obtain ⟨hstay, hall⟩ := fnsSafed s1.pf.work.funcs s1 (by rw [htold.gr]; exact (congrArg List.length hfns).trans hlen)
  obtain ⟨hsteer, hoff⟩ := steerStopped s2
  have hrest : StaysSafe (if s2.gn.steer.st = .off then s2 else steerOff 6 s2) s3 :=
    .of_frame (ps := [.mb, .pf, .ev, .cf, .vd, .ls, .out, .free])
      (onlyIn_step (frame_optStop _ _) rfl (onlyIn_step (frame_lsSafe _) rfl (onlyIn_mono (frame_vdSafe _) rfl))) (by decide) (by decide)
  have hlanes := staysSafe_foldl (f := fun st k => if (laneOf st k).st = .transfer then transferFails k st else st)
    (fun x k => by split; exacts [staysSafe_transferFails k x, .refl x]) (List.range 3) s3
  have hlast := hsteer.trans (hrest.trans hlanes)
  have hfrom := hstay.trans hlast
  refine ⟨hfrom.mode.trans ?_, hfrom.safeA.trans ?_, hfrom.safeB.trans ?_, (hrest.trans hlanes).steer hoff, fun e he hlo hhi => ?_⟩
  · rw [htold.gr]; rfl
  · rw [htold.gr]; rfl
  · rw [htold.gr]; rfl
  · exact hlast.fns _ (hall e (hwork ▸ he) hlo hhi)

theorem laneFault_dual {k cause det : Nat} {s : State} (hlive : grLive s = true) (hst : (laneOf s k).st = .active) (hmode : s.gr.mode = .dual)
    (hlen : s.gr.fns.length = 30) :
    let t := laneFault k cause det s
    t.gr.mode = .safe ∧ t.gr.safeA = true ∧ t.gr.safeB = true ∧ t.gn.steer.st = .off ∧
      ∀ e ∈ s.pf.work.funcs, 1 ≤ rdN e 0 1 → rdN e 0 1 ≤ 30 → (fnOf t (rdN e 0 1)).st = .safe := by
  have hfault : laneFault k cause det s = safeEntry (faultTold k cause det s) := by
    rw [laneFault, if_pos (by simp [hlive, hst])]
    exact if_neg (by rw [hmode]; decide)
  obtain ⟨-, hfns, hm⟩ := endReplay_kept 3 s
  have hwork : (faultTold k cause det s).pf.work = s.pf.work :=
    (told_happen _ _ _ _).work.trans (congrArg Profiles.work (frame_endReplay 3 s .pf (by decide)))
  rw [hfault, ← hwork]
  exact safeEntry_safe (by rw [faultTold_gr, hm, hmode]; decide) (by rw [faultTold_gr, hfns, hlen])

theorem laneFault_idle {k cause det : Nat} {s : State} (h : grLive s = false ∨ (laneOf s k).st ≠ .active) : laneFault k cause det s = s := by
  refine if_neg fun hc => ?_
  obtain ⟨hlive, hst⟩ := Bool.and_eq_true_iff.mp hc
  rcases h with h | h
  · rw [h] at hlive
    cases hlive
  · exact h (beq_iff_eq.mp hst)

/-- Each cause of R84 is the fault of its lane, told. -/
theorem laneCause_told (lane : Fin 3) {s : State} (hlive : grLive s = true) (hst : (laneOf s lane.val).st = .active) :
    ∀ c ∈ [(Instr.lockstepDivergence lane, 2), (Instr.laneWatchdogMiss lane, 3), (Instr.laneEccError lane true, 4)],
      ∃ det t, exec c.1 s = .next t ∧ Told (laneFault lane.val c.2 det s) t := by
  intro c hc
  simp only [List.mem_cons, List.not_mem_nil, or_false] at hc
  rcases hc with rfl | rfl | rfl
  · exact ⟨detLockstepDivergence, _, rfl, .refl _⟩
  · exact ⟨detLaneWatchdog, _, congrArg Host.Outcome.next (if_pos (by simp [hlive, hst])), told_rawEvent _ _ _ _⟩
  · exact ⟨detLaneUncorrectableEcc, _, rfl, .refl _⟩

theorem laneCause_idle (lane : Fin 3) {s : State} (h : grLive s = false ∨ (laneOf s lane.val).st ≠ .active) :
    ∀ c ∈ [(Instr.lockstepDivergence lane, 2), (Instr.laneWatchdogMiss lane, 3), (Instr.laneEccError lane true, 4)], exec c.1 s = .next s := by
  intro c hc
  simp only [List.mem_cons, List.not_mem_nil, or_false] at hc
  rcases hc with rfl | rfl | rfl
  · exact congrArg Host.Outcome.next (laneFault_idle h)
  · refine congrArg Host.Outcome.next (if_neg fun hc => ?_)
    obtain ⟨hlive, hst⟩ := Bool.and_eq_true_iff.mp hc
    exact h.elim (fun h => Bool.false_ne_true (h.symm.trans hlive)) fun h => h (beq_iff_eq.mp hst)
  · exact congrArg Host.Outcome.next (laneFault_idle h)

/-! ### Readmission (R86, R87, Table 3-4) -/

theorem exclCount_updLane {k : Nat} {s : State} {f : Lane → Lane} (hlen : k < s.gr.lanes.length) (hf : ∀ l, (f l).excl = l.excl) :
    exclCount (updLane k f s) k = exclCount s k := by
  rw [exclCount, laneOf_updLane f hlen, hf]
  rfl

theorem Told.laneOf {s t : State} (h : Told s t) (j : Nat) : laneOf t j = laneOf s j := laneOf_congr (congrArg Granite.lanes h.gr) j

theorem Told.exclCount {s t : State} (h : Told s t) (k : Nat) : exclCount t k = exclCount s k := by
  simp only [Machine.exclCount, h.laneOf, h.paramN, h.clk]

/-- A lane on its way back with few exclusions goes on. -/
theorem told_judgeExclusions_few {k : Nat} {s : State} (hinj : s.ev.injs = [])
    (hst : (laneOf s k).st = .selftest ∨ (laneOf s k).st = .transfer ∨ (laneOf s k).st = .excludedWait)
    (hcount : exclCount s k ≤ paramN s pGrReadmitLimit) : Told s (judgeExclusions k s) := by
  have h := told_judgeExclusions hinj hst
  rwa [if_neg (Nat.not_lt.mpr hcount)] at h

theorem judgeExclusions_heldOut {k : Nat} {s : State} (hst : (laneOf s k).st = .heldOut) : judgeExclusions k s = s := by
  simp [judgeExclusions, hst]

/-- The end of a self-test after an exclusion: one change of the lane, told, with its next state and its cause after a failure. -/
theorem selftestDone_judged {k : Nat} {s : State} (pass : Bool) (hlen : k < s.gr.lanes.length) (hinj : s.ev.injs = [])
    (hcount : exclCount s k ≤ paramN s pGrReadmitLimit) :
    ∃ f : Lane → Lane, Told (updLane k f s) (judgeExclusions k (selftestDone k pass s)) ∧
      (f (laneOf s k)).st = (if pass then (if paramN s pGrReadmitEnable = 0 then LaneSt.heldOut else LaneSt.transfer) else LaneSt.excludedWait) ∧
      (pass = false → (f (laneOf s k)).cause = 7) := by
  cases pass with
  | false =>
    refine ⟨fun l => { l with st := .excludedWait, cause := 7, since := s.clk.ms }, ?_, rfl, fun _ => rfl⟩
    have hfail := told_happen detLaneSelfTestFailure (k + 1) 7 (updLane k (fun l => { l with st := .excludedWait, cause := 7, since := s.clk.ms }) s)
    refine hfail.trans (told_judgeExclusions_few (hfail.noInjs hinj) (.inr (.inr ?_)) ?_)
    · rw [hfail.laneOf, laneOf_updLane _ hlen]
    · rw [hfail.exclCount, hfail.paramN, exclCount_updLane hlen fun _ => by rfl]
      exact hcount
  | true =>
    have hpass : (!true || forced s detLaneSelfTestFailure (k + 1)) = false := forced_of_noInjs hinj _ _
    rw [selftestDone, hpass, if_neg Bool.false_ne_true]
    by_cases h0 : paramN s pGrReadmitEnable = 0
    · refine ⟨fun l => { l with st := .heldOut, inReset := false, joins := false }, ?_, by simp [h0], fun h => absurd h (by decide)⟩
      rw [if_pos h0, judgeExclusions_heldOut (by rw [(told_holdOut k s).laneOf, heldOutLane, laneOf_updLane _ hlen])]
      exact told_holdOut k s
    · refine ⟨fun l => { l with st := .transfer, since := s.clk.ms, tries := 0, joins := false }, ?_, by simp [h0], fun h => absurd h (by decide)⟩
      rw [if_neg h0]
      refine told_judgeExclusions_few hinj (.inr (.inl (by rw [laneOf_updLane _ hlen]))) ?_
      rw [exclCount_updLane hlen fun _ => by rfl]
      exact hcount

/-- A transfer that does not come to an end: cause 8, and the lane waits or is held out. -/
theorem transferFails_judged {k : Nat} {s : State} (hlen : k < s.gr.lanes.length) (hinj : s.ev.injs = []) :
    (laneOf (judgeExclusions k (transferFails k s)) k).cause = 8 ∧
      (laneOf (judgeExclusions k (transferFails k s)) k).st =
        (if exclCount s k ≤ paramN s pGrReadmitLimit then LaneSt.excludedWait else LaneSt.heldOut) := by
  have hfail := told_happen detStateTransferFailure (k + 1) 8
    (updLane k (fun l => { l with st := .excludedWait, cause := 8, since := s.clk.ms, joins := false }) s)
  have hl : laneOf (transferFails k s) k = { laneOf s k with st := .excludedWait, cause := 8, since := s.clk.ms, joins := false } :=
    (hfail.laneOf k).trans (laneOf_updLane _ hlen)
  have hcount : exclCount (transferFails k s) k = exclCount s k := (hfail.exclCount k).trans (exclCount_updLane hlen fun _ => by rfl)
  have hlen' : k < (transferFails k s).gr.lanes.length := by
    rw [transferFails, hfail.gr]
    exact (length_updAt _ _ _).symm ▸ hlen
  have htold := told_judgeExclusions (k := k) (s := transferFails k s) (hfail.noInjs hinj) (.inr (.inr (by rw [hl])))
  have hpar : paramN (transferFails k s) pGrReadmitLimit = paramN s pGrReadmitLimit := hfail.paramN _
  rw [htold.laneOf, hcount, hpar]
  by_cases h : exclCount s k ≤ paramN s pGrReadmitLimit
  · rw [if_neg (Nat.not_lt.mpr h), if_pos h, hl]
    exact ⟨rfl, rfl⟩
  · rw [if_pos (Nat.lt_of_not_le h), if_neg h, heldOutLane, laneOf_updLane _ hlen', hl]
    exact ⟨rfl, rfl⟩

/-! ### Joining and starting (Table 3-3) -/

/-- One lane of LANES_JOIN. -/
def laneJoin (st : State) (k : Nat) : State :=
  if (laneOf st k).st = .transfer && (laneOf st k).joins && st.gr.mode = .dual then
    rawEvent evLaneReadmitted (k + 1) (st.clk.frame - st.gr.dualSince)
      (updGr (fun g => { g with mode := .triple }) (updLane k (fun l => { l with st := .active, joins := false, lastJoin := st.clk.frame }) st))
  else st

theorem lanesJoin_eq (s : State) : lanesJoin s = laneJoin (laneJoin (laneJoin s 0) 1) 2 := by
  change (List.range 3).foldl laneJoin s = _
  simp only [List.range_succ, List.range_zero, List.nil_append, List.cons_append, List.foldl_cons, List.foldl_nil]

theorem laneJoin_skip {s : State} {j : Nat} (h : (laneOf s j).st ≠ .transfer ∨ s.gr.mode ≠ .dual) : laneJoin s j = s := by
  refine if_neg fun hc => ?_
  simp only [Bool.and_eq_true, decide_eq_true_eq] at hc
  obtain ⟨⟨hst, -⟩, hmode⟩ := hc
  exact h.elim (fun h => h hst) fun h => h hmode

theorem laneJoin_joins {s : State} {k : Nat} (hlen : k < s.gr.lanes.length) (hst : (laneOf s k).st = .transfer) (hj : (laneOf s k).joins = true)
    (hmode : s.gr.mode = .dual) :
    (laneJoin s k).gr.mode = .triple ∧ (laneOf (laneJoin s k) k).st = .active ∧ (laneOf (laneJoin s k) k).lastJoin = s.clk.frame := by
  rw [laneJoin, if_pos (by simp [hst, hj, hmode])]
  have htold := told_rawEvent evLaneReadmitted (k + 1) (s.clk.frame - s.gr.dualSince)
    (updGr (fun g => { g with mode := .triple }) (updLane k (fun l => { l with st := .active, joins := false, lastJoin := s.clk.frame }) s))
  have hl : laneOf (updGr (fun g => { g with mode := .triple })
      (updLane k (fun l => { l with st := .active, joins := false, lastJoin := s.clk.frame }) s)) k = _ := laneOf_updLane _ hlen
  rw [htold.laneOf, htold.gr, hl]
  exact ⟨rfl, rfl, rfl⟩

/-- The one lane in TRANSFER joins, whichever it is. -/
theorem lanesJoin_joins {s : State} {k : Nat} (hk : k < 3) (hlen : s.gr.lanes.length = 3) (hst : (laneOf s k).st = .transfer)
    (hj : (laneOf s k).joins = true) (hmode : s.gr.mode = .dual) (hothers : ∀ j, j ≠ k → (laneOf s j).st ≠ .transfer) :
    lanesJoin s = laneJoin s k := by
  obtain ⟨htriple, -, -⟩ := laneJoin_joins (by omega) hst hj hmode
  have hafter (j : Nat) : laneJoin (laneJoin s k) j = laneJoin s k := laneJoin_skip (.inr (by rw [htriple]; decide))
  have hbefore (j : Nat) (h : j ≠ k) : laneJoin s j = s := laneJoin_skip (.inl (hothers j h))
  rw [lanesJoin_eq]
  match k, hk with
  | 0, _ => rw [hafter, hafter]
  | 1, _ => rw [hbefore 0 (by decide), hafter]
  | 2, _ => rw [hbefore 0 (by decide), hbefore 1 (by decide)]

/-- With every lane ready Granite starts in TRIPLE. -/
theorem lanesStart_triple {s : State} (hmode : s.gr.mode = .start) (hjoin : ∀ j < 3, (laneOf s j).joins = true) :
    (lanesStart s).gr.mode = .triple ∧ (lanesStart s).gr.running = true ∧ (lanesStart s).gr.safeA = false ∧ (lanesStart s).gr.safeB = false ∧
      (lanesStart s).an.gate = true := by
  have hok : (List.range 3).filter (fun k => (laneOf s k).joins) = [0, 1, 2] :=
    List.filter_eq_self.mpr fun j hj => hjoin j (List.mem_range.mp hj)
  have hwait : (List.range 3).any (fun k => (laneOf s k).st == .start && !(laneOf s k).joins) = false := by
    simp only [List.any_eq_false, List.mem_range]
    intro j hj
    simp [hjoin j hj]
  simp [lanesStart, hok, hwait, hmode, vdEnable, updGr]

/-- Settles O35, cause by cause and step by step of Tables 3-3 and 3-4. -/
theorem lanesAreExcludedAndReadmitted : Obligations.LanesAreExcludedAndReadmitted := by
  intro lane s k l out causes
  have hk : k < 3 := lane.isLt
  refine ⟨fun hlen hlive hst hmode hinj c hc => ?_, fun hlive hst hmode hlen c hc => ?_, fun h => laneCause_idle lane h, rfl, rfl,
    fun h pass => ?_, fun pass hel hres hrun hlen hinj => ⟨fun hst hpass => ?_, fun hst hcount => ?_⟩, fun dirty hst hj hlive hforced => ?_,
    fun hst hj htries hlen hinj => ?_, fun hst htries hforced => ?_, fun hst hel hrun hen hcount => ?_, fun hst hel => ?_,
    fun hlen hmode hst hj hothers => ?_, lanesStart_triple⟩
  · obtain ⟨det, t, ht, htold⟩ := laneCause_told lane hlive hst c hc
    obtain ⟨hex, hframe⟩ := laneFault_triple (cause := c.2) (det := det) (by omega) hlive hst hmode hinj
    have hex := hex.of_gr htold.gr
    exact ⟨t, ht, hex.mode, hex.cause, hex.lastExcl, hex.joins, hex.back, hex.out, hex.others, hex.fns, onlyIn_step htold.frame rfl hframe⟩
  · obtain ⟨det, t, ht, htold⟩ := laneCause_told lane hlive hst c hc
    obtain ⟨hmode', hA, hB, hsteer, hfns⟩ := laneFault_dual (cause := c.2) (det := det) hlive hst hmode hlen
    have hstay := htold.staysSafe
    exact ⟨t, ht, hstay.mode.trans hmode', hstay.safeA.trans hA, hstay.safeB.trans hB, hstay.steer hsteer,
      fun e he hlo hhi => hstay.fns _ (hfns e he hlo hhi), onlyIn_step htold.frame rfl (onlyIn_mono (frame_laneFault _ _ _ _) rfl)⟩
  · refine congrArg Host.Outcome.next (if_pos ?_)
    rcases h with h | h | h <;> simp [h, l, k]
  · refine congrArg Host.Outcome.next ((if_neg (by simp [hel, hres, hrun, l, k])).trans ?_)
    simp only [l, k] at hst
    simp only [hst, hpass, forced_of_noInjs hinj, Bool.not_false, Bool.and_self, if_true, k]
  · obtain ⟨f, htold, hst', hcause⟩ := selftestDone_judged (k := k) pass (by omega) hinj hcount
    refine ⟨judgeExclusions k (selftestDone k pass s), ?_, ?_, ?_, fun j hj => ?_, onlyIn_step htold.frame rfl (onlyIn_mono (frame_updGr _ s) rfl)⟩
    · refine congrArg Host.Outcome.next ((if_neg (by simp [hel, hres, hrun, l, k])).trans ?_)
      simp only [l, k] at hst
      simp only [hst, k]
    · rw [htold.laneOf, laneOf_updLane _ (by omega)]
      exact hst'
    · intro hpass
      rw [htold.laneOf, laneOf_updLane _ (by omega)]
      exact hcause hpass
    · rw [htold.laneOf, laneOf_updLane_ne _ _ hj]
  · refine congrArg Host.Outcome.next ((if_pos (by simp [hst, hj, hlive, l, k])).trans ?_)
    rw [hforced]
    simp only [Bool.not_false, Bool.and_true, decide_eq_true_eq, k]
    split <;> rfl
  · obtain ⟨hcause, hst'⟩ := transferFails_judged (k := k) (s := s) (by omega) hinj
    have hexec : exec (.transferTimeout lane) s = .next (judgeExclusions k (transferFails k s)) :=
      congrArg Host.Outcome.next (if_pos (by simp [hst, hj, htries, l, k]))
    exact ⟨_, hexec, hcause, hst', onlyIn_mono (frame_execTransferTimeout lane s _ hexec) rfl⟩
  · exact congrArg Host.Outcome.next (if_neg (by simp [htries, hforced, l, k]))
  · refine congrArg Host.Outcome.next ((if_pos (by simp [hst, hel, hrun, l, k])).trans (if_neg ?_))
    simpa [hen] using hcount
  · exact congrArg Host.Outcome.next (if_neg (by simp [hel, l, k]))
  · rw [lanesJoin_joins hk hlen hst hj hmode hothers]
    exact laneJoin_joins (by omega) hst hj hmode

end Sys2Proof.Proofs
end

section
/-!
PROOFS. Quartz of itself: impacts, reference taps, diagnosis and the states of a channel (R111 to R134).
-/

namespace Sys2Proof.Proofs

open Sys2Proof.Machine Sys2Proof.Safety

/-! ### One channel changed -/

/-- Quartz is as in `s`, but for channel `ch`, which `f` changed. -/
def OnChan (ch : Nat) (f : QzChan → QzChan) (s t : State) : Prop := t.qz = { s.qz with chans := updAt s.qz.chans ch f }

theorem onChan_updQz (ch : Nat) (f : QzChan → QzChan) (s : State) : OnChan ch f s (updQz ch f s) := rfl

/-- A change of something else. -/
theorem OnChan.congr {ch : Nat} {f : QzChan → QzChan} {s t u : State} (h : OnChan ch f s t) (hqz : u.qz = t.qz) : OnChan ch f s u := hqz.trans h

theorem Told.qz {s t : State} (h : Told s t) : t.qz = s.qz := h.frame .qz (by decide)

/-- Two changes in a row. -/
theorem OnChan.trans {ch : Nat} {f g : QzChan → QzChan} {s t u : State} (h : OnChan ch f s t) (h' : OnChan ch g t u) : OnChan ch (g ∘ f) s u := by
  rw [OnChan, h', h]
  exact congrArg (fun cs => { s.qz with chans := cs }) (List.modify_modify_eq f g ch _)

theorem OnChan.base {ch : Nat} {f : QzChan → QzChan} {s t : State} (h : OnChan ch f s t) : t.qz.base = s.qz.base :=
  (congrArg Quartz.base h).trans rfl

theorem OnChan.at {ch : Nat} {f : QzChan → QzChan} {s t : State} (h : OnChan ch f s t) (hlen : ch < s.qz.chans.length) :
    qzChan t ch = f (qzChan s ch) := by
  rw [qzChan, h]
  exact (nth_updAt _ _ _ _ _ hlen).trans (if_pos rfl)

theorem OnChan.others {ch : Nat} {f : QzChan → QzChan} {s t : State} (h : OnChan ch f s t) (k : Nat) (hk : k ≠ ch) : qzChan t k = qzChan s k := by
  rw [qzChan, h]
  exact nth_updAt_ne _ _ _ hk.symm

theorem OnChan.len {ch : Nat} {f : QzChan → QzChan} {s t : State} (h : OnChan ch f s t) : t.qz.chans.length = s.qz.chans.length := by
  rw [h]
  exact length_updAt _ _ _

/-- Only what a change makes of the channel it changes counts. -/
theorem updQz_congr {ch : Nat} {f g : QzChan → QzChan} {s : State} (h : f (qzChan s ch) = g (qzChan s ch)) : updQz ch f s = updQz ch g s := by
  have hch : updAt s.qz.chans ch f = updAt s.qz.chans ch g := by
    refine List.ext_getElem? fun j => ?_
    simp only [getElem?_updAt]
    split
    · next hj =>
      subst hj
      cases hx : s.qz.chans[ch]? with
      | none => rfl
      | some x =>
        have hq : qzChan s ch = x := by simp [qzChan, nth, List.getD_eq_getElem?_getD, hx]
        rw [hq] at h
        exact congrArg some h
    · rfl
  simp only [updQz, hch]

/-! ### Impacts (R113 to R117) -/

/-- A count in the window that contains sample `report`. -/
def counted (base report : Nat) (f : QzAcc → QzAcc) (c : QzChan) : QzChan :=
  if report < base + 1875 then { c with cur := f c.cur } else { c with next := f c.next }

theorem onChan_addCount (ch report : Nat) (f : QzAcc → QzAcc) (s : State) : OnChan ch (counted s.qz.base report f) s (addCount ch report f s) := rfl

theorem counted_kept (base report : Nat) (f : QzAcc → QzAcc) (c : QzChan) :
    (counted base report f c).lastOnset = c.lastOnset ∧ (counted base report f c).queue = c.queue := by
  unfold counted
  split <;> exact ⟨rfl, rfl⟩

/-- With room in the queue an impact joins it; without it is counted. -/
theorem onChan_queueImpact (ch : Nat) (i : QzImpact) (s : State) :
    ∃ f, OnChan ch f s (queueImpact ch i s) ∧ (∀ c, (f c).lastOnset = c.lastOnset) ∧
      ((qzChan s ch).queue.length < 96 → f = fun c => { c with queue := c.queue ++ [i] }) := by
  unfold queueImpact
  split
  · next h => exact ⟨_, onChan_addCount _ _ _ s, fun c => (counted_kept _ _ _ c).1, fun h' => absurd h (Nat.not_le.mpr h')⟩
  · exact ⟨_, rfl, fun _ => rfl, fun _ => rfl⟩

section

variable {ch onset : Nat} {raw : List Int} {closed : Bool} {s : State}

/-- The calibrated samples of a span on a channel (R109). -/
def calibrated (c : QzChan) (raw : List Int) : List Int :=
  raw.map (fun r => qzCalibrate (if c.inverted then -r else r) c.tap.gc (qzGain c.gain).1 (qzGain c.gain).2)

/-- Whether one of the first three samples of a span misses the threshold. -/
def weakSpan (s : State) (ch : Nat) (raw : List Int) : Bool :=
  ((calibrated (qzChan s ch) raw).take 3).any (fun v => decide (v.natAbs < paramN s (pQzThresh ch)))

theorem impactEnd_none (h : (qzChan s ch).st ≠ .listen ∨ raw.length < 3 ∨ 128 < raw.length ∨ weakSpan s ch raw = true) :
    impactEnd ch onset raw closed s = s := by
  refine if_pos ?_
  simp only [Bool.or_eq_true, bne_iff_ne, decide_eq_true_eq, or_assoc]
  exact h

variable (hst : (qzChan s ch).st = .listen) (hlo : 3 ≤ raw.length) (hhi : raw.length ≤ 128)
  (hweak : weakSpan s ch raw = false)

include hst hlo hhi hweak

theorem impactEnd_span : ¬((qzChan s ch).st != .listen || decide (raw.length < 3) || decide (128 < raw.length) || weakSpan s ch raw) = true := by
  simp [hst, hweak]
  omega

/-- A span with no impact before it in a chain. -/
theorem impactEnd_fresh (hplace : chainPlace (qzChan s ch) onset = none) :
    let x := calibrated (qzChan s ch) raw
    impactEnd ch onset raw closed s = queueImpact ch ⟨qzFeatures x 0 (qzChan s ch).tap.f, onset + raw.length + 24, raw.any qzClipped⟩
      (updQz ch (fun c => { c with chain := some ⟨onset, onset + peakIndex x, nth x (peakIndex x) 0, 0, false⟩ })
        (updQz ch (fun c => { c with lastOnset := some s.clk.ms }) s)) := by
  refine (if_neg (impactEnd_span hst hlo hhi hweak)).trans ?_
  simp only [hplace]
  rfl

/-- With room in the queue it waits there for classification. -/
theorem impactEnd_fresh_queued (hlen : ch < s.qz.chans.length) (hplace : chainPlace (qzChan s ch) onset = none)
    (hroom : (qzChan s ch).queue.length < 96) :
    let x := calibrated (qzChan s ch) raw
    qzChan (impactEnd ch onset raw closed s) ch = { qzChan s ch with
      lastOnset := some s.clk.ms
      chain := some ⟨onset, onset + peakIndex x, nth x (peakIndex x) 0, 0, false⟩
      queue := (qzChan s ch).queue ++ [⟨qzFeatures x 0 (qzChan s ch).tap.f, onset + raw.length + 24, raw.any qzClipped⟩] } := by
  intro x
  have hstart := (onChan_updQz ch (fun c => { c with lastOnset := some s.clk.ms }) s).trans
    (onChan_updQz ch (fun c => { c with chain := some ⟨onset, onset + peakIndex x, nth x (peakIndex x) 0, 0, false⟩ }) _)
  obtain ⟨f, hf, -, hqueued⟩ := onChan_queueImpact ch ⟨qzFeatures x 0 (qzChan s ch).tap.f, onset + raw.length + 24, raw.any qzClipped⟩
    (updQz ch _ (updQz ch _ s))
  rw [hqueued (by rw [hstart.at hlen]; exact hroom)] at hf
  rw [impactEnd_fresh hst hlo hhi hweak hplace]
  exact (hstart.trans hf).at hlen

/-- The fifth or a later onset of a chain. -/
theorem impactEnd_full {k : QzChain} (hplace : chainPlace (qzChan s ch) onset = some k) (hfull : k.full = true ∨ 3 ≤ k.place) :
    impactEnd ch onset raw closed s =
      addCount ch (onset + raw.length + 24) (fun a => { a with unknown := a.unknown + 1, clip := a.clip || raw.any qzClipped })
        (updQz ch (fun c => { c with chain := if closed then some { k with onset, full := true } else none })
          (updQz ch (fun c => { c with lastOnset := some s.clk.ms }) s)) := by
  refine (if_neg (impactEnd_span hst hlo hhi hweak)).trans ?_
  simp only [hplace]
  exact if_pos (by simpa using hfull)

theorem impactEnd_full_counted (hlen : ch < s.qz.chans.length) {k : QzChain} (hplace : chainPlace (qzChan s ch) onset = some k)
    (hfull : k.full = true ∨ 3 ≤ k.place) :
    ∃ chain, qzChan (impactEnd ch onset raw closed s) ch =
      counted s.qz.base (onset + raw.length + 24) (fun a => { a with unknown := a.unknown + 1, clip := a.clip || raw.any qzClipped })
        { qzChan s ch with lastOnset := some s.clk.ms, chain } := by
  rw [impactEnd_full hst hlo hhi hweak hplace hfull]
  exact ⟨_, (((onChan_updQz ch _ s).trans (onChan_updQz ch _ _)).trans (onChan_addCount ch _ _ _)).at hlen⟩

/-- A later onset of a chain: the residual of its span. -/
theorem impactEnd_later {k : QzChain} (hplace : chainPlace (qzChan s ch) onset = some k) (hfull : ¬(k.full = true ∨ 3 ≤ k.place)) :
    ∃ i chain, impactEnd ch onset raw closed s = queueImpact ch i
      (addCount ch (onset + raw.length + 24) (fun a => { a with pileup := a.pileup + 1 })
        (updQz ch (fun c => { c with chain }) (updQz ch (fun c => { c with lastOnset := some s.clk.ms }) s))) := by
  have hbody : impactEnd ch onset raw closed s = _ := if_neg (impactEnd_span hst hlo hhi hweak)
  simp only [hplace] at hbody
  exact ⟨_, _, hbody.trans (if_neg (by simpa using hfull))⟩

/-- A span that counts is an impact of its channel and of no other. -/
theorem impactEnd_onChan : ∃ f, OnChan ch f s (impactEnd ch onset raw closed s) ∧ ∀ c, (f c).lastOnset = some s.clk.ms := by
  cases hplace : chainPlace (qzChan s ch) onset with
  | none =>
    rw [impactEnd_fresh hst hlo hhi hweak hplace]
    obtain ⟨f, hf, honset, -⟩ := onChan_queueImpact ch _ (updQz ch _ (updQz ch _ s))
    exact ⟨_, ((onChan_updQz ch _ s).trans (onChan_updQz ch _ _)).trans hf, fun c => honset _⟩
  | some k =>
    by_cases hfull : k.full = true ∨ 3 ≤ k.place
    · rw [impactEnd_full hst hlo hhi hweak hplace hfull]
      exact ⟨_, ((onChan_updQz ch _ s).trans (onChan_updQz ch _ _)).trans (onChan_addCount ch _ _ _), fun c => (counted_kept _ _ _ _).1⟩
    · obtain ⟨i, chain, heq⟩ := impactEnd_later (closed := closed) hst hlo hhi hweak hplace hfull
      rw [heq]
      obtain ⟨f, hf, honset, -⟩ := onChan_queueImpact ch i (addCount ch _ _ (updQz ch _ (updQz ch _ s)))
      exact ⟨_, (((onChan_updQz ch _ s).trans (onChan_updQz ch _ _)).trans (onChan_addCount ch _ _ _)).trans hf,
        fun c => (honset _).trans (counted_kept _ _ _ _).1⟩

end

/-- The head of the queue is classified with the crop table and counted in its window. -/
theorem classifyHead_onChan {ch : Nat} {s : State} {i : QzImpact} {rest : List QzImpact} (tab : Bytes) (hq : (qzChan s ch).queue = i :: rest) :
    OnChan ch (counted s.qz.base i.report (fun a => { a with
        grain := a.grain + (if qzClassify i.feats tab = 1 then 1 else 0)
        mog := a.mog + (if qzClassify i.feats tab = 2 then 1 else 0)
        unknown := a.unknown + (if qzClassify i.feats tab = 0 then 1 else 0)
        f0 := a.f0 + (if qzClassify i.feats tab = 1 then (nth i.feats 0 0).toNat else 0)
        clip := a.clip || i.clipped }) ∘ fun c => { c with queue := rest }) s (classifyHead ch tab s) := by
  simp only [classifyHead, hq]
  exact (onChan_updQz ch _ s).trans (onChan_addCount ch _ _ _)

/-! ### Taps and diagnosis start (R121 to R125, R131) -/

/-- `n` blind samples from a sample of the open window go to this window and the next. -/
def blinded (at' n : Nat) (c : QzChan) : QzChan :=
  { c with
    cur := { c.cur with blind := c.cur.blind + min n (1875 - at') }
    next := { c.next with blind := c.next.blind + (n - (1875 - at')) } }

theorem onChan_addBlind (ch at' n : Nat) (s : State) : OnChan ch (blinded at' n) s (addBlind ch at' n s) := rfl

theorem blinded_sum (at' n : Nat) (c : QzChan) : (blinded at' n c).cur.blind + (blinded at' n c).next.blind = c.cur.blind + c.next.blind + n := by
  simp only [blinded]
  omega

theorem sinceAtLeast_some {s : State} {x d : Nat} : sinceAtLeast s (some x) d = decide (x + d ≤ s.clk.ms) := rfl

/-- What bars a tap (R121, R122, R125). -/
theorem tapMayStart_barred {s : State} {ch quiet : Nat} {spanOpen : Bool}
    (h : (qzChan s ch).st ≠ .listen ∧ (qzChan s ch).st ≠ .fault ∨ spanOpen = true ∨ s.an.rail < 40000 ∨
      (∃ l, (qzChan s ch).tap.last = some l ∧ s.clk.ms < l + 2000) ∨ (∃ k ∈ s.qz.chans, k.st = .tap)) : tapMayStart s ch quiet spanOpen = false := by
  rcases h with ⟨hl, hf⟩ | hopen | hrail | ⟨l, hl, hlt⟩ | ⟨k, hk, htap⟩
  · simp [tapMayStart, hl, hf]
  · simp [tapMayStart, hopen]
  · simp [tapMayStart, hrail]
  · simp [tapMayStart, hl, sinceAtLeast_some, hlt]
  · have hany : s.qz.chans.any (fun k => k.st == .tap) = true := List.any_eq_true.mpr ⟨k, hk, by simp [htap]⟩
    simp [tapMayStart, hany]

/-- A forced tap on a quiet listening channel may start. -/
theorem tapMayStart_forced {s : State} {ch quiet : Nat} (hst : (qzChan s ch).st = .listen) (hforced : (qzChan s ch).tap.forced = true)
    (hlast : (qzChan s ch).tap.last = none) (hrail : 40000 ≤ s.an.rail) (hres : reservoirReady s = true)
    (hfree : ∀ k ∈ s.qz.chans, k.st ≠ .tap) : tapMayStart s ch quiet false = true := by
  have hany : s.qz.chans.any (fun k => k.st == .tap) = false := by simpa using hfree
  simp [tapMayStart, tapWanted, hst, hforced, hlast, sinceAtLeast, hrail, hres, hany]

/-! ### Faults and their end (R132, R134) -/

/-- The channel in FAULT with a cause. -/
def faulted (cause : Nat) (c : QzChan) : QzChan := { c with st := .fault, cause, diagPass := 0, chain := none }

theorem onChan_qzFault (ch cause det data : Nat) (s : State) : OnChan ch (faulted cause) s (qzFault ch cause det data s) :=
  (onChan_updQz ch (faulted cause) s).congr (told_raise _ _ _ _ _).qz

/-- The channel back in LISTEN. -/
def faultCleared (c : QzChan) : QzChan := { c with st := .listen, cause := 0, diagPass := 0 }

theorem onChan_qzClearFault (ch : Nat) (s : State) : OnChan ch faultCleared s (qzClearFault ch s) :=
  (onChan_updQz ch faultCleared s).congr ((told_rawEvent _ _ _ _).trans (told_foldl (fun x d => told_clearActive d _ x) _ _)).qz

/-! ### The analysis of a tap (R126 to R129) -/

theorem measured_of_noInjs {s : State} (h : s.ev.injs = []) (det inst : Nat) (v : Int) : measured s det inst v = v := by
  simp [measured, injFor, h]

/-- The channel after a tap whose result is `res`, whose calibration would be `cal`, and which enters a TEACH by `teach`. -/
def tapJudged (res swapAuto : Nat) (cal : Nat × Nat) (now : Nat) (teach : QzTeach → QzTeach) (c : QzChan) : QzChan :=
  { c with
    invNext := if res = 6 ∧ swapAuto = 1 then !c.invNext else c.invNext
    tap := { c.tap with
      analysis := false, result := res
      nextCal := if res = 1 ∨ (res = 6 ∧ swapAuto = 1) then some cal else c.tap.nextCal
      noResp := if res = 4 then c.tap.noResp + 1 else 0
      good := if res = 1 then wrapU 16 (c.tap.good + 1) else c.tap.good
      other := if res = 1 then c.tap.other else wrapU 16 (c.tap.other + 1)
      lastGood := if res = 1 then some now else c.tap.lastGood
      stale := if res = 1 then false else c.tap.stale
      teach := c.tap.teach.map teach } }

/-- The samples of a tap with the channel's sign. -/
def tapSamples (c : QzChan) (y : List Int) : List Int := if c.inverted then y.map (fun v => -v) else y

/-- The result of a tap by Table 4-8. -/
def tapOutcome (s : State) (ch : Nat) (y : List Int) : Nat :=
  let z := tapSamples (qzChan s ch) y
  tapResult z (ringNegative z) (ringAmp z) (paramN s (pQzRefAmp ch)) (paramN s pQzTapLevel) (paramN s pQzGcMin) (paramN s pQzGcMax)

theorem tapAnalysis_onChan {ch : Nat} {y : List Int} {s : State} (hinj : s.ev.injs = []) :
    let c := qzChan s ch
    let res := tapOutcome s ch y
    ∃ cal teach g, OnChan ch (g ∘ tapJudged res (paramN s pQzSwapAuto) cal s.clk.ms teach) s (tapAnalysis ch y s) ∧
      (∀ f, ringFreq (tapSamples c y) = some f → cal = calUpdate c.tap.gc c.tap.f (paramN s (pQzRefAmp ch)) (ringAmp (tapSamples c y)) f
        (paramN s pQzTapLevel) (paramN s pQzCalSmooth)) ∧
      (g = faulted 3 ∧ c.st = .listen ∧ res = 4 ∧ 3 ≤ c.tap.noResp + 1 ∨
        g = faulted 4 ∧ c.st = .listen ∧ res = 6 ∧ paramN s pQzSwapAuto ≠ 1 ∨
        (¬(c.st = .listen ∧ res = 4 ∧ 3 ≤ c.tap.noResp + 1) ∧ ¬(c.st = .listen ∧ res = 6 ∧ paramN s pQzSwapAuto ≠ 1)) ∧
          (g = id ∨ g = faultCleared ∧ c.st = .fault)) := by
  intro c res
  unfold tapAnalysis
  extract_lets y' level ref amp pol neg res' fr s0 swapOk upd cal s1 s2 s3 fref s4
  have hamp : amp = ringAmp y' := by
    dsimp only [amp]
    rw [measured_of_noInjs hinj]
    rfl
  have hneg : neg = ringNegative y' := by
    dsimp only [neg, pol]
    rw [measured_of_noInjs hinj]
    cases ringNegative y' <;> rfl
  have hres : res' = res := by
    dsimp only [res']
    rw [hamp, hneg]
    rfl
  have hs0 : s0.qz = s.qz := by
    dsimp only [s0, fr]
    split
    · rfl
    · exact frame_freshNat _ .qz (by decide)
  have h1 : OnChan ch (tapJudged res (paramN s pQzSwapAuto) cal s.clk.ms (teachTap res' amp fr.1 level)) s s1 := by
    have hswap : (swapOk = true) = (res = 6 ∧ paramN s pQzSwapAuto = 1) := by
      dsimp only [swapOk]
      simp [hres]
    have hupd : (upd = true) = (res = 1 ∨ (res = 6 ∧ paramN s pQzSwapAuto = 1)) := by
      dsimp only [upd]
      simp [hres, hswap]
    have hf : (fun x : QzChan => { x with
        invNext := if swapOk then !x.invNext else x.invNext
        tap := { x.tap with
          analysis := false, result := res'
          nextCal := if upd then some cal else x.tap.nextCal
          noResp := if res' = 4 then x.tap.noResp + 1 else 0
          good := if res' = 1 then wrapU 16 (x.tap.good + 1) else x.tap.good
          other := if res' = 1 then x.tap.other else wrapU 16 (x.tap.other + 1)
          lastGood := if res' = 1 then some s.clk.ms else x.tap.lastGood
          stale := if res' = 1 then false else x.tap.stale
          teach := x.tap.teach.map (teachTap res' amp fr.1 level) } }) =
        tapJudged res (paramN s pQzSwapAuto) cal s.clk.ms (teachTap res' amp fr.1 level) := by
      funext x
      simp only [hswap, hupd, hres, tapJudged]
    rw [OnChan, ← hs0, ← hf]
    rfl
  have h2 : Told s1 s2 := told_ite (told_clearActive _ _ _) (.refl _)
  have h4 : Told s1 s4 := h2.trans ((told_detect _ _ _ _ _).trans (told_ite (told_detect _ _ _ _ _) (.refl _)))
  have h4 := h1.congr h4.qz
  have hcal : ∀ f, ringFreq y' = some f → cal = calUpdate c.tap.gc c.tap.f ref (ringAmp y') f level (paramN s pQzCalSmooth) := by
    intro f hf
    have hfr : fr.1 = f := by
      dsimp only [fr]
      rw [hf]
    dsimp only [cal]
    rw [hamp, hfr]
  have hkeeps : (decide (c.st = .listen) && decide (res' = 6) && !swapOk) = true ↔ c.st = .listen ∧ res = 6 ∧ paramN s pQzSwapAuto ≠ 1 := by
    dsimp only [swapOk]
    rw [hres]
    by_cases h6 : res = 6 <;> simp [h6]
  by_cases hnoResp : c.st = .listen ∧ res = 4 ∧ 3 ≤ c.tap.noResp + 1
  · refine ⟨cal, teachTap res' amp fr.1 level, faulted 3, ?_, hcal, .inl ⟨rfl, hnoResp⟩⟩
    rw [if_pos (by simpa [hres, and_assoc] using hnoResp)]
    exact h4.trans (onChan_qzFault _ _ _ _ _)
  · rw [if_neg (by simpa [hres] using hnoResp)]
    by_cases hswapped : c.st = .listen ∧ res = 6 ∧ paramN s pQzSwapAuto ≠ 1
    · refine ⟨cal, teachTap res' amp fr.1 level, faulted 4, ?_, hcal, .inr (.inl ⟨rfl, hswapped⟩)⟩
      rw [if_pos (hkeeps.mpr hswapped)]
      exact h4.trans (onChan_qzFault _ _ _ _ _)
    · rw [if_neg (fun h => hswapped (hkeeps.mp h))]
      split
      · next hclear =>
        refine ⟨cal, teachTap res' amp fr.1 level, faultCleared, h4.trans (onChan_qzClearFault _ _), hcal, .inr (.inr ⟨⟨hnoResp, hswapped⟩, .inr ⟨rfl, ?_⟩⟩)⟩
        simp only [Bool.and_eq_true, decide_eq_true_eq] at hclear
        obtain ⟨⟨⟨⟨⟨hst, -⟩, -⟩, -⟩, -⟩, -⟩ := hclear
        exact hst
      · exact ⟨cal, teachTap res' amp fr.1 level, id, h4, hcal, .inr (.inr ⟨⟨hnoResp, hswapped⟩, .inl rfl⟩)⟩

/-! ### The end of a diagnosis (R131, R134) -/

theorem diagMeasured_of_noInjs {s : State} (h : s.ev.injs = []) (ch vp vn vpn : Nat) : diagMeasured s ch vp vn vpn = diagResult vp vn vpn := by
  simp only [diagMeasured, measured_of_noInjs h, Int.toNat_natCast]

/-- The channel with the result of a DIAG, back in the state before it. -/
def qzDiagnosed (r : Nat) (c : QzChan) : QzChan := { c with diagResult := r, st := if c.cause = 0 then .listen else .fault }

/-- What a DIAG with result `r` makes of a channel `c` after that. -/
def diagDecided (c : QzChan) (r : Nat) : QzChan → QzChan :=
  if c.cause = 0 then if r = 1 ∨ r = 6 then id else faulted 2
  else if r = 1 then if 1 ≤ c.diagPass ∧ c.cause ≠ 4 then faultCleared else fun x => { x with diagPass := x.diagPass + 1 }
  else fun x => { x with diagPass := 0 }

theorem diagDecided_result (c : QzChan) (r : Nat) (x : QzChan) : (diagDecided c r x).diagResult = x.diagResult := by
  unfold diagDecided
  split
  · split <;> rfl
  · split
    · split <;> rfl
    · rfl

theorem diagSequenceEnd_onChan {ch vp vn vpn : Nat} {s : State} (hst : (qzChan s ch).st = .diag)
    (hinj : s.ev.injs = []) :
    OnChan ch (diagDecided (qzChan s ch) (diagResult vp vn vpn) ∘ qzDiagnosed (diagResult vp vn vpn)) s (diagSequenceEnd ch vp vn vpn s) := by
  rw [diagSequenceEnd, if_neg (by simp [hst])]
  extract_lets r s1 s2
  have hr : r = diagResult vp vn vpn := diagMeasured_of_noInjs hinj _ _ _ _
  have h2 : OnChan ch (qzDiagnosed r) s s2 := (onChan_updQz ch (qzDiagnosed r) s).congr (told_detect _ _ _ _ _).qz
  rw [← hr, diagDecided]
  simp only [Bool.or_eq_true, Bool.and_eq_true, decide_eq_true_eq]
  split
  · split
    · exact h2
    · exact h2.trans (onChan_qzFault _ _ _ _ _)
  · split
    · split
      · exact h2.trans (onChan_qzClearFault _ _)
      · exact h2.trans (onChan_updQz _ _ _)
    · exact h2.trans (onChan_updQz _ _ _)

/-! ### The statement -/

/-- Settles O36, event by event on the channel. -/
theorem quartzChannelsAct : Obligations.QuartzChannelsAct := by
  intro ch s c only others at' hchans
  have hlen : ch.val < s.qz.chans.length := by omega
  refine ⟨fun onset raw closed => ?_, fun hq => ?_, fun i rest hq hwin => ?_, fun hst hen => ?_, fun sample quiet spanOpen hsample => ?_, ?_,
    fun y => ?_, fun d hd hdef hlate hrail => ?_, fun hd => ?_, fun g hst hstale hg hlate => ?_, fun hstale => ?_, fun ht => ?_, fun u hu => ?_, ?_,
    fun vp vn vpn => ?_, fun mv => ?_⟩
  case refine_1 =>
    intro g x report weak
    refine ⟨fun h => congrArg Host.Outcome.next (impactEnd_none h), fun hst hlo hhi hweak => ?_⟩
    obtain ⟨f, hf, honset⟩ := impactEnd_onChan (onset := onset) (closed := closed) hst hlo hhi hweak
    refine ⟨_, rfl, ?_, frame_execImpactEnd ch onset raw closed s _ rfl, hf.others, fun hplace hroom => ?_, fun k hplace hfull => ?_⟩
    · simp only [at', hf.at hlen, honset]
    · have h := impactEnd_fresh_queued (closed := closed) hst hlo hhi hweak hlen hplace hroom
      rw [show at' _ = _ from h]
      exact ⟨rfl, rfl, rfl, rfl⟩
    · obtain ⟨chain, h⟩ := impactEnd_full_counted (closed := closed) hst hlo hhi hweak hlen hplace hfull
      rw [show at' _ = _ from h]
      refine ⟨(counted_kept _ _ _ _).2, fun hin => ?_, fun hout => ?_⟩
      · rw [counted, if_pos hin]
        exact ⟨rfl, rfl⟩
      · rw [counted, if_neg (Nat.not_lt.mpr hout)]
        exact ⟨rfl, rfl⟩
  case refine_2 =>
    have hq : (qzChan s ch).queue = [] := hq
    refine congrArg Host.Outcome.next ?_
    simp only [classifyHead, hq]
  case refine_3 =>
    intro k
    have h := classifyHead_onChan (cropTable s s.qz.crop) hq
    refine ⟨_, rfl, ?_⟩
    rw [show at' _ = _ from (h.at hlen).trans (if_pos hwin)]
    exact ⟨rfl, frame_execImpactClassify ch s _ rfl, h.others, rfl, rfl, rfl, rfl, rfl⟩
  case refine_4 =>
    have hst : (qzChan s ch).st = .listen := hst
    refine ⟨fun l (hl : (qzChan s ch).tap.last = some l) (hdue : (qzChan s ch).tap.dueAt = none) hlate => ?_,
      fun l (hl : (qzChan s ch).tap.last = some l) hearly => ?_, fun l (hl : (qzChan s ch).tap.last = some l) hlate => ?_,
      fun l (hl : (qzChan s ch).tap.last = some l) hearly => ?_⟩
    · refine congrArg Host.Outcome.next ((if_pos (by simp [hst, hen, hdue, hl, sinceAtLeast_some, hlate])).trans ?_)
      exact updQz_congr (by simp only [hl])
    · exact congrArg Host.Outcome.next (if_neg (by simp [hl, sinceAtLeast_some, hearly]))
    · exact congrArg Host.Outcome.next (if_pos (by simp [hst, hen, hl, sinceAtLeast_some, hlate]))
    · exact congrArg Host.Outcome.next (if_neg (by simp [hl, sinceAtLeast_some, hearly]))
  case refine_5 =>
    have hin : decide (sample < 1875) = true := decide_eq_true hsample
    refine ⟨fun h => ?_, tapMayStart_barred, fun hst hforced hopen hlast hrail hres hfree => ?_, fun h => ?_, fun h => ?_⟩
    · exact congrArg Host.Outcome.next (if_neg (by simp [h]))
    · subst hopen
      have hmay : tapMayStart s ch quiet false = true := tapMayStart_forced hst hforced hlast hrail hres hfree
      have hexec : exec (.tapStart ch sample quiet false) s = .next (tapStart ch sample s) :=
        congrArg Host.Outcome.next (if_pos (by simp [hmay, hin]))
      have h : OnChan ch (blinded sample 844 ∘ _) s (tapStart ch sample s) := (onChan_updQz ch _ s).trans (onChan_addBlind ch sample 844 _)
      refine ⟨_, hexec, ?_⟩
      rw [show at' _ = _ from h.at hlen]
      exact ⟨rfl, frame_execTapStart ch sample quiet false s _ hexec, h.others, rfl, blinded_sum _ _ _⟩
    · exact congrArg Host.Outcome.next (if_neg (by simp [h]))
    · have hexec : exec (.diagStart ch sample quiet spanOpen) s = _ := congrArg Host.Outcome.next (if_pos (by simp [h, hin]))
      have h : OnChan ch (blinded sample 1875 ∘ fun c => { c with
          st := .diag, diagDue := false, diagReq := false, lastDiag := some s.clk.ms, chain := none }) s _ :=
        (onChan_updQz ch _ s).trans (onChan_addBlind ch sample 1875 _)
      refine ⟨_, hexec, ?_⟩
      rw [show at' _ = _ from h.at hlen]
      exact ⟨rfl, rfl, rfl, rfl, frame_execDiagStart ch sample quiet spanOpen s _ hexec, h.others, blinded_sum _ _ _⟩
  case refine_6 => exact ⟨fun h => congrArg Host.Outcome.next (if_neg h), fun h => congrArg Host.Outcome.next (if_pos h)⟩
  case refine_7 =>
    refine ⟨fun h => congrArg Host.Outcome.next (if_neg (ne_true_of_eq_false h)), ?_⟩
    intro h hinj z ref res
    have hexec : exec (.tapAnalysisDone ch y) s = .next (tapAnalysis ch y s) := congrArg Host.Outcome.next (if_pos h)
    obtain ⟨cal, teach, g, hon, hcal, hg⟩ := tapAnalysis_onChan (ch := ch) (y := y) hinj
    have hat : at' (tapAnalysis ch y s) = g (tapJudged res (paramN s pQzSwapAuto) cal s.clk.ms teach c) := hon.at hlen
    have htap : (at' (tapAnalysis ch y s)).tap = (tapJudged res (paramN s pQzSwapAuto) cal s.clk.ms teach c).tap := by
      rw [hat]
      rcases hg with ⟨rfl, -⟩ | ⟨rfl, -⟩ | ⟨-, rfl | ⟨rfl, -⟩⟩ <;> rfl
    refine ⟨_, hexec, ?_, ?_, ?_, ?_, fun hne hnoswap => ?_, fun f hgood hf => ?_, fun hst hno hthree => ?_, fun hst hswapped hauto => ?_,
      fun hst hgood => ?_, hon.others, onlyIn_mono (frame_execTapAnalysisDone ch y s _ hexec) rfl⟩
    · rw [htap]; rfl
    · rw [htap]; rfl
    · rw [htap]; rfl
    · rw [htap]; rfl
    · rw [htap]
      exact if_neg (by tauto)
    · rw [htap]
      exact (if_pos (.inl hgood)).trans (congrArg some (hcal f hf))
    · rcases hg with ⟨rfl, -⟩ | ⟨rfl, -, h6, -⟩ | ⟨⟨hnot, -⟩, -⟩
      · rw [hat]
        exact ⟨rfl, rfl⟩
      · exact absurd (hno.symm.trans h6) (by decide)
      · exact absurd ⟨hst, hno, hthree⟩ hnot
    · rcases hg with ⟨rfl, -, h4, -⟩ | ⟨rfl, -⟩ | ⟨⟨-, hnot⟩, -⟩
      · exact absurd (hswapped.symm.trans h4) (by decide)
      · rw [hat]
        exact ⟨rfl, rfl⟩
      · exact absurd ⟨hst, hswapped, hauto⟩ hnot
    · rw [hat]
      rcases hg with ⟨-, -, h4, -⟩ | ⟨-, -, h6, -⟩ | ⟨-, rfl | ⟨-, hfault⟩⟩
      · exact absurd (hgood.symm.trans h4) (by decide)
      · exact absurd (hgood.symm.trans h6) (by decide)
      · exact hst
      · exact absurd (hst.symm.trans hfault) (by decide)
  case refine_8 =>
    have hd : (qzChan s ch).tap.dueAt = some d := hd
    have hdef : (qzChan s ch).tap.deferred = false := hdef
    have hexec : exec (.tapDeferral ch) s = _ :=
      congrArg Host.Outcome.next (if_pos (by simp [hd, hdef, sinceAtLeast_some, hlate, hrail]))
    have h := (onChan_updQz ch (fun c => { c with tap := { c.tap with deferred := true } })
      { s with qz := { s.qz with deferrals := wrapU 32 (s.qz.deferrals + 1) } }).congr (told_happen detTapDeferral (ch + 1) 0 _).qz
    exact ⟨_, hexec, congrArg QzChan.tap (h.at hlen), (congrArg Quartz.deferrals h).trans rfl, h.others,
      onlyIn_mono (frame_execTapDeferral ch s _ hexec) rfl⟩
  case refine_9 => exact congrArg Host.Outcome.next (if_neg (by simp [show (qzChan s ch).tap.dueAt = none from hd]))
  case refine_10 =>
    have hg : (qzChan s ch).tap.lastGood = some g := hg
    have hexec : exec (.calibrationStale ch) s = _ :=
      congrArg Host.Outcome.next (if_pos (by simp [show (qzChan s ch).st ≠ .off from hst, show (qzChan s ch).tap.stale = false from hstale, hg, elapsed, hlate]))
    have h := (onChan_updQz ch (fun c => { c with tap := { c.tap with stale := true } }) s).congr (told_raise detCalibrationStale (ch + 1) 0 true _).qz
    exact ⟨_, hexec, congrArg QzChan.tap (h.at hlen), h.others, onlyIn_mono (frame_execCalibrationStale ch s _ hexec) rfl⟩
  case refine_11 => exact congrArg Host.Outcome.next (if_neg (by simp [show (qzChan s ch).tap.stale = true from hstale]))
  case refine_12 =>
    have ht : (qzChan s ch).tap.teach = none := ht
    refine congrArg Host.Outcome.next ?_
    simp only [ht]
  case refine_13 =>
    have hu : (qzChan s ch).tap.teach = some u := hu
    refine ⟨fun hfew => ?_, fun hall hbad => ?_, fun hall hgood => ?_⟩
    · refine congrArg Host.Outcome.next ?_
      simp only [hu]
      exact if_pos hfew
    · refine congrArg Host.Outcome.next ?_
      simp only [hu]
      rw [if_neg (Nat.not_lt.mpr hall), if_pos hbad]
    · have hexec : exec (.teachDone ch) s = .next (writeSettings [(pQzRefAmp ch, (u.sumA / 8 : Nat)), (pQzRefFreq ch, (u.sumF / 8 : Nat))]
          (updTap ch (fun x => { x with teach := none, teachFailed := false, nextCal := some (65536, u.sumF / 8) }) s)) := by
        refine congrArg Host.Outcome.next ?_
        simp only [hu]
        rw [if_neg (Nat.not_lt.mpr hall), if_neg (ne_true_of_eq_false hgood)]
      have h := (onChan_updQz ch (fun c => { c with tap := { c.tap with teach := none, teachFailed := false, nextCal := some (65536, u.sumF / 8) } }) s).congr
        (frame_writeSettings [(pQzRefAmp ch, (u.sumA / 8 : Nat)), (pQzRefFreq ch, (u.sumF / 8 : Nat))] _ .qz (by decide))
      exact ⟨_, hexec, frame_execTeachDone ch s _ hexec, h.others, congrArg QzChan.tap (h.at hlen), rfl⟩
  case refine_14 =>
    refine ⟨fun hst hidle hlast => ?_, fun h => ?_⟩
    · have hsince : sinceAtLeast s (qzChan s ch).lastDiag (1000 * paramN s pQzDiagIdlePeriod) = true := by
        cases hl : (qzChan s ch).lastDiag with
        | none => rfl
        | some l => exact decide_eq_true (hlast l hl)
      exact congrArg Host.Outcome.next (if_pos (by simp [show (qzChan s ch).st ≠ .off from hst, show qzIdle s (qzChan s ch) = true from hidle, hsince]))
    · refine congrArg Host.Outcome.next (if_neg ?_)
      rcases h with h | h
      · simp [show (qzChan s ch).st = .off from h]
      · simp [show qzIdle s (qzChan s ch) = false from h]
  case refine_15 =>
    refine ⟨fun h => congrArg Host.Outcome.next (if_pos (by simpa using h)), ?_⟩
    intro hst hinj r
    have h := diagSequenceEnd_onChan (vp := vp) (vn := vn) (vpn := vpn) hst hinj
    have hat : at' (diagSequenceEnd ch vp vn vpn s) = diagDecided c r (qzDiagnosed r c) := h.at hlen
    refine ⟨_, rfl, ?_, h.others, onlyIn_mono (frame_execDiagSequenceEnd ch vp vn vpn s _ rfl) rfl, fun h0 hr => ?_, fun h0 h1 h6 => ?_,
      fun h0 h1 hpass hcause => ?_, fun h0 h1 hpass => ?_, fun h0 h1 => ?_⟩
    · rw [show at' _ = _ from hat, diagDecided_result]
      rfl
    · rw [show at' _ = _ from hat, diagDecided, if_pos h0, if_pos hr]
      exact ⟨if_pos h0, h0⟩
    · rw [show at' _ = _ from hat, diagDecided, if_pos h0, if_neg (not_or.mpr ⟨h1, h6⟩)]
      exact ⟨rfl, rfl⟩
    · rw [show at' _ = _ from hat, diagDecided, if_neg h0, if_pos h1, if_pos ⟨hpass, hcause⟩]
      exact ⟨rfl, rfl⟩
    · rw [show at' _ = _ from hat, diagDecided, if_neg h0, if_pos h1, if_neg (by omega)]
      exact ⟨if_neg h0, congrArg (· + 1) hpass⟩
    · rw [show at' _ = _ from hat, diagDecided, if_neg h0, if_neg h1]
      exact ⟨if_neg h0, rfl⟩
  case refine_16 =>
    refine ⟨fun h => congrArg Host.Outcome.next (if_neg ?_), fun hst hout => ?_, fun hst hlo hhi hforced => congrArg Host.Outcome.next (if_neg ?_)⟩
    · simp [show (qzChan s ch).st ≠ .listen from h]
    · have hexec : exec (.asPinRangeFault ch mv) s = .next (qzFault ch 1 detAsPinOutOfRange 1 s) :=
        congrArg Host.Outcome.next (if_pos (by simpa [show (qzChan s ch).st = .listen from hst] using hout.elim (fun h => .inl (.inl h)) fun h => .inl (.inr h)))
      have h := onChan_qzFault ch 1 detAsPinOutOfRange 1 s
      exact ⟨_, hexec, congrArg QzChan.st (h.at hlen), congrArg QzChan.cause (h.at hlen), h.others,
        onlyIn_mono (frame_execAsPinRangeFault ch mv s _ hexec) rfl⟩
    · simp [hforced]
      omega

end Sys2Proof.Proofs
end

section
/-!
PROOFS. The valve drive: what its operations do to the channel they name and leave of the others (R170 to R195).
-/

namespace Sys2Proof.Proofs

open Sys2Proof.Machine Sys2Proof.Safety

/-! ### Runs of the valve drive -/

/-- `t` is `s` after operations on the channels that `C` holds of: nothing else of the drive's channels, no parameter and no injection changed. -/
structure VdRun (C : Nat → Prop) (s t : State) : Prop where
  frame : onlyIn (.vd :: .free :: tells) s t
  work : t.pf.work = s.pf.work
  settings : t.pf.settings = s.pf.settings
  noInjs : s.ev.injs = [] → t.ev.injs = []
  chans : t.vd.chans.length = s.vd.chans.length
  banks : t.vd.banks.length = s.vd.banks.length
  away : ∀ j, ¬C j → vdChan t j = vdChan s j

theorem VdRun.refl (C : Nat → Prop) (s : State) : VdRun C s s := ⟨onlyIn_refl _ _, rfl, rfl, id, rfl, rfl, fun _ _ => rfl⟩

theorem VdRun.trans {C : Nat → Prop} {s t u : State} (h : VdRun C s t) (h' : VdRun C t u) : VdRun C s u where
  frame := onlyIn_step h'.frame rfl h.frame
  work := h'.work.trans h.work
  settings := h'.settings.trans h.settings
  noInjs := h'.noInjs ∘ h.noInjs
  chans := h'.chans.trans h.chans
  banks := h'.banks.trans h.banks
  away := fun j hj => (h'.away j hj).trans (h.away j hj)

/-- The same, from the last operation backwards, as a state is written. -/
theorem vdRun_step {C : Nat → Prop} {s t u : State} (h' : VdRun C t u) (h : VdRun C s t) : VdRun C s u := h.trans h'

theorem VdRun.mono {C C' : Nat → Prop} {s t : State} (h : VdRun C s t) (hC : ∀ j, C j → C' j) : VdRun C' s t :=
  { h with away := fun j hj => h.away j (fun hc => hj (hC j hc)) }

theorem vdRun_foldl {α : Type} {C : Nat → Prop} {f : State → α → State} {l : List α} (hf : ∀ x, ∀ a ∈ l, VdRun C x (f x a)) (s : State) :
    VdRun C s (l.foldl f s) := by
  induction l generalizing s with
  | nil => exact .refl C s
  | cons a l ih => exact (hf s a List.mem_cons_self).trans (ih (fun x b hb => hf x b (List.mem_cons_of_mem _ hb)) _)

theorem vdRun_ite {C : Nat → Prop} {c : Prop} [Decidable c] {s a b : State} (ha : VdRun C s a) (hb : VdRun C s b) :
    VdRun C s (if c then a else b) := by
  split
  · exact ha
  · exact hb

theorem Told.settings {s t : State} (h : Told s t) : t.pf.settings = s.pf.settings := (congrArg Profiles.settings h.profile).trans rfl

theorem Told.vdRun {s t : State} (C : Nat → Prop) (h : Told s t) : VdRun C s t where
  frame := onlyIn_mono h.frame rfl
  work := h.work
  settings := h.settings
  noInjs := h.noInjs
  chans := congrArg (fun v => v.chans.length) (h.frame .vd (by decide))
  banks := congrArg (fun v => v.banks.length) (h.frame .vd (by decide))
  away := fun j _ => vdChan_congr (h.frame .vd (by decide)) j

theorem VdRun.paramN {C : Nat → Prop} {s t : State} (h : VdRun C s t) (id : Nat) : paramN t id = paramN s id :=
  paramN_congr h.settings h.work (h.frame .rs (by decide)) id

theorem VdRun.clk {C : Nat → Prop} {s t : State} (h : VdRun C s t) : t.clk = s.clk := h.frame .clk (by decide)

theorem vdChan_updVd_ne {s : State} {ch j : Nat} (f : VdChan → VdChan) (h : j ≠ ch) : vdChan (updVd ch f s) j = vdChan s j :=
  nth_updAt_ne _ _ _ h.symm

theorem vdRun_updVd {C : Nat → Prop} {ch : Nat} (hch : C ch) (f : VdChan → VdChan) (s : State) : VdRun C s (updVd ch f s) where
  frame := onlyIn_mono (frame_updVd ch f s) rfl
  work := rfl
  settings := rfl
  noInjs := id
  chans := length_updAt _ _ _
  banks := rfl
  away := fun _ hj => vdChan_updVd_ne f fun h => hj (h ▸ hch)

theorem vdRun_updPulse {C : Nat → Prop} {ch : Nat} (hch : C ch) (f : VdPulse → VdPulse) (s : State) : VdRun C s (updPulse ch f s) :=
  vdRun_updVd hch _ s

theorem vdRun_updBank (C : Nat → Prop) (k : Nat) (f : VdBank → VdBank) (s : State) : VdRun C s (updBank k f s) :=
  ⟨onlyIn_mono (frame_updBank k f s) rfl, rfl, rfl, id, rfl, length_updAt _ _ _, fun _ _ => rfl⟩

/-- The channels of a bank. -/
theorem mem_bankChans {k c : Nat} (h : c ∈ bankChans k) : c / 3 = k := by
  simp only [bankChans, List.mem_cons, List.not_mem_nil, or_false] at h
  omega

theorem vdRun_settleBank {C : Nat → Prop} {k : Nat} (hC : ∀ c ∈ bankChans k, C c) (t : Nat) (s : State) : VdRun C s (settleBank k t s) := by
  have hadmit : VdRun C s (admitDeferred k t s) := vdRun_foldl (fun x c hc => by
    have hmem := hC c (List.mem_filter.mp ((mem_sortBy_iff _ _ _).mp hc)).1
    exact vdRun_ite ((vdRun_updVd hmem _ _).trans (vdRun_updPulse hmem _ _)) (.refl C x)) s
  have hpull (x : State) : VdRun C x (startPull k t x) :=
    vdRun_ite (.refl C x) (vdRun_foldl (fun y c hc => vdRun_ite (vdRun_updPulse (hC c hc) _ y) (.refl C y)) x)
  have hduty (x : State) : VdRun C x (applyDuty k x) := vdRun_foldl (fun y c hc => vdRun_updVd (hC c hc) _ y) x
  exact (hadmit.trans ((hpull _).trans (hduty _))).trans (vdRun_updBank C k _ _)

/-! ### What settling a bank makes of a channel -/

theorem vdChan_updVd_or (a j : Nat) (f : VdChan → VdChan) (s : State) :
    vdChan (updVd a f s) j = vdChan s j ∨ (j = a ∧ vdChan (updVd a f s) j = f (vdChan s j)) := by
  by_cases hj : j = a
  · subst hj
    by_cases hlt : j < s.vd.chans.length
    · exact .inr ⟨rfl, vdChan_updVd f hlt⟩
    · refine .inl ?_
      have hout : ∀ l : List VdChan, l.length ≤ j → nth l j vdChan0 = vdChan0 := fun l hl => by
        simp [nth, List.getD_eq_getElem?_getD, List.getElem?_eq_none hl]
      rw [vdChan, vdChan, hout _ (Nat.le_of_not_lt hlt), hout]
      exact (length_updAt _ _ _).trans_le (Nat.le_of_not_lt hlt)
  · exact .inl (vdChan_updVd_ne f hj)

/-- A relation of channels that every step of a fold keeps. -/
theorem chan_foldl {α : Type} {R : VdChan → VdChan → Prop} (hrefl : ∀ c, R c c) (htrans : ∀ {c d e}, R c d → R d e → R c e) {j : Nat}
    {f : State → α → State} (hf : ∀ x a, R (vdChan x j) (vdChan (f x a) j)) (l : List α) (s : State) :
    R (vdChan s j) (vdChan (l.foldl f s) j) := by
  induction l generalizing s with
  | nil => exact hrefl _
  | cons a l ih => exact htrans (hf s a) (ih _)

/-- `d` is `c` but for the duty applied and, in PULL_BAT, the instant at which the pull begins. -/
def Resettled (c d : VdChan) : Prop :=
  ∃ a g, d = { c with applied := a, pulse := c.pulse.map g } ∧
    (∀ p : VdPulse, g p = { p with onAt := (g p).onAt, startAt := (g p).startAt }) ∧ (c.st ≠ .pullBat → ∀ p, g p = p)

theorem Resettled.refl (c : VdChan) : Resettled c c := ⟨c.applied, id, by rw [Option.map_id]; rfl, fun _ => rfl, fun _ _ => rfl⟩

theorem Resettled.trans {c d e : VdChan} (h : Resettled c d) (h' : Resettled d e) : Resettled c e := by
  obtain ⟨a, g, rfl, hg, hrest⟩ := h
  obtain ⟨a', g', rfl, hg', hrest'⟩ := h'
  refine ⟨a', g' ∘ g, by rw [← Option.map_map], fun p => ?_, fun hst p => ?_⟩
  · have h1 := hg p
    have h2 := hg' (g p)
    rw [Function.comp_apply, h2, h1]
  · rw [Function.comp_apply, hrest hst, hrest' hst]

theorem resettled_startPull (k t j : Nat) (s : State) : Resettled (vdChan s j) (vdChan (startPull k t s) j) := by
  unfold startPull
  split
  · exact .refl _
  · refine chan_foldl Resettled.refl Resettled.trans (fun x a => ?_) _ s
    split
    · next hst =>
      rcases vdChan_updVd_or a j (fun c => { c with pulse := c.pulse.map fun p => if p.onAt.isNone then { p with onAt := some t, startAt := t } else p }) x
        with h | ⟨rfl, h⟩
      · rw [updPulse, h]
        exact .refl _
      · rw [updPulse, h]
        refine ⟨_, _, rfl, fun p => ?_, fun hne => absurd hst hne⟩
        split <;> rfl
    · exact .refl _

theorem resettled_applyDuty (k j : Nat) (s : State) : Resettled (vdChan s j) (vdChan (applyDuty k s) j) := by
  refine chan_foldl Resettled.refl Resettled.trans (fun x a => ?_) _ s
  rcases vdChan_updVd_or a j (fun c => { c with applied := if bankBoost s k then scaledDuty c.duty s.an.vbat s.an.rail else c.duty }) x
    with h | ⟨rfl, h⟩
  · rw [h]
    exact .refl _
  · rw [h]
    exact ⟨_, id, by rw [Option.map_id]; rfl, fun _ => rfl, fun _ _ => rfl⟩

/-- Only a deferred channel is admitted to BOOST. -/
theorem admitDeferred_others {k t j : Nat} {s : State} (hst : (vdChan s j).st ≠ .defer) : vdChan (admitDeferred k t s) j = vdChan s j := by
  refine (vdRun_foldl (C := fun c => c ≠ j) (fun x c hc => ?_) s).away j (fun h => h rfl)
  have hne : c ≠ j := by
    rintro rfl
    have hdefer := (List.mem_filter.mp ((mem_sortBy_iff _ _ _).mp hc)).2
    exact hst (beq_iff_eq.mp hdefer)
  exact vdRun_ite ((vdRun_updVd (C := fun c => c ≠ j) hne _ _).trans (vdRun_updPulse (C := fun c => c ≠ j) hne _ _)) (.refl _ x)

/-- A channel that is not deferred keeps its state when its bank is settled. -/
theorem resettled_settleBank {k t j : Nat} {s : State} (hst : (vdChan s j).st ≠ .defer) : Resettled (vdChan s j) (vdChan (settleBank k t s) j) := by
  have h1 := resettled_startPull k t j (admitDeferred k t s)
  rw [admitDeferred_others hst] at h1
  exact h1.trans (resettled_applyDuty k j _)

/-- Settling a bank leaves the states of channels that are not deferred. -/
theorem settleBank_st {k t j : Nat} {s : State} (hst : (vdChan s j).st ≠ .defer) :
    ∃ a, (vdChan s j).st ≠ .pullBat → vdChan (settleBank k t s) j = { vdChan s j with applied := a } := by
  obtain ⟨a, g, h, -, hid⟩ := resettled_settleBank (k := k) (t := t) hst
  refine ⟨a, fun hpull => h.trans ?_⟩
  have hg : g = id := funext (hid hpull)
  rw [hg, Option.map_id]
  rfl

/-- What is kept of a channel's fire and pulse, deferred or not. -/
structure Carries (c d : VdChan) : Prop where
  fire : d.fire = c.fire
  none : c.pulse = none → d.pulse = none
  pulse : ∀ p, c.pulse = some p → ∃ q, d.pulse = some q ∧ q.fire = p.fire ∧ q.instant = p.instant

theorem Carries.refl (c : VdChan) : Carries c c := ⟨rfl, id, fun p hp => ⟨p, hp, rfl, rfl⟩⟩

theorem Carries.trans {c d e : VdChan} (h : Carries c d) (h' : Carries d e) : Carries c e := by
  refine ⟨h'.fire.trans h.fire, h'.none ∘ h.none, fun p hp => ?_⟩
  obtain ⟨q, hq, hf, hi⟩ := h.pulse p hp
  obtain ⟨r, hr, hf', hi'⟩ := h'.pulse q hq
  exact ⟨r, hr, hf'.trans hf, hi'.trans hi⟩

/-- A change of the pulse's own course. -/
theorem carries_map {c : VdChan} {g : VdPulse → VdPulse} {d : VdChan} (hfire : d.fire = c.fire) (hpulse : d.pulse = c.pulse.map g)
    (hg : ∀ p, (g p).fire = p.fire ∧ (g p).instant = p.instant) : Carries c d := by
  refine ⟨hfire, fun h => by rw [hpulse, h]; rfl, fun p hp => ⟨g p, by rw [hpulse, hp]; rfl, (hg p).1, (hg p).2⟩⟩

theorem Resettled.carries {c d : VdChan} (h : Resettled c d) : Carries c d := by
  obtain ⟨a, g, rfl, hg, -⟩ := h
  exact carries_map rfl rfl fun p => by rw [hg]; exact ⟨rfl, rfl⟩

theorem accrue_eq (t : Nat) (c : VdChan) : accrue t c = { c with holdNow := (accrue t c).holdNow, holdFrom := (accrue t c).holdFrom } := by
  unfold accrue
  split <;> rfl

/-- Entering a state changes the state, the hold time and the pulse's `since`. -/
theorem enterSt_eq (st : VdSt) (t : Nat) (c : VdChan) : enterSt st t c = { c with
    st, holdNow := (accrue t c).holdNow, holdFrom := if holdCounts st then some t else none, pulse := c.pulse.map (fun p => { p with since := t }) } := by
  rw [enterSt, accrue_eq]

theorem carries_updVd {a j : Nat} {f : VdChan → VdChan} (hf : ∀ c, Carries c (f c)) (s : State) : Carries (vdChan s j) (vdChan (updVd a f s) j) := by
  rcases vdChan_updVd_or a j f s with h | ⟨-, h⟩
  · rw [h]
    exact .refl _
  · rw [h]
    exact hf _

theorem carries_updPulse {a j : Nat} {g : VdPulse → VdPulse} (hg : ∀ p, (g p).fire = p.fire ∧ (g p).instant = p.instant) (s : State) :
    Carries (vdChan s j) (vdChan (updPulse a g s) j) :=
  carries_updVd (fun c => carries_map (d := { c with pulse := c.pulse.map g }) rfl rfl hg) s

theorem carries_enterSt (st : VdSt) (t : Nat) (c : VdChan) : Carries c (enterSt st t c) := by
  rw [enterSt_eq]
  exact carries_map rfl rfl fun _ => ⟨rfl, rfl⟩

theorem carries_settleBank (k t j : Nat) (s : State) : Carries (vdChan s j) (vdChan (settleBank k t s) j) := by
  have hadmit : Carries (vdChan s j) (vdChan (admitDeferred k t s) j) := by
    refine chan_foldl Carries.refl Carries.trans (fun x a => ?_) _ s
    split
    · exact (carries_updVd (carries_enterSt .boost t) x).trans (carries_updPulse (fun _ => by exact ⟨rfl, rfl⟩) _)
    · exact .refl _
  exact hadmit.trans ((resettled_startPull k t j _).carries.trans (resettled_applyDuty k j _).carries)

end Sys2Proof.Proofs
end

section
/-!
PROOFS. The pulses of the valve drive: their phases, their report and the channel that falls out of them (R178 to R192).
-/

namespace Sys2Proof.Proofs

open Sys2Proof.Machine Sys2Proof.Safety

/-- A channel after a change of its own. -/
theorem vdChan_updPulse {ch : Nat} (g : VdPulse → VdPulse) {s : State} (h : ch < s.vd.chans.length) :
    vdChan (updPulse ch g s) ch = { vdChan s ch with pulse := (vdChan s ch).pulse.map g } := vdChan_updVd _ h

theorem Told.vdChan {s t : State} (h : Told s t) (j : Nat) : vdChan t j = vdChan s j := vdChan_congr (h.frame .vd (by decide)) j

theorem mem_bank_of {ch c : Nat} (h : c ∈ bankChans (vdBankOf ch)) : c / 3 = ch / 3 := mem_bankChans h

/-- The channels of the bank of `ch`. -/
def InBank (ch : Nat) (j : Nat) : Prop := j / 3 = ch / 3

theorem vdRun_settleOwn (ch t : Nat) (s : State) : VdRun (InBank ch) s (settleBank (vdBankOf ch) t s) :=
  vdRun_settleBank (fun _ hc => mem_bank_of hc) t s

/-! ### Reports -/

theorem vdRun_timingErr (C : Nat → Prop) (o : Option Int) (s : State) : VdRun C s (timingErr o s).2 := by
  have hframe := frame_timingErr o s
  cases o with
  | none => exact ⟨onlyIn_mono hframe rfl, rfl, rfl, id, rfl, rfl, fun _ _ => rfl⟩
  | some e => exact .refl C s

/-- The channel that a report leaves of a pulse, with the parameters of `s`. -/
def reported (s : State) (ch : Nat) (p : VdPulse) (closing : Option Nat) (ring : List Bytes) (c : VdChan) : VdChan :=
  { c with
    pulse := none
    pulses := wrapU 32 (c.pulses + 1)
    noSeat := if closing.isNone then wrapU 16 (c.noSeat + 1) else c.noSeat
    noSeatRow := if closing.isNone then c.noSeatRow + 1 else 0
    ring
    openEst := match p.opening with
      | some d => timingUpdate c.openEst d (paramN s (pVdLead ch)) (paramN s pVdTimingSmooth)
      | none => c.openEst
    closeEst := match closing with
      | some d => if p.reduced then c.closeEst else timingUpdate c.closeEst d (paramN s (pVdOnTime ch)) (paramN s pVdTimingSmooth)
      | none => c.closeEst }

/-- R182, R183, R185: what a report makes of the channel that it is for. -/
theorem reportPulse_chan {s : State} {ch : Nat} {p : VdPulse} (hp : (vdChan s ch).pulse = some p) (hlt : ch < s.vd.chans.length) (closing : Option Nat) :
    ∃ ring, vdChan (reportPulse ch closing s) ch = reported s ch p closing ring (vdChan s ch) := by
  unfold reportPulse
  split
  · next hnone => cases hp.symm.trans hnone
  next q hq =>
  cases hp.symm.trans hq
  extract_lets eo ec s1 k row entry s2
  have hrun : VdRun (fun _ => False) s s1 := (vdRun_timingErr _ _ s).trans (vdRun_timingErr _ _ _)
  have hrow : row = if closing.isNone then (vdChan s ch).noSeatRow + 1 else 0 := rfl
  have hk : k = paramN s pVdTimingSmooth := hrun.paramN _
  have hs2 : vdChan s2 ch = _ := vdChan_updVd _ (lt_of_lt_of_eq hlt hrun.chans.symm)
  rw [(told_detect _ _ _ _ _).vdChan, hs2, hrun.away ch id, hrun.paramN, hrun.paramN, hk, hrow]
  exact ⟨_, rfl⟩

theorem vdRun_reportPulse {C : Nat → Prop} {ch : Nat} (hch : C ch) (closing : Option Nat) (s : State) : VdRun C s (reportPulse ch closing s) := by
  unfold reportPulse
  split
  · exact .refl C s
  · exact vdRun_step ((told_detect _ _ _ _ _).vdRun C) (vdRun_step (vdRun_updVd hch _ _)
      (vdRun_step (vdRun_timingErr C _ _) (vdRun_timingErr C _ s)))

theorem reportPulse_none {s : State} {ch : Nat} (h : (vdChan s ch).pulse = none) (closing : Option Nat) : reportPulse ch closing s = s := by
  simp [reportPulse, h]

/-! ### The phases -/

theorem vdRun_cutPulse {C : Nat → Prop} {ch : Nat} (hch : C ch) (t : Nat) (s : State) : VdRun C s (cutPulse ch t s) :=
  vdRun_ite (vdRun_step (vdRun_reportPulse hch _ _) (vdRun_step (vdRun_updPulse hch _ _) (vdRun_updVd hch _ s))) (.refl C s)

theorem vdRun_toPeak (ch t : Nat) (s : State) : VdRun (InBank ch) s (toPeak ch t s) :=
  vdRun_step (vdRun_settleOwn ch t _) (vdRun_step (vdRun_updPulse (C := InBank ch) (ch := ch) rfl _ _) (vdRun_updVd (C := InBank ch) (ch := ch) rfl _ s))

theorem vdRun_toRelease (ch t : Nat) (s : State) : VdRun (InBank ch) s (toRelease ch t s) :=
  vdRun_step (vdRun_settleOwn ch t _) (vdRun_step (vdRun_updPulse (C := InBank ch) (ch := ch) rfl _ _) (vdRun_updVd (C := InBank ch) (ch := ch) rfl _ s))

theorem vdRun_vdToFault {C : Nat → Prop} {ch : Nat} (hch : C ch) (cause t : Nat) (s : State) : VdRun C s (vdToFault ch cause t s) :=
  vdRun_updVd hch _ s

theorem vdRun_vdFault (ch cause t : Nat) (s : State) : VdRun (InBank ch) s (vdFault ch cause t s) :=
  vdRun_step (vdRun_settleOwn ch t _) (vdRun_step ((told_beginCond _ _ _ _).vdRun _) (vdRun_vdToFault (C := InBank ch) (ch := ch) rfl cause t s))

theorem vdRun_boostDone {C : Nat → Prop} {ch : Nat} (hch : C ch) (m : VdBoost) (s : State) : VdRun C s (boostDone ch m s) := by
  have h1 := vdRun_updVd hch (fun c => { c with energyNow := c.energyNow + m.energy }) s
  have hcaps (v : List Nat) (x : State) : VdRun C x { x with vd := { x.vd with caps := v } } :=
    ⟨onlyIn_mono (onlyIn_put_vd _ x) rfl, rfl, rfl, id, rfl, rfl, fun _ _ => rfl⟩
  exact vdRun_ite h1 (vdRun_step ((told_detect _ _ _ _ _).vdRun C) (h1.trans (hcaps _ _)))

theorem vdRun_earlyPeak (ch t : Nat) (early : Bool) (s : State) : VdRun (InBank ch) s (earlyPeak ch t early s) := by
  have h1 := vdRun_updVd (C := InBank ch) (ch := ch) rfl (fun c => { c with earlyRow := if early then (vdChan s ch).earlyRow + 1 else 0 }) s
  have h2 := h1.trans (vdRun_ite (c := early = true) ((told_happen detCoilShortSuspected (ch + 1) 0 _).vdRun _) (.refl _ _))
  exact vdRun_ite (h2.trans (vdRun_vdFault ch 4 t _)) h2

theorem vdRun_startPulse {C : Nat → Prop} {ch : Nat} (hch : C ch) (t : Nat) (f : VdFire) (seek : Bool) (s : State) :
    VdRun C s (startPulse ch t f seek s) := by
  unfold startPulse
  refine vdRun_ite ?_ (vdRun_ite ?_ (vdRun_ite ?_ (vdRun_ite ?_ ?_)))
  · exact vdRun_step ((told_beginCond _ _ _ _).vdRun C) (vdRun_step (vdRun_updVd hch _ _) (vdRun_updVd hch _ s))
  · exact vdRun_step ((told_happen _ _ _ _).vdRun C) (vdRun_step (vdRun_updVd hch _ _) (vdRun_updVd hch _ s))
  · exact vdRun_step (vdRun_updVd hch _ _) (vdRun_updVd hch _ s)
  · exact vdRun_updVd hch _ s
  · exact vdRun_updVd hch _ s

/-! ### The channel that a phase leaves -/

/-- A channel of its own change after its bank is settled, unless it waits for the bank. -/
theorem settled_chan {s : State} {k t ch : Nat} {d : VdChan} (h : vdChan s ch = d) (hst : d.st ≠ .defer) (hpull : d.st ≠ .pullBat) :
    ∃ a, vdChan (settleBank k t s) ch = { d with applied := a } := by
  subst h
  obtain ⟨a, ha⟩ := settleBank_st (k := k) (t := t) hst
  exact ⟨a, ha hpull⟩

/-- R180, R186: the channel in PEAK. -/
theorem toPeak_chan {s : State} {ch : Nat} (t : Nat) (hlt : ch < s.vd.chans.length) :
    ∃ h f a, vdChan (toPeak ch t s) ch = { vdChan s ch with
      st := .peak, holdNow := h, holdFrom := f, applied := a
      pulse := (vdChan s ch).pulse.map fun p => { p with since := t, boostTime := t - p.startAt } } := by
  have h1 : vdChan (updVd ch (enterSt .peak t) s) ch = enterSt .peak t (vdChan s ch) := vdChan_updVd _ hlt
  have h2 := vdChan_updPulse (fun p => { p with boostTime := t - p.startAt })
    (show ch < (updVd ch (enterSt .peak t) s).vd.chans.length from (length_updAt _ _ _).symm ▸ hlt)
  rw [h1, enterSt_eq] at h2
  obtain ⟨a, ha⟩ := settled_chan (k := vdBankOf ch) (t := t) h2 nofun nofun
  exact ⟨_, _, a, ha.trans (by simp only [Option.map_map]; rfl)⟩

/-- R180, R187: the channel in RELEASE. -/
theorem toRelease_chan {s : State} {ch : Nat} (t : Nat) (hlt : ch < s.vd.chans.length) :
    ∃ h f a r, vdChan (toRelease ch t s) ch = { vdChan s ch with
      st := .release, holdNow := h, holdFrom := f, applied := a
      pulse := (vdChan s ch).pulse.map fun p => { p with since := t, relAt := t, reduced := r } } := by
  have h1 : vdChan (updVd ch (enterSt .release t) s) ch = enterSt .release t (vdChan s ch) := vdChan_updVd _ hlt
  have h2 := vdChan_updPulse (fun p => { p with relAt := t, reduced := (bankChans (vdBankOf ch)).any (fun c => c != ch && (vdChan s c).st == .boost) })
    (show ch < (updVd ch (enterSt .release t) s).vd.chans.length from (length_updAt _ _ _).symm ▸ hlt)
  rw [h1, enterSt_eq] at h2
  obtain ⟨a, ha⟩ := settled_chan (k := vdBankOf ch) (t := t) h2 nofun nofun
  exact ⟨_, _, a, _, ha.trans (by simp only [Option.map_map]; rfl)⟩

/-- Table 6-6: a channel that is in FAULT for a cause and runs nothing. -/
structure FaultedFor (cause : Nat) (c : VdChan) : Prop where
  st : c.st = .fault
  cause : c.cause = cause
  pulse : c.pulse = none
  fire : c.fire = none

theorem vdToFault_chan {s : State} {ch : Nat} (cause t : Nat) (hlt : ch < s.vd.chans.length) :
    FaultedFor cause (vdChan (vdToFault ch cause t s) ch) ∧ (vdChan (vdToFault ch cause t s) ch).earlyRow = (vdChan s ch).earlyRow := by
  rw [vdToFault, vdChan_updVd _ hlt, enterSt_eq]
  exact ⟨⟨rfl, rfl, rfl, rfl⟩, rfl⟩

theorem FaultedFor.settled {cause : Nat} {s : State} {j : Nat} (h : FaultedFor cause (vdChan s j)) (k t : Nat) :
    FaultedFor cause (vdChan (settleBank k t s) j) := by
  obtain ⟨a, ha⟩ := settled_chan (k := k) (t := t) (rfl : vdChan s j = vdChan s j) (by rw [h.st]; decide) (by rw [h.st]; decide)
  rw [ha]
  exact ⟨h.st, h.cause, h.pulse, h.fire⟩

theorem vdFault_chan {s : State} {ch : Nat} (cause t : Nat) (hlt : ch < s.vd.chans.length) :
    FaultedFor cause (vdChan (vdFault ch cause t s) ch) ∧ (vdChan (vdFault ch cause t s) ch).earlyRow = (vdChan s ch).earlyRow := by
  obtain ⟨hf, he⟩ := vdToFault_chan (s := s) cause t hlt
  have htold : vdChan (beginCond (vdCauseDet cause) (ch + 1) 0 (vdToFault ch cause t s)) ch = vdChan (vdToFault ch cause t s) ch :=
    (told_beginCond _ _ _ _).vdChan ch
  obtain ⟨a, ha⟩ := settled_chan (k := vdBankOf ch) (t := t) htold (by rw [hf.st]; decide) (by rw [hf.st]; decide)
  rw [vdFault, ha]
  exact ⟨⟨hf.st, hf.cause, hf.pulse, hf.fire⟩, he⟩

theorem boostDone_chan {s : State} {ch : Nat} (m : VdBoost) (hlt : ch < s.vd.chans.length) :
    vdChan (boostDone ch m s) ch = { vdChan s ch with energyNow := (vdChan s ch).energyNow + m.energy } := by
  have h1 : vdChan (updVd ch (fun c => { c with energyNow := c.energyNow + m.energy }) s) ch = _ := vdChan_updVd _ hlt
  unfold boostDone
  extract_lets s1 caps mean
  split
  · exact h1
  · exact ((told_detect _ _ _ _ _).vdChan ch).trans h1

end Sys2Proof.Proofs
end

section
/-!
PROOFS. How a pulse starts, and that its phases run as Table 6-2 says (R178 to R186).
-/

namespace Sys2Proof.Proofs

open Sys2Proof.Machine Sys2Proof.Safety

/-! ### Admission to BOOST -/

/-- R186: a channel that may boost may boost too where fewer channels boost or pull. -/
theorem boostAllowed_mono {s x : State} {ch : Nat} (hparam : ∀ id, paramN x id = paramN s id)
    (hboost : ∀ j, (vdChan s j).st = .boost → (vdChan x j).st = .boost) (hpull : ∀ j, (vdChan s j).st = .pullBat → (vdChan x j).st = .pullBat)
    (h : boostAllowed x ch = true) : boostAllowed s ch = true := by
  obtain ⟨hsum, hnone⟩ := Bool.and_eq_true_iff.mp h
  refine Bool.and_eq_true_iff.mpr ⟨decide_eq_true (le_trans ?_ (of_decide_eq_true hsum)), ?_⟩
  · rw [hparam]
    refine Nat.add_le_add_right ?_ _
    rw [boostSum, boostSum, funext fun c => hparam (pVdIPeak c)]
    refine List.Sublist.sum_le_sum (List.Sublist.map _ (List.monotone_filter_right _ fun j hj => ?_)) fun _ _ => Nat.zero_le _
    exact beq_iff_eq.mpr (hboost j (beq_iff_eq.mp hj))
  · rw [Bool.not_eq_true'] at hnone ⊢
    rw [bankPull, List.any_eq_false] at hnone ⊢
    exact fun j hj hst => hnone j hj (beq_iff_eq.mpr (hpull j (beq_iff_eq.mp hst)))

theorem boostAllowed_congr {s x : State} {ch : Nat} (hparam : ∀ id, paramN x id = paramN s id)
    (hboost : ∀ j, (vdChan s j).st = .boost ↔ (vdChan x j).st = .boost) (hpull : ∀ j, (vdChan s j).st = .pullBat ↔ (vdChan x j).st = .pullBat) :
    boostAllowed x ch = boostAllowed s ch :=
  Bool.eq_iff_iff.mpr ⟨boostAllowed_mono hparam (fun j => (hboost j).mp) fun j => (hpull j).mp,
    boostAllowed_mono (fun id => (hparam id).symm) (fun j => (hboost j).mpr) fun j => (hpull j).mpr⟩

/-- A deferred channel that may not boost is not admitted: what is admitted before it only takes more of the bank. -/
theorem admitDeferred_refused {s : State} {ch k : Nat} (t : Nat) (hst : (vdChan s ch).st = .defer) (h : boostAllowed s ch = false) :
    vdChan (admitDeferred k t s) ch = vdChan s ch := by
  have hrun : VdRun (fun j => (vdChan s j).st = .defer ∧ j ≠ ch) s (admitDeferred k t s) := by
    refine List.foldlRecOn _ _ (VdRun.refl _ s) fun x hx a ha => ?_
    split
    · next hallowed =>
      have hdefer : (vdChan s a).st = .defer := beq_iff_eq.mp (List.mem_filter.mp ((mem_sortBy_iff _ _ _).mp ha)).2
      have hkept {st : VdSt} (hne : st ≠ .defer) (j : Nat) (hj : (vdChan s j).st = st) : (vdChan x j).st = st := by
        rw [hx.away j fun hc => hne (hj.symm.trans hc.1), hj]
      have hne : a ≠ ch := by
        rintro rfl
        rw [boostAllowed_mono hx.paramN (hkept nofun) (hkept nofun) hallowed] at h
        cases h
      exact hx.trans (vdRun_step (vdRun_updPulse (C := fun j => (vdChan s j).st = .defer ∧ j ≠ ch) ⟨hdefer, hne⟩ _ _) (vdRun_updVd ⟨hdefer, hne⟩ _ x))
    · exact hx
  exact hrun.away ch fun hc => hc.2 rfl

theorem Resettled.st {c d : VdChan} (h : Resettled c d) : d.st = c.st := by
  obtain ⟨a, g, rfl, -⟩ := h
  rfl

theorem settleBank_refused {s : State} {ch k : Nat} (t : Nat) (hst : (vdChan s ch).st = .defer) (h : boostAllowed s ch = false) :
    (vdChan (settleBank k t s) ch).st = .defer := by
  have h1 := (resettled_startPull k t ch (admitDeferred k t s)).trans (resettled_applyDuty k ch _)
  rw [admitDeferred_refused t hst h] at h1
  have h2 : Resettled (vdChan s ch) (vdChan (settleBank k t s) ch) := h1
  exact h2.st.trans hst

/-! ### The start of a pulse -/

/-- The channel as a pulse for `f` puts it in a state, its own counters aside. -/
structure Started (ch t : Nat) (f : VdFire) (c d : VdChan) : Prop where
  fire : d.fire = c.fire
  pulse : ∃ p, d.pulse = some p ∧ p.fire = f ∧ p.instant = t

theorem Started.counted {ch t : Nat} {f : VdFire} {c d e : VdChan} (h : Started ch t f c d) (hfire : e.fire = d.fire) (hpulse : e.pulse = d.pulse) :
    Started ch t f c e := by
  obtain ⟨p, hp, hpf⟩ := h.pulse
  exact ⟨hfire.trans h.fire, p, hpulse.trans hp, hpf⟩

theorem startPulse_started {s : State} {ch : Nat} (t : Nat) (f : VdFire) (seek : Bool) (hlt : ch < s.vd.chans.length) :
    Started ch t f (vdChan s ch) (vdChan (startPulse ch t f seek s) ch) := by
  have hput (st : VdSt) (g : VdPulse → VdPulse) (hg : ∀ p, (g p).fire = p.fire ∧ (g p).instant = p.instant) :
      Started ch t f (vdChan s ch) (vdChan (updVd ch (fun c => { enterSt st t c with pulse := some (g (newPulse f t seek)) }) s) ch) := by
    rw [vdChan_updVd _ hlt, enterSt_eq]
    exact ⟨rfl, _, rfl, hg _⟩
  unfold startPulse
  extract_lets e put
  split
  · rw [(told_beginCond _ _ _ _).vdChan, vdChan_updVd _ (lt_of_lt_of_eq hlt (length_updAt _ _ _).symm)]
    exact (hput .pullBat (fun p => { p with limited := true }) fun _ => by exact ⟨rfl, rfl⟩).counted rfl rfl
  split
  · rw [(told_happen _ _ _ _).vdChan, vdChan_updVd _ (lt_of_lt_of_eq hlt (length_updAt _ _ _).symm)]
    exact (hput .pullBat (fun p => { p with weak := true }) fun _ => by exact ⟨rfl, rfl⟩).counted rfl rfl
  split
  · rw [vdChan_updVd _ (lt_of_lt_of_eq hlt (length_updAt _ _ _).symm)]
    exact (hput .pullBat (fun p => { p with weak := true }) fun _ => by exact ⟨rfl, rfl⟩).counted rfl rfl
  split
  · exact hput _ id fun _ => ⟨rfl, rfl⟩
  · exact hput _ id fun _ => ⟨rfl, rfl⟩

theorem cutPulse_pulse (ch t : Nat) (s : State) : (vdChan (cutPulse ch t s) ch).pulse = none := by
  unfold cutPulse
  split
  · next h =>
    have hlt : ch < s.vd.chans.length := by
      by_contra hout
      rw [vdChan, nth, List.getD_eq_getElem?_getD, List.getElem?_eq_none (Nat.le_of_not_lt hout)] at h
      cases h
    obtain ⟨p, hp⟩ := Option.isSome_iff_exists.mp h
    have h1 : vdChan (updVd ch (enterSt .idle t) s) ch = enterSt .idle t (vdChan s ch) := vdChan_updVd _ hlt
    have h2 := vdChan_updPulse (fun p => { p with restarted := true })
      (show ch < (updVd ch (enterSt .idle t) s).vd.chans.length from lt_of_lt_of_eq hlt (length_updAt _ _ _).symm)
    rw [h1, enterSt_eq, hp] at h2
    obtain ⟨ring, hr⟩ := reportPulse_chan (congrArg VdChan.pulse h2) (lt_of_lt_of_eq hlt
      ((length_updAt _ _ _).trans (length_updAt _ _ _)).symm) none
    rw [hr]
    rfl
  · next h => exact Option.not_isSome_iff_eq_none.mp h

theorem cutPulse_none {s : State} {ch : Nat} (t : Nat) (h : (vdChan s ch).pulse = none) : cutPulse ch t s = s := by
  simp [cutPulse, h]

/-- R181: the pair's other channel, cut before the start. -/
def partnerCut (ch t : Nat) (s : State) : State :=
  match vdPartner s ch with
  | some m =>
    if (vdChan s m).pulse.isSome then
      updVd m (fun c => { c with st := if c.fire.isSome then .wait else .idle }) (settleBank (vdBankOf m) t (cutPulse m t s))
    else s
  | none => s

theorem vdRun_partnerCut (ch t : Nat) (s : State) : VdRun (fun _ => True) s (partnerCut ch t s) := by
  unfold partnerCut
  split
  · exact vdRun_ite (vdRun_step (vdRun_updVd (C := fun _ => True) trivial _ _)
      (vdRun_step (vdRun_settleBank (fun _ _ => trivial) _ _) (vdRun_cutPulse trivial _ s))) (.refl _ s)
  · exact .refl _ s

theorem partnerCut_pulse {s : State} {ch m : Nat} (t : Nat) (h : vdPartner s ch = some m) : (vdChan (partnerCut ch t s) m).pulse = none := by
  simp only [partnerCut, h]
  split
  · have hcut := (carries_settleBank (vdBankOf m) t m (cutPulse m t s)).none (cutPulse_pulse m t s)
    rcases vdChan_updVd_or m m (fun c => { c with st := if c.fire.isSome then VdSt.wait else .idle }) (settleBank (vdBankOf m) t (cutPulse m t s)) with h1 | ⟨-, h1⟩
    · rw [h1, hcut]
    · rw [h1]
      exact hcut
  · next hnone => exact Option.not_isSome_iff_eq_none.mp hnone

/-- The state on which the pulse starts: the partner and the channel's own pulse cut, the fire taken. -/
def startBase (ch t : Nat) (s : State) : State := updVd ch (fun c => { c with fire := none }) (cutPulse ch t (partnerCut ch t s))

theorem boostStart_due {s : State} {ch t : Nat} {f : VdFire} (hf : (vdChan s ch).fire = some f) (hdue : f.tOn ≤ t + (vdChan s ch).openEst) :
    boostStart ch t s =
      settleBank (vdBankOf ch) t (startPulse ch t f (vdChan (partnerCut ch t s) ch).pulse.isNone (startBase ch t s)) := by
  simp only [boostStart, hf, if_pos hdue]
  rfl

theorem boostStart_idle {s : State} {ch t : Nat} (h : ∀ f, (vdChan s ch).fire = some f → t + (vdChan s ch).openEst < f.tOn) :
    boostStart ch t s = s := by
  unfold boostStart
  split
  · rfl
  · next f hf => exact if_neg (Nat.not_le.mpr (h f hf))

theorem startBase_fire {s : State} {ch : Nat} (t : Nat) (hlt : ch < s.vd.chans.length) : (vdChan (startBase ch t s) ch).fire = none := by
  rw [startBase, vdChan_updVd _ (lt_of_lt_of_eq hlt ((vdRun_partnerCut ch t s).trans (vdRun_cutPulse (C := fun _ => True) trivial t _)).chans.symm)]

theorem startBase_alone {s : State} {ch : Nat} (t : Nat) (hpartner : vdPartner s ch = none) (hpulse : (vdChan s ch).pulse = none) :
    startBase ch t s = updVd ch (fun c => { c with fire := none }) s := by
  have hpc : partnerCut ch t s = s := by simp only [partnerCut, hpartner]
  rw [startBase, hpc, cutPulse_none t hpulse]

end Sys2Proof.Proofs
end

section
/-!
PROOFS. The valve drive's pulses run (O38).
-/

namespace Sys2Proof.Proofs

open Sys2Proof.Machine Sys2Proof.Safety

theorem VdRun.awayBank {ch : Nat} {s t : State} (h : VdRun (InBank ch) s t) : ∀ j : Nat, j / 3 ≠ ch / 3 → vdChan t j = vdChan s j := h.away

/-! ### The peak -/

/-- R180: the current of a boost that reaches the peak. -/
theorem earlyPeak_late {ch t : Nat} {s : State} (hlt : ch < s.vd.chans.length) :
    vdChan (earlyPeak ch t false s) ch = { vdChan s ch with earlyRow := 0 } := vdChan_updVd _ hlt

/-- Table 6-6: an early peak, counted and told. -/
def suspected (ch : Nat) (s : State) : State :=
  happen detCoilShortSuspected (ch + 1) 0 (updVd ch (fun c => { c with earlyRow := (vdChan s ch).earlyRow + 1 }) s)

theorem suspected_chan {s : State} {ch : Nat} (hlt : ch < s.vd.chans.length) :
    vdChan (suspected ch s) ch = { vdChan s ch with earlyRow := (vdChan s ch).earlyRow + 1 } :=
  ((told_happen _ _ _ _).vdChan ch).trans (vdChan_updVd _ hlt)

/-- Table 6-6: a peak within 50 µs counts, and the eighth in a row is a coil short. -/
theorem earlyPeak_early {ch t : Nat} {s : State} (hlt : ch < s.vd.chans.length) :
    (vdChan (earlyPeak ch t true s) ch).earlyRow = (vdChan s ch).earlyRow + 1 ∧
    (vdChan (earlyPeak ch t true s) ch).st = (if 8 ≤ (vdChan s ch).earlyRow + 1 then VdSt.fault else (vdChan s ch).st) ∧
    (8 ≤ (vdChan s ch).earlyRow + 1 → (vdChan (earlyPeak ch t true s) ch).cause = 4) := by
  have hchan := suspected_chan hlt
  have hlt2 : ch < (suspected ch s).vd.chans.length :=
    lt_of_lt_of_eq hlt (((told_happen _ _ _ _).vdRun fun _ => False).chans.trans (length_updAt _ _ _)).symm
  by_cases h8 : 8 ≤ (vdChan s ch).earlyRow + 1
  · have heq : earlyPeak ch t true s = vdFault ch 4 t (suspected ch s) := if_pos h8
    obtain ⟨hf, he⟩ := vdFault_chan 4 t hlt2
    rw [heq, if_pos h8]
    exact ⟨he.trans (congrArg VdChan.earlyRow hchan), hf.st, fun _ => hf.cause⟩
  · have heq : earlyPeak ch t true s = suspected ch s := if_neg h8
    rw [heq, if_neg h8, hchan]
    exact ⟨rfl, rfl, fun h => absurd h h8⟩

/-- The state that a boost leaves when its peak is reached. -/
def peaked (ch t : Nat) (m : VdBoost) (s : State) : State := boostDone ch m (toPeak ch t s)

theorem vdRun_peaked (ch t : Nat) (m : VdBoost) (s : State) : VdRun (InBank ch) s (peaked ch t m s) :=
  vdRun_step (vdRun_boostDone (C := InBank ch) (ch := ch) rfl m _) (vdRun_toPeak ch t s)

theorem peaked_chan {s : State} {ch : Nat} (t : Nat) (m : VdBoost) (hlt : ch < s.vd.chans.length) :
    ∃ h f a, vdChan (peaked ch t m s) ch = { vdChan s ch with
      st := .peak, holdNow := h, holdFrom := f, applied := a, energyNow := (vdChan s ch).energyNow + m.energy
      pulse := (vdChan s ch).pulse.map fun p => { p with since := t, boostTime := t - p.startAt } } := by
  obtain ⟨h, f, a, hc⟩ := toPeak_chan t hlt
  have h1 := boostDone_chan m (lt_of_lt_of_eq hlt (vdRun_toPeak ch t s).chans.symm)
  rw [hc] at h1
  exact ⟨h, f, a, h1⟩

section
variable {ch : Fin 12} {us : Fin 1000} {s : State} {p : VdPulse}

theorem peakReached_below (m : VdBoost) (hp : (vdChan s ch).pulse = some p) (h : m.ma < paramN s (pVdIPeak ch)) :
    exec (.peakReached ch us m) s = .next s := by
  show execPeakReached ch us m s = _
  simp only [execPeakReached, hp, if_neg (Nat.not_le.mpr h)]

theorem peakReached_boost (m : VdBoost) (hp : (vdChan s ch).pulse = some p) (h : paramN s (pVdIPeak ch) ≤ m.ma) (hst : (vdChan s ch).st = .boost)
    (hinj : s.ev.injs = []) :
    exec (.peakReached ch us m) s = .next (earlyPeak ch (usNow s us) (decide (usNow s us - p.startAt < 50)) (peaked ch (usNow s us) m s)) := by
  show execPeakReached ch us m s = _
  simp only [execPeakReached, hp, if_pos h, hst, forced_of_noInjs hinj, Bool.or_false]
  rfl

/-! ### Time-outs -/

theorem boostTimeout_boost (m : VdBoost) (hp : (vdChan s ch).pulse = some p) (hst : (vdChan s ch).st = .boost) (hinj : s.ev.injs = []) :
    exec (.boostTimeout ch us m) s = .next (if p.startAt + paramN s (pVdBoostMax ch) ≤ usNow s us then
      if 500 ≤ m.ma then happen detBoostTimeout (ch + 1) 0 (updPulse ch (fun p => { p with timeout := true }) (peaked ch (usNow s us) m s))
      else vdFault ch 1 (usNow s us) (boostDone ch m s) else s) := by
  show execBoostTimeout ch us m s = _
  simp only [execBoostTimeout, hp, hst, forced_of_noInjs hinj, Bool.or_false, Bool.not_false, Bool.and_true, decide_eq_true_eq]
  rfl

theorem boostTimeout_pull (m : VdBoost) {o : Nat} (hp : (vdChan s ch).pulse = some p) (hst : (vdChan s ch).st = .pullBat) (ho : p.onAt = some o) :
    exec (.boostTimeout ch us m) s = .next (if o + 10000 ≤ usNow s us then
      if 500 ≤ m.ma then updPulse ch (fun p => { p with timeout := true }) (toPeak ch (usNow s us) s) else vdFault ch 1 (usNow s us) s else s) := by
  show execBoostTimeout ch us m s = _
  simp only [execBoostTimeout, hp, hst, ho]

/-- R186: the state in which a deferral of 500 µs ends. -/
def deferEnded (ch t : Nat) (s : State) : State :=
  settleBank (vdBankOf ch) t (happen detWeakPullIn (ch + 1) 0
    (updPulse ch (fun p => { p with weak := true, deferral := t - p.instant, startAt := t })
      (updVd ch (fun c => { enterSt .pullBat t c with weak := wrapU 16 (c.weak + 1) }) s)))

theorem deferTimeout_eq (hp : (vdChan s ch).pulse = some p) :
    exec (.deferTimeout ch us) s = .next (if (vdChan s ch).st = .defer ∧ p.instant + 500 ≤ usNow s us then deferEnded ch (usNow s us) s else s) := by
  show execDeferTimeout ch us s = _
  simp only [execDeferTimeout, hp, Bool.and_eq_true, decide_eq_true_eq]
  rfl

theorem vdRun_deferEnded (ch t : Nat) (s : State) : VdRun (InBank ch) s (deferEnded ch t s) :=
  vdRun_step (vdRun_settleOwn ch t _) (vdRun_step ((told_happen _ _ _ _).vdRun _)
    (vdRun_step (vdRun_updPulse (C := InBank ch) (ch := ch) rfl _ _) (vdRun_updVd (C := InBank ch) (ch := ch) rfl _ s)))

theorem deferEnded_chan {ch : Nat} (t : Nat) (hp : (vdChan s ch).pulse = some p) (hlt : ch < s.vd.chans.length) :
    (vdChan (deferEnded ch t s) ch).st = .pullBat ∧ (vdChan (deferEnded ch t s) ch).weak = wrapU 16 ((vdChan s ch).weak + 1) ∧
    ∃ q, (vdChan (deferEnded ch t s) ch).pulse = some q ∧ q.weak = true ∧ q.deferral = t - p.instant := by
  have h1 : vdChan (updVd ch (fun c => { enterSt .pullBat t c with weak := wrapU 16 (c.weak + 1) }) s) ch = _ := vdChan_updVd _ hlt
  have h2 := vdChan_updPulse (fun p => { p with weak := true, deferral := t - p.instant, startAt := t })
    (show ch < (updVd ch (fun c => { enterSt .pullBat t c with weak := wrapU 16 (c.weak + 1) }) s).vd.chans.length from
      lt_of_lt_of_eq hlt (length_updAt _ _ _).symm)
  rw [h1, enterSt_eq, hp] at h2
  have h3 := ((told_happen detWeakPullIn (ch + 1) 0 _).vdChan ch).trans h2
  obtain ⟨a, g, hd, hg, -⟩ := resettled_settleBank (k := vdBankOf ch) (t := t) (j := ch) (by rw [h3]; exact nofun)
  rw [deferEnded, hd, h3]
  exact ⟨rfl, rfl, _, rfl, by rw [hg], by rw [hg]⟩

/-! ### Peak, hold, release and observation -/

/-- R179, R182: the state in which the peak time ends. -/
def peakOver (ch t : Nat) (cur : List Int) (p : VdPulse) (s : State) : State :=
  let s1 := updPulse ch (fun p => { p with opening := if p.seek then openingSample cur (paramN s (pVdDipThresh ch)) else none }) s
  if releaseInstant (vdChan s ch) p ≤ t then toRelease ch t s1 else settleBank (vdBankOf ch) t (updVd ch (enterSt .hold t) s1)

theorem peakEnd_eq (cur : List Int) (hp : (vdChan s ch).pulse = some p) :
    exec (.peakEnd ch us cur) s = .next (if (vdChan s ch).st = .peak ∧ p.since + paramN s (pVdTPeak ch) ≤ usNow s us then
      peakOver ch (usNow s us) cur p s else s) := by
  show execPeakEnd ch us cur s = _
  simp only [execPeakEnd, hp, Bool.and_eq_true, decide_eq_true_eq]
  rfl

theorem vdRun_peakOver (ch t : Nat) (cur : List Int) (p : VdPulse) (s : State) : VdRun (InBank ch) s (peakOver ch t cur p s) := by
  have h1 := vdRun_updPulse (C := InBank ch) (ch := ch) rfl
    (fun p => { p with opening := if p.seek then openingSample cur (paramN s (pVdDipThresh ch)) else none }) s
  exact vdRun_ite (h1.trans (vdRun_toRelease ch t _))
    (h1.trans (vdRun_step (vdRun_settleOwn ch t _) (vdRun_updVd (C := InBank ch) (ch := ch) rfl _ _)))

theorem peakOver_chan {ch : Nat} (t : Nat) (cur : List Int) (hp : (vdChan s ch).pulse = some p) (hlt : ch < s.vd.chans.length) :
    (vdChan (peakOver ch t cur p s) ch).st = (if p.fire.tOff - (vdChan s ch).closeEst ≤ t then VdSt.release else VdSt.hold) ∧
    ∃ q, (vdChan (peakOver ch t cur p s) ch).pulse = some q ∧
      q.opening = (if p.seek then openingSample cur (paramN s (pVdDipThresh ch)) else none) := by
  have h1 := vdChan_updPulse (fun p => { p with opening := if p.seek then openingSample cur (paramN s (pVdDipThresh ch)) else none }) hlt
  rw [hp] at h1
  have hlt1 : ch < (updPulse ch (fun p => { p with opening := if p.seek then openingSample cur (paramN s (pVdDipThresh ch)) else none }) s).vd.chans.length :=
    lt_of_lt_of_eq hlt (length_updAt _ _ _).symm
  unfold peakOver
  extract_lets s1
  by_cases hdue : p.fire.tOff - (vdChan s ch).closeEst ≤ t
  · rw [if_pos hdue, show (if releaseInstant (vdChan s ch) p ≤ t then toRelease ch t s1 else settleBank (vdBankOf ch) t (updVd ch (enterSt .hold t) s1)) =
      toRelease ch t s1 from if_pos hdue]
    obtain ⟨h, f, a, r, hc⟩ := toRelease_chan (s := s1) t hlt1
    rw [hc, h1]
    exact ⟨rfl, _, rfl, rfl⟩
  · rw [if_neg hdue, show (if releaseInstant (vdChan s ch) p ≤ t then toRelease ch t s1 else settleBank (vdBankOf ch) t (updVd ch (enterSt .hold t) s1)) =
      settleBank (vdBankOf ch) t (updVd ch (enterSt .hold t) s1) from if_neg hdue]
    have h2 : vdChan (updVd ch (enterSt .hold t) s1) ch = enterSt .hold t (vdChan s1 ch) := vdChan_updVd _ hlt1
    rw [h1, enterSt_eq] at h2
    obtain ⟨a, ha⟩ := settled_chan (k := vdBankOf ch) (t := t) h2 nofun nofun
    rw [ha]
    exact ⟨rfl, _, rfl, rfl⟩

theorem releaseInstant_eq (hp : (vdChan s ch).pulse = some p) :
    exec (.releaseInstant ch us) s = .next (if (vdChan s ch).st = .hold ∧ p.fire.tOff - (vdChan s ch).closeEst ≤ usNow s us then
      toRelease ch (usNow s us) s else s) := by
  show execReleaseInstant ch us s = _
  simp only [execReleaseInstant, hp, Bool.and_eq_true, decide_eq_true_eq]
  rfl

theorem releaseEnd_eq (ma : Nat) :
    exec (.releaseEnd ch us ma) s = .next (if (vdChan s ch).st = .release ∧ ma < 50 then updVd ch (enterSt .observe (usNow s us)) s else s) := by
  show execReleaseEnd ch us ma s = _
  simp only [execReleaseEnd, Bool.and_eq_true, decide_eq_true_eq]

/-- R182: the sample at which a seat is found. -/
def seatOf (s : State) (ch : Nat) (p : VdPulse) (volts : List Int) : Option Nat :=
  (closingSample volts (paramN s (pVdKinkThresh ch))).map (fun n => p.since - p.relAt + n)

/-- R182, R185: the state in which the observation ends. -/
def observed (ch : Nat) (seat : Option Nat) (s : State) : State :=
  updVd ch (fun c => { c with st := if c.fire.isSome then .wait else .idle }) (reportPulse ch seat s)

theorem observeEnd_eq (volts : List Int) (hp : (vdChan s ch).pulse = some p) :
    exec (.observeEnd ch us volts) s = .next (if (vdChan s ch).st = .observe ∧
      ((seatOf s ch p volts).isSome = true ∨ p.since + paramN s (pVdObserveMax ch) ≤ usNow s us) then observed ch (seatOf s ch p volts) s else s) := by
  show execObserveEnd ch us volts s = _
  simp only [execObserveEnd, hp, Bool.and_eq_true, Bool.or_eq_true, decide_eq_true_eq]
  rfl

theorem vdRun_observed {C : Nat → Prop} {ch : Nat} (hch : C ch) (seat : Option Nat) (s : State) : VdRun C s (observed ch seat s) :=
  vdRun_step (vdRun_updVd hch _ _) (vdRun_reportPulse hch seat s)

theorem observed_chan {ch : Nat} (seat : Option Nat) (hp : (vdChan s ch).pulse = some p) (hlt : ch < s.vd.chans.length) :
    ∃ ring, vdChan (observed ch seat s) ch = { reported s ch p seat ring (vdChan s ch) with
      st := if (vdChan s ch).fire.isSome then .wait else .idle } := by
  obtain ⟨ring, hr⟩ := reportPulse_chan hp hlt seat
  have hlt1 := lt_of_lt_of_eq hlt (vdRun_reportPulse (C := fun _ => True) (ch := ch) trivial seat s).chans.symm
  exact ⟨ring, by rw [observed, vdChan_updVd _ hlt1, hr]; rfl⟩

end

end Sys2Proof.Proofs
end

section
/-!
PROOFS. The valve drive's pulses run: the start, the windows, and O38.
-/

namespace Sys2Proof.Proofs

open Sys2Proof.Machine Sys2Proof.Safety

/-! ### What the start of a pulse does -/

theorem startPulse_limited {s : State} {ch : Nat} (t : Nat) (f : VdFire) (seek : Bool) (hlt : ch < s.vd.chans.length) (hinj : s.ev.injs = [])
    (h : paramN s (pVdBoostEmax ch) ≤ boostEnergy (vdChan s ch)) :
    (vdChan (startPulse ch t f seek s) ch).st = .pullBat ∧ (vdChan (startPulse ch t f seek s) ch).episode = true := by
  have hc : (paramN s (pVdBoostEmax ch) : Int) ≤ measured s detBoostEnergyLimit (ch + 1) (boostEnergy (vdChan s ch)) := by
    rw [measured_of_noInjs hinj]
    exact_mod_cast h
  simp only [startPulse, if_pos hc]
  rw [(told_beginCond _ _ _ _).vdChan, vdChan_updVd _ (lt_of_lt_of_eq hlt (length_updAt _ _ _).symm), vdChan_updVd _ hlt]
  exact ⟨rfl, rfl⟩

theorem startPulse_noBoost {s : State} {ch : Nat} (t : Nat) (f : VdFire) (seek : Bool) (hlt : ch < s.vd.chans.length) (hinj : s.ev.injs = [])
    (h : boostEnergy (vdChan s ch) < paramN s (pVdBoostEmax ch)) (hbank : (vdBank s (vdBankOf ch)).noBoost = true) :
    (vdChan (startPulse ch t f seek s) ch).st = .pullBat ∧ (vdChan (startPulse ch t f seek s) ch).weak = wrapU 16 ((vdChan s ch).weak + 1) := by
  have hc : ¬(paramN s (pVdBoostEmax ch) : Int) ≤ measured s detBoostEnergyLimit (ch + 1) (boostEnergy (vdChan s ch)) := by
    rw [measured_of_noInjs hinj]
    exact_mod_cast Nat.not_le.mpr h
  simp only [startPulse, if_neg hc, forced_of_noInjs hinj, Bool.false_eq_true, if_false, hbank, if_true]
  rw [vdChan_updVd _ (lt_of_lt_of_eq hlt (length_updAt _ _ _).symm), vdChan_updVd _ hlt, enterSt_eq]
  exact ⟨rfl, rfl⟩

/-- A pulse that may boost by its energy and its bank is put in BOOST or deferred by R186. -/
theorem startPulse_boost {s : State} {ch : Nat} (t : Nat) (f : VdFire) (seek : Bool) (hinj : s.ev.injs = [])
    (h : boostEnergy (vdChan s ch) < paramN s (pVdBoostEmax ch)) (hbank : (vdBank s (vdBankOf ch)).noBoost = false) :
    startPulse ch t f seek s =
      updVd ch (fun c => { enterSt (if boostAllowed s ch then .boost else .defer) t c with pulse := some (newPulse f t seek) }) s := by
  have hc : ¬(paramN s (pVdBoostEmax ch) : Int) ≤ measured s detBoostEnergyLimit (ch + 1) (boostEnergy (vdChan s ch)) := by
    rw [measured_of_noInjs hinj]
    exact_mod_cast Nat.not_le.mpr h
  simp only [startPulse, if_neg hc, forced_of_noInjs hinj, Bool.false_eq_true, if_false, hbank]
  by_cases ha : boostAllowed s ch = true
  · simp only [if_pos ha]
    rfl
  · simp only [if_neg ha]
    rfl

/-- A channel put in BOOST or deferred stays so when the bank is settled: what held it back holds it still. -/
theorem startPulse_settled {s : State} {ch : Nat} (t : Nat) (f : VdFire) (seek : Bool) (hlt : ch < s.vd.chans.length)
    (hb : (vdChan s ch).st ≠ .boost) (hp : (vdChan s ch).st ≠ .pullBat) :
    (vdChan (settleBank (vdBankOf ch) t (updVd ch (fun c => { enterSt (if boostAllowed s ch then .boost else .defer) t c with
      pulse := some (newPulse f t seek) }) s)) ch).st = if boostAllowed s ch then .boost else .defer := by
  generalize hx : updVd ch (fun c => { enterSt (if boostAllowed s ch then .boost else .defer) t c with pulse := some (newPulse f t seek) }) s = x
  have hst : (vdChan x ch).st = if boostAllowed s ch then .boost else .defer := by
    rw [← hx, vdChan_updVd _ hlt]
    rfl
  cases ha : boostAllowed s ch with
  | true =>
    rw [ha] at hst
    have hres := resettled_settleBank (k := vdBankOf ch) (t := t) (s := x) (j := ch) (by rw [hst]; exact nofun)
    exact hres.st.trans hst
  | false =>
    rw [ha] at hst
    have hrun : VdRun (fun j => j = ch) s x := hx ▸ vdRun_updVd (C := fun j => j = ch) rfl _ s
    have hsame {st : VdSt} (hne : (vdChan s ch).st ≠ st) (hne' : st ≠ .defer) (j : Nat) : (vdChan s j).st = st ↔ (vdChan x j).st = st := by
      by_cases hj : j = ch
      · subst hj
        exact ⟨fun h => absurd h hne, fun h => absurd (h.symm.trans hst) hne'⟩
      · rw [hrun.away j hj]
    exact settleBank_refused t hst ((boostAllowed_congr hrun.paramN (hsame hb nofun) (hsame hp nofun)).trans ha)

section
variable {ch : Fin 12} {s : State} {f : VdFire} {t : Nat}

/-- R178, R179: a due fire is taken and its pulse runs from this instant. -/
theorem boostStart_chan (hlen : s.vd.chans.length = 12) (hf : (vdChan s ch).fire = some f) (hdue : f.tOn ≤ t + (vdChan s ch).openEst) :
    (vdChan (boostStart ch t s) ch).fire = none ∧
    ∃ p, (vdChan (boostStart ch t s) ch).pulse = some p ∧ p.fire = f ∧ p.instant = t := by
  have hlt : (ch : Nat) < s.vd.chans.length := ch.isLt.trans_eq hlen.symm
  have hrun : VdRun (fun _ => True) s (startBase ch t s) :=
    vdRun_step (vdRun_updVd (C := fun _ => True) trivial _ _) (vdRun_step (vdRun_cutPulse (C := fun _ => True) trivial _ _) (vdRun_partnerCut ch t s))
  obtain ⟨hfire, p, hp, hpf, hpi⟩ := startPulse_started t f (vdChan (partnerCut ch t s) ch).pulse.isNone (lt_of_lt_of_eq hlt hrun.chans.symm)
  obtain ⟨hcf, -, hcp⟩ := carries_settleBank (vdBankOf ch) t ch (startPulse ch t f (vdChan (partnerCut ch t s) ch).pulse.isNone (startBase ch t s))
  rw [boostStart_due hf hdue]
  obtain ⟨q, hq, hqf, hqi⟩ := hcp p hp
  exact ⟨hcf.trans (hfire.trans (startBase_fire t hlt)), q, hq, hqf.trans hpf, hqi.trans hpi⟩

/-- R181: the pulse of the pair's other channel is over. -/
theorem boostStart_partner {m : Nat} (hf : (vdChan s ch).fire = some f) (hdue : f.tOn ≤ t + (vdChan s ch).openEst)
    (hm : vdPartner s ch = some m) (hne : m ≠ ch.val) : (vdChan (boostStart ch t s) m).pulse = none := by
  have hrun : VdRun (fun j => j = ch.val) (partnerCut ch t s) (startPulse ch t f (vdChan (partnerCut ch t s) ch).pulse.isNone (startBase ch t s)) :=
    vdRun_step (vdRun_startPulse (C := fun j => j = ch.val) rfl _ _ _ _)
      (vdRun_step (vdRun_updVd (C := fun j => j = ch.val) rfl _ _) (vdRun_cutPulse (C := fun j => j = ch.val) rfl _ _))
  rw [boostStart_due hf hdue]
  refine (carries_settleBank _ _ m _).none ?_
  rw [hrun.away m hne]
  exact partnerCut_pulse t hm

theorem boostStart_alone (hf : (vdChan s ch).fire = some f) (hdue : f.tOn ≤ t + (vdChan s ch).openEst) (hm : vdPartner s ch = none)
    (hp : (vdChan s ch).pulse = none) :
    ∃ seek, boostStart ch t s = settleBank (vdBankOf ch) t (startPulse ch t f seek (updVd ch (fun c => { c with fire := none }) s)) :=
  ⟨_, (boostStart_due hf hdue).trans (by rw [startBase_alone t hm hp])⟩

/-- R178, R184, R186: where a pulse of a channel of its own goes at its start. -/
theorem boostStart_alone_chan (hlen : s.vd.chans.length = 12) (hinj : s.ev.injs = []) (hf : (vdChan s ch).fire = some f)
    (hdue : f.tOn ≤ t + (vdChan s ch).openEst) (hm : vdPartner s ch = none) (hp : (vdChan s ch).pulse = none) :
    (paramN s (pVdBoostEmax ch) ≤ boostEnergy (vdChan s ch) →
      (vdChan (boostStart ch t s) ch).st = .pullBat ∧ (vdChan (boostStart ch t s) ch).episode = true) ∧
    (boostEnergy (vdChan s ch) < paramN s (pVdBoostEmax ch) → (vdBank s (vdBankOf ch)).noBoost = true →
      (vdChan (boostStart ch t s) ch).st = .pullBat ∧ (vdChan (boostStart ch t s) ch).weak = wrapU 16 ((vdChan s ch).weak + 1)) ∧
    (boostEnergy (vdChan s ch) < paramN s (pVdBoostEmax ch) → (vdBank s (vdBankOf ch)).noBoost = false → (vdChan s ch).st ≠ .boost →
      (vdChan s ch).st ≠ .pullBat → (vdChan (boostStart ch t s) ch).st = (if boostAllowed s ch then VdSt.boost else VdSt.defer)) ∧
    ∀ j : Nat, j / 3 ≠ ch.val / 3 → vdChan (boostStart ch t s) j = vdChan s j := by
  obtain ⟨seek, hstart⟩ := boostStart_alone hf hdue hm hp
  have hlt : (ch : Nat) < s.vd.chans.length := ch.isLt.trans_eq hlen.symm
  have hx : vdChan (updVd ch (fun c => { c with fire := none }) s) ch = { vdChan s ch with fire := none } := vdChan_updVd _ hlt
  have hrun : VdRun (fun j => j = ch.val) s (updVd ch (fun c => { c with fire := none }) s) := vdRun_updVd (C := fun j => j = ch.val) rfl _ s
  have hbank : vdBank (updVd ch (fun c => { c with fire := none }) s) (vdBankOf ch) = vdBank s (vdBankOf ch) := rfl
  rw [hstart]
  generalize updVd ch (fun c => { c with fire := none }) s = x at hx hrun hbank ⊢
  have hlt' := lt_of_lt_of_eq hlt hrun.chans.symm
  have henergy : boostEnergy (vdChan x ch) = boostEnergy (vdChan s ch) := by rw [hx]; rfl
  rw [← hrun.paramN, ← henergy, ← hbank]
  refine ⟨fun he => ?_, fun he hb => ?_, fun he hb hst hst' => ?_, ?_⟩
  · obtain ⟨hst, hep⟩ := startPulse_limited t f seek hlt' (hrun.noInjs hinj) he
    obtain ⟨a, g, hd, -⟩ := resettled_settleBank (k := vdBankOf ch) (t := t) (j := ch) (by rw [hst]; exact nofun)
    rw [hd]
    exact ⟨hst, hep⟩
  · obtain ⟨hst, hweak⟩ := startPulse_noBoost t f seek hlt' (hrun.noInjs hinj) he hb
    obtain ⟨a, g, hd, -⟩ := resettled_settleBank (k := vdBankOf ch) (t := t) (j := ch) (by rw [hst]; exact nofun)
    rw [hd]
    exact ⟨hst, hweak.trans (by rw [hx])⟩
  · have hstx : (vdChan x ch).st = (vdChan s ch).st := by rw [hx]
    have hallowed : boostAllowed x ch = boostAllowed s ch := by
      have hsame (st : VdSt) (j : Nat) : (vdChan s j).st = st ↔ (vdChan x j).st = st := by
        by_cases hj : j = ch.val
        · rw [hj, hstx]
        · rw [hrun.away j hj]
      exact boostAllowed_congr hrun.paramN (hsame _) (hsame _)
    rw [startPulse_boost t f seek (hrun.noInjs hinj) he hb, ← hallowed]
    exact startPulse_settled t f seek hlt' (hstx ▸ hst) (hstx ▸ hst')
  · exact VdRun.awayBank (vdRun_step (vdRun_settleOwn ch t _) (vdRun_step (vdRun_startPulse (C := InBank ch) (ch := ch) rfl t f seek x)
      (hrun.mono fun j hj => by exact congrArg (· / 3) hj)))

end

/-! ### The hold-duty window -/

/-- R184: the window of one channel moves on. -/
def windowMoved (t ch : Nat) (s : State) : State :=
  updVd ch (fun c => { accrue t c with holds := pushRing 100 (accrue t c).holds (accrue t c).holdNow, holdNow := 0 }) s

/-- R184: a channel's window moves on and its limit is judged. -/
def windowStep (t : Nat) (s : State) (ch : Nat) : State :=
  let s1 := windowMoved t ch s
  let v := measured s1 detHoldDutyLimit (ch + 1) (holdDuty (vdChan s1 ch))
  let lim : Int := param s1 (pVdHoldDutyMax ch)
  if lim < v then beginCond detHoldDutyLimit (ch + 1) v.toNat (updVd ch (fun c => { c with limited := true }) s1)
  else if v ≤ lim - 50 then
    (if (vdChan s1 ch).limited then clearActive detHoldDutyLimit (ch + 1) (updVd ch (fun c => { c with limited := false }) s1) else s1)
  else s1

theorem vdRun_windowStep (t ch : Nat) (s : State) : VdRun (fun j => j = ch) s (windowStep t s ch) := by
  have h1 : VdRun (fun j => j = ch) s (windowMoved t ch s) := vdRun_updVd (C := fun j => j = ch) rfl _ s
  have h2 (b : Bool) := h1.trans (vdRun_updVd (C := fun j => j = ch) rfl (fun c => { c with limited := b }) _)
  exact vdRun_ite (vdRun_step ((told_beginCond _ _ _ _).vdRun _) (h2 true))
    (vdRun_ite (vdRun_ite (vdRun_step ((told_clearActive _ _ _).vdRun _) (h2 false)) h1) h1)

theorem windowMoved_chan {s : State} {t ch : Nat} (hlt : ch < s.vd.chans.length) : vdChan (windowMoved t ch s) ch = { vdChan s ch with
    holdFrom := (accrue t (vdChan s ch)).holdFrom, holdNow := 0
    holds := pushRing 100 (vdChan s ch).holds (accrue t (vdChan s ch)).holdNow } := by
  rw [windowMoved, vdChan_updVd _ hlt]
  conv_lhs => rw [accrue_eq]

theorem param_vdRun {C : Nat → Prop} {s t : State} (h : VdRun C s t) (id : Nat) : param t id = param s id :=
  by rw [param, param, h.settings, h.work, show t.rs = s.rs from h.frame .rs (by decide)]

theorem windowStep_chan {s : State} {t ch : Nat} (hlt : ch < s.vd.chans.length) (hinj : s.ev.injs = []) :
    ∃ b, vdChan (windowStep t s ch) ch = { vdChan (windowMoved t ch s) ch with limited := b } ∧
      ((param s (pVdHoldDutyMax ch) : Int) < holdDuty (vdChan (windowMoved t ch s) ch) → b = true) ∧
      ((holdDuty (vdChan (windowMoved t ch s) ch) : Int) ≤ param s (pVdHoldDutyMax ch) - 50 → b = false) := by
  have hrun : VdRun (fun j => j = ch) s (windowMoved t ch s) := vdRun_updVd (C := fun j => j = ch) rfl _ s
  have hlt' := lt_of_lt_of_eq hlt hrun.chans.symm
  rw [← param_vdRun hrun]
  unfold windowStep
  extract_lets s1 v lim
  have hv : v = holdDuty (vdChan s1 ch) := measured_of_noInjs (hrun.noInjs hinj) _ _ _
  have hlim : lim = param s1 (pVdHoldDutyMax ch) := rfl
  show ∃ b, _ ∧ ((lim : Int) < holdDuty (vdChan s1 ch) → b = true) ∧ ((holdDuty (vdChan s1 ch) : Int) ≤ lim - 50 → b = false)
  by_cases hover : lim < v
  · rw [if_pos hover, (told_beginCond _ _ _ _).vdChan, vdChan_updVd _ hlt']
    exact ⟨true, rfl, fun _ => rfl, fun h => absurd h (by omega)⟩
  · rw [if_neg hover]
    by_cases hunder : v ≤ lim - 50
    · rw [if_pos hunder]
      refine ⟨false, ?_, fun h => absurd h (by omega), fun _ => rfl⟩
      split
      · rw [(told_clearActive _ _ _).vdChan, vdChan_updVd _ hlt']
      · next hl => rw [← Bool.eq_false_of_not_eq_true hl]
    · rw [if_neg hunder]
      exact ⟨_, rfl, fun h => absurd h (by omega), fun h => absurd h (by omega)⟩

/-- In a fold over distinct numbers, the step of one number is the only one that counts for what the others keep. -/
theorem foldl_at {R : State → State → Prop} (hrefl : ∀ x, R x x) (htrans : ∀ {x y z}, R x y → R y z → R x z) {f : State → Nat → State} {k : Nat}
    (hf : ∀ x a, a ≠ k → R x (f x a)) {l : List Nat} (hl : l.Nodup) (hk : k ∈ l) (s : State) : ∃ x, R s x ∧ R (f x k) (l.foldl f s) := by
  obtain ⟨l1, l2, rfl⟩ := List.append_of_mem hk
  obtain ⟨h1, h2⟩ := List.nodup_append.mp hl |>.2
  have hother {l : List Nat} (hl : k ∉ l) (y : State) : R y (l.foldl f y) :=
    List.foldlRecOn l f (hrefl y) fun x hx a ha => htrans hx (hf x a fun h => hl (h ▸ ha))
  refine ⟨l1.foldl f s, hother (fun hm => h2 k hm k List.mem_cons_self rfl) s, ?_⟩
  rw [List.foldl_append, List.foldl_cons]
  exact hother (List.nodup_cons.mp h1).1 _

theorem vdRun_foldl_at {f : State → Nat → State} (hf : ∀ x a, VdRun (fun j => j = a) x (f x a)) {l : List Nat} (hl : l.Nodup) {ch : Nat}
    (hch : ch ∈ l) (s : State) : ∃ x, VdRun (fun j => j ≠ ch) s x ∧ VdRun (fun j => j ≠ ch) (f x ch) (l.foldl f s) :=
  foldl_at (VdRun.refl _) VdRun.trans (fun x a ha => (hf x a).mono fun j hj => by rw [hj]; exact ha) hl hch s

theorem windows_chan {s : State} (t : Nat) (ch : Fin 12) (hlen : s.vd.chans.length = 12) (hinj : s.ev.injs = []) :
    ∃ b, vdChan ((List.range 12).foldl (windowStep t) s) ch = { vdChan s ch with
        holdFrom := (accrue t (vdChan s ch)).holdFrom, holdNow := 0, limited := b
        holds := pushRing 100 (vdChan s ch).holds (accrue t (vdChan s ch)).holdNow } ∧
      ((param s (pVdHoldDutyMax ch) : Int) < holdDuty (vdChan ((List.range 12).foldl (windowStep t) s) ch) → b = true) ∧
      ((holdDuty (vdChan ((List.range 12).foldl (windowStep t) s) ch) : Int) ≤ param s (pVdHoldDutyMax ch) - 50 → b = false) := by
  obtain ⟨x, hx, hz⟩ := vdRun_foldl_at (fun x a => vdRun_windowStep t a x) List.nodup_range (List.mem_range.mpr ch.isLt) s
  have hlt : (ch : Nat) < x.vd.chans.length := by rw [hx.chans, hlen]; exact ch.isLt
  obtain ⟨b, hb, hover, hunder⟩ := windowStep_chan hlt (hx.noInjs hinj)
  rw [windowMoved_chan hlt, hx.away ch fun h => h rfl] at hb
  rw [windowMoved_chan hlt, hx.away ch fun h => h rfl, param_vdRun hx] at hover hunder
  rw [hz.away ch fun h => h rfl, hb]
  exact ⟨b, rfl, hover, hunder⟩

theorem holdDutyWindowStep_eq (s : State) :
    exec .holdDutyWindowStep s = .next (if s.clk.frame % 100 = 0 then (List.range 12).foldl (windowStep (usNow s 0)) s else s) := rfl

end Sys2Proof.Proofs
end

section
/-!
PROOFS. The valve drive's pulses run (O38).
-/

namespace Sys2Proof.Proofs

open Sys2Proof.Machine Sys2Proof.Safety

/-- R172: what a reading of the rail leaves. -/
theorem boostRailThreshold_leaves (mv : Nat) (s : State) : ∃ t, exec (.boostRailThreshold mv) s = .next t ∧ t.an = { s.an with rail := mv } ∧
    t.vd.chans = s.vd.chans ∧ t.vd.conv = s.vd.conv ∧ onlyIn [.vd, .an] s t ∧ (s.vd.conv = .regulating →
      (mv < 59000 → t.vd.charging = true) ∧ (60000 ≤ mv → t.vd.charging = false) ∧ (59000 ≤ mv → mv < 60000 → t.vd.charging = s.vd.charging)) := by
  have hframe (t : State) (h : exec (.boostRailThreshold mv) s = .next t) := frame_execBoostRailThreshold mv s t h
  by_cases hc : s.vd.conv = .regulating
  · have hexec : exec (.boostRailThreshold mv) s = .next _ := congrArg Host.Outcome.next (if_pos hc)
    refine ⟨_, hexec, rfl, rfl, rfl, hframe _ hexec, fun _ => ⟨fun h => if_pos h, fun h => ?_, fun h h' => ?_⟩⟩
    · exact (if_neg (by omega)).trans (if_pos h)
    · exact (if_neg (by omega)).trans (if_neg (by omega))
  · have hexec : exec (.boostRailThreshold mv) s = .next _ := congrArg Host.Outcome.next (if_neg hc)
    exact ⟨_, hexec, rfl, rfl, rfl, hframe _ hexec, fun h => absurd h hc⟩

section
variable {ch : Fin 12} {us : Fin 1000} {s : State} {p : VdPulse}

theorem boostStart_cases (hlen : s.vd.chans.length = 12) (hinj : s.ev.injs = []) {f : VdFire} (hf : (vdChan s ch).fire = some f)
    (hdue : f.tOn ≤ usNow s us + (vdChan s ch).openEst) :
    let t := boostStart ch (usNow s us) s
    exec (.boostStartInstant ch us) s = .next t ∧ (vdChan t ch).fire = none ∧
    (∃ p, (vdChan t ch).pulse = some p ∧ p.fire = f ∧ p.instant = usNow s us) ∧ onlyIn (.vd :: .free :: tells) s t ∧
    (∀ m, vdPartner s ch = some m → m ≠ ch.val → (vdChan t m).pulse = none) ∧
    (vdPartner s ch = none → (vdChan s ch).pulse = none →
      (paramN s (pVdBoostEmax ch) ≤ boostEnergy (vdChan s ch) → (vdChan t ch).st = .pullBat ∧ (vdChan t ch).episode = true) ∧
      (boostEnergy (vdChan s ch) < paramN s (pVdBoostEmax ch) → (vdBank s (vdBankOf ch)).noBoost = true →
        (vdChan t ch).st = .pullBat ∧ (vdChan t ch).weak = wrapU 16 ((vdChan s ch).weak + 1)) ∧
      (boostEnergy (vdChan s ch) < paramN s (pVdBoostEmax ch) → (vdBank s (vdBankOf ch)).noBoost = false → (vdChan s ch).st ≠ .boost →
        (vdChan s ch).st ≠ .pullBat → (vdChan t ch).st = (if boostAllowed s ch then VdSt.boost else VdSt.defer)) ∧
      ∀ j : Nat, j / 3 ≠ ch.val / 3 → vdChan t j = vdChan s j) := by
  obtain ⟨hfire, hpulse⟩ := boostStart_chan hlen hf hdue
  exact ⟨rfl, hfire, hpulse, onlyIn_mono (frame_execBoostStartInstant ch us s _ rfl) rfl, fun m hm hne => boostStart_partner hf hdue hm hne,
    fun hm hp => boostStart_alone_chan hlen hinj hf hdue hm hp⟩

/-- R180, Table 6-6: the peak of a boost, late or early. -/
theorem peakReached_cases (hlen : s.vd.chans.length = 12) (hinj : s.ev.injs = []) (hp : (vdChan s ch).pulse = some p) (m : VdBoost)
    (hma : paramN s (pVdIPeak ch) ≤ m.ma) (hst : (vdChan s ch).st = .boost) :
    (p.startAt + 50 ≤ usNow s us → ∃ t, exec (.peakReached ch us m) s = .next t ∧
      (vdChan t ch).st = .peak ∧ (vdChan t ch).earlyRow = 0 ∧ (vdChan t ch).energyNow = (vdChan s ch).energyNow + m.energy ∧
      (∃ q, (vdChan t ch).pulse = some q ∧ q.boostTime = usNow s us - p.startAt ∧ q.since = usNow s us) ∧
      (∀ j : Nat, j / 3 ≠ ch.val / 3 → vdChan t j = vdChan s j) ∧ onlyIn (.vd :: tells) s t) ∧
    (usNow s us < p.startAt + 50 → ∃ t, exec (.peakReached ch us m) s = .next t ∧
      (vdChan t ch).earlyRow = (vdChan s ch).earlyRow + 1 ∧ ((vdChan t ch).st = if 8 ≤ (vdChan s ch).earlyRow + 1 then VdSt.fault else VdSt.peak) ∧
      (8 ≤ (vdChan s ch).earlyRow + 1 → (vdChan t ch).cause = 4) ∧
      (∀ j : Nat, j / 3 ≠ ch.val / 3 → vdChan t j = vdChan s j) ∧ onlyIn (.vd :: tells) s t) := by
  have hexec := peakReached_boost (us := us) m hp hma hst hinj
  have hrun := vdRun_peaked ch (usNow s us) m s
  have hlt : (ch : Nat) < (peaked ch (usNow s us) m s).vd.chans.length := ch.isLt.trans_eq (hrun.chans.trans hlen).symm
  obtain ⟨h, f, a, hc⟩ := peaked_chan (usNow s us) m (ch.isLt.trans_eq hlen.symm : (ch : Nat) < s.vd.chans.length)
  rw [hp] at hc
  have hframe := onlyIn_mono (T := .vd :: tells) (frame_execPeakReached ch us m s _ hexec) rfl
  have haway := VdRun.awayBank (hrun.trans (vdRun_earlyPeak ch (usNow s us) (decide (usNow s us - p.startAt < 50)) _))
  refine ⟨fun hlate => ?_, fun hearly => ?_⟩
  · rw [decide_eq_false (show ¬(usNow s us - p.startAt < 50) by omega)] at hexec hframe haway
    have hchan := earlyPeak_late (t := usNow s us) hlt
    rw [hc] at hchan
    refine ⟨_, hexec, ?_, ?_, ?_, ?_, haway, hframe⟩ <;> rw [hchan]
    exact ⟨_, rfl, rfl, rfl⟩
  · rw [decide_eq_true (show usNow s us - p.startAt < 50 by omega)] at hexec hframe haway
    obtain ⟨hrow, hst', hcause⟩ := earlyPeak_early (t := usNow s us) hlt
    rw [hc] at hrow hst' hcause
    exact ⟨_, hexec, hrow, hst', hcause, haway, hframe⟩

/-- Table 6-2: the end of a boost that has not reached its peak. -/
theorem boostTimeout_boost_cases (hlen : s.vd.chans.length = 12) (hinj : s.ev.injs = []) (hp : (vdChan s ch).pulse = some p) (m : VdBoost)
    (hst : (vdChan s ch).st = .boost) (hdue : p.startAt + paramN s (pVdBoostMax ch) ≤ usNow s us) :
    ∃ t, exec (.boostTimeout ch us m) s = .next t ∧
      (500 ≤ m.ma → (vdChan t ch).st = .peak ∧ ∃ q, (vdChan t ch).pulse = some q ∧ q.timeout = true) ∧
      (m.ma < 500 → (vdChan t ch).st = .fault ∧ (vdChan t ch).cause = 1 ∧ (vdChan t ch).pulse = none) ∧
      (∀ j : Nat, j / 3 ≠ ch.val / 3 → vdChan t j = vdChan s j) ∧ onlyIn (.vd :: tells) s t := by
  have hexec := boostTimeout_boost (us := us) m hp hst hinj
  rw [if_pos hdue] at hexec
  have hframe := onlyIn_mono (T := .vd :: tells) (frame_execBoostTimeout ch us m s _ hexec) rfl
  refine ⟨_, hexec, ?_⟩
  by_cases hma : 500 ≤ m.ma
  · rw [if_pos hma] at hframe ⊢
    have hrun := vdRun_peaked ch (usNow s us) m s
    obtain ⟨h, f, a, hc⟩ := peaked_chan (usNow s us) m (ch.isLt.trans_eq hlen.symm : (ch : Nat) < s.vd.chans.length)
    have hchan := vdChan_updPulse (fun p => { p with timeout := true }) (ch.isLt.trans_eq (hrun.chans.trans hlen).symm : (ch : Nat) < (peaked ch (usNow s us) m s).vd.chans.length)
    rw [hc, hp] at hchan
    have haway := VdRun.awayBank (vdRun_step ((told_happen detBoostTimeout (ch + 1) 0 _).vdRun _)
      (vdRun_step (vdRun_updPulse (C := InBank ch) (ch := ch) rfl (fun p => { p with timeout := true }) _) hrun))
    refine ⟨fun _ => ?_, fun h => absurd h (Nat.not_lt.mpr hma), haway, hframe⟩
    rw [(told_happen _ _ _ _).vdChan, hchan]
    exact ⟨rfl, _, rfl, rfl⟩
  · rw [if_neg hma] at hframe ⊢
    have hrun := vdRun_boostDone (C := InBank ch) (ch := ch) rfl m s
    obtain ⟨hf, -⟩ := vdFault_chan 1 (usNow s us) (ch.isLt.trans_eq (hrun.chans.trans hlen).symm : (ch : Nat) < (boostDone ch m s).vd.chans.length)
    exact ⟨fun h => absurd h hma, fun _ => ⟨hf.st, hf.cause, hf.pulse⟩, VdRun.awayBank (hrun.trans (vdRun_vdFault ch 1 _ _)), hframe⟩

/-- R186: the end of a pull-in from VBAT that has not reached its peak. -/
theorem boostTimeout_pull_cases (hlen : s.vd.chans.length = 12) (hp : (vdChan s ch).pulse = some p) (m : VdBoost) {o : Nat}
    (hst : (vdChan s ch).st = .pullBat) (ho : p.onAt = some o) (hdue : o + 10000 ≤ usNow s us) :
    ∃ t, exec (.boostTimeout ch us m) s = .next t ∧ (vdChan t ch).st = (if 500 ≤ m.ma then VdSt.peak else VdSt.fault) ∧
      (∀ j : Nat, j / 3 ≠ ch.val / 3 → vdChan t j = vdChan s j) ∧ onlyIn (.vd :: tells) s t := by
  have hlt : (ch : Nat) < s.vd.chans.length := ch.isLt.trans_eq hlen.symm
  have hexec := boostTimeout_pull (us := us) m hp hst ho
  rw [if_pos hdue] at hexec
  have hframe := onlyIn_mono (T := .vd :: tells) (frame_execBoostTimeout ch us m s _ hexec) rfl
  refine ⟨_, hexec, ?_⟩
  by_cases hma : 500 ≤ m.ma
  · simp only [if_pos hma] at hframe ⊢
    obtain ⟨h, f, a, hc⟩ := toPeak_chan (usNow s us) hlt
    have hrun := vdRun_toPeak ch (usNow s us) s
    refine ⟨?_, VdRun.awayBank (vdRun_step (vdRun_updPulse (C := InBank ch) (ch := ch) rfl _ _) hrun), hframe⟩
    rw [vdChan_updPulse _ (lt_of_lt_of_eq hlt hrun.chans.symm), hc]
  · simp only [if_neg hma] at hframe ⊢
    exact ⟨(vdFault_chan 1 (usNow s us) hlt).1.st, VdRun.awayBank (vdRun_vdFault ch 1 _ s), hframe⟩

/-- R182, R183, R185: the end of an observation. -/
theorem observeEnd_cases (hlen : s.vd.chans.length = 12) (hp : (vdChan s ch).pulse = some p) (volts : List Int) (hst : (vdChan s ch).st = .observe)
    (hdue : (seatOf s ch p volts).isSome = true ∨ p.since + paramN s (pVdObserveMax ch) ≤ usNow s us) :
    ∃ t, exec (.observeEnd ch us volts) s = .next t ∧
      (vdChan t ch).st = (if (vdChan s ch).fire.isSome then VdSt.wait else VdSt.idle) ∧ (vdChan t ch).pulse = none ∧
      (vdChan t ch).pulses = wrapU 32 ((vdChan s ch).pulses + 1) ∧
      (vdChan t ch).noSeatRow = (if seatOf s ch p volts = none then (vdChan s ch).noSeatRow + 1 else 0) ∧
      (∀ d, p.opening = some d →
        (vdChan t ch).openEst = timingUpdate (vdChan s ch).openEst d (paramN s (pVdLead ch)) (paramN s pVdTimingSmooth)) ∧
      (∀ d, seatOf s ch p volts = some d → p.reduced = false →
        (vdChan t ch).closeEst = timingUpdate (vdChan s ch).closeEst d (paramN s (pVdOnTime ch)) (paramN s pVdTimingSmooth)) ∧
      (∀ j : Nat, j / 3 ≠ ch.val / 3 → vdChan t j = vdChan s j) ∧ onlyIn (.vd :: .free :: tells) s t := by
  have hexec := observeEnd_eq (us := us) volts hp
  rw [if_pos ⟨hst, hdue⟩] at hexec
  have hframe := onlyIn_mono (T := .vd :: .free :: tells) (frame_execObserveEnd ch us volts s _ hexec) rfl
  obtain ⟨ring, hc⟩ := observed_chan (seatOf s ch p volts) hp (ch.isLt.trans_eq hlen.symm : (ch : Nat) < s.vd.chans.length)
  refine ⟨_, hexec, ?_⟩
  rw [hc]
  refine ⟨rfl, rfl, rfl, ?_, fun d hd => ?_, fun d hd hred => ?_, VdRun.awayBank (vdRun_observed (C := InBank ch) (ch := ch) rfl _ s), hframe⟩
  · simp only [reported, Option.isNone_iff_eq_none]
  · simp only [reported, hd]
  · simp only [reported, hd, hred, Bool.false_eq_true, if_false]

end

/-- Settles O38: each event's change of its channel, taken from the model's own operations on a bank. -/
theorem valvePulsesRun : Obligations.ValvePulsesRun := by
  unfold Obligations.ValvePulsesRun
  intro ch us s c t0 away hlen _ hinj
  have hlt : (ch : Nat) < s.vd.chans.length := ch.isLt.trans_eq hlen.symm
  refine ⟨fun hf => congrArg Host.Outcome.next (boostStart_idle fun f h => by cases hf.symm.trans h),
    fun f hf h => congrArg Host.Outcome.next (boostStart_idle fun g hg => by cases hf.symm.trans hg; exact h),
    fun f hf hdue => ⟨_, boostStart_cases hlen hinj hf hdue⟩, fun p hp => ⟨fun m => ⟨?_, ?_, ?_, ?_, ?_, ?_, ?_⟩, ?_, ?_, fun cur => ⟨?_, ?_⟩, ?_, ?_,
      fun volts => ?_⟩, fun ma => ⟨?_, ?_⟩, ?_, ?_, fun mv => boostRailThreshold_leaves mv s⟩
  · exact peakReached_below m hp
  · exact fun hma hst => (peakReached_cases hlen hinj hp m hma hst).1
  · exact fun hma hst => (peakReached_cases hlen hinj hp m hma hst).2
  · exact fun hst h => (boostTimeout_boost m hp hst hinj).trans (congrArg Host.Outcome.next (if_neg (Nat.not_le.mpr h)))
  · exact fun hst => boostTimeout_boost_cases hlen hinj hp m hst
  · exact fun o hst ho h => (boostTimeout_pull m hp hst ho).trans (congrArg Host.Outcome.next (if_neg (Nat.not_le.mpr h)))
  · exact fun o hst ho => boostTimeout_pull_cases hlen hp m hst ho
  · exact fun h => (deferTimeout_eq hp).trans (congrArg Host.Outcome.next (if_neg fun hc => h.elim (· hc.1) (Nat.not_lt.mpr hc.2)))
  · intro hst hdue
    have hexec := (deferTimeout_eq (us := us) hp).trans (congrArg Host.Outcome.next (if_pos ⟨hst, hdue⟩))
    obtain ⟨hst', hweak, hq⟩ := deferEnded_chan (usNow s us) hp hlt
    exact ⟨_, hexec, hst', hweak, hq, VdRun.awayBank (vdRun_deferEnded ch _ s), onlyIn_mono (frame_execDeferTimeout ch us s _ hexec) rfl⟩
  · exact fun h => (peakEnd_eq cur hp).trans (congrArg Host.Outcome.next (if_neg fun hc => h.elim (· hc.1) (Nat.not_lt.mpr hc.2)))
  · intro hst hdue
    have hexec := (peakEnd_eq (us := us) cur hp).trans (congrArg Host.Outcome.next (if_pos ⟨hst, hdue⟩))
    obtain ⟨hst', hq⟩ := peakOver_chan (usNow s us) cur hp hlt
    exact ⟨_, hexec, hst', hq, VdRun.awayBank (vdRun_peakOver ch _ cur p s), frame_execPeakEnd ch us cur s _ hexec⟩
  · exact fun h => (releaseInstant_eq hp).trans (congrArg Host.Outcome.next (if_neg fun hc => h.elim (· hc.1) (Nat.not_lt.mpr hc.2)))
  · intro hst hdue
    have hexec := (releaseInstant_eq (us := us) hp).trans (congrArg Host.Outcome.next (if_pos ⟨hst, hdue⟩))
    obtain ⟨h, f, a, r, hc⟩ := toRelease_chan (usNow s us) hlt
    rw [hp] at hc
    exact ⟨_, hexec, by rw [hc], by rw [hc]; exact ⟨_, rfl, rfl⟩, VdRun.awayBank (vdRun_toRelease ch _ s), frame_execReleaseInstant ch us s _ hexec⟩
  · intro seat
    refine ⟨fun h => (observeEnd_eq volts hp).trans (congrArg Host.Outcome.next (if_neg ?_)), fun hst hdue => observeEnd_cases hlen hp volts hst hdue⟩
    rintro ⟨hst, hdue⟩
    rcases h with h | ⟨hseat, h⟩
    · exact h hst
    · refine hdue.elim (fun hs => ?_) (Nat.not_le.mpr h)
      rw [show seatOf s ch p volts = none from hseat] at hs
      cases hs
  · intro hst hma
    have hexec := (releaseEnd_eq (us := us) ma).trans (congrArg Host.Outcome.next (if_pos ⟨hst, hma⟩))
    refine ⟨_, hexec, ?_, VdRun.awayBank (vdRun_updVd (C := InBank ch) (ch := ch) rfl _ s), frame_execReleaseEnd ch us ma s _ hexec⟩
    rw [vdChan_updVd _ hlt]
    rfl
  · exact fun h => (releaseEnd_eq ma).trans (congrArg Host.Outcome.next (if_neg fun hc => h.elim (· hc.1) (Nat.not_le.mpr hc.2)))
  · exact fun h => (holdDutyWindowStep_eq s).trans (congrArg Host.Outcome.next (if_neg h))
  · intro h
    have hexec := (holdDutyWindowStep_eq s).trans (congrArg Host.Outcome.next (if_pos h))
    obtain ⟨b, hc, hover, hunder⟩ := windows_chan (usNow s 0) ch hlen hinj
    refine ⟨_, hexec, by rw [hc], by rw [hc], by rw [hc], fun h => ?_, fun h => ?_, onlyIn_mono (frame_execHoldDutyWindowStep s _ hexec) rfl⟩
    · exact (congrArg VdChan.limited hc).trans (hover h)
    · exact (congrArg VdChan.limited hc).trans (hunder h)

end Sys2Proof.Proofs
end

section
/-!
PROOFS. The faults of the valve drive: the channel, the bank and the converter (R172, R192, R194; O39).
-/

namespace Sys2Proof.Proofs

open Sys2Proof.Machine Sys2Proof.Safety

/-! ### Bank pins -/

/-- What the banks hold about a short to VBAT. -/
def noBoosts (s : State) : List Bool := s.vd.banks.map VdBank.noBoost

theorem map_updAt {α β : Type} (g : α → β) {f : α → α} (hf : ∀ a, g (f a) = g a) (l : List α) (i : Nat) : (updAt l i f).map g = l.map g := by
  refine List.ext_getElem? fun j => ?_
  rw [List.getElem?_map, List.getElem?_map, getElem?_updAt, Option.map_map]
  refine congrArg (fun h => Option.map h l[j]?) (funext fun a => ?_)
  simp only [Function.comp_apply]
  split
  · exact hf a
  · rfl

theorem noBoosts_foldl {α : Type} {f : State → α → State} (hf : ∀ x a, noBoosts (f x a) = noBoosts x) (l : List α) (s : State) :
    noBoosts (l.foldl f s) = noBoosts s := by
  induction l generalizing s with
  | nil => rfl
  | cons a l ih => exact (ih (f s a)).trans (hf s a)

theorem noBoosts_settleBank (k t : Nat) (s : State) : noBoosts (settleBank k t s) = noBoosts s := by
  have hadmit (x : State) : noBoosts (admitDeferred k t x) = noBoosts x := noBoosts_foldl (fun y a => by split <;> rfl) _ x
  have hpull (x : State) : noBoosts (startPull k t x) = noBoosts x := by
    unfold startPull
    split
    · rfl
    · exact noBoosts_foldl (fun y a => by split <;> rfl) _ x
  have hduty (x : State) : noBoosts (applyDuty k x) = noBoosts x := noBoosts_foldl (fun _ _ => by rfl) _ x
  exact (map_updAt VdBank.noBoost (fun _ => by rfl) _ _).trans ((hduty _).trans ((hpull _).trans (hadmit s)))

theorem Told.noBoosts {s t : State} (h : Told s t) : noBoosts t = noBoosts s :=
  congrArg (fun v => v.banks.map VdBank.noBoost) (h.frame .vd (by decide))

theorem noBoosts_vdFault (ch cause t : Nat) (s : State) : noBoosts (vdFault ch cause t s) = noBoosts s :=
  (noBoosts_settleBank _ _ _).trans (told_beginCond _ _ _ _).noBoosts

theorem vdBank_noBoost_congr {s t : State} (h : noBoosts t = noBoosts s) (k : Nat) : (vdBank t k).noBoost = (vdBank s k).noBoost := by
  have hget (x : State) : (vdBank x k).noBoost = (noBoosts x).getD k false := by
    simp only [vdBank, nth, noBoosts, List.getD_eq_getElem?_getD, List.getElem?_map]
    cases x.vd.banks[k]? <;> rfl
  rw [hget, hget, h]

/-! ### A channel and a bank in FAULT -/

/-- The cause that a bank's fault gives a channel. -/
def bankCause (own : Option (Nat × Nat)) (c : Nat) : Nat :=
  match own with
  | some o => if o.1 = c then o.2 else 5
  | none => 5

/-- Table 6-6: the channels of a bank, all in FAULT. -/
def bankFaulted (k t : Nat) (own : Option (Nat × Nat)) (s : State) : State :=
  (bankChans k).foldl (fun st c => vdToFault c (bankCause own c) t st) s

theorem vdBankFault_eq (k t : Nat) (own : Option (Nat × Nat)) (s : State) : vdBankFault k t own s = settleBank k t (bankFaulted k t own s) := by
  unfold vdBankFault bankFaulted
  refine congrArg (settleBank k t) (congrArg (fun f => List.foldl f s (bankChans k)) (funext fun st => funext fun c => ?_))
  cases own with
  | none => rfl
  | some o =>
    simp only [bankCause]
    split <;> rfl

theorem mem_bankChans_div (j : Nat) : j ∈ bankChans (j / 3) := by
  simp only [bankChans, List.mem_cons, List.not_mem_nil, or_false]
  omega

theorem nodup_bankChans (k : Nat) : (bankChans k).Nodup := by simp [bankChans]

theorem bankFaulted_chan {s : State} {j : Nat} (t : Nat) (own : Option (Nat × Nat)) (hlt : j < s.vd.chans.length) :
    FaultedFor (bankCause own j) (vdChan (bankFaulted (j / 3) t own s) j) := by
  obtain ⟨x, hx, hz⟩ := vdRun_foldl_at (f := fun st c => vdToFault c (bankCause own c) t st) (fun x a => vdRun_vdToFault (C := fun i => i = a) rfl _ t x)
    (nodup_bankChans (j / 3)) (mem_bankChans_div j) s
  obtain ⟨hf, -⟩ := vdToFault_chan (s := x) (bankCause own j) t (lt_of_lt_of_eq hlt hx.chans.symm)
  rw [bankFaulted, hz.away j fun h => h rfl]
  exact hf

/-- Table 6-6: every channel of a bank that fails is in FAULT. -/
theorem vdBankFault_chan {s : State} {j : Nat} (t : Nat) (own : Option (Nat × Nat)) (hlt : j < s.vd.chans.length) :
    FaultedFor (bankCause own j) (vdChan (vdBankFault (j / 3) t own s) j) := by
  rw [vdBankFault_eq]
  exact (bankFaulted_chan t own hlt).settled _ _

theorem vdRun_vdBankFault (k t : Nat) (own : Option (Nat × Nat)) (s : State) : VdRun (fun j => j / 3 = k) s (vdBankFault k t own s) := by
  rw [vdBankFault_eq]
  exact vdRun_step (vdRun_settleBank (fun _ hc => mem_bankChans hc) _ _)
    (vdRun_foldl (fun x c hc => vdRun_vdToFault (C := fun j => j / 3 = k) (mem_bankChans hc) _ t x) s)

theorem noBoosts_vdBankFault (k t : Nat) (own : Option (Nat × Nat)) (s : State) : noBoosts (vdBankFault k t own s) = noBoosts s := by
  rw [vdBankFault_eq]
  exact (noBoosts_settleBank _ _ _).trans (noBoosts_foldl (fun _ _ => by rfl) _ s)

theorem FaultedFor.congr {cause : Nat} {s t : State} {j : Nat} (h : FaultedFor cause (vdChan s j)) (hvd : vdChan t j = vdChan s j) :
    FaultedFor cause (vdChan t j) := by rwa [hvd]

/-! ### The voltages of a diagnosis -/

theorem vdToFault_diag (c cause t j : Nat) (s : State) : (vdChan (vdToFault c cause t s) j).diag = (vdChan s j).diag := by
  rcases vdChan_updVd_or c j (fun c => { enterSt .fault t c with
    cause, fire := none, pulse := none, train := none, regMa := none, duty := 0, applied := 0 }) s with h | ⟨-, h⟩
  · rw [vdToFault, h]
  · rw [vdToFault, h, enterSt_eq]

theorem Resettled.diag {c d : VdChan} (h : Resettled c d) : d.diag = c.diag := by
  obtain ⟨a, g, rfl, -⟩ := h
  rfl

theorem vdFault_diag {s : State} {ch : Nat} (cause t : Nat) (hlt : ch < s.vd.chans.length) :
    (vdChan (vdFault ch cause t s) ch).diag = (vdChan s ch).diag := by
  obtain ⟨hf, -⟩ := vdToFault_chan (s := s) cause t hlt
  have htold := (told_beginCond (vdCauseDet cause) (ch + 1) 0 (vdToFault ch cause t s)).vdChan ch
  have hres := resettled_settleBank (k := vdBankOf ch) (t := t) (s := beginCond (vdCauseDet cause) (ch + 1) 0 (vdToFault ch cause t s)) (j := ch)
    (by rw [htold, hf.st]; exact nofun)
  exact hres.diag.trans ((congrArg VdChan.diag htold).trans (vdToFault_diag ch cause t ch s))

theorem vdBankFault_diag {s : State} {j : Nat} (t : Nat) (own : Option (Nat × Nat)) (hlt : j < s.vd.chans.length) :
    (vdChan (vdBankFault (j / 3) t own s) j).diag = (vdChan s j).diag := by
  have hfold : (vdChan (bankFaulted (j / 3) t own s) j).diag = (vdChan s j).diag :=
    chan_foldl (R := fun c d => d.diag = c.diag) (fun _ => rfl) (fun h h' => h'.trans h) (fun x a => vdToFault_diag a _ t j x) _ s
  have hst : (vdChan (bankFaulted (j / 3) t own s) j).st ≠ .defer := by
    rw [(bankFaulted_chan t own hlt).st]
    exact nofun
  rw [vdBankFault_eq, (resettled_settleBank hst).diag, hfold]

end Sys2Proof.Proofs
end

section
/-!
PROOFS. Valve faults are detected (R172, R192, R194; O39).
-/

namespace Sys2Proof.Proofs

open Sys2Proof.Machine Sys2Proof.Safety

theorem isPresent_congr {s t : State} (h : t.ev = s.ev) (code inst : Nat) : isPresent t code inst = isPresent s code inst := by
  rw [isPresent, h, isPresent]

theorem isPresent_begun (code inst data : Nat) (s : State) : isPresent (beginCond code inst data s) code inst = true := by
  rw [isPresent_beginCond]
  simp

theorem vdFault_present (ch cause t : Nat) (s : State) : isPresent (vdFault ch cause t s) (vdCauseDet cause) (ch + 1) = true :=
  (isPresent_congr (frame_settleBank _ _ _ .ev (by decide)) _ _).trans (isPresent_begun _ _ _ _)

/-- Table 6-6: what the fault of a channel leaves. -/
structure ChanFault (ch cause : Nat) (s t : State) : Prop where
  fault : FaultedFor cause (vdChan t ch)
  away : ∀ j : Nat, j / 3 ≠ ch / 3 → vdChan t j = vdChan s j
  frame : onlyIn (.vd :: tells) s t

theorem ChanFault.told {ch cause : Nat} {s t u : State} (h : ChanFault ch cause s t) (h' : Told t u) : ChanFault ch cause s u where
  fault := h.fault.congr (h'.vdChan ch)
  away := fun j hj => (h'.vdChan j).trans (h.away j hj)
  frame := onlyIn_step h'.frame rfl h.frame

theorem vdFault_chanFault {s : State} {ch : Nat} (cause t : Nat) (hlt : ch < s.vd.chans.length) : ChanFault ch cause s (vdFault ch cause t s) where
  fault := (vdFault_chan cause t hlt).1
  away := VdRun.awayBank (vdRun_vdFault ch cause t s)
  frame := onlyIn_mono (frame_vdFault ch cause t s) rfl

theorem vdBankFault_chanFault {s : State} {ch : Nat} (t : Nat) (own : Option (Nat × Nat)) (hlt : ch < s.vd.chans.length) :
    ChanFault ch (bankCause own ch) s (vdBankFault (ch / 3) t own s) where
  fault := vdBankFault_chan t own hlt
  away := (vdRun_vdBankFault (ch / 3) t own s).away
  frame := onlyIn_mono (frame_vdBankFault _ t own s) rfl

/-- The rest of a bank that fails, as the bank's fault leaves it. -/
theorem vdBankFault_others {s : State} {ch j : Nat} (t : Nat) {own : Option (Nat × Nat)} (hown : ∀ o, own = some o → o.1 = ch)
    (hlen : s.vd.chans.length = 12) (hch : ch < 12) (hj : j / 3 = ch / 3) (hne : j ≠ ch) :
    (vdChan (vdBankFault (ch / 3) t own s) j).st = .fault ∧ (vdChan (vdBankFault (ch / 3) t own s) j).cause = 5 := by
  have hf := vdBankFault_chan (s := s) (j := j) t own (by omega)
  rw [hj] at hf
  refine ⟨hf.st, hf.cause.trans ?_⟩
  cases own with
  | none => rfl
  | some o => exact if_neg fun h => hne (h.symm.trans (hown o rfl))

/-! ### Measurements at the switches -/

section
variable {ch : Fin 12} {us : Fin 1000} {s : State}

theorem lowSide_eq (ma : Nat) (hinj : s.ev.injs = []) : exec (.valveFaultDetect ch us (.lowSide ma)) s =
    .next (if 15000 ≤ ma then vdFault ch (if (vdBank s (ch.val / 3)).on then 4 else 3) (usNow s us) s else s) := by
  show execValveFaultDetect ch us (.lowSide ma) s = _
  simp only [execValveFaultDetect, forced_of_noInjs hinj, Bool.or_false, Bool.not_false, Bool.and_true, decide_eq_true_eq]
  rfl

theorem bankCurrent_eq (ma : Nat) (hinj : s.ev.injs = []) : exec (.valveFaultDetect ch us (.bank ma)) s =
    .next (if 30000 ≤ ma then beginCond detBankShortToGround (ch.val / 3 + 1) 0 (vdBankFault (ch.val / 3) (usNow s us) none s) else s) := by
  show execValveFaultDetect ch us (.bank ma) s = _
  simp only [execValveFaultDetect, forced_of_noInjs hinj, Bool.or_false, decide_eq_true_eq]
  rfl

theorem bankExcess_eq (ma d : Nat) (hinj : s.ev.injs = []) : exec (.valveFaultDetect ch us (.bankExcess ma d)) s =
    .next (if 1000 ≤ ma ∧ 20 ≤ d then beginCond detVlsShortToGround (ch + 1) 0 (vdBankFault (ch.val / 3) (usNow s us) (some (ch, 2)) s) else s) := by
  show execValveFaultDetect ch us (.bankExcess ma d) s = _
  simp only [execValveFaultDetect, forced_of_noInjs hinj, Bool.or_false, Bool.and_eq_true, decide_eq_true_eq]
  rfl

theorem bankPin_eq (mv : Nat) (hinj : s.ev.injs = []) : exec (.valveFaultDetect ch us (.bankPin mv)) s =
    .next (if (vdBank s (ch.val / 3)).on then s
      else detect detBankShortToBattery (ch.val / 3 + 1) (decide (6000 < mv)) 0 (updBank (ch.val / 3) (fun b => { b with noBoost := decide (6000 < mv) }) s)) := by
  show execValveFaultDetect ch us (.bankPin mv) s = _
  simp only [execValveFaultDetect, forced_of_noInjs hinj, Bool.or_false]
  rfl

theorem regulation_eq (ma sp ms : Nat) (hinj : s.ev.injs = []) : exec (.valveFaultDetect ch us (.regulation ma sp ms)) s =
    .next (if (vdChan s ch).st = .regulate then detect detCurrentRegulationError (ch + 1)
      (decide (100 ≤ ms) && decide ((sp / 5 + 100 : Int) < ((ma : Int) - sp).natAbs)) ((ma : Int) - sp).natAbs s else s) := by
  show execValveFaultDetect ch us (.regulation ma sp ms) s = _
  simp only [execValveFaultDetect, measured_of_noInjs hinj, Int.toNat_natCast]

theorem vdBank_updBank {k : Nat} (f : VdBank → VdBank) (hk : k < s.vd.banks.length) : vdBank (updBank k f s) k = f (vdBank s k) := by
  simp only [vdBank, updBank, nth_updAt _ _ _ _ _ hk, if_true]

/-- Table 6-6: the pin of a bank that is off. -/
theorem bankPin_off (mv : Nat) (hbanks : s.vd.banks.length = 4) (hinj : s.ev.injs = []) (hoff : (vdBank s (ch.val / 3)).on = false) :
    ∃ t, exec (.valveFaultDetect ch us (.bankPin mv)) s = .next t ∧ (vdBank t (ch.val / 3)).noBoost = decide (6000 < mv) ∧
      t.vd.chans = s.vd.chans ∧ isPresent t detBankShortToBattery (ch.val / 3 + 1) = decide (6000 < mv) ∧ onlyIn (.vd :: tells) s t := by
  have hexec := (bankPin_eq (us := us) mv hinj).trans (congrArg Host.Outcome.next (if_neg (Bool.eq_false_iff.mp hoff)))
  have htold := told_detect detBankShortToBattery (ch.val / 3 + 1) (decide (6000 < mv)) 0
    (updBank (ch.val / 3) (fun b => { b with noBoost := decide (6000 < mv) }) s)
  refine ⟨_, hexec, (vdBank_noBoost_congr htold.noBoosts _).trans ?_, congrArg (fun v => v.chans) (htold.frame .vd (by decide)), isPresent_detect _ _ _ _ _,
    onlyIn_mono (frame_execValveFaultDetect ch us (.bankPin mv) s _ hexec) rfl⟩
  rw [vdBank_updBank _ (by omega)]

/-! ### Off-state diagnosis (R192) -/

/-- R192: what a diagnosis of a resting channel starts from. -/
def diagBase (ch : Nat) (m : VdDiag) (s : State) : State :=
  detect detBankShortToBattery (ch / 3 + 1) (decide (6000 < m.vbkOff)) 0
    (updBank (ch / 3) (fun b => { b with noBoost := decide (6000 < m.vbkOff) }) (updVd ch (fun c => { c with diag := m }) s))

/-- When a diagnosis judges its channel. -/
def DiagLooks (s : State) (ch t : Nat) : Prop :=
  (vdBank s (ch / 3)).on = false ∧ (vdBank s (ch / 3)).offSince + 5000 ≤ t ∧ ((vdChan s ch).st = .idle ∨ (vdChan s ch).st = .off)

theorem vdOffstateDiag_eq (m : VdDiag) (hlen : s.vd.chans.length = 12) [Decidable (DiagLooks s ch (usNow s us))] :
    exec (.vdOffstateDiag ch us m) s = .next (if DiagLooks s ch (usNow s us) then vdJudge ch (usNow s us) (diagBase ch m s)
      else updVd ch (fun c => { c with diag := m }) s) := by
  have hchan : vdChan (updVd ch (fun c => { c with diag := m }) s) ch = { vdChan s ch with diag := m } :=
    vdChan_updVd _ (ch.isLt.trans_eq hlen.symm)
  have hcond : (!(vdBank s (ch.val / 3)).on && decide ((vdBank s (ch.val / 3)).offSince + 5000 ≤ usNow s us) &&
      vdResting (updVd ch (fun c => { c with diag := m }) s) ch) = true ↔ DiagLooks s ch (usNow s us) := by
    simp only [vdResting, hchan, DiagLooks, Bool.and_eq_true, Bool.not_eq_true', decide_eq_true_eq, Bool.or_eq_true, beq_iff_eq, and_assoc]
  exact congrArg Host.Outcome.next (if_congr hcond rfl rfl)

theorem vdRun_diagBase (ch : Nat) (m : VdDiag) (s : State) : VdRun (fun j => j = ch) s (diagBase ch m s) :=
  vdRun_step ((told_detect _ _ _ _ _).vdRun _) (vdRun_step (vdRun_updBank _ _ _ _) (vdRun_updVd (C := fun j => j = ch) rfl _ s))

theorem diagBase_chan {ch : Nat} (m : VdDiag) (hlt : ch < s.vd.chans.length) : vdChan (diagBase ch m s) ch = { vdChan s ch with diag := m } :=
  ((told_detect _ _ _ _ _).vdChan ch).trans (vdChan_updVd _ hlt)

theorem diagBase_noBoost {ch : Nat} (m : VdDiag) (hk : ch / 3 < s.vd.banks.length) :
    (vdBank (diagBase ch m s) (ch / 3)).noBoost = decide (6000 < m.vbkOff) := by
  have hbank := vdBank_updBank (s := updVd ch (fun c => { c with diag := m }) s) (fun b => { b with noBoost := decide (6000 < m.vbkOff) }) hk
  exact (vdBank_noBoost_congr (told_detect _ _ _ _ _).noBoosts _).trans (congrArg VdBank.noBoost hbank)

theorem vdJudge_cause {ch t : Nat} {s : State} (h0 : vdDiagnose (vdChan s ch).diag ≠ 0) (h2 : vdDiagnose (vdChan s ch).diag ≠ 2) :
    vdJudge ch t s = vdFault ch (vdDiagnose (vdChan s ch).diag) t s := by
  unfold vdJudge
  split
  · next h => exact absurd h h0
  · next h => exact absurd h h2
  · rfl

theorem vdJudge_ground {ch t : Nat} {s : State} (h : vdDiagnose (vdChan s ch).diag = 2) :
    vdJudge ch t s = beginCond detVlsShortToGround (ch + 1) 0 (vdBankFault (ch / 3) t (some (ch, 2)) s) := by
  unfold vdJudge
  split
  · next h' => cases h.symm.trans h'
  · rfl
  · next h' => exact absurd h h'

/-- R192: what a judgement leaves of the channel, the pins and the bank. -/
theorem vdJudge_cases {ch t : Nat} {s : State} (hlen : s.vd.chans.length = 12) (hch : ch < 12) :
    (vdChan (vdJudge ch t s) ch).diag = (vdChan s ch).diag ∧ noBoosts (vdJudge ch t s) = noBoosts s ∧
    (∀ j : Nat, j / 3 ≠ ch / 3 → vdChan (vdJudge ch t s) j = vdChan s j) ∧
    (vdDiagnose (vdChan s ch).diag = 0 → (vdChan (vdJudge ch t s) ch).st = (vdChan s ch).st) ∧
    (vdDiagnose (vdChan s ch).diag ≠ 0 →
      (vdChan (vdJudge ch t s) ch).st = .fault ∧ (vdChan (vdJudge ch t s) ch).cause = vdDiagnose (vdChan s ch).diag) ∧
    (vdDiagnose (vdChan s ch).diag = 2 → ∀ j : Nat, j / 3 = ch / 3 → j ≠ ch →
      (vdChan (vdJudge ch t s) j).st = .fault ∧ (vdChan (vdJudge ch t s) j).cause = 5) := by
  have hlt : ch < s.vd.chans.length := hch.trans_eq hlen.symm
  by_cases h0 : vdDiagnose (vdChan s ch).diag = 0
  · rw [vdJudge_pass h0]
    exact ⟨rfl, rfl, fun _ _ => rfl, fun _ => rfl, fun h => absurd h0 h, fun h => absurd (h0.symm.trans h) (by decide)⟩
  by_cases h2 : vdDiagnose (vdChan s ch).diag = 2
  · have htold := told_beginCond detVlsShortToGround (ch + 1) 0 (vdBankFault (ch / 3) t (some (ch, 2)) s)
    have hf : FaultedFor 2 (vdChan (vdBankFault (ch / 3) t (some (ch, 2)) s) ch) := by
      have h := vdBankFault_chan t (some (ch, 2)) hlt
      rwa [show bankCause (some (ch, 2)) ch = 2 from if_pos rfl] at h
    rw [vdJudge_ground h2, htold.vdChan, h2]
    refine ⟨vdBankFault_diag t _ hlt, htold.noBoosts.trans (noBoosts_vdBankFault _ _ _ _), fun j hj => ?_, fun h => absurd h (by decide),
      fun _ => ⟨hf.st, hf.cause⟩, fun _ j hj hne => ?_⟩
    · rw [htold.vdChan]
      exact (vdRun_vdBankFault (ch / 3) t _ s).away j hj
    · rw [htold.vdChan]
      exact vdBankFault_others t (fun o ho => by cases ho; rfl) hlen hch hj hne
  · obtain ⟨hf, -⟩ := vdFault_chan (vdDiagnose (vdChan s ch).diag) t hlt
    rw [vdJudge_cause h0 h2]
    exact ⟨vdFault_diag _ t hlt, noBoosts_vdFault _ _ _ _, VdRun.awayBank (vdRun_vdFault ch _ t s), fun h => absurd h h0,
      fun _ => ⟨hf.st, hf.cause⟩, fun h => absurd h h2⟩

theorem vdOffstateDiag_looks (m : VdDiag) (hlen : s.vd.chans.length = 12) (hbanks : s.vd.banks.length = 4) (h : DiagLooks s ch (usNow s us)) :
    ∃ t, exec (.vdOffstateDiag ch us m) s = .next t ∧ (vdChan t ch).diag = m ∧ (vdBank t (ch.val / 3)).noBoost = decide (6000 < m.vbkOff) ∧
      (∀ j : Nat, j / 3 ≠ ch.val / 3 → vdChan t j = vdChan s j) ∧ onlyIn (.vd :: tells) s t ∧ (vdDiagnose m = 0 → (vdChan t ch).st = (vdChan s ch).st) ∧
      (vdDiagnose m ≠ 0 → (vdChan t ch).st = .fault ∧ (vdChan t ch).cause = vdDiagnose m) ∧
      (vdDiagnose m = 2 → ∀ j : Nat, j / 3 = ch.val / 3 → j ≠ ch.val → (vdChan t j).st = .fault ∧ (vdChan t j).cause = 5) := by
  classical
  have hexec := (vdOffstateDiag_eq (us := us) m hlen).trans (congrArg Host.Outcome.next (if_pos h))
  have hrun := vdRun_diagBase ch m s
  have hchan := diagBase_chan (s := s) m (ch.isLt.trans_eq hlen.symm)
  obtain ⟨hdiag, hpins, haway, h0, hne, h2⟩ := vdJudge_cases (t := usNow s us) (hrun.chans.trans hlen) ch.isLt
  rw [hchan] at hdiag h0 hne h2
  refine ⟨_, hexec, hdiag, (vdBank_noBoost_congr hpins _).trans (diagBase_noBoost m (by omega)), fun j hj => (haway j hj).trans (hrun.away j ?_),
    onlyIn_mono (frame_execVdOffstateDiag ch us m s _ hexec) rfl, h0, hne, h2⟩
  rintro rfl
  exact hj rfl

end

/-! ### The converter's detectors (R172) -/

theorem boostOvervoltage_eq (mv n : Nat) {s : State} (hinj : s.ev.injs = []) : exec (.boostOvervoltage mv n) s =
    .next (if 66000 < mv ∧ 10 ≤ n then beginCond detBoostRailOvervoltage 0 0
      { s with an := { s.an with rail := mv }, vd := { s.vd with conv := .latched, charging := false } } else s) := by
  show execBoostOvervoltage mv n s = _
  simp only [execBoostOvervoltage, forced_of_noInjs hinj, Bool.or_false, Bool.and_eq_true, decide_eq_true_eq]

theorem boostRailLow_eq (mv n : Nat) {s : State} (hinj : s.ev.injs = []) : exec (.boostRailLow mv n) s =
    .next (if mv < 40000 then
        if 100 ≤ n then beginCond detBoostRailBelow40V 0 mv { s with an := { s.an with rail := mv } } else { s with an := { s.an with rail := mv } }
      else detect detBoostRailBelow40V 0 false 0 { s with an := { s.an with rail := mv } }) := by
  show execBoostRailLow mv n s = _
  have hlow : ((mv : Int) < 40000) ↔ mv < 40000 := by omega
  simp only [execBoostRailLow, measured_of_noInjs hinj, Int.toNat_natCast, hlow]

theorem boostConverterSlow_eq (mv : Nat) {s : State} (hinj : s.ev.injs = []) : exec (.boostConverterSlow mv) s =
    .next (if s.vd.conv = .regulating ∧ elapsed s s.vd.convSince 200 = true then
      detect detBoostConverterNotReaching55V 0 (decide (mv < 55000) && !s.vd.reached) mv s else s) := by
  show execBoostConverterSlow mv s = _
  have hlow : decide ((mv : Int) < 55000) = decide (mv < 55000) := decide_eq_decide.mpr (by omega)
  simp only [execBoostConverterSlow, measured_of_noInjs hinj, Int.toNat_natCast, hlow, ne_eq, not_true_eq_false, decide_false, Bool.or_false,
    Bool.and_eq_true, decide_eq_true_eq]

theorem boostRailLow_leaves (mv n : Nat) {s : State} (hinj : s.ev.injs = []) : ∃ t, exec (.boostRailLow mv n) s = .next t ∧
    t.an = { s.an with rail := mv } ∧ onlyIn (.an :: tells) s t ∧
    (mv < 40000 → 100 ≤ n → isPresent t detBoostRailBelow40V 0 = true) ∧ (40000 ≤ mv → isPresent t detBoostRailBelow40V 0 = false) := by
  have hexec := boostRailLow_eq mv n hinj
  have hframe := onlyIn_mono (T := .an :: tells) (frame_execBoostRailLow mv n s _ hexec) rfl
  refine ⟨_, hexec, ?_⟩
  by_cases hmv : mv < 40000
  · rw [if_pos hmv] at hframe ⊢
    by_cases hn : 100 ≤ n
    · rw [if_pos hn] at hframe ⊢
      exact ⟨(told_beginCond _ _ _ _).frame .an (by decide), hframe, fun _ _ => isPresent_begun _ _ _ _, fun h => absurd h (by omega)⟩
    · rw [if_neg hn] at hframe ⊢
      exact ⟨rfl, hframe, fun _ h => absurd h hn, fun h => absurd h (by omega)⟩
  · rw [if_neg hmv] at hframe ⊢
    exact ⟨(told_detect _ _ _ _ _).frame .an (by decide), hframe, fun h => absurd h hmv, fun _ => isPresent_detect _ _ _ _ _⟩

/-! ### Cooling (Table 6-6) -/

theorem thermalHysteresis_eq (ch : Fin 12) (kelvin : Nat) {s : State} (hinj : s.ev.injs = []) : exec (.lowSideThermalHysteresis ch kelvin) s =
    .next (if (vdChan s ch).st = .fault ∧ (vdChan s ch).cause = 6 ∧ 20 ≤ kelvin then vdLeaveFault ch s else s) := by
  show execLowSideThermalHysteresis ch kelvin s = _
  simp only [execLowSideThermalHysteresis, forced_of_noInjs hinj, Bool.not_false, Bool.and_true, Bool.and_eq_true, decide_eq_true_eq, and_assoc]

/-- Settles O39: each detector's channel or bank, from the faults' own lemmas. -/
theorem valveFaultsAreDetected : Obligations.ValveFaultsAreDetected := by
  unfold Obligations.ValveFaultsAreDetected
  intro ch us s c k t0 away faulted bank hlen hbanks hinj
  have hlt : (ch : Nat) < s.vd.chans.length := ch.isLt.trans_eq hlen.symm
  have hfaulted {t : State} {cause : Nat} (h : ChanFault ch cause s t) : faulted t cause :=
    ⟨h.fault.st, h.fault.cause, h.fault.pulse, h.fault.fire, h.away, h.frame⟩
  have hbank {own : Option (Nat × Nat)} (hown : ∀ o, own = some o → o.1 = ch.val) (t code inst : Nat) :
      bank (beginCond code inst 0 (vdBankFault (ch.val / 3) t own s)) := fun j hj hne => by
    rw [(told_beginCond _ _ _ _).vdChan]
    exact vdBankFault_others t hown hlen ch.isLt hj hne
  refine ⟨fun ma => ⟨fun h => ?_, fun h => ?_, fun h => ?_, fun h => ?_, fun d => ⟨fun h h' => ?_, fun h => ?_⟩⟩, ⟨_, rfl, ?_⟩,
    fun mv => ⟨fun h => ?_, bankPin_off mv hbanks hinj⟩, fun ma sp ms => ⟨fun h => ?_, fun h => ?_⟩,
    fun mv n => ⟨fun h h' => ?_, fun h => ?_, boostRailLow_leaves mv n hinj, fun h h' => ?_, fun h => ?_⟩, fun m => ?_,
    fun kelvin => ⟨fun h h' h'' => ?_, fun h => ?_⟩⟩
  · have hexec := (lowSide_eq (ch := ch) (us := us) ma hinj).trans (congrArg Host.Outcome.next (if_pos h))
    have hdet := vdFault_present ch (if (vdBank s (ch.val / 3)).on then 4 else 3) (usNow s us) s
    refine ⟨_, hexec, hfaulted (vdFault_chanFault _ _ hlt), ?_⟩
    cases hon : (vdBank s (ch.val / 3)).on <;> simp only [hon] at hdet ⊢ <;> exact hdet
  · exact (lowSide_eq ma hinj).trans (congrArg Host.Outcome.next (if_neg (Nat.not_le.mpr h)))
  · have hexec := (bankCurrent_eq (ch := ch) (us := us) ma hinj).trans (congrArg Host.Outcome.next (if_pos h))
    exact ⟨_, hexec, hfaulted ((vdBankFault_chanFault _ none hlt).told (told_beginCond _ _ _ _)), hbank (own := none) nofun _ _ _, isPresent_begun _ _ _ _⟩
  · exact (bankCurrent_eq ma hinj).trans (congrArg Host.Outcome.next (if_neg (Nat.not_le.mpr h)))
  · have hexec := (bankExcess_eq (ch := ch) (us := us) ma d hinj).trans (congrArg Host.Outcome.next (if_pos ⟨h, h'⟩))
    have hf := (vdBankFault_chanFault (usNow s us) (some (ch.val, 2)) hlt).told (told_beginCond detVlsShortToGround (ch + 1) 0 _)
    rw [show bankCause (some (ch.val, 2)) ch.val = 2 from if_pos rfl] at hf
    exact ⟨_, hexec, hfaulted hf, hbank (fun o ho => by cases ho; rfl) _ _ _⟩
  · exact (bankExcess_eq ma d hinj).trans (congrArg Host.Outcome.next (if_neg fun hc => by omega))
  · exact hfaulted (vdFault_chanFault 6 (usNow s us) hlt)
  · exact (bankPin_eq mv hinj).trans (congrArg Host.Outcome.next (if_pos h))
  · exact (regulation_eq ma sp ms hinj).trans (congrArg Host.Outcome.next (if_neg h))
  · have hexec := (regulation_eq (ch := ch) (us := us) ma sp ms hinj).trans (congrArg Host.Outcome.next (if_pos h))
    refine ⟨_, hexec, (told_detect _ _ _ _ _).frame, fun hms herr => ?_⟩
    rw [isPresent_detect, decide_eq_true hms, Bool.true_and]
    exact decide_eq_true (by omega)
  · have hexec := (boostOvervoltage_eq mv n hinj).trans (congrArg Host.Outcome.next (if_pos ⟨h, h'⟩))
    exact ⟨_, hexec, (told_beginCond _ _ _ _).frame .vd (by decide), (told_beginCond _ _ _ _).frame .an (by decide), isPresent_begun _ _ _ _,
      onlyIn_mono (frame_execBoostOvervoltage mv n s _ hexec) rfl⟩
  · exact (boostOvervoltage_eq mv n hinj).trans (congrArg Host.Outcome.next (if_neg fun hc => by omega))
  · have hexec := (boostConverterSlow_eq mv hinj).trans (congrArg Host.Outcome.next (if_pos ⟨h, h'⟩))
    exact ⟨_, hexec, (told_detect _ _ _ _ _).frame, isPresent_detect _ _ _ _ _⟩
  · exact (boostConverterSlow_eq mv hinj).trans (congrArg Host.Outcome.next (if_neg fun hc => h.elim (· hc.1) (Bool.eq_false_iff.mp · hc.2)))
  · classical
    exact ⟨fun h => (vdOffstateDiag_eq m hlen).trans (congrArg Host.Outcome.next (if_neg h)), fun h => vdOffstateDiag_looks m hlen hbanks h⟩
  · have hexec := (thermalHysteresis_eq ch kelvin hinj).trans (congrArg Host.Outcome.next (if_pos ⟨h, h', h''⟩))
    have hvd := vdChan_congr (vdLeaveFault_vd ch s)
    refine ⟨_, hexec, ?_, ?_, fun j hj => (hvd j).trans (vdChan_updVd_ne _ hj), onlyIn_mono (frame_execLowSideThermalHysteresis ch kelvin s _ hexec) rfl⟩ <;>
      rw [hvd, vdChan_updVd _ hlt]
    rfl
  · exact (thermalHysteresis_eq ch kelvin hinj).trans (congrArg Host.Outcome.next (if_neg fun hc => h.elim (· hc.1) fun h => h.elim (· hc.2.1)
      (Nat.not_lt.mpr hc.2.2)))

end Sys2Proof.Proofs
end

section
/-!
PROOFS. The load switches: what their operations make of one channel (R199 to R217).
-/

namespace Sys2Proof.Proofs

open Sys2Proof.Machine Sys2Proof.Safety

/-! ### One channel changed -/

/-- The load switches are as in `s`, but for channel `ch`, which `f` changed. -/
def OnLs (ch : Nat) (f : LsChan → LsChan) (s t : State) : Prop := t.ls.chans = updAt s.ls.chans ch f

theorem onLs_updLs (ch : Nat) (f : LsChan → LsChan) (s : State) : OnLs ch f s (updLs ch f s) := rfl

/-- A change of something else. -/
theorem OnLs.congr {ch : Nat} {f : LsChan → LsChan} {s t u : State} (h : OnLs ch f s t) (hls : u.ls.chans = t.ls.chans) : OnLs ch f s u := hls.trans h

theorem OnLs.told {ch : Nat} {f : LsChan → LsChan} {s t u : State} (h : OnLs ch f s t) (ht : Told t u) : OnLs ch f s u :=
  h.congr (congrArg Loads.chans (ht.frame .ls (by decide)))

/-- Two changes in a row. -/
theorem OnLs.trans {ch : Nat} {f g : LsChan → LsChan} {s t u : State} (h : OnLs ch f s t) (h' : OnLs ch g t u) : OnLs ch (g ∘ f) s u := by
  rw [OnLs, h', h]
  exact List.modify_modify_eq f g ch _

theorem OnLs.at {ch : Nat} {f : LsChan → LsChan} {s t : State} (h : OnLs ch f s t) (hlen : ch < s.ls.chans.length) :
    lsChan t ch = f (lsChan s ch) := by
  rw [lsChan, h]
  exact (nth_updAt _ _ _ _ _ hlen).trans (if_pos rfl)

theorem OnLs.away {ch : Nat} {f : LsChan → LsChan} {s t : State} (h : OnLs ch f s t) (k : Nat) (hk : k ≠ ch) : lsChan t k = lsChan s k := by
  rw [lsChan, h]
  exact nth_updAt_ne _ _ _ hk.symm

theorem OnLs.len {ch : Nat} {f : LsChan → LsChan} {s t : State} (h : OnLs ch f s t) : t.ls.chans.length = s.ls.chans.length := by
  rw [h]
  exact length_updAt _ _ _

/-! ### Turning on and off -/

/-- R199 to R201: the channel that a turn-on leaves. -/
def turnedOn (s : State) (ch t : Nat) (c : LsChan) : LsChan :=
  let b := { c with since := t, limitAt := none, limitEnd := none, queued := false, cause := 0
                    turnOns := wrapU 32 (c.turnOns + 1), applied := if lsPwm s ch then 0 else 10000 }
  if c.armed then { b with st := .start, armed := false, startup := true, retries := 8, inrush := none, edge := false }
  else { b with st := .on, startup := false, inrush := if lsPwm s ch then none else some (t + 1000 * paramN s (pLsInrush ch)), edge := lsPwm s ch }

theorem onLs_turnOn (ch t : Nat) (s : State) : OnLs ch (turnedOn s ch t) s (turnOn ch t s) := rfl

theorem turnedOn_kept (s : State) (ch t : Nat) (c : LsChan) :
    (turnedOn s ch t c).since = t ∧ (turnedOn s ch t c).queued = false ∧ (turnedOn s ch t c).turnOns = wrapU 32 (c.turnOns + 1) ∧
    (turnedOn s ch t c).hot = c.hot ∧ (turnedOn s ch t c).demagUs = c.demagUs ∧ (turnedOn s ch t c).clampMj = c.clampMj := by
  unfold turnedOn
  extract_lets b
  split <;> exact ⟨rfl, rfl, rfl, rfl, rfl, rfl⟩

theorem turnedOn_armed {s : State} {ch t : Nat} {c : LsChan} (h : c.armed = true) :
    (turnedOn s ch t c).st = .start ∧ (turnedOn s ch t c).retries = 8 ∧ (turnedOn s ch t c).startup = true := by
  simp [turnedOn, h]

theorem turnedOn_unarmed {s : State} {ch t : Nat} {c : LsChan} (h : c.armed = false) :
    (turnedOn s ch t c).st = .on ∧ (turnedOn s ch t c).startup = false := by
  simp [turnedOn, h]

/-- R207: the channel that a turn-off leaves. -/
def turnedOff (t : Nat) (shed : Bool) (c : LsChan) : LsChan :=
  { c with
    st := .demag, since := t, applied := 0, inrush := none, edge := false, startup := false, limitAt := none, queued := false
    toShed := shed, tjOff := c.tj }

theorem onLs_turnOff (ch t : Nat) (shed : Bool) (s : State) : OnLs ch (turnedOff t shed) s (turnOff ch t shed s) :=
  (onLs_updLs ch (turnedOff t shed) s).told (told_detect _ _ _ _ _)

/-- R204: a channel that latches. -/
def latchedFor (cause : Nat) (c : LsChan) : LsChan :=
  { c with st := .latched, cause, applied := 0, inrush := none, edge := false, startup := false, limitAt := none, queued := false }

theorem onLs_lsLatch (ch cause : Nat) (s : State) : OnLs ch (latchedFor cause) s (lsLatch ch cause s) := rfl

/-- R201: the channel that a failed attempt leaves. -/
def attemptFailed (retries : Nat) (c : LsChan) : LsChan :=
  if retries = 0 then latchedFor 3 c else { c with st := .retryWait, applied := 0, limitAt := none }

theorem attemptFails_eq {ch : Nat} {s : State} (hinj : s.ev.injs = []) : attemptFails ch s =
    if (lsChan s ch).retries = 0 then beginCond detRetriesExhausted (ch + 1) 3 (lsLatch ch 3 s)
    else updLs ch (fun c => { c with st := .retryWait, applied := 0, limitAt := none }) s := by
  simp only [attemptFails, forced_of_noInjs hinj, Bool.or_false, decide_eq_true_eq]

theorem onLs_attemptFails {ch : Nat} {s : State} (hinj : s.ev.injs = []) :
    OnLs ch (attemptFailed (lsChan s ch).retries) s (attemptFails ch s) := by
  rw [attemptFails_eq hinj]
  by_cases h : (lsChan s ch).retries = 0
  · rw [if_pos h, show attemptFailed (lsChan s ch).retries = latchedFor 3 from funext fun c => if_pos h]
    exact (onLs_lsLatch ch 3 s).told (told_beginCond _ _ _ _)
  · rw [if_neg h, show attemptFailed (lsChan s ch).retries = fun c => { c with st := .retryWait, applied := 0, limitAt := none } from
      funext fun c => if_neg h]
    exact onLs_updLs _ _ s

theorem attemptFailed_st (retries : Nat) (c : LsChan) :
    (attemptFailed retries c).st = (if retries = 0 then LsSt.latched else LsSt.retryWait) ∧ (attemptFailed retries c).applied = 0 ∧
    (attemptFailed retries c).hot = c.hot ∧ (attemptFailed retries c).shutdowns = c.shutdowns := by
  unfold attemptFailed
  split <;> exact ⟨rfl, rfl, rfl, rfl⟩

/-- An off-request takes the request back, and opens a switch that is closed. -/
theorem onLs_lsOff (ch t : Nat) (s : State) : ∃ f, OnLs ch f s (lsOff ch t s) ∧ (∀ c, (f c).req = false ∧ (f c).duty = 0) ∧
    (((lsChan s ch).st = .on ∨ (lsChan s ch).st = .limit) → ∀ c, (f c).st = .demag) := by
  have hreq : OnLs ch (fun c => { c with req := false, duty := 0, host := none }) s
      (updLs ch (fun c => { c with req := false, duty := 0, host := none }) s) := rfl
  have hoff := hreq.trans (onLs_turnOff ch t false _)
  unfold lsOff
  extract_lets s1
  split
  · exact ⟨_, hoff, fun _ => ⟨rfl, rfl⟩, fun _ _ => rfl⟩
  · exact ⟨_, hoff, fun _ => ⟨rfl, rfl⟩, fun _ _ => rfl⟩
  · exact ⟨_, hoff, fun _ => ⟨rfl, rfl⟩, fun _ _ => rfl⟩
  · exact ⟨_, hoff, fun _ => ⟨rfl, rfl⟩, fun _ _ => rfl⟩
  · next hst => exact ⟨_, hreq.trans (onLs_updLs ch (fun c => { c with queued := false, toShed := false }) _), fun _ => ⟨rfl, rfl⟩, fun h => by simp [hst] at h⟩
  · next hst =>
    exact ⟨_, (hreq.trans (onLs_updLs ch (fun c => { c with st := .off }) { s1 with ls := { s1.ls with shed := s1.ls.shed.filter (· != ch) } })).told
      (told_detect _ _ _ _ _), fun _ => ⟨rfl, rfl⟩, fun h => by simp [hst] at h⟩
  · next hst =>
    exact ⟨_, (hreq.trans (onLs_updLs ch (fun c => { c with st := .off }) { s1 with ls := { s1.ls with shed := s1.ls.shed.filter (· != ch) } })).told
      (told_detect _ _ _ _ _), fun _ => ⟨rfl, rfl⟩, fun h => by simp [hst] at h⟩
  · next hst => exact ⟨_, hreq, fun _ => ⟨rfl, rfl⟩, fun h => by simp [hst] at h⟩
  · next hst => exact ⟨_, hreq, fun _ => ⟨rfl, rfl⟩, fun h => by simp [hst] at h⟩

/-! ### Conditions of other detectors -/

/-- Evaluating one condition leaves the others. -/
theorem isPresent_detect_other {code inst code' inst' : Nat} (h : code ≠ code' ∨ inst ≠ inst') (cond : Bool) (data : Nat) (s : State) :
    isPresent (detect code inst cond data s) code' inst' = isPresent s code' inst' := by
  have hne : (code == code' && inst == inst') = false := by
    simp only [Bool.and_eq_false_iff, beq_eq_false_iff_ne]
    exact h
  unfold detect
  split
  · rw [isPresent_beginCond, hne, Bool.or_false]
  · split
    · rw [isPresent_clearActive, hne]
      simp
    · rfl

end Sys2Proof.Proofs
end

section
/-!
PROOFS. Load switches limit, latch, shed, demagnetize and recover (R199 to R217; O40).
-/

namespace Sys2Proof.Proofs

open Sys2Proof.Machine Sys2Proof.Safety

section
variable {ch : Fin 24} {us : Fin 1000} {s : State}

/-! ### Current limit (R203) -/

theorem currentLimitEntry_start (ma : Nat) (h : lsLimit ch (inInrush (lsChan s ch) (usNow s us)) < ma) (hst : (lsChan s ch).st = .start) :
    exec (.currentLimitEntry ch us ma) s =
      .next (updLs ch (fun c => { c with limitAt := if c.limitAt.isSome then c.limitAt else some (usNow s us), ma := ma }) s) := by
  show execCurrentLimitEntry ch us ma s = _
  simp only [execCurrentLimitEntry, h, decide_true, Bool.true_or, if_true, hst]

theorem currentLimitEntry_below (ma : Nat) (hinj : s.ev.injs = []) (h : ma ≤ lsLimit ch (inInrush (lsChan s ch) (usNow s us))) :
    exec (.currentLimitEntry ch us ma) s = .next s := by
  show execCurrentLimitEntry ch us ma s = _
  simp only [execCurrentLimitEntry, Nat.not_lt.mpr h, decide_false, forced_of_noInjs hinj, Bool.or_false, Bool.false_eq_true, if_false]

theorem currentLimitEntry_on (ma : Nat) (hlen : s.ls.chans.length = 24)
    (h : lsLimit ch (inInrush (lsChan s ch) (usNow s us)) < ma) (hst : (lsChan s ch).st = .on) :
    ∃ t, exec (.currentLimitEntry ch us ma) s = .next t ∧ lsChan t ch = { lsChan s ch with st := .limit, limitAt := some (usNow s us), ma := ma } ∧
      (∀ j : Nat, j ≠ ch.val → lsChan t j = lsChan s j) ∧ onlyIn (.ls :: tells) s t ∧
      (inInrush (lsChan s ch) (usNow s us) = false → isPresent t detOverCurrent (ch.val + 1) = true) := by
  have hexec : exec (.currentLimitEntry ch us ma) s = .next (if inInrush (lsChan s ch) (usNow s us) then
      updLs ch (fun c => { c with st := .limit, limitAt := some (usNow s us), ma := ma }) s
      else beginCond detOverCurrent (ch + 1) 0 (updLs ch (fun c => { c with st := .limit, limitAt := some (usNow s us), ma := ma }) s)) := by
    show execCurrentLimitEntry ch us ma s = _
    simp only [execCurrentLimitEntry, h, decide_true, Bool.true_or, if_true, hst]
  have hframe := onlyIn_mono (T := .ls :: tells) (frame_execCurrentLimitEntry ch us ma s _ hexec) rfl
  have hupd := onLs_updLs ch (fun c => { c with st := .limit, limitAt := some (usNow s us), ma := ma }) s
  have hlt : (ch : Nat) < s.ls.chans.length := ch.isLt.trans_eq hlen.symm
  refine ⟨_, hexec, ?_⟩
  cases hin : inInrush (lsChan s ch) (usNow s us) with
  | true =>
    simp only [hin, if_true] at hframe ⊢
    exact ⟨hupd.at hlt, hupd.away, hframe, nofun⟩
  | false =>
    simp only [hin, Bool.false_eq_true, if_false] at hframe ⊢
    have hon := hupd.told (told_beginCond detOverCurrent (ch + 1) 0 _)
    exact ⟨hon.at hlt, hon.away, hframe, fun _ => isPresent_begun _ _ _ _⟩

theorem currentLimitExit_limit (ma : Nat) (hlen : s.ls.chans.length = 24) (hinj : s.ev.injs = [])
    (h : ma < lsLimit ch (inInrush (lsChan s ch) (usNow s us))) (hst : (lsChan s ch).st = .limit) (hlim : (lsChan s ch).limitAt.isSome = true) :
    ∃ t, exec (.currentLimitExit ch us ma) s = .next t ∧
      lsChan t ch = { lsChan s ch with st := .on, limitAt := none, limitEnd := some (usNow s us), ma := ma } ∧
      isPresent t detOverCurrent (ch.val + 1) = false ∧ (∀ j : Nat, j ≠ ch.val → lsChan t j = lsChan s j) ∧ onlyIn (.ls :: tells) s t := by
  have hexec : exec (.currentLimitExit ch us ma) s = .next (detect detOverCurrent (ch + 1) false 0
      (updLs ch (fun c => { c with st := .on, limitAt := none, limitEnd := some (usNow s us), ma := ma }) s)) := by
    show execCurrentLimitExit ch us ma s = _
    simp only [execCurrentLimitExit, h, decide_true, forced_of_noInjs hinj, Bool.not_false, hlim, hst, Bool.and_self, if_true]
  have hon := (onLs_updLs ch (fun c => { c with st := .on, limitAt := none, limitEnd := some (usNow s us), ma := ma }) s).told
    (told_detect detOverCurrent (ch + 1) false 0 _)
  exact ⟨_, hexec, hon.at (ch.isLt.trans_eq hlen.symm), isPresent_detect _ _ _ _ _, hon.away,
    onlyIn_mono (frame_execCurrentLimitExit ch us ma s _ hexec) rfl⟩

theorem currentLimitExit_stays (ma : Nat) (h : lsLimit ch (inInrush (lsChan s ch) (usNow s us)) ≤ ma ∨ (lsChan s ch).limitAt = none) :
    exec (.currentLimitExit ch us ma) s = .next s := by
  refine congrArg Host.Outcome.next (if_neg fun hc => ?_)
  simp only [Bool.and_eq_true, decide_eq_true_eq] at hc
  obtain ⟨⟨hlt, -⟩, hsome⟩ := hc
  rcases h with h | h
  · exact absurd hlt (Nat.not_lt.mpr h)
  · rw [h] at hsome
    cases hsome

/-! ### The start-up phase (R201, R202) -/

theorem startAttemptFail_eq {l : Nat} (hst : (lsChan s ch).st = .start) (hl : (lsChan s ch).limitAt = some l) :
    exec (.startAttemptFail ch us) s = .next (if l + paramN s (pLsRetryOn ch) ≤ usNow s us then attemptFails ch s else s) := by
  show execStartAttemptFail ch us s = _
  simp only [execStartAttemptFail, hst, hl]

theorem startAttemptFail_stays (h : (lsChan s ch).st ≠ .start ∨ (lsChan s ch).limitAt = none) : exec (.startAttemptFail ch us) s = .next s := by
  show execStartAttemptFail ch us s = _
  unfold execStartAttemptFail
  split
  · next hst hl =>
    rcases h with h | h
    · exact absurd hst h
    · cases h.symm.trans hl
  · rfl

theorem startAttemptFail_latches {l : Nat} (hlen : s.ls.chans.length = 24) (hinj : s.ev.injs = []) (hst : (lsChan s ch).st = .start)
    (hl : (lsChan s ch).limitAt = some l) (hdue : l + paramN s (pLsRetryOn ch) ≤ usNow s us) (hret : (lsChan s ch).retries = 0) :
    ∃ t, exec (.startAttemptFail ch us) s = .next t ∧ (lsChan t ch).st = .latched ∧ (lsChan t ch).cause = 3 ∧
      isPresent t detRetriesExhausted (ch.val + 1) = true ∧ (∀ j : Nat, j ≠ ch.val → lsChan t j = lsChan s j) ∧ onlyIn (.ls :: tells) s t := by
  have hexec := startAttemptFail_eq (us := us) hst hl
  rw [if_pos hdue, attemptFails_eq hinj, if_pos hret] at hexec
  have hon := (onLs_lsLatch ch 3 s).told (told_beginCond detRetriesExhausted (ch + 1) 3 _)
  have hat := hon.at (ch.isLt.trans_eq hlen.symm)
  exact ⟨_, hexec, by rw [hat]; rfl, by rw [hat]; rfl, isPresent_begun _ _ _ _, hon.away, onlyIn_mono (frame_execStartAttemptFail ch us s _ hexec) rfl⟩

/-! ### Heat (R202, R204, R205) -/

theorem retryWaitEnd_eq (tj : Int) : exec (.retryWaitEnd ch us tj) s = .next (if (lsChan s ch).st = .retryWait ∧
    (lsChan s ch).since + 10000 ≤ usNow s us ∧ tj ≤ 1550 ∧ lsGate s ch = true then
      updLs ch (fun c => { c with st := .start, since := usNow s us, retries := c.retries - 1, hot := false, tj, limitAt := none
                                  applied := if lsPwm s ch then 0 else 10000 }) s else s) := by
  show execRetryWaitEnd ch us tj s = _
  simp only [execRetryWaitEnd, Bool.and_eq_true, decide_eq_true_eq, and_assoc]

theorem lsThermalShutdown_eq (tj : Int) (hinj : s.ev.injs = []) :
    exec (.lsThermalShutdown ch us tj) s = .next (if lsShutAt s ≤ tj then thermalShutdown ch (usNow s us) tj s else s) := by
  show execLsThermalShutdown ch us tj s = _
  simp only [execLsThermalShutdown, forced_of_noInjs hinj, Bool.or_false, decide_eq_true_eq]

/-- R204: the channel whose junction has shut it down. -/
def shutDown (tj : Int) (c : LsChan) : LsChan :=
  { c with tj, hot := true, shutdowns := wrapU 16 (c.shutdowns + 1), applied := 0, inrush := none, edge := false }

theorem thermalShutdown_start {t : Nat} {ch : Nat} (tj : Int) (hlt : ch < s.ls.chans.length) (hinj : s.ev.injs = []) (hst : (lsChan s ch).st = .start) :
    OnLs ch (attemptFailed (lsChan s ch).retries ∘ shutDown tj) s (thermalShutdown ch t tj s) := by
  unfold thermalShutdown
  extract_lets c s1 recent coupled
  have h1 : OnLs ch (shutDown tj) s s1 := rfl
  rw [show c.st = .start from hst]
  have htold : Told s1 (if coupled then happen detCoupledShutdown (ch + 1) (hottest s ch) s1 else happen detThermalShutdown (ch + 1) 1 s1) :=
    told_ite (told_happen _ _ _ _) (told_happen _ _ _ _)
  have h2 := h1.told htold
  have hfail := onLs_attemptFails (ch := ch) (htold.noInjs hinj)
  rw [show (lsChan (if coupled then happen detCoupledShutdown (ch + 1) (hottest s ch) s1 else happen detThermalShutdown (ch + 1) 1 s1) ch).retries =
    (lsChan s ch).retries by rw [h2.at hlt]; rfl] at hfail
  exact h2.trans hfail

/-- R204: a shutdown within the current limit is the channel's own and latches it. -/
theorem thermalShutdown_own {t : Nat} {ch : Nat} (tj : Int) (hinj : s.ev.injs = [])
    (hst : (lsChan s ch).st = .on ∨ (lsChan s ch).st = .limit) (hlim : limitedLately (lsChan s ch) t = true) :
    OnLs ch (latchedFor 1 ∘ shutDown tj) s (thermalShutdown ch t tj s) ∧ isPresent (thermalShutdown ch t tj s) detThermalShutdown (ch + 1) = true := by
  have heq : thermalShutdown ch t tj s = beginCond detThermalShutdown (ch + 1) 1 (lsLatch ch 1 (detect detOverCurrent (ch + 1) false 0
      (updLs ch (shutDown tj) s))) := by
    simp only [thermalShutdown, forced_of_noInjs hinj, hlim, Bool.or_false, Bool.not_true, Bool.false_eq_true, if_false]
    rcases hst with h | h <;> simp only [h] <;> rfl
  have h1 := ((onLs_updLs ch (shutDown tj) s).told (told_detect detOverCurrent (ch + 1) false 0 _)).trans (onLs_lsLatch ch 1 _)
  rw [heq]
  exact ⟨h1.told (told_beginCond _ _ _ _), isPresent_begun _ _ _ _⟩

/-- R204, R205: the channel after a shutdown that another channel's heat caused. -/
def coupledOff (recent : List Nat) (c : LsChan) : LsChan :=
  if 4 ≤ recent.length then latchedFor 2 { c with coupled := recent } else { c with coupled := recent, st := .cool, limitAt := none }

theorem thermalShutdown_coupled {t : Nat} {ch : Nat} (tj : Int) (hinj : s.ev.injs = [])
    (hst : (lsChan s ch).st = .on ∨ (lsChan s ch).st = .limit) (hlim : limitedLately (lsChan s ch) t = false) :
    OnLs ch (coupledOff ((lsChan s ch).coupled.filter (fun x => decide (s.clk.ms < x + 60000)) ++ [s.clk.ms]) ∘ shutDown tj) s
      (thermalShutdown ch t tj s) ∧ isPresent (thermalShutdown ch t tj s) detCoupledShutdown (ch + 1) = true := by
  generalize hrec : (lsChan s ch).coupled.filter (fun x => decide (s.clk.ms < x + 60000)) ++ [s.clk.ms] = recent
  have heq : thermalShutdown ch t tj s = beginCond detCoupledShutdown (ch + 1) (hottest s ch)
      (if 4 ≤ recent.length then lsLatch ch 2 (updLs ch (fun c => { c with coupled := recent }) (detect detOverCurrent (ch + 1) false 0 (updLs ch (shutDown tj) s)))
       else updLs ch (fun c => { c with st := .cool, limitAt := none })
        (updLs ch (fun c => { c with coupled := recent }) (detect detOverCurrent (ch + 1) false 0 (updLs ch (shutDown tj) s)))) := by
    simp only [thermalShutdown, forced_of_noInjs hinj, hlim, Bool.or_false, Bool.not_false, hrec]
    rcases hst with h | h <;> simp only [h] <;> rfl
  have h1 := ((onLs_updLs ch (shutDown tj) s).told (told_detect detOverCurrent (ch + 1) false 0 _)).trans
    (onLs_updLs ch (fun c => { c with coupled := recent }) _)
  rw [heq]
  refine ⟨OnLs.told ?_ (told_beginCond _ _ _ _), isPresent_begun _ _ _ _⟩
  by_cases h4 : 4 ≤ recent.length
  · rw [if_pos h4, show coupledOff recent = fun c => latchedFor 2 { c with coupled := recent } from funext fun c => if_pos h4]
    exact h1.trans (onLs_lsLatch ch 2 _)
  · rw [if_neg h4, show coupledOff recent = fun c => { c with coupled := recent, st := .cool, limitAt := none } from funext fun c => if_neg h4]
    exact h1.trans (onLs_updLs ch (fun c => { c with st := .cool, limitAt := none }) _)

theorem coupledOff_kept (recent : List Nat) (c : LsChan) : (coupledOff recent c).hot = c.hot ∧ (coupledOff recent c).shutdowns = c.shutdowns ∧
    (c.applied = 0 → (coupledOff recent c).applied = 0) ∧ (recent.length < 4 → (coupledOff recent c).st = .cool) ∧
    (4 ≤ recent.length → (coupledOff recent c).st = .latched ∧ (coupledOff recent c).cause = 2) := by
  by_cases h4 : 4 ≤ recent.length
  · rw [coupledOff, if_pos h4]
    exact ⟨rfl, rfl, fun _ => rfl, fun h => absurd h4 (Nat.not_le.mpr h), fun _ => ⟨rfl, rfl⟩⟩
  · rw [coupledOff, if_neg h4]
    exact ⟨rfl, rfl, id, fun _ => rfl, fun h => absurd h h4⟩

/-- What a thermal shutdown leaves, whatever the phase. -/
theorem thermalShutdown_chan {t : Nat} {ch : Nat} (tj : Int) (hlt : ch < s.ls.chans.length) (hinj : s.ev.injs = []) :
    ∃ f, OnLs ch f s (thermalShutdown ch t tj s) ∧ (f (lsChan s ch)).hot = true ∧
      (f (lsChan s ch)).shutdowns = wrapU 16 ((lsChan s ch).shutdowns + 1) ∧ (f (lsChan s ch)).applied = 0 := by
  by_cases hs : (lsChan s ch).st = .start
  · obtain ⟨-, happ, hhot, hshut⟩ := attemptFailed_st (lsChan s ch).retries (shutDown tj (lsChan s ch))
    exact ⟨_, thermalShutdown_start tj hlt hinj hs, hhot, hshut, happ⟩
  by_cases hon : (lsChan s ch).st = .on ∨ (lsChan s ch).st = .limit
  · cases hlim : limitedLately (lsChan s ch) t with
    | true => exact ⟨_, (thermalShutdown_own tj hinj hon hlim).1, rfl, rfl, rfl⟩
    | false =>
      obtain ⟨hhot, hshut, happ, -⟩ := coupledOff_kept
        ((lsChan s ch).coupled.filter (fun x => decide (s.clk.ms < x + 60000)) ++ [s.clk.ms]) (shutDown tj (lsChan s ch))
      exact ⟨_, (thermalShutdown_coupled tj hinj hon hlim).1, hhot, hshut, happ rfl⟩
  · refine ⟨shutDown tj, ?_, rfl, rfl, rfl⟩
    unfold thermalShutdown
    extract_lets c s1 recent coupled
    split
    · next h => exact absurd h hs
    · next h => exact absurd (.inl h) hon
    · next h => exact absurd (.inr h) hon
    · rfl

/-- R205: the state after a channel has cooled. -/
def cooled (ch t : Nat) (tj : Int) (s : State) : State :=
  let s1 := detect detCoupledShutdown (ch + 1) false 0 (updLs ch (fun c => { c with hot := false, tj }) s)
  if (lsChan s ch).req && lsGate s ch then turnOn ch t (updLs ch (fun c => { c with armed := false }) s1) else updLs ch (fun c => { c with st := .off }) s1

theorem lsJunctionCooled_eq (tj : Int) : exec (.lsJunctionCooled ch us tj) s = .next (if tj ≤ 1550 then
    if (lsChan s ch).st = .cool then cooled ch (usNow s us) tj s else updLs ch (fun c => { c with hot := false, tj }) s else s) := rfl

theorem cooled_chan {t : Nat} {ch : Nat} (tj : Int) : ∃ f, OnLs ch f s (cooled ch t tj s) ∧ (f (lsChan s ch)).hot = false ∧
    isPresent (cooled ch t tj s) detCoupledShutdown (ch + 1) = false ∧
    (((lsChan s ch).req = true ∧ lsGate s ch = true) → (f (lsChan s ch)).st = .on ∧ (f (lsChan s ch)).turnOns = wrapU 32 ((lsChan s ch).turnOns + 1)) ∧
    (((lsChan s ch).req = false ∨ lsGate s ch = false) → (f (lsChan s ch)).st = .off) := by
  have h1 := (onLs_updLs ch (fun c => { c with hot := false, tj }) s).told (told_detect detCoupledShutdown (ch + 1) false 0 _)
  have hgone := isPresent_detect detCoupledShutdown (ch + 1) false 0 (updLs ch (fun c => { c with hot := false, tj }) s)
  unfold cooled
  extract_lets s1
  by_cases hreq : ((lsChan s ch).req && lsGate s ch) = true
  · rw [if_pos hreq]
    have h2 := h1.trans (onLs_updLs ch (fun c => { c with armed := false }) s1)
    obtain ⟨-, -, hons, hhot, -⟩ := turnedOn_kept (updLs ch (fun c => { c with armed := false }) s1) ch t
      { lsChan s ch with hot := false, tj, armed := false }
    refine ⟨_, h2.trans (onLs_turnOn ch t _), hhot, hgone, fun _ => ⟨(turnedOn_unarmed rfl).1, hons⟩, fun h => ?_⟩
    rw [Bool.and_eq_true] at hreq
    rcases h with h | h <;> simp [h] at hreq
  · rw [if_neg hreq]
    refine ⟨_, h1.trans (onLs_updLs ch (fun c => { c with st := .off }) s1), rfl, hgone, fun h => absurd ?_ hreq, fun _ => rfl⟩
    rw [h.1, h.2]
    rfl

end

end Sys2Proof.Proofs
end

section
/-!
PROOFS. Load switches: demagnetization, diagnosis, the dissipation budget, and O40 (R207 to R217).
-/

namespace Sys2Proof.Proofs

open Sys2Proof.Machine Sys2Proof.Safety

section
variable {ch : Fin 24} {us : Fin 1000} {s : State}

theorem Told.ls {s t : State} (h : Told s t) : t.ls = s.ls := h.frame .ls (by decide)

/-! ### DEMAG (R207 to R209) -/

/-- R207, R208: the channel when its current has died. -/
def demagnetized (t ma clamp : Nat) (c : LsChan) : LsChan :=
  { c with st := if c.toShed then .shed else .off, demagUs := satU 16 (t - c.since), clampMj := satU 16 clamp, ma := ma, toShed := false }

/-- The clamp energy booked. -/
def clampBooked (ch t ma clamp : Nat) (s : State) : State :=
  let s1 := updLs ch (demagnetized t ma clamp) s
  { s1 with ls := { s1.ls with clampNow := s1.ls.clampNow + clamp } }

/-- The clamp energy booked and judged. -/
def clampJudged (ch t ma clamp : Nat) (s : State) : State :=
  if (lsClampRating ch : Int) * (1750 - (lsChan s ch).tjOff) < clamp * 1500 then happen detClampEnergy (ch + 1) clamp (clampBooked ch t ma clamp s)
  else clampBooked ch t ma clamp s

theorem demagEnd_eq (out : Int) (ma clamp : Nat) (hinj : s.ev.injs = []) : exec (.demagEnd ch us out ma clamp) s =
    .next (if (lsChan s ch).st = .demag ∧ -1000 < out ∧ ma < 50 then
      if ((lsChan s ch).queued && lsGate s ch) = true then turnOn ch (usNow s us) (clampJudged ch (usNow s us) ma clamp s)
      else updLs ch (fun c => { c with queued := false }) (clampJudged ch (usNow s us) ma clamp s) else s) := by
  show execDemagEnd ch us out ma clamp s = _
  simp only [execDemagEnd, measured_of_noInjs hinj, Int.toNat_natCast, Bool.and_eq_true, decide_eq_true_eq, and_assoc]
  rfl

theorem clampJudged_ls (ch t ma clamp : Nat) (s : State) : OnLs ch (demagnetized t ma clamp) s (clampJudged ch t ma clamp s) ∧
    (clampJudged ch t ma clamp s).ls.clampNow = s.ls.clampNow + clamp ∧
    ((lsClampRating ch : Int) * (1750 - (lsChan s ch).tjOff) ≥ clamp * 1500 → (clampJudged ch t ma clamp s).ev = s.ev) := by
  have hon : OnLs ch (demagnetized t ma clamp) s (clampBooked ch t ma clamp s) := rfl
  unfold clampJudged
  split
  · next h =>
    exact ⟨hon.told (told_happen _ _ _ _), congrArg Loads.clampNow (told_happen _ _ _ _).ls, fun h' => absurd h (not_lt.mpr h')⟩
  · exact ⟨hon, rfl, fun _ => rfl⟩

theorem demagEnd_cases (out : Int) (ma clamp : Nat) (hlen : s.ls.chans.length = 24) (hinj : s.ev.injs = []) (hst : (lsChan s ch).st = .demag)
    (hout : -1000 < out) (hma : ma < 50) : ∃ t, exec (.demagEnd ch us out ma clamp) s = .next t ∧
      (∀ j : Nat, j ≠ ch.val → lsChan t j = lsChan s j) ∧ onlyIn (.ls :: tells) s t ∧
      (lsChan t ch).demagUs = satU 16 (usNow s us - (lsChan s ch).since) ∧ (lsChan t ch).clampMj = satU 16 clamp ∧
      t.ls.clampNow = s.ls.clampNow + clamp ∧
      ((lsChan s ch).queued = true → lsGate s ch = true →
        (lsChan t ch).turnOns = wrapU 32 ((lsChan s ch).turnOns + 1) ∧ (lsChan t ch).since = usNow s us ∧ (lsChan t ch).queued = false ∧
        ((lsChan s ch).armed = true → (lsChan t ch).st = .start ∧ (lsChan t ch).retries = 8 ∧ (lsChan t ch).startup = true) ∧
        ((lsChan s ch).armed = false → (lsChan t ch).st = .on ∧ (lsChan t ch).startup = false)) ∧
      ((lsChan s ch).queued = false → (lsChan t ch).st = (if (lsChan s ch).toShed then LsSt.shed else LsSt.off)) ∧
      ((lsClampRating ch : Int) * (1750 - (lsChan s ch).tjOff) ≥ clamp * 1500 → t.ev = s.ev) := by
  have hexec := demagEnd_eq (ch := ch) (us := us) out ma clamp hinj
  rw [if_pos ⟨hst, hout, hma⟩] at hexec
  have hframe := onlyIn_mono (T := .ls :: tells) (frame_execDemagEnd ch us out ma clamp s _ hexec) rfl
  obtain ⟨hjudged, hclamp, hev⟩ := clampJudged_ls ch (usNow s us) ma clamp s
  have hlt : (ch : Nat) < s.ls.chans.length := ch.isLt.trans_eq hlen.symm
  refine ⟨_, hexec, ?_⟩
  by_cases hq : ((lsChan s ch).queued && lsGate s ch) = true
  · rw [if_pos hq] at hframe ⊢
    have hon := hjudged.trans (onLs_turnOn ch (usNow s us) _)
    obtain ⟨hsince, hqueued, hons, -, hdemag, hmj⟩ := turnedOn_kept (clampJudged ch (usNow s us) ma clamp s) ch (usNow s us)
      (demagnetized (usNow s us) ma clamp (lsChan s ch))
    rw [hon.at hlt]
    refine ⟨hon.away, hframe, hdemag, hmj, hclamp, fun _ _ => ⟨hons, hsince, hqueued, fun h => turnedOn_armed h, fun h => turnedOn_unarmed h⟩,
      fun h => ?_, hev⟩
    rw [h] at hq
    cases hq
  · rw [if_neg hq] at hframe ⊢
    have hon := hjudged.trans (onLs_updLs ch (fun c => { c with queued := false }) _)
    rw [hon.at hlt]
    refine ⟨hon.away, hframe, rfl, rfl, hclamp, fun h h' => ?_, fun _ => rfl, hev⟩
    rw [h, h'] at hq
    exact absurd rfl hq

/-! ### PWM and diagnosis (R210, R213) -/

theorem lsPwmPeriodStart_cases (hlen : s.ls.chans.length = 24) (hpwm : lsPwm s ch = true)
    (hst : (lsChan s ch).st = .on ∨ (lsChan s ch).st = .limit ∨ (lsChan s ch).st = .start) :
    ∃ t, exec (.lsPwmPeriodStart ch us) s = .next t ∧ lsChan t ch = { lsChan s ch with
        applied := (lsChan s ch).duty
        edge := false
        inrush := if (lsChan s ch).edge then some (usNow s us + 1000 * paramN s (pLsInrush ch)) else (lsChan s ch).inrush } ∧
      (∀ j : Nat, j ≠ ch.val → lsChan t j = lsChan s j) ∧ onlyIn [.ls] s t := by
  have hexec : exec (.lsPwmPeriodStart ch us) s = .next _ := congrArg Host.Outcome.next (if_pos hpwm)
  have hon := onLs_updLs ch (fun c => if c.st = .on || c.st = .limit || c.st = .start then
        { c with applied := c.duty, edge := false
                 inrush := if c.edge then some (usNow s us + 1000 * paramN s (pLsInrush ch)) else c.inrush }
      else c) s
  refine ⟨_, hexec, (hon.at (ch.isLt.trans_eq hlen.symm)).trans (if_pos ?_), hon.away, frame_execLsPwmPeriodStart ch us s _ hexec⟩
  rcases hst with h | h | h <;> simp [h]

theorem lsJudge_present (ch v1 v2 : Nat) (hinj : s.ev.injs = []) :
    isPresent (lsJudge ch v1 v2 s) detOutputShortToBattery (ch + 1) = decide (1500 < v1) ∧
    isPresent (lsJudge ch v1 v2 s) detOpenLoadOffState (ch + 1) = (decide (v1 ≤ 1500) && decide (3500 < v2)) := by
  unfold lsJudge
  extract_lets m1 m2 r s1 s2 s3
  have hm1 : m1 = v1 := measured_of_noInjs hinj _ _ _
  have hm2 : m2 = v2 := measured_of_noInjs hinj _ _ _
  have hr : r = if 1500 < v1 then 6 else if 3500 < v2 then 5 else 0 := by
    show lsDiagnose m1 m2 = _
    rw [hm1, hm2, lsDiagnose_nat]
  have hlast (code : Nat) (h : detOpenLoadOnState ≠ code) :
      isPresent (if r = 0 then detect detOpenLoadOnState (ch + 1) false 0 s3 else s3) code (ch + 1) = isPresent s3 code (ch + 1) := by
    split
    · exact isPresent_detect_other (.inl h) _ _ _
    · rfl
  rw [hlast _ (by decide), hlast _ (by decide)]
  refine ⟨?_, ?_⟩
  · rw [isPresent_detect_other (.inl (by decide)), isPresent_detect, hr]
    split
    · next h => simp [h]
    · next h => split <;> simp [h]
  · rw [isPresent_detect, hr]
    by_cases h1 : 1500 < v1
    · simp [h1]
    · by_cases h2 : 3500 < v2 <;> simp [h1, h2, Nat.not_lt.mp h1]

theorem lsOffstateDiag_eq (v1 v2 : Nat) : exec (.lsOffstateDiag ch v1 v2) s =
    .next (if (lsChan s ch).st = .off ∧ paramN s (pLsOffdiag ch) = 1 then lsJudge ch v1 v2 s else updLs ch (fun c => { c with v1, v2 }) s) := by
  show execLsOffstateDiag ch v1 v2 s = _
  simp only [execLsOffstateDiag, Bool.and_eq_true, decide_eq_true_eq]

theorem lsOffstateDiag_off (v1 v2 : Nat) (hlen : s.ls.chans.length = 24) (hinj : s.ev.injs = []) (hst : (lsChan s ch).st = .off)
    (hdiag : paramN s (pLsOffdiag ch) = 1) : ∃ t, exec (.lsOffstateDiag ch v1 v2) s = .next t ∧
      (∀ j : Nat, j ≠ ch.val → lsChan t j = lsChan s j) ∧ onlyIn (.ls :: tells) s t ∧
      lsChan t ch = { lsChan s ch with v1 := v1, v2 := v2, openLoad := decide (lsDiagnose v1 v2 ≠ 0), cause := lsDiagnose v1 v2 } ∧
      isPresent t detOutputShortToBattery (ch.val + 1) = decide (1500 < v1) ∧
      isPresent t detOpenLoadOffState (ch.val + 1) = (decide (v1 ≤ 1500) && decide (3500 < v2)) := by
  have hexec := (lsOffstateDiag_eq (ch := ch) (s := s) v1 v2).trans (congrArg Host.Outcome.next (if_pos ⟨hst, hdiag⟩))
  have hon : OnLs ch (diagnosed s ch v1 v2) s (lsJudge ch v1 v2 s) := congrArg Loads.chans (lsJudge_ls ch v1 v2 s)
  refine ⟨_, hexec, hon.away, onlyIn_mono (frame_execLsOffstateDiag ch v1 v2 s _ hexec) rfl, ?_, lsJudge_present ch v1 v2 hinj⟩
  rw [hon.at (ch.isLt.trans_eq hlen.symm), diagnosed, measured_of_noInjs hinj, measured_of_noInjs hinj]

theorem lsOpenLoadOnstate_eq (ma ms : Nat) (hinj : s.ev.injs = []) (hst : (lsChan s ch).st = .on) : exec (.lsOpenLoadOnstate ch ma ms) s =
    .next (if ma < 50 ∧ paramN s (pLsOlTime ch) ≤ ms then
      beginCond detOpenLoadOnState (ch + 1) ma (updLs ch (fun c => { c with openLoad := true, cause := 4 }) s)
    else if 50 ≤ ma ∧ (lsChan s ch).cause = 4 then
      detect detOpenLoadOnState (ch + 1) false 0 (updLs ch (fun c => { c with openLoad := false, cause := 0 }) s) else s) := by
  show execLsOpenLoadOnstate ch ma ms s = _
  have hlow : ((ma : Int) < 50) ↔ ma < 50 := by omega
  have hhigh : (50 ≤ (ma : Int)) ↔ 50 ≤ ma := by omega
  simp only [execLsOpenLoadOnstate, measured_of_noInjs hinj, hst, if_true, Int.toNat_natCast, Bool.and_eq_true, decide_eq_true_eq, hlow, hhigh]

/-! ### Shedding and restoring (R215) -/

/-- A channel shed, and the step booked. -/
def shedBooked (ch : Nat) (s : State) : State :=
  let s1 := turnOff ch (usNow s 0) true s
  { s1 with ls := { s1.ls with shed := s1.ls.shed ++ [ch], lastStep := s.clk.ms } }

theorem onLs_shedBooked (ch : Nat) (s : State) : OnLs ch (turnedOff (usNow s 0) true) s (shedBooked ch s) :=
  (onLs_turnOff ch (usNow s 0) true s).congr rfl

theorem shedBooked_shed (ch : Nat) (s : State) : (shedBooked ch s).ls.shed = s.ls.shed ++ [ch] := by
  have hoff : (turnOff ch (usNow s 0) true s).ls.shed = s.ls.shed := (congrArg Loads.shed (told_detect _ _ _ _ _).ls).trans rfl
  show (turnOff ch (usNow s 0) true s).ls.shed ++ [ch] = _
  rw [hoff]

theorem loadShed_picks (hlen : s.ls.chans.length = 24) (hinj : s.ev.injs = []) (hmean : 16000 < mean1s s.ls.mw)
    (hstep : elapsed s s.ls.lastStep 10 = true) (hpick : shedPick s = some ch.val) :
    ∃ t, exec .loadShed s = .next t ∧ (∀ j : Nat, j ≠ ch.val → lsChan t j = lsChan s j) ∧ onlyIn (.ls :: tells) s t ∧
      (lsChan t ch).st = .demag ∧ (lsChan t ch).toShed = true ∧ t.ls.shed = s.ls.shed ++ [ch.val] ∧ t.ls.lastStep = s.clk.ms := by
  have hmean' : (16000 : Int) < mean1s s.ls.mw := by omega
  have hexec : exec .loadShed s =
      .next (happenMarked detChannelShed (ch + 1) (mean1s s.ls.mw) (forced s detOutputStageBudgetExceeded 0) (shedBooked ch s)) := by
    show execLoadShed s = _
    simp only [execLoadShed, measured_of_noInjs hinj, hmean', decide_true, hstep, Bool.and_self, if_true, hpick, Int.toNat_natCast]
    rfl
  have htold := (said_happenMarked detChannelShed (ch + 1) (mean1s s.ls.mw) (forced s detOutputStageBudgetExceeded 0) (shedBooked ch s)).toTold
  have hon := (onLs_shedBooked ch s).told htold
  have hat := hon.at (ch.isLt.trans_eq hlen.symm)
  exact ⟨_, hexec, hon.away, onlyIn_mono (frame_execLoadShed s _ hexec) rfl, by rw [hat]; rfl, by rw [hat]; rfl,
    (congrArg Loads.shed htold.ls).trans (shedBooked_shed ch s), congrArg Loads.lastStep htold.ls⟩

theorem loadShed_stays (hinj : s.ev.injs = []) (h : mean1s s.ls.mw ≤ 16000 ∨ elapsed s s.ls.lastStep 10 = false ∨ shedPick s = none) :
    exec .loadShed s = .next s := by
  show execLoadShed s = _
  simp only [execLoadShed, measured_of_noInjs hinj]
  rcases h with h | h | h
  · rw [if_neg (by simp only [Bool.and_eq_true, decide_eq_true_eq]; omega)]
  · rw [if_neg (by simp [h])]
  · simp only [h, ite_self]

theorem loadRestore_eq {b : Nat} (hb : s.ls.below = some b) (hlast : s.ls.shed.getLast? = some ch.val) : exec .loadRestore s =
    .next (if elapsed s b 500 = true ∧ elapsed s s.ls.lastStep 100 = true then
      if (lsChan s ch).st = .shed ∧ (lsChan s ch).req = true ∧ lsGate s ch = true then turnOn ch (usNow s 0) (updLs ch (fun c => { c with armed := false })
        { s with ls := { s.ls with shed := s.ls.shed.dropLast, lastStep := s.clk.ms } })
      else { s with ls := { s.ls with shed := s.ls.shed.dropLast, lastStep := s.clk.ms } } else s) := by
  show execLoadRestore s = _
  simp only [execLoadRestore, hb, hlast, Bool.and_eq_true, decide_eq_true_eq, and_assoc]

theorem loadRestore_cases {b : Nat} (hlen : s.ls.chans.length = 24) (hb : s.ls.below = some b) (hlast : s.ls.shed.getLast? = some ch.val)
    (h500 : elapsed s b 500 = true) (h100 : elapsed s s.ls.lastStep 100 = true) :
    ∃ t, exec .loadRestore s = .next t ∧ (∀ j : Nat, j ≠ ch.val → lsChan t j = lsChan s j) ∧ onlyIn [.ls] s t ∧
      t.ls.shed = s.ls.shed.dropLast ∧ t.ls.lastStep = s.clk.ms ∧
      ((lsChan s ch).st = .shed → (lsChan s ch).req = true → lsGate s ch = true → (lsChan t ch).st = .on) ∧
      ((lsChan s ch).st ≠ .shed → lsChan t ch = lsChan s ch) := by
  have hexec := loadRestore_eq hb hlast
  rw [if_pos ⟨h500, h100⟩] at hexec
  have hframe := frame_execLoadRestore s _ hexec
  refine ⟨_, hexec, ?_⟩
  by_cases h : (lsChan s ch).st = .shed ∧ (lsChan s ch).req = true ∧ lsGate s ch = true
  · rw [if_pos h] at hframe ⊢
    have hon : OnLs ch (fun c => { c with armed := false }) s (updLs ch (fun c => { c with armed := false })
        { s with ls := { s.ls with shed := s.ls.shed.dropLast, lastStep := s.clk.ms } }) := rfl
    have hon' := hon.trans (onLs_turnOn ch (usNow s 0) _)
    refine ⟨hon'.away, hframe, rfl, rfl, fun _ _ _ => ?_, fun hne => absurd h.1 hne⟩
    rw [hon'.at (ch.isLt.trans_eq hlen.symm)]
    exact (turnedOn_unarmed rfl).1
  · rw [if_neg h] at hframe ⊢
    exact ⟨fun _ _ => rfl, hframe, rfl, rfl, fun h1 h2 h3 => absurd ⟨h1, h2, h3⟩ h, fun _ => rfl⟩

theorem budgetExceeded_eq {a : Nat} (hinj : s.ev.injs = []) (ha : s.ls.above = some a) : exec .budgetExceeded s =
    .next (if 16000 < mean1s s.ls.mw ∧ elapsed s a 1000 = true ∧ shedPick s = none then
      beginCond detOutputStageBudgetExceeded 0 (mean1s s.ls.mw) s else s) := by
  show execBudgetExceeded s = _
  have hmean : ((16000 : Int) < mean1s s.ls.mw) ↔ 16000 < mean1s s.ls.mw := by omega
  simp only [execBudgetExceeded, ha, measured_of_noInjs hinj, hmean, Bool.and_eq_true, decide_eq_true_eq, Option.isNone_iff_eq_none, and_assoc,
    Int.toNat_natCast]

theorem budgetExceeded_none (ha : s.ls.above = none) : exec .budgetExceeded s = .next s := by
  show execBudgetExceeded s = _
  simp only [execBudgetExceeded, ha]

/-! ### ON_TEST (R217) -/

theorem onTestEnd_none (peak : Nat) (h : (lsChan s ch).test = none) : exec (.onTestEnd ch us peak) s = .next s := by
  show execOnTestEnd ch us peak s = _
  simp only [execOnTestEnd, h]

theorem onTestEnd_some {b : Nat} (peak : Nat) (h : (lsChan s ch).test = some b) : ∃ r, exec (.onTestEnd ch us peak) s =
    .next (if b + 20000 ≤ usNow s us then resolve (fun w => w == .diag ch) stOk (lsDiagBytes r (lsChan s ch).v1 (lsChan s ch).v2 peak)
      (updLs ch (fun c => { c with test := none, armed := true }) (lsOff ch (usNow s us) s)) else s) := by
  refine ⟨if (lsChan s ch).st = .latched then (lsChan s ch).cause else if (lsChan s ch).st = .cool then 2 else 0, ?_⟩
  show execOnTestEnd ch us peak s = _
  simp only [execOnTestEnd, h]

theorem onTestEnd_cases {b : Nat} (peak : Nat) (hlen : s.ls.chans.length = 24) (h : (lsChan s ch).test = some b) (hdue : b + 20000 ≤ usNow s us) :
    ∃ t, exec (.onTestEnd ch us peak) s = .next t ∧ (∀ j : Nat, j ≠ ch.val → lsChan t j = lsChan s j) ∧ onlyIn (.ls :: tells) s t ∧
      (lsChan t ch).test = none ∧ (lsChan t ch).req = false ∧ (lsChan t ch).duty = 0 ∧ (∀ w ∈ t.mb.waiting, w.what ≠ .diag ch) ∧
      (((lsChan s ch).st = .on ∨ (lsChan s ch).st = .limit) → (lsChan t ch).st = .demag) := by
  obtain ⟨r, hexec⟩ := onTestEnd_some (us := us) peak h
  rw [if_pos hdue] at hexec
  obtain ⟨f, hf, hreq, hdemag⟩ := onLs_lsOff ch (usNow s us) s
  have hon := (hf.trans (onLs_updLs ch (fun c => { c with test := none, armed := true }) _)).congr (u := resolve (fun w => w == .diag ch) stOk
      (lsDiagBytes r (lsChan s ch).v1 (lsChan s ch).v2 peak) (updLs ch (fun c => { c with test := none, armed := true }) (lsOff ch (usNow s us) s)))
    (congrArg Loads.chans (frame_resolve _ _ _ _ .ls (by decide)))
  have hat := hon.at (ch.isLt.trans_eq hlen.symm)
  refine ⟨_, hexec, hon.away, onlyIn_mono (frame_execOnTestEnd ch us peak s _ hexec) rfl, by rw [hat]; rfl, by rw [hat]; exact (hreq _).1,
    by rw [hat]; exact (hreq _).2, fun w hw => ?_, fun hst => by rw [hat]; exact hdemag hst _⟩
  rw [resolve_waiting] at hw
  have hne := (List.mem_filter.mp hw).2
  rw [Bool.not_eq_true', beq_eq_false_iff_ne] at hne
  exact hne

end

end Sys2Proof.Proofs
end

section
/-!
PROOFS. Load switches: the dissipation estimate (R197, R213 to R215), and O40.
-/

namespace Sys2Proof.Proofs

open Sys2Proof.Machine Sys2Proof.Safety

/-- R197, R214: the samples of a millisecond, and since when the mean stands above or below its thresholds. -/
def estimated (m : LsSample) (s : State) : State :=
  let ls := ((List.range 24).map (lsPower s m)).sum
  let tot := ls + m.valves + 1000 * s.ls.clampNow
  let chans := s.ls.chans.zipIdx.map (fun p => { p.1 with
    ma := nth m.ma p.2 p.1.ma, tj := nth m.tj p.2 p.1.tj, mas := pushRing 1000 p.1.mas (nth m.ma p.2 p.1.ma)
    hot := p.1.hot && decide (1550 < nth m.tj p.2 p.1.tj) })
  let s1 := { s with ls := { s.ls with
    chans := chans, mw := pushRing 1000 s.ls.mw tot, valveMw := pushRing 1000 s.ls.valveMw m.valves, clampNow := 0
    vbatMa := pushRing 1000 s.ls.vbatMa m.vbatMa } }
  let mean := mean1s s1.ls.mw
  { s1 with ls := { s1.ls with
    above := if 16000 < mean then (if s1.ls.above.isSome then s1.ls.above else some s.clk.ms) else none
    below := if mean ≤ 14000 then (if s1.ls.below.isSome then s1.ls.below else some s.clk.ms) else none } }

/-- R213: the 1 s mean of a channel judged by its rating. -/
def ratingJudged (st : State) (ch : Nat) : State :=
  let v := measured st detLoadAboveRating (ch + 1) (mean1s (lsChan st ch).mas)
  detect detLoadAboveRating (ch + 1) (decide ((lsNominal ch : Int) < v)) v.toNat st

/-- R197: the aggregate current judged. -/
def aggregateJudged (s : State) : State :=
  let agg := measured s detAggregateVbatCurrent 0 (mean1s s.ls.vbatMa)
  detect detAggregateVbatCurrent 0 (decide (140000 < agg)) agg.toNat s

/-- The estimate with all that it judges. -/
def estimateJudged (m : LsSample) (s : State) : State := (List.range 24).foldl ratingJudged (aggregateJudged (estimated m s))

theorem dissipationEstimate_eq (m : LsSample) (s : State) : exec (.dissipationEstimate m) s =
    .next (if 16000 < mean1s (estimated m s).ls.mw then estimateJudged m s
      else detect detOutputStageBudgetExceeded 0 false 0 (estimateJudged m s)) := by
  have hrating : ratingJudged = fun st ch => detect detLoadAboveRating (ch + 1)
      (decide ((lsNominal ch : Int) < measured st detLoadAboveRating (ch + 1) (mean1s (lsChan st ch).mas)))
      (measured st detLoadAboveRating (ch + 1) (mean1s (lsChan st ch).mas)).toNat st := rfl
  show execDissipationEstimate m s = _
  simp only [execDissipationEstimate, estimateJudged, aggregateJudged, estimated, hrating]

/-- The windows with their newest samples. -/
theorem estimated_ls (m : LsSample) (s : State) :
    (estimated m s).ls.mw = pushRing 1000 s.ls.mw (((List.range 24).map (lsPower s m)).sum + m.valves + 1000 * s.ls.clampNow) ∧
    (estimated m s).ls.clampNow = 0 ∧ (estimated m s).ls.vbatMa = pushRing 1000 s.ls.vbatMa m.vbatMa ∧
    (estimated m s).ls.above = (if 16000 < mean1s (estimated m s).ls.mw then (if s.ls.above.isSome then s.ls.above else some s.clk.ms) else none) ∧
    (estimated m s).ls.below = (if mean1s (estimated m s).ls.mw ≤ 14000 then (if s.ls.below.isSome then s.ls.below else some s.clk.ms) else none) := by
  simp only [estimated, and_self]

theorem told_ratingJudged (s : State) (ch : Nat) : Told s (ratingJudged s ch) := told_detect _ _ _ _ _

theorem told_estimateJudged (m : LsSample) (s : State) : Told (estimated m s) (estimateJudged m s) :=
  told_step (told_foldl told_ratingJudged _ _) (told_detect _ _ _ _ _)

/-- The channel with its samples. -/
theorem estimated_chan (m : LsSample) {s : State} {ch : Nat} (hlt : ch < s.ls.chans.length) : lsChan (estimated m s) ch = { lsChan s ch with
    ma := nth m.ma ch (lsChan s ch).ma, tj := nth m.tj ch (lsChan s ch).tj, mas := pushRing 1000 (lsChan s ch).mas (nth m.ma ch (lsChan s ch).ma)
    hot := (lsChan s ch).hot && decide (1550 < nth m.tj ch (lsChan s ch).tj) } := by
  have hc : lsChan s ch = s.ls.chans[ch] := by simp only [lsChan, nth, List.getD_eq_getElem?_getD, List.getElem?_eq_getElem hlt, Option.getD_some]
  rw [hc]
  simp only [lsChan, estimated, nth, List.getD_eq_getElem?_getD, List.getElem?_map, List.getElem?_zipIdx, List.getElem?_eq_getElem hlt,
    Option.map_some, Option.getD_some, Nat.zero_add]

/-- The rating of a channel is judged by its own step of the estimate. -/
theorem estimateJudged_rating (m : LsSample) {s : State} (ch : Fin 24) (hlen : s.ls.chans.length = 24) (hinj : s.ev.injs = []) :
    isPresent (estimateJudged m s) detLoadAboveRating (ch.val + 1) =
      decide (lsNominal ch < mean1s (pushRing 1000 (lsChan s ch).mas (nth m.ma ch.val (lsChan s ch).ma))) := by
  obtain ⟨x, hx, hz⟩ := foldl_at (R := fun s t => Told s t ∧ isPresent t detLoadAboveRating (ch.val + 1) = isPresent s detLoadAboveRating (ch.val + 1))
    (fun _ => ⟨.refl _, rfl⟩) (fun h h' => ⟨h.1.trans h'.1, h'.2.trans h.2⟩) (f := ratingJudged) (k := ch.val)
    (fun y a ha => ⟨told_ratingJudged y a, isPresent_detect_other (.inr (by omega)) _ _ _⟩) List.nodup_range (List.mem_range.mpr ch.isLt)
    (aggregateJudged (estimated m s))
  have htold : Told (estimated m s) x := told_step hx.1 (told_detect _ _ _ _ _)
  have hinjx : x.ev.injs = [] := htold.noInjs hinj
  rw [estimateJudged, hz.2, ratingJudged, isPresent_detect, measured_of_noInjs hinjx, lsChan_congr htold.ls,
    estimated_chan m (ch.isLt.trans_eq hlen.symm)]
  generalize mean1s _ = v
  exact decide_eq_decide.mpr Int.ofNat_lt

theorem estimateJudged_aggregate (m : LsSample) {s : State} (hinj : s.ev.injs = []) :
    isPresent (estimateJudged m s) detAggregateVbatCurrent 0 = decide (140000 < mean1s (pushRing 1000 s.ls.vbatMa m.vbatMa)) := by
  have hfold : ∀ (l : List Nat) (x : State), isPresent (l.foldl ratingJudged x) detAggregateVbatCurrent 0 = isPresent x detAggregateVbatCurrent 0 := by
    intro l
    induction l with
    | nil => exact fun _ => rfl
    | cons a l ih => exact fun x => (ih _).trans (isPresent_detect_other (.inl (by decide)) _ _ _)
  rw [estimateJudged, hfold, aggregateJudged, isPresent_detect, measured_of_noInjs (s := estimated m s) hinj]
  obtain ⟨-, -, hring, -⟩ := estimated_ls m s
  rw [hring]
  exact decide_eq_decide.mpr (by omega)

/-- R197, R213 to R215: what an estimate leaves. -/
theorem dissipationEstimate_leaves (m : LsSample) {s : State} (ch : Fin 24) (hlen : s.ls.chans.length = 24) (hinj : s.ev.injs = []) :
    ∃ t, exec (.dissipationEstimate m) s = .next t ∧ Told (estimated m s) t ∧
      isPresent t detAggregateVbatCurrent 0 = decide (140000 < mean1s (pushRing 1000 s.ls.vbatMa m.vbatMa)) ∧
      isPresent t detLoadAboveRating (ch.val + 1) =
        decide (lsNominal ch < mean1s (pushRing 1000 (lsChan s ch).mas (nth m.ma ch.val (lsChan s ch).ma))) := by
  refine ⟨_, dissipationEstimate_eq m s, ?_⟩
  split
  · exact ⟨told_estimateJudged m s, estimateJudged_aggregate m hinj, estimateJudged_rating m ch hlen hinj⟩
  · refine ⟨told_step (told_detect _ _ _ _ _) (told_estimateJudged m s), ?_, ?_⟩
    · exact (isPresent_detect_other (.inl (by decide)) _ _ _).trans (estimateJudged_aggregate m hinj)
    · exact (isPresent_detect_other (.inl (by decide)) _ _ _).trans (estimateJudged_rating m ch hlen hinj)

/-- Settles O40: each event's change of its channel, from what the channel's operations make of it. -/
theorem loadSwitchesActOfThemselves : Obligations.LoadSwitchesActOfThemselves := by
  unfold Obligations.LoadSwitchesActOfThemselves
  intro ch us s c t0 away sees started hlen hinj
  have hlt : (ch : Nat) < s.ls.chans.length := ch.isLt.trans_eq hlen.symm
  refine ⟨rfl, fun ma => ⟨currentLimitEntry_below ma hinj, currentLimitEntry_on ma hlen, currentLimitEntry_start ma, currentLimitExit_limit ma hlen hinj,
    currentLimitExit_stays ma⟩, fun l hst hl => ⟨fun h => ?_, fun h hr => ?_, fun h hr => ?_⟩, startAttemptFail_stays, fun h => ?_, fun h h' => ?_,
    fun tj => ⟨fun h1 h2 h3 h4 => ?_, fun h => ?_, fun h => ?_, fun h => ?_, fun h => ?_, fun h h' => ?_, fun h h' => ?_⟩,
    fun out ma clamp => ⟨fun h => ?_, fun h h' h'' => demagEnd_cases out ma clamp hlen hinj h h' h''⟩, lsPwmPeriodStart_cases hlen, fun h => ?_,
    fun v1 v2 => ⟨fun h => ?_, lsOffstateDiag_off v1 v2 hlen hinj⟩, fun ma ms => ⟨fun h => ?_, fun h h' h'' => ?_, fun h h' h'' => ?_⟩, fun m => ?_,
    loadShed_stays hinj, loadShed_picks hlen hinj, fun b hb hlast => ⟨fun h => ?_, loadRestore_cases hlen hb hlast⟩, fun a ha h h' h'' => ?_,
    fun h => ?_, fun peak => ⟨onTestEnd_none peak, fun b hb h => ?_, fun b hb h => onTestEnd_cases peak hlen hb h⟩⟩
  · exact (startAttemptFail_eq hst hl).trans (congrArg Host.Outcome.next (if_neg (Nat.not_le.mpr h)))
  · refine (startAttemptFail_eq hst hl).trans (congrArg Host.Outcome.next ((if_pos h).trans ?_))
    rw [attemptFails_eq hinj]
    exact if_neg (Nat.ne_of_gt hr)
  · exact startAttemptFail_latches hlen hinj hst hl h hr
  · refine congrArg Host.Outcome.next (if_neg fun hc => ?_)
    rw [Bool.and_eq_true, decide_eq_true_eq, decide_eq_true_eq] at hc
    exact h.elim (· hc.1) (Nat.not_lt.mpr hc.2)
  · refine congrArg Host.Outcome.next (if_pos ?_)
    rw [Bool.and_eq_true, decide_eq_true_eq, decide_eq_true_eq]
    exact ⟨h, h'⟩
  · have hexec := (retryWaitEnd_eq (ch := ch) (us := us) (s := s) tj).trans (congrArg Host.Outcome.next (if_pos ⟨h1, h2, h3, h4⟩))
    refine ⟨_, hexec, ?_⟩
    have hon := onLs_updLs ch (fun c => { c with st := .start, since := usNow s us, retries := c.retries - 1, hot := false, tj, limitAt := none
                                                 applied := if lsPwm s ch then 0 else 10000 }) s
    rw [hon.at hlt]
    exact ⟨rfl, rfl, rfl, rfl, hon.away, frame_execRetryWaitEnd ch us tj s _ hexec⟩
  · refine (retryWaitEnd_eq tj).trans (congrArg Host.Outcome.next (if_neg ?_))
    rintro ⟨h1, h2, h3, -⟩
    exact h.elim (· h1) fun h => h.elim (Nat.not_lt.mpr h2) (not_lt.mpr h3)
  · exact (lsThermalShutdown_eq tj hinj).trans (congrArg Host.Outcome.next (if_neg (not_le.mpr h)))
  · have hexec := (lsThermalShutdown_eq (ch := ch) (us := us) tj hinj).trans (congrArg Host.Outcome.next (if_pos h))
    obtain ⟨f, hf, hhot, hshut, happ⟩ := thermalShutdown_chan (t := usNow s us) tj hlt hinj
    refine ⟨_, hexec, hf.away, onlyIn_mono (frame_execLsThermalShutdown ch us tj s _ hexec) rfl, by rw [hf.at hlt]; exact hhot,
      by rw [hf.at hlt]; exact hshut, by rw [hf.at hlt]; exact happ, fun hst hlim => ?_, fun hst hlim => ?_, fun hst => ?_⟩
    · obtain ⟨hon, hpres⟩ := thermalShutdown_own (t := usNow s us) tj hinj hst hlim
      exact ⟨by rw [hon.at hlt]; rfl, by rw [hon.at hlt]; rfl, hpres⟩
    · obtain ⟨hon, hpres⟩ := thermalShutdown_coupled (t := usNow s us) tj hinj hst hlim
      obtain ⟨-, -, -, hcool, hlatch⟩ := coupledOff_kept
        ((lsChan s ch).coupled.filter (fun x => decide (s.clk.ms < x + 60000)) ++ [s.clk.ms]) (shutDown tj (lsChan s ch))
      rw [List.length_append, List.length_singleton] at hcool hlatch
      refine ⟨hpres, fun hn => ?_, fun hn => ?_⟩ <;> rw [hon.at hlt]
      · exact hcool (Nat.add_lt_add_right hn 1)
      · exact hlatch (Nat.add_le_add_right hn 1)
    · rw [(thermalShutdown_start (t := usNow s us) tj hlt hinj hst).at hlt]
      exact (attemptFailed_st (lsChan s ch).retries (shutDown tj (lsChan s ch))).1
  · exact (lsJunctionCooled_eq tj).trans (congrArg Host.Outcome.next (if_neg (not_le.mpr h)))
  · exact (lsJunctionCooled_eq tj).trans (congrArg Host.Outcome.next ((if_pos h).trans (if_neg h')))
  · have hexec := (lsJunctionCooled_eq (ch := ch) (us := us) (s := s) tj).trans (congrArg Host.Outcome.next ((if_pos h).trans (if_pos h')))
    obtain ⟨f, hf, hhot, hgone, hreq, hoff⟩ := cooled_chan (s := s) (ch := ch) (t := usNow s us) tj
    exact ⟨_, hexec, hf.away, onlyIn_mono (frame_execLsJunctionCooled ch us tj s _ hexec) rfl, by rw [hf.at hlt]; exact hhot, hgone,
      by rw [hf.at hlt]; exact hreq, by rw [hf.at hlt]; exact hoff⟩
  · refine (demagEnd_eq out ma clamp hinj).trans (congrArg Host.Outcome.next (if_neg ?_))
    rintro ⟨h1, h2, h3⟩
    exact h.elim (· h1) fun h => h.elim (not_le.mpr h2) (Nat.not_le.mpr h3)
  · exact congrArg Host.Outcome.next (if_neg (Bool.eq_false_iff.mp h))
  · refine (lsOffstateDiag_eq v1 v2).trans (congrArg Host.Outcome.next (if_neg ?_))
    rintro ⟨h1, h2⟩
    exact h.elim (· h1) (· h2)
  · exact congrArg Host.Outcome.next (if_neg h)
  · have hexec := (lsOpenLoadOnstate_eq ma ms hinj h).trans (congrArg Host.Outcome.next (if_pos ⟨h', h''⟩))
    have hon := (onLs_updLs ch (fun c => { c with openLoad := true, cause := 4 }) s).told (told_beginCond detOpenLoadOnState (ch + 1) ma _)
    exact ⟨_, hexec, hon.away, onlyIn_mono (frame_execLsOpenLoadOnstate ch ma ms s _ hexec) rfl, hon.at hlt, isPresent_begun _ _ _ _⟩
  · have hexec := (lsOpenLoadOnstate_eq ma ms hinj h).trans (congrArg Host.Outcome.next ((if_neg fun hc => by omega).trans (if_pos ⟨h', h''⟩)))
    have hon := (onLs_updLs ch (fun c => { c with openLoad := false, cause := 0 }) s).told (told_detect detOpenLoadOnState (ch + 1) false 0 _)
    exact ⟨_, hexec, hon.away, onlyIn_mono (frame_execLsOpenLoadOnstate ch ma ms s _ hexec) rfl, hon.at hlt, isPresent_detect _ _ _ _ _⟩
  · intro tot mean
    obtain ⟨t, hexec, htold, hagg, hrate⟩ := dissipationEstimate_leaves m ch hlen hinj
    have hchan := (lsChan_congr htold.ls ch).trans (estimated_chan m hlt)
    obtain ⟨hmw, hclamp, hvbat, habove, hbelow⟩ := estimated_ls m s
    rw [hmw] at habove hbelow
    refine ⟨t, hexec, onlyIn_mono (frame_execDissipationEstimate m s t hexec) rfl, by rw [htold.ls, hmw], by rw [htold.ls, hclamp],
      by rw [htold.ls, hvbat], by rw [hchan], by rw [hchan], ?_, ?_, hagg, hrate⟩
    · rw [htold.ls, habove]
      split
      · next h => rw [decide_eq_true h]; split <;> simp_all
      · next h => rw [decide_eq_false h]; rfl
    · rw [htold.ls, hbelow]
      split
      · next h => rw [decide_eq_true h]; split <;> simp_all
      · next h => rw [decide_eq_false h]; rfl
  · refine (loadRestore_eq hb hlast).trans (congrArg Host.Outcome.next (if_neg ?_))
    rintro ⟨h1, h2⟩
    exact h.elim (Bool.eq_false_iff.mp · h1) (Bool.eq_false_iff.mp · h2)
  · exact (budgetExceeded_eq hinj ha).trans (congrArg Host.Outcome.next (if_pos ⟨h, h', h''⟩))
  · rcases h with h | h
    · exact budgetExceeded_none h
    · cases ha : s.ls.above with
      | none => exact budgetExceeded_none ha
      | some a => exact (budgetExceeded_eq hinj ha).trans (congrArg Host.Outcome.next (if_neg fun hc => absurd hc.1 (Nat.not_lt.mpr h)))
  · obtain ⟨r, hexec⟩ := onTestEnd_some (us := us) peak hb
    exact hexec.trans (congrArg Host.Outcome.next (if_neg (Nat.not_le.mpr h)))

end Sys2Proof.Proofs
end

section
/-!
PROOFS. The receiver: antennas, channels, paths and the time solution (R220 to R237).
-/

namespace Sys2Proof.Proofs

open Sys2Proof.Machine Sys2Proof.Safety

theorem Told.gn {s t : State} (h : Told s t) : t.gn = s.gn := h.frame .gn (by decide)

/-! ### One antenna changed (R221) -/

/-- The antennas are as in `s`, but for `ant`, which `f` changed; module time is as in `s`. -/
structure OnAnt (ant : Nat) (f : Antenna → Antenna) (s t : State) : Prop where
  ants : t.gn.ants = updAt s.gn.ants ant f
  time : t.gn.time = s.gn.time

theorem onAnt_updAnt (ant : Nat) (f : Antenna → Antenna) (s : State) : OnAnt ant f s (updAnt ant f s) := ⟨rfl, rfl⟩

theorem OnAnt.told {ant : Nat} {f : Antenna → Antenna} {s t u : State} (h : OnAnt ant f s t) (ht : Told t u) : OnAnt ant f s u :=
  ⟨(congrArg Gnss.ants ht.gn).trans h.ants, (congrArg Gnss.time ht.gn).trans h.time⟩

theorem OnAnt.drop {ant : Nat} {f : Antenna → Antenna} {s t : State} (h : OnAnt ant f s t) : OnAnt ant f s (dropTracking ant t) :=
  ⟨h.ants, h.time⟩

theorem OnAnt.trans {ant : Nat} {f g : Antenna → Antenna} {s t u : State} (h : OnAnt ant f s t) (h' : OnAnt ant g t u) : OnAnt ant (g ∘ f) s u :=
  ⟨by rw [h'.ants, h.ants]; exact List.modify_modify_eq f g ant _, h'.time.trans h.time⟩

theorem OnAnt.at {ant : Nat} {f : Antenna → Antenna} {s t : State} (h : OnAnt ant f s t) (hlen : ant < s.gn.ants.length) :
    antOf t ant = f (antOf s ant) := by
  rw [antOf, h.ants]
  exact (nth_updAt _ _ _ _ _ hlen).trans (if_pos rfl)

theorem OnAnt.others {ant : Nat} {f : Antenna → Antenna} {s t : State} (h : OnAnt ant f s t) (j : Nat) (hj : j ≠ ant) : antOf t j = antOf s j := by
  rw [antOf, h.ants]
  exact nth_updAt_ne _ _ _ hj.symm

theorem told_antClear (ant : Nat) (s : State) : Told s (antClear ant s) :=
  told_step (told_detect _ _ _ _ _) (told_step (told_detect _ _ _ _ _) (told_detect _ _ _ _ _))

/-- Table 8-1: an antenna in SHORT. -/
def shorted (s : State) (a : Antenna) : Antenna := { a with st := .short, since := s.clk.ms, trial := 0, count := 0 }

theorem onAnt_antShort (ant data : Nat) (s : State) : OnAnt ant (shorted s) s (antShort ant data s) :=
  (onAnt_updAnt ant (shorted s) s).drop.told (told_beginCond _ _ _ _)

theorem dropTracking_chans (ant : Nat) (s : State) : ∀ c ∈ (dropTracking ant s).gn.chans, c.ant ≠ ant := by
  intro c hc
  simpa using (List.mem_filter.mp hc).2

/-- What tells of a drop keeps the drop. -/
theorem Told.dropped {ant : Nat} {s t : State} (h : Told (dropTracking ant s) t) : ∀ c ∈ t.gn.chans, c.ant ≠ ant := by
  rw [h.gn]
  exact dropTracking_chans ant s

theorem antShort_dropped (ant data : Nat) (s : State) : ∀ c ∈ (antShort ant data s).gn.chans, c.ant ≠ ant :=
  Told.dropped (s := updAnt ant (fun a => { a with st := .short, since := s.clk.ms, trial := 0, count := 0 }) s) (told_beginCond _ _ _ _)

section
variable {ant : Nat} {s : State}

/-- The antenna with its sample. -/
def antMeasured (ant ma : Nat) (s : State) : State := updAnt ant (fun a => { a with ma }) s

theorem antSample_unbiased (ma mv : Nat) (h : biasMv s ant = 0) : antSample ant ma mv s =
    antClear ant (updAnt ant (fun a => { a with st := .off, count := 0, trial := 0 }) (antMeasured ant ma s)) := by
  simp only [antSample, h, if_true]
  rfl

theorem antSample_off (ma mv : Nat) (h : biasMv s ant ≠ 0) (hst : (antOf s ant).st = .off) :
    antSample ant ma mv s = updAnt ant (fun a => { a with st := .ok, count := 0 }) (antMeasured ant ma s) := by
  simp only [antSample, h, if_false, hst]
  rfl

/-- Whether a sample puts an antenna into SHORT. -/
def AntBad (s : State) (ant ma mv : Nat) : Prop := 120 < ma ∨ 10 * mv < 7 * biasMv s ant

theorem antBad_iff (ma mv : Nat) : (decide (120 < (ma : Int)) || decide (10 * mv < 7 * biasMv s ant)) = true ↔ AntBad s ant ma mv := by
  rw [Bool.or_eq_true, decide_eq_true_eq, decide_eq_true_eq, AntBad]
  exact or_congr (by omega) Iff.rfl

theorem antSample_bad (ma mv : Nat) (hinj : s.ev.injs = []) (h : biasMv s ant ≠ 0) (hst : (antOf s ant).st = .ok ∨ (antOf s ant).st = .opened)
    (hbad : AntBad s ant ma mv) : antSample ant ma mv s = antShort ant ma (antMeasured ant ma s) := by
  have hc := (antBad_iff ma mv).mpr hbad
  simp only [antSample, measured_of_noInjs hinj, h, if_false, hc, if_true, Int.toNat_natCast]
  rcases hst with h | h <;> simp only [h] <;> rfl

theorem antSample_ok (ma mv : Nat) (hinj : s.ev.injs = []) (h : biasMv s ant ≠ 0) (hst : (antOf s ant).st = .ok) (hgood : ¬AntBad s ant ma mv) :
    antSample ant ma mv s = if ma < 5 then
        if 99 ≤ (antOf s ant).count then beginCond detAntennaOpen (ant + 1) ma
          (dropTracking ant (updAnt ant (fun a => { a with st := .opened, count := 0 }) (antMeasured ant ma s)))
        else updAnt ant (fun a => { a with count := a.count + 1 }) (antMeasured ant ma s)
      else updAnt ant (fun a => { a with count := 0 }) (antMeasured ant ma s) := by
  have hc := mt (antBad_iff ma mv).mp hgood
  have hlow : ((ma : Int) < 5) = (ma < 5) := propext (by omega)
  rw [antSample]
  simp only [measured_of_noInjs hinj, h, if_false, hst, if_neg hc, Int.toNat_natCast, hlow]
  rfl

theorem antSample_short (ma mv : Nat) (h : biasMv s ant ≠ 0) (hst : (antOf s ant).st = .short) (htrial : (antOf s ant).trial = 0) :
    antSample ant ma mv s = antMeasured ant ma s := by
  simp only [antSample, h, if_false, hst, htrial, if_true]
  rfl

/-- Whatever a sample does, it measures its antenna and leaves the other. -/
theorem antSample_onAnt (ant ma mv : Nat) (s : State) : ∃ f, OnAnt ant f s (antSample ant ma mv s) ∧ ∀ a, (f a).ma = ma := by
  have hm : OnAnt ant (fun a => { a with ma }) s (antMeasured ant ma s) := ⟨rfl, rfl⟩
  have hshort (data : Nat) := hm.trans (onAnt_antShort ant data (antMeasured ant ma s))
  have hupd (f : Antenna → Antenna) := hm.trans (onAnt_updAnt ant f (antMeasured ant ma s))
  unfold antSample
  extract_lets set s1 vs vo bad a
  split
  · exact ⟨_, (hupd _).told (told_antClear _ _), fun _ => rfl⟩
  split
  · exact ⟨_, hupd _, fun _ => rfl⟩
  · split
    · exact ⟨_, hshort _, fun _ => rfl⟩
    split
    · split
      · exact ⟨_, (hupd _).drop.told (told_beginCond _ _ _ _), fun _ => rfl⟩
      · exact ⟨_, hupd _, fun _ => rfl⟩
    · exact ⟨_, hupd _, fun _ => rfl⟩
  · split
    · exact ⟨_, hshort _, fun _ => rfl⟩
    split
    · split
      · exact ⟨_, (hupd _).told (told_antClear _ _), fun _ => rfl⟩
      · exact ⟨_, hupd _, fun _ => rfl⟩
    · exact ⟨_, hupd _, fun _ => rfl⟩
  · split
    · exact ⟨_, hm, fun _ => rfl⟩
    split
    · exact ⟨_, hshort _, fun _ => rfl⟩
    split
    · exact ⟨_, (hupd _).told (told_antClear _ _), fun _ => rfl⟩
    · exact ⟨_, hupd _, fun _ => rfl⟩
  · exact ⟨_, hm, fun _ => rfl⟩

end

/-! ### Allocation (R224) -/

theorem allocAnt_length (ant n : Nat) (wanted : List (Nat × Nat × Nat)) (old : List TrackChan) : (allocAnt ant n wanted old).length ≤ n := by
  simp only [allocAnt, List.length_append, List.length_take]
  omega

theorem allocAnt_ant {ant n : Nat} {wanted : List (Nat × Nat × Nat)} {old : List TrackChan} {c : TrackChan} (h : c ∈ allocAnt ant n wanted old) :
    c.ant = ant := by
  rcases List.mem_append.mp h with h | h
  · obtain ⟨w, -, rfl⟩ := List.mem_map.mp (List.mem_of_mem_take h)
    cases hf : old.find? (fun c => c.ant == ant && c.sys == w.1 && c.sat == w.2.1 && c.sig == w.2.2) with
    | none => rfl
    | some d =>
      have hd := List.find?_some hf
      simp only [Bool.and_eq_true, beq_iff_eq] at hd
      exact hd.1.1.1
  · have hc := (List.mem_filter.mp (List.mem_of_mem_take h)).2
    simp only [Bool.and_eq_true, beq_iff_eq] at hc
    exact hc.1

/-- The channels that an antenna gets: none unless it is OK. -/
theorem allocIf_ant {ok : Prop} [Decidable ok] {ant n : Nat} {wanted : List (Nat × Nat × Nat)} {old : List TrackChan} {c : TrackChan}
    (h : c ∈ (if ok then allocAnt ant n wanted old else [])) : c.ant = ant ∧ ok := by
  split at h
  · next hok => exact ⟨allocAnt_ant h, hok⟩
  · cases h

theorem allocIf_length (ok : Prop) [Decidable ok] (ant n : Nat) (wanted : List (Nat × Nat × Nat)) (old : List TrackChan) :
    (if ok then allocAnt ant n wanted old else []).length ≤ n := by
  split
  · exact allocAnt_length _ _ _ _
  · exact Nat.zero_le _

/-! ### Time solutions (R237) -/

theorem told_holdoverOver (s : State) : Told s (holdoverOver s) := told_step (told_detect _ _ _ _ _) (told_detect _ _ _ _ _)

/-- What the edges on PPSI have left in module time. -/
def ppsiOf (t : TimeState) : Nat × Nat × Option Nat × Bool := (t.ppsiFrame, t.ppsiCycle, t.ppsiAt, t.ppsiSeen)

/-- What an accepted time solution sets in any state of module time; nothing of the receiver but the time changes. -/
structure TimeAccepted (source : Nat) (g : Int) (unc : Nat) (s t : State) : Prop where
  gn : t.gn = { s.gn with time := t.gn.time }
  lastAccept : t.gn.time.lastAccept = some s.clk.ms
  source : t.gn.time.source = source
  meas : t.gn.time.meas = g * 100
  unc : t.gn.time.unc = unc
  refMsg : t.gn.time.refMsg = s.gn.time.refMsg
  leap : t.gn.time.leap = s.gn.time.leap
  ppsi : ppsiOf t.gn.time = ppsiOf s.gn.time
  present : ∀ code inst, code ≠ detHoldover → code ≠ detTimeDegraded → isPresent t code inst = isPresent s code inst

/-- A change of what an acceptance does not set. -/
theorem TimeAccepted.updTime {source unc : Nat} {g : Int} {s t : State} (h : TimeAccepted source g unc s t) {f : TimeState → TimeState}
    (hf : ∀ u, (f u).lastAccept = u.lastAccept ∧ (f u).source = u.source ∧ (f u).meas = u.meas ∧ (f u).unc = u.unc ∧ (f u).refMsg = u.refMsg ∧
      (f u).leap = u.leap ∧ ppsiOf (f u) = ppsiOf u) : TimeAccepted source g unc s (updTime f t) := by
  obtain ⟨ha, hs, hm, hu, hr, hl, hp⟩ := hf t.gn.time
  refine ⟨?_, ha.trans h.lastAccept, hs.trans h.source, hm.trans h.meas, hu.trans h.unc, hr.trans h.refMsg, hl.trans h.leap, hp.trans h.ppsi, h.present⟩
  exact congrArg (fun x : Gnss => { x with time := f t.gn.time }) h.gn

theorem TimeAccepted.congr {source unc : Nat} {g : Int} {s t u : State} (h : TimeAccepted source g unc s t) (hgn : u.gn = t.gn)
    (hpres : ∀ code inst, code ≠ detHoldover → code ≠ detTimeDegraded → isPresent u code inst = isPresent t code inst) : TimeAccepted source g unc s u :=
  ⟨by rw [hgn]; exact h.gn, hgn ▸ h.lastAccept, hgn ▸ h.source, hgn ▸ h.meas, hgn ▸ h.unc, hgn ▸ h.refMsg, hgn ▸ h.leap, hgn ▸ h.ppsi,
    fun code inst h1 h2 => (hpres code inst h1 h2).trans (h.present code inst h1 h2)⟩

theorem isPresent_holdoverOver {code : Nat} (inst : Nat) (s : State) (h1 : code ≠ detHoldover) (h2 : code ≠ detTimeDegraded) :
    isPresent (holdoverOver s) code inst = isPresent s code inst :=
  (isPresent_detect_other (.inl h2.symm) _ _ _).trans (isPresent_detect_other (.inl h1.symm) _ _ _)

theorem timeAccepted_acceptTime (source : Nat) (g : Int) (unc freqUnc : Nat) (s : State) :
    TimeAccepted source g unc s (acceptTime source g unc freqUnc s) := by
  unfold acceptTime
  extract_lets m n base t o s1
  have h1 : TimeAccepted source g unc s s1 := ⟨rfl, rfl, rfl, rfl, rfl, rfl, rfl, rfl, fun _ _ _ _ => rfl⟩
  have hlocked (held : Int) := h1.updTime (f := fun t => { t with st := .locked, held := held }) fun _ => ⟨rfl, rfl, rfl, rfl, rfl, rfl, rfl⟩
  have hslewed := h1.updTime (f := fun t => { t with st := .locked, held := m, slewing := false }) fun _ => ⟨rfl, rfl, rfl, rfl, rfl, rfl, rfl⟩
  have hback : TimeAccepted source g unc s (if o.natAbs < 10000000 then holdoverOver (updTime (fun t => { t with st := .recovering }) s1)
      else if t.step.isSome then s1 else updTime (fun t => { t with step := some (Int.tdiv o 100000), stepAt := 0 }) s1) := by
    split
    · exact (h1.updTime (f := fun t => { t with st := .recovering }) fun _ => ⟨rfl, rfl, rfl, rfl, rfl, rfl, rfl⟩).congr (told_holdoverOver _).gn
        fun _ inst h h' => isPresent_holdoverOver inst _ h h'
    split
    · exact h1
    · exact h1.updTime fun _ => by exact ⟨rfl, rfl, rfl, rfl, rfl, rfl, rfl⟩
  split
  · split
    · exact hlocked m
    · split
      · exact hslewed.congr rfl fun _ _ _ _ => rfl
      · exact h1
  · exact h1.updTime fun _ => by exact ⟨rfl, rfl, rfl, rfl, rfl, rfl, rfl⟩
  · exact hback
  · exact hback
  · split
    · exact hlocked m
    · exact h1

end Sys2Proof.Proofs
end

section
/-!
PROOFS. Antennas, tracking, epochs and solutions run (R220 to R232; O41).
-/

namespace Sys2Proof.Proofs

open Sys2Proof.Machine Sys2Proof.Safety

section
variable {s : State}

/-! ### Antennas (R221) -/

theorem antennaBiasSample_cases (ant : Fin 2) (ma mv : Nat) (hinj : s.ev.injs = []) (hants : s.gn.ants.length = 2) :
    ∃ t, exec (.antennaBiasSample ant ma mv) s = .next t ∧ onlyIn (.gn :: tells) s t ∧ (∀ j : Nat, j ≠ ant.val → antOf t j = antOf s j) ∧
      (antOf t ant).ma = ma ∧ t.gn.time = s.gn.time ∧
      (biasMv s ant = 0 → (antOf t ant).st = .off) ∧
      (biasMv s ant ≠ 0 → ((antOf s ant).st = .ok ∨ (antOf s ant).st = .opened) → (120 < ma ∨ 10 * mv < 7 * biasMv s ant) →
        (antOf t ant).st = .short ∧ (antOf t ant).since = s.clk.ms ∧ (∀ c ∈ t.gn.chans, c.ant ≠ ant.val) ∧
        isPresent t detAntennaShort (ant.val + 1) = true) ∧
      (biasMv s ant ≠ 0 → (antOf s ant).st = .ok → ma ≤ 120 → 7 * biasMv s ant ≤ 10 * mv →
        (ma < 5 → 99 ≤ (antOf s ant).count → (antOf t ant).st = .opened ∧ isPresent t detAntennaOpen (ant.val + 1) = true) ∧
        (ma < 5 → (antOf s ant).count < 99 → (antOf t ant).st = .ok ∧ (antOf t ant).count = (antOf s ant).count + 1) ∧
        (5 ≤ ma → (antOf t ant).st = .ok ∧ (antOf t ant).count = 0)) ∧
      (biasMv s ant ≠ 0 → (antOf s ant).st = .off → (antOf t ant).st = .ok) ∧
      (biasMv s ant ≠ 0 → (antOf s ant).st = .short → (antOf s ant).trial = 0 → (antOf t ant).st = .short) := by
  obtain ⟨f, hf, hma⟩ := antSample_onAnt ant ma mv s
  have hlt : (ant : Nat) < s.gn.ants.length := ant.isLt.trans_eq hants.symm
  have hm : OnAnt ant (fun a => { a with ma }) s (antMeasured ant ma s) := ⟨rfl, rfl⟩
  have hupd (g : Antenna → Antenna) := hm.trans (onAnt_updAnt ant g (antMeasured ant ma s))
  refine ⟨_, rfl, onlyIn_mono (frame_execAntennaBiasSample ant ma mv s _ rfl) rfl, hf.others, by rw [hf.at hlt]; exact hma _, hf.time,
    fun h => ?_, fun h hst hbad => ?_, fun h hst hlow hhigh => ?_, fun h hst => ?_, fun h hst htrial => ?_⟩
  · rw [antSample_unbiased ma mv h, ((hupd _).told (told_antClear _ _)).at hlt]
    rfl
  · rw [antSample_bad ma mv hinj h hst hbad, (hm.trans (onAnt_antShort ant ma _)).at hlt]
    exact ⟨rfl, rfl, antShort_dropped ant ma _, isPresent_begun _ _ _ _⟩
  · have hgood : ¬AntBad s ant ma mv := fun hb => hb.elim (Nat.not_lt.mpr hlow) (Nat.not_lt.mpr hhigh)
    rw [antSample_ok ma mv hinj h hst hgood]
    refine ⟨fun h5 h99 => ?_, fun h5 h99 => ?_, fun h5 => ?_⟩
    · rw [if_pos h5, if_pos h99, ((hupd _).drop.told (told_beginCond _ _ _ _)).at hlt]
      exact ⟨rfl, isPresent_begun _ _ _ _⟩
    · rw [if_pos h5, if_neg (Nat.not_le.mpr h99), (hupd _).at hlt]
      exact ⟨hst, rfl⟩
    · rw [if_neg (Nat.not_lt.mpr h5), (hupd _).at hlt]
      exact ⟨hst, rfl⟩
  · rw [antSample_off ma mv h hst, (hupd _).at hlt]
    rfl
  · rw [antSample_short ma mv h hst htrial, hm.at hlt]
    exact hst

theorem antennaShortRetry_eq (ant : Fin 2) : exec (.antennaShortRetry ant) s =
    .next (if (antOf s ant).st = .short ∧ (antOf s ant).since + 10000 ≤ s.clk.ms then antTrial ant s else s) := by
  show execAntennaShortRetry ant s = _
  simp only [execAntennaShortRetry, elapsed, Bool.and_eq_true, decide_eq_true_eq]

theorem antennaOvervoltage_eq (ant : Fin 2) (mv ms : Nat) (hinj : s.ev.injs = []) : exec (.antennaOvervoltage ant mv ms) s =
    .next (if biasMv s ant + 1000 ≤ mv then beginCond detAntennaOvervoltage (ant + 1) 0
        (dropTracking ant (updAnt ant (fun a => { a with st := .overvolt, count := 0, trial := 0 }) s))
      else if (antOf s ant).st = .overvolt ∧ mv ≤ biasMv s ant ∧ 1000 ≤ ms then
        antClear ant (updAnt ant (fun a => { a with st := if biasMv s ant = 0 then .off else .ok }) s)
      else s) := by
  show execAntennaOvervoltage ant mv ms s = _
  simp only [execAntennaOvervoltage, forced_of_noInjs hinj, Bool.or_false, Bool.and_eq_true, decide_eq_true_eq, and_assoc]

theorem antennaOvervoltage_opens (ant : Fin 2) (mv ms : Nat) (hinj : s.ev.injs = []) (hants : s.gn.ants.length = 2) (h : biasMv s ant + 1000 ≤ mv) :
    ∃ t, exec (.antennaOvervoltage ant mv ms) s = .next t ∧ (antOf t ant).st = .overvolt ∧ (∀ c ∈ t.gn.chans, c.ant ≠ ant.val) ∧
      isPresent t detAntennaOvervoltage (ant.val + 1) = true ∧ (∀ j : Nat, j ≠ ant.val → antOf t j = antOf s j) ∧ onlyIn (.gn :: tells) s t := by
  have hexec := (antennaOvervoltage_eq ant mv ms hinj).trans (congrArg Host.Outcome.next (if_pos h))
  have htold := told_beginCond detAntennaOvervoltage (ant + 1) 0
    (dropTracking ant (updAnt ant (fun a => { a with st := .overvolt, count := 0, trial := 0 }) s))
  have hon := (onAnt_updAnt ant (fun a => { a with st := .overvolt, count := 0, trial := 0 }) s).drop.told htold
  exact ⟨_, hexec, by rw [hon.at (ant.isLt.trans_eq hants.symm)], htold.dropped, isPresent_begun _ _ _ _, hon.others,
    onlyIn_mono (frame_execAntennaOvervoltage ant mv ms s _ hexec) rfl⟩

theorem antennaOvervoltage_closes (ant : Fin 2) (mv ms : Nat) (hinj : s.ev.injs = []) (hants : s.gn.ants.length = 2) (h : mv ≤ biasMv s ant)
    (hms : 1000 ≤ ms) (hst : (antOf s ant).st = .overvolt) :
    ∃ t, exec (.antennaOvervoltage ant mv ms) s = .next t ∧ (antOf t ant).st = (if biasMv s ant = 0 then AntSt.off else AntSt.ok) ∧
      isPresent t detAntennaOvervoltage (ant.val + 1) = false ∧ (∀ j : Nat, j ≠ ant.val → antOf t j = antOf s j) ∧ onlyIn (.gn :: tells) s t := by
  have hexec := (antennaOvervoltage_eq ant mv ms hinj).trans
    (congrArg Host.Outcome.next ((if_neg fun hc => by omega).trans (if_pos ⟨hst, h, hms⟩)))
  have hon := (onAnt_updAnt ant (fun a => { a with st := if biasMv s ant = 0 then .off else .ok }) s).told (told_antClear ant _)
  exact ⟨_, hexec, by rw [hon.at (ant.isLt.trans_eq hants.symm)], isPresent_detect _ _ _ _ _, hon.others,
    onlyIn_mono (frame_execAntennaOvervoltage ant mv ms s _ hexec) rfl⟩

/-! ### Tracking, search and interference (R223 to R227) -/

theorem getElem?_updAt_self {α : Type} {l : List α} {i : Nat} {a : α} (f : α → α) (h : l[i]? = some a) : (updAt l i f)[i]? = some (f a) := by
  rw [getElem?_updAt, h]
  simp

theorem getElem?_updAt_ne {α : Type} (l : List α) {i k : Nat} (f : α → α) (h : k ≠ i) : (updAt l i f)[k]? = l[k]? := by
  rw [getElem?_updAt]
  simp [h.symm]

theorem trackingLoopUpdate_channel (ch : Fin 128) (synced : Bool) {c : TrackChan} (hc : s.gn.chans[ch.val]? = some c) :
    ∃ t, exec (.trackingLoopUpdate ch synced) s = .next t ∧ onlyIn [.gn, .free] s t ∧
      (∃ d, t.gn.chans[ch.val]? = some d ∧ d.synced = synced ∧ d.ant = c.ant ∧ d.sys = c.sys ∧ d.sat = c.sat ∧ d.sig = c.sig) ∧
      (∀ k : Nat, k ≠ ch.val → t.gn.chans[k]? = s.gn.chans[k]?) := by
  have hlt : (ch : Nat) < s.gn.chans.length := (List.getElem?_eq_some_iff.mp hc).1
  have hexec : exec (.trackingLoopUpdate ch synced) s = .next _ := congrArg Host.Outcome.next (if_pos hlt)
  exact ⟨_, hexec, frame_execTrackingLoopUpdate ch synced s _ hexec, ⟨_, getElem?_updAt_self _ hc, rfl, rfl, rfl, rfl, rfl⟩,
    fun k hk => getElem?_updAt_ne _ _ hk⟩

/-- R224: the channels of an allocation, by antenna. -/
def allocated (cands : List SatCand) (s : State) : List TrackChan × List TrackChan :=
  let n := min 128 (paramN s pGnChAntA)
  let w := wantedSignals s cands
  let a := if (antOf s 0).st = .ok then allocAnt 0 n w s.gn.chans else []
  let has := fun (x : Nat × Nat × Nat) => a.any (fun c => c.sys == x.1 && c.sat == x.2.1)
  let wb := w.filter has ++ w.filter (fun x => !has x)
  (a, if (antOf s 1).st = .ok then allocAnt 1 (128 - n) wb s.gn.chans else [])

theorem channelAllocation_eq (cands : List SatCand) : exec (.channelAllocation cands) s =
    .next (updGn (fun g => { g with chans := (allocated cands s).1 ++ (allocated cands s).2, cands := cands }) s) := rfl

theorem allocated_limits (cands : List SatCand) :
    ((allocated cands s).1 ++ (allocated cands s).2).length ≤ 128 ∧
    (((allocated cands s).1 ++ (allocated cands s).2).filter (fun c => c.ant == 0)).length ≤ min 128 (paramN s pGnChAntA) ∧
    (∀ k : Fin 2, (antOf s k).st ≠ .ok → ∀ c ∈ (allocated cands s).1 ++ (allocated cands s).2, c.ant ≠ k.val) := by
  have hlen1 : (allocated cands s).1.length ≤ min 128 (paramN s pGnChAntA) := allocIf_length _ _ _ _ _
  have hlen2 : (allocated cands s).2.length ≤ 128 - min 128 (paramN s pGnChAntA) := allocIf_length _ _ _ _ _
  have hant1 : ∀ c ∈ (allocated cands s).1, c.ant = 0 ∧ (antOf s 0).st = .ok := fun c hc => allocIf_ant hc
  have hant2 : ∀ c ∈ (allocated cands s).2, c.ant = 1 ∧ (antOf s 1).st = .ok := fun c hc => allocIf_ant hc
  refine ⟨?_, ?_, fun k hk c hc => ?_⟩
  · rw [List.length_append]
    omega
  · have hnone : (allocated cands s).2.filter (fun c => c.ant == 0) = [] :=
      List.filter_eq_nil_iff.mpr fun c hc => by simp [(hant2 c hc).1]
    rw [List.filter_append, hnone, List.append_nil]
    exact (List.length_filter_le _ _).trans hlen1
  · intro hck
    rw [← hck] at hk
    rcases List.mem_append.mp hc with hc | hc
    · obtain ⟨ha, hok⟩ := hant1 c hc
      rw [ha] at hk
      exact hk hok
    · obtain ⟨ha, hok⟩ := hant2 c hc
      rw [ha] at hk
      exact hk hok

section
variable {eng : Fin 4} {ant : Fin 2} {sys sat : Nat} {e : SearchEng}

/-- A search engine at work on its target. -/
theorem engine_eq (he : s.gn.engines[eng.val]? = some e) : nth s.gn.engines eng ⟨none, 0, false⟩ = e := by
  simp only [nth, List.getD_eq_getElem?_getD, he, Option.getD_some]

theorem searchDwellDone_missed (he : s.gn.engines[eng.val]? = some e) (ht : e.target = some (ant.val, sys, sat)) :
    exec (.searchDwellDone eng ant sys sat false) s = .next { s with gn := { s.gn with
      engines := updAt s.gn.engines eng (fun _ => { e with confirming := false, cell := e.cell + 1 }) } } := by
  show execSearchDwellDone eng ant sys sat false s = _
  simp only [execSearchDwellDone, engine_eq he, ht, if_true, Bool.false_eq_true, if_false]
  rfl

theorem searchDwellDone_first (he : s.gn.engines[eng.val]? = some e) (ht : e.target = some (ant.val, sys, sat)) (hc : e.confirming = false) :
    exec (.searchDwellDone eng ant sys sat true) s = .next { s with gn := { s.gn with
      engines := updAt s.gn.engines eng (fun _ => { e with confirming := true }) } } := by
  show execSearchDwellDone eng ant sys sat true s = _
  simp only [execSearchDwellDone, engine_eq he, ht, if_true, hc, Bool.false_eq_true, if_false]
  rfl

theorem searchDwellDone_second (he : s.gn.engines[eng.val]? = some e) (ht : e.target = some (ant.val, sys, sat)) (hc : e.confirming = true)
    (hok : (antOf s ant).st = .ok) (hroom : (s.gn.chans.filter (fun c => c.ant == ant.val)).length <
      (if ant.val = 0 then min 128 (paramN s pGnChAntA) else 128 - min 128 (paramN s pGnChAntA))) :
    ∃ t, exec (.searchDwellDone eng ant sys sat true) s = .next t ∧ onlyIn [.gn] s t ∧ t.gn.chans = s.gn.chans ++ [⟨ant, sys, sat, 0, false, 0, 0⟩] := by
  have hexec : exec (.searchDwellDone eng ant sys sat true) s = .next (updGn (fun g => { g with chans := g.chans ++ [⟨ant, sys, sat, 0, false, 0, 0⟩] })
      (updGn (fun g => { g with engines := updAt g.engines eng (fun _ => ⟨none, 0, false⟩) }) s)) := by
    show execSearchDwellDone eng ant sys sat true s = _
    simp only [execSearchDwellDone, engine_eq he, ht, if_true, hc, hok, decide_eq_true hroom, beq_self_eq_true, Bool.and_self]
  exact ⟨_, hexec, frame_execSearchDwellDone eng ant sys sat true s _ hexec, rfl⟩

end

/-- R226, R227: a path after a monitor's 100 ms. -/
def monitored (thresh : Nat) (ns : List (Int × Nat) × Bool) (agc : Int) (p : BandPath) : BandPath :=
  let j := jamIndex agc ns.1.length
  let high := if thresh ≤ j then p.high + 1 else 0
  let low := if thresh ≤ j then 0 else p.low + 1
  ⟨ns.1, ns.2, j, high, low, if 50 ≤ high then true else if 50 ≤ low then false else p.jammed⟩

/-- The receiver with one path monitored. -/
def pathMonitored (path : Nat) (lines : List (Int × Nat)) (agc : Int) (p : BandPath) (s : State) : State :=
  updGn (fun g => { g with paths := updAt g.paths path (fun _ =>
    monitored (paramN s pGnJamThresh) (notchStep lines (paramN s pGnNotchThresh) p.notches) agc p) }) s

theorem notchMonitor_told (path : Fin 4) (lines : List (Int × Nat)) (agc : Int) {p : BandPath} (hinj : s.ev.injs = [])
    (hp : s.gn.paths[path.val]? = some p) : ∃ t, exec (.notchMonitor path lines agc) s = .next t ∧ Told (pathMonitored path lines agc p s) t ∧
      isPresent t detJamming 0 = jammed t := by
  have hp' : nth s.gn.paths path ⟨[], false, 0, 0, 0, false⟩ = p := by simp only [nth, List.getD_eq_getElem?_getD, hp, Option.getD_some]
  have hthr (j : Nat) : ((paramN s pGnJamThresh : Int) ≤ j) = (paramN s pGnJamThresh ≤ j) := propext Int.ofNat_le
  have hexec : exec (.notchMonitor path lines agc) s = .next
      (detect detJamming 0 ((pathMonitored path lines agc p s).gn.paths.any (·.jammed)) (jamIndex agc (notchStep lines (paramN s pGnNotchThresh) p.notches).1.length)
        (detect detNotchCapacity 0 ((pathMonitored path lines agc p s).gn.paths.any (·.full))
          (lines.filter (fun l => decide (paramN s pGnNotchThresh < l.2))).length (pathMonitored path lines agc p s))) := by
    show execNotchMonitor path lines agc s = _
    simp only [execNotchMonitor, hp', measured_of_noInjs hinj, hthr, ne_eq, not_true, false_and, decide_false, Bool.or_false, Int.toNat_natCast]
    rfl
  have htold (c c' : Bool) (d d' : Nat) : Told (pathMonitored path lines agc p s)
      (detect detJamming 0 c d (detect detNotchCapacity 0 c' d' (pathMonitored path lines agc p s))) :=
    told_step (told_detect _ _ _ _ _) (told_detect _ _ _ _ _)
  refine ⟨_, hexec, htold _ _ _ _, ?_⟩
  rw [isPresent_detect, jammed, (htold _ _ _ _).gn]

theorem notchMonitor_cases (path : Fin 4) (lines : List (Int × Nat)) (agc : Int) {p : BandPath} (hinj : s.ev.injs = [])
    (hp : s.gn.paths[path.val]? = some p) :
    let ns := notchStep lines (paramN s pGnNotchThresh) p.notches
    ∃ t, exec (.notchMonitor path lines agc) s = .next t ∧ onlyIn (.gn :: tells) s t ∧
      (∃ q, t.gn.paths[path.val]? = some q ∧ q.notches = ns.1 ∧ q.full = ns.2 ∧ q.j = jamIndex agc ns.1.length ∧
        (paramN s pGnJamThresh ≤ q.j → q.high = p.high + 1 ∧ q.low = 0) ∧ (q.j < paramN s pGnJamThresh → q.high = 0 ∧ q.low = p.low + 1) ∧
        (50 ≤ q.high → q.jammed = true) ∧ (50 ≤ q.low → q.jammed = false)) ∧
      isPresent t detJamming 0 = jammed t := by
  intro ns
  obtain ⟨t, hexec, htold, hjam⟩ := notchMonitor_told path lines agc hinj hp
  refine ⟨t, hexec, onlyIn_mono (frame_execNotchMonitor path lines agc s t hexec) rfl,
    ⟨monitored (paramN s pGnJamThresh) ns agc p, ?_, rfl, rfl, rfl, fun h => ⟨if_pos h, if_pos h⟩, fun h => ⟨if_neg (Nat.not_le.mpr h), if_neg (Nat.not_le.mpr h)⟩,
      fun h => if_pos h, fun h => ?_⟩, hjam⟩
  · rw [htold.gn]
    exact getElem?_updAt_self _ hp
  · have hlow : 50 ≤ (if paramN s pGnJamThresh ≤ jamIndex agc ns.1.length then 0 else p.low + 1) := h
    have hthr : ¬paramN s pGnJamThresh ≤ jamIndex agc ns.1.length := fun hc => by simp [hc] at hlow
    refine (if_neg ?_).trans (if_pos h)
    show ¬50 ≤ (if paramN s pGnJamThresh ≤ jamIndex agc ns.1.length then p.high + 1 else 0)
    rw [if_neg hthr]
    omega

end

end Sys2Proof.Proofs
end

section
/-!
PROOFS. Solutions, dead reckoning and the inertial sensor (R228 to R232), and O41.
-/

namespace Sys2Proof.Proofs

open Sys2Proof.Machine Sys2Proof.Safety

theorem Told.param {s t : State} (h : Told s t) (id : Nat) : param t id = param s id := by
  rw [Machine.param, Machine.param, h.settings, h.work, show t.rs = s.rs from h.frame .rs (by decide)]

section
variable {s : State}

/-! ### Corrections (R230) -/

theorem correctionsStale_eq {l : Nat} (hinj : s.ev.injs = []) (hl : s.gn.rtcm.lastMsm = some l) : exec .correctionsStale s =
    .next (if l + paramN s pGnRtkAgeMax ≤ s.clk.ms then
      beginCond detCorrectionsStale 0 0 (updGn (fun g => { g with rtcm := { g.rtcm with stale := true } }) s) else s) := by
  show execCorrectionsStale s = _
  simp only [execCorrectionsStale, hl, forced_of_noInjs hinj, Bool.or_false, elapsed, decide_eq_true_eq]

/-! ### Epochs (R228, R229, R237) -/

theorem told_offsetStep (new : Option Int) (old : Option (Int × Nat)) (s : State) : Told s (offsetStep new old s).2 := by
  cases new with
  | none => exact .refl s
  | some v => exact told_ite (told_happen _ _ _ _) (.refl s)

/-- R228: the receiver with the epoch's measurements. -/
def epochTaken (fix : NavFix) (s : State) : State :=
  let a := offsetStep fix.gal s.gn.gal s
  let b := offsetStep fix.bds a.2.gn.bds a.2
  let bad := fix.baseFixed && decide (paramN s pGnBaselineTol < ((fix.baseLen : Int) - paramN s pGnBaseline).natAbs)
  updGn (fun g => { g with
    epoch := some (s.clk.frame, fix), gal := a.1, bds := b.1, tracked := fix.tracked, gyroBias := fix.gyroBias, accBias := fix.accBias
    baseLen := if fix.baseFixed then fix.baseLen else g.baseLen
    badBase := if bad then (if g.badBase.isSome then g.badBase else some s.clk.ms) else if fix.baseFixed then none else g.badBase }) b.2

theorem navEpoch_eq (fix : NavFix) : exec (.navEpoch fix) s =
    .next (if s.clk.frame % 10 = 0 ∧ s.rs.supUp = true then timeSolution fix (epochTaken fix s) else s) := by
  refine congrArg Host.Outcome.next (if_congr ?_ rfl rfl)
  rw [Bool.and_eq_true, decide_eq_true_eq]

/-- What taking an epoch leaves alone. -/
theorem epochTaken_kept (fix : NavFix) (s : State) : (epochTaken fix s).gn.epoch = some (s.clk.frame, fix) ∧ (epochTaken fix s).gn.part = s.gn.part ∧
    (epochTaken fix s).gn.time = s.gn.time ∧ (epochTaken fix s).clk = s.clk ∧ cableDelay (epochTaken fix s) = cableDelay s ∧
    paramN (epochTaken fix s) pGnTimeAccept = paramN s pGnTimeAccept := by
  unfold epochTaken
  extract_lets a b bad
  have htold : Told s b.2 := (told_offsetStep _ _ s).trans (told_offsetStep _ _ _)
  have hants : b.2.gn.ants = s.gn.ants := congrArg Gnss.ants htold.gn
  have hpart : b.2.gn.part = s.gn.part := congrArg Gnss.part htold.gn
  have htime : b.2.gn.time = s.gn.time := congrArg Gnss.time htold.gn
  refine ⟨rfl, hpart, htime, htold.clk, ?_, htold.paramN _⟩
  have hparam (id : Nat) := htold.param id
  have hant : antOf b.2 0 = antOf s 0 := by rw [antOf, hants, antOf]
  show 1000 * (if (antOf b.2 0).st = .ok then param b.2 pGnAntDelayA else param b.2 pGnAntDelayB) = _
  rw [hant, hparam, hparam]
  rfl

theorem timeSolution_rejected {fix : NavFix} (h : fix.timeSats < 4 ∨ paramN s pGnTimeAccept < fix.timeUnc) :
    timeSolution fix s = updTime (fun t => { t with leap := fix.leap }) s := if_neg fun hc => by
  rcases h with h | h
  · exact absurd hc.1 (Nat.not_le.mpr h)
  · exact absurd hc.2 (Nat.not_le.mpr h)

theorem timeSolution_accepted {fix : NavFix} (h : 4 ≤ fix.timeSats ∧ fix.timeUnc ≤ paramN s pGnTimeAccept) :
    TimeAccepted 1 (fix.grid - cableDelay s) fix.timeUnc (updTime (fun t => { t with leap := fix.leap }) s) (timeSolution fix s) := by
  rw [show timeSolution fix s = acceptTime 1 (fix.grid - cableDelay s) fix.timeUnc fix.freqUnc (updTime (fun t => { t with leap := fix.leap }) s) from
    if_pos h]
  exact timeAccepted_acceptTime _ _ _ _ _

theorem navEpoch_taken (fix : NavFix) (hframe : s.clk.frame % 10 = 0) (hup : s.rs.supUp = true) : ∃ t, exec (.navEpoch fix) s = .next t ∧
    t.gn.epoch = some (s.clk.frame, fix) ∧ t.gn.part = s.gn.part ∧ t.gn.time.leap = fix.leap ∧ onlyIn (.clk :: .gn :: .free :: tells) s t ∧
    ((fix.timeSats < 4 ∨ paramN s pGnTimeAccept < fix.timeUnc) → t.gn.time = { s.gn.time with leap := fix.leap }) ∧
    (4 ≤ fix.timeSats → fix.timeUnc ≤ paramN s pGnTimeAccept → t.gn.time.lastAccept = some s.clk.ms ∧ t.gn.time.source = 1 ∧
      t.gn.time.meas = 100 * (fix.grid - cableDelay s)) := by
  have hexec := (navEpoch_eq fix).trans (congrArg Host.Outcome.next (if_pos ⟨hframe, hup⟩))
  have honly := onlyIn_mono (T := .clk :: .gn :: .free :: tells) (frame_execNavEpoch fix s _ hexec) rfl
  obtain ⟨hepoch, hpart, htime, hclk, hdelay, hacc⟩ := epochTaken_kept fix s
  refine ⟨_, hexec, ?_⟩
  by_cases h : 4 ≤ fix.timeSats ∧ fix.timeUnc ≤ paramN s pGnTimeAccept
  · obtain ⟨hgn, hlast, hsource, hmeas, -, -, hleap⟩ := timeSolution_accepted (s := epochTaken fix s) (by rw [hacc]; exact h)
    refine ⟨(congrArg Gnss.epoch hgn).trans hepoch, (congrArg Gnss.part hgn).trans hpart, hleap, honly, fun hc => by omega, fun _ _ => ⟨?_, hsource, ?_⟩⟩
    · rw [hlast]
      exact congrArg (fun c => some c.ms) hclk
    · rw [hmeas, hdelay, Int.mul_comm]
  · have hrej := timeSolution_rejected (s := epochTaken fix s) (fix := fix) (by rw [hacc]; omega)
    refine ⟨?_, ?_, ?_, honly, fun _ => ?_, fun h1 h2 => absurd ⟨h1, h2⟩ h⟩ <;> rw [hrej]
    · exact hepoch
    · exact hpart
    · rfl
    · exact congrArg (fun t : TimeState => { t with leap := fix.leap }) htime

/-! ### Release (R228, R241) -/

theorem promotePath_kept (s : State) : (promotePath s).gn.part = s.gn.part ∧ (promotePath s).gn.epoch = s.gn.epoch := by
  unfold promotePath
  split <;> exact ⟨rfl, rfl⟩

theorem releaseFix_part (e : FrameNo) (f : NavFix) (s : State) : (releaseFix e f s).gn.epoch = none ∧ (releaseFix e f s).gn.part.epochFrame = e ∧
    (releaseFix e f s).gn.part.solSeq = wrapU 32 (s.gn.part.solSeq + 1) ∧ (releaseFix e f s).gn.part.type = releasedType s f ∧
    (releaseFix e f s).gn.part.lat = f.lat ∧ (releaseFix e f s).gn.part.lon = f.lon ∧ (releaseFix e f s).gn.part.heading = (headingOf s f).2.1 ∧
    (releaseFix e f s).gn.part.imuSeq = s.gn.part.imuSeq := by
  unfold releaseFix
  extract_lets ty h pg s1 s2 s3
  have hgn : (if ty ≠ 5 && 1 ≤ ty then detect detDeadReckoningLimit 0 false 0 s3 else s3).gn = s3.gn :=
    (told_ite (told_detect _ _ _ _ _) (.refl s3)).gn
  obtain ⟨hpart, hepoch⟩ : s2.gn.part = s.gn.part ∧ s2.gn.epoch = none := by
    have hite (c : Bool) : (if c then promotePath s1 else s1).gn.part = s1.gn.part ∧ (if c then promotePath s1 else s1).gn.epoch = s1.gn.epoch := by
      cases c with
      | true => exact promotePath_kept s1
      | false => exact ⟨rfl, rfl⟩
    exact hite _
  have hseq : s3.gn.part.solSeq = wrapU 32 (s2.gn.part.solSeq + 1) := rfl
  have himu : s3.gn.part.imuSeq = s2.gn.part.imuSeq := rfl
  rw [hgn]
  exact ⟨hepoch, rfl, hseq.trans (by rw [hpart]), rfl, rfl, rfl, rfl, himu.trans (by rw [hpart])⟩

theorem navSolutionRelease_eq {e : FrameNo} {f : NavFix} (h : s.gn.epoch = some (e, f)) : exec .navSolutionRelease s =
    .next (if s.clk.frame + 1 = e + 8 then releaseFix e f s
      else if e + 8 < s.clk.frame + 1 then updGn (fun g => { g with epoch := none }) s else s) := by
  show execNavSolutionRelease s = _
  simp only [execNavSolutionRelease, h]

theorem navSolutionRelease_none (h : s.gn.epoch = none) : exec .navSolutionRelease s = .next s := by
  show execNavSolutionRelease s = _
  simp only [execNavSolutionRelease, h]

/-! ### Dead reckoning and the inertial sensor (R231, R232) -/

theorem deadReckoningLimit_eq {d : Nat} (hinj : s.ev.injs = []) (hd : s.gn.drSince = some d) (htype : s.gn.part.type = 5) : exec .deadReckoningLimit s =
    .next (if d + 1000 * paramN s pGnDrMax ≤ s.clk.ms then beginCond detDeadReckoningLimit 0 0
      (updGn (fun g => { g with part := { g.part with type := 0, solSeq := wrapU 32 (g.part.solSeq + 1) } }) s) else s) := by
  show execDeadReckoningLimit s = _
  simp only [execDeadReckoningLimit, hd, htype, forced_of_noInjs hinj, Bool.or_false, beq_self_eq_true, Bool.true_and, elapsed, decide_eq_true_eq]

theorem baselineMismatch_some {d : Nat} (hinj : s.ev.injs = []) (hd : s.gn.badBase = some d) : exec .baselineMismatch s =
    .next (if d + 10000 ≤ s.clk.ms then beginCond detBaselineMismatch 0 s.gn.baseLen s else s) := by
  show execBaselineMismatch s = _
  simp only [execBaselineMismatch, hd, measured_of_noInjs hinj, Int.toNat_natCast, elapsed, decide_eq_true_eq]

theorem baselineMismatch_none (hinj : s.ev.injs = []) (hd : s.gn.badBase = none) :
    exec .baselineMismatch s = .next (detect detBaselineMismatch 0 false 0 s) := by
  show execBaselineMismatch s = _
  simp only [execBaselineMismatch, hd, measured_of_noInjs hinj, ne_eq, not_true, decide_false, Bool.false_and, Bool.false_eq_true, if_false]

theorem imuSample_unrotated (gyro acc : List Int) (yaw : Int) (h : paramN s pGnImuOrient = 0) : ∃ t, exec (.imuSample gyro acc yaw) s = .next t ∧
    onlyIn [.gn] s t ∧ t.gn.part = { s.gn.part with
      imuSeq := wrapU 32 (s.gn.part.imuSeq + 1)
      gyro := List.zipWith (· - ·) gyro (s.gn.gyroBias ++ [0, 0, 0])
      accel := List.zipWith (· - ·) acc (s.gn.accBias ++ [0, 0, 0])
      yawRate := yaw } ∧ t.gn.raw = gyro ++ acc ∧ t.gn.imuTest = false := by
  refine ⟨_, rfl, frame_execImuSample gyro acc yaw s _ rfl, ?_, rfl, rfl⟩
  simp only [updGn, rotate, h, if_true]

theorem inertialFault_judges (failed : Bool) (hinj : s.ev.injs = []) :
    let bad := failed || s.gn.sat.any (fun n => decide (100 ≤ n)) || s.gn.same.any (fun n => decide (1000 ≤ n))
    ∃ t, exec (.inertialFault failed) s = .next t ∧ t.gn.imuOk = (!bad && s.gn.imuPassed && !failed) ∧ isPresent t detInertialFault 0 = bad ∧
      onlyIn (.gn :: tells) s t := by
  intro bad
  have hbad : (failed || s.gn.sat.any (fun n => decide (100 ≤ n)) || s.gn.same.any (fun n => decide (1000 ≤ n)) ||
      decide (measured s detInertialFault 0 0 ≠ 0)) = bad := by
    rw [measured_of_noInjs hinj]
    exact Bool.or_false _
  refine ⟨_, rfl, ?_, ?_, onlyIn_mono (frame_execInertialFault failed s _ rfl) rfl⟩
  · rw [(told_detect _ _ _ _ _).gn]
    simp only [updGn, hbad]
  · rw [isPresent_detect]
    exact hbad

end

/-- Settles O41: each of the receiver's events from its own equation. -/
theorem navigationRuns : Obligations.NavigationRuns := by
  unfold Obligations.NavigationRuns
  intro s hinj hants
  refine ⟨fun ant ma mv => ?_, fun ch synced => ⟨fun h => ?_, fun c hc => trackingLoopUpdate_channel ch synced hc⟩, fun cands => ?_,
    fun eng ant sys sat e he ht => ⟨searchDwellDone_missed he ht, searchDwellDone_first he ht, searchDwellDone_second he ht⟩,
    fun path lines agc p hp => notchMonitor_cases path lines agc hinj hp, fun l hl => ⟨fun h => ?_, fun h => ?_⟩,
    fun fix => ⟨fun h => ?_, fun h h' => navEpoch_taken fix h h'⟩, navSolutionRelease_none, fun e f he => ⟨fun h => ?_, fun h => ?_, fun h => ?_⟩,
    fun d hd htype => ⟨fun h => ?_, fun h => ?_⟩, fun d hd => ⟨fun h => ?_, fun h => ?_⟩, fun hd => ?_, fun gyro acc yaw h => imuSample_unrotated gyro acc yaw h,
    fun failed => inertialFault_judges failed hinj⟩
  · intro a set others sees
    refine ⟨antennaBiasSample_cases ant ma mv hinj hants, fun h h' => ?_, fun h => (antennaShortRetry_eq ant).trans (congrArg Host.Outcome.next (if_neg ?_)),
      fun ms => ⟨antennaOvervoltage_opens ant mv ms hinj hants, antennaOvervoltage_closes ant mv ms hinj hants, fun h h' => ?_⟩⟩
    · have hexec := (antennaShortRetry_eq ant).trans (congrArg Host.Outcome.next (if_pos ⟨h, h'⟩))
      have hon := onAnt_updAnt ant (fun a => if a.st = .short then { a with trial := 5 } else a) s
      have hat := (hon.at (ant.isLt.trans_eq hants.symm)).trans (if_pos h)
      refine ⟨_, hexec, ?_, ?_, hon.others, frame_execAntennaShortRetry ant s _ hexec⟩ <;> rw [antTrial, hat]
      · exact Nat.succ_pos 4
      · exact h
    · rintro ⟨h1, h2⟩
      exact h.elim (· h1) (Nat.not_lt.mpr h2)
    · refine (antennaOvervoltage_eq ant mv ms hinj).trans (congrArg Host.Outcome.next ((if_neg (Nat.not_le.mpr h)).trans (if_neg ?_)))
      rintro ⟨h1, h2, h3⟩
      exact h'.elim (· h1) fun h => h.elim (Nat.not_lt.mpr h2) (Nat.not_lt.mpr h3)
  · exact congrArg Host.Outcome.next (if_neg (Nat.not_lt.mpr h))
  · obtain ⟨hlen, hfirst, hok⟩ := allocated_limits (s := s) cands
    exact ⟨_, channelAllocation_eq cands, frame_execChannelAllocation cands s _ (channelAllocation_eq cands), rfl, hlen, hfirst, hok⟩
  · have hexec := (correctionsStale_eq hinj hl).trans (congrArg Host.Outcome.next (if_pos h))
    exact ⟨_, hexec, congrArg Gnss.rtcm (told_beginCond _ _ _ _).gn, isPresent_begun _ _ _ _, onlyIn_mono (frame_execCorrectionsStale s _ hexec) rfl⟩
  · exact (correctionsStale_eq hinj hl).trans (congrArg Host.Outcome.next (if_neg (Nat.not_le.mpr h)))
  · refine (navEpoch_eq fix).trans (congrArg Host.Outcome.next (if_neg ?_))
    rintro ⟨h1, h2⟩
    exact h.elim (· h1) (Bool.eq_false_iff.mp · h2)
  · exact (navSolutionRelease_eq he).trans (congrArg Host.Outcome.next ((if_neg (Nat.ne_of_lt h)).trans (if_neg (Nat.lt_asymm h))))
  · exact (navSolutionRelease_eq he).trans (congrArg Host.Outcome.next ((if_neg (Nat.ne_of_gt h)).trans (if_pos h)))
  · have hexec := (navSolutionRelease_eq he).trans (congrArg Host.Outcome.next (if_pos h))
    obtain ⟨h1, h2, h3, h4, h5, h6, h7, h8⟩ := releaseFix_part e f s
    exact ⟨_, hexec, h1, h2, h3, h4, h5, h6, h7, h8, onlyIn_mono (frame_execNavSolutionRelease s _ hexec) rfl⟩
  · have hexec := (deadReckoningLimit_eq hinj hd htype).trans (congrArg Host.Outcome.next (if_pos h))
    exact ⟨_, hexec, congrArg Gnss.part (told_beginCond _ _ _ _).gn, isPresent_begun _ _ _ _, onlyIn_mono (frame_execDeadReckoningLimit s _ hexec) rfl⟩
  · exact (deadReckoningLimit_eq hinj hd htype).trans (congrArg Host.Outcome.next (if_neg (Nat.not_le.mpr h)))
  · exact (baselineMismatch_some hinj hd).trans (congrArg Host.Outcome.next (if_pos h))
  · exact (baselineMismatch_some hinj hd).trans (congrArg Host.Outcome.next (if_neg (Nat.not_le.mpr h)))
  · exact ⟨_, baselineMismatch_none hinj hd, isPresent_detect _ _ _ _ _, (told_detect _ _ _ _ _).frame⟩

end Sys2Proof.Proofs
end

section
/-!
PROOFS. Module time is established, held, stepped and renumbered (R235 to R240; O42).
-/

namespace Sys2Proof.Proofs

open Sys2Proof.Machine Sys2Proof.Safety

section
variable {s : State}

theorem timeHoldoverEntry_eq {a : Nat} (ha : s.gn.time.lastAccept = some a) : exec .timeHoldoverEntry s =
    .next (if (s.gn.time.st = .locked ∨ s.gn.time.st = .recovering) ∧ a + 2000 ≤ s.clk.ms then
      beginCond detHoldover 0 0 (updTime (fun t => { t with
        st := .holdover, steer := 0, u0 := t.unc, df := max (paramN s pGnHoldFreqMin) t.freqUnc, since := s.clk.ms }) s) else s) := by
  show execTimeHoldoverEntry s = _
  simp only [execTimeHoldoverEntry, ha, elapsed, Bool.and_eq_true, Bool.or_eq_true, decide_eq_true_eq]

theorem timeHoldoverEntry_free (h : s.gn.time.st ≠ .locked ∧ s.gn.time.st ≠ .recovering) : exec .timeHoldoverEntry s = .next s := by
  refine congrArg Host.Outcome.next (if_neg fun hc => ?_)
  have hst := (Bool.and_eq_true_iff.mp hc).1
  rw [Bool.or_eq_true, decide_eq_true_eq, decide_eq_true_eq] at hst
  exact hst.elim h.1 h.2

theorem timeEstablish_eq : exec .timeEstablish s = .next (if s.gn.time.isRef = true ∧ s.clk.established = false ∧ s.gn.time.lastAccept.isSome = true ∧
    s.gn.time.renumber = none ∧ s.gn.time.slewing = false then
      updTime (fun t => { t with renumber := some (divRound t.meas 100000000000), renumSince := s.clk.ms }) s else s) := by
  show execTimeEstablish s = _
  simp only [execTimeEstablish, Bool.and_eq_true, Bool.not_eq_true', Option.isNone_iff_eq_none, and_assoc]

theorem renumberWaitTimeout_eq (hinj : s.ev.injs = []) : exec .renumberWaitTimeout s =
    .next (if s.gn.time.renumber.isSome = true ∧ s.gn.time.renumSince + 60000 ≤ s.clk.ms then beginCond detTimeNotEstablished 0 0 s else s) := by
  show execRenumberWaitTimeout s = _
  simp only [execRenumberWaitTimeout, forced_of_noInjs hinj, Bool.or_false, elapsed, Bool.and_eq_true, decide_eq_true_eq]

/-! ### Pulses (R236, R237) -/

theorem pulseBasis_unstepped {t : TimeState} (sec : Nat) (h : t.step = none) : pulseBasis t sec 0 = (t.st, Int.tdiv t.held 100) := by
  simp [pulseBasis, h]

theorem ppsPulse_unstepped (hframe : s.clk.frame % 1000 = 0) (hstep : s.gn.time.step = none) : exec .ppsPulse s =
    .next (updTime (fun t => { t with
      pulse := if pulseOn s s.gn.time.st then some (s.clk.frame, (ppsPlace (Int.tdiv s.gn.time.held 100) (param s pGnPpsDelay)).1,
        (ppsPlace (Int.tdiv s.gn.time.held 100) (param s pGnPpsDelay)).2, paramN s pGnPpsWidth) else none }) s) := by
  show execPpsPulse s = _
  simp only [execPpsPulse, hframe, if_true, hstep, pulseBasis_unstepped s.clk.frame hstep]

/-- R236, R237: the stepped pulse locks module time at the measured offset. -/
def stepLocked (t : TimeState) : TimeState := { t with st := .locked, held := t.meas, step := none, stepAt := 0 }

theorem ppsPulse_stepped {o : Int} (hinj : s.ev.injs = []) (hframe : s.clk.frame % 1000 = 0) (hstep : s.gn.time.step = some o) (hat : s.gn.time.stepAt ≠ 0)
    (hdue : s.gn.time.stepAt ≤ s.clk.frame) : ∃ p, exec .ppsPulse s =
    .next (happen detTimeStep 0 (o % 4294967296).toNat (holdoverOver (updTime stepLocked (updTime (fun t => { t with pulse := p }) s)))) := by
  refine ⟨if pulseOn s (pulseBasis s.gn.time s.clk.frame 0).1 then some (s.clk.frame,
    (ppsPlace (pulseBasis s.gn.time s.clk.frame 0).2 (param s pGnPpsDelay)).1, (ppsPlace (pulseBasis s.gn.time s.clk.frame 0).2 (param s pGnPpsDelay)).2,
    paramN s pGnPpsWidth) else none, ?_⟩
  have hdue' : (s.gn.time.stepAt ≠ 0 && decide (s.gn.time.stepAt ≤ s.clk.frame)) = true := by
    rw [decide_eq_true hdue, Bool.and_true]
    exact decide_eq_true hat
  show execPpsPulse s = _
  simp only [execPpsPulse, hframe, if_true, hstep, hdue', measured_of_noInjs hinj]
  rfl

theorem ppsPulse_locks {o : Int} (hinj : s.ev.injs = []) (hframe : s.clk.frame % 1000 = 0) (hstep : s.gn.time.step = some o) (hat : s.gn.time.stepAt ≠ 0)
    (hdue : s.gn.time.stepAt ≤ s.clk.frame) : ∃ t, exec .ppsPulse s = .next t ∧ onlyIn (.gn :: tells) s t ∧ t.gn.time.st = .locked ∧
      t.gn.time.held = s.gn.time.meas ∧ t.gn.time.step = none ∧ t.gn.time.stepAt = 0 ∧ isPresent t detHoldover 0 = false ∧
      isPresent t detTimeDegraded 0 = false := by
  obtain ⟨p, hexec⟩ := ppsPulse_stepped hinj hframe hstep hat hdue
  have htime : (happen detTimeStep 0 (o % 4294967296).toNat (holdoverOver (updTime stepLocked (updTime (fun t => { t with pulse := p }) s)))).gn.time =
      stepLocked { s.gn.time with pulse := p } := congrArg Gnss.time ((told_happen _ _ _ _).gn.trans (told_holdoverOver _).gn)
  refine ⟨_, hexec, onlyIn_mono (frame_execPpsPulse s _ hexec) rfl, by rw [htime]; rfl, by rw [htime]; rfl, by rw [htime]; rfl, by rw [htime]; rfl, ?_, ?_⟩
  · rw [(said_happen _ _ _ _).isPresent]
    exact (isPresent_detect_other (.inl (by decide)) _ _ _).trans (isPresent_detect _ _ _ _ _)
  · rw [(said_happen _ _ _ _).isPresent]
    exact isPresent_detect _ _ _ _ _

/-! ### PPSI (R240) -/

/-- R240: the instant of an edge in cycles of CLK_CTL, with the input delay taken off. -/
def ppsiInstant (s : State) (cycle : Nat) : Int := ((cycle : Int) * 4 - (paramN s pGnPpsiDelay : Int) * 3) / 4

/-- The state with an edge measured. -/
def ppsiMeasured (cycle : Nat) (s : State) : State :=
  detect detPpsiMissing 0 false 0 (updTime (fun t => { t with
    ppsiFrame := ((s.clk.frame : Int) + ppsiInstant s cycle / 750000).toNat, ppsiCycle := (ppsiInstant s cycle % 750000).toNat
    ppsiAt := some s.clk.ms, ppsiSeen := true }) s)

/-- An edge in a mode is measured; in mode 2 it may discipline module time. -/
theorem ppsiEdge_measured (cycle : Nat) (h : paramN s pGnPpsiMode ≠ 0) : ∃ t, exec (.ppsiEdge cycle) s = .next t ∧
    (t = ppsiMeasured cycle s ∨ (paramN s pGnPpsiMode = 2 ∧ ∃ g, t = acceptTime 2 g 50 0 (ppsiMeasured cycle s))) := by
  obtain ⟨c, c', g, hexec⟩ : ∃ (c c' : Bool) (g : Int), exec (.ppsiEdge cycle) s = .next (if (decide (paramN s pGnPpsiMode = 2) && c && c') = true then
      acceptTime 2 g 50 0 (ppsiMeasured cycle s) else ppsiMeasured cycle s) := ⟨_, _, _, congrArg Host.Outcome.next (if_neg h)⟩
  refine ⟨_, hexec, ?_⟩
  split
  · next hc =>
    simp only [Bool.and_eq_true, decide_eq_true_eq] at hc
    exact .inr ⟨hc.1.1, _, rfl⟩
  · exact .inl rfl

theorem ppsiMeasured_time (cycle : Nat) (s : State) : (ppsiMeasured cycle s).gn.time = { s.gn.time with
    ppsiFrame := ((s.clk.frame : Int) + ppsiInstant s cycle / 750000).toNat, ppsiCycle := (ppsiInstant s cycle % 750000).toNat
    ppsiAt := some s.clk.ms, ppsiSeen := true } := congrArg Gnss.time (told_detect _ _ _ _ _).gn

theorem ppsiEdge_cases (cycle : Nat) (h : paramN s pGnPpsiMode ≠ 0) : ∃ t, exec (.ppsiEdge cycle) s = .next t ∧
    onlyIn (.clk :: .gn :: .free :: tells) s t ∧ t.gn.time.ppsiFrame = ((s.clk.frame : Int) + ppsiInstant s cycle / 750000).toNat ∧
    t.gn.time.ppsiCycle = (ppsiInstant s cycle % 750000).toNat ∧ t.gn.time.ppsiAt = some s.clk.ms ∧ t.gn.time.ppsiSeen = true ∧
    isPresent t detPpsiMissing 0 = false ∧ (paramN s pGnPpsiMode ≠ 2 → t.gn.time.st = s.gn.time.st ∧ t.gn.time.meas = s.gn.time.meas ∧ t.clk = s.clk) := by
  obtain ⟨t, hexec, ht⟩ := ppsiEdge_measured cycle h
  have hframe := onlyIn_mono (T := .clk :: .gn :: .free :: tells) (frame_execPpsiEdge cycle s t hexec) rfl
  have htime := ppsiMeasured_time cycle s
  have hgone : isPresent (ppsiMeasured cycle s) detPpsiMissing 0 = false := isPresent_detect _ _ _ _ _
  rcases ht with rfl | ⟨hmode, g, rfl⟩
  · refine ⟨_, hexec, hframe, ?_, ?_, ?_, ?_, hgone, fun _ => ⟨?_, ?_, (told_detect _ _ _ _ _).clk⟩⟩ <;> rw [htime]
  · have hacc := timeAccepted_acceptTime 2 g 50 0 (ppsiMeasured cycle s)
    have hppsi := hacc.ppsi
    rw [htime] at hppsi
    refine ⟨_, hexec, hframe, congrArg (·.1) hppsi, congrArg (·.2.1) hppsi, congrArg (·.2.2.1) hppsi, congrArg (·.2.2.2) hppsi,
      (hacc.present _ _ (by decide) (by decide)).trans hgone, fun hne => absurd hmode hne⟩

theorem ppsiMissing_eq (hinj : s.ev.injs = []) : exec .ppsiMissing s =
    .next (if s.gn.time.ppsiSeen = true ∧ (∃ a, s.gn.time.ppsiAt = some a ∧ a + 3000 ≤ s.clk.ms) then
      beginCond detPpsiMissing 0 0 (updTime (fun t => { t with ppsiSeen := false }) s) else s) := by
  refine congrArg Host.Outcome.next (if_congr ?_ rfl rfl)
  rw [forced_of_noInjs hinj, Bool.or_false, Bool.and_eq_true]
  refine and_congr Iff.rfl ?_
  cases s.gn.time.ppsiAt with
  | none => simp
  | some a => simp [elapsed]

end

/-- Settles O42: each of module time's events from its own equation. -/
theorem timeIsKept : Obligations.TimeIsKept := by
  unfold Obligations.TimeIsKept
  intro s u sees hinj
  refine ⟨fun a ha hst => ⟨fun h => ?_, fun h => ?_⟩, timeHoldoverEntry_free, fun h1 h2 h3 h4 h5 => ?_, fun h => ?_, fun h => ?_, fun h => ?_,
    fun h => ?_, fun h hs => ?_, fun o h hs => ppsPulse_locks hinj h hs, fun cycle => ⟨fun h => ?_, ppsiEdge_cases cycle⟩,
    fun a ha hseen => ⟨fun h => ?_, fun h => ?_⟩, fun h => ?_⟩
  · have hexec := (timeHoldoverEntry_eq ha).trans (congrArg Host.Outcome.next (if_pos ⟨hst, h⟩))
    exact ⟨_, hexec, onlyIn_mono (frame_execTimeHoldoverEntry s _ hexec) rfl, isPresent_begun _ _ _ _,
      congrArg Gnss.time (told_beginCond _ _ _ _).gn⟩
  · exact (timeHoldoverEntry_eq ha).trans (congrArg Host.Outcome.next (if_neg fun hc => Nat.not_lt.mpr hc.2 h))
  · exact timeEstablish_eq.trans (congrArg Host.Outcome.next (if_pos ⟨h1, h2, h3, h4, h5⟩))
  · refine timeEstablish_eq.trans (congrArg Host.Outcome.next (if_neg ?_))
    rintro ⟨h1, h2, -⟩
    exact h.elim (fun h => by rw [h] at h1; cases h1) (fun h => by rw [h] at h2; cases h2)
  · exact (renumberWaitTimeout_eq hinj).trans (congrArg Host.Outcome.next (if_pos h))
  · refine (renumberWaitTimeout_eq hinj).trans (congrArg Host.Outcome.next (if_neg ?_))
    rintro ⟨h1, h2⟩
    exact h.elim (fun h => by rw [h] at h1; cases h1) (Nat.not_lt.mpr h2)
  · exact congrArg Host.Outcome.next (if_neg h)
  · have hexec := ppsPulse_unstepped h hs
    refine ⟨_, hexec, fun q hq => ?_, rfl⟩
    exact onlyIn_put_gn _ s q hq
  · exact congrArg Host.Outcome.next (if_pos h)
  · have hexec := (ppsiMissing_eq hinj).trans (congrArg Host.Outcome.next (if_pos ⟨hseen, a, ha, h⟩))
    exact ⟨_, hexec, congrArg Gnss.time (told_beginCond _ _ _ _).gn, isPresent_begun _ _ _ _, onlyIn_mono (frame_execPpsiMissing s _ hexec) rfl⟩
  · refine (ppsiMissing_eq hinj).trans (congrArg Host.Outcome.next (if_neg ?_))
    rintro ⟨-, b, hb, hdue⟩
    cases ha.symm.trans hb
    exact Nat.not_lt.mpr hdue h
  · refine (ppsiMissing_eq hinj).trans (congrArg Host.Outcome.next (if_neg ?_))
    rintro ⟨h1, -⟩
    exact Bool.noConfusion (h.symm.trans h1)

end Sys2Proof.Proofs
end

section
/-!
PROOFS. The fabric after a change of its database (R251 to R254, R257, R266, R267): frames leave, LSAs go, the time reference and the verdicts follow;
the ports, the node number and the sessions stay unless the module takes a number.
-/

namespace Sys2Proof.Proofs

open Sys2Proof.Machine Sys2Proof.Safety

/-! ### Messages leave -/

/-- Messages have left on ports of the fabric; nothing else has changed. -/
def Sent (s t : State) : Prop := t = { s with fb := { s.fb with tx := t.fb.tx } }

theorem Sent.refl (s : State) : Sent s s := rfl

theorem Sent.trans {s t u : State} (h : Sent s t) (h' : Sent t u) : Sent s u := by
  unfold Sent at h h' ⊢
  rw [h', h]

theorem sent_fbSend (p : Nat) (m : FbMsg) (s : State) : Sent s (fbSend p m s) := by
  unfold fbSend
  split <;> rfl

theorem sent_foldl {α : Type} {f : State → α → State} (hf : ∀ x a, Sent x (f x a)) (l : List α) (s : State) : Sent s (l.foldl f s) := by
  induction l generalizing s with
  | nil => exact .refl s
  | cons a l ih => exact (hf s a).trans (ih _)

theorem sent_fbFlood (but : Option Nat) (m : FbMsg) (s : State) : Sent s (fbFlood but m s) := sent_foldl (fun x p => sent_fbSend p m x) _ s

theorem Sent.ownLsa {s t : State} (h : Sent s t) : ownLsa t = ownLsa s := by
  rw [h]
  rfl

/-! ### What follows a change of the database -/

/-- `t` is `s` after what follows of itself from a change of the fabric's database, while the module keeps its node number. -/
structure Follows (s t : State) : Prop where
  frame : onlyIn [.fb, .mb, .pf, .ev, .gn, .out] s t
  fabric : t.fb = { s.fb with
    db := t.fb.db, seq := t.fb.seq, flooded := t.fb.flooded, floodAt := t.fb.floodAt, ref := t.fb.ref, align := t.fb.align, syncAt := t.fb.syncAt
    since := t.fb.since, assigns := t.fb.assigns, waiting := t.fb.waiting, tx := t.fb.tx }
  profile : t.pf = { s.pf with staging := t.pf.staging }
  sessions : (t.mb.sessions.map sessKey).Sublist (s.mb.sessions.map sessKey)
  db : t.fb.db ⊆ s.fb.db

theorem Follows.refl (s : State) : Follows s s := ⟨onlyIn_refl _ _, rfl, rfl, .refl _, List.Subset.refl _⟩

theorem Follows.trans {s t u : State} (h : Follows s t) (h' : Follows t u) : Follows s u where
  frame := onlyIn_step h'.frame rfl h.frame
  fabric := by rw [h'.fabric, h.fabric]
  profile := by rw [h'.profile, h.profile]
  sessions := h'.sessions.trans h.sessions
  db := List.Subset.trans h'.db h.db

theorem Told.fb {s t : State} (h : Told s t) : t.fb = s.fb := h.frame .fb (by decide)

theorem Told.follows {s t : State} (h : Told s t) : Follows s t :=
  ⟨onlyIn_mono h.frame rfl, by rw [h.fb], h.profile, h.sessions, by rw [h.fb]; exact List.Subset.refl _⟩

theorem Sent.follows {s t : State} (h : Sent s t) : Follows s t where
  frame := by rw [h]; exact onlyIn_mono (onlyIn_put_fb _ s) rfl
  fabric := by rw [h]
  profile := by rw [h]
  sessions := by rw [h]
  db := by rw [h]; exact List.Subset.refl _

theorem Follows.myNode {s t : State} (h : Follows s t) : myNode t = myNode s :=
  paramN_congr ((congrArg Profiles.settings h.profile).trans rfl) ((congrArg Profiles.work h.profile).trans rfl) (h.frame .rs (by decide)) _

theorem Follows.ports {s t : State} (h : Follows s t) : t.fb.ports = s.fb.ports := (congrArg Fabric.ports h.fabric).trans rfl

theorem Follows.stamp {s t : State} (h : Follows s t) : t.fb.stamp = s.fb.stamp := (congrArg Fabric.stamp h.fabric).trans rfl

theorem Follows.lost {s t : State} (h : Follows s t) : t.fb.lost = s.fb.lost := (congrArg Fabric.lost h.fabric).trans rfl

theorem Follows.clk {s t : State} (h : Follows s t) : t.clk = s.clk := h.frame .clk (by decide)

theorem follows_pruneDb (s : State) : Follows s (pruneDb s) :=
  ⟨onlyIn_mono (frame_updFb _ s) rfl, rfl, rfl, .refl _, List.filter_sublist.subset⟩

/-- The stamp of an ASSIGN is remembered for its target. -/
def remembered (target stamp : Nat) (s : State) : State := updFb (fun b => { b with assigns := setKey target stamp b.assigns }) s

theorem follows_remembered (target stamp : Nat) (s : State) : Follows s (remembered target stamp s) :=
  ⟨onlyIn_mono (frame_updFb _ s) rfl, rfl, rfl, .refl _, List.Subset.refl _⟩

theorem follows_passAssign {target : Nat} (htarget : target ≠ uid) (but : Option Nat) (node stamp : Nat) (s : State) :
    Follows s (passAssign but target node stamp s) := by
  unfold passAssign
  split
  · exact .refl s
  extract_lets s1
  exact (follows_remembered target stamp s).trans (sent_fbFlood _ _ _).follows

theorem mem_database {s : State} {l : Lsa} (h : l ∈ database s) : l = ownLsa s ∨ ∃ e ∈ s.fb.db, e.lsa = l := by
  rw [database, mem_sortBy_iff, List.mem_cons, List.mem_map] at h
  exact h

/-- The own LSA of a module that has a number, or has lost it, asks for none. -/
theorem ownLsa_asks {s : State} (h : myNode s ≠ 0 ∨ s.fb.lost = true) :
    ((ownLsa s).node == 0 && bit (ownLsa s).flags 2 && !bit (ownLsa s).flags 1) = false := by
  rcases h with hnode | hlost
  · have hne : ((ownLsa s).node == 0) = false := beq_eq_false_iff_ne.mpr hnode
    rw [hne]
    rfl
  · have hbit : bit (ownLsa s).flags 1 = true := by
      simp only [ownLsa, hlost]
      cases !fnsIdle s <;> cases paramN s pFbAutoNumber == 1 <;> rfl
    rw [hbit, Bool.not_true, Bool.and_false]

theorem follows_autoNumber {s : State} (hdb : ∀ e ∈ s.fb.db, e.lsa.uid ≠ uid) (hme : myNode s ≠ 0 ∨ s.fb.lost = true) :
    Follows s (autoNumber s) := by
  unfold autoNumber
  split
  · extract_lets want
    split
    · exact (told_detect _ _ _ _ _).follows
    · next l hl =>
      obtain ⟨hmem, hasks⟩ := List.mem_filter.mp (List.mem_of_head? hl)
      have hother : l.uid ≠ uid := by
        rcases mem_database hmem with rfl | ⟨e, he, rfl⟩
        · exact absurd hasks (by rw [ownLsa_asks hme]; decide)
        · exact hdb e he
      split
      · exact (told_detect _ _ _ _ _).follows.trans (follows_passAssign hother _ _ _ _)
      · exact (told_detect _ _ _ _ _).follows
  · exact .refl s

/-- The module follows a time reference. -/
def withRef (u : Nat) (s x : State) : State :=
  updTime (fun t => { t with isRef := u == uid }) (updFb (fun b => { b with
    ref := u, align := if u = uid then .reference else b.align, syncAt := s.clk.ms, since := s.clk.ms }) x)

theorem follows_withRef (u : Nat) (s x : State) : Follows x (withRef u s x) :=
  ⟨onlyIn_mono (onlyIn_step (frame_updTime _ _) (by rfl) (onlyIn_mono (T := [.fb, .gn]) (frame_updFb _ x) rfl)) rfl, rfl, rfl, .refl _, List.Subset.refl _⟩

theorem follows_setRef (u : Nat) (s : State) : Follows s (setRef u s) := by
  unfold setRef
  split
  · split
    · exact (told_happen _ _ _ _).follows
    · exact .refl s
  extract_lets s1 s2
  have h1 : Follows s s1 := by
    unfold s1
    split
    · exact .refl s
    · exact (told_happen _ _ _ _).follows
  exact h1.trans (follows_withRef u s s1)

theorem told_judgeEvents (old new : Generation) (s : State) : Told s (judgeEvents old new s) :=
  told_step (told_detect _ _ _ _ _) (told_detect _ _ _ _ _)

/-- A generation waits for its frame. -/
def queued (g : Generation) (s : State) : State := updFb (fun b => { b with waiting := b.waiting ++ [g] }) s

theorem told_addGeneration (g : Generation) (s : State) : Told (queued g s) (addGeneration g s) := told_judgeEvents _ _ _

theorem follows_queued (g : Generation) (s : State) : Follows s (queued g s) :=
  ⟨onlyIn_mono (frame_updFb _ s) rfl, rfl, rfl, .refl _, List.Subset.refl _⟩

theorem follows_issueVerdict (f : Nat) (s : State) : Follows s (issueVerdict f s) :=
  (sent_fbFlood _ _ _).follows.trans ((follows_queued _ _).trans (told_addGeneration _ _).follows)

theorem follows_recomputeVerdicts (s : State) : Follows s (recomputeVerdicts s) := by
  unfold recomputeVerdicts
  split
  · generalize sortBy id _ = fs
    have hfold (fs : List Nat) : ∀ x, Follows x (fs.foldl (fun st f => issueVerdict f st) x) := by
      induction fs with
      | nil => exact .refl
      | cons f fs ih => exact fun x => (follows_issueVerdict f x).trans (ih _)
    exact (follows_issueVerdict 0 s).trans (hfold fs _)
  · exact .refl s

theorem follows_floodOwn (s : State) : Follows s (floodOwn s) :=
  .trans ⟨onlyIn_mono (frame_updFb _ s) rfl, rfl, rfl, .refl _, List.Subset.refl _⟩
    (.trans ⟨onlyIn_mono (frame_updFb _ _) rfl, rfl, rfl, .refl _, List.Subset.refl _⟩ (sent_fbFlood _ _ _).follows)

/-- The flooded LSA is the module's own under the next LSA_SEQ. -/
theorem floodOwn_lsa (s : State) : (floodOwn s).fb.seq = wrapU 32 (s.fb.seq + 1) ∧ (floodOwn s).fb.floodAt = s.clk.ms ∧
    (floodOwn s).fb.flooded = some (ownLsa (floodOwn s)) := by
  have hsent := sent_fbFlood none (.lsa (ownLsa (updFb (fun b => { b with seq := wrapU 32 (b.seq + 1), floodAt := s.clk.ms }) s)))
    (updFb (fun b => { b with flooded := some (ownLsa (updFb (fun b => { b with seq := wrapU 32 (b.seq + 1), floodAt := s.clk.ms }) s)) })
      (updFb (fun b => { b with seq := wrapU 32 (b.seq + 1), floodAt := s.clk.ms }) s))
  have hfb : (floodOwn s).fb = _ := congrArg State.fb hsent
  refine ⟨by rw [hfb]; rfl, by rw [hfb]; rfl, ?_⟩
  have hlsa : ownLsa (floodOwn s) = _ := hsent.ownLsa
  rw [hfb, hlsa]
  rfl

/-- The time reference and the verdicts follow in the end. -/
theorem dbChanged_last (s : State) : Follows (autoNumber (resolveDuplicate (pruneDb s))) (dbChanged s) :=
  (follows_setRef _ _).trans (follows_recomputeVerdicts _)

theorem dbChanged_follows {s : State} (hdb : ∀ e ∈ s.fb.db, e.lsa.uid ≠ uid) (hme : myNode s ≠ 0 ∨ s.fb.lost = true)
    (hkeeps : numberLost (pruneDb s) = false) : Follows s (dbChanged s) := by
  have hp := follows_pruneDb s
  have hres : resolveDuplicate (pruneDb s) = pruneDb s := by rw [resolveDuplicate, if_neg (by rw [hkeeps]; decide)]
  have ha : Follows (pruneDb s) (autoNumber (resolveDuplicate (pruneDb s))) := by
    rw [hres]
    exact follows_autoNumber (fun e he => hdb e (hp.db he)) hme
  exact hp.trans (ha.trans (dbChanged_last s))

/-! ### What goes never comes back by a change of the database -/

/-- LSAs have gone, and no port has come up. -/
structure Shrinks (s t : State) : Prop where
  db : t.fb.db ⊆ s.fb.db
  up : ∀ p, (fbPort s p).up = false → (fbPort t p).up = false
  link : ∀ p, (fbPort s p).link = false → (fbPort t p).link = false

theorem Shrinks.refl (s : State) : Shrinks s s := ⟨List.Subset.refl _, fun _ => id, fun _ => id⟩

theorem Shrinks.trans {s t u : State} (h : Shrinks s t) (h' : Shrinks t u) : Shrinks s u :=
  ⟨List.Subset.trans h'.db h.db, fun p => h'.up p ∘ h.up p, fun p => h'.link p ∘ h.link p⟩

theorem Follows.fbPort {s t : State} (h : Follows s t) (p : Nat) : fbPort t p = fbPort s p := by rw [Machine.fbPort, Machine.fbPort, h.ports]

theorem Follows.shrinks {s t : State} (h : Follows s t) : Shrinks s t :=
  ⟨h.db, fun p hp => by rw [h.fbPort]; exact hp, fun p hp => by rw [h.fbPort]; exact hp⟩

theorem shrinks_of_fb {s t : State} (hports : t.fb.ports = s.fb.ports) (hdb : t.fb.db = s.fb.db) : Shrinks s t :=
  ⟨by rw [hdb]; exact List.Subset.refl _, fun p hp => by rw [fbPort, hports]; exact hp, fun p hp => by rw [fbPort, hports]; exact hp⟩

theorem closeFabricSessions_fb (s : State) : (closeFabricSessions s).fb = s.fb := frame_closeFabricSessions s .fb (by decide)

/-- Every port starts afresh with a restart of the fabric state. -/
theorem fabricRestart_port (s : State) (p : Nat) : (fbPort (fabricRestart s) p).up = false ∧ (fbPort (fabricRestart s) p).link = false := by
  simp only [fbPort, nth, fabricRestart, updFb_fb, List.getD_eq_getElem?_getD, List.getElem?_map]
  cases s.fb.ports[p]? <;> exact ⟨rfl, rfl⟩

theorem takeNumber_fb (node stamp : Nat) (s : State) :
    (takeNumber node stamp s).fb = (fabricRestart (updFb (fun b => { b with lost := false, stamp := stamp }) s)).fb := closeFabricSessions_fb _

theorem shrinks_takeNumber (node stamp : Nat) (s : State) : Shrinks s (takeNumber node stamp s) := by
  have hfb := takeNumber_fb node stamp s
  refine ⟨?_, fun p _ => ?_, fun p _ => ?_⟩
  · rw [hfb]
    exact List.nil_subset _
  · rw [fbPort, hfb]
    exact (fabricRestart_port _ p).1
  · rw [fbPort, hfb]
    exact (fabricRestart_port _ p).2

theorem shrinks_passAssign (but : Option Nat) (target node stamp : Nat) (s : State) : Shrinks s (passAssign but target node stamp s) := by
  by_cases htarget : target = uid
  · unfold passAssign
    split
    · exact .refl s
    extract_lets s1
    have hsent : Follows (remembered target stamp s) s1 := (sent_fbFlood but (.assign target node stamp) _).follows
    exact ((follows_remembered target stamp s).trans hsent).shrinks.trans (shrinks_takeNumber _ _ _)
  · exact (follows_passAssign htarget _ _ _ _).shrinks

/-- A number given up leaves the ports and the database. -/
theorem resolveDuplicate_fb (s : State) : (resolveDuplicate s).fb = if numberLost s = true then { s.fb with lost := true } else s.fb := by
  unfold resolveDuplicate
  split
  · rw [(told_happen _ _ _ _).fb, closeFabricSessions_fb]
    rfl
  · rfl

theorem resolveDuplicate_kept (s : State) : (resolveDuplicate s).fb.ports = s.fb.ports ∧ (resolveDuplicate s).fb.db = s.fb.db ∧
    (numberLost s = true → (resolveDuplicate s).fb.lost = true) := by
  rw [resolveDuplicate_fb]
  split
  · exact ⟨rfl, rfl, fun _ => rfl⟩
  · next h => exact ⟨rfl, rfl, fun h' => absurd h' h⟩

theorem shrinks_resolveDuplicate (s : State) : Shrinks s (resolveDuplicate s) :=
  shrinks_of_fb (resolveDuplicate_kept s).1 (resolveDuplicate_kept s).2.1

theorem shrinks_autoNumber (s : State) : Shrinks s (autoNumber s) := by
  unfold autoNumber
  split
  · extract_lets want
    split
    · exact (told_detect _ _ _ _ _).follows.shrinks
    · split
      · exact (told_detect _ _ _ _ _).follows.shrinks.trans (shrinks_passAssign _ _ _ _ _)
      · exact (told_detect _ _ _ _ _).follows.shrinks
  · exact .refl s

theorem shrinks_dbChanged (s : State) : Shrinks s (dbChanged s) :=
  (follows_pruneDb s).shrinks.trans ((shrinks_resolveDuplicate _).trans ((shrinks_autoNumber _).trans (dbChanged_last s).shrinks))

/-- The module's LSA is as it was flooded last. -/
abbrev Steady (s : State) : Prop := s.fb.flooded.map lsaBody = some (lsaBody (ownLsa s))

theorem refreshOwn_steady {s : State} (h : Steady s) : refreshOwn s = s := if_pos h

theorem refreshOwn_fresh {s : State} (h : ¬Steady s) : refreshOwn s = floodOwn (dbChanged s) := if_neg h

theorem shrinks_refreshOwn (s : State) : Shrinks s (refreshOwn s) := by
  by_cases h : Steady s
  · rw [refreshOwn_steady h]
    exact .refl s
  · rw [refreshOwn_fresh h]
    exact (shrinks_dbChanged s).trans (follows_floodOwn _).shrinks

/-- The ports of a numbered module stay as they are. -/
theorem dbChanged_ports {s : State} (hdb : ∀ e ∈ s.fb.db, e.lsa.uid ≠ uid) (hnode : myNode s ≠ 0) : (dbChanged s).fb.ports = s.fb.ports := by
  by_cases hlost : numberLost (pruneDb s) = true
  · have hp := follows_pruneDb s
    obtain ⟨hports, hres, hgone⟩ := resolveDuplicate_kept (pruneDb s)
    have ha : Follows (resolveDuplicate (pruneDb s)) (autoNumber (resolveDuplicate (pruneDb s))) :=
      follows_autoNumber (fun e he => hdb e (hp.db (hres ▸ he))) (.inr (hgone hlost))
    calc (dbChanged s).fb.ports = (resolveDuplicate (pruneDb s)).fb.ports := (ha.trans (dbChanged_last s)).ports
      _ = (pruneDb s).fb.ports := hports
      _ = s.fb.ports := hp.ports
  · exact (dbChanged_follows hdb (.inl hnode) (eq_false_of_ne_true hlost)).ports

theorem refreshOwn_ports {s : State} (hdb : ∀ e ∈ s.fb.db, e.lsa.uid ≠ uid) (hnode : myNode s ≠ 0) : (refreshOwn s).fb.ports = s.fb.ports := by
  by_cases h : Steady s
  · rw [refreshOwn_steady h]
  · rw [refreshOwn_fresh h, (follows_floodOwn _).ports, dbChanged_ports hdb hnode]

end Sys2Proof.Proofs
end

section
/-!
PROOFS. LSAs, node numbers and verdicts (R251 to R253, R266, R267, R274) for O43.
-/

namespace Sys2Proof.Proofs

open Sys2Proof.Machine Sys2Proof.Safety

variable {s : State}

theorem refreshOwn_follows (hdb : ∀ e ∈ s.fb.db, e.lsa.uid ≠ uid) (hme : myNode s ≠ 0 ∨ s.fb.lost = true) (hkeeps : numberLost (pruneDb s) = false) :
    Follows s (refreshOwn s) := by
  by_cases h : Steady s
  · rw [refreshOwn_steady h]
    exact .refl s
  · rw [refreshOwn_fresh h]
    exact (dbChanged_follows hdb hme hkeeps).trans (follows_floodOwn _)

/-! ### LSA_FLOOD and LSA_EXPIRY (R251) -/

theorem lsaFlood_eq : exec .lsaFlood s = .next (if !s.rs.supUp then s else if ¬Steady s then refreshOwn s
    else if elapsed s s.fb.floodAt 1000 then floodOwn s else s) := rfl

theorem lsaFlood_again (hup : s.rs.supUp = true) (hsteady : Steady s) (hdue : elapsed s s.fb.floodAt 1000 = true) : ∃ t, exec .lsaFlood s = .next t ∧
    t.fb.seq = wrapU 32 (s.fb.seq + 1) ∧ t.fb.floodAt = s.clk.ms ∧ t.fb.flooded = some (ownLsa t) ∧ onlyIn [.fb] s t := by
  obtain ⟨hseq, hat, hlsa⟩ := floodOwn_lsa s
  refine ⟨floodOwn s, ?_, hseq, hat, hlsa, frame_floodOwn s⟩
  rw [lsaFlood_eq, if_neg (by rw [hup]; decide), if_neg (not_not_intro hsteady), if_pos hdue]

theorem lsaFlood_fresh (hup : s.rs.supUp = true) (hfresh : ¬Steady s) : ∃ t, exec .lsaFlood s = .next t ∧ t.fb.flooded = some (ownLsa t) ∧
    t.fb.floodAt = s.clk.ms ∧ onlyIn [.fb, .mb, .pf, .ev, .gn, .out] s t := by
  have hexec : exec .lsaFlood s = .next (refreshOwn s) := by rw [lsaFlood_eq, if_neg (by rw [hup]; decide), if_pos hfresh]
  obtain ⟨-, hat, hlsa⟩ := floodOwn_lsa (dbChanged s)
  refine ⟨_, hexec, ?_⟩
  rw [refreshOwn_fresh hfresh]
  have hclk : (dbChanged s).clk = s.clk := frame_dbChanged s .clk (by decide)
  exact ⟨hlsa, by rw [hat, hclk], onlyIn_step (frame_floodOwn _) rfl (onlyIn_mono (frame_dbChanged s) rfl)⟩

/-- The database holds other LSAs. -/
def withDb (db : List DbEntry) (s : State) : State := updFb (fun b => { b with db }) s

theorem lsaExpiry_eq : exec .lsaExpiry s = .next (if s.fb.db.any (fun e => elapsed s e.at' 3000) then
    refreshOwn (dbChanged (withDb (s.fb.db.filter (fun e => !elapsed s e.at' 3000)) s)) else s) := rfl

theorem lsaExpiry_none (h : ∀ e ∈ s.fb.db, s.clk.ms < e.at' + 3000) : exec .lsaExpiry s = .next s := by
  rw [lsaExpiry_eq, if_neg]
  simpa [elapsed] using h

theorem lsaExpiry_some (h : ∃ e ∈ s.fb.db, e.at' + 3000 ≤ s.clk.ms) : ∃ t, exec .lsaExpiry s = .next t ∧
    onlyIn [.fb, .mb, .pf, .ev, .gn, .out] s t ∧ ∀ e ∈ t.fb.db, e ∈ s.fb.db ∧ s.clk.ms < e.at' + 3000 := by
  have hexec : exec .lsaExpiry s = .next (refreshOwn (dbChanged (withDb (s.fb.db.filter (fun e => !elapsed s e.at' 3000)) s))) := by
    rw [lsaExpiry_eq, if_pos]
    simpa [elapsed] using h
  refine ⟨_, hexec, onlyIn_mono (frame_execLsaExpiry s _ hexec) rfl, fun e he => ?_⟩
  have hmem := ((shrinks_dbChanged _).trans (shrinks_refreshOwn _)).db he
  simpa [withDb, elapsed, updFb_fb] using hmem

/-! ### LSA (R251) -/

/-- A received LSA goes out on the other ports, and the database holds it. -/
def lsaStored (port : Fin 4) (m : Lsa) (db : List DbEntry) (s : State) : State := fbFlood (some port.val) (.lsa m) (withDb db s)

theorem lsaStored_fb (port : Fin 4) (m : Lsa) (db : List DbEntry) (s : State) :
    (lsaStored port m db s).fb.db = db ∧ (lsaStored port m db s).fb.ports = s.fb.ports := by
  have h : (lsaStored port m db s).fb = _ := congrArg State.fb (sent_fbFlood (some port.val) (.lsa m) (withDb db s))
  exact ⟨by rw [h]; rfl, by rw [h]; rfl⟩

/-- The database with a newer LSA of a module it knows. -/
def renewed (m : Lsa) (s : State) : List DbEntry := s.fb.db.map (fun x => if x.lsa.uid = m.uid then ⟨m, s.clk.ms⟩ else x)

theorem lsa_other (port : Fin 4) (m : Lsa) (h : portOn s port.val = false ∨ m.uid = uid) : exec (.lsa port m) s = .next s :=
  congrArg Host.Outcome.next (if_pos (by simpa using h))

theorem lsa_known (port : Fin 4) (m : Lsa) (e : DbEntry) (hon : portOn s port.val = true) (hother : m.uid ≠ uid)
    (he : s.fb.db.find? (fun e => e.lsa.uid == m.uid) = some e) : exec (.lsa port m) s = .next (if e.lsa.seq < m.seq then
      (if lsaBody e.lsa = lsaBody m then lsaStored port m (renewed m s) s else refreshOwn (dbChanged (lsaStored port m (renewed m s) s))) else s) := by
  show execLsa port m s = _
  unfold execLsa
  rw [if_neg (by simp [hon, hother])]
  simp only [he]
  rfl

theorem lsa_new (port : Fin 4) (m : Lsa) (hinj : s.ev.injs = []) (hon : portOn s port.val = true) (hother : m.uid ≠ uid)
    (he : s.fb.db.find? (fun e => e.lsa.uid == m.uid) = none) : exec (.lsa port m) s = .next (if s.fb.db.length < 47 then
      refreshOwn (dbChanged (lsaStored port m (s.fb.db ++ [⟨m, s.clk.ms⟩]) s)) else happen detDatabaseOverflow 0 0 s) := by
  show execLsa port m s = _
  unfold execLsa
  rw [if_neg (by simp [hon, hother])]
  simp only [he, forced_of_noInjs hinj, Bool.not_false, Bool.and_true, decide_eq_true_eq]
  rfl

theorem lsa_stores {port : Fin 4} {m : Lsa} {db : List DbEntry} (hexec : exec (.lsa port m) s = .next (refreshOwn (dbChanged (lsaStored port m db s))))
    (hdb : ∀ x ∈ db, x ∈ s.fb.db ∨ x = ⟨m, s.clk.ms⟩) : ∃ t, exec (.lsa port m) s = .next t ∧
    onlyIn [.fb, .mb, .pf, .ev, .gn, .out] s t ∧ ∀ x ∈ t.fb.db, x ∈ s.fb.db ∨ x = ⟨m, s.clk.ms⟩ := by
  refine ⟨_, hexec, onlyIn_mono (frame_execLsa port m s _ hexec) rfl, fun x hx => hdb x ?_⟩
  have hmem := ((shrinks_dbChanged _).trans (shrinks_refreshOwn _)).db hx
  rwa [(lsaStored_fb port m db s).1] at hmem

theorem mem_renewed {m : Lsa} {x : DbEntry} (h : x ∈ renewed m s) : x ∈ s.fb.db ∨ x = ⟨m, s.clk.ms⟩ := by
  obtain ⟨y, hy, rfl⟩ := List.mem_map.mp h
  split
  · exact .inr rfl
  · exact .inl hy

theorem lsa_known_cases (port : Fin 4) (m : Lsa) (e : DbEntry) (hon : portOn s port.val = true) (hother : m.uid ≠ uid)
    (he : s.fb.db.find? (fun e => e.lsa.uid == m.uid) = some e) :
    (m.seq ≤ e.lsa.seq → exec (.lsa port m) s = .next s) ∧
    (e.lsa.seq < m.seq → lsaBody e.lsa = lsaBody m → ∃ t, exec (.lsa port m) s = .next t ∧ onlyIn [.fb] s t ∧
      t.fb.db = s.fb.db.map (fun x => if x.lsa.uid = m.uid then ⟨m, s.clk.ms⟩ else x) ∧ t.fb.ports = s.fb.ports) ∧
    (e.lsa.seq < m.seq → lsaBody e.lsa ≠ lsaBody m → ∃ t, exec (.lsa port m) s = .next t ∧ onlyIn [.fb, .mb, .pf, .ev, .gn, .out] s t ∧
      ∀ x ∈ t.fb.db, x ∈ s.fb.db ∨ x = ⟨m, s.clk.ms⟩) := by
  have hexec := lsa_known port m e hon hother he
  refine ⟨fun hseq => ?_, fun hseq hbody => ?_, fun hseq hbody => ?_⟩
  · rw [hexec, if_neg (by omega)]
  · rw [if_pos hseq, if_pos hbody] at hexec
    obtain ⟨hdb, hports⟩ := lsaStored_fb port m (renewed m s) s
    exact ⟨_, hexec, onlyIn_step (frame_fbFlood _ _ _) rfl (frame_updFb _ s), hdb, hports⟩
  · rw [if_pos hseq, if_neg hbody] at hexec
    exact lsa_stores hexec fun x hx => mem_renewed hx

theorem lsa_new_cases (port : Fin 4) (m : Lsa) (hinj : s.ev.injs = []) (hon : portOn s port.val = true) (hother : m.uid ≠ uid)
    (he : s.fb.db.find? (fun e => e.lsa.uid == m.uid) = none) :
    (47 ≤ s.fb.db.length → exec (.lsa port m) s = .next (happen detDatabaseOverflow 0 0 s)) ∧
    (s.fb.db.length < 47 → ∃ t, exec (.lsa port m) s = .next t ∧ onlyIn [.fb, .mb, .pf, .ev, .gn, .out] s t ∧
      ∀ x ∈ t.fb.db, x ∈ s.fb.db ∨ x = ⟨m, s.clk.ms⟩) := by
  have hexec := lsa_new port m hinj hon hother he
  refine ⟨fun hfull => ?_, fun hroom => ?_⟩
  · rw [hexec, if_neg (by omega)]
  · rw [if_pos hroom] at hexec
    exact lsa_stores hexec fun x hx => by simpa using hx

/-! ### ASSIGN (R253, R274) -/

theorem assign_other (port : Fin 4) (target node stamp : Nat) (h : portOn s port.val = false ∨ 32 < node) :
    exec (.assign port target node stamp) s = .next s :=
  congrArg Host.Outcome.next (if_neg (by simp; exact fun hon => by rcases h with h | h; exacts [absurd hon (by rw [h]; decide), h]))

theorem assign_eq (port : Fin 4) (target : Nat) {node : Nat} (stamp : Nat) (hon : portOn s port.val = true) (hnode : node ≤ 32) :
    exec (.assign port target node stamp) s = .next (refreshOwn (passAssign (some port.val) target node stamp s)) :=
  congrArg Host.Outcome.next (if_pos (by simp [hon, hnode]))

theorem assign_known (port : Fin 4) {target node stamp : Nat} (hon : portOn s port.val = true) (hnode : node ≤ 32)
    (hold : ∃ x, getKey target s.fb.assigns = some x ∧ stamp ≤ x) (hsteady : Steady s) : exec (.assign port target node stamp) s = .next s := by
  obtain ⟨x, hx, hle⟩ := hold
  have hpass : passAssign (some port.val) target node stamp s = s := by
    unfold passAssign
    rw [if_pos (by simpa [hx] using hle)]
  rw [assign_eq port target stamp hon hnode, hpass, refreshOwn_steady hsteady]

theorem told_closeFabricSessions (s : State) : Told { s with mb := { s.mb with relayed := [] } } (closeFabricSessions s) :=
  told_foldl (fun x n => (said_closeSession n 6 x).toTold) _ _

/-- No session bound over the fabric is left. -/
theorem closeFabricSessions_ends (s : State) : ∀ x ∈ (closeFabricSessions s).mb.sessions, x.binding.transport ≠ .fabric := by
  intro x hx hfab
  have hfold := foldl_filter (proj := fun st => st.mb.sessions) (fun st (n : Nat) => closeSession_sessions n 6 st)
    ((s.mb.sessions.filter (fun x => x.binding.transport == .fabric)).map Sess.num) { s with mb := { s.mb with relayed := [] } }
  rw [closeFabricSessions, hfold, List.mem_filter, List.all_eq_true] at hx
  obtain ⟨hmem, hall⟩ := hx
  have hself := hall x.num (List.mem_map_of_mem (List.mem_filter.mpr ⟨hmem, by simpa using hfab⟩))
  simp at hself

theorem takeNumber_place (node stamp : Nat) (s : State) : myNode (takeNumber node stamp s) = node ∧ (takeNumber node stamp s).fb.stamp = stamp ∧
    (takeNumber node stamp s).fb.lost = false ∧ (takeNumber node stamp s).fb.db = [] ∧ (takeNumber node stamp s).fb.flooded = none ∧
    ∀ x ∈ (takeNumber node stamp s).mb.sessions, x.binding.transport ≠ .fabric := by
  have hfb := takeNumber_fb node stamp s
  refine ⟨?_, by rw [hfb]; rfl, by rw [hfb]; rfl, by rw [hfb]; rfl, by rw [hfb]; rfl, closeFabricSessions_ends _⟩
  calc myNode (takeNumber node stamp s)
      = paramN (fabricRestart (updFb (fun b => { b with lost := false }) (storeNode node stamp s))) pFbNode := (told_closeFabricSessions _).paramN _
    _ = node := by
      have hset : isSetting pFbNode = true := by decide +kernel
      simp only [paramN, param, hset, if_true, fabricRestart, storeNode, writeSettings, updFb_pf, List.foldl_cons, List.foldl_nil, getKey_setKey,
        show (decide (pFbNode = pRsWdgPeriod) || decide (pFbNode = pRsRstoutL2)) = false from rfl, Bool.and_false]
      rfl

theorem assign_takes (port : Fin 4) {target node stamp : Nat} (hon : portOn s port.val = true) (hpos : 1 ≤ node) (hnode : node ≤ 32) (htarget : target = uid)
    (hnew : ∀ x, getKey target s.fb.assigns = some x → x < stamp) : ∃ t, exec (.assign port target node stamp) s = .next t ∧ myNode t = node ∧
      t.fb.stamp = stamp ∧ t.fb.lost = false ∧ (∀ x ∈ t.mb.sessions, x.binding.transport ≠ .fabric) ∧ onlyIn [.fb, .mb, .pf, .ev, .gn, .out] s t := by
  have hexec := assign_eq port target stamp hon hnode
  have hpass : passAssign (some port.val) target node stamp s =
      takeNumber node stamp (fbFlood (some port.val) (.assign target node stamp) (remembered target stamp s)) := by
    unfold passAssign
    rw [if_neg (by cases hx : getKey target s.fb.assigns with | none => simp | some x => simpa using hnew x hx)]
    exact if_pos htarget
  obtain ⟨hme, hstamp, hlost, hdb, hflood, hsess⟩ :=
    takeNumber_place node stamp (fbFlood (some port.val) (.assign target node stamp) (remembered target stamp s))
  rw [hpass] at hexec
  generalize takeNumber node stamp _ = u at hexec hme hstamp hlost hdb hsess
  have hkeeps : numberLost (pruneDb u) = false := by simp [numberLost, pruneDb, updFb_fb, hdb]
  have hf : Follows u (refreshOwn u) := refreshOwn_follows (by simp [hdb]) (.inl (by omega)) hkeeps
  refine ⟨_, hexec, hf.myNode.trans hme, hf.stamp.trans hstamp, hf.lost.trans hlost, fun x hx => ?_, onlyIn_mono (frame_execAssign _ _ _ _ s _ hexec) rfl⟩
  obtain ⟨y, hy, hkey⟩ := List.mem_map.mp (hf.sessions.subset (List.mem_map_of_mem (f := sessKey) hx))
  have hbinding : y.binding = x.binding := congrArg (·.2) hkey
  exact hbinding ▸ hsess y hy

/-! ### Verdicts (R267) -/

theorem verdict_old (port : Fin 4) (m : VerdictMsg) (h : portOn s port.val = false ∨ m.gen ≤ (latestGen s).gen) : exec (.verdict port m) s = .next s :=
  congrArg Host.Outcome.next (if_neg (by simp; exact fun hon => by rcases h with h | h; exacts [absurd hon (by rw [h]; decide), h]))

theorem verdict_new (port : Fin 4) (m : VerdictMsg) (hon : portOn s port.val = true) (hnew : (latestGen s).gen < m.gen) :
    ∃ t, exec (.verdict port m) s = .next t ∧ onlyIn (.fb :: tells) s t ∧
      ∃ g, t.fb.waiting = s.fb.waiting ++ [g] ∧ g.gen = m.gen ∧ g.frame = m.frame ∧ g.cells = m.cells := by
  obtain ⟨paths, hexec⟩ : ∃ paths, exec (.verdict port m) s = .next (addGeneration ⟨m.gen, m.frame, m.cells, paths⟩
      (fbFlood (some port.val) (.verdict m) s)) := ⟨_, congrArg Host.Outcome.next (if_pos (by simp [hon, hnew]))⟩
  refine ⟨_, hexec, onlyIn_mono (frame_execVerdict port m s _ hexec) rfl, ⟨m.gen, m.frame, m.cells, paths⟩, ?_, rfl, rfl, rfl⟩
  have hsent := congrArg State.fb (sent_fbFlood (some port.val) (.verdict m) s)
  rw [(told_addGeneration _ _).fb, queued, updFb_fb, hsent]

theorem verdictInForce_none (h : ∀ g ∈ s.fb.waiting, s.clk.frame < g.frame) : exec .verdictInForce s = .next s := by
  have hnone : (s.fb.waiting.filter (fun g => decide (g.frame ≤ s.clk.frame))).getLast? = none := by simpa using h
  show execVerdictInForce s = _
  rw [execVerdictInForce, hnone]

theorem verdictInForce_some {g : Generation} (h : (s.fb.waiting.filter (fun g => decide (g.frame ≤ s.clk.frame))).getLast? = some g) :
    exec .verdictInForce s = .next { s with fb := { s.fb with
      force := g, waiting := s.fb.waiting.filter (fun x => decide (s.clk.frame < x.frame)) } } := by
  show execVerdictInForce s = _
  rw [execVerdictInForce, h]
  rfl

end Sys2Proof.Proofs
end

section
/-!
PROOFS. Ports, neighbours and link delays (R247, R250, R258, R270) for O43.
-/

namespace Sys2Proof.Proofs

open Sys2Proof.Machine Sys2Proof.Safety

variable {s : State}

theorem fbPort_updPort {p : Nat} (f : FbPort → FbPort) (hlen : p < s.fb.ports.length) : fbPort (updPort p f s) p = f (fbPort s p) := by
  rw [fbPort, updPort, updFb_fb, nth_updAt _ _ _ _ _ hlen, if_pos rfl, fbPort]

/-- Whether a port may carry anything now. -/
def live (s : State) (p : Nat) : Prop := portOn s p = true ∧ (fbPort s p).link = true

theorem live_iff (s : State) (p : Nat) : (portOn s p && (fbPort s p).link) = true ↔ live s p := Bool.and_eq_true_iff

theorem dead_iff (s : State) (p : Nat) : (!portOn s p || !(fbPort s p).link) = true ↔ ¬live s p := by
  simp only [live, Bool.or_eq_true, Bool.not_eq_true', not_and_or, Bool.not_eq_true]

/-- A message waits to leave on a port. -/
def leaving (p : Nat) (m : FbMsg) (s : State) : State := { s with fb := { s.fb with tx := s.fb.tx ++ [⟨p, m⟩] } }

theorem fbSend_live {p : Nat} (m : FbMsg) (h : live s p) : fbSend p m s = leaving p m s := if_pos ((live_iff s p).mpr h)

theorem fbSend_dead {p : Nat} (m : FbMsg) (h : ¬live s p) : fbSend p m s = s := if_neg (mt (live_iff s p).mp h)

/-! ### HELLO (R250) -/

variable (port : Fin 4)

/-- The HELLOs in a row with one of this sender. -/
def helloRow (s : State) (p sender : Nat) : Nat :=
  if (decide ((fbPort s p).uid = sender) && !elapsed s (fbPort s p).last 30) = true then min 3 ((fbPort s p).row + 1) else 1

/-- Whether the neighbour is up after a HELLO. -/
def helloUp (s : State) (p sender seen : Nat) : Bool :=
  ((fbPort s p).up && (fbPort s p).uid == sender) || (decide (3 ≤ helloRow s p sender) && seen == uid)

/-- A port that has heard its neighbour. -/
def heard (p sender node nport seen : Nat) (s : State) : State :=
  updPort p (fun x => { x with
    uid := sender, node := node, nport := nport, row := helloRow s p sender, last := s.clk.ms, up := helloUp s p sender seen }) s

theorem hello_dead (sender node nport seen cost : Nat) (h : ¬live s port.val) : exec (.hello port sender node nport seen cost) s = .next s :=
  congrArg Host.Outcome.next (if_pos ((dead_iff s port.val).mpr h))

theorem hello_live (sender node nport seen cost : Nat) (h : live s port.val) :
    exec (.hello port sender node nport seen cost) s = .next (refreshOwn (heard port.val sender node nport seen s)) :=
  congrArg Host.Outcome.next (if_neg (mt (dead_iff s port.val).mp (not_not_intro h)))

theorem hello_heard (sender node nport seen cost : Nat) (hlen : s.fb.ports.length = 4) (h : live s port.val) (hnode : myNode s ≠ 0)
    (hdb : ∀ e ∈ s.fb.db, e.lsa.uid ≠ uid) : ∃ t, exec (.hello port sender node nport seen cost) s = .next t ∧
      onlyIn [.fb, .mb, .pf, .ev, .gn, .out] s t ∧ fbPort t port = { fbPort s port with
        uid := sender, node := node, nport := nport, row := helloRow s port.val sender, last := s.clk.ms, up := helloUp s port.val sender seen } := by
  have hexec := hello_live port sender node nport seen cost h
  have hports := refreshOwn_ports (s := heard port.val sender node nport seen s) hdb hnode
  refine ⟨_, hexec, onlyIn_mono (frame_execHello port sender node nport seen cost s _ hexec) rfl, ?_⟩
  rw [fbPort, hports]
  exact fbPort_updPort _ (port.isLt.trans_eq hlen.symm)

theorem helloRow_next {p sender : Nat} (huid : (fbPort s p).uid = sender) (hin : elapsed s (fbPort s p).last 30 = false) :
    helloRow s p sender = min 3 ((fbPort s p).row + 1) := if_pos (by simp [huid, hin])

theorem helloRow_first {p sender : Nat} (huid : (fbPort s p).uid ≠ sender) : helloRow s p sender = 1 := if_neg (by simp [huid])

theorem helloUp_stays {p sender : Nat} (seen : Nat) (hup : (fbPort s p).up = true) (huid : (fbPort s p).uid = sender) : helloUp s p sender seen = true := by
  simp [helloUp, hup, huid]

theorem helloUp_third {p sender seen : Nat} (huid : (fbPort s p).uid = sender) (hin : elapsed s (fbPort s p).last 30 = false) (hrow : 2 ≤ (fbPort s p).row)
    (hseen : seen = uid) : helloUp s p sender seen = true := by
  simp only [helloUp, helloRow_next huid hin, hseen, Bool.or_eq_true, Bool.and_eq_true, decide_eq_true_eq, beq_self_eq_true, and_true]
  omega

theorem helloUp_other {p sender : Nat} (seen : Nat) (huid : (fbPort s p).uid ≠ sender) : helloUp s p sender seen = false := by
  simp [helloUp, helloRow_first huid, huid]

theorem helloSend_eq : exec (.helloSend port) s =
    .next (fbSend port.val (.hello uid (myNode s) port.val (fbPort s port.val).uid (paramN s (pFbLinkCost port.val))) s) := rfl

/-! ### A neighbour or a link lost (R250, R270) -/

theorem neighbourDown_up (p : Nat) (hlen : p < s.fb.ports.length) : (fbPort (neighbourDown p s) p).up = false ∧
    ((fbPort s p).link = false → (fbPort (neighbourDown p s) p).link = false) := by
  have hport := fbPort_updPort (p := p) (fun x => { x with up := false, row := 0, uid := 0, node := 0, delays := [] }) hlen
  have hs := (shrinks_dbChanged (updPort p (fun x => { x with up := false, row := 0, uid := 0, node := 0, delays := [] }) s)).trans (shrinks_refreshOwn _)
  exact ⟨hs.up p (by rw [hport]), fun hl => hs.link p (by rw [hport]; exact hl)⟩

theorem neighbourTimeout_eq : exec (.neighbourTimeout port) s =
    .next (if ((fbPort s port).up && elapsed s (fbPort s port).last 30) = true then neighbourDown port.val s else s) := rfl

theorem neighbourTimeout_waits (h : (fbPort s port).up = false ∨ s.clk.ms < (fbPort s port).last + 30) : exec (.neighbourTimeout port) s = .next s := by
  rw [neighbourTimeout_eq, if_neg]
  rcases h with h | h
  · simp [h]
  · simp [elapsed, h]

theorem neighbourTimeout_ends (hlen : s.fb.ports.length = 4) (hup : (fbPort s port).up = true) (hlate : (fbPort s port).last + 30 ≤ s.clk.ms) :
    ∃ t, exec (.neighbourTimeout port) s = .next t ∧ (fbPort t port).up = false ∧ onlyIn [.fb, .mb, .pf, .ev, .gn, .out] s t := by
  have hexec : exec (.neighbourTimeout port) s = .next (neighbourDown port.val s) := by
    rw [neighbourTimeout_eq, if_pos (by simp [hup, elapsed, hlate])]
  exact ⟨_, hexec, (neighbourDown_up port.val (port.isLt.trans_eq hlen.symm)).1, onlyIn_mono (frame_execNeighbourTimeout _ s _ hexec) rfl⟩

theorem linkDown_eq (hinj : s.ev.injs = []) : exec (.linkDown port) s = .next (if (fbPort s port).link = true then linkDown port.val s else s) := by
  show execLinkDown port s = _
  simp only [execLinkDown, forced_of_noInjs hinj, Bool.or_false]

/-- A link that is down counts once more. -/
def unlinked (p : Nat) (s : State) : State := updPort p (fun x => { x with link := false, downs := satU 16 (x.downs + 1), lowSince := none }) s

theorem linkDown_ends (hinj : s.ev.injs = []) (hlen : s.fb.ports.length = 4) (hlink : (fbPort s port).link = true) :
    ∃ t, exec (.linkDown port) s = .next t ∧ (fbPort t port).link = false ∧ (fbPort t port).up = false ∧
      isPresent t detLinkDown (port.val + 1) = true ∧ onlyIn [.fb, .mb, .pf, .ev, .gn, .out] s t := by
  have hexec := linkDown_eq port hinj
  rw [if_pos hlink] at hexec
  have hp : port.val < s.fb.ports.length := port.isLt.trans_eq hlen.symm
  have hdown := neighbourDown_up (s := unlinked port.val s) port.val (by simpa [unlinked, updPort, length_updAt] using hp)
  have htold : Told (neighbourDown port.val (unlinked port.val s)) (linkDown port.val s) := told_beginCond detLinkDown (port.val + 1) 0 _
  have hport := htold.follows.fbPort port.val
  refine ⟨_, hexec, ?_, ?_, isPresent_begun _ _ _ _, onlyIn_mono (frame_execLinkDown _ s _ hexec) rfl⟩
  · rw [hport]
    exact hdown.2 (by rw [unlinked, fbPort_updPort _ hp])
  · rw [hport]
    exact hdown.1

/-! ### A link up or of low quality (R247, R270) -/

/-- A port whose link has come up. -/
def linked (p : Nat) (s : State) : State := updPort p (fun p => { p with link := true, up := false, row := 0, lowSince := none }) s

theorem linkUp_off (h : portOn s port.val = false) : exec (.linkUp port) s = .next s := congrArg Host.Outcome.next (if_neg (by rw [h]; decide))

theorem linkUp_ends (hlen : s.fb.ports.length = 4) (hon : portOn s port.val = true) : ∃ t, exec (.linkUp port) s = .next t ∧
    fbPort t port = { fbPort s port with link := true, up := false, row := 0, lowSince := none } ∧
    isPresent t detLinkDown (port.val + 1) = false ∧ onlyIn (.fb :: tells) s t := by
  have hexec : exec (.linkUp port) s = .next (detect detLinkDown (port.val + 1) false 0 (linked port.val s)) := congrArg Host.Outcome.next (if_pos hon)
  refine ⟨_, hexec, ?_, isPresent_detect _ _ _ _ _, onlyIn_mono (frame_execLinkUp _ s _ hexec) rfl⟩
  rw [fbPort, (told_detect _ _ _ _ _).fb]
  exact fbPort_updPort _ (port.isLt.trans_eq hlen.symm)

/-- A port with a signal quality, low since a time or not. -/
def qualified (p sqi : Nat) (low : Option Nat) (s : State) : State := updPort p (fun p => { p with sqi := min sqi 7, lowSince := low }) s

theorem linkDegraded_eq (sqi : Nat) (hinj : s.ev.injs = []) (hlink : (fbPort s port).link = true) : exec (.linkDegraded port sqi) s =
    .next (if min sqi 7 < paramN s pFbSqiMin then
      (if elapsed s ((fbPort s port).lowSince.getD s.clk.ms) 1000 then
        beginCond detLinkDegraded (port.val + 1) (min sqi 7) (qualified port.val sqi (some ((fbPort s port).lowSince.getD s.clk.ms)) s)
      else qualified port.val sqi (some ((fbPort s port).lowSince.getD s.clk.ms)) s)
    else detect detLinkDegraded (port.val + 1) false 0 (qualified port.val sqi none s)) := by
  show execLinkDegraded port sqi s = _
  have hnat : (min (sqi : Int) 7).toNat = min sqi 7 := by omega
  have hiff : (min sqi 7 : Int) < (paramN s pFbSqiMin : Int) ↔ min sqi 7 < paramN s pFbSqiMin := by omega
  by_cases hlow : min sqi 7 < paramN s pFbSqiMin
  · simp only [execLinkDegraded, hlink, measured_of_noInjs hinj, hiff.mpr hlow, hlow, Bool.not_true, decide_true, if_true, hnat, Bool.false_eq_true, if_false]
    rfl
  · simp only [execLinkDegraded, hlink, measured_of_noInjs hinj, mt hiff.mp hlow, hlow, Bool.not_true, decide_false, if_false, Bool.false_eq_true]
    rfl

theorem linkDegraded_down (sqi : Nat) (hlink : (fbPort s port).link = false) : exec (.linkDegraded port sqi) s = .next s :=
  congrArg Host.Outcome.next (if_pos (by rw [hlink]; rfl))

theorem linkDegraded_ends (sqi : Nat) (hinj : s.ev.injs = []) (hlen : s.fb.ports.length = 4) (hlink : (fbPort s port).link = true) :
    ∃ t, exec (.linkDegraded port sqi) s = .next t ∧ (fbPort t port).sqi = min sqi 7 ∧ onlyIn (.fb :: tells) s t ∧
      (paramN s pFbSqiMin ≤ min sqi 7 → (fbPort t port).lowSince = none ∧ isPresent t detLinkDegraded (port.val + 1) = false) ∧
      (∀ l, min sqi 7 < paramN s pFbSqiMin → (fbPort s port).lowSince = some l → (fbPort t port).lowSince = some l ∧
        (l + 1000 ≤ s.clk.ms → isPresent t detLinkDegraded (port.val + 1) = true)) := by
  have hp : port.val < s.fb.ports.length := port.isLt.trans_eq hlen.symm
  have hport (low : Option Nat) {t : State} (ht : Told (qualified port.val sqi low s) t) :
      fbPort t port = { fbPort s port with sqi := min sqi 7, lowSince := low } := by
    rw [fbPort, ht.fb]
    exact fbPort_updPort _ hp
  have hexec := linkDegraded_eq port sqi hinj hlink
  have hframe := fun t h => onlyIn_mono (T := .fb :: tells) (frame_execLinkDegraded port sqi s t h) rfl
  by_cases hlow : min sqi 7 < paramN s pFbSqiMin
  · rw [if_pos hlow] at hexec
    by_cases hlate : elapsed s ((fbPort s port).lowSince.getD s.clk.ms) 1000 = true
    · rw [if_pos hlate] at hexec
      have hq := hport (some ((fbPort s port).lowSince.getD s.clk.ms)) (told_beginCond detLinkDegraded (port.val + 1) (min sqi 7) _)
      exact ⟨_, hexec, by rw [hq], hframe _ hexec, fun hge => absurd hlow (by omega),
        fun l _ hl => ⟨by rw [hq, hl]; rfl, fun _ => isPresent_begun _ _ _ _⟩⟩
    · rw [if_neg hlate] at hexec
      have hq := hport (some ((fbPort s port).lowSince.getD s.clk.ms)) (.refl _)
      refine ⟨_, hexec, by rw [hq], hframe _ hexec, fun hge => absurd hlow (by omega), fun l _ hl => ⟨by rw [hq, hl]; rfl, fun hle => ?_⟩⟩
      rw [hl] at hlate
      exact absurd (decide_eq_true hle) hlate
  · rw [if_neg hlow] at hexec
    have hq := hport none (told_detect detLinkDegraded (port.val + 1) false 0 _)
    exact ⟨_, hexec, by rw [hq], hframe _ hexec, fun _ => ⟨by rw [hq], isPresent_detect _ _ _ _ _⟩, fun l hl => absurd hl hlow⟩

/-! ### Link delays (R258) -/

theorem delayReq_answers (r : Nat × Nat × Nat) : exec (.delayReq port (some r)) s = .next (fbSend port.val (.delayResp r.1 r.2.1 r.2.2) s) := rfl

/-- A port under its next request identifier. -/
def asking (p : Nat) (s : State) : State := updPort p (fun x => { x with reqId := wrapU 16 ((fbPort s p).reqId + 1) }) s

theorem delayReq_asks : exec (.delayReq port none) s = .next (if (portOn s port && (fbPort s port).link) = true then
    fbSend port.val (.delayReq (wrapU 16 ((fbPort s port).reqId + 1))) (asking port.val s) else s) := rfl

theorem delayReq_dead (h : ¬live s port.val) (r : Option (Nat × Nat × Nat)) : exec (.delayReq port r) s = .next s := by
  cases r with
  | some r => rw [delayReq_answers, fbSend_dead _ h]
  | none => rw [delayReq_asks, if_neg (mt (live_iff s port.val).mp h)]

theorem delayReq_live (hlen : s.fb.ports.length = 4) (h : live s port.val) : ∃ t, exec (.delayReq port none) s = .next t ∧
    (fbPort t port).reqId = wrapU 16 ((fbPort s port).reqId + 1) ∧ onlyIn [.fb] s t ∧
    t.fb.tx = s.fb.tx ++ [⟨port.val, .delayReq (wrapU 16 ((fbPort s port).reqId + 1))⟩] := by
  have hp : port.val < s.fb.ports.length := port.isLt.trans_eq hlen.symm
  have hport := fbPort_updPort (fun x => { x with reqId := wrapU 16 ((fbPort s port).reqId + 1) }) hp
  have hlive : live (asking port.val s) port.val := ⟨h.1, (congrArg FbPort.link hport).trans h.2⟩
  have hexec := delayReq_asks (s := s) port
  rw [if_pos ((live_iff s port.val).mpr h), fbSend_live _ hlive] at hexec
  exact ⟨_, hexec, congrArg FbPort.reqId hport, frame_execDelayReq port none s _ hexec, rfl⟩

theorem delayResp_live {id : Nat} (t1 t2 t3 t4 : Int) (h : live s port.val) (hid : (fbPort s port).reqId = id) :
    exec (.delayResp port id t1 t2 t3 t4) s =
      .next (updPort port.val (fun p => { p with delays := pushRing 8 p.delays (Int.tdiv ((t4 - t1) - (t3 - t2)) 2) }) s) :=
  congrArg Host.Outcome.next (if_pos (by rw [(live_iff s port.val).mpr h]; simpa using hid))

theorem delayResp_other {id : Nat} (t1 t2 t3 t4 : Int) (hid : (fbPort s port).reqId ≠ id) : exec (.delayResp port id t1 t2 t3 t4) s = .next s :=
  congrArg Host.Outcome.next (if_neg (by simp [hid]))

end Sys2Proof.Proofs
end

section
/-!
PROOFS. The reference's time and Cream cells (R240, R260 to R264), and what settles O43.
-/

namespace Sys2Proof.Proofs

open Sys2Proof.Machine Sys2Proof.Safety

variable {s : State} (port : Fin 4)

/-! ### TIME (R240, R260) -/

/-- The reference's message is kept, with its leap seconds, and flooded on. -/
def timeHeard (port : Fin 4) (msg : Bytes) (s : State) : State :=
  fbFlood (some port.val) (.time msg) (updTime (fun t => { t with refMsg := msg, leap := rdN msg 31 1 }) s)

theorem timeHeard_time (msg : Bytes) (s : State) : (timeHeard port msg s).gn.time = { s.gn.time with refMsg := msg, leap := rdN msg 31 1 } ∧
    (timeHeard port msg s).clk = s.clk := by
  have hsent : timeHeard port msg s = _ := sent_fbFlood (some port.val) (.time msg) (updTime (fun t => { t with refMsg := msg, leap := rdN msg 31 1 }) s)
  exact ⟨by rw [hsent]; rfl, by rw [hsent]; rfl⟩

/-- Module time is placed by the reference's message. -/
def timePlaced (msg : Bytes) (s : State) : State :=
  acceptTime 3 (1000 * rdI msg 8 8) (satU 32 (rdN msg 20 4 + 1000)) 0
    (if bit (rdN msg 30 1) 2 then { s with clk := { s.clk with established := true } } else s)

theorem time_other (msg : Bytes) (h : portOn s port.val = false ∨ s.fb.ref = uid ∨ msg.length ≠ 48) : exec (.time port msg) s = .next s := by
  refine congrArg Host.Outcome.next (if_pos ?_)
  simp only [Bool.or_eq_true, Bool.not_eq_true', decide_eq_true_eq]
  tauto

theorem time_newer {msg : Bytes} (hon : portOn s port.val = true) (href : s.fb.ref ≠ uid) (hlen : msg.length = 48)
    (hnew : s.gn.time.refMsg = [] ∨ rdN s.gn.time.refMsg 0 8 < rdN msg 0 8) : exec (.time port msg) s =
      .next (if ((s.gn.time.source != 3 && (s.gn.time.st == .locked || s.gn.time.st == .recovering)) || decide (rdN msg 28 1 = 1)) = true then
        timeHeard port msg s else timePlaced msg (timeHeard port msg s)) := by
  refine congrArg Host.Outcome.next ((if_neg ?_).trans rfl)
  simp only [Bool.or_eq_true, Bool.not_eq_true', decide_eq_true_eq, Bool.and_eq_true, hon, hlen, List.isEmpty_eq_false_iff]
  rcases hnew with hnew | hnew
  · simp [hnew, href]
  · simp [Nat.not_le.mpr hnew, href]

theorem timePlaced_accepted (msg : Bytes) (x : State) : ∃ y : State, y.gn = x.gn ∧
    TimeAccepted 3 (1000 * rdI msg 8 8) (satU 32 (rdN msg 20 4 + 1000)) y (timePlaced msg x) :=
  ⟨_, by split <;> rfl, timeAccepted_acceptTime _ _ _ _ _⟩

theorem time_taken {msg : Bytes} (hon : portOn s port.val = true) (href : s.fb.ref ≠ uid) (hlen : msg.length = 48)
    (hnew : s.gn.time.refMsg = [] ∨ rdN s.gn.time.refMsg 0 8 < rdN msg 0 8) : ∃ t, exec (.time port msg) s = .next t ∧ t.gn.time.refMsg = msg ∧
      t.gn.time.leap = rdN msg 31 1 ∧ onlyIn (.clk :: .gn :: .fb :: .free :: tells) s t ∧
      ((s.gn.time.source ≠ 3 ∧ s.gn.time.st = .locked ∨ rdN msg 28 1 = 1) → t.gn.time = { s.gn.time with
        refMsg := msg, leap := rdN msg 31 1 } ∧ t.clk = s.clk) ∧
      (s.gn.time.source = 3 → rdN msg 28 1 ≠ 1 → t.gn.time.source = 3 ∧ t.gn.time.meas = 100 * (1000 * rdI msg 8 8) ∧
        t.gn.time.unc = satU 32 (rdN msg 20 4 + 1000)) := by
  have hexec := time_newer port hon href hlen hnew
  obtain ⟨htime, hclk⟩ := timeHeard_time port msg s
  have hframe := fun t h => onlyIn_mono (T := .clk :: .gn :: .fb :: .free :: tells) (frame_execTime port msg s t h) rfl
  by_cases hown : ((s.gn.time.source != 3 && (s.gn.time.st == .locked || s.gn.time.st == .recovering)) || decide (rdN msg 28 1 = 1)) = true
  · rw [if_pos hown] at hexec
    refine ⟨_, hexec, by rw [htime], by rw [htime], hframe _ hexec, fun _ => ⟨htime, hclk⟩, fun hsource hnone => ?_⟩
    simp [hsource, hnone] at hown
  · rw [if_neg hown] at hexec
    obtain ⟨y, hy, hacc⟩ := timePlaced_accepted msg (timeHeard port msg s)
    refine ⟨_, hexec, ?_, ?_, hframe _ hexec, fun hkept => ?_, fun _ _ => ⟨hacc.source, hacc.meas.trans (Int.mul_comm _ _), hacc.unc⟩⟩
    · rw [hacc.refMsg, hy, htime]
    · rw [hacc.leap, hy, htime]
    · refine absurd ?_ hown
      rcases hkept with ⟨hsource, hst⟩ | hnone
      · simp [hsource, hst]
      · simp [hnone]

/-! ### Cream cells (R262 to R264) -/

variable {good : Bool} {src dst : Nat} {secondary : Bool} {p : Bytes}

theorem creamCell_dead (h : ¬live s port.val) : exec (.creamCellReceive port good src dst secondary p) s = .next s :=
  congrArg Host.Outcome.next (if_pos ((dead_iff s port.val).mpr h))

theorem creamCell_live (h : live s port.val) : exec (.creamCellReceive port good src dst secondary p) s = .next (if !good then
      updPort port.val (fun x => { x with fcs := satU 16 (x.fcs + 1) }) { s with fb := { s.fb with framesBad := wrapU 32 (s.fb.framesBad + 1) } }
    else if p.length ≠ 46 || rdN p 0 1 ≠ 1 then { s with fb := { s.fb with framesBad := wrapU 32 (s.fb.framesBad + 1) } }
    else if dst = myNode s && dst ≠ 0 then creamAccept src (rdN p 1 1 % 64) p s
    else if 31 ≤ rdN p 2 1 % 32 then s
    else ((pathOf s src (rdN p 1 1 % 64)).map (fun c => sendCopy secondary (if secondary then c.secondary else c.primary) src dst
      (splice p 2 (u8 (rdN p 2 1 % 32 + 1))) s)).getD s) := by
  refine congrArg Host.Outcome.next ((if_neg (mt (dead_iff s port.val).mp (not_not_intro h))).trans ?_)
  cases pathOf s src (rdN p 1 1 % 64) <;> rfl

theorem creamCell_bad (h : live s port.val) (hgood : good = false) : exec (.creamCellReceive port good src dst secondary p) s =
    .next (updPort port.val (fun x => { x with fcs := satU 16 (x.fcs + 1) }) { s with fb := { s.fb with framesBad := wrapU 32 (s.fb.framesBad + 1) } }) := by
  rw [creamCell_live port h, if_pos (by rw [hgood]; rfl)]

theorem creamCell_short (h : live s port.val) (hgood : good = true) (hlen : p.length ≠ 46) : exec (.creamCellReceive port good src dst secondary p) s =
    .next { s with fb := { s.fb with framesBad := wrapU 32 (s.fb.framesBad + 1) } } := by
  rw [creamCell_live port h, if_neg (by rw [hgood]; decide), if_pos (by simp [hlen])]

theorem creamCell_sound (h : live s port.val) (hgood : good = true) (hlen : p.length = 46) (hkind : rdN p 0 1 = 1) :
    exec (.creamCellReceive port good src dst secondary p) s = .next (if dst = myNode s && dst ≠ 0 then creamAccept src (rdN p 1 1 % 64) p s
      else if 31 ≤ rdN p 2 1 % 32 then s
      else ((pathOf s src (rdN p 1 1 % 64)).map (fun c => sendCopy secondary (if secondary then c.secondary else c.primary) src dst
        (splice p 2 (u8 (rdN p 2 1 % 32 + 1))) s)).getD s) := by
  rw [creamCell_live port h, if_neg (by rw [hgood]; decide), if_neg (by simp [hlen, hkind])]

theorem creamCell_forwards (h : live s port.val) (hgood : good = true) (hlen : p.length = 46) (hkind : rdN p 0 1 = 1) (hdst : dst ≠ myNode s) :
    (31 ≤ rdN p 2 1 % 32 → exec (.creamCellReceive port good src dst secondary p) s = .next s) ∧
    (rdN p 2 1 % 32 < 31 → pathOf s src (rdN p 1 1 % 64) = none → exec (.creamCellReceive port good src dst secondary p) s = .next s) ∧
    (∀ c, rdN p 2 1 % 32 < 31 → pathOf s src (rdN p 1 1 % 64) = some c → exec (.creamCellReceive port good src dst secondary p) s = .next
      (sendCopy secondary (if secondary then c.secondary else c.primary) src dst (splice p 2 (u8 (rdN p 2 1 % 32 + 1))) s)) := by
  rw [creamCell_sound port h hgood hlen hkind, if_neg (by simp [hdst])]
  refine ⟨fun hhops => ?_, fun hhops hpath => ?_, fun c hhops hpath => ?_⟩
  · rw [if_pos hhops]
  · rw [if_neg (Nat.not_le.mpr hhops), hpath]
    rfl
  · rw [if_neg (Nat.not_le.mpr hhops), hpath]
    rfl

theorem creamAccept_eq {src cell : Nat} {e : Bytes} (hinj : s.ev.injs = []) (he : shareEntries s 2 cell src = [e]) (hcount : rdN p 3 1 = rdN e 1 1 + 1)
    (hmset : rdN p 6 2 = msetFold s.pf.work.machineSet) : creamAccept src cell p s =
      if (rdN p 4 2 ≠ creamFrame s % 65536 || s.fb.rx.any (fun r => r.src == src && r.cell == cell)) = true then
        { s with fb := { s.fb with discarded := wrapU 32 (s.fb.discarded + 1) } }
      else { s with fb := { s.fb with rx := s.fb.rx ++ [⟨src, cell, rdN p 8 2, (List.range (rdN e 1 1 + 1)).map (fun v => rdI p (10 + 4 * v) 4)⟩] } } := by
  unfold creamAccept
  simp only [he, List.map_cons, List.map_nil, List.foldl_cons, List.foldl_nil, Nat.zero_max]
  rw [if_neg (by simp [hcount]), if_neg (by simp [hmset, forced_of_noInjs hinj])]
  rfl

theorem creamCell_accepted {e : Bytes} (hinj : s.ev.injs = []) (h : live s port.val) (hgood : good = true) (hlen : p.length = 46) (hkind : rdN p 0 1 = 1)
    (hdst : dst = myNode s) (hpos : dst ≠ 0) (he : shareEntries s 2 (rdN p 1 1 % 64) src = [e]) (hcount : rdN p 3 1 = rdN e 1 1 + 1)
    (hmset : rdN p 6 2 = msetFold s.pf.work.machineSet) :
    ((rdN p 4 2 ≠ creamFrame s % 65536 ∨ s.fb.rx.any (fun r => r.src == src && r.cell == rdN p 1 1 % 64) = true) →
      exec (.creamCellReceive port good src dst secondary p) s = .next { s with fb := { s.fb with discarded := wrapU 32 (s.fb.discarded + 1) } }) ∧
    (rdN p 4 2 = creamFrame s % 65536 → s.fb.rx.any (fun r => r.src == src && r.cell == rdN p 1 1 % 64) = false →
      exec (.creamCellReceive port good src dst secondary p) s = .next { s with fb := { s.fb with rx := s.fb.rx ++ [⟨src, rdN p 1 1 % 64, rdN p 8 2,
        (List.range (rdN e 1 1 + 1)).map (fun v => rdI p (10 + 4 * v) 4)⟩] } }) := by
  rw [creamCell_sound port h hgood hlen hkind, if_pos (by simp [← hdst, hpos]), creamAccept_eq hinj he hcount hmset]
  refine ⟨fun hdrop => ?_, fun hframe hfirst => ?_⟩
  · rw [if_pos (by simpa using hdrop)]
  · rw [if_neg (by simp [hframe, hfirst])]

theorem creamSend_none (cell : Fin 64) (h : creamOn s = false ∨ shareEntries s 1 cell.val 0 = []) : exec (.creamSend cell) s = .next s := by
  refine congrArg Host.Outcome.next (if_neg ?_)
  rcases h with h | h <;> simp [h]

theorem creamSend_copies (cell : Fin 64) {c : CellPath} (hon : creamOn s = true) (hshare : shareEntries s 1 cell.val 0 ≠ [])
    (hpath : pathOf s (myNode s) cell.val = some c) : exec (.creamSend cell) s =
      .next (sendCopy true c.secondary (myNode s) c.dst (creamPayload s cell.val true)
        (sendCopy false c.primary (myNode s) c.dst (creamPayload s cell.val false) s)) := by
  show execCreamSend cell s = _
  unfold execCreamSend
  rw [if_pos (by simp [hon, hshare]), hpath]

end Sys2Proof.Proofs
end

section
namespace Sys2Proof.Proofs

open Sys2Proof.Machine Sys2Proof.Safety

/-- Settles O43: what follows a change of the database takes LSAs away and brings no port up; a numbered module keeps its ports. -/
theorem fabricActs : Obligations.FabricActs := by
  intro s hinj hlen steady all sees
  refine ⟨fun hup => ?_, fun hup hs hdue => ?_, lsaFlood_again, lsaFlood_fresh, fun port m => ⟨lsa_other port m,
    fun e hon hother he => lsa_known_cases port m e hon hother he, fun hon hother he => lsa_new_cases port m hinj hon hother he⟩,
    lsaExpiry_none, lsaExpiry_some, fun port target node stamp => ⟨assign_other port target node stamp,
      assign_known port, assign_takes port⟩, fun port m => ⟨verdict_old port m, verdict_new port m⟩, verdictInForce_none,
    fun g hg => verdictInForce_some hg, fun port => ?_, fun cell => ⟨creamSend_none cell, fun c => creamSend_copies cell⟩⟩
  · rw [lsaFlood_eq, if_pos (by rw [hup]; rfl)]
  · rw [lsaFlood_eq, if_neg (by rw [hup]; decide), if_neg (not_not_intro hs), if_neg (by rw [hdue]; decide)]
  intro p hlive leaves
  refine ⟨fun h => ?_, fun h => ?_, fun sender node nport seen cost => ⟨hello_dead port sender node nport seen cost, fun h hnode hdb => ?_⟩,
    neighbourTimeout_waits port, neighbourTimeout_ends port hlen, fun hlink => ?_, linkDown_ends port hinj hlen, linkUp_off port, linkUp_ends port hlen,
    fun sqi => ⟨linkDegraded_down port sqi, linkDegraded_ends port sqi hinj hlen⟩, fun r h => ?_, delayReq_dead port, delayReq_live port hlen,
    fun id t1 t2 t3 t4 => ⟨delayResp_live port t1 t2 t3 t4, delayResp_other port t1 t2 t3 t4⟩, fun msg => ⟨time_other port msg, time_taken port⟩,
    fun good src dst secondary q => ⟨creamCell_dead port, creamCell_bad port, creamCell_short port, creamCell_forwards port,
      fun e => creamCell_accepted port hinj⟩⟩
  · rw [helloSend_eq, fbSend_live _ h]
    rfl
  · rw [helloSend_eq, fbSend_dead _ h]
  · obtain ⟨t, hexec, hframe, hport⟩ := hello_heard port sender node nport seen cost hlen h hnode hdb
    refine ⟨t, hexec, hframe, ?_⟩
    rw [hport]
    exact ⟨rfl, rfl, rfl, rfl, helloRow_next, helloRow_first, helloUp_stays seen, helloUp_third, helloUp_other seen⟩
  · rw [linkDown_eq port hinj, if_neg (by rw [hlink]; decide)]
  · rw [delayReq_answers, fbSend_live _ h]
    rfl

end Sys2Proof.Proofs
end

section
/-!
PROOFS. Frame alignment and the messages of the time reference (Table 9-2, R235, R237 to R239, R258, R259, R272), which settle O44.
-/

namespace Sys2Proof.Proofs

open Sys2Proof.Machine Sys2Proof.Safety

variable {s : State}

/-! ### What alignment changes (Table 9-2) -/

/-- `t` is `s` with its alignment moved: SYNC as it was received, and no other lasting condition than the foreign grid. -/
structure Aligns (s t : State) : Prop where
  fb : t.fb = { s.fb with
    align := t.fb.align, since := t.fb.since, inSince := t.fb.inSince, outSince := t.fb.outSince, rejoin := t.fb.rejoin, step := t.fb.step }
  present : ∀ code inst, code ≠ detForeignGrid → isPresent t code inst = isPresent s code inst

theorem Aligns.refl (s : State) : Aligns s s := ⟨rfl, fun _ _ _ => rfl⟩

theorem Aligns.trans {t u : State} (h : Aligns s t) (h' : Aligns t u) : Aligns s u :=
  ⟨by rw [h'.fb, h.fb], fun code inst hc => (h'.present code inst hc).trans (h.present code inst hc)⟩

theorem aligns_enter (a : AlignSt) (s : State) : Aligns s (enterAlign a s) := ⟨rfl, fun _ _ _ => rfl⟩

theorem aligns_inSince (x : Option Nat) (s : State) : Aligns s (updFb (fun b => { b with inSince := x }) s) := ⟨rfl, fun _ _ _ => rfl⟩

theorem aligns_outSince (x : Option Nat) (s : State) : Aligns s (updFb (fun b => { b with outSince := x }) s) := ⟨rfl, fun _ _ _ => rfl⟩

theorem aligns_alignStep (d : Int) (s : State) : Aligns s (alignStep d s) := ⟨rfl, fun _ _ _ => rfl⟩

theorem aligns_alignSlew (s : State) : Aligns s (alignSlew s) := ⟨rfl, fun _ _ _ => rfl⟩

/-- A move leaves the alignment state itself as it is. -/
theorem alignMove_kept (d : Int) (s : State) : Aligns s (alignMove d s) ∧ (alignMove d s).fb.align = s.fb.align := by
  unfold alignMove
  split
  · exact ⟨aligns_alignStep d s, rfl⟩
  · exact ⟨aligns_alignSlew s, rfl⟩

theorem aligns_alignMove (d : Int) (s : State) : Aligns s (alignMove d s) := (alignMove_kept d s).1

theorem aligns_happen (code inst data : Nat) (s : State) : Aligns s (happen code inst data s) :=
  ⟨by rw [(told_happen _ _ _ _).fb], fun code' inst' _ => (said_happen code inst data s).isPresent code' inst'⟩

theorem aligns_alignLost (ns d : Int) (s : State) : Aligns s (alignLost ns d s) :=
  (aligns_happen _ _ _ _).trans ((aligns_enter _ _).trans (aligns_alignMove _ _))

theorem aligns_foreign (s : State) : Aligns s (beginCond detForeignGrid 0 0 s) :=
  ⟨by rw [(told_beginCond _ _ _ _).fb], fun code inst hc => by rw [isPresent_beginCond]; simp [Ne.symm hc]⟩

theorem aligns_ite {c : Prop} [Decidable c] {a b : State} (ha : Aligns s a) (hb : Aligns s b) : Aligns s (if c then a else b) := by
  split
  · exact ha
  · exact hb

theorem aligns_alignOn (off d : Int) (s : State) : Aligns s (alignOn off d s) := by
  have henter (a : AlignSt) := aligns_enter a s
  have hleave := (henter .aligning).trans (aligns_alignMove d _)
  unfold alignOn
  extract_lets a ns lost
  split
  · exact aligns_ite ((henter _).trans (aligns_alignStep d _)) (aligns_ite ((henter _).trans (aligns_alignSlew _)) ((henter _).trans (aligns_foreign _)))
  · exact aligns_ite (aligns_ite (henter _) (aligns_inSince _ s)) ((aligns_inSince none s).trans (aligns_alignMove _ _))
  · exact aligns_ite (aligns_ite (aligns_alignLost _ _ _) (aligns_outSince _ s)) (aligns_outSince none s)
  · exact aligns_ite (aligns_ite (henter _) hleave) (aligns_ite (aligns_alignLost _ _ _) (henter _))
  · refine aligns_ite ((henter .aligning).trans (Aligns.trans ⟨?_, fun code inst hc => ?_⟩ (aligns_alignStep d _))) (.refl s)
    · rw [(told_detect _ _ _ _ _).fb]
    · exact isPresent_detect_other (.inl hc.symm) _ _ _
  · exact aligns_ite (.refl s) (aligns_ite (henter _) (henter _))

/-! ### Each state of Table 9-2 -/

/-- The offset and the frame number are right. -/
def InLine (off d : Int) : Prop := off.natAbs ≤ 1000000 ∧ d = 0

variable (off d : Int)

theorem alignOn_unaligned_idle (h : s.fb.align = .unaligned) (hidle : fnsIdle s = true) :
    (alignOn off d s).fb.align = .aligning ∧ (alignOn off d s).fb.step = some d := by
  have heq : alignOn off d s = alignStep d (enterAlign .aligning s) := by
    unfold alignOn
    rw [h]
    exact if_pos hidle
  rw [heq]
  exact ⟨rfl, rfl⟩

theorem alignOn_unaligned_busy (hd : d ≠ 0) (h : s.fb.align = .unaligned) (hbusy : fnsIdle s = false) :
    (alignOn off d s).fb.align = .foreign ∧ isPresent (alignOn off d s) detForeignGrid 0 = true := by
  have heq : alignOn off d s = beginCond detForeignGrid 0 0 (enterAlign .foreign s) := by
    unfold alignOn
    rw [h]
    exact (if_neg (by rw [hbusy]; decide)).trans (if_neg (by simp [hd]))
  rw [heq, (told_beginCond _ _ _ _).fb]
  exact ⟨rfl, isPresent_begun _ _ _ _⟩

theorem alignOn_aligning_within {i : Nat} (h : s.fb.align = .aligning) (hin : InLine off d) (hi : s.fb.inSince = some i) :
    (alignOn off d s).fb.align = (if i + 1000 ≤ s.clk.ms then AlignSt.aligned else AlignSt.aligning) := by
  have heq : alignOn off d s = if elapsed s i 1000 = true then enterAlign .aligned s else
      updFb (fun b => { b with inSince := some (b.inSince.getD s.clk.ms) }) s := by
    unfold alignOn
    rw [h, hi]
    exact if_pos (by simp [hin.1, hin.2])
  rw [heq, elapsed]
  by_cases hlate : i + 1000 ≤ s.clk.ms
  · rw [if_pos (decide_eq_true hlate), if_pos hlate]
    rfl
  · rw [if_neg (by simpa using hlate), if_neg hlate]
    exact h

theorem alignOn_aligning_out (hd : d ≠ 0) (h : s.fb.align = .aligning) (hidle : fnsIdle s = true) :
    (alignOn off d s).fb.align = .aligning ∧ (alignOn off d s).fb.step = some d ∧ (alignOn off d s).fb.inSince = none := by
  have heq : alignOn off d s = alignStep d (updFb (fun b => { b with inSince := none }) s) := by
    unfold alignOn
    rw [h]
    exact (if_neg (by simp [hd])).trans (if_pos hidle)
  rw [heq]
  exact ⟨h, rfl, rfl⟩

/-- An offset within 1 us is no loss of alignment. -/
theorem inLine_ns (h : InLine off d) : ¬2000 < (Int.tdiv off 1000).natAbs := by
  rw [Int.natAbs_tdiv]
  have := h.1
  show ¬2000 < off.natAbs / 1000
  omega

theorem inLine_kept (h : InLine off d) : ¬(decide (2000 < (Int.tdiv off 1000).natAbs) || decide (d ≠ 0)) = true := by
  simp only [Bool.or_eq_true, decide_eq_true_eq]
  exact not_or.mpr ⟨inLine_ns off d h, not_not_intro h.2⟩

theorem alignOn_aligned_within (hinj : s.ev.injs = []) (h : s.fb.align = .aligned) (hin : InLine off d) :
    (alignOn off d s).fb = { s.fb with outSince := none } := by
  have heq : alignOn off d s = updFb (fun b => { b with outSince := none }) s := by
    unfold alignOn
    rw [h, measured_of_noInjs hinj]
    exact if_neg (inLine_kept off d hin)
  rw [heq]
  rfl

theorem alignLost_align (ns : Int) : (alignLost ns d s).fb.align = .aligning := (alignMove_kept d _).2

theorem alignOn_aligned_out {o : Nat} (hd : d ≠ 0) (h : s.fb.align = .aligned) (ho : s.fb.outSince = some o) :
    (alignOn off d s).fb.align = (if o + 100 ≤ s.clk.ms then AlignSt.aligning else AlignSt.aligned) := by
  have heq : alignOn off d s = if elapsed s o 100 = true then alignLost (measured s detAlignmentLost 0 (Int.tdiv off 1000)) d s else
      updFb (fun b => { b with outSince := some (b.outSince.getD s.clk.ms) }) s := by
    unfold alignOn
    rw [h, ho]
    exact if_pos (by simp [hd])
  rw [heq, elapsed]
  by_cases hlate : o + 100 ≤ s.clk.ms
  · rw [if_pos (decide_eq_true hlate), if_pos hlate]
    exact alignLost_align _ _
  · rw [if_neg (by simpa using hlate), if_neg hlate]
    exact h

theorem alignOn_syncHold_within (hinj : s.ev.injs = []) (h : s.fb.align = .syncHold) (hin : InLine off d) : (alignOn off d s).fb.align = .aligned := by
  have heq : alignOn off d s = enterAlign .aligned s := by
    unfold alignOn
    rw [h, measured_of_noInjs hinj]
    by_cases hrejoin : s.fb.rejoin = true
    · exact (if_pos hrejoin).trans (if_pos (by simp [hin.1, hin.2]))
    · exact (if_neg hrejoin).trans (if_neg (inLine_kept off d hin))
  rw [heq]
  rfl

theorem alignOn_foreign_busy (h : s.fb.align = .foreign) (hbusy : fnsIdle s = false) : alignOn off d s = s := by
  unfold alignOn
  rw [h]
  exact if_neg (by rw [hbusy]; decide)

theorem alignOn_foreign_idle (h : s.fb.align = .foreign) (hidle : fnsIdle s = true) :
    (alignOn off d s).fb.align = .aligning ∧ isPresent (alignOn off d s) detForeignGrid 0 = false := by
  have heq : alignOn off d s = alignStep d (detect detForeignGrid 0 false 0 (enterAlign .aligning s)) := by
    unfold alignOn
    rw [h]
    exact if_pos hidle
  rw [heq]
  exact ⟨congrArg Fabric.align (told_detect detForeignGrid 0 false 0 (enterAlign .aligning s)).fb, isPresent_detect detForeignGrid 0 false 0 _⟩

/-! ### SYNC (R258, R259) -/

/-- Whether a module follows SYNC of a node on a port: it leads along the primary path to the time reference. -/
def Follower (x : State) (port ref : Nat) : Prop :=
  ¬(x.fb.ref = uid ∨ ((lsaOfUid (database x) x.fb.ref).map Lsa.node).getD 0 ≠ ref ∨ ref = 0 ∨ routePort x ref ≠ some port)

/-- A SYNC of a reference has come in. -/
def syncTaken (port : Nat) (m : SyncMsg) (off : Int) (x : State) : State :=
  updFb (fun b => { b with sync := some m, syncAt := x.clk.ms, syncPort := port, offset := off }) x

theorem sync_off (port : Fin 4) (m : SyncMsg) (rx : Int) (h : portOn s port.val = false ∨ (fbPort s port.val).link = false) :
    exec (.sync port m rx) s = .next s :=
  congrArg Host.Outcome.next (if_pos (by simpa using h))

theorem sync_live (port : Fin 4) (m : SyncMsg) (rx : Int) (hon : portOn s port.val = true) (hlink : (fbPort s port.val).link = true) :
    (¬Follower (meetRef m.ref s) port.val m.ref → exec (.sync port m rx) s = .next (meetRef m.ref s)) ∧
    (Follower (meetRef m.ref s) port.val m.ref → exec (.sync port m rx) s =
      .next (alignOn (m.corr + m.delay + linkDelay (meetRef m.ref s) port.val - rx) ((m.frame : Int) - (meetRef m.ref s).clk.frame)
        (detect detSyncLost 0 false 0 (syncTaken port.val m (m.corr + m.delay + linkDelay (meetRef m.ref s) port.val - rx) (meetRef m.ref s))))) := by
  have hexec (x : State) (h : _ = x) : exec (.sync port m rx) s = .next x := congrArg Host.Outcome.next ((if_neg (by simp [hon, hlink])).trans h)
  refine ⟨fun h => hexec _ (if_pos ?_), fun h => hexec _ (if_neg ?_)⟩
  · simpa [or_assoc] using Classical.not_not.mp h
  · simpa [Follower, or_assoc] using h

theorem sync_heard (port : Fin 4) (m : SyncMsg) (rx : Int) (hon : portOn s port.val = true) (hlink : (fbPort s port.val).link = true)
    (hheard : Follower (meetRef m.ref s) port.val m.ref) : ∃ t, exec (.sync port m rx) s = .next t ∧ t.fb.sync = some m ∧ t.fb.syncAt = s.clk.ms ∧
      t.fb.syncPort = port.val ∧ t.fb.offset = m.corr + m.delay + linkDelay (meetRef m.ref s) port.val - rx ∧ isPresent t detSyncLost 0 = false ∧
      onlyIn [.fb, .mb, .pf, .ev, .gn, .out, .free] s t := by
  have hexec := (sync_live port m rx hon hlink).2 hheard
  have hclk : (meetRef m.ref s).clk = s.clk := frame_meetRef m.ref s .clk (by decide)
  generalize meetRef m.ref s = x at hexec hclk ⊢
  have htold := told_detect detSyncLost 0 false 0 (syncTaken port.val m (m.corr + m.delay + linkDelay x port.val - rx) x)
  have halign := aligns_alignOn (m.corr + m.delay + linkDelay x port.val - rx) ((m.frame : Int) - x.clk.frame)
    (detect detSyncLost 0 false 0 (syncTaken port.val m (m.corr + m.delay + linkDelay x port.val - rx) x))
  have hfb := halign.fb
  rw [htold.fb] at hfb
  refine ⟨_, hexec, ?_, ?_, ?_, ?_, (halign.present _ _ (by decide)).trans (isPresent_detect _ _ _ _ _), onlyIn_mono (frame_execSync port m rx s _ hexec) rfl⟩
  · rw [hfb]
    rfl
  · rw [hfb, ← hclk]
    rfl
  · rw [hfb]
    rfl
  · rw [hfb]
    rfl

theorem syncSend_eq (port : Fin 4) (corr : Int) (h : inRecovery s = false) (href : s.fb.ref = uid) : exec (.syncSend port corr) s =
    .next (fbSend port.val (.sync ⟨myNode s, s.clk.frame, corr, 0, if s.fb.renumAt = 0 then 0 else s.gn.time.renumber.getD 0, s.fb.renumAt⟩) s) :=
  congrArg Host.Outcome.next ((if_neg (by rw [h]; decide)).trans (if_pos href))

theorem syncSend_on (port : Fin 4) (corr : Int) {m : SyncMsg} (h : inRecovery s = false) (href : s.fb.ref ≠ uid) (hsync : s.fb.sync = some m)
    (hport : port.val ≠ s.fb.syncPort) (hnew : elapsed s s.fb.syncAt 100 = false) : exec (.syncSend port corr) s =
      .next (fbSend port.val (.sync { m with corr := m.corr + corr, delay := m.delay + linkDelay s s.fb.syncPort }) s) := by
  refine congrArg Host.Outcome.next ((if_neg (by rw [h]; decide)).trans ((if_neg href).trans ?_))
  simp only [hsync]
  exact if_neg (by simp [hport, hnew])

theorem syncSend_none (port : Fin 4) (corr : Int) (href : s.fb.ref ≠ uid) (hsync : s.fb.sync = none) : exec (.syncSend port corr) s = .next s := by
  refine congrArg Host.Outcome.next ?_
  by_cases h : inRecovery s = true
  · exact if_pos h
  · refine (if_neg h).trans ((if_neg href).trans ?_)
    simp only [hsync]

end Sys2Proof.Proofs
end

section
/-!
PROOFS. The timers of alignment, renumbering and the time message (R235, R237 to R239, R259), and what settles O44.
-/

namespace Sys2Proof.Proofs

open Sys2Proof.Machine Sys2Proof.Safety

variable {s : State}

/-! ### ALIGNMENT_TIMER (Table 9-2) -/

theorem alignmentTimer_reference (h : s.fb.ref = uid) : exec .alignmentTimer s = .next s := congrArg Host.Outcome.next (if_pos h)

/-- SYNC is missed for 100 ms. -/
def syncMissed (s : State) : State := updFb (fun b => { b with align := .syncHold, since := s.clk.ms, inSince := none, outSince := none }) s

theorem alignmentTimer_misses (href : s.fb.ref ≠ uid) (h : s.fb.align = .aligned ∨ s.fb.align = .aligning) (hlate : elapsed s s.fb.syncAt 100 = true) :
    ∃ t, exec .alignmentTimer s = .next t ∧
      t.fb = { s.fb with align := .syncHold, since := s.clk.ms, inSince := none, outSince := none } ∧ onlyIn [.fb] s t := by
  refine ⟨syncMissed s, congrArg Host.Outcome.next ((if_neg href).trans ((if_neg ?_).trans (if_pos ?_))), rfl, frame_updFb _ s⟩
  · rcases h with h | h <;> rw [h] <;> nofun
  · simpa [hlate] using h

theorem alignmentTimer_hold (hinj : s.ev.injs = []) (href : s.fb.ref ≠ uid) (h : s.fb.align = .syncHold) : exec .alignmentTimer s =
    .next (if elapsed s s.fb.syncAt 10000 = true then enterAlign .unaligned (beginCond detSyncLost 0 0 s) else s) := by
  show execAlignmentTimer s = _
  simp [execAlignmentTimer, href, h, forced_of_noInjs hinj]

theorem alignmentTimer_lost (hinj : s.ev.injs = []) (href : s.fb.ref ≠ uid) (h : s.fb.align = .syncHold) (hlate : elapsed s s.fb.syncAt 10000 = true) :
    ∃ t, exec .alignmentTimer s = .next t ∧ t.fb.align = .unaligned ∧ isPresent t detSyncLost 0 = true ∧
      onlyIn [.fb, .mb, .pf, .ev, .gn, .out, .free] s t := by
  have hexec := alignmentTimer_hold hinj href h
  rw [if_pos hlate] at hexec
  exact ⟨_, hexec, rfl, isPresent_begun detSyncLost 0 0 s, onlyIn_mono (frame_execAlignmentTimer s _ hexec) rfl⟩

theorem alignmentTimer_aligning {i : Nat} (href : s.fb.ref ≠ uid) (h : s.fb.align = .aligning) (hnew : elapsed s s.fb.syncAt 100 = false)
    (hi : s.fb.inSince = some i) : exec .alignmentTimer s = .next (if elapsed s i 1000 = true then enterAlign .aligned s else s) := by
  show execAlignmentTimer s = _
  simp [execAlignmentTimer, href, h, hnew, hi]

theorem alignmentTimer_aligning_cases {i : Nat} (href : s.fb.ref ≠ uid) (h : s.fb.align = .aligning) (hnew : elapsed s s.fb.syncAt 100 = false)
    (hi : s.fb.inSince = some i) :
    (i + 1000 ≤ s.clk.ms → ∃ t, exec .alignmentTimer s = .next t ∧ t.fb.align = .aligned ∧ onlyIn [.fb] s t) ∧
    (s.clk.ms < i + 1000 → exec .alignmentTimer s = .next s) := by
  rw [alignmentTimer_aligning href h hnew hi, elapsed]
  refine ⟨fun hlate => ⟨enterAlign .aligned s, ?_, rfl, frame_updFb _ s⟩, fun hearly => ?_⟩
  · rw [if_pos (decide_eq_true hlate)]
  · rw [if_neg (by simpa using hearly)]

/-! ### FRAME_RENUMBER (R235) -/

/-- The module renumbers, and its time is established. -/
def renumbered (d : Int) (s : State) : State := detect detTimeNotEstablished 0 false 0 (renumber d s)

theorem frameRenumber_none (h : s.fb.ref = uid ∨ s.fb.ref = 0) (hd : s.gn.time.renumber = none) : exec .frameRenumber s = .next s := by
  show execFrameRenumber s = _
  simp [execFrameRenumber, h, hd]

theorem frameRenumber_eq {d : Int} (h : s.fb.ref = uid ∨ s.fb.ref = 0) (hd : s.gn.time.renumber = some d) : exec .frameRenumber s =
    .next (if s.fb.renumAt ≠ 0 then (if s.fb.renumAt ≤ s.clk.frame then updFb (fun b => { b with renumAt := 0 }) (renumbered d s) else s)
      else if !(database s).all (fun l => !bit l.flags 0) then s
      else if s.fb.ports.any FbPort.up then updFb (fun b => { b with renumAt := s.clk.frame + 100 }) s
      else renumbered d s) := by
  refine congrArg Host.Outcome.next ((if_pos (by simpa using h)).trans ?_)
  simp only [hd]
  rfl

theorem frameRenumber_announced {d : Int} (h : s.fb.ref = uid ∨ s.fb.ref = 0) (hd : s.gn.time.renumber = some d) (hat : s.fb.renumAt ≠ 0) :
    (s.clk.frame < s.fb.renumAt → exec .frameRenumber s = .next s) ∧
    (s.fb.renumAt ≤ s.clk.frame → ∃ t, exec .frameRenumber s = .next t ∧ t.clk.frame = (s.clk.frame + d).toNat ∧ t.fb.renumAt = 0) := by
  rw [frameRenumber_eq h hd, if_pos hat]
  refine ⟨fun hearly => ?_, fun hdue => ⟨updFb (fun b => { b with renumAt := 0 }) (renumbered d s), ?_, ?_, rfl⟩⟩
  · rw [if_neg (Nat.not_le.mpr hearly)]
  · rw [if_pos hdue]
  · exact congrArg Clock.frame (told_detect detTimeNotEstablished 0 false 0 (renumber d s)).clk

theorem frameRenumber_now {d : Int} (h : s.fb.ref = uid ∨ s.fb.ref = 0) (hd : s.gn.time.renumber = some d) (hat : s.fb.renumAt = 0) :
    ((∃ l ∈ database s, bit l.flags 0 = true) → exec .frameRenumber s = .next s) ∧
    ((∀ l ∈ database s, bit l.flags 0 = false) → s.fb.ports.any FbPort.up = true →
      exec .frameRenumber s = .next { s with fb := { s.fb with renumAt := s.clk.frame + 100 } }) ∧
    ((∀ l ∈ database s, bit l.flags 0 = false) → s.fb.ports.any FbPort.up = false → ∃ t, exec .frameRenumber s = .next t ∧
      t.clk = { s.clk with frame := (s.clk.frame + d).toNat } ∧ t.gn.time.renumber = none ∧ t.gn.time.slewing = true ∧
      t.gr.next.frame = (s.gr.next.frame + d).toNat ∧ (t.mb.exch.map TCmd.frame) = s.mb.exch.map (fun c => ((c.frame : Int) + d).toNat) ∧
      isPresent t detTimeNotEstablished 0 = false ∧ onlyIn [.clk, .mb, .pf, .ev, .gr, .cf, .gn, .fb, .out] s t) := by
  have hexec := frameRenumber_eq h hd
  rw [if_neg (not_not_intro hat)] at hexec
  refine ⟨fun ⟨l, hl, hbusy⟩ => ?_, fun hidle hup => ?_, fun hidle hup => ?_⟩
  · rw [hexec, if_pos]
    simpa using ⟨l, hl, hbusy⟩
  · rw [hexec, if_neg (by simpa using hidle), if_pos hup]
    rfl
  · rw [if_neg (by simpa using hidle), if_neg (by rw [hup]; decide)] at hexec
    have htold : Told (renumber d s) (renumbered d s) := told_detect _ _ _ _ _
    have hexch : (renumbered d s).mb.exch = (renumber d s).mb.exch := (congrArg Mailbox.exch htold.mail).trans rfl
    refine ⟨_, hexec, htold.clk, ?_, ?_, ?_, ?_, isPresent_detect _ _ _ _ _, frame_execFrameRenumber s _ hexec⟩
    · rw [htold.gn]
      rfl
    · rw [htold.gn]
      rfl
    · rw [htold.gr]
      rfl
    · rw [hexch]
      exact List.map_map

/-! ### TIME_MESSAGE_QUEUE (R237 to R239) -/

theorem timeMessageQueue_other (h : s.clk.frame % 1000 ≠ 400 ∨ s.rs.supUp = false) : exec .timeMessageQueue s = .next s := by
  refine congrArg Host.Outcome.next (if_neg ?_)
  rcases h with h | h <;> simp [h]

/-- Holdover that has become too uncertain is degraded time. -/
def timeAged (s : State) : State :=
  if s.gn.time.st = .holdover ∧ 1000 < timeUnc s s.gn.time.st 600 then
    beginCond detTimeDegraded 0 (timeUnc s s.gn.time.st 600) (updTime (fun t => { t with st := .degraded }) s)
  else s

/-- Whether a step is announced with the next message. -/
abbrev announces (s : State) : Prop := s.gn.time.step.isSome = true ∧ (s.gn.time.stepAt == 0) = true

/-- The message for a second. -/
def timeQueued (sec : Nat) (s : State) : State :=
  updTime (fun t => { t with
    msg := timeMessage s sec (if announces s then s.gn.time.step.getD 0 else 0), stepAt := if announces s then sec + 1000 else t.stepAt }) s

theorem timeMessageQueue_queues (hinj : s.ev.injs = []) (hframe : s.clk.frame % 1000 = 400) (hup : s.rs.supUp = true) :
    ∃ t, exec .timeMessageQueue s = .next t ∧ onlyIn (.gn :: .fb :: tells) s t ∧ t.gn = (timeQueued (s.clk.frame + 600) (timeAged s)).gn ∧
      ∀ code inst, isPresent t code inst = isPresent (timeAged s) code inst := by
  have hiff : (1000 : Int) < (timeUnc s s.gn.time.st 600 : Int) ↔ 1000 < timeUnc s s.gn.time.st 600 := by omega
  obtain ⟨m, hexec⟩ : ∃ m, exec .timeMessageQueue s = .next (notifyAll nTimeMessage (fun f _ => f == 0) ⟨0, m⟩
      (floodTime m (timeQueued (s.clk.frame + 600) (timeAged s)))) := by
    refine ⟨timeMessage (timeAged s) (s.clk.frame + 600) (if announces (timeAged s) then (timeAged s).gn.time.step.getD 0 else 0), ?_⟩
    show execTimeMessageQueue s = _
    unfold execTimeMessageQueue
    rw [if_pos (by simp [hframe, hup])]
    simp only [measured_of_noInjs hinj, Bool.and_eq_true, decide_eq_true_eq, hiff, Int.toNat_natCast]
    rfl
  have hsent : Sent (timeQueued (s.clk.frame + 600) (timeAged s)) (floodTime m (timeQueued (s.clk.frame + 600) (timeAged s))) := by
    unfold floodTime
    split
    · exact sent_fbFlood _ _ _
    · exact .refl _
  have hsaid := said_notifyAll nTimeMessage (fun f _ => f == 0) ⟨0, m⟩ (floodTime m (timeQueued (s.clk.frame + 600) (timeAged s)))
  refine ⟨_, hexec, onlyIn_mono (frame_execTimeMessageQueue s _ hexec) rfl, ?_, fun code inst => (hsaid.isPresent code inst).trans ?_⟩
  · rw [hsaid.gn, hsent]
  · rw [hsent]
    rfl

theorem timeAged_young (h : s.gn.time.st ≠ .holdover) : timeAged s = s := if_neg fun hc => h hc.1

/-- Ageing leaves a step as it is announced. -/
theorem timeAged_step (s : State) : (timeAged s).gn.time.step = s.gn.time.step ∧ (timeAged s).gn.time.stepAt = s.gn.time.stepAt := by
  unfold timeAged
  split
  · rw [(told_beginCond _ _ _ _).gn]
    exact ⟨rfl, rfl⟩
  · exact ⟨rfl, rfl⟩

theorem timeAged_old (h : s.gn.time.st = .holdover) (hunc : 1000 < timeUnc s .holdover 600) :
    (timeAged s).gn.time.st = .degraded ∧ isPresent (timeAged s) detTimeDegraded 0 = true := by
  unfold timeAged
  rw [if_pos ⟨h, by rw [h]; exact hunc⟩]
  exact ⟨congrArg (fun g => g.time.st) (told_beginCond _ _ _ _).gn, isPresent_begun _ _ _ _⟩

theorem timeMessageQueue_cases (hinj : s.ev.injs = []) (hframe : s.clk.frame % 1000 = 400) (hup : s.rs.supUp = true) :
    ∃ t, exec .timeMessageQueue s = .next t ∧ onlyIn (.gn :: .fb :: tells) s t ∧
      (s.gn.time.st = .locked → s.gn.time.step = none → t.gn.time = { s.gn.time with msg := timeMessage s (s.clk.frame + 600) 0 }) ∧
      (s.gn.time.st = .holdover → 1000 < timeUnc s .holdover 600 → t.gn.time.st = .degraded ∧ isPresent t detTimeDegraded 0 = true) ∧
      (∀ o, s.gn.time.step = some o → s.gn.time.stepAt = 0 → t.gn.time.stepAt = s.clk.frame + 1600) := by
  obtain ⟨t, hexec, honly, hgn, hpres⟩ := timeMessageQueue_queues hinj hframe hup
  refine ⟨t, hexec, honly, fun hst hstep => ?_, fun hst hunc => ⟨?_, ?_⟩, fun o ho hat => ?_⟩
  · rw [hgn, timeAged_young (by rw [hst]; nofun)]
    simp [timeQueued, updTime, announces, hstep]
  · rw [hgn]
    exact (timeAged_old hst hunc).1
  · rw [hpres]
    exact (timeAged_old hst hunc).2
  · have hann : announces (timeAged s) := by simp [announces, (timeAged_step s).1, (timeAged_step s).2, ho, hat]
    rw [hgn]
    simp [timeQueued, updTime, hann]

end Sys2Proof.Proofs
end

section
namespace Sys2Proof.Proofs

open Sys2Proof.Machine Sys2Proof.Safety

/-- Settles O44: each state of Table 9-2 has its own lemma, and no move of the alignment touches SYNC or another lasting condition. -/
theorem alignmentAndTimeMessages : Obligations.AlignmentAndTimeMessages := by
  intro s hinj within all
  refine ⟨fun off d => ⟨alignOn_unaligned_idle off d, fun h hbusy hd => alignOn_unaligned_busy off d hd h hbusy, fun i => alignOn_aligning_within off d,
      fun h hd => alignOn_aligning_out off d hd h, alignOn_aligned_within off d hinj, fun o h hd => alignOn_aligned_out off d hd h,
      alignOn_syncHold_within off d hinj, alignOn_foreign_busy off d, alignOn_foreign_idle off d⟩,
    fun port m rx => ⟨sync_off port m rx, fun hon hlink => ⟨(sync_live port m rx hon hlink).1, sync_heard port m rx hon hlink⟩⟩,
    fun port corr => ⟨fun h => congrArg Host.Outcome.next (if_pos h), syncSend_eq port corr, fun m => syncSend_on port corr, syncSend_none port corr⟩,
    alignmentTimer_reference,
    fun href => ⟨alignmentTimer_misses href, alignmentTimer_lost hinj href, fun h hearly => ?_, fun i => alignmentTimer_aligning_cases href⟩,
    fun href => ⟨frameRenumber_none href, fun d => frameRenumber_now href, fun d => frameRenumber_announced href⟩,
    timeMessageQueue_other, timeMessageQueue_cases hinj⟩
  rw [alignmentTimer_hold hinj href h, if_neg (by rw [hearly]; decide)]

end Sys2Proof.Proofs
end

section
/-!
PROOFS. What sending, claiming and judging leave of a CAN port (R280, R289, R291): for O45.
-/

namespace Sys2Proof.Proofs

open Sys2Proof.Machine Sys2Proof.Safety

/-! ### One port, and what of it is kept -/

/-- Only port `p` has changed in the CAN part, and `K` of it has not. -/
structure OnPort {α : Type} (K : CanPort → α) (p : Nat) (s t : State) : Prop where
  others : ∀ k, k ≠ p → canPort t k = canPort s k
  handles : t.cn.sentHandles = s.cn.sentHandles
  len : t.cn.ports.length = s.cn.ports.length
  kept : K (canPort t p) = K (canPort s p)

section
variable {α : Type} {K : CanPort → α} {p : Nat} {s t u : State}

theorem OnPort.refl (s : State) : OnPort K p s s := ⟨fun _ _ => rfl, rfl, rfl, rfl⟩

theorem OnPort.trans (h : OnPort K p s t) (h' : OnPort K p t u) : OnPort K p s u :=
  ⟨fun k hk => (h'.others k hk).trans (h.others k hk), h'.handles.trans h.handles, h'.len.trans h.len, h'.kept.trans h.kept⟩

theorem onPort_foldl {β : Type} {f : State → β → State} (hf : ∀ x b, OnPort K p x (f x b)) (l : List β) (s : State) : OnPort K p s (l.foldl f s) := by
  induction l generalizing s with
  | nil => exact .refl s
  | cons b l ih => exact (hf s b).trans (ih _)

theorem onPort_ite {c : Prop} [Decidable c] {a b : State} (ha : OnPort K p s a) (hb : OnPort K p s b) : OnPort K p s (if c then a else b) := by
  split
  · exact ha
  · exact hb

/-- What is less than what is kept is kept. -/
theorem OnPort.less {β : Type} {L : CanPort → β} (h : OnPort K p s t) (g : α → β) (hL : ∀ x, L x = g (K x)) : OnPort L p s t :=
  ⟨h.others, h.handles, h.len, by rw [hL, hL, h.kept]⟩

theorem onPort_of_cn (h : t.cn = s.cn) : OnPort K p s t := by
  refine ⟨fun k _ => ?_, ?_, ?_, ?_⟩ <;> simp only [canPort, h]

theorem Told.cn (h : Told s t) : t.cn = s.cn := h.frame .cn (by decide)

theorem Told.onPort (h : Told s t) : OnPort K p s t := onPort_of_cn h.cn

theorem canPort_updCan_ne {k : Nat} (f : CanPort → CanPort) (h : k ≠ p) : canPort (updCan p f s) k = canPort s k := nth_updAt_ne _ _ _ h.symm

theorem canPort_updCan {f : CanPort → CanPort} (h : p < s.cn.ports.length) : canPort (updCan p f s) p = f (canPort s p) :=
  (nth_updAt _ _ _ _ _ h).trans (if_pos rfl)

theorem onPort_updCan {f : CanPort → CanPort} (hf : ∀ x, K (f x) = K x) (s : State) : OnPort K p s (updCan p f s) := by
  refine ⟨fun k hk => canPort_updCan_ne f hk, rfl, length_updAt _ _ _, ?_⟩
  by_cases h : p < s.cn.ports.length
  · rw [canPort_updCan h]
    exact hf _
  · have hout : updAt s.cn.ports p f = s.cn.ports := List.modify_eq_self (by omega)
    simp only [canPort, updCan, hout]

end

/-! ### Queue and buffers (R280) -/

/-- A port but for its queue, buffers and waiting frames. -/
def unqueued (x : CanPort) : CanPort := { x with bufs := [], queue := [], backlog := [], hostDrops := 0 }

theorem unqueued_loadBufs (n : Nat) (x : CanPort) : unqueued (loadBufs n x) = unqueued x := by
  induction n generalizing x with
  | zero => rfl
  | succ n ih =>
    unfold loadBufs
    extract_lets p1
    have h1 : unqueued p1 = unqueued x := by
      unfold p1
      split
      · split <;> rfl
      · rfl
    split
    · rw [ih]
      exact h1
    · exact h1

variable {p : Nat} {s t : State}

theorem onPort_loadPort (p : Nat) (s : State) : OnPort unqueued p s (loadPort p s) := onPort_updCan (unqueued_loadBufs 4) s

theorem onPort_canQueue (p : Nat) (x : CanTx) (s : State) : OnPort unqueued p s (canQueue p x s) := by
  unfold canQueue
  refine onPort_ite ?_ (onPort_ite ?_ (onPort_ite ?_ (onPort_ite ?_ (.refl s))))
  · exact (onPort_updCan (fun _ => by rfl) s).trans (onPort_loadPort _ _)
  · exact onPort_updCan (fun _ => by rfl) s
  · exact onPort_updCan (fun _ => by rfl) s
  · exact onPort_updCan (fun _ => by rfl) s

theorem onPort_sendClaim (p : Nat) (s : State) : OnPort unqueued p s (sendClaim p s) := onPort_canQueue _ _ _

/-! ### Claiming (R291) -/

/-- A port but for its queue, buffers, waiting frames and claim. -/
def unclaiming (x : CanPort) : CanPort := { unqueued x with claim := .inactive, addr := 0, claimSince := 0 }

theorem OnPort.unclaiming (h : OnPort unqueued p s t) : OnPort unclaiming p s t := h.less (fun x => { x with claim := .inactive, addr := 0, claimSince := 0 }) fun _ => rfl

theorem onPort_claimNow (p addr : Nat) (s : State) : OnPort unclaiming p s (claimNow p addr s) :=
  (onPort_updCan (fun _ => by rfl) s).trans ((onPort_sendClaim _ _).unclaiming.trans (told_detect _ _ _ _ _).onPort)

theorem onPort_claimStart (p : Nat) (s : State) : OnPort unclaiming p s (claimStart p s) := onPort_ite (onPort_claimNow _ _ _) (.refl s)

/-- A claim that was inactive starts with CN.CLAIM_n = 1. -/
theorem claimStart_starts (h : p < s.cn.ports.length) (hpar : paramN s (pCnClaim p) = 1) (hclaim : (canPort s p).claim = .inactive) :
    (canPort (claimStart p s) p).claim ≠ .inactive := by
  have hstart : claimStart p s = claimNow p (paramN s (pCnAddr p)) s := if_pos (by simp [hpar, hclaim])
  have hkept : OnPort unqueued p (updCan p (fun x => { x with claim := .claiming, addr := paramN s (pCnAddr p), claimSince := s.clk.ms }) s)
      (claimStart p s) := by
    rw [hstart]
    exact (onPort_sendClaim _ _).trans (told_detect _ _ _ _ _).onPort
  have hclaiming := congrArg CanPort.claim hkept.kept
  rw [canPort_updCan h] at hclaiming
  have hnow : (canPort (claimStart p s) p).claim = .claiming := hclaiming
  rw [hnow]
  nofun

/-- Claiming ends no condition but a lost address. -/
theorem isPresent_claimStart {code : Nat} (inst : Nat) (h : code ≠ detAddressLost) (p : Nat) (s : State) :
    isPresent (claimStart p s) code inst = isPresent s code inst := by
  unfold claimStart
  split
  · refine (isPresent_detect_other (.inl h.symm) _ _ _).trans ?_
    exact isPresent_congr (frame_sendClaim p (updCan p (fun x => { x with
      claim := .claiming, addr := paramN s (pCnAddr p), claimSince := s.clk.ms }) s) .ev (by decide)) _ _
  · rfl

theorem isPresent_loadPort (code inst p : Nat) (s : State) : isPresent (loadPort p s) code inst = isPresent s code inst := rfl

/-! ### What the error counters make of a controller (Table 10-3) -/

/-- A port but for what judging and loading change. -/
def unjudged (x : CanPort) : CanPort := { unqueued x with st := .disabled, claim := .inactive, busOffs := 0, lastOff := none }

theorem OnPort.unjudged (h : OnPort unqueued p s t) : OnPort unjudged p s t :=
  h.less (fun x => { x with st := .disabled, claim := .inactive, busOffs := 0, lastOff := none }) fun _ => rfl

/-- A controller that goes bus-off. -/
def wentOff (p : Nat) (s : State) : State :=
  updCan p (fun y => { y with st := .busOff, claim := .inactive, busOffs := satU 16 (y.busOffs + 1), lastOff := some s.clk.ms }) s

theorem canJudge_idle (h : canSends s p = false) : canJudge p s = s := by
  simp only [canSends, Bool.or_eq_false_iff, beq_eq_false_iff_ne] at h
  exact if_pos (by simp [h.1, h.2])

theorem canJudge_eq (hinj : s.ev.injs = []) (h : canSends s p = true) : canJudge p s =
    if 255 < (canPort s p).txErr then
      (if (canPort s p).lastOff.any (fun t => !elapsed s t 10000) = true then wentOff p s else beginCond detBusOff (p + 1) (canPort s p).txErr (wentOff p s))
    else if 128 ≤ max (canPort s p).txErr (canPort s p).rxErr then
      beginCond detErrorPassive (p + 1) (max (canPort s p).txErr (canPort s p).rxErr) (updCan p (fun y => { y with st := .errorPassive }) s)
    else detect detErrorPassive (p + 1) false 0 (updCan p (fun y => { y with st := .errorActive }) s) := by
  have hst : ¬(decide ((canPort s p).st ≠ .errorActive) && decide ((canPort s p).st ≠ .errorPassive)) = true := by
    simp only [canSends, Bool.or_eq_true, beq_iff_eq] at h
    rcases h with h | h <;> simp [h]
  have htx : (255 : Int) < ((canPort s p).txErr : Int) ↔ 255 < (canPort s p).txErr := by omega
  have hmax : (128 : Int) ≤ max ((canPort s p).txErr : Int) ((canPort s p).rxErr : Int) ↔ 128 ≤ max (canPort s p).txErr (canPort s p).rxErr := by omega
  have hnat : (max ((canPort s p).txErr : Int) ((canPort s p).rxErr : Int)).toNat = max (canPort s p).txErr (canPort s p).rxErr := by omega
  unfold canJudge
  simp only [measured_of_noInjs hinj]
  rw [if_neg hst]
  simp only [htx, hmax, hnat, Int.toNat_natCast]
  rfl

theorem onPort_canJudge (p : Nat) (s : State) : OnPort unjudged p s (canJudge p s) := by
  unfold canJudge
  extract_lets x m o s1
  have h1 : OnPort unjudged p s s1 := onPort_updCan (fun _ => by rfl) s
  refine onPort_ite (.refl s) (onPort_ite (onPort_ite h1 (h1.trans (told_beginCond _ _ _ _).onPort)) (onPort_ite ?_ ?_))
  · exact (onPort_updCan (fun _ => by rfl) s).trans (told_beginCond _ _ _ _).onPort
  · exact (onPort_updCan (fun _ => by rfl) s).trans (told_detect _ _ _ _ _).onPort

theorem canJudge_port (hinj : s.ev.injs = []) (hp : p < s.cn.ports.length) (h : canSends s p = true) :
    (255 < (canPort s p).txErr → (canPort (canJudge p s) p).st = .busOff ∧ (canPort (canJudge p s) p).busOffs = satU 16 ((canPort s p).busOffs + 1)) ∧
    ((canPort s p).txErr ≤ 255 → 128 ≤ max (canPort s p).txErr (canPort s p).rxErr → (canPort (canJudge p s) p).st = .errorPassive) ∧
    (max (canPort s p).txErr (canPort s p).rxErr < 128 → (canPort (canJudge p s) p).st = .errorActive) := by
  rw [canJudge_eq hinj h]
  refine ⟨fun hoff => ?_, fun hon hpassive => ?_, fun hactive => ?_⟩
  · rw [if_pos hoff]
    have hport : ∀ t, t = wentOff p s ∨ t = beginCond detBusOff (p + 1) (canPort s p).txErr (wentOff p s) → canPort t p = canPort (wentOff p s) p := by
      rintro t (rfl | rfl)
      · rfl
      · simp only [canPort, (told_beginCond _ _ _ _).cn]
    rw [hport _ (by split <;> simp), wentOff, canPort_updCan hp]
    exact ⟨rfl, rfl⟩
  · rw [if_neg (by omega), if_pos hpassive, canPort, (told_beginCond _ _ _ _).cn]
    exact congrArg CanPort.st (canPort_updCan hp)
  · rw [if_neg (by omega), if_neg (by omega), canPort, (told_detect _ _ _ _ _).cn]
    exact congrArg CanPort.st (canPort_updCan hp)

/-- Judging touches the conditions error passive and bus-off only. -/
theorem isPresent_canJudge {code : Nat} (inst : Nat) (h1 : code ≠ detBusOff) (h2 : code ≠ detErrorPassive) (p : Nat) (s : State) :
    isPresent (canJudge p s) code inst = isPresent s code inst := by
  have hbegun {code' : Nat} (inst' data : Nat) (t : State) (h : code ≠ code') : isPresent (beginCond code' inst' data t) code inst = isPresent t code inst := by
    rw [isPresent_beginCond]
    simp [h.symm]
  unfold canJudge
  extract_lets x m o s1
  split
  · rfl
  split
  · split
    · rfl
    · exact hbegun _ _ _ h1
  split
  · exact hbegun _ _ _ h2
  · exact isPresent_detect_other (.inl h2.symm) _ _ _

end Sys2Proof.Proofs
end

section
/-!
PROOFS. CAN ports of themselves (R280, R282, R283, R289 to R292, R294), which settle O45.
-/

namespace Sys2Proof.Proofs

open Sys2Proof.Machine Sys2Proof.Safety

variable {s : State} (port : Fin 4)

/-- Only a port of the CAN part has changed, but for what telling changes. -/
def SeesPort (p : Nat) (s t : State) : Prop := (∀ k : Nat, k ≠ p → canPort t k = canPort s k) ∧ onlyIn (.cn :: tells) s t

theorem forcedFor_of_noInjs (h : s.ev.injs = []) (det inst ms : Nat) : forcedFor s det inst ms = false := by simp [forcedFor, injFor, h]

/-! ### Claim timeout, integration, bus-off (R289, R291) -/

theorem addressClaimTimeout_eq : exec (.addressClaimTimeout port) s =
    .next (if ((canPort s port).claim = .claiming && elapsed s (canPort s port).claimSince 250) = true then
      updCan port.val (fun x => { x with claim := .claimed }) s else s) := rfl

theorem addressClaimTimeout_claims (hclaim : (canPort s port).claim = .claiming) (hlate : (canPort s port).claimSince + 250 ≤ s.clk.ms) :
    exec (.addressClaimTimeout port) s = .next (updCan port.val (fun x => { x with claim := .claimed }) s) := by
  rw [addressClaimTimeout_eq, if_pos (by simp [hclaim, elapsed, hlate])]

theorem addressClaimTimeout_waits (h : (canPort s port).claim ≠ .claiming ∨ s.clk.ms < (canPort s port).claimSince + 250) :
    exec (.addressClaimTimeout port) s = .next s := by
  rw [addressClaimTimeout_eq, if_neg]
  rcases h with h | h
  · simp [h]
  · simp [elapsed, h]

/-- A port that integrates has seen the bus recessive. -/
def recessive (p : Nat) (s : State) : State := detect detBusDominant (p + 1) false 0 s

theorem canIntegrationDone_eq (hinj : s.ev.injs = []) (hst : (canPort s port).st = .integrating) : exec (.canIntegrationDone port) s =
    .next (if paramN s (pCnMode port.val) = 2 then updCan port.val (fun x => { x with st := .listenOnly }) (recessive port.val s)
      else claimStart port.val (loadPort port.val (updCan port.val (fun x => { x with st := .errorActive }) (recessive port.val s)))) := by
  refine congrArg Host.Outcome.next ((if_neg (not_not_intro hst)).trans ?_)
  simp only [forced_of_noInjs hinj]
  rfl

theorem canIntegrationDone_ends (hlen : s.cn.ports.length = 4) (hinj : s.ev.injs = []) (hst : (canPort s port).st = .integrating) :
    ∃ t, exec (.canIntegrationDone port) s = .next t ∧ SeesPort port.val s t ∧
      (canPort t port).st = (if paramN s (pCnMode port.val) = 2 then CtrlSt.listenOnly else CtrlSt.errorActive) ∧
      isPresent t detBusDominant (port.val + 1) = false ∧
      (paramN s (pCnMode port.val) ≠ 2 → paramN s (pCnClaim port.val) = 1 → (canPort s port).claim = .inactive → (canPort t port).claim ≠ .inactive) := by
  have hexec := canIntegrationDone_eq port hinj hst
  have hframe := fun t h => onlyIn_mono (T := .cn :: tells) (frame_execCanIntegrationDone port s t h) rfl
  have htold : Told s (recessive port.val s) := told_detect _ _ _ _ _
  have hgone : isPresent (recessive port.val s) detBusDominant (port.val + 1) = false := isPresent_detect _ _ _ _ _
  have hp : port.val < (recessive port.val s).cn.ports.length := by
    rw [htold.cn]
    exact port.isLt.trans_eq hlen.symm
  have hothers (f : CanPort → CanPort) (k : Nat) (hk : k ≠ port.val) : canPort (updCan port.val f (recessive port.val s)) k = canPort s k :=
    (canPort_updCan_ne f hk).trans (by simp only [canPort, htold.cn])
  by_cases hmode : paramN s (pCnMode port.val) = 2
  · rw [if_pos hmode] at hexec
    rw [if_pos hmode]
    exact ⟨_, hexec, ⟨hothers _, hframe _ hexec⟩, congrArg CanPort.st (canPort_updCan hp), hgone, fun hne => absurd hmode hne⟩
  · rw [if_neg hmode] at hexec
    rw [if_neg hmode]
    have hload := onPort_loadPort port.val (updCan port.val (fun x => { x with st := .errorActive }) (recessive port.val s))
    have hkept := hload.unclaiming.trans (onPort_claimStart port.val _)
    refine ⟨_, hexec, ⟨fun k hk => (hkept.others k hk).trans (hothers _ k hk), hframe _ hexec⟩, ?_, ?_, fun _ hpar hclaim => ?_⟩
    · exact (congrArg CanPort.st hkept.kept).trans (congrArg CanPort.st (canPort_updCan hp))
    · exact (isPresent_claimStart _ (by decide) _ _).trans hgone
    · refine claimStart_starts ?_ ((htold.paramN _).trans hpar) ?_
      · rw [hload.len]
        exact hp.trans_eq (length_updAt _ _ _).symm
      · refine (congrArg CanPort.claim hload.kept).trans ((congrArg CanPort.claim (canPort_updCan hp)).trans ?_)
        simp only [canPort, htold.cn] at hclaim ⊢
        exact hclaim

/-- A controller back from bus-off, its counters 0. -/
def recovered (p : Nat) (s : State) : State := updCan p (fun x => { x with st := .errorActive, txErr := 0, rxErr := 0, noAck := 0 }) s

/-- Neither bus-off nor error passive any more. -/
def calmed (p : Nat) (s : State) : State := detect detErrorPassive (p + 1) false 0 (detect detBusOff (p + 1) false 0 s)

theorem told_calmed (p : Nat) (s : State) : Told s (calmed p s) := told_step (told_detect _ _ _ _ _) (told_detect _ _ _ _ _)

theorem canBusOffRecovery_ends (hlen : s.cn.ports.length = 4) (hst : (canPort s port).st = .busOff) : ∃ t, exec (.canBusOffRecovery port) s = .next t ∧
    SeesPort port.val s t ∧ (canPort t port).st = .errorActive ∧ (canPort t port).txErr = 0 ∧ (canPort t port).rxErr = 0 ∧
      isPresent t detBusOff (port.val + 1) = false ∧ isPresent t detErrorPassive (port.val + 1) = false := by
  have hexec : exec (.canBusOffRecovery port) s = .next (claimStart port.val (loadPort port.val (calmed port.val (recovered port.val s)))) :=
    congrArg Host.Outcome.next (if_pos hst)
  have hkept : OnPort unclaiming port.val (recovered port.val s) _ :=
    (told_calmed port.val (recovered port.val s)).onPort.trans ((onPort_loadPort port.val _).unclaiming.trans (onPort_claimStart port.val _))
  have hport : canPort (recovered port.val s) port = { canPort s port with st := .errorActive, txErr := 0, rxErr := 0, noAck := 0 } :=
    canPort_updCan (port.isLt.trans_eq hlen.symm)
  have hk := hkept.kept
  rw [hport] at hk
  refine ⟨_, hexec, ⟨fun k h => (hkept.others k h).trans (canPort_updCan_ne _ h), onlyIn_mono (frame_execCanBusOffRecovery port s _ hexec) rfl⟩,
    congrArg CanPort.st hk, congrArg CanPort.txErr hk, congrArg CanPort.rxErr hk, ?_, ?_⟩
  · exact (isPresent_claimStart _ (by decide) _ _).trans ((isPresent_detect_other (.inl (by decide)) _ _ _).trans (isPresent_detect _ _ _ _ _))
  · exact (isPresent_claimStart _ (by decide) _ _).trans (isPresent_detect _ _ _ _ _)

/-! ### A frame sent (R280, R283) -/

variable (buf : Fin 3)

theorem canTx_none (delay : Nat) (e : CanErr) (h : canSends s port.val = false ∨ nth (canPort s port).bufs buf.val none = none) :
    exec (.canTxComplete port buf delay) s = .next s ∧ exec (.canTxError port buf e) s = .next s := by
  by_cases hsends : canSends s port.val = true
  · have hnone : nth (canPort s port).bufs buf.val none = none := h.resolve_left (by rw [hsends]; decide)
    have hcase : ¬(!canSends s port.val) = true := by rw [hsends]; decide
    constructor
    · refine congrArg Host.Outcome.next ((if_neg hcase).trans ?_)
      simp only [hnone]
    · refine congrArg Host.Outcome.next ((if_neg hcase).trans ?_)
      simp only [hnone]
  · exact ⟨congrArg Host.Outcome.next (if_pos (by simpa using hsends)), congrArg Host.Outcome.next (if_pos (by simpa using hsends))⟩

/-- A buffer is free after its frame was sent, and the port counts it. -/
def countSent (p buf delay : Nat) (s : State) : State :=
  updCan p (fun x => { x with
    txErr := x.txErr - 1, sent := wrapU 32 (x.sent + 1), noAck := 0, loopDelay := delay, bufs := updAt x.bufs buf (fun _ => none) }) s

/-- A host frame's handle joins those sent. -/
def handleSent (h : Nat) (s : State) : State := if h = 0 then s else { s with cn := { s.cn with sentHandles := s.cn.sentHandles ++ [h] } }

/-- A sent frame was acknowledged and its transmit input not dominant; a cancel of it comes too late. -/
def acknowledged (p h : Nat) (s : State) : State :=
  detect detNoAcknowledge (p + 1) false 0 (detect detDominantTimeOut (p + 1) false 0 (cancelAnswer p h stTooLate 1 s))

theorem handleSent_ports (h : Nat) (s : State) : (handleSent h s).cn.ports = s.cn.ports ∧ (handleSent h s).ev = s.ev ∧ (handleSent h s).mb = s.mb ∧
    (handleSent h s).cn.sentHandles = if h = 0 then s.cn.sentHandles else s.cn.sentHandles ++ [h] := by
  unfold handleSent
  split <;> exact ⟨rfl, rfl, rfl, rfl⟩

theorem acknowledged_cn (p h : Nat) (s : State) : (acknowledged p h s).cn = s.cn ∧ (s.ev.injs = [] → (acknowledged p h s).ev.injs = []) := by
  have htold : Told (cancelAnswer p h stTooLate 1 s) (acknowledged p h s) := told_step (told_detect _ _ _ _ _) (told_detect _ _ _ _ _)
  exact ⟨htold.cn.trans (frame_cancelAnswer _ _ _ _ _ .cn (by decide)), fun hinj => htold.noInjs (by
    rw [frame_cancelAnswer _ _ _ _ _ .ev (by decide)]
    exact hinj)⟩

theorem canTxComplete_eq (delay : Nat) {b : CanBuf} (hinj : s.ev.injs = []) (hsends : canSends s port.val = true)
    (hbuf : nth (canPort s port).bufs buf.val none = some b) : exec (.canTxComplete port buf delay) s =
      .next (loadPort port.val (canJudge port.val (acknowledged port.val b.tx.handle (handleSent b.tx.handle (countSent port.val buf.val delay s))))) := by
  refine congrArg Host.Outcome.next ((if_neg (by rw [hsends]; decide)).trans ?_)
  simp only [hbuf, forced_of_noInjs hinj]
  rfl

theorem canTxComplete_sent (delay : Nat) {b : CanBuf} (hlen : s.cn.ports.length = 4) (hinj : s.ev.injs = []) (hsends : canSends s port.val = true)
    (hbuf : nth (canPort s port).bufs buf.val none = some b) : ∃ t, exec (.canTxComplete port buf delay) s = .next t ∧ SeesPort port.val s t ∧
      (canPort t port).sent = wrapU 32 ((canPort s port).sent + 1) ∧ (canPort t port).txErr = (canPort s port).txErr - 1 ∧
      (canPort t port).noAck = 0 ∧ (canPort t port).loopDelay = delay ∧ (b.tx.handle ≠ 0 → t.cn.sentHandles = s.cn.sentHandles ++ [b.tx.handle]) ∧
      (b.tx.handle = 0 → t.cn.sentHandles = s.cn.sentHandles) ∧
      (max ((canPort s port).txErr - 1) (canPort s port).rxErr < 128 → (canPort t port).st = .errorActive) ∧
      isPresent t detNoAcknowledge (port.val + 1) = false := by
  have hexec := canTxComplete_eq port buf delay hinj hsends hbuf
  obtain ⟨hports, hev, -, hhandles⟩ := handleSent_ports b.tx.handle (countSent port.val buf.val delay s)
  obtain ⟨hcn, hinjs⟩ := acknowledged_cn port.val b.tx.handle (handleSent b.tx.handle (countSent port.val buf.val delay s))
  have hpres : isPresent (acknowledged port.val b.tx.handle (handleSent b.tx.handle (countSent port.val buf.val delay s))) detNoAcknowledge (port.val + 1) =
      false := isPresent_detect _ _ _ _ _
  generalize acknowledged port.val b.tx.handle (handleSent b.tx.handle (countSent port.val buf.val delay s)) = u at hexec hcn hinjs hpres
  have hnone : u.ev.injs = [] := hinjs (by rw [hev]; exact hinj)
  have hu (k : Nat) : canPort u k = canPort (countSent port.val buf.val delay s) k := by simp only [canPort, hcn, hports]
  have hport := (hu port.val).trans (canPort_updCan (port.isLt.trans_eq hlen.symm))
  have hst := congrArg CanPort.st hport
  have hup : port.val < u.cn.ports.length := by
    rw [hcn, hports, countSent, updCan, length_updAt]
    exact port.isLt.trans_eq hlen.symm
  have hkept := (onPort_canJudge port.val u).trans (onPort_loadPort port.val _).unjudged
  have hk := hkept.kept
  rw [hport] at hk
  have hactive := (canJudge_port hnone hup (by simp only [canSends, hst] at hsends ⊢; exact hsends)).2.2
  have hload := congrArg CanPort.st (onPort_loadPort port.val (canJudge port.val u)).kept
  rw [hport] at hactive
  refine ⟨_, hexec, ⟨fun k hne => (hkept.others k hne).trans ((hu k).trans (canPort_updCan_ne _ hne)),
      onlyIn_mono (frame_execCanTxComplete port buf delay s _ hexec) rfl⟩, congrArg CanPort.sent hk, congrArg CanPort.txErr hk, congrArg CanPort.noAck hk,
    congrArg CanPort.loopDelay hk, fun hne => ?_, fun hzero => ?_, fun hmax => hload.trans (hactive hmax), ?_⟩
  · rw [hkept.handles, hcn, hhandles, if_neg hne]
    rfl
  · rw [hkept.handles, hcn, hhandles, if_pos hzero]
    rfl
  · exact (isPresent_canJudge _ (by decide) (by decide) _ u).trans hpres

end Sys2Proof.Proofs
end

section
/-!
PROOFS. A frame that fails, a dominant input and a transfer that stands still (R282, R283, R290, R292, R294), and what settles O45.
-/

namespace Sys2Proof.Proofs

open Sys2Proof.Machine Sys2Proof.Safety

variable {s : State} (port : Fin 4)

/-! ### A frame that fails (R282, R283, R290, R294) -/

/-- Acknowledge errors in a row after an attempt. -/
def noAckAfter (e : CanErr) (n : Nat) : Nat := match e with | .ackError _ => n + 1 | .arbLost => n | _ => 0

/-- A port counts a failed attempt, and the frame stays in its buffer. -/
def countFailed (p buf : Nat) (b : CanBuf) (e : CanErr) (s : State) : State :=
  updCan p (fun x => { x with
    txErr := txErrAfter x.st e x.txErr
    arbLosses := if e = .arbLost then satU 16 (x.arbLosses + 1) else x.arbLosses
    noAck := noAckAfter e x.noAck
    bufs := updAt x.bufs buf (fun _ => some { b with tx := { b.tx with coll :=
      if (e == .bitError true) = true then b.tx.coll + 1 else if e = .arbLost then b.tx.coll else 0 } }) }) s

/-- A collision is counted. -/
def countCollision (p : Nat) (s : State) : State := updCan p (fun x => { x with collisions := satU 16 (x.collisions + 1) }) s

/-- The hundredth missing acknowledge in a row is told. -/
def unacknowledged (p : Nat) (s : State) : State := if 100 ≤ (canPort s p).noAck then beginCond detNoAcknowledge (p + 1) 0 s else s

/-- A cancelled frame leaves its buffer. -/
def withdrawn (p buf : Nat) (b : CanBuf) (s : State) : State :=
  if b.cancel = true then cancelAnswer p b.tx.handle stOk 0 (updCan p (fun x => { x with bufs := updAt x.bufs buf (fun _ => none) }) s) else s

/-- What a failed attempt leaves before the controller is judged. -/
def attempted (p buf : Nat) (b : CanBuf) (e : CanErr) (s : State) : State :=
  withdrawn p buf b (unacknowledged p (if (e == .bitError true) = true then collided p b.tx (countFailed p buf b e s) else countFailed p buf b e s))

variable (buf : Fin 3) (e : CanErr)

theorem canTxError_eq {b : CanBuf} (hinj : s.ev.injs = []) (hsends : canSends s port.val = true)
    (hbuf : nth (canPort s port).bufs buf.val none = some b) :
    exec (.canTxError port buf e) s = .next (loadPort port.val (canJudge port.val (attempted port.val buf.val b e s))) := by
  refine congrArg Host.Outcome.next ((if_neg (by rw [hsends]; decide)).trans ?_)
  simp only [hbuf, forced_of_noInjs hinj, Bool.or_false, decide_eq_true_eq]
  rfl

/-- Nothing but port `p`, its queue and buffers and what is told has changed, and no injection has come. -/
structure Queues (p : Nat) (s t : State) : Prop extends OnPort unqueued p s t where
  noInjs : s.ev.injs = [] → t.ev.injs = []

section
variable {p : Nat} {t u : State}

theorem Queues.trans (h : Queues p s t) (h' : Queues p t u) : Queues p s u := ⟨h.toOnPort.trans h'.toOnPort, h'.noInjs ∘ h.noInjs⟩

theorem Queues.refl (s : State) : Queues p s s := ⟨.refl s, id⟩

theorem Told.queues (h : Told s t) : Queues p s t := ⟨h.onPort, h.noInjs⟩

theorem queues_collided (p : Nat) (tx : CanTx) (s : State) : Queues p (countCollision p s) (collided p tx s) := by
  have hsaid := (told_happen detIdentifierCollision (p + 1) tx.frame.id (countCollision p s)).queues (p := p)
  unfold collided
  extract_lets s1 s2
  split
  · split
    · exact hsaid.trans ⟨onPort_sendClaim _ _, fun h => by rw [frame_sendClaim _ _ .ev (by decide)]; exact h⟩
    · exact hsaid
  · exact .refl _

theorem queues_unacknowledged (p : Nat) (s : State) : Queues p s (unacknowledged p s) := by
  unfold unacknowledged
  split
  · exact (told_beginCond _ _ _ _).queues
  · exact .refl s

theorem withdrawn_ev (p buf : Nat) (b : CanBuf) (s : State) : (withdrawn p buf b s).ev = s.ev := by
  unfold withdrawn
  split
  · exact (frame_cancelAnswer _ _ _ _ _ .ev (by decide)).trans rfl
  · rfl

theorem queues_withdrawn (p buf : Nat) (b : CanBuf) (s : State) : Queues p s (withdrawn p buf b s) := by
  refine ⟨?_, fun h => by rw [withdrawn_ev]; exact h⟩
  unfold withdrawn
  split
  · exact (onPort_updCan (fun _ => by rfl) s).trans (onPort_of_cn (frame_cancelAnswer _ _ _ _ _ .cn (by decide)))
  · exact .refl s

end

/-- The counts of a failed attempt. -/
def failCounts (p buf : Nat) (b : CanBuf) (e : CanErr) (s : State) : State :=
  if (e == .bitError true) = true then countCollision p (countFailed p buf b e s) else countFailed p buf b e s

theorem queues_attempted (p buf : Nat) (b : CanBuf) (e : CanErr) (s : State) : Queues p (failCounts p buf b e s) (attempted p buf b e s) := by
  have hafter (x : State) : Queues p x (withdrawn p buf b (unacknowledged p x)) := (queues_unacknowledged _ _).trans (queues_withdrawn _ _ _ _)
  unfold attempted failCounts
  split
  · exact (queues_collided _ _ _).trans (hafter _)
  · exact hafter _

theorem failCounts_port (p buf : Nat) (b : CanBuf) (e : CanErr) (hp : p < s.cn.ports.length) : unqueued (canPort (failCounts p buf b e s) p) =
    { unqueued (canPort s p) with
      txErr := txErrAfter (canPort s p).st e (canPort s p).txErr
      arbLosses := if e = .arbLost then satU 16 ((canPort s p).arbLosses + 1) else (canPort s p).arbLosses
      noAck := noAckAfter e (canPort s p).noAck
      collisions := if e = .bitError true then satU 16 ((canPort s p).collisions + 1) else (canPort s p).collisions } := by
  by_cases he : e = .bitError true
  · rw [failCounts, if_pos (beq_iff_eq.mpr he), countCollision, canPort_updCan (hp.trans_eq (length_updAt _ _ _).symm), countFailed,
      canPort_updCan hp, if_pos he]
    rfl
  · rw [failCounts, if_neg (fun h => he (beq_iff_eq.mp h)), countFailed, canPort_updCan hp, if_neg he]
    rfl

theorem failCounts_others (p buf : Nat) (b : CanBuf) (e : CanErr) (s : State) : (∀ k, k ≠ p → canPort (failCounts p buf b e s) k = canPort s k) ∧
    (failCounts p buf b e s).cn.ports.length = s.cn.ports.length ∧ (failCounts p buf b e s).ev = s.ev := by
  unfold failCounts
  split
  · exact ⟨fun k hk => (canPort_updCan_ne _ hk).trans (canPort_updCan_ne _ hk), (length_updAt _ _ _).trans (length_updAt _ _ _), rfl⟩
  · exact ⟨fun k hk => canPort_updCan_ne _ hk, length_updAt _ _ _, rfl⟩

/-- A hundred missing acknowledges are told. -/
theorem attempted_present (p buf : Nat) (b : CanBuf) (d : Bool) (hp : p < s.cn.ports.length) (h : 100 ≤ (canPort s p).noAck + 1) :
    isPresent (attempted p buf b (.ackError d) s) detNoAcknowledge (p + 1) = true := by
  have hport : (canPort (countFailed p buf b (.ackError d) s) p).noAck = (canPort s p).noAck + 1 := congrArg CanPort.noAck (canPort_updCan hp)
  have hun : unacknowledged p (countFailed p buf b (.ackError d) s) = beginCond detNoAcknowledge (p + 1) 0 (countFailed p buf b (.ackError d) s) :=
    if_pos (by rw [hport]; exact h)
  rw [attempted, isPresent_congr (withdrawn_ev _ _ _ _), if_neg (by cases d <;> decide), hun]
  exact isPresent_begun _ _ _ _

theorem canTxError_fails {b : CanBuf} (hlen : s.cn.ports.length = 4) (hinj : s.ev.injs = []) (hsends : canSends s port.val = true)
    (hbuf : nth (canPort s port).bufs buf.val none = some b) : ∃ t, exec (.canTxError port buf e) s = .next t ∧ SeesPort port.val s t ∧
      (canPort t port).sent = (canPort s port).sent ∧ (canPort t port).txErr = txErrAfter (canPort s port).st e (canPort s port).txErr ∧
      (canPort t port).arbLosses = (if e = .arbLost then satU 16 ((canPort s port).arbLosses + 1) else (canPort s port).arbLosses) ∧
      (canPort t port).collisions = (if e = .bitError true then satU 16 ((canPort s port).collisions + 1) else (canPort s port).collisions) ∧
      (∀ d, e = .ackError d → (canPort t port).noAck = (canPort s port).noAck + 1 ∧
        (100 ≤ (canPort s port).noAck + 1 → isPresent t detNoAcknowledge (port.val + 1) = true)) ∧
      (255 < txErrAfter (canPort s port).st e (canPort s port).txErr → (canPort t port).st = .busOff ∧
        (canPort t port).busOffs = satU 16 ((canPort s port).busOffs + 1)) ∧
      (128 ≤ txErrAfter (canPort s port).st e (canPort s port).txErr → txErrAfter (canPort s port).st e (canPort s port).txErr ≤ 255 →
        (canPort t port).st = .errorPassive) := by
  have hexec := canTxError_eq port buf e hinj hsends hbuf
  have hp : port.val < s.cn.ports.length := port.isLt.trans_eq hlen.symm
  have hq := queues_attempted port.val buf.val b e s
  have hpres (d : Bool) (he : e = .ackError d) (h : 100 ≤ (canPort s port).noAck + 1) :
      isPresent (attempted port.val buf.val b e s) detNoAcknowledge (port.val + 1) = true := by
    rw [he]
    exact attempted_present port.val buf.val b d hp h
  obtain ⟨hothers, hl, hev⟩ := failCounts_others port.val buf.val b e s
  have hnone := hq.noInjs (by rw [hev]; exact hinj)
  have hport := hq.kept.trans (failCounts_port port.val buf.val b e hp)
  have huothers := fun k hk => (hq.others k hk).trans (hothers k hk)
  have hul : port.val < (attempted port.val buf.val b e s).cn.ports.length := by
    rw [hq.len, hl]
    exact hp
  generalize attempted port.val buf.val b e s = u at hexec hpres hnone hport huothers hul
  have hst : (canPort u port).st = (canPort s port).st := (congrArg CanPort.st hport).trans rfl
  have htx : (canPort u port).txErr = txErrAfter (canPort s port).st e (canPort s port).txErr := (congrArg CanPort.txErr hport).trans rfl
  have hoffs : (canPort u port).busOffs = (canPort s port).busOffs := (congrArg CanPort.busOffs hport).trans rfl
  have hkept := (onPort_canJudge port.val u).trans (onPort_loadPort port.val _).unjudged
  have hk := hkept.kept.trans (congrArg (fun x => { x with st := .disabled, claim := .inactive, busOffs := 0, lastOff := none }) hport)
  have hload := (onPort_loadPort port.val (canJudge port.val u)).kept
  obtain ⟨hoff, hpassive, -⟩ := canJudge_port hnone hul (by simp only [canSends, hst] at hsends ⊢; exact hsends)
  rw [htx, hoffs] at hoff
  rw [htx] at hpassive
  refine ⟨_, hexec, ⟨fun k hk => (hkept.others k hk).trans (huothers k hk), onlyIn_mono (frame_execCanTxError port buf e s _ hexec) rfl⟩,
    (congrArg CanPort.sent hk :), (congrArg CanPort.txErr hk :), (congrArg CanPort.arbLosses hk :), (congrArg CanPort.collisions hk :), fun d he => ⟨?_, fun h => ?_⟩, fun h => ?_, fun hge hle => ?_⟩
  · refine (congrArg CanPort.noAck hk :).trans ?_
    rw [he]
    rfl
  · exact (isPresent_canJudge _ (by decide) (by decide) _ u).trans (hpres d he h)
  · exact ⟨(congrArg CanPort.st hload).trans (hoff h).1, (congrArg CanPort.busOffs hload).trans (hoff h).2⟩
  · exact (congrArg CanPort.st hload).trans (hpassive hle (le_max_of_le_left hge))

/-! ### A dominant input or bus (R294) -/

theorem canDominantTimeout_eq (bus : Bool) (us : Nat) (hinj : s.ev.injs = []) : exec (.canDominantTimeout port bus us) s =
    .next (if (canPort s port).st ≠ .disabled ∧ 4000 < us then
      beginCond (if bus then detBusDominant else detDominantTimeOut) (port.val + 1) 0 s else s) := by
  show execCanDominantTimeout port bus us s = _
  simp only [execCanDominantTimeout, forcedFor_of_noInjs hinj, Bool.or_false, Bool.and_eq_true, decide_eq_true_eq]

/-! ### A transfer that stands still (R292) -/

theorem onPort_sendCm (p peer : Nat) (head : Bytes) (s : State) : OnPort unqueued p s (sendCm p peer head s) := onPort_canQueue _ _ _

/-- A port but for its queue, its buffers and its transfers. -/
def untransferring (x : CanPort) : CanPort := { unqueued x with conns := [], mail := [] }

theorem OnPort.untransferring {p : Nat} {t : State} (h : OnPort unqueued p s t) : OnPort untransferring p s t :=
  h.less (fun x => { x with conns := [], mail := [] }) fun _ => rfl

theorem onPort_openTransfers (p : Nat) (s : State) : OnPort untransferring p s (openTransfers p s) := by
  refine OnPort.trans (onPort_updCan (fun _ => by rfl) s) (onPort_foldl (fun x m => ?_) _ _)
  refine onPort_ite (onPort_updCan (fun _ => by rfl) x) ?_
  exact (onPort_updCan (fun _ => by rfl) x).trans (onPort_sendCm _ _ _ _).untransferring

/-- A transfer ends and is counted as aborted. -/
def transferLost (p peer : Nat) (out : Bool) (s : State) : State := updCan p (fun x => { x with aborts := satU 16 (x.aborts + 1) }) (dropConn p peer out s)

/-- The mailbox counts a message it did not get. -/
def countMalformed (out : Bool) (s : State) : State := if out then s else { s with mb := { s.mb with malformed := wrapU 32 (s.mb.malformed + 1) } }

theorem abortConn_kept (p peer : Nat) (out : Bool) (s : State) : OnPort untransferring p (transferLost p peer out s) (abortConn p peer out s) ∧
    (abortConn p peer out s).mb.malformed = if out then s.mb.malformed else wrapU 32 (s.mb.malformed + 1) := by
  have htold := told_happen detTransportAborted (p + 1) 0 (countMalformed out (transferLost p peer out s))
  have hcn : (countMalformed out (transferLost p peer out s)).cn = (transferLost p peer out s).cn := by
    unfold countMalformed
    split <;> rfl
  refine ⟨(onPort_of_cn (htold.cn.trans hcn)).trans (onPort_openTransfers p _), ?_⟩
  have hmb : (abortConn p peer out s).mb = _ := frame_openTransfers p (happen detTransportAborted (p + 1) 0 (countMalformed out (transferLost p peer out s)))
    .mb (by decide)
  rw [hmb, congrArg Mailbox.malformed htold.mail]
  unfold countMalformed
  split <;> rfl

theorem abortConn_port {p : Nat} (peer : Nat) (out : Bool) (hp : p < s.cn.ports.length) :
    (canPort (abortConn p peer out s) p).aborts = satU 16 ((canPort s p).aborts + 1) ∧ ∀ k, k ≠ p → canPort (abortConn p peer out s) k = canPort s k := by
  obtain ⟨hkept, -⟩ := abortConn_kept p peer out s
  have hlost : canPort (transferLost p peer out s) p = _ := canPort_updCan (hp.trans_eq (length_updAt _ _ _).symm)
  have hdrop : canPort (dropConn p peer out s) p = _ := canPort_updCan hp
  have haborts := (hkept.less (L := CanPort.aborts) CanPort.aborts fun _ => rfl).kept
  refine ⟨haborts.trans ?_, fun k hk => (hkept.others k hk).trans ((canPort_updCan_ne _ hk).trans (canPort_updCan_ne _ hk))⟩
  rw [hlost, hdrop]

theorem transportTimeout_none (peer : Nat) (out : Bool) (h : connOf s port.val peer out = none) : exec (.transportTimeout port peer out) s = .next s := by
  show execTransportTimeout port peer out s = _
  rw [execTransportTimeout, h]

theorem transportTimeout_some (peer : Nat) (out : Bool) {c : CanConn} (hinj : s.ev.injs = []) (h : connOf s port.val peer out = some c) :
    exec (.transportTimeout port peer out) s =
      .next (if c.since + 1250 ≤ s.clk.ms then abortConn port.val peer out (sendCm port.val peer [255, 3] s) else s) := by
  show execTransportTimeout port peer out s = _
  rw [execTransportTimeout, h]
  simp only [elapsed, forced_of_noInjs hinj, Bool.or_false, decide_eq_true_eq]

theorem transportTimeout_aborts (peer : Nat) (out : Bool) {c : CanConn} (hlen : s.cn.ports.length = 4) (hinj : s.ev.injs = [])
    (h : connOf s port.val peer out = some c) (hlate : c.since + 1250 ≤ s.clk.ms) : ∃ t, exec (.transportTimeout port peer out) s = .next t ∧
      SeesPort port.val s t ∧ (canPort t port).aborts = satU 16 ((canPort s port).aborts + 1) ∧
      t.mb.malformed = (if out then s.mb.malformed else wrapU 32 (s.mb.malformed + 1)) := by
  have hexec := transportTimeout_some port peer out hinj h
  rw [if_pos hlate] at hexec
  have hcm := onPort_sendCm port.val peer [255, 3] s
  have hmb : (sendCm port.val peer [255, 3] s).mb = s.mb := frame_sendCm _ _ _ s .mb (by decide)
  obtain ⟨-, hmal⟩ := abortConn_kept port.val peer out (sendCm port.val peer [255, 3] s)
  obtain ⟨haborts, hothers⟩ := abortConn_port (s := sendCm port.val peer [255, 3] s) peer out (by rw [hcm.len]; exact port.isLt.trans_eq hlen.symm)
  have hsame : (canPort (sendCm port.val peer [255, 3] s) port).aborts = (canPort s port).aborts :=
    (hcm.less (L := CanPort.aborts) CanPort.aborts fun _ => rfl).kept
  refine ⟨_, hexec, ⟨fun k hk => (hothers k hk).trans (hcm.others k hk), onlyIn_mono (frame_execTransportTimeout port peer out s _ hexec) rfl⟩, ?_, ?_⟩
  · rw [haborts, hsame]
  · rw [hmal, hmb]

end Sys2Proof.Proofs
end

section
namespace Sys2Proof.Proofs

open Sys2Proof.Machine Sys2Proof.Safety

/-- Settles O45: each event changes its own port, whose counters loading, claiming and judging leave as they are. -/
theorem canPortsAct : Obligations.CanPortsAct := by
  intro port s p x others sees hlen hinj
  refine ⟨addressClaimTimeout_claims port, addressClaimTimeout_waits port, fun h => congrArg Host.Outcome.next (if_pos h),
    canIntegrationDone_ends port hlen hinj, fun h => congrArg Host.Outcome.next (if_neg h), canBusOffRecovery_ends port hlen,
    fun buf delay e => ⟨canTx_none port buf delay e, fun b hsends hbuf => ⟨canTxComplete_sent port buf delay hlen hinj hsends hbuf,
      canTxError_fails port buf e hlen hinj hsends hbuf⟩⟩,
    fun bus us => ⟨fun hst hus => ?_, fun h => ?_⟩, fun peer out => ⟨transportTimeout_none port peer out, fun c hc => ⟨fun hearly => ?_,
      transportTimeout_aborts port peer out hlen hinj hc⟩⟩⟩
  · rw [canDominantTimeout_eq port bus us hinj, if_pos ⟨hst, hus⟩]
  · rw [canDominantTimeout_eq port bus us hinj, if_neg (fun hc => h.elim (absurd · hc.1) (fun hle => absurd hc.2 (Nat.not_lt.mpr hle)))]
  · rw [transportTimeout_some port peer out hinj hc, if_neg (Nat.not_le.mpr hearly)]

end Sys2Proof.Proofs
end

section
/-!
PROOFS. Cycles of a Mica bank (R298 to R303): content, losses and who is served, which settle O46.
-/

namespace Sys2Proof.Proofs

open Sys2Proof.Machine Sys2Proof.Safety

/-! ### Content -/

/-- What a span of written bytes reads as. -/
theorem readByte_writeBytes {bs : Bytes} {m : Memory} (a : Nat) (h : m.wf = true) (x : Nat) :
    readByte (writeBytes a bs m) x = if a ≤ x ∧ x < a + bs.length then nth bs (x - a) 0 else readByte m x := by
  induction bs generalizing a m with
  | nil => rw [if_neg (by simp only [List.length_nil]; omega)]; rfl
  | cons b bs ih =>
    show readByte (writeBytes (a + 1) bs (writeByte a b m)) x = _
    rw [ih (a + 1) (wf_writeByte h), readByte_writeByte h]
    simp only [List.length_cons, nth]
    by_cases hx : x = a
    · rw [if_neg (by omega), if_pos hx, if_pos (by omega), hx, Nat.sub_self]
      rfl
    · by_cases hin : a + 1 ≤ x ∧ x < a + 1 + bs.length
      · rw [if_pos hin, if_pos (by omega), show x - a = x - (a + 1) + 1 from by omega]
        rfl
      · rw [if_neg hin, if_neg hx, if_neg (by omega)]

theorem nth_take (bs : Bytes) {n i : Nat} (h : i < (bs.take n).length) : nth (bs.take n) i 0 = nth bs i 0 := by
  have hi : i < n := by
    rw [List.length_take] at h
    omega
  simp only [nth, List.getD_eq_getElem?_getD, List.getElem?_take_of_lt hi]

/-! ### Losses (R300) -/

theorem getKey_filter_ne {α : Type} (k j : Nat) (l : List (Nat × α)) : getKey j (l.filter (fun x => x.1 != k)) = if j = k then none else getKey j l := by
  by_cases h : j = k
  · rw [if_pos h, getKey, List.find?_eq_none.mpr fun x hx => ?_]
    · rfl
    · rw [h]
      simpa using (List.mem_filter.mp hx).2
  · rw [if_neg h, getKey, getKey, List.find?_filter]
    congr 2
    funext x
    by_cases hx : x.1 = j
    · simp [hx, h]
    · simp [hx]

variable {s t : State} {b : Nat}

theorem lossOf_lose {m n : Nat} (s : State) : lossOf (lose b m s) b n = if n = m then lossOf s b m + 1 else lossOf s b n := by
  simp only [lossOf, lose, updMc, getKey_setKey]
  by_cases h : n = m
  · rw [if_pos (by omega), if_pos h]
    rfl
  · rw [if_neg (by omega), if_neg h]

theorem lossOf_served {m n : Nat} (s : State) : lossOf (served b m s) b n = if n = m then 0 else lossOf s b n := by
  simp only [lossOf, served, updMc, getKey_filter_ne]
  by_cases h : n = m
  · rw [if_pos (by omega), if_pos h]
    rfl
  · rw [if_neg (by omega), if_neg h]

/-- The sixty-fourth loss promotes a master. -/
theorem lose_promotions {m : Nat} (hm : m < s.mc.promotions.length) :
    nth (lose b m s).mc.promotions m 0 = if lossOf s b m = 63 then wrapU 32 (nth s.mc.promotions m 0 + 1) else nth s.mc.promotions m 0 := by
  simp only [lose, updMc]
  by_cases h : lossOf s b m = 63
  · rw [if_pos (by omega), if_pos h, nth_updAt _ _ _ _ _ hm, if_pos rfl]
  · rw [if_neg (by omega), if_neg h]

theorem lossOf_congr {m : Nat} (h : t.mc.losses = s.mc.losses) : lossOf t b m = lossOf s b m := by simp only [lossOf, h]

/-! ### An access that is served (R302, R303) -/

/-- A read with a single-bit error, which is corrected and counted. -/
def corrects (r : MicaReq) : Prop := (r.single && r.write.isNone) = true

/-- What every access leaves: losses, and the banks but for a count of corrected errors. -/
structure Accessed (b : Nat) (r : MicaReq) (s t : State) : Prop where
  frame : onlyIn [.mc] s t
  losses : t.mc.losses = s.mc.losses
  promotions : t.mc.promotions = s.mc.promotions
  masters : t.mc.answers.map MicaAnswer.master = s.mc.answers.map MicaAnswer.master ++ [r.master]
  others : ∀ k, k ≠ b → bankOf t k = bankOf s k
  busy : b < s.mc.banks.length → (bankOf t b).busyB = (bankOf s b).busyB

/-- The count of a corrected error. -/
def countCorrected (b : Nat) (s : State) : State :=
  updMc (fun c => { c with corrected := wrapU 32 (c.corrected + 1) }) (updMcBank b (fun k => { k with corrected := satU 16 (k.corrected + 1) }) s)

/-- A word is read. -/
def wordRead (r : MicaReq) (s : State) : State :=
  updMc (fun c => { c with answers := c.answers ++ [⟨r.master, readBytes c.mem (r.addr / 8 * 8) 8, false⟩] }) s

/-- Bytes are written within their word. -/
def wordWritten (r : MicaReq) (w : Bytes) (s : State) : State :=
  updMc (fun c => { c with mem := writeBytes r.addr (w.take (8 - r.addr % 8)) c.mem, answers := c.answers ++ [⟨r.master, [], false⟩] }) s

theorem access_read {r : MicaReq} (hr : r.write = none) (s : State) :
    access b r s = wordRead r (if r.single = true then countCorrected b s else s) := by
  unfold access
  simp only [hr, Option.isNone_none, Bool.and_true]
  rfl

theorem access_write {r : MicaReq} {w : Bytes} (hr : r.write = some w) (s : State) : access b r s = wordWritten r w s := by
  unfold access
  simp only [hr, Option.isNone_some, Bool.and_false, Bool.false_eq_true, if_false]
  rfl

theorem countCorrected_bank (s : State) : (∀ k, k ≠ b → bankOf (countCorrected b s) k = bankOf s k) ∧ (b < s.mc.banks.length →
    bankOf (countCorrected b s) b = { bankOf s b with corrected := satU 16 ((bankOf s b).corrected + 1) }) :=
  ⟨fun _ hk => bankOf_updMcBank_other (fun k => { k with corrected := satU 16 (k.corrected + 1) }) hk,
    fun h => bankOf_updMcBank (fun k => { k with corrected := satU 16 (k.corrected + 1) }) h⟩

theorem access_accessed (r : MicaReq) (s : State) : Accessed b r s (access b r s) := by
  cases hw : r.write with
  | none =>
    rw [access_read hw]
    obtain ⟨hothers, hbank⟩ := countCorrected_bank (b := b) s
    have hframe := frame_access b r s
    rw [access_read hw] at hframe
    refine ⟨hframe, ?_, ?_, ?_, fun k hk => ?_, fun h => ?_⟩
    · split <;> rfl
    · split <;> rfl
    · split <;> exact List.map_append
    · split
      · exact hothers k hk
      · rfl
    · split
      · exact (congrArg Bank.busyB (hbank h) :)
      · rfl
  | some w =>
    have hframe := frame_access b r s
    rw [access_write hw] at hframe ⊢
    exact ⟨hframe, rfl, rfl, List.map_append, fun _ _ => rfl, fun _ => rfl⟩

/-! ### Which master is served (R300) -/

theorem winner_one (s : State) (b : Nat) (r : MicaReq) : winner s b [r] = some r := by
  unfold winner
  by_cases h : 64 ≤ lossOf s b r.master
  · rw [List.filter_cons_of_pos (by simpa using h)]
    rfl
  · rw [List.filter_cons_of_neg (by simpa using h)]
    rfl

theorem winner_none (s : State) (b : Nat) : winner s b [] = none := rfl

theorem sortBy_two {r1 r2 : MicaReq} (h : r1.master < r2.master) : sortBy MicaReq.master [r1, r2] = [r1, r2] := by
  simp only [sortBy, List.foldl_cons, List.foldl_nil, insertBy]
  rw [if_neg (by omega)]

theorem winner_first {r1 r2 : MicaReq} (h : r1.master < r2.master) (hfirst : 64 ≤ lossOf s b r1.master ∨ lossOf s b r2.master < 64) :
    winner s b [r1, r2] = some r1 := by
  unfold winner
  by_cases h1 : 64 ≤ lossOf s b r1.master
  · by_cases h2 : 64 ≤ lossOf s b r2.master
    · rw [List.filter_eq_self.mpr (by simp [h1, h2]), sortBy_two h]
      rfl
    · rw [List.filter_cons_of_pos (by simpa using h1), List.filter_cons_of_neg (by simpa using h2)]
      rfl
  · have h2 := hfirst.resolve_left h1
    rw [List.filter_cons_of_neg (by simpa using h1), List.filter_cons_of_neg (by simpa using h2), sortBy_two h]
    rfl

theorem winner_second {r1 r2 : MicaReq} (hfirst : ¬(64 ≤ lossOf s b r1.master ∨ lossOf s b r2.master < 64)) : winner s b [r1, r2] = some r2 := by
  obtain ⟨h1, h2⟩ := not_or.mp hfirst
  unfold winner
  rw [List.filter_cons_of_neg (by simpa using h1), List.filter_cons_of_pos (by simpa using Nat.not_lt.mp h2)]
  rfl

end Sys2Proof.Proofs
end

section
/-!
PROOFS. The cycles of a Mica bank (R298 to R301), which settle O46.
-/

namespace Sys2Proof.Proofs

open Sys2Proof.Machine Sys2Proof.Safety

variable {s x y t : State} {b : Nat}

/-! ### What a cycle does besides the access itself -/

/-- Only losses, promotions and how long bank `b` is occupied have changed. -/
structure Aside (b : Nat) (s t : State) : Prop where
  frame : onlyIn [.mc] s t
  mem : t.mc.mem = s.mc.mem
  answers : t.mc.answers = s.mc.answers
  corrected : t.mc.corrected = s.mc.corrected
  others : ∀ k, k ≠ b → bankOf t k = bankOf s k
  bank : b < s.mc.banks.length → bankOf t b = { bankOf s b with busyB := (bankOf t b).busyB }
  len : t.mc.banks.length = s.mc.banks.length

theorem Aside.refl (s : State) : Aside b s s := ⟨onlyIn_refl _ _, rfl, rfl, rfl, fun _ _ => rfl, fun _ => rfl, rfl⟩

theorem Aside.trans (h : Aside b x y) (h' : Aside b y t) : Aside b x t :=
  ⟨onlyIn_step h'.frame rfl h.frame, h'.mem.trans h.mem, h'.answers.trans h.answers, h'.corrected.trans h.corrected,
    fun k hk => (h'.others k hk).trans (h.others k hk), fun hl => by rw [h'.bank (by rw [h.len]; exact hl), h.bank hl], h'.len.trans h.len⟩

/-- A bank with other cycles to come in which it is occupied. -/
def busied (b : Nat) (f : Nat → Nat) (s : State) : State := updMcBank b (fun k => { k with busyB := f k.busyB }) s

theorem aside_busied (b : Nat) (f : Nat → Nat) (s : State) : Aside b s (busied b f s) :=
  ⟨frame_updMcBank b _ s, rfl, rfl, rfl, fun _ hk => bankOf_updMcBank_other _ hk, fun h => by rw [busied, bankOf_updMcBank _ h], length_updAt _ _ _⟩

theorem busied_busy (f : Nat → Nat) (h : b < s.mc.banks.length) : (bankOf (busied b f s) b).busyB = f (bankOf s b).busyB := by
  rw [busied, bankOf_updMcBank _ h]

theorem aside_served (b m : Nat) (s : State) : Aside b s (served b m s) :=
  ⟨frame_served b m s, rfl, rfl, rfl, fun _ _ => rfl, fun _ => rfl, rfl⟩

theorem aside_lose (b m : Nat) (s : State) : Aside b s (lose b m s) :=
  ⟨frame_lose b m s, rfl, rfl, rfl, fun _ _ => rfl, fun _ => rfl, rfl⟩

/-- The answers of the last cycle are gone. -/
def cleared (s : State) : State := updMc (fun c => { c with answers := [] }) s

/-! ### Cycles of one and two requests -/

theorem portCycle_occupied (rs : List MicaReq) (h : 0 < (bankOf s b).busyB) : portCycle b rs s =
    rs.foldl (fun st r => lose b r.master st) (busied b (· - 1) s) := if_pos h

theorem portCycle_none (s : State) : Aside b s (portCycle b [] s) := by
  by_cases h : 0 < (bankOf s b).busyB
  · rw [portCycle_occupied [] h]
    exact aside_busied _ _ _
  · unfold portCycle
    rw [if_neg h, winner_none]
    exact .refl s

theorem portCycle_free {rs : List MicaReq} {w : MicaReq} (h : (bankOf s b).busyB = 0) (hw : winner s b rs = some w) : portCycle b rs s =
    (rs.filter (fun r => r.master != w.master)).foldl (fun st r => lose b r.master st)
      (access b w (served b w.master (busied b (fun _ => extraCycles w) s))) := by
  unfold portCycle
  rw [if_neg (by omega), hw]
  rfl

theorem portCycle_one (r : MicaReq) (h : (bankOf s b).busyB = 0) :
    portCycle b [r] s = access b r (served b r.master (busied b (fun _ => extraCycles r) s)) := by
  rw [portCycle_free h (winner_one s b r), List.filter_cons_of_neg (by simp)]
  rfl

theorem portCycle_two {r1 r2 w l : MicaReq} (h : (bankOf s b).busyB = 0) (hw : winner s b [r1, r2] = some w) (hne : l.master ≠ w.master)
    (hwl : w = r1 ∧ l = r2 ∨ w = r2 ∧ l = r1) :
    portCycle b [r1, r2] s = lose b l.master (access b w (served b w.master (busied b (fun _ => extraCycles w) s))) := by
  rw [portCycle_free h hw]
  rcases hwl with ⟨rfl, rfl⟩ | ⟨rfl, rfl⟩
  · rw [List.filter_cons_of_neg (by simp), List.filter_cons_of_pos (by simpa using hne)]
    rfl
  · rw [List.filter_cons_of_pos (by simpa using hne), List.filter_cons_of_neg (by simp)]
    rfl

/-- A request of a master to a bank. -/
def ToBank (b : Nat) (r : MicaReq) : Prop := r.addr / 1048576 = b ∧ r.master ≤ 8

theorem mine_eq {rs : List MicaReq} (h : ∀ r ∈ rs, ToBank b r) : rs.filter (fun r => r.addr / 1048576 == b && decide (r.master ≤ 8)) = rs :=
  List.filter_eq_self.mpr fun r hr => by simpa [ToBank] using h r hr

/-- A serving bank without a request of M0, or one that M0 does not reach, serves by port B. -/
theorem bankCycle_others {rs : List MicaReq} (hinj : s.ev.injs = []) (hserves : bankServes s b = true) (h : ∀ r ∈ rs, ToBank b r)
    (hm : ∀ r ∈ rs, r.master ≠ 0) : bankCycle b rs s = portCycle b rs (cleared s) := by
  have hothers : rs.filter (fun r => r.master != 0) = rs := List.filter_eq_self.mpr fun r hr => by simpa using hm r hr
  have hnone : rs.find? (fun r => r.master == 0) = none := List.find?_eq_none.mpr fun r hr => by simpa using hm r hr
  unfold bankCycle
  simp only [mine_eq h, hothers, hnone, hserves, forced_of_noInjs hinj, Bool.not_true, Bool.or_false, Bool.false_eq_true, if_false, Option.bind_none,
    Option.getD_none, Bool.and_false]
  exact ite_self _

theorem bankCycle_m0_far {r : MicaReq} (hinj : s.ev.injs = []) (hserves : bankServes s b = true) (h : ToBank b r) (hm : r.master = 0) (hb : 4 ≤ b) :
    bankCycle b [r] s = portCycle b [] (cleared s) := by
  unfold bankCycle
  have hnone : [r].filter (fun r => r.master != 0) = [] := List.filter_cons_of_neg (by simp [hm])
  rw [if_neg (by simp [hserves, forced_of_noInjs hinj]), if_neg (by omega), mine_eq (by simpa using h), hnone]
  rfl

theorem bankCycle_m0 {r : MicaReq} {rs : List MicaReq} (hinj : s.ev.injs = []) (hserves : bankServes s b = true) (h : ∀ r' ∈ r :: rs, ToBank b r')
    (hm : r.master = 0) (hrs : ∀ r' ∈ rs, r'.master ≠ 0) (hb : b < 4) : bankCycle b (r :: rs) s =
      if (decide ((bankOf (access b r (cleared s)) b).busyB = 0) && ((winner (access b r (cleared s)) b rs).map (sameWord r)).getD false) = true then
        rs.foldl (fun st r => lose b r.master st) (access b r (cleared s))
      else portCycle b rs (access b r (cleared s)) := by
  have hothers : (r :: rs).filter (fun r => r.master != 0) = rs := by
    rw [List.filter_cons_of_neg (by simp [hm])]
    exact List.filter_eq_self.mpr fun r' hr => by simpa using hrs r' hr
  have hfind : (r :: rs).find? (fun r => r.master == 0) = some r := List.find?_cons_of_pos (by simpa using hm)
  unfold bankCycle
  simp only [mine_eq h, hothers, hfind, hserves, forced_of_noInjs hinj, Bool.not_true, Bool.or_false, Bool.false_eq_true, if_false, hb, if_true,
    Option.bind_some]
  rfl

theorem bankCycle_m0_alone {r : MicaReq} (hinj : s.ev.injs = []) (hserves : bankServes s b = true) (h : ToBank b r) (hm : r.master = 0) (hb : b < 4) :
    bankCycle b [r] s = portCycle b [] (access b r (cleared s)) := by
  rw [bankCycle_m0 hinj hserves (by simpa using h) hm (by simp) hb, winner_none]
  exact if_neg (by simp)

end Sys2Proof.Proofs
end

section
/-!
PROOFS. What the masters of a Mica bank get in a cycle (R298 to R301, R303), and what settles O46.
-/

namespace Sys2Proof.Proofs

open Sys2Proof.Machine Sys2Proof.Safety

variable {s y t : State} {b : Nat}

/-- Nothing but Mica has changed, and no other bank. -/
def Quiet (b : Nat) (s t : State) : Prop := onlyIn [.mc] s t ∧ ∀ k : Nat, k ≠ b → bankOf t k = bankOf s k

theorem Aside.quiet (h : Aside b s t) : Quiet b s t := ⟨h.frame, h.others⟩

theorem Quiet.trans (h : Quiet b s y) (h' : Quiet b y t) : Quiet b s t := ⟨onlyIn_step h'.1 rfl h.1, fun k hk => (h'.2 k hk).trans (h.2 k hk)⟩

theorem Accessed.quiet {r : MicaReq} (h : Accessed b r s t) : Quiet b s t := ⟨h.frame, h.others⟩

theorem quiet_cleared (s : State) : Quiet b s (cleared s) := ⟨onlyIn_put_mc _ s, fun _ _ => rfl⟩

/-- A read that was served: the word, and a corrected error counted at module and bank. -/
theorem read_result {r : MicaReq} (hy : Aside b (cleared s) y) (ht : Aside b (access b r y) t) (hb : b < s.mc.banks.length) (hw : r.write = none) :
    Quiet b s t ∧ t.mc.mem = s.mc.mem ∧ t.mc.answers = [⟨r.master, readBytes s.mc.mem (r.addr / 8 * 8) 8, false⟩] ∧
      t.mc.corrected = (if r.single then wrapU 32 (s.mc.corrected + 1) else s.mc.corrected) ∧
      (bankOf t b).corrected = (if r.single then satU 16 ((bankOf s b).corrected + 1) else (bankOf s b).corrected) := by
  have hacc := access_accessed (b := b) r y
  have hyb : b < y.mc.banks.length := by
    rw [hy.len]
    exact hb
  have hycorr : (bankOf y b).corrected = (bankOf s b).corrected := by
    rw [hy.bank hb]
    rfl
  refine ⟨(quiet_cleared s).trans (hy.quiet.trans (hacc.quiet.trans ht.quiet)), ?_⟩
  rw [ht.mem, ht.answers, ht.corrected]
  have htcorr : (bankOf t b).corrected = (bankOf (access b r y) b).corrected := by
    rw [ht.bank ?_]
    rw [access_read hw]
    split
    · exact hyb.trans_eq (length_updAt _ _ _).symm
    · exact hyb
  rw [htcorr, access_read hw]
  have hmem : y.mc.mem = s.mc.mem := hy.mem
  have hans : y.mc.answers = [] := hy.answers
  have hcorr : y.mc.corrected = s.mc.corrected := hy.corrected
  cases r.single with
  | true =>
    simp only [if_true]
    refine ⟨hmem, ?_, congrArg (fun n => wrapU 32 (n + 1)) hcorr, ?_⟩
    · show y.mc.answers ++ [⟨r.master, readBytes y.mc.mem (r.addr / 8 * 8) 8, false⟩] = _
      rw [hans, hmem, List.nil_append]
    · have hbank := congrArg Bank.corrected ((countCorrected_bank y).2 hyb)
      exact hbank.trans (congrArg (fun n => satU 16 (n + 1)) hycorr)
  | false =>
    simp only [Bool.false_eq_true, if_false]
    refine ⟨hmem, ?_, hcorr, hycorr⟩
    show y.mc.answers ++ [⟨r.master, readBytes y.mc.mem (r.addr / 8 * 8) 8, false⟩] = _
    rw [hans, hmem, List.nil_append]

/-- A write that was served: its bytes within the word, and no others. -/
theorem write_result {r : MicaReq} {w : Bytes} (hwf : s.mc.mem.wf = true) (hy : Aside b (cleared s) y) (ht : Aside b (access b r y) t) (hw : r.write = some w) :
    Quiet b s t ∧ (∀ a, readByte t.mc.mem a =
      if r.addr ≤ a ∧ a < r.addr + (w.take (8 - r.addr % 8)).length then nth w (a - r.addr) 0 else readByte s.mc.mem a) ∧
      t.mc.answers = [⟨r.master, [], false⟩] ∧ t.mc.corrected = s.mc.corrected := by
  have hacc := access_accessed (b := b) r y
  refine ⟨(quiet_cleared s).trans (hy.quiet.trans (hacc.quiet.trans ht.quiet)), fun a => ?_, ?_, ?_⟩
  · rw [ht.mem, access_write hw]
    show readByte (writeBytes r.addr (w.take (8 - r.addr % 8)) y.mc.mem) a = _
    rw [hy.mem]
    show readByte (writeBytes r.addr (w.take (8 - r.addr % 8)) s.mc.mem) a = _
    rw [readByte_writeBytes _ hwf]
    by_cases hin : r.addr ≤ a ∧ a < r.addr + (w.take (8 - r.addr % 8)).length
    · rw [if_pos hin, if_pos hin, nth_take _ (by omega)]
    · rw [if_neg hin, if_neg hin]
  · rw [ht.answers, access_write hw]
    show y.mc.answers ++ [⟨r.master, [], false⟩] = _
    rw [hy.answers]
    rfl
  · rw [ht.corrected, access_write hw]
    exact hy.corrected

/-! ### The steps -/

variable {bank : Fin 64} {reqs : List MicaReq}

theorem micaAccess_outside (h : ∃ r ∈ reqs, 67108864 ≤ r.addr) : exec (.micaAccess bank reqs) s = .fault .outsideMica :=
  if_pos (by simpa using h)

theorem micaAccess_inside (h : ∀ r ∈ reqs, ToBank bank.val r) : exec (.micaAccess bank reqs) s = .next (bankCycle bank.val reqs s) := by
  refine if_neg ?_
  simp only [List.any_eq_true, decide_eq_true_eq, not_exists, not_and, Nat.not_le]
  intro r hr
  obtain ⟨hbank, -⟩ := h r hr
  have := bank.isLt
  omega

variable {r r1 r2 : MicaReq}

theorem micaAccess_refused (h : ToBank bank.val r) (hserves : bankServes s bank.val = false) : exec (.micaAccess bank [r]) s =
    .next (happen detBankAccessError 0 (r.master + 256 * bank.val) { s with mc := { s.mc with answers := [⟨r.master, zeros 8, true⟩] } }) := by
  rw [micaAccess_inside (by simpa using h)]
  refine congrArg Host.Outcome.next ((if_pos (by simp [hserves])).trans ?_)
  rw [mine_eq (by simpa using h)]
  rfl

/-- The state of a bank before an access by port B. -/
def served1 (b : Nat) (r : MicaReq) (s : State) : State := served b r.master (busied b (fun _ => extraCycles r) (cleared s))

theorem aside_served1 (b : Nat) (r : MicaReq) (s : State) : Aside b (cleared s) (served1 b r s) := (aside_busied _ _ _).trans (aside_served _ _ _)

/-- A request alone that is served: by port B when it is free, or by port A for M0. -/
theorem micaAccess_alone (hinj : s.ev.injs = []) (hserves : bankServes s bank.val = true) (h : ToBank bank.val r)
    (hport : (r.master ≠ 0 ∧ (bankOf s bank.val).busyB = 0) ∨ (r.master = 0 ∧ bank.val < 4)) :
    ∃ y t, exec (.micaAccess bank [r]) s = .next t ∧ Aside bank.val (cleared s) y ∧ Aside bank.val (access bank.val r y) t ∧
      (r.master ≠ 0 → y = served1 bank.val r s ∧ t = access bank.val r y) := by
  have hexec := micaAccess_inside (s := s) (bank := bank) (reqs := [r]) (by simpa using h)
  rcases hport with ⟨hm, hbusy⟩ | ⟨hm, hb⟩
  · rw [bankCycle_others hinj hserves (by simpa using h) (by simpa using hm), portCycle_one (s := cleared s) r hbusy] at hexec
    exact ⟨_, _, hexec, aside_served1 _ _ _, .refl _, fun _ => ⟨rfl, rfl⟩⟩
  · rw [bankCycle_m0_alone hinj hserves h hm hb] at hexec
    exact ⟨_, _, hexec, .refl _, portCycle_none _, fun hne => absurd hm hne⟩

theorem micaAccess_served (hinj : s.ev.injs = []) (hwf : s.mc.mem.wf = true) (hlen : s.mc.banks.length = 64) (hserves : bankServes s bank.val = true)
    (h : ToBank bank.val r) (hport : (r.master ≠ 0 ∧ (bankOf s bank.val).busyB = 0) ∨ (r.master = 0 ∧ bank.val < 4)) :
    (r.write = none → ∃ t, exec (.micaAccess bank [r]) s = .next t ∧ Quiet bank.val s t ∧ t.mc.mem = s.mc.mem ∧
      t.mc.answers = [⟨r.master, readBytes s.mc.mem (r.addr / 8 * 8) 8, false⟩] ∧
      t.mc.corrected = (if r.single then wrapU 32 (s.mc.corrected + 1) else s.mc.corrected) ∧
      (bankOf t bank.val).corrected = (if r.single then satU 16 ((bankOf s bank.val).corrected + 1) else (bankOf s bank.val).corrected)) ∧
    (∀ w, r.write = some w → ∃ t, exec (.micaAccess bank [r]) s = .next t ∧ Quiet bank.val s t ∧ (∀ a, readByte t.mc.mem a =
        if r.addr ≤ a ∧ a < r.addr + (w.take (8 - r.addr % 8)).length then nth w (a - r.addr) 0 else readByte s.mc.mem a) ∧
      t.mc.answers = [⟨r.master, [], false⟩] ∧ t.mc.corrected = s.mc.corrected ∧
      (r.master ≠ 0 → (bankOf t bank.val).busyB = if w.length < 8 then 1 else 0)) := by
  have hb : bank.val < s.mc.banks.length := bank.isLt.trans_eq hlen.symm
  obtain ⟨y, t, hexec, hy, ht, hb'⟩ := micaAccess_alone hinj hserves h hport
  refine ⟨fun hw => ⟨t, hexec, read_result hy ht hb hw⟩, fun w hw => ?_⟩
  obtain ⟨hquiet, hmem, hans, hcorr⟩ := write_result hwf hy ht hw
  refine ⟨t, hexec, hquiet, hmem, hans, hcorr, fun hm => ?_⟩
  obtain ⟨rfl, rfl⟩ := hb' hm
  rw [access_write hw]
  show (bankOf (busied bank.val (fun _ => extraCycles r) (cleared s)) bank.val).busyB = _
  rw [busied_busy _ (by exact hb), extraCycles]
  simp only [hw]

theorem micaAccess_waits (hlen : s.mc.banks.length = 64) (hinj : s.ev.injs = []) (hserves : bankServes s bank.val = true) (h : ToBank bank.val r)
    (hm : r.master ≠ 0) (hbusy : 0 < (bankOf s bank.val).busyB) : ∃ t, exec (.micaAccess bank [r]) s = .next t ∧ Quiet bank.val s t ∧
      t.mc.mem = s.mc.mem ∧ t.mc.answers = [] ∧ (bankOf t bank.val).busyB = (bankOf s bank.val).busyB - 1 ∧
      lossOf t bank.val r.master = lossOf s bank.val r.master + 1 := by
  have hexec := micaAccess_inside (s := s) (bank := bank) (reqs := [r]) (by simpa using h)
  rw [bankCycle_others hinj hserves (by simpa using h) (by simpa using hm), portCycle_occupied (s := cleared s) [r] hbusy] at hexec
  have haside := (aside_busied bank.val (· - 1) (cleared s)).trans (aside_lose bank.val r.master _)
  refine ⟨_, hexec, (quiet_cleared s).trans haside.quiet, haside.mem, haside.answers, ?_, ?_⟩
  · exact busied_busy (s := cleared s) (· - 1) (bank.isLt.trans_eq hlen.symm)
  · exact (lossOf_lose _).trans (if_pos rfl)

/-- One of two masters is served by port B, and the other loses the cycle. -/
theorem portCycle_pair {w l : MicaReq} (hpro : s.mc.promotions.length = 9) (hl : l.master ≤ 8) (hbusy : (bankOf s b).busyB = 0)
    (hw : winner s b [r1, r2] = some w) (hne : l.master ≠ w.master) (hwl : w = r1 ∧ l = r2 ∨ w = r2 ∧ l = r1) :
    Quiet b s (portCycle b [r1, r2] s) ∧
    (portCycle b [r1, r2] s).mc.answers.map MicaAnswer.master = s.mc.answers.map MicaAnswer.master ++ [w.master] ∧
    lossOf (portCycle b [r1, r2] s) b w.master = 0 ∧ lossOf (portCycle b [r1, r2] s) b l.master = lossOf s b l.master + 1 ∧
    nth (portCycle b [r1, r2] s).mc.promotions l.master 0 =
      (if lossOf s b l.master = 63 then wrapU 32 (nth s.mc.promotions l.master 0 + 1) else nth s.mc.promotions l.master 0) := by
  rw [portCycle_two hbusy hw hne hwl]
  have hacc := access_accessed (b := b) w (served b w.master (busied b (fun _ => extraCycles w) s))
  have haside := (aside_busied b (fun _ => extraCycles w) s).trans (aside_served b w.master _)
  have hlose := aside_lose b l.master (access b w (served b w.master (busied b (fun _ => extraCycles w) s)))
  have hloss (m : Nat) : lossOf (access b w (served b w.master (busied b (fun _ => extraCycles w) s))) b m = if m = w.master then 0 else lossOf s b m :=
    (lossOf_congr hacc.losses).trans (lossOf_served _)
  refine ⟨haside.quiet.trans (hacc.quiet.trans hlose.quiet), ?_, ?_, ?_, ?_⟩
  · rw [hlose.answers, hacc.masters, haside.answers]
  · rw [lossOf_lose, if_neg (Ne.symm hne), hloss, if_pos rfl]
  · rw [lossOf_lose, if_pos rfl, hloss, if_neg hne]
  · have hp : (access b w (served b w.master (busied b (fun _ => extraCycles w) s))).mc.promotions = s.mc.promotions := hacc.promotions
    rw [lose_promotions (by rw [hp]; omega), hloss, if_neg hne, hp]

theorem micaAccess_pair (hpro : s.mc.promotions.length = 9) (hinj : s.ev.injs = []) (hserves : bankServes s bank.val = true) (h1 : ToBank bank.val r1)
    (h2 : ToBank bank.val r2) (hm1 : 0 < r1.master) (hm2 : r1.master < r2.master) (hbusy : (bankOf s bank.val).busyB = 0) :
    ∃ t, exec (.micaAccess bank [r1, r2]) s = .next t ∧ Quiet bank.val s t ∧
      (64 ≤ lossOf s bank.val r1.master ∨ lossOf s bank.val r2.master < 64 → t.mc.answers.map MicaAnswer.master = [r1.master] ∧
        lossOf t bank.val r1.master = 0 ∧ lossOf t bank.val r2.master = lossOf s bank.val r2.master + 1 ∧
        nth t.mc.promotions r2.master 0 =
          (if lossOf s bank.val r2.master = 63 then wrapU 32 (nth s.mc.promotions r2.master 0 + 1) else nth s.mc.promotions r2.master 0)) ∧
      (¬(64 ≤ lossOf s bank.val r1.master ∨ lossOf s bank.val r2.master < 64) → t.mc.answers.map MicaAnswer.master = [r2.master] ∧
        lossOf t bank.val r2.master = 0 ∧ lossOf t bank.val r1.master = lossOf s bank.val r1.master + 1) := by
  have hexec := micaAccess_inside (s := s) (bank := bank) (reqs := [r1, r2]) (by simpa using ⟨h1, h2⟩)
  rw [bankCycle_others hinj hserves (by simpa using ⟨h1, h2⟩) (by simp; omega)] at hexec
  have hloss (m : Nat) : lossOf (cleared s) bank.val m = lossOf s bank.val m := rfl
  by_cases hfirst : 64 ≤ lossOf s bank.val r1.master ∨ lossOf s bank.val r2.master < 64
  · obtain ⟨hquiet, hans, hzero, hplus, hprom⟩ := portCycle_pair (s := cleared s) hpro h2.2 hbusy (winner_first hm2 hfirst) (by omega) (.inl ⟨rfl, rfl⟩)
    exact ⟨_, hexec, (quiet_cleared s).trans hquiet, fun _ => ⟨hans, hzero, hplus, hprom⟩, fun hno => absurd hfirst hno⟩
  · obtain ⟨hquiet, hans, hzero, hplus, -⟩ := portCycle_pair (s := cleared s) hpro h1.2 hbusy (winner_second hfirst) (by omega) (.inr ⟨rfl, rfl⟩)
    exact ⟨_, hexec, (quiet_cleared s).trans hquiet, fun hyes => absurd hyes hfirst, fun _ => ⟨hans, hzero, hplus⟩⟩

theorem micaAccess_with_m0 (hlen : s.mc.banks.length = 64) (hinj : s.ev.injs = []) (hserves : bankServes s bank.val = true) (h1 : ToBank bank.val r1)
    (h2 : ToBank bank.val r2) (hm1 : r1.master = 0) (hm2 : r2.master ≠ 0) (hb : bank.val < 4) (hbusy : (bankOf s bank.val).busyB = 0) :
    ∃ t, exec (.micaAccess bank [r1, r2]) s = .next t ∧ Quiet bank.val s t ∧
      (sameWord r1 r2 = true → t.mc.answers.map MicaAnswer.master = [0] ∧ lossOf t bank.val r2.master = lossOf s bank.val r2.master + 1) ∧
      (sameWord r1 r2 = false → t.mc.answers.map MicaAnswer.master = [0, r2.master] ∧ lossOf t bank.val r2.master = 0) := by
  have hexec := micaAccess_inside (s := s) (bank := bank) (reqs := [r1, r2]) (by simpa using ⟨h1, h2⟩)
  rw [bankCycle_m0 hinj hserves (by simpa using ⟨h1, h2⟩) hm1 (by simpa using hm2) hb, winner_one] at hexec
  have hacc := access_accessed (b := bank.val) r1 (cleared s)
  have hmasters : (access bank.val r1 (cleared s)).mc.answers.map MicaAnswer.master = [0] := by
    rw [hacc.masters, hm1]
    rfl
  have hfree : (bankOf (access bank.val r1 (cleared s)) bank.val).busyB = 0 := (hacc.busy (bank.isLt.trans_eq hlen.symm)).trans hbusy
  have hloss : lossOf (access bank.val r1 (cleared s)) bank.val r2.master = lossOf s bank.val r2.master := lossOf_congr hacc.losses
  have hquiet := (quiet_cleared s).trans hacc.quiet
  generalize access bank.val r1 (cleared s) = x at hexec hmasters hfree hloss hquiet
  cases hword : sameWord r1 r2 with
  | true =>
    rw [if_pos (by simp [hfree, hword])] at hexec
    have hlose := aside_lose bank.val r2.master x
    refine ⟨_, hexec, hquiet.trans hlose.quiet, fun _ => ⟨hlose.answers ▸ hmasters, ?_⟩, fun h => absurd h (by decide)⟩
    exact (lossOf_lose _).trans ((if_pos rfl).trans (congrArg (· + 1) hloss))
  | false =>
    rw [if_neg (by simp [hword]), portCycle_one r2 hfree] at hexec
    have hacc2 := access_accessed (b := bank.val) r2 (served bank.val r2.master (busied bank.val (fun _ => extraCycles r2) x))
    have haside := (aside_busied bank.val (fun _ => extraCycles r2) x).trans (aside_served bank.val r2.master _)
    refine ⟨_, hexec, hquiet.trans (haside.quiet.trans hacc2.quiet), fun h => absurd h (by decide), fun _ => ⟨?_, ?_⟩⟩
    · rw [hacc2.masters, haside.answers, hmasters]
      rfl
    · exact (lossOf_congr hacc2.losses).trans ((lossOf_served _).trans (if_pos rfl))

end Sys2Proof.Proofs
end

section
namespace Sys2Proof.Proofs

open Sys2Proof.Machine Sys2Proof.Safety

/-- Settles O46: a cycle is the access of the winner, and what else it does leaves content, answers and the other banks. -/
theorem banksServeMasters : Obligations.BanksServeMasters := by
  intro bank s b mine stored quiet
  refine ⟨fun reqs h => micaAccess_outside h, fun hwf hlen hpro hinj => ⟨fun r h hserves => micaAccess_refused h hserves, fun hserves =>
    ⟨fun r h hm hb hbusy => ?_, fun r h hport => micaAccess_served hinj hwf hlen hserves h hport, fun r h hm hbusy =>
      micaAccess_waits hlen hinj hserves h hm hbusy, fun r1 r2 h1 h2 hm1 hm2 hbusy => micaAccess_pair hpro hinj hserves h1 h2 hm1 hm2 hbusy,
      fun r1 r2 h1 h2 hm1 hm2 hb hbusy => micaAccess_with_m0 hlen hinj hserves h1 h2 hm1 hm2 hb hbusy⟩⟩⟩
  have hto : ToBank bank.val r := h
  rw [micaAccess_inside (by simpa using hto), bankCycle_m0_far hinj hserves hto hm hb]
  exact congrArg Host.Outcome.next ((if_neg (Nat.not_lt.mpr (Nat.le_of_eq hbusy))).trans (by rw [winner_none]; rfl))

end Sys2Proof.Proofs
end

section
/-!
PROOFS. Atomic operations, bank power and uncorrectable errors of Mica (R302, R303, R305) for O47.
-/

namespace Sys2Proof.Proofs

open Sys2Proof.Machine Sys2Proof.Safety

variable {s : State}

/-! ### Atomic operations (R302) -/

theorem readBytes_writeBytes {bs : Bytes} {m : Memory} (a : Nat) (h : m.wf = true) : readBytes (writeBytes a bs m) a bs.length = bs := by
  refine List.ext_getElem (by simp [readBytes]) fun i h1 h2 => ?_
  simp only [readBytes, List.getElem_map, List.getElem_range, readByte_writeBytes a h]
  rw [if_pos (by omega), Nat.add_sub_cancel_left, nth, List.getD_eq_getElem _ _ h2]

variable (m : Fin 9) (op : MicaOp) (addr value : Nat)

/-- The word of an atomic operation as it was. -/
def oldWord (op : MicaOp) (addr : Nat) (s : State) : Bytes := readBytes s.mc.mem addr (opWidth op)

/-- The word of an atomic operation as it is left. -/
def newWord (op : MicaOp) (addr value : Nat) (s : State) : Bytes := leN (opWidth op) (opResult op (natOfLe (oldWord op addr s)) value)

/-- An atomic operation performed at its bank. -/
def atomicDone (op : MicaOp) (addr value m : Nat) (s : State) : State :=
  updMc (fun c => { c with mem := writeBytes addr (newWord op addr value s) c.mem, answers := [⟨m, oldWord op addr s, false⟩] })
    (served (addr / 1048576) m (busied (addr / 1048576) (fun _ => 1) (cleared s)))

theorem micaAtomic_refused (hin : addr < 67108864) (h : m.val = 0 ∨ addr % opWidth op ≠ 0) : exec (.micaAtomic m op addr value) s =
    .next { s with mc := { s.mc with answers := [⟨m.val, zeros (opWidth op), true⟩] } } :=
  (if_neg (Nat.not_le.mpr hin)).trans (congrArg Host.Outcome.next (if_pos (by simpa using h)))

theorem micaAtomic_aligned (hin : addr < 67108864) (hm : m.val ≠ 0) (hal : addr % opWidth op = 0) : exec (.micaAtomic m op addr value) s =
    .next (if !bankServes s (addr / 1048576) then happen detBankAccessError 0 (m.val + 256 * (addr / 1048576))
        { s with mc := { s.mc with answers := [⟨m.val, zeros 8, true⟩] } }
      else atomicDone op addr value m.val s) :=
  (if_neg (Nat.not_le.mpr hin)).trans (congrArg Host.Outcome.next ((if_neg (by simp [hm, hal])).trans rfl))

theorem opResult_eq (op : MicaOp) (old value : Nat) : opResult op old value = match op with
    | .add32 => (old + value) % 2 ^ 32
    | .add64 => (old + value) % 2 ^ 64
    | .swap32 => value % 2 ^ 32
    | .swap64 => value % 2 ^ 64 := by
  cases op <;> rfl

theorem atomicDone_result (hwf : s.mc.mem.wf = true) (hb : addr / 1048576 < s.mc.banks.length) :
    onlyIn [.mc] s (atomicDone op addr value m.val s) ∧ (atomicDone op addr value m.val s).mc.answers = [⟨m.val, oldWord op addr s, false⟩] ∧
      readBytes (atomicDone op addr value m.val s).mc.mem addr (opWidth op) = newWord op addr value s ∧
      (∀ a, (a < addr ∨ addr + opWidth op ≤ a) → readByte (atomicDone op addr value m.val s).mc.mem a = readByte s.mc.mem a) ∧
      (bankOf (atomicDone op addr value m.val s) (addr / 1048576)).busyB = 1 ∧
      lossOf (atomicDone op addr value m.val s) (addr / 1048576) m.val = 0 ∧
      ∀ k : Nat, k ≠ addr / 1048576 → bankOf (atomicDone op addr value m.val s) k = bankOf s k := by
  have hlen : (newWord op addr value s).length = opWidth op := length_leN _ _
  have hbusy : Aside (addr / 1048576) (cleared s) (busied (addr / 1048576) (fun _ => 1) (cleared s)) := aside_busied _ _ _
  refine ⟨onlyIn_step (frame_updMc _ _) rfl ((quiet_cleared s).trans (hbusy.trans (aside_served _ _ _)).quiet).1, rfl, ?_, fun a ha => ?_, ?_, ?_, hbusy.others⟩
  · show readBytes (writeBytes addr (newWord op addr value s) s.mc.mem) addr (opWidth op) = _
    conv_lhs => rw [← hlen]
    exact readBytes_writeBytes addr hwf
  · exact readByte_writeBytes_outside hwf (by rw [hlen]; exact ha)
  · exact busied_busy (s := cleared s) (fun _ => 1) hb
  · exact (lossOf_served (busied (addr / 1048576) (fun _ => 1) (cleared s))).trans (if_pos rfl)

/-! ### Bank power (R305) -/

/-- Of Mica only a bank and, for OFF, content have changed. -/
structure OneBank (b : Nat) (s t : State) : Prop where
  frame : onlyIn [.mc] s t
  rest : { t.mc with mem := s.mc.mem, banks := s.mc.banks } = s.mc
  len : t.mc.banks.length = 64
  others : ∀ j : Nat, j ≠ b → bankOf t j = bankOf s j

variable {b : Nat}

theorem oneBank_entry (hlen : s.mc.banks.length = 64) (f : Bank → Bank) : OneBank b s (updMcBank b f s) :=
  ⟨frame_updMcBank b f s, rfl, (length_updAt _ _ _).trans hlen, fun _ hj => bankOf_updMcBank_other f hj⟩

/-- The content of a bank gone with it. -/
def bankLost (b : Nat) (s : State) : State :=
  updMc (fun c => { c with mem := clearSpan (1048576 * b) (1048576 * (b + 1)) c.mem })
    (updMcBank b (fun k => { k with st := .off, ready := false, scrub := false }) s)

theorem bankPower_off (h : (bankOf s b).st ≠ .off) : bankPower b .off s = bankLost b s := by
  unfold bankPower
  cases hst : (bankOf s b).st with
  | on => rfl
  | ret => rfl
  | off => exact absurd hst h

theorem bankPower_on_ret (h : (bankOf s b).st = .on) : bankPower b .ret s = updMcBank b (fun k => { k with st := .ret }) s := by
  unfold bankPower
  rw [h]

theorem bankPower_ret_on (h : (bankOf s b).st = .ret) : bankPower b .on s = updMcBank b (fun k => { k with st := .on, scrub := true }) s := by
  unfold bankPower
  rw [h]

theorem bankPower_off_on (h : (bankOf s b).st = .off) : bankPower b .on s = updMcBank b (fun k => { k with st := .on, ready := false }) s := by
  unfold bankPower
  rw [h]

theorem bankPower_same {st : BankSt} (h : st = (bankOf s b).st ∨ ((bankOf s b).st = .off ∧ st = .ret)) : bankPower b st s = s := by
  unfold bankPower
  rcases h with rfl | ⟨hoff, rfl⟩
  · cases (bankOf s b).st <;> rfl
  · rw [hoff]

theorem bankLost_result (hlen : s.mc.banks.length = 64) (hb : b < 64) : OneBank b s (bankLost b s) ∧ (bankOf (bankLost b s) b).st = .off ∧
    bankServes (bankLost b s) b = false ∧ (∀ a, a / 1048576 = b → readByte (bankLost b s).mc.mem a = 0) ∧
    ∀ a, a / 1048576 ≠ b → readByte (bankLost b s).mc.mem a = readByte s.mc.mem a := by
  have hres := powerResult_off (s := s) (b := b) (by omega) (fun k => { k with st := .off, ready := false, scrub := false }) fun _ => rfl
  have hentry := oneBank_entry (b := b) hlen fun k => { k with st := .off, ready := false, scrub := false }
  have hbank : bankOf (bankLost b s) b = _ := bankOf_updMcBank (fun k => { k with st := .off, ready := false, scrub := false }) (by omega)
  refine ⟨⟨onlyIn_step (frame_updMc _ _) rfl hentry.frame, rfl, hentry.len, hentry.others⟩, by rw [hbank], ?_, fun a ha => ?_, hres.kept⟩
  · rw [bankServes, hbank]
    rfl
  · refine (readByte_clearSpan _ _ a s.mc.mem).trans (if_neg ?_)
    omega

/-! ### Uncorrectable errors (R303, Table 11-2) -/

variable (us : Fin 1000)

/-- An uncorrectable error is counted, with its address and frame. -/
def errorCounted (addr : Nat) (s : State) : State :=
  { s with mc := { s.mc with uncorrectable := wrapU 32 (s.mc.uncorrectable + 1), badAddr := addr, badFrame := s.clk.frame } }

theorem micaUncorrectable_other (h : s.clk.running = false ∨ 67108864 ≤ addr ∨ (bankOf s (addr / 1048576)).st ≠ .on) :
    exec (.micaUncorrectable addr us) s = .next s := by
  refine congrArg Host.Outcome.next (if_neg ?_)
  simp only [Bool.and_eq_true, decide_eq_true_eq, beq_iff_eq]
  rintro ⟨⟨hrun, hin⟩, hon⟩
  rcases h with h | h | h
  · rw [h] at hrun
    exact absurd hrun (by decide)
  · omega
  · exact h hon

theorem micaUncorrectable_on (hrun : s.clk.running = true) (hin : addr < 67108864) (hon : (bankOf s (addr / 1048576)).st = .on) :
    exec (.micaUncorrectable addr us) s =
      .next (happen detMicaUncorrectable 0 addr (bankAction (addr / 1048576) us.val (errorCounted addr s))) :=
  congrArg Host.Outcome.next (if_pos (by simp [hrun, hin, hon]))

/-- A record part, which is free, is not fresh at the next input latch. -/
def partMarked (s : State) : State := updMc (fun c => { c with badPart := some ((freshNat s).1 % 5) }) (freshNat s).2

/-- The bank of an address acts by Table 11-2. -/
theorem bankAction_eq (b us : Nat) (s : State) : bankAction b us s =
    if b < 4 then partMarked s
    else if b < 8 || (16 ≤ b && b < 32) then assertSource 5 (sourceLevel s 5 2) us s
    else if b < 12 then softUnit 4 us s
    else if b < 16 then softUnit 5 us s
    else if b < 48 then ringLost s
    else if b < 56 then lineLost s
    else if b < 60 then entryLost s
    else s := rfl

theorem bankAction_low (h : b < 4) (us : Nat) (s : State) : ∃ p t, p < 5 ∧ t.mc = { s.mc with badPart := some p } ∧ onlyIn [.mc, .free] s t ∧
    bankAction b us s = t := by
  refine ⟨(freshNat s).1 % 5, partMarked s, Nat.mod_lt _ (by decide), rfl, ?_, by rw [bankAction_eq, if_pos h]⟩
  exact onlyIn_step (frame_updMc _ _) rfl (onlyIn_mono (onlyIn_put_free _ s) rfl)

theorem bankAction_compute (h : (4 ≤ b ∧ b < 8) ∨ (16 ≤ b ∧ b < 32)) (us : Nat) (s : State) :
    bankAction b us s = assertSource 5 (sourceLevel s 5 2) us s := by
  rw [bankAction_eq, if_neg (by omega), if_pos (by simp; omega)]

theorem bankAction_units (us : Nat) (s : State) : (8 ≤ b → b < 12 → bankAction b us s = softUnit 4 us s) ∧
    (12 ≤ b → b < 16 → bankAction b us s = softUnit 5 us s) := by
  refine ⟨fun h h' => ?_, fun h h' => ?_⟩
  · rw [bankAction_eq, if_neg (by omega), if_neg (by simp; omega), if_pos h']
  · rw [bankAction_eq, if_neg (by omega), if_neg (by simp; omega), if_neg (by omega), if_pos h']

theorem bankAction_high (us : Nat) (s : State) : (32 ≤ b → b < 48 → bankAction b us s = ringLost s) ∧
    (48 ≤ b → b < 56 → bankAction b us s = lineLost s) ∧ (56 ≤ b → b < 60 → bankAction b us s = entryLost s) ∧ (60 ≤ b → bankAction b us s = s) := by
  have hhigh (h : 32 ≤ b) : bankAction b us s = if b < 48 then ringLost s else if b < 56 then lineLost s else if b < 60 then entryLost s else s := by
    rw [bankAction_eq, if_neg (by omega), if_neg (by simp; omega), if_neg (by omega), if_neg (by omega)]
  refine ⟨fun h h' => ?_, fun h h' => ?_, fun h h' => ?_, fun h => ?_⟩
  · rw [hhigh h, if_pos h']
  · rw [hhigh (by omega), if_neg (by omega), if_pos h']
  · rw [hhigh (by omega), if_neg (by omega), if_neg (by omega), if_pos h']
  · rw [hhigh (by omega), if_neg (by omega), if_neg (by omega), if_neg (by omega)]

theorem ringLost_capture (hring : s.mc.ring = .capture) (hcap : s.qz.cap.st = .running) (hwaits : s.mc.stagingWaits = false) :
    ringLost s = { capturePreempt s with mc := { (capturePreempt s).mc with ring := .free, ringSince := s.clk.ms } } := by
  have htold : Told (updCap (fun k => { k with st := .preempted, data := [] }) s) (capturePreempt s) := told_happen _ _ _ _
  have hmc : (capturePreempt s).mc = s.mc := htold.frame .mc (by decide)
  have hclk : (capturePreempt s).clk = s.clk := htold.clk
  unfold ringLost
  simp only [hring]
  rw [if_pos hcap, ringFree, if_neg (by rw [hmc, hwaits]; decide), ← hclk]
  rfl

theorem ringLost_free (hring : s.mc.ring = .free) : ringLost s = s := by
  unfold ringLost
  simp only [hring]

end Sys2Proof.Proofs
end

section
/-!
PROOFS. The scrub of Mica (R304), and what settles O47.
-/

namespace Sys2Proof.Proofs

open Sys2Proof.Machine Sys2Proof.Safety

variable {s : State}

/-- The next line of a bank in ON is the line itself, where its bank is. -/
theorem nextLine_here (n : Nat) {l : Nat} (h : (bankOf s (l % 1048576 / 16384)).st = .on) : nextLine (n + 1) s l = l % 1048576 := if_pos h

theorem eccInjected_none (hinj : s.ev.injs = []) (l : Nat) : eccInjected s l = none := by simp [eccInjected, injFor, hinj]

theorem scrubLine_idle (n : Nat) (us : Fin 1000) (h : s.clk.running = false ∨ ∀ k ∈ s.mc.banks, k.st ≠ .on) :
    exec (.scrubLine n false us) s = .next s := by
  refine congrArg Host.Outcome.next (if_neg ?_)
  rcases h with h | h
  · simp [h]
  · simpa using fun _ => h

/-- With a bank in ON and no injection the step scrubs a line. -/
theorem scrubLine_runs (n : Nat) (us : Fin 1000) {b : Nat} (hinj : s.ev.injs = []) (hrun : s.clk.running = true) (hb : b < s.mc.banks.length)
    (hon : (bankOf s b).st = .on) : exec (.scrubLine n false us) s = .next (scrubLine n (scrubFirst s)) := by
  have hany : s.mc.banks.any (fun b => b.st == .on) = true := by
    refine List.any_eq_true.mpr ⟨s.mc.banks[b], List.getElem_mem hb, ?_⟩
    rw [bankOf, nth, List.getD_eq_getElem _ _ hb] at hon
    rw [hon]
    rfl
  have hev : (scrubFirst s).ev = s.ev := by
    unfold scrubFirst
    split
    · split <;> rfl
    · rfl
  refine congrArg Host.Outcome.next ((if_pos (by rw [hrun, hany]; rfl)).trans ?_)
  simp only [eccInjected_none (s := scrubFirst s) (by rw [hev]; exact hinj), Bool.false_or, decide_eq_true_eq, reduceCtorEq, if_false]

theorem scrubFirst_none (h : ∀ k ∈ s.mc.banks, k.scrub = false ∨ k.st ≠ .on) : scrubFirst s = s := by
  have hnone : s.mc.banks.findIdx? (fun b => b.scrub && b.st == .on) = none := by
    refine List.findIdx?_eq_none_iff.mpr fun k hk => ?_
    rcases h k hk with hs | hs
    · rw [hs]
      rfl
    · simp [hs]
  unfold scrubFirst
  rw [hnone]

/-- The scrub stands at a line. -/
def scrubAtLine (l : Nat) (s : State) : State := updMc (fun c => { c with scrubAt := l }) s

/-- A bank due a scrub in full goes first. -/
theorem scrubFirst_some {j : Nat} (hj : j < s.mc.banks.length) (hon : (bankOf s j).st = .on) (hdue : (bankOf s j).scrub = true)
    (hfirst : ∀ i : Nat, i < j → (bankOf s i).scrub = false ∨ (bankOf s i).st ≠ .on) (hat : s.mc.scrubAt / 16384 ≠ j) :
    scrubFirst s = scrubAtLine (16384 * j) s := by
  have hget (i : Nat) (hi : i < s.mc.banks.length) : bankOf s i = s.mc.banks[i] := by rw [bankOf, nth, List.getD_eq_getElem _ _ hi]
  have hsome : s.mc.banks.findIdx? (fun b => b.scrub && b.st == .on) = some j := by
    refine List.findIdx?_eq_some_iff_getElem.mpr ⟨hj, ?_, fun i hi => ?_⟩
    · rw [← hget j hj, hdue, hon]
      rfl
    · rw [← hget i (by omega)]
      rcases hfirst i hi with hs | hs
      · simp [hs]
      · simp [hs]
  unfold scrubFirst
  simp only [hsome]
  exact if_neg hat

/-- What a scrubbed line leaves, given where the scrub stands. -/
structure Scrubbed (n l : Nat) (s t : State) : Prop where
  frame : onlyIn [.mc] s t
  mem : t.mc.mem = s.mc.mem
  corrected : t.mc.corrected = wrapU 32 (s.mc.corrected + min n 8)
  bank : bankOf t (l / 16384) = { bankOf s (l / 16384) with
    corrected := satU 16 ((bankOf s (l / 16384)).corrected + min n 8), scrub := (bankOf s (l / 16384)).scrub && l % 16384 != 16383 }
  others : ∀ k : Nat, k ≠ l / 16384 → bankOf t k = bankOf s k
  next : t.mc.scrubAt = nextLine 64 s (l + 1)
  lines : t.mc.lines = if nextLine 64 s (l + 1) ≤ l then 0 else s.mc.lines + 1
  pass : t.mc.passAt = if nextLine 64 s (l + 1) ≤ l then s.clk.ms else s.mc.passAt

theorem scrubLine_scrubbed (n : Nat) {l : Nat} (hlen : s.mc.banks.length = 64) (hat : s.mc.scrubAt = l) (hl : l < 1048576)
    (hon : (bankOf s (l / 16384)).st = .on) : Scrubbed n l s (scrubLine n s) := by
  have hmod : l % 1048576 = l := Nat.mod_eq_of_lt hl
  have hline : nextLine 64 s s.mc.scrubAt = l := by
    rw [hat, nextLine_here 63 (by rw [hmod]; exact hon), hmod]
  unfold scrubLine
  simp only [hline]
  have hbank := bankOf_updMcBank (s := s) (b := l / 16384)
    (fun k => { k with corrected := satU 16 (k.corrected + min n 8), scrub := k.scrub && l % 16384 != 16383 }) (by omega)
  exact ⟨onlyIn_step (frame_updMc _ _) rfl (frame_updMcBank _ _ s), rfl, rfl, hbank, fun k hk => bankOf_updMcBank_other _ hk, rfl, rfl, rfl⟩

theorem scrubLine_goes (n : Nat) (us : Fin 1000) (hinj : s.ev.injs = []) (hlen : s.mc.banks.length = 64) (hat : s.mc.scrubAt < 1048576)
    (hrun : s.clk.running = true) (hon : (bankOf s (s.mc.scrubAt / 16384)).st = .on) (hnone : ∀ k ∈ s.mc.banks, k.scrub = false ∨ k.st ≠ .on) :
    ∃ t, exec (.scrubLine n false us) s = .next t ∧ onlyIn [.mc] s t ∧ t.mc.mem = s.mc.mem ∧ t.mc.corrected = wrapU 32 (s.mc.corrected + min n 8) ∧
      (bankOf t (s.mc.scrubAt / 16384)).corrected = satU 16 ((bankOf s (s.mc.scrubAt / 16384)).corrected + min n 8) ∧
      (∀ k : Nat, k ≠ s.mc.scrubAt / 16384 → bankOf t k = bankOf s k) ∧
      (s.mc.scrubAt % 16384 ≠ 16383 → t.mc.scrubAt = s.mc.scrubAt + 1 ∧ t.mc.lines = s.mc.lines + 1 ∧ t.mc.passAt = s.mc.passAt) ∧
      (s.mc.scrubAt % 16384 = 16383 → s.mc.scrubAt / 16384 < 63 → (bankOf s (s.mc.scrubAt / 16384 + 1)).st = .on → t.mc.scrubAt = s.mc.scrubAt + 1) ∧
      (s.mc.scrubAt = 1048575 → (bankOf s 0).st = .on → t.mc.scrubAt = 0 ∧ t.mc.lines = 0 ∧ t.mc.passAt = s.clk.ms) := by
  have hexec := scrubLine_runs n us hinj hrun (by omega) hon
  rw [scrubFirst_none hnone] at hexec
  have h := scrubLine_scrubbed (s := s) n hlen rfl hat hon
  have hnx (hl : s.mc.scrubAt + 1 < 1048576) (hst : (bankOf s ((s.mc.scrubAt + 1) / 16384)).st = .on) : nextLine 64 s (s.mc.scrubAt + 1) = s.mc.scrubAt + 1 := by
    have hmod : (s.mc.scrubAt + 1) % 1048576 = s.mc.scrubAt + 1 := Nat.mod_eq_of_lt hl
    rw [nextLine_here 63 (by rw [hmod]; exact hst), hmod]
  refine ⟨_, hexec, h.frame, h.mem, h.corrected, by rw [h.bank], h.others, fun hmid => ?_, fun hend hb hst => ?_, fun hlast hst => ?_⟩
  · have hnext := hnx (by omega) (by rw [show (s.mc.scrubAt + 1) / 16384 = s.mc.scrubAt / 16384 from by omega]; exact hon)
    rw [h.next, h.lines, h.pass, hnext, if_neg (by omega), if_neg (by omega)]
    exact ⟨rfl, rfl, rfl⟩
  · rw [h.next, hnx (by omega) (by rw [show (s.mc.scrubAt + 1) / 16384 = s.mc.scrubAt / 16384 + 1 from by omega]; exact hst)]
  · have hwrap : nextLine 64 s (s.mc.scrubAt + 1) = 0 := by
      have hmod : (s.mc.scrubAt + 1) % 1048576 = 0 := by rw [hlast]
      rw [nextLine_here 63 (by rw [hmod]; exact hst), hmod]
    rw [h.next, h.lines, h.pass, hwrap, if_pos (Nat.zero_le _), if_pos (Nat.zero_le _)]
    exact ⟨rfl, rfl, rfl⟩

theorem scrubLine_first (n : Nat) (us : Fin 1000) {j : Fin 64} (hinj : s.ev.injs = []) (hlen : s.mc.banks.length = 64) (hrun : s.clk.running = true)
    (hon : (bankOf s j.val).st = .on) (hdue : (bankOf s j.val).scrub = true)
    (hfirst : ∀ i : Nat, i < j.val → (bankOf s i).scrub = false ∨ (bankOf s i).st ≠ .on) (hat : s.mc.scrubAt / 16384 ≠ j.val) :
    ∃ t, exec (.scrubLine n false us) s = .next t ∧ t.mc.scrubAt = 16384 * j.val + 1 ∧ (bankOf t j.val).scrub = true ∧
      (bankOf t j.val).corrected = satU 16 ((bankOf s j.val).corrected + min n 8) := by
  have hj : j.val < s.mc.banks.length := j.isLt.trans_eq hlen.symm
  have hexec := scrubLine_runs n us hinj hrun hj hon
  rw [scrubFirst_some hj hon hdue hfirst hat] at hexec
  have hlt := j.isLt
  have hdiv : 16384 * j.val / 16384 = j.val := by omega
  have h := scrubLine_scrubbed (s := scrubAtLine (16384 * j.val) s) (l := 16384 * j.val) n hlen rfl (by omega) (by rw [hdiv]; exact hon)
  have hbank := h.bank
  rw [hdiv] at hbank
  refine ⟨_, hexec, ?_, ?_, by rw [hbank]; rfl⟩
  · have hmod : (16384 * j.val + 1) % 1048576 = 16384 * j.val + 1 := by omega
    rw [h.next, nextLine_here 63 (by rw [hmod, show (16384 * j.val + 1) / 16384 = j.val from by omega]; exact hon), hmod]
  · rw [hbank]
    show ((bankOf s j.val).scrub && 16384 * j.val % 16384 != 16383) = true
    rw [hdue, show 16384 * j.val % 16384 = 0 from by omega]
    rfl

end Sys2Proof.Proofs
end

section
namespace Sys2Proof.Proofs

open Sys2Proof.Machine Sys2Proof.Safety

/-- Settles O47: each operation is one write of its own bank, and the line that is scrubbed is where the scrub stands. -/
theorem banksKeepTheirContent : Obligations.BanksKeepTheirContent := by
  refine ⟨fun m op addr value s => ⟨fun h => if_pos h, micaAtomic_refused m op addr value, fun hin hm hal hserves => ?_,
    fun hin hm hal hserves hwf hlen => ?_⟩, fun bank s hlen => ?_, fun addr us s => ⟨micaUncorrectable_other addr us, fun hrun hin hon => ?_⟩,
    fun n us s hinj hlen hat => ⟨scrubLine_idle n us, scrubLine_goes n us hinj hlen hat, fun j => scrubLine_first n us hinj hlen⟩⟩
  · rw [micaAtomic_aligned m op addr value hin hm hal, if_pos (by rw [hserves]; rfl)]
  · obtain ⟨hframe, hans, hword, hout, hbusy, hloss, hothers⟩ := atomicDone_result m op addr value hwf (by omega)
    refine ⟨_, (micaAtomic_aligned m op addr value hin hm hal).trans (by rw [if_neg (by rw [hserves]; decide)]), hframe, hans, ?_, hout, hbusy, hloss, hothers⟩
    rw [hword, newWord, opResult_eq]
    rfl
  · intro b k others
    have hb : b < s.mc.banks.length := bank.isLt.trans_eq hlen.symm
    have hentry (f : Bank → Bank) : others (updMcBank b f s) := by
      obtain ⟨hframe, hrest, hl, ho⟩ := oneBank_entry (b := b) hlen f
      exact ⟨hframe, hrest, hl, ho⟩
    refine ⟨fun h => ⟨_, congrArg Host.Outcome.next (bankPower_on_ret h), hentry _, bankOf_updMcBank _ hb, rfl⟩,
      fun h => ⟨_, congrArg Host.Outcome.next (bankPower_ret_on h), hentry _, bankOf_updMcBank _ hb, rfl⟩,
      fun h => ⟨_, congrArg Host.Outcome.next (bankPower_off_on h), hentry _, bankOf_updMcBank _ hb, rfl⟩, fun h => ?_,
      fun st h => congrArg Host.Outcome.next (bankPower_same h),
      fun h => ⟨_, congrArg Host.Outcome.next (if_pos h), hentry _, bankOf_updMcBank _ hb, rfl⟩, fun h => congrArg Host.Outcome.next (if_neg h)⟩
    obtain ⟨⟨hframe, hrest, hl, ho⟩, hoff, hserves, hgone, hkept⟩ := bankLost_result (s := s) (b := b) hlen bank.isLt
    exact ⟨_, congrArg Host.Outcome.next (bankPower_off h), ⟨hframe, hrest, hl, ho⟩, hoff, hserves, hgone, hkept⟩
  · have hexec := micaUncorrectable_on addr us hrun hin hon
    refine ⟨fun hb => ?_, fun hb => ?_, fun h h' => ?_, fun h h' => ?_, fun h h' hring hcap hwaits => ?_, fun h h' hring => ?_, fun h h' => ?_,
      fun h h' => ?_, fun h => ?_⟩
    · obtain ⟨p, t, hp, hmc, hframe, heq⟩ := bankAction_low hb us.val (errorCounted addr s)
      rw [heq] at hexec
      exact ⟨p, t, hp, hmc, onlyIn_step hframe rfl (onlyIn_mono (onlyIn_put_mc _ s) rfl), hexec⟩
    · rw [hexec, bankAction_compute hb]
      rfl
    · rw [hexec, (bankAction_units _ _).1 h h']
      rfl
    · rw [hexec, (bankAction_units _ _).2 h h']
      rfl
    · rw [hexec, (bankAction_high _ _).1 h h', ringLost_capture (s := errorCounted addr s) hring hcap hwaits]
      rfl
    · rw [hexec, (bankAction_high _ _).1 h h', ringLost_free (s := errorCounted addr s) hring]
      rfl
    · rw [hexec, (bankAction_high _ _).2.1 h h']
      rfl
    · rw [hexec, (bankAction_high _ _).2.2.1 h h']
      rfl
    · rw [hexec, (bankAction_high _ _).2.2.2 h]
      rfl

end Sys2Proof.Proofs
end

section
/-!
PROOFS. NAND writes, the shared ring, the map flush and its mirror (R136, R307, R311 to R314) for O48.
-/

namespace Sys2Proof.Proofs

open Sys2Proof.Machine Sys2Proof.Safety

variable {s : State}

/-! ### NAND writes (R311, R313) -/

/-- A write that had failed once is not kept any more. -/
def retried (w : NandWrite) (s : State) : State := { s with mc := { s.mc with failed := s.mc.failed.filter (fun x => x != w) } }

theorem nandWriteDone_eq (w : NandWrite) (ok : Bool) (hup : s.rs.supUp = true) : exec (.nandWriteDone w ok) s = .next (if ok then nandDurable w (retried w s)
    else if s.mc.failed.contains w then happen detNandWriteFailure 0 0 (nandLost w (retried w s))
    else { s with mc := { s.mc with failed := s.mc.failed ++ [w], nandRetries := wrapU 32 (s.mc.nandRetries + 1) } }) :=
  congrArg Host.Outcome.next (if_neg (by rw [hup]; decide))

theorem nandWriteDone_down (w : NandWrite) (ok : Bool) (hdown : s.rs.supUp = false) : exec (.nandWriteDone w ok) s = .next s :=
  congrArg Host.Outcome.next (if_pos (by rw [hdown]; rfl))

theorem nandWriteDone_durable (w : NandWrite) (hup : s.rs.supUp = true) : exec (.nandWriteDone w true) s = .next (nandDurable w (retried w s)) := by
  rw [nandWriteDone_eq w true hup, if_pos rfl]

theorem nandWriteDone_again (w : NandWrite) (hup : s.rs.supUp = true) (h : w ∈ s.mc.failed) :
    exec (.nandWriteDone w false) s = .next (happen detNandWriteFailure 0 0 (nandLost w (retried w s))) := by
  rw [nandWriteDone_eq w false hup, if_neg (by decide), if_pos (List.contains_iff_mem.mpr h)]

theorem nandWriteDone_first (w : NandWrite) (hup : s.rs.supUp = true) (h : w ∉ s.mc.failed) : exec (.nandWriteDone w false) s =
    .next { s with mc := { s.mc with failed := s.mc.failed ++ [w], nandRetries := wrapU 32 (s.mc.nandRetries + 1) } } := by
  rw [nandWriteDone_eq w false hup, if_neg (by decide), if_neg (mt List.contains_iff_mem.mp h)]

/-- The pages due to the mirror after one is durable. -/
def pagesDue (id n : Nat) (s : State) : List (Nat × Nat × Nat) :=
  if paramN s pMcMapMirror = 0 then s.mc.mirrorq
  else s.mc.mirrorq ++ [(id, ((ownField s id).getD ⟨id, [], none, 0, 0, false⟩).recs.length - ((ownField s id).getD ⟨id, [], none, 0, 0, false⟩).unflushed, n)]

/-- A page written: its records have left the buffer. -/
def pageWritten (id n : Nat) (s : State) : State := { s with
  cf := { s.cf with fields := s.cf.fields.map (fun f => if f.id = id && !f.mirror then { f with unflushed := f.unflushed - n } else f) }
  mc := { s.mc with
    flight := none, flushed := s.mc.flushed + n, flushFrame := s.clk.frame, served := updAt s.mc.served 1 (fun _ => s.clk.ms), mirrorq := pagesDue id n s } }

theorem pageDurable_eq {id n : Nat} (h : s.mc.flight = some (id, n)) : pageDurable s = answerFlush (pageWritten id n s) := by
  unfold pageDurable
  simp only [h]
  rfl

theorem answerFlush_kept (s : State) : (answerFlush s).mc = { s.mc with flushed := (answerFlush s).mc.flushed } ∧ (answerFlush s).cf = s.cf := by
  refine ⟨?_, frame_answerFlush s .cf (by decide)⟩
  unfold answerFlush
  split
  · have hmc : (resolve (fun w => w == .mapFlush) stOk (u32 s.mc.flushed ++ u64 s.mc.flushFrame) s).mc = s.mc := frame_resolve _ _ _ s .mc (by decide)
    show { (resolve (fun w => w == .mapFlush) stOk (u32 s.mc.flushed ++ u64 s.mc.flushFrame) s).mc with flushed := 0 } = _
    rw [hmc]
    rfl
  · rfl

theorem nandWriteDone_page (hup : s.rs.supUp = true) {id n : Nat} (h : s.mc.flight = some (id, n)) : ∃ t, exec (.nandWriteDone .page true) s = .next t ∧
    t.mc.flight = none ∧ t.mc.flushFrame = s.clk.frame ∧
    t.cf.fields = s.cf.fields.map (fun f => if f.id = id && !f.mirror then { f with unflushed := f.unflushed - n } else f) ∧
    (paramN s pMcMapMirror = 0 → t.mc.mirrorq = s.mc.mirrorq) ∧
    (∀ f, paramN s pMcMapMirror ≠ 0 → ownField s id = some f → t.mc.mirrorq = s.mc.mirrorq ++ [(id, f.recs.length - f.unflushed, n)]) := by
  have hexec : exec (.nandWriteDone .page true) s = .next (answerFlush (pageWritten id n (retried .page s))) := by
    rw [nandWriteDone_durable _ hup]
    exact congrArg Host.Outcome.next (pageDurable_eq (s := retried .page s) h)
  obtain ⟨hmc, hcf⟩ := answerFlush_kept (pageWritten id n (retried .page s))
  refine ⟨_, hexec, by rw [hmc]; rfl, by rw [hmc]; rfl, by rw [hcf]; rfl, fun hpar => ?_, fun f hpar hf => ?_⟩
  · rw [hmc]
    exact if_pos hpar
  · rw [hmc]
    refine (if_neg hpar).trans ?_
    have hown : ownField (retried .page s) id = some f := hf
    rw [hown]
    rfl

/-! ### The shared ring (R136, R307) -/

/-- Banks of a list that are ON rest; nothing else changes. -/
theorem bankPower_ret_fold (bs : List Nat) (hlen : s.mc.banks.length = 64) (hbs : ∀ b ∈ bs, b < 64) (hnodup : bs.Nodup) :
    onlyIn [.mc] s (bs.foldl (fun st b => bankPower b .ret st) s) ∧ (bs.foldl (fun st b => bankPower b .ret st) s).mc.mem = s.mc.mem ∧
    ∀ b : Nat, bankOf (bs.foldl (fun st b => bankPower b .ret st) s) b =
      if b ∈ bs ∧ (bankOf s b).st = .on then { bankOf s b with st := .ret } else bankOf s b := by
  induction bs generalizing s with
  | nil => exact ⟨onlyIn_refl _ _, rfl, fun b => (if_neg (by simp)).symm⟩
  | cons c bs ih =>
    have hone : onlyIn [.mc] s (bankPower c .ret s) ∧ (bankPower c .ret s).mc.mem = s.mc.mem ∧ (bankPower c .ret s).mc.banks.length = 64 ∧
        ∀ b : Nat, bankOf (bankPower c .ret s) b = if b = c ∧ (bankOf s b).st = .on then { bankOf s b with st := .ret } else bankOf s b := by
      by_cases hst : (bankOf s c).st = .on
      · rw [bankPower_on_ret hst]
        refine ⟨frame_updMcBank _ _ s, rfl, (length_updAt _ _ _).trans hlen, fun b => ?_⟩
        by_cases hb : b = c
        · subst hb
          rw [bankOf_updMcBank _ (by have := hbs b List.mem_cons_self; omega), if_pos ⟨rfl, hst⟩]
        · rw [bankOf_updMcBank_other _ hb, if_neg (fun h => hb h.1)]
      · have hsame : bankPower c .ret s = s := bankPower_same (by cases h : (bankOf s c).st <;> simp_all)
        rw [hsame]
        exact ⟨onlyIn_refl _ _, rfl, hlen, fun b => (if_neg (by rintro ⟨rfl, h⟩; exact hst h)).symm⟩
    obtain ⟨hframe, hmem, hlen', hbank⟩ := hone
    obtain ⟨hc, hnd⟩ := List.nodup_cons.mp hnodup
    obtain ⟨hframe', hmem', hbank'⟩ := ih hlen' (fun b hb => hbs b (List.mem_cons_of_mem _ hb)) hnd
    refine ⟨onlyIn_step hframe' rfl hframe, hmem'.trans hmem, fun b => ?_⟩
    rw [List.foldl_cons, hbank', hbank]
    by_cases hbc : b = c
    · subst hbc
      rw [if_neg (fun h => hc h.1)]
      simp
    · simp [hbc]

theorem sharedRingTimer_free (hring : s.mc.ring = .free) : exec .sharedRingTimer s =
    .next (if elapsed s s.mc.ringSince 10000 then ringBanks.foldl (fun st b => bankPower b .ret st) s else s) := by
  show execSharedRingTimer s = _
  unfold execSharedRingTimer
  rw [hring]

theorem sharedRingTimer_staging (hring : s.mc.ring = .staging) : exec .sharedRingTimer s = .next s := by
  show execSharedRingTimer s = _
  unfold execSharedRingTimer
  rw [hring]

/-- The capture is given up. -/
def captureGone (s : State) : State := updCap (fun k => { k with st := .idle, data := [] }) s

theorem sharedRingTimer_capture (hring : s.mc.ring = .capture) : exec .sharedRingTimer s =
    .next (if s.qz.cap.st = .done && elapsed s s.mc.ringSince 600000 then ringFree (captureGone s) else s) := by
  show execSharedRingTimer s = _
  unfold execSharedRingTimer
  rw [hring]
  rfl

theorem mem_ringBanks (b : Nat) : b ∈ ringBanks ↔ 32 ≤ b ∧ b < 48 := by
  simp only [ringBanks, List.mem_map, List.mem_range]
  constructor
  · rintro ⟨k, hk, rfl⟩
    omega
  · intro h
    exact ⟨b - 32, by omega, by omega⟩

theorem sharedRingTimer_rests (hring : s.mc.ring = .free) (hlen : s.mc.banks.length = 64) (hlate : s.mc.ringSince + 10000 ≤ s.clk.ms) :
    ∃ t, exec .sharedRingTimer s = .next t ∧ onlyIn [.mc] s t ∧ t.mc.mem = s.mc.mem ∧
      (∀ b : Nat, bankOf t b = if 32 ≤ b ∧ b < 48 ∧ (bankOf s b).st = .on then { bankOf s b with st := .ret } else bankOf s b) := by
  have hexec := sharedRingTimer_free hring
  rw [if_pos (by simpa [elapsed] using hlate)] at hexec
  obtain ⟨hframe, hmem, hbank⟩ := bankPower_ret_fold (s := s) ringBanks hlen (fun b hb => by have := (mem_ringBanks b).mp hb; omega) (by decide)
  refine ⟨_, hexec, hframe, hmem, fun b => ?_⟩
  rw [hbank b]
  simp only [mem_ringBanks, and_assoc]

theorem sharedRingTimer_waits (hring : s.mc.ring = .free) (h : s.clk.ms < s.mc.ringSince + 10000) : exec .sharedRingTimer s = .next s := by
  rw [sharedRingTimer_free hring, if_neg (by simp only [elapsed, decide_eq_true_eq]; omega)]

theorem sharedRingTimer_keeps (hring : s.mc.ring = .capture) (h : s.qz.cap.st ≠ .done ∨ s.clk.ms < s.mc.ringSince + 600000) :
    exec .sharedRingTimer s = .next s := by
  rw [sharedRingTimer_capture hring, if_neg]
  simp only [elapsed, Bool.and_eq_true, decide_eq_true_eq]
  rintro ⟨hdone, hlate⟩
  exact h.elim (· hdone) (by omega)

theorem bankPower_mc (b : Nat) (n : BankSt) (s : State) : (bankPower b n s).mc.ringSince = s.mc.ringSince ∧
    (bankPower b n s).mc.stagingWaits = s.mc.stagingWaits := by
  unfold bankPower
  split <;> exact ⟨rfl, rfl⟩

theorem bankPower_fold_mc (bs : List Nat) (n : BankSt) (s : State) : (bs.foldl (fun st b => bankPower b n st) s).mc.ringSince = s.mc.ringSince ∧
    (bs.foldl (fun st b => bankPower b n st) s).mc.stagingWaits = s.mc.stagingWaits := by
  induction bs generalizing s with
  | nil => exact ⟨rfl, rfl⟩
  | cons b bs ih =>
    obtain ⟨hsince, hwaits⟩ := ih (bankPower b n s)
    obtain ⟨hs, hw⟩ := bankPower_mc b n s
    exact ⟨hsince.trans hs, hwaits.trans hw⟩

/-- The ring with its new use, before its banks are switched. -/
def ringTaken (x : RingSt) (s : State) : State := { s with mc := { s.mc with ring := x, ringSince := s.clk.ms } }

/-- No one waits for the ring any more. -/
def stagingCalled (s : State) : State := { s with mc := { s.mc with stagingWaits := false } }

theorem ringEnter_eq (x : RingSt) (s : State) :
    ringEnter x s = if x = .free then ringTaken x s else ringBanks.foldl (fun st b => bankPower b .on st) (ringTaken x s) := rfl

theorem ringFree_eq (s : State) : ringFree s = if s.mc.stagingWaits then ringEnter .staging (stagingCalled s) else ringEnter .free s := rfl

theorem ringEnter_since (x : RingSt) (s : State) : (ringEnter x s).mc.ringSince = s.clk.ms ∧ (ringEnter x s).mc.stagingWaits = s.mc.stagingWaits := by
  rw [ringEnter_eq]
  split
  · exact ⟨rfl, rfl⟩
  · obtain ⟨hsince, hwaits⟩ := bankPower_fold_mc ringBanks .on (ringTaken x s)
    rw [hsince, hwaits]
    exact ⟨rfl, rfl⟩

theorem ringFree_kept (s : State) : (ringFree s).mc.ring = (if s.mc.stagingWaits then .staging else .free) ∧ (ringFree s).mc.ringSince = s.clk.ms ∧
    (ringFree s).mc.stagingWaits = false := by
  rw [ringFree_eq]
  cases hw : s.mc.stagingWaits with
  | true =>
    rw [if_pos rfl, if_pos rfl, ringEnter_ring, (ringEnter_since _ _).1, (ringEnter_since _ _).2]
    exact ⟨rfl, rfl, rfl⟩
  | false =>
    rw [if_neg (by decide), if_neg (by decide), ringEnter_ring, (ringEnter_since _ _).1, (ringEnter_since _ _).2]
    exact ⟨rfl, rfl, hw⟩

theorem sharedRingTimer_gives (hring : s.mc.ring = .capture) (hdone : s.qz.cap.st = .done) (hlate : s.mc.ringSince + 600000 ≤ s.clk.ms) :
    ∃ t, exec .sharedRingTimer s = .next t ∧ onlyIn [.qz, .mc] s t ∧ t.qz = { s.qz with cap := { s.qz.cap with st := .idle, data := [] } } ∧
      t.mc.ringSince = s.clk.ms ∧ t.mc.ring = (if s.mc.stagingWaits then .staging else .free) ∧ t.mc.stagingWaits = false := by
  have hexec := sharedRingTimer_capture hring
  rw [if_pos (by simp [hdone, elapsed, hlate])] at hexec
  obtain ⟨hr, hsince, hwaits⟩ := ringFree_kept (captureGone s)
  exact ⟨_, hexec, frame_execSharedRingTimer s _ hexec, ringFree_qz _, hsince, hr, hwaits⟩

theorem rawCaptureDone_eq : exec .rawCaptureDone s = .next (if s.qz.cap.st = .running ∧ s.qz.cap.length ≤ s.qz.cap.taken then
    { s with qz := { s.qz with cap := { s.qz.cap with st := .done } }, mc := { s.mc with ringSince := s.clk.ms } } else s) :=
  congrArg Host.Outcome.next (if_congr (by simp) rfl rfl)

/-! ### Map flush and mirror (R312, R314) -/

theorem mapFlushPage_waits (h : churnNand s = false ∨ s.mc.flight.isSome = true ∨ flushDue s = false) : exec .mapFlushPage s = .next s := by
  refine congrArg Host.Outcome.next (if_neg ?_)
  rcases h with h | h | h
  · simp [h]
  · simp [Option.isSome_iff_ne_none.mp h]
  · simp [h]

/-- The first field with records that wait. -/
def dirtyField (s : State) : Option MapField := s.cf.fields.find? (fun f => decide (0 < f.unflushed))

theorem mapFlushPage_some {f : MapField} (hnand : churnNand s = true) (hflight : s.mc.flight = none) (hdue : flushDue s = true) (hf : dirtyField s = some f) :
    exec .mapFlushPage s = .next { s with mc := { s.mc with flight := some (f.id, min 85 f.unflushed) } } := by
  refine congrArg Host.Outcome.next ((if_pos (by simp [hnand, hflight, hdue])).trans ?_)
  unfold dirtyField at hf
  simp only [hf]
  rfl

theorem mapFlushPage_none (hnand : churnNand s = true) (hflight : s.mc.flight = none) (hdue : flushDue s = true) (hf : dirtyField s = none) :
    exec .mapFlushPage s = .next { s with mc := { s.mc with served := updAt s.mc.served 1 (fun _ => s.clk.ms) } } := by
  refine congrArg Host.Outcome.next ((if_pos (by simp [hnand, hflight, hdue])).trans ?_)
  unfold dirtyField at hf
  simp only [hf]
  rfl

theorem dirtyField_head {f : MapField} {rest : List MapField} (h : s.cf.fields.filter (fun f => decide (0 < f.unflushed)) = f :: rest) :
    dirtyField s = some f := by
  rw [dirtyField, ← List.head?_filter, h]
  rfl

theorem dirtyField_none (h : ∀ f ∈ s.cf.fields, f.unflushed = 0) : dirtyField s = none :=
  List.find?_eq_none.mpr fun f hf => by simp [h f hf]

theorem mapMirrorPage_down (rx : Option (Nat × Bytes)) (h : s.rs.supUp = false) : exec (.mapMirrorPage rx) s = .next s :=
  congrArg Host.Outcome.next (if_pos (by rw [h]; rfl))

theorem mapMirrorPage_send (h : s.rs.supUp = true) : exec (.mapMirrorPage none) s = .next (mirrorSend s) :=
  congrArg Host.Outcome.next (if_neg (by rw [h]; decide))

theorem mirrorSend_none (h : s.mc.mirrorq = []) : mirrorSend s = s := by
  unfold mirrorSend
  rw [h]

theorem mirrorSend_off (h : paramN s pMcMapMirror = 0) : mirrorSend s = { s with mc := { s.mc with mirrorq := [] } } := by
  cases hq : s.mc.mirrorq with
  | nil =>
    rw [mirrorSend_none hq, ← hq]
  | cons x rest =>
    unfold mirrorSend
    rw [hq]
    exact if_pos h

theorem mirrorSend_page {id first n : Nat} {rest : List (Nat × Nat × Nat)} (hpar : paramN s pMcMapMirror ≠ 0) (hq : s.mc.mirrorq = (id, first, n) :: rest) :
    ((skimSend (paramN s pMcMapMirror) 3 id (mirrorData s id first (min 30 n)) s).2 = false → mirrorSend s = s) ∧
    ((skimSend (paramN s pMcMapMirror) 3 id (mirrorData s id first (min 30 n)) s).2 = true →
      (mirrorSend s).fb = (skimSend (paramN s pMcMapMirror) 3 id (mirrorData s id first (min 30 n)) s).1.fb ∧
      (mirrorSend s).mc.mirrorq = (if n ≤ 30 then rest else (id, first + 30, n - 30) :: rest) ∧
      (mirrorSend s).mc.mirrored.length = s.mc.mirrored.length + 1) := by
  have hmc : (skimSend (paramN s pMcMapMirror) 3 id (mirrorData s id first (min 30 n)) s).1.mc = s.mc := frame_skimSend _ _ _ _ s .mc (by decide)
  unfold mirrorSend
  simp only [hq]
  rw [if_neg hpar]
  generalize skimSend (paramN s pMcMapMirror) 3 id (mirrorData s id first (min 30 n)) s = r at hmc
  refine ⟨fun hr => if_neg (by rw [hr]; decide), fun hr => ?_⟩
  rw [if_pos hr]
  refine ⟨rfl, ?_, ?_⟩
  · show (if n ≤ 30 then rest else (id, first + min 30 n, n - min 30 n) :: rest) = _
    by_cases hn : n ≤ 30
    · rw [if_pos hn, if_pos hn]
    · rw [if_neg hn, if_neg hn, Nat.min_eq_left (by omega)]
  · show (r.1.mc.mirrored ++ [_]).length = _
    rw [hmc, List.length_append]
    rfl

/-- A field with the records of a mirror frame in their place. -/
def mirrorPut (first : Nat) (recs : List Bytes) (f : MapField) : MapField :=
  { f with recs := f.recs.take first ++ List.replicate (first - f.recs.length) (zeros 48) ++ recs ++ f.recs.drop (first + recs.length) }

theorem mirrorPut_recs (first : Nat) (recs : List Bytes) (f : MapField) : ((mirrorPut first recs f).recs.drop first).take recs.length = recs := by
  have hlen : (f.recs.take first ++ List.replicate (first - f.recs.length) (zeros 48)).length = first := by
    rw [List.length_append, List.length_take, List.length_replicate]
    omega
  have hdrop : (mirrorPut first recs f).recs.drop first = recs ++ f.recs.drop (first + recs.length) := by
    rw [mirrorPut, List.append_assoc]
    conv_lhs => rw [← hlen]
    rw [hlen, List.drop_append, hlen, Nat.sub_self, List.drop_zero, List.drop_of_length_le (by rw [hlen]), List.nil_append]
  rw [hdrop, List.take_left']
  rfl

/-- The fields with one for the mirrored field. -/
def mirrorFields (id : Nat) (s : State) : List MapField :=
  if s.cf.fields.any (fun f => f.id == id && f.mirror) then s.cf.fields else s.cf.fields ++ [⟨id, [], none, s.cf.closings, 0, true⟩]

theorem mirrorStore_fields (id : Nat) (data : Bytes) (s : State) : (mirrorStore id data s).cf.fields = (mirrorFields id s).map (fun f =>
    if (decide (f.id = id) && f.mirror) = true then mirrorPut (rdN data 0 4) ((chunks 48 (data.drop 4)).filter (fun r => r.length == 48)) f else f) := by
  unfold mirrorStore mirrorFields
  split <;> rfl

theorem mirrorFields_some (id : Nat) (s : State) : ∃ f ∈ mirrorFields id s, f.id = id ∧ f.mirror = true := by
  unfold mirrorFields
  split
  · next h =>
    obtain ⟨f, hf, hid⟩ := List.any_eq_true.mp h
    exact ⟨f, hf, by simpa using hid⟩
  · exact ⟨_, List.mem_append_right _ List.mem_cons_self, rfl, rfl⟩

theorem mapMirrorPage_stores (id : Nat) (data : Bytes) (h : s.rs.supUp = true) : ∃ t, exec (.mapMirrorPage (some (id, data))) s = .next t ∧
    onlyIn [.cf] s t ∧ (∀ f ∈ s.cf.fields, f.mirror = false → f ∈ t.cf.fields) ∧ (∃ g ∈ t.cf.fields, g.id = id ∧ g.mirror = true ∧
      (g.recs.drop (rdN data 0 4)).take ((chunks 48 (data.drop 4)).filter (fun r => r.length == 48)).length =
        (chunks 48 (data.drop 4)).filter (fun r => r.length == 48)) := by
  have hexec : exec (.mapMirrorPage (some (id, data))) s = .next (mirrorStore id data s) := congrArg Host.Outcome.next (if_neg (by rw [h]; decide))
  refine ⟨_, hexec, frame_mirrorStore id data s, fun f hf hm => ?_, ?_⟩
  · rw [mirrorStore_fields]
    refine List.mem_map.mpr ⟨f, ?_, if_neg (by simp [hm])⟩
    unfold mirrorFields
    split
    · exact hf
    · exact List.mem_append_left _ hf
  · obtain ⟨f, hf, hid, hm⟩ := mirrorFields_some id s
    rw [mirrorStore_fields]
    exact ⟨_, List.mem_map_of_mem hf, by rw [if_pos (by simp [hid, hm])]; exact ⟨hid, hm, mirrorPut_recs _ _ f⟩⟩

end Sys2Proof.Proofs
end
section
/-!
PROOFS. The background activities (R308, R309, R313) and O48.
-/

namespace Sys2Proof.Proofs

open Sys2Proof.Machine Sys2Proof.Safety

variable {s : State}

/-! ### Starvation (R309) -/

/-- An activity that is due, or whose lateness is injected. -/
def Late (s : State) (a : Fin 8) : Prop := 0 < lagOf s a.val ∨ forced s detChurnStarvation 0 = true

/-- An activity whose starvation was recorded within the hour. -/
def Silent (s : State) (a : Fin 8) : Prop := ∃ t, nth s.mc.starved a.val none = some t ∧ s.clk.ms < t + 3600000

theorem late_iff (a : Fin 8) : (decide (0 < lagOf s a.val) || forced s detChurnStarvation 0) = true ↔ Late s a := by
  rw [Bool.or_eq_true, decide_eq_true_eq]
  rfl

theorem silent_iff (a : Fin 8) :
    (match nth s.mc.starved a.val none with | some t => elapsed s t 3600000 | none => true) = true ↔ ¬Silent s a := by
  unfold Silent
  cases nth s.mc.starved a.val none with
  | none => simp
  | some t => simp [elapsed]

theorem churnStarvation_quiet (a : Fin 8) (h : churnOn s = false ∨ nandOn s = false ∨ ¬Late s a ∨ Silent s a) : exec (.churnStarvation a) s = .next s := by
  refine congrArg Host.Outcome.next (if_neg fun hc => ?_)
  simp only [Bool.and_eq_true] at hc
  obtain ⟨⟨⟨hchurn, hnand⟩, hlate⟩, hsil⟩ := hc
  rcases h with h | h | h | h
  · exact Bool.false_ne_true (h.symm.trans hchurn)
  · exact Bool.false_ne_true (h.symm.trans hnand)
  · exact h ((late_iff a).mp hlate)
  · exact (silent_iff a).mp hsil h

theorem churnStarvation_told (a : Fin 8) (hchurn : churnOn s = true) (hnand : nandOn s = true) (hlate : Late s a) (hsil : ¬Silent s a) :
    exec (.churnStarvation a) s = .next (happen detChurnStarvation 0 (a.val + 256 * lagOf s a.val)
      { s with mc := { s.mc with starved := updAt s.mc.starved a.val (fun _ => some s.clk.ms) } }) := by
  refine congrArg Host.Outcome.next (if_pos ?_)
  simp only [Bool.and_eq_true]
  exact ⟨⟨⟨hchurn, hnand⟩, (late_iff a).mpr hlate⟩, (silent_iff a).mpr hsil⟩

/-! ### Activities on the NAND (R308, R313) -/

theorem wearCompaction_waits (left : Nat) (h : churnNand s = false ∨ left ≠ 0) : exec (.wearCompaction left) s = .next s :=
  congrArg Host.Outcome.next (if_neg (by rcases h with h | h <;> simp [h]))

theorem wearCompaction_ends (h : churnNand s = true) :
    exec (.wearCompaction 0) s = .next { s with mc := { s.mc with served := updAt s.mc.served 2 (fun _ => s.clk.ms) } } :=
  congrArg Host.Outcome.next (if_pos (by rw [h]; rfl))

theorem tapCalibrationCopy_copies (h : churnNand s = true) : exec .tapCalibrationCopy s = .next { s with
    qz := { s.qz with nandCal := s.qz.chans.map (fun c => (c.tap.gc, c.tap.f)) }
    mc := { s.mc with served := updAt s.mc.served 3 (fun _ => s.clk.ms) } } :=
  congrArg Host.Outcome.next (if_pos h)

theorem tapCalibrationCopy_waits (h : churnNand s = false) : exec .tapCalibrationCopy s = .next s :=
  congrArg Host.Outcome.next (if_neg (by rw [h]; decide))

theorem telemetry_waits (h : churnNand s = false ∨ 100 ≤ s.mc.life ∨ s.clk.ms < nth s.mc.served 7 0 + 60000) : exec .telemetry s = .next s := by
  refine congrArg Host.Outcome.next (if_neg fun hc => ?_)
  simp only [elapsed, Bool.and_eq_true, decide_eq_true_eq] at hc
  obtain ⟨⟨hnand, hlife⟩, hdue⟩ := hc
  rcases h with h | h | h
  · exact Bool.false_ne_true (h.symm.trans hnand)
  · omega
  · omega

theorem telemetry_writes (h : churnNand s = true) (hlife : s.mc.life < 100) (hdue : nth s.mc.served 7 0 + 60000 ≤ s.clk.ms) :
    exec .telemetry s = .next { s with mc := { s.mc with
      served := updAt s.mc.served 7 (fun _ => s.clk.ms)
      telemetry := (s.mc.telemetry + 256) % 2147483648 } } :=
  congrArg Host.Outcome.next (if_pos (by simp [h, hlife, elapsed, hdue]))

/-! ### Activities off the NAND -/

/-- A converter whose signal is the one of the converter being calibrated. -/
def Clash (s : State) (kind : Fin 3) (ch : Nat) : Prop := ∃ c, s.mc.calibrating = some (0, c) ∧ kind.val = 0 ∧ sameSignal s c ch = true

theorem clash_iff (kind : Fin 3) (ch : Nat) :
    (match s.mc.calibrating with | some c => c.1 == 0 && kind.val == 0 && sameSignal s c.2 ch | none => false) = true ↔ Clash s kind ch := by
  unfold Clash
  cases s.mc.calibrating with
  | none => simp
  | some c =>
    obtain ⟨k, c⟩ := c
    simp only [Bool.and_eq_true, beq_iff_eq, Option.some.injEq, Prod.mk.injEq]
    constructor
    · rintro ⟨⟨rfl, hkind⟩, hsig⟩
      exact ⟨c, ⟨rfl, rfl⟩, hkind, hsig⟩
    · rintro ⟨c', ⟨rfl, rfl⟩, hkind, hsig⟩
      exact ⟨⟨rfl, hkind⟩, hsig⟩

theorem converterSelfCalibration_waits (kind : Fin 3) (ch : Nat) (h : churnOn s = false ∨ Clash s kind ch) :
    exec (.converterSelfCalibration kind ch) s = .next s := by
  refine congrArg Host.Outcome.next (if_pos ?_)
  rw [Bool.or_eq_true, Bool.not_eq_true']
  exact h.symm.imp_left (clash_iff kind ch).mpr

theorem converterSelfCalibration_runs (kind : Fin 3) (ch : Nat) (hchurn : churnOn s = true) (h : ¬Clash s kind ch) :
    ∃ t, exec (.converterSelfCalibration kind ch) s = .next t ∧ onlyIn [.mc] s t ∧
      t.mc.calibrating = some (kind.val, ch) ∧ t.mc.served = updAt s.mc.served 4 (fun _ => s.clk.ms) := by
  have hexec : exec (.converterSelfCalibration kind ch) s = .next { s with mc := { s.mc with
      calibrating := some (kind.val, ch), converters := setKey (256 * kind.val + ch) s.clk.ms s.mc.converters
      served := updAt s.mc.served 4 (fun _ => s.clk.ms) } } := by
    refine congrArg Host.Outcome.next (if_neg ?_)
    rw [Bool.or_eq_true, Bool.not_eq_true', hchurn]
    exact fun hc => hc.elim (fun hc => h ((clash_iff kind ch).mp hc)) (nomatch ·)
  exact ⟨_, hexec, frame_execConverterSelfCalibration kind ch s _ hexec, rfl, rfl⟩

theorem almanacCollection_collects (sys : Fin 5) (page : Bytes) (h : churnOn s = true) : ∃ t, exec (.almanacCollection sys page) s = .next t ∧
    onlyIn [.mc] s t ∧ getKey sys.val t.mc.almanac = some page ∧ (∀ k : Nat, k ≠ sys.val → getKey k t.mc.almanac = getKey k s.mc.almanac) := by
  have hexec : exec (.almanacCollection sys page) s = .next { s with mc := { s.mc with
      almanac := setKey sys.val page s.mc.almanac, served := updAt s.mc.served 5 (fun _ => s.clk.ms) } } := congrArg Host.Outcome.next (if_pos h)
  exact ⟨_, hexec, frame_execAlmanacCollection sys page s _ hexec, (getKey_setKey _ _ _ _).trans (if_pos rfl), fun k hk => (getKey_setKey _ _ _ _).trans (if_neg hk)⟩

/-! ### The life of the NAND -/

/-- The life as it was read. -/
def lifeRead (life : Nat) (s : State) : State := { s with mc := { s.mc with life := min 100 life } }

theorem nandLifeCheck_judges (life : Nat) (hup : s.rs.supUp = true) (hinj : s.ev.injs = []) : ∃ t, exec (.nandLifeCheck life) s = .next t ∧
    onlyIn (.mc :: tells) s t ∧ t.mc.life = min 100 life ∧ isPresent t detNandLife 0 = decide (paramN s pMcLifeWarn ≤ min 100 life) := by
  have hexec : exec (.nandLifeCheck life) s = .next
      (if (decide (100 ≤ ((min 100 life : Nat) : Int)) && isPresent s detNandLife 0 && decide (s.mc.life < 100)) = true then
        raise detNandLife 0 100 true (detect detNandLife 0 (decide ((paramN s pMcLifeWarn : Int) ≤ ((min 100 life : Nat) : Int))) (min 100 life) (lifeRead life s))
      else detect detNandLife 0 (decide ((paramN s pMcLifeWarn : Int) ≤ ((min 100 life : Nat) : Int))) (min 100 life) (lifeRead life s)) := by
    show execNandLifeCheck life s = _
    have hmin : min 100 (life : Int) = ((min 100 life : Nat) : Int) := by omega
    simp only [execNandLifeCheck, measured_of_noInjs hinj, hmin]
    rw [if_pos hup]
    rfl
  have hwarn : decide ((paramN s pMcLifeWarn : Int) ≤ ((min 100 life : Nat) : Int)) = decide (paramN s pMcLifeWarn ≤ min 100 life) := by
    simp only [Nat.cast_le]
  rw [hwarn] at hexec
  have htold := told_detect detNandLife 0 (decide (paramN s pMcLifeWarn ≤ min 100 life)) (min 100 life) (lifeRead life s)
  have hpresent := isPresent_detect detNandLife 0 (decide (paramN s pMcLifeWarn ≤ min 100 life)) (min 100 life) (lifeRead life s)
  have hframe := frame_execNandLifeCheck life s _ hexec
  refine ⟨_, hexec, onlyIn_mono hframe rfl, ?_, ?_⟩
  · split
    · exact congrArg (fun c => c.life) (((said_raise _ _ _ _ _).toTold.frame .mc (by decide)).trans (htold.frame .mc (by decide)))
    · exact congrArg (fun c => c.life) (htold.frame .mc (by decide))
  · split
    · exact ((said_raise _ _ _ _ _).isPresent _ _).trans hpresent
    · exact hpresent

/-- Settles O48: NAND writes, the shared ring, the map flush and the background activities, each by the lemma about its event. -/
theorem storageActsOfItself : Obligations.StorageActsOfItself := by
  intro s
  refine ⟨fun w => ⟨fun hdown ok => nandWriteDone_down w ok hdown, fun hup => ⟨nandWriteDone_first w hup, ?_, ?_, ?_, ?_⟩⟩,
    fun hring hlen => ⟨sharedRingTimer_waits hring, sharedRingTimer_rests hring hlen⟩, sharedRingTimer_staging,
    fun hring => ⟨sharedRingTimer_keeps hring, sharedRingTimer_gives hring⟩,
    ⟨fun h => rawCaptureDone_eq.trans (congrArg Host.Outcome.next (if_pos h)), fun h => rawCaptureDone_eq.trans (congrArg Host.Outcome.next (if_neg h))⟩,
    mapFlushPage_waits, fun hnand hflight hdue => ⟨fun f rest hf => mapFlushPage_some hnand hflight hdue (dirtyField_head hf),
      fun hclean => mapFlushPage_none hnand hflight hdue (dirtyField_none hclean)⟩,
    fun hdown rx => mapMirrorPage_down rx hdown, fun hup hq => ?_, fun hup hpar => ?_, fun id first n rest hup hpar hq => ?_,
    fun id data hup => mapMirrorPage_stores id data hup, fun a => ⟨churnStarvation_quiet a, churnStarvation_told a⟩, wearCompaction_waits,
    fun h => ⟨wearCompaction_ends h, tapCalibrationCopy_copies h⟩, fun h => ⟨tapCalibrationCopy_waits h, telemetry_waits (.inl h)⟩,
    fun kind ch => ⟨converterSelfCalibration_waits kind ch, converterSelfCalibration_runs kind ch⟩,
    fun sys page => ⟨fun h => congrArg Host.Outcome.next (if_neg (by rw [h]; decide)), almanacCollection_collects sys page⟩,
    telemetry_writes, fun h => telemetry_waits (.inr h),
    fun life => ⟨fun h => congrArg Host.Outcome.next (if_neg (by rw [h]; decide)), nandLifeCheck_judges life⟩⟩
  · rintro rfl
    exact ⟨nandWriteDone_durable _ hup, nandWriteDone_again _ hup⟩
  · rintro rfl
    exact nandWriteDone_durable _ hup
  · rintro rfl h
    exact nandWriteDone_again _ hup h
  · rintro rfl id n h
    exact nandWriteDone_page hup h
  · rw [mapMirrorPage_send hup, mirrorSend_none hq]
  · rw [mapMirrorPage_send hup, mirrorSend_off hpar]
  · obtain ⟨hfull, hsent⟩ := mirrorSend_page hpar hq
    exact ⟨fun hr => by rw [mapMirrorPage_send hup, hfull hr], fun hr => ⟨_, mapMirrorPage_send hup, hsent hr⟩⟩

end Sys2Proof.Proofs
end
section
/-!
PROOFS. What the recorder's writers leave: notifications keep the recorder, occurrences are merged, written, archived or dropped (R323 to R327), for O49.
-/

namespace Sys2Proof.Proofs

open Sys2Proof.Machine Sys2Proof.Safety

variable {s : State}

/-! ### Notifications and the recorder -/

/-- Without an injection `t` has the recorder of `s`. -/
def EvKept (s t : State) : Prop := s.ev.injs = [] → t.ev = s.ev

theorem EvKept.refl (s : State) : EvKept s s := fun _ => rfl

theorem EvKept.trans {s t u : State} (h : EvKept s t) (h' : EvKept t u) : EvKept s u :=
  fun hn => (h' ((congrArg Events.injs (h hn)).trans hn)).trans (h hn)

theorem evKept_foldl {α : Type} {f : State → α → State} (hf : ∀ x a, EvKept x (f x a)) (l : List α) (s : State) : EvKept s (l.foldl f s) := by
  induction l generalizing s with
  | nil => exact .refl s
  | cons a l ih => exact (hf s a).trans (ih _)

theorem evKept_ite {c : Prop} [Decidable c] {s a b : State} (ha : EvKept s a) (hb : EvKept s b) : EvKept s (if c then a else b) := by
  split
  · exact ha
  · exact hb

theorem evKept_endInjections (p : Inj → Bool) (s : State) : EvKept s (endInjections p s) := by
  intro hn
  unfold endInjections
  rw [hn]
  rfl

theorem evKept_dropSession (num : Nat) (s : State) : EvKept s (dropSession num s) := fun hn => evKept_endInjections _ _ hn

theorem evKept_closeSession (num reason : Nat) (s : State) : EvKept s (closeSession num reason s) := by
  unfold closeSession
  split
  · exact .refl s
  · refine .trans ?_ (evKept_dropSession _ _)
    exact evKept_ite (fun _ => rfl) (.refl s)

theorem evKept_sendNote (num code : Nat) (payload : Bytes) (s : State) : EvKept s (sendNote num code payload s) := by
  unfold sendNote
  split
  · exact .refl s
  · exact evKept_ite (evKept_ite (fun hn => evKept_closeSession _ _ _ hn) fun _ => rfl) fun _ => rfl

theorem evKept_flushSub (num code filter : Nat) (s : State) : EvKept s (flushSub num code filter s) := by
  unfold flushSub
  split
  · exact .refl s
  · exact fun hn => evKept_foldl (fun x p => evKept_sendNote _ _ _ x) _ (updSub num code filter _ s) hn

theorem evKept_offerSub (num : Nat) (b : Sub) (n : DueNote) (s : State) : EvKept s (offerSub num b n s) :=
  evKept_ite (fun hn => evKept_flushSub _ _ _ (updSub num b.code b.filter _ s) hn) fun _ => rfl

theorem evKept_notifyEvent (r : EvRec) (s : State) : EvKept s (notifyEvent r s) :=
  evKept_ite (evKept_foldl (fun x _ => evKept_foldl (fun y b => evKept_offerSub _ b _ y) _ x) _ s) (.refl s)

theorem evKept_recChanged (rseq : Nat) (s : State) : EvKept s (recChanged rseq s) := by
  unfold recChanged
  split
  · exact evKept_notifyEvent _ _
  · exact .refl s

/-! ### The verification of a write (R315) -/

theorem enqueue_records (o : Occ) (hinj : s.ev.injs = []) (hroom : s.ev.snapq.length < 256) :
    (enqueue o s).ev = { s.ev with fixq := (enqueue o s).ev.fixq, snapq := (enqueue o s).ev.snapq } := by
  unfold enqueue
  split
  · rfl
  · rw [if_pos (by simp [hroom, forced_of_noInjs hinj])]

theorem happen_records (code inst data : Nat) (hinj : s.ev.injs = []) (hroom : s.ev.snapq.length < 256) :
    (happen code inst data s).ev = { s.ev with fixq := (happen code inst data s).ev.fixq, snapq := (happen code inst data s).ev.snapq } := by
  have hsame : happen code inst data s = countInj code inst (enqueue (occNow s code inst (occData s code inst data) false) s) := by
    have hn := (said_countInj code inst (enqueue (occNow s code inst (occData s code inst data) false) s)).toTold.noInjs
      ((said_enqueue (occNow s code inst (occData s code inst data) false) s).toTold.noInjs hinj)
    show useOneShot code inst _ = _
    unfold useOneShot injFor
    rw [hn]
    rfl
  have hrecs := enqueue_records (occNow s code inst (occData s code inst data) false) hinj hroom
  rw [hsame]
  generalize enqueue (occNow s code inst (occData s code inst data) false) s = u at hrecs
  have hn : u.ev.injs = [] := (congrArg Events.injs hrecs).trans hinj
  have hev : (countInj code inst u).ev = u.ev := by
    unfold countInj
    rw [hn]
    exact congrArg (fun l => { u.ev with injs := l }) hn.symm
  rw [hev]
  exact hrecs

/-- The verification of a write leaves the records and counts its mismatches. -/
structure Verified (k : Nat) (u t : State) : Prop where
  frame : onlyIn (.mc :: tells) u t
  records : t.ev = { u.ev with fixq := t.ev.fixq, snapq := t.ev.snapq }
  memory : t.mc = { u.mc with mramRetries := if k = 0 then u.mc.mramRetries else wrapU 32 (u.mc.mramRetries + 1) }
  once : k < 2 → t.ev = u.ev

theorem mramVerify_verified (k : Nat) {u : State} (hinj : u.ev.injs = []) (hroom : u.ev.snapq.length < 256) : Verified k u (mramVerify k u) := by
  by_cases h0 : k = 0
  · subst h0
    exact ⟨onlyIn_refl _ _, rfl, rfl, fun _ => rfl⟩
  · have hmc : { u.mc with mramRetries := if k = 0 then u.mc.mramRetries else wrapU 32 (u.mc.mramRetries + 1) } =
        { u.mc with mramRetries := wrapU 32 (u.mc.mramRetries + 1) } := by rw [if_neg h0]
    refine ⟨onlyIn_mono (frame_mramVerify k u) rfl, ?_, ?_, fun hk => ?_⟩ <;> unfold mramVerify <;> rw [if_neg h0]
    · split
      · exact happen_records _ _ _ hinj hroom
      · rfl
    · rw [hmc]
      split
      · exact (told_happen _ _ _ _).frame .mc (by decide)
      · rfl
    · rw [if_neg (by omega)]

/-! ### Writing (R325, R327) -/

/-- The recorder with an area changed. -/
def evArea (fx : Bool) (f : List EvRec → List EvRec) (e : Events) : Events := if fx then { e with fixed := f e.fixed } else { e with snaps := f e.snaps }

/-- The recorder after a record took a slot of an area. -/
def evPut (fx : Bool) (e : Events) : Events :=
  if fx then { e with nextRseq := e.nextRseq + 1, fullFixed := false } else { e with nextRseq := e.nextRseq + 1, fullSnap := false }

/-- The recorder with a record in the archive. -/
def evArchive (r : EvRec) (e : Events) : Events :=
  if isFixedCode r.code then { e with archivePriv := e.archivePriv ++ [r] } else { e with archive := e.archive ++ [r] }

/-- The recorder after an occurrence was lost. -/
def evLost (fx : Bool) (e : Events) : Events :=
  if fx then { e with lostFixed := wrapU 32 (e.lostFixed + 1), fullFixed := true } else { e with lostSnap := wrapU 32 (e.lostSnap + 1), fullSnap := true }

/-- The record that an occurrence makes now. -/
def recNow (o : Occ) (s : State) : EvRec := recOf s.ev.nextRseq o (if isFixedCode o.code then [] else snapItems o.code o.inst s)

theorem writeOcc_merges {o : Occ} {r : EvRec} (hinj : s.ev.injs = []) (hr : mergeTarget s (areaOf s (isFixedCode o.code)) o = some r) :
    (writeOcc o s).ev = evArea (isFixedCode o.code) (updRec r.rseq (mergeInto o)) s.ev := by
  unfold writeOcc
  rw [hr]
  have hn : (updArea (isFixedCode o.code) (updRec r.rseq (mergeInto o)) s).ev.injs = [] := by
    cases isFixedCode o.code <;> exact hinj
  exact evKept_recChanged _ _ hn

theorem putRec_ev (r : EvRec) (hinj : s.ev.injs = []) : (putRec r s).ev = evPut (isFixedCode r.code) (evArea (isFixedCode r.code) (fun a => a ++ [r]) s.ev) := by
  refine evKept_notifyEvent r _ ?_
  unfold updArea updEv
  cases isFixedCode r.code <;> exact hinj

theorem writeOcc_new {o : Occ} (hinj : s.ev.injs = []) (hr : mergeTarget s (areaOf s (isFixedCode o.code)) o = none) :
    writeOcc o s = if (areaOf s (isFixedCode o.code)).length < areaCap (isFixedCode o.code) then putRec (recNow o s) s
      else match victim (severityOf o.code) (areaOf s (isFixedCode o.code)) with
        | some v => putRec (recNow o s) (updArea (isFixedCode o.code) (fun a => a.filter (fun x => x.rseq != v.rseq)) (archiveRec v s))
        | none => dropOcc (isFixedCode o.code) s := by
  unfold writeOcc
  rw [hr]
  exact if_neg (by rw [forced_of_noInjs hinj]; decide)

theorem writeOcc_puts {o : Occ} (hinj : s.ev.injs = []) (hr : mergeTarget s (areaOf s (isFixedCode o.code)) o = none)
    (hlen : (areaOf s (isFixedCode o.code)).length < areaCap (isFixedCode o.code)) :
    (writeOcc o s).ev = evPut (isFixedCode o.code) (evArea (isFixedCode o.code) (fun a => a ++ [recNow o s]) s.ev) := by
  rw [writeOcc_new hinj hr, if_pos hlen]
  exact putRec_ev (recNow o s) hinj

theorem writeOcc_replaces {o : Occ} {v : EvRec} (hinj : s.ev.injs = []) (hr : mergeTarget s (areaOf s (isFixedCode o.code)) o = none)
    (hlen : areaCap (isFixedCode o.code) ≤ (areaOf s (isFixedCode o.code)).length)
    (hv : victim (severityOf o.code) (areaOf s (isFixedCode o.code)) = some v) :
    (writeOcc o s).ev = evPut (isFixedCode o.code) (evArea (isFixedCode o.code) (fun a => a ++ [recNow o s])
      (evArea (isFixedCode o.code) (fun a => a.filter (fun x => x.rseq != v.rseq)) (evArchive v s.ev))) := by
  rw [writeOcc_new hinj hr, if_neg (by omega), hv]
  refine putRec_ev (recNow o s) ?_
  unfold updArea archiveRec updEv
  cases isFixedCode o.code <;> cases isFixedCode v.code <;> exact hinj

theorem writeOcc_loses {o : Occ} (hinj : s.ev.injs = []) (hr : mergeTarget s (areaOf s (isFixedCode o.code)) o = none)
    (hlen : areaCap (isFixedCode o.code) ≤ (areaOf s (isFixedCode o.code)).length)
    (hv : victim (severityOf o.code) (areaOf s (isFixedCode o.code)) = none)
    (hfull : (if isFixedCode o.code then s.ev.fullFixed else s.ev.fullSnap) = true) :
    (writeOcc o s).ev = evLost (isFixedCode o.code) s.ev := by
  rw [writeOcc_new hinj hr, if_neg (by omega), hv]
  exact congrArg State.ev (if_pos hfull)

/-! ### Victims (R327) -/

/-- The better of a record already chosen and the next one. -/
def lowerOf (best : Option EvRec) (r : EvRec) : Option EvRec :=
  match best with
  | none => some r
  | some b => if severityOf r.code < severityOf b.code then some r else best

theorem lowerOf_fold_mem (l : List EvRec) (b : Option EvRec) {v : EvRec} (h : l.foldl lowerOf b = some v) : v ∈ l ∨ b = some v := by
  induction l generalizing b with
  | nil => exact .inr h
  | cons r l ih =>
    rcases ih _ h with hv | hv
    · exact .inl (List.mem_cons_of_mem _ hv)
    · unfold lowerOf at hv
      split at hv
      · exact .inl (by rw [← Option.some.inj hv]; exact List.mem_cons_self)
      · split at hv
        · exact .inl (by rw [← Option.some.inj hv]; exact List.mem_cons_self)
        · exact .inr hv

theorem lowerOf_fold_none (l : List EvRec) (b : Option EvRec) (h : l.foldl lowerOf b = none) : l = [] ∧ b = none := by
  induction l generalizing b with
  | nil => exact ⟨rfl, h⟩
  | cons r l ih =>
    have hnone := (ih _ h).2
    unfold lowerOf at hnone
    split at hnone
    · cases hnone
    · split at hnone <;> cases hnone

theorem lowestOf_some {sev : Nat} {p : EvRec → Bool} {area : List EvRec} {v : EvRec} (h : lowestOf sev p area = some v) :
    v ∈ area ∧ p v = true ∧ severityOf v.code ≤ sev := by
  have hmem := (lowerOf_fold_mem (area.filter (fun r => p r && decide (severityOf r.code ≤ sev))) none h).resolve_right (by simp)
  obtain ⟨harea, hp⟩ := List.mem_filter.mp hmem
  rw [Bool.and_eq_true, decide_eq_true_eq] at hp
  exact ⟨harea, hp⟩

theorem lowestOf_none {sev : Nat} {p : EvRec → Bool} {area : List EvRec} (h : lowestOf sev p area = none) {r : EvRec} (hr : r ∈ area) (hp : p r = true) :
    sev < severityOf r.code := by
  have hnil := (lowerOf_fold_none (area.filter (fun r => p r && decide (severityOf r.code ≤ sev))) none h).1
  have hnot := List.filter_eq_nil_iff.mp hnil r hr
  rw [Bool.and_eq_true, decide_eq_true_eq] at hnot
  exact Nat.lt_of_not_le fun hle => hnot ⟨hp, hle⟩

/-- What a victim is, by the rank at which it was found. -/
theorem victim_cases {sev : Nat} {area : List EvRec} {v : EvRec} (h : victim sev area = some v) :
    (v ∈ area ∧ v.retained = false ∧ v.injected = true) ∨
    (v ∈ area ∧ v.retained = false ∧ (∀ r ∈ area, r.retained = false → r.injected = false) ∧ severityOf v.code ≤ sev ∧
      (v.active = true → ∀ r ∈ area, r.retained = false → r.active = false → sev < severityOf r.code)) ∨
    (v ∈ area ∧ ∀ r ∈ area, r.retained = true) := by
  have hfree : ∀ r, r ∈ area.filter (fun r => !r.retained) ↔ r ∈ area ∧ r.retained = false := fun r => by simp
  unfold victim at h
  extract_lets free at h
  cases hi : free.find? EvRec.injected with
  | some r =>
    rw [hi] at h
    cases h
    obtain ⟨hv, hret⟩ := (hfree v).mp (List.mem_of_find?_eq_some hi)
    exact .inl ⟨hv, hret, List.find?_some hi⟩
  | none =>
    have hnoinj : ∀ r ∈ area, r.retained = false → r.injected = false := fun r hr hret =>
      Bool.eq_false_iff.mpr (List.find?_eq_none.mp hi r ((hfree r).mpr ⟨hr, hret⟩))
    simp only [hi] at h
    cases hq : lowestOf sev (fun r => !r.active) free with
    | some r =>
      rw [hq] at h
      cases h
      obtain ⟨hmem, hact, hsev⟩ := lowestOf_some hq
      obtain ⟨hv, hret⟩ := (hfree v).mp hmem
      exact .inr (.inl ⟨hv, hret, hnoinj, hsev, fun ha => by rw [ha] at hact; cases hact⟩)
    | none =>
      simp only [hq] at h
      cases ha : lowestOf sev EvRec.active free with
      | some r =>
        rw [ha] at h
        cases h
        obtain ⟨hmem, hact, hsev⟩ := lowestOf_some ha
        obtain ⟨hv, hret⟩ := (hfree v).mp hmem
        exact .inr (.inl ⟨hv, hret, hnoinj, hsev, fun _ r hr hret' hact' => lowestOf_none hq ((hfree r).mpr ⟨hr, hret'⟩) (by rw [hact']; rfl)⟩)
      | none =>
        simp only [ha] at h
        split at h
        · next hempty =>
          refine .inr (.inr ⟨List.mem_of_mem_head? h, fun r hr => ?_⟩)
          by_contra hret
          have := (hfree r).mpr ⟨hr, by simpa using hret⟩
          rw [show area.filter (fun r => !r.retained) = [] from List.isEmpty_iff.mp hempty] at this
          cases this
        · cases h

theorem victim_ranks {sev : Nat} {area : List EvRec} {v : EvRec} (h : victim sev area = some v) : v ∈ area ∧
    (v.retained = true → ∀ r ∈ area, r.retained = true) ∧
    ((∃ r ∈ area, r.retained = false ∧ r.injected = true) → v.injected = true) ∧
    (v.retained = false → v.injected = false → severityOf v.code ≤ sev ∧
      (v.active = true → ∀ r ∈ area, r.retained = false → r.active = false → sev < severityOf r.code)) := by
  rcases victim_cases h with ⟨hv, hret, hinj⟩ | ⟨hv, hret, hnoinj, hsev⟩ | ⟨hv, hall⟩
  · exact ⟨hv, fun hr => absurd (hr.symm.trans hret) (by decide), fun _ => hinj, fun _ hi => absurd (hi.symm.trans hinj) (by decide)⟩
  · refine ⟨hv, fun hr => absurd (hr.symm.trans hret) (by decide), ?_, fun _ _ => hsev⟩
    rintro ⟨r, hr, hret', hinj⟩
    exact absurd (hinj.symm.trans (hnoinj r hr hret')) (by decide)
  · refine ⟨hv, fun _ => hall, ?_, fun hret => absurd (hret.symm.trans (hall v hv)) (by decide)⟩
    rintro ⟨r, hr, hret, -⟩
    exact absurd (hret.symm.trans (hall r hr)) (by decide)

end Sys2Proof.Proofs
end
section
/-!
PROOFS. The recorder's writers, its order, its counters and the end of an injection (R323 to R327, R333), and O49.
-/

namespace Sys2Proof.Proofs

open Sys2Proof.Machine Sys2Proof.Safety

variable {s : State} {fx : Bool} {o : Occ}

/-! ### One writer of the two -/

/-- The area, the archive and the queue of a writer, and what its area has lost. -/
def areaE (fx : Bool) (e : Events) : List EvRec := if fx then e.fixed else e.snaps
def savedE (fx : Bool) (e : Events) : List EvRec := if fx then e.archivePriv else e.archive
def queueE (fx : Bool) (e : Events) : List Occ := if fx then e.fixq else e.snapq
def lostE (fx : Bool) (e : Events) : Nat := if fx then e.lostFixed else e.lostSnap

/-- A writer's step leaves `t`. -/
def WriterRun (fx : Bool) (k : Fin 3) (s t : State) : Prop := (if fx then exec (.fixedRecordWrite k) s else exec (.snapshotQueueWrite k) s) = .next t

/-- The state once a writer has taken the only occurrence of its queue. -/
def popped (fx : Bool) (s : State) : State := { s with ev := if fx then { s.ev with fixq := [] } else { s.ev with snapq := [] } }

/-- What a writer's step does besides its record. -/
structure Same (fx : Bool) (k : Nat) (s t : State) : Prop where
  frame : onlyIn (.mc :: tells) s t
  other : areaE (!fx) t.ev = areaE (!fx) s.ev
  memory : t.mc.mem = s.mc.mem
  retries : t.mc.mramRetries = if k = 0 then s.mc.mramRetries else wrapU 32 (s.mc.mramRetries + 1)
  queue : k < 2 → queueE fx t.ev = []

/-- A recorder whose writer `fx` has taken its occurrence and has left the other area as it was in `s`. -/
structure Taken (fx : Bool) (s : State) (e : Events) : Prop where
  other : areaE (!fx) e = areaE (!fx) s.ev
  queue : queueE fx e = []
  room : e.snapq.length < 256
  injs : e.injs = []

theorem taken_popped (hinj : s.ev.injs = []) (hroom : fx = true → s.ev.snapq.length < 256) : Taken fx s (popped fx s).ev := by
  cases fx with
  | false => exact ⟨rfl, rfl, Nat.zero_lt_succ _, hinj⟩
  | true => exact ⟨rfl, rfl, hroom rfl, hinj⟩

theorem Taken.area {e : Events} (h : Taken fx s e) (f : List EvRec → List EvRec) : Taken fx s (evArea fx f e) := by
  obtain ⟨hother, hqueue, hroom, hinjs⟩ := h
  cases fx <;> exact ⟨hother, hqueue, hroom, hinjs⟩

theorem Taken.put {e : Events} (h : Taken fx s e) : Taken fx s (evPut fx e) := by
  obtain ⟨hother, hqueue, hroom, hinjs⟩ := h
  cases fx <;> exact ⟨hother, hqueue, hroom, hinjs⟩

theorem Taken.lost {e : Events} (h : Taken fx s e) : Taken fx s (evLost fx e) := by
  obtain ⟨hother, hqueue, hroom, hinjs⟩ := h
  cases fx <;> exact ⟨hother, hqueue, hroom, hinjs⟩

theorem Taken.archive {e : Events} (h : Taken fx s e) (v : EvRec) : Taken fx s (evArchive v e) := by
  obtain ⟨hother, hqueue, hroom, hinjs⟩ := h
  unfold evArchive
  cases fx <;> split <;> exact ⟨hother, hqueue, hroom, hinjs⟩

/-- The record part of a recorder. -/
structure SameRecords (e e' : Events) : Prop where
  area : ∀ fx, areaE fx e' = areaE fx e
  saved : ∀ fx, savedE fx e' = savedE fx e
  lost : ∀ fx, lostE fx e' = lostE fx e
  nextRseq : e'.nextRseq = e.nextRseq

/-- A writer's step, by the recorder that the writing leaves. -/
theorem written {e : Events} (k : Fin 3) (hev : (writeOcc o (popped fx s)).ev = e) (h : Taken fx s e) :
    Same fx k.val s (mramVerify k.val (writeOcc o (popped fx s))) ∧ SameRecords e (mramVerify k.val (writeOcc o (popped fx s))).ev := by
  have hpop : onlyIn tells s (popped fx s) := onlyIn_mono (onlyIn_put_ev _ s) rfl
  have hframe : onlyIn tells s (writeOcc o (popped fx s)) := onlyIn_step (frame_writeOcc o (popped fx s)) rfl hpop
  generalize writeOcc o (popped fx s) = u at hev hframe
  subst hev
  obtain ⟨hother, hqueue, hroom, hinjs⟩ := h
  obtain ⟨hver, hrecs, hmc, honce⟩ := mramVerify_verified k.val hinjs hroom
  have hmcu : u.mc = s.mc := hframe .mc (by decide)
  generalize mramVerify k.val u = t at *
  have hsame : SameRecords u.ev t.ev := by
    rw [hrecs]
    exact ⟨fun fx => by cases fx <;> rfl, fun fx => by cases fx <;> rfl, fun fx => by cases fx <;> rfl, rfl⟩
  rw [hmcu] at hmc
  exact ⟨⟨onlyIn_step hver rfl (onlyIn_mono hframe rfl), (hsame.area _).trans hother, by rw [hmc], by rw [hmc], fun hk => by rw [honce hk]; exact hqueue⟩, hsame⟩

theorem nextOcc_one (o : Occ) : nextOcc [o] = some (o, []) := by
  unfold nextOcc
  by_cases hraw : (detRow o.code).isNone = true
  · simp only [hraw, if_true]
  · have hsome : (detRow o.code).isSome = true := by simpa [Option.isSome_iff_ne_none] using hraw
    simp [hraw, hsome]

theorem writerRun (k : Fin 3) (hdom : domOf s 12 = .on ∨ domOf s 12 = .reduced) (hup : s.rs.supUp = true) (hrec : inRecovery s = false)
    (hq : queueE fx s.ev = [o]) : WriterRun fx k s (mramVerify k.val (writeOcc o (popped fx s))) := by
  cases fx with
  | false =>
    have hq' : s.ev.snapq = [o] := hq
    show execSnapshotQueueWrite k s = _
    unfold execSnapshotQueueWrite
    rw [if_pos (by rw [hup, hrec]; rfl), hq', nextOcc_one]
    rfl
  | true =>
    have hq' : s.ev.fixq = [o] := hq
    show execFixedRecordWrite k s = _
    unfold execFixedRecordWrite
    rw [if_pos (by simpa using hdom), hq', nextOcc_one]
    rfl

/-! ### The four outcomes (R325 to R327) -/

theorem areaOf_popped (fx b : Bool) (s : State) : areaOf (popped fx s) b = areaE b s.ev := by
  cases fx <;> cases b <;> rfl

theorem mergeTarget_popped (fx : Bool) (s : State) (area : List EvRec) (o : Occ) : mergeTarget (popped fx s) area o = mergeTarget s area o := by
  cases fx <;> rfl

/-- What a new record says of its occurrence. -/
structure Fresh (fx : Bool) (o : Occ) (s : State) (r : EvRec) : Prop where
  rseq : r.rseq = s.ev.nextRseq
  stamps : r.code = o.code ∧ r.inst = o.inst ∧ r.frame = o.frame ∧ r.opsec = o.opsec ∧ r.pcycle = o.pcycle ∧ r.data = o.data ∧ r.injected = o.injected ∧
    r.active = o.lasting ∧ r.timeEst = o.timeEst ∧ r.repeats = 1 ∧ r.last = o.frame
  fixed : fx = true → r.items = [] ∧ r.lateSnap = false
  snap : fx = false → r.lateSnap = o.late

theorem fresh_recNow (hcode : isFixedCode o.code = fx) : Fresh fx o s (recNow o (popped fx s)) := by
  subst hcode
  refine ⟨?_, ⟨rfl, rfl, rfl, rfl, rfl, rfl, rfl, rfl, rfl, rfl, rfl⟩, fun hfx => ⟨if_pos hfx, ?_⟩, fun hfx => ?_⟩
  · show (popped (isFixedCode o.code) s).ev.nextRseq = _
    cases isFixedCode o.code <;> rfl
  · show (o.late && !isFixedCode o.code) = false
    rw [hfx, Bool.not_true, Bool.and_false]
  · show (o.late && !isFixedCode o.code) = o.late
    rw [hfx, Bool.not_false, Bool.and_true]

theorem popped_records (fx : Bool) (s : State) : SameRecords s.ev (popped fx s).ev := by
  cases fx <;> exact ⟨fun b => by cases b <;> rfl, fun b => by cases b <;> rfl, fun b => by cases b <;> rfl, rfl⟩

theorem areaE_evArea (fx : Bool) (f : List EvRec → List EvRec) (e : Events) : areaE fx (evArea fx f e) = f (areaE fx e) ∧
    savedE fx (evArea fx f e) = savedE fx e ∧ (evArea fx f e).nextRseq = e.nextRseq := by
  cases fx <;> exact ⟨rfl, rfl, rfl⟩

theorem areaE_evPut (fx : Bool) (e : Events) : areaE fx (evPut fx e) = areaE fx e ∧ savedE fx (evPut fx e) = savedE fx e ∧
    (evPut fx e).nextRseq = e.nextRseq + 1 := by
  cases fx <;> exact ⟨rfl, rfl, rfl⟩

theorem areaE_evLost (fx : Bool) (e : Events) : areaE fx (evLost fx e) = areaE fx e ∧ savedE fx (evLost fx e) = savedE fx e ∧
    (evLost fx e).nextRseq = e.nextRseq ∧ lostE fx (evLost fx e) = wrapU 32 (lostE fx e + 1) := by
  cases fx <;> exact ⟨rfl, rfl, rfl, rfl⟩

theorem areaE_evArchive (fx : Bool) (v : EvRec) (e : Events) : areaE fx (evArchive v e) = areaE fx e ∧ (evArchive v e).nextRseq = e.nextRseq ∧
    (isFixedCode v.code = fx → savedE fx (evArchive v e) = savedE fx e ++ [v]) := by
  unfold evArchive
  refine ⟨?_, ?_, ?_⟩
  · cases fx <;> split <;> rfl
  · split <;> rfl
  · rintro rfl
    cases isFixedCode v.code <;> rfl

section
variable (k : Fin 3) (hcode : isFixedCode o.code = fx) (hinj : s.ev.injs = []) (hdom : domOf s 12 = .on ∨ domOf s 12 = .reduced)
  (hup : s.rs.supUp = true) (hrec : inRecovery s = false) (hroom : fx = true → s.ev.snapq.length < 256) (hq : queueE fx s.ev = [o])
include hcode hinj hdom hup hrec hroom hq

theorem writer_merges {r : EvRec} (hone : ∀ q ∈ areaE fx s.ev, q.rseq = r.rseq → q = r) (hc : candidate (areaE fx s.ev) o = some r)
    (hm : mergeable (paramN s pEvRepeatWindow) o r = true) : ∃ t, WriterRun fx k s t ∧ Same fx k.val s t ∧ savedE fx t.ev = savedE fx s.ev ∧
      t.ev.nextRseq = s.ev.nextRseq ∧ areaE fx t.ev = (areaE fx s.ev).map (fun q => if q.rseq = r.rseq then
        { r with repeats := satU 16 (r.repeats + 1), active := r.active || o.lasting, last := max r.last o.frame } else q) := by
  have htarget : mergeTarget (popped fx s) (areaOf (popped fx s) (isFixedCode o.code)) o = some r := by
    rw [hcode, areaOf_popped, mergeTarget_popped]
    unfold mergeTarget
    simp only [hc, hm, if_true]
  have htaken := taken_popped (fx := fx) hinj hroom
  have hev := writeOcc_merges htaken.injs htarget
  rw [hcode] at hev
  obtain ⟨hsame, hrecs⟩ := written k hev (htaken.area _)
  obtain ⟨harea, hsaved, hrseq⟩ := areaE_evArea fx (updRec r.rseq (mergeInto o)) (popped fx s).ev
  have hpop := popped_records fx s
  refine ⟨_, writerRun k hdom hup hrec hq, hsame, (hrecs.saved fx).trans (hsaved.trans (hpop.saved fx)), hrecs.nextRseq.trans (hrseq.trans hpop.nextRseq), ?_⟩
  rw [hrecs.area fx, harea, hpop.area fx]
  refine List.map_congr_left fun q hqm => ?_
  by_cases hqr : q.rseq = r.rseq
  · rw [if_pos hqr, if_pos hqr, hone q hqm hqr]
    rfl
  · rw [if_neg hqr, if_neg hqr]

omit hdom hup hrec hroom hq hinj in
theorem mergeTarget_none (hnone : mergeTarget s (areaE fx s.ev) o = none) :
    mergeTarget (popped fx s) (areaOf (popped fx s) (isFixedCode o.code)) o = none := by
  rw [hcode, areaOf_popped, mergeTarget_popped, hnone]

theorem writer_puts (hnone : mergeTarget s (areaE fx s.ev) o = none) (hlen : (areaE fx s.ev).length < areaCap fx) :
    ∃ t r, WriterRun fx k s t ∧ Same fx k.val s t ∧ savedE fx t.ev = savedE fx s.ev ∧ areaE fx t.ev = areaE fx s.ev ++ [r] ∧ Fresh fx o s r ∧
      t.ev.nextRseq = s.ev.nextRseq + 1 := by
  have htaken := taken_popped (fx := fx) hinj hroom
  have hev := writeOcc_puts htaken.injs (mergeTarget_none hcode hnone) (by rw [hcode, areaOf_popped]; exact hlen)
  rw [hcode] at hev
  obtain ⟨hsame, hrecs⟩ := written k hev (htaken.area _).put
  have hpop := popped_records fx s
  obtain ⟨hparea, hpsaved, hprseq⟩ := areaE_evPut fx (evArea fx (fun a => a ++ [recNow o (popped fx s)]) (popped fx s).ev)
  obtain ⟨harea, hsaved, hrseq⟩ := areaE_evArea fx (fun a => a ++ [recNow o (popped fx s)]) (popped fx s).ev
  refine ⟨_, _, writerRun k hdom hup hrec hq, hsame, ?_, ?_, fresh_recNow hcode, ?_⟩
  · rw [hrecs.saved, hpsaved, hsaved, hpop.saved]
  · rw [hrecs.area, hparea, harea, hpop.area]
  · rw [hrecs.nextRseq, hprseq, hrseq, hpop.nextRseq]

theorem writer_replaces {v : EvRec} (hnone : mergeTarget s (areaE fx s.ev) o = none) (hlen : areaCap fx ≤ (areaE fx s.ev).length)
    (hv : victim (severityOf o.code) (areaE fx s.ev) = some v) :
    ∃ t r, WriterRun fx k s t ∧ Same fx k.val s t ∧ areaE fx t.ev = (areaE fx s.ev).filter (fun x => x.rseq != v.rseq) ++ [r] ∧ Fresh fx o s r ∧
      t.ev.nextRseq = s.ev.nextRseq + 1 ∧ (isFixedCode v.code = fx → savedE fx t.ev = savedE fx s.ev ++ [v]) := by
  have htaken := taken_popped (fx := fx) hinj hroom
  have hev := writeOcc_replaces htaken.injs (mergeTarget_none hcode hnone) (by rw [hcode, areaOf_popped]; exact hlen)
    (by rw [hcode, areaOf_popped]; exact hv)
  rw [hcode] at hev
  obtain ⟨hsame, hrecs⟩ := written k hev (((htaken.archive v).area _).area _).put
  have hpop := popped_records fx s
  obtain ⟨hxarea, hxrseq, hxsaved⟩ := areaE_evArchive fx v (popped fx s).ev
  obtain ⟨hfarea, hfsaved, hfrseq⟩ := areaE_evArea fx (fun a => a.filter (fun x => x.rseq != v.rseq)) (evArchive v (popped fx s).ev)
  obtain ⟨harea, hsaved, hrseq⟩ := areaE_evArea fx (fun a => a ++ [recNow o (popped fx s)])
    (evArea fx (fun a => a.filter (fun x => x.rseq != v.rseq)) (evArchive v (popped fx s).ev))
  obtain ⟨hparea, hpsaved, hprseq⟩ := areaE_evPut fx (evArea fx (fun a => a ++ [recNow o (popped fx s)])
    (evArea fx (fun a => a.filter (fun x => x.rseq != v.rseq)) (evArchive v (popped fx s).ev)))
  refine ⟨_, _, writerRun k hdom hup hrec hq, hsame, ?_, fresh_recNow hcode, ?_, fun hvc => ?_⟩
  · rw [hrecs.area, hparea, harea, hfarea, hxarea, hpop.area]
  · rw [hrecs.nextRseq, hprseq, hrseq, hfrseq, hxrseq, hpop.nextRseq]
  · rw [hrecs.saved, hpsaved, hsaved, hfsaved, hxsaved hvc, hpop.saved]

theorem writer_loses (hnone : mergeTarget s (areaE fx s.ev) o = none) (hlen : areaCap fx ≤ (areaE fx s.ev).length)
    (hv : victim (severityOf o.code) (areaE fx s.ev) = none) (hfull : (if fx then s.ev.fullFixed else s.ev.fullSnap) = true) :
    ∃ t, WriterRun fx k s t ∧ Same fx k.val s t ∧ savedE fx t.ev = savedE fx s.ev ∧ areaE fx t.ev = areaE fx s.ev ∧
      t.ev.nextRseq = s.ev.nextRseq ∧ lostE fx t.ev = wrapU 32 (lostE fx s.ev + 1) := by
  have htaken := taken_popped (fx := fx) hinj hroom
  have hev := writeOcc_loses htaken.injs (mergeTarget_none hcode hnone) (by rw [hcode, areaOf_popped]; exact hlen)
    (by rw [hcode, areaOf_popped]; exact hv) (by rw [hcode]; cases fx <;> exact hfull)
  rw [hcode] at hev
  obtain ⟨hsame, hrecs⟩ := written k hev htaken.lost
  have hpop := popped_records fx s
  obtain ⟨harea, hsaved, hrseq, hlost⟩ := areaE_evLost fx (popped fx s).ev
  refine ⟨_, writerRun k hdom hup hrec hq, hsame, ?_, ?_, ?_, ?_⟩
  · rw [hrecs.saved, hsaved, hpop.saved]
  · rw [hrecs.area, harea, hpop.area]
  · rw [hrecs.nextRseq, hrseq, hpop.nextRseq]
  · rw [hrecs.lost, hlost, hpop.lost]

end

/-! ### Order, counters and injections (R324, R333) -/

theorem nextOcc_lower {o1 o2 : Occ} (hframe : o2.frame = o1.frame) (hcycle : o2.pcycle = o1.pcycle) (h1 : (detRow o1.code).isSome = true)
    (h2 : (detRow o2.code).isSome = true) (hi1 : o1.inst < 256) (hi2 : o2.inst < 256)
    (hlt : o2.code < o1.code ∨ (o2.code = o1.code ∧ o2.inst < o1.inst)) : nextOcc [o1, o2] = some (o2, [o1]) := by
  have hn1 : (detRow o1.code).isNone = false := by simpa using h1
  have hord : o2.code * 256 + o2.inst < o1.code * 256 + o1.inst := by omega
  unfold nextOcc
  simp [hn1, h1, h2, hframe, hcycle, hord]

/-- Whether any domain counts powered seconds. -/
def Powered (s : State) : Prop := ∃ d ∈ s.pw.doms.drop 1, d = .on ∨ d = .reduced ∨ d = .reset

theorem powered_iff : (s.pw.doms.drop 1).any (fun d => d == .on || d == .reduced || d == .reset) = true ↔ Powered s := by
  simp [Powered, List.any_eq_true, or_assoc]

theorem opsecCount_waits (h : s.rs.stage = .cold ∨ ¬Powered s) : exec .opsecCount s = .next s := by
  refine congrArg Host.Outcome.next (if_neg fun hc => ?_)
  rw [Bool.and_eq_true, decide_eq_true_eq, powered_iff] at hc
  exact h.elim hc.1 (· hc.2)

theorem opsecCount_counts (hstage : s.rs.stage ≠ .cold) (hp : Powered s) : ∃ t, exec .opsecCount s = .next t ∧ onlyIn [.ev] s t ∧
    t.ev.opsec = wrapU 32 (s.ev.opsec + 1) ∧ (59 ≤ s.ev.opsecFrac → t.ev.opsecFrac = 0 ∧ t.ev.opsecCopy = t.ev.opsec) ∧
    (s.ev.opsecFrac < 59 → t.ev.opsecFrac = s.ev.opsecFrac + 1 ∧ t.ev.opsecCopy = s.ev.opsecCopy) := by
  have hexec : exec .opsecCount s = .next { s with ev := if 59 ≤ s.ev.opsecFrac then
      { s.ev with opsec := wrapU 32 (s.ev.opsec + 1), opsecFrac := 0, opsecCopy := wrapU 32 (s.ev.opsec + 1) }
      else { s.ev with opsec := wrapU 32 (s.ev.opsec + 1), opsecFrac := s.ev.opsecFrac + 1 } } :=
    congrArg Host.Outcome.next (if_pos (by rw [Bool.and_eq_true, decide_eq_true_eq, powered_iff]; exact ⟨hstage, hp⟩))
  by_cases hfrac : 59 ≤ s.ev.opsecFrac
  · rw [if_pos hfrac] at hexec
    exact ⟨_, hexec, frame_execOpsecCount s _ hexec, rfl, fun _ => ⟨rfl, rfl⟩, fun h => absurd hfrac (by omega)⟩
  · rw [if_neg hfrac] at hexec
    exact ⟨_, hexec, frame_execOpsecCount s _ hexec, rfl, fun h => absurd h hfrac, fun _ => ⟨rfl, rfl⟩⟩

/-- An injection whose hold has ended. -/
def Ended (h : Fin 17) (i : Inj) : Prop := i.handle = h.val ∧ i.started = true ∧ i.mode = 2 ∧ i.left = 0

theorem injectionEnd_one {i : Inj} (h : Fin 17) (hi : s.ev.injs = [i]) :
    (¬Ended h i → exec (.injectionEnd h) s = .next s) ∧ (Ended h i → exec (.injectionEnd h) s = .next (endInjection h.val s)) := by
  have hany : s.ev.injs.any (fun i => i.handle == h.val && i.started && i.mode == 2 && i.left == 0) = true ↔ Ended h i := by
    simp [hi, Ended, and_assoc]
  exact ⟨fun hn => congrArg Host.Outcome.next (if_neg (mt hany.mp hn)), fun he => congrArg Host.Outcome.next (if_pos (hany.mpr he))⟩

theorem endInjection_one {i : Inj} (hi : s.ev.injs = [i]) (hstart : i.started = true) : (endInjection i.handle s).ev.injs = [] ∧
    (endInjection i.handle s).ev.fixed = s.ev.fixed ∧ (endInjection i.handle s).ev.snaps = s.ev.snaps ∧
    (endInjection i.handle s).ev.fixq.map Occ.code = s.ev.fixq.map Occ.code ++ [evInjectionEnd] := by
  unfold endInjection
  simp only [hi, List.find?_cons, beq_self_eq_true, hstart, if_true]
  simp [occNow]

/-- The statement's clause about one writer. -/
theorem writer_writes (fx : Bool) (o : Occ) (k : Fin 3) (hcode : isFixedCode o.code = fx) (hinj : s.ev.injs = [])
    (hdom : domOf s 12 = .on ∨ domOf s 12 = .reduced) (hup : s.rs.supUp = true) (hrec : inRecovery s = false)
    (hroom : fx = true → s.ev.snapq.length < 256) (hq : queueE fx s.ev = [o]) :
    (∀ r, (∀ q ∈ areaE fx s.ev, q.rseq = r.rseq → q = r) → candidate (areaE fx s.ev) o = some r → mergeable (paramN s pEvRepeatWindow) o r = true →
      ∃ t, WriterRun fx k s t ∧ Same fx k.val s t ∧ savedE fx t.ev = savedE fx s.ev ∧
        t.ev.nextRseq = s.ev.nextRseq ∧ areaE fx t.ev = (areaE fx s.ev).map (fun q => if q.rseq = r.rseq then
          { r with repeats := satU 16 (r.repeats + 1), active := r.active || o.lasting, last := max r.last o.frame } else q)) ∧
    (mergeTarget s (areaE fx s.ev) o = none →
      ((areaE fx s.ev).length < areaCap fx → ∃ t r, WriterRun fx k s t ∧ Same fx k.val s t ∧ savedE fx t.ev = savedE fx s.ev ∧
        areaE fx t.ev = areaE fx s.ev ++ [r] ∧ Fresh fx o s r ∧ t.ev.nextRseq = s.ev.nextRseq + 1) ∧
      (∀ v, areaCap fx ≤ (areaE fx s.ev).length → victim (severityOf o.code) (areaE fx s.ev) = some v → v ∈ areaE fx s.ev ∧
        ∃ t r, WriterRun fx k s t ∧ Same fx k.val s t ∧ areaE fx t.ev = (areaE fx s.ev).filter (fun x => x.rseq != v.rseq) ++ [r] ∧ Fresh fx o s r ∧
          t.ev.nextRseq = s.ev.nextRseq + 1 ∧ (isFixedCode v.code = fx → savedE fx t.ev = savedE fx s.ev ++ [v])) ∧
      (areaCap fx ≤ (areaE fx s.ev).length → victim (severityOf o.code) (areaE fx s.ev) = none →
        (if fx then s.ev.fullFixed else s.ev.fullSnap) = true → ∃ t, WriterRun fx k s t ∧ Same fx k.val s t ∧ savedE fx t.ev = savedE fx s.ev ∧
          areaE fx t.ev = areaE fx s.ev ∧ t.ev.nextRseq = s.ev.nextRseq ∧ lostE fx t.ev = wrapU 32 (lostE fx s.ev + 1))) :=
  ⟨fun _ => writer_merges k hcode hinj hdom hup hrec hroom hq, fun hnone => ⟨writer_puts k hcode hinj hdom hup hrec hroom hq hnone,
    fun _ hlen hv => ⟨(victim_ranks hv).1, writer_replaces k hcode hinj hdom hup hrec hroom hq hnone hlen hv⟩,
    writer_loses k hcode hinj hdom hup hrec hroom hq hnone⟩⟩

/-- The record of a writer's step, as the statement lists it. -/
theorem Fresh.stated {r : EvRec} {kept after : List EvRec} {n : Nat} (h : Fresh fx o s r) (hafter : after = kept ++ [r]) (hn : n = s.ev.nextRseq + 1) :
    ∃ r, after = kept ++ [r] ∧ r.rseq = s.ev.nextRseq ∧ r.code = o.code ∧ r.inst = o.inst ∧
      r.frame = o.frame ∧ r.opsec = o.opsec ∧ r.pcycle = o.pcycle ∧ r.data = o.data ∧ r.injected = o.injected ∧ r.active = o.lasting ∧
      r.timeEst = o.timeEst ∧ r.repeats = 1 ∧ r.last = o.frame ∧ (fx = true → r.items = [] ∧ r.lateSnap = false) ∧
      (fx = false → r.lateSnap = o.late) ∧ n = s.ev.nextRseq + 1 := by
  obtain ⟨hrseq, ⟨hcode, hinst, hframe, hopsec, hcycle, hdata, hinj, hact, hest, hrep, hlast⟩, hfixed, hsnap⟩ := h
  exact ⟨r, hafter, hrseq, hcode, hinst, hframe, hopsec, hcycle, hdata, hinj, hact, hest, hrep, hlast, hfixed, hsnap, hn⟩

/-- What a writer's step does besides its record, as the statement lists it. -/
theorem Same.stated {k : Nat} {t : State} (h : Same fx k s t) : onlyIn (.mc :: tells) s t ∧ (if fx then t.ev.snaps = s.ev.snaps else t.ev.fixed = s.ev.fixed) ∧
    t.mc.mem = s.mc.mem ∧ t.mc.mramRetries = (if k = 0 then s.mc.mramRetries else wrapU 32 (s.mc.mramRetries + 1)) ∧
    (k < 2 → if fx then t.ev.fixq = [] else t.ev.snapq = []) := by
  obtain ⟨hframe, hother, hmem, hretries, hqueue⟩ := h
  cases fx <;> exact ⟨hframe, hother, hmem, hretries, hqueue⟩

/-- Settles O49: the four outcomes of a writer's step by `writer_writes`, the victim by `victim_ranks`, and the order, counters and injections. -/
theorem recorderWritesAndMerges : Obligations.RecorderWritesAndMerges := by
  intro s
  refine ⟨fun h k => congrArg Host.Outcome.next (if_neg (by simpa using h)),
    fun h k => congrArg Host.Outcome.next (if_neg (by rcases h with h | h <;> simp [h])), fun hq k => ?_, fun hq k => ?_, fun fx o k => ?_,
    fun sev area v => victim_ranks, fun o1 o2 hq hframe hcycle h1 h2 hi1 hi2 hlt => ?_, fun h => congrArg Host.Outcome.next (if_neg (by rw [h]; decide)),
    fun h => congrArg Host.Outcome.next (if_pos h), fun h => ?_, fun hstage hp => opsecCount_counts hstage hp, fun h i hi => ?_⟩
  · show execFixedRecordWrite k s = _
    unfold execFixedRecordWrite
    rw [hq]
    exact congrArg Host.Outcome.next (ite_self s)
  · show execSnapshotQueueWrite k s = _
    unfold execSnapshotQueueWrite
    rw [hq]
    exact congrArg Host.Outcome.next (ite_self s)
  · intro area cap run after same saved new hcode hinj hdom hup hrec hroom hq
    obtain ⟨hmerge, hnew⟩ := writer_writes fx o k hcode hinj hdom hup hrec hroom (by cases fx <;> exact hq)
    refine ⟨fun r hone hc hm => ?_, fun hnone => ?_⟩
    · obtain ⟨t, hrun, hsame, hsaved, hrseq, hafter⟩ := hmerge r hone hc hm
      exact ⟨t, hrun, hsame.stated, by cases fx <;> exact hsaved, hrseq, hafter⟩
    · obtain ⟨hput, hreplace, hlose⟩ := hnew hnone
      refine ⟨fun hlen => ?_, fun v hlen hv => ?_, fun hlen hv hfull => ?_⟩
      · obtain ⟨t, r, hrun, hsame, hsaved, hafter, hfresh, hrseq⟩ := hput hlen
        exact ⟨t, hrun, hsame.stated, by cases fx <;> exact hsaved, hfresh.stated hafter hrseq⟩
      · obtain ⟨hmem, t, r, hrun, hsame, hafter, hfresh, hrseq, hsaved⟩ := hreplace v hlen hv
        exact ⟨hmem, t, hrun, hsame.stated, hfresh.stated hafter hrseq, by cases fx <;> exact hsaved⟩
      · obtain ⟨t, hrun, hsame, hsaved, hafter, hrseq, hlost⟩ := hlose hlen hv hfull
        exact ⟨t, hrun, hsame.stated, by cases fx <;> exact hsaved, hafter, hrseq, by cases fx <;> exact hlost⟩
  · rw [hq]
    exact nextOcc_lower hframe hcycle h1 h2 hi1 hi2 hlt
  · refine opsecCount_waits (h.imp_right fun h hp => ?_)
    obtain ⟨d, hd, hst⟩ := hp
    obtain ⟨hon, hred, hreset⟩ := h d hd
    exact hst.elim hon (fun hst => hst.elim hred hreset)
  · obtain ⟨hkeeps, hends⟩ := injectionEnd_one h hi
    refine ⟨hkeeps, fun hh hstart hmode hleft => ?_⟩
    have hexec := hends ⟨hh, hstart, hmode, hleft⟩
    rw [← hh] at hexec
    exact ⟨_, hexec, frame_execInjectionEnd h s _ hexec, endInjection_one hi hstart⟩

end Sys2Proof.Proofs
end
section
/-!
PROOFS. What is known of a manifest: how the operations on it act, and which parts of the update they leave (R346, R362), for O50 and O51.
-/

namespace Sys2Proof.Proofs

open Sys2Proof.Machine Sys2Proof.Safety

variable {s : State} {id : Nat} {c : Camp}

/-! ### The manifest of an ID -/

theorem campOf_id (h : campOf s id = some c) : c.man.id = id := by simpa using List.find?_some h

theorem campOf_congr {t : State} (h : t.up = s.up) (id : Nat) : campOf t id = campOf s id := by rw [campOf, h, campOf]

theorem find_map_if {α : Type} {p : α → Bool} {f : α → α} (hf : ∀ a, p (f a) = p a) (l : List α) :
    (l.map (fun a => if p a = true then f a else a)).find? p = (l.find? p).map f := by
  induction l with
  | nil => rfl
  | cons a l ih =>
    cases hp : p a with
    | true => simp [hp, hf]
    | false => simp [hp, ih]

theorem campOf_updCamp {f : Camp → Camp} (hf : ∀ c, (f c).man = c.man) (id : Nat) (s : State) : campOf (updCamp id f s) id = (campOf s id).map f := by
  have hp : ∀ c : Camp, ((f c).man.id == id) = (c.man.id == id) := fun c => by rw [hf]
  have h := find_map_if (p := fun c : Camp => c.man.id == id) hp s.up.camps
  simp only [beq_iff_eq] at h
  exact h

/-! ### Steps that leave of the update all but what is known of manifests -/

/-- `t` is `s` after telling, with what is known of manifest `id` changed by `g` and nothing else of the update changed. -/
structure CampStep (id : Nat) (g : Camp → Camp) (s t : State) : Prop where
  frame : onlyIn (.up :: tells) s t
  up : t.up = { s.up with camps := t.up.camps }
  camp : campOf t id = (campOf s id).map g
  ev : EvKept s t

theorem CampStep.trans {g g' : Camp → Camp} {s t u : State} (h : CampStep id g s t) (h' : CampStep id g' t u) : CampStep id (g' ∘ g) s u where
  frame := onlyIn_step h'.frame rfl h.frame
  up := by rw [h'.up, h.up]
  camp := by rw [h'.camp, h.camp, Option.map_map]
  ev := h.ev.trans h'.ev

theorem CampStep.some {g : Camp → Camp} {t : State} (h : CampStep id g s t) (hc : campOf s id = some c) : campOf t id = some (g c) := by
  rw [h.camp, hc]
  rfl

theorem campStep_updCamp {f : Camp → Camp} (hf : ∀ c, (f c).man = c.man) (id : Nat) (s : State) : CampStep id f s (updCamp id f s) where
  frame := onlyIn_mono (onlyIn_put_up _ s) rfl
  up := rfl
  camp := campOf_updCamp hf id s
  ev _ := rfl

theorem evKept_notifyAll (code : Nat) (admits : Nat → Nat → Bool) (n : DueNote) (s : State) : EvKept s (notifyAll code admits n s) :=
  evKept_ite (evKept_foldl (fun x _ => evKept_foldl (fun y b => evKept_offerSub _ b _ y) _ x) _ s) (.refl s)

theorem evKept_progress (id u : Nat) (s : State) : EvKept s (progress id u s) := by
  unfold progress
  split
  · exact .refl s
  · split
    · exact .refl s
    · exact evKept_notifyAll _ _ _ _

theorem progress_up (id u : Nat) (s : State) : (progress id u s).up = s.up := frame_progress id u s .up (by decide)

theorem campStep_progress (id u : Nat) (s : State) : CampStep id (fun c => c) s (progress id u s) where
  frame := onlyIn_mono (frame_progress id u s) rfl
  up := by rw [progress_up]
  camp := (campOf_congr (progress_up id u s) id).trans Option.map_id'.symm
  ev := evKept_progress id u s

/-- A camp with a module changed. -/
def withMod (u : Nat) (f : UpMod → UpMod) (c : Camp) : Camp := { c with mods := c.mods.map (fun m => if m.uid = u then f m else m) }

theorem campStep_updMod (id u : Nat) (f : UpMod → UpMod) (s : State) : CampStep id (withMod u f) s (updMod id u f s) :=
  campStep_updCamp (f := withMod u f) (fun _ => rfl) id s

/-- A camp that has entered a state. -/
def entered (st : UpSt) (c : Camp) : Camp := withMod uid (fun m => { m with st := upStCode st }) { c with st }

theorem campStep_enterUp (id : Nat) (st : UpSt) (s : State) : CampStep id (entered st) s (enterUp id st s) :=
  ((campStep_updCamp (f := fun c => { c with st }) (fun _ => rfl) id s).trans (campStep_updMod id uid _ _)).trans (campStep_progress id uid _)

/-- A camp in which the state of a module is known. -/
def knows (u st : Nat) (f : UpMod → UpMod) (c : Camp) : Camp := withMod u (fun m => { f m with st }) c

theorem campStep_modState (id u st : Nat) (f : UpMod → UpMod) (s : State) : CampStep id (knows u st f) s (modState id u st f s) :=
  (campStep_updMod id u _ s).trans (campStep_progress id u _)

/-! ### Messages along the chain -/

theorem chainSend_up (id u : Nat) (body : Bytes) (s : State) : (chainSend id u body s).1.up = s.up := frame_chainSend id u body s .up (by decide)

theorem campOf_chainSend (id' id u : Nat) (body : Bytes) (s : State) : campOf (chainSend id u body s).1 id' = campOf s id' := campOf_congr (chainSend_up _ _ _ _) id'

theorem fbSend_put_up (p : Nat) (m : FbMsg) (s : State) (u : Update) : (fbSend p m { s with up := u }).fb = (fbSend p m s).fb := by
  have hlink : (portOn { s with up := u } p && (fbPort { s with up := u } p).link) = (portOn s p && (fbPort s p).link) := rfl
  unfold fbSend
  rw [hlink]
  split <;> rfl

/-- The count of a Skim flow after one frame more. -/
def skimCounted (dst cls flow : Nat) (s : State) : State :=
  { s with fb := { s.fb with txSeq := s.fb.txSeq.filter (fun x => !(x.1 == dst && x.2.1 == cls && x.2.2.1 == flow)) ++ [(dst, cls, flow,
    wrapU 32 (((s.fb.txSeq.find? (fun x => x.1 == dst && x.2.1 == cls && x.2.2.1 == flow)).map (fun x => x.2.2.2)).getD 0 + 1))] } }

theorem skimSend_route {dst cls flow p : Nat} {data : Bytes} (h : routePort s dst = some p) : (skimSend dst cls flow data s).1 =
    fbSend p (.skim ⟨cls, myNode s, dst, flow, 0,
      ((s.fb.txSeq.find? (fun x => x.1 == dst && x.2.1 == cls && x.2.2.1 == flow)).map (fun x => x.2.2.2)).getD 0, data⟩) (skimCounted dst cls flow s) := by
  unfold skimSend
  rw [h]
  rfl

/-- Of the update a frame reads nothing on its way out. -/
theorem skimSend_put_up (dst cls flow : Nat) (data : Bytes) (s : State) (u : Update) :
    (skimSend dst cls flow data { s with up := u }).1.fb = (skimSend dst cls flow data s).1.fb := by
  have hroute : routePort { s with up := u } dst = routePort s dst := rfl
  cases h : routePort s dst with
  | none =>
    unfold skimSend
    rw [hroute, h]
  | some p =>
    rw [skimSend_route h, skimSend_route (hroute.trans h)]
    exact fbSend_put_up p _ (skimCounted dst cls flow s) u

end Sys2Proof.Proofs
end
section
/-!
PROOFS. Motion and supply, manifests, acknowledgements and STAGED along the chain (R339, R340, R348 to R350), for O50.
-/

namespace Sys2Proof.Proofs

open Sys2Proof.Machine Sys2Proof.Safety

variable {s : State} {id : Nat} {c : Camp} {src : Fin 64} {data : Bytes}

/-! ### Delivered messages -/

/-- A delivered message of a type, while the supervisor runs. -/
def IsMsg (type : Nat) (data : Bytes) (s : State) : Prop := s.rs.supUp = true ∧ data ≠ [] ∧ rdN data 0 1 = type

theorem chainRow_iff (type : Nat) : (s.rs.supUp && !data.isEmpty && rdN data 0 1 == type) = true ↔ IsMsg type data s := by
  simp [IsMsg, and_assoc]

theorem chainRow_msg {type src : Nat} {act : Nat → Bytes → State → State} (h : IsMsg type data s) : chainRow type src data act s = act src data s :=
  if_pos ((chainRow_iff type).mpr h)

theorem chainRow_other {type src : Nat} {act : Nat → Bytes → State → State} (h : ¬IsMsg type data s) : chainRow type src data act s = s :=
  if_neg (mt (chainRow_iff type).mp h)

/-- The manifest that a message is about: the ID at its end. -/
def msgId (data : Bytes) : Nat := rdN data (data.length - 8) 8

theorem chainRows_other (src : Fin 64) (data : Bytes) (s : State) : ∀ row ∈ ([(1, .manifest), (2, .chunk), (3, .ack), (4, .nack),
    (5, .staged), (6, .prepare), (7, .vote), (8, .commitAbort), (9, .decisionAck), (10, .resolve), (11, .confirmFallback), (12, .motion)] :
    List (Nat × (Fin 64 → Bytes → Instr))), ¬IsMsg row.1 data s → exec (row.2 src data) s = .next s := by
  simp only [List.forall_mem_cons, List.not_mem_nil, false_implies, implies_true, and_true]
  exact ⟨fun h => congrArg Host.Outcome.next (chainRow_other h), fun h => congrArg Host.Outcome.next (chainRow_other h),
    fun h => congrArg Host.Outcome.next (chainRow_other h), fun h => congrArg Host.Outcome.next (chainRow_other h),
    fun h => congrArg Host.Outcome.next (chainRow_other h), fun h => congrArg Host.Outcome.next (chainRow_other h),
    fun h => congrArg Host.Outcome.next (chainRow_other h), fun h => congrArg Host.Outcome.next (chainRow_other h),
    fun h => congrArg Host.Outcome.next (chainRow_other h), fun h => congrArg Host.Outcome.next (chainRow_other h),
    fun h => congrArg Host.Outcome.next (chainRow_other h), fun h => congrArg Host.Outcome.next (chainRow_other h)⟩

/-! ### Motion and supply (R339, R340) -/

theorem motion_eq (h : IsMsg 12 data s) (h1 : 1 ≤ rdN data 1 1) (h3 : rdN data 1 1 ≤ 3) (hlen : data.length = 4) (hz : resZero data 2 2 = true) :
    exec (.motion src data) s = .next (if src.val ∈ motionPeers s then { s with up := { s.up with
      peers := s.up.peers.filter (fun p => p.1 != src.val) ++ [(src.val, rdN data 1 1, s.clk.ms)] } } else s) := by
  refine congrArg Host.Outcome.next ((chainRow_msg h).trans ?_)
  unfold motionMsg
  simp only [hlen, h1, h3, hz, decide_true, Bool.and_true, Bool.true_and, List.contains_iff_mem]
  rfl

/-- The evidence is being sent. -/
def motionSent (s : State) : State := { s with up := { s.up with motionAt := s.clk.ms } }

/-- The evidence sent to one node. -/
def motionTo (s : State) (st : State) (n : Nat) : State := (skimSend n 2 0 (u8 0x0C ++ u8 s.up.evidence ++ zeros 2) st).1

theorem onlyIn_foldl {α : Type} {ps : List Part} {f : State → α → State} (hf : ∀ x a, onlyIn ps x (f x a)) (l : List α) (s : State) :
    onlyIn ps s (l.foldl f s) := by
  induction l generalizing s with
  | nil => exact onlyIn_refl _ _
  | cons a l ih => exact onlyIn_step (ih (f s a)) (by simp [subParts]) (hf s a)

theorem motionSend_due (hup : s.rs.supUp = true) (hrec : inRecovery s = false) (hdue : s.up.motionAt + 100 ≤ s.clk.ms) :
    exec .motionSend s = .next ((motionPeers s).foldl (motionTo s) (motionSent s)) :=
  congrArg Host.Outcome.next (if_pos (by simp [hup, hrec, elapsed, hdue]))

theorem motionSend_waits (h : s.rs.supUp = false ∨ inRecovery s = true ∨ s.clk.ms < s.up.motionAt + 100) : exec .motionSend s = .next s := by
  refine congrArg Host.Outcome.next (if_neg fun hc => ?_)
  simp only [elapsed, Bool.and_eq_true, Bool.not_eq_true', decide_eq_true_eq] at hc
  obtain ⟨⟨hup, hrec⟩, hdue⟩ := hc
  rcases h with h | h | h
  · exact Bool.false_ne_true (h.symm.trans hup)
  · exact Bool.false_ne_true (hrec.symm.trans h)
  · omega

theorem motionSend_sends (hup : s.rs.supUp = true) (hrec : inRecovery s = false) (hdue : s.up.motionAt + 100 ≤ s.clk.ms) :
    ∃ t, exec .motionSend s = .next t ∧ onlyIn [.fb, .up] s t ∧ t.up = { s.up with motionAt := s.clk.ms } ∧
      (∀ n, motionPeers s = [n] → t.fb = (skimSend n 2 0 [0x0C, BitVec.ofNat 8 s.up.evidence, 0, 0] s).1.fb) := by
  have hexec := motionSend_due hup hrec hdue
  have hup' : onlyIn [.fb] (motionSent s) ((motionPeers s).foldl (motionTo s) (motionSent s)) := onlyIn_foldl (fun x n => frame_skimSend _ _ _ _ x) _ _
  refine ⟨_, hexec, onlyIn_mono (frame_execMotionSend s _ hexec) rfl, hup' .up (by decide), fun n hn => ?_⟩
  rw [hn]
  exact skimSend_put_up n 2 0 [0x0C, BitVec.ofNat 8 s.up.evidence, 0, 0] s _

theorem supplyConditionChange_falls {mv ms : Nat} (hup : s.rs.supUp = true) (hms : 1000 ≤ ms) (hok : s.up.supplyOk = true) (hmv : mv < paramN s pUpVsupMin) :
    exec (.supplyConditionChange mv ms) s = .next { s with up := { s.up with supplyOk := false } } :=
  congrArg Host.Outcome.next ((if_neg (by simp [hup, hms])).trans (if_pos (by simp [hok, hmv])))

theorem supplyConditionChange_rises {mv ms : Nat} (hup : s.rs.supUp = true) (hms : 1000 ≤ ms) (hok : s.up.supplyOk = false)
    (hmv : paramN s pUpVsupMin + 200 ≤ mv) :
    exec (.supplyConditionChange mv ms) s = .next { s with up := { s.up with supplyOk := true } } :=
  congrArg Host.Outcome.next ((if_neg (by simp [hup, hms])).trans ((if_neg (by simp [hok])).trans (if_pos (by simp [hok, hmv]))))

theorem supplyConditionChange_stays {mv ms : Nat} (h : s.rs.supUp = false ∨ ms < 1000 ∨ (s.up.supplyOk = true ∧ paramN s pUpVsupMin ≤ mv) ∨
    (s.up.supplyOk = false ∧ mv < paramN s pUpVsupMin + 200)) : exec (.supplyConditionChange mv ms) s = .next s := by
  show execSupplyConditionChange mv ms s = _
  unfold execSupplyConditionChange
  rcases h with h | h | ⟨hok, hmv⟩ | ⟨hok, hmv⟩
  · simp [h]
  · simp [h]
  · simp [hok, Nat.not_lt.mpr hmv]
  · simp [hok, Nat.not_le.mpr hmv]

/-! ### The manifest (R348) -/

/-- The bytes of a manifest's fragment. -/
def manBody (data : Bytes) : Bytes := slice data 8 (data.length - 16)

theorem manifest_refused (h : IsMsg 1 data s) (hbad : data.length ≤ 16 ∨ resZero data 1 3 = false ∨ inRecovery s = true) :
    exec (.manifest src data) s = .next s := by
  refine congrArg Host.Outcome.next ((chainRow_msg h).trans ?_)
  unfold manifestMsg
  exact if_pos (by rcases hbad with h | h | h <;> simp [h])

/-- The modules that a manifest's bytes name. -/
def bodyMods (body : Bytes) : List Nat := (chunks 8 (slice body 64 (8 * rdN body 18 2))).map (fun e => rdN e 0 6)

/-- The first fragment of a manifest that nothing is held of. -/
structure FirstPart (src : Fin 64) (data : Bytes) (s : State) : Prop where
  msg : IsMsg 1 data s
  len : 16 < data.length
  zero : resZero data 1 3 = true
  run : inRecovery s = false
  fresh : ∀ x ∈ s.up.manRx, ¬(x.1 = msgId data ∧ x.2.1 = src.val)
  start : rdN data 4 4 = 0

theorem FirstPart.rest (h : FirstPart src data s) : s.up.manRx.filter (fun x => !(x.1 == msgId data && x.2.1 == src.val)) = s.up.manRx :=
  List.filter_eq_self.mpr fun x hx => by simpa using not_and_or.mp (h.fresh x hx)

theorem FirstPart.got (h : FirstPart src data s) : s.up.manRx.find? (fun x => x.1 == msgId data && x.2.1 == src.val) = none :=
  List.find?_eq_none.mpr fun x hx => by simpa using h.fresh x hx

/-- What a first fragment does. -/
def manifestTaken (src : Nat) (data : Bytes) (s : State) : State :=
  if (manBody data).length < 36 || (manBody data).length < rdN (manBody data) 32 4 && (manBody data).length < 6560 then
    { s with up := { s.up with manRx := s.up.manRx ++ [(msgId data, src, manBody data)] } }
  else
    match (entryOf (bodyMods (manBody data)) (uidOfNode s src) (checkManifest (manBody data) s).1).2 with
    | none => (entryOf (bodyMods (manBody data)) (uidOfNode s src) (checkManifest (manBody data) s).1).1
    | some e =>
      match (checkManifest (manBody data) s).2 with
      | .inr _ => (chainSend (msgId data) e (u8 0x05 ++ u8 (myNode s) ++ u8 7 ++ u8 0)
          (entryOf (bodyMods (manBody data)) (uidOfNode s src) (checkManifest (manBody data) s).1).1).1
      | .inl m =>
        if m.id ≠ msgId data || (match campOf s m.id with
            | some c => c.entry && c.st != UpSt.idle
            | none => false) then (entryOf (bodyMods (manBody data)) (uidOfNode s src) (checkManifest (manBody data) s).1).1
        else if (claimants s m).isEmpty && s.up.commit.st ≠ .activated then
          takeManifest m false 0 src (nodeOfUid s e) (entryOf (bodyMods (manBody data)) (uidOfNode s src) (checkManifest (manBody data) s).1).1
        else (chainSend (msgId data) e (u8 0x05 ++ u8 (myNode s) ++ u8 7 ++ u8 0)
          (entryOf (bodyMods (manBody data)) (uidOfNode s src) (checkManifest (manBody data) s).1).1).1

theorem manifest_first (h : FirstPart src data s) : exec (.manifest src data) s = .next (manifestTaken src.val data s) := by
  obtain ⟨hmsg, hlen, hz, hrun, -, hstart⟩ := id h
  have hgot := h.got
  have hrest := h.rest
  unfold msgId at hgot hrest
  refine congrArg Host.Outcome.next ((chainRow_msg hmsg).trans ?_)
  unfold manifestMsg
  simp only [hgot, hrest, hstart]
  rw [if_neg (by simp [hz, hrun, Nat.not_le.mpr hlen])]
  rfl

theorem manifest_keeps (h : FirstPart src data s) (hshort : (manBody data).length < 36) :
    exec (.manifest src data) s = .next { s with up := { s.up with manRx := s.up.manRx ++ [(msgId data, src.val, manBody data)] } } := by
  rw [manifest_first h]
  exact congrArg Host.Outcome.next (if_pos (by simp [hshort]))

theorem entryOf_one {us : List Nat} {sender e : Nat} (h : entryCandidates us sender = [e]) (s : State) : entryOf us sender s = (s, some e) := by
  unfold entryOf
  rw [h]
  rfl

theorem manifestTaken_whole {e : Nat} (h36 : 36 ≤ (manBody data).length) (hall : rdN (manBody data) 32 4 ≤ (manBody data).length)
    (he : entryCandidates (bodyMods (manBody data)) (uidOfNode s src.val) = [e]) : manifestTaken src.val data s =
      match (checkManifest (manBody data) s).2 with
      | .inr _ => (chainSend (msgId data) e (u8 0x05 ++ u8 (myNode s) ++ u8 7 ++ u8 0) (checkManifest (manBody data) s).1).1
      | .inl m =>
        if m.id ≠ msgId data || (match campOf s m.id with
            | some c => c.entry && c.st != UpSt.idle
            | none => false) then (checkManifest (manBody data) s).1
        else if (claimants s m).isEmpty && s.up.commit.st ≠ .activated then
          takeManifest m false 0 src.val (nodeOfUid s e) (checkManifest (manBody data) s).1
        else (chainSend (msgId data) e (u8 0x05 ++ u8 (myNode s) ++ u8 7 ++ u8 0) (checkManifest (manBody data) s).1).1 := by
  unfold manifestTaken
  rw [if_neg (by simp; omega), entryOf_one he]

theorem manifest_judged {e : Nat} (h : FirstPart src data s) (h36 : 36 ≤ (manBody data).length) (hall : rdN (manBody data) 32 4 ≤ (manBody data).length)
    (he : entryCandidates (bodyMods (manBody data)) (uidOfNode s src.val) = [e]) :
    match checkManifest (manBody data) s with
    | (s1, .inr _) => exec (.manifest src data) s = .next (chainSend (msgId data) e [5, BitVec.ofNat 8 (myNode s), 7, 0] s1).1
    | (s1, .inl m) => (m.id = msgId data → campOf s m.id = none → claimants s m = [] → s.up.commit.st ≠ .activated →
        exec (.manifest src data) s = .next (takeManifest m false 0 src.val (nodeOfUid s e) s1)) := by
  have hexec := manifest_first h
  rw [manifestTaken_whole h36 hall he] at hexec
  generalize checkManifest (manBody data) s = r at hexec
  obtain ⟨s1, m | k⟩ := r
  · intro hid hnone hcl hact
    exact hexec.trans (congrArg Host.Outcome.next ((if_neg (by rw [hnone]; simp [hid])).trans (if_pos (by simp [hcl, hact]))))
  · exact hexec

/-! ### ACK, NACK and the forwarding of chunks (R349, R350) -/

theorem ringEnd_up (s : State) : (ringEnd s).up = s.up := frame_ringEnd s .up (by decide)

theorem ack_frees (h : IsMsg 3 data s) (hc : campOf s (msgId data) = some c) (hlen : data.length = 16)
    (hsucc : successor s c = some (uidOfNode s src.val)) : ∃ t, exec (.ack src data) s = .next t ∧ onlyIn [.mc, .up] s t ∧
      t.up = { s.up with relay := s.up.relay.filter (fun r => !(r.man == msgId data && r.part == rdN data 1 1 && decide (r.chunk ≤ rdN data 4 4))) } := by
  have hexec : exec (.ack src data) s = .next (ringEnd { s with up := { s.up with relay := s.up.relay.filter (fun r =>
      !(r.man == msgId data && r.part == rdN data 1 1 && decide (r.chunk ≤ rdN data 4 4))) } }) := by
    refine congrArg Host.Outcome.next ((chainRow_msg h).trans ?_)
    unfold msgId at hc
    unfold ackMsg
    simp only [hc]
    exact if_pos (by simp [hlen, hsucc])
  exact ⟨_, hexec, frame_execAck src data s _ hexec, ringEnd_up _⟩

theorem ack_other (h : IsMsg 3 data s) (hc : campOf s (msgId data) = some c) (hsucc : successor s c ≠ some (uidOfNode s src.val)) :
    exec (.ack src data) s = .next s := by
  refine congrArg Host.Outcome.next ((chainRow_msg h).trans ?_)
  unfold msgId at hc
  unfold ackMsg
  simp only [hc]
  exact if_neg (by simp [hsucc])

theorem nack_other (h : IsMsg 4 data s) (hc : campOf s (msgId data) = some c) (hsucc : successor s c ≠ some (uidOfNode s src.val)) :
    exec (.nack src data) s = .next s := by
  refine congrArg Host.Outcome.next ((chainRow_msg h).trans ?_)
  unfold msgId at hc
  unfold nackMsg
  simp only [hc]
  exact if_neg (by simp [hsucc])

/-- A waiting chunk, whether sent or not. -/
def relayKey (r : RelayChunk) : Nat × Nat × Nat × Bytes := (r.man, r.part, r.chunk, r.data)

/-- The chunks of the ring with one of them sent. -/
def markSent (r : RelayChunk) (l : List RelayChunk) : List RelayChunk :=
  l.map (fun y => if y.man = r.man ∧ y.part = r.part ∧ y.chunk = r.chunk then { y with sent := true } else y)

theorem markSent_key (r : RelayChunk) (l : List RelayChunk) : (markSent r l).map relayKey = l.map relayKey := by
  rw [markSent, List.map_map]
  refine List.map_congr_left fun y _ => ?_
  rw [Function.comp_apply]
  split <;> rfl

theorem chainSends_up (id u : Nat) (bs : List Bytes) (s : State) : (bs.foldl (fun st b => (chainSend id u b st).1) s).up = s.up :=
  onlyIn_foldl (ps := [.fb]) (fun x b => frame_chainSend _ _ b x) bs s .up (by decide)

theorem sendChunk_up {r : RelayChunk} {u : Nat} (h : (campOf s r.man).bind (successor s) = some u) :
    (sendChunk r s).up = { s.up with relay := markSent r s.up.relay } := by
  unfold sendChunk
  simp only [h, updUp_up, chainSends_up]
  refine congrArg (fun l => { s.up with relay := l }) (List.map_congr_left fun y _ => ?_)
  exact if_congr (by simp [and_assoc]) rfl rfl

theorem sendChunk_key (r : RelayChunk) (s : State) : (sendChunk r s).up.relay.map relayKey = s.up.relay.map relayKey := by
  cases h : (campOf s r.man).bind (successor s) with
  | none =>
    unfold sendChunk
    rw [h]
  | some u =>
    rw [sendChunk_up h]
    exact markSent_key r _

theorem sendChunks_key (rs : List RelayChunk) (s : State) : (rs.foldl (fun st r => sendChunk r st) s).up.relay.map relayKey = s.up.relay.map relayKey := by
  induction rs generalizing s with
  | nil => rfl
  | cons r rs ih => exact (ih (sendChunk r s)).trans (sendChunk_key r s)

theorem nack_resends (h : IsMsg 4 data s) (hc : campOf s (msgId data) = some c) (hlen : data.length = 16)
    (hsucc : successor s c = some (uidOfNode s src.val)) : ∃ t, exec (.nack src data) s = .next t ∧ onlyIn [.fb, .up] s t ∧
      t.up.relay.map relayKey = (s.up.relay.filter (fun r =>
        !(r.man == msgId data && r.part == rdN data 1 1 && decide (r.chunk < rdN data 4 4)))).map relayKey := by
  have hexec : exec (.nack src data) s = .next (nackMsg src.val data s) := congrArg Host.Outcome.next (chainRow_msg h)
  refine ⟨_, hexec, frame_execNack src data s _ hexec, ?_⟩
  unfold msgId at hc
  unfold nackMsg
  simp only [hc]
  rw [if_pos (by simp [hlen, hsucc])]
  exact sendChunks_key _ _

theorem chunkForward_waits (h : s.rs.supUp = false ∨ ∀ r ∈ s.up.relay, r.sent = true) : exec .chunkForward s = .next s := by
  show execChunkForward s = _
  unfold execChunkForward
  rcases h with h | h
  · rw [if_neg (by rw [h]; decide)]
  · rw [List.find?_eq_none.mpr (fun r hr => by simp [h r hr]), ite_self]

theorem chunkForward_sends {r : RelayChunk} {u : Nat} (hup : s.rs.supUp = true) (hr : s.up.relay.find? (fun r => !r.sent) = some r)
    (hc : campOf s r.man = some c) (hu : successor s c = some u) : ∃ t, exec .chunkForward s = .next t ∧ onlyIn [.fb, .up] s t ∧
      t.up = { s.up with relay := markSent r s.up.relay } := by
  have hexec : exec .chunkForward s = .next (sendChunk r s) := by
    show execChunkForward s = _
    unfold execChunkForward
    rw [if_pos hup, hr]
  exact ⟨_, hexec, frame_execChunkForward s _ hexec, sendChunk_up (by rw [hc]; exact hu)⟩

/-! ### STAGED at the entry module (R348, R350) -/

theorem eraseStaged_up (c : Camp) (s : State) : (eraseStaged c s).up = { s.up with slots := (eraseStaged c s).up.slots } := by
  unfold eraseStaged
  induction ownParts c.man generalizing s with
  | nil => rfl
  | cons p ps ih => exact ih (updSlot p.type (inactive s p.type) (fun _ => none) s)

/-- A camp whose staging has ended. -/
def unstaged (result : Nat) (c : Camp) : Camp :=
  entered .idle { c with result, chunkRx := none, parts := c.parts.map (fun p => partStart p.index) }

/-- The state in which a staging ends: its slots are erased and nothing waits for the successor. -/
def stagingErased (id : Nat) (c : Camp) (s : State) : State :=
  updUp (fun u => { u with relay := u.relay.filter (fun r => r.man != id) }) (eraseStaged c s)

theorem dropStaging_some (result : Nat) (hc : campOf s id = some c) (hst : c.st = .staging ∨ c.st = .staged) : dropStaging id result s =
    ringEnd (enterUp id .idle (updCamp id (fun c => { c with result, chunkRx := none, parts := c.parts.map (fun p => partStart p.index) })
      (stagingErased id c s))) := by
  unfold dropStaging
  simp only [hc]
  exact if_pos (by simpa using hst)

theorem dropStaging_drops (result : Nat) (hc : campOf s id = some c) (hst : c.st = .staging ∨ c.st = .staged) :
    campOf (dropStaging id result s) id = some (unstaged result c) ∧ ∀ x ∈ (dropStaging id result s).up.relay, x.man ≠ id := by
  have hstep := (campStep_updCamp (f := fun c => { c with result, chunkRx := none, parts := c.parts.map (fun p => partStart p.index) })
    (fun _ => rfl) id (stagingErased id c s)).trans (campStep_enterUp id .idle _)
  have hbase : campOf (stagingErased id c s) id = some c := by
    show (eraseStaged c s).up.camps.find? _ = _
    rw [eraseStaged_up]
    exact hc
  rw [dropStaging_some result hc hst]
  refine ⟨(campOf_congr (ringEnd_up _) id).trans (hstep.some hbase), fun x hx => ?_⟩
  rw [ringEnd_up, hstep.up] at hx
  simpa using (List.mem_filter.mp hx).2

theorem abortStaging_drops (result : Nat) (hc : campOf s id = some c) (hst : c.st = .staging ∨ c.st = .staged) :
    campOf (abortStaging id result s).1 id = some (unstaged result c) ∧ ∀ x ∈ (abortStaging id result s).1.up.relay, x.man ≠ id := by
  have hall : (chainAll c (u8 0x08 ++ u8 0 ++ zeros 2 ++ u64 0) s).1.up = s.up := frame_chainAll _ _ s .up (by decide)
  unfold abortStaging
  simp only [hc]
  exact dropStaging_drops result ((campOf_congr hall id).trans hc) hst

/-- A result of a module of the manifest, at the entry module. -/
structure StagedMsg (src : Fin 64) (data : Bytes) (c : Camp) (s : State) : Prop where
  msg : IsMsg 5 data s
  camp : campOf s (msgId data) = some c
  len : data.length = 12
  entry : c.entry = true
  node : rdN data 1 1 = src.val
  known : c.man.mods.any (fun e => e.1 == uidOfNode s src.val) = true

theorem staged_eq (h : StagedMsg src data c s) : exec (.staged src data) s = .next (if rdN data 2 1 = 0 then
    modState (msgId data) (uidOfNode s src.val) 3 (fun m => { m with result := 0, verified := m.stage }) s
    else (abortStaging (msgId data) (rdN data 2 1) (modState (msgId data) (uidOfNode s src.val) 1 (fun m => { m with result := rdN data 2 1 }) s)).1) := by
  obtain ⟨hmsg, hc, hlen, hentry, hnode, hknown⟩ := h
  refine congrArg Host.Outcome.next ((chainRow_msg hmsg).trans ?_)
  unfold msgId at hc
  unfold stagedMsg
  simp only [hc]
  exact if_pos (by simp only [hlen, hentry, hnode, hknown, decide_true, Bool.and_true])

theorem staged_ready (h : StagedMsg src data c s) (hok : rdN data 2 1 = 0) : ∃ t c', exec (.staged src data) s = .next t ∧ onlyIn (.up :: tells) s t ∧
    campOf t (msgId data) = some c' ∧ c'.st = c.st ∧
    c'.mods = c.mods.map (fun m => if m.uid = uidOfNode s src.val then { m with st := 3, result := 0, verified := m.stage } else m) := by
  have hexec := staged_eq h
  rw [if_pos hok] at hexec
  have hstep := campStep_modState (msgId data) (uidOfNode s src.val) 3 (fun m => { m with result := 0, verified := m.stage }) s
  exact ⟨_, _, hexec, hstep.frame, hstep.some h.camp, rfl, rfl⟩

theorem staged_fails (h : StagedMsg src data c s) (hbad : rdN data 2 1 ≠ 0) (hst : c.st = .staging ∨ c.st = .staged) :
    ∃ t c', exec (.staged src data) s = .next t ∧ onlyIn [.mb, .pf, .ev, .fb, .mc, .up, .out] s t ∧ campOf t (msgId data) = some c' ∧
      c'.st = .idle ∧ c'.result = rdN data 2 1 ∧ (∀ x ∈ t.up.relay, x.man ≠ msgId data) := by
  have hexec := staged_eq h
  rw [if_neg hbad] at hexec
  have hstep := campStep_modState (msgId data) (uidOfNode s src.val) 1 (fun m => { m with result := rdN data 2 1 }) s
  obtain ⟨hcamp, hrelay⟩ := abortStaging_drops (rdN data 2 1) (hstep.some h.camp) hst
  exact ⟨_, _, hexec, frame_execStaged src data s _ hexec, hcamp, rfl, rfl, hrelay⟩

end Sys2Proof.Proofs
end
section
/-!
PROOFS. The chunks of a staging (R344, R349, R350), and O50.
-/

namespace Sys2Proof.Proofs

open Sys2Proof.Machine Sys2Proof.Safety

variable {s : State} {id k n : Nat} {c : Camp} {p : UpPart} {q : PartProg} {src : Fin 64} {data d : Bytes}

/-! ### A chunk that is taken (R350) -/

/-- A camp with a part's progress changed. -/
def withPart (k : Nat) (f : PartProg → PartProg) (c : Camp) : Camp := { c with parts := updAt c.parts k f }

theorem campOf_updPart (f : PartProg → PartProg) (id k : Nat) (s : State) : campOf (updPart id k f s) id = (campOf s id).map (withPart k f) :=
  campOf_updCamp (f := withPart k f) (fun _ => rfl) id s

/-- The chunk in its slot, where the part is this module's own. -/
def chunkStored (id : Nat) (p : UpPart) (d : Bytes) (c : Camp) (s : State) : State :=
  if isOwn c p then updSlot p.type (inactive s p.type) (fun o => match o with
    | some x => some { x with data := x.data ++ d }
    | none => some ⟨p.version, id, d⟩) s else s

/-- The chunk in the ring, where the part goes on. -/
def chunkKept (id k : Nat) (p : UpPart) (n : Nat) (d : Bytes) (c : Camp) (s : State) : State :=
  if forwards s c p then updUp (fun u => { u with relay := u.relay ++ [⟨id, k, n, d, false⟩] }) (chunkStored id p d c s) else chunkStored id p d c s

theorem chunkStored_up (id : Nat) (p : UpPart) (d : Bytes) (c : Camp) (s : State) : onlyIn [.up] s (chunkStored id p d c s) ∧
    (chunkStored id p d c s).up = { s.up with slots := (chunkStored id p d c s).up.slots } := by
  unfold chunkStored
  split
  · exact ⟨onlyIn_put_up _ s, rfl⟩
  · exact ⟨onlyIn_refl _ _, rfl⟩

theorem chunkKept_up (id k : Nat) (p : UpPart) (n : Nat) (d : Bytes) (c : Camp) (s : State) : onlyIn [.up] s (chunkKept id k p n d c s) ∧
    (chunkKept id k p n d c s).up = { s.up with slots := (chunkKept id k p n d c s).up.slots, relay := (chunkKept id k p n d c s).up.relay } ∧
    (forwards s c p = true → (chunkKept id k p n d c s).up.relay = s.up.relay ++ [⟨id, k, n, d, false⟩]) := by
  obtain ⟨hframe, hup⟩ := chunkStored_up id p d c s
  have hrelay : (chunkStored id p d c s).up.relay = s.up.relay := by rw [hup]
  unfold chunkKept
  generalize chunkStored id p d c s = t at *
  split
  · exact ⟨onlyIn_step (onlyIn_put_up _ t) rfl hframe, by rw [updUp_up, hup], fun _ => by rw [updUp_up, hrelay]⟩
  · next hno => exact ⟨hframe, by rw [hup], fun h => absurd h hno⟩

/-- Progress after a chunk that was accepted, and after one that was not. -/
def accepts (n : Nat) (q : PartProg) : PartProg := { q with accepted := n + 1, fails := 0 }
def fails (f : Nat) (q : PartProg) : PartProg := { q with fails := f, failed := decide (3 ≤ f) }

theorem takeChunk_accepts (hc : campOf s id = some c) (hok : tagOk s p n d = true) (hmore : n + 1 ≠ p.chunks) :
    takeChunk id k p n d s = (updPart id k (accepts n) (chunkKept id k p n d c s), true) := by
  unfold takeChunk
  simp only [hc, hok, if_true]
  rw [if_neg hmore]
  rfl

theorem takeChunk_fails (hc : campOf s id = some c) (hq : c.parts[k]? = some q) (hbad : tagOk s p n d = false) (hfew : q.fails + 1 < 3) :
    takeChunk id k p n d s = (updPart id k (fails (q.fails + 1)) s, false) := by
  unfold takeChunk
  simp only [hc, hbad, hq, Option.map_some, Option.getD_some]
  rw [if_neg (by decide), if_neg (by omega)]
  rfl

theorem withPart_some (f : PartProg → PartProg) (hq : c.parts[k]? = some q) : (withPart k f c).parts[k]? = some (f q) := by
  simp [withPart, updAt, hq]

/-! ### CHUNK (R349, R350) -/

/-- The part, the chunk, the offset and the bytes of a CHUNK frame. -/
def chunkPart (data : Bytes) : Nat := rdN data 1 1
def chunkNo (data : Bytes) : Nat := rdN data 4 4
def chunkOff (data : Bytes) : Nat := rdN data 8 4
def chunkBody (data : Bytes) : Bytes := slice data 12 (data.length - 20)

/-- The bytes held of the chunk. -/
def chunkGot (c : Camp) (k n : Nat) : Bytes :=
  match c.chunkRx with
  | some (a, b, d) => if a = k ∧ b = n then d else []
  | none => []

/-- A CHUNK frame from the predecessor, for a part of a manifest in staging. -/
structure ChunkMsg (src : Fin 64) (data : Bytes) (c : Camp) (p : UpPart) (q : PartProg) (s : State) : Prop where
  msg : IsMsg 2 data s
  camp : campOf s (msgId data) = some c
  part : c.man.parts[chunkPart data]? = some p
  prog : c.parts[chunkPart data]? = some q
  entry : c.entry = false
  pred : c.pred = src.val
  st : c.st ≠ .idle
  long : 20 < data.length
  short : data.length ≤ 1460

theorem ChunkMsg.bodyLen (h : ChunkMsg src data c p q s) : (chunkBody data).length ≤ 1440 := by
  have hshort := h.short
  unfold chunkBody slice
  rw [List.length_take]
  omega

theorem chunk_eq (h : ChunkMsg src data c p q s) : exec (.chunk src data) s = .next (
    if chunkNo data < q.accepted then
      if chunkOff data + (chunkBody data).length = chunkLen p (chunkNo data) then ackPred c 0x03 (chunkPart data) (q.accepted - 1) s else s
    else if chunkNo data = q.accepted ∧ chunkOff data = (chunkGot c (chunkPart data) (chunkNo data)).length ∧
        chunkOff data + (chunkBody data).length ≤ chunkLen p (chunkNo data) then
      if chunkOff data + (chunkBody data).length = chunkLen p (chunkNo data) then
        chunkWhole c (chunkPart data) p (chunkNo data) (chunkGot c (chunkPart data) (chunkNo data) ++ chunkBody data) s
      else updCamp (msgId data) (fun x => { x with chunkRx := some (chunkPart data, chunkNo data,
        chunkGot c (chunkPart data) (chunkNo data) ++ chunkBody data) }) s
    else if chunkNo data = q.accepted ∧ chunkOff data = 0 then
      updCamp (msgId data) (fun x => { x with chunkRx := some (chunkPart data, chunkNo data, chunkBody data) }) s
    else ackPred c 0x04 (chunkPart data) q.accepted (updCamp (msgId data) (fun x => { x with chunkRx := none }) s)) := by
  have hbody := h.bodyLen
  obtain ⟨hmsg, hc, hp, hq, hentry, hpred, hst, hlong, hshort⟩ := h
  refine congrArg Host.Outcome.next ((chainRow_msg hmsg).trans ?_)
  unfold msgId at hc
  unfold chunkPart at hp hq
  unfold chunkBody at hbody
  unfold chunkMsg
  simp only [hc, hp, hq]
  rw [if_neg (by simp [hentry, hpred, hst, Nat.not_le.mpr hlong, Nat.not_lt.mpr hbody])]
  have hgot (a b : Nat) (d : Bytes) : (if (decide (a = rdN data 1 1) && decide (b = rdN data 4 4)) = true then d else []) =
      if a = chunkPart data ∧ b = chunkNo data then d else [] := if_congr (by simp [chunkPart, chunkNo]) rfl rfl
  unfold chunkGot
  have hzero : (decide (rdN data 4 4 = q.accepted) && decide (rdN data 8 4 = 0)) = true ↔ chunkNo data = q.accepted ∧ chunkOff data = 0 := by
    simp [chunkNo, chunkOff]
  cases c.chunkRx with
  | none => exact if_congr Iff.rfl rfl (if_congr (by simp [chunkNo, chunkOff, chunkBody, and_assoc]) rfl (if_congr hzero rfl rfl))
  | some x =>
    simp only [hgot]
    exact if_congr Iff.rfl rfl (if_congr (by simp only [Bool.and_eq_true, decide_eq_true_eq, and_assoc]; exact Iff.rfl) rfl (if_congr hzero rfl rfl))

theorem chunk_again (h : ChunkMsg src data c p q s) (hn : chunkNo data < q.accepted)
    (hlen : chunkOff data + (chunkBody data).length = chunkLen p (chunkNo data)) :
    exec (.chunk src data) s = .next (ackPred c 3 (chunkPart data) (q.accepted - 1) s) := by
  rw [chunk_eq h, if_pos hn, if_pos hlen]

theorem campOf_setRx (rx : Option (Nat × Nat × Bytes)) (hc : campOf s id = some c) :
    campOf (updCamp id (fun x => { x with chunkRx := rx }) s) id = some { c with chunkRx := rx } := by
  have h := campOf_updCamp (f := fun x => { x with chunkRx := rx }) (fun _ => rfl) id s
  rw [hc] at h
  exact h

theorem chunk_joins (h : ChunkMsg src data c p q s) (hn : chunkNo data = q.accepted)
    (hoff : chunkOff data = (chunkGot c (chunkPart data) (chunkNo data)).length)
    (hlen : chunkOff data + (chunkBody data).length < chunkLen p (chunkNo data)) :
    ∃ t c', exec (.chunk src data) s = .next t ∧ onlyIn [.up] s t ∧ campOf t (msgId data) = some c' ∧
      c' = { c with chunkRx := some (chunkPart data, chunkNo data, chunkGot c (chunkPart data) (chunkNo data) ++ chunkBody data) } := by
  have hexec := chunk_eq h
  rw [if_neg (by omega), if_pos ⟨hn, hoff, by omega⟩, if_neg (by omega)] at hexec
  exact ⟨_, _, hexec, onlyIn_put_up _ s, campOf_setRx _ h.camp, rfl⟩

theorem chunk_gap (h : ChunkMsg src data c p q s) (hn : q.accepted < chunkNo data) :
    ∃ t, exec (.chunk src data) s = .next (ackPred c 4 (chunkPart data) q.accepted t) ∧ onlyIn [.up] s t ∧
      campOf t (msgId data) = some { c with chunkRx := none } := by
  have hexec := chunk_eq h
  rw [if_neg (by omega), if_neg (by omega), if_neg (by omega)] at hexec
  exact ⟨_, hexec, onlyIn_put_up _ s, campOf_setRx _ h.camp⟩

/-- The state in which a whole chunk is judged: nothing is held of it any more. -/
def chunkDue (id : Nat) (s : State) : State := updCamp id (fun x => { x with chunkRx := none }) s

/-- The camp in it. -/
def campDue (c : Camp) : Camp := { c with chunkRx := none }

theorem campOf_chunkDue (hc : campOf s id = some c) : campOf (chunkDue id s) id = some (campDue c) := campOf_setRx none hc

theorem tagOk_chunkDue (id : Nat) (p : UpPart) (n : Nat) (d : Bytes) (s : State) : tagOk (chunkDue id s) p n d = tagOk s p n d := rfl

theorem forwards_chunkDue (id : Nat) (c : Camp) (p : UpPart) (s : State) : forwards (chunkDue id s) (campDue c) p = forwards s c p := rfl

theorem ackPred_up (c : Camp) (kind k n : Nat) (s : State) : onlyIn [.fb] s (ackPred c kind k n s) ∧ (ackPred c kind k n s).up = s.up :=
  ⟨frame_ackPred c kind k n s, frame_ackPred c kind k n s .up (by decide)⟩

/-- What a whole chunk that has been taken leaves. -/
theorem chunkWhole_eq (hroom : ringRoom s c p = true) {t : State} {b : Bool} {c' : Camp}
    (htake : takeChunk c.man.id k p n d (chunkDue c.man.id s) = (t, b)) (hc' : campOf t c.man.id = some c') (hq : c'.parts[k]? = some q) :
    chunkWhole c k p n d s = if b && q.accepted = n + 1 then ackPred c 0x03 k n t else ackPred c 0x04 k q.accepted t := by
  unfold chunkDue at htake
  unfold chunkWhole
  simp only [hroom, htake, hc', Option.bind_some, hq]
  rfl

theorem chunk_whole (h : ChunkMsg src data c p q s) (hn : chunkNo data = q.accepted)
    (hoff : chunkOff data = (chunkGot c (chunkPart data) (chunkNo data)).length)
    (hlen : chunkOff data + (chunkBody data).length = chunkLen p (chunkNo data)) (hroom : ringRoom s c p = true)
    (hmore : chunkNo data + 1 < p.chunks) (hfew : q.fails + 1 < 3) :
    ∃ t c' q', exec (.chunk src data) s = .next t ∧ onlyIn [.fb, .up] s t ∧ campOf t (msgId data) = some c' ∧ c'.chunkRx = none ∧
      c'.parts[chunkPart data]? = some q' ∧
      (tagOk s p (chunkNo data) (chunkGot c (chunkPart data) (chunkNo data) ++ chunkBody data) = true → q'.accepted = chunkNo data + 1 ∧ q'.fails = 0 ∧
        (forwards s c p = true → t.up.relay = s.up.relay ++
          [⟨msgId data, chunkPart data, chunkNo data, chunkGot c (chunkPart data) (chunkNo data) ++ chunkBody data, false⟩])) ∧
      (tagOk s p (chunkNo data) (chunkGot c (chunkPart data) (chunkNo data) ++ chunkBody data) = false →
        q'.accepted = chunkNo data ∧ q'.fails = q.fails + 1 ∧ t.up.relay = s.up.relay) := by
  have hexec := chunk_eq h
  rw [if_neg (by omega), if_pos ⟨hn, hoff, by omega⟩, if_pos hlen] at hexec
  have hid := campOf_id h.camp
  have hc : campOf s c.man.id = some c := by rw [hid]; exact h.camp
  have hdue := campOf_chunkDue hc
  have hframe : onlyIn [.up] s (chunkDue c.man.id s) := onlyIn_put_up _ s
  rw [← hid]
  generalize chunkGot c (chunkPart data) (chunkNo data) ++ chunkBody data = d at hexec
  cases htag : tagOk s p (chunkNo data) d with
  | true =>
    have htake := takeChunk_accepts (k := chunkPart data) hdue ((tagOk_chunkDue _ _ _ _ _).trans htag) (by omega)
    obtain ⟨hkframe, hkup, hkrelay⟩ := chunkKept_up c.man.id (chunkPart data) p (chunkNo data) d (campDue c) (chunkDue c.man.id s)
    generalize chunkKept c.man.id (chunkPart data) p (chunkNo data) d (campDue c) (chunkDue c.man.id s) = u at *
    have hcu : campOf u c.man.id = some (campDue c) := by
      rw [campOf, hkup]
      exact hdue
    have hct : campOf (updPart c.man.id (chunkPart data) (accepts (chunkNo data)) u) c.man.id = some (withPart (chunkPart data) (accepts (chunkNo data)) (campDue c)) := by
      rw [campOf_updPart, hcu]
      rfl
    have hqt := withPart_some (c := campDue c) (accepts (chunkNo data)) h.prog
    rw [chunkWhole_eq hroom htake hct hqt, if_pos (by simp [accepts])] at hexec
    obtain ⟨haframe, haup⟩ := ackPred_up c 0x03 (chunkPart data) (chunkNo data) (updPart c.man.id (chunkPart data) (accepts (chunkNo data)) u)
    refine ⟨_, _, _, hexec, onlyIn_step haframe rfl (onlyIn_mono (onlyIn_step (onlyIn_put_up _ u) rfl (onlyIn_step hkframe rfl hframe)) rfl),
      (campOf_congr haup _).trans hct, rfl, hqt, fun _ => ⟨rfl, rfl, fun hf => ?_⟩, fun hf => absurd hf (by decide)⟩
    rw [haup]
    exact hkrelay hf
  | false =>
    have htake := takeChunk_fails (p := p) (n := chunkNo data) (d := d) hdue h.prog ((tagOk_chunkDue _ _ _ _ _).trans htag) hfew
    have hct : campOf (updPart c.man.id (chunkPart data) (fails (q.fails + 1)) (chunkDue c.man.id s)) c.man.id =
        some (withPart (chunkPart data) (fails (q.fails + 1)) (campDue c)) := by
      rw [campOf_updPart, hdue]
      rfl
    have hqt := withPart_some (c := campDue c) (fails (q.fails + 1)) h.prog
    rw [chunkWhole_eq hroom htake hct hqt, if_neg (by simp)] at hexec
    obtain ⟨haframe, haup⟩ := ackPred_up c 0x04 (chunkPart data) (fails (q.fails + 1) q).accepted
      (updPart c.man.id (chunkPart data) (fails (q.fails + 1)) (chunkDue c.man.id s))
    refine ⟨_, _, _, hexec, onlyIn_step haframe rfl (onlyIn_mono (onlyIn_step (onlyIn_put_up _ (chunkDue c.man.id s)) rfl hframe) rfl),
      (campOf_congr haup _).trans hct, rfl, hqt, fun ht => absurd ht (by decide), fun _ => ⟨hn.symm, rfl, ?_⟩⟩
    rw [haup]
    rfl

/-- Settles O50: motion, supply, manifest, chunks and their answers, each by the lemma about its message. -/
theorem stagingRunsAlongTheChain : Obligations.StagingRunsAlongTheChain := by
  intro src data s id rows is
  refine ⟨chainRows_other src data s, fun h h1 h3 hlen hz => ⟨fun hmem => (motion_eq h h1 h3 hlen hz).trans (congrArg Host.Outcome.next (if_pos hmem)),
      fun hmem => (motion_eq h h1 h3 hlen hz).trans (congrArg Host.Outcome.next (if_neg hmem))⟩,
    motionSend_sends, motionSend_waits, fun mv ms => ⟨supplyConditionChange_falls, supplyConditionChange_rises, supplyConditionChange_stays⟩,
    manifest_refused, fun h hlen hz hrun hfresh hstart => ⟨manifest_keeps ⟨h, hlen, hz, hrun, hfresh, hstart⟩,
      fun e h36 hall he => manifest_judged ⟨h, hlen, hz, hrun, hfresh, hstart⟩ h36 hall he⟩,
    ?_,
    fun c h hc hlen hsucc => ack_frees h hc hlen hsucc, fun c h hc hlen hsucc => nack_resends h hc hlen hsucc,
    fun c hc hsucc => ⟨fun h => ack_other h hc hsucc, fun h => nack_other h hc hsucc⟩,
    fun c h hc hlen hentry hnode hknown => ⟨staged_ready ⟨h, hc, hlen, hentry, hnode, hknown⟩, staged_fails ⟨h, hc, hlen, hentry, hnode, hknown⟩⟩,
    chunkForward_waits, fun r c u hup hr hc hu => chunkForward_sends hup hr hc hu⟩
  intro c p q k n off body got h hc hp hq hentry hpred hst hlong hshort
  have hmsg : ChunkMsg src data c p q s := ⟨h, hc, hp, hq, hentry, hpred, hst, hlong, hshort⟩
  exact ⟨chunk_again hmsg, chunk_joins hmsg, chunk_gap hmsg, chunk_whole hmsg⟩

end Sys2Proof.Proofs
end
section
/-!
PROOFS. Rennet's steps on the commit record and on what is known of a manifest (R351 to R359), for O51.
-/

namespace Sys2Proof.Proofs

open Sys2Proof.Machine Sys2Proof.Safety

variable {s : State} {id : Nat} {c : Camp}

/-! ### Steps on the commit record and one camp -/

/-- `t` is `s` after telling and sending, with the camp `id` changed by `g`, the commit record by `k`, and nothing else of the update changed. -/
structure ChainStep (id : Nat) (g : Camp → Camp) (k : CommitRec → CommitRec) (s t : State) : Prop where
  frame : onlyIn (.fb :: .up :: tells) s t
  up : t.up = { s.up with camps := t.up.camps, commit := k s.up.commit }
  camp : campOf t id = (campOf s id).map g

theorem ChainStep.trans {g g' : Camp → Camp} {k k' : CommitRec → CommitRec} {s t u : State} (h : ChainStep id g k s t) (h' : ChainStep id g' k' t u) :
    ChainStep id (g' ∘ g) (k' ∘ k) s u where
  frame := onlyIn_step h'.frame rfl h.frame
  up := by
    rw [h'.up, h.up]
    rfl
  camp := by rw [h'.camp, h.camp, Option.map_map]

theorem ChainStep.some {g : Camp → Camp} {k : CommitRec → CommitRec} {t : State} (h : ChainStep id g k s t) (hc : campOf s id = some c) :
    campOf t id = some (g c) := by
  rw [h.camp, hc]
  rfl

theorem ChainStep.commit {g : Camp → Camp} {k : CommitRec → CommitRec} {t : State} (h : ChainStep id g k s t) : t.up.commit = k s.up.commit := by
  rw [h.up]

theorem CampStep.chain {g : Camp → Camp} {t : State} (h : CampStep id g s t) : ChainStep id g (fun r => r) s t :=
  ⟨onlyIn_mono h.frame rfl, h.up, h.camp⟩

theorem ChainStep.refl (id : Nat) (s : State) : ChainStep id (fun c => c) (fun r => r) s s :=
  ⟨onlyIn_refl _ _, rfl, Option.map_id'.symm⟩

/-- Telling and sending leave the update as it is. -/
theorem chainStep_quiet {t : State} (id : Nat) (h : onlyIn (.fb :: tells) s t) : ChainStep id (fun c => c) (fun r => r) s t := by
  have hup : t.up = s.up := h .up (by decide)
  exact ⟨onlyIn_mono h rfl, by rw [hup], (campOf_congr hup id).trans Option.map_id'.symm⟩

theorem chainStep_told {t : State} (id : Nat) (h : Told s t) : ChainStep id (fun c => c) (fun r => r) s t := chainStep_quiet id (onlyIn_mono h.frame rfl)

theorem chainStep_chainSend (id id' u : Nat) (body : Bytes) (s : State) : ChainStep id (fun c => c) (fun r => r) s (chainSend id' u body s).1 :=
  chainStep_quiet id (onlyIn_mono (frame_chainSend id' u body s) rfl)

theorem chainStep_resolve (id : Nat) (p : WaitFor → Bool) (status : Nat) (body : Bytes) (s : State) :
    ChainStep id (fun c => c) (fun r => r) s (resolve p status body s) :=
  chainStep_quiet id (onlyIn_mono (frame_resolve p status body s) rfl)

theorem chainStep_updCamp {f : Camp → Camp} (hf : ∀ c, (f c).man = c.man) (id : Nat) (s : State) : ChainStep id f (fun r => r) s (updCamp id f s) :=
  (campStep_updCamp hf id s).chain

theorem chainStep_enterUp (id : Nat) (st : UpSt) (s : State) : ChainStep id (entered st) (fun r => r) s (enterUp id st s) := (campStep_enterUp id st s).chain

/-- The commit record with the next generation. -/
def nextGen (f : CommitRec → CommitRec) (r : CommitRec) : CommitRec := f { r with gen := wrapU 32 (r.gen + 1) }

theorem chainStep_writeCommit (id : Nat) (f : CommitRec → CommitRec) (s : State) : ChainStep id (fun c => c) (nextGen f) s (writeCommit f s) :=
  ⟨onlyIn_mono (onlyIn_put_up _ s) rfl, rfl, Option.map_id'.symm⟩

theorem chainStep_commitTo (id : Nat) (st : CommitSt) (s : State) : ChainStep id (fun c => c) (nextGen (fun r => { r with st })) s (commitTo st s) :=
  chainStep_writeCommit id _ s

/-! ### Decisions that a participant takes up (R351) -/

theorem chainStep_takeAbort (id : Nat) (s : State) : ChainStep id (entered .staged) (nextGen (fun r => { r with st := .aborted })) s (takeAbort id s) :=
  ((chainStep_commitTo id .aborted s).trans (chainStep_told id (told_happen detRennetAbort 0 0 _))).trans (chainStep_enterUp id .staged _)

/-- A PREPARED module that has learnt COMMIT, before its swap. -/
def committed (id : Nat) (s : State) : State := enterUp id .committing (commitTo .committing s)

theorem chainStep_committed (id : Nat) (s : State) : ChainStep id (entered .committing) (nextGen (fun r => { r with st := .committing })) s (committed id s) :=
  (chainStep_commitTo id .committing s).trans (chainStep_enterUp id .committing _)

/-! ### Votes (R341, R352) -/

theorem forcedRefusal_none (hinj : s.ev.injs = []) : forcedRefusal s = none := by simp [forcedRefusal, injFor, hinj]

/-- Why a module votes NO: the reason of Table 13-6, 0 for YES. -/
def voteReason (c : Camp) (s : State) : Nat :=
  if c.st ≠ .staged ∨ commitHeld s = true then 4 else if stationary s = false ∧ inRecovery s = false then 1
  else if s.up.supplyOk = false then 2 else if ownerBars 0 s = true then 3 else if fnsIdle s = false ∨ enablePending s = true then 5 else 0

theorem voteAgainst_reason (hc : campOf s id = some c) (hinj : s.ev.injs = []) :
    voteAgainst id 0 s = if voteReason c s = 0 then none else some (voteReason c s) := by
  unfold voteAgainst voteReason
  simp only [hc]
  by_cases h4 : c.st ≠ .staged ∨ commitHeld s = true
  · rw [if_pos (by simpa using h4), if_pos h4]
    rfl
  rw [if_neg (by simpa using h4), if_neg h4]
  by_cases h1 : stationary s = false ∧ inRecovery s = false
  · rw [if_pos (by simpa using h1), if_pos h1]
    rfl
  rw [if_neg (by simpa using h1), if_neg h1]
  by_cases h2 : s.up.supplyOk = false
  · rw [if_pos (by simpa using h2), if_pos h2]
    rfl
  rw [if_neg (by simpa using h2), if_neg h2]
  by_cases h3 : ownerBars 0 s = true
  · rw [if_pos h3, if_pos h3]
    rfl
  rw [if_neg h3, if_neg h3]
  by_cases h5 : fnsIdle s = false ∨ enablePending s = true
  · rw [if_pos (by simpa using h5), if_pos h5]
    rfl
  rw [if_neg (by simpa using h5), if_neg h5]
  exact forcedRefusal_none hinj

/-- The commit record of a module that has voted YES. -/
def preparedRec (id frame leaderUid : Nat) (c : Camp) (s : State) : CommitRec :=
  ⟨id, .prepared, leaderUid == uid, wrapU 32 (s.up.commit.gen + 1), frame, leaderUid, swapMap s c.man, s.up.active, c.man.sec⟩

/-- What a vote leaves. -/
structure Voted (id target leaderUid : Nat) (c : Camp) (s : State) (r : State × Option Nat) : Prop where
  reason : r.2 = if voteReason c s = 0 then none else some (voteReason c s)
  frame : onlyIn (.fb :: .up :: tells) s r.1
  yes : voteReason c s = 0 → r.1.up.commit = preparedRec id target leaderUid c s ∧ ∃ c', campOf r.1 id = some c' ∧ c'.st = .prepared ∧ c'.frame = target
  no : voteReason c s ≠ 0 → r.1.up.commit = s.up.commit ∧ ∃ c', campOf r.1 id = some c' ∧ c'.st = c.st
  queues : voteReason c s = 0 ∨ 3 < voteReason c s → r.1.ev.snapq = s.ev.snapq ∧ r.1.ev.fixq = s.ev.fixq

theorem castVote_voted (frame leaderUid : Nat) (hc : campOf s id = some c) (hinj : s.ev.injs = []) :
    Voted id frame leaderUid c s (castVote id 0 frame leaderUid s) := by
  have hwhy := voteAgainst_reason hc hinj
  by_cases h0 : voteReason c s = 0
  · rw [if_pos h0] at hwhy
    have hcast : castVote id 0 frame leaderUid s = (enterUp id .prepared (updCamp id (fun x => { x with frame }) (writeCommit (fun r =>
        { r with id, st := .prepared, leader := leaderUid == uid, frame, leaderUid, slotMap := swapMap s c.man, oldMap := s.up.active,
                 sec := c.man.sec }) s)), none) := by
      unfold castVote
      simp only [hwhy, hc]
    have hcamp := (campStep_updCamp (f := fun x => { x with frame }) (fun _ => rfl) id (writeCommit (fun r =>
        { r with id, st := .prepared, leader := leaderUid == uid, frame, leaderUid, slotMap := swapMap s c.man, oldMap := s.up.active,
                 sec := c.man.sec }) s)).trans (campStep_enterUp id .prepared _)
    have hstep := (chainStep_writeCommit id (fun r =>
        { r with id, st := .prepared, leader := leaderUid == uid, frame, leaderUid, slotMap := swapMap s c.man, oldMap := s.up.active,
                 sec := c.man.sec }) s).trans hcamp.chain
    have hev := hcamp.ev hinj
    rw [hcast]
    exact ⟨(if_pos h0).symm, hstep.frame, fun _ => ⟨hstep.commit, _, hstep.some hc, rfl, rfl⟩, fun h => absurd h0 h, fun _ => by rw [hev]; exact ⟨rfl, rfl⟩⟩
  · rw [if_neg h0] at hwhy
    have hcast : castVote id 0 frame leaderUid s = (if voteReason c s ≤ 3 then happen detUpdateRefused 0 (voteReason c s) s else s, some (voteReason c s)) := by
      unfold castVote
      simp only [hwhy, forcedRefusal_none hinj, Option.isSome_none, Bool.or_false, decide_eq_true_eq]
    have htold : Told s (if voteReason c s ≤ 3 then happen detUpdateRefused 0 (voteReason c s) s else s) := told_ite (told_happen _ _ _ _) (.refl s)
    have hstep := chainStep_told id htold
    rw [hcast]
    refine ⟨(if_neg h0).symm, hstep.frame, fun h => absurd h h0, fun _ => ⟨hstep.commit, _, hstep.some hc, rfl⟩, fun h => ?_⟩
    rw [if_neg (by omega)]
    exact ⟨rfl, rfl⟩

/-! ### The leader's decision (R353) -/

/-- The decision as it is sent. -/
def decisionSent (now : Nat) (c : Camp) : Camp := { c with sentAt := now }

theorem chainStep_foldl {α : Type} {f : State → α → State} (hf : ∀ x a, ChainStep id (fun c => c) (fun r => r) x (f x a)) (l : List α) (s : State) :
    ChainStep id (fun c => c) (fun r => r) s (l.foldl f s) := by
  induction l generalizing s with
  | nil => exact .refl id s
  | cons a l ih => exact (hf s a).trans (ih _)

theorem chainStep_sendDecision {d : Bool} (hc : campOf s id = some c) (hd : c.decision = some d) :
    ChainStep id (decisionSent s.clk.ms) (fun r => r) s (sendDecision id s) := by
  unfold sendDecision
  simp only [hc, hd]
  exact (chainStep_updCamp (f := decisionSent s.clk.ms) (fun _ => rfl) id s).trans (chainStep_foldl (fun x u => chainStep_chainSend id id u _ x) _ _)

/-- The commit record of a leader that has decided ABORT. -/
def abortRec (id frame : Nat) (r : CommitRec) : CommitRec := { r with id, st := .aborted, leader := true, frame, leaderUid := uid }

/-- The state after the leader has written ABORTED and recorded it. -/
def abortWritten (id reason frame : Nat) (s : State) : State := happen detRennetAbort 0 reason (writeCommit (abortRec id frame) s)

/-- A camp with the decision ABORT. -/
def abortDecided (reason : Nat) (c : Camp) : Camp := { c with decision := some false, result := reason }

theorem chainStep_abortWritten (id reason frame : Nat) (s : State) : ChainStep id (fun c => c) (nextGen (abortRec id frame)) s
    (abortWritten id reason frame s) :=
  (chainStep_writeCommit id (abortRec id frame) s).trans (chainStep_told id (told_happen _ _ _ _))

/-- What a decision ABORT leaves. -/
structure AbortDecided (id reason : Nat) (s t : State) : Prop where
  frame : onlyIn (.fb :: .up :: tells) s t
  commit : t.up.commit.st = .aborted ∧ t.up.commit.id = id
  camp : ∃ c, campOf t id = some c ∧ c.decision = some false ∧ c.result = reason

theorem decideAbort_decides (node reason : Nat) (hc : campOf s id = some c) : AbortDecided id reason s (decideAbort id node reason s) := by
  have hwritten := (chainStep_abortWritten id reason c.frame s).trans (chainStep_updCamp (f := abortDecided reason) (fun _ => rfl) id _)
  have hstaged : ∃ g, ChainStep id g (fun r => r) (updCamp id (abortDecided reason) (abortWritten id reason c.frame s))
      (if (campOf (updCamp id (abortDecided reason) (abortWritten id reason c.frame s)) id).map Camp.st = some .prepared then
        enterUp id .staged (updCamp id (abortDecided reason) (abortWritten id reason c.frame s))
      else updCamp id (abortDecided reason) (abortWritten id reason c.frame s)) ∧ ∀ x, (g x).decision = x.decision ∧ (g x).result = x.result := by
    split
    · exact ⟨_, chainStep_enterUp id .staged _, fun _ => ⟨rfl, rfl⟩⟩
    · exact ⟨_, .refl id _, fun _ => ⟨rfl, rfl⟩⟩
  obtain ⟨g, hstep, hg⟩ := hstaged
  have hfirst := hwritten.trans hstep
  have hcamp := hfirst.some hc
  have hdec := (hg (abortDecided reason c)).1
  have hall := (hfirst.trans (chainStep_sendDecision hcamp hdec)).trans
    (chainStep_resolve id (fun w => w == .activate) stRefusedState (activateReply c.frame 2 node reason) _)
  have hsame : decideAbort id node reason s = resolve (fun w => w == .activate) stRefusedState (activateReply c.frame 2 node reason) (sendDecision id
      (if (campOf (updCamp id (abortDecided reason) (abortWritten id reason c.frame s)) id).map Camp.st = some .prepared then
        enterUp id .staged (updCamp id (abortDecided reason) (abortWritten id reason c.frame s))
      else updCamp id (abortDecided reason) (abortWritten id reason c.frame s))) := by
    unfold decideAbort
    rw [hc]
    rfl
  rw [hsame]
  exact ⟨hall.frame, by rw [hall.commit]; exact ⟨rfl, rfl⟩, _, hall.some hc, hdec, (hg (abortDecided reason c)).2⟩

/-- What a decision COMMIT leaves. -/
structure CommitDecided (id : Nat) (s t : State) : Prop where
  frame : onlyIn (.fb :: .up :: tells) s t
  commit : t.up.commit.st = .decided
  camp : ∃ c, campOf t id = some c ∧ c.decision = some true ∧ c.st = .committing

/-- A camp with the decision COMMIT. -/
def commitDecided (c : Camp) : Camp := { c with decision := some true }

theorem decideCommit_decides (hc : campOf s id = some c) : CommitDecided id s (decideCommit id s) := by
  have hfirst := ((chainStep_commitTo id .decided s).trans (chainStep_updCamp (f := commitDecided) (fun _ => rfl) id _)).trans (chainStep_enterUp id .committing _)
  have hall := (hfirst.trans (chainStep_sendDecision (hfirst.some hc) rfl)).trans
    (chainStep_resolve id (fun w => w == .activate) stOk (activateReply s.up.commit.frame 1 0 0) _)
  exact ⟨hall.frame, congrArg CommitRec.st hall.commit, _, hall.some hc, rfl, rfl⟩

end Sys2Proof.Proofs
end
section
/-!
PROOFS. Confirmation, fall-back and swap, and the timers of Rennet (R353 to R359), for O51.
-/

namespace Sys2Proof.Proofs

open Sys2Proof.Machine Sys2Proof.Safety

variable {s : State} {id : Nat} {c : Camp}

/-! ### Confirmation and fall-back (R357, R359) -/

/-- The state in which a module has confirmed and its minimum security version has risen. -/
def confirmWritten (s : State) : State :=
  { s with up := { s.up with secMin := max s.up.secMin s.up.commit.sec, old := none, commit := nextGen (fun r => { r with st := .confirmed }) s.up.commit } }

theorem confirmSelf_eq (s : State) : confirmSelf s = enterUp s.up.commit.id .idle (updMod s.up.commit.id uid (fun m => { m with confirmed := true })
    (updCamp s.up.commit.id (fun c => { c with result := 0 }) (rawEvent evUpdateConfirmed 0 0 (confirmWritten s)))) := rfl

theorem confirmSelf_up (s : State) : onlyIn (.fb :: .up :: tells) s (confirmSelf s) ∧
    (confirmSelf s).up = { (confirmWritten s).up with camps := (confirmSelf s).up.camps } := by
  have hstep := (((chainStep_told s.up.commit.id (told_rawEvent evUpdateConfirmed 0 0 (confirmWritten s))).trans
    (chainStep_updCamp (f := fun c => { c with result := 0 }) (fun _ => rfl) s.up.commit.id _)).trans
    (campStep_updMod s.up.commit.id uid (fun m => { m with confirmed := true }) _).chain).trans (chainStep_enterUp s.up.commit.id .idle _)
  have hup := hstep.up
  exact ⟨onlyIn_mono (frame_confirmSelf s) rfl, hup⟩

/-- The update but for what a fall-back may change before its slots are switched back. -/
structure FallStep (s t : State) : Prop where
  commit : t.up.commit = s.up.commit
  active : t.up.active = s.up.active

theorem FallStep.trans {s t u : State} (h : FallStep s t) (h' : FallStep t u) : FallStep s u := ⟨h'.commit.trans h.commit, h'.active.trans h.active⟩

theorem fallStep_same {s t : State} (h : t.up = s.up) : FallStep s t := ⟨congrArg Update.commit h, congrArg Update.active h⟩

theorem fallStep_foldl {α : Type} {f : State → α → State} (hf : ∀ x a, FallStep x (f x a)) (l : List α) (s : State) : FallStep s (l.foldl f s) := by
  induction l generalizing s with
  | nil => exact ⟨rfl, rfl⟩
  | cons a l ih => exact (hf s a).trans (ih _)

/-- One module is told of a fall-back. -/
def tellOne (id : Nat) (s : State) (u : Nat) : State :=
  if (chainSend id u (u8 0x0B ++ u8 2 ++ zeros 2) s).2 then
    updUp (fun x => { x with toTell := x.toTell.filter (fun v => v != u) }) (chainSend id u (u8 0x0B ++ u8 2 ++ zeros 2) s).1 else s

theorem fallStep_tellOne (id : Nat) (s : State) (u : Nat) : FallStep s (tellOne id s u) := by
  unfold tellOne
  split
  · exact (fallStep_same (chainSend_up id u (u8 0x0B ++ u8 2 ++ zeros 2) s)).trans ⟨rfl, rfl⟩
  · exact ⟨rfl, rfl⟩

theorem fallStep_tellFallBack (s : State) : FallStep s (tellFallBack s) := fallStep_foldl (fallStep_tellOne s.up.commit.id) s.up.toTell s

theorem fallStep_updSlot (t k : Nat) (f : Option ImageSlot → Option ImageSlot) (s : State) : FallStep s (updSlot t k f s) := ⟨rfl, rfl⟩

theorem fallStep_eraseNew (s : State) : FallStep s (eraseNew s) := fallStep_foldl (fun x _ => fallStep_updSlot _ _ _ x) _ s

theorem restoreOld_up (s : State) : FallStep s (restoreOld s) ∧ (restoreOld s).up.old = none := by
  unfold restoreOld
  split
  · next h => exact ⟨⟨rfl, rfl⟩, h⟩
  · exact ⟨⟨rfl, rfl⟩, rfl⟩

/-- The state in which a fall-back is told to the other modules. -/
def fallTold (s : State) : State :=
  match campOf (commitTo .fallenBack s) s.up.commit.id with
  | some c => tellFallBack (updUp (fun u => { u with toTell := (modUids c.man).filter (fun u => u != uid) }) (commitTo .fallenBack s))
  | none => commitTo .fallenBack s

theorem fallStep_fallTold (s : State) : FallStep (commitTo .fallenBack s) (fallTold s) := by
  unfold fallTold
  split
  · refine FallStep.trans ?_ (fallStep_tellFallBack _)
    exact ⟨rfl, rfl⟩
  · exact ⟨rfl, rfl⟩

/-- The state in which the new images are gone, the old copies are back and the fall-back is recorded. -/
def fallRecorded (result : Nat) (s : State) : State := happen detActivationFallBack 0 result (restoreOld (eraseNew (fallTold s)))

/-- The former slots are active again. -/
def slotsBack (s : State) : State := updUp (fun u => { u with active := u.commit.oldMap }) s

theorem fallBackWrite_eq (result : Nat) (s : State) : fallBackWrite result s = enterUp s.up.commit.id .idle
    (updCamp s.up.commit.id (fun c => { c with result }) (slotsBack (fallRecorded result s))) := rfl

theorem fallBackWrite_up (result : Nat) (s : State) : (fallBackWrite result s).up.commit.st = .fallenBack ∧
    (fallBackWrite result s).up.active = s.up.commit.oldMap ∧ (fallBackWrite result s).up.old = none := by
  obtain ⟨hrestore, hold⟩ := restoreOld_up (eraseNew (fallTold s))
  have hfall := (fallStep_fallTold s).trans ((fallStep_eraseNew _).trans hrestore)
  have hrecorded : (fallRecorded result s).up = (restoreOld (eraseNew (fallTold s))).up := (told_happen _ _ _ _).frame .up (by decide)
  have hstep := (chainStep_updCamp (f := fun c => { c with result }) (fun _ => rfl) s.up.commit.id (slotsBack (fallRecorded result s))).trans
    (chainStep_enterUp s.up.commit.id .idle _)
  rw [fallBackWrite_eq, hstep.up]
  unfold slotsBack
  refine ⟨?_, ?_, ?_⟩ <;> dsimp only [Function.comp_apply, updUp_up] <;> rw [hrecorded]
  · rw [hfall.commit]
    rfl
  · rw [hfall.commit]
    rfl
  · exact hold

/-! ### UPDATE_CONFIRM answered (R359) -/

theorem answerConfirm_up (s : State) : onlyIn (.up :: tells) s (answerConfirm s) ∧ (answerConfirm s).up.commit = s.up.commit ∧
    ∀ id, campOf (answerConfirm s) id = campOf s id := by
  refine ⟨onlyIn_mono (frame_answerConfirm s) rfl, ?_⟩
  unfold answerConfirm
  split
  · next t c _ _ =>
    split
    · have hup := frame_resolve (fun w => w == .confirm) stOk (u8 (confirmedCount c) ++ u8 c.mods.length ++ zeros 2)
        (updUp (fun u => { u with confirmAt := none }) s) .up (by decide)
      exact ⟨(congrArg Update.commit hup :), fun id => (campOf_congr hup id :)⟩
    · exact ⟨rfl, fun _ => rfl⟩
  · exact ⟨rfl, fun _ => rfl⟩

/-! ### The swap (R354) -/

/-- The state in which ACTIVATED is written, before the reset. -/
def swapped (s : State) : State := enterUp s.up.commit.id .activated (updMod s.up.commit.id uid (fun m => { m with swap := s.clk.frame })
  (updUp (fun u => { u with active := u.commit.slotMap }) (commitTo .activated s)))

theorem swapNow_eq (s : State) : swapNow s = softReset 1 (s.clk.cycle / 750) (swapped s) := rfl

theorem swapped_up (s : State) : onlyIn (.up :: tells) s (swapped s) ∧ (swapped s).up.commit.st = .activated ∧ (swapped s).up.active = s.up.commit.slotMap ∧
    (∀ c, campOf s s.up.commit.id = some c → ∃ c', campOf (swapped s) s.up.commit.id = some c' ∧ c'.st = .activated) := by
  have hstep := (campStep_updMod s.up.commit.id uid (fun m => { m with swap := s.clk.frame })
    (updUp (fun u => { u with active := u.commit.slotMap }) (commitTo .activated s))).trans (campStep_enterUp s.up.commit.id .activated _)
  have hup : (swapped s).up = { (updUp (fun u => { u with active := u.commit.slotMap }) (commitTo .activated s)).up with camps := (swapped s).up.camps } := hstep.up
  have hput : onlyIn (.up :: tells) s (updUp (fun u => { u with active := u.commit.slotMap }) (commitTo .activated s)) := onlyIn_mono (onlyIn_put_up _ s) rfl
  refine ⟨onlyIn_step hstep.frame rfl hput, by rw [hup]; rfl, by rw [hup]; rfl, fun c hc => ⟨_, hstep.some (c := c) hc, rfl⟩⟩

/-- When the swap is due. -/
def SwapDue (s : State) : Prop := inRecovery s = true ∧ s.up.commit.frame ≤ s.clk.frame ∨ inRecovery s = false ∧
  (s.up.commit.frame = s.clk.frame ∧ moving s = false ∨ s.up.commit.frame < s.clk.frame ∧ stationary s = true)

theorem swapDue_iff : (if inRecovery s then decide (s.up.commit.frame ≤ s.clk.frame)
    else (s.up.commit.frame == s.clk.frame && !moving s) || (decide (s.up.commit.frame < s.clk.frame) && stationary s)) = true ↔ SwapDue s := by
  unfold SwapDue
  cases inRecovery s <;> simp

theorem commitFrameSwap_waits (h : s.rs.supUp = false ∨ (s.up.commit.st ≠ .decided ∧ s.up.commit.st ≠ .committing) ∨ ¬SwapDue s) :
    exec .commitFrameSwap s = .next s := by
  refine congrArg Host.Outcome.next (if_neg fun hc => ?_)
  rw [Bool.and_eq_true, Bool.and_eq_true, swapDue_iff, Bool.or_eq_true, beq_iff_eq, beq_iff_eq] at hc
  obtain ⟨⟨hup, hst⟩, hdue⟩ := hc
  rcases h with h | ⟨hd, hcm⟩ | h
  · exact Bool.false_ne_true (h.symm.trans hup)
  · exact hst.elim hd hcm
  · exact h hdue

theorem commitFrameSwap_swaps (hup : s.rs.supUp = true) (hst : s.up.commit.st = .decided ∨ s.up.commit.st = .committing) (hdue : SwapDue s) :
    ∃ t, exec .commitFrameSwap s = .next (softReset 1 (s.clk.cycle / 750) t) ∧ onlyIn (.up :: tells) s t ∧ t.up.commit.st = .activated ∧
      t.up.active = s.up.commit.slotMap ∧ (∀ c, campOf s s.up.commit.id = some c → ∃ c', campOf t s.up.commit.id = some c' ∧ c'.st = .activated) := by
  have hexec : exec .commitFrameSwap s = .next (swapNow s) := by
    refine congrArg Host.Outcome.next (if_pos ?_)
    rw [Bool.and_eq_true, Bool.and_eq_true, swapDue_iff, Bool.or_eq_true, beq_iff_eq, beq_iff_eq]
    exact ⟨⟨hup, hst⟩, hdue⟩
  exact ⟨swapped s, hexec, swapped_up s⟩

/-! ### Timers of the leader and of a participant (R351, R353, R355) -/

theorem voteDeadline_waits (h : (∀ c ∈ s.up.camps, collecting c = false) ∨ (∀ c ∈ s.up.camps, s.clk.frame + 200 < c.frame)) :
    exec .voteDeadline s = .next s := by
  show execVoteDeadline s = _
  unfold execVoteDeadline collectingCamp
  cases hc : s.up.camps.find? collecting with
  | none => rfl
  | some c =>
    have hmem := List.mem_of_find?_eq_some hc
    refine congrArg Host.Outcome.next (if_neg fun hdue => ?_)
    rw [Bool.and_eq_true, decide_eq_true_eq] at hdue
    rcases h with h | h
    · exact Bool.false_ne_true ((h c hmem).symm.trans (List.find?_some hc))
    · exact absurd hdue.2 (Nat.not_le.mpr (h c hmem))

theorem voteDeadline_aborts (hup : s.rs.supUp = true) (hc : s.up.camps.find? collecting = some c) (hdue : c.frame ≤ s.clk.frame + 200)
    (hone : ∀ x ∈ s.up.camps, x.man.id = c.man.id → x = c) : exec .voteDeadline s = .next (decideAbort c.man.id 0 6 s) ∧ campOf s c.man.id = some c := by
  constructor
  · show execVoteDeadline s = _
    unfold execVoteDeadline collectingCamp
    simp only [hc]
    exact congrArg Host.Outcome.next (if_pos (by simp [hup, hdue]))
  · have hmem := List.mem_of_find?_eq_some hc
    cases hx : campOf s c.man.id with
    | none => exact absurd (List.find?_eq_none.mp hx c hmem) (by simp)
    | some x => rw [hone x (List.mem_of_find?_eq_some hx) (campOf_id hx)]

theorem decisionResend_waits (h : ∀ c ∈ s.up.camps, c.decision = none ∨ s.clk.ms < c.sentAt + 100) : exec .decisionResend s = .next s := by
  have hnone : s.up.camps.filter (fun c => c.decision.isSome && elapsed s c.sentAt 100) = [] := by
    refine List.filter_eq_nil_iff.mpr fun c hc hdue => ?_
    simp only [elapsed, Bool.and_eq_true, decide_eq_true_eq] at hdue
    obtain ⟨hsome, hdue⟩ := hdue
    rcases h c hc with h | h
    · rw [h] at hsome
      cases hsome
    · omega
  show execDecisionResend s = _
  unfold execDecisionResend
  rw [hnone]
  exact congrArg Host.Outcome.next (ite_self s)

theorem decisionResend_sends (hup : s.rs.supUp = true) (hc : s.up.camps = [c]) (hd : c.decision.isSome = true) (hdue : c.sentAt + 100 ≤ s.clk.ms) :
    ∃ t, exec .decisionResend s = .next t ∧ onlyIn [.fb, .up] s t ∧ t.up = { s.up with camps := [{ c with sentAt := s.clk.ms }] } := by
  have hexec : exec .decisionResend s = .next (sendDecision c.man.id s) := by
    show execDecisionResend s = _
    unfold execDecisionResend
    rw [if_pos hup, hc, List.filter_cons_of_pos (by simp [hd, elapsed, hdue])]
    rfl
  refine ⟨_, hexec, frame_sendDecision c.man.id s, ?_⟩
  obtain ⟨d, hd⟩ := Option.isSome_iff_exists.mp hd
  have hcamp : campOf s c.man.id = some c := by simp [campOf, hc]
  unfold sendDecision
  simp only [hcamp, hd]
  rw [(onlyIn_foldl (ps := [.fb]) (fun x u => frame_chainSend _ u _ x) _ _ .up (by decide) :), updCamp, updUp_up, hc]
  simp [hd]

/-- The participant's question, as it is sent. -/
def resolveAsked (id : Nat) (s : State) : State := updCamp id (decisionSent s.clk.ms) s

theorem resolveResend_waits (hc : campOf s s.up.commit.id = some c) (hstage : s.rs.stage ≠ .lanes)
    (h : s.up.commit.st ≠ .prepared ∨ s.up.commit.leader = true ∨ s.clk.frame ≤ s.up.commit.frame ∨ s.clk.ms < c.sentAt + 100) :
    exec .resolveResend s = .next s := by
  show execResolveResend s = _
  unfold execResolveResend
  simp only [hc, hstage, decide_false, Bool.false_or]
  refine congrArg Host.Outcome.next (if_neg fun hdue => ?_)
  simp only [elapsed, Bool.and_eq_true, decide_eq_true_eq, Bool.not_eq_true', if_false] at hdue
  obtain ⟨⟨⟨⟨-, hst⟩, hlead⟩, hframe⟩, hms⟩ := hdue
  rcases h with h | h | h | h
  · exact h hst
  · exact Bool.false_ne_true (hlead.symm.trans h)
  · exact absurd hframe (Nat.not_lt.mpr h)
  · omega

theorem resolveResend_asks (hc : campOf s s.up.commit.id = some c) (hstage : s.rs.stage ≠ .lanes) (hup : s.rs.supUp = true)
    (hst : s.up.commit.st = .prepared) (hlead : s.up.commit.leader = false) (hframe : s.up.commit.frame < s.clk.frame) (hdue : c.sentAt + 100 ≤ s.clk.ms) :
    ∃ t, exec .resolveResend s = .next (chainSend s.up.commit.id s.up.commit.leaderUid [10, 0, 0, 0] t).1 ∧ onlyIn [.up] s t ∧
      campOf t s.up.commit.id = some { c with sentAt := s.clk.ms } := by
  have hexec : exec .resolveResend s = .next (chainSend s.up.commit.id s.up.commit.leaderUid [10, 0, 0, 0] (resolveAsked s.up.commit.id s)).1 := by
    show execResolveResend s = _
    unfold execResolveResend
    simp only [hc, hstage, decide_false, Bool.false_or, campOf_id hc]
    refine congrArg Host.Outcome.next ((if_pos (by simp [hup, hst, hlead, hframe, elapsed, hdue])).trans ?_)
    rw [if_neg (by decide)]
    rfl
  exact ⟨_, hexec, onlyIn_put_up _ s, (campStep_updCamp (f := decisionSent s.clk.ms) (fun _ => rfl) s.up.commit.id s).some hc⟩

end Sys2Proof.Proofs
end
section
/-!
PROOFS. The messages of Rennet (R351 to R355, R357, R359), and O51.
-/

namespace Sys2Proof.Proofs

open Sys2Proof.Machine Sys2Proof.Safety

variable {s : State} {id : Nat} {c : Camp} {src : Fin 64} {data : Bytes}

/-- A delivered message of a type and a length, while the supervisor runs. -/
def IsLen (type len : Nat) (data : Bytes) (s : State) : Prop := s.rs.supUp = true ∧ rdN data 0 1 = type ∧ data.length = len

theorem IsLen.msg {type len : Nat} (h : IsLen type len data s) (hlen : 0 < len) : IsMsg type data s := by
  obtain ⟨hup, htype, hl⟩ := h
  exact ⟨hup, fun hnil => by rw [hnil] at hl; exact absurd hl (by simp; omega), htype⟩

/-! ### PREPARE (R341, R352) -/

theorem prepare_length (h17 : data.length ≠ 17) : exec (.prepare src data) s = .next s := by
  by_cases h : IsMsg 6 data s
  · refine congrArg Host.Outcome.next ((chainRow_msg h).trans ?_)
    unfold prepareMsg
    exact if_pos h17
  · exact congrArg Host.Outcome.next (chainRow_other h)

/-- Whether the module has voted YES for this commit frame. -/
def HeldVote (data : Bytes) (s : State) : Prop := s.up.commit.id = msgId data ∧ s.up.commit.st = .prepared ∧ s.up.commit.frame = rdN data 1 8

/-- The leader's node is known. -/
def leaderKnown (id src : Nat) (s : State) : State := updCamp id (fun c => { c with entryNode := src }) s

theorem prepare_votes (h : IsLen 6 17 data s) (hnew : ¬HeldVote data s) : exec (.prepare src data) s =
    .next (chainSend (msgId data) (uidOfNode s src.val)
      (u8 0x07 ++ u8 (b2n (castVote (msgId data) 0 (rdN data 1 8) (uidOfNode s src.val) (leaderKnown (msgId data) src.val s)).2.isNone) ++
        u8 ((castVote (msgId data) 0 (rdN data 1 8) (uidOfNode s src.val) (leaderKnown (msgId data) src.val s)).2.getD 0) ++ u8 0)
      (castVote (msgId data) 0 (rdN data 1 8) (uidOfNode s src.val) (leaderKnown (msgId data) src.val s)).1).1 := by
  refine congrArg Host.Outcome.next ((chainRow_msg (h.msg (by decide))).trans ?_)
  have hheld : ¬(s.up.commit.id = rdN data (data.length - 8) 8 && s.up.commit.st = .prepared && s.up.commit.frame = rdN data 1 8) = true := by
    simpa [HeldVote, msgId, and_assoc] using hnew
  unfold prepareMsg
  simp only [hheld]
  rw [if_neg (by simp [h.2.2])]
  rfl

theorem leaderKnown_reason (src : Nat) (c : Camp) (s : State) :
    voteReason { c with entryNode := src } (leaderKnown id src s) = voteReason c s := rfl

theorem vote_bytes (why : Nat) : u8 0x07 ++ u8 (b2n ((if why = 0 then none else some why) : Option Nat).isNone) ++
    u8 (((if why = 0 then none else some why) : Option Nat).getD 0) ++ u8 0 = [7, if why = 0 then 1 else 0, BitVec.ofNat 8 why, 0] := by
  by_cases h : why = 0
  · subst h
    rfl
  · rw [if_neg h, if_neg h]
    rfl

theorem prepare_known (h : IsLen 6 17 data s) (hinj : s.ev.injs = []) (hc : campOf s (msgId data) = some c) (hnew : ¬HeldVote data s) :
    ∃ t, exec (.prepare src data) s =
        .next (chainSend (msgId data) (uidOfNode s src.val) [7, if voteReason c s = 0 then 1 else 0, BitVec.ofNat 8 (voteReason c s), 0] t).1 ∧
      onlyIn (.fb :: .up :: tells) s t ∧
      (voteReason c s = 0 → t.up.commit = preparedRec (msgId data) (rdN data 1 8) (uidOfNode s src.val) c s ∧
        ∃ c', campOf t (msgId data) = some c' ∧ c'.st = .prepared ∧ c'.frame = rdN data 1 8) ∧
      (voteReason c s ≠ 0 → t.up.commit = s.up.commit ∧ ∃ c', campOf t (msgId data) = some c' ∧ c'.st = c.st) ∧
      (voteReason c s = 0 ∨ 3 < voteReason c s → t.ev.snapq = s.ev.snapq ∧ t.ev.fixq = s.ev.fixq) := by
  have hexec := prepare_votes (src := src) h hnew
  have hknown := campStep_updCamp (f := fun c => { c with entryNode := src.val }) (fun _ => rfl) (msgId data) s
  obtain ⟨hreason, hframe, hyes, hno, hq⟩ := castVote_voted (s := leaderKnown (msgId data) src.val s) (rdN data 1 8) (uidOfNode s src.val) (hknown.some hc) hinj
  rw [leaderKnown_reason] at hreason hyes hno hq
  rw [hreason, vote_bytes] at hexec
  exact ⟨_, hexec, onlyIn_step hframe rfl (onlyIn_mono hknown.frame rfl), hyes, hno, hq⟩

theorem updCamp_none (hc : campOf s id = none) (f : Camp → Camp) : updCamp id f s = s := by
  have hmap : s.up.camps.map (fun c => if c.man.id = id then f c else c) = s.up.camps := by
    refine (List.map_congr_left fun c hmem => if_neg fun hid => ?_).trans (List.map_id' _)
    exact absurd (List.find?_eq_none.mp hc c hmem) (by simp [hid])
  exact congrArg (fun l => { s with up := { s.up with camps := l } }) hmap

theorem prepare_unknown (h : IsLen 6 17 data s) (hinj : s.ev.injs = []) (hc : campOf s (msgId data) = none) (hnew : ¬HeldVote data s) :
    exec (.prepare src data) s = .next (chainSend (msgId data) (uidOfNode s src.val) [7, 0, 4, 0] s).1 := by
  have hcast : castVote (msgId data) 0 (rdN data 1 8) (uidOfNode s src.val) s = (s, some 4) := by
    have hwhy : voteAgainst (msgId data) 0 s = some 4 := by
      unfold voteAgainst
      rw [hc]
    unfold castVote
    simp only [hwhy]
    rw [if_neg (by simp [forcedRefusal_none hinj])]
  rw [prepare_votes h hnew, leaderKnown, updCamp_none hc, hcast]
  rfl

/-! ### VOTE (R353) -/

/-- The vote of a module, as it is known. -/
def voteKnown (src : Nat) (data : Bytes) (s : State) : State :=
  modState (msgId data) (uidOfNode s src) (if rdN data 1 1 == 1 then 4 else 3) (fun m => { m with vote := some (rdN data 1 1 == 1, rdN data 2 1) }) s

/-- The camp with it. -/
def withVote (u : Nat) (yes : Bool) (reason : Nat) (c : Camp) : Camp := knows u (if yes then 4 else 3) (fun m => { m with vote := some (yes, reason) }) c

theorem vote_late (h : IsLen 7 12 data s) (hc : campOf s (msgId data) = some c) (hcol : collecting c = false) : exec (.vote src data) s = .next s := by
  refine congrArg Host.Outcome.next ((chainRow_msg (h.msg (by decide))).trans ?_)
  unfold msgId at hc
  unfold voteMsg
  simp only [hc]
  exact if_neg (by simp [hcol])

theorem vote_judged (h : IsLen 7 12 data s) (hc : campOf s (msgId data) = some c) (hcol : collecting c = true) (hyes : rdN data 1 1 < 2) :
    exec (.vote src data) s = .next (judgeVotes (msgId data) (voteKnown src.val data s)) ∧
      CampStep (msgId data) (withVote (uidOfNode s src.val) (rdN data 1 1 == 1) (rdN data 2 1)) s (voteKnown src.val data s) := by
  refine ⟨congrArg Host.Outcome.next ((chainRow_msg (h.msg (by decide))).trans ?_), campStep_modState _ _ _ _ s⟩
  unfold msgId at hc
  unfold voteMsg
  simp only [hc]
  exact if_pos (by simp [hcol, hyes, h.2.2])

/-- The first NO of a list of modules. -/
def firstNo (ms : List UpMod) : Option (Nat × Nat) := ms.findSome? (fun m => match m.vote with
  | some (false, r) => some (m.uid, r)
  | _ => none)

theorem judgeVotes_eq (hc : campOf s id = some c) (hcol : collecting c = true) : judgeVotes id s = match firstNo c.mods with
    | some (u, r) => decideAbort id (if u = uid then myNode s else nodeOfUid s u) r s
    | none =>
      match injFor s detRennetAbort 0 with
      | some i => decideAbort id (myNode s) (i.value % 256) s
      | none => if c.mods.all (fun m => (m.vote.map Prod.fst) == some true) then decideCommit id s else s := by
  unfold judgeVotes
  simp only [hc]
  exact if_neg (by simp [hcol])

theorem judgeVotes_no {u r : Nat} (hc : campOf s id = some c) (hcol : collecting c = true) (hno : firstNo c.mods = some (u, r)) :
    judgeVotes id s = decideAbort id (if u = uid then myNode s else nodeOfUid s u) r s := by
  rw [judgeVotes_eq hc hcol, hno]

theorem judgeVotes_yes (hc : campOf s id = some c) (hcol : collecting c = true) (hinj : s.ev.injs = []) (hno : firstNo c.mods = none) :
    judgeVotes id s = if c.mods.all (fun m => (m.vote.map Prod.fst) == some true) then decideCommit id s else s := by
  have hforced : injFor s detRennetAbort 0 = none := by simp [injFor, hinj]
  rw [judgeVotes_eq hc hcol, hno, hforced]

/-- The modules with the vote of one of them. -/
def votedMod (u : Nat) (yes : Bool) (reason : Nat) (m : UpMod) : UpMod :=
  if m.uid = u then { m with vote := some (yes, reason), st := if yes then 4 else 3 } else m

theorem withVote_mods (u : Nat) (yes : Bool) (reason : Nat) (c : Camp) : (withVote u yes reason c).mods = c.mods.map (votedMod u yes reason) := rfl

theorem firstNo_voted {u reason : Nat} {ms : List UpMod} (hmem : ∃ m ∈ ms, m.uid = u)
    (hothers : ∀ m ∈ ms, m.uid ≠ u → ∀ r, m.vote ≠ some (false, r)) : firstNo (ms.map (votedMod u false reason)) = some (u, reason) := by
  induction ms with
  | nil => exact absurd hmem (by simp)
  | cons m ms ih =>
    by_cases hm : m.uid = u
    · simp [firstNo, votedMod, hm]
    · have hskip : (match m.vote with | some (false, r) => some (m.uid, r) | _ => none) = none := by
        split
        · next r hv => exact absurd hv (hothers m List.mem_cons_self hm r)
        · rfl
      obtain ⟨x, hx, hxu⟩ := hmem
      have htail : ∃ m ∈ ms, m.uid = u := by
        rcases List.mem_cons.mp hx with rfl | hx
        · exact absurd hxu hm
        · exact ⟨x, hx, hxu⟩
      have hrest := ih htail (fun y hy => hothers y (List.mem_cons_of_mem _ hy))
      unfold firstNo at hrest ⊢
      rw [List.map_cons, List.findSome?_cons]
      have hsame : votedMod u false reason m = m := if_neg hm
      rw [hsame, hskip]
      exact hrest

theorem firstNo_none {u reason : Nat} {ms : List UpMod} (hothers : ∀ m ∈ ms, m.uid ≠ u → ∀ r, m.vote ≠ some (false, r)) :
    firstNo (ms.map (votedMod u true reason)) = none := by
  refine List.findSome?_eq_none_iff.mpr fun x hx => ?_
  obtain ⟨m, hm, rfl⟩ := List.mem_map.mp hx
  by_cases hu : m.uid = u
  · simp [votedMod, hu]
  · have hsame : votedMod u true reason m = m := if_neg hu
    rw [hsame]
    split
    · next r hv => exact absurd hv (hothers m hm hu r)
    · rfl

theorem allYes_voted (u reason : Nat) (ms : List UpMod) : (ms.map (votedMod u true reason)).all (fun m => (m.vote.map Prod.fst) == some true) = true ↔
    ∀ m ∈ ms, m.uid ≠ u → ∃ r, m.vote = some (true, r) := by
  rw [List.all_map, List.all_eq_true]
  refine forall₂_congr fun m _ => ?_
  by_cases hu : m.uid = u
  · simp [votedMod, hu]
  · have hsame : votedMod u true reason m = m := if_neg hu
    rw [Function.comp_apply, hsame]
    cases hv : m.vote with
    | none => simp [hu]
    | some v => obtain ⟨b, r⟩ := v; cases b <;> simp [hu]

/-- What a vote leaves at the leader. -/
theorem vote_counts (h : IsLen 7 12 data s) (hinj : s.ev.injs = []) (hc : campOf s (msgId data) = some c) (hcol : collecting c = true) (hlt : rdN data 1 1 < 2)
    (hmem : ∃ m ∈ c.mods, m.uid = uidOfNode s src.val) (hothers : ∀ m ∈ c.mods, m.uid ≠ uidOfNode s src.val → ∀ r, m.vote ≠ some (false, r)) :
    ∃ t c', exec (.vote src data) s = .next t ∧ onlyIn (.fb :: .up :: tells) s t ∧ campOf t (msgId data) = some c' ∧
      (rdN data 1 1 = 0 → c'.decision = some false ∧ c'.result = rdN data 2 1 ∧ t.up.commit.st = .aborted ∧ t.up.commit.id = msgId data) ∧
      (rdN data 1 1 = 1 → (∀ m ∈ c.mods, m.uid ≠ uidOfNode s src.val → ∃ r, m.vote = some (true, r)) → c'.decision = some true ∧ c'.st = .committing ∧
        t.up.commit.st = .decided) ∧
      (rdN data 1 1 = 1 → (∃ m ∈ c.mods, m.uid ≠ uidOfNode s src.val ∧ m.vote = none) → c'.decision = none ∧ t.up.commit = s.up.commit ∧ c'.st = c.st) := by
  obtain ⟨hexec, hstep⟩ := vote_judged (src := src) h hc hcol hlt
  have hcamp := hstep.some hc
  have hframe : onlyIn (.fb :: .up :: tells) s (voteKnown src.val data s) := onlyIn_mono hstep.frame rfl
  have hinjs : (voteKnown src.val data s).ev.injs = [] := (congrArg Events.injs (hstep.ev hinj)).trans hinj
  have hcommit : (voteKnown src.val data s).up.commit = s.up.commit := by rw [hstep.up]
  generalize voteKnown src.val data s = x at *
  by_cases h0 : rdN data 1 1 = 0
  · simp only [h0, Nat.reduceBEq] at hcamp
    rw [judgeVotes_no hcamp hcol (firstNo_voted hmem hothers)] at hexec
    obtain ⟨habort, ⟨hst, hid⟩, c', hc', hdec, hres⟩ := decideAbort_decides (if uidOfNode s src.val = uid then myNode x else nodeOfUid x (uidOfNode s src.val)) (rdN data 2 1) hcamp
    exact ⟨_, c', hexec, onlyIn_step habort rfl hframe, hc', fun _ => ⟨hdec, hres, hst, hid⟩, fun h1 => absurd h1 (by omega), fun h1 => absurd h1 (by omega)⟩
  · have h1 : rdN data 1 1 = 1 := by omega
    simp only [h1, Nat.reduceBEq] at hcamp
    rw [judgeVotes_yes hcamp hcol hinjs (firstNo_none hothers), withVote_mods] at hexec
    by_cases hall : ∀ m ∈ c.mods, m.uid ≠ uidOfNode s src.val → ∃ r, m.vote = some (true, r)
    · rw [if_pos ((allYes_voted _ _ _).mpr hall)] at hexec
      obtain ⟨hfr, hst, c', hc', hdec, hcst⟩ := decideCommit_decides hcamp
      refine ⟨_, c', hexec, onlyIn_step hfr rfl hframe, hc', fun h => absurd h h0, fun _ _ => ⟨hdec, hcst, hst⟩, fun _ => ?_⟩
      rintro ⟨m, hm, hne, hnone⟩
      obtain ⟨r, hr⟩ := hall m hm hne
      exact absurd (hnone.symm.trans hr) (by simp)
    · rw [if_neg (mt (allYes_voted _ _ _).mp hall)] at hexec
      refine ⟨_, _, hexec, hframe, hcamp, fun h => absurd h h0, fun _ h => absurd h hall, fun _ _ => ⟨?_, hcommit, rfl⟩⟩
      simp only [collecting, Bool.and_eq_true, Option.isNone_iff_eq_none] at hcol
      exact hcol.2

/-! ### COMMIT and ABORT (R351, R353) -/

/-- A PREPARED record of a manifest. -/
def Prepared (id : Nat) (s : State) : Prop := s.up.commit.id = id ∧ s.up.commit.st = .prepared

/-- A decision from a module of the manifest, at a participant. -/
structure DecisionMsg (src : Fin 64) (data : Bytes) (c : Camp) (s : State) : Prop where
  len : IsLen 8 20 data s
  camp : campOf s (msgId data) = some c
  entry : c.entry = false
  known : (modUids c.man).contains (uidOfNode s src.val) = true

/-- The state after a decision has been acted on, before its answer. -/
def decisionTaken (id d : Nat) (s : State) : State :=
  if s.up.commit.id = id && s.up.commit.st = .prepared then if d = 0 then takeAbort id s else committed id s else s

/-- The answer to it. -/
def decisionAnswered (id u d : Nat) (s : State) : State :=
  (chainSend id u (u8 0x09 ++ u8 (recordState id (decisionTaken id d s)) ++ zeros 2) (decisionTaken id d s)).1

theorem decision_eq (h : DecisionMsg src data c s) (hd : rdN data 1 1 ≤ 1) : exec (.commitAbort src data) s =
    .next (if rdN data 1 1 = 0 && rdN data 4 8 = 0 then dropStaging (msgId data) 9 s
      else if (s.up.commit.id = msgId data && s.up.commit.st = .prepared) && rdN data 1 1 = 1 && s.rs.stage = .lanes && s.up.commit.frame ≤ s.clk.frame then
        swapNow (decisionAnswered (msgId data) (uidOfNode s src.val) (rdN data 1 1) s)
      else decisionAnswered (msgId data) (uidOfNode s src.val) (rdN data 1 1) s) := by
  obtain ⟨hlen, hc, hentry, hknown⟩ := h
  refine congrArg Host.Outcome.next ((chainRow_msg (hlen.msg (by decide))).trans ?_)
  unfold msgId at hc
  unfold decisionMsg
  simp only [hc]
  rw [if_neg (by simp [hlen.2.2, hentry, List.contains_iff_mem.mp hknown, Nat.not_lt.mpr hd])]
  rfl

theorem decision_drops (h : DecisionMsg src data c s) (hd : rdN data 1 1 = 0) (hf : rdN data 4 8 = 0) :
    exec (.commitAbort src data) s = .next (dropStaging (msgId data) 9 s) := by
  rw [decision_eq h (by omega), if_pos (by simp [hd, hf])]

theorem decisionTaken_other {d : Nat} (h : ¬Prepared id s) : decisionTaken id d s = s := if_neg (by simpa [Prepared] using h)

theorem decision_unprepared (h : DecisionMsg src data c s) (hd : rdN data 1 1 ≤ 1) (hf : rdN data 1 1 = 1 ∨ rdN data 4 8 ≠ 0) (hno : ¬Prepared (msgId data) s) :
    exec (.commitAbort src data) s = .next (chainSend (msgId data) (uidOfNode s src.val) [9, BitVec.ofNat 8 (recordState (msgId data) s), 0, 0] s).1 := by
  rw [decision_eq h hd, if_neg (by simp; omega), if_neg, decisionAnswered, decisionTaken_other hno]
  · rfl
  · simp only [Bool.and_eq_true, decide_eq_true_eq]
    exact fun hc => hno hc.1.1.1

theorem recordState_own (h : s.up.commit.id = id) : recordState id s = commitCode s.up.commit.st := if_pos h

theorem takeAbort_takes (hc : campOf s id = some c) (hid : s.up.commit.id = id) : onlyIn (.fb :: .up :: tells) s (takeAbort id s) ∧
    (takeAbort id s).up.commit.st = .aborted ∧ recordState id (takeAbort id s) = 5 ∧ ∃ c', campOf (takeAbort id s) id = some c' ∧ c'.st = .staged := by
  have hstep := chainStep_takeAbort id s
  have hcommit := hstep.commit
  have hst : (takeAbort id s).up.commit.st = .aborted := congrArg CommitRec.st hcommit
  refine ⟨hstep.frame, hst, ?_, _, hstep.some hc, rfl⟩
  rw [recordState_own ((congrArg CommitRec.id hcommit).trans hid), hst]
  rfl

theorem decision_aborts (h : DecisionMsg src data c s) (hd : rdN data 1 1 = 0) (hf : rdN data 4 8 ≠ 0) (hp : Prepared (msgId data) s) :
    ∃ t c', exec (.commitAbort src data) s = .next (chainSend (msgId data) (uidOfNode s src.val) [9, 5, 0, 0] t).1 ∧ onlyIn (.fb :: .up :: tells) s t ∧
      t.up.commit.st = .aborted ∧ campOf t (msgId data) = some c' ∧ c'.st = .staged := by
  obtain ⟨hframe, hst, hrec, c', hc', hcst⟩ := takeAbort_takes h.camp hp.1
  have htaken : decisionTaken (msgId data) (rdN data 1 1) s = takeAbort (msgId data) s := (if_pos (by simp [hp.1, hp.2])).trans (if_pos hd)
  refine ⟨_, c', ?_, hframe, hst, hc', hcst⟩
  rw [decision_eq h (by omega), if_neg (by simp [hf]), if_neg (by simp [hd]), decisionAnswered, htaken, hrec]
  rfl

theorem committed_takes (hc : campOf s id = some c) (hid : s.up.commit.id = id) : onlyIn (.fb :: .up :: tells) s (committed id s) ∧
    (committed id s).up.commit = { s.up.commit with st := .committing, gen := wrapU 32 (s.up.commit.gen + 1) } ∧ recordState id (committed id s) = 3 ∧
    ∃ c', campOf (committed id s) id = some c' ∧ c'.st = .committing := by
  have hstep := chainStep_committed id s
  have hcommit := hstep.commit
  refine ⟨hstep.frame, hcommit, ?_, _, hstep.some hc, rfl⟩
  rw [recordState_own ((congrArg CommitRec.id hcommit).trans hid), hcommit]
  rfl

theorem decision_commits (h : DecisionMsg src data c s) (hd : rdN data 1 1 = 1) (hp : Prepared (msgId data) s) :
    ∃ t c', onlyIn (.fb :: .up :: tells) s t ∧ t.up.commit = { s.up.commit with st := .committing, gen := wrapU 32 (s.up.commit.gen + 1) } ∧
      campOf t (msgId data) = some c' ∧ c'.st = .committing ∧
      ((s.rs.stage ≠ .lanes ∨ s.clk.frame < s.up.commit.frame) →
        exec (.commitAbort src data) s = .next (chainSend (msgId data) (uidOfNode s src.val) [9, 3, 0, 0] t).1) ∧
      (s.rs.stage = .lanes → s.up.commit.frame ≤ s.clk.frame →
        exec (.commitAbort src data) s = .next (swapNow (chainSend (msgId data) (uidOfNode s src.val) [9, 3, 0, 0] t).1)) := by
  obtain ⟨hframe, hcommit, hrec, c', hc', hcst⟩ := committed_takes h.camp hp.1
  have htaken : decisionTaken (msgId data) (rdN data 1 1) s = committed (msgId data) s := (if_pos (by simp [hp.1, hp.2])).trans (if_neg (by omega))
  have hanswered : decisionAnswered (msgId data) (uidOfNode s src.val) (rdN data 1 1) s =
      (chainSend (msgId data) (uidOfNode s src.val) [9, 3, 0, 0] (committed (msgId data) s)).1 := by
    rw [decisionAnswered, htaken, hrec]
    rfl
  have hexec := decision_eq h (by omega)
  rw [if_neg (by simp [hd]), hanswered] at hexec
  refine ⟨_, c', hframe, hcommit, hc', hcst, fun hwait => ?_, fun hstage hdue => ?_⟩
  · rw [hexec, if_neg]
    simp only [Bool.and_eq_true, decide_eq_true_eq]
    rintro ⟨⟨-, hstage⟩, hdue⟩
    exact hwait.elim (· hstage) (Nat.not_lt.mpr hdue)
  · rw [hexec, if_pos (by simp [hp.1, hp.2, hd, hstage, hdue])]

/-! ### DECISION_ACK (R353, R355, R359) -/

/-- An acknowledgement from a module of the manifest. -/
structure AckMsg (src : Fin 64) (data : Bytes) (c : Camp) (s : State) : Prop where
  len : IsLen 9 12 data s
  camp : campOf s (msgId data) = some c
  code : rdN data 1 1 ≤ 7
  known : (modUids c.man).contains (uidOfNode s src.val) = true

/-- A participant that waits for the decision. -/
def Waits (id : Nat) (s : State) : Prop := s.up.commit.id = id ∧ s.up.commit.st = .prepared ∧ s.up.commit.leader = false

/-- A module with its acknowledgement. -/
def ackedMod (n now : Nat) (decided : Bool) (m : UpMod) : UpMod :=
  { m with acked := m.acked || decided, confirmed := m.confirmed || n == 7, swap := if n = 4 && m.swap = 0 then now else m.swap }

theorem decisionAck_eq (h : AckMsg src data c s) : exec (.decisionAck src data) s = .next (
    if (s.up.commit.id = msgId data && s.up.commit.st = .prepared && !s.up.commit.leader) = true then
      if rdN data 1 1 = 2 || rdN data 1 1 = 3 || rdN data 1 1 = 4 || rdN data 1 1 = 7 then takeCommit (msgId data) s
      else if rdN data 1 1 = 5 || (rdN data 1 1 ≤ 1 && uidOfNode s src.val = s.up.commit.leaderUid) then takeAbort (msgId data) s
      else s
    else answerConfirm (modState (msgId data) (uidOfNode s src.val) (stOfRecord (rdN data 1 1)) (ackedMod (rdN data 1 1) s.clk.frame c.decision.isSome) s)) := by
  obtain ⟨hlen, hc, hcode, hknown⟩ := h
  refine congrArg Host.Outcome.next ((chainRow_msg (hlen.msg (by decide))).trans ?_)
  unfold msgId at hc
  unfold ackDecisionMsg
  simp only [hc]
  rw [if_neg (by simp [hlen.2.2, List.contains_iff_mem.mp hknown, Nat.not_lt.mpr hcode])]
  rfl

theorem waits_iff : (s.up.commit.id = id && s.up.commit.st = .prepared && !s.up.commit.leader) = true ↔ Waits id s := by simp [Waits, and_assoc]

theorem decisionAck_aborts (h : AckMsg src data c s) (hw : Waits (msgId data) s)
    (hn : rdN data 1 1 = 5 ∨ (rdN data 1 1 ≤ 1 ∧ uidOfNode s src.val = s.up.commit.leaderUid)) :
    ∃ t c', exec (.decisionAck src data) s = .next t ∧ onlyIn (.fb :: .up :: tells) s t ∧ t.up.commit.st = .aborted ∧
      campOf t (msgId data) = some c' ∧ c'.st = .staged := by
  obtain ⟨hframe, hst, -, c', hc', hcst⟩ := takeAbort_takes h.camp hw.1
  refine ⟨_, c', ?_, hframe, hst, hc', hcst⟩
  rw [decisionAck_eq h, if_pos (waits_iff.mpr hw), if_neg (by simp; omega), if_pos (by simpa using hn)]

theorem decisionAck_commits (h : AckMsg src data c s) (hw : Waits (msgId data) s)
    (hn : rdN data 1 1 = 2 ∨ rdN data 1 1 = 3 ∨ rdN data 1 1 = 4 ∨ rdN data 1 1 = 7) (hwait : s.rs.stage ≠ .lanes ∨ s.clk.frame < s.up.commit.frame) :
    ∃ t c', exec (.decisionAck src data) s = .next t ∧ onlyIn (.fb :: .up :: tells) s t ∧ t.up.commit.st = .committing ∧
      campOf t (msgId data) = some c' ∧ c'.st = .committing := by
  obtain ⟨hframe, hcommit, -, c', hc', hcst⟩ := committed_takes h.camp hw.1
  have htake : takeCommit (msgId data) s = committed (msgId data) s := by
    refine if_neg ?_
    simp only [Bool.and_eq_true, decide_eq_true_eq]
    exact fun hdue => hwait.elim (· hdue.1) (Nat.not_lt.mpr hdue.2)
  refine ⟨_, c', ?_, hframe, congrArg CommitRec.st hcommit, hc', hcst⟩
  rw [decisionAck_eq h, if_pos (waits_iff.mpr hw), if_pos (by simpa [or_assoc] using hn), htake]

theorem decisionAck_ignored (h : AckMsg src data c s) (hw : Waits (msgId data) s)
    (hn : rdN data 1 1 = 6 ∨ (rdN data 1 1 ≤ 1 ∧ uidOfNode s src.val ≠ s.up.commit.leaderUid)) : exec (.decisionAck src data) s = .next s := by
  rw [decisionAck_eq h, if_pos (waits_iff.mpr hw), if_neg (by simp; omega), if_neg]
  simp only [Bool.or_eq_true, Bool.and_eq_true, decide_eq_true_eq]
  rintro (h5 | ⟨hle, hu⟩)
  · omega
  · rcases hn with h6 | ⟨-, hne⟩
    · omega
    · exact hne hu

theorem decisionAck_known (h : AckMsg src data c s) (hw : ¬Waits (msgId data) s) :
    ∃ t c', exec (.decisionAck src data) s = .next t ∧ onlyIn (.fb :: .up :: tells) s t ∧ t.up.commit = s.up.commit ∧ campOf t (msgId data) = some c' ∧
      c'.mods = c.mods.map (fun m => if m.uid = uidOfNode s src.val then { m with
        st := stOfRecord (rdN data 1 1)
        acked := m.acked || c.decision.isSome
        confirmed := m.confirmed || rdN data 1 1 == 7
        swap := if rdN data 1 1 = 4 ∧ m.swap = 0 then s.clk.frame else m.swap } else m) := by
  have hexec := decisionAck_eq h
  rw [if_neg (mt waits_iff.mp hw)] at hexec
  have hstep := campStep_modState (msgId data) (uidOfNode s src.val) (stOfRecord (rdN data 1 1)) (ackedMod (rdN data 1 1) s.clk.frame c.decision.isSome) s
  obtain ⟨hframe, hcommit, hcamp⟩ := answerConfirm_up (modState (msgId data) (uidOfNode s src.val) (stOfRecord (rdN data 1 1))
    (ackedMod (rdN data 1 1) s.clk.frame c.decision.isSome) s)
  refine ⟨_, _, hexec, onlyIn_mono (onlyIn_step hframe rfl hstep.frame) rfl, hcommit.trans hstep.chain.commit, (hcamp _).trans (hstep.some h.camp), ?_⟩
  refine List.map_congr_left fun m _ => if_congr Iff.rfl ?_ rfl
  unfold ackedMod
  simp only [Bool.and_eq_true, decide_eq_true_eq]

/-! ### RESOLVE, CONFIRM and FALLBACK (R355, R357, R359) -/

theorem resolve_answers (h : IsLen 10 12 data s) (hcol : ∀ c, campOf s (msgId data) = some c → collecting c = false) :
    exec (.resolve src data) s = .next (chainSend (msgId data) (uidOfNode s src.val) [9, BitVec.ofNat 8 (recordState (msgId data) s), 0, 0] s).1 := by
  refine congrArg Host.Outcome.next ((chainRow_msg (h.msg (by decide))).trans ?_)
  unfold msgId at hcol
  unfold resolveMsg
  cases hc : campOf s (rdN data (data.length - 8) 8) with
  | none =>
    simp only [hc]
    exact if_neg (by simp [h.2.2])
  | some c =>
    simp only [hc, hcol c hc]
    exact if_neg (by simp [h.2.2])

theorem resolve_silent (h : IsLen 10 12 data s) (hcol : ∃ c, campOf s (msgId data) = some c ∧ collecting c = true) : exec (.resolve src data) s = .next s := by
  obtain ⟨c, hc, hcol⟩ := hcol
  refine congrArg Host.Outcome.next ((chainRow_msg (h.msg (by decide))).trans ?_)
  unfold msgId at hc
  unfold resolveMsg
  simp only [hc]
  exact if_pos (by simp [hcol])

theorem confirm_eq (h : IsLen 11 12 data s) : exec (.confirmFallback src data) s = .next (
    if s.up.commit.id ≠ msgId data then s
    else if rdN data 1 1 = 1 then
      (chainSend (msgId data) (uidOfNode s src.val)
        (u8 0x09 ++ u8 (recordState (msgId data) (if s.up.commit.id = msgId data && s.up.commit.st = .activated then confirmSelf s else s)) ++ zeros 2)
        (if s.up.commit.id = msgId data && s.up.commit.st = .activated then confirmSelf s else s)).1
    else if rdN data 1 1 = 2 && (s.up.commit.id = msgId data && s.up.commit.st = .activated) then fallBack 9 s
    else s) := by
  refine congrArg Host.Outcome.next ((chainRow_msg (h.msg (by decide))).trans ?_)
  unfold confirmMsg
  exact if_congr (by simp [h.2.2, msgId]) rfl rfl

theorem confirm_ignored (h : IsLen 11 12 data s) (hid : s.up.commit.id = msgId data) (hst : s.up.commit.st ≠ .activated) (hk : rdN data 1 1 = 2) :
    exec (.confirmFallback src data) s = .next s := by
  rw [confirm_eq h, if_neg (by simp [hid]), if_neg (by omega), if_neg (by simp [hst])]

theorem confirm_plain (h : IsLen 11 12 data s) (hid : s.up.commit.id = msgId data) (hst : s.up.commit.st ≠ .activated) (hk : rdN data 1 1 = 1) :
    exec (.confirmFallback src data) s =
      .next (chainSend (msgId data) (uidOfNode s src.val) [9, BitVec.ofNat 8 (commitCode s.up.commit.st), 0, 0] s).1 := by
  rw [confirm_eq h, if_neg (by simp [hid]), if_pos hk, if_neg (by simp [hst]), recordState_own hid]
  rfl

theorem confirm_confirms (h : IsLen 11 12 data s) (hid : s.up.commit.id = msgId data) (hst : s.up.commit.st = .activated) (hk : rdN data 1 1 = 1) :
    ∃ t, exec (.confirmFallback src data) s = .next (chainSend (msgId data) (uidOfNode s src.val) [9, 7, 0, 0] t).1 ∧ onlyIn (.fb :: .up :: tells) s t ∧
      t.up.commit.st = .confirmed ∧ t.up.secMin = max s.up.secMin s.up.commit.sec ∧ t.up.old = none ∧ t.up.active = s.up.active := by
  obtain ⟨hframe, hup⟩ := confirmSelf_up s
  have hrec : recordState (msgId data) (confirmSelf s) = 7 := by
    rw [recordState_own (by rw [hup]; exact hid), hup]
    rfl
  refine ⟨confirmSelf s, ?_, hframe, by rw [hup]; rfl, by rw [hup]; rfl, by rw [hup]; rfl, by rw [hup]; rfl⟩
  rw [confirm_eq h, if_neg (by simp [hid]), if_pos hk, if_pos (by simp [hid, hst]), hrec]
  rfl

theorem confirm_fallsBack (h : IsLen 11 12 data s) (hid : s.up.commit.id = msgId data) (hst : s.up.commit.st = .activated) (hk : rdN data 1 1 = 2) :
    ∃ t, exec (.confirmFallback src data) s = .next (softReset 1 (s.clk.cycle / 750) t) ∧ onlyIn (.fb :: .up :: tells) s t ∧ t.up.commit.st = .fallenBack ∧
      t.up.active = s.up.commit.oldMap ∧ t.up.old = none := by
  refine ⟨fallBackWrite 9 s, ?_, onlyIn_mono (frame_fallBackWrite 9 s) rfl, fallBackWrite_up 9 s⟩
  rw [confirm_eq h, if_neg (by simp [hid]), if_neg (by omega), if_pos (by simp [hid, hst, hk])]
  rfl

/-- Settles O51: each message and timer of Rennet by the lemma about it. -/
theorem rennetDecides : Obligations.RennetDecides := by
  intro src data s id u is mine chain hinj
  refine ⟨fun _ _ h17 => prepare_length h17, fun c h hc hnew => prepare_known h hinj hc hnew, fun h hc hnew => prepare_unknown h hinj hc hnew,
    fun c h hc hcol => vote_late h hc hcol, fun c h hc hcol hlt hmem hothers => vote_counts h hinj hc hcol hlt hmem hothers, fun c h hc hentry hknown => ?_,
    fun c h hc hcode hknown => ?_, fun h => ⟨resolve_answers h, resolve_silent h⟩,
    fun h => ⟨fun hid => ?_, fun hid hst hk => ?_, confirm_plain h, confirm_confirms h, confirm_fallsBack h⟩, voteDeadline_waits,
    fun c hup hc hdue hone => ?_, decisionResend_waits, fun c hup hc hd hdue => decisionResend_sends hup hc hd hdue,
    fun c hc hstage => ⟨resolveResend_waits hc hstage, resolveResend_asks hc hstage⟩, commitFrameSwap_waits, commitFrameSwap_swaps⟩
  · have hmsg : DecisionMsg src data c s := ⟨h, hc, hentry, hknown⟩
    exact ⟨decision_drops hmsg, decision_unprepared hmsg, decision_aborts hmsg, decision_commits hmsg⟩
  · have hmsg : AckMsg src data c s := ⟨h, hc, hcode, hknown⟩
    exact ⟨decisionAck_aborts hmsg, decisionAck_commits hmsg, decisionAck_ignored hmsg, decisionAck_known hmsg⟩
  · exact (confirm_eq h).trans (congrArg Host.Outcome.next (if_pos hid))
  · exact confirm_ignored h hid hst hk
  · obtain ⟨hexec, hcamp⟩ := voteDeadline_aborts hup hc hdue hone
    obtain ⟨hframe, ⟨hst, -⟩, c', hc', hdec, hres⟩ := decideAbort_decides 0 6 hcamp
    exact ⟨_, c', hexec, hframe, hst, hc', hdec, hres⟩

end Sys2Proof.Proofs
end
section
/-!
PROOFS. What a reset carries over and what it loses: the supervisor's, the compute part's and the system's fall (R34, R72, R333, R373, R375), for O52,
O53 and O54.
-/

namespace Sys2Proof.Proofs

open Sys2Proof.Machine Sys2Proof.Safety

variable {s t u : State}

/-! ### What a step on the way down carries over -/

/-- The parts in which no session, profile, record, update or message stands. -/
def aside : List Part := [.clk, .gr, .qz, .cf, .vd, .ls, .gn, .fb, .cn, .mc, .an, .rs, .pw, .sp, .free]

/-- `t` brings back nothing that `s` had lost, and keeps the exchange area, the selected profile changes, the fixed records' numbers, the active slots and
the commit record. -/
structure Carried (s t : State) : Prop where
  sessions : s.mb.sessions = [] → t.mb.sessions = []
  waiting : s.mb.waiting = [] → t.mb.waiting = []
  injs : s.ev.injs = [] → t.ev.injs = []
  staging : s.pf.staging = none → t.pf.staging = none
  exch : t.mb.exch = s.mb.exch
  selected : t.pf.selected = s.pf.selected
  fixed : t.ev.fixed.map EvRec.rseq = s.ev.fixed.map EvRec.rseq
  active : t.up.active = s.up.active
  commit : t.up.commit = s.up.commit
  out : s.out <+: t.out

theorem Carried.refl (s : State) : Carried s s := ⟨id, id, id, id, rfl, rfl, rfl, rfl, rfl, List.prefix_refl _⟩

theorem Carried.trans (h : Carried s t) (h' : Carried t u) : Carried s u where
  sessions := h'.sessions ∘ h.sessions
  waiting := h'.waiting ∘ h.waiting
  injs := h'.injs ∘ h.injs
  staging := h'.staging ∘ h.staging
  exch := h'.exch.trans h.exch
  selected := h'.selected.trans h.selected
  fixed := h'.fixed.trans h.fixed
  active := h'.active.trans h.active
  commit := h'.commit.trans h.commit
  out := h.out.trans h'.out

/-- The same, from the last change backwards, as a state is written. -/
theorem carried_step (h' : Carried t u) (h : Carried s t) : Carried s u := h.trans h'

theorem sessions_nil_of_sublist {l l' : List Sess} (h : (l'.map sessKey).Sublist (l.map sessKey)) (hn : l = []) : l' = [] := by
  subst hn
  exact List.map_eq_nil_iff.mp (List.sublist_nil.mp h)

theorem Told.carried (h : Told s t) : Carried s t where
  sessions := sessions_nil_of_sublist h.sessions
  waiting hn := List.sublist_nil.mp (hn ▸ h.waiting)
  injs := h.noInjs
  staging := h.noStaging
  exch := by rw [h.mail]
  selected := by rw [h.profile]
  fixed := h.fixed
  active := congrArg Update.active (h.frame .up (by decide))
  commit := congrArg Update.commit (h.frame .up (by decide))
  out := h.out

theorem carried_aside (h : onlyIn aside s t) : Carried s t := by
  have hmb : t.mb = s.mb := h .mb (by decide)
  have hpf : t.pf = s.pf := h .pf (by decide)
  have hev : t.ev = s.ev := h .ev (by decide)
  have hup : t.up = s.up := h .up (by decide)
  have hout : t.out = s.out := h .out (by decide)
  exact ⟨by rw [hmb]; exact id, by rw [hmb]; exact id, by rw [hev]; exact id, by rw [hpf]; exact id, by rw [hmb], by rw [hpf], by rw [hev], by rw [hup],
    by rw [hup], by rw [hout]⟩

theorem carried_foldl {α : Type} {f : State → α → State} (hf : ∀ x a, Carried x (f x a)) (l : List α) (s : State) : Carried s (l.foldl f s) := by
  induction l generalizing s with
  | nil => exact .refl s
  | cons a l ih => exact (hf s a).trans (ih _)

/-! ### The supervisor's fall (R34, R72, R333) -/

/-- Everything of a session is gone. -/
structure Cleared (t : State) : Prop where
  sessions : t.mb.sessions = []
  waiting : t.mb.waiting = []
  injs : t.ev.injs = []
  staging : t.pf.staging = none

theorem Cleared.carried (h : Cleared s) (h' : Carried s t) : Cleared t :=
  ⟨h'.sessions h.sessions, h'.waiting h.waiting, h'.injs h.injs, h'.staging h.staging⟩

theorem sessionsGone_carried (s : State) : Carried s (sessionsGone s) := by
  have htold := (said_endInjections (fun _ => true) s).toTold
  have hinjs : (endInjections (fun _ => true) s).ev.injs = [] := by rw [endInjections_injs (fun _ _ _ => rfl)]; simp
  exact ⟨fun _ => rfl, fun _ => rfl, fun _ => hinjs, fun _ => rfl, htold.carried.exch, htold.carried.selected, htold.fixed, htold.carried.active,
    htold.carried.commit, htold.out⟩

theorem sessionsGone_cleared (s : State) : Cleared (sessionsGone s) := by
  have hinjs : (endInjections (fun _ => true) s).ev.injs = [] := by rw [endInjections_injs (fun _ _ _ => rfl)]; simp
  exact ⟨rfl, rfl, hinjs, rfl⟩

theorem updateInterrupt_carried (s : State) : Carried s (updateInterrupt s) := ⟨id, id, id, id, rfl, rfl, rfl, rfl, rfl, List.prefix_refl _⟩

/-- A change of the profile part that keeps its staging and the selected changes. -/
theorem carried_pf (h : onlyIn [.pf, .free] s t) (hstaging : t.pf.staging = s.pf.staging) (hselected : t.pf.selected = s.pf.selected) : Carried s t := by
  have hmb : t.mb = s.mb := h .mb (by decide)
  have hev : t.ev = s.ev := h .ev (by decide)
  have hup : t.up = s.up := h .up (by decide)
  have hout : t.out = s.out := h .out (by decide)
  exact ⟨by rw [hmb]; exact id, by rw [hmb]; exact id, by rw [hev]; exact id, by rw [hstaging]; exact id, by rw [hmb], hselected, by rw [hev], by rw [hup],
    by rw [hup], by rw [hout]⟩

theorem saveInterrupt_carried (s : State) : Carried s (saveInterrupt s) := by
  have hkept : (saveInterrupt s).pf.staging = s.pf.staging ∧ (saveInterrupt s).pf.selected = s.pf.selected := by
    unfold saveInterrupt
    split
    · exact ⟨rfl, rfl⟩
    · dsimp only
      split
      · exact ⟨rfl, rfl⟩
      · split <;> exact ⟨rfl, rfl⟩
  exact carried_pf (frame_saveInterrupt s) hkept.1 hkept.2

theorem optStop_carried (mark : Bool) (s : State) : Carried s (optStop mark s) := by
  unfold optStop
  split
  · exact .refl s
  · exact carried_step (said_happenMarked _ _ _ _ _).toTold.carried (carried_aside (onlyIn_mono (onlyIn_put_cf _ s) rfl))

/-- The parts that the supervisor's fall stops, once sessions, update and save are interrupted. -/
theorem supervisorDown_carried (s : State) : Carried s (supervisorDown s) ∧ Cleared (supervisorDown s) := by
  have hgone := sessionsGone_cleared s
  have hrest : Carried (sessionsGone s) (supervisorDown s) :=
    carried_step (carried_aside (onlyIn_mono (onlyIn_put_rs _ _) rfl)) (carried_step (carried_aside (onlyIn_mono (frame_cropRestart _) rfl))
      (carried_step (carried_aside (onlyIn_mono (frame_gnssStop _) rfl)) (carried_step (carried_aside (onlyIn_mono (frame_quartzStop _) rfl))
        (carried_step (carried_aside (onlyIn_mono (frame_canDown _) rfl)) (carried_step (optStop_carried false _)
          (carried_step (saveInterrupt_carried _) (updateInterrupt_carried _)))))))
  exact ⟨(sessionsGone_carried s).trans hrest, hgone.carried hrest⟩

/-! ### L2 (R375) -/

theorem carried_setDoms (f : Nat → Nat) (st : DomSt) (ds : List Nat) (s : State) : Carried s (ds.foldl (fun x d => setDom (f d) st x) s) :=
  carried_aside (onlyIn_mono (setDoms_kept f st ds s) rfl)

theorem computeDown_carried (s : State) : Carried s (computeDown s) ∧ Cleared (computeDown s) := by
  obtain ⟨hcarried, hcleared⟩ := supervisorDown_carried s
  have hrest : Carried (supervisorDown s) (computeDown s) :=
    carried_step (carried_aside (onlyIn_mono (onlyIn_put_rs _ _) rfl)) (carried_step (carried_setDoms id .reset [4, 5, 6, 7] _)
      (carried_step (carried_aside (onlyIn_mono (frame_fabricRestart _) rfl)) (carried_aside (onlyIn_mono (frame_timeL2 _) rfl))))
  exact ⟨hcarried.trans hrest, hcleared.carried hrest⟩

theorem domOf_setDom (d e : Nat) (st : DomSt) (hd : d < s.pw.doms.length) : domOf (setDom d st s) e = if e = d then st else domOf s e := by
  by_cases he : e = d
  · subst he
    rw [if_pos rfl]
    exact (nth_updAt s.pw.doms e e (fun _ => st) .off hd).trans (if_pos rfl)
  · rw [if_neg he]
    exact nth_updAt_ne s.pw.doms (fun _ => st) .off (Ne.symm he)

theorem length_setDom (d : Nat) (st : DomSt) (s : State) : (setDom d st s).pw.doms.length = s.pw.doms.length := length_updAt _ _ _

/-- The domains after some of them entered a state. -/
theorem domOf_setDoms (f : Nat → Nat) (st : DomSt) (ds : List Nat) (hds : ∀ d ∈ ds, f d < s.pw.doms.length) (e : Nat) :
    domOf (ds.foldl (fun x d => setDom (f d) st x) s) e = if e ∈ ds.map f then st else domOf s e := by
  induction ds generalizing s with
  | nil => rfl
  | cons d ds ih =>
    rw [List.foldl_cons, ih (fun x hx => by rw [length_setDom]; exact hds x (List.mem_cons_of_mem _ hx)), domOf_setDom _ _ _ (hds d List.mem_cons_self)]
    by_cases h : e ∈ ds.map f
    · rw [if_pos h, if_pos (by rw [List.map_cons]; exact List.mem_cons_of_mem _ h)]
    · rw [if_neg h]
      exact if_congr (by simp only [List.map_cons, List.mem_cons, h, or_false]) rfl rfl

/-! ### L0 and L1 (R373) -/

theorem settleWrites_carried (ws : List SettingWrite) (s : State) : Carried s (settleWrites ws s) := by
  have hkept : (settleWrites ws s).pf.staging = s.pf.staging ∧ (settleWrites ws s).pf.selected = s.pf.selected := by
    induction ws generalizing s with
    | nil => exact ⟨rfl, rfl⟩
    | cons w ws ih =>
      unfold settleWrites
      dsimp only
      split
      · exact ih s
      · split
        · exact ih (freshBool s).2
        · exact ⟨rfl, rfl⟩
  exact carried_pf (frame_settleWrites ws s) hkept.1 hkept.2

theorem told_judgeLedgers (s : State) : Told s (judgeLedgers s) := told_foldl (fun _ _ => told_detect _ _ _ _ _) _ _

theorem panelLose_carried (us : Nat) (s : State) : Carried s (panelLose us s) := by
  refine carried_step (carried_aside (onlyIn_mono (onlyIn_put_sp _ _) rfl)) ?_
  split
  · exact carried_step (told_judgeLedgers _).carried (carried_aside (onlyIn_mono (onlyIn_put_sp _ s) rfl))
  · exact .refl s

theorem told_lsEndConds (ch : Nat) (s : State) : Told s (lsEndConds ch s) := told_foldl (fun _ _ => told_detect _ _ _ _ _) _ _

theorem lsReset_carried (s : State) : Carried s (lsReset s) :=
  carried_step (carried_aside (onlyIn_mono (onlyIn_put_ls _ _) rfl)) (told_foldl (fun x ch => told_lsEndConds ch x) (List.range 24) s).carried

theorem supApply_carried (s : State) : Carried s (supApply s) := by
  refine carried_foldl (fun x k => ?_) _ s
  split
  · split
    · exact carried_aside (onlyIn_mono (onlyIn_put_pw _ x) rfl)
    · exact .refl x
  · exact carried_step (told_detect _ _ _ _ _).carried (carried_aside (onlyIn_mono (onlyIn_put_pw _ x) rfl))

theorem domOf_supApply (s : State) (d : Nat) : domOf (supApply s) d = domOf s d := by
  unfold domOf
  rw [supApply_doms]

theorem mapLose_unflushed (s : State) : ∀ f ∈ (mapLose s).cf.fields, f.unflushed = 0 := by
  intro f hf
  obtain ⟨g, -, rfl⟩ := List.mem_map.mp hf
  rfl

/-- The way down of the system, in four steps. -/
def sysLost (s : State) : State := settleWrites s.pf.writes (exchangeGone (supervisorDown s))
def sysOff (us : Nat) (s : State) : State := lsReset (vdReset (panelLose us (sysLost s)))
def sysBare (us : Nat) (s : State) : State := mapLose (fabricDown (quartzRestore (sysOff us s)))
def sysHeld (us : Nat) (s : State) : State := supApply ((List.range 12).foldl (fun st k => setDom (k + 1) .reset st) (sysBare us s))

theorem systemDown_eq (us : Nat) (s : State) : systemDown us s = { sysHeld us s with
    clk := { (sysHeld us s).clk with running := false, established := false, cycle := 0 }
    gr := { granite0 with capture := (sysHeld us s).gr.capture.map (fun c => { c with running := false }) }
    gn := { (sysHeld us s).gn with
      time := time0, part := gnssPart0, steer := gnss0.steer, current := none, next := none, ants := gnss0.ants, rtcm := gnss0.rtcm }
    an := { (sysHeld us s).an with gate := false }
    pw := { (sysHeld us s).pw with vco := false, gated := false }
    ev := { (sysHeld us s).ev with snapq := [] }
    pf := { (sysHeld us s).pf with writes := [], none := true, strap := 8, psOpen := false, startPending := false }
    up := { (sysHeld us s).up with moving := true, movedAt := some (sysHeld us s).clk.ms, peers := [] }
    rs := { (sysHeld us s).rs with rstout := false, map := 0, restart := false } } := rfl

/-- After the exchange area is gone nothing of it comes back. -/
theorem sysHeld_carried (us : Nat) (s : State) : Carried (exchangeGone (supervisorDown s)) (sysHeld us s) :=
  carried_step (supApply_carried _) (carried_step (carried_setDoms (· + 1) .reset (List.range 12) _)
    (carried_step (carried_aside (onlyIn_mono (frame_mapLose _) rfl)) (carried_step (carried_aside (onlyIn_mono (frame_fabricDown _) rfl))
      (carried_step (carried_aside (onlyIn_mono (frame_quartzRestore _) rfl)) (carried_step (lsReset_carried _)
        (carried_step (carried_aside (onlyIn_mono (frame_vdReset _) rfl)) (carried_step (panelLose_carried us _) (settleWrites_carried _ _))))))))

theorem carried_systemDown (us : Nat) (s : State) : Carried (sysHeld us s) (systemDown us s) := ⟨id, id, id, id, rfl, rfl, rfl, rfl, rfl, List.prefix_refl _⟩

theorem systemDown_out (us : Nat) (s : State) : s.out <+: (systemDown us s).out := by
  have hgone : (supervisorDown s).out <+: (sysHeld us s).out := (sysHeld_carried us s).out
  exact ((supervisorDown_carried s).1.out.trans hgone).trans (carried_systemDown us s).out

/-- What L0 and L1 leave. -/
structure SystemFell (s t : State) : Prop where
  cleared : Cleared t
  lost : t.mb.exch = [] ∧ t.pf.selected = [] ∧ t.pf.none = true
  fixed : t.ev.fixed.map EvRec.rseq = s.ev.fixed.map EvRec.rseq
  update : t.up.active = s.up.active ∧ t.up.commit = s.up.commit
  out : s.out <+: t.out
  clock : t.clk.running = false ∧ t.clk.established = false
  granite : t.gr.running = false ∧ t.gr.mode = .start ∧ t.gr.safeA = true ∧ t.gr.safeB = true
  power : t.an.gate = false ∧ t.pw.vco = false
  doms : ∀ d : Nat, 1 ≤ d → d ≤ 12 → domOf t d = .reset
  records : ∀ f ∈ t.cf.fields, f.unflushed = 0

theorem systemDown_fell (us : Nat) (hlen : s.pw.doms.length = 13) : SystemFell s (systemDown us s) := by
  obtain ⟨hcarried, hcleared⟩ := supervisorDown_carried s
  have hrest := (sysHeld_carried us s).trans (carried_systemDown us s)
  have hgone : Cleared (exchangeGone (supervisorDown s)) := ⟨hcleared.sessions, hcleared.waiting, hcleared.injs, hcleared.staging⟩
  have hpw : (sysBare us s).pw = s.pw :=
    (frame_mapLose _ .pw (by decide)).trans ((frame_fabricDown _ .pw (by decide)).trans ((frame_quartzRestore _ .pw (by decide)).trans
      ((frame_lsReset _ .pw (by decide)).trans ((frame_vdReset _ .pw (by decide)).trans ((frame_panelLose us _ .pw (by decide)).trans
        ((frame_settleWrites _ _ .pw (by decide)).trans ((frame_exchangeGone _ .pw (by decide)).trans (frame_supervisorDown s .pw (by decide)))))))))
  have hcf : (systemDown us s).cf = (sysBare us s).cf := (frame_supApply _ .cf (by decide)).trans (setDoms_kept (· + 1) .reset (List.range 12) _ .cf (by decide))
  refine ⟨hgone.carried hrest, ⟨hrest.exch, hrest.selected, rfl⟩, hrest.fixed.trans hcarried.fixed,
    ⟨hrest.active.trans hcarried.active, hrest.commit.trans hcarried.commit⟩, hcarried.out.trans hrest.out, ⟨rfl, rfl⟩, ⟨rfl, rfl, rfl, rfl⟩, ⟨rfl, rfl⟩,
    fun d h1 h12 => ?_, fun f hf => ?_⟩
  · have hdoms := domOf_setDoms (s := sysBare us s) (· + 1) .reset (List.range 12) (by rw [hpw, hlen]; intro d hd; have := List.mem_range.mp hd; omega) d
    have hsame : domOf (systemDown us s) d = domOf (sysHeld us s) d := rfl
    rw [hsame, sysHeld, domOf_supApply, hdoms, if_pos]
    exact List.mem_map.mpr ⟨d - 1, List.mem_range.mpr (by omega), by omega⟩
  · rw [hcf] at hf
    exact mapLose_unflushed _ f hf

end Sys2Proof.Proofs
end
section
/-!
PROOFS. The assertion of a reset source and RESET_REQUEST's effect (R35, R365 to R369, R383), and O52.
-/

namespace Sys2Proof.Proofs

open Sys2Proof.Machine Sys2Proof.Safety

variable {s t u : State} {src L us : Nat}

/-! ### The assertion in steps -/

/-- The source's detector has reported. -/
def assertTold (src : Nat) (s : State) : State :=
  match sourceDetector src with
  | some d => if src = 7 && !!(bit ((s.rs.episode.map (·.2)).getD 0) src) then s else happen d 0 0 s
  | none => s

/-- An interrupted load is recorded. -/
def assertLoad (src L : Nat) (s : State) : State :=
  if s.rs.stage = .loading && s.rs.loadCount < 3 && L ≤ 1 then
    happen detOptionAndTrimLoadInterrupted 0 (2 ^ src) (updRs (fun r => { r with loadCount := if L = 0 then 0 else r.loadCount + 1 }) (assertTold src s))
  else if L = 0 then updRs (fun r => { r with loadCount := 0 }) (assertTold src s) else assertTold src s

/-- What the level reaches has fallen. -/
def assertDown (src L us : Nat) (s : State) : State := if L ≤ 1 then systemDown us (assertLoad src L s) else computeDown (assertLoad src L s)

/-- Whether the assertion is a failed boot. -/
def bootFails (src : Nat) (s : State) : Bool := (src = 4 || src = 8) && !s.rs.restart &&
  (s.rs.stage = .rom || s.rs.stage = .firmware || s.rs.stage = .lanes || s.rs.stage = .active)

/-- A failed boot is recorded. -/
def assertMarked (src L us : Nat) (s : State) : State :=
  if bootFails src s && !s.rs.counted then happen detBootFailure 0 0 (assertDown src L us s) else assertDown src L us s

theorem assertSource_eq (src L us : Nat) (s : State) : assertSource src L us s = updRs (fun r => { r with
    asserted := (r.asserted.filter (fun a => a.1 != src)) ++ [(src, L)]
    episode := match s.rs.episode with
      | none => some (L, 2 ^ src)
      | some e => some (min L e.1, maskOr e.2 (2 ^ src))
    wiped := if s.rs.episode.isNone then false else r.wiped
    stage := stageAfter s.rs.stage L
    restart := decide (2 ≤ L) && (s.rs.stage = .active || s.rs.stage = .done || s.rs.restart)
    failed := if src = 5 && s.rs.stage = .recovery then 0 else if bootFails src s && !r.counted then r.failed + 1 else r.failed
    counted := if bootFails src s then true else r.counted }) (assertMarked src L us s) := rfl

theorem told_assertTold (src : Nat) (s : State) : Told s (assertTold src s) := by
  unfold assertTold
  split
  · exact told_ite (.refl s) (told_happen _ _ _ _)
  · exact .refl s

/-- `t` is `s` after telling, but for the reset part's counter of loads and its request. -/
structure Nearly (s t : State) : Prop where
  frame : onlyIn (.rs :: tells) s t
  carried : Carried s t
  rs : t.rs = { s.rs with loadCount := t.rs.loadCount, request := t.rs.request }

theorem Told.nearly (h : Told s t) : Nearly s t := by
  have hrs : t.rs = s.rs := h.frame .rs (by decide)
  exact ⟨onlyIn_mono h.frame rfl, h.carried, by rw [hrs]⟩

theorem Nearly.trans (h : Nearly s t) (h' : Nearly t u) : Nearly s u :=
  ⟨onlyIn_step h'.frame rfl h.frame, h.carried.trans h'.carried, by rw [h'.rs, h.rs]⟩

theorem nearly_updRs {f : ResetLife → ResetLife} (hf : ∀ r, f r = { r with loadCount := (f r).loadCount, request := (f r).request }) (s : State) :
    Nearly s (updRs f s) :=
  ⟨onlyIn_mono (onlyIn_put_rs _ s) rfl, carried_aside (onlyIn_mono (onlyIn_put_rs _ s) rfl), hf s.rs⟩

theorem nearly_assertLoad (src L : Nat) (s : State) : Nearly s (assertLoad src L s) := by
  have htold := (told_assertTold src s).nearly
  unfold assertLoad
  split
  · exact (htold.trans (nearly_updRs (fun _ => rfl) _)).trans (told_happen _ _ _ _).nearly
  · split
    · exact htold.trans (nearly_updRs (fun _ => rfl) _)
    · exact htold

theorem told_assertMarked (src L us : Nat) (s : State) : Told (assertDown src L us s) (assertMarked src L us s) := told_ite (told_happen _ _ _ _) (.refl _)

theorem assertDown_counts (src L us : Nat) (s : State) : (assertDown src L us s).rs.failed = s.rs.failed ∧ (assertDown src L us s).rs.counted = s.rs.counted := by
  have hrs := (nearly_assertLoad src L s).rs
  have hload : (assertLoad src L s).rs.failed = s.rs.failed ∧ (assertLoad src L s).rs.counted = s.rs.counted := by
    rw [hrs]
    exact ⟨rfl, rfl⟩
  unfold assertDown
  split
  · rw [systemDown_rs]
    exact hload
  · rw [computeDown_rs]
    exact hload

/-- A failed boot that is not yet counted is counted once. -/
theorem assertSource_failed (h4 : src ≠ 5) (hboot : bootFails src s = true) (hcounted : s.rs.counted = false) :
    (assertSource src L us s).rs.failed = s.rs.failed + 1 := by
  obtain ⟨hfailed, hc⟩ := assertDown_counts src L us s
  have hmark : (assertMarked src L us s).rs = (assertDown src L us s).rs := (told_assertMarked src L us s).frame .rs (by decide)
  rw [assertSource_eq, updRs_rs]
  dsimp only
  rw [if_neg (by simp [h4]), hmark, if_pos (by rw [hboot, hc, hcounted]; rfl), hfailed]

/-! ### What an assertion leaves -/

/-- What an assertion leaves of the reset part. -/
structure FellRs (src L : Nat) (s t : State) : Prop where
  here : (src, L) ∈ t.rs.asserted
  others : ∀ a ∈ s.rs.asserted, a.1 ≠ src → a ∈ t.rs.asserted
  episode : t.rs.episode = some (match s.rs.episode with
    | none => (L, 2 ^ src)
    | some e => (min L e.1, maskOr e.2 (2 ^ src)))
  stopped : t.rs.supUp = false ∧ t.rs.request = none ∧ t.rs.lifecycle = s.rs.lifecycle
  stage : t.rs.stage = stageAfter s.rs.stage L

theorem assertSource_fellRs (src L us : Nat) (s : State) : FellRs src L s (assertSource src L us s) := by
  obtain ⟨load, map, failed, out, wiped, restart, counted, hrs⟩ := assertSource_rs src L us s
  refine ⟨?_, fun a ha hne => ?_, ?_, ?_, ?_⟩ <;> rw [hrs]
  · exact List.mem_append_right _ List.mem_cons_self
  · exact List.mem_append_left _ (List.mem_filter.mpr ⟨ha, by simp [hne]⟩)
  · cases h : s.rs.episode with
    | none => simp [assertedRs, h]
    | some e => simp [assertedRs, h]
  · exact ⟨rfl, rfl, rfl⟩
  · rfl

theorem assertSource_last (src L us : Nat) (s : State) : onlyIn [.rs] (assertMarked src L us s) (assertSource src L us s) := by
  rw [assertSource_eq]
  exact onlyIn_put_rs _ _

/-- Nothing that has left is taken back. -/
theorem assertSource_out (src L us : Nat) (s : State) : s.out <+: (assertSource src L us s).out := by
  have hdown : (assertLoad src L s).out <+: (assertDown src L us s).out := by
    unfold assertDown
    split
    · exact systemDown_out us (assertLoad src L s)
    · exact (computeDown_carried (assertLoad src L s)).1.out
  have hlast := (carried_aside (onlyIn_mono (assertSource_last src L us s) rfl)).out
  exact (nearly_assertLoad src L s).carried.out.trans (hdown.trans ((told_assertMarked src L us s).out.trans hlast))

/-! ### RESET_REQUEST takes effect (R35, R383) -/

/-- The request is taken. -/
def requestTaken (s : State) : State := { s with rs := { s.rs with request := none } }

theorem told_closeAll (reason : Nat) (s : State) : Told s (closeAll reason s) := told_foldl (fun x n => (said_closeSession n reason x).toTold) _ _

theorem closeAll_one {x : Sess} (hx : s.mb.sessions = [x]) (hup : s.rs.supUp = true) :
    ∃ ms, (closeAll 2 s).out = s.out ++ { noteMsg x s.mb.epoch nSessionClosing [2, 0, 0, 0] with key := x.keyOut } :: ms := by
  have hfind : findSess s x.num = some x := by simp [findSess, hx]
  have hclose : closeAll 2 s = dropSession x.num (send [noteMsg x s.mb.epoch nSessionClosing (u8 2 ++ zeros 3)] s) := by
    unfold closeAll
    rw [hx]
    show closeSession x.num 2 s = _
    unfold closeSession
    simp only [hfind]
    rw [if_pos hup]
  have hsend : (send [noteMsg x s.mb.epoch nSessionClosing (u8 2 ++ zeros 3)] s).out =
      s.out ++ [{ noteMsg x s.mb.epoch nSessionClosing [2, 0, 0, 0] with key := ((findSess s x.num).map Sess.keyOut).getD [] }] := rfl
  obtain ⟨ms, hms⟩ := (said_dropSession x.num (send [noteMsg x s.mb.epoch nSessionClosing (u8 2 ++ zeros 3)] s)).out
  refine ⟨ms, ?_⟩
  rw [hclose, ← hms, hsend, hfind, List.append_assoc]
  rfl

/-- The session is announced closed in a message under its own key. -/
theorem resetRequestEffect_announces {us : Fin 1000} {q : ResetReq} {x : Sess} (hq : s.rs.request = some q) (hdue : q.at' + 100 ≤ s.clk.ms)
    (hlvl : q.level ≤ 2) (hx : s.mb.sessions = [x]) (hup : s.rs.supUp = true) (hexec : exec (.resetRequestEffect us) s = .next t) :
    ∃ ms, t.out = s.out ++ { noteMsg x s.mb.epoch nSessionClosing [2, 0, 0, 0] with key := x.keyOut } :: ms := by
  have hrun : exec (.resetRequestEffect us) s = .next (assertSource 5 q.level us.val (closeAll 2 (requestTaken s))) := by
    show execResetRequestEffect us s = _
    unfold execResetRequestEffect
    rw [hq]
    exact congrArg Host.Outcome.next ((if_pos (by simpa [elapsed] using hdue)).trans (if_neg (by omega)))
  obtain rfl : t = assertSource 5 q.level us.val (closeAll 2 (requestTaken s)) := Host.Outcome.next.inj (hexec.symm.trans hrun)
  obtain ⟨ms, hms⟩ := closeAll_one (s := requestTaken s) hx hup
  obtain ⟨ms', hms'⟩ := assertSource_out 5 q.level us.val (closeAll 2 (requestTaken s))
  exact ⟨ms ++ ms', by rw [← hms', hms, List.append_assoc]; rfl⟩

/-- An open session whose messages leave under a key. -/
def keyedSess : Sess := { newSess 1 1 { transport := .uart, peer := 0 } true 0 0 with keyOut := [1] }

/-- A running module with that session and a reset request that is due. -/
def requestDue : State :=
  { State.reset with
    rs := { State.reset.rs with supUp := true, request := some ⟨2, 0, 0⟩ }
    clk := { State.reset.clk with ms := 100 }
    mb := { State.reset.mb with sessions := [keyedSess] } }

/-- Refutes O52: SESSION_CLOSING of a due request leaves under the session's key, and the statement asks for one with no key. The state is `requestDue`, a
running module with one session whose key is not empty. -/
theorem not_resetsReachTheirLevel : ¬ Obligations.ResetsReachTheirLevel := by
  intro h
  obtain ⟨-, -, -, -, -, hrequest⟩ := h requestDue (by decide)
  obtain ⟨-, hq⟩ := hrequest 0
  obtain ⟨-, -, heffect⟩ := hq ⟨2, 0, 0⟩ rfl
  obtain ⟨t, hexec, -, hout⟩ := heffect (by decide) (by decide)
  obtain ⟨ms, hms⟩ := hout keyedSess rfl rfl
  obtain ⟨ms', hms'⟩ := resetRequestEffect_announces (s := requestDue) rfl (by decide) (by decide) rfl rfl hexec
  have hnone : requestDue.out = [] := rfl
  rw [hnone, List.nil_append] at hms hms'
  have hkey := congrArg OutMsg.key (List.cons.inj (hms.symm.trans hms')).1
  exact absurd hkey (by decide)

end Sys2Proof.Proofs
end

section
/-!
PROOFS. The boot up to the supervisor's image: the option load, the VCO lock with the release of the domains, the release of D4 and the image loads
(R34, R57, R360, R370, R372, R374, R401), for O53.
-/

namespace Sys2Proof.Proofs

open Sys2Proof.Machine Sys2Proof.Safety

variable {s t u : State}

/-! ### The boundary that is held (R368) -/

theorem le_foldl_min (k : Nat) (l : List Nat) (n : Nat) : k ≤ l.foldl min n ↔ k ≤ n ∧ ∀ x ∈ l, k ≤ x := by
  induction l generalizing n with
  | nil => simp
  | cons a l ih => rw [List.foldl_cons, ih, le_min_iff, List.forall_mem_cons, and_assoc]

theorem two_le_deepest : 2 ≤ deepest s ↔ ¬∃ a ∈ s.rs.asserted, a.2 ≤ 1 := by
  rw [deepest, le_foldl_min]
  simp only [List.forall_mem_map, not_exists, not_and]
  exact ⟨fun h a ha => by have := h.2 a ha; omega, fun h => ⟨by decide, fun a ha => by have := h a ha; omega⟩⟩

/-- A step of the boot waits for its stage and for L0 and L1 to be released. -/
theorem at_boundary {st : Stage} (h : s.rs.stage = st) (hfree : ¬∃ a ∈ s.rs.asserted, a.2 ≤ 1) :
    (decide (s.rs.stage = st) && decide (2 ≤ deepest s)) = true := by
  rw [Bool.and_eq_true, decide_eq_true_iff, decide_eq_true_iff]
  exact ⟨h, two_le_deepest.mpr hfree⟩

theorem not_at_boundary {st : Stage} (h : s.rs.stage ≠ st ∨ ∃ a ∈ s.rs.asserted, a.2 ≤ 1) :
    ¬(decide (s.rs.stage = st) && decide (2 ≤ deepest s)) = true := by
  rw [Bool.and_eq_true, decide_eq_true_iff, decide_eq_true_iff]
  rintro ⟨hst, hdeep⟩
  exact h.elim (· hst) (two_le_deepest.mp hdeep)

/-! ### The option and trim load (R370) -/

/-- The load is done with conservative trim. -/
def trimKept (s : State) : State := { s with rs := { s.rs with loadCount := 0, consTrim := true, map := 0, stage := .clocks } }

theorem optionLoad_waits (h : s.rs.stage ≠ .loading ∨ ∃ a ∈ s.rs.asserted, a.2 ≤ 1) : exec .optionTrimLoadDone s = .next s :=
  congrArg Host.Outcome.next (if_neg (not_at_boundary h))

theorem optionLoad_done (hst : s.rs.stage = .loading) (hfree : ¬∃ a ∈ s.rs.asserted, a.2 ≤ 1) :
    (s.rs.loadCount < 3 → exec .optionTrimLoadDone s = .next { s with rs := { s.rs with
      loadCount := 0
      consTrim := false
      map := s.rs.fuses
      stage := .clocks } }) ∧
    (3 ≤ s.rs.loadCount → ∃ t, exec .optionTrimLoadDone s = .next t ∧ onlyIn (.rs :: tells) s t ∧ t.rs = { s.rs with
      loadCount := 0
      consTrim := true
      map := 0
      stage := .clocks }) := by
  refine ⟨fun h => congrArg Host.Outcome.next ((if_pos (at_boundary hst hfree)).trans (if_neg (by omega))), fun h => ?_⟩
  have htold := told_happen detConservativeTrimInUse 0 3 (trimKept s)
  exact ⟨happen detConservativeTrimInUse 0 3 (trimKept s), congrArg Host.Outcome.next ((if_pos (at_boundary hst hfree)).trans (if_pos h)),
    onlyIn_step htold.frame rfl (onlyIn_mono (onlyIn_put_rs _ s) rfl), htold.frame .rs (by decide)⟩

/-! ### The VCO lock and the domains (R372, R401, Table 14-4) -/

/-- Mica is zeroed once in an episode. -/
def micaZeroed (s : State) : State := if s.rs.wiped then s else updRs (fun r => { r with wiped := true }) (micaReset s)

/-- The domain of the panel and of D12 is ON, or REDUCED with the supply. -/
def supplied (s : State) : DomSt := if s.pw.vsupReduced then .reduced else .on

/-- The domains before the L2 boundary are on. -/
def domainsOn (s : State) : State := [1, 2, 3, 8, 9, 10, 12].foldl (fun st d => setDom d .on st) (lanesRelease (micaZeroed s))

theorem domainsRelease_eq (s : State) :
    domainsRelease s = panelOn (setDom 12 (supplied (domainsOn s)) (setDom 11 (supplied (domainsOn s)) (domainsOn s))) := rfl

theorem micaZeroed_frame (s : State) : onlyIn [.mc, .rs] s (micaZeroed s) := by
  unfold micaZeroed
  split
  · exact onlyIn_refl _ _
  · exact onlyIn_step (onlyIn_put_rs _ _) rfl (onlyIn_mono (frame_micaReset s) rfl)

theorem setDoms_pw (st : DomSt) (ds : List Nat) (s : State) : (ds.foldl (fun x d => setDom d st x) s).pw.vco = s.pw.vco ∧
    (ds.foldl (fun x d => setDom d st x) s).pw.vsupReduced = s.pw.vsupReduced ∧
    (ds.foldl (fun x d => setDom d st x) s).pw.doms.length = s.pw.doms.length := by
  induction ds generalizing s with
  | nil => exact ⟨rfl, rfl, rfl⟩
  | cons d ds ih =>
    obtain ⟨hvco, hsup, hlen⟩ := ih (setDom d st s)
    exact ⟨hvco, hsup, hlen.trans (length_setDom d st s)⟩

theorem lanes_pw (s : State) : (lanesRelease (micaZeroed s)).pw = s.pw :=
  (frame_lanesRelease _ .pw (by decide)).trans (micaZeroed_frame s .pw (by decide))

theorem domainsOn_pw (s : State) : (domainsOn s).pw.vco = s.pw.vco ∧ (domainsOn s).pw.vsupReduced = s.pw.vsupReduced ∧
    (domainsOn s).pw.doms.length = s.pw.doms.length := by
  have h := setDoms_pw .on [1, 2, 3, 8, 9, 10, 12] (lanesRelease (micaZeroed s))
  rw [lanes_pw] at h
  exact h

theorem domainsOn_rest (s : State) : onlyIn [.pw] (lanesRelease (micaZeroed s)) (domainsOn s) :=
  setDoms_kept id .on [1, 2, 3, 8, 9, 10, 12] (lanesRelease (micaZeroed s))

/-- The panel is on after the domains. -/
theorem domainsRelease_rest (s : State) : onlyIn [.pw, .sp] (domainsOn s) (domainsRelease s) := by
  rw [domainsRelease_eq]
  exact onlyIn_step (frame_panelOn _) rfl (onlyIn_step (onlyIn_put_pw _ _) rfl (onlyIn_mono (onlyIn_put_pw _ _) rfl))

/-- What the release of the domains leaves. -/
structure DomainsUp (s t : State) : Prop where
  frame : onlyIn [.gr, .mc, .rs, .pw, .sp] s t
  vco : t.pw.vco = s.pw.vco
  granite : t.gr.mode = .start ∧ t.gr.running = false ∧ t.gr.safeA = true ∧ t.gr.safeB = true
  on : ∀ d ∈ [1, 2, 3, 8, 9, 10], domOf t d = .on
  supplied : ∀ d ∈ [11, 12], domOf t d = if s.pw.vsupReduced then .reduced else .on
  kept : s.rs.wiped = true → t.mc = s.mc
  zeroed : s.rs.wiped = false → t.mc.mem = [] ∧ ∀ b : Nat, bankServes t b = true

theorem nth_replicate_default {α : Type} (n : Nat) (x : α) (i : Nat) : nth (List.replicate n x) i x = x := by
  unfold nth
  rw [List.getD_eq_getElem?_getD, List.getElem?_replicate]
  split <;> rfl

theorem micaZeroed_zeroed (h : s.rs.wiped = false) : (micaZeroed s).mc.mem = [] ∧ ∀ b : Nat, bankOf (micaZeroed s) b = bank0 := by
  unfold micaZeroed
  rw [if_neg (by rw [h]; decide)]
  exact ⟨rfl, fun b => nth_replicate_default 64 bank0 b⟩

theorem domainsRelease_doms (hlen : s.pw.doms.length = 13) (d : Nat) : domOf (domainsRelease s) d =
    if d = 12 ∨ d = 11 then (if s.pw.vsupReduced then .reduced else .on) else if d ∈ [1, 2, 3, 8, 9, 10, 12] then .on else domOf s d := by
  have hpw := lanes_pw s
  obtain ⟨-, hsup, hlenOn⟩ := domainsOn_pw s
  have hon : domOf (domainsOn s) d = if d ∈ [1, 2, 3, 8, 9, 10, 12].map id then .on else domOf (lanesRelease (micaZeroed s)) d :=
    domOf_setDoms id .on [1, 2, 3, 8, 9, 10, 12] (by rw [hpw, hlen]; decide) d
  have hs : domOf (lanesRelease (micaZeroed s)) d = domOf s d := by
    unfold domOf
    rw [hpw]
  have hsupplied : supplied (domainsOn s) = if s.pw.vsupReduced then .reduced else .on := by
    unfold supplied
    rw [hsup]
  rw [hs, List.map_id] at hon
  have hlast : domOf (domainsRelease s) d = domOf (setDom 12 (supplied (domainsOn s)) (setDom 11 (supplied (domainsOn s)) (domainsOn s))) d := rfl
  rw [hlast, hsupplied, domOf_setDom _ _ _ (by rw [length_setDom, hlenOn, hlen]; decide), domOf_setDom _ _ _ (by rw [hlenOn, hlen]; decide), hon]
  by_cases h12 : d = 12 <;> by_cases h11 : d = 11 <;> simp [h12, h11]

theorem domainsRelease_up (hlen : s.pw.doms.length = 13) : DomainsUp s (domainsRelease s) := by
  have hdom := domainsRelease_doms hlen
  have hvco := (domainsOn_pw s).1
  have hgr : (domainsRelease s).gr = (lanesRelease (micaZeroed s)).gr :=
    (domainsRelease_rest s .gr (by decide)).trans (domainsOn_rest s .gr (by decide))
  have hmc : (domainsRelease s).mc = (micaZeroed s).mc :=
    (domainsRelease_rest s .mc (by decide)).trans ((domainsOn_rest s .mc (by decide)).trans (frame_lanesRelease _ .mc (by decide)))
  refine ⟨frame_domainsRelease s, hvco, by rw [hgr]; exact ⟨rfl, rfl, rfl, rfl⟩, fun d hd => ?_, fun d hd => ?_, fun h => ?_, fun h => ?_⟩
  · have hne : ¬(d = 12 ∨ d = 11) := by
      rintro (rfl | rfl) <;> exact absurd hd (by decide)
    rw [hdom, if_neg hne, if_pos]
    simp only [List.mem_cons, List.not_mem_nil, or_false] at hd ⊢
    omega
  · simp only [List.mem_cons, List.not_mem_nil, or_false] at hd
    rw [hdom, if_pos hd.symm]
  · rw [hmc, micaZeroed, if_pos h]
  · obtain ⟨hmem, hbank⟩ := micaZeroed_zeroed h
    refine ⟨by rw [hmc]; exact hmem, fun b => ?_⟩
    have hb : bankOf (domainsRelease s) b = bank0 := by
      have := hbank b
      unfold bankOf at this ⊢
      rw [hmc]
      exact this
    rw [bankServes, hb]
    rfl

/-- The working clocks run from the frame that the RTC gives. -/
def clocksRun (rtc : Nat) (s : State) : State :=
  { s with clk := { s.clk with running := true, frame := rtc, cycle := 0, established := false }, pw := { s.pw with vco := true } }

theorem vcoLock_waits (ok : Bool) (rtc : Nat) (h : s.rs.stage ≠ .clocks ∨ ∃ a ∈ s.rs.asserted, a.2 ≤ 1) : exec (.vcoLock ok rtc) s = .next s :=
  congrArg Host.Outcome.next (if_neg (not_at_boundary h))

theorem vcoLock_fails (rtc : Nat) (hst : s.rs.stage = .clocks) (hfree : ¬∃ a ∈ s.rs.asserted, a.2 ≤ 1) :
    exec (.vcoLock false rtc) s = .next (assertSource 7 1 0 s) :=
  congrArg Host.Outcome.next ((if_pos (at_boundary hst hfree)).trans (if_neg (by decide)))

theorem vcoLock_locks (rtc : Nat) (hst : s.rs.stage = .clocks) (hfree : ¬∃ a ∈ s.rs.asserted, a.2 ≤ 1) (hlen : s.pw.doms.length = 13) :
    ∃ t, exec (.vcoLock true rtc) s = .next t ∧ onlyIn [.clk, .gr, .mc, .rs, .pw, .sp] s t ∧
      t.clk.running = true ∧ t.clk.frame = rtc ∧ t.clk.cycle = 0 ∧ t.clk.established = false ∧ t.pw.vco = true ∧
      t.rs.stage = .compute ∧ t.rs.bootAt = s.clk.ms ∧ t.gr.mode = .start ∧ t.gr.running = false ∧ t.gr.safeA = true ∧ t.gr.safeB = true ∧
      (∀ d ∈ [1, 2, 3, 8, 9, 10], domOf t d = .on) ∧
      (∀ d ∈ [11, 12], domOf t d = if s.pw.vsupReduced then .reduced else .on) ∧
      (s.rs.wiped = true → t.mc = s.mc) ∧ (s.rs.wiped = false → t.mc.mem = [] ∧ ∀ b : Nat, bankServes t b = true) := by
  obtain ⟨hframe, hvco, ⟨hmode, hrun, hsafeA, hsafeB⟩, hon, hsup, hkept, hzero⟩ := domainsRelease_up (s := clocksRun rtc s) hlen
  have hclk : (domainsRelease (clocksRun rtc s)).clk = (clocksRun rtc s).clk := hframe .clk (by decide)
  have hstart : onlyIn [.clk, .pw] s (clocksRun rtc s) := onlyIn_put_clk_pw _ _ s
  refine ⟨updRs (fun r => { r with stage := .compute, bootAt := s.clk.ms, counted := false }) (domainsRelease (clocksRun rtc s)),
    congrArg Host.Outcome.next ((if_pos (at_boundary hst hfree)).trans (if_pos rfl)),
    onlyIn_step (onlyIn_put_rs _ _) rfl (onlyIn_step hframe rfl (onlyIn_mono hstart rfl)),
    by rw [updRs_clk, hclk]; rfl, by rw [updRs_clk, hclk]; rfl, by rw [updRs_clk, hclk]; rfl, by rw [updRs_clk, hclk]; rfl, hvco,
    rfl, rfl, hmode, hrun, hsafeA, hsafeB, hon, hsup, hkept, hzero⟩

/-! ### The straps (R57) -/

theorem strapOf_agree {straps : List Nat} (hlen : straps.length = 8) :
    (∀ v : Nat, v < 7 → straps = List.replicate 8 v → strapOf straps = v) ∧ ((∃ x ∈ straps, ∃ y ∈ straps, x ≠ y) → strapOf straps = 7) := by
  refine ⟨fun v hv h => ?_, fun ⟨x, hx, y, hy, hne⟩ => ?_⟩
  · have hv8 : v < 8 := by omega
    subst h
    simp [strapOf, List.replicate_succ, hv8]
  · cases straps with
    | nil => rfl
    | cons z zs =>
      have hmixed : zs.all (fun w => w == z) = false := by
        rw [← Bool.not_eq_true, List.all_eq_true]
        intro hall
        have heq : ∀ w ∈ z :: zs, w = z := fun w hw => (List.mem_cons.mp hw).elim id (fun h => eq_of_beq (hall w h))
        exact hne ((heq x hx).trans (heq y hy).symm)
      simp [strapOf, hmixed]

end Sys2Proof.Proofs
end

section
/-!
PROOFS. The release of D4, mask ROM and the image loads (R34, R41, R57, R357, R360, R361, R372, R374), for O53.
-/

namespace Sys2Proof.Proofs

open Sys2Proof.Machine Sys2Proof.Safety

variable {s t u : State}

/-! ### The release of D4 (R34, R57, R372) -/

/-- The straps that a release at L0 or L1 samples. -/
def strapIn (straps : List Nat) (s : State) : Nat := if s.pf.strap = 8 then strapOf straps else s.pf.strap

/-- The compute domains are on. -/
def computeOn (s : State) : State := [4, 5, 6, 7].foldl (fun st d => setDom d .on st) s

/-- The straps are in. -/
def strapped (straps : List Nat) (s : State) : State :=
  if s.pf.strap = 8 then updPf (fun p => { p with strap := strapOf straps }) (computeOn s) else computeOn s

/-- Mask ROM starts. -/
def romReady (straps : List Nat) (s : State) : State :=
  updRs (fun r => { r with bootAt := if r.restart then s.clk.ms else r.bootAt })
    { endEpisode (strapped straps s) with mb := { (endEpisode (strapped straps s)).mb with
        epoch := nextEpoch (endEpisode (strapped straps s)).mb.epoch, nextSession := 1 } }

theorem d4Release_eq (straps : List Nat) (s : State) : exec (.d4Release straps) s =
    .next (if (s.rs.stage = .compute && s.rs.asserted.isEmpty) = true then romStart (romReady straps s) else s) := rfl

theorem d4Release_waits (straps : List Nat) (h : s.rs.stage ≠ .compute ∨ s.rs.asserted ≠ []) : exec (.d4Release straps) s = .next s := by
  rw [d4Release_eq, if_neg]
  simp only [Bool.and_eq_true, decide_eq_true_iff, List.isEmpty_iff]
  rintro ⟨hst, hnil⟩
  exact h.elim (· hst) (· hnil)

theorem d4Release_now (straps : List Nat) (hst : s.rs.stage = .compute) (hnil : s.rs.asserted = []) :
    exec (.d4Release straps) s = .next (romStart (romReady straps s)) := by
  rw [d4Release_eq, if_pos]
  rw [hst, hnil]
  rfl

theorem strapped_kept (straps : List Nat) (s : State) : onlyIn [.pf, .pw] s (strapped straps s) ∧ (strapped straps s).pf.strap = strapIn straps s := by
  have hon : onlyIn [.pw] s (computeOn s) := setDoms_kept id .on [4, 5, 6, 7] s
  have hpf : (computeOn s).pf = s.pf := hon .pf (by decide)
  unfold strapped strapIn
  split
  · exact ⟨onlyIn_step (frame_updPf _ _) rfl (onlyIn_mono hon rfl), rfl⟩
  · exact ⟨onlyIn_mono hon rfl, by rw [hpf]⟩

/-- What the end of an episode leaves of the reset part. -/
theorem endEpisode_rs (h : s.rs.asserted = []) : (endEpisode s).rs = { s.rs with
      episode := none, wiped := (endEpisode s).rs.wiped, causes := (endEpisode s).rs.causes
      lastLevel := (endEpisode s).rs.lastLevel, lastMask := (endEpisode s).rs.lastMask } ∧
    ∀ e, s.rs.episode = some e → (endEpisode s).rs.lastLevel = e.1 ∧ (endEpisode s).rs.lastMask = e.2 := by
  unfold endEpisode
  split
  · rename_i e he
    rw [if_pos (by rw [h]; rfl)]
    exact ⟨rfl, fun e' he' => by rw [Option.some.inj (he.symm.trans he')]; exact ⟨rfl, rfl⟩⟩
  · rename_i he
    exact ⟨by rw [← he], fun e' he' => absurd (he.symm.trans he') (by simp)⟩

/-- What mask ROM finds. -/
structure RomReady (straps : List Nat) (s t : State) : Prop where
  frame : onlyIn [.mb, .pf, .rs, .pw] s t
  epoch : t.mb.epoch = if 0xFFFFFFFF ≤ s.mb.epoch then 0xFFFFFFFF else s.mb.epoch + 1
  session : t.mb.nextSession = 1
  strap : t.pf.strap = strapIn straps s
  doms : s.pw.doms.length = 13 → ∀ d : Nat, domOf t d = if 4 ≤ d ∧ d ≤ 7 then .on else domOf s d
  rs : t.rs = { s.rs with
    episode := none, wiped := t.rs.wiped, causes := t.rs.causes, lastLevel := t.rs.lastLevel, lastMask := t.rs.lastMask, bootAt := t.rs.bootAt }
  last : ∀ e, s.rs.episode = some e → t.rs.lastLevel = e.1 ∧ t.rs.lastMask = e.2

theorem romReady_ready (straps : List Nat) (hnil : s.rs.asserted = []) : RomReady straps s (romReady straps s) := by
  obtain ⟨hstrapped, hstrap⟩ := strapped_kept straps s
  have hrs : (strapped straps s).rs = s.rs := hstrapped .rs (by decide)
  have hmb : (endEpisode (strapped straps s)).mb = s.mb := (frame_endEpisode _ .mb (by decide)).trans (hstrapped .mb (by decide))
  have hpf : (endEpisode (strapped straps s)).pf = (strapped straps s).pf := frame_endEpisode _ .pf (by decide)
  have hpw : (endEpisode (strapped straps s)).pw = (strapped straps s).pw := frame_endEpisode _ .pw (by decide)
  have hpwOn : (strapped straps s).pw = (computeOn s).pw := by
    unfold strapped
    split <;> rfl
  obtain ⟨hend, hlast⟩ := endEpisode_rs (s := strapped straps s) (by rw [hrs]; exact hnil)
  rw [hrs] at hend hlast
  refine ⟨?_, ?_, rfl, ?_, fun hlen d => ?_, ?_, hlast⟩
  · exact onlyIn_step (onlyIn_put_rs _ _) rfl (onlyIn_step (onlyIn_put_mb _ _) rfl (onlyIn_step (frame_endEpisode _) rfl (onlyIn_mono hstrapped rfl)))
  · show nextEpoch (endEpisode (strapped straps s)).mb.epoch = _
    rw [hmb]
    rfl
  · show (endEpisode (strapped straps s)).pf.strap = _
    rw [hpf, hstrap]
  · have hdom : domOf (romReady straps s) d = domOf (computeOn s) d := by
      show nth (endEpisode (strapped straps s)).pw.doms d .off = _
      rw [hpw, hpwOn]
      rfl
    rw [hdom]
    refine (domOf_setDoms (s := s) id .on [4, 5, 6, 7] (by rw [hlen]; decide) d).trans ?_
    refine if_congr ?_ rfl rfl
    simp only [List.map_id, List.mem_cons, List.not_mem_nil, or_false]
    omega
  · have hready : (romReady straps s).rs = { (endEpisode (strapped straps s)).rs with bootAt := (romReady straps s).rs.bootAt } := rfl
    refine hready.trans ?_
    rw [hend]
    rfl

/-! ### Mask ROM (R357, R360) -/

theorem romStart_goes (h : s.rs.restart = true ∨ (¬(s.up.commit.st = .activated ∧ 1 ≤ s.rs.failed) ∧ s.pf.strap ≠ 6 ∧ s.rs.failed < 3)) :
    romStart s = updRs (fun r => { r with stage := .rom }) s := by
  unfold romStart
  by_cases hr : s.rs.restart = true
  · exact if_pos hr
  · obtain ⟨hact, hstrap, hfew⟩ := h.resolve_left hr
    exact (if_neg hr).trans ((if_neg (by simpa using hact)).trans ((if_neg hstrap).trans (if_neg (by omega))))

theorem romStart_recovers (hrun : s.rs.restart = false) (hact : ¬(s.up.commit.st = .activated ∧ 1 ≤ s.rs.failed)) (h : s.pf.strap = 6 ∨ 3 ≤ s.rs.failed) :
    ∃ cause, romStart s = enterRecovery cause (recordCauses s) := by
  unfold romStart
  rw [if_neg (by rw [hrun]; decide), if_neg (by simpa using hact)]
  by_cases hstrap : s.pf.strap = 6
  · exact ⟨1, if_pos hstrap⟩
  · exact ⟨2, (if_neg hstrap).trans (if_pos (h.resolve_left hstrap))⟩

theorem romStart_fallsBack (hrun : s.rs.restart = false) (hact : s.up.commit.st = .activated) (hfailed : 1 ≤ s.rs.failed) :
    romStart s = fallBack 11 s := by
  unfold romStart
  rw [if_neg (by rw [hrun]; decide)]
  exact if_pos (by rw [hact]; simpa using hfailed)

/-- The episodes told, one record each. -/
def causesTold (s : State) : State := s.rs.causes.foldl (fun st e => rawEvent evReset 0 (e.1 + 65536 * e.2) st) s

theorem recordCauses_eq (s : State) : recordCauses s = { causesTold s with rs := { (causesTold s).rs with causes := [] } } := rfl

theorem told_causesTold (s : State) : Told s (causesTold s) := told_foldl (fun _ _ => told_rawEvent _ _ _ _) _ _

theorem recordCauses_rs (s : State) : (recordCauses s).rs = { s.rs with causes := [] } := by
  have hrs : (causesTold s).rs = s.rs := (told_causesTold s).frame .rs (by decide)
  rw [recordCauses_eq, ← hrs]

/-- What ROM recovery mode leaves (R360, R361). -/
structure Recovers (s t : State) : Prop where
  mail : t.mb.epoch = s.mb.epoch ∧ t.mb.nextSession = s.mb.nextSession ∧ t.mb.uartEnable = true
  profile : t.pf.active = 16 ∧ t.pf.none = true ∧ t.pf.strap = s.pf.strap
  supplies : t.pw = s.pw
  rs : t.rs = { s.rs with stage := .recovery, supUp := true, causes := [] }

/-- The recovery mode's stage. -/
def recoveryStage (s : State) : State := updRs (fun r => { r with stage := .recovery, supUp := true }) (recordCauses s)

/-- The recovery mode is told. -/
def recoveryTold (cause : Nat) (s : State) : State := happen detRecoveryModeEntry 0 cause (recoveryStage s)

/-- The transports run on what is given and no profile is active. -/
def recoveryOpen (udp ip se : Nat) (s : State) : State := updPf (fun p => { p with active := 16, none := true, psOpen := false })
  { s with mb := { s.mb with udpPort := udp, ipv4 := ip, seEnable := se, canPorts := 0, uartEnable := true } }

theorem enterRecovery_eq (cause : Nat) (s : State) : enterRecovery cause (recordCauses s) =
    recoveryOpen (paramDefault pMbUdpPort).toNat (paramDefault pMbIpv4Addr).toNat (paramDefault pMbSeEnable).toNat (recoveryTold cause s) := by
  unfold enterRecovery
  rfl

theorem recoveryOpen_kept (udp ip se : Nat) (x : State) : (recoveryOpen udp ip se x).mb.epoch = x.mb.epoch ∧
    (recoveryOpen udp ip se x).mb.nextSession = x.mb.nextSession ∧ (recoveryOpen udp ip se x).mb.uartEnable = true ∧
    (recoveryOpen udp ip se x).pf.active = 16 ∧ (recoveryOpen udp ip se x).pf.none = true ∧ (recoveryOpen udp ip se x).pf.strap = x.pf.strap ∧
    (recoveryOpen udp ip se x).pw = x.pw ∧ (recoveryOpen udp ip se x).rs = x.rs := ⟨rfl, rfl, rfl, rfl, rfl, rfl, rfl, rfl⟩

theorem recoveryStage_kept (s : State) : (recoveryStage s).mb = (causesTold s).mb ∧ (recoveryStage s).pf = (causesTold s).pf ∧
    (recoveryStage s).pw = (causesTold s).pw ∧ (recoveryStage s).rs = { s.rs with stage := .recovery, supUp := true, causes := [] } := by
  refine ⟨rfl, rfl, rfl, ?_⟩
  rw [recoveryStage, updRs_rs, recordCauses_rs]

theorem recoveryTold_kept (cause : Nat) (s : State) : (recoveryTold cause s).mb.epoch = s.mb.epoch ∧
    (recoveryTold cause s).mb.nextSession = s.mb.nextSession ∧ (recoveryTold cause s).pf.strap = s.pf.strap ∧ (recoveryTold cause s).pw = s.pw ∧
    (recoveryTold cause s).rs = { s.rs with stage := .recovery, supUp := true, causes := [] } := by
  have hcauses := told_causesTold s
  have htold : Told (recoveryStage s) (recoveryTold cause s) := told_happen _ _ _ _
  obtain ⟨hmb, hpf, hpw, hrs⟩ := recoveryStage_kept s
  refine ⟨?_, ?_, ?_, (htold.frame .pw (by decide)).trans (hpw.trans (hcauses.frame .pw (by decide))), (htold.frame .rs (by decide)).trans hrs⟩
  · rw [htold.mail, hmb, hcauses.mail]
  · rw [htold.mail, hmb, hcauses.mail]
  · rw [htold.profile, hpf, hcauses.profile]

theorem enterRecovery_recovers (cause : Nat) (s : State) : Recovers s (enterRecovery cause (recordCauses s)) := by
  obtain ⟨hepoch, hsession, hstrap, hpw, hrs⟩ := recoveryTold_kept cause s
  rw [enterRecovery_eq]
  obtain ⟨kepoch, ksession, huart, hactive, hnone, kstrap, kpw, krs⟩ := recoveryOpen_kept (paramDefault pMbUdpPort).toNat (paramDefault pMbIpv4Addr).toNat
    (paramDefault pMbSeEnable).toNat (recoveryTold cause s)
  exact ⟨⟨kepoch.trans hepoch, ksession.trans hsession, huart⟩, ⟨hactive, hnone, kstrap.trans hstrap⟩, kpw.trans hpw, krs.trans hrs⟩

/-- D4 is released and no update falls back. -/
theorem d4Release_boots (straps : List Nat) (hst : s.rs.stage = .compute) (hnil : s.rs.asserted = []) (hlen : s.pw.doms.length = 13)
    (hkeep : s.rs.restart = true ∨ s.up.commit.st ≠ .activated ∨ s.rs.failed = 0) :
    ∃ t, exec (.d4Release straps) s = .next t ∧ t.mb.epoch = (if 0xFFFFFFFF ≤ s.mb.epoch then 0xFFFFFFFF else s.mb.epoch + 1) ∧
      t.mb.nextSession = 1 ∧ t.pf.strap = strapIn straps s ∧ (∀ d : Nat, domOf t d = if 4 ≤ d ∧ d ≤ 7 then .on else domOf s d) ∧ t.rs.episode = none ∧
      (∀ e, s.rs.episode = some e → t.rs.lastLevel = e.1 ∧ t.rs.lastMask = e.2) ∧
      (if s.rs.restart = false ∧ (strapIn straps s = 6 ∨ 3 ≤ s.rs.failed) then
        t.rs.stage = .recovery ∧ t.rs.supUp = true ∧ t.pf.active = 16 ∧ t.pf.none = true ∧ t.rs.causes = [] ∧ t.mb.uartEnable = true
      else t.rs.stage = .rom ∧ t.rs.supUp = s.rs.supUp ∧ onlyIn [.mb, .pf, .rs, .pw] s t) := by
  obtain ⟨hframe, hepoch, hsession, hstrap, hdoms, hrs, hlast⟩ := romReady_ready straps hnil
  have hrun := d4Release_now straps hst hnil
  generalize romReady straps s = r at *
  have hrestart : r.rs.restart = s.rs.restart := by rw [hrs]
  have hfailed : r.rs.failed = s.rs.failed := by rw [hrs]
  have hepisode : r.rs.episode = none := by rw [hrs]
  have hsup : r.rs.supUp = s.rs.supUp := by rw [hrs]
  have hup : r.up = s.up := hframe .up (by decide)
  have hact : s.rs.restart = false → ¬(r.up.commit.st = .activated ∧ 1 ≤ r.rs.failed) := fun hr ⟨h1, h2⟩ => by
    rw [hup] at h1
    rcases hkeep with h | h | h
    · exact absurd (hr.symm.trans h) (by decide)
    · exact h h1
    · omega
  by_cases hrec : s.rs.restart = false ∧ (strapIn straps s = 6 ∨ 3 ≤ s.rs.failed)
  · obtain ⟨hr, hwhy⟩ := hrec
    obtain ⟨cause, hrom⟩ := romStart_recovers (s := r) (hrestart.trans hr) (hact hr) (by rw [hstrap, hfailed]; exact hwhy)
    obtain ⟨⟨hepoch', hsession', huart⟩, ⟨hactive, hnone, hstrap'⟩, hpw, hrs'⟩ := enterRecovery_recovers cause r
    refine ⟨_, hrun.trans (congrArg Host.Outcome.next hrom), hepoch'.trans hepoch, hsession'.trans hsession, hstrap'.trans hstrap, fun d => ?_, ?_, fun e he => ?_, ?_⟩
    · have hd := hdoms hlen d
      unfold domOf at hd ⊢
      rw [hpw]
      exact hd
    · rw [hrs']
      exact hepisode
    · rw [hrs']
      exact hlast e he
    · rw [if_pos ⟨hr, hwhy⟩, hrs']
      exact ⟨rfl, rfl, hactive, hnone, rfl, huart⟩
  · have hrom : romStart r = updRs (fun x => { x with stage := .rom }) r := by
      refine romStart_goes ?_
      cases hr : s.rs.restart with
      | true => exact .inl (hrestart.trans hr)
      | false =>
        have hno : ¬(strapIn straps s = 6 ∨ 3 ≤ s.rs.failed) := fun h => hrec ⟨hr, h⟩
        exact .inr ⟨hact hr, fun h => hno (.inl (hstrap.symm.trans h)), by rw [hfailed]; exact Nat.lt_of_not_le (fun h => hno (.inr h))⟩
    refine ⟨_, hrun.trans (congrArg Host.Outcome.next hrom), hepoch, hsession, hstrap, hdoms hlen, hepisode, hlast, ?_⟩
    rw [if_neg hrec]
    exact ⟨rfl, hsup, onlyIn_step (onlyIn_put_rs _ _) rfl hframe⟩

/-! ### The fall-back of a boot that failed (R357) -/

theorem assertSource_asserted (src L us : Nat) (s : State) :
    (assertSource src L us s).rs.asserted = s.rs.asserted.filter (fun a => a.1 != src) ++ [(src, L)] := by
  obtain ⟨load, map, failed, out, wiped, restart, counted, hrs⟩ := assertSource_rs src L us s
  rw [hrs]
  rfl

theorem assertDown_carried (src L us : Nat) (s : State) : (assertDown src L us s).up.commit = s.up.commit ∧ (assertDown src L us s).up.active = s.up.active := by
  have hload := (nearly_assertLoad src L s).carried
  unfold assertDown
  split
  · have hsup := (supervisorDown_carried (assertLoad src L s)).1
    have hrest := (sysHeld_carried us (assertLoad src L s)).trans (carried_systemDown us (assertLoad src L s))
    exact ⟨hrest.commit.trans (hsup.commit.trans hload.commit), hrest.active.trans (hsup.active.trans hload.active)⟩
  · have hdown := (computeDown_carried (assertLoad src L s)).1
    exact ⟨hdown.commit.trans hload.commit, hdown.active.trans hload.active⟩

/-- An assertion keeps the commit record and the active slots. -/
theorem assertSource_update (src L us : Nat) (s : State) :
    (assertSource src L us s).up.commit = s.up.commit ∧ (assertSource src L us s).up.active = s.up.active := by
  obtain ⟨hcommit, hactive⟩ := assertDown_carried src L us s
  have hmark := (told_assertMarked src L us s).carried.trans (carried_aside (onlyIn_mono (assertSource_last src L us s) rfl))
  exact ⟨hmark.commit.trans hcommit, hmark.active.trans hactive⟩

theorem fallBack_falls (result : Nat) (hnil : s.rs.asserted = []) : (fallBack result s).up.commit.st = .fallenBack ∧
    (fallBack result s).up.active = s.up.commit.oldMap ∧ (fallBack result s).rs.supUp = false ∧ (fallBack result s).rs.asserted.length = 1 := by
  obtain ⟨hst, hactive, -⟩ := fallBackWrite_up result s
  have hclose := told_closeAll 2 (fallBackWrite result s)
  have hrs : (closeAll 2 (fallBackWrite result s)).rs = s.rs := (hclose.frame .rs (by decide)).trans (frame_fallBackWrite result s .rs (by decide))
  have hup : (closeAll 2 (fallBackWrite result s)).up = (fallBackWrite result s).up := hclose.frame .up (by decide)
  unfold fallBack softReset
  generalize sourceLevel (fallBackWrite result s) 5 1 = L
  generalize closeAll 2 (fallBackWrite result s) = c at *
  obtain ⟨hcommit, hact⟩ := assertSource_update 5 L (usFrame s) c
  refine ⟨by rw [hcommit, hup, hst], by rw [hact, hup, hactive], (assertSource_fellRs 5 L (usFrame s) c).stopped.1, ?_⟩
  rw [assertSource_asserted, hrs, hnil]
  rfl

theorem d4Release_fallsBack (straps : List Nat) (hst : s.rs.stage = .compute) (hnil : s.rs.asserted = []) (hrun : s.rs.restart = false)
    (hact : s.up.commit.st = .activated) (hfailed : 1 ≤ s.rs.failed) :
    ∃ t, exec (.d4Release straps) s = .next t ∧ t.up.commit.st = .fallenBack ∧ t.up.active = s.up.commit.oldMap ∧ t.rs.supUp = false ∧
      t.rs.asserted.length = 1 := by
  obtain ⟨hframe, -, -, -, -, hrs, -⟩ := romReady_ready straps hnil
  have hexec := d4Release_now straps hst hnil
  generalize romReady straps s = r at *
  have hrestart : r.rs.restart = false := by rw [hrs]; exact hrun
  have hfailed' : 1 ≤ r.rs.failed := by rw [hrs]; exact hfailed
  have hnil' : r.rs.asserted = [] := by rw [hrs]; exact hnil
  have hup : r.up = s.up := hframe .up (by decide)
  have hrom := romStart_fallsBack hrestart (by rw [hup]; exact hact) hfailed'
  obtain ⟨hstate, hactive, hsup, hone⟩ := fallBack_falls 11 hnil'
  rw [hup] at hactive
  exact ⟨fallBack 11 r, hexec.trans (congrArg Host.Outcome.next hrom), hstate, hactive, hsup, hone⟩

end Sys2Proof.Proofs
end

section
/-!
PROOFS. The images of the boot, its profile and its end (R41, R50, R57, R58, R357, R358, R374, R375, R381), and O53.
-/

namespace Sys2Proof.Proofs

open Sys2Proof.Machine Sys2Proof.Safety

variable {s t u : State}

/-! ### The supervisor's image (R41, R374) -/

/-- The supervisor runs with the horizon it takes over. -/
def imageUp (h : Nat) (s : State) : State :=
  updPw (fun p => { p with sb := { p.sb with horizon := none } }) (updRs (fun r => { r with stage := .firmware, supUp := true })
    { s with mb := { s.mb with horizon := h }, up := { s.up with moving := true, movedAt := some s.clk.ms, peers := [] } })

/-- What happened before it is told. -/
def imageTold (h : Nat) (s : State) : State := panelRecord (recordCauses (imageUp h s))

theorem supervisorImage_eq (hst : s.rs.stage = .rom) : exec (.supervisorImageLoaded true) s = .next ([60, 61, 62, 63].foldl (fun st b => bankPower b .off st)
    (imageTold (if s.rs.restart then horizonOf s else s.pw.sb.horizon.getD (horizonOf s)) s)) :=
  congrArg Host.Outcome.next ((if_pos hst).trans (if_pos rfl))

theorem bankPower_off_st {b : Nat} (hb : b < s.mc.banks.length) (j : Nat) : (bankPower b .off s).mc.banks.length = s.mc.banks.length ∧
    (bankOf (bankPower b .off s) j).st = if j = b then .off else (bankOf s j).st := by
  by_cases h : (bankOf s b).st = .off
  · rw [bankPower_same (.inl h.symm)]
    refine ⟨rfl, ?_⟩
    split
    · rename_i hj
      rw [hj, h]
    · rfl
  · rw [bankPower_off h]
    refine ⟨length_updAt _ _ _, ?_⟩
    have hlost : bankOf (bankLost b s) j = bankOf (updMcBank b (fun k => { k with st := .off, ready := false, scrub := false }) s) j := rfl
    rw [hlost]
    by_cases hj : j = b
    · rw [hj, bankOf_updMcBank _ hb, if_pos rfl]
    · rw [bankOf_updMcBank_other _ hj, if_neg hj]

theorem bankPower_off_fold (bs : List Nat) (hbs : ∀ b ∈ bs, b < s.mc.banks.length) (j : Nat) :
    (bankOf (bs.foldl (fun st b => bankPower b .off st) s) j).st = if j ∈ bs then .off else (bankOf s j).st := by
  induction bs generalizing s with
  | nil => rfl
  | cons b bs ih =>
    obtain ⟨hlen, hone⟩ := bankPower_off_st (hbs b List.mem_cons_self) j
    rw [List.foldl_cons, ih (fun x hx => by rw [hlen]; exact hbs x (List.mem_cons_of_mem _ hx)), hone]
    by_cases hj : j = b <;> simp [hj]

theorem bankPower_fold_frame (bs : List Nat) (s : State) : onlyIn [.mc] s (bs.foldl (fun st b => bankPower b .off st) s) :=
  List.foldlRecOn (motive := onlyIn [.mc] s) bs _ (onlyIn_refl _ _) (fun _ hx b _ => onlyIn_step (frame_bankPower b .off _) rfl hx)

theorem Told.horizon (h : Told s t) : t.mb.horizon = s.mb.horizon := by rw [h.mail]

theorem panelRecord_mb (s : State) : (panelRecord s).mb.horizon = s.mb.horizon := by
  unfold panelRecord
  split
  · rw [updSp_mb]
    exact (told_happen _ _ _ _).horizon
  · rfl

theorem imageTold_kept (h : Nat) (s : State) : onlyIn [.mb, .pf, .ev, .up, .rs, .pw, .sp, .out] s (imageTold h s) ∧ (imageTold h s).mb.horizon = h ∧
    (imageTold h s).up.moving = true ∧ (imageTold h s).rs.stage = .firmware ∧ (imageTold h s).rs.supUp = true ∧ (imageTold h s).rs.causes = [] := by
  have hrec := frame_recordCauses (imageUp h s)
  have hpan := frame_panelRecord (recordCauses (imageUp h s))
  have hstart : onlyIn [.mb, .up, .rs, .pw] s (imageUp h s) := 
    onlyIn_step (onlyIn_put_pw _ _) rfl (onlyIn_step (onlyIn_put_rs _ _) rfl (onlyIn_mono (onlyIn_put_mb_up _ _ s) rfl))
  have hrs : (imageTold h s).rs = { (imageUp h s).rs with causes := [] } := (hpan .rs (by decide)).trans (recordCauses_rs _)
  have hhor : (recordCauses (imageUp h s)).mb.horizon = (imageUp h s).mb.horizon := (told_causesTold (imageUp h s)).horizon
  have hup : (imageTold h s).up = (imageUp h s).up := (hpan .up (by decide)).trans (hrec .up (by decide))
  refine ⟨onlyIn_step hpan rfl (onlyIn_step hrec rfl (onlyIn_mono hstart rfl)), (panelRecord_mb _).trans hhor, ?_, ?_, ?_, ?_⟩
  · rw [hup]
    rfl
  · rw [hrs]
    rfl
  · rw [hrs]
    rfl
  · rw [hrs]

theorem supervisorImage_starts (hst : s.rs.stage = .rom) (hlen : s.mc.banks.length = 64) : ∃ t, exec (.supervisorImageLoaded true) s = .next t ∧
    onlyIn [.mb, .pf, .ev, .mc, .up, .rs, .pw, .sp, .out] s t ∧ t.rs.stage = .firmware ∧ t.rs.supUp = true ∧ t.rs.causes = [] ∧
    t.mb.horizon = (if s.rs.restart then horizonOf s else s.pw.sb.horizon.getD (horizonOf s)) ∧ t.up.moving = true ∧
    (∀ b : Nat, (bankOf t b).st = if 60 ≤ b ∧ b < 64 then .off else (bankOf s b).st) := by
  refine ⟨_, supervisorImage_eq hst, ?_⟩
  generalize (if s.rs.restart then horizonOf s else s.pw.sb.horizon.getD (horizonOf s)) = h
  obtain ⟨hframe, hhor, hmoving, hstage, hsup, hcauses⟩ := imageTold_kept h s
  generalize imageTold h s = x at *
  have hmc : x.mc = s.mc := hframe .mc (by decide)
  have hfold := bankPower_fold_frame [60, 61, 62, 63] x
  have hbank := bankPower_off_fold (s := x) [60, 61, 62, 63] (by rw [hmc, hlen]; decide)
  generalize [60, 61, 62, 63].foldl (fun st b => bankPower b .off st) x = t at *
  have hrs : t.rs = x.rs := hfold .rs (by decide)
  have hmb : t.mb = x.mb := hfold .mb (by decide)
  have hup : t.up = x.up := hfold .up (by decide)
  refine ⟨onlyIn_step hfold rfl (onlyIn_mono hframe rfl), by rw [hrs, hstage], by rw [hrs, hsup], by rw [hrs, hcauses], by rw [hmb, hhor],
    by rw [hup, hmoving], fun b => ?_⟩
  have hx : bankOf x b = bankOf s b := by unfold bankOf; rw [hmc]
  rw [hbank, hx]
  refine if_congr ?_ rfl rfl
  simp only [List.mem_cons, List.not_mem_nil, or_false]
  omega

theorem supervisorImage_fails (hst : s.rs.stage = .rom) :
    ((s.rs.counted = true ∨ s.rs.restart = true) → exec (.supervisorImageLoaded false) s = .next s) ∧
    (s.rs.counted = false → s.rs.restart = false → exec (.supervisorImageLoaded false) s =
      .next (happen detBootFailure 0 0 { s with rs := { s.rs with failed := s.rs.failed + 1, counted := true } })) := by
  have hrun : exec (.supervisorImageLoaded false) s = .next (if (s.rs.counted || s.rs.restart) = true then s else
      happen detBootFailure 0 0 (updRs (fun r => { r with failed := r.failed + 1, counted := true }) s)) :=
    congrArg Host.Outcome.next ((if_pos hst).trans (if_neg (by decide)))
  rw [hrun]
  exact ⟨fun h => congrArg Host.Outcome.next (if_pos (by simpa using h)),
    fun hc hr => congrArg Host.Outcome.next (if_neg (by rw [hc, hr]; decide))⟩

/-! ### The lanes' image (R50, R374) -/

theorem laneImage_loads (hst : s.rs.stage = .firmware) (hrun : s.rs.restart = false) : ∃ t, exec .laneImageLoaded s = .next t ∧ onlyIn [.mb, .rs] s t ∧
    t.rs = { s.rs with stage := .lanes } ∧ t.mb.udpPort = paramN s pMbUdpPort ∧ t.mb.ipv4 = paramN s pMbIpv4Addr ∧ t.mb.sessions = s.mb.sessions := by
  have hexec : exec .laneImageLoaded s = .next (execLaneImageLoaded.transportsOn { s with rs := { s.rs with stage := .lanes } }) :=
    congrArg Host.Outcome.next (if_pos (by rw [hst, hrun]; rfl))
  have hparam : ∀ id, paramN { s with rs := { s.rs with stage := .lanes } } id = paramN s id := fun _ => rfl
  exact ⟨_, hexec, frame_execLaneImageLoaded s _ hexec, rfl, hparam _, hparam _, rfl⟩

theorem laneImage_waits (h : s.rs.stage ≠ .firmware ∨ s.rs.restart = true) : exec .laneImageLoaded s = .next s := by
  refine congrArg Host.Outcome.next (if_neg ?_)
  rw [Bool.and_eq_true, decide_eq_true_iff, Bool.not_eq_true']
  rintro ⟨hst, hrun⟩
  exact h.elim (· hst) (by rw [hrun]; decide)

end Sys2Proof.Proofs
end

section
/-!
PROOFS. The profile selected at start-up stays in force through what its activation does to the parts (R57, R58, R69, R70), for O53.
-/

namespace Sys2Proof.Proofs

open Sys2Proof.Machine Sys2Proof.Safety

variable {s t u : State}

/-! ### The profile in force -/

/-- The same profile is in force from the same source. -/
structure SameProfile (s t : State) : Prop where
  active : t.pf.active = s.pf.active
  source : t.pf.source = s.pf.source
  none : t.pf.none = s.pf.none
  start : t.pf.startPending = s.pf.startPending

theorem SameProfile.refl (s : State) : SameProfile s s := ⟨rfl, rfl, rfl, rfl⟩

theorem SameProfile.trans (h : SameProfile s t) (h' : SameProfile t u) : SameProfile s u :=
  ⟨h'.active.trans h.active, h'.source.trans h.source, h'.none.trans h.none, h'.start.trans h.start⟩

/-- The same, from the last change backwards, as a state is written. -/
theorem sameProfile_step (h' : SameProfile t u) (h : SameProfile s t) : SameProfile s u := h.trans h'

theorem sameProfile_pf (h : t.pf = s.pf) : SameProfile s t := ⟨by rw [h], by rw [h], by rw [h], by rw [h]⟩

theorem Told.sameProfile (h : Told s t) : SameProfile s t := by
  have hpf := h.profile
  exact ⟨by rw [hpf], by rw [hpf], by rw [hpf], by rw [hpf]⟩

theorem sameProfile_foldl {α : Type} {f : State → α → State} (hf : ∀ x a, SameProfile x (f x a)) (l : List α) (s : State) :
    SameProfile s (l.foldl f s) := by
  induction l generalizing s with
  | nil => exact .refl s
  | cons a l ih => exact (hf s a).trans (ih _)

theorem sameProfile_ite {c : Prop} [Decidable c] {a b : State} (ha : SameProfile s a) (hb : SameProfile s b) : SameProfile s (if c then a else b) := by
  split
  · exact ha
  · exact hb

/-! ### What the parts do at an activation -/

theorem sameProfile_updCan (p : Nat) (f : CanPort → CanPort) (s : State) : SameProfile s (updCan p f s) := sameProfile_pf rfl

theorem sameProfile_canRestart (p : Nat) (s : State) : SameProfile s (canRestart p s) := by
  unfold canRestart
  extract_lets s1
  have h1 : SameProfile s s1 := sameProfile_step (told_detect _ _ _ _ _).sameProfile (told_detect _ _ _ _ _).sameProfile
  exact sameProfile_ite (sameProfile_step (sameProfile_updCan p _ s1) h1) (sameProfile_step (sameProfile_updCan p _ s1) h1)

theorem sameProfile_canActivate (old s : State) : SameProfile s (canActivate old s) := by
  refine sameProfile_foldl (fun x p => ?_) _ s
  extract_lets st1
  have h1 : SameProfile x st1 := sameProfile_updCan p _ x
  exact sameProfile_ite (sameProfile_step (sameProfile_canRestart p st1) h1) h1

theorem sameProfile_qzClearFault (ch : Nat) (s : State) : SameProfile s (qzClearFault ch s) :=
  sameProfile_step (told_foldl (fun x d => told_clearActive d (ch + 1) x) _ _).sameProfile
    (sameProfile_step (told_rawEvent _ _ _ _).sameProfile (sameProfile_pf (frame_updQz _ _ s .pf (by decide))))

theorem sameProfile_quartzApply (s : State) : SameProfile s (quartzApply s) := by
  refine sameProfile_foldl (fun x ch => ?_) _ s
  refine sameProfile_step ?_ (sameProfile_pf (frame_qzApplyRole ch x .pf (by decide)))
  exact sameProfile_ite (sameProfile_qzClearFault ch _) (.refl _)

theorem sameProfile_quartzActivate (s : State) : SameProfile s (quartzActivate s) :=
  sameProfile_step (sameProfile_quartzApply _) (sameProfile_pf rfl)

theorem sameProfile_delayActivate (s : State) : SameProfile s (delayActivate s) := sameProfile_ite (.refl s) ⟨rfl, rfl, rfl, rfl⟩

theorem sameProfile_clearGroups (s : State) : SameProfile s (clearGroups s) := sameProfile_pf rfl

theorem sameProfile_optStop (mark : Bool) (s : State) : SameProfile s (optStop mark s) :=
  sameProfile_ite (.refl s) (sameProfile_step (said_happenMarked _ _ _ _ _).toTold.sameProfile (sameProfile_pf rfl))

theorem sameProfile_supApply (s : State) : SameProfile s (supApply s) := by
  refine sameProfile_foldl (fun x k => ?_) _ s
  have hsup : ∀ f, SameProfile x (updSup k f x) := fun f => sameProfile_pf (frame_updSup k f x .pf (by decide))
  exact sameProfile_ite (sameProfile_ite (hsup _) (.refl x)) (sameProfile_step (told_detect _ _ _ _ _).sameProfile (hsup _))

theorem sameProfile_disengage (cause : Nat) (s : State) : SameProfile s (disengage cause s) :=
  sameProfile_ite (.refl s) (sameProfile_step (said_happenMarked _ _ _ _ _).toTold.sameProfile (sameProfile_pf (frame_steerOff cause s .pf (by decide))))

theorem sameProfile_graniteActivate (old : List Bytes) (slot : Nat) (s : State) : SameProfile s (graniteActivate old slot s) := by
  unfold graniteActivate
  extract_lets fns loops s1 fb s2
  have h2 : SameProfile s s2 := sameProfile_pf rfl
  exact sameProfile_ite (sameProfile_step (sameProfile_disengage 5 s2) h2) h2

theorem sameProfile_partsActivate (old s : State) : SameProfile s (partsActivate old s) := by
  unfold partsActivate
  extract_lets oldFuncs s1 s2 s3 s4
  have h1 : SameProfile s s1 := sameProfile_canActivate old s
  have h2 : SameProfile s1 s2 := sameProfile_step (sameProfile_clearGroups _) (sameProfile_step (sameProfile_delayActivate _) (sameProfile_quartzActivate s1))
  have h3 : SameProfile s2 s3 := sameProfile_step (sameProfile_optStop false _)
    (sameProfile_step (sameProfile_pf (frame_lsActivate _ .pf (by decide))) (sameProfile_pf (frame_vdActivate s2 .pf (by decide))))
  have h4 : SameProfile s3 s4 := sameProfile_step (sameProfile_supApply _) (sameProfile_graniteActivate _ _ s3)
  exact ((h1.trans h2).trans h3).trans (h4.trans (sameProfile_pf rfl))

theorem sameProfile_vdOff (ch : Nat) (s : State) : SameProfile s (vdOff ch s) := by
  unfold vdOff
  extract_lets t s1
  have hreport : ∀ x, SameProfile x (reportPulse ch none x) := fun x => by
    unfold reportPulse
    split
    · exact .refl x
    · have htiming : ∀ e y, SameProfile y (timingErr e y).2 := fun e y => sameProfile_pf (frame_timingErr e y .pf (by decide))
      exact sameProfile_step (told_detect _ _ _ _ _).sameProfile (sameProfile_step (sameProfile_pf (frame_updVd _ _ _ .pf (by decide)))
        (sameProfile_step (htiming _ _) (htiming _ _)))
  have hsettle : ∀ k t x, SameProfile x (settleBank k t x) := fun k t x => sameProfile_pf (frame_settleBank k t x .pf (by decide))
  have hupd : ∀ f x, SameProfile x (updVd ch f x) := fun f x => sameProfile_pf (frame_updVd ch f x .pf (by decide))
  exact sameProfile_ite (.refl s) (sameProfile_step (hsettle _ _ _) (sameProfile_step (hupd _ _) (sameProfile_step (hreport _) (hupd _ _))))

theorem sameProfile_lsOff (ch t : Nat) (s : State) : SameProfile s (lsOff ch t s) := by
  have hupd : ∀ f x, SameProfile x (updLs ch f x) := fun f x => sameProfile_pf (frame_updLs ch f x .pf (by decide))
  have hdetect : ∀ d x, SameProfile x (detect d (ch + 1) false 0 x) := fun d x => (told_detect _ _ _ _ _).sameProfile
  unfold lsOff
  extract_lets s1
  have h1 : SameProfile s s1 := hupd _ s
  have hoff : SameProfile s (turnOff ch t false s1) := sameProfile_step (sameProfile_step (hdetect _ _) (hupd _ _)) h1
  have hcool : SameProfile s (detect detCoupledShutdown (ch + 1) false 0 (updLs ch (fun c => { c with st := .off })
      { s1 with ls := { s1.ls with shed := s1.ls.shed.filter (· != ch) } })) :=
    sameProfile_step (sameProfile_step (hdetect _ _) (hupd _ _)) (sameProfile_step (t := s1) (sameProfile_pf rfl) h1)
  split
  case h_5 => exact sameProfile_step (hupd _ _) h1
  case h_6 | h_7 => exact hcool
  case h_8 | h_9 => exact h1
  all_goals exact hoff

theorem sameProfile_psGate (slot : Nat) (s : State) : SameProfile s (psGate slot s) := by
  have hstop : ∀ g x, SameProfile x (vdStop g x) := fun g x => sameProfile_foldl (fun y ch => sameProfile_ite (sameProfile_vdOff ch y) (.refl y)) _ x
  exact sameProfile_ite (sameProfile_step (sameProfile_foldl (fun y ch => sameProfile_lsOff ch _ y) _ _) (sameProfile_step (hstop _ _) (hstop _ s))) (.refl s)

theorem sameProfile_psTransports (slot : Nat) (s : State) : SameProfile s (psTransports slot s) := sameProfile_ite ⟨rfl, rfl, rfl, rfl⟩ (.refl s)

end Sys2Proof.Proofs
end

section
/-!
PROOFS. The boot's profile, a lifecycle transition, boot complete and its time limit, and the end of an L2 restart (R57, R58, R357, R358, R374, R375,
R381), and O53.
-/

namespace Sys2Proof.Proofs

open Sys2Proof.Machine Sys2Proof.Safety

variable {s t u : State}

/-! ### The profile at start-up (R57, R58) -/

/-- The profile that an activation is about to put in force. -/
def inForce (slot source : Nat) (m : Image) (crc : Nat) (s x : State) : State := updPf (fun p => { p with
  work := workingCopy m, active := slot, source, modified := false, crc, since := s.clk.frame, none := false, actOrder := s.mb.order }) x

theorem activateProfile_selects (slot source : Nat) (m : Image) (crc : Nat) (s : State) : (activateProfile slot source m crc s).pf.active = slot ∧
    (activateProfile slot source m crc s).pf.source = source ∧ (activateProfile slot source m crc s).pf.none = false := by
  have hlast : ∀ x, SameProfile (inForce slot source m crc s x)
      (rawEvent evProfileActivated 0 slot (psGate slot (partsActivate s (psTransports slot (inForce slot source m crc s x))))) := fun x =>
    sameProfile_step (told_rawEvent _ _ _ _).sameProfile (sameProfile_step (sameProfile_psGate slot _)
      (sameProfile_step (sameProfile_partsActivate s _) (sameProfile_psTransports slot _)))
  obtain ⟨hactive, hsource, hnone, -⟩ := hlast (if s.pf.none then s else leaveProfile m.funcs s)
  exact ⟨hactive, hsource, hnone⟩

theorem startProfile_ps {src : Nat} (h : strapChoice s = (16, src)) : ∃ m crc x, startProfile s = activateProfile 16 src m crc x := by
  unfold startProfile
  rw [h]
  exact ⟨startProfile.parsedPs.1, startProfile.parsedPs.2, if src = 4 then happen detInvalidProfileStrap 0 0 s else s, if_pos rfl⟩

theorem startProfile_slot {k src : Nat} (h : strapChoice s = (k, src)) (hk : k ≠ 16) :
    (slotFail k (loadJudge k s) ≠ none → ∃ m crc x, startProfile s = activateProfile 16 3 m crc x) ∧
    (slotFail k (loadJudge k s) = none → ∃ m crc x, startProfile s = activateProfile k src m crc x) := by
  unfold startProfile
  rw [h]
  dsimp only
  rw [if_neg hk]
  cases hfail : slotFail k (loadJudge k s) with
  | some d => exact ⟨fun _ => ⟨_, _, _, rfl⟩, fun h => absurd h (by simp)⟩
  | none => exact ⟨fun h => absurd rfl h, fun _ => ⟨_, _, _, rfl⟩⟩

theorem startProfile_selects {k src : Nat} (h : strapChoice s = (k, src)) : (startProfile s).pf.none = false ∧
    (startProfile s).pf.active = (if k = 16 ∨ slotFail k (loadJudge k s) ≠ none then 16 else k) ∧
    (startProfile s).pf.source = (if k ≠ 16 ∧ slotFail k (loadJudge k s) ≠ none then 3 else src) := by
  by_cases hk : k = 16
  · subst hk
    obtain ⟨m, crc, x, hx⟩ := startProfile_ps h
    obtain ⟨hactive, hsource, hnone⟩ := activateProfile_selects 16 src m crc x
    rw [hx, if_pos (.inl rfl), if_neg (fun hc => hc.1 rfl)]
    exact ⟨hnone, hactive, hsource⟩
  · obtain ⟨hps, hslot⟩ := startProfile_slot h hk
    by_cases hfail : slotFail k (loadJudge k s) = none
    · obtain ⟨m, crc, x, hx⟩ := hslot hfail
      obtain ⟨hactive, hsource, hnone⟩ := activateProfile_selects k src m crc x
      rw [hx, if_neg (fun hc => hc.elim hk (· hfail)), if_neg (fun hc => hc.2 hfail)]
      exact ⟨hnone, hactive, hsource⟩
    · obtain ⟨m, crc, x, hx⟩ := hps hfail
      obtain ⟨hactive, hsource, hnone⟩ := activateProfile_selects 16 3 m crc x
      rw [hx, if_pos (.inr hfail), if_pos ⟨hk, hfail⟩]
      exact ⟨hnone, hactive, hsource⟩

/-- The profile has started. -/
def profileStarted (s : State) : State :=
  updRs (fun x => { x with stage := .active }) (updPf (fun p => { p with startPending := true }) (startProfile s))

/-- The parts come up. -/
def partsStarted (x : State) : State := panelRecover (gnssStart (quartzStart (transportsInForce x)))

theorem sameProfile_partsStarted (x : State) : SameProfile x (partsStarted x) :=
  sameProfile_step (sameProfile_pf (frame_panelRecover _ .pf (by decide))) (sameProfile_step (sameProfile_pf (frame_gnssStart _ .pf (by decide)))
    (sameProfile_step (sameProfile_step (sameProfile_quartzApply _) (sameProfile_pf rfl)) ⟨rfl, rfl, rfl, rfl⟩))

theorem partsStarted_rs (x : State) : (partsStarted x).rs = x.rs :=
  (frame_panelRecover _ .rs (by decide)).trans ((frame_gnssStart _ .rs (by decide)).trans ((frame_quartzStart _ .rs (by decide)).trans
    (frame_transportsInForce x .rs (by decide))))

theorem bootProfile_waits (h : s.rs.stage ≠ .lanes) : exec .bootProfileActivation s = .next s := congrArg Host.Outcome.next (if_neg h)

theorem bootRecord_none (h : s.up.commit.st = .none) : bootRecord s = (s, true) := by
  simp only [bootRecord, h]

theorem bootRecord_held (h : s.up.commit.st = .prepared) (hlead : s.up.commit.leader = false) : bootRecord s = (s, false) := by
  simp only [bootRecord, h, hlead]
  rfl

theorem bootProfile_held (hst : s.rs.stage = .lanes) (hint : s.rs.intent = none) (h : s.up.commit.st = .prepared) (hlead : s.up.commit.leader = false) :
    exec .bootProfileActivation s = .next s := by
  refine congrArg Host.Outcome.next ((if_pos hst).trans ?_)
  rw [hint]
  show (if (!(bootRecord s).2) = true then (bootRecord s).1 else _) = s
  rw [bootRecord_held h hlead]
  rfl

theorem bootProfile_starts (hst : s.rs.stage = .lanes) (hint : s.rs.intent = none) (h : s.up.commit.st = .none) :
    ∃ t, exec .bootProfileActivation s = .next t ∧ t.rs = { s.rs with stage := .active } ∧ t.pf.startPending = true ∧ t.pf.none = false ∧
      (∀ k src, strapChoice s = (k, src) →
        t.pf.active = (if k = 16 ∨ slotFail k (loadJudge k s) ≠ none then 16 else k) ∧
        t.pf.source = (if k ≠ 16 ∧ slotFail k (loadJudge k s) ≠ none then 3 else src)) := by
  have hexec : exec .bootProfileActivation s = .next (partsStarted (profileStarted s)) := by
    refine congrArg Host.Outcome.next ((if_pos hst).trans ?_)
    rw [hint]
    show (if (!(bootRecord s).2) = true then (bootRecord s).1 else
      partsStarted (updRs (fun x => { x with stage := .active }) (updPf (fun p => { p with startPending := true }) (startProfile (bootRecord s).1)))) = _
    rw [bootRecord_none h]
    rfl
  obtain ⟨hactive, hsource, hnone, hstart⟩ := sameProfile_partsStarted (profileStarted s)
  have hrs : (startProfile s).rs = s.rs := frame_startProfile s .rs (by decide)
  refine ⟨partsStarted (profileStarted s), hexec, ?_, hstart, ?_, fun k src hks => ?_⟩
  · rw [partsStarted_rs, profileStarted, updRs_rs, updPf_rs, hrs]
  · exact hnone.trans (startProfile_selects (k := (strapChoice s).1) (src := (strapChoice s).2) rfl).1
  · obtain ⟨-, ha, hs⟩ := startProfile_selects hks
    exact ⟨hactive.trans ha, hsource.trans hs⟩

/-! ### A lifecycle transition (R381) -/

theorem wipes_lifecycle (old new : Nat) (s : State) : (wipes old new s).rs.lifecycle = s.rs.lifecycle := by
  unfold wipes
  split
  · rfl
  split
  · extract_lets s1
    have h1 : s1.rs = s.rs := (frame_endInjections _ _ .rs (by decide)).trans (frame_wipeCapture s .rs (by decide))
    rw [frame_ringEnter _ _ .rs (by decide), frame_ringZero _ .rs (by decide), frame_updCap _ _ .rs (by decide), frame_endReplay _ _ .rs (by decide), h1]
  split
  · rw [frame_wipeImages _ .rs (by decide)]
    rfl
  · rfl

theorem assertSource_life (src L us : Nat) (s : State) : (assertSource src L us s).rs.lifecycle = s.rs.lifecycle ∧
    (assertSource src L us s).rs.intent = s.rs.intent ∧ (assertSource src L us s).rs.fuses = s.rs.fuses ∧ (assertSource src L us s).rs.supUp = false := by
  obtain ⟨load, map, failed, out, wiped, restart, counted, hrs⟩ := assertSource_rs src L us s
  rw [hrs]
  exact ⟨rfl, rfl, rfl, rfl⟩

/-- The transition is committed, and told. -/
def transitionTold (i : Intent) (s : State) : State :=
  rawEvent evLifecycleChange 0 (s.rs.lifecycle + 256 * i.target) (commitLifecycle i (wipes s.rs.lifecycle i.target s))

theorem bootProfile_finishes (i : Intent) (hst : s.rs.stage = .lanes) (hint : s.rs.intent = some i) : ∃ t, exec .bootProfileActivation s = .next t ∧
    t.rs.lifecycle = i.target ∧ t.rs.intent = none ∧ t.rs.supUp = false ∧ (s.rs.lifecycle = 2 → i.target = 3 → t.rs.fuses = i.map) := by
  have hexec : exec .bootProfileActivation s = .next (finishTransition i s) := by
    refine congrArg Host.Outcome.next ((if_pos hst).trans ?_)
    rw [hint]
  refine ⟨finishTransition i s, hexec, ?_⟩
  have hrs : (transitionTold i s).rs = (commitLifecycle i (wipes s.rs.lifecycle i.target s)).rs := frame_rawEvent _ _ _ _ .rs (by decide)
  unfold finishTransition
  extract_lets s1
  obtain ⟨hlife, hintent, hfuses, hsup⟩ := assertSource_life 5 (sourceLevel s1 5 1) (usFrame s1) (transitionTold i s)
  rw [hrs] at hlife hintent hfuses
  refine ⟨hlife, hintent, hsup, fun h2 h3 => hfuses.trans (if_pos ?_)⟩
  rw [wipes_lifecycle, h2, h3]
  rfl

/-! ### Boot complete (R357, R358, R374) -/

/-- The boot is complete. -/
def bootDone (ms : Nat) (s : State) : State :=
  updRs (fun r => { r with stage := .done, failed := 0, counted := false, bootMs := ms, rstout := true }) s

theorem bootComplete_waits (ms : Nat) (h : s.rs.stage ≠ .active ∨ s.gr.running = false) : exec (.bootComplete ms) s = .next s := by
  refine congrArg Host.Outcome.next (if_neg ?_)
  rw [Bool.and_eq_true, decide_eq_true_iff]
  rintro ⟨hst, hrun⟩
  exact h.elim (· hst) (by rw [hrun]; decide)

/-- The old copies that the first boot keeps. -/
def oldKept (s : State) : OldCopies := ⟨s.pf.slots.map (fun cs => cs.map (fun c => (c.gen, c.image, c.good))), s.pf.settings⟩

/-- The new profiles are written. -/
def newStored (s : State) : State := (newProfiles s).foldl (fun st e =>
  storeCopy ⟨e.1, saveTarget (slotCopies st e.1), saveGen (slotCopies st e.1), e.2, false⟩ true st) s

theorem newStored_frame (s : State) : onlyIn [.pf] s (newStored s) :=
  List.foldlRecOn (motive := onlyIn [.pf] s) (newProfiles s) _ (onlyIn_refl _ _) (fun _ hx _ _ => onlyIn_step (frame_storeCopy _ _ _) rfl hx)

theorem firstBoot_keeps (h : s.up.commit.st ≠ .activated ∨ s.up.old.isSome = true) : firstBoot s = s := by
  refine if_neg ?_
  rw [Bool.and_eq_true, decide_eq_true_iff, Option.isNone_iff_eq_none]
  rintro ⟨hact, hold⟩
  exact h.elim (· hact) (by rw [hold]; decide)

theorem firstBoot_first (hact : s.up.commit.st = .activated) (hold : s.up.old = none) :
    onlyIn (.up :: tells) s (firstBoot s) ∧ (firstBoot s).up.old = some (oldKept s) := by
  have hrun : firstBoot s = rawEvent evRennetCommit 0 (s.up.commit.frame % 2 ^ 32) (updUp (fun u => { u with old := some (oldKept s) }) (newStored s)) :=
    if_pos (by rw [hact, hold]; rfl)
  have htold := told_rawEvent evRennetCommit 0 (s.up.commit.frame % 2 ^ 32) (updUp (fun u => { u with old := some (oldKept s) }) (newStored s))
  rw [hrun]
  refine ⟨onlyIn_step htold.frame rfl (onlyIn_step (onlyIn_put_up _ _) rfl (onlyIn_mono (newStored_frame s) rfl)), ?_⟩
  rw [htold.frame .up (by decide)]
  rfl

theorem bootComplete_done (ms : Nat) (hst : s.rs.stage = .active) (hrun : s.gr.running = true) : ∃ t, exec (.bootComplete ms) s = .next t ∧
    t.rs = { s.rs with
      stage := .done
      failed := 0
      counted := false
      bootMs := ms
      rstout := true } ∧
    ((s.up.commit.st ≠ .activated ∨ s.up.old.isSome = true) → onlyIn [.rs] s t) ∧
    (s.up.commit.st = .activated → s.up.old = none → onlyIn (.rs :: .up :: tells) s t ∧
      t.up.old = some ⟨s.pf.slots.map (fun cs => cs.map (fun c => (c.gen, c.image, c.good))), s.pf.settings⟩) := by
  have hexec : exec (.bootComplete ms) s = .next (firstBoot (bootDone ms s)) := congrArg Host.Outcome.next (if_pos (by rw [hst, hrun]; rfl))
  have hput : onlyIn [.rs] s (bootDone ms s) := onlyIn_put_rs _ s
  refine ⟨_, hexec, frame_firstBoot (bootDone ms s) .rs (by decide), fun h => ?_, fun hact hold => ?_⟩
  · rw [firstBoot_keeps (s := bootDone ms s) h]
    exact hput
  · obtain ⟨hframe, hkept⟩ := firstBoot_first (s := bootDone ms s) hact hold
    exact ⟨onlyIn_step hframe rfl (onlyIn_mono hput rfl), hkept⟩

/-! ### The time limit of a boot (R374, R375) -/

/-- The boot has the limit of 10 s. -/
def Booting (s : State) : Prop :=
  s.rs.stage = .rom ∨ s.rs.stage = .firmware ∨ s.rs.stage = .active ∨ (s.rs.stage = .lanes ∧ s.up.commit.st ≠ .prepared)

/-- The failed boot is counted. -/
def bootCounted (s : State) : State :=
  if !s.rs.counted && !s.rs.restart then happen detBootFailure 0 0 (updRs (fun r => { r with failed := r.failed + 1, counted := true }) s) else s

theorem bootTimeout_eq (us : Fin 1000) (s : State) [Decidable (Booting s ∧ s.rs.bootAt + 10000 ≤ s.clk.ms)] : exec (.bootTimeout us) s =
    .next (if Booting s ∧ s.rs.bootAt + 10000 ≤ s.clk.ms then assertSource 4 1 us.val (bootCounted s) else s) := by
  refine congrArg Host.Outcome.next (if_congr ?_ rfl rfl)
  simp only [Bool.and_eq_true, Bool.or_eq_true, beq_iff_eq, bne_iff_ne, elapsed, decide_eq_true_iff, Booting, or_assoc]

theorem Booting.notCold (h : Booting s) : stageAfter s.rs.stage 1 = .system := by
  rcases h with h | h | h | ⟨h, -⟩ <;> rw [h] <;> rfl

theorem bootCounted_rs (s : State) : (bootCounted s).rs.stage = s.rs.stage ∧
    (s.rs.counted = false → s.rs.restart = false → (bootCounted s).rs.failed = s.rs.failed + 1 ∧ (bootCounted s).rs.counted = true) := by
  have hrs : (happen detBootFailure 0 0 (updRs (fun r => { r with failed := r.failed + 1, counted := true }) s)).rs =
      { s.rs with failed := s.rs.failed + 1, counted := true } := frame_happen _ _ _ _ .rs (by decide)
  unfold bootCounted
  split
  · rw [hrs]
    exact ⟨rfl, fun _ _ => ⟨rfl, rfl⟩⟩
  · rename_i hno
    exact ⟨rfl, fun hc hr => absurd (by rw [hc, hr]; rfl) hno⟩

/-- A failed boot that was counted is not counted again. -/
theorem assertSource_failed_counted {src L us : Nat} (h5 : src ≠ 5) (hcounted : s.rs.counted = true) :
    (assertSource src L us s).rs.failed = s.rs.failed := by
  obtain ⟨hfailed, hc⟩ := assertDown_counts src L us s
  have hmark : (assertMarked src L us s).rs = (assertDown src L us s).rs := (told_assertMarked src L us s).frame .rs (by decide)
  rw [assertSource_eq, updRs_rs]
  dsimp only
  rw [if_neg (by simp [h5]), hmark, if_neg (by rw [hc, hcounted]; simp), hfailed]

theorem bootTimeout_acts (us : Fin 1000) : ((¬Booting s ∨ s.clk.ms < s.rs.bootAt + 10000) → exec (.bootTimeout us) s = .next s) ∧
    (Booting s → s.rs.bootAt + 10000 ≤ s.clk.ms → ∃ t, exec (.bootTimeout us) s = .next t ∧ (4, 1) ∈ t.rs.asserted ∧ t.rs.supUp = false ∧
      t.rs.stage = .system ∧ (s.rs.counted = false → s.rs.restart = false → t.rs.failed = s.rs.failed + 1)) := by
  classical
  rw [bootTimeout_eq]
  refine ⟨fun h => congrArg Host.Outcome.next (if_neg ?_), fun hboot hlate => ⟨_, congrArg Host.Outcome.next (if_pos ⟨hboot, hlate⟩), ?_⟩⟩
  · rintro ⟨hboot, hlate⟩
    exact h.elim (· hboot) (by omega)
  obtain ⟨hstage, hcount⟩ := bootCounted_rs s
  obtain ⟨hhere, -, -, ⟨hsup, -, -⟩, hst⟩ := assertSource_fellRs 4 1 us.val (bootCounted s)
  refine ⟨hhere, hsup, by rw [hst, hstage, hboot.notCold], fun hc hr => ?_⟩
  obtain ⟨hfailed, hcounted⟩ := hcount hc hr
  rw [assertSource_failed_counted (by decide) hcounted, hfailed]

/-! ### The end of an L2 restart (R375) -/

theorem l2Restart_waits (h : s.rs.stage ≠ .firmware ∨ s.rs.restart = false) : exec .l2RestartComplete s = .next s := by
  refine congrArg Host.Outcome.next (if_neg ?_)
  rw [Bool.and_eq_true, decide_eq_true_iff]
  rintro ⟨hrun, hst⟩
  exact h.elim (· hst) (by rw [hrun]; decide)

theorem l2Restart_ends (hst : s.rs.stage = .firmware) (hrun : s.rs.restart = true) : ∃ t, exec .l2RestartComplete s = .next t ∧
    onlyIn [.mb, .pf, .ev, .qz, .gn, .cn, .rs, .out] s t ∧ t.rs = { s.rs with restart := false, stage := .done, rstout := true } := by
  have hparts : onlyIn [.mb, .pf, .ev, .qz, .gn, .cn, .out] s (transportsInForce (canActivate s (gnssStart (quartzStart s)))) :=
    onlyIn_step (frame_transportsInForce _) rfl (onlyIn_step (frame_canActivate s _) rfl (onlyIn_step (frame_gnssStart _) rfl
      (onlyIn_mono (frame_quartzStart s) rfl)))
  have hexec : exec .l2RestartComplete s = .next (updRs (fun r => { r with restart := false, stage := .done, rstout := true })
      (transportsInForce (canActivate s (gnssStart (quartzStart s))))) := congrArg Host.Outcome.next (if_pos (by rw [hst, hrun]; rfl))
  refine ⟨_, hexec, onlyIn_step (onlyIn_put_rs _ _) rfl (onlyIn_mono hparts rfl), ?_⟩
  rw [updRs_rs, hparts .rs (by decide)]

/-! ### O53 -/

/-- Settles O53: each step of the boot waits for its stage, and then leaves what Tables 14-4 and 14-6 say. -/
theorem bootProceeds : Obligations.BootProceeds := by
  unfold Obligations.BootProceeds
  intro s
  refine ⟨optionLoad_waits, optionLoad_done, fun ok rtc => ⟨vcoLock_waits ok rtc, vcoLock_fails rtc, vcoLock_locks rtc⟩,
    fun straps => ⟨d4Release_waits straps, d4Release_boots straps, d4Release_fallsBack straps⟩, fun straps => strapOf_agree,
    fun ok h => congrArg Host.Outcome.next (if_neg h), fun hst => (supervisorImage_fails hst).1, fun hst => (supervisorImage_fails hst).2,
    supervisorImage_starts, laneImage_loads, laneImage_waits, bootProfile_waits, bootProfile_held, bootProfile_finishes, bootProfile_starts,
    fun h ms => bootComplete_waits ms h, fun hst hrun ms => bootComplete_done ms hst hrun, fun us => bootTimeout_acts us, l2Restart_waits, l2Restart_ends⟩

end Sys2Proof.Proofs
end

section
/-!
PROOFS. The SERVICE permission, and standby's entry and wake (R379, R382, R397, R398), and O54.
-/

namespace Sys2Proof.Proofs

open Sys2Proof.Machine Sys2Proof.Safety

variable {s t u : State}

/-! ### The SERVICE permission -/

theorem permitExpiry_some {at' : Nat} (h : s.rs.permit = some at') :
    (s.clk.ms < at' + 600000 → exec .permitServiceExpiry s = .next s) ∧
    (at' + 600000 ≤ s.clk.ms → exec .permitServiceExpiry s = .next { s with rs := { s.rs with permit := none } }) := by
  have hrun : exec .permitServiceExpiry s = .next (if elapsed s at' 600000 then { s with rs := { s.rs with permit := none } } else s) := by
    show execPermitServiceExpiry s = _
    unfold execPermitServiceExpiry
    rw [h]
    rfl
  rw [hrun]
  exact ⟨fun hlt => congrArg Host.Outcome.next (if_neg (by simp only [elapsed, decide_eq_true_iff]; omega)),
    fun hle => congrArg Host.Outcome.next (if_pos (by simpa [elapsed] using hle))⟩

theorem permitExpiry_none (h : s.rs.permit = none) : exec .permitServiceExpiry s = .next s := by
  show execPermitServiceExpiry s = _
  unfold execPermitServiceExpiry
  rw [h]
  rfl

/-! ### Standby's entry (R397) -/

theorem systemDown_basalt (us : Nat) (hlen : s.pw.doms.length = 13) : domOf (systemDown us s) 0 = domOf s 0 := by
  have hpw : (sysBare us s).pw = s.pw :=
    (frame_mapLose _ .pw (by decide)).trans ((frame_fabricDown _ .pw (by decide)).trans ((frame_quartzRestore _ .pw (by decide)).trans
      ((frame_lsReset _ .pw (by decide)).trans ((frame_vdReset _ .pw (by decide)).trans ((frame_panelLose us _ .pw (by decide)).trans
        ((frame_settleWrites _ _ .pw (by decide)).trans ((frame_exchangeGone _ .pw (by decide)).trans (frame_supervisorDown s .pw (by decide)))))))))
  have hdoms := domOf_setDoms (s := sysBare us s) (· + 1) .reset (List.range 12) (by rw [hpw, hlen]; intro d hd; have := List.mem_range.mp hd; omega) 0
  have hsame : domOf (systemDown us s) 0 = domOf (sysHeld us s) 0 := rfl
  rw [hsame, sysHeld, domOf_supApply, hdoms, if_neg (by simp)]
  unfold domOf
  rw [hpw]

/-- An assertion of L0 or L1 stops the clocks and leaves D0. -/
theorem assertSource_stops (src us : Nat) (hlen : s.pw.doms.length = 13) :
    (assertSource src 1 us s).clk.running = false ∧ domOf (assertSource src 1 us s) 0 = domOf s 0 := by
  have hload : (assertLoad src 1 s).pw = s.pw := (nearly_assertLoad src 1 s).frame .pw (by decide)
  have hdown : assertDown src 1 us s = systemDown us (assertLoad src 1 s) := if_pos (by decide)
  have hrest : onlyIn (.rs :: tells) (assertDown src 1 us s) (assertSource src 1 us s) :=
    onlyIn_step (assertSource_last src 1 us s) rfl (onlyIn_mono (told_assertMarked src 1 us s).frame rfl)
  have hclk : (assertSource src 1 us s).clk = (assertDown src 1 us s).clk := hrest .clk (by decide)
  have hpw : (assertSource src 1 us s).pw = (assertDown src 1 us s).pw := hrest .pw (by decide)
  refine ⟨by rw [hclk, hdown]; rfl, ?_⟩
  have hbasalt := systemDown_basalt (s := assertLoad src 1 s) us (by rw [hload]; exact hlen)
  unfold domOf at hbasalt ⊢
  rw [hpw, hdown, hbasalt, hload]

/-- Every domain but D0 is off and the module sleeps since `now`. -/
def slept (now : Nat) (s : State) : State := updPw (fun p => { p with
  doms := p.doms.zipIdx.map (fun d => if d.2 = 0 then d.1 else .off), sb := { p.sb with ph := .asleep, since := now } }) s

theorem domOf_slept (now : Nat) (s : State) (d : Nat) : domOf (slept now s) d = if d = 0 then domOf s 0 else .off := by
  show nth (s.pw.doms.zipIdx.map (fun d => if d.2 = 0 then d.1 else .off)) d .off = _
  unfold domOf nth
  rw [List.getD_eq_getElem?_getD, List.getD_eq_getElem?_getD, List.getElem?_map, List.getElem?_zipIdx]
  by_cases hd : d = 0
  · subst hd
    cases s.pw.doms <;> rfl
  · cases h : s.pw.doms[d]? <;> simp [hd]

/-- Standby's work is done, or has had its time. -/
def SleepDue (s : State) : Prop := (unflushed s = 0 ∧ s.ev.snapq = [] ∧ s.ev.fixq = []) ∨ s.pw.sb.since + 1500 ≤ s.clk.ms

/-- The module asserted and Mica off. -/
def heldAsleep (us : Nat) (s : State) : State := micaOff (assertSource 5 1 us s)

theorem standbyDomainsOff_eq (us : Fin 1000) (s : State) [Decidable (s.pw.sb.ph = .entering ∧ SleepDue s)] : exec (.standbyDomainsOff us) s =
    .next (if s.pw.sb.ph = .entering ∧ SleepDue s then slept s.clk.ms (heldAsleep us.val s) else s) := by
  refine congrArg Host.Outcome.next (if_congr ?_ rfl rfl)
  simp only [Bool.and_eq_true, Bool.or_eq_true, List.isEmpty_iff, elapsed, decide_eq_true_iff, SleepDue, and_assoc]

theorem standbyDomainsOff_acts (us : Fin 1000) : ((s.pw.sb.ph ≠ .entering ∨ ¬SleepDue s) → exec (.standbyDomainsOff us) s = .next s) ∧
    (s.pw.sb.ph = .entering → SleepDue s → s.pw.doms.length = 13 → ∃ t, exec (.standbyDomainsOff us) s = .next t ∧ t.pw.sb.ph = .asleep ∧
      (5, 1) ∈ t.rs.asserted ∧ t.rs.supUp = false ∧ t.clk.running = false ∧ t.mc.mem = [] ∧ (∀ b : Nat, b < 64 → (bankOf t b).st = .off) ∧
      (∀ d : Nat, 1 ≤ d → d ≤ 12 → domOf t d = .off) ∧ domOf t 0 = domOf s 0) := by
  classical
  rw [standbyDomainsOff_eq]
  refine ⟨fun h => congrArg Host.Outcome.next (if_neg ?_), fun hph hdue hlen => ⟨_, congrArg Host.Outcome.next (if_pos ⟨hph, hdue⟩), rfl, ?_⟩⟩
  · rintro ⟨hph, hdue⟩
    exact h.elim (· hph) (· hdue)
  obtain ⟨hrun, hbasalt⟩ := assertSource_stops (s := s) 5 us.val hlen
  obtain ⟨hhere, -, -, ⟨hsup, -, -⟩, -⟩ := assertSource_fellRs 5 1 us.val s
  refine ⟨hhere, hsup, hrun, rfl, fun b hb => ?_, fun d h1 _ => ?_, ?_⟩
  · show (nth (List.replicate 64 { bank0 with st := .off, ready := false }) b bank0).st = .off
    unfold nth
    rw [List.getD_eq_getElem _ _ (by rw [List.length_replicate]; exact hb), List.getElem_replicate]
  · rw [domOf_slept, if_neg (by omega)]
  · rw [domOf_slept, if_pos rfl]
    exact hbasalt

/-! ### The release of the hold (R368) -/

theorem basaltStart_rs (s : State) : (basaltStart s).rs = { s.rs with stage := .system } := rfl

/-- Going on to the next boundary asserts and releases nothing, and keeps the standby record. -/
theorem proceed_kept (s : State) : (proceed s).rs.asserted = s.rs.asserted ∧ (proceed s).pw.sb = s.pw.sb := by
  have hstart : ∀ x, (if (decide (x.rs.stage = .cold) && decide (1 ≤ deepest x)) = true then basaltStart x else x).rs.asserted = x.rs.asserted ∧
      (if (decide (x.rs.stage = .cold) && decide (1 ≤ deepest x)) = true then basaltStart x else x).pw.sb = x.pw.sb := fun x => by
    split <;> exact ⟨rfl, rfl⟩
  have hrelease : ∀ x, (if (decide (x.rs.stage = .system) && decide (2 ≤ deepest x)) = true then systemRelease x else x).rs.asserted = x.rs.asserted ∧
      (if (decide (x.rs.stage = .system) && decide (2 ≤ deepest x)) = true then systemRelease x else x).pw.sb = x.pw.sb := fun x => by
    split <;> exact ⟨rfl, rfl⟩
  obtain ⟨hass, hsb⟩ := hstart s
  obtain ⟨hass', hsb'⟩ := hrelease (if (decide (s.rs.stage = .cold) && decide (1 ≤ deepest s)) = true then basaltStart s else s)
  exact ⟨hass'.trans hass, hsb'.trans hsb⟩

theorem proceed_loads (hnil : s.rs.asserted = []) (hst : s.rs.stage = .system) : (proceed s).rs.stage = .loading := by
  have hcold : (if (decide (s.rs.stage = .cold) && decide (1 ≤ deepest s)) = true then basaltStart s else s) = s := if_neg (by simp [hst])
  have hdeep : 2 ≤ deepest s := two_le_deepest.mpr (by rw [hnil]; rintro ⟨a, ha, -⟩; exact absurd ha List.not_mem_nil)
  have hrun : proceed s = systemRelease s := by
    unfold proceed
    simp only [hcold]
    exact if_pos (by rw [hst, Bool.and_eq_true, decide_eq_true_iff]; exact ⟨rfl, decide_eq_true hdeep⟩)
  rw [hrun]
  rfl

/-! ### Standby's wake (R398) -/

/-- A wake event is latched. -/
def wakeLatched (cause : Nat) (s : State) : State := { s with pw := { s.pw with sb := { s.pw.sb with latched := [cause] } } }

/-- The wake event releases the hold. -/
def wakeReleases (cause rtc : Nat) (s : State) : State :=
  { s with
    pw := { s.pw with sb := { s.pw.sb with ph := .awake, latched := [], wakeCause := cause, wakeFrame := rtc } }
    rs := { s.rs with asserted := s.rs.asserted.filter (fun a => a.1 != 5) } }

/-- Whether wake events are taken. -/
def WakesTaken (s : State) : Prop := s.pw.sb.accepted = true ∨ s.pw.sb.ph ≠ .awake

variable {cause : Fin 9} {ms rtc : Nat}

theorem standbyWake_none (hnil : s.pw.sb.latched = []) (h : ¬WakesTaken s ∨ wakeMay s cause.val = false) :
    exec (.standbyWake cause ms rtc) s = .next s := by
  have hcond : ¬((s.pw.sb.accepted || decide (s.pw.sb.ph ≠ .awake)) && wakeMay s cause.val) = true := by
    rw [Bool.and_eq_true, Bool.or_eq_true, decide_eq_true_iff]
    rintro ⟨hon, hmay⟩
    exact h.elim (· hon) (by rw [hmay]; decide)
  show execStandbyWake cause ms rtc s = _
  unfold execStandbyWake
  simp only [if_neg hcond, hnil]

theorem standbyWake_latches (hnil : s.pw.sb.latched = []) (hon : WakesTaken s) (hmay : wakeMay s cause.val = true) :
    exec (.standbyWake cause ms rtc) s = .next (if (decide (s.pw.sb.ph = .asleep) && decide (10 ≤ ms)) = true then proceed (wakeReleases cause.val rtc s)
      else wakeLatched cause.val s) := by
  have hcond : ((s.pw.sb.accepted || decide (s.pw.sb.ph ≠ .awake)) && wakeMay s cause.val) = true := by
    rw [Bool.and_eq_true, Bool.or_eq_true, decide_eq_true_iff]
    exact ⟨hon, hmay⟩
  show execStandbyWake cause ms rtc s = _
  have hput : updPw (fun p => { p with sb := { p.sb with latched := p.sb.latched ++ [cause.val] } }) s = wakeLatched cause.val s := by
    have hlatched : s.pw.sb.latched ++ [cause.val] = [cause.val] := by rw [hnil, List.nil_append]
    exact congrArg (fun l => { s with pw := { s.pw with sb := { s.pw.sb with latched := l } } }) hlatched
  unfold execStandbyWake
  simp only [if_pos hcond]
  rw [hput]
  rfl

theorem standbyWake_wakes (hnil : s.pw.sb.latched = []) (hon : WakesTaken s) (hmay : wakeMay s cause.val = true) (hph : s.pw.sb.ph = .asleep) (hms : 10 ≤ ms) :
    ∃ t, exec (.standbyWake cause ms rtc) s = .next t ∧ onlyIn [.mb, .ev, .rs, .pw, .sp] s t ∧ t.pw.sb = { s.pw.sb with
        ph := .awake
        latched := []
        wakeCause := cause.val
        wakeFrame := rtc } ∧ t.rs.asserted = s.rs.asserted.filter (fun a => a.1 != 5) ∧
      (s.rs.asserted = [(5, 1)] → s.rs.stage = .system → t.rs.stage = .loading) := by
  have hexec := (standbyWake_latches (rtc := rtc) (ms := ms) hnil hon hmay).trans (congrArg Host.Outcome.next (if_pos (by rw [hph]; simpa using hms)))
  obtain ⟨hass, hsb⟩ := proceed_kept (wakeReleases cause.val rtc s)
  refine ⟨_, hexec, frame_execStandbyWake cause ms rtc s _ hexec, hsb, hass, fun hone hst => ?_⟩
  exact proceed_loads (s := wakeReleases cause.val rtc s) (by show s.rs.asserted.filter (fun a => a.1 != 5) = []; rw [hone]; rfl) hst

/-- Settles O54: the permission ends by its time, standby is entered by an assertion of SWR at L1, and the first admitted wake releases it. -/
theorem standbySleepsAndWakes : Obligations.StandbySleepsAndWakes := by
  unfold Obligations.StandbySleepsAndWakes
  intro s
  refine ⟨fun at' h => permitExpiry_some h, permitExpiry_none, fun us => standbyDomainsOff_acts us, fun cause ms rtc hnil =>
    ⟨standbyWake_none hnil, fun hon hmay hwait => (standbyWake_latches hnil hon hmay).trans (congrArg Host.Outcome.next (if_neg ?_)),
      standbyWake_wakes hnil⟩⟩
  rw [Bool.and_eq_true, decide_eq_true_iff, decide_eq_true_iff]
  rintro ⟨hph, hms⟩
  exact hwait.elim (· hph) (by omega)

end Sys2Proof.Proofs
end

section
/-!
PROOFS. Valve channels and load switches that a stop, a supply or a gate switches off, all of a group at a time (R64, R216, R388, R390), for O55.
-/

namespace Sys2Proof.Proofs

open Sys2Proof.Machine Sys2Proof.Safety

variable {s t u : State}

/-! ### Valve channels at rest -/

/-- A valve channel drives nothing. -/
def VdResting (c : VdChan) : Prop := c.st = .fault ∨ c.st = .idle ∨ c.st = .off

/-- Any channel. -/
def AnyChan (_ : Nat) : Prop := True

theorem vdRest_resting (s : State) (ch : Nat) : vdRest s ch = .idle ∨ vdRest s ch = .off := by
  unfold vdRest
  split
  · exact .inl rfl
  · exact .inr rfl

theorem VdResting.notDefer {c : VdChan} (h : VdResting c) : c.st ≠ .defer ∧ c.st ≠ .pullBat := by
  rcases h with h | h | h <;> rw [h] <;> decide

/-- Settling a bank leaves a resting channel at rest. -/
theorem VdResting.settled {j : Nat} (h : VdResting (vdChan s j)) (k t : Nat) : VdResting (vdChan (settleBank k t s) j) := by
  obtain ⟨a, ha⟩ := settleBank_st (k := k) (t := t) h.notDefer.1
  rw [ha h.notDefer.2]
  exact h

theorem reportPulse_st (ch j : Nat) (s : State) (hlt : ch < s.vd.chans.length) : (vdChan (reportPulse ch none s) j).st = (vdChan s j).st := by
  by_cases hj : j = ch
  · subst hj
    cases hp : (vdChan s j).pulse with
    | none => rw [reportPulse_none hp]
    | some p =>
      obtain ⟨ring, hring⟩ := reportPulse_chan hp hlt none
      rw [hring]
      rfl
  · rw [(vdRun_reportPulse (C := fun c => c = ch) rfl none s).away j hj]

/-- The channel at rest, before its pulse is reported. -/
def vdRested (ch : Nat) (s : State) : State := updVd ch (enterSt (vdRest s ch) (usNow s 0)) s

/-- The channel's commands dropped. -/
def vdBare (ch : Nat) (s : State) : State :=
  updVd ch (fun c => { c with fire := none, train := none, regMa := none, duty := 0, applied := 0 }) (reportPulse ch none (vdRested ch s))

theorem vdOff_eq (ch : Nat) (s : State) :
    vdOff ch s = if (vdChan s ch).st = .fault then s else settleBank (vdBankOf ch) (usNow s 0) (vdBare ch s) := rfl

theorem vdRun_vdBare (ch : Nat) (s : State) : VdRun (fun c => c = ch) s (vdBare ch s) :=
  have hupd (f : VdChan → VdChan) (x : State) : VdRun (fun c => c = ch) x (updVd ch f x) := vdRun_updVd (C := fun c => c = ch) rfl f x
  vdRun_step (hupd _ _) (vdRun_step (vdRun_reportPulse (C := fun c => c = ch) rfl none _) (hupd _ s))

theorem vdRun_vdOff (ch : Nat) (s : State) : VdRun AnyChan s (vdOff ch s) := by
  rw [vdOff_eq]
  exact vdRun_ite (.refl _ s) (((vdRun_vdBare ch s).mono fun _ _ => trivial).trans (vdRun_settleBank (fun _ _ => trivial) _ _))

theorem vdBare_rests (ch : Nat) (hlt : ch < s.vd.chans.length) : VdResting (vdChan (vdBare ch s) ch) := by
  have hlen : ch < (vdRested ch s).vd.chans.length := hlt.trans_eq (length_updAt _ _ _).symm
  have hrested : (vdChan (vdRested ch s) ch).st = vdRest s ch := congrArg VdChan.st ((vdChan_updVd _ hlt).trans (enterSt_eq _ _ _))
  have hreport : ch < (reportPulse ch none (vdRested ch s)).vd.chans.length :=
    hlen.trans_eq (vdRun_reportPulse (C := AnyChan) trivial none _).chans.symm
  have hst : (vdChan (vdBare ch s) ch).st = vdRest s ch := by
    rw [vdBare, vdChan_updVd _ hreport]
    exact (reportPulse_st ch ch _ hlen).trans hrested
  rcases vdRest_resting s ch with h | h
  · exact .inr (.inl (hst.trans h))
  · exact .inr (.inr (hst.trans h))

theorem vdOff_rests (ch : Nat) (hlt : ch < s.vd.chans.length) : VdResting (vdChan (vdOff ch s) ch) := by
  rw [vdOff_eq]
  split
  · rename_i hfault
    exact .inl hfault
  · exact (vdBare_rests ch hlt).settled _ _

theorem VdResting.others {j : Nat} (h : VdResting (vdChan s j)) (ch : Nat) (hj : j ≠ ch) : VdResting (vdChan (vdOff ch s) j) := by
  rw [vdOff_eq]
  split
  · exact h
  · refine VdResting.settled ?_ _ _
    rw [(vdRun_vdBare ch s).away j hj]
    exact h

/-- Channels switched off one after the other where a test that the drive's operations leave alone holds. -/
theorem vdOffs_rest {G : State → Nat → Bool} (hG : ∀ {x y}, VdRun AnyChan x y → ∀ c, G y c = G x c) (l : List Nat) (hl : ∀ c ∈ l, c < s.vd.chans.length)
    (j : Nat) (h : (j ∈ l ∧ G s j = true) ∨ VdResting (vdChan s j)) : VdResting (vdChan (l.foldl (fun x c => if G x c then vdOff c x else x) s) j) := by
  induction l generalizing s with
  | nil => exact h.resolve_left (fun hc => absurd hc.1 List.not_mem_nil)
  | cons c l ih =>
    rw [List.foldl_cons]
    have hrun : VdRun AnyChan s (if G s c then vdOff c s else s) := vdRun_ite (vdRun_vdOff c s) (.refl _ s)
    refine ih (fun d hd => (hl d (List.mem_cons_of_mem _ hd)).trans_eq hrun.chans.symm) ?_
    by_cases hj : j = c
    · subst hj
      split
      · exact .inr (vdOff_rests j (hl j List.mem_cons_self))
      · rename_i hno
        exact h.elim (fun hc => absurd hc.2 hno) .inr
    · rcases h with ⟨hmem, hg⟩ | hrest
      · exact .inl ⟨(List.mem_cons.mp hmem).resolve_left hj, (hG hrun j).trans hg⟩
      · refine .inr ?_
        split
        · exact hrest.others c hj
        · exact hrest

theorem VdRun.groupB {C : Nat → Prop} (h : VdRun C s t) (c : Nat) : vdGroupB t c = vdGroupB s c := by
  unfold vdGroupB vdOwner
  simp only [h.work, h.paramN]

theorem vdRun_vdOffs {G : State → Nat → Bool} (l : List Nat) (s : State) : VdRun AnyChan s (l.foldl (fun x c => if G x c then vdOff c x else x) s) :=
  vdRun_foldl (fun x c _ => vdRun_ite (vdRun_vdOff c x) (.refl _ x)) s

/-- A STOP input's group of valve channels rests. -/
theorem vdStop_rests (b : Bool) (hlen : s.vd.chans.length = 12) {ch : Nat} (hch : ch < 12) (hg : vdGroupB s ch = b) : VdResting (vdChan (vdStop b s) ch) :=
  vdOffs_rest (G := fun x c => vdGroupB x c == b) (fun h _ => by rw [h.groupB]) (List.range 12)
    (fun _ hc => (List.mem_range.mp hc).trans_eq hlen.symm) ch (.inl ⟨List.mem_range.mpr hch, by simpa using hg⟩)

/-- Every valve channel rests. -/
theorem vdAllOff_rests (hlen : s.vd.chans.length = 12) {ch : Nat} (hch : ch < 12) :
    VdResting (vdChan ((List.range 12).foldl (fun x c => vdOff c x) s) ch) :=
  vdOffs_rest (G := fun _ _ => true) (fun _ _ => rfl) (List.range 12)
    (fun _ hc => (List.mem_range.mp hc).trans_eq hlen.symm) ch (.inl ⟨List.mem_range.mpr hch, rfl⟩)

/-! ### Load switches, one after the other -/

/-- A load switch is closed, or will close of itself. -/
def LsDriven (c : LsChan) : Prop := c.st = .on ∨ c.st = .limit ∨ c.st = .start ∨ c.st = .retryWait

theorem not_lsDriven {c : LsChan} {st : LsSt} (h : c.st = st) (hst : st ≠ .on ∧ st ≠ .limit ∧ st ≠ .start ∧ st ≠ .retryWait) : ¬LsDriven c := by
  obtain ⟨hon, hlimit, hstart, hretry⟩ := hst
  subst h
  rintro (h | h | h | h)
  · exact hon h
  · exact hlimit h
  · exact hstart h
  · exact hretry h

theorem lsChan_beyond {ch : Nat} (h : s.ls.chans.length ≤ ch) : lsChan s ch = lsChan0 := by
  simp [lsChan, nth, List.getD_eq_getElem?_getD, List.getElem?_eq_none h]

section
variable {step : State → Nat → State} (haway : ∀ x c j, j ≠ c → lsChan (step x c) j = lsChan x j)
include haway

theorem lsSteps_away {j : Nat} (l : List Nat) (hj : j ∉ l) (s : State) : lsChan (l.foldl step s) j = lsChan s j := by
  induction l generalizing s with
  | nil => rfl
  | cons c l ih =>
    obtain ⟨hne, hrest⟩ := not_or.mp (fun h => hj (List.mem_cons.mpr h))
    exact (ih hrest _).trans (haway s c j hne)

/-- Each channel is as its own step leaves it, from a state that the steps before have reached. -/
theorem lsSteps_at {R : State → Prop} (hR : ∀ x c, R x → R (step x c)) (hs : R s) {j n : Nat} (hj : j < n) :
    ∃ x, R x ∧ lsChan x j = lsChan s j ∧ lsChan ((List.range n).foldl step s) j = lsChan (step x j) j := by
  obtain ⟨k, rfl⟩ := Nat.exists_eq_add_of_lt hj
  have hsplit : List.range (j + k + 1) = List.range j ++ j :: (List.range k).map (j + 1 + ·) := by
    rw [Nat.add_assoc, Nat.add_comm k 1, ← Nat.add_assoc, List.range_add, List.range_succ, List.append_assoc]
    rfl
  rw [hsplit, List.foldl_append, List.foldl_cons]
  refine ⟨(List.range j).foldl step s, List.foldlRecOn (motive := R) (List.range j) step hs (fun x hx c _ => hR x c hx),
    lsSteps_away haway _ (by simp) s, lsSteps_away haway _ (fun h => ?_) _⟩
  obtain ⟨c, -, hc⟩ := List.mem_map.mp h
  omega

end

theorem lsChan_updLs_ne {ch j : Nat} (f : LsChan → LsChan) (hj : j ≠ ch) : lsChan (updLs ch f s) j = lsChan s j := (onLs_updLs ch f s).away j hj

/-! ### Switched off -/

theorem lsOff_away (ch t : Nat) (s : State) (j : Nat) (hj : j ≠ ch) : lsChan (lsOff ch t s) j = lsChan s j := by
  obtain ⟨f, hf, -⟩ := onLs_lsOff ch t s
  exact hf.away j hj

/-- A load switch whose request is taken back. -/
def lsUnasked (ch : Nat) (s : State) : State := updLs ch (fun c => { c with req := false, duty := 0, host := none }) s

/-- A load switch that is not opened. -/
def lsCooled (ch : Nat) (s : State) : State := detect detCoupledShutdown (ch + 1) false 0 (updLs ch (fun c => { c with st := .off })
  { lsUnasked ch s with ls := { (lsUnasked ch s).ls with shed := (lsUnasked ch s).ls.shed.filter (· != ch) } })

theorem lsOff_eq (ch t : Nat) (s : State) : lsOff ch t s = match (lsChan s ch).st with
    | .on | .limit | .start | .retryWait => turnOff ch t false (lsUnasked ch s)
    | .demag => updLs ch (fun c => { c with queued := false, toShed := false }) (lsUnasked ch s)
    | .cool | .shed => lsCooled ch s
    | .off | .latched => lsUnasked ch s := rfl

theorem lsUnasked_at {ch : Nat} (hlt : ch < s.ls.chans.length) : lsChan (lsUnasked ch s) ch = { lsChan s ch with req := false, duty := 0, host := none } :=
  (onLs_updLs ch _ s).at hlt

/-- A load switch that is switched off drives nothing and has no request. -/
theorem lsOff_off (ch t : Nat) (s : State) : ¬LsDriven (lsChan (lsOff ch t s) ch) ∧ (lsChan (lsOff ch t s) ch).req = false := by
  by_cases hlt : ch < s.ls.chans.length
  · have hu := onLs_updLs ch (fun c => { c with req := false, duty := 0, host := none }) s
    have hopen : OnLs ch _ s (turnOff ch t false (lsUnasked ch s)) := hu.trans (onLs_turnOff ch t false _)
    have hdemag : OnLs ch _ s (updLs ch (fun c => { c with queued := false, toShed := false }) (lsUnasked ch s)) := hu.trans (onLs_updLs ch _ _)
    have hcool : OnLs ch _ s (lsCooled ch s) := (hu.trans (onLs_updLs ch (fun c => { c with st := .off })
      { lsUnasked ch s with ls := { (lsUnasked ch s).ls with shed := (lsUnasked ch s).ls.shed.filter (· != ch) } })).told (told_detect _ _ _ _ _)
    rw [lsOff_eq]
    cases hst : (lsChan s ch).st with
    | on | limit | start | retryWait =>
      dsimp only
      rw [hopen.at hlt]
      exact ⟨not_lsDriven (st := .demag) rfl (by decide), rfl⟩
    | demag =>
      dsimp only
      rw [hdemag.at hlt]
      exact ⟨not_lsDriven hst (by decide), rfl⟩
    | cool | shed =>
      dsimp only
      rw [hcool.at hlt]
      exact ⟨not_lsDriven (st := .off) rfl (by decide), rfl⟩
    | off | latched =>
      dsimp only
      rw [lsUnasked_at hlt]
      exact ⟨not_lsDriven hst (by decide), rfl⟩
  · obtain ⟨f, hf, -⟩ := onLs_lsOff ch t s
    rw [lsChan_beyond (by rw [hf.len]; omega)]
    exact ⟨not_lsDriven (st := .off) rfl (by decide), rfl⟩

/-- Only load switches have changed, and telling. -/
def LsRun (s t : State) : Prop := onlyIn (.ls :: tells) s t ∧ t.pf.work = s.pf.work ∧ (s.ev.injs = [] → t.ev.injs = [])

theorem LsRun.refl (s : State) : LsRun s s := ⟨onlyIn_refl _ _, rfl, id⟩

theorem LsRun.trans (h : LsRun s t) (h' : LsRun t u) : LsRun s u := ⟨onlyIn_step h'.1 rfl h.1, h'.2.1.trans h.2.1, h'.2.2 ∘ h.2.2⟩

theorem Told.lsRun (h : Told s t) : LsRun s t := ⟨onlyIn_mono h.frame rfl, h.work, h.noInjs⟩

theorem lsRun_ls (l : Loads) (s : State) : LsRun s { s with ls := l } := ⟨onlyIn_mono (onlyIn_put_ls l s) rfl, rfl, id⟩

theorem lsRun_lsOff (ch t : Nat) (s : State) : LsRun s (lsOff ch t s) := by
  have hu : LsRun s (lsUnasked ch s) := lsRun_ls _ s
  rw [lsOff_eq]
  cases (lsChan s ch).st with
  | on | limit | start | retryWait => exact hu.trans ((lsRun_ls _ _).trans (told_detect _ _ _ _ _).lsRun)
  | demag => exact hu.trans (lsRun_ls _ _)
  | cool | shed => exact hu.trans ((lsRun_ls _ _).trans ((lsRun_ls _ _).trans (told_detect _ _ _ _ _).lsRun))
  | off | latched => exact hu

theorem LsRun.groupB (h : LsRun s t) (c : Nat) : lsGroupB t c = lsGroupB s c := by
  unfold lsGroupB lsOwner
  rw [h.2.1]

/-- A load switch of the group is switched off. -/
def lsStopStep (b : Bool) (x : State) (c : Nat) : State := if lsGroupB x c == b then lsOff c (usNow x 0) x else x

theorem lsRun_stopStep (b : Bool) (x : State) (c : Nat) : LsRun x (lsStopStep b x c) := by
  unfold lsStopStep
  split
  · exact lsRun_lsOff c _ x
  · exact .refl x

theorem lsStop_run (b : Bool) (s : State) : LsRun s (lsStop b s) :=
  List.foldlRecOn (motive := LsRun s) (List.range 24) (lsStopStep b) (.refl s) (fun _ hx c _ => hx.trans (lsRun_stopStep b _ c))

/-- A STOP input switches its group of load switches off and leaves the others. -/
theorem lsStop_stops (b : Bool) (s : State) {ch : Nat} (hch : ch < 24) :
    (lsGroupB s ch = b → ¬LsDriven (lsChan (lsStop b s) ch) ∧ (lsChan (lsStop b s) ch).req = false) ∧
    (lsGroupB s ch ≠ b → lsChan (lsStop b s) ch = lsChan s ch) := by
  obtain ⟨x, hx, hsame, hat⟩ := lsSteps_at (step := lsStopStep b) (fun y c j hj => by
      unfold lsStopStep
      split
      · exact lsOff_away c _ y j hj
      · rfl) (R := LsRun s) (fun y c hy => hy.trans (lsRun_stopStep b y c)) (.refl s) hch
  have hstop : lsChan (lsStop b s) ch = lsChan (lsStopStep b x ch) ch := hat
  have hg := hx.groupB ch
  rw [hstop, lsStopStep, hg]
  refine ⟨fun h => ?_, fun h => ?_⟩
  · rw [if_pos (by simpa using h)]
    exact lsOff_off ch _ x
  · rw [if_neg (by simpa using h)]
    exact hsame

/-! ### VBAT outside its range (R388, R390) -/

/-- A load switch opens as the battery leaves its range. -/
def lsVbatStep (x : State) (c : Nat) : State :=
  match (lsChan x c).st with
  | .on | .limit | .start | .retryWait => turnOff c (usNow x 0) false x
  | _ => x

theorem lsVbatStep_cases (x : State) (c : Nat) :
    (LsDriven (lsChan x c) ∧ lsVbatStep x c = turnOff c (usNow x 0) false x) ∨ (¬LsDriven (lsChan x c) ∧ lsVbatStep x c = x) := by
  unfold lsVbatStep
  cases hst : (lsChan x c).st with
  | on => exact .inl ⟨.inl hst, rfl⟩
  | limit => exact .inl ⟨.inr (.inl hst), rfl⟩
  | start => exact .inl ⟨.inr (.inr (.inl hst)), rfl⟩
  | retryWait => exact .inl ⟨.inr (.inr (.inr hst)), rfl⟩
  | _ => exact .inr ⟨not_lsDriven hst (by decide), rfl⟩

theorem lsVbatStep_run (x : State) (c : Nat) : LsRun x (lsVbatStep x c) := by
  rcases lsVbatStep_cases x c with ⟨-, h⟩ | ⟨-, h⟩ <;> rw [h]
  · exact (lsRun_ls _ x).trans (told_detect _ _ _ _ _).lsRun
  · exact .refl x

theorem lsVbatOff_run (s : State) : LsRun s (lsVbatOff s) :=
  List.foldlRecOn (motive := LsRun s) (List.range 24) lsVbatStep (.refl s) (fun _ hx c _ => hx.trans (lsVbatStep_run _ c))

/-- Every load switch opens and keeps its request. -/
theorem lsVbatOff_opens (s : State) {ch : Nat} (hch : ch < 24) :
    ¬LsDriven (lsChan (lsVbatOff s) ch) ∧ (lsChan (lsVbatOff s) ch).req = (lsChan s ch).req := by
  obtain ⟨x, -, hsame, hat⟩ := lsSteps_at (step := lsVbatStep) (fun y c j hj => by
      rcases lsVbatStep_cases y c with ⟨-, h⟩ | ⟨-, h⟩ <;> rw [h]
      exact (onLs_turnOff c _ false y).away j hj) (R := fun _ => True) (fun _ _ _ => trivial) trivial hch
  have hoff : lsChan (lsVbatOff s) ch = lsChan (lsVbatStep x ch) ch := hat
  rw [hoff, ← hsame]
  rcases lsVbatStep_cases x ch with ⟨hdriven, h⟩ | ⟨hno, h⟩ <;> rw [h]
  · have hlt : ch < x.ls.chans.length := by
      refine Nat.lt_of_not_le fun hle => ?_
      rw [lsChan_beyond hle] at hdriven
      exact not_lsDriven (c := lsChan0) (st := .off) rfl (by decide) hdriven
    rw [(onLs_turnOff ch _ false x).at hlt]
    exact ⟨not_lsDriven (st := .demag) rfl (by decide), rfl⟩
  · exact ⟨hno, rfl⟩

/-! ### VBAT back in its range (R390) -/

/-- A standing request is taken up again. -/
def lsBackStep (x : State) (c : Nat) : State :=
  if (lsChan x c).req && lsGate x c then
    match (lsChan x c).st with
    | .off => turnOn c (usNow x 0) (updLs c (fun c => { c with armed := false }) x)
    | .demag => updLs c (fun c => { c with queued := true, toShed := false, armed := false }) x
    | _ => x
  else x

theorem lsBackStep_frame (x : State) (c : Nat) : onlyIn [.ls] x (lsBackStep x c) := by
  unfold lsBackStep
  split
  · split
    · exact onlyIn_step (frame_turnOn _ _ _) rfl (frame_updLs _ _ x)
    · exact frame_updLs _ _ x
    · exact onlyIn_refl _ _
  · exact onlyIn_refl _ _

theorem lsBackStep_away (x : State) (c j : Nat) (hj : j ≠ c) : lsChan (lsBackStep x c) j = lsChan x j := by
  unfold lsBackStep
  split
  · split
    · exact ((onLs_turnOn c _ _).away j hj).trans (lsChan_updLs_ne _ hj)
    · exact lsChan_updLs_ne _ hj
    · rfl
  · rfl

theorem lsGate_ls (h : onlyIn [.ls] s t) (c : Nat) : lsGate t c = lsGate s c := by
  have han : t.an = s.an := h .an (by decide)
  have hpf : t.pf = s.pf := h .pf (by decide)
  have hgr : t.gr = s.gr := h .gr (by decide)
  unfold lsGate lsGroupB lsOwner inPs
  rw [han, hpf, hgr]

/-- Standing requests are taken up where the gate is open; channels without one stay. -/
theorem lsVbatOn_resumes (s : State) {ch : Nat} (hch : ch < 24) :
    ((lsChan s ch).st = .off → (lsChan s ch).req = true → lsGate s ch = true → (lsChan (lsVbatOn s) ch).st = .on) ∧
    ((lsChan s ch).req = false → lsChan (lsVbatOn s) ch = lsChan s ch) := by
  obtain ⟨x, hx, hsame, hat⟩ := lsSteps_at (step := lsBackStep) lsBackStep_away (R := onlyIn [.ls] s)
    (fun y c hy => onlyIn_step (lsBackStep_frame y c) rfl hy) (onlyIn_refl _ _) hch
  have hon : lsChan (lsVbatOn s) ch = lsChan (lsBackStep x ch) ch := hat
  rw [hon, ← hsame]
  refine ⟨fun hst hreq hgate => ?_, fun hreq => ?_⟩
  · have hlt : ch < x.ls.chans.length := by
      refine Nat.lt_of_not_le fun hle => ?_
      rw [lsChan_beyond hle] at hreq
      exact absurd hreq (by decide)
    have hstep : lsBackStep x ch = turnOn ch (usNow x 0) (updLs ch (fun c => { c with armed := false }) x) := by
      unfold lsBackStep
      rw [if_pos (by rw [hreq, lsGate_ls hx, hgate]; rfl), hst]
    rw [hstep, (onLs_turnOn ch _ _).at (hlt.trans_eq (length_updAt _ _ _).symm), (onLs_updLs ch _ x).at hlt]
    exact (turnedOn_unarmed rfl).1
  · unfold lsBackStep
    rw [if_neg (by rw [hreq]; simp)]

end Sys2Proof.Proofs
end

section
/-!
PROOFS. Supplies, sensor supplies, temperature and stop inputs (R388 to R403), and O55.
-/

namespace Sys2Proof.Proofs

open Sys2Proof.Machine Sys2Proof.Safety

variable {s t u : State}

/-! ### VSUP (R388, R389) -/

/-- Domains D11 and D12 changed by a rule of their own. -/
theorem domOf_updTwo (f : DomSt → DomSt) (hlen : s.pw.doms.length = 13) (d : Nat) :
    nth (updAt (updAt s.pw.doms 11 f) 12 f) d .off = if d = 11 ∨ d = 12 then f (domOf s d) else domOf s d := by
  by_cases h12 : d = 12
  · subst h12
    rw [nth_updAt _ _ _ _ _ (by rw [length_updAt, hlen]; decide), if_pos rfl, if_pos (.inr rfl), nth_updAt_ne _ _ _ (by decide)]
    rfl
  · rw [nth_updAt_ne _ _ _ (Ne.symm h12)]
    by_cases h11 : d = 11
    · subst h11
      rw [nth_updAt _ _ _ _ _ (by rw [hlen]; decide), if_pos rfl, if_pos (.inl rfl)]
      rfl
    · rw [nth_updAt_ne _ _ _ (Ne.symm h11), if_neg (by omega)]
      rfl

/-- A domain that is on is reduced. -/
def domReduced (st : DomSt) : DomSt := if st = .on then .reduced else st

/-- A domain that is reduced is on. -/
def domFull (st : DomSt) : DomSt := if st = .reduced then .on else st

/-- VSUP is reduced. -/
def vsupLow (mv : Nat) (s : State) : State := updPw (fun p => { p with
  vsupReduced := true, doms := updAt (updAt p.doms 11 domReduced) 12 domReduced }) (updAn (fun a => { a with vsup := mv }) s)

theorem vsupReduced_waits {mv us : Nat} (h : 8000 ≤ mv ∨ us < 1000 ∨ s.pw.vsupReduced = true) : exec (.vsupReducedEntry mv us) s = .next s := by
  refine congrArg Host.Outcome.next (if_neg ?_)
  simp only [Bool.and_eq_true, decide_eq_true_iff, Bool.not_eq_true', Bool.and_assoc]
  rintro ⟨hmv, hus, hred⟩
  rcases h with h | h | h
  · omega
  · omega
  · exact absurd (hred.symm.trans h) (by decide)

theorem vsupReduced_enters {mv us : Nat} (hmv : mv < 8000) (hus : 1000 ≤ us) (hred : s.pw.vsupReduced = false) (hlen : s.pw.doms.length = 13) :
    ∃ t, exec (.vsupReducedEntry mv us) s = .next t ∧ onlyIn [.an, .pw, .sp] s t ∧ t.an = { s.an with vsup := mv } ∧ t.pw.vsupReduced = true ∧
      (∀ d : Nat, domOf t d = if (d = 11 ∨ d = 12) ∧ domOf s d = .on then .reduced else domOf s d) := by
  have hexec : exec (.vsupReducedEntry mv us) s = .next (panelPause (vsupLow mv s)) := congrArg Host.Outcome.next (if_pos (by simp [hmv, hus, hred]))
  have hsp := frame_panelPause (vsupLow mv s)
  have hpw : (panelPause (vsupLow mv s)).pw = (vsupLow mv s).pw := hsp .pw (by decide)
  refine ⟨_, hexec, frame_execVsupReducedEntry mv us s _ hexec, hsp .an (by decide), by rw [hpw]; rfl, fun d => ?_⟩
  have hd : domOf (panelPause (vsupLow mv s)) d = nth (updAt (updAt s.pw.doms 11 domReduced) 12 domReduced) d .off := by
    unfold domOf
    rw [hpw]
    rfl
  rw [hd, domOf_updTwo domReduced hlen]
  unfold domReduced
  by_cases h1 : d = 11 ∨ d = 12 <;> by_cases h2 : domOf s d = .on <;> simp [h1, h2]

/-- VSUP is normal again. -/
def vsupBack (mv : Nat) (s : State) : State := updPw (fun p => { p with
  vsupReduced := false, doms := updAt (updAt p.doms 11 domFull) 12 domFull }) (updAn (fun a => { a with vsup := mv }) s)

theorem vsupNormal_waits {mv ms : Nat} (h : mv < 8300 ∨ ms < 10 ∨ s.pw.vsupReduced = false) : exec (.vsupNormalReturn mv ms) s = .next s := by
  refine congrArg Host.Outcome.next (if_neg ?_)
  simp only [Bool.and_eq_true, decide_eq_true_iff, Bool.and_assoc]
  rintro ⟨hmv, hms, hred⟩
  rcases h with h | h | h
  · omega
  · omega
  · exact absurd (hred.symm.trans h) (by decide)

theorem panelResume_sp (s : State) : (s.sp.st = .paused → (panelResume s).sp.st = (if 4 ≤ s.sp.phase then .compensate else .update)) ∧
    (s.sp.st ≠ .paused → (panelResume s).sp = s.sp) := by
  unfold panelResume
  refine ⟨fun h => ?_, fun h => ?_⟩
  · rw [if_pos h]
    rfl
  · rw [if_neg h]

theorem churnResume_frame (s : State) : onlyIn [.mc] s (churnResume s) ∧ (churnResume s).mc.mem = s.mc.mem := ⟨frame_churnResume s, rfl⟩

theorem vsupNormal_returns {mv ms : Nat} (hmv : 8300 ≤ mv) (hms : 10 ≤ ms) (hred : s.pw.vsupReduced = true) (hlen : s.pw.doms.length = 13) :
    ∃ t, exec (.vsupNormalReturn mv ms) s = .next t ∧ onlyIn [.mc, .an, .pw, .sp] s t ∧ t.an = { s.an with vsup := mv } ∧ t.pw.vsupReduced = false ∧
      t.mc.mem = s.mc.mem ∧ (s.sp.st = .paused → t.sp.st = (if 4 ≤ s.sp.phase then .compensate else .update)) ∧ (s.sp.st ≠ .paused → t.sp = s.sp) ∧
      (∀ d : Nat, domOf t d = if (d = 11 ∨ d = 12) ∧ domOf s d = .reduced then .on else domOf s d) := by
  have hexec : exec (.vsupNormalReturn mv ms) s = .next (churnResume (panelResume (vsupBack mv s))) :=
    congrArg Host.Outcome.next (if_pos (by simp [hmv, hms, hred]))
  have hput : onlyIn [.an, .pw] s (vsupBack mv s) := onlyIn_step (onlyIn_put_pw _ _) rfl (onlyIn_mono (onlyIn_put_an _ s) rfl)
  have hback : (vsupBack mv s).an = { s.an with vsup := mv } ∧ (vsupBack mv s).pw.vsupReduced = false ∧
      ∀ d, domOf (vsupBack mv s) d = if (d = 11 ∨ d = 12) ∧ domOf s d = .reduced then .on else domOf s d := by
    refine ⟨rfl, rfl, fun d => (domOf_updTwo domFull hlen d).trans ?_⟩
    unfold domFull
    by_cases h1 : d = 11 ∨ d = 12 <;> by_cases h2 : domOf s d = .reduced <;> simp [h1, h2]
  generalize vsupBack mv s = x at *
  obtain ⟨hmc, hmem⟩ := churnResume_frame (panelResume x)
  have hsp := frame_panelResume x
  obtain ⟨hpaused, hother⟩ := panelResume_sp x
  generalize panelResume x = y at *
  generalize churnResume y = t at *
  obtain ⟨han, hvsup, hdoms⟩ := hback
  have hxsp : x.sp = s.sp := hput .sp (by decide)
  have htsp : t.sp = y.sp := hmc .sp (by decide)
  have hpw : t.pw = x.pw := (hmc .pw (by decide)).trans (hsp .pw (by decide))
  rw [hxsp] at hpaused hother
  refine ⟨t, hexec, onlyIn_step hmc rfl (onlyIn_step hsp rfl (onlyIn_mono hput rfl)), ((hmc .an (by decide)).trans (hsp .an (by decide))).trans han,
    by rw [hpw, hvsup], hmem.trans (congrArg Mica.mem ((hsp .mc (by decide)).trans (hput .mc (by decide)))), fun h => by rw [htsp]; exact hpaused h,
    fun h => by rw [htsp]; exact hother h, fun d => ?_⟩
  have hd := hdoms d
  unfold domOf at hd ⊢
  rw [hpw]
  exact hd

/-! ### VBAT (R388, R390) -/

/-- VBAT is out of its range. -/
def vbatGone (st : VbatSt) (mv : Nat) (s : State) : State :=
  updPw (fun p => { p with vbat := st }) (updAn (fun a => { a with vbat := mv, vbatOut := true }) s)

/-- Every valve and load switch is off as VBAT leaves its range. -/
structure VbatLeft (st : VbatSt) (mv : Nat) (s t : State) : Prop where
  frame : onlyIn (.vd :: .ls :: .an :: .pw :: .free :: tells) s t
  supplies : t.pw = { s.pw with vbat := st }
  inputs : t.an = { s.an with vbat := mv, vbatOut := true }
  valves : ∀ ch : Nat, ch < 12 → VdResting (vdChan t ch)
  loads : ∀ ch : Nat, ch < 24 → ¬LsDriven (lsChan t ch) ∧ (lsChan t ch).req = (lsChan s ch).req

theorem vbatLeave_left (st : VbatSt) (mv : Nat) (hlen : s.vd.chans.length = 12) : VbatLeft st mv s (vbatLeave st mv s) := by
  have hoff : vbatLeave st mv s = lsVbatOff ((List.range 12).foldl (fun x ch => vdOff ch x) (vbatGone st mv s)) := rfl
  have hrests : ∀ ch, ch < 12 → VdResting (vdChan ((List.range 12).foldl (fun x ch => vdOff ch x) (vbatGone st mv s)) ch) :=
    fun ch hch => vdAllOff_rests (s := vbatGone st mv s) hlen hch
  have hrun : VdRun AnyChan (vbatGone st mv s) ((List.range 12).foldl (fun x ch => vdOff ch x) (vbatGone st mv s)) :=
    vdRun_foldl (fun x ch _ => vdRun_vdOff ch x) _
  have hput : onlyIn [.an, .pw] s (vbatGone st mv s) := onlyIn_step (onlyIn_put_pw _ _) rfl (onlyIn_mono (onlyIn_put_an _ s) rfl)
  rw [hoff]
  generalize (List.range 12).foldl (fun x ch => vdOff ch x) (vbatGone st mv s) = x at *
  have hls := lsVbatOff_run x
  have hvd : (lsVbatOff x).vd = x.vd := hls.1 .vd (by decide)
  have hxls : x.ls = s.ls := hrun.frame .ls (by decide)
  refine ⟨onlyIn_step hls.1 rfl (onlyIn_step hrun.frame rfl (onlyIn_mono hput rfl)), (hls.1 .pw (by decide)).trans (hrun.frame .pw (by decide)),
    (hls.1 .an (by decide)).trans (hrun.frame .an (by decide)), fun ch hch => ?_, fun ch hch => ?_⟩
  · rw [vdChan_congr hvd]
    exact hrests ch hch
  · rw [← lsChan_congr hxls ch]
    exact lsVbatOff_opens x hch

theorem vbatLow_waits {mv us : Nat} (h : 6000 ≤ mv ∨ us < 1000 ∨ s.pw.vbat ≠ .normal) : exec (.vbatLowEntry mv us) s = .next s := by
  refine congrArg Host.Outcome.next (if_neg ?_)
  simp only [Bool.and_eq_true, decide_eq_true_iff, Bool.and_assoc]
  rintro ⟨hmv, hus, hst⟩
  rcases h with h | h | h
  · omega
  · omega
  · exact h hst

theorem vbatLow_enters {mv us : Nat} (hmv : mv < 6000) (hus : 1000 ≤ us) (hst : s.pw.vbat = .normal) :
    exec (.vbatLowEntry mv us) s = .next (vbatLeave .low mv s) := congrArg Host.Outcome.next (if_pos (by simp [hmv, hus, hst]))

theorem vbatHigh_waits {mv us : Nat} (h : mv ≤ 40000 ∨ us < 50 ∨ s.pw.vbat ≠ .normal) : exec (.vbatHighEntry mv us) s = .next s := by
  refine congrArg Host.Outcome.next (if_neg ?_)
  simp only [Bool.and_eq_true, decide_eq_true_iff, Bool.and_assoc]
  rintro ⟨hmv, hus, hst⟩
  rcases h with h | h | h
  · omega
  · omega
  · exact h hst

theorem vbatHigh_enters {mv us : Nat} (hmv : 40000 < mv) (hus : 50 ≤ us) (hst : s.pw.vbat = .normal) :
    exec (.vbatHighEntry mv us) s = .next (vbatLeave .high mv s) := congrArg Host.Outcome.next (if_pos (by simp [hmv, hus, hst]))

/-- VBAT is back in its range. -/
def VbatBack (mv : Nat) (s : State) : Prop := (s.pw.vbat = .low ∧ 6500 ≤ mv) ∨ (s.pw.vbat = .high ∧ mv ≤ 38000)

/-- VBAT is normal. -/
def vbatNormal (mv : Nat) (s : State) : State :=
  updPw (fun p => { p with vbat := .normal }) (updAn (fun a => { a with vbat := mv, vbatOut := false }) s)

theorem vbatNormal_eq (mv ms : Nat) (s : State) [Decidable (VbatBack mv s ∧ 10 ≤ ms)] :
    exec (.vbatNormalReturn mv ms) s = .next (if VbatBack mv s ∧ 10 ≤ ms then lsVbatOn (vbatNormal mv s) else s) := by
  have hback : (match s.pw.vbat with
      | .low => decide (6500 ≤ mv)
      | .high => decide (mv ≤ 38000)
      | .normal => false) = true ↔ VbatBack mv s := by
    unfold VbatBack
    cases s.pw.vbat <;> simp
  refine congrArg Host.Outcome.next (if_congr ?_ rfl rfl)
  rw [Bool.and_eq_true, decide_eq_true_iff]
  exact and_congr_left fun _ => hback

theorem vbatNormal_acts (mv ms : Nat) : ((¬VbatBack mv s ∨ ms < 10) → exec (.vbatNormalReturn mv ms) s = .next s) ∧
    (VbatBack mv s → 10 ≤ ms → ∃ t, exec (.vbatNormalReturn mv ms) s = .next t ∧ onlyIn [.ls, .an, .pw] s t ∧ t.pw = { s.pw with vbat := .normal } ∧
      t.an = { s.an with vbat := mv, vbatOut := false } ∧
      (∀ ch : Nat, ch < 24 → (lsChan s ch).st = .off → (lsChan s ch).req = true → lsGate t ch = true → (lsChan t ch).st = .on) ∧
      (∀ ch : Nat, ch < 24 → (lsChan s ch).req = false → lsChan t ch = lsChan s ch)) := by
  classical
  have hexec := vbatNormal_eq mv ms s
  refine ⟨fun h => hexec.trans (congrArg Host.Outcome.next (if_neg ?_)), fun hback hms => ?_⟩
  · rintro ⟨hback, hms⟩
    exact h.elim (· hback) (by omega)
  rw [if_pos ⟨hback, hms⟩] at hexec
  have hls := frame_lsVbatOn (vbatNormal mv s)
  refine ⟨_, hexec, frame_execVbatNormalReturn mv ms s _ hexec, hls .pw (by decide), hls .an (by decide), fun ch hch hst hreq hgate => ?_, fun ch hch hreq => ?_⟩
  · exact (lsVbatOn_resumes (vbatNormal mv s) hch).1 hst hreq ((lsGate_ls hls ch).symm.trans hgate)
  · exact (lsVbatOn_resumes (vbatNormal mv s) hch).2 hreq

/-- A condition that begins where a test holds. -/
theorem isPresent_beginIf {c : Prop} [Decidable c] (code inst data : Nat) (s : State) (code' inst' : Nat) :
    isPresent (if c then beginCond code inst data s else s) code' inst' = (isPresent s code' inst' || (decide c && (code == code' && inst == inst'))) := by
  split
  · rename_i h
    rw [isPresent_beginCond, decide_eq_true h, Bool.true_and]
  · rename_i h
    rw [decide_eq_false h, Bool.false_and, Bool.or_false]

/-- The battery's voltage taken. -/
def vbatRead (mv : Nat) (s : State) : State := updAn (fun a => { a with vbat := mv }) s

theorem vbatUvOv_detects (hinj : s.ev.injs = []) (mv ms : Nat) : ∃ t, exec (.vbatUvOvDetect mv ms) s = .next t ∧ onlyIn (.an :: tells) s t ∧
    t.an = { s.an with vbat := mv } ∧
    isPresent t detVbatUndervoltage 0 = (isPresent s detVbatUndervoltage 0 || (decide ((mv : Int) < param s pPwVbatUv) && decide (100 ≤ ms))) ∧
    isPresent t detVbatOvervoltage 0 = (isPresent s detVbatOvervoltage 0 || (decide (param s pPwVbatOv < (mv : Int)) && decide (10 ≤ ms))) := by
  have hexec : exec (.vbatUvOvDetect mv ms) s = .next (if (decide (param s pPwVbatOv < (mv : Int)) && decide (10 ≤ ms)) = true then
      beginCond detVbatOvervoltage 0 (mv : Int).toNat
        (if (decide ((mv : Int) < param s pPwVbatUv) && decide (100 ≤ ms)) = true then beginCond detVbatUndervoltage 0 (mv : Int).toNat (vbatRead mv s) else vbatRead mv s)
      else (if (decide ((mv : Int) < param s pPwVbatUv) && decide (100 ≤ ms)) = true then beginCond detVbatUndervoltage 0 (mv : Int).toNat (vbatRead mv s) else vbatRead mv s)) := by
    show execVbatUvOvDetect mv ms s = _
    unfold execVbatUvOvDetect
    simp only [measured_of_noInjs hinj]
    rfl
  have huv : Told (vbatRead mv s) (if (decide ((mv : Int) < param s pPwVbatUv) && decide (100 ≤ ms)) = true then
      beginCond detVbatUndervoltage 0 (mv : Int).toNat (vbatRead mv s) else vbatRead mv s) := told_ite (told_beginCond _ _ _ _) (.refl _)
  have hput : onlyIn [.an] s (vbatRead mv s) := onlyIn_put_an _ s
  have hsame : ∀ code, isPresent (vbatRead mv s) code 0 = isPresent s code 0 := fun _ => rfl
  have hne : (detVbatUndervoltage == detVbatOvervoltage) = false := by decide
  have hne' : (detVbatOvervoltage == detVbatUndervoltage) = false := by decide
  refine ⟨_, hexec, ?_, ?_, ?_, ?_⟩
  · exact onlyIn_step (huv.trans (told_ite (told_beginCond _ _ _ _) (.refl _))).frame rfl (onlyIn_mono hput rfl)
  · exact (huv.trans (told_ite (told_beginCond _ _ _ _) (.refl _))).frame .an (by decide)
  · rw [isPresent_beginIf, isPresent_beginIf, hsame, hne']
    simp
  · rw [isPresent_beginIf, isPresent_beginIf, hsame, hne]
    simp

end Sys2Proof.Proofs
end

section
/-!
PROOFS. Sensor supplies, temperature and stop inputs (R393, R402, R403), and O55.
-/

namespace Sys2Proof.Proofs

open Sys2Proof.Machine Sys2Proof.Safety

variable {s t u : State}

/-! ### Sensor supplies (R393) -/

/-- Of the supplies only sensor supply `k` has changed, and something may have been told. -/
def OneSup (k : Nat) (s t : State) : Prop := onlyIn (.pw :: tells) s t ∧ ∀ j : Nat, j ≠ k → supOf t j = supOf s j

theorem supOf_congr (h : t.pw = s.pw) (k : Nat) : supOf t k = supOf s k := by rw [supOf, h, supOf]

theorem supOf_updSup (k : Nat) (f : SensorSupply → SensorSupply) (hk : k < s.pw.sups.length) : supOf (updSup k f s) k = f (supOf s k) :=
  (nth_updAt _ _ _ _ _ hk).trans (if_pos rfl)

theorem oneSup_updSup (k : Nat) (f : SensorSupply → SensorSupply) (s : State) : OneSup k s (updSup k f s) :=
  ⟨onlyIn_mono (onlyIn_put_pw _ s) rfl, fun _ hj => nth_updAt_ne _ _ _ hj.symm⟩

theorem OneSup.told {k : Nat} (h : OneSup k s t) (h' : Told t u) : OneSup k s u :=
  ⟨onlyIn_step h'.frame rfl h.1, fun j hj => (supOf_congr (h'.frame .pw (by decide)) j).trans (h.2 j hj)⟩

section
variable {sup : Fin 6}

/-- What makes a sensor supply trip: a short to a supply, or 10 ms in limit. -/
def SupTrips (k ma mv ms : Nat) : Prop := (supRating k).2 + 500 < mv ∨ ((supRating k).1 * 125 ≤ ma * 100 ∧ 10 ≤ ms)

/-- A sensor supply that is switched on. -/
def SupOn (k : Nat) (s : State) : Prop := (supOf s k).st = .on ∨ (supOf s k).st = .limit

theorem sensorSupplyFault_eq (hinj : s.ev.injs = []) (ma mv ms : Nat) [Decidable (SupOn sup.val s ∧ SupTrips sup.val ma mv ms)] [Decidable (SupOn sup.val s)] :
    exec (.sensorSupplyFault sup ma mv ms) s = .next (if SupOn sup.val s ∧ SupTrips sup.val ma mv ms then
      beginCond detSensorSupplyFault (sup.val + 1) 0 (updSup sup.val (fun _ => ⟨.fault, 0, decide ((supRating sup.val).2 + 500 < mv), s.clk.ms⟩) s)
    else if SupOn sup.val s then
      updSup sup.val (fun x => { x with ma := ma, st := if (supRating sup.val).1 * 125 ≤ ma * 100 then .limit else .on }) s
    else s) := by
  show execSensorSupplyFault sup ma mv ms s = _
  unfold execSensorSupplyFault
  simp only [forcedFor_of_noInjs hinj, Bool.or_false, decide_eq_true_iff]
  refine congrArg Host.Outcome.next (if_congr ?_ rfl (if_congr ?_ rfl rfl))
  · simp only [SupOn, SupTrips, Bool.and_eq_true, Bool.or_eq_true, beq_iff_eq, decide_eq_true_iff]
  · simp only [SupOn, Bool.or_eq_true, beq_iff_eq]

theorem sensorSupplyFault_acts (hinj : s.ev.injs = []) (hlen : s.pw.sups.length = 6) (ma mv ms : Nat) :
    ((supOf s sup.val).st ≠ .on → (supOf s sup.val).st ≠ .limit → exec (.sensorSupplyFault sup ma mv ms) s = .next s) ∧
    (SupOn sup.val s → SupTrips sup.val ma mv ms → ∃ t, exec (.sensorSupplyFault sup ma mv ms) s = .next t ∧ OneSup sup.val s t ∧
      supOf t sup.val = ⟨.fault, 0, decide ((supRating sup.val).2 + 500 < mv), s.clk.ms⟩ ∧ isPresent t detSensorSupplyFault (sup.val + 1) = true) ∧
    (SupOn sup.val s → ¬SupTrips sup.val ma mv ms → ∃ t, exec (.sensorSupplyFault sup ma mv ms) s = .next t ∧ OneSup sup.val s t ∧
      supOf t sup.val = { supOf s sup.val with ma := ma, st := if (supRating sup.val).1 * 125 ≤ ma * 100 then .limit else .on }) := by
  classical
  have hexec := sensorSupplyFault_eq (sup := sup) hinj ma mv ms
  have hk : sup.val < s.pw.sups.length := sup.isLt.trans_eq hlen.symm
  refine ⟨fun h1 h2 => hexec.trans (congrArg Host.Outcome.next ?_), fun hon htrip => ?_, fun hon hno => ?_⟩
  · have hoff : ¬SupOn sup.val s := not_or.mpr ⟨h1, h2⟩
    rw [if_neg (fun h => hoff h.1), if_neg hoff]
  · rw [if_pos ⟨hon, htrip⟩] at hexec
    have htold := told_beginCond detSensorSupplyFault (sup.val + 1) 0
      (updSup sup.val (fun _ => ⟨.fault, 0, decide ((supRating sup.val).2 + 500 < mv), s.clk.ms⟩) s)
    exact ⟨_, hexec, (oneSup_updSup sup.val _ s).told htold, (supOf_congr (htold.frame .pw (by decide)) _).trans (supOf_updSup sup.val _ hk),
      isPresent_begun _ _ _ _⟩
  · rw [if_neg (fun h => hno h.2), if_pos hon] at hexec
    exact ⟨_, hexec, oneSup_updSup sup.val _ s, supOf_updSup sup.val _ hk⟩

/-- A sensor supply is on again and its fault is over. -/
theorem supBack_back (hlen : s.pw.sups.length = 6) (hk : sup.val < 6) : OneSup sup.val s (supBack sup.val s) ∧ (supOf (supBack sup.val s) sup.val).st = .on ∧
    isPresent (supBack sup.val s) detSensorSupplyFault (sup.val + 1) = false := by
  have htold := told_detect detSensorSupplyFault (sup.val + 1) false 0 (updSup sup.val (fun x => { x with st := .on, short := false }) s)
  refine ⟨(oneSup_updSup sup.val _ s).told htold, ?_, isPresent_detect _ _ _ _ _⟩
  exact congrArg SensorSupply.st ((supOf_congr (htold.frame .pw (by decide)) _).trans (supOf_updSup sup.val _ (hk.trans_eq hlen.symm)))

theorem sensorSupplyRetry_waits (limited : Bool) (h : (supOf s sup.val).st ≠ .fault ∨ (supOf s sup.val).short = true ∨ s.clk.ms < (supOf s sup.val).since + 1000) :
    exec (.sensorSupplyRetry sup limited) s = .next s := by
  refine congrArg Host.Outcome.next (if_neg ?_)
  simp only [Bool.and_eq_true, decide_eq_true_iff, Bool.not_eq_true', elapsed, Bool.and_assoc]
  rintro ⟨hst, hshort, hlate⟩
  rcases h with h | h | h
  · exact h hst
  · exact absurd (hshort.symm.trans h) (by decide)
  · omega

theorem sensorSupplyRetry_tries (hinj : s.ev.injs = []) (hlen : s.pw.sups.length = 6) (limited : Bool) (hst : (supOf s sup.val).st = .fault)
    (hshort : (supOf s sup.val).short = false) (hlate : (supOf s sup.val).since + 1000 ≤ s.clk.ms) :
    ∃ t, exec (.sensorSupplyRetry sup limited) s = .next t ∧ OneSup sup.val s t ∧
      (limited = true → supOf t sup.val = { supOf s sup.val with since := s.clk.ms }) ∧
      (limited = false → (supOf t sup.val).st = .on ∧ isPresent t detSensorSupplyFault (sup.val + 1) = false) := by
  have hexec : exec (.sensorSupplyRetry sup limited) s = .next (if limited = true then updSup sup.val (fun y => { y with since := s.clk.ms }) s else supBack sup.val s) := by
    refine congrArg Host.Outcome.next ((if_pos ?_).trans ?_)
    · rw [hst, hshort]
      simpa [elapsed] using hlate
    · rw [forced_of_noInjs hinj, Bool.or_false]
  cases limited with
  | true =>
    exact ⟨_, hexec, oneSup_updSup sup.val _ s, fun _ => supOf_updSup sup.val _ (sup.isLt.trans_eq hlen.symm), nofun⟩
  | false =>
    obtain ⟨hone, hon, hover⟩ := supBack_back (sup := sup) hlen sup.isLt
    exact ⟨_, hexec, hone, nofun, fun _ => ⟨hon, hover⟩⟩

theorem sensorSupplyShort_waits (h : (supOf s sup.val).st ≠ .fault ∨ (supOf s sup.val).short = false) : exec (.sensorSupplyShortRemoved sup) s = .next s := by
  refine congrArg Host.Outcome.next (if_neg ?_)
  rw [Bool.and_eq_true, decide_eq_true_iff]
  rintro ⟨hst, hshort⟩
  exact h.elim (· hst) (by rw [hshort]; decide)

theorem sensorSupplyShort_removed (hlen : s.pw.sups.length = 6) (hst : (supOf s sup.val).st = .fault) (hshort : (supOf s sup.val).short = true) :
    ∃ t, exec (.sensorSupplyShortRemoved sup) s = .next t ∧ OneSup sup.val s t ∧ (supOf t sup.val).st = .on ∧
      isPresent t detSensorSupplyFault (sup.val + 1) = false := by
  have hexec : exec (.sensorSupplyShortRemoved sup) s = .next (supBack sup.val s) := congrArg Host.Outcome.next (if_pos (by rw [hst, hshort]; rfl))
  exact ⟨_, hexec, supBack_back hlen sup.isLt⟩

end

/-! ### Temperature (R402) -/

/-- The temperature taken. -/
def tempRead (temp : Int) (s : State) : State := updAn (fun a => { a with temp := temp }) s

/-- The detector of the temperature has judged it. -/
def tempTold (temp : Int) (ms : Nat) (s : State) : State :=
  if param s pPwTempWarn ≤ temp && 1000 ≤ ms then beginCond detModuleOverTemperature 0 temp.toNat (tempRead temp s)
  else if temp < param s pPwTempWarn then detect detModuleOverTemperature 0 false 0 (tempRead temp s) else tempRead temp s

theorem overTemperature_judges (hinj : s.ev.injs = []) (temp : Int) (ms : Nat) : ∃ t, exec (.overTemperature temp ms) s = .next t ∧
    onlyIn (.an :: .pw :: tells) s t ∧ t.an = { s.an with temp := temp } ∧
    t.pw = { s.pw with gated := decide (param s pPwTempWarn + 100 ≤ temp) || (s.pw.gated && !decide (temp < param s pPwTempWarn - 50)) } ∧
    (param s pPwTempWarn ≤ temp → 1000 ≤ ms → isPresent t detModuleOverTemperature 0 = true) ∧
    (temp < param s pPwTempWarn → isPresent t detModuleOverTemperature 0 = false) ∧
    (param s pPwTempWarn ≤ temp → ms < 1000 → isPresent t detModuleOverTemperature 0 = isPresent s detModuleOverTemperature 0) := by
  have hexec : exec (.overTemperature temp ms) s = .next (updPw (fun p => { p with
      gated := decide (param s pPwTempWarn + 100 ≤ temp) || (p.gated && !decide (temp < param s pPwTempWarn - 50)) }) (tempTold temp ms s)) := by
    show Host.Outcome.next (tempJudge temp ms s) = _
    unfold tempJudge
    rw [measured_of_noInjs hinj]
    rfl
  have htold : Told (tempRead temp s) (tempTold temp ms s) := told_ite (told_beginCond _ _ _ _) (told_ite (told_detect _ _ _ _ _) (.refl _))
  have hput : onlyIn [.an] s (tempRead temp s) := onlyIn_put_an _ s
  have hpw : (tempTold temp ms s).pw = s.pw := (htold.frame .pw (by decide)).trans (hput .pw (by decide))
  have hlast : ∀ g : Power → Power, isPresent (updPw g (tempTold temp ms s)) detModuleOverTemperature 0 = isPresent (tempTold temp ms s) detModuleOverTemperature 0 :=
    fun _ => rfl
  refine ⟨_, hexec, onlyIn_step (onlyIn_put_pw _ _) rfl (onlyIn_step htold.frame rfl (onlyIn_mono hput rfl)), htold.frame .an (by decide), ?_,
    fun hwarm hlong => ?_, fun hcool => ?_, fun hwarm hshort => ?_⟩
  · rw [updPw_pw, hpw]
  · rw [hlast, tempTold, if_pos (by simp [hwarm, hlong])]
    exact isPresent_begun _ _ _ _
  · rw [hlast, tempTold, if_neg (by simp; omega), if_pos hcool]
    exact isPresent_detect _ _ _ _ _
  · rw [hlast, tempTold, if_neg (by simp; omega), if_neg (by omega)]
    rfl

/-! ### STOP inputs (R403) -/

/-- The inputs with STOP `b` as it now is. -/
def stopRead (b asserted : Bool) (a : Analog) : Analog := if b then { a with stopB := asserted } else { a with stopA := asserted }

/-- The gate supply of a group is gone where its input is asserted. -/
def stopDone (b asserted : Bool) (s : State) : State :=
  if asserted then lsStop b (vdStop b (updAn (stopRead b asserted) s)) else updAn (stopRead b asserted) s

/-- The disagreement of the two inputs is timed. -/
def stopTimed (now : Nat) (x : State) : State :=
  if x.an.stopA = x.an.stopB then
    if forced (updPw (fun p => { p with stopDiff := none }) x) detStopANAndStopBNDisagree 0 then updPw (fun p => { p with stopDiff := none }) x
    else detect detStopANAndStopBNDisagree 0 false 0 (updPw (fun p => { p with stopDiff := none }) x)
  else updPw (fun p => { p with stopDiff := some (p.stopDiff.getD now) }) x

theorem stopInput_eq (g : Fin 2) (asserted : Bool) (s : State) :
    exec (.stopInputChange g asserted) s = .next (stopTimed s.clk.ms (stopDone (g.val == 1) asserted s)) := rfl

/-- What the timing leaves. -/
theorem stopTimed_acts (now : Nat) (hinj : s.ev.injs = []) : onlyIn (.pw :: tells) s (stopTimed now s) ∧
    (s.an.stopA = s.an.stopB → (stopTimed now s).pw.stopDiff = none ∧ isPresent (stopTimed now s) detStopANAndStopBNDisagree 0 = false) ∧
    (s.an.stopA ≠ s.an.stopB → (stopTimed now s).pw.stopDiff = some (s.pw.stopDiff.getD now)) := by
  have hput : ∀ p : Power → Power, onlyIn (.pw :: tells) s (updPw p s) := fun _ => onlyIn_mono (onlyIn_put_pw _ s) rfl
  unfold stopTimed
  by_cases h : s.an.stopA = s.an.stopB
  · have htold := told_detect detStopANAndStopBNDisagree 0 false 0 (updPw (fun p => { p with stopDiff := none }) s)
    have hpw := htold.frame .pw (by decide)
    rw [if_pos h, if_neg (by rw [forced_of_noInjs (s := updPw (fun p => { p with stopDiff := none }) s) hinj]; decide)]
    exact ⟨onlyIn_step htold.frame rfl (hput _), fun _ => ⟨congrArg Power.stopDiff hpw, isPresent_detect _ _ _ _ _⟩, fun hne => absurd h hne⟩
  · rw [if_neg h]
    exact ⟨hput _, fun he => absurd he h, fun _ => rfl⟩

/-- What a STOP input does to the outputs. -/
structure StopDone (b asserted : Bool) (s t : State) : Prop where
  frame : onlyIn (.vd :: .ls :: .an :: .free :: tells) s t
  inputs : t.an = stopRead b asserted s.an
  noInjs : s.ev.injs = [] → t.ev.injs = []
  idle : asserted = false → t.vd = s.vd ∧ t.ls = s.ls
  valves : asserted = true → s.vd.chans.length = 12 → ∀ ch : Nat, ch < 12 → vdGroupB s ch = b → VdResting (vdChan t ch)
  loads : asserted = true → ∀ ch : Nat, ch < 24 → (lsGroupB s ch = b → ¬LsDriven (lsChan t ch) ∧ (lsChan t ch).req = false) ∧
    (lsGroupB s ch ≠ b → lsChan t ch = lsChan s ch)

theorem stopDone_done (b asserted : Bool) (s : State) : StopDone b asserted s (stopDone b asserted s) := by
  have hput : onlyIn [.an] s (updAn (stopRead b asserted) s) := onlyIn_put_an _ s
  cases asserted with
  | false => exact ⟨onlyIn_mono hput rfl, rfl, id, fun _ => ⟨rfl, rfl⟩, nofun, nofun⟩
  | true =>
    have hvd : VdRun AnyChan (updAn (stopRead b true) s) (vdStop b (updAn (stopRead b true) s)) :=
      vdRun_vdOffs (G := fun x c => vdGroupB x c == b) (List.range 12) _
    have hls := lsStop_run b (vdStop b (updAn (stopRead b true) s))
    have hrun : stopDone b true s = lsStop b (vdStop b (updAn (stopRead b true) s)) := rfl
    have hwork : (vdStop b (updAn (stopRead b true) s)).pf.work = s.pf.work := hvd.work
    have hloads : (vdStop b (updAn (stopRead b true) s)).ls = s.ls := hvd.frame .ls (by decide)
    have hgroup : ∀ ch, lsGroupB (vdStop b (updAn (stopRead b true) s)) ch = lsGroupB s ch := fun ch => by
      unfold lsGroupB lsOwner
      rw [hwork]
    rw [hrun]
    refine ⟨onlyIn_step hls.1 rfl (onlyIn_step hvd.frame rfl (onlyIn_mono hput rfl)), (hls.1 .an (by decide)).trans (hvd.frame .an (by decide)),
      fun h => hls.2.2 (hvd.noInjs h), nofun, fun _ hlen ch hch hg => ?_, fun _ ch hch => ?_⟩
    · rw [vdChan_congr (hls.1 .vd (by decide))]
      exact vdStop_rests (s := updAn (stopRead b true) s) b hlen hch hg
    · have hstop := lsStop_stops b (vdStop b (updAn (stopRead b true) s)) hch
      rw [hgroup ch, lsChan_congr hloads ch] at hstop
      exact hstop

theorem stopInput_acts (hinj : s.ev.injs = []) (g : Fin 2) (asserted : Bool) : ∃ t, exec (.stopInputChange g asserted) s = .next t ∧
    onlyIn (.vd :: .ls :: .an :: .pw :: .free :: tells) s t ∧ t.an = stopRead (g.val == 1) asserted s.an ∧
    ((stopRead (g.val == 1) asserted s.an).stopA = (stopRead (g.val == 1) asserted s.an).stopB →
      t.pw.stopDiff = none ∧ isPresent t detStopANAndStopBNDisagree 0 = false) ∧
    ((stopRead (g.val == 1) asserted s.an).stopA ≠ (stopRead (g.val == 1) asserted s.an).stopB → t.pw.stopDiff = some (s.pw.stopDiff.getD s.clk.ms)) ∧
    (asserted = false → t.vd = s.vd ∧ t.ls = s.ls) ∧
    (asserted = true → s.vd.chans.length = 12 → (∀ ch : Nat, ch < 12 → vdGroupB s ch = (g.val == 1) → VdResting (vdChan t ch)) ∧
      (∀ ch : Nat, ch < 24 → lsGroupB s ch = (g.val == 1) → ¬LsDriven (lsChan t ch) ∧ (lsChan t ch).req = false) ∧
      (∀ ch : Nat, ch < 24 → lsGroupB s ch ≠ (g.val == 1) → lsChan t ch = lsChan s ch)) := by
  obtain ⟨hframe, han, hno, hidle, hvalves, hloads⟩ := stopDone_done (g.val == 1) asserted s
  have hexec := stopInput_eq g asserted s
  generalize (g.val == 1) = b at *
  generalize stopDone b asserted s = x at *
  obtain ⟨hlast, hsame, hdiff⟩ := stopTimed_acts s.clk.ms (hno hinj)
  have hpw : x.pw = s.pw := hframe .pw (by decide)
  rw [han] at hsame hdiff
  rw [hpw] at hdiff
  generalize stopTimed s.clk.ms x = t at *
  have hvd : t.vd = x.vd := hlast .vd (by decide)
  have hls : t.ls = x.ls := hlast .ls (by decide)
  refine ⟨t, hexec, onlyIn_step hlast rfl (onlyIn_mono hframe rfl), (hlast .an (by decide)).trans han, hsame, hdiff, fun h => ?_, fun h hlen => ⟨?_, ?_, ?_⟩⟩
  · rw [hvd, hls]
    exact hidle h
  · intro ch hch hg
    rw [vdChan_congr hvd]
    exact hvalves h hlen ch hch hg
  · intro ch hch hg
    rw [lsChan_congr hls]
    exact (hloads h ch hch).1 hg
  · intro ch hch hg
    rw [lsChan_congr hls]
    exact (hloads h ch hch).2 hg

theorem stopDiscrepancy_timed (hinj : s.ev.injs = []) {since : Nat} (h : s.pw.stopDiff = some since) :
    (since + paramN s pPwStopDiscrepancy ≤ s.clk.ms → exec .stopDiscrepancy s = .next (beginCond detStopANAndStopBNDisagree 0 0 s)) ∧
    (s.clk.ms < since + paramN s pPwStopDiscrepancy → exec .stopDiscrepancy s = .next s) := by
  have hexec : exec .stopDiscrepancy s = .next (if elapsed s since (paramN s pPwStopDiscrepancy) = true then beginCond detStopANAndStopBNDisagree 0 0 s else s) := by
    show execStopDiscrepancy s = _
    unfold execStopDiscrepancy
    simp [h, forcedFor_of_noInjs hinj]
  rw [hexec]
  exact ⟨fun hle => congrArg Host.Outcome.next (if_pos (by simpa [elapsed] using hle)),
    fun hlt => congrArg Host.Outcome.next (if_neg (by simpa [elapsed] using hlt))⟩

theorem stopDiscrepancy_none (hinj : s.ev.injs = []) (h : s.pw.stopDiff = none) :
    ∃ t, exec .stopDiscrepancy s = .next t ∧ onlyIn tells s t ∧ isPresent t detStopANAndStopBNDisagree 0 = false := by
  have hexec : exec .stopDiscrepancy s = .next (detect detStopANAndStopBNDisagree 0 false 0 s) := by
    show execStopDiscrepancy s = _
    unfold execStopDiscrepancy
    simp [h, forcedFor_of_noInjs hinj, forced_of_noInjs hinj]
  exact ⟨_, hexec, (told_detect _ _ _ _ _).frame, isPresent_detect _ _ _ _ _⟩

/-- Settles O55: each condition switches what it names; the groups of outputs are followed channel by channel. -/
theorem powerConditionsAct : Obligations.PowerConditionsAct := by
  unfold Obligations.PowerConditionsAct
  intro s hinj
  refine ⟨fun mv us => ⟨vsupReduced_waits, vsupReduced_enters, vbatLow_waits, fun h1 h2 h3 hlen => ?_, vbatHigh_waits, fun h1 h2 h3 hlen => ?_⟩,
    fun mv ms => ⟨vsupNormal_waits, vsupNormal_returns, (vbatNormal_acts mv ms).1, (vbatNormal_acts mv ms).2, vbatUvOv_detects hinj mv ms⟩,
    fun sup hlen => ⟨fun ma mv ms => sensorSupplyFault_acts hinj hlen ma mv ms,
      fun limited => ⟨sensorSupplyRetry_waits limited, sensorSupplyRetry_tries hinj hlen limited⟩, sensorSupplyShort_waits, sensorSupplyShort_removed hlen⟩,
    overTemperature_judges hinj, stopInput_acts hinj, fun since h => stopDiscrepancy_timed hinj h, stopDiscrepancy_none hinj, rfl⟩
  · obtain ⟨hframe, hpw, han, hvd, hls⟩ := vbatLeave_left .low mv hlen
    exact ⟨_, vbatLow_enters h1 h2 h3, hframe, hpw, han, hvd, hls⟩
  · obtain ⟨hframe, hpw, han, hvd, hls⟩ := vbatLeave_left .high mv hlen
    exact ⟨_, vbatHigh_enters h1 h2 h3, hframe, hpw, han, hvd, hls⟩

end Sys2Proof.Proofs
end

section
/-!
PROOFS. Analog, frequency and bridge inputs out of range (R141, R433, R434), and O56.
-/

namespace Sys2Proof.Proofs

open Sys2Proof.Machine Sys2Proof.Safety

variable {s t u : State}

/-! ### Analog inputs -/

section
variable {ch : Fin 40}

theorem ainOf_congr (h : t.an = s.an) (k : Nat) : ainOf t k = ainOf s k := by rw [ainOf, h, ainOf]

theorem ainOf_updAin (f : AinChan → AinChan) (hlen : s.an.ains.length = 40) : ainOf (updAin ch.val f s) ch.val = f (ainOf s ch.val) :=
  (nth_updAt _ _ _ _ _ (ch.isLt.trans_eq hlen.symm)).trans (if_pos rfl)

theorem ainOf_updAin_ne (f : AinChan → AinChan) {k : Nat} (hk : k ≠ ch.val) : ainOf (updAin ch.val f s) k = ainOf s k := nth_updAt_ne _ _ _ hk.symm

/-- A current input is beyond its range for long enough. -/
def AinOpens (ch : Nat) (raw : Int) (us : Nat) (s : State) : Prop := ainMode s ch = 2 ∧ (ainOf s ch).openAt = none ∧ 25000 < raw ∧ 1000 ≤ us

/-- The shunt is open. -/
def ainOpened (now : Nat) (x : AinChan) : AinChan := { x with openAt := some now, low := 0 }

theorem ainOutOfRange_off (raw : Int) (us : Nat) (h : domOf s 10 ≠ .on) : exec (.ainOutOfRange ch raw us) s = .next s :=
  congrArg Host.Outcome.next (if_pos (by simpa using h))

theorem ainOutOfRange_on (hinj : s.ev.injs = []) (raw : Int) (us : Nat) (h : domOf s 10 = .on) [Decidable (AinOpens ch.val raw us s)]
    [Decidable (100 ≤ (ainOf s ch.val).low ∨ 10 ≤ (ainOf s ch.val).above)] :
    exec (.ainOutOfRange ch raw us) s = .next (
      if AinOpens ch.val raw us s then beginCond detAnalogInputOutOfRange (ch.val + 1) (data32 raw) (updAin ch.val (ainOpened s.clk.ms) s)
      else if 100 ≤ (ainOf s ch.val).low ∨ 10 ≤ (ainOf s ch.val).above then beginCond detAnalogInputOutOfRange (ch.val + 1) (data32 raw) s
      else s) := by
  show execAinOutOfRange ch raw us s = _
  unfold execAinOutOfRange
  simp only [measured_of_noInjs hinj]
  refine congrArg Host.Outcome.next ((if_neg (by rw [h]; decide)).trans (if_congr ?_ rfl (if_congr ?_ rfl rfl)))
  · simp only [AinOpens, Bool.and_eq_true, decide_eq_true_iff, Option.isNone_iff_eq_none, and_assoc]
  · rw [Bool.or_eq_true, decide_eq_true_iff, decide_eq_true_iff]

theorem ainOutOfRange_opens (hinj : s.ev.injs = []) (hlen : s.an.ains.length = 40) (raw : Int) (us : Nat) (hon : domOf s 10 = .on)
    (h : AinOpens ch.val raw us s) : ∃ t, exec (.ainOutOfRange ch raw us) s = .next t ∧ onlyIn (.an :: tells) s t ∧
      ainOf t ch.val = { ainOf s ch.val with openAt := some s.clk.ms, low := 0 } ∧ isPresent t detAnalogInputOutOfRange (ch.val + 1) = true ∧
      (∀ k : Nat, k ≠ ch.val → ainOf t k = ainOf s k) := by
  classical
  have htold := told_beginCond detAnalogInputOutOfRange (ch.val + 1) (data32 raw) (updAin ch.val (ainOpened s.clk.ms) s)
  have han := htold.frame .an (by decide)
  have hput : onlyIn [.an] s (updAin ch.val (ainOpened s.clk.ms) s) := onlyIn_put_an _ s
  exact ⟨_, (ainOutOfRange_on hinj raw us hon).trans (congrArg Host.Outcome.next (if_pos h)), onlyIn_step htold.frame rfl (onlyIn_mono hput rfl),
    (ainOf_congr han _).trans (ainOf_updAin _ hlen), isPresent_begun _ _ _ _, fun k hk => (ainOf_congr han k).trans (ainOf_updAin_ne _ hk)⟩

theorem ainOutOfRange_told (hinj : s.ev.injs = []) (raw : Int) (us : Nat) (hon : domOf s 10 = .on) (h : ¬AinOpens ch.val raw us s)
    (hlong : 100 ≤ (ainOf s ch.val).low ∨ 10 ≤ (ainOf s ch.val).above) :
    exec (.ainOutOfRange ch raw us) s = .next (beginCond detAnalogInputOutOfRange (ch.val + 1) (data32 raw) s) := by
  classical
  exact (ainOutOfRange_on hinj raw us hon).trans (congrArg Host.Outcome.next ((if_neg h).trans (if_pos hlong)))

theorem ainOutOfRange_inRange (hinj : s.ev.injs = []) (raw : Int) (us : Nat) (h : ¬AinOpens ch.val raw us s) (hlow : (ainOf s ch.val).low < 100)
    (habove : (ainOf s ch.val).above < 10) : exec (.ainOutOfRange ch raw us) s = .next s := by
  classical
  by_cases hon : domOf s 10 = .on
  · exact (ainOutOfRange_on hinj raw us hon).trans (congrArg Host.Outcome.next ((if_neg h).trans (if_neg (by omega))))
  · exact ainOutOfRange_off raw us hon

theorem ainShunt_closed (h : (ainOf s ch.val).openAt = none) : exec (.ainShuntReclose ch) s = .next s := by
  show execAinShuntReclose ch s = _
  unfold execAinShuntReclose
  rw [h]

theorem ainShunt_open (hlen : s.an.ains.length = 40) {since : Nat} (h : (ainOf s ch.val).openAt = some since) :
    (s.clk.ms < since + 1000 → exec (.ainShuntReclose ch) s = .next s) ∧
    (since + 1000 ≤ s.clk.ms → ∃ t, exec (.ainShuntReclose ch) s = .next t ∧ onlyIn [.an] s t ∧
      ainOf t ch.val = { ainOf s ch.val with openAt := none } ∧ (∀ k : Nat, k ≠ ch.val → ainOf t k = ainOf s k)) := by
  have hexec : exec (.ainShuntReclose ch) s =
      .next (if elapsed s since 1000 = true then updAin ch.val (fun y => { y with openAt := none }) s else s) := by
    show execAinShuntReclose ch s = _
    unfold execAinShuntReclose
    rw [h]
  refine ⟨fun hlt => hexec.trans (congrArg Host.Outcome.next (if_neg (by simpa [elapsed] using hlt))), fun hle => ?_⟩
  exact ⟨_, hexec.trans (congrArg Host.Outcome.next (if_pos (by simpa [elapsed] using hle))), onlyIn_put_an _ s, ainOf_updAin _ hlen,
    fun k hk => ainOf_updAin_ne _ hk⟩

end

/-! ### Frequency inputs and bridges -/

theorem fqEdge_waits {ch : Fin 24} (h : domOf s 10 ≠ .on ∨ s.clk.ms < (fqOf s ch.val).edge + 2000) : exec (.fqEdgeTimeout ch) s = .next s := by
  refine congrArg Host.Outcome.next (if_neg ?_)
  simp only [Bool.and_eq_true, beq_iff_eq, elapsed, decide_eq_true_iff]
  rintro ⟨hon, hlate⟩
  exact h.elim (· hon) (by omega)

theorem fqEdge_ends {ch : Fin 24} (hlen : s.an.fqs.length = 24) (hon : domOf s 10 = .on) (hlate : (fqOf s ch.val).edge + 2000 ≤ s.clk.ms) :
    ∃ t, exec (.fqEdgeTimeout ch) s = .next t ∧ onlyIn [.an] s t ∧ fqOf t ch.val = { fqOf s ch.val with raw := 0, still := true } ∧
      (∀ k : Nat, k ≠ ch.val → fqOf t k = fqOf s k) := by
  have hexec : exec (.fqEdgeTimeout ch) s = .next (updFq ch.val (fun x => { x with raw := 0, still := true }) s) :=
    congrArg Host.Outcome.next (if_pos (by rw [hon]; simpa [elapsed] using hlate))
  exact ⟨_, hexec, onlyIn_put_an _ s, (nth_updAt _ _ _ _ _ (ch.isLt.trans_eq hlen.symm)).trans (if_pos rfl), fun k hk => nth_updAt_ne _ _ _ hk.symm⟩

theorem bridgeFault_off {ch : Fin 6} (ma : Int) (limit : Bool) (ms : Nat) (h : domOf s 10 ≠ .on) : exec (.bridgeExcitationFault ch ma limit ms) s = .next s :=
  congrArg Host.Outcome.next (if_pos (by simpa using h))

theorem bridgeFault_on {ch : Fin 6} (hinj : s.ev.injs = []) (ma : Int) (limit : Bool) (ms : Nat) (h : domOf s 10 = .on) :
    ∃ t, exec (.bridgeExcitationFault ch ma limit ms) s = .next t ∧ onlyIn tells s t ∧ isPresent t detBridgeExcitationFault (ch.val + 1) =
      ((limit && decide (10 ≤ ms)) || decide (ma < 0) || (decide (ma < 1) && decide (10 ≤ ms))) := by
  have hexec : exec (.bridgeExcitationFault ch ma limit ms) s = .next (detect detBridgeExcitationFault (ch.val + 1)
      ((limit && decide (10 ≤ ms)) || decide (ma < 0) || (decide (ma < 1) && decide (10 ≤ ms))) 0 s) := by
    show execBridgeExcitationFault ch ma limit ms s = _
    unfold execBridgeExcitationFault
    rw [if_neg (by rw [h]; decide), forcedFor_of_noInjs hinj, Bool.false_or]
  exact ⟨_, hexec, (told_detect _ _ _ _ _).frame, isPresent_detect _ _ _ _ _⟩

/-- Settles O56: each input is judged by its own times, and only while D10 is on. -/
theorem inputsAreJudged : Obligations.InputsAreJudged := by
  unfold Obligations.InputsAreJudged
  intro s hinj hains hfqs
  exact ⟨fun ch raw us => ⟨ainOutOfRange_off raw us, ainOutOfRange_opens hinj hains raw us, ainOutOfRange_told hinj raw us,
      ainOutOfRange_inRange hinj raw us, ainShunt_closed, fun since h => ainShunt_open hains h⟩,
    fun ch => ⟨fqEdge_waits, fqEdge_ends hfqs⟩, fun ch ma limit ms => ⟨bridgeFault_off ma limit ms, bridgeFault_on hinj ma limit ms⟩⟩

end Sys2Proof.Proofs
end

section
/-!
PROOFS. The service panel: its updates, compensation, phases, guards and pin faults (R406 to R415), and O57.
-/

namespace Sys2Proof.Proofs

open Sys2Proof.Machine Sys2Proof.Safety

variable {s t u : State} {p : Panel}

/-! ### Masks of segments -/

theorem bit_maskOf (k : Nat) (f : Nat → Bool) (n : Nat) : bit (maskOf k f) n = (decide (n < k) && f n) := testBit_maskOf k f n

theorem bit_maskOr (a b n : Nat) : bit (maskOr a b) n = (bit a n || bit b n) := Nat.testBit_or a b n

theorem bit_maskMinus (a b n : Nat) : bit (maskMinus a b) n = (decide (n < 48) && (bit a n && !bit b n)) := bit_maskOf 48 _ n

theorem bit_full {n : Nat} (h : n < 48) : bit (2 ^ 48 - 1) n = true := (Nat.testBit_two_pow_sub_one 48 n).trans (decide_eq_true h)

theorem mem_segsOf {mask n : Nat} : n ∈ segsOf mask ↔ n < 48 ∧ bit mask n = true := by
  rw [segsOf, List.mem_filter, List.mem_range]

theorem segsOf_eq_nil {mask : Nat} (h : ∀ n : Nat, 48 ≤ n → bit mask n = false) : segsOf mask = [] ↔ mask = 0 := by
  refine ⟨fun hnil => Nat.eq_of_testBit_eq fun n => ?_, fun hzero => ?_⟩
  · rw [Nat.zero_testBit]
    by_cases hn : n < 48
    · rw [← Bool.not_eq_true]
      exact fun hb => List.not_mem_nil (hnil ▸ mem_segsOf.mpr ⟨hn, hb⟩)
    · exact h n (by omega)
  · rw [hzero, List.eq_nil_iff_forall_not_mem]
    intro n hn
    have hbit := (mem_segsOf.mp hn).2
    rw [bit, Nat.zero_testBit] at hbit
    exact absurd hbit (by decide)

/-! ### The next phase -/

/-- What a phase drives rests on the plan alone. -/
theorem nextPhase_congr {q : Panel} (hphase : q.phase = p.phase) (hplan : ∀ n, phaseDrive { q with phase := n } = phaseDrive { p with phase := n }) :
    nextPhase q = nextPhase p := by
  unfold nextPhase
  simp only [hphase, hplan]

/-- The driven time of a segment booked. -/
def bookSeg (which : Nat → Bool) (us : Nat) (p q : Panel) (d : Nat × Int × Nat) : Panel :=
  if which d.1 then { q with ledgers := updAt q.ledgers d.1 (fun l => ledgerAdd l d.2.1 p.vp (min us d.2.2)) } else q

theorem bookSegs_ledgers (which : Nat → Bool) (us : Nat) (p : Panel) (ds : List (Nat × Int × Nat)) (q : Panel) :
    ds.foldl (bookSeg which us p) q = { q with ledgers := (ds.foldl (bookSeg which us p) q).ledgers } := by
  induction ds generalizing q with
  | nil => rfl
  | cons d ds ih =>
    rw [List.foldl_cons, ih]
    unfold bookSeg
    split <;> rfl

/-- Booking a phase changes ledgers alone. -/
theorem bookPhase_ledgers (which : Nat → Bool) (us : Nat) (p : Panel) : bookPhase which us p = { p with ledgers := (bookPhase which us p).ledgers } :=
  bookSegs_ledgers which us p (phaseDrive p) p

/-! ### An update starts (R407 to R409) -/

/-- The segments that the update about to start drives. -/
def updateChange (p : Panel) : Nat :=
  if panelRefresh p then maskMinus (2 ^ 48 - 1) p.dead else maskMinus (p.target ^^^ p.displayed) p.dead

/-- Those of them that turn dark. -/
def updateDark (p : Panel) : Nat := maskOf 48 (fun n => bit (updateChange p) n && bit p.target n)

/-- Those of them that turn light. -/
def updateLight (p : Panel) : Nat := maskMinus (updateChange p) (updateDark p)

/-- The update's plan, before its first phase. -/
def updatePlan (s : State) : State := updSp (fun p => { p with
  st := .update, phase := 0, vp := (panelBand (panelTemp s)).1, t := (panelBand (panelTemp s)).2 * paramN s pSpTScale / 100, temp := panelTemp s
  dark := updateDark s.sp, light := updateLight s.sp
  running := p.waiting, waiting := none, refresh := false, started := some s.clk.ms }) s

/-- An update with nothing to drive ends at once. -/
def updateIdle (now : Nat) (s : State) : State := updSp (fun p => { p with st := .idle, phase := 0, running := none, ended := some now }) s

theorem startUpdate_eq (at' : Nat) (s : State) : startUpdate at' s = match nextPhase (updatePlan s).sp with
    | some n => startPhase n at' (updatePlan s)
    | none => updateIdle s.clk.ms (updatePlan s) := rfl

theorem bit_updateChange {n : Nat} (hn : n < 48) (p : Panel) :
    bit (updateChange p) n = true ↔ bit p.dead n = false ∧ (panelRefresh p = true ∨ bit p.target n ≠ bit p.displayed n) := by
  unfold updateChange
  cases hr : panelRefresh p with
  | true =>
    rw [if_pos rfl, bit_maskMinus, bit_full hn]
    simp [hn]
  | false =>
    have hxor : bit (p.target ^^^ p.displayed) n = (bit p.target n ^^ bit p.displayed n) := Nat.testBit_xor _ _ _
    rw [if_neg (by decide), bit_maskMinus, hxor]
    cases bit p.target n <;> cases bit p.displayed n <;> simp [hn]

theorem bit_updateDark {n : Nat} (hn : n < 48) (p : Panel) : bit (updateDark p) n = (bit (updateChange p) n && bit p.target n) := by
  rw [updateDark, bit_maskOf, decide_eq_true hn, Bool.true_and]

theorem bit_updateLight {n : Nat} (hn : n < 48) (p : Panel) : bit (updateLight p) n = (bit (updateChange p) n && !bit p.target n) := by
  rw [updateLight, bit_maskMinus, bit_updateDark hn, decide_eq_true hn]
  cases bit (updateChange p) n <;> cases bit p.target n <;> rfl

theorem updateMasks_bounded (p : Panel) {n : Nat} (hn : 48 ≤ n) : bit (updateDark p) n = false ∧ bit (updateLight p) n = false := by
  have hno : decide (n < 48) = false := decide_eq_false (by omega)
  exact ⟨by rw [updateDark, bit_maskOf, hno, Bool.false_and], by rw [updateLight, bit_maskMinus, hno, Bool.false_and]⟩

/-- The first phase of an update: the first that drives something, and none where nothing is to be driven. -/
theorem nextPhase_first {q : Panel} (hphase : q.phase = 0) (hbound : ∀ n : Nat, 48 ≤ n → bit q.dark n = false ∧ bit q.light n = false) :
    ((q.dark ≠ 0 ∨ q.light ≠ 0) → ∃ n, nextPhase q = some n ∧ 1 ≤ n ∧ n ≤ 2) ∧ (q.dark = 0 → q.light = 0 → nextPhase q = none) := by
  have hlater : nextPhase q = [1, 2, 3].find? (fun n => !(phaseDrive { q with phase := n }).isEmpty) := by
    unfold nextPhase
    rw [hphase]
    rfl
  have h1 : (phaseDrive { q with phase := 1 }).isEmpty = (segsOf q.light).isEmpty := List.isEmpty_map
  have h2 : (phaseDrive { q with phase := 2 }).isEmpty = (segsOf (maskOr q.dark q.light)).isEmpty := List.isEmpty_map
  have h3 : (phaseDrive { q with phase := 3 }).isEmpty = (segsOf q.dark).isEmpty := List.isEmpty_map
  have hlight := segsOf_eq_nil (mask := q.light) (fun n hn => (hbound n hn).2)
  have hboth := segsOf_eq_nil (mask := maskOr q.dark q.light) (fun n hn => by rw [bit_maskOr, (hbound n hn).1, (hbound n hn).2]; rfl)
  refine ⟨fun hsome => ?_, fun hd hl => ?_⟩
  · by_cases hl : q.light = 0
    · have hd : q.dark ≠ 0 := hsome.resolve_right (· hl)
      have hor : maskOr q.dark q.light ≠ 0 := by
        rw [hl]
        simpa [maskOr] using hd
      refine ⟨2, ?_, by decide, by decide⟩
      rw [hlater, List.find?_cons_of_neg (by rw [h1, hlight.mpr hl]; decide), List.find?_cons_of_pos]
      rw [h2, Bool.not_eq_true', List.isEmpty_eq_false_iff]
      exact fun h => hor (hboth.mp h)
    · refine ⟨1, ?_, by decide, by decide⟩
      rw [hlater, List.find?_cons_of_pos]
      rw [h1, Bool.not_eq_true', List.isEmpty_eq_false_iff]
      exact fun h => hl (hlight.mp h)
  · have hzero : segsOf 0 = [] := by decide
    rw [hlater, List.find?_eq_none]
    intro n hn
    simp only [List.mem_cons, List.not_mem_nil, or_false] at hn
    rcases hn with rfl | rfl | rfl
    · rw [h1, hl, hzero]
      decide
    · rw [h2, hd, hl]
      decide
    · rw [h3, hd, hzero]
      decide

/-- What a started update leaves. -/
structure UpdateStarted (now : Nat) (s t : State) : Prop where
  frame : onlyIn [.sp] s t
  vp : t.sp.vp = (panelBand (panelTemp s)).1
  time : t.sp.t = (panelBand (panelTemp s)).2 * paramN s pSpTScale / 100
  begun : t.sp.started = some s.clk.ms ∧ t.sp.waiting = none ∧ t.sp.refresh = false
  images : t.sp.target = s.sp.target ∧ t.sp.displayed = s.sp.displayed ∧ t.sp.ledgers = s.sp.ledgers
  plan : t.sp.dark = updateDark s.sp ∧ t.sp.light = updateLight s.sp
  drives : (t.sp.dark ≠ 0 ∨ t.sp.light ≠ 0) → t.sp.st = .update ∧ t.sp.since = now ∧ 1 ≤ t.sp.phase ∧ t.sp.phase ≤ 2
  idle : t.sp.dark = 0 → t.sp.light = 0 → t.sp.st = .idle ∧ t.sp.phase = 0

theorem startUpdate_started (now : Nat) (s : State) : UpdateStarted now s (startUpdate now s) := by
  obtain ⟨hsome, hnone⟩ := nextPhase_first (q := (updatePlan s).sp) rfl (fun n hn => updateMasks_bounded s.sp hn)
  have hput : onlyIn [.sp] s (updatePlan s) := onlyIn_put_sp _ s
  rw [startUpdate_eq]
  cases hnext : nextPhase (updatePlan s).sp with
  | some n =>
    dsimp only
    refine ⟨onlyIn_step (onlyIn_put_sp _ _) rfl hput, rfl, rfl, ⟨rfl, rfl, rfl⟩, ⟨rfl, rfl, rfl⟩, ⟨rfl, rfl⟩, fun h => ?_, fun hd hl => ?_⟩
    · obtain ⟨m, hm, h1, h2⟩ := hsome h
      obtain rfl : n = m := Option.some.inj (hnext.symm.trans hm)
      exact ⟨rfl, rfl, h1, h2⟩
    · exact absurd ((hnone hd hl).symm.trans hnext) (by simp)
  | none =>
    dsimp only
    refine ⟨onlyIn_step (onlyIn_put_sp _ _) rfl hput, rfl, rfl, ⟨rfl, rfl, rfl⟩, ⟨rfl, rfl, rfl⟩, ⟨rfl, rfl⟩, fun h => ?_, fun _ _ => ⟨rfl, rfl⟩⟩
    obtain ⟨m, hm, -⟩ := hsome h
    exact absurd (hnext.symm.trans hm) (by simp)

/-- The segments of a started update: those alive that differ, or every one of a refresh, each toward its target. -/
theorem updatePlan_segments (p : Panel) {n : Nat} (hn : n < 48) :
    (bit (updateDark p) n = true ∨ bit (updateLight p) n = true ↔
      bit p.dead n = false ∧ (panelRefresh p = true ∨ bit p.target n ≠ bit p.displayed n)) ∧
    (bit (updateDark p) n = true → bit p.target n = true) ∧ (bit (updateLight p) n = true → bit p.target n = false) := by
  rw [bit_updateDark hn, bit_updateLight hn, ← bit_updateChange hn]
  cases bit (updateChange p) n <;> cases bit p.target n <;> simp

/-! ### Compensation starts (R413) -/

/-- The segments whose ledger a test selects. -/
def owedSegs (sel : Int → Bool) (s : State) : List Nat := (segsOf (maskMinus (2 ^ 48 - 1) s.sp.dead)).filter (fun n => sel (ledgerOf s n))

/-- Their compensation times. -/
def compTimes (s : State) (ns : List Nat) : List (Nat × Nat) := ns.map (fun n => (n, compTime (ledgerOf s n) (panelBand (panelTemp s)).1))

/-- The two phases of a compensation. -/
def compFirst (s : State) : List (Nat × Nat) := compTimes s (owedSegs (fun l => decide (l ≤ -(paramN s pSpLedgerMin : Int))) s)
def compSecond (s : State) : List (Nat × Nat) := compTimes s (owedSegs (fun l => decide ((paramN s pSpLedgerMin : Int) ≤ l)) s)

/-- The segments of a compensation, marked. -/
def compMarks (s : State) : Nat := maskOf 48 (fun n => (compFirst s ++ compSecond s).any (fun c => c.1 == n))

theorem startComp_eq (at' : Nat) (s : State) : startComp at' s = startPhase (if (compFirst s).isEmpty then 5 else 4) at' (updSp (fun p => { p with
    st := .compensate, vp := (panelBand (panelTemp s)).1, t := (panelBand (panelTemp s)).2 * paramN s pSpTScale / 100, temp := panelTemp s
    c1 := compFirst s, c2 := compSecond s, dark := 0, light := 0, uncertain := maskOr p.uncertain (compMarks s) }) s) := rfl

theorem mem_compTimes {s : State} {sel : Int → Bool} {n d : Nat} (h : (n, d) ∈ compTimes s (owedSegs sel s)) :
    n < 48 ∧ bit s.sp.dead n = false ∧ sel (ledgerOf s n) = true ∧ d = compTime (ledgerOf s n) (panelBand (panelTemp s)).1 := by
  obtain ⟨k, hk, hpair⟩ := List.mem_map.mp h
  obtain ⟨rfl, rfl⟩ := Prod.mk.inj hpair
  obtain ⟨hseg, hsel⟩ := List.mem_filter.mp hk
  obtain ⟨hlt, hbit⟩ := mem_segsOf.mp hseg
  rw [bit_maskMinus, decide_eq_true hlt, bit_full hlt, Bool.true_and, Bool.true_and, Bool.not_eq_true'] at hbit
  exact ⟨hlt, hbit, hsel, rfl⟩

theorem mem_compensated {n d : Nat} (h : (n, d) ∈ compFirst s ++ compSecond s) : d = compTime (ledgerOf s n) (panelBand (panelTemp s)).1 ∧
    bit s.sp.dead n = false ∧ bit (maskOr s.sp.uncertain (compMarks s)) n = true ∧ paramN s pSpLedgerMin ≤ (ledgerOf s n).natAbs := by
  have hmark : n < 48 → bit (maskOr s.sp.uncertain (compMarks s)) n = true := fun hlt => by
    rw [bit_maskOr, compMarks, bit_maskOf, decide_eq_true hlt, Bool.true_and, Bool.or_eq_true]
    exact .inr (List.any_eq_true.mpr ⟨(n, d), h, by simp⟩)
  rcases List.mem_append.mp h with h1 | h2
  · obtain ⟨hlt, hdead, hsel, hd⟩ := mem_compTimes h1
    have := of_decide_eq_true hsel
    exact ⟨hd, hdead, hmark hlt, by omega⟩
  · obtain ⟨hlt, hdead, hsel, hd⟩ := mem_compTimes h2
    have := of_decide_eq_true hsel
    exact ⟨hd, hdead, hmark hlt, by omega⟩

/-! ### PANEL_UPDATE_START (R409, R410, R414) -/

theorem panelMayDrive_iff (s : State) : panelMayDrive s = true ↔ (s.pw.vsupReduced = false ∧ s.pw.sb.ph = .awake) := by
  rw [panelMayDrive, Bool.and_eq_true, Bool.not_eq_true', beq_iff_eq]

theorem panelStart_waits (us : Fin 1000) (h : s.sp.st ≠ .idle ∨ ¬panelMayDrive s = true ∨ Machine.panelDue s = false) :
    exec (.panelUpdateStart us) s = .next s := by
  refine congrArg Host.Outcome.next (if_neg ?_)
  rw [Bool.and_eq_true, Bool.and_eq_true, decide_eq_true_iff]
  rintro ⟨⟨hst, hmay⟩, hdue⟩
  rcases h with h | h | h
  · exact h hst
  · exact h hmay
  · exact absurd (hdue.symm.trans h) (by decide)

theorem panelStart_now (us : Fin 1000) (hst : s.sp.st = .idle) (hmay : panelMayDrive s = true) (hdue : Machine.panelDue s = true) :
    exec (.panelUpdateStart us) s = .next (if ledgerOwed s = true then startComp (usNow s us.val) s else startUpdate (usNow s us.val) s) := by
  refine congrArg Host.Outcome.next ((if_pos (by rw [hst, hmay, hdue]; rfl)).trans ?_)
  cases ledgerOwed s <;> rfl

end Sys2Proof.Proofs
end

section
/-!
PROOFS. A phase's end, its guard and pin faults of the service panel (R407, R410 to R415), and O57.
-/

namespace Sys2Proof.Proofs

open Sys2Proof.Machine Sys2Proof.Safety

variable {s t u : State}

/-! ### The end of a phase (R407, R411, R413) -/

/-- The panel runs a plan. -/
def PanelRuns (p : Panel) : Prop := p.st = .compensate ∨ p.st = .update

/-- A phase has had its time. -/
def PhaseDone (now : Nat) (p : Panel) : Prop := PanelRuns p ∧ p.phase ≠ 0 ∧ p.guard = false ∧ p.since + phaseTime p ≤ now

/-- The panel with the phase booked and its guard begun. -/
def phaseBooked (now : Nat) (p : Panel) : Panel := { p with
  ledgers := (bookPhase (fun _ => true) (phaseTime p) p).ledgers, displayed := phaseShown p, guard := true, since := now }

/-- The phase booked and its ledgers judged. -/
def phaseJudged (now : Nat) (s : State) : State := judgeLedgers (updSp (fun p =>
  { bookPhase (fun _ => true) (phaseTime p) p with displayed := phaseShown p, guard := true, since := now }) s)

/-- A phase that is not the last: compensation's last is copied, and the panel pauses where it may not drive. -/
def phasePaused (x : State) : State :=
  if panelMayDrive x then x else updSp (fun p => { p with st := .paused }) x

/-- What follows a phase. -/
def phaseOver (x : State) : State :=
  if x.sp.st = .update && (nextPhase x.sp).isNone then updateDone x
  else phasePaused (if x.sp.st = .compensate && (nextPhase x.sp).isNone then updSp panelCopy x else x)

theorem phaseEnd_eq (us : Fin 1000) (s : State) [Decidable (PhaseDone (usNow s us.val) s.sp)] : exec (.panelPhaseEnd us) s =
    .next (if PhaseDone (usNow s us.val) s.sp then phaseOver (phaseJudged (usNow s us.val) s) else s) := by
  refine congrArg Host.Outcome.next (if_congr ?_ rfl rfl)
  simp only [PhaseDone, PanelRuns, Bool.and_eq_true, Bool.or_eq_true, decide_eq_true_iff, bne_iff_ne, Bool.not_eq_true', and_assoc]

theorem phaseJudged_kept (now : Nat) (s : State) : onlyIn (.sp :: tells) s (phaseJudged now s) ∧ (phaseJudged now s).sp = phaseBooked now s.sp := by
  have htold := told_judgeLedgers (updSp (fun p =>
    { bookPhase (fun _ => true) (phaseTime p) p with displayed := phaseShown p, guard := true, since := now }) s)
  have hbook : (updSp (fun p => { bookPhase (fun _ => true) (phaseTime p) p with displayed := phaseShown p, guard := true, since := now }) s).sp =
      phaseBooked now s.sp := by
    rw [updSp_sp, bookPhase_ledgers]
    rfl
  exact ⟨onlyIn_step htold.frame rfl (onlyIn_mono (onlyIn_put_sp _ s) rfl), (htold.frame .sp (by decide)).trans hbook⟩

theorem nextPhase_booked (now : Nat) (p : Panel) : nextPhase (phaseBooked now p) = nextPhase p := nextPhase_congr rfl fun _ => rfl

theorem phasePaused_frame (x : State) : onlyIn [.sp] x (phasePaused x) := by
  unfold phasePaused
  split
  · exact onlyIn_refl _ _
  · exact onlyIn_put_sp _ x

theorem phaseOver_frame (x : State) : onlyIn [.sp] x (phaseOver x) := by
  have hput : ∀ f : Panel → Panel, onlyIn [.sp] x (updSp f x) := fun _ => onlyIn_put_sp _ x
  unfold phaseOver
  split
  · exact hput _
  · refine onlyIn_step (phasePaused_frame _) rfl ?_
    split
    · exact hput _
    · exact onlyIn_refl _ _

/-- A phase leaves what it has booked and shown. -/
theorem phaseOver_kept (x : State) : (phaseOver x).sp.ledgers = x.sp.ledgers ∧ (phaseOver x).sp.displayed = x.sp.displayed ∧
    (phaseOver x).sp.target = x.sp.target ∧ (phaseOver x).sp.dead = x.sp.dead := by
  unfold phaseOver phasePaused
  split
  · exact ⟨rfl, rfl, rfl, rfl⟩
  · split <;> split <;> exact ⟨rfl, rfl, rfl, rfl⟩

/-- The last phase of an update completes it. -/
theorem phaseOver_last {x : State} (hst : x.sp.st = .update) (hnext : nextPhase x.sp = none) : phaseOver x = updateDone x :=
  if_pos (by rw [hst, hnext]; rfl)

/-- Any other phase goes into its guard. -/
theorem phaseOver_guard {x : State} (h : x.sp.st = .compensate ∨ nextPhase x.sp ≠ none) : (phaseOver x).sp.guard = x.sp.guard ∧
    (phaseOver x).sp.since = x.sp.since ∧ (phaseOver x).sp.phase = x.sp.phase ∧
    (phaseOver x).sp.st = if panelMayDrive x then x.sp.st else .paused := by
  have hno : ¬(decide (x.sp.st = .update) && (nextPhase x.sp).isNone) = true := by
    rw [Bool.and_eq_true, decide_eq_true_iff, Option.isNone_iff_eq_none]
    rintro ⟨hst, hnone⟩
    rcases h with h | h
    · exact absurd (h.symm.trans hst) (by decide)
    · exact h hnone
  have hmay : panelMayDrive (if (decide (x.sp.st = .compensate) && (nextPhase x.sp).isNone) = true then updSp panelCopy x else x) = panelMayDrive x := by
    split <;> rfl
  unfold phaseOver
  rw [if_neg hno, phasePaused, hmay]
  split <;> split <;> exact ⟨rfl, rfl, rfl, rfl⟩

theorem phaseEnd_acts (us : Fin 1000) : (¬PhaseDone (usNow s us.val) s.sp → exec (.panelPhaseEnd us) s = .next s) ∧
    (PhaseDone (usNow s us.val) s.sp → ∃ t, exec (.panelPhaseEnd us) s = .next t ∧ onlyIn (.sp :: tells) s t ∧
      t.sp.ledgers = (bookPhase (fun _ => true) (phaseTime s.sp) s.sp).ledgers ∧ t.sp.displayed = phaseShown s.sp ∧ t.sp.target = s.sp.target ∧
      t.sp.dead = s.sp.dead ∧
      (s.sp.st = .update → nextPhase s.sp = none → t.sp.st = .idle ∧ t.sp.phase = 0 ∧ t.sp.completed = wrapU 32 (s.sp.completed + 1) ∧
        t.sp.uncertain = 0 ∧ t.sp.running = none ∧ t.sp.lastDone = s.sp.running.getD s.sp.lastDone ∧ t.sp.ended = some s.clk.ms ∧
        t.sp.copy = ⟨t.sp.displayed, t.sp.target, 0, t.sp.ledgers⟩) ∧
      ((s.sp.st = .compensate ∨ nextPhase s.sp ≠ none) → t.sp.guard = true ∧ t.sp.since = usNow s us.val ∧ t.sp.phase = s.sp.phase ∧
        t.sp.st = (if panelMayDrive s then s.sp.st else .paused))) := by
  classical
  have hexec := phaseEnd_eq us s
  refine ⟨fun h => hexec.trans (congrArg Host.Outcome.next (if_neg h)), fun h => ?_⟩
  rw [if_pos h] at hexec
  obtain ⟨hframe, hsp⟩ := phaseJudged_kept (usNow s us.val) s
  have hnext := nextPhase_booked (usNow s us.val) s.sp
  generalize hx : phaseJudged (usNow s us.val) s = x at *
  obtain ⟨hledgers, hshown, htarget, hdead⟩ := phaseOver_kept x
  rw [hsp] at hledgers hshown htarget hdead
  refine ⟨_, hexec, onlyIn_step (phaseOver_frame x) rfl hframe, hledgers, hshown, htarget, hdead, fun hst hnone => ?_, fun hmore => ?_⟩
  · have hclk : x.clk = s.clk := hframe .clk (by decide)
    have hlast := phaseOver_last (x := x) (by rw [hsp]; exact hst) (by rw [hsp, hnext]; exact hnone)
    rw [hlast]
    refine ⟨rfl, rfl, ?_, rfl, rfl, ?_, ?_, rfl⟩
    · show wrapU 32 (x.sp.completed + 1) = _
      rw [hsp]
      rfl
    · show x.sp.running.getD x.sp.lastDone = _
      rw [hsp]
      rfl
    · show some x.clk.ms = _
      rw [hclk]
  · obtain ⟨hguard, hsince, hphase, hst⟩ := phaseOver_guard (x := x) (by rw [hsp, hnext]; exact hmore)
    have hmay : panelMayDrive x = panelMayDrive s := by
      unfold panelMayDrive
      rw [hframe .pw (by decide)]
    rw [hsp] at hguard hsince hphase hst
    rw [hmay] at hst
    exact ⟨hguard, hsince, hphase, hst⟩

/-! ### The guard (R407, R413) -/

/-- A guard has had its millisecond and the panel may drive. -/
def GuardDone (now : Nat) (s : State) : Prop := PanelRuns s.sp ∧ s.sp.guard = true ∧ s.sp.since + 1000 ≤ now ∧ panelMayDrive s = true

theorem guardEnd_waits (us : Fin 1000) (h : ¬GuardDone (usNow s us.val) s) : exec (.panelGuardEnd us) s = .next s := by
  refine congrArg Host.Outcome.next (if_neg ?_)
  simp only [Bool.and_eq_true, Bool.or_eq_true, decide_eq_true_iff, and_assoc]
  exact h

theorem guardEnd_now (us : Fin 1000) (h : GuardDone (usNow s us.val) s) : exec (.panelGuardEnd us) s = .next (match nextPhase s.sp with
    | some n => startPhase n (usNow s us.val) s
    | none => if s.sp.st = .compensate then startUpdate (usNow s us.val) s else updateDone s) := by
  refine congrArg Host.Outcome.next (if_pos ?_)
  simp only [Bool.and_eq_true, Bool.or_eq_true, decide_eq_true_iff, and_assoc]
  exact h

theorem guardEnd_goes (us : Fin 1000) {n : Nat} (h : GuardDone (usNow s us.val) s) (hnext : nextPhase s.sp = some n) :
    exec (.panelGuardEnd us) s = .next { s with sp := { s.sp with
      phase := n
      guard := false
      since := usNow s us.val } } := by
  rw [guardEnd_now us h, hnext]
  rfl

theorem guardEnd_updates (us : Fin 1000) (h : GuardDone (usNow s us.val) s) (hnext : nextPhase s.sp = none) (hst : s.sp.st = .compensate) :
    ∃ t, exec (.panelGuardEnd us) s = .next t ∧ onlyIn [.sp] s t ∧ t.sp.started = some s.clk.ms ∧ t.sp.ledgers = s.sp.ledgers := by
  obtain ⟨hframe, -, -, ⟨hbegun, -, -⟩, ⟨-, -, hledgers⟩, -, -, -⟩ := startUpdate_started (usNow s us.val) s
  refine ⟨_, ?_, hframe, hbegun, hledgers⟩
  rw [guardEnd_now us h, hnext]
  exact congrArg Host.Outcome.next (if_pos hst)

/-! ### Pin faults (R415, Table 16-4) -/

/-- The panel in fault: what ran is booked. -/
def panelFaulted (now : Nat) (p : Panel) : Panel :=
  { (if p.st = .compensate || p.st = .update || p.st = .paused then { panelAbandon now p with broken := none, interrupted := p.interrupted } else p) with
    st := .fault, phase := 0, guard := false }

/-- The time of segment `n` so far is booked. -/
def segBooked (now n : Nat) (p : Panel) : Panel :=
  if (p.st = .compensate || p.st = .update || p.st = .paused) && !p.guard then bookPhase (fun k => k == n) (now - p.since) p else p

/-- The panel without segment `n`. -/
def segLost (now n : Nat) (p : Panel) : Panel := { segBooked now n p with
  dead := maskOr (segBooked now n p).dead (2 ^ n), dark := maskMinus (segBooked now n p).dark (2 ^ n)
  light := maskMinus (segBooked now n p).light (2 ^ n)
  c1 := (segBooked now n p).c1.filter (fun c => c.1 != n), c2 := (segBooked now n p).c2.filter (fun c => c.1 != n) }

/-- A driver's fault is told. -/
def pinTold (pin : Nat) (s : State) : State := happen detSegmentDriverFault pin 0 s

theorem updSp_pinTold (pin : Nat) {f : Panel → Panel} {q : Panel} (h : f s.sp = q) : updSp f (pinTold pin s) = { pinTold pin s with sp := q } := by
  have hsp : (pinTold pin s).sp = s.sp := (told_happen detSegmentDriverFault pin 0 s).frame .sp (by decide)
  rw [updSp, hsp, h]

theorem pinFault_top (pin : Fin 50) (us : Fin 1000) (h : pin.val = 49) : exec (.panelPinFault pin us) s =
    .next { pinTold pin.val s with sp := panelFaulted (usNow s us.val) s.sp } :=
  congrArg Host.Outcome.next ((if_neg (by omega)).trans ((if_pos h).trans (updSp_pinTold pin.val rfl)))

theorem pinFault_seg (pin : Fin 50) (us : Fin 1000) (h0 : pin.val ≠ 0) (h49 : pin.val ≠ 49) : exec (.panelPinFault pin us) s =
    .next { pinTold pin.val s with sp := segLost (usNow s us.val) (pin.val - 1) s.sp } :=
  congrArg Host.Outcome.next ((if_neg h0).trans ((if_neg h49).trans (updSp_pinTold pin.val rfl)))

theorem segBooked_ledgers (now n : Nat) (p : Panel) : segBooked now n p = { p with ledgers := (segBooked now n p).ledgers } := by
  unfold segBooked
  split
  · exact bookPhase_ledgers _ _ p
  · rfl

theorem segLost_kept (now n : Nat) (p : Panel) : (segLost now n p).st = p.st ∧ (segLost now n p).dead = maskOr p.dead (2 ^ n) ∧
    (segLost now n p).target = p.target ∧ (segLost now n p).displayed = p.displayed ∧
    ∀ k d : Nat, (k, d) ∈ (segLost now n p).c1 ++ (segLost now n p).c2 → k ≠ n := by
  have hbook := segBooked_ledgers now n p
  have hlost : ∀ l : List (Nat × Nat), ∀ k d : Nat, (k, d) ∈ l.filter (fun c => c.1 != n) → k ≠ n := fun _ _ _ h =>
    bne_iff_ne.mp (List.mem_filter.mp h).2
  have hst : (segBooked now n p).st = p.st := by rw [hbook]
  have hdead : (segBooked now n p).dead = p.dead := by rw [hbook]
  have htarget : (segBooked now n p).target = p.target := by rw [hbook]
  have hshown : (segBooked now n p).displayed = p.displayed := by rw [hbook]
  exact ⟨hst, congrArg (maskOr · (2 ^ n)) hdead, htarget, hshown,
    fun k d h => (List.mem_append.mp h).elim (hlost _ k d) (hlost _ k d)⟩

theorem pinFault_acts (pin : Fin 50) (us : Fin 1000) (h : pin.val ≠ 0) : ∃ t, exec (.panelPinFault pin us) s = .next t ∧ onlyIn (.sp :: tells) s t ∧
    (pin.val = 49 → t.sp.st = .fault ∧ t.sp.phase = 0 ∧ t.sp.guard = false) ∧
    (pin.val < 49 → t.sp.st = s.sp.st ∧ t.sp.dead = maskOr s.sp.dead (2 ^ (pin.val - 1)) ∧ t.sp.target = s.sp.target ∧ t.sp.displayed = s.sp.displayed ∧
      (∀ n d : Nat, (n, d) ∈ t.sp.c1 ++ t.sp.c2 → n ≠ pin.val - 1)) := by
  have htold : Told s (pinTold pin.val s) := told_happen _ _ _ _
  have hput : ∀ q : Panel, onlyIn (.sp :: tells) s { pinTold pin.val s with sp := q } := fun q =>
    onlyIn_step (onlyIn_put_sp q _) rfl (onlyIn_mono htold.frame rfl)
  by_cases h49 : pin.val = 49
  · exact ⟨_, pinFault_top pin us h49, hput _, fun _ => ⟨rfl, rfl, rfl⟩, fun hlt => absurd h49 (by omega)⟩
  · exact ⟨_, pinFault_seg pin us h h49, hput _, fun heq => absurd heq h49, fun _ => segLost_kept _ _ _⟩

/-- Settles O57: updates, phases, guards and pin faults of the panel, each with its condition. -/
theorem panelDrivesSegments : Obligations.PanelDrivesSegments := by
  unfold Obligations.PanelDrivesSegments
  intro us s
  refine ⟨panelMayDrive_iff s, panelStart_waits us, fun hst hmay hdue => ⟨fun howed => ?_, fun howed => ?_⟩,
    ⟨(phaseEnd_acts us).1, fun hdone _ => (phaseEnd_acts us).2 hdone⟩,
    ⟨guardEnd_waits us, fun n hdone hnext => guardEnd_goes us hdone hnext, guardEnd_updates us⟩,
    fun pin => ⟨fun h => congrArg Host.Outcome.next (if_pos h), pinFault_acts pin us⟩⟩
  · have hexec := (panelStart_now us hst hmay hdue).trans (congrArg Host.Outcome.next (if_pos howed))
    rw [startComp_eq] at hexec
    refine ⟨_, hexec, onlyIn_step (onlyIn_put_sp _ _) rfl (onlyIn_put_sp _ s), rfl, rfl, rfl, rfl, ?_, rfl, fun n d h => mem_compensated h⟩
    show (if (compFirst s).isEmpty then 5 else 4) = 4 ∨ (if (compFirst s).isEmpty then 5 else 4) = 5
    split
    · exact .inr rfl
    · exact .inl rfl
  · have hexec := (panelStart_now us hst hmay hdue).trans (congrArg Host.Outcome.next (if_neg (by rw [howed]; decide)))
    obtain ⟨hframe, hvp, htime, ⟨hbegun, hwaiting, hrefresh⟩, ⟨htarget, hshown, -⟩, ⟨hdark, hlight⟩, hdrives, hidle⟩ :=
      startUpdate_started (usNow s us.val) s
    refine ⟨_, hexec, hframe, hvp, htime, hbegun, hwaiting, hrefresh, htarget, hshown, fun n hn => ?_, fun n hn => ?_, hdrives, hidle⟩
    · rw [hdark, hlight]
      exact (updatePlan_segments s.sp hn).1
    · rw [hdark, hlight]
      exact (updatePlan_segments s.sp hn).2

end Sys2Proof.Proofs
end
